-- ==== Sys2Proof/Word.lean ====
section
/-!
DEFINITION. The word types of the block: 32-bit registers (R5), bytes, and sparse tables keyed by a number.
-/
namespace Sys2Proof

/-- A register word: every register of the block is 32 bits ("Registers", 00_scope.md). -/
abbrev Word := BitVec 32

/-- A byte of Hold, of a packet or of a record. -/
abbrev Byte := BitVec 8

/-- A sparse table: entries in strictly rising key order. -/
abbrev Tab (α : Type) := List (Nat × α)

end Sys2Proof
end

