-- ==== Sys2Proof/Syntax.lean ====
section
/-!
DEFINITION. The commands of the block: one constructor of Instr per row of spec/opcode_table.json, with the records its
operands carry. Every command's first operand dt is the number of core clocks (1.25 ns) that pass before it acts
(DESIGN CHOICE, log entry 1).
-/
namespace Sys2Proof

/-- Who reaches a register: the requesters of R526, and the manifest's boot-time writes (R498). -/
inductive Requester where
  | pier
  | qmp (session : Nat)
  | cue
  | waybill
  | relay (node : Nat)
  | boot
  deriving DecidableEq, Repr

/-- The data set an Announce message carries, in the order the default best master clock algorithm compares it
(R49, IEEE 1588-2019): a lower value is better. -/
structure PtpDataset where
  priority1 : Nat
  clockClass : Nat
  accuracy : Nat
  variance : Nat
  priority2 : Nat
  identity : Nat
  steps : Nat
  sender : Nat
  deriving DecidableEq, Repr

/-- A PTP message as the engine uses it (R49 to R51). Times are in units of 2⁻¹⁶ ns. -/
inductive PtpMessage where
  /-- Announce with its data set. -/
  | announce (ds : PtpDataset)
  /-- Sync with its origin time and correction; the receive stamp is the ledger. -/
  | sync (origin : Int) (correction : Int) (twoStep : Bool)
  /-- Follow_Up with the precise origin time of the last Sync. -/
  | followUp (origin : Int) (correction : Int)
  /-- Delay_Req from a slave, whose port identity it gives; sent by unicast or not. -/
  | delayReq (requester : Nat) (unicast : Bool)
  /-- Delay_Resp to the port's own Delay_Req. -/
  | delayResp (received : Int) (correction : Int)
  /-- The ST 2059-2 synchronisation metadata of a Management TLV, as its bytes. -/
  | metadata (bytes : List Byte)
  deriving DecidableEq, Repr

/-- An LTC frame rate of R72, coded as TIME_LTC_STAT.RATE (1 to 5). -/
abbrev LtcRate := Fin 6

/-- A sample row data header of an ST 2110-20 packet (R79, R80): row, offset in pixels, length in octets and field bit. -/
structure Srd where
  row : Nat
  offset : Nat
  length : Nat
  field : Bool
  deriving DecidableEq, Repr

/-- An ST 2110-20 packet: its 32-bit extended sequence number, RTP timestamp and payload type, its headers and its
sample octets (R79 to R83). -/
structure RtpPacket where
  seq : Nat
  rtp : Nat
  payloadType : Nat
  srds : List Srd
  payload : List Byte
  deriving DecidableEq, Repr

/-- A STREAM packet (Table 08.15). -/
structure StreamPacket where
  cls : Nat := 0
  origin : Nat
  stream : Nat
  fmt : Nat
  width : Nat
  height : Nat
  media : Nat
  line : Nat
  x : Nat
  pixels : List (List Nat)
  deriving DecidableEq, Repr

/-- The configuration registers of a receiver that R101 guards (Table 03.8). -/
inductive SrcReg where
  | cfg | size | xfer | p0Addr | p0Port | p1Addr | p1Port | clip | startLo | pqPeak
  deriving DecidableEq, Repr



/-- The fields of a tile's STATUS packet (Table 08.7); TEMP_AT is a 64-bit ledger value. -/
structure TileStatus where
  shown : Nat
  dispCrc : Nat
  temp : Int
  tempAt : Nat
  incTally : Nat
  hearsA : Bool
  hearsB : Bool
  roleA : Nat
  roleB : Nat
  timeLocked : Bool
  needDiscovery : Bool
  nothing : Bool
  lossBlack : Bool
  incomplete : Bool
  held : Bool
  conflict : Bool
  tempValid : Bool
  seq : Nat
  timeErr : Int
  snapId : Nat
  rateA : Nat
  rateB : Nat
  deriving DecidableEq, Repr

/-- The fields of a DESCRIPTOR packet (Table 08.9), its side-effect ranges as space, start and length. -/
structure Descriptor where
  ident : Nat
  maxRate : Nat
  width : Nat
  height : Nat
  maker : Nat
  model : Nat
  fw : Nat
  calSize : Nat
  ranges : List (Nat × Nat × Nat)
  deriving DecidableEq, Repr

/-- What a tile brings with it: its descriptor, the calibration image in its flash and its rotation (R170, R246). -/
structure TileInfo where
  desc : Descriptor
  image : List Byte
  orient : Nat
  deriving DecidableEq, Repr

/-- A PIXEL packet as a tile receives it (Table 08.5). -/
structure PixelPacket where
  toward : Bool := false
  epoch : Nat
  pos : Nat
  tally : Nat
  line : Nat
  segment : Nat
  pixels : List (Nat × Nat × Nat)
  deriving DecidableEq, Repr

/-- A presentation token (Tables 06.3, 08.6); TP is a 64-bit ledger value. -/
structure Token where
  toward : Bool := false
  tally : Nat
  tp : Nat
  period : Nat
  emitOffset : Nat
  subframes : Nat
  lossHold : Nat
  abort : Bool
  copy : Bool
  role : Nat
  hold : Nat
  deriving DecidableEq, Repr

/-- What arrives at a tile's port and passes through (R234, R259): a packet, or the pattern of low-power idle. -/
inductive TileTraffic where
  | packet (bytes : List Byte)
  | sleep
  | refresh (beacon : List Byte)
  | wake
  deriving DecidableEq, Repr

/-- The contents of a HAIL block (Table 08.2). -/
structure Hail where
  version : Nat
  profile : Nat
  role : Nat
  maxRate : Nat
  answer : Bool
  group : Nat
  member : Nat
  size : Nat
  node : Nat
  reservedZero : Bool
  deriving DecidableEq, Repr

/-- The registers a TEST_CONFIG_WRITE names (R214). -/
inductive TestReg where
  | lb | prbs | txeq
  deriving DecidableEq, Repr

/-- The PLLs: those of CLK_STAT (Table 18.8) and the transmit PLL of each lane (R197). -/
inductive Pll where
  | core | deck | hold | time
  | lane (l : Fin 24)
  deriving DecidableEq, Repr

/-- A Sardylink block (R221): its sync header, as the two bits are written (1 for 0b01, 2 for 0b10), and its eight
bytes after descrambling. -/
structure SlkBlock where
  sync : Fin 4
  bytes : List Byte
  deriving DecidableEq, Repr

/-- A Sardylink link at one end: a caravan group (Profile C) or a tile lane (Profile T) of the device, or a port of a
tile. -/
inductive Link where
  | group (g : Fin 3)
  | lane (l : Fin 24)
  | tile (k : Nat) (port : Bool)
  deriving DecidableEq, Repr

/-- The fields of a TIME packet (Table 08.14); stamps in units of 2⁻¹⁶ ns. -/
structure TimePacket where
  txStamp : Int
  seq : Nat
  echoSeq : Nat
  echoRx : Int
  echoValid : Bool
  locked : Bool
  root : Bool
  stepValid : Bool
  sender : Nat
  rootNode : Nat
  rootHops : Nat
  stepTally : Nat
  stepNs : Int
  deriving DecidableEq, Repr

/-- Operations of a REG packet (Table 08.11). -/
inductive RegOp where
  | read | write
  deriving DecidableEq, Repr

/-- A REG request as it arrives at a target (Table 08.11). -/
structure RegRequest where
  toward : Bool := false
  pos : Nat := 0
  epoch : Nat
  op : RegOp
  posted : Bool
  locked : Bool
  tag : Nat
  requester : Nat
  target : Nat
  space : Nat
  offset : Nat
  count : Nat
  data : List Word
  deriving DecidableEq, Repr

/-- A REG response as it arrives at its requester (Tables 08.11, 08.12). -/
structure RegResponse where
  toward : Bool := false
  pos : Nat := 0
  epoch : Nat := 0
  tag : Nat
  posted : Bool
  status : Nat
  holder : Nat
  requester : Nat
  target : Nat := 0
  space : Nat
  offset : Nat
  count : Nat
  data : List Word
  deriving DecidableEq, Repr

/-- The fields of a heartbeat (Table 08.15). -/
structure Heartbeat where
  sender : Nat
  role : Nat
  eligible : Bool
  leadEpoch : Nat
  tally : Nat
  seq : Nat
  sentAt : Nat := 0
  deriving DecidableEq, Repr

/-- An untimed input mirrored by the Lead (R284). -/
inductive MirrorInput where
  | sacn (univ : Nat) (slots : List Nat)
  | ltc (code : Nat)
  | watch (v value : Nat)
  | ambient (target : Nat)
  | tj (port value : Nat)
  deriving DecidableEq, Repr



/-- An ANSI E1.31 packet as the device sees it (R329): whether it is a data packet, start code, OPTIONS (bit 7
Preview_Data, bit 6 Stream_Terminated), CID, priority, sequence number, universe and slots. -/
structure SacnPacket where
  data : Bool
  startCode : Nat
  options : Nat
  cid : Nat
  priority : Nat
  seq : Nat
  univ : Nat
  slots : List Nat
  deriving DecidableEq, Repr

/-- Samples of one port in an ADC cycle (R360): its place among the ADC's ports, string current in mA, VOUT and VIN in mV;
none where no sample was taken. -/
structure LampSample where
  port : Fin 8
  currentVout : Option (Nat × Nat)
  vin : Option Nat
  deriving DecidableEq, Repr

/-- A resistance found by the neighbour-ball test (R370): the ball's pin, its neighbour's ball, the lamp port of the
neighbour if it is one, ohms, and the pair's class in the adjacency table. -/
structure NbFinding where
  pin : Fin 7
  ball : Nat
  ohms : Nat
  deriving DecidableEq, Repr

/-- How a QMP request arrives (R401 to R408): its MAC, its sender (MAC address, IPv4 address and UDP port, 48, 32 and 16 bits
of one number), SESSION and SEQ, its tag when AUTH is set, and TARGET. -/
structure QmpEnv where
  mac : Nat
  sender : Nat
  session : Nat
  seq : Nat
  tag : Option (List Byte)
  target : Nat
  deriving DecidableEq, Repr

/-- The door a request comes through (R408, R419, R397): QMP over the network, a Pier inbound queue with the message's SEQ,
a relayed message of another node, or the registers of CUE_CMD. -/
inductive Door where
  | qmp (env : QmpEnv)
  | pier (seq : Nat)
  | relay (node seq : Nat)
  | regs (req : Requester)
  deriving DecidableEq, Repr

/-- A parameter item of a berth message (R404): its ID, LEN and value bytes. -/
structure Param where
  id : Nat
  len : Nat
  value : List Byte
  deriving DecidableEq, Repr

/-- A flow of the Harbourmaster (R33): the cues of a list by berth index, or the receive queues of a MAC. -/
inductive Flow where
  | cues (berth : Nat)
  | receive (mac : Fin 5)
  deriving DecidableEq, Repr

/-- An operation of a locked sequence (R430): OP 1 to 4, its Ferry address, value and mask. -/
structure SeqOp where
  op : Nat
  addr : Nat
  value : Word
  mask : Word
  deriving DecidableEq, Repr

/-- A queue word of the Pier as it travels (Table 14.8). -/
structure QWord where
  valid : Bool
  sop : Bool
  eop : Bool
  data : Word
  check : Nat
  deriving DecidableEq, Repr

/-- The registers of R433. -/
inductive FerryReg where
  | timeout
  | oqCfg (q : Fin 8)
  | rangeWin (i : Fin 4)
  | nodeMap (k : Nat)
  deriving DecidableEq, Repr

/-- The blocks of Table 15.4. -/
inductive Block where
  | receiver (s : Nat)
  | compositor
  | calibration
  | scanout
  | probeWay
  | mac (m : Nat)
  | lampLink
  | lane (l : Nat)
  deriving DecidableEq, Repr

/-- A wear indicator's news (Table 15.9): corrected errors of a physical bank since the last news, an uncorrectable error
of a bank, the sense drift of a lamp port in 0.01 % of I_FS, a failed OTP row or a failed NVM block. -/
inductive Wear where
  | ecc (bank : Fin 17) (corrected : Nat)
  | uncorrectable (bank : Fin 17) (granule : Fin 393216)
  | sense (port : Fin 32) (drift : Int)
  | otpRow
  | nvmBlock
  deriving DecidableEq, Repr

/-- The registers of R456. -/
inductive RsvReg where
  | policy | thrEcc | thrEye
  deriving DecidableEq, Repr



/-- A file named in a TFTP request (R508). -/
inductive TftpFile where
  | firmware | manifest | key | unlock | faultlog | other
  deriving DecidableEq, Repr

/-- An instruction of the boundary-scan port (R517). -/
inductive JtagInstr where
  | bypass | idcode | samplePreload | extest | clamp | highz | other
  deriving DecidableEq, Repr

/-- The commands. The table gives no operands, so those below are the contents the cited rules act on. -/
inductive Instr where
  /-- R6. A write to a register that has no behaviour of its own sets its fields; a write to an unassigned offset
      is ignored and counted as an access error with its address latched. -/
  | registerWrite (dt : Nat) (req : Requester) (addr : Nat) (value : Word)
  /-- R7. A write of a W1C register clears each bit written as 1, unless the device sets that bit in the same
      clock. -/
  | w1cWrite (dt : Nat) (req : Requester) (addr : Nat) (value : Word) (setNow : Word)
  /-- R8. A read of an RC register returns its value and clears it; an event in the same clock carries over to the
      next read. -/
  | rcRegisterRead (dt : Nat) (req : Requester) (addr : Nat) (eventNow : Nat)
  /-- R9. A read of the low word of a 64-bit pair latches the high word into the requester's shadow. -/
  | pairLowRead (dt : Nat) (req : Requester) (addr : Nat)
  /-- R526. A write of the high word of a 64-bit pair commits both words together, or the high word alone when no
      low word was written. -/
  | pairHighWrite (dt : Nat) (req : Requester) (addr : Nat) (value : Word)
  /-- R17. A die-to-die lamp-link transfer that fails its CRC is repeated once; a failed repeat raises the lamp-
      link fault and the lamp ports hold their outputs. -/
  | lampLinkTransfer (dt : Nat) (crcGood repeatGood : Bool)
  /-- R24. At the selection point of tally n, each layer takes the source frame due for n, and elision is
      evaluated again. -/
  | selectionPoint (dt : Nat) (tally : Nat)
  /-- R24. Composition of tally n starts into the back buffer, or into the single frame store with Chase, from the
      layer set latched at the governing edge. -/
  | compositionStart (dt : Nat) (tally : Nat)
  /-- R122. Composition of a tally finishes and its canvas is whole in the frame store. -/
  | compositionComplete (dt : Nat)
  /-- R24. At Tp(n) − T the buffers swap and the raster of n starts; when composition of n is unfinished, the swap
      is skipped. -/
  | bufferSwap (dt : Nat) (tally : Nat)
  /-- R172. Scan-out reads the canvas through the tile map, calibrates each pixel and sends pixel packets to every
      present tile that is not held. -/
  | rasterStart (dt : Nat) (tally : Nat)
  /-- R135. With Chase, when the raster begins a line that composition has not finished, tally n is aborted and
      its tokens are sent with ABORT set. -/
  | compositionAbort (dt : Nat) (line : Nat)
  /-- R24. The raster of tally n ends and vertical blanking begins. -/
  | rasterEnd (dt : Nat)
  /-- R124. At a latch edge, the pending commits are evaluated in order against validity and the budget, and
      applied or refused with their effective tally. -/
  | latchEdge (dt : Nat) (tally : Nat)
  /-- R42. At Tp(n), frame-aligned actions of tally n take effect, and tiles, lamp groups and pattern engines
      present n. -/
  | presentationInstant (dt : Nat) (tally : Nat)
  /-- R318. The probe values of tally n are computed from its canvas and are ready for the waybills. -/
  | probeValuesReady (dt : Nat) (tally : Nat)
  /-- R27. A waybill value for tally n departs at Tp(n) less its lead time, or when its probe value becomes ready,
      and is counted late if so. -/
  | waybillDeparture (dt : Nat) (tally : Nat) (entry : Fin 4096)
  /-- R32. The Harbourmaster dispatches a ready work item to a deckhand, in flow order. -/
  | itemDispatch (dt : Nat) (flow : Flow)
  /-- R61. A servo offset measurement qualifies sources, selects a source, steps or tracks the ledger, or counts
      toward a step refusal. -/
  | servoMeasurement (dt : Nat) (source : Nat) (offset : Int) (refRate : Int)
  /-- R45. A PTP source's announce or Sync timeout expires, or a caravan source's exchanges stop, and the servo
      moves to another source or to HOLDOVER. -/
  | sourceLost (dt : Nat) (source : Nat)
  /-- R43. A write of TIME_JUMP_THR sets the threshold, or is ignored when the value is out of range. -/
  | jumpThrWrite (dt : Nat) (req : Requester) (value : Word)
  /-- R63. An accept fixes the pending step and its effective tally, and is passed to the twin. -/
  | stepAccept (dt : Nat) (door : Door)
  /-- R64. A reject clears a pending unfixed step refusal; otherwise it does nothing. -/
  | stepReject (dt : Nat) (door : Door)
  /-- R65. At the effective tally, the ledger steps by the fixed amount, and cues whose due times it crosses are
      handled. -/
  | stepApply (dt : Nat)
  /-- R52. A write of TIME_PORT_CTRL sets the port's mode and intervals, or is ignored as a whole when a field is
      invalid. -/
  | portCtrlWrite (dt : Nat) (req : Requester) (port : Fin 8) (value : Word)
  /-- R49. A PTP message is received and used by the servo and the best master clock algorithm. -/
  | ptpMessageReceive (dt : Nat) (port : Fin 8) (domain seqId sender src : Nat) (msg : PtpMessage)
  /-- R56. A PTP event message is transmitted with its departure time inserted one-step. -/
  | ptpEventTransmit (dt : Nat) (port : Fin 8) (isDelayReq : Bool) (seqId : Nat)
  /-- R59. A receive timestamp enters the port's queue, or is dropped and counted when the queue is full. -/
  | rxqStamp (dt : Nat) (port : Fin 8) (seqId domain msgType : Nat) (readNow : Bool)
  /-- R58. A read of TIME_RXQ_W3 removes the head entry of the receive timestamp queue. -/
  | rxqW3Read (dt : Nat) (req : Requester) (port : Fin 8)
  /-- R69. An edge on a timing pin in capture mode is stamped and queued. -/
  | tpinCapture (dt : Nat) (pin : Fin 8) (rising : Bool) (readNow : Bool)
  /-- R69. A read of TIME_TPIN_CAP_HI removes the head capture. -/
  | tpinCapHiRead (dt : Nat) (req : Requester) (pin : Fin 8)
  /-- R71. A write of TIME_TPIN_AT_HI arms or replaces a pulse, or sets MISSED when its time has passed. -/
  | tpinArm (dt : Nat) (req : Requester) (pin : Fin 8) (atHi : Word)
  /-- R71. A write of TIME_TPIN_CTRL sets the pin's mode, or is ignored when it names mode 7. -/
  | tpinCtrlWrite (dt : Nat) (req : Requester) (pin : Fin 8) (value : Word)
  /-- R71. A write of TIME_TPIN_PERIOD or TIME_TPIN_WIDTH is ignored and counted when it is out of range. -/
  | tpinTimingWrite (dt : Nat) (req : Requester) (pin : Fin 8) (isWidth : Bool) (value : Word)
  /-- R70. A timing pin emits an armed, periodic or frame pulse at its ledger time. -/
  | tpinPulse (dt : Nat) (pin : Fin 8)
  /-- R72. An LTC codeword is decoded and stamped, and timecode cues are projected and resolved. -/
  | ltcCodeword (dt : Nat) (code : Word) (rate : LtcRate) (startAgo : Nat)
  /-- R73. After 2 missing codewords in succession, LTC LOCKED clears and a Notice fault is raised. -/
  | ltcLost (dt : Nat)
  /-- R74. At the end of each 1 s window, the word-clock error is measured and OUT_OF_LIMIT is set or cleared. -/
  | wclkMeasurement (dt : Nat) (rate : Fin 3) (ppm : Int) (phase : Int)
  /-- R77. A snapshot arm, by TIME_SNAP_CTRL or QMP SNAP_ARM, is queued or refused, and is sent to tiles and
      caravan nodes when requested. -/
  | snapArm (dt : Nat) (door : Door) (id : Nat) (at64 : Nat) (tiles caravan : Bool)
  /-- R75. At the snapshot time, every counter latches into its shadow set. -/
  | snapFire (dt : Nat)
  /-- R82. An ST 2110-20 packet is checked, merged and written to its frame's staging buffer. -/
  | st2110Packet (dt : Nat) (receiver : Fin 32) (path : Fin 2) (p : RtpPacket)
  /-- R84. A path silent for TIMEOUT clears its UP bit; when every path is silent, the source is lost. -/
  | pathTimeout (dt : Nat) (receiver : Fin 32) (path : Fin 2)
  /-- R252. A caravan STREAM packet is forwarded, and consumed into a type-1 receiver's staging. -/
  | streamPacketReceive (dt : Nat) (group : Fin 3) (hops : Nat) (p : StreamPacket) (crc : Word)
  /-- R95. A write of SEL selects a still's buffer as a commit, or is ignored for a one-buffer still. -/
  | stillSelWrite (dt : Nat) (req : Requester) (receiver : Fin 32) (sel : Bool)
  /-- R96. A write of ING_SRC_START_HI commits a restart of the clip from the new START. -/
  | clipStartWrite (dt : Nat) (req : Requester) (receiver : Fin 32) (startHi : Word)
  /-- R101. A direct write to a receiver configuration register is ignored while the receiver is in use, except
      for SEL. -/
  | ingSrcCfgWrite (dt : Nat) (req : Requester) (receiver : Fin 32) (reg : SrcReg) (value : Word)
  /-- R137. A write of COMP_LAYER_COMMIT submits the slot's shadow as a commit for the next latch edge. -/
  | layerCommit (dt : Nat) (req : Requester) (slot : Fin 64)
  /-- R117. The fill of new mask buffers completes, and the commit is carried to the next latch edge. -/
  | maskFillComplete (dt : Nat) (slot : Fin 64)
  /-- R116. A write of MASK_SEL commits a choice of mask buffer. -/
  | maskSelWrite (dt : Nat) (req : Requester) (slot : Fin 64) (sel : Bool)
  /-- R111. A write of COMP_COEF_COMMIT applies the coefficient shadow as one commit, or refuses it when a phase
      does not sum to 1,024. -/
  | coefCommit (dt : Nat) (req : Requester)
  /-- R142. A write of CAL_CTRL is a commit of the calibration enables. -/
  | calCtrlWrite (dt : Nat) (req : Requester) (value : Word)
  /-- R150. A write of CAL_BIN_SEL selects the profile shown, or is ignored while a commit is pending. -/
  | binSelWrite (dt : Nat) (req : Requester) (value : Word)
  /-- R150. A write of CAL_BIN_COMMIT applies the profile shadow as a commit, or refuses it. -/
  | binCommit (dt : Nat) (req : Requester)
  /-- R155. A write of CAL_BRIGHT_TARGET commits a brightness ramp and clears AMBIENT. -/
  | brightTargetWrite (dt : Nat) (req : Requester) (value : Word)
  /-- R158. A write of CAL_AMB_CFG that sets AMBIENT while the points do not rise is ignored. -/
  | ambCfgWrite (dt : Nat) (req : Requester) (value : Word)
  /-- R156. Once per ledger second, the ambient input is mapped to a target, and a ramp is committed when the
      change exceeds DEADBAND. -/
  | ambientUpdate (dt : Nat)
  /-- R152. At Tr(n) − 50 µs, each tile's temperature for tally n is latched, or held and counted when no status
      qualifies. -/
  | tempLatch (dt : Nat) (tally : Nat)
  /-- R235. A tile STATUS is received and updates temperature, hearing, witness evidence, display CRC and
      incomplete reports. -/
  | tileStatusReceive (dt : Nat) (lane : Fin 24) (pos epoch : Nat) (status : TileStatus)
  /-- R162. A calibration upload for a tile begins with a header pull once staging for it is free. -/
  | calUploadStart (dt : Nat) (entry : Fin 2048)
  /-- R161. A CAL_DATA packet is checked for epoch and written to the temporary area. -/
  | calDataReceive (dt : Nat) (lane : Fin 24) (pos epoch offset : Nat) (data : List Byte)
  /-- R160. An image not received whole within 2 s ends the attempt. -/
  | calUploadTimeout (dt : Nat) (entry : Fin 2048)
  /-- R162. An accepted image is copied into the calibration store in the blanking before its effective tally. -/
  | calCopyIn (dt : Nat) (entry : Fin 2048)
  /-- R167. A write of CAL_TILE_RELOAD starts a new calibration upload for the named tile. -/
  | tileReload (dt : Nat) (req : Requester) (value : Word)
  /-- R163. In a twin, the Lead announces the tally from which a tile's new entries apply. -/
  | calTallyAnnounce (dt : Nat) (entry : Fin 2048) (tally : Nat)
  /-- R168. A write of SCAN_MAP_SEL selects the tile-map entry shown, or is ignored while a commit is pending. -/
  | mapSelWrite (dt : Nat) (req : Requester) (value : Word)
  /-- R168. A write of SCAN_MAP_COMMIT applies the entry shadow as a commit, or refuses it with a reason. -/
  | mapCommit (dt : Nat) (req : Requester)
  /-- R168. A write of SCAN_LINK_CFG is a map commit of the lane's chain length. -/
  | linkCfgWrite (dt : Nat) (req : Requester) (lane : Fin 24) (value : Word)
  /-- R177. A write of SCAN_SUBFRAME is a commit of the sub-frame count. -/
  | subframeWrite (dt : Nat) (req : Requester) (value : Word)
  /-- R184. A write of SCAN_CTRL is a commit of the hold settings, or is ignored when a field is out of range. -/
  | scanCtrlWrite (dt : Nat) (req : Requester) (value : Word)
  /-- R174. A copy of the presentation token of tally n is sent on each local chain end. -/
  | tokenSend (dt : Nat) (tally : Nat) (second : Bool)
  /-- R259. Every 20 µs in low-power idle, a refresh of IDLE blocks and a BEACON is sent. -/
  | lpiRefresh (dt : Nat) (lane : Fin 24)
  /-- R259. The transmitter sends WAKE blocks and returns to full transmission 10 µs before its next packet. -/
  | lpiWake (dt : Nat) (lane : Fin 24)
  /-- R260. A receiver without a refresh for 30 µs acts again on LOS, LOL and block-lock loss. -/
  | lpiRefreshTimeout (dt : Nat) (tile : Nat) (port : Bool)
  /-- R175. A tile keeps the first good copy of a pixel packet of the tally it is receiving, and discards older,
      duplicate or stale packets. -/
  | tilePixelReceive (dt : Nat) (tile : Nat) (port : Bool) (p : PixelPacket) (crc : Word)
  /-- R175. A tile receives and forwards a presentation token. -/
  | tileTokenReceive (dt : Nat) (tile : Nat) (port : Bool) (t : Token) (crc : Word)
  /-- R175. At the emission start of tally n, a tile displays n or keeps its frame and reports it incomplete. -/
  | tileEmissionStart (dt : Nat) (tile : Nat) (tally : Nat)
  /-- R176. A tile begins a sub-frame and emits one PWM cycle. -/
  | tileSubframe (dt : Nat) (tile : Nat) (k : Nat)
  /-- R178. A tile without a valid token for LOSS_HOLD ms shows black. -/
  | tileLossBlack (dt : Nat) (tile : Nat)
  /-- R235. A tile sends a STATUS every 50 µs on both ports. -/
  | tileStatusSend (dt : Nat) (tile : Nat) (temp : Option Int)
  /-- R237. A tile's port enters or leaves LINKED, and the tile sets NEED_DISCOVERY. -/
  | tilePortEvent (dt : Nat) (tile : Nat) (port : Bool) (linked : Bool) (rate : Nat) (info : TileInfo)
  /-- R238. A tile forwards a DISCOVER with hops left, or consumes it, updates its epoch and answers with a
      DESCRIPTOR. -/
  | tileDiscoverReceive (dt : Nat) (tile : Nat) (port toward : Bool) (hopsLeft sender : Nat) (crc : Word)
  /-- R238. A tile forwards an ASSIGN, or takes POS and CHAIN_LEN, or sets CONFLICT. -/
  | tileAssignReceive (dt : Nat) (tile : Nat) (port : Bool) (toward : Bool) (hopsLeft epoch pos chainLen ident sender : Nat) (crc : Word)
  /-- R246. A tile answers a CAL_PULL with CAL_DATA packets covering the range. -/
  | tileCalPullReceive (dt : Nat) (tile : Nat) (port toward : Bool) (epoch pos offset length : Nat) (crc : Word)
  /-- R247. A tile that receives SNAP before its time arms a latch of its counters. -/
  | tileSnapReceive (dt : Nat) (tile : Nat) (port toward : Bool) (id : Nat) (at64 : Nat) (crc : Word)
  /-- R234. A tile forwards a packet cut-through from one port to the other. -/
  | tileForward (dt : Nat) (tile : Nat) (port : Bool) (x : TileTraffic)
  /-- R181. After 200 µs in which tiles hear only one end each, BREAK is set and the chain-break fault is raised. -/
  | chainBreak (dt : Nat) (lane : Fin 24)
  /-- R239. The device walks a chain end with DISCOVER and ASSIGN at increasing hop counts. -/
  | chainWalk (dt : Nat) (lane : Fin 24)
  /-- R191. Every 1 ms, a DISCOVER is sent again to a hop that gave no DESCRIPTOR, or to a lost tile. -/
  | discoverRetry (dt : Nat) (lane : Fin 24)
  /-- R187. A DESCRIPTOR is received, and the tile is matched to a map entry or left unmapped. -/
  | descriptorReceive (dt : Nat) (lane : Fin 24) (hop epoch : Nat) (d : Descriptor)
  /-- R191. A tile with no status for 200 µs is set LOST, its packets stop and the tile-lost fault is raised. -/
  | tileLost (dt : Nat) (entry : Fin 2048)
  /-- R199. A lane in HAIL, or a reserve lane in RESERVE_IDLE, sends a hail block every 1 ms. -/
  | hailSend (dt : Nat) (lane : Fin 24)
  /-- R199. A valid hail is received and answered, and the lane enters or continues EXCHANGE. -/
  | hailReceive (dt : Nat) (lane : Fin 24) (h : Hail)
  /-- R200. An EXCHANGE that has not completed within 20 ms aborts training. -/
  | exchangeTimeout (dt : Nat) (lane : Fin 24)
  /-- R225. STEP blocks agree the next rung and count down to the rate change. -/
  | stepBlockReceive (dt : Nat) (lane : Fin 24) (nextRate countdown target : Nat)
  /-- R225. An end switches its transmitter or receiver to the next rate at the end of the COUNTDOWN 0 block. -/
  | rateSwitch (dt : Nat) (lane : Fin 24) (isTx : Bool)
  /-- R226. A receiver counts 2²⁸ error-free PRBS31 bits, or sees the partner's inverted pass. -/
  | prbsPass (dt : Nat) (lane : Fin 24) (partner : Bool)
  /-- R227. A rung passes with block lock at the new rate, and the lane climbs on or becomes LINKED. -/
  | rungPass (dt : Nat) (lane : Fin 24)
  /-- R202. A step not passed within 20 ms aborts training, is counted, and may lower the ceiling or leave a group
      member out. -/
  | stepTimeout (dt : Nat) (lane : Fin 24)
  /-- R204. The back-off time expires and the lane enters HAIL. -/
  | backoffExpire (dt : Nat) (lane : Fin 24)
  /-- R204. A lane that has stayed LINKED for 1 s returns its back-off time to 10 ms. -/
  | backoffReset (dt : Nat) (lane : Fin 24)
  /-- R208. LOS asserts after 1 µs below 80 mV, aborting training or entering RELOCK. -/
  | losAssert (dt : Nat) (lane : Fin 24)
  /-- R208. LOS clears after 10 µs above 100 mV, and a LOS of 10 ms or more clears a lowered ceiling. -/
  | losClear (dt : Nat) (lane : Fin 24)
  /-- R208. CDR loss of lock asserts or clears. -/
  | lolChange (dt : Nat) (lane : Fin 24) (asserted : Bool)
  /-- R209. A linked lane loses block lock and enters RELOCK, or a group member is removed. -/
  | blockLockLoss (dt : Nat) (lane : Fin 24)
  /-- R207. A lane acquires block lock after 64 valid sync headers, and returns from RELOCK. -/
  | blockLockAcquire (dt : Nat) (lane : Fin 24)
  /-- R209. A lane still without lock 1 ms after entering RELOCK aborts training. -/
  | relockTimeout (dt : Nat) (lane : Fin 24)
  /-- R207. An E lane's PCS gains or loses lock and the lane becomes LINKED or DOWN. -/
  | pcsLockChange (dt : Nat) (lane : Fin 24) (locked : Bool)
  /-- R212. A reserve lane steps to the group rate and joins in a removed member's place within 30 ms. -/
  | reserveSubstitute (dt : Nat) (removed : Fin 24) (joined : Bool)
  /-- R212. When no reserve joins within 30 ms, the reserve-unavailable fault is raised. -/
  | substitutionTimeout (dt : Nat) (removed : Fin 24)
  /-- R219. A retrain command aborts training, clears the ceiling and back-off, and enters HAIL. -/
  | laneRetrain (dt : Nat) (req : Requester) (lane : Fin 24)
  /-- R214. An enter-test command takes the lane out of service into TEST. -/
  | laneEnterTest (dt : Nat) (req : Requester) (lane : Fin 24)
  /-- R214. A leave-test command clears loopback and generators and starts the lane at HAIL. -/
  | laneLeaveTest (dt : Nat) (req : Requester) (lane : Fin 24)
  /-- R213. A substitute command brings a reserve into a group before the member leaves, at one alignment marker. -/
  | laneSubstitute (dt : Nat) (req : Requester) (lane : Fin 24)
  /-- R219. A disable command puts the lane in DISABLED. -/
  | laneDisable (dt : Nat) (req : Requester) (lane : Fin 24)
  /-- R219. An enable command starts a disabled lane at HAIL. -/
  | laneEnable (dt : Nat) (req : Requester) (lane : Fin 24)
  /-- R214. A write of LANE_LB, LANE_PRBS_CFG or LANE_TXEQ applies in TEST or DISABLED, and is ignored otherwise. -/
  | testConfigWrite (dt : Nat) (req : Requester) (lane : Fin 24) (reg : TestReg) (value : Word)
  /-- R216. A write of LANE_EYE_CMD with GO starts an eye-scan point, or is ignored when busy or out of range. -/
  | eyeScanStart (dt : Nat) (req : Requester) (lane : Fin 24) (value : Word)
  /-- R216. An eye-scan point completes, and its disagreements and DONE are reported. -/
  | eyeScanDone (dt : Nat) (lane : Fin 24) (errors : Nat)
  /-- R217. Every 10 s, the margins of each linked lane are measured and fed to the reserve ledger. -/
  | marginMeasure (dt : Nat) (lane : Fin 24) (eyeW eyeH : Nat)
  /-- R218. A lane out of LINKED for 1 s, or not LINKED 4 s after reset, raises the lane-down fault. -/
  | laneDownTimeout (dt : Nat) (lane : Fin 24)
  /-- R230. A Sardylink packet is received whole, and checked and discarded or passed to its consumer. -/
  | slkPacketReceive (dt : Nat) (lane : Fin 24) (blocks : List SlkBlock)
  /-- R248. A TIME packet is sent every 1 ms on Profile C and every 100 µs on Profile T. -/
  | timePacketSend (dt : Nat) (link : Link)
  /-- R249. A TIME packet is received, and a completed exchange yields an offset measurement. -/
  | timePacketReceive (dt : Nat) (link : Link) (p : TimePacket)
  /-- R251. A device with an accepted or announced step sends TIME packets that announce it on every caravan
      group. -/
  | stepAnnounce (dt : Nat)
  /-- R67. A step announced by the upstream device or the twin is adopted for its tally, or applied late with a
      fault. -/
  | stepAnnounceReceive (dt : Nat) (fromTwin : Bool) (group : Fin 3) (tally32 : Nat) (stepNs : Int)
  /-- R233. A BEACON is sent on every local chain end at least every 20 µs. -/
  | beaconSend (dt : Nat) (lane : Fin 24)
  /-- R242. A target receives a REG READ or WRITE and performs it, or answers STALE, RETRY, ACCESS or
      LOCK_EXPIRED. -/
  | regRequestReceive (dt : Nat) (link : Link) (hops : Nat) (r : RegRequest)
  /-- R242. A requester receives a REG response and completes its transaction, or reports a failed posted write. -/
  | regResponseReceive (dt : Nat) (link : Link) (hops : Nat) (r : RegResponse)
  /-- R244. A LOCK takes the target's register port when it is free, or is answered RETRY. -/
  | regLock (dt : Nat) (link : Link) (hops : Nat) (r : RegRequest)
  /-- R244. An UNLOCK from the holder ends the lock, and waiting posted writes are performed. -/
  | regUnlock (dt : Nat) (link : Link) (hops : Nat) (r : RegRequest)
  /-- R244. A lock ends 20 µs after its grant. -/
  | regLockExpire (dt : Nat) (tile : Option Nat)
  /-- R245. A CREDIT block updates the request and response limits of the link. -/
  | creditReceive (dt : Nat) (link : Link) (reqLimit rspLimit : Nat)
  /-- R245. An end sends a CREDIT block when a total changes, and at least every 10 µs. -/
  | creditSend (dt : Nat) (link : Link)
  /-- R253. A STREAM, MGMT or REG packet not addressed to the device is forwarded cut-through, or dropped at the
      hop limit. -/
  | caravanForward (dt : Nat) (group : Fin 3) (packet : List Byte)
  /-- R266. The device sends the STREAM packets of an exported source on the groups named. -/
  | streamExportSend (dt : Nat) (receiver : Fin 32) (line x count : Nat)
  /-- R252. A MGMT packet addressed to the device delivers a QMP message, deduplicated and used to learn a route. -/
  | mgmtReceive (dt : Nat) (group : Fin 3) (hops origin dest seq : Nat) (message : List Byte)
  /-- R254. At the opening of each alignment period, members send ALIGN, the stripe mask is applied and shedding
      is evaluated. -/
  | alignPeriod (dt : Nat) (group : Fin 3)
  /-- R256. A MASK block carries the partner's RX_MASK for re-striping. -/
  | maskReceive (dt : Nat) (group : Fin 3) (rxMask : Nat)
  /-- R255. A member skew above 640 ns raises the group-skew fault and removes the latest member. -/
  | groupSkewExceed (dt : Nat) (group : Fin 3)
  /-- R273. At every 50 µs of ledger time, a twin sends a HEARTBEAT and a bell frame. -/
  | heartbeatSend (dt : Nat)
  /-- R274. A valid heartbeat on a path marks it heard, records the twin's role and epoch, and may trigger D3 or a
      peer-changed fault. -/
  | heartbeatReceive (dt : Nat) (bell : Bool) (h : Heartbeat) (crc : Word)
  /-- R274. A heartbeat path silent for 200 µs is no longer heard, and the path-lost or twin-unheard fault is
      raised. -/
  | pathSilence (dt : Nat) (bell : Bool)
  /-- R277. An eligible Escort whose promote condition has held for its time promotes, raises its lead epoch and
      takes up the single-point actions. -/
  | promote (dt : Nat)
  /-- R277. A Lead whose demote condition holds demotes to Escort and gives up the single-point actions. -/
  | demote (dt : Nat)
  /-- R288. A stand-down command demotes a Lead under D5, leaving it ineligible. -/
  | standDown (dt : Nat) (req : Requester)
  /-- R288. A rerun command starts a new sea trial. -/
  | seaTrialRerun (dt : Nat) (req : Requester)
  /-- R281. A sea trial starts and ELIGIBLE is cleared. -/
  | seaTrialStart (dt : Nat)
  /-- R282. A sea trial completes and sets ELIGIBLE, or raises the sea-trial fault. -/
  | seaTrialComplete (dt : Nat) (holdOk lanesOk canvasOk : Bool)
  /-- R282. Every 60 s after a failure, the sea trial is repeated. -/
  | seaTrialRetry (dt : Nat)
  /-- R283. When heartbeats resume after silence, the twin's digest is read and compared. -/
  | digestCheck (dt : Nat) (digest : Nat)
  /-- R284. An Escort receives a mirrored untimed input, with its tally, from the Lead. -/
  | mirrorInputReceive (dt : Nat) (tally : Nat) (input : MirrorInput)
  /-- R284. While the heartbeat group is down, the Escort uses its own inputs and raises the mirror-lost fault. -/
  | mirrorLost (dt : Nat)
  /-- R395. An Escort receives the Lead's fixed timecode-cue resolution and applies it. -/
  | tcResolutionReceive (dt : Nat) (label code dueNs : Nat)
  /-- R269. A presence message is sent every 1 s, and within 1 ms of a group link change. -/
  | presenceSend (dt : Nat)
  /-- R263. A presence message is received, and a duplicate node ID is detected. -/
  | presenceReceive (dt : Nat) (group : Fin 3) (hops node uid role : Nat)
  /-- R269. A route entry not refreshed for 3.5 s is removed. -/
  | routeExpire (dt : Nat) (node : Nat)
  /-- R295. An Ethernet frame is checked and filtered, then steered to its consumer or discarded and counted. -/
  | ethFrameReceive (dt : Nat) (mac : Fin 5) (frame : List Byte)
  /-- R307. A queue's pause timer expires and the queue resumes. -/
  | pauseTimerExpire (dt : Nat) (mac : Fin 5) (queue : Fin 8)
  /-- R309. Paused time above LIMIT within WINDOW trips the watchdog, stops every timer and starts HOLDOFF. -/
  | pauseWatchdogTrip (dt : Nat) (mac : Fin 5)
  /-- R309. HOLDOFF ends, pause is obeyed again and paused times restart. -/
  | holdoffEnd (dt : Nat) (mac : Fin 5)
  /-- R304. At the end of a frame, the MAC starts the oldest frame of the highest unpaused queue. -/
  | txFrameEnd (dt : Nat) (mac : Fin 5)
  /-- R300. A write of MAC_FLT_SEL selects a user filter entry, or is ignored below 16. -/
  | fltSelWrite (dt : Nat) (req : Requester) (mac : Fin 5) (value : Word)
  /-- R300. A write of MAC_FLT_COMMIT applies the filter shadow, or refuses it with a reason. -/
  | fltCommit (dt : Nat) (req : Requester) (mac : Fin 5)
  /-- R312. A write of MAC_PAUSE_CFG or MAC_PAUSE_WIN applies at the end of the present frame, or is ignored when
      out of range. -/
  | pauseCfgWrite (dt : Nat) (req : Requester) (mac : Fin 5) (window : Bool) (value : Word)
  /-- R303. The device joins a multicast group with an IGMPv3 report, or counts a join beyond 1,024. -/
  | igmpJoin (dt : Nat) (mac : Fin 5) (group : Nat)
  /-- R292. Every 10 ms, the Gangway reads its PHY's status and takes link and speed. -/
  | phyPoll (dt : Nat) (link fullDuplex : Bool) (speed : Nat)
  /-- R291. Clause 37 auto-negotiation not complete within 1 s sets AN_FAIL and keeps the lane DOWN. -/
  | anTimeout (dt : Nat) (lane : Fin 24)
  /-- R314. A write of PROBE_SEL selects a probe block, or is ignored when no set owns it or a commit is pending. -/
  | probeSelWrite (dt : Nat) (req : Requester) (value : Word)
  /-- R314. A write of PROBE_COMMIT applies the probe block shadow as a commit, or refuses it. -/
  | probeCommit (dt : Nat) (req : Requester)
  /-- R317. A write of PROBE_EMIT_COMMIT applies the emitter profiles as a commit, or refuses it. -/
  | probeEmitCommit (dt : Nat) (req : Requester)
  /-- R319. A write of WAY_SEL selects a waybill block, or is ignored while a commit is pending. -/
  | waySelWrite (dt : Nat) (req : Requester) (value : Word)
  /-- R319. A write of WAY_COMMIT applies the waybill shadow as a commit, or refuses it. -/
  | wayCommit (dt : Nat) (req : Requester)
  /-- R327. A write of WAY_PARAM commits a parameter value from its effective tally. -/
  | wayParamWrite (dt : Nat) (req : Requester) (index : Fin 1024) (value : Word)
  /-- R329. An sACN data packet is accepted into its source and merged for a later tally, or ignored or dropped. -/
  | sacnReceive (dt : Nat) (mac : Fin 5) (p : SacnPacket)
  /-- R330. An sACN source silent for 2,500 ms is lost, and a universe with no sources follows ON_LOSS. -/
  | sacnSourceLost (dt : Nat) (univ cid : Nat)
  /-- R332. An output universe is sent for a tally when it changed, after a change, or at keep-alive. -/
  | sacnSend (dt : Nat) (tally univ : Nat)
  /-- R333. Every 10 s, universe discovery packets list the output universes. -/
  | sacnDiscoverySend (dt : Nat)
  /-- R335. A DMX frame starts, break first, at Tp(n) less its lead, or its slot is skipped or given to RDM. -/
  | dmxFrameStart (dt : Nat) (port : Fin 8) (tally : Nat)
  /-- R336. A DMX frame ends and its readback is compared for contention. -/
  | dmxFrameEnd (dt : Nat) (port : Fin 8) (readback : List Nat)
  /-- R338. An RDM transaction is sent in a gap or a frame slot given to RDM. -/
  | rdmTransactionStart (dt : Nat) (port : Fin 8)
  /-- R337. An RDM transaction ends on a response, a timeout or the broadcast interval. -/
  | rdmTransactionEnd (dt : Nat) (port : Fin 8) (reply : Option (List Byte))
  /-- R339. A discovery command, or a port enable, starts a full RDM discovery. -/
  | rdmFullDiscovery (dt : Nat) (req : Requester) (port : Fin 8) (value : Word)
  /-- R339. Every DISC_PERIOD, an incremental discovery checks known responders and finds new ones. -/
  | rdmIncrementalDiscovery (dt : Nat) (port : Fin 8)
  /-- R340. A GET or SET request from QMP or the Pier is queued, sent, retried and answered. -/
  | rdmRequest (dt : Nat) (door : Door) (port cc uid sub pid : Nat) (pd : List Byte)
  /-- R353. A PWM period starts, and the lamp ports apply latched values, pattern output, gain and pulse skipping. -/
  | pwmPeriodStart (dt : Nat) (bstSkips : List (Nat × Nat))
  /-- R360. A lamp ADC runs its 8 µs conversion cycle over its ports and NTC inputs. -/
  | adcCycle (dt : Nat) (adc : Fin 4) (samples : List LampSample) (ntcEven ntcOdd : Nat)
  /-- R360. At each whole ledger millisecond, the means of current and voltage are posted. -/
  | measPost (dt : Nat)
  /-- R362. Every 100 ms, a port regulates to I_SENSE for 2 µs and its junction temperature is measured. -/
  | thermometryWindow (dt : Nat) (port : Fin 32) (vf : List Nat)
  /-- R363. TJ_VALID clears after 1 s without a thermometry window. -/
  | tjTimeout (dt : Nat) (port : Fin 32)
  /-- R371. A neighbour-ball test measures a port's balls against their neighbours, at enable and every 10 s. -/
  | neighbourTest (dt : Nat) (port : Fin 32) (findings : List NbFinding)
  /-- R355. A write of a lamp level or master applies in stepwise mode, or is ignored in framed or pattern mode. -/
  | lampLevelWrite (dt : Nat) (req : Requester) (group : Fin 32) (reg : Fin 4) (value : Word)
  /-- R374. A write of LAMP_PORT_DIM, THERM, COMP or TREF applies from the next PWM period, or is ignored when out
      of range. -/
  | lampPortParamWrite (dt : Nat) (req : Requester) (port : Fin 32) (reg : Fin 4) (value : Word)
  /-- R359. A write of a pattern parameter or LAMP_PAT_ORIGIN_HI is a commit that applies at Tp of its effective
      tally. -/
  | patternParamWrite (dt : Nat) (req : Requester) (engine : Fin 8) (reg : Fin 6) (value : Word)
  /-- R377. A create takes the oldest free index and a resource, and returns a handle, or is refused. -/
  | berthCreate (dt : Nat) (door : Door) (kind resource : Nat) (params : List Param)
  /-- R378. A modify writes a berth's parameters and applies them under the owning chapter's rules. -/
  | berthModify (dt : Nat) (door : Door) (handle : Nat) (params : List Param)
  /-- R379. A destroy makes the handle stale at once and ends the berth's effect from its effective tally. -/
  | berthDestroy (dt : Nat) (door : Door) (handle : Nat)
  /-- R404. A query returns the state, resource and live parameters of a berth. -/
  | berthQuery (dt : Nat) (door : Door) (handle : Nat)
  /-- R385. A cue create checks the record and dependencies and takes a cue slot, or is refused. -/
  | cueCreate (dt : Nat) (door : Door) (record : List Word)
  /-- R387. A cue becomes READY when it is due and its counter is zero, or is late, missed or re-dated. -/
  | cueReady (dt : Nat) (slot : Fin 4096)
  /-- R391. A cancel of one cue wins when stamped no later than its READY clock, and cascades to dependants, or is
      answered TOO_LATE. -/
  | cueCancel (dt : Nat) (door : Door) (id : Nat)
  /-- R391. A cancel of a list cancels its pending cues in slot order. -/
  | cueCancelList (dt : Nat) (door : Door) (handle : Nat)
  /-- R384. A cue query returns the record and state of a cue, or STALE. -/
  | cueQuery (dt : Nat) (door : Door) (id : Nat)
  /-- R405. An OPEN creates a session and returns its ID and nonce. -/
  | qmpOpen (dt : Nat) (env : QmpEnv) (nonce : List Byte)
  /-- R405. A CLOSE ends its session. -/
  | qmpClose (dt : Nat) (env : QmpEnv)
  /-- R405. A session ends after 60 s without a valid message. -/
  | sessionExpire (dt : Nat) (session : Nat)
  /-- R402. A PING returns the ledger time and tally. -/
  | qmpPing (dt : Nat) (door : Door)
  /-- R403. A READ performs a Ferry read, of current values or snapshot shadows. -/
  | qmpRead (dt : Nat) (door : Door) (addr count snapId : Nat)
  /-- R426. A WRITE performs a Ferry write, or fans a posted write out to a tile group. -/
  | qmpWrite (dt : Nat) (door : Door) (addr group : Nat) (data : List Word)
  /-- R430. A locked sequence takes the local and far locks and performs its operations in order. -/
  | lockedSeq (dt : Nat) (door : Door) (ops : List SeqOp)
  /-- R432. After a RETRY, a locked sequence sends LOCK again or restarts after its back-off, and fails after
      eight restarts. -/
  | lockRetry (dt : Nat)
  /-- R409. A SUBSCRIBE sets the event classes of its session. -/
  | subscribe (dt : Nat) (env : QmpEnv) (classes minSev : Nat)
  /-- R409. An event is queued to each subscribed session, discarding the oldest when full. -/
  | eventSend (dt : Nat)
  /-- R408. A request for another node is relayed as a MGMT packet, and its response returned to the controller. -/
  | qmpRelay (dt : Nat) (door : Door) (target : Nat) (type : Nat) (body : List Byte)
  /-- R507. A save-settings command writes the run-time configuration to the settings area. -/
  | saveSettings (dt : Nat) (door : Door)
  /-- R423. A transaction without a response after FERRY_TIMEOUT is answered TIMEOUT, and its tag is released. -/
  | ferryTimeoutExpire (dt : Nat) (tag : Nat)
  /-- R429. A prefetched line held 100 µs is discarded, and its undelivered words are counted. -/
  | prefetchLineExpire (dt : Nat) (target line : Nat)
  /-- R428. A write of FERRY_RANGE_COMMIT applies a range entry, or refuses it with a reason. -/
  | rangeCommit (dt : Nat) (req : Requester)
  /-- R433. A write of FERRY_TIMEOUT, PIER_OQ_CFG, a range window word or FERRY_NODE_MAP applies, or is ignored
      when out of range. -/
  | ferryCfgWrite (dt : Nat) (req : Requester) (reg : FerryReg) (value : Word)
  /-- R411. A Pier READ returns wait bytes, 0xA5, the data and a result. -/
  | pierRead (dt : Nat) (addr count : Nat) (ended : Bool)
  /-- R411. A Pier WRITE performs its register writes in order and records the result. -/
  | pierWrite (dt : Nat) (addr : Nat) (data : List Word)
  /-- R415. A QREAD returns words of an outbound queue without waiting. -/
  | pierQread (dt : Nat) (queue : Fin 8) (words clocked : Nat) (errors : List Nat)
  /-- R418. A QWRITE writes words to an inbound queue, and a packet is acted on at its EOP. -/
  | pierQwrite (dt : Nat) (queue : Fin 4) (words : List QWord)
  /-- R416. A DROP discards the rest of a partly read outbound packet. -/
  | pierDrop (dt : Nat) (queue : Fin 8)
  /-- R410. A STATUS returns interrupt status, queue levels, credits and the last result. -/
  | pierStatus (dt : Nat)
  /-- R410. An unknown Pier command is ignored to the rise of PCS_N and counted. -/
  | pierBadCommand (dt : Nat) (code : Nat)
  /-- R417. An outbound queue's stale timer expires, setting STALE. -/
  | pierStaleTimer (dt : Nat) (queue : Fin 8)
  /-- R435. A detector instance reads fault and is logged, with its reaction applied or withheld. -/
  | detectorTrip (dt : Nat) (trips : List (Nat × Nat × Nat))
  /-- R436. A detector pair that reads (0,0) or (1,1) for 2 clocks raises a rail fault. -/
  | railFault (dt : Nat) (det inst clocks : Nat)
  /-- R445. A shadow ends, and a still-present condition trips as an independent fault. -/
  | shadowEnd (dt : Nat) (still : List (Nat × Nat × Nat))
  /-- R438. A reset block returns to service after its reset time. -/
  | blockResetDone (dt : Nat) (block : Block)
  /-- R446. A fault's quiet period passes, and it recovers: outputs return and the recovery count rises. -/
  | faultRecover (dt : Nat) (det inst : Nat)
  /-- R443. FLT_CMD 1 clears the first-fault record and its logbook copy. -/
  | clearFirstFault (dt : Nat) (req : Requester)
  /-- R447. FLT_CMD 2 clears the escalation of the selected instance. -/
  | clearEscalation (dt : Nat) (req : Requester)
  /-- R447. FLT_CMD 3 clears every escalation. -/
  | clearAllEscalations (dt : Nat) (req : Requester)
  /-- R455. A write of FLT_DET_CFG sets a detector's configuration, or is ignored when it breaks a limit. -/
  | detCfgWrite (dt : Nat) (req : Requester) (det : Fin 512) (value : Word)
  /-- R452. In test mode, FLT_INJECT_CMD forces a detector pair for DURATION µs. -/
  | faultInject (dt : Nat) (req : Requester) (value : Word)
  /-- R452. The injection's duration ends and the pair is released. -/
  | injectEnd (dt : Nat)
  /-- R453. A wear indicator reaches its threshold and a reserve is substituted, awaited or refused. -/
  | wearUpdate (dt : Nat) (wear : Wear)
  /-- R456. A substitute command in RSV_CMD starts a substitution, or is answered with a reason. -/
  | rsvSubstituteCmd (dt : Nat) (req : Requester) (kind index : Nat)
  /-- R456. A write of RSV_POLICY or a threshold register applies, or is ignored when a field is invalid. -/
  | rsvPolicyWrite (dt : Nat) (req : Requester) (reg : RsvReg) (value : Word)
  /-- R454. A reserve substitution completes and the next waiting one may start. -/
  | substitutionComplete (dt : Nat) (kind : Nat)
  /-- R35. Each second a deckhand is checked against a reserve, and a failed core is replaced. -/
  | deckhandCheck (dt : Nat) (core : Nat) (agree : Bool)
  /-- R458. VKEEP rises into range, the keeper starts, checks its logbook and drives KWAKE high. -/
  | vkeepStart (dt : Nat)
  /-- R458. The always-on rails have held for 1 ms, the watchkeeper starts and wakes the device into Run. -/
  | aonStart (dt : Nat)
  /-- R460. Every main rail has held above 93 % for 1 ms and the compute die leaves reset. -/
  | powerGood (dt : Nat) (bootsel : Fin 4) (testMode : Bool)
  /-- R460. Power-good not reached within 50 ms drops PWR_EN and records a timeout. -/
  | powerGoodTimeout (dt : Nat)
  /-- R460. After 1 s, PWR_EN is raised again, unless 3 attempts have failed. -/
  | powerRetry (dt : Nat)
  /-- R462. RESET_N held low for 1 µs resets the compute die. -/
  | resetNAssert (dt : Nat)
  /-- R462. RESET_N rises, releasing the compute die, or waking the device from Watch. -/
  | resetNRelease (dt : Nat) (bootsel : Fin 4) (testMode : Bool)
  /-- R498. After reset, the device loads trims, reads the boot header and images, applies the manifest and starts
      lanes and discovery. -/
  | bootSequence (dt : Nat)
  /-- R501. Once time and tile calibration are ready, the first frame is presented and ARMED is set. -/
  | firstFrame (dt : Nat) (tally : Nat)
  /-- R463. PWR_CMD 1 commits entry into Quiet: composition stops and every tile is held. -/
  | quietEnter (dt : Nat) (req : Requester)
  /-- R463. PWR_CMD 2 commits leaving Quiet, from a fully composed and sent tally. -/
  | quietLeave (dt : Nat) (req : Requester)
  /-- R465. PWR_CMD 3 stands down, makes outputs safe, writes the logbook and drops PWR_EN. -/
  | watchEnter (dt : Nat) (req : Requester)
  /-- R466. PWR_CMD 4, or a rule with SHELF, enters Shelf and the keeper drives KWAKE low. -/
  | shelfEnter (dt : Nat) (req : Requester)
  /-- R467. The RTC reaches an armed alarm and wakes the device, or is cleared in Run. -/
  | rtcAlarm (dt : Nat)
  /-- R482. A write of KEEP_ALARM_HI arms or disarms the alarm. -/
  | alarmArm (dt : Nat) (req : Requester) (value : Word)
  /-- R468. VDD_CORE below 0.720 V for 200 ns asserts the warning, suspends NVM writes and holds lamps. -/
  | brownoutWarning (dt : Nat) (mv : Nat)
  /-- R470. VDD_CORE held above 0.7275 V for 1 ms ends the warning, and its duration is recorded. -/
  | brownoutEnd (dt : Nat) (mv : Nat)
  /-- R471. VDD_CORE below 0.690 V for 200 ns resets the compute die with cause 4. -/
  | brownoutReset (dt : Nat) (mv : Nat)
  /-- R472. Another main rail below 93 % for 10 µs trips the rail-undervoltage or lamp-supply fault. -/
  | railUndervoltage (dt : Nat) (rail : Fin 6) (under : Bool)
  /-- R536. VDD_LAMP has stayed above 4.4 V for 100 µs, ending the gate hold. -/
  | lampSupplyRelease (dt : Nat)
  /-- R473. A watchkeeper value is sampled, filtered and evaluated against its rules. -/
  | watchSample (dt : Nat) (v : Fin 19) (code : Nat) (sensors : List Nat) (valid : Bool)
  /-- R476. An I²C sensor slot runs its script and its fields are updated or invalidated. -/
  | i2cScript (dt : Nat) (slot : Fin 4) (bytes : Option (List Byte))
  /-- R479. Once per second in Run, the main and reserve watchkeeper ADCs convert REFIN ÷ 2 and are compared. -/
  | watchAdcCheck (dt : Nat) (main reserve : Nat)
  /-- R480. At each whole ledger second while LOCKED, the keeper takes SECONDS from the ledger. -/
  | rtcSync (dt : Nat)
  /-- R480. At the end of a 60 s window, the keeper corrects its RTC trim. -/
  | rtcDriftWindow (dt : Nat) (drift : Int)
  /-- R481. A write of a USER word of the logbook updates it and its CHECK. -/
  | logbookWrite (dt : Nat) (req : Requester) (word : Fin 64) (value : Word)
  /-- R484. A trim is measured against its reference and moved by at most one code. -/
  | trimAdjust (dt : Nat) (id : Fin 130) (up : Option Bool)
  /-- R485. Each second REFIN and RREF are checked, and trims are frozen while either is out of limits. -/
  | referenceCheck (dt : Nat) (refin rref : Nat)
  /-- R487. The field trims copy is written when trims have moved, at most once per hour. -/
  | trimSave (dt : Nat) (whole : Bool)
  /-- R508. A TFTP write request starts a transfer into a slot, or is refused with an error. -/
  | tftpWriteRequest (dt : Nat) (peer : Nat) (file : TftpFile) (netascii : Bool) (blksize : Option Nat) (slot : Fin 2)
  /-- R508. A TFTP read of faultlog.bin returns the log area. -/
  | tftpReadRequest (dt : Nat) (peer : Nat) (file : TftpFile) (netascii : Bool) (blksize : Option Nat)
  /-- R509. A TFTP DATA packet is programmed, read back and acknowledged, and the final one starts the image
      check. -/
  | tftpData (dt : Nat) (peer block : Nat) (data : List Byte)
  /-- R508. After 1 s without a reply the device retransmits, and abandons after 5 retransmissions. -/
  | tftpRetransmit (dt : Nat)
  /-- R510. An activate command makes the staged slots active on trial at the next reset. -/
  | svcActivate (dt : Nat) (req : Requester) (what : Fin 4)
  /-- R513. A reset command makes outputs safe, writes the logbook and resets the compute die. -/
  | svcReset (dt : Nat) (req : Requester)
  /-- R512. A confirm command confirms the trial images while the conditions hold. -/
  | svcConfirm (dt : Nat) (req : Requester)
  /-- R512. With CONFIRM_MANUAL clear, the trial is confirmed at the first instant the conditions hold. -/
  | autoConfirm (dt : Nat)
  /-- R520. A discard command makes the named staged slots empty. -/
  | svcDiscard (dt : Nat) (req : Requester) (what : Fin 4)
  /-- R511. The trial window ends without confirmation, TRIAL becomes 2 and a fault is raised. -/
  | trialExpire (dt : Nat)
  /-- R518. Fault-log entries are copied to the NVM log area. -/
  | logCopy (dt : Nat)
  /-- R492. A block that fails twice is treated as failed and is remapped to a spare. -/
  | nvmBlockRemap (dt : Nat) (block : Nat) (onWrite : Bool)
  /-- R529. REFCLK shows no edge for 1 µs or leaves ±200 ppm, clearing REFCLK_OK. -/
  | refclkLoss (dt : Nat)
  /-- R197. A PLL loses lock and the event is counted. -/
  | pllUnlock (dt : Nat) (pll : Pll)
  /-- R481. VKEEP falls below 1.5 V, and the keeper loses its RTC and logbook. -/
  | vkeepLoss (dt : Nat)
  /-- R458. VDD_AON or VDDA_AON leaves its range, and the watchkeeper stops and loses its configuration. -/
  | alwaysOnRailLoss (dt : Nat)
  /-- R529. REFCLK is again present and within ±200 ppm over 1 s, and REFCLK_OK sets. -/
  | refclkRestored (dt : Nat)
  /-- R197. A PLL achieves lock, within 150 µs of a start or rate change, and its lock bit sets. -/
  | pllLock (dt : Nat) (pll : Pll)
  /-- R215. A PRBS checker sets SYNC after 64 correct bits or clears it after 16 errors in 64, starting or
      stopping its counts. -/
  | prbsCheckerSync (dt : Nat) (lane : Fin 24) (received : List Bool)
  /-- R517. An IEEE 1149.1 instruction is shifted in and acts as boundary scan, or as BYPASS when it is any other. -/
  | jtagInstruction (dt : Nat) (instr : JtagInstr)
  /-- R536. VDD_LAMP falls below 4.2 V, and every lamp port holds HG and LG low. -/
  | lampSupplyLow (dt : Nat)
  deriving DecidableEq, Repr

end Sys2Proof
end

