-- ==== Sys2Proof/Machine/Bits.lean ====
section
/-!
DEFINITION. Bit fields, sign extension, byte orders (R11), sparse tables, CRC-32C (R4) and integer arithmetic
helpers shared by every family.
-/
namespace Sys2Proof.Machine

/-- Bits [hi:lo] of a number ("Fields are written [msb:lsb]", 00_scope.md). -/
def bits (x hi lo : Nat) : Nat := (x / 2 ^ lo) % 2 ^ (hi + 1 - lo)

/-- Bit i of a number. -/
def bit (x i : Nat) : Bool := x.testBit i

/-- x with bits [hi:lo] replaced by v. -/
def putBits (x hi lo v : Nat) : Nat :=
  x % 2 ^ lo + (v % 2 ^ (hi + 1 - lo)) * 2 ^ lo + (x / 2 ^ (hi + 1)) * 2 ^ (hi + 1)

/-- x with bit i set to b. -/
def putBit (x i : Nat) (b : Bool) : Nat := putBits x i i b.toNat

/-- The signed value of the low w bits. -/
def signed (w x : Nat) : Int :=
  let y := x % 2 ^ w
  if y < 2 ^ (w - 1) then (y : Int) else (y : Int) - (2 ^ w : Nat)

/-- The low w bits of an integer, two's complement. -/
def unsigned (w : Nat) (i : Int) : Nat := (i % (2 ^ w : Nat)).toNat

/-- i held to lo..hi. -/
def clampI (lo hi i : Int) : Int := if i < lo then lo else if hi < i then hi else i

/-- x held to lo..hi. -/
def clampN (lo hi x : Nat) : Nat := max lo (min hi x)

/-- Ceiling division. -/
def ceilDiv (a b : Nat) : Nat := (a + b - 1) / b

/-- Division rounded to nearest, halves upward, of a non-negative number. -/
def roundDiv (a b : Nat) : Nat := (2 * a + b) / (2 * b)

/-- Floor division of an integer by a positive number, after adding half: round half towards +infinity. -/
def roundDivI (a : Int) (b : Nat) : Int := (2 * a + (b : Int)) / (2 * (b : Int))

/-- Absolute difference of two numbers. -/
def absDiff (a b : Nat) : Nat := (a - b) + (b - a)

/-- The little-endian bytes of a number, n of them (R11: registers, Hold and NVM records). -/
def leBytes : Nat → Nat → List Byte
  | 0, _ => []
  | n + 1, x => BitVec.ofNat 8 x :: leBytes n (x / 256)

/-- The number that little-endian bytes spell. -/
def leNat : List Byte → Nat
  | [] => 0
  | b :: bs => b.toNat + 256 * leNat bs

/-- The number that big-endian bytes spell (R11: wire formats). -/
def beNat (bs : List Byte) : Nat := bs.foldl (fun a b => a * 256 + b.toNat) 0

/-- The big-endian bytes of a number, n of them. -/
def beBytes (n x : Nat) : List Byte := (leBytes n x).reverse

/-- One bit of the reflected CRC-32C register (polynomial 0x1EDC_6F41, reflected 0x82F6_3B78). -/
def crcBit (c : BitVec 32) : BitVec 32 :=
  if c.getLsbD 0 then (c >>> 1) ^^^ 0x82F63B78#32 else c >>> 1

/-- n bits of the reflected CRC register. -/
def crcBits : Nat → BitVec 32 → BitVec 32
  | 0, c => c
  | n + 1, c => crcBits n (crcBit c)

/-- CRC-32C of a byte string (R4: Castagnoli, initial value all ones, reflected, final XOR all ones). -/
def crc32c (bs : List Byte) : Word :=
  (bs.foldl (fun c b => crcBits 8 (c ^^^ b.setWidth 32)) 0xFFFFFFFF#32) ^^^ 0xFFFFFFFF#32

/-- The entry of a sparse table at a key. -/
def tabGet? {α : Type} : Tab α → Nat → Option α
  | [], _ => none
  | (k, v) :: t, i => if i = k then some v else tabGet? t i

/-- The entry of a sparse table at a key, or a default. -/
def tabGetD {α : Type} (t : Tab α) (i : Nat) (d : α) : α := (tabGet? t i).getD d

/-- A sparse table with the entry at a key set. -/
def tabSet {α : Type} : Tab α → Nat → α → Tab α
  | [], i, v => [(i, v)]
  | (k, x) :: t, i, v =>
    if i = k then (i, v) :: t else if i < k then (i, v) :: (k, x) :: t else (k, x) :: tabSet t i v

/-- A sparse table with the entry at a key removed. -/
def tabErase {α : Type} : Tab α → Nat → Tab α
  | [], _ => []
  | (k, x) :: t, i => if i = k then tabErase t i else (k, x) :: tabErase t i

/-- A sparse table with the entry at a key rewritten by f, taken as d when absent. -/
def tabMod {α : Type} (t : Tab α) (i : Nat) (d : α) (f : α → α) : Tab α := tabSet t i (f (tabGetD t i d))

/-- A sparse table in its canonical form: keys strictly rising. -/
def tabSorted {α : Type} : Tab α → Bool
  | [] => true
  | [_] => true
  | (a, _) :: (b, y) :: t => decide (a < b) && tabSorted ((b, y) :: t)

/-- Every key in k..k+n-1 that f keeps, in order. -/
def rangeFilter (n : Nat) (f : Nat → Bool) : List Nat := (List.range n).filter f

/-- The first n of a list from the front, newest-first logs held to a size. -/
def keepNewest {α : Type} (n : Nat) (l : List α) : List α := l.take n

/-- A FIFO of bounded size with an element appended; the oldest is discarded when full. -/
def pushDropOldest {α : Type} (cap : Nat) (l : List α) (x : α) : List α :=
  if l.length < cap then l ++ [x] else l.drop (l.length + 1 - cap) ++ [x]

/-- Binary search for the least i below n with p i, given p is monotone; n when there is none. -/
def bsearch (p : Nat → Bool) : Nat → Nat → Nat → Nat
  | 0, lo, _ => lo
  | fuel + 1, lo, hi =>
    if lo < hi then
      let mid := (lo + hi) / 2
      if p mid then bsearch p fuel lo mid else bsearch p fuel (mid + 1) hi
    else lo

end Sys2Proof.Machine
end

