-- ==== Sys2Proof/Machine/Crypto.lean ====
section
/-!
DEFINITION. SHA-256, SHA-384 (FIPS 180-4) and HMAC-SHA-256 (FIPS 198-1) with which messages are signed (R406), and ECDSA
P-384 signature verification (FIPS 186-5) with which images are checked (R494, R495, R504).
-/
namespace Sys2Proof.Machine

/-! ### The constants of FIPS 180-4: fractional parts of roots of the first primes -/

/-- The greatest r below 2ᵇ added to r₀ with r ^ k ≤ n, bit by bit. -/
def rootBelow (k n : Nat) : Nat → Nat → Nat
  | 0, r => r
  | b + 1, r => rootBelow k n b (if (r + 2 ^ b) ^ k ≤ n then r + 2 ^ b else r)

/-- The first w bits of the fractional part of the k-th root of p. -/
def rootFraction (w k p : Nat) : BitVec w := BitVec.ofNat w (rootBelow k (p * 2 ^ (k * w)) (w + 3) 0)

/-- The primes below 410, of which FIPS 180-4 uses the first 80. -/
def primes80 : List Nat := (List.range 410).filter fun n => 2 ≤ n && ((List.range 21).drop 2).all fun d => n % d != 0 || n == d

/-! ### SHA-2 -/

/-- What tells one function of the SHA-2 family from another: the rotations of Σ0, Σ1, σ0 and σ1 (the last of σ a shift), the
number of rounds and the initial hash. -/
structure Sha2 (w : Nat) where
  big0   : Nat × Nat × Nat
  big1   : Nat × Nat × Nat
  small0 : Nat × Nat × Nat
  small1 : Nat × Nat × Nat
  rounds : Nat
  start  : List (BitVec w)

def sha256Kind : Sha2 32 :=
  { big0 := (2, 13, 22), big1 := (6, 11, 25), small0 := (7, 18, 3), small1 := (17, 19, 10), rounds := 64
    start := (primes80.take 8).map (rootFraction 32 2) }

def sha384Kind : Sha2 64 :=
  { big0 := (28, 34, 39), big1 := (14, 18, 41), small0 := (1, 8, 7), small1 := (19, 61, 6), rounds := 80
    start := ((primes80.drop 8).take 8).map (rootFraction 64 2) }

/-- Three rotations added modulo 2, and two rotations with a shift. -/
def turn3 {w : Nat} (r : Nat × Nat × Nat) (x : BitVec w) : BitVec w :=
  x.rotateRight r.1 ^^^ x.rotateRight r.2.1 ^^^ x.rotateRight r.2.2
def turn2 {w : Nat} (r : Nat × Nat × Nat) (x : BitVec w) : BitVec w :=
  x.rotateRight r.1 ^^^ x.rotateRight r.2.1 ^^^ x >>> r.2.2

/-- The message padded to whole blocks of 16 words: a one bit, zeros and the length in bits over two words. -/
def shaPadded (w : Nat) (m : List Byte) : List Byte :=
  let len := w / 4
  let block := 2 * w
  m ++ 0x80#8 :: (List.replicate ((block - (m.length + 1 + len) % block) % block) 0#8 ++ beBytes len (8 * m.length))

/-- The window of the last 16 schedule words moved on by one. -/
def Sha2.nextWord {w : Nat} (f : Sha2 w) : List (BitVec w) → List (BitVec w)
  | x :: xs => xs ++ [turn2 f.small1 (xs.getD 13 0) + xs.getD 8 0 + turn2 f.small0 (xs.getD 0 0) + x]
  | [] => []

/-- One round over the eight working variables with a constant and a schedule word. -/
def Sha2.round {w : Nat} (f : Sha2 w) (k x : BitVec w) : List (BitVec w) → List (BitVec w)
  | [a, b, c, d, e, g, h, i] =>
    let t := i + turn3 f.big1 e + (e &&& g ^^^ ~~~e &&& h) + k + x
    [t + (turn3 f.big0 a + ((a &&& b) ^^^ (a &&& c) ^^^ (b &&& c))), a, b, c, d + t, e, g, h]
  | v => v

/-- The rounds of a block, over the constants left: the variables, and the window of schedule words. -/
def Sha2.rounds' {w : Nat} (f : Sha2 w) : List (BitVec w) → List (BitVec w) → List (BitVec w) → List (BitVec w)
  | [], _, v => v
  | k :: ks, win, v => f.rounds' ks (f.nextWord win) (f.round k (win.headD 0) v)

/-- The hash after n blocks of a padded message. -/
def Sha2.blocks {w : Nat} (f : Sha2 w) (ks : List (BitVec w)) : Nat → List Byte → List (BitVec w) → List (BitVec w)
  | 0, _, h => h
  | n + 1, m, h =>
    let win := (List.range 16).map fun i => BitVec.ofNat w (beNat ((m.drop (w / 8 * i)).take (w / 8)))
    f.blocks ks n (m.drop (2 * w)) (List.zipWith (· + ·) h (f.rounds' ks win h))

/-- The words of the digest of a message. -/
def Sha2.digest {w : Nat} (f : Sha2 w) (m : List Byte) : List Byte :=
  let p := shaPadded w m
  (f.blocks ((primes80.take f.rounds).map (rootFraction w 3)) (p.length / (2 * w)) p f.start).flatMap
    fun x => beBytes (w / 8) x.toNat

/-- The SHA-384 digest of a message, 48 bytes. -/
def sha384 (m : List Byte) : List Byte := (sha384Kind.digest m).take 48

/-- The SHA-256 digest of a message, 32 bytes. -/
def sha256 (m : List Byte) : List Byte := sha256Kind.digest m

/-- HMAC-SHA-256 (FIPS 198-1) under a key of at most 64 bytes (R406). -/
def hmac256 (key m : List Byte) : List Byte :=
  let pad := fun (x : Byte) => (key ++ List.replicate (64 - key.length) 0#8).map (· ^^^ x)
  sha256 (pad 0x5C#8 ++ sha256 (pad 0x36#8 ++ m))

/-! ### ECDSA P-384 -/

/-- The field prime, the order and the curve's b and base point. -/
def p384 : Nat := 2 ^ 384 - 2 ^ 128 - 2 ^ 96 + 2 ^ 32 - 1
def n384 : Nat := 0xffffffffffffffffffffffffffffffffffffffffffffffffc7634d81f4372ddf581a0db248b0a77aecec196accc52973
def b384 : Nat := 0xb3312fa7e23ee7e4988e056be3f82d19181d9c6efe8141120314088f5013875ac656398d8a2ed19d2a85c8edd3ec2aef
def g384 : Nat × Nat :=
  (0xaa87ca22be8b05378eb1c71ef320ad746e1d3b628ba79b9859f741e082542a385502f25dbf55296c3a545e3872760ab7,
   0x3617de4a96262c6f5d9e98bf9292dc29f8f41dbd289a147ce9da3113b5f0b8c00a60b1ce1d7e819d7a431d7c90ea0e5f)

/-- x to a power modulo m, over the bits of the exponent. -/
def powMod (m x : Nat) (e : Nat) : Nat → Nat
  | 0 => 1
  | k + 1 =>
    let r := powMod m x (e / 2) k
    let r := r * r % m
    if e % 2 = 1 then r * x % m else r

/-- The inverse modulo a prime. -/
def invMod (m x : Nat) : Nat := powMod m x (m - 2) 384

/-- Points of the curve in Jacobian coordinates; Z 0 is the point at infinity. -/
abbrev Jac := Nat × Nat × Nat

def jacDouble (q : Jac) : Jac :=
  let (x, y, z) := q
  let p := p384
  if z = 0 ∨ y = 0 then (1, 1, 0)
  else
    let yy := y * y % p
    let s := 4 * x * yy % p
    let zz := z * z % p
    let m := 3 * ((x + zz) * (x + p - zz) % p) % p
    let x' := (m * m + 2 * p - 2 * s % p) % p
    (x', (m * (s + p - x') + p - 8 * (yy * yy % p) % p) % p, 2 * y * z % p)

def jacAdd (q r : Jac) : Jac :=
  let (x1, y1, z1) := q
  let (x2, y2, z2) := r
  let p := p384
  if z1 = 0 then r else if z2 = 0 then q
  else
    let a := z1 * z1 % p
    let b := z2 * z2 % p
    let u1 := x1 * b % p
    let u2 := x2 * a % p
    let s1 := y1 * b % p * z2 % p
    let s2 := y2 * a % p * z1 % p
    if u1 = u2 then (if s1 = s2 then jacDouble q else (1, 1, 0))
    else
      let h := (u2 + p - u1) % p
      let rr := (s2 + p - s1) % p
      let hh := h * h % p
      let hhh := h * hh % p
      let v := u1 * hh % p
      let x' := (rr * rr + 3 * p - hhh - 2 * v) % p
      (x', (rr * (v + p - x') + p - s1 * hhh % p) % p, h * z1 % p * z2 % p)

/-- A multiple of a point, over the bits of the scalar. -/
def jacMul (q : Jac) (e : Nat) : Nat → Jac
  | 0 => (1, 1, 0)
  | k + 1 =>
    let r := jacDouble (jacMul q (e / 2) k)
    if e % 2 = 1 then jacAdd r q else r

/-- A point on the curve, coordinates below the prime. -/
def onCurve (x y : Nat) : Bool :=
  decide (x < p384 ∧ y < p384) && y * y % p384 == (x * x % p384 * x + 3 * (p384 - x) + b384) % p384

/-- An ECDSA P-384 signature r ‖ s verifies over a digest with a key x ‖ y, each 48 bytes big-endian. -/
def ecdsaOk (key digest sig : List Byte) : Bool :=
  let x := beNat (key.take 48)
  let y := beNat ((key.drop 48).take 48)
  let r := beNat (sig.take 48)
  let t := beNat ((sig.drop 48).take 48)
  let e := beNat digest
  if onCurve x y ∧ 0 < r ∧ r < n384 ∧ 0 < t ∧ t < n384 then
    let w := invMod n384 t
    let q := jacAdd (jacMul (g384.1, g384.2, 1) (e * w % n384) 384) (jacMul (x, y, 1) (r * w % n384) 384)
    let (qx, _, qz) := q
    qz != 0 && (let zi := invMod p384 qz; qx * (zi * zi % p384) % p384 % n384 == r)
  else false

end Sys2Proof.Machine
end

