-- ==== Sys2Proof/Config.lean ====
section
/-!
DEFINITION. The free values of the model: constants with no body, so that nothing can be proved of the value the spec
leaves open. Each is applied to a counter State holds, or to the operands the value depends on.
-/
namespace Sys2Proof

/-- A value the device draws at random or that the spec leaves open, one for each draw (log entry 8): NONCE_D, session
IDs, back-off times and the like. -/
opaque Config.draw : Nat → Nat

/-- The servo's rate adjustment at a measurement, units of 2⁻¹² ppb: the gains of its tracking are not stated
(Table 02.5; log entry 10). Applied to the draw counter. -/
opaque Config.servoAdjust : Nat → Int

/-- The clock identity of the device, 64 bits: the spec names none (R50; log entry 212). -/
opaque Config.clockIdentity : Nat

/-- Factory latencies of a port, units of 2⁻¹⁶ ns (R53; log entry 213): of transmission or reception (1), a lane, the code of
its rate and its FEC option. -/
opaque Config.portLatency : Nat → Nat → Nat → Nat → Nat

/-- The error, in units of 2⁻³², that ingest makes in a transfer function at a PQ peak and a signal value (numerator,
denominator): R92 bounds it and does not state it (log entry 11). -/
opaque Config.transferError : Nat → Nat → Int → Nat → Int

/-- Whether the 75 % bars of pattern 0 are meant in linear light or in storage codes: R97 does not say (log entry 12). -/
opaque Config.barLinear : Bool

/-- Whether the linear value of a ramp of patterns 1 and 2 at a position of a size is rounded up, where it is no whole
number: R97 does not state its rounding (log entry 12). -/
opaque Config.rampUp : Nat → Nat → Bool

/-- Whether the 8 × 8 checkerboard of pattern 4 has squares of 8 by 8 pixels or 8 by 8 squares: R97 can be read both ways
(log entry 12). -/
opaque Config.checkerPixels : Bool

/-- Whether the first square of the checkerboard is white (R97; log entry 12). -/
opaque Config.checkerWhite : Bool

/-- The temperature, units of 1/16 °C, of an NTC reading of 12 bits with constants B and R26: the conversion is not stated
(R361; log entry 27). -/
opaque Config.ntcTemp : Nat → Nat → Nat → Int

/-- Whether the mean of a sum over a count, where it is no whole number, is rounded up: R360 does not state its rounding
(log entry 28). -/
opaque Config.meanUp : Nat → Nat → Bool

/-- The breathing output before its bounds: R358 gives it within ±2 of an exact value and not its tables. Applied to LOW,
HIGH, GAMMA and the phase (log entry 29). -/
opaque Config.breathe : Nat → Nat → Nat → Nat → Nat

/-- The register of a lane's scrambler before the first block it sends at a clock after a gap: its first value and the IDLE
blocks of the gap are not stated (R221; log entry 201). -/
opaque Config.scrambler : Nat → Nat → Nat

/-- The place in the package adjacency table that OTP holds of the entry that LAMP_ADJ_SEL names: the order is not stated (log
entry 34). -/
opaque Config.adjOrder : Nat → Nat

/-- Whether OTP names a neighbour of a lamp ball as a pair that the stage connects on purpose, by port, pin and ball: the spec
names CSP and CSN of one port alone (log entry 34). -/
opaque Config.pairIntended : Nat → Nat → Nat → Bool

/-- TTL of the datagrams that the device sends, IGMP apart: the spec gives none (log entry 232). -/
opaque Config.ipTtl : Nat

/-- The UDP port from which a TFTP transfer with a peer is served, which RFC 1350 has chosen at random (R508; log entry
232). -/
opaque Config.tftpPort : Nat → Nat

end Sys2Proof
end

