-- ==== Sys2Proof/Machine/Coef.lean ====
section
/-!
DEFINITION. The scaler coefficients at reset (R110): round(1,024 × w_j ÷ Σw) for each phase, computed from the
formula of R110 and written out as the words of COMP_COEF (tap 2j in [11:0], tap 2j + 1 in [27:16]).
-/
namespace Sys2Proof.Machine

/-- Set 0 at reset: the three words of each of its 64 phases (R110, k = 1/1). -/
def coefReset0 : List Nat :=
  [0x0, 0x400, 0x0, 0xff30003, 0xe03ff, 0xffd, 0xfe70006, 0x1c03fe,
   0xff9, 0xfdb0009, 0x2a03fd, 0xff5, 0xfd0000c, 0x3903fa, 0xff1, 0xfc5000e,
   0x4903f6, 0x10fed, 0xfbb0011, 0x5903f1, 0x10fe9, 0xfb20013, 0x6a03eb, 0x10fe5,
   0xfa90015, 0x7c03e3, 0x20fe1, 0xfa10017, 0x8d03dd, 0x20fdc, 0xf990018, 0xa003d4,
   0x30fd8, 0xf92001a, 0xb203cb, 0x40fd3, 0xf8c001b, 0xc503c2, 0x40fce, 0xf86001c,
   0xd903b7, 0x50fc9, 0xf80001d, 0xed03ac, 0x60fc4, 0xf7c001e, 0x101039f, 0x70fbf] ++
  [0xf78001f, 0x1160391, 0x80fba, 0xf74001f, 0x12a0386, 0x80fb5, 0xf710020, 0x1400376,
   0x90fb0, 0xf6e0020, 0x1550367, 0xb0fab, 0xf6c0020, 0x16b0357, 0xc0fa6, 0xf6a0020,
   0x1800347, 0xd0fa2, 0xf690020, 0x1960336, 0xe0f9d, 0xf690020, 0x1ac0324, 0xf0f98,
   0xf68001f, 0x1c20314, 0x100f93, 0xf69001f, 0x1d902ff, 0x110f8f, 0xf69001e, 0x1ef02ed,
   0x120f8b, 0xf6a001d, 0x20502d9, 0x140f87, 0xf6c001d, 0x21b02c4, 0x150f83, 0xf6e001c,
   0x23102b0, 0x160f7f, 0xf70001b, 0x247029c, 0x170f7b, 0xf72001a, 0x25d0287, 0x180f78] ++
  [0xf750019, 0x2720272, 0x190f75, 0xf780018, 0x287025d, 0x1a0f72, 0xf7b0017, 0x29c0247,
   0x1b0f70, 0xf7f0016, 0x2b00231, 0x1c0f6e, 0xf830015, 0x2c4021b, 0x1d0f6c, 0xf870014,
   0x2d90205, 0x1d0f6a, 0xf8b0012, 0x2ed01ef, 0x1e0f69, 0xf8f0011, 0x2ff01d9, 0x1f0f69,
   0xf930010, 0x31401c2, 0x1f0f68, 0xf98000f, 0x32401ac, 0x200f69, 0xf9d000e, 0x3360196,
   0x200f69, 0xfa2000d, 0x3470180, 0x200f6a, 0xfa6000c, 0x357016b, 0x200f6c, 0xfab000b,
   0x3670155, 0x200f6e, 0xfb00009, 0x3760140, 0x200f71, 0xfb50008, 0x386012a, 0x1f0f74] ++
  [0xfba0008, 0x3910116, 0x1f0f78, 0xfbf0007, 0x39f0101, 0x1e0f7c, 0xfc40006, 0x3ac00ed,
   0x1d0f80, 0xfc90005, 0x3b700d9, 0x1c0f86, 0xfce0004, 0x3c200c5, 0x1b0f8c, 0xfd30004,
   0x3cb00b2, 0x1a0f92, 0xfd80003, 0x3d400a0, 0x180f99, 0xfdc0002, 0x3dd008d, 0x170fa1,
   0xfe10002, 0x3e3007c, 0x150fa9, 0xfe50001, 0x3eb006a, 0x130fb2, 0xfe90001, 0x3f10059,
   0x110fbb, 0xfed0001, 0x3f60049, 0xe0fc5, 0xff10000, 0x3fa0039, 0xc0fd0, 0xff50000,
   0x3fd002a, 0x90fdb, 0xff90000, 0x3fe001c, 0x60fe7, 0xffd0000, 0x3ff000e, 0x30ff3]

/-- Set 1 at reset: the three words of each of its 64 phases (R110, k = 1/2). -/
def coefReset1 : List Nat :=
  [0x12b0000, 0x12b01ec, 0xfbe0000, 0x1260ffd, 0x13001ed, 0xfbd0003, 0x1210ffa, 0x13601ec,
   0xfbc0007, 0x11c0ff7, 0x13b01ed, 0xfbb000a, 0x1170ff4, 0x14001ed, 0xfbb000d, 0x1120ff1,
   0x14501ed, 0xfba0011, 0x10d0fee, 0x14b01ec, 0xfba0014, 0x1080feb, 0x15001ec, 0xfb90018,
   0x1030fe9, 0x15501ea, 0xfb9001c, 0xfe0fe6, 0x15a01ea, 0xfb80020, 0xf90fe4, 0x15f01e9,
   0xfb80023, 0xf30fe1, 0x16401e9, 0xfb80027, 0xee0fdf, 0x16901e8, 0xfb7002b, 0xe90fdc,
   0x16d01e8, 0xfb7002f, 0xe40fda, 0x17201e6, 0xfb70033, 0xdf0fd8, 0x17701e3, 0xfb70038] ++
  [0xd90fd6, 0x17c01e2, 0xfb7003c, 0xd40fd4, 0x18001e1, 0xfb70040, 0xcf0fd2, 0x18501de,
   0xfb70045, 0xca0fd0, 0x18901dd, 0xfb70049, 0xc40fce, 0x18d01dd, 0xfb7004d, 0xbf0fcc,
   0x19201da, 0xfb70052, 0xba0fcb, 0x19601d7, 0xfb80056, 0xb50fc9, 0x19a01d5, 0xfb8005b,
   0xb00fc8, 0x19e01d2, 0xfb80060, 0xaa0fc6, 0x1a201d1, 0xfb90064, 0xa50fc5, 0x1a601ce,
   0xfb90069, 0xa00fc3, 0x1aa01cb, 0xfba006e, 0x9b0fc2, 0x1ae01c7, 0xfbb0073, 0x960fc1,
   0x1b101c5, 0xfbb0078, 0x910fc0, 0x1b501c1, 0xfbc007d, 0x8c0fbf, 0x1b801be, 0xfbd0082] ++
  [0x870fbe, 0x1bc01ba, 0xfbe0087, 0x820fbd, 0x1be01b8, 0xfbf008c, 0x7d0fbc, 0x1c101b5,
   0xfc00091, 0x780fbb, 0x1c501b1, 0xfc10096, 0x730fbb, 0x1c701ae, 0xfc2009b, 0x6e0fba,
   0x1cb01aa, 0xfc300a0, 0x690fb9, 0x1ce01a6, 0xfc500a5, 0x640fb9, 0x1d101a2, 0xfc600aa,
   0x600fb8, 0x1d2019e, 0xfc800b0, 0x5b0fb8, 0x1d5019a, 0xfc900b5, 0x560fb8, 0x1d70196,
   0xfcb00ba, 0x520fb7, 0x1da0192, 0xfcc00bf, 0x4d0fb7, 0x1dd018d, 0xfce00c4, 0x490fb7,
   0x1dd0189, 0xfd000ca, 0x450fb7, 0x1de0185, 0xfd200cf, 0x400fb7, 0x1e10180, 0xfd400d4] ++
  [0x3c0fb7, 0x1e2017c, 0xfd600d9, 0x380fb7, 0x1e30177, 0xfd800df, 0x330fb7, 0x1e60172,
   0xfda00e4, 0x2f0fb7, 0x1e8016d, 0xfdc00e9, 0x2b0fb7, 0x1e80169, 0xfdf00ee, 0x270fb8,
   0x1e90164, 0xfe100f3, 0x230fb8, 0x1e9015f, 0xfe400f9, 0x200fb8, 0x1ea015a, 0xfe600fe,
   0x1c0fb9, 0x1ea0155, 0xfe90103, 0x180fb9, 0x1ec0150, 0xfeb0108, 0x140fba, 0x1ec014b,
   0xfee010d, 0x110fba, 0x1ed0145, 0xff10112, 0xd0fbb, 0x1ed0140, 0xff40117, 0xa0fbb,
   0x1ed013b, 0xff7011c, 0x70fbc, 0x1ec0136, 0xffa0121, 0x30fbd, 0x1ed0130, 0xffd0126]

/-- Set 2 at reset: the three words of each of its 64 phases (R110, k = 1/4). -/
def coefReset2 : List Nat :=
  [0xd60092, 0xd600ef, 0x410092, 0xd50091, 0xd600ef, 0x420093, 0xd4008f, 0xd700ef,
   0x430094, 0xd3008e, 0xd700ef, 0x440095, 0xd1008c, 0xd800f0, 0x450096, 0xd0008b,
   0xd800ef, 0x470097, 0xcf008a, 0xd900ee, 0x480098, 0xce0088, 0xd900ef, 0x490099,
   0xcd0087, 0xda00ee, 0x4a009a, 0xcc0085, 0xda00ee, 0x4b009c, 0xcb0084, 0xdb00ed,
   0x4c009d, 0xca0083, 0xdb00ec, 0x4e009e, 0xc90081, 0xdc00ec, 0x4f009f, 0xc80080,
   0xdc00ec, 0x5000a0, 0xc7007f, 0xdd00eb, 0x5100a1, 0xc6007d, 0xdd00ec, 0x5200a2] ++
  [0xc5007c, 0xde00eb, 0x5300a3, 0xc4007b, 0xde00ea, 0x5500a4, 0xc30079, 0xdf00ea,
   0x5600a5, 0xc20078, 0xdf00ea, 0x5700a6, 0xc10077, 0xe000e9, 0x5800a7, 0xc00075,
   0xe000ea, 0x5900a8, 0xbf0074, 0xe100e8, 0x5b00a9, 0xbe0073, 0xe100e8, 0x5c00aa,
   0xbc0071, 0xe100e9, 0x5d00ac, 0xbb0070, 0xe200e8, 0x5e00ad, 0xba006f, 0xe200e7,
   0x6000ae, 0xb9006d, 0xe300e7, 0x6100af, 0xb8006c, 0xe300e7, 0x6200b0, 0xb7006b,
   0xe400e6, 0x6300b1, 0xb6006a, 0xe400e5, 0x6500b2, 0xb50068, 0xe400e6, 0x6600b3] ++
  [0xb40067, 0xe500e5, 0x6700b4, 0xb30066, 0xe600e4, 0x6800b5, 0xb20065, 0xe500e4,
   0x6a00b6, 0xb10063, 0xe600e4, 0x6b00b7, 0xb00062, 0xe700e3, 0x6c00b8, 0xaf0061,
   0xe700e3, 0x6d00b9, 0xae0060, 0xe700e2, 0x6f00ba, 0xad005e, 0xe800e2, 0x7000bb,
   0xac005d, 0xe900e1, 0x7100bc, 0xaa005c, 0xe800e1, 0x7300be, 0xa9005b, 0xe800e1,
   0x7400bf, 0xa80059, 0xea00e0, 0x7500c0, 0xa70058, 0xe900e0, 0x7700c1, 0xa60057,
   0xea00df, 0x7800c2, 0xa50056, 0xea00df, 0x7900c3, 0xa40055, 0xea00de, 0x7b00c4] ++
  [0xa30053, 0xeb00de, 0x7c00c5, 0xa20052, 0xec00dd, 0x7d00c6, 0xa10051, 0xeb00dd,
   0x7f00c7, 0xa00050, 0xec00dc, 0x8000c8, 0x9f004f, 0xec00dc, 0x8100c9, 0x9e004e,
   0xec00db, 0x8300ca, 0x9d004c, 0xed00db, 0x8400cb, 0x9c004b, 0xee00da, 0x8500cc,
   0x9a004a, 0xee00da, 0x8700cd, 0x990049, 0xef00d9, 0x8800ce, 0x980048, 0xee00d9,
   0x8a00cf, 0x970047, 0xef00d8, 0x8b00d0, 0x960045, 0xf000d8, 0x8c00d1, 0x950044,
   0xef00d7, 0x8e00d3, 0x940043, 0xef00d7, 0x8f00d4, 0x930042, 0xef00d6, 0x9100d5]

/-- Word i of COMP_COEF at reset, i = 192 s + 3 f + j; set 3 holds a copy of set 0 (R110). -/
def coefResetWord (i : Nat) : Nat :=
  match i / 192 with
  | 1 => coefReset1.getD (i - 192) 0
  | 2 => coefReset2.getD (i - 384) 0
  | q => coefReset0.getD (i - 192 * q) 0

end Sys2Proof.Machine
end

