-- ==== Sys2Proof/Machine/Detectors.lean ====
section
/-!
DEFINITION. The detector map: severity, default reaction and kind of each detector (Table 15.2 and the fault tables
07.8, 08.21, 09.7, 10.8, 11.9, 12.5, those of 16_power_watch.md and 17_boot_update_security.md), and the reactions each
may take (Table 15.3).
-/
namespace Sys2Proof.Machine

/-- A detector's map severity (Table 00.7 code); none for a reserved number, which never trips (Table 15.2). -/
def detSev? (d : Nat) : Option Nat :=
  if d ≤ 5 then some 2 else if d = 6 then some 0 else if d ≤ 8 then some 2 else if d = 9 then some 3
  else if d = 10 then some 1 else if d ≤ 12 then some 0
  else if 32 ≤ d ∧ d ≤ 35 then [some 1, some 1, some 0, some 0].getD (d - 32) none
  else if 48 ≤ d ∧ d ≤ 53 then [some 0, some 1, some 1, some 1, some 0, some 1].getD (d - 48) none
  else if 64 ≤ d ∧ d ≤ 69 then [some 0, some 1, some 0, some 1, some 1, some 0].getD (d - 64) none
  else if 80 ≤ d ∧ d ≤ 85 then [some 1, some 1, some 0, some 1, some 1, some 0].getD (d - 80) none
  else if 96 ≤ d ∧ d ≤ 102 then [some 1, some 1, some 0, some 0, some 0, some 1, some 0].getD (d - 96) none
  else if 128 ≤ d ∧ d ≤ 133 then [some 0, some 1, some 1, some 1, some 1, some 0].getD (d - 128) none
  else if 144 ≤ d ∧ d ≤ 153 then
    [some 2, some 1, some 1, some 2, some 0, some 2, some 2, some 2, some 2, some 1].getD (d - 144) none
  else if 160 ≤ d ∧ d ≤ 164 then [some 1, some 0, some 1, some 0, some 1].getD (d - 160) none
  else if 176 ≤ d ∧ d ≤ 183 then
    [some 0, some 0, some 0, some 0, some 1, some 0, some 1, some 0].getD (d - 176) none
  else if 192 ≤ d ∧ d ≤ 202 then
    [some 2, some 2, some 1, some 2, some 2, some 2, some 0, some 2, some 2, some 0, some 0].getD (d - 192) none
  else if 224 ≤ d ∧ d ≤ 226 then some 0
  else if 256 ≤ d ∧ d ≤ 268 then
    [some 1, some 2, some 2, some 0, some 1, some 3, some 1, some 0, some 2, some 0, some 0, some 0, some 0].getD
      (d - 256) none
  else if 320 ≤ d ∧ d ≤ 332 then
    [some 0, some 1, some 2, some 2, some 3, some 1, some 0, some 0, some 1, some 0, some 0, some 2, some 0].getD
      (d - 320) none
  else none

/-- A detector's default reaction (Table 15.3 code): Table 15.2, Table 12.5 ("port off" is hold the output safe) and
the fault table of 16_power_watch.md; log only where none is given. -/
def detReact (d : Nat) : Nat :=
  if d ≤ 4 ∨ d = 8 then 2 else if d = 9 then 4
  else if [192, 193, 195, 196, 197, 199, 200, 258, 261].contains d then 5
  else if d = 257 then 6 else 0

/-- The detectors whose faults are events: those whose chapter gives no recovery condition (text after Table 15.2). -/
def detEvents : List Nat :=
  [11, 12, 34, 48, 51, 52, 64, 66, 69, 82, 85, 99, 100, 128, 133, 148, 149, 161, 163, 176, 177, 178, 179, 181, 183,
   198, 202, 224, 225, 226, 259, 264, 265, 266, 268, 320, 321, 322, 323, 324, 325, 326, 327, 328, 329, 330, 331, 332]

/-- A detector whose fault is an event. -/
def detEvent (d : Nat) : Bool := detEvents.contains d

/-- Whether a standing fault of a detector has a recovery condition of its chapter beside its quiet period: not detectors 0
to 9 (R446), nor the lamp faults that recover after the quiet period (Table 12.5). -/
def detHasCond (d : Nat) : Bool := decide (10 ≤ d) && !([192, 193, 195, 196, 197, 199].contains d)

/-- Detectors of Tables 07.8 and 08.21 whose instance is a group, and those whose instance is a lane. -/
def detOfGroup (d : Nat) : Bool := d == 100 || d == 101 || (130 ≤ d && d ≤ 133)
def detOfLane (d : Nat) : Bool := d == 80 || (96 ≤ d && d ≤ 99) || d == 102 || d == 128 || d == 129

/-- Whether a detector may take a reaction (Table 15.3, "Allowed for"). -/
def detAllowed (d r : Nat) : Bool :=
  match r with
  | 1 => (48 ≤ d && d ≤ 53) || d == 66 || (176 ≤ d && d ≤ 183) || (192 ≤ d && d ≤ 202)
  | 2 => d ≤ 4 || d == 8 || (48 ≤ d && d ≤ 53) || (160 ≤ d && d ≤ 164)
  | 3 => (96 ≤ d && d ≤ 102) || (128 ≤ d && d ≤ 133)
  | 0 | 4 | 5 | 6 => true
  | _ => false

/-- FLT_DET_CFG of a detector at reset (Table 15.11); 0 for a reserved number. -/
def detCfgReset (d : Nat) : Nat :=
  match detSev? d with
  | some v => v + detReact d * 4 + detReact d * 32 + 10 * 256 + 4 * 65536 + 60 * 1048576
  | none => 0

end Sys2Proof.Machine
end

