-- ==== Sys2Proof/Machine/Regs.lean ====
section
/-!
DEFINITION. The register map: every register of Table 18.9 with its address, array strides, access type, reset value
and writable bits, as the block maps of the chapters give them (R521, R525, R530).
-/
namespace Sys2Proof.Machine

/-- Access types (Table 00.4). -/
inductive Access where
  | ro | rw | wo | w1c | rc
  deriving DecidableEq, Repr

/-- One register or array of registers: its first address, its array dimensions (count, stride in bytes), access type,
reset value, writable bits, and whether it is a 64-bit pair (last dimension its two words) or a counter (R10, R75). -/
structure RegDesc where
  base  : Nat
  dims  : List (Nat × Nat)
  acc   : Access
  reset : Nat
  wmask : Nat
  pair  : Bool
  ctr   : Bool
  deriving DecidableEq, Repr

namespace Reg

def SYS_ID : Nat := 0x0
def SYS_UID (i : Nat) : Nat := 0x10 + 4 * i
def SYS_BOOT_COUNT : Nat := 0x20
def SYS_RESET_CAUSE : Nat := 0x24
def SYS_BOOT_AT : Nat := 0x28
def SYS_ACC_ERR : Nat := 0x30
def SYS_ACC_ERR_ADDR : Nat := 0x38
def SYS_ACC_ERR_INFO : Nat := 0x3c
def SYS_SCRATCH : Nat := 0x40
def CLK_STAT : Nat := 0x10000
def CLK_LANE_LOCK : Nat := 0x10004
def CLK_REF_PPM : Nat := 0x10008
def CLK_REF_LOSS : Nat := 0x10010
def CLK_UNLOCK : Nat := 0x10018
def TIME_NOW : Nat := 0x20000
def TIME_NOW_FRAC : Nat := 0x20008
def TIME_TALLY : Nat := 0x20010
def TIME_RATE : Nat := 0x20018
def TIME_SRC_RANK : Nat := 0x20020
def TIME_SERVO_STAT : Nat := 0x20024
def TIME_OFFSET : Nat := 0x20028
def TIME_FREQ_ADJ : Nat := 0x2002c
def TIME_JUMP_THR : Nat := 0x20030
def TIME_STEP_CMD : Nat := 0x20034
def TIME_STEP : Nat := 0x20038
def TIME_HOLD_MS : Nat := 0x20040
def TIME_PORT_CTRL (i : Nat) : Nat := 0x20100 + 64 * i
def TIME_PORT_ASYM (i : Nat) : Nat := 0x20104 + 64 * i
def TIME_PORT_TXLAT (i : Nat) : Nat := 0x20108 + 64 * i
def TIME_PORT_RXLAT (i : Nat) : Nat := 0x2010c + 64 * i
def TIME_PORT_MPD (i : Nat) : Nat := 0x20110 + 64 * i
def TIME_RXQ_STAT (i : Nat) : Nat := 0x20114 + 64 * i
def TIME_RXQ_W0 (i : Nat) : Nat := 0x20118 + 64 * i
def TIME_RXQ_W1 (i : Nat) : Nat := 0x2011c + 64 * i
def TIME_RXQ_W2 (i : Nat) : Nat := 0x20120 + 64 * i
def TIME_RXQ_W3 (i : Nat) : Nat := 0x20124 + 64 * i
def TIME_RXQ_DROP (i : Nat) : Nat := 0x20128 + 64 * i
def TIME_TPIN_CTRL (i : Nat) : Nat := 0x20300 + 32 * i
def TIME_TPIN_AT (i : Nat) : Nat := 0x20304 + 32 * i
def TIME_TPIN_PERIOD (i : Nat) : Nat := 0x2030c + 32 * i
def TIME_TPIN_WIDTH (i : Nat) : Nat := 0x20310 + 32 * i
def TIME_TPIN_CAP (i : Nat) : Nat := 0x20314 + 32 * i
def TIME_TPIN_CAP_STAT (i : Nat) : Nat := 0x2031c + 32 * i
def TIME_LTC_STAT : Nat := 0x20400
def TIME_LTC_CODE : Nat := 0x20404
def TIME_LTC_AT : Nat := 0x20408
def TIME_WCLK_STAT : Nat := 0x20420
def TIME_WCLK_PPM : Nat := 0x20424
def TIME_WCLK_PHASE : Nat := 0x20428
def TIME_SNAP_CTRL : Nat := 0x20440
def TIME_SNAP_AT : Nat := 0x20444
def TIME_SNAP_STAT : Nat := 0x2044c
def LANE_LINKED : Nat := 0x30000
def LANE_LOS_MAP : Nat := 0x30004
def LANE_TEST_MAP : Nat := 0x30008
def LANE_CFG (i : Nat) : Nat := 0x30100 + 128 * i
def LANE_TXEQ (i : Nat) : Nat := 0x30104 + 128 * i
def LANE_CMD (i : Nat) : Nat := 0x30108 + 128 * i
def LANE_STATE (i : Nat) : Nat := 0x3010c + 128 * i
def LANE_PARTNER (i : Nat) : Nat := 0x30110 + 128 * i
def LANE_BACKOFF (i : Nat) : Nat := 0x30114 + 128 * i
def LANE_LB (i : Nat) : Nat := 0x30118 + 128 * i
def LANE_PRBS_CFG (i : Nat) : Nat := 0x3011c + 128 * i
def LANE_PRBS_STAT (i : Nat) : Nat := 0x30120 + 128 * i
def LANE_PRBS_ERR (i : Nat) : Nat := 0x30124 + 128 * i
def LANE_PRBS_BITS (i : Nat) : Nat := 0x3012c + 128 * i
def LANE_EYE_CMD (i : Nat) : Nat := 0x30134 + 128 * i
def LANE_EYE_STAT (i : Nat) : Nat := 0x30138 + 128 * i
def LANE_EYE_ERR (i : Nat) : Nat := 0x3013c + 128 * i
def LANE_MARGIN (i : Nat) : Nat := 0x30144 + 128 * i
def LANE_LOCK_LOSS (i : Nat) : Nat := 0x30148 + 128 * i
def LANE_TRAIN (i : Nat) : Nat := 0x30150 + 128 * i
def LANE_STEP_FAIL (i : Nat) : Nat := 0x30158 + 128 * i
def LANE_LOS (i : Nat) : Nat := 0x30160 + 128 * i
def LANE_LINKED_AT (i : Nat) : Nat := 0x30168 + 128 * i
def SLK_NODE_ID : Nat := 0x40000
def SLK_HOP_LIMIT : Nat := 0x40004
def SLK_TOPO : Nat := 0x40008
def SLK_ROUTE_COUNT : Nat := 0x4000c
def SLK_DUP : Nat := 0x40010
def SLK_ROUTE_MISS : Nat := 0x40018
def SLK_STREAM_CONFLICT : Nat := 0x40020
def SLK_GRP_STAT (i : Nat) : Nat := 0x40100 + 64 * i
def SLK_GRP_SKEW (i : Nat) : Nat := 0x40104 + 64 * i
def SLK_GRP_PEER (i : Nat) : Nat := 0x40108 + 64 * i
def SLK_GRP_MPD (i : Nat) : Nat := 0x4010c + 64 * i
def SLK_GRP_RESTRIPE (i : Nat) : Nat := 0x40110 + 64 * i
def SLK_GRP_SHED (i : Nat) : Nat := 0x40118 + 64 * i
def SLK_GRP_TX (i : Nat) : Nat := 0x40120 + 64 * i
def SLK_GRP_RX (i : Nat) : Nat := 0x40128 + 64 * i
def SLK_GRP_HOPDROP (i : Nat) : Nat := 0x40130 + 64 * i
def SLK_STREAM_CLASS (i : Nat) : Nat := 0x40400 + 4 * i
def SLK_STREAM_FWD (i : Nat) : Nat := 0x40800 + 4 * i
def SLK_LANE_CRC_ERR (i : Nat) : Nat := 0x41000 + 32 * i
def SLK_LANE_BAD_BLOCK (i : Nat) : Nat := 0x41008 + 32 * i
def SLK_LANE_DROP (i : Nat) : Nat := 0x41010 + 32 * i
def SLK_LANE_CREDIT (i : Nat) : Nat := 0x41018 + 32 * i
def MAC_CFG (i : Nat) : Nat := 0x50000 + 4096 * i
def MAC_ADDR_LO (i : Nat) : Nat := 0x50004 + 4096 * i
def MAC_ADDR_HI (i : Nat) : Nat := 0x50008 + 4096 * i
def MAC_IPV4 (i : Nat) : Nat := 0x5000c + 4096 * i
def MAC_STAT (i : Nat) : Nat := 0x50010 + 4096 * i
def MAC_PAUSE_CFG (i : Nat) : Nat := 0x50014 + 4096 * i
def MAC_PAUSE_WIN (i : Nat) : Nat := 0x50018 + 4096 * i
def MAC_FLT_SEL (i : Nat) : Nat := 0x5001c + 4096 * i
def MAC_FLT_COMMIT (i : Nat) : Nat := 0x50020 + 4096 * i
def MAC_FLT_STAT (i : Nat) : Nat := 0x50024 + 4096 * i
def MAC_MCAST_COUNT (i : Nat) : Nat := 0x50028 + 4096 * i
def MAC_FLT_WIN (i : Nat) (j : Nat) : Nat := 0x50040 + 4096 * i + 4 * j
def MAC_RX_OK (i : Nat) : Nat := 0x50100 + 4096 * i
def MAC_RX_RUNT (i : Nat) : Nat := 0x50108 + 4096 * i
def MAC_RX_OVERSIZE (i : Nat) : Nat := 0x50110 + 4096 * i
def MAC_RX_FCS (i : Nat) : Nat := 0x50118 + 4096 * i
def MAC_RX_IP_ERR (i : Nat) : Nat := 0x50120 + 4096 * i
def MAC_RX_NOMATCH (i : Nat) : Nat := 0x50128 + 4096 * i
def MAC_RX_DROP (i : Nat) : Nat := 0x50130 + 4096 * i
def MAC_TX_OK (i : Nat) : Nat := 0x50138 + 4096 * i
def MAC_PAUSE_RX (i : Nat) : Nat := 0x50140 + 4096 * i
def MAC_PFC_RX (i : Nat) : Nat := 0x50148 + 4096 * i
def MAC_PAUSE_IGNORED (i : Nat) : Nat := 0x50150 + 4096 * i
def MAC_CTRL_BAD (i : Nat) : Nat := 0x50158 + 4096 * i
def MAC_WDOG_TRIP (i : Nat) : Nat := 0x50160 + 4096 * i
def MAC_PAUSED_NS (i : Nat) : Nat := 0x50168 + 4096 * i
def MAC_FEC_CORR (i : Nat) : Nat := 0x50170 + 4096 * i
def MAC_FEC_UNCORR (i : Nat) : Nat := 0x50178 + 4096 * i
def MAC_TXQ_DROP (i : Nat) (j : Nat) : Nat := 0x50200 + 4096 * i + 8 * j
def MAC_FLT (i : Nat) (j : Nat) : Nat := 0x50400 + 4096 * i + 4 * j
def ING_STAGE_TOTAL : Nat := 0x60000
def ING_STAGE_FREE : Nat := 0x60004
def ING_PRES_OFFSET : Nat := 0x60008
def ING_CANVAS_PRIM : Nat := 0x6000c
def ING_SRC_HANDLE (i : Nat) : Nat := 0x60400 + 256 * i
def ING_SRC_CFG (i : Nat) : Nat := 0x60404 + 256 * i
def ING_SRC_SIZE (i : Nat) : Nat := 0x60408 + 256 * i
def ING_SRC_XFER (i : Nat) : Nat := 0x6040c + 256 * i
def ING_SRC_P0_ADDR (i : Nat) : Nat := 0x60410 + 256 * i
def ING_SRC_P0_PORT (i : Nat) : Nat := 0x60414 + 256 * i
def ING_SRC_P1_ADDR (i : Nat) : Nat := 0x60418 + 256 * i
def ING_SRC_P1_PORT (i : Nat) : Nat := 0x6041c + 256 * i
def ING_SRC_CLIP (i : Nat) : Nat := 0x60420 + 256 * i
def ING_SRC_START (i : Nat) : Nat := 0x60424 + 256 * i
def ING_SRC_PQ_PEAK (i : Nat) : Nat := 0x6042c + 256 * i
def ING_SRC_BUF_BASE (i : Nat) : Nat := 0x60430 + 256 * i
def ING_SRC_BUF_SIZE (i : Nat) : Nat := 0x60434 + 256 * i
def ING_SRC_STATE (i : Nat) : Nat := 0x60438 + 256 * i
def ING_SRC_LAST_MT (i : Nat) : Nat := 0x6043c + 256 * i
def ING_SRC_FRAMES (i : Nat) : Nat := 0x60444 + 256 * i
def ING_SRC_LATE (i : Nat) : Nat := 0x6044c + 256 * i
def ING_SRC_SKIP (i : Nat) : Nat := 0x60454 + 256 * i
def ING_SRC_OVERRUN (i : Nat) : Nat := 0x6045c + 256 * i
def ING_SRC_REJECT (i : Nat) : Nat := 0x60464 + 256 * i
def ING_SRC_P0_LOST (i : Nat) : Nat := 0x6046c + 256 * i
def ING_SRC_P1_LOST (i : Nat) : Nat := 0x60474 + 256 * i
def ING_SRC_DUP (i : Nat) : Nat := 0x6047c + 256 * i
def ING_SRC_LATE_AT (i : Nat) : Nat := 0x60484 + 256 * i
def ING_SRC_EXPORT (i : Nat) : Nat := 0x6048c + 256 * i
def COMP_CANVAS_W : Nat := 0x70000
def COMP_CANVAS_H : Nat := 0x70004
def COMP_MODE : Nat := 0x70008
def COMP_BUDGET : Nat := 0x7000c
def COMP_COST : Nat := 0x70010
def COMP_COST_PEAK : Nat := 0x70014
def COMP_LIVE : Nat := 0x70018
def COMP_PENDING_UNITS : Nat := 0x7001c
def COMP_REPEAT : Nat := 0x70020
def COMP_ABORT : Nat := 0x70028
def COMP_ABORT_AT : Nat := 0x70030
def COMP_ABORT_LINE : Nat := 0x70038
def COMP_REFUSED : Nat := 0x70040
def COMP_STALE : Nat := 0x70048
def COMP_COEF_COMMIT : Nat := 0x70050
def COMP_COEF_STAT : Nat := 0x70054
def COMP_LAYER_HANDLE (i : Nat) : Nat := 0x71000 + 64 * i
def COMP_LAYER_SRC (i : Nat) : Nat := 0x71004 + 64 * i
def COMP_LAYER_CTRL (i : Nat) : Nat := 0x71008 + 64 * i
def COMP_LAYER_POS (i : Nat) : Nat := 0x7100c + 64 * i
def COMP_LAYER_CROP_ORG (i : Nat) : Nat := 0x71010 + 64 * i
def COMP_LAYER_CROP_SIZE (i : Nat) : Nat := 0x71014 + 64 * i
def COMP_LAYER_DST_SIZE (i : Nat) : Nat := 0x71018 + 64 * i
def COMP_LAYER_CLIP_ORG (i : Nat) : Nat := 0x7101c + 64 * i
def COMP_LAYER_CLIP_SIZE (i : Nat) : Nat := 0x71020 + 64 * i
def COMP_LAYER_MASK_CFG (i : Nat) : Nat := 0x71024 + 64 * i
def COMP_LAYER_MASK_SIZE (i : Nat) : Nat := 0x71028 + 64 * i
def COMP_LAYER_MASK_BASE (i : Nat) : Nat := 0x7102c + 64 * i
def COMP_LAYER_COMMIT (i : Nat) : Nat := 0x71030 + 64 * i
def COMP_LAYER_STAT (i : Nat) : Nat := 0x71034 + 64 * i
def COMP_LAYER_EFF_TALLY (i : Nat) : Nat := 0x71038 + 64 * i
def COMP_LAYER_COST (i : Nat) : Nat := 0x7103c + 64 * i
def COMP_COEF (i : Nat) : Nat := 0x74000 + 4 * i
def CAL_CTRL : Nat := 0x80000
def CAL_TEMP_DEFAULT : Nat := 0x80004
def CAL_STORE_BASE : Nat := 0x80008
def CAL_BRIGHT : Nat := 0x8000c
def CAL_BRIGHT_TARGET : Nat := 0x80010
def CAL_BRIGHT_RAMP : Nat := 0x80014
def CAL_BRIGHT_EFF : Nat := 0x80018
def CAL_AMB_CFG : Nat := 0x8001c
def CAL_AMB_PT (i : Nat) : Nat := 0x80020 + 4 * i
def CAL_BIN_SEL : Nat := 0x80040
def CAL_BIN_COMMIT : Nat := 0x80044
def CAL_BIN_STAT : Nat := 0x80048
def CAL_TILE_RELOAD : Nat := 0x8004c
def CAL_OVERLAP : Nat := 0x80050
def CAL_TEMP_HELD : Nat := 0x80060
def CAL_TEMP_BAD : Nat := 0x80068
def CAL_UPLOADS : Nat := 0x80070
def CAL_UPLOAD_FAIL : Nat := 0x80078
def CAL_STALE : Nat := 0x80080
def CAL_MARKED : Nat := 0x80088
def CAL_BIN_WIN (i : Nat) : Nat := 0x81000 + 4 * i
def CAL_TILE_STAT (i : Nat) : Nat := 0x82000 + 4 * i
def SCAN_CTRL : Nat := 0x90000
def SCAN_SUBFRAME : Nat := 0x90004
def SCAN_EMIT_OFFSET : Nat := 0x90008
def SCAN_LOSS_HOLD : Nat := 0x9000c
def SCAN_STAT : Nat := 0x90010
def SCAN_MAP_SEL : Nat := 0x90014
def SCAN_MAP_COMMIT : Nat := 0x90018
def SCAN_MAP_STAT : Nat := 0x9001c
def SCAN_MAP_EFF : Nat := 0x90020
def SCAN_UNMAPPED : Nat := 0x90024
def SCAN_SENT : Nat := 0x90040
def SCAN_ABORT_TOK : Nat := 0x90048
def SCAN_HOLD_ENTER : Nat := 0x90050
def SCAN_TILE_LOST : Nat := 0x90058
def SCAN_REMAP : Nat := 0x90060
def SCAN_INCOMPLETE : Nat := 0x90068
def SCAN_STALE : Nat := 0x90070
def SCAN_MAP_WIN (i : Nat) : Nat := 0x90100 + 4 * i
def SCAN_LINK_CFG (i : Nat) : Nat := 0x90400 + 16 * i
def SCAN_LINK_STAT (i : Nat) : Nat := 0x90404 + 16 * i
def SCAN_LINK_LOAD (i : Nat) : Nat := 0x90408 + 16 * i
def SCAN_TILE_STAT (i : Nat) : Nat := 0x92000 + 4 * i
def PROBE_AREA : Nat := 0xa0000
def PROBE_AREA_LIMIT : Nat := 0xa0004
def PROBE_COUNT : Nat := 0xa0008
def PROBE_SEL : Nat := 0xa000c
def PROBE_COMMIT : Nat := 0xa0010
def PROBE_STAT : Nat := 0xa0014
def PROBE_EFF : Nat := 0xa0018
def PROBE_EMIT_COMMIT : Nat := 0xa001c
def PROBE_EMIT_STAT : Nat := 0xa0020
def PROBE_REPEAT : Nat := 0xa0028
def PROBE_PEEK_SEL : Nat := 0xa0030
def PROBE_PEEK_TALLY : Nat := 0xa0034
def PROBE_PEEK_V (i : Nat) : Nat := 0xa0038 + 4 * i
def PROBE_WIN (i : Nat) : Nat := 0xa1000 + 4 * i
def PROBE_EMIT_WIN (i : Nat) : Nat := 0xa2000 + 4 * i
def WAY_COUNT : Nat := 0xb0000
def WAY_SEL : Nat := 0xb0004
def WAY_COMMIT : Nat := 0xb0008
def WAY_STAT : Nat := 0xb000c
def WAY_EFF : Nat := 0xb0010
def WAY_PEEK_SEL : Nat := 0xb0014
def WAY_PEEK_VAL : Nat := 0xb0018
def WAY_PEEK_LATE : Nat := 0xb001c
def WAY_UNIV_SEL : Nat := 0xb0024
def WAY_UNIV_STAT : Nat := 0xb0028
def WAY_SACN_CID (i : Nat) : Nat := 0xb0030 + 4 * i
def WAY_LATE : Nat := 0xb0040
def WAY_DORMANT : Nat := 0xb0048
def WAY_TILE_FAIL : Nat := 0xb0050
def WAY_SACN_TX : Nat := 0xb0058
def WAY_SACN_RX : Nat := 0xb0060
def WAY_SACN_SEQ_DROP : Nat := 0xb0068
def WAY_SACN_IGNORED : Nat := 0xb0070
def WAY_SACN_SRC_OVER : Nat := 0xb0078
def WAY_SACN_LATE : Nat := 0xb0080
def WAY_WIN (i : Nat) : Nat := 0xb1000 + 4 * i
def WAY_PARAM (i : Nat) : Nat := 0xb2000 + 4 * i
def DMX_CFG (i : Nat) : Nat := 0xc0100 + 64 * i
def DMX_TIMING (i : Nat) : Nat := 0xc0104 + 64 * i
def DMX_STAT (i : Nat) : Nat := 0xc0108 + 64 * i
def DMX_CMD (i : Nat) : Nat := 0xc010c + 64 * i
def DMX_FRAMES (i : Nat) : Nat := 0xc0110 + 64 * i
def DMX_SKIPPED (i : Nat) : Nat := 0xc0118 + 64 * i
def DMX_RDM_TX (i : Nat) : Nat := 0xc0120 + 64 * i
def DMX_RDM_TIMEOUT (i : Nat) : Nat := 0xc0128 + 64 * i
def DMX_RDM_BAD (i : Nat) : Nat := 0xc0130 + 64 * i
def DMX_RDM_FULL (i : Nat) : Nat := 0xc0138 + 64 * i
def DMX_UID (i : Nat) : Nat := 0xc1000 + 4 * i
def LAMP_STAT : Nat := 0xd0000
def LAMP_PWM_CFG : Nat := 0xd0004
def LAMP_PWM_PERIOD : Nat := 0xd0008
def LAMP_SW_FREQ : Nat := 0xd000c
def LAMP_QG_LOAD : Nat := 0xd0010
def LAMP_TMIN_ON : Nat := 0xd0014
def LAMP_ADJ_SEL : Nat := 0xd0018
def LAMP_ADJ : Nat := 0xd001c
def LAMP_NTC (i : Nat) : Nat := 0xd0040 + 4 * i
def LAMP_LINK_RETRY : Nat := 0xd0080
def LAMP_HOLD : Nat := 0xd0088
def LAMP_PORT_CFG (i : Nat) : Nat := 0xd0100 + 64 * i
def LAMP_PORT_ELEC (i : Nat) : Nat := 0xd0104 + 64 * i
def LAMP_PORT_VLIM (i : Nat) : Nat := 0xd0108 + 64 * i
def LAMP_PORT_VFB (i : Nat) : Nat := 0xd010c + 64 * i
def LAMP_PORT_DIM (i : Nat) : Nat := 0xd0110 + 64 * i
def LAMP_PORT_THERM (i : Nat) : Nat := 0xd0114 + 64 * i
def LAMP_PORT_COMP (i : Nat) : Nat := 0xd0118 + 64 * i
def LAMP_PORT_TREF (i : Nat) : Nat := 0xd011c + 64 * i
def LAMP_PORT_STAT (i : Nat) : Nat := 0xd0120 + 64 * i
def LAMP_PORT_MEAS_I (i : Nat) : Nat := 0xd0124 + 64 * i
def LAMP_PORT_MEAS_V (i : Nat) : Nat := 0xd0128 + 64 * i
def LAMP_PORT_TJ (i : Nat) : Nat := 0xd012c + 64 * i
def LAMP_PORT_OUT (i : Nat) : Nat := 0xd0130 + 64 * i
def LAMP_PORT_FLT (i : Nat) : Nat := 0xd0134 + 64 * i
def LAMP_PORT_SKIP (i : Nat) : Nat := 0xd0138 + 64 * i
def LAMP_GRP_HANDLE (i : Nat) : Nat := 0xd1000 + 64 * i
def LAMP_GRP_CFG (i : Nat) : Nat := 0xd1004 + 64 * i
def LAMP_GRP_PORTS (i : Nat) : Nat := 0xd1008 + 64 * i
def LAMP_GRP_L01 (i : Nat) : Nat := 0xd100c + 64 * i
def LAMP_GRP_L23 (i : Nat) : Nat := 0xd1010 + 64 * i
def LAMP_GRP_L45 (i : Nat) : Nat := 0xd1014 + 64 * i
def LAMP_GRP_MASTER (i : Nat) : Nat := 0xd1018 + 64 * i
def LAMP_GRP_STAT (i : Nat) : Nat := 0xd101c + 64 * i
def LAMP_GRP_APPLIED (i : Nat) : Nat := 0xd1020 + 64 * i
def LAMP_PAT_HANDLE (i : Nat) : Nat := 0xd2000 + 64 * i
def LAMP_PAT_CFG (i : Nat) : Nat := 0xd2004 + 64 * i
def LAMP_PAT_MEMBERS (i : Nat) : Nat := 0xd2008 + 64 * i
def LAMP_PAT_P01 (i : Nat) : Nat := 0xd200c + 64 * i
def LAMP_PAT_P23 (i : Nat) : Nat := 0xd2010 + 64 * i
def LAMP_PAT_P45 (i : Nat) : Nat := 0xd2014 + 64 * i
def LAMP_PAT_P6 (i : Nat) : Nat := 0xd2018 + 64 * i
def LAMP_PAT_ORIGIN (i : Nat) : Nat := 0xd201c + 64 * i
def LAMP_PAT_STAT (i : Nat) : Nat := 0xd2024 + 64 * i
def BERTH_COUNT : Nat := 0xe0000
def BERTH_FREE : Nat := 0xe0004
def BERTH_KIND_COUNT (i : Nat) : Nat := 0xe0014 + 4 * i
def BERTH_STALE : Nat := 0xe0040
def BERTH_CREATED : Nat := 0xe0048
def BERTH_DESTROYED : Nat := 0xe0050
def BERTH_REFUSED : Nat := 0xe0058
def BERTH_STALE_AT : Nat := 0xe0060
def BERTH_ENTRY_HANDLE (i : Nat) : Nat := 0xe1000 + 8 * i
def BERTH_ENTRY_STAT (i : Nat) : Nat := 0xe1004 + 8 * i
def CUE_PENDING : Nat := 0xf0000
def CUE_CMD : Nat := 0xf0004
def CUE_ARG : Nat := 0xf0008
def CUE_RESULT : Nat := 0xf000c
def CUE_RESULT_ID : Nat := 0xf0010
def CUE_EXECUTED : Nat := 0xf0020
def CUE_CANCELLED : Nat := 0xf0028
def CUE_MISSED : Nat := 0xf0030
def CUE_LATE : Nat := 0xf0038
def CUE_STALE : Nat := 0xf0040
def CUE_TC_LOCAL : Nat := 0xf0048
def CUE_NEW (i : Nat) : Nat := 0xf0100 + 4 * i
def CUE_VIEW (i : Nat) : Nat := 0xf0200 + 4 * i
def CUE_VIEW_STAT : Nat := 0xf0240
def CUE_VIEW_AT : Nat := 0xf0244
def CUE_VIEW_TALLY : Nat := 0xf024c
def CUE_VIEW_CAUSE : Nat := 0xf0250
def FERRY_TIMEOUT : Nat := 0x100000
def FERRY_OUTSTANDING : Nat := 0x100004
def FERRY_QMP_CFG : Nat := 0x100008
def FERRY_QMP_SESSIONS : Nat := 0x10000c
def FERRY_PW_FAIL : Nat := 0x100010
def FERRY_PW_FAIL_STAT : Nat := 0x100018
def FERRY_PW_FAIL_AT : Nat := 0x10001c
def FERRY_PW_FAILS : Nat := 0x100040
def FERRY_TIMEOUTS : Nat := 0x100048
def FERRY_RETRY : Nat := 0x100050
def FERRY_LOCK_FAIL : Nat := 0x100058
def FERRY_ESCORT_TILE : Nat := 0x100060
def FERRY_QMP_RX : Nat := 0x100068
def FERRY_QMP_BAD : Nat := 0x100070
def FERRY_QMP_AUTH_FAIL : Nat := 0x100078
def FERRY_QMP_REPLAY : Nat := 0x100080
def FERRY_RANGE_SEL : Nat := 0x100090
def FERRY_RANGE_COMMIT : Nat := 0x100094
def FERRY_RANGE_STAT : Nat := 0x100098
def FERRY_RANGE_WIN (i : Nat) : Nat := 0x100100 + 4 * i
def FERRY_RANGE (i : Nat) : Nat := 0x100400 + 4 * i
def FERRY_RANGE_DISC (i : Nat) : Nat := 0x101000 + 16 * i
def FERRY_RANGE_DADDR (i : Nat) : Nat := 0x101008 + 16 * i
def FERRY_NODE_MAP (i : Nat) : Nat := 0x102004 + 4 * i
def PIER_CFG : Nat := 0x110000
def PIER_IRQ_STAT : Nat := 0x110004
def PIER_IRQ_MASK : Nat := 0x110008
def PIER_OQ_STAT (i : Nat) : Nat := 0x110010 + 4 * i
def PIER_IQ_STAT (i : Nat) : Nat := 0x110030 + 4 * i
def PIER_OQ_CFG (i : Nat) : Nat := 0x110040 + 4 * i
def PIER_ECC_CORR : Nat := 0x110080
def PIER_ECC_UNCORR : Nat := 0x110088
def PIER_OQ_DROP : Nat := 0x110090
def PIER_IQ_OVERRUN : Nat := 0x110098
def PIER_STALE : Nat := 0x1100a0
def PIER_BAD_CMD : Nat := 0x1100a8
def FLT_CFG : Nat := 0x120000
def FLT_STAT : Nat := 0x120004
def FLT_CMD : Nat := 0x120008
def FLT_DET_SEL : Nat := 0x12000c
def FLT_INST_STAT : Nat := 0x120010
def FLT_FIRST (i : Nat) : Nat := 0x120020 + 4 * i
def FLT_LOG_HEAD : Nat := 0x120040
def FLT_LOG_SEL : Nat := 0x120044
def FLT_LOG_STAT : Nat := 0x120048
def FLT_RAISED : Nat := 0x120060
def FLT_RECOVERED : Nat := 0x120068
def FLT_CONSEQ : Nat := 0x120070
def FLT_RAIL : Nat := 0x120078
def FLT_ESCALATED : Nat := 0x120080
def FLT_WITHHELD : Nat := 0x120088
def FLT_LOG_LOST : Nat := 0x120090
def FLT_LOG_WIN (i : Nat) : Nat := 0x120100 + 4 * i
def FLT_INJECT_TGT : Nat := 0x120200
def FLT_INJECT_CMD : Nat := 0x120204
def FLT_DET_CFG (i : Nat) : Nat := 0x121000 + 8 * i
def FLT_DET_STAT (i : Nat) : Nat := 0x121004 + 8 * i
def RSV_POLICY : Nat := 0x130000
def RSV_STAT : Nat := 0x130004
def RSV_CMD : Nat := 0x130008
def RSV_RESULT : Nat := 0x13000c
def RSV_HOLD_MAP : Nat := 0x130010
def RSV_THR_ECC : Nat := 0x130014
def RSV_THR_EYE : Nat := 0x130018
def RSV_BANK_ECC (i : Nat) : Nat := 0x130100 + 8 * i
def RSV_BANK_UNCORR (i : Nat) : Nat := 0x130200 + 4 * i
def RSV_CORE_STAT (i : Nat) : Nat := 0x130300 + 4 * i
def RSV_LANE_MARGIN (i : Nat) : Nat := 0x130400 + 4 * i
def RSV_SENSE_DRIFT (i : Nat) : Nat := 0x130500 + 4 * i
def RSV_OTP_SPARE : Nat := 0x130600
def RSV_NVM_SPARE : Nat := 0x130604
def PWR_STAT : Nat := 0x140000
def PWR_CMD : Nat := 0x140004
def PWR_QUIET_EFF : Nat := 0x140008
def PWR_BROWN_LAST : Nat := 0x14000c
def PWR_BROWN_MIN : Nat := 0x140010
def PWR_BROWN_COUNT : Nat := 0x140018
def PWR_QUIET_ENTER : Nat := 0x140020
def PWR_TRIM_STAT : Nat := 0x140030
def PWR_TRIM_SEL : Nat := 0x140034
def PWR_TRIM_VAL : Nat := 0x140038
def PWR_REF_MEAS : Nat := 0x14003c
def PWR_TRIM_WRITES : Nat := 0x140040
def WATCH_STAT : Nat := 0x150000
def WATCH_RULE_TRUE : Nat := 0x150004
def WATCH_SCHED_DELAY : Nat := 0x150008
def WATCH_PIN_CFG : Nat := 0x15000c
def WATCH_WAKES : Nat := 0x150010
def WATCH_I2C_FAIL : Nat := 0x150018
def WATCH_WAKE_DROP : Nat := 0x150020
def WATCH_VAL (i : Nat) : Nat := 0x150100 + 4 * i
def WATCH_VAL_CFG (i : Nat) : Nat := 0x150200 + 4 * i
def WATCH_RULE (i : Nat) : Nat := 0x150400 + 4 * i
def WATCH_I2C (i : Nat) : Nat := 0x150800 + 4 * i
def KEEP_STAT : Nat := 0x160000
def KEEP_RTC_TRIM : Nat := 0x160004
def KEEP_RTC : Nat := 0x160008
def KEEP_ALARM : Nat := 0x160010
def KEEP_LOG (i : Nat) : Nat := 0x160100 + 4 * i
def SVC_STAT : Nat := 0x170000
def SVC_CMD : Nat := 0x170004
def SVC_RESULT : Nat := 0x170008
def SVC_SLOTS : Nat := 0x17000c
def SVC_TRIAL_CFG : Nat := 0x170010
def SVC_TRIAL_LEFT : Nat := 0x170014
def SVC_SECVER : Nat := 0x170018
def SVC_FW_VERSION : Nat := 0x17001c
def SVC_MAN_VERSION : Nat := 0x170020
def SVC_MAN_ERR : Nat := 0x170024
def SVC_TTP : Nat := 0x170028
def SVC_TFTP_STAT : Nat := 0x17002c
def SVC_TFTP_BLOCKS : Nat := 0x170030
def SVC_KEY_STAT : Nat := 0x170034
def SVC_NONCE : Nat := 0x170038
def SVC_UPDATES : Nat := 0x170040
def SVC_REFUSED : Nat := 0x170048
def SVC_FALLBACKS : Nat := 0x170050
def SVC_LOG_COPIED : Nat := 0x170058
def SVC_LOG_SKIPPED : Nat := 0x170060
def SVC_LOG_HEAD : Nat := 0x170068
def SVC_VENDOR_HASH (i : Nat) : Nat := 0x170100 + 4 * i
def SVC_MAN_HASH (i : Nat) : Nat := 0x170140 + 4 * i
def TWIN_CFG : Nat := 0x180000
def TWIN_PEER : Nat := 0x180004
def TWIN_STAT : Nat := 0x180008
def TWIN_EPOCH : Nat := 0x18000c
def TWIN_PEER_EPOCH : Nat := 0x180010
def TWIN_CMD : Nat := 0x180014
def TWIN_CHANGE_AT : Nat := 0x180018
def TWIN_PROMOTE : Nat := 0x180020
def TWIN_DEMOTE : Nat := 0x180028
def TWIN_DOUBLE : Nat := 0x180030
def TWIN_HB_GRP_LOST : Nat := 0x180038
def TWIN_HB_BELL_LOST : Nat := 0x180040
def TWIN_BELL_CRC : Nat := 0x180048
def TWIN_TRIAL_FAIL : Nat := 0x180050
def TWIN_DIGEST : Nat := 0x180058
def TWIN_PEER_DIGEST : Nat := 0x180060

end Reg

/-- The registers of block SYS (Table 18.9). -/
def regsSys : List RegDesc :=
  [
  ⟨0x0, [], .ro, 0x106424, 0, false, false⟩,
  ⟨0x10, [(4, 4)], .ro, 0, 0, false, false⟩,
  ⟨0x20, [], .ro, 0, 0, false, false⟩,
  ⟨0x24, [], .ro, 0, 0, false, false⟩,
  ⟨0x28, [(2, 4)], .ro, 0, 0, true, false⟩,
  ⟨0x30, [(2, 4)], .ro, 0, 0, true, true⟩,
  ⟨0x38, [], .ro, 0, 0, false, false⟩,
  ⟨0x3c, [], .ro, 0, 0, false, false⟩,
  ⟨0x40, [], .rw, 0, 0xffffffff, false, false⟩]

/-- The registers of block CLK (Table 18.9). -/
def regsClk : List RegDesc :=
  [
  ⟨0x10000, [], .ro, 0, 0, false, false⟩,
  ⟨0x10004, [], .ro, 0, 0, false, false⟩,
  ⟨0x10008, [], .ro, 0, 0, false, false⟩,
  ⟨0x10010, [(2, 4)], .ro, 0, 0, true, true⟩,
  ⟨0x10018, [(2, 4)], .ro, 0, 0, true, true⟩]

/-- The registers of block TIME (Table 18.9). -/
def regsTime : List RegDesc :=
  [
  ⟨0x20000, [(2, 4)], .ro, 0, 0, true, false⟩,
  ⟨0x20008, [], .ro, 0, 0, false, false⟩,
  ⟨0x20010, [(2, 4)], .ro, 0, 0, true, false⟩,
  ⟨0x20018, [], .ro, 0, 0, false, false⟩,
  ⟨0x20020, [], .rw, 0, 0xffff, false, false⟩,
  ⟨0x20024, [], .ro, 0, 0, false, false⟩,
  ⟨0x20028, [], .ro, 0, 0, false, false⟩,
  ⟨0x2002c, [], .ro, 0, 0, false, false⟩,
  ⟨0x20030, [], .rw, 0x7d0, 0xffffffff, false, false⟩,
  ⟨0x20034, [], .wo, 0, 0, false, false⟩,
  ⟨0x20038, [(2, 4)], .ro, 0, 0, true, false⟩,
  ⟨0x20040, [], .ro, 0, 0, false, false⟩,
  ⟨0x20100, [(8, 64)], .rw, 0x3ded7f0, 0xffffff7, false, false⟩,
  ⟨0x20104, [(8, 64)], .rw, 0, 0xffffffff, false, false⟩,
  ⟨0x20108, [(8, 64)], .rw, 0, 0xffffffff, false, false⟩,
  ⟨0x2010c, [(8, 64)], .rw, 0, 0xffffffff, false, false⟩,
  ⟨0x20110, [(8, 64)], .ro, 0, 0, false, false⟩,
  ⟨0x20114, [(8, 64)], .ro, 0, 0, false, false⟩,
  ⟨0x20118, [(8, 64)], .ro, 0, 0, false, false⟩,
  ⟨0x2011c, [(8, 64)], .ro, 0, 0, false, false⟩,
  ⟨0x20120, [(8, 64)], .ro, 0, 0, false, false⟩,
  ⟨0x20124, [(8, 64)], .ro, 0, 0, false, false⟩,
  ⟨0x20128, [(8, 64)], .rc, 0, 0, false, false⟩,
  ⟨0x20300, [(8, 32)], .rw, 0, 0xf, false, false⟩] ++
  [
  ⟨0x20304, [(8, 32), (2, 4)], .rw, 0, 0xffffffff, true, false⟩,
  ⟨0x2030c, [(8, 32)], .rw, 0, 0xffffffff, false, false⟩,
  ⟨0x20310, [(8, 32)], .rw, 0, 0xffffffff, false, false⟩,
  ⟨0x20314, [(8, 32), (2, 4)], .ro, 0, 0, true, false⟩,
  ⟨0x2031c, [(8, 32)], .ro, 0, 0, false, false⟩,
  ⟨0x20400, [], .ro, 0, 0, false, false⟩,
  ⟨0x20404, [], .ro, 0, 0, false, false⟩,
  ⟨0x20408, [(2, 4)], .ro, 0, 0, true, false⟩,
  ⟨0x20420, [], .ro, 0, 0, false, false⟩,
  ⟨0x20424, [], .ro, 0, 0, false, false⟩,
  ⟨0x20428, [], .ro, 0, 0, false, false⟩,
  ⟨0x20440, [], .rw, 0, 0x7ffff, false, false⟩,
  ⟨0x20444, [(2, 4)], .rw, 0, 0xffffffff, true, false⟩,
  ⟨0x2044c, [], .ro, 0, 0, false, false⟩]

/-- The registers of block LANE (Table 18.9). -/
def regsLane : List RegDesc :=
  [
  ⟨0x30000, [], .ro, 0, 0, false, false⟩,
  ⟨0x30004, [], .ro, 0, 0, false, false⟩,
  ⟨0x30008, [], .ro, 0, 0, false, false⟩,
  ⟨0x30100, [(24, 128)], .ro, 0, 0, false, false⟩,
  ⟨0x30104, [(24, 128)], .rw, 0, 0x7fff, false, false⟩,
  ⟨0x30108, [(24, 128)], .wo, 0, 0, false, false⟩,
  ⟨0x3010c, [(24, 128)], .ro, 0x400000, 0, false, false⟩,
  ⟨0x30110, [(24, 128)], .ro, 0, 0, false, false⟩,
  ⟨0x30114, [(24, 128)], .ro, 0xa, 0, false, false⟩,
  ⟨0x30118, [(24, 128)], .rw, 0, 0x3, false, false⟩,
  ⟨0x3011c, [(24, 128)], .rw, 0, 0x3f, false, false⟩,
  ⟨0x30120, [(24, 128)], .ro, 0, 0, false, false⟩,
  ⟨0x30124, [(24, 128), (2, 4)], .ro, 0, 0, true, true⟩,
  ⟨0x3012c, [(24, 128), (2, 4)], .ro, 0, 0, true, true⟩,
  ⟨0x30134, [(24, 128)], .wo, 0, 0, false, false⟩,
  ⟨0x30138, [(24, 128)], .ro, 0, 0, false, false⟩,
  ⟨0x3013c, [(24, 128), (2, 4)], .ro, 0, 0, true, false⟩,
  ⟨0x30144, [(24, 128)], .ro, 0, 0, false, false⟩,
  ⟨0x30148, [(24, 128), (2, 4)], .ro, 0, 0, true, true⟩,
  ⟨0x30150, [(24, 128), (2, 4)], .ro, 0, 0, true, true⟩,
  ⟨0x30158, [(24, 128), (2, 4)], .ro, 0, 0, true, true⟩,
  ⟨0x30160, [(24, 128), (2, 4)], .ro, 0, 0, true, true⟩,
  ⟨0x30168, [(24, 128), (2, 4)], .ro, 0, 0, true, false⟩]

/-- The registers of block SLK (Table 18.9). -/
def regsSlk : List RegDesc :=
  [
  ⟨0x40000, [], .ro, 0, 0, false, false⟩,
  ⟨0x40004, [], .rw, 0xffff, 0xffff, false, false⟩,
  ⟨0x40008, [], .ro, 0, 0, false, false⟩,
  ⟨0x4000c, [], .ro, 0, 0, false, false⟩,
  ⟨0x40010, [(2, 4)], .ro, 0, 0, true, true⟩,
  ⟨0x40018, [(2, 4)], .ro, 0, 0, true, true⟩,
  ⟨0x40020, [(2, 4)], .ro, 0, 0, true, true⟩,
  ⟨0x40100, [(3, 64)], .ro, 0, 0, false, false⟩,
  ⟨0x40104, [(3, 64)], .ro, 0, 0, false, false⟩,
  ⟨0x40108, [(3, 64)], .ro, 0, 0, false, false⟩,
  ⟨0x4010c, [(3, 64)], .ro, 0, 0, false, false⟩,
  ⟨0x40110, [(3, 64), (2, 4)], .ro, 0, 0, true, true⟩,
  ⟨0x40118, [(3, 64), (2, 4)], .ro, 0, 0, true, true⟩,
  ⟨0x40120, [(3, 64), (2, 4)], .ro, 0, 0, true, true⟩,
  ⟨0x40128, [(3, 64), (2, 4)], .ro, 0, 0, true, true⟩,
  ⟨0x40130, [(3, 64), (2, 4)], .ro, 0, 0, true, true⟩,
  ⟨0x40400, [(256, 4)], .rw, 0x3, 0x7, false, false⟩,
  ⟨0x40800, [(256, 4)], .ro, 0, 0, false, false⟩,
  ⟨0x41000, [(24, 32), (2, 4)], .ro, 0, 0, true, true⟩,
  ⟨0x41008, [(24, 32), (2, 4)], .ro, 0, 0, true, true⟩,
  ⟨0x41010, [(24, 32), (2, 4)], .ro, 0, 0, true, true⟩,
  ⟨0x41018, [(24, 32)], .ro, 0, 0, false, false⟩]

/-- The registers of block MAC (Table 18.9). -/
def regsMac : List RegDesc :=
  [
  ⟨0x50000, [(5, 4096)], .ro, 0, 0, false, false⟩,
  ⟨0x50004, [(5, 4096)], .ro, 0, 0, false, false⟩,
  ⟨0x50008, [(5, 4096)], .ro, 0, 0, false, false⟩,
  ⟨0x5000c, [(5, 4096)], .ro, 0, 0, false, false⟩,
  ⟨0x50010, [(5, 4096)], .ro, 0, 0, false, false⟩,
  ⟨0x50014, [(5, 4096)], .rw, 0x1f4b, 0x3ffff, false, false⟩,
  ⟨0x50018, [(5, 4096)], .rw, 0xa000a, 0x3ff03ff, false, false⟩,
  ⟨0x5001c, [(5, 4096)], .rw, 0x10, 0x3f, false, false⟩,
  ⟨0x50020, [(5, 4096)], .wo, 0, 0, false, false⟩,
  ⟨0x50024, [(5, 4096)], .ro, 0, 0, false, false⟩,
  ⟨0x50028, [(5, 4096)], .ro, 0, 0, false, false⟩,
  ⟨0x50040, [(5, 4096), (4, 4)], .rw, 0, 0xffffffff, false, false⟩,
  ⟨0x50100, [(5, 4096), (2, 4)], .ro, 0, 0, true, true⟩,
  ⟨0x50108, [(5, 4096), (2, 4)], .ro, 0, 0, true, true⟩,
  ⟨0x50110, [(5, 4096), (2, 4)], .ro, 0, 0, true, true⟩,
  ⟨0x50118, [(5, 4096), (2, 4)], .ro, 0, 0, true, true⟩,
  ⟨0x50120, [(5, 4096), (2, 4)], .ro, 0, 0, true, true⟩,
  ⟨0x50128, [(5, 4096), (2, 4)], .ro, 0, 0, true, true⟩,
  ⟨0x50130, [(5, 4096), (2, 4)], .ro, 0, 0, true, true⟩,
  ⟨0x50138, [(5, 4096), (2, 4)], .ro, 0, 0, true, true⟩,
  ⟨0x50140, [(5, 4096), (2, 4)], .ro, 0, 0, true, true⟩,
  ⟨0x50148, [(5, 4096), (2, 4)], .ro, 0, 0, true, true⟩,
  ⟨0x50150, [(5, 4096), (2, 4)], .ro, 0, 0, true, true⟩,
  ⟨0x50158, [(5, 4096), (2, 4)], .ro, 0, 0, true, true⟩] ++
  [
  ⟨0x50160, [(5, 4096), (2, 4)], .ro, 0, 0, true, true⟩,
  ⟨0x50168, [(5, 4096), (2, 4)], .ro, 0, 0, true, true⟩,
  ⟨0x50170, [(5, 4096), (2, 4)], .ro, 0, 0, true, true⟩,
  ⟨0x50178, [(5, 4096), (2, 4)], .ro, 0, 0, true, true⟩,
  ⟨0x50200, [(5, 4096), (8, 8), (2, 4)], .ro, 0, 0, true, true⟩,
  ⟨0x50400, [(5, 4096), (256, 4)], .ro, 0, 0, false, false⟩]

/-- The registers of block ING (Table 18.9). -/
def regsIng : List RegDesc :=
  [
  ⟨0x60000, [], .ro, 0, 0, false, false⟩,
  ⟨0x60004, [], .ro, 0, 0, false, false⟩,
  ⟨0x60008, [], .ro, 0, 0, false, false⟩,
  ⟨0x6000c, [], .ro, 0, 0, false, false⟩,
  ⟨0x60400, [(32, 256)], .ro, 0, 0, false, false⟩,
  ⟨0x60404, [(32, 256)], .rw, 0xa00080, 0xff1ffff, false, false⟩,
  ⟨0x60408, [(32, 256)], .rw, 0, 0xffffffff, false, false⟩,
  ⟨0x6040c, [(32, 256)], .rw, 0x10000000, 0xffff007f, false, false⟩,
  ⟨0x60410, [(32, 256)], .rw, 0, 0xffffffff, false, false⟩,
  ⟨0x60414, [(32, 256)], .rw, 0, 0xffffffff, false, false⟩,
  ⟨0x60418, [(32, 256)], .rw, 0, 0xffffffff, false, false⟩,
  ⟨0x6041c, [(32, 256)], .rw, 0, 0xffffffff, false, false⟩,
  ⟨0x60420, [(32, 256)], .rw, 0, 0x11fffff, false, false⟩,
  ⟨0x60424, [(32, 256), (2, 4)], .rw, 0, 0xffffffff, true, false⟩,
  ⟨0x6042c, [(32, 256)], .rw, 0x3e8, 0xffff, false, false⟩,
  ⟨0x60430, [(32, 256)], .ro, 0, 0, false, false⟩,
  ⟨0x60434, [(32, 256)], .ro, 0, 0, false, false⟩,
  ⟨0x60438, [(32, 256)], .ro, 0, 0, false, false⟩,
  ⟨0x6043c, [(32, 256), (2, 4)], .ro, 0, 0, true, false⟩,
  ⟨0x60444, [(32, 256), (2, 4)], .ro, 0, 0, true, true⟩,
  ⟨0x6044c, [(32, 256), (2, 4)], .ro, 0, 0, true, true⟩,
  ⟨0x60454, [(32, 256), (2, 4)], .ro, 0, 0, true, true⟩,
  ⟨0x6045c, [(32, 256), (2, 4)], .ro, 0, 0, true, true⟩,
  ⟨0x60464, [(32, 256), (2, 4)], .ro, 0, 0, true, true⟩] ++
  [
  ⟨0x6046c, [(32, 256), (2, 4)], .ro, 0, 0, true, true⟩,
  ⟨0x60474, [(32, 256), (2, 4)], .ro, 0, 0, true, true⟩,
  ⟨0x6047c, [(32, 256), (2, 4)], .ro, 0, 0, true, true⟩,
  ⟨0x60484, [(32, 256), (2, 4)], .ro, 0, 0, true, false⟩,
  ⟨0x6048c, [(32, 256)], .rw, 0, 0xfff, false, false⟩]

/-- The registers of block COMP (Table 18.9). -/
def regsComp : List RegDesc :=
  [
  ⟨0x70000, [], .ro, 0, 0, false, false⟩,
  ⟨0x70004, [], .ro, 0, 0, false, false⟩,
  ⟨0x70008, [], .ro, 0, 0, false, false⟩,
  ⟨0x7000c, [], .ro, 0, 0, false, false⟩,
  ⟨0x70010, [], .ro, 0, 0, false, false⟩,
  ⟨0x70014, [], .rc, 0, 0, false, false⟩,
  ⟨0x70018, [], .ro, 0, 0, false, false⟩,
  ⟨0x7001c, [], .ro, 0, 0, false, false⟩,
  ⟨0x70020, [(2, 4)], .ro, 0, 0, true, true⟩,
  ⟨0x70028, [(2, 4)], .ro, 0, 0, true, true⟩,
  ⟨0x70030, [(2, 4)], .ro, 0, 0, true, false⟩,
  ⟨0x70038, [], .ro, 0, 0, false, false⟩,
  ⟨0x70040, [(2, 4)], .ro, 0, 0, true, true⟩,
  ⟨0x70048, [(2, 4)], .ro, 0, 0, true, true⟩,
  ⟨0x70050, [], .wo, 0, 0, false, false⟩,
  ⟨0x70054, [], .ro, 0, 0, false, false⟩,
  ⟨0x71000, [(64, 64)], .ro, 0, 0, false, false⟩,
  ⟨0x71004, [(64, 64)], .rw, 0, 0xffffffff, false, false⟩,
  ⟨0x71008, [(64, 64)], .rw, 0x10000000, 0x1fffffff, false, false⟩,
  ⟨0x7100c, [(64, 64)], .rw, 0, 0xffffffff, false, false⟩,
  ⟨0x71010, [(64, 64)], .rw, 0, 0x1fff1fff, false, false⟩,
  ⟨0x71014, [(64, 64)], .rw, 0, 0x3fff3fff, false, false⟩,
  ⟨0x71018, [(64, 64)], .rw, 0, 0xffffffff, false, false⟩,
  ⟨0x7101c, [(64, 64)], .rw, 0, 0x3fffffff, false, false⟩] ++
  [
  ⟨0x71020, [(64, 64)], .rw, 0, 0xffffffff, false, false⟩,
  ⟨0x71024, [(64, 64)], .rw, 0, 0x1, false, false⟩,
  ⟨0x71028, [(64, 64)], .ro, 0, 0, false, false⟩,
  ⟨0x7102c, [(64, 64)], .ro, 0, 0, false, false⟩,
  ⟨0x71030, [(64, 64)], .wo, 0, 0, false, false⟩,
  ⟨0x71034, [(64, 64)], .ro, 0, 0, false, false⟩,
  ⟨0x71038, [(64, 64)], .ro, 0, 0, false, false⟩,
  ⟨0x7103c, [(64, 64)], .ro, 0, 0, false, false⟩,
  ⟨0x74000, [(768, 4)], .rw, 0, 0xfff0fff, false, false⟩]

/-- The registers of block CAL (Table 18.9). -/
def regsCal : List RegDesc :=
  [
  ⟨0x80000, [], .rw, 0x3, 0x7, false, false⟩,
  ⟨0x80004, [], .rw, 0x190, 0xffff, false, false⟩,
  ⟨0x80008, [], .ro, 0, 0, false, false⟩,
  ⟨0x8000c, [], .ro, 0x1000, 0, false, false⟩,
  ⟨0x80010, [], .rw, 0x1000, 0x1fff, false, false⟩,
  ⟨0x80014, [], .rw, 0, 0xffff, false, false⟩,
  ⟨0x80018, [], .ro, 0, 0, false, false⟩,
  ⟨0x8001c, [], .rw, 0, 0xffffffff, false, false⟩,
  ⟨0x80020, [(8, 4)], .rw, 0, 0x1fff0fff, false, false⟩,
  ⟨0x80040, [], .rw, 0, 0xff, false, false⟩,
  ⟨0x80044, [], .wo, 0, 0, false, false⟩,
  ⟨0x80048, [], .ro, 0, 0, false, false⟩,
  ⟨0x8004c, [], .wo, 0, 0, false, false⟩,
  ⟨0x80050, [], .ro, 0, 0, false, false⟩,
  ⟨0x80060, [(2, 4)], .ro, 0, 0, true, true⟩,
  ⟨0x80068, [(2, 4)], .ro, 0, 0, true, true⟩,
  ⟨0x80070, [(2, 4)], .ro, 0, 0, true, true⟩,
  ⟨0x80078, [(2, 4)], .ro, 0, 0, true, true⟩,
  ⟨0x80080, [(2, 4)], .ro, 0, 0, true, true⟩,
  ⟨0x80088, [(2, 4)], .ro, 0, 0, true, true⟩,
  ⟨0x81000, [(64, 4)], .rw, 0, 0xffffffff, false, false⟩,
  ⟨0x82000, [(2048, 4)], .ro, 0, 0, false, false⟩]

/-- The registers of block SCAN (Table 18.9). -/
def regsScan : List RegDesc :=
  [
  ⟨0x90000, [], .rw, 0x1000801, 0x1ffeff1, false, false⟩,
  ⟨0x90004, [], .rw, 0x8, 0x3f, false, false⟩,
  ⟨0x90008, [], .ro, 0, 0, false, false⟩,
  ⟨0x9000c, [], .rw, 0x7d0, 0xffff, false, false⟩,
  ⟨0x90010, [], .ro, 0, 0, false, false⟩,
  ⟨0x90014, [], .rw, 0, 0x7ff, false, false⟩,
  ⟨0x90018, [], .wo, 0, 0, false, false⟩,
  ⟨0x9001c, [], .ro, 0, 0, false, false⟩,
  ⟨0x90020, [], .ro, 0, 0, false, false⟩,
  ⟨0x90024, [], .ro, 0, 0, false, false⟩,
  ⟨0x90040, [(2, 4)], .ro, 0, 0, true, true⟩,
  ⟨0x90048, [(2, 4)], .ro, 0, 0, true, true⟩,
  ⟨0x90050, [(2, 4)], .ro, 0, 0, true, true⟩,
  ⟨0x90058, [(2, 4)], .ro, 0, 0, true, true⟩,
  ⟨0x90060, [(2, 4)], .ro, 0, 0, true, true⟩,
  ⟨0x90068, [(2, 4)], .ro, 0, 0, true, true⟩,
  ⟨0x90070, [(2, 4)], .ro, 0, 0, true, true⟩,
  ⟨0x90100, [(8, 4)], .rw, 0, 0xffffffff, false, false⟩,
  ⟨0x90400, [(24, 16)], .rw, 0, 0x7f, false, false⟩,
  ⟨0x90404, [(24, 16)], .ro, 0, 0, false, false⟩,
  ⟨0x90408, [(24, 16)], .ro, 0, 0, false, false⟩,
  ⟨0x92000, [(2048, 4)], .ro, 0, 0, false, false⟩]

/-- The registers of block PROBE (Table 18.9). -/
def regsProbe : List RegDesc :=
  [
  ⟨0xa0000, [], .ro, 0, 0, false, false⟩,
  ⟨0xa0004, [], .ro, 0, 0, false, false⟩,
  ⟨0xa0008, [], .ro, 0, 0, false, false⟩,
  ⟨0xa000c, [], .rw, 0, 0xff, false, false⟩,
  ⟨0xa0010, [], .wo, 0, 0, false, false⟩,
  ⟨0xa0014, [], .ro, 0, 0, false, false⟩,
  ⟨0xa0018, [], .ro, 0, 0, false, false⟩,
  ⟨0xa001c, [], .wo, 0, 0, false, false⟩,
  ⟨0xa0020, [], .ro, 0, 0, false, false⟩,
  ⟨0xa0028, [(2, 4)], .ro, 0, 0, true, true⟩,
  ⟨0xa0030, [], .rw, 0, 0x3fff, false, false⟩,
  ⟨0xa0034, [], .ro, 0, 0, false, false⟩,
  ⟨0xa0038, [(3, 4)], .ro, 0, 0, false, false⟩,
  ⟨0xa1000, [(128, 4)], .rw, 0, 0xffffffff, false, false⟩,
  ⟨0xa2000, [(1024, 4)], .rw, 0, 0xffffffff, false, false⟩]

/-- The registers of block WAY (Table 18.9). -/
def regsWay : List RegDesc :=
  [
  ⟨0xb0000, [], .ro, 0, 0, false, false⟩,
  ⟨0xb0004, [], .rw, 0, 0xff, false, false⟩,
  ⟨0xb0008, [], .wo, 0, 0, false, false⟩,
  ⟨0xb000c, [], .ro, 0, 0, false, false⟩,
  ⟨0xb0010, [], .ro, 0, 0, false, false⟩,
  ⟨0xb0014, [], .rw, 0, 0x80000fff, false, false⟩,
  ⟨0xb0018, [], .ro, 0, 0, false, false⟩,
  ⟨0xb001c, [(2, 4)], .ro, 0, 0, true, false⟩,
  ⟨0xb0024, [], .rw, 0x1, 0xffff, false, false⟩,
  ⟨0xb0028, [], .ro, 0, 0, false, false⟩,
  ⟨0xb0030, [(4, 4)], .ro, 0, 0, false, false⟩,
  ⟨0xb0040, [(2, 4)], .ro, 0, 0, true, true⟩,
  ⟨0xb0048, [(2, 4)], .ro, 0, 0, true, true⟩,
  ⟨0xb0050, [(2, 4)], .ro, 0, 0, true, true⟩,
  ⟨0xb0058, [(2, 4)], .ro, 0, 0, true, true⟩,
  ⟨0xb0060, [(2, 4)], .ro, 0, 0, true, true⟩,
  ⟨0xb0068, [(2, 4)], .ro, 0, 0, true, true⟩,
  ⟨0xb0070, [(2, 4)], .ro, 0, 0, true, true⟩,
  ⟨0xb0078, [(2, 4)], .ro, 0, 0, true, true⟩,
  ⟨0xb0080, [(2, 4)], .ro, 0, 0, true, true⟩,
  ⟨0xb1000, [(128, 4)], .rw, 0, 0xffffffff, false, false⟩,
  ⟨0xb2000, [(1024, 4)], .rw, 0, 0xffff, false, false⟩]

/-- The registers of block DMX (Table 18.9). -/
def regsDmx : List RegDesc :=
  [
  ⟨0xc0100, [(8, 64)], .ro, 0, 0, false, false⟩,
  ⟨0xc0104, [(8, 64)], .ro, 0, 0, false, false⟩,
  ⟨0xc0108, [(8, 64)], .ro, 0, 0, false, false⟩,
  ⟨0xc010c, [(8, 64)], .wo, 0, 0, false, false⟩,
  ⟨0xc0110, [(8, 64), (2, 4)], .ro, 0, 0, true, true⟩,
  ⟨0xc0118, [(8, 64), (2, 4)], .ro, 0, 0, true, true⟩,
  ⟨0xc0120, [(8, 64), (2, 4)], .ro, 0, 0, true, true⟩,
  ⟨0xc0128, [(8, 64), (2, 4)], .ro, 0, 0, true, true⟩,
  ⟨0xc0130, [(8, 64), (2, 4)], .ro, 0, 0, true, true⟩,
  ⟨0xc0138, [(8, 64), (2, 4)], .ro, 0, 0, true, true⟩,
  ⟨0xc1000, [(4096, 4)], .ro, 0, 0, false, false⟩]

/-- The registers of block LAMP (Table 18.9). -/
def regsLamp : List RegDesc :=
  [
  ⟨0xd0000, [], .ro, 0, 0, false, false⟩,
  ⟨0xd0004, [], .ro, 0, 0, false, false⟩,
  ⟨0xd0008, [], .ro, 0, 0, false, false⟩,
  ⟨0xd000c, [], .ro, 0, 0, false, false⟩,
  ⟨0xd0010, [], .ro, 0, 0, false, false⟩,
  ⟨0xd0014, [], .ro, 0xc8, 0, false, false⟩,
  ⟨0xd0018, [], .rw, 0, 0x7ff, false, false⟩,
  ⟨0xd001c, [], .ro, 0, 0, false, false⟩,
  ⟨0xd0040, [(8, 4)], .ro, 0, 0, false, false⟩,
  ⟨0xd0080, [(2, 4)], .ro, 0, 0, true, true⟩,
  ⟨0xd0088, [(2, 4)], .ro, 0, 0, true, true⟩,
  ⟨0xd0100, [(32, 64)], .ro, 0, 0, false, false⟩,
  ⟨0xd0104, [(32, 64)], .ro, 0, 0, false, false⟩,
  ⟨0xd0108, [(32, 64)], .ro, 0, 0, false, false⟩,
  ⟨0xd010c, [(32, 64)], .ro, 0, 0, false, false⟩,
  ⟨0xd0110, [(32, 64)], .rw, 0x100007f, 0xfffffff, false, false⟩,
  ⟨0xd0114, [(32, 64)], .rw, 0, 0xffffffff, false, false⟩,
  ⟨0xd0118, [(32, 64)], .rw, 0x4000000, 0x3f1fffff, false, false⟩,
  ⟨0xd011c, [(32, 64)], .rw, 0x190, 0xffff, false, false⟩,
  ⟨0xd0120, [(32, 64)], .ro, 0, 0, false, false⟩,
  ⟨0xd0124, [(32, 64)], .ro, 0, 0, false, false⟩,
  ⟨0xd0128, [(32, 64)], .ro, 0, 0, false, false⟩,
  ⟨0xd012c, [(32, 64)], .ro, 0, 0, false, false⟩,
  ⟨0xd0130, [(32, 64)], .ro, 0, 0, false, false⟩] ++
  [
  ⟨0xd0134, [(32, 64)], .w1c, 0, 0x3ff, false, false⟩,
  ⟨0xd0138, [(32, 64), (2, 4)], .ro, 0, 0, true, true⟩,
  ⟨0xd1000, [(32, 64)], .ro, 0, 0, false, false⟩,
  ⟨0xd1004, [(32, 64)], .ro, 0, 0, false, false⟩,
  ⟨0xd1008, [(32, 64)], .ro, 0, 0, false, false⟩,
  ⟨0xd100c, [(32, 64)], .rw, 0, 0xffffffff, false, false⟩,
  ⟨0xd1010, [(32, 64)], .rw, 0, 0xffffffff, false, false⟩,
  ⟨0xd1014, [(32, 64)], .rw, 0, 0xffffffff, false, false⟩,
  ⟨0xd1018, [(32, 64)], .rw, 0xffff, 0xffff, false, false⟩,
  ⟨0xd101c, [(32, 64)], .ro, 0, 0, false, false⟩,
  ⟨0xd1020, [(32, 64), (2, 4)], .ro, 0, 0, true, true⟩,
  ⟨0xd2000, [(8, 64)], .ro, 0, 0, false, false⟩,
  ⟨0xd2004, [(8, 64)], .ro, 0, 0, false, false⟩,
  ⟨0xd2008, [(8, 64)], .ro, 0, 0, false, false⟩,
  ⟨0xd200c, [(8, 64)], .rw, 0xffff0000, 0xffffffff, false, false⟩,
  ⟨0xd2010, [(8, 64)], .rw, 0x3e8, 0xffffffff, false, false⟩,
  ⟨0xd2014, [(8, 64)], .rw, 0x1000, 0xffffffff, false, false⟩,
  ⟨0xd2018, [(8, 64)], .rw, 0x8000, 0xffff, false, false⟩,
  ⟨0xd201c, [(8, 64), (2, 4)], .rw, 0, 0xffffffff, true, false⟩,
  ⟨0xd2024, [(8, 64)], .ro, 0, 0, false, false⟩]

/-- The registers of block BERTH (Table 18.9). -/
def regsBerth : List RegDesc :=
  [
  ⟨0xe0000, [], .ro, 0, 0, false, false⟩,
  ⟨0xe0004, [], .ro, 0x400, 0, false, false⟩,
  ⟨0xe0014, [(9, 4)], .ro, 0, 0, false, false⟩,
  ⟨0xe0040, [(2, 4)], .ro, 0, 0, true, true⟩,
  ⟨0xe0048, [(2, 4)], .ro, 0, 0, true, true⟩,
  ⟨0xe0050, [(2, 4)], .ro, 0, 0, true, true⟩,
  ⟨0xe0058, [(2, 4)], .ro, 0, 0, true, true⟩,
  ⟨0xe0060, [(2, 4)], .ro, 0, 0, true, false⟩,
  ⟨0xe1000, [(1024, 8)], .ro, 0, 0, false, false⟩,
  ⟨0xe1004, [(1024, 8)], .ro, 0, 0, false, false⟩]

/-- The registers of block CUE (Table 18.9). -/
def regsCue : List RegDesc :=
  [
  ⟨0xf0000, [], .ro, 0, 0, false, false⟩,
  ⟨0xf0004, [], .wo, 0, 0, false, false⟩,
  ⟨0xf0008, [], .rw, 0, 0xffffffff, false, false⟩,
  ⟨0xf000c, [], .ro, 0, 0, false, false⟩,
  ⟨0xf0010, [], .ro, 0, 0, false, false⟩,
  ⟨0xf0020, [(2, 4)], .ro, 0, 0, true, true⟩,
  ⟨0xf0028, [(2, 4)], .ro, 0, 0, true, true⟩,
  ⟨0xf0030, [(2, 4)], .ro, 0, 0, true, true⟩,
  ⟨0xf0038, [(2, 4)], .ro, 0, 0, true, true⟩,
  ⟨0xf0040, [(2, 4)], .ro, 0, 0, true, true⟩,
  ⟨0xf0048, [(2, 4)], .ro, 0, 0, true, true⟩,
  ⟨0xf0100, [(16, 4)], .rw, 0, 0xffffffff, false, false⟩,
  ⟨0xf0200, [(16, 4)], .ro, 0, 0, false, false⟩,
  ⟨0xf0240, [], .ro, 0, 0, false, false⟩,
  ⟨0xf0244, [(2, 4)], .ro, 0, 0, true, false⟩,
  ⟨0xf024c, [], .ro, 0, 0, false, false⟩,
  ⟨0xf0250, [], .ro, 0, 0, false, false⟩]

/-- The registers of block FERRY (Table 18.9). -/
def regsFerry : List RegDesc :=
  [
  ⟨0x100000, [], .rw, 0x1388, 0x1ffff, false, false⟩,
  ⟨0x100004, [], .ro, 0, 0, false, false⟩,
  ⟨0x100008, [], .ro, 0, 0, false, false⟩,
  ⟨0x10000c, [], .ro, 0, 0, false, false⟩,
  ⟨0x100010, [(2, 4)], .ro, 0, 0, true, false⟩,
  ⟨0x100018, [], .ro, 0, 0, false, false⟩,
  ⟨0x10001c, [(2, 4)], .ro, 0, 0, true, false⟩,
  ⟨0x100040, [(2, 4)], .ro, 0, 0, true, true⟩,
  ⟨0x100048, [(2, 4)], .ro, 0, 0, true, true⟩,
  ⟨0x100050, [(2, 4)], .ro, 0, 0, true, true⟩,
  ⟨0x100058, [(2, 4)], .ro, 0, 0, true, true⟩,
  ⟨0x100060, [(2, 4)], .ro, 0, 0, true, true⟩,
  ⟨0x100068, [(2, 4)], .ro, 0, 0, true, true⟩,
  ⟨0x100070, [(2, 4)], .ro, 0, 0, true, true⟩,
  ⟨0x100078, [(2, 4)], .ro, 0, 0, true, true⟩,
  ⟨0x100080, [(2, 4)], .ro, 0, 0, true, true⟩,
  ⟨0x100090, [], .rw, 0, 0x3f, false, false⟩,
  ⟨0x100094, [], .wo, 0, 0, false, false⟩,
  ⟨0x100098, [], .ro, 0, 0, false, false⟩,
  ⟨0x100100, [(4, 4)], .rw, 0, 0xffffffff, false, false⟩,
  ⟨0x100400, [(256, 4)], .ro, 0, 0, false, false⟩,
  ⟨0x101000, [(64, 16), (2, 4)], .ro, 0, 0, true, true⟩,
  ⟨0x101008, [(64, 16), (2, 4)], .ro, 0, 0, true, false⟩,
  ⟨0x102004, [(1024, 4)], .rw, 0, 0xffffffff, false, false⟩]

/-- The registers of block PIER (Table 18.9). -/
def regsPier : List RegDesc :=
  [
  ⟨0x110000, [], .ro, 0, 0, false, false⟩,
  ⟨0x110004, [], .rw, 0, 0xffffffff, false, false⟩,
  ⟨0x110008, [], .rw, 0, 0x3fffff, false, false⟩,
  ⟨0x110010, [(8, 4)], .ro, 0, 0, false, false⟩,
  ⟨0x110030, [(4, 4)], .ro, 0x100, 0, false, false⟩,
  ⟨0x110040, [(8, 4)], .rw, 0x2801, 0x1ffffff, false, false⟩,
  ⟨0x110080, [(2, 4)], .ro, 0, 0, true, true⟩,
  ⟨0x110088, [(2, 4)], .ro, 0, 0, true, true⟩,
  ⟨0x110090, [(2, 4)], .ro, 0, 0, true, true⟩,
  ⟨0x110098, [(2, 4)], .ro, 0, 0, true, true⟩,
  ⟨0x1100a0, [(2, 4)], .ro, 0, 0, true, true⟩,
  ⟨0x1100a8, [(2, 4)], .ro, 0, 0, true, true⟩]

/-- The registers of block FLT (Table 18.9). -/
def regsFlt : List RegDesc :=
  [
  ⟨0x120000, [], .ro, 0x2, 0, false, false⟩,
  ⟨0x120004, [], .ro, 0, 0, false, false⟩,
  ⟨0x120008, [], .wo, 0, 0, false, false⟩,
  ⟨0x12000c, [], .rw, 0, 0x7ff01ff, false, false⟩,
  ⟨0x120010, [], .ro, 0, 0, false, false⟩,
  ⟨0x120020, [(8, 4)], .ro, 0, 0, false, false⟩,
  ⟨0x120040, [], .ro, 0, 0, false, false⟩,
  ⟨0x120044, [], .rw, 0, 0xffffffff, false, false⟩,
  ⟨0x120048, [], .ro, 0, 0, false, false⟩,
  ⟨0x120060, [(2, 4)], .ro, 0, 0, true, true⟩,
  ⟨0x120068, [(2, 4)], .ro, 0, 0, true, true⟩,
  ⟨0x120070, [(2, 4)], .ro, 0, 0, true, true⟩,
  ⟨0x120078, [(2, 4)], .ro, 0, 0, true, true⟩,
  ⟨0x120080, [(2, 4)], .ro, 0, 0, true, true⟩,
  ⟨0x120088, [(2, 4)], .ro, 0, 0, true, true⟩,
  ⟨0x120090, [(2, 4)], .ro, 0, 0, true, true⟩,
  ⟨0x120100, [(8, 4)], .ro, 0, 0, false, false⟩,
  ⟨0x120200, [], .wo, 0, 0, false, false⟩,
  ⟨0x120204, [], .wo, 0, 0, false, false⟩,
  ⟨0x121000, [(512, 8)], .rw, 0, 0xfffffff, false, false⟩,
  ⟨0x121004, [(512, 8)], .ro, 0, 0, false, false⟩]

/-- The registers of block RSV (Table 18.9). -/
def regsRsv : List RegDesc :=
  [
  ⟨0x130000, [], .rw, 0x2aa, 0x3ff, false, false⟩,
  ⟨0x130004, [], .ro, 0, 0, false, false⟩,
  ⟨0x130008, [], .wo, 0, 0, false, false⟩,
  ⟨0x13000c, [], .ro, 0, 0, false, false⟩,
  ⟨0x130010, [], .ro, 0x10, 0, false, false⟩,
  ⟨0x130014, [], .rw, 0x3e8, 0xffffffff, false, false⟩,
  ⟨0x130018, [], .rw, 0x30a, 0xff7f, false, false⟩,
  ⟨0x130100, [(17, 8), (2, 4)], .ro, 0, 0, true, true⟩,
  ⟨0x130200, [(17, 4)], .ro, 0, 0, false, false⟩,
  ⟨0x130300, [(10, 4)], .ro, 0, 0, false, false⟩,
  ⟨0x130400, [(24, 4)], .ro, 0, 0, false, false⟩,
  ⟨0x130500, [(32, 4)], .ro, 0, 0, false, false⟩,
  ⟨0x130600, [], .ro, 0, 0, false, false⟩,
  ⟨0x130604, [], .ro, 0, 0, false, false⟩]

/-- The registers of block PWR (Table 18.9). -/
def regsPwr : List RegDesc :=
  [
  ⟨0x140000, [], .ro, 0, 0, false, false⟩,
  ⟨0x140004, [], .wo, 0, 0, false, false⟩,
  ⟨0x140008, [], .ro, 0, 0, false, false⟩,
  ⟨0x14000c, [], .ro, 0, 0, false, false⟩,
  ⟨0x140010, [], .ro, 0, 0, false, false⟩,
  ⟨0x140018, [(2, 4)], .ro, 0, 0, true, true⟩,
  ⟨0x140020, [(2, 4)], .ro, 0, 0, true, true⟩,
  ⟨0x140030, [], .ro, 0, 0, false, false⟩,
  ⟨0x140034, [], .rw, 0, 0xff, false, false⟩,
  ⟨0x140038, [], .ro, 0, 0, false, false⟩,
  ⟨0x14003c, [], .ro, 0, 0, false, false⟩,
  ⟨0x140040, [(2, 4)], .ro, 0, 0, true, true⟩]

/-- The registers of block WATCH (Table 18.9). -/
def regsWatch : List RegDesc :=
  [
  ⟨0x150000, [], .ro, 0, 0, false, false⟩,
  ⟨0x150004, [], .ro, 0, 0, false, false⟩,
  ⟨0x150008, [], .rw, 0xe10, 0xfffff, false, false⟩,
  ⟨0x15000c, [], .rw, 0, 0x1ff, false, false⟩,
  ⟨0x150010, [(2, 4)], .ro, 0, 0, true, true⟩,
  ⟨0x150018, [(2, 4)], .ro, 0, 0, true, true⟩,
  ⟨0x150020, [(2, 4)], .ro, 0, 0, true, true⟩,
  ⟨0x150100, [(64, 4)], .ro, 0, 0, false, false⟩,
  ⟨0x150200, [(36, 4)], .rw, 0, 0x1ff, false, false⟩,
  ⟨0x150400, [(64, 4)], .rw, 0, 0xffffffff, false, false⟩,
  ⟨0x150800, [(16, 4)], .rw, 0, 0xffffffff, false, false⟩]

/-- The registers of block KEEP (Table 18.9). -/
def regsKeep : List RegDesc :=
  [
  ⟨0x160000, [], .ro, 0, 0, false, false⟩,
  ⟨0x160004, [], .ro, 0, 0, false, false⟩,
  ⟨0x160008, [(2, 4)], .ro, 0, 0, true, false⟩,
  ⟨0x160010, [(2, 4)], .rw, 0, 0xffffffff, true, false⟩,
  ⟨0x160100, [(64, 4)], .rw, 0, 0xffffffff, false, false⟩]

/-- The registers of block SVC (Table 18.9). -/
def regsSvc : List RegDesc :=
  [
  ⟨0x170000, [], .ro, 0, 0, false, false⟩,
  ⟨0x170004, [], .wo, 0, 0, false, false⟩,
  ⟨0x170008, [], .ro, 0, 0, false, false⟩,
  ⟨0x17000c, [], .ro, 0, 0, false, false⟩,
  ⟨0x170010, [], .ro, 0, 0, false, false⟩,
  ⟨0x170014, [], .ro, 0, 0, false, false⟩,
  ⟨0x170018, [], .ro, 0, 0, false, false⟩,
  ⟨0x17001c, [], .ro, 0, 0, false, false⟩,
  ⟨0x170020, [], .ro, 0, 0, false, false⟩,
  ⟨0x170024, [], .ro, 0, 0, false, false⟩,
  ⟨0x170028, [], .ro, 0, 0, false, false⟩,
  ⟨0x17002c, [], .ro, 0, 0, false, false⟩,
  ⟨0x170030, [], .ro, 0, 0, false, false⟩,
  ⟨0x170034, [], .ro, 0, 0, false, false⟩,
  ⟨0x170038, [(2, 4)], .ro, 0, 0, true, false⟩,
  ⟨0x170040, [(2, 4)], .ro, 0, 0, true, true⟩,
  ⟨0x170048, [(2, 4)], .ro, 0, 0, true, true⟩,
  ⟨0x170050, [(2, 4)], .ro, 0, 0, true, true⟩,
  ⟨0x170058, [(2, 4)], .ro, 0, 0, true, true⟩,
  ⟨0x170060, [(2, 4)], .ro, 0, 0, true, true⟩,
  ⟨0x170068, [], .ro, 0, 0, false, false⟩,
  ⟨0x170100, [(12, 4)], .ro, 0, 0, false, false⟩,
  ⟨0x170140, [(12, 4)], .ro, 0, 0, false, false⟩]

/-- The registers of block TWIN (Table 18.9). -/
def regsTwin : List RegDesc :=
  [
  ⟨0x180000, [], .ro, 0, 0, false, false⟩,
  ⟨0x180004, [], .ro, 0, 0, false, false⟩,
  ⟨0x180008, [], .ro, 0, 0, false, false⟩,
  ⟨0x18000c, [], .ro, 0, 0, false, false⟩,
  ⟨0x180010, [], .ro, 0, 0, false, false⟩,
  ⟨0x180014, [], .wo, 0, 0, false, false⟩,
  ⟨0x180018, [(2, 4)], .ro, 0, 0, true, false⟩,
  ⟨0x180020, [(2, 4)], .ro, 0, 0, true, true⟩,
  ⟨0x180028, [(2, 4)], .ro, 0, 0, true, true⟩,
  ⟨0x180030, [(2, 4)], .ro, 0, 0, true, true⟩,
  ⟨0x180038, [(2, 4)], .ro, 0, 0, true, true⟩,
  ⟨0x180040, [(2, 4)], .ro, 0, 0, true, true⟩,
  ⟨0x180048, [(2, 4)], .ro, 0, 0, true, true⟩,
  ⟨0x180050, [(2, 4)], .ro, 0, 0, true, true⟩,
  ⟨0x180058, [(2, 4)], .ro, 0, 0, true, false⟩,
  ⟨0x180060, [(2, 4)], .ro, 0, 0, true, false⟩]

/-- The register descriptors of a block by its number (address [31:16], Table 18.1). -/
def blockRegs : Nat → List RegDesc
  | 0 => regsSys
  | 1 => regsClk
  | 2 => regsTime
  | 3 => regsLane
  | 4 => regsSlk
  | 5 => regsMac
  | 6 => regsIng
  | 7 => regsComp
  | 8 => regsCal
  | 9 => regsScan
  | 10 => regsProbe
  | 11 => regsWay
  | 12 => regsDmx
  | 13 => regsLamp
  | 14 => regsBerth
  | 15 => regsCue
  | 16 => regsFerry
  | 17 => regsPier
  | 18 => regsFlt
  | 19 => regsRsv
  | 20 => regsPwr
  | 21 => regsWatch
  | 22 => regsKeep
  | 23 => regsSvc
  | 24 => regsTwin
  | _ => []

/-- The offset of an address within an array, or none when no element stands there. -/
def inDims : List (Nat × Nat) → Nat → Bool
  | [], o => o == 0
  | (c, st) :: ds, o => decide (o / st < c) && inDims ds (o % st)

/-- Whether an address is one of a descriptor's registers. -/
def RegDesc.covers (d : RegDesc) (a : Nat) : Bool := decide (d.base ≤ a) && inDims d.dims (a - d.base)

/-- The descriptor of the register at an address; none at an unassigned offset (R6, R522, R530). -/
def regDesc? (a : Nat) : Option RegDesc := (blockRegs (a / 0x10000)).find? (·.covers a)

end Sys2Proof.Machine
end

