-- ==== Sys2Proof/Machine/State.lean ====
section
/-!
DEFINITION. The state of the block as plain data, the reasons a step can stop, and the state after reset.
-/
namespace Sys2Proof.Machine

/-- Why the machine stops with a fault. No command of the table has one: every command the spec gives an effect ends
in a next state, so this closed type names only operands to which no rule gives a meaning. -/
inductive Fault where
  /-- Raised by no meaning of this model; kept so that a later repair may stop on an operand the spec forbids. Safe:
  the machine stops where the hardware's behaviour is not given. -/
  | illFormed (what : String)
  deriving DecidableEq, Repr

/-- Why a command has no meaning. -/
inductive Refusal where
  /-- Raised by an arm of exec whose command has no meaning yet. Safe: nothing can be proved of it. -/
  | notModelled (mnemonic : String)
  deriving DecidableEq, Repr

/-- A message, pin change or answer the block has sent out, newest first in State.out (the model's own record of what
an observer outside sees; log entry 9). -/
inductive Output where
  /-- The value a register read returned to its requester. -/
  | readData (req : Requester) (addr : Nat) (value : Word)
  /-- A command's answer to its requester: a status code of Table 14.5 and words. -/
  | answer (req : Requester) (status : Nat) (words : List Nat)
  /-- A message of a protocol: its kind by the spec's name, its port, lane or group, and its fields. -/
  | message (kind : String) (port : Nat) (fields : List Nat)
  /-- A pin or line driven to a level. -/
  | pin (name : String) (index : Nat) (level : Bool)
  /-- Blocks on a lane's line, in order: sync header and 64 scrambled payload bits (R221). -/
  | line (lane : Nat) (blocks : List (Nat × Nat))
  deriving DecidableEq, Repr

/-- Who asks for what is being done, and the ledger when the request arrived, in the units of TimeState.led (R39, R41). -/
structure Asker where
  req : Requester
  led : Nat
  deriving DecidableEq, Repr

/-- A posted write waiting for a register-port lock to end (R244), with the ledger of its arrival (R39). -/
structure PostedWrite where
  arrived : Nat := 0
  /-- The clock of its arrival. -/
  since : Nat := 0
  /-- Tile: the port on which it arrived. -/
  port : Bool := false
  requester : Nat
  tag : Nat
  space : Nat
  offset : Nat
  data : List Word
  deriving DecidableEq, Repr

/-- Servo states (Table 02.5), coded as TIME_SERVO_STAT.STATE. -/
inductive ServoState where
  | free | acquire | locked | holdover | slew
  deriving DecidableEq, Repr

/-- The state of a PTP port under the best master clock algorithm (R49, R50). -/
inductive PtpRole where
  | initializing | listening | slave | master | passive
  deriving DecidableEq, Repr

/-- The engine's state of one timestamp port (R49 to R56). Times are in units of 2⁻¹⁶ ns. -/
structure PtpPort where
  role : PtpRole := .initializing
  /-- The IPv4 address of the sender of the best data set, for a unicast Delay_Req (R49). -/
  masterAddr : Nat := 0
  /-- sequenceId of the last Delay_Req, and clocks of the last Sync, Announce and Delay_Req sent (Table 02.7). -/
  reqSeq : Nat := 0
  syncTx : Option Nat := none
  annTx : Option Nat := none
  reqTx : Option Nat := none
  annSeq : Nat := 0
  best : Option PtpDataset := none
  announces : Nat := 0
  lastAnnounce : Nat := 0
  lastSync : Nat := 0
  syncStamp : Int := 0
  syncOrigin : Option Int := none
  syncCorr : Int := 0
  reqStamp : Option Int := none
  mpd : Option Int := none
  deriving DecidableEq, Repr

/-- One entry of a receive timestamp queue (Table 02.8). -/
structure RxEntry where
  stamp : Nat
  fraction : Nat
  lost : Nat
  gap : Bool
  seqId : Nat
  domain : Nat
  msgType : Nat
  deriving DecidableEq, Repr

/-- A receive timestamp queue: its entries oldest first, and the stamps dropped since the last entry (R57 to R60). -/
structure RxQueue where
  entries : List RxEntry := []
  lostRun : Nat := 0
  deriving DecidableEq, Repr

/-- One capture of a timing pin (R69). -/
structure Capture where
  stamp : Nat
  lost : Nat
  gap : Bool
  deriving DecidableEq, Repr

/-- A timing pin's queue and armed pulses (R69 to R71). -/
structure Tpin where
  caps : List Capture := []
  lostRun : Nat := 0
  /-- Clock of the last edge stamped or dropped. -/
  lastEdge : Option Nat := none
  /-- The ledger time of the armed pulse, or from which frame pulses fall; the time armed after it. -/
  armed : Option Nat := none
  next : Option Nat := none
  /-- Offset of frame pulses in force, and the one armed after the next pulse, in ns. -/
  off : Int := 0
  nextOff : Option Int := none
  /-- The ledger time at which the pulse now driven ends. -/
  until_ : Option Nat := none
  missed : Bool := false
  deriving DecidableEq, Repr

/-- An armed snapshot (R77). -/
structure SnapArm where
  id : Nat
  atNs : Nat
  tiles : Bool
  caravan : Bool
  deriving DecidableEq, Repr

/-- Ledger time, servo, stamps, timing pins, LTC, word clock and snapshots (02_ledger_time.md). -/
structure TimeState where
  /-- Ledger time in units of 2⁻²⁸ · 10⁻⁹ ns (R40). -/
  led : Nat := 0
  /-- Rate adjustment in force, and the one waiting for the next frame boundary (R46), units of 2⁻¹² ppb. -/
  adj : Int := 0
  adjNext : Option Int := none
  servo : ServoState := .free
  source : Nat := 0
  /-- The clock at which a source first qualified (R501). -/
  qualAt : Option Nat := none
  armed : Bool := false
  /-- Consecutive measurements completed, by source code (R44). -/
  counts : Tab Nat := []
  inLock : Nat := 0
  overThr : Nat := 0
  lastOffset : Int := 0
  refRate : Int := 0
  /-- Adjustments held in LOCKED, with their clocks, newest first (the last 16 s, Table 02.5). -/
  lockHist : List (Nat × Int) := []
  holdSince : Option Nat := none
  stepPending : Bool := false
  stepDelta : Int := 0
  /-- The effective tally of a fixed step (R63). -/
  stepAt : Option Nat := none
  /-- The step last announced to this device or fixed by it: its tally modulo 2³² as announced, and Δ (R67). -/
  lastStep : Option (Nat × Int) := none
  /-- Hops to a time root, upstream node and the root's node of each caravan source (R44, R251). -/
  upstream : Tab (Nat × Nat × Nat) := []
  ports : Tab PtpPort := []
  rxq : Tab RxQueue := []
  pins : Tab Tpin := []
  ltcLast : Nat := 0
  ltcSeen : Bool := false
  /-- The manifest's PTP master values (R50) and audio limit in units of 2⁻⁸ ppm (R74). -/
  own : PtpDataset := ⟨128, 248, 0xFE, 0xFFFF, 128, 0, 0, 0⟩
  audioLimit : Nat := 256
  snaps : List SnapArm := []
  snapId : Nat := 0
  /-- TIME_SNAP_STAT.STATE: 0 idle, 1 armed, 2 latched, 3 refused. -/
  snapState : Nat := 0
  tilesMissed : Nat := 0
  /-- The shadow set: the counters latched by the last snapshot to fire (R75, R76). -/
  shadow : Tab Word := []
  deriving DecidableEq, Repr

/-- The configuration of a receiver: its registers ING_SRC_CFG to ING_SRC_PQ_PEAK (Table 03.8). -/
structure SrcCfg where
  cfg : Nat := 0x00A00080
  size : Nat := 0
  xfer : Nat := 0x10000000
  p0Addr : Nat := 0
  p0Port : Nat := 0
  p1Addr : Nat := 0
  p1Port : Nat := 0
  clip : Nat := 0
  start : Nat := 0
  pqPeak : Nat := 0x3E8
  deriving DecidableEq, Repr

/-- One ring buffer of a receiver (R82, R86): its Hold address, the media time of its frame, the samples of the pixels
written so far, whether the frame is whole or has been shown, and the stamps of its first and last packet in units of
2⁻¹⁶ ns (R41); a retired buffer belongs to a replaced ring. -/
structure FrameBuf where
  addr : Nat := 0
  retired : Bool := false
  held : Bool := false
  whole : Bool := false
  shown : Bool := false
  media : Nat := 0
  samples : Tab (List Nat) := []
  cfg : SrcCfg := {}
  firstStamp : Nat := 0
  wholeStamp : Nat := 0
  deriving DecidableEq, Repr

/-- One path of a receiver (R83, R84). -/
structure SrcPath where
  /-- Clock of its last packet, or of its enabling. -/
  lastSeen : Nat := 0
  up : Bool := false
  /-- Newest extended sequence number received. -/
  newest : Option Nat := none
  deriving DecidableEq, Repr

/-- A source receiver (03_ingest.md). -/
structure Receiver where
  /-- Berth index of the SOURCE berth; none when unused. -/
  berth : Option Nat := none
  cfg : SrcCfg := {}
  /-- A modify of a type-0 or type-1 source waiting for the next whole frame (R101). -/
  next : Option SrcCfg := none
  /-- The ring allocated for it when its buffers differ: first Hold address, units of one and number. -/
  nextRing : Option (Nat × Nat × Nat) := none
  /-- ING_SRC_STATE.STATE: 0 unused, 1 waiting, 2 running, 3 lost. -/
  state : Nat := 0
  bufs : List FrameBuf := []
  /-- Hold address of the ring buffer of the frame shown at the last selection. -/
  shown : Option Nat := none
  path0 : SrcPath := {}
  path1 : SrcPath := {}
  /-- Extended sequence numbers received within the merge window (R83). -/
  seen : List Nat := []
  /-- Media time of the newest whole frame in the receiver's history (R85). -/
  newest : Option Nat := none
  timingRejects : Nat := 0
  /-- Media times whose remaining packets are discarded (R80, R85, R86, R99). -/
  discard : List Nat := []
  lateHist : List Bool := []
  fmtErr : Bool := false
  /-- First Hold address, units of one buffer and number of buffers of the staging allocation (R88, R90). -/
  base : Nat := 0
  units : Nat := 0
  count : Nat := 0
  deriving DecidableEq, Repr

/-- A staging allocation: first unit, number of units (64 KiB each, R88). -/
structure StageAlloc where
  first : Nat
  units : Nat
  deriving DecidableEq, Repr

/-- The parameters of a layer slot as its registers +0x04 to +0x24 hold them, and its mask buffers (Tables 04.1, 04.8). -/
structure Layer where
  src : Nat := 0
  ctrl : Nat := 0x10000000
  pos : Nat := 0
  cropOrg : Nat := 0
  cropSize : Nat := 0
  dstSize : Nat := 0
  clipOrg : Nat := 0
  clipSize : Nat := 0
  maskSel : Bool := false
  maskBase : Nat := 0
  maskUnits : Nat := 0
  deriving DecidableEq, Repr

/-- What a commit applies (R123, and the commits the other chapters place under R124 to R129). -/
inductive CommitKind where
  /-- A layer slot's parameters, and the mask buffers allocated for them. -/
  | layer (slot : Nat) (p : Layer) (newMask : Bool)
  /-- A commit of a slot refused at acceptance while others wait: its RESULT follows theirs (R128). -/
  | layerRefused (slot result : Nat)
  | maskSel (slot : Nat) (sel : Bool)
  | coef (words : List Nat)
  | source (s : Nat) (cfg : SrcCfg) (newBufs : Option (Nat × Nat × Nat))
  | stillSel (s : Nat) (sel : Bool)
  | clipStart (s : Nat) (start : Nat)
  /-- A destroy of a berth, by its index, kind and resource. -/
  | destroy (index kind resource : Nat)
  | calCtrl (w : Nat)
  | tempDefault (t : Int)
  | binProfile (p : Nat) (words : List Nat)
  | bright (g1 n : Nat)
  | mapEntry (t : Nat) (words : List Nat)
  | linkCfg (lane len : Nat)
  | subframe (n : Nat)
  | scanCtrl (w : Nat)
  | probeBlock (b : Nat) (words : List Nat)
  | emitProfiles (words : List Nat)
  | wayBlock (b : Nat) (words : List Nat)
  | wayParam (i v : Nat)
  /-- A pattern engine's register: 0 to 3 for P01 to P6, 4 for ORIGIN. -/
  | pattern (e reg value : Nat)
  /-- A modify of a LAMP_GROUP: its LAMP_GRP_CFG and LAMP_GRP_PORTS. -/
  | lampGroup (g cfg ports : Nat)
  | quiet (enter : Bool)
  deriving DecidableEq, Repr

/-- A pending commit (R123 to R129): its arrival stamp in units of 2⁻¹⁶ ns (R41, R126), its place among equal stamps (R39:
rank 0 for the Pier, 1 for others, then the order of arrival), the tally of a frame-aligned cue that carries it (R127), and
whether its mask fill is complete (R117). -/
structure Commit where
  stamp : Nat
  rank : Nat := 1
  order : Nat
  cueTally : Option Nat
  fillDone : Bool
  kind : CommitKind
  deriving DecidableEq, Repr

/-- The frame a layer takes at a selection point: nothing drawn, a ring or staging buffer, a solid or a pattern. -/
inductive FrameSel where
  | none
  | buffer (addr fmt w h : Nat)
  | solid (r g b a w h : Nat)
  | pattern (code w h : Nat)
  deriving DecidableEq, Repr

/-- A layer as selected for a tally: its slot, parameters, source frame and whether it is elided. -/
structure SelLayer where
  slot : Nat
  p : Layer
  frame : FrameSel
  elided : Bool
  deriving DecidableEq, Repr

/-- A composition in progress or finished: its tally, layers, target buffer and the coefficients it started with. -/
structure CompJob where
  tally : Nat
  layers : List SelLayer
  buf : Nat
  done : Bool
  coefs : List Nat := []
  deriving DecidableEq, Repr

/-- Staging or a berth index whose release waits for the raster of a tally to end (R132, R133). -/
structure Deferred where
  untilTally : Nat
  allocs : List StageAlloc
  berth : Option Nat
  deriving DecidableEq, Repr

/-- The frame pipeline and the compositor (01_architecture.md R24, R25; 04_composition.md). -/
structure PipeState where
  receivers : Tab Receiver := []
  stage : List StageAlloc := []
  layers : Tab Layer := []
  coefs : List Nat := []
  commits : List Commit := []
  nextOrder : Nat := 0
  /-- Commits latched with their effective tally, waiting for the raster, values or instant of that tally. -/
  latched : List (Nat × CommitKind) := []
  /-- Tally of the last latch edge. -/
  edge : Option Nat := none
  /-- Tally of the last selection point. -/
  lastSel : Option Nat := none
  sel : Option CompJob := none
  comp : Option CompJob := none
  /-- Front buffer index and the tally whose canvas it holds. -/
  front : Nat := 0
  frontTally : Option Nat := none
  /-- Tally in raster, the tally whose canvas the raster reads, and whether it was aborted. -/
  raster : Option Nat := none
  rasterOf : Option Nat := none
  /-- The tally whose scan-out began last. -/
  started : Option Nat := none
  aborted : Bool := false
  blanking : Bool := false
  /-- Tally last presented. -/
  presented : Option Nat := none
  /-- Tallies that the last forward step skipped: those above the first and up to the second (R65). -/
  skip : Option (Nat × Nat) := none
  deferred : List Deferred := []
  /-- Repeat or abort of the last 256 tallies, newest first (R136). -/
  overrunHist : List Bool := []
  /-- Enabled layers of each tally's latched set that name a source, for R133: (tally, source handles). -/
  refs : List (Nat × List Nat) := []
  deriving DecidableEq, Repr

/-- A brightness ramp (R155): G0, G1, its length and its effective tally. -/
structure Ramp where
  g0 : Nat
  g1 : Nat
  len : Nat
  eff : Nat
  deriving DecidableEq, Repr

/-- The calibration engine (05_pixel_calibration.md). -/
structure CalState where
  /-- CAL_CTRL in force (R142). -/
  ctrl : Nat := 3
  /-- CAL_TEMP_DEFAULT in force, 1/16 °C (R38, R153). -/
  tempDefault : Int := 400
  /-- Live bin profiles that differ from the reset profile, 64 words each (R148, R149). -/
  bins : Tab (List Nat) := []
  /-- Brightness before any ramp, and the ramps, newest first (R154, R155). -/
  base : Nat := 4096
  ramps : List Ramp := []
  /-- The clock at which a tile last became calibrated, MISSING, FAILED or lost (R501). -/
  readyAt : Nat := 0
  /-- Ledger second at which the ambient input was last read (R156). -/
  ambSecond : Option Nat := none
  deriving DecidableEq, Repr

/-- The upload of a calibration image (R160 to R165). -/
structure Upload where
  /-- 0 none, 1 waiting for staging, 2 header asked, 3 entries asked, 4 accepted and waiting to be copied. -/
  step : Nat := 0
  attempts : Nat := 0
  started : Nat := 0
  /-- First unit of the temporary area, and its units. -/
  unit : Nat := 0
  units : Nat := 0
  header : List Byte := []
  /-- WIDTH and HEIGHT: the tile's, until its header gives the image's. -/
  width : Nat := 0
  height : Nat := 0
  /-- The upload was asked for by CAL_TILE_RELOAD (R167). -/
  reload : Bool := false
  /-- Runs of entry bytes received: offset and length, rising and apart. -/
  got : List (Nat × Nat) := []
  /-- The first tally effective here under R162, the twin's, and the one from which the entries apply (R163). -/
  own : Nat := 0
  peer : Option Nat := none
  eff : Option Nat := none
  deriving DecidableEq, Repr

/-- An accepted image in the calibration store: tile identity, region (XO, YO, WR, HR, ORIENT), CAL_ID and DATA_CRC
(R164). -/
structure CalImage where
  ident : Nat
  place : List Nat
  calId : Nat
  crc : Nat
  deriving DecidableEq, Repr

/-- What the device holds of the tile matched to a tile-map entry (06_scanout_tiles.md, R184 to R192). -/
structure TileEntry where
  /-- SCAN_TILE_STAT.STATE (Table 06.7). -/
  state : Nat := 0
  moved : Bool := false
  lane : Nat := 0
  hop : Nat := 0
  pos : Nat := 0
  ident : Nat := 0
  epoch : Nat := 0
  width : Nat := 0
  height : Nat := 0
  calSize : Nat := 0
  ranges : List (Nat × Nat × Nat) := []
  matched : Nat := 0
  lastStatus : Nat := 0
  status : Option TileStatus := none
  /-- Stamp of its receipt, units of 2⁻¹⁶ ns (R41). -/
  statusAt : Nat := 0
  /-- Qualifying temperatures: sample time in ledger ns, value and stamp of receipt in units of 2⁻¹⁶ ns, newest first. -/
  temps : List (Nat × Int × Nat) := []
  temp : Option Int := none
  heldSince : Option Nat := none
  /-- The other place where its identity is found (R189). -/
  other : Option (Nat × Nat) := none
  /-- Words W3 to W5 in use when they differ from the map's (R192). -/
  place : Option (List Nat) := none
  /-- Output CRC of the last tally, consecutive tallies with it, and tallies in hold (R184, R185). -/
  crc : Nat := 0
  run : Nat := 0
  held : Bool := false
  heldFor : Nat := 0
  /-- Rediscovered since the last tally: the tile gets every packet of the next (R185). -/
  renewed : Bool := false
  stored : Option CalImage := none
  /-- BIN of the header last checked (R166). -/
  calBin : Option Nat := none
  /-- CAL_TILE_STAT.STATE (Table 05.9). -/
  cal : Nat := 0
  binDiff : Bool := false
  upload : Upload := {}
  deriving DecidableEq, Repr

/-- A tile found at a place: lane × 64 + hop (R187 to R190). -/
structure Found where
  ident : Nat
  epoch : Nat
  pos : Nat
  entry : Option Nat := none
  width : Nat
  height : Nat
  calSize : Nat
  ranges : List (Nat × Nat × Nat)
  lastStatus : Nat
  rateA : Nat := 4
  rateB : Nat := 4
  deriving DecidableEq, Repr

/-- The walk of a chain end (R239): the next hop to find, hops asked and not answered, and the clock of the last
DISCOVER. -/
structure Walk where
  hop : Nat := 0
  asked : List Nat := []
  last : Nat := 0
  deriving DecidableEq, Repr

/-- Scan-out, the tile map and discovery (06_scanout_tiles.md). -/
structure ScanState where
  /-- Accepted tile-map entries, eight words each (Table 06.1), and those in force for the raster. -/
  map : Tab (List Nat) := []
  live : Tab (List Nat) := []
  /-- CHAIN_LEN of each lane, accepted. -/
  chain : Tab Nat := []
  /-- SCAN_CTRL and SCAN_SUBFRAME in force. -/
  ctrl : Nat := 0x01000801
  sub : Nat := 8
  entries : Tab TileEntry := []
  found : Tab Found := []
  walks : Tab Walk := []
  /-- Clock since which a chain reads as broken, and as heard whole, by lane (R181). -/
  breakSince : Tab Nat := []
  wholeSince : Tab Nat := []
  /-- Entries whose first status after a snapshot is awaited (R247). -/
  snapWait : List Nat := []
  deriving DecidableEq, Repr

/-- A port of a tile: whether it is linked, its rate code, when and with what role it last heard the device at that end,
and its low-power idle (R233, R259, R260). -/
structure TilePort where
  linked : Bool := false
  rate : Nat := 0
  heardAt : Option Nat := none
  role : Nat := 0
  asleep : Bool := false
  refreshed : Nat := 0
  /-- Clock of the last exchange completed on the port, with LOCKED in it (R250). -/
  exchanged : Option Nat := none
  deriving DecidableEq, Repr

/-- A tile conforming to Profile T (R175 to R180, R184, R234 to R241, R246, R247). -/
structure Tile where
  info : TileInfo
  epoch : Nat := 0
  needDiscovery : Bool := true
  pos : Option Nat := none
  /-- The epoch under which it took its position (R238). -/
  posEpoch : Nat := 0
  chainLen : Nat := 0
  conflict : Bool := false
  /-- The port that is the A port: the second when true. -/
  aPort : Bool := false
  p0 : TilePort := {}
  p1 : TilePort := {}
  /-- The tally being received and its segments kept, by line × 4 + segment. -/
  rx : Option Nat := none
  segs : Tab (List (Nat × Nat × Nat)) := []
  /-- Tokens received for tallies not yet past. -/
  toks : List Token := []
  last : Option Token := none
  lastToken : Nat := 0
  /-- Emission grid: start of the present tally's sub-frames (ns), its tally, PERIOD and SUBFRAMES (R176). -/
  gridAt : Nat := 0
  gridTally : Nat := 0
  gridPeriod : Nat := 0
  gridSubs : Nat := 0
  shown : Nat := 0
  frame : Option (Tab (List (Nat × Nat × Nat))) := none
  incTally : Nat := 0
  newInc : Bool := false
  lossBlack : Bool := false
  held : Bool := false
  seq : Nat := 0
  lastStatus : Option Nat := none
  /-- Counters of Table 08.10 from PIX_RX to LINK_EVT, and their snapshot shadows. -/
  counters : List Nat := [0, 0, 0, 0, 0, 0, 0, 0]
  shadow : List Nat := [0, 0, 0, 0, 0, 0, 0, 0]
  snapId : Nat := 0
  /-- Snapshots armed: ID and time in ns (R247). -/
  snaps : List (Nat × Nat) := []
  /-- Holder and clock of its register port's lock, and posted writes waiting for its end (R244). -/
  lock : Option (Nat × Nat) := none
  waitingPosted : List PostedWrite := []
  /-- Its last measured offset from the end it follows, in ns, and consecutive offsets within ±25 ns (R250). -/
  timeErr : Int := 0
  inLock : Nat := 0
  deriving DecidableEq, Repr

/-- What a lane's transmitter sends while it has no packet (R199, R211, R214, R224 to R227): nothing; IDLE blocks; IDLE
blocks with a HAIL among them; STEP blocks of a rung and target with COUNTDOWN 255, each followed by an IDLE block; a
pseudo-random sequence (1 PRBS7, 2 PRBS15, 3 PRBS31), inverted or not. -/
inductive LaneTx where
  | squelched | idle | hail
  | step (rung target : Nat)
  | prbs (kind : Nat) (inverted : Bool)
  deriving DecidableEq, Repr

/-- What a lane holds beside its registers (07_lanes.md, R199 to R217). -/
structure Lane where
  tx : LaneTx := .squelched
  /-- Identical answered hails received, and the last of them (R224). -/
  hails : Nat := 0
  lastHail : Option Hail := none
  exchSince : Nat := 0
  target : Nat := 0
  nextRung : Nat := 0
  /-- Rate code from which the present step starts. -/
  fromRate : Nat := 0
  /-- A STEP naming the agreed rung has been received, at this clock (R225). -/
  stepAgreed : Option Nat := none
  /-- The last COUNTDOWN received and its clock. -/
  lastCount : Nat := 255
  countAt : Nat := 0
  /-- Clocks of the switches of the lane's own transmitter and receiver (R225). -/
  txSwitch : Option Nat := none
  rxSwitch : Option Nat := none
  passed : Bool := false
  partnerPassed : Bool := false
  /-- Successive failures, and the rung at which they came (R202). -/
  fails : Nat := 0
  failRung : Nat := 0
  /-- Clock of the last HAIL sent in HAIL or RESERVE_IDLE (R199, R211). -/
  hailAt : Option Nat := none
  backoffUntil : Nat := 0
  linkedSince : Option Nat := none
  downSince : Nat := 0
  relockSince : Nat := 0
  losSince : Option Nat := none
  /-- Clock of the lock loss that a reserve is to stand in for (R212). -/
  substSince : Option Nat := none
  /-- A returning member checks its 2²⁸ bits at the group rate from this clock (R210). -/
  rejoinSince : Option Nat := none
  /-- The member in whose place this lane steps (R212, R213). -/
  standIn : Option Nat := none
  /-- The scan point under way: its clock and DWELL (R216); the clock of the last margin measurement (R217). -/
  eye : Option (Nat × Nat) := none
  marginAt : Option Nat := none
  /-- A member of a group that has left it climbs straight to the group rate (R210). -/
  oneStep : Bool := false
  /-- The PRBS checker (R215): the last bits received, newest as bit 0, how many of them count, and whether each of the
  last 64 bits compared was correct, newest first. -/
  prbsReg : Nat := 0
  prbsBits : Nat := 0
  prbsHist : List Bool := []
  deriving DecidableEq, Repr

/-- A packet ready to be sent (R231): the clock at which it became ready, its CLASS, its name and its bytes. -/
structure TxPacket where
  ready : Nat
  cls : Nat
  kind : String
  bytes : List Byte
  deriving DecidableEq, Repr

/-- The transmitter of a link: packets not yet sent in the order they became ready, the clock at which the packet being
sent ends, and the member to which the next block goes (R228, R231, R254). -/
structure LinkTx where
  queue : List TxPacket := []
  freeAt : Nat := 0
  deal : Nat := 0
  deriving DecidableEq, Repr

/-- The receiving side of a group's stripe (R254 to R257): the blocks of each lane that wait for their turn, the members that
carry this period and those announced for the next, whether a period is open, the member whose block follows, and the
AM_COUNT and arrival clock of each lane's last ALIGN. -/
structure GroupRx where
  queues : Tab (List SlkBlock) := []
  mask : Nat := 0
  announced : Option Nat := none
  opened : Bool := false
  turn : Nat := 0
  aligns : Tab (Nat × Nat) := []
  deriving DecidableEq, Repr

/-- The block layer (R221, R228, R231): transmitters by link (a group's number, 8 + a tile lane's, 64 + 2 × a tile's number
+ its port), the bytes of a packet that has not all arrived, the scrambler of each lane with the clock up to which its
blocks have followed one another, the stripes received, and what each group was given to send in the last second: clock,
class and bits (R258). -/
structure PhyState where
  tx : Tab LinkTx := []
  rx : Tab (List Byte) := []
  scr : Tab (Nat × Nat) := []
  stripes : Tab GroupRx := []
  demand : Tab (List (Nat × Nat × Nat)) := []
  deriving DecidableEq, Repr

/-- Register-transaction credits of a link (R245): totals modulo 2¹⁶ granted by the partner and by this end, and packets
sent since the link became LINKED. -/
structure Credits where
  reqLimit : Nat := 32
  rspLimit : Nat := 32
  reqSent : Nat := 0
  rspSent : Nat := 0
  grantReq : Nat := 32
  grantRsp : Nat := 32
  deriving DecidableEq, Repr

/-- The time-transfer exchange of a link (R248, R249); stamps in units of 2⁻¹⁶ ns. -/
structure TimeLink where
  seq : Nat := 0
  /-- SEQ, stamp t3 and clock of the TIME packets sent in the last 10 ms, newest first. -/
  sent : List (Nat × Int × Nat) := []
  /-- SEQ of the last TIME received, its TX_STAMP t1 and receive stamp t2. -/
  last : Option (Nat × Int × Int) := none
  /-- TX_STAMP and receive stamp of received TIME packets by SEQ, newest first. -/
  got : List (Nat × Int × Int) := []
  lastDone : Option Nat := none
  peer : Nat := 0
  /-- LOCKED as the last TIME received carried it. -/
  peerLocked : Bool := false
  /-- The time (ns) at which the partner's announced step takes effect (R248). -/
  peerStep : Option Nat := none
  /-- Clock from which the next packet of the cadence is due (R248). -/
  dueAt : Nat := 0
  deriving DecidableEq, Repr

/-- Low-power idle of a tile lane (R186, R259, R260): whether it is idle, the clock of its last refresh, and the clock
before which a lane that has been woken sends no packet. -/
structure LpiState where
  idle : Bool := false
  lastRefresh : Nat := 0
  wakeUntil : Nat := 0
  deriving DecidableEq, Repr

/-- Sardylink links (08_sardylink.md). -/
structure SlkState where
  credits : Tab Credits := []
  timeLinks : Tab TimeLink := []
  /-- Clocks of the last 100 CRC failures of a lane, newest first (Table 08.21). -/
  crc : Tab (List Nat) := []
  /-- The device's register port: holder and clock of the grant (R244). -/
  lock : Option (Nat × Nat) := none
  waitingPosted : List PostedWrite := []
  /-- REG packets that wait for a credit of a link, oldest first: the link, whether it is a request, and the packet
  (R245). -/
  regWait : List (Nat × Bool × List Byte) := []
  lpi : Tab LpiState := []
  /-- Clock since which each group's skew has stayed within 640 ns. -/
  skewSince : Tab Nat := []
  /-- AM_COUNT of each group's period, and the clock at which it opened (R254). -/
  amCount : Tab (Nat × Nat) := []
  lastBeacon : Tab Nat := []
  deriving DecidableEq, Repr

/-- One entry of the route table (R269). -/
structure Route where
  node : Nat
  group : Nat
  hops : Nat
  refreshed : Nat
  deriving DecidableEq, Repr

/-- A witness of R276: its arrival clock, tile-map entry, whether it hears the twin's end, and the role it heard. -/
structure Witness where
  clk : Nat
  tile : Nat
  hears : Bool
  role : Nat
  deriving DecidableEq, Repr

/-- Caravans and twins beside their registers (09_caravan_twins.md). -/
structure TwinState where
  routes : List Route := []
  /-- REG requests and MGMT messages acted on, with their clocks (R270). -/
  dupReg : List ((Nat × Nat) × Nat) := []
  dupMgmt : List ((Nat × Nat) × Nat) := []
  /-- Origins of each stream number with the clock last heard (R266). -/
  streamOrigins : List ((Nat × Nat) × Nat) := []
  dupNode : Bool := false
  /-- Last valid heartbeat on the group and on the bell: clock and SEQ (R274). -/
  hbGroup : Option (Nat × Nat) := none
  hbBell : Option (Nat × Nat) := none
  hbSeq : Nat := 0
  /-- The twin's digest is to be read (R283). -/
  digestDue : Bool := false
  /-- The multiple of 50,000 ns at which the last heartbeat was sent (R273). -/
  hbAt : Option Nat := none
  /-- Clock of the last presence message and the groups LINKED then (R269). -/
  presence : Option (Nat × List Nat) := none
  eligibleSince : Nat := 0
  promotedAt : Nat := 0
  /-- Since which clock heartbeats have shown the twin neither Lead nor eligible, or an eligible Escort (P3, P4). -/
  peerIdleSince : Option Nat := none
  peerEscortSince : Option Nat := none
  witnesses : List Witness := []
  /-- Role each tile last heard from the twin's end, for a rise. -/
  lastHeard : Tab Nat := []
  lastRise : Option Nat := none
  trialStart : Option Nat := none
  trialFailAt : Option Nat := none
  /-- ELIGIBLE has been set since power-good (R512). -/
  everEligible : Bool := false
  /-- 1 after D4, until a sea trial passes; 2 after D5, until one that a rerun command or a reset started passes (Table
  09.3). -/
  heldDown : Nat := 0
  /-- Unique device ID that the twin's presence message carried (R331). -/
  peerUid : Option Nat := none
  /-- Mirrored inputs waiting for their tally (R284). -/
  mirrored : List (Nat × MirrorInput) := []
  deriving DecidableEq, Repr

/-- A MAC beside its registers (10_ethernet.md). -/
structure MacState where
  /-- Frames in the transmit queues, oldest first, by queue: what each is and its octets up to the end of its payload
  (R304); the frame being sent, with tag, padding and FCS (R305). -/
  txq : Tab (List (String × List Byte)) := []
  sending : Option (String × List Byte) := none
  /-- Frames in receive queues 4 to 7, oldest first, and frames held by the QMP consumer (R301, R302). -/
  rxq : Tab (List (List Byte)) := []
  qmpIn : Nat := 0
  /-- Clock at which each queue's pause timer ends (R307). -/
  timers : Tab Nat := []
  /-- Spans of paused time by queue, in clocks, newest first, and the clock up to which they are counted (R309). -/
  spans : Tab (List (Nat × Nat)) := []
  counted : Nat := 0
  pausedClks : Nat := 0
  holdoffEnd : Option Nat := none
  /-- Pause registers in force, and those waiting for the end of the frame being sent (R312). -/
  pauseCfg : Nat := 0x1F4B
  pauseWin : Nat := 0x000A000A
  pauseNext : Option (Nat × Nat) := none
  /-- IPv4 groups joined, and whether an IGMPv2 querier has been heard (R303). -/
  groups : List Nat := []
  igmp2 : Bool := false
  /-- Subnet mask and gateway of the manifest (R294). -/
  mask : Nat := 0
  gateway : Nat := 0
  /-- Groups whose join was not made (R303). -/
  denied : List Nat := []
  /-- Filter entries that a commit replaced: its clock, the entry and its old words (R300). -/
  fltWas : List (Nat × Nat × List Nat) := []
  /-- Clocks of the last 100 FCS failures, newest first (Table 10.8). -/
  fcs : List Nat := []
  /-- Gangway: clock of the last poll of its PHY (R292). -/
  polled : Option Nat := none
  deriving DecidableEq, Repr

/-- Values with the tally from which each holds, newest first. -/
abbrev Timed (α : Type) := List (Nat × α)

/-- A source of an input universe (R330): its CID, priority, last sequence number, slots and clock of its last packet. -/
structure SacnSource where
  cid : Nat
  prio : Nat
  seq : Nat
  slots : List Nat
  last : Nat
  deriving DecidableEq, Repr

/-- An input universe (R330): its sources, last sequence accepted, slots by the tally from which they apply, and whether
every source has been lost. -/
structure UnivIn where
  sources : List SacnSource := []
  lastSeq : Nat := 0
  slots : Timed (List Nat) := []
  lost : Bool := false
  deriving DecidableEq, Repr

/-- An output universe (R331 to R333): the slots last sent, packets since the last change, sequence number, clock of the
last packet, tally last handled, terminating packets left, and its set's MACs, SLOTS and PRIORITY. -/
structure UnivOut where
  sent : List Nat := []
  since : Nat := 0
  seq : Nat := 0
  last : Option Nat := none
  tally : Option Nat := none
  term : Nat := 0
  macs : Nat := 0
  slots : Nat := 0
  prio : Nat := 100
  deriving DecidableEq, Repr

/-- An RDM transaction's request (R337 to R340): the discovery messages, and a GET or SET with its door. -/
inductive RdmOp where
  | unMute
  | mute (uid : Nat) (known : Bool)
  | branch (lo hi : Nat)
  | request (door : Door) (cc uid sub pid : Nat) (pd : List Nat) (retried : Bool)
  deriving DecidableEq, Repr

/-- A DMX port beside its registers (R334 to R340): the frame being sent, the tally of the last frame slot, frames in
succession that read back wrong, the transaction under way, discovery messages and requests to send, frame slots since
the last given to RDM, whether RDM work has found no gap, responders with their missed checks, and the clock of the last
discovery. -/
structure Dmx where
  sending : Option (List Nat) := none
  tally : Option Nat := none
  wrong : Nat := 0
  txn : Option RdmOp := none
  txnSince : Nat := 0
  disc : List RdmOp := []
  queue : List RdmOp := []
  sinceRdm : Nat := 256
  frameSince : Nat := 0
  tn : Nat := 0
  starved : Bool := false
  uids : List (Nat × Nat) := []
  lastDisc : Nat := 0
  deriving DecidableEq, Repr

/-- The probe outputs of a tally: the ledger time at which they were ready, the tally of whose canvas they are (an earlier one
where composition repeated or aborted, R134, R135), and six channels by entry. -/
structure ProbeVals where
  tally : Nat
  ready : Nat
  base : Nat
  vals : Tab (List Nat)
  deriving DecidableEq, Repr

/-- A waybill's outputs (R321 to R323): tally, values and the tally at which they last changed, newest first, and the
tally last counted late (R27), and the tally of its last own departure. -/
structure WayOut where
  hist : List (Nat × List Nat × Nat) := []
  late : Option Nat := none
  left : Option Nat := none
  deriving DecidableEq, Repr

/-- Probes, waybills and fixture ports beside their registers (11_probes_fixtures.md). -/
structure FixState where
  /-- Live probe table: words W0 and W1 of each entry by the tally from which they hold (Table 11.1). -/
  probes : Tab (Timed (Nat × Nat)) := []
  /-- Live emitter profiles, 1,024 words (Table 11.2); those of R317 before any. -/
  emit : Timed (List Nat) := []
  /-- Probe outputs of tallies, newest first (R315 to R318). -/
  values : List ProbeVals := []
  /-- Live waybill table: eight words of each entry (Table 11.3), with DORMANT in W0[12]. -/
  ways : Tab (Timed (List Nat)) := []
  outs : Tab WayOut := []
  /-- Late departures of each waybill, and their snapshot shadow (R342). -/
  late : Tab Nat := []
  lateShadow : Tab Nat := []
  /-- WAY_PARAM values in force, latest timecode and watchkeeper values by the tally from which they apply. -/
  params : Tab (Timed Nat) := []
  ltc : Timed Nat := []
  watch : Tab (Timed Nat) := []
  univIn : Tab UnivIn := []
  univOut : Tab UnivOut := []
  /-- The manifest gives the CID (R331). -/
  cidGiven : Bool := false
  /-- RDM UID of the controller (R337). -/
  rdmUid : Nat := 0x7FF0 * 2 ^ 32
  lastDiscovery : Nat := 0
  dmx : Tab Dmx := []
  deriving DecidableEq, Repr

/-- A value latched for a lamp group: its parameter (0 to 5 levels, 6 master), value, clock, and whether it applies only
from a period that starts after that clock (R355). -/
structure LampVal where
  param : Nat
  value : Nat
  clk : Nat
  strict : Bool
  deriving DecidableEq, Repr

/-- A lamp port beside its registers (12_lamp_ports.md): A and D of the present period, the skipping accumulator (ns), the
gain G, DIM, THERM, COMP and TREF in force, the clock of its last thermometry window and its slot, whether it has passed
the neighbour test since it was enabled, the clock of a restart, whether it was off by a fault, samples of the present
millisecond (current, output and input voltage, with their counts), the last means of VOUT with their A and D, and
bootstrap skips in succession. -/
structure LampPort where
  a : Nat := 1
  d : Nat := 0
  acc : Nat := 0
  gain : Nat := 16384
  dim : Nat := 0x0100007F
  therm : Nat := 0
  comp : Nat := 0x04000000
  tref : Nat := 0x190
  window : Option Nat := none
  slot : Option Nat := none
  tested : Bool := false
  restart : Option Nat := none
  wasOff : Bool := false
  sumI : Nat := 0
  sumV : Nat := 0
  numIV : Nat := 0
  sumIn : Nat := 0
  numIn : Nat := 0
  means : List (Nat × Nat × Nat) := []
  bstRun : Nat := 0
  windowIn : Option Nat := none
  nbSlot : Option Nat := none
  pulse : List Nat := []
  deriving DecidableEq, Repr

/-- A lamp group beside its registers: values waiting for a period, and the last pattern output of its master. -/
structure LampGroup where
  pend : List LampVal := []
  patW : Nat := 65535
  deriving DecidableEq, Repr

/-- A pattern engine in force (R357 to R359): its parameter words, ORIGIN, and the words and phase of its last
evaluation. -/
structure LampEngine where
  p01 : Nat := 0xFFFF0000
  p23 : Nat := 0x3E8
  p45 : Nat := 0x1000
  p6 : Nat := 0x8000
  origin : Nat := 0
  evald : Option (Nat × Nat × Nat × Nat) := none
  deriving DecidableEq, Repr

/-- The lamp die (12_lamp_ports.md): its ports, groups and engines, the start and length of the PWM period, the last whole
millisecond posted, the two causes of a hold, whether VDD_LAMP has been good for 100 µs (R536), NTC constants (B, R26), and
Tj received from the Lead by port (R365). -/
structure LampState where
  ports : Tab LampPort := []
  groups : Tab LampGroup := []
  engines : Tab LampEngine := []
  period : Nat := 0
  periodLen : Nat := 1000000
  posted : Nat := 0
  linkHold : Bool := false
  brownHold : Bool := false
  supplyOk : Bool := true
  ntc : Tab (Nat × Nat) := []
  leadTj : Tab (Timed Int) := []
  adcNext : Tab Nat := []
  deriving DecidableEq, Repr

/-- A berth table entry (R375 to R379): its kind, generation and state (0 free, 1 live, 2 pending release), its resource
and the resource's extent, the parameters of kinds without registers, and the effective tally of its destroy. -/
structure Berth where
  kind : Nat := 0
  gen : Nat := 0
  state : Nat := 0
  resource : Nat := 0
  extent : Nat := 0
  params : List Nat := []
  endTally : Option Nat := none
  deriving DecidableEq, Repr

/-- The berth table: entries used since reset by index, and indices free again in the order they became free (R377). -/
structure BerthState where
  entries : Tab Berth := []
  freed : List Nat := []
  deriving DecidableEq, Repr

/-- A cue (Tables 13.4, 13.5): its record, generation, state, dependence counter, due time resolved (ns) and due tally, and
how it ended. -/
structure Cue where
  words : List Nat
  gen : Nat
  state : Nat := 1
  counter : Nat := 0
  /-- Stamp of its creation. -/
  made : Nat := 0
  /-- Resolved ledger time in ns of a ledger-time or timecode cue. -/
  dueNs : Option Nat := none
  /-- A timecode cue whose resolution is fixed, and one that used its own in a twin (R393, R395). -/
  fixed : Bool := false
  dueTally : Nat := 0
  /-- Clock and ledger time at which it became READY. -/
  readyClk : Nat := 0
  readyNs : Nat := 0
  lateActed : Bool := false
  /-- Skipped by a forward step: due at once (R396). -/
  crossed : Bool := false
  /-- The ledger at which it acted or ended, and its FRACTION (R41). -/
  at64 : Nat := 0
  atFrac : Nat := 0
  cause : Nat := 0
  deriving DecidableEq, Repr

/-- The cue slots (R384): cues by slot, and slots whose cue has completed, oldest first. -/
structure CueState where
  slots : Tab Cue := []
  freed : List Nat := []
  deriving DecidableEq, Repr

/-- A happening that is reported as an event (Table 14.6). -/
structure Event where
  code : Nat
  sev : Nat := 0
  stamp : Nat := 0
  frac : Nat := 0
  source : Nat := 0
  data : List Nat := []
  deriving DecidableEq, Repr

/-- A QMP session (R405 to R407, R409). -/
structure Session where
  id : Nat
  mac : Nat := 0
  sender : Nat := 0
  auth : Bool := false
  /-- Its key SK (R406). -/
  key : List Byte := []
  /-- Clock of the last valid message. -/
  last : Nat := 0
  top : Option Nat := none
  /-- SEQs accepted within 64 of the greatest. -/
  accepted : List Nat := []
  /-- The last 16 responses, newest first: SEQ and message bytes. -/
  responses : List (Nat × List Byte) := []
  classes : Nat := 0
  minSev : Nat := 0
  /-- Address to which events go. -/
  evMac : Nat := 0
  evAddr : Nat := 0
  /-- Events queued, oldest first, with their EV_SEQ; events queued so far; events discarded before the next. -/
  events : List (Nat × Event) := []
  evSeq : Nat := 0
  lost : Nat := 0
  outSeq : Nat := 0
  deriving DecidableEq, Repr

/-- A transaction of the Ferry that waits to be sent or for its response (R422, R423): its tag, requester's door and message
type, OP of Table 08.11, Ferry NODE with the target it named (a node ID, or a tile-map entry), and address; for a widened
read, the first word asked for and how many (R429). -/
structure Txn where
  tag : Nat := 0
  door : Door
  type : Nat
  op : Nat
  node : Nat
  dest : Nat
  space : Nat
  offset : Nat
  count : Nat
  data : List Word := []
  posted : Bool := false
  locked : Bool := false
  skip : Nat := 0
  want : Nat := 0
  range : Nat := 64
  /-- A read of a node's shadows waits for this SNAP_ID to be compared with that node's TIME_SNAP_STAT (R403); 0 for none. -/
  snap : Nat := 0
  /-- The clock at which it was sent, or at which it began to wait for the local port. -/
  sentAt : Nat := 0
  /-- FERRY_TIMEOUT as it stood when the transaction arrived, in clocks (R423, R433). -/
  limit : Nat := 0
  /-- The transaction belongs to the locked sequence that runs. -/
  ofSeq : Bool := false
  /-- A posted write whose requester is answered when it has been sent. -/
  answer : Bool := false
  /-- The ledger of its arrival (R39), for one that waits. -/
  arrived : Nat := 0
  /-- A cue's local write: the bits it changes, and the tally that its commit carries (R127). -/
  mask : Nat := 2 ^ 32 - 1
  cue : Option Nat := none
  deriving DecidableEq, Repr

/-- A prefetched line (R429): its first address, words and whether each has been delivered. -/
structure Line where
  door : Door
  node : Nat
  space : Nat
  base : Nat
  words : List Word
  taken : List Bool
  range : Nat
  since : Nat
  deriving DecidableEq, Repr

/-- A locked sequence (R430 to R432): what it is, the address of its first far operation (0 for none), operations done and
values read, its restarts, and the step it stands at: 0 waiting, 1 LOCK sent, 2 a far operation sent, 3 waiting to send
LOCK again, 4 backing off, 5 waiting to send a far operation. -/
structure LockSeq where
  /-- The ledger of its arrival (R39), and FERRY_TIMEOUT as it stood then, in clocks (R433). -/
  arrived : Nat := 0
  limit : Nat := 0
  door : Door
  ops : List SeqOp
  far : Nat
  done : Nat := 0
  values : List Nat := []
  restarts : Nat := 0
  step : Nat := 0
  tag : Nat := 0
  until_ : Nat := 0
  /-- The far operation under way is the read of a masked write. -/
  merging : Bool := false
  deriving DecidableEq, Repr

/-- A request relayed for a controller, waiting for its response (R408). -/
structure Relayed where
  door : Door
  type : Nat
  seq : Nat
  since : Nat
  limit : Nat
  deriving DecidableEq, Repr

/-- An arm sent to every node, whose answers are awaited for 5 ms (SNAP_ARM of Table 14.3): its number, who asked and when,
nodes not yet heard with the SEQ of the arm sent to each, and nodes that refused. -/
structure SnapPoll where
  seq : Nat
  door : Door
  since : Nat
  waiting : List (Nat × Nat)
  refused : List Nat := []
  deriving DecidableEq, Repr

/-- QMP and the Ferry (14_qmp_pier_ferry.md). -/
structure FerryState where
  sessions : List Session := []
  /-- The clocks of the newest AUTH answers of each MAC, newest first, at most 10 (R406). -/
  authSent : Tab (List Nat) := []
  nextTag : Nat := 1
  /-- Tags used within the last 10 ms, with their clocks (R270). -/
  recentTags : List (Nat × Nat) := []
  out : List Txn := []
  waiting : List Txn := []
  /-- Local transactions that wait for the end of a lock on the device's register port, oldest first (R431). -/
  localWait : List Txn := []
  lines : List Line := []
  seqs : List LockSeq := []
  relayed : List Relayed := []
  polls : List SnapPoll := []
  relaySeq : Nat := 0
  /-- Ranges that conflict with a tile: range and tile-map entry (R428). -/
  conflicts : List (Nat × Nat) := []
  deriving DecidableEq, Repr

/-- A word in an outbound queue of the Pier. -/
structure OutWord where
  sop : Bool
  eop : Bool
  data : Nat
  deriving DecidableEq, Repr

/-- An outbound queue of the Pier (R414 to R417): words held, words of a long packet not yet placed, packets waiting
(PTYPE, source and bytes), packets discarded since the last placed, whether a packet is partly read, and when its stale
timer last restarted. -/
structure OutQ where
  words : List OutWord := []
  feed : List OutWord := []
  waiting : List (Nat × Nat × List Byte) := []
  lost : Nat := 0
  reading : Bool := false
  timer : Option Nat := none
  deriving DecidableEq, Repr

/-- An inbound queue of the Pier (R418): the packet being written, whether it is to be discarded, and its LENGTH. -/
structure InQ where
  open_ : Bool := false
  bad : Bool := false
  ptype : Nat := 0
  length : Nat := 0
  bytes : List Byte := []
  deriving DecidableEq, Repr

/-- The Pier (R410 to R420). -/
structure PierState where
  outq : Tab OutQ := []
  inq : Tab InQ := []
  lastResult : Nat := 0
  deriving DecidableEq, Repr

/-- States of a detector instance (FLT_INST_STAT.STATE). -/
inductive FltState where
  | good | fault | escalated | rail
  deriving DecidableEq, Repr

/-- One detector instance (R434): its state, whether its recovery condition still fails, from which clock its quiet
period counts, and its recoveries. -/
structure FltInst where
  state : FltState := .good
  /-- The fault's condition is present: the recovery condition of the owning chapter is not met. -/
  cond : Bool := false
  quietFrom : Nat := 0
  /-- Clocks of the recoveries, newest first (ESC_WINDOW, R447). -/
  recov : List Nat := []
  latched : Bool := false
  injected : Bool := false
  /-- The reaction taken for the fault in force; 255 for none. -/
  reaction : Nat := 255
  /-- Severity at which the fault in force stands. -/
  sev : Nat := 0
  /-- FLT_DET_CFG of its detector when the fault in force was raised (R448). -/
  cfg : Nat := 0
  deriving DecidableEq, Repr

/-- One entry of the fault log (Table 15.8). -/
structure LogEntry where
  seq : Nat
  stamp : Nat
  frac : Nat
  det : Nat
  inst : Nat
  kind : Nat
  sev : Nat
  coincident : Bool := false
  first : Bool := false
  injected : Bool := false
  latched : Bool := false
  withheld : Bool := false
  reaction : Nat := 255
  port : Nat := 0
  gen : Nat := 0
  cause : Nat := 0
  info : Nat := 0
  deriving DecidableEq, Repr

/-- A shadow (R444): the block whose reset started it, its end and the SEQ of its cause. -/
structure Shadow where
  block : Block
  untilClk : Nat
  cause : Nat
  deriving DecidableEq, Repr

/-- A test-mode injection in force (R452). -/
structure Injection where
  det : Nat
  inst : Nat
  pair : Nat
  untilClk : Nat
  deriving DecidableEq, Repr

/-- Detectors, log and first-fault record (15_faults_reserve.md). -/
structure FaultState where
  /-- Instances not in their reset state, by detector × 65,536 + instance. -/
  insts : Tab FltInst := []
  /-- Trips seen inside a shadow, for R445: detector × 65,536 + instance and INFO. -/
  inShadow : List (Nat × Nat) := []
  shadows : List Shadow := []
  /-- Blocks in reset, with the clock at which they return to service (Table 15.4). -/
  resets : List (Block × Nat) := []
  /-- The log, newest first, and the SEQ of the next entry (R450). -/
  log : List LogEntry := []
  nextSeq : Nat := 1
  first : Option LogEntry := none
  /-- The legacy latch of the always-on island (R449). -/
  latch : Bool := false
  /-- A detector among 0 to 9 and 320 to 351 has raised a Severe or Grave fault since power-good (R512). -/
  severe : Bool := false
  /-- Factory test mode (R451) and the injection in force (R452). -/
  test : Bool := false
  injectTgt : Nat := 0
  injection : Option Injection := none
  /-- Clock of the last raise of each once-per-second fault, by detector × 65,536 + instance. -/
  lastRaise : Tab Nat := []
  deriving DecidableEq, Repr

/-- A running or waiting substitution (R454). -/
structure Substitution where
  kind : Nat
  index : Nat
  startClk : Nat
  deriving DecidableEq, Repr

/-- The reserve ledger (R453 to R456). -/
structure ReserveState where
  /-- Running substitutions, at most one of a kind; and those waiting, oldest first. -/
  running : List Substitution := []
  waiting : List Substitution := []
  /-- Logical bank to physical bank (R22): bank b is at position b. -/
  bankMap : List Nat := List.range 16
  /-- The physical bank in reserve; none when it is in use. -/
  spareBank : Option Nat := some 16
  /-- Core in each active deckhand position, and the reserve cores left (R35). -/
  cores : List Nat := List.range 8
  spareCores : List Nat := [8, 9]
  retired : List Nat := []
  /-- The watchkeeper's reserve channel is free. -/
  watchFree : Bool := true
  /-- Corrected errors of each bank in the present hour, and the hour's start. -/
  hourEcc : Tab Nat := []
  hourStart : Nat := 0
  /-- Successive EYE_W measurements below the threshold, by lane. -/
  eyeLow : Tab Nat := []
  deriving DecidableEq, Repr

/-- A watchkeeper value (R473 to R477): its latest raw sample, filtered value and validity, the last five valid samples,
the IIR state Y, filtered values newest first, and its last sample instant, in Run when true. -/
structure WatchVal where
  raw : Nat := 0
  filtered : Nat := 0
  valid : Bool := false
  seen : List Nat := []
  y : Option Nat := none
  hist : List Nat := []
  last : Option (Bool × Nat) := none
  deriving DecidableEq, Repr

/-- A rule (R477): whether it is true, and the consecutive samples that meet the condition or the release. -/
structure WatchRule where
  on : Bool := false
  count : Nat := 0
  deriving DecidableEq, Repr

/-- A trim (R484 to R487): its code, the clock of its last adjustment, and a code waiting for a PWM period. -/
structure Trim where
  code : Nat := 128
  moved : Option Nat := none
  wait : Option Nat := none
  deriving DecidableEq, Repr

/-- Power domains, the watchkeeper, the keeper and self-calibration beside their registers (16_power_watch.md). -/
structure WatchState where
  /-- Keeper running, KWAKE high, always-on island running (R458), Shelf entered (R467), the keeper has just started. -/
  keeper : Bool := true
  kwake : Bool := true
  aon : Bool := true
  shelf : Bool := false
  started : Bool := false
  /-- PWR_EN high, power-good reached, RESET_N high, compute die out of reset (R459 to R462). -/
  pwrEn : Bool := true
  good : Bool := true
  resetN : Bool := true
  core : Bool := true
  /-- Clocks of the rise of PWR_EN and of the departure from reset, and of the next attempt; attempts failed; ALERT_N held
  low under R460. -/
  pwrAt : Nat := 0
  goodAt : Nat := 0
  retryAt : Option Nat := none
  attempts : Nat := 0
  alertPg : Bool := false
  /-- Main rails above 93 %, bits as PWR_STAT [8:2]. -/
  rails : Nat := 127
  /-- Straps sampled at the last release from reset (R539). -/
  bootsel : Nat := 0
  testMode : Bool := false
  /-- RTC and logbook lost (R481). -/
  lost : Bool := false
  /-- RTC in units of 1/(8 · 10¹⁵) tick at a clock, its correction in 0.1 ppm, the ledger second last taken, and the clock
  at which the drift window began (R480). -/
  rtcBase : Nat := 0
  rtcAt : Nat := 0
  rtcTrim : Int := 0
  syncSec : Option Nat := none
  driftAt : Nat := 0
  /-- Clock at which the brownout warning asserted (R468). -/
  warnAt : Option Nat := none
  vals : Tab WatchVal := []
  rules : Tab WatchRule := []
  /-- Last sample instant of each I²C slot (R476). -/
  i2cLast : Tab (Bool × Nat) := []
  adcBad : Nat := 0
  adcAt : Option Nat := none
  /-- Trims held because a reference is out of limits, the clock since which both are within, the last check (R485). -/
  refBad : Bool := false
  refOkSince : Option Nat := none
  refAt : Option Nat := none
  trims : Tab Trim := []
  /-- Codes of the loaded field copy, and the clock of the last copy written (R486, R487). -/
  loaded : List Nat := []
  savedAt : Option Nat := none
  deriving DecidableEq, Repr

/-- A copy of the trims record (Table 16.9) whose CHECK holds: SEQ, DEVICE_ID and CODES. -/
structure TrimCopy where
  seq : Nat
  dev : List Byte
  codes : List Nat
  deriving DecidableEq, Repr

/-- A boot header copy (Table 17.3) whose CHECK holds. -/
structure BootHdr where
  seq : Nat := 1
  fwActive : Nat := 0
  manActive : Nat := 0
  trial : Nat := 0
  tries : Nat := 0
  fwPrev : Nat := 0
  manPrev : Nat := 0
  slots : Nat := 0
  remap : List (Nat × Nat) := []
  deriving DecidableEq, Repr

/-- A record of a manifest or of settings (Table 17.6): TYPE, FLAGS and body. -/
structure MRecord where
  type : Nat
  flags : Nat
  body : List Byte
  deriving DecidableEq, Repr

/-- A valid half of a settings area (R505): SEQ, SCHEMA, IMAGE_TAG and records. -/
structure Settings where
  seq : Nat
  schema : Nat
  tag : Nat
  records : List MRecord
  deriving DecidableEq, Repr

/-- The OTP (Table 17.10, R486, R496): unique device ID, vendor key hash, manifest key hash once fused, venue key
generations written with whether each is void, thermometers, and factory trims when their check holds. -/
structure Otp where
  uid : List Byte := List.replicate 16 0#8
  vendor : List Byte := List.replicate 48 0#8
  man : Option (List Byte) := none
  venue : List (List Byte × Bool) := []
  fwSec : Nat := 0
  manSec : Nat := 0
  trims : Option (List Nat) := some (List.replicate 130 128)
  /-- Spare rows left (RSV_OTP_SPARE). -/
  spare : Nat := 0
  deriving DecidableEq, Repr

/-- A TFTP transfer into the device (R508, R509): its file and slot, peer and block size, the next block, bytes not yet a
whole NVM block, content bytes so far, the clock of the last reply and retransmissions. -/
structure Tftp where
  file : TftpFile
  slot : Nat
  peer : Nat
  blksize : Nat
  /-- The request was answered with its option. -/
  oack : Bool := false
  next : Nat := 1
  raw : List Byte := []
  content : List Byte := []
  sentAt : Nat := 0
  tries : Nat := 0
  /-- A DATA packet that waits for a brownout warning to end (R469). -/
  held : Option (Nat × List Byte) := none
  deriving DecidableEq, Repr

/-- The attached NVM, OTP, and the boot and update machinery beside its registers (17_boot_update_security.md). -/
structure NvmState where
  otp : Otp := {}
  hdr0 : Option BootHdr := none
  hdr1 : Option BootHdr := none
  /-- Content bytes of firmware A, firmware B, manifest A and manifest B (0 to 3). -/
  slots : Tab (List Byte) := []
  /-- Settings halves: 2 × slot + half. -/
  settings : Tab Settings := []
  trimA : Option TrimCopy := none
  trimB : Option TrimCopy := none
  /-- The log area, newest first, and the SEQ of the entry copied last (R518). -/
  logArea : List LogEntry := []
  copied : Nat := 0
  /-- Entries in the open block of the log area. -/
  logFill : Nat := 0
  /-- The open block of the log area, a ring of 1,024 (R518). -/
  logBlock : Nat := 0
  /-- Blocks of 4 KiB of the device attached (R490). -/
  blocks : Nat := 16384
  tftp : Option Tftp := none
  /-- Saves that wait for a brownout warning to end (R469, R507). -/
  saves : List Door := []
  /-- Words of SVC_CMD whose NVM writes wait for it in the same way. -/
  waiting : List Nat := []
  jtag : JtagInstr := .bypass
  /-- The boot sequence has run since the last reset; the running firmware's image tag, SCHEMA and SCHEMA_MIN; TIME_WAIT
  in clocks; and the clock of the first frame (R498, R501). -/
  booted : Bool := false
  tag : Nat := 0
  schema : Nat := 0
  schemaMin : Nat := 0
  timeWait : Nat := 0
  firstAt : Option Nat := none
  /-- The sACN source name of the manifest (Table 17.7). -/
  name : List Byte := []
  deriving DecidableEq, Repr

/-- The machine: every piece of state the spec gives the block, and the queue of waiting commands. -/
structure State where
  /-- Commands waiting, first in, first out. -/
  pending : List Instr := []
  /-- Core clocks (1.25 ns) since power-good: the model's own clock, from which local durations are measured. -/
  clk : Nat := 0
  /-- Registers that differ from their reset value, by address, and counter values (Table 18.9). -/
  regs : Tab Word := []
  /-- High words latched by a low-word read, and low words written and waiting for their high word, by requester and
  address (R9, R526). -/
  pairLatch : List ((Requester × Nat) × Word) := []
  pairLow : List ((Requester × Nat) × Word) := []
  /-- Hold bytes that are not 0, by address (R16, R21). -/
  hold : List Host.Cell := []
  /-- Lamp die fitted: JXR6424-FBA when true (R1, Table 00.2). -/
  lampDie : Bool := true
  /-- What the block has sent out, newest first (the model's own record; log entry 9). -/
  out : List Output := []
  /-- The request being performed; none between requests (R39). -/
  asker : Option Asker := none
  /-- Free values drawn so far (the model's own counter; log entry 8). -/
  fresh : Nat := 0
  time : TimeState := {}
  pipe : PipeState := {}
  flt : FaultState := {}
  rsv : ReserveState := {}
  /-- Happenings not yet queued to the subscribed sessions, oldest first (R409). -/
  events : List Event := []
  lanes : Tab Lane := []
  slk : SlkState := {}
  phy : PhyState := {}
  twin : TwinState := {}
  cal : CalState := {}
  scan : ScanState := {}
  /-- Tiles on the chains, by number (the tile side of Profile T). -/
  tiles : Tab Tile := []
  watch : WatchState := {}
  nvm : NvmState := {}
  berths : BerthState := {}
  macs : Tab MacState := []
  cues : CueState := {}
  ferry : FerryState := {}
  pier : PierState := {}
  fixture : FixState := {}
  lamp : LampState := {}
  /-- PIRQ_N driven low (R420). -/
  pirq : Bool := false
  deriving DecidableEq, Repr

/-- The machine right after power-good (log entry 6): every register at the reset value of Table 18.9, Hold with
nothing listed, the ledger at 0 and an empty queue. The keeper has just started, so its logbook holds BOOT_COUNT 1,
reset cause 1 and wake cause 4 with their CHECK, LOST is set, and SYS_BOOT_COUNT and SYS_RESET_CAUSE follow (R458, R481,
Table 18.3); SVC_STAT and SVC_KEY_STAT follow an OTP without keys (Tables 17.12, 17.13). -/
def State.reset : State :=
  { regs := [(0x20, 1#32), (0x24, 0x401#32), (0x160000, 3#32), (0x160100, 1#32), (0x160104, 0x401#32),
             (0x1601FC, 0x942dc70d#32), (0x170000, 0x200#32), (0x170034, 0x50#32)] }

end Sys2Proof.Machine
end

