-- ==== Sys2Proof/Machine/Ops.lean ====
section
/-!
DEFINITION. The named operations over registers, Hold memory, time, outputs and events that every family uses.
-/
namespace Sys2Proof.Machine

/-! ### Registers -/

/-- The value of a register at reset (Table 18.9), with the windows and arrays whose words differ: CAL_BIN_WIN (R149),
PROBE_EMIT_WIN (R317), COMP_COEF (R110), WATCH_VAL_CFG (Table 16.12) and FLT_DET_CFG (Table 15.11). -/
def regReset (a : Nat) : Nat :=
  if 0x74000 ≤ a ∧ a < 0x74C00 then coefResetWord ((a - 0x74000) / 4)
  else if 0x81000 ≤ a ∧ a < 0x81020 then
    [0x10190, 0x2000, 0, 0x2000, 0, 0xFFFF2000, 0xFFFFFFFF, 0].getD ((a - 0x81000) / 4) 0
  else if 0xA2000 ≤ a ∧ a < 0xA3000 then
    [0x0203, 0, 0x2000, 0, 0x20000000, 0, 0, 0x2000, 0, 0, 0, 0, 0, 0, 0, 0].getD ((a - 0xA2000) / 4 % 16) 0
  else if 0x150200 ≤ a ∧ a < 0x15024C then 0x100
  else if 0x121000 ≤ a ∧ a < 0x122000 ∧ a % 8 = 0 then detCfgReset ((a - 0x121000) / 8)
  else match regDesc? a with
    | some d => d.reset
    | none => 0

/-- The word a register holds. -/
def State.rd (s : State) (a : Nat) : Word := tabGetD s.regs a (BitVec.ofNat 32 (regReset a))

/-- The number a register holds. -/
def State.rn (s : State) (a : Nat) : Nat := (s.rd a).toNat

/-- A register set; an entry equal to the reset value is dropped, so that equal register files are equal data. -/
def State.wr (s : State) (a : Nat) (v : Word) : State :=
  { s with regs := if v = BitVec.ofNat 32 (regReset a) then tabErase s.regs a else tabSet s.regs a v }

/-- A register set to a number. -/
def State.wn (s : State) (a n : Nat) : State := s.wr a (BitVec.ofNat 32 n)

/-- Bits [hi:lo] of a register. -/
def State.fld (s : State) (a hi lo : Nat) : Nat := bits (s.rn a) hi lo

/-- A register with bits [hi:lo] set. -/
def State.setFld (s : State) (a hi lo v : Nat) : State := s.wn a (putBits (s.rn a) hi lo v)

/-- The value of a 64-bit pair, its low word at a. -/
def State.pair (s : State) (a : Nat) : Nat := s.rn a + 2 ^ 32 * s.rn (a + 4)

/-- A 64-bit pair set. -/
def State.setPair (s : State) (a n : Nat) : State := (s.wn a n).wn (a + 4) (n / 2 ^ 32)

/-- A counter raised by n; it stays at 2⁶⁴ − 1 (R10). -/
def State.bumpBy (s : State) (a n : Nat) : State := s.setPair a (min (s.pair a + n) (2 ^ 64 - 1))

/-- A counter raised by 1. -/
def State.bump (s : State) (a : Nat) : State := s.bumpBy a 1

/-- A list of registers, 4 bytes apart from a, set to words. -/
def State.wrWords (s : State) (a : Nat) : List Nat → State
  | [] => s
  | w :: ws => State.wrWords (s.wn a w) (a + 4) ws

/-- n words from a. -/
def State.rdWords (s : State) (a n : Nat) : List Nat := (List.range n).map fun i => s.rn (a + 4 * i)

/-! ### Words that wait for the other of their pair (R9, R526) -/

def takeKey (l : List ((Requester × Nat) × Word)) (r : Requester) (a : Nat) : Option Word :=
  (l.find? fun e => e.1 == (r, a)).map (·.2)
def dropKey (l : List ((Requester × Nat) × Word)) (r : Requester) (a : Nat) : List ((Requester × Nat) × Word) :=
  l.filter fun e => e.1 != (r, a)

/-- A low word written by a requester waits for its high word. -/
def State.pairPut (s : State) (r : Requester) (a v : Nat) : State :=
  { s with pairLow := ((r, a), BitVec.ofNat 32 v) :: dropKey s.pairLow r a }

/-- The low word a requester has waiting takes its place, as its high word is written. -/
def State.pairTake (s : State) (r : Requester) (a : Nat) : State :=
  match takeKey s.pairLow r a with
  | some w => { s with pairLow := dropKey s.pairLow r a }.wr a w
  | none => s

/-! ### Outputs, draws and events -/

/-- An output sent. -/
def State.emit (s : State) (o : Output) : State := { s with out := o :: s.out }

/-- A message sent. -/
def State.send (s : State) (kind : String) (port : Nat) (fields : List Nat) : State := s.emit (.message kind port fields)

/-- A value the spec leaves open, and the state with its draw counted (log entry 8). -/
def State.draw (s : State) : Nat × State := (Config.draw s.fresh, { s with fresh := s.fresh + 1 })

/-! ### Time -/

/-- Units of the ledger accumulator in a nanosecond. -/
def ledNs : Nat := 2 ^ 28 * 10 ^ 9

/-- Ledger time in whole nanoseconds. -/
def State.ns (s : State) : Nat := s.time.led / ledNs

/-- FRACTION of the ledger, units of 2⁻¹⁶ ns (Table 00.5). -/
def State.frac (s : State) : Nat := s.time.led / (2 ^ 12 * 10 ^ 9) % 65536

/-- The ledger when the request being performed arrived, which is now but for one that has waited (R39). -/
def State.arrived (s : State) : Nat :=
  match s.asker with
  | some a => a.led
  | none => s.time.led

/-- That arrival in whole ns, in units of 2⁻¹⁶ ns, and its FRACTION. -/
def State.stampNs (s : State) : Nat := s.arrived / ledNs
def State.stamp16 (s : State) : Nat := s.arrived / (2 ^ 12 * 10 ^ 9)
def State.stampFrac (s : State) : Nat := s.stamp16 % 65536

/-- What a requester asks for is done under its name: a request that is part of another keeps the other's (R39). -/
def State.asking (s : State) (req : Requester) (f : State → State) : State :=
  { f { s with asker := s.asker <|> some ⟨req, s.time.led⟩ } with asker := s.asker }

/-- A request that has waited is performed under its own name and arrival stamp. -/
def State.askingAt (s : State) (req : Requester) (led : Nat) (f : State → State) : State :=
  { f { s with asker := some ⟨req, led⟩ } with asker := s.asker }

/-- Place of a request among those of one clock: the Pier's first (R39). -/
def rankOf : Option Asker → Nat
  | some ⟨.pier, _⟩ => 0
  | _ => 1

/-- Ledger format of a time in ns (Table 00.5): SECONDS [63:30], NANOSECONDS [29:0]. -/
def toLedger (ns : Nat) : Nat := ns / 10 ^ 9 * 2 ^ 30 + ns % 10 ^ 9

/-- A 64-bit ledger value's NANOSECONDS field is below 1,000,000,000 (R13). -/
def ledgerOk (l : Nat) : Bool := decide (l % 2 ^ 30 < 10 ^ 9)

/-- The time in ns of a 64-bit ledger value. -/
def ofLedger (l : Nat) : Nat := l / 2 ^ 30 * 10 ^ 9 + l % 2 ^ 30

/-- The ledger now, in its 64-bit format. -/
def State.now64 (s : State) : Nat := toLedger s.ns

/-- rate_num and rate_den of a frame-rate code (Table 02.1). -/
def rateNum (c : Nat) : Nat :=
  [24000, 24, 25, 30000, 30, 48000, 48, 50, 60000, 60, 100, 120000, 120, 200, 240000, 240].getD c 24000
def rateDen (c : Nat) : Nat := if [0, 3, 5, 8, 11, 14].contains c then 1001 else 1

/-- The frame-rate code in force (TIME_RATE). -/
def State.rate (s : State) : Nat := s.fld Reg.TIME_RATE 3 0

/-- The tally of a ledger time (R14). -/
def tallyOf (c ns : Nat) : Nat := ns * rateNum c / (rateDen c * 10 ^ 9)

/-- The frame boundary of tally n (R42). -/
def tpOf (c n : Nat) : Nat := ceilDiv (n * rateDen c * 10 ^ 9) (rateNum c)

/-- A fraction num/den of the frame period in whole ns (R544). -/
def fracT (c num den : Nat) : Nat := ceilDiv (num * rateDen c * 10 ^ 9) (den * rateNum c)

def State.tally (s : State) : Nat := tallyOf s.rate s.ns
def State.tp (s : State) (n : Nat) : Nat := tpOf s.rate n

/-- Core clocks in a time given in µs or ms. -/
def us (n : Nat) : Nat := 800 * n
def ms (n : Nat) : Nat := 800000 * n
def sec (n : Nat) : Nat := 800000000 * n

/-- Whether a duration in clocks has passed since a clock. -/
def State.elapsed (s : State) (since dur : Nat) : Bool := decide (since + dur ≤ s.clk)

/-- dt core clocks pass: the ledger advances by its addend in each (R40). One clock is 1.25 ns, 81,920 × 2¹² × 10⁹ units,
and a rate adjustment of one unit of 2⁻¹² ppb adds 81,920. -/
def State.advance (s : State) (dt : Nat) : State :=
  { s with clk := s.clk + dt,
           time := { s.time with led := s.time.led + dt * (81920 * ((2 ^ 12 * 10 ^ 9 : Int) + s.time.adj)).toNat } }

/-- PIRQ_N is driven low while PIER_IRQ_STAT AND PIER_IRQ_MASK is not zero (R420). -/
def State.settle (s : State) : State := { s with pirq := (s.rd Reg.PIER_IRQ_STAT &&& s.rd Reg.PIER_IRQ_MASK) != 0 }

/-- The state that a command leaves: dt core clocks pass, the command acts, the pins settle. No command touches the queue,
the die fitted at assembly (R1) or the count of clocks, or leaves its request being performed. -/
def acted (dt : Nat) (s : State) (f : State → State) : State :=
  { f (s.advance dt) with pending := s.pending, lampDie := s.lampDie, clk := s.clk + dt, asker := s.asker }.settle

/-- The shape of every meaning but those of the power domains and of the tiles: the command acts while the compute die is
out of reset (R457 to R462). -/
def act (dt : Nat) (s : State) (f : State → State) : Host.Outcome State Fault Refusal :=
  .next (acted dt s (if s.watch.core then f else id))

/-- The shape of a meaning that a requester asks for (R39). -/
def actBy (dt : Nat) (req : Requester) (s : State) (f : State → State) : Host.Outcome State Fault Refusal :=
  act dt s fun s => s.asking req f

/-- The shape of a meaning that acts in every power state: commands of the keeper, the always-on island, the power
sequence and the tiles. -/
def actAlways (dt : Nat) (s : State) (f : State → State) : Host.Outcome State Fault Refusal := .next (acted dt s f)

/-! ### Keeper RTC (R480) -/

/-- Units of the keeper's count in one tick of 1/32,768 s: a core clock is 32,768 · 10⁷ units at no correction. -/
def rtcTick : Nat := 8 * 10 ^ 15

/-- The keeper's count in those units. -/
def State.rtcUnits (s : State) : Nat :=
  s.watch.rtcBase + (s.clk - s.watch.rtcAt) * (32768 * (10 ^ 7 + s.watch.rtcTrim)).toNat

/-- RTC time in ns, NANOSECONDS = floor(ticks × 10⁹ ÷ 32,768). -/
def State.rtcNs (s : State) : Nat :=
  let t := s.rtcUnits / rtcTick
  t / 32768 * 10 ^ 9 + t % 32768 * 10 ^ 9 / 32768

/-- The RTC goes on from a count with a correction in 0.1 ppm. -/
def State.rtcSet (s : State) (units : Nat) (trim : Int) : State :=
  ({ s with watch := { s.watch with rtcBase := units, rtcAt := s.clk, rtcTrim := trim } }).wn Reg.KEEP_RTC_TRIM (unsigned 16 trim)

/-- A happening reported as an event with its ledger stamp, that of the request which brought it about (R39, R41, R409). -/
def State.notify (s : State) (code sev source : Nat) (data : List Nat) : State :=
  { s with events := s.events ++ [⟨code, sev, toLedger s.stampNs, s.stampFrac, source, data⟩] }

/-! ### Access errors -/

/-- PORT of Table 15.8 for a requester: 0 QMP, 1 Pier, 2 cue, 3 waybill, 4 Ferry. -/
def portOf : Requester → Nat
  | .qmp _ => 0
  | .pier => 1
  | .cue => 2
  | .waybill => 3
  | .relay _ => 4
  | .boot => 0

/-- An access error: counted, with its address and information latched (R6, R528, Table 18.5). -/
def State.accErr (s : State) (req : Requester) (a : Nat) (isWrite key : Bool) : State :=
  ((s.bump Reg.SYS_ACC_ERR).wn Reg.SYS_ACC_ERR_ADDR a).wn Reg.SYS_ACC_ERR_INFO
    (portOf req + isWrite.toNat * 8 + key.toNat * 16)

/-! ### Hold memory -/

/-- A Hold byte; one that nothing has written reads 0 (DESIGN CHOICE, log entry 4). -/
def State.holdByte (s : State) (a : Nat) : Byte := tabGetD s.hold a 0#8

/-- A Hold byte written; a byte equal to 0 is not listed. -/
def holdSet (h : List Host.Cell) (a : Nat) (b : Byte) : List Host.Cell :=
  if b = 0#8 then tabErase h a else tabSet h a b

/-- A run of Hold bytes written from a. -/
def holdRun (h : List Host.Cell) (a : Nat) : List Byte → List Host.Cell
  | [] => h
  | b :: bs => holdRun (holdSet h a b) (a + 1) bs

/-- A Hold byte written. -/
def State.writeHold (s : State) (a : Nat) (bs : List Byte) : State := { s with hold := holdRun s.hold a bs }

/-- n Hold bytes from a. -/
def State.readHold (s : State) (a n : Nat) : List Byte := (List.range n).map fun i => s.holdByte (a + i)

/-- The little-endian number of n Hold bytes from a (R11). -/
def State.holdNat (s : State) (a n : Nat) : Nat := leNat (s.readHold a n)

/-- Hold memory in its canonical form: addresses strictly rising, and no byte equal to 0. -/
def Memory.wf (h : List Host.Cell) : Bool := tabSorted h && h.all fun c => c.2 != 0#8

/-- The register file in its canonical form: addresses strictly rising, no entry equal to its reset value. -/
def regsWf (r : Tab Word) : Bool := tabSorted r && r.all fun e => e.2 != BitVec.ofNat 32 (regReset e.1)

/-! ### Hold layout (Tables 01.4, 18.2) -/

def holdBase : Nat := 0x10000000
def holdEnd : Nat := 0x28000000
def MiB : Nat := 0x100000

/-- Output mode and Chase (COMP_MODE). -/
def State.mode (s : State) : Nat := s.fld Reg.COMP_MODE 1 0
def State.chase (s : State) : Bool := bit (s.rn Reg.COMP_MODE) 2

/-- Bytes of the calibration store, which are those of the frame store without Chase (Table 01.4). -/
def calBytes (mode : Nat) : Nat := [96, 48, 24].getD mode 96 * MiB

/-- First address of the frame store. -/
def State.frameBase (s : State) : Nat := holdBase + calBytes s.mode

/-- Start of frame-store buffer b (text after Table 18.2). -/
def State.frameBuf (s : State) (b : Nat) : Nat := s.frameBase + b * (calBytes s.mode / 2)

/-- First address of staging. -/
def State.stageBase (s : State) : Nat := s.frameBase + (if s.chase then calBytes s.mode / 2 else calBytes s.mode)

/-- Staging size in 64 KiB units (Table 01.4). -/
def State.stageUnits (s : State) : Nat := (holdEnd - s.stageBase) / 65536

/-- The canvas (COMP_CANVAS_W, COMP_CANVAS_H). -/
def State.canvasW (s : State) : Nat := s.rn Reg.COMP_CANVAS_W
def State.canvasH (s : State) : Nat := s.rn Reg.COMP_CANVAS_H

end Sys2Proof.Machine
end

