-- ==== Sys2Proof/Machine/Packets.lean ====
section
/-!
DEFINITION. The wire formats of Sardylink as byte strings: 66-bit blocks and their scrambler (R221, R222), packet framing
(R228, R229) and every packet of Tables 08.5 to 08.15.
-/
namespace Sys2Proof.Machine

/-! ### Blocks (R221, R222, Table 08.1) -/

/-- Bytes of a given number, zero. -/
def zeros (n : Nat) : List Byte := List.replicate n 0#8

/-- A control block of a type, with bytes 1 onward as given and zero after them. -/
def controlBlock (type : Nat) (bs : List Byte) : SlkBlock :=
  ⟨2, BitVec.ofNat 8 type :: (bs ++ zeros (7 - bs.length))⟩

/-- The IDLE block. -/
def idleBlock : SlkBlock := controlBlock 0x1E []

/-- The type of a control block. -/
def blockType (b : SlkBlock) : Nat := (b.bytes.headD 0#8).toNat

/-- The byte from which Table 08.1 marks a control block zero; none for a type that is not in it. -/
def zeroFrom (type : Nat) : Option Nat :=
  match type with
  | 0x1E | 0x78 | 0x87 => some 1
  | 0x99 => some 2
  | 0x33 => some 4
  | 0x66 => some 5
  | 0x2D | 0x4B | 0x55 => some 8
  | _ => none

/-- An invalid block (R222): a sync header that is neither 0b01 nor 0b10, an unknown type, or a byte marked zero that is
not. -/
def blockInvalid (b : SlkBlock) : Bool :=
  match b.sync.val with
  | 1 => false
  | 2 => match zeroFrom (blockType b) with
    | some i => (b.bytes.drop i).any (· != 0#8)
    | none => true
  | _ => true

/-- 32 payload bits through the scrambler x⁵⁸ + x³⁹ + 1: `h` holds the last 58 bits sent, the oldest as bit 0. -/
def scramble32 (h x : Nat) : Nat × Nat :=
  let y := (x ^^^ (h >>> 19) ^^^ h) % 2 ^ 32
  (y, h / 2 ^ 32 + y * 2 ^ 26)

/-- 32 line bits through the descrambler. -/
def descramble32 (h y : Nat) : Nat × Nat := ((y ^^^ (h >>> 19) ^^^ h) % 2 ^ 32, h / 2 ^ 32 + y * 2 ^ 26)

/-- The 64 payload bits of a block scrambled, byte 0 first and each byte from its bit 0 (IEEE 802.3 Clause 49), and the
register after them. -/
def scrambleBlock (h : Nat) (b : SlkBlock) : (Nat × Nat) × Nat :=
  let x := leNat b.bytes
  let lo := scramble32 h (x % 2 ^ 32)
  let hi := scramble32 lo.2 (x / 2 ^ 32)
  ((b.sync.val, lo.1 + 2 ^ 32 * hi.1), hi.2)

/-- Blocks scrambled one after another. -/
def scrambleBlocks (h : Nat) : List SlkBlock → List (Nat × Nat) × Nat
  | [] => ([], h)
  | b :: bs =>
    let x := scrambleBlock h b
    let r := scrambleBlocks x.2 bs
    (x.1 :: r.1, r.2)

/-- The blocks dealt to one of n members when the first goes to member d (R254). -/
def dealt (n d m : Nat) : List SlkBlock → List SlkBlock
  | [] => []
  | b :: bs => if d = m then b :: dealt n ((d + 1) % n) m bs else dealt n ((d + 1) % n) m bs

/-! ### Pseudo-random sequences (R215) -/

/-- The stages of a sequence whose sum is its next bit: PRBS7, PRBS15, PRBS31. -/
def prbsTaps (kind : Nat) : Nat × Nat := if kind = 1 then (7, 6) else if kind = 2 then (15, 14) else (31, 28)

/-- Whether the line carries a sequence turned over: ITU-T O.150 sends PRBS15 and PRBS31 inverted (PRESUMED, log entry 205),
and the configuration may invert once more. -/
def prbsTurned (kind : Nat) (inverted : Bool) : Bool := xor (decide (2 ≤ kind)) inverted

/-- The next bit on the line after the line bits held in a register, newest as bit 0. -/
def prbsNext (kind : Nat) (inverted : Bool) (reg : Nat) : Bool :=
  let t := prbsTaps kind
  xor (xor (bit reg (t.1 - 1)) (bit reg (t.2 - 1))) (prbsTurned kind inverted)

/-- n bits of a generator whose shift register is given, first to last, as they stand on the line. -/
def prbsRun (kind : Nat) (inverted : Bool) : Nat → Nat → List Nat
  | 0, _ => []
  | n + 1, reg =>
    let t := prbsTaps kind
    let b := xor (bit reg (t.1 - 1)) (bit reg (t.2 - 1))
    (xor b (prbsTurned kind inverted)).toNat :: prbsRun kind inverted n ((2 * reg + b.toNat) % 2 ^ t.1)

/-! ### Packets (R228, R229, Table 08.3) -/

/-- A field of a packet, bytes i to i + n − 1, big-endian (R229). -/
def pkt (p : List Byte) (i n : Nat) : Nat := beNat ((p.drop i).take n)

/-- A packet: TYPE, CLASS, TOWARD, BLOCKS, bytes 4 to 6 of its header, its fields, zero bytes and its CRC. -/
def slkPacket (type cls : Nat) (toward : Bool) (tail fields : List Byte) : List Byte :=
  let k := ceilDiv (fields.length + 4) 8
  let bs := beBytes 1 type ++ beBytes 1 (32 * cls + 16 * toward.toNat) ++ beBytes 2 k ++ tail ++ fields
    ++ zeros (8 * k - 4 - fields.length)
  bs ++ beBytes 4 (crc32c bs).toNat

/-- Bytes 4 to 6 of a Profile T header: POS and EPOCH. -/
def tailT (pos epoch : Nat) : List Byte := beBytes 1 pos ++ beBytes 2 epoch

/-- Bytes 4 to 6 of a Profile C header: HOPS. -/
def tailC (hops : Nat) : List Byte := beBytes 2 hops ++ [0#8]

/-- The check word at the end of a packet. -/
def packetCheck (p : List Byte) : Word := BitVec.ofNat 32 (pkt p (p.length - 4) 4)

/-- A packet whose CRC holds (R229). -/
def packetGood (p : List Byte) : Bool := decide (15 ≤ p.length) && crc32c (p.take (p.length - 4)) == packetCheck p

/-- The blocks of a packet: a START block, and the bytes from 7 on in data blocks (R228). -/
def dataBlocks : Nat → List Byte → List SlkBlock
  | 0, _ => []
  | n + 1, bs => if bs.isEmpty then [] else ⟨1, bs.take 8⟩ :: dataBlocks n (bs.drop 8)
def packetBlocks (p : List Byte) : List SlkBlock :=
  controlBlock 0x55 (p.take 7) :: dataBlocks p.length (p.drop 7)

/-- A packet with its HOPS raised by 1 and its CRC recomputed, turned over when the incoming CRC failed (R253). -/
def rehop (p : List Byte) : List Byte :=
  let bs := p.take 4 ++ beBytes 2 (pkt p 4 2 + 1) ++ (p.drop 6).take (p.length - 10)
  let c := (crc32c bs).toNat
  bs ++ beBytes 4 (if packetGood p then c else 2 ^ 32 - 1 - c)

/-- A ledger value and its FRACTION from a stamp in units of 2⁻¹⁶ ns. -/
def ledgerBytes (t : Int) : List Byte :=
  let ns := (t / 65536).toNat
  beBytes 8 (ns / 10 ^ 9 * 2 ^ 30 + ns % 10 ^ 9)
def fracBytes (t : Int) : List Byte := beBytes 2 (t % 65536).toNat

/-! ### Profile T packets -/

/-- PIXEL (Table 08.5). -/
def pixelPacket (p : PixelPacket) : List Byte :=
  slkPacket 0x01 5 p.toward (tailT p.pos p.epoch)
    (beBytes 4 p.tally ++ beBytes 2 p.line ++ beBytes 1 p.segment ++ beBytes 1 p.pixels.length
      ++ p.pixels.flatMap fun x => beBytes 2 x.1 ++ beBytes 2 x.2.1 ++ beBytes 2 x.2.2)

/-- TOKEN (Table 08.6). -/
def tokenPacket (t : Token) : List Byte :=
  slkPacket 0x02 7 t.toward (tailT 0xFF 0)
    (beBytes 4 t.tally ++ beBytes 8 t.tp ++ beBytes 4 t.period ++ beBytes 3 t.emitOffset ++ beBytes 1 t.subframes
      ++ beBytes 2 t.lossHold ++ beBytes 1 (t.abort.toNat + 2 * t.copy.toNat + 4 * t.role) ++ beBytes 8 t.hold)

/-- BEACON (R233). -/
def beaconPacket (toward : Bool) (role sender : Nat) : List Byte :=
  slkPacket 0x03 7 toward (tailT 0xFF 0) (beBytes 1 role ++ beBytes 4 sender)

/-- STATUS (Table 08.7). -/
def statusPacket (toward : Bool) (pos epoch : Nat) (x : TileStatus) : List Byte :=
  slkPacket 0x04 6 toward (tailT pos epoch)
    (beBytes 4 x.shown ++ beBytes 4 x.dispCrc ++ beBytes 2 (unsigned 16 x.temp) ++ beBytes 8 x.tempAt
      ++ beBytes 4 x.incTally
      ++ beBytes 1 (x.hearsA.toNat + 2 * x.hearsB.toNat + 4 * x.roleA + 16 * x.roleB + 64 * x.timeLocked.toNat
        + 128 * x.needDiscovery.toNat)
      ++ beBytes 1 (x.nothing.toNat + 2 * x.lossBlack.toNat + 4 * x.incomplete.toNat + 8 * x.held.toNat
        + 16 * x.conflict.toNat + 32 * x.tempValid.toNat)
      ++ beBytes 2 x.seq ++ beBytes 4 (unsigned 32 x.timeErr) ++ beBytes 2 x.snapId
      ++ beBytes 1 (x.rateA + 8 * x.rateB))

/-- DISCOVER (Table 08.8). -/
def discoverPacket (toward : Bool) (hopsLeft sender : Nat) : List Byte :=
  slkPacket 0x05 6 toward (tailT 0xFF 0) (beBytes 1 hopsLeft ++ beBytes 4 sender)

/-- ASSIGN (Table 08.8). -/
def assignPacket (toward : Bool) (epoch hopsLeft pos chainLen ident sender : Nat) : List Byte :=
  slkPacket 0x07 6 toward (tailT 0xFF epoch)
    (beBytes 1 hopsLeft ++ beBytes 1 pos ++ beBytes 1 chainLen ++ beBytes 8 ident ++ beBytes 4 sender)

/-- DESCRIPTOR (Table 08.9). -/
def descriptorPacket (toward : Bool) (epoch : Nat) (d : Descriptor) : List Byte :=
  slkPacket 0x06 6 toward (tailT 0xFF epoch)
    (beBytes 8 d.ident ++ beBytes 1 d.maxRate ++ beBytes 2 d.width ++ beBytes 2 d.height ++ beBytes 2 d.maker
      ++ beBytes 2 d.model ++ beBytes 4 d.fw ++ beBytes 4 d.calSize ++ beBytes 1 d.ranges.length
      ++ d.ranges.flatMap fun r => beBytes 1 r.1 ++ beBytes 5 r.2.1 ++ beBytes 4 r.2.2)

/-- CAL_PULL, CAL_DATA and SNAP (Table 08.13). -/
def calPullPacket (toward : Bool) (pos epoch offset length : Nat) : List Byte :=
  slkPacket 0x08 6 toward (tailT pos epoch) (beBytes 4 offset ++ beBytes 4 length)
def calDataPacket (toward : Bool) (pos epoch offset : Nat) (data : List Byte) : List Byte :=
  slkPacket 0x09 1 toward (tailT pos epoch) (beBytes 4 offset ++ beBytes 2 data.length ++ data)
def snapPacket (toward : Bool) (id at64 : Nat) : List Byte :=
  slkPacket 0x0A 6 toward (tailT 0xFF 0) (beBytes 2 id ++ beBytes 8 at64)

/-! ### Packets of both profiles -/

/-- TIME (Table 08.14): on a tile lane the header has POS 0xFF, on a group HOPS 0. -/
def timePacket (tile toward : Bool) (p : TimePacket) : List Byte :=
  slkPacket 0x10 7 toward (if tile then tailT 0xFF 0 else tailC 0)
    (ledgerBytes p.txStamp ++ fracBytes p.txStamp ++ beBytes 2 p.seq ++ beBytes 2 p.echoSeq ++ ledgerBytes p.echoRx
      ++ fracBytes p.echoRx
      ++ beBytes 1 (p.echoValid.toNat + 2 * p.locked.toNat + 4 * p.root.toNat + 8 * p.stepValid.toNat)
      ++ beBytes 4 p.sender ++ beBytes 4 p.rootNode ++ beBytes 2 p.rootHops ++ beBytes 4 p.stepTally
      ++ beBytes 8 (unsigned 64 p.stepNs))

/-- The fields of a REG packet (Table 08.11). -/
structure RegFields where
  op : Nat
  flags : Nat := 0
  tag : Nat
  requester : Nat
  target : Nat := 0
  space : Nat := 0
  offset : Nat := 0
  count : Nat := 0
  status : Nat := 0
  holder : Nat := 0
  data : List Nat := []
  deriving DecidableEq, Repr

/-- REG (Table 08.11). -/
def regPacket (toward : Bool) (tail : List Byte) (r : RegFields) : List Byte :=
  slkPacket 0x11 6 toward tail
    (beBytes 1 r.op ++ beBytes 1 r.flags ++ beBytes 2 r.tag ++ beBytes 4 r.requester ++ beBytes 4 r.target
      ++ beBytes 1 r.space ++ beBytes 5 r.offset ++ beBytes 2 r.count ++ beBytes 1 r.status ++ beBytes 4 r.holder
      ++ r.data.flatMap (beBytes 4))

/-! ### Profile C packets (Table 08.15) -/

/-- The pixels of a STREAM packet: P10 one 32-bit word, P16 three 16-bit words, P16A four. -/
def streamPixels (fmt : Nat) (px : List (List Nat)) : List Byte :=
  px.flatMap fun p => if fmt = 0 then beBytes 4 (p.headD 0) else (p.take (if fmt = 1 then 3 else 4)).flatMap (beBytes 2)

/-- STREAM. -/
def streamPacket (hops : Nat) (p : StreamPacket) : List Byte :=
  slkPacket 0x20 p.cls false (tailC hops)
    (beBytes 4 p.origin ++ beBytes 1 p.stream ++ beBytes 1 p.fmt ++ beBytes 2 p.width ++ beBytes 2 p.height
      ++ beBytes 8 p.media ++ beBytes 2 p.line ++ beBytes 2 p.x ++ beBytes 2 p.pixels.length
      ++ streamPixels p.fmt p.pixels)

/-- MGMT. -/
def mgmtPacket (hops origin dest : Nat) (m : List Byte) : List Byte :=
  slkPacket 0x21 6 false (tailC hops) (beBytes 4 origin ++ beBytes 4 dest ++ beBytes 2 m.length ++ m)

/-- HEARTBEAT. -/
def heartbeatPacket (h : Heartbeat) : List Byte :=
  slkPacket 0x22 7 false (tailC 0)
    (beBytes 4 h.sender ++ beBytes 1 h.role ++ beBytes 1 h.eligible.toNat ++ beBytes 4 h.leadEpoch ++ beBytes 4 h.tally
      ++ beBytes 2 h.seq ++ beBytes 8 h.sentAt)

/-! ### What a receiver checks (R230) -/

/-- TYPE is in Table 08.4 for the profile. -/
def typeOk (tile : Bool) (t : Nat) : Bool :=
  if tile then decide (1 ≤ t ∧ t ≤ 10) || t == 0x10 || t == 0x11
  else t == 0x10 || t == 0x11 || decide (0x20 ≤ t ∧ t ≤ 0x22)

/-- A 64-bit ledger field at a byte is well formed (R13). -/
def stampOk (p : List Byte) (i : Nat) : Bool := decide (pkt p i 8 % 2 ^ 30 < 10 ^ 9)

/-- The header's fields (Table 08.3): zero bits, CLASS of the type, POS as Table 08.4 has it, and on Profile C
TOWARD and the last byte 0. -/
def slkHeaderOk (tile : Bool) (p : List Byte) : Bool :=
  let t := pkt p 0 1
  let cls := pkt p 1 1 / 32
  let want := if t = 0x20 then decide (cls ≤ 5) else cls == (match t with
    | 0x01 => 5 | 0x02 | 0x03 | 0x10 | 0x22 => 7 | 0x09 => 1 | _ => 6)
  let pos := pkt p 4 1
  want && pkt p 1 1 % 16 == 0
    && (if tile then
      match t with
      | 0x01 | 0x08 | 0x09 | 0x11 => decide (pos ≤ 63)
      | 0x04 => decide (pos ≤ 63) || pos == 0xFF
      | _ => pos == 0xFF
    else pkt p 1 1 / 16 % 2 == 0 && pkt p 6 1 == 0)

/-- The fields of a packet lie inside their stated ranges, BLOCKS among them (Tables 08.5 to 08.15). -/
def fieldsOk (p : List Byte) : Bool :=
  let f := fun i n => pkt p i n
  let k := f 2 2
  match f 0 1 with
  | 0x01 => decide (f 11 2 ≤ 511 ∧ f 13 1 ≤ 3 ∧ 1 ≤ f 14 1 ∧ f 14 1 ≤ 128 ∧ k = ceilDiv (12 + 6 * f 14 1) 8)
  | 0x02 => decide (k = 5 ∧ f 19 4 < 2 ^ 26 ∧ f 23 3 < 2 ^ 20 ∧ 1 ≤ f 26 1 ∧ f 26 1 ≤ 32 ∧ f 29 1 < 16
      ∧ f 29 1 / 4 ≤ 2) && stampOk p 11
  | 0x03 => decide (k = 2 ∧ f 7 1 ≤ 2)
  | 0x04 => decide (k = 5 ∧ f 30 1 < 64 ∧ f 39 1 < 64 ∧ f 39 1 % 8 ≤ 4 ∧ f 39 1 / 8 ≤ 4 ∧ f 29 1 / 4 % 4 ≤ 2
      ∧ f 29 1 / 16 % 4 ≤ 2) && stampOk p 17
  | 0x05 => decide (k = 2 ∧ f 7 1 ≤ 63)
  | 0x06 => decide (f 7 8 ≠ 0 ∧ f 15 1 ≤ 4 ∧ 1 ≤ f 16 2 ∧ f 16 2 ≤ 512 ∧ 1 ≤ f 18 2 ∧ f 18 2 ≤ 512 ∧ f 32 1 ≤ 16
      ∧ k = ceilDiv (30 + 10 * f 32 1) 8)
  | 0x07 => decide (k = 3 ∧ f 7 1 ≤ 63 ∧ f 8 1 ≤ 63 ∧ 1 ≤ f 9 1 ∧ f 9 1 ≤ 64)
  | 0x08 => decide (k = 2 ∧ 1 ≤ f 11 4 ∧ f 11 4 ≤ 4194304)
  | 0x09 => decide (1 ≤ f 11 2 ∧ f 11 2 ≤ 8192 ∧ k = ceilDiv (10 + f 11 2) 8)
  | 0x0A => decide (k = 2 ∧ f 7 2 ≠ 0) && stampOk p 9
  | 0x10 => decide (k = 7 ∧ f 31 1 < 16) && stampOk p 7 && stampOk p 21
  | 0x11 =>
    let op := f 7 1
    let flags := f 8 1
    let c := f 25 2
    let words := if op = 2 ∨ (op = 8 ∧ 1 ≤ c ∧ 29 + 4 * c ≤ 8 * k) then c else 0
    decide (flags < 8 ∧ f 20 5 % 4 = 0 ∧ f 27 1 ≤ 6 ∧ c ≤ 256 ∧ k = ceilDiv (29 + 4 * words) 8)
      && (match op with
        | 1 | 2 => decide (1 ≤ c ∧ f 27 1 = 0)
        | 3 | 4 => decide (c = 0 ∧ f 27 1 = 0)
        | 8 => true
        | _ => false)
      && (op == 2 || op == 8 || flags % 2 == 0) && (op == 1 || flags / 4 == 0)
  | 0x20 =>
    let n := f 29 2
    decide (f 12 1 ≤ 2 ∧ 1 ≤ n ∧ n ≤ 1024 ∧ f 27 2 + n ≤ f 13 2 ∧ f 25 2 < f 15 2
      ∧ k = ceilDiv (28 + n * [4, 6, 8].getD (f 12 1) 4) 8) && stampOk p 17
  | 0x21 => decide (1 ≤ f 15 2 ∧ f 15 2 ≤ 8192 ∧ k = ceilDiv (14 + f 15 2) 8)
  | 0x22 => decide (k = 4 ∧ f 11 1 ≤ 2 ∧ f 12 1 ≤ 1) && stampOk p 23
  | _ => true

end Sys2Proof.Machine
end

