-- ==== Sys2Proof/Machine/Blocks.lean ====
section
/-!
DEFINITION. Blocks on the line of a lane (08_sardylink.md R221).
-/
namespace Sys2Proof.Machine

/-- The scrambler of a lane as a block sent at a clock finds it: where its blocks have followed one another up to then, as
they left it; after a gap, in which IDLE blocks pass, a value the spec does not give (log entry 201). -/
def State.scrambler (s : State) (lane clk : Nat) : Nat :=
  match tabGet? s.phy.scr lane with
  | some (h, c) => if clk ≤ c then h else Config.scrambler lane clk % 2 ^ 58
  | none => Config.scrambler lane clk % 2 ^ 58

/-- Blocks leave a lane from one clock to another, scrambled by its own scrambler (R221). -/
def State.lineOut (s : State) (lane clk endClk : Nat) (bs : List SlkBlock) : State :=
  if bs.isEmpty then s
  else
    let r := scrambleBlocks (s.scrambler lane clk) bs
    let upTo := max endClk (tabGetD s.phy.scr lane (0, 0)).2
    ({ s with phy := { s.phy with scr := tabSet s.phy.scr lane (r.2, upTo) } }).emit (.line lane r.1)

/-- Control blocks of a kind leave a lane, or a tile's port (64 + 2 × the tile's number + the port), between packets: the
record of the message holds the bytes of the first. -/
def State.sendBlocks (s : State) (kind : String) (lane : Nat) (bs : List SlkBlock) : State :=
  (s.send kind (if lane < 64 then lane else lane - 64) ((bs.headD idleBlock).bytes.map (·.toNat))).lineOut lane s.clk s.clk bs

/-- What the block has sent but for the blocks on its lines. -/
def State.sent (s : State) : List Output := s.out.filter fun o =>
  match o with
  | .line _ _ => false
  | _ => true

end Sys2Proof.Machine
end

