-- ==== Sys2Proof/Machine/LaneOps.lean ====
section
/-!
DEFINITION. Operations on lanes and caravan groups: state changes, aborts, hails, and removal of a member from its
group (07_lanes.md, 08_sardylink.md).
-/
namespace Sys2Proof.Machine

def State.lane (s : State) (l : Nat) : Lane := tabGetD s.lanes l {}
def State.modLane (s : State) (l : Nat) (f : Lane → Lane) : State := { s with lanes := tabMod s.lanes l {} f }

/-- LANE_STATE.STATE (Table 07.4), and the lane's role and configured rate (Table 07.11). -/
def State.laneSt (s : State) (l : Nat) : Nat := s.fld (Reg.LANE_STATE l) 3 0
def State.laneRate (s : State) (l : Nat) : Nat := s.fld (Reg.LANE_STATE l) 6 4
def State.laneRole (s : State) (l : Nat) : Nat := s.fld (Reg.LANE_CFG l) 2 0
def State.laneCfgRate (s : State) (l : Nat) : Nat := s.fld (Reg.LANE_CFG l) 5 3
def State.laneBit (s : State) (l i : Nat) : Bool := bit (s.rn (Reg.LANE_STATE l)) i
def State.setLaneBit (s : State) (l i : Nat) (b : Bool) : State := s.setFld (Reg.LANE_STATE l) i i b.toNat
def State.linked (s : State) (l : Nat) : Bool := s.laneSt l == 5

/-- A lane of role T, CA, CB, CC or reserve. -/
def State.isSardy (s : State) (l : Nat) : Bool := decide (2 ≤ s.laneRole l ∧ s.laneRole l ≤ 6)

/-- The caravan group a lane belongs to or stands for: 0 CA, 1 CB, 2 CC; 3 for none (Table 07.2, RSV_GRP). -/
def State.groupOf (s : State) (l : Nat) : Nat :=
  let r := s.laneRole l
  if 2 ≤ r ∧ r ≤ 4 then r - 2
  else if r = 6 ∧ 1 ≤ s.fld (Reg.LANE_CFG l) 11 10 then s.fld (Reg.LANE_CFG l) 11 10 - 1 else 3

/-- The configured members of a group in ascending lane number (R195), and their number. -/
def State.members (s : State) (g : Nat) : List Nat := rangeFilter 24 fun l => s.laneRole l == g + 2

/-- The lane whose member place a lane holds: its own, or that of the lane it stands for. -/
def State.placeOf (s : State) (l : Nat) : Nat := if s.laneBit l 19 then s.fld (Reg.LANE_STATE l) 18 14 else l

/-- The member number of a lane: its place among its group, or the place of the lane a reserve stands for (R195). -/
def State.memberNo (s : State) (l : Nat) : Nat := ((s.members (s.groupOf l)).takeWhile (· < s.placeOf l)).length

/-- Lanes carrying traffic of a group: IN_GROUP set. -/
def State.inGroup (s : State) (g : Nat) : List Nat := rangeFilter 24 fun l => s.groupOf l == g && s.laneBit l 13

/-- The highest rate code a role may use (Table 07.2). -/
def roleLimit (r : Nat) : Nat := if r = 5 then 3 else 4

/-- The rate at which a group runs: that of a lane in service, else the configured one of its members. -/
def State.groupRate (s : State) (g : Nat) : Nat :=
  match s.inGroup g with
  | l :: _ => s.laneRate l
  | [] => match s.members g with
    | l :: _ => s.laneCfgRate l
    | [] => 0

/-- Recovery condition of a fault met: its quiet period counts from now (R446). -/
def State.condClear (s : State) (d i : Nat) : State :=
  let k := d * 65536 + i
  match tabGet? s.flt.insts k with
  | some x => if x.cond then
      { s with flt := { s.flt with insts := tabSet s.flt.insts k { x with cond := false, quietFrom := s.clk } } } else s
  | none => s

/-- TIME_PORT_TXLAT and TIME_PORT_RXLAT of a port take the factory values for a lane at its trained rate and FEC option
(R53). -/
def State.loadLatency (s : State) (p l : Nat) : State :=
  let v := fun (dir : Nat) => Config.portLatency dir l (s.laneRate l) (s.fld (Reg.LANE_CFG l) 9 8)
  (s.wn (Reg.TIME_PORT_TXLAT p) (v 0)).wn (Reg.TIME_PORT_RXLAT p) (v 1)

/-- Consecutive measurements of a source are interrupted: fewer than 16 start again from none (R44). -/
def State.measureBroken (s : State) (c : Nat) : State :=
  if tabGetD s.time.counts c 0 < 16 then { s with time := { s.time with counts := tabErase s.time.counts c } } else s

/-- The exchanges under way on a link are discarded (R248). -/
def State.dropExchanges (s : State) (k : Nat) : State :=
  match tabGet? s.slk.timeLinks k with
  | some t =>
    if t.sent.isEmpty && t.got.isEmpty then s
    else { s with slk := { s.slk with timeLinks := tabSet s.slk.timeLinks k { t with sent := [], got := [] } } }.measureBroken (6 + k)
  | none => s

/-- TIME_MEMBER is the lowest member in service (R248), and PEER_RX_MASK keeps the partner's word. A change of it loads the
latencies of the new member's lane, and discards the exchanges under way (R53). -/
def State.groupSettle (s : State) (g : Nat) : State :=
  let ls := s.inGroup g
  let ms := ls.map s.memberNo
  let rx := ms.foldl (fun a m => putBit a m true) 0
  let t := ms.foldl min 3
  let old := s.fld (Reg.SLK_GRP_STAT g) 20 19
  let s := (s.setFld (Reg.SLK_GRP_STAT g) 11 8 rx).setFld (Reg.SLK_GRP_STAT g) 20 19 (if ms.isEmpty then 0 else t)
  match ls.find? fun l => s.memberNo l == t with
  | some l => if t = old then s else (s.loadLatency (5 + g) l).dropExchanges g
  | none => s

/-- The shift register with which a lane's generator starts, never 0: the spec does not give it (log entry 201). -/
def State.prbsSeed (s : State) (l kind : Nat) : Nat := 1 + Config.scrambler l s.clk % (2 ^ (prbsTaps kind).1 - 1)

/-- What a lane's transmitter sends from now on (R215, R224 to R227): recorded as a code and its arguments, for a
pseudo-random sequence with its first 64 bits. -/
def State.setTx (s : State) (l : Nat) (m : LaneTx) : State :=
  if (s.lane l).tx = m then s
  else
    (s.modLane l fun x => { x with tx := m }).send "LANE_TX" l (match m with
      | .squelched => [0]
      | .idle => [1]
      | .hail => [2]
      | .step r t => [3, r, t]
      | .prbs k i => [4, k, i.toNat] ++ prbsRun k i 64 (s.prbsSeed l k))

/-- A MASK block with the members this end receives in service (R256). -/
def State.sendMask (s : State) (g l : Nat) : State :=
  s.sendBlocks "MASK" l [controlBlock 0x99 (beBytes 1 (s.fld (Reg.SLK_GRP_STAT g) 11 8))]

/-- A member leaves its group (R210, R256): its bit in RX_MASK clears, a MASK block goes out on every member still in
service, and the loss is timed for a reserve. -/
def State.groupRemove (s : State) (l : Nat) : State :=
  if s.laneBit l 13 then
    let g := s.groupOf l
    let s := ((s.setLaneBit l 13 false).modLane l fun x => { x with substSince := some s.clk, oneStep := true }).groupSettle g
    (s.inGroup g).foldl (fun s m => s.sendMask g m) s
  else s

/-- A lane joins its group with its member number (R195), to be announced in NEXT_MASK (R257). The first to join makes
the link LINKED: its credit totals restart (R245). -/
def State.groupJoin (s : State) (l : Nat) : State :=
  let g := s.groupOf l
  if g < 3 then
    let s := if (s.inGroup g).isEmpty then
        { s with slk := { s.slk with credits := tabErase s.slk.credits g } } else s
    let s := ((s.setLaneBit l 13 true).modLane l fun x =>
      { x with substSince := none, rejoinSince := none, oneStep := false }).groupSettle g
    let s := if s.memberNo l = s.fld (Reg.SLK_GRP_STAT g) 20 19 then s.loadLatency (5 + g) l else s
    if (s.inGroup g).length = (s.members g).length then s.condClear 101 g else s
  else s

/-- A lane that a reaction retrained is back in service when it is LINKED: its reset and shadow end, and the quiet periods of
its faults count from now (Table 15.4, R444, R446). -/
def State.laneBack (s : State) (l : Nat) : State :=
  { s with flt := { s.flt with
    resets := s.flt.resets.map fun e => if e.1 = .lane l then (e.1, min e.2 s.clk) else e
    shadows := s.flt.shadows.map fun h => if h.block = .lane l then { h with untilClk := min h.untilClk (s.clk + us 16) } else h
    insts := s.flt.insts.map fun e =>
      if detOfLane (e.1 / 65536) ∧ e.1 % 65536 = l ∧ e.2.reaction = 3 then (e.1, { e.2 with quietFrom := min e.2.quietFrom s.clk })
      else e } }

/-- A lane takes a state of Table 07.4, with LANE_LINKED, LANE_TEST_MAP and LANE_LINKED_AT following; on LINKED the
lane-down fault's condition ends, the rate-low fault's too at the configured rate, and credits restart at 32 (R245). -/
def State.setLaneSt (s : State) (l st : Nat) : State :=
  let was := s.laneSt l
  let s := s.setFld (Reg.LANE_STATE l) 3 0 st
  let s := s.setFld Reg.LANE_LINKED l l (if st = 5 then 1 else 0)
  let s := s.setFld Reg.LANE_TEST_MAP l l (if st = 7 then 1 else 0)
  let s := s.setLaneBit l 10 (st == 2)
  let s := if s.laneRole l = 1 then
      let m := s.fld (Reg.LANE_CFG l) 7 6
      let s := s.setFld (Reg.MAC_STAT m) 0 0 (if st = 5 then 1 else 0)
      let s := if st = 5 ∧ was ≠ 5 then s.loadLatency m l else s
      if st = 5 then (s.setFld (Reg.MAC_STAT m) 1 1 0).condClear 164 m else s
    else s
  let s := if st = 7 ∨ was ≠ 7 then s else s.condClear 102 l
  if st = 5 then
    let s := if was = 5 then s else
      (s.setPair (Reg.LANE_LINKED_AT l) s.now64).modLane l fun x => { x with linkedSince := some s.clk }
    let s := if s.laneRole l = 5 ∧ was ≠ 5 then
      { s with slk := { s.slk with credits := tabErase s.slk.credits (8 + l) } } else s
    let s := if s.flt.resets.any (·.1 == .lane l) then s.laneBack l else s
    let s := s.condClear 96 l
    if s.laneRate l = s.laneCfgRate l then s.condClear 97 l else s
  else if was = 5 then s.modLane l fun x => { x with linkedSince := none, downSince := s.clk } else s

/-- Whether another lane in service has a lane's place in its group (R210). -/
def State.placeTaken (s : State) (l : Nat) : Bool :=
  (List.range 24).any fun m => m != l && s.laneBit m 13 && s.placeOf m == s.placeOf l

/-- The lane waits as an idle reserve of its group, standing for none (R210, R211, R213). LANE_STATE.RATE keeps the rate it
last had (log entry 202). -/
def State.reserveIdle (s : State) (l : Nat) : State := ((s.setLaneBit l 19 false).setLaneSt l 9).setTx l .hail

/-- The members of a group that climb together (R206). -/
def State.climbing (s : State) (g : Nat) : List Nat :=
  (s.members g).filter fun m => s.laneSt m == 4 && (s.lane m).standIn.isNone

/-- The lane enters HAIL at 1.25 Gbaud (R199), and stands for no other. -/
def State.enterHail (s : State) (l : Nat) : State :=
  let s := (((s.groupRemove l).setFld (Reg.LANE_STATE l) 6 4 0).setLaneSt l 2).setLaneBit l 19 false
  let s := s.setLaneBit l 9 false
  (s.modLane l fun x =>
    { x with
      hails := 0, lastHail := none, stepAgreed := none, passed := false
      partnerPassed := false, txSwitch := none, rxSwitch := none, lastCount := 255, rejoinSince := none
      standIn := none }).setTx l .hail

/-- Training aborts (R204): the transmitter squelches and the lane backs off; the next back-off is doubled, at most
1,000 ms. -/
def State.laneAbort (s : State) (l : Nat) : State :=
  let b := s.fld (Reg.LANE_BACKOFF l) 10 0
  let s := (((s.groupRemove l).setLaneSt l 1).setLaneBit l 9 false).setLaneBit l 19 false
  let s := s.wn (Reg.LANE_BACKOFF l) (min 1000 (2 * b))
  let s := s.modLane l fun x =>
    { x with
      backoffUntil := s.clk + ms b, hails := 0, lastHail := none, stepAgreed := none
      passed := false, partnerPassed := false, txSwitch := none, rxSwitch := none, rejoinSince := none
      standIn := none }
  (s.setTx l .squelched).emit (.pin "SQUELCH" l true)

/-- The ceiling of a lane is cleared, with RATE_LOW (R202). -/
def State.clearCeiling (s : State) (l : Nat) : State :=
  ((s.setFld (Reg.LANE_STATE l) 22 20 4).setLaneBit l 11 false).modLane l fun x => { x with fails := 0 }

/-- The retrain command (Table 07.12): abort, clear ceiling and back-off, enter HAIL. -/
def State.retrain (s : State) (l : Nat) : State :=
  ((s.clearCeiling l).wn (Reg.LANE_BACKOFF l) 10).enterHail l

end Sys2Proof.Machine
end

