-- ==== Sys2Proof/Machine/TwinOps.lean ====
section
/-!
DEFINITION. Role changes of a twin (Table 09.3, R278).
-/
namespace Sys2Proof.Machine

/-- The blocks whose reset a twin follows with a sea trial (text after Table 15.4). -/
def blockNeedsTrial : Block → Bool
  | .compositor => true
  | .calibration => true
  | .scanout => true
  | _ => false

def State.role (s : State) : Nat := s.fld Reg.TWIN_STAT 1 0
def State.eligible (s : State) : Bool := bit (s.rn Reg.TWIN_STAT) 2
def State.setEligible (s : State) (b : Bool) : State :=
  let s := if b && !s.eligible then { s with twin := { s.twin with eligibleSince := s.clk, everEligible := true } } else s
  s.setFld Reg.TWIN_STAT 2 2 b.toNat

/-- Missing evidence has lasted 100 µs (R276). -/
def State.missEvidence (s : State) : Bool :=
  let l := s.twin.witnesses.filter fun w => decide (s.clk ≤ w.clk + us 100)
  !l.isEmpty && l.all fun w => !w.hears || w.role != 1

/-- Lead evidence has lasted 100 µs (R276). -/
def State.leadEvidence (s : State) : Bool :=
  let l := s.twin.witnesses.filter fun w => decide (s.clk ≤ w.clk + us 100) && w.hears
  !l.isEmpty && l.all (·.role == 1)

/-- The heartbeat group has a member in service. -/
def State.heartbeatUp (s : State) : Bool :=
  let g := s.fld Reg.TWIN_CFG 2 1
  decide (1 ≤ g) && !(s.inGroup (g - 1)).isEmpty

/-- A path is heard while it has been silent for less than 200 µs (R274). -/
def State.pathHeard (s : State) (bell : Bool) : Bool :=
  match (if bell then s.twin.hbBell else s.twin.hbGroup) with
  | some (c, _) => !s.elapsed c (us 200)
  | none => false

/-- TWIN_STAT as a read forms it (Table 09.11): the paths heard and the evidence follow the clock. -/
def State.twinStat (s : State) : Nat :=
  putBit (putBit (putBit (putBit (s.rn Reg.TWIN_STAT) 3 (s.pathHeard false)) 4 (s.pathHeard true)) 5 s.leadEvidence) 6
    s.missEvidence

/-- Ports of ORed lamp groups follow the role at once (R278, R373): a Lead drives them from the present PWM period, another
device holds their gates off, STATE 4 and GATES_OFF. -/
def State.oredSettle (s : State) : State :=
  let lead := s.role == 1 || s.role == 0
  (List.range 32).foldl (fun s g =>
    let cfg := s.rn (Reg.LAMP_GRP_CFG g)
    if s.rn (Reg.LAMP_GRP_HANDLE g) ≠ 0 ∧ bit cfg 5 = true then
      let s := s.setFld (Reg.LAMP_GRP_STAT g) 2 2 (!lead).toNat
      (List.range (bits cfg 4 2 + 1)).foldl (fun s k =>
        let p := s.fld (Reg.LAMP_GRP_PORTS g) (5 * k + 4) (5 * k)
        let st := s.fld (Reg.LAMP_PORT_STAT p) 2 0
        if lead ∧ st = 4 then
          let s := s.setFld (Reg.LAMP_PORT_STAT p) 2 0 (if s.lamp.linkHold || s.lamp.brownHold then 3 else 1)
          let out := (tabGetD s.lamp.ports p {}).pulse
          if s.ns < out.getD 0 0 + out.getD 1 0 then s.send "LAMP_PULSE" p out else s
        else if !lead ∧ (st = 1 ∨ st = 3) then s.setFld (Reg.LAMP_PORT_STAT p) 2 0 4 else s) s
    else s) s

/-- A device that is not Lead holds DE of its shared DMX ports low: a frame it was sending ends (R278, R336). -/
def State.dmxYield (s : State) : State :=
  let quiet := fun (e : Nat × Dmx) =>
    if bit (s.rn (Reg.DMX_CFG e.1)) 11 then (e.1, { e.2 with sending := none }) else e
  if s.role = 2 then { s with fixture := { s.fixture with dmx := s.fixture.dmx.map quiet } } else s

/-- A role change by a rule (1 to 4 P1 to P4, 5 to 9 D1 to D5): ROLE, LAST_REASON, TWIN_CHANGE_AT, the counts and the
role-change event; a promotion takes one more than the greater epoch and keeps it in the keeper (R278). -/
def State.roleChange (s : State) (rule : Nat) : State :=
  let promote := decide (rule ≤ 4)
  let s := (s.setFld Reg.TWIN_STAT 1 0 (if promote then 1 else 2)).setFld Reg.TWIN_STAT 15 12 rule
  let s := s.setPair Reg.TWIN_CHANGE_AT s.now64
  let s := if promote then
      let e := max (s.rn Reg.TWIN_EPOCH) (s.rn Reg.TWIN_PEER_EPOCH) + 1
      let s := ((s.bump Reg.TWIN_PROMOTE).wn Reg.TWIN_EPOCH e).wn (Reg.KEEP_LOG 6) e
      { s with twin := { s.twin with promotedAt := s.clk } }
    else
      let s := s.bump Reg.TWIN_DEMOTE
      let s := if 5 ≤ rule ∧ rule ≤ 7 then s.bump Reg.TWIN_DOUBLE else s
      if 8 ≤ rule then
        let s := s.setEligible false
        { s with twin := { s.twin with heldDown := max s.twin.heldDown (rule - 7) } }
      else s
  let s := s.wr (Reg.KEEP_LOG 63) (crc32c ((s.rdWords (Reg.KEEP_LOG 0) 63).flatMap (leBytes 4)))
  let s := s.oredSettle.dmxYield
  (s.notify 0x10 0 0 [s.role, rule, s.rn Reg.TWIN_EPOCH]).send "ROLE" 0 [s.role, rule, s.rn Reg.TWIN_EPOCH]

end Sys2Proof.Machine
end

