-- ==== Sys2Proof/Machine/FaultOps.lean ====
section
/-!
DEFINITION. The fault block's shared operations: the log, the first-fault record and its logbook copy, trips with their
shadows and reactions, resets of blocks and of the device, recovery and escalation (15_faults_reserve.md).
-/
namespace Sys2Proof.Machine

/-! ### Keeper logbook -/

/-- The logbook with CHECK recomputed (R481): word 63 is CRC-32C over bytes 0 to 251 (Table 16.7). -/
def State.keepCheck (s : State) : State :=
  s.wr (Reg.KEEP_LOG 63) (crc32c ((s.rdWords (Reg.KEEP_LOG 0) 63).flatMap (leBytes 4)))

/-- Words of the logbook written by the device, from word i (R481). -/
def State.keepWrite (s : State) (i : Nat) (ws : List Nat) : State := (s.wrWords (Reg.KEEP_LOG i) ws).keepCheck

/-! ### Instances -/

/-- The key of an instance. -/
def instKey (d i : Nat) : Nat := d * 65536 + i

def State.fltInst (s : State) (d i : Nat) : FltInst := tabGetD s.flt.insts (instKey d i) {}

def State.setFltInst (s : State) (d i : Nat) (x : FltInst) : State :=
  { s with flt := { s.flt with
      insts := if x = {} then tabErase s.flt.insts (instKey d i) else tabSet s.flt.insts (instKey d i) x } }

/-- SEVERITY, REACTION and ESC_WINDOW (clocks) of a detector (Table 15.11). -/
def State.detSeverity (s : State) (d : Nat) : Nat := s.fld (Reg.FLT_DET_CFG d) 1 0
def State.detReaction (s : State) (d : Nat) : Nat := s.fld (Reg.FLT_DET_CFG d) 4 2
def State.detEscWindow (s : State) (d : Nat) : Nat := sec (s.fld (Reg.FLT_DET_CFG d) 27 20)

/-- QUIET (clocks), ESC_LIMIT, ESC_WINDOW (clocks) and ESC_REACTION under which an instance in fault recovers: those of its
raise (Table 15.11, R448). -/
def FltInst.quiet (x : FltInst) : Nat := ms (10 * bits x.cfg 15 8)
def FltInst.escLimit (x : FltInst) : Nat := bits x.cfg 19 16
def FltInst.escWindow (x : FltInst) : Nat := sec (bits x.cfg 27 20)
def FltInst.escReaction (x : FltInst) : Nat := bits x.cfg 7 5

/-- Whether an instance is in fault. -/
def FltInst.standing (x : FltInst) : Bool := x.state != .good

/-! ### Blocks, their resets and shadows -/

/-- The block that a reset of an instance of a detector resets (Tables 15.2 to 15.4). -/
def blockOf (d i : Nat) : Option Block :=
  if d = 0 then some .compositor else if d = 1 then some .calibration else if d = 2 then some .scanout
  else if d = 3 then some (.receiver i) else if d = 4 then some .probeWay else if d = 8 then some .lampLink
  else if d = 49 then some (.receiver (i / 2)) else if 48 ≤ d ∧ d ≤ 53 then some (.receiver i)
  else if 160 ≤ d ∧ d ≤ 164 then some (.mac i) else none

/-- Reset times (Table 15.4), in clocks. -/
def blockResetTime : Block → Nat
  | .receiver _ => us 100
  | .compositor => us 250
  | .calibration => us 150
  | .scanout => us 150
  | .probeWay => us 100
  | .mac _ => us 200
  | .lampLink => us 100
  | .lane _ => ms 100

/-- Whether a path of a receiver uses a MAC: ING_SRC_P0_PORT and P1_PORT hold it (Table 03.8). -/
def pathMac (r : Receiver) (p : Nat) : Nat := bits (if p = 0 then r.cfg.p0Port else r.cfg.p1Port) 17 16

/-- The lane of the first local end of the tile of a tile-map entry (Table 06.1 word 2: end B when FEED is 3). -/
def State.entryLane (s : State) (t : Nat) : Nat :=
  let w := (tabGetD s.scan.map t []).getD 2 0
  if bits w 11 10 = 3 then bits w 9 5 else bits w 4 0

/-- Whether a reset of a block shadows an instance of a detector (Table 15.6). -/
def State.shadows (s : State) (b : Block) (d i : Nat) : Bool :=
  match b with
  | .receiver r =>
    (48 ≤ d && d ≤ 53 && (if d = 49 then i / 2 == r else i == r)) || d == 64 || d == 65
  | .compositor => d == 64 || d == 65 || d == 176
  | .calibration => d == 68 || d == 176
  | .scanout => d == 67 || (80 ≤ d && d ≤ 85)
  | .probeWay => 176 ≤ d && d ≤ 183
  | .mac m =>
    (160 ≤ d && d ≤ 164 && i == m)
    || (d == 49 && pathMac (tabGetD s.pipe.receivers (i / 2) {}) (i % 2) == m)
    || (d == 50 && (let r := tabGetD s.pipe.receivers i {}; pathMac r 0 == m || pathMac r 1 == m))
    || (d == 32 && s.fld (Reg.TIME_PORT_CTRL m) 1 0 != 0)
    || d == 180
  | .lampLink => 192 ≤ d && d ≤ 202
  | .lane l =>
    (((96 ≤ d && d ≤ 99) || d == 102 || d == 128 || d == 129) && i == l)
    || (80 ≤ d && d ≤ 85 && (if d = 80 then i == l else s.entryLane i == l))
    || (130 ≤ d && d ≤ 133 && i == s.groupOf l)

/-- The shadow over an instance now, if any (R444). -/
def State.shadowOf (s : State) (d i : Nat) : Option Shadow :=
  s.flt.shadows.find? fun h => decide (s.clk < h.untilClk) && s.shadows h.block d i

/-! ### Log -/

/-- The eight words of a log entry (Table 15.8). -/
def LogEntry.words (e : LogEntry) : List Nat :=
  let sf := e.sev + 4 * e.coincident.toNat + 8 * e.first.toNat + 16 * e.injected.toNat + 32 * e.latched.toNat
    + 64 * e.withheld.toNat
  [e.seq % 2 ^ 32, e.stamp % 2 ^ 32, e.stamp / 2 ^ 32, e.frac + 65536 * e.det,
   e.inst % 65536 + 65536 * e.kind + 2 ^ 24 * sf, e.reaction + 256 * e.port + 65536 * e.gen, e.cause % 2 ^ 32,
   e.info % 2 ^ 32]

/-- Whether an entry is a trip: neither a recovery nor an escalation. -/
def LogEntry.trip (e : LogEntry) : Bool := e.kind != 2 && e.kind != 6

/-- Two entries of trips in one core clock (R442): their stamps are the same. -/
def LogEntry.meets (a b : LogEntry) : Bool := a.trip && b.trip && a.stamp == b.stamp && a.frac == b.frac

/-- The order of coincident entries: descending severity, then ascending detector, then instance (R442). -/
def LogEntry.before (a b : LogEntry) : Bool :=
  decide (b.sev < a.sev) || (a.sev == b.sev && (decide (a.det < b.det) || (a.det == b.det && decide (a.inst < b.inst))))

/-- An entry that carries the next SEQ takes its place in the log, newest first: before those of its own clock that it
precedes, whose SEQs move up (R442). -/
def logInsert (e : LogEntry) : List LogEntry → List LogEntry
  | [] => [e]
  | x :: xs =>
    if x.meets e then
      if e.before x then
        { x with seq := e.seq, coincident := true } :: logInsert { e with seq := x.seq, coincident := true } xs
      else { e with coincident := true } :: { x with coincident := true } :: xs
    else e :: x :: xs

/-- An event's data still to be reported follow the entry it reports, which coincident entries have changed (R442, R450). -/
def eventFollow (log : List LogEntry) (v : Event) : Event :=
  let key := fun (ws : List Nat) => (ws.getD 1 0, ws.getD 2 0, ws.getD 3 0, ws.getD 4 0 % 2 ^ 24)
  if v.code = 1 then
    match log.find? fun z => key z.words == key v.data with
    | some z => { v with data := z.words }
    | none => v
  else v

/-- After an entry took SEQ q among coincident ones, the causes that name the entries moved up follow them, as do the
first-fault record and the events still to be reported (R442 to R444). -/
def State.logMoved (s : State) (q : Nat) : State :=
  let last := s.flt.nextSeq + 2 ^ 32 - 1 - q
  let up := fun c => if (c + 2 ^ 32 - q) % 2 ^ 32 < last % 2 ^ 32 then (c + 1) % 2 ^ 32 else c
  let log := s.flt.log.map fun z => if z.kind = 3 then { z with cause := up z.cause } else z
  let first := s.flt.first.map fun f =>
    (log.find? fun z => z.first && z.det == f.det && z.inst == f.inst && z.stamp == f.stamp && z.frac == f.frac).getD f
  let shadows := s.flt.shadows.map fun h => { h with cause := up h.cause }
  let t := { s with flt := { s.flt with log := log, first := first, shadows := shadows }
                    events := s.events.map (eventFollow log) }
  match first with
  | some f => t.keepWrite 8 f.words
  | none => t

/-- An entry enters the log: SEQ follows, the oldest of 1,024 is replaced and counted, the fault events of Table 14.6 are
reported (R450), and coincident entries stand in their order (R442). -/
def State.logPush (s : State) (e : LogEntry) : State :=
  let e := { e with seq := s.flt.nextSeq, stamp := toLedger s.stampNs, frac := s.stampFrac }
  let s := if s.flt.log.length < 1024 then s else s.bump Reg.FLT_LOG_LOST
  let log := logInsert e s.flt.log
  let s := { s with flt := { s.flt with log := log.take 1024, nextSeq := (s.flt.nextSeq + 1) % 2 ^ 32 } }
  let s := s.notify (if e.kind = 2 then 2 else 1) e.sev e.det e.words
  if log.head? = some e then s
  else s.logMoved (((log.find? fun z => z.meets e && z.det == e.det && z.inst == e.inst).map (·.seq)).getD e.seq)

/-- The newest entry of an instance. -/
def State.entryOf (s : State) (d i : Nat) : Option LogEntry := s.flt.log.find? fun z => z.det == d && z.inst == i

/-- An entry becomes the first-fault record: it carries FIRST, alone of the entries of its clock, and is copied into logbook
words 8 to 15 (R443). -/
def State.putFirst (s : State) (e : LogEntry) : State :=
  let e' := { e with first := true }
  let log := s.flt.log.map fun z => if z = e then e' else if z.meets e then { z with first := false } else z
  ({ s with flt := { s.flt with first := some e', log := log } }).keepWrite 8 e'.words

/-- The first-fault record takes the newest entry of an instance when its severity suffices and the record is empty, or holds
a coincident raise that comes after it (R443). -/
def State.takeFirst (s : State) (d i : Nat) : State :=
  match s.entryOf d i with
  | none => s
  | some e =>
    let takes := match s.flt.first with
      | none => true
      | some f => f.meets e && e.before f
    if takes && decide (s.fld Reg.FLT_CFG 2 1 ≤ e.sev) then s.putFirst e else s

/-! ### Reset of the device -/

/-- Registers of the always-on island and the keeper, which a reset of the compute die keeps: WATCH and KEEP (R462). -/
def keptAtReset (a : Nat) : Bool := 0x150000 ≤ a && a < 0x170000

/-- A cause enters the logbook with its RTC time (Table 16.7): RESET_CAUSE, WAKE_CAUSE and WAKE_RULE. -/
def State.setCause (s : State) (cause wake rule : Nat) : State :=
  let s := s.wn (Reg.KEEP_LOG 1) (putBits (s.rn (Reg.KEEP_LOG 1)) 23 0 (cause + 256 * wake + 65536 * rule))
  s.keepWrite 2 [toLedger s.rtcNs % 2 ^ 32, toLedger s.rtcNs / 2 ^ 32]

/-- The compute die enters reset (R462): everything returns to its reset value but the queue, the clock, the model's
records, the keeper and the always-on island, the tiles, Hold contents, NVM and OTP, the reserve ledger, the lamp supply,
and of the fault block the log with SEQ (R450), the first-fault record (R443), the legacy latch (R449) and test mode. -/
def State.dieReset (s : State) : State :=
  { ({} : State) with
    pending := s.pending, clk := s.clk, lampDie := s.lampDie, out := s.out, fresh := s.fresh
    regs := s.regs.filter (fun e => keptAtReset e.1)
    flt := { log := s.flt.log, nextSeq := s.flt.nextSeq, first := s.flt.first, latch := s.flt.latch, test := s.flt.test }
    hold := s.hold, rsv := s.rsv, tiles := s.tiles, lamp := { supplyOk := s.lamp.supplyOk }
    watch := { s.watch with core := false, warnAt := none, refBad := false, refOkSince := none, refAt := none, loaded := [] }
    nvm := { s.nvm with tftp := none, saves := [], waiting := [], booted := false, firstAt := none } }

/-- The venue key in force: the newest generation written that is not void (R514, R515). -/
def State.venueKey (s : State) : Option (List Byte) := (s.nvm.otp.venue.reverse.find? fun k => !k.2).map (·.1)

/-- SVC_KEY_STAT, SVC_SECVER, the key hashes and MAN_KEY_OPEN follow the OTP, and the venue-key bit of FERRY_QMP_CFG with
them (Tables 17.12, 17.13, R406). -/
def State.keySettle (s : State) : State :=
  let o := s.nvm.otp
  let set := s.venueKey.isSome
  let s := s.wn Reg.SVC_KEY_STAT (set.toNat + 2 * (8 - o.venue.length) + 32 * o.man.isSome.toNat + 64)
  let s := s.wn Reg.SVC_SECVER (o.fwSec + 256 * o.manSec)
  let words := fun (bs : List Byte) => (List.range 12).map fun i => leNat ((bs.drop (4 * i)).take 4)
  let s := s.wrWords (Reg.SVC_VENDOR_HASH 0) (words o.vendor)
  let s := s.wrWords (Reg.SVC_MAN_HASH 0) (words (o.man.getD []))
  (s.setFld Reg.SVC_STAT 9 9 (!o.man.isSome).toNat).setFld Reg.FERRY_QMP_CFG 18 18 set.toNat

/-- The compute die leaves reset with the cause the logbook holds: BOOT_COUNT rises before any register can be read
(Table 16.7), the counters of the always-on island start at 0 with the others (R10), the ledger starts from the keeper RTC (R480), straps are sampled (R539), a nonce is drawn (R516), and the
registers of Table 18.9 marked X take their values (R525). Test mode lasts while TEST_MODE is high (R451). -/
def State.leaveReset (s : State) : State :=
  let boot := (s.rn (Reg.KEEP_LOG 0) + 1) % 2 ^ 32
  let s := s.keepWrite 0 [boot]
  let s := [Reg.WATCH_WAKES, Reg.WATCH_I2C_FAIL, Reg.WATCH_WAKE_DROP].foldl (fun s a => s.setPair a 0) s
  let s := (s.wn Reg.SYS_BOOT_COUNT boot).wn Reg.SYS_RESET_CAUSE (bits (s.rn (Reg.KEEP_LOG 1)) 23 0)
  let s := { s with
    time := { s.time with led := s.rtcNs * ledNs }
    watch := { s.watch with core := true, goodAt := s.clk }
    flt := { s.flt with test := s.flt.test && s.watch.testMode } }
  let s := (s.setPair Reg.SYS_BOOT_AT s.now64).wn Reg.TWIN_EPOCH (s.rn (Reg.KEEP_LOG 6))
  let s := s.wrWords (Reg.SYS_UID 0) ((List.range 4).map fun i => leNat ((s.nvm.otp.uid.drop (4 * i)).take 4))
  let s := s.wn Reg.RSV_OTP_SPARE s.nvm.otp.spare
  let (n, s) := s.draw
  let s := (s.setPair Reg.SVC_NONCE (n % 2 ^ 64)).keySettle
  let s := (s.setFld Reg.SVC_STAT 10 10 s.flt.test.toNat).setFld Reg.SVC_STAT 12 11 s.watch.bootsel
  s.setFld Reg.SVC_STAT 13 13 s.watch.testMode.toNat

/-- A reset of the compute die that it leaves at once (reaction 6, R513), with its cause. -/
def State.deviceReset (s : State) (cause : Nat) : State := ((s.setCause cause 0 0).dieReset).leaveReset

/-! ### Trips -/

/-- One trip: its detector and instance, INFO, PORT and GEN of Table 15.8, whether it is a rail fault, and whether the
fault is an event. -/
structure Trip where
  det : Nat
  inst : Nat
  info : Nat := 0
  port : Nat := 0
  gen : Nat := 0
  rail : Bool := false
  deriving DecidableEq, Repr

/-- Whether the running firmware is unconfirmed (SVC_STAT.TRIAL not 0; R440). -/
def State.unconfirmed (s : State) : Bool := s.fld Reg.SVC_STAT 3 2 != 0

/-- LEGACY of the manifest (FLT_CFG). -/
def State.legacy (s : State) : Bool := bit (s.rn Reg.FLT_CFG) 0

/-- A block reset begins, unless it already runs (R438, R439), with its shadow (R444). -/
def State.blockReset (s : State) (b : Block) (cause : Nat) : State :=
  if s.flt.resets.any (·.1 == b) then s else
  let t := s.clk + blockResetTime b
  { s with flt := { s.flt with
      resets := (b, t) :: s.flt.resets
      shadows := { block := b, untilClk := t + us 16, cause := cause } :: s.flt.shadows } }

/-- Demotion under D4, or clearing ELIGIBLE at an Escort; with ROLE 0 nothing (Table 15.3). -/
def State.standDownD4 (s : State) : State :=
  if s.role = 1 then s.roleChange 8 else if s.role = 2 then
    let s := s.setEligible false
    { s with twin := { s.twin with heldDown := max s.twin.heldDown 1 } }
  else s

/-- The reaction taken for an instance, with the SEQ of its entry (Table 15.3). Stop the berth and hold the output safe
are read from FltInst.reaction while the fault stands. -/
def State.react (s : State) (d i r cause : Nat) : State :=
  match r with
  | 2 => match blockOf d i with
    | some b => s.blockReset b cause
    | none => s
  | 3 =>
    let ls := if detOfGroup d then (List.range 24).filter fun l => s.groupOf l == i else [i]
    ls.foldl (fun s l =>
      if s.isSardy l ∧ s.laneSt l ≠ 0 ∧ s.laneSt l ≠ 7 then (s.blockReset (.lane l) cause).retrain l else s) s
  | 4 => s.standDownD4
  | 5 => s.emit (.pin "SAFE" d true)
  | 6 => s.deviceReset (if d = 257 then 5 else 6)
  | _ => s

/-- The severity an instance's fault stands at: one class higher once escalated (R447), at least Degraded on a rail
fault (R436). -/
def State.tripSev (s : State) (t : Trip) : Nat :=
  if t.rail then max 1 (s.detSeverity t.det) else s.detSeverity t.det

/-- The reaction an independent trip takes: the detector's own; stand the twin down for a rail fault of detector 9
(R437); 6 is withheld while the firmware is unconfirmed and the severity is below Grave (R440). -/
def State.tripReaction (s : State) (t : Trip) (sev : Nat) : Nat × Bool :=
  let r := if t.rail && t.det == 9 then 4 else s.detReaction t.det
  if r = 6 ∧ s.unconfirmed ∧ sev < 3 then (255, true) else (r, false)

/-- A reaction due: its detector, instance, code and the SEQ of the entry that took it. -/
structure Reaction where
  det : Nat
  inst : Nat
  code : Nat
  cause : Nat
  deriving DecidableEq, Repr

/-- A lamp fault sets its flag in LAMP_PORT_FLT, and a partial short clears TJ_VALID (Tables 12.5, 12.7, R363). -/
def State.lampFlag (s : State) (d i : Nat) : State :=
  if s.lampDie ∧ 192 ≤ d ∧ d ≤ 202 ∧ d ≠ 201 ∧ i < 32 then
    let b := [0, 1, 2, 3, 4, 5, 8, 6, 7, 0, 9].getD (d - 192) 0
    let s := s.setFld (Reg.LAMP_PORT_FLT i) b b 1
    if d = 194 then s.setFld (Reg.LAMP_PORT_TJ i) 16 16 0 else s
  else s

/-- A trip inside a shadow: consequential (R444). -/
def State.tripShadowed (s : State) (t : Trip) (e : LogEntry) (x : FltInst) (ev : Bool) (cause : Nat) : State :=
  let s := { s with flt := { s.flt with inShadow := (instKey t.det t.inst, t.info) :: s.flt.inShadow } }
  let s := if ev then s else s.setFltInst t.det t.inst { x with cond := x.cond || detHasCond t.det }
  (s.bump Reg.FLT_CONSEQ).logPush { e with kind := 3, cause := cause }

/-- A trip while the fault stands: a repeat. -/
def State.tripRepeat (s : State) (t : Trip) (e : LogEntry) (x : FltInst) : State :=
  (s.setFltInst t.det t.inst { x with
    cond := x.cond || (detHasCond t.det && !t.rail), quietFrom := max x.quietFrom s.clk }).logPush
    { e with kind := 4, sev := x.sev }

/-- An independent raise counted and logged (R442, R443). -/
def State.tripLog (s : State) (t : Trip) (e : LogEntry) (held : Bool) : State :=
  let s := s.bump Reg.FLT_RAISED
  let s := if t.rail then s.bump Reg.FLT_RAIL else s
  let s := if held then s.bump Reg.FLT_WITHHELD else s
  (s.logPush e).takeFirst t.det t.inst

/-- The legacy latch is set: every output is held safe (R449). -/
def State.latchAll (s : State) : State := { s with flt := { s.flt with latch := true } }

/-- The latch of a Grave fault in a legacy manifest (R449), and the mark that R512 looks for. -/
def State.tripMarks (s : State) (t : Trip) (sev : Nat) (lat : Bool) : State :=
  let s := if lat then s.latchAll else s
  if 2 ≤ sev ∧ (t.det ≤ 9 ∨ (320 ≤ t.det ∧ t.det ≤ 351)) then { s with flt := { s.flt with severe := true } } else s

/-- An instance stands in fault until it recovers, with its quiet period counted from the end of its reaction. -/
def State.tripStand (s : State) (t : Trip) (x : FltInst) (ev : Bool) (r sev : Nat) (lat inj : Bool) : State :=
  let done := match blockOf t.det t.inst with
    | some b => if r = 2 then s.clk + blockResetTime b else s.clk
    | none => if r = 3 then s.clk + ms 100 else s.clk
  if !ev || r == 1 || r == 5 then
    s.setFltInst t.det t.inst { x with
      state := (if t.rail then .rail else .fault), cond := !ev && detHasCond t.det && !t.rail
      quietFrom := done, latched := lat, injected := inj, reaction := r, sev := sev
      cfg := s.rn (Reg.FLT_DET_CFG t.det) }
  else s

/-- An independent raise, or the note of an event, with the reaction it takes. -/
def State.tripRaise (s : State) (t : Trip) (e : LogEntry) (x : FltInst) (ev : Bool) : State × Option Reaction :=
  let r := (s.tripReaction t e.sev).1
  let held := (s.tripReaction t e.sev).2
  let lat := s.legacy && decide (e.sev = 3)
  let kind := if t.rail then 5 else if ev then 7 else 1
  let s := s.tripLog t { e with kind := kind, reaction := r, withheld := held, latched := lat } held
  let s := (s.tripMarks t e.sev lat).tripStand t x ev r e.sev lat e.injected
  (s, some ⟨t.det, t.inst, r, ((s.entryOf t.det t.inst).map (·.seq)).getD 0⟩)

/-- An instance trips (R434 to R445): nothing for a reserved number; consequential inside a shadow; repeat while the
fault stands; else an independent raise, or a note for an event, with the reaction it takes. Detectors 64, 65 and 67 do
not trip in Quiet (R464). -/
def State.enterTrip (s : State) (t : Trip) : State × Option Reaction :=
  if detSev? t.det = none then (s, none)
  else if s.fld Reg.PWR_STAT 0 0 = 1 ∧ (t.det = 64 ∨ t.det = 65 ∨ t.det = 67) then (s, none)
  else
    let s := s.lampFlag t.det t.inst
    let x := s.fltInst t.det t.inst
    let ev := detEvent t.det && !t.rail
    let inj := s.flt.injection.any fun j => j.det == t.det && j.inst == t.inst
    let e : LogEntry := { seq := 0, stamp := 0, frac := 0, det := t.det, inst := t.inst, kind := 1, sev := s.tripSev t,
                          injected := inj, port := t.port, gen := t.gen, info := t.info }
    match s.shadowOf t.det t.inst with
    | some h => (s.tripShadowed t e x ev h.cause, none)
    | none => if x.standing && !ev then (s.tripRepeat t e x, none) else s.tripRaise t e x ev

/-- A reaction acts; a role change it makes raises the Notice role-change fault (Table 09.7). -/
def State.act1 (s : State) (x : Reaction) : State :=
  let t := s.react x.det x.inst x.code x.cause
  if x.code = 4 ∧ t.role ≠ s.role then
    match t.enterTrip { det := 148, inst := 0, info := t.role } with
    | (u, some y) => u.react y.det y.inst y.code y.cause
    | (u, none) => u
  else t

/-- One trip, with its reaction. -/
def State.logTrip (s : State) (t : Trip) : State :=
  match s.enterTrip t with
  | (s, some x) => s.act1 x
  | (s, none) => s

/-- A fault raised by a chapter's rule. -/
def State.raise (s : State) (d i : Nat) (info : Nat := 0) : State := s.logTrip { det := d, inst := i, info := info }

/-- A standing fault raised once: nothing while its condition already stands. -/
def State.raiseOnce (s : State) (d i : Nat) (info : Nat := 0) : State :=
  let x := s.fltInst d i
  if x.standing && x.cond then s else s.raise d i info

/-- A fault raised at most once per second for an instance ("Only the raise is limited", after Table 15.2). -/
def State.raiseSec (s : State) (d i : Nat) (info : Nat := 0) : State :=
  let k := instKey d i
  let due := match tabGet? s.flt.lastRaise k with
    | some c => decide (c + sec 1 ≤ s.clk)
    | none => true
  if due then ({ s with flt := { s.flt with lastRaise := tabSet s.flt.lastRaise k s.clk } }).raise d i info else s

/-- The order of coincident faults: descending severity, then ascending detector, then instance (R442). -/
def tripBefore (s : State) (a b : Trip) : Bool :=
  decide (s.tripSev b < s.tripSev a) || (s.tripSev a == s.tripSev b && (decide (a.det < b.det)
    || (a.det == b.det && decide (a.inst ≤ b.inst))))

/-- A trip inserted in the order of R442. -/
def tripInsert (s : State) (t : Trip) : List Trip → List Trip
  | [] => [t]
  | u :: us => if tripBefore s t u then t :: u :: us else u :: tripInsert s t us

/-- The order of reactions due in one clock (R439): hold safe, stand down, then the others by detector. -/
def reactRank (r : Nat) : Nat := if r = 5 then 0 else if r = 4 then 1 else if r = 6 then 3 else 2

/-- Whether reaction x acts before y (R439). -/
def reactBefore (x y : Reaction) : Bool :=
  decide (reactRank x.code < reactRank y.code)
    || (reactRank x.code == reactRank y.code && decide (x.det ≤ y.det))

/-- A reaction inserted in the order of R439. -/
def reactInsert (x : Reaction) : List Reaction → List Reaction
  | [] => [x]
  | y :: ys => if reactBefore x y then x :: y :: ys else y :: reactInsert x ys

/-- Coincident trips: logged in the order of R442; then their reactions in the order
of R439, a reset of the device superseding every other. -/
def State.logTrips (s : State) (ts : List Trip) : State :=
  let sorted := ts.foldr (fun t acc => tripInsert s t acc) []
  let (s, rs) := sorted.foldl (fun (p : State × List Reaction) t =>
    match p.1.enterTrip t with
    | (u, some x) => (u, reactInsert x p.2)
    | (u, none) => (u, p.2)) (s, [])
  match rs.find? (·.code == 6) with
  | some x => s.act1 x
  | none => rs.foldl (fun s x => s.act1 x) s

/-! ### Recovery and escalation -/

/-- Whether an output or berth of an instance is stopped or held safe by its fault now (Tables 15.3, 15.5). -/
def State.heldBy (s : State) (d i r : Nat) : Bool :=
  let x := s.fltInst d i
  x.standing && x.reaction == r

/-- Whether an instance of a detector is an output of Table 15.5: a lamp port, an output universe, a DMX port or a tile
lane. -/
def State.isOutput (s : State) (d i : Nat) : Bool :=
  (192 ≤ d && d ≤ 202 && d != 201) || (181 ≤ d && d ≤ 183) || (detOfLane d && s.laneRole i == 5)

/-- Every output is held safe: by the legacy latch (R449), or by a standing hold of an instance that is no output. -/
def State.allSafe (s : State) : Bool :=
  s.flt.latch || s.flt.insts.any fun e => e.2.standing && e.2.reaction == 5 && !s.isOutput (e.1 / 65536) (e.1 % 65536)

/-- A tile lane is held safe: tokens only (Table 15.5). -/
def State.laneSafe (s : State) (l : Nat) : Bool :=
  s.allSafe || [80, 96, 97, 98, 99, 102, 128, 129].any fun d => s.heldBy d l 5

/-- Whether a standing fault stops the berth that owns one of some instances (Table 15.3). -/
def State.stopped (s : State) (f : Nat → Nat → Bool) : Bool :=
  s.flt.insts.any fun e => e.2.standing && e.2.reaction == 1 && f (e.1 / 65536) (e.1 % 65536)

/-- A layer slot, a receiver and a DMX port whose berth is stopped. -/
def State.slotStopped (s : State) (l : Nat) : Bool := s.stopped fun d i => d == 66 && i == l
def State.rcvStopped (s : State) (r : Nat) : Bool :=
  s.stopped fun d i => 48 ≤ d && d ≤ 53 && (if d = 49 then i / 2 else i) == r
def State.dmxStopped (s : State) (p : Nat) : Bool := s.stopped fun d i => (d == 182 || d == 183) && i == p

/-- Recoveries of an instance within ESC_WINDOW. -/
def State.recoveries (s : State) (d : Nat) (x : FltInst) : Nat :=
  (x.recov.filter fun c => decide (s.clk < c + s.detEscWindow d)).length

/-- An instance recovers (R446) and escalates at the ESC_LIMIT-th recovery within ESC_WINDOW (R447). -/
def State.recover (s : State) (d i : Nat) : State :=
  let x := s.fltInst d i
  let forced := x.state == .rail && s.flt.injection.any fun j => j.det == d && j.inst == i
  if x.standing && !x.cond && x.state != .escalated && !x.latched && !forced && decide (x.quietFrom + x.quiet ≤ s.clk) then
    let e : LogEntry := { seq := 0, stamp := 0, frac := 0, det := d, inst := i, kind := 2, sev := x.sev,
                          injected := x.injected, info := (if d = 256 then s.rn Reg.PWR_BROWN_LAST else 0) }
    let s := (s.bump Reg.FLT_RECOVERED).logPush e
    let recov := (s.clk :: x.recov).filter fun c => decide (s.clk < c + x.escWindow)
    let s := if x.reaction = 5 then s.emit (.pin "SAFE" d false) else s
    if x.escLimit ≤ recov.length then
      let sev := min 3 (x.sev + 1)
      let r := x.escReaction
      let held := decide (r = 6) && s.unconfirmed && decide (sev < 3)
      let lat := s.legacy && decide (sev = 3)
      let s := (s.bump Reg.FLT_ESCALATED).bump Reg.FLT_RAISED
      let s := if held then s.bump Reg.FLT_WITHHELD else s
      let s := (s.logPush { e with
        kind := 6, sev := sev, reaction := (if held then 255 else r), withheld := held, latched := lat }).takeFirst d i
      let s := if lat then s.latchAll else s
      let s := s.setFltInst d i { x with
        state := .escalated, recov := recov, reaction := (if held then 255 else r), sev := sev, latched := lat }
      if held then s else s.act1 ⟨d, i, r, ((s.entryOf d i).map (·.seq)).getD 0⟩
    else s.setFltInst d i { recov := recov }
  else s

/-- The escalation of an instance cleared, with its recovery count (R447); a latched fault stays (R449). -/
def State.clearEsc (s : State) (d i : Nat) : State :=
  let x := s.fltInst d i
  if x.state = .escalated ∧ x.latched = false then
    (if x.reaction = 5 then s.emit (.pin "SAFE" d false) else s).setFltInst d i {}
  else s

/-! ### Status registers of the fault block -/

/-- Instances in fault of every detector, or of one. -/
def State.inFault (s : State) (d : Option Nat) : List (Nat × FltInst) :=
  s.flt.insts.filter fun e => e.2.standing && (match d with | some d => e.1 / 65536 == d | none => true)

/-- FLT_STAT (Table 15.10). -/
def State.fltStat (s : State) : Nat :=
  let l := s.inFault none
  min 2047 l.length + 2048 * (l.foldl (fun m e => max m e.2.sev) 0) + 8192 * s.flt.latch.toNat + 16384 * s.flt.test.toNat

/-- FLT_DET_STAT of a detector. -/
def State.fltDetStat (s : State) (d : Nat) : Nat :=
  let l := s.inFault (some d)
  min 2047 l.length + 2048 * (l.any (·.2.state == .escalated)).toNat + 4096 * (l.any (·.2.state == .rail)).toNat

/-- FLT_INST_STAT of the instance in FLT_DET_SEL. -/
def State.fltInstStat (s : State) : Nat :=
  let d := s.fld Reg.FLT_DET_SEL 8 0
  let i := s.fld Reg.FLT_DET_SEL 26 16
  let x := s.fltInst d i
  (match x.state with | .good => 0 | .fault => 1 | .escalated => 2 | .rail => 3)
    + 4 * (s.shadowOf d i).isSome.toNat + 8 * x.latched.toNat + 16 * min 255 (s.recoveries d x)

/-- The entry of the log with a SEQ. -/
def State.logAt (s : State) (q : Nat) : Option LogEntry := s.flt.log.find? (·.seq == q)

end Sys2Proof.Machine
end

