-- ==== Sys2Proof/Machine/Transmit.lean ====
section
/-!
DEFINITION. The transmitter of a link: packets wait and leave by class and age (R231), their blocks are dealt to the members
of a group (R228, R254) and scrambled on each lane.
-/
namespace Sys2Proof.Machine

/-- Line rates in kbaud (Table 07.1). -/
def kbaud (r : Nat) : Nat := [1250000, 5156250, 10312500, 12890625, 25781250].getD r 1250000

/-- Core clocks that n blocks take over a number of lanes at a rate code, rounded up: a clock is 1.5625 bits at
1.25 Gbaud. -/
def blockClocks (rate lanes n : Nat) : Nat :=
  ceilDiv (n * 66 * 256) ([400, 1650, 3300, 4125, 8250].getD rate 400 * max 1 lanes)

/-- The port of a tile that a link key names. -/
def State.tilePort (s : State) (k : Nat) : TilePort :=
  match tabGet? s.tiles ((k - 64) / 2) with
  | some t => if k % 2 = 1 then t.p1 else t.p0
  | none => {}

/-- The lanes that carry a link's block stream, in the order in which blocks are dealt to them: the members of a group in
MASK, or those in service before its first period has set one (R254). -/
def State.carriers (s : State) (k : Nat) : List Nat :=
  if k < 3 then
    let mask := s.fld (Reg.SLK_GRP_STAT k) 3 0
    let ls := s.inGroup k
    let ls := if mask = 0 then ls else ls.filter fun l => bit mask (s.memberNo l)
    (List.range 4).flatMap fun m => ls.filter fun l => s.memberNo l == m
  else if k < 64 then (if s.linked (k - 8) then [k - 8] else [])
  else if (s.tilePort k).linked then [k] else []

/-- The rate code of a link. -/
def State.linkRate (s : State) (k : Nat) : Nat :=
  if k < 3 then s.groupRate k else if k < 64 then s.laneRate (k - 8) else (s.tilePort k).rate

def State.linkTx (s : State) (k : Nat) : LinkTx := tabGetD s.phy.tx k {}
def State.setLinkTx (s : State) (k : Nat) (x : LinkTx) : State :=
  { s with phy := { s.phy with tx := tabSet s.phy.tx k x } }

/-- The number that a record of a link's message carries: a group's, a lane's, or 2 × a tile's + its port. -/
def linkPort (k : Nat) : Nat := if k < 3 then k else if k < 64 then k - 8 else k - 64

/-- The packet that goes first among those ready at a clock: the oldest of the highest CLASS (R231). -/
def nextPacket (q : List TxPacket) (clk : Nat) : Option TxPacket :=
  q.foldl (fun b p =>
    if clk < p.ready then b
    else match b with
      | none => some p
      | some o => if o.cls < p.cls ∨ (o.cls = p.cls ∧ p.ready < o.ready) then some p else b) none

/-- A packet leaves at a clock: its blocks are dealt to the carriers, from the next member where the packet before it ended
at that clock and from the lowest after a gap; packets on a group and pixel packets are counted (Tables 06.5, 08.18). A link
without a lane in service loses it. -/
def State.txSend (s : State) (k : Nat) (p : TxPacket) (clk : Nat) : State :=
  let x := s.linkTx k
  let x := { x with queue := x.queue.erase p }
  let ls := s.carriers k
  let n := ls.length
  if n = 0 then s.setLinkTx k x
  else
    let bs := packetBlocks p.bytes
    let d := if x.freeAt = clk ∧ 0 < clk then x.deal % n else 0
    let fin := clk + blockClocks (s.linkRate k) n bs.length
    let s := s.setLinkTx k { x with freeAt := fin, deal := (d + bs.length) % n }
    let s := if k < 3 then s.bump (Reg.SLK_GRP_TX k) else if p.kind = "PIXEL" ∧ k < 64 then s.bump Reg.SCAN_SENT else s
    let s := s.send p.kind (linkPort k) (p.bytes.map (·.toNat))
    (List.range n).foldl (fun s i => s.lineOut (ls.getD i 0) clk fin (dealt n d i bs)) s

/-- Packets whose turn has come by now leave, at most a number of them. -/
def State.txDrain : Nat → State → Nat → State
  | 0, s, _ => s
  | n + 1, s, k =>
    let x := s.linkTx k
    match x.queue with
    | [] => s
    | p :: ps =>
      let clk := max x.freeAt (ps.foldl (fun a q => min a q.ready) p.ready)
      if s.clk < clk then s
      else match nextPacket x.queue clk with
        | some q => State.txDrain n (s.txSend k q clk) k
        | none => s

/-- What waits at a link and whose turn has come leaves. -/
def State.txPump (s : State) (k : Nat) : State := State.txDrain (s.linkTx k).queue.length s k

/-- A packet takes its turn among those of a link (R231). -/
def State.enqueue (s : State) (k : Nat) (p : TxPacket) : State :=
  let s := s.txPump k
  let x := s.linkTx k
  (s.setLinkTx k { x with queue := x.queue ++ [p] }).txPump k

/-- The blocks that fill a time in clocks on one lane at a rate code. -/
def blocksIn (rate clks : Nat) : Nat := ceilDiv (clks * [400, 1650, 3300, 4125, 8250].getD rate 400) (66 * 256)

def State.lpi (s : State) (l : Nat) : LpiState := tabGetD s.slk.lpi l {}
def State.setLpi (s : State) (l : Nat) (x : LpiState) : State := { s with slk := { s.slk with lpi := tabSet s.slk.lpi l x } }

/-- A tile lane leaves low-power idle (R186, R259): WAKE blocks for 2 µs, then IDLE; its next packet leaves 10 µs after the
start. -/
def State.lpiWake (s : State) (l : Nat) : State :=
  let p := s.lpi l
  if p.idle then
    let s := (s.setLpi l { p with idle := false, wakeUntil := s.clk + us 10 }).setFld (Reg.SCAN_LINK_STAT l) 14 14 0
    (s.setTx l .idle).sendBlocks "WAKE" l (List.replicate (blocksIn (s.laneRate l) (us 2)) (controlBlock 0x87 []))
  else s

/-- A tile lane enters low-power idle (R259): 8 SLEEP blocks, and the transmitter squelches until the next refresh. -/
def State.lpiSleep (s : State) (l : Nat) : State :=
  let s := (s.setLpi l { idle := true, lastRefresh := s.clk }).setFld (Reg.SCAN_LINK_STAT l) 14 14 1
  (s.sendBlocks "SLEEP" l (List.replicate 8 (controlBlock 0x78 []))).setTx l .squelched

/-- What a group is given to send, by class, is kept for a second (R258). -/
def State.demandAdd (s : State) (g cls : Nat) (p : List Byte) : State :=
  let l := (tabGetD s.phy.demand g []).filter fun d => !s.elapsed d.1 (sec 1)
  { s with phy := { s.phy with demand := tabSet s.phy.demand g ((s.clk, cls, 64 * (packetBlocks p).length) :: l) } }

/-- The demand of each class of a group: its payload bits of the last second. -/
def State.demands (s : State) (g : Nat) : List Nat :=
  let l := (tabGetD s.phy.demand g []).filter fun d => !s.elapsed d.1 (sec 1)
  (List.range 8).map fun c => (l.filter fun d => d.2.1 == c).foldl (fun a d => a + d.2.2) 0

/-- A packet is ready at a clock; a tile lane in low-power idle is woken for it (R186). -/
def State.packetAt (s : State) (ready k cls : Nat) (kind : String) (p : List Byte) : State :=
  if 8 ≤ k ∧ k < 64 then
    let s := s.lpiWake (k - 8)
    s.enqueue k ⟨max ready (s.lpi (k - 8)).wakeUntil, cls, kind, p⟩
  else (if k < 3 then s.demandAdd k cls p else s).enqueue k ⟨ready, cls, kind, p⟩

/-- A packet is ready now, in the CLASS its header names. -/
def State.packet (s : State) (k : Nat) (kind : String) (p : List Byte) : State :=
  s.packetAt s.clk k (pkt p 1 1 / 32) kind p

/-- Nothing waits or is being sent on a link now. -/
def State.txIdle (s : State) (k : Nat) : Bool := (s.linkTx k).queue.isEmpty && decide ((s.linkTx k).freeAt ≤ s.clk)

/-- The clocks that a packet of a class ready now waits for those before it. -/
def State.txWait (s : State) (k cls : Nat) : Nat :=
  let x := s.linkTx k
  let ahead := x.queue.filter fun p => decide (cls ≤ p.cls ∧ p.ready ≤ s.clk)
  (x.freeAt - s.clk) + (ahead.map fun p =>
    blockClocks (s.linkRate k) (s.carriers k).length (packetBlocks p.bytes).length).foldl (· + ·) 0

/-- Packets of a kind that meet a condition are not sent any more. -/
def State.txCancel (s : State) (k : Nat) (drop : TxPacket → Bool) : State :=
  let s := s.txPump k
  let x := s.linkTx k
  s.setLinkTx k { x with queue := x.queue.filter fun p => !drop p }

/-- The links with packets waiting go on (R231). -/
def State.txAll (s : State) : State := (s.phy.tx.map (·.1)).foldl (fun s k => s.txPump k) s

end Sys2Proof.Machine
end

