-- ==== Sys2Proof/Machine/TileMap.lean ====
section
/-!
DEFINITION. The words of a tile-map entry and the direction of a chain end (06_scanout_tiles.md, Tables 06.1, 06.2; 08_sardylink.md
R234).
-/
namespace Sys2Proof.Machine

/-! ### Tile-map words (Table 06.1) -/

def mIdent (w : List Nat) : Nat := w.getD 0 0 + 2 ^ 32 * w.getD 1 0
def mLinkA (w : List Nat) : Nat := bits (w.getD 2 0) 4 0
def mLinkB (w : List Nat) : Nat := bits (w.getD 2 0) 9 5
def mFeed (w : List Nat) : Nat := bits (w.getD 2 0) 11 10
def mPos (w : List Nat) : Nat := bits (w.getD 2 0) 17 12
def mBind (w : List Nat) : Bool := bit (w.getD 2 0) 18
def mEnable (w : List Nat) : Bool := bit (w.getD 2 0) 19
def mX (w : List Nat) : Nat := bits (w.getD 3 0) 15 0
def mY (w : List Nat) : Nat := bits (w.getD 3 0) 29 16
def mW (w : List Nat) : Nat := bits (w.getD 4 0) 9 0
def mH (w : List Nat) : Nat := bits (w.getD 4 0) 25 16
def mOrient (w : List Nat) : Nat := bits (w.getD 5 0) 1 0
def mBin (w : List Nat) : Nat := bits (w.getD 5 0) 9 2

/-- The local chain ends that an entry names (Table 06.1 FEED). -/
def mEnds (w : List Nat) : List Nat :=
  match mFeed w with
  | 0 => [mLinkA w]
  | 1 => [mLinkA w, mLinkB w]
  | 2 => [mLinkA w]
  | _ => [mLinkB w]

/-- The place of tile pixel (u, v) in its region (Table 06.2), for a tile grid of wt by ht. -/
def tileToRegion (orient wt ht u v : Nat) : Nat × Nat :=
  match orient with
  | 0 => (u, v)
  | 1 => (ht - 1 - v, u)
  | 2 => (wt - 1 - u, ht - 1 - v)
  | _ => (v, wt - 1 - u)

/-- The region a tile grid shows at an orientation (R170). -/
def regionOf (orient wt ht : Nat) : Nat × Nat := if orient % 2 = 0 then (wt, ht) else (ht, wt)

/-- Whether a lane is end B of its chain: an enabled entry names it so. -/
def State.endB (s : State) (l : Nat) : Bool :=
  s.scan.live.any fun e => mEnable e.2 && decide (mFeed e.2 % 2 = 1) && mLinkB e.2 == l

/-- TOWARD of what the device sends on a lane: 1 on a lane that feeds end B (Table 08.3). -/
def State.towardA (s : State) (l : Nat) : Bool := s.endB l

end Sys2Proof.Machine
end

