-- ==== Sys2Proof/Machine/GroupSend.lean ====
section
/-!
DEFINITION. What a device originates on its caravan groups: the groups of a topology, shedding, and QMP messages in MGMT
packets (08_sardylink.md R252, R258; 09_caravan_twins.md R263 to R265; 14_qmp_pier_ferry.md Tables 14.2, 14.3).
-/
namespace Sys2Proof.Machine

def State.nodeId (s : State) : Nat := s.rn Reg.SLK_NODE_ID

def State.topo (s : State) : Nat := s.fld Reg.SLK_TOPO 1 0

/-- The ring groups of SLK_TOPO, as group numbers (R264, Table 09.8). -/
def State.ringGroups (s : State) : List Nat :=
  if s.topo = 2 then [s.fld Reg.SLK_TOPO 3 2 - 1, s.fld Reg.SLK_TOPO 5 4 - 1] else []

/-- Groups with a member in service. -/
def State.liveGroups (s : State) : List Nat := [0, 1, 2].filter fun g => !(s.inGroup g).isEmpty

/-- A packet of a group is ready to be sent; of a class that is shed, it is counted in SLK_GRP_SHED instead (R258). -/
def State.groupSend (s : State) (g : Nat) (kind : String) (p : List Byte) : State :=
  if pkt p 1 1 / 32 < s.fld (Reg.SLK_GRP_STAT g) 18 16 then
    (s.demandAdd g (pkt p 1 1 / 32) p).bump (Reg.SLK_GRP_SHED g)
  else s.packet g kind p

/-- A MGMT or REG packet that the device originates: none while the duplicate-node fault stands (R263). -/
def State.originate (s : State) (g : Nat) (kind : String) (p : List Byte) : State :=
  if s.twin.dupNode then s else s.groupSend g kind p

/-- A QMP message (Table 14.2). -/
def qmpBytes (flags type session seq origin target status : Nat) (body : List Byte) : List Byte :=
  beBytes 2 0x514D ++ beBytes 1 1 ++ beBytes 1 flags ++ beBytes 2 type ++ beBytes 2 body.length ++ beBytes 4 session
    ++ beBytes 4 seq ++ beBytes 4 origin ++ beBytes 4 target ++ beBytes 1 status ++ List.replicate 7 0#8 ++ body

/-- The next SEQ of the device's own messages between devices (R270). -/
def State.ownSeq (s : State) : Nat × State :=
  let q := (s.ferry.relaySeq + 1) % 2 ^ 32
  (q, { s with ferry := { s.ferry with relaySeq := q } })

/-- A message of a device-internal type, 0x00A0 and a code (Table 14.3), to the twin on the heartbeat group (R67, R163, R284,
R395): its body is the device's own affair; here each field takes 8 bytes (DESIGN CHOICE, log entry 208). -/
def State.twinSend (s : State) (kind : String) (code : Nat) (fields : List Nat) : State :=
  let g := s.fld Reg.TWIN_CFG 2 1
  let peer := s.rn Reg.TWIN_PEER
  if g = 0 ∨ peer = 0 then s
  else
    let (q, s) := s.ownSeq
    s.originate (g - 1) kind (mgmtPacket 0 s.nodeId peer
      (qmpBytes 0 (0xA0 + code) 0 q s.nodeId peer 0 (fields.flatMap (beBytes 8))))

end Sys2Proof.Machine
end

