-- ==== Sys2Proof/Machine/TimeOps.lean ====
section
/-!
DEFINITION. Ledger, servo, step and snapshot operations (02_ledger_time.md, R40 to R77, R545).
-/
namespace Sys2Proof.Machine

/-! ### Servo registers -/

/-- The code of a servo state (Table 02.3). -/
def servoCode : ServoState → Nat
  | .free => 0
  | .acquire => 1
  | .locked => 2
  | .holdover => 3
  | .slew => 4

/-- TIME_SERVO_STAT and TIME_FREQ_ADJ follow the servo. -/
def State.servoSettle (s : State) : State :=
  (s.wn Reg.TIME_SERVO_STAT (servoCode s.time.servo + 8 * s.time.source + 128 * s.time.stepPending.toNat
    + 256 * s.time.armed.toNat)).wn Reg.TIME_FREQ_ADJ (unsigned 32 s.time.adj)

/-- A new addend: at once before ARMED, at the next frame boundary after (R46). -/
def State.setAdj (s : State) (a : Int) : State :=
  if s.time.armed then { s with time := { s.time with adjNext := some a } }
  else { s with time := { s.time with adj := a } }

/-- TIME_STEP (R61, R62). -/
def State.setStep (s : State) (d : Int) : State :=
  ({ s with time := { s.time with stepDelta := d } }).setPair Reg.TIME_STEP (unsigned 64 d)

/-- The ledger moved by d ns (R61, R65, R66); time-transfer exchanges under way are discarded (R248). -/
def State.stepLedger (s : State) (d : Int) : State :=
  if d = 0 then s
  else
    let s := { s with time := { s.time with led := ((s.time.led : Int) + d * (ledNs : Nat)).toNat } }
    s.slk.timeLinks.foldl (fun s e => s.dropExchanges e.1) s

/-- A time in units of 2⁻¹⁶ ns: the ledger now. -/
def State.now16 (s : State) : Int := ((s.ns * 65536 + s.frac : Nat) : Int)

/-! ### Sources (R44) -/

def State.srcCount (s : State) (c : Nat) : Nat := tabGetD s.time.counts c 0

/-- A group is block-locked: a member in service holds block lock. -/
def State.groupLocked (s : State) (g : Nat) : Bool :=
  (List.range 24).any fun l =>
    s.fld (Reg.LANE_CFG l) 2 0 == g + 2 && bit (s.rn (Reg.LANE_STATE l)) 9 && bit (s.rn (Reg.LANE_STATE l)) 13

def State.ptpPort (s : State) (p : Nat) : PtpPort := tabGetD s.time.ports p {}
def State.modPort (s : State) (p : Nat) (f : PtpPort → PtpPort) : State :=
  { s with time := { s.time with ports := tabMod s.time.ports p {} f } }

/-- MODE of a port. -/
def State.portMode (s : State) (p : Nat) : Nat := s.fld (Reg.TIME_PORT_CTRL p) 2 0

/-- Whether a source of Table 02.4 is qualified: 1 to 4 PTP, 6 to 8 a caravan group. -/
def State.qualified (s : State) (c : Nat) : Bool :=
  if 1 ≤ c ∧ c ≤ 4 then (s.ptpPort (c - 1)).role == .slave && decide (16 ≤ s.srcCount c)
  else if 6 ≤ c ∧ c ≤ 8 then s.groupLocked (c - 6) && decide (16 ≤ s.srcCount c)
  else false

/-- The group of code 9: the fewest hops to a time root, then the lower upstream node ID (R44). -/
def State.bestGroup (s : State) : Nat :=
  let better := fun (a b : Nat) =>
    let x := tabGetD s.time.upstream a (65535, 0, 0)
    let y := tabGetD s.time.upstream b (65535, 0, 0)
    decide (x.1 < y.1) || (x.1 == y.1 && decide (x.2.1 < y.2.1))
  ([6, 7, 8].filter s.qualified).foldl (fun a c => if a = 0 ∨ better c a then c else a) 0

/-- The source the servo selects: the highest-ranked qualified one (R44); 0 for none. -/
def State.selectSource (s : State) : Nat :=
  let r := s.rn Reg.TIME_SRC_RANK
  let codes := ((List.range 4).map fun i => bits r (4 * i + 3) (4 * i)).takeWhile (· != 0)
  ((codes.map fun c => if c = 9 then s.bestGroup else if s.qualified c then c else 0).find? (· != 0)).getD 0

/-- The threshold of LOCKED: 100 ns for PTP, 10 ns for a caravan (Table 02.5). -/
def lockLimit (c : Nat) : Nat := if c ≤ 5 then 100 else 10

/-- 10 ppm in units of 2⁻¹² ppb. -/
def ppm10 : Int := 40960000

/-- The servo's tracking adjustment, a free value kept within 10 ppm of the reference rate once ARMED (R46; log
entry 10). -/
def State.track (s : State) : State :=
  let a := Config.servoAdjust s.fresh
  let a := if s.time.armed then clampI (s.time.refRate - ppm10) (s.time.refRate + ppm10) a else a
  ({ s with fresh := s.fresh + 1 }).setAdj a

/-- A source's offset enters the servo (R61 to R64, Table 02.5). -/
def State.servoOffset (s : State) (c : Nat) (off ref : Int) : State :=
  let thr : Int := (s.rn Reg.TIME_JUMP_THR : Nat)
  let s := { s with time := { s.time with lastOffset := off, refRate := ref } }
  let s := s.wn Reg.TIME_OFFSET (unsigned 32 (clampI (-2147483647) 2147483647 off))
  let near := decide (off.natAbs ≤ lockLimit c)
  let s := { s with time := { s.time with inLock := if near then s.time.inLock + 1 else 0 } }
  let inside := decide ((off.natAbs : Int) ≤ thr)
  if !s.time.armed then
    let s := (s.stepLedger off).setAdj ref
    let s := { s with time := { s.time with
      servo := if 16 ≤ s.time.inLock then .locked else if s.time.servo = .locked ∧ near then .locked else .acquire } }
    if s.time.servo = .locked then s.condClear 32 0 else s
  else if s.time.stepAt.isSome then s.setAdj ref
  else if s.time.stepPending then
    if inside then
      (((({ s with time := { s.time with stepPending := false, servo := .locked, overThr := 0 } }).setStep 0).condClear 33 0).condClear
        32 0).track
    else (s.setStep off).setAdj (if 0 ≤ off then ref + ppm10 else ref - ppm10)
  else if inside then
    let s := { s with time := { s.time with overThr := 0 } }
    let s := s.condClear 33 0
    let lock := s.time.servo == .slew || decide (16 ≤ s.time.inLock) || s.time.servo == .locked
    let s := { s with time := { s.time with servo := if lock then .locked else .acquire } }
    let s := if s.time.servo = .locked then s.condClear 32 0 else s
    let s := s.track
    if s.time.servo = .locked then
      { s with time := { s.time with
          lockHist := ((s.clk, s.time.adjNext.getD s.time.adj) :: s.time.lockHist).filter
            fun e => decide (s.clk ≤ e.1 + sec 16) } }
    else s
  else
    let n := s.time.overThr + 1
    let s := { s with time := { s.time with overThr := n } }
    if 4 ≤ n then
      let s := { s with time := { s.time with stepPending := true, servo := .slew, overThr := 0 } }
      let s := (s.setStep off).raiseOnce 33 0 (unsigned 32 off)
      let s := s.notify 0x50 0 0 [unsigned 64 off]
      s.setAdj (if 0 ≤ off then ref + ppm10 else ref - ppm10)
    else if s.time.servo = .slew then s.setAdj (if 0 ≤ off then ref + ppm10 else ref - ppm10)
    else s.track

/-- The servo takes up the selected source; a change starts from ACQUIRE without HOLDOVER (R44, R45). -/
def State.takeSource (s : State) : State :=
  let c := s.selectSource
  if c = 0 ∨ c = s.time.source then s else
    { s with time := { s.time with
        source := c, inLock := 0, overThr := 0, holdSince := none, qualAt := s.time.qualAt <|> some s.clk
        servo := if s.time.stepPending ∨ s.time.stepAt.isSome then s.time.servo else .acquire } }

/-- A completed measurement of a source counted (R44). -/
def State.counted (s : State) (c : Nat) : State :=
  { s with time := { s.time with counts := tabSet s.time.counts c (s.srcCount c + 1) } }

/-- One completed measurement of a source (R44, R61): counted; from the selected source it enters the servo. -/
def State.measure (s : State) (c : Nat) (off ref : Int) : State :=
  let s := (s.counted c).takeSource
  (if s.time.source = c then s.servoOffset c off ref else s).servoSettle

/-- The mean adjustment of the last 16 s in LOCKED (Table 02.5); the present one when there is none. -/
def State.meanAdj (s : State) : Int :=
  let h := s.time.lockHist.filter fun e => decide (s.clk ≤ e.1 + sec 16)
  if h.isEmpty then s.time.adj else (h.foldl (fun a e => a + e.2) 0) / (h.length : Int)

/-- The servo enters HOLDOVER (R47, R545). -/
def State.holdover (s : State) : State :=
  let s := s.setAdj s.meanAdj
  let s := { s with time := { s.time with servo := .holdover, source := 0, holdSince := some s.clk, inLock := 0 } }
  let s := if s.time.stepPending ∧ s.time.stepAt.isNone then
      (({ s with time := { s.time with stepPending := false } }).setStep 0).condClear 33 0
    else s
  s.raiseOnce 32 0

/-- A source can no longer be measured (R44, R45): its count restarts, and when it is the selected one the servo goes to
another or to HOLDOVER. -/
def State.timeSourceGone (s : State) (c : Nat) : State :=
  let s := { s with time := { s.time with counts := tabErase s.time.counts c, upstream := tabErase s.time.upstream c } }
  let s := if s.time.source == c && c != 0 then
      if s.selectSource != 0 then s.takeSource
      else if s.time.servo == .free then { s with time := { s.time with source := 0 } }
      else s.holdover
    else s
  s.servoSettle

/-- A port takes a role; one that leaves the slave state is measured no more, and one that enters it counts its Sync
timeout from now (R44, R45). -/
def State.setRole (s : State) (p : Nat) (r : PtpRole) : State :=
  let was := (s.ptpPort p).role
  if r = was then s
  else
    let s := s.modPort p fun x =>
      { x with role := r, lastSync := (if r = .slave then s.clk else x.lastSync), mpd := none, reqStamp := none }
    if was = .slave then s.timeSourceGone (p + 1) else s

/-- A time in clocks of 2ᵏ s, k the signed value of a 4-bit interval field (Table 02.7). -/
def logClocks (f : Nat) : Nat :=
  let k := signed 4 f
  if 0 ≤ k then sec 1 * 2 ^ k.toNat else sec 1 / 2 ^ (-k).toNat

/-- A port's announce receipt timeout has expired: ANN_TIMEOUT Announce intervals without one from its best master. -/
def State.announceExpired (s : State) (p : Nat) : Bool :=
  let c := Reg.TIME_PORT_CTRL p
  s.elapsed (s.ptpPort p).lastAnnounce (s.fld c 26 24 * logClocks (s.fld c 19 16))

/-- A source is lost (R45): a PTP one, of a port in the slave state, when its announce receipt timeout expires or no Sync has
come for 1 s; a caravan one when its group loses block lock or no exchange has completed for 10 ms. A master-capable port
that hears no master becomes master (R50; log entry 13). -/
def State.sourceLost (s : State) (c : Nat) : State :=
  if 1 ≤ c ∧ c ≤ 4 then
    let p := c - 1
    let x := s.ptpPort p
    let silent := s.announceExpired p
    if silent && s.portMode p == 2 && (x.role == .slave || x.role == .passive || x.role == .listening) then
      (s.modPort p fun x => { x with best := none, announces := 0 }).setRole p .master
    else if x.role == .slave && (silent || s.elapsed x.lastSync (sec 1)) then
      (s.modPort p fun x => { x with best := none, announces := 0 }).setRole p .listening
    else s
  else if 6 ≤ c ∧ c ≤ 8 then
    let done := (tabGetD s.slk.timeLinks (c - 6) {}).lastDone
    if s.groupLocked (c - 6) && done.any (fun t => !s.elapsed t (ms 10)) then s else s.timeSourceGone c
  else s

/-! ### Steps -/

/-- The first tally whose frame boundary is at or after a ledger time (R42). -/
def firstTally (c ns : Nat) : Nat := if ns = 0 then 0 else tallyOf c (ns - 1) + 1

/-- A step fixed at a tally (R63, R67): slewing stops and the step is announced to the twin; every TIME packet carries it
until then (R251). -/
def State.fixStep (s : State) (d : Int) (n : Nat) : State :=
  let s := { s with time := { s.time with stepPending := true, stepAt := some n, lastStep := some (n % 2 ^ 32, d) } }
  let s := (s.setStep d).setAdj s.time.refRate
  (if bit (s.rn Reg.TWIN_CFG) 0 then s.twinSend "TWIN_STEP" 1 [n, unsigned 64 d] else s).servoSettle

/-- An accept (R63): answered with the effective tally, 0 when nothing is pending. -/
def State.stepAccept (s : State) : State × Nat :=
  if !s.time.stepPending then (s, 0)
  else match s.time.stepAt with
    | some n => (s, n)
    | none =>
      let n := firstTally s.rate (s.ns + 1000000)
      (s.fixStep s.time.stepDelta n, n)

/-- A reject (R64): answered with tally 0. -/
def State.stepReject (s : State) : State :=
  if s.time.stepPending ∧ s.time.stepAt.isNone then
    ((({ s with time := { s.time with stepPending := false, overThr := 0 } }).setStep 0).condClear 33 0).servoSettle
  else s

/-! ### Snapshots -/

/-- TIME_SNAP_STAT (Table 02.14). -/
def State.snapSettle (s : State) : State :=
  let n := s.time.snaps.length
  let further := if s.time.snapState = 1 then n - 1 else min 3 n
  s.wn Reg.TIME_SNAP_STAT (s.time.snapId + 65536 * s.time.snapState + 2 ^ 18 * further
    + 2 ^ 20 * min 4095 s.time.tilesMissed)

/-- A snapshot inserted in time order. -/
def snapInsert (a : SnapArm) : List SnapArm → List SnapArm
  | [] => [a]
  | b :: bs => if a.atNs < b.atNs then a :: b :: bs else b :: snapInsert a bs

/-- A snapshot armed, or refused (R77); sent to tiles on request. True when armed. -/
def State.snapArm (s : State) (id at64 : Nat) (tiles caravan : Bool) : State × Bool :=
  let t := ofLedger at64
  let lead := if caravan then 10000000 else 2000000
  if id = 0 ∨ ledgerOk at64 = false ∨ t < s.ns + lead ∨ 4 ≤ s.time.snaps.length then
    (({ s with time := { s.time with snapState := 3 } }).snapSettle, false)
  else
    let s := { s with time := { s.time with snaps := snapInsert ⟨id, t, tiles, caravan⟩ s.time.snaps, snapState := 1 } }
    let s := if tiles then
        ((List.range 24).filter fun l => s.fld (Reg.LANE_CFG l) 2 0 == 5 && s.fld (Reg.LANE_STATE l) 3 0 == 5).foldl
          (fun s l => s.packet (8 + l) "SNAP" (snapPacket (s.towardA l) id at64)) s
      else s
    (s.snapSettle, true)

/-- Whether an address is a word of a counter (R10, R75). -/
def isCounter (a : Nat) : Bool :=
  match regDesc? a with
  | some d => d.ctr
  | none => false

/-! ### Ports -/

/-- TIME_PORT_CTRL is valid for its port (R52, Table 02.7). R52 names MODE and the PTP intervals; a DOMAIN above 127 or an
ANN_TIMEOUT below 2 is taken as a field out of range in the same way (DESIGN CHOICE, log entry 214). -/
def portCtrlOk (p v : Nat) : Bool :=
  let m := bits v 2 0
  let in4 := fun (hi lo : Nat) (a b : Int) => decide (a ≤ signed 4 (bits v hi lo) ∧ signed 4 (bits v hi lo) ≤ b)
  (m == 0 || (decide (1 ≤ m ∧ m ≤ 3) && decide (p ≤ 3)) || m == 4 || (m == 5 && decide (5 ≤ p)))
    && decide (bits v 11 4 ≤ 127) && in4 15 12 (-7) (-1) && in4 19 16 (-3) 1 && in4 23 20 (-7) (-1)
    && decide (2 ≤ bits v 26 24)

/-- Whether data set a is better than b in the order of the default best master clock algorithm (R49). -/
def dsBetter (a b : PtpDataset) : Bool :=
  let k := fun (d : PtpDataset) =>
    [d.priority1, d.clockClass, d.accuracy, d.variance, d.priority2, d.identity, d.steps, d.sender]
  decide (k a < k b)

/-- A receive stamp at the line: the ledger and TIME_PORT_RXLAT (R53), units of 2⁻¹⁶ ns. -/
def State.rxStamp (s : State) (p : Nat) : Int := s.now16 + (s.rn (Reg.TIME_PORT_RXLAT p) : Nat)

/-- A transmit stamp at the line (R53). -/
def State.txStamp (s : State) (p : Nat) : Int := s.now16 + (s.rn (Reg.TIME_PORT_TXLAT p) : Nat)

/-- An offset measured on a PTP port once the delay is known (R55): reference minus ledger, in ns. -/
def State.ptpMeasure (s : State) (p : Nat) (t1 t2 : Int) : State :=
  match (s.ptpPort p).mpd with
  | some d =>
    let asym := signed 32 (s.rn (Reg.TIME_PORT_ASYM p))
    s.measure (p + 1) ((t1 + d + asym - t2) / 65536) s.time.refRate
  | none => s

/-! ### Queues of stamps -/

/-- An entry enters a receive queue of 64 (R57 to R60); readNow says that a read frees the head in the same clock. -/
def State.rxqPush (s : State) (p seqId domain msgType : Nat) (readNow : Bool) : State :=
  let q := tabGetD s.time.rxq p {}
  let q := if readNow then { q with entries := q.entries.tail } else q
  if q.entries.length < 64 then
    let t := s.rxStamp p
    let e : RxEntry := { stamp := toLedger (t / 65536).toNat, fraction := (t % 65536).toNat, lost := min 255 q.lostRun
                         gap := decide (0 < q.lostRun), seqId := seqId, domain := domain, msgType := msgType }
    { s with time := { s.time with rxq := tabSet s.time.rxq p { entries := q.entries ++ [e], lostRun := 0 } } }
  else
    let s := { s with time := { s.time with rxq := tabSet s.time.rxq p { q with lostRun := q.lostRun + 1 } } }
    s.wn (Reg.TIME_RXQ_DROP p) (min (s.rn (Reg.TIME_RXQ_DROP p) + 1) (2 ^ 32 - 1))

/-- Words W0 to W3 of the head entry; zeros when the queue is empty or the engine consumes it (R57, R58). -/
def State.rxqWords (s : State) (p : Nat) : List Nat :=
  match s.portMode p == 4, (tabGetD s.time.rxq p {}).entries with
  | true, e :: _ =>
    [e.stamp % 2 ^ 32, e.stamp / 2 ^ 32, e.fraction + 65536 * e.lost + 2 ^ 31 * e.gap.toNat,
     e.seqId + 65536 * e.domain + 2 ^ 24 * e.msgType + 2 ^ 31]
  | _, _ => [0, 0, 0, 0]

/-- The head entry removed (R58). -/
def State.rxqPop (s : State) (p : Nat) : State :=
  if s.portMode p = 4 then
    let q := tabGetD s.time.rxq p {}
    { s with time := { s.time with rxq := tabSet s.time.rxq p { q with entries := q.entries.tail } } }
  else s

def State.tpin (s : State) (k : Nat) : Tpin := tabGetD s.time.pins k {}
def State.modTpin (s : State) (k : Nat) (f : Tpin → Tpin) : State :=
  { s with time := { s.time with pins := tabMod s.time.pins k {} f } }

/-- TIME_TPIN_CAP_STAT (Table 02.12). -/
def State.capStat (s : State) (k : Nat) : Nat :=
  let p := s.tpin k
  p.caps.length + (match p.caps with
    | c :: _ => 32 + 64 * c.gap.toNat + 128 * c.lost
    | [] => 0) + 32768 * p.missed.toNat

/-- The head capture as a ledger value; 0 when there is none. -/
def State.capHead (s : State) (k : Nat) : Nat :=
  match (s.tpin k).caps with
  | c :: _ => c.stamp
  | [] => 0

/-! ### Timecode -/

/-- Two BCD digits, and the BCD of a number below 100. -/
def ofBcd (b : Nat) : Nat := b / 16 * 10 + b % 16
def toBcd (n : Nat) : Nat := n / 10 * 16 + n % 10

/-- Frames per second counted by an LTC rate code (R72), and whether it drops frames. -/
def ltcFps (r : Nat) : Nat := [24, 24, 25, 30, 30, 30].getD r 30
def ltcNum (r : Nat) : Nat := [24, 24, 25, 30000, 30000, 30].getD r 30
def ltcDen (r : Nat) : Nat := if r = 3 ∨ r = 4 then 1001 else 1

/-- The frame count of a timecode since 00:00:00:00 (SMPTE ST 12-1; drop-frame leaves out frames 0 and 1 of each minute
but every tenth). -/
def tcFrames (r code : Nat) : Nat :=
  let f := ofBcd (bits code 7 0)
  let sc := ofBcd (bits code 15 8)
  let m := ofBcd (bits code 23 16) + 60 * ofBcd (bits code 31 24)
  let n := (m * 60 + sc) * ltcFps r + f
  if r = 3 then n - 2 * (m - m / 10) else n

/-- Frames in a day of timecode. -/
def tcDay (r : Nat) : Nat := if r = 3 then 2589408 else 86400 * ltcFps r

/-- Whether a timecode names a frame that exists at its rate. -/
def tcValid (r code : Nat) : Bool :=
  let f := ofBcd (bits code 7 0)
  let sc := ofBcd (bits code 15 8)
  let m := ofBcd (bits code 23 16)
  (List.range 8).all (fun i => decide (bits code (4 * i + 3) (4 * i) ≤ 9))
    && decide (f < ltcFps r) && decide (sc < 60) && decide (m < 60) && decide (ofBcd (bits code 31 24) < 24)
    && !(r == 3 && sc == 0 && decide (f < 2) && m % 10 != 0)

/-- The LTC rate divides the ledger frame rate (TIME_LTC_STAT.MISMATCH). -/
def State.ltcDivides (s : State) (r : Nat) : Bool :=
  (rateNum s.rate * ltcDen r) % (rateDen s.rate * ltcNum r) == 0

end Sys2Proof.Machine
end

