-- ==== Sys2Proof/Machine/SlkOps.lean ====
section
/-!
DEFINITION. Operations of Sardylink links and caravans: CRC accounting, time transfer, credits, routes, forwarding and
duplicates (08_sardylink.md, 09_caravan_twins.md R262 to R270).
-/
namespace Sys2Proof.Machine

/-- The key of a link: the group's number, or 8 and the lane's. -/
def linkKey : Link → Nat
  | .group g => g.val
  | .lane l => 8 + l.val
  | .tile k p => 64 + 2 * k + p.toNat

/-- Node ID of a unique device ID (R262). -/
def nodeOfUid (uid : List Byte) : Nat :=
  let c := (crc32c uid).toNat
  if c = 0 then 1 else if c = 0xFFFFFFFF then 0xFFFFFFFE else c

/-- A raised fault whose recovery condition is met after a time. -/
def State.raiseFor (s : State) (d i info dur : Nat) : State :=
  let s := s.raise d i info
  let x := s.fltInst d i
  if x.standing then s.setFltInst d i { x with cond := false, quietFrom := s.clk + dur } else s

/-- The lane on which a link's CRC failures are counted: member 0 for a group (Table 08.19). -/
def State.crcLane (s : State) (l : Nat) : Nat :=
  if s.groupOf l < 3 then ((s.members (s.groupOf l)).head?).getD l else l

/-- A packet fails its CRC (R230, Table 08.21): counted, with the link CRC and link errors faults. -/
def State.crcFail (s : State) (l : Nat) : State :=
  let l := s.crcLane l
  let s := (s.bump (Reg.SLK_LANE_CRC_ERR l)).raiseSec 128 l
  let fails := (s.clk :: tabGetD s.slk.crc l []).take 100
  let s := { s with slk := { s.slk with crc := tabSet s.slk.crc l fails } }
  let s := if fails.length = 100 ∧ fails.all (fun c => !s.elapsed c (sec 1)) then s.raiseOnce 129 l 100 else s
  let x := s.fltInst 129 l
  if x.standing then s.setFltInst 129 l { x with cond := false, quietFrom := s.clk + sec 1 } else s

/-! ### Routes -/

/-- A route is learned from a MGMT or REG packet (R269): on the same group the fewest hops are kept and the entry is
refreshed; on another group a route as short or shorter replaces it; with 65,536 entries the least recently refreshed one is replaced. -/
def State.learnRoute (s : State) (g hops node : Nat) : State :=
  if node = s.nodeId then s else
  let new : Route := ⟨node, g, hops + 1, s.clk⟩
  let rs := s.twin.routes
  let rs := match rs.find? (·.node == node) with
    | some r =>
      if r.group = g then
        { new with hops := min r.hops (hops + 1) } :: rs.filter (·.node != node)
      else if hops + 1 ≤ r.hops then new :: rs.filter (·.node != node) else rs
    | none => if rs.length < 65536 then new :: rs else
        let old := rs.foldl (fun m r => min m r.refreshed) s.clk
        match rs.find? (·.refreshed == old) with
        | some r => new :: rs.erase r
        | none => rs
  ({ s with twin := { s.twin with routes := rs } }).wn Reg.SLK_ROUTE_COUNT rs.length

/-- The ring groups onto which a packet that arrived on a group goes on: the other one; none from a group that is not of the
ring (R264, R265). -/
def State.ringOnward (s : State) (arrival : Nat) : List Nat :=
  if s.ringGroups.contains arrival then s.ringGroups.filter (· != arrival) else []

/-- The ring groups on which the device's own packet for a node leaves: both, or the one to a neighbour that the node is, by
the SENDER of its TIME packets (R265). -/
def State.ringOwn (s : State) (dest : Nat) : List Nat :=
  let near := s.ringGroups.filter fun g => s.liveGroups.contains g && (tabGetD s.slk.timeLinks g {}).peer == dest
  if near.isEmpty then s.ringGroups else near

/-- Groups on which a MGMT or REG packet for a node leaves; none arrived on is `3`. Ring rules under R265; routes under
R268. -/
def State.outGroups (s : State) (arrival dest : Nat) : List Nat :=
  if s.topo = 2 then (if arrival < 3 then s.ringOnward arrival else s.ringOwn dest)
  else if dest = 0xFFFFFFFF then s.liveGroups.filter (· != arrival)
  else match s.twin.routes.find? (·.node == dest) with
    | some r => if r.group = arrival then [] else [r.group]
    | none => []

/-- Whether a key was acted on within 10 ms (R270), and the list with the key entered. -/
def seenKey (l : List ((Nat × Nat) × Nat)) (clk : Nat) (k : Nat × Nat) : Bool × List ((Nat × Nat) × Nat) :=
  let l := l.filter fun e => decide (clk < e.2 + ms 10)
  (l.any (·.1 == k), if l.any (·.1 == k) then l else (k, clk) :: l)

/-! ### Time transfer -/

def State.timeLink (s : State) (k : Nat) : TimeLink := tabGetD s.slk.timeLinks k {}
def State.setTimeLink (s : State) (k : Nat) (t : TimeLink) : State :=
  { s with slk := { s.slk with timeLinks := tabSet s.slk.timeLinks k t } }

/-- The device is a time root: its selected source is no caravan group (R44). -/
def State.timeRoot (s : State) : Bool := !(decide (6 ≤ s.time.source ∧ s.time.source ≤ 8))

/-- The device's time root (R251): hops to it and its node ID. -/
def State.root (s : State) : Nat × Nat :=
  if s.timeRoot then (0, s.nodeId)
  else
    let u := tabGetD s.time.upstream s.time.source (0, 0, 0)
    (u.1 + 1, u.2.2)

/-- The transmit and receive stamps of a link's TIME packets: latencies of the group's port (R53); none for a tile
lane. -/
def State.linkTxStamp (s : State) (k : Nat) : Int := if k < 3 then s.txStamp (5 + k) else s.now16
def State.linkRxStamp (s : State) (k : Nat) : Int := if k < 3 then s.rxStamp (5 + k) else s.now16

/-- The tile and port of a link key, if it names one. -/
def State.tileOfLink (s : State) (k : Nat) : Option (Nat × Bool × Tile) :=
  if k < 64 then none else (tabGet? s.tiles ((k - 64) / 2)).map fun t => ((k - 64) / 2, k % 2 == 1, t)

/-- A tile's TIME_LOCKED: 16 offsets in succession within ±25 ns (R250). -/
def Tile.locked (t : Tile) : Bool := decide (16 ≤ t.inLock)

/-- The port whose end a tile follows: its A port while that port's exchanges complete with LOCKED set, else its B port
(R250). An exchange is complete within 10 ms (R248). -/
def Tile.follows (t : Tile) (clk : Nat) : Bool :=
  if ((if t.aPort then t.p1 else t.p0).exchanged).any (fun c => decide (clk ≤ c + ms 10)) then t.aPort else !t.aPort

/-- The TIME packet of a link (Table 08.14), with its stamp t3 and the step announcement of R251; a tile's has SENDER 0. -/
def State.timeFields (s : State) (k seq : Nat) (t3 : Int) (last : Option (Nat × Int × Int)) : TimePacket :=
  let tile := s.tileOfLink k
  let r := if k < 64 then s.root else (0, 0)
  { txStamp := t3, seq := seq, echoSeq := (last.map (·.1)).getD 0, echoRx := (last.map (·.2.2)).getD 0
    echoValid := last.isSome
    locked := (match tile with
      | some (_, _, x) => x.locked
      | none => s.time.servo == .locked || s.timeRoot)
    root := decide (k < 64) && s.timeRoot
    stepValid := decide (k < 64) && s.time.stepAt.isSome
    sender := if k < 64 then s.nodeId else 0
    rootNode := r.2, rootHops := r.1
    stepTally := if k < 64 then (s.time.stepAt.getD 0) % 2 ^ 32 else 0
    stepNs := if k < 64 ∧ s.time.stepAt.isSome then s.time.stepDelta else 0 }

/-- A TIME packet leaves (R248); its stamp is that of its own departure, after what is being sent. -/
def State.timeSend (s : State) (k : Nat) : State :=
  let t := s.timeLink k
  let seq := (t.seq + 1) % 65536
  let t3 := (s.advance (s.txWait k 7)).linkTxStamp k
  let echo := match t.last with
    | some (_, a, b) => [(seq, a, b)]
    | none => []
  let p := s.timeFields k seq t3 t.last
  let toward := if k < 64 then s.towardA (k - 8) else (match s.tileOfLink k with
    | some (_, port, x) => port == x.aPort
    | none => false)
  (s.setTimeLink k
    { t with
      seq := seq
      sent := (seq, t3, s.clk) :: t.sent.filter fun e => decide (s.clk ≤ e.2.2 + ms 10)
      got := echo ++ t.got.take 127 }).packet k "TIME" (timePacket (decide (3 ≤ k)) (decide (3 ≤ k) && toward) p)

/-- A step announced by the upstream device or the twin (R67, R251), other than the one last announced: adopted for its tally, or, when that tally has
begun, for the next frame boundary with a late-step fault that recovers after 1 s. -/
def State.adoptStep (s : State) (g tally32 : Nat) (d : Int) : State :=
  if s.time.stepAt.isSome ∨ s.time.lastStep = some (tally32, d) then s else
  let cur := s.tally
  let diff := signed 32 (tally32 + 2 ^ 32 - cur % 2 ^ 32)
  let n := ((cur : Int) + diff).toNat
  let s := if s.tp n ≤ s.ns then (s.raiseFor 132 g 0 (sec 1)).fixStep d (cur + 1) else s.fixStep d n
  { s with time := { s.time with lastStep := some (tally32, d) } }

/-- The exchange that a TIME packet completes (R248, R249): t1, t2, t3 and t4; none when it echoes no packet sent within
10 ms, or the partner's ledger has stepped since t2. -/
def State.exchange (s : State) (t : TimeLink) (p : TimePacket) : Option (Int × Int × Int × Int) :=
  let sent := t.sent.find? fun e => e.1 == p.echoSeq && decide (s.clk ≤ e.2.2 + ms 10)
  let echoed := t.got.find? fun e => e.1 == p.echoSeq
  match p.echoValid, sent, echoed with
  | true, some (_, t3, _), some (_, t1, t2) =>
    if t.peerStep.any (fun b => decide (t2 < (b : Int) * 65536 ∧ b ≤ s.ns)) then none else some (t1, t2, t3, p.echoRx)
  | _, _, _ => none

/-- An offset at a tile (R250): what its own copy of the ledger is off by is not stated (log entry 206). -/
def State.tileOffset (s : State) (k : Nat) (p : TimePacket) : State :=
  match s.tileOfLink k with
  | none => s
  | some (i, port, x) =>
    let q := { (if port then x.p1 else x.p0) with exchanged := if p.locked then some s.clk else none }
    let x := if port then { x with p1 := q } else { x with p0 := q }
    let (v, s) := s.draw
    let e := signed 32 v
    let x := if x.follows s.clk = port then
        { x with timeErr := e, inLock := if -25 ≤ e ∧ e ≤ 25 then x.inLock + 1 else 0 } else x
    { s with tiles := tabSet s.tiles i x }

/-- A TIME packet arrives (R249): its exchange completes when it echoes a packet sent within 10 ms, and yields θ, d and
a servo measurement on a caravan group whose port is in MODE 5, or an offset at a tile. -/
def State.timeReceive (s : State) (k : Nat) (p : TimePacket) : State :=
  let t := s.timeLink k
  let rx := s.linkRxStamp k
  let cur := s.tally
  let at_ := ((cur : Int) + signed 32 (p.stepTally + 2 ^ 32 - cur % 2 ^ 32)).toNat
  let t := { t with peerStep := if p.stepValid then some (s.tp at_) else t.peerStep }
  let done := s.exchange t p
  let s := s.setTimeLink k { t with last := some (p.seq, p.txStamp, rx), peer := p.sender, peerLocked := p.locked }
  let s := if k < 3 then
      { s with time := { s.time with
        upstream := tabSet s.time.upstream (6 + k) (p.rootHops, p.sender, p.rootNode) } } else s
  let s := match done with
    | some (t1, t2, t3, t4) =>
      let asym := if k < 3 then signed 32 (s.rn (Reg.TIME_PORT_ASYM (5 + k))) else 0
      let th := ((t4 - t3) - (t2 - t1)) / 2 + asym
      let d := ((t2 - t1) + (t4 - t3)) / 2
      let s := s.setTimeLink k { s.timeLink k with lastDone := some s.clk }
      if k < 3 then
        let s := (s.wn (Reg.SLK_GRP_MPD k) (unsigned 32 d)).wn (Reg.TIME_PORT_MPD (5 + k)) (unsigned 32 d)
        if s.portMode (5 + k) = 5 then s.measure (6 + k) (roundDivI th 65536) s.time.refRate else s
      else if 64 ≤ k then s.tileOffset k p else s
    | none => if p.echoValid && decide (k < 3) then s.measureBroken (6 + k) else s
  if p.stepValid && decide (k < 3) && s.time.source == 6 + k then s.adoptStep k p.stepTally p.stepNs else s

/-! ### Credits of REG packets (R245) -/

def State.credit (s : State) (k : Nat) : Credits := tabGetD s.slk.credits k {}
def State.modCredit (s : State) (k : Nat) (f : Credits → Credits) : State :=
  { s with slk := { s.slk with credits := tabMod s.slk.credits k {} f } }

/-- Whether the partner of a link accepts one more REG packet: a request or a response. -/
def State.hasCredit (s : State) (k : Nat) (isReq : Bool) : Bool :=
  let c := s.credit k
  let d := if isReq then (c.reqLimit + 65536 - c.reqSent % 65536) % 65536
    else (c.rspLimit + 65536 - c.rspSent % 65536) % 65536
  decide (1 ≤ d ∧ d ≤ 32767)

/-- Whether a request may leave on a link now: a credit is left, and none waits for one. -/
def State.reqCredit (s : State) (k : Nat) : Bool := s.hasCredit k true && !s.slk.regWait.any fun w => w.1 == k && w.2.1

def State.useCredit (s : State) (k : Nat) (isReq : Bool) : State :=
  s.modCredit k fun c =>
    if isReq then { c with reqSent := (c.reqSent + 1) % 65536 } else { c with rspSent := (c.rspSent + 1) % 65536 }

/-- A packet is ready to be sent on a link of either kind. -/
def State.linkSend (s : State) (k : Nat) (kind : String) (p : List Byte) : State :=
  if k < 3 then s.groupSend k kind p else s.packet k kind p

/-- A REG packet leaves on a link, or waits for a credit behind those of its kind that wait (R245). -/
def State.regOut (s : State) (k : Nat) (isReq : Bool) (kind : String) (p : List Byte) : State :=
  if s.hasCredit k isReq && !(s.slk.regWait.any fun w => w.1 == k && w.2.1 == isReq) then
    (s.useCredit k isReq).linkSend k kind p
  else { s with slk := { s.slk with regWait := s.slk.regWait ++ [(k, isReq, p)] } }

/-- The name of a REG packet in the record of what leaves: a request, a response of the device or of a tile. -/
def regKind (k : Nat) (isReq : Bool) : String := if isReq then "REG" else if k < 64 then "REG_RESPONSE" else "TILE_REG_RESPONSE"

/-- REG packets that waited leave as far as credits go. -/
def State.regFlush (s : State) : State :=
  let w := s.slk.regWait
  w.foldl (fun s x => s.regOut x.1 x.2.1 (regKind x.1 x.2.1) x.2.2) { s with slk := { s.slk with regWait := [] } }

/-- The CREDIT block of a link with the totals this end grants (Table 08.1): on a group in its block stream, on the next
member. -/
def State.creditSend (s : State) (k : Nat) : State :=
  let c := s.credit k
  match s.carriers k with
  | [] => s
  | ls => s.sendBlocks "CREDIT" (ls.getD ((s.linkTx k).deal % ls.length) 0)
      [controlBlock 0x66 (beBytes 2 c.grantReq ++ beBytes 2 c.grantRsp)]

/-- A REG packet has been received on a link: one more of its kind is granted, and the partner is told (R245). -/
def State.grant (s : State) (k : Nat) (isReq : Bool) : State :=
  (s.modCredit k fun c =>
    if isReq then { c with grantReq := (c.grantReq + 1) % 65536 } else { c with grantRsp := (c.grantRsp + 1) % 65536 }).creditSend k

/-! ### Stripe masks and shedding -/

/-- Classes below the answer are shed: the least k, at most 6, whose classes k to 7 fit 95 % of the capacity (R258).
Demands are in bits per second. -/
def shedBelow (members rate : Nat) (demand : List Nat) : Nat :=
  let fits := fun k => decide (((demand.drop k).foldl (· + ·) 0) * 66 * 100 ≤ 95 * members * kbaud rate * 1000 * 64)
  ((List.range 6).find? fits).getD 6

end Sys2Proof.Machine
end

