-- ==== Sys2Proof/Machine/BerthOps.lean ====
section
/-!
DEFINITION. Handles, the berth table and staging allocation (R15, R88, R90, R132, R375 to R383).
-/
namespace Sys2Proof.Machine

/-! ### Handles -/

def hKind (h : Nat) : Nat := bits h 31 28
def hGen (h : Nat) : Nat := bits h 27 12
def hIndex (h : Nat) : Nat := bits h 11 0

/-- A handle of a kind, generation and index (Table 00.6). -/
def handle (k g i : Nat) : Nat := k * 2 ^ 28 + g * 2 ^ 12 + i

/-- R15: KIND 0 or 10 to 15, or INDEX 1,024 or more. -/
def malformed (h : Nat) : Bool := decide (hKind h = 0 ∨ 10 ≤ hKind h ∨ 1024 ≤ hIndex h)

def State.berth (s : State) (i : Nat) : Berth := tabGetD s.berths.entries i {}

/-- The handle last issued at an index; 0 when never used. -/
def State.handleAt (s : State) (i : Nat) : Nat :=
  let b := s.berth i
  if b.gen = 0 then 0 else handle b.kind b.gen i

/-- A handle matches the live handle at its index (R382). -/
def State.live (s : State) (h : Nat) : Bool :=
  let b := s.berth (hIndex h)
  b.state == 1 && b.kind == hKind h && b.gen == hGen h

/-- A handle is in force for a tally: live, or destroyed with a later effective tally (R130, R132). -/
def State.inForce (s : State) (h n : Nat) : Bool :=
  let b := s.berth (hIndex h)
  b.kind == hKind h && b.gen == hGen h
    && (b.state == 1 || (b.state == 2 && (match b.endTally with
      | some e => decide (n < e)
      | none => false)))

/-- BERTH_COUNT, BERTH_FREE, BERTH_KIND_COUNT and the entry registers follow the table (Table 13.7). -/
def State.berthSettle (s : State) (i : Nat) : State :=
  let n := fun st => (s.berths.entries.filter fun e => e.2.state == st).length
  let s := (s.wn Reg.BERTH_COUNT (n 1 + 65536 * n 2)).wn Reg.BERTH_FREE (1024 - n 1 - n 2)
  let s := (List.range 9).foldl (fun s k => s.wn (Reg.BERTH_KIND_COUNT k)
    (s.berths.entries.filter fun e => e.2.state == 1 && e.2.kind == k + 1).length) s
  let b := s.berth i
  (s.wn (Reg.BERTH_ENTRY_HANDLE i) (s.handleAt i)).wn (Reg.BERTH_ENTRY_STAT i) (b.state + 4 * b.resource)

def State.setBerth (s : State) (i : Nat) (b : Berth) : State :=
  ({ s with berths := { s.berths with entries := tabSet s.berths.entries i b } }).berthSettle i

/-- The index that became free longest ago (R377): one never used, lowest first, then those freed. -/
def State.freeIndex (s : State) : Option Nat :=
  match (List.range 1024).find? fun i => (tabGet? s.berths.entries i).isNone with
  | some i => some i
  | none => s.berths.freed.head?

/-- The live berth of a kind that owns a resource. -/
def State.ownerOf (s : State) (kind resource : Nat) : Option Nat :=
  (s.berths.entries.find? fun e => e.2.state == 1 && e.2.kind == kind
    && decide (e.2.resource ≤ resource ∧ resource < e.2.resource + e.2.extent)).map (·.1)

/-- The berth of a kind that holds a resource: a live one, or one whose destroy waits for its tally. -/
def State.holderOf (s : State) (kind resource : Nat) : Option Nat :=
  (s.berths.entries.find? fun e => e.2.state != 0 && e.2.kind == kind
    && decide (e.2.resource ≤ resource ∧ resource < e.2.resource + e.2.extent)).map (·.1)

/-- Whether a resource of a kind is taken by a live berth or one pending release (R379). -/
def State.taken (s : State) (kind resource : Nat) : Bool :=
  s.berths.entries.any fun e => e.2.state != 0 && e.2.kind == kind
    && decide (e.2.resource ≤ resource ∧ resource < e.2.resource + e.2.extent)

/-- A stale berth operation, cue action or Ferry request (R382): counted, stamped and logged. -/
def State.staleDelivery (s : State) (h port : Nat) : State :=
  let s := (s.bump Reg.BERTH_STALE).setPair Reg.BERTH_STALE_AT s.now64
  let s := s.notify 0x70 0 h [h, (s.berth (hIndex h)).gen, port]
  s.logTrip { det := 224, inst := 0, info := h, port := port, gen := (s.berth (hIndex h)).gen }

/-! ### Staging -/

/-- ING_STAGE_TOTAL, ING_STAGE_FREE and COMP_PENDING_UNITS follow the allocations (R90, R132). -/
def State.stageSettle (s : State) : State :=
  let used := s.pipe.stage.foldl (fun a x => a + x.units) 0
  let pend := s.pipe.deferred.foldl (fun a d => a + d.allocs.foldl (fun b x => b + x.units) 0) 0
  ((s.wn Reg.ING_STAGE_TOTAL s.stageUnits).wn Reg.ING_STAGE_FREE (s.stageUnits - used)).wn Reg.COMP_PENDING_UNITS pend

/-- The first unit of the lowest gap of n units among allocations in rising order (first fit; DESIGN CHOICE, log
entry 16). -/
def firstGap (n total : Nat) : Nat → List StageAlloc → Option Nat
  | at_, [] => if at_ + n ≤ total then some at_ else none
  | at_, a :: as => if at_ + n ≤ a.first then some at_ else firstGap n total (a.first + a.units) as

def allocInsert (x : StageAlloc) : List StageAlloc → List StageAlloc
  | [] => [x]
  | a :: as => if x.first < a.first then x :: a :: as else a :: allocInsert x as

/-- n units of staging taken; none when they do not fit (R90). -/
def State.stageAlloc (s : State) (n : Nat) : Option (Nat × State) :=
  match firstGap n s.stageUnits 0 s.pipe.stage with
  | some f => some (f, ({ s with pipe := { s.pipe with
      stage := if n = 0 then s.pipe.stage else allocInsert ⟨f, n⟩ s.pipe.stage } }).stageSettle)
  | none => none

/-- An allocation released at once. -/
def State.stageFree (s : State) (f : Nat) : State :=
  ({ s with pipe := { s.pipe with stage := s.pipe.stage.filter fun a => a.first != f } }).stageSettle

/-- The Hold address of a staging unit. -/
def State.unitAddr (s : State) (f : Nat) : Nat := s.stageBase + 65536 * f

/-- The unit of a staging address. -/
def State.addrUnit (s : State) (a : Nat) : Nat := (a - s.stageBase) / 65536

/-- Staging that waits for the raster of a tally to end (R132), where it does not wait already. -/
def State.deferFree (s : State) (tally : Nat) (units : List Nat) : State :=
  let allocs := s.pipe.stage.filter fun a => units.contains a.first && !s.pipe.deferred.any fun d => d.allocs.contains a
  if allocs.isEmpty then s
  else ({ s with pipe := { s.pipe with
    deferred := s.pipe.deferred ++ [Deferred.mk tally allocs none] } }).stageSettle

end Sys2Proof.Machine
end

