-- ==== Sys2Proof/Machine/Latch.lean ====
section
/-!
DEFINITION. Latch edges, effective tallies and the pipeline's instants (R24, R25, R124 to R129, R544), and the queue of
pending commits.
-/
namespace Sys2Proof.Machine

/-- The latch edge of tally k, ledger ns (R124, R125). -/
def State.edge (s : State) (k : Nat) : Nat :=
  if s.chase then s.tp k - 100000 else s.tp k - fracT s.rate 1 32

/-- Tallies from an edge to the effective tally of its commits (R124, R125). -/
def State.lag (s : State) : Nat := if s.chase then 1 else 2

/-- The first edge after an arrival stamp: the least k with stamp < E_k. -/
def State.nextEdge (s : State) (stamp : Nat) : Nat :=
  let k := tallyOf s.rate stamp
  if stamp < s.edge (k + 1) then k + 1 else k + 2

/-- Whether the latch edge of some tally falls in this clock. -/
def State.onEdge (s : State) : Bool := decide (s.ns ≤ s.edge (s.nextEdge s.ns - 1) + 1)

/-- The effective tally of a commit stamped at a ledger time (R124, R125). -/
def State.effOf (s : State) (stamp : Nat) : Nat := s.nextEdge stamp + s.lag

/-- The edge that governs a tally (R127). -/
def State.governing (s : State) (n : Nat) : Nat := s.edge (n - s.lag)

/-- The selection point of tally n (R24, R25, R544). -/
def State.selPoint (s : State) (n : Nat) : Nat :=
  if s.chase then s.tp n - fracT s.rate 1 4 - 100000 else s.tp (n - 2) - 100000

/-- Composition of tally n starts (Tables 01.6, 01.7). -/
def State.compPoint (s : State) (n : Nat) : Nat :=
  if s.chase then s.tp n - fracT s.rate 1 4 - 50000 else s.tp (n - 2)

/-- The raster of tally n starts, and ends (Tables 01.6, 01.7). -/
def State.rasterPoint (s : State) (n : Nat) : Nat :=
  if s.chase then s.tp n - fracT s.rate 1 4 else s.tp (n - 1)
def State.rasterStop (s : State) (n : Nat) : Nat :=
  if s.chase then s.tp n - 100000 else s.tp n - fracT s.rate 1 32

/-- A commit joins the pending ones with its arrival stamp (R41, R123, R126). -/
def State.submit (s : State) (k : CommitKind) (fillDone : Bool := true) (cue : Option Nat := none) : State :=
  let c : Commit := { stamp := s.stamp16, rank := rankOf s.asker, order := s.pipe.nextOrder, cueTally := cue, fillDone := fillDone, kind := k }
  { s with pipe := { s.pipe with commits := s.pipe.commits ++ [c], nextOrder := s.pipe.nextOrder + 1 } }

/-- The tally a commit arriving now applies from; a cue's commit from its tally while that edge is ahead (R127). -/
def State.effNow (s : State) (cue : Option Nat := none) : Nat :=
  match cue with
  | some n => if s.stampNs ≤ s.governing n then n else s.effOf s.stampNs
  | none => s.effOf s.stampNs

/-- Whether the device is in Quiet (R463), and a block in reset (R438). -/
def State.quiet (s : State) : Bool := bit (s.rn Reg.PWR_STAT) 0
/-- Whether tally n falls in Quiet, with the commits latched for it (R463). -/
def State.quietFor (s : State) (n : Nat) : Bool :=
  s.pipe.latched.foldl (fun q c => match c.2 with
    | .quiet b => if c.1 ≤ n then b else q
    | _ => q) s.quiet
def State.inReset (s : State) (b : Block) : Bool := s.flt.resets.any (·.1 == b)

end Sys2Proof.Machine
end

