-- ==== Sys2Proof/Machine/Colour.lean ====
section
/-!
DEFINITION. The storage curve and its tables (R138 to R140), staging pixel formats (R88, R89) and ingest's conversion of
a sample to a storage code (R91 to R93).
-/
namespace Sys2Proof.Machine

/-! ### Storage curve -/

/-- 20-bit full scale. -/
def full20 : Nat := 1048575

/-- Whether 1,048,575 × L(c ÷ 65,535) + 1/2 is at least t, by exact integers: in the toe L = v ÷ 12.92, else
((v + 0.055) ÷ 1.055)^2.4, compared after raising to the fifth power (R138, R139). -/
def decodeAtLeast (c t : Nat) : Bool :=
  if t = 0 then true
  else if c ≤ 2650 then decide ((2 * t - 1) * 65535 * 1292 ≤ 2 * full20 * 100 * c)
  else decide ((2 * t - 1) ^ 5 * (1055 * 65535) ^ 12 ≤ (2 * full20) ^ 5 * (1000 * c + 55 * 65535) ^ 12)

/-- D(c) of R139: the greatest t with 1,048,575 × L + 1/2 ≥ t. -/
def decode20 (c : Nat) : Nat := bsearch (fun t => !decodeAtLeast c (t + 1)) 21 0 full20

/-- E(S) of R140: the code whose D is nearest S, the lower of two equally near. -/
def encode20 (x : Nat) : Nat :=
  let c := bsearch (fun c => decide (x ≤ decode20 c)) 17 0 65535
  if c = 0 then 0
  else if decode20 c < x then c
  else if x - decode20 (c - 1) ≤ decode20 c - x then c - 1 else c

/-! ### Staging formats -/

/-- Bytes of a pixel in a staging format (Table 03.3). -/
def stageB (fmt : Nat) : Nat := [4, 6, 8].getD fmt 8

/-- 64 KiB units of one buffer (R88). -/
def bufUnits (w h fmt : Nat) : Nat := ceilDiv (w * h * stageB fmt) 65536

/-- The P10 value of a storage code, and the code a P10 value stands for (R89). -/
def toP10 (c : Nat) : Nat := min 1023 ((c + 31) / 64)
def ofP10 (c : Nat) : Nat := if c = 0 then 0 else if c = 1023 then 65535 else 64 * c + 32

/-- The bytes of a pixel, R, G, B and A storage codes, in a staging format (Table 03.3). -/
def packPixel (fmt r g b a : Nat) : List Byte :=
  match fmt with
  | 0 => leBytes 4 (toP10 r + 1024 * toP10 g + 2 ^ 20 * toP10 b + 2 ^ 30 * (a / 0x5555))
  | 1 => leBytes 2 r ++ leBytes 2 g ++ leBytes 2 b
  | _ => leBytes 2 r ++ leBytes 2 g ++ leBytes 2 b ++ leBytes 2 a

/-- The R, G, B and A storage codes of a pixel's number in a staging format. -/
def unpackPixel (fmt n : Nat) : Nat × Nat × Nat × Nat :=
  match fmt with
  | 0 => (ofP10 (bits n 9 0), ofP10 (bits n 19 10), ofP10 (bits n 29 20), 0x5555 * bits n 31 30)
  | 1 => (bits n 15 0, bits n 31 16, bits n 47 32, 65535)
  | _ => (bits n 15 0, bits n 31 16, bits n 47 32, bits n 63 48)

/-! ### Ingest conversion -/

/-- Bit depth of the BITS code, and pixels and octets of a pgroup (Table 03.2). -/
def depthOf (b : Nat) : Nat := [8, 10, 12, 16].getD b 8
def pgroupPx (is422 : Bool) (b : Nat) : Nat := if is422 then 2 else [1, 4, 2, 1].getD b 1
def pgroupOct (is422 : Bool) (b : Nat) : Nat := if is422 then [4, 5, 6, 8].getD b 4 else [3, 15, 9, 6].getD b 3

/-- The d-bit samples of a run of octets, most significant bit first. -/
def unpackSamples (d : Nat) (bs : List Byte) : List Nat :=
  let n := bs.length * 8 / d
  let x := beNat bs / 2 ^ (bs.length * 8 - n * d)
  (List.range n).map fun i => (x / 2 ^ (d * (n - 1 - i))) % 2 ^ d

/-- Rational numbers held to 0..1. -/
def clamp01 (x : Rat) : Rat := if x < 0 then 0 else if 1 < x then 1 else x

/-- v^(p/q) of a non-negative rational v of at most m, in units of 2⁻ᵏ rounded down. -/
def powFloor (k m : Nat) (v : Rat) (p q : Nat) : Nat :=
  bsearch (fun t => decide (v ^ p < (((t + 1 : Nat) : Rat) / (2 ^ k : Nat)) ^ q)) (k + m) 0 (m * 2 ^ k)

/-- v^(p/q) of a rational in 0..1 in units of 2⁻³². -/
def powUnits (v : Rat) (p q : Nat) : Rat := (powFloor 32 1 v p q : Rat) / 4294967296

/-- n + 1 terms of the series of exp, from term i on: 1 + x/i × (1 + x/(i+1) × …). -/
def expTo : Nat → Nat → Rat → Rat
  | 0, _, _ => 1
  | n + 1, i, x => 1 + x / (i : Rat) * expTo n (i + 1) x

/-- The EOTF of SMPTE ST 2084 in cd/m², with the standard's constants (PRESUMED, log entry 219):
10,000 × (max(V^(1/m2) − c1, 0) ÷ (c2 − c3 × V^(1/m2)))^(1/m1). -/
def pqLight (v : Rat) : Rat :=
  let e : Rat := (powFloor 64 1 v 32 2523 : Rat) / (2 ^ 64 : Nat)
  let x := (e - 3424 / 4096) / (2413 / 128 - 2392 / 128 * e)
  if x ≤ 0 then 0 else 10000 * ((powFloor 56 1 x 8192 1305 : Rat) / (2 ^ 56 : Nat))

/-- A transfer function of Table 03.6, to within 2⁻³². -/
def transferExact (tr peak : Nat) (v : Rat) : Rat :=
  match tr with
  | 0 => v
  | 1 => if v < 81 / 1000 then v / (45 / 10) else powUnits ((v + 99 / 1000) / (1099 / 1000)) 20 9
  | 2 => powUnits v 12 5
  | 3 => if v ≤ 4045 / 100000 then v / (1292 / 100) else powUnits ((v + 55 / 1000) / (1055 / 1000)) 12 5
  | 4 => pqLight v / (peak : Rat)
  | _ =>
    if v ≤ 1 / 2 then v * v / 3
    else (expTo 40 1 ((v - 55991073 / 100000000) / (17883277 / 100000000)) + 28466892 / 100000000) / 12

/-- Linearisation by TRANSFER: the function's value with an error of at most 2⁻¹⁶ or 0.1 % (R92, log entry 11). -/
def linearise (tr peak : Nat) (v : Rat) : Rat :=
  let x := transferExact tr peak v
  let b : Int := (max 65536 (x * 4294967296 / 1000)).floor - 2
  x + ((clampI (-b) b (Config.transferError tr peak v.num v.den) : Int) : Rat) / 4294967296

/-- A 3 × 3 matrix by rows. -/
abbrev Mat3 := (Rat × Rat × Rat) × (Rat × Rat × Rat) × (Rat × Rat × Rat)

def mulVec (m : Mat3) (v : Rat × Rat × Rat) : Rat × Rat × Rat :=
  let d := fun (a : Rat × Rat × Rat) => a.1 * v.1 + a.2.1 * v.2.1 + a.2.2 * v.2.2
  (d m.1, d m.2.1, d m.2.2)

/-- The inverse of a matrix, by cofactors. -/
def inv3 (m : Mat3) : Mat3 :=
  let ((a, b, c), (d, e, f), (g, h, i)) := m
  let det := a * (e * i - f * h) - b * (d * i - f * g) + c * (d * h - e * g)
  (((e * i - f * h) / det, (c * h - b * i) / det, (b * f - c * e) / det),
   ((f * g - d * i) / det, (a * i - c * g) / det, (c * d - a * f) / det),
   ((d * h - e * g) / det, (b * g - a * h) / det, (a * e - b * d) / det))

/-- The RGB-to-XYZ matrix of a set of primaries and white (R93, SMPTE RP 177): 0 BT.709, 1 BT.2020, 2 P3-D65, 3 P3-DCI,
with the chromaticities those standards give (PRESUMED, log entry 15). -/
def rgbToXyz (p : Nat) : Mat3 :=
  let (xr, yr, xg, yg, xb, yb) : Rat × Rat × Rat × Rat × Rat × Rat :=
    match p with
    | 0 => (64 / 100, 33 / 100, 30 / 100, 60 / 100, 15 / 100, 6 / 100)
    | 1 => (708 / 1000, 292 / 1000, 170 / 1000, 797 / 1000, 131 / 1000, 46 / 1000)
    | _ => (680 / 1000, 320 / 1000, 265 / 1000, 690 / 1000, 150 / 1000, 60 / 1000)
  let (xw, yw) : Rat × Rat := if p = 3 then (314 / 1000, 351 / 1000) else (3127 / 10000, 3290 / 10000)
  let m : Mat3 := ((xr / yr, xg / yg, xb / yb), (1, 1, 1),
    ((1 - xr - yr) / yr, (1 - xg - yg) / yg, (1 - xb - yb) / yb))
  let (sr, sg, sb) := mulVec (inv3 m) (xw / yw, 1, (1 - xw - yw) / yw)
  let ((a, b, c), (d, e, f), (g, h, i)) := m
  ((a * sr, b * sg, c * sb), (d * sr, e * sg, f * sb), (g * sr, h * sg, i * sb))

/-- Steps 3 to 9 of R91 for one pixel: its three integers (Y, Cb, Cr or R, G, B, of depth d, chroma in sixteenths) to R,
G and B storage codes. -/
def convertPixel (isRgb : Bool) (d xfer peak prim : Nat) (x y z : Rat) : Nat × Nat × Nat :=
  let fullRange := bit xfer 6
  let k : Rat := (2 ^ (d - 8) : Nat)
  let top : Rat := (2 ^ d - 1 : Nat)
  let mid : Rat := (2 ^ (d - 1) : Nat)
  let nv := fun (a : Rat) => if fullRange then a / top else (a - 16 * k) / (219 * k)
  let nc := fun (a : Rat) => if fullRange then (a - mid) / top else (a - 128 * k) / (224 * k)
  let (kr, kb) : Rat × Rat := if bit xfer 5 then (2627 / 10000, 593 / 10000) else (2126 / 10000, 722 / 10000)
  let (r, g, b) :=
    if isRgb then (nv x, nv y, nv z)
    else
      let r := nv x + 2 * (1 - kr) * nc z
      let b := nv x + 2 * (1 - kb) * nc y
      (r, (nv x - kr * r - kb * b) / (1 - kr - kb), b)
  let lin := fun v => linearise (bits xfer 2 0) peak (clamp01 v)
  let src := bits xfer 4 3
  let v := (lin r, lin g, lin b)
  let v := if src = prim then v else mulVec (inv3 (rgbToXyz prim)) (mulVec (rgbToXyz src) v)
  let gain : Rat := (bits xfer 31 16 : Nat) / 4096
  let enc := fun (a : Rat) => encode20 ((clamp01 (a * gain) * (full20 : Nat) + 1 / 2).floor.toNat)
  (enc v.1, enc v.2.1, enc v.2.2)

end Sys2Proof.Machine
end

