-- ==== Sys2Proof/Machine/IngestOps.lean ====
section
/-!
DEFINITION. Source receivers: staging rings, packets, whole frames, loss and selection (03_ingest.md, R78 to R101).
-/
namespace Sys2Proof.Machine

def State.rcv (s : State) (r : Nat) : Receiver := tabGetD s.pipe.receivers r {}

def cfgType (c : SrcCfg) : Nat := bits c.cfg 3 0
def cfgFmt (c : SrcCfg) : Nat := bits c.cfg 5 4
def cfgDepth (c : SrcCfg) : Nat := bits c.cfg 9 6
def cfgW (c : SrcCfg) : Nat := bits c.size 15 0
def cfgH (c : SrcCfg) : Nat := bits c.size 31 16
def cfgFrames (c : SrcCfg) : Nat := bits c.clip 15 0

/-- Buffers a source takes (R90). -/
def cfgCount (c : SrcCfg) : Nat :=
  match cfgType c with
  | 0 => cfgDepth c
  | 1 => cfgDepth c
  | 2 => cfgDepth c
  | 3 => cfgFrames c
  | _ => 0

/-- Ring buffers held (R86). -/
def heldBufs (r : Receiver) : Nat := (r.bufs.filter (·.held)).length

/-- The bits of ING_SRC_P0_PORT and P1_PORT that a source's TYPE gives a field (Table 03.8); the others are reserved. -/
def portBits (c : SrcCfg) (v : Nat) : Nat := if cfgType c = 0 then bits v 25 0 else if cfgType c = 1 then bits v 7 0 else v

/-- The registers of a receiver follow it (Table 03.8). -/
def State.rcvSettle (s : State) (i : Nat) : State :=
  let r := s.rcv i
  let c := r.cfg
  let s := s.wrWords (Reg.ING_SRC_CFG i)
    [c.cfg, c.size, c.xfer, c.p0Addr, portBits c c.p0Port, c.p1Addr, portBits c c.p1Port, c.clip, c.start % 2 ^ 32, c.start / 2 ^ 32, c.pqPeak]
  let s := (s.wn (Reg.ING_SRC_BUF_BASE i) r.base).wn (Reg.ING_SRC_BUF_SIZE i) (r.units + 65536 * r.count)
  let held := if cfgType c ≤ 1 then heldBufs r else min 15 r.count
  s.wn (Reg.ING_SRC_STATE i) (r.state + 8 * r.path0.up.toNat + 16 * r.path1.up.toNat + 32 * held + 512 * r.fmtErr.toNat)

def State.setRcv (s : State) (i : Nat) (r : Receiver) : State :=
  ({ s with pipe := { s.pipe with receivers := tabSet s.pipe.receivers i r } }).rcvSettle i

def State.modRcv (s : State) (i : Nat) (f : Receiver → Receiver) : State := s.setRcv i (f (s.rcv i))

/-- The limits of R79 and R546, reserved codes (Tables 03.1, 03.3, 03.9, 03.10) and R95, R97. -/
def cfgOk (c : SrcCfg) : Bool :=
  let t := cfgType c
  let w := cfgW c
  let h := cfgH c
  decide (t ≤ 5) && cfgFmt c != 3 && decide (w * h ≤ 8388608) && bits c.cfg 11 10 != 3
    && decide (1 ≤ bits c.cfg 27 20) && decide (bits c.xfer 2 0 ≤ 5)
    && decide (100 ≤ bits c.pqPeak 15 0 ∧ bits c.pqPeak 15 0 ≤ 10000)
    && (if t = 0 then decide (16 ≤ w ∧ w ≤ 8192 ∧ 16 ≤ h ∧ h ≤ 4320) && !(bits c.cfg 11 10 == 0 && w % 2 == 1)
        else decide (1 ≤ w ∧ w ≤ 8192 ∧ 1 ≤ h ∧ h ≤ 8192))
    && (if t ≤ 1 then decide (2 ≤ cfgDepth c) else true)
    && (if t = 2 then decide (1 ≤ cfgDepth c ∧ cfgDepth c ≤ 2) && !(bit c.clip 24 && cfgDepth c == 1) else true)
    && (if t = 3 then decide (1 ≤ cfgFrames c) else true)
    && (if t = 5 then decide (bits c.p0Addr 3 0 ≤ 6) else true)

/-- A ring of n buffers at an address. -/
def mkRing (base units n : Nat) : List FrameBuf :=
  (List.range n).map fun i => { addr := base + i * units * 65536 }

/-- Staging for a source (R90): first unit, or none when it does not fit. -/
def State.allocFor (s : State) (c : SrcCfg) : Option (Nat × State) :=
  s.stageAlloc (cfgCount c * bufUnits (cfgW c) (cfgH c) (cfgFmt c))

/-- A receiver taken by a berth with its configuration and staging at a unit; a still, a colour and a pattern are always
due (Table 03.1), so they run at once (R100). -/
def State.openRcv (s : State) (i index : Nat) (c : SrcCfg) (first : Nat) : State :=
  let n := cfgCount c
  let u := bufUnits (cfgW c) (cfgH c) (cfgFmt c)
  let base := if n = 0 then 0 else s.unitAddr first
  s.setRcv i { berth := some index, cfg := c, state := (if [2, 4, 5].contains (cfgType c) then 2 else 1), base := base, units := u, count := n
               bufs := if cfgType c ≤ 1 then mkRing base u n else []
               path0 := { lastSeen := s.clk }, path1 := { lastSeen := s.clk } }

/-! ### Paths and loss -/

/-- A packet arrives on a path: it is seen, its UP bit sets, and a gap in its own sequence is counted (R83, R84). -/
def State.pathSeen (s : State) (i p seq : Nat) : State :=
  let r := s.rcv i
  let x := if p = 0 then r.path0 else r.path1
  let gap : Nat := match x.newest with
    | some q => let d := signed 32 (seq + 2 ^ 32 - q); if 1 < d then (d - 1).toNat else 0
    | none => 0
  let newest : Nat := match x.newest with
    | some q => if 0 < signed 32 (seq + 2 ^ 32 - q) then seq else q
    | none => seq
  let y : SrcPath := { lastSeen := s.clk, up := true, newest := some newest }
  let s := s.setRcv i (if p = 0 then { r with path0 := y } else { r with path1 := y })
  if gap = 0 then s else s.bumpBy (if p = 0 then Reg.ING_SRC_P0_LOST i else Reg.ING_SRC_P1_LOST i) gap

/-- TIMEOUT in clocks. -/
def rcvTimeout (r : Receiver) : Nat := ms (10 * bits r.cfg.cfg 27 20)

/-- A path of a source is enabled (Table 03.8); a type-1 source has path 0 alone (R94). -/
def pathOn (c : SrcCfg) (p : Nat) : Bool :=
  if cfgType c = 1 then p == 0 else bit (if p = 0 then c.p0Port else c.p1Port) 18

/-- A path has carried nothing for TIMEOUT since its last packet, or since it was enabled. -/
def pathQuiet (s : State) (r : Receiver) (p : Nat) : Bool :=
  s.elapsed (if p = 0 then r.path0 else r.path1).lastSeen (rcvTimeout r)

/-- UP of a path clears. -/
def Receiver.pathDown (r : Receiver) (p : Nat) : Receiver :=
  if p = 0 then { r with path0 := { r.path0 with up := false } } else { r with path1 := { r.path1 with up := false } }

/-- An enabled path has carried nothing for TIMEOUT; when no enabled path has, the source is lost (R84, R94). -/
def State.pathTimeout (s : State) (i p : Nat) : State :=
  let r := s.rcv i
  if r.berth.isNone ∨ 1 < cfgType r.cfg ∨ pathOn r.cfg p = false ∨ pathQuiet s r p = false then s
  else
    let s := s.setRcv i (r.pathDown p)
    let s := if cfgType r.cfg = 0 then s.raiseOnce 49 (2 * i + p) else s
    if [0, 1].all fun q => !pathOn r.cfg q || pathQuiet s r q then
      (s.modRcv i fun r => { r with state := 3 }).raiseOnce 50 i
    else s

/-! ### Frames -/

/-- The media time of an RTP timestamp near the ledger (R81), ns. -/
def mediaOf (ns rtp : Nat) : Nat :=
  let k0 : Nat := ns * 90000 / 10 ^ 9
  let k := ((k0 : Int) + signed 32 (rtp + 2 ^ 32 - k0 % 2 ^ 32)).toNat
  k * 10 ^ 9 / 90000

/-- Media times to discard, the newest 64 kept. -/
def addDiscard (r : Receiver) (m : Nat) : Receiver := { r with discard := (m :: r.discard).take 64 }

/-- The buffer of a media time is released. -/
def dropMedia (r : Receiver) (m : Nat) : Receiver :=
  { r with bufs := r.bufs.map fun b =>
      if b.held && !b.whole && b.media == m then { b with held := false, samples := [] } else b }

/-- A whole frame is a reject for its format (R80): its packets are discarded, and the format fault raised at most once
per second. -/
def State.formatReject (s : State) (i m : Nat) : State :=
  let s := s.modRcv i fun r => { addDiscard (dropMedia r m) m with fmtErr := true }
  (s.bump (Reg.ING_SRC_REJECT i)).raiseSec 48 i

/-- A timing reject (R85). -/
def State.timingReject (s : State) (i m : Nat) : State :=
  let n := (s.rcv i).timingRejects + 1
  let s := s.bump (Reg.ING_SRC_REJECT i)
  if 16 ≤ n then
    (s.modRcv i fun r => { addDiscard r m with timingRejects := 0, newest := none }).raise 51 i n
  else s.modRcv i fun r => { addDiscard r m with timingRejects := n }

/-- The presentation offset in ns (ING_PRES_OFFSET). -/
def State.presOffset (s : State) : Nat := 1000 * s.fld Reg.ING_PRES_OFFSET 17 0

/-- The first tally at which a frame of a media time is due (R98). -/
def State.firstDue (s : State) (m : Nat) : Nat := firstTally s.rate (m + s.presOffset)

/-- A late frame is never shown (R99): its buffer is released and its packets discarded, and LATE_AT is the selection
point of the first tally at which it would be due. In Quiet it is not counted (R464). -/
def State.lateFrame (s : State) (i m : Nat) : State :=
  let s := s.modRcv i fun r => addDiscard (dropMedia r m) m
  if s.quiet then s
  else (s.bump (Reg.ING_SRC_LATE i)).setPair (Reg.ING_SRC_LATE_AT i) (toLedger (s.selPoint (s.firstDue m)))

/-- The late-source fault over the last 64 tallies (R99). -/
def State.judgeLate (s : State) (i : Nat) : State :=
  let cnt := ((s.rcv i).lateHist.filter id).length
  if 8 ≤ cnt then s.raiseOnce 53 i cnt else if cnt = 0 then s.condClear 53 i else s

/-- A frame whose first packet comes after its selection point makes that tally one at which the source was late. -/
def State.lateMark (s : State) (i m : Nat) : State :=
  match s.quiet, s.pipe.lastSel with
  | false, some n => (s.modRcv i fun r => { r with lateHist := r.lateHist.set (n - s.firstDue m) true }).judgeLate i
  | _, _ => s

/-- A frame would have been due at or before the tally of the last selection point (R98, R99). -/
def State.pastDue (s : State) (m : Nat) : Bool :=
  match s.pipe.lastSel with
  | some n => decide (m + s.presOffset ≤ s.tp n)
  | none => false

/-- The configuration that new frames take (R101). -/
def Receiver.newCfg (r : Receiver) : SrcCfg := r.next.getD r.cfg

/-- A modify that waits comes into force with the first frame that begins after it (R101): the new ring's buffers stand
beside those of the old one that are still held, which no new frame takes. The time of silence of a path that it enables
starts. -/
def Receiver.takeNext (r : Receiver) (clk : Nat) : Receiver :=
  match r.next with
  | none => r
  | some c =>
    let opened := fun (p : Nat) (x : SrcPath) =>
      if pathOn c p && !pathOn r.cfg p then { x with lastSeen := clk } else if pathOn c p then x else { x with up := false }
    let r : Receiver := { r with cfg := c, next := none, path0 := opened 0 r.path0, path1 := opened 1 r.path1 }
    match r.nextRing with
    | some (b, u, n) => { r with
      nextRing := none, base := b, units := u, count := n
      bufs := (r.bufs.filter (·.held)).map (fun (x : FrameBuf) => { x with retired := true }) ++ mkRing b u n }
    | none => r

/-- The first packet of a new media time (R82, R85, R86, R101): the frame takes the lowest buffer not held under the
configuration then in force for new frames. True when it has a buffer. -/
def State.beginFrame (s : State) (i m : Nat) : State × Bool :=
  let r := s.rcv i
  if s.ns + 10 ^ 9 < m ∨ r.newest.any (fun w => decide (m ≤ w)) then (s.timingReject i m, false)
  else if s.pastDue m then ((s.lateFrame i m).lateMark i m, false)
  else
    let r := r.takeNext s.clk
    match r.bufs.findIdx? fun (b : FrameBuf) => !b.held && !b.retired with
    | none => (((s.setRcv i (addDiscard r m)).bump (Reg.ING_SRC_OVERRUN i)).raiseSec 52 i, false)
    | some j =>
      let bufs := r.bufs.mapIdx fun k (b : FrameBuf) =>
        if k = j then { b with
          held := true, whole := false, shown := false, media := m, samples := [], cfg := r.cfg, firstStamp := s.stamp16 }
        else b
      (s.setRcv i { r with bufs := bufs, timingRejects := 0 }, true)

/-- Whether a media time already has a buffer. -/
def bufOf (r : Receiver) (m : Nat) : Option FrameBuf := r.bufs.find? fun b => b.held && b.media == m

/-- The configuration that a packet of a media time is held to: that of its frame, or of new frames (R101). -/
def Receiver.cfgFor (r : Receiver) (m : Nat) : SrcCfg := ((bufOf r m).map (·.cfg)).getD r.newCfg

/-- The chroma sites that the chroma of pixel x of a line needs, with their weights in sixteenths (R91 step 2): the line's
sample before, at and after it, the edge samples repeated. -/
def chromaTaps (c : SrcCfg) (x : Nat) : List (Nat × Int) :=
  let site := fun (j : Int) => 2 * (clampI 0 ((cfgW c / 2 : Nat) - 1) j).toNat
  let j : Int := (x / 2 : Nat)
  if bits c.cfg 11 10 ≠ 0 then [(x, 16)]
  else if x % 2 = 0 then [(site j, 16)]
  else [(site (j - 1), -1), (site j, 9), (site (j + 1), 9), (site (j + 2), -1)]

/-- R, G and B storage codes of pixel x of line y of a type-0 frame, once every sample it needs has come (R82, R91). -/
def pixelCodes (c : SrcCfg) (prim : Nat) (px : Tab (List Nat)) (y x : Nat) : Option (Nat × Nat × Nat) :=
  let at_ := fun (x k : Nat) => (tabGetD px (y * cfgW c + x) []).getD k 0
  let taps := chromaTaps c x
  if ((x :: taps.map (·.1)).all fun x => (tabGet? px (y * cfgW c + x)).isSome) = false then none
  else
    let chroma := fun (k : Nat) => ((taps.foldl (fun (a : Int) t => a + t.2 * (at_ t.1 k : Nat)) 0 : Int) : Rat) / 16
    some (convertPixel (bits c.cfg 11 10 == 2) (depthOf (bits c.cfg 13 12)) c.xfer (bits c.pqPeak 15 0) prim (at_ x 0)
      (chroma 1) (chroma 2))

/-- The bytes of pixel x of line y of a frame in staging (R88, R89, R94): a type-1 frame's samples are storage codes. -/
def pixelStage (c : SrcCfg) (prim : Nat) (px : Tab (List Nat)) (y x : Nat) : Option (List Byte) :=
  if cfgType c = 1 then
    (tabGet? px (y * cfgW c + x)).map fun v =>
      if cfgFmt c = 0 then leBytes 4 (v.getD 0 0) else packPixel (cfgFmt c) (v.getD 0 0) (v.getD 1 0) (v.getD 2 0) (v.getD 3 0)
  else (pixelCodes c prim px y x).map fun v => packPixel (cfgFmt c) v.1 v.2.1 v.2.2 65535

/-- Pixels of a line whose value a sample at pixel x takes part in. -/
def touched (c : SrcCfg) (x : Nat) : List Nat :=
  if cfgType c = 0 ∧ bits c.cfg 11 10 = 0 then ((List.range 7).map fun k => x + k - 3).filter fun k => decide (k < cfgW c) else [x]

/-- The pixels whose samples have come stand in the buffer, each at its position (R82, R88). -/
def State.stagePixels (s : State) (b : FrameBuf) (at_ : List Nat) : State :=
  let w := cfgW b.cfg
  let todo := (at_.flatMap fun p => (touched b.cfg (p % w)).map fun x => p / w * w + x).eraseDups
  todo.foldl (fun s p =>
    match pixelStage b.cfg (s.fld Reg.ING_CANVAS_PRIM 1 0) b.samples (p / w) (p % w) with
    | some bs => s.writeHold (b.addr + p * stageB (cfgFmt b.cfg)) bs
    | none => s) s

/-- A frame becomes whole (R82): it is stamped, and the source's faults end (R84). -/
def State.frameWhole (s : State) (i m : Nat) (b : FrameBuf) : State :=
  let s := s.modRcv i fun r =>
    { r with
      newest := some m, fmtErr := false, state := (if r.state = 3 then (if r.shown.isSome then 2 else 1) else r.state)
      bufs := r.bufs.map fun x =>
        if x.addr = b.addr && x.held then { x with whole := true, samples := [], wholeStamp := s.stamp16 } else x }
  let s := (s.setPair (Reg.ING_SRC_LAST_MT i) (toLedger m)).bump (Reg.ING_SRC_FRAMES i)
  let r := s.rcv i
  let s := s.condClear 50 i
  let s := if r.path0.up then s.condClear 49 (2 * i) else s
  if r.path1.up then s.condClear 49 (2 * i + 1) else s

/-- Pixels written into the buffer of a media time as their packet arrives; the frame is whole when every pixel has been
(R82). -/
def State.writePixels (s : State) (i m : Nat) (px : List (Nat × List Nat)) : State :=
  match bufOf (s.rcv i) m with
  | some b =>
    if b.whole then s
    else
      let b := { b with samples := px.foldl (fun t e => tabSet t e.1 e.2) b.samples }
      let s := s.modRcv i fun r =>
        { r with bufs := r.bufs.map fun x => if x.addr = b.addr && x.held then b else x }
      let s := s.stagePixels b (px.map (·.1))
      if b.samples.length = cfgW b.cfg * cfgH b.cfg then s.frameWhole i m b else s
  | none => s

/-- The pixels a packet's row data carries, with each pixel's samples as Y, Cb, Cr or R, G, B (Table 03.2; sample order
of ST 2110-20); pixels that fill up the last pgroup of a line lie past its end and are dropped. -/
def srdPixels (c : SrcCfg) : List Srd → List Byte → List (Nat × List Nat)
  | [], _ => []
  | h :: hs, bs =>
    let smp := bits c.cfg 11 10
    let d := depthOf (bits c.cfg 13 12)
    let v := unpackSamples d (bs.take h.length)
    let g := fun k => v.getD k 0
    let base := h.row * cfgW c + h.offset
    let px :=
      if smp = 0 then
        (List.range (v.length / 4)).flatMap fun k =>
          [(base + 2 * k, [g (4 * k + 1), g (4 * k), g (4 * k + 2)]), (base + 2 * k + 1, [g (4 * k + 3)])]
      else
        (List.range (v.length / 3)).map fun k =>
          (base + k, if smp = 1 then [g (3 * k + 1), g (3 * k), g (3 * k + 2)] else [g (3 * k), g (3 * k + 1), g (3 * k + 2)])
    px.filter (fun e => decide (e.1 < (h.row + 1) * cfgW c)) ++ srdPixels c hs (bs.drop h.length)

/-- A row data header lies inside the configured size with field bit 0 (R80), its length whole pgroups, of which the last
one of a line may be filled up past its end (R79). -/
def srdOk (c : SrcCfg) (h : Srd) : Bool :=
  let is422 := bits c.cfg 11 10 == 0
  let b := bits c.cfg 13 12
  let oct := pgroupOct is422 b
  let px := pgroupPx is422 b
  !h.field && decide (h.row < cfgH c) && h.length % oct == 0 && h.offset % px == 0
    && decide (h.offset + h.length / oct * px < cfgW c + px)

/-- The ST 2022-7 merge (R83): a copy already received, or one more than 32,768 behind, is a duplicate. -/
def mergeDup (r : Receiver) (seq : Nat) : Bool :=
  let newest := match r.path0.newest, r.path1.newest with
    | some a, some b => some (if 0 < signed 32 (a + 2 ^ 32 - b) then a else b)
    | some a, none => some a
    | none, b => b
  r.seen.contains seq || newest.any fun n => decide (signed 32 (n + 2 ^ 32 - seq) > 32768)

/-- The octets of an ST 2110-20 packet: RTP header, extended sequence number, row data headers and data. -/
def rtpOctets (p : RtpPacket) : Nat := 14 + 6 * p.srds.length + p.payload.length

/-- An ST 2110-20 packet reaches its receiver (R79 to R86): it is held to the configuration of its frame (R101). -/
def State.rtpPacket (s : State) (i path : Nat) (p : RtpPacket) : State :=
  let r := s.rcv i
  let m := mediaOf s.ns p.rtp
  let cfg := r.cfgFor m
  let pt := bits (if path = 0 then cfg.p0Port else cfg.p1Port) 25 19
  if r.berth.isNone ∨ cfgType cfg ≠ 0 ∨ pathOn cfg path = false ∨ (pt ≠ 0 ∧ pt ≠ p.payloadType) ∨ 9000 < rtpOctets p
      ∨ s.inReset (.receiver i) then s
  else
    let dual := bit cfg.cfg 15
    let dup := dual && mergeDup r p.seq
    let s := s.pathSeen i path p.seq
    if dup then s.bump (Reg.ING_SRC_DUP i)
    else
      let s := if dual then s.modRcv i fun r => { r with seen := (p.seq :: r.seen).take 65536 } else s
      let r := s.rcv i
      if r.discard.contains m then s
      else if (p.srds.all (srdOk cfg)) = false ∨ 3 < p.srds.length then s.formatReject i m
      else
        let (s, ok) := if (bufOf r m).isSome then (s, true) else s.beginFrame i m
        if ok then s.writePixels i m (srdPixels cfg p.srds p.payload) else s

/-- A type-1 receiver takes a stream: the origin and stream number of the packet's frame, or of new frames (R94, R101). -/
def State.takesStream (s : State) (i : Nat) (p : StreamPacket) : Bool :=
  let r := s.rcv i
  let c := r.cfgFor (ofLedger p.media)
  r.berth.isSome && cfgType c == 1 && c.p0Addr == p.origin && bits c.p0Port 7 0 == p.stream && !s.inReset (.receiver i)

/-- A STREAM packet consumed by a type-1 receiver (R94, R252, R266, R267). -/
def State.streamPacket (s : State) (i : Nat) (p : StreamPacket) : State :=
  let r := s.rcv i
  let m := ofLedger p.media
  let cfg := r.cfgFor m
  let s := s.setRcv i { r with path0 := { r.path0 with lastSeen := s.clk, up := true } }
  let whole := (bufOf r m).any (·.whole)
  if whole ∨ r.discard.contains m ∨ r.newest.any (fun w => decide (m ≤ w)) then s.bump (Reg.ING_SRC_DUP i)
  else if p.fmt ≠ cfgFmt cfg ∨ p.width ≠ cfgW cfg ∨ p.height ≠ cfgH cfg then s.formatReject i m
  else
    let (s, ok) := if (bufOf r m).isSome then (s, true) else s.beginFrame i m
    if ok then s.writePixels i m (p.pixels.mapIdx fun k v => (p.line * p.width + p.x + k, v)) else s

/-! ### Selection -/

/-- Held buffers that no composition references and no layer would repeat are released (R86). -/
def State.releaseBufs (s : State) (i : Nat) : State :=
  let uses := fun (j : Option CompJob) (a : Nat) => j.any fun c => c.layers.any fun l => match l.frame with
    | .buffer x _ _ _ => x == a
    | _ => false
  s.modRcv i fun r =>
    let bufs := r.bufs.map fun (b : FrameBuf) =>
      if b.held && b.whole && b.shown && r.shown != some b.addr && !uses s.pipe.sel b.addr && !uses s.pipe.comp b.addr then
        { b with held := false }
      else b
    { r with bufs := bufs }

/-- The selection of a type-0 or type-1 source at tally n (R98 to R100): frames not whole that would be due are late; of
the whole frames due the newest is shown, the others are skipped; and the late-source fault is judged over 64 tallies. -/
def State.selectRcv (s : State) (i n : Nat) : State :=
  let off := s.presOffset
  let tp := s.tp n
  let late := ((s.rcv i).bufs.filter fun b => b.held && !b.whole && decide (b.media + off ≤ tp)).map (·.media)
  let s := late.foldl (fun s m => s.lateFrame i m) s
  let r := s.rcv i
  let due := r.bufs.filter fun b => b.held && b.whole && decide (b.media + off ≤ tp)
  let best := due.foldl (fun m b => max m b.media) 0
  let pick := r.bufs.find? fun (b : FrameBuf) => b.held && b.whole && b.media == best && decide (b.media + off ≤ tp)
  let skipped := (due.filter fun b => !b.shown && decide (b.media < best)).length
  let s := if skipped = 0 ∨ s.quietFor n then s else s.bumpBy (Reg.ING_SRC_SKIP i) skipped
  let s := match pick with
    | some b => s.modRcv i fun r =>
      { r with
        shown := some b.addr, state := (if r.state = 1 then 2 else r.state)
        bufs := r.bufs.map fun (b : FrameBuf) => if b.held && b.whole && decide (b.media ≤ best) then { b with shown := true } else b }
    | none => s
  let s := if s.quietFor n then s else
    (s.modRcv i fun r => { r with lateHist := ((!late.isEmpty) :: r.lateHist).take 64 }).judgeLate i
  s.releaseBufs i

/-- The clip frame due at a ledger time (R96): its buffer, or none before START. -/
def clipBuffer (c : SrcCfg) (tp : Nat) : Option Nat :=
  let st := ofLedger c.start
  let code := bits c.clip 19 16
  if tp < st then none
  else
    let i := (tp - st) * rateNum code / (rateDen code * 10 ^ 9)
    some (if bit c.clip 20 then i % cfgFrames c else min i (cfgFrames c - 1))

/-- A clip waits until its first frame is due (R96, R100). -/
def State.selectClip (s : State) (i n : Nat) : State :=
  s.modRcv i fun r => { r with state := if (clipBuffer r.cfg (s.tp n)).isSome then 2 else 1 }

/-- The frame a source gives at tally n (R95 to R100), none while it draws nothing, and the configuration it came under. -/
def State.sourceFrame (s : State) (i n : Nat) : FrameSel × SrcCfg :=
  let r := s.rcv i
  let c := r.cfg
  let w := cfgW c
  let h := cfgH c
  match cfgType c with
  | 0 | 1 =>
    if r.state = 3 ∧ bit c.cfg 16 then (.none, c)
    else match r.bufs.find? fun b => r.shown == some b.addr with
      | some b => (.buffer b.addr (cfgFmt b.cfg) (cfgW b.cfg) (cfgH b.cfg), b.cfg)
      | none => (.none, c)
  | 2 => (.buffer (r.base + (if bit c.clip 24 then r.units * 65536 else 0)) (cfgFmt c) w h, c)
  | 3 => match clipBuffer c (s.tp n) with
    | some k => (.buffer (r.base + k * r.units * 65536) (cfgFmt c) w h, c)
    | none => (.none, c)
  | 4 => (.solid (bits c.p0Addr 15 0) (bits c.p0Addr 31 16) (bits c.p0Port 15 0) (bits c.p0Port 31 16) w h, c)
  | 5 => (.pattern (bits c.p0Addr 3 0) w h, c)
  | _ => (.none, c)

/-- The PRBS31 register of pattern 6 (R97). -/
def noiseStep (x : Nat) : Nat := (x * 2 % 2 ^ 31) + (bit x 30 ^^ bit x 27).toNat
def noiseBits : Nat → Nat → Nat → Nat × Nat
  | 0, x, acc => (x, acc)
  | k + 1, x, acc => noiseBits k (noiseStep x) (acc * 2 + (bit x 30 ^^ bit x 27).toNat)

/-- The register after k steps. -/
def noiseSkip : Nat → Nat → Nat
  | 0, x => x
  | k + 1, x => noiseSkip k (noiseStep x)

/-- The storage code of the bars of pattern 0: 75 % of full scale (R97; log entry 12). -/
def barCode : Nat := if Config.barLinear then encode20 786431 else 49151

/-- The storage code of a ramp at position x of n: x ÷ (n − 1) of full scale in linear light (R97; log entry 12). -/
def rampCode (n x : Nat) : Nat :=
  let v := x * full20
  encode20 (if Config.rampUp n x then ceilDiv v (n - 1) else v / (n - 1))

/-- The storage codes of a pattern's pixel (R97; log entry 12). -/
def patternPixel (code tally w h x y : Nat) : Nat × Nat × Nat × Nat :=
  let grey := fun c => (c, c, c, 65535)
  match code with
  | 0 =>
    let k := x * 8 / w
    let on := fun (l : List Nat) => if l.contains k then barCode else 0
    (on [0, 1, 4, 5], on [0, 1, 2, 3], on [0, 2, 4, 6], 65535)
  | 1 => grey (rampCode w x)
  | 2 => grey (rampCode h y)
  | 3 => grey (if x % 16 = 0 ∨ y % 16 = 0 then 65535 else 0)
  | 4 =>
    let k := if Config.checkerPixels then x / 8 + y / 8 else x * 8 / w + y * 8 / h
    grey (if (k % 2 == 0) == Config.checkerWhite then 65535 else 0)
  | 5 =>
    let x0 := tally * 4 % w
    grey (if (x + w - x0) % w < 16 then 65535 else 0)
  | 6 =>
    let seed := tally % 2 ^ 31
    grey (noiseBits 16 (noiseSkip (16 * (y * w + x)) (if seed = 0 then 1 else seed)) 0).2
  | _ => (0, 0, 0, 0)

end Sys2Proof.Machine
end

