-- ==== Sys2Proof/Machine/ComposeOps.lean ====
section
/-!
DEFINITION. Layers: limits, geometry, scaler, blending, cost and elision, and the composition of a canvas
(04_composition.md, R102 to R122).
-/
namespace Sys2Proof.Machine

/-! ### Parameters -/

/-- Fields of COMP_LAYER_CTRL (Table 04.9) and of the geometry registers (Table 04.8). -/
def lEnable (p : Layer) : Bool := bit p.ctrl 0
def lAdd (p : Layer) : Bool := bit p.ctrl 1
def lRot (p : Layer) : Nat := bits p.ctrl 3 2
def lKernel (p : Layer) : Nat := bits p.ctrl 5 4
def lOpaqueFlag (p : Layer) : Bool := bit p.ctrl 6
def lMaskEn (p : Layer) : Bool := bit p.ctrl 7
def lMaskInv (p : Layer) : Bool := bit p.ctrl 8
def lClipEn (p : Layer) : Bool := bit p.ctrl 9
def lZ (p : Layer) : Nat := bits p.ctrl 15 10
def lO (p : Layer) : Nat := bits p.ctrl 28 16
def lX (p : Layer) : Int := signed 17 (bits p.pos 16 0)
def lY (p : Layer) : Int := signed 15 (bits p.pos 31 17)
def lX0 (p : Layer) : Nat := bits p.cropOrg 12 0
def lY0 (p : Layer) : Nat := bits p.cropOrg 28 16
def lWc (p : Layer) : Nat := bits p.cropSize 13 0
def lHc (p : Layer) : Nat := bits p.cropSize 29 16
def lWd (p : Layer) : Nat := bits p.dstSize 16 0
def lHd (p : Layer) : Nat := bits p.dstSize 31 17

/-- The rotated crop's size. -/
def lWr (p : Layer) : Nat := if lRot p % 2 = 0 then lWc p else lHc p
def lHr (p : Layer) : Nat := if lRot p % 2 = 0 then lHc p else lWc p

/-- The limits of an enabled layer (R103, Table 04.1, R109), its source handle aside. -/
def layerOk (p : Layer) : Bool :=
  !lEnable p ||
    (decide (1 ≤ lWc p ∧ lWc p ≤ 8192 ∧ 1 ≤ lHc p ∧ lHc p ≤ 8192 ∧ lX0 p + lWc p ≤ 8192 ∧ lY0 p + lHc p ≤ 8192)
      && decide (1 ≤ lWd p ∧ lWd p ≤ 65536 ∧ 1 ≤ lHd p ∧ lHd p ≤ 16384)
      && decide (lWr p ≤ 4 * lWd p ∧ lWd p ≤ 8 * lWr p ∧ lHr p ≤ 4 * lHd p ∧ lHd p ≤ 8 * lHr p)
      && decide (lO p ≤ 4096) && lKernel p != 3 && (!lMaskEn p || decide (lWd p * lHd p ≤ 8388608)))

/-- R131: an enabled layer needs a source handle, and a handle named must be live and of a SOURCE. -/
def State.layerSrcOk (s : State) (p : Layer) : Bool :=
  if p.src = 0 then !lEnable p else !malformed p.src && hKind p.src == 2 && s.live p.src

def State.layer (s : State) (l : Nat) : Layer := tabGetD s.pipe.layers l {}

/-! ### Rectangles -/

/-- A rectangle of columns x0 to x1 − 1 and lines y0 to y1 − 1. -/
structure Rect where
  x0 : Int
  y0 : Int
  x1 : Int
  y1 : Int
  deriving DecidableEq, Repr

def rectEmpty (r : Rect) : Bool := decide (r.x1 ≤ r.x0) || decide (r.y1 ≤ r.y0)
def rectMeet (a b : Rect) : Rect := ⟨max a.x0 b.x0, max a.y0 b.y0, min a.x1 b.x1, min a.y1 b.y1⟩

/-- The visible rectangle (R107). -/
def State.visible (s : State) (p : Layer) : Rect :=
  let d : Rect := ⟨lX p, lY p, lX p + lWd p, lY p + lHd p⟩
  let c : Rect := ⟨0, 0, s.canvasW, s.canvasH⟩
  let v := rectMeet d c
  if lClipEn p then
    let cx : Int := (bits p.clipOrg 15 0 : Nat)
    let cy : Int := (bits p.clipOrg 29 16 : Nat)
    rectMeet v ⟨cx, cy, cx + (bits p.clipSize 16 0 : Nat), cy + (bits p.clipSize 31 17 : Nat)⟩
  else v

/-- Whether a rectangle lies within the union of rectangles. -/
def covered : List Rect → Rect → Bool
  | [], r => rectEmpty r
  | q :: qs, r =>
    if rectEmpty r then true
    else
      let m := rectMeet q r
      if rectEmpty m then covered qs r
      else covered qs ⟨r.x0, r.y0, r.x1, m.y0⟩ && covered qs ⟨r.x0, m.y1, r.x1, r.y1⟩
        && covered qs ⟨r.x0, m.y0, m.x0, m.y1⟩ && covered qs ⟨m.x1, m.y0, r.x1, m.y1⟩

/-! ### Scaler -/

/-- u16 of R108 for destination index x of an axis from n to d. -/
def u16 (n d x : Nat) : Int := ((2 * x + 1) * n * 65536 / (2 * d) : Nat) - 32768
def tapIndex (n d x : Nat) : Int := u16 n d x / 65536
def tapPhase (n d x : Nat) : Nat := ((u16 n d x % 65536) / 1024).toNat

/-- The coefficient set of an axis (R109). -/
def coefSet (kernel n d : Nat) : Nat := if kernel = 2 then 3 else if n < d then 0 else if n ≤ 2 * d then 1 else 2

/-- Tap t of a phase of a set, from the live words; the reset words when none were committed (R110, R111). -/
def coefTap (live : List Nat) (set f t : Nat) : Int :=
  let i := set * 192 + f * 3 + t / 2
  let w := if live.isEmpty then coefResetWord i else live.getD i 0
  signed 12 (if t % 2 = 0 then bits w 11 0 else bits w 27 16)

/-- One axis of the scaler at destination index x of an axis from n to d, over a column or line v of values (R108,
R109), limited to top (R112). -/
def scaleAxis (live : List Nat) (kernel n d x top : Nat) (v : Nat → Nat) : Nat :=
  if n = d then v x
  else
    let i := tapIndex n d x
    let f := tapPhase n d x
    let at_ := fun (k : Int) => v (clampI 0 ((n : Int) - 1) k).toNat
    if kernel = 1 then at_ (if f < 32 then i else i + 1)
    else
      let set := coefSet kernel n d
      let sum := (List.range 6).foldl (fun (a : Int) j =>
        a + coefTap live set f j * ((at_ (i + (j : Int) - 2) : Nat) : Int)) 0
      (clampI 0 top ((sum + 512) / 1024)).toNat

/-! ### Pixels -/

/-- The storage codes and alpha of pixel (x, y) of a frame; outside it colour 0 and alpha 0 (R106, R112). -/
def State.framePixel (s : State) (tally : Nat) (f : FrameSel) (x y : Nat) : Nat × Nat × Nat × Nat :=
  match f with
  | .none => (0, 0, 0, 0)
  | .buffer a fmt w h =>
    if x < w ∧ y < h then unpackPixel fmt (s.holdNat (a + (y * w + x) * stageB fmt) (stageB fmt)) else (0, 0, 0, 0)
  | .solid r g b a w h => if x < w ∧ y < h then (r, g, b, a) else (0, 0, 0, 0)
  | .pattern c w h => if x < w ∧ y < h then patternPixel c tally w h x y else (0, 0, 0, 0)

/-- Whether pixel (x, y) lies inside the frame (R106). -/
def insideFrame (f : FrameSel) (x y : Nat) : Bool :=
  match f with
  | .none => false
  | .buffer _ _ w h => decide (x < w ∧ y < h)
  | .solid _ _ _ _ w h => decide (x < w ∧ y < h)
  | .pattern _ w h => decide (x < w ∧ y < h)

/-- Premultiplied R, G, B and alpha of rotated-crop pixel (xr, yr) (R105, R106, R112). -/
def State.cropPixel (s : State) (tally : Nat) (q : SelLayer) (xr yr : Nat) : Nat × Nat × Nat × Nat :=
  let p := q.p
  let (xs, ys) := match lRot p with
    | 0 => (xr, yr)
    | 1 => (yr, lHc p - 1 - xr)
    | 2 => (lWc p - 1 - xr, lHc p - 1 - yr)
    | _ => (lWc p - 1 - yr, xr)
  let x := lX0 p + xs
  let y := lY0 p + ys
  let (r, g, b, a) := s.framePixel tally q.frame x y
  let a := if lOpaqueFlag p && insideFrame q.frame x y then 65535 else a
  let pre := fun c => (decode20 c * a + 32767) / 65535
  (pre r, pre g, pre b, a)

/-- Component k (0 to 2 colour, 3 alpha) of a pixel. -/
def comp4 (v : Nat × Nat × Nat × Nat) (k : Nat) : Nat :=
  match k with
  | 0 => v.1
  | 1 => v.2.1
  | 2 => v.2.2.1
  | _ => v.2.2.2

/-- The scaled premultiplied pixel of destination (x, y): horizontal pass, then vertical (R108, R112). -/
def State.scaledPixel (s : State) (tally : Nat) (live : List Nat) (q : SelLayer) (x y k : Nat) : Nat :=
  let p := q.p
  let top := if k = 3 then 65535 else full20
  scaleAxis live (lKernel p) (lHr p) (lHd p) y top fun yr =>
    scaleAxis live (lKernel p) (lWr p) (lWd p) x top fun xr => comp4 (s.cropPixel tally q xr yr) k

/-- Mask coverage of destination pixel (x, y) (R116). -/
def State.coverage (s : State) (p : Layer) (x y : Nat) : Nat :=
  if lMaskEn p then
    let m := (s.holdByte (p.maskBase + (if p.maskSel then p.maskUnits * 65536 else 0) + y * lWd p + x)).toNat
    (if lMaskInv p then 255 - m else m) * 257
  else 65535

/-- A layer blended over the canvas pixel beneath (R113, R114). -/
def State.blend (s : State) (tally : Nat) (live : List Nat) (cx cy : Nat) (d : Nat × Nat × Nat) (q : SelLayer) :
    Nat × Nat × Nat :=
  let p := q.p
  let v := s.visible p
  let X : Int := cx
  let Y : Int := cy
  if v.x0 ≤ X ∧ X < v.x1 ∧ v.y0 ≤ Y ∧ Y < v.y1 then
    let x := (X - lX p).toNat
    let y := (Y - lY p).toNat
    let g := (s.coverage p x y * lO p + 2048) / 4096
    let px := fun k => s.scaledPixel tally live q x y k
    let a := (px 3 * g + 32767) / 65535
    let ch := fun k (dd : Nat) =>
      let c := (px k * g + 32767) / 65535
      if lAdd p then min full20 (dd + c) else min full20 (c + (dd * (65535 - a) + 32767) / 65535)
    (ch 0 d.1, ch 1 d.2.1, ch 2 d.2.2)
  else d

/-- A canvas pixel's R, G and B storage codes (R114). -/
def State.canvasPixel (s : State) (j : CompJob) (cx cy : Nat) : Nat × Nat × Nat :=
  let d := (j.layers.filter fun q => !q.elided).foldl (fun d q => s.blend j.tally j.coefs cx cy d q) (0, 0, 0)
  (encode20 d.1, encode20 d.2.1, encode20 d.2.2)

/-- The bytes of the canvas: 6 bytes a pixel in raster order (Table 01.4). -/
def State.canvasBytes (s : State) (j : CompJob) : List Byte :=
  (List.range (s.canvasW * s.canvasH)).flatMap fun i =>
    let (r, g, b) := s.canvasPixel j (i % s.canvasW) (i / s.canvasW)
    packPixel 1 r g b 0

/-- The storage codes of a canvas pixel in a frame-store buffer. -/
def State.storedPixel (s : State) (buf x y : Nat) : Nat × Nat × Nat :=
  let a := s.frameBuf buf + (y * s.canvasW + x) * 6
  (s.holdNat a 2, s.holdNat (a + 2) 2, s.holdNat (a + 4) 2)

/-! ### Drawing order, cost and elision -/

/-- A layer with its slot and the berth index that orders equal Z (R104). -/
structure Drawn where
  slot : Nat
  index : Nat
  p : Layer
  opaq : Bool
  draws : Bool
  deriving DecidableEq, Repr

def drawnBefore (a b : Drawn) : Bool := decide (lZ a.p < lZ b.p) || (lZ a.p == lZ b.p && decide (a.index ≤ b.index))

def drawnInsert (x : Drawn) : List Drawn → List Drawn
  | [] => [x]
  | y :: ys => if drawnBefore x y then x :: y :: ys else y :: drawnInsert x ys

/-- The receiver of a source handle. -/
def State.srcRcv (s : State) (h : Nat) : Nat := (s.berth (hIndex h)).resource

/-- A source's frame alpha is always 0xFFFF (R119). -/
def alphaFull (p : Layer) (c : SrcCfg) : Bool :=
  lOpaqueFlag p || (match cfgType c with
    | 0 => true
    | 1 => cfgFmt c == 1
    | 2 => cfgFmt c == 1
    | 3 => cfgFmt c == 1
    | 4 => bits c.p0Port 31 16 == 65535
    | _ => true)

/-- The opaque test of R119 against a source size. -/
def State.opaqueBy (p : Layer) (c : SrcCfg) (w h : Nat) : Bool :=
  lEnable p && !lAdd p && lO p == 4096 && !lMaskEn p && decide (lX0 p + lWc p ≤ w ∧ lY0 p + lHc p ≤ h)
    && alphaFull p c

/-- Columns or lines fetched along an axis for the visible range a to b − 1 of the destination (R118). -/
def fetched (n d a b : Nat) : Nat :=
  if n = d then b - a
  else (min ((n : Int) - 1) (tapIndex n d (b - 1) + 3) - max 0 (tapIndex n d a - 2) + 1).toNat

/-- The cost of a layer that is drawn and not elided (R118). -/
def State.layerCost (s : State) (p : Layer) : Nat :=
  let v := s.visible p
  if rectEmpty v then 0
  else
    let xa := (v.x0 - lX p).toNat
    let xb := (v.x1 - lX p).toNat
    let ya := (v.y0 - lY p).toNat
    let yb := (v.y1 - lY p).toNat
    fetched (lWr p) (lWd p) xa xb * fetched (lHr p) (lHd p) ya yb + 1024

/-- Each layer with whether it is elided: its visible rectangle lies within those of opaque layers drawn after (R120). -/
def State.elisions (s : State) : List Drawn → List (Drawn × Bool)
  | [] => []
  | x :: xs =>
    let above := (xs.filter (·.opaq)).map fun y => s.visible y.p
    (x, covered above (s.visible x.p)) :: State.elisions s xs

/-- The enabled layers of a layer set in drawing order as an edge sees them for a tally (R104, R119, R120). -/
def State.edgeLayers (s : State) (ls : Tab Layer) (tally : Nat) : List Drawn :=
  (ls.filter fun e => lEnable e.2).foldr (fun e acc =>
    let p := e.2
    let ok := s.inForce p.src tally && p.src != 0
    let c := (s.rcv (s.srcRcv p.src)).cfg
    drawnInsert ⟨e.1, (s.holderOf 1 e.1).getD 1024, p, ok && State.opaqueBy p c (cfgW c) (cfgH c), ok⟩ acc) []

/-- The predicted cost of a layer set at an edge, in all and by slot (R118, R120, R121). -/
def State.edgeCosts (s : State) (ls : Tab Layer) (tally : Nat) : List (Nat × Nat) :=
  (s.elisions (s.edgeLayers ls tally)).map fun e =>
    (e.1.slot, if e.2 ∨ !e.1.draws ∨ lO e.1.p = 0 then 0 else s.layerCost e.1.p)

def State.edgeCost (s : State) (ls : Tab Layer) (tally : Nat) : Nat :=
  (s.edgeCosts ls tally).foldl (fun a e => a + e.2) 0

/-- The composition budget (R121). -/
def State.budget (s : State) : Nat :=
  let c := s.rate
  if s.chase then 3200000000 * rateDen c / (4 * rateNum c) - 320000 else 3200000000 * rateDen c / rateNum c

/-! ### Selection -/

/-- The layers of a tally as selected (R98 to R100, R120, R130), and the state with their status and stale
counts: a stale source is counted once, and the layer draws nothing until a commit gives it a valid source. A fault that
stops a layer's or a source's berth takes it out as a destroy does (Tables 13.3, 15.3). -/
def State.selectLayers (s : State) (n : Nat) : State × List SelLayer :=
  let on := s.pipe.layers.filter fun e => lEnable e.2 && !s.slotStopped e.1
  let known := (s.pipe.layers.filter fun e => bit (s.rn (Reg.COMP_LAYER_STAT e.1)) 3).map (·.1)
  let s := (s.pipe.layers).foldl (fun s e => s.setFld (Reg.COMP_LAYER_STAT e.1) 5 4 (if lEnable e.2 && !s.slotStopped e.1 then 0 else 2)) s
  let stale := on.filter fun e => known.contains e.1 || !s.inForce e.2.src n
  let s := stale.foldl (fun s e => s.setFld (Reg.COMP_LAYER_STAT e.1) 5 5 1) s
  let s := (stale.filter fun e => !known.contains e.1).foldl (fun s e =>
    ((s.setFld (Reg.COMP_LAYER_STAT e.1) 3 3 1).bump Reg.COMP_STALE).raise 66 e.1 e.2.src) s
  let sel := (on.filter fun e => !known.contains e.1 && s.inForce e.2.src n).map fun e =>
    let i := s.srcRcv e.2.src
    let (f, c) := s.sourceFrame i n
    (e.1, e.2, if s.rcvStopped i then FrameSel.none else f, c)
  let s := sel.foldl (fun s e =>
    if e.2.2.1 = FrameSel.none ∨ lO e.2.1 = 0 then s.setFld (Reg.COMP_LAYER_STAT e.1) 5 5 1 else s) s
  let drawn := (sel.filter fun e => e.2.2.1 != FrameSel.none && lO e.2.1 != 0)
  let order := drawn.foldr (fun e acc =>
    let c := e.2.2.2
    drawnInsert ⟨e.1, (s.holderOf 1 e.1).getD 1024, e.2.1, State.opaqueBy e.2.1 c (cfgW c) (cfgH c), true⟩ acc) []
  let el := s.elisions order
  let out := el.filterMap fun x => (drawn.find? fun e => e.1 == x.1.slot).map fun e =>
    ({ slot := e.1, p := e.2.1, frame := e.2.2.1, elided := x.2 } : SelLayer)
  let s := (el.filter (·.2)).foldl (fun s x => s.setFld (Reg.COMP_LAYER_STAT x.1.slot) 4 4 1) s
  (s.wn Reg.COMP_LIVE (on.length + 256 * (el.filter (·.2)).length), out)

end Sys2Proof.Machine
end

