-- ==== Sys2Proof/Machine/Frames.lean ====
section
/-!
DEFINITION. Ethernet frames as byte strings: padding, tag and FCS (10_ethernet.md R295, R305), and the datagrams of the
protocols that R49, R294, R303, R331, R401 and R508 name (their layouts are those of the named standards, log entry 232).
-/
namespace Sys2Proof.Machine

/-- The big-endian number of n octets of a frame from octet i. -/
def oct (f : List Byte) (i n : Nat) : Nat := beNat ((f.drop i).take n)

/-! ### Check words -/

/-- The ones' complement sum of 16-bit words. -/
def onesSum : List Byte → Nat → Nat
  | [], a => a
  | [b], a => (a + b.toNat * 256) % 65536 + (a + b.toNat * 256) / 65536
  | b :: c :: bs, a => onesSum bs ((a + b.toNat * 256 + c.toNat) % 65536 + (a + b.toNat * 256 + c.toNat) / 65536)

/-- The checksum of RFC 1071 over octets whose own checksum field is 0. -/
def inetCheck (bs : List Byte) : Nat := 65535 - onesSum bs 0

/-- n shifts of the FCS register (CRC-32 of IEEE 802.3, reflected). -/
def fcsShift : Nat → Word → Word
  | 0, c => c
  | n + 1, c => fcsShift n (if c.getLsbD 0 then (c >>> 1) ^^^ 0xEDB88320#32 else c >>> 1)

/-- The FCS of a frame. -/
def fcs (f : List Byte) : Word :=
  (f.foldl (fun c b => fcsShift 8 (c ^^^ b.setWidth 32)) 0xFFFFFFFF#32) ^^^ 0xFFFFFFFF#32

/-- A received frame whose last four octets are its FCS (R295). -/
def fcsGood (f : List Byte) : Bool := (fcs (f.take (f.length - 4))).toNat == leNat (f.drop (f.length - 4))

/-! ### Frames -/

/-- A frame from its destination address to the end of its payload. -/
def etherFrame (dst src etype : Nat) (payload : List Byte) : List Byte :=
  beBytes 6 dst ++ beBytes 6 src ++ beBytes 2 etype ++ payload

/-- A frame as it leaves a MAC (R305): an 802.1Q tag of a VID and PCP when given, zero octets up to 60, and the FCS. -/
def wireFrame (tag : Option (Nat × Nat)) (f : List Byte) : List Byte :=
  let f := match tag with
    | some (vid, pcp) => f.take 12 ++ beBytes 2 0x8100 ++ beBytes 2 (pcp * 8192 + vid) ++ f.drop 12
    | none => f
  let f := f ++ zeros (60 - f.length)
  f ++ leBytes 4 (fcs f).toNat

/-- The MAC address of an IPv4 group (Table 10.4). -/
def groupMac (g : Nat) : Nat := 0x01005E000000 + g % 2 ^ 23

/-- An IPv4 datagram with options given, not to be fragmented. -/
def ipv4Packet (proto ttl src dst : Nat) (options payload : List Byte) : List Byte :=
  let head := fun (check : Nat) =>
    beBytes 1 (0x45 + options.length / 4) ++ [0#8] ++ beBytes 2 (20 + options.length + payload.length) ++ beBytes 2 0
      ++ beBytes 2 0x4000 ++ beBytes 1 ttl ++ beBytes 1 proto ++ beBytes 2 check ++ beBytes 4 src ++ beBytes 4 dst ++ options
  head (inetCheck (head 0)) ++ payload

/-- A UDP datagram, with its checksum or with none (R56). -/
def udpPacket (src dst sport dport : Nat) (summed : Bool) (data : List Byte) : List Byte :=
  let n := 8 + data.length
  let d := fun (check : Nat) => beBytes 2 sport ++ beBytes 2 dport ++ beBytes 2 n ++ beBytes 2 check ++ data
  let c := inetCheck (beBytes 4 src ++ beBytes 4 dst ++ beBytes 2 17 ++ beBytes 2 n ++ d 0)
  d (if summed then (if c = 0 then 65535 else c) else 0)

/-! ### Peers: MAC address, IPv4 address and UDP port as one number -/

def peerOf (mac ip port : Nat) : Nat := mac * 2 ^ 48 + ip * 2 ^ 16 + port
def peerMac (p : Nat) : Nat := p / 2 ^ 48
def peerIp (p : Nat) : Nat := p / 2 ^ 16 % 2 ^ 32
def peerPort (p : Nat) : Nat := p % 2 ^ 16

/-- A group as a peer at a port. -/
def groupPeer (g port : Nat) : Nat := peerOf (groupMac g) g port

/-! ### ARP, ICMP and IGMP (R294, R303) -/

/-- An ARP reply (RFC 826). -/
def arpReply (mac ip toMac toIp : Nat) : List Byte :=
  beBytes 2 1 ++ beBytes 2 0x0800 ++ [6#8, 4#8] ++ beBytes 2 2 ++ beBytes 6 mac ++ beBytes 4 ip ++ beBytes 6 toMac ++ beBytes 4 toIp

/-- An ICMP echo reply of a request's identifier, sequence number and data (RFC 792). -/
def echoReply (rest : List Byte) : List Byte :=
  let m := fun (check : Nat) => beBytes 2 0 ++ beBytes 2 check ++ rest
  m (inetCheck (m 0))

/-- An IGMP report for a group and the address it goes to: of version 2, or of version 3 with one record of a type whose
filter is EXCLUDE, its source list empty (RFC 3376). -/
def igmpReport (v2 : Bool) (record g : Nat) : Nat × List Byte :=
  let m := fun (check : Nat) =>
    if v2 then beBytes 1 0x16 ++ [0#8] ++ beBytes 2 check ++ beBytes 4 g
    else beBytes 1 0x22 ++ [0#8] ++ beBytes 2 check ++ beBytes 2 0 ++ beBytes 2 1 ++ beBytes 1 record ++ zeros 3 ++ beBytes 4 g
  (if v2 then g else 0xE0000016, m (inetCheck (m 0)))

/-- The router-alert option, which IGMP carries. -/
def routerAlert : List Byte := beBytes 4 0x94040000

/-! ### sACN (ANSI E1.31; R331, R333) -/

/-- A layer of E1.31: flags and length before its contents. -/
def acnPdu (bs : List Byte) : List Byte := beBytes 2 (0x7000 + 2 + bs.length) ++ bs

/-- A source name, 64 octets padded with zeros. -/
def acnName (name : List Byte) : List Byte := name.take 64 ++ zeros (64 - name.length)

/-- The root layer of a vector and CID around a framing layer: preamble, and "ASC-E1.17" as the packet identifier. -/
def acnRoot (vector : Nat) (cid framing : List Byte) : List Byte :=
  beBytes 2 0x10 ++ beBytes 2 0 ++ beBytes 12 0x4153432D45312E3137000000 ++ acnPdu (beBytes 4 vector ++ cid ++ acnPdu framing)

/-- A data packet: priority, sequence number, options, universe, and slots after start code 0. -/
def sacnData (cid name : List Byte) (priority seq options univ : Nat) (slots : List Nat) : List Byte :=
  acnRoot 4 cid (beBytes 4 2 ++ acnName name ++ beBytes 1 priority ++ beBytes 2 0 ++ beBytes 1 seq ++ beBytes 1 options
    ++ beBytes 2 univ
    ++ acnPdu (beBytes 1 2 ++ beBytes 1 0xA1 ++ beBytes 2 0 ++ beBytes 2 1 ++ beBytes 2 (slots.length + 1) ++ [0#8]
      ++ slots.map (BitVec.ofNat 8)))

/-- A universe discovery packet: one page of the list of universes. -/
def sacnDiscoveryPage (cid name : List Byte) (page last : Nat) (univs : List Nat) : List Byte :=
  acnRoot 8 cid (beBytes 4 2 ++ acnName name ++ beBytes 4 0
    ++ acnPdu (beBytes 4 1 ++ beBytes 1 page ++ beBytes 1 last ++ univs.flatMap (beBytes 2)))

/-! ### RDM (ANSI E1.20; R337, R339) -/

/-- The sum of octets, modulo 2¹⁶. -/
def octetSum (bs : List Byte) : Nat := bs.foldl (fun a b => a + b.toNat) 0 % 65536

/-- A request: START code 0xCC and sub-start code 1, message length, UIDs, transaction number, port ID, message count 0,
sub-device, command class, PID, data and checksum. -/
def rdmPacket (dst src tn port cc sub pid : Nat) (pd : List Byte) : List Byte :=
  let m := [0xCC#8, 1#8] ++ beBytes 1 (24 + pd.length) ++ beBytes 6 dst ++ beBytes 6 src ++ beBytes 1 tn ++ beBytes 1 port
    ++ [0#8] ++ beBytes 2 sub ++ beBytes 1 cc ++ beBytes 2 pid ++ beBytes 1 pd.length ++ pd
  m ++ beBytes 2 (octetSum m)

/-- What the line carried after a request: nothing, a response that fails its checks, a UID that answered
DISC_UNIQUE_BRANCH, or a response's type, message count and data. -/
inductive RdmAnswer where
  | none
  | bad
  | found (uid : Nat)
  | good (responseType msgCount : Nat) (pd : List Byte)
  deriving DecidableEq, Repr

/-- A response read by its length and checksum (R337). -/
def rdmResponse (b : List Byte) : RdmAnswer :=
  let at_ := fun i => (b.getD i 0).toNat
  let len := at_ 2
  let n := at_ 23
  if b.length = len + 2 ∧ at_ 0 = 0xCC ∧ at_ 1 = 1 ∧ len = 24 + n ∧ beNat (b.drop len) = octetSum (b.take len) then
    .good (at_ 16) (at_ 17) ((b.drop 24).take n)
  else .bad

/-- A response to DISC_UNIQUE_BRANCH: at most seven preamble octets 0xFE, the separator 0xAA, then each octet of the UID
and of the checksum twice, with 0xAA and with 0x55 set. -/
def discResponse (b : List Byte) : RdmAnswer :=
  let body := b.dropWhile (· == 0xFE#8)
  let e := body.drop 1
  let v := (List.range 8).map fun i => e.getD (2 * i) 0 &&& e.getD (2 * i + 1) 0
  let set := (List.range 8).all fun i => (e.getD (2 * i) 0 &&& 0xAA#8) == 0xAA#8 && (e.getD (2 * i + 1) 0 &&& 0x55#8) == 0x55#8
  if b.length ≤ body.length + 7 ∧ body.head? = some 0xAA#8 ∧ e.length = 16 ∧ set = true
      ∧ beNat (v.drop 6) = octetSum (e.take 12) then .found (beNat (v.take 6))
  else .bad

/-! ### TFTP (RFC 1350, RFC 2347, RFC 2348) -/

/-- The decimal digits of a number below 10,000, as ASCII. -/
def decimal (n : Nat) : List Byte :=
  let d := [n / 1000 % 10, n / 100 % 10, n / 10 % 10, n % 10]
  ((d.take 3).dropWhile (· == 0) ++ d.drop 3).map fun x => BitVec.ofNat 8 (48 + x)

def tftpDataPacket (block : Nat) (data : List Byte) : List Byte := beBytes 2 3 ++ beBytes 2 (block % 65536) ++ data
def tftpAck (block : Nat) : List Byte := beBytes 2 4 ++ beBytes 2 (block % 65536)
def tftpErrorPacket (code : Nat) : List Byte := beBytes 2 5 ++ beBytes 2 code ++ [0#8]
/-- The acknowledgement of the option "blksize". -/
def tftpOack (size : Nat) : List Byte := beBytes 2 6 ++ beBytes 8 0x626C6B73697A6500 ++ decimal size ++ [0#8]

end Sys2Proof.Machine
end

