-- ==== Sys2Proof/Machine/PierOps.lean ====
section
/-!
DEFINITION. The Pier's queues, their words and error code (14_qmp_pier_ferry.md, R412 to R418), and the bytes of events
(Table 14.6).
-/
namespace Sys2Proof.Machine

/-! ### The (39,32) code (R412) -/

/-- Positions 3 to 38 that are not powers of two, in order: position of data bit k. -/
def dataPos : List Nat := ((List.range 39).drop 3).filter fun p => !([4, 8, 16, 32].contains p)

/-- Parity of some bits. -/
def parity (l : List Bool) : Bool := l.foldl (fun a b => a ^^ b) false

/-- Check bit ci, i from 0 to 5. -/
def checkBit (d : Nat) (i : Nat) : Bool := parity ((List.range 32).map fun k => bit d k && bit (dataPos.getD k 0) i)

/-- CHECK, c6 to c0, of 32 data bits. -/
def secded (d : Nat) : Nat :=
  let c := (List.range 6).foldl (fun a i => a + (checkBit d i).toNat * 2 ^ i) 0
  let c6 := parity ((List.range 32).map (bit d)) ^^ parity ((List.range 6).map (bit c))
  c + 64 * c6.toNat

/-- An inbound word checked (R413): its data corrected and the ECC code 0 clean, 1 corrected, 2 not correctable. -/
def secdedFix (d c : Nat) : Nat × Nat :=
  let syn := (List.range 6).foldl (fun a i => a + (checkBit d i ^^ bit c i).toNat * 2 ^ i) 0
  let odd := parity ((List.range 32).map (bit d)) ^^ parity ((List.range 7).map (bit c))
  if syn = 0 then (d, if odd then 1 else 0)
  else if !odd then (d, 2)
  else if [1, 2, 4, 8, 16, 32].contains syn then (d, 1)
  else match dataPos.findIdx? (· == syn) with
    | some k => (putBit d k (!bit d k), 1)
    | none => (d, 2)

/-! ### Outbound queues -/

def State.outQ (s : State) (q : Nat) : OutQ := tabGetD s.pier.outq q {}

/-- Fields of PIER_OQ_CFG (Table 14.13). -/
def State.oqThresh (s : State) (q : Nat) : Nat := s.fld (Reg.PIER_OQ_CFG q) 9 0
def State.oqStale (s : State) (q : Nat) : Nat := us (10 * s.fld (Reg.PIER_OQ_CFG q) 23 10)

/-- OUT_READY of a queue: THRESH words or a whole packet. -/
def State.outReady (s : State) (q : Nat) : Bool :=
  let w := (s.outQ q).words
  decide (s.oqThresh q ≤ w.length) || w.any (·.eop)

/-- PIER_OQ_STAT and OUT_READY follow a queue; its stale timer runs while it holds words (R417). -/
def State.setOutQ (s : State) (q : Nat) (x : OutQ) : State :=
  let timer := if x.words.isEmpty then none else some (x.timer.getD s.clk)
  let s := { s with pier := { s.pier with outq := tabSet s.pier.outq q { x with timer := timer } } }
  (s.wn (Reg.PIER_OQ_STAT q) x.words.length).setFld Reg.PIER_IRQ_STAT q q (s.outReady q).toNat

/-- The words of a packet's bytes, four to a word, the last padded with zeros (R414). -/
def packWords : List Byte → List Nat
  | [] => []
  | [a] => [beNat [a, 0, 0, 0]]
  | [a, b] => [beNat [a, b, 0, 0]]
  | [a, b, c] => [beNat [a, b, c, 0]]
  | a :: b :: c :: d :: bs => beNat [a, b, c, d] :: packWords bs

/-- A packet with its header (R414), its first word marked SOP and its last EOP. -/
def outPacket (ptype lost : Nat) (bs : List Byte) : List OutWord :=
  let ws := (ptype * 2 ^ 24 + (decide (0 < lost)).toNat * 2 ^ 23 + min lost 127 * 2 ^ 16 + bs.length % 65536) :: packWords bs
  ws.mapIdx fun i w => { sop := i == 0, eop := i + 1 == ws.length, data := w }

/-- Packets waiting enter a queue in order while there is room: one of at most 512 words when it fits whole, a longer one
when the queue is empty, its words following as room comes (R414). -/
def placeWaiting : Nat → OutQ → OutQ
  | 0, x => x
  | n + 1, x =>
    match x.feed with
    | w :: ws => if x.words.length < 512 then placeWaiting n { x with words := x.words ++ [w], feed := ws } else x
    | [] =>
      match x.waiting with
      | [] => x
      | (ptype, _, bs) :: rest =>
        let p := outPacket ptype x.lost bs
        if 512 < p.length then
          if x.words.isEmpty then placeWaiting n { x with feed := p, waiting := rest, lost := 0 } else x
        else if x.words.length + p.length ≤ 512 then
          placeWaiting n { x with words := x.words ++ p, waiting := rest, lost := 0 }
        else x

/-- A queue takes what it can. -/
def State.fillOutQ (s : State) (q : Nat) : State := s.setOutQ q (placeWaiting 2000 (s.outQ q))

/-- Packets of a kind from one source that a queue may hold waiting: frames of a MAC 64, events 256, responses 16 (R414). -/
def waitLimit (ptype : Nat) : Nat := if ptype = 1 then 256 else if ptype = 2 then 64 else 16

/-- The first entry from a source dropped. -/
def dropFirst (src : Nat) : List (Nat × Nat × List Byte) → List (Nat × Nat × List Byte)
  | [] => []
  | x :: xs => if x.2.1 = src then xs else x :: dropFirst src xs

/-- A packet for an outbound queue; at a full source the oldest waiting packet is discarded and counted (R414). -/
def State.pierPush (s : State) (q ptype src : Nat) (bs : List Byte) : State :=
  if bit (s.rn Reg.PIER_CFG) 0 then
    let x := s.outQ q
    let full := decide (waitLimit ptype ≤ (x.waiting.filter (·.2.1 == src)).length)
    let s := if full then s.bump Reg.PIER_OQ_DROP else s
    let x := if full then { x with waiting := dropFirst src x.waiting, lost := x.lost + 1 } else x
    (s.setOutQ q { x with waiting := x.waiting ++ [(ptype, src, bs)] }).fillOutQ q
  else s

/-! ### Events (Table 14.6) -/

/-- Sizes of DATA's fields by event code. -/
def eventSizes (code : Nat) (n : Nat) : List Nat :=
  match code with
  | 0x10 => [1, 1, 4]
  | 0x20 => [1, 4, 4]
  | 0x21 => [4, 4, 4]
  | 0x30 => [6]
  | 0x31 => [6]
  | 0x40 => [8, 1]
  | 0x50 => [8]
  | 0x51 => [4]
  | 0x70 => [4, 2, 1]
  | 0x60 => List.replicate n 1
  | _ => List.replicate n 4

/-- The EVENT body with its EV_SEQ and the events lost before it. -/
def eventBytes (e : Event) (seq lost : Nat) : List Byte :=
  let data := (List.zipWith beBytes (eventSizes e.code e.data.length) e.data).flatten
  beBytes 4 seq ++ beBytes 2 e.code ++ beBytes 1 e.sev ++ beBytes 1 (decide (0 < lost)).toNat ++ beBytes 8 e.stamp
    ++ beBytes 2 e.frac ++ beBytes 2 (min lost 65535) ++ beBytes 4 e.source ++ beBytes 2 data.length ++ data

/-- The class bit of an event code (R409): 0 faults, 1 twin, 2 cues, 3 RDM, 4 Ferry, 5 time, 6 berths and stale
deliveries, 7 tiles. -/
def eventClass (code : Nat) : Nat :=
  match code with
  | 1 => 0
  | 2 => 0
  | 0x10 => 1
  | 0x20 => 2
  | 0x21 => 2
  | 0x30 => 3
  | 0x31 => 3
  | 0x40 => 4
  | 0x50 => 5
  | 0x51 => 5
  | 0x60 => 5
  | 0x70 => 6
  | _ => 7

/-- The outbound queue of an event (Table 14.9). -/
def eventQueue (code : Nat) : Nat :=
  match eventClass code with
  | 0 => 4
  | 2 => 5
  | 6 => 5
  | _ => 6

end Sys2Proof.Machine
end

