-- ==== Sys2Proof/Machine/EthOps.lean ====
section
/-!
DEFINITION. Ethernet MACs: filters, frame checks, transmit queues, pause and multicast (10_ethernet.md).
-/
namespace Sys2Proof.Machine

def State.mac (s : State) (m : Nat) : MacState := tabGetD s.macs m {}
def State.setMac (s : State) (m : Nat) (x : MacState) : State := { s with macs := tabSet s.macs m x }

/-- The lane of role E bound to a MAC, if any (LANE_CFG.MAC). -/
def State.macLane (s : State) (m : Nat) : Option Nat :=
  (List.range 24).find? fun l => s.laneRole l == 1 && s.fld (Reg.LANE_CFG l) 7 6 == m

/-- An E MAC that no lane of role E names is disabled (R289). -/
def State.macDisabled (s : State) (m : Nat) : Bool := decide (m < 4) && (s.macLane m).isNone

/-- A quantum of 512 bit times at the port's rate, in ps (R307). -/
def State.quantum (s : State) (m : Nat) : Nat :=
  if m = 4 then [51200000, 5120000, 512000].getD (s.fld (Reg.MAC_STAT 4) 12 11) 512000
  else match s.macLane m with
    | some l => match s.laneCfgRate l with
      | 4 => 20480
      | 2 => 51200
      | _ => 512000
    | none => 512000

/-! ### Pause (R306 to R309, R312) -/

/-- Whether a queue is paused: its timer runs. -/
def State.paused (s : State) (m q : Nat) : Bool :=
  match tabGet? (s.mac m).timers q with
  | some e => decide (s.clk < e)
  | none => false

/-- WINDOW and HOLDOFF in clocks, and LIMIT. -/
def macWindow (x : MacState) : Nat := ms (bits x.pauseWin 9 0)
def macHoldoff (x : MacState) : Nat := ms (bits x.pauseWin 25 16)
def macLimit (x : MacState) : Nat := us (bits x.pauseCfg 17 4)

/-- Paused time counted up to now, by queue and for MAC_PAUSED_NS, and PAUSED of MAC_STAT. -/
def State.pauseCount (s : State) (m : Nat) : State :=
  let x := s.mac m
  let upTo := fun e => max x.counted (min e s.clk)
  let any := x.timers.foldl (fun a t => max a (upTo t.2 - x.counted)) 0
  let spans := x.timers.foldl (fun (sp : Tab (List (Nat × Nat))) t =>
    let e := upTo t.2
    if x.counted < e then tabMod sp t.1 [] fun l => ((x.counted, e) :: l).take 1024 else sp) x.spans
  let clks := x.pausedClks + any
  let s := s.setMac m { x with counted := s.clk, spans := spans, pausedClks := clks }
  let s := s.setPair (Reg.MAC_PAUSED_NS m) (clks * 5 / 4)
  (List.range 8).foldl (fun s q => s.setFld (Reg.MAC_STAT m) (3 + q) (3 + q) (s.paused m q).toNat) s

/-- Nanoseconds up to now in which any queue was paused. -/
def State.pausedNs (s : State) (m : Nat) : Nat :=
  let x := s.mac m
  (x.pausedClks + x.timers.foldl (fun a t => max a (max x.counted (min t.2 s.clk) - x.counted)) 0) * 5 / 4

/-- MAC_PAUSED_NS of every MAC brought up to now. -/
def State.pausedRegs (s : State) : State :=
  (List.range 5).foldl (fun s m => s.setPair (Reg.MAC_PAUSED_NS m) (s.pausedNs m)) s

/-- Time a queue has been paused within the last WINDOW. -/
def State.pausedIn (s : State) (m q : Nat) : Nat :=
  let x := s.mac m
  let from_ := s.clk - macWindow x
  (tabGetD x.spans q []).foldl (fun a p => a + (p.2 - max p.1 from_)) 0

/-- Paused times restart from zero. -/
def State.pauseRestart (s : State) (m : Nat) : State :=
  let s := s.pauseCount m
  s.setMac m { s.mac m with spans := [] }

/-! ### Transmit (R304, R305) -/

/-- A timestamp of a PTP message, 10 bytes: seconds and whole nanoseconds of a time in units of 2⁻¹⁶ ns. -/
def ptpStamp (t : Int) : List Byte :=
  let ns := (t / 65536).toNat
  beBytes 6 (ns / 10 ^ 9) ++ beBytes 4 (ns % 10 ^ 9)

/-- One-step insertion (R56): the departure time in originTimestamp, its fraction of a nanosecond in correctionField, of the
PTP event message that a UDP frame without a tag carries. -/
def ptpInsert (t : Int) (f : List Byte) : List Byte :=
  f.take 50 ++ beBytes 8 (t % 65536).toNat ++ (f.drop 58).take 18 ++ ptpStamp t ++ f.drop 86

/-- A frame as it starts: a PTP event message of a port takes its departure time, which the servo keeps of a Delay_Req
(R53, R56). -/
def State.txStamped (s : State) (m : Nat) (f : String × List Byte) : State × (String × List Byte) :=
  let t := s.txStamp m
  if f.1 = "SYNC" then (s, f.1, ptpInsert t f.2)
  else if f.1 = "DELAY_REQ" then (s.modPort m fun x => { x with reqStamp := some t }, f.1, ptpInsert t f.2)
  else (s, f)

/-- The tag of a MAC's frames from a queue (R305): TX_VID, and the queue as PCP. -/
def State.txTag (s : State) (m q : Nat) : Option (Nat × Nat) :=
  if bit (s.rn (Reg.MAC_CFG m)) 6 then some (s.fld (Reg.MAC_CFG m) 18 7, q) else none

/-- The MAC starts the oldest frame of the highest queue that holds one and is not paused (R304), tagged, padded and with its
FCS (R305). -/
def State.txStart (s : State) (m : Nat) : State :=
  let x := s.mac m
  if x.sending.isSome then s
  else
    match ([7, 6, 5, 4, 3, 2, 1, 0].find? fun q => !(tabGetD x.txq q []).isEmpty && !s.paused m q) with
    | some q =>
      match tabGetD x.txq q [] with
      | f :: fs =>
        let (s, f) := s.txStamped m f
        s.setMac m { x with sending := some (f.1, wireFrame (s.txTag m q) f.2), txq := tabSet x.txq q fs }
      | [] => s
    | none => s

/-- A frame offered to a transmit queue of 64 frames; discarded and counted when it is full (R304). A disabled MAC transmits
nothing (R289). -/
def State.ethSend (s : State) (m q : Nat) (kind : String) (frame : List Byte) : State :=
  if s.macDisabled m then s
  else
    let x := s.mac m
    let l := tabGetD x.txq q []
    if 64 ≤ l.length then s.bump (Reg.MAC_TXQ_DROP m q)
    else (s.setMac m { x with txq := tabSet x.txq q (l ++ [(kind, frame)]) }).txStart m

/-- A MAC's own address, and its IPv4 address. -/
def State.macAddr (s : State) (m : Nat) : Nat := s.rn (Reg.MAC_ADDR_LO m) + 2 ^ 32 * s.fld (Reg.MAC_ADDR_HI m) 15 0
def State.macIp (s : State) (m : Nat) : Nat := s.rn (Reg.MAC_IPV4 m)

/-- A datagram of the device to a peer, from a UDP port of its own. -/
def State.udpFrame (s : State) (m sport peer : Nat) (summed : Bool) (data : List Byte) : List Byte :=
  etherFrame (peerMac peer) (s.macAddr m) 0x0800
    (ipv4Packet 17 Config.ipTtl (s.macIp m) (peerIp peer) [] (udpPacket (s.macIp m) (peerIp peer) sport (peerPort peer) summed data))

def State.udpSend (s : State) (m q : Nat) (kind : String) (sport peer : Nat) (data : List Byte) : State :=
  s.ethSend m q kind (s.udpFrame m sport peer true data)

/-- A pause write takes effect at the end of the frame being sent; a change of WINDOW or LIMIT restarts the paused times,
and an exempt queue 7 ignores the pause that it was under (R308, R312). -/
def State.pauseApply (s : State) (m : Nat) : State :=
  let x := s.mac m
  match x.pauseNext with
  | some (c, w) =>
    if x.sending.isSome then s
    else
      let restart := bits c 17 4 != bits x.pauseCfg 17 4 || bits w 9 0 != bits x.pauseWin 9 0
      let s := if bit c 2 && (tabGet? x.timers 7).isSome then s.pauseCount m else s
      let x := s.mac m
      let timers := if bit c 2 then tabErase x.timers 7 else x.timers
      let s := s.setMac m { x with pauseCfg := c, pauseWin := w, pauseNext := none, timers := timers }
      if restart then s.pauseRestart m else if timers == x.timers then s else s.pauseCount m
  | none => s

/-- A write of MAC_PAUSE_CFG or MAC_PAUSE_WIN (R289, R312). -/
def State.pauseWrite (s : State) (req : Requester) (m : Nat) (win : Bool) (v : Nat) : State :=
  let a := if win then Reg.MAC_PAUSE_WIN m else Reg.MAC_PAUSE_CFG m
  let ok := if win then decide (1 ≤ bits v 9 0 ∧ bits v 9 0 ≤ 1000 ∧ 1 ≤ bits v 25 16 ∧ bits v 25 16 ≤ 1000)
    else decide (10 ≤ bits v 17 4 ∧ bits v 17 4 ≤ 10000)
  if s.macDisabled m ∨ !ok then s.accErr req a true false
  else
    let v := if win then bits v 9 0 + 65536 * bits v 25 16 else bits v 17 0
    let s := s.wn a v
    (s.setMac m { s.mac m with pauseNext := some (s.rn (Reg.MAC_PAUSE_CFG m), s.rn (Reg.MAC_PAUSE_WIN m)) }).pauseApply m

/-- A pause or PFC frame sets timers (R306 to R309): the queues it names and its values in quanta. -/
def State.pauseFrame (s : State) (m : Nat) (named : List (Nat × Nat)) : State :=
  let s := s.pauseCount m
  let x := s.mac m
  let q7 := bit x.pauseCfg 2
  let set := named.filter fun n => !(q7 && n.1 == 7)
  let end_ := fun v => s.clk + ceilDiv (v * s.quantum m) 1250
  let timers := set.foldl (fun (t : Tab Nat) n => if n.2 = 0 then tabErase t n.1 else tabSet t n.1 (end_ n.2)) x.timers
  ((s.setMac m { x with timers := timers }).pauseCount m).txStart m

/-! ### Filters (R298 to R300) -/

/-- An entry of given fields: match bits of W3, action and target. -/
def fltWords (dmac etype udp : Nat) (m3 : Nat) : List Nat := [dmac % 2 ^ 32, dmac / 2 ^ 32 + 65536 * etype, udp, m3]

/-- The destination address of an ST 2110 path on a MAC (Table 10.4). -/
def State.pathDmac (s : State) (m ip : Nat) : Nat :=
  if 0xE0000000 ≤ ip ∧ ip < 0xF0000000 then 0x01005E000000 + ip % 2 ^ 23 else s.macAddr m

/-- The device's entries 0 to 15 of a MAC (Table 10.4); absent ones are 0. A receiver with a modify that waits has those of
both configurations (R101). -/
def State.devFilters (s : State) (m : Nat) : List (List Nat) :=
  let en := 2 ^ 31
  let act := fun a t => a * 256 + t * 2048
  let none_ := [0, 0, 0, 0]
  let mode := s.fld (Reg.TIME_PORT_CTRL m) 2 0
  let cfg := s.rn (Reg.MAC_CFG m)
  let own := s.macAddr m
  let st := ((List.range 64).flatMap fun k =>
    let r := tabGetD s.pipe.receivers (k / 2) {}
    (r.cfg :: r.next.toList).filterMap fun c =>
      let (ip, port) := if k % 2 = 0 then (c.p0Addr, c.p0Port) else (c.p1Addr, c.p1Port)
      if r.berth.isSome && bits c.cfg 3 0 == 0 && bit port 18 && bits port 17 16 == m then
        some (fltWords (s.pathDmac m ip) 0 (bits port 15 0) (en + 5 + act 1 (k / 2) + 65536 * (k % 2)))
      else none).eraseDups
  let st := if m < 4 then (st ++ List.replicate 8 none_).take 8 else List.replicate 8 none_
  [fltWords 0 0x0806 0 (en + 2 + act 5 6), fltWords own 0 0 (en + 1 + 2 * 64 + act 5 6), fltWords 0 0 0 (en + 3 * 64 + act 5 6),
    if m < 4 ∧ 1 ≤ mode ∧ mode ≤ 4 then fltWords 0 0 319 (en + 4 + act 2 0) else none_,
    if m < 4 ∧ 1 ≤ mode ∧ mode ≤ 3 then fltWords 0 0 320 (en + 4 + act 2 0) else none_,
    if bit cfg 19 then fltWords own 0 (s.fld Reg.FERRY_QMP_CFG 15 0) (en + 5 + act 4 0) else none_,
    if m < 4 ∧ bit cfg 20 then fltWords 0 0 5568 (en + 4 + act 3 0) else none_,
    if m = 4 then fltWords own 0 69 (en + 5 + act 5 5) else none_] ++ st

/-- A live entry of a MAC. -/
def State.filter (s : State) (m i : Nat) : List Nat :=
  if i < 16 then (s.devFilters m).getD i [0, 0, 0, 0] else (List.range 4).map fun j => s.rn (Reg.MAC_FLT m (4 * i + j))

/-- The entry that filters a frame whose first octet arrives now: one that a commit replaces in this clock still as it was
(R300). -/
def State.filterNow (s : State) (m i : Nat) : List Nat :=
  match (s.mac m).fltWas.find? fun e => e.1 == s.clk && e.2.1 == i with
  | some e => e.2.2
  | none => s.filter m i

/-- What the filter sees of a frame: destination, EtherType after a tag, VID and PCP when tagged, UDP destination port,
and IPv4 protocol. -/
structure FrameKey where
  dmac : Nat
  etype : Nat
  tag : Option (Nat × Nat)
  udp : Option Nat
  proto : Option Nat
  deriving DecidableEq, Repr

/-- An entry matches a frame when every field it enables matches (R298, Table 10.2). -/
def fltMatch (w : List Nat) (k : FrameKey) : Bool :=
  let m := w.getD 3 0
  bit m 31
    && (!bit m 0 || k.dmac == w.getD 0 0 + 2 ^ 32 * bits (w.getD 1 0) 15 0)
    && (!bit m 1 || k.etype == bits (w.getD 1 0) 31 16)
    && (!bit m 2 || k.udp == some (bits (w.getD 2 0) 15 0))
    && (match bits m 4 3 with
      | 0 => true
      | 1 => k.tag.isNone
      | 2 => k.tag.any fun t => t.1 == bits (w.getD 2 0) 27 16
      | _ => false)
    && (!bit m 5 || k.tag.any fun t => t.2 == bits (w.getD 2 0) 30 28)
    && (match bits m 7 6 with
      | 0 => true
      | 1 => k.proto == some 17
      | 2 => k.proto == some 1
      | _ => k.proto == some 2)

/-- The key of a frame without its FCS, its IPv4 checks (R296, R297) and the offset of its payload. -/
def frameKey (f : List Byte) : FrameKey × Bool × Nat :=
  let dmac := oct f 0 6
  let tagged := oct f 12 2 == 0x8100
  let o := if tagged then 18 else 14
  let etype := oct f (o - 2) 2
  let tag := if tagged then some (bits (oct f 14 2) 11 0, bits (oct f 14 2) 15 13) else none
  if etype = 0x0800 then
    let ihl := 4 * (oct f o 1 % 16)
    let total := oct f (o + 2) 2
    let proto := oct f (o + 9) 1
    let hdr := (f.drop o).take ihl
    let body := (f.drop (o + ihl)).take (total - ihl)
    let whole := oct f o 1 / 16 == 4 && decide (20 ≤ ihl ∧ ihl ≤ total ∧ o + total ≤ f.length) && onesSum hdr 0 == 65535
      && oct f (o + 6) 2 % 16384 == 0
    let ulen := oct body 4 2
    let pseudo := onesSum ((hdr.drop 12).take 8) (17 + ulen)
    let udpOk := decide (8 ≤ ulen ∧ ulen ≤ body.length) && (oct body 6 2 == 0 || onesSum (body.take ulen) pseudo == 65535)
    (⟨dmac, etype, tag, if proto = 17 then some (oct body 2 2) else none, some proto⟩,
      whole && (proto != 17 || udpOk), o + ihl)
  else (⟨dmac, etype, tag, none, none⟩, true, o)

/-- REASON of a filter commit (R300): 1 action not allowed, 2 reserved code, 3 queue out of range. -/
def fltReason (w : List Nat) : Nat :=
  let m := w.getD 3 0
  let a := bits m 10 8
  if a = 1 ∨ a = 2 then 1 else if 6 ≤ a ∨ bits m 4 3 = 3 then 2 else if a = 5 ∧ 3 < bits m 15 11 then 3 else 0

/-- A write of MAC_FLT_SEL (R300). -/
def State.fltSelWrite (s : State) (req : Requester) (m v : Nat) : State :=
  let i := bits v 5 0
  if i < 16 then s.accErr req (Reg.MAC_FLT_SEL m) true false
  else (s.wn (Reg.MAC_FLT_SEL m) i).wrWords (Reg.MAC_FLT_WIN m 0) (s.filter m i)

/-- GO of MAC_FLT_COMMIT (R289, R300). -/
def State.fltCommit (s : State) (req : Requester) (m : Nat) : State :=
  if s.macDisabled m then s.accErr req (Reg.MAC_FLT_COMMIT m) true false
  else
    let w := s.rdWords (Reg.MAC_FLT_WIN m 0) 4
    let r := fltReason w
    let i := s.fld (Reg.MAC_FLT_SEL m) 5 0
    let x := s.mac m
    if r = 0 then
      let was := x.fltWas.filter (·.1 == s.clk) ++ [(s.clk, i, s.filter m i)]
      ((s.setMac m { x with fltWas := was }).wn (Reg.MAC_FLT_STAT m) 0).wrWords (Reg.MAC_FLT m (4 * i)) w
    else s.wn (Reg.MAC_FLT_STAT m) (1 + 2 * r)

/-! ### Multicast (R303) -/

/-- An IGMP report leaves for a group: of version 2 when a version 2 querier has been heard, else a record of version 3
(4 as the group is joined, 2 in answer to a query). -/
def State.igmpSend (s : State) (m record g : Nat) : State :=
  let (dst, r) := igmpReport (s.mac m).igmp2 record g
  s.ethSend m 3 "IGMP_REPORT" (etherFrame (groupMac dst) (s.macAddr m) 0x0800 (ipv4Packet 2 1 (s.macIp m) dst routerAlert r))

/-- A group joined with an IGMP report; one beyond 1,024 is not made, and kept as such. -/
def State.igmpJoin (s : State) (m g : Nat) : State :=
  let x := s.mac m
  if x.groups.contains g then s
  else if 1024 ≤ x.groups.length then
    (s.setMac m { x with denied := if x.denied.contains g then x.denied else x.denied ++ [g] }).raise 163 m g
  else
    let s := s.setMac m { x with groups := x.groups ++ [g] }
    (s.wn (Reg.MAC_MCAST_COUNT m) (x.groups.length + 1)).igmpSend m 4 g

/-- Link of a MAC, and AN_FAIL with the auto-negotiation fault (R291, R292, Table 10.8). -/
def State.macLink (s : State) (m : Nat) (up fail : Bool) : State :=
  let s := (s.setFld (Reg.MAC_STAT m) 0 0 up.toNat).setFld (Reg.MAC_STAT m) 1 1 fail.toNat
  if fail then s.raiseOnce 164 m else s.condClear 164 m

end Sys2Proof.Machine
end

