-- ==== Sys2Proof/Machine/FrameIn.lean ====
section
/-!
DEFINITION. What the device's firmware does with frames of receive queues 4 to 7: ARP, ICMP, IGMP and TFTP
(10_ethernet.md R294, R302, R303).
-/
namespace Sys2Proof.Machine

/-- The octets after the Ethernet header of a frame, a tag skipped, and its EtherType. -/
def frameBody (f : List Byte) : Nat × List Byte :=
  if oct f 12 2 = 0x8100 then (oct f 16 2, f.drop 18) else (oct f 12 2, f.drop 14)

/-- An ARP request for the MAC's own address is answered (RFC 826). -/
def State.arpIn (s : State) (m : Nat) (b : List Byte) : State :=
  if oct b 0 2 = 1 ∧ oct b 2 2 = 0x0800 ∧ oct b 6 2 = 1 ∧ oct b 24 4 = s.macIp m ∧ s.macIp m ≠ 0 then
    s.ethSend m 3 "ARP_REPLY" (etherFrame (oct b 8 6) (s.macAddr m) 0x0806 (arpReply (s.macAddr m) (s.macIp m) (oct b 8 6) (oct b 14 4)))
  else s

/-- An ICMP echo request of up to 1,500 octets is answered with its identifier, sequence number and data (RFC 792), to the
MAC address it came from. -/
def State.icmpIn (s : State) (m src : Nat) (b : List Byte) : State :=
  let body := (b.take (oct b 2 2)).drop (4 * (oct b 0 1 % 16))
  if oct b 2 2 ≤ 1500 ∧ oct b 16 4 = s.macIp m ∧ oct body 0 2 = 0x0800 ∧ onesSum body 0 = 65535 then
    s.ethSend m 3 "ICMP_ECHO_REPLY" (etherFrame src (s.macAddr m) 0x0800
      (ipv4Packet 1 Config.ipTtl (s.macIp m) (oct b 12 4) [] (echoReply (body.drop 4))))
  else s

/-- An IGMP query (RFC 3376): one of 8 octets is a version 2 query, from which reports follow version 2; the groups it asks
for, all when it names none, are reported. -/
def State.igmpIn (s : State) (m : Nat) (b : List Byte) : State :=
  let body := (b.take (oct b 2 2)).drop (4 * (oct b 0 1 % 16))
  if oct body 0 1 ≠ 0x11 then s
  else
    let x := s.mac m
    let v2 := x.igmp2 || decide (body.length = 8)
    let s := s.setMac m { x with igmp2 := v2 }
    let asked := oct body 4 4
    (x.groups.filter fun g => asked == 0 || g == asked).foldl (fun s g => s.igmpSend m 2 g) s

/-- One frame of queue q of a MAC is served; a TFTP packet passes to the TFTP commands (log entry 14). -/
def State.serveFrame (s : State) (m q : Nat) (f : List Byte) : State :=
  let (etype, b) := frameBody f
  if etype = 0x0806 then s.arpIn m b
  else if etype ≠ 0x0800 then s
  else match oct b 9 1 with
    | 1 => s.icmpIn m (oct f 6 6) b
    | 2 => s.igmpIn m b
    | 17 => if q = 5 then s.send "TFTP" m (f.map (·.toNat)) else s
    | _ => s

/-- The oldest frame of the highest of receive queues 7 to 4 that holds one is served (R302). -/
def State.serveReceive (s : State) (m : Nat) : State :=
  let x := s.mac m
  match ([7, 6, 5, 4] : List Nat).find? fun q => !(tabGetD x.rxq q []).isEmpty with
  | some q => match tabGetD x.rxq q [] with
    | f :: fs => (s.setMac m { x with rxq := tabSet x.rxq q fs }).serveFrame m q f
    | [] => s
  | none => s

end Sys2Proof.Machine
end

