-- ==== Sys2Proof/Machine/QmpOps.lean ====
section
/-!
DEFINITION. QMP messages: responses, sessions, sequence numbers and the admission of a request (14_qmp_pier_ferry.md,
R401 to R409, R419).
-/
namespace Sys2Proof.Machine

/-- The requester a door stands for. -/
def doorReq : Door → Requester
  | .qmp env => .qmp env.session
  | .pier _ => .pier
  | .relay n _ => .relay n
  | .regs r => r

/-- PORT of a stale delivery's entry for a door (Table 15.8). -/
def doorPort (d : Door) : Nat := portOf (doorReq d)

def State.session? (s : State) (id : Nat) : Option Session := s.ferry.sessions.find? (·.id == id)

def State.modSession (s : State) (id : Nat) (f : Session → Session) : State :=
  { s with ferry := { s.ferry with sessions := s.ferry.sessions.map fun x => if x.id = id then f x else x } }

/-- Sessions set, with FERRY_QMP_SESSIONS. -/
def State.setSessions (s : State) (l : List Session) : State :=
  ({ s with ferry := { s.ferry with sessions := l } }).wn Reg.FERRY_QMP_SESSIONS l.length

/-- A MGMT packet to a node (R252, R268), on both ring groups in a ring. -/
def State.mgmtSend (s : State) (dest : Nat) (m : List Byte) : State :=
  (s.outGroups 3 dest).foldl (fun s g => s.originate g "MGMT" (mgmtPacket 0 s.nodeId dest m)) s

/-! ### Messages on the network (R401, R402, R406) -/

/-- A QMP datagram leaves on queue 6 of a MAC. -/
def State.qmpSend (s : State) (m peer : Nat) (p : List Byte) : State :=
  s.udpSend m 6 "QMP" (s.fld Reg.FERRY_QMP_CFG 15 0) peer p

/-- A message in a session: one opened with AUTH gives it the flag and its tag (R406). -/
def State.qmpTagged (s : State) (session flags type seq origin status : Nat) (body : List Byte) : List Byte :=
  let m := fun (auth : Bool) => qmpBytes (flags + 2 * auth.toNat) type session seq origin 0 status body
  match s.session? session with
  | some x => if x.auth then m true ++ hmac256 x.key (m true) else m false
  | none => m false

/-- A response with its body (R402, R408, R419): to a controller, kept for a repeat and sent on queue 6, a MALFORMED one
counted; to the Pier, on outbound queue 7; to a relaying node, as a MGMT packet. -/
def State.respondFrom (s : State) (d : Door) (origin type status : Nat) (body : List Byte) : State :=
  match d with
  | .qmp env =>
    let m := s.qmpTagged env.session 1 type env.seq origin status body
    let s := s.modSession env.session fun x => { x with responses := ((env.seq, m) :: x.responses).take 16 }
    let s := if status = 6 then s.bump Reg.FERRY_QMP_BAD else s
    s.qmpSend env.mac env.sender m
  | .pier seq => s.pierPush 7 3 0 (qmpBytes 1 type 0 seq origin 0 status body)
  | .relay node seq => s.mgmtSend node (qmpBytes 5 type 0 seq origin node status body)
  | .regs _ => s

/-- The response to a request; a refused one carries an empty body (R402). -/
def State.respond (s : State) (d : Door) (type status : Nat) (body : List Byte) : State :=
  s.respondFrom d s.nodeId type status (if status = 0 then body else [])

/-- AUTH_MODE in force: 0 while no venue key is set (R406). -/
def State.authMode (s : State) : Nat := if s.fld Reg.FERRY_QMP_CFG 18 18 = 1 then s.fld Reg.FERRY_QMP_CFG 17 16 else 0

/-- Types that AUTH_MODE 1 takes without a tag: OPEN, PING, READ, BERTH_QUERY and CUE_QUERY (R406). -/
def openType (type : Nat) : Bool := [0x01, 0x03, 0x10, 0x23, 0x33].contains type

/-- The bytes that the tag of a request covers: its header with AUTH, from a controller, and its body (Table 14.2). -/
def requestBytes (env : QmpEnv) (type : Nat) (body : List Byte) : List Byte :=
  qmpBytes 2 type env.session env.seq 0 env.target 0 body

/-- A request that needs a tag lacks one, or its tag does not check under a key (R406); without a key none does. -/
def State.authFails (s : State) (key : Option (List Byte)) (env : QmpEnv) (type : Nat) (body : List Byte) : Bool :=
  match env.tag with
  | some t => match key with
    | some k => t != hmac256 k (requestBytes env type body)
    | none => true
  | none => s.authMode == 2 || (s.authMode == 1 && !openType type)

/-- An AUTH answer, at most 10 in any second for each MAC; every failure is counted (R406). -/
def State.authAnswer (s : State) (env : QmpEnv) (type : Nat) : State :=
  let s := s.bump Reg.FERRY_QMP_AUTH_FAIL
  let l := tabGetD s.ferry.authSent env.mac []
  if 10 ≤ (l.filter fun c => !s.elapsed c (sec 1)).length then s
  else
    let s := { s with ferry := { s.ferry with authSent := tabSet s.ferry.authSent env.mac ((s.clk :: l).take 10) } }
    s.qmpSend env.mac env.sender (qmpBytes 1 type env.session env.seq s.nodeId 0 11 [])

/-- Whether a session accepts a SEQ (R407): greater than the greatest accepted, or within 64 below it and not yet
accepted. -/
def seqFresh (x : Session) (seq : Nat) : Bool :=
  match x.top with
  | none => true
  | some t => decide (t < seq) || (decide (t ≤ seq + 64) && !x.accepted.contains seq)

/-- A session takes a SEQ. -/
def seqTake (x : Session) (seq clk : Nat) : Session :=
  let top := max seq (x.top.getD 0)
  { x with top := some top, accepted := (seq :: x.accepted).filter fun q => decide (top ≤ q + 64), last := clk }

/-- The device is in service mode, where it serves only the Gangway (R499). -/
def State.serviceMode (s : State) : Bool := bit (s.rn Reg.SVC_STAT) 6

/-- A controller's request checked (R401 to R407): it must carry a live session and, where needed, a tag that checks, and
a SEQ not accepted before; a repeat within 64 of the greatest gets its stored response again. Answers whether the request goes on. -/
def State.checkQmp (s : State) (env : QmpEnv) (type : Nat) (body : List Byte) : State × Bool :=
  let m := s.mac env.mac
  let s := s.setMac env.mac { m with qmpIn := m.qmpIn - 1 }
  if s.serviceMode then (s, false) else match s.session? env.session with
  | none =>
    (s.qmpSend env.mac env.sender (qmpBytes 1 type env.session env.seq s.nodeId 0 1 []), false)
  | some x =>
    if s.authFails (s.venueKey.map fun _ => x.key) env type body then (s.authAnswer env type, false)
    else if seqFresh x env.seq then
      let s := s.modSession env.session fun x => seqTake x env.seq s.clk
      (s.bump Reg.FERRY_QMP_RX, true)
    else if env.seq + 64 < x.top.getD 0 then (s.bump Reg.FERRY_QMP_REPLAY, false)
    else match x.responses.find? (·.1 == env.seq) with
      | some r => ((s.modSession env.session fun x => { x with last := s.clk }).qmpSend env.mac env.sender r.2, false)
      | none => (s.bump Reg.FERRY_QMP_REPLAY, false)

/-! ### The arrival of a message (R401, R402) -/

/-- n items of a berth message, each ID, LEN and LEN bytes (R404). -/
def itemsFit : Nat → List Byte → Bool
  | 0, b => b.isEmpty
  | n + 1, b => decide (4 ≤ b.length ∧ 4 + oct b 2 2 ≤ b.length) && itemsFit n (b.drop (4 + oct b 2 2))

/-- Whether a request's body has the format of its TYPE (Table 14.3). -/
def bodyFits (type : Nat) (b : List Byte) : Bool :=
  let n := b.length
  let zeros := fun (i : Nat) => oct b i 3 == 0
  match type with
  | 0x01 => n == 16
  | 0x02 | 0x03 | 0x51 => n == 0
  | 0x10 => n == 12 && decide (1 ≤ oct b 8 2 ∧ oct b 8 2 ≤ 256)
  | 0x11 => decide (14 ≤ n ∧ 1 ≤ oct b 8 2 ∧ oct b 8 2 ≤ 256 ∧ n = 14 + 4 * oct b 8 2)
  | 0x12 =>
    let k := oct b 0 1
    decide (4 ≤ n ∧ 1 ≤ k ∧ k ≤ 16 ∧ n = 4 + 20 * k) && zeros 1 && (List.range k).all fun i => zeros (5 + 20 * i)
  | 0x20 => decide (10 ≤ n) && zeros 1 && itemsFit (oct b 8 2) (b.drop 10)
  | 0x21 => decide (6 ≤ n) && itemsFit (oct b 4 2) (b.drop 6)
  | 0x22 | 0x23 | 0x31 | 0x32 | 0x33 => n == 4
  | 0x30 => n == 64
  | 0x40 => n == 11
  | 0x50 => n == 1
  | 0x60 => decide (13 ≤ n ∧ n = 13 + oct b 12 1)
  | 0x70 => n == 5
  | 0x90 => n == 25
  | _ => true

/-- Types that a controller may send (Table 14.3). -/
def requestType (type : Nat) : Bool :=
  [0x01, 0x02, 0x03, 0x10, 0x11, 0x12, 0x20, 0x21, 0x22, 0x23, 0x30, 0x31, 0x32, 0x33, 0x40, 0x50, 0x51, 0x60, 0x70,
   0x90].contains type

/-- Types between devices, which a controller may not send (Table 14.3). -/
def internalType (type : Nat) : Bool := decide (0xA0 ≤ type ∧ type ≤ 0xAF)

/-- Types of a session, which neither the Pier nor a relayed request has: answered UNSUPPORTED (log entry 233). -/
def sessionType (type : Nat) : Bool := [0x01, 0x02, 0x70].contains type

/-- A request whose header or body breaks the format of Table 14.2 or of its TYPE (R402). -/
def messageBad (p : List Byte) : Bool :=
  let flags := oct p 3 1
  let len := oct p 6 2
  oct p 0 2 != 0x514D || oct p 2 1 != 1 || decide (8 ≤ flags) || oct p 24 8 != 0 || decide (8128 < len)
    || p.length != 32 + len + (if bit flags 1 then 32 else 0) || !bodyFits (oct p 4 2) ((p.drop 32).take len)

/-- The payload of a frame's UDP datagram, with its sender. -/
def udpPayload (f : List Byte) : Nat × List Byte :=
  let (_, b) := frameBody f
  let u := b.drop (4 * (oct b 0 1 % 16))
  (peerOf (oct f 6 6) (oct b 12 4) (oct u 0 2), (u.take (oct u 4 2)).drop 8)

/-- A QMP datagram arrives at a MAC (R401, R402): one too short, or one that is no request, is discarded and counted; one of
a wrong format is answered MALFORMED; a type that a controller may not send is answered UNSUPPORTED, after the checks of
a request; any other goes to the command of its type. -/
def State.qmpArrive (s : State) (m : Nat) (f : List Byte) : State :=
  let (sender, p) := udpPayload f
  let x := s.mac m
  let type := oct p 4 2
  let env : QmpEnv := ⟨m, sender, oct p 8 4, oct p 12 4, if bit (oct p 3 1) 1 then some (p.drop (p.length - 32)) else none, oct p 20 4⟩
  if s.serviceMode then s
  else if p.length < 32 ∨ bit (oct p 3 1) 0 then s.bump Reg.FERRY_QMP_BAD
  else if messageBad p then
    (s.bump Reg.FERRY_QMP_BAD).qmpSend m sender (s.qmpTagged env.session 1 type env.seq s.nodeId 6 [])
  else
    let s := s.setMac m { x with qmpIn := x.qmpIn + 1 }
    if requestType type || (!(env.target == 0 || env.target == s.nodeId) && !internalType type) then
      s.send "QMP" m (f.map (·.toNat))
    else match s.checkQmp env type ((p.drop 32).take (oct p 6 2)) with
      | (s, true) => s.respond (.qmp env) type 10 []
      | (s, false) => s

/-- A QMP message arrives on an inbound queue of the Pier (R402, R419). -/
def State.qmpPierArrive (s : State) (q : Nat) (p : List Byte) : State :=
  let type := oct p 4 2
  let d := Door.pier (oct p 12 4)
  if p.length < 32 ∨ bit (oct p 3 1) 0 then s
  else if messageBad p then s.respond d type 6 []
  else
    let here := oct p 20 4 == 0 || oct p 20 4 == s.nodeId
    if (requestType type && !(here && sessionType type)) || (!here && !internalType type) then
      s.send "QMP_PIER" q (p.map (·.toNat))
    else s.respond d type 10 []

/-- A message of another device is delivered to the command of its type; a relayed request of a wrong format, or of a type
that no device performs for another, is answered (R402, R408). -/
def State.qmpDeliver (s : State) (group origin seq : Nat) (p : List Byte) : State :=
  let type := oct p 4 2
  let d := Door.relay origin (oct p 12 4)
  if oct p 3 1 % 8 = 4 ∧ messageBad p = true then s.respond d type 6 []
  else if oct p 3 1 % 8 = 4 ∧ (sessionType type = true ∨ requestType type = false) then s.respond d type 10 []
  else s.send "DELIVER" group (origin :: seq :: p.map (·.toNat))

/-! ### Bodies of requests (Tables 13.4, 14.3), which tags cover -/

def readBody (addr count snapId : Nat) : List Byte := beBytes 8 addr ++ beBytes 2 count ++ beBytes 2 snapId
def writeBody (addr group : Nat) (data : List Word) : List Byte :=
  beBytes 8 addr ++ beBytes 2 data.length ++ beBytes 4 group ++ data.flatMap fun w => beBytes 4 w.toNat
def seqBody (ops : List SeqOp) : List Byte :=
  beBytes 1 ops.length ++ zeros 3 ++ ops.flatMap fun o =>
    beBytes 1 o.op ++ zeros 3 ++ beBytes 8 o.addr ++ beBytes 4 o.value.toNat ++ beBytes 4 o.mask.toNat
def paramItems (ps : List Param) : List Byte :=
  beBytes 2 ps.length ++ ps.flatMap fun p => beBytes 2 p.id ++ beBytes 2 p.len ++ p.value
def createBody (kind resource : Nat) (ps : List Param) : List Byte :=
  beBytes 1 kind ++ zeros 3 ++ beBytes 4 resource ++ paramItems ps
def snapBody (id at64 : Nat) (tiles caravan : Bool) : List Byte :=
  beBytes 2 id ++ beBytes 1 (tiles.toNat + 2 * caravan.toNat) ++ beBytes 8 at64
def rdmRequestBody (port cc uid sub pid : Nat) (pd : List Byte) : List Byte :=
  beBytes 1 port ++ beBytes 1 cc ++ beBytes 6 uid ++ beBytes 2 sub ++ beBytes 2 pid ++ beBytes 1 pd.length ++ pd

/-- The device itself is meant: TARGET 0 or its node ID (Table 14.2). -/
def State.meant (s : State) (env : QmpEnv) : Bool := env.target == 0 || env.target == s.nodeId

/-- Admission of a request: one that names another node is relayed by QMP_RELAY and not performed here (R408). -/
def State.admitReq (s : State) (d : Door) (type : Nat) (body : List Byte) : State × Bool :=
  match d with
  | .qmp env =>
    let (s, ok) := s.checkQmp env type body
    (s, ok && s.meant env)
  | _ => (s, !s.serviceMode)

/-- A request of a type and body admitted, performed by f under its requester's name (R39). -/
def State.request (s : State) (d : Door) (type : Nat) (body : List Byte) (f : State → State) : State :=
  match s.admitReq d type body with
  | (s, true) => s.asking (doorReq d) f
  | (s, false) => s

/-- A relayed request's response returns (R408): it goes to the controller, or the Pier, under its own session and SEQ. Answers whether
the message was one. -/
def State.relayReturn (s : State) (m : List Byte) : State × Bool :=
  let fld := fun (i n : Nat) => beNat ((m.drop i).take n)
  let mine := s.ferry.relayed.find? fun r => fld 3 1 % 8 == 5 && r.seq == fld 12 4 && r.type == fld 4 2
  match mine with
  | some r =>
    let s := { s with ferry := { s.ferry with relayed := s.ferry.relayed.filter fun x => x.seq != r.seq } }
    (s.respondFrom r.door (fld 16 4) r.type (fld 24 1) ((m.drop 32).take (fld 6 2)), true)
  | none => (s, false)

end Sys2Proof.Machine
end

