-- ==== Sys2Proof/Machine/CalOps.lean ====
section
/-!
DEFINITION. The calibration engine: bin profiles, per-pixel entries, brightness and the steps of Table 05.2
(05_pixel_calibration.md, R141 to R156).
-/
namespace Sys2Proof.Machine

/-! ### Bin profiles -/

/-- The words of CAL_BIN_WIN at reset (R149): one valid point at 400 with the identity and clamps of 65,535. -/
def binReset : List Nat := (List.range 64).map fun i => regReset (Reg.CAL_BIN_WIN i)

/-- The live words of a profile. -/
def State.bin (s : State) (p : Nat) : List Nat := tabGetD s.cal.bins p binReset

/-- Halfword k of point slot i of a profile (Table 05.4). -/
def binHw (w : List Nat) (i k : Nat) : Nat := bits (w.getD (8 * i + k / 2) 0) (16 * (k % 2) + 15) (16 * (k % 2))

def binTemp (w : List Nat) (i : Nat) : Int := signed 16 (binHw w i 0)
def binValid (w : List Nat) (i : Nat) : Bool := bit (binHw w i 1) 0

/-- The twelve terms of a point: nine coefficients row by row, then three clamps. -/
def binTerms (w : List Nat) (i : Nat) : List Int :=
  ((List.range 9).map fun k => signed 16 (binHw w i (2 + k))) ++ (List.range 3).map fun k => ((binHw w i (11 + k) : Nat) : Int)

/-- N of a profile: its valid slots from slot 0. -/
def binPoints (w : List Nat) : Nat := ((List.range 8).takeWhile fun i => binValid w i).length

/-- The first slot that breaks R148. -/
def binBad (w : List Nat) : Option Nat :=
  if !binValid w 0 then some 0
  else (List.range 8).find? fun i =>
    binValid w i && (decide (binPoints w ≤ i) || !decide (-640 ≤ binTemp w i ∧ binTemp w i ≤ 1680)
      || (decide (0 < i) && decide (binTemp w i < binTemp w (i - 1) + 16)))

/-- The terms of a profile at a temperature (R151). -/
def binInterp (w : List Nat) (t : Int) : List Int :=
  let n := binPoints w
  if n ≤ 1 ∨ t ≤ binTemp w 0 then binTerms w 0
  else if binTemp w (n - 1) ≤ t then binTerms w (n - 1)
  else
    let k := (((List.range (n - 1)).filter fun i => decide (binTemp w i ≤ t)).getLast?).getD 0
    let q := (t - binTemp w k) * 65536 / (binTemp w (k + 1) - binTemp w k)
    List.zipWith (fun a b => a + ((b - a) * q + 32768) / 65536) (binTerms w k) (binTerms w (k + 1))

/-! ### The calibration store -/

/-- The Hold address of a canvas pixel's entry (R144). -/
def State.calAddr (s : State) (x y : Nat) : Nat := s.rn Reg.CAL_STORE_BASE + (y * s.canvasW + x) * 12

/-- A 96-bit entry at a canvas pixel (Table 05.3). -/
def State.calEntry (s : State) (x y : Nat) : Nat := s.holdNat (s.calAddr x y) 12

/-- The K field i of an entry, R to R first, row by row. -/
def calK (e i : Nat) : Int := signed 10 (bits e (10 * i + 9) (10 * i))

/-- The pixel matrix in steps of 1/2,048 for the off-diagonal and 1/512 for the diagonal terms (R144, R145). -/
def calTerm (e : Nat) (plain : Bool) (i j : Nat) : Int :=
  let k := if plain || bit e 93 then 0 else calK e (3 * i + j)
  if i = j then k + 512 else k

/-! ### The steps of Table 05.2 -/

/-- Component i of three numbers. -/
def comp3 (v : Nat × Nat × Nat) (i : Nat) : Nat :=
  match i with
  | 0 => v.1
  | 1 => v.2.1
  | _ => v.2.2

/-- The outputs of a pixel from its codes, the bin terms, the entry, the pixel enable and the brightness (R141, R142). -/
def calPixel (terms : List Int) (entry : Nat) (pixelEn : Bool) (gb : Nat) (code : Nat × Nat × Nat) : Nat × Nat × Nat :=
  let lin := fun j => ((decode20 (comp3 code j) : Nat) : Int)
  let x := fun i => clampI 0 2097151
    ((terms.getD (3 * i) 0 * lin 0 + terms.getD (3 * i + 1) 0 * lin 1 + terms.getD (3 * i + 2) 0 * lin 2 + 4096) / 8192)
  let out := fun i =>
    let term := fun j => (if i = j then 4 else 1) * calTerm entry (!pixelEn) i j * x j
    let y := clampI 0 1048575 ((term 0 + term 1 + term 2 + 1024) / 2048)
    let z := (y.toNat * gb + 2048) / 4096
    if bit entry (90 + i) then 0 else min (min 65535 ((z + 8) / 16)) (terms.getD (9 + i) 0).toNat
  (out 0, out 1, out 2)

/-- The terms of R142 with BIN_EN clear. -/
def binIdentity : List Int := [8192, 0, 0, 0, 8192, 0, 0, 0, 8192, 65535, 65535, 65535]

/-! ### Brightness -/

/-- Gb of a tally under a ramp (R155). -/
def rampAt (r : Ramp) (n : Nat) : Nat :=
  if r.len = 0 then r.g1
  else ((r.g0 : Int) + ((r.g1 : Int) - r.g0) * (min (n - r.eff + 1) r.len : Nat) / (r.len : Nat)).toNat

/-- Gb(n) (R154, R155). -/
def State.bright (s : State) (n : Nat) : Nat :=
  match s.cal.ramps.find? fun r => decide (r.eff ≤ n) with
  | some r => rampAt r n
  | none => s.cal.base

/-- A brightness commit takes effect from tally k (R155): its ramp starts from Gb(k − 1); a later commit to the same
edge replaces it (R129). -/
def State.startRamp (s : State) (g1 n k : Nat) : State :=
  let old := s.cal.ramps.filter fun r => decide (r.eff < k)
  let s := { s with cal := { s.cal with ramps := old } }
  let r : Ramp := { g0 := s.bright (k - 1), g1 := g1, len := n, eff := k }
  ({ s with cal := { s.cal with ramps := (r :: old).take 64 } }).wn Reg.CAL_BRIGHT_EFF k

/-! ### Writes -/

/-- A write of CAL_CTRL is a commit (R142). -/
def State.calCtrlWrite (s : State) (v : Nat) (cue : Option Nat := none) : State :=
  (s.wn Reg.CAL_CTRL (bits v 2 0)).submit (.calCtrl (bits v 2 0)) true cue

/-- A write of CAL_TEMP_DEFAULT (Table 05.6): a value out of range is ignored; it changes the picture, so that it is a commit
(R38). -/
def State.tempDefaultWrite (s : State) (v : Nat) (cue : Option Nat := none) : State :=
  let t := signed 16 (bits v 15 0)
  if -640 ≤ t ∧ t ≤ 1680 then (s.wn Reg.CAL_TEMP_DEFAULT (bits v 15 0)).submit (.tempDefault t) true cue else s

/-- A write of CAL_BIN_SEL (R150). -/
def State.binSelWrite (s : State) (req : Requester) (v : Nat) : State :=
  if bit (s.rn Reg.CAL_BIN_STAT) 0 then s.accErr req Reg.CAL_BIN_SEL true false
  else (s.wn Reg.CAL_BIN_SEL (bits v 7 0)).wrWords (Reg.CAL_BIN_WIN 0) (s.bin (bits v 7 0))

/-- A write of GO of CAL_BIN_COMMIT: the shadow is one commit (R150). -/
def State.binCommit (s : State) (cue : Option Nat := none) : State :=
  (s.setFld Reg.CAL_BIN_STAT 0 0 1).submit
    (.binProfile (s.fld Reg.CAL_BIN_SEL 7 0) (s.rdWords (Reg.CAL_BIN_WIN 0) 64)) true cue

/-- A write of CAL_BRIGHT_TARGET (R155). -/
def State.brightWrite (s : State) (req : Requester) (v : Nat) (cue : Option Nat := none) : State :=
  if 4096 < v then s.accErr req Reg.CAL_BRIGHT_TARGET true false
  else (s.wn Reg.CAL_BRIGHT_TARGET v).submit (.bright v (s.fld Reg.CAL_BRIGHT_RAMP 15 0)) true cue

/-- Input code and brightness of ambient point p (R156). -/
def State.ambPoint (s : State) (p : Nat) : Nat × Nat := (s.fld (Reg.CAL_AMB_PT p) 11 0, s.fld (Reg.CAL_AMB_PT p) 28 16)

/-- The ambient points rise strictly in input code. -/
def State.ambRising (s : State) : Bool := (List.range 7).all fun p => decide ((s.ambPoint p).1 < (s.ambPoint (p + 1)).1)

/-- A write of CAL_AMB_CFG: AMBIENT set while the points do not rise is ignored and counted (text after R158). -/
def State.ambWrite (s : State) (req : Requester) (v : Nat) : State :=
  if bit v 0 ∧ s.ambRising = false then s.accErr req Reg.CAL_AMB_CFG true false else s.wn Reg.CAL_AMB_CFG v

/-- The brightness of an ambient input code: linear between points with floor rounding, flat beyond them (R156). -/
def State.ambLevel (s : State) (code : Nat) : Nat :=
  if code ≤ (s.ambPoint 0).1 then (s.ambPoint 0).2
  else if (s.ambPoint 7).1 ≤ code then (s.ambPoint 7).2
  else
    let k := (((List.range 7).filter fun p => decide ((s.ambPoint p).1 ≤ code)).getLast?).getD 0
    let (x0, y0) := s.ambPoint k
    let (x1, y1) := s.ambPoint (k + 1)
    ((y0 : Int) + ((y1 : Int) - y0) * ((code - x0 : Nat) : Int) / ((x1 - x0 : Nat) : Int)).toNat

/-- The target of an ambient input code, within the range of Gb (R154; log entry 227). -/
def State.ambTarget (s : State) (code : Nat) : Nat := min 4096 (s.ambLevel code)

end Sys2Proof.Machine
end

