-- ==== Sys2Proof/Machine/ScanOps.lean ====
section
/-!
DEFINITION. The tile map, lane load, discovery, matching, calibration uploads and tile hold
(05_pixel_calibration.md R159 to R167, 06_scanout_tiles.md R168 to R192).
-/
namespace Sys2Proof.Machine

def State.mapWords (s : State) (t : Nat) : List Nat := tabGetD s.scan.map t []
def State.liveWords (s : State) (t : Nat) : List Nat := tabGetD s.scan.live t []
def State.tileEntry (s : State) (t : Nat) : TileEntry := tabGetD s.scan.entries t {}
def State.chainLen (s : State) (l : Nat) : Nat := tabGetD s.scan.chain l 0

/-- The words that place an entry's region now: those of an older placement while a new image is awaited (R192). -/
def State.placed (s : State) (t : Nat) : List Nat :=
  let w := s.liveWords t
  match (s.tileEntry t).place with
  | some p => (w.take 3) ++ p.take 3 ++ w.drop 6
  | none => w

/-! ### Registers that follow the tiles -/

/-- Whether an entry's tile is present: matched and not lost (R187 to R189). -/
def TileEntry.present (e : TileEntry) : Bool := e.state != 0 && e.state != 3

/-- CAL_TILE_STAT and SCAN_TILE_STAT of an entry (Tables 05.9, 06.7); TEMP keeps the value of the last raster. -/
def State.tileRegs (s : State) (t : Nat) : State :=
  let e := s.tileEntry t
  let st := e.status
  let heard := fun (f : TileStatus → Bool) => (st.any f).toNat
  let state := if e.state = 1 ∧ e.held then 2 else e.state
  let s := s.wn (Reg.SCAN_TILE_STAT t) (if e.state = 0 then 0 else
    state + 8 * e.moved.toNat + 16 * heard (·.hearsA) + 32 * heard (·.hearsB) + 64 * e.pos + 4096 * e.lane
      + 2 ^ 17 * heard (·.incomplete) + 2 ^ 24 * (e.epoch % 256))
  let long : Bool := match e.heldSince with
    | some c => s.elapsed c (sec 1)
    | none => false
  s.setFld (Reg.CAL_TILE_STAT t) 15 0 (e.cal + 8 * e.binDiff.toNat + 16 * long.toNat + 32 * e.upload.attempts)

/-- A tile found at a place that has sent a status within 200 µs is still there (R190, R191). -/
def State.foundHere (s : State) (f : Found) : Bool := !s.elapsed f.lastStatus (us 200)

/-- Unmapped tiles present, each identity once (R190). -/
def State.unmapped (s : State) : Nat :=
  ((s.scan.found.filter fun f => f.2.entry.isNone && s.foundHere f.2).foldl
    (fun (l : List Nat) f => if l.contains f.2.ident then l else f.2.ident :: l) []).length

/-- SCAN_STAT: tiles present, tiles held and ALL_HELD; SCAN_UNMAPPED (Table 06.5). -/
def State.scanSettle (s : State) : State :=
  let here := s.scan.entries.filter fun e => e.2.present
  let held := here.filter fun e => e.2.held
  let all := decide (0 < here.length ∧ held.length = here.length)
  let s := s.wn Reg.SCAN_STAT (here.length + 4096 * held.length + 2 ^ 24 * all.toNat)
  s.wn Reg.SCAN_UNMAPPED s.unmapped

def State.setEntry (s : State) (t : Nat) (e : TileEntry) : State :=
  (({ s with scan := { s.scan with entries := tabSet s.scan.entries t e } }).tileRegs t).scanSettle

/-! ### Lane load (R171, R236) -/

/-- Bytes an entry costs each of its lanes in a frame. -/
def entryLoad (w : List Nat) : Nat := mH w * (32 * ceilDiv (mW w) 128 + 6 * mW w)

/-- L of R171 over the enabled entries of a map that name a lane. -/
def laneLoad (map : Tab (List Nat)) (l : Nat) : Nat :=
  (map.filter fun e => mEnable e.2 && (mEnds e.2).contains l).foldl (fun a e => a + entryLoad e.2) 0

/-- 8 × L ≤ 0.95 × R × W at a rate code, W the raster length (31T/32, or T/4 − 100 µs), in exact arithmetic. -/
def State.loadFits (s : State) (rate load : Nat) : Bool :=
  let c := s.rate
  -- both sides times 66 × 20 × 320,000 × rate_num
  let w : Int := if s.chase then 80000 * (rateDen c : Int) - 32 * (rateNum c : Int) else 310000 * (rateDen c : Int)
  decide (((8 * load * 66 * 20 * 320000 * rateNum c : Nat) : Int) ≤ 19 * (kbaud rate * 1000 * 64 : Nat) * w)

/-- The local ends of the chain that a lane feeds: both of a loop (R179). -/
def State.chainLanes (s : State) (l : Nat) : List Nat :=
  match s.scan.live.find? fun e => mEnable e.2 && mFeed e.2 == 1 && (mEnds e.2).contains l with
  | some e => mEnds e.2
  | none => [l]

/-- The lanes on which an entry's packets leave: its local ends, or those of the chain where a moved tile was found
(R179, R188). -/
def State.sendLanes (s : State) (t : Nat) : List Nat :=
  let e := s.tileEntry t
  if e.moved then s.chainLanes e.lane else mEnds (s.liveWords t)

/-- The lowest rate code that the tiles found on a lane report for the hops that its traffic crosses (R236): each tile's port
toward the lane, and the other one of a tile with another behind it; the highest while no tile reports two rates. -/
def State.tileRate (s : State) (l : Nat) : Nat :=
  let ts := s.scan.found.filter fun f => f.1 / 64 == l
  let last := ts.foldl (fun m f => max m f.1) 0
  if ts.any fun f => decide (f.1 < last) && f.2.rateA != f.2.rateB then
    ts.foldl (fun r f =>
      let near := if s.endB l then f.2.rateB else f.2.rateA
      let far := if s.endB l then f.2.rateA else f.2.rateB
      min r (if f.1 < last then min near far else near)) 4
  else 4

/-- The rate that a lane's load is judged at: as configured (R171), lowered by R236, and for what is in service as reached. -/
def State.ruleRate (s : State) (l : Nat) : Nat := min (s.laneCfgRate l) (s.tileRate l)
def State.liveRate (s : State) (l : Nat) : Nat :=
  if s.linked l then min (s.ruleRate l) (s.laneRate l) else s.ruleRate l

/-- The load of a lane in service: entries that name it, and tiles found on it away from their entries (R188). -/
def State.liveLoad (s : State) (l : Nat) : Nat :=
  laneLoad s.scan.map l + (s.scan.entries.filter fun e => e.2.present && e.2.moved && (s.sendLanes e.1).contains l
    && !(mEnds (s.mapWords e.1)).contains l).foldl (fun a e => a + entryLoad (s.mapWords e.1)) 0

/-- SCAN_LINK_LOAD and OVERLOAD of a lane. -/
def State.linkLoad (s : State) (l : Nat) : State :=
  let s := s.wn (Reg.SCAN_LINK_LOAD l) (laneLoad s.scan.map l)
  let heavy := s.laneRole l == 5 && s.linked l && !s.loadFits (s.liveRate l) (s.liveLoad l)
  s.setFld (Reg.SCAN_LINK_STAT l) 15 15 heavy.toNat

/-! ### Map commits (R168, R169, R192) -/

/-- REASON of a tile-map entry against a map with the other entries (Table 06.5); several broken rules report the first
of 5, 1, 3, 4, 2 (DESIGN CHOICE, log entry 21). -/
def State.mapReason (s : State) (map : Tab (List Nat)) (chain : Nat → Nat) (t : Nat) (w : List Nat) : Nat :=
  if !mEnable w then 0
  else
    let ends := mEnds w
    let others := map.filter fun e => e.1 != t && mEnable e.2
    if mW w = 0 ∨ 512 < mW w ∨ mH w = 0 ∨ 512 < mH w ∨ ends.any (fun l => decide (24 ≤ l ∨ chain l ≤ mPos w)) then 5
    else if s.canvasW < mX w + mW w ∨ s.canvasH < mY w + mH w then 1
    else if ends.any (fun l => s.laneRole l != 5) then 3
    else if others.any (fun e => ((mEnds e.2).any ends.contains && mPos e.2 == mPos w)
        || (!mBind e.2 && !mBind w && mIdent e.2 == mIdent w)) then 4
    else if ends.any (fun l => !s.loadFits (s.ruleRate l) (laneLoad (tabSet map t w) l)) then 2
    else 0

/-- The result of a map commit in SCAN_MAP_STAT. -/
def State.mapStat (s : State) (reason : Nat) : State :=
  s.setFld Reg.SCAN_MAP_STAT 4 0 (2 * (decide (reason ≠ 0)).toNat + 4 * reason)

/-- A write of SCAN_MAP_SEL (R168). -/
def State.mapSelWrite (s : State) (req : Requester) (v : Nat) : State :=
  if bit (s.rn Reg.SCAN_MAP_STAT) 0 then s.accErr req Reg.SCAN_MAP_SEL true false
  else (s.wn Reg.SCAN_MAP_SEL (bits v 10 0)).wrWords (Reg.SCAN_MAP_WIN 0)
    ((List.range 8).map fun i => (s.mapWords (bits v 10 0)).getD i 0)

/-- A write of GO of SCAN_MAP_COMMIT: the shadow is one commit (R168). -/
def State.mapCommit (s : State) (cue : Option Nat := none) : State :=
  (s.setFld Reg.SCAN_MAP_STAT 0 0 1).submit
    (.mapEntry (s.fld Reg.SCAN_MAP_SEL 10 0) (s.rdWords (Reg.SCAN_MAP_WIN 0) 8)) true cue

/-- A write of SCAN_LINK_CFG is a map commit (text after Table 06.5). -/
def State.linkCfgWrite (s : State) (l v : Nat) (cue : Option Nat := none) : State :=
  ((s.wn (Reg.SCAN_LINK_CFG l) (bits v 6 0)).setFld Reg.SCAN_MAP_STAT 0 0 1).submit (.linkCfg l (bits v 6 0)) true cue

/-- A write of SCAN_SUBFRAME: 1 to 32, other values ignored (R177). -/
def State.subframeWrite (s : State) (v : Nat) (cue : Option Nat := none) : State :=
  if 1 ≤ v ∧ v ≤ 32 then (s.wn Reg.SCAN_SUBFRAME v).submit (.subframe v) true cue else s

/-- A write of SCAN_CTRL (Table 06.6): out of range, it is ignored as a whole and counted. -/
def State.scanCtrlWrite (s : State) (req : Requester) (v : Nat) (cue : Option Nat := none) : State :=
  let w := (bit v 0).toNat + 16 * bits v 11 4 + 2 ^ 13 * bits v 24 13
  if bits v 11 4 = 0 ∨ bits v 24 13 < 16 then s.accErr req Reg.SCAN_CTRL true false
  else (s.wn Reg.SCAN_CTRL w).submit (.scanCtrl w) true cue

/-! ### Overlap (R147) -/

def inRegion (w : List Nat) (x y : Nat) : Bool :=
  decide (mX w ≤ x ∧ x < mX w + mW w ∧ mY w ≤ y ∧ y < mY w + mH w)

/-- Whether a canvas pixel lies in the regions of two or more entries. -/
def State.overlapped (s : State) (x y : Nat) : Bool :=
  decide (1 < (s.scan.live.filter fun e => mEnable e.2 && inRegion e.2 x y).length)

/-- CAL_OVERLAP counted again, and the entries of overlapped pixels the identity (R147). -/
def State.overlapSettle (s : State) : State :=
  let px := (List.range (s.canvasW * s.canvasH)).filter fun i => s.overlapped (i % s.canvasW) (i / s.canvasW)
  let s := s.wn Reg.CAL_OVERLAP px.length
  px.foldl (fun s i => s.writeHold (s.calAddr (i % s.canvasW) (i / s.canvasW)) (leBytes 12 0)) s

/-! ### Calibration uploads (R159 to R167) -/

/-- The temporary area returned; what the twin has said of the image stays. -/
def State.uploadEnd (s : State) (t : Nat) : State :=
  let e := s.tileEntry t
  let s := if 2 ≤ e.upload.step then s.stageFree e.upload.unit else s
  s.setEntry t { e with upload := { attempts := e.upload.attempts, peer := e.upload.peer } }

/-- The region of an entry's words: XO, YO, WR, HR and ORIENT. -/
def regionKey (w : List Nat) : List Nat := [mX w, mY w, mW w, mH w, mOrient w]

/-- BIN_MISMATCH of an entry, with the Notice that names the tile while BIN of its image differs from the map's (R166). -/
def State.binJudge (s : State) (t : Nat) : State :=
  let e := s.tileEntry t
  match e.calBin with
  | none => s
  | some b =>
    let differs := b != mBin (s.liveWords t)
    let s := s.setEntry t { e with binDiff := differs }
    if differs then s.raise 69 t b else s

/-- Calibration state of an entry taken (Table 05.9), the calibration-missing fault standing while it is MISSING or
FAILED (R165). -/
def State.setCal (s : State) (t c : Nat) : State :=
  let s := s.setEntry t { s.tileEntry t with cal := c }
  let s := if 2 ≤ c ∧ c ≤ 4 then { s with cal := { s.cal with readyAt := s.clk } } else s
  if c = 3 ∨ c = 4 then s.raiseOnce 68 t c else s.condClear 68 t

/-- A CAL_PULL of the tile of an entry (Table 08.13). -/
def State.calPull (s : State) (t offset length : Nat) : State :=
  let e := s.tileEntry t
  s.packet (8 + e.lane) "CAL_PULL" (calPullPacket (s.towardA e.lane) e.pos e.epoch offset length)

/-- An attempt of an upload starts with its temporary area and the header pull, or waits for staging (R162). -/
def State.uploadStart (s : State) (t : Nat) : State :=
  let e := s.tileEntry t
  if e.upload.step ≠ 1 ∨ !e.present then s
  else
    let n := ceilDiv (e.upload.width * e.upload.height * 12) 65536
    match s.stageAlloc n with
    | none => s.setCal t 5
    | some (u, s) =>
      let s := s.setEntry t { e with upload := { e.upload with step := 2, started := s.clk, unit := u, units := n } }
      (s.setCal t 1).calPull t 0 32

/-- A new upload of an entry (R162, R165, R167): a tile that declares no image is MISSING at once. -/
def State.uploadNew (s : State) (t : Nat) (reload : Bool := false) : State :=
  let s := s.uploadEnd t
  let e := s.tileEntry t
  if e.calSize = 0 then (s.setEntry t { e with upload := {} }).setCal t 3
  else (s.setEntry t { e with upload := { step := 1, width := e.width, height := e.height, reload := reload } }).uploadStart t

/-- An attempt fails (R160, R165): after three the tile is FAILED. -/
def State.uploadFail (s : State) (t : Nat) : State :=
  let s := s.bump Reg.CAL_UPLOAD_FAIL
  let e := s.tileEntry t
  let e := { e with upload := { e.upload with attempts := e.upload.attempts + 1 } }
  let s := s.setEntry t e
  if 3 ≤ e.upload.attempts then (s.uploadEnd t).setCal t 4
  else
    let s := s.setEntry t
      { e with upload := { e.upload with step := 2, started := s.clk, header := [], got := [] } }
    s.calPull t 0 32

/-- The header's checks (R160): magic, version, entry size, its CRC and the tile-map region. -/
def State.headerOk (s : State) (t : Nat) (h : List Byte) : Bool :=
  let w := s.liveWords t
  let (rw, rh) := regionOf (mOrient w) (pkt h 6 2) (pkt h 8 2)
  pkt h 0 4 == 0x4843414C && pkt h 4 1 == 1 && pkt h 10 2 == 12 && (crc32c (h.take 28)).toNat == pkt h 28 4
    && rw == mW w && rh == mH w

/-- A run of bytes joined to the runs received. -/
def runInsert (o n : Nat) : List (Nat × Nat) → List (Nat × Nat)
  | [] => [(o, n)]
  | (a, m) :: rs =>
    if o + n < a then (o, n) :: (a, m) :: rs
    else if a + m < o then (a, m) :: runInsert o n rs
    else runInsert (min o a) (max (o + n) (a + m) - min o a) rs

/-- The first tally whose raster starts at or after a ledger time (R162). -/
def State.firstRaster (s : State) (ns : Nat) : Nat :=
  let k := s.tally
  ((List.range 6).map (k + ·)).find? (fun n => decide (ns ≤ s.rasterPoint n)) |>.getD (k + 6)

/-- The tally from which a tile's new entries apply in a twin (R163): with its own image accepted and the twin's first
tally known, the Lead announces the later of the two; the Escort, once it has accepted the image, applies it from the tally
announced when that is not before its own. -/
def State.calTally (s : State) (t : Nat) : State :=
  let e := s.tileEntry t
  match e.upload.peer with
  | none => s
  | some n =>
    let eff := if s.role = 1 then max n e.upload.own else n
    if e.upload.step ≠ 4 ∨ eff < e.upload.own then s
    else
      let s := s.setEntry t { e with upload := { e.upload with eff := some eff } }
      let s := if e.place.isSome then s.wn Reg.SCAN_MAP_EFF eff else s
      if s.role = 1 then s.twinSend "CAL_ANNOUNCE" 2 [t, eff] else s

/-- An image is accepted (R162, R163): counted with its marked entries; alone, it applies from the first tally whose
raster starts at least 1 ms later; in a twin, from the tally that the Lead announces. -/
def State.uploadAccept (s : State) (t : Nat) : State :=
  let e := s.tileEntry t
  let n := e.upload.width * e.upload.height
  let a := s.unitAddr e.upload.unit
  let marks := ((List.range n).filter fun i => bit (s.holdNat (a + 12 * i) 12) 94).length
  let s := (s.bump Reg.CAL_UPLOADS).bumpBy Reg.CAL_MARKED marks
  let own := s.firstRaster (s.ns + 1000000)
  let twin := s.role == 1 || s.role == 2
  let s := s.setEntry t
    { e with upload := { e.upload with step := 4, own := own, eff := (if twin then none else some own) } }
  let s := if e.place.isSome ∧ !twin then s.wn Reg.SCAN_MAP_EFF own else s
  if twin then (s.twinSend "CAL_ACCEPTED" 3 [t, own]).calTally t else s

/-- A header that passes its checks (R160): BIN is judged, and, unless the image is the one already stored (R164), the entries
are pulled into an area for its WIDTH × HEIGHT. -/
def State.headerTaken (s : State) (t : Nat) (h : List Byte) : State :=
  let e := s.tileEntry t
  let u := { e.upload with header := h, width := pkt h 6 2, height := pkt h 8 2 }
  let s := (s.setEntry t { e with calBin := some (pkt h 5 1), upload := u }).binJudge t
  let img : CalImage := ⟨e.ident, regionKey (s.liveWords t), pkt h 16 4, pkt h 20 4⟩
  if !e.upload.reload && e.stored == some img then (s.uploadEnd t).setCal t 2
  else
    let pull := fun (s : State) =>
      let e := s.tileEntry t
      (s.setEntry t { e with upload := { e.upload with step := 3 } }).calPull t 32 (u.width * u.height * 12)
    if ceilDiv (u.width * u.height * 12) 65536 = u.units then pull s
    else
      -- another size than the tile's own: its area is taken anew, the header being pulled again when it must wait
      let s := s.stageFree u.unit
      let e := s.tileEntry t
      match s.stageAlloc (ceilDiv (u.width * u.height * 12) 65536) with
      | none => (s.setEntry t { e with upload := { u with step := 1 } }).setCal t 5
      | some (unit, s) =>
        pull (s.setEntry t { e with upload := { u with unit := unit, units := ceilDiv (u.width * u.height * 12) 65536 } })

/-- Image bytes arrive (R160 to R162, R164 to R166): the header is checked, then the entries are pulled and, when whole,
checked. -/
def State.calData (s : State) (t offset : Nat) (data : List Byte) : State :=
  let e := s.tileEntry t
  match e.upload.step with
  | 2 =>
    if offset ≠ 0 ∨ data.length < 32 then s
    else
      let h := data.take 32
      if pkt h 0 4 = 0 ∨ pkt h 4 1 = 0 then (s.uploadEnd t).setCal t 3
      else if !s.headerOk t h then s.uploadFail t
      else s.headerTaken t h
  | 3 =>
    let n := e.upload.width * e.upload.height * 12
    let data := data.take (n + 32 - offset)
    if offset < 32 ∨ data.isEmpty then s
    else
      let a := s.unitAddr e.upload.unit
      let s := s.writeHold (a + (offset - 32)) data
      let got := runInsert (offset - 32) data.length e.upload.got
      let s := s.setEntry t { e with upload := { e.upload with got := got } }
      if got == [(0, n)] then
        if (crc32c (s.readHold a n)).toNat = pkt e.upload.header 20 4 then s.uploadAccept t else s.uploadFail t
      else s
  | _ => s

/-- An accepted image is copied into the calibration store at the canvas positions of the tile's region; an overlapped
pixel keeps the identity (R147, R159, R162, R192). -/
def State.copyIn (s : State) (t : Nat) : State :=
  let e := s.tileEntry t
  let w := s.liveWords t
  let a := s.unitAddr e.upload.unit
  let iw := e.upload.width
  let px := (List.range (iw * e.upload.height)).map fun i =>
    let (x, y) := tileToRegion (mOrient w) iw e.upload.height (i % iw) (i / iw)
    (mX w + x, mY w + y, s.readHold (a + 12 * i) 12)
  let s := px.foldl (fun s p => if s.overlapped p.1 p.2.1 then s else s.writeHold (s.calAddr p.1 p.2.1) p.2.2) s
  let h := e.upload.header
  let img : CalImage := ⟨e.ident, regionKey w, pkt h 16 4, pkt h 20 4⟩
  let s := s.setEntry t { e with stored := some img, place := none }
  (s.uploadEnd t).setCal t 2

/-! ### Matching (R187 to R190) -/

/-- The entry that a tile found at a lane and position matches (R187). -/
def State.matchFor (s : State) (f : Found) (lane : Nat) : Option Nat :=
  match s.scan.live.find? fun e => mEnable e.2 && !mBind e.2 && mIdent e.2 == f.ident with
  | some e => some e.1
  | none => (s.scan.live.find? fun e =>
      mEnable e.2 && mBind e.2 && (mEnds e.2).contains lane && mPos e.2 == f.pos).map (·.1)

/-- The state that a matched tile takes at its place, with the faults of R188 and R189. The load is judged on each lane that
the tile's packets take (R171, R179). -/
def State.judge (s : State) (t : Nat) : State :=
  let e := s.tileEntry t
  let w := s.liveWords t
  let (rw, rh) := regionOf (mOrient w) e.width e.height
  let size := rw == mW w && rh == mH w
  let ls := s.sendLanes t
  let heavy := e.moved || ls.any fun l => bit (s.rn (Reg.SCAN_LINK_STAT l)) 15
  let fits := !heavy || ls.all fun l => s.loadFits (s.liveRate l) (s.liveLoad l)
  let st := if !size then 4 else if e.other.isSome || e.status.any (·.conflict) then 5 else if fits then 1 else 6
  let s := s.setEntry t { e with state := st, held := e.held && st == 1 }
  let s := if st = 6 then s.raiseOnce 83 t e.lane else s.condClear 83 t
  if st = 4 ∨ st = 5 then s.raiseOnce 84 t st else s.condClear 84 t

/-- A tile takes an entry at the place where it was found, or keeps it there (R187, R188): a new match or a new epoch is a
rediscovery, which starts the upload again (R161); it ends a hold (R185), and a tile of another identity has no entries in
the store (R165). -/
def State.takeEntry (s : State) (key t : Nat) (f : Found) : State :=
  let lane := key / 64
  let w := s.liveWords t
  let e := s.tileEntry t
  let same := e.present && e.ident == f.ident
  let place := lane * 64 + f.pos
  let here := e.lane * 64 + e.pos
  let loop := (s.chainLanes lane).contains e.lane && e.pos == f.pos
  let fresh := !same || e.epoch != f.epoch
  let moved := !mBind w && !((mEnds w).contains lane && mPos w == f.pos)
  let s := s.setEntry t
    { e with
      state := 1, moved := moved, lane := lane, hop := key % 64, pos := f.pos, ident := f.ident, epoch := f.epoch
      width := f.width, height := f.height, calSize := f.calSize, ranges := f.ranges
      matched := (if fresh then s.ns else e.matched), lastStatus := s.clk, held := false, heldFor := 0, renewed := true
      status := (if fresh then none else e.status)
      stored := (if e.ident = f.ident then e.stored else none), calBin := (if e.ident = f.ident then e.calBin else none)
      temps := (if e.ident = f.ident then e.temps else []), temp := (if e.ident = f.ident then e.temp else none)
      other := (if same && here != place && !loop then some (e.lane, e.pos) else if same then e.other else none) }
  let s := if moved && !(same && (here == place || loop)) then (s.bump Reg.SCAN_REMAP).raise 82 t (f.ident % 2 ^ 32) else s
  let s := if mBind w && fresh then s.raise 82 t (f.ident % 2 ^ 32) else s
  let s := if same then s else (s.condClear 81 t).notify 0x80 0 t []
  let s := s.judge t
  if fresh then s.uploadNew t else s

/-- A tile found at a place takes its entry, or stays unmapped (R187 to R190). Found again from the other end of its loop, it
keeps the place where it was found first under its epoch; at a place above the one it has, it is in conflict. -/
def State.matchFound (s : State) (key : Nat) : State :=
  match tabGet? s.scan.found key with
  | none => s
  | some f =>
    let lane := key / 64
    match s.matchFor f lane with
    | none =>
      ({ s with scan := { s.scan with found := tabSet s.scan.found key { f with entry := none } } }).scanSettle
    | some t =>
      let e := s.tileEntry t
      let s := { s with scan := { s.scan with found := tabSet s.scan.found key { f with entry := some t } } }
      let same := e.present && e.ident == f.ident
      let place := lane * 64 + f.pos
      let here := e.lane * 64 + e.pos
      let loop := e.lane != lane && e.pos == f.pos && (s.chainLanes lane).contains e.lane
      if same && loop && e.epoch == f.epoch then
        s.setEntry t { e with held := false, heldFor := 0, renewed := true }
      else if same && !loop && here != place && here < place then
        (s.setEntry t { e with other := some (lane, f.pos) }).judge t
      else s.takeEntry key t f

/-- A map entry in force changes (R187, R192): its tile keeps the old placement until a new image is accepted, or leaves
the entry; tiles without an entry are matched again. -/
def State.applyMap (s : State) (t : Nat) (w : List Nat) : State :=
  let old := s.liveWords t
  let e := s.tileEntry t
  let s := { s with scan := { s.scan with live := tabSet s.scan.live t w } }
  let still := e.present && mEnable w
    && (if mBind w then (mEnds w).contains e.lane && mPos w == e.pos else mIdent w == e.ident)
  let s :=
    if still then
      let moves := old.take 2 != w.take 2 || (old.drop 3).take 3 != (w.drop 3).take 3
      let geom := decide (mX old ≠ mX w ∨ mY old ≠ mY w ∨ mW old ≠ mW w ∨ mH old ≠ mH w ∨ mOrient old ≠ mOrient w)
      let keep := if geom && e.place.isNone then some ((old.drop 3).take 3) else e.place
      let moved := !mBind w && !((mEnds w).contains e.lane && mPos w == e.pos)
      let s := (s.setEntry t { e with place := keep, moved := moved }).judge t
      let s := if mBin old = mBin w then s else s.binJudge t
      if moves && (geom || old.take 2 != w.take 2) then s.uploadNew t else s
    else if e.state ≠ 0 then
      let s := s.uploadEnd t
      let found := s.scan.found.map fun f => if f.2.entry == some t then (f.1, { f.2 with entry := none }) else f
      let s := { s with scan := { s.scan with found := found } }
      let s := ((((s.setEntry t {}).condClear 81 t).condClear 83 t).condClear 84 t).condClear 68 t
      s.condClear 67 t
    else s
  let free := (s.scan.found.filter fun f => f.2.entry.isNone).map (·.1)
  (free.foldl (fun s k => s.matchFound k) s).overlapSettle

/-! ### Chain walks (R239, R191) -/

/-- The position of a tile h hops in from a lane ("Discovery, hot-plug and remapping"). -/
def State.posAt (s : State) (l h : Nat) : Nat := if s.endB l then s.chainLen l - 1 - h else h

def State.walk (s : State) (l : Nat) : Walk := tabGetD s.scan.walks l {}
def State.setWalk (s : State) (l : Nat) (w : Walk) : State :=
  { s with scan := { s.scan with walks := tabSet s.scan.walks l w } }

/-- DISCOVER sent to hops of a lane. -/
def State.discover (s : State) (l : Nat) (hops : List Nat) : State :=
  let w := s.walk l
  let s := s.setWalk l { w with asked := w.asked ++ hops.filter (fun h => !w.asked.contains h), last := s.clk }
  hops.foldl (fun s h => s.packet (8 + l) "DISCOVER" (discoverPacket (s.towardA l) h s.nodeId)) s

/-- A walk of a chain end starts at hop 0. -/
def State.startWalk (s : State) (l : Nat) : State :=
  if s.laneRole l = 5 ∧ s.linked l then (s.setWalk l { hop := 0, asked := [], last := s.clk }).discover l [0] else s

/-! ### Sending (R172, R184) -/

/-- The outputs of a region pixel of an entry for a tally, from the frame-store buffer the raster reads (R141, R142, R165,
R170). -/
def State.regionPixel (s : State) (t n buf x y : Nat) : Nat × Nat × Nat :=
  let e := s.tileEntry t
  let w := s.placed t
  let noImage := e.stored.isNone || e.cal == 3
  if noImage && bit s.cal.ctrl 2 then (0, 0, 0)
  else
    let temp := e.temp.getD s.cal.tempDefault
    let terms := if bit s.cal.ctrl 0 then binInterp (s.bin (mBin w)) temp else binIdentity
    let entry := if noImage then 0 else s.calEntry (mX w + x) (mY w + y)
    calPixel terms entry (bit s.cal.ctrl 1) (s.bright n) (s.storedPixel buf (mX w + x) (mY w + y))

/-- The outputs of an entry's region in wire order: line by line (R172, R184). -/
def State.regionOut (s : State) (t n buf : Nat) : List (Nat × Nat × Nat) :=
  let w := s.placed t
  (List.range (mW w * mH w)).map fun i => s.regionPixel t n buf (i % mW w) (i / mW w)

/-- The CRC of a tile's outputs, each value big-endian 16 bits (R184). -/
def outCrc (px : List (Nat × Nat × Nat)) : Nat :=
  (crc32c (px.flatMap fun p => beBytes 2 p.1 ++ beBytes 2 p.2.1 ++ beBytes 2 p.2.2)).toNat

/-- The hold of an entry judged at a tally with output CRC c (R184, R185). After a refresh the tally sent in full, the tile
is held again as soon as R184 has it so (DEDUCED, log entry 207). -/
def State.judgeHold (s : State) (e : TileEntry) (c : Nat) : TileEntry :=
  let run := if c = e.crc then e.run + 1 else 1
  let shows := e.status.any fun st => st.dispCrc == c && !st.nothing
  let long := decide (bits s.scan.ctrl 11 4 + 1 ≤ run)
  let due := e.held && decide (bits s.scan.ctrl 24 13 ≤ e.heldFor)
  let hold := bit s.scan.ctrl 0 && !e.renewed && !due && shows && (e.held && c == e.crc || long)
  { e with crc := c, run := run, held := hold, heldFor := (if hold then e.heldFor + 1 else 0), renewed := false }

/-- A segment's place on its canvas line: its column, the entry, the region line and the segment. -/
def colInsert (a : Nat × Nat × Nat × Nat) : List (Nat × Nat × Nat × Nat) → List (Nat × Nat × Nat × Nat)
  | [] => [a]
  | b :: bs => if a.1 < b.1 then a :: b :: bs else b :: colInsert a bs

/-- The segments of entries on a canvas line, in ascending canvas column (R172). -/
def State.lineSegs (s : State) (ts : List Nat) (line : Nat) : List (Nat × Nat × Nat × Nat) :=
  let segs := ts.flatMap fun t =>
    let w := s.placed t
    if mY w ≤ line ∧ line < mY w + mH w then
      (List.range (ceilDiv (mW w) 128)).map fun g => (mX w + 128 * g, t, line - mY w, g)
    else []
  segs.foldl (fun l a => colInsert a l) []

/-- The clock at which the raster of tally n has read a canvas line: the lines share its length evenly (R173). -/
def State.lineRead (s : State) (n line : Nat) : Nat :=
  let t := s.rasterPoint n + ceilDiv ((line + 1) * (s.rasterStop n - s.rasterPoint n)) (max 1 s.canvasH)
  s.clk + ceilDiv ((t - s.ns) * 4) 5

/-- The pixel packet of one segment of an entry, on each of its lanes that is not held safe, ready when the raster has read
its line (R172, R173, R179, Table 15.5). -/
def State.sendSegment (s : State) (n t y g : Nat) (px : List (Nat × Nat × Nat)) : State :=
  let e := s.tileEntry t
  let w := s.placed t
  let cnt := min 128 (mW w - 128 * g)
  let run := (px.drop (y * mW w + 128 * g)).take cnt
  ((s.sendLanes t).filter fun l => !s.laneSafe l).foldl (fun s l =>
    s.packetAt (s.lineRead n (mY w + y)) (8 + l) 5 "PIXEL" (pixelPacket
      { toward := s.towardA l, epoch := e.epoch, pos := e.pos, tally := n % 2 ^ 32, line := y, segment := g, pixels := run })) s

/-- The hold of an entry judged for a tally, and its outputs when it is not held (R184, R185). -/
def State.judgeOut (s : State) (t n buf : Nat) : State × Option (List (Nat × Nat × Nat)) :=
  let px := s.regionOut t n buf
  let was := s.tileEntry t
  let e := s.judgeHold was (outCrc px)
  let s := s.setEntry t e
  let s := if e.held ∧ !was.held then s.bump Reg.SCAN_HOLD_ENTER else s
  (s, if e.held then none else some px)

/-- Scan-out of tally n from a frame-store buffer (R172, R182, R184, R187, R463): the hold of every present tile is judged;
those not held get their packets from the first raster that starts 1 ms after their match, in canvas order with those of the
others; SIZE and LOAD tiles get tokens only. -/
def State.scanOut (s : State) (n buf : Nat) : State :=
  let (s, sent) := (s.scan.entries.filter fun x => x.2.present).foldl (fun (p : State × Tab (List (Nat × Nat × Nat))) x =>
    match p.1.judgeOut x.1 n buf with
    | (s, some px) =>
      if (x.2.state = 1 ∨ x.2.state = 5) ∧ x.2.matched + 1000000 ≤ s.rasterPoint n then (s, p.2 ++ [(x.1, px)]) else (s, p.2)
    | (s, none) => (s, p.2)) (s, [])
  let s := (List.range s.canvasH).foldl (fun s line =>
    (s.lineSegs (sent.map (·.1)) line).foldl (fun s q =>
      s.sendSegment n q.2.1 q.2.2.1 q.2.2.2 (tabGetD sent q.2.1 [])) s) s
  (s.scan.entries.filter fun x => x.2.present).foldl (fun s x =>
    s.setFld (Reg.CAL_TILE_STAT x.1) 31 16
      (unsigned 16 (x.2.temp.getD s.cal.tempDefault))) s

/-- Pixel packets of a tally not yet on their lanes are sent no more (R183). -/
def State.pixelsStop (s : State) : State :=
  (rangeFilter 24 fun l => s.laneRole l == 5).foldl (fun s l => s.txCancel (8 + l) fun p => p.kind == "PIXEL") s

end Sys2Proof.Machine
end

