-- ==== Sys2Proof/Machine/FerryOps.lean ====
section
/-!
DEFINITION. The Ferry: addresses, ranges, credits, the sending of transactions to nodes and tiles, their completion, and
the prefetch buffer (14_qmp_pier_ferry.md R398 to R400, R421 to R429; 08_sardylink.md R245).
-/
namespace Sys2Proof.Machine

/-! ### Addresses (R398 to R400, Table 14.1) -/

def fNode (a : Nat) : Nat := bits a 63 48
def fSpace (a : Nat) : Nat := bits a 47 40
def fOffset (a : Nat) : Nat := bits a 39 0
def ferryAddr (node space offset : Nat) : Nat := node * 2 ^ 48 + space * 2 ^ 40 + offset

/-- CLASS of a NODE (Table 14.1): 0 local, 1 caravan, 2 tile, 3 none. -/
def fClass (a : Nat) : Nat :=
  let n := fNode a
  if n = 0 then 0 else if n ≤ 0x400 ∨ n = 0xFFFE then 1 else if 0x8000 ≤ n ∧ n ≤ 0x87FF then 2 else 3

/-- An address answered MALFORMED (R398, R400). -/
def fMalformed (a : Nat) : Bool :=
  fClass a == 3 || fOffset a % 4 != 0 || (decide (fClass a < 2) && decide (fSpace a ≠ 0 ∨ 2 ^ 32 ≤ fOffset a))

/-- The node ID an address names, 0 for none (R399). -/
def State.fNodeId (s : State) (a : Nat) : Nat :=
  if fNode a = 0xFFFE then s.rn Reg.TWIN_PEER else s.rn (Reg.FERRY_NODE_MAP (fNode a))

/-- Whether a node has a route: a ring group, or a route-table entry (R399). -/
def State.routed (s : State) (node : Nat) : Bool := s.topo == 2 || s.twin.routes.any (·.node == node)

/-- The status with which an address of the caravan or tile class is refused, and its target: a node ID or a tile-map
entry (R399, R400, R425). -/
def State.fTarget (s : State) (a : Nat) : Nat × Nat :=
  if fMalformed a then (6, 0)
  else if fClass a = 1 then
    let n := s.fNodeId a
    (if n = 0 ∨ !s.routed n then 3 else 0, n)
  else
    let t := fNode a - 0x8000
    (if s.role = 2 then 4 else if (s.tileEntry t).present then 0 else 3, t)

/-! ### Ranges (Table 14.10, R427) -/

def rangeWord (s : State) (i j : Nat) : Nat := s.rn (Reg.FERRY_RANGE (4 * i + j))
def rangeBase (s : State) (i : Nat) : Nat := rangeWord s i 0 + 2 ^ 32 * bits (rangeWord s i 1) 7 0
def rangeLimit (s : State) (i : Nat) : Nat := rangeWord s i 2 + 2 ^ 32 * bits (rangeWord s i 3) 7 0

/-- The first enabled entry that matches a class, space and offset; 64 for none. -/
def State.rangeOf (s : State) (cls space offset : Nat) : Nat :=
  ((List.range 64).find? fun i =>
    let w := rangeWord s i 1
    bit w 18 && bits w 17 16 == cls && bits w 15 8 == space
      && decide (rangeBase s i ≤ offset ∧ offset ≤ rangeLimit s i)).getD 64

/-- A write is posted, a read prefetched, a far operation lockable (R427, R428). -/
def State.rangePosted (s : State) (i cls : Nat) : Bool := if i = 64 then cls != 0 else bit (rangeWord s i 1) 19
def State.rangePrefetch (s : State) (i cls dest : Nat) : Bool :=
  i != 64 && bit (rangeWord s i 1) 20 && !(cls == 2 && s.ferry.conflicts.contains (i, dest))
def State.rangeLockable (s : State) (i : Nat) : Bool := i == 64 || bit (rangeWord s i 1) 21

/-- The tile ranges that an entry overlaps: space, start and length. -/
def meetsRange (s : State) (i : Nat) (r : Nat × Nat × Nat) : Bool :=
  r.1 == bits (rangeWord s i 1) 15 8 && decide (rangeBase s i < r.2.1 + r.2.2 ∧ r.2.1 ≤ rangeLimit s i)

/-- A tile discovered at a map entry (R428): each enabled prefetchable entry that overlaps one of its declared ranges is in
conflict with it, which CONFLICT and the Notice fault report; INFO holds the entry and the tile (log entry 40). -/
def State.rangeConflicts (s : State) (t : Nat) : State :=
  let e := s.tileEntry t
  let hit := (List.range 64).filter fun i =>
    let w := rangeWord s i 1
    bit w 18 && bit w 20 && bits w 17 16 == 2 && e.ranges.any (meetsRange s i)
  hit.foldl (fun s i =>
    if s.ferry.conflicts.contains (i, t) then s
    else
      let s := { s with ferry := { s.ferry with conflicts := (i, t) :: s.ferry.conflicts } }
      (s.setFld (Reg.FERRY_RANGE_DADDR i + 4) 31 31 1).raise 226 0 (i + 65536 * t)) s

/-! ### Failed posted writes (R424, R325) -/

/-- A posted write fails: latched, counted, reported, with the posted-write fault at most once a second; one of a waybill
is counted in WAY_TILE_FAIL too. -/
def State.postedFail (s : State) (t : Txn) (status : Nat) : State :=
  let a := ferryAddr t.node t.space t.offset
  let s := (s.setPair Reg.FERRY_PW_FAIL a).wn Reg.FERRY_PW_FAIL_STAT status
  let s := (s.setPair Reg.FERRY_PW_FAIL_AT s.now64).bump Reg.FERRY_PW_FAILS
  let s := (s.notify 0x40 0 (if 0x8000 ≤ t.node ∧ t.node ≤ 0x87FF then t.dest else t.node) [a, status]).raiseSec 225 0 (a % 2 ^ 32)
  if doorReq t.door = .waybill then (s.bump Reg.WAY_TILE_FAIL).raiseSec 178 0 t.dest else s

/-! ### Prefetched lines (R429) -/

/-- A line is discarded: each word never delivered is counted in its range, which latches the last such address. -/
def State.lineDiscard (s : State) (l : Line) : State :=
  let left := (List.range l.words.length).filter fun i => !(l.taken.getD i true)
  match left.getLast? with
  | none => s
  | some k =>
    let s := s.bumpBy (Reg.FERRY_RANGE_DISC l.range) left.length
    let a := l.base + 4 * k
    let conflict := bit (s.rn (Reg.FERRY_RANGE_DADDR l.range + 4)) 31
    s.setPair (Reg.FERRY_RANGE_DADDR l.range) (a + conflict.toNat * 2 ^ 63)

/-- Lines of a target that a run of words touches are discarded (a write or a locked sequence). -/
def State.linesTouched (s : State) (node space offset count : Nat) : State :=
  let hit := fun (l : Line) => l.node == node && l.space == space
    && decide (l.base < offset + 4 * count ∧ offset < l.base + 4 * l.words.length)
  let gone := s.ferry.lines.filter hit
  gone.foldl State.lineDiscard { s with ferry := { s.ferry with lines := s.ferry.lines.filter fun l => !hit l } }

/-- A word of the buffer for a requester. -/
def State.bufferedWord (s : State) (req : Requester) (node space offset : Nat) : Option Word :=
  match s.ferry.lines.find? fun l => doorReq l.door == req && l.node == node && l.space == space
      && decide (l.base ≤ offset ∧ offset < l.base + 4 * l.words.length) with
  | some l => l.words[(offset - l.base) / 4]?
  | none => none

/-- Words delivered from the buffer are marked; a line with none left is dropped. -/
def State.markTaken (s : State) (req : Requester) (node space offset count : Nat) : State :=
  let mark := fun (l : Line) =>
    if doorReq l.door = req ∧ l.node = node ∧ l.space = space then
      let taken := l.taken.mapIdx fun i b => b || decide (offset ≤ l.base + 4 * i ∧ l.base + 4 * i < offset + 4 * count)
      { l with taken := taken }
    else l
  { s with ferry := { s.ferry with lines := (s.ferry.lines.map mark).filter fun l => !l.taken.all id } }

/-- A line leaves the buffer, displaced. -/
def State.lineDrop (s : State) (l : Line) : State :=
  ({ s with ferry := { s.ferry with lines := s.ferry.lines.erase l } }).lineDiscard l

/-- The words of a widened read that were not asked for become lines of the target; an older copy of the requester's is
displaced, and beyond 8 lines of a target the oldest. -/
def State.keepLines (s : State) (t : Txn) (data : List Word) : State :=
  let n := data.length / 16
  let new := (List.range n).map fun i =>
    let taken := (List.range 16).map fun j => decide (t.skip ≤ 16 * i + j ∧ 16 * i + j < t.skip + t.want)
    ({ door := t.door, node := t.node, space := t.space, base := t.offset + 64 * i, words := (data.drop (16 * i)).take 16,
       taken := taken, range := t.range, since := s.clk } : Line)
  (new.filter fun l => !l.taken.all id).foldl (fun s l =>
    let s := match s.ferry.lines.find? fun x => doorReq x.door == doorReq l.door && x.node == l.node && x.space == l.space
        && x.base == l.base with
      | some old => s.lineDrop old
      | none => s
    let mine := s.ferry.lines.filter fun x => x.node == l.node
    let s := if mine.length < 8 then s else
      match mine with
      | old :: _ => s.lineDrop old
      | [] => s
    { s with ferry := { s.ferry with lines := s.ferry.lines ++ [l] } }) s

/-! ### The lock on the device's register port (R244, R431) -/

/-- Holder of the device's register port; a lock ends 20 µs after its grant. -/
def State.lockHolder (s : State) : Option Nat :=
  match s.slk.lock with
  | some (h, t) => if s.clk < t + us 20 then some h else none
  | none => none

/-- Whether the lock makes a local transaction of a requester wait: it is held by another node, or by the locked sequence
of another requester. -/
def State.localBlocked (s : State) (req : Requester) : Bool :=
  match s.lockHolder with
  | none => false
  | some h => h != s.nodeId || (match s.ferry.seqs.head? with
    | some q => doorReq q.door != req
    | none => true)

/-- A local transaction waits for the lock to end. -/
def State.localQueue (s : State) (t : Txn) : State :=
  { s with ferry := { s.ferry with localWait := s.ferry.localWait ++ [{ t with arrived := s.arrived, sentAt := s.clk }] } }

/-- FERRY_TIMEOUT in clocks. -/
def State.ferryTimeout (s : State) : Nat := us (s.fld Reg.FERRY_TIMEOUT 16 0)

/-! ### Sending (R244, R245, R421, R422) -/

/-- The links a transaction leaves on: the tile's chain end, or the groups toward a node. -/
def State.txnLinks (s : State) (t : Txn) : List Nat :=
  if 0x8000 ≤ t.node ∧ t.node ≤ 0x87FF then [8 + (s.tileEntry t.dest).lane] else s.outGroups 3 t.dest

/-- Transactions that wait in the queue of 1,024: those not posted, and the locked sequences behind the running one (R422,
R430). -/
def State.ferryWaiting (s : State) : Nat :=
  (s.ferry.waiting.filter fun t => !t.posted).length + (s.ferry.seqs.length - 1)

/-- FERRY_OUTSTANDING follows the Ferry. -/
def State.ferrySettle (s : State) : State :=
  s.wn Reg.FERRY_OUTSTANDING ((s.ferry.out.filter fun t => !t.posted).length + 65536 * s.ferryWaiting)

/-- The next tag: one not in use and not used within the last 10 ms (R270). -/
def State.newTag (s : State) : Option (Nat × State) :=
  let recent := s.ferry.recentTags.filter fun e => decide (s.clk < e.2 + ms 10)
  let free := fun t => !(recent.any (·.1 == t)) && !(s.ferry.out.any (·.tag == t))
  let t := s.ferry.nextTag % 65536
  if free t then
    some (t, { s with ferry := { s.ferry with nextTag := (t + 1) % 65536, recentTags := (t, s.clk) :: recent } })
  else none

/-- The REG packet of a transaction (Table 08.11) on a link: on a tile lane with the tile's position and epoch. A read that
first asks for the target's TIME_SNAP_STAT reads that. -/
def State.txnPacket (s : State) (t : Txn) (k : Nat) : List Byte :=
  let t := if t.snap = 0 then t else { t with offset := Reg.TIME_SNAP_STAT, count := 1, want := 0 }
  let e := s.tileEntry t.dest
  let tile := decide (0x8000 ≤ t.node ∧ t.node ≤ 0x87FF)
  regPacket (tile && s.towardA (k - 8)) (if tile then tailT e.pos e.epoch else tailC 0)
    { op := t.op, flags := t.posted.toNat + 2 * t.locked.toNat + 4 * (decide (0 < t.want)).toNat, tag := t.tag
      requester := s.nodeId, target := if tile then 0 else t.dest, space := t.space, offset := t.offset, count := t.count
      data := t.data.map (·.toNat) }

/-- The REG packet of a transaction leaves on its links; none while the duplicate-node fault stands (R263). -/
def State.regSend (s : State) (t : Txn) (links : List Nat) : State :=
  if s.twin.dupNode then s else links.foldl (fun s k => s.regOut k true "REG" (s.txnPacket t k)) s

/-- A transaction completes (R422 to R424): a posted write that failed is reported; a read is answered with its words; one
that belongs to the locked sequence leaves its outcome to the sequence. A read of a node's shadows goes on when the node's
shadow set has the ID it names, and is answered STALE otherwise (R76, R403). -/
def State.txnDone (s : State) (t : Txn) (status : Nat) (data : List Word) : State :=
  if t.posted then if status = 0 then s else s.postedFail t status
  else if t.snap ≠ 0 ∧ status = 0 then
    if (data.headD 0#32).toNat % 65536 = t.snap then
      { s with ferry := { s.ferry with waiting := { t with snap := 0 } :: s.ferry.waiting } }
    else s.respond t.door t.type 1 []
  else if t.op = 1 ∧ status = 0 ∧ 0 < t.want then
    let s := s.keepLines t data
    s.respond t.door t.type 0 (((data.drop t.skip).take t.want).flatMap fun w => beBytes 4 w.toNat)
  else s.respond t.door t.type status (data.flatMap fun w => beBytes 4 w.toNat)

/-- Whether a waiting transaction may leave now, past those that wait before it (R421, R422, R245). -/
def State.mayLeave (s : State) (before : List Txn) (t : Txn) : Bool :=
  (t.posted || decide ((s.ferry.out.filter fun x => !x.posted).length < 256))
    && !(before.any fun x => doorReq x.door == doorReq t.door && x.node == t.node && x.dest == t.dest)
    && (s.txnLinks t).all s.reqCredit

/-- One waiting transaction leaves, fails for want of a path, or stays. -/
def State.tryLeave (s : State) (before : List Txn) (t : Txn) : State × Bool :=
  let tile := decide (0x8000 ≤ t.node ∧ t.node ≤ 0x87FF)
  if (tile && !(s.tileEntry t.dest).present) || (s.txnLinks t).isEmpty then (s.txnDone t 3 [], true)
  else if s.mayLeave before t then
    match s.newTag with
    | none => (s, false)
    | some (g, s) =>
      let t := { t with tag := g, sentAt := s.clk }
      let s := s.regSend t (s.txnLinks t)
      let s := if t.answer then s.respond t.door t.type 0 [] else s
      -- a posted write is remembered so that its failure response can be reported (R242)
      ({ s with ferry := { s.ferry with out := s.ferry.out ++ [t] } }, true)
  else (s, false)

/-- Waiting transactions leave in arrival order as the rules allow. A posted write sent is remembered for FERRY_TIMEOUT, so
that its failure response can be reported. -/
def State.ferryPump (s : State) : State :=
  let s := { s with ferry := { s.ferry with
    out := s.ferry.out.filter fun t => !t.posted || !s.elapsed t.sentAt t.limit } }
  let (s, left) := s.ferry.waiting.foldl (fun (p : State × List Txn) t =>
    match p.1.tryLeave p.2 t with
    | (u, true) => (u, p.2)
    | (u, false) => (u, p.2 ++ [t])) (s, [])
  ({ s with ferry := { s.ferry with waiting := left } }).ferrySettle

/-- A transaction arrives (R422): one that is not posted and would have to wait is answered BUSY when the queue is full. -/
def State.ferrySubmit (s : State) (t : Txn) : State :=
  let t := { t with limit := s.ferryTimeout }
  if !t.posted ∧ 1024 ≤ s.ferryWaiting ∧ s.mayLeave s.ferry.waiting t = false then s.respond t.door t.type 12 []
  else
    let s := if t.op = 1 then s else s.linesTouched t.node t.space t.offset t.count
    ({ s with ferry := { s.ferry with waiting := s.ferry.waiting ++ [t] } }).ferryPump

/-- A posted write by a cue or a waybill (R325, R385, R424); a refused one is a failed posted write. -/
def State.ferryPost (s : State) (req : Requester) (addr : Nat) (data : List Word) : State :=
  let (st, dest) := s.fTarget addr
  let t : Txn := { door := .regs req, type := 0, op := 2, node := fNode addr, dest := dest, space := fSpace addr,
                   offset := fOffset addr, count := data.length, data := data, posted := true }
  let s := if st = 4 then s.bump Reg.FERRY_ESCORT_TILE else s
  if st = 0 then s.ferrySubmit t else s.postedFail t st

/-! ### Snapshots of every node (R77, Table 14.3) -/

/-- The answer to an arm under CARAVAN: the state here, and the nodes that refused or did not answer. -/
def State.pollDone (s : State) (p : SnapPoll) : State :=
  let bad := p.refused ++ p.waiting.map (·.1)
  ({ s with ferry := { s.ferry with polls := s.ferry.polls.filter fun x => x.seq != p.seq } }).respond p.door 0x40 0
    (beBytes 1 1 ++ beBytes 2 bad.length ++ bad.flatMap (beBytes 4))

/-- The arm is sent to every node that has a route, as a request of its own to each: the node, and the SEQ. -/
def State.armNodes (s : State) (id at64 : Nat) (tiles : Bool) : List (Nat × Nat) × State :=
  let body := beBytes 2 id ++ beBytes 1 tiles.toNat ++ beBytes 8 at64
  s.twin.routes.foldl (fun (p : List (Nat × Nat) × State) r =>
    let (q, s) := p.2.ownSeq
    (p.1 ++ [(r.node, q)], s.mgmtSend r.node (qmpBytes 4 0x40 0 q s.nodeId r.node 0 body))) ([], s)

/-- A snapshot arm through a door (R77): TIME_SNAP_CTRL gives no answer; a SNAP_ARM is answered with STATE and the nodes that
refused, under CARAVAN once every node has answered or 5 ms have passed. A TIME whose NANOSECONDS are out of range is
MALFORMED (R13). -/
def State.snapRequest (s : State) (d : Door) (id at64 : Nat) (tiles caravan : Bool) : State :=
  let regs := match d with
    | .regs _ => true
    | _ => false
  if ledgerOk at64 = false ∧ !regs then s.respond d 0x40 6 []
  else
    match s.snapArm id at64 tiles caravan with
    | (s, false) => s.respond d 0x40 0 (beBytes 1 3 ++ beBytes 2 0)
    | (s, true) =>
      if !caravan then s.respond d 0x40 0 (beBytes 1 1 ++ beBytes 2 0)
      else
        let (sent, s) := s.armNodes id at64 tiles
        let p : SnapPoll := { seq := s.ferry.relaySeq, door := d, since := s.clk, waiting := sent }
        if regs then s else if sent.isEmpty then s.pollDone p
        else { s with ferry := { s.ferry with polls := s.ferry.polls ++ [p] } }

/-- A node answers an arm: armed, or refused. Answers whether the message was such an answer. -/
def State.pollAnswer (s : State) (node seq status state : Nat) : State × Bool :=
  match s.ferry.polls.find? fun p => p.waiting.contains (node, seq) with
  | none => (s, false)
  | some p =>
    let q := { p with
      waiting := p.waiting.filter fun w => w != (node, seq)
      refused := if status = 0 ∧ state = 1 then p.refused else p.refused ++ [node] }
    let s := { s with ferry := { s.ferry with polls := s.ferry.polls.map fun x => if x.seq = p.seq then q else x } }
    (if q.waiting.isEmpty then s.pollDone q else s, true)

/-! ### REG responses (R242, R245) -/

/-- A RESPONSE of the device to a node leaves on the groups toward it; none while the duplicate-node fault stands (R263). -/
def State.regReply (s : State) (node : Nat) (f : RegFields) : State :=
  if s.twin.dupNode then s
  else (s.outGroups 3 node).foldl (fun s g => s.regOut g false "REG_RESPONSE" (regPacket false (tailC 0) f)) s

end Sys2Proof.Machine
end

