-- ==== Sys2Proof/Machine/ProbeOps.lean ====
section
/-!
DEFINITION. Probes and emitter profiles: the probe table, reduction, emitter outputs and the values of each tally
(11_probes_fixtures.md, R313 to R318).
-/
namespace Sys2Proof.Machine

/-! ### Values that hold from a tally -/

/-- The value that holds at a tally. -/
def timedAt {α : Type} (l : Timed α) (n : Nat) : Option α := (l.find? fun e => decide (e.1 ≤ n)).map (·.2)

/-- The newest value. -/
def timedTop {α : Type} (l : Timed α) : Option α := (l.head?).map (·.2)

/-- A value that holds from tally n; values from n or later are replaced, and values superseded before tally cur − 8 are
dropped. -/
def timedSet {α : Type} (l : Timed α) (n : Nat) (v : α) (cur : Nat) : Timed α :=
  let l := (n, v) :: l.filter fun e => decide (e.1 < n)
  let late := l.filter fun e => decide (cur < e.1 + 8)
  late ++ ((l.filter fun e => decide (e.1 + 8 ≤ cur)).take 1)

/-! ### Probe entries (Table 11.1) -/

def pX (w : Nat × Nat) : Nat := bits w.1 15 0
def pY (w : Nat × Nat) : Nat := bits w.1 29 16
def pW (w : Nat × Nat) : Nat := bits w.2 5 0 + 1
def pH (w : Nat × Nat) : Nat := bits w.2 11 6 + 1
def pReduce (w : Nat × Nat) : Nat := bits w.2 13 12
def pProfile (w : Nat × Nat) : Nat := bits w.2 19 14
def pWide (w : Nat × Nat) : Bool := bit w.2 20
def pEnable (w : Nat × Nat) : Bool := bit w.2 21
def pArea (w : Nat × Nat) : Nat := if pEnable w then pW w * pH w else 0

/-- The newest words of an entry, and those of a tally. -/
def State.probe (s : State) (e : Nat) : Nat × Nat := (timedTop (tabGetD s.fixture.probes e [])).getD (0, 0)
def State.probeAt (s : State) (e n : Nat) : Nat × Nat := (timedAt (tabGetD s.fixture.probes e []) n).getD (0, 0)

/-- Area of the enabled probes outside a block (R314). -/
def State.areaBut (s : State) (b : Nat) : Nat :=
  s.fixture.probes.foldl (fun a e => if e.1 / 64 = b then a else a + pArea (s.probe e.1)) 0

/-- The words of a block's 64 entries as a window shows them. -/
def State.probeBlock (s : State) (b : Nat) : List Nat :=
  (List.range 64).flatMap fun i => [(s.probe (64 * b + i)).1, (s.probe (64 * b + i)).2]

/-- REASON of an entry (R314): 3 field out of range, 1 outside the canvas. -/
def State.probeReason (s : State) (w : Nat × Nat) : Nat :=
  if !pEnable w then 0
  else if pReduce w = 3 then 3
  else if s.canvasW < pX w + pW w ∨ s.canvasH < pY w + pH w then 1 else 0

/-- The first bad entry of a block and its REASON; 2 where the running area passes the limit (DEDUCED, log entry 23). -/
def State.probeBad (s : State) : List (Nat × Nat) → Nat → Nat → Option (Nat × Nat)
  | [], _, _ => none
  | w :: ws, i, area =>
    let area := area + pArea w
    let r := s.probeReason w
    if r ≠ 0 then some (i, r)
    else if 2 * s.canvasW * s.canvasH < area then some (i, 2)
    else State.probeBad s ws (i + 1) area

/-- Pairs of a list. -/
def pairUp : List Nat → List (Nat × Nat)
  | a :: b :: l => (a, b) :: pairUp l
  | _ => []

/-- A set owns a block. -/
def State.blockOwned (s : State) (b : Nat) : Bool := (s.ownerOf 3 b).isSome

/-- PROBE_AREA, PROBE_AREA_LIMIT and PROBE_COUNT follow the table. -/
def State.probeSettle (s : State) : State :=
  let ws := s.fixture.probes.map fun e => s.probe e.1
  let s := (s.wn Reg.PROBE_AREA (ws.foldl (fun a w => a + pArea w) 0)).wn Reg.PROBE_AREA_LIMIT (2 * s.canvasW * s.canvasH)
  s.wn Reg.PROBE_COUNT (ws.filter pEnable).length

/-- A write of PROBE_SEL (R314). -/
def State.probeSelWrite (s : State) (req : Requester) (v : Nat) : State :=
  let b := bits v 7 0
  if bit (s.rn Reg.PROBE_STAT) 0 ∨ s.blockOwned b = false then s.accErr req Reg.PROBE_SEL true false
  else (s.wn Reg.PROBE_SEL b).wrWords (Reg.PROBE_WIN 0) (s.probeBlock b)

/-- GO of PROBE_COMMIT (R314): the shadow is one commit, or refused with REASON and the first bad entry. A block no set
owns any more is an access error (DESIGN CHOICE, log entry 23). -/
def State.probeCommit (s : State) (req : Requester) (cue : Option Nat := none) : State :=
  let b := s.fld Reg.PROBE_SEL 7 0
  if s.blockOwned b = false then s.accErr req Reg.PROBE_COMMIT true false
  else
    let ws := s.rdWords (Reg.PROBE_WIN 0) 128
    let pending := s.fld Reg.PROBE_STAT 0 0
    match s.probeBad (pairUp ws) 0 (s.areaBut b) with
    | some (i, r) => s.wn Reg.PROBE_STAT (pending + 2 + 4 * r + 16 * i)
    | none => (s.wn Reg.PROBE_STAT 1).submit (.probeBlock b ws) true cue

/-- A latched block holds from its effective tally (R314); one whose set ends by then applies to no tally (R123, R379). -/
def State.probeLatch (s : State) (b : Nat) (ws : List Nat) (eff : Nat) : State :=
  let cur := s.tally
  let kept := (s.ownerOf 3 b).isSome || (s.holderOf 3 b).any fun i => (s.berth i).endTally.any fun t => decide (eff < t)
  let t := if !kept then s.fixture.probes else (pairUp ws).zipIdx.foldl (fun (t : Tab (Timed (Nat × Nat))) e =>
    tabMod t (64 * b + e.2) [] fun l => timedSet l eff e.1 cur) s.fixture.probes
  ((({ s with fixture := { s.fixture with probes := t } }).setFld Reg.PROBE_STAT 0 0 0).wn Reg.PROBE_EFF eff).probeSettle

/-! ### Emitter profiles (Table 11.2, R316, R317) -/

/-- The words of every profile at reset. -/
def emitReset : List Nat := (List.range 1024).map fun i => regReset (Reg.PROBE_EMIT_WIN i)

/-- The 16 words of a profile at a tally. -/
def State.emitAt (s : State) (p n : Nat) : List Nat :=
  match timedAt s.fixture.emit n with
  | some ws => (ws.drop (16 * p)).take 16
  | none => (emitReset.drop (16 * p)).take 16

def eNch (w : List Nat) : Nat := bits (w.getD 0 0) 7 0
def eSubw (w : List Nat) : Bool := bit (w.getD 0 0) 8
def eCurve (w : List Nat) : Bool := bit (w.getD 0 0) 9
def eKind (w : List Nat) (c : Nat) : Nat := bits (w.getD (3 + 2 * c) 0) 23 16
def eP (w : List Nat) (c j : Nat) : Int :=
  signed 16 (match j with
    | 0 => bits (w.getD (2 + 2 * c) 0) 15 0
    | 1 => bits (w.getD (2 + 2 * c) 0) 31 16
    | _ => bits (w.getD (3 + 2 * c) 0) 15 0)

/-- A profile breaks R317: NCH 0 or above 6, or an invalid KIND below NCH. -/
def emitBad (w : List Nat) : Bool :=
  eNch w == 0 || decide (6 < eNch w) || (List.range (eNch w)).any fun c => decide (1 < eKind w c)

/-- GO of PROBE_EMIT_COMMIT (R317). -/
def State.emitCommit (s : State) (cue : Option Nat := none) : State :=
  let ws := s.rdWords (Reg.PROBE_EMIT_WIN 0) 1024
  let pending := s.fld Reg.PROBE_EMIT_STAT 0 0
  match (List.range 64).find? fun p => emitBad ((ws.drop (16 * p)).take 16) with
  | some p => s.wn Reg.PROBE_EMIT_STAT (pending + 2 + 4 * p)
  | none => (s.wn Reg.PROBE_EMIT_STAT 1).submit (.emitProfiles ws) true cue

def State.emitLatch (s : State) (ws : List Nat) (eff : Nat) : State :=
  ({ s with fixture := { s.fixture with emit := timedSet s.fixture.emit eff ws s.tally } }).setFld Reg.PROBE_EMIT_STAT 0 0 0

/-! ### Probe values (R315, R316) -/

/-- R, G and B of a probe over a frame-store buffer (R315). -/
def State.probeRgb (s : State) (buf : Nat) (w : Nat × Nat) : Nat × Nat × Nat :=
  let n := pW w * pH w
  let px := fun x y =>
    let (r, g, b) := s.storedPixel buf x y
    (decode20 r, decode20 g, decode20 b)
  let vs := (List.range n).map fun i => px (pX w + i % pW w) (pY w + i / pW w)
  match pReduce w with
  | 1 => vs.foldl (fun a v => (max a.1 v.1, max a.2.1 v.2.1, max a.2.2 v.2.2)) (0, 0, 0)
  | 2 => px (pX w + pW w / 2) (pY w + pH w / 2)
  | _ =>
    let t := vs.foldl (fun a v => (a.1 + v.1, a.2.1 + v.2.1, a.2.2 + v.2.2)) (0, 0, 0)
    ((t.1 + n / 2) / n, (t.2.1 + n / 2) / n, (t.2.2 + n / 2) / n)

/-- The 16-bit value v of channel c of a profile (R316). -/
def emitValue (p : List Nat) (c : Nat) (rgb : Nat × Nat × Nat) : Nat :=
  let m := min rgb.1 (min rgb.2.1 rgb.2.2)
  let sub := if eSubw p then m else 0
  let r : Int := (rgb.1 - sub : Nat)
  let g : Int := (rgb.2.1 - sub : Nat)
  let b : Int := (rgb.2.2 - sub : Nat)
  let x : Int := if eKind p c = 0 then eP p c 0 * r + eP p c 1 * g + eP p c 2 * b else eP p c 0 * (m : Int)
  let v := (clampI 0 full20 ((x + 4096) / 8192)).toNat
  if eCurve p then encode20 v else min 65535 ((v + 8) / 16)

/-- The six outputs of a probe (R316). -/
def probeOut (w : Nat × Nat) (p : List Nat) (rgb : Nat × Nat × Nat) : List Nat :=
  (List.range 6).map fun c =>
    if eNch p ≤ c then 0
    else
      let v := emitValue p c rgb
      if pWide w then v else (v * 255 + 32767) / 65535

/-- The buffer that holds the composed canvas of a tally, if composed whole. -/
def State.canvasOf (s : State) (n : Nat) : Option Nat :=
  match s.pipe.comp with
  | some j =>
    if j.tally = n ∧ j.done then some j.buf
    else if s.pipe.frontTally = some n then some (if s.chase then 0 else s.pipe.front) else none
  | none => if s.pipe.frontTally = some n then some (if s.chase then 0 else s.pipe.front) else none

/-- The record of a tally's probe outputs. -/
def State.probeVals (s : State) (n : Nat) : Option ProbeVals := s.fixture.values.find? (·.tally == n)

/-- Outputs of a probe of a record. -/
def probeChannels (v : ProbeVals) (e : Nat) : List Nat := tabGetD v.vals e [0, 0, 0, 0, 0, 0]

/-- Values of a tally enter the record, newest first; four tallies are kept. -/
def State.keepValues (s : State) (n base : Nat) (t : Tab (List Nat)) : State :=
  { s with fixture := { s.fixture with
    values := ({ tally := n, ready := s.ns, base := base, vals := t } :: s.fixture.values).take 4 } }

/-- The probe values of a tally (R315, R318): of its canvas, or, when its composition repeats or aborts, those of the tally
before, counted in PROBE_REPEAT. Nothing while composition of the tally may still finish. -/
def State.probeValues (s : State) (n : Nat) : State :=
  let newest := s.fixture.values.head?
  if newest.any fun v => decide (n ≤ v.tally) then s
  else match s.canvasOf n with
  | some buf =>
    let on := s.fixture.probes.filter fun e => pEnable (s.probeAt e.1 n)
    s.keepValues n n (on.map fun e =>
      let w := s.probeAt e.1 n
      (e.1, probeOut w (s.emitAt (pProfile w) n) (s.probeRgb buf w)))
  | none =>
    let due := if s.chase then s.tp n - 100000 else s.tp (n - 1)
    if s.ns < due then s
    else (s.bump Reg.PROBE_REPEAT).keepValues n ((newest.map (·.base)).getD (n - 1)) ((newest.map (·.vals)).getD [])

/-- A probe of a destroyed set stops from a tally: its entries are disabled (Table 13.3). -/
def State.probesStop (s : State) (first blocks eff : Nat) : State :=
  let cur := s.tally
  let t := s.fixture.probes.map fun e =>
    if 64 * first ≤ e.1 ∧ e.1 < 64 * (first + blocks) then (e.1, timedSet e.2 eff (0, 0) cur) else e
  ({ s with fixture := { s.fixture with probes := t } }).probeSettle

end Sys2Proof.Machine
end

