-- ==== Sys2Proof/Machine/WayOps.lean ====
section
/-!
DEFINITION. Waybills: entries, their checks, sources, outputs, merging and departure (11_probes_fixtures.md, R319 to
R327), with the mirror of untimed inputs (R284).
-/
namespace Sys2Proof.Machine

/-! ### Entries (Table 11.3) -/

def wSrc (w : List Nat) : Nat := bits (w.getD 0 0) 3 0
def wDst (w : List Nat) : Nat := bits (w.getD 0 0) 7 4
def wEnable (w : List Nat) : Bool := bit (w.getD 0 0) 8
def wLtp (w : List Nat) : Bool := bit (w.getD 0 0) 9
def wSrcWide (w : List Nat) : Bool := bit (w.getD 0 0) 10
def wDstWide (w : List Nat) : Bool := bit (w.getD 0 0) 11
def wDormant (w : List Nat) : Bool := bit (w.getD 0 0) 12
def wCount (w : List Nat) : Nat := bits (w.getD 0 0) 21 13 + 1
def wPch (w : List Nat) : Nat := bits (w.getD 0 0) 24 22 + 1
def wFirstCh (w : List Nat) : Nat := bits (w.getD 0 0) 27 25
def wSrcH (w : List Nat) : Nat := w.getD 1 0
def wSrcI (w : List Nat) : Nat := w.getD 2 0
def wDstH (w : List Nat) : Nat := w.getD 3 0
def wDstI (w : List Nat) : Nat := w.getD 4 0
def wDstO (w : List Nat) : Nat := w.getD 5 0
def wScale (w : List Nat) : Nat := bits (w.getD 6 0) 15 0
def wOffset (w : List Nat) : Int := signed 16 (bits (w.getD 6 0) 31 16)
def wLead (w : List Nat) : Nat := bits (w.getD 7 0) 16 0
/-- Universe and first slot of an sACN end. -/
def wUniv (i : Nat) : Nat := bits i 15 0
def wSlot (i : Nat) : Nat := bits i 24 16
/-- First slot or parameter of a destination. -/
def wDstFirst (w : List Nat) : Nat := match wDst w with
  | 1 => bits (wDstI w) 9 0
  | 2 => wSlot (wDstI w)
  | _ => bits (wDstI w) 7 0

/-- The newest words of an entry, and those of a tally. -/
def State.way (s : State) (e : Nat) : List Nat := (timedTop (tabGetD s.fixture.ways e [])).getD [0, 0, 0, 0, 0, 0, 0, 0]
def State.wayAt (s : State) (e n : Nat) : List Nat :=
  (timedAt (tabGetD s.fixture.ways e []) n).getD [0, 0, 0, 0, 0, 0, 0, 0]

/-- An entry produces values for a tally: enabled, not dormant, and not stopped by a fault of its own (Table 15.3). -/
def State.wayOn (s : State) (e n : Nat) : Bool :=
  let w := s.wayAt e n
  wEnable w && !wDormant w && !s.stopped fun d i => 176 ≤ d && d ≤ 178 && i == e

/-! ### Checks (R320) -/

/-- Berth parameters of a UNIVERSE_SET: DIR, FIRST, COUNT, MACS, SLOTS, PRIORITY, DIV, KEEPALIVE, ON_LOSS (Table 11.6). -/
def uParam (b : Berth) (i : Nat) : Nat := b.params.getD i 0

/-- KINDs of handle that a source and a destination take (Tables 11.4, 11.5); 0 for none. -/
def srcKindOf (k : Nat) : Nat := if k = 1 then 6 else if k = 2 then 3 else 0
def dstKindOf (k : Nat) : Nat := match k with
  | 1 => 7
  | 2 => 6
  | 3 => 4
  | 4 => 5
  | _ => 0

/-- A handle that an entry of its kind may name: well formed, of the kind, live, and of the direction for a universe
set. -/
def State.wayHandleOk (s : State) (kind dir h : Nat) : Bool :=
  kind == 0 || (!malformed h && hKind h == kind && s.live h && (kind != 6 || uParam (s.berth (hIndex h)) 0 == dir))

/-- The handles of an entry that must be live. -/
def wayHandles (w : List Nat) : List (Nat × Nat × Nat) :=
  [(srcKindOf (wSrc w), 0, wSrcH w), (dstKindOf (wDst w), 1, wDstH w)]

/-- A universe lies in a set. -/
def univIn (b : Berth) (u : Nat) : Bool := decide (uParam b 1 ≤ u ∧ u < uParam b 1 + uParam b 2)

/-- Number of watchkeeper values (Table 16.12). -/
def watchValues : Nat := 19

/-- The ranges of R320 of an entry whose handles are good. -/
def State.wayRangeOk (s : State) (w : List Nat) : Bool :=
  let n := wCount w
  let src := match wSrc w with
    | 1 => univIn (s.berth (hIndex (wSrcH w))) (wUniv (wSrcI w)) && wSlot (wSrcI w) != 0
        && decide (wSlot (wSrcI w) + n * (1 + (wSrcWide w).toNat) ≤ 513)
    | 2 => decide (wFirstCh w + wPch w ≤ 6
        ∧ bits (wSrcI w) 13 0 + ceilDiv n (wPch w) ≤ 64 * (s.berth (hIndex (wSrcH w))).extent)
    | 3 => decide (bits (wSrcI w) 9 0 + n ≤ 1024)
    | 4 => decide (bits (wSrcI w) 1 0 + n ≤ 4)
    | 5 => decide (bits (wSrcI w) 5 0 + n ≤ watchValues)
    | _ => true
  let wide := 1 + (wDstWide w).toNat
  let dst := match wDst w with
    | 1 => wDstFirst w != 0 && decide (wDstFirst w + n * wide ≤ 513)
    | 2 => univIn (s.berth (hIndex (wDstH w))) (wUniv (wDstI w)) && wDstFirst w != 0
        && decide (wDstFirst w + n * wide ≤ 513)
    | 3 => decide (wDstFirst w + n ≤ 7)
    | 4 => decide (wDstFirst w + n ≤ 7)
    | _ => true
  src && dst

/-- REASON of an entry (R320, WAY_STAT): 1 handle, 2 range, 3 field out of range; the first of these that applies. -/
def State.wayReason (s : State) (w : List Nat) : Nat :=
  if !wEnable w then 0
  else if (wayHandles w).any fun h => !s.wayHandleOk h.1 h.2.1 h.2.2 then 1
  else if !s.wayRangeOk w then 2
  else if 100000 < wLead w ∨ 5 < wSrc w ∨ 5 < wDst w ∨ (wDst w = 5 ∧ wDstO w % 4 ≠ 0) then 3 else 0

/-- WAY_COUNT follows the table. -/
def State.waySettle (s : State) : State :=
  let ws := (s.fixture.ways.map fun e => s.way e.1).filter wEnable
  s.wn Reg.WAY_COUNT (ws.length + 65536 * (ws.filter wDormant).length)

/-- The words of a block's 16 entries. -/
def State.wayBlock (s : State) (b : Nat) : List Nat := (List.range 16).flatMap fun i => s.way (16 * b + i)

/-- A write of WAY_SEL (R319). -/
def State.waySelWrite (s : State) (req : Requester) (v : Nat) : State :=
  if bit (s.rn Reg.WAY_STAT) 0 then s.accErr req Reg.WAY_SEL true false
  else (s.wn Reg.WAY_SEL (bits v 7 0)).wrWords (Reg.WAY_WIN 0) (s.wayBlock (bits v 7 0))

/-- Lists of n words. -/
def wordsBy (n : Nat) : Nat → List Nat → List (List Nat)
  | 0, _ => []
  | k + 1, ws => ws.take n :: wordsBy n k (ws.drop n)

/-- GO of WAY_COMMIT (R319, R320). -/
def State.wayCommit (s : State) (cue : Option Nat := none) : State :=
  let ws := s.rdWords (Reg.WAY_WIN 0) 128
  let pending := s.fld Reg.WAY_STAT 0 0
  match ((wordsBy 8 16 ws).zipIdx).find? fun e => s.wayReason e.1 != 0 with
  | some (w, i) => s.wn Reg.WAY_STAT (pending + 2 + 4 * s.wayReason w + 16 * i)
  | none => (s.wn Reg.WAY_STAT 1).submit (.wayBlock (s.fld Reg.WAY_SEL 7 0) ws) true cue

/-- A latched block: its entries hold from the effective tally, with DORMANT clear (R319, R326). -/
def State.wayLatch (s : State) (b : Nat) (ws : List Nat) (eff : Nat) : State :=
  let cur := s.tally
  let t := ((wordsBy 8 16 ws).zipIdx).foldl (fun (t : Tab (Timed (List Nat))) e =>
    tabMod t (16 * b + e.2) [] fun l => timedSet l eff (putBits (e.1.getD 0 0) 12 12 0 :: e.1.drop 1) cur) s.fixture.ways
  ((({ s with fixture := { s.fixture with ways := t } }).setFld Reg.WAY_STAT 0 0 0).wn Reg.WAY_EFF eff).waySettle

/-- The tally from which a stale handle's berth has ended: its destroy's effective tally, or `eff` when the berth is gone. -/
def State.endedFrom (s : State) (h eff : Nat) : Nat :=
  let b := s.berth (hIndex h)
  if b.gen = hGen h then b.endTally.getD eff else eff

/-- Every handle of every enabled waybill is checked; an entry with a stale one becomes dormant from the tally from which
the destroy applies, counted and logged (R326). -/
def State.wayCheck (s : State) (eff : Nat) : State :=
  let cur := s.tally
  (s.fixture.ways.map (·.1)).foldl (fun s e =>
    let w := s.way e
    if wEnable w && !wDormant w then
      match (wayHandles w).find? fun h => h.1 != 0 && !s.live h.2.2 with
      | some h =>
        let n := s.endedFrom h.2.2 eff
        let l := timedSet (tabGetD s.fixture.ways e []) n (putBits (w.getD 0 0) 12 12 1 :: w.drop 1) cur
        let s := { s with fixture := { s.fixture with ways := tabSet s.fixture.ways e l } }
        ((s.bump Reg.WAY_DORMANT).raise 177 e h.2.2).waySettle
      | none => s
    else s) s

/-! ### Inputs by tally (R284, R330) -/

/-- The first tally whose governing latch edge falls at least 500 µs after a stamp of now. -/
def State.inputTally (s : State) : Nat := s.nextEdge (s.ns + 499999) + s.lag

/-- The Escort takes its inputs from the Lead, its own only while the heartbeat group is down (R158, R284). -/
def State.mirrored (s : State) : Bool := s.role == 2 && s.heartbeatUp

/-- A Lead sends an input to the Escort with its tally (R284). -/
def State.mirrorOut (s : State) (n : Nat) (fields : List Nat) : State :=
  if s.role = 1 then s.twinSend "MIRROR" 0 (n :: fields) else s

/-- Slots of an input universe from a tally. -/
def State.univApply (s : State) (u n : Nat) (slots : List Nat) : State :=
  { s with fixture := { s.fixture with univIn := tabMod s.fixture.univIn u {} fun x =>
      { x with slots := timedSet x.slots n slots s.tally } } }

def State.ltcApply (s : State) (n code : Nat) : State :=
  { s with fixture := { s.fixture with ltc := timedSet s.fixture.ltc n code s.tally } }

def State.watchApply (s : State) (v n x : Nat) : State :=
  { s with fixture := { s.fixture with watch := tabMod s.fixture.watch v [] fun l => timedSet l n x s.tally } }

/-- Mirrored inputs enter their tallies. -/
def State.takeMirror (s : State) : State :=
  let s' := s.twin.mirrored.foldl (fun s m => match m.2 with
    | .sacn u l => s.univApply u m.1 l
    | .ltc c => s.ltcApply m.1 c
    | .watch v x => s.watchApply v m.1 x
    | .ambient _ => s
    | .tj p v => { s with lamp := { s.lamp with
        leadTj := tabMod s.lamp.leadTj p [] fun l => timedSet l m.1 (signed 16 v) s.tally } }) s
  { s' with twin := { s'.twin with mirrored := [] } }

/-- A latest timecode or a routed watchkeeper value stamped now, from its tally (R284, log entry 24). -/
def State.ltcInput (s : State) (code : Nat) : State :=
  if s.mirrored then s else (s.ltcApply s.inputTally code).mirrorOut s.inputTally [1, code]
def State.watchInput (s : State) (v x : Nat) : State :=
  if s.mirrored then s
  else
    let routed := s.fixture.ways.any fun e =>
      let w := s.way e.1
      wEnable w && wSrc w == 5 && decide (bits (wSrcI w) 5 0 ≤ v ∧ v < bits (wSrcI w) 5 0 + wCount w)
    let s' := s.watchApply v s.inputTally x
    if routed then s'.mirrorOut s.inputTally [2, v, x] else s'

/-! ### Outputs (R321, R322) -/

/-- The 16-bit u of each value of an entry at a tally, and when its probes were ready; none while they are not (R321). -/
def State.waySource (s : State) (w : List Nat) (n : Nat) : Option (List Nat × Nat) :=
  let k := wCount w
  match wSrc w with
  | 1 =>
    let sl := (timedAt (tabGetD s.fixture.univIn (wUniv (wSrcI w)) {}).slots n).getD []
    let f := wSlot (wSrcI w) - 1
    some ((List.range k).map fun i =>
      if wSrcWide w then 256 * sl.getD (f + 2 * i) 0 + sl.getD (f + 2 * i + 1) 0 else 257 * sl.getD (f + i) 0, 0)
  | 2 =>
    let base := 64 * (s.berth (hIndex (wSrcH w))).resource + bits (wSrcI w) 13 0
    (s.probeVals n).map fun v =>
      ((List.range k).map fun i =>
        let e := base + i / wPch w
        let x := (probeChannels v e).getD (wFirstCh w + i % wPch w) 0
        if pWide (s.probeAt e v.base) then x else 257 * x, v.ready)
  | 3 => some ((List.range k).map fun i =>
      (timedAt (tabGetD s.fixture.params (bits (wSrcI w) 9 0 + i) []) n).getD 0, 0)
  | 4 =>
    let c := (timedAt s.fixture.ltc n).getD 0
    some ((List.range k).map fun i => ofBcd (bits c (8 * (bits (wSrcI w) 1 0 + i) + 7) (8 * (bits (wSrcI w) 1 0 + i))), 0)
  | 5 => some ((List.range k).map fun i =>
      let x := (timedAt (tabGetD s.fixture.watch (bits (wSrcI w) 5 0 + i) []) n).getD 0
      16 * x + x / 256, 0)
  | _ => some (List.replicate k 0, 0)

/-- y of a value (R322). -/
def wayY (w : List Nat) (u : Nat) : Nat := (clampI 0 65535 (((u * wScale w + 2048) / 4096 : Nat) + wOffset w)).toNat

def State.wayOut (s : State) (e : Nat) : WayOut := tabGetD s.fixture.outs e {}

/-- The values of a waybill that takes from probes repeat those of the tally before when composition did (R134, R135). -/
def State.wayRepeat (s : State) (e n : Nat) : Option (List Nat) :=
  if (s.probeVals n).any fun v => decide (v.base < n) then
    ((s.wayOut e).hist.find? fun h => h.1 + 1 == n).map (·.2.1)
  else none

/-- The outputs of an entry for one tally enter its record, with the tally of their last change: this one when they differ
from the tally before, or when a commit enables the entry from it (R323). -/
def State.wayEvalOne (s : State) (e n : Nat) : State :=
  let o := s.wayOut e
  if !s.wayOn e n || o.hist.any (·.1 == n) then s
  else match s.waySource (s.wayAt e n) n with
  | none => s
  | some (us, _) =>
    let w := s.wayAt e n
    let ys := (if wSrc w = 2 then s.wayRepeat e n else none).getD (us.map (wayY w))
    let on := s.wayOn e (n - 1) && decide (0 < n)
    let chg := match o.hist.find? fun h => decide (h.1 < n) with
      | some (_, vs, c) => if vs = ys ∧ on then c else n
      | none => n
    { s with fixture := { s.fixture with outs := tabSet s.fixture.outs e { o with hist := ((n, ys, chg) :: o.hist).take 32 } } }

/-- The outputs of an entry up to a tally: those of the tallies since its newest record, at most eight, come first, so that
a change is dated by its own tally also where the destination skips tallies (R323). -/
def State.wayEval (s : State) (e n : Nat) : State :=
  let first := match (s.wayOut e).hist.head? with
    | some h => max (h.1 + 1) (n - 8)
    | none => n
  if n < first then s.takeMirror
  else (List.range (n + 1 - first)).foldl (fun s i => s.wayEvalOne e (first + i)) s.takeMirror

/-- Every waybill's outputs for a tally whose probe values are ready (R323). -/
def State.waysEval (s : State) (n : Nat) : State := (s.fixture.ways.map (·.1)).foldl (fun s e => s.wayEval e n) s

/-- An entry's outputs at a tally and the tally of their change. -/
def State.wayVals (s : State) (e n : Nat) : Option (List Nat × Nat) :=
  ((s.wayOut e).hist.find? (·.1 == n)).map (·.2)

/-- The instant at which the probes an entry takes from were ready; 0 for other sources. -/
def State.wayReady (s : State) (e n : Nat) : Nat := ((s.waySource (s.wayAt e n) n).map (·.2)).getD 0

/-! ### Merging (R323) -/

/-- Entries on for a tally that write to a destination, in ascending index. -/
def State.writers (s : State) (n : Nat) (dst : List Nat → Bool) : List Nat :=
  (s.fixture.ways.map (·.1)).filter fun e => s.wayOn e n && dst (s.wayAt e n)

/-- What an entry gives a slot: the low byte forms of R322. -/
def slotBytes (w : List Nat) (ys : List Nat) : List Nat :=
  if wDstWide w then ys.flatMap fun y => [y / 256, y % 256] else ys.map fun y => (y * 255 + 32767) / 65535

/-- Candidates merged: by the mode of the lowest-indexed, the greatest value, or the latest change with the lower index
first among equals. -/
def mergeVals (ltp : Bool) (c : List (Nat × Nat)) : Nat :=
  if ltp then (c.foldl (fun (a : Option (Nat × Nat)) x => match a with
    | none => some x
    | some y => if y.2 < x.2 then some x else some y) none).elim 0 (·.1)
  else c.foldl (fun a x => max a x.1) 0

/-- The merged value of a place: candidates are (value, change) of each entry in ascending index that writes it. -/
def State.mergeAt (s : State) (es : List Nat) (n place : Nat) (place0 : List Nat → Nat) (vals : List Nat → List Nat → List Nat) :
    Option Nat :=
  let c := es.filterMap fun e =>
    let w := s.wayAt e n
    match s.wayVals e n with
    | some (ys, chg) =>
      let v := vals w ys
      if place0 w ≤ place ∧ place < place0 w + v.length then some (wLtp w, v.getD (place - place0 w) 0, chg) else none
    | none => none
  match c with
  | [] => none
  | x :: _ => some (mergeVals x.1 (c.map (·.2)))

/-- The slots of a frame or packet for a tally, slot 1 first; a slot that no entry writes carries 0. -/
def State.slotsFor (s : State) (es : List Nat) (n count : Nat) : List Nat :=
  (List.range count).map fun i => (s.mergeAt es n (i + 1) wDstFirst slotBytes).getD 0

/-- The greatest LEAD among entries, ns (R324). -/
def State.leadOf (s : State) (es : List Nat) (n : Nat) : Nat := es.foldl (fun a e => max a (wLead (s.wayAt e n))) 0 * 1000

/-! ### Departure (R27, R324) -/

/-- Whether the values of entries for a tally can depart: their probes are ready. -/
def State.waysReady (s : State) (es : List Nat) (n : Nat) : Bool :=
  es.all fun e => (s.waySource (s.wayAt e n) n).isSome

/-- A departure later than its instant because its probe values were not ready by then is counted once (R27). -/
def State.wayLate (s : State) (n due e : Nat) : State :=
  if due < s.wayReady e n ∧ (s.wayOut e).late ≠ some n then
    let s := { s with fixture := { s.fixture with
      outs := tabMod s.fixture.outs e {} fun o => { o with late := some n },
      late := tabMod s.fixture.late e 0 fun c => min (c + 1) (2 ^ 64 - 1) } }
    (s.bump Reg.WAY_LATE).raiseSec 176 e
  else s

/-- Entries that depart together for a tally are evaluated, and the late ones counted. -/
def State.waysDepart (s : State) (es : List Nat) (n lead : Nat) : State :=
  let s := es.foldl (fun s e => s.wayEval e n) s
  es.foldl (fun s e => s.wayLate n (s.tp n - lead) e) s

/-! ### Tile registers (R325) -/

/-- A commit of an entry takes effect at a tally (R319, R325). -/
def State.wayFrom (s : State) (e n : Nat) : Bool := (tabGetD s.fixture.ways e []).any (·.1 == n)

/-- A tile-register entry writes its values as posted Ferry writes at its effective tally and when they change; an Escort
makes none. -/
def State.wayTile (s : State) (e n : Nat) : State :=
  match s.wayVals e n with
  | some (ys, chg) =>
    if (chg = n ∨ s.wayFrom e n = true) ∧ s.role ≠ 2 then
      let w := s.wayAt e n
      let node := 0x8000 + bits (wDstI w) 10 0
      ys.zipIdx.foldl (fun s v =>
        s.ferryPost .waybill (ferryAddr node (bits (wDstI w) 18 11) (wDstO w + 4 * v.2)) [BitVec.ofNat 32 v.1]) s
    else s
  | none => s

/-! ### Registers -/

/-- A WAY_PARAM write is a commit (R327). -/
def State.wayParamWrite (s : State) (i v : Nat) (cue : Option Nat := none) : State :=
  (s.wn (Reg.WAY_PARAM i) (bits v 15 0)).submit (.wayParam i (bits v 15 0)) true cue

def State.wayParamLatch (s : State) (i v eff : Nat) : State :=
  { s with fixture := { s.fixture with params := tabMod s.fixture.params i [] fun l => timedSet l eff v s.tally } }

end Sys2Proof.Machine
end

