-- ==== Sys2Proof/Machine/FixtureOps.lean ====
section
/-!
DEFINITION. sACN input and output, DMX512-A ports and RDM (11_probes_fixtures.md, R328 to R340).
-/
namespace Sys2Proof.Machine

/-! ### Universe sets -/

/-- The universe set in force that holds a universe of a direction at a tally: live, or destroyed with a later effective
tally. -/
def State.univSet (s : State) (dir u n : Nat) : Option Berth :=
  (s.berths.entries.find? fun e => e.2.kind == 6 && uParam e.2 0 == dir && univIn e.2 u
    && (e.2.state == 1 || (e.2.state == 2 && e.2.endTally.any fun t => decide (n < t)))).map (·.2)

def State.uIn (s : State) (u : Nat) : UnivIn := tabGetD s.fixture.univIn u {}
def State.setUIn (s : State) (u : Nat) (x : UnivIn) : State :=
  { s with fixture := { s.fixture with univIn := tabSet s.fixture.univIn u x } }
def State.uOut (s : State) (u : Nat) : UnivOut := tabGetD s.fixture.univOut u {}
def State.setUOut (s : State) (u : Nat) (x : UnivOut) : State :=
  { s with fixture := { s.fixture with univOut := tabSet s.fixture.univOut u x } }

/-- A universe set stopped by a fault of one of its universes (Table 15.3). -/
def State.univStopped (s : State) (b : Berth) : Bool := s.stopped fun d i => 179 ≤ d && d ≤ 181 && univIn b i

/-! ### CIDs (R331); byte 0 is the most significant of the number -/

/-- A CID from a unique device ID: a version 4 UUID with the variant bits of RFC 4122 (R331). -/
def uuidOf (uid : List Byte) : List Byte :=
  uid.mapIdx fun i b => if i = 6 then (b &&& 0x0F#8) ||| 0x40#8 else if i = 8 then (b &&& 0x3F#8) ||| 0x80#8 else b

/-- The CID of a device of a node and unique ID, under a manifest CID when one is given. -/
def cidOf (given enable : Bool) (manifest : List Byte) (node : Nat) (uid : List Byte) : List Byte :=
  if given then (if enable then manifest.take 12 ++ beBytes 4 node else manifest) else uuidOf uid

/-- The CID in use (WAY_SACN_CID), and the twin's. -/
def State.ownCid (s : State) : List Byte := (s.rdWords (Reg.WAY_SACN_CID 0) 4).flatMap (leBytes 4)
def State.twinCid (s : State) : Option Nat :=
  s.twin.peerUid.map fun u =>
    beNat (cidOf s.fixture.cidGiven (bit (s.rn Reg.TWIN_CFG) 0) s.ownCid (s.rn Reg.TWIN_PEER) (leBytes 16 u))

/-! ### Input (R329, R330) -/

/-- The merge of live sources: slot by slot the highest of the highest priority. -/
def sacnMerge (l : List SacnSource) : List Nat :=
  let p := l.foldl (fun a x => max a x.prio) 0
  (List.range 512).map fun i => (l.filter (·.prio == p)).foldl (fun a x => max a (x.slots.getD i 0)) 0

/-- A universe's merge enters the tally that its stamp gives, and goes to the Escort; at an Escort that mirrors, its own
copy is ignored, and so is that of a set that a fault stops (R284, R330). -/
def State.univMerged (s : State) (u : Nat) (slots : List Nat) : State :=
  if s.mirrored || (s.univSet 0 u s.tally).any s.univStopped then s else (s.univApply u s.inputTally slots).mirrorOut s.inputTally (0 :: u :: slots)

/-- A source of a universe is gone, if it was tracked: the rest merge, or the universe is lost and follows ON_LOSS (R330). -/
def State.sourceGone (s : State) (u cid : Nat) (b : Berth) : State :=
  let x := s.uIn u
  let l := x.sources.filter (·.cid != cid)
  if l.length = x.sources.length then s
  else if l.isEmpty then
    let s := (s.setUIn u { x with sources := [], lost := true }).raiseOnce 180 u
    if uParam b 8 = 1 then s.univMerged u (List.replicate 512 0) else s
  else (s.setUIn u { x with sources := l }).univMerged u (sacnMerge l)

/-- An accepted packet's source. -/
def State.sourceTake (s : State) (u : Nat) (p : SacnPacket) (b : Berth) : State :=
  let x := s.uIn u
  let s := s.bump Reg.WAY_SACN_RX
  if bit p.options 6 then (s.setUIn u { x with lastSeq := p.seq }).sourceGone u p.cid b
  else
    let l := x.sources.filter (·.cid != p.cid) ++ [⟨p.cid, p.priority, p.seq, p.slots.take 512, s.clk⟩]
    let s := (s.setUIn u { x with sources := l, lastSeq := p.seq, lost := false }).condClear 180 u
    s.univMerged u (sacnMerge l)

/-- An sACN packet arrives on a MAC (R329, R330). -/
def State.sacnReceive (s : State) (m : Nat) (p : SacnPacket) : State :=
  if !p.data || p.startCode != 0 || bit p.options 7 || p.cid == beNat s.ownCid || s.twinCid == some p.cid then
    s.bump Reg.WAY_SACN_IGNORED
  else match s.univSet 0 p.univ s.tally with
  | none => s
  | some b =>
    if !bit (uParam b 3) m then s
    else match (s.uIn p.univ).sources.find? (·.cid == p.cid) with
    | some q =>
      let d := (p.seq + 256 - q.seq) % 256
      if d = 0 ∨ 237 ≤ d then s.bump Reg.WAY_SACN_SEQ_DROP else s.sourceTake p.univ p b
    | none =>
      if 4 ≤ (s.uIn p.univ).sources.length then (s.bump Reg.WAY_SACN_SRC_OVER).raiseSec 179 p.univ
      else s.sourceTake p.univ p b

/-! ### Output (R331 to R333) -/

/-- MACs of a bit map. -/
def macsOf (m : Nat) : List Nat := (List.range 5).filter (bit m)

/-- The priority sent: at an Escort less SACN_DELTA, at least 0 (R331). -/
def State.sacnPriority (s : State) (p : Nat) : Nat := if s.role = 2 then p - s.fld Reg.TWIN_CFG 10 4 else p

/-- The IPv4 group of a universe at port 5568 (ANSI E1.31). -/
def univPeer (u : Nat) : Nat := groupPeer (0xEFFF0000 + u) 5568

/-- A data packet of a universe leaves on each MAC of its set (R331). -/
def State.sacnOut (s : State) (u : Nat) (x : UnivOut) (options : Nat) (slots : List Nat) : State :=
  let seq := (x.seq + 1) % 256
  let p := sacnData s.ownCid s.nvm.name (s.sacnPriority x.prio) seq options u slots
  let s := (macsOf x.macs).foldl (fun s m => (s.bump Reg.WAY_SACN_TX).udpSend m 5 "SACN" 5568 (univPeer u) p) s
  s.setUOut u { x with seq := seq, last := some s.clk, sent := slots }

/-- Every MAC of a map has room in transmit queue 5. -/
def State.roomFor (s : State) (macs : Nat) : Bool :=
  (macsOf macs).all fun m => decide ((tabGetD (s.mac m).txq 5 []).length < 64)

/-- Entries that write to an sACN universe for a tally. -/
def State.univWriters (s : State) (u n : Nat) : List Nat := s.writers n fun w => wDst w == 2 && wUniv (wDstI w) == u

/-- An output universe at a tally (R332, R333): nothing before its departure, while its probe values or a queue are not
ready, or when handled already; otherwise its slots leave when they changed, fewer than 3 packets followed the last
change, or KEEPALIVE would pass before its next tally. A terminating universe sends its last slots with Stream_Terminated,
one packet for each tally. A universe held safe, or whose set is stopped, terminates (Tables 15.3, 15.5). -/
def State.sacnSend (s : State) (n u : Nat) : State :=
  let x := s.uOut u
  if x.tally.any fun t => decide (n ≤ t) then s
  else match s.univSet 1 u n with
  | none =>
    if x.term = 0 ∨ s.ns < s.tp n ∨ s.roomFor x.macs = false then s
    else s.sacnOut u { x with term := x.term - 1, tally := some n } 64
      (if x.sent.isEmpty then List.replicate x.slots 0 else x.sent)
  | some b =>
    let es := s.univWriters u n
    let lead := s.leadOf es n
    let div := max 1 (uParam b 6)
    let x := { x with macs := uParam b 3, slots := uParam b 4, prio := uParam b 5 }
    if n % div ≠ 0 ∨ s.ns < s.tp n - lead ∨ s.waysReady es n = false ∨ s.roomFor x.macs = false then s
    else
      let s := s.waysDepart es n lead
      let due := es.foldl (fun a e => max a (s.wayReady e n)) (s.tp n - lead)
      let x := { x with tally := some n }
      if s.allSafe || s.heldBy 181 u 5 || s.univStopped b then
        if x.term = 0 then s.setUOut u x else s.sacnOut u { x with term := x.term - 1 } 64 x.sent
      else
        let slots := s.slotsFor es n x.slots
        let changed := slots != x.sent
        let gap := (s.tp (n + div) - s.tp n) * 4 / 5
        let keep := match x.last with
          | some c => decide (c + ms (uParam b 7) < s.clk + gap)
          | none => true
        if changed || decide (x.since < 3) || keep then
          let s := s.sacnOut u { x with since := if changed then 1 else min 3 (x.since + 1), term := 3 } 0 slots
          if due + 1000000 < s.ns then (s.bump Reg.WAY_SACN_LATE).raiseSec 181 u else s
        else s.setUOut u x

/-- Output universes, ascending, of sets in force. -/
def State.outUniverses (s : State) : List Nat :=
  let n := s.tally
  let l := (s.berths.entries.filter fun e => e.2.kind == 6 && uParam e.2 0 == 1 && e.2.state == 1).flatMap fun e =>
    (List.range (uParam e.2 2)).map (uParam e.2 1 + ·)
  (l.foldl (fun (t : Tab Nat) u => tabSet t u n) []).map (·.1)

/-- Discovery packets every 10 s on universe 64214, queue 4, 512 universes a page, on each MAC of an output set (R333). -/
def State.sacnDiscovery (s : State) : State :=
  let us := s.outUniverses
  if us.isEmpty ∨ s.elapsed s.fixture.lastDiscovery (sec 10) = false then s
  else
    let macs := (s.berths.entries.filter fun e => e.2.kind == 6 && uParam e.2 0 == 1 && e.2.state == 1).foldl
      (fun a e => a ||| uParam e.2 3) 0
    let pages := ceilDiv us.length 512
    let s := { s with fixture := { s.fixture with lastDiscovery := s.clk } }
    (macsOf macs).foldl (fun s m => (List.range pages).foldl (fun s p =>
      s.udpSend m 4 "SACN_DISCOVERY" 5568 (univPeer 64214)
        (sacnDiscoveryPage s.ownCid s.nvm.name p (pages - 1) ((us.drop (512 * p)).take 512))) s) s

/-! ### DMX ports (R334 to R336) -/

def State.dmx (s : State) (p : Nat) : Dmx := tabGetD s.fixture.dmx p {}

/-- Fields of DMX_CFG and DMX_TIMING (Table 11.12). -/
def State.dmxSlots (s : State) (p : Nat) : Nat := s.fld (Reg.DMX_CFG p) 9 0
def State.dmxOn (s : State) (p : Nat) : Bool := bit (s.rn (Reg.DMX_CFG p)) 10
def State.dmxShared (s : State) (p : Nat) : Bool := bit (s.rn (Reg.DMX_CFG p)) 11
def State.rdmShare (s : State) (p : Nat) : Nat := s.fld (Reg.DMX_CFG p) 19 12
def State.rdmOn (s : State) (p : Nat) : Bool := s.dmxOn p && bit (s.rn (Reg.DMX_TIMING p)) 25

/-- A port drives its line: enabled, and not shared at an Escort (R336). -/
def State.dmxDrives (s : State) (p : Nat) : Bool := s.dmxOn p && !(s.dmxShared p && s.role == 2)

/-- F of R334, ns, for SLOTS, BREAK and MAB; and that of a port. -/
def dmxFrameNs (slots brk mab : Nat) : Nat := (brk + mab + 44 * (slots + 1)) * 1000
def State.dmxF (s : State) (p : Nat) : Nat :=
  let t := s.rn (Reg.DMX_TIMING p)
  dmxFrameNs (s.dmxSlots p) (bits t 9 0) (bits t 16 10)

/-- DIV in use: the one given, or the least d with d × T ≥ F + 100 µs (R335), T exact. -/
def dmxLeastDiv (c f : Nat) : Nat := max 1 (ceilDiv ((f + 100000) * rateNum c) (rateDen c * 10 ^ 9))
def State.dmxDiv (s : State) (p : Nat) : Nat :=
  let t := s.rn (Reg.DMX_TIMING p)
  if bits t 24 17 = 0 then dmxLeastDiv s.rate (s.dmxF p) else bits t 24 17

/-- DMX_STAT and the DMX_UID entries follow a port (Table 11.12). -/
def State.dmxSettle (s : State) (p : Nat) : State :=
  let x := s.dmx p
  let queued := x.queue.length
  let s := s.wn (Reg.DMX_STAT p) (if !s.dmxOn p then 0 else
    min 255 (s.dmxDiv p) + 256 * (s.dmxDrives p).toNat + 512 * x.uids.length + 2 ^ 18 * (!x.disc.isEmpty).toNat
      + 2 ^ 19 * (s.fltInst 182 p).standing.toNat + 2 ^ 20 * queued)
  (List.range 256).foldl (fun s i =>
    let a := Reg.DMX_UID (512 * p + 2 * i)
    match x.uids[i]? with
    | some (u, m) => (s.wn a (u % 2 ^ 32)).wn (a + 4) (u / 2 ^ 32 + 2 ^ 16 + m * 2 ^ 17)
    | none => (s.wn a 0).wn (a + 4) 0) s

def State.setDmx (s : State) (p : Nat) (x : Dmx) : State :=
  ({ s with fixture := { s.fixture with dmx := tabSet s.fixture.dmx p x } }).dmxSettle p

/-- Entries that write to a port's slots for a tally. -/
def State.portWriters (s : State) (p n : Nat) : List Nat :=
  s.writers n fun w => wDst w == 1 && (s.berth (hIndex (wDstH w))).resource == p

/-- RDM work waits: requests, then discovery (the order is the model's; log entry 25). -/
def rdmNext (x : Dmx) : Option RdmOp := (x.queue ++ x.disc).head?

/-- The next frame's break, ledger ns: the next tally that is a multiple of DIV, less its lead. -/
def State.nextBreak (s : State) (p : Nat) : Nat :=
  let d := s.dmxDiv p
  let n := (match (s.dmx p).tally with
    | some t => t / d + 1
    | none => s.tally / d + 1) * d
  s.tp n - s.leadOf (s.portWriters p n) n

/-- The packet an RDM operation sends on a port: from the controller's UID, port ID one more than the port's number, with
the port's transaction number (R337, R339). -/
def State.rdmFrame (s : State) (p : Nat) (op : RdmOp) : List Byte :=
  let f := fun dst cc sub pid pd => rdmPacket dst s.fixture.rdmUid (s.dmx p).tn (p + 1) cc sub pid pd
  match op with
  | .unMute => f (2 ^ 48 - 1) 0x10 0 3 []
  | .mute u _ => f u 0x10 0 2 []
  | .branch lo hi => f (2 ^ 48 - 1) 0x10 0 1 (beBytes 6 lo ++ beBytes 6 hi)
  | .request _ cc u sub pid pd _ => f u cc sub pid (pd.map (BitVec.ofNat 8))

/-- What the octets of a response mean to an operation. -/
def rdmAnswer (op : RdmOp) (reply : Option (List Byte)) : RdmAnswer :=
  match op, reply with
  | _, none => .none
  | .branch _ _, some b => discResponse b
  | _, some b => rdmResponse b

/-- The least length of a transaction in clocks (R337): the request with its break of 176 µs and mark of 16 µs, then the
response with 176 µs, 2.8 ms of silence, or 176 µs after a broadcast that nothing answers. -/
def rdmSpan (op : RdmOp) (request : List Byte) (reply : Option (List Byte)) : Nat :=
  us (192 + 44 * request.length) + match op, reply with
    | .unMute, _ => us 176
    | _, some b => us (44 * b.length + 176)
    | _, none => us 2800

/-- The longest transaction, in clocks (R337). -/
def rdmLimit : Nat := us 17500

/-- A transaction begins (R337): the request leaves after a break of 176 µs and a mark of 16 µs. -/
def State.rdmSend (s : State) (p : Nat) : State :=
  let x := s.dmx p
  match rdmNext x with
  | none => s
  | some op =>
    let x := { x with
      txn := some op, txnSince := s.clk, starved := false
      queue := x.queue.drop (if x.queue.isEmpty then 0 else 1), disc := if x.queue.isEmpty then x.disc.drop 1 else x.disc }
    ((s.setDmx p x).bump (Reg.DMX_RDM_TX p)).send "RDM" p (176 :: 16 :: (s.rdmFrame p op).map (·.toNat))

/-- A port whose line idles at mark: held safe, or its berth stopped (Tables 15.3, 15.5). -/
def State.dmxIdles (s : State) (p : Nat) : Bool :=
  s.allSafe || s.heldBy 182 p 5 || s.heldBy 183 p 5 || s.dmxStopped p

/-- Queued RDM requests answered as failed (Table 13.3). -/
def State.rdmFail (s : State) (p : Nat) : State :=
  let x := s.dmx p
  let s := x.queue.foldl (fun s q => match q with
    | .request d _ _ _ _ _ _ => s.respond d 0x60 13 []
    | _ => s) s
  s.setDmx p { x with queue := [] }

/-- A port may run RDM now: controller on, driving, line idle, work waiting. -/
def State.rdmReady (s : State) (p : Nat) : Bool :=
  let x := s.dmx p
  !s.dmxIdles p && s.rdmOn p && s.dmxDrives p && x.sending.isNone && x.txn.isNone && (rdmNext x).isSome

/-- A frame slot at a tally (R335, R338): skipped while the line is in use, given to RDM when work has found no gap and the
share allows, else a frame leaves with the merged slots of the tally. -/
def State.dmxFrame (s : State) (p n : Nat) : State :=
  let x := s.dmx p
  let es := s.portWriters p n
  let lead := s.leadOf es n
  if s.dmxOn p = false ∨ n % s.dmxDiv p ≠ 0 ∨ (x.tally.any fun t => decide (n ≤ t)) ∨ s.ns < s.tp n - lead then s
  else if x.sending.isSome ∨ x.txn.isSome then
    (s.bump (Reg.DMX_SKIPPED p)).setDmx p { x with tally := some n, sinceRdm := min 256 (x.sinceRdm + 1) }
  else if s.dmxIdles p then
    (if s.dmxStopped p then s.rdmFail p else s).setDmx p { x with tally := some n, queue := if s.dmxStopped p then [] else x.queue }
  else if s.rdmReady p ∧ x.starved = true ∧ s.rdmShare p ≤ x.sinceRdm + 1 then
    ((s.bump (Reg.DMX_SKIPPED p)).setDmx p { x with tally := some n, sinceRdm := 0 }).rdmSend p
  else if s.waysReady es n = false then s
  else
    let s := s.waysDepart es n lead
    let slots := s.slotsFor es n (s.dmxSlots p)
    let x := { x with tally := some n, sinceRdm := min 256 (x.sinceRdm + 1) }
    if s.dmxDrives p then
      let t := s.rn (Reg.DMX_TIMING p)
      ((s.setDmx p { x with sending := some slots, frameSince := s.clk }).bump (Reg.DMX_FRAMES p)).send "DMX" p
        (bits t 9 0 :: bits t 16 10 :: 0 :: slots)
    else s.setDmx p x

/-- A frame ends, F after its break began (R334, R336, R338): the line read back is compared, and waiting RDM work without a gap of 17.5 ms is noted. -/
def State.dmxEnd (s : State) (p : Nat) (readback : List Nat) : State :=
  let x := s.dmx p
  match x.sending with
  | none => s
  | some slots =>
    if s.elapsed x.frameSince (s.dmxF p * 4 / 5) = false then s else
    let diff := readback != slots
    let wrong := if diff then x.wrong + 1 else 0
    let starved := x.starved || ((rdmNext x).isSome && s.rdmOn p && decide (s.nextBreak p < s.ns + 17500000))
    let s := if 2 ≤ wrong then s.raiseOnce 182 p else s
    let f := s.fltInst 182 p
    let s := if diff ∧ f.standing = true then s.setFltInst 182 p { f with cond := false, quietFrom := s.clk + sec 1 } else s
    s.setDmx p { x with sending := none, wrong := wrong, starved := starved }

/-! ### RDM (R337 to R340) -/

/-- A transaction starts in a gap (R338). -/
def State.rdmStart (s : State) (p : Nat) : State :=
  if s.rdmReady p && decide (s.ns + 17500000 ≤ s.nextBreak p) then s.rdmSend p else s

/-- A responder is known: new ones enter the table with an arrival event, those beyond 256 are counted. -/
def State.uidFound (s : State) (p u : Nat) : State :=
  let x := s.dmx p
  if x.uids.any (·.1 == u) then s
  else if 256 ≤ x.uids.length then (s.bump (Reg.DMX_RDM_FULL p)).raise 183 p
  else (s.setDmx p { x with uids := x.uids ++ [(u, 0)] }).notify 0x30 0 p [u]

/-- A known responder did or did not answer its check (R339); three misses in succession and it has departed. -/
def State.uidCheck (s : State) (p u : Nat) (ok : Bool) : State :=
  let x := s.dmx p
  match x.uids.find? (·.1 == u) with
  | none => s
  | some (_, m) =>
    if ok then s.setDmx p { x with uids := x.uids.map fun e => if e.1 = u then (u, 0) else e }
    else if 2 ≤ m then (s.setDmx p { x with uids := x.uids.filter (·.1 != u) }).notify 0x31 0 p [u]
    else s.setDmx p { x with uids := x.uids.map fun e => if e.1 = u then (u, m + 1) else e }

/-- The response body of an RDM request (Table 14.3). -/
def rdmBody (rt mc : Nat) (pd : List Byte) : List Byte := beBytes 1 rt ++ beBytes 1 mc ++ beBytes 1 pd.length ++ pd

/-- A transaction ends (R337, R339, R340), not before its span and at 17.5 ms at the latest: a response that comes after
that is none. -/
def State.rdmEnd (s : State) (p : Nat) (reply : Option (List Byte)) : State :=
  let x := s.dmx p
  match x.txn with
  | none => s
  | some op =>
    let reply := if s.elapsed x.txnSince (rdmLimit + 1) then none else reply
    if s.elapsed x.txnSince (rdmSpan op (s.rdmFrame p op) reply) = false then s else
    let r := rdmAnswer op reply
    let s := s.setDmx p { x with txn := none, tn := (x.tn + 1) % 256 }
    let s := match r, op with
      | .none, .unMute => s
      | .none, _ => s.bump (Reg.DMX_RDM_TIMEOUT p)
      | .bad, _ => s.bump (Reg.DMX_RDM_BAD p)
      | _, _ => s
    let x := s.dmx p
    match op, r with
    | .unMute, _ => s
    | .mute u known, r => if known then s.uidCheck p u (match r with
        | .good _ _ _ => true
        | _ => false) else s
    | .branch lo hi, .found u =>
      if lo ≤ u ∧ u ≤ hi then (s.setDmx p { x with disc := [.mute u false, .branch lo hi] ++ x.disc }).uidFound p u else s
    | .branch _ _, .none => s
    | .branch lo hi, _ =>
      let mid := (lo + hi) / 2
      if lo < hi then s.setDmx p { x with disc := [.branch lo mid, .branch (mid + 1) hi] ++ x.disc } else s
    | .request d _ _ _ _ _ _, .good rt mc pd => s.respond d 0x60 0 (rdmBody rt mc pd)
    | .request d cc u sub pid pd retried, r =>
      if retried || r != .none then s.respond d 0x60 13 []
      else s.setDmx p { x with queue := .request d cc u sub pid pd true :: x.queue }

/-- A full discovery of a port (R339). -/
def State.rdmFull (s : State) (p : Nat) : State :=
  s.setDmx p { s.dmx p with disc := [.unMute, .branch 0 (2 ^ 48 - 2)], lastDisc := s.clk }

/-- The discovery command (DMX_CMD, Table 11.12): a wrong KEY is an access error, and so is CMD 1 on a port that is
disabled, has RDM off, or is shared at an Escort. -/
def State.dmxCmd (s : State) (req : Requester) (p v : Nat) : State :=
  if bits v 31 16 ≠ 0x5C3A then s.accErr req (Reg.DMX_CMD p) true true
  else if bits v 1 0 = 1 then
    if s.rdmOn p && s.dmxDrives p then s.rdmFull p else s.accErr req (Reg.DMX_CMD p) true false
  else s

/-- The incremental discovery of a port (R339): each known responder is checked, then the whole range searched. -/
def State.rdmIncremental (s : State) (p : Nat) : State :=
  let x := s.dmx p
  if s.rdmOn p && s.dmxDrives p && x.disc.isEmpty && s.elapsed x.lastDisc (sec (s.fld (Reg.DMX_CFG p) 31 20)) then
    s.setDmx p { x with disc := x.uids.map (fun e => RdmOp.mute e.1 true) ++ [.branch 0 (2 ^ 48 - 2)], lastDisc := s.clk }
  else s

/-- A GET or SET request (R340, Table 14.3): a port or class out of range, data beyond a request of 64 bytes, or a port
without RDM is INVALID; a shared port at an Escort NOT_LEAD; a queue of 16 NO_RESOURCE. -/
def State.rdmRequest (s : State) (d : Door) (p cc u sub pid : Nat) (pd : List Byte) : State :=
  if 7 < p ∨ (cc ≠ 0x20 ∧ cc ≠ 0x30) ∨ 38 < pd.length ∨ s.rdmOn p = false then s.respond d 0x60 7 []
  else if s.dmxDrives p = false then s.respond d 0x60 15 []
  else
    let x := s.dmx p
    if 16 ≤ x.queue.length then s.respond d 0x60 8 []
    else s.setDmx p { x with queue := x.queue ++ [.request d cc u sub pid (pd.map (·.toNat)) false] }

end Sys2Proof.Machine
end

