-- ==== Sys2Proof/Machine/Package.lean ====
section
/-!
DEFINITION. The balls of the lamp ports, their neighbours and the package adjacency table (19_electrical_package.md R541, R542;
12_lamp_ports.md R370, Table 12.6).
-/
namespace Sys2Proof.Machine

/-- A ball's number: row index × 41 + (column − 1), columns from 1 (R541). -/
def ballNo (row col : Nat) : Nat := row * 41 + (col - 1)

/-- Row and column within a cluster of pins 0 to 6: HG, SW, BST, LG, CSP, CSN, VFB (Tables 12.6, 19.9). -/
def pinPlace (pin : Nat) : Nat × Nat := [(0, 0), (1, 0), (0, 1), (2, 0), (3, 0), (3, 1), (2, 1)].getD pin (1, 1)

/-- The ball of a pin of a lamp port (Table 19.9). -/
def lampBall (p pin : Nat) : Nat :=
  let (r, c) := pinPlace pin
  ballNo (28 + 4 * (p / 11) + r) (20 + 2 * (p % 11) + c)

/-- The lamp port and pin that a ball belongs to. -/
def ballOwner (b : Nat) : Option (Nat × Nat) :=
  ((List.range 32).flatMap fun p => (List.range 7).map fun pin => (p, pin)).find? fun e => lampBall e.1 e.2 == b

/-- The balls next to one, orthogonally and diagonally, on the 41 × 41 grid. -/
def ballsNear (b : Nat) : List Nat :=
  let near := fun (x : Nat) => (List.range 41).filter fun y => decide (y ≤ x + 1 ∧ x ≤ y + 1)
  ((near (b / 41)).flatMap fun r => (near (b % 41)).map fun c => r * 41 + c).filter (· != b)

/-- What a neighbour of a lamp ball is: 0 lamp ball, 1 supply (VDD_LAMP at AJ24 to AJ39), 3 other (a DNC ball at BC33 to BC41),
2 ground (VSS, every ball that Table 19.9 does not name). -/
def ballClass (b : Nat) : Nat :=
  if (ballOwner b).isSome then 0
  else if ballNo 27 24 ≤ b ∧ b ≤ ballNo 27 39 then 1
  else if ballNo 40 33 ≤ b ∧ b ≤ ballNo 40 41 then 3 else 2

/-- Class 4, a pair that the stage connects on purpose: CSP and CSN of one port, and those of OTP that the spec does not name
(log entry 34). -/
def pairIntended (p pin b : Nat) : Bool :=
  (pin == 4 && b == lampBall p 5) || (pin == 5 && b == lampBall p 4) || Config.pairIntended p pin b

/-- The class of a neighbour of a pin (LAMP_ADJ). -/
def nearClass (p pin b : Nat) : Nat := if pairIntended p pin b then 4 else ballClass b

/-- The entries of the adjacency table as LAMP_ADJ words: each lamp ball with each of its neighbours (Table 12.6). -/
def adjacency : List Nat :=
  (List.range 32).flatMap fun p => (List.range 7).flatMap fun pin =>
    (ballsNear (lampBall p pin)).map fun b => p + 32 * pin + 256 * b + 2 ^ 19 * nearClass p pin b

/-- LAMP_ADJ of an entry; their order in OTP is not stated (log entry 34). -/
def lampAdj (k : Nat) : Nat :=
  if k < adjacency.length then adjacency.getD (Config.adjOrder k % adjacency.length) 0 else 0

end Sys2Proof.Machine
end

