-- ==== Sys2Proof/Machine/LampOps.lean ====
section
/-!
DEFINITION. Lamp ports, groups and pattern engines: levels to current, PWM periods, measurement, thermometry, the
neighbour-ball test and holds (12_lamp_ports.md).
-/
namespace Sys2Proof.Machine

def State.lport (s : State) (p : Nat) : LampPort := tabGetD s.lamp.ports p {}
def State.setLport (s : State) (p : Nat) (x : LampPort) : State :=
  { s with lamp := { s.lamp with ports := tabSet s.lamp.ports p x } }
def State.lgroup (s : State) (g : Nat) : LampGroup := tabGetD s.lamp.groups g {}
def State.setLgroup (s : State) (g : Nat) (x : LampGroup) : State :=
  { s with lamp := { s.lamp with groups := tabSet s.lamp.groups g x } }
def State.lengine (s : State) (e : Nat) : LampEngine := tabGetD s.lamp.engines e {}
def State.setLengine (s : State) (e : Nat) (x : LampEngine) : State :=
  { s with lamp := { s.lamp with engines := tabSet s.lamp.engines e x } }

/-! ### Groups (Table 12.10) -/

def State.grpUsed (s : State) (g : Nat) : Bool := s.rn (Reg.LAMP_GRP_HANDLE g) != 0
def State.grpMode (s : State) (g : Nat) : Nat := s.fld (Reg.LAMP_GRP_CFG g) 1 0
def State.grpStrings (s : State) (g : Nat) : Nat := s.fld (Reg.LAMP_GRP_CFG g) 4 2 + 1
def State.grpOred (s : State) (g : Nat) : Bool := bit (s.rn (Reg.LAMP_GRP_CFG g)) 5
def State.grpEngine (s : State) (g : Nat) : Nat := s.fld (Reg.LAMP_GRP_CFG g) 8 6
def State.grpPort (s : State) (g k : Nat) : Nat := s.fld (Reg.LAMP_GRP_PORTS g) (5 * k + 4) (5 * k)

/-- The group and string of a port. -/
def State.portGroup (s : State) (p : Nat) : Option (Nat × Nat) :=
  (List.range 32).findSome? fun g =>
    if s.grpUsed g then ((List.range (s.grpStrings g)).find? fun k => s.grpPort g k == p).map fun k => (g, k) else none

/-- Address and bits of a group's parameter: levels 0 to 5, master 6. -/
def grpReg (g i : Nat) : Nat := if i < 6 then Reg.LAMP_GRP_L01 g + 4 * (i / 2) else Reg.LAMP_GRP_MASTER g
def State.grpParam (s : State) (g i : Nat) : Nat :=
  if i < 6 ∧ i % 2 = 1 then s.fld (grpReg g i) 31 16 else s.fld (grpReg g i) 15 0
def State.setGrpParam (s : State) (g i v : Nat) : State :=
  if i < 6 ∧ i % 2 = 1 then s.setFld (grpReg g i) 31 16 v else s.setFld (grpReg g i) 15 0 v

/-- The lamp output is held (R372). -/
def State.lampHeld (s : State) : Bool := s.lamp.linkHold || s.lamp.brownHold

/-- Ports enabled by the manifest, ascending. -/
def State.enabledPorts (s : State) : List Nat := (List.range 32).filter fun p => bit (s.rn (Reg.LAMP_PORT_CFG p)) 0

/-- LAMP_STAT follows the lamp die. -/
def State.lampSettle (s : State) : State :=
  if s.lampDie then
    s.wn Reg.LAMP_STAT (1 + 2 * (!s.lamp.linkHold).toNat + 4 * s.lampHeld.toNat + 256 * s.enabledPorts.length)
  else s

/-- A hold begins or ends by a change of its causes (R372). -/
def State.setHold (s : State) (link brown : Bool) : State :=
  if s.lampDie then
    let was := s.lampHeld
    let s := { s with lamp := { s.lamp with linkHold := link, brownHold := brown } }
    let s := if s.lampHeld && !was then s.bump Reg.LAMP_HOLD else s
    s.lampSettle
  else s

/-! ### Writes (R355, R356, R359, R374) -/

/-- A value latched for a group. -/
def State.grpLatch (s : State) (g i v : Nat) (strict : Bool) : State :=
  let x := s.lgroup g
  s.setLgroup g { x with pend := x.pend ++ [⟨i, v, s.clk, strict⟩] }

/-- A write of a level register or the master. -/
def State.levelWrite (s : State) (req : Requester) (g r v : Nat) : State :=
  if !s.lampDie then s
  else if s.grpUsed g && s.grpMode g == 1 then
    if r = 3 then s.grpLatch g 6 (bits v 15 0) true
    else (s.grpLatch g (2 * r) (bits v 15 0) true).grpLatch g (2 * r + 1) (bits v 31 16) true
  else s.accErr req (if r = 3 then Reg.LAMP_GRP_MASTER g else Reg.LAMP_GRP_L01 g + 4 * r) true false

/-- A write of DIM (0), THERM (1), COMP (2) or TREF (3); it applies from the next period. A write of THERM ends a
partial-short fault's condition (Table 12.5). -/
def State.portParamWrite (s : State) (req : Requester) (p r v : Nat) : State :=
  if !s.lampDie then s
  else
    let ok := match r with
      | 0 => decide (1 ≤ bits v 5 0 ∧ 1 ≤ bits v 11 6 ∧ bits v 11 6 ≤ bits v 5 0 ∧ 1 ≤ bits v 27 12)
      | 2 => bits v 17 16 != 3 && bits v 29 24 != 0
      | _ => true
    if !ok then s.accErr req (Reg.LAMP_PORT_DIM p + 4 * r) true false
    else match r with
    | 0 => s.wn (Reg.LAMP_PORT_DIM p) (bits v 27 0)
    | 1 => (s.wn (Reg.LAMP_PORT_THERM p) v).condClear 194 p
    | 2 => s.wn (Reg.LAMP_PORT_COMP p) (bits v 20 0 + bits v 29 24 * 2 ^ 24)
    | _ => s.wn (Reg.LAMP_PORT_TREF p) (bits v 15 0)

/-- A write of a pattern register: 0 to 3 P01 to P6, 4 and 5 ORIGIN_LO and _HI; a write of a PERIOD of 0 keeps the period,
and GAMMA is limited to its range (Table 12.3), when the commit applies. -/
def State.patternWrite (s : State) (req : Requester) (e r v : Nat) (cue : Option Nat := none) : State :=
  if !s.lampDie then s
  else
    let a := if r < 4 then Reg.LAMP_PAT_P01 e + 4 * r else Reg.LAMP_PAT_ORIGIN e + 4 * (r - 4)
    if s.rn (Reg.LAMP_PAT_HANDLE e) = 0 then s.accErr req a true false
    else
      let s := if r = 4 then s.pairPut req a v
        else ((if r = 5 then s.pairTake req (Reg.LAMP_PAT_ORIGIN e) else s)).wn a (if r = 3 then bits v 15 0 else v)
      if r < 4 then s.submit (.pattern e r (s.rn a)) true cue
      else if r = 5 then s.submit (.pattern e 4 (s.pair (Reg.LAMP_PAT_ORIGIN e))) true cue
      else s

/-! ### Pattern engines (R357 to R359) -/

def enPeriod (x : LampEngine) : Nat := bits x.p23 15 0
def enPhase (x : LampEngine) : Nat := bits x.p23 31 16

/-- TIMEBASE is tally. -/
def State.enTally (s : State) (e : Nat) : Bool := bit (s.rn (Reg.LAMP_PAT_CFG e)) 1

/-- Phase without PHASE at a ledger time or tally. -/
def enRun (tallyBase : Bool) (x : LampEngine) (t : Nat) : Nat :=
  let per := if tallyBase then enPeriod x else enPeriod x * 1000000
  ((((t : Int) - (x.origin : Int)) * 65536 / ((max 1 per : Nat) : Int)) % 65536).toNat

/-- φ of R357. -/
def enPhi (tallyBase : Bool) (x : LampEngine) (t : Nat) : Nat := (enRun tallyBase x t + enPhase x) % 65536

/-- A new PERIOD at a ledger time or tally: ORIGIN moves so that φ runs on (R359; log entry 26). -/
def enSetPeriod (tallyBase : Bool) (x : LampEngine) (t per : Nat) : LampEngine :=
  if per = 0 ∨ per = enPeriod x then x
  else
    let unit := if tallyBase then per else per * 1000000
    let o : Int := (t : Int) - ((enRun tallyBase x t * unit / 65536 : Nat) : Int)
    { x with p23 := putBits x.p23 15 0 per, origin := unsigned 64 o }

/-- Parameter i of Table 12.3 set at a time. -/
def enSet (tallyBase : Bool) (x : LampEngine) (t i v : Nat) : LampEngine :=
  match i with
  | 0 => { x with p01 := putBits x.p01 15 0 v }
  | 1 => { x with p01 := putBits x.p01 31 16 v }
  | 2 => enSetPeriod tallyBase x t v
  | 3 => { x with p23 := putBits x.p23 31 16 v }
  | 4 => { x with p45 := putBits x.p45 15 0 (clampN 1024 32768 v) }
  | 5 => { x with p45 := putBits x.p45 31 16 v }
  | _ => { x with p6 := v }

/-- An engine is set; LAMP_PAT_ORIGIN shows an ORIGIN that a new PERIOD replaced (R359). -/
def State.engineTake (s : State) (e : Nat) (x : LampEngine) : State :=
  let moved := x.origin != (s.lengine e).origin
  let s := s.setLengine e x
  if moved then s.setPair (Reg.LAMP_PAT_ORIGIN e) x.origin else s

/-- A committed pattern register applies at Tp of its effective tally (R359). -/
def State.patternApply (s : State) (e r v n : Nat) : State :=
  let x := s.lengine e
  let tb := s.enTally e
  let t := if tb then n else s.tp n
  let set2 := fun i => enSet tb (enSet tb x t i (bits v 15 0)) t (i + 1) (bits v 31 16)
  s.engineTake e (match r with
    | 0 => set2 0
    | 1 => set2 2
    | 2 => set2 4
    | 3 => enSet tb x t 6 (bits v 15 0)
    | _ => { x with origin := v })

/-- Groups that are members of an engine, ascending (R357). -/
def State.members' (s : State) (e : Nat) : List Nat :=
  (List.range 32).filter fun g => s.grpUsed g && s.grpMode g == 2 && s.grpEngine g == e

/-- w of a phase (R358): chase exactly; breathing within its bounds (log entry 29). -/
def waveOf (chase : Bool) (p01 p45 p6 phi : Nat) : Nat :=
  let lo := bits p01 15 0
  let hi := bits p01 31 16
  if chase then (if phi < p6 then hi else lo)
  else clampN (min lo hi - 2) (min 65535 (max lo hi + 2)) (Config.breathe lo hi (bits p45 15 0) phi)

/-- An engine is evaluated at a phase; LAMP_PAT_STAT shows φ₀ and w₀, and each member group takes its output. -/
def State.patternEval (s : State) (e phi : Nat) : State :=
  let x := s.lengine e
  let chase := bit (s.rn (Reg.LAMP_PAT_CFG e)) 0
  let w := fun k => waveOf chase x.p01 x.p45 x.p6 ((phi + 65536 * k - k * bits x.p45 31 16) % 65536)
  let s := s.setLengine e { x with evald := some (phi, x.p01, x.p45, x.p6) }
  let s := s.wn (Reg.LAMP_PAT_STAT e) (phi + 65536 * w 0)
  let ms := s.members' e
  let s := s.wn (Reg.LAMP_PAT_MEMBERS e) (ms.foldl (fun a g => a + 2 ^ g) 0)
  ms.zipIdx.foldl (fun s g => s.setLgroup g.1 { s.lgroup g.1 with patW := w g.2 }) s

def State.liveEngines (s : State) : List Nat := (List.range 8).filter fun e => s.rn (Reg.LAMP_PAT_HANDLE e) != 0

/-- Engines of the tally timebase at Tp(n). -/
def State.patternTally (s : State) (n : Nat) : State :=
  (s.liveEngines.filter s.enTally).foldl (fun s e => s.patternEval e (enPhi true (s.lengine e) n)) s

/-- Engines of the ledger timebase at the start of a period. -/
def State.patternLedger (s : State) (t : Nat) : State :=
  (s.liveEngines.filter fun e => !s.enTally e).foldl (fun s e => s.patternEval e (enPhi false (s.lengine e) t)) s

/-! ### Levels to current (R350, R351, R364) -/

/-- V of R350 from a level, master and gain. -/
def driveV (y m g : Nat) : Nat := min 4194303 (((y * m + 32767) / 65535 * 64 * g + 8192) / 16384)

/-- A and D of R351 for DIM. -/
def driveAD (dim v : Nat) : Nat × Nat :=
  let hi := bits dim 5 0
  let lo := bits dim 11 6
  let dk := bits dim 27 12
  if v = 0 then (lo, 0)
  else
    let a := clampN lo hi (ceilDiv (hi * v) (64 * dk))
    (a, min 65535 ((hi * v + 32 * a) / (64 * a)))

/-- G of R364 from SLOPE and T − TREF. -/
def gainOf (comp : Nat) (t tref : Int) : Nat :=
  (clampI 0 65535 (16384 + (signed 16 (bits comp 15 0) * (t - tref) + 512) / 1024)).toNat

/-- The gain of a port for the next period (R364, R365): the last one while its temperature is not valid. -/
def State.portGain (s : State) (p : Nat) (x : LampPort) : Nat :=
  let tref := signed 16 (bits x.tref 15 0)
  match bits x.comp 17 16 with
  | 1 =>
    let ored := (s.portGroup p).any fun g => s.grpOred g.1
    if ored ∧ s.role = 2 then
      match timedAt (tabGetD s.lamp.leadTj p []) s.tally with
      | some t => gainOf x.comp t tref
      | none => x.gain
    else if bit (s.rn (Reg.LAMP_PORT_TJ p)) 16 then gainOf x.comp (signed 16 (s.fld (Reg.LAMP_PORT_TJ p) 15 0)) tref
    else x.gain
  | 2 =>
    let k := bits x.comp 20 18
    if bit (s.rn (Reg.LAMP_NTC k)) 16 then gainOf x.comp (signed 16 (s.fld (Reg.LAMP_NTC k) 15 0)) tref else x.gain
  | _ => 16384

/-- The master of a group: MASTER, or the pattern output in pattern mode. -/
def State.grpMaster (s : State) (g : Nat) : Nat := if s.grpMode g = 2 then (s.lgroup g).patW else s.grpParam g 6

/-! ### PWM periods (R352 to R355, R368, R372, R373) -/

/-- The PWM period that holds a ledger time: its start and length (R353). -/
def State.pwmPeriod (s : State) (t : Nat) : Nat × Nat :=
  if bit (s.rn Reg.LAMP_PWM_CFG) 0 then
    let m := max 1 (s.fld Reg.LAMP_PWM_CFG 13 3)
    let n := tallyOf s.rate t
    let a := s.tp n
    let len := s.tp (n + 1) - a
    let at_ := fun k => a + k * len / m
    let k := ((List.range m).filter fun k => decide (at_ k ≤ t)).length - 1
    (at_ k, at_ (k + 1) - at_ k)
  else
    let p := max 1 (s.rn Reg.LAMP_PWM_PERIOD)
    (t / p * p, p)

/-- Values latched for a group that apply from a period starting now; LAMP_GRP_APPLIED takes its start (R355). -/
def State.grpTake (s : State) (g start : Nat) : State :=
  let x := s.lgroup g
  let due := x.pend.filter fun v => if v.strict then decide (v.clk < s.clk) else decide (v.clk ≤ s.clk)
  if due.isEmpty then s
  else
    let s := s.setLgroup g { x with pend := x.pend.filter fun v => !due.contains v }
    let s := due.foldl (fun s v => s.setGrpParam g v.param v.value) s
    s.setPair (Reg.LAMP_GRP_APPLIED g) (toLedger start)

/-- A port is off by a standing port-off reaction of its own (Table 12.5). -/
def State.portTripped (s : State) (p : Nat) : Bool := (List.range 11).any fun k => k != 9 && s.heldBy (192 + k) p 5

/-- A port is off by a fault: its own, one of its group when FAULT_SCOPE is set (R367), one that stops the group's berth,
or one that holds every output safe (Tables 15.3, 15.5). -/
def State.portOff (s : State) (p : Nat) : Bool :=
  s.allSafe || s.portTripped p || (match s.portGroup p with
    | some (g, _) =>
      let ps := (List.range (s.grpStrings g)).map (s.grpPort g)
      (ps.any fun q => bit (s.rn (Reg.LAMP_PORT_CFG q)) 15 && s.portTripped q)
        || s.stopped fun d i => 192 ≤ d && d ≤ 202 && d != 201 && ps.contains i
    | none => false)

/-- STATE of a port at a period start (Table 12.9). -/
def State.portState (s : State) (p : Nat) : Nat :=
  match s.portGroup p with
  | none => 0
  | some (g, _) =>
    if !bit (s.rn (Reg.LAMP_PORT_CFG p)) 0 || !s.lamp.supplyOk then 0
    else if s.portOff p then 2
    else if !(s.lport p).tested then 5
    else if s.grpOred g && s.role == 2 then 4
    else if s.lampHeld then 3 else 1

/-- PWM_PHASE in use, with the even spread of EVEN_PWM (R354). -/
def State.portPhase (s : State) (p : Nat) : Nat :=
  if bit (s.rn Reg.LAMP_PWM_CFG) 1 then
    let l := s.enabledPorts
    256 * (l.findIdx (· == p)) / max 1 l.length
  else s.fld (Reg.LAMP_PORT_CFG p) 14 7

/-- Switching phase in use, with the even spread of EVEN_SW on each clock (R354). -/
def State.swPhase (s : State) (p : Nat) : Nat :=
  if bit (s.rn Reg.LAMP_PWM_CFG) 2 then
    let c := s.fld (Reg.LAMP_PORT_CFG p) 1 1
    let l := s.enabledPorts.filter fun q => s.fld (Reg.LAMP_PORT_CFG q) 1 1 == c
    32 * (l.findIdx (· == p)) / max 1 l.length
  else s.fld (Reg.LAMP_PORT_CFG p) 6 2

/-- A climbing from A_LO to its target over 1 ms after a restart (R368; log entry 30). -/
def rampA (lo a since clk : Nat) : Nat := lo + (a - lo) * min (clk - since) (ms 1) / ms 1

/-- One port at the start of a period: parameters and gain in force, A and D, pulse skipping and the pulse. -/
def State.portPeriod (s : State) (p start len : Nat) : State :=
  let x := s.lport p
  let st := s.portState p
  let s := s.setFld (Reg.LAMP_PORT_STAT p) 2 0 st
  let x := { x with dim := s.rn (Reg.LAMP_PORT_DIM p), therm := s.rn (Reg.LAMP_PORT_THERM p)
                    comp := s.rn (Reg.LAMP_PORT_COMP p), tref := s.rn (Reg.LAMP_PORT_TREF p) }
  let s := if bits x.therm 15 0 = 0 ∨ bits x.therm 31 16 = 0 then s.setFld (Reg.LAMP_PORT_TJ p) 16 16 0 else s
  let x := { x with gain := s.portGain p x }
  let restart := if st = 2 then none
    else if x.wasOff then some s.clk
    else if x.restart.any fun c => s.elapsed c (ms 1) then none else x.restart
  let x := { x with restart := restart, wasOff := st == 2 || !s.lamp.supplyOk, tested := x.tested && st != 0 }
  match s.portGroup p with
  | none => s.setLport p { x with d := 0, acc := 0, pulse := [] }
  | some (g, k) =>
    let (a, d) := if s.lampHeld then (x.a, x.d) else
      driveAD x.dim (driveV (s.grpParam g k) (s.grpMaster g) x.gain)
    let a := match restart with
      | some c => if s.lampHeld then a else rampA (bits x.dim 11 6) a c s.clk
      | none => a
    let ton := d * len / 65536
    let tmin := s.fld Reg.LAMP_TMIN_ON 11 0 * 10
    let skip := decide (0 < ton ∧ ton < tmin)
    let acc := if d ≠ x.d ∨ tmin ≤ ton then 0 else x.acc
    let acc := if skip then acc + ton else 0
    let (pulse, acc) := if skip then (if tmin ≤ acc then (tmin, acc - tmin) else (0, acc)) else (ton, acc)
    let out := if pulse = 0 then [] else
      [start + s.portPhase p * len / 256, pulse, a, s.fld (Reg.LAMP_PORT_CFG p) 1 1, s.swPhase p]
    let s := s.setLport p { x with a := a, d := d, acc := acc, pulse := out }
    let s := s.wn (Reg.LAMP_PORT_OUT p) (a + 64 * d + 2 ^ 22 * skip.toNat)
    if (st = 1 ∨ st = 3) ∧ out ≠ [] then s.send "LAMP_PULSE" p out else s

/-- LAMP_GRP_STAT of a group. -/
def State.grpStat (s : State) (g : Nat) : State :=
  let stopped := (List.range (s.grpStrings g)).any fun k => s.portOff (s.grpPort g k)
  s.wn (Reg.LAMP_GRP_STAT g) (s.lampHeld.toNat + 2 * stopped.toNat + 4 * (s.grpOred g && s.role == 2).toNat)

/-- Pulses skipped for bootstrap undervoltage since the last period: counted, 64 in succession raise the fault
(Table 12.5). -/
def State.bstSkip (s : State) (p n : Nat) : State :=
  let x := s.lport p
  let run := if n = 0 then 0 else x.bstRun + n
  let s := (s.setLport p { x with bstRun := run }).bumpBy (Reg.LAMP_PORT_SKIP p) n
  if 64 ≤ run then s.raiseOnce 199 p else s

/-- A PWM period starts (R353): not before its boundary. Ports, groups and engines take what is due. -/
def State.pwmStart (s : State) (skips : List (Nat × Nat)) : State :=
  let (start, len) := s.pwmPeriod s.ns
  if !s.lampDie ∨ start ≤ s.lamp.period then s
  else
    let s := s.takeMirror
    let s := { s with lamp := { s.lamp with period := start, periodLen := len } }
    let s := skips.foldl (fun s e => if e.1 < 32 then s.bstSkip e.1 e.2 else s) s
    let s := s.patternLedger start
    let used := (List.range 32).filter s.grpUsed
    let s := if s.lampHeld then s else used.foldl (fun s g => s.grpTake g start) s
    let s := (List.range 32).foldl (fun s p => s.portPeriod p start len) s
    (used.foldl State.grpStat s).lampSettle

/-! ### Measurement (R360, R361) -/

/-- The mean of a sum (log entry 28). -/
def meanOf (sum n : Nat) : Nat := sum / n + (if sum % n ≠ 0 ∧ Config.meanUp sum n then 1 else 0)

/-- A port switches in the present period: it runs or is held, and has a pulse (R354). -/
def State.switching (s : State) (p : Nat) : Bool :=
  let st := s.fld (Reg.LAMP_PORT_STAT p) 2 0
  (st == 1 || st == 3) && (s.lport p).d != 0

/-- One port's samples join those of the present millisecond; current, VOUT and VIN are sampled during pulses only
(R360). -/
def State.takeSample (s : State) (p : Nat) (q : LampSample) : State :=
  if s.switching p = false then s else
  let x := s.lport p
  let x := match q.currentVout with
    | some (i, v) => { x with sumI := x.sumI + i, sumV := x.sumV + v, numIV := x.numIV + 1 }
    | none => x
  let x := match q.vin with
    | some v => { x with sumIn := x.sumIn + v, numIn := x.numIn + 1 }
    | none => x
  s.setLport p x

/-- An NTC reading converted (R361): out of −55 °C to +150 °C it clears VALID and raises the Notice fault. -/
def State.ntcRead (s : State) (k code : Nat) : State :=
  let (b, r) := tabGetD s.lamp.ntc k (0, 0)
  let t := Config.ntcTemp b r code
  if t < -880 ∨ 2400 < t then (s.setFld (Reg.LAMP_NTC k) 16 16 0).raiseOnce 201 k
  else (s.wn (Reg.LAMP_NTC k) (unsigned 16 t + 65536)).condClear 201 k

/-- The last means of VOUT: a fall of more than PSHORT within 10 ms with A and D unchanged is a partial short. -/
def State.partialCheck (s : State) (p mean : Nat) : State :=
  let x := s.lport p
  let same := x.means.takeWhile fun m => m.2.1 == x.a && m.2.2 == x.d
  let fell := same.any fun m => decide (mean + s.fld (Reg.LAMP_PORT_VFB p) 31 16 < m.1)
  let s := s.setLport p { x with means := ((mean, x.a, x.d) :: x.means).take 10 }
  if fell then s.raiseOnce 194 p else s

/-- One port's means of the millisecond are posted; without a sample its registers stay. -/
def State.postPort (s : State) (p : Nat) : State :=
  let x := s.lport p
  let s := s.setLport p { x with sumI := 0, sumV := 0, numIV := 0, sumIn := 0, numIn := 0 }
  let s := if x.numIn = 0 then s else s.setFld (Reg.LAMP_PORT_MEAS_V p) 31 16 (meanOf x.sumIn x.numIn)
  if x.numIV = 0 then s
  else
    let v := meanOf x.sumV x.numIV
    ((s.setFld (Reg.LAMP_PORT_MEAS_I p) 15 0 (meanOf x.sumI x.numIV)).setFld (Reg.LAMP_PORT_MEAS_V p) 15 0 v).partialCheck p v

/-! ### Thermometry (R362, R363) -/

/-- Nearest integer to a quotient of integers, a half away from zero (log entry 31). -/
def roundQ (a b : Int) : Int :=
  let n := a.natAbs
  let d := b.natAbs
  let q := roundDiv n d
  if (a < 0) = (b < 0) then (q : Int) else -(q : Int)

/-- A thermometry window of a port with its four VOUT samples: in its slot of 100 ms, on a pulse of at least 3 µs, the port
regulating to I_FS × ISENSE ÷ 256 for 2 µs. -/
def State.thermometry (s : State) (p : Nat) (vf : List Nat) : State :=
  let x := s.lport p
  let slot := (s.ns - p * 3125000) / 100000000
  let ton := x.d * s.lamp.periodLen / 65536
  if !s.lampDie ∨ s.ns < p * 3125000 ∨ x.slot = some slot ∨ (s.fld (Reg.LAMP_PORT_STAT p) 2 0 ≠ 1 ∧ s.fld (Reg.LAMP_PORT_STAT p) 2 0 ≠ 3)
      ∨ ton < 3000
      ∨ vf.length ≠ 4 then s
  else
    let ref := bits x.therm 15 0
    let tc := signed 16 (bits x.therm 31 16)
    let s := s.setLport p { x with window := some s.clk, slot := some slot, windowIn := some s.lamp.period }
    let s := s.send "LAMP_SENSE" p [bits x.comp 29 24, 2000]
    if ref = 0 ∨ tc = 0 then s.setFld (Reg.LAMP_PORT_TJ p) 16 16 0
    else if (s.fltInst 194 p).cond then s
    else
      let sum : Int := (vf.foldl (· + ·) 0 : Nat)
      let tj := signed 16 (bits x.tref 15 0) + roundQ ((sum - 4 * (ref : Int)) * 1600) (4 * tc)
      let w := unsigned 16 (clampI (-32768) 32767 tj)
      let s := s.wn (Reg.LAMP_PORT_TJ p) (w + 65536)
      if (s.portGroup p).any fun g => s.grpOred g.1 then s.mirrorOut s.inputTally [3, p, w] else s

/-! ### The neighbour-ball test (R370, R371) -/

/-- A test of a port may run: before its first switching cycle, or in a slot of 10 s not yet tested, and not in a PWM
period in which its thermometry window is taken (R371). -/
def State.nbDue (s : State) (p : Nat) : Bool :=
  let x := s.lport p
  (!x.tested || (decide (312500000 * p ≤ s.ns) && x.nbSlot != some ((s.ns - 312500000 * p) / 10000000000)))
    && x.windowIn != some s.lamp.period

/-- A finding is of a pair that the test measures: a neighbour of the pin's ball, and not of class 4 (R370). -/
def measured (p : Nat) (f : NbFinding) : Bool :=
  (ballsNear (lampBall p f.pin.val)).contains f.ball && nearClass p f.pin.val f.ball != 4

/-- A test of a port against its neighbours but those of class 4: a resistance below 1 kΩ is a short of every lamp port in
the pair, one up to 100 kΩ a leakage; with no short the port may start. -/
def State.neighbourTest (s : State) (p : Nat) (fs : List NbFinding) : State :=
  if !s.lampDie || !s.nbDue p then s
  else
    let s := s.setLport p { s.lport p with nbSlot := some ((s.ns - 312500000 * p) / 10000000000) }
    let fs := fs.filter (measured p)
    let name := fun (s : State) (f : NbFinding) =>
      (s.setFld (Reg.LAMP_PORT_STAT p) 7 5 f.pin.val).setFld (Reg.LAMP_PORT_STAT p) 18 8 f.ball
    let leaks := fs.filter fun f => decide (1000 ≤ f.ohms ∧ f.ohms ≤ 100000)
    let shorts := fs.filter fun f => decide (f.ohms < 1000)
    let s := leaks.foldl (fun s f => (name s f).raise 202 p (f.pin.val + 8 * f.ball)) s
    let s := shorts.foldl (fun s f =>
      let s := (name s f).raise 200 p (f.pin.val + 8 * f.ball)
      match ballOwner f.ball with
      | some (q, _) => if q = p then s else s.raise 200 q (f.pin.val + 8 * f.ball)
      | none => s) s
    if shorts.isEmpty then (s.setLport p { s.lport p with tested := true }).condClear 200 p else s

/-! ### Groups and waybills -/

/-- A group takes its configuration at Tp of the effective tally (R344). -/
def State.grpApply (s : State) (g cfg ports : Nat) : State :=
  if s.grpUsed g then (s.wn (Reg.LAMP_GRP_CFG g) cfg).wn (Reg.LAMP_GRP_PORTS g) ports else s

/-- A lamp-group waybill's values are latched at its departure (R355, R356). -/
def State.wayLamp (s : State) (e n : Nat) : State :=
  let w := s.wayAt e n
  let g := (s.berth (hIndex (wDstH w))).resource
  let es := s.writers n fun v => wDst v == 3 && wDstH v == wDstH w
  (List.range (wCount w)).foldl (fun s i =>
    let k := wDstFirst w + i
    match s.mergeAt es n k wDstFirst (fun _ ys => ys) with
    | some v => if k = 6 ∧ s.grpMode g = 2 then s else s.grpLatch g k v (s.grpMode g == 1)
    | none => s) s

/-- A pattern waybill's values apply at its departure (R359). -/
def State.wayPattern (s : State) (e n : Nat) : State :=
  let w := s.wayAt e n
  let g := (s.berth (hIndex (wDstH w))).resource
  let es := s.writers n fun v => wDst v == 4 && wDstH v == wDstH w
  let t := if s.enTally g then n else s.ns
  (List.range (wCount w)).foldl (fun s i =>
    match s.mergeAt es n (wDstFirst w + i) wDstFirst (fun _ ys => ys) with
    | some v => s.engineTake g (enSet (s.enTally g) (s.lengine g) t (wDstFirst w + i) v)
    | none => s) s

/-- The departure of a waybill's value for a tally (R27, R324, R325): not before Tp(n) less LEAD, and not before its probe
values are ready. Slots of DMX and sACN leave with their frame or packet. -/
def State.wayDeparture (s : State) (n e : Nat) : State :=
  let w := s.wayAt e n
  let lead := wLead w * 1000
  if s.wayOn e n = false ∨ s.ns < s.tp n - lead ∨ (s.wayOut e).left.any (fun m => decide (n ≤ m))
      ∨ s.waysReady [e] n = false then s
  else
    let evalAll := fun (s : State) (k : Nat) =>
      (s.writers n fun v => wDst v == k && wDstH v == wDstH w).foldl (fun s x => s.wayEval x n) s
    let s := if wDst w = 1 ∨ wDst w = 2 then s else
      let s := s.waysDepart [e] n lead
      { s with fixture := { s.fixture with outs := tabMod s.fixture.outs e {} fun o => { o with left := some n } } }
    match wDst w with
    | 3 => if s.lampDie then (evalAll s 3).wayLamp e n else s
    | 4 => if s.lampDie then (evalAll s 4).wayPattern e n else s
    | 5 => s.wayTile e n
    | _ => s

end Sys2Proof.Machine
end

