-- ==== Sys2Proof/Machine/LayerOps.lean ====
section
/-!
DEFINITION. Commits of layers, masks and coefficients, their application at a latch edge, and the release of staging
(04_composition.md, R102 to R133).
-/
namespace Sys2Proof.Machine

/-! ### Slot registers -/

/-- The eight words of a slot's parameters, +0x04 to +0x20. -/
def layerWords (p : Layer) : List Nat :=
  [p.src, p.ctrl, p.pos, p.cropOrg, p.cropSize, p.dstSize, p.clipOrg, p.clipSize]

/-- Parameters of eight words over a layer's mask. -/
def layerOf (m : Layer) (ws : List Nat) : Layer :=
  { m with
    src := ws.getD 0 0, ctrl := bits (ws.getD 1 0) 28 0, pos := ws.getD 2 0
    cropOrg := bits (ws.getD 3 0) 12 0 + 65536 * bits (ws.getD 3 0) 28 16
    cropSize := bits (ws.getD 4 0) 13 0 + 65536 * bits (ws.getD 4 0) 29 16
    dstSize := ws.getD 5 0, clipOrg := bits (ws.getD 6 0) 29 0, clipSize := ws.getD 7 0 }

/-- The slot's parameters as the commits already accepted for its next edge will leave them (R115). -/
def State.layerAhead (s : State) (l : Nat) : Layer :=
  s.pipe.commits.foldl (fun p c => match c.kind with
    | .layer k q _ => if k = l then q else p
    | .maskSel k b => if k = l then { p with maskSel := b } else p
    | _ => p) (s.layer l)

/-- A commit of the parameters or the mask choice of a slot. -/
def CommitKind.ofSlot (k : CommitKind) (l : Nat) : Bool :=
  match k with
  | .layer m _ _ => m == l
  | .maskSel m _ => m == l
  | .layerRefused m _ => m == l
  | _ => false

/-- First units of the masks of a slot: the live one and those of commits that wait. -/
def State.slotMasks (s : State) (l : Nat) : List Nat :=
  let mask := fun (p : Layer) => if p.maskUnits = 0 then [] else [s.addrUnit p.maskBase]
  mask (tabGetD s.pipe.layers l {}) ++ s.pipe.commits.flatMap fun c => match c.kind with
    | .layer m p _ => if m = l then mask p else []
    | _ => []

def State.setResult (s : State) (l r : Nat) : State := s.setFld (Reg.COMP_LAYER_STAT l) 2 0 r

/-- Whether a commit allocates mask buffers (R115). -/
def masksAnew (old p : Layer) : Bool := lMaskEn p && (!lMaskEn old || lWd p != lWd old || lHd p != lHd old)

/-- A commit of a slot refused at acceptance: RESULT at once, and again after the commits that wait before it (R128). -/
def State.layerRefuse (s : State) (l r : Nat) (cue : Option Nat) : State :=
  let waits := s.pipe.commits.any fun c => match c.kind with
    | .layer k _ _ => k == l
    | .maskSel k _ => k == l
    | _ => false
  let s := (s.bump Reg.COMP_REFUSED).setResult l r
  if waits then s.submit (.layerRefused l r) true cue else s

/-- A commit of a slot's parameters: RESULT 4 when invalid, 5 when staging cannot hold its masks, else pending; the status
it ends with is answered too (R103, R115, R128, R131). A commit that leaves MASK_EN clear leaves no mask. -/
def State.layerCommit (s : State) (l : Nat) (p : Layer) (cue : Option Nat := none) : State × Nat :=
  let old := s.layerAhead l
  let p := { p with
    maskSel := old.maskSel, maskBase := if lMaskEn p then old.maskBase else 0
    maskUnits := if lMaskEn p then old.maskUnits else 0 }
  if !layerOk p || !s.layerSrcOk p then (s.layerRefuse l 4 cue, 7)
  else if masksAnew old p then
    let u := ceilDiv (lWd p * lHd p) 65536
    match s.stageAlloc (2 * u) with
    | none => (s.layerRefuse l 5 cue, 8)
    | some (f, s) =>
      let p := { p with maskBase := s.unitAddr f, maskUnits := u }
      ((s.submit (.layer l p true) false cue).setResult l 1, 0)
  else ((s.submit (.layer l p false) true cue).setResult l 1, 0)

/-- GO of COMP_LAYER_COMMIT (R137): the shadow, on a slot whose berth exists. -/
def State.layerGo (s : State) (req : Requester) (l : Nat) (cue : Option Nat := none) : State :=
  if (s.ownerOf 1 l).isNone then s.accErr req (Reg.COMP_LAYER_COMMIT l) true false
  else (s.layerCommit l (layerOf {} (s.rdWords (Reg.COMP_LAYER_SRC l) 8)) cue).1

/-- A write of MASK_SEL (R116, R137). -/
def State.maskSelWrite (s : State) (req : Requester) (l : Nat) (sel : Bool) (cue : Option Nat := none) : State :=
  if (s.ownerOf 1 l).isNone then s.accErr req (Reg.COMP_LAYER_MASK_CFG l) true false
  else ((s.wn (Reg.COMP_LAYER_MASK_CFG l) sel.toNat).submit (.maskSel l sel) true cue).setResult l 1

/-- The fill of a slot's new mask buffers completes: every byte 0xFF, and the commit may latch (R115, R117). -/
def State.maskFilled (s : State) (l : Nat) : State :=
  let mine := fun (c : Commit) => !c.fillDone && (match c.kind with
    | .layer k _ _ => k == l
    | _ => false)
  match s.pipe.commits.find? mine with
  | none => s
  | some c =>
    let s := match c.kind with
      | .layer _ p _ => s.writeHold p.maskBase (List.replicate (2 * p.maskUnits * 65536) 0xFF#8)
      | _ => s
    { s with pipe := { s.pipe with
      commits := s.pipe.commits.map fun d => if d.order = c.order then { d with fillDone := true } else d } }

/-- GO of COMP_COEF_COMMIT (R111): every phase of every set sums to 1,024, or the commit is refused. -/
def coefBad (ws : List Nat) : Option (Nat × Nat) :=
  ((List.range 256).find? fun i =>
    let sum := (List.range 6).foldl (fun (a : Int) t => a + coefTap ws (i / 64) (i % 64) t) 0
    sum != 1024).map fun i => (i / 64, i % 64)

def State.coefCommit (s : State) (cue : Option Nat := none) : State :=
  let ws := s.rdWords (Reg.COMP_COEF 0) 768
  let pending := s.fld Reg.COMP_COEF_STAT 0 0
  match coefBad ws with
  | some (set, f) => (s.wn Reg.COMP_COEF_STAT (pending + 2 + 4 * set + 16 * f)).bump Reg.COMP_REFUSED
  | none => (s.wn Reg.COMP_COEF_STAT 1).submit (.coef ws) true cue

/-! ### Application at an edge -/

/-- A slot's live parameters set, with the mask registers. -/
def State.setLayer (s : State) (l : Nat) (p : Layer) : State :=
  let s := { s with pipe := { s.pipe with layers := tabSet s.pipe.layers l p } }
  let s := (s.wn (Reg.COMP_LAYER_MASK_SIZE l) p.maskUnits).wn (Reg.COMP_LAYER_MASK_BASE l) p.maskBase
  s.wn (Reg.COMP_LAYER_MASK_CFG l) p.maskSel.toNat

/-- A mask's staging waits for the raster of the tally before `eff` (R132). -/
def State.freeMask (s : State) (p : Layer) (eff : Nat) : State :=
  if p.maskUnits = 0 then s else s.deferFree (eff - 1) [s.addrUnit p.maskBase]

/-- A layer commit at an edge: refused over budget, RESULT 3, when it raises the predicted cost above the budget, and for
want of resources, RESULT 5, when the commit that allocated its mask was refused; else applied, RESULT 2 (R115, R121,
R128). A valid source ends SRC_STALE (R130). -/
def State.latchLayer (s : State) (l : Nat) (p : Layer) (fresh : Bool) (eff : Nat) : State :=
  let old := s.layer l
  let new := tabSet s.pipe.layers l p
  let before := s.edgeCost s.pipe.layers eff
  let cost := s.edgeCost new eff
  let s := s.wn (Reg.COMP_LAYER_EFF_TALLY l) eff
  if s.budget < cost ∧ before < cost then
    let s := if fresh then s.freeMask p (s.tally + 1) else s
    (s.bump Reg.COMP_REFUSED).setResult l 3
  else if !fresh && p.maskUnits != 0 && p.maskBase != old.maskBase then (s.bump Reg.COMP_REFUSED).setResult l 5
  else
    let s := if fresh ∨ p.maskUnits = 0 then s.freeMask old eff else s
    let s := if p.src = 0 ∨ s.inForce p.src eff then s.setFld (Reg.COMP_LAYER_STAT l) 3 3 0 else s
    (s.setLayer l p).setResult l 2

/-! ### Release (R132, R133) -/

/-- Whether a destroyed source can still be drawn for a tally not yet selected. -/
def State.sourceAhead (s : State) (h : Nat) : Bool := s.pipe.layers.any fun e => lEnable e.2 && e.2.src == h

/-- The last tally selected with an enabled layer that names a source; 0 when none is recorded. -/
def State.lastRef (s : State) (h : Nat) : Nat :=
  s.pipe.refs.foldl (fun a r => if r.2.contains h then max a r.1 else a) 0

/-- A deferred release is due once the raster of tally m has ended. -/
def State.releaseDue (s : State) (m : Nat) (d : Deferred) : Bool :=
  decide (d.untilTally ≤ m) || (match d.berth with
    | some i =>
      let b := s.berth i
      b.kind == 2 && !s.sourceAhead (s.handleAt i) && decide (s.lastRef (s.handleAt i) ≤ m)
    | none => false)

/-- A berth index becomes free (R377, R379). -/
def State.freeBerth (s : State) (i : Nat) : State :=
  let b := s.berth i
  if b.state = 2 then
    (({ s with berths := { s.berths with freed := s.berths.freed ++ [i] } }).setBerth i { b with state := 0, endTally := none })
  else s

/-- Releases due after the raster of tally m: staging returns to the free units and the index of a source with it. -/
def State.runReleases (s : State) (m : Nat) : State :=
  let due := s.pipe.deferred.filter (s.releaseDue m)
  let s := { s with pipe := { s.pipe with deferred := s.pipe.deferred.filter fun d => !s.releaseDue m d } }
  due.foldl (fun s d =>
    let s := d.allocs.foldl (fun s a => s.stageFree a.first) s
    match d.berth with
    | some i => s.freeBerth i
    | none => s.stageSettle) s

/-- First units of the staging that something still names: rings, buffers held, masks, pending commits, uploads and
releases already waiting. -/
def State.unitsNamed (s : State) : List Nat :=
  let rcv := s.pipe.receivers.flatMap fun r =>
    (if r.2.berth.isSome ∧ 0 < r.2.count then [s.addrUnit r.2.base] else [])
      ++ (r.2.nextRing.map fun n => s.addrUnit n.1).toList
      ++ (r.2.bufs.filter (·.held)).map fun b => s.addrUnit b.addr
  let mask := fun (p : Layer) => if p.maskUnits = 0 then [] else [s.addrUnit p.maskBase]
  let com := s.pipe.commits.flatMap fun c => match c.kind with
    | .layer _ p _ => mask p
    | .source _ _ (some n) => [s.addrUnit n.1]
    | _ => []
  let up := s.scan.entries.filterMap fun e => if 0 < e.2.upload.units then some e.2.upload.unit else none
  rcv ++ s.pipe.layers.flatMap (fun e => mask e.2) ++ com ++ up
    ++ s.pipe.deferred.flatMap fun d => d.allocs.map (·.first)

/-- Staging that nothing names any more waits for the raster of the newest tally composed (R132): the rings that a modify
replaced. A ring is named as long as one of its buffers is held. -/
def State.collect (s : State) : State :=
  let named := s.unitsNamed
  let gone := s.pipe.stage.filter fun a => !named.any fun u => decide (a.first ≤ u ∧ u < a.first + a.units)
  let newest := (s.pipe.comp.map (·.tally)).getD s.tally
  if gone.isEmpty then s else s.deferFree newest (gone.map (·.first))

end Sys2Proof.Machine
end

