-- ==== Sys2Proof/Machine/BerthMake.lean ====
section
/-!
DEFINITION. Berth operations: parameters, create, modify, destroy and query of every kind (13_berths_cues.md R375 to R383;
Table 14.4; the owning chapters' rules for parameters).
-/
namespace Sys2Proof.Machine

/-! ### Parameter items (R404) -/

def pVal (p : Param) : Nat := beNat p.value
def findParam (ps : List Param) (id : Nat) : Option Nat := (ps.find? (·.id == id)).map pVal
/-- The value of an item, or a default. -/
def paramD (ps : List Param) (id d : Nat) : Nat := (findParam ps id).getD d
/-- Register images at offsets a, a + 4, …, over the words they have now. -/
def imagesOver (ps : List Param) (a : Nat) (ws : List Nat) : List Nat := ws.mapIdx fun i w => paramD ps (a + 4 * i) w

/-- Items with allowed IDs, none twice, each of the length its ID takes: 4 for a register image, `big` for the long one,
else 1, 2 or 4. -/
def itemsOk (ps : List Param) (images others : List Nat) (long : Nat × List Nat) : Bool :=
  ps.all (fun p => p.len == p.value.length
    && ((images.contains p.id && p.len == 4)
      || (long.1 == p.id && long.2.contains p.len)
      || (long.1 != p.id && others.contains p.id && [1, 2, 4].contains p.len)))
  && (ps.map (·.id)).Nodup

/-- IDs 0x8000 to 0x8000 + n − 1. -/
def rowIds (n : Nat) : List Nat := (List.range n).map (0x8000 + ·)

/-- IDs a kind allows, with its long item (Table 14.4). -/
def kindItems (kind : Nat) (ps : List Param) : Bool :=
  match kind with
  | 1 => itemsOk ps ((List.range 8).map fun i => 4 + 4 * i) [] (0, [])
  | 2 => itemsOk ps (((List.range 11).map fun i => 4 + 4 * i) ++ [0x8C]) [] (0, [])
  | 3 => itemsOk ps [] (rowIds 1) (0, [])
  | 4 => itemsOk ps [] (rowIds 4) (0x8001, [1, 2, 3, 4, 5, 6])
  | 5 => itemsOk ps ((List.range 6).map fun i => 0x0C + 4 * i) (rowIds 2) (0, [])
  | 6 => itemsOk ps [] (rowIds 9) (0, [])
  | 7 => itemsOk ps [] (rowIds 8) (0, [])
  | 8 => itemsOk ps [] (rowIds 1) (0x8000, [256])
  | 9 => itemsOk ps [] (rowIds 2) (0, [])
  | _ => false

/-- IDs of a kind that a modify may not name (Table 14.4). -/
def fixedIds (kind : Nat) : List Nat :=
  match kind with
  | 3 => [0x8000]
  | 5 => [0x8000, 0x8001]
  | 6 => [0x8000, 0x8001, 0x8002]
  | _ => []

/-! ### Sources (R78, R90, R101, R546) -/

def srcWords (c : SrcCfg) : List Nat :=
  [c.cfg, c.size, c.xfer, c.p0Addr, c.p0Port, c.p1Addr, c.p1Port, c.clip, c.start % 2 ^ 32, c.start / 2 ^ 32, c.pqPeak]
def srcOf (ws : List Nat) : SrcCfg :=
  { cfg := ws.getD 0 0, size := ws.getD 1 0, xfer := ws.getD 2 0, p0Addr := ws.getD 3 0, p0Port := ws.getD 4 0
    p1Addr := ws.getD 5 0, p1Port := ws.getD 6 0, clip := ws.getD 7 0, start := ws.getD 8 0 + 2 ^ 32 * ws.getD 9 0
    pqPeak := ws.getD 10 0 }

/-- A source's configuration judged: MALFORMED for a START that is no ledger value (R13), else INVALID when it breaks its
limits. -/
def srcBad (c : SrcCfg) : Option Nat := if ledgerOk c.start = false then some 6 else if cfgOk c then none else some 7

/-- New buffers are needed: those of a ring when their units or number change, and those of a still or clip when its size,
format or number does (R101). -/
def ringChanges (a b : SrcCfg) : Bool :=
  (decide (2 ≤ cfgType b) && decide (cfgType b ≤ 3) && (cfgW a != cfgW b || cfgH a != cfgH b || cfgFmt a != cfgFmt b))
    || bufUnits (cfgW a) (cfgH a) (cfgFmt a) != bufUnits (cfgW b) (cfgH b) (cfgFmt b) || cfgCount a != cfgCount b

/-- A new ring for a configuration: address, units of a buffer and number. -/
def State.ringFor (s : State) (c : SrcCfg) : Option ((Nat × Nat × Nat) × State) :=
  (s.allocFor c).map fun (f, t) => ((t.unitAddr f, bufUnits (cfgW c) (cfgH c) (cfgFmt c), cfgCount c), t)

/-- Receivers of type 0. -/
def State.typeZero (s : State) : Nat := (s.pipe.receivers.filter fun r => r.2.berth.isSome && cfgType r.2.cfg == 0).length

/-- A source's configuration as the commits already accepted will leave it (R101, R129). -/
def State.cfgAhead (s : State) (r : Nat) : SrcCfg :=
  let x := s.rcv r
  s.pipe.commits.foldl (fun (c : SrcCfg) k => match k.kind with
    | .source i d _ => if i = r then d else c
    | .stillSel i b => if i = r then { c with clip := putBits c.clip 24 24 b.toNat } else c
    | .clipStart i v => if i = r then { c with start := v } else c
    | _ => c) (x.next.getD x.cfg)

/-- A ring that a later modify replaces before it came into force returns its staging. -/
def State.dropNextRing (s : State) (r : Nat) : State :=
  match (s.rcv r).nextRing with
  | some n => (s.stageFree (s.addrUnit n.1)).modRcv r fun x => { x with nextRing := none }
  | none => s

/-- A modify of a source (R101): status, effective tally and state. A change of TYPE is invalid (log entry 32). -/
def State.sourceModify (s : State) (r : Nat) (ps : List Param) (cue : Option Nat) : Nat × Nat × State :=
  let x := s.rcv r
  let base := s.cfgAhead r
  let c := srcOf (imagesOver ps 4 (srcWords base))
  let export_ := fun (t : State) => match findParam ps 0x8C with
    | some v => t.wn (Reg.ING_SRC_EXPORT r) (bits v 11 0)
    | none => t
  match (srcBad c).orElse fun _ => if cfgType c = cfgType base then none else some 7 with
  | some e => (e, 0, s)
  | none =>
  if cfgType c ≤ 1 then
    if ringChanges x.cfg c then
      match (s.dropNextRing r).ringFor c with
      | none => (8, 0, s)
      | some (n, t) => (0, 0, export_ (t.modRcv r fun x => { x with next := some c, nextRing := some n }))
    else (0, 0, export_ ((s.dropNextRing r).modRcv r fun x => { x with next := some c }))
  else if ringChanges base c then
    match s.ringFor c with
    | none => (8, 0, s)
    | some (n, t) => (0, t.effNow cue, export_ (t.submit (.source r c (some n)) true cue))
  else (0, s.effNow cue, export_ (s.submit (.source r c none) true cue))

/-- A source commit at its edge: refused when it raises the predicted cost above the budget (R121), and its new buffers are
released (R132); else the receiver takes its configuration and new buffers (R101). -/
def State.sourceLatch (s : State) (r : Nat) (c : SrcCfg) (ring : Option (Nat × Nat × Nat)) (eff : Nat) : State :=
  let before := s.edgeCost s.pipe.layers eff
  let t := s.modRcv r fun x => match ring with
    | some (b, u, n) => { x with cfg := c, base := b, units := u, count := n }
    | none => { x with cfg := c }
  let cost := t.edgeCost t.pipe.layers eff
  if s.budget < cost ∧ before < cost then
    (s.deferFree s.tally (ring.map fun n => s.addrUnit n.1).toList).bump Reg.COMP_REFUSED
  else t

/-! ### Lamp groups (R344) -/

/-- Ports of the item PORTS: its bytes, 0xFF for unused. -/
def portItem (ps : List Param) : Option (List Nat) := (ps.find? (·.id == 0x8001)).map fun p => p.value.map (·.toNat)

/-- The strings of a PORTS item: 1 to 6 ports with the unused ones last. -/
def stringsOf (l : List Nat) : Option (List Nat) :=
  let used := l.takeWhile (· != 0xFF)
  if used ≠ [] ∧ used.length ≤ 6 ∧ (l.drop used.length).all (· == 0xFF) then some used else none

/-- The ports may form a group: enabled, no two alike, none in another group in force or pending. -/
def State.portsFree (s : State) (g : Nat) (l : List Nat) : Bool :=
  l.Nodup && l.all fun p => decide (p < 32) && bit (s.rn (Reg.LAMP_PORT_CFG p)) 0
    && (match s.portGroup p with
      | some (h, _) => h == g
      | none => true)

/-- LAMP_GRP_CFG and LAMP_GRP_PORTS of a group's parameters. -/
def grpWords (mode : Nat) (l : List Nat) (ored : Nat) (engine : Nat) : Nat × Nat :=
  (mode + 4 * (l.length - 1) + 32 * ored + 64 * engine, (l.mapIdx fun i p => p * 2 ^ (5 * i)).foldl (· + ·) 0)

/-- MODE, ORED and ENGINE in range. -/
def grpRange (mode ored engine : Nat) : Bool := decide (mode ≤ 2 ∧ ored ≤ 1 ∧ engine ≤ 7)

/-! ### Universe sets (Table 11.6, R328) -/

/-- The parameters of a universe set from its items over those it has. -/
def univParams (ps : List Param) (old : List Nat) : List Nat := old.mapIdx fun i v => paramD ps (0x8000 + i) v

/-- Ranges of Table 11.6; those of outputs and inputs bind their direction. -/
def State.univRange (s : State) (u : List Nat) : Bool :=
  let g := fun i => u.getD i 0
  decide (g 0 ≤ 1 ∧ 1 ≤ g 1 ∧ g 1 ≤ 63999 ∧ 1 ≤ g 2 ∧ g 2 ≤ 256 ∧ g 1 + g 2 - 1 ≤ 63999 ∧ 1 ≤ g 3 ∧ g 3 ≤ 15)
    && (macsOf (g 3)).all (fun m => bit (s.rn (Reg.MAC_CFG m)) 20)
    && (g 0 == 0 || decide (1 ≤ g 4 ∧ g 4 ≤ 512 ∧ g 5 ≤ 200 ∧ 1 ≤ g 6 ∧ g 6 ≤ 16 ∧ 100 ≤ g 7 ∧ g 7 ≤ 1000))
    && decide (g 8 ≤ 1)

/-- Other universe sets of a direction, in force or pending release. -/
def State.univOthers (s : State) (dir : Nat) : List Berth :=
  (s.berths.entries.filter fun e => e.2.state != 0 && e.2.kind == 6 && uParam e.2 0 == dir).map (·.2)

/-! ### DMX ports (Table 11.7, R335) -/

/-- The eight parameters of a port from its registers. -/
def State.dmxParams (s : State) (p : Nat) : List Nat :=
  let c := s.rn (Reg.DMX_CFG p)
  let t := s.rn (Reg.DMX_TIMING p)
  [bits c 9 0, bits t 9 0, bits t 16 10, bits t 24 17, bits c 11 11, bits t 25 25, bits c 19 12, bits c 31 20]
def dmxDefaults : List Nat := [512, 176, 16, 0, 0, 1, 4, 10]

def dmxRange (c : Nat) (u : List Nat) : Bool :=
  let g := fun i => u.getD i 0
  decide (24 ≤ g 0 ∧ g 0 ≤ 512 ∧ 92 ≤ g 1 ∧ g 1 ≤ 1000 ∧ 12 ≤ g 2 ∧ g 2 ≤ 100 ∧ g 3 ≤ 255 ∧ g 4 ≤ 1 ∧ g 5 ≤ 1
      ∧ 2 ≤ g 6 ∧ g 6 ≤ 255 ∧ 1 ≤ g 7 ∧ g 7 ≤ 3600)
    && (g 3 == 0 || decide (dmxLeastDiv c (dmxFrameNs (g 0) (g 1) (g 2)) ≤ g 3))

/-- A port's registers from its parameters. -/
def State.dmxWrite (s : State) (p : Nat) (u : List Nat) : State :=
  let g := fun i => u.getD i 0
  ((s.wn (Reg.DMX_CFG p) (g 0 + 2 ^ 10 + 2 ^ 11 * g 4 + 2 ^ 12 * g 6 + 2 ^ 20 * g 7)).wn (Reg.DMX_TIMING p)
    (g 1 + 2 ^ 10 * g 2 + 2 ^ 17 * g 3 + 2 ^ 25 * g 5)).dmxSettle p

/-! ### Create (R375 to R377) -/

/-- Numbered resources of a kind (Table 13.1). -/
def kindLimit (kind : Nat) : Nat := [0, 64, 32, 256, 32, 8, 0, 8, 0, 0].getD kind 0

/-- A free resource: the one named, or the lowest (R377); 7 when out of range, 8 when none is free. -/
def State.pickResource (s : State) (kind res extent : Nat) : Except Nat Nat :=
  if kindLimit kind = 0 then .ok 0
  else
    let free := fun r => decide (r + extent ≤ kindLimit kind) && (List.range extent).all fun i => !s.taken kind (r + i)
    if res = 0xFFFFFFFF then
      match (List.range (kindLimit kind)).find? free with
      | some r => .ok r
      | none => .error 8
    else if kindLimit kind < res + extent then .error 7
    else if free res then .ok res else .error 8

/-- The berth enters the table at an index with the next generation. -/
def State.berthEnter (s : State) (kind index resource extent : Nat) (params : List Nat) : State × Nat :=
  let g := (s.berth index).gen
  let g := if g = 65535 then 1 else g + 1
  let s := { s with berths := { s.berths with freed := s.berths.freed.filter (· != index) } }
  ((s.setBerth index { kind := kind, gen := g, state := 1, resource := resource, extent := extent, params := params }).bump
    Reg.BERTH_CREATED, handle kind g index)

/-- What a create of a kind does beside the table entry: a status with the state, or the effective tally and state. -/
def State.berthBegin (s : State) (kind index r : Nat) (h : Nat) (ps : List Param) : Except Nat (Nat × State) :=
  match kind with
  | 1 =>
    let p := layerOf {} (imagesOver ps 4 [0, 0x10000000, 0, 0, 0, 0, 0, 0])
    let s := s.wn (Reg.COMP_LAYER_HANDLE r) h
    let s := { s with pipe := { s.pipe with layers := tabSet s.pipe.layers r {} } }
    let s := s.wrWords (Reg.COMP_LAYER_SRC r) (layerWords p)
    match s.layerCommit r p with
    | (s, 0) => .ok (s.effNow, s)
    | (_, e) => .error e
  | 2 =>
    let c := srcOf (imagesOver ps 4 (srcWords {}))
    match srcBad c with
    | some e => .error e
    | none =>
      if cfgType c = 0 ∧ 4 ≤ s.typeZero then .error 8
      else match s.allocFor c with
        | none => .error 8
        | some (f, s) =>
          let s := (s.openRcv r index c f).wn (Reg.ING_SRC_HANDLE r) h
          .ok (0, s.wn (Reg.ING_SRC_EXPORT r) (bits (paramD ps 0x8C 0) 11 0))
  | 3 =>
    let n := paramD ps 0x8000 0
    let keep := s.fixture.probes.filter fun e => !decide (64 * r ≤ e.1 ∧ e.1 < 64 * (r + n))
    .ok (0, ({ s with fixture := { s.fixture with probes := keep } }).probeSettle)
  | 4 =>
    match (portItem ps).bind stringsOf with
    | none => .error 7
    | some l =>
      let mode := paramD ps 0x8000 0
      let ored := paramD ps 0x8002 0
      let eng := paramD ps 0x8003 0
      if !grpRange mode ored eng || !s.portsFree 32 l then .error 7
      else
        let (c, p) := grpWords mode l ored eng
        let s := ((s.wn (Reg.LAMP_GRP_HANDLE r) h).wn (Reg.LAMP_GRP_CFG r) c).wn (Reg.LAMP_GRP_PORTS r) p
        .ok (0, s.setLgroup r {})
  | 5 =>
    let k := paramD ps 0x8000 0
    let t := paramD ps 0x8001 0
    if 1 < k ∨ 1 < t then .error 7
    else
      let ws := imagesOver ps 0x0C [0xFFFF0000, 0x3E8, 0x1000, 0x8000, 0, 0]
      let s := ((s.wn (Reg.LAMP_PAT_HANDLE r) h).wn (Reg.LAMP_PAT_CFG r) (k + 2 * t)).wrWords (Reg.LAMP_PAT_P01 r) ws
      let x : LampEngine := {}
      let x := enSet (t == 1) (enSet (t == 1) x 0 0 (bits (ws.getD 0 0) 15 0)) 0 1 (bits (ws.getD 0 0) 31 16)
      let per := bits (ws.getD 1 0) 15 0
      let x := { x with p23 := putBits (ws.getD 1 0) 15 0 (if per = 0 then 1000 else per) }
      let x := enSet (t == 1) (enSet (t == 1) x 0 4 (bits (ws.getD 2 0) 15 0)) 0 5 (bits (ws.getD 2 0) 31 16)
      let x := { x with p6 := bits (ws.getD 3 0) 15 0, origin := ws.getD 4 0 + 2 ^ 32 * ws.getD 5 0 }
      .ok (0, s.setLengine r x)
  | 6 =>
    let u := univParams ps [0, 0, 0, 0, 0, 100, 0, 800, 0]
    let others := s.univOthers (u.getD 0 0)
    let total := others.foldl (fun a b => a + uParam b 2) 0
    let meets := others.any fun b => decide (uParam b 1 < u.getD 1 0 + u.getD 2 0 ∧ u.getD 1 0 < uParam b 1 + uParam b 2)
    if !s.univRange u || meets then .error 7
    else if 1024 < total + u.getD 2 0 then .error 8
    else
      let us := (List.range (u.getD 2 0)).map (u.getD 1 0 + ·)
      let t := if u.getD 0 0 = 1 then us.foldl (fun (t : Tab UnivOut) k => tabMod t k {} fun x =>
        { x with since := 0, sent := [], last := none, tally := none, macs := u.getD 3 0, slots := u.getD 4 0, prio := u.getD 5 0 })
        s.fixture.univOut else s.fixture.univOut
      let i := if u.getD 0 0 = 0 then us.foldl (fun (t : Tab UnivIn) k => tabErase t k) s.fixture.univIn else s.fixture.univIn
      .ok (0, { s with fixture := { s.fixture with univOut := t, univIn := i } })
  | 7 =>
    let u := dmxDefaults.mapIdx fun i v => paramD ps (0x8000 + i) v
    if !dmxRange s.rate u then .error 7
    else
      let s := { s with fixture := { s.fixture with dmx := tabErase s.fixture.dmx r } }
      let s := s.dmxWrite r u
      .ok (0, if s.rdmOn r && s.dmxDrives r then s.rdmFull r else s)
  | 8 => .ok (0, s)
  | 9 =>
    let rep := paramD ps 0x8000 0
    let lim := paramD ps 0x8001 4096
    if 1 < rep ∨ lim = 0 ∨ 4096 < lim then .error 7 else .ok (0, s)
  | _ => .error 6

/-- Parameters kept in the table entry: those of kinds without registers. -/
def berthParams (kind : Nat) (ps : List Param) : List Nat :=
  match kind with
  | 6 => univParams ps [0, 0, 0, 0, 0, 100, 0, 800, 0]
  | 8 => match ps.find? (·.id == 0x8000) with
    | some p => p.value.map (·.toNat)
    | none => List.replicate 256 0
  | 9 => [paramD ps 0x8000 0, paramD ps 0x8001 4096]
  | _ => []

/-- A create (R375 to R377): status, handle, effective tally and state; whole or not at all. A layer's create is a commit
(R123), and one that the rules of a commit refuse counts in COMP_REFUSED too (log entry 222). -/
def State.berthMake (s : State) (kind res : Nat) (ps : List Param) : Nat × Nat × Nat × State :=
  let no := fun e => (e, 0, 0, s.bump Reg.BERTH_REFUSED)
  if kind = 0 ∨ 10 ≤ kind then no 6
  else if !s.lampDie ∧ (kind = 4 ∨ kind = 5) then no 10
  else if !kindItems kind ps then no 7
  else
    let extent := if kind = 3 then paramD ps 0x8000 0 else 1
    if kind = 3 ∧ (extent = 0 ∨ 256 < extent) then no 7
    else match s.freeIndex with
      | none => no 8
      | some index => match s.pickResource kind res extent with
        | .error e => no e
        | .ok r =>
          let numbered := kindLimit kind != 0
          let s0 := s
          let (s, h) := s.berthEnter kind index (if numbered then r else 0) (if numbered then extent else 0) (berthParams kind ps)
          match s.berthBegin kind index r h ps with
          | .ok (eff, s) => (0, h, eff, s)
          | .error e => if kind = 1 then (e, 0, 0, (s0.bump Reg.BERTH_REFUSED).bump Reg.COMP_REFUSED) else no e

/-! ### Modify (R378) -/

/-- A modify of a live berth: status, effective tally and state. -/
def State.berthChange (s : State) (index : Nat) (ps : List Param) (cue : Option Nat := none) : Nat × Nat × State :=
  let b := s.berth index
  let r := b.resource
  if !kindItems b.kind ps || ps.any fun p => (fixedIds b.kind).contains p.id then (7, 0, s)
  else match b.kind with
  | 1 =>
    let p := layerOf (s.layer r) (imagesOver ps 4 (layerWords (s.layer r)))
    let (s, e) := s.layerCommit r p cue
    if e = 0 then (0, s.effNow cue, s.wrWords (Reg.COMP_LAYER_SRC r) (layerWords p)) else (e, 0, s)
  | 2 => s.sourceModify r ps cue
  | 3 => (0, 0, s)
  | 4 =>
    let old := s.rn (Reg.LAMP_GRP_CFG r)
    let l := match portItem ps with
      | some l => stringsOf l
      | none => some ((List.range (s.grpStrings r)).map (s.grpPort r))
    let mode := paramD ps 0x8000 (bits old 1 0)
    let ored := paramD ps 0x8002 (bits old 5 5)
    let eng := paramD ps 0x8003 (bits old 8 6)
    match l with
    | none => (7, 0, s)
    | some l =>
      if !grpRange mode ored eng || !s.portsFree r l then (7, 0, s)
      else
        let (c, p) := grpWords mode l ored eng
        (0, s.effNow cue, s.submit (.lampGroup r c p) true cue)
  | 5 =>
    let s := ps.foldl (fun s p => s.wn (Reg.LAMP_PAT_HANDLE r + p.id) (pVal p)) s
    let regs := [0x0C, 0x10, 0x14, 0x18]
    let s := regs.zipIdx.foldl (fun s e => match findParam ps e.1 with
      | some v => s.submit (.pattern r e.2 v) true cue
      | none => s) s
    let s := if (findParam ps 0x1C).isSome ∨ (findParam ps 0x20).isSome then
      s.submit (.pattern r 4 (s.pair (Reg.LAMP_PAT_ORIGIN r))) true cue else s
    (0, s.effNow cue, s)
  | 6 =>
    let u := univParams ps b.params
    if s.univRange u then (0, 0, s.setBerth index { b with params := u }) else (7, 0, s)
  | 7 =>
    let u := (s.dmxParams r).mapIdx fun i v => paramD ps (0x8000 + i) v
    if !dmxRange s.rate u then (7, 0, s)
    else
      let was := s.rdmOn r
      let s := s.dmxWrite r u
      (0, 0, if !was && s.rdmOn r && s.dmxDrives r then s.rdmFull r else s)
  | 8 => (0, 0, match ps.find? (·.id == 0x8000) with
      | some p => s.setBerth index { b with params := p.value.map (·.toNat) }
      | none => s)
  | 9 =>
    let rep := paramD ps 0x8000 (b.params.getD 0 0)
    let lim := paramD ps 0x8001 (b.params.getD 1 4096)
    if 1 < rep ∨ lim = 0 ∨ 4096 < lim then (7, 0, s) else (0, 0, s.setBerth index { b with params := [rep, lim] })
  | _ => (7, 0, s)

/-! ### Destroy (R379) -/

/-- A destroy of a live berth: the handle is stale at once, its effect ends from the effective tally, and the staging of a
source or of a layer's masks waits for the raster of its last tally (R132). -/
def State.berthDestroy (s : State) (index : Nat) (cue : Option Nat := none) : Nat × State :=
  let b := s.berth index
  let eff := s.effNow cue
  let s := (s.setBerth index { b with state := 2, endTally := some eff }).bump Reg.BERTH_DESTROYED
  let s := s.submit (.destroy index b.kind b.resource) true cue
  let s := match b.kind with
    | 1 => (s.deferFree (eff - 1) (s.slotMasks b.resource)).setResult b.resource 1
    | 2 =>
      let r := s.rcv b.resource
      let us := (if 0 < r.count then [s.addrUnit r.base] else []) ++ (r.nextRing.map fun n => s.addrUnit n.1).toList
      let allocs := s.pipe.stage.filter fun a => us.contains a.first
      (({ s with pipe := { s.pipe with
        deferred := s.pipe.deferred ++ [Deferred.mk (eff - 1) allocs (some index)] } }).stageSettle)
    | 6 =>
      if uParam b 0 = 1 then
        let us := (List.range (uParam b 2)).map (uParam b 1 + ·)
        { s with fixture := { s.fixture with univOut := us.foldl (fun (t : Tab UnivOut) u =>
          tabMod t u {} fun x => { x with term := 3, macs := uParam b 3, prio := uParam b 5 }) s.fixture.univOut } }
      else s
    | _ => s
  (eff, s)

/-- What a destroy ends at Tp of its effective tally (Table 13.3); a source's index is freed with its staging instead. -/
def State.destroyApply (s : State) (index kind r : Nat) : State :=
  let free := fun (s : State) => s.freeBerth index
  match kind with
  | 1 =>
    let s := { s with pipe := { s.pipe with layers := tabErase s.pipe.layers r } }
    free (((List.range 16).foldl (fun s i => s.wn (Reg.COMP_LAYER_HANDLE r + 4 * i) (regReset (Reg.COMP_LAYER_HANDLE r + 4 * i))) s))
  | 3 => free s
  | 4 => free ((List.range 10).foldl (fun s i => s.wn (Reg.LAMP_GRP_HANDLE r + 4 * i) (regReset (Reg.LAMP_GRP_HANDLE r + 4 * i))) s)
  | 5 => free ((List.range 10).foldl (fun s i => s.wn (Reg.LAMP_PAT_HANDLE r + 4 * i) (regReset (Reg.LAMP_PAT_HANDLE r + 4 * i))) s)
  | 7 =>
    let s := s.rdmFail r
    let s := (s.wn (Reg.DMX_CFG r) 0).wn (Reg.DMX_TIMING r) 0
    free (s.setDmx r { s.dmx r with disc := [], uids := [] })
  | 2 => s
  | _ => free s

/-- A destroyed layer is not drawn, a destroyed source's receiver is unused, and a destroyed set's probes stop, from the
effective tally: at the latch edge that governs it (R123, R130). Commits of the layer that still wait for their mask apply to
no tally. -/
def State.destroyLatch (s : State) (kind r eff : Nat) (blocks : Nat) : State :=
  match kind with
  | 1 =>
    let s := { s with pipe := { s.pipe with
      layers := tabMod s.pipe.layers r {} fun p => { p with ctrl := putBits p.ctrl 0 0 0 }
      commits := s.pipe.commits.filter fun c => !c.kind.ofSlot r } }
    (s.setResult r 2).wn (Reg.COMP_LAYER_EFF_TALLY r) eff
  | 3 => s.probesStop r blocks eff
  | _ => s

/-! ### Query (R404) -/

/-- The live items of a berth (Table 14.4). -/
def State.berthItems (s : State) (index : Nat) : List (Nat × Nat × List Byte) :=
  let b := s.berth index
  let r := b.resource
  let img := fun (a : Nat) (ws : List Nat) => ws.mapIdx fun i w => (a + 4 * i, 4, beBytes 4 w)
  let rows := fun (sizes : List Nat) (vs : List Nat) =>
    vs.zipIdx.map fun e => (0x8000 + e.2, sizes.getD e.2 4, beBytes (sizes.getD e.2 4) e.1)
  match b.kind with
  | 1 => img 4 (layerWords (s.layer r))
  | 2 => img 4 (srcWords (s.rcv r).cfg) ++ [(0x8C, 4, beBytes 4 (s.rn (Reg.ING_SRC_EXPORT r)))]
  | 3 => rows [2] [b.extent]
  | 4 =>
    let l := (List.range 6).map fun k => if k < s.grpStrings r then s.grpPort r k else 0xFF
    [(0x8000, 1, beBytes 1 (s.grpMode r)), (0x8001, 6, l.map (BitVec.ofNat 8)),
     (0x8002, 1, beBytes 1 (s.grpOred r).toNat), (0x8003, 1, beBytes 1 (s.grpEngine r))]
  | 5 =>
    let x := s.lengine r
    img 0x0C [x.p01, x.p23, x.p45, x.p6, x.origin % 2 ^ 32, x.origin / 2 ^ 32]
      ++ rows [1, 1] [s.fld (Reg.LAMP_PAT_CFG r) 0 0, s.fld (Reg.LAMP_PAT_CFG r) 1 1]
  | 6 => rows [1, 2, 2, 1, 2, 1, 1, 2, 1] b.params
  | 7 => rows [2, 2, 1, 1, 1, 1, 1, 2] (s.dmxParams r)
  | 8 => [(0x8000, 256, b.params.map (BitVec.ofNat 8))]
  | 9 => rows [1, 2] b.params
  | _ => []

def State.queryBody (s : State) (index : Nat) : List Byte :=
  let items := s.berthItems index
  let b := s.berth index
  beBytes 1 b.state ++ beBytes 4 b.resource ++ beBytes 2 items.length
    ++ items.flatMap fun e => beBytes 2 e.1 ++ beBytes 2 e.2.1 ++ e.2.2

/-! ### The operations through a door -/

/-- The checks of a handle before an operation (R382, R383): malformed, then stale. -/
def State.handleCheck (s : State) (d : Door) (type h : Nat) (f : State → State) : State :=
  if malformed h then (s.bump Reg.BERTH_REFUSED).respond d type 6 []
  else if s.live h then f s
  else (s.staleDelivery h (doorPort d)).respond d type 1 []

def State.opCreate (s : State) (d : Door) (kind res : Nat) (ps : List Param) : State :=
  let (e, h, eff, s) := s.berthMake kind res ps
  s.respond d 0x20 e (beBytes 4 h ++ beBytes 4 eff)

def State.opModify (s : State) (d : Door) (h : Nat) (ps : List Param) : State :=
  s.handleCheck d 0x21 h fun s =>
    let (e, eff, s) := s.berthChange (hIndex h) ps
    let s := if e = 0 then s else s.bump Reg.BERTH_REFUSED
    s.respond d 0x21 e (beBytes 4 eff)

def State.opDestroy (s : State) (d : Door) (h : Nat) : State :=
  s.handleCheck d 0x22 h fun s =>
    let (eff, s) := s.berthDestroy (hIndex h)
    s.respond d 0x22 0 (beBytes 4 eff)

def State.opQuery (s : State) (d : Door) (h : Nat) : State :=
  s.handleCheck d 0x23 h fun s => s.respond d 0x23 0 (s.queryBody (hIndex h))

end Sys2Proof.Machine
end

