-- ==== Sys2Proof/Machine/NvmOps.lean ====
section
/-!
DEFINITION. What the device programs into the attached NVM, byte for byte with its check words: blocks, boot header copies,
trims copies, settings halves and the log area (17_boot_update_security.md R491 to R493, R505, R518; Table 16.9).
-/
namespace Sys2Proof.Machine

def leWords (ws : List Nat) : List Byte := ws.flatMap (leBytes 4)

/-- Bytes filled up with zeros to a length. -/
def zeroFill (n : Nat) (bs : List Byte) : List Byte := bs ++ List.replicate (n - bs.length) 0#8

/-- A 4 KiB block: 4,092 content bytes and their CRC-32C (R492). -/
def nvmBlock (content : List Byte) : List Byte :=
  let c := zeroFill 4092 (content.take 4092)
  c ++ leBytes 4 (crc32c c).toNat

/-- The bytes of a boot header copy (Table 17.3). -/
def BootHdr.bytes (h : BootHdr) : List Byte :=
  let b := leBytes 1
  nvmBlock (leWords [0x4842584A, h.seq % 2 ^ 32] ++ b 1 ++ b h.fwActive ++ b h.manActive ++ b h.trial ++ b h.tries ++ b h.fwPrev
    ++ b h.manPrev ++ b 0 ++ leBytes 2 h.slots ++ leBytes 2 h.remap.length
    ++ h.remap.flatMap fun e => leBytes 2 e.1 ++ leBytes 2 e.2)

/-- The bytes of a trims record copy (Table 16.9). -/
def TrimCopy.bytes (c : TrimCopy) : List Byte :=
  let bs := leWords [0x5452494D, c.seq % 2 ^ 32] ++ c.dev ++ leBytes 2 c.codes.length ++ leBytes 2 0 ++ c.codes.flatMap (leBytes 1)
  bs ++ leBytes 4 (crc32c bs).toNat

/-- The bytes of a record: its header (Table 17.6) and body. -/
def MRecord.bytes (r : MRecord) : List Byte := leBytes 2 r.type ++ leBytes 2 r.flags ++ leBytes 4 r.body.length ++ r.body

/-- The blocks of n content bytes each. -/
def contentBlocks : Nat → List Byte → List (List Byte)
  | 0, _ => []
  | n + 1, bs => if bs.isEmpty then [] else nvmBlock bs :: contentBlocks n (bs.drop 4092)

/-- Block 0 of a settings half, and the blocks of its records (R505). -/
def Settings.head (x : Settings) : List Byte :=
  let rs := x.records.flatMap MRecord.bytes
  nvmBlock (leWords [0x53544758, x.seq % 2 ^ 32] ++ leBytes 2 x.schema ++ leBytes 2 0 ++ leBytes 8 x.tag
    ++ leWords [rs.length, x.records.length, (crc32c rs).toNat])
def Settings.blocks (x : Settings) : List (List Byte) :=
  let rs := x.records.flatMap MRecord.bytes
  contentBlocks (rs.length / 4092 + 1) rs

/-- The block that stands for a block of the map: its spare once it is remapped (R491, Table 17.3). -/
def State.blockAt (s : State) (b : Nat) : Nat :=
  let remap := match s.nvm.hdr0, s.nvm.hdr1 with
    | some h, none => h.remap
    | _, some h => h.remap
    | none, none => []
  ((remap.find? (·.1 == b)).map (·.2)).getD b

/-- Bytes programmed at an address of the NVM map. -/
def State.program (s : State) (a : Nat) (bs : List Byte) : State :=
  s.send "NVM_PROGRAM" 0 ((s.blockAt (a / 4096) * 4096 + a % 4096) :: bs.map (·.toNat))

/-- Whole blocks programmed one after another from an address. -/
def State.programBlocks (s : State) (a : Nat) : List (List Byte) → State
  | [] => s
  | b :: bs => (s.program a b).programBlocks (a + 4096) bs

/-- A boot header written: copy 0 and then copy 1 (R493). -/
def State.programHdr (s : State) (h : BootHdr) : State := (s.program 0 h.bytes).program 0x10000 h.bytes

/-- A settings half written: its records, then block 0 that makes it valid (R505). -/
def State.programSettings (s : State) (half : Nat) (x : Settings) : State :=
  let a := 0x100000 + half * 0x80000
  (s.programBlocks (a + 4096) x.blocks).program a x.head

/-! ### The log area (R518) -/

/-- Entries of the log area: the open block and 1,022 full ones of 127, the oldest block erased ahead of the open one. -/
def logKept (fill : Nat) : Nat := fill + 1022 * 127

/-- The address of a block of the log area, a ring of 1,024. -/
def logBlockAt (b : Nat) : Nat := 0x300000 + 4096 * (b % 1024)

/-- The CRC of the open block once its 127 entries stand: bytes 4,064 to 4,091 are left erased. -/
def logCheck (entries : List LogEntry) : Word :=
  crc32c (entries.reverse.flatMap (fun e => leWords e.words) ++ List.replicate 28 0xFF#8)

/-- An entry appended to the open block; a full block takes its CRC, and the oldest block is erased ahead of the next. -/
def State.logAppend (s : State) (e : LogEntry) : State :=
  let n := s.nvm.logFill
  let b := s.nvm.logBlock
  let area := (e :: s.nvm.logArea).take (logKept (n + 1))
  let s := s.program (logBlockAt b + 32 * n) (leWords e.words)
  if n + 1 < 127 then { s with nvm := { s.nvm with logArea := area, logFill := n + 1 } }
  else
    let s := (s.program (logBlockAt b + 4092) (leBytes 4 (logCheck (area.take 127)).toNat)).send "NVM_ERASE" 0 [logBlockAt (b + 2)]
    { s with nvm := { s.nvm with logArea := area.take (logKept 0), logFill := 0, logBlock := (b + 1) % 1024 } }

/-- The entries of a block of the log area lost. -/
def NvmState.logLost (n : NvmState) (block : Nat) : NvmState :=
  let d := (n.logBlock + 1024 - block) % 1024
  let from_ := if d = 0 then 0 else n.logFill + (d - 1) * 127
  let size := if d = 0 then n.logFill else 127
  { n with logArea := n.logArea.take from_ ++ n.logArea.drop (from_ + size) }

end Sys2Proof.Machine
end

