-- ==== Sys2Proof/Machine/ReserveOps.lean ====
section
/-!
DEFINITION. The reserve ledger's shared operations: status, substitutions and wear (R453 to R456).
-/
namespace Sys2Proof.Machine

/-- RSV_STAT, RSV_HOLD_MAP and RSV_CORE_STAT follow the ledger. -/
def State.rsvSettle (s : State) : State :=
  let copying := s.rsv.running.any (·.kind == 1)
  let s := s.wn Reg.RSV_STAT (s.rsv.spareBank.isSome.toNat + 2 * copying.toNat + 4 * s.rsv.spareCores.length
    + 16 * s.rsv.watchFree.toNat)
  let s := s.wn Reg.RSV_HOLD_MAP (s.rsv.spareBank.getD 31)
  (List.range 10).foldl (fun s c =>
    (s.setFld (Reg.RSV_CORE_STAT c) 0 0 (s.rsv.cores.contains c).toNat).setFld (Reg.RSV_CORE_STAT c) 1 1
      (s.rsv.retired.contains c).toNat) s

/-- The policy of a kind (RSV_POLICY): OTP rows and NVM blocks are always automatic (R453). -/
def State.policy (s : State) (k : Nat) : Nat :=
  if 6 ≤ k then 2 else s.fld Reg.RSV_POLICY (2 * k - 1) (2 * k - 2)

/-- The lowest-numbered idle reserve of a group: its reserve lanes, and members that have become RESERVE_IDLE (R210, R212,
R213). -/
def State.idleReserve (s : State) (g : Nat) : Option Nat :=
  (List.range 24).find? fun l => s.groupOf l == g && s.laneSt l == 9

/-- Whether a reserve of a kind is free for a resource (Table 15.9). -/
def State.reserveFree (s : State) (k i : Nat) : Bool :=
  match k with
  | 1 => s.rsv.spareBank.isSome
  | 2 => !s.rsv.spareCores.isEmpty
  | 3 => (s.idleReserve (s.groupOf i)).isSome
  | 4 => !bit (s.rn (Reg.LAMP_PORT_STAT i)) 3
  | 5 => s.rsv.watchFree
  | 6 => decide (0 < s.fld Reg.RSV_OTP_SPARE 7 0)
  | 7 => decide (0 < s.fld Reg.RSV_NVM_SPARE 15 0)
  | _ => false

/-- A reserve lane starts its one step to the group rate in the place of a member (R212, R213). -/
def State.reserveStep (s : State) (m : Nat) : State :=
  match s.idleReserve (s.groupOf m) with
  | some r =>
    let rate := s.groupRate (s.groupOf m)
    let s := (s.setLaneSt r 4).setFld (Reg.LANE_STATE r) 18 14 (s.placeOf m)
    let s := s.modLane r fun x =>
      { x with
        target := rate, nextRung := rate, fromRate := s.laneRate r, passed := false, partnerPassed := false, stepAgreed := none, txSwitch := none
        rxSwitch := none, lastCount := 255, standIn := some m }
    s.setTx r (.step rate rate)
  | none => s

/-- The unavailable fault of a kind: detector 101 of the group for lanes, else detector 10 (R453, Table 15.2). -/
def State.unavailable (s : State) (k i : Nat) : State :=
  if k = 3 then s.raiseOnce 101 (s.groupOf i) else s.raiseOnce 10 k

/-- A substitution falls due: it waits for one of its kind that runs (R454), starts with a free reserve and raises the
substitution fault of its kind (lanes raise theirs when the reserve joins), or raises reserve unavailable (R453). -/
def State.substitute (s : State) (k i : Nat) : State :=
  if s.rsv.running.any (·.kind == k) then
    { s with rsv := { s.rsv with waiting := s.rsv.waiting ++ [Substitution.mk k i s.clk] } }
  else if s.reserveFree k i then
    let s := { s with rsv := { s.rsv with running := s.rsv.running ++ [Substitution.mk k i s.clk] } }
    let s := if k = 3 then s.reserveStep i else s.raise 11 k i
    s.rsvSettle
  else s.unavailable k i

/-- An indicator reaches its threshold: substituted when its policy is automatic (R453); with maintenance it waits for
a command, and with off nothing happens. -/
def State.worn (s : State) (k i : Nat) : State := if s.policy k = 2 then s.substitute k i else s

/-- Whether a resource is in service (R456). -/
def State.inService (s : State) (k i : Nat) : Bool :=
  match k with
  | 1 => s.rsv.bankMap.contains i
  | 2 => s.rsv.cores.contains i
  | 3 => decide (i < 24) && s.laneBit i 13
  | 4 => s.lampDie && decide (i < 32)
  | 5 => i == 0 && s.rsv.watchFree
  | _ => false

/-- A substitution takes effect (Table 15.9): the reserve stands in its place. -/
def State.substituted (s : State) (x : Substitution) : State :=
  match x.kind with
  | 1 =>
    match s.rsv.spareBank with
    | some b => { s with rsv := { s.rsv with
        bankMap := s.rsv.bankMap.map (fun p => if p = x.index then b else p), spareBank := none } }
    | none => s
  | 2 =>
    match s.rsv.spareCores with
    | c :: cs => { s with rsv := { s.rsv with
        cores := s.rsv.cores.map (fun p => if p = x.index then c else p), spareCores := cs
        retired := x.index :: s.rsv.retired } }
    | [] => s
  | 4 => s.setFld (Reg.LAMP_PORT_STAT x.index) 3 3 1
  | 5 => ({ s with rsv := { s.rsv with watchFree := false } }).setFld Reg.WATCH_STAT 0 0 1
  | 6 =>
    let n := s.fld Reg.RSV_OTP_SPARE 7 0 - 1
    ({ s with nvm := { s.nvm with otp := { s.nvm.otp with spare := n } } }).wn Reg.RSV_OTP_SPARE n
  | 7 => s.wn Reg.RSV_NVM_SPARE (s.fld Reg.RSV_NVM_SPARE 15 0 - 1)
  | _ => s

/-- The running substitution of a kind ends. -/
def State.substEnd (s : State) (k : Nat) : State :=
  { s with rsv := { s.rsv with running := s.rsv.running.filter (·.kind != k) } }

/-- The running substitution of a kind ends and the next waiting one of the kind starts (R454). -/
def State.substNext (s : State) (k : Nat) : State :=
  let s := s.substEnd k
  match s.rsv.waiting.find? (·.kind == k) with
  | some y => ({ s with rsv := { s.rsv with waiting := s.rsv.waiting.erase y } }).substitute k y.index
  | none => s

/-- The running substitution of a kind completes. -/
def State.substComplete (s : State) (k : Nat) : State :=
  match s.rsv.running.find? (·.kind == k) with
  | none => s
  | some x => ((s.substituted x).substEnd k).rsvSettle.substNext k

/-- Whether a substitution of a member by a reserve lane is running as R213 has it, by a command or the reserve ledger. -/
def State.planned (s : State) (m : Nat) : Bool := s.rsv.running.any fun x => x.kind == 3 && x.index == m

/-- A member's substitution goes on with the next idle reserve of its group (R212, R213): a planned one, or one within 30 ms
of the lock loss. Without a reserve a planned substitution fails and the member stays, and for a removed member the
reserve-unavailable fault is raised. -/
def State.reserveNext (s : State) (m : Nat) : State :=
  let g := s.groupOf m
  let since := (s.lane m).substSince
  let inTime := since.any fun c => decide (s.clk ≤ c + ms 30)
  if (s.planned m || inTime) && (s.idleReserve g).isSome then s.reserveStep m
  else
    let s := if s.planned m then s.substNext 3 else s
    if since.isSome then s.raiseOnce 101 g m else s

end Sys2Proof.Machine
end

