-- ==== Sys2Proof/Machine/Twin.lean ====
section
/-!
DEFINITION. Commands of twins: heartbeats, election, sea trial, digest and mirror (09_caravan_twins.md, R272 to R288).
-/
namespace Sys2Proof.Machine

def State.twinOn (s : State) : Bool := bit (s.rn Reg.TWIN_CFG) 0

/-! ### Heartbeats (R272 to R274) -/

/-- The device's heartbeat, number q, at a SENT_AT (Table 08.15). -/
def State.ownHeartbeat (s : State) (q sentAt : Nat) : Heartbeat :=
  { sender := s.nodeId, role := s.role, eligible := s.eligible, leadEpoch := s.rn Reg.TWIN_EPOCH
    tally := (s.pipe.raster.getD s.tally) % 2 ^ 32, seq := q, sentAt := sentAt }

/-- The bytes of a HEARTBEAT packet that a bell frame carries, 7 to 30 (Table 09.2). -/
def bellBytes (h : Heartbeat) : List Byte := ((heartbeatPacket h).drop 7).take 24

/-- The 31 characters of a bell frame (Table 09.2): a K character is its value and 256. Their 8b/10b codes are those of the
code itself, and K28.5 D16.2 pairs stand between frames (log entry 211). -/
def bellFrame (h : Heartbeat) : List Nat :=
  let bs := bellBytes h
  [0x1BC, 0x1FB] ++ (bs ++ beBytes 4 (crc32c bs).toNat).map (·.toNat) ++ [0x1FD]

/-- At a whole multiple of 50,000 ns, once (R273): the first clock edge at or after it lies less than 2 ns past it. -/
def State.heartbeatDue (s : State) : Bool :=
  s.twinOn && decide (s.ns % 50000 < 2) && s.twin.hbAt != some (s.ns / 50000)

/-- A heartbeat leaves on each path (R273), the packet's SENT_AT the ledger at its own departure. -/
def execHeartbeatSend (dt : Nat) (s : State) : Host.Outcome State Fault Refusal :=
  act dt s fun s =>
    if s.heartbeatDue then
      let q := (s.twin.hbSeq + 1) % 65536
      let g := s.fld Reg.TWIN_CFG 2 1
      let s := { s with twin := { s.twin with hbSeq := q, hbAt := some (s.ns / 50000) } }
      let s := if bit (s.rn Reg.TWIN_CFG) 3 then s.send "BELL" 0 (bellFrame (s.ownHeartbeat q s.now64)) else s
      if g = 0 then s
      else s.groupSend (g - 1) "HEARTBEAT" (heartbeatPacket (s.ownHeartbeat q (s.advance (s.txWait (g - 1) 7)).now64))
    else s

/-- A role change by a rule, with the role-change fault, and the two-Leads fault for D1 to D3 (Tables 09.3, 09.7). -/
def State.changeRole (s : State) (rule : Nat) : State :=
  let s := (s.roleChange rule).raise 148 0 rule
  if 5 ≤ rule ∧ rule ≤ 7 then s.raise 149 0 rule else s

/-- A path's time of silence counts from the later of its last valid heartbeat and the moment the device became eligible
(R277). -/
def State.silentFor (s : State) (h : Option (Nat × Nat)) (d : Nat) : Bool :=
  let c := match h with
    | some (c, _) => max c s.twin.eligibleSince
    | none => s.twin.eligibleSince
  s.elapsed c d

def State.bothSilent (s : State) (d : Nat) : Bool :=
  s.silentFor s.twin.hbGroup d && s.silentFor s.twin.hbBell d

/-- The Ferry reads the twin's digest (R283). -/
def State.digestRead (s : State) : State :=
  let a := ferryAddr 0xFFFE 0 Reg.TWIN_DIGEST
  let (st, dest) := s.fTarget a
  if st ≠ 0 then s
  else s.ferrySubmit { door := .regs .boot, type := 0, op := 1, node := fNode a, dest := dest, space := 0
                       offset := fOffset a, count := 2 }

/-- Since which clock successive heartbeats have shown something: it is kept while a path is heard (P3, P4). -/
def keptSince (holds heard : Bool) (clk : Nat) (was : Option Nat) : Option Nat :=
  if holds then some (if heard then was.getD clk else clk) else none

/-- A valid heartbeat is taken on a path (R272, R274): the path is heard, the faults of Table 09.7 recover, the twin's epoch
is recorded, its digest read when heartbeats resume after 1 ms without any (R283), and a Lead may go under D3. -/
def State.heartbeatTaken (s : State) (bell : Bool) (h : Heartbeat) : State :=
  let heard := s.pathHeard false || s.pathHeard true
  let silent := [s.twin.hbGroup, s.twin.hbBell].all fun l => match l with
    | some (c, _) => s.elapsed c (ms 1)
    | none => true
  let s := (s.wn Reg.TWIN_PEER h.sender).setFld Reg.TWIN_STAT (if bell then 4 else 3) (if bell then 4 else 3) 1
  let other := if bell then s.twin.hbGroup else s.twin.hbBell
  let otherLost := other.isSome && !bit (s.rn Reg.TWIN_STAT) (if bell then 3 else 4)
  let s := { s with twin := { s.twin with
    hbGroup := (if bell then s.twin.hbGroup else some (s.clk, h.seq))
    hbBell := (if bell then some (s.clk, h.seq) else s.twin.hbBell)
    digestDue := s.twin.digestDue || silent
    peerIdleSince := keptSince (h.role != 1 && !h.eligible) heard s.clk s.twin.peerIdleSince
    peerEscortSince := keptSince (h.role == 2 && h.eligible) heard s.clk s.twin.peerEscortSince } }
  let s := if otherLost then s.condClear 147 0 else (s.condClear 146 0).condClear 147 0
  let s := s.wn Reg.TWIN_PEER_EPOCH h.leadEpoch
  let own := s.rn Reg.TWIN_EPOCH
  let s := if s.role = 1 ∧ h.role = 1 ∧ (own < h.leadEpoch ∨ (own = h.leadEpoch ∧ h.sender < s.nodeId)) then s.changeRole 7
    else s
  if silent then s.digestRead else s

/-- A heartbeat arrives with a check word (R272, R274, Table 09.3 D3): on the bell its CRC is that of Table 09.2. -/
def State.heartbeat (s : State) (bell : Bool) (h : Heartbeat) (crc : Word) : State :=
  let p := heartbeatPacket h
  let lane := ((s.members (s.fld Reg.TWIN_CFG 2 1 - 1)).head?).getD 0
  let peer := s.rn Reg.TWIN_PEER
  let last := if bell then s.twin.hbBell else s.twin.hbGroup
  if !s.twinOn ∨ (bell ∧ bit (s.rn Reg.TWIN_CFG) 3 = false) then s
  else if bell ∧ crc32c (bellBytes h) ≠ crc then s.bump Reg.TWIN_BELL_CRC
  else if !bell ∧ packetCheck p ≠ crc then s.crcFail lane
  else if fieldsOk p = false then if bell then s else s.bump (Reg.SLK_LANE_DROP lane)
  else if peer ≠ 0 ∧ h.sender ≠ peer then s.raiseOnce 150 0 h.sender
  else if last.any (fun l => l.2 == h.seq) then s
  else s.heartbeatTaken bell h

def execHeartbeatReceive (dt : Nat) (bell : Bool) (h : Heartbeat) (crc : Word) (s : State) :
    Host.Outcome State Fault Refusal :=
  act dt s fun s => s.heartbeat bell h crc

/-- A path has been silent for 200 µs (R274, Table 09.7). -/
def execPathSilence (dt : Nat) (bell : Bool) (s : State) : Host.Outcome State Fault Refusal :=
  act dt s fun s =>
    let i := if bell then 4 else 3
    let last := if bell then s.twin.hbBell else s.twin.hbGroup
    let quiet : Bool := match last with
      | some (c, _) => s.elapsed c (us 200)
      | none => false
    if s.twinOn && quiet && bit (s.rn Reg.TWIN_STAT) i then
      let s := s.setFld Reg.TWIN_STAT i i 0
      let s := s.bump (if bell then Reg.TWIN_HB_BELL_LOST else Reg.TWIN_HB_GRP_LOST)
      if bit (s.rn Reg.TWIN_STAT) (7 - i) then s.raiseOnce 146 0 bell.toNat else s.raiseOnce 147 0
    else s

/-! ### Election (R276 to R278, Table 09.3) -/

/-- The promotion rule whose condition holds, if any (P1 to P4); what heartbeats show has lasted up to the last of them. -/
def State.promoteRule (s : State) : Option Nat :=
  let beat := fun (l : Option (Nat × Nat)) => (l.map (·.1)).getD 0
  let heldFor := fun (o : Option Nat) (d : Nat) => o.any fun c =>
    decide (c + d ≤ max (beat s.twin.hbGroup) (beat s.twin.hbBell))
  if s.role ≠ 2 ∨ s.eligible = false then none
  else if s.bothSilent (us 200) ∧ s.missEvidence then some 1
  else if s.bothSilent (ms 1) then some 2
  else if heldFor s.twin.peerIdleSince (us 100) then some 3
  else
    let own := s.rn Reg.TWIN_EPOCH
    let peer := s.rn Reg.TWIN_PEER_EPOCH
    if heldFor s.twin.peerEscortSince (us 200) ∧ (peer < own ∨ (peer = own ∧ s.nodeId < s.rn Reg.TWIN_PEER)) then some 4
    else none

/-- A promotion (R277, R278). -/
def execPromote (dt : Nat) (s : State) : Host.Outcome State Fault Refusal :=
  act dt s fun s =>
    match s.promoteRule with
    | some r => s.changeRole r
    | none => s

/-- The demotion rule D1 or D2 whose condition holds, if any (Table 09.3). -/
def State.demoteRule (s : State) : Option Nat :=
  if s.role ≠ 1 ∨ s.leadEvidence = false then none
  else
    let d1 : Bool := match s.twin.lastRise with
      | some c => decide (s.twin.promotedAt + ms 1 < c)
      | none => false
    if d1 then some 5
    else if s.elapsed s.twin.promotedAt (ms 1) ∧ s.rn Reg.TWIN_PEER ≠ 0 ∧ s.rn Reg.TWIN_PEER < s.nodeId then some 6
    else none

/-- A demotion under D1 or D2 (R277, R278). -/
def execDemote (dt : Nat) (s : State) : Host.Outcome State Fault Refusal :=
  act dt s fun s =>
    match s.demoteRule with
    | some r => s.changeRole r
    | none => s

/-- TWIN_CMD 1 (D5, R288). -/
def State.standDown (s : State) (req : Requester) : State :=
  if s.role = 1 then s.changeRole 9 else s.accErr req Reg.TWIN_CMD true false

def execStandDown (dt : Nat) (req : Requester) (s : State) : Host.Outcome State Fault Refusal :=
  act dt s fun s => s.standDown req

/-- A sea trial starts: ELIGIBLE clears and TRIAL is running (R281). -/
def State.trialStart (s : State) : State :=
  if s.twinOn then
    { (s.setEligible false).setFld Reg.TWIN_STAT 11 9 1 with
      twin := { s.twin with trialStart := some s.clk, trialFailAt := none } }
  else s

/-- TWIN_CMD 2: a new trial, refused while one runs (R288). -/
def State.trialRerun (s : State) (req : Requester) : State :=
  if s.fld Reg.TWIN_STAT 11 9 = 1 then s.accErr req Reg.TWIN_CMD true false
  else ({ s with twin := { s.twin with heldDown := min 1 s.twin.heldDown } }).trialStart

def execSeaTrialRerun (dt : Nat) (req : Requester) (s : State) : Host.Outcome State Fault Refusal :=
  act dt s fun s => s.trialRerun req

/-- A sea trial starts (R281): at start-up when none has run, or for a block whose reset waits for one. -/
def execSeaTrialStart (dt : Nat) (s : State) : Host.Outcome State Fault Refusal :=
  act dt s fun s =>
    let waits := s.flt.resets.any fun e => blockNeedsTrial e.1 && decide (e.2 ≤ s.clk)
    if s.fld Reg.TWIN_STAT 11 9 = 0 ∨ (waits ∧ s.fld Reg.TWIN_STAT 11 9 ≠ 1) then s.trialStart else s

/-- The lanes that a sea trial checks: those of Profile T and of the caravan groups, and reserves (Table 09.6). -/
def State.trialLanes (s : State) : List Nat := rangeFilter 24 fun l => decide (2 ≤ s.laneRole l)

/-- No LINKED lane of the trial has had a CRC failure in the last 100 ms (Table 09.6). -/
def State.trialLinksOk (s : State) : Bool :=
  s.trialLanes.all fun l => !s.linked l || (match tabGet? s.slk.crc (s.crcLane l) with
    | some (c :: _) => s.elapsed c (ms 100)
    | _ => true)

/-- The trial's checks are done (R281, R282, Table 09.6): the march over Hold, the loopback of the lanes not LINKED, which
then return to HAIL, and the golden canvas have the outcomes given; a block whose reset waited for it returns to service. -/
def execSeaTrialComplete (dt : Nat) (holdOk loopOk canvasOk : Bool) (s : State) : Host.Outcome State Fault Refusal :=
  act dt s fun s =>
    if s.fld Reg.TWIN_STAT 11 9 = 1 then
      let lanesOk := loopOk && s.trialLinksOk
      let s := { s with
        twin := { s.twin with trialStart := none }
        flt := { s.flt with resets := s.flt.resets.filter fun e => decide (s.clk < e.2) } }
      let s : State := (s.trialLanes.filter fun l => !s.linked l).foldl State.enterHail s
      if holdOk && lanesOk && canvasOk then
        let s := (s.setFld Reg.TWIN_STAT 11 9 2).condClear 151 0
        if s.twin.heldDown = 2 then s
        else
          let s := { s with twin := { s.twin with heldDown := 0 } }
          if (s.fltInst 152 0).cond then s else s.setEligible true
      else
        let code := if !holdOk then 3 else if !lanesOk then 4 else 5
        let s := (s.setFld Reg.TWIN_STAT 11 9 code).bump Reg.TWIN_TRIAL_FAIL
        ({ s with twin := { s.twin with trialFailAt := some s.clk } }).raiseOnce 151 0 code
    else s

/-- The trial is repeated every 60 s after a failure (R282). -/
def execSeaTrialRetry (dt : Nat) (s : State) : Host.Outcome State Fault Refusal :=
  act dt s fun s =>
    match s.twin.trialFailAt with
    | some c => if s.elapsed c (sec 60) then s.trialStart else s
    | none => s

/-- The twin's digest has been read through the Ferry, as it is when heartbeats resume (R283). -/
def execDigestCheck (dt digest : Nat) (s : State) : Host.Outcome State Fault Refusal :=
  act dt s fun s =>
    if s.twinOn ∧ s.twin.digestDue then
      let s := ({ s with twin := { s.twin with digestDue := false } }).setPair Reg.TWIN_PEER_DIGEST digest
      if s.pair Reg.TWIN_PEER_DIGEST = s.pair Reg.TWIN_DIGEST then
        let s := (s.setFld Reg.TWIN_STAT 7 7 1).condClear 152 0
        if s.fld Reg.TWIN_STAT 11 9 = 2 ∧ s.twin.heldDown = 0 then s.setEligible true else s
      else
        let s := if s.role = 1 then s else s.setEligible false
        (s.setFld Reg.TWIN_STAT 7 7 0).raiseOnce 152 0
    else s

/-- The Lead's ambient target, from its effective tally, while the Escort follows ambient light (R157, R158). -/
def State.ambientMirror (s : State) (tally target : Nat) : State :=
  let c := s.rn Reg.CAL_AMB_CFG
  if bit c 0 then (s.wn Reg.CAL_BRIGHT_TARGET target).startRamp target (bits c 31 16) tally else s

/-- A mirrored input is held until its tally, an ambient target applied to it, and mirroring has resumed (R284). -/
def execMirrorInputReceive (dt tally : Nat) (input : MirrorInput) (s : State) : Host.Outcome State Fault Refusal :=
  act dt s fun s =>
    if s.role = 2 then
      let s := match input with
        | .ambient target => s.ambientMirror tally target
        | _ => { s with twin := { s.twin with mirrored := s.twin.mirrored ++ [(tally, input)] } }
      (s.setFld Reg.TWIN_STAT 8 8 1).condClear 153 0
    else s

/-- The heartbeat group is down at an Escort (R284). -/
def execMirrorLost (dt : Nat) (s : State) : Host.Outcome State Fault Refusal :=
  act dt s fun s =>
    if s.role = 2 ∧ s.heartbeatUp = false then (s.setFld Reg.TWIN_STAT 8 8 0).raiseOnce 153 0 else s

end Sys2Proof.Machine
end

