-- ==== Sys2Proof/Machine/PowerOps.lean ====
section
/-!
DEFINITION. Power domains, wakes, the watchkeeper's values and rules, and the device's trims (16_power_watch.md).
-/
namespace Sys2Proof.Machine

/-! ### Pins of the always-on island (R478) -/

/-- A word of a rule's configuration (Table 16.6). -/
def State.ruleW0 (s : State) (r : Nat) : Nat := s.rn (Reg.WATCH_RULE (2 * r))
def State.ruleW1 (s : State) (r : Nat) : Nat := s.rn (Reg.WATCH_RULE (2 * r + 1))
def State.rule (s : State) (r : Nat) : WatchRule := tabGetD s.watch.rules r {}

/-- The level of an AONIO pin: forced by WATCH_PIN_CFG, or high while any true rule names it. -/
def State.aonio (s : State) (k : Nat) : Bool :=
  match s.fld Reg.WATCH_PIN_CFG (2 * k + 1) (2 * k) with
  | 1 => false
  | 2 => true
  | _ => (List.range 32).any fun r => (s.rule r).on && bit (s.ruleW1 r) (16 + k)

/-- ALERT_N is low while any true rule has ALERT set, or under R460. -/
def State.alert (s : State) : Bool := s.watch.alertPg || (List.range 32).any fun r => (s.rule r).on && bit (s.ruleW1 r) 13

/-- WATCH_STAT, WATCH_RULE_TRUE and the pins follow the rules. -/
def State.watchSettle (s : State) : State :=
  let was := s.rn Reg.WATCH_STAT
  let s := s.wn Reg.WATCH_RULE_TRUE ((List.range 32).foldl (fun a r => a + if (s.rule r).on then 2 ^ r else 0) 0)
  let s := (List.range 4).foldl (fun s k => s.setFld Reg.WATCH_STAT (1 + k) (1 + k) (s.aonio k).toNat) s
  let s := s.setFld Reg.WATCH_STAT 5 5 s.alert.toNat
  let s := (List.range 4).foldl (fun s k =>
    if bit was (1 + k) = s.aonio k then s else s.emit (.pin "AONIO" k (s.aonio k))) s
  if bit was 5 = s.alert then s else s.emit (.pin "ALERT_N" 0 (!s.alert))

/-! ### Power domains (R457 to R467) -/

def State.setPwrEn (s : State) (b : Bool) : State :=
  ({ s with watch := { s.watch with pwrEn := b, good := s.watch.good && b, pwrAt := s.clk, retryAt := none } }).emit
    (.pin "PWR_EN" 0 b)

/-- VDD_CORE falls: the compute die is reset, and the fault log, its SEQ and the legacy latch are lost (R449, R450); the
first-fault record lives on in its logbook copy (R443). -/
def State.coreFalls (s : State) : State :=
  let s := s.dieReset
  { s with flt := { first := (if s.watch.keeper then s.flt.first else none), test := s.flt.test }, nvm := { s.nvm with copied := 0 } }

/-- Hold loses its contents with its rail: what it holds then is as right after power-good (log entry 4). -/
def State.mainOff (s : State) : State :=
  let s := (s.setPwrEn false).coreFalls
  { s with hold := [], lamp := { supplyOk := false }, watch := { s.watch with rails := 0 } }

/-- The device is in Watch (Table 16.1). -/
def State.inWatch (s : State) : Bool := s.watch.aon && !s.watch.pwrEn

/-- A wake into Run (R460, R461): the logbook takes its cause, and PWR_EN rises. -/
def State.wake (s : State) (cause wakeCause rule : Nat) : State :=
  let s := s.setCause cause wakeCause rule
  (({ s with watch := { s.watch with attempts := 0, alertPg := false } }).setPwrEn true).watchSettle

/-- Steps 1, 2 and 4 of R465: a Lead stands down under D5, outputs take their safe state, and the logbook is written. -/
def State.safeDown (s : State) : State :=
  let s := if s.role = 1 then s.changeRole 9 else s
  let s := { s with time := { s.time with armed := false } }
  (s.emit (.pin "SAFE" 512 true)).keepCheck

/-- Watch is entered from Run or Quiet (R465). -/
def State.watchEnter (s : State) : State := s.safeDown.mainOff

/-- The always-on island stops: its configuration is lost, and with it the drive of PWR_EN (R458, R534). -/
def State.aonOff (s : State) : State :=
  let s := if s.watch.pwrEn then s.mainOff else s
  let s := { s with
    regs := s.regs.filter fun e => !(0x150000 ≤ e.1 && e.1 < 0x160000)
    rsv := { s.rsv with watchFree := true }
    watch := { s.watch with aon := false, alertPg := false, retryAt := none, attempts := 0, vals := [], rules := [], i2cLast := [] } }
  s

/-- Shelf is entered (R466): from Run or Quiet R465 comes first; then KWAKE falls, and only the keeper stays up. -/
def State.shelfEnter (s : State) : State :=
  let s := if s.watch.core then s.watchEnter else if s.watch.pwrEn then s.mainOff else s
  let s := s.aonOff
  ({ s with watch := { s.watch with kwake := false, shelf := true } }).emit (.pin "KWAKE" 0 false)

/-- The compute die leaves reset when RESET_N is high and power is good (R460, R462). -/
def State.tryLeaveReset (s : State) : State :=
  if s.watch.good && s.watch.resetN && !s.watch.core then s.leaveReset else s

/-- A rise of power-good (R460). -/
def State.powerGood (s : State) : State :=
  let s := { s with
    lamp := { s.lamp with supplyOk := true }
    watch := { s.watch with good := true, rails := 127, retryAt := none, attempts := 0 } }
  s.tryLeaveReset

/-! ### Quiet (R463, R489) -/

def State.quietPending (s : State) : Bool := bit (s.rn Reg.PWR_STAT) 9

/-- PWR_CMD 1 and 2: a commit, or ignored and counted when it does not apply (R489). -/
def State.quietCmd (s : State) (req : Requester) (enter : Bool) (cue : Option Nat := none) : State :=
  if (enter && (s.quiet || s.quietPending)) || (!enter && !s.quiet && !s.quietPending) then
    s.accErr req Reg.PWR_CMD true false
  else
    let s := if enter then s.setFld Reg.PWR_STAT 9 9 1 else s
    s.submit (.quiet enter) true cue

/-- PWR_CMD 3 and 4 act in Run and Quiet, where a command can arrive (R465, R466). -/
def State.pwrCmd (s : State) (req : Requester) (v : Nat) (cue : Option Nat := none) : State :=
  if bits v 31 16 ≠ 0x4F61 then s.accErr req Reg.PWR_CMD true true
  else match bits v 2 0 with
    | 1 => s.quietCmd req true cue
    | 2 => s.quietCmd req false cue
    | 3 => s.watchEnter
    | 4 => s.shelfEnter
    | _ => s

/-- A Quiet commit takes effect: QUIET, with the entry counted; on leaving, every tile receives every packet (R185). -/
def State.quietApply (s : State) (enter : Bool) : State :=
  let s := (s.setFld Reg.PWR_STAT 0 0 enter.toNat).setFld Reg.PWR_STAT 9 9 0
  let was := s.scan.entries
  let s := if enter then s.bump Reg.PWR_QUIET_ENTER else
    was.foldl (fun s e => s.setEntry e.1 { e.2 with held := false, run := 0, heldFor := 0 }) s
  let n := (s.scan.entries.filter fun e => e.2.present).length
  if enter then (s.setFld Reg.SCAN_STAT 24 24 1).setFld Reg.SCAN_STAT 23 12 n else s.scanSettle

/-! ### The keeper (R480 to R482) -/

def State.rtcSec (s : State) : Nat := s.rtcNs / 10 ^ 9

/-- The alarm second, and whether it is armed (KEEP_ALARM). -/
def State.alarmSec (s : State) : Nat := s.rn Reg.KEEP_ALARM + 2 ^ 32 * bits (s.rn (Reg.KEEP_ALARM + 4)) 1 0
def State.alarmArmed (s : State) : Bool := bit (s.rn (Reg.KEEP_ALARM + 4)) 31

/-- The alarm armed at a second; 0 disarms (R482). -/
def State.armAlarm (s : State) (t : Nat) : State :=
  (s.wn Reg.KEEP_ALARM t).wn (Reg.KEEP_ALARM + 4) (bits t 33 32 + 2 ^ 31 * (decide (t ≠ 0)).toNat)

/-- A write of KEEP_ALARM_HI arms the alarm at the second held in both words (R482). -/
def State.alarmWrite (s : State) (req : Requester) (v : Nat) : State :=
  let s := s.pairTake req Reg.KEEP_ALARM
  s.armAlarm (s.rn Reg.KEEP_ALARM + 2 ^ 32 * bits v 1 0)

/-- A USER word of the logbook, words 16 to 61 (Table 16.13). -/
def State.logWrite (s : State) (i v : Nat) : State := if 16 ≤ i ∧ i ≤ 61 then s.keepWrite i [v] else s

/-! ### Watchkeeper values (R473 to R476) -/

def State.wval (s : State) (v : Nat) : WatchVal := tabGetD s.watch.vals v {}

/-- The sample instant, in units of 2⁻ᵏ s, of ledger time in Run and Quiet and of RTC time in Watch (R473). -/
def State.sampleIdx (s : State) (k : Nat) : Bool × Nat :=
  (s.watch.core, (if s.watch.core then s.ns else s.rtcNs) * 2 ^ k / 10 ^ 9)

def insertNat (x : Nat) : List Nat → List Nat
  | [] => [x]
  | y :: ys => if x ≤ y then x :: y :: ys else y :: insertNat x ys

/-- The median of an odd number of samples. -/
def medianOf (l : List Nat) : Nat := (l.foldr insertNat []).getD (l.length / 2) 0

/-- The filter of R475 over a valid sample x: FILT in [4:3], K − 1 in [7:5]. -/
def filterStep (cfg : Nat) (w : WatchVal) (x : Nat) : WatchVal :=
  let seen := (x :: w.seen).take 5
  let k := bits cfg 7 5 + 1
  let y := match w.y with
    | none => 256 * x
    | some y => ((y : Int) + ((256 * x : Nat) - (y : Int)) / (2 ^ k : Nat)).toNat
  let med := fun n => if n ≤ seen.length then medianOf (seen.take n) else x
  let out := match bits cfg 4 3 with
    | 0 => x
    | 1 => med 3
    | 2 => med 5
    | _ => (y + 128) / 256
  { w with raw := x, valid := true, seen := seen, y := (if bits cfg 4 3 = 3 then some y else w.y)
           filtered := out, hist := (out :: w.hist).take 64 }

/-- WATCH_VAL of a value. -/
def State.setWval (s : State) (v : Nat) (w : WatchVal) : State :=
  ({ s with watch := { s.watch with vals := tabSet s.watch.vals v w } }).wn (Reg.WATCH_VAL v)
    (w.filtered + 4096 * w.valid.toNat + 65536 * w.raw)

/-! ### Rules (R477, R478) -/

/-- Whether a sample x meets a rule's condition, and its release; none for a rise or fall still short of SPAN samples. -/
def ruleTest (w0 w1 : Nat) (hist : List Nat) : Option (Bool × Bool) :=
  let x : Int := (hist.getD 0 0 : Nat)
  let th : Int := (bits w0 19 8 : Nat)
  let hy : Int := (bits w0 31 20 : Nat)
  let span := bits w1 9 4
  match bits w0 7 6 with
  | 0 => some (decide (th ≤ x), decide (x < th - hy))
  | 1 => some (decide (x ≤ th), decide (th + hy < x))
  | kind =>
    if span < hist.length then
      let old : Int := (hist.getD span 0 : Nat)
      let d := if kind = 2 then x - old else old - x
      some (decide (th ≤ d), decide (d < th - hy))
    else none

/-- A rule over a sample: DEBOUNCE consecutive samples turn it. -/
def ruleStep (w0 w1 : Nat) (hist : List Nat) (r : WatchRule) : WatchRule :=
  match ruleTest w0 w1 hist with
  | none => r
  | some (met, rel) =>
    if (if r.on then rel else met) then
      if bits w1 3 0 ≤ r.count + 1 then ⟨!r.on, 0⟩ else { r with count := r.count + 1 }
    else { r with count := 0 }

/-- The rules of a value active in this state. -/
def State.rulesOf (s : State) (v : Nat) : List Nat :=
  (List.range 32).filter fun r => bits (s.ruleW0 r) 5 0 == v && bit (s.ruleW1 r) (if s.inWatch then 11 else 10)
    && decide (1 ≤ bits (s.ruleW1 r) 3 0)

/-- Rules that became true act: SCHED arms the alarm unless an earlier one is armed; SHELF enters Shelf, and discards and
counts wakes, a due alarm among them; WAKE acts only in Watch (R466, R478). Service mode changes no PWR_EN (R499). -/
def State.rulesAct (s : State) (now : List Nat) : State :=
  let s := (now.filter fun r => bit (s.ruleW1 r) 14).foldl (fun s _ =>
    let t := s.rtcSec + s.fld Reg.WATCH_SCHED_DELAY 19 0
    if s.alarmArmed && decide (s.alarmSec ≤ t) then s else s.armAlarm t) s
  let wakes := if s.inWatch then now.filter fun r => bit (s.ruleW1 r) 12 else []
  if now.any fun r => bit (s.ruleW1 r) 15 then
    if bit (s.rn Reg.SVC_STAT) 6 then s
    else
      let alarm := s.inWatch && s.alarmArmed && decide (s.alarmSec ≤ s.rtcSec)
      ((if alarm then s.armAlarm 0 else s).bumpBy Reg.WATCH_WAKE_DROP (wakes.length + alarm.toNat)).shelfEnter
  else match wakes with
    | r :: _ => (s.bump Reg.WATCH_WAKES).wake 7 1 r
    | [] => s

/-- The rules of a value evaluated over its newest filtered sample. -/
def State.rulesEval (s : State) (v : Nat) : State :=
  let rs := s.rulesOf v
  let hist := (s.wval v).hist
  let new := rs.map fun r => (r, ruleStep (s.ruleW0 r) (s.ruleW1 r) hist (s.rule r))
  let now := (new.filter fun e => e.2.on && !(s.rule e.1).on).map (·.1)
  let t := new.foldl (fun (t : Tab WatchRule) e => tabSet t e.1 e.2) s.watch.rules
  let s := ({ s with watch := { s.watch with rules := t } }).watchSettle
  s.rulesAct now

/-- Thermal warning and limit, on the die temperature (Table 16.10, R540): 120 °C is code 2,944. -/
def State.thermal (s : State) (code : Nat) : State :=
  let s := if 2944 ≤ code then s.raiseOnce 260 0 code else if code < 2864 then s.condClear 260 0 else s
  if 3104 ≤ code then s.raiseOnce 261 0 code else if code < 2944 then s.condClear 261 0 else s

/-- A sample of a value: filtered when valid, compared and evaluated (R475, R477). -/
def State.sampleValue (s : State) (v code : Nat) (valid : Bool) : State :=
  let cfg := s.rn (Reg.WATCH_VAL_CFG v)
  if !valid then s.setWval v { s.wval v with valid := false }
  else
    let w := filterStep cfg (s.wval v) (min 4095 code)
    let s := s.setWval v w
    let s := if s.watch.core && v == 8 then s.thermal w.filtered else s
    let s := if s.watch.core && decide (v < watchValues) then s.watchInput v w.filtered else s
    s.rulesEval v

/-- The code of a value: for the die temperature that of the hottest of the thermal sensors (R540). -/
def dieCode (v code : Nat) (sensors : List Nat) : Nat := if v = 8 then sensors.foldl max code else code

/-- A sample at a sample instant of an enabled value (R473); values 12 to 18 are not valid in Watch (Table 16.4). -/
def State.watchSample (s : State) (v code : Nat) (valid : Bool) : State :=
  let cfg := s.rn (Reg.WATCH_VAL_CFG v)
  let idx := s.sampleIdx (bits cfg 2 0)
  if !s.watch.aon || !bit cfg 8 || (s.wval v).last == some idx then s
  else
    let s := s.setWval v { s.wval v with last := some idx }
    s.sampleValue v code (valid && (!s.inWatch || v < 12))

/-! ### I²C slots (R476) -/

def State.i2cWord (s : State) (slot j : Nat) : Nat := s.rn (Reg.WATCH_I2C (4 * slot + j))

/-- Field j of a slot: POS, SIGNED and VALID (Table 16.5). -/
def State.i2cField (s : State) (slot j : Nat) : Nat :=
  bits (s.i2cWord slot (2 + j / 2)) (16 * (j % 2) + 15) (16 * (j % 2))

/-- What a slot's script sends, in its order (R476): the clock in kHz, ADDR, the bytes of CMD, WAIT in ms, the bytes of PTR, each
run after its number, and READ_LEN. -/
def State.i2cScript (s : State) (slot : Nat) : List Nat :=
  let w0 := s.i2cWord slot 0
  let w1 := s.i2cWord slot 1
  let run := fun n hi => n :: [bits w1 (hi + 15) (hi + 8), bits w1 (hi + 7) hi].take n
  [if bit (s.rn Reg.WATCH_PIN_CFG) 8 then 400 else 100, bits w0 6 0] ++ run (bits w0 9 8) 0 ++ [bits w0 23 16] ++ run (bits w0 11 10) 16
    ++ [bits w0 14 12]

/-- A slot's script has run: its valid fields are sampled from the READ_LEN bytes read, or invalidated when it failed. -/
def State.i2cRun (s : State) (slot : Nat) (bytes : Option (List Byte)) : State :=
  let w0 := s.i2cWord slot 0
  let idx := s.sampleIdx (bits w0 26 24)
  if !s.watch.aon || !bit w0 7 || tabGet? s.watch.i2cLast slot == some idx then s
  else
    let s := { s with watch := { s.watch with i2cLast := tabSet s.watch.i2cLast slot idx } }
    let s := s.send "I2C" slot (s.i2cScript slot)
    let fields := (List.range 4).filter fun j => bit (s.i2cField slot j) 6
      && bit (s.rn (Reg.WATCH_VAL_CFG (20 + 4 * slot + j))) 8
    match bytes.filter fun b => b.length == bits w0 14 12 with
    | none =>
      let s := fields.foldl (fun s j => s.sampleValue (20 + 4 * slot + j) 0 false) (s.bump Reg.WATCH_I2C_FAIL)
      if s.watch.core then s.raiseSec 267 slot else s
    | some bs =>
      let r := beNat bs
      let s := if s.watch.core then s.condClear 267 slot else s
      fields.foldl (fun s j =>
        let f := s.i2cField slot j
        let x := r / 2 ^ bits f 4 0 % 4096
        s.sampleValue (20 + 4 * slot + j) (if bit f 5 then (x + 2048) % 4096 else x) true) s

/-! ### Writes of the WATCH and KEEP blocks (R489) -/

/-- A rule starts false when its configuration is written (R477). -/
def State.ruleClear (s : State) (r : Nat) : State :=
  ({ s with watch := { s.watch with rules := tabErase s.watch.rules r } }).watchSettle

/-- Whether a word written to a WATCH register has its fields in range. -/
def State.watchOk (s : State) (a v : Nat) : Bool :=
  let o := a - 0x150000
  if o = 8 then decide (1 ≤ bits v 19 0 ∧ bits v 19 0 ≤ 1000000)
  else if o = 0xC then (List.range 4).all fun k => bits v (2 * k + 1) (2 * k) != 3
  else if 0x200 ≤ o ∧ o < 0x290 then decide (bits v 2 0 ≤ 6)
  else if 0x400 ≤ o ∧ o < 0x500 ∧ o % 8 = 4 then
    decide (1 ≤ bits v 3 0) && (decide (bits (s.rn (a - 4)) 7 6 < 2) || decide (1 ≤ bits v 9 4))
  else if 0x800 ≤ o ∧ o < 0x840 ∧ o % 16 = 0 then
    decide (bits v 9 8 ≤ 2 ∧ bits v 11 10 ≤ 2 ∧ 1 ≤ bits v 14 12 ∧ bits v 14 12 ≤ 4 ∧ bits v 26 24 ≤ 6)
  else if 0x800 ≤ o ∧ o < 0x840 ∧ 8 ≤ o % 16 then decide (bits v 4 0 ≤ 20 ∧ bits v 20 16 ≤ 20)
  else true

/-- A word written to a WATCH register: ignored as a whole and counted when a field is out of range. -/
def State.watchWrite (s : State) (req : Requester) (a v : Nat) : State :=
  if !s.watchOk a v then s.accErr req a true false
  else
    let s := s.wn a v
    if 0x150400 ≤ a ∧ a < 0x150500 then s.ruleClear ((a - 0x150400) / 8)
    else if a = Reg.WATCH_PIN_CFG then s.watchSettle else s

/-! ### Trims (R483 to R487) -/

def State.trim (s : State) (i : Nat) : Trim := tabGetD s.watch.trims i {}

/-- Trims that a part without the lamp die does not run (R484). -/
def State.trimAbsent (s : State) (i : Nat) : Bool := !s.lampDie && (decide (1 ≤ i ∧ i ≤ 8) || decide (13 ≤ i ∧ i ≤ 76))

def trimLimit (c : Nat) : Bool := c == 0 || c == 255

/-- PWR_TRIM_STAT [2] and [15:8]. -/
def State.trimSettle (s : State) : State :=
  let n := ((List.range 130).filter fun i => !s.trimAbsent i && trimLimit (s.trim i).code).length
  (s.setFld Reg.PWR_TRIM_STAT 2 2 (!s.watch.refBad).toNat).setFld Reg.PWR_TRIM_STAT 15 8 n

/-- A trim takes a code, the trim-limit fault following it (R485). -/
def State.setTrim (s : State) (i c : Nat) : State :=
  let s := { s with watch := { s.watch with trims := tabSet s.watch.trims i { code := c, moved := some s.clk, wait := none } } }
  let s := if trimLimit c then s.raiseOnce 263 i c else s.condClear 263 i
  s.trimSettle

/-- A trim measured off its reference moves by one code, at most once per 100 ms and not while the references are out of
limits; a sense-amplifier trim waits for a PWM period (R484, R485). -/
def State.trimAdjust (s : State) (i : Nat) (up : Option Bool) : State :=
  let t := s.trim i
  let soon := t.moved.any fun c => !s.elapsed c (ms 100)
  match up with
  | none => s
  | some b =>
    if s.trimAbsent i || s.watch.refBad || soon then s
    else
      let c := if b then min 255 (t.code + 1) else t.code - 1
      if 13 ≤ i ∧ i ≤ 76 then { s with watch := { s.watch with trims := tabSet s.watch.trims i { t with wait := some c } } }
      else s.setTrim i c

/-- Sense-amplifier trims that wait change at a PWM period start. -/
def State.trimsAtPeriod (s : State) : State :=
  s.watch.trims.foldl (fun s e => match e.2.wait with
    | some c => if s.watch.refBad then s else s.setTrim e.1 c
    | none => s) s

/-- REFIN in 0.1 mV and RREF in Ω checked (R485). -/
def State.refCheck (s : State) (refin rref : Nat) : State :=
  let a := decide (24500 ≤ refin ∧ refin ≤ 25500)
  let b := decide (9800 ≤ rref ∧ rref ≤ 10200)
  let s := s.wn Reg.PWR_REF_MEAS (min 65535 refin + 65536 * min 65535 rref)
  let s := s.setFld Reg.PWR_TRIM_STAT 1 0 (a.toNat + 2 * b.toNat)
  if a && b then
    let since := s.watch.refOkSince.getD s.clk
    let s := { s with watch := { s.watch with refOkSince := some since } }
    if s.watch.refBad && s.elapsed since (sec 1) then
      (({ s with watch := { s.watch with refBad := false } }).condClear 262 0).trimSettle
    else s.trimSettle
  else (({ s with watch := { s.watch with refBad := true, refOkSince := none } }).raiseOnce 262 0 refin).trimSettle

/-- The copy with the greater SEQ of two, and whether it is copy B. -/
def newerCopy (a b : Option TrimCopy) : Option (TrimCopy × Bool) :=
  match a, b with
  | some a, some b => if a.seq < b.seq then some (b, true) else some (a, false)
  | some a, none => some (a, false)
  | none, some b => some (b, true)
  | none, none => none

/-- The field copy to load: of the valid ones of this device, that with the greater SEQ (R486). -/
def State.fieldCopy (s : State) : Option (TrimCopy × Bool) :=
  let own := fun (c : TrimCopy) => c.dev == s.nvm.otp.uid
  newerCopy (s.nvm.trimA.filter own) (s.nvm.trimB.filter own)

/-- Factory and field trims loaded at a reset (R486). -/
def State.loadTrims (s : State) : State :=
  let fac := s.nvm.otp.trims.getD (List.replicate 130 128)
  let field : Option (TrimCopy × Bool) := s.fieldCopy
  let codes := (field.map fun (c : TrimCopy × Bool) => c.1.codes).getD fac
  let s := { s with watch := { s.watch with
    loaded := (field.map fun (c : TrimCopy × Bool) => c.1.codes).getD [], trims := codes.mapIdx fun i c => (i, { code := c }) } }
  let s := if s.nvm.otp.trims.isNone then s.raise 264 0 else s
  let s := if field.isNone then s.raise 265 0 else s
  let s := s.setFld Reg.PWR_TRIM_STAT 5 3 (s.nvm.otp.trims.isSome.toNat + 2 * field.isSome.toNat
    + 4 * (field.any fun (c : TrimCopy × Bool) => c.2).toNat)
  s.trimSettle

/-- PWR_TRIM_VAL of the trim in PWR_TRIM_SEL. -/
def State.trimVal (s : State) : Nat :=
  let i := s.fld Reg.PWR_TRIM_SEL 7 0
  if s.trimAbsent i ∨ 130 ≤ i then 0
  else
    let c := (s.trim i).code
    c + 256 * (s.nvm.otp.trims.getD []).getD i 128 + 65536 * s.watch.loaded.getD i 0 + 2 ^ 24 * (trimLimit c).toNat

/-- The copy with the lesser SEQ written when a trim differs by 2 codes or more from the loaded copy, at most once per
hour and not during a brownout warning; an interrupted write leaves that copy invalid (R487). -/
def State.trimSave (s : State) (whole : Bool) : State :=
  let codes := (List.range 130).map fun i => (s.trim i).code
  let moved := s.watch.loaded.isEmpty || (List.range 130).any fun i => decide (2 ≤ absDiff (codes.getD i 0) (s.watch.loaded.getD i 0))
  let soon := s.watch.savedAt.any fun c => !s.elapsed c (sec 3600)
  if !moved || soon || s.watch.warnAt.isSome then s
  else
    let (seq, useB) := match newerCopy s.nvm.trimA s.nvm.trimB with
      | some (c, b) => (c.seq + 1, !b)
      | none => (1, false)
    let copy := if whole then some ⟨seq, s.nvm.otp.uid, codes⟩ else none
    let s := { s with nvm := if useB then { s.nvm with trimB := copy } else { s.nvm with trimA := copy } }
    let s := match copy with
      | some c => s.program (if useB then 0x28000 else 0x20000) c.bytes
      | none => s
    if whole then
      let s := { s with watch := { s.watch with loaded := codes, savedAt := some s.clk } }
      (s.bump Reg.PWR_TRIM_WRITES).setFld Reg.PWR_TRIM_STAT 5 4 (1 + 2 * useB.toNat)
    else s

end Sys2Proof.Machine
end

