-- ==== Sys2Proof/Machine/CueOps.lean ====
section
/-!
DEFINITION. Cues: their records, due times, states, cancellation and timecode resolution (13_berths_cues.md, R384 to R397,
R547).
-/
namespace Sys2Proof.Machine

/-! ### Records (Table 13.4) -/

def cWord (c : Cue) (i : Nat) : Nat := c.words.getD i 0
def cKind (c : Cue) : Nat := bits (cWord c 0) 2 0
def cAlign (c : Cue) : Bool := bit (cWord c 0) 3
def cLate (c : Cue) : Bool := bit (cWord c 0) 4
def cProceed (c : Cue) : Bool := bit (cWord c 0) 5
def cNdep (c : Cue) : Nat := bits (cWord c 0) 8 6
def cAction (c : Cue) : Nat := bits (cWord c 0) 11 9
def cList (c : Cue) : Nat := cWord c 1
def cLabel (c : Cue) : Nat := cWord c 4
def cDeps (c : Cue) : List Nat := (c.words.drop 5).take (cNdep c)
def cArg0 (c : Cue) : Nat := cWord c 9
def cAddr (c : Cue) : Nat := cWord c 9 + 2 ^ 32 * cWord c 10
def cFinal (c : Cue) : Bool := decide (3 ≤ c.state)

def State.cueAt (s : State) (i : Nat) : Cue := tabGetD s.cues.slots i { words := [], gen := 0, state := 0 }

/-- Pending cues by slot, ascending: those WAITING or READY. -/
def State.pendingCues (s : State) : List (Nat × Cue) := s.cues.slots.filter fun e => e.2.state == 1 || e.2.state == 2

def State.setCue (s : State) (i : Nat) (c : Cue) : State :=
  let s := { s with cues := { s.cues with slots := tabSet s.cues.slots i c } }
  s.wn Reg.CUE_PENDING s.pendingCues.length

/-- The ID of a slot's cue (R384). -/
def State.cueId (s : State) (i : Nat) : Nat := (s.cueAt i).gen * 65536 + i

/-- The slot a cue ID names; none when stale. -/
def State.cueSlot (s : State) (id : Nat) : Option Nat :=
  let i := bits id 11 0
  if bits id 15 12 = 0 ∧ 0 < bits id 31 16 ∧ (s.cueAt i).gen = bits id 31 16 then some i else none

/-! ### Due times (R387) -/

/-- Registers whose write is a commit (R123 and the registers other chapters place under R124 to R129). -/
def commitReg (a : Nat) : Bool :=
  let o := a % 65536
  match a / 65536 with
  | 6 => decide (0x400 ≤ o ∧ o < 0x2400) && (o % 256 == 0x20 || o % 256 == 0x28)
  | 7 => o == 0x50 || (decide (0x1000 ≤ o ∧ o < 0x2000) && (o % 64 == 0x24 || o % 64 == 0x30))
  | 8 => o == 0 || o == 0x10 || o == 0x44
  | 9 => o == 0 || o == 4 || o == 0x18 || (decide (0x400 ≤ o ∧ o < 0x580) && o % 16 == 0)
  | 0xA => o == 0x10 || o == 0x1C
  | 0xB => o == 8 || decide (0x2000 ≤ o ∧ o < 0x3000)
  | 0xD => decide (0x2000 ≤ o ∧ o < 0x2200) && decide (0xC ≤ o % 64 ∧ o % 64 ≤ 0x20)
  | 0x14 => o == 4
  | _ => false

/-- The cue's action is a commit (R387): a local write of such a register, or a destroy. -/
def cCommit (c : Cue) : Bool := (cAction c == 1 && fClass (cAddr c) == 0 && commitReg (fOffset (cAddr c))) || cAction c == 2

/-- The first tally whose governing edge is still ahead (R127). -/
def State.tallyAhead (s : State) : Nat := s.effOf s.ns

/-- The moment at which a cue is due, in ns, for the due tally it has (R387); none while a timecode is unresolved. -/
def State.cueMoment (s : State) (c : Cue) : Option Nat :=
  if cKind c = 3 ∧ c.dueNs.isNone then none
  else if cAlign c then some (if cCommit c then s.governing c.dueTally else s.tp c.dueTally)
  else match cKind c with
    | 0 => some 0
    | 2 => some (s.tp c.dueTally)
    | _ => c.dueNs

/-- The first tally n with Tp(n) at or after a time (R387). -/
def State.tallyAt (s : State) (ns : Nat) : Nat := firstTally s.rate ns

/-! ### Ends, dependants and lateness (R386, R388, R392) -/

/-- What remains to be done to a cue: it ends in a state with the cue that caused it, or its dependences are satisfied. -/
inductive CueTask where
  | finish (slot state cause : Nat)
  | arm (slot : Nat)
  deriving DecidableEq, Repr

/-- The counter of a final state (Table 13.8). -/
def cueCounter (state : Nat) : Nat :=
  match state with
  | 3 => Reg.CUE_EXECUTED
  | 4 => Reg.CUE_CANCELLED
  | 5 => Reg.CUE_MISSED
  | _ => Reg.CUE_STALE

/-- A cue takes a final state: counted, stamped, its slot free after those freed before it, and reported when the list's
REPORT is set. -/
def State.cueEnd (s : State) (i state cause : Nat) : State :=
  let c := s.cueAt i
  let s := s.setCue i { c with state := state, cause := cause, at64 := s.now64, atFrac := s.frac }
  let s := ({ s with cues := { s.cues with freed := s.cues.freed ++ [i] } }).bump (cueCounter state)
  if s.live (cList c) && (s.berth (hIndex (cList c))).params.getD 0 0 == 1 then
    s.notify 0x20 0 (s.cueId i) [state, cLabel c, c.dueTally % 2 ^ 32]
  else s

/-- Each dependant of a cue that ended loses a dependence or is cancelled (R386, R392). -/
def State.cueRelease (s : State) (id state : Nat) : State × List CueTask :=
  (s.pendingCues.filter fun e => e.2.state == 1 && (cDeps e.2).contains id).foldl (fun (p : State × List CueTask) e =>
    if state = 3 ∨ cProceed e.2 = true then
      let n := e.2.counter - ((cDeps e.2).filter (· == id)).length
      (p.1.setCue e.1 { e.2 with counter := n }, if n = 0 then p.2 ++ [.arm e.1] else p.2)
    else (p.1, p.2 ++ [.finish e.1 4 id])) (s, [])

/-- A cue whose dependences are satisfied takes its due tally, and is judged late when its moment has passed (R387, R388):
true when it is missed. -/
def State.cueArm (s : State) (i : Nat) : State × Bool :=
  let c := s.cueAt i
  let c := { c with dueTally := (match cKind c with
    | 0 => s.tallyAhead
    | 2 => c.dueTally
    | _ => (c.dueNs.map s.tallyAt).getD 0) }
  match s.cueMoment c with
  | none => (s.setCue i c, false)
  | some m =>
    let late := if cKind c = 0 ∧ !cAlign c then false
      else if cAlign c ∧ cCommit c then decide (m + 1 < s.ns) else decide (m < s.ns)
    if !late then (s.setCue i c, false)
    else if cLate c then (s.setCue i c, true)
    else
      let c := { c with
        lateActed := true, crossed := true
        dueTally := (if cAlign c then s.tallyAhead else c.dueTally) }
      ((s.setCue i c).bump Reg.CUE_LATE, false)

/-- Tasks carried out in order, each cue's dependants after it, all in one clock. -/
def State.cueTasks : Nat → List CueTask → State → State
  | 0, _, s => s
  | _, [], s => s
  | n + 1, .finish i st cause :: ts, s =>
    if cFinal (s.cueAt i) then State.cueTasks n ts s
    else
      let (s, more) := (s.cueEnd i st cause).cueRelease (s.cueId i) st
      State.cueTasks n (ts ++ more) s
  | n + 1, .arm i :: ts, s =>
    let (s, missed) := s.cueArm i
    State.cueTasks n (if missed then .finish i 5 0 :: ts else ts) s

def State.cueRun (s : State) (ts : List CueTask) : State := State.cueTasks 20000 ts s

def State.cueFinish (s : State) (i st : Nat) (cause : Nat := 0) : State := s.cueRun [.finish i st cause]

/-! ### Create (R384, R385, R547) -/

/-- A timecode that DUE_LO may name at the rate that TIME_LTC_STAT reports, drop-frame numbers accepted while it is 0
(R547). -/
def State.dueCodeOk (s : State) (code : Nat) : Bool :=
  let r := s.fld Reg.TIME_LTC_STAT 3 1
  tcValid (if r = 0 then 5 else r) code

/-- The status of a create's record: 6 for a ledger time that R13 calls malformed, 7 invalid, 1 a stale dependency, 8 no
resources. -/
def State.cueCheck (s : State) (c : Cue) : Nat :=
  let lst := cList c
  if malformed lst || !s.live lst || hKind lst != 9 then 7
  else if 3 < cKind c ∨ 4 < cNdep c ∨ 3 < cAction c then 7
  else if cKind c = 1 ∧ !ledgerOk (cWord c 2 + 2 ^ 32 * cWord c 3) then 6
  else if cKind c = 3 ∧ (!s.dueCodeOk (cWord c 2) ∨ 10000000 < cWord c 3) then 7
  else if cAction c = 1 ∧ (fMalformed (cAddr c) || (cWord c 13 != 0 && malformed (cWord c 13))) then 7
  else if cAction c = 2 ∧ malformed (cArg0 c) then 7
  else if (cDeps c).any fun d => (s.cueSlot d).isNone then 1
  else
    let n := s.pendingCues.length
    let mine := (s.pendingCues.filter fun e => cList e.2 == lst).length
    if 4096 ≤ n ∨ (s.berth (hIndex lst)).params.getD 1 4096 ≤ mine then 8 else 0

/-- The free slot whose cue completed longest ago (R384). -/
def State.freeSlot (s : State) : Nat :=
  match (List.range 4096).find? fun i => (tabGet? s.cues.slots i).isNone with
  | some i => i
  | none => s.cues.freed.headD 0

/-- A create: its status, the cue's ID and the state. -/
def State.cueCreate (s : State) (ws : List Nat) : Nat × Nat × State :=
  let c : Cue := { words := ws, gen := 0 }
  match s.cueCheck c with
  | 0 =>
    let i := s.freeSlot
    let g := (s.cueAt i).gen
    let left := (cDeps c).filter fun d => (s.cueSlot d).any fun k => !cFinal (s.cueAt k)
    let bad := (cDeps c).find? fun d => (s.cueSlot d).any fun k => decide (4 ≤ (s.cueAt k).state) && !cProceed c
    let c := { c with
      gen := (if g = 65535 then 1 else g + 1), counter := left.length, made := s.ns
      dueNs := (if cKind c = 1 then some (ofLedger (cWord c 2 + 2 ^ 32 * cWord c 3)) else none)
      dueTally := (if cKind c = 2 then cWord c 2 + 2 ^ 32 * bits (cWord c 3) 15 0 else 0) }
    let s := ({ s with cues := { s.cues with freed := s.cues.freed.filter (· != i) } }).setCue i c
    let id := s.cueId i
    match bad with
    | some d => (0, id, s.cueFinish i 4 d)
    | none => (0, id, if left.isEmpty then s.cueRun [.arm i] else s)
  | e => (e, 0, s)

/-! ### Cancel and query (R391, R392) -/

/-- A cue a cancel of now still stops: waiting, or READY in this very clock. -/
def State.cancels (s : State) (c : Cue) : Bool := c.state == 1 || (c.state == 2 && c.readyClk == s.clk)

/-- A cancel: its status, the final state of a cue already complete, and the state. -/
def State.cueCancel (s : State) (id : Nat) : Nat × Nat × State :=
  match s.cueSlot id with
  | none => (1, 0, s)
  | some i =>
    let c := s.cueAt i
    if cFinal c then (0, c.state, s)
    else if s.cancels c then (0, 0, s.cueFinish i 4)
    else (9, 0, s)

/-- A cancel of a list: its pending cues in ascending slot order, and how many cues were cancelled. -/
def State.cueCancelList (s : State) (h : Nat) : Nat × State :=
  let t := (s.pendingCues.filter fun e => cList e.2 == h && s.cancels e.2).foldl (fun s e => s.cueFinish e.1 4) s
  (t.pair Reg.CUE_CANCELLED - s.pair Reg.CUE_CANCELLED, t)

/-- CUE_VIEW of a cue (Table 13.8). -/
def State.cueView (s : State) (i : Nat) : State :=
  let c := s.cueAt i
  let s := s.wrWords (Reg.CUE_VIEW 0) c.words
  let s := (s.wn Reg.CUE_VIEW_STAT (c.state + 8 * c.counter + 64 * c.lateActed.toNat)).setPair Reg.CUE_VIEW_AT c.at64
  (s.wn Reg.CUE_VIEW_TALLY c.dueTally).wn Reg.CUE_VIEW_CAUSE c.cause

/-! ### CUE_CMD (R397, Table 13.9) -/

/-- RESULT of CUE_RESULT for a status of Table 14.5. -/
def cueResult (status : Nat) : Nat :=
  match status with
  | 0 => 1
  | 1 => 2
  | 8 => 4
  | 9 => 5
  | _ => 3

def State.setCueResult (s : State) (status final id : Nat) : State :=
  (s.wn Reg.CUE_RESULT (cueResult status + 16 * final)).wn Reg.CUE_RESULT_ID id

def State.cueCmd (s : State) (req : Requester) (v : Nat) : State :=
  let arg := s.rn Reg.CUE_ARG
  if bits v 31 16 ≠ 0x7E1D then s.accErr req Reg.CUE_CMD true true
  else match bits v 2 0 with
  | 1 =>
    let (e, id, s) := s.cueCreate (s.rdWords (Reg.CUE_NEW 0) 16)
    s.setCueResult e 0 id
  | 2 =>
    let (e, f, s) := s.cueCancel arg
    s.setCueResult e f arg
  | 3 =>
    if malformed arg || hKind arg != 9 then s.setCueResult 7 0 0
    else if s.live arg then ((s.cueCancelList arg).2).setCueResult 0 0 0
    else (s.staleDelivery arg (portOf req)).setCueResult 1 0 0
  | 4 => match s.cueSlot arg with
    | some i => (s.cueView i).setCueResult 0 0 arg
    | none => s.setCueResult 1 0 arg
  | _ => s

/-! ### The same commands in messages (Table 14.3) -/

def State.opCueCreate (s : State) (d : Door) (ws : List Nat) : State :=
  match d with
  | .regs r => (s.wrWords (Reg.CUE_NEW 0) ws).cueCmd r 0x7E1D0001
  | _ =>
    let (e, id, s) := s.cueCreate ws
    s.respond d 0x30 e (beBytes 4 id)

def State.opCueCancel (s : State) (d : Door) (id : Nat) : State :=
  match d with
  | .regs r => (s.wn Reg.CUE_ARG id).cueCmd r 0x7E1D0002
  | _ =>
    let (e, f, s) := s.cueCancel id
    s.respond d 0x31 e (beBytes 1 f)

def State.opCueCancelList (s : State) (d : Door) (h : Nat) : State :=
  match d with
  | .regs r => (s.wn Reg.CUE_ARG h).cueCmd r 0x7E1D0003
  | _ =>
    if malformed h then s.respond d 0x32 6 []
    else if hKind h != 9 then s.respond d 0x32 7 []
    else if s.live h then
      let (n, s) := s.cueCancelList h
      s.respond d 0x32 0 (beBytes 2 n)
    else (s.staleDelivery h (doorPort d)).respond d 0x32 1 []

def State.opCueQuery (s : State) (d : Door) (id : Nat) : State :=
  match d with
  | .regs r => (s.wn Reg.CUE_ARG id).cueCmd r 0x7E1D0004
  | _ => match s.cueSlot id with
    | none => s.respond d 0x33 1 []
    | some i =>
      let c := s.cueAt i
      s.respond d 0x33 0 ((c.words.flatMap (beBytes 4)) ++ beBytes 1 c.state ++ beBytes 1 c.counter
        ++ beBytes 1 c.lateActed.toNat ++ beBytes 8 c.at64 ++ beBytes 4 c.dueTally ++ beBytes 4 c.cause)

/-! ### Becoming READY (R387) -/

/-- A cue that is due with its dependences satisfied becomes READY: at its moment, up to 1 µs early unless a latch edge
governs it (R34), or at once when it is late or was skipped. -/
def State.cueReady (s : State) (i : Nat) : State :=
  let c := s.cueAt i
  let early := if cAlign c && cCommit c then 0 else 1000
  let due := c.crossed || (match s.cueMoment c with
    | some m => decide (m ≤ s.ns + early)
    | none => false)
  if c.state = 1 ∧ c.counter = 0 ∧ due = true then
    s.setCue i { c with state := 2, readyClk := s.clk, readyNs := s.ns }
  else s

/-- READY cues of a list in the order in which they act (R389, R396): by the clock they became READY in, due time for
those a step skipped, then slot. -/
def State.readyCues (s : State) (h : Nat) : List (Nat × Cue) :=
  (s.cues.slots.filter fun e => e.2.state == 2 && cList e.2 == h)

def cueBefore (a b : Nat × Cue) : Bool :=
  decide (a.2.readyClk < b.2.readyClk) || (a.2.readyClk == b.2.readyClk && (
    let ka := if a.2.crossed then a.2.dueNs.getD 0 else 0
    let kb := if b.2.crossed then b.2.dueNs.getD 0 else 0
    decide (ka < kb) || (ka == kb && decide (a.1 ≤ b.1))))

/-- The cue that acts first. -/
def firstCue (l : List (Nat × Cue)) : Option (Nat × Cue) :=
  l.foldl (fun a c => match a with
    | none => some c
    | some b => if cueBefore b c then some b else some c) none

/-! ### Timecode (R393 to R395, R547) -/

/-- A resolved time taken by a waiting timecode cue: its lateness is judged once no dependence is outstanding. -/
def State.cueResolve (s : State) (i due : Nat) (fixed : Bool) : State :=
  let c := s.cueAt i
  let c := { c with dueNs := some due, fixed := fixed, dueTally := s.tallyAt due }
  let s := s.setCue i c
  if c.counter = 0 then s.cueRun [.arm i] else s

/-- The latch edge or time that governs a resolved cue has passed, or lies less than 100 ms ahead (R393). -/
def State.fixedBy (s : State) (c : Cue) (due : Nat) : Bool :=
  decide (due < s.ns + 100000000) || (cAlign c && decide (s.governing (s.tallyAt due) ≤ s.ns))

/-- A codeword acts on a waiting timecode cue not yet fixed: one that does not exist at the rate is missed (R547); one due
within the next day's half is projected (R393); one passed by at most 30 frames resolves to the codeword's stamp (R394).
A fixed resolution goes from a Lead to its Escort; an Escort that has none uses its own and counts it (R395). -/
def State.cueCode (s : State) (r code stamp : Nat) (i : Nat) : State :=
  let c := s.cueAt i
  if !tcValid r (cWord c 2) then s.cueRun [.finish i 5 0]
  else
    let day := tcDay r
    let d := (tcFrames r (cWord c 2) + day - tcFrames r code) % day
    let off := cWord c 3 * 1000
    let take := fun due fixed =>
      let s := if fixed then s.mirrorOut (s.tallyAt due) [5, cLabel c, cWord c 2, due] else s
      let s := if fixed && s.role == 2 then s.bump Reg.CUE_TC_LOCAL else s
      s.cueResolve i due fixed
    if d ≤ day / 2 then
      let due := stamp + d * ltcDen r * 10 ^ 9 / ltcNum r + off
      take due (s.fixedBy c due)
    else if day - d ≤ 30 then take (stamp + off) true
    else s

/-- The waiting timecode cues meet a codeword (R393). -/
def State.cueCodeword (s : State) (r code stamp : Nat) : State :=
  (s.pendingCues.filter fun e => e.2.state == 1 && cKind e.2 == 3 && !e.2.fixed).foldl (fun s e =>
    let c := s.cueAt e.1
    if c.state = 1 ∧ !c.fixed then s.cueCode r code stamp e.1 else s) s

/-- The Lead's resolution taken by the waiting cue with its LABEL and due timecode (R395). -/
def State.cueFromLead (s : State) (label code due : Nat) : State :=
  (s.pendingCues.filter fun e => e.2.state == 1 && cKind e.2 == 3 && cLabel e.2 == label && cWord e.2 2 == code
    && !e.2.fixed).foldl (fun s e => s.cueResolve e.1 due true) s

/-! ### Steps of the ledger (R396) -/

/-- A forward step from a time: waiting cues whose due times it skipped are due at once; frame-aligned cues whose due
tallies it skipped take the first tally presented after it, late under R388. -/
def State.cueStep (s : State) (before : Nat) : State :=
  (s.pendingCues.filter fun e => e.2.state == 1).foldl (fun s e =>
    let c := s.cueAt e.1
    match s.cueMoment c with
    | none => s
    | some m =>
      if c.crossed ∨ (cKind c = 0 ∧ !cAlign c) ∨ m < before ∨ s.ns < m then s
      else if cAlign c then
        if s.tally < c.dueTally then s
        else if cLate c ∧ c.counter = 0 then s.cueRun [.finish e.1 5 0]
        else if c.counter = 0 then
          (s.setCue e.1 { c with lateActed := true, crossed := true, dueTally := max (s.tally + 1) (if cCommit c then s.tallyAhead else 0) }).bump
            Reg.CUE_LATE
        else s
      else if c.counter = 0 then s.setCue e.1 { c with crossed := true } else s) s

end Sys2Proof.Machine
end

