-- ==== Sys2Proof/Machine/SvcOps.lean ====
section
/-!
DEFINITION. The boot header, the check of images, trials, SVC_CMD and the saving of settings
(17_boot_update_security.md, R493 to R497, R505 to R520).
-/
namespace Sys2Proof.Machine

/-! ### The boot header (Table 17.3, R493) -/

/-- The header in force: of the valid copies that with the greater SEQ, copy 0 when they are equal. -/
def NvmState.hdr? (n : NvmState) : Option BootHdr :=
  match n.hdr0, n.hdr1 with
  | some a, some b => some (if a.seq < b.seq then b else a)
  | some a, none => some a
  | none, b => b

def State.hdr (s : State) : BootHdr := s.nvm.hdr?.getD {}

/-- SVC_SLOTS follows the header. -/
def State.hdrSettle (s : State) : State := s.wn Reg.SVC_SLOTS s.hdr.slots

/-- TRIAL and TRIES of SVC_STAT tell how the running images stand: they follow the header at boot, at confirmation and at
the end of a trial, while an activation waits for the next reset (R510). -/
def State.trialSettle (s : State) : State :=
  (s.setFld Reg.SVC_STAT 3 2 s.hdr.trial).setFld Reg.SVC_STAT 5 4 s.hdr.tries

/-- An update of the header: both copies written, SEQ one greater than before. -/
def State.setHdr (s : State) (h : BootHdr) : State :=
  let h := { h with seq := s.hdr.seq + 1 }
  (({ s with nvm := { s.nvm with hdr0 := some h, hdr1 := some h } }).programHdr h).hdrSettle

/-- A slot's code of SVC_SLOTS: slots 0 and 1 firmware A and B, 2 and 3 manifest A and B. -/
def slotCode (h : BootHdr) (k : Nat) : Nat := bits h.slots (4 * k + 3) (4 * k)
def setSlot (h : BootHdr) (k c : Nat) : BootHdr := { h with slots := putBits h.slots (4 * k + 3) (4 * k) c }

/-- The slot of a kind (0 firmware, 1 manifest) that is active, and the other. -/
def activeSlot (h : BootHdr) (kind : Nat) : Nat := if kind = 0 then h.fwActive else 2 + h.manActive
def prevSlot (h : BootHdr) (kind : Nat) : Nat := if kind = 0 then h.fwPrev else 2 + h.manPrev
def otherSlot (k : Nat) : Nat := if k % 2 = 0 then k + 1 else k - 1
def inactiveSlot (h : BootHdr) (kind : Nat) : Nat := otherSlot (activeSlot h kind)

/-! ### Images (Table 17.4, R494 to R497) -/

/-- A little-endian field of content bytes. -/
def imgField (c : List Byte) (i n : Nat) : Nat := leNat ((c.drop i).take n)

def imgLen (c : List Byte) : Nat := imgField c 8 4
def imgSec (c : List Byte) : Nat := imgField c 6 1
def imgKey (c : List Byte) : List Byte := (c.drop 64).take 96

/-- The digest the signature covers. -/
def imgDigest (c : List Byte) : List Byte := sha384 (c.take (imgLen c - 96))

/-- The image tag: the first 8 bytes of the signed digest. -/
def imgTag (c : List Byte) : Nat := leNat ((imgDigest c).take 8)

/-- The kinds of image: firmware, manifest, key image, unlock token (0 to 3), by their MAGIC. -/
def imgMagic (kind : Nat) : Nat := [0x474D4958, 0x464D4958, 0x594B4958, 0x4B544958].getD kind 0

/-- Content bytes a region takes: all for key images and tokens. -/
def imgCap (kind : Nat) : Option Nat := [some 16760832, some 8380416].getD kind none

/-- The fields of Table 17.4 shown as 0, and the schema of a manifest. -/
def imgZeros (kind : Nat) (c : List Byte) : Bool :=
  imgField c 7 1 == 0 && decide (imgField c 5 1 < 4) && imgField c 48 16 == 0 && imgField c 160 96 == 0
    && (kind == 0 || imgField c 34 2 == 0) && (kind == 1 || (imgField c 36 4 == 0 && imgField c 40 8 == 0))
    && (kind != 1 || imgField c 32 2 == 1)

/-- The signing key is accepted (R495). -/
def State.keyAccepted (s : State) (kind : Nat) (key : List Byte) : Bool :=
  let h := sha384 key
  if kind = 0 ∨ kind = 3 then h == s.nvm.otp.vendor
  else match s.nvm.otp.man with
    | some m => h == m
    | none => true

/-- An image of a kind checked in the order of R494 to R497: 0, or the reason of SVC_MAN_ERR: 1 image check, 5 DEVICE_ID
or PART, 6 security version. Its blocks have passed R492. -/
def State.imgCheck (s : State) (kind : Nat) (c : List Byte) : Nat :=
  let n := imgLen c
  if imgField c 0 4 ≠ imgMagic kind ∨ imgField c 4 1 ≠ 1 ∨ imgZeros kind c = false ∨ n < 352 ∨ c.length < n
      ∨ (imgCap kind).any (fun m => decide (m < n)) = true ∨ ((c.drop n).all (· == 0#8)) = false then 1
  else if s.keyAccepted kind (imgKey c) = false ∨ ecdsaOk (imgKey c) (imgDigest c) ((c.drop (n - 96)).take 96) = false then 1
  else
    let dev := (c.drop 16).take 16
    let part := if s.lampDie then bit (imgField c 5 1) 0 else bit (imgField c 5 1) 1
    if (dev.any (· != 0#8) && dev != s.nvm.otp.uid) || !part then 5
    else
      let least := if kind = 0 then s.nvm.otp.fwSec else if kind = 1 then s.nvm.otp.manSec else 0
      if imgSec c < least then 6 else 0

/-- The content of a slot; none when it holds no image. -/
def State.slotImg (s : State) (k : Nat) : List Byte := tabGetD s.nvm.slots k []

/-! ### Trials (R510 to R512) -/

/-- Clocks left of the trial window, which runs from power-good of the trial boot (R511). -/
def State.trialLeft (s : State) : Nat := s.watch.goodAt + sec (60 * s.fld Reg.SVC_TRIAL_CFG 6 0) - s.clk

/-- SVC_TRIAL_LEFT: whole seconds begun, 0 outside a trial. -/
def State.trialSeconds (s : State) : Nat := if s.fld Reg.SVC_STAT 3 2 = 1 then min 8191 (ceilDiv s.trialLeft (sec 1)) else 0

/-- The conditions of R512, within the window. -/
def State.checksMet (s : State) : Bool :=
  s.fld Reg.SVC_STAT 3 2 == 1 && decide (0 < s.trialLeft) && s.fld Reg.SVC_STAT 1 1 == s.hdr.manActive
    && s.fld Reg.SVC_STAT 0 0 == s.hdr.fwActive
    && (s.nvm.firstAt.any fun c => s.elapsed c (sec (10 * s.fld Reg.SVC_TRIAL_CFG 14 7)))
    && (!bit (s.rn Reg.TWIN_CFG) 0 || s.twin.everEligible) && !s.flt.severe

/-- Confirmation (R512): TRIAL and TRIES 0, the thermometers rise to the active images, and a former slot becomes staged
while its SEC_VERSION still meets R496, invalid otherwise. -/
def State.confirm (s : State) : State :=
  let h := s.hdr
  let fw := max s.nvm.otp.fwSec (imgSec (s.slotImg (activeSlot h 0)))
  let man := max s.nvm.otp.manSec (imgSec (s.slotImg (activeSlot h 1)))
  let s := { s with nvm := { s.nvm with otp := { s.nvm.otp with fwSec := fw, manSec := man } } }
  let former := fun (h : BootHdr) kind least =>
    let p := prevSlot h kind
    if p = activeSlot h kind then h else setSlot h p (if least ≤ imgSec (s.slotImg p) then 2 else 6)
  (s.setHdr { former (former h 0 fw) 1 man with trial := 0, tries := 0 }).trialSettle.keySettle

/-- Activation of the kinds named, 1 firmware, 2 manifest, 3 both (R510, R520): the RESULT and the state. -/
def State.activate (s : State) (what : Nat) : Nat × State :=
  let h := s.hdr
  let named := [0, 1].filter (bit what)
  if named.any fun k => slotCode h (inactiveSlot h k) != 2 then (2, s)
  else if h.trial ≠ 0 then (3, s)
  else
    let old := { h with fwPrev := h.fwActive, manPrev := h.manActive, trial := 1, tries := 0 }
    let h := named.foldl (fun (x : BootHdr) k =>
      let a := activeSlot h k
      let x := setSlot (setSlot x a 4) (otherSlot a) 3
      if k = 0 then { x with fwActive := 1 - h.fwActive } else { x with manActive := 1 - h.manActive }) old
    (1, s.setHdr h)

/-- Discard of staged slots of the kinds named (R520). -/
def State.discard (s : State) (what : Nat) : Nat × State :=
  let h := s.hdr
  let slots := ([0, 1].filter (bit what)).map (inactiveSlot h)
  if slots.any fun k => slotCode h k == 1 then (6, s)
  else
    let gone := slots.filter fun k => slotCode h k == 2
    let s := { s with nvm := { s.nvm with slots := gone.foldl (fun t k => tabErase t k) s.nvm.slots } }
    (1, if gone.isEmpty then s else s.setHdr (gone.foldl (fun h k => setSlot h k 0) h))

/-! ### Settings (R505, R507) -/

/-- Registers whose live value settings carry as REGS records: those of access type RW but selectors, windows and shadows
of tables, registers that berths own, one-shot arms and lane test modes (log entry 33). -/
def savedReg (a : Nat) : Bool :=
  let o := a % 65536
  (regDesc? a).any (fun d => d.acc == .rw) && (match a / 65536 with
    | 0 => true
    | 2 => !(decide (0x440 ≤ o) || (decide (0x300 ≤ o) && o % 32 != 0))
    | 3 => o % 128 == 4
    | 4 => true
    | 5 => o % 4096 == 0x14 || o % 4096 == 0x18
    | 8 => decide (o < 0x40)
    | 9 => o == 0 || o == 4 || o == 0xC || decide (0x400 ≤ o)
    | 0xB => o == 0x24 || decide (0x2000 ≤ o)
    | 0xD => decide (0x100 ≤ o ∧ o < 0x1000)
    | 0x10 => o == 0 || decide (0x2000 ≤ o)
    | 0x11 => o != 4
    | 0x12 => decide (0x1000 ≤ o)
    | 0x13 => true
    | 0x15 => decide (o < 0x400)
    | _ => false)

/-- The addresses of a block's array elements, one after another. -/
def dimAddrs (base : Nat) : List (Nat × Nat) → List Nat
  | [] => [base]
  | (c, st) :: ds => (List.range c).flatMap fun i => dimAddrs (base + st * i) ds

def regsRec (a v : Nat) : MRecord := ⟨4, 0, leWords [a, 1, v]⟩

/-- A TABLE record of entries from a first one (Table 17.7). -/
def tableRec (table size first : Nat) (entries : List (List Nat)) : MRecord :=
  ⟨5, 0, leBytes 2 table ++ leBytes 2 size ++ leWords [first, entries.length] ++ entries.flatMap leWords⟩

/-- The BERTH record of a live berth: its items as R404 gives them, filled to a multiple of 4. -/
def State.berthRec (s : State) (i : Nat) : MRecord :=
  let b := s.berth i
  let items := s.berthItems i
  let body := leWords [b.kind, b.resource] ++ leBytes 2 items.length ++ leBytes 2 0
    ++ items.flatMap fun e => beBytes 2 e.1 ++ beBytes 2 e.2.1 ++ e.2.2
  ⟨6, 0, body ++ List.replicate ((4 - body.length % 4) % 4) 0#8⟩

/-- The run-time state of the record types that settings take (Table 17.7). -/
def State.settingsRecords (s : State) : List MRecord :=
  let regs := ((List.range 25).flatMap fun b => (blockRegs b).flatMap fun d => dimAddrs d.base d.dims).filter savedReg
  let one := fun table size (e : Nat × List Nat) => tableRec table size e.1 [e.2]
  let win := fun table size words base n =>
    (List.range n).map fun i => tableRec table size i [s.rdWords (base + 4 * words * i) words]
  regs.map (fun a => regsRec a (s.rn a))
    ++ (s.berths.entries.filter fun e => e.2.state == 1).map (fun e => s.berthRec e.1)
    ++ s.scan.map.map (one 1 32) ++ (List.range 256).map (fun p => tableRec 2 256 p [s.bin p])
    ++ (List.range 64).map (fun i => tableRec 3 64 i [((timedTop s.fixture.emit).getD emitReset).drop (16 * i) |>.take 16])
    ++ s.fixture.probes.map (fun e => let w := s.probe e.1; tableRec 4 8 e.1 [[w.1, w.2]])
    ++ s.fixture.ways.map (fun e => tableRec 5 32 e.1 [s.way e.1])
    ++ (List.range 5).flatMap (fun m => (List.range 48).map fun i => tableRec (6 + m) 16 (16 + i) [s.filter m (16 + i)])
    ++ win 11 16 4 (Reg.FERRY_RANGE 0) 64
    ++ (if s.pipe.coefs.isEmpty then [] else
      (List.range 4).map fun k => tableRec 12 768 k [(s.pipe.coefs.drop (192 * k)).take 192])
    ++ win 13 16 4 (Reg.WATCH_I2C 0) 4 ++ win 14 8 2 (Reg.WATCH_RULE 0) 32
    ++ s.lamp.ntc.map (fun e => tableRec 15 8 e.1 [[e.2.1, e.2.2]])
    ++ (if s.nvm.name.isEmpty then [] else
      let b := leBytes 2 1 ++ leBytes 2 s.nvm.name.length ++ s.nvm.name
      [⟨9, 0, b ++ List.replicate ((4 - b.length % 4) % 4) 0#8⟩])

/-- The valid half of an area in use, and its number (R505). -/
def State.settingsOf (s : State) (area : Nat) : Option (Nat × Settings) :=
  match tabGet? s.nvm.settings (2 * area), tabGet? s.nvm.settings (2 * area + 1) with
  | some a, some b => some (if a.seq < b.seq then (1, b) else (0, a))
  | some a, none => some (0, a)
  | none, some b => some (1, b)
  | none, none => none

/-- Settings written to the half not in use (R505). -/
def State.writeSettings (s : State) (area schema tag : Nat) (rs : List MRecord) : State :=
  let (half, seq) := match s.settingsOf area with
    | some (h, x) => (1 - h, x.seq + 1)
    | none => (0, 1)
  let x : Settings := ⟨seq, schema, tag, rs⟩
  ({ s with nvm := { s.nvm with settings := tabSet s.nvm.settings (2 * area + half) x } }).programSettings (2 * area + half) x

/-- A save completes: the area of the running firmware is written and the requester answered (R506, R507). -/
def State.saveNow (s : State) (d : Door) : State :=
  let s := s.writeSettings (s.fld Reg.SVC_STAT 0 0) s.nvm.schema s.nvm.tag s.settingsRecords
  match d with
  | .regs _ => s.wn Reg.SVC_RESULT 1
  | _ => s.respond d 0x51 0 []

/-- A save; while a brownout warning stands it waits (R469, R507). -/
def State.save (s : State) (d : Door) : State :=
  if s.watch.warnAt.isSome then { s with nvm := { s.nvm with saves := s.nvm.saves ++ [d] } } else s.saveNow d

/-! ### SVC_CMD (Table 17.14, R520) -/

/-- A command whose NVM writes may take place. -/
def State.svcRun (s : State) (v : Nat) : State :=
  let what := bits v 4 3
  let set := fun (p : Nat × State) => p.2.wn Reg.SVC_RESULT p.1
  match bits v 2 0 with
  | 1 => if what = 0 then s else set (s.activate what)
  | 3 => set (if s.fld Reg.SVC_STAT 3 2 ≠ 1 then (5, s) else if s.checksMet then (1, s.confirm) else (4, s))
  | 5 => if what = 0 then s else set (s.discard what)
  | _ => s

/-- A write of SVC_CMD; a command that writes the NVM waits while a brownout warning stands (R469). -/
def State.svcCmd (s : State) (req : Requester) (v : Nat) : State :=
  if bits v 31 16 ≠ 0xB7E2 then s.accErr req Reg.SVC_CMD true true
  else match bits v 2 0 with
    | 2 => s.safeDown.deviceReset 9
    | 4 => s.save (.regs req)
    | c =>
      if (c = 1 ∨ c = 3 ∨ c = 5) ∧ s.watch.warnAt.isSome = true then
        { s with nvm := { s.nvm with waiting := s.nvm.waiting ++ [v % 32] } }
      else s.svcRun v

/-- What waited for the end of a brownout warning is done. -/
def State.nvmResume (s : State) : State :=
  let saves := s.nvm.saves
  let cmds := s.nvm.waiting
  let s := { s with nvm := { s.nvm with saves := [], waiting := [] } }
  cmds.foldl State.svcRun (saves.foldl State.saveNow s)

end Sys2Proof.Machine
end

