-- ==== Sys2Proof/Machine/Berths.lean ====
section
/-!
DEFINITION. Commands on berths and cues (13_berths_cues.md R375 to R397; Tables 14.3, 14.4).
-/
namespace Sys2Proof.Machine

/-- A create (R375 to R377, R404). -/
def execBerthCreate (dt : Nat) (door : Door) (kind resource : Nat) (params : List Param) (s : State) :
    Host.Outcome State Fault Refusal :=
  act dt s fun s => s.request door 0x20 (createBody kind resource params) fun s => s.opCreate door kind resource params

/-- A modify (R378). -/
def execBerthModify (dt : Nat) (door : Door) (handle : Nat) (params : List Param) (s : State) :
    Host.Outcome State Fault Refusal :=
  act dt s fun s => s.request door 0x21 (beBytes 4 handle ++ paramItems params) fun s => s.opModify door handle params

/-- A destroy (R379). -/
def execBerthDestroy (dt : Nat) (door : Door) (handle : Nat) (s : State) : Host.Outcome State Fault Refusal :=
  act dt s fun s => s.request door 0x22 (beBytes 4 handle) fun s => s.opDestroy door handle

/-- A query (R404). -/
def execBerthQuery (dt : Nat) (door : Door) (handle : Nat) (s : State) : Host.Outcome State Fault Refusal :=
  act dt s fun s => s.request door 0x23 (beBytes 4 handle) fun s => s.opQuery door handle

/-- A cue create (R384, R385). -/
def execCueCreate (dt : Nat) (door : Door) (record : List Word) (s : State) : Host.Outcome State Fault Refusal :=
  act dt s fun s => s.request door 0x30 (record.flatMap fun w => beBytes 4 w.toNat) fun s => s.opCueCreate door (record.map BitVec.toNat)

/-- A cue becomes READY (R387). -/
def execCueReady (dt : Nat) (slot : Fin 4096) (s : State) : Host.Outcome State Fault Refusal :=
  act dt s fun s => s.cueReady slot

/-- A cancel of a cue (R391, R392). -/
def execCueCancel (dt : Nat) (door : Door) (id : Nat) (s : State) : Host.Outcome State Fault Refusal :=
  act dt s fun s => s.request door 0x31 (beBytes 4 id) fun s => s.opCueCancel door id

/-- A cancel of a list (R391). -/
def execCueCancelList (dt : Nat) (door : Door) (handle : Nat) (s : State) : Host.Outcome State Fault Refusal :=
  act dt s fun s => s.request door 0x32 (beBytes 4 handle) fun s => s.opCueCancelList door handle

/-- A cue query (R384). -/
def execCueQuery (dt : Nat) (door : Door) (id : Nat) (s : State) : Host.Outcome State Fault Refusal :=
  act dt s fun s => s.request door 0x33 (beBytes 4 id) fun s => s.opCueQuery door id

end Sys2Proof.Machine
end

