-- ==== Sys2Proof/Machine/Eth.lean ====
section
/-!
DEFINITION. Commands of the Ethernet MACs (10_ethernet.md).
-/
namespace Sys2Proof.Machine

/-- A frame counted as failing its FCS, with the FCS-errors fault (R295, Table 10.8). -/
def State.fcsFail (s : State) (m : Nat) : State :=
  let s := s.bump (Reg.MAC_RX_FCS m)
  let fails := (s.clk :: (s.mac m).fcs).take 100
  let s := s.setMac m { s.mac m with fcs := fails }
  let s := if fails.length = 100 ∧ fails.all (fun c => !s.elapsed c (sec 1)) then s.raiseOnce 162 m 100 else s
  let f := s.fltInst 162 m
  if f.standing then s.setFltInst 162 m { f with cond := false, quietFrom := s.clk + sec 1 } else s

/-- A MAC control frame (R306 to R309): with its own address or the control address and opcode pause or PFC it sets
timers, unless disabled, or ignored in HOLDOFF. -/
def State.controlFrame (s : State) (m : Nat) (f : List Byte) : State :=
  let dmac := oct f 0 6
  let op := oct f 14 2
  if (dmac ≠ 0x0180C2000001 ∧ dmac ≠ s.macAddr m) ∨ (op ≠ 1 ∧ op ≠ 0x0101) then s.bump (Reg.MAC_CTRL_BAD m)
  else
    let pfc := op == 0x0101
    let s := s.bump (if pfc then Reg.MAC_PFC_RX m else Reg.MAC_PAUSE_RX m)
    let x := s.mac m
    if x.holdoffEnd.isSome then s.bump (Reg.MAC_PAUSE_IGNORED m)
    else if pfc then
      if bit x.pauseCfg 1 then
        s.pauseFrame m (((List.range 8).filter fun q => bit (oct f 16 2) q).map fun q => (q, oct f (18 + 2 * q) 2))
      else s
    else if bit x.pauseCfg 0 then s.pauseFrame m ((List.range 8).map fun q => (q, oct f 16 2)) else s

/-- A frame steered by the entry that matches it (Table 10.3, R301, R302). -/
def State.steer (s : State) (m : Nat) (f : List Byte) (w : List Nat) : State :=
  let a := bits (w.getD 3 0) 10 8
  let t := bits (w.getD 3 0) 15 11
  let ok := s.bump (Reg.MAC_RX_OK m)
  let drop := (s.bump (Reg.MAC_RX_DROP m)).raiseSec 161 m
  let x := s.mac m
  match a with
  | 0 => s.bump (Reg.MAC_RX_NOMATCH m)
  | 1 => ok.send "INGEST" t [bits (w.getD 3 0) 16 16]
  | 2 => ok.send "PTP" m (f.map (·.toNat))
  | 3 => ok.send "SACN" m (f.map (·.toNat))
  | 4 => if x.qmpIn < 256 then ok.qmpArrive m f else drop
  | 5 =>
    if t < 4 then
      let held := ((s.outQ t).waiting.filter fun p => p.1 == 2 && p.2.1 == m).length
      if !bit (s.rn Reg.PIER_CFG) 0 ∨ 64 ≤ held then drop
      else ok.pierPush t 2 m (beBytes 1 m ++ beBytes 1 t ++ beBytes 2 0 ++ beBytes 8 s.now64 ++ beBytes 2 s.frac
        ++ beBytes 2 0 ++ f)
    else if t < 8 then
      let l := tabGetD x.rxq t []
      if l.length < 64 then ok.setMac m { x with rxq := tabSet x.rxq t (l ++ [f]) } else drop
    else s.bump (Reg.MAC_RX_NOMATCH m)
  | _ => s.bump (Reg.MAC_RX_NOMATCH m)

/-- A frame arrives, its FCS the last 4 octets (R295 to R298): discarded at the first failure, a control frame consumed,
any other steered by the first entry that matches. A MAC that is disabled or in reset takes none. -/
def State.frameIn (s : State) (m : Nat) (frame : List Byte) : State :=
  let n := frame.length
  if s.macDisabled m ∨ !bit (s.rn (Reg.MAC_CFG m)) 5 ∨ s.inReset (.mac m) then s
  else if n < 64 then s.bump (Reg.MAC_RX_RUNT m)
  else if 9216 < n then s.bump (Reg.MAC_RX_OVERSIZE m)
  else if !fcsGood frame then s.fcsFail m
  else
    let f := frame.take (n - 4)
    if oct f 12 2 = 0x8808 then s.controlFrame m f
    else
      let (k, ipOk, _) := frameKey f
      if !ipOk then s.bump (Reg.MAC_RX_IP_ERR m)
      else match (List.range 64).find? fun i => fltMatch (s.filterNow m i) k with
        | some i => s.steer m f (s.filterNow m i)
        | none => s.bump (Reg.MAC_RX_NOMATCH m)

def execEthFrameReceive (dt : Nat) (mac : Fin 5) (frame : List Byte) (s : State) : Host.Outcome State Fault Refusal :=
  act dt s fun s => s.frameIn mac frame

/-- A queue's pause timer ends and the queue resumes (R307). -/
def execPauseTimerExpire (dt : Nat) (mac : Fin 5) (queue : Fin 8) (s : State) : Host.Outcome State Fault Refusal :=
  act dt s fun s =>
    let s := s.pauseCount mac
    let x := s.mac mac
    match tabGet? x.timers queue with
    | some e =>
      if e ≤ s.clk then ((s.setMac mac { x with timers := tabErase x.timers queue }).pauseCount mac).txStart mac else s
    | none => s

/-- Paused time of LIMIT within WINDOW trips the watchdog (R309): every timer stops and HOLDOFF starts. Table 10.7 trips at
500 µs with LIMIT 500, so a time that reaches LIMIT trips (DEDUCED, log entry 50). -/
def execPauseWatchdogTrip (dt : Nat) (mac : Fin 5) (s : State) : Host.Outcome State Fault Refusal :=
  act dt s fun s =>
    let m := mac.val
    let s := s.pauseCount m
    let x := s.mac m
    let long := (List.range 8).any fun q => decide (macLimit x ≤ s.pausedIn m q)
    if bit x.pauseCfg 3 ∧ x.holdoffEnd.isNone ∧ long then
      let s := s.setMac m { x with timers := [], holdoffEnd := some (s.clk + macHoldoff x) }
      let s := ((s.bump (Reg.MAC_WDOG_TRIP m)).setFld (Reg.MAC_STAT m) 2 2 1).raise 160 m
      let f := s.fltInst 160 m
      let s := if f.standing then s.setFltInst 160 m { f with cond := true } else s
      (s.pauseCount m).txStart m
    else s

/-- HOLDOFF ends (R309): pause is obeyed again and paused times restart; the fault recovers after a WINDOW without a
further trip. -/
def execHoldoffEnd (dt : Nat) (mac : Fin 5) (s : State) : Host.Outcome State Fault Refusal :=
  act dt s fun s =>
    let m := mac.val
    let x := s.mac m
    match x.holdoffEnd with
    | some e =>
      if e ≤ s.clk then
        let s := (s.setMac m { x with holdoffEnd := none }).pauseRestart m
        let s := s.setFld (Reg.MAC_STAT m) 2 2 0
        let f := s.fltInst 160 m
        if f.standing then s.setFltInst 160 m { f with cond := false, quietFrom := s.clk + macWindow x } else s
      else s
    | none => s

/-- A frame ends (R304, R312): it has been sent, a waiting pause write takes effect, and the next starts. -/
def execTxFrameEnd (dt : Nat) (mac : Fin 5) (s : State) : Host.Outcome State Fault Refusal :=
  act dt s fun s =>
    let m := mac.val
    let s := s.pauseCount m
    let x := s.mac m
    match x.sending with
    | some (kind, frame) =>
      let s := ((s.setMac m { x with sending := none }).bump (Reg.MAC_TX_OK m)).send kind m (frame.map (·.toNat))
      (s.pauseApply m).txStart m
    | none => s

/-- A write of MAC_FLT_SEL (R300). -/
def execFltSelWrite (dt : Nat) (req : Requester) (mac : Fin 5) (value : Word) (s : State) :
    Host.Outcome State Fault Refusal :=
  act dt s fun s => s.fltSelWrite req mac value.toNat

/-- GO of MAC_FLT_COMMIT (R300). -/
def execFltCommit (dt : Nat) (req : Requester) (mac : Fin 5) (s : State) : Host.Outcome State Fault Refusal :=
  act dt s fun s => s.fltCommit req mac

/-- A write of MAC_PAUSE_CFG or MAC_PAUSE_WIN (R312). -/
def execPauseCfgWrite (dt : Nat) (req : Requester) (mac : Fin 5) (window : Bool) (value : Word) (s : State) :
    Host.Outcome State Fault Refusal :=
  act dt s fun s => s.pauseWrite req mac window value.toNat

/-- Whether a MAC needs an IPv4 group (R303): for an enabled ST 2110 path, or for an sACN input universe, whose group is
239.255 and its number. -/
def State.needsGroup (s : State) (m g : Nat) : Bool :=
  (s.pipe.receivers.any fun e => e.2.berth.isSome && (e.2.cfg :: e.2.next.toList).any fun c =>
      bits c.cfg 3 0 == 0 && ([(c.p0Addr, c.p0Port), (c.p1Addr, c.p1Port)].any fun p =>
        bit p.2 18 && bits p.2 17 16 == m && p.1 == g && decide (0xE0000000 ≤ g ∧ g < 0xF0000000)))
    || decide (g / 65536 = 0xEFFF) && ((s.univSet 0 (g % 65536) s.tally).any fun b => bit (uParam b 3) m)

/-- A group joined on a MAC (R303). -/
def execIgmpJoin (dt : Nat) (mac : Fin 5) (group : Nat) (s : State) : Host.Outcome State Fault Refusal :=
  act dt s fun s => if s.needsGroup mac group then s.igmpJoin mac group else s

/-- Every 10 ms the Gangway reads its PHY (R292): link and speed; it stays down while the PHY reports half duplex. -/
def execPhyPoll (dt : Nat) (link fullDuplex : Bool) (speed : Nat) (s : State) : Host.Outcome State Fault Refusal :=
  act dt s fun s =>
    if (s.mac 4).polled.any fun c => !s.elapsed c (ms 10) then s
    else
      let s := s.setMac 4 { s.mac 4 with polled := some s.clk }
      (s.setFld (Reg.MAC_STAT 4) 12 11 (min speed 2)).macLink 4 (link && fullDuplex) (!fullDuplex)

/-- Clause 37 auto-negotiation has not completed within 1 s (R291), as it does not with a partner of half duplex alone: the
lane stays DOWN. -/
def execAnTimeout (dt : Nat) (lane : Fin 24) (s : State) : Host.Outcome State Fault Refusal :=
  act dt s fun s =>
    let l := lane.val
    if s.laneRole l = 1 ∧ s.laneCfgRate l = 0 ∧ s.laneSt l = 10 ∧ s.elapsed (s.lane l).downSince (sec 1) then
      (s.setLaneSt l 10).macLink (s.fld (Reg.LANE_CFG l) 7 6) false true
    else s

end Sys2Proof.Machine
end

