-- ==== Sys2Proof/Machine/Faults.lean ====
section
/-!
DEFINITION. Commands of the fault block (15_faults_reserve.md, R434 to R452, R455).
-/
namespace Sys2Proof.Machine

/-- Detector instances read (0,1) in one clock (R435, R442): logged and reacted to. -/
def execDetectorTrip (dt : Nat) (trips : List (Nat × Nat × Nat)) (s : State) : Host.Outcome State Fault Refusal :=
  act dt s fun s => s.logTrips (trips.map fun (d, i, n) => { det := d, inst := i, info := n })

/-- A pair has read (0,0) or (1,1) for some consecutive clocks: 2 raise a rail fault (R435 to R437). -/
def execRailFault (dt det inst clocks : Nat) (s : State) : Host.Outcome State Fault Refusal :=
  act dt s fun s => if 2 ≤ clocks then s.logTrip { det := det, inst := inst, rail := true } else s

/-- Shadows whose time is over end; an instance whose condition still holds trips as an independent fault unless another
shadow covers it (R445). `still` names the instances whose detector still reads fault. -/
def execShadowEnd (dt : Nat) (still : List (Nat × Nat × Nat)) (s : State) : Host.Outcome State Fault Refusal :=
  act dt s fun s =>
    let s := { s with flt := { s.flt with shadows := s.flt.shadows.filter fun h => decide (s.clk < h.untilClk) } }
    let ended := s.flt.inShadow.filter fun k => (s.shadowOf (k.1 / 65536) (k.1 % 65536)).isNone
    let due := still.filter fun (d, i, _) => ended.any fun k => k.1 == instKey d i
    let s := { s with flt := { s.flt with inShadow := s.flt.inShadow.filter fun k => !ended.contains k } }
    s.logTrips (due.map fun (d, i, n) => { det := d, inst := i, info := n })

/-- A reset block returns to service at its reset time (R438); in a twin, after the sea trial of R281 for the compositor,
calibration engine and scan-out, which the trial's end then completes. -/
def execBlockResetDone (dt : Nat) (block : Block) (s : State) : Host.Outcome State Fault Refusal :=
  act dt s fun s =>
    if s.flt.resets.any (fun e => e.1 == block && decide (e.2 ≤ s.clk)) then
      if blockNeedsTrial block && bit (s.rn Reg.TWIN_CFG) 0 && s.twin.trialStart.isNone then
        { (s.setEligible false).setFld Reg.TWIN_STAT 11 9 1 with twin := { s.twin with trialStart := some s.clk } }
      else if blockNeedsTrial block && s.twin.trialStart.isSome then s
      else
        let s := { s with flt := { s.flt with resets := s.flt.resets.filter (·.1 != block) } }
        if block = .lampLink then s.setHold false s.lamp.brownHold else s
    else s

/-- A fault's quiet period passes without an independent trip (R446, R447). -/
def execFaultRecover (dt det inst : Nat) (s : State) : Host.Outcome State Fault Refusal :=
  act dt s fun s => s.recover det inst

/-- FLT_CMD 1: the first-fault record and its logbook copy clear (R443). -/
def State.clearFirst (s : State) : State :=
  ({ s with flt := { s.flt with first := none } }).keepWrite 8 (List.replicate 8 0)

def execClearFirstFault (dt : Nat) (_req : Requester) (s : State) : Host.Outcome State Fault Refusal :=
  act dt s State.clearFirst

/-- FLT_CMD 2: the escalation of the instance in FLT_DET_SEL clears (R447). -/
def State.clearSelected (s : State) : State := s.clearEsc (s.fld Reg.FLT_DET_SEL 8 0) (s.fld Reg.FLT_DET_SEL 26 16)

def execClearEscalation (dt : Nat) (_req : Requester) (s : State) : Host.Outcome State Fault Refusal :=
  act dt s State.clearSelected

/-- FLT_CMD 3: every escalation clears (R447). -/
def State.clearAll (s : State) : State :=
  s.flt.insts.foldl (fun s e => s.clearEsc (e.1 / 65536) (e.1 % 65536)) s

def execClearAllEscalations (dt : Nat) (_req : Requester) (s : State) : Host.Outcome State Fault Refusal :=
  act dt s State.clearAll

/-- A write of FLT_DET_CFG sets every field, or is ignored as a whole and counted (R455, Table 15.11). -/
def State.detCfgWrite (s : State) (req : Requester) (d v : Nat) : State :=
  let ok := match detSev? d with
    | some m => decide (m ≤ bits v 1 0) && detAllowed d (bits v 4 2) && detAllowed d (bits v 7 5)
        && decide (1 ≤ bits v 15 8) && decide (1 ≤ bits v 19 16) && decide (1 ≤ bits v 27 20) && !s.flt.test
    | none => false
  if ok then s.wn (Reg.FLT_DET_CFG d) (bits v 27 0) else s.accErr req (Reg.FLT_DET_CFG d) true false

def execDetCfgWrite (dt : Nat) (req : Requester) (det : Fin 512) (value : Word) (s : State) :
    Host.Outcome State Fault Refusal :=
  act dt s fun s => s.detCfgWrite req det.val value.toNat

/-- The injection in force ends: the pair is released, the fault's condition ends, and the quiet period of a rail fault
begins (R436, R452). -/
def State.injectOver (s : State) : State :=
  match s.flt.injection with
  | some j =>
    let s := ({ s with flt := { s.flt with injection := none } }).condClear j.det j.inst
    let x := s.fltInst j.det j.inst
    if x.state = .rail then s.setFltInst j.det j.inst { x with quietFrom := max x.quietFrom s.clk } else s
  | none => s

/-- FLT_INJECT_CMD in test mode forces the pair of the instance in FLT_INJECT_TGT for DURATION µs, in place
of an injection in force; outside test mode it is ignored and counted (R452). -/
def State.inject (s : State) (req : Requester) (v : Nat) : State :=
  if s.flt.test then
    let p := bits v 1 0
    let d := bits s.flt.injectTgt 8 0
    let i := bits s.flt.injectTgt 26 16
    if p = 0 ∨ bits v 25 2 = 0 then s else
      let s := s.injectOver
      let s := { s with flt := { s.flt with injection := some ⟨d, i, p, s.clk + us (bits v 25 2)⟩ } }
      s.logTrip { det := d, inst := i, rail := p != 1 }
  else s.accErr req Reg.FLT_INJECT_CMD true false

def execFaultInject (dt : Nat) (req : Requester) (value : Word) (s : State) : Host.Outcome State Fault Refusal :=
  act dt s fun s => s.inject req value.toNat

/-- The injection's duration ends: the pair is released and the fault's condition with it (R452). -/
def execInjectEnd (dt : Nat) (s : State) : Host.Outcome State Fault Refusal :=
  act dt s fun s =>
    match s.flt.injection with
    | some j => if j.untilClk ≤ s.clk then s.injectOver else s
    | none => s

end Sys2Proof.Machine
end

