-- ==== Sys2Proof/Machine/Tile.lean ====
section
/-!
DEFINITION. Commands of the tile side of Profile T: what a conforming tile does (06_scanout_tiles.md R170, R175 to R180;
08_sardylink.md R230, R233 to R241, R246, R247, R250, R259, R260).
-/
namespace Sys2Proof.Machine

/-! ### Tiles -/

/-- A tile's command: its armed snapshots that are due latch first (R247); a tile that was never linked does not act. -/
def State.onTile (s : State) (k : Nat) (f : State → Tile → State) : State :=
  match tabGet? s.tiles k with
  | none => s
  | some t =>
    let due := t.snaps.filter fun a => decide (a.2 ≤ s.ns)
    let t := match due.getLast? with
      | some a => { t with snapId := a.1, shadow := t.counters, snaps := t.snaps.filter fun b => decide (s.ns < b.2) }
      | none => t
    f s t

def State.setTile (s : State) (k : Nat) (t : Tile) : State := { s with tiles := tabSet s.tiles k t }

/-- Counter i of a tile raised (Table 08.10 order: PIX_RX, CRC_ERR, DUP, STALE, TOKENS, INCOMPLETE, LOSS_BLACK,
LINK_EVT). -/
def Tile.count (t : Tile) (i : Nat) : Tile := { t with counters := t.counters.set i (t.counters.getD i 0 + 1) }

def Tile.port (t : Tile) (p : Bool) : TilePort := if p then t.p1 else t.p0
def Tile.setPort (t : Tile) (p : Bool) (x : TilePort) : Tile := if p then { t with p1 := x } else { t with p0 := x }

/-- The link key of a tile's port. -/
def tileKey (k : Nat) (p : Bool) : Nat := 64 + 2 * k + p.toNat

/-- A packet as it arrived: the encoder's bytes with the check word received. -/
def withCheck (p : List Byte) (crc : Word) : List Byte := p.take (p.length - 4) ++ beBytes 4 crc.toNat

/-- A packet that came with a check word is kept (R230): its CRC holds, and its header and fields lie in their ranges. -/
def tileKeeps (p : List Byte) : Bool :=
  packetGood p && typeOk true (pkt p 0 1) && slkHeaderOk true p && fieldsOk p

/-- A packet is from the device at its end of the chain, by its type (Table 08.4) and, of a REG packet, its OP, of TIME, its
SENDER (R233). -/
def fromDevice (p : List Byte) : Bool :=
  match pkt p 0 1 with
  | 0x01 | 0x02 | 0x03 | 0x05 | 0x07 | 0x08 | 0x0A => true
  | 0x11 => pkt p 7 1 != 8
  | 0x10 => pkt p 32 4 != 0
  | _ => false

/-- A packet from the device at a port's end arrives whole: the end is heard (R233). -/
def Tile.hear (t : Tile) (p : Bool) (clk : Nat) : Tile := t.setPort p { t.port p with heardAt := some clk }

/-- A packet passed to the other port as it is, whether or not its CRC holds; it is discarded where no link follows
(R234). -/
def State.passOn (s : State) (k : Nat) (t : Tile) (p : Bool) (kind : String) (bs : List Byte) : State :=
  if (t.port (!p)).linked then s.packet (tileKey k (!p)) kind bs else s

/-- A REG packet passed on takes a credit of the onward link, or waits for one (R245). -/
def State.passReg (s : State) (k : Nat) (t : Tile) (p isReq : Bool) (bs : List Byte) : State :=
  if (t.port (!p)).linked then s.regOut (tileKey k (!p)) isReq (regKind (tileKey k (!p)) isReq) bs else s

/-- Control blocks passed to the other port. -/
def State.passBlocks (s : State) (k : Nat) (t : Tile) (p : Bool) (kind : String) (bs : List SlkBlock) : State :=
  if (t.port (!p)).linked then s.sendBlocks kind (tileKey k (!p)) bs else s

/-- The tile's region, which it shows at its own rotation (R170). -/
def Tile.region (t : Tile) : Nat × Nat := regionOf t.info.orient t.info.desc.width t.info.desc.height

/-- Segments in a region (R172). -/
def Tile.segments (t : Tile) : Nat := t.region.2 * ceilDiv t.region.1 128

/-- A tally newer than another modulo 2³² (R175). -/
def newer32 (a b : Nat) : Bool :=
  let d := (a + 2 ^ 32 - b % 2 ^ 32) % 2 ^ 32
  decide (1 ≤ d ∧ d ≤ 2 ^ 31)

/-- A segment of the tile's region: its line, its number and its COUNT (Table 08.5). -/
def Tile.segmentOk (t : Tile) (p : PixelPacket) : Bool :=
  decide (p.line < t.region.2 ∧ p.segment < ceilDiv t.region.1 128
    ∧ p.pixels.length = min 128 (t.region.1 - 128 * p.segment))

/-- A PIXEL packet at a tile (R175, R180, R230, R234): passed on; consumed when addressed to it, of its epoch, a segment of
its region and not an older tally or a copy. -/
def execTilePixelReceive (dt tile : Nat) (port : Bool) (p : PixelPacket) (crc : Word) (s : State) :
    Host.Outcome State Fault Refusal :=
  actAlways dt s fun s => s.onTile tile fun s t =>
    let bs := withCheck (pixelPacket p) crc
    let s := s.passOn tile t port "PIXEL" bs
    if !packetGood bs then s.setTile tile (t.count 1)
    else
      let t := t.hear port s.clk
      if t.pos ≠ some p.pos ∨ tileKeeps bs = false then s.setTile tile t
      else if p.epoch ≠ t.epoch then s.setTile tile (t.count 3)
      else if t.segmentOk p = false then s.setTile tile t
      else
        let key := p.line * 4 + p.segment
        let keep := fun (segs : Tab (List (Nat × Nat × Nat))) =>
          ({ t with rx := some p.tally, segs := tabSet segs key p.pixels }).count 0
        s.setTile tile (match t.rx with
          | none => keep []
          | some r =>
            if r = p.tally then if (tabGet? t.segs key).isSome then t.count 2 else keep t.segs
            else if newer32 p.tally r then keep [] else t)

/-- A presentation token at a tile (R174, R175, R178, R234); it is ignored until the tile's time is locked (R250), but the
end is heard, with its role (R233). -/
def execTileTokenReceive (dt tile : Nat) (port : Bool) (k : Token) (crc : Word) (s : State) :
    Host.Outcome State Fault Refusal :=
  actAlways dt s fun s => s.onTile tile fun s t =>
    let bs := withCheck (tokenPacket k) crc
    let s := s.passOn tile t port "TOKEN" bs
    if !packetGood bs then s.setTile tile (t.count 1)
    else
      let t := t.hear port s.clk
      if tileKeeps bs = false then s.setTile tile t
      else
        let t := t.setPort port { t.port port with role := k.role }
        if !t.locked then s.setTile tile t
        else
          s.setTile tile
            { t.count 4 with last := some k, lastToken := s.clk, lossBlack := false, toks := (k :: t.toks).take 16 }

/-- B(n, 0), PERIOD and S of a tally at a tile: from its token; without one, the grid of its last token extended by PERIOD
(R176). -/
def Tile.grid (t : Tile) (n : Nat) : Option (Nat × Nat × Nat) :=
  match t.toks.find? (·.tally == n % 2 ^ 32) with
  | some k => some (ofLedger k.tp + k.emitOffset, k.period, k.subframes)
  | none =>
    if t.gridSubs ≠ 0 then
      some (t.gridAt + ((n + 2 ^ 32 - t.gridTally % 2 ^ 32) % 2 ^ 32) * t.gridPeriod, t.gridPeriod, t.gridSubs)
    else t.last.map fun k =>
      (ofLedger k.tp + k.emitOffset + ((n + 2 ^ 32 - k.tally) % 2 ^ 32) * k.period, k.period, k.subframes)

/-- Whether an instant is within ±50 ns of one of the grid (R176). -/
def onGrid (ns b : Nat) : Bool := decide (b ≤ ns + 50 ∧ ns ≤ b + 50)

/-- The emission start of tally n at a tile, within ±50 ns (R175, R176): frame n is displayed when it is whole, a token
came and none carries ABORT; else the frame stays, and the tally is incomplete unless aborted or held. -/
def execTileEmissionStart (dt tile tally : Nat) (s : State) : Host.Outcome State Fault Refusal :=
  actAlways dt s fun s => s.onTile tile fun s t =>
    match t.grid tally with
    | none => s.setTile tile t
    | some (b, period, subs) =>
      if onGrid s.ns b = false then s.setTile tile t
      else
        let n := tally % 2 ^ 32
        let toks := t.toks.filter (·.tally == n)
        let whole := t.rx == some n && t.segs.length == t.segments
        let abort := toks.any (·.abort)
        let held := toks.any fun k => t.pos.any fun p => bit k.hold p
        let t := { t with
          gridAt := b, gridTally := tally, gridPeriod := period, gridSubs := subs
          toks := t.toks.filter fun k => newer32 k.tally n, held := held }
        if whole && !toks.isEmpty && !abort then s.setTile tile { t with frame := some t.segs, shown := n }
        else if (!whole || toks.isEmpty) && !abort && !held then
          s.setTile tile ({ t with incTally := n, newInc := true }.count 5)
        else s.setTile tile t

/-- The tile shows black: it has lost its tokens (R178), or its time is not locked (R250). -/
def Tile.black (t : Tile) : Bool := t.lossBlack || !t.locked

/-- The value that a tile shows at its pixel (u, v): that of its region at the place of Table 06.2, or black (R170). -/
def Tile.pixelAt (t : Tile) (u v : Nat) : Nat × Nat × Nat :=
  match t.frame with
  | none => (0, 0, 0)
  | some f =>
    if t.black then (0, 0, 0)
    else
      let (x, y) := tileToRegion t.info.orient t.info.desc.width t.info.desc.height u v
      (tabGetD f (y * 4 + x / 128) []).getD (x % 128) (0, 0, 0)

/-- What a tile shows, row by row of its own grid. -/
def Tile.display (t : Tile) : List (Nat × Nat × Nat) :=
  (List.range (t.info.desc.width * t.info.desc.height)).map fun i =>
    t.pixelAt (i % t.info.desc.width) (i / t.info.desc.width)

/-- Sub-frame k begins at B(n, k) ± 50 ns and emits one whole PWM cycle of the values displayed (R170, R176): the record
holds the tally displayed, k, and the values the tile shows. -/
def execTileSubframe (dt tile k : Nat) (s : State) : Host.Outcome State Fault Refusal :=
  actAlways dt s fun s => s.onTile tile fun s t =>
    if k < t.gridSubs ∧ onGrid s.ns (t.gridAt + k * t.gridPeriod / t.gridSubs) then
      (s.setTile tile t).send "EMIT" tile ([t.shown, k] ++ t.display.flatMap fun p => [p.1, p.2.1, p.2.2])
    else s.setTile tile t

/-- No valid token for LOSS_HOLD ms: the tile shows black (R178). -/
def execTileLossBlack (dt tile : Nat) (s : State) : Host.Outcome State Fault Refusal :=
  actAlways dt s fun s => s.onTile tile fun s t =>
    match t.last with
    | none => s.setTile tile t
    | some k =>
      if k.lossHold ≠ 0 ∧ s.elapsed t.lastToken (ms k.lossHold) ∧ !t.lossBlack then
        s.setTile tile ({ t with lossBlack := true }.count 6)
      else s.setTile tile t

/-- DISP_CRC of a tile: the CRC of R184 over the frame displayed; 0 when nothing is. -/
def Tile.dispCrc (t : Tile) : Nat :=
  match t.frame with
  | none => 0
  | some f => if t.black then 0 else outCrc (f.flatMap (·.2))

/-- The fields of a tile's STATUS (Table 08.7), with the temperature its sensor reads now, if valid. -/
def Tile.status (t : Tile) (clk now64 : Nat) (temp : Option Int) : TileStatus :=
  let a := t.port t.aPort
  let b := t.port !t.aPort
  let hears := fun (x : TilePort) => x.heardAt.any fun c => decide (clk ≤ c + us 40)
  { shown := t.shown, dispCrc := t.dispCrc, temp := temp.getD 0, tempAt := now64, incTally := t.incTally
    hearsA := hears a, hearsB := hears b, roleA := a.role, roleB := b.role
    timeLocked := t.locked, needDiscovery := t.needDiscovery
    nothing := t.frame.isNone || t.black, lossBlack := t.lossBlack, incomplete := t.newInc, held := t.held
    conflict := t.conflict, tempValid := temp.isSome, seq := (t.seq + 1) % 65536
    timeErr := t.timeErr, snapId := t.snapId, rateA := a.rate, rateB := b.rate }

/-- A STATUS every 50 µs on both ports, with a temperature when the sensor's reading is valid (Table 08.7, R235). -/
def execTileStatusSend (dt tile : Nat) (temp : Option Int) (s : State) : Host.Outcome State Fault Refusal :=
  actAlways dt s fun s => s.onTile tile fun s t =>
    if !(t.p0.linked || t.p1.linked) || t.lastStatus.any (fun c => !s.elapsed c (us 48)) then s.setTile tile t
    else
      let x := t.status s.clk s.now64 temp
      let s := s.setTile tile { t with seq := x.seq, newInc := false, lastStatus := some s.clk }
      [false, true].foldl (fun s p =>
        if (t.port p).linked then
          s.packet (tileKey tile p) "STATUS" (statusPacket (p == t.aPort) (t.pos.getD 255) t.epoch x)
        else s) s

/-- A port enters or leaves LINKED (R237): counted, and the next DISCOVER raises the epoch; the link's credits and exchanges
start again (R245, R248). A port asleep does not act on a loss while its refreshes arrive (R260). The tile's first link
brings it into the state. -/
def execTilePortEvent (dt tile : Nat) (port linked : Bool) (rate : Nat) (info : TileInfo) (s : State) :
    Host.Outcome State Fault Refusal :=
  actAlways dt s fun s =>
    let s := if (tabGet? s.tiles tile).isSome then s else s.setTile tile { info := info }
    s.onTile tile fun s t =>
      let x := t.port port
      if x.linked = linked ∨ (!linked && x.asleep && !s.elapsed x.refreshed (us 30)) then s.setTile tile t
      else
        let t := t.setPort port { linked := linked, rate := rate }
        let k := tileKey tile port
        let s := { s with slk := { s.slk with
          credits := tabErase s.slk.credits k, timeLinks := tabErase s.slk.timeLinks k
          regWait := s.slk.regWait.filter (·.1 != k) } }
        let s := { s with phy := { s.phy with tx := tabErase s.phy.tx k } }
        s.setTile tile ({ t with needDiscovery := true }.count 7)

/-- A DISCOVER at a tile (R237, R238): passed on with one hop less, or answered with a DESCRIPTOR of the new epoch. -/
def execTileDiscoverReceive (dt tile : Nat) (port toward : Bool) (hopsLeft sender : Nat) (crc : Word) (s : State) :
    Host.Outcome State Fault Refusal :=
  actAlways dt s fun s => s.onTile tile fun s t =>
    let bs := withCheck (discoverPacket toward hopsLeft sender) crc
    if !packetGood bs then s.setTile tile (t.count 1)
    else
      let t := t.hear port s.clk
      if tileKeeps bs = false then s.setTile tile t
      else if 0 < hopsLeft then
        (s.passOn tile t port "DISCOVER" (discoverPacket toward (hopsLeft - 1) sender)).setTile tile t
      else
        let t := if t.needDiscovery then
            { t with epoch := (if t.epoch = 65535 then 1 else t.epoch + 1), needDiscovery := false }
          else t
        (s.packet (tileKey tile port) "DESCRIPTOR" (descriptorPacket (!toward) t.epoch t.info.desc)).setTile tile t

/-- An ASSIGN at a tile (R234, R238): passed on with one hop less; of its identity and epoch, its position and chain length
are taken; another position under the present epoch sets CONFLICT. -/
def execTileAssignReceive (dt tile : Nat) (port toward : Bool) (hopsLeft epoch pos chainLen ident sender : Nat) (crc : Word)
    (s : State) : Host.Outcome State Fault Refusal :=
  actAlways dt s fun s => s.onTile tile fun s t =>
    let bs := withCheck (assignPacket toward epoch hopsLeft pos chainLen ident sender) crc
    if !packetGood bs then s.setTile tile (t.count 1)
    else
      let t := t.hear port s.clk
      if tileKeeps bs = false then s.setTile tile t
      else if 0 < hopsLeft then
        (s.passOn tile t port "ASSIGN" (assignPacket toward epoch (hopsLeft - 1) pos chainLen ident sender)).setTile tile t
      else if ident ≠ t.info.desc.ident ∨ epoch ≠ t.epoch then s.setTile tile t
      else if t.pos.isSome ∧ t.posEpoch = epoch ∧ t.pos ≠ some pos then s.setTile tile { t with conflict := true }
      else
        s.setTile tile
          { t with
            pos := some pos, posEpoch := epoch, chainLen := chainLen
            conflict := t.conflict && t.posEpoch == epoch, aPort := (if toward then !port else port) }

/-- A CAL_PULL at a tile (R234, R246): passed on; answered with CAL_DATA over the range in rising OFFSET, at most 8,192 bytes
each; a range beyond the image gets no packet, one of another epoch is stale. -/
def execTileCalPullReceive (dt tile : Nat) (port toward : Bool) (epoch pos offset length : Nat) (crc : Word) (s : State) :
    Host.Outcome State Fault Refusal :=
  actAlways dt s fun s => s.onTile tile fun s t =>
    let bs := withCheck (calPullPacket toward pos epoch offset length) crc
    let s := s.passOn tile t port "CAL_PULL" bs
    if !packetGood bs then s.setTile tile (t.count 1)
    else
      let t := t.hear port s.clk
      if t.pos ≠ some pos ∨ tileKeeps bs = false then s.setTile tile t
      else if epoch ≠ t.epoch then s.setTile tile (t.count 3)
      else if t.info.desc.calSize < offset + length then s.setTile tile t
      else
        let s := s.setTile tile t
        (List.range (ceilDiv length 8192)).foldl (fun s i =>
          let o := offset + 8192 * i
          let run := (t.info.image.drop o).take (min 8192 (offset + length - o))
          s.packet (tileKey tile port) "CAL_DATA" (calDataPacket (!toward) pos t.epoch o run)) s

/-- A SNAP at a tile (R247): received before its time it arms a latch; at or after it, it is ignored. -/
def execTileSnapReceive (dt tile : Nat) (port toward : Bool) (id at64 : Nat) (crc : Word) (s : State) :
    Host.Outcome State Fault Refusal :=
  actAlways dt s fun s => s.onTile tile fun s t =>
    let bs := withCheck (snapPacket toward id at64) crc
    let s := s.passOn tile t port "SNAP" bs
    if !packetGood bs then s.setTile tile (t.count 1)
    else
      let t := t.hear port s.clk
      if tileKeeps bs = false ∨ ofLedger at64 ≤ s.ns then s.setTile tile t
      else
        let before := t.snaps.filter fun a => decide (a.2 ≤ ofLedger at64)
        let after := t.snaps.filter fun a => decide (ofLedger at64 < a.2)
        s.setTile tile { t with snaps := before ++ [(id, ofLedger at64)] ++ after }

/-- A packet that only passes through: all but TIME goes on, a REG packet under the onward link's credits; one of the end's
device is heard, and a BEACON tells its role (R233, R234, R245). -/
def State.passPacket (s : State) (k : Nat) (t : Tile) (p : Bool) (bs : List Byte) : State :=
  let type := pkt bs 0 1
  let isReq := pkt bs 7 1 != 8
  let s := if type = 0x10 then s
    else if type = 0x11 then (s.grant (tileKey k p) isReq).passReg k t p isReq bs
    else s.passOn k t p "FORWARD" bs
  if !packetGood bs then s.setTile k (t.count 1)
  else
    let t := if fromDevice bs then t.hear p s.clk else t
    s.setTile k (if type = 3 ∧ tileKeeps bs then t.setPort p { t.port p with role := pkt bs 7 1 } else t)

/-- Traffic that passes through a tile (R234, R259): packets, and the SLEEP, refresh and WAKE patterns, which are passed on and
followed. A refresh is 512 IDLE blocks and a BEACON. -/
def execTileForward (dt tile : Nat) (port : Bool) (x : TileTraffic) (s : State) : Host.Outcome State Fault Refusal :=
  actAlways dt s fun s => s.onTile tile fun s t =>
    let q := t.port port
    match x with
    | .sleep => (s.passBlocks tile t port "SLEEP" (List.replicate 8 (controlBlock 0x78 []))).setTile tile
        (t.setPort port { q with asleep := true, refreshed := s.clk })
    | .refresh beacon =>
      (s.passBlocks tile t port "LPI_REFRESH" (List.replicate 512 idleBlock)).passPacket tile
        (t.setPort port { q with refreshed := s.clk }) port beacon
    | .wake => (s.passBlocks tile t port "WAKE" (List.replicate (blocksIn (t.port (!port)).rate (us 2)) (controlBlock 0x87 []))).setTile
        tile (t.setPort port { q with asleep := false })
    | .packet bs => s.passPacket tile t port bs

/-- A port asleep that has had no refresh for 30 µs acts again on LOS, LOL and block-lock loss (R260). -/
def execLpiRefreshTimeout (dt tile : Nat) (port : Bool) (s : State) : Host.Outcome State Fault Refusal :=
  actAlways dt s fun s => s.onTile tile fun s t =>
    let q := t.port port
    if q.asleep ∧ s.elapsed q.refreshed (us 30) then s.setTile tile (t.setPort port { q with asleep := false })
    else s.setTile tile t

end Sys2Proof.Machine
end

