-- ==== Sys2Proof/Machine/Slk.lean ====
section
/-!
DEFINITION. Commands of Sardylink links and caravan forwarding (08_sardylink.md; 09_caravan_twins.md R263 to R270).
-/
namespace Sys2Proof.Machine

/-! ### Blocks and packets (R222, R228 to R230) -/

/-- The link of a lane: that of its group, or its own. -/
def State.linkOfLane (s : State) (l : Nat) : Nat := if s.groupOf l < 3 then s.groupOf l else 8 + l

def State.setRx (s : State) (k : Nat) (p : List Byte) : State :=
  { s with phy := { s.phy with rx := if p.isEmpty then tabErase s.phy.rx k else tabSet s.phy.rx k p } }

/-- A packet's last block has arrived: its CRC is checked first, then TYPE, header and fields (R230); a packet kept is passed
to its consumer, whose command carries its fields (log entry 14). -/
def State.packetWhole (s : State) (l : Nat) (p : List Byte) : State :=
  let k := s.linkOfLane l
  let tile := decide (3 ≤ k)
  if !packetGood p then s.crcFail l
  else if !typeOk tile (pkt p 0 1) || !slkHeaderOk tile p || !fieldsOk p then s.bump (Reg.SLK_LANE_DROP l)
  else (if k < 3 then s.bump (Reg.SLK_GRP_RX k) else s).send "PACKET" l (p.map (·.toNat))

/-- A block arrives on a lane, of a group in the order of its block stream (R222, R228, R230, R254): an invalid one is counted
and discards the packet it falls inside; a START begins a packet and cuts short one that has not all arrived; data blocks
fill it. -/
def State.rxBlock (s : State) (l : Nat) (b : SlkBlock) : State :=
  let k := s.linkOfLane l
  let part := tabGetD s.phy.rx k []
  if blockInvalid b then (s.bump (Reg.SLK_LANE_BAD_BLOCK l)).setRx k []
  else if b.sync = 2 then
    if blockType b = 0x55 then
      let s := if part.isEmpty then s else s.bump (Reg.SLK_LANE_DROP l)
      let p := (b.bytes.drop 1).take 7
      let n := pkt p 2 2
      if n = 0 ∨ 1152 < n then (s.bump (Reg.SLK_LANE_DROP l)).setRx k [] else s.setRx k p
    else s
  else if part.isEmpty then s
  else
    let p := part ++ b.bytes
    if p.length < 7 + 8 * pkt p 2 2 then s.setRx k p else (s.setRx k []).packetWhole l p

/-! ### The stripe of a group (R254 to R257) -/

def State.stripe (s : State) (g : Nat) : GroupRx := tabGetD s.phy.stripes g {}
def State.setStripe (s : State) (g : Nat) (x : GroupRx) : State :=
  { s with phy := { s.phy with stripes := tabSet s.phy.stripes g x } }

def isAlign (b : SlkBlock) : Bool := b.sync == 2 && blockType b == 0x4B
/-- AM_COUNT of an ALIGN block (Table 08.16). -/
def alignCount (b : SlkBlock) : Nat := pkt b.bytes 4 3

/-- A block of the stream of a group, not one that each lane carries for itself: HAIL, STEP, MASK, SLEEP and WAKE. -/
def isDealt (b : SlkBlock) : Bool := !(b.sync == 2 && [0x2D, 0x33, 0x99, 0x78, 0x87].contains (blockType b))

/-- Clocks to whole ns, rounded up. -/
def clocksNs (c : Nat) : Nat := ceilDiv (5 * c) 4

/-- The greatest skew of a group in clocks and its latest lane: by the arrival of each lane's last ALIGN, one that has not
come being late until now (R255). -/
def State.groupSkew (s : State) (g : Nat) : Nat × Nat :=
  let al := (s.stripe g).aligns.filter fun a => (s.inGroup g).contains a.1
  match al.find? fun a => al.all fun b => decide (signed 24 (a.2.1 + 2 ^ 24 - b.2.1) ≥ 0) with
  | none => (0, 0)
  | some n =>
    let at_ := al.map fun a => (a.1, if a.2.1 = n.2.1 then a.2.2 else s.clk)
    let lo := at_.foldl (fun m a => min m a.2) s.clk
    at_.foldl (fun b a => if b.1 < a.2 - lo then (a.2 - lo, a.1) else b) (0, n.1)

/-- The skew of a group judged (R255): reported; above 640 ns the fault is raised and the latest member leaves, to relock; the
fault recovers after 1 s within 640 ns. -/
def State.skewJudge (s : State) (g : Nat) : State :=
  let (c, latest) := s.groupSkew g
  let ns := clocksNs c
  let s := s.wn (Reg.SLK_GRP_SKEW g) (min 65535 ns)
  if 640 < ns then
    let s := { s with slk := { s.slk with skewSince := tabErase s.slk.skewSince g } }
    let s := ((s.raiseOnce 130 g ns).bump (Reg.LANE_LOCK_LOSS latest)).groupRemove latest
    (s.setLaneSt latest 6).modLane latest fun x => { x with relockSince := s.clk }
  else match tabGet? s.slk.skewSince g with
    | some c => if s.elapsed c (sec 1) then s.condClear 130 g else s
    | none => { s with slk := { s.slk with skewSince := tabSet s.slk.skewSince g s.clk } }

/-- A period of the stripe opens when the lanes in service have come to the same AM_COUNT: their blocks before it are spent;
MASK counts as far as it was announced (R257), and the partner's RX_MASK is taken (R256). -/
def State.stripeOpen (s : State) (g : Nat) : Option State :=
  let x := s.stripe g
  let ls := s.inGroup g
  let q := ls.map fun l => (l, (tabGetD x.queues l []).dropWhile fun b => !isAlign b)
  let heads := q.filterMap fun e => e.2.head?.map alignCount
  let keep := fun (q : Tab (List SlkBlock)) => s.setStripe g { x with queues := q.filter fun e => !e.2.isEmpty }
  if ls.isEmpty ∨ heads.length < ls.length then none
  else
    let newest := heads.foldl (fun a c => if 0 < signed 24 (c + 2 ^ 24 - a) then c else a) (heads.headD 0)
    if heads.all (· == newest) then
      let b := (q.head?.bind fun e => e.2.head?).getD idleBlock
      let mask := pkt b.bytes 2 1 % 16
      let s := (keep (q.map fun e => (e.1, e.2.drop 1))).setFld (Reg.SLK_GRP_STAT g) 15 12 (pkt b.bytes 3 1 % 16)
      let mask := (x.announced.map fun n => mask &&& n).getD mask
      some ((s.setStripe g { s.stripe g with
        mask := mask, announced := some (pkt b.bytes 2 1 / 16), opened := true, turn := 0 }).skewJudge g)
    else some (keep (q.map fun e => (e.1, if (e.2.head?.map alignCount) == some newest then e.2 else e.2.drop 1)))

/-- The block that follows in the stream of a group: that of the next member of the mask. One dealt to a lane that has left
service is lost, and with it what the packet under way held there (R256); the period ends when every lane has come to its
next ALIGN. -/
def State.stripeNext (s : State) (g : Nat) : Option State :=
  let x := s.stripe g
  let ms := (List.range 4).filter fun m => bit x.mask m
  let m := ms.getD (x.turn % ms.length) 0
  let s' := s.setStripe g { x with turn := (x.turn + 1) % max 1 ms.length }
  let here := (s.inGroup g).filter fun l => bit x.mask (s.memberNo l)
  let head := fun (l : Nat) => (tabGetD x.queues l []).head?
  if here.all fun l => (head l).any isAlign then some (s.setStripe g { x with opened := false })
  else match here.find? fun l => s.memberNo l == m with
    | some l => match tabGetD x.queues l [] with
      | b :: bs =>
        if isAlign b then some s'
        else some (((s'.setStripe g { s'.stripe g with queues := tabSet x.queues l bs }).rxBlock l b))
      | [] => none
    | none =>
      if here.any fun l => (head l).any fun b => !isAlign b then
        some (if (tabGetD s.phy.rx g []).isEmpty then s' else s'.rxBlock ((here.headD 0)) ⟨1, zeros 8⟩)
      else none

/-- What has come of the stream of a group is dealt out in order, at most a number of steps. -/
def State.stripeRun : Nat → State → Nat → State
  | 0, s, _ => s
  | n + 1, s, g =>
    match (if (s.stripe g).opened then s.stripeNext g else s.stripeOpen g) with
    | some t => State.stripeRun n t g
    | none => s

/-- Blocks arrive on a lane of a group: they wait there for their turn in the group's stream (R254, R255). -/
def State.stripeReceive (s : State) (g l : Nat) (bs : List SlkBlock) : State :=
  if s.laneBit l 13 = false then s
  else
    let x := s.stripe g
    let aligns := (bs.filter isAlign).foldl (fun t b => tabSet t l (alignCount b, s.clk)) x.aligns
    let s := s.setStripe g { x with queues := tabMod x.queues l [] (· ++ bs.filter isDealt), aligns := aligns }
    let n := ((s.stripe g).queues.map fun e => e.2.length).foldl (· + ·) 0
    State.stripeRun (5 * n + 16) s g

/-- Blocks arrive on a lane (R221, R222, R228 to R230, R254, R255). -/
def execSlkPacketReceive (dt : Nat) (lane : Fin 24) (blocks : List SlkBlock) (s : State) :
    Host.Outcome State Fault Refusal :=
  act dt s fun s =>
    if s.groupOf lane < 3 then s.stripeReceive (s.groupOf lane) lane blocks
    else blocks.foldl (fun s b => s.rxBlock lane b) s

/-! ### Time transfer -/

/-- A command at one end of a link: the device's acts while the compute die is out of reset, a tile's always. -/
def linkAct (dt : Nat) (link : Link) (s : State) (f : State → State) : Host.Outcome State Fault Refusal :=
  match link with
  | .tile _ _ => actAlways dt s f
  | _ => act dt s f

/-- Whether a link is up: a group with a member in service, a LINKED lane, a linked port. -/
def State.linkUpNow (s : State) (k : Nat) : Bool :=
  if k < 3 then !(s.inGroup k).isEmpty else if k < 64 then s.linked (k - 8) else (s.tilePort k).linked

/-- The cadence of TIME packets: every 1 ms on Profile C, every 100 µs on Profile T (R248). -/
def timeCadence (k : Nat) : Nat := if k < 3 then ms 1 else us 100

/-- A TIME packet is sent when its cadence has it due (R248). -/
def execTimePacketSend (dt : Nat) (link : Link) (s : State) : Host.Outcome State Fault Refusal :=
  linkAct dt link s fun s =>
    let k := linkKey link
    let t := s.timeLink k
    if s.linkUpNow k ∧ t.dueAt ≤ s.clk then (s.setTimeLink k { t with dueAt := s.clk + timeCadence k }).timeSend k else s

/-- A TIME packet arrives (R249, R251); at a tile its end is heard when the device sent it (R233). -/
def execTimePacketReceive (dt : Nat) (link : Link) (p : TimePacket) (s : State) : Host.Outcome State Fault Refusal :=
  linkAct dt link s fun s =>
    let s := match link with
      | .tile k port => if p.sender = 0 then s else s.onTile k fun s t => s.setTile k (t.hear port s.clk)
      | _ => s
    s.timeReceive (linkKey link) p

/-- A device with a fixed step announces it on every caravan group (R251). -/
def execStepAnnounce (dt : Nat) (s : State) : Host.Outcome State Fault Refusal :=
  act dt s fun s => if s.time.stepAt.isSome then s.liveGroups.foldl (fun s g => s.timeSend g) s else s

/-- A step announced by the twin, or by the upstream device of the selected caravan source (R67). -/
def execStepAnnounceReceive (dt : Nat) (fromTwin : Bool) (group : Fin 3) (tally32 : Nat) (stepNs : Int) (s : State) :
    Host.Outcome State Fault Refusal :=
  act dt s fun s =>
    if (fromTwin && bit (s.rn Reg.TWIN_CFG) 0) || (!fromTwin && s.time.source == 6 + group.val) then
      s.adoptStep group tally32 stepNs
    else s

/-- A BEACON on a local chain end: ROLE and the node ID (R233); one in low-power idle carries it in its refreshes (R259). -/
def execBeaconSend (dt : Nat) (lane : Fin 24) (s : State) : Host.Outcome State Fault Refusal :=
  act dt s fun s =>
    if s.laneRole lane = 5 ∧ s.linked lane ∧ (s.lpi lane).idle = false then
      ({ s with slk := { s.slk with lastBeacon := tabSet s.slk.lastBeacon lane s.clk } }).packet (8 + lane) "BEACON"
        (beaconPacket (s.towardA lane) s.role s.nodeId)
    else s

/-! ### Credits (R245) -/

/-- A CREDIT block updates the limits of the link (R245); what waited for credits leaves. -/
def execCreditReceive (dt : Nat) (link : Link) (reqLimit rspLimit : Nat) (s : State) :
    Host.Outcome State Fault Refusal :=
  linkAct dt link s fun s =>
    let s := s.modCredit (linkKey link) fun c => { c with reqLimit := reqLimit % 65536, rspLimit := rspLimit % 65536 }
    s.regFlush.ferryPump

/-- A CREDIT block with the totals this end grants, at least every 10 µs (R245). -/
def execCreditSend (dt : Nat) (link : Link) (s : State) : Host.Outcome State Fault Refusal :=
  linkAct dt link s fun s => s.creditSend (linkKey link)

/-! ### Forwarding (R253, R264 to R268) -/

/-- A stream number heard from two origins within 1 s is a conflict (R266). -/
def State.streamHeard (s : State) (g origin stream : Nat) : State :=
  let l := s.twin.streamOrigins.filter fun e => decide (s.clk < e.2 + sec 1)
  let other := l.any fun e => e.1.2 == stream && e.1.1 != origin
  let l := ((origin, stream), s.clk) :: l.filter (·.1 != (origin, stream))
  let s := { s with twin := { s.twin with streamOrigins := l } }
  if other then
    let s := s.bump Reg.SLK_STREAM_CONFLICT
    let x := s.fltInst 145 0
    if x.standing then s.setFltInst 145 0 { x with cond := false, quietFrom := s.clk + sec 1 }
    else s.raiseFor 145 0 (stream + 65536 * g) (sec 1)
  else s

/-- Where a Profile C packet comes from and goes to (R265): origin, destination (0 for a stream). -/
def packetEnds (p : List Byte) : Nat × Nat :=
  match pkt p 0 1 with
  | 0x20 => (pkt p 7 4, 0)
  | 0x21 => (pkt p 7 4, pkt p 11 4)
  | _ => if pkt p 7 1 = 8 then (pkt p 15 4, pkt p 11 4) else (pkt p 11 4, pkt p 15 4)

/-- UNREACHABLE to the requester of a REG request, on the group where it came (R242, R253, R268). -/
def State.unreachable (s : State) (g : Nat) (p : List Byte) : State :=
  if s.twin.dupNode then s
  else s.regOut g false "REG_RESPONSE" (regPacket false (tailC 0)
    { op := 8, flags := pkt p 8 1 % 2, tag := pkt p 9 2, requester := pkt p 11 4, target := pkt p 15 4, space := pkt p 19 1
      offset := pkt p 20 5, count := pkt p 25 2, status := 3 })

/-- A packet not addressed to the device is forwarded with HOPS + 1 (R253, R264 to R268): dropped at the hop limit, held
back when its origin is the device's own ID (R263, R265), routed or broadcast; without a route it is discarded, and a REG
request answered UNREACHABLE. A REG packet has its credit granted, and takes one of each onward link (R245). The hop-limit
fault is raised at most once per second for each group (log entry 210). -/
def State.forward (s : State) (g : Nat) (p : List Byte) : State :=
  let type := pkt p 0 1
  let hops := pkt p 4 2
  let good := packetGood p
  let (origin, dest) := packetEnds p
  let isReq := type == 0x11 && pkt p 7 1 != 8
  let s := if type = 0x11 then s.grant g isReq else s
  if origin = s.nodeId then s
  else
    let s := if type ≠ 0x20 ∧ good then s.learnRoute g hops origin else s
    let s := if type = 0x20 ∧ good then s.streamHeard g origin (pkt p 11 1) else s
    if type ≠ 0x20 ∧ dest = s.nodeId then s
    else if s.fld Reg.SLK_HOP_LIMIT 15 0 ≤ hops + 1 then
      let s := (s.bump (Reg.SLK_GRP_HOPDROP g)).raiseSec 133 g
      if isReq && good then s.unreachable g p else s
    else
      let outs := if type = 0x20 then
          if s.topo = 2 then s.ringOnward g
          else [0, 1, 2].filter fun q => q != g && bit (s.rn (Reg.SLK_STREAM_FWD (pkt p 11 1))) q
        else s.outGroups g dest
      if outs.isEmpty ∧ type ≠ 0x20 ∧ s.topo ≠ 2 ∧ dest ≠ 0xFFFFFFFF then
        let s := s.bump Reg.SLK_ROUTE_MISS
        if isReq && good then s.unreachable g p else s
      else outs.foldl (fun s q =>
        if type = 0x11 then s.regOut q isReq (regKind q isReq) (rehop p) else s.groupSend q "FORWARD" (rehop p)) s

def execCaravanForward (dt : Nat) (group : Fin 3) (packet : List Byte) (s : State) : Host.Outcome State Fault Refusal :=
  act dt s fun s => s.forward group packet

/-- A pixel of a staging buffer as a STREAM packet carries it (Tables 03.3, 08.15): the word of P10, or 16-bit values. -/
def State.stagePixel (s : State) (addr fmt i : Nat) : List Nat :=
  match fmt with
  | 0 => [s.holdNat (addr + 4 * i) 4]
  | 1 => (List.range 3).map fun k => s.holdNat (addr + 6 * i + 2 * k) 2
  | _ => (List.range 4).map fun k => s.holdNat (addr + 8 * i + 2 * k) 2

/-- A STREAM packet of an exported source (Table 08.15): pixels of its newest whole frame. -/
def State.exportPacket (s : State) (r : Receiver) (stream line x count : Nat) : Option StreamPacket :=
  match r.bufs.find? fun b => b.held && b.whole && r.newest == some b.media with
  | none => none
  | some b =>
    let w := cfgW b.cfg
    if count = 0 ∨ 1024 < count ∨ w < x + count ∨ cfgH b.cfg ≤ line then none
    else some
      { cls := s.fld (Reg.SLK_STREAM_CLASS stream) 2 0, origin := s.nodeId, stream := stream, fmt := cfgFmt b.cfg
        width := w, height := cfgH b.cfg, media := toLedger b.media, line := line, x := x
        pixels := (List.range count).map fun i => s.stagePixel b.addr (cfgFmt b.cfg) (line * w + x + i) }

/-- Pixels of an exported source leave on the groups ING_SRC_EXPORT names, both ring groups in a ring (R94, R265, R266). -/
def execStreamExportSend (dt : Nat) (receiver : Fin 32) (line x count : Nat) (s : State) :
    Host.Outcome State Fault Refusal :=
  act dt s fun s =>
    let w := s.rn (Reg.ING_SRC_EXPORT receiver)
    let groups := if !bit w 8 then []
      else if s.topo = 2 then (if bits w 11 9 = 0 then [] else s.ringGroups)
      else [0, 1, 2].filter fun g => bit w (9 + g)
    match s.exportPacket (s.rcv receiver) (bits w 7 0) line x count with
    | some p => groups.foldl (fun s g => s.groupSend g "STREAM" (streamPacket 0 p)) s
    | none => s

/-- A MGMT packet addressed to the device or to every node (R252, R265, R269, R270): its route is learned, a copy within
10 ms is discarded and counted; the response to a relayed request returns to its controller (R408), the answer to an arm is noted
(R77), and any other QMP message is delivered. -/
def execMgmtReceive (dt : Nat) (group : Fin 3) (hops origin dest seq : Nat) (message : List Byte) (s : State) :
    Host.Outcome State Fault Refusal :=
  act dt s fun s =>
    if origin = s.nodeId then s
    else
      let s := s.learnRoute group hops origin
      if dest ≠ s.nodeId ∧ dest ≠ 0xFFFFFFFF then s
      else
        let (dup, l) := seenKey s.twin.dupMgmt s.clk (origin, seq)
        let s := { s with twin := { s.twin with dupMgmt := l } }
        if dup then s.bump Reg.SLK_DUP
        else match s.relayReturn message with
          | (s, true) => s
          | (s, false) =>
            let fld := fun (i n : Nat) => beNat ((message.drop i).take n)
            let (s, poll) := if fld 3 1 = 5 ∧ fld 4 2 = 0x40 then s.pollAnswer origin (fld 12 4) (fld 24 1) (fld 32 1)
              else (s, false)
            if poll then s else s.qmpDeliver group origin seq message

/-- A set of members as a mask. -/
def maskOf (ms : List Nat) : Nat := ms.foldl (fun a m => putBit a m true) 0

/-- The ALIGN block of a member (Table 08.16). -/
def State.alignBlock (s : State) (g l am : Nat) : SlkBlock :=
  let f := fun (hi lo : Nat) => s.fld (Reg.SLK_GRP_STAT g) hi lo
  controlBlock 0x4B (beBytes 1 (s.memberNo l) ++ beBytes 1 (f 3 0 + 16 * f 7 4) ++ beBytes 1 (f 11 8) ++ beBytes 3 am)

/-- The opening of a stripe period, 16,384 blocks after the last (R254, R256 to R258). MASK takes the members announced for
it that are in service and in the partner's RX_MASK; those that are both now are announced in NEXT_MASK (at the group's first
period they carry the stripe at once). A change is counted and breaks exchanges under way (R248). Classes are shed. Every
member in service sends ALIGN, and dealing starts from the lowest member again. -/
def execAlignPeriod (dt : Nat) (group : Fin 3) (s : State) : Host.Outcome State Fault Refusal :=
  act dt s fun s =>
    let g := group.val
    let here := s.inGroup g
    let last := tabGet? s.slk.amCount g
    let period := 16384 * 66 * 256 / [400, 1650, 3300, 4125, 8250].getD (s.groupRate g) 400
    if here.isEmpty ∨ last.any (fun x => !s.elapsed x.2 period) then s
    else
      let old := s.fld (Reg.SLK_GRP_STAT g) 3 0
      let now := maskOf ((here.map s.memberNo).filter fun m => bit (s.fld (Reg.SLK_GRP_STAT g) 15 12) m)
      let mask := if last.isNone then now else s.fld (Reg.SLK_GRP_STAT g) 7 4 &&& now
      let s := (s.setFld (Reg.SLK_GRP_STAT g) 3 0 mask).setFld (Reg.SLK_GRP_STAT g) 7 4 now
      let s := if mask = old then s else
        let s := s.bump (Reg.SLK_GRP_RESTRIPE g)
        s.setTimeLink g { s.timeLink g with sent := [], got := [] }
      let n := ((List.range 4).filter fun m => bit mask m).length
      let k := shedBelow n (s.groupRate g) (s.demands g)
      let s := s.setFld (Reg.SLK_GRP_STAT g) 18 16 k
      let s := if k = 0 then s.condClear 131 g else s.raiseOnce 131 g k
      let am := ((last.map (·.1)).getD 0 + 1) % 2 ^ 24
      let s := { s with slk := { s.slk with amCount := tabSet s.slk.amCount g (am, s.clk) } }
      let s := s.setLinkTx g { s.linkTx g with deal := 0 }
      here.foldl (fun s l => s.sendBlocks "ALIGN" l [s.alignBlock g l am]) s

/-- A MASK block, or an ALIGN, carries the partner's RX_MASK (R256). -/
def execMaskReceive (dt : Nat) (group : Fin 3) (rxMask : Nat) (s : State) : Host.Outcome State Fault Refusal :=
  act dt s fun s => s.setFld (Reg.SLK_GRP_STAT group) 15 12 (rxMask % 16)

/-- The skew of a group's members judged by the ALIGN blocks that have come and those still missing (R255). -/
def execGroupSkewExceed (dt : Nat) (group : Fin 3) (s : State) : Host.Outcome State Fault Refusal :=
  act dt s fun s => s.skewJudge group

/-- A presence message to every node every 1 s, and when a group has become LINKED or lost its last member (R269, Table
14.3): NODE, DEVICE_ID, ROLE and BOOT_COUNT in a MGMT packet on every group. -/
def execPresenceSend (dt : Nat) (s : State) : Host.Outcome State Fault Refusal :=
  act dt s fun s =>
    let due := match s.twin.presence with
      | some (c, gs) => s.elapsed c (sec 1) || gs != s.liveGroups
      | none => true
    if !due then s
    else
      let s := { s with twin := { s.twin with presence := some (s.clk, s.liveGroups) } }
      let (q, s) := s.ownSeq
      let body := beBytes 4 s.nodeId ++ (List.range 4).flatMap (fun i => leBytes 4 (s.rn (Reg.SYS_UID i)))
        ++ beBytes 1 s.role ++ beBytes 4 (s.rn Reg.SYS_BOOT_COUNT)
      (if s.topo = 2 then s.ringGroups else s.liveGroups).foldl (fun s g =>
        s.originate g "PRESENCE" (mgmtPacket 0 s.nodeId 0xFFFFFFFF (qmpBytes 0 0x90 0 q s.nodeId 0 0 body))) s

/-- A presence message arrives (R263, R269): the device's own node ID with another unique ID is a duplicate. -/
def execPresenceReceive (dt : Nat) (group : Fin 3) (hops node uid role : Nat) (s : State) :
    Host.Outcome State Fault Refusal :=
  act dt s fun s =>
    let own := (List.range 4).foldr (fun i a => a * 2 ^ 32 + s.rn (Reg.SYS_UID i)) 0
    if node = s.nodeId then
      if uid = own then s
      else ({ s with twin := { s.twin with dupNode := true } }).raiseOnce 144 0 role
    else
      let s := if node = s.rn Reg.TWIN_PEER then { s with twin := { s.twin with peerUid := some uid } } else s
      s.learnRoute group hops node

/-- A route entry not refreshed for 3.5 s is removed (R269). -/
def execRouteExpire (dt node : Nat) (s : State) : Host.Outcome State Fault Refusal :=
  act dt s fun s =>
    let rs := s.twin.routes.filter fun r => !(r.node == node && s.elapsed r.refreshed (ms 3500))
    ({ s with twin := { s.twin with routes := rs } }).wn Reg.SLK_ROUTE_COUNT rs.length

end Sys2Proof.Machine
end

