-- ==== Sys2Proof/Machine/Ingest.lean ====
section
/-!
DEFINITION. Commands of sources and ingest (03_ingest.md).
-/
namespace Sys2Proof.Machine

/-- An ST 2110-20 packet on a path of a receiver (R80 to R86). -/
def execSt2110Packet (dt : Nat) (receiver : Fin 32) (path : Fin 2) (p : RtpPacket) (s : State) :
    Host.Outcome State Fault Refusal :=
  act dt s fun s => s.rtpPacket receiver path p

/-- A path silent for TIMEOUT (R84, R94). -/
def execPathTimeout (dt : Nat) (receiver : Fin 32) (path : Fin 2) (s : State) : Host.Outcome State Fault Refusal :=
  act dt s fun s => s.pathTimeout receiver path

/-- A STREAM packet (R252, R253, R266): forwarded, and consumed by each type-1 receiver of its origin and stream. A copy
whose check word fails is counted and not consumed; nor is one whose header or fields lie outside their ranges (R230). -/
def execStreamPacketReceive (dt : Nat) (group : Fin 3) (hops : Nat) (p : StreamPacket) (crc : Word) (s : State) :
    Host.Outcome State Fault Refusal :=
  act dt s fun s =>
    let bs := withCheck (streamPacket hops p) crc
    let lane := ((s.members group).head?).getD 0
    let s := s.forward group bs
    if !packetGood bs then s.crcFail lane
    else if !slkHeaderOk false bs || !fieldsOk bs then s.bump (Reg.SLK_LANE_DROP lane)
    else if p.origin = s.nodeId then s
    else
      let takers := (List.range 32).filter fun i => s.takesStream i p
      takers.foldl (fun s i => s.streamPacket i p) s

/-- A write of SEL of a still (R95): a commit; 1 for a one-buffer still is ignored and counted. -/
def State.stillSel (s : State) (req : Requester) (i : Nat) (sel : Bool) (cue : Option Nat := none) : State :=
  let r := s.rcv i
  if sel ∧ cfgType r.cfg = 2 ∧ cfgDepth r.cfg = 1 then s.accErr req (Reg.ING_SRC_CLIP i) true false
  else s.submit (.stillSel i sel) true cue

def execStillSelWrite (dt : Nat) (req : Requester) (receiver : Fin 32) (sel : Bool) (s : State) :
    Host.Outcome State Fault Refusal :=
  actBy dt req s fun s => s.stillSel req receiver sel

/-- A write of ING_SRC_START_HI (R96): a commit that restarts the clip from the new START. A START whose NANOSECONDS are
out of range is ignored (R13). -/
def State.clipStart (s : State) (req : Requester) (i hi : Nat) (cue : Option Nat := none) : State :=
  let s := s.pairTake req (Reg.ING_SRC_START i)
  let v := s.rn (Reg.ING_SRC_START i) + 2 ^ 32 * hi
  if ledgerOk v then s.submit (.clipStart i v) true cue else s

def execClipStartWrite (dt : Nat) (req : Requester) (receiver : Fin 32) (startHi : Word) (s : State) :
    Host.Outcome State Fault Refusal :=
  actBy dt req s fun s => s.clipStart req receiver startHi.toNat

/-- A direct write of a receiver's configuration register (R101): ignored and counted while STATE is 1, 2 or 3, except
START, and CLIP for its SEL alone; free otherwise. -/
def State.srcCfgWrite (s : State) (req : Requester) (i : Nat) (reg : SrcReg) (v : Nat) (cue : Option Nat := none) :
    State :=
  let r := s.rcv i
  let busy := r.state != 0
  let put := fun (c : SrcCfg) => s.setRcv i { r with cfg := c }
  let c := r.cfg
  match reg with
  | .startLo => s.pairPut req (Reg.ING_SRC_START i) v
  | .clip =>
    if busy then s.stillSel req i (bit v 24) cue
    else put { c with clip := bits v 20 0 + 2 ^ 24 * (bit v 24).toNat }
  | _ =>
    if busy then
      let a := match reg with
        | .cfg => Reg.ING_SRC_CFG i
        | .size => Reg.ING_SRC_SIZE i
        | .xfer => Reg.ING_SRC_XFER i
        | .p0Addr => Reg.ING_SRC_P0_ADDR i
        | .p0Port => Reg.ING_SRC_P0_PORT i
        | .p1Addr => Reg.ING_SRC_P1_ADDR i
        | .p1Port => Reg.ING_SRC_P1_PORT i
        | _ => Reg.ING_SRC_PQ_PEAK i
      s.accErr req a true false
    else
      match reg with
      | .cfg => put { c with cfg := bits v 16 0 + 2 ^ 20 * bits v 27 20 }
      | .size => put { c with size := v }
      | .xfer => put { c with xfer := bits v 6 0 + 65536 * bits v 31 16 }
      | .p0Addr => put { c with p0Addr := v }
      | .p0Port => put { c with p0Port := v }
      | .p1Addr => put { c with p1Addr := v }
      | .p1Port => put { c with p1Port := v }
      | _ => put { c with pqPeak := bits v 15 0 }

def execIngSrcCfgWrite (dt : Nat) (req : Requester) (receiver : Fin 32) (reg : SrcReg) (value : Word) (s : State) :
    Host.Outcome State Fault Refusal :=
  actBy dt req s fun s => s.srcCfgWrite req receiver reg value.toNat

end Sys2Proof.Machine
end

