-- ==== Sys2Proof/Machine/Lanes.lean ====
section
/-!
DEFINITION. Commands of the lanes: hails, the ladder, lock and signal detectors, reserve lanes, tests and margins
(07_lanes.md, R197 to R219), and the PLL and reference-clock events (R197, R529).
-/
namespace Sys2Proof.Machine

/-- The HAIL block a lane sends (Table 08.2); its MAX_RATE is the least of R223. -/
def State.hailBlock (s : State) (l : Nat) (answer : Bool) : SlkBlock :=
  let r := s.laneRole l
  let maxRate := min (min (s.laneCfgRate l) (s.fld (Reg.LANE_STATE l) 22 20)) (roleLimit r)
  let third := if r = 5 then 0 else
    s.groupOf l + 1 + 4 * s.memberNo l + 16 * ((s.members (s.groupOf l)).length - 1)
  controlBlock 0x2D (beBytes 1 (1 + 16 * (if r = 5 then 1 else 2)) ++ beBytes 1 (r + 8 * maxRate + 64 * answer.toNat)
    ++ beBytes 1 third ++ beBytes 4 (s.rn Reg.SLK_NODE_ID))

/-- A HAIL block leaves: in EXCHANGE after every 15 IDLE blocks (R224). -/
def State.hail (s : State) (l : Nat) (answer : Bool) : State :=
  let h := s.hailBlock l answer
  (s.send "HAIL" l (h.bytes.map (·.toNat))).lineOut l s.clk s.clk
    ((if answer then List.replicate 15 idleBlock else []) ++ [h])

/-- A lane in HAIL (R199) or RESERVE_IDLE (R211) sends one hail block each 1 ms; in EXCHANGE a HAIL with ANSWER set
follows every 15 IDLE blocks (R224). -/
def execHailSend (dt : Nat) (lane : Fin 24) (s : State) : Host.Outcome State Fault Refusal :=
  act dt s fun s =>
    let st := s.laneSt lane
    let due : Bool := match (s.lane lane).hailAt with
      | some c => s.elapsed c (ms 1)
      | none => true
    if st = 3 then s.hail lane true
    else if (st = 2 ∨ st = 9) ∧ due then
      (s.modLane lane fun x => { x with hailAt := some s.clk }).hail lane false
    else s

/-- A hail is valid (R223). -/
def hailValid (h : Hail) : Bool :=
  h.version == 1 && (h.profile == 1 || h.profile == 2) && decide (h.maxRate ≤ 4) && h.reservedZero

/-- The profile of a lane's role: T for tiles, C for groups and reserves. -/
def State.laneProfile (s : State) (l : Nat) : Nat := if s.laneRole l = 5 then 1 else 2

/-- The target of R200. -/
def State.target (s : State) (l partnerMax : Nat) : Nat :=
  min (min (s.laneCfgRate l) partnerMax) (min (s.fld (Reg.LANE_STATE l) 22 20) (roleLimit (s.laneRole l)))

/-- The lane is LINKED at a rate: a group member carries traffic, or is an idle reserve when another has its place; a tile
chain goes to discovery (R201, R206, R210). -/
def State.linkUp (s : State) (l rate : Nat) : State :=
  let s := ((s.setFld (Reg.LANE_STATE l) 6 4 rate).setLaneSt l 5).setTx l .idle
  let r := s.laneRole l
  if 2 ≤ r ∧ r ≤ 4 then if s.placeTaken l then s.reserveIdle l else s.groupJoin l else s

/-- A STEP block (Table 08.1). -/
def stepBlock (rung count target : Nat) : SlkBlock :=
  controlBlock 0x33 (beBytes 1 rung ++ beBytes 1 count ++ beBytes 1 target)

/-- A step to a rung starts: STEP blocks with COUNTDOWN 255, separated by single IDLE blocks, until the partner's name the
same (R225). -/
def State.startStep (s : State) (l rung target : Nat) : State :=
  let s := s.setLaneSt l 4
  let s := s.modLane l fun x =>
    { x with
      target := target, nextRung := rung, fromRate := s.laneRate l, stepAgreed := none, lastCount := 255, txSwitch := none
      rxSwitch := none, passed := false, partnerPassed := false }
  (s.setTx l (.step rung target)).sendBlocks "STEP" l [stepBlock rung 255 target, idleBlock]

/-- The first step of a lane whose EXCHANGE has completed (R201): LINKED at 1.25 Gbaud, or the first rung; a member that has
left its group, or whose group carries traffic, climbs straight to the group rate in one step (R210). -/
def State.firstStep (s : State) (l target : Nat) : State :=
  if target = 0 then s.linkUp l 0
  else
    let r := s.laneRole l
    let busy := decide (2 ≤ r ∧ r ≤ 4) && !(s.inGroup (r - 2)).isEmpty
    let rate := if busy then s.groupRate (r - 2) else target
    s.startStep l (if busy || (s.lane l).oneStep then rate else 1) rate

/-- A member has completed EXCHANGE and waits for the others (R206). -/
def State.exchanged (s : State) (l : Nat) : Bool := s.laneSt l == 3 && decide (16 ≤ (s.lane l).hails)

/-- The members of a group whose EXCHANGE has completed start their steps together, when none is still in EXCHANGE and none
climbs already (R206; log entry 203); beside members in service each goes on alone (R210). -/
def State.groupStart (s : State) (g : Nat) : State :=
  let ms := (s.members g).filter fun m => s.laneSt m == 3
  let target := ms.foldl (fun a m => min a (s.lane m).target) 4
  if !(s.inGroup g).isEmpty then
    (ms.filter s.exchanged).foldl (fun s m => s.firstStep m (s.lane m).target) s
  else if ms.all s.exchanged && (s.climbing g).isEmpty then ms.foldl (fun s m => s.firstStep m target) s
  else s

/-- EXCHANGE completes at a target (R200, R201): a reserve waits in RESERVE_IDLE (R211), a member for the others of its
group (R206). -/
def State.exchangeDone (s : State) (l target : Nat) : State :=
  let r := s.laneRole l
  let s := s.modLane l fun x => { x with target := target }
  if r = 6 then s.reserveIdle l else if 2 ≤ r ∧ r ≤ 4 then s.groupStart (r - 2) else s.firstStep l target

/-- An abort of one lane's training; the members of its group that had waited for it go on (R204, R206). -/
def State.abortAlone (s : State) (l : Nat) : State :=
  let r := s.laneRole l
  let s := s.laneAbort l
  if 2 ≤ r ∧ r ≤ 4 then s.groupStart (r - 2) else s

/-- A partner's profile does not match the role: MISMATCH, its fault, and the lane stays in HAIL (R200). -/
def State.mismatch (s : State) (l profile : Nat) : State :=
  let s := if s.laneSt l = 3 then s.enterHail l else s
  ((s.setLaneBit l 12 true).setLaneBit l 10 false).raiseOnce 98 l profile

/-- A HAIL block arrives (R199, R200, R224): an invalid one breaks a run of alike ones. In HAIL a valid one counts once the
lane holds block lock. LANE_PARTNER is written for a partner whose profile matches (log entry 204). -/
def execHailReceive (dt : Nat) (lane : Fin 24) (h : Hail) (s : State) : Host.Outcome State Fault Refusal :=
  act dt s fun s =>
    let l := lane.val
    if !(s.isSardy l) then s
    else if hailValid h = false then
      if s.exchanged l then s else s.modLane l fun x => { x with hails := 0, lastHail := none }
    else if s.laneRole l ≠ 5 ∧ h.node = s.rn Reg.SLK_NODE_ID then
      ({ s with twin := { s.twin with dupNode := true } }.raiseOnce 144 0 h.node).modLane l fun x =>
        if s.exchanged l then x else { x with hails := 0, lastHail := none }
    else if s.laneSt l = 2 ∧ s.laneBit l 9 then
      if h.profile = s.laneProfile l then
        let s := (s.setLaneBit l 12 false).condClear 98 l
        let s := s.wn (Reg.LANE_PARTNER l) (h.maxRate + 8 * h.profile)
        let s := (s.setLaneSt l 3).bump (Reg.LANE_TRAIN l)
        let s := s.modLane l fun x =>
          { x with exchSince := s.clk, hails := (if h.answer then 1 else 0), lastHail := some h }
        s.hail l true
      else s.mismatch l h.profile
    else if s.laneSt l = 3 ∧ s.exchanged l = false then
      let x := s.lane l
      if h.profile ≠ s.laneProfile l then s.mismatch l h.profile
      else if s.elapsed x.exchSince (ms 20) then s.abortAlone l
      else
        let n := if h.answer then (if x.lastHail = some h then x.hails + 1 else 1) else 0
        let s := s.modLane l fun x => { x with hails := n, lastHail := some h }
        let s := s.wn (Reg.LANE_PARTNER l) (h.maxRate + 8 * h.profile)
        if 16 ≤ n then
          let s := if s.laneRole l = 5 then s else s.wn (Reg.SLK_GRP_PEER (s.groupOf l)) h.node
          s.exchangeDone l (s.target l h.maxRate)
        else s
    else s

/-- EXCHANGE has not completed within 20 ms (R200). -/
def execExchangeTimeout (dt : Nat) (lane : Fin 24) (s : State) : Host.Outcome State Fault Refusal :=
  act dt s fun s =>
    if s.laneSt lane = 3 ∧ s.exchanged lane = false ∧ s.elapsed (s.lane lane).exchSince (ms 20) then s.abortAlone lane
    else s

/-- A STEP block arrives (R225): one naming the same rung and target is agreed and answered with the countdown of 16
consecutive blocks. -/
def execStepBlockReceive (dt : Nat) (lane : Fin 24) (nextRate countdown target : Nat) (s : State) :
    Host.Outcome State Fault Refusal :=
  act dt s fun s =>
    let x := s.lane lane
    if s.laneSt lane = 4 ∧ nextRate = x.nextRung ∧ target = x.target then
      let s := s.modLane lane fun x =>
        { x with stepAgreed := x.stepAgreed <|> some s.clk, lastCount := countdown, countAt := s.clk }
      if x.stepAgreed.isSome then s
      else s.sendBlocks "STEP" lane ((List.range 16).map fun c => stepBlock nextRate (15 - c) target)
    else s

/-- The transmitter switches to the agreed rung at the end of its own block with COUNTDOWN 0, 16 blocks after it agreed, and
then sends PRBS31; the receiver at the end of the partner's, or where the last countdown value received says it would be
(R225, R226). The 20 ms of R201 run from the transmitter's switch. The lane's PLL locks again within 150 µs (R197). -/
def execRateSwitch (dt : Nat) (lane : Fin 24) (isTx : Bool) (s : State) : Host.Outcome State Fault Refusal :=
  act dt s fun s =>
    let x := s.lane lane
    if s.laneSt lane ≠ 4 then s
    else if isTx then
      if x.stepAgreed.any (fun c => s.elapsed c (blockClocks x.fromRate 1 16)) ∧ x.txSwitch.isNone then
        let s := (s.setFld (Reg.LANE_STATE lane) 6 4 x.nextRung).setLaneBit lane 9 false
        (s.modLane lane fun x => { x with txSwitch := some s.clk }).setTx lane (.prbs 3 false)
      else s
    else if x.lastCount ≤ 15 ∧ s.elapsed x.countAt (blockClocks x.fromRate 1 x.lastCount) ∧ x.rxSwitch.isNone then
      (s.modLane lane fun x => { x with rxSwitch := some s.clk }).setLaneBit lane 9 false
    else s

/-- The step of a lane is within 20 ms of its transmitter's switch, and both directions have switched (R201, R225). -/
def Lane.inStep (x : Lane) (clk : Nat) : Bool := x.rxSwitch.isSome && x.txSwitch.any fun c => decide (clk ≤ c + ms 20)

/-- This end's count reaches 2²⁸ error-free bits, and it inverts its sequence; or 1,024 bits of the opposite polarity show
the partner's pass (R226). A lane with both sends IDLE (R227). A returning member's check at the group rate counts the
same bits (R210). -/
def execPrbsPass (dt : Nat) (lane : Fin 24) (partner : Bool) (s : State) : Host.Outcome State Fault Refusal :=
  act dt s fun s =>
    let x := s.lane lane
    if (s.laneSt lane = 4 ∧ x.inStep s.clk) ∨ x.rejoinSince.any (fun c => decide (s.clk ≤ c + ms 20)) ∨ s.laneSt lane = 8 then
      let s := s.modLane lane fun x => if partner then { x with partnerPassed := true } else { x with passed := true }
      let y := s.lane lane
      s.setTx lane (if y.passed && y.partnerPassed then .idle else .prbs 3 y.passed)
    else s

/-- A lane has passed its rung at both ends (R201, R227): both passes, and block lock at the new rate within 20 ms. -/
def State.rungPassed (s : State) (l : Nat) : Bool :=
  let x := s.lane l
  s.laneSt l == 4 && x.passed && x.partnerPassed && s.laneBit l 9 && x.inStep s.clk

/-- Whether every member of a lane's group that is in STEP has passed its rung (R206). -/
def State.groupPassed (s : State) (g : Nat) : Bool := (s.climbing g).all s.rungPassed

/-- A lane that passed its rung goes on: LINKED at the target, else the next rung (R201). -/
def State.rungUp (s : State) (l : Nat) : State :=
  let x := s.lane l
  let s := s.modLane l fun x => { x with fails := if x.failRung = x.nextRung then 0 else x.fails }
  if x.nextRung = x.target then s.linkUp l x.target else s.startStep l (x.nextRung + 1) x.target

/-- A lane that passed its check at the group rate takes its place again, or is an idle reserve when another has it
(R210, Table 07.4). -/
def State.comeBack (s : State) (l : Nat) : State :=
  let s := s.modLane l fun x => { x with rejoinSince := none, passed := false, partnerPassed := false }
  if s.placeTaken l then s.reserveIdle l else ((s.setLaneSt l 5).setTx l .idle).groupJoin l

/-- A rung passes at both ends (R201); of a group, when every member in it passes (R206). A lane that steps in a member's
place joins by RESERVE_SUBSTITUTE (R212, R213). A member returning from RELOCK or LEFT_OUT has passed its check. -/
def execRungPass (dt : Nat) (lane : Fin 24) (s : State) : Host.Outcome State Fault Refusal :=
  act dt s fun s =>
    let l := lane.val
    let x := s.lane l
    let r := s.laneRole l
    if s.rungPassed l then
      if x.standIn.isSome then s
      else if 2 ≤ r ∧ r ≤ 4 ∧ (s.inGroup (r - 2)).isEmpty then
        if s.groupPassed (r - 2) then ((s.climbing (r - 2)).foldl (fun s m => s.rungUp m) s).groupStart (r - 2) else s
      else s.rungUp l
    else if s.laneSt l = 8 ∧ x.passed ∧ x.partnerPassed then
      (s.setFld (Reg.LANE_STATE l) 6 4 (s.groupRate (s.groupOf l))).comeBack l
    else match x.rejoinSince with
      | some c => if x.passed ∧ s.clk ≤ c + ms 20 then s.comeBack l else s
      | none => s

/-- A lane's step fails (R202): counted and reported, with its failures at the rung in succession. -/
def State.stepFailed (s : State) (l : Nat) : State :=
  let x := s.lane l
  let n := if x.failRung = x.nextRung then x.fails + 1 else 1
  ((s.bump (Reg.LANE_STEP_FAIL l)).raiseSec 99 l x.nextRung).modLane l fun y => { y with fails := n, failRung := x.nextRung }

/-- A lane's third failure in succession at a rung (R202): its ceiling falls to the rung below, with RATE_LOW. -/
def State.lowerCeiling (s : State) (rung l : Nat) : State :=
  (((s.setFld (Reg.LANE_STATE l) 22 20 (rung - 1)).setLaneBit l 11 true).raiseOnce 97 l rung).modLane l fun y =>
    { y with fails := 0 }

/-- A member is LEFT_OUT (R206): it goes on to check the group rate (Table 07.4). -/
def State.leaveOut (s : State) (m : Nat) : State :=
  ((s.setLaneSt m 8).setTx m (.prbs 3 false)).modLane m fun y =>
    { y with passed := false, partnerPassed := false, fails := 0 }

/-- Members of a group fail a step (R206): each is counted; those at their third failure in succession are LEFT_OUT, unless
none of the climbing members would remain: then the ceiling of every member falls. All that remain abort together. -/
def State.groupFailed (s : State) (g : Nat) : State :=
  let ms := s.climbing g
  let s := (ms.filter fun m => !s.rungPassed m).foldl (fun s m => s.stepFailed m) s
  let out := ms.filter fun m => decide (3 ≤ (s.lane m).fails) && (s.lane m).failRung == (s.lane m).nextRung
  let rung := (out.head?.map fun m => (s.lane m).nextRung).getD 1
  let s := if out.isEmpty then s
    else if out.length = ms.length then (s.members g).foldl (fun s m => s.lowerCeiling rung m) s
    else out.foldl State.leaveOut s
  (ms.foldl (fun s m => if s.laneSt m = 8 then s else s.laneAbort m) s).groupStart g

/-- A step has not passed within 20 ms of the rate change (R202); in a group every member aborts together (R206); a reserve
leaves its place to the next (R212, R213). A returning member's check has the same limit (R210). -/
def execStepTimeout (dt : Nat) (lane : Fin 24) (s : State) : Host.Outcome State Fault Refusal :=
  act dt s fun s =>
    let l := lane.val
    let x := s.lane l
    let r := s.laneRole l
    if s.laneSt l = 4 ∧ x.txSwitch.any (fun c => s.elapsed c (ms 20)) ∧ !s.rungPassed l then
      match x.standIn with
      | some m => ((s.stepFailed l).laneAbort l).reserveNext m
      | none =>
        if 2 ≤ r ∧ r ≤ 4 ∧ (s.inGroup (r - 2)).isEmpty then s.groupFailed (r - 2)
        else
          let s := s.stepFailed l
          if (s.lane l).fails < 3 then s.laneAbort l
          else if 2 ≤ r ∧ r ≤ 4 then s.leaveOut l
          else (s.lowerCeiling x.nextRung l).laneAbort l
    else match x.rejoinSince with
      | some c => if s.elapsed c (ms 20) then s.laneAbort l else s
      | none => s

/-- Back-off ends and the lane enters HAIL (R204). -/
def execBackoffExpire (dt : Nat) (lane : Fin 24) (s : State) : Host.Outcome State Fault Refusal :=
  act dt s fun s =>
    if s.laneSt lane = 1 ∧ (s.lane lane).backoffUntil ≤ s.clk then s.enterHail lane else s

/-- The back-off time returns to 10 ms after 1 s LINKED (R204). -/
def execBackoffReset (dt : Nat) (lane : Fin 24) (s : State) : Host.Outcome State Fault Refusal :=
  act dt s fun s =>
    match (s.lane lane).linkedSince with
    | some c => if s.linked lane ∧ s.elapsed c (sec 1) then s.wn (Reg.LANE_BACKOFF lane) 10 else s
    | none => s

/-- A LINKED lane loses lock or signal (R209, R210): it enters RELOCK, and a group member leaves its group at once. -/
def State.lockLost (s : State) (l : Nat) : State :=
  if s.isSardy l ∧ (s.laneSt l = 5 ∨ s.laneBit l 13) then
    let s := (s.bump (Reg.LANE_LOCK_LOSS l)).groupRemove l
    (s.setLaneSt l 6).modLane l fun x => { x with relockSince := s.clk }
  else s

/-- An E lane whose PCS lock falls is DOWN (Table 07.4). -/
def State.eDown (s : State) (l : Nat) : State := if s.laneRole l = 1 ∧ s.laneSt l = 5 then s.setLaneSt l 10 else s

/-- LOS asserts (R208): counted; it aborts EXCHANGE and STEP at once without a step failure (R203), and a LINKED lane
relocks (R209, R210). -/
def execLosAssert (dt : Nat) (lane : Fin 24) (s : State) : Host.Outcome State Fault Refusal :=
  act dt s fun s =>
    let l := lane.val
    if s.laneBit l 7 then s else
      let s := ((s.setLaneBit l 7 true).setFld Reg.LANE_LOS_MAP l l 1).bump (Reg.LANE_LOS l)
      let s := s.modLane l fun x => { x with losSince := some s.clk, fails := 0 }
      if s.laneSt l = 3 ∨ s.laneSt l = 4 then
        let r := s.laneRole l
        if s.laneSt l = 4 ∧ 2 ≤ r ∧ r ≤ 4 ∧ (s.lane l).standIn.isNone then
          ((s.climbing (r - 2)).foldl (fun s m => s.laneAbort m) s).groupStart (r - 2)
        else s.abortAlone l
      else s.lockLost l

/-- A lane in RELOCK with lock held and LOS and LOL clear within 1 ms returns to LINKED; a former group member starts its
check at the group rate (R209, R210). -/
def State.tryRelock (s : State) (l : Nat) : State :=
  if s.laneSt l = 6 ∧ s.laneBit l 9 ∧ !s.laneBit l 7 ∧ !s.laneBit l 8 ∧ s.clk ≤ (s.lane l).relockSince + ms 1 then
    let r := s.laneRole l
    if (2 ≤ r ∧ r ≤ 4) ∨ s.laneBit l 19 then
      (s.modLane l fun x => { x with rejoinSince := some s.clk, passed := false }).setTx l (.prbs 3 false)
    else s.setLaneSt l 5
  else s

/-- LOS clears (R208); one that lasted 10 ms or more clears a lowered ceiling (R202). -/
def execLosClear (dt : Nat) (lane : Fin 24) (s : State) : Host.Outcome State Fault Refusal :=
  act dt s fun s =>
    let l := lane.val
    let long : Bool := match (s.lane l).losSince with
      | some c => s.elapsed c (ms 10)
      | none => false
    let s := ((s.setLaneBit l 7 false).setFld Reg.LANE_LOS_MAP l l 0).modLane l fun x => { x with losSince := none }
    (if long then s.clearCeiling l else s).tryRelock l

/-- LOL asserts or clears (R208, R209). -/
def execLolChange (dt : Nat) (lane : Fin 24) (asserted : Bool) (s : State) : Host.Outcome State Fault Refusal :=
  act dt s fun s =>
    let l := lane.val
    let s := s.setLaneBit l 8 asserted
    if asserted then s.lockLost l else s.tryRelock l

/-- Block lock is lost (R207, R209, R210). -/
def execBlockLockLoss (dt : Nat) (lane : Fin 24) (s : State) : Host.Outcome State Fault Refusal :=
  act dt s fun s =>
    let l := lane.val
    ((s.setLaneBit l 9 false).lockLost l).eDown l

/-- Block lock is acquired after 64 valid sync headers (R207). -/
def execBlockLockAcquire (dt : Nat) (lane : Fin 24) (s : State) : Host.Outcome State Fault Refusal :=
  act dt s fun s => (s.setLaneBit lane 9 true).tryRelock lane

/-- 1 ms in RELOCK without lock aborts (R209). -/
def execRelockTimeout (dt : Nat) (lane : Fin 24) (s : State) : Host.Outcome State Fault Refusal :=
  act dt s fun s =>
    let x := s.lane lane
    if s.laneSt lane = 6 ∧ x.rejoinSince.isNone ∧ s.elapsed x.relockSince (ms 1) then s.laneAbort lane else s

/-- The PCS of an E lane gains or loses lock: LINKED or DOWN (Table 07.4). -/
def execPcsLockChange (dt : Nat) (lane : Fin 24) (locked : Bool) (s : State) : Host.Outcome State Fault Refusal :=
  act dt s fun s =>
    let l := lane.val
    if s.laneRole l = 1 ∧ s.laneSt l ≠ 0 ∧ s.laneSt l ≠ 7 then
      let s := (s.setLaneBit l 9 locked).setFld (Reg.LANE_STATE l) 6 4 (s.laneCfgRate l)
      if locked then s.setLaneSt l 5 else s.setLaneSt l 10
    else s

/-- The lane that steps in the place of a member (R212, R213). -/
def State.standingIn (s : State) (m : Nat) : Option Nat :=
  (List.range 24).find? fun l => s.laneSt l == 4 && (s.lane l).standIn == some m

/-- A reserve that has passed its step joins in a member's place: planned, while the member is in service, or for a member
removed no more than 30 ms ago (R212, R213). A member substituted in service becomes RESERVE_IDLE. -/
def State.reserveJoin (s : State) (m r : Nat) : State :=
  let planned := s.planned m
  if s.rungPassed r && (planned || (!s.laneBit m 13 && (s.lane m).substSince.any fun c => decide (s.clk ≤ c + ms 30))) then
    let s := s.groupRemove m
    let s := s.modLane m fun x => { x with substSince := none }
    let s := ((s.setFld (Reg.LANE_STATE r) 6 4 (s.lane r).target).setLaneSt r 5).setTx r .idle
    let s := s.modLane r fun x => { x with standIn := none }
    let s := ((s.setLaneBit r 19 true).groupJoin r).raise 100 (s.groupOf m) m
    let s := if s.laneSt m = 5 then s.reserveIdle m else s
    if planned then s.substComplete 3 else s
  else s

/-- A member's substitution (R212, R213): the idle reserve steps; when its step has ended, it joins in the member's place,
or has failed and the next idle reserve is tried. -/
def execReserveSubstitute (dt : Nat) (removed : Fin 24) (joined : Bool) (s : State) :
    Host.Outcome State Fault Refusal :=
  act dt s fun s =>
    let m := removed.val
    if s.groupOf m = 3 then s
    else match s.standingIn m with
      | some r => if joined then s.reserveJoin m r else (s.laneAbort r).reserveNext m
      | none => if joined then s else s.reserveNext m

/-- No reserve joined within 30 ms of the lock loss (R212): the fault is raised and the reserve that still steps gives up. -/
def execSubstitutionTimeout (dt : Nat) (removed : Fin 24) (s : State) : Host.Outcome State Fault Refusal :=
  act dt s fun s =>
    match (s.lane removed).substSince with
    | some c =>
      if s.elapsed c (ms 30) ∧ s.groupOf removed < 3 then
        let s := match s.standingIn removed with
          | some r => if s.planned removed then s else s.laneAbort r
          | none => s
        (s.modLane removed fun x => { x with substSince := none }).raiseOnce 101 (s.groupOf removed) removed
      else s
    | none => s

/-- LANE_CMD 1 (Table 07.12): a retrain; on an E lane or a lane out of use it does not apply (R219). -/
def State.cmdRetrain (s : State) (req : Requester) (l : Nat) : State :=
  if s.isSardy l ∧ s.laneSt l ≠ 0 ∧ s.laneSt l ≠ 7 then s.retrain l else s.accErr req (Reg.LANE_CMD l) true false

def execLaneRetrain (dt : Nat) (req : Requester) (lane : Fin 24) (s : State) : Host.Outcome State Fault Refusal :=
  act dt s fun s => s.cmdRetrain req lane

/-- LANE_CMD 2: the lane leaves service and enters TEST (R214), a loss of the lane for every purpose. -/
def State.cmdEnterTest (s : State) (req : Requester) (l : Nat) : State :=
  if s.laneRole l = 0 ∨ s.laneSt l = 7 then s.accErr req (Reg.LANE_CMD l) true false
  else
    let s := if s.laneBit l 13 then (s.bump (Reg.LANE_LOCK_LOSS l)).groupRemove l else s
    ((s.setLaneSt l 7).setTx l .idle).raiseOnce 102 l

def execLaneEnterTest (dt : Nat) (req : Requester) (lane : Fin 24) (s : State) : Host.Outcome State Fault Refusal :=
  act dt s fun s => s.cmdEnterTest req lane

/-- LANE_CMD 3: the loopback and the generator (GEN and INV_GEN) clear and the lane starts at HAIL, an E lane at DOWN
(R214). -/
def State.cmdLeaveTest (s : State) (req : Requester) (l : Nat) : State :=
  if s.laneSt l = 7 then
    let s := s.wn (Reg.LANE_LB l) 0
    let s := (s.setFld (Reg.LANE_PRBS_CFG l) 1 0 0).setFld (Reg.LANE_PRBS_CFG l) 4 4 0
    if s.laneRole l = 1 then (s.setLaneSt l 10).setTx l .idle else s.enterHail l
  else s.accErr req (Reg.LANE_CMD l) true false

def execLaneLeaveTest (dt : Nat) (req : Requester) (lane : Fin 24) (s : State) : Host.Outcome State Fault Refusal :=
  act dt s fun s => s.cmdLeaveTest req lane

/-- LANE_CMD 4: a reserve is brought in before the member leaves (R213): it steps now and joins when it has passed
(RESERVE_SUBSTITUTE). When none can join, the command fails and the member stays. -/
def State.cmdSubstitute (s : State) (req : Requester) (l : Nat) : State :=
  if s.laneBit l 13 then
    if (s.idleReserve (s.groupOf l)).isSome then s.substitute 3 l else s
  else s.accErr req (Reg.LANE_CMD l) true false

def execLaneSubstitute (dt : Nat) (req : Requester) (lane : Fin 24) (s : State) : Host.Outcome State Fault Refusal :=
  act dt s fun s => s.cmdSubstitute req lane

/-- LANE_CMD 5 (R219): the lane is DISABLED at once. -/
def State.cmdDisable (s : State) (req : Requester) (l : Nat) : State :=
  if s.laneRole l = 0 then s.accErr req (Reg.LANE_CMD l) true false
  else
    let s := if s.laneBit l 13 then (s.bump (Reg.LANE_LOCK_LOSS l)).groupRemove l else s
    (s.setLaneSt l 0).setTx l .squelched

def execLaneDisable (dt : Nat) (req : Requester) (lane : Fin 24) (s : State) : Host.Outcome State Fault Refusal :=
  act dt s fun s => s.cmdDisable req lane

/-- LANE_CMD 6: a DISABLED lane starts at HAIL, an E lane at DOWN (Table 07.4). -/
def State.cmdEnable (s : State) (req : Requester) (l : Nat) : State :=
  if s.laneSt l = 0 ∧ s.laneRole l ≠ 0 then if s.laneRole l = 1 then (s.setLaneSt l 10).setTx l .idle else s.enterHail l
  else s.accErr req (Reg.LANE_CMD l) true false

def execLaneEnable (dt : Nat) (req : Requester) (lane : Fin 24) (s : State) : Host.Outcome State Fault Refusal :=
  act dt s fun s => s.cmdEnable req lane

/-- Writes of LANE_LB, LANE_PRBS_CFG and LANE_TXEQ: only in TEST or DISABLED (R214), and PRE + MAIN + POST at most 63. A
write of LANE_PRBS_CFG starts or stops the generator in TEST, and starts the checker afresh (R215). -/
def State.testCfgWrite (s : State) (req : Requester) (l : Nat) (r : TestReg) (v : Nat) : State :=
  let a := match r with
    | .lb => Reg.LANE_LB l
    | .prbs => Reg.LANE_PRBS_CFG l
    | .txeq => Reg.LANE_TXEQ l
  if (s.laneSt l = 7 ∨ s.laneSt l = 0) ∧ !(r == .txeq && decide (63 < bits v 3 0 + bits v 9 4 + bits v 14 10)) then
    match r with
    | .lb => s.wn a (bits v 1 0)
    | .prbs =>
      let s := (s.wn a (bits v 5 0)).wn (Reg.LANE_PRBS_STAT l) 0
      let s := s.modLane l fun x => { x with prbsReg := 0, prbsBits := 0, prbsHist := [] }
      if s.laneSt l ≠ 7 then s
      else s.setTx l (if bits v 1 0 = 0 then .idle else .prbs (bits v 1 0) (bit v 4))
    | .txeq => s.wn a (bits v 14 0)
  else s.accErr req a true false

def execTestConfigWrite (dt : Nat) (req : Requester) (lane : Fin 24) (reg : TestReg) (value : Word) (s : State) :
    Host.Outcome State Fault Refusal :=
  act dt s fun s => s.testCfgWrite req lane reg value.toNat

/-- LANE_EYE_CMD (R216): a scan point starts on a lane in LINKED, RELOCK or TEST with GO set; a write while BUSY or with
a field out of range is ignored and counted. -/
def State.eyeStart (s : State) (req : Requester) (l v : Nat) : State :=
  let st := s.laneSt l
  let h := signed 7 (bits v 6 0)
  let y := signed 7 (bits v 13 7)
  let ok := decide (-32 ≤ h ∧ h ≤ 31 ∧ -63 ≤ y ∧ y ≤ 63 ∧ 20 ≤ bits v 19 14 ∧ bits v 19 14 ≤ 36)
  if bit (s.rn (Reg.LANE_EYE_STAT l)) 0 ∨ ok = false then s.accErr req (Reg.LANE_EYE_CMD l) true false
  else if bit v 31 ∧ (st = 5 ∨ st = 6 ∨ st = 7) then
    (s.wn (Reg.LANE_EYE_STAT l) 1).modLane l fun x => { x with eye := some (s.clk, bits v 19 14) }
  else s

def execEyeScanStart (dt : Nat) (req : Requester) (lane : Fin 24) (value : Word) (s : State) :
    Host.Outcome State Fault Refusal :=
  act dt s fun s => s.eyeStart req lane value.toNat

/-- Core clocks that n bits take on a lane at a rate code, rounded up. -/
def bitClocks (rate n : Nat) : Nat := ceilDiv (n * 256) ([400, 1650, 3300, 4125, 8250].getD rate 400)

/-- A scan point completes after 2^DWELL bits: its disagreements are posted and DONE sets (R216). -/
def execEyeScanDone (dt : Nat) (lane : Fin 24) (errors : Nat) (s : State) : Host.Outcome State Fault Refusal :=
  act dt s fun s =>
    match (s.lane lane).eye with
    | some (c, dwell) =>
      if bit (s.rn (Reg.LANE_EYE_STAT lane)) 0 ∧ s.elapsed c (bitClocks (s.laneRate lane) (2 ^ dwell)) then
        ((s.wn (Reg.LANE_EYE_STAT lane) 2).setPair (Reg.LANE_EYE_ERR lane) (min errors (2 ^ dwell))).modLane lane fun x =>
          { x with eye := none }
      else s
    | none => s

/-- The 10 s margin measurement of a LINKED lane (R217): LANE_MARGIN, the lowest of RSV_LANE_MARGIN, and the wear of a
caravan lane below the threshold in successive measurements (Table 15.9). -/
def execMarginMeasure (dt : Nat) (lane : Fin 24) (eyeW eyeH : Nat) (s : State) : Host.Outcome State Fault Refusal :=
  act dt s fun s =>
    let l := lane.val
    let due : Bool := match (s.lane l).marginAt with
      | some c => s.elapsed c (sec 10)
      | none => true
    if s.linked l ∧ !bit (s.rn (Reg.LANE_EYE_STAT l)) 0 ∧ due then
      let s := s.modLane l fun x => { x with marginAt := some s.clk }
      let w := min eyeW 64
      let s := s.wn (Reg.LANE_MARGIN l) (w + 256 * (min eyeH 255))
      let old := s.rn (Reg.RSV_LANE_MARGIN l)
      let lo := if old = 0 then w + 256 * min eyeH 255
        else min w (bits old 6 0) + 256 * min (min eyeH 255) (bits old 15 8)
      let s := s.wn (Reg.RSV_LANE_MARGIN l) lo
      let n := if w < s.fld Reg.RSV_THR_EYE 6 0 then tabGetD s.rsv.eyeLow l 0 + 1 else 0
      let s := { s with rsv := { s.rsv with eyeLow := tabSet s.rsv.eyeLow l n } }
      if n = s.fld Reg.RSV_THR_EYE 15 8 ∧ s.laneBit l 13 then s.worn 3 l else s
    else s

/-- Lane down (Table 07.8): out of LINKED for 1 s, or not LINKED 4 s after reset. -/
def execLaneDownTimeout (dt : Nat) (lane : Fin 24) (s : State) : Host.Outcome State Fault Refusal :=
  act dt s fun s =>
    let l := lane.val
    let r := s.laneRole l
    let x := s.lane l
    if 1 ≤ r ∧ r ≤ 5 ∧ !s.linked l ∧ (if x.downSince = 0 then s.elapsed s.watch.goodAt (sec 4) else s.elapsed x.downSince (sec 1))
    then s.raiseOnce 96 l (s.laneSt l) else s

/-- One bit at a checker (R215): it fills its register from the received bits, compares each further bit, sets SYNC after 64
correct bits in succession and clears it after 16 errors in 64. While SYNC is set it counts, and goes on along the sequence
itself (DESIGN CHOICE, log entry 205). -/
def State.prbsBit (s : State) (l : Nat) (b : Bool) : State :=
  let w := s.rn (Reg.LANE_PRBS_CFG l)
  let kind := bits w 3 2
  let x := s.lane l
  let sync := bit (s.rn (Reg.LANE_PRBS_STAT l)) 0
  if kind = 0 then s
  else if x.prbsBits < (prbsTaps kind).1 then
    s.modLane l fun x => { x with prbsReg := (2 * x.prbsReg + b.toNat) % 2 ^ 31, prbsBits := x.prbsBits + 1 }
  else
    let want := prbsNext kind (bit w 5) x.prbsReg
    let ok := want == b
    let hist := (ok :: x.prbsHist).take 64
    let s := if sync then
        let s := s.bump (Reg.LANE_PRBS_BITS l)
        if ok then s else s.bump (Reg.LANE_PRBS_ERR l)
      else s
    let reg := (2 * x.prbsReg + (if sync then want else b).toNat) % 2 ^ 31
    let gain := !sync && decide (hist.length = 64) && hist.all id
    let lose := sync && decide (16 ≤ (hist.filter fun o => !o).length)
    let s := s.modLane l fun x =>
      { x with prbsReg := reg, prbsBits := (if lose then 0 else x.prbsBits), prbsHist := (if lose then [] else hist) }
    if gain then s.wn (Reg.LANE_PRBS_STAT l) 1 else if lose then s.wn (Reg.LANE_PRBS_STAT l) 0 else s

/-- Bits received by a lane's PRBS checker, first to last (R215). -/
def execPrbsCheckerSync (dt : Nat) (lane : Fin 24) (received : List Bool) (s : State) :
    Host.Outcome State Fault Refusal :=
  act dt s fun s => received.foldl (fun s b => s.prbsBit lane b) s

/-- The bit of CLK_STAT of a device PLL (Table 18.8). -/
def pllBit : Pll → Option Nat
  | .core => some 1
  | .deck => some 2
  | .hold => some 3
  | .time => some 4
  | .lane _ => none

/-- A PLL achieves lock: its lock bit sets (R197, R529). -/
def execPllLock (dt : Nat) (pll : Pll) (s : State) : Host.Outcome State Fault Refusal :=
  act dt s fun s =>
    match pll with
    | .lane l => s.setFld Reg.CLK_LANE_LOCK l l 1
    | p => match pllBit p with
      | some b => s.setFld Reg.CLK_STAT b b 1
      | none => s

/-- A PLL loses lock: its bit clears and the loss is counted (R197, R529). -/
def execPllUnlock (dt : Nat) (pll : Pll) (s : State) : Host.Outcome State Fault Refusal :=
  act dt s fun s =>
    match pll with
    | .lane l => s.setFld Reg.CLK_LANE_LOCK l l 0
    | p => match pllBit p with
      | some b => (s.setFld Reg.CLK_STAT b b 0).bump Reg.CLK_UNLOCK
      | none => s

/-- REFCLK shows no edge for 1 µs or leaves ±200 ppm: REFCLK_OK clears, counted (R529). -/
def execRefclkLoss (dt : Nat) (s : State) : Host.Outcome State Fault Refusal :=
  act dt s fun s =>
    if bit (s.rn Reg.CLK_STAT) 0 then (s.setFld Reg.CLK_STAT 0 0 0).bump Reg.CLK_REF_LOSS else s

/-- REFCLK is again present and within ±200 ppm over 1 s: REFCLK_OK sets (R529). -/
def execRefclkRestored (dt : Nat) (s : State) : Host.Outcome State Fault Refusal :=
  act dt s fun s => s.setFld Reg.CLK_STAT 0 0 1

end Sys2Proof.Machine
end

