-- ==== Sys2Proof/Machine/PtpOps.lean ====
section
/-!
DEFINITION. The PTP engine: roles, the messages it sends and what it does with those it receives (02_ledger_time.md R49 to
R56). The forms of IEEE 1588-2019 that the spec names and does not print are PRESUMED (log entry 13).
-/
namespace Sys2Proof.Machine

/-! ### Messages sent -/

/-- The multicast address of R49, 224.0.1.129, and the UDP ports of event and general messages. -/
def ptpGroup : Nat := groupPeer 0xE0000181 0
def ptpEventPort : Nat := 319
def ptpGeneralPort : Nat := 320

/-- sourcePortIdentity of a port: the clock identity and the port's number, from 1. -/
def ptpIdentity (p : Nat) : Nat := Config.clockIdentity * 65536 + (p + 1)

/-- A PTP header of 34 bytes: messageType, length, domain, flags, correction (2⁻¹⁶ ns), port, sequenceId, control and
log interval. -/
def ptpHeader (type len domain flags : Nat) (corr : Int) (p seqId control interval : Nat) : List Byte :=
  beBytes 1 type ++ beBytes 1 0x12 ++ beBytes 2 len ++ beBytes 1 domain ++ beBytes 1 0 ++ beBytes 2 flags
    ++ beBytes 8 (unsigned 64 corr) ++ beBytes 4 0 ++ beBytes 10 (ptpIdentity p) ++ beBytes 2 seqId ++ beBytes 1 control
    ++ beBytes 1 interval

/-- The log interval of a header: a field of Table 02.7, sign-extended to 8 bits. -/
def logByte (f : Nat) : Nat := unsigned 8 (signed 4 f)

/-- flagField of a message sent by unicast. -/
def ptpFlags (unicast : Bool) : Nat := if unicast then 0x0400 else 0

/-- A PTP message goes to queue 7 of its port's MAC (R304) as a UDP datagram without a checksum (R49, R56). -/
def State.ptpSend (s : State) (kind : String) (p dst udp : Nat) (m : List Byte) : State :=
  s.ethSend p 7 kind (s.udpFrame p udp (peerOf (peerMac dst) (peerIp dst) udp) false m)

/-- PTP fields of TIME_PORT_CTRL: domain and log intervals of Sync, Announce and Delay_Req. -/
def State.ptpDomain (s : State) (p : Nat) : Nat := s.fld (Reg.TIME_PORT_CTRL p) 11 4
def State.logSync (s : State) (p : Nat) : Nat := s.fld (Reg.TIME_PORT_CTRL p) 15 12
def State.logAnnounce (s : State) (p : Nat) : Nat := s.fld (Reg.TIME_PORT_CTRL p) 19 16
def State.logDelayReq (s : State) (p : Nat) : Nat := s.fld (Reg.TIME_PORT_CTRL p) 23 20

/-- The device's own data set, with its clock identity (R50). -/
def State.ownDataset (s : State) : PtpDataset := { s.time.own with identity := Config.clockIdentity }

/-- What a master announces (R50): as a boundary clock the grandmaster identity and quality of its slave port, one step
further on; else its own. -/
def State.announced (s : State) (p : Nat) : PtpDataset :=
  match s.time.ports.find? fun e => e.1 != p && e.2.role == .slave && e.2.best.isSome with
  | some e => match e.2.best with
    | some b => { b with steps := b.steps + 1 }
    | none => s.ownDataset
  | none => s.ownDataset

/-- Whether an interval has passed since a clock. -/
def State.due (s : State) (last : Option Nat) (interval : Nat) : Bool := last.all fun t => s.elapsed t interval

/-- An Announce leaves a master's port when its interval has passed; it goes out with the Sync (log entry 215). -/
def State.announceSend (s : State) (p : Nat) : State :=
  let x := s.ptpPort p
  if s.due x.annTx (logClocks (s.logAnnounce p)) = false then s
  else
    let d := s.announced p
    let m := ptpHeader 0xB 64 (s.ptpDomain p) 0 0 p x.annSeq 5 (logByte (s.logAnnounce p))
      ++ ptpStamp 0 ++ beBytes 2 0 ++ beBytes 1 0 ++ beBytes 1 d.priority1 ++ beBytes 1 d.clockClass ++ beBytes 1 d.accuracy
      ++ beBytes 2 d.variance ++ beBytes 1 d.priority2 ++ beBytes 8 d.identity ++ beBytes 2 d.steps ++ beBytes 1 0xA0
    (s.modPort p fun x => { x with annTx := some s.clk, annSeq := (x.annSeq + 1) % 65536 }).ptpSend "ANNOUNCE" p ptpGroup
      ptpGeneralPort m

/-- A Sync of a master's port at its interval: it takes its departure time as it starts (R53, R56). -/
def State.syncSend (s : State) (p seqId : Nat) : State :=
  let x := s.ptpPort p
  if x.role ≠ .master ∨ s.due x.syncTx (logClocks (s.logSync p)) = false then s
  else
    let m := ptpHeader 0 44 (s.ptpDomain p) 0 0 p seqId 0 (logByte (s.logSync p)) ++ ptpStamp 0
    ((s.modPort p fun x => { x with syncTx := some s.clk }).ptpSend "SYNC" p ptpGroup ptpEventPort m).announceSend p

/-- A Delay_Req of a slave's port at its interval: by unicast to its master in mixed mode (R49); it takes its departure time
as it starts, which the servo keeps (R56). -/
def State.delayReqSend (s : State) (p seqId : Nat) : State :=
  let x := s.ptpPort p
  if x.role ≠ .slave ∨ s.due x.reqTx (logClocks (s.logDelayReq p)) = false then s
  else
    let uni := bit (s.rn (Reg.TIME_PORT_CTRL p)) 27 && x.masterAddr != 0
    let m := ptpHeader 1 44 (s.ptpDomain p) (ptpFlags uni) 0 p seqId 1 0x7F ++ ptpStamp 0
    (s.modPort p fun x => { x with reqTx := some s.clk, reqStamp := none, reqSeq := seqId }).ptpSend "DELAY_REQ" p
      (if uni then x.masterAddr else ptpGroup) ptpEventPort m

/-- A Delay_Resp answers a Delay_Req at a master's port with its receive stamp, by unicast when the request came so (R49). -/
def State.delayRespSend (s : State) (p seqId requester src : Nat) (unicast : Bool) : State :=
  let t := s.rxStamp p
  let m := ptpHeader 9 54 (s.ptpDomain p) (ptpFlags unicast) (-(t % 65536)) p seqId 3
      (if unicast then 0x7F else logByte (s.logDelayReq p)) ++ ptpStamp t ++ beBytes 10 requester
  s.ptpSend "DELAY_RESP" p (if unicast then src else ptpGroup) ptpGeneralPort m

/-! ### Roles (R50) -/

/-- The role a port takes from its best data set (R50; IEEE 1588-2019, PRESUMED, log entry 13), once two Announce messages of
its sender have come: a slave-only port is slave, a master-only one master; a master-capable port is slave of the best data
set of all ports when it is better than the device's own, passive when its own best is better than the device's but not the
best, and master otherwise. -/
def State.ptpDecide (s : State) (p : Nat) : State :=
  let m := s.portMode p
  match (s.ptpPort p).best with
  | none => s
  | some b =>
    let others := s.time.ports.filterMap fun e => if e.1 = p then none else e.2.best
    let role := if m = 1 then PtpRole.slave
      else if m = 3 then .master
      else if dsBetter b s.ownDataset then if others.any fun o => dsBetter o b then .passive else .slave
      else .master
    if (s.ptpPort p).announces < 2 then s else s.setRole p role

/-- A change of MODE restarts the port's engine: slave-only and master-capable ports listen, a master-only port is master
(R50); what it measured before is measured no more (R44). -/
def State.portRestart (s : State) (p old : Nat) : State :=
  let m := s.portMode p
  let was := (s.ptpPort p).role
  let s := s.modPort p fun _ =>
    { role := if m = 3 then .master else if m = 1 ∨ m = 2 then .listening else .initializing, lastAnnounce := s.clk }
  let s := { s with time := { s.time with rxq := tabErase s.time.rxq p } }
  if was = .slave then s.timeSourceGone (p + 1) else if old = 5 then s.timeSourceGone (p + 1) else s

/-! ### Messages received -/

/-- An Announce: of a better data set, or of the sender of the best one. -/
def State.announceReceive (s : State) (p sender src : Nat) (ds : PtpDataset) : State :=
  let ds := { ds with sender := sender }
  let x := s.ptpPort p
  let same := x.best.any fun b => b.sender == sender
  let better := x.best.all fun b => same || dsBetter ds b
  if !better then s.ptpDecide p
  else
    (s.modPort p fun x => { x with
      best := some ds, masterAddr := src, announces := (if same then x.announces + 1 else 1)
      lastAnnounce := s.clk }).ptpDecide p

/-- A PTP message on a port whose engine runs, in the port's domain (R49 to R51, R55): its sequenceId, the port identity and
address of its sender. Sync, Follow_Up and Delay_Resp count only from the master of the port. -/
def State.ptpReceive (s : State) (p seqId sender src : Nat) (msg : PtpMessage) : State :=
  let x := s.ptpPort p
  let fromMaster := x.best.any fun b => b.sender == sender
  match msg with
  | .announce ds => s.announceReceive p sender src ds
  | .sync origin corr twoStep =>
    if !fromMaster then s
    else
      let t2 := s.rxStamp p
      let s := s.modPort p fun x =>
        { x with
          lastSync := s.clk, syncStamp := t2, syncOrigin := if twoStep then none else some (origin + corr)
          syncCorr := corr }
      if twoStep ∨ x.role ≠ .slave then s else s.ptpMeasure p (origin + corr) t2
  | .followUp origin corr =>
    if !fromMaster then s
    else
      let t1 := origin + corr + x.syncCorr
      let s := s.modPort p fun x => { x with syncOrigin := some t1 }
      if x.role = .slave then s.ptpMeasure p t1 x.syncStamp else s
  | .delayReq r unicast => if x.role = .master then s.delayRespSend p seqId r src unicast else s
  | .delayResp t4 corr =>
    match x.reqStamp, x.syncOrigin with
    | some t3, some t1 =>
      if !fromMaster ∨ x.reqSeq ≠ seqId then s
      else
        let d := ((x.syncStamp - t1) + (t4 - corr - t3)) / 2
        (s.modPort p fun x => { x with mpd := some d, reqStamp := none }).wn (Reg.TIME_PORT_MPD p) (unsigned 32 d)
    | _, _ => s
  | .metadata bs => s.notify 0x60 0 p (bs.map (·.toNat))

end Sys2Proof.Machine
end

