-- ==== Sys2Proof/Machine/Time.lean ====
section
/-!
DEFINITION. Commands of ledger time: servo, steps, PTP, timestamp queues, timing pins, timecode, word clock and
snapshots (02_ledger_time.md).
-/
namespace Sys2Proof.Machine

/-- A servo offset measurement of a source, in ns, with the reference rate estimated, units of 2⁻¹² ppb (R61). -/
def execServoMeasurement (dt source : Nat) (offset refRate : Int) (s : State) : Host.Outcome State Fault Refusal :=
  act dt s fun s => s.measure source offset refRate

/-- A source is lost (R45, R47, R545). -/
def execSourceLost (dt source : Nat) (s : State) : Host.Outcome State Fault Refusal :=
  act dt s fun s => s.sourceLost source

/-- A write of TIME_JUMP_THR (R43). -/
def State.jumpThrWrite (s : State) (v : Nat) : State :=
  if 100 ≤ v ∧ v ≤ 1000000000 then s.wn Reg.TIME_JUMP_THR v else s

def execJumpThrWrite (dt : Nat) (_req : Requester) (value : Word) (s : State) : Host.Outcome State Fault Refusal :=
  act dt s fun s => s.jumpThrWrite value.toNat

/-- A STEP by a door (R63, R64), answered with the effective tally. -/
def State.stepRequest (s : State) (door : Door) (cmd : Nat) (f : State → State × Nat) : State :=
  match door with
  | .regs req => s.asking req fun s =>
    let (s, n) := f s
    s.emit (.answer req 0 [n])
  | d => s.request d 0x50 (beBytes 1 cmd) fun s =>
    let (s, n) := f s
    s.respond d 0x50 0 (beBytes 4 n)

/-- An accept, answered with the effective tally (R63). -/
def execStepAccept (dt : Nat) (door : Door) (s : State) : Host.Outcome State Fault Refusal :=
  act dt s fun s => s.stepRequest door 1 State.stepAccept

/-- A reject, answered with tally 0 (R64). -/
def execStepReject (dt : Nat) (door : Door) (s : State) : Host.Outcome State Fault Refusal :=
  act dt s fun s => s.stepRequest door 2 fun s => (s.stepReject, 0)

/-- A write of TIME_PORT_CTRL, ignored as a whole and counted when a field is invalid (R52). -/
def State.portCtrlWrite (s : State) (req : Requester) (p v : Nat) : State :=
  if portCtrlOk p v then
    let old := s.portMode p
    let s := s.wn (Reg.TIME_PORT_CTRL p) (bits v 2 0 + bits v 27 4 * 16)
    if s.portMode p = old then s else s.portRestart p old
  else s.accErr req (Reg.TIME_PORT_CTRL p) true false

def execPortCtrlWrite (dt : Nat) (req : Requester) (port : Fin 8) (value : Word) (s : State) :
    Host.Outcome State Fault Refusal :=
  act dt s fun s => s.portCtrlWrite req port value.toNat

/-- A PTP message received (R49). -/
def execPtpMessageReceive (dt : Nat) (port : Fin 8) (domain seqId sender src : Nat) (msg : PtpMessage) (s : State) :
    Host.Outcome State Fault Refusal :=
  act dt s fun s =>
    let m := s.portMode port
    if 1 ≤ m ∧ m ≤ 3 ∧ s.ptpDomain port = domain then s.ptpReceive port seqId sender src msg else s

/-- A PTP event message leaves with its departure time at the timestamp point (R53, R56). -/
def execPtpEventTransmit (dt : Nat) (port : Fin 8) (isDelayReq : Bool) (seqId : Nat) (s : State) :
    Host.Outcome State Fault Refusal :=
  act dt s fun s =>
    let m := s.portMode port
    if m = 0 ∨ 3 < m ∨ s.macDisabled port then s
    else if isDelayReq then s.delayReqSend port seqId
    else s.syncSend port seqId

/-- A stamp of a received PTP event message in MODE 4 (R57, R59, R60). -/
def execRxqStamp (dt : Nat) (port : Fin 8) (seqId domain msgType : Nat) (readNow : Bool) (s : State) :
    Host.Outcome State Fault Refusal :=
  act dt s fun s => if s.portMode port = 4 then s.rxqPush port seqId domain msgType readNow else s

/-- A read of TIME_RXQ_W3 (R58). -/
def execRxqW3Read (dt : Nat) (req : Requester) (port : Fin 8) (s : State) : Host.Outcome State Fault Refusal :=
  act dt s fun s =>
    (s.rxqPop port).emit (.readData req (Reg.TIME_RXQ_W3 port) (BitVec.ofNat 32 ((s.rxqWords port).getD 3 0)))

/-- An edge on a pin in capture mode (R69): edges closer than 20 ns, 16 clocks, are one; 16 captures are queued. The 20 ns
count from the last edge taken, stamped or dropped at a full queue, not from one merged into it (DESIGN CHOICE, log entry
216). -/
def execTpinCapture (dt : Nat) (pin : Fin 8) (rising readNow : Bool) (s : State) : Host.Outcome State Fault Refusal :=
  act dt s fun s =>
    let m := s.fld (Reg.TIME_TPIN_CTRL pin) 2 0
    let p := s.tpin pin
    let close := p.lastEdge.any fun t => decide (s.clk < t + 16)
    if ((m == 1 && rising) || (m == 2 && !rising) || m == 3) && !close then
      let caps := if readNow then p.caps.tail else p.caps
      if caps.length < 16 then
        s.modTpin pin fun p =>
          { p with
            caps := caps ++ [Capture.mk s.now64 (min 255 p.lostRun) (decide (0 < p.lostRun))]
            lostRun := 0, lastEdge := some s.clk }
      else s.modTpin pin fun p => { p with lostRun := p.lostRun + 1, lastEdge := some s.clk }
    else s

/-- A read of TIME_TPIN_CAP_HI removes the head capture (R69). -/
def execTpinCapHiRead (dt : Nat) (req : Requester) (pin : Fin 8) (s : State) : Host.Outcome State Fault Refusal :=
  act dt s fun s =>
    (s.modTpin pin fun p => { p with caps := p.caps.tail }).emit
      (.readData req (Reg.TIME_TPIN_CAP pin + 4) (BitVec.ofNat 32 (s.capHead pin / 2 ^ 32)))

/-- The tally whose frame pulse is the last at or before now, for an offset; and the time of tally n's pulse (R70). -/
def State.frameTally (s : State) (off : Int) : Nat := tallyOf s.rate ((s.ns : Int) - off).toNat
def State.framePulse (s : State) (off : Int) (n : Nat) : Nat := ((s.tp n : Int) + off).toNat

/-- The time of the pulse armed on a pin in a mode: in frame-pulse mode the first one not yet emitted. -/
def State.armedPulse (s : State) (k m : Nat) : Option Nat :=
  let p := s.tpin k
  p.armed.map fun a =>
    if m = 6 then
      let n := s.frameTally p.off
      if a ≤ s.framePulse p.off n then s.framePulse p.off n else s.framePulse p.off (n + 1)
    else a

/-- A write of TIME_TPIN_AT_HI arms or replaces a pulse (R71); a written value whose NANOSECONDS are out of range arms
nothing (R13). In frame-pulse mode it arms the offset in AT_LO (Table 02.12). A pulse due within 1 µs is emitted first. A
time already past drops that pulse too: R71 says both that it is emitted and that the pin stays idle (DESIGN CHOICE, log
entry 217). -/
def State.tpinArm (s : State) (req : Requester) (k hi : Nat) : State :=
  let s := (s.pairTake req (Reg.TIME_TPIN_AT k)).wn (Reg.TIME_TPIN_AT k + 4) hi
  let v := s.pair (Reg.TIME_TPIN_AT k)
  let m := s.fld (Reg.TIME_TPIN_CTRL k) 2 0
  let soon := (s.armedPulse k m).any fun a => decide (s.ns ≤ a ∧ a < s.ns + 1000)
  if m = 6 then
    let off := signed 30 v
    s.modTpin k fun p =>
      if soon then { p with nextOff := some off, missed := false }
      else { p with off := off, nextOff := none, armed := some s.ns, missed := false }
  else if ledgerOk v = false then s
  else
    let t := ofLedger v
    if t < s.ns then s.modTpin k fun p => { p with armed := none, next := none, missed := true }
    else s.modTpin k fun p =>
      if soon then { p with next := some t, missed := false } else { p with armed := some t, next := none, missed := false }

def execTpinArm (dt : Nat) (req : Requester) (pin : Fin 8) (atHi : Word) (s : State) :
    Host.Outcome State Fault Refusal :=
  act dt s fun s => s.tpinArm req pin atHi.toNat

/-- A pin driven: high during a pulse, inverted by POLARITY. -/
def State.tpinDrive (s : State) (k : Nat) (pulse : Bool) : State :=
  s.emit (.pin "TPIN" k (pulse != bit (s.rn (Reg.TIME_TPIN_CTRL k)) 3))

/-- A write of TIME_TPIN_CTRL; MODE 7 is ignored as a whole and counted (R71). A new mode starts with nothing armed and, as
an output, with the pin idle. -/
def State.tpinCtrl (s : State) (req : Requester) (k v : Nat) : State :=
  if bits v 2 0 = 7 then s.accErr req (Reg.TIME_TPIN_CTRL k) true false
  else
    let old := s.fld (Reg.TIME_TPIN_CTRL k) 3 0
    let s := s.wn (Reg.TIME_TPIN_CTRL k) (bits v 3 0)
    let s := if bits old 2 0 = bits v 2 0 then s else
      s.modTpin k fun p => { p with armed := none, next := none, nextOff := none, until_ := none }
    if old ≠ bits v 3 0 ∧ 4 ≤ bits v 2 0 then s.tpinDrive k (s.tpin k).until_.isSome else s

def execTpinCtrlWrite (dt : Nat) (req : Requester) (pin : Fin 8) (value : Word) (s : State) :
    Host.Outcome State Fault Refusal :=
  act dt s fun s => s.tpinCtrl req pin value.toNat

/-- A write of TIME_TPIN_PERIOD or TIME_TPIN_WIDTH, ignored and counted out of range (R71, Table 02.12). -/
def State.tpinTiming (s : State) (req : Requester) (k : Nat) (isWidth : Bool) (v : Nat) : State :=
  if isWidth then
    if 20 ≤ v ∧ v ≤ 500000000 then s.wn (Reg.TIME_TPIN_WIDTH k) v else s.accErr req (Reg.TIME_TPIN_WIDTH k) true false
  else
    if 1000 ≤ v ∧ v ≤ 1000000000 then s.wn (Reg.TIME_TPIN_PERIOD k) v
    else s.accErr req (Reg.TIME_TPIN_PERIOD k) true false

def execTpinTimingWrite (dt : Nat) (req : Requester) (pin : Fin 8) (isWidth : Bool) (value : Word) (s : State) :
    Host.Outcome State Fault Refusal :=
  act dt s fun s => s.tpinTiming req pin isWidth value.toNat

/-- The pulse on a pin ends WIDTH after its ledger time. -/
def State.tpinFall (s : State) (k : Nat) : State :=
  match (s.tpin k).until_ with
  | some u => if u ≤ s.ns then (s.modTpin k fun p => { p with until_ := none }).tpinDrive k false else s
  | none => s

/-- A pulse of ledger time t starts, and the pin goes on as f says. -/
def State.tpinRise (s : State) (k t : Nat) (f : Tpin → Tpin) : State :=
  (s.modTpin k fun p => { f p with until_ := some (t + s.rn (Reg.TIME_TPIN_WIDTH k)) }).tpinDrive k true

/-- The edges whose ledger time has come are placed (R70): a pulse under way ends; an armed one starts: single, periodic at
AT + i × PERIOD, or at Tp(n) plus the signed offset. -/
def State.tpinEdges (s : State) (k : Nat) : State :=
  let s := s.tpinFall k
  let m := s.fld (Reg.TIME_TPIN_CTRL k) 2 0
  match s.armedPulse k m with
  | none => s
  | some t =>
    if m < 4 ∨ s.ns < t then s
    else if m = 4 then s.tpinRise k t fun p => { p with armed := p.next, next := none }
    else if m = 5 then
      s.tpinRise k t fun p => { p with armed := some (p.next.getD (t + s.rn (Reg.TIME_TPIN_PERIOD k))), next := none }
    else s.tpinRise k t fun p => { p with armed := some (t + 1), off := p.nextOff.getD p.off, nextOff := none }

def execTpinPulse (dt : Nat) (pin : Fin 8) (s : State) : Host.Outcome State Fault Refusal :=
  act dt s fun s => s.tpinEdges pin

/-- LTC is lost after 2 missing codewords in succession (R73). -/
def execLtcLost (dt : Nat) (s : State) : Host.Outcome State Fault Refusal :=
  act dt s fun s =>
    if bit (s.rn Reg.TIME_LTC_STAT) 0 then
      let s := s.setFld Reg.TIME_LTC_STAT 0 0 0
      { s with time := { s.time with ltcSeen := false } }.raise 34 0
    else s

/-- The word-clock error over a 1 s window, units of 2⁻⁸ ppm, and the phase in ns (R74, Table 02.13). -/
def execWclkMeasurement (dt : Nat) (rate : Fin 3) (ppm phase : Int) (s : State) : Host.Outcome State Fault Refusal :=
  act dt s fun s =>
    let out := decide (s.time.audioLimit < ppm.natAbs) && rate != 0
    let s := s.wn Reg.TIME_WCLK_STAT (rate.val + 4 * out.toNat)
    let s := (s.wn Reg.TIME_WCLK_PPM (unsigned 32 ppm)).wn Reg.TIME_WCLK_PHASE (unsigned 32 phase)
    if out then s.raiseOnce 35 0 (unsigned 32 ppm) else s.condClear 35 0

/-- The earliest armed snapshot fires at its time: every counter latches into the shadow set (R75, R76). -/
def State.snapFire (s : State) : State :=
  match s.time.snaps with
  | a :: rest =>
    if a.atNs ≤ s.ns then
      let wait := if a.tiles then (s.scan.entries.filter fun e => e.2.state != 0 && e.2.state != 3).map (·.1) else []
      let s := { s with scan := { s.scan with snapWait := wait }, fixture := { s.fixture with lateShadow := s.fixture.late } }
      { s with time := { s.time with
          snaps := rest, snapId := a.id, snapState := 2, tilesMissed := 0
          shadow := s.pausedRegs.regs.filter fun e => isCounter e.1 } }.snapSettle
    else s
  | [] => s

def execSnapFire (dt : Nat) (s : State) : Host.Outcome State Fault Refusal := act dt s State.snapFire

end Sys2Proof.Machine
end

