-- ==== Sys2Proof/Machine/RegRead.lean ====
section
/-!
DEFINITION. The value of every register as a requester reads it, the side effects of a read, and the high-word shadows
(R5 to R9, R76, R521 to R526, Table 18.9).
-/
namespace Sys2Proof.Machine

/-! ### Values formed at the read -/

/-- SYS_ID (Table 18.4). -/
def State.sysId (s : State) : Nat := 0x6424 + 2 ^ 20 * s.lampDie.toNat

/-- CLK_REF_PPM: while LOCKED the ledger's rate is the reference's, so REFCLK's error is the adjustment negated, in 2⁻⁸ ppm
to nearest (Table 18.7; log entry 35). -/
def State.refPpm (s : State) : Nat := if s.time.servo == .locked then unsigned 32 (roundDivI (-s.time.adj) 16000) else 0

/-- TIME_HOLD_MS. -/
def State.holdMs (s : State) : Nat :=
  match s.time.holdSince with
  | some c => min ((s.clk - c) / ms 1) (2 ^ 32 - 1)
  | none => 0

/-- SLK_LANE_CREDIT: credits left of the lane's link (R245). -/
def State.laneCredit (s : State) (l : Nat) : Nat :=
  let c := tabGetD s.slk.credits (if s.laneRole l = 5 then 8 + l else s.groupOf l) {}
  let left := fun lim sent => let d := (lim + 65536 - sent % 65536) % 65536; if d ≤ 32767 then d else 0
  if s.isSardy l then left c.reqLimit c.reqSent + 65536 * left c.rspLimit c.rspSent else 0

/-- Words of an entry of the fault log, or zeros. -/
def logWord (e : Option LogEntry) (i : Nat) : Nat := ((e.map LogEntry.words).getD []).getD i 0

/-- The newest probe outputs of an entry, for PROBE_PEEK. -/
def State.peekProbe (s : State) (k : Nat) : Nat :=
  let v := match s.fixture.values with
    | v :: _ => probeChannels v (s.fld Reg.PROBE_PEEK_SEL 13 0)
    | [] => []
  v.getD (2 * k) 0 + 65536 * v.getD (2 * k + 1) 0

/-- The first value of the waybill in WAY_PEEK_SEL at the last tally, and its late departures. -/
def State.peekWay (s : State) : Nat :=
  match (s.wayOut (s.fld Reg.WAY_PEEK_SEL 11 0)).hist with
  | h :: _ => h.2.1.getD 0 0
  | [] => 0
def State.peekLate (s : State) : Nat :=
  tabGetD (if bit (s.rn Reg.WAY_PEEK_SEL) 31 then s.fixture.lateShadow else s.fixture.late) (s.fld Reg.WAY_PEEK_SEL 11 0) 0

/-- WAY_UNIV_STAT of the universe in WAY_UNIV_SEL. -/
def State.univStat (s : State) : Nat :=
  let u := s.rn Reg.WAY_UNIV_SEL
  let i := s.univSet 0 u s.tally
  let o := s.univSet 1 u s.tally
  let seq := if i.isSome then (s.uIn u).lastSeq else if o.isSome then (s.uOut u).seq else 0
  i.isSome.toNat + 2 * o.isSome.toNat + 4 * min 7 (s.uIn u).sources.length + 256 * (seq % 256)

/-- The current value of the register at an address that Table 18.9 gives (R6: 0 elsewhere). -/
def State.liveWord (s : State) (a : Nat) : Nat :=
  let o := a % 65536
  let half := fun (x : Nat) => if a % 8 = 0 then x % 2 ^ 32 else x / 2 ^ 32
  match a / 65536 with
  | 0 => if a = Reg.SYS_ID then s.sysId else s.rn a
  | 1 => if a = Reg.CLK_REF_PPM then s.refPpm else s.rn a
  | 2 =>
    if o < 8 then half s.now64
    else if o = 8 then s.frac
    else if 0x10 ≤ o ∧ o < 0x18 then half s.tally
    else if o = 0x40 then s.holdMs
    else if 0x100 ≤ o ∧ o < 0x300 then
      let p := (o - 0x100) / 64
      let r := o % 64
      if r = 0x14 then if s.portMode p = 4 then (tabGetD s.time.rxq p {}).entries.length else 0
      else if 0x18 ≤ r ∧ r ≤ 0x24 then (s.rxqWords p).getD ((r - 0x18) / 4) 0
      else s.rn a
    else if 0x300 ≤ o ∧ o < 0x400 then
      let k := (o - 0x300) / 32
      let r := o % 32
      if r = 0x14 then s.capHead k % 2 ^ 32 else if r = 0x18 then s.capHead k / 2 ^ 32
      else if r = 0x1C then s.capStat k else s.rn a
    else s.rn a
  | 4 => if 0x1000 ≤ o ∧ o % 32 = 0x18 then s.laneCredit ((o - 0x1000) / 32) else s.rn a
  | 5 =>
    let m := o / 4096
    let r := o % 4096
    if 0x400 ≤ r ∧ r < 0x500 then (s.filter m ((r - 0x400) / 16)).getD (r / 4 % 4) 0
    else if 0x168 ≤ r ∧ r < 0x170 then half (s.pausedNs m) else s.rn a
  | 7 => if a = Reg.COMP_BUDGET then (if s.canvasW = 0 then 0 else s.budget) else s.rn a
  | 0xA =>
    if a = Reg.PROBE_PEEK_TALLY then (s.fixture.values.head?.map (·.tally)).getD 0
    else if 0x38 ≤ o ∧ o < 0x44 then s.peekProbe ((o - 0x38) / 4) else s.rn a
  | 0xB =>
    if a = Reg.WAY_PEEK_VAL then s.peekWay
    else if o = 0x1C then s.peekLate % 2 ^ 32
    else if o = 0x20 then s.peekLate / 2 ^ 32
    else if a = Reg.WAY_UNIV_STAT then s.univStat else s.rn a
  | 0xC =>
    if 0x100 ≤ o ∧ o < 0x300 ∧ o % 64 = 8 then putBit (s.rn a) 8 (s.dmxDrives ((o - 0x100) / 64)) else s.rn a
  | 0xD => if !s.lampDie then 0 else if a = Reg.LAMP_ADJ then lampAdj (s.fld Reg.LAMP_ADJ_SEL 10 0) else s.rn a
  | 0x10 => if a = Reg.FERRY_QMP_CFG ∧ bit (s.rn a) 18 = false then putBits (s.rn a) 17 16 0 else s.rn a
  | 0x12 =>
    if a = Reg.FLT_STAT then s.fltStat
    else if a = Reg.FLT_INST_STAT then s.fltInstStat
    else if 0x20 ≤ o ∧ o < 0x40 then logWord s.flt.first ((o - 0x20) / 4)
    else if a = Reg.FLT_LOG_HEAD then (s.flt.log.head?.map (·.seq)).getD 0
    else if a = Reg.FLT_LOG_STAT then (s.logAt (s.rn Reg.FLT_LOG_SEL)).isSome.toNat
    else if 0x100 ≤ o ∧ o < 0x120 then logWord (s.logAt (s.rn Reg.FLT_LOG_SEL)) ((o - 0x100) / 4)
    else if 0x1000 ≤ o ∧ o % 8 = 4 then s.fltDetStat ((o - 0x1000) / 8) else s.rn a
  | 0x14 =>
    if a = Reg.PWR_STAT then putBits (s.rn a) 8 2 s.watch.rails
    else if a = Reg.PWR_TRIM_VAL then s.trimVal else s.rn a
  | 0x16 => if o = 8 then toLedger s.rtcNs % 2 ^ 32 else if o = 0xC then toLedger s.rtcNs / 2 ^ 32 else s.rn a
  | 0x17 =>
    if a = Reg.SVC_STAT then putBit (s.rn a) 14 s.checksMet
    else if a = Reg.SVC_TRIAL_LEFT then s.trialSeconds else s.rn a
  | 0x18 => if a = Reg.TWIN_STAT then s.twinStat else s.rn a
  | _ => s.rn a

/-! ### Addresses -/

/-- The Hold window (R524). -/
def inHold (a : Nat) : Bool := decide (holdBase ≤ a ∧ a < holdEnd)

/-- The counter whose snapshot shadow stands at an address (R75, R521). -/
def shadowBase (a : Nat) : Option Nat :=
  if a / 65536 < 25 ∧ 0x8000 ≤ a % 65536 ∧ isCounter (a - 0x8000) = true then some (a - 0x8000) else none

/-- Whether something stands at an address: a register, a counter's shadow or Hold (R522, R530). -/
def assigned (a : Nat) : Bool := a % 4 == 0 && (inHold a || (regDesc? a).isSome || (shadowBase a).isSome)

/-- The low or the high word of a 64-bit pair (R9); counters' shadows are pairs too. -/
def pairWord (a : Nat) : Option Bool :=
  match regDesc? ((shadowBase a).getD a) with
  | some d => if d.pair then some (decide ((a % 65536 % 0x8000 + 65536 * (a / 65536) - d.base) / 4 % 2 = 1)) else none
  | none => none

/-- The value at an address now (R6, R76, R524). -/
def State.peek (s : State) (a : Nat) : Nat :=
  if inHold a then s.holdNat a 4
  else match shadowBase a with
    | some b => (tabGetD s.time.shadow b 0).toNat
    | none => match regDesc? a with
      | some d => if d.acc == .wo then 0 else s.liveWord a
      | none => 0

/-! ### Shadows of pairs (R9, R526) -/

/-- A word latched for a requester, until its next read there. -/
def State.latchWord (s : State) (r : Requester) (a v : Nat) : State :=
  { s with pairLatch := ((r, a), BitVec.ofNat 32 v) :: dropKey s.pairLatch r a }

/-! ### Reads -/

/-- What a read changes beside the shadows: RC registers clear (R8), the head entries of a receive timestamp queue and of
a pin's captures go (R58, R69). -/
def State.readEffect (s : State) (a : Nat) : State :=
  let o := a % 65536
  if a / 65536 = 2 ∧ 0x100 ≤ o ∧ o < 0x300 ∧ o % 64 = 0x24 then s.rxqPop ((o - 0x100) / 64)
  else if a / 65536 = 2 ∧ 0x300 ≤ o ∧ o < 0x400 ∧ o % 32 = 0x18 then
    s.modTpin ((o - 0x300) / 32) fun p => { p with caps := p.caps.tail }
  else match regDesc? a with
    | some d => if d.acc == .rc then s.wn a 0 else s
    | none => s

/-- A read by a requester: its value and the state. A low word latches the high word, and TIME_NOW_LO the fraction too; a
high word that was latched is the one returned (R9, R526). WATCH_STAT.RC8_ON, whose level no rule gives a means to
follow, and a register of a keeper that has stopped read free values (log entries 36, 37). -/
def State.readReg (s : State) (r : Requester) (a : Nat) : Nat × State :=
  let keep := a / 65536 == 0x16 && !s.watch.keeper && assigned a
  let (v, s) := if keep then
      let (n, s) := s.draw
      (n % 2 ^ 32, s)
    else if a = Reg.WATCH_STAT then
      let (n, s) := s.draw
      (putBit (s.peek a) 6 (bit n 0), s)
    else (s.peek a, s)
  match takeKey s.pairLatch r a with
  | some w => (w.toNat, { s with pairLatch := dropKey s.pairLatch r a }.readEffect a)
  | none =>
    let s := if pairWord a = some false then s.latchWord r (a + 4) (s.peek (a + 4)) else s
    let s := if a = Reg.TIME_NOW then s.latchWord r Reg.TIME_NOW_FRAC (s.peek Reg.TIME_NOW_FRAC) else s
    (v, s.readEffect a)

/-- Words read in order from an address: values, whether every address was assigned, and the state. -/
def State.readRegs (s : State) (r : Requester) (a : Nat) : Nat → List Nat × Bool × State
  | 0 => ([], true, s)
  | n + 1 =>
    let (vs, ok, s) := State.readRegs s r a n
    let b := a + 4 * n
    let (v, s) := s.readReg r b
    (vs ++ [v], ok && assigned b, s)

end Sys2Proof.Machine
end

