-- ==== Sys2Proof/Machine/Reserve.lean ====
section
/-!
DEFINITION. Commands of the reserve ledger (R453, R454, R456) and the deckhand check (R35, Table 15.9).
-/
namespace Sys2Proof.Machine

/-- A bank has reached a threshold: it is worn when it is in service; the bank held in reserve has nothing to substitute. -/
def State.wornBank (s : State) (b : Nat) : State := if s.rsv.bankMap.contains b then s.worn 1 b else s

/-- Corrected errors of a bank: counted, and compared with RSV_THR_ECC within the hour; over it the rate fault stands
and the bank is worn (Table 15.9). -/
def State.wearEcc (s : State) (b n : Nat) : State :=
  let s := if s.rsv.hourStart + sec 3600 ≤ s.clk then
      { s with rsv := { s.rsv with hourEcc := [], hourStart := s.clk } } else s
  let before := tabGetD s.rsv.hourEcc b 0
  let thr := s.rn Reg.RSV_THR_ECC
  let s := (s.bumpBy (Reg.RSV_BANK_ECC b) n)
  let s := { s with rsv := { s.rsv with hourEcc := tabSet s.rsv.hourEcc b (before + n) } }
  if before < thr ∧ thr ≤ before + n then (s.raise 6 b (before + n)).wornBank b else s

/-- The Hold address of a 64-byte granule of a physical bank in service: four lie in each 256-byte block of the logical bank
that the bank holds (R22, R23). -/
def State.granuleAt (s : State) (b q : Nat) : Nat := q / 4 * 4096 + s.rsv.bankMap.idxOf b * 256 + q % 4 * 64

/-- An uncorrectable error of a bank: counted, the granule reads as zero, in a bank copy too (R454), detector 5 trips, and any
one reaches the threshold. -/
def State.wearUncorr (s : State) (b q : Nat) : State :=
  let s := if s.rsv.bankMap.contains b then s.writeHold (s.granuleAt b q) (List.replicate 64 0) else s
  let s := s.wn (Reg.RSV_BANK_UNCORR b) (min (s.rn (Reg.RSV_BANK_UNCORR b) + 1) (2 ^ 32 - 1))
  (s.raise 5 b).wornBank b

/-- The sense drift of a lamp port: recorded; above 1.5 % of I_FS detector 198 is raised, which is the threshold of the
port's sense path (Tables 12.5, 15.9; that it stood for 1 s is the sender's to say, log entry 51). -/
def State.wearSense (s : State) (p : Nat) (d : Int) : State :=
  let s := s.wn (Reg.RSV_SENSE_DRIFT p) (unsigned 16 d)
  if 150 < d.natAbs then (s.raise 198 p (unsigned 16 d)).worn 4 p else s

/-- A wear indicator's news (R453, Table 15.9). -/
def execWearUpdate (dt : Nat) (wear : Wear) (s : State) : Host.Outcome State Fault Refusal :=
  act dt s fun s =>
    match wear with
    | .ecc b n => s.wearEcc b.val n
    | .uncorrectable b q => s.wearUncorr b.val q.val
    | .sense p d => s.wearSense p.val d
    | .otpRow => s.worn 6 0
    | .nvmBlock => s.worn 7 0

/-- A substitute command: OK, no reserve free, one of the kind running, or invalid, in RSV_RESULT (R453, R456). -/
def State.substituteCmd (s : State) (k i : Nat) : State :=
  if k = 0 ∨ 5 < k ∨ s.policy k = 0 ∨ s.inService k i = false then s.wn Reg.RSV_RESULT 4
  else if s.rsv.running.any (·.kind == k) then s.wn Reg.RSV_RESULT 3
  else if s.reserveFree k i then (s.substitute k i).wn Reg.RSV_RESULT 1
  else (s.unavailable k i).wn Reg.RSV_RESULT 2

def execRsvSubstituteCmd (dt : Nat) (_req : Requester) (kind index : Nat) (s : State) :
    Host.Outcome State Fault Refusal :=
  act dt s fun s => s.substituteCmd kind index

/-- Writes of RSV_POLICY and the thresholds, ignored as a whole and counted when a field is invalid (R456). -/
def State.rsvWrite (s : State) (req : Requester) (r : RsvReg) (v : Nat) : State :=
  match r with
  | .policy =>
    if (List.range 5).all fun k => bits v (2 * k + 1) (2 * k) != 3 then s.wn Reg.RSV_POLICY (bits v 9 0)
    else s.accErr req Reg.RSV_POLICY true false
  | .thrEcc => if 1 ≤ v ∧ v ≤ 1000000 then s.wn Reg.RSV_THR_ECC v else s.accErr req Reg.RSV_THR_ECC true false
  | .thrEye =>
    if 1 ≤ bits v 15 8 ∧ bits v 15 8 ≤ 16 ∧ bits v 6 0 ≤ 64 then s.wn Reg.RSV_THR_EYE (bits v 6 0 + 256 * bits v 15 8)
    else s.accErr req Reg.RSV_THR_EYE true false

def execRsvPolicyWrite (dt : Nat) (req : Requester) (reg : RsvReg) (value : Word) (s : State) :
    Host.Outcome State Fault Refusal :=
  act dt s fun s => s.rsvWrite req reg value.toNat

/-- A substitution completes (R454); the mapping of Hold banks is switched at a latch edge (Table 15.9). -/
def execSubstitutionComplete (dt kind : Nat) (s : State) : Host.Outcome State Fault Refusal :=
  act dt s fun s => if kind = 1 ∧ s.onEdge = false then s else s.substComplete kind

/-- A deckhand is checked against a reserve: a mismatch is counted, trips detector 7 and reaches the threshold of 1
(Table 15.9, R35). -/
def execDeckhandCheck (dt core : Nat) (agree : Bool) (s : State) : Host.Outcome State Fault Refusal :=
  act dt s fun s =>
    if agree ∨ 10 ≤ core then s else
      let s := s.setFld (Reg.RSV_CORE_STAT core) 15 8 (min 255 (s.fld (Reg.RSV_CORE_STAT core) 15 8 + 1))
      let s := s.raise 7 core
      if s.rsv.cores.contains core then s.worn 2 core else s

end Sys2Proof.Machine
end

