-- ==== Sys2Proof/Machine/Calib.lean ====
section
/-!
DEFINITION. Commands of the calibration engine (05_pixel_calibration.md).
-/
namespace Sys2Proof.Machine

/-- A write of CAL_CTRL (R142). -/
def execCalCtrlWrite (dt : Nat) (req : Requester) (value : Word) (s : State) : Host.Outcome State Fault Refusal :=
  actBy dt req s fun s => s.calCtrlWrite value.toNat

/-- A write of CAL_BIN_SEL (R150). -/
def execBinSelWrite (dt : Nat) (req : Requester) (value : Word) (s : State) : Host.Outcome State Fault Refusal :=
  act dt s fun s => s.binSelWrite req value.toNat

/-- GO of CAL_BIN_COMMIT (R150). -/
def execBinCommit (dt : Nat) (req : Requester) (s : State) : Host.Outcome State Fault Refusal :=
  actBy dt req s fun s => s.binCommit

/-- A write of CAL_BRIGHT_TARGET (R155, R157). -/
def execBrightTargetWrite (dt : Nat) (req : Requester) (value : Word) (s : State) : Host.Outcome State Fault Refusal :=
  actBy dt req s fun s => s.brightWrite req value.toNat

/-- A write of CAL_AMB_CFG (Table 05.8, text after R158). -/
def execAmbCfgWrite (dt : Nat) (req : Requester) (value : Word) (s : State) : Host.Outcome State Fault Refusal :=
  act dt s fun s => s.ambWrite req value.toNat

/-- The ambient input read at the first latch edge at or after a whole ledger second (R156): the change is committed at that edge; the
Lead sends its target to the Escort, which uses no reading of its own while inputs are mirrored (R158, R284). -/
def State.ambient (s : State) : State :=
  let c := s.rn Reg.CAL_AMB_CFG
  match s.pipe.edge with
  | none => s
  | some k =>
    let second := s.edge k / 1000000000
    if !bit c 0 ∨ s.mirrored ∨ second ≤ s.edge (k - 1) / 1000000000 ∨ s.cal.ambSecond.any (fun x => decide (second ≤ x)) then s
    else
      let s := { s with cal := { s.cal with ambSecond := some second } }
      let target := s.ambTarget (s.fld (Reg.WATCH_VAL (bits c 3 1)) 11 0)
      if absDiff target (s.fld Reg.CAL_BRIGHT_TARGET 12 0) ≤ bits c 15 4 then s
      else
        let s := (s.wn Reg.CAL_BRIGHT_TARGET target).startRamp target (bits c 31 16) (k + s.lag)
        s.mirrorOut (k + s.lag) [4, target]

def execAmbientUpdate (dt : Nat) (s : State) : Host.Outcome State Fault Refusal := act dt s State.ambient

/-- The temperature of an entry's tile latched for tally n (R152, R153). -/
def State.latchTemp (s : State) (n t : Nat) : State :=
  let e := s.tileEntry t
  let tr := s.rasterPoint n
  let sn := tr - 200000
  let ok := e.temps.filter fun x => decide (sn - 1000000 ≤ x.1 ∧ x.1 ≤ sn ∧ x.2.2 ≤ (tr - 50000) * 65536)
  match ok.foldl (fun (b : Option (Nat × Int × Nat)) x => match b with
      | some y => if y.1 < x.1 then some x else b
      | none => some x) none with
  | some x => (s.setEntry t { e with temp := some x.2.1, heldSince := none }).condClear 67 t
  | none =>
    let s := s.bump Reg.CAL_TEMP_HELD
    let since := e.heldSince.getD s.clk
    let s := s.setEntry t { e with heldSince := some since }
    if s.elapsed since (sec 1) && !s.quiet then s.raiseOnce 67 t else s

/-- At Tr(n) − 50 µs every present tile's temperature is latched (R152). -/
def execTempLatch (dt : Nat) (tally : Nat) (s : State) : Host.Outcome State Fault Refusal :=
  act dt s fun s =>
    if s.rasterPoint tally - 50000 ≤ s.ns then
      ((s.scan.entries.filter fun e => e.2.present).map (·.1)).foldl (fun s t => s.latchTemp tally t) s
    else s

/-- An upload waiting for staging is tried again (R162). -/
def execCalUploadStart (dt : Nat) (entry : Fin 2048) (s : State) : Host.Outcome State Fault Refusal :=
  act dt s fun s => s.uploadStart entry

/-- The entry whose tile stands at a lane and position. -/
def State.entryAt (s : State) (lane pos : Nat) : Option Nat :=
  (s.scan.entries.find? fun e => e.2.state != 0 && e.2.pos == pos
    && (e.2.lane == lane || (!e.2.moved && (mEnds (s.liveWords e.1)).contains lane))).map (·.1)

/-- Image bytes from a tile; those of another epoch are dropped and counted (R161). -/
def execCalDataReceive (dt : Nat) (lane : Fin 24) (pos epoch offset : Nat) (data : List Byte) (s : State) :
    Host.Outcome State Fault Refusal :=
  act dt s fun s =>
    match s.entryAt lane pos with
    | some t => if (s.tileEntry t).epoch = epoch then s.calData t offset data else s.bump Reg.CAL_STALE
    | none => s

/-- An image not whole within 2 s ends the attempt (R160). -/
def execCalUploadTimeout (dt : Nat) (entry : Fin 2048) (s : State) : Host.Outcome State Fault Refusal :=
  act dt s fun s =>
    let u := (s.tileEntry entry).upload
    if (u.step = 2 ∨ u.step = 3) ∧ s.elapsed u.started (sec 2) then s.uploadFail entry else s

/-- The copy in the blanking before the raster of the effective tally (R162). In a twin that has not accepted the image by
the tally announced, it is reported then (R163). -/
def execCalCopyIn (dt : Nat) (entry : Fin 2048) (s : State) : Host.Outcome State Fault Refusal :=
  act dt s fun s =>
    let t := entry.val
    let e := s.tileEntry t
    let u := e.upload
    match u.eff, u.peer with
    | some n, _ => if u.step = 4 ∧ s.rasterStop (n - 1) ≤ s.ns then s.copyIn t else s
    | none, some n =>
      if s.role = 2 ∧ s.rasterStop (n - 1) ≤ s.ns then
        (s.setEntry t { e with upload := { u with peer := none } }).twinSend "CAL_NOT_READY" 4 [t, n]
      else s
    | none, none => s

/-- A write of CAL_TILE_RELOAD (R167). -/
def State.tileReload (s : State) (v : Nat) : State :=
  let t := bits v 10 0
  if bit v 31 ∧ (s.tileEntry t).present then
    let e := s.tileEntry t
    (s.setEntry t { e with upload := { e.upload with attempts := 0 } }).uploadNew t true
  else s

def execTileReload (dt : Nat) (_req : Requester) (value : Word) (s : State) : Host.Outcome State Fault Refusal :=
  act dt s fun s => s.tileReload value.toNat

/-- The twin's message about a tile's new entries (R163): at the Lead, the first tally effective at the Escort, from which with
its own it forms the one it announces; at the Escort, the tally that the Lead announces. -/
def execCalTallyAnnounce (dt : Nat) (entry : Fin 2048) (tally : Nat) (s : State) : Host.Outcome State Fault Refusal :=
  act dt s fun s =>
    let t := entry.val
    let e := s.tileEntry t
    if s.role = 1 ∨ s.role = 2 then
      (s.setEntry t { e with upload := { e.upload with peer := some tally } }).calTally t
    else s

/-! ### Tile status -/

/-- Evidence for the election from a present tile of a twin-fed chain (R276). -/
def State.witness (s : State) (t : Nat) (st : TileStatus) : State :=
  let f := mFeed (s.liveWords t)
  if f < 2 then s
  else
    let hears := if f = 2 then st.hearsB else st.hearsA
    let role := if f = 2 then st.roleB else st.roleA
    let was := tabGet? s.twin.lastHeard t
    let rise := hears && role == 1 && was.any (fun r => r != 1)
    let old := s.twin.witnesses.filter fun w => decide (s.clk ≤ w.clk + ms 2)
    { s with twin := { s.twin with
      witnesses := ⟨s.clk, t, hears, role⟩ :: old
      lastHeard := (if hears then tabSet s.twin.lastHeard t role else s.twin.lastHeard)
      lastRise := (if rise then some s.clk else s.twin.lastRise) } }

/-- The tiles of the chain of a lane that two ends feed, those away from their entries and those lost among them: entry and
status. -/
def State.chainTiles (s : State) (l : Nat) : List (Nat × TileEntry) :=
  if s.scan.live.any fun e => mEnable e.2 && mFeed e.2 != 0 && (mEnds e.2).contains l then
    s.scan.entries.filter fun e => e.2.state != 0 && (s.sendLanes e.1).contains l
  else []

/-- Whether the chain of a lane reads as broken, and as heard whole (R181). -/
def State.chainBroken (s : State) (l : Nat) : Bool :=
  let c := (s.chainTiles l).filter fun e => e.2.present
  let hears := fun (a b : Bool) => c.any fun e => e.2.status.any fun st => st.hearsA == a && st.hearsB == b
  hears true false && hears false true
def State.chainWhole (s : State) (l : Nat) : Bool :=
  ((s.chainTiles l).filter fun e => e.2.present).all fun e => e.2.status.any fun st => st.hearsA && st.hearsB

/-- Whether the tile of an entry hears the end that a lane feeds; one that is lost does not. -/
def State.hearsEnd (s : State) (l : Nat) (e : Nat × TileEntry) : Bool :=
  e.2.present && e.2.status.any fun st => if s.endB l then st.hearsB else st.hearsA

/-- A lane's chain judged after a status: tiles heard from this end, and the times of R181. -/
def State.chainSettle (s : State) (l : Nat) : State :=
  let here := s.scan.entries.filter fun e => e.2.present && (s.sendLanes e.1).contains l && s.hearsEnd l e
  let s := s.setFld (Reg.SCAN_LINK_STAT l) 6 0 here.length
  let broken := s.chainBroken l
  let whole := s.chainWhole l
  let keep := fun (b : Bool) (m : Tab Nat) => if b then tabMod m l s.clk id else tabErase m l
  let s := { s with scan := { s.scan with
    breakSince := keep broken s.scan.breakSince, wholeSince := keep whole s.scan.wholeSince } }
  let x := s.fltInst 80 l
  if x.standing then
    if whole then
      let s := if x.cond then s.setFltInst 80 l { x with cond := false, quietFrom := s.clk + us 200 } else s
      if s.elapsed (tabGetD s.scan.wholeSince l s.clk) (us 200) then s.setFld (Reg.SCAN_LINK_STAT l) 13 7 0 else s
    else s.setFltInst 80 l { x with cond := true }
  else s

/-- A status of another epoch is dropped, counted and logged (R191). -/
def State.staleTile (s : State) (t : Nat) : State := (s.bump Reg.SCAN_STALE).raise 85 t

/-- The temperature of a status (R152, R235). -/
def State.statusTemp (s : State) (t : Nat) (st : TileStatus) : State :=
  if !st.tempValid then s
  else if st.temp < -880 ∨ 2400 < st.temp then s.bump Reg.CAL_TEMP_BAD
  else
    let e := s.tileEntry t
    s.setEntry t { e with temps := ((ofLedger st.tempAt, st.temp, s.stamp16) :: e.temps).take 256 }

/-- A status of a matched tile at its own place and epoch (R152, R185, R189, R191, R247, R276). -/
def State.entryStatus (s : State) (t : Nat) (st : TileStatus) : State :=
  let e := s.tileEntry t
  let again := e.status.any fun o => o.seq == st.seq
  let s := s.setEntry t { e with lastStatus := s.clk, status := some st, statusAt := s.stamp16 }
  let s := if again then s else
    let s := s.statusTemp t st
    let s := if st.incomplete then s.bump Reg.SCAN_INCOMPLETE else s
    if s.scan.snapWait.contains t then
      let s := { s with scan := { s.scan with snapWait := s.scan.snapWait.filter (· != t) } }
      if st.snapId = s.time.snapId then s
      else ({ s with time := { s.time with tilesMissed := s.time.tilesMissed + 1 } }).snapSettle
    else s
  let e := s.tileEntry t
  let other := match e.other with
    | some (l, p) => if (s.scan.found.any fun g => g.1 / 64 == l && g.2.pos == p && s.foundHere g.2) then e.other else none
    | none => none
  let s := (s.setEntry t { e with other := other }).judge t
  let s := s.witness t st
  (s.sendLanes t).foldl (fun s l => s.chainSettle l) s

/-- A STATUS packet on a lane (R181, R190, R191, R235 to R237): the tile is the one matched at that place of the chain, by
either end, or one found there; a status of another epoch than its current one is dropped. -/
def State.tileStatus (s : State) (lane pos epoch : Nat) (st : TileStatus) : State :=
  let rec_ := s.scan.found.find? fun f => f.1 / 64 == lane && f.2.pos == pos
  let mine := (s.scan.entries.find? fun e => e.2.state != 0 && e.2.pos == pos && (s.sendLanes e.1).contains lane
    && (rec_.all fun f => f.2.ident == e.2.ident)).map (·.1)
  let epochNow := match mine, rec_ with
    | some t, _ => some (s.tileEntry t).epoch
    | none, some f => some f.2.epoch
    | none, none => none
  match epochNow with
  | none => if st.needDiscovery then s.startWalk lane else s
  | some n =>
    if n ≠ epoch then s.staleTile (mine.getD ((rec_.bind fun f => f.2.entry).getD 2048))
    else
      let s := match rec_ with
        | some f =>
          let g := { f.2 with lastStatus := s.clk, rateA := st.rateA, rateB := st.rateB }
          ({ s with scan := { s.scan with found := tabSet s.scan.found f.1 g } }).scanSettle
        | none => s
      let s := s.linkLoad lane
      let s := if st.needDiscovery then s.startWalk lane else s
      match mine with
      | some t => if (s.tileEntry t).present then s.entryStatus t st else s
      | none => s

def execTileStatusReceive (dt : Nat) (lane : Fin 24) (pos epoch : Nat) (status : TileStatus) (s : State) :
    Host.Outcome State Fault Refusal :=
  act dt s fun s => s.tileStatus lane pos epoch status

end Sys2Proof.Machine
end

