-- ==== Sys2Proof/Machine/Scan.lean ====
section
/-!
DEFINITION. Commands of scan-out, chains and discovery at the device (06_scanout_tiles.md).
-/
namespace Sys2Proof.Machine

/-- A write of SCAN_MAP_SEL (R168). -/
def execMapSelWrite (dt : Nat) (req : Requester) (value : Word) (s : State) : Host.Outcome State Fault Refusal :=
  act dt s fun s => s.mapSelWrite req value.toNat

/-- GO of SCAN_MAP_COMMIT (R168). -/
def execMapCommit (dt : Nat) (req : Requester) (s : State) : Host.Outcome State Fault Refusal :=
  actBy dt req s fun s => s.mapCommit

/-- A write of SCAN_LINK_CFG (R168). -/
def execLinkCfgWrite (dt : Nat) (req : Requester) (lane : Fin 24) (value : Word) (s : State) :
    Host.Outcome State Fault Refusal :=
  actBy dt req s fun s => s.linkCfgWrite lane value.toNat

/-- A write of SCAN_SUBFRAME (R177). -/
def execSubframeWrite (dt : Nat) (req : Requester) (value : Word) (s : State) : Host.Outcome State Fault Refusal :=
  actBy dt req s fun s => s.subframeWrite value.toNat

/-- A write of SCAN_CTRL (R184, Table 06.6). -/
def execScanCtrlWrite (dt : Nat) (req : Requester) (value : Word) (s : State) : Host.Outcome State Fault Refusal :=
  actBy dt req s fun s => s.scanCtrlWrite req value.toNat

/-- The HOLD word of a lane's chain (Table 06.3); in Quiet every present tile is held (R463). -/
def State.holdWord (s : State) (l n : Nat) : Nat :=
  (s.scan.entries.filter fun e => e.2.present && (s.sendLanes e.1).contains l && (e.2.held || s.quietFor n)).foldl
    (fun w e => putBit w e.2.pos true) 0

/-- Whether every tile on a lane is held (R186): an unmapped tile, or the one at the other place of a conflict, never is. -/
def State.laneHeld (s : State) (l n : Nat) : Bool :=
  let here := s.scan.entries.filter fun e => e.2.present && (s.sendLanes e.1).contains l
  let stray := s.scan.found.any fun f => f.1 / 64 == l && s.foundHere f.2
    && !here.any fun e => f.2.entry == some e.1 && e.2.pos == f.2.pos
  !here.isEmpty && !stray && here.all fun e => e.2.held || s.quietFor n

/-- The token of a tally on a lane (Table 06.3). -/
def State.token (s : State) (l n : Nat) (second : Bool) : Token :=
  { toward := s.towardA l, tally := n % 2 ^ 32, tp := toLedger (s.tp n), period := s.tp (n + 1) - s.tp n
    emitOffset := s.rn Reg.SCAN_EMIT_OFFSET, subframes := s.scan.sub, lossHold := s.rn Reg.SCAN_LOSS_HOLD
    abort := s.pipe.aborted, copy := second, role := s.role, hold := s.holdWord l n }

/-- A copy of the token of the tally in raster on every local chain end, once the first frame is due (R501), 10 µs and 30 µs after the raster's end (R174,
R183); after the second, a lane whose tiles are all held enters low-power idle (R186, R259). -/
def State.tokenSend (s : State) (n : Nat) (second : Bool) : State :=
  if s.pipe.raster ≠ some n ∨ s.ns < s.rasterStop n + (if second then 30000 else 10000) ∨ s.inReset .scanout ∨ !s.time.armed then s
  else
    let s := if s.pipe.aborted && !second then s.bump Reg.SCAN_ABORT_TOK else s
    let lanes := rangeFilter 24 fun l => s.laneRole l == 5 && s.linked l
    lanes.foldl (fun s l =>
      let s := s.packet (8 + l) "TOKEN" (tokenPacket (s.token l n second))
      if second && s.laneHeld l n then s.lpiSleep l else s) s

def execTokenSend (dt : Nat) (tally : Nat) (second : Bool) (s : State) : Host.Outcome State Fault Refusal :=
  act dt s fun s => s.tokenSend tally second

/-- A refresh of 512 IDLE blocks and a BEACON; the transmitter squelches after it (R259). -/
def execLpiRefresh (dt : Nat) (lane : Fin 24) (s : State) : Host.Outcome State Fault Refusal :=
  act dt s fun s =>
    let p := s.lpi lane
    if p.idle ∧ s.elapsed p.lastRefresh (us 20) then
      let s := ((s.setLpi lane { p with lastRefresh := s.clk }).setTx lane .idle).sendBlocks "LPI_REFRESH" lane
        (List.replicate 512 idleBlock)
      (s.enqueue (8 + lane) ⟨s.clk, 7, "BEACON", beaconPacket (s.towardA lane) s.role s.nodeId⟩).setTx lane .squelched
    else s

/-- The transmitter leaves low-power idle (R186, R259). -/
def execLpiWake (dt : Nat) (lane : Fin 24) (s : State) : Host.Outcome State Fault Refusal :=
  act dt s fun s => s.lpiWake lane

/-- Tiles of a chain have heard only one end each for 200 µs (R181): BREAK at each local end, with the first position not
heard from it, and the chain-break fault. -/
def State.chainBreak (s : State) (l : Nat) : State :=
  let since := tabGet? s.scan.breakSince l
  if s.chainBroken l && since.any (fun c => s.elapsed c (us 200)) then
    (s.chainLanes l).foldl (fun s q =>
      let deaf := ((s.chainTiles q).filter fun e => !s.hearsEnd q e).map fun e => e.2.pos
      let first := if s.endB q then deaf.foldl max 0 else deaf.foldl min 63
      ((s.setFld (Reg.SCAN_LINK_STAT q) 12 7 first).setFld (Reg.SCAN_LINK_STAT q) 13 13 1).raiseOnce 80 q first) s
  else s

def execChainBreak (dt : Nat) (lane : Fin 24) (s : State) : Host.Outcome State Fault Refusal :=
  act dt s fun s => s.chainBreak lane

/-- A walk of a chain end (R239). -/
def execChainWalk (dt : Nat) (lane : Fin 24) (s : State) : Host.Outcome State Fault Refusal :=
  act dt s fun s => s.startWalk lane

/-- DISCOVER sent again, 1 ms after the last, to hops that gave no DESCRIPTOR and to the hops of lost tiles (R191, R239).
A lost tile is sought from each local end of its chain. -/
def execDiscoverRetry (dt : Nat) (lane : Fin 24) (s : State) : Host.Outcome State Fault Refusal :=
  act dt s fun s =>
    let l := lane.val
    let w := s.walk l
    let lost := (s.scan.entries.filter fun e => e.2.state == 3 && (s.sendLanes e.1).contains l).map fun e =>
      if e.2.lane = l then e.2.hop else if s.endB l then s.chainLen l - 1 - e.2.pos else e.2.pos
    if s.laneRole l = 5 ∧ s.linked l ∧ s.elapsed w.last (ms 1) then
      s.discover l (w.asked ++ lost.filter fun h => !w.asked.contains h)
    else s

/-- A DESCRIPTOR (R187 to R191, R239): the tile at the hop asked is found, assigned its position and matched; one not
asked for whose epoch is not the tile's is dropped. -/
def State.descriptor (s : State) (l hop epoch : Nat) (d : Descriptor) : State :=
  let w := s.walk l
  let key := l * 64 + hop
  let old := tabGet? s.scan.found key
  if !w.asked.contains hop then
    if old.any fun f => f.epoch == epoch then s else s.staleTile ((old.bind fun f => f.entry).getD 2048)
  else
    let pos := s.posAt l hop
    let next := w.hop == hop && decide (hop + 1 < s.chainLen l)
    let s := s.setWalk l { w with asked := w.asked.filter (· != hop), hop := (if w.hop = hop then hop + 1 else w.hop) }
    let f : Found := ⟨d.ident, epoch, pos, none, d.width, d.height, d.calSize, d.ranges, s.clk, 4, 4⟩
    let s := { s with scan := { s.scan with found := tabSet s.scan.found key f } }
    let s := s.packet (8 + l) "ASSIGN" (assignPacket (s.towardA l) epoch hop pos (s.chainLen l) d.ident s.nodeId)
    let s := s.matchFound key
    let s := match (tabGet? s.scan.found key).bind fun f => f.entry with
      | some t => s.rangeConflicts t
      | none => s
    if next then s.discover l [hop + 1] else s

def execDescriptorReceive (dt : Nat) (lane : Fin 24) (hop epoch : Nat) (d : Descriptor) (s : State) :
    Host.Outcome State Fault Refusal :=
  act dt s fun s => s.descriptor lane hop epoch d

/-- No status from a tile for 200 µs (R191): LOST, counted, with the tile-lost fault; its size, load and conflict faults
end (R188, R189). -/
def execTileLost (dt : Nat) (entry : Fin 2048) (s : State) : Host.Outcome State Fault Refusal :=
  act dt s fun s =>
    let t := entry.val
    let e := s.tileEntry t
    if e.present ∧ s.elapsed e.lastStatus (us 200) then
      let s := s.setEntry t { e with state := 3, held := false, heldFor := 0, other := none }
      let s := ((s.bump Reg.SCAN_TILE_LOST).raiseOnce 81 t).notify 0x81 0 t []
      (({ s with cal := { s.cal with readyAt := s.clk } }).condClear 83 t).condClear 84 t |>.scanSettle
    else s

end Sys2Proof.Machine
end

