-- ==== Sys2Proof/Machine/RegWrite.lean ====
section
/-!
DEFINITION. A write of a register at any address: its fields stored, its commit submitted or its command obeyed, as the block
maps of the chapters give it (R5 to R9, R521 to R530).
-/
namespace Sys2Proof.Machine

/-- Bits a write sets in a word of a shadow window, of WATCH_I2C or of WATCH_RULE, whose words have layouts of their own
(Tables 05.4, 06.1, 10.2, 11.1 to 11.3, 14.10, 16.5 and 16.6): their reserved fields stay 0. -/
def winMask (a : Nat) : Nat :=
  let i := a / 4
  if 0x50000 ≤ a ∧ a < 0x60000 then
    if 0x40 ≤ a % 4096 ∧ a % 4096 < 0x50 then [0xFFFFFFFF, 0xFFFFFFFF, 0x7FFFFFFF, 0x8001FFFF].getD (i % 4) 0 else 0xFFFFFFFF
  else if 0x81000 ≤ a ∧ a < 0x81100 then if i % 8 = 0 then 0x1FFFF else if i % 8 = 7 then 0 else 0xFFFFFFFF
  else if 0x90100 ≤ a ∧ a < 0x90120 then
    [0xFFFFFFFF, 0xFFFFFFFF, 0xFFFFF, 0x3FFFFFFF, 0x3FF03FF, 0x3FF].getD (i % 8) 0
  else if 0xA1000 ≤ a ∧ a < 0xA1200 then if i % 2 = 0 then 0x3FFFFFFF else 0x3FFFFF
  else if 0xA2000 ≤ a ∧ a < 0xA3000 then
    if i % 16 = 0 then 0x3FF else if i % 16 = 1 ∨ 14 ≤ i % 16 then 0 else if i % 2 = 1 then 0xFFFFFF else 0xFFFFFFFF
  else if 0xB1000 ≤ a ∧ a < 0xB1200 then if i % 8 = 0 then 0xFFFEFFF else if i % 8 = 7 then 0x1FFFF else 0xFFFFFFFF
  else if 0xF0100 ≤ a ∧ a < 0xF0140 then if i % 16 = 0 then 0xFFF else if 14 ≤ i % 16 then 0 else 0xFFFFFFFF
  else if 0x100100 ≤ a ∧ a < 0x100110 then [0xFFFFFFFF, 0x3FFFFF, 0xFFFFFFFF, 0xFF].getD (i % 4) 0
  else if 0x150400 ≤ a ∧ a < 0x150500 then if i % 2 = 0 then 0xFFFFFFFF else 0xFFFFF
  else if 0x150800 ≤ a ∧ a < 0x150840 then [0x7FF7FFF, 0xFFFFFFFF, 0x7F007F, 0x7F007F].getD (i % 4) 0
  else 0xFFFFFFFF

/-- Bits a write sets in a register. -/
def wmask (a : Nat) : Nat :=
  match regDesc? a with
  | some d => d.wmask &&& winMask a
  | none => 0

/-- A register without behaviour of its own takes the fields written; reserved bits stay 0 (R6). -/
def State.store (s : State) (a v : Nat) : State := s.wn a (v &&& wmask a)

/-- A key-guarded command register (R6): obeyed with its key in [31:16], else ignored and counted. -/
def State.keyed (s : State) (req : Requester) (a key v : Nat) (f : State → State) : State :=
  if bits v 31 16 = key then f s else s.accErr req a true true

/-- A register stored when its value is in range, else ignored; counted where the block map says so. -/
def State.storeIf (s : State) (ok : Bool) (a v : Nat) : State := if ok then s.store a v else s

def State.storeOr (s : State) (req : Requester) (ok : Bool) (a v : Nat) : State :=
  if ok then s.store a v else s.accErr req a true false

/-! ### The Ferry's registers (R428, R433) -/

/-- FERRY_RANGE_WIN shows the live entry. -/
def State.rangeSel (s : State) (v : Nat) : State :=
  let i := bits v 5 0
  (s.wn Reg.FERRY_RANGE_SEL i).wrWords (Reg.FERRY_RANGE_WIN 0) ((List.range 4).map fun j => rangeWord s i j)

/-- Registers of the caravan class whose read clears or removes: TIME_RXQ_DROP, COMP_COST_PEAK, TIME_RXQ_W3 and
TIME_TPIN_CAP_HI. -/
def readMoves : List Nat :=
  Reg.COMP_COST_PEAK :: (List.range 8).flatMap fun k =>
    [Reg.TIME_RXQ_DROP k, Reg.TIME_RXQ_W3 k, Reg.TIME_TPIN_CAP k + 4]

/-- The reason for which a range entry is refused (R428); 0 for none. -/
def State.rangeReason (s : State) (w : List Nat) : Nat :=
  let w1 := w.getD 1 0
  let base := w.getD 0 0 + 2 ^ 32 * bits w1 7 0
  let limit := w.getD 2 0 + 2 ^ 32 * bits (w.getD 3 0) 7 0
  let cls := bits w1 17 16
  let meets := fun (sp a n : Nat) => sp == bits w1 15 8 && decide (base < a + n ∧ a ≤ limit)
  if limit < base ∨ cls = 3 then 1
  else if !bit w1 20 then 0
  else if cls = 0 then 2
  else if cls = 1 then if readMoves.any fun a => meets 0 a 4 then 3 else 0
  else if s.scan.entries.any fun e => e.2.present && e.2.ranges.any fun r => meets r.1 r.2.1 r.2.2 then 3
  else 0

/-- A range entry applied: it starts without a conflict. -/
def State.setRange (s : State) (i : Nat) (w : List Nat) : State :=
  let s := { s with ferry := { s.ferry with conflicts := s.ferry.conflicts.filter fun c => c.1 != i } }
  (s.setFld (Reg.FERRY_RANGE_DADDR i + 4) 31 31 0).wrWords (Reg.FERRY_RANGE (4 * i))
    [w.getD 0 0, bits (w.getD 1 0) 21 0, w.getD 2 0, bits (w.getD 3 0) 7 0]

/-- GO of FERRY_RANGE_COMMIT (R428). -/
def State.rangeGo (s : State) : State :=
  let w := s.rdWords (Reg.FERRY_RANGE_WIN 0) 4
  match s.rangeReason w with
  | 0 => (s.setRange (s.fld Reg.FERRY_RANGE_SEL 5 0) w).wn Reg.FERRY_RANGE_STAT 0
  | r => s.wn Reg.FERRY_RANGE_STAT (1 + 2 * r)

/-- A write of FERRY_TIMEOUT, PIER_OQ_CFG, FERRY_RANGE_WIN or FERRY_NODE_MAP (R433). -/
def State.ferryWrite (s : State) (req : Requester) (r : FerryReg) (v : Nat) : State :=
  match r with
  | .timeout => s.storeOr req (decide (100 ≤ bits v 16 0 ∧ bits v 16 0 ≤ 100000)) Reg.FERRY_TIMEOUT v
  | .oqCfg q =>
    let ok := decide (1 ≤ bits v 9 0 ∧ bits v 9 0 ≤ 512 ∧ 1 ≤ bits v 23 10 ∧ bits v 23 10 ≤ 10000)
    let s := s.storeOr req ok (Reg.PIER_OQ_CFG q) v
    s.setOutQ q (s.outQ q)
  | .rangeWin i => s.storeOr req (i != 0 || v % 4 == 0) (Reg.FERRY_RANGE_WIN i) v
  | .nodeMap k =>
    if 1 ≤ k ∧ k ≤ 1024 then s.storeOr req (v != 0xFFFFFFFF) (Reg.FERRY_NODE_MAP (k - 1)) v else s

/-! ### Blocks with behaviour of their own -/

def State.writeTime (s : State) (req : Requester) (a v : Nat) : State :=
  let o := a % 65536
  if a = Reg.TIME_JUMP_THR then s.jumpThrWrite v
  else if a = Reg.TIME_STEP_CMD then s.keyed req a 0xA5C3 v fun s =>
    match bits v 1 0 with
    | 1 => s.stepAccept.1
    | 2 => s.stepReject
    | _ => s
  else if 0x100 ≤ o ∧ o < 0x300 ∧ o % 64 = 0 then s.portCtrlWrite req ((o - 0x100) / 64) v
  else if 0x300 ≤ o ∧ o < 0x400 then
    let k := (o - 0x300) / 32
    match o % 32 with
    | 0x00 => s.tpinCtrl req k v
    | 0x04 => s.pairPut req a v
    | 0x08 => s.tpinArm req k v
    | 0x0C => s.tpinTiming req k false v
    | 0x10 => s.tpinTiming req k true v
    | _ => s
  else if a = Reg.TIME_SNAP_AT then s.pairPut req a v
  else if a = Reg.TIME_SNAP_AT + 4 then (s.pairTake req Reg.TIME_SNAP_AT).wn a v
  else if a = Reg.TIME_SNAP_CTRL then
    let s := s.wn a (bits v 15 0 + 2 ^ 17 * bits v 18 17)
    if bit v 16 then s.snapRequest (.regs req) (bits v 15 0) (s.pair Reg.TIME_SNAP_AT) (bit v 17) (bit v 18) else s
  else s.store a v

def State.laneCmd (s : State) (req : Requester) (l v : Nat) : State :=
  match bits v 2 0 with
  | 1 => s.cmdRetrain req l
  | 2 => s.cmdEnterTest req l
  | 3 => s.cmdLeaveTest req l
  | 4 => s.cmdSubstitute req l
  | 5 => s.cmdDisable req l
  | 6 => s.cmdEnable req l
  | _ => s

def State.writeLane (s : State) (req : Requester) (a v : Nat) : State :=
  let l := (a % 65536 - 0x100) / 128
  match (a % 65536 - 0x100) % 128 with
  | 0x04 => s.testCfgWrite req l .txeq v
  | 0x08 => s.keyed req a 0x3C5A v fun s => s.laneCmd req l v
  | 0x18 => s.testCfgWrite req l .lb v
  | 0x1C => s.testCfgWrite req l .prbs v
  | 0x34 => s.eyeStart req l v
  | _ => s.store a v

def State.writeMac (s : State) (req : Requester) (a v : Nat) : State :=
  let o := a % 65536
  let m := o / 4096
  match o % 4096 with
  | 0x14 => s.pauseWrite req m false v
  | 0x18 => s.pauseWrite req m true v
  | 0x1C => s.fltSelWrite req m v
  | 0x20 => if bit v 0 then s.fltCommit req m else s
  | _ => if s.macDisabled m then s.accErr req a true false else s.store a v

/-- The register of a receiver at an offset (Table 03.8). -/
def srcReg? (r : Nat) : Option SrcReg :=
  match r with
  | 0x04 => some .cfg
  | 0x08 => some .size
  | 0x0C => some .xfer
  | 0x10 => some .p0Addr
  | 0x14 => some .p0Port
  | 0x18 => some .p1Addr
  | 0x1C => some .p1Port
  | 0x20 => some .clip
  | 0x24 => some .startLo
  | 0x2C => some .pqPeak
  | _ => none

def State.writeIng (s : State) (req : Requester) (a v : Nat) (cue : Option Nat) : State :=
  let o := a - Reg.ING_SRC_HANDLE 0
  let i := o / 256
  match srcReg? (o % 256) with
  | some r => s.srcCfgWrite req i r v cue
  | none => if o % 256 = 0x28 then s.clipStart req i v cue else s.store a v

def State.writeComp (s : State) (req : Requester) (a v : Nat) (cue : Option Nat) : State :=
  let o := a % 65536
  if a = Reg.COMP_COEF_COMMIT then if bit v 0 then s.coefCommit cue else s
  else if 0x1000 ≤ o ∧ o < 0x2000 then
    let l := (o - 0x1000) / 64
    match o % 64 with
    | 0x24 => s.maskSelWrite req l (bit v 0) cue
    | 0x30 => if bit v 0 ∨ (s.ownerOf 1 l).isNone then s.layerGo req l cue else s
    | _ => s.storeOr req (s.ownerOf 1 l).isSome a v
  else s.store a v

def State.writeCal (s : State) (req : Requester) (a v : Nat) (cue : Option Nat) : State :=
  if a = Reg.CAL_CTRL then s.calCtrlWrite v cue
  else if a = Reg.CAL_TEMP_DEFAULT then s.tempDefaultWrite v cue
  else if a = Reg.CAL_BRIGHT_TARGET then s.brightWrite req v cue
  else if a = Reg.CAL_AMB_CFG then s.ambWrite req (v &&& wmask a)
  else if a = Reg.CAL_BIN_SEL then s.binSelWrite req v
  else if a = Reg.CAL_BIN_COMMIT then if bit v 0 then s.binCommit cue else s
  else if a = Reg.CAL_TILE_RELOAD then s.tileReload v
  else s.store a v

def State.writeScan (s : State) (req : Requester) (a v : Nat) (cue : Option Nat) : State :=
  let o := a % 65536
  if a = Reg.SCAN_CTRL then s.scanCtrlWrite req v cue
  else if a = Reg.SCAN_SUBFRAME then s.subframeWrite (bits v 5 0) cue
  else if a = Reg.SCAN_LOSS_HOLD then s.storeIf (decide (bits v 15 0 ≤ 60000)) a v
  else if a = Reg.SCAN_MAP_SEL then s.mapSelWrite req v
  else if a = Reg.SCAN_MAP_COMMIT then if bit v 0 then s.mapCommit cue else s
  else if 0x400 ≤ o ∧ o % 16 = 0 then s.linkCfgWrite ((o - 0x400) / 16) v cue
  else s.store a v

def State.writeProbe (s : State) (req : Requester) (a v : Nat) (cue : Option Nat) : State :=
  if a = Reg.PROBE_SEL then s.probeSelWrite req v
  else if a = Reg.PROBE_COMMIT then if bit v 0 then s.probeCommit req cue else s
  else if a = Reg.PROBE_EMIT_COMMIT then if bit v 0 then s.emitCommit cue else s
  else s.store a v

def State.writeWay (s : State) (req : Requester) (a v : Nat) (cue : Option Nat) : State :=
  let o := a % 65536
  if a = Reg.WAY_SEL then s.waySelWrite req v
  else if a = Reg.WAY_COMMIT then if bit v 0 then s.wayCommit cue else s
  else if 0x2000 ≤ o then s.wayParamWrite ((o - 0x2000) / 4) v cue
  else if 0x1000 ≤ o ∧ o % 32 = 0 then s.wn a (v &&& wmask a ||| s.rn a &&& 0x1000)
  else s.store a v

/-- Writes of the LAMP block; on a part without the lamp die they have no effect (R2). -/
def State.writeLamp (s : State) (req : Requester) (a v : Nat) (cue : Option Nat) : State :=
  let o := a % 65536
  let r := o % 64
  if !s.lampDie then s
  else if 0x100 ≤ o ∧ o < 0x1000 then
    if 0x10 ≤ r ∧ r ≤ 0x1C then s.portParamWrite req ((o - 0x100) / 64) ((r - 0x10) / 4) v
    else if r = 0x34 then s.wn a (s.rn a - (s.rn a &&& v)) else s.store a v
  else if 0x1000 ≤ o ∧ o < 0x2000 then s.levelWrite req ((o - 0x1000) / 64) ((r - 0x0C) / 4) v
  else if 0x2000 ≤ o then s.patternWrite req ((o - 0x2000) / 64) ((r - 0x0C) / 4) v cue
  else s.store a v

def State.writeFerry (s : State) (req : Requester) (a v : Nat) : State :=
  let o := a % 65536
  if o = 0 then s.ferryWrite req .timeout v
  else if a = Reg.FERRY_RANGE_SEL then s.rangeSel v
  else if a = Reg.FERRY_RANGE_COMMIT then if bit v 0 then s.rangeGo else s
  else if 0x100 ≤ o ∧ o < 0x110 then s.ferryWrite req (.rangeWin (Fin.ofNat 4 ((o - 0x100) / 4))) v
  else if 0x2004 ≤ o then s.ferryWrite req (.nodeMap ((o - 0x2000) / 4)) v
  else s.store a v

/-- PIER_IRQ_STAT [21:8] are cleared by writing 1 (Table 14.13). -/
def State.writePier (s : State) (req : Requester) (a v : Nat) : State :=
  let o := a % 65536
  if a = Reg.PIER_IRQ_STAT then s.wn a (s.rn a - (s.rn a &&& v &&& 0x3FFF00))
  else if 0x40 ≤ o ∧ o < 0x60 then s.ferryWrite req (.oqCfg (Fin.ofNat 8 ((o - 0x40) / 4))) v
  else s.store a v

def State.fltCmd (s : State) (v : Nat) : State :=
  match bits v 2 0 with
  | 1 => s.clearFirst
  | 2 => s.clearSelected
  | 3 => s.clearAll
  | _ => s

def State.writeFlt (s : State) (req : Requester) (a v : Nat) : State :=
  let o := a % 65536
  if a = Reg.FLT_CMD then s.keyed req a 0x2B71 v fun s => s.fltCmd v
  else if a = Reg.FLT_INJECT_TGT then
    if s.flt.test then { s with flt := { s.flt with injectTgt := v } } else s.accErr req a true false
  else if a = Reg.FLT_INJECT_CMD then s.inject req v
  else if 0x1000 ≤ o ∧ o % 8 = 0 then s.detCfgWrite req ((o - 0x1000) / 8) v
  else s.store a v

def State.writeRsv (s : State) (req : Requester) (a v : Nat) : State :=
  if a = Reg.RSV_POLICY then s.rsvWrite req .policy v
  else if a = Reg.RSV_THR_ECC then s.rsvWrite req .thrEcc v
  else if a = Reg.RSV_THR_EYE then s.rsvWrite req .thrEye v
  else if a = Reg.RSV_CMD then s.keyed req a 0x9D4E v fun s => s.substituteCmd (bits v 2 0) (bits v 8 3)
  else s.store a v

/-- Writes of the KEEP block; a keeper that has stopped takes none. -/
def State.writeKeep (s : State) (req : Requester) (a v : Nat) : State :=
  if !s.watch.keeper then s
  else if a = Reg.KEEP_ALARM then s.pairPut req a v
  else if a = Reg.KEEP_ALARM + 4 then s.alarmWrite req v
  else if Reg.KEEP_LOG 0 ≤ a then s.logWrite ((a - Reg.KEEP_LOG 0) / 4) v
  else s.store a v

def State.twinCmd (s : State) (req : Requester) (v : Nat) : State :=
  match bits v 1 0 with
  | 1 => s.standDown req
  | 2 => s.trialRerun req
  | _ => s

/-- A write to a register that Table 18.9 gives, by block (R521). -/
def State.writeBlock (s : State) (req : Requester) (a v : Nat) (cue : Option Nat) : State :=
  match a / 65536 with
  | 2 => s.writeTime req a v
  | 3 => s.writeLane req a v
  | 4 => if a = Reg.SLK_HOP_LIMIT then s.storeIf (bits v 15 0 != 0) a v
    else s.storeIf (decide (a % 65536 < 0x400 ∨ 0x800 ≤ a % 65536 ∨ bits v 2 0 ≤ 5)) a v
  | 5 => s.writeMac req a v
  | 6 => s.writeIng req a v cue
  | 7 => s.writeComp req a v cue
  | 8 => s.writeCal req a v cue
  | 9 => s.writeScan req a v cue
  | 0xA => s.writeProbe req a v cue
  | 0xB => s.writeWay req a v cue
  | 0xC => if a % 64 = 0x0C then s.dmxCmd req ((a - Reg.DMX_CMD 0) / 64) v else s.store a v
  | 0xD => s.writeLamp req a v cue
  | 0xF => if a = Reg.CUE_CMD then s.cueCmd req v else s.store a v
  | 0x10 => s.writeFerry req a v
  | 0x11 => s.writePier req a v
  | 0x12 => s.writeFlt req a v
  | 0x13 => s.writeRsv req a v
  | 0x14 => if a = Reg.PWR_CMD then s.pwrCmd req v cue else s.store a v
  | 0x15 => s.watchWrite req a (v &&& wmask a)
  | 0x16 => s.writeKeep req a v
  | 0x17 => if a = Reg.SVC_CMD then s.svcCmd req v else s.store a v
  | 0x18 => if a = Reg.TWIN_CMD then s.keyed req a 0x6A93 v fun s => s.twinCmd req v else s.store a v
  | _ => s.store a v

/-- Whether a write at an address can have no effect because nothing stands there, or because it is the part of Hold that
only the device writes (R6, R524); it is answered ACCESS. -/
def State.writeDenied (s : State) (a : Nat) : Bool := !assigned a || (inHold a && decide (a < s.stageBase))

/-- A register of a layer slot that no berth has taken (R137). -/
def State.slotUnused (s : State) (a : Nat) : Bool :=
  decide (Reg.COMP_LAYER_HANDLE 0 ≤ a) && decide (a < Reg.COMP_LAYER_HANDLE 64)
    && (s.ownerOf 1 ((a - Reg.COMP_LAYER_HANDLE 0) / 64)).isNone

/-- A write by a requester (R5, R6, R9, R523, R524). Read-only registers and shadows take none, uncounted but in a slot not in use; an address where
nothing stands, and Hold below staging, count an access error. A cue that carries an aligned commit gives its tally. -/
def State.writeReg (s : State) (req : Requester) (a v : Nat) (cue : Option Nat := none) : State :=
  let v := v % 2 ^ 32
  if s.writeDenied a then s.accErr req a true false
  else if inHold a then s.writeHold a (leBytes 4 v)
  else match regDesc? a with
    | none => s
    | some d =>
      if d.acc == .ro then (if s.slotUnused a then s.accErr req a true false else s) else s.asking req fun s => s.writeBlock req a v cue

/-- Words written in order from an address: whether every one could take effect, and the state. -/
def State.writeRegs (s : State) (req : Requester) (a : Nat) : List Nat → Bool × State
  | [] => (true, s)
  | v :: vs =>
    let ok := !s.writeDenied a
    let (k, s) := State.writeRegs (s.writeReg req a v) req (a + 4) vs
    (ok && k, s)

end Sys2Proof.Machine
end

