-- ==== Sys2Proof/Machine/CueAct.lean ====
section
/-!
DEFINITION. The action of a cue (13_berths_cues.md R381, R382, R389, R390), and the flows of the Harbourmaster (R31 to R34).
-/
namespace Sys2Proof.Machine

/-- The tally of a frame-aligned cue, from which its commit applies (R127). -/
def cueTallyOf (c : Cue) : Option Nat := if cAlign c then some c.dueTally else none

/-- A value under a mask: the other bits stay (Table 13.4). -/
def underMask (mask old value : Nat) : Nat := (old &&& (2 ^ 32 - 1 - mask)) ||| (value &&& mask)

/-- A cue's write of a local word under its mask. -/
def State.maskedWrite (s : State) (a value mask : Nat) (cue : Option Nat) : State :=
  s.writeReg .cue a (underMask mask (s.peek a) value) cue

/-- A WRITE: its value under MASK. A local word keeps its other bits, and waits while the port is locked (R431); of a remote
word they are free, because no rule says
how the node is asked to keep them (log entry 41). -/
def State.cueWrite (s : State) (c : Cue) : State :=
  let a := cAddr c
  let value := cWord c 11 % 2 ^ 32
  let mask := cWord c 12 % 2 ^ 32
  if fClass a = 0 then
    if s.localBlocked .cue then
      s.localQueue { door := .regs .cue, type := 0, op := 2, node := 0, dest := 0, space := 0, offset := fOffset a, count := 1,
                     data := [BitVec.ofNat 32 value], mask := mask, cue := cueTallyOf c }
    else s.maskedWrite (fOffset a) value mask (cueTallyOf c)
  else if mask = 2 ^ 32 - 1 then s.ferryPost .cue a [BitVec.ofNat 32 value]
  else
    let (n, s) := s.draw
    s.ferryPost .cue a [BitVec.ofNat 32 (underMask mask (n % 2 ^ 32) value)]

/-- A READY cue acts and ends EXECUTED, or STALE when its handle is (R390). -/
def State.cueAct (s : State) (i : Nat) : State :=
  let c := s.cueAt i
  match cAction c with
  | 1 =>
    if cWord c 13 != 0 && !s.live (cWord c 13) then (s.staleDelivery (cWord c 13) 2).cueFinish i 6
    else (s.cueWrite c).cueFinish i 3
  | 2 =>
    if s.live (cArg0 c) then (s.berthDestroy (hIndex (cArg0 c)) (cueTallyOf c)).2.cueFinish i 3
    else (s.staleDelivery (cArg0 c) 2).cueFinish i 6
  | 3 => (s.notify 0x21 0 (s.cueId i) [cArg0 c, cLabel c, c.dueTally % 2 ^ 32]).cueFinish i 3
  | _ => s.cueFinish i 3

/-- The cue of a list that acts next: the first in its flow's order (R389), from the clock after the one in which it became
READY, so that a cancel of that clock wins (R391). An aligned commit is left to its latch edge, unless a step skipped it. -/
def State.nextCue (s : State) (h : Nat) : Option Nat :=
  match firstCue (s.readyCues h) with
  | some (i, c) => if c.readyClk < s.clk ∧ !(cAlign c && cCommit c && decide (s.ns ≤ s.governing c.dueTally)) then some i else none
  | none => none

/-- One item of a list's flow is dispatched. -/
def State.dispatchCue (s : State) (berth : Nat) : State :=
  match s.nextCue (s.handleAt berth) with
  | some i => s.cueAct i
  | none => s

/-- Cues in the order in which they act (R389). -/
def cuesInOrder (l : List (Nat × Cue)) : List (Nat × Cue) :=
  l.foldr (fun x l => (l.takeWhile fun y => cueBefore y x) ++ x :: l.dropWhile fun y => cueBefore y x) []

/-- An aligned commit cue acts at its latch edge, after the cues of its list that became READY before it and await dispatch
(R33, R389); one whose own edge lies ahead is left to that edge. -/
def State.edgeCue (s : State) (i : Nat) : State :=
  let c := s.cueAt i
  let first := (s.readyCues (cList c)).filter fun y => y.1 != i && cueBefore y (i, c)
    && !(cAlign y.2 && cCommit y.2 && decide (s.ns < s.governing y.2.dueTally))
  let s := (cuesInOrder first).foldl (fun s e => if (s.cueAt e.1).state = 2 then s.cueAct e.1 else s) s
  if (s.cueAt i).state = 2 then s.cueAct i else s

/-- The aligned commit cues that a latch edge governs act at it, in the order of their flows: by the clock they became READY
in, then slot (R127, R389). -/
def State.edgeCues (s : State) (k : Nat) : State :=
  let mine := s.cues.slots.filter fun e => e.2.state == 2 && cAlign e.2 && cCommit e.2
    && decide (e.2.dueTally = k + s.lag)
  (cuesInOrder mine).foldl (fun s e => s.edgeCue e.1) s

end Sys2Proof.Machine
end

