-- ==== Sys2Proof/Machine/PipeOps.lean ====
section
/-!
DEFINITION. The frame pipeline: selection, composition, the raster and the latch edge (01_architecture.md R24, R25;
04_composition.md R121 to R136).
-/
namespace Sys2Proof.Machine

def State.setPipe (s : State) (f : PipeState → PipeState) : State := { s with pipe := f s.pipe }

/-- A point of the pipeline that has not yet passed for tally n; no tally passes it twice (R66). -/
def notYet (last : Option Nat) (n : Nat) : Bool := last.all fun m => decide (m < n)

/-- A tally that a forward step skipped (R65). -/
def State.skipped (s : State) (n : Nat) : Bool := s.pipe.skip.any fun r => decide (r.1 < n ∧ n ≤ r.2)

/-! ### Selection and composition -/

/-- Receivers in use whose frames come from a ring. -/
def State.ringReceivers (s : State) : List Nat :=
  (s.pipe.receivers.filter fun r => r.2.berth.isSome && decide (cfgType r.2.cfg ≤ 1)).map (·.1)

/-- Receivers in use that play a clip. -/
def State.clipReceivers (s : State) : List Nat :=
  (s.pipe.receivers.filter fun r => r.2.berth.isSome && cfgType r.2.cfg == 3).map (·.1)

/-- The selection point of tally n (R24, R25, R98 to R100, R130). -/
def State.selectionPoint (s : State) (n : Nat) : State :=
  if s.ns < s.selPoint n ∨ notYet s.pipe.lastSel n = false then s
  else
    let s := s.ringReceivers.foldl (fun s i => s.selectRcv i n) s
    let s := s.clipReceivers.foldl (fun s i => s.selectClip i n) s
    let srcs := (s.pipe.layers.filter fun e => lEnable e.2).map fun e => e.2.src
    let (s, ls) := s.selectLayers n
    s.setPipe fun p => { p with
      lastSel := some n, sel := some { tally := n, layers := ls, buf := 0, done := false }
      refs := ((n, srcs) :: p.refs).take 64 }

/-- Composition of tally n starts into the back buffer, or the single one with Chase, from what was selected; in Quiet no
tally is composed (R24, R25, R463). Without Chase the back buffer is free once the tally before has had its swap. -/
def State.compStart (s : State) (n : Nat) : State :=
  match s.pipe.sel with
  | some j =>
    if s.ns < s.compPoint n ∨ j.tally ≠ n ∨ s.inReset .compositor ∨ s.quietFor n
        ∨ s.pipe.comp.any (fun c => decide (n ≤ c.tally) || (!s.chase && notYet s.pipe.raster c.tally)) then s
    else
      s.setPipe fun p => { p with
        comp := some { j with buf := (if s.chase then 0 else 1 - p.front), coefs := p.coefs } }
  | none => s

/-- The canvas of the composition under way stands whole in the frame store (R122). -/
def State.compFinish (s : State) : State :=
  match s.pipe.comp with
  | some j =>
    if j.done ∨ s.inReset .compositor then s
    else
      let s := s.writeHold (s.frameBuf j.buf) (s.canvasBytes j)
      let s := s.setPipe fun p => { p with
        comp := some { j with done := true }, frontTally := (if s.chase then some j.tally else p.frontTally) }
      s.ringReceivers.foldl (fun s i => s.releaseBufs i) s
  | none => s

/-- A tally has repeated or aborted, or has not: the composition-overrun fault over 64 and 256 tallies (R136). -/
def State.overrun (s : State) (hit : Bool) : State :=
  let h := (hit :: s.pipe.overrunHist).take 256
  let s := s.setPipe fun p => { p with overrunHist := h }
  if h.any id then if hit ∧ 2 ≤ ((h.take 64).filter id).length then s.raiseOnce 65 0 else s
  else s.condClear 65 0

/-- At Tp(n) − T the buffers swap; a composition not finished is abandoned and the front buffer is scanned out again as
tally n (R24, R134). In Quiet nothing is composed and nothing repeats (R463). -/
def State.bufferSwap (s : State) (n : Nat) : State :=
  if s.chase ∨ s.skipped n ∨ s.ns < s.rasterPoint n ∨ notYet s.pipe.raster n = false then s
  else
    let whole := s.pipe.comp.any fun j => j.tally == n && j.done
    let s :=
      if whole then
        (s.setPipe fun p => { p with front := 1 - p.front, frontTally := some n }).overrun false
      else if s.quietFor n then s.overrun false
      else
        let s := s.setPipe fun p => { p with comp := p.comp.filter fun j => decide (n < j.tally) }
        ((s.bump Reg.COMP_REPEAT).raiseSec 64 0 n).overrun true
    s.setPipe fun p => { p with raster := some n, rasterOf := p.frontTally, aborted := false, blanking := false }

/-! ### Raster -/

/-- A lane's chain takes its new length: a walk goes on to the hops it adds (R239). -/
def State.applyChain (s : State) (l : Nat) : State :=
  if s.laneRole l = 5 ∧ s.linked l then
    let w := s.walk l
    if s.endB l then s.startWalk l
    else if w.asked.isEmpty ∧ w.hop < s.chainLen l then s.discover l [w.hop] else s
  else s

/-- A latched commit that acts on the raster of its effective tally. -/
def State.applyRaster (s : State) (k : CommitKind) : State :=
  match k with
  | .calCtrl w => { s with cal := { s.cal with ctrl := w } }
  | .tempDefault t => { s with cal := { s.cal with tempDefault := t } }
  | .binProfile p ws => { s with cal := { s.cal with
      bins := if ws = binReset then tabErase s.cal.bins p else tabSet s.cal.bins p ws } }
  | .mapEntry t ws => s.applyMap t ws
  | .linkCfg l _ => s.applyChain l
  | .subframe n => { s with scan := { s.scan with sub := n } }
  | .scanCtrl w => { s with scan := { s.scan with ctrl := w } }
  | _ => s

/-- Whether a latched commit acts on the raster. -/
def atRaster (k : CommitKind) : Bool :=
  match k with
  | .calCtrl _ | .tempDefault _ | .binProfile _ _ | .mapEntry _ _ | .linkCfg _ _ | .subframe _ | .scanCtrl _ => true
  | _ => false

/-- Commits latched for tallies up to n of a kind, oldest first, taken from those waiting. -/
def State.takeLatched (s : State) (n : Nat) (f : CommitKind → Bool) : List CommitKind × State :=
  let due := fun (c : Nat × CommitKind) => decide (c.1 ≤ n) && f c.2
  ((s.pipe.latched.filter due).map (·.2), s.setPipe fun p => { p with latched := p.latched.filter fun c => !due c })

/-- With Chase the raster begins a line that composition has not finished, or not begun: tally n is aborted, and what it has
not sent of n it sends no more (R135, R183). -/
def State.compAbort (s : State) (line : Nat) : State :=
  match s.pipe.raster with
  | some n =>
    if s.chase = false ∨ s.quietFor n ∨ s.pipe.blanking ∨ s.pipe.aborted ∨ s.canvasH ≤ line
        ∨ s.pipe.comp.any (fun j => decide (n < j.tally) || (j.tally == n && j.done)) then s
    else
      let s := ((s.bump Reg.COMP_ABORT).setPair Reg.COMP_ABORT_AT s.now64).wn Reg.COMP_ABORT_LINE line
      let s := s.setPipe fun p => { p with
        aborted := true, comp := p.comp.filter fun j => decide (n < j.tally)
        frontTally := (if p.frontTally = some n then none else p.frontTally) }
      (s.pixelsStop.raiseSec 64 0 n).overrun true
  | none => s

/-- With Chase the raster of tally n follows its composition: the canvas it reads is the one being composed, which keeps
ahead of it unless the raster is aborted (R122, R135). A composition not begun, or stopped in reset, aborts it at line 0. -/
def State.chaseRaster (s : State) (n : Nat) : State :=
  let s := match s.pipe.comp with
    | some j =>
      if j.tally = n ∧ j.done = false ∧ s.inReset .compositor = false then
        (s.writeHold (s.frameBuf 0) (s.canvasBytes j)).setPipe fun p => { p with frontTally := some n }
      else s
    | none => s
  let s := s.setPipe fun p => { p with raster := some n, rasterOf := p.frontTally, aborted := false, blanking := false }
  if s.pipe.frontTally = some n then s else s.compAbort 0

/-- The raster of tally n starts (R172): commits of the calibration engine and of the tile map take effect, and scan-out
reads the canvas unless the tally is aborted. The raster acts here as one event (DESIGN CHOICE, log entry 42). -/
def State.rasterStart (s : State) (n : Nat) : State :=
  let ready := if s.chase then decide (s.rasterPoint n ≤ s.ns) && notYet s.pipe.raster n else s.pipe.raster == some n
  if !ready ∨ s.skipped n ∨ notYet s.pipe.started n = false then s
  else
    let s := if s.chase then s.chaseRaster n else s
    let (ks, s) := s.takeLatched n atRaster
    let s := ks.foldl State.applyRaster s
    let s := s.wn Reg.CAL_BRIGHT (s.bright n)
    let s := s.setPipe fun p => { p with started := some n }
    if s.quietFor n ∨ s.inReset .scanout ∨ s.pipe.aborted then s else s.scanOut n (if s.chase then 0 else s.pipe.front)

/-- The raster ends and vertical blanking begins: staging whose last tally has left the raster is released (R24, R132,
R133). -/
def State.rasterEnd (s : State) : State :=
  match s.pipe.raster with
  | some n =>
    if s.pipe.blanking ∨ s.ns < s.rasterStop n then s
    else
      let s := if s.chase ∧ s.pipe.aborted = false then s.overrun false else s
      ((s.setPipe fun p => { p with blanking := true }).runReleases n).collect
  | none => s

/-! ### The latch edge (R124 to R129) -/

/-- Whether a commit comes before another: by stamp, then the order of R39 (R129). -/
def commitBefore (c d : Commit) : Bool :=
  decide (c.stamp < d.stamp)
    || (c.stamp == d.stamp && (decide (c.rank < d.rank) || (c.rank == d.rank && decide (c.order < d.order))))

/-- Commits in the order of their stamps (R129). -/
def commitInsert (c : Commit) : List Commit → List Commit
  | [] => [c]
  | d :: ds => if commitBefore c d then c :: d :: ds else d :: commitInsert c ds

/-- A latched commit waits for the raster or the instant of its effective tally. -/
def State.keepLatched (s : State) (eff : Nat) (k : CommitKind) : State :=
  s.setPipe fun p => { p with latched := p.latched ++ [(eff, k)] }

/-- A tile-map commit judged at its edge against the entries accepted so far (R168, R169, R171). -/
def State.latchMap (s : State) (t : Nat) (ws : List Nat) (eff : Nat) : State :=
  let r := s.mapReason s.scan.map s.chainLen t ws
  let s := s.mapStat r
  if r ≠ 0 then s
  else
    let was := mEnds (s.mapWords t)
    let s := { s with scan := { s.scan with map := tabSet s.scan.map t ws } }
    let s := (s.wn Reg.SCAN_MAP_EFF eff).keepLatched eff (.mapEntry t ws)
    (rangeFilter 24 fun l => was.contains l || (mEnds ws).contains l).foldl (fun s l => s.linkLoad l) s

/-- A chain length judged at its edge: every enabled entry of the lane keeps a POS below it (R169). -/
def State.latchChain (s : State) (l len : Nat) (eff : Nat) : State :=
  let bad := decide (64 < len) || s.scan.map.any fun e => mEnable e.2 && (mEnds e.2).contains l && decide (len ≤ mPos e.2)
  let s := s.mapStat (if bad then 5 else 0)
  if bad then s.wn (Reg.SCAN_LINK_CFG l) (s.chainLen l)
  else
    let s := { s with scan := { s.scan with chain := tabSet s.scan.chain l len } }
    (s.wn Reg.SCAN_MAP_EFF eff).keepLatched eff (.linkCfg l len)

/-- A bin profile judged at its edge (R148, R150). -/
def State.latchBin (s : State) (p : Nat) (ws : List Nat) (eff : Nat) : State :=
  match binBad ws with
  | some i => s.wn Reg.CAL_BIN_STAT (2 + 4 * i)
  | none => (s.wn Reg.CAL_BIN_STAT 0).keepLatched eff (.binProfile p ws)

/-- One commit applied at the edge whose commits take effect from tally eff. -/
def State.latchOne (s : State) (eff : Nat) (c : Commit) : State :=
  match c.kind with
  | .layer l p fresh => s.latchLayer l p fresh eff
  | .layerRefused l r => (s.setResult l r).wn (Reg.COMP_LAYER_EFF_TALLY l) eff
  | .maskSel l b => ((s.setLayer l { s.layer l with maskSel := b }).setResult l 2).wn (Reg.COMP_LAYER_EFF_TALLY l) eff
  | .coef ws => (s.setPipe fun p => { p with coefs := ws }).setFld Reg.COMP_COEF_STAT 0 0 0
  | .source r cfg ring => s.sourceLatch r cfg ring eff
  | .stillSel r b => s.modRcv r fun x => { x with cfg := { x.cfg with clip := putBit x.cfg.clip 24 b } }
  | .clipStart r t => s.modRcv r fun x => { x with cfg := { x.cfg with start := t } }
  | .destroy i k r => (s.destroyLatch k r eff (s.berth i).extent).keepLatched eff c.kind
  | .calCtrl _ | .tempDefault _ | .subframe _ | .scanCtrl _ => s.keepLatched eff c.kind
  | .binProfile p ws => s.latchBin p ws eff
  | .bright g1 n => (s.wn Reg.CAL_AMB_CFG (putBits (s.rn Reg.CAL_AMB_CFG) 0 0 0)).startRamp g1 n eff
  | .mapEntry t ws => s.latchMap t ws eff
  | .linkCfg l n => s.latchChain l n eff
  | .probeBlock b ws => s.probeLatch b ws eff
  | .emitProfiles ws => s.emitLatch ws eff
  | .wayBlock b ws => s.wayLatch b ws eff
  | .wayParam i v => s.wayParamLatch i v eff
  | .pattern _ _ _ | .lampGroup _ _ _ => s.keepLatched eff c.kind
  | .quiet _ => (s.wn Reg.PWR_QUIET_EFF eff).keepLatched eff c.kind

/-- Predicted costs at an edge (R118, R121, Tables 04.7 and 04.8). -/
def State.edgeCostRegs (s : State) (eff : Nat) : State :=
  let cs := s.edgeCosts s.pipe.layers eff
  let total := cs.foldl (fun a e => a + e.2) 0
  let s := (s.wn Reg.COMP_COST total).wn Reg.COMP_COST_PEAK (max total (s.rn Reg.COMP_COST_PEAK))
  s.pipe.layers.foldl (fun s e =>
    s.wn (Reg.COMP_LAYER_COST e.1) (((cs.find? fun c => c.1 == e.1).map (·.2)).getD 0)) s

/-- The cues that an edge governs act as of the edge's instant; the ledger then goes on (R127). -/
def State.atEdge (s : State) (k : Nat) (f : State → State) : State :=
  let back := s.time.led - s.edge k * ledNs
  let t := f { s with time := { s.time with led := s.edge k * ledNs } }
  { t with time := { t.time with led := t.time.led + back } }

/-- The latch edge of tally k, once the clock of the edge has passed: commits stamped before it, and those of frame-aligned
cues it governs, are applied in the order of their stamps (R124 to R129). -/
def State.latchEdge (s : State) (k : Nat) : State :=
  if s.ns < s.edge k + 2 ∨ notYet s.pipe.edge k = false then s
  else
    let eff := k + s.lag
    let s := (s.setPipe fun p => { p with edge := some k }).takeMirror
    let s := s.atEdge k fun s => s.edgeCues k
    let mine := fun (c : Commit) => c.fillDone && (c.cueTally == some eff || decide (c.stamp < s.edge k * 65536))
    let due := (s.pipe.commits.filter mine).foldr commitInsert []
    let s := s.setPipe fun p => { p with commits := p.commits.filter fun c => !mine c }
    let s := due.foldl (fun s c => s.latchOne eff c) s
    (s.edgeCostRegs eff).wayCheck eff

/-- The effective tally of a commit by its own stamp or cue. -/
def State.commitEff (s : State) (c : Commit) : Nat :=
  match c.cueTally with
  | some n => if c.stamp ≤ s.governing n * 65536 then n else s.effOf (c.stamp / 65536)
  | none => s.effOf (c.stamp / 65536)

/-- Commits that reach the compositor after the edge that their stamps place them at are applied at once, from the tally
of that edge (R126). -/
def State.latchLate (s : State) : State :=
  match s.pipe.edge with
  | none => s
  | some k =>
    let late := fun (c : Commit) => c.fillDone && decide (s.commitEff c ≤ k + s.lag)
    let due := (s.pipe.commits.filter late).foldr commitInsert []
    if due.isEmpty then s
    else
      let s := s.setPipe fun p => { p with commits := p.commits.filter fun c => !late c }
      due.foldl (fun s c => s.latchOne (s.commitEff c) c) s

/-! ### The presentation instant (R42) -/

/-- A latched commit that acts at Tp of its effective tally n. -/
def State.applyInstant (n : Nat) (s : State) (k : CommitKind) : State :=
  match k with
  | .pattern e r v => s.patternApply e r v n
  | .lampGroup g cfg ports => s.grpApply g cfg ports
  | .quiet b => s.quietApply b
  | .destroy i kind r =>
    let s := if kind = 9 then (s.cueCancelList (s.handleAt i)).2 else s
    s.destroyApply i kind r
  | _ => s

/-- At Tp(n) frame-aligned actions of tally n take effect: the rate adjustment (R46), latched commits, and pattern engines
of the tally timebase (R24, R357). -/
def State.present (s : State) (n : Nat) : State :=
  if s.ns < s.tp n ∨ s.skipped n ∨ notYet s.pipe.presented n = false then s
  else
    let s := match s.time.adjNext with
      | some a => ({ s with time := { s.time with adj := a, adjNext := none } }).servoSettle
      | none => s
    let (ks, s) := s.takeLatched n fun k => !atRaster k
    let s := ks.foldl (State.applyInstant n) s
    (s.patternTally n).setPipe fun p => { p with presented := some n }

end Sys2Proof.Machine
end

