-- ==== Sys2Proof/Machine/Manifest.lean ====
section
/-!
DEFINITION. Manifest and settings records: their format, the twin digest, and their application as writes made at boot
(17_boot_update_security.md R500, R502 to R506; R2, R20, R90, R169, R171, R194, R196, R349, R353, R376).
-/
namespace Sys2Proof.Machine

/-! ### Record format (Table 17.6, R502) -/

/-- The records of a run of bytes, or the number of the first that does not fit in it. -/
def parseRecords : Nat → Nat → List Byte → Except Nat (List MRecord)
  | 0, i, bs => if bs.isEmpty then .ok [] else .error i
  | n + 1, i, bs =>
    if bs.isEmpty then .ok []
    else
      let len := imgField bs 4 4
      if bs.length < 8 + len ∨ len % 4 ≠ 0 then .error i
      else match parseRecords n (i + 1) (bs.drop (8 + len)) with
        | .ok rs => .ok (⟨imgField bs 0 2, imgField bs 2 2, (bs.drop 8).take len⟩ :: rs)
        | .error e => .error e

/-- First address and number of words of a REGS record. -/
def regsSpan (r : MRecord) : Nat × Nat := (imgField r.body 0 4, imgField r.body 4 4)

/-- A REGS record that touches addresses from lo up to hi. -/
def regsTouch (r : MRecord) (lo hi : Nat) : Bool :=
  r.type == 4 && decide ((regsSpan r).1 < hi ∧ lo < (regsSpan r).1 + 4 * (regsSpan r).2)

/-- Records that carry BOARD (R504). -/
def boardRecord (r : MRecord) : Bool :=
  r.type == 2 || r.type == 3 || regsTouch r 0x30000 0x40000 || regsTouch r 0x50000 0x60000

/-- Record types of Table 17.7. -/
def knownType (t : Nat) : Bool := (decide (1 ≤ t) && decide (t ≤ 9)) || t == 0x7FFF

/-- FLAGS of a record: none reserved, and BOARD as R504 has it on a record of known type. -/
def flagsOk (r : MRecord) : Bool :=
  decide (r.flags < 4) && (!knownType r.type || bit r.flags 0 == boardRecord r) && (knownType r.type || bit r.flags 1)

/-- The first record that breaks R502 or the counts of Table 17.7: DEVICE first and once, END last and once, at most one
NODE_ID and five NET records, and as many records as the header says. -/
def formatBad (rs : List MRecord) (count : Nat) : Option Nat :=
  let last := rs.length - 1
  let bad := fun (e : MRecord × Nat) =>
    let t := e.1.type
    let before := fun k => ((rs.take e.2).filter fun r => r.type == k).length
    !flagsOk e.1 || (t == 1) != (e.2 == 0) || (t == 0x7FFF) != (e.2 == last) || (t == 0x7FFF && !e.1.body.isEmpty)
      || (t == 2 && before 2 != 0) || (t == 3 && decide (5 ≤ before 3))
  match rs.zipIdx.find? bad with
  | some e => some e.2
  | none => if rs.length = count ∧ rs ≠ [] then none else some last

/-- The bytes of a record in the twin digest: W2 [11:0] of tile-map entries taken as 0 (R504). -/
def digestBytes (r : MRecord) : List Byte :=
  let body := if r.type = 5 ∧ imgField r.body 0 2 = 1 then
      r.body.mapIdx fun j b => if 12 ≤ j ∧ (j - 12) % 32 = 8 then 0#8 else if 12 ≤ j ∧ (j - 12) % 32 = 9 then b &&& 0xF0#8 else b
    else r.body
  leBytes 2 r.type ++ leBytes 2 r.flags ++ leBytes 4 r.body.length ++ body

/-- The twin digest (R504). -/
def twinDigest (rs : List MRecord) : Nat :=
  leNat ((sha384 ((rs.filter fun r => !bit r.flags 0).flatMap digestBytes)).take 8)

/-! ### Writes at boot (R503) -/

/-- The pending commits take effect at once, from tally 0: nothing has been presented. -/
def State.bootFlush (s : State) : State :=
  let s := (List.range 64).foldl (fun s l => s.maskFilled l) s
  let due := s.pipe.commits.foldr commitInsert []
  let s := due.foldl (fun s c => s.latchOne 0 c) (s.setPipe fun p => { p with commits := [] })
  let ks := s.pipe.latched.map (·.2)
  let s := s.setPipe fun p => { p with latched := [] }
  ks.foldl (fun s k => if atRaster k then s.applyRaster k else s.applyInstant 0 k) s

/-- Counts and marks of a write refused, ignored or counted. -/
def State.refusals (s : State) : List Nat := [s.pair Reg.SYS_ACC_ERR, s.pair Reg.BERTH_REFUSED, s.pair Reg.COMP_REFUSED]
def State.refusedNow (s : State) : Bool :=
  [Reg.SCAN_MAP_STAT, Reg.CAL_BIN_STAT, Reg.COMP_COEF_STAT, Reg.PROBE_STAT, Reg.PROBE_EMIT_STAT, Reg.WAY_STAT].any
      (fun a => bit (s.rn a) 1)
    || bit (s.rn Reg.FERRY_RANGE_STAT) 0 || (List.range 5).any fun m => bit (s.rn (Reg.MAC_FLT_STAT m)) 0

/-- A register shown "from manifest" that takes its value whatever its access type, and whether a value lies within the
range or codes of its table (R503); none for other registers. -/
def manifestReg (a v : Nat) : Option Bool :=
  let o := a % 65536
  match a / 65536 with
  | 2 => none
  | 3 =>
    if 0x100 ≤ o ∧ o < 0xD00 ∧ o % 128 = 0 then
      some (decide (v < 2 ^ 14 ∧ bits v 2 0 ≤ 6 ∧ bits v 5 3 ≤ 4 ∧ bits v 9 8 ≤ 2))
    else if 0x100 ≤ o ∧ o < 0xD00 ∧ o % 128 = 4 then some (decide (v < 2 ^ 15 ∧ bits v 3 0 + bits v 9 4 + bits v 14 10 ≤ 63))
    else none
  | 4 =>
    if a = Reg.SLK_TOPO then
      some (decide (v < 64 ∧ bits v 1 0 ≤ 2 ∧ (bits v 1 0 = 2 → bits v 3 2 ≠ 0 ∧ bits v 5 4 ≠ 0 ∧ bits v 3 2 ≠ bits v 5 4)))
    else if 0x800 ≤ o ∧ o < 0xC00 then some (decide (v < 8)) else none
  | 5 =>
    match o % 4096 with
    | 0x0 => some (decide (v < 2 ^ 27) && !(o / 4096 == 4 && bit v 20))
    | 0x4 => some true
    | 0x8 => some (decide (v < 65536))
    | 0xC => some true
    | _ => none
  | 8 => if a = Reg.CAL_BRIGHT ∨ a = Reg.CAL_BRIGHT_TARGET then some (decide (v ≤ 4096)) else none
  | 9 => if a = Reg.SCAN_EMIT_OFFSET then some (decide (v ≤ 1000000)) else none
  | 0xB => if Reg.WAY_SACN_CID 0 ≤ a ∧ a ≤ Reg.WAY_SACN_CID 3 then some true else none
  | 0xD =>
    if a = Reg.LAMP_PWM_CFG then some (decide (v < 2 ^ 14 ∧ 1 ≤ bits v 13 3 ∧ bits v 13 3 ≤ 1024))
    else if a = Reg.LAMP_PWM_PERIOD then some (decide (v < 2 ^ 20))
    else if a = Reg.LAMP_SW_FREQ then
      some (decide (250 ≤ bits v 11 0 ∧ bits v 11 0 ≤ 2200 ∧ bits v 15 12 = 0 ∧ v < 2 ^ 28))
    else if a = Reg.LAMP_TMIN_ON then some (decide (v < 4096))
    else if 0x100 ≤ o ∧ o < 0x900 then
      match o % 64 with
      | 0x0 => some (decide (v < 65536))
      | 0x4 => some (decide (10 ≤ bits v 11 0 ∧ bits v 11 0 ≤ 4000 ∧ v < 2 ^ 26))
      | 0x8 => some (decide (bits v 15 0 ≤ 60000))
      | 0xC => some true
      | _ => none
    else none
  | 0x10 =>
    if a = Reg.FERRY_QMP_CFG then some (decide (1024 ≤ bits v 15 0 ∧ bits v 17 16 ≤ 2 ∧ v < 2 ^ 19)) else none
  | 0x11 => if a = Reg.PIER_CFG then some (decide (v < 2)) else none
  | 0x12 => if a = Reg.FLT_CFG then some (decide (v < 8)) else none
  | 0x17 =>
    if a = Reg.SVC_TRIAL_CFG then
      some (decide (1 ≤ bits v 6 0 ∧ bits v 6 0 ≤ 120 ∧ 1 ≤ bits v 14 7 ∧ 10 * bits v 14 7 ≤ 60 * bits v 6 0 ∧ v < 65536))
    else none
  | 0x18 =>
    if a = Reg.TWIN_CFG then
      some (decide (v < 2 ^ 11 ∧ (bit v 0 = true → bits v 2 1 ≠ 0) ∧ 1 ≤ bits v 10 4 ∧ bits v 10 4 ≤ 99))
    else if a = Reg.TWIN_DIGEST ∨ a = Reg.TWIN_DIGEST + 4 then some true else none
  | _ => none

/-- One register word written at boot; none when its value is out of range, ignored, or of a register that takes none. -/
def State.bootWrite (s : State) (a v : Nat) : Option State :=
  match manifestReg a v with
  | some true =>
    let t := s.wn a v
    if a = Reg.CAL_BRIGHT ∨ a = Reg.CAL_BRIGHT_TARGET then
      some ({ t with cal := { t.cal with base := v } }.wn Reg.CAL_BRIGHT v)
    else some t
  | some false => none
  | none =>
    if s.writeDenied a then none
    else
      let t := (s.writeReg .boot a v).bootFlush
      match regDesc? a with
      | some d =>
        if d.acc == .ro || d.acc == .rc then none
        else if d.acc == .rw && (v &&& wmask a) != s.rn a && t == s then none else some t
      | none => some t

def State.bootWrites (s : State) (a : Nat) : List Nat → Option State
  | [] => some s
  | v :: vs => (s.bootWrite a v).bind fun t => t.bootWrites (a + 4) vs

/-! ### The DEVICE record (Table 17.8) -/

/-- A canvas and frame rate of a mode (Table 01.3, R19). -/
def canvasOk (mode rate w h : Nat) : Bool :=
  decide (mode ≤ 2 ∧ rate ≤ [9, 12, 15].getD mode 0 ∧ w % 4 = 0 ∧ 64 ≤ w ∧ w ≤ 65536 ∧ 16 ≤ h ∧ h ≤ 16384
    ∧ w * h ≤ [8388608, 4194304, 2097152].getD mode 0)

/-- The DEVICE record applied, or the reason for which it is invalid. -/
def State.bootDevice (s : State) (b : List Byte) : Except Nat State :=
  let f := imgField b
  let flags := f 1 1
  let trial := if f 20 1 = 0 then 15 else f 20 1
  let delay := if f 21 1 = 0 then 6 else f 21 1
  if b.length ≠ 52 ∨ 32 ≤ flags ∨ 2 < f 3 1 ∨ 200000 < f 12 4 ∨ 1000000 < f 16 4 ∨ 120 < trial ∨ 60 * trial < 10 * delay
      ∨ 1000 < f 22 2 ∨ f 27 1 ≠ 0 then .error 2
  else if !canvasOk (f 0 1) (f 2 1) (f 4 4) (f 8 4) then .error 3
  else
    let s := (s.wn Reg.COMP_MODE (f 0 1 + 4 * (flags % 2))).wn Reg.TIME_RATE (f 2 1)
    let s := (s.wn Reg.ING_CANVAS_PRIM (f 3 1)).wn Reg.ING_PRES_OFFSET (f 12 4)
    let s := ((s.wn Reg.COMP_CANVAS_W (f 4 4)).wn Reg.COMP_CANVAS_H (f 8 4)).wn Reg.SCAN_EMIT_OFFSET (f 16 4)
    let s := (s.wn Reg.FLT_CFG (bits flags 1 1 + 2 * bits flags 4 3)).wn Reg.SVC_TRIAL_CFG
      (trial + 128 * delay + 2 ^ 15 * bits flags 2 2)
    let s := s.wrWords (Reg.WAY_SACN_CID 0) ((List.range 4).map fun i => f (36 + 4 * i) 4)
    let own := { s.time.own with priority1 := f 24 1, priority2 := f 25 1, clockClass := f 26 1 }
    let limit := (if f 28 2 = 0 then 100 else f 28 2) * 256 / 100
    let mfr := if f 30 2 = 0 then 0x7FF0 else f 30 2
    let dev := if f 32 4 = 0 then s.nodeId else f 32 4
    .ok { s with
      time := { s.time with own := own, audioLimit := limit }
      nvm := { s.nvm with timeWait := ms (10 * f 22 2) }
      fixture := { s.fixture with rdmUid := mfr * 2 ^ 32 + dev } }

/-! ### TABLE records (Table 17.7) -/

/-- Bytes of an entry of a table, its first entry and the number that the table holds. -/
def tableShape (t : Nat) : Option (Nat × Nat × Nat) :=
  [none, some (32, 0, 2048), some (256, 0, 256), some (64, 0, 64), some (8, 0, 16384), some (32, 0, 4096),
    some (16, 16, 64), some (16, 16, 64), some (16, 16, 64), some (16, 16, 64), some (16, 16, 64),
    some (16, 0, 64), some (768, 0, 4), some (16, 0, 4), some (8, 0, 32), some (8, 0, 8)].getD t none

/-- A tile-map entry without its reserved bits (Table 06.1). -/
def mapMask (w : List Nat) : List Nat :=
  List.zipWith (fun a m => a &&& m) w [0xFFFFFFFF, 0xFFFFFFFF, 0xFFFFF, 0x3FFFFFFF, 0x03FF03FF, 0x3FF, 0, 0]

/-- An entry of a table loaded; `i` numbers the record (R2) and `live` says that it comes from settings, whose tile-map
entries are judged singly. -/
def State.loadEntry (s : State) (live : Bool) (i t e : Nat) (w : List Nat) : Option State :=
  match t with
  | 1 =>
    let w := mapMask w
    if live ∧ s.mapReason s.scan.map s.chainLen e w ≠ 0 then none
    else some { s with scan := { s.scan with map := tabSet s.scan.map e w, live := tabSet s.scan.live e w } }
  | 2 =>
    if (binBad w).isSome then none
    else some { s with cal := { s.cal with bins := if w = binReset then tabErase s.cal.bins e else tabSet s.cal.bins e w } }
  | 3 =>
    if emitBad w then none
    else
      let all := (timedTop s.fixture.emit).getD emitReset
      let all := all.take (16 * e) ++ w ++ all.drop (16 * e + 16)
      some (({ s with fixture := { s.fixture with emit := [(0, all)] } }).wrWords (Reg.PROBE_EMIT_WIN (16 * e)) w)
  | 4 =>
    let p := (w.getD 0 0 &&& 0x3FFFFFFF, w.getD 1 0 &&& 0x3FFFFF)
    let s := { s with fixture := { s.fixture with probes := tabSet s.fixture.probes e [(0, p)] } }
    if s.blockOwned (e / 64) ∧ (s.probeBad (pairUp (s.probeBlock (e / 64))) 0 (s.areaBut (e / 64))).isNone then some s else none
  | 5 =>
    let lamp := !s.lampDie && (wDst w == 3 || wDst w == 4)
    let w := if lamp then putBits (w.getD 0 0) 8 8 0 :: w.drop 1 else w
    let s := if lamp then s.raise 12 0 (i + 65536 * e) else s
    if s.wayReason w ≠ 0 then none
    else some { s with fixture := { s.fixture with
      ways := tabSet s.fixture.ways e [(0, putBits (w.getD 0 0) 12 12 0 :: w.drop 1)] } }
  | 11 => if s.rangeReason w ≠ 0 then none else some (s.setRange e w)
  | 12 =>
    let all := if s.pipe.coefs.isEmpty then (List.range 768).map coefResetWord else s.pipe.coefs
    let all := all.take (192 * e) ++ w ++ all.drop (192 * e + 192)
    if (coefBad all).isSome then none
    else some ((s.setPipe fun p => { p with coefs := all }).wrWords (Reg.COMP_COEF (192 * e)) w)
  | 13 => s.bootWrites (Reg.WATCH_I2C (4 * e)) w
  | 14 => s.bootWrites (Reg.WATCH_RULE (2 * e)) w
  | 15 => some { s with lamp := { s.lamp with ntc := tabSet s.lamp.ntc e (w.getD 0 0, w.getD 1 0) } }
  | _ =>
    let m := t - 6
    if fltReason w ≠ 0 ∨ s.macDisabled m then none else some (s.wrWords (Reg.MAC_FLT m (4 * e)) w)

def State.loadEntries (s : State) (live : Bool) (i t e : Nat) : List (List Nat) → Option State
  | [] => some s
  | w :: ws => (s.loadEntry live i t e w).bind fun u => u.loadEntries live i t (e + 1) ws

/-- The 32-bit words of a body. -/
def leWordsOf : Nat → List Byte → List Nat
  | 0, _ => []
  | n + 1, bs => leNat (bs.take 4) :: leWordsOf n (bs.drop 4)

/-- A TABLE record applied, or the reason for which it is invalid. -/
def State.bootTable (s : State) (live : Bool) (i : Nat) (b : List Byte) : Except Nat State :=
  let t := imgField b 0 2
  let first := imgField b 4 4
  let n := imgField b 8 4
  match tableShape t with
  | none => .error 2
  | some (size, lo, hi) =>
    if imgField b 2 2 ≠ size ∨ b.length ≠ 12 + size * n ∨ first < lo ∨ hi < first + n then .error 2
    else if t = 15 ∧ !s.lampDie then .ok (if live then s else s.raise 12 0 i)
    else
      let ws := wordsBy (size / 4) n (leWordsOf (size / 4 * n) (b.drop 12))
      match s.loadEntries live i t first ws with
      | some s => .ok ((s.probeSettle).waySettle)
      | none => .error 3

/-! ### BERTH, CUE, HOLD and STRING records -/

/-- Items as R404 gives them, big-endian, with zero bytes after the last to the end of the record. -/
def parseItems : Nat → List Byte → Option (List Param)
  | 0, bs => if bs.length < 4 ∧ bs.all (· == 0#8) then some [] else none
  | n + 1, bs =>
    let len := beNat ((bs.drop 2).take 2)
    if bs.length < 4 + len then none
    else (parseItems n (bs.drop (4 + len))).map fun ps => ⟨beNat (bs.take 2), len, (bs.drop 4).take len⟩ :: ps

/-- A live berth of a kind and resource that no earlier record of the settings has taken. -/
def State.berthLike (s : State) (used : List Nat) (kind res : Nat) : Option Nat :=
  (s.berths.entries.find? fun e => e.2.state == 1 && e.2.kind == kind && e.2.resource == res && !used.contains e.1).map (·.1)

/-- A BERTH record: created from a manifest; from settings, the berth of its kind and resource is modified, or created
when there is none. Answers the berth's index. -/
def State.bootBerth (s : State) (live : Bool) (i : Nat) (used : List Nat) (b : List Byte) :
    Except Nat (Option Nat × State) :=
  let kind := imgField b 0 1
  let res := imgField b 4 4
  if b.length < 12 ∨ imgField b 1 3 ≠ 0 ∨ imgField b 10 2 ≠ 0 then .error 2
  else if !s.lampDie ∧ (kind = 4 ∨ kind = 5) then .ok (none, if live then s else s.raise 12 0 i)
  else match parseItems (imgField b 8 2) (b.drop 12) with
    | none => .error 2
    | some ps =>
      match (if live then s.berthLike used kind res else none) with
      | some k =>
        let (e, _, t) := s.berthChange k (ps.filter fun p => !(fixedIds kind).contains p.id)
        if e = 0 then .ok (some k, t.bootFlush) else .error 3
      | none =>
        let (e, h, _, t) := s.berthMake kind res ps
        if e = 0 then .ok (some (hIndex h), t.bootFlush) else .error 3

/-- A run of bytes lies within one staging allocation (Table 17.7, HOLD). -/
def State.inBuffers (s : State) (a n : Nat) : Bool :=
  s.pipe.stage.any fun x => decide (s.unitAddr x.first ≤ a ∧ a + n ≤ s.unitAddr (x.first + x.units))

/-! ### One record -/

/-- A record applied in a manifest, or with `live` from settings, whose berths taken so far are `used`. -/
def State.bootRecord (s : State) (live : Bool) (i : Nat) (used : List Nat) (r : MRecord) : Except Nat (List Nat × State) :=
  let b := r.body
  let ok := fun (t : State) => (.ok (used, t) : Except Nat (List Nat × State))
  match r.type with
  | 1 => (s.bootDevice b).map fun t => (used, t)
  | 2 =>
    let v := imgField b 0 4
    if b.length ≠ 4 then .error 2 else ok (if v = 0 ∨ v = 0xFFFFFFFF then s else s.wn Reg.SLK_NODE_ID v)
  | 3 =>
    let m := imgField b 0 1
    if b.length ≠ 24 ∨ 4 < m ∨ imgField b 1 3 ≠ 0 ∨ imgField b 10 2 ≠ 0 then .error 2
    else
      let s := ((s.wn (Reg.MAC_ADDR_LO m) (imgField b 4 4)).wn (Reg.MAC_ADDR_HI m) (imgField b 8 2)).wn (Reg.MAC_IPV4 m)
        (imgField b 12 4)
      ok (s.setMac m { s.mac m with mask := imgField b 16 4, gateway := imgField b 20 4 })
  | 4 =>
    let (a, n) := regsSpan r
    if b.length ≠ 8 + 4 * n ∨ n = 0 then .error 2
    else if !s.lampDie ∧ regsTouch r 0xD0000 0xE0000 then ok (if live then s else s.raise 12 0 i)
    else match s.bootWrites a (leWordsOf n (b.drop 8)) with
      | some t => ok t
      | none => .error 3
  | 5 => (s.bootTable live i b).map fun t => (used, t)
  | 6 => (s.bootBerth live i used b).map fun e => (used ++ e.1.toList, e.2)
  | 7 =>
    if b.length ≠ 64 then .error 2
    else
      let (e, _, t) := s.cueCreate (leWordsOf 16 b)
      if e = 0 then ok t else .error 3
  | 8 =>
    let a := imgField b 0 4
    let bs := b.drop 4
    if b.length < 8 ∨ s.inBuffers a bs.length = false then .error 2 else ok (s.writeHold a bs)
  | 9 =>
    let n := imgField b 2 2
    if imgField b 0 2 ≠ 1 ∨ n = 0 ∨ 63 < n ∨ b.length ≠ 4 + 4 * ceilDiv n 4 then .error 2
    else ok { s with nvm := { s.nvm with name := (b.drop 4).take n } }
  | 0x7FFF => ok s
  | _ => ok (s.raise 12 0 i)

/-- A record applied, and held invalid when it leaves a refusal behind (R503). -/
def State.applyRecord (s : State) (live : Bool) (i : Nat) (used : List Nat) (r : MRecord) : Except Nat (List Nat × State) :=
  match s.bootRecord live i used r with
  | .ok (u, t) => if t.refusals = s.refusals ∧ t.refusedNow = false then .ok (u, t) else .error 3
  | .error e => .error e

/-- Records of a manifest applied in order; the first that fails, with its reason. -/
def State.applyRecords (s : State) (i : Nat) : List MRecord → Except (Nat × Nat) State
  | [] => .ok s
  | r :: rs =>
    match s.applyRecord false i [] r with
    | .ok (_, t) => t.applyRecords (i + 1) rs
    | .error e => .error (i, e)

/-! ### Rules over a whole manifest -/

/-- Lane roles keep to Table 07.2 (R193, R194); FEC as Table 07.11 has it. -/
def State.lanesOk (s : State) : Bool :=
  let all := List.range 24
  let fec := fun l => s.fld (Reg.LANE_CFG l) 9 8
  let mac := fun l => s.fld (Reg.LANE_CFG l) 7 6
  all.all (fun l =>
    let rate := s.laneCfgRate l
    match s.laneRole l with
    | 1 => decide (l < 8) && [0, 2, 4].contains rate && (fec l == 0 || (fec l == 1 && rate != 0) || (fec l == 2 && rate == 4))
        && (all.filter fun k => s.laneRole k == 1 && mac k == mac l).length == 1
    | 5 => decide (rate ≤ 3)
    | 6 => decide (s.groupOf l < 3) && !(s.members (s.groupOf l)).isEmpty
        && (s.members (s.groupOf l)).all fun k => s.laneCfgRate k == rate
    | _ => true)
  && (List.range 3).all fun g => match s.members g with
    | [] => true
    | l :: ls => (l :: ls) == (List.range (ls.length + 1)).map (l + ·) && decide (l / 4 = (l + ls.length) / 4)
        && ls.all fun k => s.laneCfgRate k == s.laneCfgRate l

/-- Σ QG × fsw over the enabled ports, in units of 0.25 µA (R349). -/
def State.gateLoad (s : State) : Nat :=
  s.enabledPorts.foldl (fun a p =>
    let f := if bit (s.rn (Reg.LAMP_PORT_CFG p)) 1 then s.fld Reg.LAMP_SW_FREQ 27 16 else s.fld Reg.LAMP_SW_FREQ 11 0
    a + s.fld (Reg.LAMP_PORT_ELEC p) 19 12 * f) 0

/-- The gate-drive load within 160 mA (R349), and a PWM frequency that the manifest gives within 1 kHz to 32 kHz (R353). -/
def State.lampsOk (s : State) : Bool :=
  let cfg := s.rn Reg.LAMP_PWM_CFG
  let m := bits cfg 13 3
  let freq := if bit cfg 0 then decide (1000 * rateDen s.rate ≤ m * rateNum s.rate ∧ m * rateNum s.rate ≤ 32000 * rateDen s.rate)
    else decide (31250 ≤ s.rn Reg.LAMP_PWM_PERIOD ∧ s.rn Reg.LAMP_PWM_PERIOD ≤ 1000000)
  let given := cfg != 0 || s.rn Reg.LAMP_PWM_PERIOD != 0 || !s.enabledPorts.isEmpty
  decide (s.gateLoad ≤ 640000) && (!given || freq)

/-- The rules that join records: lanes, tile map and lane load, composition budget and lamps (R26, R121, R169, R171, R194,
R349, R353). -/
def State.manifestOk (s : State) : Bool :=
  s.lanesOk && s.scan.map.all (fun e => s.mapReason s.scan.map s.chainLen e.1 e.2 == 0)
    && decide (s.edgeCost s.pipe.layers 0 ≤ s.budget) && s.lampsOk

/-! ### Defaults -/

/-- LANE_CFG of the default allocation (Table 07.3). -/
def defaultLane (l : Nat) : Nat :=
  if l < 4 then 1 + 8 * 4 + 64 * l else if l < 8 then 2 + 8 * 4 else if l < 12 then 3 + 8 * 4 else 5 + 8 * 3

/-- The words of LANE_CFG that REGS records name. -/
def laneWords (rs : List MRecord) : List (Nat × Nat) :=
  (rs.filter fun r => regsTouch r 0x30100 0x30D00).flatMap fun r =>
    let (a, n) := regsSpan r
    ((leWordsOf n (r.body.drop 8)).mapIdx fun k v => (a + 4 * k, v)).filter fun e =>
      decide (0x30100 ≤ e.1 ∧ e.1 < 0x30D00) && e.1 % 128 == 0

/-- Values that stand when no record names them: UDP port 41730 (Table 10.6), LAMP_TMIN_ON 200, SACN_DELTA 20, brightness
4,096 (R154), and the lanes of the records or of Table 07.3 (R196). -/
def State.bootDefaults (s : State) (rs : List MRecord) : State :=
  let s := (s.setFld Reg.FERRY_QMP_CFG 15 0 41730).wn Reg.TWIN_CFG (20 * 16)
  let s := if s.lampDie then s.wn Reg.LAMP_TMIN_ON 200 else s
  let s := (s.wn Reg.CAL_BRIGHT 4096).wn Reg.CAL_BRIGHT_TARGET 4096
  match laneWords rs with
  | [] => (List.range 24).foldl (fun s l => s.wn (Reg.LANE_CFG l) (defaultLane l)) s
  | ws => ws.foldl (fun s e => if manifestReg e.1 e.2 = some true then s.wn e.1 e.2 else s) s

/-- A manifest checked and applied: the state with it, or the record that fails with its reason (R500, SVC_MAN_ERR). A rule
that joins records names the END record, a check of the whole image record 0. -/
def State.tryManifest (s : State) (c : List Byte) : Except (Nat × Nat) State :=
  match s.imgCheck 1 c with
  | 0 =>
    let bs := (c.take (imgLen c - 96)).drop 256
    match parseRecords (bs.length / 8 + 1) 0 bs with
    | .error i => .error (i, 2)
    | .ok rs =>
      match formatBad rs (imgField c 36 4) with
      | some i => .error (i, 2)
      | none =>
        if twinDigest rs ≠ imgField c 40 8 then .error (0, 4)
        else match (s.bootDefaults rs).applyRecords 0 rs with
          | .error e => .error e
          | .ok t => if t.manifestOk then .ok (t.setPair Reg.TWIN_DIGEST (twinDigest rs)) else .error (rs.length - 1, 3)
  | r => .error (0, r)

/-- Settings applied in order; a record that no longer fits is left out. -/
def State.applySettings (s : State) (rs : List MRecord) : State :=
  (rs.foldl (fun (p : List Nat × State) r =>
    match p.2.applyRecord true 0 p.1 r with
    | .ok q => q
    | .error _ => p) ([], s)).2

end Sys2Proof.Machine
end

