-- ==== Sys2Proof/Machine/BootOps.lean ====
section
/-!
DEFINITION. The boot sequence: boot header, trial accounting, firmware, manifest, settings, and what starts when they stand
(17_boot_update_security.md R490 to R501, R505, R506, R511).
-/
namespace Sys2Proof.Machine

/-! ### Boot header (R493) -/

/-- The two copies agree on the one in force: an invalid copy is rewritten from the valid one, and a new header boots slots A
without trial. -/
def State.readHeader (s : State) : State :=
  let put := fun (h : BootHdr) => ({ s with nvm := { s.nvm with hdr0 := some h, hdr1 := some h } }).programHdr h
  match s.nvm.hdr0, s.nvm.hdr1 with
  | some _, some _ => s
  | none, none => (put { slots := 0x303 }).raise 321 0
  | some h, none => (put h).raise 320 0
  | none, some h => (put h).raise 320 0

/-- A slot that a reset caught in transfer is empty (R509). -/
def State.dropWriting (s : State) : State :=
  let ks := (List.range 4).filter fun k => slotCode s.hdr k == 1
  if ks.isEmpty then s
  else
    let s := { s with nvm := { s.nvm with slots := ks.foldl (fun t k => tabErase t k) s.nvm.slots } }
    s.setHdr (ks.foldl (fun h k => setSlot h k 0) s.hdr)

/-! ### Trial accounting and fallback (R511, R499) -/

/-- A kind's active slot takes its previous one; the slot it leaves takes a code. -/
def backTo (h : BootHdr) (kind code : Nat) : BootHdr :=
  let a := activeSlot h kind
  let p := prevSlot h kind
  if a = p then h
  else
    let h := setSlot (setSlot h a code) p 3
    if kind = 0 then { h with fwActive := h.fwPrev } else { h with manActive := h.manPrev }

/-- A fallback takes effect: the header is written and FELL_BACK set, counted and reported. -/
def State.fellBack (s : State) (h : BootHdr) : State :=
  (((s.setHdr { h with trial := 0, tries := 0 }).setFld Reg.SVC_STAT 7 7 1).bump Reg.SVC_FALLBACKS).raise 322 0

def State.trialAccount (s : State) : State :=
  let h := s.hdr
  if h.trial = 1 ∧ h.tries < 3 then s.setHdr { h with tries := h.tries + 1 }
  else if h.trial ≠ 0 then s.fellBack (backTo (backTo h 0 5) 1 5)
  else s

/-- The firmware slot to run, none when neither is valid (R498 step 4, R499). -/
def State.chooseFirmware (s : State) : Option State :=
  let ok := fun k => s.imgCheck 0 (s.slotImg k) == 0
  let h := s.hdr
  if ok h.fwActive then some s
  else if ok (1 - h.fwActive) then
    let x := setSlot (setSlot h h.fwActive 6) (1 - h.fwActive) 3
    let x := { x with fwActive := 1 - h.fwActive }
    some (s.fellBack (if h.trial = 0 then x else backTo x 1 5))
  else none

/-- The firmware of slot FW_ACTIVE runs (R498 step 5). -/
def State.runFirmware (s : State) : State :=
  let x := s.hdr.fwActive
  let c := s.slotImg x
  let s := { s with nvm := { s.nvm with
    tag := imgTag c, schema := imgField c 32 2, schemaMin := imgField c 34 2 } }
  (s.setFld Reg.SVC_STAT 0 0 x).wn Reg.SVC_FW_VERSION (imgField c 12 4)

/-! ### MACs and identity (R289, R293, R331) -/

/-- MAC_CFG of MACs that the manifest gives no word, their lanes, and the default addresses. -/
def State.bootMacs (s : State) : State :=
  (List.range 5).foldl (fun s m =>
    let cfg := s.rn (Reg.MAC_CFG m)
    let lane := if m = 4 then none else s.macLane m
    let on := (m = 4 ∨ lane.isSome = true) ∧ (cfg = 0 ∨ bit cfg 5 = true)
    let s := (s.setFld (Reg.MAC_CFG m) 4 0 (lane.getD 31)).setFld (Reg.MAC_CFG m) 5 5 (decide on).toNat
    if s.rn (Reg.MAC_ADDR_LO m) = 0 ∧ s.rn (Reg.MAC_ADDR_HI m) = 0 then
      (s.wn (Reg.MAC_ADDR_LO m) s.nodeId).wn (Reg.MAC_ADDR_HI m) ((2 + 4 * m) * 256 + 0x4A)
    else s) s

/-- WAY_SACN_CID takes the CID in use (R331). -/
def State.bootCid (s : State) : State :=
  let given := (s.ownCid).any (· != 0#8)
  let cid := cidOf given (bit (s.rn Reg.TWIN_CFG) 0) s.ownCid s.nodeId s.nvm.otp.uid
  ({ s with fixture := { s.fixture with cidGiven := given } }).wrWords (Reg.WAY_SACN_CID 0)
    ((List.range 4).map fun i => leNat ((cid.drop (4 * i)).take 4))

/-- The node ID of the unique device ID (R262), and the first address of the calibration store (Table 18.2). -/
def State.bootBase (s : State) : State :=
  ((s.wn Reg.SLK_NODE_ID (nodeOfUid s.nvm.otp.uid)).wn Reg.CAL_STORE_BASE holdBase)

/-! ### Service mode (R499) -/

def State.enterService (s : State) : State :=
  ((s.setFld Reg.SVC_STAT 6 6 1).emit (.pin "SAFE" 512 true)).bootMacs

/-! ### Manifest (R500) -/

/-- A manifest slot in use. -/
def State.runManifest (s : State) (k : Nat) : State :=
  (s.setFld Reg.SVC_STAT 1 1 (k - 2)).wn Reg.SVC_MAN_VERSION (imgField (s.slotImg k) 12 4)

def State.manErr (s : State) (e : Nat × Nat) : State := s.wn Reg.SVC_MAN_ERR (e.1 % 65536 + 65536 * e.2)

/-- The active manifest, or the other under the manifest-fallback fault; none when neither is valid, with the state that
says why. -/
def State.chooseManifest (s : State) : Except State State :=
  let k := activeSlot s.hdr 1
  match s.tryManifest (s.slotImg k) with
  | .ok t => .ok (t.runManifest k)
  | .error e =>
    let s := s.manErr e
    match s.tryManifest (s.slotImg (otherSlot k)) with
    | .ok t => .ok ((t.runManifest (otherSlot k)).raise 323 0)
    | .error e => .error (s.manErr e)

/-! ### Settings (R506) -/

/-- Settings that the running firmware reads. -/
def State.settingsFit (s : State) (p : Settings) : Bool :=
  decide (s.nvm.schemaMin ≤ p.schema ∧ p.schema ≤ s.nvm.schema)

/-- An image's first boot: the settings of the slot before it, carried over, or empty ones. -/
def State.firstSettings (s : State) (x : Nat) : State :=
  let prev := if s.hdr.fwPrev = x then 1 - x else s.hdr.fwPrev
  match s.settingsOf prev with
  | some (_, p) =>
    if s.settingsFit p then (s.writeSettings x s.nvm.schema s.nvm.tag p.records).applySettings p.records
    else ((s.writeSettings x s.nvm.schema s.nvm.tag []).setFld Reg.SVC_STAT 8 8 1).raise 326 0
  | none => ((s.writeSettings x s.nvm.schema s.nvm.tag []).setFld Reg.SVC_STAT 8 8 1).raise 326 0

/-- An area without a valid half is at its first boot only in the first boot of a trial. -/
def State.loadSettings (s : State) : State :=
  let x := s.fld Reg.SVC_STAT 0 0
  match s.settingsOf x with
  | some (_, p) => if p.tag = s.nvm.tag ∧ s.settingsFit p = true then s.applySettings p.records else s.firstSettings x
  | none => if s.hdr.trial = 1 ∧ s.hdr.tries ≤ 1 then s.firstSettings x else s.raise 325 0

/-! ### What starts (R498 steps 8 to 10) -/

/-- Windows show the live entry that their selector names. -/
def State.bootWindows (s : State) : State :=
  let s := s.wrWords (Reg.SCAN_MAP_WIN 0) ((List.range 8).map fun i => (s.mapWords (s.fld Reg.SCAN_MAP_SEL 10 0)).getD i 0)
  let s := s.wrWords (Reg.CAL_BIN_WIN 0) (s.bin (s.fld Reg.CAL_BIN_SEL 7 0))
  let s := s.wrWords (Reg.PROBE_WIN 0) ((s.probeBlock (s.fld Reg.PROBE_SEL 7 0)))
  let s := s.wrWords (Reg.WAY_WIN 0) (s.wayBlock (s.fld Reg.WAY_SEL 7 0))
  let s := s.wrWords (Reg.FERRY_RANGE_WIN 0) ((List.range 4).map fun j => rangeWord s (s.fld Reg.FERRY_RANGE_SEL 5 0) j)
  (List.range 5).foldl (fun s m => s.wrWords (Reg.MAC_FLT_WIN m 0) (s.filter m (s.fld (Reg.MAC_FLT_SEL m) 5 0))) s

/-- Registers that report what the configuration gives. -/
def State.bootReports (s : State) : State :=
  let s := ((s.probeSettle).waySettle).stageSettle
  let s := if s.lampDie then s.wn Reg.LAMP_QG_LOAD (s.gateLoad / 40) else s
  let s := ((s.lampSettle.scanSettle).overlapSettle).edgeCostRegs 0
  let s := (List.range 24).foldl (fun s l => s.linkLoad l) s
  ((s.servoSettle).oredSettle).bootWindows

/-- Lanes with a role start: role E in its own start-up, the others in HAIL. -/
def State.bootLanes (s : State) : State :=
  (List.range 24).foldl (fun s l =>
    match s.laneRole l with
    | 0 => s
    | 1 => s.setLaneSt l 10
    | _ => s.enterHail l) s

/-- A device of a twin starts as an Escort that is not eligible, with its sea trial (R278, R281). -/
def State.bootTwin (s : State) : State :=
  if s.twinOn then (s.setFld Reg.TWIN_STAT 1 0 2).trialStart else s

/-- The keeper's faults, raised once the compute die runs (R481, R488): keeper lost at the first boot after it, power-good
timeouts with their number, which the logbook then forgets. -/
def State.bootFaults (s : State) : State :=
  let s := if bit (s.rn Reg.KEEP_STAT) 1 && s.rn Reg.SYS_BOOT_COUNT == 1 then s.raise 266 0 else s
  let n := s.fld (Reg.KEEP_LOG 1) 31 24
  if n = 0 then s else (s.raise 259 0 n).keepWrite 1 [putBits (s.rn (Reg.KEEP_LOG 1)) 31 24 0]

/-- Steps 6 to 10 of R498 under a firmware that runs. -/
def State.bootFirm (s : State) : State :=
  match s.chooseManifest with
  | .error t => (t.enterService).raise 324 0
  | .ok t =>
    let t := (((t.loadSettings.bootMacs).bootCid).keySettle).bootReports
    (t.bootLanes.bootTwin).trialSettle

/-- Steps 2 and 3 of R498: the boot header, the spare blocks left and the trial accounting. -/
def State.bootHeader (s : State) : State :=
  let s := (s.readHeader.dropWriting).hdrSettle
  let spare := min (s.nvm.blocks - 0x3800) 1000 - s.hdr.remap.length
  let s := match s.nvm.logArea with
    | e :: _ => s.wn Reg.SVC_LOG_HEAD e.seq
    | [] => s
  (s.wn Reg.RSV_NVM_SPARE spare).trialAccount

/-- Steps 2 to 10 of R498 with an NVM attached. -/
def State.bootNvm (s : State) : State :=
  match s.bootHeader.chooseFirmware with
  | none => s.bootHeader.enterService.trialSettle
  | some t => (t.runFirmware.trialSettle).bootFirm

/-- The interface to the NVM opened (R490, Table 17.1): FRST_N is held low for 10 µs, the JESD216 table is read in 1-1-1 mode
at 25 MHz, and the interface that BOOTSEL selects runs: its data lines and its clock in MHz. -/
def State.openNvm (s : State) : State :=
  let s := (s.emit (.pin "FRST_N" 0 false)).emit (.pin "FRST_N" 0 true)
  let s := s.send "NVM_PARAMETERS" 0 [1, 25]
  match s.watch.bootsel with
  | 0 => s.send "NVM_INTERFACE" 0 [8, 200]
  | 1 => s.send "NVM_INTERFACE" 1 [4, 100]
  | 2 => s.send "NVM_INTERFACE" 2 [1, 50]
  | _ => s

/-- Step 1 of R498, with what the compute die raises as it starts. -/
def State.bootStart (s : State) : State :=
  let s := { s with nvm := { s.nvm with
    booted := true, tag := 0, schema := 0, schemaMin := 0, timeWait := 0, name := [] } }
  let s := (s.loadTrims.bootBase).rsvSettle
  let s := if s.flt.latch then s.emit (.pin "SAFE" 512 true) else s
  s.bootFaults

/-- The boot sequence, once after each reset (R498). With BOOTSEL 3 no image is read. -/
def State.boot (s : State) : State :=
  if s.nvm.booted then s
  else if s.watch.bootsel = 3 then s.bootStart.openNvm.hdrSettle.enterService else s.bootStart.openNvm.bootNvm

/-! ### The first frame (R501) -/

/-- Every tile matched is calibrated, MISSING or FAILED (Table 05.9). -/
def State.tilesReady (s : State) : Bool :=
  s.scan.entries.all fun e => !e.2.present || [2, 3, 4].contains e.2.cal

/-- The clock from which a time source has qualified or TIME_WAIT has passed since power-good (R501). -/
def State.timeFrom (s : State) : Nat :=
  let wait := s.watch.goodAt + s.nvm.timeWait
  match s.time.qualAt with
  | some c => min c wait
  | none => wait

/-- A time source has qualified, or TIME_WAIT has passed since power-good. -/
def State.timeReady (s : State) : Bool := decide (s.timeFrom ≤ s.clk)

/-- The ledger time, ns, at which both conditions of R501 were met. -/
def State.readyNs (s : State) : Nat := s.ns - (s.clk - max s.timeFrom s.cal.readyAt) * 5 / 4

/-- Tally n is the first whose raster starts at least 1 ms after the conditions of R501 were met. -/
def State.firstTally (s : State) (n : Nat) : Bool :=
  decide (s.readyNs + 1000000 ≤ s.rasterPoint n) && (n == 0 || decide (s.rasterPoint (n - 1) < s.readyNs + 1000000))

/-- A time of the ledger to come, as a clock. -/
def State.clkAt (s : State) (ns : Nat) : Nat := s.clk + (ns - s.ns) * 4 / 5

/-- The first frame is presented at the tally of R501, whose raster has started. ARMED, SVC_TTP, and the time-to-picture fault beyond 4 s. -/
def State.firstFrame (s : State) (n : Nat) : State :=
  if !s.nvm.booted || s.serviceMode || s.nvm.firstAt.isSome || !s.timeReady || !s.tilesReady || !s.firstTally n
      || decide (s.ns < s.rasterPoint n ∨ s.tp n < s.ns) then s
  else
    let c := s.clkAt (s.tp n)
    let t := (c - s.watch.goodAt) / 800000
    let s := ({ s with nvm := { s.nvm with firstAt := some c }, time := { s.time with armed := true } }).servoSettle
    let s := s.wn Reg.SVC_TTP (min 65535 t)
    if sec 4 < c - s.watch.goodAt then s.raise 329 0 t else s

end Sys2Proof.Machine
end

