-- ==== Sys2Proof/Machine/TftpOps.lean ====
section
/-!
DEFINITION. TFTP on the Gangway: transfers into the slots, key images, unlock tokens, and the fault log read back
(17_boot_update_security.md R508, R509, R514 to R516; R469).
-/
namespace Sys2Proof.Machine

/-- A packet to a peer, from the port of its transfer. -/
def State.tftpSend (s : State) (peer : Nat) (p : List Byte) : State :=
  s.udpSend 4 2 "TFTP" (Config.tftpPort peer % 65536) peer p

/-- Codes of SVC_TFTP_STAT [2:0], with SVC_TFTP_BLOCKS. -/
def State.tftpStat (s : State) (st : Nat) : State := s.setFld Reg.SVC_TFTP_STAT 2 0 st
def State.tftpBlocks (s : State) (n : Nat) : State := s.wn Reg.SVC_TFTP_BLOCKS n

/-- An error packet sent, with its code kept. -/
def State.tftpError (s : State) (peer code : Nat) : State :=
  (s.setFld Reg.SVC_TFTP_STAT 15 8 code).tftpSend peer (tftpErrorPacket code)

/-- A request refused. -/
def State.tftpRefuse (s : State) (peer code : Nat) : State := (s.tftpError peer code).bump Reg.SVC_REFUSED

/-- The kind of image a file carries (0 to 3 as imgMagic), none for others. -/
def fileKind : TftpFile → Option Nat
  | .firmware => some 0
  | .manifest => some 1
  | .key => some 2
  | .unlock => some 3
  | _ => none

/-- The transfer writes a slot. -/
def Tftp.toSlot (x : Tftp) : Bool := x.file == .firmware || x.file == .manifest

def State.setTftp (s : State) (x : Option Tftp) : State := { s with nvm := { s.nvm with tftp := x } }

/-- A slot emptied, with its code. -/
def State.emptySlot (s : State) (k code : Nat) : State :=
  ({ s with nvm := { s.nvm with slots := tabErase s.nvm.slots k } }).setHdr (setSlot s.hdr k code)

/-- The last reply of a transfer: the option's acknowledgement before the first block, else that of the block before. -/
def State.tftpReply (s : State) (x : Tftp) : State :=
  if x.next = 1 ∧ x.oack = true then s.tftpSend x.peer (tftpOack x.blksize) else s.tftpSend x.peer (tftpAck (x.next - 1))

/-! ### Keys (R514, R515) -/

/-- Every written venue key generation has every bit blown and is void; AUTH_MODE then reads 0 (R406). -/
def State.zeroize (s : State) : State :=
  let otp := { s.nvm.otp with venue := s.nvm.otp.venue.map fun _ => (List.replicate 32 0xFF#8, true) }
  ({ s with nvm := { s.nvm with otp := otp } }).keySettle

/-- A key image acted on: 0, or the reason for which it is refused. -/
def State.keyImage (s : State) (c : List Byte) : Nat × State :=
  let kind := imgField c 256 1
  let len := if kind = 1 then 48 else 32
  let key := (c.drop 260).take len
  let r := s.imgCheck 2 c
  if r ≠ 0 then (r, s)
  else if (kind ≠ 1 ∧ kind ≠ 2) ∨ imgField c 257 3 ≠ 0 ∨ imgLen c ≠ 356 + len then (2, s)
  else if ((c.drop 16).take 16).all (· == 0#8) then (5, s)
  else if kind = 1 then
    if s.nvm.otp.man.isSome ∨ key ≠ sha384 (imgKey c) then (1, s)
    else (0, ({ s with nvm := { s.nvm with otp := { s.nvm.otp with man := some key } } }).keySettle)
  else if key.all (· == 0#8) then (0, s.zeroize)
  else if 8 ≤ s.nvm.otp.venue.length then (1, s.raise 331 0)
  else
    let otp := { s.nvm.otp with venue := s.nvm.otp.venue ++ [(key, false)] }
    (0, (({ s with nvm := { s.nvm with otp := otp } }).keySettle).setSessions [])

/-- Whether an unlock token is accepted (R516). -/
def State.tokenOk (s : State) (c : List Byte) : Bool :=
  s.watch.testMode && s.imgCheck 3 c == 0 && imgLen c == 360 && (c.drop 16).take 16 == s.nvm.otp.uid
    && imgField c 256 8 == s.pair Reg.SVC_NONCE

/-- Test mode is entered (R451): keys are zeroized first. -/
def State.enterTest (s : State) : State :=
  let s := s.zeroize
  ({ s with flt := { s.flt with test := true } }).setFld Reg.SVC_STAT 10 10 1

/-! ### The end of a transfer (R509) -/

/-- The transfer fails: its slot is empty, the peer gets an error, and the failure is counted. -/
def State.tftpFail (s : State) (x : Tftp) (code : Nat) : State :=
  let s := (s.setTftp none).tftpStat 4
  let s := if x.toSlot then s.emptySlot x.slot 0 else s
  s.tftpRefuse x.peer code

/-- The machine as it leaves reset, before any configuration, for the check of a manifest (R502 to R504). -/
def State.blank (s : State) : State := (s.dieReset.leaveReset).bootBase

/-- The reason for which an image of a slot fails, with the record; reason 0 for a pass. -/
def State.slotCheck (s : State) (kind : Nat) (c : List Byte) : Nat × Nat :=
  if kind = 1 then match s.blank.tryManifest c with
    | .ok _ => (0, 0)
    | .error e => e
  else (0, s.imgCheck kind c)

/-- A check fails, with its reason (R509). -/
def State.tftpInvalid (s : State) (x : Tftp) (e : Nat × Nat) : State :=
  ((s.manErr e).tftpFail x 0).raise 327 0 e.2

/-- The image check after the last block: a slot is staged, or a key image or token acted on. -/
def State.tftpFinish (s : State) (x : Tftp) : State :=
  let done := (s.setTftp none).tftpStat 3
  match x.file with
  | .key => match s.keyImage x.content with
    | (0, t) => (t.setTftp none).tftpStat 3
    | (r, t) => t.tftpInvalid x (0, r)
  | .unlock => if s.tokenOk x.content then done.enterTest else (s.tftpFail x 0).raise 332 0
  | _ =>
    let e := s.slotCheck (x.slot / 2) x.content
    if e.2 = 0 then
      let t := { done with nvm := { done.nvm with slots := tabSet done.nvm.slots x.slot x.content } }
      (t.setHdr (setSlot t.hdr x.slot 2)).bump Reg.SVC_UPDATES
    else s.tftpInvalid x e

/-! ### Blocks -/

/-- Whole NVM blocks taken from the bytes received (R492): what is left and the content, or none when a CRC fails. -/
def nvmBlocks : Nat → List Byte → List Byte → Option (List Byte × List Byte)
  | 0, raw, c => some (raw, c)
  | n + 1, raw, c =>
    if raw.length < 4096 then some (raw, c)
    else if leNat ((raw.drop 4092).take 4) = (crc32c (raw.take 4092)).toNat then
      nvmBlocks n (raw.drop 4096) (c ++ raw.take 4092)
    else none

/-- Whole blocks received for a slot, programmed after the content it holds (Table 17.2). -/
def State.programSlot (s : State) (slot held : Nat) (raw : List Byte) (n : Nat) : State :=
  let base := [0x800000, 0x1800000, 0x2800000, 0x3000000].getD slot 0
  s.programBlocks (base + held / 4092 * 4096) ((List.range n).map fun i => (raw.drop (4096 * i)).take 4096)

/-- Content bytes of a region: those of Table 17.2's blocks. -/
def regionBytes : TftpFile → Option Nat
  | .firmware => some (4092 * 4096)
  | .manifest => some (4092 * 2048)
  | _ => none

/-- The next DATA packet programmed, read back and acknowledged; a short one ends the transfer. -/
def State.tftpBlock (s : State) (x : Tftp) (data : List Byte) : State :=
  let s := s.tftpBlocks x.next
  let raw := x.raw ++ data
  match nvmBlocks (raw.length / 4096) raw x.content with
  | none => (s.tftpFail x 0).raise 327 0
  | some (rest, c) =>
    let s := if x.toSlot then s.programSlot x.slot x.content.length raw (raw.length / 4096) else s
    let raw := rest
    if (regionBytes x.file).any fun m => decide (m < c.length + raw.length) then s.tftpFail x 3
    else
      let x := { x with next := x.next + 1, raw := raw, content := c, sentAt := s.clk, tries := 0, held := none }
      let s := (s.setTftp (some x)).tftpReply x
      if x.blksize ≤ data.length then s
      else if raw.isEmpty then s.tftpFinish x
      else (s.tftpFail x 0).raise 327 0

/-- A write request accepted: its slot is in state writing (R509) and the peer is answered. -/
def State.tftpOpen (s : State) (x : Tftp) : State :=
  let x := { x with sentAt := s.clk, held := none }
  let s := if x.toSlot then s.emptySlot x.slot 1 else s
  (((s.setTftp (some x)).tftpStat 1).tftpBlocks 0).tftpReply x

/-- A write request (R508); while a brownout warning stands, an accepted one waits (R469). In service mode the sender
names the slot. -/
def State.tftpWrite (s : State) (peer : Nat) (file : TftpFile) (netascii : Bool) (blksize : Option Nat) (slot : Nat) :
    State :=
  if netascii then s.tftpRefuse peer 4
  else match fileKind file with
    | none => s.tftpRefuse peer 2
    | some kind =>
      if s.hdr.trial ≠ 0 ∨ s.nvm.tftp.isSome ∨ (s.serviceMode ∧ kind = 3) then s.tftpRefuse peer 2
      else
        let size := (blksize.filter fun b => decide (8 ≤ b)).map (min 4096)
        let k := if s.serviceMode then 2 * kind + slot else inactiveSlot s.hdr kind
        let x : Tftp := { file := file, slot := k, peer := peer, blksize := size.getD 512, oack := size.isSome }
        if s.watch.warnAt.isSome then s.setTftp (some { x with held := some (0, []) }) else s.tftpOpen x

/-- A DATA packet of the transfer: the next block is taken, the block before acknowledged again. -/
def State.tftpTake (s : State) (x : Tftp) (block : Nat) (data : List Byte) : State :=
  if x.held.isSome ∨ x.blksize < data.length then s
  else if block = x.next % 65536 then
    if s.watch.warnAt.isSome then s.setTftp (some { x with held := some (block, data) }) else s.tftpBlock x data
  else if block = (x.next - 1) % 65536 then s.tftpReply x
  else s

/-- A DATA packet from a peer; one of no transfer is answered with error 5 (RFC 1350). -/
def State.tftpData (s : State) (peer block : Nat) (data : List Byte) : State :=
  match s.nvm.tftp with
  | some x => if x.peer = peer then s.tftpTake x block data else s.tftpError peer 5
  | none => s.tftpError peer 5

/-- What a brownout warning held back goes on (R469). -/
def State.tftpResume (s : State) : State :=
  match s.nvm.tftp with
  | some x => match x.held with
    | some (b, data) => if b = 0 ∧ x.next = 1 then s.tftpOpen x else s.tftpBlock { x with held := none } data
    | none => s
  | none => s

/-- One second without a reply: the last reply again, at most 5 times (R508). -/
def State.tftpRetry (s : State) : State :=
  match s.nvm.tftp with
  | some x =>
    if x.held.isSome ∨ s.elapsed x.sentAt (sec 1) = false then s
    else if x.tries < 5 then
      let x := { x with tries := x.tries + 1, sentAt := s.clk }
      (s.setTftp (some x)).tftpReply x
    else
      let s := ((s.setTftp none).tftpStat 4).bump Reg.SVC_REFUSED
      if x.toSlot then s.emptySlot x.slot 0 else s
  | none => s

/-! ### Reading faultlog.bin -/

/-- The log area in SEQ order, 32 bytes an entry. -/
def State.logBytes (s : State) : List Byte := s.nvm.logArea.reverse.flatMap fun e => leWords e.words

/-- DATA packets of a run of bytes, the last one short. The peer acknowledges each before the next, so that none waits in a
queue behind another (log entry 49). -/
def State.tftpSendAll (s : State) (peer size : Nat) : Nat → Nat → List Byte → State
  | 0, _, _ => s
  | n + 1, k, bs =>
    (s.send "TFTP" 4 ((wireFrame (s.txTag 4 2)
      (s.udpFrame 4 (Config.tftpPort peer % 65536) peer true (tftpDataPacket k (bs.take size)))).map (·.toNat))).tftpSendAll peer size n (k + 1) (bs.drop size)

/-- A read request (R508), served in one event: SVC_TFTP_STAT tells of it unless a transfer runs. -/
def State.tftpRead (s : State) (peer : Nat) (file : TftpFile) (netascii : Bool) (blksize : Option Nat) : State :=
  if netascii then s.tftpRefuse peer 4
  else if file ≠ .faultlog ∨ s.serviceMode = true then s.tftpRefuse peer 2
  else
    let size := (blksize.filter fun b => decide (8 ≤ b)).map (min 4096)
    let s := match size with
      | some b => s.tftpSend peer (tftpOack b)
      | none => s
    let bs := s.logBytes
    let n := bs.length / size.getD 512 + 1
    let s := s.tftpSendAll peer (size.getD 512) n 1 bs
    if s.nvm.tftp.isSome then s else (s.tftpStat 3).tftpBlocks n

end Sys2Proof.Machine
end

