-- ==== Sys2Proof/Machine/Boot.lean ====
section
/-!
DEFINITION. Commands of boot, update and the NVM (17_boot_update_security.md).
-/
namespace Sys2Proof.Machine

def execBootSequence (dt : Nat) (s : State) : Host.Outcome State Fault Refusal := act dt s State.boot

def execFirstFrame (dt tally : Nat) (s : State) : Host.Outcome State Fault Refusal := act dt s fun s => s.firstFrame tally

/-! ### TFTP (R508, R509, R514 to R516) -/

def execTftpWriteRequest (dt peer : Nat) (file : TftpFile) (netascii : Bool) (blksize : Option Nat) (slot : Fin 2)
    (s : State) : Host.Outcome State Fault Refusal :=
  act dt s fun s => s.tftpWrite peer file netascii blksize slot

def execTftpReadRequest (dt peer : Nat) (file : TftpFile) (netascii : Bool) (blksize : Option Nat) (s : State) :
    Host.Outcome State Fault Refusal :=
  act dt s fun s => s.tftpRead peer file netascii blksize

def execTftpData (dt peer block : Nat) (data : List Byte) (s : State) : Host.Outcome State Fault Refusal :=
  act dt s fun s => s.tftpData peer block data

def execTftpRetransmit (dt : Nat) (s : State) : Host.Outcome State Fault Refusal := act dt s State.tftpRetry

/-! ### SVC_CMD (R510, R512, R513, R520) -/

/-- A word of SVC_CMD with its key. -/
def svcWord (cmd what : Nat) : Nat := 0xB7E2 * 65536 + 8 * what + cmd

def execSvcActivate (dt : Nat) (req : Requester) (what : Fin 4) (s : State) : Host.Outcome State Fault Refusal :=
  act dt s fun s => s.svcCmd req (svcWord 1 what)

def execSvcReset (dt : Nat) (req : Requester) (s : State) : Host.Outcome State Fault Refusal :=
  act dt s fun s => s.svcCmd req (svcWord 2 0)

def execSvcConfirm (dt : Nat) (req : Requester) (s : State) : Host.Outcome State Fault Refusal :=
  act dt s fun s => s.svcCmd req (svcWord 3 0)

def execSvcDiscard (dt : Nat) (req : Requester) (what : Fin 4) (s : State) : Host.Outcome State Fault Refusal :=
  act dt s fun s => s.svcCmd req (svcWord 5 what)

/-- With CONFIRM_MANUAL clear the device confirms at the first instant at which the conditions hold (R512); its writes wait
for a brownout warning to end (R469). -/
def State.autoConfirm (s : State) : State :=
  if s.checksMet && !bit (s.rn Reg.SVC_TRIAL_CFG) 15 && s.watch.warnAt.isNone then s.confirm else s

def execAutoConfirm (dt : Nat) (s : State) : Host.Outcome State Fault Refusal := act dt s State.autoConfirm

/-- The trial window ends without confirmation (R511). -/
def State.trialExpire (s : State) : State :=
  if s.fld Reg.SVC_STAT 3 2 = 1 ∧ s.trialLeft = 0 ∧ s.watch.warnAt.isNone = true then
    ((s.setHdr { s.hdr with trial := 2 }).trialSettle).raise 328 0
  else s

def execTrialExpire (dt : Nat) (s : State) : Host.Outcome State Fault Refusal := act dt s State.trialExpire

/-! ### The NVM (R492, R518, R453) -/

/-- Entries of the fault log that are newer than the last one copied, oldest first, and how many were lost before (R518). -/
def State.logNew (s : State) : List LogEntry :=
  (s.flt.log.takeWhile fun e => e.seq != s.nvm.copied || s.nvm.copied == 0).reverse

/-- The fault log is copied to the log area (R518). -/
def State.logCopy (s : State) : State :=
  let new := s.logNew
  match new.getLast? with
  | none => s
  | some last =>
    if s.watch.warnAt.isSome then s
    else
      let lost := (last.seq + 2 ^ 32 - s.nvm.copied) % 2 ^ 32 - new.length
      let s := new.foldl State.logAppend s
      let s := { s with nvm := { s.nvm with copied := last.seq } }
      let s := (s.bumpBy Reg.SVC_LOG_COPIED new.length).wn Reg.SVC_LOG_HEAD last.seq
      if 0 < lost then (s.bumpBy Reg.SVC_LOG_SKIPPED lost).raiseSec 330 0 lost else s

def execLogCopy (dt : Nat) (s : State) : Host.Outcome State Fault Refusal := act dt s State.logCopy

/-- What a failed block of a region (Table 17.2) leaves (R492): a slot's image, a settings half and a copy no longer check, and
the log area loses the block's entries. -/
def NvmState.blockLost (n : NvmState) (block : Nat) : NvmState :=
  let slot := fun k => { n with slots := tabErase n.slots k }
  let half := fun k => { n with settings := tabErase n.settings k }
  if block = 0 then { n with hdr0 := none } else if block = 0x10 then { n with hdr1 := none }
  else if block < 0x20 then n
  else if block < 0x28 then { n with trimA := none } else if block < 0x30 then { n with trimB := none }
  else if block < 0x100 then n
  else if block < 0x300 then half ((block - 0x100) / 0x80)
  else if block < 0x700 then n.logLost (block - 0x300) else if block < 0x800 then n
  else if block < 0x1800 then slot 0
  else if block < 0x2800 then slot 1
  else if block < 0x3000 then slot 2
  else if block < 0x3800 then slot 3
  else n

/-- A block that fails is replaced by the first free spare block (Table 15.9, kind 7): the header's remap table takes it, when
a spare remains. One that failed as it was written is written again there; one that failed twice as it was read is lost (R492). -/
def State.blockRemap (s : State) (block : Nat) (onWrite : Bool) : State :=
  let s := if onWrite then s else { s with nvm := s.nvm.blockLost block }
  let h := s.hdr
  let s := if s.reserveFree 7 block ∧ h.remap.length < 1000 then
      s.setHdr { h with remap := h.remap ++ [(block, 0x3800 + h.remap.length)] }
    else s
  s.worn 7 block

def execNvmBlockRemap (dt block : Nat) (onWrite : Bool) (s : State) : Host.Outcome State Fault Refusal :=
  act dt s fun s => if s.hdr.remap.any (·.1 == block) then s else s.blockRemap block onWrite

/-! ### Boundary scan (R517) -/

/-- The instruction in force: any other than those offered acts as BYPASS. -/
def execJtagInstruction (dt : Nat) (instr : JtagInstr) (s : State) : Host.Outcome State Fault Refusal :=
  actAlways dt s fun s => { s with nvm := { s.nvm with jtag := if instr = .other then .bypass else instr } }

end Sys2Proof.Machine
end

