-- ==== Sys2Proof/Machine/Fixture.lean ====
section
/-!
DEFINITION. Commands of probes, waybills, sACN, DMX and RDM (11_probes_fixtures.md); the departure of waybill values
stands with the lamp ports it reaches.
-/
namespace Sys2Proof.Machine

/-- Probe values of a tally are ready (R315, R318): those of its canvas, or repeated; the waybills are evaluated for it
(R321 to R323). -/
def execProbeValuesReady (dt tally : Nat) (s : State) : Host.Outcome State Fault Refusal :=
  act dt s fun s =>
    let t := s.probeValues tally
    if (t.probeVals tally).isSome then t.waysEval tally else t

def execProbeSelWrite (dt : Nat) (req : Requester) (value : Word) (s : State) : Host.Outcome State Fault Refusal :=
  act dt s fun s => s.probeSelWrite req value.toNat

def execProbeCommit (dt : Nat) (req : Requester) (s : State) : Host.Outcome State Fault Refusal :=
  actBy dt req s fun s => s.probeCommit req

def execProbeEmitCommit (dt : Nat) (req : Requester) (s : State) : Host.Outcome State Fault Refusal :=
  actBy dt req s fun s => s.emitCommit

def execWaySelWrite (dt : Nat) (req : Requester) (value : Word) (s : State) : Host.Outcome State Fault Refusal :=
  act dt s fun s => s.waySelWrite req value.toNat

def execWayCommit (dt : Nat) (req : Requester) (s : State) : Host.Outcome State Fault Refusal :=
  actBy dt req s fun s => s.wayCommit

def execWayParamWrite (dt : Nat) (req : Requester) (index : Fin 1024) (value : Word) (s : State) :
    Host.Outcome State Fault Refusal :=
  actBy dt req s fun s => s.wayParamWrite index value.toNat

def execSacnReceive (dt : Nat) (mac : Fin 5) (p : SacnPacket) (s : State) : Host.Outcome State Fault Refusal :=
  act dt s fun s => s.sacnReceive mac p

/-- A source silent for 2,500 ms is lost (R330). -/
def execSacnSourceLost (dt univ cid : Nat) (s : State) : Host.Outcome State Fault Refusal :=
  act dt s fun s =>
    match (s.uIn univ).sources.find? (·.cid == cid), s.univSet 0 univ s.tally with
    | some x, some b => if s.elapsed x.last (ms 2500) then s.sourceGone univ cid b else s
    | _, _ => s

def execSacnSend (dt tally univ : Nat) (s : State) : Host.Outcome State Fault Refusal :=
  act dt s fun s => s.sacnSend tally univ

def execSacnDiscoverySend (dt : Nat) (s : State) : Host.Outcome State Fault Refusal := act dt s State.sacnDiscovery

def execDmxFrameStart (dt : Nat) (port : Fin 8) (tally : Nat) (s : State) : Host.Outcome State Fault Refusal :=
  act dt s fun s => s.dmxFrame port tally

def execDmxFrameEnd (dt : Nat) (port : Fin 8) (readback : List Nat) (s : State) : Host.Outcome State Fault Refusal :=
  act dt s fun s => s.dmxEnd port readback

def execRdmTransactionStart (dt : Nat) (port : Fin 8) (s : State) : Host.Outcome State Fault Refusal :=
  act dt s fun s => s.rdmStart port

def execRdmTransactionEnd (dt : Nat) (port : Fin 8) (reply : Option (List Byte)) (s : State) :
    Host.Outcome State Fault Refusal :=
  act dt s fun s => s.rdmEnd port reply

def execRdmFullDiscovery (dt : Nat) (req : Requester) (port : Fin 8) (value : Word) (s : State) :
    Host.Outcome State Fault Refusal :=
  act dt s fun s => s.dmxCmd req port value.toNat

def execRdmIncrementalDiscovery (dt : Nat) (port : Fin 8) (s : State) : Host.Outcome State Fault Refusal :=
  act dt s fun s => s.rdmIncremental port

def execRdmRequest (dt : Nat) (door : Door) (port cc uid sub pid : Nat) (pd : List Byte) (s : State) :
    Host.Outcome State Fault Refusal :=
  act dt s fun s => s.request door 0x60 (rdmRequestBody port cc uid sub pid pd) fun s => s.rdmRequest door port cc uid sub pid pd

end Sys2Proof.Machine
end

