-- ==== Sys2Proof/Machine/Lamps.lean ====
section
/-!
DEFINITION. Commands of the lamp ports and pattern engines (12_lamp_ports.md), the lamp link (R17), and the departure of
waybill values (R27). On a part without the lamp die nothing of the lamp ports takes effect (R2, R343).
-/
namespace Sys2Proof.Machine

/-- A transfer over the lamp link (R17): one that fails its CRC is repeated once, counted; a failed repeat raises the
lamp-link fault and the outputs hold until the link recovers. Whether a transfer checks is an operand (log entry 249). -/
def execLampLinkTransfer (dt : Nat) (crcGood repeatGood : Bool) (s : State) : Host.Outcome State Fault Refusal :=
  act dt s fun s =>
    if !s.lampDie ∨ s.inReset .lampLink then s
    else
      let s := if crcGood then s else s.bump Reg.LAMP_LINK_RETRY
      if crcGood || repeatGood then (s.setHold false s.lamp.brownHold).condClear 8 0
      else
        let raised := !(s.fltInst 8 0).standing
        let s := (s.setHold true s.lamp.brownHold).raiseOnce 8 0
        if raised && [4, 5].contains (s.fltInst 8 0).reaction then s.setHold false s.lamp.brownHold else s

def execPwmPeriodStart (dt : Nat) (bstSkips : List (Nat × Nat)) (s : State) : Host.Outcome State Fault Refusal :=
  act dt s fun s => (s.pwmStart bstSkips).trimsAtPeriod

/-- A conversion cycle of an ADC over its ports and two NTC inputs, one in each 8 µs of the ledger (R360, R361). -/
def execAdcCycle (dt : Nat) (adc : Fin 4) (samples : List LampSample) (ntcEven ntcOdd : Nat) (s : State) :
    Host.Outcome State Fault Refusal :=
  act dt s fun s =>
    let c := s.ns / 8000
    if s.lampDie ∧ tabGetD s.lamp.adcNext adc.val 0 ≤ c then
      let s := { s with lamp := { s.lamp with adcNext := tabSet s.lamp.adcNext adc.val (c + 1) } }
      let s := samples.foldl (fun s q => s.takeSample (8 * adc.val + q.port.val) q) s
      (s.ntcRead (2 * adc.val) ntcEven).ntcRead (2 * adc.val + 1) ntcOdd
    else s

/-- The means of a millisecond are posted, once for each whole ledger millisecond (R360). -/
def execMeasPost (dt : Nat) (s : State) : Host.Outcome State Fault Refusal :=
  act dt s fun s =>
    let m := s.ns / 1000000
    if s.lampDie ∧ s.lamp.posted < m then
      (List.range 32).foldl State.postPort { s with lamp := { s.lamp with posted := m } }
    else s

def execThermometryWindow (dt : Nat) (port : Fin 32) (vf : List Nat) (s : State) : Host.Outcome State Fault Refusal :=
  act dt s fun s => s.thermometry port vf

/-- TJ_VALID clears after 1 s without a window (R363). -/
def execTjTimeout (dt : Nat) (port : Fin 32) (s : State) : Host.Outcome State Fault Refusal :=
  act dt s fun s =>
    match (s.lport port).window with
    | some c => if s.lampDie ∧ s.elapsed c (sec 1) = true then s.setFld (Reg.LAMP_PORT_TJ port) 16 16 0 else s
    | none => s

def execNeighbourTest (dt : Nat) (port : Fin 32) (findings : List NbFinding) (s : State) :
    Host.Outcome State Fault Refusal :=
  act dt s fun s => s.neighbourTest port findings

def execLampLevelWrite (dt : Nat) (req : Requester) (group : Fin 32) (reg : Fin 4) (value : Word) (s : State) :
    Host.Outcome State Fault Refusal :=
  act dt s fun s => s.levelWrite req group reg value.toNat

def execLampPortParamWrite (dt : Nat) (req : Requester) (port : Fin 32) (reg : Fin 4) (value : Word) (s : State) :
    Host.Outcome State Fault Refusal :=
  act dt s fun s => s.portParamWrite req port reg value.toNat

def execPatternParamWrite (dt : Nat) (req : Requester) (engine : Fin 8) (reg : Fin 6) (value : Word) (s : State) :
    Host.Outcome State Fault Refusal :=
  actBy dt req s fun s => s.patternWrite req engine reg value.toNat

def execWaybillDeparture (dt tally : Nat) (entry : Fin 4096) (s : State) : Host.Outcome State Fault Refusal :=
  act dt s fun s => s.wayDeparture tally entry

end Sys2Proof.Machine
end

