-- ==== Sys2Proof/Machine/Arbiter.lean ====
section
/-!
DEFINITION. The arbiters of the fabric (Table 01.8, R30, R31) and the banks that Hold addresses fall in (R22).
-/
namespace Sys2Proof.Machine

/-- Worst-case blocking of a class P0 to P4, ns (Table 01.8). -/
def blockingNs (cls : Nat) : Nat := [64, 256, 512, 2000].getD cls 8000

/-- A request ready at a shared point: its class, the clock since which it has waited, and its place among requests of one
clock (R39). -/
structure Ready where
  cls : Nat
  since : Nat
  rank : Nat := 1
  deriving DecidableEq, Repr

/-- A request that has waited its class's blocking time is promoted; a clock is 1.25 ns (R31). -/
def Ready.promoted (now : Nat) (r : Ready) : Bool := decide (4 * blockingNs r.cls ≤ 5 * (now - r.since))

/-- Whether one request is granted before another (R31): a promoted one before one that is not; two promoted by age, then
class; two others by class, then age. Requests of one clock and class follow R39. -/
def Ready.before (now : Nat) (a b : Ready) : Bool :=
  let older := decide (a.since < b.since)
  let sameAge := a.since == b.since
  let higher := decide (a.cls < b.cls)
  let sameClass := a.cls == b.cls
  let tie := sameAge && sameClass && decide (a.rank < b.rank)
  match a.promoted now, b.promoted now with
  | true, false => true
  | false, true => false
  | true, true => older || (sameAge && higher) || tie
  | false, false => higher || (sameClass && older) || tie

/-- A request placed among others in the order in which they are granted. -/
def readyInsert {α : Type} (now : Nat) (x : Ready × α) : List (Ready × α) → List (Ready × α)
  | [] => [x]
  | y :: ys => if y.1.before now x.1 then y :: readyInsert now x ys else x :: y :: ys

/-- Ready requests in the order in which an arbiter grants them at a clock; requests that tie keep their order of arrival. -/
def arbitrate {α : Type} (now : Nat) (rs : List (Ready × α)) : List α := (rs.foldr (readyInsert now) []).map (·.2)

/-- The logical bank of Hold in which an address falls: 16 banks interleaved at 256 bytes (R22). -/
def logicalBank (a : Nat) : Nat := (a - holdBase) / 256 % 16

/-- The physical bank that holds an address, as the substitutions of R453 have left the map (R22). -/
def State.physicalBank (s : State) (a : Nat) : Nat := s.rsv.bankMap.getD (logicalBank a) 0

end Sys2Proof.Machine
end

