-- ==== Sys2Proof/Machine/LockOps.lean ====
section
/-!
DEFINITION. Local transactions of the Ferry, locked sequences and the register ports of the device and of tiles
(14_qmp_pier_ferry.md R403, R411, R421 to R432; 08_sardylink.md R241 to R245).
-/
namespace Sys2Proof.Machine

/-! ### Local transactions -/

/-- A local transaction completes: a QMP request is answered, a Pier READ returns its words and RESULT, a Pier WRITE leaves
its last result. -/
def State.localDone (s : State) (t : Txn) (status : Nat) (vs : List Nat) : State :=
  match t.door with
  | .regs .pier =>
    if t.op = 1 then s.emit (.answer .pier status vs) else { s with pier := { s.pier with lastResult := status } }
  | .regs _ => s
  | d => s.respond d t.type status (vs.flatMap (beBytes 4))

/-- A local transaction takes place: its words in order; one that an address refuses is answered ACCESS. A Pier WRITE's
result is that of its last word. -/
def State.localRun (s : State) (t : Txn) : State :=
  let req := doorReq t.door
  if t.op = 1 then
    let (vs, ok, s) := s.readRegs req t.offset t.count
    s.localDone t (if ok then 0 else 4) vs
  else if t.door = .regs .cue then
    s.maskedWrite t.offset ((t.data.headD 0#32).toNat) t.mask t.cue
  else
    let last := s.writeDenied (t.offset + 4 * (t.data.length - 1))
    let (ok, s) := s.writeRegs req t.offset (t.data.map (·.toNat))
    s.localDone t (if t.door = .regs .pier then (if last then 4 else 0) else if ok then 0 else 4) []

/-- A local transaction arrives: it waits while another requester holds the port, and behind those of its own requester
that wait (R421, R431). -/
def State.localSubmit (s : State) (t : Txn) : State :=
  if s.localBlocked (doorReq t.door) || s.ferry.localWait.any fun x => doorReq x.door == doorReq t.door then s.localQueue t else s.localRun t

/-- A WRITE of a node to the device's register space (R242): whether it was accepted. -/
def State.portWrite (s : State) (requester space offset : Nat) (data : List Word) : Bool × State :=
  if space ≠ 0 ∨ 2 ^ 32 ≤ offset then (false, s)
  else s.writeRegs (.relay requester) offset (data.map (·.toNat))

/-- A posted write of a node that a lock held up is performed; one refused is answered ACCESS (R242, R244). -/
def State.postedRun (s : State) (p : PostedWrite) : State :=
  let (ok, s) := s.portWrite p.requester p.space p.offset p.data
  if ok then s
  else s.regReply p.requester
    { op := 8, flags := 1, tag := p.tag, requester := p.requester, target := s.nodeId, space := p.space, offset := p.offset
      count := p.data.length, status := 4 }

/-- The device's lock has ended: posted writes of other nodes and local transactions that waited for it contend as class P3
(R244, R431); the arbiter grants them in its order (R31), each is performed under its own name and arrival stamp (R39), and
commits among them are placed by that stamp (R126). -/
def State.lockEnded (s : State) : State :=
  let posted := s.slk.waitingPosted.map fun p =>
    (({ cls := 3, since := p.since } : Ready), fun (s : State) => s.askingAt (.relay p.requester) p.arrived fun s => s.postedRun p)
  let loc := s.ferry.localWait.map fun t =>
    (({ cls := 3, since := t.sentAt, rank := if doorReq t.door = .pier then 0 else 1 } : Ready),
     fun (s : State) => s.askingAt (doorReq t.door) t.arrived fun s => s.localSubmit t)
  let s := { s with
    slk := { s.slk with lock := none, waitingPosted := [] }, ferry := { s.ferry with localWait := [] } }
  ((arbitrate s.clk (posted ++ loc)).foldl (fun s f => f s) s).latchLate

/-! ### Locked sequences (R430 to R432) -/

def State.setSeq (s : State) (q : LockSeq) : State := { s with ferry := { s.ferry with seqs := q :: s.ferry.seqs.tail } }

/-- A REG packet of the sequence leaves at once where credits and tags allow: its tag. -/
def State.seqSend (s : State) (q : LockSeq) (op addr count : Nat) (data : List Word) : Option Nat × State :=
  let (_, dest) := s.fTarget addr
  let t : Txn := { door := q.door, type := 0x12, op := op, node := fNode addr, dest := dest, space := fSpace addr,
                   offset := (if count = 0 then 0 else fOffset addr), count := count, data := data, locked := op < 3, limit := q.limit
                   ofSeq := true }
  let links := s.txnLinks t
  if links.isEmpty || !links.all s.reqCredit then (none, s)
  else match s.newTag with
    | none => (none, s)
    | some (g, s) =>
      let t := { t with tag := g, sentAt := s.clk }
      let s := s.regSend t links
      (some g, ({ s with ferry := { s.ferry with out := s.ferry.out ++ [t] } }).ferrySettle)

/-- The local lock, when the Ferry holds it, is released. -/
def State.seqRelease (s : State) : State :=
  match s.slk.lock with
  | some (h, _) => if h = s.nodeId then s.lockEnded else s
  | none => s

/-- The sequence at the front ends with a status: DONE and the values read are reported, both locks released. -/
def State.seqEnd (s : State) (q : LockSeq) (status : Nat) : State :=
  let s := s.respondFrom q.door s.nodeId 0x12 status (beBytes 1 q.done ++ q.values.flatMap (beBytes 4))
  let s := if q.far ≠ 0 ∧ q.step ≠ 0 ∧ q.step ≠ 4 then (s.seqSend q 4 q.far 0 []).2 else s
  (({ s with ferry := { s.ferry with seqs := s.ferry.seqs.tail } }).ferrySettle).seqRelease

/-- The sequence performs its operations from the next one on: local ones at once, a far one by a REG packet whose response
it then awaits. Answers the status it ends with, if it ends. -/
def State.seqRun : Nat → State → LockSeq → State
  | 0, s, q => s.seqEnd q 0
  | n + 1, s, q =>
    match q.ops[q.done]? with
    | none => s.seqEnd q 0
    | some o =>
      let v := o.value.toNat
      let m := o.mask.toNat
      if o.op = 3 ∨ o.op = 4 then
        let a := fOffset o.addr
        let req := doorReq q.door
        if o.op = 3 then
          let (x, s) := s.readReg req a
          if assigned a then State.seqRun n s { q with done := q.done + 1, values := q.values ++ [x] } else s.seqEnd q 4
        else if s.writeDenied a then (s.askingAt req q.arrived fun s => s.writeReg req a v).seqEnd q 4
        else
          let (x, s) := if m = 2 ^ 32 - 1 then (v, s) else
            let (x, s) := s.readReg req a
            (underMask m x v, s)
          State.seqRun n (s.askingAt req q.arrived fun s => s.writeReg req a x).latchLate { q with done := q.done + 1 }
      else
        let merge := o.op == 2 && m != 2 ^ 32 - 1
        match (if o.op = 1 ∨ merge then s.seqSend q 1 o.addr 1 [] else s.seqSend q 2 o.addr 1 [o.value]) with
        | (some g, s) => s.setSeq { q with step := 2, tag := g, merging := merge }
        | (none, s) => s.setSeq { q with step := 5, until_ := s.clk + us 1 }

/-- LOCK goes to the far target, or is tried again when no credit or tag is free. -/
def State.seqLock (s : State) (q : LockSeq) : State :=
  match s.seqSend q 3 q.far 0 [] with
  | (some g, s) => s.setSeq { q with step := 1, tag := g }
  | (none, s) => s.setSeq { q with step := 3, until_ := s.clk + us 1 }

/-- An attempt has failed (R432): the sequence backs off a random 1 to 16 µs and starts again, or fails after its eighth
restart. -/
def State.seqRestart (s : State) (q : LockSeq) : State :=
  let s := s.seqRelease
  if 8 ≤ q.restarts then (s.bump Reg.FERRY_LOCK_FAIL).seqEnd { q with step := 0 } 14
  else
    let (r, s) := s.draw
    (s.bump Reg.FERRY_RETRY).setSeq { q with restarts := q.restarts + 1, step := 4, until_ := s.clk + us (1 + r % 16) }

/-- A RETRY from a holder (R432): a lower node keeps its local lock and sends LOCK again 1 µs later. -/
def State.seqRetry (s : State) (q : LockSeq) (holder : Nat) : State :=
  if s.nodeId < holder then s.setSeq { q with step := 3, until_ := s.clk + us 1 } else s.seqRestart q

/-- An attempt from the local lock (R430, R432). -/
def State.seqTry (s : State) (q : LockSeq) : State :=
  match s.lockHolder with
  | some h => s.seqRetry q h
  | none =>
    let s := { s with slk := { s.slk with lock := some (s.nodeId, s.clk) } }
    let s := s.setSeq q
    if q.far = 0 then State.seqRun q.ops.length s q else s.seqLock q

/-- The next sequence that waits begins, one at a time. -/
def State.seqNext : Nat → State → State
  | 0, s => s
  | n + 1, s =>
    match s.ferry.seqs with
    | q :: _ => if q.step = 0 ∧ q.restarts = 0 then State.seqNext n (s.seqTry q) else s
    | [] => s

def State.seqPump (s : State) : State := State.seqNext s.ferry.seqs.length s

/-- A REG response for the sequence (R430, R432). A LOCK granted to an attempt already given up is released. -/
def State.seqResponse (s : State) (t : Txn) (r : RegResponse) : State :=
  match s.ferry.seqs with
  | q :: _ =>
    if q.tag = t.tag ∧ (q.step = 1 ∨ q.step = 2) then
      let go := fun (s : State) (q : LockSeq) => State.seqRun (q.ops.length - q.done) s q
      match t.op, r.status with
      | 3, 0 => go s q
      | 3, 2 => s.seqRetry q r.holder
      | 1, 0 =>
        let x := (r.data.headD 0#32).toNat
        if q.merging then
          match q.ops[q.done]? with
          | some o =>
            let m := o.mask.toNat
            match s.seqSend q 2 o.addr 1 [BitVec.ofNat 32 (underMask m x o.value.toNat)] with
            | (some g, s) => s.setSeq { q with step := 2, tag := g, merging := false }
            | (none, s) => s.setSeq { q with step := 5, until_ := s.clk + us 1, merging := false }
          | none => s.seqEnd q 0
        else go s { q with done := q.done + 1, values := q.values ++ [x] }
      | 2, 0 => go s { q with done := q.done + 1, merging := false }
      | _, st => s.seqEnd q st
    else if t.op = 3 ∧ r.status = 0 then (s.seqSend q 4 (ferryAddr t.node t.space 0) 0 []).2
    else s
  | [] => s

/-- The Ferry's own local lock has expired (R432): waiting for LOCK, the attempt ends and counts as a restart; once
operations have been done the sequence fails as R430 has it for the far lock. -/
def State.seqExpired (s : State) : State :=
  match s.ferry.seqs with
  | q :: _ =>
    if q.step = 1 ∨ q.step = 3 ∨ q.done = 0 ∧ q.step ≠ 4 ∧ q.step ≠ 0 then s.seqRestart q
    else if q.step = 2 ∨ q.step = 5 then s.seqEnd q 5
    else s
  | [] => s

/-- A timer of the sequence at the front has passed (R432). -/
def State.lockRetry (s : State) : State :=
  match s.ferry.seqs with
  | q :: _ =>
    if s.clk < q.until_ then s
    else match q.step with
      | 3 => if s.lockHolder = some s.nodeId then s.seqLock q else s.seqTry q
      | 4 => s.seqTry q
      | 5 => State.seqRun (q.ops.length - q.done) s q
      | _ => s
  | [] => s

/-- A LOCKED_SEQ is taken up (R430): refused as a whole, or placed behind those that wait. -/
def State.seqSubmit (s : State) (d : Door) (ops : List SeqOp) : State :=
  let fars := ops.filter fun o => decide (o.op ≤ 2)
  let far := (fars.head?.map (·.addr)).getD 0
  let refuse := fun n => s.respond d 0x12 n []
  let lockable := fun (o : SeqOp) => s.rangeLockable (s.rangeOf (fClass o.addr) (fSpace o.addr) (fOffset o.addr))
  if ops.isEmpty ∨ 16 < ops.length ∨ ops.any (fun o => o.op == 0 || decide (4 < o.op) || fMalformed o.addr) then refuse 6
  else if ops.any (fun o => (decide (o.op ≤ 2)) == (fClass o.addr == 0)) ∨ fars.any (fun o => fNode o.addr != fNode far) then
    refuse 7
  else if far ≠ 0 ∧ (s.fTarget far).1 ≠ 0 then
    let s := if (s.fTarget far).1 = 4 then s.bump Reg.FERRY_ESCORT_TILE else s
    s.respond d 0x12 (s.fTarget far).1 []
  else if fars.any (fun o => !lockable o) then refuse 4
  else if 1024 ≤ s.ferryWaiting ∧ s.ferry.seqs ≠ [] then refuse 12
  else
    let s := fars.foldl (fun s o => s.linesTouched (fNode o.addr) (fSpace o.addr) (fOffset o.addr) 1) s
    let q : LockSeq := { arrived := s.arrived, limit := s.ferryTimeout, door := d, ops := ops, far := far }
    (({ s with ferry := { s.ferry with seqs := s.ferry.seqs ++ [q] } }).ferrySettle).seqPump

/-! ### The device's register port (R242, R244, R270) -/

/-- The device's lock ends 20 µs after its grant (R244); the Ferry's own ends its attempt (R432). -/
def State.lockExpire (s : State) : State :=
  match s.slk.lock with
  | some (h, t) =>
    if s.clk < t + us 20 then s
    else
      let s := s.lockEnded
      (if h = s.nodeId then s.seqExpired else s).seqPump
  | none => s

/-- The RESPONSE to a request of a node (Table 08.11); a posted write is answered only when it fails. -/
def State.regAnswer (s : State) (r : RegRequest) (status holder : Nat) (data : List Nat) : State :=
  if r.posted && status == 0 then s
  else s.regReply r.requester
    { op := 8, flags := r.posted.toNat, tag := r.tag, requester := r.requester, target := s.nodeId, space := r.space
      offset := r.offset, count := r.count, status := status, holder := holder, data := data }

/-- A READ or WRITE of the device's register space (R242, R244), after the writes that an expired lock held up. -/
def State.regPerform (s : State) (r : RegRequest) : State :=
  let s := s.lockExpire
  let held := s.lockHolder
  let n := if r.op = .write then r.data.length else r.count
  if r.count = 0 ∨ 256 < r.count ∨ r.offset % 4 ≠ 0 ∨ n ≠ r.count then s.regAnswer r 6 0 []
  else if r.locked ∧ held ≠ some r.requester then s.regAnswer r 5 0 []
  else if held.any (· != r.requester) then
    if r.op = .write ∧ r.posted then
      { s with slk := { s.slk with
        waitingPosted := s.slk.waitingPosted ++ [⟨s.arrived, s.clk, false, r.requester, r.tag, r.space, r.offset, r.data⟩] } }
    else s.regAnswer r 2 (held.getD 0) []
  else match r.op with
    | .read =>
      if r.space ≠ 0 ∨ 2 ^ 32 ≤ r.offset then s.regAnswer r 4 0 []
      else
        let (vs, ok, s) := s.readRegs (.relay r.requester) r.offset r.count
        s.regAnswer r (if ok then 0 else 4) 0 (if ok then vs else [])
    | .write =>
      let (ok, s) := s.portWrite r.requester r.space r.offset r.data
      s.regAnswer r (if ok then 0 else 4) 0 []

/-- Whether a request is a copy of one acted on within 10 ms; it is entered otherwise (R270). -/
def State.firstCopy (s : State) (requester tag : Nat) : Bool × State :=
  let (dup, l) := seenKey s.twin.dupReg s.clk (requester, tag)
  let s := { s with twin := { s.twin with dupReg := l } }
  (!dup, if dup then s.bump Reg.SLK_DUP else s)

/-- LOCK at the device (R244). -/
def State.lockTake (s : State) (r : RegRequest) : State :=
  let s := s.lockExpire
  match s.lockHolder with
  | some h => if h = r.requester then s.regAnswer r 0 0 [] else s.regAnswer r 2 h []
  | none => ({ s with slk := { s.slk with lock := some (r.requester, s.clk) } }).regAnswer r 0 0 []

/-- UNLOCK at the device (R244): without a lock it is answered OK. -/
def State.lockGive (s : State) (r : RegRequest) : State :=
  let s := s.lockExpire
  let s := if s.lockHolder = some r.requester then s.lockEnded.seqPump else s
  s.regAnswer r 0 0 []

/-- A request for the device arrives on a group: a credit is granted and its route learned (R245, R269), and its first copy
is acted on (R270); one for another node is forwarded by CARAVAN_FORWARD. -/
def State.regArrive (s : State) (g hops : Nat) (r : RegRequest) (f : State → RegRequest → State) : State :=
  let s := s.grant g true
  if r.requester = s.nodeId ∨ r.target ≠ s.nodeId then s
  else
    let s := s.learnRoute g hops r.requester
    match s.firstCopy r.requester r.tag with
    | (false, s) => s
    | (true, s) => f s r

/-- A response completes its transaction (R242, R270, R423): the first to a tag; later ones are discarded. -/
def State.regResponse (s : State) (r : RegResponse) : State :=
  match s.ferry.out.find? fun t => t.tag == r.tag && t.posted == r.posted with
  | none => s
  | some t =>
    let s := { s with ferry := { s.ferry with out := s.ferry.out.filter fun x => x.tag != t.tag } }
    let s := if t.ofSeq then (s.seqResponse t r).seqPump else s.txnDone t r.status r.data
    s.ferryPump

/-- A response arrives on a group: its origin is its TARGET (R265, R269); one for another node is forwarded by
CARAVAN_FORWARD. -/
def State.groupResponse (s : State) (g hops : Nat) (r : RegResponse) : State :=
  let s := s.grant g false
  if r.requester ≠ s.nodeId ∨ r.target = s.nodeId then s else (s.learnRoute g hops r.target).regResponse r

/-- A response arrives on a tile lane: of another epoch than the tile's current one it is dropped and counted (R191); STALE
itself says so and is passed on (log entry 209). -/
def State.tileResponse (s : State) (l : Nat) (r : RegResponse) : State :=
  let s := s.grant (8 + l) false
  match s.entryAt l r.pos with
  | some t => if (s.tileEntry t).epoch = r.epoch ∨ r.status = 1 then s.regResponse r else s.staleTile t
  | none => s

/-! ### A tile's register port (R241, R243, R244) -/

/-- A register of Table 08.10 at an offset of space 0, or a free value where it belongs to the tile maker. -/
def Tile.reg (t : Tile) (o : Nat) : Option Nat :=
  let pair := fun (n : Nat) => if o % 8 = 0 then n % 2 ^ 32 else n / 2 ^ 32
  match o with
  | 0x00 | 0x04 => some (if o = 0 then t.info.desc.ident % 2 ^ 32 else t.info.desc.ident / 2 ^ 32)
  | 0x08 => some (t.epoch % 65536)
  | 0x0C => some (t.pos.getD 0 + 256 * t.chainLen)
  | _ =>
    if o < 0x50 then some (pair (t.counters.getD ((o - 0x10) / 8) 0))
    else if 0x8010 ≤ o ∧ o < 0x8050 then some (pair (t.shadow.getD ((o - 0x8010) / 8) 0))
    else if 0x8000 ≤ o then some 0
    else none

/-- Words read from a tile: those of the tile maker are free (log entry 43). -/
def State.tileRead (s : State) (t : Tile) (space o : Nat) : Nat → List Nat × State
  | 0 => ([], s)
  | n + 1 =>
    let (vs, s) := State.tileRead s t space o n
    match (if space = 0 then t.reg (o + 4 * n) else none) with
    | some v => (vs ++ [v], s)
    | none =>
      let (v, s) := s.draw
      (vs ++ [v % 2 ^ 32], s)

/-- Whether a run of words of space 0 meets an offset at which a tile refuses a WRITE (R241). -/
def tileDenies (space o n : Nat) : Bool :=
  space == 0 && (List.range n).any fun i => decide (o + 4 * i < 0x50 ∨ 0x8000 ≤ o + 4 * i)

/-- The tile's lock, ended 20 µs after its grant. -/
def Tile.holder (t : Tile) (clk : Nat) : Option Nat :=
  match t.lock with
  | some (h, c) => if clk < c + us 20 then some h else none
  | none => none

/-- A tile's RESPONSE, out of the port on which the request came, with TOWARD to match and its own position and epoch (R234,
Table 08.4). -/
def State.tileReply (s : State) (k : Nat) (t : Tile) (p toward : Bool) (f : RegFields) : State :=
  s.regOut (tileKey k p) false "TILE_REG_RESPONSE" (regPacket toward (tailT (t.pos.getD 255) t.epoch) f)

def State.tileAnswer (s : State) (k : Nat) (t : Tile) (p : Bool) (r : RegRequest) (status holder : Nat) (data : List Nat) :
    State :=
  if r.posted && status == 0 then s
  else s.tileReply k t p (!r.toward)
    { op := 8, flags := r.posted.toNat, tag := r.tag, requester := r.requester, space := r.space, offset := r.offset
      count := r.count, status := status, holder := holder, data := data }

/-- A tile's lock has ended: posted writes that waited are performed, those refused answered ACCESS (R241, R244). -/
def State.tileLockEnded (s : State) (k : Nat) (t : Tile) : State :=
  let s := s.setTile k { t with lock := none, waitingPosted := [] }
  t.waitingPosted.foldl (fun s p =>
    if tileDenies p.space p.offset p.data.length then
      s.tileReply k t p.port (p.port == t.aPort)
        { op := 8, flags := 1, tag := p.tag, requester := p.requester, space := p.space, offset := p.offset
          count := p.data.length, status := 4 }
    else s) s

/-- The tile and the state once a lock that has run out is ended. -/
def State.tileLockSettle (s : State) (k : Nat) (t : Tile) : State × Tile :=
  if t.lock.isSome ∧ t.holder s.clk = none then
    (s.tileLockEnded k t, { t with lock := none, waitingPosted := [] })
  else (s.setTile k t, t)

/-- A READ or WRITE at a tile (R241 to R244). -/
def State.tileRegPerform (s : State) (k : Nat) (t : Tile) (p : Bool) (r : RegRequest) : State :=
  let (s, t) := s.tileLockSettle k t
  let n := if r.op = .write then r.data.length else r.count
  let held := t.holder s.clk
  if r.count = 0 ∨ 256 < r.count ∨ r.offset % 4 ≠ 0 ∨ n ≠ r.count then s.tileAnswer k t p r 6 0 []
  else if r.locked ∧ held ≠ some r.requester then s.tileAnswer k t p r 5 0 []
  else if held.any (· != r.requester) then
    if r.op = .write ∧ r.posted then
      s.setTile k { t with waitingPosted := t.waitingPosted ++ [⟨s.arrived, s.clk, p, r.requester, r.tag, r.space, r.offset, r.data⟩] }
    else s.tileAnswer k t p r 2 (held.getD 0) []
  else match r.op with
    | .read =>
      let (vs, s) := s.tileRead t r.space r.offset r.count
      s.tileAnswer k t p r 0 0 vs
    | .write => s.tileAnswer k t p r (if tileDenies r.space r.offset r.count then 4 else 0) 0 []

/-- LOCK at a tile (R244). -/
def State.tileLock (s : State) (k : Nat) (t : Tile) (p : Bool) (r : RegRequest) : State :=
  let (s, t) := s.tileLockSettle k t
  match t.holder s.clk with
  | some h => if h = r.requester then s.tileAnswer k t p r 0 0 [] else s.tileAnswer k t p r 2 h []
  | none => (s.setTile k { t with lock := some (r.requester, s.clk) }).tileAnswer k t p r 0 0 []

/-- UNLOCK at a tile (R244). -/
def State.tileUnlock (s : State) (k : Nat) (t : Tile) (p : Bool) (r : RegRequest) : State :=
  let (s, t) := s.tileLockSettle k t
  (if t.holder s.clk = some r.requester then s.tileLockEnded k t else s).tileAnswer k t p r 0 0 []

/-- A REG request at a tile (R234, R243, R245): a credit is granted on its port, the packet passed on, and, at the tile's own
position, acted on; of another epoch it is STALE, and counted. -/
def State.tileRegArrive (s : State) (k : Nat) (t : Tile) (p : Bool) (op : Nat) (r : RegRequest)
    (f : State → Nat → Tile → Bool → RegRequest → State) : State :=
  let bs := regPacket r.toward (tailT r.pos r.epoch)
    { op := op, flags := r.posted.toNat + 2 * r.locked.toNat, tag := r.tag, requester := r.requester, target := r.target
      space := r.space, offset := r.offset, count := r.count, data := r.data.map (·.toNat) }
  let s := (s.grant (tileKey k p) true).passReg k t p true bs
  let t := t.hear p s.clk
  if t.pos ≠ some r.pos then s.setTile k t
  else if r.epoch ≠ t.epoch then (s.setTile k (t.count 3)).tileAnswer k t p r 1 0 []
  else f (s.setTile k t) k t p r

end Sys2Proof.Machine
end

