-- ==== Sys2Proof/Machine/Pier.lean ====
section
/-!
DEFINITION. Commands of the Pier (14_qmp_pier_ferry.md R410 to R420). While PIER_CFG.ENABLE is clear, and in service mode,
the Pier serves none (log entry 47).
-/
namespace Sys2Proof.Machine

/-- A Pier command, served while the Pier is enabled. -/
def pierAct (dt : Nat) (s : State) (f : State → State) : Host.Outcome State Fault Refusal :=
  act dt s fun s => if bit (s.rn Reg.PIER_CFG) 0 && !s.serviceMode then f s else s

/-- A READ (R411): a misaligned ADDR, or a COUNT outside 1 to 64, returns zeros with RESULT 6 and performs no access; one
ended before 0xA5 has no effect. -/
def execPierRead (dt : Nat) (addr count : Nat) (ended : Bool) (s : State) : Host.Outcome State Fault Refusal :=
  pierAct dt s fun s =>
    if ended then s
    else if addr % 4 ≠ 0 ∨ count = 0 ∨ 64 < count then s.emit (.answer .pier 6 (List.replicate (min count 64) 0))
    else s.localSubmit { door := .regs .pier, type := 0, op := 1, node := 0, dest := 0, space := 0, offset := addr,
                         count := count }

/-- A WRITE (R411). -/
def execPierWrite (dt : Nat) (addr : Nat) (data : List Word) (s : State) : Host.Outcome State Fault Refusal :=
  pierAct dt s fun s =>
    if addr % 4 ≠ 0 ∨ data.isEmpty ∨ 64 < data.length then { s with pier := { s.pier with lastResult := 6 } }
    else s.localSubmit { door := .regs .pier, type := 0, op := 2, node := 0, dest := 0, space := 0, offset := addr,
                         count := data.length, data := data }

/-! ### Queues -/

/-- The six bytes of a queue word (Table 14.8) as a number. -/
def wireWord (w : OutWord) (ecc data : Nat) : Nat :=
  (128 + 64 * w.sop.toNat + 32 * w.eop.toNat + 8 * ecc) * 2 ^ 40 + data * 256 + secded data

/-- A word read out, its storage in error in 0, 1 or 2 bits (R413): two leave its data free. -/
def State.readWord (s : State) (w : OutWord) (errors : Nat) : Nat × State :=
  match errors with
  | 0 => (wireWord w 0 w.data, s)
  | 1 => (wireWord w 1 w.data, s.bump Reg.PIER_ECC_CORR)
  | _ =>
    let (n, s) := s.draw
    (wireWord w 2 (n % 2 ^ 32), s.bump Reg.PIER_ECC_UNCORR)

/-- Words read out in order, with the errors of each. -/
def State.readWords : State → List OutWord → List Nat → List Nat × State
  | s, [], _ => ([], s)
  | s, w :: ws, es =>
    let (x, s) := s.readWord w (es.headD 0)
    let (xs, s) := State.readWords s ws es.tail
    (x :: xs, s)

/-- A QREAD (R415): words wholly clocked out leave the queue; one word with VALID clear follows when it runs empty, and zeros after it. -/
def State.qread (s : State) (q words clocked : Nat) (errors : List Nat) : State :=
  let x := s.outQ q
  let n := min (min words clocked) x.words.length
  let (out, s) := s.readWords (x.words.take n) errors
  let s := s.emit (.answer .pier 0 (out ++ List.replicate (min words clocked - n) 0))
  let reading := match (x.words.take n).getLast? with
    | some w => !w.eop
    | none => x.reading
  let timer := if n = 0 then x.timer else some s.clk
  (s.setOutQ q { x with words := x.words.drop n, reading := reading, timer := timer }).fillOutQ q

def execPierQread (dt : Nat) (queue : Fin 8) (words clocked : Nat) (errors : List Nat) (s : State) :
    Host.Outcome State Fault Refusal :=
  pierAct dt s fun s => if words = 0 ∨ 255 < words then s else s.qread queue words clocked errors

def State.inQ (s : State) (q : Nat) : InQ := tabGetD s.pier.inq q {}
def State.setInQ (s : State) (q : Nat) (x : InQ) : State := { s with pier := { s.pier with inq := tabSet s.pier.inq q x } }

/-- A whole inbound packet is acted on (R418): a QMP message goes to the command of its type (log entry 14), a frame to
transmit queue 1 or 0 of its MAC. -/
def State.inboundPacket (s : State) (q ptype : Nat) (bs : List Byte) : State :=
  if q < 2 then if ptype = 3 then s.qmpPierArrive q bs else s
  else if ptype = 2 ∧ oct bs 0 1 < 5 ∧ 4 ≤ bs.length then
    s.ethSend (oct bs 0 1) (if q = 2 then 1 else 0) "FRAME" (bs.drop 4)
  else s

/-- One word of an inbound queue: corrected, put into the packet buffer at once, and the packet acted on at its EOP (R413,
R418). A packet with a word that is not correctable, or whose LENGTH exceeds 9,216, is discarded. -/
def State.inWord (s : State) (q : Nat) (w : QWord) : State :=
  if !w.valid then s
  else
    let (d, code) := secdedFix w.data.toNat w.check
    let s := if code = 1 then s.bump Reg.PIER_ECC_CORR
      else if code = 2 then (s.bump Reg.PIER_ECC_UNCORR).setFld Reg.PIER_IRQ_STAT 20 20 1 else s
    let x := s.inQ q
    let x : InQ := if w.sop then
        { open_ := true, bad := code == 2 || decide (9216 < bits d 15 0), ptype := bits d 31 24, length := bits d 15 0 }
      else { x with bad := x.bad || code == 2, bytes := if x.bad then x.bytes else x.bytes ++ beBytes 4 d }
    let s := if w.sop && code != 2 && decide (9216 < bits d 15 0) then
        (s.bump Reg.PIER_IQ_OVERRUN).setFld Reg.PIER_IRQ_STAT 21 21 1 else s
    if !x.open_ then s
    else if !w.eop then s.setInQ q x
    else
      let s := s.setInQ q {}
      if x.bad ∨ x.bytes.length < x.length then s else s.inboundPacket q x.ptype (x.bytes.take x.length)

def execPierQwrite (dt : Nat) (queue : Fin 4) (words : List QWord) (s : State) : Host.Outcome State Fault Refusal :=
  pierAct dt s fun s => words.foldl (fun s w => s.inWord queue w) s

/-- The words of a partly read packet: those up to its EOP. -/
def dropPacket : List OutWord → List OutWord
  | [] => []
  | w :: ws => if w.eop then ws else dropPacket ws

/-- A DROP (R416); it also discards the words of a long packet not yet placed (R414). -/
def execPierDrop (dt : Nat) (queue : Fin 8) (s : State) : Host.Outcome State Fault Refusal :=
  pierAct dt s fun s =>
    let x := s.outQ queue
    if x.reading then
      ((s.bump Reg.PIER_OQ_DROP).setOutQ queue { x with words := dropPacket x.words, feed := [], reading := false }).fillOutQ queue
    else s

/-- A STATUS (R410). -/
def execPierStatus (dt : Nat) (s : State) : Host.Outcome State Fault Refusal :=
  pierAct dt s fun s => s.emit (.answer .pier s.pier.lastResult
    (s.rn Reg.PIER_IRQ_STAT :: ((List.range 8).map fun q => (s.outQ q).words.length)
      ++ (List.range 4).map fun i => s.rn (Reg.PIER_IQ_STAT i)))

/-- A command of no meaning is counted (R410). -/
def execPierBadCommand (dt : Nat) (code : Nat) (s : State) : Host.Outcome State Fault Refusal :=
  pierAct dt s fun s => if 1 ≤ code % 128 ∧ code % 128 ≤ 6 then s else s.bump Reg.PIER_BAD_CMD

/-- A queue's stale timer expires (R417). -/
def execPierStaleTimer (dt : Nat) (queue : Fin 8) (s : State) : Host.Outcome State Fault Refusal :=
  pierAct dt s fun s =>
    let q := queue.val
    let x := s.outQ q
    match x.timer with
    | some c =>
      if bit (s.rn (Reg.PIER_OQ_CFG q)) 24 ∧ s.elapsed c (s.oqStale q) then
        ((s.bump Reg.PIER_STALE).setFld Reg.PIER_IRQ_STAT (8 + q) (8 + q) 1).setOutQ q { x with timer := some s.clk }
      else s
    | none => s

end Sys2Proof.Machine
end

