-- ==== Sys2Proof/Machine/Pipeline.lean ====
section
/-!
DEFINITION. Commands of the frame pipeline, the compositor and the Harbourmaster (01_architecture.md, 04_composition.md).
-/
namespace Sys2Proof.Machine

/-- The selection point of tally n (R24, R25). -/
def execSelectionPoint (dt : Nat) (tally : Nat) (s : State) : Host.Outcome State Fault Refusal :=
  act dt s fun s => s.selectionPoint tally

/-- Composition of tally n starts (R24, R25). -/
def execCompositionStart (dt : Nat) (tally : Nat) (s : State) : Host.Outcome State Fault Refusal :=
  act dt s fun s => s.compStart tally

/-- Composition finishes and the canvas is whole (R122). -/
def execCompositionComplete (dt : Nat) (s : State) : Host.Outcome State Fault Refusal :=
  act dt s State.compFinish

/-- The buffers swap at Tp(n) − T (R24, R134). -/
def execBufferSwap (dt : Nat) (tally : Nat) (s : State) : Host.Outcome State Fault Refusal :=
  act dt s fun s => s.bufferSwap tally

/-- The raster of tally n starts (R172). -/
def execRasterStart (dt : Nat) (tally : Nat) (s : State) : Host.Outcome State Fault Refusal :=
  act dt s fun s => s.rasterStart tally

/-- The raster reaches a line that composition has not finished (R135). -/
def execCompositionAbort (dt : Nat) (line : Nat) (s : State) : Host.Outcome State Fault Refusal :=
  act dt s fun s => s.compAbort line

/-- The raster ends (R24, R132). -/
def execRasterEnd (dt : Nat) (s : State) : Host.Outcome State Fault Refusal :=
  act dt s State.rasterEnd

/-- The latch edge of tally k (R124 to R129). -/
def execLatchEdge (dt : Nat) (tally : Nat) (s : State) : Host.Outcome State Fault Refusal :=
  act dt s fun s => s.latchEdge tally

/-- Tp(n) (R42). -/
def execPresentationInstant (dt : Nat) (tally : Nat) (s : State) : Host.Outcome State Fault Refusal :=
  act dt s fun s => s.present tally

/-- The Harbourmaster dispatches the next item of a flow: a cue of a list, or a frame of a MAC's firmware queues (R31 to
R34, R302, R389). -/
def execItemDispatch (dt : Nat) (flow : Flow) (s : State) : Host.Outcome State Fault Refusal :=
  act dt s fun s => match flow with
    | .cues b => s.dispatchCue b
    | .receive m => s.serveReceive m

/-- A write of COMP_LAYER_COMMIT (R137). -/
def execLayerCommit (dt : Nat) (req : Requester) (slot : Fin 64) (s : State) : Host.Outcome State Fault Refusal :=
  actBy dt req s fun s => s.layerGo req slot

/-- The fill of a slot's new mask buffers completes (R117). -/
def execMaskFillComplete (dt : Nat) (slot : Fin 64) (s : State) : Host.Outcome State Fault Refusal :=
  act dt s fun s => s.maskFilled slot

/-- A write of MASK_SEL (R116). -/
def execMaskSelWrite (dt : Nat) (req : Requester) (slot : Fin 64) (sel : Bool) (s : State) :
    Host.Outcome State Fault Refusal :=
  actBy dt req s fun s => s.maskSelWrite req slot sel

/-- GO of COMP_COEF_COMMIT (R111). -/
def execCoefCommit (dt : Nat) (req : Requester) (s : State) : Host.Outcome State Fault Refusal :=
  actBy dt req s fun s => s.coefCommit

end Sys2Proof.Machine
end

