-- ==== Sys2Proof/Machine/Power.lean ====
section
/-!
DEFINITION. Commands of the power domains, the watchkeeper, the keeper and self-calibration (16_power_watch.md; R536).
-/
namespace Sys2Proof.Machine

/-- VKEEP rises into range (R458): the keeper starts, clears a logbook whose CHECK fails (R481) and drives KWAKE high. -/
def execVkeepStart (dt : Nat) (s : State) : Host.Outcome State Fault Refusal :=
  actAlways dt s fun s =>
    if s.watch.keeper then s
    else
      let s := if s.watch.lost then
          let s := s.keepWrite 0 (List.replicate 63 0)
          let s := (s.wn Reg.KEEP_ALARM 0).wn (Reg.KEEP_ALARM + 4) 0
          (s.rtcSet 0 0).wn Reg.KEEP_STAT 3
        else s.rtcSet s.watch.rtcBase s.watch.rtcTrim
      ({ s with watch := { s.watch with
        keeper := true, kwake := true, shelf := false, started := s.watch.lost, lost := false } }).emit (.pin "KWAKE" 0 true)

/-- The always-on rails have held for 1 ms (R458): the watchkeeper starts and wakes the device into Run, outside
Shelf with KWAKE high (R467). -/
def execAonStart (dt : Nat) (s : State) : Host.Outcome State Fault Refusal :=
  actAlways dt s fun s =>
    if s.watch.aon ∨ !s.watch.keeper then s
    else
      let cause := if s.watch.started then 1 else if s.watch.shelf then 8 else 2
      let s := if s.watch.kwake then s else s.emit (.pin "KWAKE" 0 true)
      let s := { s with watch := { s.watch with aon := true, started := false, shelf := false, kwake := true } }
      s.wake cause 4 0

/-- Whether this is the first power-good since PWR_EN rose. -/
def State.rising (s : State) : Bool := decide (s.watch.goodAt < s.watch.pwrAt)

/-- Power-good held 1 ms, within 50 ms of the rise of PWR_EN, or after a brownout reset (R460, R471). -/
def execPowerGood (dt : Nat) (bootsel : Fin 4) (testMode : Bool) (s : State) : Host.Outcome State Fault Refusal :=
  actAlways dt s fun s =>
    if !s.watch.pwrEn ∨ s.watch.good ∨ !s.elapsed (max s.watch.pwrAt s.watch.goodAt) (ms 1)
        ∨ (s.rising ∧ s.watch.pwrAt + ms 50 < s.clk) then s
    else ({ s with watch := { s.watch with bootsel := bootsel, testMode := testMode } }).powerGood

/-- Power-good not reached within 50 ms of the rise of PWR_EN (R460): recorded, and tried again after 1 s unless 3 attempts have failed. -/
def execPowerGoodTimeout (dt : Nat) (s : State) : Host.Outcome State Fault Refusal :=
  actAlways dt s fun s =>
    if s.watch.pwrEn && !s.watch.good && s.rising && s.elapsed s.watch.pwrAt (ms 50) then
      let s := s.setPwrEn false
      let n := min 255 (s.fld (Reg.KEEP_LOG 1) 31 24 + 1)
      let s := (s.setFld (Reg.KEEP_LOG 1) 31 24 n).setCause 10 0 0
      let k := s.watch.attempts + 1
      ({ s with watch := { s.watch with
        attempts := k, retryAt := (if k < 3 then some (s.clk + sec 1) else none), alertPg := decide (3 ≤ k) } }).watchSettle
    else s

def execPowerRetry (dt : Nat) (s : State) : Host.Outcome State Fault Refusal :=
  actAlways dt s fun s =>
    match s.watch.retryAt with
    | some t => if t ≤ s.clk then s.setPwrEn true else s
    | none => s

/-- RESET_N low for 1 µs (R462): the compute die is held in reset, with cause 3. -/
def execResetNAssert (dt : Nat) (s : State) : Host.Outcome State Fault Refusal :=
  actAlways dt s fun s =>
    let s := { s with watch := { s.watch with resetN := false } }
    if s.watch.core then (s.setCause 3 0 0).dieReset else s

/-- RESET_N rises (R462): the compute die leaves reset, or the device wakes from Watch. -/
def execResetNRelease (dt : Nat) (bootsel : Fin 4) (testMode : Bool) (s : State) : Host.Outcome State Fault Refusal :=
  actAlways dt s fun s =>
    if s.watch.resetN then s
    else
      let s := { s with watch := { s.watch with resetN := true, bootsel := bootsel, testMode := testMode } }
      if s.inWatch then s.wake 7 3 0 else s.tryLeaveReset

def execQuietEnter (dt : Nat) (req : Requester) (s : State) : Host.Outcome State Fault Refusal :=
  actBy dt req s fun s => s.quietCmd req true

def execQuietLeave (dt : Nat) (req : Requester) (s : State) : Host.Outcome State Fault Refusal :=
  actBy dt req s fun s => s.quietCmd req false

def execWatchEnter (dt : Nat) (_req : Requester) (s : State) : Host.Outcome State Fault Refusal :=
  act dt s State.watchEnter

def execShelfEnter (dt : Nat) (_req : Requester) (s : State) : Host.Outcome State Fault Refusal :=
  act dt s State.shelfEnter

/-- The RTC reaches the armed alarm (R467, R482): cleared in Run and Quiet, a wake from Watch, KWAKE high in Shelf. -/
def execRtcAlarm (dt : Nat) (s : State) : Host.Outcome State Fault Refusal :=
  actAlways dt s fun s =>
    if s.watch.keeper && s.alarmArmed && decide (s.alarmSec ≤ s.rtcSec) then
      let s := s.armAlarm 0
      if s.inWatch then (s.bump Reg.WATCH_WAKES).wake 7 2 0
      else if s.watch.shelf then ({ s with watch := { s.watch with kwake := true } }).emit (.pin "KWAKE" 0 true)
      else s
    else s

def execAlarmArm (dt : Nat) (req : Requester) (value : Word) (s : State) : Host.Outcome State Fault Refusal :=
  act dt s fun s => s.alarmWrite req value.toNat

/-- VDD_CORE lies below a threshold of R468, in mV, accurate to ±5 mV. -/
def below (mv threshold : Nat) : Bool := decide (mv < threshold + 5)

/-- The brownout warning asserts (R468 to R470): NVM writes are suspended and lamps held. -/
def execBrownoutWarning (dt mv : Nat) (s : State) : Host.Outcome State Fault Refusal :=
  act dt s fun s =>
    if s.watch.warnAt.isSome || !below mv 720 then s
    else
      let s := { s with watch := { s.watch with warnAt := some s.clk } }
      let s := ((s.setFld Reg.PWR_STAT 1 1 1).bump Reg.PWR_BROWN_COUNT).wn Reg.PWR_BROWN_MIN (min 4095 mv)
      (s.setHold s.lamp.linkHold true).raiseOnce 256 0 mv

/-- The warning's duration so far, from its assertion to a clock, in whole µs rounded up (R470). -/
def State.warnUs (s : State) (c : Nat) : Nat :=
  match s.watch.warnAt with
  | some a => min (2 ^ 24 - 1) (ceilDiv (c - a) 800)
  | none => 0

/-- The warning ends after 1 ms above 0.7275 V (R468 to R470); `mv` is the lowest VDD_CORE in it. -/
def execBrownoutEnd (dt mv : Nat) (s : State) : Host.Outcome State Fault Refusal :=
  act dt s fun s =>
    match s.watch.warnAt with
    | none => s
    | some a =>
      if s.elapsed a (ms 1) && below mv 720 then
        let s := (s.wn Reg.PWR_BROWN_LAST (s.warnUs (s.clk - ms 1))).wn Reg.PWR_BROWN_MIN (min 4095 mv)
        let s := ({ s with watch := { s.watch with warnAt := none } }).setFld Reg.PWR_STAT 1 1 0
        (((s.setHold s.lamp.linkHold false).condClear 256 0).nvmResume).tftpResume
      else s

/-- VDD_CORE below 0.690 V for 200 ns (R471): the compute die is reset with cause 4 and leaves reset at power-good. -/
def execBrownoutReset (dt mv : Nat) (s : State) : Host.Outcome State Fault Refusal :=
  act dt s fun s => if !below mv 690 then s else
    let s := (s.keepWrite 4 [s.warnUs s.clk, min 65535 mv]).setCause 4 0 0
    let s := s.coreFalls
    { s with watch := { s.watch with good := false, goodAt := s.clk, rails := putBits s.watch.rails 0 0 0 } }

/-- Another main rail falls below 93 % for 10 µs, or has stayed above it for 1 ms (R472, Table 16.10): rails 0 to 4 are
those of detector 257, rail 5 is VDD_LAMP. -/
def execRailUndervoltage (dt : Nat) (rail : Fin 6) (under : Bool) (s : State) : Host.Outcome State Fault Refusal :=
  act dt s fun s =>
    let s := { s with watch := { s.watch with rails := putBits s.watch.rails (rail + 1) (rail + 1) (!under).toNat } }
    if rail = 5 then if under then s.raiseOnce 258 0 else s.condClear 258 0
    else if under then s.raiseOnce 257 rail else s.condClear 257 rail

/-- VDD_LAMP has stayed above 4.4 V for 100 µs, or falls below 4.2 V (R536). -/
def State.supply (s : State) (ok : Bool) : State :=
  if s.lampDie then ({ s with lamp := { s.lamp with supplyOk := ok } }).lampSettle else s

def execLampSupplyRelease (dt : Nat) (s : State) : Host.Outcome State Fault Refusal := act dt s fun s => s.supply true
def execLampSupplyLow (dt : Nat) (s : State) : Host.Outcome State Fault Refusal := act dt s fun s => s.supply false

/-- A sample of a value; `sensors` are the codes of the other thermal sensors when the die temperature is sampled. -/
def execWatchSample (dt : Nat) (v : Fin 19) (code : Nat) (sensors : List Nat) (valid : Bool) (s : State) :
    Host.Outcome State Fault Refusal :=
  actAlways dt s fun s => s.watchSample v (dieCode v code sensors) valid

def execI2cScript (dt : Nat) (slot : Fin 4) (bytes : Option (List Byte)) (s : State) : Host.Outcome State Fault Refusal :=
  actAlways dt s fun s => s.i2cRun slot bytes

/-- Both ADCs convert REFIN ÷ 2, for which 2,844 is expected (R479): a check fails when the main ADC is off by more than 8,
and three in succession with the reserve in order reach the wear threshold of kind 5. -/
def execWatchAdcCheck (dt main reserve : Nat) (s : State) : Host.Outcome State Fault Refusal :=
  act dt s fun s =>
    if s.watch.adcAt.any fun c => !s.elapsed c (sec 1) then s
    else
      let bad := decide (8 < absDiff main 2844)
      let n := if bad ∧ absDiff reserve 2844 ≤ 8 then s.watch.adcBad + 1 else 0
      let s := { s with watch := { s.watch with adcAt := some s.clk, adcBad := (if 3 ≤ n then 0 else n) } }
      let s := if bad then s.raise 268 0 main else s
      if 3 ≤ n then s.worn 5 0 else s

/-- At each whole ledger second while LOCKED, the keeper takes SECONDS and zeroes its tick count (R480). -/
def execRtcSync (dt : Nat) (s : State) : Host.Outcome State Fault Refusal :=
  act dt s fun s =>
    let t := s.ns / 10 ^ 9
    if s.time.servo != .locked || !s.watch.keeper || s.watch.syncSec == some t || decide (2 ≤ s.ns % 10 ^ 9) then s
    else
      let s := s.rtcSet (t * 32768 * rtcTick) s.watch.rtcTrim
      ({ s with watch := { s.watch with syncSec := some t } }).setFld Reg.KEEP_STAT 2 2 1

/-- At the end of a 60 s window, the correction takes the drift measured, in 0.1 ppm, within ±200 ppm (R480). -/
def execRtcDriftWindow (dt : Nat) (drift : Int) (s : State) : Host.Outcome State Fault Refusal :=
  act dt s fun s =>
    if s.time.servo != .locked || !s.watch.keeper || !s.elapsed s.watch.driftAt (sec 60) then s
    else
      let s := s.rtcSet s.rtcUnits (clampI (-2000) 2000 (s.watch.rtcTrim - drift))
      { s with watch := { s.watch with driftAt := s.clk } }

def execLogbookWrite (dt : Nat) (_req : Requester) (word : Fin 64) (value : Word) (s : State) :
    Host.Outcome State Fault Refusal :=
  act dt s fun s => s.logWrite word value.toNat

def execTrimAdjust (dt : Nat) (id : Fin 130) (up : Option Bool) (s : State) : Host.Outcome State Fault Refusal :=
  act dt s fun s => s.trimAdjust id up

/-- Each second REFIN and RREF are checked (R485). -/
def execReferenceCheck (dt refin rref : Nat) (s : State) : Host.Outcome State Fault Refusal :=
  act dt s fun s =>
    if s.watch.refAt.any fun c => !s.elapsed c (sec 1) then s
    else ({ s with watch := { s.watch with refAt := some s.clk } }).refCheck refin rref

def execTrimSave (dt : Nat) (whole : Bool) (s : State) : Host.Outcome State Fault Refusal :=
  act dt s fun s => s.trimSave whole

/-- VKEEP falls below 1.5 V (R481): the keeper stops, and its RTC and logbook are lost. -/
def execVkeepLoss (dt : Nat) (s : State) : Host.Outcome State Fault Refusal :=
  actAlways dt s fun s =>
    if s.watch.keeper then
      let s := s.setFld Reg.KEEP_STAT 2 0 0
      { s with watch := { s.watch with keeper := false, kwake := false, lost := true }, flt := { s.flt with first := (if s.watch.core then s.flt.first else none) } }
    else s

/-- VDD_AON or VDDA_AON leaves its range (R458): the watchkeeper stops and loses its configuration. -/
def execAlwaysOnRailLoss (dt : Nat) (s : State) : Host.Outcome State Fault Refusal :=
  actAlways dt s fun s => if s.watch.aon then s.aonOff else s

end Sys2Proof.Machine
end

