-- ==== Sys2Proof/Machine/QmpAct.lean ====
section
/-!
DEFINITION. What QMP requests do beside those of berths and cues: sessions, reads, writes, events and relaying
(14_qmp_pier_ferry.md R401 to R409, R421 to R429).
-/
namespace Sys2Proof.Machine

/-! ### Sessions (R405, R406) -/

/-- A session ID not 0 and not in use, the first from a free start (log entry 44). -/
def State.newSession (s : State) : Nat × State :=
  let (n, s) := s.draw
  let used := s.ferry.sessions.map (·.id)
  let ids := (List.range 17).map fun i => (n + i) % (2 ^ 32 - 1) + 1
  ((ids.find? fun i => !used.contains i).getD 1, s)

/-- n free octets, a nonce. -/
def State.freeBytes : Nat → State → List Byte × State
  | 0, s => ([], s)
  | n + 1, s =>
    let (x, s) := s.draw
    let (bs, s) := State.freeBytes n s
    (BitVec.ofNat 8 x :: bs, s)

/-- The session idle longest. -/
def idlest : List Session → Option Session
  | [] => none
  | x :: xs => match idlest xs with
    | some y => if y.last < x.last then some y else some x
    | none => some x

def State.endSession (s : State) (id : Nat) : State := s.setSessions (s.ferry.sessions.filter fun x => x.id != id)

/-- The key of a session (R406): HMAC-SHA-256 under the venue key over both nonces and SESSION. -/
def State.sessionKey (s : State) (nonceC nonceD : List Byte) (id : Nat) : List Byte :=
  match s.venueKey with
  | some k => hmac256 k (nonceC ++ nonceD ++ beBytes 4 id)
  | none => []

/-- An OPEN (R405): a session beyond 16 ends the one idle longest; NONCE_D is free. Its tag and its response's are under the
venue key (R406). -/
def State.qmpOpen (s : State) (env : QmpEnv) (nonceC : List Byte) : State :=
  let m := s.mac env.mac
  let s := s.setMac env.mac { m with qmpIn := m.qmpIn - 1 }
  if s.serviceMode ∨ !s.meant env then s
  else if s.authFails s.venueKey env 1 nonceC then s.authAnswer env 1
  else
    let s := s.bump Reg.FERRY_QMP_RX
    let s := if s.ferry.sessions.length < 16 then s else
      match idlest s.ferry.sessions with
      | some x => s.endSession x.id
      | none => s
    let (id, s) := s.newSession
    let (nonce, s) := State.freeBytes 16 s
    let x : Session := { id := id, mac := env.mac, sender := env.sender, auth := env.tag.isSome, last := s.clk
                         key := s.sessionKey nonceC nonce id }
    let s := s.setSessions (s.ferry.sessions ++ [x])
    let body := nonce ++ beBytes 4 s.nodeId ++ beBytes 4 (s.rn Reg.SYS_BOOT_COUNT) ++ beBytes 1 s.role
    let r := qmpBytes (1 + 2 * env.tag.isSome.toNat) 1 id env.seq s.nodeId 0 0 body
    s.qmpSend env.mac env.sender (r ++ if env.tag.isSome then hmac256 (s.venueKey.getD []) r else [])

/-- A CLOSE: answered, and the session ends. -/
def State.qmpClose (s : State) (env : QmpEnv) : State :=
  s.request (.qmp env) 2 [] fun s => (s.respond (.qmp env) 2 0 []).endSession env.session

/-! ### Reads and writes (R403, R421 to R429) -/

/-- A SNAP_ID checked against the target (R403) where it is known here: STALE when it is not that of the device's shadow set,
or of the tile's latest status. That of another node is read from it first (log entry 45). -/
def State.snapStale (s : State) (addr snapId : Nat) : Bool :=
  match fClass addr with
  | 0 => s.fld Reg.TIME_SNAP_STAT 15 0 != snapId
  | 2 => !((s.tileEntry (fNode addr - 0x8000)).status.any fun t => t.snapId == snapId)
  | _ => false

/-- Whether every word of a read lies at a snapshot shadow (R75, R403, Table 08.10). -/
def shadowRun (addr count : Nat) : Bool :=
  (List.range count).all fun i =>
    let o := fOffset addr + 4 * i
    if fClass addr = 2 then fSpace addr == 0 && decide (0x8010 ≤ o ∧ o < 0x8050) else (shadowBase o).isSome

/-- A read of another node or of a tile (R427, R429): served from the buffer when every word is there, else sent; in a
prefetchable range it is widened to whole lines and the next, as far as one READ can hold. A read of another node's shadows
asks first for its TIME_SNAP_STAT. -/
def State.farRead (s : State) (d : Door) (addr dest count snapId : Nat) : State :=
  let node := fNode addr
  let space := fSpace addr
  let o := fOffset addr
  let cls := fClass addr
  let range := s.rangeOf cls space o
  let req := doorReq d
  if snapId ≠ 0 ∧ cls = 1 then
    s.ferrySubmit { door := d, type := 0x10, op := 1, node := node, dest := dest, space := space, offset := o,
                    count := count, snap := snapId }
  else if s.rangePrefetch range cls dest then
    let got := (List.range count).filterMap fun i => s.bufferedWord req node space (o + 4 * i)
    if got.length = count then
      (s.markTaken req node space o count).respond d 0x10 0 (got.flatMap fun w => beBytes 4 w.toNat)
    else
      let base := o / 64 * 64
      let lines := (o + 4 * count + 63) / 64 - o / 64
      let n := if 16 * (lines + 1) ≤ 256 then lines + 1 else lines
      if 16 * n ≤ 256 then
        s.ferrySubmit { door := d, type := 0x10, op := 1, node := node, dest := dest, space := space, offset := base,
                        count := 16 * n, skip := (o - base) / 4, want := count, range := range }
      else s.ferrySubmit { door := d, type := 0x10, op := 1, node := node, dest := dest, space := space, offset := o,
                           count := count }
  else s.ferrySubmit { door := d, type := 0x10, op := 1, node := node, dest := dest, space := space, offset := o,
                       count := count }

/-- A transaction refused before it is sent; one of the tile class at an Escort is counted (R425). -/
def State.farRefuse (s : State) (d : Door) (type status : Nat) : State :=
  (if status = 4 then s.bump Reg.FERRY_ESCORT_TILE else s).respond d type status []

/-- A READ (R403). -/
def State.qmpRead (s : State) (d : Door) (addr count snapId : Nat) : State :=
  if count = 0 ∨ 256 < count ∨ fMalformed addr then s.respond d 0x10 6 []
  else if snapId ≠ 0 ∧ shadowRun addr count = false then s.respond d 0x10 7 []
  else
    let stale := snapId != 0 && s.snapStale addr snapId
    if fClass addr = 0 then
      if stale then s.respond d 0x10 1 []
      else s.localSubmit { door := d, type := 0x10, op := 1, node := 0, dest := 0, space := 0, offset := fOffset addr,
                           count := count }
    else
      let (st, dest) := s.fTarget addr
      if st ≠ 0 then s.farRefuse d 0x10 st else if stale then s.respond d 0x10 1 [] else s.farRead d addr dest count snapId

/-- Members of a TILE_GROUP (R404: bit t is bit t mod 8 of byte t div 8). -/
def State.groupMembers (s : State) (h : Nat) : List Nat :=
  let m := (s.berth (hIndex h)).params
  (List.range 2048).filter fun t => bit (m.getD (t / 8) 0) (t % 8)

/-- A WRITE to a TILE_GROUP (R426): a posted write to every present member; the answer counts those sent and those with no
path. -/
def State.groupWrite (s : State) (d : Door) (addr group : Nat) (data : List Word) : State :=
  if fNode addr ≠ 0x8000 ∨ malformed group then s.respond d 0x11 6 []
  else if hKind group ≠ 8 then s.respond d 0x11 7 []
  else if s.live group = false then (s.staleDelivery group (doorPort d)).respond d 0x11 1 []
  else if s.role = 2 then s.farRefuse d 0x11 4
  else
    let ts := (s.groupMembers group).filter fun t => (s.tileEntry t).present
    let tx := fun (t : Nat) => ({ door := .regs (doorReq d), type := 0x11, op := 2, node := 0x8000 + t, dest := t,
                                  space := fSpace addr, offset := fOffset addr, count := data.length, data := data,
                                  posted := true } : Txn)
    let ok := ts.filter fun t => !(s.txnLinks (tx t)).isEmpty
    let s := ok.foldl (fun s t => s.ferrySubmit (tx t)) s
    s.respond d 0x11 0 (beBytes 2 ok.length ++ beBytes 2 (ts.length - ok.length))

/-- A WRITE (R422, R424, R426). -/
def State.qmpWrite (s : State) (d : Door) (addr group : Nat) (data : List Word) : State :=
  if data.isEmpty ∨ 256 < data.length ∨ fMalformed addr then s.respond d 0x11 6 []
  else if group ≠ 0 then s.groupWrite d addr group data
  else if fClass addr = 0 then
    s.localSubmit { door := d, type := 0x11, op := 2, node := 0, dest := 0, space := 0, offset := fOffset addr,
                    count := data.length, data := data }
  else
    let (st, dest) := s.fTarget addr
    if st ≠ 0 then s.farRefuse d 0x11 st
    else
      let posted := s.rangePosted (s.rangeOf (fClass addr) (fSpace addr) (fOffset addr)) (fClass addr)
      s.ferrySubmit { door := d, type := 0x11, op := 2, node := fNode addr, dest := dest, space := fSpace addr,
                      offset := fOffset addr, count := data.length, data := data, posted := posted, answer := posted }

/-! ### Time-outs (R408, R423, R429) -/

/-- A transaction, or a relayed request, has waited FERRY_TIMEOUT, as it stood at its arrival, for its response; an arm sent to every node has waited its
5 ms (Table 14.3). -/
def State.timeout (s : State) (tag : Nat) : State :=
  match s.ferry.out.find? fun t => t.tag == tag && !t.posted && s.elapsed t.sentAt t.limit with
  | some t =>
    let s := { s with ferry := { s.ferry with out := s.ferry.out.filter fun x => x.tag != tag } }
    let s := s.bump Reg.FERRY_TIMEOUTS
    let s := if t.ofSeq then
        match s.ferry.seqs with
        | q :: _ => if q.tag = tag ∧ (q.step = 1 ∨ q.step = 2) then (s.seqEnd q 13).seqPump else s
        | [] => s
      else s.respond t.door t.type 13 []
    s.ferryPump
  | none =>
    match s.ferry.relayed.find? fun r => r.seq == tag && s.elapsed r.since r.limit with
    | some r =>
      ({ s with ferry := { s.ferry with relayed := s.ferry.relayed.filter fun x => x.seq != tag } }).respond r.door r.type 13 []
    | none =>
      match s.ferry.polls.find? fun p => p.seq == tag && s.elapsed p.since (ms 5) with
      | some p => s.pollDone p
      | none => s

/-- Line number `line` of a Ferry NODE has been held for 100 µs. -/
def State.lineExpire (s : State) (node line : Nat) : State :=
  match (s.ferry.lines.filter (·.node == node))[line]? with
  | some l =>
    if s.elapsed l.since (us 100) then s.lineDrop l else s
  | none => s

/-! ### Relaying and events (R408, R409) -/

/-- A request for another node, from the network or the Pier: a network one is checked here; it is sent as a MGMT packet
with RELAYED set and a SEQ of the device's own. -/
def State.qmpRelay (s : State) (d : Door) (target type : Nat) (body : List Byte) : State :=
  let (s, ok) := match d with
    | .qmp env => s.checkQmp env type body
    | .pier _ => (s, !s.serviceMode)
    | _ => (s, false)
  if !ok ∨ target = 0 ∨ target = s.nodeId then s
  else if (s.outGroups 3 target).isEmpty then s.respond d type 3 []
  else
    let seq := (s.ferry.relaySeq + 1) % 2 ^ 32
    let r : Relayed := { door := d, type := type, seq := seq, since := s.clk, limit := s.ferryTimeout }
    let s := { s with ferry := { s.ferry with relaySeq := seq, relayed := s.ferry.relayed ++ [r] } }
    s.mgmtSend target (qmpBytes 4 type 0 seq s.nodeId target 0 body)

/-- A SUBSCRIBE replaces the session's classes; events go to where it came from. -/
def State.subscribe (s : State) (env : QmpEnv) (classes minSev : Nat) : State :=
  s.request (.qmp env) 0x70 (beBytes 4 classes ++ beBytes 1 minSev) fun s =>
    let s := s.modSession env.session fun x =>
      { x with classes := classes % 256, minSev := minSev, evMac := env.mac, evAddr := env.sender }
    s.respond (.qmp env) 0x70 0 []

/-- Whether a session takes an event: its class, and for a fault its severity. -/
def takesEvent (x : Session) (e : Event) : Bool :=
  bit x.classes (eventClass e.code) && (eventClass e.code != 0 || decide (x.minSev ≤ e.sev))

/-- An event enters a session's queue of 256; at a full one the oldest is discarded. -/
def queueEvent (e : Event) (x : Session) : Session :=
  if takesEvent x e then
    let full := decide (256 ≤ x.events.length)
    { x with
      events := (if full then x.events.tail else x.events) ++ [(x.evSeq, e)]
      evSeq := (x.evSeq + 1) % 2 ^ 32, lost := if full then x.lost + 1 else x.lost }
  else x

/-- The oldest queued events of a session leave while transmit queue 6 of its MAC has room. -/
def State.drainEvents : Nat → State → Nat → State
  | 0, s, _ => s
  | n + 1, s, id =>
    match s.session? id with
    | some x =>
      match x.events with
      | (q, e) :: rest =>
        if (tabGetD (s.mac x.evMac).txq 6 []).length < 64 then
          let m := s.qmpTagged id 0 0x80 x.outSeq s.nodeId 0 (eventBytes e q x.lost)
          let s := s.modSession id fun x => { x with events := rest, lost := 0, outSeq := (x.outSeq + 1) % 2 ^ 32 }
          State.drainEvents n (s.qmpSend x.evMac x.evAddr m) id
        else s
      | [] => s
    | none => s

/-- The oldest happening is queued to each subscribed session and to the Pier's event queue (R409, Table 14.9). EV_SEQ of a
Pier event is free, since it counts a session's events (log entry 46). -/
def State.eventSend (s : State) : State :=
  let s := match s.events with
    | e :: rest =>
      let s := { s with events := rest }
      let s := { s with ferry := { s.ferry with sessions := s.ferry.sessions.map (queueEvent e) } }
      let (n, s) := s.draw
      s.pierPush (eventQueue e.code) 1 (eventQueue e.code) (eventBytes e (n % 2 ^ 32) 0)
    | [] => s
  s.ferry.sessions.foldl (fun s x => State.drainEvents 256 s x.id) s

end Sys2Proof.Machine
end

