-- ==== Sys2Proof/Machine/Qmp.lean ====
section
/-!
DEFINITION. Commands of QMP, the Ferry and the register ports (14_qmp_pier_ferry.md; 08_sardylink.md R242 to R244).
-/
namespace Sys2Proof.Machine

/-- An OPEN (R405, R406). -/
def execQmpOpen (dt : Nat) (env : QmpEnv) (nonce : List Byte) (s : State) : Host.Outcome State Fault Refusal :=
  act dt s fun s => s.qmpOpen env nonce

/-- A CLOSE (R405). -/
def execQmpClose (dt : Nat) (env : QmpEnv) (s : State) : Host.Outcome State Fault Refusal :=
  act dt s fun s => s.qmpClose env

/-- A session ends after 60 s without a valid message (R405). -/
def execSessionExpire (dt : Nat) (session : Nat) (s : State) : Host.Outcome State Fault Refusal :=
  act dt s fun s => match s.session? session with
    | some x => if s.elapsed x.last (sec 60) then s.endSession session else s
    | none => s

/-- A PING returns the ledger and the tally (R402, Table 14.3). -/
def execQmpPing (dt : Nat) (door : Door) (s : State) : Host.Outcome State Fault Refusal :=
  act dt s fun s => s.request door 3 [] fun s =>
    s.respond door 3 0 (beBytes 8 s.now64 ++ beBytes 2 s.frac ++ beBytes 6 s.tally)

/-- A READ (R403). -/
def execQmpRead (dt : Nat) (door : Door) (addr count snapId : Nat) (s : State) : Host.Outcome State Fault Refusal :=
  act dt s fun s => s.request door 0x10 (readBody addr count snapId) fun s => s.qmpRead door addr count snapId

/-- A WRITE (R424, R426). -/
def execQmpWrite (dt : Nat) (door : Door) (addr group : Nat) (data : List Word) (s : State) :
    Host.Outcome State Fault Refusal :=
  act dt s fun s => s.request door 0x11 (writeBody addr group data) fun s => s.qmpWrite door addr group data

/-- A locked sequence (R430). -/
def execLockedSeq (dt : Nat) (door : Door) (ops : List SeqOp) (s : State) : Host.Outcome State Fault Refusal :=
  act dt s fun s => s.request door 0x12 (seqBody ops) fun s => s.seqSubmit door ops

/-- A timer of the running sequence (R432). -/
def execLockRetry (dt : Nat) (s : State) : Host.Outcome State Fault Refusal :=
  act dt s fun s => s.lockRetry.seqPump

/-- A SUBSCRIBE (R409). -/
def execSubscribe (dt : Nat) (env : QmpEnv) (classes minSev : Nat) (s : State) : Host.Outcome State Fault Refusal :=
  act dt s fun s => s.subscribe env classes minSev

/-- Events are queued and sent (R409). -/
def execEventSend (dt : Nat) (s : State) : Host.Outcome State Fault Refusal := act dt s State.eventSend

/-- A request for another node, which its TARGET names (R408). -/
def execQmpRelay (dt : Nat) (door : Door) (target type : Nat) (body : List Byte) (s : State) :
    Host.Outcome State Fault Refusal :=
  act dt s fun s => s.qmpRelay door target type body

/-- A snapshot arm, by TIME_SNAP_CTRL or QMP SNAP_ARM (R77). -/
def execSnapArm (dt : Nat) (door : Door) (id at64 : Nat) (tiles caravan : Bool) (s : State) :
    Host.Outcome State Fault Refusal :=
  act dt s fun s => match door with
    | .regs _ => s.snapRequest door id at64 tiles caravan
    | d => s.request d 0x40 (snapBody id at64 tiles caravan) fun s => s.snapRequest d id at64 tiles caravan

/-- A save of the run-time configuration (R507). -/
def execSaveSettings (dt : Nat) (door : Door) (s : State) : Host.Outcome State Fault Refusal :=
  act dt s fun s => match door with
    | .regs req => s.svcCmd req 0xB7E20004
    | d => s.request d 0x51 [] fun s => s.save d

/-- A transaction or a relayed request without response after FERRY_TIMEOUT (R408, R423). -/
def execFerryTimeoutExpire (dt : Nat) (tag : Nat) (s : State) : Host.Outcome State Fault Refusal :=
  act dt s fun s => s.timeout tag

/-- A prefetched line has been held for 100 µs (R429). -/
def execPrefetchLineExpire (dt : Nat) (target line : Nat) (s : State) : Host.Outcome State Fault Refusal :=
  act dt s fun s => s.lineExpire target line

/-- GO of FERRY_RANGE_COMMIT (R428). -/
def execRangeCommit (dt : Nat) (_req : Requester) (s : State) : Host.Outcome State Fault Refusal :=
  act dt s State.rangeGo

/-- A write of R433's registers. -/
def execFerryCfgWrite (dt : Nat) (req : Requester) (reg : FerryReg) (value : Word) (s : State) :
    Host.Outcome State Fault Refusal :=
  act dt s fun s => s.ferryWrite req reg value.toNat

/-! ### Register ports -/

/-- A REG request at the end of a link: the device's port on a group, a tile's on its port; the device answers none on a tile
lane, where it is the requester (Table 08.11). -/
def State.regAt (s : State) (link : Link) (hops op : Nat) (r : RegRequest) (device : State → RegRequest → State)
    (tile : State → Nat → Tile → Bool → RegRequest → State) : State :=
  match link with
  | .group g => if s.watch.core then s.regArrive g hops r device else s
  | .lane l => if s.watch.core then s.grant (8 + l) true else s
  | .tile k p => s.onTile k fun s t => s.tileRegArrive k t p op r tile

/-- A REG READ or WRITE at the device or at a tile (R242 to R245). -/
def execRegRequestReceive (dt : Nat) (link : Link) (hops : Nat) (r : RegRequest) (s : State) :
    Host.Outcome State Fault Refusal :=
  actAlways dt s fun s => s.regAt link hops (if r.op = .write then 2 else 1) r State.regPerform State.tileRegPerform

/-- A REG response at the device, or passing a tile (R191, R234, R242, R270). -/
def execRegResponseReceive (dt : Nat) (link : Link) (hops : Nat) (r : RegResponse) (s : State) :
    Host.Outcome State Fault Refusal :=
  actAlways dt s fun s =>
    match link with
    | .group g => if s.watch.core then s.groupResponse g hops r else s
    | .lane l => if s.watch.core then s.tileResponse l r else s
    | .tile k p => s.onTile k fun s t =>
      (s.grant (tileKey k p) false).passReg k t p false (regPacket r.toward (tailT r.pos r.epoch)
        { op := 8, flags := r.posted.toNat, tag := r.tag, requester := r.requester, target := r.target, space := r.space
          offset := r.offset, count := r.count, status := r.status, holder := r.holder, data := r.data.map (·.toNat) })

/-- A LOCK at the device or at a tile (R244). -/
def execRegLock (dt : Nat) (link : Link) (hops : Nat) (r : RegRequest) (s : State) : Host.Outcome State Fault Refusal :=
  actAlways dt s fun s => s.regAt link hops 3 r State.lockTake State.tileLock

/-- An UNLOCK at the device or at a tile (R244). -/
def execRegUnlock (dt : Nat) (link : Link) (hops : Nat) (r : RegRequest) (s : State) : Host.Outcome State Fault Refusal :=
  actAlways dt s fun s => s.regAt link hops 4 r State.lockGive State.tileUnlock

/-- A lock ends 20 µs after its grant (R244). -/
def execRegLockExpire (dt : Nat) (tile : Option Nat) (s : State) : Host.Outcome State Fault Refusal :=
  match tile with
  | none => act dt s State.lockExpire
  | some k => actAlways dt s fun s => s.onTile k fun s t =>
      match t.lock with
      | some (_, c) => if s.elapsed c (us 20) then s.tileLockEnded k t else s.setTile k t
      | none => s.setTile k t

end Sys2Proof.Machine
end

