-- ==== Sys2Proof/Machine/Registers.lean ====
section
/-!
DEFINITION. Commands on registers of any block (R6 to R9, R526).
-/
namespace Sys2Proof.Machine

/-- A read answered: the value goes to its requester. -/
def State.readOut (s : State) (req : Requester) (a : Nat) : State :=
  let (v, s) := s.readReg req a
  s.emit (.readData req a (BitVec.ofNat 32 v))

/-- A write of a register (R6); at an unassigned address it is ignored and counted. -/
def execRegisterWrite (dt : Nat) (req : Requester) (addr : Nat) (value : Word) (s : State) :
    Host.Outcome State Fault Refusal :=
  act dt s fun s => s.writeReg req addr value.toNat

/-- Bits that a write of 1 clears: LAMP_PORT_FLT [9:0] on a part with the lamp die, PIER_IRQ_STAT [21:8]. -/
def State.w1cBits (s : State) (a : Nat) : Nat :=
  if a = Reg.PIER_IRQ_STAT then 0x3FFF00
  else if a / 65536 = 0xD ∧ s.lampDie ∧ (regDesc? a).any (fun d => d.acc == .w1c) = true then 0x3FF
  else 0

/-- A write of a W1C register in the clock in which the device sets some of its bits (R7): those stay set. -/
def execW1cWrite (dt : Nat) (req : Requester) (addr : Nat) (value setNow : Word) (s : State) :
    Host.Outcome State Fault Refusal :=
  act dt s fun s =>
    let m := s.w1cBits addr
    if m = 0 then s.writeReg req addr value.toNat
    else
      let s := s.writeReg req addr value.toNat
      s.wn addr (s.rn addr ||| (setNow.toNat &&& m))

/-- A read of an RC register (R8): the events of the same clock are left for the next read. -/
def execRcRegisterRead (dt : Nat) (req : Requester) (addr eventNow : Nat) (s : State) : Host.Outcome State Fault Refusal :=
  act dt s fun s =>
    let s := s.readOut req addr
    if (regDesc? addr).any fun d => d.acc == .rc then s.wn addr (min eventNow (2 ^ 32 - 1)) else s

/-- A read of the low word of a pair (R9, R526). -/
def execPairLowRead (dt : Nat) (req : Requester) (addr : Nat) (s : State) : Host.Outcome State Fault Refusal :=
  act dt s fun s => s.readOut req addr

/-- A write of the high word of a pair (R9, R526): it takes effect with the low word this requester has waiting. -/
def execPairHighWrite (dt : Nat) (req : Requester) (addr : Nat) (value : Word) (s : State) :
    Host.Outcome State Fault Refusal :=
  act dt s fun s => s.writeReg req addr value.toNat

end Sys2Proof.Machine
end

