-- ==== Sys2Proof/Machine/Timecode.lean ====
section
/-!
DEFINITION. Commands of time that act on cues: a step of the ledger and timecode (02_ledger_time.md R63 to R66, R72;
13_berths_cues.md R393 to R396).
-/
namespace Sys2Proof.Machine

/-- Tallies whose boundary a forward step from that of tally n passed over are never presented (R65). -/
def State.skipTallies (s : State) (n : Nat) : State :=
  if n < s.tally then { s with pipe := { s.pipe with skip := some (n, s.tally) } } else s

/-- A fixed step takes place at its tally's boundary (R63, R65, R66): the ledger moves, the refusal ends, tallies skipped are
presented no more, and cues whose due times a forward step crosses are handled (R396). SLEW or LOCKED stands until the next
measurement (Table 02.10). -/
def State.stepApply (s : State) : State :=
  match s.time.stepAt with
  | some n =>
    if s.ns < s.tp n then s
    else
      let before := s.ns
      let s := s.stepLedger s.time.stepDelta
      let s := { s with time := { s.time with stepPending := false, stepAt := none, overThr := 0, inLock := 0 } }
      let s := ((s.setStep 0).notify 0x51 0 0 [n % 2 ^ 32]).servoSettle
      (s.skipTallies n).cueStep before
  | none => s

def execStepApply (dt : Nat) (s : State) : Host.Outcome State Fault Refusal := act dt s State.stepApply

/-- A codeword of LTC (R72, Table 02.13): stamped at its bit 0, LOCKED, with JUMP when it does not follow its predecessor
and MISMATCH when its rate does not divide the frame rate; then cues and waybills take it. -/
def State.codeword (s : State) (code r startAgo : Nat) : State :=
  let stamp := s.ns - startAgo
  let follows := !s.time.ltcSeen || (tcFrames r code == (tcFrames r s.time.ltcLast + 1) % tcDay r)
  let s := s.wn Reg.TIME_LTC_STAT (1 + 2 * r + 16 * (!follows).toNat + 32 * (!s.ltcDivides r).toNat)
  let s := (s.wn Reg.TIME_LTC_CODE code).setPair Reg.TIME_LTC_AT (toLedger stamp)
  let s := { s with time := { s.time with ltcLast := code, ltcSeen := true } }
  ((s.condClear 34 0).ltcInput code).cueCodeword r code stamp

def execLtcCodeword (dt : Nat) (code : Word) (rate : LtcRate) (startAgo : Nat) (s : State) :
    Host.Outcome State Fault Refusal :=
  act dt s fun s => s.codeword code.toNat rate.val startAgo

/-- The Lead's fixed resolution of a timecode cue at an Escort (R395). -/
def execTcResolutionReceive (dt : Nat) (label code dueNs : Nat) (s : State) : Host.Outcome State Fault Refusal :=
  act dt s fun s => if s.role = 2 then s.cueFromLead label code dueNs else s

end Sys2Proof.Machine
end

