-- ==== Sys2Proof/Machine/Dispatch.lean ====
section
/-!
DEFINITION. One arm per command: each is one direct call of its meaning, and a command without one is rejected by name.
-/
namespace Sys2Proof.Machine

/-- The effect of a command on everything but the queue. -/
def exec (i : Instr) (s : State) : Host.Outcome State Fault Refusal :=
  match i with
  | .registerWrite dt req addr value => Sys2Proof.Machine.execRegisterWrite dt req addr value s
  | .w1cWrite dt req addr value setNow => Sys2Proof.Machine.execW1cWrite dt req addr value setNow s
  | .rcRegisterRead dt req addr eventNow => Sys2Proof.Machine.execRcRegisterRead dt req addr eventNow s
  | .pairLowRead dt req addr => Sys2Proof.Machine.execPairLowRead dt req addr s
  | .pairHighWrite dt req addr value => Sys2Proof.Machine.execPairHighWrite dt req addr value s
  | .lampLinkTransfer dt crcGood repeatGood => Sys2Proof.Machine.execLampLinkTransfer dt crcGood repeatGood s
  | .selectionPoint dt tally => Sys2Proof.Machine.execSelectionPoint dt tally s
  | .compositionStart dt tally => Sys2Proof.Machine.execCompositionStart dt tally s
  | .compositionComplete dt => Sys2Proof.Machine.execCompositionComplete dt s
  | .bufferSwap dt tally => Sys2Proof.Machine.execBufferSwap dt tally s
  | .rasterStart dt tally => Sys2Proof.Machine.execRasterStart dt tally s
  | .compositionAbort dt line => Sys2Proof.Machine.execCompositionAbort dt line s
  | .rasterEnd dt => Sys2Proof.Machine.execRasterEnd dt s
  | .latchEdge dt tally => Sys2Proof.Machine.execLatchEdge dt tally s
  | .presentationInstant dt tally => Sys2Proof.Machine.execPresentationInstant dt tally s
  | .probeValuesReady dt tally => Sys2Proof.Machine.execProbeValuesReady dt tally s
  | .waybillDeparture dt tally entry => Sys2Proof.Machine.execWaybillDeparture dt tally entry s
  | .itemDispatch dt flow => Sys2Proof.Machine.execItemDispatch dt flow s
  | .servoMeasurement dt source offset refRate => Sys2Proof.Machine.execServoMeasurement dt source offset refRate s
  | .sourceLost dt source => Sys2Proof.Machine.execSourceLost dt source s
  | .jumpThrWrite dt req value => Sys2Proof.Machine.execJumpThrWrite dt req value s
  | .stepAccept dt door => Sys2Proof.Machine.execStepAccept dt door s
  | .stepReject dt door => Sys2Proof.Machine.execStepReject dt door s
  | .stepApply dt => Sys2Proof.Machine.execStepApply dt s
  | .portCtrlWrite dt req port value => Sys2Proof.Machine.execPortCtrlWrite dt req port value s
  | .ptpMessageReceive dt port domain seqId sender src msg => Sys2Proof.Machine.execPtpMessageReceive dt port domain seqId sender src msg s
  | .ptpEventTransmit dt port isDelayReq seqId => Sys2Proof.Machine.execPtpEventTransmit dt port isDelayReq seqId s
  | .rxqStamp dt port seqId domain msgType readNow => Sys2Proof.Machine.execRxqStamp dt port seqId domain msgType readNow s
  | .rxqW3Read dt req port => Sys2Proof.Machine.execRxqW3Read dt req port s
  | .tpinCapture dt pin rising readNow => Sys2Proof.Machine.execTpinCapture dt pin rising readNow s
  | .tpinCapHiRead dt req pin => Sys2Proof.Machine.execTpinCapHiRead dt req pin s
  | .tpinArm dt req pin atHi => Sys2Proof.Machine.execTpinArm dt req pin atHi s
  | .tpinCtrlWrite dt req pin value => Sys2Proof.Machine.execTpinCtrlWrite dt req pin value s
  | .tpinTimingWrite dt req pin isWidth value => Sys2Proof.Machine.execTpinTimingWrite dt req pin isWidth value s
  | .tpinPulse dt pin => Sys2Proof.Machine.execTpinPulse dt pin s
  | .ltcCodeword dt code rate startAgo => Sys2Proof.Machine.execLtcCodeword dt code rate startAgo s
  | .ltcLost dt => Sys2Proof.Machine.execLtcLost dt s
  | .wclkMeasurement dt rate ppm phase => Sys2Proof.Machine.execWclkMeasurement dt rate ppm phase s
  | .snapArm dt door id at64 tiles caravan => Sys2Proof.Machine.execSnapArm dt door id at64 tiles caravan s
  | .snapFire dt => Sys2Proof.Machine.execSnapFire dt s
  | .st2110Packet dt receiver path p => Sys2Proof.Machine.execSt2110Packet dt receiver path p s
  | .pathTimeout dt receiver path => Sys2Proof.Machine.execPathTimeout dt receiver path s
  | .streamPacketReceive dt group hops p crc => Sys2Proof.Machine.execStreamPacketReceive dt group hops p crc s
  | .stillSelWrite dt req receiver sel => Sys2Proof.Machine.execStillSelWrite dt req receiver sel s
  | .clipStartWrite dt req receiver startHi => Sys2Proof.Machine.execClipStartWrite dt req receiver startHi s
  | .ingSrcCfgWrite dt req receiver reg value => Sys2Proof.Machine.execIngSrcCfgWrite dt req receiver reg value s
  | .layerCommit dt req slot => Sys2Proof.Machine.execLayerCommit dt req slot s
  | .maskFillComplete dt slot => Sys2Proof.Machine.execMaskFillComplete dt slot s
  | .maskSelWrite dt req slot sel => Sys2Proof.Machine.execMaskSelWrite dt req slot sel s
  | .coefCommit dt req => Sys2Proof.Machine.execCoefCommit dt req s
  | .calCtrlWrite dt req value => Sys2Proof.Machine.execCalCtrlWrite dt req value s
  | .binSelWrite dt req value => Sys2Proof.Machine.execBinSelWrite dt req value s
  | .binCommit dt req => Sys2Proof.Machine.execBinCommit dt req s
  | .brightTargetWrite dt req value => Sys2Proof.Machine.execBrightTargetWrite dt req value s
  | .ambCfgWrite dt req value => Sys2Proof.Machine.execAmbCfgWrite dt req value s
  | .ambientUpdate dt => Sys2Proof.Machine.execAmbientUpdate dt s
  | .tempLatch dt tally => Sys2Proof.Machine.execTempLatch dt tally s
  | .tileStatusReceive dt lane pos epoch status => Sys2Proof.Machine.execTileStatusReceive dt lane pos epoch status s
  | .calUploadStart dt entry => Sys2Proof.Machine.execCalUploadStart dt entry s
  | .calDataReceive dt lane pos epoch offset data => Sys2Proof.Machine.execCalDataReceive dt lane pos epoch offset data s
  | .calUploadTimeout dt entry => Sys2Proof.Machine.execCalUploadTimeout dt entry s
  | .calCopyIn dt entry => Sys2Proof.Machine.execCalCopyIn dt entry s
  | .tileReload dt req value => Sys2Proof.Machine.execTileReload dt req value s
  | .calTallyAnnounce dt entry tally => Sys2Proof.Machine.execCalTallyAnnounce dt entry tally s
  | .mapSelWrite dt req value => Sys2Proof.Machine.execMapSelWrite dt req value s
  | .mapCommit dt req => Sys2Proof.Machine.execMapCommit dt req s
  | .linkCfgWrite dt req lane value => Sys2Proof.Machine.execLinkCfgWrite dt req lane value s
  | .subframeWrite dt req value => Sys2Proof.Machine.execSubframeWrite dt req value s
  | .scanCtrlWrite dt req value => Sys2Proof.Machine.execScanCtrlWrite dt req value s
  | .tokenSend dt tally second => Sys2Proof.Machine.execTokenSend dt tally second s
  | .lpiRefresh dt lane => Sys2Proof.Machine.execLpiRefresh dt lane s
  | .lpiWake dt lane => Sys2Proof.Machine.execLpiWake dt lane s
  | .lpiRefreshTimeout dt tile port => Sys2Proof.Machine.execLpiRefreshTimeout dt tile port s
  | .tilePixelReceive dt tile port p crc => Sys2Proof.Machine.execTilePixelReceive dt tile port p crc s
  | .tileTokenReceive dt tile port t crc => Sys2Proof.Machine.execTileTokenReceive dt tile port t crc s
  | .tileEmissionStart dt tile tally => Sys2Proof.Machine.execTileEmissionStart dt tile tally s
  | .tileSubframe dt tile k => Sys2Proof.Machine.execTileSubframe dt tile k s
  | .tileLossBlack dt tile => Sys2Proof.Machine.execTileLossBlack dt tile s
  | .tileStatusSend dt tile temp => Sys2Proof.Machine.execTileStatusSend dt tile temp s
  | .tilePortEvent dt tile port linked rate info => Sys2Proof.Machine.execTilePortEvent dt tile port linked rate info s
  | .tileDiscoverReceive dt tile port toward hopsLeft sender crc => Sys2Proof.Machine.execTileDiscoverReceive dt tile port toward hopsLeft sender crc s
  | .tileAssignReceive dt tile port toward hopsLeft epoch pos chainLen ident sender crc => Sys2Proof.Machine.execTileAssignReceive dt tile port toward hopsLeft epoch pos chainLen ident sender crc s
  | .tileCalPullReceive dt tile port toward epoch pos offset length crc => Sys2Proof.Machine.execTileCalPullReceive dt tile port toward epoch pos offset length crc s
  | .tileSnapReceive dt tile port toward id at64 crc => Sys2Proof.Machine.execTileSnapReceive dt tile port toward id at64 crc s
  | .tileForward dt tile port x => Sys2Proof.Machine.execTileForward dt tile port x s
  | .chainBreak dt lane => Sys2Proof.Machine.execChainBreak dt lane s
  | .chainWalk dt lane => Sys2Proof.Machine.execChainWalk dt lane s
  | .discoverRetry dt lane => Sys2Proof.Machine.execDiscoverRetry dt lane s
  | .descriptorReceive dt lane hop epoch d => Sys2Proof.Machine.execDescriptorReceive dt lane hop epoch d s
  | .tileLost dt entry => Sys2Proof.Machine.execTileLost dt entry s
  | .hailSend dt lane => Sys2Proof.Machine.execHailSend dt lane s
  | .hailReceive dt lane h => Sys2Proof.Machine.execHailReceive dt lane h s
  | .exchangeTimeout dt lane => Sys2Proof.Machine.execExchangeTimeout dt lane s
  | .stepBlockReceive dt lane nextRate countdown target => Sys2Proof.Machine.execStepBlockReceive dt lane nextRate countdown target s
  | .rateSwitch dt lane isTx => Sys2Proof.Machine.execRateSwitch dt lane isTx s
  | .prbsPass dt lane partner => Sys2Proof.Machine.execPrbsPass dt lane partner s
  | .rungPass dt lane => Sys2Proof.Machine.execRungPass dt lane s
  | .stepTimeout dt lane => Sys2Proof.Machine.execStepTimeout dt lane s
  | .backoffExpire dt lane => Sys2Proof.Machine.execBackoffExpire dt lane s
  | .backoffReset dt lane => Sys2Proof.Machine.execBackoffReset dt lane s
  | .losAssert dt lane => Sys2Proof.Machine.execLosAssert dt lane s
  | .losClear dt lane => Sys2Proof.Machine.execLosClear dt lane s
  | .lolChange dt lane asserted => Sys2Proof.Machine.execLolChange dt lane asserted s
  | .blockLockLoss dt lane => Sys2Proof.Machine.execBlockLockLoss dt lane s
  | .blockLockAcquire dt lane => Sys2Proof.Machine.execBlockLockAcquire dt lane s
  | .relockTimeout dt lane => Sys2Proof.Machine.execRelockTimeout dt lane s
  | .pcsLockChange dt lane locked => Sys2Proof.Machine.execPcsLockChange dt lane locked s
  | .reserveSubstitute dt removed joined => Sys2Proof.Machine.execReserveSubstitute dt removed joined s
  | .substitutionTimeout dt removed => Sys2Proof.Machine.execSubstitutionTimeout dt removed s
  | .laneRetrain dt req lane => Sys2Proof.Machine.execLaneRetrain dt req lane s
  | .laneEnterTest dt req lane => Sys2Proof.Machine.execLaneEnterTest dt req lane s
  | .laneLeaveTest dt req lane => Sys2Proof.Machine.execLaneLeaveTest dt req lane s
  | .laneSubstitute dt req lane => Sys2Proof.Machine.execLaneSubstitute dt req lane s
  | .laneDisable dt req lane => Sys2Proof.Machine.execLaneDisable dt req lane s
  | .laneEnable dt req lane => Sys2Proof.Machine.execLaneEnable dt req lane s
  | .testConfigWrite dt req lane reg value => Sys2Proof.Machine.execTestConfigWrite dt req lane reg value s
  | .eyeScanStart dt req lane value => Sys2Proof.Machine.execEyeScanStart dt req lane value s
  | .eyeScanDone dt lane errors => Sys2Proof.Machine.execEyeScanDone dt lane errors s
  | .marginMeasure dt lane eyeW eyeH => Sys2Proof.Machine.execMarginMeasure dt lane eyeW eyeH s
  | .laneDownTimeout dt lane => Sys2Proof.Machine.execLaneDownTimeout dt lane s
  | .slkPacketReceive dt lane blocks => Sys2Proof.Machine.execSlkPacketReceive dt lane blocks s
  | .timePacketSend dt link => Sys2Proof.Machine.execTimePacketSend dt link s
  | .timePacketReceive dt link p => Sys2Proof.Machine.execTimePacketReceive dt link p s
  | .stepAnnounce dt => Sys2Proof.Machine.execStepAnnounce dt s
  | .stepAnnounceReceive dt fromTwin group tally32 stepNs => Sys2Proof.Machine.execStepAnnounceReceive dt fromTwin group tally32 stepNs s
  | .beaconSend dt lane => Sys2Proof.Machine.execBeaconSend dt lane s
  | .regRequestReceive dt link hops r => Sys2Proof.Machine.execRegRequestReceive dt link hops r s
  | .regResponseReceive dt link hops r => Sys2Proof.Machine.execRegResponseReceive dt link hops r s
  | .regLock dt link hops r => Sys2Proof.Machine.execRegLock dt link hops r s
  | .regUnlock dt link hops r => Sys2Proof.Machine.execRegUnlock dt link hops r s
  | .regLockExpire dt tile => Sys2Proof.Machine.execRegLockExpire dt tile s
  | .creditReceive dt link reqLimit rspLimit => Sys2Proof.Machine.execCreditReceive dt link reqLimit rspLimit s
  | .creditSend dt link => Sys2Proof.Machine.execCreditSend dt link s
  | .caravanForward dt group packet => Sys2Proof.Machine.execCaravanForward dt group packet s
  | .streamExportSend dt receiver line x count => Sys2Proof.Machine.execStreamExportSend dt receiver line x count s
  | .mgmtReceive dt group hops origin dest seq message => Sys2Proof.Machine.execMgmtReceive dt group hops origin dest seq message s
  | .alignPeriod dt group => Sys2Proof.Machine.execAlignPeriod dt group s
  | .maskReceive dt group rxMask => Sys2Proof.Machine.execMaskReceive dt group rxMask s
  | .groupSkewExceed dt group => Sys2Proof.Machine.execGroupSkewExceed dt group s
  | .heartbeatSend dt => Sys2Proof.Machine.execHeartbeatSend dt s
  | .heartbeatReceive dt bell h crc => Sys2Proof.Machine.execHeartbeatReceive dt bell h crc s
  | .pathSilence dt bell => Sys2Proof.Machine.execPathSilence dt bell s
  | .promote dt => Sys2Proof.Machine.execPromote dt s
  | .demote dt => Sys2Proof.Machine.execDemote dt s
  | .standDown dt req => Sys2Proof.Machine.execStandDown dt req s
  | .seaTrialRerun dt req => Sys2Proof.Machine.execSeaTrialRerun dt req s
  | .seaTrialStart dt => Sys2Proof.Machine.execSeaTrialStart dt s
  | .seaTrialComplete dt holdOk lanesOk canvasOk => Sys2Proof.Machine.execSeaTrialComplete dt holdOk lanesOk canvasOk s
  | .seaTrialRetry dt => Sys2Proof.Machine.execSeaTrialRetry dt s
  | .digestCheck dt digest => Sys2Proof.Machine.execDigestCheck dt digest s
  | .mirrorInputReceive dt tally input => Sys2Proof.Machine.execMirrorInputReceive dt tally input s
  | .mirrorLost dt => Sys2Proof.Machine.execMirrorLost dt s
  | .tcResolutionReceive dt label code dueNs => Sys2Proof.Machine.execTcResolutionReceive dt label code dueNs s
  | .presenceSend dt => Sys2Proof.Machine.execPresenceSend dt s
  | .presenceReceive dt group hops node uid role => Sys2Proof.Machine.execPresenceReceive dt group hops node uid role s
  | .routeExpire dt node => Sys2Proof.Machine.execRouteExpire dt node s
  | .ethFrameReceive dt mac frame => Sys2Proof.Machine.execEthFrameReceive dt mac frame s
  | .pauseTimerExpire dt mac queue => Sys2Proof.Machine.execPauseTimerExpire dt mac queue s
  | .pauseWatchdogTrip dt mac => Sys2Proof.Machine.execPauseWatchdogTrip dt mac s
  | .holdoffEnd dt mac => Sys2Proof.Machine.execHoldoffEnd dt mac s
  | .txFrameEnd dt mac => Sys2Proof.Machine.execTxFrameEnd dt mac s
  | .fltSelWrite dt req mac value => Sys2Proof.Machine.execFltSelWrite dt req mac value s
  | .fltCommit dt req mac => Sys2Proof.Machine.execFltCommit dt req mac s
  | .pauseCfgWrite dt req mac window value => Sys2Proof.Machine.execPauseCfgWrite dt req mac window value s
  | .igmpJoin dt mac group => Sys2Proof.Machine.execIgmpJoin dt mac group s
  | .phyPoll dt link fullDuplex speed => Sys2Proof.Machine.execPhyPoll dt link fullDuplex speed s
  | .anTimeout dt lane => Sys2Proof.Machine.execAnTimeout dt lane s
  | .probeSelWrite dt req value => Sys2Proof.Machine.execProbeSelWrite dt req value s
  | .probeCommit dt req => Sys2Proof.Machine.execProbeCommit dt req s
  | .probeEmitCommit dt req => Sys2Proof.Machine.execProbeEmitCommit dt req s
  | .waySelWrite dt req value => Sys2Proof.Machine.execWaySelWrite dt req value s
  | .wayCommit dt req => Sys2Proof.Machine.execWayCommit dt req s
  | .wayParamWrite dt req index value => Sys2Proof.Machine.execWayParamWrite dt req index value s
  | .sacnReceive dt mac p => Sys2Proof.Machine.execSacnReceive dt mac p s
  | .sacnSourceLost dt univ cid => Sys2Proof.Machine.execSacnSourceLost dt univ cid s
  | .sacnSend dt tally univ => Sys2Proof.Machine.execSacnSend dt tally univ s
  | .sacnDiscoverySend dt => Sys2Proof.Machine.execSacnDiscoverySend dt s
  | .dmxFrameStart dt port tally => Sys2Proof.Machine.execDmxFrameStart dt port tally s
  | .dmxFrameEnd dt port readback => Sys2Proof.Machine.execDmxFrameEnd dt port readback s
  | .rdmTransactionStart dt port => Sys2Proof.Machine.execRdmTransactionStart dt port s
  | .rdmTransactionEnd dt port reply => Sys2Proof.Machine.execRdmTransactionEnd dt port reply s
  | .rdmFullDiscovery dt req port value => Sys2Proof.Machine.execRdmFullDiscovery dt req port value s
  | .rdmIncrementalDiscovery dt port => Sys2Proof.Machine.execRdmIncrementalDiscovery dt port s
  | .rdmRequest dt door port cc uid sub pid pd => Sys2Proof.Machine.execRdmRequest dt door port cc uid sub pid pd s
  | .pwmPeriodStart dt bstSkips => Sys2Proof.Machine.execPwmPeriodStart dt bstSkips s
  | .adcCycle dt adc samples ntcEven ntcOdd => Sys2Proof.Machine.execAdcCycle dt adc samples ntcEven ntcOdd s
  | .measPost dt => Sys2Proof.Machine.execMeasPost dt s
  | .thermometryWindow dt port vf => Sys2Proof.Machine.execThermometryWindow dt port vf s
  | .tjTimeout dt port => Sys2Proof.Machine.execTjTimeout dt port s
  | .neighbourTest dt port findings => Sys2Proof.Machine.execNeighbourTest dt port findings s
  | .lampLevelWrite dt req group reg value => Sys2Proof.Machine.execLampLevelWrite dt req group reg value s
  | .lampPortParamWrite dt req port reg value => Sys2Proof.Machine.execLampPortParamWrite dt req port reg value s
  | .patternParamWrite dt req engine reg value => Sys2Proof.Machine.execPatternParamWrite dt req engine reg value s
  | .berthCreate dt door kind resource params => Sys2Proof.Machine.execBerthCreate dt door kind resource params s
  | .berthModify dt door handle params => Sys2Proof.Machine.execBerthModify dt door handle params s
  | .berthDestroy dt door handle => Sys2Proof.Machine.execBerthDestroy dt door handle s
  | .berthQuery dt door handle => Sys2Proof.Machine.execBerthQuery dt door handle s
  | .cueCreate dt door record => Sys2Proof.Machine.execCueCreate dt door record s
  | .cueReady dt slot => Sys2Proof.Machine.execCueReady dt slot s
  | .cueCancel dt door id => Sys2Proof.Machine.execCueCancel dt door id s
  | .cueCancelList dt door handle => Sys2Proof.Machine.execCueCancelList dt door handle s
  | .cueQuery dt door id => Sys2Proof.Machine.execCueQuery dt door id s
  | .qmpOpen dt env nonce => Sys2Proof.Machine.execQmpOpen dt env nonce s
  | .qmpClose dt env => Sys2Proof.Machine.execQmpClose dt env s
  | .sessionExpire dt session => Sys2Proof.Machine.execSessionExpire dt session s
  | .qmpPing dt door => Sys2Proof.Machine.execQmpPing dt door s
  | .qmpRead dt door addr count snapId => Sys2Proof.Machine.execQmpRead dt door addr count snapId s
  | .qmpWrite dt door addr group data => Sys2Proof.Machine.execQmpWrite dt door addr group data s
  | .lockedSeq dt door ops => Sys2Proof.Machine.execLockedSeq dt door ops s
  | .lockRetry dt => Sys2Proof.Machine.execLockRetry dt s
  | .subscribe dt env classes minSev => Sys2Proof.Machine.execSubscribe dt env classes minSev s
  | .eventSend dt => Sys2Proof.Machine.execEventSend dt s
  | .qmpRelay dt door target type body => Sys2Proof.Machine.execQmpRelay dt door target type body s
  | .saveSettings dt door => Sys2Proof.Machine.execSaveSettings dt door s
  | .ferryTimeoutExpire dt tag => Sys2Proof.Machine.execFerryTimeoutExpire dt tag s
  | .prefetchLineExpire dt target line => Sys2Proof.Machine.execPrefetchLineExpire dt target line s
  | .rangeCommit dt req => Sys2Proof.Machine.execRangeCommit dt req s
  | .ferryCfgWrite dt req reg value => Sys2Proof.Machine.execFerryCfgWrite dt req reg value s
  | .pierRead dt addr count ended => Sys2Proof.Machine.execPierRead dt addr count ended s
  | .pierWrite dt addr data => Sys2Proof.Machine.execPierWrite dt addr data s
  | .pierQread dt queue words clocked errors => Sys2Proof.Machine.execPierQread dt queue words clocked errors s
  | .pierQwrite dt queue words => Sys2Proof.Machine.execPierQwrite dt queue words s
  | .pierDrop dt queue => Sys2Proof.Machine.execPierDrop dt queue s
  | .pierStatus dt => Sys2Proof.Machine.execPierStatus dt s
  | .pierBadCommand dt code => Sys2Proof.Machine.execPierBadCommand dt code s
  | .pierStaleTimer dt queue => Sys2Proof.Machine.execPierStaleTimer dt queue s
  | .detectorTrip dt trips => Sys2Proof.Machine.execDetectorTrip dt trips s
  | .railFault dt det inst clocks => Sys2Proof.Machine.execRailFault dt det inst clocks s
  | .shadowEnd dt still => Sys2Proof.Machine.execShadowEnd dt still s
  | .blockResetDone dt block => Sys2Proof.Machine.execBlockResetDone dt block s
  | .faultRecover dt det inst => Sys2Proof.Machine.execFaultRecover dt det inst s
  | .clearFirstFault dt req => Sys2Proof.Machine.execClearFirstFault dt req s
  | .clearEscalation dt req => Sys2Proof.Machine.execClearEscalation dt req s
  | .clearAllEscalations dt req => Sys2Proof.Machine.execClearAllEscalations dt req s
  | .detCfgWrite dt req det value => Sys2Proof.Machine.execDetCfgWrite dt req det value s
  | .faultInject dt req value => Sys2Proof.Machine.execFaultInject dt req value s
  | .injectEnd dt => Sys2Proof.Machine.execInjectEnd dt s
  | .wearUpdate dt wear => Sys2Proof.Machine.execWearUpdate dt wear s
  | .rsvSubstituteCmd dt req kind index => Sys2Proof.Machine.execRsvSubstituteCmd dt req kind index s
  | .rsvPolicyWrite dt req reg value => Sys2Proof.Machine.execRsvPolicyWrite dt req reg value s
  | .substitutionComplete dt kind => Sys2Proof.Machine.execSubstitutionComplete dt kind s
  | .deckhandCheck dt core agree => Sys2Proof.Machine.execDeckhandCheck dt core agree s
  | .vkeepStart dt => Sys2Proof.Machine.execVkeepStart dt s
  | .aonStart dt => Sys2Proof.Machine.execAonStart dt s
  | .powerGood dt bootsel testMode => Sys2Proof.Machine.execPowerGood dt bootsel testMode s
  | .powerGoodTimeout dt => Sys2Proof.Machine.execPowerGoodTimeout dt s
  | .powerRetry dt => Sys2Proof.Machine.execPowerRetry dt s
  | .resetNAssert dt => Sys2Proof.Machine.execResetNAssert dt s
  | .resetNRelease dt bootsel testMode => Sys2Proof.Machine.execResetNRelease dt bootsel testMode s
  | .bootSequence dt => Sys2Proof.Machine.execBootSequence dt s
  | .firstFrame dt tally => Sys2Proof.Machine.execFirstFrame dt tally s
  | .quietEnter dt req => Sys2Proof.Machine.execQuietEnter dt req s
  | .quietLeave dt req => Sys2Proof.Machine.execQuietLeave dt req s
  | .watchEnter dt req => Sys2Proof.Machine.execWatchEnter dt req s
  | .shelfEnter dt req => Sys2Proof.Machine.execShelfEnter dt req s
  | .rtcAlarm dt => Sys2Proof.Machine.execRtcAlarm dt s
  | .alarmArm dt req value => Sys2Proof.Machine.execAlarmArm dt req value s
  | .brownoutWarning dt mv => Sys2Proof.Machine.execBrownoutWarning dt mv s
  | .brownoutEnd dt mv => Sys2Proof.Machine.execBrownoutEnd dt mv s
  | .brownoutReset dt mv => Sys2Proof.Machine.execBrownoutReset dt mv s
  | .railUndervoltage dt rail under => Sys2Proof.Machine.execRailUndervoltage dt rail under s
  | .lampSupplyRelease dt => Sys2Proof.Machine.execLampSupplyRelease dt s
  | .watchSample dt v code sensors valid => Sys2Proof.Machine.execWatchSample dt v code sensors valid s
  | .i2cScript dt slot bytes => Sys2Proof.Machine.execI2cScript dt slot bytes s
  | .watchAdcCheck dt main reserve => Sys2Proof.Machine.execWatchAdcCheck dt main reserve s
  | .rtcSync dt => Sys2Proof.Machine.execRtcSync dt s
  | .rtcDriftWindow dt drift => Sys2Proof.Machine.execRtcDriftWindow dt drift s
  | .logbookWrite dt req word value => Sys2Proof.Machine.execLogbookWrite dt req word value s
  | .trimAdjust dt id up => Sys2Proof.Machine.execTrimAdjust dt id up s
  | .referenceCheck dt refin rref => Sys2Proof.Machine.execReferenceCheck dt refin rref s
  | .trimSave dt whole => Sys2Proof.Machine.execTrimSave dt whole s
  | .tftpWriteRequest dt peer file netascii blksize slot => Sys2Proof.Machine.execTftpWriteRequest dt peer file netascii blksize slot s
  | .tftpReadRequest dt peer file netascii blksize => Sys2Proof.Machine.execTftpReadRequest dt peer file netascii blksize s
  | .tftpData dt peer block data => Sys2Proof.Machine.execTftpData dt peer block data s
  | .tftpRetransmit dt => Sys2Proof.Machine.execTftpRetransmit dt s
  | .svcActivate dt req what => Sys2Proof.Machine.execSvcActivate dt req what s
  | .svcReset dt req => Sys2Proof.Machine.execSvcReset dt req s
  | .svcConfirm dt req => Sys2Proof.Machine.execSvcConfirm dt req s
  | .autoConfirm dt => Sys2Proof.Machine.execAutoConfirm dt s
  | .svcDiscard dt req what => Sys2Proof.Machine.execSvcDiscard dt req what s
  | .trialExpire dt => Sys2Proof.Machine.execTrialExpire dt s
  | .logCopy dt => Sys2Proof.Machine.execLogCopy dt s
  | .nvmBlockRemap dt block onWrite => Sys2Proof.Machine.execNvmBlockRemap dt block onWrite s
  | .refclkLoss dt => Sys2Proof.Machine.execRefclkLoss dt s
  | .pllUnlock dt pll => Sys2Proof.Machine.execPllUnlock dt pll s
  | .vkeepLoss dt => Sys2Proof.Machine.execVkeepLoss dt s
  | .alwaysOnRailLoss dt => Sys2Proof.Machine.execAlwaysOnRailLoss dt s
  | .refclkRestored dt => Sys2Proof.Machine.execRefclkRestored dt s
  | .pllLock dt pll => Sys2Proof.Machine.execPllLock dt pll s
  | .prbsCheckerSync dt lane received => Sys2Proof.Machine.execPrbsCheckerSync dt lane received s
  | .jtagInstruction dt instr => Sys2Proof.Machine.execJtagInstruction dt instr s
  | .lampSupplyLow dt => Sys2Proof.Machine.execLampSupplyLow dt s

end Sys2Proof.Machine
end

