-- ==== Sys2Proof/Machine/Step.lean ====
section
/-!
DEFINITION. One step: the command at the front of the queue acts on the state with the queue's rest.
-/
namespace Sys2Proof.Machine

/-- A step takes the front command; on an empty queue the block idles but for the packets whose turn to leave has come
(R231; DESIGN CHOICE, log entry 2). -/
def step (s : State) : Host.Outcome State Fault Refusal :=
  match s.pending with
  | [] => .next s.txAll
  | c :: cs => exec c { s with pending := cs }

/-- The table gives its rows no bits, so no word spells a command and the queue is unchanged (log entry 3). -/
def State.withFetchWord (s : State) (nbits w : Nat) : State :=
  match Sys2Proof.decodeTableWord nbits w with
  | some c => { s with pending := c :: s.pending }
  | none => s

end Sys2Proof.Machine
end

