-- ==== Sys2Proof/Safety.lean ====
section
/-!
DEFINITION. What a safe run is, in the terms that statements use: no stop, the canonical forms, and the pin that follows its
registers.
-/
namespace Sys2Proof.Machine

/-- A command completes with a state of which something holds. -/
def Completes (c : Instr) (s : State) (P : State → Prop) : Prop := ∃ t, exec c s = .next t ∧ P t

/-- PIRQ_N is low exactly while PIER_IRQ_STAT AND PIER_IRQ_MASK is not zero (R420). -/
def State.PirqInv (s : State) : Prop := s.pirq = ((s.rd Reg.PIER_IRQ_STAT &&& s.rd Reg.PIER_IRQ_MASK) != 0)

/-- Every register keeps its word. -/
def SameRegs (s t : State) : Prop := ∀ a, t.rd a = s.rd a

/-- Every register outside a list keeps its word. -/
def RegsBut (l : List Nat) (s t : State) : Prop := ∀ a, a ∉ l → t.rd a = s.rd a

/-- Every byte of Hold reads as before. -/
def SameHold (s t : State) : Prop := ∀ a, t.holdByte a = s.holdByte a

/-- A machine whose queue and memory are in canonical form. -/
def State.Canon (s : State) : Prop := Memory.wf s.hold = true ∧ regsWf s.regs = true

/-- Registers that raising a fault may write: those of the fault block but the configuration of its
detectors, the keeper's logbook, and the fault flags and
junction temperature of the lamp ports. -/
def faultReg (a : Nat) : Bool :=
  decide (0x120000 ≤ a ∧ a < 0x121000) || decide (0x160000 ≤ a ∧ a < 0x170000) || decide (0xD0100 ≤ a ∧ a < 0xD1000)

/-- Two states that differ in the fault block, the events waiting and such registers alone. -/
def FaultSide (s t : State) : Prop :=
  ∃ regs flt events, t = { s with regs := regs, flt := flt, events := events } ∧ ∀ a, faultReg a = false → t.rd a = s.rd a

/-- A fault of a detector takes no reaction at once: log only, or stop the berth, which is read from the standing fault
(Table 15.3). -/
def State.logOnly (s : State) (d : Nat) : Bool := decide (s.detReaction d ≤ 1)

/-- A packet that is ready on a link now leaves at once: nothing waits or is being sent there, a lane carries it, and a tile
lane is out of low-power idle (R231, R186). -/
def State.linkFree (s : State) (k : Nat) : Bool :=
  s.txIdle k && !(s.carriers k).isEmpty
    && (decide (k < 8 ∨ 64 ≤ k) || (!(s.lpi (k - 8)).idle && decide ((s.lpi (k - 8)).wakeUntil ≤ s.clk)))

/-- Neither the newest entry of the log nor the first-fault record carries the stamp of now, which no waiting request replaces:
a fault logged now is coincident with none on record (R442). -/
def State.freshStamp (s : State) : Bool :=
  s.asker.isNone && (s.flt.log.head?.toList ++ s.flt.first.toList).all fun z => z.stamp != s.now64 || z.frac != s.frac

/-- A detector number that can trip now: none that is reserved, and none of 64, 65 and 67 in Quiet (R463, R464). -/
def State.trips (s : State) (d : Nat) : Bool :=
  (detSev? d).isSome && !(decide (s.fld Reg.PWR_STAT 0 0 = 1) && (d == 64 || d == 65 || d == 67))

/-- A TFTP packet to a peer as the Gangway's queue holds it (R508, R305). -/
def State.tftpFrame (s : State) (peer : Nat) (p : List Byte) : List (String × List Byte) :=
  [("TFTP", s.udpFrame 4 (Config.tftpPort peer % 65536) peer true p)]

/-- A step that stops neither with a fault nor with a refusal. -/
def SafeStep (s : State) : Prop := ∃ t, step s = .next t

end Sys2Proof.Machine
end

