-- ==== Sys2Proof/Certificates/Slice0/Obligations.lean ====
section
/-!
DEFINITION. The statements for the provers.
-/
open Sys2Proof Sys2Proof.Machine

/-! ### The block as a whole -/

/-- A step with a command at the front of the queue is that command's effect on the state with the queue's rest (the
block's form of a step; log entry 2). -/
def Obligations.StepRunsFront : Prop :=
  ∀ (s : State) (c : Instr) (cs : List Instr), s.pending = c :: cs → step s = exec c { s with pending := cs }

/-- With an empty queue the block idles but for packets whose turn to leave has come; with none waiting anywhere the state
stays (the model's choice, log entry 2). -/
def Obligations.EmptyQueueIdles : Prop :=
  ∀ s : State, s.pending = [] → step s = .next s.txAll ∧ (s.phy.tx = [] → step s = .next s)

/-- Every command of the table ends in a next state; none touches the queue or the die fitted at assembly, or leaves a request
being performed that was not, and the count of clocks never falls (the model's form, log entry 1). -/
def Obligations.EveryCommandEndsInANextState : Prop :=
  ∀ (c : Instr) (s : State), Completes c s fun t =>
    t.pending = s.pending ∧ t.lampDie = s.lampDie ∧ t.asker = s.asker ∧ s.clk ≤ t.clk

/-- R420: PIRQ_N is driven low while PIER_IRQ_STAT AND PIER_IRQ_MASK is not zero, and released otherwise (an open-drain pin has
no third state). From any state whose pin follows its registers, a step leaves a state whose pin does. -/
def Obligations.PirqFollowsItsRegisters : Prop :=
  ∀ s t : State, s.PirqInv → step s = .next t → t.PirqInv

/-- The pin follows its registers at reset. -/
def Obligations.PirqFollowsAtReset : Prop := State.reset.PirqInv

/-- What reset leaves (R458, R481, R525): the queue empty, BOOT_COUNT 1 with the cause of a power-on, the trial, the twin's
role and Quiet at 0, counters at 0, the keeper's logbook valid and marked lost, and Hold with nothing listed. -/
def Obligations.ResetState : Prop :=
  State.reset.pending = [] ∧ State.reset.hold = [] ∧ State.reset.rn Reg.SYS_BOOT_COUNT = 1
    ∧ State.reset.rn Reg.SYS_RESET_CAUSE = 0x401 ∧ State.reset.rn Reg.TWIN_STAT = 0 ∧ State.reset.rn Reg.PWR_STAT = 0
    ∧ State.reset.pair Reg.SYS_ACC_ERR = 0 ∧ State.reset.rn Reg.KEEP_STAT = 3 ∧ State.reset.rn (Reg.KEEP_LOG 0) = 1
    ∧ (∀ r : Fin 32, State.reset.rn (Reg.WATCH_RULE (2 * r)) = 0) ∧ (∀ l : Fin 24, State.reset.rn (Reg.LANE_STATE l) = 0)

/-- While the compute die is held in reset (R457, R462), a command that is not one of the keeper, the always-on island, the
power sequence or the tiles lets time pass and changes nothing else. Stated for a command of each such family. -/
def Obligations.HeldInResetOnlyTimePasses : Prop :=
  ∀ (dt : Nat) (s : State) (req : Requester) (a n : Nat) (v : Word) (l : Fin 24) (m : Fin 5) (r : Fin 32)
    (d : Door) (ps : List Param), s.watch.core = false →
    ∀ c ∈ [Instr.registerWrite dt req a v, .latchEdge dt n, .rasterStart dt n, .stepAccept dt d, .snapFire dt,
      .clipStartWrite dt req r v, .calCtrlWrite dt req v, .mapCommit dt req, .hailSend dt l, .heartbeatSend dt, .promote dt,
      .pauseWatchdogTrip dt m, .probeCommit dt req, .wayCommit dt req, .pwmPeriodStart dt [], .berthCreate dt d n a ps,
      .qmpPing dt d, .pierStatus dt, .clearFirstFault dt req, .rsvSubstituteCmd dt req n a, .quietEnter dt req,
      .svcReset dt req, .bootSequence dt],
      exec c s = .next (acted dt s id)

/-! ### Registers of any block -/

/-- R6: a write to an address where nothing stands is ignored and counted as an access error, with its address latched;
nothing else changes. -/
def Obligations.UnassignedWriteCounted : Prop :=
  ∀ (dt a : Nat) (req : Requester) (v : Word) (s : State), s.watch.core = true → assigned a = false →
    Completes (.registerWrite dt req a v) s fun t =>
      t.pair Reg.SYS_ACC_ERR = min (s.pair Reg.SYS_ACC_ERR + 1) (2 ^ 64 - 1) ∧ t.rn Reg.SYS_ACC_ERR_ADDR = a % 2 ^ 32
        ∧ t.rn Reg.SYS_ACC_ERR_INFO = portOf req + 8
        ∧ RegsBut [Reg.SYS_ACC_ERR, Reg.SYS_ACC_ERR + 4, Reg.SYS_ACC_ERR_ADDR, Reg.SYS_ACC_ERR_INFO] s t ∧ SameHold s t

/-- R5: a register without behaviour of its own takes the fields written, and its reserved bits stay 0. Stated for the
registers TIME_SRC_RANK, PIER_IRQ_MASK, PROBE_PEEK_SEL, WAY_PEEK_SEL, FLT_LOG_SEL and PWR_TRIM_SEL. -/
def Obligations.PlainWriteStores : Prop :=
  ∀ (dt : Nat) (req : Requester) (v : Word) (s : State), s.watch.core = true →
    ∀ a ∈ [Reg.TIME_SRC_RANK, Reg.PIER_IRQ_MASK, Reg.PROBE_PEEK_SEL, Reg.WAY_PEEK_SEL, Reg.FLT_LOG_SEL, Reg.PWR_TRIM_SEL],
      Completes (.registerWrite dt req a v) s fun t =>
        t.rn a = v.toNat &&& wmask a ∧ RegsBut [a] s t ∧ SameHold s t

/-- R523: a write of a read-only register, of any block, is ignored: no register changes, the counters of access errors among
them, and no byte of Hold; in a layer slot that no berth has taken it is counted as R137 says. -/
def Obligations.ReadOnlyWriteIgnored : Prop :=
  ∀ (dt a : Nat) (req : Requester) (v : Word) (s : State), s.watch.core = true → inHold a = false → a % 4 = 0 →
    (regDesc? a).any (fun d => d.acc == .ro) = true →
    (s.slotUnused a = false →
      Completes (.registerWrite dt req a v) s fun t => SameRegs s t ∧ SameHold s t)
    ∧ (s.slotUnused a = true →
      Completes (.registerWrite dt req a v) s fun t =>
        t.pair Reg.SYS_ACC_ERR = min (s.pair Reg.SYS_ACC_ERR + 1) (2 ^ 64 - 1)
          ∧ RegsBut [Reg.SYS_ACC_ERR, Reg.SYS_ACC_ERR + 4, Reg.SYS_ACC_ERR_ADDR, Reg.SYS_ACC_ERR_INFO] s t ∧ SameHold s t)

/-- R524: a word written to Hold at or above staging takes the four bytes at its address, little-endian; every other byte
and every register stays. -/
def Obligations.HoldWordWritten : Prop :=
  ∀ (dt a : Nat) (req : Requester) (v : Word) (s : State), s.watch.core = true → inHold a = true → a % 4 = 0 →
    s.stageBase ≤ a →
    Completes (.registerWrite dt req a v) s fun t =>
      (∀ b, t.holdByte b = if a ≤ b ∧ b < a + 4 then BitVec.ofNat 8 (v.toNat / 256 ^ (b - a)) else s.holdByte b)
        ∧ SameRegs s t ∧ (Memory.wf s.hold = true → Memory.wf t.hold = true)

/-- R7: in a W1C register a bit written as 1 clears, unless the device sets it in the same clock; PIER_IRQ_STAT [21:8] and
LAMP_PORT_FLT [9:0] are such bits. -/
def Obligations.WriteOneToClear : Prop :=
  ∀ (dt : Nat) (req : Requester) (v set : Word) (p : Fin 32) (s : State), s.watch.core = true →
    (Completes (.w1cWrite dt req Reg.PIER_IRQ_STAT v set) s fun t =>
      t.rn Reg.PIER_IRQ_STAT = (s.rn Reg.PIER_IRQ_STAT - (s.rn Reg.PIER_IRQ_STAT &&& v.toNat &&& 0x3FFF00))
          ||| (set.toNat &&& 0x3FFF00)
        ∧ RegsBut [Reg.PIER_IRQ_STAT] s t ∧ SameHold s t)
    ∧ (s.lampDie = true →
      Completes (.w1cWrite dt req (Reg.LAMP_PORT_FLT p) v set) s fun t =>
        t.rn (Reg.LAMP_PORT_FLT p) = (s.rn (Reg.LAMP_PORT_FLT p) - (s.rn (Reg.LAMP_PORT_FLT p) &&& v.toNat))
            ||| (set.toNat &&& 0x3FF)
          ∧ RegsBut [Reg.LAMP_PORT_FLT p] s t ∧ SameHold s t)

/-- R8: a read of an RC register answers its value and clears it; events of the same clock are left for the next read. -/
def Obligations.ReadClears : Prop :=
  ∀ (dt e : Nat) (req : Requester) (p : Fin 8) (s : State), s.watch.core = true →
    ∀ a ∈ [Reg.COMP_COST_PEAK, Reg.TIME_RXQ_DROP p], takeKey s.pairLatch req a = none →
      Completes (.rcRegisterRead dt req a e) s fun t =>
        t.out.head? = some (.readData req a (BitVec.ofNat 32 (s.rn a))) ∧ t.rn a = min e (2 ^ 32 - 1)
          ∧ RegsBut [a] s t ∧ SameHold s t

/-- R9: a read of the low word of a 64-bit pair answers it and latches the high word for the requester's next read there.
Stated for the access-error counter. -/
def Obligations.PairLowLatchesHigh : Prop :=
  ∀ (dt : Nat) (req : Requester) (s : State), s.watch.core = true → takeKey s.pairLatch req Reg.SYS_ACC_ERR = none →
    Completes (.pairLowRead dt req Reg.SYS_ACC_ERR) s fun t =>
      t.out.head? = some (.readData req Reg.SYS_ACC_ERR (BitVec.ofNat 32 (s.rn Reg.SYS_ACC_ERR)))
        ∧ takeKey t.pairLatch req (Reg.SYS_ACC_ERR + 4) = some (s.rd (Reg.SYS_ACC_ERR + 4)) ∧ SameRegs s t ∧ SameHold s t

/-- R526: a write of the high word of a pair commits the low word that the same requester has waiting with it, and the high
word alone when none waits. Stated for TIME_SNAP_AT. -/
def Obligations.PairHighCommits : Prop :=
  ∀ (dt : Nat) (req : Requester) (v : Word) (s : State), s.watch.core = true →
    Completes (.pairHighWrite dt req (Reg.TIME_SNAP_AT + 4) v) s fun t =>
      t.rd (Reg.TIME_SNAP_AT + 4) = v
        ∧ t.rd Reg.TIME_SNAP_AT = (takeKey s.pairLow req Reg.TIME_SNAP_AT).getD (s.rd Reg.TIME_SNAP_AT)
        ∧ takeKey t.pairLow req Reg.TIME_SNAP_AT = none
        ∧ RegsBut [Reg.TIME_SNAP_AT, Reg.TIME_SNAP_AT + 4] s t ∧ SameHold s t

/-! ### The frame pipeline -/

/-- R24, R25: at the selection point of a tally that no point has passed, the tally is selected; composition of what was
selected then starts, into the back buffer or with Chase the single one, with the coefficients in force. -/
def Obligations.SelectionAndComposition : Prop :=
  ∀ (dt n : Nat) (j : CompJob) (s : State), s.watch.core = true →
    ((s.advance dt).selPoint n ≤ (s.advance dt).ns → notYet s.pipe.lastSel n = true →
      Completes (.selectionPoint dt n) s fun t =>
        t.pipe.lastSel = some n ∧ t.pipe.sel.any (fun j => j.tally == n && !j.done) = true)
    ∧ (s.pipe.sel = some j → j.tally = n → (s.advance dt).compPoint n ≤ (s.advance dt).ns →
      s.inReset .compositor = false → s.quietFor n = false → s.pipe.comp = none →
      Completes (.compositionStart dt n) s fun t =>
        t.pipe.comp = some { j with buf := (if s.chase then 0 else 1 - s.pipe.front), coefs := s.pipe.coefs }
          ∧ SameRegs s t ∧ SameHold s t)
    ∧ (s.pipe.comp = some j → j.done = false → s.inReset .compositor = false →
      Completes (.compositionComplete dt) s fun t =>
        t.pipe.comp = some { j with done := true }
          ∧ ∀ b, t.holdByte b = if s.frameBuf j.buf ≤ b ∧ b < s.frameBuf j.buf + ((s.advance dt).canvasBytes j).length
              then ((s.advance dt).canvasBytes j).getD (b - s.frameBuf j.buf) 0#8 else s.holdByte b)

/-- R24, R134: without Chase, at the start of the raster of tally n a whole composition of n becomes the front buffer; when
there is none, outside Quiet, the front buffer is scanned out again and COMP_REPEAT rises. Stated while the detectors of a
repeat log only. -/
def Obligations.BufferSwap : Prop :=
  ∀ (dt n : Nat) (j : CompJob) (s : State), s.watch.core = true → s.chase = false →
      (s.advance dt).rasterPoint n ≤ (s.advance dt).ns →
    notYet s.pipe.raster n = true → s.skipped n = false →
    (s.pipe.comp = some j → j.tally = n → j.done = true →
      Completes (.bufferSwap dt n) s fun t =>
        t.pipe.front = 1 - s.pipe.front ∧ t.pipe.frontTally = some n ∧ t.pipe.raster = some n ∧ t.pipe.blanking = false
          ∧ SameHold s t)
    ∧ (s.pipe.comp = none → s.quietFor n = false → s.logOnly 64 = true → s.logOnly 65 = true →
      Completes (.bufferSwap dt n) s fun t =>
        t.pair Reg.COMP_REPEAT = min (s.pair Reg.COMP_REPEAT + 1) (2 ^ 64 - 1) ∧ t.pipe.front = s.pipe.front
          ∧ t.pipe.frontTally = s.pipe.frontTally ∧ t.pipe.raster = some n ∧ SameHold s t)

/-- R172, R128: the raster of tally n starts once: the commits that act on the raster of tallies up to n have left the queue
of latched ones. R24: it ends at its last line, when blanking begins. R135: with Chase a line that composition has not
finished aborts the tally, counted with its line. -/
def Obligations.RasterRuns : Prop :=
  ∀ (dt n line : Nat) (j : CompJob) (s : State), s.watch.core = true →
    (s.chase = false → s.pipe.raster = some n → notYet s.pipe.started n = true → s.skipped n = false →
      Completes (.rasterStart dt n) s fun t =>
        t.pipe.started = some n ∧ ∀ c ∈ t.pipe.latched, ¬ (c.1 ≤ n ∧ atRaster c.2 = true))
    ∧ (s.pipe.raster = some n → s.pipe.blanking = false → (s.advance dt).rasterStop n ≤ (s.advance dt).ns →
      Completes (.rasterEnd dt) s fun t => t.pipe.blanking = true ∧ SameHold s t)
    ∧ (s.pipe.comp = some j → s.pipe.raster = some n → s.chase = true → j.tally = n → j.done = false →
      s.pipe.blanking = false → s.pipe.aborted = false → line < s.canvasH → s.quietFor n = false → s.logOnly 64 = true →
      s.logOnly 65 = true →
      Completes (.compositionAbort dt line) s fun t =>
        t.pair Reg.COMP_ABORT = min (s.pair Reg.COMP_ABORT + 1) (2 ^ 64 - 1) ∧ t.rn Reg.COMP_ABORT_LINE = line
          ∧ t.pipe.aborted = true ∧ t.pipe.comp = none ∧ SameHold s t)

/-- R124 to R129: at the edge of tally k a pending commit stamped before the edge is applied, to take effect two tallies
after it, or one with Chase; one stamped at the edge or later stays. Stated for a commit of coefficients, which is in force
at once, and for one of CAL_CTRL, which waits for the raster of its tally; with no cue or input of the twin at the edge. -/
def Obligations.LatchEdgeApplies : Prop :=
  ∀ (dt k w : Nat) (ws : List Nat) (c : Commit) (s : State), s.watch.core = true → s.edge k + 2 ≤ (s.advance dt).ns →
    notYet s.pipe.edge k = true → s.cues.slots = [] → s.twin.mirrored = [] → s.fixture.ways = [] → s.pipe.commits = [c] →
    c.fillDone = true → c.cueTally = none →
    (c.kind = .coef ws → c.stamp < s.edge k * 65536 →
      Completes (.latchEdge dt k) s fun t =>
        t.pipe.coefs = ws ∧ bit (t.rn Reg.COMP_COEF_STAT) 0 = false ∧ t.pipe.commits = [] ∧ t.pipe.edge = some k ∧ SameHold s t)
    ∧ (c.kind = .calCtrl w → c.stamp < s.edge k * 65536 →
      Completes (.latchEdge dt k) s fun t =>
        t.pipe.latched = s.pipe.latched ++ [(k + (if s.chase then 1 else 2), .calCtrl w)] ∧ t.pipe.commits = []
          ∧ t.pipe.edge = some k ∧ SameHold s t)
    ∧ (s.edge k * 65536 ≤ c.stamp →
      Completes (.latchEdge dt k) s fun t => t.pipe.commits = [c] ∧ t.pipe.edge = some k ∧ SameHold s t)

/-- R42, R46: at Tp(n), once, a rate adjustment that waits takes effect. -/
def Obligations.PresentationInstant : Prop :=
  ∀ (dt n : Nat) (s : State), s.watch.core = true → s.tp n ≤ (s.advance dt).ns → notYet s.pipe.presented n = true →
    s.pipe.latched = [] → s.skipped n = false →
    Completes (.presentationInstant dt n) s fun t =>
      t.pipe.presented = some n ∧ t.time.adj = s.time.adjNext.getD s.time.adj ∧ t.time.adjNext = none ∧ SameHold s t

/-- R137, R116, R111, R117: the commits of a slot's parameters, of its mask buffer and of the coefficients join the queue
with the ledger time of their write, the slot pending (RESULT 1); a coefficient set whose phases do not sum to 1,024 joins
nothing, and is counted and reported with its set and phase. The fill of new mask buffers sets every byte of them to 0xFF, and the commit may latch. -/
def Obligations.CompositorCommits : Prop :=
  ∀ (dt n m : Nat) (req : Requester) (l : Fin 64) (sel : Bool) (p : Layer) (c : Commit) (s : State),
    s.watch.core = true → s.asker = none →
    (p = layerOf {} (s.rdWords (Reg.COMP_LAYER_SRC l) 8) → (s.ownerOf 1 l).isSome = true → layerOk p = true →
      s.layerSrcOk p = true → lMaskEn p = false →
      Completes (.layerCommit dt req l) s fun t =>
        t.pipe.commits.length = s.pipe.commits.length + 1
          ∧ (t.pipe.commits.getLast?.map fun c => (c.stamp, c.fillDone)) = some ((s.advance dt).stamp16, true)
          ∧ t.fld (Reg.COMP_LAYER_STAT l) 2 0 = 1 ∧ RegsBut [Reg.COMP_LAYER_STAT l] s t ∧ SameHold s t)
    ∧ ((s.ownerOf 1 l).isSome = true →
      Completes (.maskSelWrite dt req l sel) s fun t =>
        (t.pipe.commits.getLast?.map fun c => (c.stamp, c.kind)) = some ((s.advance dt).stamp16, .maskSel l sel)
          ∧ t.rn (Reg.COMP_LAYER_MASK_CFG l) = sel.toNat ∧ t.fld (Reg.COMP_LAYER_STAT l) 2 0 = 1
          ∧ RegsBut [Reg.COMP_LAYER_MASK_CFG l, Reg.COMP_LAYER_STAT l] s t ∧ SameHold s t)
    ∧ (coefBad (s.rdWords (Reg.COMP_COEF 0) 768) = none →
      Completes (.coefCommit dt req) s fun t =>
        (t.pipe.commits.getLast?.map fun c => (c.stamp, c.kind))
            = some ((s.advance dt).stamp16, .coef (s.rdWords (Reg.COMP_COEF 0) 768))
          ∧ t.rn Reg.COMP_COEF_STAT = 1 ∧ RegsBut [Reg.COMP_COEF_STAT] s t ∧ SameHold s t)
    ∧ (coefBad (s.rdWords (Reg.COMP_COEF 0) 768) = some (n, m) → n < 4 → m < 64 →
      Completes (.coefCommit dt req) s fun t =>
        t.rn Reg.COMP_COEF_STAT = s.fld Reg.COMP_COEF_STAT 0 0 + 2 + 4 * n + 16 * m
          ∧ t.pair Reg.COMP_REFUSED = min (s.pair Reg.COMP_REFUSED + 1) (2 ^ 64 - 1) ∧ t.pipe = s.pipe
          ∧ RegsBut [Reg.COMP_COEF_STAT, Reg.COMP_REFUSED, Reg.COMP_REFUSED + 4] s t ∧ SameHold s t)
    ∧ (s.pipe.commits = [c] → c.kind = .layer l p true → c.fillDone = false →
      Completes (.maskFillComplete dt l) s fun t =>
        t.pipe.commits = [{ c with fillDone := true }]
          ∧ (∀ b, t.holdByte b = if p.maskBase ≤ b ∧ b < p.maskBase + 2 * p.maskUnits * 65536 then 0xFF#8 else s.holdByte b)
          ∧ SameRegs s t)

/-- R302, R389: an item of a flow. The oldest frame of the highest of receive queues 7 to 4 that holds one leaves its queue;
the first cue of a list in its flow's order acts and ends EXECUTED. Stated for a cue without an action, on which no other
depends. -/
def Obligations.ItemDispatch : Prop :=
  ∀ (dt q b i : Nat) (m : Fin 5) (f : List Byte) (fs : List (List Byte)) (s : State), s.watch.core = true →
    (4 ≤ q → q ≤ 7 → (∀ k : Fin 8, q < k → tabGetD (s.mac m).rxq k [] = []) → tabGetD (s.mac m).rxq q [] = f :: fs →
      Completes (.itemDispatch dt (.receive m)) s fun t => tabGetD (t.mac m).rxq q [] = fs ∧ SameHold s t)
    ∧ ((s.advance dt).nextCue (s.handleAt b) = some i → (s.cueAt i).state = 2 → cAction (s.cueAt i) = 0 →
      (∀ e ∈ s.pendingCues, s.cueId i ∉ cDeps e.2) →
      Completes (.itemDispatch dt (.cues b)) s fun t => (t.cueAt i).state = 3)

/-! ### Ledger time -/

/-- R44, R61, R62, R45, R47: every measurement counts toward its source. With no change of source: before ARMED the offset
steps the ledger at once; the fourth in succession above the threshold, with ARMED set, refuses the step, and the pending
offset follows each measurement until one is within the threshold. A caravan source whose group has no block lock, and a PTP
one whose announce timeout has expired, is lost: it counts from 0, and the selected one with no other in view gives way to
HOLDOVER; one that is measured still is not lost. Stated while the time faults only log. -/
def Obligations.ServoMeasuresAndLoses : Prop :=
  ∀ (dt c : Nat) (off ref : Int) (s : State), s.watch.core = true → s.logOnly 33 = true → s.logOnly 32 = true →
    (c < 6 ∨ s.time.armed = true ∨ s.slk.timeLinks = [] →
      Completes (.servoMeasurement dt c off ref) s fun t => t.srcCount c = s.srcCount c + 1 ∧ SameHold s t)
    ∧ (s.time.source = c → s.rn Reg.TIME_SRC_RANK = 0 → s.time.armed = false →
      Completes (.servoMeasurement dt c off ref) s fun t =>
        t.time.led = (((s.advance dt).time.led : Int) + off * (ledNs : Nat)).toNat ∧ t.time.lastOffset = off ∧ SameHold s t)
    ∧ (s.time.source = c → s.rn Reg.TIME_SRC_RANK = 0 → s.time.armed = true → s.time.stepAt = none →
      s.time.stepPending = false → s.time.overThr = 3 → (s.rn Reg.TIME_JUMP_THR : Int) < off.natAbs →
      Completes (.servoMeasurement dt c off ref) s fun t =>
        t.time.stepPending = true ∧ t.time.servo = .slew ∧ t.pair Reg.TIME_STEP = unsigned 64 off
          ∧ t.fld Reg.TIME_SERVO_STAT 2 0 = 4 ∧ t.time.led = (s.advance dt).time.led ∧ SameHold s t)
    ∧ (s.time.source = c → s.rn Reg.TIME_SRC_RANK = 0 → s.time.armed = true → s.time.stepAt = none →
      s.time.stepPending = true → (s.rn Reg.TIME_JUMP_THR : Int) < off.natAbs →
      Completes (.servoMeasurement dt c off ref) s fun t =>
        t.time.stepPending = true ∧ t.pair Reg.TIME_STEP = unsigned 64 off ∧ SameHold s t)
    ∧ (s.time.source = c → s.rn Reg.TIME_SRC_RANK = 0 → s.time.armed = true → s.time.stepAt = none →
      s.time.stepPending = true → (off.natAbs : Int) ≤ s.rn Reg.TIME_JUMP_THR →
      Completes (.servoMeasurement dt c off ref) s fun t =>
        t.time.stepPending = false ∧ t.time.servo = .locked ∧ t.pair Reg.TIME_STEP = 0 ∧ SameHold s t)
    ∧ (6 ≤ c → c ≤ 8 → s.groupLocked (c - 6) = false →
      Completes (.sourceLost dt c) s fun t => tabGet? t.time.counts c = none ∧ SameHold s t)
    ∧ (1 ≤ c → c ≤ 4 → (s.ptpPort (c - 1)).role = .slave → s.portMode (c - 1) = 1 →
      (s.advance dt).announceExpired (c - 1) = true →
      Completes (.sourceLost dt c) s fun t =>
        (t.ptpPort (c - 1)).role = .listening ∧ (t.ptpPort (c - 1)).best = none ∧ tabGet? t.time.counts c = none
          ∧ SameHold s t)
    ∧ (1 ≤ c → c ≤ 4 → (s.ptpPort (c - 1)).role = .slave → (s.advance dt).announceExpired (c - 1) = false →
      s.clk + dt < (s.ptpPort (c - 1)).lastSync + sec 1 →
      Completes (.sourceLost dt c) s fun t => t.time = (s.advance dt).time ∧ SameRegs s t ∧ SameHold s t)
    ∧ (6 ≤ c → c ≤ 8 → s.groupLocked (c - 6) = false → s.time.source = c → s.rn Reg.TIME_SRC_RANK = 0 →
      s.time.servo ≠ .free →
      Completes (.sourceLost dt c) s fun t =>
        t.time.servo = .holdover ∧ t.time.source = 0 ∧ t.time.holdSince = some (s.clk + dt)
          ∧ t.fld Reg.TIME_SERVO_STAT 2 0 = 3 ∧ SameHold s t)

/-- R43: TIME_JUMP_THR keeps its value on a write outside 100 to 1,000,000,000. -/
def Obligations.JumpThresholdRange : Prop :=
  ∀ (dt : Nat) (req : Requester) (v : Word) (s : State), s.watch.core = true →
    (100 ≤ v.toNat → v.toNat ≤ 1000000000 →
      Completes (.jumpThrWrite dt req v) s fun t =>
        t.rd Reg.TIME_JUMP_THR = v ∧ RegsBut [Reg.TIME_JUMP_THR] s t ∧ SameHold s t)
    ∧ (v.toNat < 100 ∨ 1000000000 < v.toNat →
      Completes (.jumpThrWrite dt req v) s fun t => SameRegs s t ∧ SameHold s t)

/-- R63 to R66: an accept of a pending step fixes it at the first frame boundary at least 1 ms on, and answers with that
tally; one with nothing pending answers 0; a message of the Pier is performed likewise. A reject of a pending, unfixed step clears it; with nothing pending it does
nothing. At the boundary of its tally a fixed step moves the ledger by its amount. Stated with no cue to handle. -/
def Obligations.StepAdjudicated : Prop :=
  ∀ (dt n : Nat) (req : Requester) (s : State), s.watch.core = true →
    (s.time.stepPending = true → s.time.stepAt = none →
      Completes (.stepAccept dt (.regs req)) s fun t =>
        t.time.stepAt = some (firstTally s.rate ((s.advance dt).ns + 1000000)) ∧ t.time.stepPending = true
          ∧ t.out.head? = some (.answer req 0 [firstTally s.rate ((s.advance dt).ns + 1000000)])
          ∧ t.time.stepDelta = s.time.stepDelta ∧ SameHold s t)
    ∧ (s.time.stepPending = false →
      Completes (.stepAccept dt (.regs req)) s fun t =>
        t.out = .answer req 0 [0] :: s.out ∧ t.time = (s.advance dt).time ∧ SameRegs s t ∧ SameHold s t)
    ∧ (s.time.stepPending = true → s.time.stepAt = none →
      Completes (.stepReject dt (.regs req)) s fun t =>
        t.time.stepPending = false ∧ t.pair Reg.TIME_STEP = 0 ∧ t.time.servo = s.time.servo
          ∧ t.out.head? = some (.answer req 0 [0]) ∧ SameHold s t)
    ∧ (s.time.stepPending = true → s.time.stepAt = none → s.serviceMode = false →
      Completes (.stepAccept dt (.pier n)) s fun t =>
        t.time.stepAt = some (firstTally s.rate ((s.advance dt).ns + 1000000)) ∧ t.time.stepPending = true ∧ SameHold s t)
    ∧ (s.time.stepPending = false →
      Completes (.stepReject dt (.regs req)) s fun t => t.time = (s.advance dt).time ∧ SameRegs s t ∧ SameHold s t)
    ∧ (s.time.stepAt = some n → s.tp n ≤ (s.advance dt).ns → s.cues.slots = [] →
      Completes (.stepApply dt) s fun t =>
        t.time.led = (((s.advance dt).time.led : Int) + s.time.stepDelta * (ledNs : Nat)).toNat ∧ t.time.stepAt = none
          ∧ t.time.stepPending = false ∧ t.pair Reg.TIME_STEP = 0 ∧ SameHold s t)

/-- R52, R49, R50, R53, R55 to R60: a valid write of TIME_PORT_CTRL takes its fields and a new mode starts its role, an invalid
one changes nothing and is counted. A PTP message of another domain is ignored; the first Announce on a slave-only port is
the best so far and leaves its role, the second from that sender makes it a slave; a master answers a Delay_Req with its
receive stamp; a two-step Sync of the port's master leaves its stamp; the answer to the port's own Delay_Req gives the path
delay. A Sync of a master and a Delay_Req of a slave leave at their interval with their departure time in them. In MODE 4 a
stamp enters the queue, or is dropped and counted at the 65th, and a read of W3 removes the head. -/
def Obligations.PtpPorts : Prop :=
  ∀ (dt seqId dom ty r sn src : Nat) (uni : Bool) (req : Requester) (p : Fin 8) (v : Word) (msg : PtpMessage)
    (ds old : PtpDataset) (t1 t3 t4 corr : Int) (s : State), s.watch.core = true →
    (portCtrlOk p v.toNat = true → (s.ptpPort p).role ≠ .slave → s.portMode p ≠ 5 →
      Completes (.portCtrlWrite dt req p v) s fun t =>
        t.rn (Reg.TIME_PORT_CTRL p) = bits v.toNat 2 0 + bits v.toNat 27 4 * 16
          ∧ (s.portMode p ≠ 3 → bits v.toNat 2 0 = 3 → (t.ptpPort p).role = .master)
          ∧ (s.portMode p ≠ 1 → bits v.toNat 2 0 = 1 → (t.ptpPort p).role = .listening)
          ∧ RegsBut [Reg.TIME_PORT_CTRL p] s t ∧ SameHold s t)
    ∧ (portCtrlOk p v.toNat = true → (s.ptpPort p).role = .slave → s.portMode p = 1 → bits v.toNat 2 0 = 3 →
      s.logOnly 32 = true →
      Completes (.portCtrlWrite dt req p v) s fun t =>
        t.portMode p = 3 ∧ (t.ptpPort p).role = .master ∧ tabGet? t.time.counts (p + 1) = none ∧ SameHold s t)
    ∧ (portCtrlOk p v.toNat = false →
      Completes (.portCtrlWrite dt req p v) s fun t =>
        t.pair Reg.SYS_ACC_ERR = min (s.pair Reg.SYS_ACC_ERR + 1) (2 ^ 64 - 1) ∧ t.time = (s.advance dt).time
          ∧ RegsBut [Reg.SYS_ACC_ERR, Reg.SYS_ACC_ERR + 4, Reg.SYS_ACC_ERR_ADDR, Reg.SYS_ACC_ERR_INFO] s t ∧ SameHold s t)
    ∧ (s.ptpDomain p ≠ dom →
      Completes (.ptpMessageReceive dt p dom seqId sn src msg) s fun t =>
        t.time = (s.advance dt).time ∧ SameRegs s t ∧ SameHold s t)
    ∧ (s.ptpDomain p = dom → s.portMode p = 1 → (s.ptpPort p).best = none →
      Completes (.ptpMessageReceive dt p dom seqId sn src (.announce ds)) s fun t =>
        (t.ptpPort p).best = some { ds with sender := sn } ∧ (t.ptpPort p).announces = 1
          ∧ (t.ptpPort p).role = (s.ptpPort p).role ∧ (t.ptpPort p).masterAddr = src
          ∧ (t.ptpPort p).lastAnnounce = s.clk + dt ∧ SameRegs s t ∧ SameHold s t)
    ∧ (s.ptpDomain p = dom → s.portMode p = 1 → (s.ptpPort p).best = some old → old.sender = sn →
      (s.ptpPort p).announces = 1 →
      Completes (.ptpMessageReceive dt p dom seqId sn src (.announce ds)) s fun t =>
        (t.ptpPort p).announces = 2 ∧ (t.ptpPort p).role = .slave ∧ SameRegs s t ∧ SameHold s t)
    ∧ (s.ptpDomain p = dom → s.portMode p = 3 → (s.ptpPort p).role = .master → s.macDisabled p = false →
      (s.mac p).sending.isSome = true → (tabGetD (s.mac p).txq 7 []).length < 64 →
      Completes (.ptpMessageReceive dt p dom seqId sn src (.delayReq r uni)) s fun t =>
        (tabGetD (t.mac p).txq 7 []).dropLast = tabGetD (s.mac p).txq 7 []
          ∧ ((tabGetD (t.mac p).txq 7 []).getLast?.map fun f => (f.1, f.2.drop 76))
              = some ("DELAY_RESP", ptpStamp ((s.advance dt).rxStamp p) ++ beBytes 10 r)
          ∧ t.out = s.out ∧ SameRegs s t ∧ SameHold s t)
    ∧ (s.ptpDomain p = dom → s.portMode p = 1 → (s.ptpPort p).best = some ds → ds.sender = sn →
      Completes (.ptpMessageReceive dt p dom seqId sn src (.sync t1 corr true)) s fun t =>
        (t.ptpPort p).syncStamp = (s.advance dt).rxStamp p ∧ (t.ptpPort p).syncCorr = corr
          ∧ (t.ptpPort p).lastSync = s.clk + dt ∧ SameRegs s t ∧ SameHold s t)
    ∧ (s.ptpDomain p = dom → s.portMode p = 1 → (s.ptpPort p).best = some ds → ds.sender = sn →
      (s.ptpPort p).reqStamp = some t3 → (s.ptpPort p).reqSeq = seqId → (s.ptpPort p).syncOrigin = some t1 →
      Completes (.ptpMessageReceive dt p dom seqId sn src (.delayResp t4 corr)) s fun t =>
        (t.ptpPort p).mpd = some ((((s.ptpPort p).syncStamp - t1) + (t4 - corr - t3)) / 2)
          ∧ (t.ptpPort p).reqStamp = none
          ∧ t.rn (Reg.TIME_PORT_MPD p) = unsigned 32 ((((s.ptpPort p).syncStamp - t1) + (t4 - corr - t3)) / 2)
          ∧ RegsBut [Reg.TIME_PORT_MPD p] s t ∧ SameHold s t)
    ∧ (s.portMode p = 1 → (s.ptpPort p).role = .slave → (s.ptpPort p).reqTx = none → s.macDisabled p = false →
      (s.mac p).sending = none → (∀ q : Fin 8, tabGetD (s.mac p).txq q [] = []) → (s.advance dt).paused p 7 = false →
      bit (s.rn (Reg.MAC_CFG p)) 6 = false →
      Completes (.ptpEventTransmit dt p true seqId) s fun t =>
        (t.ptpPort p).reqStamp = some ((s.advance dt).txStamp p) ∧ (t.ptpPort p).reqSeq = seqId
          ∧ (t.ptpPort p).reqTx = some (s.clk + dt)
          ∧ ((t.mac p).sending.map fun f => (f.1, (f.2.drop 76).take 10))
              = some ("DELAY_REQ", ptpStamp ((s.advance dt).txStamp p))
          ∧ SameRegs s t ∧ SameHold s t)
    ∧ (s.portMode p = 3 → (s.ptpPort p).role = .master → (s.ptpPort p).syncTx = none → s.macDisabled p = false →
      (s.mac p).sending = none → (∀ q : Fin 8, tabGetD (s.mac p).txq q [] = []) → (s.advance dt).paused p 7 = false →
      bit (s.rn (Reg.MAC_CFG p)) 6 = false →
      Completes (.ptpEventTransmit dt p false seqId) s fun t =>
        (t.ptpPort p).syncTx = some (s.clk + dt)
          ∧ ((t.mac p).sending.map fun f => (f.1, (f.2.drop 76).take 10)) = some ("SYNC", ptpStamp ((s.advance dt).txStamp p))
          ∧ SameRegs s t ∧ SameHold s t)
    ∧ (s.portMode p = 4 → (tabGetD s.time.rxq p {}).entries.length < 64 →
      Completes (.rxqStamp dt p seqId dom ty false) s fun t =>
        (tabGetD t.time.rxq p {}).entries = (tabGetD s.time.rxq p {}).entries ++
            [{ stamp := toLedger ((s.advance dt).rxStamp p / 65536).toNat,
               fraction := ((s.advance dt).rxStamp p % 65536).toNat,
               lost := min 255 (tabGetD s.time.rxq p {}).lostRun, gap := decide (0 < (tabGetD s.time.rxq p {}).lostRun),
               seqId := seqId, domain := dom, msgType := ty }]
          ∧ (tabGetD t.time.rxq p {}).lostRun = 0 ∧ SameRegs s t ∧ SameHold s t)
    ∧ (s.portMode p = 4 → (tabGetD s.time.rxq p {}).entries.length = 64 →
      Completes (.rxqStamp dt p seqId dom ty false) s fun t =>
        (tabGetD t.time.rxq p {}).entries = (tabGetD s.time.rxq p {}).entries
          ∧ (tabGetD t.time.rxq p {}).lostRun = (tabGetD s.time.rxq p {}).lostRun + 1
          ∧ t.rn (Reg.TIME_RXQ_DROP p) = min (s.rn (Reg.TIME_RXQ_DROP p) + 1) (2 ^ 32 - 1)
          ∧ RegsBut [Reg.TIME_RXQ_DROP p] s t ∧ SameHold s t)
    ∧ (s.portMode p = 4 →
      Completes (.rxqW3Read dt req p) s fun t =>
        (tabGetD t.time.rxq p {}).entries = (tabGetD s.time.rxq p {}).entries.tail
          ∧ t.out = .readData req (Reg.TIME_RXQ_W3 p) (BitVec.ofNat 32 ((s.rxqWords p).getD 3 0)) :: s.out
          ∧ SameRegs s t ∧ SameHold s t)

/-- R69 to R71: an edge in capture mode is stamped and queued, the 17th lost and counted for the next; a read of CAP_HI
removes the head; AT arms a pulse, or with a time already past sets MISSED and leaves the pin idle; MODE 7 and a PERIOD or
WIDTH out of range are ignored and counted; an armed pulse starts at its time, and the next of its period is armed; it ends WIDTH later. -/
def Obligations.TimingPins : Prop :=
  ∀ (dt a : Nat) (req : Requester) (k : Fin 8) (v : Word) (w rising : Bool) (s : State), s.watch.core = true →
    (s.fld (Reg.TIME_TPIN_CTRL k) 2 0 = 3 → (s.tpin k).lastEdge = none → (s.tpin k).caps.length < 16 →
      Completes (.tpinCapture dt k rising false) s fun t =>
        (t.tpin k).caps = (s.tpin k).caps ++ [⟨(s.advance dt).now64, min 255 (s.tpin k).lostRun, decide (0 < (s.tpin k).lostRun)⟩]
          ∧ (t.tpin k).lostRun = 0 ∧ SameRegs s t ∧ SameHold s t)
    ∧ (s.fld (Reg.TIME_TPIN_CTRL k) 2 0 = 3 → (s.tpin k).lastEdge = none → (s.tpin k).caps.length = 16 →
      Completes (.tpinCapture dt k rising false) s fun t =>
        (t.tpin k).caps = (s.tpin k).caps ∧ (t.tpin k).lostRun = (s.tpin k).lostRun + 1 ∧ SameRegs s t ∧ SameHold s t)
    ∧ (Completes (.tpinCapHiRead dt req k) s fun t =>
        (t.tpin k).caps = (s.tpin k).caps.tail
          ∧ t.out = .readData req (Reg.TIME_TPIN_CAP k + 4) (BitVec.ofNat 32 (s.capHead k / 2 ^ 32)) :: s.out
          ∧ SameRegs s t ∧ SameHold s t)
    ∧ (s.fld (Reg.TIME_TPIN_CTRL k) 2 0 = 4 → takeKey s.pairLow req (Reg.TIME_TPIN_AT k) = none → (s.tpin k).armed = none →
      ledgerOk (s.rn (Reg.TIME_TPIN_AT k) + 2 ^ 32 * v.toNat) = true →
      (s.advance dt).ns ≤ ofLedger (s.rn (Reg.TIME_TPIN_AT k) + 2 ^ 32 * v.toNat) →
      Completes (.tpinArm dt req k v) s fun t =>
        (t.tpin k).armed = some (ofLedger (s.rn (Reg.TIME_TPIN_AT k) + 2 ^ 32 * v.toNat)) ∧ (t.tpin k).missed = false
          ∧ t.rd (Reg.TIME_TPIN_AT k + 4) = v ∧ RegsBut [Reg.TIME_TPIN_AT k + 4] s t ∧ SameHold s t)
    ∧ (s.fld (Reg.TIME_TPIN_CTRL k) 2 0 = 4 → takeKey s.pairLow req (Reg.TIME_TPIN_AT k) = none →
      ledgerOk (s.rn (Reg.TIME_TPIN_AT k) + 2 ^ 32 * v.toNat) = true →
      ofLedger (s.rn (Reg.TIME_TPIN_AT k) + 2 ^ 32 * v.toNat) < (s.advance dt).ns →
      Completes (.tpinArm dt req k v) s fun t =>
        (t.tpin k).armed = none ∧ (t.tpin k).missed = true ∧ RegsBut [Reg.TIME_TPIN_AT k + 4] s t ∧ SameHold s t)
    ∧ (bits v.toNat 2 0 ≠ 7 →
      Completes (.tpinCtrlWrite dt req k v) s fun t =>
        t.rn (Reg.TIME_TPIN_CTRL k) = bits v.toNat 3 0 ∧ RegsBut [Reg.TIME_TPIN_CTRL k] s t ∧ SameHold s t)
    ∧ (bits v.toNat 2 0 = 7 →
      Completes (.tpinCtrlWrite dt req k v) s fun t =>
        t.pair Reg.SYS_ACC_ERR = min (s.pair Reg.SYS_ACC_ERR + 1) (2 ^ 64 - 1) ∧ t.time = (s.advance dt).time
          ∧ t.rd (Reg.TIME_TPIN_CTRL k) = s.rd (Reg.TIME_TPIN_CTRL k) ∧ SameHold s t)
    ∧ (20 ≤ v.toNat → v.toNat ≤ 500000000 →
      Completes (.tpinTimingWrite dt req k true v) s fun t =>
        t.rd (Reg.TIME_TPIN_WIDTH k) = v ∧ RegsBut [Reg.TIME_TPIN_WIDTH k] s t ∧ SameHold s t)
    ∧ (1000 ≤ v.toNat → v.toNat ≤ 1000000000 →
      Completes (.tpinTimingWrite dt req k false v) s fun t =>
        t.rd (Reg.TIME_TPIN_PERIOD k) = v ∧ RegsBut [Reg.TIME_TPIN_PERIOD k] s t ∧ SameHold s t)
    ∧ (v.toNat < 20 ∨ 1000000000 < v.toNat →
      Completes (.tpinTimingWrite dt req k w v) s fun t =>
        t.pair Reg.SYS_ACC_ERR = min (s.pair Reg.SYS_ACC_ERR + 1) (2 ^ 64 - 1)
          ∧ RegsBut [Reg.SYS_ACC_ERR, Reg.SYS_ACC_ERR + 4, Reg.SYS_ACC_ERR_ADDR, Reg.SYS_ACC_ERR_INFO] s t ∧ SameHold s t)
    ∧ (s.fld (Reg.TIME_TPIN_CTRL k) 2 0 = 5 → (s.tpin k).armed = some a → (s.tpin k).next = none → (s.tpin k).until_ = none →
      a ≤ (s.advance dt).ns →
      Completes (.tpinPulse dt k) s fun t =>
        t.out = .pin "TPIN" k (!bit (s.rn (Reg.TIME_TPIN_CTRL k)) 3) :: s.out
          ∧ (t.tpin k).armed = some (a + s.rn (Reg.TIME_TPIN_PERIOD k))
          ∧ (t.tpin k).until_ = some (a + s.rn (Reg.TIME_TPIN_WIDTH k)) ∧ SameRegs s t ∧ SameHold s t)
    ∧ ((s.tpin k).armed = none → (s.tpin k).until_ = some a → a ≤ (s.advance dt).ns →
      Completes (.tpinPulse dt k) s fun t =>
        t.out = .pin "TPIN" k (bit (s.rn (Reg.TIME_TPIN_CTRL k)) 3) :: s.out ∧ (t.tpin k).until_ = none
          ∧ SameRegs s t ∧ SameHold s t)

/-- R72 to R77, R395: a codeword is stamped at its bit 0; LTC is lost once; the word-clock error is reported and out of limit
above the audio limit. A snapshot arm in order is queued, one whose ID is 0 refused; at its time every counter latches into
the shadow set. The Lead's resolution fixes the waiting timecode cue of an Escort that it names. -/
def Obligations.TimecodeWordClockAndSnapshots : Prop :=
  ∀ (dt ago id at64 lb code due i : Nat) (c : Cue) (a : SnapArm) (req : Requester) (w : Word) (r : LtcRate) (wr : Fin 3)
    (ppm ph : Int) (tiles car : Bool) (s : State), s.watch.core = true → s.logOnly 34 = true → s.logOnly 35 = true →
    (s.cues.slots = [] → s.fixture.ways = [] →
      Completes (.ltcCodeword dt w r ago) s fun t =>
        t.rd Reg.TIME_LTC_CODE = w ∧ t.pair Reg.TIME_LTC_AT = toLedger ((s.advance dt).ns - ago) % 2 ^ 64
          ∧ t.fld Reg.TIME_LTC_STAT 0 0 = 1 ∧ t.fld Reg.TIME_LTC_STAT 3 1 = r ∧ t.time.ltcSeen = true ∧ SameHold s t)
    ∧ (bit (s.rn Reg.TIME_LTC_STAT) 0 = true →
      Completes (.ltcLost dt) s fun t =>
        t.fld Reg.TIME_LTC_STAT 0 0 = 0 ∧ t.time.led = (s.advance dt).time.led ∧ SameHold s t)
    ∧ (Completes (.wclkMeasurement dt wr ppm ph) s fun t =>
        t.rn Reg.TIME_WCLK_STAT = wr + 4 * (decide (s.time.audioLimit < ppm.natAbs) && wr != 0).toNat
          ∧ t.rn Reg.TIME_WCLK_PPM = unsigned 32 ppm ∧ t.rn Reg.TIME_WCLK_PHASE = unsigned 32 ph
          ∧ t.time = (s.advance dt).time ∧ SameHold s t)
    ∧ (id ≠ 0 → ledgerOk at64 = true → (s.advance dt).ns + 2000000 ≤ ofLedger at64 → s.time.snaps.length < 4 →
      Completes (.snapArm dt (.regs req) id at64 false false) s fun t =>
        t.time.snaps = snapInsert ⟨id, ofLedger at64, false, false⟩ s.time.snaps ∧ t.time.snapState = 1
          ∧ t.out = s.out ∧ RegsBut [Reg.TIME_SNAP_STAT] s t ∧ SameHold s t)
    ∧ (id = 0 ∨ (s.advance dt).ns + 2000000 > ofLedger at64 ∨ 4 ≤ s.time.snaps.length →
      Completes (.snapArm dt (.regs req) id at64 tiles car) s fun t =>
        t.time.snaps = s.time.snaps ∧ t.time.snapState = 3 ∧ t.out = s.out
          ∧ RegsBut [Reg.TIME_SNAP_STAT] s t ∧ SameHold s t)
    ∧ (s.time.snaps = [a] → a.atNs ≤ (s.advance dt).ns →
      Completes (.snapFire dt) s fun t =>
        t.time.snaps = [] ∧ t.time.snapId = a.id ∧ t.time.snapState = 2
          ∧ t.time.shadow = (s.advance dt).pausedRegs.regs.filter (fun e => isCounter e.1) ∧ RegsBut [Reg.TIME_SNAP_STAT] s t ∧ SameHold s t)
    ∧ (s.role ≠ 2 →
      Completes (.tcResolutionReceive dt lb code due) s fun t => t.cues = s.cues ∧ SameRegs s t ∧ SameHold s t)
    ∧ (s.role = 2 → s.cues.slots = [(i, c)] → c.state = 1 → cKind c = 3 → cLabel c = lb → cWord c 2 = code →
      c.fixed = false →
      c.counter ≠ 0 →
      Completes (.tcResolutionReceive dt lb code due) s fun t =>
        t.cues.slots = [(i, { c with dueNs := some due, fixed := true, dueTally := firstTally s.rate due })]
          ∧ RegsBut [Reg.CUE_PENDING] s t ∧ SameHold s t)

/-! ### Sources and calibration -/

/-- R80 to R84: a packet for a receiver that no berth has taken does nothing; a packet of a frame under way writes its
samples, and the pixels that they complete into the buffer in Hold; one with more than three row headers rejects its frame,
counted. R84: an enabled path silent for TIMEOUT loses its UP bit, and with every enabled path silent the source is lost.
R252: a STREAM packet whose check word fails is not consumed; a good one reaches each type-1 receiver of its origin and
stream. -/
def Obligations.SourcePackets : Prop :=
  ∀ (dt m hops : Nat) (i : Fin 32) (p : Fin 2) (k : RtpPacket) (g : Fin 3) (q : StreamPacket) (crc : Word) (b : FrameBuf)
    (s : State), s.watch.core = true → (∀ d ∈ [48, 49, 50, 51, 52, 53, 128, 129, 133, 145], s.logOnly d = true) →
    ((s.rcv i).berth = none →
      Completes (.st2110Packet dt i p k) s fun t => t.pipe = s.pipe ∧ SameRegs s t ∧ SameHold s t)
    ∧ ((s.rcv i).berth.isSome = true → m = mediaOf (s.advance dt).ns k.rtp → bufOf (s.rcv i) m = some b →
      cfgType b.cfg = 0 → pathOn b.cfg p = true → bits (if p.val = 0 then b.cfg.p0Port else b.cfg.p1Port) 25 19 = 0 →
      rtpOctets k ≤ 9000 → s.inReset (.receiver i) = false → bit b.cfg.cfg 15 = false →
      (s.rcv i).discard.contains m = false →
      b.whole = false → k.srds.all (srdOk b.cfg) = true → k.srds.length ≤ 3 →
      ((srdPixels b.cfg k.srds k.payload).foldl (fun x e => tabSet x e.1 e.2) b.samples).length ≠ cfgW b.cfg * cfgH b.cfg →
      Completes (.st2110Packet dt i p k) s fun t =>
        bufOf (t.rcv i) m = some { b with
            samples := (srdPixels b.cfg k.srds k.payload).foldl (fun x e => tabSet x e.1 e.2) b.samples }
          ∧ ∀ a, t.holdByte a = (s.stagePixels { b with
              samples := (srdPixels b.cfg k.srds k.payload).foldl (fun x e => tabSet x e.1 e.2) b.samples }
            ((srdPixels b.cfg k.srds k.payload).map (·.1))).holdByte a)
    ∧ ((s.rcv i).berth.isSome = true → m = mediaOf (s.advance dt).ns k.rtp → cfgType ((s.rcv i).cfgFor m) = 0 →
      pathOn ((s.rcv i).cfgFor m) p = true →
      bits (if p.val = 0 then ((s.rcv i).cfgFor m).p0Port else ((s.rcv i).cfgFor m).p1Port) 25 19 = 0 →
      rtpOctets k ≤ 9000 → s.inReset (.receiver i) = false → bit ((s.rcv i).cfgFor m).cfg 15 = false →
      (s.rcv i).discard.contains m = false → 3 < k.srds.length →
      Completes (.st2110Packet dt i p k) s fun t =>
        t.pair (Reg.ING_SRC_REJECT i) = min (s.pair (Reg.ING_SRC_REJECT i) + 1) (2 ^ 64 - 1)
          ∧ (t.rcv i).fmtErr = true ∧ SameHold s t)
    ∧ ((s.rcv i).berth.isSome = true → cfgType (s.rcv i).cfg ≤ 1 → pathOn (s.rcv i).cfg 0 = true →
      pathQuiet (s.advance dt) (s.rcv i) 0 = true →
      pathOn (s.rcv i).cfg 1 = false ∨ pathQuiet (s.advance dt) (s.rcv i) 1 = true →
      Completes (.pathTimeout dt i 0) s fun t =>
        (t.rcv i).path0.up = false ∧ (t.rcv i).state = 3 ∧ t.fld (Reg.ING_SRC_STATE i) 2 0 = 3 ∧ SameHold s t)
    ∧ ((s.rcv i).berth.isSome = true → cfgType (s.rcv i).cfg ≤ 1 → pathOn (s.rcv i).cfg 0 = true →
      pathQuiet (s.advance dt) (s.rcv i) 0 = true → pathOn (s.rcv i).cfg 1 = true →
      pathQuiet (s.advance dt) (s.rcv i) 1 = false →
      Completes (.pathTimeout dt i 0) s fun t =>
        (t.rcv i).path0.up = false ∧ (t.rcv i).state = (s.rcv i).state ∧ SameHold s t)
    ∧ (packetGood (withCheck (streamPacket hops q) crc) = false →
      Completes (.streamPacketReceive dt g hops q crc) s fun t => t.pipe = s.pipe ∧ SameHold s t)
    ∧ (packetGood (withCheck (streamPacket hops q) crc) = true →
      slkHeaderOk false (withCheck (streamPacket hops q) crc) = true →
      fieldsOk (withCheck (streamPacket hops q) crc) = true → q.origin ≠ s.nodeId → s.takesStream i q = true →
      Completes (.streamPacketReceive dt g hops q crc) s fun t =>
        (t.rcv i).path0.up = true ∧ (t.rcv i).path0.lastSeen = s.clk + dt)

/-- R95, R96, R101, R13: SEL of a still and START of a clip are commits; SEL 1 of a still of one buffer is ignored and
counted, a START that is no ledger time commits nothing. A configuration register of a receiver in use is not written. -/
def Obligations.SourceRegisters : Prop :=
  ∀ (dt : Nat) (req : Requester) (i : Fin 32) (sel : Bool) (v : Word) (s : State), s.watch.core = true → s.asker = none →
    (cfgType (s.rcv i).cfg = 2 → cfgDepth (s.rcv i).cfg = 2 →
      Completes (.stillSelWrite dt req i sel) s fun t =>
        t.pipe.commits.length = s.pipe.commits.length + 1
          ∧ (t.pipe.commits.getLast?.map fun c => (c.stamp, c.kind)) = some ((s.advance dt).stamp16, .stillSel i sel)
          ∧ SameRegs s t ∧ SameHold s t)
    ∧ (cfgType (s.rcv i).cfg = 2 → cfgDepth (s.rcv i).cfg = 1 →
      Completes (.stillSelWrite dt req i true) s fun t =>
        t.pipe = s.pipe ∧ t.pair Reg.SYS_ACC_ERR = min (s.pair Reg.SYS_ACC_ERR + 1) (2 ^ 64 - 1) ∧ SameHold s t)
    ∧ (takeKey s.pairLow req (Reg.ING_SRC_START i) = none →
      ledgerOk (s.rn (Reg.ING_SRC_START i) + 2 ^ 32 * v.toNat) = true →
      Completes (.clipStartWrite dt req i v) s fun t =>
        (t.pipe.commits.getLast?.map fun c => (c.stamp, c.kind))
            = some ((s.advance dt).stamp16, .clipStart i (s.rn (Reg.ING_SRC_START i) + 2 ^ 32 * v.toNat))
          ∧ SameRegs s t ∧ SameHold s t)
    ∧ (takeKey s.pairLow req (Reg.ING_SRC_START i) = none →
      ledgerOk (s.rn (Reg.ING_SRC_START i) + 2 ^ 32 * v.toNat) = false →
      Completes (.clipStartWrite dt req i v) s fun t => t.pipe = s.pipe ∧ SameRegs s t ∧ SameHold s t)
    ∧ ((s.rcv i).state = 0 →
      Completes (.ingSrcCfgWrite dt req i .size v) s fun t =>
        (t.rcv i).cfg = { (s.rcv i).cfg with size := v.toNat } ∧ t.rd (Reg.ING_SRC_SIZE i) = v ∧ SameHold s t)
    ∧ ((s.rcv i).state ≠ 0 → ∀ r ∈ [SrcReg.cfg, .size, .xfer, .p0Addr, .p0Port, .p1Addr, .p1Port, .pqPeak],
      Completes (.ingSrcCfgWrite dt req i r v) s fun t =>
        t.pipe = s.pipe ∧ t.pair Reg.SYS_ACC_ERR = min (s.pair Reg.SYS_ACC_ERR + 1) (2 ^ 64 - 1)
          ∧ RegsBut [Reg.SYS_ACC_ERR, Reg.SYS_ACC_ERR + 4, Reg.SYS_ACC_ERR_ADDR, Reg.SYS_ACC_ERR_INFO] s t ∧ SameHold s t)

/-- R142, R150, R155, R156: the calibration enables, a bin profile and a brightness are commits stamped at their write; the
profile selected shows in its window unless a commit is pending; a target above 4,096, and AMBIENT over points that do not
rise, are ignored and counted. Once a second the ambient input sets a target and ramp from the tally of the edge, when it
moved by more than DEADBAND. -/
def Obligations.CalibrationCommits : Prop :=
  ∀ (dt k : Nat) (req : Requester) (v : Word) (s : State), s.watch.core = true → s.asker = none →
    (Completes (.calCtrlWrite dt req v) s fun t =>
        t.rn Reg.CAL_CTRL = bits v.toNat 2 0
          ∧ (t.pipe.commits.getLast?.map fun c => (c.stamp, c.kind)) = some ((s.advance dt).stamp16, .calCtrl (bits v.toNat 2 0))
          ∧ t.cal = s.cal ∧ RegsBut [Reg.CAL_CTRL] s t ∧ SameHold s t)
    ∧ (bit (s.rn Reg.CAL_BIN_STAT) 0 = false → (s.bin (bits v.toNat 7 0)).length = 64 →
      Completes (.binSelWrite dt req v) s fun t =>
        t.rn Reg.CAL_BIN_SEL = bits v.toNat 7 0
          ∧ (∀ x : Fin 64, t.rn (Reg.CAL_BIN_WIN x) = (s.bin (bits v.toNat 7 0)).getD x 0 % 2 ^ 32) ∧ SameHold s t)
    ∧ (bit (s.rn Reg.CAL_BIN_STAT) 0 = true →
      Completes (.binSelWrite dt req v) s fun t =>
        t.pair Reg.SYS_ACC_ERR = min (s.pair Reg.SYS_ACC_ERR + 1) (2 ^ 64 - 1)
          ∧ RegsBut [Reg.SYS_ACC_ERR, Reg.SYS_ACC_ERR + 4, Reg.SYS_ACC_ERR_ADDR, Reg.SYS_ACC_ERR_INFO] s t ∧ SameHold s t)
    ∧ (Completes (.binCommit dt req) s fun t =>
        t.fld Reg.CAL_BIN_STAT 0 0 = 1
          ∧ (t.pipe.commits.getLast?.map fun c => (c.stamp, c.kind)) = some ((s.advance dt).stamp16,
              .binProfile (s.fld Reg.CAL_BIN_SEL 7 0) (s.rdWords (Reg.CAL_BIN_WIN 0) 64))
          ∧ RegsBut [Reg.CAL_BIN_STAT] s t ∧ SameHold s t)
    ∧ (v.toNat ≤ 4096 →
      Completes (.brightTargetWrite dt req v) s fun t =>
        t.rd Reg.CAL_BRIGHT_TARGET = v
          ∧ (t.pipe.commits.getLast?.map fun c => (c.stamp, c.kind))
              = some ((s.advance dt).stamp16, .bright v.toNat (s.fld Reg.CAL_BRIGHT_RAMP 15 0))
          ∧ RegsBut [Reg.CAL_BRIGHT_TARGET] s t ∧ SameHold s t)
    ∧ (4096 < v.toNat →
      Completes (.brightTargetWrite dt req v) s fun t =>
        t.pipe = s.pipe ∧ t.rd Reg.CAL_BRIGHT_TARGET = s.rd Reg.CAL_BRIGHT_TARGET
          ∧ t.pair Reg.SYS_ACC_ERR = min (s.pair Reg.SYS_ACC_ERR + 1) (2 ^ 64 - 1) ∧ SameHold s t)
    ∧ (s.ambRising = true →
      Completes (.ambCfgWrite dt req v) s fun t =>
        t.rd Reg.CAL_AMB_CFG = v ∧ RegsBut [Reg.CAL_AMB_CFG] s t ∧ SameHold s t)
    ∧ (s.ambRising = false → bit v.toNat 0 = true →
      Completes (.ambCfgWrite dt req v) s fun t =>
        t.rd Reg.CAL_AMB_CFG = s.rd Reg.CAL_AMB_CFG
          ∧ t.pair Reg.SYS_ACC_ERR = min (s.pair Reg.SYS_ACC_ERR + 1) (2 ^ 64 - 1) ∧ SameHold s t)
    ∧ (s.pipe.edge = some k → bit (s.rn Reg.CAL_AMB_CFG) 0 = true → s.role = 0 → s.cal.ambSecond = none →
      s.edge (k - 1) / 1000000000 < s.edge k / 1000000000 →
      bits (s.rn Reg.CAL_AMB_CFG) 15 4 < absDiff
        (s.ambTarget (s.fld (Reg.WATCH_VAL (bits (s.rn Reg.CAL_AMB_CFG) 3 1)) 11 0)) (s.fld Reg.CAL_BRIGHT_TARGET 12 0) →
      Completes (.ambientUpdate dt) s fun t =>
        t.rn Reg.CAL_BRIGHT_TARGET
            = s.ambTarget (s.fld (Reg.WATCH_VAL (bits (s.rn Reg.CAL_AMB_CFG) 3 1)) 11 0) % 2 ^ 32
          ∧ t.rn Reg.CAL_BRIGHT_EFF = (k + s.lag) % 2 ^ 32 ∧ t.cal.ambSecond = some (s.edge k / 1000000000)
          ∧ RegsBut [Reg.CAL_BRIGHT_TARGET, Reg.CAL_BRIGHT_EFF] s t ∧ SameHold s t)

/-- R152, R153, R191, R235: for each present tile the newest temperature that qualifies is latched 50 µs before the raster;
with none the last is held and counted. A status of another epoch is dropped and counted; a status of a tile in its place is
kept with the clock of its arrival. Stated with one tile. -/
def Obligations.TileTemperatureAndStatus : Prop :=
  ∀ (dt n key pos ep : Nat) (k : Fin 2048) (l : Fin 24) (e : TileEntry) (f : Found) (x : Nat × Int × Nat) (st : TileStatus)
    (s : State), s.watch.core = true → s.logOnly 83 = true → s.logOnly 84 = true → s.logOnly 85 = true →
    s.scan.entries = [(k.val, e)] → e.present = true →
    (s.rasterPoint n - 50000 ≤ (s.advance dt).ns → e.temps = [x] →
      s.rasterPoint n - 1200000 ≤ x.1 → x.1 ≤ s.rasterPoint n - 200000 → x.2.2 ≤ (s.rasterPoint n - 50000) * 65536 →
      Completes (.tempLatch dt n) s fun t =>
        (t.tileEntry k).temp = some x.2.1 ∧ (t.tileEntry k).heldSince = none
          ∧ t.pair Reg.CAL_TEMP_HELD = s.pair Reg.CAL_TEMP_HELD ∧ SameHold s t)
    ∧ (s.rasterPoint n - 50000 ≤ (s.advance dt).ns → e.temps = [] → e.heldSince = none →
      Completes (.tempLatch dt n) s fun t =>
        t.pair Reg.CAL_TEMP_HELD = min (s.pair Reg.CAL_TEMP_HELD + 1) (2 ^ 64 - 1)
          ∧ (t.tileEntry k).temp = e.temp ∧ (t.tileEntry k).heldSince = some (s.clk + dt) ∧ SameHold s t)
    ∧ (s.scan.found = [(key, f)] → key / 64 = l → f.pos = pos → e.pos = pos → f.ident = e.ident →
      (s.sendLanes k).contains l.val = true → ep ≠ e.epoch →
      Completes (.tileStatusReceive dt l pos ep st) s fun t =>
        t.pair Reg.SCAN_STALE = min (s.pair Reg.SCAN_STALE + 1) (2 ^ 64 - 1) ∧ t.scan = s.scan ∧ SameHold s t)
    ∧ (s.scan.found = [(key, f)] → key / 64 = l → f.pos = pos → e.pos = pos → f.ident = e.ident →
      (s.sendLanes k).contains l.val = true → st.needDiscovery = false → st.tempValid = false →
      Completes (.tileStatusReceive dt l pos e.epoch st) s fun t =>
        (t.tileEntry k).status = some st ∧ (t.tileEntry k).lastStatus = s.clk + dt
          ∧ (t.tileEntry k).statusAt = (s.advance dt).stamp16 ∧ SameHold s t)

/-- R160 to R163, R167: an upload waiting for staging takes its area and pulls the header, or goes on waiting; image bytes
of another epoch are dropped and counted, those of the entries stand in the area; an image not whole in 2 s counts a failed
attempt; the accepted image is copied in the blanking before its tally. In a twin the Lead announces the later of the two
tallies, from which the Escort applies its image unless its own is later, when it reports that it is not ready. A reload of
a tile that declares no image finds none. -/
def Obligations.CalibrationUploads : Prop :=
  ∀ (dt u n tally off pos : Nat) (l : Fin 24) (k : Fin 2048) (data : List Byte) (req : Requester) (v : Word) (e : TileEntry)
    (s : State), s.watch.core = true → s.logOnly 68 = true → s.tileEntry k = e →
    (e.upload.step = 1 → e.present = true → e.lane < 24 → (s.advance dt).linkFree (8 + e.lane) = true →
      ((s.advance dt).stageAlloc (ceilDiv (e.upload.width * e.upload.height * 12) 65536)).map (·.1) = some u →
      Completes (.calUploadStart dt k) s fun t =>
        (t.tileEntry k).upload.step = 2 ∧ (t.tileEntry k).upload.unit = u ∧ (t.tileEntry k).upload.started = s.clk + dt
          ∧ (t.tileEntry k).cal = 1
          ∧ t.sent = .message "CAL_PULL" e.lane ((calPullPacket (s.towardA e.lane) e.pos e.epoch 0 32).map (·.toNat)) :: s.sent
          ∧ SameHold s t)
    ∧ (e.upload.step = 1 → e.present = true →
      ((s.advance dt).stageAlloc (ceilDiv (e.upload.width * e.upload.height * 12) 65536)).isNone = true →
      Completes (.calUploadStart dt k) s fun t =>
        (t.tileEntry k).upload.step = 1 ∧ (t.tileEntry k).cal = 5 ∧ t.out = s.out ∧ SameHold s t)
    ∧ (s.entryAt l pos = some k.val →
      Completes (.calDataReceive dt l pos (e.epoch + 1) off data) s fun t =>
        t.pair Reg.CAL_STALE = min (s.pair Reg.CAL_STALE + 1) (2 ^ 64 - 1) ∧ t.scan = s.scan ∧ SameHold s t)
    ∧ (s.entryAt l pos = some k.val → e.upload.step = 3 → 32 ≤ off → data ≠ [] →
      off + data.length ≤ e.upload.width * e.upload.height * 12 + 32 →
      runInsert (off - 32) data.length e.upload.got ≠ [(0, e.upload.width * e.upload.height * 12)] →
      Completes (.calDataReceive dt l pos e.epoch off data) s fun t =>
        (∀ b, t.holdByte b = if s.unitAddr e.upload.unit + (off - 32) ≤ b ∧ b < s.unitAddr e.upload.unit + (off - 32) + data.length
            then data.getD (b - (s.unitAddr e.upload.unit + (off - 32))) 0#8 else s.holdByte b)
          ∧ (t.tileEntry k).upload.got = runInsert (off - 32) data.length e.upload.got)
    ∧ (e.upload.step = 2 → s.clk + dt ≥ e.upload.started + sec 2 → e.upload.attempts < 2 →
      Completes (.calUploadTimeout dt k) s fun t =>
        (t.tileEntry k).upload.attempts = e.upload.attempts + 1 ∧ (t.tileEntry k).upload.step = 2
          ∧ (t.tileEntry k).upload.started = s.clk + dt
          ∧ t.pair Reg.CAL_UPLOAD_FAIL = min (s.pair Reg.CAL_UPLOAD_FAIL + 1) (2 ^ 64 - 1) ∧ SameHold s t)
    ∧ (e.upload.step = 4 → e.upload.eff = some n → s.rasterStop (n - 1) ≤ (s.advance dt).ns →
      Completes (.calCopyIn dt k) s fun t =>
        (t.tileEntry k).cal = 2 ∧ (t.tileEntry k).stored.isSome = true ∧ (t.tileEntry k).upload.step = 0
          ∧ (t.tileEntry k).place = none)
    ∧ (e.upload.eff = none → e.upload.peer = some n → s.role = 2 → s.rasterStop (n - 1) ≤ (s.advance dt).ns →
      Completes (.calCopyIn dt k) s fun t =>
        (t.tileEntry k).upload = { e.upload with peer := none } ∧ SameHold s t)
    ∧ (bit v.toNat 31 = true → bits v.toNat 10 0 = k.val → e.present = true → e.calSize = 0 →
      Completes (.tileReload dt req v) s fun t =>
        (t.tileEntry k).cal = 3 ∧ (t.tileEntry k).upload.step = 0 ∧ (t.tileEntry k).upload.attempts = 0 ∧ SameHold s t)
    ∧ (bit v.toNat 31 = false →
      Completes (.tileReload dt req v) s fun t => t.scan = s.scan ∧ SameRegs s t ∧ SameHold s t)
    ∧ (s.role = 2 → e.upload.step = 4 → e.upload.own ≤ tally →
      Completes (.calTallyAnnounce dt k tally) s fun t =>
        (t.tileEntry k).upload.eff = some tally ∧ t.out = s.out ∧ SameHold s t)
    ∧ (s.role = 2 → e.upload.step = 4 → tally < e.upload.own →
      Completes (.calTallyAnnounce dt k tally) s fun t =>
        (t.tileEntry k).upload = { e.upload with peer := some tally } ∧ t.out = s.out ∧ SameHold s t)
    ∧ (s.role = 1 → e.upload.step = 4 →
      Completes (.calTallyAnnounce dt k tally) s fun t =>
        (t.tileEntry k).upload.eff = some (max tally e.upload.own) ∧ SameHold s t)

/-! ### Scan-out and tiles -/

/-- R168, R177, Table 06.6: the tile-map entry selected shows in its window unless a commit is pending; its commit, a chain
length, a sub-frame count from 1 to 32 and the hold settings are commits stamped at their write; other sub-frame counts do
nothing, hold settings out of range are ignored as a whole and counted. -/
def Obligations.ScanCommits : Prop :=
  ∀ (dt : Nat) (req : Requester) (l : Fin 24) (v : Word) (s : State), s.watch.core = true → s.asker = none →
    (bit (s.rn Reg.SCAN_MAP_STAT) 0 = false →
      Completes (.mapSelWrite dt req v) s fun t =>
        t.rn Reg.SCAN_MAP_SEL = bits v.toNat 10 0
          ∧ (∀ x : Fin 8, t.rn (Reg.SCAN_MAP_WIN x) = (s.mapWords (bits v.toNat 10 0)).getD x 0 % 2 ^ 32)
          ∧ t.scan = s.scan ∧ SameHold s t)
    ∧ (bit (s.rn Reg.SCAN_MAP_STAT) 0 = true →
      Completes (.mapSelWrite dt req v) s fun t =>
        t.pair Reg.SYS_ACC_ERR = min (s.pair Reg.SYS_ACC_ERR + 1) (2 ^ 64 - 1)
          ∧ RegsBut [Reg.SYS_ACC_ERR, Reg.SYS_ACC_ERR + 4, Reg.SYS_ACC_ERR_ADDR, Reg.SYS_ACC_ERR_INFO] s t ∧ SameHold s t)
    ∧ (Completes (.mapCommit dt req) s fun t =>
        t.fld Reg.SCAN_MAP_STAT 0 0 = 1
          ∧ (t.pipe.commits.getLast?.map fun c => (c.stamp, c.kind)) = some ((s.advance dt).stamp16,
              .mapEntry (s.fld Reg.SCAN_MAP_SEL 10 0) (s.rdWords (Reg.SCAN_MAP_WIN 0) 8))
          ∧ t.scan = s.scan ∧ RegsBut [Reg.SCAN_MAP_STAT] s t ∧ SameHold s t)
    ∧ (Completes (.linkCfgWrite dt req l v) s fun t =>
        t.rn (Reg.SCAN_LINK_CFG l) = bits v.toNat 6 0 ∧ t.fld Reg.SCAN_MAP_STAT 0 0 = 1
          ∧ (t.pipe.commits.getLast?.map fun c => (c.stamp, c.kind)) = some ((s.advance dt).stamp16, .linkCfg l (bits v.toNat 6 0))
          ∧ t.scan = s.scan ∧ RegsBut [Reg.SCAN_LINK_CFG l, Reg.SCAN_MAP_STAT] s t ∧ SameHold s t)
    ∧ (1 ≤ v.toNat → v.toNat ≤ 32 →
      Completes (.subframeWrite dt req v) s fun t =>
        t.rd Reg.SCAN_SUBFRAME = v ∧ t.scan = s.scan
          ∧ (t.pipe.commits.getLast?.map fun c => (c.stamp, c.kind)) = some ((s.advance dt).stamp16, .subframe v.toNat)
          ∧ RegsBut [Reg.SCAN_SUBFRAME] s t ∧ SameHold s t)
    ∧ (v.toNat = 0 ∨ 32 < v.toNat →
      Completes (.subframeWrite dt req v) s fun t => t.pipe = s.pipe ∧ SameRegs s t ∧ SameHold s t)
    ∧ (bits v.toNat 11 4 ≠ 0 → 16 ≤ bits v.toNat 24 13 →
      Completes (.scanCtrlWrite dt req v) s fun t =>
        t.rn Reg.SCAN_CTRL = (bit v.toNat 0).toNat + 16 * bits v.toNat 11 4 + 2 ^ 13 * bits v.toNat 24 13
          ∧ t.pipe.commits.length = s.pipe.commits.length + 1 ∧ t.scan = s.scan ∧ RegsBut [Reg.SCAN_CTRL] s t
          ∧ SameHold s t)
    ∧ (bits v.toNat 11 4 = 0 ∨ bits v.toNat 24 13 < 16 →
      Completes (.scanCtrlWrite dt req v) s fun t =>
        t.pipe = s.pipe ∧ t.rd Reg.SCAN_CTRL = s.rd Reg.SCAN_CTRL
          ∧ t.pair Reg.SYS_ACC_ERR = min (s.pair Reg.SYS_ACC_ERR + 1) (2 ^ 64 - 1) ∧ SameHold s t)

/-- R174, R183, R186, R259, R181, R239, R190, R191: the first copy of a token leaves on every linked tile lane 10 µs after
the raster's end, with ABORT counted; after the second a lane whose tiles are all held sleeps; a lane in low-power idle sends
a refresh with a BEACON each 20 µs and wakes before it sends; a chain that reads as broken for 200 µs is reported at its
ends; a walk asks hop 0, and again after 1 ms; a tile whose descriptor was asked for is found and assigned its position, and
without an entry counted as unmapped; a descriptor not asked for is dropped and counted; a tile silent for 200 µs is lost.
What is sent is stated for a link free to send it at once. -/
def Obligations.ChainTraffic : Prop :=
  ∀ (dt n hop ep a b : Nat) (l : Fin 24) (k : Fin 2048) (d : Descriptor) (p : LpiState) (s : State), s.watch.core = true →
    (∀ e ∈ [80, 81, 85], s.logOnly e = true) →
    (s.pipe.raster = some n → s.rasterStop n + 10000 ≤ (s.advance dt).ns → s.inReset .scanout = false → s.time.armed = true →
      Completes (.tokenSend dt n false) s fun t =>
        (∀ q : Fin 24, s.laneRole q = 5 → s.linked q = true → (s.advance dt).linkFree (8 + q) = true →
          .message "TOKEN" q ((tokenPacket (s.token q n false)).map (·.toNat)) ∈ t.out)
          ∧ t.pair Reg.SCAN_ABORT_TOK = min (s.pair Reg.SCAN_ABORT_TOK + s.pipe.aborted.toNat) (2 ^ 64 - 1)
          ∧ t.scan = s.scan ∧ SameHold s t)
    ∧ (s.pipe.raster = some n → s.rasterStop n + 30000 ≤ (s.advance dt).ns → s.inReset .scanout = false →
      s.time.armed = true →
      s.laneRole l = 5 → s.linked l = true → (s.advance dt).laneHeld l n = true →
      Completes (.tokenSend dt n true) s fun t =>
        (t.lpi l).idle = true ∧ t.fld (Reg.SCAN_LINK_STAT l) 14 14 = 1 ∧ t.scan = s.scan ∧ SameHold s t)
    ∧ (s.lpi l = p → p.idle = true → p.lastRefresh + us 20 ≤ s.clk + dt →
      Completes (.lpiRefresh dt l) s fun t =>
        t.lpi l = { p with lastRefresh := s.clk + dt } ∧ (t.lane l).tx = .squelched ∧ SameHold s t
          ∧ ((s.advance dt).txIdle (8 + l) = true → s.linked l = true → (s.lane l).tx = .squelched →
            t.sent = [.message "LANE_TX" l [0],
              .message "BEACON" l ((beaconPacket (s.towardA l) s.role s.nodeId).map (·.toNat)),
              .message "LPI_REFRESH" l (idleBlock.bytes.map (·.toNat)), .message "LANE_TX" l [1]] ++ s.sent))
    ∧ (s.lpi l = p → p.idle = true →
      Completes (.lpiWake dt l) s fun t =>
        t.sent.head? = some (.message "WAKE" l ((controlBlock 0x87 []).bytes.map (·.toNat)))
          ∧ t.lpi l = { p with idle := false, wakeUntil := s.clk + dt + us 10 }
          ∧ t.fld (Reg.SCAN_LINK_STAT l) 14 14 = 0 ∧ RegsBut [Reg.SCAN_LINK_STAT l] s t ∧ SameHold s t)
    ∧ (s.chainBroken l = true → tabGet? s.scan.breakSince l = some a → a + us 200 ≤ s.clk + dt →
      Completes (.chainBreak dt l) s fun t => t.fld (Reg.SCAN_LINK_STAT l) 13 13 = 1 ∧ t.scan = s.scan ∧ SameHold s t)
    ∧ (s.laneRole l = 5 → s.linked l = true →
      Completes (.chainWalk dt l) s fun t =>
        t.walk l = ⟨0, [0], s.clk + dt⟩ ∧ SameHold s t
          ∧ ((s.advance dt).linkFree (8 + l) = true →
            t.sent = .message "DISCOVER" l ((discoverPacket (s.towardA l) 0 s.nodeId).map (·.toNat)) :: s.sent ∧ SameRegs s t))
    ∧ (s.laneRole l = 5 → s.linked l = true → s.walk l = ⟨a, [hop], b⟩ → b + ms 1 ≤ s.clk + dt → s.scan.entries = [] →
      Completes (.discoverRetry dt l) s fun t =>
        t.walk l = ⟨a, [hop], s.clk + dt⟩ ∧ SameHold s t
          ∧ ((s.advance dt).linkFree (8 + l) = true →
            t.sent = .message "DISCOVER" l ((discoverPacket (s.towardA l) hop s.nodeId).map (·.toNat)) :: s.sent
              ∧ SameRegs s t))
    ∧ ((s.walk l).asked = [hop] → s.scan.live = [] → s.chainLen l ≤ hop + 1 →
      Completes (.descriptorReceive dt l hop ep d) s fun t =>
        tabGet? t.scan.found (l * 64 + hop) = some ⟨d.ident, ep, s.posAt l hop, none, d.width, d.height, d.calSize, d.ranges,
            s.clk + dt, 4, 4⟩
          ∧ (t.walk l).asked = [] ∧ SameHold s t
          ∧ ((s.advance dt).linkFree (8 + l) = true →
            t.sent = .message "ASSIGN" l ((assignPacket (s.towardA l) ep hop (s.posAt l hop) (s.chainLen l) d.ident
                s.nodeId).map (·.toNat)) :: s.sent
              ∧ RegsBut [Reg.SCAN_STAT, Reg.SCAN_UNMAPPED] s t))
    ∧ ((s.walk l).asked = [] → s.scan.found = [] →
      Completes (.descriptorReceive dt l hop ep d) s fun t =>
        t.pair Reg.SCAN_STALE = min (s.pair Reg.SCAN_STALE + 1) (2 ^ 64 - 1) ∧ t.scan = s.scan ∧ SameHold s t)
    ∧ ((s.tileEntry k).present = true → (s.tileEntry k).lastStatus + us 200 ≤ s.clk + dt →
      Completes (.tileLost dt k) s fun t =>
        (t.tileEntry k).state = 3 ∧ (t.tileEntry k).held = false
          ∧ t.pair Reg.SCAN_TILE_LOST = min (s.pair Reg.SCAN_TILE_LOST + 1) (2 ^ 64 - 1) ∧ SameHold s t)

/-- R170, R175, R176, R178, R180, R250: a tile counts and drops a packet that fails its CRC, one of another epoch and a
copy, and keeps a new segment of the tally it receives; with its time locked it takes a token's contents; at the emission
start it displays a whole tally with a token, keeps its frame when ABORT says so, and counts one that is not whole; each
sub-frame emits what the tile shows; without a token for LOSS_HOLD ms it shows black. Stated for a tile with no snapshot
armed. -/
def Obligations.TileFrames : Prop :=
  ∀ (dt k n i : Nat) (port : Bool) (p : PixelPacket) (q : Token) (crc : Word) (x : Tile) (s : State),
    tabGet? s.tiles k = some x → x.snaps = [] →
    (packetGood (withCheck (pixelPacket p) crc) = false →
      Completes (.tilePixelReceive dt k port p crc) s fun t =>
        tabGet? t.tiles k = some (x.count 1) ∧ SameRegs s t ∧ SameHold s t)
    ∧ (tileKeeps (withCheck (pixelPacket p) crc) = true → x.pos = some p.pos → p.epoch ≠ x.epoch →
      Completes (.tilePixelReceive dt k port p crc) s fun t =>
        (tabGet? t.tiles k).map (fun y => (y.counters, y.segs)) = some ((x.count 3).counters, x.segs) ∧ SameRegs s t
          ∧ SameHold s t)
    ∧ (tileKeeps (withCheck (pixelPacket p) crc) = true → x.pos = some p.pos → p.epoch = x.epoch → x.segmentOk p = true →
      x.rx = some p.tally → tabGet? x.segs (p.line * 4 + p.segment) = none →
      Completes (.tilePixelReceive dt k port p crc) s fun t =>
        (tabGet? t.tiles k).map (fun y => (y.counters, y.segs, y.rx))
            = some ((x.count 0).counters, tabSet x.segs (p.line * 4 + p.segment) p.pixels, some p.tally)
          ∧ SameRegs s t ∧ SameHold s t)
    ∧ (tileKeeps (withCheck (pixelPacket p) crc) = true → x.pos = some p.pos → p.epoch = x.epoch → x.segmentOk p = true →
      x.rx = some p.tally → (tabGet? x.segs (p.line * 4 + p.segment)).isSome = true →
      Completes (.tilePixelReceive dt k port p crc) s fun t =>
        (tabGet? t.tiles k).map (fun y => (y.counters, y.segs)) = some ((x.count 2).counters, x.segs) ∧ SameRegs s t
          ∧ SameHold s t)
    ∧ (tileKeeps (withCheck (pixelPacket p) crc) = true → x.pos = some p.pos → p.epoch = x.epoch → x.segmentOk p = true →
      x.rx = some n → newer32 p.tally n = true →
      Completes (.tilePixelReceive dt k port p crc) s fun t =>
        (tabGet? t.tiles k).map (fun y => (y.segs, y.rx)) = some ([(p.line * 4 + p.segment, p.pixels)], some p.tally)
          ∧ SameRegs s t ∧ SameHold s t)
    ∧ (tileKeeps (withCheck (tokenPacket q) crc) = true → x.locked = true →
      Completes (.tileTokenReceive dt k port q crc) s fun t =>
        (tabGet? t.tiles k).map (fun y => (y.last, y.lastToken, y.lossBlack, y.counters))
            = some (some q, s.clk + dt, false, (x.count 4).counters)
          ∧ SameRegs s t ∧ SameHold s t)
    ∧ (tileKeeps (withCheck (tokenPacket q) crc) = true → x.locked = false →
      Completes (.tileTokenReceive dt k port q crc) s fun t =>
        (tabGet? t.tiles k).map (fun y => (y.last, y.toks, y.counters, (y.port port).heardAt))
            = some (x.last, x.toks, x.counters, some (s.clk + dt))
          ∧ SameRegs s t ∧ SameHold s t)
    ∧ (x.toks = [q] → q.tally = n → q.abort = false → n < 2 ^ 32 → x.rx = some n → x.segs.length = x.segments →
      onGrid (s.advance dt).ns (ofLedger q.tp + q.emitOffset) = true →
      Completes (.tileEmissionStart dt k n) s fun t =>
        (tabGet? t.tiles k).map (fun y => (y.frame, y.shown, y.counters, y.gridAt, y.gridPeriod, y.gridSubs))
            = some (some x.segs, n, x.counters, ofLedger q.tp + q.emitOffset, q.period, q.subframes)
          ∧ SameRegs s t ∧ SameHold s t)
    ∧ (x.toks = [q] → q.tally = n → q.abort = true → n < 2 ^ 32 →
      onGrid (s.advance dt).ns (ofLedger q.tp + q.emitOffset) = true →
      Completes (.tileEmissionStart dt k n) s fun t =>
        (tabGet? t.tiles k).map (fun y => (y.frame, y.shown, y.counters)) = some (x.frame, x.shown, x.counters)
          ∧ SameRegs s t ∧ SameHold s t)
    ∧ (x.toks = [q] → q.tally = n → q.abort = false → q.hold = 0 → n < 2 ^ 32 → x.rx = none →
      onGrid (s.advance dt).ns (ofLedger q.tp + q.emitOffset) = true →
      Completes (.tileEmissionStart dt k n) s fun t =>
        (tabGet? t.tiles k).map (fun y => (y.frame, y.shown, y.counters, y.newInc, y.incTally))
            = some (x.frame, x.shown, (x.count 5).counters, true, n)
          ∧ SameRegs s t ∧ SameHold s t)
    ∧ (i < x.gridSubs → onGrid (s.advance dt).ns (x.gridAt + i * x.gridPeriod / x.gridSubs) = true →
      Completes (.tileSubframe dt k i) s fun t =>
        t.out = .message "EMIT" k ([x.shown, i] ++ x.display.flatMap fun p => [p.1, p.2.1, p.2.2]) :: s.out
          ∧ tabGet? t.tiles k = some x ∧ SameRegs s t ∧ SameHold s t)
    ∧ (x.last = some q → q.lossHold ≠ 0 → x.lastToken + ms q.lossHold ≤ s.clk + dt → x.lossBlack = false →
      Completes (.tileLossBlack dt k) s fun t =>
        tabGet? t.tiles k = some ({ x with lossBlack := true }.count 6) ∧ SameRegs s t ∧ SameHold s t)

/-- R234 to R238, R246, R247, R259, R260: a linked tile sends its status on its ports; a port that links or drops asks for
discovery; a DISCOVER with hops left goes on with one less, and one for the tile raises its epoch and is answered; an ASSIGN
of its identity and epoch gives its position, another position under the same epoch is a conflict; a pull is answered within
the image and not beyond it; a SNAP before its time is armed; SLEEP, refresh and WAKE are followed, and a port asleep without
a refresh for 30 µs wakes. Stated for a tile with no snapshot armed and one port linked, what it sends for a link free to
send it at once. -/
def Obligations.TileDiscoveryAndStatus : Prop :=
  ∀ (dt k r hops pos len id off n at64 from_ : Nat) (tp : Option Int) (port toward : Bool) (info : TileInfo) (crc : Word)
    (x : Tile) (s : State), (x.port (!port)).linked = false → tabGet? s.tiles k = some x → x.snaps = [] →
    ((x.port port).linked = true → x.lastStatus = none →
      Completes (.tileStatusSend dt k tp) s fun t =>
        (tabGet? t.tiles k).map (fun y => (y.seq, y.newInc, y.lastStatus)) = some ((x.seq + 1) % 65536, false, some (s.clk + dt))
          ∧ SameRegs s t ∧ SameHold s t
          ∧ ((s.advance dt).linkFree (tileKey k port) = true →
            t.sent = .message "STATUS" (2 * k + port.toNat) ((statusPacket (port == x.aPort) (x.pos.getD 255) x.epoch
              (x.status (s.clk + dt) (s.advance dt).now64 tp)).map (·.toNat)) :: s.sent))
    ∧ ((x.port port).linked = false →
      Completes (.tilePortEvent dt k port true r info) s fun t =>
        (tabGet? t.tiles k).map (fun y => ((y.port port).linked, (y.port port).rate, y.needDiscovery, y.counters))
            = some (true, r, true, (x.count 7).counters)
          ∧ SameRegs s t ∧ SameHold s t)
    ∧ (0 < hops → tileKeeps (withCheck (discoverPacket toward hops from_) crc) = true →
      Completes (.tileDiscoverReceive dt k (!port) toward hops from_ crc) s fun t =>
        (tabGet? t.tiles k).map (·.epoch) = some x.epoch ∧ SameRegs s t ∧ SameHold s t
          ∧ ((s.advance dt).linkFree (tileKey k port) = true →
            t.sent = .message "DISCOVER" (2 * k + port.toNat) ((discoverPacket toward (hops - 1) from_).map (·.toNat)) :: s.sent))
    ∧ (x.needDiscovery = true → x.epoch < 65535 → tileKeeps (withCheck (discoverPacket toward 0 from_) crc) = true →
      Completes (.tileDiscoverReceive dt k port toward 0 from_ crc) s fun t =>
        (tabGet? t.tiles k).map (fun y => (y.epoch, y.needDiscovery)) = some (x.epoch + 1, false)
          ∧ SameRegs s t ∧ SameHold s t
          ∧ ((s.advance dt).linkFree (tileKey k port) = true →
            t.sent = .message "DESCRIPTOR" (2 * k + port.toNat)
              ((descriptorPacket (!toward) (x.epoch + 1) x.info.desc).map (·.toNat)) :: s.sent))
    ∧ (x.pos = none → tileKeeps (withCheck (assignPacket toward x.epoch 0 pos len x.info.desc.ident from_) crc) = true →
      Completes (.tileAssignReceive dt k port toward 0 x.epoch pos len x.info.desc.ident from_ crc) s fun t =>
        (tabGet? t.tiles k).map (fun y => (y.pos, y.posEpoch, y.chainLen, y.aPort))
            = some (some pos, x.epoch, len, if toward then !port else port)
          ∧ t.out = s.out ∧ SameRegs s t ∧ SameHold s t)
    ∧ (x.pos = some (pos + 1) → x.posEpoch = x.epoch →
      tileKeeps (withCheck (assignPacket toward x.epoch 0 pos len x.info.desc.ident from_) crc) = true →
      Completes (.tileAssignReceive dt k port toward 0 x.epoch pos len x.info.desc.ident from_ crc) s fun t =>
        (tabGet? t.tiles k).map (fun y => (y.pos, y.conflict)) = some (x.pos, true) ∧ SameRegs s t ∧ SameHold s t)
    ∧ (x.pos = some pos → 0 < n → n ≤ 8192 → off + n ≤ x.info.desc.calSize →
      tileKeeps (withCheck (calPullPacket toward pos x.epoch off n) crc) = true →
      Completes (.tileCalPullReceive dt k port toward x.epoch pos off n crc) s fun t =>
        SameRegs s t ∧ SameHold s t
          ∧ ((s.advance dt).linkFree (tileKey k port) = true →
            t.sent = .message "CAL_DATA" (2 * k + port.toNat)
              ((calDataPacket (!toward) pos x.epoch off ((x.info.image.drop off).take n)).map (·.toNat)) :: s.sent))
    ∧ (x.pos = some pos → x.info.desc.calSize < off + n →
      tileKeeps (withCheck (calPullPacket toward pos x.epoch off n) crc) = true →
      Completes (.tileCalPullReceive dt k port toward x.epoch pos off n crc) s fun t =>
        t.out = s.out ∧ SameRegs s t ∧ SameHold s t)
    ∧ ((s.advance dt).ns < ofLedger at64 → tileKeeps (withCheck (snapPacket toward id at64) crc) = true →
      Completes (.tileSnapReceive dt k port toward id at64 crc) s fun t =>
        (tabGet? t.tiles k).map (·.snaps) = some [(id, ofLedger at64)] ∧ SameRegs s t ∧ SameHold s t)
    ∧ (Completes (.tileForward dt k port .sleep) s fun t =>
        (tabGet? t.tiles k).map (fun y => ((y.port port).asleep, (y.port port).refreshed)) = some (true, s.clk + dt)
          ∧ t.out = s.out ∧ SameRegs s t ∧ SameHold s t)
    ∧ ((x.port port).asleep = true → (x.port port).refreshed + us 30 ≤ s.clk + dt →
      Completes (.lpiRefreshTimeout dt k port) s fun t =>
        (tabGet? t.tiles k).map (fun y => (y.port port).asleep) = some false ∧ t.out = s.out ∧ SameRegs s t ∧ SameHold s t)

/-! ### Lanes -/

/-- R199 to R204, R223 to R227: a lane in HAIL sends a hail each 1 ms, and with block lock a valid one of its profile takes
it to EXCHANGE, one of the other profile sets MISMATCH; an invalid one breaks a run. The 16th identical answered hail fixes
the target, links at rate code 0 or starts the first step; 20 ms without it aborts, and each abort doubles the back-off up to
1,000 ms. A step is agreed, changes rate, passes, and takes the lane to the next rung or to LINKED at the target; a step not
passed in 20 ms is counted and aborts, and the third failure at a rung lowers the ceiling. The back-off ends in HAIL, and
returns to 10 ms after 1 s LINKED. The ladder is stated for a tile lane. -/
def Obligations.LaneTraining : Prop :=
  ∀ (dt a n g : Nat) (l : Fin 24) (h : Hail) (partner : Bool) (x : Lane) (s : State), s.watch.core = true →
    (∀ e ∈ [96, 97, 98, 99], s.logOnly e = true) → s.lane l = x →
    (s.laneSt l = 2 → x.hailAt.all (fun c => decide (c + ms 1 ≤ s.clk + dt)) = true →
      Completes (.hailSend dt l) s fun t =>
        t.sent = .message "HAIL" l ((s.hailBlock l false).bytes.map (·.toNat)) :: s.sent
          ∧ t.lane l = { x with hailAt := some (s.clk + dt) } ∧ SameRegs s t ∧ SameHold s t)
    ∧ (s.isSardy l = false →
      Completes (.hailReceive dt l h) s fun t => t.lanes = s.lanes ∧ SameRegs s t ∧ SameHold s t)
    ∧ (s.isSardy l = true → hailValid h = false → s.exchanged l = false →
      Completes (.hailReceive dt l h) s fun t => (t.lane l).hails = 0 ∧ SameRegs s t ∧ SameHold s t)
    ∧ (s.isSardy l = true → hailValid h = true → h.node ≠ s.rn Reg.SLK_NODE_ID → s.laneSt l = 2 → s.laneBit l 9 = true →
      h.profile ≠ s.laneProfile l →
      Completes (.hailReceive dt l h) s fun t => t.laneSt l = 2 ∧ t.laneBit l 12 = true ∧ t.lanes = s.lanes ∧ SameHold s t)
    ∧ (s.isSardy l = true → hailValid h = true → h.node ≠ s.rn Reg.SLK_NODE_ID → s.laneSt l = 2 → s.laneBit l 9 = true →
      h.profile = s.laneProfile l →
      Completes (.hailReceive dt l h) s fun t =>
        t.laneSt l = 3 ∧ t.laneBit l 12 = false ∧ t.rn (Reg.LANE_PARTNER l) = h.maxRate + 8 * h.profile
          ∧ (t.lane l).exchSince = s.clk + dt
          ∧ t.pair (Reg.LANE_TRAIN l) = min (s.pair (Reg.LANE_TRAIN l) + 1) (2 ^ 64 - 1) ∧ SameHold s t)
    ∧ (s.laneRole l = 5 → hailValid h = true → h.profile = 1 → s.laneSt l = 3 → h.answer = true → x.lastHail = some h →
      x.hails = 15 → s.clk + dt < x.exchSince + ms 20 → s.target l h.maxRate = 0 →
      Completes (.hailReceive dt l h) s fun t =>
        t.laneSt l = 5 ∧ t.laneRate l = 0 ∧ t.pair (Reg.LANE_LINKED_AT l) = (s.advance dt).now64 % 2 ^ 64 ∧ SameHold s t)
    ∧ (s.laneRole l = 5 → hailValid h = true → h.profile = 1 → s.laneSt l = 3 → h.answer = true → x.lastHail = some h →
      x.hails = 15 → s.clk + dt < x.exchSince + ms 20 → s.target l h.maxRate ≠ 0 → x.oneStep = false →
      Completes (.hailReceive dt l h) s fun t =>
        t.laneSt l = 4 ∧ (t.lane l).nextRung = 1 ∧ (t.lane l).target = s.target l h.maxRate ∧ SameHold s t)
    ∧ (s.laneSt l = 3 → x.hails < 16 → x.exchSince + ms 20 ≤ s.clk + dt →
      Completes (.exchangeTimeout dt l) s fun t =>
        t.laneSt l = 1 ∧ t.rn (Reg.LANE_BACKOFF l) = min 1000 (2 * s.fld (Reg.LANE_BACKOFF l) 10 0)
          ∧ (t.lane l).backoffUntil = s.clk + dt + ms (s.fld (Reg.LANE_BACKOFF l) 10 0)
          ∧ .pin "SQUELCH" l true ∈ t.out ∧ SameHold s t)
    ∧ (s.laneSt l = 4 → x.stepAgreed = none →
      Completes (.stepBlockReceive dt l x.nextRung n x.target) s fun t =>
        t.lane l = { x with stepAgreed := some (s.clk + dt), lastCount := n, countAt := s.clk + dt }
          ∧ t.sent = .message "STEP" l ((stepBlock x.nextRung 15 x.target).bytes.map (·.toNat)) :: s.sent
          ∧ SameRegs s t ∧ SameHold s t)
    ∧ (s.laneSt l = 4 → x.stepAgreed = some a → a + blockClocks x.fromRate 1 16 ≤ s.clk + dt → x.txSwitch = none →
      Completes (.rateSwitch dt l true) s fun t =>
        t.laneRate l = x.nextRung % 8 ∧ (t.lane l).txSwitch = some (s.clk + dt) ∧ (t.lane l).tx = .prbs 3 false
          ∧ t.laneBit l 9 = false ∧ t.laneSt l = 4 ∧ SameHold s t)
    ∧ (s.laneSt l = 4 → x.lastCount ≤ 15 → x.countAt + blockClocks x.fromRate 1 x.lastCount ≤ s.clk + dt →
      x.rxSwitch = none →
      Completes (.rateSwitch dt l false) s fun t =>
        t.lane l = { x with rxSwitch := some (s.clk + dt) } ∧ t.laneBit l 9 = false ∧ t.laneSt l = 4 ∧ SameHold s t)
    ∧ (s.laneSt l = 4 → x.inStep (s.clk + dt) = true →
      Completes (.prbsPass dt l partner) s fun t =>
        (partner = false → (t.lane l).passed = true) ∧ (partner = true → (t.lane l).partnerPassed = true) ∧ SameRegs s t
          ∧ SameHold s t)
    ∧ (s.laneRole l = 5 → s.laneSt l = 4 → x.passed = true → x.partnerPassed = true → s.laneBit l 9 = true →
      x.inStep (s.clk + dt) = true → x.standIn = none → x.nextRung = x.target →
      Completes (.rungPass dt l) s fun t =>
        t.laneSt l = 5 ∧ t.laneRate l = x.target % 8 ∧ t.laneBit l 9 = true
          ∧ t.pair (Reg.LANE_LINKED_AT l) = (s.advance dt).now64 % 2 ^ 64 ∧ SameHold s t)
    ∧ (s.laneRole l = 5 → s.laneSt l = 4 → x.passed = true → x.partnerPassed = true → s.laneBit l 9 = true →
      x.inStep (s.clk + dt) = true → x.standIn = none → x.nextRung ≠ x.target →
      Completes (.rungPass dt l) s fun t =>
        t.laneSt l = 4 ∧ (t.lane l).nextRung = x.nextRung + 1 ∧ (t.lane l).passed = false ∧ SameHold s t)
    ∧ (s.laneRole l = 5 → s.laneSt l = 4 → x.txSwitch = some a → a + ms 20 ≤ s.clk + dt → x.passed = false →
      x.standIn = none → x.failRung = x.nextRung → x.fails = 2 → 1 ≤ x.nextRung → x.nextRung ≤ 4 →
      Completes (.stepTimeout dt l) s fun t =>
        t.laneSt l = 1 ∧ t.fld (Reg.LANE_STATE l) 22 20 = x.nextRung - 1 ∧ t.laneBit l 11 = true
          ∧ t.pair (Reg.LANE_STEP_FAIL l) = min (s.pair (Reg.LANE_STEP_FAIL l) + 1) (2 ^ 64 - 1) ∧ SameHold s t)
    ∧ (s.laneRole l = 5 → s.laneSt l = 4 → x.txSwitch = some a → a + ms 20 ≤ s.clk + dt → x.passed = false →
      x.standIn = none → x.failRung = x.nextRung → x.fails < 2 →
      Completes (.stepTimeout dt l) s fun t =>
        t.laneSt l = 1 ∧ t.fld (Reg.LANE_STATE l) 22 20 = s.fld (Reg.LANE_STATE l) 22 20 ∧ (t.lane l).fails = x.fails + 1
          ∧ t.pair (Reg.LANE_STEP_FAIL l) = min (s.pair (Reg.LANE_STEP_FAIL l) + 1) (2 ^ 64 - 1) ∧ SameHold s t)
    ∧ (s.laneSt l = 1 → x.backoffUntil ≤ s.clk + dt →
      Completes (.backoffExpire dt l) s fun t => t.laneSt l = 2 ∧ t.laneRate l = 0 ∧ SameHold s t)
    ∧ (s.laneSt l = 5 → x.linkedSince = some g → g + sec 1 ≤ s.clk + dt →
      Completes (.backoffReset dt l) s fun t =>
        t.rn (Reg.LANE_BACKOFF l) = 10 ∧ RegsBut [Reg.LANE_BACKOFF l] s t ∧ SameHold s t)

/-- R203, R207 to R213, Table 07.4: signal loss is shown and counted; on a tile lane it aborts EXCHANGE with no step failure
and takes LINKED to RELOCK, as do loss of lock and LOL; lock and signal back within 1 ms link it again, 1 ms without aborts.
An E lane follows its PCS. A removed group member's place is taken by the lowest idle reserve of its group, which joins when
its step has ended; no join in 30 ms ends the wait. A lane out of LINKED for 1 s is reported. -/
def Obligations.LaneSignals : Prop :=
  ∀ (dt a : Nat) (l m : Fin 24) (x : Lane) (s : State), s.watch.core = true →
    (∀ e ∈ [96, 100, 101], s.logOnly e = true) → s.lane l = x →
    (s.laneRole l = 5 → s.laneSt l = 5 → s.laneBit l 7 = false → s.laneBit l 13 = false →
      Completes (.losAssert dt l) s fun t =>
        t.laneSt l = 6 ∧ t.laneBit l 7 = true ∧ t.fld Reg.LANE_LOS_MAP l l = 1
          ∧ t.pair (Reg.LANE_LOS l) = min (s.pair (Reg.LANE_LOS l) + 1) (2 ^ 64 - 1)
          ∧ t.pair (Reg.LANE_LOCK_LOSS l) = min (s.pair (Reg.LANE_LOCK_LOSS l) + 1) (2 ^ 64 - 1) ∧ SameHold s t)
    ∧ (s.laneRole l = 5 → s.laneSt l = 3 → s.laneBit l 7 = false →
      Completes (.losAssert dt l) s fun t =>
        t.laneSt l = 1 ∧ t.pair (Reg.LANE_STEP_FAIL l) = s.pair (Reg.LANE_STEP_FAIL l) ∧ SameHold s t)
    ∧ (s.laneRole l = 5 → s.laneSt l = 6 → s.laneBit l 9 = true → s.laneBit l 8 = false → s.laneBit l 19 = false →
      s.clk + dt ≤ x.relockSince + ms 1 →
      Completes (.losClear dt l) s fun t => t.laneSt l = 5 ∧ t.laneBit l 7 = false ∧ SameHold s t)
    ∧ (s.laneRole l = 5 → s.laneSt l = 5 → s.laneBit l 13 = false →
      Completes (.lolChange dt l true) s fun t => t.laneSt l = 6 ∧ t.laneBit l 8 = true ∧ SameHold s t)
    ∧ (s.laneRole l = 5 → s.laneSt l = 5 → s.laneBit l 13 = false →
      Completes (.blockLockLoss dt l) s fun t =>
        t.laneSt l = 6 ∧ t.laneBit l 9 = false
          ∧ t.pair (Reg.LANE_LOCK_LOSS l) = min (s.pair (Reg.LANE_LOCK_LOSS l) + 1) (2 ^ 64 - 1) ∧ SameHold s t)
    ∧ (s.laneRole l = 5 → s.laneSt l = 6 → s.laneBit l 7 = false → s.laneBit l 8 = false → s.laneBit l 19 = false →
      s.clk + dt ≤ x.relockSince + ms 1 →
      Completes (.blockLockAcquire dt l) s fun t => t.laneSt l = 5 ∧ t.laneBit l 9 = true ∧ SameHold s t)
    ∧ (s.laneSt l = 6 → x.rejoinSince = none → x.relockSince + ms 1 ≤ s.clk + dt →
      Completes (.relockTimeout dt l) s fun t => t.laneSt l = 1 ∧ SameHold s t)
    ∧ (s.laneRole l = 1 → s.laneSt l ≠ 0 → s.laneSt l ≠ 7 →
      Completes (.pcsLockChange dt l true) s fun t => t.laneSt l = 5 ∧ t.laneBit l 9 = true ∧ SameHold s t)
    ∧ (s.laneRole l = 1 → s.laneSt l ≠ 0 → s.laneSt l ≠ 7 →
      Completes (.pcsLockChange dt l false) s fun t => t.laneSt l = 10 ∧ t.laneBit l 9 = false ∧ SameHold s t)
    ∧ (s.groupOf l < 3 → s.laneBit l 19 = false → s.idleReserve (s.groupOf l) = some m.val → s.standingIn l = none →
      x.substSince = some a → s.clk + dt ≤ a + ms 30 →
      Completes (.reserveSubstitute dt l false) s fun t =>
        t.laneSt m = 4 ∧ t.fld (Reg.LANE_STATE m) 18 14 = l ∧ (t.lane m).target = s.groupRate (s.groupOf l)
          ∧ (t.lane m).standIn = some l.val ∧ SameHold s t)
    ∧ (s.groupOf l < 3 → m ≠ l → s.planned l = false → s.groupOf m = s.groupOf l → s.standingIn l = some m.val →
      (s.advance dt).rungPassed m = true → s.laneBit l 13 = false → x.substSince = some a → s.clk + dt ≤ a + ms 30 →
      Completes (.reserveSubstitute dt l true) s fun t =>
        t.laneSt m = 5 ∧ t.laneBit m 13 = true ∧ t.laneBit m 19 = true ∧ t.laneBit l 13 = false
          ∧ (t.lane l).substSince = none ∧ SameHold s t)
    ∧ (x.substSince = some a → a + ms 30 ≤ s.clk + dt → s.groupOf l < 3 → s.standingIn l = none →
      Completes (.substitutionTimeout dt l) s fun t =>
        (t.lane l).substSince = none ∧ t.laneSt l = s.laneSt l ∧ SameHold s t)
    ∧ (x.substSince = some a → a + ms 30 ≤ s.clk + dt → s.groupOf l < 3 → m ≠ l → s.standingIn l = some m.val →
      s.planned l = false →
      Completes (.substitutionTimeout dt l) s fun t =>
        (t.lane l).substSince = none ∧ t.laneSt m = 1 ∧ SameHold s t)
    ∧ (s.laneRole l = 5 → s.laneSt l ≠ 5 → x.downSince ≠ 0 → x.downSince + sec 1 ≤ s.clk + dt → s.flt.shadows = [] →
      Completes (.laneDownTimeout dt l) s fun t =>
        (t.fltInst 96 l).standing = true ∧ t.lanes = s.lanes ∧ SameHold s t)

/-- R214 to R219, R197, R529: a retrain clears the ceiling and starts at HAIL; TEST is entered and left, the loopback and
generator cleared; a lane is disabled at once and enabled again; a substitution by command starts the idle reserve. Test
registers are written in TEST or DISABLED only, others counted. A scan point of the eye starts and posts its errors; the
margin is measured; a checker fills its register and then, with SYNC set, counts its bits and errors. Locks of PLLs and REFCLK_OK follow their events, losses
counted. -/
def Obligations.LaneCommandsAndClocks : Prop :=
  ∀ (dt a e w ht : Nat) (req : Requester) (l m : Fin 24) (v : Word) (b : Bool) (bs : List Bool) (s : State), s.watch.core = true →
    (∀ d ∈ [101, 102], s.logOnly d = true) →
    (s.isSardy l = true → s.laneSt l ≠ 0 → s.laneSt l ≠ 7 →
      Completes (.laneRetrain dt req l) s fun t =>
        t.laneSt l = 2 ∧ t.rn (Reg.LANE_BACKOFF l) = 10 ∧ t.fld (Reg.LANE_STATE l) 22 20 = 4 ∧ t.laneBit l 11 = false
          ∧ t.laneRate l = 0 ∧ SameHold s t)
    ∧ (s.laneRole l = 1 →
      Completes (.laneRetrain dt req l) s fun t =>
        t.pair Reg.SYS_ACC_ERR = min (s.pair Reg.SYS_ACC_ERR + 1) (2 ^ 64 - 1) ∧ t.lanes = s.lanes
          ∧ t.rd (Reg.LANE_STATE l) = s.rd (Reg.LANE_STATE l) ∧ SameHold s t)
    ∧ (s.laneRole l = 5 → s.laneSt l ≠ 7 →
      Completes (.laneEnterTest dt req l) s fun t => t.laneSt l = 7 ∧ t.fld Reg.LANE_TEST_MAP l l = 1 ∧ SameHold s t)
    ∧ (s.laneRole l = 5 → s.laneSt l = 7 →
      Completes (.laneLeaveTest dt req l) s fun t =>
        t.laneSt l = 2 ∧ t.rn (Reg.LANE_LB l) = 0 ∧ t.fld (Reg.LANE_PRBS_CFG l) 1 0 = 0
          ∧ t.fld (Reg.LANE_PRBS_CFG l) 4 4 = 0 ∧ t.fld (Reg.LANE_PRBS_CFG l) 3 2 = s.fld (Reg.LANE_PRBS_CFG l) 3 2
          ∧ t.fld Reg.LANE_TEST_MAP l l = 0 ∧ SameHold s t)
    ∧ (s.laneBit l 13 = true → s.laneBit l 19 = false → s.idleReserve (s.groupOf l) = some m.val → s.rsv.running = [] →
      Completes (.laneSubstitute dt req l) s fun t =>
        t.laneSt m = 4 ∧ t.fld (Reg.LANE_STATE m) 18 14 = l ∧ t.laneBit l 13 = true ∧ SameHold s t)
    ∧ (s.laneRole l ≠ 0 →
      Completes (.laneDisable dt req l) s fun t => t.laneSt l = 0 ∧ t.laneBit l 13 = false ∧ SameHold s t)
    ∧ (s.laneRole l = 5 → s.laneSt l = 0 →
      Completes (.laneEnable dt req l) s fun t => t.laneSt l = 2 ∧ SameHold s t)
    ∧ (s.laneSt l = 7 →
      Completes (.testConfigWrite dt req l .lb v) s fun t =>
        t.rn (Reg.LANE_LB l) = bits v.toNat 1 0 ∧ RegsBut [Reg.LANE_LB l] s t ∧ SameHold s t)
    ∧ (s.laneSt l = 5 →
      Completes (.testConfigWrite dt req l .prbs v) s fun t =>
        t.pair Reg.SYS_ACC_ERR = min (s.pair Reg.SYS_ACC_ERR + 1) (2 ^ 64 - 1)
          ∧ RegsBut [Reg.SYS_ACC_ERR, Reg.SYS_ACC_ERR + 4, Reg.SYS_ACC_ERR_ADDR, Reg.SYS_ACC_ERR_INFO] s t ∧ SameHold s t)
    ∧ (s.laneSt l = 5 → bit v.toNat 31 = true → s.rn (Reg.LANE_EYE_STAT l) = 0 → signed 7 (bits v.toNat 6 0) = 0 →
      signed 7 (bits v.toNat 13 7) = 0 → bits v.toNat 19 14 = 20 →
      Completes (.eyeScanStart dt req l v) s fun t =>
        t.rn (Reg.LANE_EYE_STAT l) = 1 ∧ (t.lane l).eye = some (s.clk + dt, 20) ∧ RegsBut [Reg.LANE_EYE_STAT l] s t ∧ SameHold s t)
    ∧ (bit (s.rn (Reg.LANE_EYE_STAT l)) 0 = true → (s.lane l).eye = some (a, w) →
      a + bitClocks (s.laneRate l) (2 ^ w) ≤ s.clk + dt →
      Completes (.eyeScanDone dt l e) s fun t =>
        t.rn (Reg.LANE_EYE_STAT l) = 2 ∧ t.pair (Reg.LANE_EYE_ERR l) = min e (2 ^ w) % 2 ^ 64
          ∧ RegsBut [Reg.LANE_EYE_STAT l, Reg.LANE_EYE_ERR l, Reg.LANE_EYE_ERR l + 4] s t ∧ SameHold s t)
    ∧ (s.laneSt l = 5 → bit (s.rn (Reg.LANE_EYE_STAT l)) 0 = false → s.laneBit l 13 = false →
      (s.lane l).marginAt.all (fun c => decide (c + sec 10 ≤ s.clk + dt)) = true →
      Completes (.marginMeasure dt l w ht) s fun t =>
        t.rn (Reg.LANE_MARGIN l) = min w 64 + 256 * min ht 255
          ∧ RegsBut [Reg.LANE_MARGIN l, Reg.RSV_LANE_MARGIN l] s t ∧ SameHold s t)
    ∧ (s.fld (Reg.LANE_PRBS_CFG l) 3 2 = 0 →
      Completes (.prbsCheckerSync dt l bs) s fun t => t.lanes = s.lanes ∧ SameRegs s t ∧ SameHold s t)
    ∧ (s.fld (Reg.LANE_PRBS_CFG l) 3 2 ≠ 0 → (s.lane l).prbsBits < (prbsTaps (s.fld (Reg.LANE_PRBS_CFG l) 3 2)).1 →
      Completes (.prbsCheckerSync dt l [b]) s fun t =>
        (t.lane l).prbsReg = (2 * (s.lane l).prbsReg + b.toNat) % 2 ^ 31 ∧ (t.lane l).prbsBits = (s.lane l).prbsBits + 1
          ∧ SameRegs s t ∧ SameHold s t)
    ∧ (s.fld (Reg.LANE_PRBS_CFG l) 3 2 ≠ 0 → (prbsTaps (s.fld (Reg.LANE_PRBS_CFG l) 3 2)).1 ≤ (s.lane l).prbsBits →
      bit (s.rn (Reg.LANE_PRBS_STAT l)) 0 = true →
      Completes (.prbsCheckerSync dt l [b]) s fun t =>
        t.pair (Reg.LANE_PRBS_BITS l) = min (s.pair (Reg.LANE_PRBS_BITS l) + 1) (2 ^ 64 - 1)
          ∧ t.pair (Reg.LANE_PRBS_ERR l) = min (s.pair (Reg.LANE_PRBS_ERR l)
              + (prbsNext (s.fld (Reg.LANE_PRBS_CFG l) 3 2) (bit (s.rn (Reg.LANE_PRBS_CFG l)) 5) (s.lane l).prbsReg
                != b).toNat) (2 ^ 64 - 1)
          ∧ SameHold s t)
    ∧ (Completes (.pllLock dt (.lane l)) s fun t =>
        t.fld Reg.CLK_LANE_LOCK l l = 1 ∧ RegsBut [Reg.CLK_LANE_LOCK] s t ∧ SameHold s t)
    ∧ (Completes (.pllUnlock dt .time) s fun t =>
        t.fld Reg.CLK_STAT 4 4 = 0 ∧ t.pair Reg.CLK_UNLOCK = min (s.pair Reg.CLK_UNLOCK + 1) (2 ^ 64 - 1)
          ∧ RegsBut [Reg.CLK_STAT, Reg.CLK_UNLOCK, Reg.CLK_UNLOCK + 4] s t ∧ SameHold s t)
    ∧ (bit (s.rn Reg.CLK_STAT) 0 = true →
      Completes (.refclkLoss dt) s fun t =>
        t.fld Reg.CLK_STAT 0 0 = 0 ∧ t.pair Reg.CLK_REF_LOSS = min (s.pair Reg.CLK_REF_LOSS + 1) (2 ^ 64 - 1)
          ∧ RegsBut [Reg.CLK_STAT, Reg.CLK_REF_LOSS, Reg.CLK_REF_LOSS + 4] s t ∧ SameHold s t)
    ∧ (Completes (.refclkRestored dt) s fun t =>
        t.fld Reg.CLK_STAT 0 0 = 1 ∧ RegsBut [Reg.CLK_STAT] s t ∧ SameHold s t)

/-! ### Sardylink links, caravans and twins -/

/-- R222, R228 to R230, R233, R245, R248, R249, R251, R67: an invalid block is counted; the last block of a good packet of
a known type passes it on, of one that fails its CRC counts a failure; TIME packets carry the stamp of their departure, and
one that echoes a packet of ours completes its exchange with the mean path delay; a fixed step is announced on every group,
and one announced by the time source is adopted for its tally; a BEACON names the role; CREDIT blocks carry and set the
totals. Packets are stated for a tile lane, and what is sent for a link free to send it at once. -/
def Obligations.LinkPackets : Prop :=
  ∀ (dt tal rq rs : Nat) (d : Int) (l : Fin 24) (g : Fin 3) (b : SlkBlock) (p : List Byte) (k : TimePacket) (x : TimeLink)
    (t1 t2 t3 : Int) (a : Nat) (s : State), s.watch.core = true → s.logOnly 128 = true → s.logOnly 129 = true →
    s.timeLink g = x →
    (s.laneRole l = 5 → blockInvalid b = true →
      Completes (.slkPacketReceive dt l [b]) s fun t =>
        t.pair (Reg.SLK_LANE_BAD_BLOCK l) = min (s.pair (Reg.SLK_LANE_BAD_BLOCK l) + 1) (2 ^ 64 - 1) ∧ t.out = s.out
          ∧ tabGet? t.phy.rx (8 + l) = none
          ∧ RegsBut [Reg.SLK_LANE_BAD_BLOCK l, Reg.SLK_LANE_BAD_BLOCK l + 4] s t ∧ SameHold s t)
    ∧ (s.laneRole l = 5 → b.sync = 1 → tabGet? s.phy.rx (8 + l) = some p → p ≠ [] →
      (p ++ b.bytes).length = 7 + 8 * pkt (p ++ b.bytes) 2 2 → packetGood (p ++ b.bytes) = true →
      typeOk true (pkt (p ++ b.bytes) 0 1) = true → slkHeaderOk true (p ++ b.bytes) = true → fieldsOk (p ++ b.bytes) = true →
      Completes (.slkPacketReceive dt l [b]) s fun t =>
        t.out = .message "PACKET" l ((p ++ b.bytes).map (·.toNat)) :: s.out ∧ tabGet? t.phy.rx (8 + l) = none ∧ SameRegs s t
          ∧ SameHold s t)
    ∧ (s.laneRole l = 5 → b.sync = 1 → tabGet? s.phy.rx (8 + l) = some p → p ≠ [] →
      (p ++ b.bytes).length = 7 + 8 * pkt (p ++ b.bytes) 2 2 → packetGood (p ++ b.bytes) = false →
      Completes (.slkPacketReceive dt l [b]) s fun t =>
        t.pair (Reg.SLK_LANE_CRC_ERR l) = min (s.pair (Reg.SLK_LANE_CRC_ERR l) + 1) (2 ^ 64 - 1) ∧ t.out = s.out
          ∧ tabGet? t.phy.rx (8 + l) = none ∧ SameHold s t)
    ∧ ((s.inGroup g).isEmpty = false → x.dueAt ≤ s.clk + dt →
      t3 = ((s.advance dt).advance ((s.advance dt).txWait g 7)).linkTxStamp g →
      Completes (.timePacketSend dt (.group g)) s fun t =>
        (t.timeLink g).seq = (x.seq + 1) % 65536 ∧ (t.timeLink g).dueAt = s.clk + dt + ms 1
          ∧ (t.timeLink g).sent.head? = some ((x.seq + 1) % 65536, t3, s.clk + dt) ∧ SameHold s t
          ∧ ((s.advance dt).linkFree g = true →
            t.sent = .message "TIME" g ((timePacket false false
                ((s.advance dt).timeFields g ((x.seq + 1) % 65536) t3 x.last)).map (·.toNat)) :: s.sent
              ∧ t.pair (Reg.SLK_GRP_TX g) = min (s.pair (Reg.SLK_GRP_TX g) + 1) (2 ^ 64 - 1)
              ∧ RegsBut [Reg.SLK_GRP_TX g, Reg.SLK_GRP_TX g + 4] s t))
    ∧ (x.sent = [(k.echoSeq, t3, a)] → s.clk + dt ≤ a + ms 10 → x.got = [(k.echoSeq, t1, t2)] → k.echoValid = true →
      x.peerStep = none → s.portMode (5 + g) ≠ 5 → k.stepValid = false →
      Completes (.timePacketReceive dt (.group g) k) s fun t =>
        t.rn (Reg.SLK_GRP_MPD g) = unsigned 32 (((t2 - t1) + (k.echoRx - t3)) / 2)
          ∧ t.rn (Reg.TIME_PORT_MPD (5 + g)) = unsigned 32 (((t2 - t1) + (k.echoRx - t3)) / 2)
          ∧ (t.timeLink g).lastDone = some (s.clk + dt)
          ∧ (t.timeLink g).last = some (k.seq, k.txStamp, (s.advance dt).linkRxStamp g)
          ∧ RegsBut [Reg.SLK_GRP_MPD g, Reg.TIME_PORT_MPD (5 + g)] s t ∧ SameHold s t)
    ∧ (s.time.stepAt = some tal → s.liveGroups = [g.val] →
      t3 = ((s.advance dt).advance ((s.advance dt).txWait g 7)).linkTxStamp g →
      Completes (.stepAnnounce dt) s fun t =>
        (t.timeLink g).seq = (x.seq + 1) % 65536 ∧ t.time.stepAt = some tal ∧ SameHold s t
          ∧ ((s.advance dt).linkFree g = true →
            t.sent = .message "TIME" g ((timePacket false false
                ((s.advance dt).timeFields g ((x.seq + 1) % 65536) t3 x.last)).map (·.toNat)) :: s.sent))
    ∧ (s.time.source = 6 + g.val → s.time.stepAt = none → s.time.lastStep ≠ some (tal % 2 ^ 32, d) →
      (s.advance dt).tally < tal → tal < (s.advance dt).tally + 1000 → (s.advance dt).ns < s.tp tal →
      Completes (.stepAnnounceReceive dt false g (tal % 2 ^ 32) d) s fun t =>
        t.time.stepAt = some tal ∧ t.time.stepPending = true ∧ t.time.stepDelta = d ∧ SameHold s t)
    ∧ (s.laneRole l = 5 → s.laneSt l = 5 → (s.lpi l).idle = false →
      Completes (.beaconSend dt l) s fun t =>
        tabGet? t.slk.lastBeacon l = some (s.clk + dt) ∧ SameHold s t
          ∧ ((s.advance dt).linkFree (8 + l) = true →
            t.sent = .message "BEACON" l ((beaconPacket (s.towardA l) s.role s.nodeId).map (·.toNat)) :: s.sent
              ∧ SameRegs s t))
    ∧ (s.slk.regWait = [] → s.ferry.waiting = [] →
      Completes (.creditReceive dt (.lane l) rq rs) s fun t =>
        (tabGetD t.slk.credits (8 + l) {}).reqLimit = rq % 65536 ∧ (tabGetD t.slk.credits (8 + l) {}).rspLimit = rs % 65536
          ∧ RegsBut [Reg.FERRY_OUTSTANDING] s t ∧ SameHold s t)
    ∧ (s.carriers g = [l.val] →
      Completes (.creditSend dt (.group g)) s fun t =>
        t.sent = .message "CREDIT" l ((controlBlock 0x66 (beBytes 2 (s.credit g).grantReq
            ++ beBytes 2 (s.credit g).grantRsp)).bytes.map (·.toNat)) :: s.sent
          ∧ SameRegs s t ∧ SameHold s t)

/-- R253 to R258, R262 to R270: a packet is forwarded with one hop more, not past the hop limit; exported pixels leave
on the groups named; a message for the device is delivered once in 10 ms; each period takes the mask of the members that the
partner hears, and sends ALIGN; skew above 640 ns takes the latest member out; presence is sent on each live group and
teaches a route, its own node ID from another device is a duplicate; a route not refreshed for 3.5 s goes. What is sent is
stated for a link free to send it at once. -/
def Obligations.CaravanTraffic : Prop :=
  ∀ (dt hops o n q line px cnt c : Nat) (g h : Fin 3) (l : Fin 24) (r : Fin 32) (p m : List Byte) (k : StreamPacket)
    (s : State), s.watch.core = true → (∀ e ∈ [130, 131, 133, 144], s.logOnly e = true) →
    (pkt p 0 1 = 0x21 → pkt p 4 2 = hops → packetEnds p = (o, n) → o ≠ s.nodeId → n ≠ s.nodeId → n ≠ 0xFFFFFFFF →
      s.topo = 1 → hops + 1 < s.fld Reg.SLK_HOP_LIMIT 15 0 → o ≠ n →
      (s.twin.routes.find? (·.node == n)).map (·.group) = some h.val → h ≠ g →
      s.fld (Reg.SLK_GRP_STAT h) 18 16 ≤ pkt (rehop p) 1 1 / 32 → s.twin.routes.length < 65536 →
      Completes (.caravanForward dt g p) s fun t =>
        SameHold s t
          ∧ ((s.advance dt).linkFree h = true →
            t.sent = .message "FORWARD" h ((rehop p).map (·.toNat)) :: s.sent
              ∧ t.pair (Reg.SLK_GRP_TX h) = min (s.pair (Reg.SLK_GRP_TX h) + 1) (2 ^ 64 - 1)))
    ∧ (pkt p 0 1 = 0x21 → pkt p 4 2 = hops → packetEnds p = (o, n) → o ≠ s.nodeId → n ≠ s.nodeId →
      s.fld Reg.SLK_HOP_LIMIT 15 0 ≤ hops + 1 →
      Completes (.caravanForward dt g p) s fun t =>
        t.pair (Reg.SLK_GRP_HOPDROP g) = min (s.pair (Reg.SLK_GRP_HOPDROP g) + 1) (2 ^ 64 - 1) ∧ t.out = s.out ∧ SameHold s t)
    ∧ (bit (s.rn (Reg.ING_SRC_EXPORT r)) 8 = true → s.topo = 1 → bits (s.rn (Reg.ING_SRC_EXPORT r)) 11 9 = 2 →
      s.fld (Reg.SLK_GRP_STAT 1) 18 16 = 0 →
      s.exportPacket (s.rcv r) (bits (s.rn (Reg.ING_SRC_EXPORT r)) 7 0) line px cnt = some k →
      Completes (.streamExportSend dt r line px cnt) s fun t =>
        SameHold s t
          ∧ ((s.advance dt).linkFree 1 = true →
            t.sent = .message "STREAM" 1 ((streamPacket 0 k).map (·.toNat)) :: s.sent
              ∧ RegsBut [Reg.SLK_GRP_TX 1, Reg.SLK_GRP_TX 1 + 4] s t))
    ∧ (o ≠ s.nodeId → s.twin.dupMgmt = [((o, q), s.clk)] → dt < ms 10 →
      Completes (.mgmtReceive dt g hops o s.nodeId q m) s fun t =>
        t.pair Reg.SLK_DUP = min (s.pair Reg.SLK_DUP + 1) (2 ^ 64 - 1) ∧ t.out = s.out ∧ SameHold s t)
    ∧ (o ≠ s.nodeId → s.twin.dupMgmt = [] → oct m 3 1 % 8 ≠ 4 → oct m 3 1 % 8 ≠ 5 →
      Completes (.mgmtReceive dt g hops o s.nodeId q m) s fun t =>
        t.out = .message "DELIVER" g (o :: q :: m.map (·.toNat)) :: s.out ∧ t.twin.dupMgmt = [((o, q), s.clk + dt)]
          ∧ SameHold s t)
    ∧ (s.inGroup g = [l.val] → s.fld (Reg.SLK_GRP_STAT g) 15 12 = 15 → s.fld (Reg.SLK_GRP_STAT g) 3 0 = 0 →
      s.memberNo l = 0 →
      s.phy.demand = [] → tabGet? s.slk.amCount g = none →
      Completes (.alignPeriod dt g) s fun t =>
        t.fld (Reg.SLK_GRP_STAT g) 3 0 = 1 ∧ t.fld (Reg.SLK_GRP_STAT g) 7 4 = 1 ∧ t.fld (Reg.SLK_GRP_STAT g) 18 16 = 0
          ∧ t.pair (Reg.SLK_GRP_RESTRIPE g) = min (s.pair (Reg.SLK_GRP_RESTRIPE g) + 1) (2 ^ 64 - 1)
          ∧ t.sent = .message "ALIGN" l ((t.alignBlock g l 1).bytes.map (·.toNat)) :: s.sent
          ∧ tabGet? t.slk.amCount g = some (1, s.clk + dt) ∧ SameHold s t)
    ∧ (Completes (.maskReceive dt g q) s fun t =>
        t.fld (Reg.SLK_GRP_STAT g) 15 12 = q % 16 ∧ RegsBut [Reg.SLK_GRP_STAT g] s t ∧ SameHold s t)
    ∧ ((s.advance dt).groupSkew g = (c, l.val) → 640 < clocksNs c → s.groupOf l = g → s.laneBit l 13 = true →
      Completes (.groupSkewExceed dt g) s fun t =>
        t.rn (Reg.SLK_GRP_SKEW g) = min 65535 (clocksNs c) ∧ t.laneSt l = 6 ∧ t.laneBit l 13 = false ∧ SameHold s t)
    ∧ ((s.advance dt).groupSkew g = (c, l.val) → clocksNs c ≤ 640 → tabGet? s.slk.skewSince g = none →
      Completes (.groupSkewExceed dt g) s fun t =>
        t.rn (Reg.SLK_GRP_SKEW g) = clocksNs c ∧ tabGet? t.slk.skewSince g = some (s.clk + dt) ∧ t.lanes = s.lanes
          ∧ RegsBut [Reg.SLK_GRP_SKEW g] s t ∧ SameHold s t)
    ∧ (s.twin.dupNode = false → s.topo = 1 → s.liveGroups = [g.val] → s.fld (Reg.SLK_GRP_STAT g) 18 16 ≤ 6 →
      s.twin.presence = none →
      Completes (.presenceSend dt) s fun t =>
        t.twin = { s.twin with presence := some (s.clk + dt, [g.val]) } ∧ SameHold s t
          ∧ ((s.advance dt).linkFree g = true →
            t.sent = .message "PRESENCE" g ((mgmtPacket 0 s.nodeId 0xFFFFFFFF (qmpBytes 0 0x90 0
                ((s.ferry.relaySeq + 1) % 2 ^ 32) s.nodeId 0 0 (beBytes 4 s.nodeId
                  ++ (List.range 4).flatMap (fun i => leBytes 4 (s.rn (Reg.SYS_UID i)))
                  ++ beBytes 1 s.role ++ beBytes 4 (s.rn Reg.SYS_BOOT_COUNT)))).map (·.toNat)) :: s.sent
              ∧ t.pair (Reg.SLK_GRP_TX g) = min (s.pair (Reg.SLK_GRP_TX g) + 1) (2 ^ 64 - 1)))
    ∧ (n ≠ s.nodeId → s.twin.routes = [] →
      Completes (.presenceReceive dt g hops n q o) s fun t =>
        t.twin.routes = [⟨n, g, hops + 1, s.clk + dt⟩] ∧ t.rn Reg.SLK_ROUTE_COUNT = 1
          ∧ RegsBut [Reg.SLK_ROUTE_COUNT] s t ∧ SameHold s t)
    ∧ ((List.range 4).foldr (fun i a => a * 2 ^ 32 + s.rn (Reg.SYS_UID i)) 0 ≠ q →
      Completes (.presenceReceive dt g hops s.nodeId q o) s fun t => t.twin.dupNode = true ∧ SameHold s t)
    ∧ (s.twin.routes = [⟨n, g, hops, s.clk⟩] → ms 3500 ≤ dt →
      Completes (.routeExpire dt n) s fun t =>
        t.twin.routes = [] ∧ t.rn Reg.SLK_ROUTE_COUNT = 0 ∧ RegsBut [Reg.SLK_ROUTE_COUNT] s t ∧ SameHold s t)

/-- R272 to R274, R277, R278, Table 09.3: at each 50 µs a heartbeat leaves on the group and on the bell with the next number;
a valid one marks its path alive, one that fails its CRC on the bell is only counted; 200 µs of silence clear the path. An
eligible Escort that hears no heartbeat for 1 ms takes the lead under P2, with one more than the greater epoch; a Lead that
hears one of a greater epoch goes under D3, one whose tiles have heard another Lead since it was promoted under D1, and a
stand-down under D5 clears ELIGIBLE. -/
def Obligations.TwinElection : Prop :=
  ∀ (dt q c : Nat) (h : Heartbeat) (crc : Word) (w : Witness) (req : Requester) (s : State), s.watch.core = true →
    (∀ e ∈ [146, 147, 148, 149, 150], s.logOnly e = true) → bit (s.rn Reg.TWIN_CFG) 0 = true →
    ((s.advance dt).heartbeatDue = true → bit (s.rn Reg.TWIN_CFG) 3 = true → q = (s.twin.hbSeq + 1) % 65536 →
      Completes (.heartbeatSend dt) s fun t =>
        t.twin.hbSeq = q ∧ t.twin.hbAt = some ((s.advance dt).ns / 50000)
          ∧ .message "BELL" 0 (bellFrame ((s.advance dt).ownHeartbeat q (s.advance dt).now64)) ∈ t.out ∧ SameHold s t
          ∧ (s.fld Reg.TWIN_CFG 2 1 = c + 1 → (s.advance dt).linkFree c = true →
            t.sent.head? = some (.message "HEARTBEAT" c ((heartbeatPacket
              ((s.advance dt).ownHeartbeat q (s.advance dt).now64)).map (·.toNat)))))
    ∧ (bit (s.rn Reg.TWIN_CFG) 3 = true → crc32c (bellBytes h) ≠ crc →
      Completes (.heartbeatReceive dt true h crc) s fun t =>
        t.pair Reg.TWIN_BELL_CRC = min (s.pair Reg.TWIN_BELL_CRC + 1) (2 ^ 64 - 1) ∧ t.twin = s.twin
          ∧ RegsBut [Reg.TWIN_BELL_CRC, Reg.TWIN_BELL_CRC + 4] s t ∧ SameHold s t)
    ∧ (packetCheck (heartbeatPacket h) = crc → fieldsOk (heartbeatPacket h) = true → s.rn Reg.TWIN_PEER = 0 →
      s.twin.hbGroup = none → s.twin.hbBell = some (c, q) → s.clk + dt < c + ms 1 → s.role = 2 → h.sender < 2 ^ 32 →
      Completes (.heartbeatReceive dt false h crc) s fun t =>
        t.rn Reg.TWIN_PEER = h.sender ∧ t.fld Reg.TWIN_STAT 3 3 = 1 ∧ t.twin.hbGroup = some (s.clk + dt, h.seq) ∧ t.role = 2
          ∧ RegsBut [Reg.TWIN_PEER, Reg.TWIN_STAT, Reg.TWIN_PEER_EPOCH] s t ∧ SameHold s t)
    ∧ (packetCheck (heartbeatPacket h) = crc → fieldsOk (heartbeatPacket h) = true → s.rn Reg.TWIN_PEER = 0 →
      s.twin.hbGroup = none → s.twin.hbBell = some (c, q) → s.clk + dt < c + ms 1 → s.role = 1 → h.sender < 2 ^ 32 →
      h.role = 1 → s.rn Reg.TWIN_EPOCH < h.leadEpoch →
      Completes (.heartbeatReceive dt false h crc) s fun t =>
        t.role = 2 ∧ t.fld Reg.TWIN_STAT 15 12 = 7
          ∧ t.pair Reg.TWIN_DEMOTE = min (s.pair Reg.TWIN_DEMOTE + 1) (2 ^ 64 - 1)
          ∧ t.pair Reg.TWIN_DOUBLE = min (s.pair Reg.TWIN_DOUBLE + 1) (2 ^ 64 - 1) ∧ SameHold s t)
    ∧ (s.twin.hbBell = some (c, q) → c + us 200 ≤ s.clk + dt → bit (s.rn Reg.TWIN_STAT) 4 = true →
      Completes (.pathSilence dt true) s fun t =>
        t.fld Reg.TWIN_STAT 4 4 = 0
          ∧ t.pair Reg.TWIN_HB_BELL_LOST = min (s.pair Reg.TWIN_HB_BELL_LOST + 1) (2 ^ 64 - 1) ∧ t.twin = s.twin ∧ SameHold s t)
    ∧ (s.role = 2 → s.eligible = true → s.twin.hbGroup = none → s.twin.hbBell = none → s.twin.witnesses = [] →
      s.twin.eligibleSince + ms 1 ≤ s.clk + dt → max (s.rn Reg.TWIN_EPOCH) (s.rn Reg.TWIN_PEER_EPOCH) + 1 < 2 ^ 32 →
      Completes (.promote dt) s fun t =>
        t.role = 1 ∧ t.fld Reg.TWIN_STAT 15 12 = 2
          ∧ t.rn Reg.TWIN_EPOCH = max (s.rn Reg.TWIN_EPOCH) (s.rn Reg.TWIN_PEER_EPOCH) + 1
          ∧ t.pair Reg.TWIN_PROMOTE = min (s.pair Reg.TWIN_PROMOTE + 1) (2 ^ 64 - 1) ∧ t.twin.promotedAt = s.clk + dt
          ∧ t.pair Reg.TWIN_CHANGE_AT = (s.advance dt).now64 % 2 ^ 64 ∧ SameHold s t)
    ∧ (s.role = 1 → s.twin.witnesses = [w] → w.hears = true → w.role = 1 → s.clk + dt ≤ w.clk + us 100 →
      s.twin.lastRise = some c → s.twin.promotedAt + ms 1 < c →
      Completes (.demote dt) s fun t =>
        t.role = 2 ∧ t.fld Reg.TWIN_STAT 15 12 = 5
          ∧ t.pair Reg.TWIN_DEMOTE = min (s.pair Reg.TWIN_DEMOTE + 1) (2 ^ 64 - 1) ∧ SameHold s t)
    ∧ (s.role = 1 →
      Completes (.standDown dt req) s fun t =>
        t.role = 2 ∧ t.eligible = false ∧ t.fld Reg.TWIN_STAT 15 12 = 9 ∧ SameHold s t)
    ∧ (s.role = 2 →
      Completes (.standDown dt req) s fun t =>
        t.role = 2 ∧ t.pair Reg.SYS_ACC_ERR = min (s.pair Reg.SYS_ACC_ERR + 1) (2 ^ 64 - 1)
          ∧ t.rd Reg.TWIN_STAT = s.rd Reg.TWIN_STAT ∧ SameHold s t)

/-- R281 to R284, R288: a sea trial clears ELIGIBLE and runs; passed, it sets ELIGIBLE while no digest differs; failed, it
reports what and is repeated after 60 s; a digest that differs clears ELIGIBLE at an Escort; a mirrored input is kept for its
tally, an ambient target taken from its tally, and a lost heartbeat group ends mirroring. -/
def Obligations.SeaTrialAndMirror : Prop :=
  ∀ (dt tal dig c : Nat) (lok cok : Bool) (m : MirrorInput) (req : Requester) (g : Fin 3) (s : State), s.watch.core = true →
    (∀ e ∈ [151, 152, 153], s.logOnly e = true) → bit (s.rn Reg.TWIN_CFG) 0 = true →
    (s.fld Reg.TWIN_STAT 11 9 = 0 →
      Completes (.seaTrialStart dt) s fun t =>
        t.fld Reg.TWIN_STAT 11 9 = 1 ∧ t.eligible = false ∧ t.twin.trialStart = some (s.clk + dt)
          ∧ RegsBut [Reg.TWIN_STAT] s t ∧ SameHold s t)
    ∧ (s.fld Reg.TWIN_STAT 11 9 ≠ 1 →
      Completes (.seaTrialRerun dt req) s fun t =>
        t.fld Reg.TWIN_STAT 11 9 = 1 ∧ t.eligible = false ∧ RegsBut [Reg.TWIN_STAT] s t ∧ SameHold s t)
    ∧ (s.fld Reg.TWIN_STAT 11 9 = 1 →
      Completes (.seaTrialRerun dt req) s fun t =>
        t.twin = s.twin ∧ t.pair Reg.SYS_ACC_ERR = min (s.pair Reg.SYS_ACC_ERR + 1) (2 ^ 64 - 1)
          ∧ t.rd Reg.TWIN_STAT = s.rd Reg.TWIN_STAT ∧ SameHold s t)
    ∧ (s.fld Reg.TWIN_STAT 11 9 = 1 → s.twin.heldDown ≤ 1 → (s.fltInst 152 0).cond = false →
      (s.advance dt).trialLinksOk = true → (s.trialLanes.all fun l => s.linked l) = true →
      Completes (.seaTrialComplete dt true true true) s fun t =>
        t.fld Reg.TWIN_STAT 11 9 = 2 ∧ t.eligible = true ∧ t.twin.trialStart = none ∧ RegsBut [Reg.TWIN_STAT] s t ∧ SameHold s t)
    ∧ (s.fld Reg.TWIN_STAT 11 9 = 1 →
      Completes (.seaTrialComplete dt false lok cok) s fun t =>
        t.fld Reg.TWIN_STAT 11 9 = 3 ∧ t.eligible = s.eligible ∧ t.twin.trialFailAt = some (s.clk + dt)
          ∧ t.pair Reg.TWIN_TRIAL_FAIL = min (s.pair Reg.TWIN_TRIAL_FAIL + 1) (2 ^ 64 - 1) ∧ SameHold s t)
    ∧ (s.twin.trialFailAt = some c → c + sec 60 ≤ s.clk + dt →
      Completes (.seaTrialRetry dt) s fun t => t.fld Reg.TWIN_STAT 11 9 = 1 ∧ t.twin.trialFailAt = none ∧ SameHold s t)
    ∧ (s.twin.digestDue = true → dig = s.pair Reg.TWIN_DIGEST →
      Completes (.digestCheck dt dig) s fun t =>
        t.twin.digestDue = false ∧ t.fld Reg.TWIN_STAT 7 7 = 1 ∧ t.pair Reg.TWIN_PEER_DIGEST = dig
          ∧ RegsBut [Reg.TWIN_STAT, Reg.TWIN_PEER_DIGEST, Reg.TWIN_PEER_DIGEST + 4] s t ∧ SameHold s t)
    ∧ (s.twin.digestDue = true → dig < 2 ^ 64 → dig ≠ s.pair Reg.TWIN_DIGEST → s.role = 2 →
      Completes (.digestCheck dt dig) s fun t =>
        t.fld Reg.TWIN_STAT 7 7 = 0 ∧ t.eligible = false ∧ t.pair Reg.TWIN_PEER_DIGEST = dig ∧ SameHold s t)
    ∧ (s.role = 2 → (match m with | .ambient _ => false | _ => true) = true →
      Completes (.mirrorInputReceive dt tal m) s fun t =>
        t.twin.mirrored = s.twin.mirrored ++ [(tal, m)] ∧ t.fld Reg.TWIN_STAT 8 8 = 1 ∧ RegsBut [Reg.TWIN_STAT] s t
          ∧ SameHold s t)
    ∧ (s.role = 2 → bit (s.rn Reg.CAL_AMB_CFG) 0 = true → dig < 2 ^ 32 → tal < 2 ^ 32 →
      Completes (.mirrorInputReceive dt tal (.ambient dig)) s fun t =>
        t.rn Reg.CAL_BRIGHT_TARGET = dig ∧ t.rn Reg.CAL_BRIGHT_EFF = tal ∧ t.twin = s.twin
          ∧ RegsBut [Reg.TWIN_STAT, Reg.CAL_BRIGHT_TARGET, Reg.CAL_BRIGHT_EFF] s t ∧ SameHold s t)
    ∧ (s.role ≠ 2 → Completes (.mirrorInputReceive dt tal m) s fun t => t.twin = s.twin ∧ SameRegs s t ∧ SameHold s t)
    ∧ (s.role = 2 → s.fld Reg.TWIN_CFG 2 1 = g.val + 1 → (s.inGroup g).isEmpty = true →
      Completes (.mirrorLost dt) s fun t => t.fld Reg.TWIN_STAT 8 8 = 0 ∧ t.twin = s.twin ∧ SameHold s t)

/-! ### Ethernet MACs -/

/-- R291, R292, R295, R298, R300, R303, R304, R307, R309, R312: a runt is counted alone; a frame with a bad FCS too; a frame
no entry matches is discarded; one that an ingest entry matches goes to its receiver and path. A pause frame loads every
timer, an ended timer lets the queue send, paused time of LIMIT trips the watchdog (log entry 50) and HOLDOFF ends. A frame's
end sends it and applies a waiting pause write. The filter shadow is shown and committed; a join that the device needs is
made, counted and reported, and one beyond 1,024 is not; the PHY's link is read every 10 ms, and a negotiation that has not
completed in 1 s is shown as failed. -/
def Obligations.EthernetMacs : Prop :=
  ∀ (dt i e c g v' : Nat) (m : Fin 5) (q : Fin 8) (l : Fin 24) (f : List Byte) (k : String × List Byte) (p : Nat × Nat)
    (req : Requester) (v : Word) (link full : Bool) (x : MacState) (s : State), s.watch.core = true →
    (∀ d ∈ [160, 161, 162, 163, 164], s.logOnly d = true) → s.mac m = x →
    (s.macDisabled m = false → bit (s.rn (Reg.MAC_CFG m)) 5 = true → s.inReset (.mac m) = false → f.length < 64 →
      Completes (.ethFrameReceive dt m f) s fun t =>
        t.pair (Reg.MAC_RX_RUNT m) = min (s.pair (Reg.MAC_RX_RUNT m) + 1) (2 ^ 64 - 1) ∧ t.macs = s.macs
          ∧ RegsBut [Reg.MAC_RX_RUNT m, Reg.MAC_RX_RUNT m + 4] s t ∧ SameHold s t)
    ∧ (bit (s.rn (Reg.MAC_CFG m)) 5 = false →
      Completes (.ethFrameReceive dt m f) s fun t => t.macs = s.macs ∧ SameRegs s t ∧ SameHold s t)
    ∧ (s.macDisabled m = false → bit (s.rn (Reg.MAC_CFG m)) 5 = true → s.inReset (.mac m) = false → 64 ≤ f.length →
      f.length ≤ 9216 → fcsGood f = false → x.fcs.length < 99 →
      Completes (.ethFrameReceive dt m f) s fun t =>
        t.pair (Reg.MAC_RX_FCS m) = min (s.pair (Reg.MAC_RX_FCS m) + 1) (2 ^ 64 - 1)
          ∧ RegsBut [Reg.MAC_RX_FCS m, Reg.MAC_RX_FCS m + 4] s t ∧ SameHold s t)
    ∧ (s.macDisabled m = false → bit (s.rn (Reg.MAC_CFG m)) 5 = true → s.inReset (.mac m) = false → 64 ≤ f.length →
      f.length ≤ 9216 → fcsGood f = true → oct (f.take (f.length - 4)) 12 2 ≠ 0x8808 →
      (frameKey (f.take (f.length - 4))).2.1 = true →
      ((List.range 64).find? fun n => fltMatch ((s.advance dt).filterNow m n) (frameKey (f.take (f.length - 4))).1) = none →
      Completes (.ethFrameReceive dt m f) s fun t =>
        t.pair (Reg.MAC_RX_NOMATCH m) = min (s.pair (Reg.MAC_RX_NOMATCH m) + 1) (2 ^ 64 - 1) ∧ t.out = s.out
          ∧ RegsBut [Reg.MAC_RX_NOMATCH m, Reg.MAC_RX_NOMATCH m + 4] s t ∧ SameHold s t)
    ∧ (s.macDisabled m = false → bit (s.rn (Reg.MAC_CFG m)) 5 = true → s.inReset (.mac m) = false → 64 ≤ f.length →
      f.length ≤ 9216 → fcsGood f = true → oct (f.take (f.length - 4)) 12 2 ≠ 0x8808 →
      (frameKey (f.take (f.length - 4))).2.1 = true →
      ((List.range 64).find? fun n => fltMatch ((s.advance dt).filterNow m n) (frameKey (f.take (f.length - 4))).1) = some i →
      bits (((s.advance dt).filterNow m i).getD 3 0) 10 8 = 1 →
      Completes (.ethFrameReceive dt m f) s fun t =>
        t.out = .message "INGEST" (bits (((s.advance dt).filterNow m i).getD 3 0) 15 11)
            [bits (((s.advance dt).filterNow m i).getD 3 0) 16 16] :: s.out
          ∧ t.pair (Reg.MAC_RX_OK m) = min (s.pair (Reg.MAC_RX_OK m) + 1) (2 ^ 64 - 1)
          ∧ RegsBut [Reg.MAC_RX_OK m, Reg.MAC_RX_OK m + 4] s t ∧ SameHold s t)
    ∧ (s.macDisabled m = false → bit (s.rn (Reg.MAC_CFG m)) 5 = true → s.inReset (.mac m) = false → 64 ≤ f.length →
      f.length ≤ 9216 → fcsGood f = true → oct (f.take (f.length - 4)) 0 6 = 0x0180C2000001 →
      oct (f.take (f.length - 4)) 12 2 = 0x8808 → oct (f.take (f.length - 4)) 14 2 = 1 →
      oct (f.take (f.length - 4)) 16 2 = v' → v' ≠ 0 →
      x.holdoffEnd = none → bit x.pauseCfg 0 = true → bit x.pauseCfg 2 = false →
      Completes (.ethFrameReceive dt m f) s fun t =>
        (∀ n : Fin 8, tabGet? (t.mac m).timers n = some (s.clk + dt + ceilDiv (v' * s.quantum m) 1250)
            ∧ bit (t.rn (Reg.MAC_STAT m)) (3 + n) = true)
          ∧ t.pair (Reg.MAC_PAUSE_RX m) = min (s.pair (Reg.MAC_PAUSE_RX m) + 1) (2 ^ 64 - 1)
          ∧ (t.mac m).sending = x.sending ∧ (t.mac m).txq = x.txq ∧ SameHold s t)
    ∧ (x.timers = [(q.val, e)] → e ≤ s.clk + dt → x.sending = none → x.txq = [(q.val, [k])] → k.1 ≠ "SYNC" →
      k.1 ≠ "DELAY_REQ" →
      Completes (.pauseTimerExpire dt m q) s fun t =>
        (t.mac m).timers = [] ∧ (t.mac m).sending = some (k.1, wireFrame (s.txTag m q) k.2) ∧ bit (t.rn (Reg.MAC_STAT m)) (3 + q) = false
          ∧ RegsBut [Reg.MAC_PAUSED_NS m, Reg.MAC_PAUSED_NS m + 4, Reg.MAC_STAT m] s t ∧ SameHold s t)
    ∧ (bit x.pauseCfg 3 = true → x.holdoffEnd = none → x.spans = [] → x.timers = [(q.val, e)] → x.counted = c →
      s.clk + dt ≤ e → c + macLimit x ≤ s.clk + dt → macLimit x ≤ macWindow x → 0 < macLimit x →
      Completes (.pauseWatchdogTrip dt m) s fun t =>
        (t.mac m).timers = [] ∧ (t.mac m).holdoffEnd = some (s.clk + dt + macHoldoff x)
          ∧ t.pair (Reg.MAC_WDOG_TRIP m) = min (s.pair (Reg.MAC_WDOG_TRIP m) + 1) (2 ^ 64 - 1)
          ∧ bit (t.rn (Reg.MAC_STAT m)) 2 = true ∧ bit (t.rn (Reg.MAC_STAT m)) (3 + q) = false ∧ SameHold s t)
    ∧ (x.holdoffEnd = some e → e ≤ s.clk + dt →
      Completes (.holdoffEnd dt m) s fun t =>
        (t.mac m).holdoffEnd = none ∧ (t.mac m).spans = [] ∧ bit (t.rn (Reg.MAC_STAT m)) 2 = false
          ∧ RegsBut [Reg.MAC_PAUSED_NS m, Reg.MAC_PAUSED_NS m + 4, Reg.MAC_STAT m] s t ∧ SameHold s t)
    ∧ (x.sending = some k → x.pauseNext = none → x.txq = [] →
      Completes (.txFrameEnd dt m) s fun t =>
        (t.mac m).sending = none ∧ t.out = .message k.1 m (k.2.map (·.toNat)) :: s.out
          ∧ t.pair (Reg.MAC_TX_OK m) = min (s.pair (Reg.MAC_TX_OK m) + 1) (2 ^ 64 - 1)
          ∧ RegsBut [Reg.MAC_TX_OK m, Reg.MAC_TX_OK m + 4, Reg.MAC_PAUSED_NS m, Reg.MAC_PAUSED_NS m + 4, Reg.MAC_STAT m] s t
          ∧ SameHold s t)
    ∧ (x.sending = some k → x.pauseNext = some p →
      Completes (.txFrameEnd dt m) s fun t =>
        (t.mac m).pauseCfg = p.1 ∧ (t.mac m).pauseWin = p.2 ∧ (t.mac m).pauseNext = none ∧ SameHold s t)
    ∧ (16 ≤ bits v.toNat 5 0 →
      Completes (.fltSelWrite dt req m v) s fun t =>
        t.rn (Reg.MAC_FLT_SEL m) = bits v.toNat 5 0
          ∧ (∀ j : Fin 4, t.rn (Reg.MAC_FLT_WIN m j) = s.rn (Reg.MAC_FLT m (4 * bits v.toNat 5 0 + j)))
          ∧ RegsBut (Reg.MAC_FLT_SEL m :: (List.range 4).map (Reg.MAC_FLT_WIN m)) s t ∧ SameHold s t)
    ∧ (bits v.toNat 5 0 < 16 →
      Completes (.fltSelWrite dt req m v) s fun t =>
        t.pair Reg.SYS_ACC_ERR = min (s.pair Reg.SYS_ACC_ERR + 1) (2 ^ 64 - 1)
          ∧ RegsBut [Reg.SYS_ACC_ERR, Reg.SYS_ACC_ERR + 4, Reg.SYS_ACC_ERR_ADDR, Reg.SYS_ACC_ERR_INFO] s t ∧ SameHold s t)
    ∧ (s.macDisabled m = false → fltReason (s.rdWords (Reg.MAC_FLT_WIN m 0) 4) = 0 →
      Completes (.fltCommit dt req m) s fun t =>
        t.rn (Reg.MAC_FLT_STAT m) = 0
          ∧ (∀ j : Fin 4, t.rn (Reg.MAC_FLT m (4 * s.fld (Reg.MAC_FLT_SEL m) 5 0 + j)) = s.rn (Reg.MAC_FLT_WIN m j))
          ∧ RegsBut (Reg.MAC_FLT_STAT m :: (List.range 4).map fun j => Reg.MAC_FLT m (4 * s.fld (Reg.MAC_FLT_SEL m) 5 0 + j))
            s t ∧ SameHold s t)
    ∧ (s.macDisabled m = false → fltReason (s.rdWords (Reg.MAC_FLT_WIN m 0) 4) ≠ 0 →
      Completes (.fltCommit dt req m) s fun t =>
        t.rn (Reg.MAC_FLT_STAT m) = 1 + 2 * fltReason (s.rdWords (Reg.MAC_FLT_WIN m 0) 4)
          ∧ RegsBut [Reg.MAC_FLT_STAT m] s t ∧ SameHold s t)
    ∧ (s.macDisabled m = false → 10 ≤ bits v.toNat 17 4 → bits v.toNat 17 4 ≤ 10000 → x.sending = none →
      Completes (.pauseCfgWrite dt req m false v) s fun t =>
        t.rn (Reg.MAC_PAUSE_CFG m) = bits v.toNat 17 0 ∧ (t.mac m).pauseCfg = bits v.toNat 17 0
          ∧ (t.mac m).pauseWin = s.rn (Reg.MAC_PAUSE_WIN m) ∧ (t.mac m).pauseNext = none ∧ SameHold s t)
    ∧ (s.macDisabled m = false → 10 ≤ bits v.toNat 17 4 → bits v.toNat 17 4 ≤ 10000 → x.sending = some k →
      Completes (.pauseCfgWrite dt req m false v) s fun t =>
        t.rn (Reg.MAC_PAUSE_CFG m) = bits v.toNat 17 0 ∧ (t.mac m).pauseCfg = x.pauseCfg
          ∧ (t.mac m).pauseNext = some (bits v.toNat 17 0, s.rn (Reg.MAC_PAUSE_WIN m))
          ∧ RegsBut [Reg.MAC_PAUSE_CFG m] s t ∧ SameHold s t)
    ∧ (bits v.toNat 9 0 = 0 →
      Completes (.pauseCfgWrite dt req m true v) s fun t =>
        t.pair Reg.SYS_ACC_ERR = min (s.pair Reg.SYS_ACC_ERR + 1) (2 ^ 64 - 1) ∧ t.macs = s.macs
          ∧ RegsBut [Reg.SYS_ACC_ERR, Reg.SYS_ACC_ERR + 4, Reg.SYS_ACC_ERR_ADDR, Reg.SYS_ACC_ERR_INFO] s t ∧ SameHold s t)
    ∧ ((s.advance dt).needsGroup m g = true → x.groups.contains g = false → x.groups.length < 1024 → x.sending = some k →
      tabGetD x.txq 3 [] = [] →
      s.macDisabled m = false →
      Completes (.igmpJoin dt m g) s fun t =>
        (t.mac m).groups = x.groups ++ [g] ∧ t.rn (Reg.MAC_MCAST_COUNT m) = x.groups.length + 1
          ∧ tabGetD (t.mac m).txq 3 [] = [("IGMP_REPORT", etherFrame (groupMac (igmpReport x.igmp2 4 g).1) (s.macAddr m)
            0x0800 (ipv4Packet 2 1 (s.macIp m) (igmpReport x.igmp2 4 g).1 routerAlert (igmpReport x.igmp2 4 g).2))]
          ∧ RegsBut [Reg.MAC_MCAST_COUNT m] s t ∧ SameHold s t)
    ∧ ((s.advance dt).needsGroup m g = true → x.groups.contains g = false → 1024 ≤ x.groups.length →
      Completes (.igmpJoin dt m g) s fun t =>
        (t.mac m).groups = x.groups ∧ (t.mac m).denied.contains g = true
          ∧ t.rn (Reg.MAC_MCAST_COUNT m) = s.rn (Reg.MAC_MCAST_COUNT m) ∧ SameHold s t)
    ∧ ((s.mac 4).polled.all (fun c => (s.advance dt).elapsed c (ms 10)) = true →
      Completes (.phyPoll dt link full i) s fun t =>
        t.fld (Reg.MAC_STAT 4) 0 0 = (link && full).toNat ∧ t.fld (Reg.MAC_STAT 4) 1 1 = (!full).toNat
          ∧ t.fld (Reg.MAC_STAT 4) 12 11 = min i 2 ∧ (t.mac 4).polled = some (s.clk + dt) ∧ SameHold s t)
    ∧ (s.laneRole l = 1 → s.laneCfgRate l = 0 → s.laneSt l = 10 →
      (s.advance dt).elapsed ((s.advance dt).lane l).downSince (sec 1) = true →
      Completes (.anTimeout dt l) s fun t =>
        t.laneSt l = 10 ∧ t.fld (Reg.MAC_STAT (s.fld (Reg.LANE_CFG l) 7 6)) 0 0 = 0
          ∧ t.fld (Reg.MAC_STAT (s.fld (Reg.LANE_CFG l) 7 6)) 1 1 = 1 ∧ SameHold s t)

/-! ### Probes, waybills and fixtures -/

/-- R314, R315, R317 to R320, R327: probe values of a composed tally are those of its canvas, and repeat, counted, when its
composition does not come; PROBE_SEL and WAY_SEL show a block as a shadow, unless a commit is PENDING or no set owns the
block; the three commits carry their shadow, or are refused with REASON and the first bad entry; a parameter write is a
commit. -/
def Obligations.ProbesAndWaybills : Prop :=
  ∀ (dt n e buf b r : Nat) (i : Fin 1024) (w : Nat × Nat) (pv : ProbeVals) (ps : List Nat) (req : Requester) (v : Word)
    (s : State), s.watch.core = true → b = bits v.toNat 7 0 →
    (s.canvasOf n = some buf → s.fixture.values.head?.any (fun x => decide (n ≤ x.tally)) = false → s.probeAt e n = w →
      pEnable w = true →
      Completes (.probeValuesReady dt n) s fun t =>
        ((t.probeVals n).map fun x => (x.ready, x.base, probeChannels x e))
            = some ((s.advance dt).ns, n, probeOut w (s.emitAt (pProfile w) n) (s.probeRgb buf w))
          ∧ t.fixture.values.length ≤ 4 ∧ SameRegs s t ∧ SameHold s t)
    ∧ (s.canvasOf n = none → s.fixture.values = [pv] → pv.tally < n →
      (if s.chase then s.tp n - 100000 else s.tp (n - 1)) ≤ (s.advance dt).ns →
      Completes (.probeValuesReady dt n) s fun t =>
        t.fixture.values = [{ tally := n, ready := (s.advance dt).ns, base := pv.base, vals := pv.vals }, pv]
          ∧ t.pair Reg.PROBE_REPEAT = min (s.pair Reg.PROBE_REPEAT + 1) (2 ^ 64 - 1)
          ∧ RegsBut [Reg.PROBE_REPEAT, Reg.PROBE_REPEAT + 4] s t ∧ SameHold s t)
    ∧ (bit (s.rn Reg.PROBE_STAT) 0 = false → s.blockOwned b = true →
      Completes (.probeSelWrite dt req v) s fun t =>
        t.rn Reg.PROBE_SEL = b ∧ t.rdWords (Reg.PROBE_WIN 0) 128 = (s.probeBlock b).map (· % 2 ^ 32)
          ∧ RegsBut (Reg.PROBE_SEL :: (List.range 128).map Reg.PROBE_WIN) s t ∧ SameHold s t)
    ∧ (bit (s.rn Reg.PROBE_STAT) 0 = true ∨ s.blockOwned b = false →
      Completes (.probeSelWrite dt req v) s fun t =>
        t.pair Reg.SYS_ACC_ERR = min (s.pair Reg.SYS_ACC_ERR + 1) (2 ^ 64 - 1)
          ∧ RegsBut [Reg.SYS_ACC_ERR, Reg.SYS_ACC_ERR + 4, Reg.SYS_ACC_ERR_ADDR, Reg.SYS_ACC_ERR_INFO] s t ∧ SameHold s t)
    ∧ (s.blockOwned (s.fld Reg.PROBE_SEL 7 0) = true →
      s.probeBad (pairUp (s.rdWords (Reg.PROBE_WIN 0) 128)) 0 (s.areaBut (s.fld Reg.PROBE_SEL 7 0)) = none →
      Completes (.probeCommit dt req) s fun t =>
        t.rn Reg.PROBE_STAT = 1 ∧ t.pipe.commits.length = s.pipe.commits.length + 1
          ∧ (t.pipe.commits.getLast?.map fun c => (c.stamp, c.kind)) = some ((s.advance dt).stamp16,
            .probeBlock (s.fld Reg.PROBE_SEL 7 0) (s.rdWords (Reg.PROBE_WIN 0) 128))
          ∧ RegsBut [Reg.PROBE_STAT] s t ∧ SameHold s t)
    ∧ (s.blockOwned (s.fld Reg.PROBE_SEL 7 0) = true →
      s.probeBad (pairUp (s.rdWords (Reg.PROBE_WIN 0) 128)) 0 (s.areaBut (s.fld Reg.PROBE_SEL 7 0)) = some (e, r) →
      Completes (.probeCommit dt req) s fun t =>
        t.rn Reg.PROBE_STAT = s.fld Reg.PROBE_STAT 0 0 + 2 + 4 * r + 16 * e ∧ t.pipe = s.pipe
          ∧ t.fixture = s.fixture ∧ RegsBut [Reg.PROBE_STAT] s t ∧ SameHold s t)
    ∧ (((List.range 64).find? fun p => emitBad (((s.rdWords (Reg.PROBE_EMIT_WIN 0) 1024).drop (16 * p)).take 16)) = none →
      Completes (.probeEmitCommit dt req) s fun t =>
        t.rn Reg.PROBE_EMIT_STAT = 1
          ∧ (t.pipe.commits.getLast?.map fun c => (c.stamp, c.kind)) = some ((s.advance dt).stamp16,
            .emitProfiles (s.rdWords (Reg.PROBE_EMIT_WIN 0) 1024))
          ∧ RegsBut [Reg.PROBE_EMIT_STAT] s t ∧ SameHold s t)
    ∧ (((List.range 64).find? fun p => emitBad (((s.rdWords (Reg.PROBE_EMIT_WIN 0) 1024).drop (16 * p)).take 16)) = some e →
      Completes (.probeEmitCommit dt req) s fun t =>
        t.rn Reg.PROBE_EMIT_STAT = s.fld Reg.PROBE_EMIT_STAT 0 0 + 2 + 4 * e ∧ t.pipe = s.pipe
          ∧ RegsBut [Reg.PROBE_EMIT_STAT] s t ∧ SameHold s t)
    ∧ (bit (s.rn Reg.WAY_STAT) 0 = false → (∀ j ∈ List.range 16, (s.way (16 * b + j)).length = 8) →
      Completes (.waySelWrite dt req v) s fun t =>
        t.rn Reg.WAY_SEL = b ∧ t.rdWords (Reg.WAY_WIN 0) 128 = (s.wayBlock b).map (· % 2 ^ 32)
          ∧ RegsBut (Reg.WAY_SEL :: (List.range 128).map Reg.WAY_WIN) s t ∧ SameHold s t)
    ∧ (bit (s.rn Reg.WAY_STAT) 0 = true →
      Completes (.waySelWrite dt req v) s fun t =>
        t.pair Reg.SYS_ACC_ERR = min (s.pair Reg.SYS_ACC_ERR + 1) (2 ^ 64 - 1)
          ∧ RegsBut [Reg.SYS_ACC_ERR, Reg.SYS_ACC_ERR + 4, Reg.SYS_ACC_ERR_ADDR, Reg.SYS_ACC_ERR_INFO] s t ∧ SameHold s t)
    ∧ (((wordsBy 8 16 (s.rdWords (Reg.WAY_WIN 0) 128)).zipIdx.find? fun x => s.wayReason x.1 != 0) = none →
      Completes (.wayCommit dt req) s fun t =>
        t.rn Reg.WAY_STAT = 1
          ∧ (t.pipe.commits.getLast?.map fun c => (c.stamp, c.kind)) = some ((s.advance dt).stamp16,
            .wayBlock (s.fld Reg.WAY_SEL 7 0) (s.rdWords (Reg.WAY_WIN 0) 128))
          ∧ RegsBut [Reg.WAY_STAT] s t ∧ SameHold s t)
    ∧ (((wordsBy 8 16 (s.rdWords (Reg.WAY_WIN 0) 128)).zipIdx.find? fun x => s.wayReason x.1 != 0) = some (ps, e) →
      Completes (.wayCommit dt req) s fun t =>
        t.rn Reg.WAY_STAT = s.fld Reg.WAY_STAT 0 0 + 2 + 4 * s.wayReason ps + 16 * e ∧ t.pipe = s.pipe
          ∧ RegsBut [Reg.WAY_STAT] s t ∧ SameHold s t)
    ∧ (Completes (.wayParamWrite dt req i v) s fun t =>
        t.rn (Reg.WAY_PARAM i) = bits v.toNat 15 0 ∧ t.fixture = s.fixture
          ∧ (t.pipe.commits.getLast?.map fun c => (c.stamp, c.kind)) = some ((s.advance dt).stamp16, .wayParam i (bits v.toNat 15 0))
          ∧ RegsBut [Reg.WAY_PARAM i] s t ∧ SameHold s t)

/-- R329 to R333, R335, R336, R338 to R340: packets of other vectors are ignored, a first packet makes a source whose slots
are the merge, a repeated sequence number and a fifth source are dropped; a silent source is lost and the universe with it;
an output universe leaves when its slots change, and with its termination; discovery lists the output universes. A DMX frame
starts at its tally or is skipped, and ends; RDM starts in a gap, retries once, finds responders and lets them depart;
discoveries start; a request joins the port's queue of 16. -/
def Obligations.SacnDmxAndRdm : Prop :=
  ∀ (dt n u cid k cc id sub pid q : Nat) (m : Fin 5) (p : Fin 8) (x : SacnPacket) (y : SacnSource) (b : Berth) (o : UnivOut)
    (d : Dmx) (op : RdmOp) (door : Door) (pd : List Byte) (req : Requester) (v : Word) (a s : State), s.watch.core = true →
    (∀ f ∈ [179, 180, 181, 182, 183], s.logOnly f = true) → s.uOut u = o → s.dmx p = d →
    (x.data = false →
      Completes (.sacnReceive dt m x) s fun t =>
        t.pair Reg.WAY_SACN_IGNORED = min (s.pair Reg.WAY_SACN_IGNORED + 1) (2 ^ 64 - 1) ∧ t.fixture = s.fixture
          ∧ RegsBut [Reg.WAY_SACN_IGNORED, Reg.WAY_SACN_IGNORED + 4] s t ∧ SameHold s t)
    ∧ (x.data = true → x.startCode = 0 → bits x.options 7 6 = 0 → x.cid ≠ beNat s.ownCid → s.twinCid ≠ some x.cid →
      s.univSet 0 x.univ (s.advance dt).tally = some b → bit (uParam b 3) m = true → (s.uIn x.univ).sources = [] →
      s.role = 0 →
      s.univStopped b = false →
      Completes (.sacnReceive dt m x) s fun t =>
        (t.uIn x.univ).sources = [⟨x.cid, x.priority, x.seq, x.slots.take 512, s.clk + dt⟩]
          ∧ (t.uIn x.univ).slots.head? = some ((s.advance dt).inputTally,
            sacnMerge [⟨x.cid, x.priority, x.seq, x.slots.take 512, s.clk + dt⟩])
          ∧ t.pair Reg.WAY_SACN_RX = min (s.pair Reg.WAY_SACN_RX + 1) (2 ^ 64 - 1)
          ∧ RegsBut [Reg.WAY_SACN_RX, Reg.WAY_SACN_RX + 4] s t ∧ SameHold s t)
    ∧ (x.data = true → x.startCode = 0 → bits x.options 7 6 = 0 → x.cid ≠ beNat s.ownCid → s.twinCid ≠ some x.cid →
      s.univSet 0 x.univ (s.advance dt).tally = some b → bit (uParam b 3) m = true → (s.uIn x.univ).sources = [y] →
      y.cid = x.cid → y.seq = x.seq →
      Completes (.sacnReceive dt m x) s fun t =>
        t.pair Reg.WAY_SACN_SEQ_DROP = min (s.pair Reg.WAY_SACN_SEQ_DROP + 1) (2 ^ 64 - 1) ∧ t.fixture = s.fixture
          ∧ RegsBut [Reg.WAY_SACN_SEQ_DROP, Reg.WAY_SACN_SEQ_DROP + 4] s t ∧ SameHold s t)
    ∧ (x.data = true → x.startCode = 0 → bits x.options 7 6 = 0 → x.cid ≠ beNat s.ownCid → s.twinCid ≠ some x.cid →
      s.univSet 0 x.univ (s.advance dt).tally = some b → bit (uParam b 3) m = true → (s.uIn x.univ).sources.length = 4 →
      (s.uIn x.univ).sources.any (·.cid == x.cid) = false →
      Completes (.sacnReceive dt m x) s fun t =>
        t.pair Reg.WAY_SACN_SRC_OVER = min (s.pair Reg.WAY_SACN_SRC_OVER + 1) (2 ^ 64 - 1) ∧ t.fixture = s.fixture
          ∧ SameHold s t)
    ∧ ((s.uIn u).sources = [y] → y.cid = cid → y.last + ms 2500 ≤ s.clk + dt → s.univSet 0 u (s.advance dt).tally = some b →
      uParam b 8 = 0 →
      Completes (.sacnSourceLost dt u cid) s fun t =>
        (t.uIn u).sources = [] ∧ (t.uIn u).lost = true ∧ (t.uIn u).slots = (s.uIn u).slots ∧ SameHold s t)
    ∧ (s.univSet 1 u n = some b → s.univWriters u n = [] → o.tally = none → n % max 1 (uParam b 6) = 0 →
      s.tp n ≤ (s.advance dt).ns → s.roomFor (uParam b 3) = true → s.allSafe = false → s.heldBy 181 u 5 = false →
      s.univStopped b = false →
      List.replicate (uParam b 4) 0 ≠ o.sent →
      Completes (.sacnSend dt n u) s fun t =>
        (t.uOut u).sent = List.replicate (uParam b 4) 0 ∧ (t.uOut u).seq = (o.seq + 1) % 256 ∧ (t.uOut u).since = 1
          ∧ (t.uOut u).tally = some n ∧ (t.uOut u).last = some (s.clk + dt)
          ∧ t.pair Reg.WAY_SACN_TX = min (s.pair Reg.WAY_SACN_TX + (macsOf (uParam b 3)).length) (2 ^ 64 - 1) ∧ SameHold s t)
    ∧ (s.univSet 1 u n = none → o.term = k + 1 → o.tally = none → s.tp n ≤ (s.advance dt).ns → s.roomFor o.macs = true →
      Completes (.sacnSend dt n u) s fun t =>
        (t.uOut u).term = k ∧ (t.uOut u).tally = some n
          ∧ (t.uOut u).sent = (if o.sent.isEmpty then List.replicate o.slots 0 else o.sent) ∧ (t.uOut u).seq = (o.seq + 1) % 256
          ∧ RegsBut [Reg.WAY_SACN_TX, Reg.WAY_SACN_TX + 4] s t ∧ SameHold s t)
    ∧ (s.outUniverses.isEmpty = false → s.outUniverses.length ≤ 512 → s.fixture.lastDiscovery + sec 10 ≤ s.clk + dt →
      s.berths.entries = [(k, b)] → b.kind = 6 → uParam b 0 = 1 → b.state = 1 → uParam b 3 = 2 → s.macDisabled 1 = false →
      (s.mac 1).sending.isSome = true → tabGetD (s.mac 1).txq 4 [] = [] →
      Completes (.sacnDiscoverySend dt) s fun t =>
        t.fixture.lastDiscovery = s.clk + dt
          ∧ tabGetD (t.mac 1).txq 4 [] = [("SACN_DISCOVERY", s.udpFrame 1 5568 (univPeer 64214) true
            (sacnDiscoveryPage s.ownCid s.nvm.name 0 0 s.outUniverses))]
          ∧ SameRegs s t ∧ SameHold s t)
    ∧ (s.dmxOn p = true → n % s.dmxDiv p = 0 → d.tally = none → s.tp n ≤ (s.advance dt).ns → d.sending = none →
      d.txn = none →
      s.dmxIdles p = false → d.queue = [] → d.disc = [] → s.portWriters p n = [] → s.dmxDrives p = true →
      Completes (.dmxFrameStart dt p n) s fun t =>
        (t.dmx p).sending = some (List.replicate (s.dmxSlots p) 0) ∧ (t.dmx p).tally = some n
          ∧ (t.dmx p).frameSince = s.clk + dt
          ∧ t.out = .message "DMX" p (s.fld (Reg.DMX_TIMING p) 9 0 :: s.fld (Reg.DMX_TIMING p) 16 10 :: 0
              :: List.replicate (s.dmxSlots p) 0) :: s.out
          ∧ t.pair (Reg.DMX_FRAMES p) = min (s.pair (Reg.DMX_FRAMES p) + 1) (2 ^ 64 - 1) ∧ SameHold s t)
    ∧ (s.dmxOn p = true → n % s.dmxDiv p = 0 → d.tally = none → s.tp n ≤ (s.advance dt).ns → d.txn = some op →
      s.portWriters p n = [] →
      Completes (.dmxFrameStart dt p n) s fun t =>
        (t.dmx p).txn = some op ∧ (t.dmx p).tally = some n ∧ t.out = s.out
          ∧ t.pair (Reg.DMX_SKIPPED p) = min (s.pair (Reg.DMX_SKIPPED p) + 1) (2 ^ 64 - 1) ∧ SameHold s t)
    ∧ (d.sending = some (pd.map (·.toNat)) → (s.advance dt).elapsed d.frameSince (s.dmxF p * 4 / 5) = true →
      Completes (.dmxFrameEnd dt p (pd.map (·.toNat))) s fun t => (t.dmx p).sending = none ∧ (t.dmx p).wrong = 0 ∧ SameHold s t)
    ∧ (d.sending = some (k :: pd.map (·.toNat)) → d.wrong = 1 →
      (s.advance dt).elapsed d.frameSince (s.dmxF p * 4 / 5) = true →
      Completes (.dmxFrameEnd dt p (pd.map (·.toNat))) s fun t =>
        (t.dmx p).sending = none ∧ (t.dmx p).wrong = 2 ∧ SameHold s t)
    ∧ (s.dmxIdles p = false → s.rdmOn p = true → s.dmxDrives p = true → d.sending = none → d.txn = none → d.queue = [op] →
      (s.advance dt).ns + 17500000 ≤ (s.advance dt).nextBreak p →
      Completes (.rdmTransactionStart dt p) s fun t =>
        (t.dmx p).txn = some op ∧ (t.dmx p).queue = [] ∧ (t.dmx p).disc = d.disc
          ∧ t.out = .message "RDM" p (176 :: 16 :: (s.rdmFrame p op).map (·.toNat)) :: s.out
          ∧ t.pair (Reg.DMX_RDM_TX p) = min (s.pair (Reg.DMX_RDM_TX p) + 1) (2 ^ 64 - 1) ∧ SameHold s t)
    ∧ (d.txn = some (.mute id true) → d.uids = [(id, 2)] →
      (s.advance dt).elapsed d.txnSince (rdmSpan (.mute id true) (s.rdmFrame p (.mute id true)) none) = true →
      Completes (.rdmTransactionEnd dt p none) s fun t =>
        (t.dmx p).txn = none ∧ (t.dmx p).uids = []
          ∧ t.pair (Reg.DMX_RDM_TIMEOUT p) = min (s.pair (Reg.DMX_RDM_TIMEOUT p) + 1) (2 ^ 64 - 1) ∧ SameHold s t)
    ∧ (d.txn = some (.branch 0 (2 ^ 48 - 2)) → d.uids = [] → id ≤ 2 ^ 48 - 2 → discResponse pd = .found id →
      (s.advance dt).elapsed d.txnSince (rdmLimit + 1) = false →
      (s.advance dt).elapsed d.txnSince
        (rdmSpan (.branch 0 (2 ^ 48 - 2)) (s.rdmFrame p (.branch 0 (2 ^ 48 - 2))) (some pd)) = true →
      Completes (.rdmTransactionEnd dt p (some pd)) s fun t =>
        (t.dmx p).uids = [(id, 0)] ∧ (t.dmx p).disc = .mute id false :: .branch 0 (2 ^ 48 - 2) :: d.disc
          ∧ t.events.length = s.events.length + 1 ∧ SameHold s t)
    ∧ (d.txn = some op → op = .request door cc id sub pid [] false →
      (s.advance dt).elapsed d.txnSince (rdmSpan op (s.rdmFrame p op) none) = true →
      Completes (.rdmTransactionEnd dt p none) s fun t =>
        (t.dmx p).txn = none ∧ (t.dmx p).queue = .request door cc id sub pid [] true :: d.queue ∧ SameHold s t)
    ∧ (bits v.toNat 31 16 = 0x5C3A → bits v.toNat 1 0 = 1 → s.rdmOn p = true → s.dmxDrives p = true → d.uids.length ≤ 256 →
      Completes (.rdmFullDiscovery dt req p v) s fun t =>
        (t.dmx p).disc = [.unMute, .branch 0 (2 ^ 48 - 2)] ∧ (t.dmx p).lastDisc = s.clk + dt
          ∧ bit (t.rn (Reg.DMX_STAT p)) 18 = true ∧ SameHold s t)
    ∧ (bits v.toNat 31 16 ≠ 0x5C3A ∨ bits v.toNat 1 0 = 1 ∧ s.rdmOn p = false →
      Completes (.rdmFullDiscovery dt req p v) s fun t =>
        t.pair Reg.SYS_ACC_ERR = min (s.pair Reg.SYS_ACC_ERR + 1) (2 ^ 64 - 1) ∧ t.fixture = s.fixture
          ∧ RegsBut [Reg.SYS_ACC_ERR, Reg.SYS_ACC_ERR + 4, Reg.SYS_ACC_ERR_ADDR, Reg.SYS_ACC_ERR_INFO] s t ∧ SameHold s t)
    ∧ (s.rdmOn p = true → s.dmxDrives p = true → d.disc = [] → d.lastDisc + sec (s.fld (Reg.DMX_CFG p) 31 20) ≤ s.clk + dt →
      Completes (.rdmIncrementalDiscovery dt p) s fun t =>
        (t.dmx p).disc = d.uids.map (fun e => RdmOp.mute e.1 true) ++ [.branch 0 (2 ^ 48 - 2)]
          ∧ (t.dmx p).uids = d.uids ∧ SameHold s t)
    ∧ ((s.advance dt).admitReq door 0x60 (rdmRequestBody p cc id sub pid pd) = (a, true) → cc = 0x20 ∨ cc = 0x30 →
      pd.length ≤ 38 → s.rdmOn p = true →
      s.dmxDrives p = true → d.queue.length < 16 →
      Completes (.rdmRequest dt door p cc id sub pid pd) s fun t =>
        (t.dmx p).queue = d.queue ++ [.request door cc id sub pid (pd.map (·.toNat)) false] ∧ t.events = s.events
          ∧ SameHold s t)
    ∧ ((s.advance dt).admitReq (.pier q) 0x60 (rdmRequestBody p cc id sub pid pd) = (a, true) → s.rdmOn p = true →
      cc = 0x20 → pd.length ≤ 38 → s.dmxDrives p = true →
      16 ≤ d.queue.length →
      Completes (.rdmRequest dt (.pier q) p cc id sub pid pd) s fun t =>
        t.fixture = s.fixture ∧ t.macs = s.macs ∧ SameHold s t)

/-! ### Lamp ports, pattern engines and waybill departures -/

/-- R2, R17, R343, R350, R351, R353, R355, R356, R359 to R363, R370, R371, R374, R27, R324: without the lamp die nothing takes
effect. A good transfer ends the link's hold, a failed repeat starts one; a period takes latched values and drives A and D;
samples sum and their means are posted; a window sets Tj, which loses VALID in time; a test finds a short or lets the port
start (a pair the stage connects on purpose is not tested); level, port and pattern writes apply or are access errors; a
lamp-group waybill's value is latched at its departure. -/
def Obligations.LampPortsAndPatterns : Prop :=
  ∀ (dt n c k i u start len ball : Nat) (b : Bool) (p : Fin 32) (g : Fin 32) (e : Fin 8) (w : Fin 4096) (adc : Fin 4) (q : Fin 8)
    (x : LampPort) (r : Fin 3) (vf ws : List Nat) (smp : List LampSample) (f : NbFinding) (fs : List NbFinding) (req : Requester)
    (v : Word) (s : State), s.watch.core = true → (∀ d ∈ [194, 201, 202, 263], s.logOnly d = true) → s.lport p = x →
    (s.lampDie = false → ∀ a ∈ [Instr.lampLinkTransfer dt false b, .adcCycle dt adc smp 3 4, .measPost dt,
        .thermometryWindow dt p vf, .tjTimeout dt p, .neighbourTest dt p fs, .lampLevelWrite dt req g 3 v,
        .lampPortParamWrite dt req p 0 v, .patternParamWrite dt req e 0 v], Completes a s fun t => t = acted dt s id)
    ∧ (s.lampDie = true → s.inReset .lampLink = false →
      Completes (.lampLinkTransfer dt true b) s fun t =>
        t.lamp.linkHold = false ∧ t.lamp.brownHold = s.lamp.brownHold ∧ bit (t.rn Reg.LAMP_STAT) 1 = true
          ∧ RegsBut [Reg.LAMP_STAT] s t ∧ SameHold s t)
    ∧ (s.lampDie = true → s.inReset .lampLink = false → s.lampHeld = false → s.logOnly 8 = true →
      Completes (.lampLinkTransfer dt false false) s fun t =>
        t.lamp.linkHold = true ∧ bits (t.rn Reg.LAMP_STAT) 2 1 = 2
          ∧ t.pair Reg.LAMP_LINK_RETRY = min (s.pair Reg.LAMP_LINK_RETRY + 1) (2 ^ 64 - 1)
          ∧ t.pair Reg.LAMP_HOLD = min (s.pair Reg.LAMP_HOLD + 1) (2 ^ 64 - 1) ∧ SameHold s t)
    ∧ (s.lampDie = true → (s.advance dt).pwmPeriod (s.advance dt).ns = (start, len) → s.lamp.period < start →
      s.twin.mirrored = [] → s.liveEngines = [] → s.lampHeld = false → s.lamp.supplyOk = true → s.lamp.groups = [] →
      s.portGroup p = some (g.val, k) → k ≤ 5 → bit (s.rn (Reg.LAMP_PORT_CFG p)) 0 = true → s.portOff p = false →
      x.tested = true →
      s.grpMode g = 1 → s.grpOred g = false → bits (s.rn (Reg.LAMP_PORT_COMP p)) 17 16 = 0 → x.wasOff = false →
      x.restart = none →
      Completes (.pwmPeriodStart dt []) s fun t =>
        t.lamp.period = start ∧ t.lamp.periodLen = len ∧ t.fld (Reg.LAMP_PORT_STAT p) 2 0 = 1
          ∧ t.fld (Reg.LAMP_PORT_OUT p) 5 0
            = (driveAD (s.rn (Reg.LAMP_PORT_DIM p)) (driveV (s.grpParam g k) (s.grpParam g 6) 16384)).1
          ∧ t.fld (Reg.LAMP_PORT_OUT p) 21 6
            = (driveAD (s.rn (Reg.LAMP_PORT_DIM p)) (driveV (s.grpParam g k) (s.grpParam g 6) 16384)).2 ∧ SameHold s t)
    ∧ (s.lampDie = true → (s.advance dt).pwmPeriod (s.advance dt).ns = (start, len) → s.lamp.period < start →
      s.twin.mirrored = [] → s.liveEngines = [] → s.lampHeld = false → s.grpUsed g = true → i ≤ 6 →
      s.lamp.groups = [(g.val, { pend := [⟨i, u, c, true⟩] })] → c < s.clk + dt →
      Completes (.pwmPeriodStart dt []) s fun t =>
        t.grpParam g i = u % 65536 ∧ (t.lgroup g).pend = [] ∧ t.pair (Reg.LAMP_GRP_APPLIED g) = toLedger start % 2 ^ 64
          ∧ SameHold s t)
    ∧ (s.lampDie = true → smp = [⟨q, some (i, u), none⟩] → s.lport (8 * adc + q) = x → s.switching (8 * adc + q) = true →
      tabGetD s.lamp.adcNext adc.val 0 ≤ (s.advance dt).ns / 8000 →
      Completes (.adcCycle dt adc smp c k) s fun t =>
        t.lport (8 * adc + q) = { x with sumI := x.sumI + i, sumV := x.sumV + u, numIV := x.numIV + 1 }
          ∧ tabGetD t.lamp.adcNext adc.val 0 = (s.advance dt).ns / 8000 + 1 ∧ SameHold s t)
    ∧ (s.lampDie = true → s.lamp.posted < (s.advance dt).ns / 1000000 → x.numIV = 1 → x.numIn = 0 →
      Completes (.measPost dt) s fun t =>
        t.lamp.posted = (s.advance dt).ns / 1000000 ∧ t.fld (Reg.LAMP_PORT_MEAS_I p) 15 0 = x.sumI % 65536
          ∧ t.fld (Reg.LAMP_PORT_MEAS_V p) 15 0 = x.sumV % 65536
          ∧ t.fld (Reg.LAMP_PORT_MEAS_V p) 31 16 = s.fld (Reg.LAMP_PORT_MEAS_V p) 31 16 ∧ (t.lport p).numIV = 0 ∧ SameHold s t)
    ∧ (s.lampDie = true → s.lamp.posted < (s.advance dt).ns / 1000000 → x.numIV = 0 → x.numIn = 0 →
      Completes (.measPost dt) s fun t =>
        t.rd (Reg.LAMP_PORT_MEAS_I p) = s.rd (Reg.LAMP_PORT_MEAS_I p)
          ∧ t.rd (Reg.LAMP_PORT_MEAS_V p) = s.rd (Reg.LAMP_PORT_MEAS_V p) ∧ SameHold s t)
    ∧ (s.lampDie = true → p.val * 3125000 ≤ (s.advance dt).ns → x.slot = none → s.fld (Reg.LAMP_PORT_STAT p) 2 0 = 1 →
      3000 ≤ x.d * s.lamp.periodLen / 65536 → vf.length = 4 → bits x.therm 15 0 ≠ 0 → bits x.therm 31 16 ≠ 0 →
      (s.fltInst 194 p).cond = false →
      Completes (.thermometryWindow dt p vf) s fun t =>
        t.rn (Reg.LAMP_PORT_TJ p) = 65536 + unsigned 16 (clampI (-32768) 32767 (signed 16 (bits x.tref 15 0)
            + roundQ (((vf.foldl (· + ·) 0 : Nat) - 4 * (bits x.therm 15 0 : Int)) * 1600) (4 * signed 16 (bits x.therm 31 16))))
          ∧ (t.lport p).window = some (s.clk + dt)
          ∧ ((s.portGroup p).any (fun y => s.grpOred y.1) = false →
            t.out = .message "LAMP_SENSE" p [bits x.comp 29 24, 2000] :: s.out) ∧ SameHold s t)
    ∧ (s.lampDie = true → x.window = some c → c + sec 1 ≤ s.clk + dt →
      Completes (.tjTimeout dt p) s fun t =>
        t.fld (Reg.LAMP_PORT_TJ p) 16 16 = 0 ∧ t.fld (Reg.LAMP_PORT_TJ p) 15 0 = s.fld (Reg.LAMP_PORT_TJ p) 15 0
          ∧ RegsBut [Reg.LAMP_PORT_TJ p] s t ∧ SameHold s t)
    ∧ (s.lampDie = true → (s.advance dt).nbDue p = true →
      Completes (.neighbourTest dt p []) s fun t => (t.lport p).tested = true ∧ SameRegs s t ∧ SameHold s t)
    ∧ (s.lampDie = true → (s.logOnly 200 = true ∨ s.detReaction 200 = 5) → (s.advance dt).nbDue p = true → f.ohms < 1000 →
      f.ball = ball → ball < 2048 →
      Completes (.neighbourTest dt p [f]) s fun t =>
        (measured p f = true → t.fld (Reg.LAMP_PORT_STAT p) 7 5 = f.pin.val ∧ t.fld (Reg.LAMP_PORT_STAT p) 18 8 = ball
            ∧ (t.lport p).tested = x.tested)
          ∧ (measured p f = false → (t.lport p).tested = true ∧ SameRegs s t) ∧ SameHold s t)
    ∧ (s.lampDie = true → s.grpUsed g = true → s.grpMode g = 1 →
      Completes (.lampLevelWrite dt req g 3 v) s fun t =>
        (t.lgroup g).pend = (s.lgroup g).pend ++ [⟨6, bits v.toNat 15 0, s.clk + dt, true⟩] ∧ SameRegs s t ∧ SameHold s t)
    ∧ (s.lampDie = true → s.grpUsed g = true → s.grpMode g = 1 →
      Completes (.lampLevelWrite dt req g (r.castSucc) v) s fun t =>
        (t.lgroup g).pend = (s.lgroup g).pend ++ [⟨2 * r, bits v.toNat 15 0, s.clk + dt, true⟩,
          ⟨2 * r + 1, bits v.toNat 31 16, s.clk + dt, true⟩] ∧ SameRegs s t ∧ SameHold s t)
    ∧ (s.lampDie = true → s.grpMode g ≠ 1 →
      Completes (.lampLevelWrite dt req g 3 v) s fun t =>
        t.lamp = s.lamp ∧ t.pair Reg.SYS_ACC_ERR = min (s.pair Reg.SYS_ACC_ERR + 1) (2 ^ 64 - 1)
          ∧ RegsBut [Reg.SYS_ACC_ERR, Reg.SYS_ACC_ERR + 4, Reg.SYS_ACC_ERR_ADDR, Reg.SYS_ACC_ERR_INFO] s t ∧ SameHold s t)
    ∧ (s.lampDie = true → 1 ≤ bits v.toNat 11 6 → bits v.toNat 11 6 ≤ bits v.toNat 5 0 → 1 ≤ bits v.toNat 27 12 →
      Completes (.lampPortParamWrite dt req p 0 v) s fun t =>
        t.rn (Reg.LAMP_PORT_DIM p) = bits v.toNat 27 0 ∧ t.lamp = s.lamp ∧ RegsBut [Reg.LAMP_PORT_DIM p] s t ∧ SameHold s t)
    ∧ (s.lampDie = true → bits v.toNat 5 0 < bits v.toNat 11 6 →
      Completes (.lampPortParamWrite dt req p 0 v) s fun t =>
        t.pair Reg.SYS_ACC_ERR = min (s.pair Reg.SYS_ACC_ERR + 1) (2 ^ 64 - 1)
          ∧ RegsBut [Reg.SYS_ACC_ERR, Reg.SYS_ACC_ERR + 4, Reg.SYS_ACC_ERR_ADDR, Reg.SYS_ACC_ERR_INFO] s t ∧ SameHold s t)
    ∧ (s.lampDie = true →
      Completes (.lampPortParamWrite dt req p 1 v) s fun t =>
        t.rd (Reg.LAMP_PORT_THERM p) = v ∧ RegsBut [Reg.LAMP_PORT_THERM p] s t ∧ SameHold s t)
    ∧ (s.lampDie = true → bits v.toNat 17 16 ≠ 3 → bits v.toNat 29 24 ≠ 0 →
      Completes (.lampPortParamWrite dt req p 2 v) s fun t =>
        t.rn (Reg.LAMP_PORT_COMP p) = bits v.toNat 20 0 + bits v.toNat 29 24 * 2 ^ 24
          ∧ RegsBut [Reg.LAMP_PORT_COMP p] s t ∧ SameHold s t)
    ∧ (s.lampDie = true →
      Completes (.lampPortParamWrite dt req p 3 v) s fun t =>
        t.rn (Reg.LAMP_PORT_TREF p) = bits v.toNat 15 0 ∧ RegsBut [Reg.LAMP_PORT_TREF p] s t ∧ SameHold s t)
    ∧ (s.lampDie = true → s.rn (Reg.LAMP_PAT_HANDLE e) ≠ 0 →
      Completes (.patternParamWrite dt req e (r.castLE (by decide)) v) s fun t =>
        t.rd (Reg.LAMP_PAT_P01 e + 4 * r) = v ∧ t.lamp = s.lamp
          ∧ (t.pipe.commits.getLast?.map fun a => (a.stamp, a.kind)) = some ((s.advance dt).stamp16, .pattern e r v.toNat)
          ∧ RegsBut [Reg.LAMP_PAT_P01 e + 4 * r] s t ∧ SameHold s t)
    ∧ (s.lampDie = true → s.rn (Reg.LAMP_PAT_HANDLE e) = 0 →
      Completes (.patternParamWrite dt req e (r.castLE (by decide)) v) s fun t =>
        t.pipe = s.pipe ∧ t.pair Reg.SYS_ACC_ERR = min (s.pair Reg.SYS_ACC_ERR + 1) (2 ^ 64 - 1)
          ∧ RegsBut [Reg.SYS_ACC_ERR, Reg.SYS_ACC_ERR + 4, Reg.SYS_ACC_ERR_ADDR, Reg.SYS_ACC_ERR_INFO] s t ∧ SameHold s t)
    ∧ (s.lampDie = true → s.fixture.ways = [(w.val, [(0, ws)])] → s.fixture.outs = [] → s.twin.mirrored = [] →
      s.wayOn w n = true → wSrc ws = 3 → wDst ws = 3 → wCount ws = 1 →
      (s.berth (hIndex (wDstH ws))).resource = g.val → (wDstFirst ws = 6 → s.grpMode g ≠ 2) →
      s.tp n - wLead ws * 1000 ≤ (s.advance dt).ns →
      timedAt (tabGetD s.fixture.params (bits (wSrcI ws) 9 0) []) n = some u →
      Completes (.waybillDeparture dt n w) s fun t =>
        (t.lgroup g).pend = (s.lgroup g).pend ++ [⟨wDstFirst ws, wayY ws u, s.clk + dt, s.grpMode g == 1⟩]
          ∧ (t.wayOut w).left = some n ∧ SameRegs s t ∧ SameHold s t)

/-! ### Berths and cues -/

/-- R375, R377 to R379, R382, R383, R404: a create enters a berth at the free index with its next generation, and one of no
kind is refused; a modify keeps the generation; a stale handle is counted, stamped and changes nothing; a destroy makes the
handle stale at once with its index pending; a query of the Pier is answered with the berth's items. R384 to R387, R391, R392,
R397: a cue is created WAITING, becomes READY when due, a cancel stops it unless it was READY in an earlier clock, and a query
shows it. -/
def Obligations.BerthsAndCues : Prop :=
  ∀ (dt kind res ix h id q m rep lim : Nat) (k : Fin 4096) (d : Door) (ps : List Param) (ws : List Word) (c : Cue)
    (req : Requester) (a s : State), s.watch.core = true → s.logOnly 224 = true →
    ((s.advance dt).admitReq d 0x20 (createBody 9 res ps) = (a, true) → kindItems 9 ps = true → paramD ps 0x8000 0 = rep →
      paramD ps 0x8001 4096 = lim →
      rep ≤ 1 → 1 ≤ lim → lim ≤ 4096 → s.freeIndex = some ix →
      Completes (.berthCreate dt d 9 res ps) s fun t =>
        t.berth ix
            = ⟨9, (if (s.berth ix).gen = 65535 then 1 else (s.berth ix).gen + 1), 1, 0, 0, [rep, lim], none⟩
          ∧ (m ≠ ix → t.berth m = s.berth m)
          ∧ t.pair Reg.BERTH_CREATED = min (s.pair Reg.BERTH_CREATED + 1) (2 ^ 64 - 1) ∧ SameHold s t)
    ∧ ((s.advance dt).admitReq d 0x20 (createBody kind res ps) = (a, true) → kind = 0 ∨ 10 ≤ kind →
      Completes (.berthCreate dt d kind res ps) s fun t =>
        t.berths = s.berths ∧ t.pair Reg.BERTH_REFUSED = min (s.pair Reg.BERTH_REFUSED + 1) (2 ^ 64 - 1) ∧ SameHold s t)
    ∧ ((s.advance dt).admitReq d 0x21 (beBytes 4 h ++ paramItems ps) = (a, true) → malformed h = false → s.live h = true →
      hKind h = 9 → kindItems 9 ps = true →
      paramD ps 0x8000 ((s.berth (hIndex h)).params.getD 0 0) = rep →
      paramD ps 0x8001 ((s.berth (hIndex h)).params.getD 1 4096) = lim → rep ≤ 1 → 1 ≤ lim → lim ≤ 4096 →
      Completes (.berthModify dt d h ps) s fun t =>
        t.berth (hIndex h) = { s.berth (hIndex h) with params := [rep, lim] } ∧ t.live h = true
          ∧ (m ≠ hIndex h → t.berth m = s.berth m) ∧ SameHold s t)
    ∧ ((s.advance dt).admitReq d 0x21 (beBytes 4 h ++ paramItems ps) = (a, true) → malformed h = false → s.live h = false →
      Completes (.berthModify dt d h ps) s fun t =>
        t.berths = s.berths ∧ t.pipe = s.pipe
          ∧ t.pair Reg.BERTH_STALE = min (s.pair Reg.BERTH_STALE + 1) (2 ^ 64 - 1)
          ∧ t.pair Reg.BERTH_STALE_AT = (s.advance dt).now64 % 2 ^ 64 ∧ SameHold s t)
    ∧ ((s.advance dt).admitReq d 0x22 (beBytes 4 h) = (a, true) → malformed h = false → s.live h = true →
      Completes (.berthDestroy dt d h) s fun t =>
        t.live h = false ∧ (t.berth (hIndex h)).state = 2 ∧ (t.berth (hIndex h)).gen = (s.berth (hIndex h)).gen
          ∧ (m ≠ hIndex h → t.berth m = s.berth m)
          ∧ t.pair Reg.BERTH_DESTROYED = min (s.pair Reg.BERTH_DESTROYED + 1) (2 ^ 64 - 1)
          ∧ (t.pipe.commits.getLast?.map fun e => (e.stamp, e.kind))
            = some ((s.advance dt).stamp16, .destroy (hIndex h) (s.berth (hIndex h)).kind (s.berth (hIndex h)).resource)
          ∧ SameHold s t)
    ∧ ((s.advance dt).admitReq d 0x22 (beBytes 4 h) = (a, true) → malformed h = true →
      Completes (.berthDestroy dt d h) s fun t =>
        t.berths = s.berths ∧ t.pair Reg.BERTH_REFUSED = min (s.pair Reg.BERTH_REFUSED + 1) (2 ^ 64 - 1)
          ∧ t.pair Reg.BERTH_STALE = s.pair Reg.BERTH_STALE ∧ SameHold s t)
    ∧ (s.serviceMode = false → malformed h = false → s.live h = true → bit (s.rn Reg.PIER_CFG) 0 = true → s.outQ 7 = {} →
      (outPacket 3 0 (qmpBytes 1 0x23 0 q s.nodeId 0 0 (s.queryBody (hIndex h)))).length ≤ 512 →
      Completes (.berthQuery dt (.pier q) h) s fun t =>
        (t.outQ 7).words = outPacket 3 0 (qmpBytes 1 0x23 0 q s.nodeId 0 0 (s.queryBody (hIndex h)))
          ∧ t.berths = s.berths ∧ RegsBut [Reg.PIER_OQ_STAT 7, Reg.PIER_IRQ_STAT] s t ∧ SameHold s t)
    ∧ ((s.advance dt).admitReq d 0x30 (ws.flatMap fun w => beBytes 4 w.toNat) = (a, true) → ws.length = 16 →
      { words := ws.map (·.toNat), gen := 0 } = c →
      s.cueCheck c = 0 → cKind c = 0 → cAlign c = false → cDeps c = [] → s.freeSlot = ix →
      Completes (.cueCreate dt d ws) s fun t =>
        (t.cueAt ix).words = ws.map (·.toNat) ∧ (t.cueAt ix).state = 1 ∧ (t.cueAt ix).counter = 0
          ∧ (t.cueAt ix).gen = (if (s.cueAt ix).gen = 65535 then 1 else (s.cueAt ix).gen + 1)
          ∧ (t.cueAt ix).dueTally = (s.advance dt).tallyAhead ∧ (m ≠ ix → t.cueAt m = s.cueAt m) ∧ SameHold s t)
    ∧ ((s.advance dt).admitReq d 0x30 (ws.flatMap fun w => beBytes 4 w.toNat) = (a, true) → ws.length = 16 →
      { words := ws.map (·.toNat), gen := 0 } = c → s.cueCheck c ≠ 0 →
      Completes (.cueCreate dt d ws) s fun t => t.cues = s.cues ∧ SameHold s t)
    ∧ (s.cueAt k = c → c.state = 1 → c.counter = 0 → s.cueMoment c = some m → m ≤ (s.advance dt).ns →
      Completes (.cueReady dt k) s fun t =>
        t.cueAt k = { c with state := 2, readyClk := s.clk + dt, readyNs := (s.advance dt).ns }
          ∧ RegsBut [Reg.CUE_PENDING] s t ∧ SameHold s t)
    ∧ (s.cueAt k = c → c.counter ≠ 0 → Completes (.cueReady dt k) s fun t => t.cues = s.cues ∧ SameRegs s t ∧ SameHold s t)
    ∧ ((s.advance dt).admitReq d 0x31 (beBytes 4 id) = (a, true) → s.cueSlot id = some ix → s.cues.slots = [(ix, c)] →
      c.state = 1 →
      Completes (.cueCancel dt d id) s fun t =>
        (t.cueAt ix).state = 4 ∧ (t.cueAt ix).at64 = (s.advance dt).now64 ∧ t.cues.freed = s.cues.freed ++ [ix]
          ∧ t.pair Reg.CUE_CANCELLED = min (s.pair Reg.CUE_CANCELLED + 1) (2 ^ 64 - 1) ∧ t.rn Reg.CUE_PENDING = 0
          ∧ SameHold s t)
    ∧ ((s.advance dt).admitReq d 0x31 (beBytes 4 id) = (a, true) → s.cueSlot id = some ix → s.cueAt ix = c → c.state = 2 →
      c.readyClk < s.clk + dt →
      Completes (.cueCancel dt d id) s fun t => t.cues = s.cues ∧ SameHold s t)
    ∧ ((s.advance dt).admitReq d 0x32 (beBytes 4 h) = (a, true) → malformed h = false → s.live h = true → hKind h = 9 →
      cList c = h → h < 2 ^ 32 →
      s.cues.slots = [(ix, c)] → c.state = 1 →
      Completes (.cueCancelList dt d h) s fun t =>
        (t.cueAt ix).state = 4 ∧ t.pair Reg.CUE_CANCELLED = min (s.pair Reg.CUE_CANCELLED + 1) (2 ^ 64 - 1) ∧ SameHold s t)
    ∧ ((s.advance dt).admitReq d 0x32 (beBytes 4 h) = (a, true) → hKind h ≠ 9 →
      Completes (.cueCancelList dt d h) s fun t =>
        t.cues = s.cues ∧ t.pair Reg.BERTH_STALE = s.pair Reg.BERTH_STALE ∧ SameHold s t)
    ∧ (s.serviceMode = false → s.cueSlot id = some ix → id < 2 ^ 32 → s.cueAt ix = c → c.words.length = 16 →
      Completes (.cueQuery dt (.regs req) id) s fun t =>
        t.rdWords (Reg.CUE_VIEW 0) 16 = c.words.map (· % 2 ^ 32) ∧ t.fld Reg.CUE_VIEW_STAT 2 0 = c.state % 8
          ∧ t.pair Reg.CUE_VIEW_AT = c.at64 % 2 ^ 64 ∧ t.rn Reg.CUE_VIEW_CAUSE = c.cause % 2 ^ 32
          ∧ t.rn Reg.CUE_RESULT = 1 ∧ t.rn Reg.CUE_RESULT_ID = id ∧ t.cues = s.cues
          ∧ RegsBut ([Reg.CUE_ARG, Reg.CUE_VIEW_STAT, Reg.CUE_VIEW_AT, Reg.CUE_VIEW_AT + 4, Reg.CUE_VIEW_TALLY,
            Reg.CUE_VIEW_CAUSE, Reg.CUE_RESULT, Reg.CUE_RESULT_ID] ++ (List.range 16).map Reg.CUE_VIEW) s t ∧ SameHold s t)

/-! ### QMP, the Ferry and the register ports -/

/-- R401, R402, R405 to R407, R409: an OPEN begins a session with an ID of its own; a CLOSE, or 60 s of silence, ends one; a
PING is answered with the ledger and the tally under the request's SESSION and SEQ, and the session takes the SEQ; a repeat of
a stored response sends it again, a SEQ that is not fresh without one is counted, a request of no session is answered STALE,
and one whose tag fails AUTH. A SUBSCRIBE names classes; an event is queued to a session that takes it, and leaves when
queue 6 has room. -/
def Obligations.QmpSessions : Prop :=
  ∀ (dt q id n : Nat) (nonce : List Byte) (env : QmpEnv) (x : Session) (m : List Byte) (f : String × List Byte) (e : Event)
    (rest : List Event) (a s : State), s.watch.core = true → env.mac < 5 →
    (s.serviceMode = false → s.meant env = true → s.authFails s.venueKey env 1 nonce = false → s.ferry.sessions.length < 16 →
      Completes (.qmpOpen dt env nonce) s fun t =>
        t.ferry.sessions.take s.ferry.sessions.length = s.ferry.sessions
          ∧ t.ferry.sessions.length = s.ferry.sessions.length + 1
          ∧ (t.ferry.sessions.getLast?.map fun y => (y.mac, y.sender, y.auth, y.last))
            = some (env.mac, env.sender, env.tag.isSome, s.clk + dt)
          ∧ (t.ferry.sessions.getLast?.all fun y => y.id != 0 && !(s.ferry.sessions.any fun z => z.id == y.id)) = true
          ∧ t.rn Reg.FERRY_QMP_SESSIONS = s.ferry.sessions.length + 1
          ∧ t.pair Reg.FERRY_QMP_RX = min (s.pair Reg.FERRY_QMP_RX + 1) (2 ^ 64 - 1) ∧ SameHold s t)
    ∧ (s.serviceMode = false → s.meant env = true → s.authFails s.venueKey env 1 nonce = true →
      Completes (.qmpOpen dt env nonce) s fun t =>
        t.ferry.sessions = s.ferry.sessions
          ∧ t.pair Reg.FERRY_QMP_AUTH_FAIL = min (s.pair Reg.FERRY_QMP_AUTH_FAIL + 1) (2 ^ 64 - 1) ∧ SameHold s t)
    ∧ ((s.advance dt).admitReq (.qmp env) 2 [] = (a, true) →
      Completes (.qmpClose dt env) s fun t =>
        t.session? env.session = none
          ∧ (t.ferry.sessions.map fun y => y.id) = (s.ferry.sessions.map fun y => y.id).filter (fun i => i != env.session)
          ∧ t.rn Reg.FERRY_QMP_SESSIONS = t.ferry.sessions.length % 2 ^ 32 ∧ SameHold s t)
    ∧ (s.ferry.sessions = [x] → x.id = id → x.last + sec 60 ≤ s.clk + dt →
      Completes (.sessionExpire dt id) s fun t =>
        t.ferry.sessions = [] ∧ t.rn Reg.FERRY_QMP_SESSIONS = 0 ∧ RegsBut [Reg.FERRY_QMP_SESSIONS] s t ∧ SameHold s t)
    ∧ (s.session? id = some x → s.clk + dt < x.last + sec 60 →
      Completes (.sessionExpire dt id) s fun t => t.ferry = s.ferry ∧ SameRegs s t ∧ SameHold s t)
    ∧ (s.serviceMode = false → bit (s.rn Reg.PIER_CFG) 0 = true → s.outQ 7 = {} →
      Completes (.qmpPing dt (.pier q)) s fun t =>
        (t.outQ 7).words = outPacket 3 0 (qmpBytes 1 3 0 q s.nodeId 0 0
            (beBytes 8 (s.advance dt).now64 ++ beBytes 2 (s.advance dt).frac ++ beBytes 6 (s.advance dt).tally))
          ∧ RegsBut [Reg.PIER_OQ_STAT 7, Reg.PIER_IRQ_STAT] s t ∧ SameHold s t)
    ∧ (s.serviceMode = false → s.session? env.session = some x →
      s.authFails (s.venueKey.map fun _ => x.key) env 3 [] = false → seqFresh x env.seq = true →
      s.meant env = true → (s.mac env.mac).sending = some f → s.macDisabled env.mac = false →
      tabGetD (s.mac env.mac).txq 6 [] = [] →
      Completes (.qmpPing dt (.qmp env)) s fun t =>
        tabGetD (t.mac env.mac).txq 6 [] = [("QMP", s.udpFrame env.mac (s.fld Reg.FERRY_QMP_CFG 15 0) env.sender true 
            (s.qmpTagged env.session 1 3 env.seq s.nodeId 0 (beBytes 8 (s.advance dt).now64 ++ beBytes 2 (s.advance dt).frac
              ++ beBytes 6 (s.advance dt).tally)))]
          ∧ (t.session? env.session).map (fun y => (y.top, y.last, y.responses.head?.map (·.1)))
            = some (some (max env.seq (x.top.getD 0)), s.clk + dt, some env.seq)
          ∧ t.pair Reg.FERRY_QMP_RX = min (s.pair Reg.FERRY_QMP_RX + 1) (2 ^ 64 - 1)
          ∧ RegsBut [Reg.FERRY_QMP_RX, Reg.FERRY_QMP_RX + 4] s t ∧ SameHold s t)
    ∧ (s.serviceMode = false → s.session? env.session = some x →
      s.authFails (s.venueKey.map fun _ => x.key) env 3 [] = false → seqFresh x env.seq = false →
      x.responses.find? (fun r => r.1 == env.seq) = none →
      Completes (.qmpPing dt (.qmp env)) s fun t =>
        t.ferry = s.ferry ∧ t.pair Reg.FERRY_QMP_REPLAY = min (s.pair Reg.FERRY_QMP_REPLAY + 1) (2 ^ 64 - 1)
          ∧ RegsBut [Reg.FERRY_QMP_REPLAY, Reg.FERRY_QMP_REPLAY + 4] s t ∧ SameHold s t)
    ∧ (s.serviceMode = false → s.session? env.session = some x →
      s.authFails (s.venueKey.map fun _ => x.key) env 3 [] = false → seqFresh x env.seq = false →
      x.top.getD 0 ≤ env.seq + 64 → (x.responses.find? (fun r => r.1 == env.seq)).map (·.2) = some m →
      (s.mac env.mac).sending = some f →
      s.macDisabled env.mac = false → tabGetD (s.mac env.mac).txq 6 [] = [] →
      Completes (.qmpPing dt (.qmp env)) s fun t =>
        tabGetD (t.mac env.mac).txq 6 [] = [("QMP", s.udpFrame env.mac (s.fld Reg.FERRY_QMP_CFG 15 0) env.sender true m)] ∧ SameRegs s t ∧ SameHold s t)
    ∧ (s.serviceMode = false → s.session? env.session = none → (s.mac env.mac).sending = some f →
      s.macDisabled env.mac = false → tabGetD (s.mac env.mac).txq 6 [] = [] →
      Completes (.qmpPing dt (.qmp env)) s fun t =>
        tabGetD (t.mac env.mac).txq 6 []
            = [("QMP", s.udpFrame env.mac (s.fld Reg.FERRY_QMP_CFG 15 0) env.sender true 
              (qmpBytes 1 3 env.session env.seq s.nodeId 0 1 []))]
          ∧ t.ferry = s.ferry ∧ SameRegs s t ∧ SameHold s t)
    ∧ ((s.advance dt).admitReq (.qmp env) 0x70 (beBytes 4 id ++ beBytes 1 n) = (a, true) →
      Completes (.subscribe dt env id n) s fun t =>
        ((t.session? env.session).all fun y =>
            (y.classes, y.minSev, y.evMac, y.evAddr) == (id % 256, n, env.mac, env.sender)) = true
          ∧ (t.ferry.sessions.map fun y => y.id) = s.ferry.sessions.map (fun y => y.id) ∧ SameHold s t)
    ∧ (s.events = e :: rest → s.ferry.sessions = [x] → takesEvent x e = true → x.events.length < 256 →
      64 ≤ (tabGetD (s.mac x.evMac).txq 6 []).length → bit (s.rn Reg.PIER_CFG) 0 = false →
      Completes (.eventSend dt) s fun t =>
        t.events = rest
          ∧ t.ferry.sessions = [{ x with events := x.events ++ [(x.evSeq, e)], evSeq := (x.evSeq + 1) % 2 ^ 32 }]
          ∧ SameRegs s t ∧ SameHold s t)
    ∧ (s.events = e :: rest → s.ferry.sessions = [x] → takesEvent x e = true → x.events = [] → x.evMac = env.mac →
      (s.mac env.mac).sending = some f → s.macDisabled env.mac = false → tabGetD (s.mac env.mac).txq 6 [] = [] →
      bit (s.rn Reg.PIER_CFG) 0 = false →
      Completes (.eventSend dt) s fun t =>
        t.events = rest ∧ (t.ferry.sessions.map fun y => y.events) = [[]]
          ∧ tabGetD (t.mac env.mac).txq 6 [] = [("QMP", s.udpFrame env.mac (s.fld Reg.FERRY_QMP_CFG 15 0) x.evAddr true 
              (s.qmpTagged x.id 0 0x80 x.outSeq s.nodeId 0 (eventBytes e x.evSeq x.lost)))]
          ∧ SameRegs s t ∧ SameHold s t)

/-- R403, R408, R411, R421 to R426, R428, R429, R433, R507: a READ returns the words at its address, a WRITE puts them there
and is answered; a malformed one changes nothing; a WRITE of the tile class at an Escort is answered ACCESS and counted; a
request for another node is relayed with a SEQ of the device's own; a transaction without response is answered TIMEOUT; a
prefetched line goes after 100 µs, its words counted; a range commit applies the window or names its reason; the Ferry's
configuration takes values in range; a save waits during a brownout warning. -/
def Obligations.QmpTransfers : Prop :=
  ∀ (dt addr q n v : Nat) (w : Word) (k : Fin 1024) (g : Fin 3) (env : QmpEnv) (body : List Byte) (x : Session) (r : Route)
    (y : Txn) (l : Line) (rs : List Nat) (req : Requester) (s : State), s.watch.core = true → s.serviceMode = false →
    (bit (s.rn Reg.PIER_CFG) 0 = true → s.outQ 7 = {} → addr < 2 ^ 32 → addr % 4 = 0 → assigned addr = true →
      (s.advance dt).localBlocked .pier = false → s.ferry.localWait = [] →
      ((s.advance dt).readReg .pier addr).1 = v →
      Completes (.qmpRead dt (.pier q) addr 1 0) s fun t =>
        (t.outQ 7).words = outPacket 3 0 (qmpBytes 1 0x10 0 q s.nodeId 0 0 (beBytes 4 v))
          ∧ RegsBut [addr, Reg.PIER_OQ_STAT 7, Reg.PIER_IRQ_STAT] s t ∧ SameHold s t)
    ∧ (bit (s.rn Reg.PIER_CFG) 0 = true → s.outQ 7 = {} → fMalformed addr = true ∨ n = 0 ∨ 256 < n →
      Completes (.qmpRead dt (.pier q) addr n 0) s fun t =>
        (t.outQ 7).words = outPacket 3 0 (qmpBytes 1 0x10 0 q s.nodeId 0 6 [])
          ∧ RegsBut [Reg.PIER_OQ_STAT 7, Reg.PIER_IRQ_STAT] s t ∧ SameHold s t)
    ∧ (bit (s.rn Reg.PIER_CFG) 0 = true → s.outQ 7 = {} → inHold addr = true → addr % 4 = 0 → s.stageBase ≤ addr →
      (s.advance dt).localBlocked .pier = false → s.ferry.localWait = [] →
      Completes (.qmpWrite dt (.pier q) addr 0 [w]) s fun t =>
        t.holdNat addr 4 = w.toNat ∧ (n < addr ∨ addr + 4 ≤ n → t.holdByte n = s.holdByte n)
          ∧ (t.outQ 7).words = outPacket 3 0 (qmpBytes 1 0x11 0 q s.nodeId 0 0 [])
          ∧ RegsBut [Reg.PIER_OQ_STAT 7, Reg.PIER_IRQ_STAT] s t)
    ∧ (bit (s.rn Reg.PIER_CFG) 0 = true → s.outQ 7 = {} → s.role = 2 → fClass addr = 2 → fMalformed addr = false →
      Completes (.qmpWrite dt (.pier q) addr 0 [w]) s fun t =>
        t.pair Reg.FERRY_ESCORT_TILE = min (s.pair Reg.FERRY_ESCORT_TILE + 1) (2 ^ 64 - 1)
          ∧ (t.outQ 7).words = outPacket 3 0 (qmpBytes 1 0x11 0 q s.nodeId 0 4 [])
          ∧ RegsBut [Reg.FERRY_ESCORT_TILE, Reg.FERRY_ESCORT_TILE + 4, Reg.PIER_OQ_STAT 7, Reg.PIER_IRQ_STAT] s t
          ∧ SameHold s t)
    ∧ (s.session? env.session = some x → s.authFails (s.venueKey.map fun _ => x.key) env n body = false →
      seqFresh x env.seq = true → s.meant env = false →
      s.topo = 1 → env.target ≠ 0xFFFFFFFF → s.twin.dupNode = false → s.twin.routes = [r] → r.node = env.target →
      r.group = g →
      s.fld (Reg.SLK_GRP_STAT g) 18 16 ≤ 6 →
      Completes (.qmpRelay dt (.qmp env) env.target n body) s fun t =>
        t.ferry.relayed = s.ferry.relayed
            ++ [⟨.qmp env, n, (s.ferry.relaySeq + 1) % 2 ^ 32, s.clk + dt, us (s.fld Reg.FERRY_TIMEOUT 16 0)⟩]
          ∧ ((s.advance dt).linkFree g = true →
            t.sent = .message "MGMT" g ((mgmtPacket 0 s.nodeId env.target
              (qmpBytes 4 n 0 ((s.ferry.relaySeq + 1) % 2 ^ 32) s.nodeId env.target 0 body)).map (·.toNat)) :: s.sent)
          ∧ RegsBut [Reg.FERRY_QMP_RX, Reg.FERRY_QMP_RX + 4, Reg.SLK_GRP_TX g, Reg.SLK_GRP_TX g + 4] s t ∧ SameHold s t)
    ∧ (s.ferry.out = [y] → y.tag = n → y.posted = false → y.ofSeq = false → y.door = .pier q → s.ferry.waiting = [] →
      s.ferry.seqs = [] →
      bit (s.rn Reg.PIER_CFG) 0 = true → s.outQ 7 = {} → y.sentAt + y.limit ≤ s.clk + dt →
      Completes (.ferryTimeoutExpire dt n) s fun t =>
        t.ferry.out = [] ∧ t.pair Reg.FERRY_TIMEOUTS = min (s.pair Reg.FERRY_TIMEOUTS + 1) (2 ^ 64 - 1)
          ∧ (t.outQ 7).words = outPacket 3 0 (qmpBytes 1 y.type 0 q s.nodeId 0 13 []) ∧ t.rn Reg.FERRY_OUTSTANDING = 0
          ∧ RegsBut [Reg.FERRY_TIMEOUTS, Reg.FERRY_TIMEOUTS + 4, Reg.FERRY_OUTSTANDING, Reg.PIER_OQ_STAT 7,
            Reg.PIER_IRQ_STAT] s t ∧ SameHold s t)
    ∧ (s.ferry.lines = [l] → l.since + us 100 ≤ s.clk + dt → l.words.length = 16 → l.taken = List.replicate 16 false →
      l.base < 2 ^ 40 → l.range < 64 →
      Completes (.prefetchLineExpire dt l.node 0) s fun t =>
        t.ferry.lines = []
          ∧ t.pair (Reg.FERRY_RANGE_DISC l.range) = min (s.pair (Reg.FERRY_RANGE_DISC l.range) + 16) (2 ^ 64 - 1)
          ∧ t.pair (Reg.FERRY_RANGE_DADDR l.range) % 2 ^ 63 = l.base + 60
          ∧ bit (t.rn (Reg.FERRY_RANGE_DADDR l.range + 4)) 31 = bit (s.rn (Reg.FERRY_RANGE_DADDR l.range + 4)) 31
          ∧ RegsBut [Reg.FERRY_RANGE_DISC l.range, Reg.FERRY_RANGE_DISC l.range + 4, Reg.FERRY_RANGE_DADDR l.range,
            Reg.FERRY_RANGE_DADDR l.range + 4] s t ∧ SameHold s t)
    ∧ (s.rdWords (Reg.FERRY_RANGE_WIN 0) 4 = rs → s.rangeReason rs = 0 → s.fld Reg.FERRY_RANGE_SEL 5 0 = v →
      Completes (.rangeCommit dt req) s fun t =>
        t.rdWords (Reg.FERRY_RANGE (4 * v)) 4
            = [rs.getD 0 0, bits (rs.getD 1 0) 21 0, rs.getD 2 0, bits (rs.getD 3 0) 7 0]
          ∧ t.rn Reg.FERRY_RANGE_STAT = 0
          ∧ (t.ferry.conflicts.any fun c => c.1 == v) = false
          ∧ RegsBut [Reg.FERRY_RANGE (4 * v), Reg.FERRY_RANGE (4 * v) + 4, Reg.FERRY_RANGE (4 * v) + 8,
            Reg.FERRY_RANGE (4 * v) + 12, Reg.FERRY_RANGE_STAT, Reg.FERRY_RANGE_DADDR v + 4] s t ∧ SameHold s t)
    ∧ (s.rangeReason (s.rdWords (Reg.FERRY_RANGE_WIN 0) 4) = v → v ≠ 0 →
      Completes (.rangeCommit dt req) s fun t =>
        t.rn Reg.FERRY_RANGE_STAT = 1 + 2 * v ∧ RegsBut [Reg.FERRY_RANGE_STAT] s t ∧ SameHold s t)
    ∧ (100 ≤ bits w.toNat 16 0 ∧ bits w.toNat 16 0 ≤ 100000 →
      Completes (.ferryCfgWrite dt req .timeout w) s fun t =>
        t.fld Reg.FERRY_TIMEOUT 16 0 = bits w.toNat 16 0 ∧ RegsBut [Reg.FERRY_TIMEOUT] s t ∧ SameHold s t)
    ∧ (bits w.toNat 16 0 < 100 →
      Completes (.ferryCfgWrite dt req .timeout w) s fun t =>
        t.pair Reg.SYS_ACC_ERR = min (s.pair Reg.SYS_ACC_ERR + 1) (2 ^ 64 - 1)
          ∧ RegsBut [Reg.SYS_ACC_ERR, Reg.SYS_ACC_ERR + 4, Reg.SYS_ACC_ERR_ADDR, Reg.SYS_ACC_ERR_INFO] s t ∧ SameHold s t)
    ∧ (w ≠ 0xFFFFFFFF#32 →
      Completes (.ferryCfgWrite dt req (.nodeMap (k.val + 1)) w) s fun t =>
        t.rn (Reg.FERRY_NODE_MAP k) = w.toNat ∧ RegsBut [Reg.FERRY_NODE_MAP k] s t ∧ SameHold s t)
    ∧ (s.watch.warnAt.isSome = true →
      Completes (.saveSettings dt (.pier q)) s fun t =>
        t.nvm.saves = s.nvm.saves ++ [.pier q] ∧ SameRegs s t ∧ SameHold s t)
    ∧ (s.watch.warnAt = none → bit (s.rn Reg.PIER_CFG) 0 = true → s.outQ 7 = {} →
      Completes (.saveSettings dt (.pier q)) s fun t =>
        (t.outQ 7).words = outPacket 3 0 (qmpBytes 1 0x51 0 q s.nodeId 0 0 []) ∧ SameHold s t)

/-- R241 to R244, R270, R422, R423, R430 to R432: a locked sequence reads or merges under the local lock, which it releases;
one of no operation is refused; a sequence backing off tries again when its time has come, waits 1 µs more for a lock that a
higher node holds, and fails after its eighth restart. A READ by another node is answered once; a copy within 10 ms is
counted; a tile counts a request of another epoch and answers STALE. A response completes its transaction. A LOCK is granted, or answered RETRY
with its holder; an UNLOCK by the holder, or 20 µs, ends it. -/
def Obligations.PortsAndLocks : Prop :=
  ∀ (dt addr q n m c h : Nat) (w : Word) (g : Fin 3) (b : Bool) (o : SeqOp) (x : LockSeq) (y : Txn) (r : Route)
    (p : RegRequest) (a : RegResponse) (u : Tile) (s : State), s.watch.core = true → s.serviceMode = false →
    (s.slk.lock = none → s.ferry.seqs = [] → s.ferry.waiting = [] → s.ferry.localWait = [] →
      s.slk.waitingPosted = [] → s.pipe.commits = [] →
      bit (s.rn Reg.PIER_CFG) 0 = true → s.outQ 7 = {} → inHold addr = true → addr % 4 = 0 →
      Completes (.lockedSeq dt (.pier q) [⟨3, addr, w, o.mask⟩]) s fun t =>
        (t.outQ 7).words = outPacket 3 0 (qmpBytes 1 0x12 0 q s.nodeId 0 0 (beBytes 1 1 ++ beBytes 4 (s.holdNat addr 4)))
          ∧ t.slk.lock = none ∧ t.ferry.seqs = []
          ∧ RegsBut [Reg.FERRY_OUTSTANDING, Reg.PIER_OQ_STAT 7, Reg.PIER_IRQ_STAT] s t ∧ SameHold s t)
    ∧ (s.slk.lock = none → s.ferry.seqs = [] → s.ferry.waiting = [] → s.ferry.localWait = [] →
      s.slk.waitingPosted = [] → s.pipe.commits = [] →
      inHold addr = true → addr % 4 = 0 → s.stageBase ≤ addr →
      Completes (.lockedSeq dt (.pier q) [⟨4, addr, w, o.mask⟩]) s fun t =>
        t.holdNat addr 4
            = (s.holdNat addr 4 &&& (2 ^ 32 - 1 - o.mask.toNat)) ||| (w.toNat &&& o.mask.toNat)
          ∧ (n < addr ∨ addr + 4 ≤ n → t.holdByte n = s.holdByte n) ∧ t.slk.lock = none ∧ t.ferry.seqs = []
          ∧ RegsBut [Reg.FERRY_OUTSTANDING, Reg.PIER_OQ_STAT 7, Reg.PIER_IRQ_STAT] s t)
    ∧ (bit (s.rn Reg.PIER_CFG) 0 = true → s.outQ 7 = {} →
      Completes (.lockedSeq dt (.pier q) []) s fun t =>
        (t.outQ 7).words = outPacket 3 0 (qmpBytes 1 0x12 0 q s.nodeId 0 6 []) ∧ t.ferry = s.ferry
          ∧ RegsBut [Reg.PIER_OQ_STAT 7, Reg.PIER_IRQ_STAT] s t ∧ SameHold s t)
    ∧ (s.ferry.seqs = [x] → x.step = 4 → s.clk + dt < x.until_ →
      Completes (.lockRetry dt) s fun t => t.ferry = s.ferry ∧ t.slk = s.slk ∧ SameRegs s t ∧ SameHold s t)
    ∧ (s.ferry.seqs = [x] → x.step = 4 → x.until_ ≤ s.clk + dt → (s.advance dt).lockHolder = some h → s.nodeId < h →
      Completes (.lockRetry dt) s fun t =>
        t.ferry.seqs = [{ x with step := 3, until_ := s.clk + dt + us 1 }] ∧ t.slk = s.slk ∧ SameRegs s t ∧ SameHold s t)
    ∧ (s.ferry.seqs = [x] → x.step = 4 → x.until_ ≤ s.clk + dt → (s.advance dt).lockHolder = some h → h < s.nodeId →
      8 ≤ x.restarts → x.values = [] → x.door = .pier q → bit (s.rn Reg.PIER_CFG) 0 = true → s.outQ 7 = {} →
      Completes (.lockRetry dt) s fun t =>
        t.ferry.seqs = [] ∧ t.slk = s.slk ∧ t.pair Reg.FERRY_LOCK_FAIL = min (s.pair Reg.FERRY_LOCK_FAIL + 1) (2 ^ 64 - 1)
          ∧ (t.outQ 7).words = outPacket 3 0 (qmpBytes 1 0x12 0 q s.nodeId 0 14 (beBytes 1 x.done))
          ∧ RegsBut [Reg.FERRY_OUTSTANDING, Reg.FERRY_LOCK_FAIL, Reg.FERRY_LOCK_FAIL + 4, Reg.PIER_OQ_STAT 7,
            Reg.PIER_IRQ_STAT] s t ∧ SameHold s t)
    ∧ (p.requester ≠ s.nodeId → p.target = s.nodeId → s.topo = 1 → p.requester ≠ 0xFFFFFFFF → s.twin.dupNode = false →
      s.twin.routes = [r] → r.node = p.requester → r.group = g → s.fld (Reg.SLK_GRP_STAT g) 18 16 ≤ 6 →
      s.twin.dupReg = [] → s.slk.lock = none → s.hasCredit g false = true → s.slk.regWait = [] → p.op = .read →
      p.count = 1 → p.locked = false → p.posted = false → p.space = 0 → inHold p.offset = true → p.offset % 4 = 0 →
      Completes (.regRequestReceive dt (.group g) n p) s fun t =>
        t.twin.routes = [⟨p.requester, g, min r.hops (n + 1), s.clk + dt⟩]
          ∧ t.twin.dupReg = [((p.requester, p.tag), s.clk + dt)]
          ∧ ((s.advance dt).linkFree g = true →
            t.sent.head? = some (.message "REG_RESPONSE" g ((regPacket false (tailC 0)
              { op := 8, tag := p.tag, requester := p.requester, target := s.nodeId, offset := p.offset, count := 1,
                data := [s.holdNat p.offset 4] }).map (·.toNat))))
          ∧ RegsBut [Reg.SLK_ROUTE_COUNT, Reg.SLK_GRP_TX g, Reg.SLK_GRP_TX g + 4] s t ∧ SameHold s t)
    ∧ (p.requester ≠ s.nodeId → p.target = s.nodeId → s.twin.dupReg = [((p.requester, p.tag), c)] → s.clk + dt < c + ms 10 →
      Completes (.regRequestReceive dt (.group g) n p) s fun t =>
        t.phy.tx = s.phy.tx ∧ t.pair Reg.SLK_DUP = min (s.pair Reg.SLK_DUP + 1) (2 ^ 64 - 1)
          ∧ RegsBut [Reg.SLK_DUP, Reg.SLK_DUP + 4, Reg.SLK_ROUTE_COUNT] s t ∧ SameHold s t)
    ∧ (tabGet? s.tiles n = some u → u.pos = some p.pos → p.epoch ≠ u.epoch → (u.port (!b)).linked = false →
      s.hasCredit (tileKey n b) false = true → s.slk.regWait = [] →
      Completes (.regRequestReceive dt (.tile n b) q p) s fun t =>
        ((tabGet? t.tiles n).map fun z => (z.epoch, z.pos, z.lock, z.counters))
            = some (u.epoch, u.pos, u.lock, u.counters.set 3 (u.counters.getD 3 0 + 1))
          ∧ ((s.advance dt).linkFree (tileKey n b) = true →
            t.sent.head? = some (.message "TILE_REG_RESPONSE" (2 * n + b.toNat) ((regPacket (!p.toward) (tailT p.pos u.epoch)
              { op := 8, flags := p.posted.toNat, tag := p.tag, requester := p.requester, space := p.space,
                offset := p.offset, count := p.count, status := 1 }).map (·.toNat))))
          ∧ (m ≠ n → tabGet? t.tiles m = tabGet? s.tiles m) ∧ SameRegs s t ∧ SameHold s t)
    ∧ (s.ferry.out = [y] → y.tag = a.tag → y.posted = false → a.posted = false → y.ofSeq = false → y.want = 0 → y.snap = 0 →
      y.door = .pier q → s.ferry.waiting = [] → s.ferry.seqs = [] → bit (s.rn Reg.PIER_CFG) 0 = true → s.outQ 7 = {} →
      a.status = 0 → a.data = [w] → a.requester = s.nodeId → a.target ≠ s.nodeId →
      Completes (.regResponseReceive dt (.group g) n a) s fun t =>
        t.ferry.out = [] ∧ (t.outQ 7).words = outPacket 3 0 (qmpBytes 1 y.type 0 q s.nodeId 0 0 (beBytes 4 w.toNat))
          ∧ t.rn Reg.FERRY_OUTSTANDING = 0
          ∧ RegsBut [Reg.FERRY_OUTSTANDING, Reg.PIER_OQ_STAT 7, Reg.PIER_IRQ_STAT, Reg.SLK_ROUTE_COUNT] s t ∧ SameHold s t)
    ∧ (s.ferry.out = [] →
      Completes (.regResponseReceive dt (.group g) n a) s fun t =>
        t.ferry = s.ferry ∧ RegsBut [Reg.SLK_ROUTE_COUNT] s t ∧ SameHold s t)
    ∧ (p.requester ≠ s.nodeId → p.target = s.nodeId → p.posted = false → s.topo = 1 → p.requester ≠ 0xFFFFFFFF →
      s.twin.dupNode = false →
      s.twin.routes = [r] → r.node = p.requester → r.group = g → s.fld (Reg.SLK_GRP_STAT g) 18 16 ≤ 6 →
      s.twin.dupReg = [] → s.slk.lock = none → s.hasCredit g false = true → s.slk.regWait = [] →
      Completes (.regLock dt (.group g) n p) s fun t =>
        t.slk.lock = some (p.requester, s.clk + dt)
          ∧ ((s.advance dt).linkFree g = true →
            t.sent.head? = some (.message "REG_RESPONSE" g ((regPacket false (tailC 0)
              { op := 8, tag := p.tag, requester := p.requester, target := s.nodeId, space := p.space, offset := p.offset,
                count := p.count }).map (·.toNat))))
          ∧ RegsBut [Reg.SLK_ROUTE_COUNT, Reg.SLK_GRP_TX g, Reg.SLK_GRP_TX g + 4] s t ∧ SameHold s t)
    ∧ (p.requester ≠ s.nodeId → p.target = s.nodeId → p.posted = false → s.topo = 1 → p.requester ≠ 0xFFFFFFFF →
      s.twin.dupNode = false →
      s.twin.routes = [r] → r.node = p.requester → r.group = g → s.fld (Reg.SLK_GRP_STAT g) 18 16 ≤ 6 →
      s.twin.dupReg = [] → (s.advance dt).lockHolder = some m → m ≠ p.requester → s.hasCredit g false = true →
      s.slk.regWait = [] →
      Completes (.regLock dt (.group g) n p) s fun t =>
        t.slk.lock = s.slk.lock
          ∧ ((s.advance dt).linkFree g = true →
            t.sent.head? = some (.message "REG_RESPONSE" g ((regPacket false (tailC 0)
              { op := 8, tag := p.tag, requester := p.requester, target := s.nodeId, space := p.space, offset := p.offset,
                count := p.count, status := 2, holder := m }).map (·.toNat))))
          ∧ RegsBut [Reg.SLK_ROUTE_COUNT, Reg.SLK_GRP_TX g, Reg.SLK_GRP_TX g + 4] s t ∧ SameHold s t)
    ∧ (p.requester ≠ s.nodeId → p.target = s.nodeId → p.posted = false → s.topo = 1 → p.requester ≠ 0xFFFFFFFF →
      s.twin.dupNode = false →
      s.twin.routes = [r] → r.node = p.requester → r.group = g → s.fld (Reg.SLK_GRP_STAT g) 18 16 ≤ 6 →
      s.twin.dupReg = [] → s.slk.lock = some (p.requester, c) → s.clk + dt < c + us 20 → s.slk.waitingPosted = [] →
      s.ferry.localWait = [] → s.ferry.seqs = [] → s.pipe.commits = [] →
      Completes (.regUnlock dt (.group g) n p) s fun t =>
        t.slk.lock = none ∧ RegsBut [Reg.SLK_ROUTE_COUNT, Reg.SLK_GRP_TX g, Reg.SLK_GRP_TX g + 4] s t ∧ SameHold s t)
    ∧ (p.requester ≠ s.nodeId → p.target = s.nodeId → p.posted = false → s.topo = 1 → p.requester ≠ 0xFFFFFFFF →
      s.twin.dupNode = false →
      s.twin.routes = [r] → r.node = p.requester → r.group = g → s.fld (Reg.SLK_GRP_STAT g) 18 16 ≤ 6 →
      s.twin.dupReg = [] → s.slk.lock = some (m, c) → s.clk + dt < c + us 20 → m ≠ p.requester →
      Completes (.regUnlock dt (.group g) n p) s fun t =>
        t.slk.lock = some (m, c) ∧ RegsBut [Reg.SLK_ROUTE_COUNT, Reg.SLK_GRP_TX g, Reg.SLK_GRP_TX g + 4] s t ∧ SameHold s t)
    ∧ (s.slk.lock = some (h, c) → c + us 20 ≤ s.clk + dt → h ≠ s.nodeId → s.slk.waitingPosted = [] → s.ferry.localWait = [] →
      s.ferry.seqs = [] → s.pipe.commits = [] →
      Completes (.regLockExpire dt none) s fun t => t.slk.lock = none ∧ SameRegs s t ∧ SameHold s t)
    ∧ (s.slk.lock = some (h, c) → s.clk + dt < c + us 20 →
      Completes (.regLockExpire dt none) s fun t => t.slk = s.slk ∧ SameRegs s t ∧ SameHold s t)
    ∧ (tabGet? s.tiles n = some u → u.lock = none → u.pos = some p.pos → p.epoch = u.epoch →
      Completes (.regLock dt (.tile n b) q p) s fun t =>
        (tabGet? t.tiles n).map (fun z => z.lock) = some (some (p.requester, s.clk + dt)) ∧ SameRegs s t ∧ SameHold s t)
    ∧ (tabGet? s.tiles n = some u → u.lock = some (p.requester, c) → s.clk + dt < c + us 20 → u.waitingPosted = [] →
      u.pos = some p.pos → p.epoch = u.epoch →
      Completes (.regUnlock dt (.tile n b) q p) s fun t =>
        (tabGet? t.tiles n).map (fun z => z.lock) = some none ∧ SameRegs s t ∧ SameHold s t)
    ∧ (tabGet? s.tiles n = some u → u.lock = some (h, c) → c + us 20 ≤ s.clk + dt → u.waitingPosted = [] →
      Completes (.regLockExpire dt (some n)) s fun t =>
        (tabGet? t.tiles n).map (fun z => z.lock) = some none ∧ SameRegs s t ∧ SameHold s t)

/-! ### The Pier -/

/-- R410 to R418, R431: a READ returns its words, zeros with RESULT 6 at a misaligned address, and nothing when ended early; a
READ waits while another requester holds the port; a WRITE leaves its result; a QREAD takes the words clocked out, a corrected
word marked and counted, one not correctable counted, and answers an empty queue with VALID clear; an inbound packet is acted
on at its EOP, one with a word not correctable or with LENGTH above 9,216 is counted and flagged; DROP discards the rest of a
packet partly read; STATUS reports; other commands are counted; a stale timer flags its queue. -/
def Obligations.PierCommands : Prop :=
  ∀ (dt addr n m v code : Nat) (w : Word) (d : List Word) (k : Fin 8) (i : Fin 4) (x : OutQ) (o : OutWord) (p r : QWord)
    (s : State), s.watch.core = true → s.serviceMode = false → bit (s.rn Reg.PIER_CFG) 0 = true →
    (addr % 4 = 0 → assigned addr = true → (s.advance dt).localBlocked .pier = false → s.ferry.localWait = [] →
      ((s.advance dt).readReg .pier addr).1 = v →
      Completes (.pierRead dt addr 1 false) s fun t =>
        t.out = .answer .pier 0 [v] :: s.out ∧ RegsBut [addr] s t ∧ SameHold s t)
    ∧ (addr % 4 = 0 → assigned addr = false → (s.advance dt).localBlocked .pier = false → s.ferry.localWait = [] →
      takeKey s.pairLatch .pier addr = none →
      Completes (.pierRead dt addr 1 false) s fun t => t.out = .answer .pier 4 [0] :: s.out ∧ SameRegs s t ∧ SameHold s t)
    ∧ (addr % 4 ≠ 0 → 1 ≤ n → n ≤ 64 →
      Completes (.pierRead dt addr n false) s fun t =>
        t.out = .answer .pier 6 (List.replicate n 0) :: s.out ∧ SameRegs s t ∧ SameHold s t)
    ∧ (Completes (.pierRead dt addr n true) s fun t => t.out = s.out ∧ SameRegs s t ∧ SameHold s t)
    ∧ (addr % 4 = 0 → (s.advance dt).localBlocked .pier = true →
      Completes (.pierRead dt addr 1 false) s fun t =>
        t.out = s.out ∧ t.ferry.localWait.length = s.ferry.localWait.length + 1 ∧ SameRegs s t ∧ SameHold s t)
    ∧ (inHold addr = true → addr % 4 = 0 → s.stageBase ≤ addr → (s.advance dt).localBlocked .pier = false →
      s.ferry.localWait = [] →
      Completes (.pierWrite dt addr [w]) s fun t =>
        t.holdNat addr 4 = w.toNat ∧ (n < addr ∨ addr + 4 ≤ n → t.holdByte n = s.holdByte n) ∧ t.pier.lastResult = 0
          ∧ SameRegs s t)
    ∧ (assigned addr = false → addr % 4 = 0 → (s.advance dt).localBlocked .pier = false → s.ferry.localWait = [] →
      Completes (.pierWrite dt addr [w]) s fun t =>
        t.pier.lastResult = 4 ∧ t.pair Reg.SYS_ACC_ERR = min (s.pair Reg.SYS_ACC_ERR + 1) (2 ^ 64 - 1)
          ∧ RegsBut [Reg.SYS_ACC_ERR, Reg.SYS_ACC_ERR + 4, Reg.SYS_ACC_ERR_ADDR, Reg.SYS_ACC_ERR_INFO] s t ∧ SameHold s t)
    ∧ (addr % 4 ≠ 0 →
      Completes (.pierWrite dt addr d) s fun t => t.pier.lastResult = 6 ∧ SameRegs s t ∧ SameHold s t)
    ∧ (s.outQ k = x → x.feed = [] → x.waiting = [] → 1 ≤ n → n ≤ 255 → m ≤ n → m < x.words.length →
      Completes (.pierQread dt k n m []) s fun t =>
        t.out = .answer .pier 0 ((x.words.take m).map fun u => wireWord u 0 u.data) :: s.out
          ∧ (t.outQ k).words = x.words.drop m ∧ RegsBut [Reg.PIER_OQ_STAT k, Reg.PIER_IRQ_STAT] s t ∧ SameHold s t)
    ∧ (s.outQ k = x → x.feed = [] → x.waiting = [] → x.words = [o] →
      Completes (.pierQread dt k 1 1 [1]) s fun t =>
        t.out = .answer .pier 0 [wireWord o 1 o.data] :: s.out ∧ (t.outQ k).words = []
          ∧ t.pair Reg.PIER_ECC_CORR = min (s.pair Reg.PIER_ECC_CORR + 1) (2 ^ 64 - 1)
          ∧ RegsBut [Reg.PIER_ECC_CORR, Reg.PIER_ECC_CORR + 4, Reg.PIER_OQ_STAT k, Reg.PIER_IRQ_STAT] s t ∧ SameHold s t)
    ∧ (s.outQ k = x → x.feed = [] → x.waiting = [] → x.words = [o] →
      Completes (.pierQread dt k 1 1 [2]) s fun t =>
        (t.outQ k).words = [] ∧ t.pair Reg.PIER_ECC_UNCORR = min (s.pair Reg.PIER_ECC_UNCORR + 1) (2 ^ 64 - 1)
          ∧ RegsBut [Reg.PIER_ECC_UNCORR, Reg.PIER_ECC_UNCORR + 4, Reg.PIER_OQ_STAT k, Reg.PIER_IRQ_STAT] s t ∧ SameHold s t)
    ∧ (s.outQ k = {} → 1 ≤ n → n ≤ 255 → 1 ≤ m →
      Completes (.pierQread dt k n m []) s fun t =>
        t.out = .answer .pier 0 (List.replicate (min n m) 0) :: s.out ∧ (t.outQ k).words = []
          ∧ RegsBut [Reg.PIER_OQ_STAT k, Reg.PIER_IRQ_STAT] s t ∧ SameHold s t)
    ∧ (i.val < 2 → s.inQ i = { open_ := true, ptype := 3, length := 32, bytes := (qmpBytes 0 3 n m 0 0 0 []).take 28 } →
      r = ⟨true, false, true, 0#32, secded 0⟩ →
      Completes (.pierQwrite dt i [r]) s fun t =>
        t.out = .message "QMP_PIER" i ((qmpBytes 0 3 n m 0 0 0 []).map (·.toNat)) :: s.out ∧ t.inQ i = {} ∧ SameRegs s t
          ∧ SameHold s t)
    ∧ (i.val < 2 → s.outQ 7 = {} →
      s.inQ i = { open_ := true, ptype := 3, length := 32, bytes := (qmpBytes 8 3 n m 0 0 0 []).take 28 } →
      r = ⟨true, false, true, 0#32, secded 0⟩ → m < 2 ^ 32 →
      Completes (.pierQwrite dt i [r]) s fun t =>
        (t.outQ 7).words = outPacket 3 0 (qmpBytes 1 3 0 m s.nodeId 0 6 []) ∧ t.inQ i = {}
          ∧ RegsBut [Reg.PIER_OQ_STAT 7, Reg.PIER_IRQ_STAT] s t ∧ SameHold s t)
    ∧ (p.valid = true → p.sop = true → p.eop = true → (secdedFix p.data.toNat p.check).2 = 2 →
      Completes (.pierQwrite dt i [p]) s fun t =>
        t.out = s.out ∧ t.inQ i = {} ∧ bit (t.rn Reg.PIER_IRQ_STAT) 20 = true
          ∧ t.pair Reg.PIER_ECC_UNCORR = min (s.pair Reg.PIER_ECC_UNCORR + 1) (2 ^ 64 - 1)
          ∧ RegsBut [Reg.PIER_ECC_UNCORR, Reg.PIER_ECC_UNCORR + 4, Reg.PIER_IRQ_STAT] s t ∧ SameHold s t)
    ∧ (p = ⟨true, true, false, w, secded w.toNat⟩ → 9216 < bits w.toNat 15 0 →
      Completes (.pierQwrite dt i [p]) s fun t =>
        t.out = s.out ∧ (t.inQ i).bad = true ∧ bit (t.rn Reg.PIER_IRQ_STAT) 21 = true
          ∧ t.pair Reg.PIER_IQ_OVERRUN = min (s.pair Reg.PIER_IQ_OVERRUN + 1) (2 ^ 64 - 1)
          ∧ RegsBut [Reg.PIER_IQ_OVERRUN, Reg.PIER_IQ_OVERRUN + 4, Reg.PIER_IRQ_STAT] s t ∧ SameHold s t)
    ∧ (p.valid = true → p.sop = false → p.eop = false → (secdedFix p.data.toNat p.check).2 = 1 →
      Completes (.pierQwrite dt i [p]) s fun t =>
        t.out = s.out ∧ t.pair Reg.PIER_ECC_CORR = min (s.pair Reg.PIER_ECC_CORR + 1) (2 ^ 64 - 1)
          ∧ RegsBut [Reg.PIER_ECC_CORR, Reg.PIER_ECC_CORR + 4] s t ∧ SameHold s t)
    ∧ (s.outQ k = x → x.reading = true → x.waiting = [] →
      Completes (.pierDrop dt k) s fun t =>
        (t.outQ k).words = dropPacket x.words ∧ (t.outQ k).feed = [] ∧ (t.outQ k).reading = false
          ∧ t.pair Reg.PIER_OQ_DROP = min (s.pair Reg.PIER_OQ_DROP + 1) (2 ^ 64 - 1)
          ∧ RegsBut [Reg.PIER_OQ_DROP, Reg.PIER_OQ_DROP + 4, Reg.PIER_OQ_STAT k, Reg.PIER_IRQ_STAT] s t ∧ SameHold s t)
    ∧ ((s.outQ k).reading = false →
      Completes (.pierDrop dt k) s fun t => t.pier = s.pier ∧ SameRegs s t ∧ SameHold s t)
    ∧ (Completes (.pierStatus dt) s fun t =>
        t.out = .answer .pier s.pier.lastResult (s.rn Reg.PIER_IRQ_STAT :: ((List.range 8).map fun q => (s.outQ q).words.length)
            ++ (List.range 4).map fun q => s.rn (Reg.PIER_IQ_STAT q)) :: s.out ∧ SameRegs s t ∧ SameHold s t)
    ∧ (code % 128 = 0 ∨ 6 < code % 128 →
      Completes (.pierBadCommand dt code) s fun t =>
        t.pair Reg.PIER_BAD_CMD = min (s.pair Reg.PIER_BAD_CMD + 1) (2 ^ 64 - 1)
          ∧ RegsBut [Reg.PIER_BAD_CMD, Reg.PIER_BAD_CMD + 4] s t ∧ SameHold s t)
    ∧ (s.outQ k = x → x.words ≠ [] → x.timer = some v → bit (s.rn (Reg.PIER_OQ_CFG k)) 24 = true →
      v + s.oqStale k ≤ s.clk + dt →
      Completes (.pierStaleTimer dt k) s fun t =>
        t.outQ k = { x with timer := some (s.clk + dt) } ∧ bit (t.rn Reg.PIER_IRQ_STAT) (8 + k) = true
          ∧ t.pair Reg.PIER_STALE = min (s.pair Reg.PIER_STALE + 1) (2 ^ 64 - 1)
          ∧ RegsBut [Reg.PIER_STALE, Reg.PIER_STALE + 4, Reg.PIER_IRQ_STAT, Reg.PIER_OQ_STAT k] s t ∧ SameHold s t)
    ∧ ((s.outQ k).timer = some v → s.clk + dt < v + s.oqStale k →
      Completes (.pierStaleTimer dt k) s fun t => t.pier = s.pier ∧ SameRegs s t ∧ SameHold s t)

/-! ### Faults -/

/-- R434 to R450, R452, R455: an independent trip is logged with its SEQ, stamp and reaction, stands and is counted, with a
flag of its own at a lamp port; an event is noted and does not stand; the first that suffices is the first-fault record,
copied into the logbook; coincident trips are logged in descending severity; a trip of a standing fault is a repeat, one in a
shadow is consequential with its cause, one of a reserved number nothing; a held output is told; a Grave fault latches in a
legacy manifest and then stays; a block is reset for its time, with its shadow, and returns to service; a lane retrains; a
reset of the device is withheld while firmware is unconfirmed, and otherwise names its cause; a rail fault is at least
Degraded; a fault recovers after its quiet period, and escalates at its limit; clear commands, configuration, injection and
its end act as their registers say. -/
def Obligations.FaultHandling : Prop :=
  ∀ (dt d i n m k c : Nat) (l : List Nat) (x : FltInst) (f : LogEntry) (h : Shadow) (j : Injection) (b : Block) (det : Fin 512)
    (w : Word) (req : Requester) (s : State), s.watch.core = true →
    (s.trips d = true → detEvent d = false → (s.advance dt).shadowOf d i = none → s.fltInst d i = {} →
      s.detReaction d = k → k ≤ 1 → s.flt.injection = none → s.flt.first = some f → (s.advance dt).freshStamp = true →
      s.flt.log.length < 1024 →
      Completes (.detectorTrip dt [(d, i, n)]) s fun t =>
        t.flt.log = { seq := s.flt.nextSeq, stamp := (s.advance dt).now64, frac := (s.advance dt).frac, det := d, inst := i,
                      kind := 1, sev := s.detSeverity d, latched := s.legacy && decide (s.detSeverity d = 3), reaction := k,
                      info := n } :: s.flt.log
          ∧ t.fltInst d i = { state := .fault, cond := detHasCond d, quietFrom := s.clk + dt, reaction := k,
                              latched := s.legacy && decide (s.detSeverity d = 3), sev := s.detSeverity d,
                              cfg := s.rn (Reg.FLT_DET_CFG d) }
          ∧ t.flt.nextSeq = (s.flt.nextSeq + 1) % 2 ^ 32 ∧ t.flt.first = s.flt.first
          ∧ t.pair Reg.FLT_RAISED = min (s.pair Reg.FLT_RAISED + 1) (2 ^ 64 - 1)
          ∧ (d < 192 ∨ 202 < d → RegsBut [Reg.FLT_RAISED, Reg.FLT_RAISED + 4] s t) ∧ SameHold s t)
    ∧ (s.trips d = true → detEvent d = true → (s.advance dt).shadowOf d i = none → s.detReaction d = 0 →
      (s.advance dt).freshStamp = true →
      Completes (.detectorTrip dt [(d, i, n)]) s fun t =>
        (t.flt.log.head?.map fun z => (z.kind, z.det, z.inst, z.sev, z.info)) = some (7, d, i, s.detSeverity d, n)
          ∧ t.fltInst d i = s.fltInst d i ∧ t.pair Reg.FLT_RAISED = min (s.pair Reg.FLT_RAISED + 1) (2 ^ 64 - 1)
          ∧ SameHold s t)
    ∧ (s.trips d = true → (s.advance dt).shadowOf d i = none → detEvent d = true ∨ s.fltInst d i = {} →
      s.detReaction d ≤ 1 → s.flt.first = none → s.fld Reg.FLT_CFG 2 1 ≤ s.detSeverity d →
      (s.advance dt).freshStamp = true →
      Completes (.detectorTrip dt [(d, i, n)]) s fun t =>
        t.flt.first = t.flt.log.head?
          ∧ (t.flt.first.map fun z => (z.det, z.inst, z.first, z.info)) = some (d, i, true, n)
          ∧ (t.flt.first.map fun z => z.words.map (· % 2 ^ 32)) = some (t.rdWords (Reg.KEEP_LOG 8) 8) ∧ SameHold s t)
    ∧ (s.detReaction 81 = 0 → s.detReaction 195 = 5 → s.detSeverity 81 < s.detSeverity 195 →
      s.flt.shadows = [] → s.fltInst 81 i = {} → s.fltInst 195 4 = {} → s.flt.first = none →
      s.fld Reg.FLT_CFG 2 1 ≤ s.detSeverity 195 → (s.advance dt).freshStamp = true →
      Completes (.detectorTrip dt [(81, i, n), (195, 4, n)]) s fun t =>
        (t.flt.log.take 2).map (fun z => (z.det, z.coincident, z.first)) = [(81, true, false), (195, true, true)]
          ∧ (t.flt.first.map fun z => z.det) = some 195 ∧ t.heldBy 195 4 5 = true ∧ t.out.head? = some (.pin "SAFE" 195 true)
          ∧ SameHold s t)
    ∧ (s.trips d = true → detEvent d = false → (s.advance dt).shadowOf d i = none → s.fltInst d i = x →
      x.standing = true → (s.advance dt).freshStamp = true → s.flt.log.length < 1024 →
      Completes (.detectorTrip dt [(d, i, n)]) s fun t =>
        t.fltInst d i = { x with cond := x.cond || detHasCond d, quietFrom := max x.quietFrom (s.clk + dt) }
          ∧ (t.flt.log.head?.map fun z => (z.kind, z.det, z.inst, z.reaction)) = some (4, d, i, 255)
          ∧ t.flt.resets = s.flt.resets ∧ (d < 192 ∨ 202 < d → SameRegs s t) ∧ SameHold s t)
    ∧ (s.trips d = true → (s.advance dt).shadowOf d i = some h → (s.advance dt).freshStamp = true →
      s.flt.log.length < 1024 →
      Completes (.detectorTrip dt [(d, i, n)]) s fun t =>
        (t.flt.log.head?.map fun z => (z.kind, z.det, z.inst, z.cause, z.reaction)) = some (3, d, i, h.cause, 255)
          ∧ t.pair Reg.FLT_CONSEQ = min (s.pair Reg.FLT_CONSEQ + 1) (2 ^ 64 - 1) ∧ t.flt.resets = s.flt.resets
          ∧ (d < 192 ∨ 202 < d → RegsBut [Reg.FLT_CONSEQ, Reg.FLT_CONSEQ + 4] s t) ∧ SameHold s t)
    ∧ (s.trips d = false →
      Completes (.detectorTrip dt [(d, i, n)]) s fun t => t.flt = s.flt ∧ SameRegs s t ∧ SameHold s t)
    ∧ (s.lampDie = true → i < 32 → s.detReaction 195 = 5 →
      Completes (.detectorTrip dt [(195, i, n)]) s fun t => bit (t.rn (Reg.LAMP_PORT_FLT i)) 3 = true ∧ SameHold s t)
    ∧ (s.trips d = true → detEvent d = false → s.legacy = true → s.detSeverity d = 3 → (s.advance dt).shadowOf d i = none →
      s.fltInst d i = {} → s.detReaction d ≤ 1 →
      Completes (.detectorTrip dt [(d, i, n)]) s fun t =>
        t.flt.latch = true ∧ t.allSafe = true ∧ (t.fltInst d i).latched = true ∧ SameHold s t)
    ∧ (s.detReaction 0 = 2 → s.flt.resets = [] → s.flt.shadows = [] → s.fltInst 0 0 = {} → (s.advance dt).freshStamp = true →
      Completes (.detectorTrip dt [(0, 0, n)]) s fun t =>
        t.flt.resets = [(.compositor, s.clk + dt + us 250)]
          ∧ t.flt.shadows = [⟨.compositor, s.clk + dt + us 250 + us 16, s.flt.nextSeq⟩]
          ∧ (t.fltInst 0 0).quietFrom = s.clk + dt + us 250 ∧ SameHold s t)
    ∧ (s.detReaction 128 = 3 → i < 24 → s.isSardy i = true → s.laneSt i ≠ 0 → s.laneSt i ≠ 7 → s.flt.resets = [] →
      s.flt.shadows = [] →
      Completes (.detectorTrip dt [(128, i, n)]) s fun t => (.lane i, s.clk + dt + ms 100) ∈ t.flt.resets ∧ SameHold s t)
    ∧ (s.flt.resets = [(b, c)] → c ≤ s.clk + dt → blockNeedsTrial b = false ∨ bit (s.rn Reg.TWIN_CFG) 0 = false →
      s.twin.trialStart = none →
      Completes (.blockResetDone dt b) s fun t =>
        t.flt.resets = [] ∧ (b ≠ .lampLink → SameRegs s t) ∧ (b = .lampLink → s.lampDie = true → t.lamp.linkHold = false)
          ∧ SameHold s t)
    ∧ (s.flt.resets = [(b, c)] → c ≤ s.clk + dt → blockNeedsTrial b = true → bit (s.rn Reg.TWIN_CFG) 0 = true →
      s.twin.trialStart = none →
      Completes (.blockResetDone dt b) s fun t =>
        t.flt.resets = s.flt.resets ∧ t.twin.trialStart = some (s.clk + dt) ∧ t.fld Reg.TWIN_STAT 11 9 = 1
          ∧ t.eligible = false ∧ RegsBut [Reg.TWIN_STAT] s t ∧ SameHold s t)
    ∧ (s.flt.resets = [(b, c)] → s.clk + dt < c →
      Completes (.blockResetDone dt b) s fun t => t.flt = s.flt ∧ SameRegs s t ∧ SameHold s t)
    ∧ (s.detReaction 10 = 6 → s.unconfirmed = true → s.detSeverity 10 < 3 → s.flt.shadows = [] → s.fltInst 10 i = {} →
      (s.advance dt).freshStamp = true →
      Completes (.detectorTrip dt [(10, i, n)]) s fun t =>
        (t.flt.log.head?.map fun z => (z.det, z.reaction, z.withheld)) = some (10, 255, true)
          ∧ t.pair Reg.FLT_WITHHELD = min (s.pair Reg.FLT_WITHHELD + 1) (2 ^ 64 - 1) ∧ t.pipe = s.pipe ∧ SameHold s t)
    ∧ (s.detReaction 10 = 6 → s.unconfirmed = false → s.flt.shadows = [] → s.fltInst 10 i = {} →
      (s.advance dt).freshStamp = true →
      Completes (.detectorTrip dt [(10, i, n)]) s fun t =>
        t.rn Reg.SYS_RESET_CAUSE = 6 ∧ t.rn Reg.SYS_BOOT_COUNT = (s.rn (Reg.KEEP_LOG 0) + 1) % 2 ^ 32 ∧ t.pipe = {}
          ∧ (t.flt.log.head?.map fun z => z.det) = some 10 ∧ SameHold s t)
    ∧ (s.trips d = true → (s.advance dt).shadowOf d i = none → s.fltInst d i = {} → d ≠ 9 →
      s.detReaction d ≤ 1 → s.flt.first = some f → (s.advance dt).freshStamp = true → s.flt.log.length < 1024 → 2 ≤ c →
      Completes (.railFault dt d i c) s fun t =>
        (t.flt.log.head?.map fun z => (z.kind, z.det, z.inst, z.sev)) = some (5, d, i, max 1 (s.detSeverity d))
          ∧ ((t.fltInst d i).state, (t.fltInst d i).cond) = (.rail, false)
          ∧ t.pair Reg.FLT_RAIL = min (s.pair Reg.FLT_RAIL + 1) (2 ^ 64 - 1)
          ∧ (d < 192 ∨ 202 < d → RegsBut [Reg.FLT_RAISED, Reg.FLT_RAISED + 4, Reg.FLT_RAIL, Reg.FLT_RAIL + 4] s t)
          ∧ SameHold s t)
    ∧ (s.fltInst 9 0 = {} → s.flt.shadows = [] → s.role = 1 → s.logOnly 148 = true → 2 ≤ c →
      Completes (.railFault dt 9 0 c) s fun t =>
        t.role = 2 ∧ t.fld Reg.TWIN_STAT 15 12 = 8 ∧ t.eligible = false ∧ SameHold s t)
    ∧ (c < 2 → Completes (.railFault dt d i c) s fun t => t.flt = s.flt ∧ SameRegs s t ∧ SameHold s t)
    ∧ (s.flt.shadows = [h] → h.untilClk ≤ s.clk + dt → s.flt.inShadow = [(instKey d i, n)] → i < 65536 →
      Completes (.shadowEnd dt []) s fun t =>
        t.flt.shadows = [] ∧ t.flt.inShadow = [] ∧ t.flt.log = s.flt.log ∧ SameRegs s t ∧ SameHold s t)
    ∧ (s.flt.shadows = [h] → h.untilClk ≤ s.clk + dt → s.flt.inShadow = [(instKey d i, n)] → i < 65536 → s.trips d = true →
      detEvent d = false → s.fltInst d i = {} → s.detReaction d ≤ 1 → (s.advance dt).freshStamp = true →
      Completes (.shadowEnd dt [(d, i, n)]) s fun t =>
        t.flt.shadows = [] ∧ (t.flt.log.head?.map fun z => (z.kind, z.det, z.inst)) = some (1, d, i) ∧ SameHold s t)
    ∧ (s.fltInst d i = x → x.standing = true → x.state ≠ .escalated → x.cond = false → x.latched = false →
      s.flt.injection = none → x.quietFrom + x.quiet ≤ s.clk + dt →
      (((s.clk + dt) :: x.recov).filter fun c => decide (s.clk + dt < c + x.escWindow)) = l → l.length < x.escLimit →
      s.flt.log.length < 1024 →
      Completes (.faultRecover dt d i) s fun t =>
        t.fltInst d i = { recov := l } ∧ (t.flt.log.head?.map fun z => (z.kind, z.det, z.inst)) = some (2, d, i)
          ∧ (x.reaction = 5 → t.out.head? = some (.pin "SAFE" d false))
          ∧ t.pair Reg.FLT_RECOVERED = min (s.pair Reg.FLT_RECOVERED + 1) (2 ^ 64 - 1)
          ∧ RegsBut [Reg.FLT_RECOVERED, Reg.FLT_RECOVERED + 4] s t ∧ SameHold s t)
    ∧ (s.fltInst d i = x → x.state = .escalated ∨ x.cond = true ∨ x.latched = true ∨ s.clk + dt < x.quietFrom + x.quiet →
      Completes (.faultRecover dt d i) s fun t => t.flt = s.flt ∧ SameRegs s t ∧ SameHold s t)
    ∧ (s.fltInst d i = x → x.standing = true → x.state ≠ .escalated → x.cond = false → x.latched = false →
      s.flt.injection = none → x.quietFrom + x.quiet ≤ s.clk + dt →
      (((s.clk + dt) :: x.recov).filter fun c => decide (s.clk + dt < c + x.escWindow)) = l → x.escLimit ≤ l.length →
      x.escReaction ≤ 1 →
      Completes (.faultRecover dt d i) s fun t =>
        ((t.fltInst d i).state, (t.fltInst d i).sev) = (.escalated, min 3 (x.sev + 1))
          ∧ t.pair Reg.FLT_ESCALATED = min (s.pair Reg.FLT_ESCALATED + 1) (2 ^ 64 - 1)
          ∧ ((t.flt.log.take 2).map fun z => (z.kind, z.det)) = [(6, d), (2, d)] ∧ SameHold s t)
    ∧ (Completes (.clearFirstFault dt req) s fun t =>
        t.flt.first = none ∧ t.rdWords (Reg.KEEP_LOG 8) 8 = List.replicate 8 0
          ∧ RegsBut (Reg.KEEP_LOG 63 :: (List.range 8).map fun q => Reg.KEEP_LOG (8 + q)) s t ∧ SameHold s t)
    ∧ (s.fld Reg.FLT_DET_SEL 8 0 = d → s.fld Reg.FLT_DET_SEL 26 16 = i → (s.fltInst d i).state = .escalated →
      (s.fltInst d i).latched = false →
      Completes (.clearEscalation dt req) s fun t =>
        t.fltInst d i = {} ∧ (k ≠ instKey d i → tabGet? t.flt.insts k = tabGet? s.flt.insts k) ∧ SameRegs s t ∧ SameHold s t)
    ∧ (s.fld Reg.FLT_DET_SEL 8 0 = d → s.fld Reg.FLT_DET_SEL 26 16 = i →
      (s.fltInst d i).state ≠ .escalated ∨ (s.fltInst d i).latched = true →
      Completes (.clearEscalation dt req) s fun t => t.flt = s.flt ∧ SameRegs s t ∧ SameHold s t)
    ∧ (s.flt.insts = [(k, x)] → x.state = .escalated → x.latched = false →
      Completes (.clearAllEscalations dt req) s fun t => t.flt.insts = [] ∧ SameRegs s t ∧ SameHold s t)
    ∧ (s.flt.insts = [(k, x)] → x.state ≠ .escalated ∨ x.latched = true →
      Completes (.clearAllEscalations dt req) s fun t => t.flt.insts = s.flt.insts ∧ SameRegs s t ∧ SameHold s t)
    ∧ (detSev? det = some m → m ≤ bits w.toNat 1 0 → detAllowed det (bits w.toNat 4 2) = true →
      detAllowed det (bits w.toNat 7 5) = true → 1 ≤ bits w.toNat 15 8 → 1 ≤ bits w.toNat 19 16 → 1 ≤ bits w.toNat 27 20 →
      s.flt.test = false →
      Completes (.detCfgWrite dt req det w) s fun t =>
        t.rn (Reg.FLT_DET_CFG det) = bits w.toNat 27 0 ∧ t.flt = s.flt ∧ RegsBut [Reg.FLT_DET_CFG det] s t ∧ SameHold s t)
    ∧ (detSev? det = none ∨ ((detSev? det).any fun q => decide (bits w.toNat 1 0 < q)) = true
        ∨ detAllowed det (bits w.toNat 4 2) = false ∨ detAllowed det (bits w.toNat 7 5) = false ∨ bits w.toNat 15 8 = 0
        ∨ bits w.toNat 19 16 = 0 ∨ bits w.toNat 27 20 = 0 ∨ s.flt.test = true →
      Completes (.detCfgWrite dt req det w) s fun t =>
        t.flt = s.flt ∧ t.pair Reg.SYS_ACC_ERR = min (s.pair Reg.SYS_ACC_ERR + 1) (2 ^ 64 - 1)
          ∧ RegsBut [Reg.SYS_ACC_ERR, Reg.SYS_ACC_ERR + 4, Reg.SYS_ACC_ERR_ADDR, Reg.SYS_ACC_ERR_INFO] s t ∧ SameHold s t)
    ∧ (s.flt.test = true → bits w.toNat 1 0 = k → k ≠ 0 → bits w.toNat 25 2 ≠ 0 → s.flt.injection = none →
      bits s.flt.injectTgt 8 0 = d → bits s.flt.injectTgt 26 16 = i → s.trips d = true → d ≠ 9 → detEvent d = false →
      s.detReaction d ≤ 1 → s.flt.shadows = [] → s.fltInst d i = {} → (s.advance dt).freshStamp = true →
      Completes (.faultInject dt req w) s fun t =>
        t.flt.injection = some ⟨d, i, k, s.clk + dt + us (bits w.toNat 25 2)⟩
          ∧ (t.flt.log.head?.map fun z => (z.kind, z.det, z.inst, z.injected)) = some (if k = 1 then 1 else 5, d, i, true)
          ∧ SameHold s t)
    ∧ (s.flt.test = false →
      Completes (.faultInject dt req w) s fun t =>
        t.flt = s.flt ∧ t.pair Reg.SYS_ACC_ERR = min (s.pair Reg.SYS_ACC_ERR + 1) (2 ^ 64 - 1)
          ∧ RegsBut [Reg.SYS_ACC_ERR, Reg.SYS_ACC_ERR + 4, Reg.SYS_ACC_ERR_ADDR, Reg.SYS_ACC_ERR_INFO] s t ∧ SameHold s t)
    ∧ (s.flt.injection = some j → j.untilClk ≤ s.clk + dt →
      Completes (.injectEnd dt) s fun t =>
        t.flt.injection = none ∧ (t.fltInst j.det j.inst).cond = false ∧ t.flt.log = s.flt.log ∧ SameRegs s t ∧ SameHold s t)
    ∧ (s.flt.injection = some j → s.clk + dt < j.untilClk →
      Completes (.injectEnd dt) s fun t => t.flt = s.flt ∧ SameRegs s t ∧ SameHold s t)

/-! ### Reserve -/

/-- R453, R454, R456: wear is recorded; an indicator at its threshold substitutes a free reserve when its policy is automatic,
raising the substitution fault, or reserve unavailable when none is free; a command of an invalid kind or resource is
answered 4, of a running kind 3, else with what came of it; policy and thresholds take valid words only; a completed
substitution puts the reserve in the resource's place, a bank's at a latch edge, and starts the next that waits; an
uncorrectable granule reads as zero; a core that disagrees is counted and substituted. Of the fault block it says what each
command does in its plainest form (R436, R438, R442, R445 to R447, R452, R455). -/
def Obligations.ReserveLedger : Prop :=
  ∀ (dt n p c k i : Nat) (d : Int) (b : Fin 17) (q : Fin 32) (core : Fin 10) (y : Substitution) (gr : Fin 393216)
    (x : FltInst) (blk : Block) (j : Injection) (det : Fin 512) (w : Word) (req : Requester) (s : State), s.watch.core = true → (∀ e ∈ [5, 6, 7, 10, 11, 198], s.logOnly e = true) →
    (s.rsv.hourEcc = [] → n < s.rn Reg.RSV_THR_ECC →
      Completes (.wearUpdate dt (.ecc b n)) s fun t =>
        t.pair (Reg.RSV_BANK_ECC b) = min (s.pair (Reg.RSV_BANK_ECC b) + n) (2 ^ 64 - 1) ∧ tabGetD t.rsv.hourEcc b 0 = n
          ∧ t.rsv.running = s.rsv.running ∧ RegsBut [Reg.RSV_BANK_ECC b, Reg.RSV_BANK_ECC b + 4] s t ∧ SameHold s t)
    ∧ (s.rsv.hourEcc = [] → 1 ≤ s.rn Reg.RSV_THR_ECC → s.rn Reg.RSV_THR_ECC ≤ n → s.rsv.bankMap.contains b.val = true →
      s.policy 1 = 2 → s.rsv.running = [] → s.rsv.spareBank = some p → (s.advance dt).freshStamp = true →
      Completes (.wearUpdate dt (.ecc b n)) s fun t =>
        t.rsv.running = [⟨1, b, s.clk + dt⟩] ∧ (∀ v ∈ [(11, 1), (6, b.val)], v ∈ (t.flt.log.take 2).map fun e => (e.det, e.inst))
          ∧ t.fld Reg.RSV_STAT 1 1 = 1 ∧ SameHold s t)
    ∧ (s.policy 1 ≠ 2 → (s.advance dt).freshStamp = true →
      Completes (.wearUpdate dt (.uncorrectable b gr)) s fun t =>
        t.rn (Reg.RSV_BANK_UNCORR b) = min (s.rn (Reg.RSV_BANK_UNCORR b) + 1) (2 ^ 32 - 1) ∧ t.rsv = s.rsv
          ∧ (t.flt.log.head?.map fun e => (e.det, e.inst)) = some (5, b.val)
          ∧ ∀ a, t.holdByte a = if s.rsv.bankMap.contains b.val = true ∧ s.granuleAt b gr ≤ a ∧ a < s.granuleAt b gr + 64
              then 0#8 else s.holdByte a)
    ∧ (d.natAbs ≤ 150 →
      Completes (.wearUpdate dt (.sense q d)) s fun t =>
        t.rn (Reg.RSV_SENSE_DRIFT q) = unsigned 16 d ∧ t.rsv = s.rsv ∧ RegsBut [Reg.RSV_SENSE_DRIFT q] s t ∧ SameHold s t)
    ∧ (150 < d.natAbs → s.policy 4 = 2 → s.rsv.running = [] → bit (s.rn (Reg.LAMP_PORT_STAT q)) 3 = false →
      (s.advance dt).freshStamp = true →
      Completes (.wearUpdate dt (.sense q d)) s fun t =>
        t.rn (Reg.RSV_SENSE_DRIFT q) = unsigned 16 d ∧ t.rsv.running = [⟨4, q, s.clk + dt⟩]
          ∧ (∀ v ∈ [(11, 4), (198, q.val)], v ∈ (t.flt.log.take 2).map fun e => (e.det, e.inst)) ∧ SameHold s t)
    ∧ (s.rsv.running = [] → 1 ≤ s.fld Reg.RSV_OTP_SPARE 7 0 → (s.advance dt).freshStamp = true →
      Completes (.wearUpdate dt .otpRow) s fun t =>
        t.rsv.running = [⟨6, 0, s.clk + dt⟩] ∧ (t.flt.log.head?.map fun e => (e.det, e.inst)) = some (11, 6) ∧ SameHold s t)
    ∧ (s.rsv.running = [] → s.fld Reg.RSV_NVM_SPARE 15 0 = 0 → s.fltInst 10 7 = {} → (s.advance dt).freshStamp = true →
      Completes (.wearUpdate dt .nvmBlock) s fun t =>
        t.rsv = s.rsv ∧ (t.flt.log.head?.map fun e => (e.det, e.inst)) = some (10, 7) ∧ SameHold s t)
    ∧ (k = 0 ∨ 5 < k ∨ s.policy k = 0 ∨ s.inService k i = false →
      Completes (.rsvSubstituteCmd dt req k i) s fun t =>
        t.rn Reg.RSV_RESULT = 4 ∧ t.rsv = s.rsv ∧ RegsBut [Reg.RSV_RESULT] s t ∧ SameHold s t)
    ∧ (1 ≤ k → k ≤ 5 → s.policy k ≠ 0 → s.inService k i = true → s.rsv.running = [y] → y.kind = k →
      Completes (.rsvSubstituteCmd dt req k i) s fun t =>
        t.rn Reg.RSV_RESULT = 3 ∧ t.rsv = s.rsv ∧ RegsBut [Reg.RSV_RESULT] s t ∧ SameHold s t)
    ∧ (s.policy 2 ≠ 0 → s.rsv.cores.contains i = true → s.rsv.running = [] → s.rsv.spareCores = [c] →
      (s.advance dt).freshStamp = true →
      Completes (.rsvSubstituteCmd dt req 2 i) s fun t =>
        t.rn Reg.RSV_RESULT = 1 ∧ t.rsv.running = [⟨2, i, s.clk + dt⟩]
          ∧ (t.flt.log.head?.map fun e => (e.det, e.inst)) = some (11, 2) ∧ SameHold s t)
    ∧ (s.policy 2 ≠ 0 → s.rsv.cores.contains i = true → s.rsv.running = [] → s.rsv.spareCores = [] → s.fltInst 10 2 = {} →
      (s.advance dt).freshStamp = true →
      Completes (.rsvSubstituteCmd dt req 2 i) s fun t =>
        t.rn Reg.RSV_RESULT = 2 ∧ t.rsv = s.rsv ∧ (t.flt.log.head?.map fun e => (e.det, e.inst)) = some (10, 2) ∧ SameHold s t)
    ∧ ((List.range 5).all (fun q => bits w.toNat (2 * q + 1) (2 * q) != 3) = true →
      Completes (.rsvPolicyWrite dt req .policy w) s fun t =>
        t.rn Reg.RSV_POLICY = bits w.toNat 9 0 ∧ RegsBut [Reg.RSV_POLICY] s t ∧ SameHold s t)
    ∧ (1000000 < w.toNat →
      Completes (.rsvPolicyWrite dt req .thrEcc w) s fun t =>
        t.pair Reg.SYS_ACC_ERR = min (s.pair Reg.SYS_ACC_ERR + 1) (2 ^ 64 - 1)
          ∧ RegsBut [Reg.SYS_ACC_ERR, Reg.SYS_ACC_ERR + 4, Reg.SYS_ACC_ERR_ADDR, Reg.SYS_ACC_ERR_INFO] s t ∧ SameHold s t)
    ∧ (s.rsv.running = [⟨1, i, c⟩] → s.rsv.waiting = [] → s.rsv.spareBank = some p → (s.advance dt).onEdge = true →
      Completes (.substitutionComplete dt 1) s fun t =>
        t.rsv.running = [] ∧ t.rsv.bankMap = s.rsv.bankMap.map (fun x => if x = i then p else x) ∧ t.rsv.spareBank = none
          ∧ t.rn Reg.RSV_HOLD_MAP = 31 ∧ t.fld Reg.RSV_STAT 1 0 = 0
          ∧ RegsBut ([Reg.RSV_STAT, Reg.RSV_HOLD_MAP] ++ (List.range 10).map Reg.RSV_CORE_STAT) s t ∧ SameHold s t)
    ∧ ((s.advance dt).onEdge = false →
      Completes (.substitutionComplete dt 1) s fun t => t.rsv = s.rsv ∧ SameRegs s t ∧ SameHold s t)
    ∧ (s.rsv.running = [⟨2, i, c⟩] → s.rsv.waiting = [⟨2, n, k⟩] → s.rsv.spareCores = [8, 9] →
      Completes (.substitutionComplete dt 2) s fun t =>
        t.rsv.cores = s.rsv.cores.map (fun x => if x = i then 8 else x) ∧ t.rsv.spareCores = [9]
          ∧ t.rsv.retired = i :: s.rsv.retired ∧ t.rsv.running = [⟨2, n, s.clk + dt⟩] ∧ t.rsv.waiting = [] ∧ SameHold s t)
    ∧ (s.rsv.running = [⟨6, i, c⟩] → s.rsv.waiting = [] → 1 ≤ s.fld Reg.RSV_OTP_SPARE 7 0 →
      Completes (.substitutionComplete dt 6) s fun t =>
        t.rn Reg.RSV_OTP_SPARE = s.fld Reg.RSV_OTP_SPARE 7 0 - 1 ∧ t.rsv.running = []
          ∧ RegsBut ([Reg.RSV_OTP_SPARE, Reg.RSV_STAT, Reg.RSV_HOLD_MAP] ++ (List.range 10).map Reg.RSV_CORE_STAT) s t
          ∧ SameHold s t)
    ∧ (Completes (.deckhandCheck dt core true) s fun t => t.rsv = s.rsv ∧ t.flt = s.flt ∧ SameRegs s t ∧ SameHold s t)
    ∧ (s.rsv.cores.contains core.val = true → s.policy 2 = 2 → s.rsv.running = [] → s.rsv.spareCores = [c] →
      s.fld (Reg.RSV_CORE_STAT core) 15 8 < 255 → (s.advance dt).freshStamp = true →
      Completes (.deckhandCheck dt core false) s fun t =>
        t.fld (Reg.RSV_CORE_STAT core) 15 8 = s.fld (Reg.RSV_CORE_STAT core) 15 8 + 1
          ∧ t.rsv.running = [⟨2, core, s.clk + dt⟩]
          ∧ (∀ v ∈ [(11, 2), (7, core.val)], v ∈ (t.flt.log.take 2).map fun e => (e.det, e.inst)) ∧ SameHold s t)
    ∧ (detSev? k = some p → detEvent k = false → s.logOnly k = true → s.fld Reg.PWR_STAT 0 0 = 0 → s.fltInst k i = {} →
      (s.advance dt).shadowOf k i = none → (s.advance dt).freshStamp = true →
      Completes (.detectorTrip dt [(k, i, n)]) s fun t =>
        (t.flt.log.head?.map fun e => (e.kind, e.det, e.inst, e.info)) = some (1, k, i, n) ∧ (t.fltInst k i).standing = true
          ∧ t.pair Reg.FLT_RAISED = min (s.pair Reg.FLT_RAISED + 1) (2 ^ 64 - 1) ∧ SameHold s t)
    ∧ (detSev? k = some p → k ≠ 9 → s.logOnly k = true → s.fld Reg.PWR_STAT 0 0 = 0 → s.fltInst k i = {} → 2 ≤ c →
      (s.advance dt).shadowOf k i = none → (s.advance dt).freshStamp = true →
      Completes (.railFault dt k i c) s fun t =>
        (t.flt.log.head?.map fun e => (e.kind, e.det, e.inst)) = some (5, k, i) ∧ (t.fltInst k i).state = .rail
          ∧ t.pair Reg.FLT_RAIL = min (s.pair Reg.FLT_RAIL + 1) (2 ^ 64 - 1) ∧ SameHold s t)
    ∧ (Completes (.shadowEnd dt []) s fun t =>
        t.flt.shadows = s.flt.shadows.filter (fun h => decide (s.clk + dt < h.untilClk)) ∧ t.flt.log = s.flt.log
          ∧ SameRegs s t ∧ SameHold s t)
    ∧ (s.flt.resets = [(blk, c)] → c ≤ s.clk + dt → blockNeedsTrial blk = false → blk ≠ .lampLink →
      Completes (.blockResetDone dt blk) s fun t => t.flt.resets = [] ∧ SameRegs s t ∧ SameHold s t)
    ∧ (s.fltInst k i = x → x.state = .fault → x.cond = false → x.latched = false → x.quietFrom + x.quiet ≤ s.clk + dt →
      x.recov = [] → 2 ≤ x.escLimit →
      Completes (.faultRecover dt k i) s fun t =>
        (t.fltInst k i).state = .good ∧ (t.flt.log.head?.map fun e => (e.kind, e.det, e.inst)) = some (2, k, i)
          ∧ t.pair Reg.FLT_RECOVERED = min (s.pair Reg.FLT_RECOVERED + 1) (2 ^ 64 - 1) ∧ SameHold s t)
    ∧ (Completes (.clearFirstFault dt req) s fun t => t.flt = { s.flt with first := none } ∧ SameHold s t)
    ∧ (s.fld Reg.FLT_DET_SEL 8 0 = k → s.fld Reg.FLT_DET_SEL 26 16 = i → (s.fltInst k i).state = .escalated →
      (s.fltInst k i).latched = false →
      Completes (.clearEscalation dt req) s fun t => t.fltInst k i = {} ∧ SameRegs s t ∧ SameHold s t)
    ∧ (s.flt.insts = [(k, x)] → x.state = .escalated → x.latched = false →
      Completes (.clearAllEscalations dt req) s fun t => t.flt.insts = [] ∧ SameRegs s t ∧ SameHold s t)
    ∧ (detSev? det = some p → p ≤ bits w.toNat 1 0 → detAllowed det (bits w.toNat 4 2) = true →
      detAllowed det (bits w.toNat 7 5) = true → 1 ≤ bits w.toNat 15 8 → 1 ≤ bits w.toNat 19 16 → 1 ≤ bits w.toNat 27 20 →
      s.flt.test = false →
      Completes (.detCfgWrite dt req det w) s fun t =>
        t.rn (Reg.FLT_DET_CFG det) = bits w.toNat 27 0 ∧ RegsBut [Reg.FLT_DET_CFG det] s t ∧ SameHold s t)
    ∧ (s.flt.test = true → bits w.toNat 1 0 = 1 → bits w.toNat 25 2 ≠ 0 → s.flt.injection = none →
      bits s.flt.injectTgt 8 0 = k → bits s.flt.injectTgt 26 16 = i → s.logOnly k = true →
      Completes (.faultInject dt req w) s fun t =>
        t.flt.injection = some ⟨k, i, 1, s.clk + dt + us (bits w.toNat 25 2)⟩ ∧ SameHold s t)
    ∧ (s.flt.injection = some j → j.untilClk ≤ s.clk + dt →
      Completes (.injectEnd dt) s fun t =>
        t.flt.injection = none ∧ (t.fltInst j.det j.inst).cond = false ∧ SameRegs s t ∧ SameHold s t)

/-! ### Power domains, states, watchkeeper, keeper and trims -/

/-- R457 to R462, R467, R471, R480, R481, R534: the keeper starts with a cleared logbook and the RTC at 0; every start of the
always-on island wakes the device with its cause; power-good held for 1 ms takes the compute die out of reset with BOOT_COUNT
one higher; a power-good not reached in 50 ms is recorded and tried again after 1 s, three times; RESET_N resets the compute die alone,
and its rise in Watch is a wake; the keeper and the island stop with their rails. Of the power states it says what each
command does in its plainest form (R463, R465, R466, R469 to R472, R482, R536). -/
def Obligations.PowerDomains : Prop :=
  ∀ (dt n m mv : Nat) (u : Fin 46) (r : Fin 64) (bs : Fin 4) (tm : Bool) (rail : Fin 6) (req : Requester) (w : Word) (s : State),
    (s.watch.keeper = false → s.watch.lost = true →
      Completes (.vkeepStart dt) s fun t =>
        t.watch.keeper = true ∧ t.watch.kwake = true ∧ t.watch.started = true ∧ t.watch.lost = false ∧ t.rtcNs = 0
          ∧ t.rdWords (Reg.KEEP_LOG 0) 63 = List.replicate 63 0 ∧ t.rn Reg.KEEP_STAT = 3 ∧ SameHold s t)
    ∧ (s.watch.keeper = true →
      Completes (.vkeepStart dt) s fun t => t.watch = s.watch ∧ SameRegs s t ∧ SameHold s t)
    ∧ (s.watch.aon = false → s.watch.keeper = true →
      (if s.watch.started then 1 else if s.watch.shelf then 8 else 2) = n →
      Completes (.aonStart dt) s fun t =>
        t.watch.aon = true ∧ t.watch.pwrEn = true ∧ t.watch.pwrAt = s.clk + dt ∧ t.fld (Reg.KEEP_LOG 1) 7 0 = n
          ∧ t.fld (Reg.KEEP_LOG 1) 15 8 = 4 ∧ t.rn (Reg.KEEP_LOG (16 + u)) = s.rn (Reg.KEEP_LOG (16 + u)) ∧ SameHold s t)
    ∧ (s.watch.pwrEn = true → s.watch.good = false → s.watch.core = false → s.watch.resetN = true →
      max s.watch.pwrAt s.watch.goodAt + ms 1 ≤ s.clk + dt →
      (s.watch.goodAt < s.watch.pwrAt → s.clk + dt ≤ s.watch.pwrAt + ms 50) →
      Completes (.powerGood dt bs tm) s fun t =>
        t.watch.core = true ∧ t.watch.good = true ∧ t.watch.goodAt = s.clk + dt ∧ t.watch.rails = 127
          ∧ t.watch.bootsel = bs ∧ t.watch.testMode = tm
          ∧ t.rn Reg.SYS_BOOT_COUNT = (s.rn (Reg.KEEP_LOG 0) + 1) % 2 ^ 32 ∧ t.rn (Reg.KEEP_LOG 0) = t.rn Reg.SYS_BOOT_COUNT
          ∧ t.rn Reg.SYS_RESET_CAUSE = s.fld (Reg.KEEP_LOG 1) 23 0 ∧ t.fld Reg.SVC_STAT 12 11 = bs ∧ SameHold s t)
    ∧ (s.watch.pwrEn = true → s.watch.good = false → s.watch.core = false → s.watch.resetN = false →
      max s.watch.pwrAt s.watch.goodAt + ms 1 ≤ s.clk + dt →
      (s.watch.goodAt < s.watch.pwrAt → s.clk + dt ≤ s.watch.pwrAt + ms 50) →
      Completes (.powerGood dt bs tm) s fun t =>
        t.watch.core = false ∧ t.watch.good = true ∧ SameRegs s t ∧ SameHold s t)
    ∧ (s.watch.pwrEn = false ∨ s.watch.good = true ∨ s.clk + dt < max s.watch.pwrAt s.watch.goodAt + ms 1
        ∨ (s.watch.goodAt < s.watch.pwrAt ∧ s.watch.pwrAt + ms 50 < s.clk + dt) →
      Completes (.powerGood dt bs tm) s fun t => t.watch = s.watch ∧ SameRegs s t ∧ SameHold s t)
    ∧ (s.watch.pwrEn = true → s.watch.good = false → s.watch.goodAt < s.watch.pwrAt → s.watch.pwrAt + ms 50 ≤ s.clk + dt →
      s.watch.attempts = n → s.fld (Reg.KEEP_LOG 1) 31 24 < 255 →
      Completes (.powerGoodTimeout dt) s fun t =>
        t.watch.pwrEn = false ∧ t.fld (Reg.KEEP_LOG 1) 31 24 = s.fld (Reg.KEEP_LOG 1) 31 24 + 1
          ∧ t.fld (Reg.KEEP_LOG 1) 7 0 = 10
          ∧ t.watch.retryAt = (if n < 2 then some (s.clk + dt + sec 1) else none) ∧ (2 ≤ n → t.alert = true) ∧ SameHold s t)
    ∧ (s.clk + dt < s.watch.pwrAt + ms 50 →
      Completes (.powerGoodTimeout dt) s fun t => t.watch = s.watch ∧ SameRegs s t ∧ SameHold s t)
    ∧ (s.watch.retryAt = some n → n ≤ s.clk + dt →
      Completes (.powerRetry dt) s fun t =>
        t.watch.pwrEn = true ∧ t.watch.pwrAt = s.clk + dt ∧ t.watch.retryAt = none ∧ SameRegs s t ∧ SameHold s t)
    ∧ (s.watch.retryAt = some n → s.clk + dt < n →
      Completes (.powerRetry dt) s fun t => t.watch = s.watch ∧ SameRegs s t ∧ SameHold s t)
    ∧ (s.watch.core = true →
      Completes (.resetNAssert dt) s fun t =>
        t.watch.core = false ∧ t.watch.resetN = false ∧ t.watch.pwrEn = s.watch.pwrEn ∧ t.fld (Reg.KEEP_LOG 1) 7 0 = 3
          ∧ t.flt.log = s.flt.log ∧ t.pipe = {} ∧ t.berths = {} ∧ t.cues = {}
          ∧ t.rn (Reg.KEEP_LOG (16 + u)) = s.rn (Reg.KEEP_LOG (16 + u)) ∧ t.rn (Reg.WATCH_RULE r) = s.rn (Reg.WATCH_RULE r)
          ∧ SameHold s t)
    ∧ (s.watch.resetN = false → s.watch.aon = true → s.watch.pwrEn = false →
      Completes (.resetNRelease dt bs tm) s fun t =>
        t.watch.resetN = true ∧ t.watch.pwrEn = true ∧ t.fld (Reg.KEEP_LOG 1) 7 0 = 7 ∧ t.fld (Reg.KEEP_LOG 1) 15 8 = 3
          ∧ SameHold s t)
    ∧ (s.watch.resetN = false → s.watch.pwrEn = true → s.watch.good = true → s.watch.core = false →
      Completes (.resetNRelease dt bs tm) s fun t =>
        t.watch.core = true ∧ t.rn Reg.SYS_BOOT_COUNT = (s.rn (Reg.KEEP_LOG 0) + 1) % 2 ^ 32 ∧ t.watch.bootsel = bs
          ∧ SameHold s t)
    ∧ (s.watch.keeper = true →
      Completes (.vkeepLoss dt) s fun t =>
        t.watch.keeper = false ∧ t.watch.lost = true ∧ t.watch.kwake = false ∧ t.fld Reg.KEEP_STAT 2 2 = 0
          ∧ RegsBut [Reg.KEEP_STAT] s t ∧ SameHold s t)
    ∧ (s.watch.aon = true →
      Completes (.alwaysOnRailLoss dt) s fun t =>
        t.watch.aon = false ∧ t.watch.pwrEn = false ∧ t.watch.core = (s.watch.core && !s.watch.pwrEn) ∧ t.watch.rules = []
          ∧ t.rn (Reg.WATCH_RULE r) = 0 ∧ t.rn (Reg.WATCH_VAL_CFG 3) = 256
          ∧ t.rn (Reg.KEEP_LOG (16 + u)) = s.rn (Reg.KEEP_LOG (16 + u)))
    ∧ (s.watch.aon = false →
      Completes (.alwaysOnRailLoss dt) s fun t => t.watch = s.watch ∧ SameRegs s t ∧ SameHold s t)
    ∧ (s.watch.core = true → s.quiet = false → s.quietPending = false →
      Completes (.quietEnter dt req) s fun t =>
        t.fld Reg.PWR_STAT 9 9 = 1 ∧ t.pipe.commits.length = s.pipe.commits.length + 1 ∧ SameHold s t)
    ∧ (s.watch.core = true → s.quiet = true →
      Completes (.quietLeave dt req) s fun t =>
        t.pipe.commits.length = s.pipe.commits.length + 1 ∧ SameRegs s t ∧ SameHold s t)
    ∧ (s.watch.core = true →
      Completes (.watchEnter dt req) s fun t => t.watch.core = false ∧ t.watch.pwrEn = false ∧ t.watch.aon = s.watch.aon)
    ∧ (s.watch.core = true →
      Completes (.shelfEnter dt req) s fun t =>
        t.watch.core = false ∧ t.watch.pwrEn = false ∧ t.watch.aon = false ∧ t.watch.shelf = true)
    ∧ (s.watch.keeper = true → s.alarmArmed = true → s.alarmSec ≤ (s.advance dt).rtcSec →
      Completes (.rtcAlarm dt) s fun t => t.alarmArmed = false)
    ∧ (s.watch.core = true →
      Completes (.alarmArm dt req w) s fun t =>
        t.rd (Reg.KEEP_ALARM + 4) &&& 3#32 = w &&& 3#32 ∧ RegsBut [Reg.KEEP_ALARM, Reg.KEEP_ALARM + 4] s t ∧ SameHold s t)
    ∧ (s.watch.core = true → s.watch.warnAt = none → mv < 725 → s.logOnly 256 = true →
      Completes (.brownoutWarning dt mv) s fun t => t.watch.warnAt = some (s.clk + dt) ∧ t.rn Reg.PWR_BROWN_MIN = mv ∧ SameHold s t)
    ∧ (s.watch.core = true → s.watch.warnAt = some n → n + ms 1 ≤ s.clk + dt → mv < 725 → s.nvm.tftp = none →
      s.nvm.saves = [] → s.nvm.waiting = [] →
      Completes (.brownoutEnd dt mv) s fun t => t.watch.warnAt = none ∧ t.rn Reg.PWR_BROWN_MIN = mv ∧ SameHold s t)
    ∧ (s.watch.core = true → mv < 695 →
      Completes (.brownoutReset dt mv) s fun t => t.watch.core = false ∧ t.fld (Reg.KEEP_LOG 1) 7 0 = 4 ∧ SameHold s t)
    ∧ (s.watch.core = true → s.logOnly 257 = true → s.logOnly 258 = true →
      Completes (.railUndervoltage dt rail tm) s fun t => bit t.watch.rails (rail + 1) = !tm ∧ SameHold s t)
    ∧ (s.watch.core = true → s.lampDie = true →
      Completes (.lampSupplyRelease dt) s fun t => t.lamp = { s.lamp with supplyOk := true } ∧ SameHold s t)
    ∧ (s.watch.core = true → s.lampDie = true →
      Completes (.lampSupplyLow dt) s fun t => t.lamp = { s.lamp with supplyOk := false } ∧ SameHold s t)

/-- R463, R465 to R472, R482, R489, R536: entering and leaving Quiet are commits, refused where they do not apply; Watch and
Shelf bring the compute die, the main rails and, in Shelf, the island down, and keep the logbook's words; a due alarm is
cleared in Run, wakes from Watch and raises KWAKE in Shelf; a brownout warning is flagged, counted and raised, its end
records its duration, a brownout reset its cause with PWR_EN high; a rail under its threshold trips, and recovers; the lamp
supply follows VDD_LAMP. -/
def Obligations.PowerStates : Prop :=
  ∀ (dt n mv m : Nat) (u : Fin 46) (rail : Fin 5) (req : Requester) (w : Word) (s : State), s.watch.core = true →
    s.logOnly 256 = true →
    (s.quiet = false → s.quietPending = false →
      Completes (.quietEnter dt req) s fun t =>
        t.fld Reg.PWR_STAT 9 9 = 1 ∧ t.fld Reg.PWR_STAT 8 0 = s.fld Reg.PWR_STAT 8 0
          ∧ (t.pipe.commits.getLast?.map fun e => (e.stamp, e.kind)) = some ((s.advance dt).stamp16, .quiet true)
          ∧ t.pipe.commits.length = s.pipe.commits.length + 1 ∧ RegsBut [Reg.PWR_STAT] s t ∧ SameHold s t)
    ∧ (s.quiet = true ∨ s.quietPending = true →
      Completes (.quietEnter dt req) s fun t =>
        t.pipe = s.pipe ∧ t.pair Reg.SYS_ACC_ERR = min (s.pair Reg.SYS_ACC_ERR + 1) (2 ^ 64 - 1)
          ∧ RegsBut [Reg.SYS_ACC_ERR, Reg.SYS_ACC_ERR + 4, Reg.SYS_ACC_ERR_ADDR, Reg.SYS_ACC_ERR_INFO] s t ∧ SameHold s t)
    ∧ (s.quiet = true ∨ s.quietPending = true →
      Completes (.quietLeave dt req) s fun t =>
        (t.pipe.commits.getLast?.map fun e => (e.stamp, e.kind)) = some ((s.advance dt).stamp16, .quiet false)
          ∧ SameRegs s t ∧ SameHold s t)
    ∧ (s.quiet = false → s.quietPending = false →
      Completes (.quietLeave dt req) s fun t =>
        t.pipe = s.pipe ∧ t.pair Reg.SYS_ACC_ERR = min (s.pair Reg.SYS_ACC_ERR + 1) (2 ^ 64 - 1)
          ∧ RegsBut [Reg.SYS_ACC_ERR, Reg.SYS_ACC_ERR + 4, Reg.SYS_ACC_ERR_ADDR, Reg.SYS_ACC_ERR_INFO] s t ∧ SameHold s t)
    ∧ (Completes (.watchEnter dt req) s fun t =>
        t.watch.core = false ∧ t.watch.pwrEn = false ∧ t.watch.aon = s.watch.aon ∧ t.watch.kwake = s.watch.kwake
          ∧ t.flt.log = [] ∧ t.pipe = {} ∧ t.berths = {} ∧ t.rn (Reg.KEEP_LOG (16 + u)) = s.rn (Reg.KEEP_LOG (16 + u)))
    ∧ (Completes (.shelfEnter dt req) s fun t =>
        t.watch.core = false ∧ t.watch.pwrEn = false ∧ t.watch.aon = false ∧ t.watch.kwake = false ∧ t.watch.shelf = true
          ∧ t.watch.keeper = s.watch.keeper ∧ t.rn (Reg.KEEP_LOG (16 + u)) = s.rn (Reg.KEEP_LOG (16 + u)))
    ∧ (s.watch.keeper = true → s.alarmArmed = true → s.alarmSec ≤ (s.advance dt).rtcSec → s.watch.pwrEn = true →
      s.watch.shelf = false →
      Completes (.rtcAlarm dt) s fun t =>
        t.alarmArmed = false ∧ t.alarmSec = 0 ∧ t.watch = s.watch ∧ RegsBut [Reg.KEEP_ALARM, Reg.KEEP_ALARM + 4] s t
          ∧ SameHold s t)
    ∧ (s.watch.keeper = true → s.alarmArmed = true → s.alarmSec ≤ (s.advance dt).rtcSec → s.watch.aon = true →
      s.watch.pwrEn = false →
      Completes (.rtcAlarm dt) s fun t =>
        t.alarmArmed = false ∧ t.watch.pwrEn = true ∧ t.fld (Reg.KEEP_LOG 1) 7 0 = 7 ∧ t.fld (Reg.KEEP_LOG 1) 15 8 = 2
          ∧ t.pair Reg.WATCH_WAKES = min (s.pair Reg.WATCH_WAKES + 1) (2 ^ 64 - 1) ∧ SameHold s t)
    ∧ (s.watch.keeper = true → s.alarmArmed = true → s.alarmSec ≤ (s.advance dt).rtcSec → s.watch.aon = false →
      s.watch.shelf = true →
      Completes (.rtcAlarm dt) s fun t =>
        t.alarmArmed = false ∧ t.watch.kwake = true ∧ RegsBut [Reg.KEEP_ALARM, Reg.KEEP_ALARM + 4] s t ∧ SameHold s t)
    ∧ (s.alarmArmed = false ∨ (s.advance dt).rtcSec < s.alarmSec →
      Completes (.rtcAlarm dt) s fun t => t.watch = s.watch ∧ SameRegs s t ∧ SameHold s t)
    ∧ (((s.advance dt).pairTake req Reg.KEEP_ALARM).rn Reg.KEEP_ALARM = n → n + 2 ^ 32 * bits w.toNat 1 0 = m →
      Completes (.alarmArm dt req w) s fun t =>
        t.alarmSec = m ∧ t.alarmArmed = decide (m ≠ 0) ∧ RegsBut [Reg.KEEP_ALARM, Reg.KEEP_ALARM + 4] s t ∧ SameHold s t)
    ∧ (s.watch.warnAt = none → mv < 725 →
      Completes (.brownoutWarning dt mv) s fun t =>
        t.watch.warnAt = some (s.clk + dt) ∧ t.fld Reg.PWR_STAT 1 1 = 1 ∧ t.rn Reg.PWR_BROWN_MIN = mv
          ∧ t.pair Reg.PWR_BROWN_COUNT = min (s.pair Reg.PWR_BROWN_COUNT + 1) (2 ^ 64 - 1)
          ∧ (t.fltInst 256 0).standing = true ∧ SameHold s t)
    ∧ (s.watch.warnAt = some n ∨ 725 ≤ mv →
      Completes (.brownoutWarning dt mv) s fun t => t.watch = s.watch ∧ SameRegs s t ∧ SameHold s t)
    ∧ (s.watch.warnAt = some n → n + ms 1 ≤ s.clk + dt → mv < 725 → s.nvm.tftp = none → s.nvm.saves = [] →
      s.nvm.waiting = [] →
      Completes (.brownoutEnd dt mv) s fun t =>
        t.watch.warnAt = none ∧ t.fld Reg.PWR_STAT 1 1 = 0 ∧ t.rn Reg.PWR_BROWN_MIN = mv
          ∧ t.rn Reg.PWR_BROWN_LAST = min (2 ^ 24 - 1) (ceilDiv (s.clk + dt - ms 1 - n) 800)
          ∧ (t.fltInst 256 0).cond = false
          ∧ (s.lampDie = false → RegsBut [Reg.PWR_STAT, Reg.PWR_BROWN_MIN, Reg.PWR_BROWN_LAST] s t) ∧ SameHold s t)
    ∧ (s.watch.warnAt = some n → s.clk + dt < n + ms 1 →
      Completes (.brownoutEnd dt mv) s fun t => t.watch = s.watch ∧ SameRegs s t ∧ SameHold s t)
    ∧ (s.watch.warnAt = some n → mv < 695 →
      Completes (.brownoutReset dt mv) s fun t =>
        t.watch.core = false ∧ t.watch.good = false ∧ t.watch.pwrEn = s.watch.pwrEn ∧ t.fld (Reg.KEEP_LOG 1) 7 0 = 4
          ∧ t.rn (Reg.KEEP_LOG 4) = min (2 ^ 24 - 1) (ceilDiv (s.clk + dt - n) 800) ∧ t.rn (Reg.KEEP_LOG 5) = mv
          ∧ t.flt.log = [] ∧ t.rn (Reg.KEEP_LOG (16 + u)) = s.rn (Reg.KEEP_LOG (16 + u)) ∧ SameHold s t)
    ∧ (695 ≤ mv → Completes (.brownoutReset dt mv) s fun t => t.watch = s.watch ∧ SameRegs s t ∧ SameHold s t)
    ∧ (s.logOnly 257 = true → s.fltInst 257 rail = {} → s.flt.shadows = [] → (s.advance dt).freshStamp = true →
      Completes (.railUndervoltage dt ⟨rail.val, Nat.lt_succ_of_lt rail.isLt⟩ true) s fun t =>
        bit t.watch.rails (rail + 1) = false ∧ (t.flt.log.head?.map fun e => (e.det, e.inst)) = some (257, rail.val)
          ∧ (t.fltInst 257 rail).standing = true ∧ SameHold s t)
    ∧ (s.logOnly 258 = true → s.fltInst 258 0 = {} → s.flt.shadows = [] → (s.advance dt).freshStamp = true →
      Completes (.railUndervoltage dt 5 true) s fun t =>
        bit t.watch.rails 6 = false ∧ (t.flt.log.head?.map fun e => (e.det, e.inst)) = some (258, 0) ∧ SameHold s t)
    ∧ (Completes (.railUndervoltage dt ⟨rail.val, Nat.lt_succ_of_lt rail.isLt⟩ false) s fun t =>
        bit t.watch.rails (rail + 1) = true ∧ (t.fltInst 257 rail).cond = false ∧ t.flt.log = s.flt.log ∧ SameRegs s t
          ∧ SameHold s t)
    ∧ (s.lampDie = true →
      Completes (.lampSupplyRelease dt) s fun t =>
        t.lamp.supplyOk = true ∧ RegsBut [Reg.LAMP_STAT] s t ∧ SameHold s t)
    ∧ (s.lampDie = true →
      Completes (.lampSupplyLow dt) s fun t =>
        t.lamp.supplyOk = false ∧ RegsBut [Reg.LAMP_STAT] s t ∧ SameHold s t)
    ∧ (s.lampDie = false → Completes (.lampSupplyLow dt) s fun t => t.lamp = s.lamp ∧ SameRegs s t ∧ SameHold s t)
    ∧ (s.lampDie = false → Completes (.lampSupplyRelease dt) s fun t => t.lamp = s.lamp ∧ SameRegs s t ∧ SameHold s t)

/-- R473 to R480, R483 to R487: a valid sample of an enabled value, once at each instant, passes its filter and shows in
WATCH_VAL, an invalid one clears VALID alone; a rule turns true after DEBOUNCE samples; an I²C script's field is sampled, and
a failed script counted; the ADC check counts failures and reaches wear at the third; the RTC takes the ledger second while
LOCKED and its drift correction; USER words of the logbook take writes with CHECK; a trim moves by one code at most once per
100 ms, and holds while a reference is out of limits; a trims copy is written when a code has moved. -/
def Obligations.WatchkeeperAndTrims : Prop :=
  ∀ (dt code raw n m main rsv refin rref : Nat) (ts : List Nat) (drift : Int) (v : Fin 19) (r : Fin 32) (sl : Fin 4) (i : Fin 64) (id : Fin 130)
    (x : WatchVal) (req : Requester) (w : Word) (whole up : Bool) (bs : List Byte) (s : State),
    (∀ e ∈ [262, 263, 267, 268], s.logOnly e = true) →
    (s.watch.core = false → s.watch.aon = true → v.val < 12 → bit (s.rn (Reg.WATCH_VAL_CFG v)) 8 = true →
      s.fld (Reg.WATCH_VAL_CFG v) 4 3 = 0 → s.wval v = x →
      x.last ≠ some ((s.advance dt).sampleIdx (s.fld (Reg.WATCH_VAL_CFG v) 2 0)) → s.rulesOf v = [] →
      dieCode v raw ts = code → code ≤ 4095 →
      Completes (.watchSample dt v raw ts true) s fun t =>
        t.rn (Reg.WATCH_VAL v) = code + 4096 + 65536 * code ∧ (t.wval v).hist = (code :: x.hist).take 64
          ∧ (t.wval v).last = some ((s.advance dt).sampleIdx (s.fld (Reg.WATCH_VAL_CFG v) 2 0)) ∧ SameHold s t)
    ∧ (s.watch.core = false → s.watch.aon = true → v.val < 12 → bit (s.rn (Reg.WATCH_VAL_CFG v)) 8 = true →
      s.fld (Reg.WATCH_VAL_CFG v) 4 3 = 3 → s.wval v = x → x.y = some n → n < 2 ^ 20 →
      x.last ≠ some ((s.advance dt).sampleIdx (s.fld (Reg.WATCH_VAL_CFG v) 2 0)) → s.rulesOf v = [] →
      dieCode v raw ts = code → code ≤ 4095 →
      ((n : Int) + ((256 * code : Nat) - (n : Int)) / (2 ^ (s.fld (Reg.WATCH_VAL_CFG v) 7 5 + 1) : Nat)).toNat = m →
      Completes (.watchSample dt v raw ts true) s fun t =>
        (t.wval v).y = some m ∧ (t.wval v).filtered = (m + 128) / 256 ∧ SameHold s t)
    ∧ (s.watch.aon = true → bit (s.rn (Reg.WATCH_VAL_CFG v)) 8 = true → s.wval v = x → x.filtered < 4096 → x.raw < 4096 →
      x.last ≠ some ((s.advance dt).sampleIdx (s.fld (Reg.WATCH_VAL_CFG v) 2 0)) →
      Completes (.watchSample dt v raw ts false) s fun t =>
        t.rn (Reg.WATCH_VAL v) = x.filtered + 65536 * x.raw ∧ (t.wval v).hist = x.hist ∧ (t.wval v).y = x.y
          ∧ t.watch.rules = s.watch.rules ∧ RegsBut [Reg.WATCH_VAL v] s t ∧ SameHold s t)
    ∧ (s.watch.aon = false ∨ bit (s.rn (Reg.WATCH_VAL_CFG v)) 8 = false
        ∨ (s.wval v).last = some ((s.advance dt).sampleIdx (s.fld (Reg.WATCH_VAL_CFG v) 2 0)) →
      Completes (.watchSample dt v raw ts true) s fun t => t.watch = s.watch ∧ SameRegs s t ∧ SameHold s t)
    ∧ (s.watch.core = false → s.watch.aon = true → v.val < 12 → bit (s.rn (Reg.WATCH_VAL_CFG v)) 8 = true →
      s.fld (Reg.WATCH_VAL_CFG v) 4 3 = 0 →
      (s.wval v).last ≠ some ((s.advance dt).sampleIdx (s.fld (Reg.WATCH_VAL_CFG v) 2 0)) → s.rulesOf v = [r.val] →
      s.rule r = {} → bits (s.ruleW0 r) 7 6 = 0 → bits (s.ruleW0 r) 19 8 ≤ code → dieCode v raw ts = code → code ≤ 4095 →
      bits (s.ruleW1 r) 3 0 = 1 →
      bits (s.ruleW1 r) 15 12 = 0 →
      Completes (.watchSample dt v raw ts true) s fun t =>
        t.rule r = ⟨true, 0⟩ ∧ bit (t.rn Reg.WATCH_RULE_TRUE) r = true ∧ t.watch.pwrEn = s.watch.pwrEn ∧ SameHold s t)
    ∧ (s.watch.core = false → s.watch.aon = true → bit (s.i2cWord sl 0) 7 = true →
      tabGet? s.watch.i2cLast sl ≠ some ((s.advance dt).sampleIdx (bits (s.i2cWord sl 0) 26 24)) →
      bit (s.i2cField sl 0) 6 = true → bit (s.i2cField sl 0) 5 = false → bit (s.i2cField sl 1) 6 = false →
      bit (s.i2cField sl 2) 6 = false → bit (s.i2cField sl 3) 6 = false →
      bit (s.rn (Reg.WATCH_VAL_CFG (20 + 4 * sl))) 8 = true → s.fld (Reg.WATCH_VAL_CFG (20 + 4 * sl)) 4 3 = 0 →
      s.rulesOf (20 + 4 * sl) = [] →
      bs.length = bits (s.i2cWord sl 0) 14 12 → beNat bs / 2 ^ bits (s.i2cField sl 0) 4 0 % 4096 = n →
      Completes (.i2cScript dt sl (some bs)) s fun t =>
        t.rn (Reg.WATCH_VAL (20 + 4 * sl)) = n + 4096 + 65536 * n ∧ .message "I2C" sl (s.i2cScript sl) ∈ t.out ∧ SameHold s t)
    ∧ (s.watch.core = false → s.watch.aon = true → bit (s.i2cWord sl 0) 7 = true →
      tabGet? s.watch.i2cLast sl ≠ some ((s.advance dt).sampleIdx (bits (s.i2cWord sl 0) 26 24)) →
      Completes (.i2cScript dt sl none) s fun t =>
        t.pair Reg.WATCH_I2C_FAIL = min (s.pair Reg.WATCH_I2C_FAIL + 1) (2 ^ 64 - 1)
          ∧ t.watch.rules = s.watch.rules ∧ SameHold s t)
    ∧ (s.watch.core = true → s.watch.adcAt = none → absDiff main 2844 ≤ 8 →
      Completes (.watchAdcCheck dt main rsv) s fun t =>
        t.watch.adcBad = 0 ∧ t.watch.adcAt = some (s.clk + dt) ∧ t.rsv = s.rsv ∧ SameRegs s t ∧ SameHold s t)
    ∧ (s.watch.core = true → s.watch.adcAt = none → 8 < absDiff main 2844 → absDiff rsv 2844 ≤ 8 → s.watch.adcBad = 2 →
      s.policy 5 = 2 → s.rsv.running = [] → s.rsv.watchFree = true → s.logOnly 11 = true → (s.advance dt).freshStamp = true →
      Completes (.watchAdcCheck dt main rsv) s fun t =>
        t.watch.adcBad = 0 ∧ t.rsv.running = [⟨5, 0, s.clk + dt⟩]
          ∧ (∀ v ∈ [(11, 5), (268, 0)], v ∈ (t.flt.log.take 2).map fun e => (e.det, e.inst)) ∧ SameHold s t)
    ∧ (s.watch.core = true → s.time.servo = .locked → s.watch.keeper = true → (s.advance dt).ns / 10 ^ 9 = n →
      s.watch.syncSec ≠ some n → (s.advance dt).ns % 10 ^ 9 < 2 →
      Completes (.rtcSync dt) s fun t =>
        t.rtcNs = n * 10 ^ 9 ∧ t.fld Reg.KEEP_STAT 2 2 = 1 ∧ RegsBut [Reg.KEEP_STAT, Reg.KEEP_RTC_TRIM] s t ∧ SameHold s t)
    ∧ (s.time.servo ≠ .locked ∨ 2 ≤ (s.advance dt).ns % 10 ^ 9 →
      Completes (.rtcSync dt) s fun t => t.watch = s.watch ∧ SameRegs s t ∧ SameHold s t)
    ∧ (s.watch.core = true → s.time.servo = .locked → s.watch.keeper = true → s.watch.driftAt + sec 60 ≤ s.clk + dt →
      Completes (.rtcDriftWindow dt drift) s fun t =>
        t.watch.rtcTrim = clampI (-2000) 2000 (s.watch.rtcTrim - drift)
          ∧ t.rn Reg.KEEP_RTC_TRIM = unsigned 16 (clampI (-2000) 2000 (s.watch.rtcTrim - drift))
          ∧ t.rtcNs = (s.advance dt).rtcNs ∧ RegsBut [Reg.KEEP_RTC_TRIM] s t ∧ SameHold s t)
    ∧ (s.watch.core = true → 16 ≤ i.val → i.val ≤ 61 →
      Completes (.logbookWrite dt req i w) s fun t =>
        t.rn (Reg.KEEP_LOG i) = w.toNat
          ∧ t.rd (Reg.KEEP_LOG 63) = crc32c ((t.rdWords (Reg.KEEP_LOG 0) 63).flatMap (leBytes 4))
          ∧ RegsBut [Reg.KEEP_LOG i, Reg.KEEP_LOG 63] s t ∧ SameHold s t)
    ∧ (i.val < 16 ∨ 61 < i.val →
      Completes (.logbookWrite dt req i w) s fun t => SameRegs s t ∧ SameHold s t)
    ∧ (s.watch.core = true → s.trimAbsent id = false → s.watch.refBad = false → s.trim id = ⟨n, some m, none⟩ →
      m + ms 100 ≤ s.clk + dt → 1 ≤ n → n ≤ 253 → id.val < 13 →
      Completes (.trimAdjust dt id (some up)) s fun t =>
        t.trim id = ⟨if up then n + 1 else n - 1, some (s.clk + dt), none⟩ ∧ SameHold s t)
    ∧ (s.watch.core = true → s.trimAbsent id = false → s.watch.refBad = false → s.trim id = ⟨n, none, none⟩ → n < 255 →
      13 ≤ id.val → id.val ≤ 76 →
      Completes (.trimAdjust dt id (some true)) s fun t =>
        t.trim id = ⟨n, none, some (n + 1)⟩ ∧ SameRegs s t ∧ SameHold s t)
    ∧ (s.watch.refBad = true ∨ (s.trim id = ⟨n, some m, none⟩ ∧ s.clk + dt < m + ms 100) →
      Completes (.trimAdjust dt id (some up)) s fun t => t.watch = s.watch ∧ SameRegs s t ∧ SameHold s t)
    ∧ (s.watch.core = true → s.watch.refAt = none → refin < 24500 →
      Completes (.referenceCheck dt refin rref) s fun t =>
        t.watch.refBad = true ∧ t.fld Reg.PWR_TRIM_STAT 2 2 = 0 ∧ t.fld Reg.PWR_TRIM_STAT 0 0 = 0
          ∧ t.fld Reg.PWR_REF_MEAS 15 0 = refin ∧ SameHold s t)
    ∧ (s.watch.core = true → s.watch.refAt = none → 24500 ≤ refin → refin ≤ 25500 → 9800 ≤ rref → rref ≤ 10200 →
      s.watch.refBad = true → s.watch.refOkSince = some n → n + sec 1 ≤ s.clk + dt →
      Completes (.referenceCheck dt refin rref) s fun t =>
        t.watch.refBad = false ∧ t.fld Reg.PWR_TRIM_STAT 2 0 = 7 ∧ (t.fltInst 262 0).cond = false ∧ SameHold s t)
    ∧ (s.watch.core = true → s.watch.loaded = [] → s.watch.savedAt = none → s.watch.warnAt = none → s.nvm.trimA = none →
      s.nvm.trimB = none →
      Completes (.trimSave dt true) s fun t =>
        t.nvm.trimA = some ⟨1, s.nvm.otp.uid, (List.range 130).map fun q => (s.trim q).code⟩ ∧ t.nvm.trimB = none
          ∧ t.watch.savedAt = some (s.clk + dt)
          ∧ t.pair Reg.PWR_TRIM_WRITES = min (s.pair Reg.PWR_TRIM_WRITES + 1) (2 ^ 64 - 1)
          ∧ RegsBut [Reg.PWR_TRIM_WRITES, Reg.PWR_TRIM_WRITES + 4, Reg.PWR_TRIM_STAT] s t ∧ SameHold s t)
    ∧ (s.watch.warnAt.isSome = true ∨ (s.watch.savedAt.any fun c => decide (s.clk + dt < c + sec 3600)) = true →
      Completes (.trimSave dt whole) s fun t => t.nvm = s.nvm ∧ SameRegs s t ∧ SameHold s t)

/-! ### Boot, trials, TFTP and the NVM -/

/-- R498 to R501, R510 to R513, R520: the boot sequence runs once after a reset; with BOOTSEL 3, or without a valid firmware,
it enters service mode; a lost header boots slots A, one copy is restored from the other; a trial boot counts one try, an
expired trial falls back; a valid firmware and manifest run, their lanes start and the settings of the slot stay. The first
frame arms the device and records the time to picture. Activate, confirm and discard act on the header or answer their
reason; a reset command has cause 9; the trial's end writes TRIAL 2. -/
def Obligations.BootAndTrials : Prop :=
  ∀ (dt n : Nat) (l : Fin 24) (h : BootHdr) (p : Settings) (req : Requester) (u v s : State), s.watch.core = true →
    (∀ e ∈ [259, 263, 264, 265, 266, 320, 321, 322, 325, 328, 329], s.logOnly e = true) →
    (s.nvm.booted = true → Completes (.bootSequence dt) s fun t => t.nvm = s.nvm ∧ SameRegs s t ∧ SameHold s t)
    ∧ (s.nvm.booted = false → s.watch.bootsel = 3 →
      Completes (.bootSequence dt) s fun t =>
        t.serviceMode = true ∧ t.nvm.booted = true ∧ t.nvm.slots = s.nvm.slots ∧ t.nvm.hdr0 = s.nvm.hdr0
          ∧ t.rn Reg.SVC_SLOTS = s.hdr.slots % 2 ^ 32 ∧ SameHold s t)
    ∧ (s.nvm.booted = false → s.watch.bootsel ≠ 3 → s.nvm.hdr0 = none → s.nvm.hdr1 = none → s.imgCheck 0 (s.slotImg 0) ≠ 0 →
      s.imgCheck 0 (s.slotImg 1) ≠ 0 →
      Completes (.bootSequence dt) s fun t =>
        t.serviceMode = true ∧ t.nvm.hdr0 = some { slots := 0x303 } ∧ t.nvm.hdr1 = t.nvm.hdr0 ∧ t.rn Reg.SVC_SLOTS = 0x303
          ∧ (t.flt.log.any fun e => e.det == 321) = true ∧ SameHold s t)
    ∧ (s.nvm.booted = false → s.watch.bootsel ≠ 3 → s.nvm.hdr0 = some h → s.nvm.hdr1 = none → h.trial = 0 →
      (∀ k ∈ [0, 1, 2, 3], slotCode h k ≠ 1) → s.imgCheck 0 (s.slotImg h.fwActive) ≠ 0 →
      s.imgCheck 0 (s.slotImg (1 - h.fwActive)) ≠ 0 →
      Completes (.bootSequence dt) s fun t =>
        t.serviceMode = true ∧ t.nvm.hdr0 = some h ∧ t.nvm.hdr1 = some h ∧ (t.flt.log.any fun e => e.det == 320) = true
          ∧ SameHold s t)
    ∧ (s.nvm.booted = false → s.watch.bootsel ≠ 3 → s.nvm.hdr0 = some h → s.nvm.hdr1 = some h → h.trial = 1 → h.tries < 3 →
      (∀ k ∈ [0, 1, 2, 3], slotCode h k ≠ 1) → s.imgCheck 0 (s.slotImg h.fwActive) ≠ 0 →
      s.imgCheck 0 (s.slotImg (1 - h.fwActive)) ≠ 0 →
      Completes (.bootSequence dt) s fun t =>
        t.hdr = { h with tries := h.tries + 1, seq := h.seq + 1 } ∧ t.fld Reg.SVC_STAT 5 4 = h.tries + 1 ∧ SameHold s t)
    ∧ (s.nvm.booted = false → s.watch.bootsel ≠ 3 → s.nvm.hdr0 = some h → s.nvm.hdr1 = some h → h.trial = 2 →
      (∀ k ∈ [0, 1, 2, 3], slotCode h k ≠ 1) → h.fwActive = 1 → h.fwPrev = 0 → h.manActive = h.manPrev →
      s.imgCheck 0 (s.slotImg 0) ≠ 0 → s.imgCheck 0 (s.slotImg 1) ≠ 0 →
      Completes (.bootSequence dt) s fun t =>
        (t.hdr.fwActive, t.hdr.trial, t.hdr.tries, slotCode t.hdr 1, slotCode t.hdr 0) = (0, 0, 0, 5, 3)
          ∧ t.fld Reg.SVC_STAT 7 7 = 1 ∧ t.pair Reg.SVC_FALLBACKS = min (s.pair Reg.SVC_FALLBACKS + 1) (2 ^ 64 - 1)
          ∧ SameHold s t)
    ∧ (s.nvm.booted = false → s.watch.bootsel ≠ 3 → ((s.advance dt).bootStart.openNvm.bootHeader).chooseFirmware = some v →
      v.runFirmware.trialSettle.chooseManifest.toOption = some u → u.settingsOf (u.fld Reg.SVC_STAT 0 0) = some (n, p) →
      p.records = [] →
      p.tag = u.nvm.tag → u.settingsFit p = true → u.twinOn = false →
      Completes (.bootSequence dt) s fun t =>
        t.serviceMode = u.serviceMode ∧ t.fld Reg.SVC_STAT 1 0 = u.fld Reg.SVC_STAT 1 0
          ∧ t.rn Reg.SVC_MAN_VERSION = u.rn Reg.SVC_MAN_VERSION ∧ t.rn Reg.SVC_FW_VERSION = u.rn Reg.SVC_FW_VERSION
          ∧ (2 ≤ u.laneRole l → t.laneSt l = 2) ∧ SameHold u t)
    ∧ (s.nvm.booted = true → s.serviceMode = false → s.nvm.firstAt = none → (s.advance dt).timeReady = true →
      s.tilesReady = true → (s.advance dt).firstTally n = true → (s.advance dt).rasterPoint n ≤ (s.advance dt).ns →
      (s.advance dt).ns ≤ (s.advance dt).tp n →
      Completes (.firstFrame dt n) s fun t =>
        t.time.armed = true ∧ t.nvm.firstAt = some ((s.advance dt).clkAt ((s.advance dt).tp n))
          ∧ t.rn Reg.SVC_TTP = min 65535 (((s.advance dt).clkAt ((s.advance dt).tp n) - s.watch.goodAt) / 800000) ∧ SameHold s t)
    ∧ (s.nvm.booted = false ∨ s.serviceMode = true ∨ s.nvm.firstAt.isSome = true ∨ s.tilesReady = false
        ∨ (s.advance dt).timeReady = false ∨ (s.advance dt).firstTally n = false →
      Completes (.firstFrame dt n) s fun t => t.nvm = s.nvm ∧ t.time.armed = s.time.armed ∧ SameRegs s t ∧ SameHold s t)
    ∧ (s.watch.warnAt = none → s.hdr = h → h.trial = 0 → h.fwActive ≤ 1 → slotCode h (inactiveSlot h 0) = 2 →
      Completes (.svcActivate dt req 1) s fun t =>
        t.rn Reg.SVC_RESULT = 1
          ∧ (t.hdr.fwActive, t.hdr.fwPrev, t.hdr.manActive, t.hdr.manPrev, t.hdr.trial, t.hdr.tries, t.hdr.seq)
            = (1 - h.fwActive, h.fwActive, h.manActive, h.manActive, 1, 0, h.seq + 1)
          ∧ slotCode t.hdr h.fwActive = 4 ∧ slotCode t.hdr (1 - h.fwActive) = 3 ∧ RegsBut [Reg.SVC_RESULT, Reg.SVC_SLOTS] s t
          ∧ SameHold s t)
    ∧ (s.watch.warnAt = none → slotCode s.hdr (inactiveSlot s.hdr 1) ≠ 2 →
      Completes (.svcActivate dt req 2) s fun t =>
        t.rn Reg.SVC_RESULT = 2 ∧ t.nvm = s.nvm ∧ RegsBut [Reg.SVC_RESULT] s t ∧ SameHold s t)
    ∧ (s.watch.warnAt = none → s.hdr.trial ≠ 0 → slotCode s.hdr (inactiveSlot s.hdr 0) = 2 →
      Completes (.svcActivate dt req 1) s fun t =>
        t.rn Reg.SVC_RESULT = 3 ∧ t.nvm = s.nvm ∧ RegsBut [Reg.SVC_RESULT] s t ∧ SameHold s t)
    ∧ (s.role ≠ 1 ∨ s.logOnly 148 = true →
      Completes (.svcReset dt req) s fun t =>
        t.rn Reg.SYS_RESET_CAUSE = 9 ∧ t.rn Reg.SYS_BOOT_COUNT = (s.rn (Reg.KEEP_LOG 0) + 1) % 2 ^ 32 ∧ t.watch.core = true
          ∧ t.watch.pwrEn = s.watch.pwrEn ∧ t.nvm.booted = false ∧ t.pipe = {} ∧ SameHold s t)
    ∧ (s.watch.warnAt = none → s.fld Reg.SVC_STAT 3 2 ≠ 1 →
      Completes (.svcConfirm dt req) s fun t =>
        t.rn Reg.SVC_RESULT = 5 ∧ t.nvm = s.nvm ∧ RegsBut [Reg.SVC_RESULT] s t ∧ SameHold s t)
    ∧ (s.watch.warnAt = none → s.fld Reg.SVC_STAT 3 2 = 1 → (s.advance dt).checksMet = false →
      Completes (.svcConfirm dt req) s fun t =>
        t.rn Reg.SVC_RESULT = 4 ∧ t.nvm = s.nvm ∧ RegsBut [Reg.SVC_RESULT] s t ∧ SameHold s t)
    ∧ (s.watch.warnAt = none → s.fld Reg.SVC_STAT 3 2 = 1 → (s.advance dt).checksMet = true → s.hdr = h →
      Completes (.svcConfirm dt req) s fun t =>
        t.rn Reg.SVC_RESULT = 1 ∧ (t.hdr.trial, t.hdr.tries, t.hdr.fwActive, t.hdr.manActive) = (0, 0, h.fwActive, h.manActive)
          ∧ t.fld Reg.SVC_STAT 5 2 = 0
          ∧ t.nvm.otp.fwSec = max s.nvm.otp.fwSec (imgSec (s.slotImg (activeSlot h 0)))
          ∧ t.nvm.otp.manSec = max s.nvm.otp.manSec (imgSec (s.slotImg (activeSlot h 1))) ∧ SameHold s t)
    ∧ (s.watch.warnAt = none → (s.advance dt).checksMet = true → bit (s.rn Reg.SVC_TRIAL_CFG) 15 = false →
      Completes (.autoConfirm dt) s fun t => t.hdr.trial = 0 ∧ t.fld Reg.SVC_STAT 3 2 = 0 ∧ SameHold s t)
    ∧ ((s.advance dt).checksMet = false ∨ bit (s.rn Reg.SVC_TRIAL_CFG) 15 = true →
      Completes (.autoConfirm dt) s fun t => t.nvm = s.nvm ∧ SameRegs s t ∧ SameHold s t)
    ∧ (s.watch.warnAt = none → s.hdr = h → slotCode h (inactiveSlot h 0) = 2 → h.fwActive ≤ 1 →
      Completes (.svcDiscard dt req 1) s fun t =>
        t.rn Reg.SVC_RESULT = 1 ∧ slotCode t.hdr (inactiveSlot h 0) = 0 ∧ t.slotImg (inactiveSlot h 0) = []
          ∧ t.hdr.fwActive = h.fwActive ∧ RegsBut [Reg.SVC_RESULT, Reg.SVC_SLOTS] s t ∧ SameHold s t)
    ∧ (s.watch.warnAt = none → slotCode s.hdr (inactiveSlot s.hdr 0) = 1 →
      Completes (.svcDiscard dt req 1) s fun t =>
        t.rn Reg.SVC_RESULT = 6 ∧ t.nvm = s.nvm ∧ RegsBut [Reg.SVC_RESULT] s t ∧ SameHold s t)
    ∧ (s.watch.warnAt = none → s.fld Reg.SVC_STAT 3 2 = 1 →
      s.watch.goodAt + sec (60 * s.fld Reg.SVC_TRIAL_CFG 6 0) ≤ s.clk + dt →
      Completes (.trialExpire dt) s fun t => t.hdr.trial = 2 ∧ t.fld Reg.SVC_STAT 3 2 = 2 ∧ SameHold s t)
    ∧ (s.clk + dt < s.watch.goodAt + sec (60 * s.fld Reg.SVC_TRIAL_CFG 6 0) →
      Completes (.trialExpire dt) s fun t => t.nvm = s.nvm ∧ SameRegs s t ∧ SameHold s t)

/-- R469, R492, R508, R509, R517, R518: a write request opens a transfer into the inactive slot, which becomes empty and
writing, and is answered; netascii, a running trial and unknown files are refused; it waits during a brownout warning. A
DATA packet in turn is acknowledged, a repeated one again, one of another peer is an error; a block whose CRC fails, or an
image that fails its check, empties the slot, and one that passes is staged. The last reply is sent again after 1 s, five
times. The fault log is copied in SEQ order; a failed block is remapped to a spare; an instruction that is none of those
offered acts as BYPASS. -/
def Obligations.TransfersAndNvm : Prop :=
  ∀ (dt peer n blk k : Nat) (sl : Fin 2) (b : Option Nat) (data c : List Byte) (x : Tftp) (f : String × List Byte) (h : BootHdr)
    (e : LogEntry) (wr : Bool) (j : JtagInstr) (s : State), s.watch.core = true →
      (∀ d ∈ [7, 10, 11, 327], s.logOnly d = true) →
    (s.mac 4).sending = some f → tabGetD (s.mac 4).txq 2 [] = [] →
    (s.hdr = h → h.trial = 0 → h.fwActive ≤ 1 → s.nvm.tftp = none → s.watch.warnAt = none → s.serviceMode = false →
      Completes (.tftpWriteRequest dt peer .firmware false none sl) s fun t =>
        t.nvm.tftp = some { file := .firmware, slot := 1 - h.fwActive, peer := peer, blksize := 512, sentAt := s.clk + dt }
          ∧ slotCode t.hdr (1 - h.fwActive) = 1 ∧ t.slotImg (1 - h.fwActive) = [] ∧ t.slotImg h.fwActive = s.slotImg h.fwActive
          ∧ tabGetD (t.mac 4).txq 2 [] = s.tftpFrame peer (tftpAck 0) ∧ t.fld Reg.SVC_TFTP_STAT 2 0 = 1
          ∧ RegsBut [Reg.SVC_SLOTS, Reg.SVC_TFTP_STAT, Reg.SVC_TFTP_BLOCKS] s t ∧ SameHold s t)
    ∧ (s.hdr.trial = 0 → s.nvm.tftp = none → s.watch.warnAt = none → b = some n → 8 ≤ n →
      Completes (.tftpWriteRequest dt peer .key false b sl) s fun t =>
        (t.nvm.tftp.map fun y => (y.file, y.blksize, y.next)) = some (.key, min 4096 n, 1)
          ∧ tabGetD (t.mac 4).txq 2 [] = s.tftpFrame peer (tftpOack (min 4096 n)) ∧ t.nvm.slots = s.nvm.slots ∧ SameHold s t)
    ∧ (Completes (.tftpWriteRequest dt peer .firmware true b sl) s fun t =>
        t.nvm = s.nvm ∧ tabGetD (t.mac 4).txq 2 [] = s.tftpFrame peer (tftpErrorPacket 4)
          ∧ t.pair Reg.SVC_REFUSED = min (s.pair Reg.SVC_REFUSED + 1) (2 ^ 64 - 1) ∧ t.fld Reg.SVC_TFTP_STAT 15 8 = 4
          ∧ RegsBut [Reg.SVC_REFUSED, Reg.SVC_REFUSED + 4, Reg.SVC_TFTP_STAT] s t ∧ SameHold s t)
    ∧ (s.hdr.trial ≠ 0 →
      Completes (.tftpWriteRequest dt peer .manifest false b sl) s fun t =>
        t.nvm = s.nvm ∧ tabGetD (t.mac 4).txq 2 [] = s.tftpFrame peer (tftpErrorPacket 2) ∧ SameHold s t)
    ∧ (s.hdr.trial = 0 → s.nvm.tftp = none → s.watch.warnAt.isSome = true →
      Completes (.tftpWriteRequest dt peer .manifest false b sl) s fun t =>
        (t.nvm.tftp.map fun y => (y.file, y.held)) = some (.manifest, some (0, [])) ∧ t.nvm.slots = s.nvm.slots ∧ t.mac 4 = s.mac 4
          ∧ SameRegs s t ∧ SameHold s t)
    ∧ (s.nvm.logArea = [] → s.nvm.tftp = none → s.serviceMode = false →
      Completes (.tftpReadRequest dt peer .faultlog false none) s fun t =>
        t.out = .message "TFTP" 4 ((wireFrame (s.txTag 4 2) (s.udpFrame 4 (Config.tftpPort peer % 65536) peer true
          (tftpDataPacket 1 []))).map (·.toNat)) :: s.out ∧ t.rn Reg.SVC_TFTP_BLOCKS = 1 ∧ t.fld Reg.SVC_TFTP_STAT 2 0 = 3
          ∧ RegsBut [Reg.SVC_TFTP_BLOCKS, Reg.SVC_TFTP_STAT] s t ∧ SameHold s t)
    ∧ (Completes (.tftpReadRequest dt peer .firmware false b) s fun t =>
        t.nvm = s.nvm ∧ tabGetD (t.mac 4).txq 2 [] = s.tftpFrame peer (tftpErrorPacket 2)
          ∧ t.pair Reg.SVC_REFUSED = min (s.pair Reg.SVC_REFUSED + 1) (2 ^ 64 - 1) ∧ SameHold s t)
    ∧ (s.nvm.tftp = some x → x.peer = peer → x.held = none → x.file = .firmware → data.length = x.blksize → blk = x.next →
      1 ≤ blk → blk < 65536 → s.watch.warnAt = none → x.raw.length + data.length < 4096 → x.content = [] →
      Completes (.tftpData dt peer blk data) s fun t =>
        t.nvm.tftp = some { x with next := x.next + 1, raw := x.raw ++ data, sentAt := s.clk + dt, tries := 0 }
          ∧ tabGetD (t.mac 4).txq 2 [] = s.tftpFrame peer (tftpAck blk)
          ∧ t.rn Reg.SVC_TFTP_BLOCKS = blk ∧ t.nvm.slots = s.nvm.slots ∧ RegsBut [Reg.SVC_TFTP_BLOCKS] s t ∧ SameHold s t)
    ∧ (s.nvm.tftp = some x → x.peer = peer → x.held = none → data.length ≤ x.blksize → 2 ≤ x.next → blk = x.next - 1 →
      blk < 65535 →
      Completes (.tftpData dt peer blk data) s fun t =>
        t.nvm = s.nvm ∧ tabGetD (t.mac 4).txq 2 [] = s.tftpFrame peer (tftpAck blk) ∧ SameRegs s t ∧ SameHold s t)
    ∧ (s.nvm.tftp = some x → x.peer ≠ peer →
      Completes (.tftpData dt peer blk data) s fun t =>
        t.nvm = s.nvm ∧ tabGetD (t.mac 4).txq 2 [] = s.tftpFrame peer (tftpErrorPacket 5) ∧ RegsBut [Reg.SVC_TFTP_STAT] s t ∧ SameHold s t)
    ∧ (s.nvm.tftp = some x → x.peer = peer → x.held = none → x.file = .firmware → data.length ≤ x.blksize → blk = x.next →
      blk < 65536 → s.watch.warnAt = none → x.slot < 4 →
      nvmBlocks ((x.raw ++ data).length / 4096) (x.raw ++ data) x.content = none →
      Completes (.tftpData dt peer blk data) s fun t =>
        t.nvm.tftp = none ∧ slotCode t.hdr x.slot = 0 ∧ t.slotImg x.slot = [] ∧ t.fld Reg.SVC_TFTP_STAT 2 0 = 4
          ∧ tabGetD (t.mac 4).txq 2 [] = s.tftpFrame peer (tftpErrorPacket 0)
          ∧ t.pair Reg.SVC_REFUSED = min (s.pair Reg.SVC_REFUSED + 1) (2 ^ 64 - 1) ∧ SameHold s t)
    ∧ (s.nvm.tftp = some x → x.peer = peer → x.held = none → x.file = .firmware → data.length < x.blksize → blk = x.next →
      blk < 65536 → s.watch.warnAt = none → x.slot < 2 → c.length ≤ 4092 * 4096 →
      nvmBlocks ((x.raw ++ data).length / 4096) (x.raw ++ data) x.content = some ([], c) → s.imgCheck 0 c = 0 →
      Completes (.tftpData dt peer blk data) s fun t =>
        t.nvm.tftp = none ∧ slotCode t.hdr x.slot = 2 ∧ t.slotImg x.slot = c ∧ t.fld Reg.SVC_TFTP_STAT 2 0 = 3
          ∧ t.pair Reg.SVC_UPDATES = min (s.pair Reg.SVC_UPDATES + 1) (2 ^ 64 - 1)
          ∧ RegsBut [Reg.SVC_UPDATES, Reg.SVC_UPDATES + 4, Reg.SVC_TFTP_STAT, Reg.SVC_TFTP_BLOCKS, Reg.SVC_SLOTS] s t
          ∧ SameHold s t)
    ∧ (s.nvm.tftp = some x → x.peer = peer → x.held = none → x.file = .firmware → data.length < x.blksize → blk = x.next →
      blk < 65536 → s.watch.warnAt = none → x.slot < 2 → c.length ≤ 4092 * 4096 →
      nvmBlocks ((x.raw ++ data).length / 4096) (x.raw ++ data) x.content = some ([], c) → s.imgCheck 0 c = n → n ≠ 0 →
      Completes (.tftpData dt peer blk data) s fun t =>
        t.nvm.tftp = none ∧ slotCode t.hdr x.slot = 0 ∧ t.slotImg x.slot = [] ∧ t.fld Reg.SVC_TFTP_STAT 2 0 = 4
          ∧ t.fld Reg.SVC_MAN_ERR 23 16 = n ∧ SameHold s t)
    ∧ (s.nvm.tftp = some x → x.held = none → x.sentAt + sec 1 ≤ s.clk + dt → x.tries < 5 → 2 ≤ x.next → x.next ≤ 65536 →
      Completes (.tftpRetransmit dt) s fun t =>
        t.nvm.tftp = some { x with tries := x.tries + 1, sentAt := s.clk + dt }
          ∧ tabGetD (t.mac 4).txq 2 [] = s.tftpFrame x.peer (tftpAck (x.next - 1)) ∧ SameRegs s t ∧ SameHold s t)
    ∧ (s.nvm.tftp = some x → x.held = none → x.sentAt + sec 1 ≤ s.clk + dt → x.tries = 5 → x.file = .firmware → x.slot < 4 →
      Completes (.tftpRetransmit dt) s fun t =>
        t.nvm.tftp = none ∧ slotCode t.hdr x.slot = 0 ∧ t.fld Reg.SVC_TFTP_STAT 2 0 = 4
          ∧ tabGetD (t.mac 4).txq 2 [] = [] ∧ SameHold s t)
    ∧ (s.nvm.tftp = some x → s.clk + dt < x.sentAt + sec 1 →
      Completes (.tftpRetransmit dt) s fun t => t.nvm = s.nvm ∧ SameRegs s t ∧ SameHold s t)
    ∧ (s.flt.log = [e] → s.nvm.copied = 0 → e.seq = 1 → s.watch.warnAt = none → s.nvm.logFill < 127 →
      Completes (.logCopy dt) s fun t =>
        t.nvm.logArea.head? = some e ∧ t.nvm.copied = 1 ∧ t.nvm.logFill = (s.nvm.logFill + 1) % 127 ∧ t.rn Reg.SVC_LOG_HEAD = 1
          ∧ t.pair Reg.SVC_LOG_COPIED = min (s.pair Reg.SVC_LOG_COPIED + 1) (2 ^ 64 - 1)
          ∧ RegsBut [Reg.SVC_LOG_COPIED, Reg.SVC_LOG_COPIED + 4, Reg.SVC_LOG_HEAD] s t ∧ SameHold s t)
    ∧ (s.flt.log = [] ∨ s.watch.warnAt.isSome = true →
      Completes (.logCopy dt) s fun t => t.nvm = s.nvm ∧ SameRegs s t ∧ SameHold s t)
    ∧ ((s.hdr.remap.any fun r => r.1 == k) = false → s.hdr.remap = h.remap → h.remap.length < 1000 → 0x800 ≤ k → k < 0x1800 →
      1 ≤ s.fld Reg.RSV_NVM_SPARE 15 0 → s.rsv.running = [] →
      Completes (.nvmBlockRemap dt k wr) s fun t =>
        t.hdr.remap = h.remap ++ [(k, 0x3800 + h.remap.length)] ∧ t.slotImg 0 = (if wr then s.slotImg 0 else [])
          ∧ t.slotImg 1 = s.slotImg 1
          ∧ t.rsv.running = [⟨7, k, s.clk + dt⟩] ∧ SameHold s t)
    ∧ ((s.hdr.remap.any fun r => r.1 == k) = true →
      Completes (.nvmBlockRemap dt k wr) s fun t => t.nvm = s.nvm ∧ SameRegs s t ∧ SameHold s t)
    ∧ (Completes (.jtagInstruction dt j) s fun t =>
        t.nvm.jtag = (if j = .other then .bypass else j) ∧ SameRegs s t ∧ SameHold s t)
end

