-- ==== Sys2Proof/Laws/State.lean ====
section
/-!
SUPPORT. One lemma per field per update: what a named update of State leaves as it was.
-/
namespace Sys2Proof.Machine

variable (s : State)

@[simp] theorem State.wr_pending (a : Nat) (v : Word) : (s.wr a v).pending = s.pending := rfl
@[simp] theorem State.wr_clk (a : Nat) (v : Word) : (s.wr a v).clk = s.clk := rfl
@[simp] theorem State.wr_pairLatch (a : Nat) (v : Word) : (s.wr a v).pairLatch = s.pairLatch := rfl
@[simp] theorem State.wr_pairLow (a : Nat) (v : Word) : (s.wr a v).pairLow = s.pairLow := rfl
@[simp] theorem State.wr_hold (a : Nat) (v : Word) : (s.wr a v).hold = s.hold := rfl
@[simp] theorem State.wr_lampDie (a : Nat) (v : Word) : (s.wr a v).lampDie = s.lampDie := rfl
@[simp] theorem State.wr_out (a : Nat) (v : Word) : (s.wr a v).out = s.out := rfl
@[simp] theorem State.wr_fresh (a : Nat) (v : Word) : (s.wr a v).fresh = s.fresh := rfl
@[simp] theorem State.wr_time (a : Nat) (v : Word) : (s.wr a v).time = s.time := rfl
@[simp] theorem State.wr_pipe (a : Nat) (v : Word) : (s.wr a v).pipe = s.pipe := rfl
@[simp] theorem State.wr_flt (a : Nat) (v : Word) : (s.wr a v).flt = s.flt := rfl
@[simp] theorem State.wr_rsv (a : Nat) (v : Word) : (s.wr a v).rsv = s.rsv := rfl
@[simp] theorem State.wr_events (a : Nat) (v : Word) : (s.wr a v).events = s.events := rfl
@[simp] theorem State.wr_lanes (a : Nat) (v : Word) : (s.wr a v).lanes = s.lanes := rfl
@[simp] theorem State.wr_slk (a : Nat) (v : Word) : (s.wr a v).slk = s.slk := rfl
@[simp] theorem State.wr_phy (a : Nat) (v : Word) : (s.wr a v).phy = s.phy := rfl
@[simp] theorem State.wr_asker (a : Nat) (v : Word) : (s.wr a v).asker = s.asker := rfl
@[simp] theorem State.wr_twin (a : Nat) (v : Word) : (s.wr a v).twin = s.twin := rfl
@[simp] theorem State.wr_cal (a : Nat) (v : Word) : (s.wr a v).cal = s.cal := rfl
@[simp] theorem State.wr_scan (a : Nat) (v : Word) : (s.wr a v).scan = s.scan := rfl
@[simp] theorem State.wr_tiles (a : Nat) (v : Word) : (s.wr a v).tiles = s.tiles := rfl
@[simp] theorem State.wr_watch (a : Nat) (v : Word) : (s.wr a v).watch = s.watch := rfl
@[simp] theorem State.wr_nvm (a : Nat) (v : Word) : (s.wr a v).nvm = s.nvm := rfl
@[simp] theorem State.wr_berths (a : Nat) (v : Word) : (s.wr a v).berths = s.berths := rfl
@[simp] theorem State.wr_macs (a : Nat) (v : Word) : (s.wr a v).macs = s.macs := rfl
@[simp] theorem State.wr_cues (a : Nat) (v : Word) : (s.wr a v).cues = s.cues := rfl
@[simp] theorem State.wr_ferry (a : Nat) (v : Word) : (s.wr a v).ferry = s.ferry := rfl
@[simp] theorem State.wr_pier (a : Nat) (v : Word) : (s.wr a v).pier = s.pier := rfl
@[simp] theorem State.wr_fixture (a : Nat) (v : Word) : (s.wr a v).fixture = s.fixture := rfl
@[simp] theorem State.wr_lamp (a : Nat) (v : Word) : (s.wr a v).lamp = s.lamp := rfl
@[simp] theorem State.wr_pirq (a : Nat) (v : Word) : (s.wr a v).pirq = s.pirq := rfl

@[simp] theorem State.wn_pending (a n : Nat) : (s.wn a n).pending = s.pending := rfl
@[simp] theorem State.wn_clk (a n : Nat) : (s.wn a n).clk = s.clk := rfl
@[simp] theorem State.wn_pairLatch (a n : Nat) : (s.wn a n).pairLatch = s.pairLatch := rfl
@[simp] theorem State.wn_pairLow (a n : Nat) : (s.wn a n).pairLow = s.pairLow := rfl
@[simp] theorem State.wn_hold (a n : Nat) : (s.wn a n).hold = s.hold := rfl
@[simp] theorem State.wn_lampDie (a n : Nat) : (s.wn a n).lampDie = s.lampDie := rfl
@[simp] theorem State.wn_out (a n : Nat) : (s.wn a n).out = s.out := rfl
@[simp] theorem State.wn_fresh (a n : Nat) : (s.wn a n).fresh = s.fresh := rfl
@[simp] theorem State.wn_time (a n : Nat) : (s.wn a n).time = s.time := rfl
@[simp] theorem State.wn_pipe (a n : Nat) : (s.wn a n).pipe = s.pipe := rfl
@[simp] theorem State.wn_flt (a n : Nat) : (s.wn a n).flt = s.flt := rfl
@[simp] theorem State.wn_rsv (a n : Nat) : (s.wn a n).rsv = s.rsv := rfl
@[simp] theorem State.wn_events (a n : Nat) : (s.wn a n).events = s.events := rfl
@[simp] theorem State.wn_lanes (a n : Nat) : (s.wn a n).lanes = s.lanes := rfl
@[simp] theorem State.wn_slk (a n : Nat) : (s.wn a n).slk = s.slk := rfl
@[simp] theorem State.wn_phy (a n : Nat) : (s.wn a n).phy = s.phy := rfl
@[simp] theorem State.wn_asker (a n : Nat) : (s.wn a n).asker = s.asker := rfl
@[simp] theorem State.wn_twin (a n : Nat) : (s.wn a n).twin = s.twin := rfl
@[simp] theorem State.wn_cal (a n : Nat) : (s.wn a n).cal = s.cal := rfl
@[simp] theorem State.wn_scan (a n : Nat) : (s.wn a n).scan = s.scan := rfl
@[simp] theorem State.wn_tiles (a n : Nat) : (s.wn a n).tiles = s.tiles := rfl
@[simp] theorem State.wn_watch (a n : Nat) : (s.wn a n).watch = s.watch := rfl
@[simp] theorem State.wn_nvm (a n : Nat) : (s.wn a n).nvm = s.nvm := rfl
@[simp] theorem State.wn_berths (a n : Nat) : (s.wn a n).berths = s.berths := rfl
@[simp] theorem State.wn_macs (a n : Nat) : (s.wn a n).macs = s.macs := rfl
@[simp] theorem State.wn_cues (a n : Nat) : (s.wn a n).cues = s.cues := rfl
@[simp] theorem State.wn_ferry (a n : Nat) : (s.wn a n).ferry = s.ferry := rfl
@[simp] theorem State.wn_pier (a n : Nat) : (s.wn a n).pier = s.pier := rfl
@[simp] theorem State.wn_fixture (a n : Nat) : (s.wn a n).fixture = s.fixture := rfl
@[simp] theorem State.wn_lamp (a n : Nat) : (s.wn a n).lamp = s.lamp := rfl
@[simp] theorem State.wn_pirq (a n : Nat) : (s.wn a n).pirq = s.pirq := rfl

@[simp] theorem State.setFld_pending (a hi lo v : Nat) : (s.setFld a hi lo v).pending = s.pending := rfl
@[simp] theorem State.setFld_clk (a hi lo v : Nat) : (s.setFld a hi lo v).clk = s.clk := rfl
@[simp] theorem State.setFld_pairLatch (a hi lo v : Nat) : (s.setFld a hi lo v).pairLatch = s.pairLatch := rfl
@[simp] theorem State.setFld_pairLow (a hi lo v : Nat) : (s.setFld a hi lo v).pairLow = s.pairLow := rfl
@[simp] theorem State.setFld_hold (a hi lo v : Nat) : (s.setFld a hi lo v).hold = s.hold := rfl
@[simp] theorem State.setFld_lampDie (a hi lo v : Nat) : (s.setFld a hi lo v).lampDie = s.lampDie := rfl
@[simp] theorem State.setFld_out (a hi lo v : Nat) : (s.setFld a hi lo v).out = s.out := rfl
@[simp] theorem State.setFld_fresh (a hi lo v : Nat) : (s.setFld a hi lo v).fresh = s.fresh := rfl
@[simp] theorem State.setFld_time (a hi lo v : Nat) : (s.setFld a hi lo v).time = s.time := rfl
@[simp] theorem State.setFld_pipe (a hi lo v : Nat) : (s.setFld a hi lo v).pipe = s.pipe := rfl
@[simp] theorem State.setFld_flt (a hi lo v : Nat) : (s.setFld a hi lo v).flt = s.flt := rfl
@[simp] theorem State.setFld_rsv (a hi lo v : Nat) : (s.setFld a hi lo v).rsv = s.rsv := rfl
@[simp] theorem State.setFld_events (a hi lo v : Nat) : (s.setFld a hi lo v).events = s.events := rfl
@[simp] theorem State.setFld_lanes (a hi lo v : Nat) : (s.setFld a hi lo v).lanes = s.lanes := rfl
@[simp] theorem State.setFld_slk (a hi lo v : Nat) : (s.setFld a hi lo v).slk = s.slk := rfl
@[simp] theorem State.setFld_phy (a hi lo v : Nat) : (s.setFld a hi lo v).phy = s.phy := rfl
@[simp] theorem State.setFld_asker (a hi lo v : Nat) : (s.setFld a hi lo v).asker = s.asker := rfl
@[simp] theorem State.setFld_twin (a hi lo v : Nat) : (s.setFld a hi lo v).twin = s.twin := rfl
@[simp] theorem State.setFld_cal (a hi lo v : Nat) : (s.setFld a hi lo v).cal = s.cal := rfl
@[simp] theorem State.setFld_scan (a hi lo v : Nat) : (s.setFld a hi lo v).scan = s.scan := rfl
@[simp] theorem State.setFld_tiles (a hi lo v : Nat) : (s.setFld a hi lo v).tiles = s.tiles := rfl
@[simp] theorem State.setFld_watch (a hi lo v : Nat) : (s.setFld a hi lo v).watch = s.watch := rfl
@[simp] theorem State.setFld_nvm (a hi lo v : Nat) : (s.setFld a hi lo v).nvm = s.nvm := rfl
@[simp] theorem State.setFld_berths (a hi lo v : Nat) : (s.setFld a hi lo v).berths = s.berths := rfl
@[simp] theorem State.setFld_macs (a hi lo v : Nat) : (s.setFld a hi lo v).macs = s.macs := rfl
@[simp] theorem State.setFld_cues (a hi lo v : Nat) : (s.setFld a hi lo v).cues = s.cues := rfl
@[simp] theorem State.setFld_ferry (a hi lo v : Nat) : (s.setFld a hi lo v).ferry = s.ferry := rfl
@[simp] theorem State.setFld_pier (a hi lo v : Nat) : (s.setFld a hi lo v).pier = s.pier := rfl
@[simp] theorem State.setFld_fixture (a hi lo v : Nat) : (s.setFld a hi lo v).fixture = s.fixture := rfl
@[simp] theorem State.setFld_lamp (a hi lo v : Nat) : (s.setFld a hi lo v).lamp = s.lamp := rfl
@[simp] theorem State.setFld_pirq (a hi lo v : Nat) : (s.setFld a hi lo v).pirq = s.pirq := rfl

@[simp] theorem State.setPair_pending (a n : Nat) : (s.setPair a n).pending = s.pending := rfl
@[simp] theorem State.setPair_clk (a n : Nat) : (s.setPair a n).clk = s.clk := rfl
@[simp] theorem State.setPair_pairLatch (a n : Nat) : (s.setPair a n).pairLatch = s.pairLatch := rfl
@[simp] theorem State.setPair_pairLow (a n : Nat) : (s.setPair a n).pairLow = s.pairLow := rfl
@[simp] theorem State.setPair_hold (a n : Nat) : (s.setPair a n).hold = s.hold := rfl
@[simp] theorem State.setPair_lampDie (a n : Nat) : (s.setPair a n).lampDie = s.lampDie := rfl
@[simp] theorem State.setPair_out (a n : Nat) : (s.setPair a n).out = s.out := rfl
@[simp] theorem State.setPair_fresh (a n : Nat) : (s.setPair a n).fresh = s.fresh := rfl
@[simp] theorem State.setPair_time (a n : Nat) : (s.setPair a n).time = s.time := rfl
@[simp] theorem State.setPair_pipe (a n : Nat) : (s.setPair a n).pipe = s.pipe := rfl
@[simp] theorem State.setPair_flt (a n : Nat) : (s.setPair a n).flt = s.flt := rfl
@[simp] theorem State.setPair_rsv (a n : Nat) : (s.setPair a n).rsv = s.rsv := rfl
@[simp] theorem State.setPair_events (a n : Nat) : (s.setPair a n).events = s.events := rfl
@[simp] theorem State.setPair_lanes (a n : Nat) : (s.setPair a n).lanes = s.lanes := rfl
@[simp] theorem State.setPair_slk (a n : Nat) : (s.setPair a n).slk = s.slk := rfl
@[simp] theorem State.setPair_phy (a n : Nat) : (s.setPair a n).phy = s.phy := rfl
@[simp] theorem State.setPair_asker (a n : Nat) : (s.setPair a n).asker = s.asker := rfl
@[simp] theorem State.setPair_twin (a n : Nat) : (s.setPair a n).twin = s.twin := rfl
@[simp] theorem State.setPair_cal (a n : Nat) : (s.setPair a n).cal = s.cal := rfl
@[simp] theorem State.setPair_scan (a n : Nat) : (s.setPair a n).scan = s.scan := rfl
@[simp] theorem State.setPair_tiles (a n : Nat) : (s.setPair a n).tiles = s.tiles := rfl
@[simp] theorem State.setPair_watch (a n : Nat) : (s.setPair a n).watch = s.watch := rfl
@[simp] theorem State.setPair_nvm (a n : Nat) : (s.setPair a n).nvm = s.nvm := rfl
@[simp] theorem State.setPair_berths (a n : Nat) : (s.setPair a n).berths = s.berths := rfl
@[simp] theorem State.setPair_macs (a n : Nat) : (s.setPair a n).macs = s.macs := rfl
@[simp] theorem State.setPair_cues (a n : Nat) : (s.setPair a n).cues = s.cues := rfl
@[simp] theorem State.setPair_ferry (a n : Nat) : (s.setPair a n).ferry = s.ferry := rfl
@[simp] theorem State.setPair_pier (a n : Nat) : (s.setPair a n).pier = s.pier := rfl
@[simp] theorem State.setPair_fixture (a n : Nat) : (s.setPair a n).fixture = s.fixture := rfl
@[simp] theorem State.setPair_lamp (a n : Nat) : (s.setPair a n).lamp = s.lamp := rfl
@[simp] theorem State.setPair_pirq (a n : Nat) : (s.setPair a n).pirq = s.pirq := rfl

@[simp] theorem State.bumpBy_pending (a n : Nat) : (s.bumpBy a n).pending = s.pending := rfl
@[simp] theorem State.bumpBy_clk (a n : Nat) : (s.bumpBy a n).clk = s.clk := rfl
@[simp] theorem State.bumpBy_pairLatch (a n : Nat) : (s.bumpBy a n).pairLatch = s.pairLatch := rfl
@[simp] theorem State.bumpBy_pairLow (a n : Nat) : (s.bumpBy a n).pairLow = s.pairLow := rfl
@[simp] theorem State.bumpBy_hold (a n : Nat) : (s.bumpBy a n).hold = s.hold := rfl
@[simp] theorem State.bumpBy_lampDie (a n : Nat) : (s.bumpBy a n).lampDie = s.lampDie := rfl
@[simp] theorem State.bumpBy_out (a n : Nat) : (s.bumpBy a n).out = s.out := rfl
@[simp] theorem State.bumpBy_fresh (a n : Nat) : (s.bumpBy a n).fresh = s.fresh := rfl
@[simp] theorem State.bumpBy_time (a n : Nat) : (s.bumpBy a n).time = s.time := rfl
@[simp] theorem State.bumpBy_pipe (a n : Nat) : (s.bumpBy a n).pipe = s.pipe := rfl
@[simp] theorem State.bumpBy_flt (a n : Nat) : (s.bumpBy a n).flt = s.flt := rfl
@[simp] theorem State.bumpBy_rsv (a n : Nat) : (s.bumpBy a n).rsv = s.rsv := rfl
@[simp] theorem State.bumpBy_events (a n : Nat) : (s.bumpBy a n).events = s.events := rfl
@[simp] theorem State.bumpBy_lanes (a n : Nat) : (s.bumpBy a n).lanes = s.lanes := rfl
@[simp] theorem State.bumpBy_slk (a n : Nat) : (s.bumpBy a n).slk = s.slk := rfl
@[simp] theorem State.bumpBy_phy (a n : Nat) : (s.bumpBy a n).phy = s.phy := rfl
@[simp] theorem State.bumpBy_asker (a n : Nat) : (s.bumpBy a n).asker = s.asker := rfl
@[simp] theorem State.bumpBy_twin (a n : Nat) : (s.bumpBy a n).twin = s.twin := rfl
@[simp] theorem State.bumpBy_cal (a n : Nat) : (s.bumpBy a n).cal = s.cal := rfl
@[simp] theorem State.bumpBy_scan (a n : Nat) : (s.bumpBy a n).scan = s.scan := rfl
@[simp] theorem State.bumpBy_tiles (a n : Nat) : (s.bumpBy a n).tiles = s.tiles := rfl
@[simp] theorem State.bumpBy_watch (a n : Nat) : (s.bumpBy a n).watch = s.watch := rfl
@[simp] theorem State.bumpBy_nvm (a n : Nat) : (s.bumpBy a n).nvm = s.nvm := rfl
@[simp] theorem State.bumpBy_berths (a n : Nat) : (s.bumpBy a n).berths = s.berths := rfl
@[simp] theorem State.bumpBy_macs (a n : Nat) : (s.bumpBy a n).macs = s.macs := rfl
@[simp] theorem State.bumpBy_cues (a n : Nat) : (s.bumpBy a n).cues = s.cues := rfl
@[simp] theorem State.bumpBy_ferry (a n : Nat) : (s.bumpBy a n).ferry = s.ferry := rfl
@[simp] theorem State.bumpBy_pier (a n : Nat) : (s.bumpBy a n).pier = s.pier := rfl
@[simp] theorem State.bumpBy_fixture (a n : Nat) : (s.bumpBy a n).fixture = s.fixture := rfl
@[simp] theorem State.bumpBy_lamp (a n : Nat) : (s.bumpBy a n).lamp = s.lamp := rfl
@[simp] theorem State.bumpBy_pirq (a n : Nat) : (s.bumpBy a n).pirq = s.pirq := rfl

@[simp] theorem State.bump_pending (a : Nat) : (s.bump a).pending = s.pending := rfl
@[simp] theorem State.bump_clk (a : Nat) : (s.bump a).clk = s.clk := rfl
@[simp] theorem State.bump_pairLatch (a : Nat) : (s.bump a).pairLatch = s.pairLatch := rfl
@[simp] theorem State.bump_pairLow (a : Nat) : (s.bump a).pairLow = s.pairLow := rfl
@[simp] theorem State.bump_hold (a : Nat) : (s.bump a).hold = s.hold := rfl
@[simp] theorem State.bump_lampDie (a : Nat) : (s.bump a).lampDie = s.lampDie := rfl
@[simp] theorem State.bump_out (a : Nat) : (s.bump a).out = s.out := rfl
@[simp] theorem State.bump_fresh (a : Nat) : (s.bump a).fresh = s.fresh := rfl
@[simp] theorem State.bump_time (a : Nat) : (s.bump a).time = s.time := rfl
@[simp] theorem State.bump_pipe (a : Nat) : (s.bump a).pipe = s.pipe := rfl
@[simp] theorem State.bump_flt (a : Nat) : (s.bump a).flt = s.flt := rfl
@[simp] theorem State.bump_rsv (a : Nat) : (s.bump a).rsv = s.rsv := rfl
@[simp] theorem State.bump_events (a : Nat) : (s.bump a).events = s.events := rfl
@[simp] theorem State.bump_lanes (a : Nat) : (s.bump a).lanes = s.lanes := rfl
@[simp] theorem State.bump_slk (a : Nat) : (s.bump a).slk = s.slk := rfl
@[simp] theorem State.bump_phy (a : Nat) : (s.bump a).phy = s.phy := rfl
@[simp] theorem State.bump_asker (a : Nat) : (s.bump a).asker = s.asker := rfl
@[simp] theorem State.bump_twin (a : Nat) : (s.bump a).twin = s.twin := rfl
@[simp] theorem State.bump_cal (a : Nat) : (s.bump a).cal = s.cal := rfl
@[simp] theorem State.bump_scan (a : Nat) : (s.bump a).scan = s.scan := rfl
@[simp] theorem State.bump_tiles (a : Nat) : (s.bump a).tiles = s.tiles := rfl
@[simp] theorem State.bump_watch (a : Nat) : (s.bump a).watch = s.watch := rfl
@[simp] theorem State.bump_nvm (a : Nat) : (s.bump a).nvm = s.nvm := rfl
@[simp] theorem State.bump_berths (a : Nat) : (s.bump a).berths = s.berths := rfl
@[simp] theorem State.bump_macs (a : Nat) : (s.bump a).macs = s.macs := rfl
@[simp] theorem State.bump_cues (a : Nat) : (s.bump a).cues = s.cues := rfl
@[simp] theorem State.bump_ferry (a : Nat) : (s.bump a).ferry = s.ferry := rfl
@[simp] theorem State.bump_pier (a : Nat) : (s.bump a).pier = s.pier := rfl
@[simp] theorem State.bump_fixture (a : Nat) : (s.bump a).fixture = s.fixture := rfl
@[simp] theorem State.bump_lamp (a : Nat) : (s.bump a).lamp = s.lamp := rfl
@[simp] theorem State.bump_pirq (a : Nat) : (s.bump a).pirq = s.pirq := rfl

@[simp] theorem State.emit_pending (o : Output) : (s.emit o).pending = s.pending := rfl
@[simp] theorem State.emit_clk (o : Output) : (s.emit o).clk = s.clk := rfl
@[simp] theorem State.emit_regs (o : Output) : (s.emit o).regs = s.regs := rfl
@[simp] theorem State.emit_pairLatch (o : Output) : (s.emit o).pairLatch = s.pairLatch := rfl
@[simp] theorem State.emit_pairLow (o : Output) : (s.emit o).pairLow = s.pairLow := rfl
@[simp] theorem State.emit_hold (o : Output) : (s.emit o).hold = s.hold := rfl
@[simp] theorem State.emit_lampDie (o : Output) : (s.emit o).lampDie = s.lampDie := rfl
@[simp] theorem State.emit_fresh (o : Output) : (s.emit o).fresh = s.fresh := rfl
@[simp] theorem State.emit_time (o : Output) : (s.emit o).time = s.time := rfl
@[simp] theorem State.emit_pipe (o : Output) : (s.emit o).pipe = s.pipe := rfl
@[simp] theorem State.emit_flt (o : Output) : (s.emit o).flt = s.flt := rfl
@[simp] theorem State.emit_rsv (o : Output) : (s.emit o).rsv = s.rsv := rfl
@[simp] theorem State.emit_events (o : Output) : (s.emit o).events = s.events := rfl
@[simp] theorem State.emit_lanes (o : Output) : (s.emit o).lanes = s.lanes := rfl
@[simp] theorem State.emit_slk (o : Output) : (s.emit o).slk = s.slk := rfl
@[simp] theorem State.emit_phy (o : Output) : (s.emit o).phy = s.phy := rfl
@[simp] theorem State.emit_asker (o : Output) : (s.emit o).asker = s.asker := rfl
@[simp] theorem State.emit_twin (o : Output) : (s.emit o).twin = s.twin := rfl
@[simp] theorem State.emit_cal (o : Output) : (s.emit o).cal = s.cal := rfl
@[simp] theorem State.emit_scan (o : Output) : (s.emit o).scan = s.scan := rfl
@[simp] theorem State.emit_tiles (o : Output) : (s.emit o).tiles = s.tiles := rfl
@[simp] theorem State.emit_watch (o : Output) : (s.emit o).watch = s.watch := rfl
@[simp] theorem State.emit_nvm (o : Output) : (s.emit o).nvm = s.nvm := rfl
@[simp] theorem State.emit_berths (o : Output) : (s.emit o).berths = s.berths := rfl
@[simp] theorem State.emit_macs (o : Output) : (s.emit o).macs = s.macs := rfl
@[simp] theorem State.emit_cues (o : Output) : (s.emit o).cues = s.cues := rfl
@[simp] theorem State.emit_ferry (o : Output) : (s.emit o).ferry = s.ferry := rfl
@[simp] theorem State.emit_pier (o : Output) : (s.emit o).pier = s.pier := rfl
@[simp] theorem State.emit_fixture (o : Output) : (s.emit o).fixture = s.fixture := rfl
@[simp] theorem State.emit_lamp (o : Output) : (s.emit o).lamp = s.lamp := rfl
@[simp] theorem State.emit_pirq (o : Output) : (s.emit o).pirq = s.pirq := rfl

@[simp] theorem State.writeHold_pending (a : Nat) (bs : List Byte) : (s.writeHold a bs).pending = s.pending := rfl
@[simp] theorem State.writeHold_clk (a : Nat) (bs : List Byte) : (s.writeHold a bs).clk = s.clk := rfl
@[simp] theorem State.writeHold_regs (a : Nat) (bs : List Byte) : (s.writeHold a bs).regs = s.regs := rfl
@[simp] theorem State.writeHold_pairLatch (a : Nat) (bs : List Byte) : (s.writeHold a bs).pairLatch = s.pairLatch := rfl
@[simp] theorem State.writeHold_pairLow (a : Nat) (bs : List Byte) : (s.writeHold a bs).pairLow = s.pairLow := rfl
@[simp] theorem State.writeHold_lampDie (a : Nat) (bs : List Byte) : (s.writeHold a bs).lampDie = s.lampDie := rfl
@[simp] theorem State.writeHold_out (a : Nat) (bs : List Byte) : (s.writeHold a bs).out = s.out := rfl
@[simp] theorem State.writeHold_fresh (a : Nat) (bs : List Byte) : (s.writeHold a bs).fresh = s.fresh := rfl
@[simp] theorem State.writeHold_time (a : Nat) (bs : List Byte) : (s.writeHold a bs).time = s.time := rfl
@[simp] theorem State.writeHold_pipe (a : Nat) (bs : List Byte) : (s.writeHold a bs).pipe = s.pipe := rfl
@[simp] theorem State.writeHold_flt (a : Nat) (bs : List Byte) : (s.writeHold a bs).flt = s.flt := rfl
@[simp] theorem State.writeHold_rsv (a : Nat) (bs : List Byte) : (s.writeHold a bs).rsv = s.rsv := rfl
@[simp] theorem State.writeHold_events (a : Nat) (bs : List Byte) : (s.writeHold a bs).events = s.events := rfl
@[simp] theorem State.writeHold_lanes (a : Nat) (bs : List Byte) : (s.writeHold a bs).lanes = s.lanes := rfl
@[simp] theorem State.writeHold_slk (a : Nat) (bs : List Byte) : (s.writeHold a bs).slk = s.slk := rfl
@[simp] theorem State.writeHold_phy (a : Nat) (bs : List Byte) : (s.writeHold a bs).phy = s.phy := rfl
@[simp] theorem State.writeHold_asker (a : Nat) (bs : List Byte) : (s.writeHold a bs).asker = s.asker := rfl
@[simp] theorem State.writeHold_twin (a : Nat) (bs : List Byte) : (s.writeHold a bs).twin = s.twin := rfl
@[simp] theorem State.writeHold_cal (a : Nat) (bs : List Byte) : (s.writeHold a bs).cal = s.cal := rfl
@[simp] theorem State.writeHold_scan (a : Nat) (bs : List Byte) : (s.writeHold a bs).scan = s.scan := rfl
@[simp] theorem State.writeHold_tiles (a : Nat) (bs : List Byte) : (s.writeHold a bs).tiles = s.tiles := rfl
@[simp] theorem State.writeHold_watch (a : Nat) (bs : List Byte) : (s.writeHold a bs).watch = s.watch := rfl
@[simp] theorem State.writeHold_nvm (a : Nat) (bs : List Byte) : (s.writeHold a bs).nvm = s.nvm := rfl
@[simp] theorem State.writeHold_berths (a : Nat) (bs : List Byte) : (s.writeHold a bs).berths = s.berths := rfl
@[simp] theorem State.writeHold_macs (a : Nat) (bs : List Byte) : (s.writeHold a bs).macs = s.macs := rfl
@[simp] theorem State.writeHold_cues (a : Nat) (bs : List Byte) : (s.writeHold a bs).cues = s.cues := rfl
@[simp] theorem State.writeHold_ferry (a : Nat) (bs : List Byte) : (s.writeHold a bs).ferry = s.ferry := rfl
@[simp] theorem State.writeHold_pier (a : Nat) (bs : List Byte) : (s.writeHold a bs).pier = s.pier := rfl
@[simp] theorem State.writeHold_fixture (a : Nat) (bs : List Byte) : (s.writeHold a bs).fixture = s.fixture := rfl
@[simp] theorem State.writeHold_lamp (a : Nat) (bs : List Byte) : (s.writeHold a bs).lamp = s.lamp := rfl
@[simp] theorem State.writeHold_pirq (a : Nat) (bs : List Byte) : (s.writeHold a bs).pirq = s.pirq := rfl

@[simp] theorem State.advance_pending (dt : Nat) : (s.advance dt).pending = s.pending := rfl
@[simp] theorem State.advance_regs (dt : Nat) : (s.advance dt).regs = s.regs := rfl
@[simp] theorem State.advance_pairLatch (dt : Nat) : (s.advance dt).pairLatch = s.pairLatch := rfl
@[simp] theorem State.advance_pairLow (dt : Nat) : (s.advance dt).pairLow = s.pairLow := rfl
@[simp] theorem State.advance_hold (dt : Nat) : (s.advance dt).hold = s.hold := rfl
@[simp] theorem State.advance_lampDie (dt : Nat) : (s.advance dt).lampDie = s.lampDie := rfl
@[simp] theorem State.advance_out (dt : Nat) : (s.advance dt).out = s.out := rfl
@[simp] theorem State.advance_fresh (dt : Nat) : (s.advance dt).fresh = s.fresh := rfl
@[simp] theorem State.advance_pipe (dt : Nat) : (s.advance dt).pipe = s.pipe := rfl
@[simp] theorem State.advance_flt (dt : Nat) : (s.advance dt).flt = s.flt := rfl
@[simp] theorem State.advance_rsv (dt : Nat) : (s.advance dt).rsv = s.rsv := rfl
@[simp] theorem State.advance_events (dt : Nat) : (s.advance dt).events = s.events := rfl
@[simp] theorem State.advance_lanes (dt : Nat) : (s.advance dt).lanes = s.lanes := rfl
@[simp] theorem State.advance_slk (dt : Nat) : (s.advance dt).slk = s.slk := rfl
@[simp] theorem State.advance_phy (dt : Nat) : (s.advance dt).phy = s.phy := rfl
@[simp] theorem State.advance_asker (dt : Nat) : (s.advance dt).asker = s.asker := rfl
@[simp] theorem State.advance_twin (dt : Nat) : (s.advance dt).twin = s.twin := rfl
@[simp] theorem State.advance_cal (dt : Nat) : (s.advance dt).cal = s.cal := rfl
@[simp] theorem State.advance_scan (dt : Nat) : (s.advance dt).scan = s.scan := rfl
@[simp] theorem State.advance_tiles (dt : Nat) : (s.advance dt).tiles = s.tiles := rfl
@[simp] theorem State.advance_watch (dt : Nat) : (s.advance dt).watch = s.watch := rfl
@[simp] theorem State.advance_nvm (dt : Nat) : (s.advance dt).nvm = s.nvm := rfl
@[simp] theorem State.advance_berths (dt : Nat) : (s.advance dt).berths = s.berths := rfl
@[simp] theorem State.advance_macs (dt : Nat) : (s.advance dt).macs = s.macs := rfl
@[simp] theorem State.advance_cues (dt : Nat) : (s.advance dt).cues = s.cues := rfl
@[simp] theorem State.advance_ferry (dt : Nat) : (s.advance dt).ferry = s.ferry := rfl
@[simp] theorem State.advance_pier (dt : Nat) : (s.advance dt).pier = s.pier := rfl
@[simp] theorem State.advance_fixture (dt : Nat) : (s.advance dt).fixture = s.fixture := rfl
@[simp] theorem State.advance_lamp (dt : Nat) : (s.advance dt).lamp = s.lamp := rfl
@[simp] theorem State.advance_pirq (dt : Nat) : (s.advance dt).pirq = s.pirq := rfl

@[simp] theorem State.settle_pending : (s.settle).pending = s.pending := rfl
@[simp] theorem State.settle_clk : (s.settle).clk = s.clk := rfl
@[simp] theorem State.settle_regs : (s.settle).regs = s.regs := rfl
@[simp] theorem State.settle_pairLatch : (s.settle).pairLatch = s.pairLatch := rfl
@[simp] theorem State.settle_pairLow : (s.settle).pairLow = s.pairLow := rfl
@[simp] theorem State.settle_hold : (s.settle).hold = s.hold := rfl
@[simp] theorem State.settle_lampDie : (s.settle).lampDie = s.lampDie := rfl
@[simp] theorem State.settle_out : (s.settle).out = s.out := rfl
@[simp] theorem State.settle_fresh : (s.settle).fresh = s.fresh := rfl
@[simp] theorem State.settle_time : (s.settle).time = s.time := rfl
@[simp] theorem State.settle_pipe : (s.settle).pipe = s.pipe := rfl
@[simp] theorem State.settle_flt : (s.settle).flt = s.flt := rfl
@[simp] theorem State.settle_rsv : (s.settle).rsv = s.rsv := rfl
@[simp] theorem State.settle_events : (s.settle).events = s.events := rfl
@[simp] theorem State.settle_lanes : (s.settle).lanes = s.lanes := rfl
@[simp] theorem State.settle_slk : (s.settle).slk = s.slk := rfl
@[simp] theorem State.settle_phy : (s.settle).phy = s.phy := rfl
@[simp] theorem State.settle_asker : (s.settle).asker = s.asker := rfl
@[simp] theorem State.settle_twin : (s.settle).twin = s.twin := rfl
@[simp] theorem State.settle_cal : (s.settle).cal = s.cal := rfl
@[simp] theorem State.settle_scan : (s.settle).scan = s.scan := rfl
@[simp] theorem State.settle_tiles : (s.settle).tiles = s.tiles := rfl
@[simp] theorem State.settle_watch : (s.settle).watch = s.watch := rfl
@[simp] theorem State.settle_nvm : (s.settle).nvm = s.nvm := rfl
@[simp] theorem State.settle_berths : (s.settle).berths = s.berths := rfl
@[simp] theorem State.settle_macs : (s.settle).macs = s.macs := rfl
@[simp] theorem State.settle_cues : (s.settle).cues = s.cues := rfl
@[simp] theorem State.settle_ferry : (s.settle).ferry = s.ferry := rfl
@[simp] theorem State.settle_pier : (s.settle).pier = s.pier := rfl
@[simp] theorem State.settle_fixture : (s.settle).fixture = s.fixture := rfl
@[simp] theorem State.settle_lamp : (s.settle).lamp = s.lamp := rfl

end Sys2Proof.Machine
end

