-- ==== Sys2Proof/Laws/Tab.lean ====
section
/-!
SUPPORT. What sparse tables do: a lookup after a set or an erase, and the canonical form they keep.
-/
namespace Sys2Proof.Machine

variable {α : Type}

@[simp] theorem tabGet?_tabSet_self (t : Tab α) (i : Nat) (v : α) : tabGet? (tabSet t i v) i = some v := by
  induction t with
  | nil => simp [tabSet, tabGet?]
  | cons e t ih =>
    obtain ⟨k, x⟩ := e
    simp only [tabSet]
    split
    · simp [tabGet?]
    · split
      · simp [tabGet?]
      · simp_all [tabGet?]

theorem tabGet?_tabSet_ne (t : Tab α) {i j : Nat} (v : α) (h : j ≠ i) : tabGet? (tabSet t i v) j = tabGet? t j := by
  induction t with
  | nil => simp [tabSet, tabGet?, h]
  | cons e t ih =>
    obtain ⟨k, x⟩ := e
    simp only [tabSet]
    split
    · next e => subst e; simp [tabGet?, h]
    · split
      · simp [tabGet?, h]
      · simp [tabGet?, ih]

@[simp] theorem tabGet?_tabErase_self (t : Tab α) (i : Nat) : tabGet? (tabErase t i) i = none := by
  induction t with
  | nil => simp [tabErase, tabGet?]
  | cons e t ih =>
    obtain ⟨k, x⟩ := e
    simp only [tabErase]
    split
    · exact ih
    · simp_all [tabGet?]

theorem tabGet?_tabErase_ne (t : Tab α) {i j : Nat} (h : j ≠ i) : tabGet? (tabErase t i) j = tabGet? t j := by
  induction t with
  | nil => simp [tabErase, tabGet?]
  | cons e t ih =>
    obtain ⟨k, x⟩ := e
    simp only [tabErase]
    split
    · next e => subst e; simp [tabGet?, h, ih]
    · simp [tabGet?, ih]

/-- Every key of a table is above a bound. -/
def tabAbove (b : Nat) (t : Tab α) : Prop := ∀ e ∈ t, b < e.1

/-- A table is sorted when its tail is and its first key is below every other. -/
theorem tabSorted_cons {k : Nat} {x : α} {t : Tab α} :
    tabSorted ((k, x) :: t) = true ↔ tabAbove k t ∧ tabSorted t = true := by
  induction t generalizing k x with
  | nil => simp [tabSorted, tabAbove]
  | cons e t ih =>
    obtain ⟨b, y⟩ := e
    simp only [tabSorted, Bool.and_eq_true, decide_eq_true_eq, tabAbove, List.mem_cons, forall_eq_or_imp]
    constructor
    · rintro ⟨h, hs⟩
      exact ⟨⟨h, fun e he => Nat.lt_trans h ((ih.1 hs).1 e he)⟩, hs⟩
    · rintro ⟨⟨h, _⟩, hs⟩
      exact ⟨h, hs⟩

theorem tabAbove_tabSet {b i : Nat} {v : α} {t : Tab α} (h : tabAbove b t) (hi : b < i) : tabAbove b (tabSet t i v) := by
  induction t with
  | nil => simpa [tabSet, tabAbove] using hi
  | cons e t ih =>
    obtain ⟨k, x⟩ := e
    have ht : tabAbove b t := fun e he => h e (List.mem_cons_of_mem _ he)
    have hk : b < k := h (k, x) List.mem_cons_self
    simp only [tabSet]
    split
    · intro e he
      rcases List.mem_cons.1 he with rfl | he
      · exact hi
      · exact ht e he
    · split
      · intro e he
        rcases List.mem_cons.1 he with rfl | he
        · exact hi
        · exact h e he
      · intro e he
        rcases List.mem_cons.1 he with rfl | he
        · exact hk
        · exact ih ht e he

theorem tabAbove_tabErase {b i : Nat} {t : Tab α} (h : tabAbove b t) : tabAbove b (tabErase t i) := by
  induction t with
  | nil => simpa [tabErase] using h
  | cons e t ih =>
    obtain ⟨k, x⟩ := e
    have ht : tabAbove b t := fun e he => h e (List.mem_cons_of_mem _ he)
    simp only [tabErase]
    split
    · exact ih ht
    · intro e he
      rcases List.mem_cons.1 he with rfl | he
      · exact h (k, x) List.mem_cons_self
      · exact ih ht e he

/-- A set keeps a table sorted. -/
theorem tabSorted_tabSet {t : Tab α} (i : Nat) (v : α) (h : tabSorted t = true) : tabSorted (tabSet t i v) = true := by
  induction t with
  | nil => simp [tabSet, tabSorted]
  | cons e t ih =>
    obtain ⟨k, x⟩ := e
    obtain ⟨ha, hs⟩ := tabSorted_cons.1 h
    simp only [tabSet]
    split
    · next e => subst e; exact tabSorted_cons.2 ⟨ha, hs⟩
    · split
      · next hlt =>
        refine tabSorted_cons.2 ⟨?_, h⟩
        intro e he
        rcases List.mem_cons.1 he with rfl | he
        · exact hlt
        · exact Nat.lt_trans hlt (ha e he)
      · next hne hnl => exact tabSorted_cons.2 ⟨tabAbove_tabSet ha (by omega), ih hs⟩

/-- An erase keeps a table sorted. -/
theorem tabSorted_tabErase {t : Tab α} (i : Nat) (h : tabSorted t = true) : tabSorted (tabErase t i) = true := by
  induction t with
  | nil => simp [tabErase, tabSorted]
  | cons e t ih =>
    obtain ⟨k, x⟩ := e
    obtain ⟨ha, hs⟩ := tabSorted_cons.1 h
    simp only [tabErase]
    split
    · exact ih hs
    · exact tabSorted_cons.2 ⟨tabAbove_tabErase ha, ih hs⟩

/-- What holds of every entry and of the new one holds after a set. -/
theorem all_tabSet {p : Nat × α → Bool} {t : Tab α} {i : Nat} {v : α} (h : t.all p = true) (hv : p (i, v) = true) :
    (tabSet t i v).all p = true := by
  induction t with
  | nil => simpa [tabSet] using hv
  | cons e t ih =>
    obtain ⟨k, x⟩ := e
    simp only [List.all_cons, Bool.and_eq_true] at h
    simp only [tabSet]
    split
    · simp_all
    · split <;> simp_all

/-- What holds of every entry holds after an erase. -/
theorem all_tabErase {p : Nat × α → Bool} {t : Tab α} (i : Nat) (h : t.all p = true) : (tabErase t i).all p = true := by
  induction t with
  | nil => simp [tabErase]
  | cons e t ih =>
    obtain ⟨k, x⟩ := e
    simp only [List.all_cons, Bool.and_eq_true] at h
    simp only [tabErase]
    split <;> simp_all

end Sys2Proof.Machine
end

