-- ==== Sys2Proof/Laws/Ops.lean ====
section
/-!
SUPPORT. What the shared operations do: registers read after a write, Hold bytes read after a write, the canonical forms that
every such operation keeps, and the shape of a meaning.
-/
namespace Sys2Proof.Machine

/-! ### Registers -/

@[simp] theorem State.rd_wr_self (s : State) (a : Nat) (v : Word) : (s.wr a v).rd a = v := by
  unfold State.rd State.wr
  split
  · next h => simp [tabGetD, h]
  · simp [tabGetD]

theorem State.rd_wr_ne (s : State) {a b : Nat} (v : Word) (h : b ≠ a) : (s.wr a v).rd b = s.rd b := by
  unfold State.rd State.wr tabGetD
  split
  · simp [tabGet?_tabErase_ne _ h]
  · simp [tabGet?_tabSet_ne _ _ h]

theorem State.rd_wr (s : State) (a b : Nat) (v : Word) : (s.wr a v).rd b = if b = a then v else s.rd b := by
  split
  · next h => subst h; simp
  · next h => exact s.rd_wr_ne v h

@[simp] theorem State.rn_wn_self (s : State) (a n : Nat) : (s.wn a n).rn a = n % 2 ^ 32 := by
  simp [State.rn, State.wn]

theorem State.rn_wn_ne (s : State) {a b : Nat} (n : Nat) (h : b ≠ a) : (s.wn a n).rn b = s.rn b := by
  simp [State.rn, State.wn, s.rd_wr_ne _ h]

theorem State.rn_lt (s : State) (a : Nat) : s.rn a < 2 ^ 32 := (s.rd a).isLt

theorem State.rd_setFld_ne (s : State) {a b : Nat} (hi lo v : Nat) (h : b ≠ a) : (s.setFld a hi lo v).rd b = s.rd b :=
  s.rd_wr_ne _ h

theorem State.rd_setPair_ne (s : State) {a b : Nat} (n : Nat) (h : b ≠ a) (h' : b ≠ a + 4) :
    (s.setPair a n).rd b = s.rd b := by
  unfold State.setPair State.wn
  rw [State.rd_wr_ne _ _ h', State.rd_wr_ne _ _ h]

/-- A pair set reads as its number. -/
theorem State.pair_setPair (s : State) (a n : Nat) : (s.setPair a n).pair a = n % 2 ^ 64 := by
  have h : (s.setPair a n).rn a = n % 2 ^ 32 := by
    unfold State.setPair
    rw [State.rn_wn_ne _ _ (by omega)]
    simp
  have h' : (s.setPair a n).rn (a + 4) = n / 2 ^ 32 % 2 ^ 32 := by simp [State.setPair]
  unfold State.pair
  rw [h, h']
  omega

/-- A counter rises by n up to its end (R10). -/
theorem State.pair_bumpBy (s : State) (a n : Nat) : (s.bumpBy a n).pair a = min (s.pair a + n) (2 ^ 64 - 1) := by
  unfold State.bumpBy
  rw [State.pair_setPair]
  exact Nat.mod_eq_of_lt (by omega)

theorem State.rd_bumpBy_ne (s : State) {a b : Nat} (n : Nat) (h : b ≠ a) (h' : b ≠ a + 4) :
    (s.bumpBy a n).rd b = s.rd b := s.rd_setPair_ne _ h h'

/-! ### Fields -/

/-- The bits put into a number are those read back. -/
theorem bits_putBits (x hi lo v : Nat) (h : lo ≤ hi) : bits (putBits x hi lo v) hi lo = v % 2 ^ (hi + 1 - lo) := by
  unfold bits putBits
  have e : hi + 1 = lo + (hi + 1 - lo) := by omega
  generalize hi + 1 - lo = w at *
  have h2 : (2 : Nat) ^ (hi + 1) = 2 ^ lo * 2 ^ w := by rw [e, pow_add]
  have hl : 0 < (2 : Nat) ^ lo := by positivity
  have hx : x % 2 ^ lo < 2 ^ lo := Nat.mod_lt _ hl
  have : (x % 2 ^ lo + v % 2 ^ w * 2 ^ lo + x / 2 ^ (hi + 1) * 2 ^ (hi + 1)) / 2 ^ lo
      = v % 2 ^ w + x / 2 ^ (hi + 1) * 2 ^ w := by
    rw [h2]
    rw [show x % 2 ^ lo + v % 2 ^ w * 2 ^ lo + x / (2 ^ lo * 2 ^ w) * (2 ^ lo * 2 ^ w)
      = x % 2 ^ lo + (v % 2 ^ w + x / (2 ^ lo * 2 ^ w) * 2 ^ w) * 2 ^ lo by ring]
    rw [Nat.add_mul_div_right _ _ hl, Nat.div_eq_of_lt hx, zero_add]
  rw [this, Nat.add_mul_mod_self_right, Nat.mod_mod]

/-! ### Canonical forms -/

/-- A register write keeps the register file in its canonical form. -/
theorem State.regsWf_wr {s : State} (a : Nat) (v : Word) (h : regsWf s.regs = true) : regsWf (s.wr a v).regs = true := by
  simp only [regsWf, Bool.and_eq_true] at h ⊢
  unfold State.wr
  split
  · exact ⟨tabSorted_tabErase _ h.1, all_tabErase _ h.2⟩
  · next hv => exact ⟨tabSorted_tabSet _ _ h.1, all_tabSet h.2 (by simpa using hv)⟩

/-- A byte of Hold written reads back, and no other changes. -/
theorem holdSet_get (h : List Host.Cell) (a b : Nat) (x : Byte) :
    tabGetD (holdSet h a x) b 0#8 = if b = a then x else tabGetD h b 0#8 := by
  unfold holdSet tabGetD
  split
  · next hx => split
               · next e => subst e; simp [hx]
               · next e => simp [tabGet?_tabErase_ne _ e]
  · split
    · next e => subst e; simp
    · next e => simp [tabGet?_tabSet_ne _ _ e]

/-- A byte written keeps Hold in its canonical form. -/
theorem holdSet_wf {h : List Host.Cell} (a : Nat) (x : Byte) (hw : Memory.wf h = true) :
    Memory.wf (holdSet h a x) = true := by
  simp only [Memory.wf, Bool.and_eq_true] at hw ⊢
  unfold holdSet
  split
  · exact ⟨tabSorted_tabErase _ hw.1, all_tabErase _ hw.2⟩
  · next hx => exact ⟨tabSorted_tabSet _ _ hw.1, all_tabSet hw.2 (by simpa using hx)⟩

/-- A run of bytes written keeps Hold in its canonical form. -/
theorem holdRun_wf {h : List Host.Cell} (a : Nat) (bs : List Byte) (hw : Memory.wf h = true) :
    Memory.wf (holdRun h a bs) = true := by
  induction bs generalizing h a with
  | nil => exact hw
  | cons b bs ih => exact ih (a + 1) (holdSet_wf a b hw)

/-- What a run of bytes written reads as. -/
theorem holdRun_get (h : List Host.Cell) (a b : Nat) (bs : List Byte) :
    tabGetD (holdRun h a bs) b 0#8 = if a ≤ b ∧ b < a + bs.length then bs.getD (b - a) 0#8 else tabGetD h b 0#8 := by
  induction bs generalizing h a with
  | nil => simp [holdRun]
  | cons x bs ih =>
    rw [holdRun, ih, holdSet_get]
    by_cases h1 : b = a
    · subst h1; simp
    · by_cases h2 : a + 1 ≤ b ∧ b < a + 1 + bs.length
      · rw [if_pos h2, if_pos (by simp; omega)]
        obtain ⟨k, rfl⟩ : ∃ k, b = a + 1 + k := ⟨b - (a + 1), by omega⟩
        rw [show a + 1 + k - a = k + 1 by omega, show a + 1 + k - (a + 1) = k by omega]
        simp
      · rw [if_neg h2, if_neg h1, if_neg (by simp; omega)]

/-- Hold keeps its canonical form under every write. -/
theorem State.writeHold_wf {s : State} (a : Nat) (bs : List Byte) (h : Memory.wf s.hold = true) :
    Memory.wf (s.writeHold a bs).hold = true := holdRun_wf a bs h

theorem State.holdByte_writeHold (s : State) (a b : Nat) (bs : List Byte) :
    (s.writeHold a bs).holdByte b = if a ≤ b ∧ b < a + bs.length then bs.getD (b - a) 0#8 else s.holdByte b :=
  holdRun_get s.hold a b bs

/-! ### The shape of a meaning -/

/-- What a meaning does when the compute die runs. -/
theorem act_core (dt : Nat) (s : State) (f : State → State) (h : s.watch.core = true) :
    act dt s f = .next (acted dt s f) := by
  simp [act, h]

/-- While the compute die is in reset only time passes. -/
theorem act_off (dt : Nat) (s : State) (f : State → State) (h : s.watch.core = false) :
    act dt s f = .next (acted dt s id) := by
  simp [act, h]

/-- A command whose meaning acts completes with what its action leaves. -/
theorem completes_act {c : Instr} {dt : Nat} {s : State} {f : State → State} {P : State → Prop}
    (hc : exec c s = act dt s f) (h : s.watch.core = true) (hp : P (acted dt s f)) : Completes c s P :=
  ⟨_, hc.trans (act_core dt s f h), hp⟩

/-- The same of a meaning that a requester asks for. -/
theorem completes_actBy {c : Instr} {dt : Nat} {req : Requester} {s : State} {f : State → State} {P : State → Prop}
    (hc : exec c s = actBy dt req s f) (h : s.watch.core = true) (hp : P (acted dt s fun s => s.asking req f)) : Completes c s P :=
  completes_act hc h hp

theorem completes_actAlways {c : Instr} {dt : Nat} {s : State} {f : State → State} {P : State → Prop}
    (hc : exec c s = actAlways dt s f) (hp : P (acted dt s f)) : Completes c s P :=
  ⟨_, hc, hp⟩

/-- Every meaning settles the pin. -/
theorem acted_pirqInv (dt : Nat) (s : State) (f : State → State) : (acted dt s f).PirqInv := rfl

@[simp] theorem acted_pending (dt : Nat) (s : State) (f : State → State) : (acted dt s f).pending = s.pending := rfl
@[simp] theorem acted_clk (dt : Nat) (s : State) (f : State → State) : (acted dt s f).clk = s.clk + dt := rfl
@[simp] theorem acted_regs (dt : Nat) (s : State) (f : State → State) : (acted dt s f).regs = (f (s.advance dt)).regs := rfl
@[simp] theorem acted_pairLatch (dt : Nat) (s : State) (f : State → State) : (acted dt s f).pairLatch = (f (s.advance dt)).pairLatch := rfl
@[simp] theorem acted_pairLow (dt : Nat) (s : State) (f : State → State) : (acted dt s f).pairLow = (f (s.advance dt)).pairLow := rfl
@[simp] theorem acted_hold (dt : Nat) (s : State) (f : State → State) : (acted dt s f).hold = (f (s.advance dt)).hold := rfl
@[simp] theorem acted_lampDie (dt : Nat) (s : State) (f : State → State) : (acted dt s f).lampDie = s.lampDie := rfl
@[simp] theorem acted_out (dt : Nat) (s : State) (f : State → State) : (acted dt s f).out = (f (s.advance dt)).out := rfl
@[simp] theorem acted_fresh (dt : Nat) (s : State) (f : State → State) : (acted dt s f).fresh = (f (s.advance dt)).fresh := rfl
@[simp] theorem acted_time (dt : Nat) (s : State) (f : State → State) : (acted dt s f).time = (f (s.advance dt)).time := rfl
@[simp] theorem acted_pipe (dt : Nat) (s : State) (f : State → State) : (acted dt s f).pipe = (f (s.advance dt)).pipe := rfl
@[simp] theorem acted_flt (dt : Nat) (s : State) (f : State → State) : (acted dt s f).flt = (f (s.advance dt)).flt := rfl
@[simp] theorem acted_rsv (dt : Nat) (s : State) (f : State → State) : (acted dt s f).rsv = (f (s.advance dt)).rsv := rfl
@[simp] theorem acted_events (dt : Nat) (s : State) (f : State → State) : (acted dt s f).events = (f (s.advance dt)).events := rfl
@[simp] theorem acted_lanes (dt : Nat) (s : State) (f : State → State) : (acted dt s f).lanes = (f (s.advance dt)).lanes := rfl
@[simp] theorem acted_phy (dt : Nat) (s : State) (f : State → State) : (acted dt s f).phy = (f (s.advance dt)).phy := rfl
@[simp] theorem acted_asker (dt : Nat) (s : State) (f : State → State) : (acted dt s f).asker = s.asker := rfl
@[simp] theorem acted_slk (dt : Nat) (s : State) (f : State → State) : (acted dt s f).slk = (f (s.advance dt)).slk := rfl
@[simp] theorem acted_twin (dt : Nat) (s : State) (f : State → State) : (acted dt s f).twin = (f (s.advance dt)).twin := rfl
@[simp] theorem acted_cal (dt : Nat) (s : State) (f : State → State) : (acted dt s f).cal = (f (s.advance dt)).cal := rfl
@[simp] theorem acted_scan (dt : Nat) (s : State) (f : State → State) : (acted dt s f).scan = (f (s.advance dt)).scan := rfl
@[simp] theorem acted_tiles (dt : Nat) (s : State) (f : State → State) : (acted dt s f).tiles = (f (s.advance dt)).tiles := rfl
@[simp] theorem acted_watch (dt : Nat) (s : State) (f : State → State) : (acted dt s f).watch = (f (s.advance dt)).watch := rfl
@[simp] theorem acted_nvm (dt : Nat) (s : State) (f : State → State) : (acted dt s f).nvm = (f (s.advance dt)).nvm := rfl
@[simp] theorem acted_berths (dt : Nat) (s : State) (f : State → State) : (acted dt s f).berths = (f (s.advance dt)).berths := rfl
@[simp] theorem acted_macs (dt : Nat) (s : State) (f : State → State) : (acted dt s f).macs = (f (s.advance dt)).macs := rfl
@[simp] theorem acted_cues (dt : Nat) (s : State) (f : State → State) : (acted dt s f).cues = (f (s.advance dt)).cues := rfl
@[simp] theorem acted_ferry (dt : Nat) (s : State) (f : State → State) : (acted dt s f).ferry = (f (s.advance dt)).ferry := rfl
@[simp] theorem acted_pier (dt : Nat) (s : State) (f : State → State) : (acted dt s f).pier = (f (s.advance dt)).pier := rfl
@[simp] theorem acted_fixture (dt : Nat) (s : State) (f : State → State) : (acted dt s f).fixture = (f (s.advance dt)).fixture := rfl
@[simp] theorem acted_lamp (dt : Nat) (s : State) (f : State → State) : (acted dt s f).lamp = (f (s.advance dt)).lamp := rfl
@[simp] theorem rd_acted (dt : Nat) (s : State) (f : State → State) (a : Nat) :
    (acted dt s f).rd a = (f (s.advance dt)).rd a := rfl
@[simp] theorem rn_acted (dt : Nat) (s : State) (f : State → State) (a : Nat) :
    (acted dt s f).rn a = (f (s.advance dt)).rn a := rfl
@[simp] theorem pair_acted (dt : Nat) (s : State) (f : State → State) (a : Nat) :
    (acted dt s f).pair a = (f (s.advance dt)).pair a := rfl
@[simp] theorem fld_acted (dt : Nat) (s : State) (f : State → State) (a hi lo : Nat) :
    (acted dt s f).fld a hi lo = (f (s.advance dt)).fld a hi lo := rfl
@[simp] theorem holdByte_acted (dt : Nat) (s : State) (f : State → State) (a : Nat) :
    (acted dt s f).holdByte a = (f (s.advance dt)).holdByte a := rfl

/-- Time passing and the pin change no register and no byte of Hold. -/
@[simp] theorem State.rd_advance (s : State) (dt a : Nat) : (s.advance dt).rd a = s.rd a := rfl
@[simp] theorem State.rd_settle (s : State) (a : Nat) : s.settle.rd a = s.rd a := rfl
@[simp] theorem State.rn_advance (s : State) (dt a : Nat) : (s.advance dt).rn a = s.rn a := rfl
@[simp] theorem State.rn_settle (s : State) (a : Nat) : s.settle.rn a = s.rn a := rfl

end Sys2Proof.Machine
end

