-- ==== Sys2Proof/Laws/Faults.lean ====
section
/-!
SUPPORT. What raising a fault can do: while the detector's reaction is log only or stop the berth, a raise leaves everything
but the fault block, its registers, the keeper's logbook, the flags of the lamp ports and the queue of events as it was.
-/
namespace Sys2Proof.Machine

/-- A state that differs from another in the fault block, registers and events alone. -/
theorem FaultSide.refl (s : State) : FaultSide s s := ⟨s.regs, s.flt, s.events, rfl, fun _ _ => rfl⟩

theorem FaultSide.trans {s t u : State} (h : FaultSide s t) (k : FaultSide t u) : FaultSide s u := by
  obtain ⟨r, f, e, rfl, h⟩ := h
  obtain ⟨r', f', e', rfl, k⟩ := k
  exact ⟨r', f', e', rfl, fun a ha => (k a ha).trans (h a ha)⟩

theorem FaultSide.wr {s t : State} (h : FaultSide s t) (a : Nat) (v : Word) (ha : faultReg a = true) :
    FaultSide s (t.wr a v) := by
  obtain ⟨r, f, e, rfl, h⟩ := h
  refine ⟨_, f, e, rfl, fun b hb => ?_⟩
  have hne : b ≠ a := by rintro rfl; simp_all
  exact (State.rd_wr_ne _ _ hne).trans (h b hb)

theorem FaultSide.wn {s t : State} (h : FaultSide s t) (a n : Nat) (ha : faultReg a = true) : FaultSide s (t.wn a n) :=
  h.wr a _ ha

theorem FaultSide.setPair {s t : State} (h : FaultSide s t) (a n : Nat) (ha : faultReg a = true)
    (hb : faultReg (a + 4) = true) : FaultSide s (t.setPair a n) := (h.wn a _ ha).wn (a + 4) _ hb

theorem FaultSide.bump {s t : State} (h : FaultSide s t) (a : Nat) (ha : faultReg a = true)
    (hb : faultReg (a + 4) = true) : FaultSide s (t.bump a) := h.setPair a _ ha hb

theorem FaultSide.wrWords {s t : State} (h : FaultSide s t) (a : Nat) (ws : List Nat)
    (ha : ∀ i < ws.length, faultReg (a + 4 * i) = true) : FaultSide s (t.wrWords a ws) := by
  induction ws generalizing t a with
  | nil => exact h
  | cons w ws ih =>
    refine ih (h.wn a w (ha 0 (by simp))) (a + 4) fun i hi => ?_
    have := ha (i + 1) (by simpa using hi)
    rwa [show a + 4 + 4 * i = a + 4 * (i + 1) by omega]

theorem FaultSide.flt {s t : State} (h : FaultSide s t) (f : FaultState) : FaultSide s { t with flt := f } := by
  obtain ⟨r, _, e, rfl, h⟩ := h
  exact ⟨r, f, e, rfl, h⟩

theorem FaultSide.events {s t : State} (h : FaultSide s t) (l : List Event) : FaultSide s { t with events := l } := by
  obtain ⟨r, f, _, rfl, h⟩ := h
  exact ⟨r, f, l, rfl, h⟩

theorem FaultSide.keepWrite {s t : State} (h : FaultSide s t) (ws : List Nat) (hl : ws.length ≤ 8) :
    FaultSide s (t.keepWrite 8 ws) := by
  refine (h.wrWords _ ws fun i hi => ?_).wr _ _ (by decide)
  have : 0x160000 ≤ Reg.KEEP_LOG 8 + 4 * i ∧ Reg.KEEP_LOG 8 + 4 * i < 0x170000 := by simp only [Reg.KEEP_LOG]; omega
  simp [faultReg, this]

theorem FaultSide.logSide {s t : State} (h : FaultSide s t) (f : FaultState) (l : List Event) :
    FaultSide s { t with flt := f, events := l } := by
  obtain ⟨r, _, _, rfl, h⟩ := h
  exact ⟨r, f, l, rfl, h⟩

theorem FaultSide.ite {s t u : State} {p : Prop} [Decidable p] (h : FaultSide s t) (k : FaultSide s u) :
    FaultSide s (if p then t else u) := by
  split
  · exact h
  · exact k

/-- An entry that is coincident with none on record stands first in the log. -/
theorem logInsert_new (e : LogEntry) {log : List LogEntry} (h : log.head?.any (fun z => z.meets e) = false) :
    logInsert e log = e :: log := by
  cases log with
  | nil => rfl
  | cons x xs => simp only [List.head?_cons, Option.any_some] at h; simp [logInsert, h]

theorem FaultSide.logMoved {s t : State} (h : FaultSide s t) (q : Nat) : FaultSide s (t.logMoved q) := by
  unfold State.logMoved
  lift_lets
  intro _ _ _ first _ _ u
  have k : FaultSide s u := h.logSide _ _
  clear_value u first
  cases first with
  | none => exact k
  | some f => exact k.keepWrite _ (by simp [LogEntry.words])

theorem FaultSide.logPush {s t : State} (h : FaultSide s t) (e : LogEntry) : FaultSide s (t.logPush e) :=
  have k := h.ite (p := t.flt.log.length < 1024) (h.bump Reg.FLT_LOG_LOST (by decide) (by decide))
  .ite (k.logSide _ _) ((k.logSide _ _).logMoved _)

theorem FaultSide.putFirst {s t : State} (h : FaultSide s t) (e : LogEntry) : FaultSide s (t.putFirst e) :=
  (h.flt _).keepWrite _ (by simp [LogEntry.words])

theorem FaultSide.takeFirst {s t : State} (h : FaultSide s t) (d i : Nat) : FaultSide s (t.takeFirst d i) := by
  unfold State.takeFirst
  split
  · exact h
  · exact .ite (h.putFirst _) h

theorem FaultSide.setFltInst {s t : State} (h : FaultSide s t) (d i : Nat) (x : FltInst) :
    FaultSide s (t.setFltInst d i x) := h.flt _

theorem FaultSide.lampFlag {s t : State} (h : FaultSide s t) (d i : Nat) : FaultSide s (t.lampFlag d i) := by
  unfold State.lampFlag
  split
  · next hc =>
    have k := h.wn (Reg.LAMP_PORT_FLT i) (putBits (t.rn (Reg.LAMP_PORT_FLT i)) ([0, 1, 2, 3, 4, 5, 8, 6, 7, 0, 9].getD (d - 192) 0)
      ([0, 1, 2, 3, 4, 5, 8, 6, 7, 0, 9].getD (d - 192) 0) 1) (by
        have : 0xD0100 ≤ Reg.LAMP_PORT_FLT i ∧ Reg.LAMP_PORT_FLT i < 0xD1000 := by simp only [Reg.LAMP_PORT_FLT]; omega
        simp [faultReg, this])
    dsimp only
    split
    · exact k.wn (Reg.LAMP_PORT_TJ i) _ (by
        have : 0xD0100 ≤ Reg.LAMP_PORT_TJ i ∧ Reg.LAMP_PORT_TJ i < 0xD1000 := by simp only [Reg.LAMP_PORT_TJ]; omega
        simp [faultReg, this])
    · exact k
  · exact h

/-- A lamp flag leaves the reaction of every detector. -/
theorem detReaction_lampFlag (s : State) (d i e : Nat) : (s.lampFlag d i).detReaction e = s.detReaction e := by
  have key : ∀ (a : Nat) (u : State) (v : Nat), a < 0x121000 → (u.wn a v).detReaction e = u.detReaction e := by
    intro a u v ha
    unfold State.detReaction State.fld
    rw [State.rn_wn_ne]
    simp only [Reg.FLT_DET_CFG]; omega
  unfold State.lampFlag
  split
  · next hc =>
    have h1 : Reg.LAMP_PORT_FLT i < 0x121000 := by simp only [Reg.LAMP_PORT_FLT]; omega
    have h2 : Reg.LAMP_PORT_TJ i < 0x121000 := by simp only [Reg.LAMP_PORT_TJ]; omega
    dsimp only
    split
    · exact (key _ _ _ h2).trans (key _ _ _ h1)
    · exact key _ _ _ h1
  · rfl

theorem FaultSide.tripLog {s u : State} (h : FaultSide s u) (t : Trip) (e : LogEntry) (held : Bool) :
    FaultSide s (u.tripLog t e held) := by
  have h1 := h.bump Reg.FLT_RAISED (by decide) (by decide)
  have h2 : FaultSide s (if t.rail then (u.bump Reg.FLT_RAISED).bump Reg.FLT_RAIL else u.bump Reg.FLT_RAISED) := by
    split
    · exact h1.bump _ (by decide) (by decide)
    · exact h1
  refine (FaultSide.logPush ?_ _).takeFirst _ _
  split
  · exact h2.bump _ (by decide) (by decide)
  · exact h2

theorem FaultSide.tripMarks {s u : State} (h : FaultSide s u) (t : Trip) (sev : Nat) (lat : Bool) :
    FaultSide s (u.tripMarks t sev lat) := by
  have h1 : FaultSide s (if lat then u.latchAll else u) := by
    split
    · exact h.flt _
    · exact h
  unfold State.tripMarks
  dsimp only
  split
  · exact h1.flt _
  · exact h1

theorem FaultSide.tripStand {s u : State} (h : FaultSide s u) (t : Trip) (x : FltInst) (ev : Bool) (r sev : Nat)
    (lat inj : Bool) : FaultSide s (u.tripStand t x ev r sev lat inj) := by
  unfold State.tripStand
  dsimp only
  split
  · exact h.setFltInst _ _ _
  · exact h

theorem FaultSide.tripRaise {s u : State} (h : FaultSide s u) (t : Trip) (e : LogEntry) (x : FltInst) (ev : Bool) :
    FaultSide s (u.tripRaise t e x ev).1 := ((h.tripLog t _ _).tripMarks t _ _).tripStand t x ev _ _ _ _

/-- Entering a trip changes the fault side alone. -/
theorem enterTrip_faultSide (s : State) (t : Trip) : FaultSide s (s.enterTrip t).1 := by
  have h0 : FaultSide s (s.lampFlag t.det t.inst) := FaultSide.lampFlag (.refl s) _ _
  unfold State.enterTrip
  split
  · exact .refl s
  split
  · exact .refl s
  generalize s.lampFlag t.det t.inst = u at *
  dsimp only
  split
  · refine FaultSide.logPush (FaultSide.bump ?_ _ (by decide) (by decide)) _
    split
    · exact h0.flt _
    · exact (h0.flt _).setFltInst _ _ _
  · split
    · exact (h0.setFltInst _ _ _).logPush _
    · exact h0.tripRaise t _ _ _

/-- The reaction of a trip that is no rail fault is the detector's own while that is log only or stop the berth. -/
theorem enterTrip_code (s : State) (t : Trip) (hr : t.rail = false) (hl : s.detReaction t.det ≤ 1) :
    ∀ x, (s.enterTrip t).2 = some x → x.code ≤ 1 := by
  have hq : (s.lampFlag t.det t.inst).detReaction t.det = s.detReaction t.det := detReaction_lampFlag ..
  have hc : ∀ sev, ((s.lampFlag t.det t.inst).tripReaction t sev).1 ≤ 1 := by
    intro sev
    unfold State.tripReaction
    rw [hr, hq]
    simp only [Bool.false_and, Bool.false_eq_true, if_false]
    rw [if_neg (by omega)]
    exact hl
  intro x
  unfold State.enterTrip
  split
  · intro h; cases h
  split
  · intro h; cases h
  generalize s.lampFlag t.det t.inst = u at *
  dsimp only
  split
  · intro h; cases h
  · split
    · intro h; cases h
    · rintro ⟨⟩; exact hc _

/-- A raise of a detector whose reaction is log only or stop the berth stays on the fault side. -/
theorem raise_faultSide (s : State) (d i info : Nat) (h : s.logOnly d = true) : FaultSide s (s.raise d i info) := by
  have hl : s.detReaction d ≤ 1 := by simpa [State.logOnly] using h
  have h1 := enterTrip_faultSide s { det := d, inst := i, info := info }
  have h2 := enterTrip_code s { det := d, inst := i, info := info } rfl hl
  unfold State.raise State.logTrip
  generalize s.enterTrip { det := d, inst := i, info := info } = p at *
  obtain ⟨u, o⟩ := p
  cases o with
  | none => exact h1
  | some x =>
    have hx : x.code ≤ 1 := h2 x rfl
    have : u.act1 x = u := by
      obtain ⟨a, b, c, e⟩ := x
      simp only at hx
      unfold State.act1 State.react
      interval_cases c <;> simp
    simpa [this] using h1

/-- What stays when a fault is raised without a reaction at once. -/
theorem FaultSide.hold {s t : State} (h : FaultSide s t) : t.hold = s.hold := by obtain ⟨_, _, _, rfl, _⟩ := h; rfl
theorem FaultSide.time {s t : State} (h : FaultSide s t) : t.time = s.time := by obtain ⟨_, _, _, rfl, _⟩ := h; rfl
theorem FaultSide.pipe {s t : State} (h : FaultSide s t) : t.pipe = s.pipe := by obtain ⟨_, _, _, rfl, _⟩ := h; rfl
theorem FaultSide.watch {s t : State} (h : FaultSide s t) : t.watch = s.watch := by obtain ⟨_, _, _, rfl, _⟩ := h; rfl
theorem FaultSide.rd {s t : State} (h : FaultSide s t) {a : Nat} (ha : faultReg a = false) : t.rd a = s.rd a := by
  obtain ⟨_, _, _, rfl, k⟩ := h; exact k a ha

theorem FaultSide.rn {s t : State} (h : FaultSide s t) {a : Nat} (ha : faultReg a = false) : t.rn a = s.rn a := by
  rw [State.rn, h.rd ha]; rfl

/-- The reactions of the detectors stay. -/
theorem FaultSide.logOnly {s t : State} (h : FaultSide s t) (d : Nat) (hd : d < 512) : t.logOnly d = s.logOnly d := by
  unfold State.logOnly State.detReaction State.fld
  rw [h.rn]
  have h1 : 0x121000 ≤ Reg.FLT_DET_CFG d ∧ Reg.FLT_DET_CFG d < 0x122000 := by simp only [Reg.FLT_DET_CFG]; omega
  have : faultReg (Reg.FLT_DET_CFG d) = false := by
    unfold faultReg
    generalize Reg.FLT_DET_CFG d = a at *
    simp
    omega
  exact this

/-- The condition of an instance that ends changes the fault block alone. -/
theorem condClear_faultSide (s : State) (d i : Nat) : FaultSide s (s.condClear d i) := by
  unfold State.condClear
  dsimp only
  split
  · split
    · exact FaultSide.flt (.refl s) _
    · exact .refl s
  · exact .refl s

theorem raiseOnce_faultSide (s : State) (d i info : Nat) (h : s.logOnly d = true) : FaultSide s (s.raiseOnce d i info) := by
  unfold State.raiseOnce
  dsimp only
  split
  · exact .refl s
  · exact raise_faultSide s d i info h

theorem raiseSec_faultSide (s : State) (d i info : Nat) (h : s.logOnly d = true) : FaultSide s (s.raiseSec d i info) := by
  have key : ∀ f : FaultState, FaultSide s (({ s with flt := f } : State).raise d i info) := fun f =>
    (FaultSide.flt (.refl s) f).trans (raise_faultSide _ d i info h)
  unfold State.raiseSec
  dsimp only
  repeat' split
  all_goals first | exact .refl s | exact key _

end Sys2Proof.Machine
end

