-- ==== Sys2Proof/Laws/Transmit.lean ====
section
/-!
SUPPORT. What the transmitter of a link does (R231): one that is idle sends a ready packet at once, and stays as it is with none.
-/
namespace Sys2Proof.Machine

@[simp] theorem State.linkTx_setLinkTx (s : State) (k : Nat) (x : LinkTx) : (s.setLinkTx k x).linkTx k = x := by
  simp [State.linkTx, State.setLinkTx, tabGetD]

@[simp] theorem State.setLinkTx_clk (s : State) (k : Nat) (x : LinkTx) : (s.setLinkTx k x).clk = s.clk := rfl
@[simp] theorem State.setLinkTx_regs (s : State) (k : Nat) (x : LinkTx) : (s.setLinkTx k x).regs = s.regs := rfl
@[simp] theorem State.setLinkTx_hold (s : State) (k : Nat) (x : LinkTx) : (s.setLinkTx k x).hold = s.hold := rfl

/-- With nothing waiting a link has nothing to do. -/
theorem State.txPump_idle {s : State} {k : Nat} (h : (s.linkTx k).queue = []) : s.txPump k = s := by
  simp [State.txPump, h, State.txDrain]

/-- A packet ready now is first when it is the only one. -/
theorem nextPacket_one (p : TxPacket) {clk : Nat} (h : p.ready ≤ clk) : nextPacket [p] clk = some p := by
  simp [nextPacket, Nat.not_lt.mpr h]

/-- An idle link sends a packet that is ready now at once. -/
theorem State.enqueue_idle {s : State} {k : Nat} {p : TxPacket} (h : s.txIdle k = true) (hp : p.ready = s.clk) :
    s.enqueue k p = (s.setLinkTx k { s.linkTx k with queue := [p] }).txSend k p s.clk := by
  obtain ⟨hq, hf⟩ : (s.linkTx k).queue = [] ∧ (s.linkTx k).freeAt ≤ s.clk := by
    simpa [State.txIdle] using h
  rw [State.enqueue, State.txPump_idle hq]
  simp [State.txPump, hq, State.txDrain, hp, Nat.max_eq_right hf, nextPacket_one p (Nat.le_of_eq hp)]

end Sys2Proof.Machine
end

