-- ==== Sys2Proof/WellFormed.lean ====
section
/-!
DEFINITION. Well-formed commands: operands within the widths that the spec gives the fields they stand for. An operand whose
type already bounds it (a lane, a port, a 32-bit word) needs no check. The block meets no ill-formed command: these checks
say which terms of Instr stand for something that can reach it.
-/
namespace Sys2Proof

/-- A byte address of the 32-bit register and Hold space, at a word (R5, Table 18.1). -/
def wordAddr (a : Nat) : Bool := decide (a < 2 ^ 32 ∧ a % 4 = 0)

/-- A field of n bits. -/
def fits (n x : Nat) : Bool := decide (x < 2 ^ n)

/-- Octets. -/
def octets (l : List Nat) : Bool := l.all fun x => decide (x < 256)

/-- A peer on a MAC: its MAC address, IPv4 address and UDP port (R299). -/
def peerOk (p : Nat) : Bool := fits 112 p

/-- A QMP envelope: a MAC, its sender and the fields of the QMP header (R401). -/
def QmpEnv.wf (e : QmpEnv) : Bool :=
  decide (e.mac < 5) && peerOk e.sender && fits 32 e.session && fits 32 e.seq && fits 32 e.target

/-- The door of a request. -/
def Door.wf : Door → Bool
  | .qmp e => e.wf
  | .pier q => fits 32 q
  | .relay n q => fits 32 n && fits 32 q
  | .regs _ => true

/-- A parameter item: its length is that of its value (R404). -/
def Param.wf (p : Param) : Bool := fits 16 p.id && decide (p.len = p.value.length) && fits 16 p.len

/-- An sACN packet (R329): a priority of 0 to 200 is the source's to keep, its field is an octet; at most 512 slots. -/
def SacnPacket.wf (p : SacnPacket) : Bool :=
  fits 16 p.univ && fits 8 p.startCode && fits 8 p.options && fits 8 p.priority && fits 8 p.seq && fits 128 p.cid
    && decide (p.slots.length ≤ 512) && octets p.slots

/-- An operand list within its widths. Commands without an arm of their own have operands that their types bound, or whose every
value their meanings judge. -/
def Instr.wf : Instr → Bool
  | .registerWrite _ _ a _ => wordAddr a
  | .w1cWrite _ _ a _ _ => wordAddr a
  | .rcRegisterRead _ _ a e => wordAddr a && fits 32 e
  | .pairLowRead _ _ a => wordAddr a
  | .pairHighWrite _ _ a _ => wordAddr a
  | .snapArm _ d id at64 _ _ => d.wf && fits 16 id && fits 64 at64
  | .ptpMessageReceive _ _ domain q sender src _ => fits 8 domain && fits 16 q && fits 80 sender && fits 32 src
  | .sacnReceive _ _ p => p.wf
  | .igmpJoin _ _ g => fits 32 g
  | .berthCreate _ d k r ps => d.wf && fits 8 k && fits 32 r && ps.all Param.wf
  | .berthModify _ d h ps => d.wf && fits 32 h && ps.all Param.wf
  | .berthDestroy _ d h => d.wf && fits 32 h
  | .berthQuery _ d h => d.wf && fits 32 h
  | .cueCreate _ d r => d.wf && decide (r.length = 16)
  | .cueCancel _ d i => d.wf && fits 32 i
  | .cueCancelList _ d h => d.wf && fits 32 h
  | .cueQuery _ d i => d.wf && fits 32 i
  | .qmpOpen _ e n => e.wf && decide (n.length = 16)
  | .qmpClose _ e => e.wf
  | .qmpRead _ d a n i => d.wf && fits 64 a && fits 16 n && fits 16 i
  | .qmpWrite _ d a g _ => d.wf && fits 64 a && fits 32 g
  | .saveSettings _ d => d.wf
  | .rdmRequest _ d port cc uid sub pid pd =>
    d.wf && decide (port < 8) && fits 8 cc && fits 48 uid && fits 16 sub && fits 16 pid && decide (pd.length ≤ 231)
  | .pierRead _ a n _ => wordAddr a && fits 16 n
  | .pierWrite _ a _ => wordAddr a
  | .pierQwrite _ _ ws => ws.all fun w => fits 7 w.check
  | .watchSample _ _ code ss _ => fits 12 code && ss.all (fits 12)
  | .tftpWriteRequest _ p _ _ _ _ => peerOk p
  | .tftpReadRequest _ p _ _ _ => peerOk p
  | .tftpData _ p b bs => peerOk p && fits 16 b && decide (bs.length ≤ 4096)
  | .nvmBlockRemap _ b _ => fits 16 b
  | _ => true

end Sys2Proof
end

