-- ==== Sys2Proof/Tests/Slice0.lean ====
section
/-!
SUPPORT. Tests: each check of WellFormed refuses an ill-formed command; worked examples of the spec; and for every clause of
every statement with hypotheses, a state and operands that meet them.
-/
set_option Elab.async false
set_option maxRecDepth 100000
open Sys2Proof Sys2Proof.Machine

/-! ### Ill-formed commands, one for each check -/

/-- A well-formed QMP header. -/
def goodEnv : QmpEnv := ⟨1, 50, 7, 5, none, 9⟩

/-- A well-formed sACN packet, and commands of each kind. -/
def goodSacn : SacnPacket := ⟨true, 0, 0, 5, 100, 7, 1, [255]⟩

theorem test_wf_accepts :
    ([.registerWrite 5 .pier 0x300 1#32, .sacnReceive 5 4 goodSacn, .berthCreate 5 (.qmp goodEnv) 9 0 [⟨1, 2, [0#8, 1#8]⟩],
      .qmpOpen 5 goodEnv (List.replicate 16 0#8), .cueCreate 5 (.pier 3) (List.replicate 16 0#32),
      .rdmRequest 5 (.qmp goodEnv) 7 0x20 (2 ^ 48 - 1) 0 0x60 [], .pierQwrite 5 0 [⟨true, true, true, 0#32, 127⟩]] :
      List Instr).all Instr.wf = true := by decide +kernel

theorem test_wf_register_address : (Instr.registerWrite 5 .pier 0x301 1#32).wf = false := by decide +kernel
theorem test_wf_w1c_address : (Instr.w1cWrite 5 .pier 0x302 1#32 0#32).wf = false := by decide +kernel
theorem test_wf_rc_address : (Instr.rcRegisterRead 5 .pier 0x303 0).wf = false := by decide +kernel
theorem test_wf_rc_event : (Instr.rcRegisterRead 5 .pier 0x300 (2 ^ 32)).wf = false := by decide +kernel
theorem test_wf_pair_low : (Instr.pairLowRead 5 .pier (2 ^ 32)).wf = false := by decide +kernel
theorem test_wf_pair_high : (Instr.pairHighWrite 5 .pier 2 1#32).wf = false := by decide +kernel
theorem test_wf_snap_id : (Instr.snapArm 5 (.pier 1) 65536 0 false false).wf = false := by decide +kernel
theorem test_wf_snap_time : (Instr.snapArm 5 (.pier 1) 1 (2 ^ 64) false false).wf = false := by decide +kernel
theorem test_wf_sacn_universe : (Instr.sacnReceive 5 4 { goodSacn with univ := 65536 }).wf = false := by decide +kernel
theorem test_wf_sacn_start : (Instr.sacnReceive 5 4 { goodSacn with startCode := 256 }).wf = false := by decide +kernel
theorem test_wf_sacn_options : (Instr.sacnReceive 5 4 { goodSacn with options := 256 }).wf = false := by decide +kernel
theorem test_wf_sacn_priority : (Instr.sacnReceive 5 4 { goodSacn with priority := 256 }).wf = false := by decide +kernel
theorem test_wf_sacn_seq : (Instr.sacnReceive 5 4 { goodSacn with seq := 256 }).wf = false := by decide +kernel
theorem test_wf_sacn_cid : (Instr.sacnReceive 5 4 { goodSacn with cid := 2 ^ 128 }).wf = false := by decide +kernel
theorem test_wf_sacn_slots : (Instr.sacnReceive 5 4 { goodSacn with slots := List.replicate 513 0 }).wf = false := by
  decide +kernel
theorem test_wf_sacn_octets : (Instr.sacnReceive 5 4 { goodSacn with slots := [256] }).wf = false := by decide +kernel
theorem test_wf_igmp_group : (Instr.igmpJoin 5 4 (2 ^ 32)).wf = false := by decide +kernel
theorem test_wf_env_mac : (Instr.qmpClose 5 { goodEnv with mac := 5 }).wf = false := by decide +kernel
theorem test_wf_env_sender : (Instr.qmpClose 5 { goodEnv with sender := 2 ^ 112 }).wf = false := by decide +kernel
theorem test_wf_env_session : (Instr.qmpClose 5 { goodEnv with session := 2 ^ 32 }).wf = false := by decide +kernel
theorem test_wf_env_seq : (Instr.qmpClose 5 { goodEnv with seq := 2 ^ 32 }).wf = false := by decide +kernel
theorem test_wf_env_target : (Instr.qmpClose 5 { goodEnv with target := 2 ^ 32 }).wf = false := by decide +kernel
theorem test_wf_pier_door : (Instr.saveSettings 5 (.pier (2 ^ 32))).wf = false := by decide +kernel
theorem test_wf_relay_node : (Instr.saveSettings 5 (.relay (2 ^ 32) 1)).wf = false := by decide +kernel
theorem test_wf_relay_seq : (Instr.saveSettings 5 (.relay 1 (2 ^ 32))).wf = false := by decide +kernel
theorem test_wf_berth_kind : (Instr.berthCreate 5 (.pier 1) 256 0 []).wf = false := by decide +kernel
theorem test_wf_berth_resource : (Instr.berthCreate 5 (.pier 1) 1 (2 ^ 32) []).wf = false := by decide +kernel
theorem test_wf_param_length : (Instr.berthCreate 5 (.pier 1) 1 0 [⟨1, 2, [0#8]⟩]).wf = false := by decide +kernel
theorem test_wf_param_id : (Instr.berthModify 5 (.pier 1) 1 [⟨65536, 0, []⟩]).wf = false := by decide +kernel
theorem test_wf_berth_handle :
    (Instr.berthModify 5 (.pier 1) (2 ^ 32) []).wf = false ∧ (Instr.berthDestroy 5 (.pier 1) (2 ^ 32)).wf = false
      ∧ (Instr.berthQuery 5 (.pier 1) (2 ^ 32)).wf = false := by decide +kernel
theorem test_wf_cue_record : (Instr.cueCreate 5 (.pier 1) []).wf = false := by decide +kernel
theorem test_wf_cue_id :
    (Instr.cueCancel 5 (.pier 1) (2 ^ 32)).wf = false ∧ (Instr.cueCancelList 5 (.pier 1) (2 ^ 32)).wf = false
      ∧ (Instr.cueQuery 5 (.pier 1) (2 ^ 32)).wf = false := by decide +kernel
theorem test_wf_nonce : (Instr.qmpOpen 5 goodEnv []).wf = false := by decide +kernel
theorem test_wf_qmp_read :
    (Instr.qmpRead 5 (.pier 1) (2 ^ 64) 1 0).wf = false ∧ (Instr.qmpRead 5 (.pier 1) 0 65536 0).wf = false
      ∧ (Instr.qmpRead 5 (.pier 1) 0 1 65536).wf = false := by decide +kernel
theorem test_wf_qmp_write :
    (Instr.qmpWrite 5 (.pier 1) (2 ^ 64) 0 []).wf = false ∧ (Instr.qmpWrite 5 (.pier 1) 0 (2 ^ 32) []).wf = false := by
  decide +kernel
theorem test_wf_rdm :
    (Instr.rdmRequest 5 (.pier 1) 8 0x20 5 0 0x60 []).wf = false ∧ (Instr.rdmRequest 5 (.pier 1) 7 256 5 0 0x60 []).wf = false
      ∧ (Instr.rdmRequest 5 (.pier 1) 7 0x20 (2 ^ 48) 0 0x60 []).wf = false
      ∧ (Instr.rdmRequest 5 (.pier 1) 7 0x20 5 65536 0x60 []).wf = false
      ∧ (Instr.rdmRequest 5 (.pier 1) 7 0x20 5 0 65536 []).wf = false
      ∧ (Instr.rdmRequest 5 (.pier 1) 7 0x20 5 0 0x60 (List.replicate 232 0#8)).wf = false := by decide +kernel
theorem test_wf_pier :
    (Instr.pierRead 5 1 1 true).wf = false ∧ (Instr.pierRead 5 0 65536 true).wf = false
      ∧ (Instr.pierWrite 5 1 []).wf = false ∧ (Instr.pierQwrite 5 0 [⟨true, true, true, 0#32, 128⟩]).wf = false := by
  decide +kernel
theorem test_wf_watch_code : (Instr.watchSample 5 3 4096 [] true).wf = false := by decide +kernel
theorem test_wf_tftp_data :
    (Instr.tftpData 5 1 65536 []).wf = false ∧ (Instr.tftpData 5 (2 ^ 112) 1 []).wf = false
      ∧ (Instr.tftpReadRequest 5 (2 ^ 112) .faultlog false none).wf = false
      ∧ (Instr.tftpWriteRequest 5 (2 ^ 112) .key false none 0).wf = false ∧ (Instr.tftpData 5 1 1 (List.replicate 4097 0#8)).wf = false := by decide +kernel
theorem test_wf_block : (Instr.nvmBlockRemap 5 65536 true).wf = false := by decide +kernel

/-! ### Worked examples of the spec -/

/-- 00_scope.md, the example of Table 00.6's handles. -/
theorem test_handle : (hKind 0x1002A005, hGen 0x1002A005, hIndex 0x1002A005) = (1, 42, 5) := by decide +kernel

/-- 02_ledger_time.md, the example after R42: tally and frame boundaries at 59.94 Hz. -/
theorem test_tally :
    tallyOf 8 1900000000000000000 = 113886113886 ∧ tpOf 8 113886113886 = 1899999999998100000
      ∧ tpOf 8 113886113887 = 1900000000014783334 := by decide +kernel

/-- 04_composition.md, the example of the scaler: 1,920 columns to 480. -/
theorem test_scaler : u16 1920 480 0 = 98304 ∧ u16 1920 480 479 = 125665280 := by decide +kernel

/-- 05_pixel_calibration.md, the profile of its two examples. -/
def exampleBin : List Nat :=
  [0x10190, 0x19A1E66, 0, 0x2000, 0, 0xFFFF1CCD, 0xFFFFEA60, 0, 0x10410, 0x19A219A, 0, 0x2333, 0, 0xFFFF1CCD, 0xFFFFC350, 0]
    ++ List.replicate 48 0

/-- Its terms at 760. -/
def exampleTerms : List Int := [8243, 410, 0, 0, 8653, 0, 0, 0, 7373, 65535, 54375, 65535]

theorem test_bin_interp : binInterp exampleBin 760 = exampleTerms := by decide +kernel

/-- The example's pixel: yellow at brightness 3,072, and the clamp at 4,096. -/
theorem test_cal_pixel :
    calPixel exampleTerms (984 + 12 * 2 ^ 10 + 994 * 2 ^ 40) true 3072 (65535, 65535, 0) = (48166, 48876, 0)
      ∧ (calPixel exampleTerms (984 + 12 * 2 ^ 10 + 994 * 2 ^ 40) true 4096 (65535, 65535, 0)).2.1 = 54375 := by decide +kernel

/-- 11_probes_fixtures.md, the example of R316. -/
theorem test_probe :
    probeOut (0, 2 ^ 20) [0x104, 0, 8192, 0, 8192 * 65536, 0, 0, 8192, 8192, 0x10000] (1048575, 524288, 524288)
      = [32768, 0, 0, 32768, 0, 0] := by decide +kernel

/-- 11_probes_fixtures.md, the beacon of the capacity example. -/
theorem test_waybill_value : wayY [0, 0, 0, 0, 0, 0, 0x0E66, 0] 32768 = 29488 := by decide +kernel

/-- 12_lamp_ports.md, the example after R365: G, V, A and D. -/
theorem test_lamp_drive :
    gainOf 2621 1040 400 = 18022 ∧ driveV 40000 65535 18022 = 2815938 ∧ driveAD (63 + 64 + 4096 * 4096) 2815938 = (63, 43999) := by
  decide +kernel

/-- R4: the published check value of CRC-32C over the digits 1 to 9. -/
theorem test_crc32c : crc32c ((List.range 9).map fun i => BitVec.ofNat 8 (0x31 + i)) = 0xE3069283#32 := by decide +kernel

/-- 19_electrical_package.md, the example after Table 19.9: the ball of LP13's HG, and the class of CSP against CSN. -/
theorem test_ball : lampBall 13 0 = 1335 ∧ nearClass 13 4 (lampBall 13 5) = 4 := by
  exact ⟨by decide +kernel, by unfold nearClass pairIntended; simp⟩

/-- R494: SHA-384 of "abc" as FIPS 180-4 publishes it (its first and last four bytes). -/
theorem test_sha384 :
    (sha384 [0x61#8, 0x62#8, 0x63#8]).take 4 = [0xCB#8, 0x00#8, 0x75#8, 0x3F#8]
      ∧ (sha384 [0x61#8, 0x62#8, 0x63#8]).drop 44 = [0x34#8, 0xC8#8, 0x25#8, 0xA7#8] := by decide +kernel

/-! ### Witnesses of the statements' hypotheses -/

/-- Of StepRunsFront: a command at the front of the queue. -/
theorem witness_StepRunsFront :
    ({ State.reset with pending := [.snapFire 5] } : State).pending = Instr.snapFire 5 :: [] := rfl

/-- Of EmptyQueueIdles. -/
theorem witness_EmptyQueueIdles : State.reset.pending = [] := rfl

/-- PIRQ_N low, and a command waiting that runs. -/
def irqLow : State :=
  { (State.reset.wn Reg.PIER_IRQ_STAT 0x100).wn Reg.PIER_IRQ_MASK 0x100 with pirq := true, pending := [.snapFire 5] }

/-- Of PirqFollowsItsRegisters: the pin is low, as its registers say, and the step answers a next state. -/
theorem witness_PirqFollowsItsRegisters :
    irqLow.PirqInv ∧ (match step irqLow with
      | .next t => t.clk = 5 ∧ t.PirqInv
      | _ => False) := by
  refine ⟨by unfold State.PirqInv; decide +kernel, ?_⟩
  show _ ∧ _
  exact ⟨by decide +kernel, by unfold State.PirqInv; decide +kernel⟩

/-- Of HeldInResetOnlyTimePasses. -/
theorem witness_HeldInResetOnlyTimePasses :
    ({ State.reset with watch := { State.reset.watch with core := false } } : State).watch.core = false := rfl

/-- A state with some registers set. -/
def withRegs (l : List (Nat × Nat)) : State := l.foldl (fun s e => s.wn e.1 e.2) State.reset

/-- Clause 1 of UnassignedWriteCounted. -/
theorem witness_UnassignedWriteCounted_1 :
    let a : Nat := 0x50
    let s : State := State.reset
    s.watch.core = true
      ∧ assigned a = false := by
  decide +kernel

/-- Clause 1 of PlainWriteStores. -/
theorem witness_PlainWriteStores_1 :
    let s : State := State.reset
    s.watch.core = true := by
  decide +kernel

/-- Clause 1 of ReadOnlyWriteIgnored. -/
theorem witness_ReadOnlyWriteIgnored_1 :
    let a : Nat := 0x20
    let s : State := State.reset
    s.watch.core = true
      ∧ inHold a = false
      ∧ a % 4 = 0
      ∧ (regDesc? a).any (fun d => d.acc == .ro) = true
      ∧ s.slotUnused a = false := by
  decide +kernel

/-- Clause 2 of ReadOnlyWriteIgnored. -/
theorem witness_ReadOnlyWriteIgnored_2 :
    let a : Nat := Reg.COMP_LAYER_HANDLE 63
    let s : State := State.reset
    s.watch.core = true
      ∧ inHold a = false
      ∧ a % 4 = 0
      ∧ (regDesc? a).any (fun d => d.acc == .ro) = true
      ∧ s.slotUnused a = true := by
  decide +kernel

/-- Clause 1 of HoldWordWritten. -/
theorem witness_HoldWordWritten_1 :
    let a : Nat := 0x1c000000
    let s : State := State.reset
    s.watch.core = true
      ∧ inHold a = true
      ∧ a % 4 = 0
      ∧ s.stageBase ≤ a := by
  decide +kernel

/-- Clauses 1, 2 of WriteOneToClear. -/
theorem witness_WriteOneToClear_1 :
    let s : State := (withRegs [(Reg.PIER_IRQ_STAT, 0x700), (Reg.LAMP_PORT_FLT 31, 0x380)])
    s.watch.core = true
      ∧ s.lampDie = true := by
  decide +kernel

/-- Clause 1 of ReadClears. -/
theorem witness_ReadClears_1 :
    let s : State := (withRegs [(Reg.COMP_COST_PEAK, 5)])
    s.watch.core = true := by
  decide +kernel

/-- Clause 1 of PairLowLatchesHigh. -/
theorem witness_PairLowLatchesHigh_1 :
    let req : Requester := .pier
    let s : State := (withRegs [(Reg.SYS_ACC_ERR, 5),(Reg.SYS_ACC_ERR + 4, 6)])
    s.watch.core = true
      ∧ takeKey s.pairLatch req Reg.SYS_ACC_ERR = none := by
  decide +kernel

/-- Clause 1 of PairHighCommits. -/
theorem witness_PairHighCommits_1 :
    let s : State := ((withRegs [(Reg.TIME_SNAP_AT, 5)]).pairPut .pier Reg.TIME_SNAP_AT 9)
    s.watch.core = true := by
  decide +kernel

/-- A selected composition of a tally. -/
def jobOf (n : Nat) (done : Bool) : CompJob := { tally := n, layers := [], buf := 0, done := done }

/-- A small canvas, 64 by 16, at a ledger time in ns. -/
def small (ns : Nat) : State :=
  { withRegs [(Reg.COMP_CANVAS_W, 4), (Reg.COMP_CANVAS_H, 1)] with time := { ({} : TimeState) with led := ns * ledNs } }

def smallPipe (ns : Nat) (f : PipeState → PipeState) : State := (small ns).setPipe f

/-- A composition slot whose berth lives, with a source of solid colour that it names. -/
def liveSlot (l : Nat) : State :=
  { State.reset with berths := { State.reset.berths with entries := [(0, { kind := 1, resource := l, extent := 1, gen := 1, state := 1 })] } }

/-- A list of cues with one READY, the clock after it became so. -/
def readyCue (b i : Nat) : State :=
  { State.reset with
    clk := 9
    berths := { State.reset.berths with entries := [(b, { kind := 9, resource := 0, extent := 1, gen := 1, state := 1 })] }
    cues := { State.reset.cues with
      slots := [(i, { words := [0, 0x90001003, 0, 0, 0, 0, 0, 0, 0, 0, 0, 0, 0, 0, 0, 0], gen := 1, state := 2, readyClk := 3 })] } }

/-- Clause 1 of SelectionAndComposition. -/
theorem witness_SelectionAndComposition_1 :
    let dt : Nat := 5
    let n : Nat := 240
    let s : State := (smallPipe 10000000000 id)
    s.watch.core = true
      ∧ (s.advance dt).selPoint n ≤ (s.advance dt).ns
      ∧ notYet s.pipe.lastSel n = true := by
  decide +kernel

/-- Clause 2 of SelectionAndComposition. -/
theorem witness_SelectionAndComposition_2 :
    let dt : Nat := 5
    let n : Nat := 241
    let j : CompJob := (jobOf 241 false)
    let s : State := (smallPipe 10000000000 fun p => { p with sel := some (jobOf 241 false) })
    s.watch.core = true
      ∧ s.pipe.sel = some j
      ∧ j.tally = n
      ∧ (s.advance dt).compPoint n ≤ (s.advance dt).ns
      ∧ s.inReset .compositor = false
      ∧ s.quietFor n = false
      ∧ s.pipe.comp = none := by
  decide +kernel

/-- Clause 3 of SelectionAndComposition. -/
theorem witness_SelectionAndComposition_3 :
    let j : CompJob := (jobOf 241 false)
    let s : State := (smallPipe 10000000000 fun p => { p with comp := some (jobOf 241 false) })
    s.watch.core = true
      ∧ s.pipe.comp = some j
      ∧ j.done = false
      ∧ s.inReset .compositor = false := by
  decide +kernel

/-- Clause 1 of BufferSwap. -/
theorem witness_BufferSwap_1 :
    let dt : Nat := 5
    let n : Nat := 240
    let j : CompJob := (jobOf 240 true)
    let s : State := (smallPipe 10000000000 fun p => { p with comp := some (jobOf 240 true) })
    s.watch.core = true
      ∧ s.chase = false
      ∧ (s.advance dt).rasterPoint n ≤ (s.advance dt).ns
      ∧ notYet s.pipe.raster n = true
      ∧ s.skipped n = false
      ∧ s.pipe.comp = some j
      ∧ j.tally = n
      ∧ j.done = true := by
  decide +kernel

/-- Clause 2 of BufferSwap. -/
theorem witness_BufferSwap_2 :
    let dt : Nat := 5
    let n : Nat := 240
    let s : State := (smallPipe 10000000000 id)
    s.watch.core = true
      ∧ s.chase = false
      ∧ (s.advance dt).rasterPoint n ≤ (s.advance dt).ns
      ∧ notYet s.pipe.raster n = true
      ∧ s.skipped n = false
      ∧ s.pipe.comp = none
      ∧ s.quietFor n = false
      ∧ s.logOnly 64 = true
      ∧ s.logOnly 65 = true := by
  decide +kernel

/-- Clause 1 of RasterRuns. -/
theorem witness_RasterRuns_1 :
    let n : Nat := 240
    let s : State := (smallPipe 10000000000 fun p => { p with raster := some 240 })
    s.watch.core = true
      ∧ s.chase = false
      ∧ s.pipe.raster = some n
      ∧ notYet s.pipe.started n = true
      ∧ s.skipped n = false := by
  decide +kernel

/-- Clause 1 of RasterRuns. -/
theorem witness_RasterRuns_2 :
    let n : Nat := 240
    let s : State := (smallPipe 10000000000 fun p => { p with raster := some 240, latched := [(240, .calCtrl 3), (241, .calCtrl 5)] })
    s.watch.core = true
      ∧ s.chase = false
      ∧ s.pipe.raster = some n
      ∧ notYet s.pipe.started n = true
      ∧ s.skipped n = false := by
  decide +kernel

/-- Clause 2 of RasterRuns. -/
theorem witness_RasterRuns_3 :
    let dt : Nat := 5
    let n : Nat := 239
    let s : State := (smallPipe 10000000000 fun p => { p with raster := some 239 })
    s.watch.core = true
      ∧ s.pipe.raster = some n
      ∧ s.pipe.blanking = false
      ∧ (s.advance dt).rasterStop n ≤ (s.advance dt).ns := by
  decide +kernel

/-- Clause 3 of RasterRuns. -/
theorem witness_RasterRuns_4 :
    let n : Nat := 240
    let line : Nat := 0
    let j : CompJob := (jobOf 240 false)
    let s : State := ((smallPipe 10000000000 fun p => { p with raster := some 240, comp := some (jobOf 240 false) }).wn Reg.COMP_MODE 4)
    s.watch.core = true
      ∧ s.pipe.comp = some j
      ∧ s.pipe.raster = some n
      ∧ s.chase = true
      ∧ j.tally = n
      ∧ j.done = false
      ∧ s.pipe.blanking = false
      ∧ s.pipe.aborted = false
      ∧ line < s.canvasH
      ∧ s.quietFor n = false
      ∧ s.logOnly 64 = true
      ∧ s.logOnly 65 = true := by
  decide +kernel

/-- Clause 1 of LatchEdgeApplies. -/
theorem witness_LatchEdgeApplies_1 :
    let dt : Nat := 5
    let k : Nat := 239
    let ws : List Nat := [1, 2]
    let c : Commit := ⟨9, 1, 0, none, true, .coef [1, 2]⟩
    let s : State := (smallPipe 10000000000 fun p => { p with commits := [⟨9, 1, 0, none, true, .coef [1, 2]⟩] })
    s.watch.core = true
      ∧ s.edge k + 2 ≤ (s.advance dt).ns
      ∧ notYet s.pipe.edge k = true
      ∧ s.cues.slots = []
      ∧ s.twin.mirrored = []
      ∧ s.fixture.ways = []
      ∧ s.pipe.commits = [c]
      ∧ c.fillDone = true
      ∧ c.cueTally = none
      ∧ c.kind = .coef ws
      ∧ c.stamp < s.edge k * 65536 := by
  decide +kernel

/-- Clause 2 of LatchEdgeApplies. -/
theorem witness_LatchEdgeApplies_2 :
    let dt : Nat := 5
    let k : Nat := 239
    let w : Nat := 7
    let c : Commit := ⟨9, 1, 0, none, true, .calCtrl 7⟩
    let s : State := (smallPipe 10000000000 fun p => { p with commits := [⟨9, 1, 0, none, true, .calCtrl 7⟩] })
    s.watch.core = true
      ∧ s.edge k + 2 ≤ (s.advance dt).ns
      ∧ notYet s.pipe.edge k = true
      ∧ s.cues.slots = []
      ∧ s.twin.mirrored = []
      ∧ s.fixture.ways = []
      ∧ s.pipe.commits = [c]
      ∧ c.fillDone = true
      ∧ c.cueTally = none
      ∧ c.kind = .calCtrl w
      ∧ c.stamp < s.edge k * 65536 := by
  decide +kernel

/-- Clause 3 of LatchEdgeApplies. -/
theorem witness_LatchEdgeApplies_3 :
    let dt : Nat := 5
    let k : Nat := 239
    let c : Commit := ⟨10000000000 * 65536, 1, 0, none, true, .calCtrl 7⟩
    let s : State := (smallPipe 10000000000 fun p => { p with commits := [⟨10000000000 * 65536, 1, 0, none, true, .calCtrl 7⟩] })
    s.watch.core = true
      ∧ s.edge k + 2 ≤ (s.advance dt).ns
      ∧ notYet s.pipe.edge k = true
      ∧ s.cues.slots = []
      ∧ s.twin.mirrored = []
      ∧ s.fixture.ways = []
      ∧ s.pipe.commits = [c]
      ∧ c.fillDone = true
      ∧ c.cueTally = none
      ∧ s.edge k * 65536 ≤ c.stamp := by
  decide +kernel

/-- Clause 1 of PresentationInstant. -/
theorem witness_PresentationInstant_1 :
    let dt : Nat := 5
    let n : Nat := 239
    let s : State := ({ smallPipe 10000000000 id with time := { (small 10000000000).time with adjNext := some 5 } })
    s.watch.core = true
      ∧ s.tp n ≤ (s.advance dt).ns
      ∧ notYet s.pipe.presented n = true
      ∧ s.pipe.latched = []
      ∧ s.skipped n = false := by
  decide +kernel

/-- Clauses 2, 3 of CompositorCommits. -/
theorem witness_CompositorCommits_1 :
    let l : Fin 64 := 63
    let s : State := (liveSlot 63)
    s.watch.core = true
      ∧ s.asker = none
      ∧ (s.ownerOf 1 l).isSome = true
      ∧ coefBad (s.rdWords (Reg.COMP_COEF 0) 768) = none := by
  decide +kernel

/-- Clause 1 of CompositorCommits. -/
theorem witness_CompositorCommits_2 :
    let l : Fin 64 := 63
    let p : Layer := (layerOf {} ((liveSlot 63).rdWords (Reg.COMP_LAYER_SRC 63) 8))
    let s : State := (liveSlot 63)
    s.watch.core = true
      ∧ s.asker = none
      ∧ p = layerOf {} (s.rdWords (Reg.COMP_LAYER_SRC l) 8)
      ∧ (s.ownerOf 1 l).isSome = true
      ∧ layerOk p = true
      ∧ s.layerSrcOk p = true
      ∧ lMaskEn p = false := by
  decide +kernel

/-- Clause 4 of CompositorCommits. -/
theorem witness_CompositorCommits_3 :
    let n : Nat := 0
    let m : Nat := 0
    let s : State := ((liveSlot 63).wn (Reg.COMP_COEF 0) 1)
    s.watch.core = true
      ∧ s.asker = none
      ∧ coefBad (s.rdWords (Reg.COMP_COEF 0) 768) = some (n, m)
      ∧ n < 4
      ∧ m < 64 := by
  decide +kernel

/-- Clause 5 of CompositorCommits. -/
theorem witness_CompositorCommits_4 :
    let l : Fin 64 := 63
    let p : Layer := ({} : Layer)
    let c : Commit := ⟨9, 1, 0, none, false, .layer 63 {} true⟩
    let s : State := (smallPipe 10000000000 fun p => { p with commits := [⟨9, 1, 0, none, false, .layer 63 {} true⟩] })
    s.watch.core = true
      ∧ s.asker = none
      ∧ s.pipe.commits = [c]
      ∧ c.kind = .layer l p true
      ∧ c.fillDone = false := by
  decide +kernel

/-- Clause 1 of ItemDispatch. -/
theorem witness_ItemDispatch_1 :
    let q : Nat := 7
    let m : Fin 5 := 4
    let f : List Byte := [1]
    let fs : List (List Byte) := [[2]]
    let s : State := ({ small 0 with macs := [(4, { ({} : MacState) with rxq := [(7, [[1], [2]])] })] })
    s.watch.core = true
      ∧ 4 ≤ q
      ∧ q ≤ 7
      ∧ (∀ k : Fin 8, q < k → tabGetD (s.mac m).rxq k [] = [])
      ∧ tabGetD (s.mac m).rxq q [] = f :: fs := by
  decide +kernel

/-- Clause 2 of ItemDispatch. -/
theorem witness_ItemDispatch_2 :
    let dt : Nat := 5
    let b : Nat := 3
    let i : Nat := 9
    let s : State := (readyCue 3 9)
    s.watch.core = true
      ∧ (s.advance dt).nextCue (s.handleAt b) = some i
      ∧ (s.cueAt i).state = 2
      ∧ cAction (s.cueAt i) = 0
      ∧ (∀ e ∈ s.pendingCues, s.cueId i ∉ cDeps e.2) := by
  decide +kernel

/-- The ledger's part of the state changed. -/
def withTime (s : State) (f : TimeState → TimeState) : State := { s with time := f s.time }

/-- A waiting timecode cue of label 7, due at 00:00:10:05. -/
def tcCue : Cue := { words := [3, 0x09000001, 0x00001005, 0, 7, 0, 0, 0, 0, 0, 0, 0, 0, 0, 0, 0], gen := 1, counter := 1 }

/-- Clause 1 of ServoMeasuresAndLoses. -/
theorem witness_ServoMeasuresAndLoses_1 :
    let c : Nat := 1
    let s : State := State.reset
    s.watch.core = true
      ∧ s.logOnly 33 = true
      ∧ s.logOnly 32 = true
      ∧ c < 6 ∨ s.time.armed = true ∨ s.slk.timeLinks = [] := by
  decide +kernel

/-- Clause 6 of ServoMeasuresAndLoses. -/
theorem witness_ServoMeasuresAndLoses_2 :
    let c : Nat := 7
    let s : State := (withTime State.reset fun x => { x with counts := [(7, 5)] })
    s.watch.core = true
      ∧ s.logOnly 33 = true
      ∧ s.logOnly 32 = true
      ∧ 6 ≤ c
      ∧ c ≤ 8
      ∧ s.groupLocked (c - 6) = false := by
  decide +kernel

/-- Clause 2 of ServoMeasuresAndLoses. -/
theorem witness_ServoMeasuresAndLoses_3 :
    let c : Nat := 1
    let s : State := (withTime State.reset fun x => { x with source := 1, led := 10 ^ 9 * ledNs })
    s.watch.core = true
      ∧ s.logOnly 33 = true
      ∧ s.logOnly 32 = true
      ∧ s.time.source = c
      ∧ s.rn Reg.TIME_SRC_RANK = 0
      ∧ s.time.armed = false := by
  decide +kernel

/-- Clause 3 of ServoMeasuresAndLoses. -/
theorem witness_ServoMeasuresAndLoses_4 :
    let c : Nat := 1
    let off : Int := -2001
    let s : State := (withTime State.reset fun x => { x with armed := true, source := 1, overThr := 3 })
    s.watch.core = true
      ∧ s.logOnly 33 = true
      ∧ s.logOnly 32 = true
      ∧ s.time.source = c
      ∧ s.rn Reg.TIME_SRC_RANK = 0
      ∧ s.time.armed = true
      ∧ s.time.stepAt = none
      ∧ s.time.stepPending = false
      ∧ s.time.overThr = 3
      ∧ (s.rn Reg.TIME_JUMP_THR : Int) < off.natAbs := by
  decide +kernel

/-- Clause 4 of ServoMeasuresAndLoses. -/
theorem witness_ServoMeasuresAndLoses_5 :
    let c : Nat := 1
    let off : Int := 2001
    let s : State := (withTime State.reset fun x => { x with armed := true, source := 1, stepPending := true })
    s.watch.core = true
      ∧ s.logOnly 33 = true
      ∧ s.logOnly 32 = true
      ∧ s.time.source = c
      ∧ s.rn Reg.TIME_SRC_RANK = 0
      ∧ s.time.armed = true
      ∧ s.time.stepAt = none
      ∧ s.time.stepPending = true
      ∧ (s.rn Reg.TIME_JUMP_THR : Int) < off.natAbs := by
  decide +kernel

/-- Clause 5 of ServoMeasuresAndLoses. -/
theorem witness_ServoMeasuresAndLoses_6 :
    let c : Nat := 1
    let off : Int := 2000
    let s : State := (withTime State.reset fun x => { x with armed := true, source := 1, stepPending := true })
    s.watch.core = true
      ∧ s.logOnly 33 = true
      ∧ s.logOnly 32 = true
      ∧ s.time.source = c
      ∧ s.rn Reg.TIME_SRC_RANK = 0
      ∧ s.time.armed = true
      ∧ s.time.stepAt = none
      ∧ s.time.stepPending = true
      ∧ (off.natAbs : Int) ≤ s.rn Reg.TIME_JUMP_THR := by
  decide +kernel

/-- Clause 9 of ServoMeasuresAndLoses. -/
theorem witness_ServoMeasuresAndLoses_7 :
    let c : Nat := 7
    let s : State := (withTime State.reset fun x => { x with armed := true, source := 7, servo := .locked })
    s.watch.core = true
      ∧ s.logOnly 33 = true
      ∧ s.logOnly 32 = true
      ∧ 6 ≤ c
      ∧ c ≤ 8
      ∧ s.groupLocked (c - 6) = false
      ∧ s.time.source = c
      ∧ s.rn Reg.TIME_SRC_RANK = 0
      ∧ s.time.servo ≠ .free := by
  decide +kernel

/-- Clause 7 of ServoMeasuresAndLoses. -/
theorem witness_ServoMeasuresAndLoses_8 :
    let dt : Nat := 5
    let c : Nat := 4
    let s : State := ({ (withTime (withRegs [(Reg.TIME_PORT_CTRL 3, 0x02000001)]) fun x => { x with source := 4, counts := [(4, 20)], ports := [(3, { ({} : PtpPort) with role := .slave, lastAnnounce := 0 })] }) with clk := sec 3 })
    s.watch.core = true
      ∧ s.logOnly 33 = true
      ∧ s.logOnly 32 = true
      ∧ 1 ≤ c
      ∧ c ≤ 4
      ∧ (s.ptpPort (c - 1)).role = .slave
      ∧ s.portMode (c - 1) = 1
      ∧ (s.advance dt).announceExpired (c - 1) = true := by
  decide +kernel

/-- Clause 8 of ServoMeasuresAndLoses. -/
theorem witness_ServoMeasuresAndLoses_9 :
    let dt : Nat := 5
    let c : Nat := 4
    let s : State := ({ (withTime (withRegs [(Reg.TIME_PORT_CTRL 3, 0x02000001)]) fun x => { x with source := 4, counts := [(4, 20)], ports := [(3, { ({} : PtpPort) with role := .slave, lastAnnounce := sec 2, lastSync := sec 3 })] }) with clk := sec 3 })
    s.watch.core = true
      ∧ s.logOnly 33 = true
      ∧ s.logOnly 32 = true
      ∧ 1 ≤ c
      ∧ c ≤ 4
      ∧ (s.ptpPort (c - 1)).role = .slave
      ∧ (s.advance dt).announceExpired (c - 1) = false
      ∧ s.clk + dt < (s.ptpPort (c - 1)).lastSync + sec 1 := by
  decide +kernel

/-- Clause 1 of JumpThresholdRange. -/
theorem witness_JumpThresholdRange_1 :
    let v : Word := 100
    let s : State := State.reset
    s.watch.core = true
      ∧ 100 ≤ v.toNat
      ∧ v.toNat ≤ 1000000000 := by
  decide +kernel

/-- Clause 1 of JumpThresholdRange. -/
theorem witness_JumpThresholdRange_2 :
    let v : Word := 1000000000
    let s : State := State.reset
    s.watch.core = true
      ∧ 100 ≤ v.toNat
      ∧ v.toNat ≤ 1000000000 := by
  decide +kernel

/-- Clause 2 of JumpThresholdRange. -/
theorem witness_JumpThresholdRange_3 :
    let v : Word := 99
    let s : State := State.reset
    s.watch.core = true
      ∧ v.toNat < 100 ∨ 1000000000 < v.toNat := by
  decide +kernel

/-- Clause 2 of JumpThresholdRange. -/
theorem witness_JumpThresholdRange_4 :
    let v : Word := 1000000001
    let s : State := State.reset
    s.watch.core = true
      ∧ v.toNat < 100 ∨ 1000000000 < v.toNat := by
  decide +kernel

/-- Clauses 1, 3, 4 of StepAdjudicated. -/
theorem witness_StepAdjudicated_1 :
    let s : State := (withTime State.reset fun x => { x with armed := true, source := 1, stepPending := true, stepDelta := -5, servo := .slew })
    s.watch.core = true
      ∧ s.time.stepPending = true
      ∧ s.time.stepAt = none
      ∧ s.serviceMode = false := by
  decide +kernel

/-- Clauses 2, 5 of StepAdjudicated. -/
theorem witness_StepAdjudicated_2 :
    let s : State := State.reset
    s.watch.core = true
      ∧ s.time.stepPending = false := by
  decide +kernel

/-- Clause 6 of StepAdjudicated. -/
theorem witness_StepAdjudicated_3 :
    let dt : Nat := 5
    let n : Nat := 23
    let s : State := (withTime State.reset fun x => { x with armed := true, source := 1, stepPending := true, stepAt := some 23, stepDelta := -5, led := 960000000 * ledNs })
    s.watch.core = true
      ∧ s.time.stepAt = some n
      ∧ s.tp n ≤ (s.advance dt).ns
      ∧ s.cues.slots = [] := by
  decide +kernel

/-- Clause 1 of PtpPorts. -/
theorem witness_PtpPorts_1 :
    let p : Fin 8 := 3
    let v : Word := 0x02F0F7F1
    let s : State := State.reset
    s.watch.core = true
      ∧ portCtrlOk p v.toNat = true
      ∧ (s.ptpPort p).role ≠ .slave
      ∧ s.portMode p ≠ 5 := by
  decide +kernel

/-- Clause 1 of PtpPorts. -/
theorem witness_PtpPorts_2 :
    let p : Fin 8 := 3
    let v : Word := 0x02F0F7F3
    let s : State := State.reset
    s.watch.core = true
      ∧ portCtrlOk p v.toNat = true
      ∧ (s.ptpPort p).role ≠ .slave
      ∧ s.portMode p ≠ 5 := by
  decide +kernel

/-- Clause 3 of PtpPorts. -/
theorem witness_PtpPorts_3 :
    let p : Fin 8 := 3
    let v : Word := 7
    let s : State := State.reset
    s.watch.core = true
      ∧ portCtrlOk p v.toNat = false := by
  decide +kernel

/-- Clause 4 of PtpPorts. -/
theorem witness_PtpPorts_4 :
    let dom : Nat := 17
    let p : Fin 8 := 3
    let s : State := State.reset
    s.watch.core = true
      ∧ s.ptpDomain p ≠ dom := by
  decide +kernel

/-- Clause 2 of PtpPorts. -/
theorem witness_PtpPorts_5 :
    let p : Fin 8 := 3
    let v : Word := 0x02F0F7F3
    let s : State := (withTime (withRegs [(Reg.TIME_PORT_CTRL 3, 33554705)]) fun x => { x with led := 10 ^ 9 * ledNs, ports := [(3, { ({} : PtpPort) with role := .slave })] })
    s.watch.core = true
      ∧ portCtrlOk p v.toNat = true
      ∧ (s.ptpPort p).role = .slave
      ∧ s.portMode p = 1
      ∧ bits v.toNat 2 0 = 3
      ∧ s.logOnly 32 = true := by
  decide +kernel

/-- Clause 5 of PtpPorts. -/
theorem witness_PtpPorts_6 :
    let dom : Nat := 17
    let p : Fin 8 := 3
    let s : State := (withTime (withRegs [(Reg.TIME_PORT_CTRL 3, 33554705)]) fun x => { x with led := 10 ^ 9 * ledNs })
    s.watch.core = true
      ∧ s.ptpDomain p = dom
      ∧ s.portMode p = 1
      ∧ (s.ptpPort p).best = none := by
  decide +kernel

/-- Clause 6 of PtpPorts. -/
theorem witness_PtpPorts_7 :
    let dom : Nat := 17
    let sn : Nat := 8
    let p : Fin 8 := 3
    let old : PtpDataset := ⟨1,2,3,4,5,6,7,8⟩
    let s : State := (withTime (withRegs [(Reg.TIME_PORT_CTRL 3, 33554705)]) fun x => { x with led := 10 ^ 9 * ledNs, ports := [(3, { ({} : PtpPort) with best := some ⟨1,2,3,4,5,6,7,8⟩, announces := 1 })] })
    s.watch.core = true
      ∧ s.ptpDomain p = dom
      ∧ s.portMode p = 1
      ∧ (s.ptpPort p).best = some old
      ∧ old.sender = sn
      ∧ (s.ptpPort p).announces = 1 := by
  decide +kernel

/-- Clause 7 of PtpPorts. -/
theorem witness_PtpPorts_8 :
    let dom : Nat := 17
    let p : Fin 8 := 3
    let s : State := ({ (withTime (withRegs [(Reg.LANE_CFG 5, 0xC1), (Reg.TIME_PORT_CTRL 3, 33554707)]) fun x => { x with led := 10 ^ 9 * ledNs, ports := [(3, { ({} : PtpPort) with role := .master })] }) with macs := [(3, { ({} : MacState) with sending := some ("X", []) })] })
    s.watch.core = true
      ∧ s.ptpDomain p = dom
      ∧ s.portMode p = 3
      ∧ (s.ptpPort p).role = .master
      ∧ s.macDisabled p = false
      ∧ (s.mac p).sending.isSome = true
      ∧ (tabGetD (s.mac p).txq 7 []).length < 64 := by
  decide +kernel

/-- Clause 8 of PtpPorts. -/
theorem witness_PtpPorts_9 :
    let dom : Nat := 17
    let sn : Nat := 8
    let p : Fin 8 := 3
    let ds : PtpDataset := ⟨1,2,3,4,5,6,7,8⟩
    let s : State := (withTime (withRegs [(Reg.TIME_PORT_CTRL 3, 33554705)]) fun x => { x with led := 10 ^ 9 * ledNs, ports := [(3, { ({} : PtpPort) with best := some ⟨1,2,3,4,5,6,7,8⟩ })] })
    s.watch.core = true
      ∧ s.ptpDomain p = dom
      ∧ s.portMode p = 1
      ∧ (s.ptpPort p).best = some ds
      ∧ ds.sender = sn := by
  decide +kernel

/-- Clause 9 of PtpPorts. -/
theorem witness_PtpPorts_10 :
    let seqId : Nat := 7
    let dom : Nat := 17
    let sn : Nat := 8
    let p : Fin 8 := 3
    let ds : PtpDataset := ⟨1,2,3,4,5,6,7,8⟩
    let t1 : Int := 10
    let t3 : Int := 20
    let s : State := (withTime (withRegs [(Reg.TIME_PORT_CTRL 3, 33554705)]) fun x => { x with led := 10 ^ 9 * ledNs, ports := [(3, { ({} : PtpPort) with best := some ⟨1,2,3,4,5,6,7,8⟩, reqStamp := some 20, reqSeq := 7, syncOrigin := some 10, syncStamp := 44 })] })
    s.watch.core = true
      ∧ s.ptpDomain p = dom
      ∧ s.portMode p = 1
      ∧ (s.ptpPort p).best = some ds
      ∧ ds.sender = sn
      ∧ (s.ptpPort p).reqStamp = some t3
      ∧ (s.ptpPort p).reqSeq = seqId
      ∧ (s.ptpPort p).syncOrigin = some t1 := by
  decide +kernel

/-- Clause 10 of PtpPorts. -/
theorem witness_PtpPorts_11 :
    let dt : Nat := 5
    let p : Fin 8 := 3
    let s : State := ({ (withTime (withRegs [(Reg.LANE_CFG 5, 0xC1), (Reg.TIME_PORT_CTRL 3, 33554705)]) fun x => { x with led := 10 ^ 9 * ledNs, ports := [(3, { ({} : PtpPort) with role := .slave })] }) with macs := [(3, { ({} : MacState) with sending := none })] })
    s.watch.core = true
      ∧ s.portMode p = 1
      ∧ (s.ptpPort p).role = .slave
      ∧ (s.ptpPort p).reqTx = none
      ∧ s.macDisabled p = false
      ∧ (s.mac p).sending = none
      ∧ (∀ q : Fin 8, tabGetD (s.mac p).txq q [] = [])
      ∧ (s.advance dt).paused p 7 = false
      ∧ bit (s.rn (Reg.MAC_CFG p)) 6 = false := by
  decide +kernel

/-- Clause 11 of PtpPorts. -/
theorem witness_PtpPorts_12 :
    let dt : Nat := 5
    let p : Fin 8 := 3
    let s : State := ({ (withTime (withRegs [(Reg.LANE_CFG 5, 0xC1), (Reg.TIME_PORT_CTRL 3, 33554707)]) fun x => { x with led := 10 ^ 9 * ledNs, ports := [(3, { ({} : PtpPort) with role := .master })] }) with macs := [(3, { ({} : MacState) with sending := none })] })
    s.watch.core = true
      ∧ s.portMode p = 3
      ∧ (s.ptpPort p).role = .master
      ∧ (s.ptpPort p).syncTx = none
      ∧ s.macDisabled p = false
      ∧ (s.mac p).sending = none
      ∧ (∀ q : Fin 8, tabGetD (s.mac p).txq q [] = [])
      ∧ (s.advance dt).paused p 7 = false
      ∧ bit (s.rn (Reg.MAC_CFG p)) 6 = false := by
  decide +kernel

/-- Clause 12 of PtpPorts. -/
theorem witness_PtpPorts_13 :
    let p : Fin 8 := 3
    let s : State := (withTime (withRegs [(Reg.TIME_PORT_CTRL 3, 33554708)]) fun x => { x with rxq := [(3, { entries := List.replicate 63 ⟨1, 2, 0, false, 3, 4, 5⟩, lostRun := 2 })] })
    s.watch.core = true
      ∧ s.portMode p = 4
      ∧ (tabGetD s.time.rxq p {}).entries.length < 64 := by
  decide +kernel

/-- Clause 13 of PtpPorts. -/
theorem witness_PtpPorts_14 :
    let p : Fin 8 := 3
    let s : State := (withTime (withRegs [(Reg.TIME_PORT_CTRL 3, 33554708)]) fun x => { x with rxq := [(3, { entries := List.replicate 64 ⟨1, 2, 0, false, 3, 4, 5⟩, lostRun := 2 })] })
    s.watch.core = true
      ∧ s.portMode p = 4
      ∧ (tabGetD s.time.rxq p {}).entries.length = 64 := by
  decide +kernel

/-- Clause 14 of PtpPorts. -/
theorem witness_PtpPorts_15 :
    let p : Fin 8 := 3
    let s : State := (withTime (withRegs [(Reg.TIME_PORT_CTRL 3, 33554708)]) fun x => { x with rxq := [(3, { entries := List.replicate 64 ⟨1, 2, 0, false, 3, 4, 5⟩, lostRun := 2 })] })
    s.watch.core = true
      ∧ s.portMode p = 4 := by
  decide +kernel

/-- Clauses 1, 3 of TimingPins. -/
theorem witness_TimingPins_1 :
    let k : Fin 8 := 7
    let s : State := (withTime (withRegs [(Reg.TIME_TPIN_CTRL 7, 3)]) fun x => { x with led := 10 ^ 9 * ledNs, pins := [(7, { ({} : Tpin) with caps := List.replicate 15 ⟨1, 0, false⟩, lostRun := 3 })] })
    s.watch.core = true
      ∧ s.fld (Reg.TIME_TPIN_CTRL k) 2 0 = 3
      ∧ (s.tpin k).lastEdge = none
      ∧ (s.tpin k).caps.length < 16 := by
  decide +kernel

/-- Clause 2 of TimingPins. -/
theorem witness_TimingPins_2 :
    let k : Fin 8 := 7
    let s : State := (withTime (withRegs [(Reg.TIME_TPIN_CTRL 7, 3)]) fun x => { x with led := 10 ^ 9 * ledNs, pins := [(7, { ({} : Tpin) with caps := List.replicate 16 ⟨1, 0, false⟩ })] })
    s.watch.core = true
      ∧ s.fld (Reg.TIME_TPIN_CTRL k) 2 0 = 3
      ∧ (s.tpin k).lastEdge = none
      ∧ (s.tpin k).caps.length = 16 := by
  decide +kernel

/-- Clause 4 of TimingPins. -/
theorem witness_TimingPins_3 :
    let dt : Nat := 5
    let req : Requester := .pier
    let k : Fin 8 := 7
    let v : Word := 1
    let s : State := (withTime (withRegs [(Reg.TIME_TPIN_CTRL 7, 4), (Reg.TIME_TPIN_AT 7, 9)]) fun x => { x with led := 10 ^ 9 * ledNs })
    s.watch.core = true
      ∧ s.fld (Reg.TIME_TPIN_CTRL k) 2 0 = 4
      ∧ takeKey s.pairLow req (Reg.TIME_TPIN_AT k) = none
      ∧ (s.tpin k).armed = none
      ∧ ledgerOk (s.rn (Reg.TIME_TPIN_AT k) + 2 ^ 32 * v.toNat) = true
      ∧ (s.advance dt).ns ≤ ofLedger (s.rn (Reg.TIME_TPIN_AT k) + 2 ^ 32 * v.toNat) := by
  decide +kernel

/-- Clause 5 of TimingPins. -/
theorem witness_TimingPins_4 :
    let dt : Nat := 5
    let req : Requester := .pier
    let k : Fin 8 := 7
    let v : Word := 0
    let s : State := (withTime (withRegs [(Reg.TIME_TPIN_CTRL 7, 4), (Reg.TIME_TPIN_AT 7, 9)]) fun x => { x with led := 10 ^ 9 * ledNs })
    s.watch.core = true
      ∧ s.fld (Reg.TIME_TPIN_CTRL k) 2 0 = 4
      ∧ takeKey s.pairLow req (Reg.TIME_TPIN_AT k) = none
      ∧ ledgerOk (s.rn (Reg.TIME_TPIN_AT k) + 2 ^ 32 * v.toNat) = true
      ∧ ofLedger (s.rn (Reg.TIME_TPIN_AT k) + 2 ^ 32 * v.toNat) < (s.advance dt).ns := by
  decide +kernel

/-- Clause 6 of TimingPins. -/
theorem witness_TimingPins_5 :
    let v : Word := 14
    let s : State := State.reset
    s.watch.core = true
      ∧ bits v.toNat 2 0 ≠ 7 := by
  decide +kernel

/-- Clause 7 of TimingPins. -/
theorem witness_TimingPins_6 :
    let v : Word := 15
    let s : State := State.reset
    s.watch.core = true
      ∧ bits v.toNat 2 0 = 7 := by
  decide +kernel

/-- Clause 8 of TimingPins. -/
theorem witness_TimingPins_7 :
    let v : Word := 20
    let s : State := State.reset
    s.watch.core = true
      ∧ 20 ≤ v.toNat
      ∧ v.toNat ≤ 500000000 := by
  decide +kernel

/-- Clause 8 of TimingPins. -/
theorem witness_TimingPins_8 :
    let v : Word := 500000000
    let s : State := State.reset
    s.watch.core = true
      ∧ 20 ≤ v.toNat
      ∧ v.toNat ≤ 500000000 := by
  decide +kernel

/-- Clause 9 of TimingPins. -/
theorem witness_TimingPins_9 :
    let v : Word := 1000
    let s : State := State.reset
    s.watch.core = true
      ∧ 1000 ≤ v.toNat
      ∧ v.toNat ≤ 1000000000 := by
  decide +kernel

/-- Clause 9 of TimingPins. -/
theorem witness_TimingPins_10 :
    let v : Word := 1000000000
    let s : State := State.reset
    s.watch.core = true
      ∧ 1000 ≤ v.toNat
      ∧ v.toNat ≤ 1000000000 := by
  decide +kernel

/-- Clause 10 of TimingPins. -/
theorem witness_TimingPins_11 :
    let v : Word := 19
    let s : State := State.reset
    s.watch.core = true
      ∧ v.toNat < 20 ∨ 1000000000 < v.toNat := by
  decide +kernel

/-- Clause 10 of TimingPins. -/
theorem witness_TimingPins_12 :
    let v : Word := 1000000001
    let s : State := State.reset
    s.watch.core = true
      ∧ v.toNat < 20 ∨ 1000000000 < v.toNat := by
  decide +kernel

/-- Clause 11 of TimingPins. -/
theorem witness_TimingPins_13 :
    let dt : Nat := 5
    let a : Nat := 1000000000
    let k : Fin 8 := 7
    let s : State := (withTime (withRegs [(Reg.TIME_TPIN_CTRL 7, 13), (Reg.TIME_TPIN_PERIOD 7, 4000)]) fun x => { x with led := 10 ^ 9 * ledNs, pins := [(7, { ({} : Tpin) with armed := some 1000000000 })] })
    s.watch.core = true
      ∧ s.fld (Reg.TIME_TPIN_CTRL k) 2 0 = 5
      ∧ (s.tpin k).armed = some a
      ∧ (s.tpin k).next = none
      ∧ (s.tpin k).until_ = none
      ∧ a ≤ (s.advance dt).ns := by
  decide +kernel

/-- Clause 12 of TimingPins. -/
theorem witness_TimingPins_14 :
    let dt : Nat := 5
    let a : Nat := 1000000000
    let k : Fin 8 := 7
    let s : State := (withTime (withRegs [(Reg.TIME_TPIN_CTRL 7, 13)]) fun x => { x with led := 10 ^ 9 * ledNs, pins := [(7, { ({} : Tpin) with until_ := some 1000000000 })] })
    s.watch.core = true
      ∧ (s.tpin k).armed = none
      ∧ (s.tpin k).until_ = some a
      ∧ a ≤ (s.advance dt).ns := by
  decide +kernel

/-- Clauses 1, 3 of TimecodeWordClockAndSnapshots. -/
theorem witness_TimecodeWordClockAndSnapshots_1 :
    let s : State := State.reset
    s.watch.core = true
      ∧ s.logOnly 34 = true
      ∧ s.logOnly 35 = true
      ∧ s.cues.slots = []
      ∧ s.fixture.ways = [] := by
  decide +kernel

/-- Clause 2 of TimecodeWordClockAndSnapshots. -/
theorem witness_TimecodeWordClockAndSnapshots_2 :
    let s : State := (withRegs [(Reg.TIME_LTC_STAT, 3)])
    s.watch.core = true
      ∧ s.logOnly 34 = true
      ∧ s.logOnly 35 = true
      ∧ bit (s.rn Reg.TIME_LTC_STAT) 0 = true := by
  decide +kernel

/-- Clause 4 of TimecodeWordClockAndSnapshots. -/
theorem witness_TimecodeWordClockAndSnapshots_3 :
    let dt : Nat := 5
    let id : Nat := 3
    let at64 : Nat := toLedger 2000020
    let s : State := State.reset
    s.watch.core = true
      ∧ s.logOnly 34 = true
      ∧ s.logOnly 35 = true
      ∧ id ≠ 0
      ∧ ledgerOk at64 = true
      ∧ (s.advance dt).ns + 2000000 ≤ ofLedger at64
      ∧ s.time.snaps.length < 4 := by
  decide +kernel

/-- Clause 5 of TimecodeWordClockAndSnapshots. -/
theorem witness_TimecodeWordClockAndSnapshots_4 :
    let dt : Nat := 5
    let id : Nat := 0
    let at64 : Nat := 0
    let s : State := State.reset
    s.watch.core = true
      ∧ s.logOnly 34 = true
      ∧ s.logOnly 35 = true
      ∧ id = 0 ∨ (s.advance dt).ns + 2000000 > ofLedger at64 ∨ 4 ≤ s.time.snaps.length := by
  decide +kernel

/-- Clause 6 of TimecodeWordClockAndSnapshots. -/
theorem witness_TimecodeWordClockAndSnapshots_5 :
    let dt : Nat := 5
    let a : SnapArm := ⟨3, 5, true, false⟩
    let s : State := (withTime (withRegs [(Reg.SYS_ACC_ERR, 5)]) fun x => { x with snaps := [⟨3, 5, true, false⟩] })
    s.watch.core = true
      ∧ s.logOnly 34 = true
      ∧ s.logOnly 35 = true
      ∧ s.time.snaps = [a]
      ∧ a.atNs ≤ (s.advance dt).ns := by
  decide +kernel

/-- Clause 7 of TimecodeWordClockAndSnapshots. -/
theorem witness_TimecodeWordClockAndSnapshots_6 :
    let s : State := State.reset
    s.watch.core = true
      ∧ s.logOnly 34 = true
      ∧ s.logOnly 35 = true
      ∧ s.role ≠ 2 := by
  decide +kernel

/-- Clause 8 of TimecodeWordClockAndSnapshots. -/
theorem witness_TimecodeWordClockAndSnapshots_7 :
    let lb : Nat := 7
    let code : Nat := 0x00001005
    let i : Nat := 9
    let c : Cue := tcCue
    let s : State := ({ withRegs [(Reg.TWIN_STAT, 2)] with cues := { State.reset.cues with slots := [(9, tcCue)] } })
    s.watch.core = true
      ∧ s.logOnly 34 = true
      ∧ s.logOnly 35 = true
      ∧ s.role = 2
      ∧ s.cues.slots = [(i, c)]
      ∧ c.state = 1
      ∧ cKind c = 3
      ∧ cLabel c = lb
      ∧ cWord c 2 = code
      ∧ c.fixed = false
      ∧ c.counter ≠ 0 := by
  decide +kernel

/-- Reset with one receiver taken by a berth. -/
def withRcv (i : Nat) (r : Receiver) : State :=
  { State.reset with pipe := { State.reset.pipe with receivers := [(i, { r with berth := some 3, state := 2 })] } }

/-- A receiver of 16 by 16 pixels RGB with its frame of media time 0 under way. -/
def busyRcv : Receiver :=
  { cfg := { ({} : SrcCfg) with cfg := 0x00A00880, size := 0x00100010, p0Port := 0x00040000 }
    bufs := [{ held := true, addr := 0x19000000, cfg := { ({} : SrcCfg) with cfg := 0x00A00880, size := 0x00100010, p0Port := 0x00040000 } }]
    path0 := { up := true } }

/-- A state whose one tile stands at entry 3, position 4 of lane 2. -/
def oneTile (e : TileEntry) : State :=
  { withRegs [(Reg.LANE_CFG 2, 5)] with scan := { State.reset.scan with
      entries := [(3, { e with state := 1, lane := 2, pos := 4, ident := 9, epoch := 7, width := 2, height := 1 })]
      found := [(130, ⟨9, 7, 4, some 3, 2, 1, 0, [], 0, 4, 4⟩)] } }

/-- Its status. -/
def quietStatus : TileStatus := ⟨0, 0, 0, 0, 0, true, true, 0, 0, true, false, false, false, false, false, false, false, 1, 0, 0, 3, 3⟩

def withPipe (s : State) (f : PipeState → PipeState) : State := { s with pipe := f s.pipe }

/-- Clause 1 of SourcePackets. -/
theorem witness_SourcePackets_1 :
    let i : Fin 32 := 31
    let s : State := State.reset
    s.watch.core = true
      ∧ (∀ d ∈ [48, 49, 50, 51, 52, 53, 128, 129, 133, 145], s.logOnly d = true)
      ∧ (s.rcv i).berth = none := by
  decide +kernel

/-- Clause 2 of SourcePackets. -/
theorem witness_SourcePackets_2 :
    let dt : Nat := 5
    let m : Nat := 0
    let i : Fin 32 := 31
    let p : Fin 2 := 0
    let k : RtpPacket := ⟨1, 0, 96, [⟨3, 4, 6, false⟩], [1#8, 2#8, 3#8, 4#8, 5#8, 6#8]⟩
    let b : FrameBuf := (busyRcv.bufs.headD {} : FrameBuf)
    let s : State := (withRcv 31 busyRcv)
    s.watch.core = true
      ∧ (∀ d ∈ [48, 49, 50, 51, 52, 53, 128, 129, 133, 145], s.logOnly d = true)
      ∧ (s.rcv i).berth.isSome = true
      ∧ m = mediaOf (s.advance dt).ns k.rtp
      ∧ bufOf (s.rcv i) m = some b
      ∧ cfgType b.cfg = 0
      ∧ pathOn b.cfg p = true
      ∧ bits (if p.val = 0 then b.cfg.p0Port else b.cfg.p1Port) 25 19 = 0
      ∧ rtpOctets k ≤ 9000
      ∧ s.inReset (.receiver i) = false
      ∧ bit b.cfg.cfg 15 = false
      ∧ (s.rcv i).discard.contains m = false
      ∧ b.whole = false
      ∧ k.srds.all (srdOk b.cfg) = true
      ∧ k.srds.length ≤ 3
      ∧ ((srdPixels b.cfg k.srds k.payload).foldl (fun x e => tabSet x e.1 e.2) b.samples).length ≠ cfgW b.cfg * cfgH b.cfg := by
  decide +kernel

/-- Clause 3 of SourcePackets. -/
theorem witness_SourcePackets_3 :
    let dt : Nat := 5
    let m : Nat := 0
    let i : Fin 32 := 31
    let p : Fin 2 := 0
    let k : RtpPacket := ⟨1, 0, 96, [⟨3, 4, 6, false⟩, ⟨3, 4, 6, false⟩, ⟨3, 4, 6, false⟩, ⟨3, 4, 6, false⟩], []⟩
    let s : State := (withRcv 31 busyRcv)
    s.watch.core = true
      ∧ (∀ d ∈ [48, 49, 50, 51, 52, 53, 128, 129, 133, 145], s.logOnly d = true)
      ∧ (s.rcv i).berth.isSome = true
      ∧ m = mediaOf (s.advance dt).ns k.rtp
      ∧ cfgType ((s.rcv i).cfgFor m) = 0
      ∧ pathOn ((s.rcv i).cfgFor m) p = true
      ∧ bits (if p.val = 0 then ((s.rcv i).cfgFor m).p0Port else ((s.rcv i).cfgFor m).p1Port) 25 19 = 0
      ∧ rtpOctets k ≤ 9000
      ∧ s.inReset (.receiver i) = false
      ∧ bit ((s.rcv i).cfgFor m).cfg 15 = false
      ∧ (s.rcv i).discard.contains m = false
      ∧ 3 < k.srds.length := by
  decide +kernel

/-- Clause 4 of SourcePackets. -/
theorem witness_SourcePackets_4 :
    let dt : Nat := 5
    let i : Fin 32 := 31
    let s : State := ({ withRcv 31 busyRcv with clk := 80000000 })
    s.watch.core = true
      ∧ (∀ d ∈ [48, 49, 50, 51, 52, 53, 128, 129, 133, 145], s.logOnly d = true)
      ∧ (s.rcv i).berth.isSome = true
      ∧ cfgType (s.rcv i).cfg ≤ 1
      ∧ pathOn (s.rcv i).cfg 0 = true
      ∧ pathQuiet (s.advance dt) (s.rcv i) 0 = true
      ∧ pathOn (s.rcv i).cfg 1 = false ∨ pathQuiet (s.advance dt) (s.rcv i) 1 = true := by
  decide +kernel

/-- Clause 5 of SourcePackets. -/
theorem witness_SourcePackets_5 :
    let dt : Nat := 5
    let i : Fin 32 := 31
    let s : State := ({ withRcv 31 { busyRcv with cfg := { busyRcv.cfg with p1Port := 0x00040000 }, path1 := { lastSeen := 80000000, up := true } } with clk := 80000000 })
    s.watch.core = true
      ∧ (∀ d ∈ [48, 49, 50, 51, 52, 53, 128, 129, 133, 145], s.logOnly d = true)
      ∧ (s.rcv i).berth.isSome = true
      ∧ cfgType (s.rcv i).cfg ≤ 1
      ∧ pathOn (s.rcv i).cfg 0 = true
      ∧ pathQuiet (s.advance dt) (s.rcv i) 0 = true
      ∧ pathOn (s.rcv i).cfg 1 = true
      ∧ pathQuiet (s.advance dt) (s.rcv i) 1 = false := by
  decide +kernel

/-- Clause 6 of SourcePackets. -/
theorem witness_SourcePackets_6 :
    let hops : Nat := 3
    let q : StreamPacket := ⟨0, 77, 5, 0, 2, 2, 0, 0, 0, [[1, 2, 3]]⟩
    let crc : Word := 0
    let s : State := State.reset
    s.watch.core = true
      ∧ (∀ d ∈ [48, 49, 50, 51, 52, 53, 128, 129, 133, 145], s.logOnly d = true)
      ∧ packetGood (withCheck (streamPacket hops q) crc) = false := by
  decide +kernel

/-- Clause 7 of SourcePackets. -/
theorem witness_SourcePackets_7 :
    let hops : Nat := 3
    let i : Fin 32 := 31
    let q : StreamPacket := ⟨0, 77, 5, 0, 2, 2, 0, 0, 0, [[1, 2, 3]]⟩
    let crc : Word := (packetCheck (streamPacket 3 ⟨0, 77, 5, 0, 2, 2, 0, 0, 0, [[1, 2, 3]]⟩))
    let s : State := ((withRcv 31 { cfg := { ({} : SrcCfg) with cfg := 0x00A00081, p0Addr := 77, p0Port := 5 } }).wn Reg.SLK_NODE_ID 12)
    s.watch.core = true
      ∧ (∀ d ∈ [48, 49, 50, 51, 52, 53, 128, 129, 133, 145], s.logOnly d = true)
      ∧ packetGood (withCheck (streamPacket hops q) crc) = true
      ∧ slkHeaderOk false (withCheck (streamPacket hops q) crc) = true
      ∧ fieldsOk (withCheck (streamPacket hops q) crc) = true
      ∧ q.origin ≠ s.nodeId
      ∧ s.takesStream i q = true := by
  decide +kernel

/-- Clause 1 of SourceRegisters. -/
theorem witness_SourceRegisters_1 :
    let i : Fin 32 := 31
    let s : State := (withRcv 31 { cfg := { ({} : SrcCfg) with cfg := 0x00A00082 } })
    s.watch.core = true
      ∧ s.asker = none
      ∧ cfgType (s.rcv i).cfg = 2
      ∧ cfgDepth (s.rcv i).cfg = 2 := by
  decide +kernel

/-- Clause 2 of SourceRegisters. -/
theorem witness_SourceRegisters_2 :
    let i : Fin 32 := 31
    let s : State := (withRcv 31 { cfg := { ({} : SrcCfg) with cfg := 0x00A00042 } })
    s.watch.core = true
      ∧ s.asker = none
      ∧ cfgType (s.rcv i).cfg = 2
      ∧ cfgDepth (s.rcv i).cfg = 1 := by
  decide +kernel

/-- Clauses 3, 5 of SourceRegisters. -/
theorem witness_SourceRegisters_3 :
    let req : Requester := .pier
    let i : Fin 32 := 31
    let v : Word := 7
    let s : State := State.reset
    s.watch.core = true
      ∧ s.asker = none
      ∧ takeKey s.pairLow req (Reg.ING_SRC_START i) = none
      ∧ ledgerOk (s.rn (Reg.ING_SRC_START i) + 2 ^ 32 * v.toNat) = true
      ∧ (s.rcv i).state = 0 := by
  decide +kernel

/-- Clause 4 of SourceRegisters. -/
theorem witness_SourceRegisters_4 :
    let req : Requester := .pier
    let i : Fin 32 := 31
    let v : Word := 0
    let s : State := (withRegs [(Reg.ING_SRC_START 31, 0x3FFFFFFF)])
    s.watch.core = true
      ∧ s.asker = none
      ∧ takeKey s.pairLow req (Reg.ING_SRC_START i) = none
      ∧ ledgerOk (s.rn (Reg.ING_SRC_START i) + 2 ^ 32 * v.toNat) = false := by
  decide +kernel

/-- Clause 6 of SourceRegisters. -/
theorem witness_SourceRegisters_5 :
    let i : Fin 32 := 31
    let s : State := (withRcv 31 busyRcv)
    s.watch.core = true
      ∧ s.asker = none
      ∧ (s.rcv i).state ≠ 0 := by
  decide +kernel

/-- Clauses 1, 2, 4, 5 of CalibrationCommits. -/
theorem witness_CalibrationCommits_1 :
    let v : Word := 4096
    let s : State := State.reset
    s.watch.core = true
      ∧ s.asker = none
      ∧ bit (s.rn Reg.CAL_BIN_STAT) 0 = false
      ∧ (s.bin (bits v.toNat 7 0)).length = 64
      ∧ v.toNat ≤ 4096 := by
  decide +kernel

/-- Clause 3 of CalibrationCommits. -/
theorem witness_CalibrationCommits_2 :
    let s : State := (withRegs [(Reg.CAL_BIN_STAT, 1)])
    s.watch.core = true
      ∧ s.asker = none
      ∧ bit (s.rn Reg.CAL_BIN_STAT) 0 = true := by
  decide +kernel

/-- Clause 6 of CalibrationCommits. -/
theorem witness_CalibrationCommits_3 :
    let v : Word := 4097
    let s : State := State.reset
    s.watch.core = true
      ∧ s.asker = none
      ∧ 4096 < v.toNat := by
  decide +kernel

/-- Clause 7 of CalibrationCommits. -/
theorem witness_CalibrationCommits_4 :
    let s : State := (withRegs [(Reg.CAL_AMB_PT 0, 100 + 65536 * 0), (Reg.CAL_AMB_PT 1, 200 + 65536 * 500), (Reg.CAL_AMB_PT 2, 300 + 65536 * 1000), (Reg.CAL_AMB_PT 3, 400 + 65536 * 1500), (Reg.CAL_AMB_PT 4, 500 + 65536 * 2000), (Reg.CAL_AMB_PT 5, 600 + 65536 * 2500), (Reg.CAL_AMB_PT 6, 700 + 65536 * 3000), (Reg.CAL_AMB_PT 7, 800 + 65536 * 3500)])
    s.watch.core = true
      ∧ s.asker = none
      ∧ s.ambRising = true := by
  decide +kernel

/-- Clause 8 of CalibrationCommits. -/
theorem witness_CalibrationCommits_5 :
    let v : Word := 1
    let s : State := State.reset
    s.watch.core = true
      ∧ s.asker = none
      ∧ s.ambRising = false
      ∧ bit v.toNat 0 = true := by
  decide +kernel

/-- Clause 9 of CalibrationCommits. -/
theorem witness_CalibrationCommits_6 :
    let k : Nat := 25
    let s : State := (withPipe (withRegs [(Reg.CAL_AMB_PT 0, 100 + 65536 * 0), (Reg.CAL_AMB_PT 1, 200 + 65536 * 500), (Reg.CAL_AMB_PT 2, 300 + 65536 * 1000), (Reg.CAL_AMB_PT 3, 400 + 65536 * 1500), (Reg.CAL_AMB_PT 4, 500 + 65536 * 2000), (Reg.CAL_AMB_PT 5, 600 + 65536 * 2500), (Reg.CAL_AMB_PT 6, 700 + 65536 * 3000), (Reg.CAL_AMB_PT 7, 800 + 65536 * 3500), (Reg.CAL_AMB_CFG, 0x00100041), (Reg.WATCH_VAL 0, 150)]) fun p => { p with edge := some 25 })
    s.watch.core = true
      ∧ s.asker = none
      ∧ s.pipe.edge = some k
      ∧ bit (s.rn Reg.CAL_AMB_CFG) 0 = true
      ∧ s.role = 0
      ∧ s.cal.ambSecond = none
      ∧ s.edge (k - 1) / 1000000000 < s.edge k / 1000000000
      ∧ bits (s.rn Reg.CAL_AMB_CFG) 15 4 < absDiff (s.ambTarget (s.fld (Reg.WATCH_VAL (bits (s.rn Reg.CAL_AMB_CFG) 3 1)) 11 0)) (s.fld Reg.CAL_BRIGHT_TARGET 12 0) := by
  decide +kernel

/-- Clause 1 of TileTemperatureAndStatus. -/
theorem witness_TileTemperatureAndStatus_1 :
    let dt : Nat := 5
    let n : Nat := 2
    let k : Fin 2048 := 3
    let e : TileEntry := (((oneTile { ({} : TileEntry) with temps := [(41000000, 55, 41200000 * 65536)] }).tileEntry 3))
    let x : Nat × Int × Nat := (41000000, 55, 41200000 * 65536)
    let s : State := (withTime (oneTile { ({} : TileEntry) with temps := [(41000000, 55, 41200000 * 65536)] }) fun x => { x with led := 41660000 * ledNs })
    s.watch.core = true
      ∧ s.logOnly 83 = true
      ∧ s.logOnly 84 = true
      ∧ s.logOnly 85 = true
      ∧ s.scan.entries = [(k.val, e)]
      ∧ e.present = true
      ∧ s.rasterPoint n - 50000 ≤ (s.advance dt).ns
      ∧ e.temps = [x]
      ∧ s.rasterPoint n - 1200000 ≤ x.1
      ∧ x.1 ≤ s.rasterPoint n - 200000
      ∧ x.2.2 ≤ (s.rasterPoint n - 50000) * 65536 := by
  decide +kernel

/-- Clause 2 of TileTemperatureAndStatus. -/
theorem witness_TileTemperatureAndStatus_2 :
    let dt : Nat := 5
    let n : Nat := 1
    let k : Fin 2048 := 3
    let e : TileEntry := (((oneTile { ({} : TileEntry) with temp := some 4 }).tileEntry 3))
    let s : State := (withTime (oneTile { ({} : TileEntry) with temp := some 4 }) fun x => { x with led := 41600000 * ledNs })
    s.watch.core = true
      ∧ s.logOnly 83 = true
      ∧ s.logOnly 84 = true
      ∧ s.logOnly 85 = true
      ∧ s.scan.entries = [(k.val, e)]
      ∧ e.present = true
      ∧ s.rasterPoint n - 50000 ≤ (s.advance dt).ns
      ∧ e.temps = []
      ∧ e.heldSince = none := by
  decide +kernel

/-- Clauses 3, 4 of TileTemperatureAndStatus. -/
theorem witness_TileTemperatureAndStatus_3 :
    let key : Nat := 130
    let pos : Nat := 4
    let ep : Nat := 8
    let k : Fin 2048 := 3
    let l : Fin 24 := 2
    let e : TileEntry := (((oneTile { ({} : TileEntry) with moved := true }).tileEntry 3))
    let f : Found := ⟨9, 7, 4, some 3, 2, 1, 0, [], 0, 4, 4⟩
    let st : TileStatus := quietStatus
    let s : State := (withTime (oneTile { ({} : TileEntry) with moved := true }) fun x => { x with led := 41600000 * ledNs })
    s.watch.core = true
      ∧ s.logOnly 83 = true
      ∧ s.logOnly 84 = true
      ∧ s.logOnly 85 = true
      ∧ s.scan.entries = [(k.val, e)]
      ∧ e.present = true
      ∧ s.scan.found = [(key, f)]
      ∧ key / 64 = l
      ∧ f.pos = pos
      ∧ e.pos = pos
      ∧ f.ident = e.ident
      ∧ (s.sendLanes k).contains l.val = true
      ∧ ep ≠ e.epoch
      ∧ st.needDiscovery = false
      ∧ st.tempValid = false := by
  decide +kernel

/-- Clause 1 of CalibrationUploads. -/
theorem witness_CalibrationUploads_1 :
    let dt : Nat := 5
    let u : Nat := 0
    let k : Fin 2048 := 3
    let e : TileEntry := (((oneTile { ({} : TileEntry) with upload := { step := 1, width := 2, height := 1 } }).tileEntry 3))
    let s : State := ((withTime (oneTile { ({} : TileEntry) with upload := { step := 1, width := 2, height := 1 } }) fun x => { x with led := 41600000 * ledNs }).wn (Reg.LANE_STATE 2) 5)
    s.watch.core = true
      ∧ s.logOnly 68 = true
      ∧ s.tileEntry k = e
      ∧ e.upload.step = 1
      ∧ e.present = true
      ∧ e.lane < 24
      ∧ (s.advance dt).linkFree (8 + e.lane) = true
      ∧ ((s.advance dt).stageAlloc (ceilDiv (e.upload.width * e.upload.height * 12) 65536)).map (·.1) = some u := by
  decide +kernel

/-- Clause 2 of CalibrationUploads. -/
theorem witness_CalibrationUploads_2 :
    let dt : Nat := 5
    let k : Fin 2048 := 3
    let e : TileEntry := (((oneTile { ({} : TileEntry) with upload := { step := 1, width := 2, height := 1 } }).tileEntry 3))
    let s : State := (withPipe (withTime (oneTile { ({} : TileEntry) with upload := { step := 1, width := 2, height := 1 } }) fun x => { x with led := 41600000 * ledNs }) fun p => { p with stage := [⟨0, 4608⟩] })
    s.watch.core = true
      ∧ s.logOnly 68 = true
      ∧ s.tileEntry k = e
      ∧ e.upload.step = 1
      ∧ e.present = true
      ∧ ((s.advance dt).stageAlloc (ceilDiv (e.upload.width * e.upload.height * 12) 65536)).isNone = true := by
  decide +kernel

/-- Clauses 3, 4 of CalibrationUploads. -/
theorem witness_CalibrationUploads_3 :
    let off : Nat := 32
    let pos : Nat := 4
    let l : Fin 24 := 2
    let k : Fin 2048 := 3
    let data : List Byte := [1#8, 2#8, 3#8]
    let e : TileEntry := (((oneTile { ({} : TileEntry) with upload := { step := 3, unit := 2, width := 2, height := 1 } }).tileEntry 3))
    let s : State := (withTime (oneTile { ({} : TileEntry) with upload := { step := 3, unit := 2, width := 2, height := 1 } }) fun x => { x with led := 41600000 * ledNs })
    s.watch.core = true
      ∧ s.logOnly 68 = true
      ∧ s.tileEntry k = e
      ∧ s.entryAt l pos = some k.val
      ∧ e.upload.step = 3
      ∧ 32 ≤ off
      ∧ data ≠ []
      ∧ off + data.length ≤ e.upload.width * e.upload.height * 12 + 32
      ∧ runInsert (off - 32) data.length e.upload.got ≠ [(0, e.upload.width * e.upload.height * 12)] := by
  decide +kernel

/-- Clause 5 of CalibrationUploads. -/
theorem witness_CalibrationUploads_4 :
    let dt : Nat := 5
    let k : Fin 2048 := 3
    let e : TileEntry := (((oneTile { ({} : TileEntry) with upload := { step := 2 } }).tileEntry 3))
    let s : State := ({ oneTile { ({} : TileEntry) with upload := { step := 2 } } with clk := 1599999995 })
    s.watch.core = true
      ∧ s.logOnly 68 = true
      ∧ s.tileEntry k = e
      ∧ e.upload.step = 2
      ∧ s.clk + dt ≥ e.upload.started + sec 2
      ∧ e.upload.attempts < 2 := by
  decide +kernel

/-- Clause 6 of CalibrationUploads. -/
theorem witness_CalibrationUploads_5 :
    let dt : Nat := 5
    let n : Nat := 1
    let k : Fin 2048 := 3
    let e : TileEntry := (((oneTile { ({} : TileEntry) with upload := { step := 4, eff := some 1, unit := 2, width := 2, height := 1 } }).tileEntry 3))
    let s : State := (withTime (oneTile { ({} : TileEntry) with upload := { step := 4, eff := some 1, unit := 2, width := 2, height := 1 } }) fun x => { x with led := 41600000 * ledNs })
    s.watch.core = true
      ∧ s.logOnly 68 = true
      ∧ s.tileEntry k = e
      ∧ e.upload.step = 4
      ∧ e.upload.eff = some n
      ∧ s.rasterStop (n - 1) ≤ (s.advance dt).ns := by
  decide +kernel

/-- Clause 7 of CalibrationUploads. -/
theorem witness_CalibrationUploads_6 :
    let dt : Nat := 5
    let n : Nat := 1
    let k : Fin 2048 := 3
    let e : TileEntry := (((oneTile { ({} : TileEntry) with upload := { step := 2, peer := some 1 } }).tileEntry 3))
    let s : State := ((withTime (oneTile { ({} : TileEntry) with upload := { step := 2, peer := some 1 } }) fun x => { x with led := 41600000 * ledNs }).wn Reg.TWIN_STAT 2)
    s.watch.core = true
      ∧ s.logOnly 68 = true
      ∧ s.tileEntry k = e
      ∧ e.upload.eff = none
      ∧ e.upload.peer = some n
      ∧ s.role = 2
      ∧ s.rasterStop (n - 1) ≤ (s.advance dt).ns := by
  decide +kernel

/-- Clause 8 of CalibrationUploads. -/
theorem witness_CalibrationUploads_7 :
    let k : Fin 2048 := 3
    let v : Word := 0x80000003
    let e : TileEntry := (((oneTile { ({} : TileEntry) with upload := { attempts := 2 } }).tileEntry 3))
    let s : State := (withTime (oneTile { ({} : TileEntry) with upload := { attempts := 2 } }) fun x => { x with led := 41600000 * ledNs })
    s.watch.core = true
      ∧ s.logOnly 68 = true
      ∧ s.tileEntry k = e
      ∧ bit v.toNat 31 = true
      ∧ bits v.toNat 10 0 = k.val
      ∧ e.present = true
      ∧ e.calSize = 0 := by
  decide +kernel

/-- Clause 9 of CalibrationUploads. -/
theorem witness_CalibrationUploads_8 :
    let k : Fin 2048 := 3
    let v : Word := 0
    let e : TileEntry := (((oneTile { ({} : TileEntry) with upload := {} }).tileEntry 3))
    let s : State := (withTime (oneTile { ({} : TileEntry) with upload := {} }) fun x => { x with led := 41600000 * ledNs })
    s.watch.core = true
      ∧ s.logOnly 68 = true
      ∧ s.tileEntry k = e
      ∧ bit v.toNat 31 = false := by
  decide +kernel

/-- Clause 10 of CalibrationUploads. -/
theorem witness_CalibrationUploads_9 :
    let tally : Nat := 9
    let k : Fin 2048 := 3
    let e : TileEntry := (((oneTile { ({} : TileEntry) with upload := { step := 4, own := 9 } }).tileEntry 3))
    let s : State := ((withTime (oneTile { ({} : TileEntry) with upload := { step := 4, own := 9 } }) fun x => { x with led := 41600000 * ledNs }).wn Reg.TWIN_STAT 2)
    s.watch.core = true
      ∧ s.logOnly 68 = true
      ∧ s.tileEntry k = e
      ∧ s.role = 2
      ∧ e.upload.step = 4
      ∧ e.upload.own ≤ tally := by
  decide +kernel

/-- Clause 11 of CalibrationUploads. -/
theorem witness_CalibrationUploads_10 :
    let tally : Nat := 9
    let k : Fin 2048 := 3
    let e : TileEntry := (((oneTile { ({} : TileEntry) with upload := { step := 4, own := 10 } }).tileEntry 3))
    let s : State := ((withTime (oneTile { ({} : TileEntry) with upload := { step := 4, own := 10 } }) fun x => { x with led := 41600000 * ledNs }).wn Reg.TWIN_STAT 2)
    s.watch.core = true
      ∧ s.logOnly 68 = true
      ∧ s.tileEntry k = e
      ∧ s.role = 2
      ∧ e.upload.step = 4
      ∧ tally < e.upload.own := by
  decide +kernel

/-- Clause 12 of CalibrationUploads. -/
theorem witness_CalibrationUploads_11 :
    let k : Fin 2048 := 3
    let e : TileEntry := (((oneTile { ({} : TileEntry) with upload := { step := 4, own := 10 } }).tileEntry 3))
    let s : State := ((withTime (oneTile { ({} : TileEntry) with upload := { step := 4, own := 10 } }) fun x => { x with led := 41600000 * ledNs }).wn Reg.TWIN_STAT 1)
    s.watch.core = true
      ∧ s.logOnly 68 = true
      ∧ s.tileEntry k = e
      ∧ s.role = 1
      ∧ e.upload.step = 4 := by
  decide +kernel

/-- A linked tile lane 2 with a ledger at 41.6 ms. -/
def tileLane (f : ScanState → ScanState) (lpi : LpiState := {}) : State :=
  let s := withTime (withRegs [(Reg.LANE_CFG 2, 5), (Reg.LANE_STATE 2, 5), (Reg.SLK_NODE_ID, 77)]) fun x =>
    { x with led := 41600000 * ledNs, armed := true }
  { s with scan := f s.scan, slk := { s.slk with lpi := [(2, lpi)] }, clk := 1600000 }

/-- A tile of 2 by 1 pixels. -/
def tile0 : Tile := { info := ⟨⟨99, 3, 2, 1, 5, 6, 7, 9000, []⟩, List.replicate 9000 7#8, 0⟩, epoch := 4, pos := some 3 }

def withTile (t : Tile) : State := { State.reset with tiles := [(6, t)] }

/-- Clauses 1, 3, 4, 5 of ScanCommits. -/
theorem witness_ScanCommits_1 :
    let v : Word := 32
    let s : State := State.reset
    s.watch.core = true
      ∧ s.asker = none
      ∧ bit (s.rn Reg.SCAN_MAP_STAT) 0 = false
      ∧ 1 ≤ v.toNat
      ∧ v.toNat ≤ 32 := by
  decide +kernel

/-- Clause 2 of ScanCommits. -/
theorem witness_ScanCommits_2 :
    let s : State := (withRegs [(Reg.SCAN_MAP_STAT, 1)])
    s.watch.core = true
      ∧ s.asker = none
      ∧ bit (s.rn Reg.SCAN_MAP_STAT) 0 = true := by
  decide +kernel

/-- Clauses 6, 8 of ScanCommits. -/
theorem witness_ScanCommits_3 :
    let v : Word := 0
    let s : State := State.reset
    s.watch.core = true
      ∧ s.asker = none
      ∧ v.toNat = 0 ∨ 32 < v.toNat
      ∧ bits v.toNat 11 4 = 0 ∨ bits v.toNat 24 13 < 16 := by
  decide +kernel

/-- Clause 6 of ScanCommits. -/
theorem witness_ScanCommits_4 :
    let v : Word := 33
    let s : State := State.reset
    s.watch.core = true
      ∧ s.asker = none
      ∧ v.toNat = 0 ∨ 32 < v.toNat := by
  decide +kernel

/-- Clause 7 of ScanCommits. -/
theorem witness_ScanCommits_5 :
    let v : Word := 0x00020010
    let s : State := State.reset
    s.watch.core = true
      ∧ s.asker = none
      ∧ bits v.toNat 11 4 ≠ 0
      ∧ 16 ≤ bits v.toNat 24 13 := by
  decide +kernel

/-- Clause 1 of ChainTraffic. -/
theorem witness_ChainTraffic_1 :
    let dt : Nat := 5
    let n : Nat := 0
    let s : State := (withPipe (tileLane id) fun p => { p with raster := some 0, aborted := true })
    s.watch.core = true
      ∧ (∀ e ∈ [80, 81, 85], s.logOnly e = true)
      ∧ s.pipe.raster = some n
      ∧ s.rasterStop n + 10000 ≤ (s.advance dt).ns
      ∧ s.inReset .scanout = false
      ∧ s.time.armed = true := by
  decide +kernel

/-- Clause 2 of ChainTraffic. -/
theorem witness_ChainTraffic_2 :
    let dt : Nat := 5
    let n : Nat := 0
    let l : Fin 24 := 2
    let s : State := (withPipe (tileLane fun x => { x with entries := [(3, { ({} : TileEntry) with state := 1, lane := 2, moved := true, held := true })] }) fun p => { p with raster := some 0 })
    s.watch.core = true
      ∧ (∀ e ∈ [80, 81, 85], s.logOnly e = true)
      ∧ s.pipe.raster = some n
      ∧ s.rasterStop n + 30000 ≤ (s.advance dt).ns
      ∧ s.inReset .scanout = false
      ∧ s.time.armed = true
      ∧ s.laneRole l = 5
      ∧ s.linked l = true
      ∧ (s.advance dt).laneHeld l n = true := by
  decide +kernel

/-- Clauses 3, 4 of ChainTraffic. -/
theorem witness_ChainTraffic_3 :
    let dt : Nat := 5
    let l : Fin 24 := 2
    let p : LpiState := ({ idle := true } : LpiState)
    let s : State := (tileLane id { idle := true })
    s.watch.core = true
      ∧ (∀ e ∈ [80, 81, 85], s.logOnly e = true)
      ∧ s.lpi l = p
      ∧ p.idle = true
      ∧ p.lastRefresh + us 20 ≤ s.clk + dt := by
  decide +kernel

/-- Clause 5 of ChainTraffic. -/
theorem witness_ChainTraffic_4 :
    let dt : Nat := 5
    let a : Nat := 5
    let l : Fin 24 := 2
    let s : State := (tileLane fun x => { x with live := [(3, [9, 0, 0x80C42, 0, 0x10001]), (4, [8, 0, 0x81C42, 0, 0x10001])], breakSince := [(2, 5)], entries := [(3, { ({} : TileEntry) with state := 1, status := some { quietStatus with hearsB := false } }), (4, { ({} : TileEntry) with state := 1, pos := 1, status := some { quietStatus with hearsA := false } })] })
    s.watch.core = true
      ∧ (∀ e ∈ [80, 81, 85], s.logOnly e = true)
      ∧ s.chainBroken l = true
      ∧ tabGet? s.scan.breakSince l = some a
      ∧ a + us 200 ≤ s.clk + dt := by
  decide +kernel

/-- Clause 6 of ChainTraffic. -/
theorem witness_ChainTraffic_5 :
    let l : Fin 24 := 2
    let s : State := (tileLane id)
    s.watch.core = true
      ∧ (∀ e ∈ [80, 81, 85], s.logOnly e = true)
      ∧ s.laneRole l = 5
      ∧ s.linked l = true := by
  decide +kernel

/-- Clause 7 of ChainTraffic. -/
theorem witness_ChainTraffic_6 :
    let dt : Nat := 5
    let hop : Nat := 3
    let a : Nat := 1
    let b : Nat := 7
    let l : Fin 24 := 2
    let s : State := (tileLane fun x => { x with walks := [(2, ⟨1, [3], 7⟩)] })
    s.watch.core = true
      ∧ (∀ e ∈ [80, 81, 85], s.logOnly e = true)
      ∧ s.laneRole l = 5
      ∧ s.linked l = true
      ∧ s.walk l = ⟨a, [hop], b⟩
      ∧ b + ms 1 ≤ s.clk + dt
      ∧ s.scan.entries = [] := by
  decide +kernel

/-- Clause 8 of ChainTraffic. -/
theorem witness_ChainTraffic_7 :
    let hop : Nat := 3
    let l : Fin 24 := 2
    let s : State := (tileLane fun x => { x with walks := [(2, ⟨3, [3], 7⟩)], chain := [(2, 4)] })
    s.watch.core = true
      ∧ (∀ e ∈ [80, 81, 85], s.logOnly e = true)
      ∧ (s.walk l).asked = [hop]
      ∧ s.scan.live = []
      ∧ s.chainLen l ≤ hop + 1 := by
  decide +kernel

/-- Clause 9 of ChainTraffic. -/
theorem witness_ChainTraffic_8 :
    let l : Fin 24 := 2
    let s : State := (tileLane id)
    s.watch.core = true
      ∧ (∀ e ∈ [80, 81, 85], s.logOnly e = true)
      ∧ (s.walk l).asked = []
      ∧ s.scan.found = [] := by
  decide +kernel

/-- Clause 10 of ChainTraffic. -/
theorem witness_ChainTraffic_9 :
    let dt : Nat := 5
    let k : Fin 2048 := 3
    let s : State := ({ oneTile { ({} : TileEntry) with held := true } with clk := 160000 })
    s.watch.core = true
      ∧ (∀ e ∈ [80, 81, 85], s.logOnly e = true)
      ∧ (s.tileEntry k).present = true
      ∧ (s.tileEntry k).lastStatus + us 200 ≤ s.clk + dt := by
  decide +kernel

/-- Clause 1 of TileFrames. -/
theorem witness_TileFrames_1 :
    let k : Nat := 6
    let p : PixelPacket := ⟨false, 4, 3, 5, 0, 0, [(1, 2, 3), (4, 5, 6)]⟩
    let crc : Word := 0
    let x : Tile := { tile0 with rx := some 5 }
    let s : State := (withTile { tile0 with rx := some 5 })
    tabGet? s.tiles k = some x
      ∧ x.snaps = []
      ∧ packetGood (withCheck (pixelPacket p) crc) = false := by
  decide +kernel

/-- Clause 2 of TileFrames. -/
theorem witness_TileFrames_2 :
    let k : Nat := 6
    let p : PixelPacket := ⟨false, 3, 3, 5, 0, 0, [(1, 2, 3), (4, 5, 6)]⟩
    let crc : Word := (packetCheck (pixelPacket ⟨false, 3, 3, 5, 0, 0, [(1, 2, 3), (4, 5, 6)]⟩))
    let x : Tile := { tile0 with rx := some 5 }
    let s : State := (withTile { tile0 with rx := some 5 })
    tabGet? s.tiles k = some x
      ∧ x.snaps = []
      ∧ tileKeeps (withCheck (pixelPacket p) crc) = true
      ∧ x.pos = some p.pos
      ∧ p.epoch ≠ x.epoch := by
  decide +kernel

/-- Clause 3 of TileFrames. -/
theorem witness_TileFrames_3 :
    let k : Nat := 6
    let p : PixelPacket := ⟨false, 4, 3, 5, 0, 0, [(1, 2, 3), (4, 5, 6)]⟩
    let crc : Word := (packetCheck (pixelPacket ⟨false, 4, 3, 5, 0, 0, [(1, 2, 3), (4, 5, 6)]⟩))
    let x : Tile := { tile0 with rx := some 5 }
    let s : State := (withTile { tile0 with rx := some 5 })
    tabGet? s.tiles k = some x
      ∧ x.snaps = []
      ∧ tileKeeps (withCheck (pixelPacket p) crc) = true
      ∧ x.pos = some p.pos
      ∧ p.epoch = x.epoch
      ∧ x.segmentOk p = true
      ∧ x.rx = some p.tally
      ∧ tabGet? x.segs (p.line * 4 + p.segment) = none := by
  decide +kernel

/-- Clause 4 of TileFrames. -/
theorem witness_TileFrames_4 :
    let k : Nat := 6
    let p : PixelPacket := ⟨false, 4, 3, 5, 0, 0, [(1, 2, 3), (4, 5, 6)]⟩
    let crc : Word := (packetCheck (pixelPacket ⟨false, 4, 3, 5, 0, 0, [(1, 2, 3), (4, 5, 6)]⟩))
    let x : Tile := { tile0 with rx := some 5, segs := [(0, [])] }
    let s : State := (withTile { tile0 with rx := some 5, segs := [(0, [])] })
    tabGet? s.tiles k = some x
      ∧ x.snaps = []
      ∧ tileKeeps (withCheck (pixelPacket p) crc) = true
      ∧ x.pos = some p.pos
      ∧ p.epoch = x.epoch
      ∧ x.segmentOk p = true
      ∧ x.rx = some p.tally
      ∧ (tabGet? x.segs (p.line * 4 + p.segment)).isSome = true := by
  decide +kernel

/-- Clause 5 of TileFrames. -/
theorem witness_TileFrames_5 :
    let k : Nat := 6
    let n : Nat := 4
    let p : PixelPacket := ⟨false, 4, 3, 5, 0, 0, [(1, 2, 3), (4, 5, 6)]⟩
    let crc : Word := (packetCheck (pixelPacket ⟨false, 4, 3, 5, 0, 0, [(1, 2, 3), (4, 5, 6)]⟩))
    let x : Tile := { tile0 with rx := some 4, segs := [(1, [])] }
    let s : State := (withTile { tile0 with rx := some 4, segs := [(1, [])] })
    tabGet? s.tiles k = some x
      ∧ x.snaps = []
      ∧ tileKeeps (withCheck (pixelPacket p) crc) = true
      ∧ x.pos = some p.pos
      ∧ p.epoch = x.epoch
      ∧ x.segmentOk p = true
      ∧ x.rx = some n
      ∧ newer32 p.tally n = true := by
  decide +kernel

/-- Clause 6 of TileFrames. -/
theorem witness_TileFrames_6 :
    let k : Nat := 6
    let q : Token := ⟨false, 5, 0, 41666667, 0, 8, 2000, false, false, 1, 0⟩
    let crc : Word := (packetCheck (tokenPacket ⟨false, 5, 0, 41666667, 0, 8, 2000, false, false, 1, 0⟩))
    let x : Tile := { tile0 with inLock := 16 }
    let s : State := (withTile { tile0 with inLock := 16 })
    tabGet? s.tiles k = some x
      ∧ x.snaps = []
      ∧ tileKeeps (withCheck (tokenPacket q) crc) = true
      ∧ x.locked = true := by
  decide +kernel

/-- Clause 7 of TileFrames. -/
theorem witness_TileFrames_7 :
    let k : Nat := 6
    let q : Token := ⟨false, 5, 0, 41666667, 0, 8, 2000, false, false, 1, 0⟩
    let crc : Word := (packetCheck (tokenPacket ⟨false, 5, 0, 41666667, 0, 8, 2000, false, false, 1, 0⟩))
    let x : Tile := { tile0 with inLock := 15 }
    let s : State := (withTile { tile0 with inLock := 15 })
    tabGet? s.tiles k = some x
      ∧ x.snaps = []
      ∧ tileKeeps (withCheck (tokenPacket q) crc) = true
      ∧ x.locked = false := by
  decide +kernel

/-- Clause 8 of TileFrames. -/
theorem witness_TileFrames_8 :
    let dt : Nat := 5
    let k : Nat := 6
    let n : Nat := 5
    let q : Token := ⟨false, 5, 0, 41666667, 0, 8, 2000, false, false, 1, 0⟩
    let x : Tile := { tile0 with rx := some 5, segs := [(0, [(1, 2, 3), (4, 5, 6)])], toks := [⟨false, 5, 0, 41666667, 0, 8, 2000, false, false, 1, 0⟩] }
    let s : State := (withTile { tile0 with rx := some 5, segs := [(0, [(1, 2, 3), (4, 5, 6)])], toks := [⟨false, 5, 0, 41666667, 0, 8, 2000, false, false, 1, 0⟩] })
    tabGet? s.tiles k = some x
      ∧ x.snaps = []
      ∧ x.toks = [q]
      ∧ q.tally = n
      ∧ q.abort = false
      ∧ n < 2 ^ 32
      ∧ x.rx = some n
      ∧ x.segs.length = x.segments
      ∧ onGrid (s.advance dt).ns (ofLedger q.tp + q.emitOffset) = true := by
  decide +kernel

/-- Clause 9 of TileFrames. -/
theorem witness_TileFrames_9 :
    let dt : Nat := 5
    let k : Nat := 6
    let n : Nat := 5
    let q : Token := ⟨false, 5, 0, 41666667, 0, 8, 2000, true, false, 1, 0⟩
    let x : Tile := { tile0 with rx := some 5, segs := [(0, [(1, 2, 3), (4, 5, 6)])], toks := [⟨false, 5, 0, 41666667, 0, 8, 2000, true, false, 1, 0⟩] }
    let s : State := (withTile { tile0 with rx := some 5, segs := [(0, [(1, 2, 3), (4, 5, 6)])], toks := [⟨false, 5, 0, 41666667, 0, 8, 2000, true, false, 1, 0⟩] })
    tabGet? s.tiles k = some x
      ∧ x.snaps = []
      ∧ x.toks = [q]
      ∧ q.tally = n
      ∧ q.abort = true
      ∧ n < 2 ^ 32
      ∧ onGrid (s.advance dt).ns (ofLedger q.tp + q.emitOffset) = true := by
  decide +kernel

/-- Clause 10 of TileFrames. -/
theorem witness_TileFrames_10 :
    let dt : Nat := 5
    let k : Nat := 6
    let n : Nat := 5
    let q : Token := ⟨false, 5, 0, 41666667, 0, 8, 2000, false, false, 1, 0⟩
    let x : Tile := { tile0 with toks := [⟨false, 5, 0, 41666667, 0, 8, 2000, false, false, 1, 0⟩] }
    let s : State := (withTile { tile0 with toks := [⟨false, 5, 0, 41666667, 0, 8, 2000, false, false, 1, 0⟩] })
    tabGet? s.tiles k = some x
      ∧ x.snaps = []
      ∧ x.toks = [q]
      ∧ q.tally = n
      ∧ q.abort = false
      ∧ q.hold = 0
      ∧ n < 2 ^ 32
      ∧ x.rx = none
      ∧ onGrid (s.advance dt).ns (ofLedger q.tp + q.emitOffset) = true := by
  decide +kernel

/-- Clause 11 of TileFrames. -/
theorem witness_TileFrames_11 :
    let dt : Nat := 5
    let k : Nat := 6
    let i : Nat := 0
    let x : Tile := { tile0 with gridSubs := 8, gridPeriod := 41666667 }
    let s : State := (withTile { tile0 with gridSubs := 8, gridPeriod := 41666667 })
    tabGet? s.tiles k = some x
      ∧ x.snaps = []
      ∧ i < x.gridSubs
      ∧ onGrid (s.advance dt).ns (x.gridAt + i * x.gridPeriod / x.gridSubs) = true := by
  decide +kernel

/-- Clause 12 of TileFrames. -/
theorem witness_TileFrames_12 :
    let dt : Nat := 5
    let k : Nat := 6
    let q : Token := ⟨false, 5, 0, 41666667, 0, 8, 2000, false, false, 1, 0⟩
    let x : Tile := { tile0 with last := some ⟨false, 5, 0, 41666667, 0, 8, 2000, false, false, 1, 0⟩ }
    let s : State := ({ withTile { tile0 with last := some ⟨false, 5, 0, 41666667, 0, 8, 2000, false, false, 1, 0⟩ } with clk := 1600000000 })
    tabGet? s.tiles k = some x
      ∧ x.snaps = []
      ∧ x.last = some q
      ∧ q.lossHold ≠ 0
      ∧ x.lastToken + ms q.lossHold ≤ s.clk + dt
      ∧ x.lossBlack = false := by
  decide +kernel

/-- Clause 1 of TileDiscoveryAndStatus. -/
theorem witness_TileDiscoveryAndStatus_1 :
    let k : Nat := 6
    let port : Bool := true
    let x : Tile := { tile0 with p1 := { linked := true } }
    let s : State := (withTile { tile0 with p1 := { linked := true } })
    (x.port (!port)).linked = false
      ∧ tabGet? s.tiles k = some x
      ∧ x.snaps = []
      ∧ (x.port port).linked = true
      ∧ x.lastStatus = none := by
  decide +kernel

/-- Clauses 2, 10 of TileDiscoveryAndStatus. -/
theorem witness_TileDiscoveryAndStatus_2 :
    let k : Nat := 6
    let port : Bool := true
    let x : Tile := { tile0 with pos := some 3 }
    let s : State := (withTile { tile0 with pos := some 3 })
    (x.port (!port)).linked = false
      ∧ tabGet? s.tiles k = some x
      ∧ x.snaps = []
      ∧ (x.port port).linked = false := by
  decide +kernel

/-- Clause 3 of TileDiscoveryAndStatus. -/
theorem witness_TileDiscoveryAndStatus_3 :
    let k : Nat := 6
    let hops : Nat := 2
    let from_ : Nat := 12
    let port : Bool := true
    let toward : Bool := false
    let crc : Word := (packetCheck (discoverPacket false 2 12))
    let x : Tile := { tile0 with p1 := { linked := true } }
    let s : State := (withTile { tile0 with p1 := { linked := true } })
    (x.port (!port)).linked = false
      ∧ tabGet? s.tiles k = some x
      ∧ x.snaps = []
      ∧ 0 < hops
      ∧ tileKeeps (withCheck (discoverPacket toward hops from_) crc) = true := by
  decide +kernel

/-- Clause 4 of TileDiscoveryAndStatus. -/
theorem witness_TileDiscoveryAndStatus_4 :
    let k : Nat := 6
    let from_ : Nat := 12
    let port : Bool := true
    let toward : Bool := false
    let crc : Word := (packetCheck (discoverPacket false 0 12))
    let x : Tile := { tile0 with pos := some 3 }
    let s : State := (withTile { tile0 with pos := some 3 })
    (x.port (!port)).linked = false
      ∧ tabGet? s.tiles k = some x
      ∧ x.snaps = []
      ∧ x.needDiscovery = true
      ∧ x.epoch < 65535
      ∧ tileKeeps (withCheck (discoverPacket toward 0 from_) crc) = true := by
  decide +kernel

/-- Clause 5 of TileDiscoveryAndStatus. -/
theorem witness_TileDiscoveryAndStatus_5 :
    let k : Nat := 6
    let pos : Nat := 3
    let len : Nat := 9
    let from_ : Nat := 12
    let port : Bool := true
    let toward : Bool := false
    let crc : Word := (packetCheck (assignPacket false 4 0 3 9 99 12))
    let x : Tile := { tile0 with pos := none }
    let s : State := (withTile { tile0 with pos := none })
    (x.port (!port)).linked = false
      ∧ tabGet? s.tiles k = some x
      ∧ x.snaps = []
      ∧ x.pos = none
      ∧ tileKeeps (withCheck (assignPacket toward x.epoch 0 pos len x.info.desc.ident from_) crc) = true := by
  decide +kernel

/-- Clause 6 of TileDiscoveryAndStatus. -/
theorem witness_TileDiscoveryAndStatus_6 :
    let k : Nat := 6
    let pos : Nat := 3
    let len : Nat := 9
    let from_ : Nat := 12
    let port : Bool := true
    let toward : Bool := false
    let crc : Word := (packetCheck (assignPacket false 4 0 3 9 99 12))
    let x : Tile := { tile0 with pos := some 4, posEpoch := 4 }
    let s : State := (withTile { tile0 with pos := some 4, posEpoch := 4 })
    (x.port (!port)).linked = false
      ∧ tabGet? s.tiles k = some x
      ∧ x.snaps = []
      ∧ x.pos = some (pos + 1)
      ∧ x.posEpoch = x.epoch
      ∧ tileKeeps (withCheck (assignPacket toward x.epoch 0 pos len x.info.desc.ident from_) crc) = true := by
  decide +kernel

/-- Clause 7 of TileDiscoveryAndStatus. -/
theorem witness_TileDiscoveryAndStatus_7 :
    let k : Nat := 6
    let pos : Nat := 3
    let off : Nat := 0
    let n : Nat := 16
    let port : Bool := true
    let toward : Bool := false
    let crc : Word := (packetCheck (calPullPacket false 3 4 0 16))
    let x : Tile := { tile0 with p1 := { linked := true } }
    let s : State := (withTile { tile0 with p1 := { linked := true } })
    (x.port (!port)).linked = false
      ∧ tabGet? s.tiles k = some x
      ∧ x.snaps = []
      ∧ x.pos = some pos
      ∧ 0 < n
      ∧ n ≤ 8192
      ∧ off + n ≤ x.info.desc.calSize
      ∧ tileKeeps (withCheck (calPullPacket toward pos x.epoch off n) crc) = true := by
  decide +kernel

/-- Clause 8 of TileDiscoveryAndStatus. -/
theorem witness_TileDiscoveryAndStatus_8 :
    let k : Nat := 6
    let pos : Nat := 3
    let off : Nat := 9000
    let n : Nat := 1
    let port : Bool := true
    let toward : Bool := false
    let crc : Word := (packetCheck (calPullPacket false 3 4 9000 1))
    let x : Tile := { tile0 with pos := some 3 }
    let s : State := (withTile { tile0 with pos := some 3 })
    (x.port (!port)).linked = false
      ∧ tabGet? s.tiles k = some x
      ∧ x.snaps = []
      ∧ x.pos = some pos
      ∧ x.info.desc.calSize < off + n
      ∧ tileKeeps (withCheck (calPullPacket toward pos x.epoch off n) crc) = true := by
  decide +kernel

/-- Clause 9 of TileDiscoveryAndStatus. -/
theorem witness_TileDiscoveryAndStatus_9 :
    let dt : Nat := 5
    let k : Nat := 6
    let id : Nat := 3
    let at64 : Nat := toLedger 9
    let port : Bool := true
    let toward : Bool := false
    let crc : Word := (packetCheck (snapPacket false 3 (toLedger 9)))
    let x : Tile := { tile0 with pos := some 3 }
    let s : State := (withTile { tile0 with pos := some 3 })
    (x.port (!port)).linked = false
      ∧ tabGet? s.tiles k = some x
      ∧ x.snaps = []
      ∧ (s.advance dt).ns < ofLedger at64
      ∧ tileKeeps (withCheck (snapPacket toward id at64) crc) = true := by
  decide +kernel

/-- Clause 11 of TileDiscoveryAndStatus. -/
theorem witness_TileDiscoveryAndStatus_10 :
    let dt : Nat := 5
    let k : Nat := 6
    let port : Bool := true
    let x : Tile := { tile0 with p1 := { asleep := true, refreshed := 4 } }
    let s : State := ({ withTile { tile0 with p1 := { asleep := true, refreshed := 4 } } with clk := 23999 })
    (x.port (!port)).linked = false
      ∧ tabGet? s.tiles k = some x
      ∧ x.snaps = []
      ∧ (x.port port).asleep = true
      ∧ (x.port port).refreshed + us 30 ≤ s.clk + dt := by
  decide +kernel

/-- Lane 2 with a role, a LANE_STATE word and what it holds beside. -/
def laneIn (role st : Nat) (x : Lane) (more : List (Nat × Nat)) : State :=
  { withRegs ([(Reg.LANE_CFG 2, role), (Reg.LANE_STATE 2, st), (Reg.SLK_NODE_ID, 77)] ++ more) with lanes := [(2, x)] }

/-- A hail of a tile at rate code 3, answered. -/
def tileHail : Hail := ⟨1, 1, 0, 3, true, 0, 0, 0, 5, true⟩

/-- Clause 1 of LaneTraining. -/
theorem witness_LaneTraining_1 :
    let dt : Nat := 5
    let l : Fin 24 := 2
    let x : Lane := ({} : Lane)
    let s : State := (laneIn 29 4194818 ({} : Lane) [])
    s.watch.core = true
      ∧ (∀ e ∈ [96, 97, 98, 99], s.logOnly e = true)
      ∧ s.lane l = x
      ∧ s.laneSt l = 2
      ∧ x.hailAt.all (fun c => decide (c + ms 1 ≤ s.clk + dt)) = true := by
  decide +kernel

/-- Clause 5 of LaneTraining. -/
theorem witness_LaneTraining_2 :
    let l : Fin 24 := 2
    let h : Hail := tileHail
    let x : Lane := ({} : Lane)
    let s : State := (laneIn 29 4194818 ({} : Lane) [])
    s.watch.core = true
      ∧ (∀ e ∈ [96, 97, 98, 99], s.logOnly e = true)
      ∧ s.lane l = x
      ∧ s.isSardy l = true
      ∧ hailValid h = true
      ∧ h.node ≠ s.rn Reg.SLK_NODE_ID
      ∧ s.laneSt l = 2
      ∧ s.laneBit l 9 = true
      ∧ h.profile = s.laneProfile l := by
  decide +kernel

/-- Clause 2 of LaneTraining. -/
theorem witness_LaneTraining_3 :
    let l : Fin 24 := 2
    let x : Lane := ({} : Lane)
    let s : State := (laneIn 1 5 ({} : Lane) [])
    s.watch.core = true
      ∧ (∀ e ∈ [96, 97, 98, 99], s.logOnly e = true)
      ∧ s.lane l = x
      ∧ s.isSardy l = false := by
  decide +kernel

/-- Clause 3 of LaneTraining. -/
theorem witness_LaneTraining_4 :
    let l : Fin 24 := 2
    let h : Hail := { tileHail with version := 2 }
    let x : Lane := ({} : Lane)
    let s : State := (laneIn 5 2 ({} : Lane) [])
    s.watch.core = true
      ∧ (∀ e ∈ [96, 97, 98, 99], s.logOnly e = true)
      ∧ s.lane l = x
      ∧ s.isSardy l = true
      ∧ hailValid h = false
      ∧ s.exchanged l = false := by
  decide +kernel

/-- Clause 4 of LaneTraining. -/
theorem witness_LaneTraining_5 :
    let l : Fin 24 := 2
    let h : Hail := { tileHail with profile := 2 }
    let x : Lane := ({} : Lane)
    let s : State := (laneIn 5 514 ({} : Lane) [])
    s.watch.core = true
      ∧ (∀ e ∈ [96, 97, 98, 99], s.logOnly e = true)
      ∧ s.lane l = x
      ∧ s.isSardy l = true
      ∧ hailValid h = true
      ∧ h.node ≠ s.rn Reg.SLK_NODE_ID
      ∧ s.laneSt l = 2
      ∧ s.laneBit l 9 = true
      ∧ h.profile ≠ s.laneProfile l := by
  decide +kernel

/-- Clause 6 of LaneTraining. -/
theorem witness_LaneTraining_6 :
    let dt : Nat := 5
    let l : Fin 24 := 2
    let h : Hail := tileHail
    let x : Lane := ({ ({} : Lane) with hails := 15, lastHail := some tileHail } : Lane)
    let s : State := (laneIn 5 3 ({ ({} : Lane) with hails := 15, lastHail := some tileHail } : Lane) [])
    s.watch.core = true
      ∧ (∀ e ∈ [96, 97, 98, 99], s.logOnly e = true)
      ∧ s.lane l = x
      ∧ s.laneRole l = 5
      ∧ hailValid h = true
      ∧ h.profile = 1
      ∧ s.laneSt l = 3
      ∧ h.answer = true
      ∧ x.lastHail = some h
      ∧ x.hails = 15
      ∧ s.clk + dt < x.exchSince + ms 20
      ∧ s.target l h.maxRate = 0 := by
  decide +kernel

/-- Clause 7 of LaneTraining. -/
theorem witness_LaneTraining_7 :
    let dt : Nat := 5
    let l : Fin 24 := 2
    let h : Hail := tileHail
    let x : Lane := ({ ({} : Lane) with hails := 15, lastHail := some tileHail } : Lane)
    let s : State := (laneIn 29 4194307 ({ ({} : Lane) with hails := 15, lastHail := some tileHail } : Lane) [])
    s.watch.core = true
      ∧ (∀ e ∈ [96, 97, 98, 99], s.logOnly e = true)
      ∧ s.lane l = x
      ∧ s.laneRole l = 5
      ∧ hailValid h = true
      ∧ h.profile = 1
      ∧ s.laneSt l = 3
      ∧ h.answer = true
      ∧ x.lastHail = some h
      ∧ x.hails = 15
      ∧ s.clk + dt < x.exchSince + ms 20
      ∧ s.target l h.maxRate ≠ 0
      ∧ x.oneStep = false := by
  decide +kernel

/-- Clause 8 of LaneTraining. -/
theorem witness_LaneTraining_8 :
    let dt : Nat := 5
    let l : Fin 24 := 2
    let x : Lane := ({} : Lane)
    let s : State := ({ laneIn 5 3 ({} : Lane) [] with clk := 16000000 })
    s.watch.core = true
      ∧ (∀ e ∈ [96, 97, 98, 99], s.logOnly e = true)
      ∧ s.lane l = x
      ∧ s.laneSt l = 3
      ∧ x.hails < 16
      ∧ x.exchSince + ms 20 ≤ s.clk + dt := by
  decide +kernel

/-- Clause 9 of LaneTraining. -/
theorem witness_LaneTraining_9 :
    let l : Fin 24 := 2
    let x : Lane := ({ ({} : Lane) with nextRung := 2, target := 3 } : Lane)
    let s : State := (laneIn 5 4 ({ ({} : Lane) with nextRung := 2, target := 3 } : Lane) [])
    s.watch.core = true
      ∧ (∀ e ∈ [96, 97, 98, 99], s.logOnly e = true)
      ∧ s.lane l = x
      ∧ s.laneSt l = 4
      ∧ x.stepAgreed = none := by
  decide +kernel

/-- Clause 10 of LaneTraining. -/
theorem witness_LaneTraining_10 :
    let dt : Nat := 5
    let a : Nat := 7
    let l : Fin 24 := 2
    let x : Lane := ({ ({} : Lane) with nextRung := 2, target := 3, stepAgreed := some 7 } : Lane)
    let s : State := ({ laneIn 5 4 ({ ({} : Lane) with nextRung := 2, target := 3, stepAgreed := some 7 } : Lane) [] with clk := 5000 })
    s.watch.core = true
      ∧ (∀ e ∈ [96, 97, 98, 99], s.logOnly e = true)
      ∧ s.lane l = x
      ∧ s.laneSt l = 4
      ∧ x.stepAgreed = some a
      ∧ a + blockClocks x.fromRate 1 16 ≤ s.clk + dt
      ∧ x.txSwitch = none := by
  decide +kernel

/-- Clause 11 of LaneTraining. -/
theorem witness_LaneTraining_11 :
    let dt : Nat := 5
    let l : Fin 24 := 2
    let x : Lane := ({ ({} : Lane) with nextRung := 2, target := 3, stepAgreed := some 7, lastCount := 3, countAt := 7 } : Lane)
    let s : State := ({ laneIn 5 4 ({ ({} : Lane) with nextRung := 2, target := 3, stepAgreed := some 7, lastCount := 3, countAt := 7 } : Lane) [] with clk := 5000 })
    s.watch.core = true
      ∧ (∀ e ∈ [96, 97, 98, 99], s.logOnly e = true)
      ∧ s.lane l = x
      ∧ s.laneSt l = 4
      ∧ x.lastCount ≤ 15
      ∧ x.countAt + blockClocks x.fromRate 1 x.lastCount ≤ s.clk + dt
      ∧ x.rxSwitch = none := by
  decide +kernel

/-- Clause 12 of LaneTraining. -/
theorem witness_LaneTraining_12 :
    let dt : Nat := 5
    let l : Fin 24 := 2
    let x : Lane := ({ ({} : Lane) with nextRung := 2, target := 3, rxSwitch := some 3, txSwitch := some 3 } : Lane)
    let s : State := (laneIn 5 4 ({ ({} : Lane) with nextRung := 2, target := 3, rxSwitch := some 3, txSwitch := some 3 } : Lane) [])
    s.watch.core = true
      ∧ (∀ e ∈ [96, 97, 98, 99], s.logOnly e = true)
      ∧ s.lane l = x
      ∧ s.laneSt l = 4
      ∧ x.inStep (s.clk + dt) = true := by
  decide +kernel

/-- Clause 12 of LaneTraining. -/
theorem witness_LaneTraining_13 :
    let dt : Nat := 5
    let l : Fin 24 := 2
    let x : Lane := ({ ({} : Lane) with nextRung := 2, target := 3, rxSwitch := some 3, txSwitch := some 3 } : Lane)
    let s : State := (laneIn 5 4 ({ ({} : Lane) with nextRung := 2, target := 3, rxSwitch := some 3, txSwitch := some 3 } : Lane) [])
    s.watch.core = true
      ∧ (∀ e ∈ [96, 97, 98, 99], s.logOnly e = true)
      ∧ s.lane l = x
      ∧ s.laneSt l = 4
      ∧ x.inStep (s.clk + dt) = true := by
  decide +kernel

/-- Clause 13 of LaneTraining. -/
theorem witness_LaneTraining_14 :
    let dt : Nat := 5
    let l : Fin 24 := 2
    let x : Lane := ({ ({} : Lane) with nextRung := 3, target := 3, passed := true, partnerPassed := true, rxSwitch := some 3, txSwitch := some 3 } : Lane)
    let s : State := (laneIn 29 516 ({ ({} : Lane) with nextRung := 3, target := 3, passed := true, partnerPassed := true, rxSwitch := some 3, txSwitch := some 3 } : Lane) [])
    s.watch.core = true
      ∧ (∀ e ∈ [96, 97, 98, 99], s.logOnly e = true)
      ∧ s.lane l = x
      ∧ s.laneRole l = 5
      ∧ s.laneSt l = 4
      ∧ x.passed = true
      ∧ x.partnerPassed = true
      ∧ s.laneBit l 9 = true
      ∧ x.inStep (s.clk + dt) = true
      ∧ x.standIn = none
      ∧ x.nextRung = x.target := by
  decide +kernel

/-- Clause 14 of LaneTraining. -/
theorem witness_LaneTraining_15 :
    let dt : Nat := 5
    let l : Fin 24 := 2
    let x : Lane := ({ ({} : Lane) with nextRung := 2, target := 3, passed := true, partnerPassed := true, rxSwitch := some 3, txSwitch := some 3 } : Lane)
    let s : State := (laneIn 29 516 ({ ({} : Lane) with nextRung := 2, target := 3, passed := true, partnerPassed := true, rxSwitch := some 3, txSwitch := some 3 } : Lane) [])
    s.watch.core = true
      ∧ (∀ e ∈ [96, 97, 98, 99], s.logOnly e = true)
      ∧ s.lane l = x
      ∧ s.laneRole l = 5
      ∧ s.laneSt l = 4
      ∧ x.passed = true
      ∧ x.partnerPassed = true
      ∧ s.laneBit l 9 = true
      ∧ x.inStep (s.clk + dt) = true
      ∧ x.standIn = none
      ∧ x.nextRung ≠ x.target := by
  decide +kernel

/-- Clause 15 of LaneTraining. -/
theorem witness_LaneTraining_16 :
    let dt : Nat := 5
    let a : Nat := 3
    let l : Fin 24 := 2
    let x : Lane := ({ ({} : Lane) with nextRung := 2, target := 3, txSwitch := some 3, failRung := 2, fails := 2 } : Lane)
    let s : State := ({ laneIn 29 4 ({ ({} : Lane) with nextRung := 2, target := 3, txSwitch := some 3, failRung := 2, fails := 2 } : Lane) [] with clk := 16000000 })
    s.watch.core = true
      ∧ (∀ e ∈ [96, 97, 98, 99], s.logOnly e = true)
      ∧ s.lane l = x
      ∧ s.laneRole l = 5
      ∧ s.laneSt l = 4
      ∧ x.txSwitch = some a
      ∧ a + ms 20 ≤ s.clk + dt
      ∧ x.passed = false
      ∧ x.standIn = none
      ∧ x.failRung = x.nextRung
      ∧ x.fails = 2
      ∧ 1 ≤ x.nextRung
      ∧ x.nextRung ≤ 4 := by
  decide +kernel

/-- Clause 16 of LaneTraining. -/
theorem witness_LaneTraining_17 :
    let dt : Nat := 5
    let a : Nat := 3
    let l : Fin 24 := 2
    let x : Lane := ({ ({} : Lane) with nextRung := 2, target := 3, txSwitch := some 3, failRung := 2, fails := 1 } : Lane)
    let s : State := ({ laneIn 29 4 ({ ({} : Lane) with nextRung := 2, target := 3, txSwitch := some 3, failRung := 2, fails := 1 } : Lane) [] with clk := 16000000 })
    s.watch.core = true
      ∧ (∀ e ∈ [96, 97, 98, 99], s.logOnly e = true)
      ∧ s.lane l = x
      ∧ s.laneRole l = 5
      ∧ s.laneSt l = 4
      ∧ x.txSwitch = some a
      ∧ a + ms 20 ≤ s.clk + dt
      ∧ x.passed = false
      ∧ x.standIn = none
      ∧ x.failRung = x.nextRung
      ∧ x.fails < 2 := by
  decide +kernel

/-- Clause 17 of LaneTraining. -/
theorem witness_LaneTraining_18 :
    let dt : Nat := 5
    let l : Fin 24 := 2
    let x : Lane := ({ ({} : Lane) with backoffUntil := 5 } : Lane)
    let s : State := (laneIn 5 1 ({ ({} : Lane) with backoffUntil := 5 } : Lane) [])
    s.watch.core = true
      ∧ (∀ e ∈ [96, 97, 98, 99], s.logOnly e = true)
      ∧ s.lane l = x
      ∧ s.laneSt l = 1
      ∧ x.backoffUntil ≤ s.clk + dt := by
  decide +kernel

/-- Clause 18 of LaneTraining. -/
theorem witness_LaneTraining_19 :
    let dt : Nat := 5
    let g : Nat := 4
    let l : Fin 24 := 2
    let x : Lane := ({ ({} : Lane) with linkedSince := some 4 } : Lane)
    let s : State := ({ laneIn 5 5 ({ ({} : Lane) with linkedSince := some 4 } : Lane) [(Reg.LANE_BACKOFF 2, 40)] with clk := 800000000 })
    s.watch.core = true
      ∧ (∀ e ∈ [96, 97, 98, 99], s.logOnly e = true)
      ∧ s.lane l = x
      ∧ s.laneSt l = 5
      ∧ x.linkedSince = some g
      ∧ g + sec 1 ≤ s.clk + dt := by
  decide +kernel

/-- Clauses 1, 4, 5 of LaneSignals. -/
theorem witness_LaneSignals_1 :
    let l : Fin 24 := 2
    let x : Lane := ({} : Lane)
    let s : State := (laneIn 5 517 ({} : Lane) [])
    s.watch.core = true
      ∧ (∀ e ∈ [96, 100, 101], s.logOnly e = true)
      ∧ s.lane l = x
      ∧ s.laneRole l = 5
      ∧ s.laneSt l = 5
      ∧ s.laneBit l 7 = false
      ∧ s.laneBit l 13 = false := by
  decide +kernel

/-- Clause 2 of LaneSignals. -/
theorem witness_LaneSignals_2 :
    let l : Fin 24 := 2
    let x : Lane := ({} : Lane)
    let s : State := (laneIn 5 3 ({} : Lane) [])
    s.watch.core = true
      ∧ (∀ e ∈ [96, 100, 101], s.logOnly e = true)
      ∧ s.lane l = x
      ∧ s.laneRole l = 5
      ∧ s.laneSt l = 3
      ∧ s.laneBit l 7 = false := by
  decide +kernel

/-- Clause 3 of LaneSignals. -/
theorem witness_LaneSignals_3 :
    let dt : Nat := 5
    let l : Fin 24 := 2
    let x : Lane := ({ ({} : Lane) with relockSince := 4 } : Lane)
    let s : State := (laneIn 5 646 ({ ({} : Lane) with relockSince := 4 } : Lane) [])
    s.watch.core = true
      ∧ (∀ e ∈ [96, 100, 101], s.logOnly e = true)
      ∧ s.lane l = x
      ∧ s.laneRole l = 5
      ∧ s.laneSt l = 6
      ∧ s.laneBit l 9 = true
      ∧ s.laneBit l 8 = false
      ∧ s.laneBit l 19 = false
      ∧ s.clk + dt ≤ x.relockSince + ms 1 := by
  decide +kernel

/-- Clause 6 of LaneSignals. -/
theorem witness_LaneSignals_4 :
    let dt : Nat := 5
    let l : Fin 24 := 2
    let x : Lane := ({ ({} : Lane) with relockSince := 4 } : Lane)
    let s : State := (laneIn 5 6 ({ ({} : Lane) with relockSince := 4 } : Lane) [])
    s.watch.core = true
      ∧ (∀ e ∈ [96, 100, 101], s.logOnly e = true)
      ∧ s.lane l = x
      ∧ s.laneRole l = 5
      ∧ s.laneSt l = 6
      ∧ s.laneBit l 7 = false
      ∧ s.laneBit l 8 = false
      ∧ s.laneBit l 19 = false
      ∧ s.clk + dt ≤ x.relockSince + ms 1 := by
  decide +kernel

/-- Clause 7 of LaneSignals. -/
theorem witness_LaneSignals_5 :
    let dt : Nat := 5
    let l : Fin 24 := 2
    let x : Lane := ({ ({} : Lane) with relockSince := 4 } : Lane)
    let s : State := ({ laneIn 5 6 ({ ({} : Lane) with relockSince := 4 } : Lane) [] with clk := 800000 })
    s.watch.core = true
      ∧ (∀ e ∈ [96, 100, 101], s.logOnly e = true)
      ∧ s.lane l = x
      ∧ s.laneSt l = 6
      ∧ x.rejoinSince = none
      ∧ x.relockSince + ms 1 ≤ s.clk + dt := by
  decide +kernel

/-- Clauses 8, 9 of LaneSignals. -/
theorem witness_LaneSignals_6 :
    let l : Fin 24 := 2
    let x : Lane := ({} : Lane)
    let s : State := (laneIn 1 10 ({} : Lane) [])
    s.watch.core = true
      ∧ (∀ e ∈ [96, 100, 101], s.logOnly e = true)
      ∧ s.lane l = x
      ∧ s.laneRole l = 1
      ∧ s.laneSt l ≠ 0
      ∧ s.laneSt l ≠ 7 := by
  decide +kernel

/-- Clause 10 of LaneSignals. -/
theorem witness_LaneSignals_7 :
    let dt : Nat := 5
    let a : Nat := 4
    let l : Fin 24 := 2
    let m : Fin 24 := 9
    let x : Lane := ({ ({} : Lane) with substSince := some 4 } : Lane)
    let s : State := (laneIn 2 1 ({ ({} : Lane) with substSince := some 4 } : Lane) [(Reg.LANE_CFG 9, 1030), (Reg.LANE_STATE 9, 9)])
    s.watch.core = true
      ∧ (∀ e ∈ [96, 100, 101], s.logOnly e = true)
      ∧ s.lane l = x
      ∧ s.groupOf l < 3
      ∧ s.laneBit l 19 = false
      ∧ s.idleReserve (s.groupOf l) = some m.val
      ∧ s.standingIn l = none
      ∧ x.substSince = some a
      ∧ s.clk + dt ≤ a + ms 30 := by
  decide +kernel

/-- Clause 11 of LaneSignals. -/
theorem witness_LaneSignals_8 :
    let dt : Nat := 5
    let a : Nat := 4
    let l : Fin 24 := 2
    let m : Fin 24 := 9
    let x : Lane := ({ ({} : Lane) with substSince := some 4 } : Lane)
    let s : State := ({ laneIn 2 5 ({} : Lane) [(Reg.LANE_CFG 9, 1030), (Reg.LANE_STATE 9, 33284)] with lanes := [(2, { ({} : Lane) with substSince := some 4 }), (9, { ({} : Lane) with standIn := some 2, passed := true, partnerPassed := true, rxSwitch := some 3, txSwitch := some 3 })] })
    s.watch.core = true
      ∧ (∀ e ∈ [96, 100, 101], s.logOnly e = true)
      ∧ s.lane l = x
      ∧ s.groupOf l < 3
      ∧ m ≠ l
      ∧ s.planned l = false
      ∧ s.groupOf m = s.groupOf l
      ∧ s.standingIn l = some m.val
      ∧ (s.advance dt).rungPassed m = true
      ∧ s.laneBit l 13 = false
      ∧ x.substSince = some a
      ∧ s.clk + dt ≤ a + ms 30 := by
  decide +kernel

/-- Clause 12 of LaneSignals. -/
theorem witness_LaneSignals_9 :
    let dt : Nat := 5
    let a : Nat := 4
    let l : Fin 24 := 2
    let x : Lane := ({ ({} : Lane) with substSince := some 4 } : Lane)
    let s : State := ({ laneIn 2 6 ({ ({} : Lane) with substSince := some 4 } : Lane) [] with clk := 24000000 })
    s.watch.core = true
      ∧ (∀ e ∈ [96, 100, 101], s.logOnly e = true)
      ∧ s.lane l = x
      ∧ x.substSince = some a
      ∧ a + ms 30 ≤ s.clk + dt
      ∧ s.groupOf l < 3
      ∧ s.standingIn l = none := by
  decide +kernel

/-- Clause 13 of LaneSignals. -/
theorem witness_LaneSignals_10 :
    let dt : Nat := 5
    let a : Nat := 4
    let l : Fin 24 := 2
    let m : Fin 24 := 9
    let x : Lane := ({ ({} : Lane) with substSince := some 4 } : Lane)
    let s : State := ({ laneIn 2 5 ({} : Lane) [(Reg.LANE_CFG 9, 1030), (Reg.LANE_STATE 9, 33284)] with lanes := [(2, { ({} : Lane) with substSince := some 4 }), (9, { ({} : Lane) with standIn := some 2, passed := true, partnerPassed := true, rxSwitch := some 3, txSwitch := some 3 })], clk := 24000000 })
    s.watch.core = true
      ∧ (∀ e ∈ [96, 100, 101], s.logOnly e = true)
      ∧ s.lane l = x
      ∧ x.substSince = some a
      ∧ a + ms 30 ≤ s.clk + dt
      ∧ s.groupOf l < 3
      ∧ m ≠ l
      ∧ s.standingIn l = some m.val
      ∧ s.planned l = false := by
  decide +kernel

/-- Clause 14 of LaneSignals. -/
theorem witness_LaneSignals_11 :
    let dt : Nat := 5
    let l : Fin 24 := 2
    let x : Lane := ({ ({} : Lane) with downSince := 4 } : Lane)
    let s : State := ({ laneIn 5 1 ({ ({} : Lane) with downSince := 4 } : Lane) [] with clk := 800000000 })
    s.watch.core = true
      ∧ (∀ e ∈ [96, 100, 101], s.logOnly e = true)
      ∧ s.lane l = x
      ∧ s.laneRole l = 5
      ∧ s.laneSt l ≠ 5
      ∧ x.downSince ≠ 0
      ∧ x.downSince + sec 1 ≤ s.clk + dt
      ∧ s.flt.shadows = [] := by
  decide +kernel

/-- Clauses 1, 3, 6, 9, 12 of LaneCommandsAndClocks. -/
theorem witness_LaneCommandsAndClocks_1 :
    let dt : Nat := 5
    let l : Fin 24 := 2
    let s : State := (laneIn 5 2099205 {} [])
    s.watch.core = true
      ∧ (∀ d ∈ [101, 102], s.logOnly d = true)
      ∧ s.isSardy l = true
      ∧ s.laneSt l ≠ 0
      ∧ s.laneSt l ≠ 7
      ∧ s.laneRole l = 5
      ∧ s.laneRole l ≠ 0
      ∧ s.laneSt l = 5
      ∧ bit (s.rn (Reg.LANE_EYE_STAT l)) 0 = false
      ∧ s.laneBit l 13 = false
      ∧ (s.lane l).marginAt.all (fun c => decide (c + sec 10 ≤ s.clk + dt)) = true := by
  decide +kernel

/-- Clause 2 of LaneCommandsAndClocks. -/
theorem witness_LaneCommandsAndClocks_2 :
    let l : Fin 24 := 2
    let s : State := (laneIn 1 5 {} [])
    s.watch.core = true
      ∧ (∀ d ∈ [101, 102], s.logOnly d = true)
      ∧ s.laneRole l = 1 := by
  decide +kernel

/-- Clauses 4, 8 of LaneCommandsAndClocks. -/
theorem witness_LaneCommandsAndClocks_3 :
    let l : Fin 24 := 2
    let s : State := (laneIn 5 7 {} [])
    s.watch.core = true
      ∧ (∀ d ∈ [101, 102], s.logOnly d = true)
      ∧ s.laneRole l = 5
      ∧ s.laneSt l = 7 := by
  decide +kernel

/-- Clause 5 of LaneCommandsAndClocks. -/
theorem witness_LaneCommandsAndClocks_4 :
    let l : Fin 24 := 2
    let m : Fin 24 := 9
    let s : State := (laneIn 2 8197 {} [(Reg.LANE_CFG 9, 1030), (Reg.LANE_STATE 9, 9)])
    s.watch.core = true
      ∧ (∀ d ∈ [101, 102], s.logOnly d = true)
      ∧ s.laneBit l 13 = true
      ∧ s.laneBit l 19 = false
      ∧ s.idleReserve (s.groupOf l) = some m.val
      ∧ s.rsv.running = [] := by
  decide +kernel

/-- Clause 7 of LaneCommandsAndClocks. -/
theorem witness_LaneCommandsAndClocks_5 :
    let l : Fin 24 := 2
    let s : State := (laneIn 5 0 {} [])
    s.watch.core = true
      ∧ (∀ d ∈ [101, 102], s.logOnly d = true)
      ∧ s.laneRole l = 5
      ∧ s.laneSt l = 0 := by
  decide +kernel

/-- Clause 10 of LaneCommandsAndClocks. -/
theorem witness_LaneCommandsAndClocks_6 :
    let l : Fin 24 := 2
    let v : Word := 0x80050000
    let s : State := (laneIn 5 5 {} [])
    s.watch.core = true
      ∧ (∀ d ∈ [101, 102], s.logOnly d = true)
      ∧ s.laneSt l = 5
      ∧ bit v.toNat 31 = true
      ∧ s.rn (Reg.LANE_EYE_STAT l) = 0
      ∧ signed 7 (bits v.toNat 6 0) = 0
      ∧ signed 7 (bits v.toNat 13 7) = 0
      ∧ bits v.toNat 19 14 = 20 := by
  decide +kernel

/-- Clause 11 of LaneCommandsAndClocks. -/
theorem witness_LaneCommandsAndClocks_7 :
    let dt : Nat := 5
    let a : Nat := 7
    let w : Nat := 20
    let l : Fin 24 := 2
    let s : State := ({ laneIn 5 5 { ({} : Lane) with eye := some (7, 20) } [(Reg.LANE_EYE_STAT 2, 1)] with clk := 700000 })
    s.watch.core = true
      ∧ (∀ d ∈ [101, 102], s.logOnly d = true)
      ∧ bit (s.rn (Reg.LANE_EYE_STAT l)) 0 = true
      ∧ (s.lane l).eye = some (a, w)
      ∧ a + bitClocks (s.laneRate l) (2 ^ w) ≤ s.clk + dt := by
  decide +kernel

/-- Clause 13 of LaneCommandsAndClocks. -/
theorem witness_LaneCommandsAndClocks_8 :
    let l : Fin 24 := 2
    let s : State := (laneIn 5 5 {} [(Reg.CLK_STAT, 31)])
    s.watch.core = true
      ∧ (∀ d ∈ [101, 102], s.logOnly d = true)
      ∧ s.fld (Reg.LANE_PRBS_CFG l) 3 2 = 0 := by
  decide +kernel

/-- Clause 14 of LaneCommandsAndClocks. -/
theorem witness_LaneCommandsAndClocks_9 :
    let l : Fin 24 := 2
    let s : State := (laneIn 5 5 {} [(Reg.LANE_PRBS_CFG 2, 4)])
    s.watch.core = true
      ∧ (∀ d ∈ [101, 102], s.logOnly d = true)
      ∧ s.fld (Reg.LANE_PRBS_CFG l) 3 2 ≠ 0
      ∧ (s.lane l).prbsBits < (prbsTaps (s.fld (Reg.LANE_PRBS_CFG l) 3 2)).1 := by
  decide +kernel

/-- Clause 15 of LaneCommandsAndClocks. -/
theorem witness_LaneCommandsAndClocks_10 :
    let l : Fin 24 := 2
    let s : State := (laneIn 5 5 { ({} : Lane) with prbsBits := 7, prbsReg := 5 } [(Reg.LANE_PRBS_CFG 2, 4), (Reg.LANE_PRBS_STAT 2, 1)])
    s.watch.core = true
      ∧ (∀ d ∈ [101, 102], s.logOnly d = true)
      ∧ s.fld (Reg.LANE_PRBS_CFG l) 3 2 ≠ 0
      ∧ (prbsTaps (s.fld (Reg.LANE_PRBS_CFG l) 3 2)).1 ≤ (s.lane l).prbsBits
      ∧ bit (s.rn (Reg.LANE_PRBS_STAT l)) 0 = true := by
  decide +kernel

/-- Clauses 16, 17, 18, 19 of LaneCommandsAndClocks. -/
theorem witness_LaneCommandsAndClocks_11 :
    let s : State := (laneIn 5 5 {} [(Reg.CLK_STAT, 31)])
    s.watch.core = true
      ∧ (∀ d ∈ [101, 102], s.logOnly d = true)
      ∧ bit (s.rn Reg.CLK_STAT) 0 = true := by
  decide +kernel

/-- A BEACON for a tile lane. -/
def goodPacket : List Byte := beaconPacket false 1 77

def withTwin (s : State) (f : TwinState → TwinState) : State := { s with twin := f s.twin }
def withSlk (s : State) (f : SlkState → SlkState) : State := { s with slk := f s.slk }

/-- Lane 2 in service as member 0 of group CA. -/
def groupLane (more : List (Nat × Nat)) : State :=
  laneIn 2 (5 + 512 + 8192) {} ([(Reg.SLK_TOPO, 1), (Reg.SLK_HOP_LIMIT, 16)] ++ more)

/-- A device of a twin with TWIN_STAT. -/
def twinIn (stat : Nat) (f : TwinState → TwinState) : State :=
  withTwin (withRegs [(Reg.TWIN_CFG, 11), (Reg.TWIN_STAT, stat), (Reg.SLK_NODE_ID, 77)]) f

/-- Clause 1 of LinkPackets. -/
theorem witness_LinkPackets_1 :
    let l : Fin 24 := 2
    let g : Fin 3 := 0
    let b : SlkBlock := ⟨0, zeros 8⟩
    let x : TimeLink := ((laneIn 5 5 {} []).timeLink 0)
    let s : State := (laneIn 5 5 {} [])
    s.watch.core = true
      ∧ s.logOnly 128 = true
      ∧ s.logOnly 129 = true
      ∧ s.timeLink g = x
      ∧ s.laneRole l = 5
      ∧ blockInvalid b = true := by
  decide +kernel

/-- Clause 2 of LinkPackets. -/
theorem witness_LinkPackets_2 :
    let l : Fin 24 := 2
    let g : Fin 3 := 0
    let b : SlkBlock := ⟨1, goodPacket.drop 15⟩
    let p : List Byte := (goodPacket.take 15)
    let x : TimeLink := ((let s := laneIn 5 5 {} []; { s with phy := { s.phy with rx := [(10, goodPacket.take 15)] } }).timeLink 0)
    let s : State := (let s := laneIn 5 5 {} []; { s with phy := { s.phy with rx := [(10, goodPacket.take 15)] } })
    s.watch.core = true
      ∧ s.logOnly 128 = true
      ∧ s.logOnly 129 = true
      ∧ s.timeLink g = x
      ∧ s.laneRole l = 5
      ∧ b.sync = 1
      ∧ tabGet? s.phy.rx (8 + l) = some p
      ∧ p ≠ []
      ∧ (p ++ b.bytes).length = 7 + 8 * pkt (p ++ b.bytes) 2 2
      ∧ packetGood (p ++ b.bytes) = true
      ∧ typeOk true (pkt (p ++ b.bytes) 0 1) = true
      ∧ slkHeaderOk true (p ++ b.bytes) = true
      ∧ fieldsOk (p ++ b.bytes) = true := by
  decide +kernel

/-- Clause 3 of LinkPackets. -/
theorem witness_LinkPackets_3 :
    let l : Fin 24 := 2
    let g : Fin 3 := 0
    let b : SlkBlock := ⟨1, zeros 8⟩
    let p : List Byte := (goodPacket.take 15)
    let x : TimeLink := ((let s := laneIn 5 5 {} []; { s with phy := { s.phy with rx := [(10, goodPacket.take 15)] } }).timeLink 0)
    let s : State := (let s := laneIn 5 5 {} []; { s with phy := { s.phy with rx := [(10, goodPacket.take 15)] } })
    s.watch.core = true
      ∧ s.logOnly 128 = true
      ∧ s.logOnly 129 = true
      ∧ s.timeLink g = x
      ∧ s.laneRole l = 5
      ∧ b.sync = 1
      ∧ tabGet? s.phy.rx (8 + l) = some p
      ∧ p ≠ []
      ∧ (p ++ b.bytes).length = 7 + 8 * pkt (p ++ b.bytes) 2 2
      ∧ packetGood (p ++ b.bytes) = false := by
  decide +kernel

/-- Clauses 4, 6 of LinkPackets. -/
theorem witness_LinkPackets_4 :
    let dt : Nat := 5
    let tal : Nat := 7
    let g : Fin 3 := 0
    let x : TimeLink := ((withTime (groupLane []) fun x => { x with stepAt := some 7, stepDelta := 4 }).timeLink 0)
    let t3 : Int := ((((withTime (groupLane []) fun x => { x with stepAt := some 7, stepDelta := 4 }).advance 5).advance (((withTime (groupLane []) fun x => { x with stepAt := some 7, stepDelta := 4 }).advance 5).txWait 0 7)).linkTxStamp 0)
    let s : State := (withTime (groupLane []) fun x => { x with stepAt := some 7, stepDelta := 4 })
    s.watch.core = true
      ∧ s.logOnly 128 = true
      ∧ s.logOnly 129 = true
      ∧ s.timeLink g = x
      ∧ (s.inGroup g).isEmpty = false
      ∧ x.dueAt ≤ s.clk + dt
      ∧ t3 = ((s.advance dt).advance ((s.advance dt).txWait g 7)).linkTxStamp g
      ∧ s.time.stepAt = some tal
      ∧ s.liveGroups = [g.val] := by
  decide +kernel

/-- Clause 5 of LinkPackets. -/
theorem witness_LinkPackets_5 :
    let dt : Nat := 5
    let g : Fin 3 := 0
    let k : TimePacket := ({ txStamp := 1000, seq := 4, echoSeq := 9, echoRx := 5000, echoValid := true, sender := 12, rootNode := 12, rootHops := 0, locked := false, root := false, stepValid := false, stepTally := 0, stepNs := 0 } : TimePacket)
    let x : TimeLink := ((withSlk State.reset fun k => { k with timeLinks := [(0, { sent := [(9, 900, 2)], got := [(9, 100, 250)] })] }).timeLink 0)
    let t1 : Int := 100
    let t2 : Int := 250
    let t3 : Int := 900
    let a : Nat := 2
    let s : State := (withSlk State.reset fun k => { k with timeLinks := [(0, { sent := [(9, 900, 2)], got := [(9, 100, 250)] })] })
    s.watch.core = true
      ∧ s.logOnly 128 = true
      ∧ s.logOnly 129 = true
      ∧ s.timeLink g = x
      ∧ x.sent = [(k.echoSeq, t3, a)]
      ∧ s.clk + dt ≤ a + ms 10
      ∧ x.got = [(k.echoSeq, t1, t2)]
      ∧ k.echoValid = true
      ∧ x.peerStep = none
      ∧ s.portMode (5 + g) ≠ 5
      ∧ k.stepValid = false := by
  decide +kernel

/-- Clause 7 of LinkPackets. -/
theorem witness_LinkPackets_6 :
    let dt : Nat := 5
    let tal : Nat := 9
    let d : Int := -3
    let g : Fin 3 := 0
    let x : TimeLink := ((withTime State.reset fun x => { x with source := 6 }).timeLink 0)
    let s : State := (withTime State.reset fun x => { x with source := 6 })
    s.watch.core = true
      ∧ s.logOnly 128 = true
      ∧ s.logOnly 129 = true
      ∧ s.timeLink g = x
      ∧ s.time.source = 6 + g.val
      ∧ s.time.stepAt = none
      ∧ s.time.lastStep ≠ some (tal % 2 ^ 32, d)
      ∧ (s.advance dt).tally < tal
      ∧ tal < (s.advance dt).tally + 1000
      ∧ (s.advance dt).ns < s.tp tal := by
  decide +kernel

/-- Clauses 8, 9 of LinkPackets. -/
theorem witness_LinkPackets_7 :
    let l : Fin 24 := 2
    let g : Fin 3 := 0
    let x : TimeLink := ((laneIn 5 5 {} []).timeLink 0)
    let s : State := (laneIn 5 5 {} [])
    s.watch.core = true
      ∧ s.logOnly 128 = true
      ∧ s.logOnly 129 = true
      ∧ s.timeLink g = x
      ∧ s.laneRole l = 5
      ∧ s.laneSt l = 5
      ∧ (s.lpi l).idle = false
      ∧ s.slk.regWait = []
      ∧ s.ferry.waiting = [] := by
  decide +kernel

/-- Clause 10 of LinkPackets. -/
theorem witness_LinkPackets_8 :
    let l : Fin 24 := 2
    let g : Fin 3 := 0
    let x : TimeLink := ((groupLane []).timeLink 0)
    let s : State := (groupLane [])
    s.watch.core = true
      ∧ s.logOnly 128 = true
      ∧ s.logOnly 129 = true
      ∧ s.timeLink g = x
      ∧ s.carriers g = [l.val] := by
  decide +kernel

/-- Clause 1 of CaravanTraffic. -/
theorem witness_CaravanTraffic_1 :
    let hops : Nat := 3
    let o : Nat := 12
    let n : Nat := 40
    let g : Fin 3 := 0
    let h : Fin 3 := 1
    let p : List Byte := (mgmtPacket 3 12 40 [])
    let s : State := (withTwin (groupLane [(Reg.LANE_CFG 9, 3), (Reg.LANE_STATE 9, 5 + 8192)]) fun t => { t with routes := [⟨40, 1, 2, 0⟩] })
    s.watch.core = true
      ∧ (∀ e ∈ [130, 131, 133, 144], s.logOnly e = true)
      ∧ pkt p 0 1 = 0x21
      ∧ pkt p 4 2 = hops
      ∧ packetEnds p = (o, n)
      ∧ o ≠ s.nodeId
      ∧ n ≠ s.nodeId
      ∧ n ≠ 0xFFFFFFFF
      ∧ s.topo = 1
      ∧ hops + 1 < s.fld Reg.SLK_HOP_LIMIT 15 0
      ∧ o ≠ n
      ∧ (s.twin.routes.find? (·.node == n)).map (·.group) = some h.val
      ∧ h ≠ g
      ∧ s.fld (Reg.SLK_GRP_STAT h) 18 16 ≤ pkt (rehop p) 1 1 / 32
      ∧ s.twin.routes.length < 65536 := by
  decide +kernel

/-- Clause 2 of CaravanTraffic. -/
theorem witness_CaravanTraffic_2 :
    let hops : Nat := 15
    let o : Nat := 12
    let n : Nat := 40
    let p : List Byte := (mgmtPacket 15 12 40 [])
    let s : State := (groupLane [])
    s.watch.core = true
      ∧ (∀ e ∈ [130, 131, 133, 144], s.logOnly e = true)
      ∧ pkt p 0 1 = 0x21
      ∧ pkt p 4 2 = hops
      ∧ packetEnds p = (o, n)
      ∧ o ≠ s.nodeId
      ∧ n ≠ s.nodeId
      ∧ s.fld Reg.SLK_HOP_LIMIT 15 0 ≤ hops + 1 := by
  decide +kernel

/-- Clause 3 of CaravanTraffic. -/
theorem witness_CaravanTraffic_3 :
    let line : Nat := 0
    let px : Nat := 0
    let cnt : Nat := 1
    let r : Fin 32 := 31
    let k : StreamPacket := (((let s := withRcv 31 { cfg := { ({} : SrcCfg) with cfg := 0x00A00880, size := 0x00100010 }, newest := some 0, bufs := [{ held := true, whole := true, media := 0, addr := 0x19000000, cfg := { ({} : SrcCfg) with cfg := 0x00A00880, size := 0x00100010 } }] }; (s.wn Reg.SLK_TOPO 1).wn (Reg.ING_SRC_EXPORT 31) 0x505).exportPacket ((let s := withRcv 31 { cfg := { ({} : SrcCfg) with cfg := 0x00A00880, size := 0x00100010 }, newest := some 0, bufs := [{ held := true, whole := true, media := 0, addr := 0x19000000, cfg := { ({} : SrcCfg) with cfg := 0x00A00880, size := 0x00100010 } }] }; (s.wn Reg.SLK_TOPO 1).wn (Reg.ING_SRC_EXPORT 31) 0x505).rcv 31) 5 0 0 1).getD ⟨0, 77, 5, 0, 2, 2, 0, 0, 0, [[7]]⟩)
    let s : State := (let s := withRcv 31 { cfg := { ({} : SrcCfg) with cfg := 0x00A00880, size := 0x00100010 }, newest := some 0, bufs := [{ held := true, whole := true, media := 0, addr := 0x19000000, cfg := { ({} : SrcCfg) with cfg := 0x00A00880, size := 0x00100010 } }] }; (s.wn Reg.SLK_TOPO 1).wn (Reg.ING_SRC_EXPORT 31) 0x505)
    s.watch.core = true
      ∧ (∀ e ∈ [130, 131, 133, 144], s.logOnly e = true)
      ∧ bit (s.rn (Reg.ING_SRC_EXPORT r)) 8 = true
      ∧ s.topo = 1
      ∧ bits (s.rn (Reg.ING_SRC_EXPORT r)) 11 9 = 2
      ∧ s.fld (Reg.SLK_GRP_STAT 1) 18 16 = 0
      ∧ s.exportPacket (s.rcv r) (bits (s.rn (Reg.ING_SRC_EXPORT r)) 7 0) line px cnt = some k := by
  decide +kernel

/-- Clause 4 of CaravanTraffic. -/
theorem witness_CaravanTraffic_4 :
    let dt : Nat := 5
    let o : Nat := 12
    let q : Nat := 9
    let s : State := (withTwin (groupLane []) fun t => { t with dupMgmt := [((12, 9), 0)] })
    s.watch.core = true
      ∧ (∀ e ∈ [130, 131, 133, 144], s.logOnly e = true)
      ∧ o ≠ s.nodeId
      ∧ s.twin.dupMgmt = [((o, q), s.clk)]
      ∧ dt < ms 10 := by
  decide +kernel

/-- Clauses 5, 10, 12 of CaravanTraffic. -/
theorem witness_CaravanTraffic_5 :
    let o : Nat := 12
    let q : Nat := 9
    let g : Fin 3 := 0
    let m : List Byte := []
    let s : State := (groupLane [(Reg.SYS_UID 1, 4)])
    s.watch.core = true
      ∧ (∀ e ∈ [130, 131, 133, 144], s.logOnly e = true)
      ∧ o ≠ s.nodeId
      ∧ s.twin.dupMgmt = []
      ∧ oct m 3 1 % 8 ≠ 4
      ∧ oct m 3 1 % 8 ≠ 5
      ∧ s.twin.dupNode = false
      ∧ s.topo = 1
      ∧ s.liveGroups = [g.val]
      ∧ s.fld (Reg.SLK_GRP_STAT g) 18 16 ≤ 6
      ∧ s.twin.presence = none
      ∧ (List.range 4).foldr (fun i a => a * 2 ^ 32 + s.rn (Reg.SYS_UID i)) 0 ≠ q := by
  decide +kernel

/-- Clause 6 of CaravanTraffic. -/
theorem witness_CaravanTraffic_6 :
    let g : Fin 3 := 0
    let l : Fin 24 := 2
    let s : State := (groupLane [(Reg.SLK_GRP_STAT 0, 0xF000)])
    s.watch.core = true
      ∧ (∀ e ∈ [130, 131, 133, 144], s.logOnly e = true)
      ∧ s.inGroup g = [l.val]
      ∧ s.fld (Reg.SLK_GRP_STAT g) 15 12 = 15
      ∧ s.fld (Reg.SLK_GRP_STAT g) 3 0 = 0
      ∧ s.memberNo l = 0
      ∧ s.phy.demand = []
      ∧ tabGet? s.slk.amCount g = none := by
  decide +kernel

/-- Clause 7 of CaravanTraffic. -/
theorem witness_CaravanTraffic_7 :
    let s : State := (groupLane [])
    s.watch.core = true
      ∧ (∀ e ∈ [130, 131, 133, 144], s.logOnly e = true) := by
  decide +kernel

/-- Clause 8 of CaravanTraffic. -/
theorem witness_CaravanTraffic_8 :
    let dt : Nat := 5
    let c : Nat := 513
    let g : Fin 3 := 0
    let l : Fin 24 := 2
    let s : State := (let s := groupLane [(Reg.LANE_CFG 3, 2), (Reg.LANE_STATE 3, 5 + 8192)]; { s with clk := 600, phy := { s.phy with stripes := [(0, { aligns := [(2, 5, 600), (3, 5, 87)] })] } })
    s.watch.core = true
      ∧ (∀ e ∈ [130, 131, 133, 144], s.logOnly e = true)
      ∧ (s.advance dt).groupSkew g = (c, l.val)
      ∧ 640 < clocksNs c
      ∧ s.groupOf l = g
      ∧ s.laneBit l 13 = true := by
  decide +kernel

/-- Clause 9 of CaravanTraffic. -/
theorem witness_CaravanTraffic_9 :
    let dt : Nat := 5
    let c : Nat := 0
    let g : Fin 3 := 0
    let l : Fin 24 := 2
    let s : State := (let s := groupLane []; { s with clk := 600, phy := { s.phy with stripes := [(0, { aligns := [(2, 5, 600)] })] } })
    s.watch.core = true
      ∧ (∀ e ∈ [130, 131, 133, 144], s.logOnly e = true)
      ∧ (s.advance dt).groupSkew g = (c, l.val)
      ∧ clocksNs c ≤ 640
      ∧ tabGet? s.slk.skewSince g = none := by
  decide +kernel

/-- Clause 11 of CaravanTraffic. -/
theorem witness_CaravanTraffic_10 :
    let n : Nat := 40
    let s : State := (groupLane [])
    s.watch.core = true
      ∧ (∀ e ∈ [130, 131, 133, 144], s.logOnly e = true)
      ∧ n ≠ s.nodeId
      ∧ s.twin.routes = [] := by
  decide +kernel

/-- Clause 13 of CaravanTraffic. -/
theorem witness_CaravanTraffic_11 :
    let dt : Nat := 2800000000
    let hops : Nat := 3
    let n : Nat := 40
    let g : Fin 3 := 0
    let s : State := (withTwin (groupLane []) fun t => { t with routes := [⟨40, 0, 3, 0⟩] })
    s.watch.core = true
      ∧ (∀ e ∈ [130, 131, 133, 144], s.logOnly e = true)
      ∧ s.twin.routes = [⟨n, g, hops, s.clk⟩]
      ∧ ms 3500 ≤ dt := by
  decide +kernel

/-- Clause 1 of TwinElection. -/
theorem witness_TwinElection_1 :
    let dt : Nat := 0
    let q : Nat := 1
    let s : State := (let s := twinIn 2 id; (s.wn (Reg.LANE_CFG 2) 2).wn (Reg.LANE_STATE 2) (5 + 8192))
    s.watch.core = true
      ∧ (∀ e ∈ [146, 147, 148, 149, 150], s.logOnly e = true)
      ∧ bit (s.rn Reg.TWIN_CFG) 0 = true
      ∧ (s.advance dt).heartbeatDue = true
      ∧ bit (s.rn Reg.TWIN_CFG) 3 = true
      ∧ q = (s.twin.hbSeq + 1) % 65536 := by
  decide +kernel

/-- Clauses 2, 9 of TwinElection. -/
theorem witness_TwinElection_2 :
    let h : Heartbeat := ⟨12, 2, true, 3, 0, 8, 0⟩
    let crc : Word := 0
    let s : State := (twinIn 2 id)
    s.watch.core = true
      ∧ (∀ e ∈ [146, 147, 148, 149, 150], s.logOnly e = true)
      ∧ bit (s.rn Reg.TWIN_CFG) 0 = true
      ∧ bit (s.rn Reg.TWIN_CFG) 3 = true
      ∧ crc32c (bellBytes h) ≠ crc
      ∧ s.role = 2 := by
  decide +kernel

/-- Clause 3 of TwinElection. -/
theorem witness_TwinElection_3 :
    let dt : Nat := 5
    let q : Nat := 4
    let c : Nat := 5
    let h : Heartbeat := ⟨12, 2, true, 3, 0, 8, 0⟩
    let crc : Word := (packetCheck (heartbeatPacket ⟨12, 2, true, 3, 0, 8, 0⟩))
    let s : State := (twinIn 2 fun t => { t with hbBell := some (5, 4) })
    s.watch.core = true
      ∧ (∀ e ∈ [146, 147, 148, 149, 150], s.logOnly e = true)
      ∧ bit (s.rn Reg.TWIN_CFG) 0 = true
      ∧ packetCheck (heartbeatPacket h) = crc
      ∧ fieldsOk (heartbeatPacket h) = true
      ∧ s.rn Reg.TWIN_PEER = 0
      ∧ s.twin.hbGroup = none
      ∧ s.twin.hbBell = some (c, q)
      ∧ s.clk + dt < c + ms 1
      ∧ s.role = 2
      ∧ h.sender < 2 ^ 32 := by
  decide +kernel

/-- Clause 4 of TwinElection. -/
theorem witness_TwinElection_4 :
    let dt : Nat := 5
    let q : Nat := 4
    let c : Nat := 5
    let h : Heartbeat := ⟨12, 1, true, 3, 0, 8, 0⟩
    let crc : Word := (packetCheck (heartbeatPacket ⟨12, 1, true, 3, 0, 8, 0⟩))
    let s : State := (twinIn 1 fun t => { t with hbBell := some (5, 4) })
    s.watch.core = true
      ∧ (∀ e ∈ [146, 147, 148, 149, 150], s.logOnly e = true)
      ∧ bit (s.rn Reg.TWIN_CFG) 0 = true
      ∧ packetCheck (heartbeatPacket h) = crc
      ∧ fieldsOk (heartbeatPacket h) = true
      ∧ s.rn Reg.TWIN_PEER = 0
      ∧ s.twin.hbGroup = none
      ∧ s.twin.hbBell = some (c, q)
      ∧ s.clk + dt < c + ms 1
      ∧ s.role = 1
      ∧ h.sender < 2 ^ 32
      ∧ h.role = 1
      ∧ s.rn Reg.TWIN_EPOCH < h.leadEpoch := by
  decide +kernel

/-- Clause 5 of TwinElection. -/
theorem witness_TwinElection_5 :
    let dt : Nat := 160000
    let q : Nat := 4
    let c : Nat := 0
    let s : State := (twinIn 26 fun t => { t with hbBell := some (0, 4) })
    s.watch.core = true
      ∧ (∀ e ∈ [146, 147, 148, 149, 150], s.logOnly e = true)
      ∧ bit (s.rn Reg.TWIN_CFG) 0 = true
      ∧ s.twin.hbBell = some (c, q)
      ∧ c + us 200 ≤ s.clk + dt
      ∧ bit (s.rn Reg.TWIN_STAT) 4 = true := by
  decide +kernel

/-- Clause 6 of TwinElection. -/
theorem witness_TwinElection_6 :
    let dt : Nat := 800000
    let s : State := (twinIn 6 id)
    s.watch.core = true
      ∧ (∀ e ∈ [146, 147, 148, 149, 150], s.logOnly e = true)
      ∧ bit (s.rn Reg.TWIN_CFG) 0 = true
      ∧ s.role = 2
      ∧ s.eligible = true
      ∧ s.twin.hbGroup = none
      ∧ s.twin.hbBell = none
      ∧ s.twin.witnesses = []
      ∧ s.twin.eligibleSince + ms 1 ≤ s.clk + dt
      ∧ max (s.rn Reg.TWIN_EPOCH) (s.rn Reg.TWIN_PEER_EPOCH) + 1 < 2 ^ 32 := by
  decide +kernel

/-- Clause 7 of TwinElection. -/
theorem witness_TwinElection_7 :
    let dt : Nat := 5
    let c : Nat := 800001
    let w : Witness := ⟨5, 3, true, 1⟩
    let s : State := (twinIn 5 fun t => { t with witnesses := [⟨5, 3, true, 1⟩], lastRise := some 800001 })
    s.watch.core = true
      ∧ (∀ e ∈ [146, 147, 148, 149, 150], s.logOnly e = true)
      ∧ bit (s.rn Reg.TWIN_CFG) 0 = true
      ∧ s.role = 1
      ∧ s.twin.witnesses = [w]
      ∧ w.hears = true
      ∧ w.role = 1
      ∧ s.clk + dt ≤ w.clk + us 100
      ∧ s.twin.lastRise = some c
      ∧ s.twin.promotedAt + ms 1 < c := by
  decide +kernel

/-- Clause 8 of TwinElection. -/
theorem witness_TwinElection_8 :
    let s : State := (twinIn 5 id)
    s.watch.core = true
      ∧ (∀ e ∈ [146, 147, 148, 149, 150], s.logOnly e = true)
      ∧ bit (s.rn Reg.TWIN_CFG) 0 = true
      ∧ s.role = 1 := by
  decide +kernel

/-- Clauses 1, 2, 7 of SeaTrialAndMirror. -/
theorem witness_SeaTrialAndMirror_1 :
    let dig : Nat := 0
    let s : State := (twinIn 0 fun t => { t with digestDue := true })
    s.watch.core = true
      ∧ (∀ e ∈ [151, 152, 153], s.logOnly e = true)
      ∧ bit (s.rn Reg.TWIN_CFG) 0 = true
      ∧ s.fld Reg.TWIN_STAT 11 9 = 0
      ∧ s.fld Reg.TWIN_STAT 11 9 ≠ 1
      ∧ s.twin.digestDue = true
      ∧ dig = s.pair Reg.TWIN_DIGEST := by
  decide +kernel

/-- Clauses 3, 4, 5 of SeaTrialAndMirror. -/
theorem witness_SeaTrialAndMirror_2 :
    let dt : Nat := 5
    let s : State := (twinIn 0x200 id)
    s.watch.core = true
      ∧ (∀ e ∈ [151, 152, 153], s.logOnly e = true)
      ∧ bit (s.rn Reg.TWIN_CFG) 0 = true
      ∧ s.fld Reg.TWIN_STAT 11 9 = 1
      ∧ s.twin.heldDown ≤ 1
      ∧ (s.fltInst 152 0).cond = false
      ∧ (s.advance dt).trialLinksOk = true
      ∧ (s.trialLanes.all fun l => s.linked l) = true := by
  decide +kernel

/-- Clause 6 of SeaTrialAndMirror. -/
theorem witness_SeaTrialAndMirror_3 :
    let dt : Nat := 5
    let c : Nat := 3
    let s : State := ({ twinIn 0 fun t => { t with trialFailAt := some 3 } with clk := 48000000000 })
    s.watch.core = true
      ∧ (∀ e ∈ [151, 152, 153], s.logOnly e = true)
      ∧ bit (s.rn Reg.TWIN_CFG) 0 = true
      ∧ s.twin.trialFailAt = some c
      ∧ c + sec 60 ≤ s.clk + dt := by
  decide +kernel

/-- Clauses 8, 9, 12 of SeaTrialAndMirror. -/
theorem witness_SeaTrialAndMirror_4 :
    let dig : Nat := 5
    let m : MirrorInput := (.ltc 5)
    let g : Fin 3 := 0
    let s : State := (twinIn 6 fun t => { t with digestDue := true })
    s.watch.core = true
      ∧ (∀ e ∈ [151, 152, 153], s.logOnly e = true)
      ∧ bit (s.rn Reg.TWIN_CFG) 0 = true
      ∧ s.twin.digestDue = true
      ∧ dig < 2 ^ 64
      ∧ dig ≠ s.pair Reg.TWIN_DIGEST
      ∧ s.role = 2
      ∧ (match m with | .ambient _ => false | _ => true) = true
      ∧ s.fld Reg.TWIN_CFG 2 1 = g.val + 1
      ∧ (s.inGroup g).isEmpty = true := by
  decide +kernel

/-- Clause 10 of SeaTrialAndMirror. -/
theorem witness_SeaTrialAndMirror_5 :
    let tal : Nat := 9
    let dig : Nat := 900
    let s : State := ((twinIn 2 id).wn Reg.CAL_AMB_CFG 0x00080001)
    s.watch.core = true
      ∧ (∀ e ∈ [151, 152, 153], s.logOnly e = true)
      ∧ bit (s.rn Reg.TWIN_CFG) 0 = true
      ∧ s.role = 2
      ∧ bit (s.rn Reg.CAL_AMB_CFG) 0 = true
      ∧ dig < 2 ^ 32
      ∧ tal < 2 ^ 32 := by
  decide +kernel

/-- Clause 11 of SeaTrialAndMirror. -/
theorem witness_SeaTrialAndMirror_6 :
    let s : State := (twinIn 1 id)
    s.watch.core = true
      ∧ (∀ e ∈ [151, 152, 153], s.logOnly e = true)
      ∧ bit (s.rn Reg.TWIN_CFG) 0 = true
      ∧ s.role ≠ 2 := by
  decide +kernel

/-- MAC 1 in use on lane 2, with what the MAC holds. -/
def macIn (x : MacState) (more : List (Nat × Nat)) : State :=
  { withRegs ([(Reg.LANE_CFG 2, 65), (Reg.LANE_STATE 2, 5), (Reg.MAC_CFG 1, 0x22)] ++ more) with macs := [(1, x)], clk := 2000000 }

/-- The same where a receiver takes group 224.0.1.2 on MAC 1. -/
def macJoin (x : MacState) : State :=
  { macIn x [] with pipe := { State.reset.pipe with
      receivers := [(31, { berth := some 3, cfg := { p0Addr := 0xE0000102, p0Port := 0x00050000 } })] } }

/-- A frame of 64 octets of an EtherType whose following octets are given, with its FCS. -/
def frame64 (etype : Nat) (l : List Byte) : List Byte :=
  let f := [1#8, 0x80#8, 0xC2#8, 0#8, 0#8, 1#8, 2#8, 4#8, 6#8, 8#8, 10#8, 12#8] ++ beBytes 2 etype ++ l
  wireFrame none f

/-- Clause 1 of EthernetMacs. -/
theorem witness_EthernetMacs_1 :
    let m : Fin 5 := 1
    let f : List Byte := [1#8]
    let x : MacState := (State.mac (macIn {} []) 1)
    let s : State := (macIn {} [])
    s.watch.core = true
      ∧ (∀ d ∈ [160, 161, 162, 163, 164], s.logOnly d = true)
      ∧ s.mac m = x
      ∧ s.macDisabled m = false
      ∧ bit (s.rn (Reg.MAC_CFG m)) 5 = true
      ∧ s.inReset (.mac m) = false
      ∧ f.length < 64 := by
  decide +kernel

/-- Clause 2 of EthernetMacs. -/
theorem witness_EthernetMacs_2 :
    let m : Fin 5 := 1
    let x : MacState := (State.mac State.reset 1)
    let s : State := State.reset
    s.watch.core = true
      ∧ (∀ d ∈ [160, 161, 162, 163, 164], s.logOnly d = true)
      ∧ s.mac m = x
      ∧ bit (s.rn (Reg.MAC_CFG m)) 5 = false := by
  decide +kernel

/-- Clause 3 of EthernetMacs. -/
theorem witness_EthernetMacs_3 :
    let m : Fin 5 := 1
    let f : List Byte := (List.replicate 64 1#8)
    let x : MacState := (State.mac (macIn {} []) 1)
    let s : State := (macIn {} [])
    s.watch.core = true
      ∧ (∀ d ∈ [160, 161, 162, 163, 164], s.logOnly d = true)
      ∧ s.mac m = x
      ∧ s.macDisabled m = false
      ∧ bit (s.rn (Reg.MAC_CFG m)) 5 = true
      ∧ s.inReset (.mac m) = false
      ∧ 64 ≤ f.length
      ∧ f.length ≤ 9216
      ∧ fcsGood f = false
      ∧ x.fcs.length < 99 := by
  decide +kernel

/-- Clause 4 of EthernetMacs. -/
theorem witness_EthernetMacs_4 :
    let dt : Nat := 5
    let m : Fin 5 := 1
    let f : List Byte := (frame64 0x88B5 [])
    let x : MacState := (State.mac (macIn {} []) 1)
    let s : State := (macIn {} [])
    s.watch.core = true
      ∧ (∀ d ∈ [160, 161, 162, 163, 164], s.logOnly d = true)
      ∧ s.mac m = x
      ∧ s.macDisabled m = false
      ∧ bit (s.rn (Reg.MAC_CFG m)) 5 = true
      ∧ s.inReset (.mac m) = false
      ∧ 64 ≤ f.length
      ∧ f.length ≤ 9216
      ∧ fcsGood f = true
      ∧ oct (f.take (f.length - 4)) 12 2 ≠ 0x8808
      ∧ (frameKey (f.take (f.length - 4))).2.1 = true
      ∧ ((List.range 64).find? fun n => fltMatch ((s.advance dt).filterNow m n) (frameKey (f.take (f.length - 4))).1) = none := by
  decide +kernel

/-- Clause 5 of EthernetMacs. -/
theorem witness_EthernetMacs_5 :
    let dt : Nat := 5
    let i : Nat := 16
    let m : Fin 5 := 1
    let f : List Byte := (frame64 0x88B5 [])
    let x : MacState := (State.mac (macIn {} [(Reg.MAC_FLT 1 65, 0x88B50000), (Reg.MAC_FLT 1 67, 0x80011902)]) 1)
    let s : State := (macIn {} [(Reg.MAC_FLT 1 65, 0x88B50000), (Reg.MAC_FLT 1 67, 0x80011902)])
    s.watch.core = true
      ∧ (∀ d ∈ [160, 161, 162, 163, 164], s.logOnly d = true)
      ∧ s.mac m = x
      ∧ s.macDisabled m = false
      ∧ bit (s.rn (Reg.MAC_CFG m)) 5 = true
      ∧ s.inReset (.mac m) = false
      ∧ 64 ≤ f.length
      ∧ f.length ≤ 9216
      ∧ fcsGood f = true
      ∧ oct (f.take (f.length - 4)) 12 2 ≠ 0x8808
      ∧ (frameKey (f.take (f.length - 4))).2.1 = true
      ∧ ((List.range 64).find? fun n => fltMatch ((s.advance dt).filterNow m n) (frameKey (f.take (f.length - 4))).1) = some i
      ∧ bits (((s.advance dt).filterNow m i).getD 3 0) 10 8 = 1 := by
  decide +kernel

/-- Clause 6 of EthernetMacs. -/
theorem witness_EthernetMacs_6 :
    let v' : Nat := 65535
    let m : Fin 5 := 1
    let f : List Byte := (frame64 0x8808 [0#8, 1#8, 255#8, 255#8])
    let x : MacState := (State.mac (macIn { sending := some ("A", [3]), txq := [(5, [("B", [])])] } []) 1)
    let s : State := (macIn { sending := some ("A", [3]), txq := [(5, [("B", [])])] } [])
    s.watch.core = true
      ∧ (∀ d ∈ [160, 161, 162, 163, 164], s.logOnly d = true)
      ∧ s.mac m = x
      ∧ s.macDisabled m = false
      ∧ bit (s.rn (Reg.MAC_CFG m)) 5 = true
      ∧ s.inReset (.mac m) = false
      ∧ 64 ≤ f.length
      ∧ f.length ≤ 9216
      ∧ fcsGood f = true
      ∧ oct (f.take (f.length - 4)) 0 6 = 0x0180C2000001
      ∧ oct (f.take (f.length - 4)) 12 2 = 0x8808
      ∧ oct (f.take (f.length - 4)) 14 2 = 1
      ∧ oct (f.take (f.length - 4)) 16 2 = v'
      ∧ v' ≠ 0
      ∧ x.holdoffEnd = none
      ∧ bit x.pauseCfg 0 = true
      ∧ bit x.pauseCfg 2 = false := by
  decide +kernel

/-- Clause 7 of EthernetMacs. -/
theorem witness_EthernetMacs_7 :
    let dt : Nat := 5
    let e : Nat := 1999999
    let m : Fin 5 := 1
    let q : Fin 8 := 5
    let k : String × List Byte := ("ARP_REPLY", [1#8])
    let x : MacState := (State.mac (macIn { timers := [(5, 1999999)], txq := [(5, [("ARP_REPLY", [1])])] } []) 1)
    let s : State := (macIn { timers := [(5, 1999999)], txq := [(5, [("ARP_REPLY", [1])])] } [])
    s.watch.core = true
      ∧ (∀ d ∈ [160, 161, 162, 163, 164], s.logOnly d = true)
      ∧ s.mac m = x
      ∧ x.timers = [(q.val, e)]
      ∧ e ≤ s.clk + dt
      ∧ x.sending = none
      ∧ x.txq = [(q.val, [k])]
      ∧ k.1 ≠ "SYNC"
      ∧ k.1 ≠ "DELAY_REQ" := by
  decide +kernel

/-- Clause 8 of EthernetMacs. -/
theorem witness_EthernetMacs_8 :
    let dt : Nat := 5
    let e : Nat := 2000005
    let c : Nat := 1600005
    let m : Fin 5 := 1
    let q : Fin 8 := 5
    let x : MacState := (State.mac (macIn { timers := [(5, 2000005)], counted := 2000005 - 400000 } []) 1)
    let s : State := (macIn { timers := [(5, 2000005)], counted := 2000005 - 400000 } [])
    s.watch.core = true
      ∧ (∀ d ∈ [160, 161, 162, 163, 164], s.logOnly d = true)
      ∧ s.mac m = x
      ∧ bit x.pauseCfg 3 = true
      ∧ x.holdoffEnd = none
      ∧ x.spans = []
      ∧ x.timers = [(q.val, e)]
      ∧ x.counted = c
      ∧ s.clk + dt ≤ e
      ∧ c + macLimit x ≤ s.clk + dt
      ∧ macLimit x ≤ macWindow x
      ∧ 0 < macLimit x := by
  decide +kernel

/-- Clause 9 of EthernetMacs. -/
theorem witness_EthernetMacs_9 :
    let dt : Nat := 5
    let e : Nat := 2000005
    let m : Fin 5 := 1
    let x : MacState := (State.mac (macIn { holdoffEnd := some 2000005, spans := [(5, [(1, 4)])] } [(Reg.MAC_STAT 1, 5)]) 1)
    let s : State := (macIn { holdoffEnd := some 2000005, spans := [(5, [(1, 4)])] } [(Reg.MAC_STAT 1, 5)])
    s.watch.core = true
      ∧ (∀ d ∈ [160, 161, 162, 163, 164], s.logOnly d = true)
      ∧ s.mac m = x
      ∧ x.holdoffEnd = some e
      ∧ e ≤ s.clk + dt := by
  decide +kernel

/-- Clauses 10, 17 of EthernetMacs. -/
theorem witness_EthernetMacs_10 :
    let m : Fin 5 := 1
    let k : String × List Byte := ("ARP_REPLY", [1#8])
    let v : Word := 0x00001F4B#32
    let x : MacState := (State.mac (macIn { sending := some ("ARP_REPLY", [1]) } []) 1)
    let s : State := (macIn { sending := some ("ARP_REPLY", [1]) } [])
    s.watch.core = true
      ∧ (∀ d ∈ [160, 161, 162, 163, 164], s.logOnly d = true)
      ∧ s.mac m = x
      ∧ x.sending = some k
      ∧ x.pauseNext = none
      ∧ x.txq = []
      ∧ s.macDisabled m = false
      ∧ 10 ≤ bits v.toNat 17 4
      ∧ bits v.toNat 17 4 ≤ 10000 := by
  decide +kernel

/-- Clause 11 of EthernetMacs. -/
theorem witness_EthernetMacs_11 :
    let m : Fin 5 := 1
    let k : String × List Byte := ("ARP_REPLY", [1#8])
    let p : Nat × Nat := (8011, 655370)
    let x : MacState := (State.mac (macIn { sending := some ("ARP_REPLY", [1]), pauseNext := some (8011, 655370) } []) 1)
    let s : State := (macIn { sending := some ("ARP_REPLY", [1]), pauseNext := some (8011, 655370) } [])
    s.watch.core = true
      ∧ (∀ d ∈ [160, 161, 162, 163, 164], s.logOnly d = true)
      ∧ s.mac m = x
      ∧ x.sending = some k
      ∧ x.pauseNext = some p := by
  decide +kernel

/-- Clauses 12, 14, 16 of EthernetMacs. -/
theorem witness_EthernetMacs_12 :
    let m : Fin 5 := 1
    let v : Word := 0x00001F7F#32
    let x : MacState := (State.mac (macIn {} [(Reg.MAC_FLT 1 252, 0x88B50000), (Reg.MAC_FLT 1 255, 0x80011902), (Reg.MAC_FLT_SEL 1, 63), (Reg.MAC_FLT_WIN 1 3, 0x80000000)]) 1)
    let s : State := (macIn {} [(Reg.MAC_FLT 1 252, 0x88B50000), (Reg.MAC_FLT 1 255, 0x80011902), (Reg.MAC_FLT_SEL 1, 63), (Reg.MAC_FLT_WIN 1 3, 0x80000000)])
    s.watch.core = true
      ∧ (∀ d ∈ [160, 161, 162, 163, 164], s.logOnly d = true)
      ∧ s.mac m = x
      ∧ 16 ≤ bits v.toNat 5 0
      ∧ s.macDisabled m = false
      ∧ fltReason (s.rdWords (Reg.MAC_FLT_WIN m 0) 4) = 0
      ∧ 10 ≤ bits v.toNat 17 4
      ∧ bits v.toNat 17 4 ≤ 10000
      ∧ x.sending = none := by
  decide +kernel

/-- Clause 13 of EthernetMacs. -/
theorem witness_EthernetMacs_13 :
    let m : Fin 5 := 1
    let v : Word := 15#32
    let x : MacState := (State.mac (macIn {} []) 1)
    let s : State := (macIn {} [])
    s.watch.core = true
      ∧ (∀ d ∈ [160, 161, 162, 163, 164], s.logOnly d = true)
      ∧ s.mac m = x
      ∧ bits v.toNat 5 0 < 16 := by
  decide +kernel

/-- Clauses 15, 18 of EthernetMacs. -/
theorem witness_EthernetMacs_14 :
    let m : Fin 5 := 1
    let v : Word := 0x00010000#32
    let x : MacState := (State.mac (macIn {} [(Reg.MAC_FLT_WIN 1 3, 0x80002500)]) 1)
    let s : State := (macIn {} [(Reg.MAC_FLT_WIN 1 3, 0x80002500)])
    s.watch.core = true
      ∧ (∀ d ∈ [160, 161, 162, 163, 164], s.logOnly d = true)
      ∧ s.mac m = x
      ∧ s.macDisabled m = false
      ∧ fltReason (s.rdWords (Reg.MAC_FLT_WIN m 0) 4) ≠ 0
      ∧ bits v.toNat 9 0 = 0 := by
  decide +kernel

/-- Clauses 19, 21 of EthernetMacs. -/
theorem witness_EthernetMacs_15 :
    let dt : Nat := 5
    let c : Nat := 0
    let g : Nat := 0xE0000102
    let m : Fin 5 := 1
    let k : String × List Byte := ("ARP_REPLY", [1#8])
    let x : MacState := (State.mac (macJoin { sending := some ("ARP_REPLY", [1]), groups := [9] }) 1)
    let s : State := (macJoin { sending := some ("ARP_REPLY", [1]), groups := [9] })
    s.watch.core = true
      ∧ (∀ d ∈ [160, 161, 162, 163, 164], s.logOnly d = true)
      ∧ s.mac m = x
      ∧ (s.advance dt).needsGroup m g = true
      ∧ x.groups.contains g = false
      ∧ x.groups.length < 1024
      ∧ x.sending = some k
      ∧ tabGetD x.txq 3 [] = []
      ∧ s.macDisabled m = false
      ∧ (s.mac 4).polled.all (fun c => (s.advance dt).elapsed c (ms 10)) = true := by
  decide +kernel

/-- Clause 20 of EthernetMacs. -/
theorem witness_EthernetMacs_16 :
    let dt : Nat := 5
    let g : Nat := 0xE0000102
    let m : Fin 5 := 1
    let x : MacState := (State.mac (macJoin { groups := List.replicate 1024 9 }) 1)
    let s : State := (macJoin { groups := List.replicate 1024 9 })
    s.watch.core = true
      ∧ (∀ d ∈ [160, 161, 162, 163, 164], s.logOnly d = true)
      ∧ s.mac m = x
      ∧ (s.advance dt).needsGroup m g = true
      ∧ x.groups.contains g = false
      ∧ 1024 ≤ x.groups.length := by
  decide +kernel

/-- Clause 22 of EthernetMacs. -/
theorem witness_EthernetMacs_17 :
    let dt : Nat := 5
    let m : Fin 5 := 1
    let l : Fin 24 := 2
    let x : MacState := (State.mac ({ macIn {} [(Reg.LANE_STATE 2, 10)] with clk := 900000000 }) 1)
    let s : State := ({ macIn {} [(Reg.LANE_STATE 2, 10)] with clk := 900000000 })
    s.watch.core = true
      ∧ (∀ d ∈ [160, 161, 162, 163, 164], s.logOnly d = true)
      ∧ s.mac m = x
      ∧ s.laneRole l = 1
      ∧ s.laneCfgRate l = 0
      ∧ s.laneSt l = 10
      ∧ (s.advance dt).elapsed ((s.advance dt).lane l).downSince (sec 1) = true := by
  decide +kernel

/-- Fixture state changed. -/
def withFix (s : State) (f : FixState → FixState) : State := { s with fixture := f s.fixture }

/-- A universe set of universes 7 and 8 on MAC 1, of a direction. -/
def univBerth (dir : Nat) : Berth := { kind := 6, resource := 0, extent := 1, gen := 1, state := 1, params := [dir, 7, 2, 2, 24, 100, 1, 800, 0] }

def univSt (dir : Nat) (f : FixState → FixState) : State :=
  withFix { macIn { sending := some ("A", []) } [] with berths := { State.reset.berths with entries := [(4, univBerth dir)] } } f

/-- DMX port 3 enabled with RDM. -/
def dmxIn (d : Dmx) (f : FixState → FixState := id) : State :=
  withFix (withTime (withRegs [(Reg.DMX_CFG 3, 24 + 1024 + 4 * 4096 + 10 * 2 ^ 20), (Reg.DMX_TIMING 3, 176 + 16 * 1024 + 2 ^ 25)])
    fun x => { x with led := 41600000 * ledNs }) fun x => f { x with dmx := [(3, d)] }

/-- The response of a UID to DISC_UNIQUE_BRANCH, without a preamble. -/
def discReply (uid : Nat) : List Byte :=
  let e := fun (l : List Byte) => l.flatMap fun b => [b ||| 0xAA#8, b ||| 0x55#8]
  0xAA#8 :: e (beBytes 6 uid) ++ e (beBytes 2 (octetSum (e (beBytes 6 uid))))

/-- A probe set of one block. -/
def probeSet : State :=
  { State.reset with berths := { State.reset.berths with entries := [(5, { kind := 3, resource := 0, extent := 1, gen := 1, state := 1 })] } }

/-- Clause 1 of ProbesAndWaybills. -/
theorem witness_ProbesAndWaybills_1 :
    let n : Nat := 0
    let e : Nat := 0
    let buf : Nat := 0
    let b : Nat := 0
    let w : Nat × Nat := (0, 0x200000)
    let v : Word := 0#32
    let s : State := (withFix (smallPipe 9 fun p => { p with frontTally := some 0 }) fun x => { x with probes := [(0, [(0, (0, 0x200000))])] })
    s.watch.core = true
      ∧ b = bits v.toNat 7 0
      ∧ s.canvasOf n = some buf
      ∧ s.fixture.values.head?.any (fun x => decide (n ≤ x.tally)) = false
      ∧ s.probeAt e n = w
      ∧ pEnable w = true := by
  decide +kernel

/-- Clause 2 of ProbesAndWaybills. -/
theorem witness_ProbesAndWaybills_2 :
    let dt : Nat := 5
    let n : Nat := 4
    let b : Nat := 0
    let pv : ProbeVals := ⟨3, 8, 2, []⟩
    let v : Word := 0#32
    let s : State := (withFix (small 130000000) fun x => { x with values := [⟨3, 8, 2, []⟩] })
    s.watch.core = true
      ∧ b = bits v.toNat 7 0
      ∧ s.canvasOf n = none
      ∧ s.fixture.values = [pv]
      ∧ pv.tally < n
      ∧ (if s.chase then s.tp n - 100000 else s.tp (n - 1)) ≤ (s.advance dt).ns := by
  decide +kernel

/-- Clauses 3, 5 of ProbesAndWaybills. -/
theorem witness_ProbesAndWaybills_3 :
    let b : Nat := 0
    let v : Word := 0#32
    let s : State := probeSet
    s.watch.core = true
      ∧ b = bits v.toNat 7 0
      ∧ bit (s.rn Reg.PROBE_STAT) 0 = false
      ∧ s.blockOwned b = true
      ∧ s.blockOwned (s.fld Reg.PROBE_SEL 7 0) = true
      ∧ s.probeBad (pairUp (s.rdWords (Reg.PROBE_WIN 0) 128)) 0 (s.areaBut (s.fld Reg.PROBE_SEL 7 0)) = none := by
  decide +kernel

/-- Clause 4 of ProbesAndWaybills. -/
theorem witness_ProbesAndWaybills_4 :
    let b : Nat := 3
    let v : Word := 3#32
    let s : State := State.reset
    s.watch.core = true
      ∧ b = bits v.toNat 7 0
      ∧ bit (s.rn Reg.PROBE_STAT) 0 = true ∨ s.blockOwned b = false := by
  decide +kernel

/-- Clause 6 of ProbesAndWaybills. -/
theorem witness_ProbesAndWaybills_5 :
    let e : Nat := 1
    let b : Nat := 0
    let r : Nat := 1
    let v : Word := 0#32
    let s : State := ({ probeSet with regs := (withRegs [(Reg.PROBE_WIN 3, 0x200000)]).regs })
    s.watch.core = true
      ∧ b = bits v.toNat 7 0
      ∧ s.blockOwned (s.fld Reg.PROBE_SEL 7 0) = true
      ∧ s.probeBad (pairUp (s.rdWords (Reg.PROBE_WIN 0) 128)) 0 (s.areaBut (s.fld Reg.PROBE_SEL 7 0)) = some (e, r) := by
  decide +kernel

/-- Clauses 7, 9, 11, 13 of ProbesAndWaybills. -/
theorem witness_ProbesAndWaybills_6 :
    let b : Nat := 0
    let v : Word := 0#32
    let s : State := State.reset
    s.watch.core = true
      ∧ b = bits v.toNat 7 0
      ∧ ((List.range 64).find? fun p => emitBad (((s.rdWords (Reg.PROBE_EMIT_WIN 0) 1024).drop (16 * p)).take 16)) = none
      ∧ bit (s.rn Reg.WAY_STAT) 0 = false
      ∧ (∀ j ∈ List.range 16, (s.way (16 * b + j)).length = 8)
      ∧ ((wordsBy 8 16 (s.rdWords (Reg.WAY_WIN 0) 128)).zipIdx.find? fun x => s.wayReason x.1 != 0) = none := by
  decide +kernel

/-- Clause 8 of ProbesAndWaybills. -/
theorem witness_ProbesAndWaybills_7 :
    let e : Nat := 63
    let b : Nat := 0
    let v : Word := 0#32
    let s : State := (withRegs [(Reg.PROBE_EMIT_WIN 1008, 0)])
    s.watch.core = true
      ∧ b = bits v.toNat 7 0
      ∧ ((List.range 64).find? fun p => emitBad (((s.rdWords (Reg.PROBE_EMIT_WIN 0) 1024).drop (16 * p)).take 16)) = some e := by
  decide +kernel

/-- Clause 10 of ProbesAndWaybills. -/
theorem witness_ProbesAndWaybills_8 :
    let b : Nat := 0
    let v : Word := 0#32
    let s : State := (withRegs [(Reg.WAY_STAT, 1)])
    s.watch.core = true
      ∧ b = bits v.toNat 7 0
      ∧ bit (s.rn Reg.WAY_STAT) 0 = true := by
  decide +kernel

/-- Clause 12 of ProbesAndWaybills. -/
theorem witness_ProbesAndWaybills_9 :
    let e : Nat := 15
    let b : Nat := 0
    let ps : List Nat := [0x106,0,0,0,0,0,0,0]
    let v : Word := 0#32
    let s : State := (withRegs [(Reg.WAY_WIN 120, 0x106)])
    s.watch.core = true
      ∧ b = bits v.toNat 7 0
      ∧ ((wordsBy 8 16 (s.rdWords (Reg.WAY_WIN 0) 128)).zipIdx.find? fun x => s.wayReason x.1 != 0) = some (ps, e) := by
  decide +kernel

/-- Clause 1 of SacnDmxAndRdm. -/
theorem witness_SacnDmxAndRdm_1 :
    let u : Nat := 7
    let p : Fin 8 := 3
    let x : SacnPacket := ⟨false, 0, 0, 44, 100, 9, 7, [1, 200]⟩
    let o : UnivOut := (State.uOut State.reset 7)
    let d : Dmx := (State.dmx State.reset 3)
    let s : State := State.reset
    s.watch.core = true
      ∧ (∀ f ∈ [179, 180, 181, 182, 183], s.logOnly f = true)
      ∧ s.uOut u = o
      ∧ s.dmx p = d
      ∧ x.data = false := by
  decide +kernel

/-- Clause 2 of SacnDmxAndRdm. -/
theorem witness_SacnDmxAndRdm_2 :
    let dt : Nat := 5
    let u : Nat := 7
    let m : Fin 5 := 1
    let p : Fin 8 := 3
    let x : SacnPacket := ⟨true, 0, 0, 44, 100, 9, 7, [1, 200]⟩
    let b : Berth := (univBerth 0)
    let o : UnivOut := (State.uOut (univSt 0 fun x => { x with univIn := [(7, { sources := [] })] }) 7)
    let d : Dmx := (State.dmx (univSt 0 fun x => { x with univIn := [(7, { sources := [] })] }) 3)
    let s : State := (univSt 0 fun x => { x with univIn := [(7, { sources := [] })] })
    s.watch.core = true
      ∧ (∀ f ∈ [179, 180, 181, 182, 183], s.logOnly f = true)
      ∧ s.uOut u = o
      ∧ s.dmx p = d
      ∧ x.data = true
      ∧ x.startCode = 0
      ∧ bits x.options 7 6 = 0
      ∧ x.cid ≠ beNat s.ownCid
      ∧ s.twinCid ≠ some x.cid
      ∧ s.univSet 0 x.univ (s.advance dt).tally = some b
      ∧ bit (uParam b 3) m = true
      ∧ (s.uIn x.univ).sources = []
      ∧ s.role = 0
      ∧ s.univStopped b = false := by
  decide +kernel

/-- Clause 3 of SacnDmxAndRdm. -/
theorem witness_SacnDmxAndRdm_3 :
    let dt : Nat := 5
    let u : Nat := 7
    let m : Fin 5 := 1
    let p : Fin 8 := 3
    let x : SacnPacket := ⟨true, 0, 0, 44, 100, 9, 7, [1, 200]⟩
    let y : SacnSource := ⟨44, 100, 9, [1], 0⟩
    let b : Berth := (univBerth 0)
    let o : UnivOut := (State.uOut (univSt 0 fun x => { x with univIn := [(7, { sources := [⟨44, 100, 9, [1], 0⟩] })] }) 7)
    let d : Dmx := (State.dmx (univSt 0 fun x => { x with univIn := [(7, { sources := [⟨44, 100, 9, [1], 0⟩] })] }) 3)
    let s : State := (univSt 0 fun x => { x with univIn := [(7, { sources := [⟨44, 100, 9, [1], 0⟩] })] })
    s.watch.core = true
      ∧ (∀ f ∈ [179, 180, 181, 182, 183], s.logOnly f = true)
      ∧ s.uOut u = o
      ∧ s.dmx p = d
      ∧ x.data = true
      ∧ x.startCode = 0
      ∧ bits x.options 7 6 = 0
      ∧ x.cid ≠ beNat s.ownCid
      ∧ s.twinCid ≠ some x.cid
      ∧ s.univSet 0 x.univ (s.advance dt).tally = some b
      ∧ bit (uParam b 3) m = true
      ∧ (s.uIn x.univ).sources = [y]
      ∧ y.cid = x.cid
      ∧ y.seq = x.seq := by
  decide +kernel

/-- Clause 4 of SacnDmxAndRdm. -/
theorem witness_SacnDmxAndRdm_4 :
    let dt : Nat := 5
    let u : Nat := 7
    let m : Fin 5 := 1
    let p : Fin 8 := 3
    let x : SacnPacket := ⟨true, 0, 0, 44, 100, 9, 7, [1, 200]⟩
    let b : Berth := (univBerth 0)
    let o : UnivOut := (State.uOut (univSt 0 fun x => { x with univIn := [(7, { sources := [⟨1, 100, 9, [], 0⟩, ⟨2, 100, 9, [], 0⟩, ⟨3, 100, 9, [], 0⟩, ⟨4, 100, 9, [], 0⟩] })] }) 7)
    let d : Dmx := (State.dmx (univSt 0 fun x => { x with univIn := [(7, { sources := [⟨1, 100, 9, [], 0⟩, ⟨2, 100, 9, [], 0⟩, ⟨3, 100, 9, [], 0⟩, ⟨4, 100, 9, [], 0⟩] })] }) 3)
    let s : State := (univSt 0 fun x => { x with univIn := [(7, { sources := [⟨1, 100, 9, [], 0⟩, ⟨2, 100, 9, [], 0⟩, ⟨3, 100, 9, [], 0⟩, ⟨4, 100, 9, [], 0⟩] })] })
    s.watch.core = true
      ∧ (∀ f ∈ [179, 180, 181, 182, 183], s.logOnly f = true)
      ∧ s.uOut u = o
      ∧ s.dmx p = d
      ∧ x.data = true
      ∧ x.startCode = 0
      ∧ bits x.options 7 6 = 0
      ∧ x.cid ≠ beNat s.ownCid
      ∧ s.twinCid ≠ some x.cid
      ∧ s.univSet 0 x.univ (s.advance dt).tally = some b
      ∧ bit (uParam b 3) m = true
      ∧ (s.uIn x.univ).sources.length = 4
      ∧ (s.uIn x.univ).sources.any (·.cid == x.cid) = false := by
  decide +kernel

/-- Clause 5 of SacnDmxAndRdm. -/
theorem witness_SacnDmxAndRdm_5 :
    let dt : Nat := 2000000000
    let u : Nat := 7
    let cid : Nat := 44
    let p : Fin 8 := 3
    let y : SacnSource := ⟨44, 100, 9, [1], 0⟩
    let b : Berth := (univBerth 0)
    let o : UnivOut := (State.uOut (univSt 0 fun x => { x with univIn := [(7, { sources := [⟨44, 100, 9, [1], 0⟩] })] }) 7)
    let d : Dmx := (State.dmx (univSt 0 fun x => { x with univIn := [(7, { sources := [⟨44, 100, 9, [1], 0⟩] })] }) 3)
    let s : State := (univSt 0 fun x => { x with univIn := [(7, { sources := [⟨44, 100, 9, [1], 0⟩] })] })
    s.watch.core = true
      ∧ (∀ f ∈ [179, 180, 181, 182, 183], s.logOnly f = true)
      ∧ s.uOut u = o
      ∧ s.dmx p = d
      ∧ (s.uIn u).sources = [y]
      ∧ y.cid = cid
      ∧ y.last + ms 2500 ≤ s.clk + dt
      ∧ s.univSet 0 u (s.advance dt).tally = some b
      ∧ uParam b 8 = 0 := by
  decide +kernel

/-- Clause 6 of SacnDmxAndRdm. -/
theorem witness_SacnDmxAndRdm_6 :
    let dt : Nat := 5
    let n : Nat := 0
    let u : Nat := 7
    let p : Fin 8 := 3
    let b : Berth := (univBerth 1)
    let o : UnivOut := (State.uOut (univSt 1 id) 7)
    let d : Dmx := (State.dmx (univSt 1 id) 3)
    let s : State := (univSt 1 id)
    s.watch.core = true
      ∧ (∀ f ∈ [179, 180, 181, 182, 183], s.logOnly f = true)
      ∧ s.uOut u = o
      ∧ s.dmx p = d
      ∧ s.univSet 1 u n = some b
      ∧ s.univWriters u n = []
      ∧ o.tally = none
      ∧ n % max 1 (uParam b 6) = 0
      ∧ s.tp n ≤ (s.advance dt).ns
      ∧ s.roomFor (uParam b 3) = true
      ∧ s.allSafe = false
      ∧ s.heldBy 181 u 5 = false
      ∧ s.univStopped b = false
      ∧ List.replicate (uParam b 4) 0 ≠ o.sent := by
  decide +kernel

/-- Clause 7 of SacnDmxAndRdm. -/
theorem witness_SacnDmxAndRdm_7 :
    let dt : Nat := 5
    let n : Nat := 0
    let u : Nat := 7
    let k : Nat := 2
    let p : Fin 8 := 3
    let o : UnivOut := (State.uOut (withFix (macIn {} []) fun x => { x with univOut := [(7, { term := 3, macs := 2 })] }) 7)
    let d : Dmx := (State.dmx (withFix (macIn {} []) fun x => { x with univOut := [(7, { term := 3, macs := 2 })] }) 3)
    let s : State := (withFix (macIn {} []) fun x => { x with univOut := [(7, { term := 3, macs := 2 })] })
    s.watch.core = true
      ∧ (∀ f ∈ [179, 180, 181, 182, 183], s.logOnly f = true)
      ∧ s.uOut u = o
      ∧ s.dmx p = d
      ∧ s.univSet 1 u n = none
      ∧ o.term = k + 1
      ∧ o.tally = none
      ∧ s.tp n ≤ (s.advance dt).ns
      ∧ s.roomFor o.macs = true := by
  decide +kernel

/-- Clause 8 of SacnDmxAndRdm. -/
theorem witness_SacnDmxAndRdm_8 :
    let dt : Nat := 8000000000
    let u : Nat := 7
    let k : Nat := 4
    let p : Fin 8 := 3
    let b : Berth := (univBerth 1)
    let o : UnivOut := (State.uOut (univSt 1 id) 7)
    let d : Dmx := (State.dmx (univSt 1 id) 3)
    let s : State := (univSt 1 id)
    s.watch.core = true
      ∧ (∀ f ∈ [179, 180, 181, 182, 183], s.logOnly f = true)
      ∧ s.uOut u = o
      ∧ s.dmx p = d
      ∧ s.outUniverses.isEmpty = false
      ∧ s.outUniverses.length ≤ 512
      ∧ s.fixture.lastDiscovery + sec 10 ≤ s.clk + dt
      ∧ s.berths.entries = [(k, b)]
      ∧ b.kind = 6
      ∧ uParam b 0 = 1
      ∧ b.state = 1
      ∧ uParam b 3 = 2
      ∧ s.macDisabled 1 = false
      ∧ (s.mac 1).sending.isSome = true
      ∧ tabGetD (s.mac 1).txq 4 [] = [] := by
  decide +kernel

/-- Clause 9 of SacnDmxAndRdm. -/
theorem witness_SacnDmxAndRdm_9 :
    let dt : Nat := 5
    let n : Nat := 0
    let u : Nat := 7
    let p : Fin 8 := 3
    let o : UnivOut := (State.uOut (dmxIn {}) 7)
    let d : Dmx := (State.dmx (dmxIn {}) 3)
    let s : State := (dmxIn {})
    s.watch.core = true
      ∧ (∀ f ∈ [179, 180, 181, 182, 183], s.logOnly f = true)
      ∧ s.uOut u = o
      ∧ s.dmx p = d
      ∧ s.dmxOn p = true
      ∧ n % s.dmxDiv p = 0
      ∧ d.tally = none
      ∧ s.tp n ≤ (s.advance dt).ns
      ∧ d.sending = none
      ∧ d.txn = none
      ∧ s.dmxIdles p = false
      ∧ d.queue = []
      ∧ d.disc = []
      ∧ s.portWriters p n = []
      ∧ s.dmxDrives p = true := by
  decide +kernel

/-- Clause 10 of SacnDmxAndRdm. -/
theorem witness_SacnDmxAndRdm_10 :
    let dt : Nat := 5
    let n : Nat := 0
    let u : Nat := 7
    let p : Fin 8 := 3
    let o : UnivOut := (State.uOut (dmxIn { txn := some .unMute }) 7)
    let d : Dmx := (State.dmx (dmxIn { txn := some .unMute }) 3)
    let op : RdmOp := .unMute
    let s : State := (dmxIn { txn := some .unMute })
    s.watch.core = true
      ∧ (∀ f ∈ [179, 180, 181, 182, 183], s.logOnly f = true)
      ∧ s.uOut u = o
      ∧ s.dmx p = d
      ∧ s.dmxOn p = true
      ∧ n % s.dmxDiv p = 0
      ∧ d.tally = none
      ∧ s.tp n ≤ (s.advance dt).ns
      ∧ d.txn = some op
      ∧ s.portWriters p n = [] := by
  decide +kernel

/-- Clause 11 of SacnDmxAndRdm. -/
theorem witness_SacnDmxAndRdm_11 :
    let dt : Nat := 2000000
    let u : Nat := 7
    let p : Fin 8 := 3
    let o : UnivOut := (State.uOut (dmxIn { sending := some [] }) 7)
    let d : Dmx := (State.dmx (dmxIn { sending := some [] }) 3)
    let pd : List Byte := []
    let s : State := (dmxIn { sending := some [] })
    s.watch.core = true
      ∧ (∀ f ∈ [179, 180, 181, 182, 183], s.logOnly f = true)
      ∧ s.uOut u = o
      ∧ s.dmx p = d
      ∧ d.sending = some (pd.map (·.toNat))
      ∧ (s.advance dt).elapsed d.frameSince (s.dmxF p * 4 / 5) = true := by
  decide +kernel

/-- Clause 12 of SacnDmxAndRdm. -/
theorem witness_SacnDmxAndRdm_12 :
    let dt : Nat := 2000000
    let u : Nat := 7
    let k : Nat := 4
    let p : Fin 8 := 3
    let o : UnivOut := (State.uOut (dmxIn { sending := some [4], wrong := 1 }) 7)
    let d : Dmx := (State.dmx (dmxIn { sending := some [4], wrong := 1 }) 3)
    let pd : List Byte := []
    let s : State := (dmxIn { sending := some [4], wrong := 1 })
    s.watch.core = true
      ∧ (∀ f ∈ [179, 180, 181, 182, 183], s.logOnly f = true)
      ∧ s.uOut u = o
      ∧ s.dmx p = d
      ∧ d.sending = some (k :: pd.map (·.toNat))
      ∧ d.wrong = 1
      ∧ (s.advance dt).elapsed d.frameSince (s.dmxF p * 4 / 5) = true := by
  decide +kernel

/-- Clause 13 of SacnDmxAndRdm. -/
theorem witness_SacnDmxAndRdm_13 :
    let dt : Nat := 0
    let u : Nat := 7
    let p : Fin 8 := 3
    let o : UnivOut := (State.uOut (withTime (dmxIn { queue := [.unMute] }) fun x => { x with led := 20000000 * ledNs }) 7)
    let d : Dmx := (State.dmx (withTime (dmxIn { queue := [.unMute] }) fun x => { x with led := 20000000 * ledNs }) 3)
    let op : RdmOp := .unMute
    let s : State := (withTime (dmxIn { queue := [.unMute] }) fun x => { x with led := 20000000 * ledNs })
    s.watch.core = true
      ∧ (∀ f ∈ [179, 180, 181, 182, 183], s.logOnly f = true)
      ∧ s.uOut u = o
      ∧ s.dmx p = d
      ∧ s.dmxIdles p = false
      ∧ s.rdmOn p = true
      ∧ s.dmxDrives p = true
      ∧ d.sending = none
      ∧ d.txn = none
      ∧ d.queue = [op]
      ∧ (s.advance dt).ns + 17500000 ≤ (s.advance dt).nextBreak p := by
  decide +kernel

/-- Clause 14 of SacnDmxAndRdm. -/
theorem witness_SacnDmxAndRdm_14 :
    let dt : Nat := 5000000
    let u : Nat := 7
    let id : Nat := 9
    let p : Fin 8 := 3
    let o : UnivOut := (State.uOut (dmxIn { txn := some (.mute 9 true), uids := [(9, 2)] }) 7)
    let d : Dmx := (State.dmx (dmxIn { txn := some (.mute 9 true), uids := [(9, 2)] }) 3)
    let s : State := (dmxIn { txn := some (.mute 9 true), uids := [(9, 2)] })
    s.watch.core = true
      ∧ (∀ f ∈ [179, 180, 181, 182, 183], s.logOnly f = true)
      ∧ s.uOut u = o
      ∧ s.dmx p = d
      ∧ d.txn = some (.mute id true)
      ∧ d.uids = [(id, 2)]
      ∧ (s.advance dt).elapsed d.txnSince (rdmSpan (.mute id true) (s.rdmFrame p (.mute id true)) none) = true := by
  decide +kernel

/-- Clause 15 of SacnDmxAndRdm. -/
theorem witness_SacnDmxAndRdm_15 :
    let dt : Nat := 5000000
    let u : Nat := 7
    let id : Nat := 9
    let p : Fin 8 := 3
    let o : UnivOut := (State.uOut (dmxIn { txn := some (.branch 0 281474976710654) }) 7)
    let d : Dmx := (State.dmx (dmxIn { txn := some (.branch 0 281474976710654) }) 3)
    let pd : List Byte := (discReply 9)
    let s : State := (dmxIn { txn := some (.branch 0 281474976710654) })
    s.watch.core = true
      ∧ (∀ f ∈ [179, 180, 181, 182, 183], s.logOnly f = true)
      ∧ s.uOut u = o
      ∧ s.dmx p = d
      ∧ d.txn = some (.branch 0 (2 ^ 48 - 2))
      ∧ d.uids = []
      ∧ id ≤ 2 ^ 48 - 2
      ∧ discResponse pd = .found id
      ∧ (s.advance dt).elapsed d.txnSince (rdmLimit + 1) = false
      ∧ (s.advance dt).elapsed d.txnSince (rdmSpan (.branch 0 (2 ^ 48 - 2)) (s.rdmFrame p (.branch 0 (2 ^ 48 - 2))) (some pd)) = true := by
  decide +kernel

/-- Clause 16 of SacnDmxAndRdm. -/
theorem witness_SacnDmxAndRdm_16 :
    let dt : Nat := 5000000
    let u : Nat := 7
    let cc : Nat := 32
    let id : Nat := 9
    let sub : Nat := 0
    let pid : Nat := 0
    let p : Fin 8 := 3
    let o : UnivOut := (State.uOut (dmxIn { txn := some (.request (.pier 3) 32 9 0 0 [] false) }) 7)
    let d : Dmx := (State.dmx (dmxIn { txn := some (.request (.pier 3) 32 9 0 0 [] false) }) 3)
    let op : RdmOp := (.request (.pier 3) 32 9 0 0 [] false)
    let door : Door := (.pier 3)
    let s : State := (dmxIn { txn := some (.request (.pier 3) 32 9 0 0 [] false) })
    s.watch.core = true
      ∧ (∀ f ∈ [179, 180, 181, 182, 183], s.logOnly f = true)
      ∧ s.uOut u = o
      ∧ s.dmx p = d
      ∧ d.txn = some op
      ∧ op = .request door cc id sub pid [] false
      ∧ (s.advance dt).elapsed d.txnSince (rdmSpan op (s.rdmFrame p op) none) = true := by
  decide +kernel

/-- Clauses 17, 20 of SacnDmxAndRdm. -/
theorem witness_SacnDmxAndRdm_17 :
    let dt : Nat := 5
    let u : Nat := 7
    let cc : Nat := 32
    let id : Nat := 9
    let sub : Nat := 0
    let pid : Nat := 0
    let p : Fin 8 := 3
    let o : UnivOut := (State.uOut (dmxIn {}) 7)
    let d : Dmx := (State.dmx (dmxIn {}) 3)
    let door : Door := (.pier 3)
    let pd : List Byte := []
    let v : Word := 0x5C3A0001#32
    let a : State := (State.admitReq (State.advance (dmxIn {}) 5) (.pier 3) 0x60 (rdmRequestBody 3 32 9 0 0 [])).1
    let s : State := (dmxIn {})
    s.watch.core = true
      ∧ (∀ f ∈ [179, 180, 181, 182, 183], s.logOnly f = true)
      ∧ s.uOut u = o
      ∧ s.dmx p = d
      ∧ bits v.toNat 31 16 = 0x5C3A
      ∧ bits v.toNat 1 0 = 1
      ∧ s.rdmOn p = true
      ∧ s.dmxDrives p = true
      ∧ d.uids.length ≤ 256
      ∧ (s.advance dt).admitReq door 0x60 (rdmRequestBody p cc id sub pid pd) = (a, true)
      ∧ cc = 0x20 ∨ cc = 0x30
      ∧ pd.length ≤ 38
      ∧ d.queue.length < 16 := by
  decide +kernel

/-- Clause 18 of SacnDmxAndRdm. -/
theorem witness_SacnDmxAndRdm_18 :
    let u : Nat := 7
    let p : Fin 8 := 3
    let o : UnivOut := (State.uOut State.reset 7)
    let d : Dmx := (State.dmx State.reset 3)
    let v : Word := 0x5C3A0001#32
    let s : State := State.reset
    s.watch.core = true
      ∧ (∀ f ∈ [179, 180, 181, 182, 183], s.logOnly f = true)
      ∧ s.uOut u = o
      ∧ s.dmx p = d
      ∧ bits v.toNat 31 16 ≠ 0x5C3A ∨ bits v.toNat 1 0 = 1 ∧ s.rdmOn p = false := by
  decide +kernel

/-- Clause 19 of SacnDmxAndRdm. -/
theorem witness_SacnDmxAndRdm_19 :
    let dt : Nat := 8000000000
    let u : Nat := 7
    let p : Fin 8 := 3
    let o : UnivOut := (State.uOut (dmxIn { uids := [(4, 1)] }) 7)
    let d : Dmx := (State.dmx (dmxIn { uids := [(4, 1)] }) 3)
    let s : State := (dmxIn { uids := [(4, 1)] })
    s.watch.core = true
      ∧ (∀ f ∈ [179, 180, 181, 182, 183], s.logOnly f = true)
      ∧ s.uOut u = o
      ∧ s.dmx p = d
      ∧ s.rdmOn p = true
      ∧ s.dmxDrives p = true
      ∧ d.disc = []
      ∧ d.lastDisc + sec (s.fld (Reg.DMX_CFG p) 31 20) ≤ s.clk + dt := by
  decide +kernel

/-- Clause 21 of SacnDmxAndRdm. -/
theorem witness_SacnDmxAndRdm_20 :
    let dt : Nat := 5
    let u : Nat := 7
    let cc : Nat := 32
    let id : Nat := 9
    let sub : Nat := 0
    let pid : Nat := 0
    let q : Nat := 3
    let p : Fin 8 := 3
    let o : UnivOut := (State.uOut (dmxIn { queue := List.replicate 16 .unMute }) 7)
    let d : Dmx := (State.dmx (dmxIn { queue := List.replicate 16 .unMute }) 3)
    let pd : List Byte := []
    let a : State := (State.admitReq (State.advance (dmxIn { queue := List.replicate 16 .unMute }) 5) (.pier 3) 0x60 (rdmRequestBody 3 32 9 0 0 [])).1
    let s : State := (dmxIn { queue := List.replicate 16 .unMute })
    s.watch.core = true
      ∧ (∀ f ∈ [179, 180, 181, 182, 183], s.logOnly f = true)
      ∧ s.uOut u = o
      ∧ s.dmx p = d
      ∧ (s.advance dt).admitReq (.pier q) 0x60 (rdmRequestBody p cc id sub pid pd) = (a, true)
      ∧ s.rdmOn p = true
      ∧ cc = 0x20
      ∧ pd.length ≤ 38
      ∧ s.dmxDrives p = true
      ∧ 16 ≤ d.queue.length := by
  decide +kernel

/-- Lamp state of port 9 changed; group 1 holds port 9 as its string 0, in stepwise mode. -/
def lampIn (x : LampPort) (more : List (Nat × Nat)) (f : LampState → LampState := id) : State :=
  let s := withTime (withRegs ([(Reg.LAMP_PORT_CFG 9, 1), (Reg.LAMP_GRP_HANDLE 1, 0x04000001), (Reg.LAMP_GRP_CFG 1, 1),
    (Reg.LAMP_GRP_PORTS 1, 9), (Reg.LAMP_GRP_L01 1, 40000), (Reg.LAMP_GRP_MASTER 1, 65535), (Reg.LAMP_PWM_PERIOD, 1000000)] ++ more))
    fun t => { t with led := 40000000 * ledNs }
  { s with lamp := f { s.lamp with ports := [(9, x)] } }

/-- Clause 1 of LampPortsAndPatterns. -/
theorem witness_LampPortsAndPatterns_1 :
    let p : Fin 32 := 9
    let x : LampPort := (State.lport ({ State.reset with lampDie := false }) 9)
    let s : State := ({ State.reset with lampDie := false })
    s.watch.core = true
      ∧ (∀ d ∈ [194, 201, 202, 263], s.logOnly d = true)
      ∧ s.lport p = x
      ∧ s.lampDie = false := by
  decide +kernel

/-- Clauses 2, 11, 13, 14, 18, 20 of LampPortsAndPatterns. -/
theorem witness_LampPortsAndPatterns_2 :
    let dt : Nat := 5
    let p : Fin 32 := 9
    let g : Fin 32 := 1
    let x : LampPort := (State.lport (lampIn {} [] id) 9)
    let s : State := (lampIn {} [] id)
    s.watch.core = true
      ∧ (∀ d ∈ [194, 201, 202, 263], s.logOnly d = true)
      ∧ s.lport p = x
      ∧ s.lampDie = true
      ∧ s.inReset .lampLink = false
      ∧ (s.advance dt).nbDue p = true
      ∧ s.grpUsed g = true
      ∧ s.grpMode g = 1 := by
  decide +kernel

/-- Clause 3 of LampPortsAndPatterns. -/
theorem witness_LampPortsAndPatterns_3 :
    let p : Fin 32 := 9
    let x : LampPort := (State.lport (lampIn {} [(Reg.FLT_DET_CFG 8, 0x3C40A02)] id) 9)
    let s : State := (lampIn {} [(Reg.FLT_DET_CFG 8, 0x3C40A02)] id)
    s.watch.core = true
      ∧ (∀ d ∈ [194, 201, 202, 263], s.logOnly d = true)
      ∧ s.lport p = x
      ∧ s.lampDie = true
      ∧ s.inReset .lampLink = false
      ∧ s.lampHeld = false
      ∧ s.logOnly 8 = true := by
  decide +kernel

/-- Clauses 16, 19 of LampPortsAndPatterns. -/
theorem witness_LampPortsAndPatterns_4 :
    let p : Fin 32 := 9
    let x : LampPort := (State.lport (lampIn {} [] id) 9)
    let v : Word := 0x0100107F#32
    let s : State := (lampIn {} [] id)
    s.watch.core = true
      ∧ (∀ d ∈ [194, 201, 202, 263], s.logOnly d = true)
      ∧ s.lport p = x
      ∧ s.lampDie = true
      ∧ 1 ≤ bits v.toNat 11 6
      ∧ bits v.toNat 11 6 ≤ bits v.toNat 5 0
      ∧ 1 ≤ bits v.toNat 27 12
      ∧ bits v.toNat 17 16 ≠ 3
      ∧ bits v.toNat 29 24 ≠ 0 := by
  decide +kernel

/-- Clause 4 of LampPortsAndPatterns. -/
theorem witness_LampPortsAndPatterns_5 :
    let dt : Nat := 5
    let k : Nat := 0
    let start : Nat := 40000000
    let len : Nat := 1000000
    let p : Fin 32 := 9
    let g : Fin 32 := 1
    let x : LampPort := (State.lport (lampIn { tested := true } [] (fun l => { l with period := 39000000 })) 9)
    let s : State := (lampIn { tested := true } [] (fun l => { l with period := 39000000 }))
    s.watch.core = true
      ∧ (∀ d ∈ [194, 201, 202, 263], s.logOnly d = true)
      ∧ s.lport p = x
      ∧ s.lampDie = true
      ∧ (s.advance dt).pwmPeriod (s.advance dt).ns = (start, len)
      ∧ s.lamp.period < start
      ∧ s.twin.mirrored = []
      ∧ s.liveEngines = []
      ∧ s.lampHeld = false
      ∧ s.lamp.supplyOk = true
      ∧ s.lamp.groups = []
      ∧ s.portGroup p = some (g.val, k)
      ∧ k ≤ 5
      ∧ bit (s.rn (Reg.LAMP_PORT_CFG p)) 0 = true
      ∧ s.portOff p = false
      ∧ x.tested = true
      ∧ s.grpMode g = 1
      ∧ s.grpOred g = false
      ∧ bits (s.rn (Reg.LAMP_PORT_COMP p)) 17 16 = 0
      ∧ x.wasOff = false
      ∧ x.restart = none := by
  decide +kernel

/-- Clause 5 of LampPortsAndPatterns. -/
theorem witness_LampPortsAndPatterns_6 :
    let dt : Nat := 5
    let c : Nat := 3
    let i : Nat := 1
    let u : Nat := 70000
    let start : Nat := 40000000
    let len : Nat := 1000000
    let p : Fin 32 := 9
    let g : Fin 32 := 1
    let x : LampPort := (State.lport (lampIn {} [] (fun l => { l with groups := [(1, { pend := [⟨1, 70000, 3, true⟩] })], period := 39000000 })) 9)
    let s : State := (lampIn {} [] (fun l => { l with groups := [(1, { pend := [⟨1, 70000, 3, true⟩] })], period := 39000000 }))
    s.watch.core = true
      ∧ (∀ d ∈ [194, 201, 202, 263], s.logOnly d = true)
      ∧ s.lport p = x
      ∧ s.lampDie = true
      ∧ (s.advance dt).pwmPeriod (s.advance dt).ns = (start, len)
      ∧ s.lamp.period < start
      ∧ s.twin.mirrored = []
      ∧ s.liveEngines = []
      ∧ s.lampHeld = false
      ∧ s.grpUsed g = true
      ∧ i ≤ 6
      ∧ s.lamp.groups = [(g.val, { pend := [⟨i, u, c, true⟩] })]
      ∧ c < s.clk + dt := by
  decide +kernel

/-- Clause 6 of LampPortsAndPatterns. -/
theorem witness_LampPortsAndPatterns_7 :
    let dt : Nat := 5
    let i : Nat := 300
    let u : Nat := 30000
    let p : Fin 32 := 9
    let adc : Fin 4 := 1
    let q : Fin 8 := 1
    let x : LampPort := (State.lport (lampIn { d := 9 } [(Reg.LAMP_PORT_STAT 9, 1)] id) 9)
    let smp : List LampSample := [⟨1, some (300, 30000), none⟩]
    let s : State := (lampIn { d := 9 } [(Reg.LAMP_PORT_STAT 9, 1)] id)
    s.watch.core = true
      ∧ (∀ d ∈ [194, 201, 202, 263], s.logOnly d = true)
      ∧ s.lport p = x
      ∧ s.lampDie = true
      ∧ smp = [⟨q, some (i, u), none⟩]
      ∧ s.lport (8 * adc + q) = x
      ∧ s.switching (8 * adc + q) = true
      ∧ tabGetD s.lamp.adcNext adc.val 0 ≤ (s.advance dt).ns / 8000 := by
  decide +kernel

/-- Clause 7 of LampPortsAndPatterns. -/
theorem witness_LampPortsAndPatterns_8 :
    let dt : Nat := 5
    let p : Fin 32 := 9
    let x : LampPort := (State.lport (lampIn { sumI := 300, sumV := 30000, numIV := 1 } [] id) 9)
    let s : State := (lampIn { sumI := 300, sumV := 30000, numIV := 1 } [] id)
    s.watch.core = true
      ∧ (∀ d ∈ [194, 201, 202, 263], s.logOnly d = true)
      ∧ s.lport p = x
      ∧ s.lampDie = true
      ∧ s.lamp.posted < (s.advance dt).ns / 1000000
      ∧ x.numIV = 1
      ∧ x.numIn = 0 := by
  decide +kernel

/-- Clause 8 of LampPortsAndPatterns. -/
theorem witness_LampPortsAndPatterns_9 :
    let dt : Nat := 5
    let p : Fin 32 := 9
    let x : LampPort := (State.lport (lampIn {} [] id) 9)
    let s : State := (lampIn {} [] id)
    s.watch.core = true
      ∧ (∀ d ∈ [194, 201, 202, 263], s.logOnly d = true)
      ∧ s.lport p = x
      ∧ s.lampDie = true
      ∧ s.lamp.posted < (s.advance dt).ns / 1000000
      ∧ x.numIV = 0
      ∧ x.numIn = 0 := by
  decide +kernel

/-- Clause 9 of LampPortsAndPatterns. -/
theorem witness_LampPortsAndPatterns_10 :
    let dt : Nat := 5
    let p : Fin 32 := 9
    let x : LampPort := (State.lport (lampIn { d := 43999, therm := 27500 + 2 ^ 16 * 63536 } [(Reg.LAMP_PORT_STAT 9, 1)] id) 9)
    let vf : List Nat := [26700, 26700, 26700, 26700]
    let s : State := (lampIn { d := 43999, therm := 27500 + 2 ^ 16 * 63536 } [(Reg.LAMP_PORT_STAT 9, 1)] id)
    s.watch.core = true
      ∧ (∀ d ∈ [194, 201, 202, 263], s.logOnly d = true)
      ∧ s.lport p = x
      ∧ s.lampDie = true
      ∧ p.val * 3125000 ≤ (s.advance dt).ns
      ∧ x.slot = none
      ∧ s.fld (Reg.LAMP_PORT_STAT p) 2 0 = 1
      ∧ 3000 ≤ x.d * s.lamp.periodLen / 65536
      ∧ vf.length = 4
      ∧ bits x.therm 15 0 ≠ 0
      ∧ bits x.therm 31 16 ≠ 0
      ∧ (s.fltInst 194 p).cond = false := by
  decide +kernel

/-- Clause 10 of LampPortsAndPatterns. -/
theorem witness_LampPortsAndPatterns_11 :
    let dt : Nat := 800000003
    let c : Nat := 3
    let p : Fin 32 := 9
    let x : LampPort := (State.lport (lampIn { window := some 3 } [(Reg.LAMP_PORT_TJ 9, 0x10410)] id) 9)
    let s : State := (lampIn { window := some 3 } [(Reg.LAMP_PORT_TJ 9, 0x10410)] id)
    s.watch.core = true
      ∧ (∀ d ∈ [194, 201, 202, 263], s.logOnly d = true)
      ∧ s.lport p = x
      ∧ s.lampDie = true
      ∧ x.window = some c
      ∧ c + sec 1 ≤ s.clk + dt := by
  decide +kernel

/-- Clause 12 of LampPortsAndPatterns. -/
theorem witness_LampPortsAndPatterns_12 :
    let dt : Nat := 5
    let ball : Nat := 1184
    let p : Fin 32 := 9
    let x : LampPort := (State.lport (lampIn {} [] id) 9)
    let f : NbFinding := ⟨0, 1184, 900⟩
    let s : State := (lampIn {} [] id)
    s.watch.core = true
      ∧ (∀ d ∈ [194, 201, 202, 263], s.logOnly d = true)
      ∧ s.lport p = x
      ∧ s.lampDie = true
      ∧ (s.logOnly 200 = true ∨ s.detReaction 200 = 5)
      ∧ (s.advance dt).nbDue p = true
      ∧ f.ohms < 1000
      ∧ f.ball = ball
      ∧ ball < 2048 := by
  decide +kernel

/-- Clause 15 of LampPortsAndPatterns. -/
theorem witness_LampPortsAndPatterns_13 :
    let p : Fin 32 := 9
    let g : Fin 32 := 1
    let x : LampPort := (State.lport (lampIn {} [(Reg.LAMP_GRP_CFG 1, 0)] id) 9)
    let s : State := (lampIn {} [(Reg.LAMP_GRP_CFG 1, 0)] id)
    s.watch.core = true
      ∧ (∀ d ∈ [194, 201, 202, 263], s.logOnly d = true)
      ∧ s.lport p = x
      ∧ s.lampDie = true
      ∧ s.grpMode g ≠ 1 := by
  decide +kernel

/-- Clause 17 of LampPortsAndPatterns. -/
theorem witness_LampPortsAndPatterns_14 :
    let p : Fin 32 := 9
    let x : LampPort := (State.lport (lampIn {} [] id) 9)
    let v : Word := 0x01001040#32
    let s : State := (lampIn {} [] id)
    s.watch.core = true
      ∧ (∀ d ∈ [194, 201, 202, 263], s.logOnly d = true)
      ∧ s.lport p = x
      ∧ s.lampDie = true
      ∧ bits v.toNat 5 0 < bits v.toNat 11 6 := by
  decide +kernel

/-- Clause 21 of LampPortsAndPatterns. -/
theorem witness_LampPortsAndPatterns_15 :
    let p : Fin 32 := 9
    let e : Fin 8 := 2
    let x : LampPort := (State.lport (lampIn {} [(Reg.LAMP_PAT_HANDLE 2, 5)] id) 9)
    let s : State := (lampIn {} [(Reg.LAMP_PAT_HANDLE 2, 5)] id)
    s.watch.core = true
      ∧ (∀ d ∈ [194, 201, 202, 263], s.logOnly d = true)
      ∧ s.lport p = x
      ∧ s.lampDie = true
      ∧ s.rn (Reg.LAMP_PAT_HANDLE e) ≠ 0 := by
  decide +kernel

/-- Clause 22 of LampPortsAndPatterns. -/
theorem witness_LampPortsAndPatterns_16 :
    let p : Fin 32 := 9
    let e : Fin 8 := 2
    let x : LampPort := (State.lport (lampIn {} [] id) 9)
    let s : State := (lampIn {} [] id)
    s.watch.core = true
      ∧ (∀ d ∈ [194, 201, 202, 263], s.logOnly d = true)
      ∧ s.lport p = x
      ∧ s.lampDie = true
      ∧ s.rn (Reg.LAMP_PAT_HANDLE e) = 0 := by
  decide +kernel

/-- Clause 23 of LampPortsAndPatterns. -/
theorem witness_LampPortsAndPatterns_17 :
    let dt : Nat := 5
    let n : Nat := 0
    let u : Nat := 900
    let p : Fin 32 := 9
    let g : Fin 32 := 1
    let w : Fin 4096 := 7
    let x : LampPort := (State.lport (withFix { lampIn {} [] with berths := { State.reset.berths with entries := [(1, { kind := 4, resource := 1, extent := 1, gen := 1, state := 1 })] } } fun x => { x with ways := [(7, [(0, [0x133, 0, 4, 0x04000001, 2, 0, 0x1000, 0])])], params := [(4, [(0, 900)])] }) 9)
    let ws : List Nat := [0x133, 0, 4, 0x04000001, 2, 0, 0x1000, 0]
    let s : State := (withFix { lampIn {} [] with berths := { State.reset.berths with entries := [(1, { kind := 4, resource := 1, extent := 1, gen := 1, state := 1 })] } } fun x => { x with ways := [(7, [(0, [0x133, 0, 4, 0x04000001, 2, 0, 0x1000, 0])])], params := [(4, [(0, 900)])] })
    s.watch.core = true
      ∧ (∀ d ∈ [194, 201, 202, 263], s.logOnly d = true)
      ∧ s.lport p = x
      ∧ s.lampDie = true
      ∧ s.fixture.ways = [(w.val, [(0, ws)])]
      ∧ s.fixture.outs = []
      ∧ s.twin.mirrored = []
      ∧ s.wayOn w n = true
      ∧ wSrc ws = 3
      ∧ wDst ws = 3
      ∧ wCount ws = 1
      ∧ (s.berth (hIndex (wDstH ws))).resource = g.val
      ∧ (wDstFirst ws = 6 → s.grpMode g ≠ 2)
      ∧ s.tp n - wLead ws * 1000 ≤ (s.advance dt).ns
      ∧ timedAt (tabGetD s.fixture.params (bits (wSrcI ws) 9 0) []) n = some u := by
  decide +kernel

/-- A cue list at index 3 with generation 7, in Pier service, and the slots of cues. -/
def listIn (slots : List (Nat × Cue)) (more : List (Nat × Nat) := []) : State :=
  { withRegs ((Reg.PIER_CFG, 1) :: more) with
    clk := 9
    berths := { State.reset.berths with entries := [(3, { kind := 9, resource := 0, extent := 0, gen := 7, state := 1, params := [0, 4096] })] }
    cues := { State.reset.cues with slots := slots } }

/-- An immediate MARK of that list. -/
def markWords : List Word := 0#32 :: 0x90007003#32 :: List.replicate 14 0#32

def markCue : Cue := { words := markWords.map (·.toNat), gen := 1 }

/-- Clauses 1, 2 of BerthsAndCues. -/
theorem witness_BerthsAndCues_1 :
    let dt : Nat := 5
    let kind : Nat := 0
    let res : Nat := 0
    let ix : Nat := 0
    let rep : Nat := 0
    let lim : Nat := 4096
    let d : Door := (.pier 4)
    let ps : List Param := []
    let a : State := (State.admitReq (State.advance State.reset 5) (.pier 4) 0x20 []).1
    let s : State := State.reset
    s.watch.core = true
      ∧ s.logOnly 224 = true
      ∧ (s.advance dt).admitReq d 0x20 (createBody 9 res ps) = (a, true)
      ∧ kindItems 9 ps = true
      ∧ paramD ps 0x8000 0 = rep
      ∧ paramD ps 0x8001 4096 = lim
      ∧ rep ≤ 1
      ∧ 1 ≤ lim
      ∧ lim ≤ 4096
      ∧ s.freeIndex = some ix
      ∧ (s.advance dt).admitReq d 0x20 (createBody kind res ps) = (a, true)
      ∧ kind = 0 ∨ 10 ≤ kind := by
  decide +kernel

/-- Clauses 3, 7 of BerthsAndCues. -/
theorem witness_BerthsAndCues_2 :
    let dt : Nat := 5
    let h : Nat := 0x90007003
    let q : Nat := 4
    let rep : Nat := 0
    let lim : Nat := 4096
    let d : Door := (.pier 4)
    let ps : List Param := []
    let a : State := (State.admitReq (State.advance (listIn []) 5) (.pier 4) 0x21 []).1
    let s : State := (listIn [])
    s.watch.core = true
      ∧ s.logOnly 224 = true
      ∧ (s.advance dt).admitReq d 0x21 (beBytes 4 h ++ paramItems ps) = (a, true)
      ∧ malformed h = false
      ∧ s.live h = true
      ∧ hKind h = 9
      ∧ kindItems 9 ps = true
      ∧ paramD ps 0x8000 ((s.berth (hIndex h)).params.getD 0 0) = rep
      ∧ paramD ps 0x8001 ((s.berth (hIndex h)).params.getD 1 4096) = lim
      ∧ rep ≤ 1
      ∧ 1 ≤ lim
      ∧ lim ≤ 4096
      ∧ s.serviceMode = false
      ∧ bit (s.rn Reg.PIER_CFG) 0 = true
      ∧ s.outQ 7 = {}
      ∧ (outPacket 3 0 (qmpBytes 1 0x23 0 q s.nodeId 0 0 (s.queryBody (hIndex h)))).length ≤ 512 := by
  decide +kernel

/-- Clause 4 of BerthsAndCues. -/
theorem witness_BerthsAndCues_3 :
    let dt : Nat := 5
    let h : Nat := 0x90007003
    let d : Door := (.pier 4)
    let ps : List Param := []
    let a : State := (State.admitReq (State.advance State.reset 5) (.pier 4) 0x21 []).1
    let s : State := State.reset
    s.watch.core = true
      ∧ s.logOnly 224 = true
      ∧ (s.advance dt).admitReq d 0x21 (beBytes 4 h ++ paramItems ps) = (a, true)
      ∧ malformed h = false
      ∧ s.live h = false := by
  decide +kernel

/-- Clause 5 of BerthsAndCues. -/
theorem witness_BerthsAndCues_4 :
    let dt : Nat := 5
    let h : Nat := 0x90007003
    let d : Door := (.pier 4)
    let a : State := (State.admitReq (State.advance (listIn []) 5) (.pier 4) 0x22 []).1
    let s : State := (listIn [])
    s.watch.core = true
      ∧ s.logOnly 224 = true
      ∧ (s.advance dt).admitReq d 0x22 (beBytes 4 h) = (a, true)
      ∧ malformed h = false
      ∧ s.live h = true := by
  decide +kernel

/-- Clause 6 of BerthsAndCues. -/
theorem witness_BerthsAndCues_5 :
    let dt : Nat := 5
    let h : Nat := 0x90007400
    let d : Door := (.pier 4)
    let a : State := (State.admitReq (State.advance (listIn []) 5) (.pier 4) 0x22 []).1
    let s : State := (listIn [])
    s.watch.core = true
      ∧ s.logOnly 224 = true
      ∧ (s.advance dt).admitReq d 0x22 (beBytes 4 h) = (a, true)
      ∧ malformed h = true := by
  decide +kernel

/-- Clause 8 of BerthsAndCues. -/
theorem witness_BerthsAndCues_6 :
    let dt : Nat := 5
    let ix : Nat := 0
    let d : Door := (.pier 4)
    let ws : List Word := markWords
    let c : Cue := { markCue with gen := 0 }
    let a : State := (State.admitReq (State.advance (listIn []) 5) (.pier 4) 0x30 []).1
    let s : State := (listIn [])
    s.watch.core = true
      ∧ s.logOnly 224 = true
      ∧ (s.advance dt).admitReq d 0x30 (ws.flatMap fun w => beBytes 4 w.toNat) = (a, true)
      ∧ ws.length = 16
      ∧ { words := ws.map (·.toNat), gen := 0 } = c
      ∧ s.cueCheck c = 0
      ∧ cKind c = 0
      ∧ cAlign c = false
      ∧ cDeps c = []
      ∧ s.freeSlot = ix := by
  decide +kernel

/-- Clause 9 of BerthsAndCues. -/
theorem witness_BerthsAndCues_7 :
    let dt : Nat := 5
    let d : Door := (.pier 4)
    let ws : List Word := markWords
    let c : Cue := { markCue with gen := 0 }
    let a : State := (State.admitReq (State.advance State.reset 5) (.pier 4) 0x30 []).1
    let s : State := State.reset
    s.watch.core = true
      ∧ s.logOnly 224 = true
      ∧ (s.advance dt).admitReq d 0x30 (ws.flatMap fun w => beBytes 4 w.toNat) = (a, true)
      ∧ ws.length = 16
      ∧ { words := ws.map (·.toNat), gen := 0 } = c
      ∧ s.cueCheck c ≠ 0 := by
  decide +kernel

/-- Clause 10 of BerthsAndCues. -/
theorem witness_BerthsAndCues_8 :
    let dt : Nat := 5
    let m : Nat := 0
    let k : Fin 4096 := 5
    let c : Cue := markCue
    let s : State := (listIn [(5, markCue)])
    s.watch.core = true
      ∧ s.logOnly 224 = true
      ∧ s.cueAt k = c
      ∧ c.state = 1
      ∧ c.counter = 0
      ∧ s.cueMoment c = some m
      ∧ m ≤ (s.advance dt).ns := by
  decide +kernel

/-- Clause 11 of BerthsAndCues. -/
theorem witness_BerthsAndCues_9 :
    let k : Fin 4096 := 5
    let c : Cue := { markCue with counter := 1 }
    let s : State := (listIn [(5, { markCue with counter := 1 })])
    s.watch.core = true
      ∧ s.logOnly 224 = true
      ∧ s.cueAt k = c
      ∧ c.counter ≠ 0 := by
  decide +kernel

/-- Clause 12 of BerthsAndCues. -/
theorem witness_BerthsAndCues_10 :
    let dt : Nat := 5
    let ix : Nat := 5
    let id : Nat := 0x10005
    let d : Door := (.pier 4)
    let c : Cue := markCue
    let a : State := (State.admitReq (State.advance (listIn [(5, markCue)]) 5) (.pier 4) 0x31 []).1
    let s : State := (listIn [(5, markCue)])
    s.watch.core = true
      ∧ s.logOnly 224 = true
      ∧ (s.advance dt).admitReq d 0x31 (beBytes 4 id) = (a, true)
      ∧ s.cueSlot id = some ix
      ∧ s.cues.slots = [(ix, c)]
      ∧ c.state = 1 := by
  decide +kernel

/-- Clause 13 of BerthsAndCues. -/
theorem witness_BerthsAndCues_11 :
    let dt : Nat := 5
    let ix : Nat := 5
    let id : Nat := 0x10005
    let d : Door := (.pier 4)
    let c : Cue := { markCue with state := 2, readyClk := 3 }
    let a : State := (State.admitReq (State.advance (listIn [(5, { markCue with state := 2, readyClk := 3 })]) 5) (.pier 4) 0x31 []).1
    let s : State := (listIn [(5, { markCue with state := 2, readyClk := 3 })])
    s.watch.core = true
      ∧ s.logOnly 224 = true
      ∧ (s.advance dt).admitReq d 0x31 (beBytes 4 id) = (a, true)
      ∧ s.cueSlot id = some ix
      ∧ s.cueAt ix = c
      ∧ c.state = 2
      ∧ c.readyClk < s.clk + dt := by
  decide +kernel

/-- Clause 14 of BerthsAndCues. -/
theorem witness_BerthsAndCues_12 :
    let dt : Nat := 5
    let ix : Nat := 5
    let h : Nat := 0x90007003
    let d : Door := (.pier 4)
    let c : Cue := markCue
    let a : State := (State.admitReq (State.advance (listIn [(5, markCue)]) 5) (.pier 4) 0x32 []).1
    let s : State := (listIn [(5, markCue)])
    s.watch.core = true
      ∧ s.logOnly 224 = true
      ∧ (s.advance dt).admitReq d 0x32 (beBytes 4 h) = (a, true)
      ∧ malformed h = false
      ∧ s.live h = true
      ∧ hKind h = 9
      ∧ cList c = h
      ∧ h < 2 ^ 32
      ∧ s.cues.slots = [(ix, c)]
      ∧ c.state = 1 := by
  decide +kernel

/-- Clause 15 of BerthsAndCues. -/
theorem witness_BerthsAndCues_13 :
    let dt : Nat := 5
    let h : Nat := 0x40007003
    let d : Door := (.pier 4)
    let a : State := (State.admitReq (State.advance (listIn [(5, markCue)]) 5) (.pier 4) 0x32 []).1
    let s : State := (listIn [(5, markCue)])
    s.watch.core = true
      ∧ s.logOnly 224 = true
      ∧ (s.advance dt).admitReq d 0x32 (beBytes 4 h) = (a, true)
      ∧ hKind h ≠ 9 := by
  decide +kernel

/-- Clause 16 of BerthsAndCues. -/
theorem witness_BerthsAndCues_14 :
    let ix : Nat := 5
    let id : Nat := 0x10005
    let c : Cue := markCue
    let s : State := (listIn [(5, markCue)])
    s.watch.core = true
      ∧ s.logOnly 224 = true
      ∧ s.serviceMode = false
      ∧ s.cueSlot id = some ix
      ∧ id < 2 ^ 32
      ∧ s.cueAt ix = c
      ∧ c.words.length = 16 := by
  decide +kernel

/-- A session of MAC 1. -/
def sess : Session := { id := 7, mac := 1, sender := 50, top := some 4, responses := [(4, [1#8, 2#8])], classes := 255, evMac := 1, evAddr := 50 }

/-- MAC 1 busy sending, one session, and Ferry state changed. -/
def withFerry (s : State) (f : FerryState → FerryState) : State := { s with ferry := f s.ferry }
def qmpIn (more : List (Nat × Nat) := []) (f : FerryState → FerryState := id) : State :=
  withFerry (macIn { sending := some ("A", []) } more) fun x => f { x with sessions := [sess] }

def anEvent : Event := ⟨0x30, 0, 5, 0, 3, [1, 2, 3, 4, 5, 6]⟩

/-- A locked sequence of one local read at the start of Hold, backing off. -/
def backOff (restarts : Nat) : LockSeq :=
  { door := .pier 4, ops := [⟨3, 0x27FF0000, 0#32, 0#32⟩], far := 0, restarts := restarts, step := 4, until_ := 3 }

/-- A transaction of the Pier that waits for its response. -/
def outTxn : Txn := { tag := 5, door := .pier 4, type := 16, op := 1, node := 0, dest := 0, space := 0, offset := 0, count := 1, limit := 80000 }

/-- A READ of staging by node 40. -/
def farRequest (epoch target : Nat) : RegRequest := ⟨false, 3, epoch, .read, false, false, 8, 40, target, 0, 0x27FF0000, 1, []⟩

/-- Group CA with node 40 beyond it, and the Ferry's and the link's states changed. -/
def nodeIn (f : FerryState → FerryState := id) (k : SlkState → SlkState := id) (more : List (Nat × Nat) := []) : State :=
  withSlk (withFerry (withTwin (groupLane ((Reg.SYS_UID 1, 4) :: (Reg.PIER_CFG, 1) :: more))
    fun t => { t with routes := [⟨40, 0, 1, 0⟩] }) f)
    fun x => k { x with credits := [(0, { rspLimit := 5, reqLimit := 5 })] }

/-- The tile with its B port linked. -/
def tileB : Tile := { tile0 with p1 := { linked := true } }

/-- A tile with credits on its B port. -/
def tileIn (t : Tile) : State :=
  withSlk (withTile t) fun x => { x with credits := [(tileKey 6 true, { rspLimit := 5 })] }

/-- Clause 1 of QmpSessions. -/
theorem witness_QmpSessions_1 :
    let nonce : List Byte := []
    let env : QmpEnv := ⟨1, 50, 7, 5, none, 0⟩
    let s : State := State.reset
    s.watch.core = true
      ∧ env.mac < 5
      ∧ s.serviceMode = false
      ∧ s.meant env = true
      ∧ s.authFails s.venueKey env 1 nonce = false
      ∧ s.ferry.sessions.length < 16 := by
  decide +kernel

/-- Clause 2 of QmpSessions. -/
theorem witness_QmpSessions_2 :
    let nonce : List Byte := []
    let env : QmpEnv := ⟨1, 50, 7, 5, some [], 0⟩
    let s : State := State.reset
    s.watch.core = true
      ∧ env.mac < 5
      ∧ s.serviceMode = false
      ∧ s.meant env = true
      ∧ s.authFails s.venueKey env 1 nonce = true := by
  decide +kernel

/-- Clauses 3, 7, 11 of QmpSessions. -/
theorem witness_QmpSessions_3 :
    let dt : Nat := 5
    let id : Nat := 7
    let n : Nat := 0
    let env : QmpEnv := ⟨1, 50, 7, 5, none, 0⟩
    let x : Session := sess
    let f : String × List Byte := ("A", [])
    let a : State := (State.admitReq (State.advance (qmpIn) 5) (.qmp ⟨1, 50, 7, 5, none, 0⟩) 2 []).1
    let s : State := (qmpIn)
    s.watch.core = true
      ∧ env.mac < 5
      ∧ (s.advance dt).admitReq (.qmp env) 2 [] = (a, true)
      ∧ s.serviceMode = false
      ∧ s.session? env.session = some x
      ∧ s.authFails (s.venueKey.map fun _ => x.key) env 3 [] = false
      ∧ seqFresh x env.seq = true
      ∧ s.meant env = true
      ∧ (s.mac env.mac).sending = some f
      ∧ s.macDisabled env.mac = false
      ∧ tabGetD (s.mac env.mac).txq 6 [] = []
      ∧ (s.advance dt).admitReq (.qmp env) 0x70 (beBytes 4 id ++ beBytes 1 n) = (a, true) := by
  decide +kernel

/-- Clause 4 of QmpSessions. -/
theorem witness_QmpSessions_4 :
    let dt : Nat := 48000000000
    let id : Nat := 7
    let env : QmpEnv := ⟨1, 50, 7, 5, none, 0⟩
    let x : Session := sess
    let s : State := (qmpIn)
    s.watch.core = true
      ∧ env.mac < 5
      ∧ s.ferry.sessions = [x]
      ∧ x.id = id
      ∧ x.last + sec 60 ≤ s.clk + dt := by
  decide +kernel

/-- Clause 5 of QmpSessions. -/
theorem witness_QmpSessions_5 :
    let dt : Nat := 5
    let id : Nat := 7
    let env : QmpEnv := ⟨1, 50, 7, 5, none, 0⟩
    let x : Session := sess
    let s : State := (qmpIn)
    s.watch.core = true
      ∧ env.mac < 5
      ∧ s.session? id = some x
      ∧ s.clk + dt < x.last + sec 60 := by
  decide +kernel

/-- Clause 6 of QmpSessions. -/
theorem witness_QmpSessions_6 :
    let env : QmpEnv := ⟨1, 50, 7, 5, none, 0⟩
    let s : State := (withRegs [(Reg.PIER_CFG, 1)])
    s.watch.core = true
      ∧ env.mac < 5
      ∧ s.serviceMode = false
      ∧ bit (s.rn Reg.PIER_CFG) 0 = true
      ∧ s.outQ 7 = {} := by
  decide +kernel

/-- Clause 8 of QmpSessions. -/
theorem witness_QmpSessions_7 :
    let env : QmpEnv := ⟨1, 50, 7, 4, none, 0⟩
    let x : Session := { sess with responses := [] , accepted := [4] }
    let s : State := (qmpIn [] fun x => { x with sessions := [{ sess with responses := [] , accepted := [4] }] })
    s.watch.core = true
      ∧ env.mac < 5
      ∧ s.serviceMode = false
      ∧ s.session? env.session = some x
      ∧ s.authFails (s.venueKey.map fun _ => x.key) env 3 [] = false
      ∧ seqFresh x env.seq = false
      ∧ x.responses.find? (fun r => r.1 == env.seq) = none := by
  decide +kernel

/-- Clause 9 of QmpSessions. -/
theorem witness_QmpSessions_8 :
    let env : QmpEnv := ⟨1, 50, 7, 4, none, 0⟩
    let x : Session := { sess with accepted := [4] }
    let m : List Byte := [1#8, 2#8]
    let f : String × List Byte := ("A", [])
    let s : State := (qmpIn [] fun x => { x with sessions := [{ sess with accepted := [4] }] })
    s.watch.core = true
      ∧ env.mac < 5
      ∧ s.serviceMode = false
      ∧ s.session? env.session = some x
      ∧ s.authFails (s.venueKey.map fun _ => x.key) env 3 [] = false
      ∧ seqFresh x env.seq = false
      ∧ x.top.getD 0 ≤ env.seq + 64
      ∧ (x.responses.find? (fun r => r.1 == env.seq)).map (·.2) = some m
      ∧ (s.mac env.mac).sending = some f
      ∧ s.macDisabled env.mac = false
      ∧ tabGetD (s.mac env.mac).txq 6 [] = [] := by
  decide +kernel

/-- Clause 10 of QmpSessions. -/
theorem witness_QmpSessions_9 :
    let env : QmpEnv := ⟨1, 50, 8, 4, none, 0⟩
    let f : String × List Byte := ("A", [])
    let s : State := (qmpIn)
    s.watch.core = true
      ∧ env.mac < 5
      ∧ s.serviceMode = false
      ∧ s.session? env.session = none
      ∧ (s.mac env.mac).sending = some f
      ∧ s.macDisabled env.mac = false
      ∧ tabGetD (s.mac env.mac).txq 6 [] = [] := by
  decide +kernel

/-- Clause 12 of QmpSessions. -/
theorem witness_QmpSessions_10 :
    let env : QmpEnv := ⟨1, 50, 7, 5, none, 0⟩
    let x : Session := sess
    let e : Event := anEvent
    let rest : List Event := []
    let s : State := ({ qmpIn with events := [anEvent], macs := [(1, { txq := [(6, List.replicate 64 ("A", []))] })] })
    s.watch.core = true
      ∧ env.mac < 5
      ∧ s.events = e :: rest
      ∧ s.ferry.sessions = [x]
      ∧ takesEvent x e = true
      ∧ x.events.length < 256
      ∧ 64 ≤ (tabGetD (s.mac x.evMac).txq 6 []).length
      ∧ bit (s.rn Reg.PIER_CFG) 0 = false := by
  decide +kernel

/-- Clause 13 of QmpSessions. -/
theorem witness_QmpSessions_11 :
    let env : QmpEnv := ⟨1, 50, 7, 5, none, 0⟩
    let x : Session := sess
    let f : String × List Byte := ("A", [])
    let e : Event := anEvent
    let rest : List Event := []
    let s : State := ({ qmpIn with events := [anEvent] })
    s.watch.core = true
      ∧ env.mac < 5
      ∧ s.events = e :: rest
      ∧ s.ferry.sessions = [x]
      ∧ takesEvent x e = true
      ∧ x.events = []
      ∧ x.evMac = env.mac
      ∧ (s.mac env.mac).sending = some f
      ∧ s.macDisabled env.mac = false
      ∧ tabGetD (s.mac env.mac).txq 6 [] = []
      ∧ bit (s.rn Reg.PIER_CFG) 0 = false := by
  decide +kernel

/-- Clauses 1, 3 of QmpTransfers. -/
theorem witness_QmpTransfers_1 :
    let dt : Nat := 5
    let addr : Nat := 0x27FF0000
    let v : Nat := 0
    let s : State := (withRegs [(Reg.PIER_CFG, 1)])
    s.watch.core = true
      ∧ s.serviceMode = false
      ∧ bit (s.rn Reg.PIER_CFG) 0 = true
      ∧ s.outQ 7 = {}
      ∧ addr < 2 ^ 32
      ∧ addr % 4 = 0
      ∧ assigned addr = true
      ∧ (s.advance dt).localBlocked .pier = false
      ∧ s.ferry.localWait = []
      ∧ ((s.advance dt).readReg .pier addr).1 = v
      ∧ inHold addr = true
      ∧ s.stageBase ≤ addr := by
  decide +kernel

/-- Clause 2 of QmpTransfers. -/
theorem witness_QmpTransfers_2 :
    let addr : Nat := 3
    let n : Nat := 5
    let s : State := (withRegs [(Reg.PIER_CFG, 1)])
    s.watch.core = true
      ∧ s.serviceMode = false
      ∧ bit (s.rn Reg.PIER_CFG) 0 = true
      ∧ s.outQ 7 = {}
      ∧ fMalformed addr = true ∨ n = 0 ∨ 256 < n := by
  decide +kernel

/-- Clause 4 of QmpTransfers. -/
theorem witness_QmpTransfers_3 :
    let addr : Nat := 0x8003000000000100
    let s : State := (withRegs [(Reg.PIER_CFG, 1), (Reg.TWIN_STAT, 2)])
    s.watch.core = true
      ∧ s.serviceMode = false
      ∧ bit (s.rn Reg.PIER_CFG) 0 = true
      ∧ s.outQ 7 = {}
      ∧ s.role = 2
      ∧ fClass addr = 2
      ∧ fMalformed addr = false := by
  decide +kernel

/-- Clause 5 of QmpTransfers. -/
theorem witness_QmpTransfers_4 :
    let n : Nat := 5
    let g : Fin 3 := 0
    let env : QmpEnv := ⟨1, 50, 7, 5, none, 40⟩
    let body : List Byte := []
    let x : Session := sess
    let r : Route := ⟨40, 0, 1, 0⟩
    let s : State := (nodeIn fun f => { f with sessions := [sess] })
    s.watch.core = true
      ∧ s.serviceMode = false
      ∧ s.session? env.session = some x
      ∧ s.authFails (s.venueKey.map fun _ => x.key) env n body = false
      ∧ seqFresh x env.seq = true
      ∧ s.meant env = false
      ∧ s.topo = 1
      ∧ env.target ≠ 0xFFFFFFFF
      ∧ s.twin.dupNode = false
      ∧ s.twin.routes = [r]
      ∧ r.node = env.target
      ∧ r.group = g
      ∧ s.fld (Reg.SLK_GRP_STAT g) 18 16 ≤ 6 := by
  decide +kernel

/-- Clause 6 of QmpTransfers. -/
theorem witness_QmpTransfers_5 :
    let dt : Nat := 80000
    let q : Nat := 4
    let n : Nat := 5
    let y : Txn := outTxn
    let s : State := (withFerry (withRegs [(Reg.PIER_CFG, 1), (Reg.FERRY_TIMEOUT, 100)]) fun f => { f with out := [outTxn] })
    s.watch.core = true
      ∧ s.serviceMode = false
      ∧ s.ferry.out = [y]
      ∧ y.tag = n
      ∧ y.posted = false
      ∧ y.ofSeq = false
      ∧ y.door = .pier q
      ∧ s.ferry.waiting = []
      ∧ s.ferry.seqs = []
      ∧ bit (s.rn Reg.PIER_CFG) 0 = true
      ∧ s.outQ 7 = {}
      ∧ y.sentAt + y.limit ≤ s.clk + dt := by
  decide +kernel

/-- Clause 7 of QmpTransfers. -/
theorem witness_QmpTransfers_6 :
    let dt : Nat := 80000
    let l : Line := ⟨.pier 4, 0, 0, 64, List.replicate 16 0#32, List.replicate 16 false, 2, 0⟩
    let s : State := (withFerry State.reset fun f => { f with lines := [⟨.pier 4, 0, 0, 64, List.replicate 16 0#32, List.replicate 16 false, 2, 0⟩] })
    s.watch.core = true
      ∧ s.serviceMode = false
      ∧ s.ferry.lines = [l]
      ∧ l.since + us 100 ≤ s.clk + dt
      ∧ l.words.length = 16
      ∧ l.taken = List.replicate 16 false
      ∧ l.base < 2 ^ 40
      ∧ l.range < 64 := by
  decide +kernel

/-- Clause 8 of QmpTransfers. -/
theorem witness_QmpTransfers_7 :
    let v : Nat := 0
    let rs : List Nat := [0, 0, 0, 0]
    let s : State := State.reset
    s.watch.core = true
      ∧ s.serviceMode = false
      ∧ s.rdWords (Reg.FERRY_RANGE_WIN 0) 4 = rs
      ∧ s.rangeReason rs = 0
      ∧ s.fld Reg.FERRY_RANGE_SEL 5 0 = v := by
  decide +kernel

/-- Clause 9 of QmpTransfers. -/
theorem witness_QmpTransfers_8 :
    let v : Nat := 1
    let s : State := (withRegs [(Reg.FERRY_RANGE_WIN 0, 4)])
    s.watch.core = true
      ∧ s.serviceMode = false
      ∧ s.rangeReason (s.rdWords (Reg.FERRY_RANGE_WIN 0) 4) = v
      ∧ v ≠ 0 := by
  decide +kernel

/-- Clauses 10, 12 of QmpTransfers. -/
theorem witness_QmpTransfers_9 :
    let w : Word := 4660#32
    let s : State := State.reset
    s.watch.core = true
      ∧ s.serviceMode = false
      ∧ 100 ≤ bits w.toNat 16 0 ∧ bits w.toNat 16 0 ≤ 100000
      ∧ w ≠ 0xFFFFFFFF#32 := by
  decide +kernel

/-- Clause 11 of QmpTransfers. -/
theorem witness_QmpTransfers_10 :
    let w : Word := 99#32
    let s : State := State.reset
    s.watch.core = true
      ∧ s.serviceMode = false
      ∧ bits w.toNat 16 0 < 100 := by
  decide +kernel

/-- Clause 13 of QmpTransfers. -/
theorem witness_QmpTransfers_11 :
    let s : State := ({ State.reset with watch := { State.reset.watch with warnAt := some 4 } })
    s.watch.core = true
      ∧ s.serviceMode = false
      ∧ s.watch.warnAt.isSome = true := by
  decide +kernel

/-- Clause 14 of QmpTransfers. -/
theorem witness_QmpTransfers_12 :
    let s : State := (withRegs [(Reg.PIER_CFG, 1)])
    s.watch.core = true
      ∧ s.serviceMode = false
      ∧ s.watch.warnAt = none
      ∧ bit (s.rn Reg.PIER_CFG) 0 = true
      ∧ s.outQ 7 = {} := by
  decide +kernel

/-- Clauses 1, 2, 3 of PortsAndLocks. -/
theorem witness_PortsAndLocks_1 :
    let addr : Nat := 0x27FF0000
    let s : State := (withRegs [(Reg.PIER_CFG, 1)])
    s.watch.core = true
      ∧ s.serviceMode = false
      ∧ s.slk.lock = none
      ∧ s.ferry.seqs = []
      ∧ s.ferry.waiting = []
      ∧ s.ferry.localWait = []
      ∧ s.slk.waitingPosted = []
      ∧ s.pipe.commits = []
      ∧ bit (s.rn Reg.PIER_CFG) 0 = true
      ∧ s.outQ 7 = {}
      ∧ inHold addr = true
      ∧ addr % 4 = 0
      ∧ s.stageBase ≤ addr := by
  decide +kernel

/-- Clause 4 of PortsAndLocks. -/
theorem witness_PortsAndLocks_2 :
    let dt : Nat := 5
    let x : LockSeq := { backOff 2 with until_ := 9 }
    let s : State := (withFerry State.reset fun f => { f with seqs := [{ backOff 2 with until_ := 9 }] })
    s.watch.core = true
      ∧ s.serviceMode = false
      ∧ s.ferry.seqs = [x]
      ∧ x.step = 4
      ∧ s.clk + dt < x.until_ := by
  decide +kernel

/-- Clause 5 of PortsAndLocks. -/
theorem witness_PortsAndLocks_3 :
    let dt : Nat := 5
    let h : Nat := 80
    let x : LockSeq := (backOff 2)
    let s : State := (nodeIn (fun f => { f with seqs := [backOff 2] }) fun k => { k with lock := some (80, 0) })
    s.watch.core = true
      ∧ s.serviceMode = false
      ∧ s.ferry.seqs = [x]
      ∧ x.step = 4
      ∧ x.until_ ≤ s.clk + dt
      ∧ (s.advance dt).lockHolder = some h
      ∧ s.nodeId < h := by
  decide +kernel

/-- Clause 6 of PortsAndLocks. -/
theorem witness_PortsAndLocks_4 :
    let dt : Nat := 5
    let q : Nat := 4
    let h : Nat := 40
    let x : LockSeq := (backOff 8)
    let s : State := (nodeIn (fun f => { f with seqs := [backOff 8] }) fun k => { k with lock := some (40, 0) })
    s.watch.core = true
      ∧ s.serviceMode = false
      ∧ s.ferry.seqs = [x]
      ∧ x.step = 4
      ∧ x.until_ ≤ s.clk + dt
      ∧ (s.advance dt).lockHolder = some h
      ∧ h < s.nodeId
      ∧ 8 ≤ x.restarts
      ∧ x.values = []
      ∧ x.door = .pier q
      ∧ bit (s.rn Reg.PIER_CFG) 0 = true
      ∧ s.outQ 7 = {} := by
  decide +kernel

/-- Clauses 7, 12 of PortsAndLocks. -/
theorem witness_PortsAndLocks_5 :
    let g : Fin 3 := 0
    let r : Route := ⟨40, 0, 1, 0⟩
    let p : RegRequest := (farRequest 0 77)
    let s : State := (nodeIn)
    s.watch.core = true
      ∧ s.serviceMode = false
      ∧ p.requester ≠ s.nodeId
      ∧ p.target = s.nodeId
      ∧ s.topo = 1
      ∧ p.requester ≠ 0xFFFFFFFF
      ∧ s.twin.dupNode = false
      ∧ s.twin.routes = [r]
      ∧ r.node = p.requester
      ∧ r.group = g
      ∧ s.fld (Reg.SLK_GRP_STAT g) 18 16 ≤ 6
      ∧ s.twin.dupReg = []
      ∧ s.slk.lock = none
      ∧ s.hasCredit g false = true
      ∧ s.slk.regWait = []
      ∧ p.op = .read
      ∧ p.count = 1
      ∧ p.locked = false
      ∧ p.posted = false
      ∧ p.space = 0
      ∧ inHold p.offset = true
      ∧ p.offset % 4 = 0 := by
  decide +kernel

/-- Clause 8 of PortsAndLocks. -/
theorem witness_PortsAndLocks_6 :
    let dt : Nat := 5
    let c : Nat := 0
    let p : RegRequest := (farRequest 0 77)
    let s : State := (withTwin nodeIn fun t => { t with dupReg := [((40, 8), 0)] })
    s.watch.core = true
      ∧ s.serviceMode = false
      ∧ p.requester ≠ s.nodeId
      ∧ p.target = s.nodeId
      ∧ s.twin.dupReg = [((p.requester, p.tag), c)]
      ∧ s.clk + dt < c + ms 10 := by
  decide +kernel

/-- Clause 9 of PortsAndLocks. -/
theorem witness_PortsAndLocks_7 :
    let n : Nat := 6
    let b : Bool := true
    let p : RegRequest := (farRequest 9 6)
    let u : Tile := tileB
    let s : State := (tileIn tileB)
    s.watch.core = true
      ∧ s.serviceMode = false
      ∧ tabGet? s.tiles n = some u
      ∧ u.pos = some p.pos
      ∧ p.epoch ≠ u.epoch
      ∧ (u.port (!b)).linked = false
      ∧ s.hasCredit (tileKey n b) false = true
      ∧ s.slk.regWait = [] := by
  decide +kernel

/-- Clause 10 of PortsAndLocks. -/
theorem witness_PortsAndLocks_8 :
    let q : Nat := 4
    let w : Word := 4660#32
    let y : Txn := outTxn
    let a : RegResponse := ⟨false, 0, 0, 5, false, 0, 0, 0, 40, 0, 0, 1, [4660#32]⟩
    let s : State := (withFerry (withRegs [(Reg.PIER_CFG, 1)]) fun f => { f with out := [outTxn] })
    s.watch.core = true
      ∧ s.serviceMode = false
      ∧ s.ferry.out = [y]
      ∧ y.tag = a.tag
      ∧ y.posted = false
      ∧ a.posted = false
      ∧ y.ofSeq = false
      ∧ y.want = 0
      ∧ y.snap = 0
      ∧ y.door = .pier q
      ∧ s.ferry.waiting = []
      ∧ s.ferry.seqs = []
      ∧ bit (s.rn Reg.PIER_CFG) 0 = true
      ∧ s.outQ 7 = {}
      ∧ a.status = 0
      ∧ a.data = [w]
      ∧ a.requester = s.nodeId
      ∧ a.target ≠ s.nodeId := by
  decide +kernel

/-- Clause 11 of PortsAndLocks. -/
theorem witness_PortsAndLocks_9 :
    let s : State := State.reset
    s.watch.core = true
      ∧ s.serviceMode = false
      ∧ s.ferry.out = [] := by
  decide +kernel

/-- Clause 13 of PortsAndLocks. -/
theorem witness_PortsAndLocks_10 :
    let dt : Nat := 5
    let m : Nat := 6
    let g : Fin 3 := 0
    let r : Route := ⟨40, 0, 1, 0⟩
    let p : RegRequest := (farRequest 0 77)
    let s : State := (nodeIn id fun k => { k with lock := some (6, 0) })
    s.watch.core = true
      ∧ s.serviceMode = false
      ∧ p.requester ≠ s.nodeId
      ∧ p.target = s.nodeId
      ∧ p.posted = false
      ∧ s.topo = 1
      ∧ p.requester ≠ 0xFFFFFFFF
      ∧ s.twin.dupNode = false
      ∧ s.twin.routes = [r]
      ∧ r.node = p.requester
      ∧ r.group = g
      ∧ s.fld (Reg.SLK_GRP_STAT g) 18 16 ≤ 6
      ∧ s.twin.dupReg = []
      ∧ (s.advance dt).lockHolder = some m
      ∧ m ≠ p.requester
      ∧ s.hasCredit g false = true
      ∧ s.slk.regWait = [] := by
  decide +kernel

/-- Clause 14 of PortsAndLocks. -/
theorem witness_PortsAndLocks_11 :
    let dt : Nat := 5
    let c : Nat := 0
    let g : Fin 3 := 0
    let r : Route := ⟨40, 0, 1, 0⟩
    let p : RegRequest := (farRequest 0 77)
    let s : State := (nodeIn id fun k => { k with lock := some (40, 0) })
    s.watch.core = true
      ∧ s.serviceMode = false
      ∧ p.requester ≠ s.nodeId
      ∧ p.target = s.nodeId
      ∧ p.posted = false
      ∧ s.topo = 1
      ∧ p.requester ≠ 0xFFFFFFFF
      ∧ s.twin.dupNode = false
      ∧ s.twin.routes = [r]
      ∧ r.node = p.requester
      ∧ r.group = g
      ∧ s.fld (Reg.SLK_GRP_STAT g) 18 16 ≤ 6
      ∧ s.twin.dupReg = []
      ∧ s.slk.lock = some (p.requester, c)
      ∧ s.clk + dt < c + us 20
      ∧ s.slk.waitingPosted = []
      ∧ s.ferry.localWait = []
      ∧ s.ferry.seqs = []
      ∧ s.pipe.commits = [] := by
  decide +kernel

/-- Clause 15 of PortsAndLocks. -/
theorem witness_PortsAndLocks_12 :
    let dt : Nat := 5
    let m : Nat := 6
    let c : Nat := 0
    let g : Fin 3 := 0
    let r : Route := ⟨40, 0, 1, 0⟩
    let p : RegRequest := (farRequest 0 77)
    let s : State := (nodeIn id fun k => { k with lock := some (6, 0) })
    s.watch.core = true
      ∧ s.serviceMode = false
      ∧ p.requester ≠ s.nodeId
      ∧ p.target = s.nodeId
      ∧ p.posted = false
      ∧ s.topo = 1
      ∧ p.requester ≠ 0xFFFFFFFF
      ∧ s.twin.dupNode = false
      ∧ s.twin.routes = [r]
      ∧ r.node = p.requester
      ∧ r.group = g
      ∧ s.fld (Reg.SLK_GRP_STAT g) 18 16 ≤ 6
      ∧ s.twin.dupReg = []
      ∧ s.slk.lock = some (m, c)
      ∧ s.clk + dt < c + us 20
      ∧ m ≠ p.requester := by
  decide +kernel

/-- Clause 16 of PortsAndLocks. -/
theorem witness_PortsAndLocks_13 :
    let dt : Nat := 16000
    let c : Nat := 0
    let h : Nat := 40
    let s : State := (nodeIn id fun k => { k with lock := some (40, 0) })
    s.watch.core = true
      ∧ s.serviceMode = false
      ∧ s.slk.lock = some (h, c)
      ∧ c + us 20 ≤ s.clk + dt
      ∧ h ≠ s.nodeId
      ∧ s.slk.waitingPosted = []
      ∧ s.ferry.localWait = []
      ∧ s.ferry.seqs = []
      ∧ s.pipe.commits = [] := by
  decide +kernel

/-- Clause 17 of PortsAndLocks. -/
theorem witness_PortsAndLocks_14 :
    let dt : Nat := 5
    let c : Nat := 0
    let h : Nat := 40
    let s : State := (nodeIn id fun k => { k with lock := some (40, 0) })
    s.watch.core = true
      ∧ s.serviceMode = false
      ∧ s.slk.lock = some (h, c)
      ∧ s.clk + dt < c + us 20 := by
  decide +kernel

/-- Clause 18 of PortsAndLocks. -/
theorem witness_PortsAndLocks_15 :
    let n : Nat := 6
    let p : RegRequest := (farRequest 4 6)
    let u : Tile := tileB
    let s : State := (tileIn tileB)
    s.watch.core = true
      ∧ s.serviceMode = false
      ∧ tabGet? s.tiles n = some u
      ∧ u.lock = none
      ∧ u.pos = some p.pos
      ∧ p.epoch = u.epoch := by
  decide +kernel

/-- Clause 19 of PortsAndLocks. -/
theorem witness_PortsAndLocks_16 :
    let dt : Nat := 5
    let n : Nat := 6
    let c : Nat := 0
    let p : RegRequest := (farRequest 4 6)
    let u : Tile := { tile0 with lock := some (40, 0) }
    let s : State := (withTile { tile0 with lock := some (40, 0) })
    s.watch.core = true
      ∧ s.serviceMode = false
      ∧ tabGet? s.tiles n = some u
      ∧ u.lock = some (p.requester, c)
      ∧ s.clk + dt < c + us 20
      ∧ u.waitingPosted = []
      ∧ u.pos = some p.pos
      ∧ p.epoch = u.epoch := by
  decide +kernel

/-- Clause 20 of PortsAndLocks. -/
theorem witness_PortsAndLocks_17 :
    let dt : Nat := 16000
    let n : Nat := 6
    let c : Nat := 0
    let h : Nat := 40
    let u : Tile := { tile0 with lock := some (40, 0) }
    let s : State := (withTile { tile0 with lock := some (40, 0) })
    s.watch.core = true
      ∧ s.serviceMode = false
      ∧ tabGet? s.tiles n = some u
      ∧ u.lock = some (h, c)
      ∧ c + us 20 ≤ s.clk + dt
      ∧ u.waitingPosted = [] := by
  decide +kernel

/-- The Pier enabled, queue 5 holding words. -/
def pierIn (x : OutQ) (more : List (Nat × Nat) := []) : State :=
  { withRegs ((Reg.PIER_CFG, 1) :: more) with pier := { outq := [(5, x)] } }

/-- A word in the middle of a packet. -/
def aWord : OutWord := { sop := false, eop := false, data := 300 }

/-- A PING with some FLAGS on inbound queue 1, its last word missing. -/
def inbound (flags : Nat) : State :=
  let s := pierIn {}
  { s with pier := { s.pier with
    inq := [(1, { open_ := true, ptype := 3, length := 32, bytes := (qmpBytes flags 3 3 1 0 0 0 []).take 28 })] } }

/-- Clauses 1, 6 of PierCommands. -/
theorem witness_PierCommands_1 :
    let dt : Nat := 5
    let addr : Nat := 0x27FF0000
    let v : Nat := 0
    let s : State := (pierIn {})
    s.watch.core = true
      ∧ s.serviceMode = false
      ∧ bit (s.rn Reg.PIER_CFG) 0 = true
      ∧ addr % 4 = 0
      ∧ assigned addr = true
      ∧ (s.advance dt).localBlocked .pier = false
      ∧ s.ferry.localWait = []
      ∧ ((s.advance dt).readReg .pier addr).1 = v
      ∧ inHold addr = true
      ∧ s.stageBase ≤ addr := by
  decide +kernel

/-- Clauses 2, 7 of PierCommands. -/
theorem witness_PierCommands_2 :
    let dt : Nat := 5
    let addr : Nat := 0x50
    let s : State := (pierIn {})
    s.watch.core = true
      ∧ s.serviceMode = false
      ∧ bit (s.rn Reg.PIER_CFG) 0 = true
      ∧ addr % 4 = 0
      ∧ assigned addr = false
      ∧ (s.advance dt).localBlocked .pier = false
      ∧ s.ferry.localWait = []
      ∧ takeKey s.pairLatch .pier addr = none := by
  decide +kernel

/-- Clauses 3, 8 of PierCommands. -/
theorem witness_PierCommands_3 :
    let addr : Nat := 6
    let n : Nat := 3
    let s : State := (pierIn {})
    s.watch.core = true
      ∧ s.serviceMode = false
      ∧ bit (s.rn Reg.PIER_CFG) 0 = true
      ∧ addr % 4 ≠ 0
      ∧ 1 ≤ n
      ∧ n ≤ 64 := by
  decide +kernel

/-- Clause 4 of PierCommands. -/
theorem witness_PierCommands_4 :
    let s : State := (pierIn {})
    s.watch.core = true
      ∧ s.serviceMode = false
      ∧ bit (s.rn Reg.PIER_CFG) 0 = true := by
  decide +kernel

/-- Clause 5 of PierCommands. -/
theorem witness_PierCommands_5 :
    let dt : Nat := 5
    let addr : Nat := 0x27FF0000
    let s : State := (withSlk (pierIn {}) fun k => { k with lock := some (40, 0) })
    s.watch.core = true
      ∧ s.serviceMode = false
      ∧ bit (s.rn Reg.PIER_CFG) 0 = true
      ∧ addr % 4 = 0
      ∧ (s.advance dt).localBlocked .pier = true := by
  decide +kernel

/-- Clauses 9, 18 of PierCommands. -/
theorem witness_PierCommands_6 :
    let n : Nat := 3
    let m : Nat := 1
    let k : Fin 8 := 5
    let x : OutQ := { words := [aWord, { aWord with eop := true }], reading := true, timer := some 2 }
    let s : State := (pierIn { words := [aWord, { aWord with eop := true }], reading := true, timer := some 2 })
    s.watch.core = true
      ∧ s.serviceMode = false
      ∧ bit (s.rn Reg.PIER_CFG) 0 = true
      ∧ s.outQ k = x
      ∧ x.feed = []
      ∧ x.waiting = []
      ∧ 1 ≤ n
      ∧ n ≤ 255
      ∧ m ≤ n
      ∧ m < x.words.length
      ∧ x.reading = true := by
  decide +kernel

/-- Clauses 10, 11 of PierCommands. -/
theorem witness_PierCommands_7 :
    let k : Fin 8 := 5
    let x : OutQ := { words := [aWord], reading := true }
    let o : OutWord := aWord
    let s : State := (pierIn { words := [aWord], reading := true })
    s.watch.core = true
      ∧ s.serviceMode = false
      ∧ bit (s.rn Reg.PIER_CFG) 0 = true
      ∧ s.outQ k = x
      ∧ x.feed = []
      ∧ x.waiting = []
      ∧ x.words = [o] := by
  decide +kernel

/-- Clause 12 of PierCommands. -/
theorem witness_PierCommands_8 :
    let n : Nat := 3
    let m : Nat := 1
    let k : Fin 8 := 5
    let s : State := (pierIn {})
    s.watch.core = true
      ∧ s.serviceMode = false
      ∧ bit (s.rn Reg.PIER_CFG) 0 = true
      ∧ s.outQ k = {}
      ∧ 1 ≤ n
      ∧ n ≤ 255
      ∧ 1 ≤ m := by
  decide +kernel

/-- Clause 13 of PierCommands. -/
theorem witness_PierCommands_9 :
    let n : Nat := 3
    let m : Nat := 1
    let i : Fin 4 := 1
    let r : QWord := ⟨true, false, true, 0#32, secded 0⟩
    let s : State := (inbound 0)
    s.watch.core = true
      ∧ s.serviceMode = false
      ∧ bit (s.rn Reg.PIER_CFG) 0 = true
      ∧ i.val < 2
      ∧ s.inQ i = { open_ := true, ptype := 3, length := 32, bytes := (qmpBytes 0 3 n m 0 0 0 []).take 28 }
      ∧ r = ⟨true, false, true, 0#32, secded 0⟩ := by
  decide +kernel

/-- Clause 14 of PierCommands. -/
theorem witness_PierCommands_10 :
    let n : Nat := 3
    let m : Nat := 1
    let i : Fin 4 := 1
    let r : QWord := ⟨true, false, true, 0#32, secded 0⟩
    let s : State := (inbound 8)
    s.watch.core = true
      ∧ s.serviceMode = false
      ∧ bit (s.rn Reg.PIER_CFG) 0 = true
      ∧ i.val < 2
      ∧ s.outQ 7 = {}
      ∧ s.inQ i = { open_ := true, ptype := 3, length := 32, bytes := (qmpBytes 8 3 n m 0 0 0 []).take 28 }
      ∧ r = ⟨true, false, true, 0#32, secded 0⟩
      ∧ m < 2 ^ 32 := by
  decide +kernel

/-- Clause 15 of PierCommands. -/
theorem witness_PierCommands_11 :
    let p : QWord := ⟨true, true, true, 3#32, secded 0⟩
    let s : State := (pierIn {})
    s.watch.core = true
      ∧ s.serviceMode = false
      ∧ bit (s.rn Reg.PIER_CFG) 0 = true
      ∧ p.valid = true
      ∧ p.sop = true
      ∧ p.eop = true
      ∧ (secdedFix p.data.toNat p.check).2 = 2 := by
  decide +kernel

/-- Clause 16 of PierCommands. -/
theorem witness_PierCommands_12 :
    let w : Word := 9999#32
    let p : QWord := ⟨true, true, false, 9999#32, secded 9999⟩
    let s : State := (pierIn {})
    s.watch.core = true
      ∧ s.serviceMode = false
      ∧ bit (s.rn Reg.PIER_CFG) 0 = true
      ∧ p = ⟨true, true, false, w, secded w.toNat⟩
      ∧ 9216 < bits w.toNat 15 0 := by
  decide +kernel

/-- Clause 17 of PierCommands. -/
theorem witness_PierCommands_13 :
    let p : QWord := ⟨true, false, false, 1#32, secded 0⟩
    let s : State := (pierIn {})
    s.watch.core = true
      ∧ s.serviceMode = false
      ∧ bit (s.rn Reg.PIER_CFG) 0 = true
      ∧ p.valid = true
      ∧ p.sop = false
      ∧ p.eop = false
      ∧ (secdedFix p.data.toNat p.check).2 = 1 := by
  decide +kernel

/-- Clauses 19, 20, 21 of PierCommands. -/
theorem witness_PierCommands_14 :
    let code : Nat := 9
    let k : Fin 8 := 5
    let s : State := (pierIn {})
    s.watch.core = true
      ∧ s.serviceMode = false
      ∧ bit (s.rn Reg.PIER_CFG) 0 = true
      ∧ (s.outQ k).reading = false
      ∧ code % 128 = 0 ∨ 6 < code % 128 := by
  decide +kernel

/-- Clause 22 of PierCommands. -/
theorem witness_PierCommands_15 :
    let dt : Nat := 16000
    let v : Nat := 2
    let k : Fin 8 := 5
    let x : OutQ := { words := [aWord, { aWord with eop := true }], reading := true, timer := some 2 }
    let s : State := (pierIn { words := [aWord, { aWord with eop := true }], reading := true, timer := some 2 } [(Reg.PIER_OQ_CFG 5, 2 ^ 24 + 1024)])
    s.watch.core = true
      ∧ s.serviceMode = false
      ∧ bit (s.rn Reg.PIER_CFG) 0 = true
      ∧ s.outQ k = x
      ∧ x.words ≠ []
      ∧ x.timer = some v
      ∧ bit (s.rn (Reg.PIER_OQ_CFG k)) 24 = true
      ∧ v + s.oqStale k ≤ s.clk + dt := by
  decide +kernel

/-- Clause 23 of PierCommands. -/
theorem witness_PierCommands_16 :
    let dt : Nat := 5
    let v : Nat := 2
    let k : Fin 8 := 5
    let s : State := (pierIn { words := [aWord, { aWord with eop := true }], reading := true, timer := some 2 } [(Reg.PIER_OQ_CFG 5, 2 ^ 24 + 1024)])
    s.watch.core = true
      ∧ s.serviceMode = false
      ∧ bit (s.rn Reg.PIER_CFG) 0 = true
      ∧ (s.outQ k).timer = some v
      ∧ s.clk + dt < v + s.oqStale k := by
  decide +kernel

/-- The fault block's state changed; detectors configured. -/
def faultIn (more : List (Nat × Nat)) (f : FaultState → FaultState := id) : State :=
  let s := withRegs ((Reg.PWR_STAT, 2) :: more)
  { s with flt := f s.flt, clk := 9 }

def aFault : FltInst := { state := .fault, quietFrom := 5, reaction := 0, sev := 1, cfg := 0xA40A01 }
def anEntry : LogEntry := { seq := 1, stamp := 0, frac := 0, det := 1, inst := 0, kind := 1, sev := 2 }
def inj : Injection := ⟨10, 3, 1, 20⟩

/-- Clauses 1, 17 of FaultHandling. -/
theorem witness_FaultHandling_1 :
    let dt : Nat := 5
    let d : Nat := 10
    let i : Nat := 3
    let k : Nat := 0
    let c : Nat := 4
    let f : LogEntry := anEntry
    let s : State := (faultIn [] fun f => { f with first := some anEntry })
    s.watch.core = true
      ∧ s.trips d = true
      ∧ detEvent d = false
      ∧ (s.advance dt).shadowOf d i = none
      ∧ s.fltInst d i = {}
      ∧ s.detReaction d = k
      ∧ k ≤ 1
      ∧ s.flt.injection = none
      ∧ s.flt.first = some f
      ∧ (s.advance dt).freshStamp = true
      ∧ s.flt.log.length < 1024
      ∧ d ≠ 9
      ∧ s.detReaction d ≤ 1
      ∧ 2 ≤ c := by
  decide +kernel

/-- Clause 19 of FaultHandling. -/
theorem witness_FaultHandling_2 :
    let c : Nat := 1
    let s : State := (faultIn [])
    s.watch.core = true
      ∧ c < 2 := by
  decide +kernel

/-- Clause 2 of FaultHandling. -/
theorem witness_FaultHandling_3 :
    let dt : Nat := 5
    let d : Nat := 100
    let i : Nat := 3
    let s : State := (faultIn [])
    s.watch.core = true
      ∧ s.trips d = true
      ∧ detEvent d = true
      ∧ (s.advance dt).shadowOf d i = none
      ∧ s.detReaction d = 0
      ∧ (s.advance dt).freshStamp = true := by
  decide +kernel

/-- Clause 3 of FaultHandling. -/
theorem witness_FaultHandling_4 :
    let dt : Nat := 5
    let d : Nat := 10
    let i : Nat := 3
    let s : State := (faultIn [])
    s.watch.core = true
      ∧ s.trips d = true
      ∧ (s.advance dt).shadowOf d i = none
      ∧ detEvent d = true ∨ s.fltInst d i = {}
      ∧ s.detReaction d ≤ 1
      ∧ s.flt.first = none
      ∧ s.fld Reg.FLT_CFG 2 1 ≤ s.detSeverity d
      ∧ (s.advance dt).freshStamp = true := by
  decide +kernel

/-- Clauses 4, 8 of FaultHandling. -/
theorem witness_FaultHandling_5 :
    let dt : Nat := 5
    let i : Nat := 3
    let s : State := ({ faultIn [] with lampDie := true })
    s.watch.core = true
      ∧ s.detReaction 81 = 0
      ∧ s.detReaction 195 = 5
      ∧ s.detSeverity 81 < s.detSeverity 195
      ∧ s.flt.shadows = []
      ∧ s.fltInst 81 i = {}
      ∧ s.fltInst 195 4 = {}
      ∧ s.flt.first = none
      ∧ s.fld Reg.FLT_CFG 2 1 ≤ s.detSeverity 195
      ∧ (s.advance dt).freshStamp = true
      ∧ s.lampDie = true
      ∧ i < 32 := by
  decide +kernel

/-- Clause 5 of FaultHandling. -/
theorem witness_FaultHandling_6 :
    let dt : Nat := 5
    let d : Nat := 10
    let i : Nat := 3
    let x : FltInst := aFault
    let s : State := (faultIn [] fun f => { f with insts := [(655363, aFault)] })
    s.watch.core = true
      ∧ s.trips d = true
      ∧ detEvent d = false
      ∧ (s.advance dt).shadowOf d i = none
      ∧ s.fltInst d i = x
      ∧ x.standing = true
      ∧ (s.advance dt).freshStamp = true
      ∧ s.flt.log.length < 1024 := by
  decide +kernel

/-- Clause 6 of FaultHandling. -/
theorem witness_FaultHandling_7 :
    let dt : Nat := 5
    let d : Nat := 50
    let i : Nat := 3
    let h : Shadow := ⟨.receiver 3, 22, 6⟩
    let s : State := (faultIn [] fun f => { f with shadows := [⟨.receiver 3, 22, 6⟩] })
    s.watch.core = true
      ∧ s.trips d = true
      ∧ (s.advance dt).shadowOf d i = some h
      ∧ (s.advance dt).freshStamp = true
      ∧ s.flt.log.length < 1024 := by
  decide +kernel

/-- Clause 7 of FaultHandling. -/
theorem witness_FaultHandling_8 :
    let d : Nat := 300
    let s : State := (faultIn [])
    s.watch.core = true
      ∧ s.trips d = false := by
  decide +kernel

/-- Clause 7 of FaultHandling. -/
theorem witness_FaultHandling_9 :
    let d : Nat := 65
    let s : State := (faultIn [(Reg.PWR_STAT, 1)])
    s.watch.core = true
      ∧ s.trips d = false := by
  decide +kernel

/-- Clause 9 of FaultHandling. -/
theorem witness_FaultHandling_10 :
    let dt : Nat := 5
    let d : Nat := 10
    let i : Nat := 3
    let s : State := (faultIn [(Reg.FLT_CFG, 1), (Reg.FLT_DET_CFG 10, 0xA40A03)])
    s.watch.core = true
      ∧ s.trips d = true
      ∧ detEvent d = false
      ∧ s.legacy = true
      ∧ s.detSeverity d = 3
      ∧ (s.advance dt).shadowOf d i = none
      ∧ s.fltInst d i = {}
      ∧ s.detReaction d ≤ 1 := by
  decide +kernel

/-- Clause 10 of FaultHandling. -/
theorem witness_FaultHandling_11 :
    let dt : Nat := 5
    let s : State := (faultIn [])
    s.watch.core = true
      ∧ s.detReaction 0 = 2
      ∧ s.flt.resets = []
      ∧ s.flt.shadows = []
      ∧ s.fltInst 0 0 = {}
      ∧ (s.advance dt).freshStamp = true := by
  decide +kernel

/-- Clause 11 of FaultHandling. -/
theorem witness_FaultHandling_12 :
    let i : Nat := 3
    let s : State := (faultIn [(Reg.FLT_DET_CFG 128, 0xA40A0C), (Reg.LANE_STATE 3, 5), (Reg.LANE_CFG 3, 5)])
    s.watch.core = true
      ∧ s.detReaction 128 = 3
      ∧ i < 24
      ∧ s.isSardy i = true
      ∧ s.laneSt i ≠ 0
      ∧ s.laneSt i ≠ 7
      ∧ s.flt.resets = []
      ∧ s.flt.shadows = [] := by
  decide +kernel

/-- Clause 12 of FaultHandling. -/
theorem witness_FaultHandling_13 :
    let dt : Nat := 5
    let c : Nat := 4
    let b : Block := .lampLink
    let s : State := (faultIn [] fun f => { f with resets := [(.lampLink, 4)] })
    s.watch.core = true
      ∧ s.flt.resets = [(b, c)]
      ∧ c ≤ s.clk + dt
      ∧ blockNeedsTrial b = false ∨ bit (s.rn Reg.TWIN_CFG) 0 = false
      ∧ s.twin.trialStart = none := by
  decide +kernel

/-- Clause 13 of FaultHandling. -/
theorem witness_FaultHandling_14 :
    let dt : Nat := 5
    let c : Nat := 4
    let b : Block := .scanout
    let s : State := (faultIn [(Reg.TWIN_CFG, 1)] fun f => { f with resets := [(.scanout, 4)] })
    s.watch.core = true
      ∧ s.flt.resets = [(b, c)]
      ∧ c ≤ s.clk + dt
      ∧ blockNeedsTrial b = true
      ∧ bit (s.rn Reg.TWIN_CFG) 0 = true
      ∧ s.twin.trialStart = none := by
  decide +kernel

/-- Clause 14 of FaultHandling. -/
theorem witness_FaultHandling_15 :
    let dt : Nat := 5
    let c : Nat := 44
    let b : Block := .scanout
    let s : State := (faultIn [] fun f => { f with resets := [(.scanout, 44)] })
    s.watch.core = true
      ∧ s.flt.resets = [(b, c)]
      ∧ s.clk + dt < c := by
  decide +kernel

/-- Clause 15 of FaultHandling. -/
theorem witness_FaultHandling_16 :
    let dt : Nat := 5
    let i : Nat := 3
    let s : State := (faultIn [(Reg.FLT_DET_CFG 10, 0x3C40A19), (Reg.SVC_STAT, 4)])
    s.watch.core = true
      ∧ s.detReaction 10 = 6
      ∧ s.unconfirmed = true
      ∧ s.detSeverity 10 < 3
      ∧ s.flt.shadows = []
      ∧ s.fltInst 10 i = {}
      ∧ (s.advance dt).freshStamp = true := by
  decide +kernel

/-- Clause 16 of FaultHandling. -/
theorem witness_FaultHandling_17 :
    let dt : Nat := 5
    let i : Nat := 3
    let s : State := (faultIn [(Reg.FLT_DET_CFG 10, 0x3C40A19)])
    s.watch.core = true
      ∧ s.detReaction 10 = 6
      ∧ s.unconfirmed = false
      ∧ s.flt.shadows = []
      ∧ s.fltInst 10 i = {}
      ∧ (s.advance dt).freshStamp = true := by
  decide +kernel

/-- Clause 18 of FaultHandling. -/
theorem witness_FaultHandling_18 :
    let c : Nat := 4
    let s : State := (faultIn [(Reg.TWIN_STAT, 1)])
    s.watch.core = true
      ∧ s.fltInst 9 0 = {}
      ∧ s.flt.shadows = []
      ∧ s.role = 1
      ∧ s.logOnly 148 = true
      ∧ 2 ≤ c := by
  decide +kernel

/-- Clauses 20, 21 of FaultHandling. -/
theorem witness_FaultHandling_19 :
    let dt : Nat := 5
    let d : Nat := 10
    let i : Nat := 3
    let n : Nat := 77
    let h : Shadow := ⟨.receiver 3, 12, 6⟩
    let s : State := (faultIn [] fun f => { f with shadows := [⟨.receiver 3, 12, 6⟩], inShadow := [(655363, 77)] })
    s.watch.core = true
      ∧ s.flt.shadows = [h]
      ∧ h.untilClk ≤ s.clk + dt
      ∧ s.flt.inShadow = [(instKey d i, n)]
      ∧ i < 65536
      ∧ s.trips d = true
      ∧ detEvent d = false
      ∧ s.fltInst d i = {}
      ∧ s.detReaction d ≤ 1
      ∧ (s.advance dt).freshStamp = true := by
  decide +kernel

/-- Clause 22 of FaultHandling. -/
theorem witness_FaultHandling_20 :
    let dt : Nat := 80000000
    let d : Nat := 10
    let i : Nat := 3
    let c : Nat := 4
    let l : List Nat := [80000009]
    let x : FltInst := { aFault with reaction := 5 }
    let s : State := (faultIn [] fun f => { f with insts := [(655363, { aFault with reaction := 5 })] })
    s.watch.core = true
      ∧ s.fltInst d i = x
      ∧ x.standing = true
      ∧ x.state ≠ .escalated
      ∧ x.cond = false
      ∧ x.latched = false
      ∧ s.flt.injection = none
      ∧ x.quietFrom + x.quiet ≤ s.clk + dt
      ∧ (((s.clk + dt) :: x.recov).filter fun c => decide (s.clk + dt < c + x.escWindow)) = l
      ∧ l.length < x.escLimit
      ∧ s.flt.log.length < 1024 := by
  decide +kernel

/-- Clause 23 of FaultHandling. -/
theorem witness_FaultHandling_21 :
    let dt : Nat := 5
    let d : Nat := 10
    let i : Nat := 3
    let x : FltInst := aFault
    let s : State := (faultIn [] fun f => { f with insts := [(655363, aFault)] })
    s.watch.core = true
      ∧ s.fltInst d i = x
      ∧ x.state = .escalated ∨ x.cond = true ∨ x.latched = true ∨ s.clk + dt < x.quietFrom + x.quiet := by
  decide +kernel

/-- Clause 24 of FaultHandling. -/
theorem witness_FaultHandling_22 :
    let dt : Nat := 80000000
    let d : Nat := 10
    let i : Nat := 3
    let c : Nat := 4
    let l : List Nat := [80000009]
    let x : FltInst := { aFault with cfg := 0x3C10A01 }
    let s : State := (faultIn [] fun f => { f with insts := [(655363, { aFault with cfg := 0x3C10A01 })] })
    s.watch.core = true
      ∧ s.fltInst d i = x
      ∧ x.standing = true
      ∧ x.state ≠ .escalated
      ∧ x.cond = false
      ∧ x.latched = false
      ∧ s.flt.injection = none
      ∧ x.quietFrom + x.quiet ≤ s.clk + dt
      ∧ (((s.clk + dt) :: x.recov).filter fun c => decide (s.clk + dt < c + x.escWindow)) = l
      ∧ x.escLimit ≤ l.length
      ∧ x.escReaction ≤ 1 := by
  decide +kernel

/-- Clause 25 of FaultHandling. -/
theorem witness_FaultHandling_23 :
    let s : State := (faultIn [])
    s.watch.core = true := by
  decide +kernel

/-- Clause 27 of FaultHandling. -/
theorem witness_FaultHandling_24 :
    let d : Nat := 10
    let i : Nat := 3
    let s : State := (faultIn [(Reg.FLT_DET_SEL, 10 + 3 * 65536)])
    s.watch.core = true
      ∧ s.fld Reg.FLT_DET_SEL 8 0 = d
      ∧ s.fld Reg.FLT_DET_SEL 26 16 = i
      ∧ (s.fltInst d i).state ≠ .escalated ∨ (s.fltInst d i).latched = true := by
  decide +kernel

/-- Clauses 26, 28 of FaultHandling. -/
theorem witness_FaultHandling_25 :
    let d : Nat := 10
    let i : Nat := 3
    let k : Nat := 655363
    let x : FltInst := { aFault with state := .escalated }
    let s : State := (faultIn [(Reg.FLT_DET_SEL, 10 + 3 * 65536)] fun f => { f with insts := [(655363, { aFault with state := .escalated })] })
    s.watch.core = true
      ∧ s.fld Reg.FLT_DET_SEL 8 0 = d
      ∧ s.fld Reg.FLT_DET_SEL 26 16 = i
      ∧ (s.fltInst d i).state = .escalated
      ∧ (s.fltInst d i).latched = false
      ∧ s.flt.insts = [(k, x)]
      ∧ x.state = .escalated
      ∧ x.latched = false := by
  decide +kernel

/-- Clause 29 of FaultHandling. -/
theorem witness_FaultHandling_26 :
    let k : Nat := 655363
    let x : FltInst := aFault
    let s : State := (faultIn [] fun f => { f with insts := [(655363, aFault)] })
    s.watch.core = true
      ∧ s.flt.insts = [(k, x)]
      ∧ x.state ≠ .escalated ∨ x.latched = true := by
  decide +kernel

/-- Clause 30 of FaultHandling. -/
theorem witness_FaultHandling_27 :
    let m : Nat := 1
    let det : Fin 512 := 10
    let w : Word := 0xA40A01#32
    let s : State := (faultIn [])
    s.watch.core = true
      ∧ detSev? det = some m
      ∧ m ≤ bits w.toNat 1 0
      ∧ detAllowed det (bits w.toNat 4 2) = true
      ∧ detAllowed det (bits w.toNat 7 5) = true
      ∧ 1 ≤ bits w.toNat 15 8
      ∧ 1 ≤ bits w.toNat 19 16
      ∧ 1 ≤ bits w.toNat 27 20
      ∧ s.flt.test = false := by
  decide +kernel

/-- Clause 31 of FaultHandling. -/
theorem witness_FaultHandling_28 :
    let det : Fin 512 := 10
    let w : Word := 0#32
    let s : State := (faultIn [])
    s.watch.core = true
      ∧ detSev? det = none ∨ ((detSev? det).any fun q => decide (bits w.toNat 1 0 < q)) = true ∨ detAllowed det (bits w.toNat 4 2) = false ∨ detAllowed det (bits w.toNat 7 5) = false ∨ bits w.toNat 15 8 = 0 ∨ bits w.toNat 19 16 = 0 ∨ bits w.toNat 27 20 = 0 ∨ s.flt.test = true := by
  decide +kernel

/-- Clause 32 of FaultHandling. -/
theorem witness_FaultHandling_29 :
    let dt : Nat := 5
    let d : Nat := 10
    let i : Nat := 3
    let k : Nat := 1
    let w : Word := 41#32
    let s : State := (faultIn [] fun f => { f with test := true, injectTgt := 10 + 3 * 65536 })
    s.watch.core = true
      ∧ s.flt.test = true
      ∧ bits w.toNat 1 0 = k
      ∧ k ≠ 0
      ∧ bits w.toNat 25 2 ≠ 0
      ∧ s.flt.injection = none
      ∧ bits s.flt.injectTgt 8 0 = d
      ∧ bits s.flt.injectTgt 26 16 = i
      ∧ s.trips d = true
      ∧ d ≠ 9
      ∧ detEvent d = false
      ∧ s.detReaction d ≤ 1
      ∧ s.flt.shadows = []
      ∧ s.fltInst d i = {}
      ∧ (s.advance dt).freshStamp = true := by
  decide +kernel

/-- Clause 32 of FaultHandling. -/
theorem witness_FaultHandling_30 :
    let dt : Nat := 5
    let d : Nat := 10
    let i : Nat := 3
    let k : Nat := 3
    let w : Word := 43#32
    let s : State := (faultIn [] fun f => { f with test := true, injectTgt := 10 + 3 * 65536 })
    s.watch.core = true
      ∧ s.flt.test = true
      ∧ bits w.toNat 1 0 = k
      ∧ k ≠ 0
      ∧ bits w.toNat 25 2 ≠ 0
      ∧ s.flt.injection = none
      ∧ bits s.flt.injectTgt 8 0 = d
      ∧ bits s.flt.injectTgt 26 16 = i
      ∧ s.trips d = true
      ∧ d ≠ 9
      ∧ detEvent d = false
      ∧ s.detReaction d ≤ 1
      ∧ s.flt.shadows = []
      ∧ s.fltInst d i = {}
      ∧ (s.advance dt).freshStamp = true := by
  decide +kernel

/-- Clause 33 of FaultHandling. -/
theorem witness_FaultHandling_31 :
    let s : State := (faultIn [])
    s.watch.core = true
      ∧ s.flt.test = false := by
  decide +kernel

/-- Clause 34 of FaultHandling. -/
theorem witness_FaultHandling_32 :
    let dt : Nat := 12
    let j : Injection := inj
    let s : State := (faultIn [] fun f => { f with injection := some inj })
    s.watch.core = true
      ∧ s.flt.injection = some j
      ∧ j.untilClk ≤ s.clk + dt := by
  decide +kernel

/-- Clause 35 of FaultHandling. -/
theorem witness_FaultHandling_33 :
    let dt : Nat := 5
    let j : Injection := inj
    let s : State := (faultIn [] fun f => { f with injection := some inj })
    s.watch.core = true
      ∧ s.flt.injection = some j
      ∧ s.clk + dt < j.untilClk := by
  decide +kernel

/-- The reserve ledger changed. -/
def withRsv (s : State) (f : ReserveState → ReserveState) : State := { s with rsv := f s.rsv }

/-- A bank is copied, at a latch edge. -/
def edgeRsv : State := withRsv State.reset fun x => { x with running := [⟨1, 4, 8⟩] }

/-- Clauses 1, 4 of ReserveLedger. -/
theorem witness_ReserveLedger_1 :
    let n : Nat := 3
    let d : Int := -9
    let s : State := State.reset
    s.watch.core = true
      ∧ (∀ e ∈ [5, 6, 7, 10, 11, 198], s.logOnly e = true)
      ∧ s.rsv.hourEcc = []
      ∧ n < s.rn Reg.RSV_THR_ECC
      ∧ d.natAbs ≤ 150 := by
  decide +kernel

/-- Clause 2 of ReserveLedger. -/
theorem witness_ReserveLedger_2 :
    let dt : Nat := 5
    let n : Nat := 1000
    let p : Nat := 16
    let b : Fin 17 := 4
    let s : State := State.reset
    s.watch.core = true
      ∧ (∀ e ∈ [5, 6, 7, 10, 11, 198], s.logOnly e = true)
      ∧ s.rsv.hourEcc = []
      ∧ 1 ≤ s.rn Reg.RSV_THR_ECC
      ∧ s.rn Reg.RSV_THR_ECC ≤ n
      ∧ s.rsv.bankMap.contains b.val = true
      ∧ s.policy 1 = 2
      ∧ s.rsv.running = []
      ∧ s.rsv.spareBank = some p
      ∧ (s.advance dt).freshStamp = true := by
  decide +kernel

/-- Clause 3 of ReserveLedger. -/
theorem witness_ReserveLedger_3 :
    let dt : Nat := 5
    let s : State := (withRegs [(Reg.RSV_POLICY, 0x2A9)])
    s.watch.core = true
      ∧ (∀ e ∈ [5, 6, 7, 10, 11, 198], s.logOnly e = true)
      ∧ s.policy 1 ≠ 2
      ∧ (s.advance dt).freshStamp = true := by
  decide +kernel

/-- Clause 5 of ReserveLedger. -/
theorem witness_ReserveLedger_4 :
    let dt : Nat := 5
    let d : Int := -151
    let q : Fin 32 := 6
    let s : State := State.reset
    s.watch.core = true
      ∧ (∀ e ∈ [5, 6, 7, 10, 11, 198], s.logOnly e = true)
      ∧ 150 < d.natAbs
      ∧ s.policy 4 = 2
      ∧ s.rsv.running = []
      ∧ bit (s.rn (Reg.LAMP_PORT_STAT q)) 3 = false
      ∧ (s.advance dt).freshStamp = true := by
  decide +kernel

/-- Clause 6 of ReserveLedger. -/
theorem witness_ReserveLedger_5 :
    let dt : Nat := 5
    let s : State := (withRegs [(Reg.RSV_OTP_SPARE, 3)])
    s.watch.core = true
      ∧ (∀ e ∈ [5, 6, 7, 10, 11, 198], s.logOnly e = true)
      ∧ s.rsv.running = []
      ∧ 1 ≤ s.fld Reg.RSV_OTP_SPARE 7 0
      ∧ (s.advance dt).freshStamp = true := by
  decide +kernel

/-- Clause 7 of ReserveLedger. -/
theorem witness_ReserveLedger_6 :
    let dt : Nat := 5
    let s : State := (withRegs [(Reg.RSV_NVM_SPARE, 0)])
    s.watch.core = true
      ∧ (∀ e ∈ [5, 6, 7, 10, 11, 198], s.logOnly e = true)
      ∧ s.rsv.running = []
      ∧ s.fld Reg.RSV_NVM_SPARE 15 0 = 0
      ∧ s.fltInst 10 7 = {}
      ∧ (s.advance dt).freshStamp = true := by
  decide +kernel

/-- Clause 8 of ReserveLedger. -/
theorem witness_ReserveLedger_7 :
    let k : Nat := 7
    let i : Nat := 4
    let s : State := State.reset
    s.watch.core = true
      ∧ (∀ e ∈ [5, 6, 7, 10, 11, 198], s.logOnly e = true)
      ∧ k = 0 ∨ 5 < k ∨ s.policy k = 0 ∨ s.inService k i = false := by
  decide +kernel

/-- Clause 9 of ReserveLedger. -/
theorem witness_ReserveLedger_8 :
    let k : Nat := 2
    let i : Nat := 4
    let y : Substitution := ⟨2, 7, 1⟩
    let s : State := (withRsv State.reset fun x => { x with running := [⟨2, 7, 1⟩] })
    s.watch.core = true
      ∧ (∀ e ∈ [5, 6, 7, 10, 11, 198], s.logOnly e = true)
      ∧ 1 ≤ k
      ∧ k ≤ 5
      ∧ s.policy k ≠ 0
      ∧ s.inService k i = true
      ∧ s.rsv.running = [y]
      ∧ y.kind = k := by
  decide +kernel

/-- Clause 10 of ReserveLedger. -/
theorem witness_ReserveLedger_9 :
    let dt : Nat := 5
    let c : Nat := 8
    let i : Nat := 4
    let s : State := (withRsv State.reset fun x => { x with spareCores := [8] })
    s.watch.core = true
      ∧ (∀ e ∈ [5, 6, 7, 10, 11, 198], s.logOnly e = true)
      ∧ s.policy 2 ≠ 0
      ∧ s.rsv.cores.contains i = true
      ∧ s.rsv.running = []
      ∧ s.rsv.spareCores = [c]
      ∧ (s.advance dt).freshStamp = true := by
  decide +kernel

/-- Clause 11 of ReserveLedger. -/
theorem witness_ReserveLedger_10 :
    let dt : Nat := 5
    let i : Nat := 4
    let s : State := (withRsv State.reset fun x => { x with spareCores := [] })
    s.watch.core = true
      ∧ (∀ e ∈ [5, 6, 7, 10, 11, 198], s.logOnly e = true)
      ∧ s.policy 2 ≠ 0
      ∧ s.rsv.cores.contains i = true
      ∧ s.rsv.running = []
      ∧ s.rsv.spareCores = []
      ∧ s.fltInst 10 2 = {}
      ∧ (s.advance dt).freshStamp = true := by
  decide +kernel

/-- Clause 12 of ReserveLedger. -/
theorem witness_ReserveLedger_11 :
    let q : Fin 32 := 6
    let w : Word := 0#32
    let s : State := State.reset
    s.watch.core = true
      ∧ (∀ e ∈ [5, 6, 7, 10, 11, 198], s.logOnly e = true)
      ∧ (List.range 5).all (fun q => bits w.toNat (2 * q + 1) (2 * q) != 3) = true := by
  decide +kernel

/-- Clause 13 of ReserveLedger. -/
theorem witness_ReserveLedger_12 :
    let w : Word := 1000001#32
    let s : State := State.reset
    s.watch.core = true
      ∧ (∀ e ∈ [5, 6, 7, 10, 11, 198], s.logOnly e = true)
      ∧ 1000000 < w.toNat := by
  decide +kernel

/-- Clause 14 of ReserveLedger. -/
theorem witness_ReserveLedger_13 :
    let dt : Nat := 0
    let p : Nat := 16
    let c : Nat := 8
    let i : Nat := 4
    let s : State := edgeRsv
    s.watch.core = true
      ∧ (∀ e ∈ [5, 6, 7, 10, 11, 198], s.logOnly e = true)
      ∧ s.rsv.running = [⟨1, i, c⟩]
      ∧ s.rsv.waiting = []
      ∧ s.rsv.spareBank = some p
      ∧ (s.advance dt).onEdge = true := by
  decide +kernel

/-- Clause 15 of ReserveLedger. -/
theorem witness_ReserveLedger_14 :
    let dt : Nat := 5
    let s : State := (withRsv State.reset fun x => { x with running := [⟨1, 4, 8⟩] })
    s.watch.core = true
      ∧ (∀ e ∈ [5, 6, 7, 10, 11, 198], s.logOnly e = true)
      ∧ (s.advance dt).onEdge = false := by
  decide +kernel

/-- Clause 16 of ReserveLedger. -/
theorem witness_ReserveLedger_15 :
    let n : Nat := 3
    let c : Nat := 8
    let k : Nat := 2
    let i : Nat := 4
    let s : State := (withRsv State.reset fun x => { x with running := [⟨2, 4, 8⟩], waiting := [⟨2, 3, 2⟩] })
    s.watch.core = true
      ∧ (∀ e ∈ [5, 6, 7, 10, 11, 198], s.logOnly e = true)
      ∧ s.rsv.running = [⟨2, i, c⟩]
      ∧ s.rsv.waiting = [⟨2, n, k⟩]
      ∧ s.rsv.spareCores = [8, 9] := by
  decide +kernel

/-- Clause 17 of ReserveLedger. -/
theorem witness_ReserveLedger_16 :
    let c : Nat := 8
    let i : Nat := 4
    let s : State := (withRsv (withRegs [(Reg.RSV_OTP_SPARE, 3)]) fun x => { x with running := [⟨6, 4, 8⟩] })
    s.watch.core = true
      ∧ (∀ e ∈ [5, 6, 7, 10, 11, 198], s.logOnly e = true)
      ∧ s.rsv.running = [⟨6, i, c⟩]
      ∧ s.rsv.waiting = []
      ∧ 1 ≤ s.fld Reg.RSV_OTP_SPARE 7 0 := by
  decide +kernel

/-- Clause 18 of ReserveLedger. -/
theorem witness_ReserveLedger_17 :
    let s : State := State.reset
    s.watch.core = true
      ∧ (∀ e ∈ [5, 6, 7, 10, 11, 198], s.logOnly e = true) := by
  decide +kernel

/-- Clause 19 of ReserveLedger. -/
theorem witness_ReserveLedger_18 :
    let dt : Nat := 5
    let c : Nat := 8
    let core : Fin 10 := 5
    let s : State := (withRsv State.reset fun x => { x with spareCores := [8] })
    s.watch.core = true
      ∧ (∀ e ∈ [5, 6, 7, 10, 11, 198], s.logOnly e = true)
      ∧ s.rsv.cores.contains core.val = true
      ∧ s.policy 2 = 2
      ∧ s.rsv.running = []
      ∧ s.rsv.spareCores = [c]
      ∧ s.fld (Reg.RSV_CORE_STAT core) 15 8 < 255
      ∧ (s.advance dt).freshStamp = true := by
  decide +kernel

/-- Clauses 20, 21 of ReserveLedger. -/
theorem witness_ReserveLedger_19 :
    let dt : Nat := 5
    let p : Nat := 1
    let c : Nat := 8
    let k : Nat := 10
    let i : Nat := 4
    let s : State := State.reset
    s.watch.core = true
      ∧ (∀ e ∈ [5, 6, 7, 10, 11, 198], s.logOnly e = true)
      ∧ detSev? k = some p
      ∧ detEvent k = false
      ∧ s.logOnly k = true
      ∧ s.fld Reg.PWR_STAT 0 0 = 0
      ∧ s.fltInst k i = {}
      ∧ (s.advance dt).shadowOf k i = none
      ∧ (s.advance dt).freshStamp = true
      ∧ k ≠ 9
      ∧ 2 ≤ c := by
  decide +kernel

/-- Clause 22 of ReserveLedger. -/
theorem witness_ReserveLedger_20 :
    let s : State := (faultIn [] fun f => { f with shadows := [⟨.receiver 3, 12, 6⟩] })
    s.watch.core = true
      ∧ (∀ e ∈ [5, 6, 7, 10, 11, 198], s.logOnly e = true) := by
  decide +kernel

/-- Clause 23 of ReserveLedger. -/
theorem witness_ReserveLedger_21 :
    let dt : Nat := 5
    let c : Nat := 4
    let blk : Block := .mac 2
    let s : State := (faultIn [] fun f => { f with resets := [(.mac 2, 4)] })
    s.watch.core = true
      ∧ (∀ e ∈ [5, 6, 7, 10, 11, 198], s.logOnly e = true)
      ∧ s.flt.resets = [(blk, c)]
      ∧ c ≤ s.clk + dt
      ∧ blockNeedsTrial blk = false
      ∧ blk ≠ .lampLink := by
  decide +kernel

/-- Clause 24 of ReserveLedger. -/
theorem witness_ReserveLedger_22 :
    let dt : Nat := 80000000
    let k : Nat := 10
    let i : Nat := 3
    let x : FltInst := aFault
    let s : State := (faultIn [] fun f => { f with insts := [(655363, aFault)] })
    s.watch.core = true
      ∧ (∀ e ∈ [5, 6, 7, 10, 11, 198], s.logOnly e = true)
      ∧ s.fltInst k i = x
      ∧ x.state = .fault
      ∧ x.cond = false
      ∧ x.latched = false
      ∧ x.quietFrom + x.quiet ≤ s.clk + dt
      ∧ x.recov = []
      ∧ 2 ≤ x.escLimit := by
  decide +kernel

/-- Clause 25 of ReserveLedger. -/
theorem witness_ReserveLedger_23 :
    let s : State := (faultIn [] fun f => { f with first := some anEntry })
    s.watch.core = true
      ∧ (∀ e ∈ [5, 6, 7, 10, 11, 198], s.logOnly e = true) := by
  decide +kernel

/-- Clause 26 of ReserveLedger. -/
theorem witness_ReserveLedger_24 :
    let k : Nat := 10
    let i : Nat := 3
    let s : State := (faultIn [(Reg.FLT_DET_SEL, 10 + 3 * 65536)] fun f => { f with insts := [(655363, { aFault with state := .escalated })] })
    s.watch.core = true
      ∧ (∀ e ∈ [5, 6, 7, 10, 11, 198], s.logOnly e = true)
      ∧ s.fld Reg.FLT_DET_SEL 8 0 = k
      ∧ s.fld Reg.FLT_DET_SEL 26 16 = i
      ∧ (s.fltInst k i).state = .escalated
      ∧ (s.fltInst k i).latched = false := by
  decide +kernel

/-- Clause 27 of ReserveLedger. -/
theorem witness_ReserveLedger_25 :
    let k : Nat := 655363
    let x : FltInst := { aFault with state := .escalated }
    let s : State := (faultIn [] fun f => { f with insts := [(655363, { aFault with state := .escalated })] })
    s.watch.core = true
      ∧ (∀ e ∈ [5, 6, 7, 10, 11, 198], s.logOnly e = true)
      ∧ s.flt.insts = [(k, x)]
      ∧ x.state = .escalated
      ∧ x.latched = false := by
  decide +kernel

/-- Clause 28 of ReserveLedger. -/
theorem witness_ReserveLedger_26 :
    let p : Nat := 1
    let det : Fin 512 := 10
    let w : Word := 0xA40A01#32
    let s : State := State.reset
    s.watch.core = true
      ∧ (∀ e ∈ [5, 6, 7, 10, 11, 198], s.logOnly e = true)
      ∧ detSev? det = some p
      ∧ p ≤ bits w.toNat 1 0
      ∧ detAllowed det (bits w.toNat 4 2) = true
      ∧ detAllowed det (bits w.toNat 7 5) = true
      ∧ 1 ≤ bits w.toNat 15 8
      ∧ 1 ≤ bits w.toNat 19 16
      ∧ 1 ≤ bits w.toNat 27 20
      ∧ s.flt.test = false := by
  decide +kernel

/-- Clause 29 of ReserveLedger. -/
theorem witness_ReserveLedger_27 :
    let k : Nat := 10
    let i : Nat := 3
    let w : Word := 41#32
    let s : State := (faultIn [] fun f => { f with test := true, injectTgt := 10 + 3 * 65536 })
    s.watch.core = true
      ∧ (∀ e ∈ [5, 6, 7, 10, 11, 198], s.logOnly e = true)
      ∧ s.flt.test = true
      ∧ bits w.toNat 1 0 = 1
      ∧ bits w.toNat 25 2 ≠ 0
      ∧ s.flt.injection = none
      ∧ bits s.flt.injectTgt 8 0 = k
      ∧ bits s.flt.injectTgt 26 16 = i
      ∧ s.logOnly k = true := by
  decide +kernel

/-- Clause 30 of ReserveLedger. -/
theorem witness_ReserveLedger_28 :
    let dt : Nat := 12
    let j : Injection := inj
    let s : State := (faultIn [] fun f => { f with injection := some inj })
    s.watch.core = true
      ∧ (∀ e ∈ [5, 6, 7, 10, 11, 198], s.logOnly e = true)
      ∧ s.flt.injection = some j
      ∧ j.untilClk ≤ s.clk + dt := by
  decide +kernel

/-- Power state changed. -/
def withWatch (s : State) (f : WatchState → WatchState) : State := { s with watch := f s.watch }

/-- The device in Watch. -/
def inWatchSt (more : List (Nat × Nat)) (f : WatchState → WatchState := id) : State :=
  withWatch (withRegs more) fun x => f { x with core := false, good := false, pwrEn := false }

/-- Clause 1 of PowerDomains. -/
theorem witness_PowerDomains_1 :
    let s : State := (withWatch (withRegs []) fun x => { x with keeper := false, lost := true })
    s.watch.keeper = false
      ∧ s.watch.lost = true := by
  decide +kernel

/-- Clauses 2, 8 of PowerDomains. -/
theorem witness_PowerDomains_2 :
    let dt : Nat := 5
    let s : State := State.reset
    s.watch.keeper = true
      ∧ s.clk + dt < s.watch.pwrAt + ms 50 := by
  decide +kernel

/-- Clauses 3, 16 of PowerDomains. -/
theorem witness_PowerDomains_3 :
    let n : Nat := 2
    let s : State := (inWatchSt [] fun x => { x with aon := false })
    s.watch.aon = false
      ∧ s.watch.keeper = true
      ∧ (if s.watch.started then 1 else if s.watch.shelf then 8 else 2) = n := by
  decide +kernel

/-- Clause 4 of PowerDomains. -/
theorem witness_PowerDomains_4 :
    let dt : Nat := 800005
    let s : State := (withWatch (withRegs []) fun x => { x with good := false, core := false })
    s.watch.pwrEn = true
      ∧ s.watch.good = false
      ∧ s.watch.core = false
      ∧ s.watch.resetN = true
      ∧ max s.watch.pwrAt s.watch.goodAt + ms 1 ≤ s.clk + dt
      ∧ (s.watch.goodAt < s.watch.pwrAt → s.clk + dt ≤ s.watch.pwrAt + ms 50) := by
  decide +kernel

/-- Clause 5 of PowerDomains. -/
theorem witness_PowerDomains_5 :
    let dt : Nat := 800005
    let s : State := (withWatch (withRegs []) fun x => { x with good := false, core := false, resetN := false })
    s.watch.pwrEn = true
      ∧ s.watch.good = false
      ∧ s.watch.core = false
      ∧ s.watch.resetN = false
      ∧ max s.watch.pwrAt s.watch.goodAt + ms 1 ≤ s.clk + dt
      ∧ (s.watch.goodAt < s.watch.pwrAt → s.clk + dt ≤ s.watch.pwrAt + ms 50) := by
  decide +kernel

/-- Clause 6 of PowerDomains. -/
theorem witness_PowerDomains_6 :
    let dt : Nat := 5
    let s : State := State.reset
    s.watch.pwrEn = false ∨ s.watch.good = true ∨ s.clk + dt < max s.watch.pwrAt s.watch.goodAt + ms 1 ∨ (s.watch.goodAt < s.watch.pwrAt ∧ s.watch.pwrAt + ms 50 < s.clk + dt) := by
  decide +kernel

/-- Clause 7 of PowerDomains. -/
theorem witness_PowerDomains_7 :
    let dt : Nat := 40000005
    let n : Nat := 2
    let s : State := (withWatch (withRegs []) fun x => { x with good := false, core := false, pwrAt := 5, attempts := 2 })
    s.watch.pwrEn = true
      ∧ s.watch.good = false
      ∧ s.watch.goodAt < s.watch.pwrAt
      ∧ s.watch.pwrAt + ms 50 ≤ s.clk + dt
      ∧ s.watch.attempts = n
      ∧ s.fld (Reg.KEEP_LOG 1) 31 24 < 255 := by
  decide +kernel

/-- Clause 9 of PowerDomains. -/
theorem witness_PowerDomains_8 :
    let dt : Nat := 5
    let n : Nat := 2
    let s : State := (inWatchSt [] fun x => { x with retryAt := some 2 })
    s.watch.retryAt = some n
      ∧ n ≤ s.clk + dt := by
  decide +kernel

/-- Clause 10 of PowerDomains. -/
theorem witness_PowerDomains_9 :
    let dt : Nat := 5
    let n : Nat := 9
    let s : State := (inWatchSt [] fun x => { x with retryAt := some 9 })
    s.watch.retryAt = some n
      ∧ s.clk + dt < n := by
  decide +kernel

/-- Clause 11 of PowerDomains. -/
theorem witness_PowerDomains_10 :
    let s : State := State.reset
    s.watch.core = true := by
  decide +kernel

/-- Clause 12 of PowerDomains. -/
theorem witness_PowerDomains_11 :
    let s : State := (inWatchSt [] fun x => { x with resetN := false })
    s.watch.resetN = false
      ∧ s.watch.aon = true
      ∧ s.watch.pwrEn = false := by
  decide +kernel

/-- Clause 13 of PowerDomains. -/
theorem witness_PowerDomains_12 :
    let s : State := (withWatch (withRegs []) fun x => { x with core := false, resetN := false })
    s.watch.resetN = false
      ∧ s.watch.pwrEn = true
      ∧ s.watch.good = true
      ∧ s.watch.core = false := by
  decide +kernel

/-- Clauses 14, 15, 17, 19, 20, 22, 23, 25 of PowerDomains. -/
theorem witness_PowerDomains_13 :
    let mv : Nat := 600
    let s : State := State.reset
    s.watch.keeper = true
      ∧ s.watch.aon = true
      ∧ s.watch.core = true
      ∧ s.quiet = false
      ∧ s.quietPending = false
      ∧ s.watch.warnAt = none
      ∧ mv < 725
      ∧ s.logOnly 256 = true
      ∧ mv < 695 := by
  decide +kernel

/-- Clause 26 of PowerDomains. -/
theorem witness_PowerDomains_14 :
    let s : State := (withRegs [(Reg.FLT_DET_CFG 257, 0x3C40A02), (Reg.FLT_DET_CFG 258, 0x3C40A02)])
    s.watch.core = true
      ∧ s.logOnly 257 = true
      ∧ s.logOnly 258 = true := by
  decide +kernel

/-- Clause 19 of PowerDomains. -/
theorem witness_PowerDomains_15 :
    let s : State := (withRegs [(Reg.TWIN_STAT, 5)])
    s.watch.core = true := by
  decide +kernel

/-- Clause 18 of PowerDomains. -/
theorem witness_PowerDomains_16 :
    let s : State := (withRegs [(Reg.PWR_STAT, 1)])
    s.watch.core = true
      ∧ s.quiet = true := by
  decide +kernel

/-- Clause 21 of PowerDomains. -/
theorem witness_PowerDomains_17 :
    let dt : Nat := 5
    let s : State := (withRegs [(Reg.KEEP_ALARM + 4, 2 ^ 31)])
    s.watch.keeper = true
      ∧ s.alarmArmed = true
      ∧ s.alarmSec ≤ (s.advance dt).rtcSec := by
  decide +kernel

/-- Clause 24 of PowerDomains. -/
theorem witness_PowerDomains_18 :
    let dt : Nat := 800004
    let n : Nat := 2
    let mv : Nat := 600
    let s : State := (withWatch (withRegs []) fun x => { x with warnAt := some 2 })
    s.watch.core = true
      ∧ s.watch.warnAt = some n
      ∧ n + ms 1 ≤ s.clk + dt
      ∧ mv < 725
      ∧ s.nvm.tftp = none
      ∧ s.nvm.saves = []
      ∧ s.nvm.waiting = [] := by
  decide +kernel

/-- Clauses 27, 28 of PowerDomains. -/
theorem witness_PowerDomains_19 :
    let s : State := ({ State.reset with lampDie := true })
    s.watch.core = true
      ∧ s.lampDie = true := by
  decide +kernel

/-- Clauses 1, 4, 5, 6, 12, 20, 10, 11 of PowerStates. -/
theorem witness_PowerStates_1 :
    let dt : Nat := 5
    let n : Nat := 0
    let mv : Nat := 600
    let m : Nat := 0
    let req : Requester := .pier
    let w : Word := 0#32
    let s : State := State.reset
    s.watch.core = true
      ∧ s.logOnly 256 = true
      ∧ s.quiet = false
      ∧ s.quietPending = false
      ∧ s.watch.warnAt = none
      ∧ mv < 725
      ∧ s.alarmArmed = false ∨ (s.advance dt).rtcSec < s.alarmSec
      ∧ ((s.advance dt).pairTake req Reg.KEEP_ALARM).rn Reg.KEEP_ALARM = n
      ∧ n + 2 ^ 32 * bits w.toNat 1 0 = m := by
  decide +kernel

/-- Clauses 5, 6 of PowerStates. -/
theorem witness_PowerStates_2 :
    let s : State := (withRegs [(Reg.TWIN_STAT, 5)])
    s.watch.core = true
      ∧ s.logOnly 256 = true := by
  decide +kernel

/-- Clause 17 of PowerStates. -/
theorem witness_PowerStates_3 :
    let mv : Nat := 696
    let s : State := State.reset
    s.watch.core = true
      ∧ s.logOnly 256 = true
      ∧ 695 ≤ mv := by
  decide +kernel

/-- Clauses 2, 3 of PowerStates. -/
theorem witness_PowerStates_4 :
    let s : State := (withRegs [(Reg.PWR_STAT, 1)])
    s.watch.core = true
      ∧ s.logOnly 256 = true
      ∧ s.quiet = true ∨ s.quietPending = true := by
  decide +kernel

/-- Clause 7 of PowerStates. -/
theorem witness_PowerStates_5 :
    let dt : Nat := 5
    let s : State := (withRegs [(Reg.KEEP_ALARM + 4, 2 ^ 31)])
    s.watch.core = true
      ∧ s.logOnly 256 = true
      ∧ s.watch.keeper = true
      ∧ s.alarmArmed = true
      ∧ s.alarmSec ≤ (s.advance dt).rtcSec
      ∧ s.watch.pwrEn = true
      ∧ s.watch.shelf = false := by
  decide +kernel

/-- Clause 8 of PowerStates. -/
theorem witness_PowerStates_6 :
    let dt : Nat := 5
    let s : State := (withWatch (withRegs [(Reg.KEEP_ALARM + 4, 2 ^ 31)]) fun x => { x with pwrEn := false })
    s.watch.core = true
      ∧ s.logOnly 256 = true
      ∧ s.watch.keeper = true
      ∧ s.alarmArmed = true
      ∧ s.alarmSec ≤ (s.advance dt).rtcSec
      ∧ s.watch.aon = true
      ∧ s.watch.pwrEn = false := by
  decide +kernel

/-- Clause 9 of PowerStates. -/
theorem witness_PowerStates_7 :
    let dt : Nat := 5
    let s : State := (withWatch (withRegs [(Reg.KEEP_ALARM + 4, 2 ^ 31)]) fun x => { x with aon := false, shelf := true })
    s.watch.core = true
      ∧ s.logOnly 256 = true
      ∧ s.watch.keeper = true
      ∧ s.alarmArmed = true
      ∧ s.alarmSec ≤ (s.advance dt).rtcSec
      ∧ s.watch.aon = false
      ∧ s.watch.shelf = true := by
  decide +kernel

/-- Clauses 13, 15, 16 of PowerStates. -/
theorem witness_PowerStates_8 :
    let dt : Nat := 5
    let n : Nat := 4
    let mv : Nat := 600
    let s : State := (withWatch (withRegs []) fun x => { x with warnAt := some 4 })
    s.watch.core = true
      ∧ s.logOnly 256 = true
      ∧ s.watch.warnAt = some n ∨ 725 ≤ mv
      ∧ s.watch.warnAt = some n
      ∧ s.clk + dt < n + ms 1
      ∧ mv < 695 := by
  decide +kernel

/-- Clause 14 of PowerStates. -/
theorem witness_PowerStates_9 :
    let dt : Nat := 800004
    let n : Nat := 4
    let mv : Nat := 700
    let s : State := (withWatch (withRegs []) fun x => { x with warnAt := some 4 })
    s.watch.core = true
      ∧ s.logOnly 256 = true
      ∧ s.watch.warnAt = some n
      ∧ n + ms 1 ≤ s.clk + dt
      ∧ mv < 725
      ∧ s.nvm.tftp = none
      ∧ s.nvm.saves = []
      ∧ s.nvm.waiting = [] := by
  decide +kernel

/-- Clauses 18, 19 of PowerStates. -/
theorem witness_PowerStates_10 :
    let dt : Nat := 5
    let rail : Fin 5 := 1
    let s : State := (withRegs [(Reg.FLT_DET_CFG 257, 0x3C40A02), (Reg.FLT_DET_CFG 258, 0x3C40A02)])
    s.watch.core = true
      ∧ s.logOnly 256 = true
      ∧ s.logOnly 257 = true
      ∧ s.fltInst 257 rail = {}
      ∧ s.flt.shadows = []
      ∧ (s.advance dt).freshStamp = true
      ∧ s.logOnly 258 = true
      ∧ s.fltInst 258 0 = {} := by
  decide +kernel

/-- Clauses 21, 22 of PowerStates. -/
theorem witness_PowerStates_11 :
    let s : State := ({ State.reset with lampDie := true })
    s.watch.core = true
      ∧ s.logOnly 256 = true
      ∧ s.lampDie = true := by
  decide +kernel

/-- Clauses 23, 24 of PowerStates. -/
theorem witness_PowerStates_12 :
    let s : State := ({ State.reset with lampDie := false })
    s.watch.core = true
      ∧ s.logOnly 256 = true
      ∧ s.lampDie = false := by
  decide +kernel

/-- Clause 1 of WatchkeeperAndTrims. -/
theorem witness_WatchkeeperAndTrims_1 :
    let dt : Nat := 5
    let code : Nat := 1000
    let raw : Nat := 1000
    let ts : List Nat := [2000]
    let v : Fin 19 := 3
    let x : WatchVal := {}
    let s : State := (inWatchSt [] fun x => x)
    (∀ e ∈ [262, 263, 267, 268], s.logOnly e = true)
      ∧ s.watch.core = false
      ∧ s.watch.aon = true
      ∧ v.val < 12
      ∧ bit (s.rn (Reg.WATCH_VAL_CFG v)) 8 = true
      ∧ s.fld (Reg.WATCH_VAL_CFG v) 4 3 = 0
      ∧ s.wval v = x
      ∧ x.last ≠ some ((s.advance dt).sampleIdx (s.fld (Reg.WATCH_VAL_CFG v) 2 0))
      ∧ s.rulesOf v = []
      ∧ dieCode v raw ts = code
      ∧ code ≤ 4095 := by
  decide +kernel

/-- Clause 2 of WatchkeeperAndTrims. -/
theorem witness_WatchkeeperAndTrims_2 :
    let dt : Nat := 5
    let code : Nat := 1000
    let raw : Nat := 1000
    let n : Nat := 128
    let m : Nat := 128064
    let ts : List Nat := [2000]
    let v : Fin 19 := 3
    let x : WatchVal := { y := some 128 }
    let s : State := (inWatchSt [(Reg.WATCH_VAL_CFG 3, 0x118)] fun x => { x with vals := [(3, { y := some 128 })] })
    (∀ e ∈ [262, 263, 267, 268], s.logOnly e = true)
      ∧ s.watch.core = false
      ∧ s.watch.aon = true
      ∧ v.val < 12
      ∧ bit (s.rn (Reg.WATCH_VAL_CFG v)) 8 = true
      ∧ s.fld (Reg.WATCH_VAL_CFG v) 4 3 = 3
      ∧ s.wval v = x
      ∧ x.y = some n
      ∧ n < 2 ^ 20
      ∧ x.last ≠ some ((s.advance dt).sampleIdx (s.fld (Reg.WATCH_VAL_CFG v) 2 0))
      ∧ s.rulesOf v = []
      ∧ dieCode v raw ts = code
      ∧ code ≤ 4095
      ∧ ((n : Int) + ((256 * code : Nat) - (n : Int)) / (2 ^ (s.fld (Reg.WATCH_VAL_CFG v) 7 5 + 1) : Nat)).toNat = m := by
  decide +kernel

/-- Clauses 3, 8, 11, 13 of WatchkeeperAndTrims. -/
theorem witness_WatchkeeperAndTrims_3 :
    let dt : Nat := 5
    let main : Nat := 2840
    let v : Fin 19 := 3
    let i : Fin 64 := 20
    let x : WatchVal := {}
    let s : State := State.reset
    (∀ e ∈ [262, 263, 267, 268], s.logOnly e = true)
      ∧ s.watch.aon = true
      ∧ bit (s.rn (Reg.WATCH_VAL_CFG v)) 8 = true
      ∧ s.wval v = x
      ∧ x.filtered < 4096
      ∧ x.raw < 4096
      ∧ x.last ≠ some ((s.advance dt).sampleIdx (s.fld (Reg.WATCH_VAL_CFG v) 2 0))
      ∧ s.watch.core = true
      ∧ s.watch.adcAt = none
      ∧ absDiff main 2844 ≤ 8
      ∧ s.time.servo ≠ .locked ∨ 2 ≤ (s.advance dt).ns % 10 ^ 9
      ∧ 16 ≤ i.val
      ∧ i.val ≤ 61 := by
  decide +kernel

/-- Clause 4 of WatchkeeperAndTrims. -/
theorem witness_WatchkeeperAndTrims_4 :
    let dt : Nat := 5
    let v : Fin 19 := 3
    let s : State := (inWatchSt [(Reg.WATCH_VAL_CFG 3, 0)] fun x => x)
    (∀ e ∈ [262, 263, 267, 268], s.logOnly e = true)
      ∧ s.watch.aon = false ∨ bit (s.rn (Reg.WATCH_VAL_CFG v)) 8 = false ∨ (s.wval v).last = some ((s.advance dt).sampleIdx (s.fld (Reg.WATCH_VAL_CFG v) 2 0)) := by
  decide +kernel

/-- Clause 5 of WatchkeeperAndTrims. -/
theorem witness_WatchkeeperAndTrims_5 :
    let dt : Nat := 5
    let code : Nat := 1000
    let raw : Nat := 1000
    let ts : List Nat := [2000]
    let v : Fin 19 := 3
    let r : Fin 32 := 6
    let s : State := (inWatchSt [(Reg.WATCH_RULE 12, 3 + 256 * 900), (Reg.WATCH_RULE 13, 1 + 2048)] fun x => x)
    (∀ e ∈ [262, 263, 267, 268], s.logOnly e = true)
      ∧ s.watch.core = false
      ∧ s.watch.aon = true
      ∧ v.val < 12
      ∧ bit (s.rn (Reg.WATCH_VAL_CFG v)) 8 = true
      ∧ s.fld (Reg.WATCH_VAL_CFG v) 4 3 = 0
      ∧ (s.wval v).last ≠ some ((s.advance dt).sampleIdx (s.fld (Reg.WATCH_VAL_CFG v) 2 0))
      ∧ s.rulesOf v = [r.val]
      ∧ s.rule r = {}
      ∧ bits (s.ruleW0 r) 7 6 = 0
      ∧ bits (s.ruleW0 r) 19 8 ≤ code
      ∧ dieCode v raw ts = code
      ∧ code ≤ 4095
      ∧ bits (s.ruleW1 r) 3 0 = 1
      ∧ bits (s.ruleW1 r) 15 12 = 0 := by
  decide +kernel

/-- Clause 6 of WatchkeeperAndTrims. -/
theorem witness_WatchkeeperAndTrims_6 :
    let dt : Nat := 5
    let n : Nat := 300
    let sl : Fin 4 := 1
    let bs : List Byte := [1#8, 44#8]
    let s : State := (inWatchSt [(Reg.WATCH_I2C 4, 128 + 4096 * 2), (Reg.WATCH_I2C 6, 64), (Reg.WATCH_VAL_CFG 24, 256)] fun x => x)
    (∀ e ∈ [262, 263, 267, 268], s.logOnly e = true)
      ∧ s.watch.core = false
      ∧ s.watch.aon = true
      ∧ bit (s.i2cWord sl 0) 7 = true
      ∧ tabGet? s.watch.i2cLast sl ≠ some ((s.advance dt).sampleIdx (bits (s.i2cWord sl 0) 26 24))
      ∧ bit (s.i2cField sl 0) 6 = true
      ∧ bit (s.i2cField sl 0) 5 = false
      ∧ bit (s.i2cField sl 1) 6 = false
      ∧ bit (s.i2cField sl 2) 6 = false
      ∧ bit (s.i2cField sl 3) 6 = false
      ∧ bit (s.rn (Reg.WATCH_VAL_CFG (20 + 4 * sl))) 8 = true
      ∧ s.fld (Reg.WATCH_VAL_CFG (20 + 4 * sl)) 4 3 = 0
      ∧ s.rulesOf (20 + 4 * sl) = []
      ∧ bs.length = bits (s.i2cWord sl 0) 14 12
      ∧ beNat bs / 2 ^ bits (s.i2cField sl 0) 4 0 % 4096 = n := by
  decide +kernel

/-- Clause 7 of WatchkeeperAndTrims. -/
theorem witness_WatchkeeperAndTrims_7 :
    let dt : Nat := 5
    let sl : Fin 4 := 1
    let s : State := (inWatchSt [(Reg.WATCH_I2C 4, 128 + 4096 * 2), (Reg.WATCH_I2C 6, 64), (Reg.WATCH_VAL_CFG 24, 256)] fun x => x)
    (∀ e ∈ [262, 263, 267, 268], s.logOnly e = true)
      ∧ s.watch.core = false
      ∧ s.watch.aon = true
      ∧ bit (s.i2cWord sl 0) 7 = true
      ∧ tabGet? s.watch.i2cLast sl ≠ some ((s.advance dt).sampleIdx (bits (s.i2cWord sl 0) 26 24)) := by
  decide +kernel

/-- Clause 9 of WatchkeeperAndTrims. -/
theorem witness_WatchkeeperAndTrims_8 :
    let dt : Nat := 5
    let main : Nat := 2853
    let rsv : Nat := 2844
    let s : State := (withWatch (withRegs []) fun x => { x with adcBad := 2 })
    (∀ e ∈ [262, 263, 267, 268], s.logOnly e = true)
      ∧ s.watch.core = true
      ∧ s.watch.adcAt = none
      ∧ 8 < absDiff main 2844
      ∧ absDiff rsv 2844 ≤ 8
      ∧ s.watch.adcBad = 2
      ∧ s.policy 5 = 2
      ∧ s.rsv.running = []
      ∧ s.rsv.watchFree = true
      ∧ s.logOnly 11 = true
      ∧ (s.advance dt).freshStamp = true := by
  decide +kernel

/-- Clause 10 of WatchkeeperAndTrims. -/
theorem witness_WatchkeeperAndTrims_9 :
    let dt : Nat := 1
    let n : Nat := 0
    let s : State := (withTime State.reset fun x => { x with servo := .locked })
    (∀ e ∈ [262, 263, 267, 268], s.logOnly e = true)
      ∧ s.watch.core = true
      ∧ s.time.servo = .locked
      ∧ s.watch.keeper = true
      ∧ (s.advance dt).ns / 10 ^ 9 = n
      ∧ s.watch.syncSec ≠ some n
      ∧ (s.advance dt).ns % 10 ^ 9 < 2 := by
  decide +kernel

/-- Clause 12 of WatchkeeperAndTrims. -/
theorem witness_WatchkeeperAndTrims_10 :
    let dt : Nat := 48000000000
    let s : State := (withTime State.reset fun x => { x with servo := .locked })
    (∀ e ∈ [262, 263, 267, 268], s.logOnly e = true)
      ∧ s.watch.core = true
      ∧ s.time.servo = .locked
      ∧ s.watch.keeper = true
      ∧ s.watch.driftAt + sec 60 ≤ s.clk + dt := by
  decide +kernel

/-- Clause 14 of WatchkeeperAndTrims. -/
theorem witness_WatchkeeperAndTrims_11 :
    let i : Fin 64 := 3
    let s : State := State.reset
    (∀ e ∈ [262, 263, 267, 268], s.logOnly e = true)
      ∧ i.val < 16 ∨ 61 < i.val := by
  decide +kernel

/-- Clause 15 of WatchkeeperAndTrims. -/
theorem witness_WatchkeeperAndTrims_12 :
    let dt : Nat := 80000009
    let n : Nat := 128
    let m : Nat := 9
    let id : Fin 130 := 9
    let s : State := (withWatch (withRegs []) fun x => { x with trims := [(9, { code := 128, moved := some 9 })] })
    (∀ e ∈ [262, 263, 267, 268], s.logOnly e = true)
      ∧ s.watch.core = true
      ∧ s.trimAbsent id = false
      ∧ s.watch.refBad = false
      ∧ s.trim id = ⟨n, some m, none⟩
      ∧ m + ms 100 ≤ s.clk + dt
      ∧ 1 ≤ n
      ∧ n ≤ 253
      ∧ id.val < 13 := by
  decide +kernel

/-- Clause 16 of WatchkeeperAndTrims. -/
theorem witness_WatchkeeperAndTrims_13 :
    let n : Nat := 128
    let id : Fin 130 := 20
    let s : State := ({ State.reset with lampDie := true })
    (∀ e ∈ [262, 263, 267, 268], s.logOnly e = true)
      ∧ s.watch.core = true
      ∧ s.trimAbsent id = false
      ∧ s.watch.refBad = false
      ∧ s.trim id = ⟨n, none, none⟩
      ∧ n < 255
      ∧ 13 ≤ id.val
      ∧ id.val ≤ 76 := by
  decide +kernel

/-- Clause 17 of WatchkeeperAndTrims. -/
theorem witness_WatchkeeperAndTrims_14 :
    let dt : Nat := 5
    let n : Nat := 128
    let m : Nat := 9
    let id : Fin 130 := 5
    let s : State := (withWatch (withRegs []) fun x => { x with refBad := true })
    (∀ e ∈ [262, 263, 267, 268], s.logOnly e = true)
      ∧ s.watch.refBad = true ∨ (s.trim id = ⟨n, some m, none⟩ ∧ s.clk + dt < m + ms 100) := by
  decide +kernel

/-- Clause 18 of WatchkeeperAndTrims. -/
theorem witness_WatchkeeperAndTrims_15 :
    let refin : Nat := 24000
    let s : State := State.reset
    (∀ e ∈ [262, 263, 267, 268], s.logOnly e = true)
      ∧ s.watch.core = true
      ∧ s.watch.refAt = none
      ∧ refin < 24500 := by
  decide +kernel

/-- Clause 19 of WatchkeeperAndTrims. -/
theorem witness_WatchkeeperAndTrims_16 :
    let dt : Nat := 800000128
    let n : Nat := 128
    let refin : Nat := 25000
    let rref : Nat := 10000
    let s : State := (withWatch (withRegs []) fun x => { x with refBad := true, refOkSince := some 128 })
    (∀ e ∈ [262, 263, 267, 268], s.logOnly e = true)
      ∧ s.watch.core = true
      ∧ s.watch.refAt = none
      ∧ 24500 ≤ refin
      ∧ refin ≤ 25500
      ∧ 9800 ≤ rref
      ∧ rref ≤ 10200
      ∧ s.watch.refBad = true
      ∧ s.watch.refOkSince = some n
      ∧ n + sec 1 ≤ s.clk + dt := by
  decide +kernel

/-- Clause 20 of WatchkeeperAndTrims. -/
theorem witness_WatchkeeperAndTrims_17 :
    let s : State := State.reset
    (∀ e ∈ [262, 263, 267, 268], s.logOnly e = true)
      ∧ s.watch.core = true
      ∧ s.watch.loaded = []
      ∧ s.watch.savedAt = none
      ∧ s.watch.warnAt = none
      ∧ s.nvm.trimA = none
      ∧ s.nvm.trimB = none := by
  decide +kernel

/-- Clause 21 of WatchkeeperAndTrims. -/
theorem witness_WatchkeeperAndTrims_18 :
    let dt : Nat := 5
    let s : State := (withWatch (withRegs []) fun x => { x with warnAt := some 3 })
    (∀ e ∈ [262, 263, 267, 268], s.logOnly e = true)
      ∧ s.watch.warnAt.isSome = true ∨ (s.watch.savedAt.any fun c => decide (s.clk + dt < c + sec 3600)) = true := by
  decide +kernel

/-- The header of an image for both orderings of the part: MAGIC, length, VERSION, SCHEMA, the four bytes and eight that follow it,
and the key. -/
def imgHead (magic len ver schema : Nat) (more : List Byte) : List Byte :=
  leBytes 4 magic ++ [1#8, 3#8, 0#8, 0#8] ++ leBytes 4 len ++ leBytes 4 ver ++ List.replicate 16 0#8 ++ leBytes 4 schema ++ more
    ++ List.replicate 16 0#8
    ++ beBytes 96 0x283c1d7365ce4788f29f8ebf234edffead6fe997fbea5ffa2d58cc9dfa7b1c508b05526f55b9ebb2040f05b48fb6d0e19475c99061e41b88ba52efdb8c1690471a61d867ed799729d9c92cd01dbd225630d84ede32a78f9e64664cdac512ef8c
    ++ List.replicate 96 0#8

/-- A firmware image without code, signed over its SHA-384 by the key of private scalar 7. -/
def fwImg : List Byte :=
  imgHead 0x474D4958 352 1 0 (List.replicate 12 0#8)
    ++ beBytes 96 0x99056e27da7b998da1eeec2904816c57fe935ed5837c37456c9fd14892d3f8c4749b66e3afb81d626356f3b55b4ddd841e7bcd785ee309cb6d4d504b33e58cfce7ec0693fb05f86a456d92994784ea4302a96b329758821d45883d916406966

/-- A manifest of one DEVICE record: mode A, 60 Hz, a canvas of 64 by 16, signed by the same key. -/
def manImg : List Byte :=
  imgHead 0x464D4958 420 9 1 (leBytes 4 2 ++ beBytes 8 0xaa85e788721ceff9)
    ++ leBytes 2 1 ++ leBytes 2 0 ++ leBytes 4 52 ++ [0#8, 0#8, 0#8, 0#8] ++ leBytes 4 64 ++ leBytes 4 16 ++ List.replicate 40 0#8
    ++ leBytes 2 0x7FFF ++ leBytes 2 0 ++ leBytes 4 0
    ++ beBytes 96 0x99056e27da7b998da1eeec2904816c57fe935ed5837c37456c9fd14892d3f8c4749b66e3afb81d626356f3b55b4ddd8f14e8644798d87cbb91c746271cded6486b2ff71461427efe298a252ebe233c35b171092cf75255b85d01b2fca01b868

/-- The NVM and the OTP changed; the vendor key is that of the images. -/
def nvmIn (f : NvmState → NvmState) : State :=
  { State.reset with nvm := f { State.reset.nvm with otp := { State.reset.nvm.otp with
      vendor := beBytes 48 0x23f483080c149d8f735aa82a32f21bacdd93b8ce607ac182110f7b3e828442e0eba9a5653f3da819029caac0b8cb67ea } } }

/-- A header of both copies. -/
def hdrIn (h : BootHdr) (f : NvmState → NvmState := id) : State := nvmIn fun n => f { n with hdr0 := some h, hdr1 := some h }

/-- Both images in slots A. -/
def bootIn (slots : List (Nat × List Byte)) : State :=
  hdrIn { slots := 0x303 } fun n => { n with
    slots := slots, settings := [(0, ⟨1, 0, imgTag fwImg, []⟩)] }

/-- The state in which firmware A has been chosen, and that with manifest A in use. -/
def bootFw : State := ((bootIn [(0, fwImg), (2, manImg)]).advance 5).bootStart.openNvm.bootHeader
def bootMan : State := match bootFw.runFirmware.trialSettle.tryManifest manImg with
  | .ok t => t.runManifest 2
  | .error _ => State.reset

/-- A trial whose conditions hold: its first frame was 10 s ago. -/
def trialIn (more : List (Nat × Nat)) (clk : Nat) : State :=
  let s := hdrIn { trial := 1, slots := 0x343 } fun n => { n with firstAt := some 0, booted := true }
  { ([(Reg.SVC_STAT, 4), (Reg.SVC_TRIAL_CFG, 129)] ++ more).foldl (fun (s : State) (e : Nat × Nat) => s.wn e.1 e.2) s with clk := clk }

/-- The Gangway sending a frame, and the NVM changed. -/
def gangIn (h : BootHdr) (f : NvmState → NvmState := id) : State :=
  { hdrIn h f with macs := [(4, { sending := some ("A", []) })] }

/-- A transfer of firmware into slot B from peer 9. -/
def xfer : Tftp := { file := .firmware, slot := 1, peer := 9, blksize := 512, next := 3 }

/-- It lacks the last 512 bytes of a block. -/
def fullXfer : Tftp := { xfer with raw := [255#8, 255#8, 255#8, 255#8] ++ List.replicate 3580 0#8 }

/-- A CRC register of 0 stays 0 over bytes of 0. -/
theorem crc_zeros (n : Nat) :
    (List.replicate n 0#8).foldl (fun (c : BitVec 32) (b : Byte) => crcBits 8 (c ^^^ b.setWidth 32)) 0#32 = 0#32 := by
  induction n with
  | zero => rfl
  | succ n ih => rw [List.replicate_succ, List.foldl_cons, show crcBits 8 (0#32 ^^^ (0#8).setWidth 32) = 0#32 by decide]; exact ih

/-- Four bytes of 255 take the CRC register to 0. -/
theorem crc_ones (n : Nat) : crc32c ([255#8, 255#8, 255#8, 255#8] ++ List.replicate n 0#8) = 0xFFFFFFFF#32 := by
  unfold crc32c
  rw [List.foldl_append, show List.foldl (fun (c : BitVec 32) (b : Byte) => crcBits 8 (c ^^^ b.setWidth 32)) 0xFFFFFFFF#32
    [255#8, 255#8, 255#8, 255#8] = 0#32 by decide, crc_zeros]
  rfl

/-- A block whose CRC is not 0 and whose last four bytes are. -/
theorem bad_block (p : List Byte) (h : p.length = 4092) (c : crc32c p = 0xFFFFFFFF#32) :
    nvmBlocks 1 (p ++ List.replicate 4 0#8) [] = none := by
  rw [nvmBlocks, if_neg (by rw [List.length_append, h]; decide), List.take_left' h, List.drop_left' h, c, if_neg (by decide)]

/-- That block fails its CRC. -/
theorem full_bad : nvmBlocks 1 (fullXfer.raw ++ List.replicate 512 0#8) [] = none := by
  have e (a b c : Nat) (h : a + b = c + 4) (l : List Byte) : (l ++ List.replicate a 0#8) ++ List.replicate b 0#8
      = (l ++ List.replicate c 0#8) ++ List.replicate 4 0#8 := by
    rw [List.append_assoc, List.append_assoc, List.replicate_append_replicate, List.replicate_append_replicate, h]
  rw [show fullXfer.raw = [255#8, 255#8, 255#8, 255#8] ++ List.replicate 3580 0#8 from rfl, e 3580 512 4088 rfl]
  exact bad_block _ (by rw [List.length_append, List.length_replicate]; rfl) (crc_ones _)

/-- Clause 1 of BootAndTrials. -/
theorem witness_BootAndTrials_1 :
    let s : State := (nvmIn fun n => { n with booted := true })
    s.watch.core = true
      ∧ (∀ e ∈ [259, 263, 264, 265, 266, 320, 321, 322, 325, 328, 329], s.logOnly e = true)
      ∧ s.nvm.booted = true := by
  decide +kernel

/-- Clause 2 of BootAndTrials. -/
theorem witness_BootAndTrials_2 :
    let s : State := (withWatch State.reset fun x => { x with bootsel := 3 })
    s.watch.core = true
      ∧ (∀ e ∈ [259, 263, 264, 265, 266, 320, 321, 322, 325, 328, 329], s.logOnly e = true)
      ∧ s.nvm.booted = false
      ∧ s.watch.bootsel = 3 := by
  decide +kernel

/-- Clause 3 of BootAndTrials. -/
theorem witness_BootAndTrials_3 :
    let s : State := State.reset
    s.watch.core = true
      ∧ (∀ e ∈ [259, 263, 264, 265, 266, 320, 321, 322, 325, 328, 329], s.logOnly e = true)
      ∧ s.nvm.booted = false
      ∧ s.watch.bootsel ≠ 3
      ∧ s.nvm.hdr0 = none
      ∧ s.nvm.hdr1 = none
      ∧ s.imgCheck 0 (s.slotImg 0) ≠ 0
      ∧ s.imgCheck 0 (s.slotImg 1) ≠ 0 := by
  decide +kernel

/-- Clause 4 of BootAndTrials. -/
theorem witness_BootAndTrials_4 :
    let h : BootHdr := { slots := 0x303 }
    let s : State := (nvmIn fun n => { n with hdr0 := some { slots := 0x303 } })
    s.watch.core = true
      ∧ (∀ e ∈ [259, 263, 264, 265, 266, 320, 321, 322, 325, 328, 329], s.logOnly e = true)
      ∧ s.nvm.booted = false
      ∧ s.watch.bootsel ≠ 3
      ∧ s.nvm.hdr0 = some h
      ∧ s.nvm.hdr1 = none
      ∧ h.trial = 0
      ∧ (∀ k ∈ [0, 1, 2, 3], slotCode h k ≠ 1)
      ∧ s.imgCheck 0 (s.slotImg h.fwActive) ≠ 0
      ∧ s.imgCheck 0 (s.slotImg (1 - h.fwActive)) ≠ 0 := by
  decide +kernel

/-- Clause 5 of BootAndTrials. -/
theorem witness_BootAndTrials_5 :
    let h : BootHdr := { trial := 1, tries := 1, slots := 0x4343, fwActive := 1 }
    let s : State := (hdrIn { trial := 1, tries := 1, slots := 0x4343, fwActive := 1 } id)
    s.watch.core = true
      ∧ (∀ e ∈ [259, 263, 264, 265, 266, 320, 321, 322, 325, 328, 329], s.logOnly e = true)
      ∧ s.nvm.booted = false
      ∧ s.watch.bootsel ≠ 3
      ∧ s.nvm.hdr0 = some h
      ∧ s.nvm.hdr1 = some h
      ∧ h.trial = 1
      ∧ h.tries < 3
      ∧ (∀ k ∈ [0, 1, 2, 3], slotCode h k ≠ 1)
      ∧ s.imgCheck 0 (s.slotImg h.fwActive) ≠ 0
      ∧ s.imgCheck 0 (s.slotImg (1 - h.fwActive)) ≠ 0 := by
  decide +kernel

/-- Clause 6 of BootAndTrials. -/
theorem witness_BootAndTrials_6 :
    let h : BootHdr := { trial := 2, tries := 3, slots := 0x0334, fwActive := 1, fwPrev := 0 }
    let s : State := (hdrIn { trial := 2, tries := 3, slots := 0x0334, fwActive := 1, fwPrev := 0 } id)
    s.watch.core = true
      ∧ (∀ e ∈ [259, 263, 264, 265, 266, 320, 321, 322, 325, 328, 329], s.logOnly e = true)
      ∧ s.nvm.booted = false
      ∧ s.watch.bootsel ≠ 3
      ∧ s.nvm.hdr0 = some h
      ∧ s.nvm.hdr1 = some h
      ∧ h.trial = 2
      ∧ (∀ k ∈ [0, 1, 2, 3], slotCode h k ≠ 1)
      ∧ h.fwActive = 1
      ∧ h.fwPrev = 0
      ∧ h.manActive = h.manPrev
      ∧ s.imgCheck 0 (s.slotImg 0) ≠ 0
      ∧ s.imgCheck 0 (s.slotImg 1) ≠ 0 := by
  decide +kernel

/-- Clause 7 of BootAndTrials. -/
theorem witness_BootAndTrials_7 :
    let dt : Nat := 5
    let n : Nat := 0
    let p : Settings := ⟨1, 0, imgTag fwImg, []⟩
    let u : State := bootMan
    let v : State := bootFw
    let s : State := (bootIn [(0, fwImg), (2, manImg)])
    s.watch.core = true
      ∧ (∀ e ∈ [259, 263, 264, 265, 266, 320, 321, 322, 325, 328, 329], s.logOnly e = true)
      ∧ s.nvm.booted = false
      ∧ s.watch.bootsel ≠ 3
      ∧ ((s.advance dt).bootStart.openNvm.bootHeader).chooseFirmware = some v
      ∧ v.runFirmware.trialSettle.chooseManifest.toOption = some u
      ∧ u.settingsOf (u.fld Reg.SVC_STAT 0 0) = some (n, p)
      ∧ p.records = []
      ∧ p.tag = u.nvm.tag
      ∧ u.settingsFit p = true
      ∧ u.twinOn = false := by
  decide +kernel

/-- Clause 8 of BootAndTrials. -/
theorem witness_BootAndTrials_8 :
    let dt : Nat := 60000000
    let n : Nat := 2
    let s : State := (nvmIn fun n => { n with booted := true })
    s.watch.core = true
      ∧ (∀ e ∈ [259, 263, 264, 265, 266, 320, 321, 322, 325, 328, 329], s.logOnly e = true)
      ∧ s.nvm.booted = true
      ∧ s.serviceMode = false
      ∧ s.nvm.firstAt = none
      ∧ (s.advance dt).timeReady = true
      ∧ s.tilesReady = true
      ∧ (s.advance dt).firstTally n = true
      ∧ (s.advance dt).rasterPoint n ≤ (s.advance dt).ns
      ∧ (s.advance dt).ns ≤ (s.advance dt).tp n := by
  decide +kernel

/-- Clause 9 of BootAndTrials. -/
theorem witness_BootAndTrials_9 :
    let dt : Nat := 5
    let n : Nat := 1
    let s : State := State.reset
    s.watch.core = true
      ∧ (∀ e ∈ [259, 263, 264, 265, 266, 320, 321, 322, 325, 328, 329], s.logOnly e = true)
      ∧ s.nvm.booted = false ∨ s.serviceMode = true ∨ s.nvm.firstAt.isSome = true ∨ s.tilesReady = false ∨ (s.advance dt).timeReady = false ∨ (s.advance dt).firstTally n = false := by
  decide +kernel

/-- Clause 10 of BootAndTrials. -/
theorem witness_BootAndTrials_10 :
    let h : BootHdr := { slots := 0x323 }
    let s : State := (hdrIn { slots := 0x323 } id)
    s.watch.core = true
      ∧ (∀ e ∈ [259, 263, 264, 265, 266, 320, 321, 322, 325, 328, 329], s.logOnly e = true)
      ∧ s.watch.warnAt = none
      ∧ s.hdr = h
      ∧ h.trial = 0
      ∧ h.fwActive ≤ 1
      ∧ slotCode h (inactiveSlot h 0) = 2 := by
  decide +kernel

/-- Clause 11 of BootAndTrials. -/
theorem witness_BootAndTrials_11 :
    let s : State := (hdrIn { slots := 0x303 } id)
    s.watch.core = true
      ∧ (∀ e ∈ [259, 263, 264, 265, 266, 320, 321, 322, 325, 328, 329], s.logOnly e = true)
      ∧ s.watch.warnAt = none
      ∧ slotCode s.hdr (inactiveSlot s.hdr 1) ≠ 2 := by
  decide +kernel

/-- Clause 12 of BootAndTrials. -/
theorem witness_BootAndTrials_12 :
    let s : State := (hdrIn { slots := 0x323, trial := 1 } id)
    s.watch.core = true
      ∧ (∀ e ∈ [259, 263, 264, 265, 266, 320, 321, 322, 325, 328, 329], s.logOnly e = true)
      ∧ s.watch.warnAt = none
      ∧ s.hdr.trial ≠ 0
      ∧ slotCode s.hdr (inactiveSlot s.hdr 0) = 2 := by
  decide +kernel

/-- Clauses 13, 14 of BootAndTrials. -/
theorem witness_BootAndTrials_13 :
    let s : State := State.reset
    s.watch.core = true
      ∧ (∀ e ∈ [259, 263, 264, 265, 266, 320, 321, 322, 325, 328, 329], s.logOnly e = true)
      ∧ s.role ≠ 1 ∨ s.logOnly 148 = true
      ∧ s.watch.warnAt = none
      ∧ s.fld Reg.SVC_STAT 3 2 ≠ 1 := by
  decide +kernel

/-- Clause 15 of BootAndTrials. -/
theorem witness_BootAndTrials_14 :
    let dt : Nat := 5
    let s : State := (trialIn [] 0)
    s.watch.core = true
      ∧ (∀ e ∈ [259, 263, 264, 265, 266, 320, 321, 322, 325, 328, 329], s.logOnly e = true)
      ∧ s.watch.warnAt = none
      ∧ s.fld Reg.SVC_STAT 3 2 = 1
      ∧ (s.advance dt).checksMet = false := by
  decide +kernel

/-- Clauses 16, 17 of BootAndTrials. -/
theorem witness_BootAndTrials_15 :
    let dt : Nat := 5
    let h : BootHdr := { trial := 1, slots := 0x343 }
    let s : State := (trialIn [] 8000000000)
    s.watch.core = true
      ∧ (∀ e ∈ [259, 263, 264, 265, 266, 320, 321, 322, 325, 328, 329], s.logOnly e = true)
      ∧ s.watch.warnAt = none
      ∧ s.fld Reg.SVC_STAT 3 2 = 1
      ∧ (s.advance dt).checksMet = true
      ∧ s.hdr = h
      ∧ bit (s.rn Reg.SVC_TRIAL_CFG) 15 = false := by
  decide +kernel

/-- Clause 18 of BootAndTrials. -/
theorem witness_BootAndTrials_16 :
    let dt : Nat := 5
    let s : State := State.reset
    s.watch.core = true
      ∧ (∀ e ∈ [259, 263, 264, 265, 266, 320, 321, 322, 325, 328, 329], s.logOnly e = true)
      ∧ (s.advance dt).checksMet = false ∨ bit (s.rn Reg.SVC_TRIAL_CFG) 15 = true := by
  decide +kernel

/-- Clause 19 of BootAndTrials. -/
theorem witness_BootAndTrials_17 :
    let h : BootHdr := { slots := 0x323 }
    let s : State := (hdrIn { slots := 0x323 } id)
    s.watch.core = true
      ∧ (∀ e ∈ [259, 263, 264, 265, 266, 320, 321, 322, 325, 328, 329], s.logOnly e = true)
      ∧ s.watch.warnAt = none
      ∧ s.hdr = h
      ∧ slotCode h (inactiveSlot h 0) = 2
      ∧ h.fwActive ≤ 1 := by
  decide +kernel

/-- Clause 20 of BootAndTrials. -/
theorem witness_BootAndTrials_18 :
    let s : State := (hdrIn { slots := 0x313 } id)
    s.watch.core = true
      ∧ (∀ e ∈ [259, 263, 264, 265, 266, 320, 321, 322, 325, 328, 329], s.logOnly e = true)
      ∧ s.watch.warnAt = none
      ∧ slotCode s.hdr (inactiveSlot s.hdr 0) = 1 := by
  decide +kernel

/-- Clause 21 of BootAndTrials. -/
theorem witness_BootAndTrials_19 :
    let dt : Nat := 5
    let s : State := (trialIn [] 48000000000)
    s.watch.core = true
      ∧ (∀ e ∈ [259, 263, 264, 265, 266, 320, 321, 322, 325, 328, 329], s.logOnly e = true)
      ∧ s.watch.warnAt = none
      ∧ s.fld Reg.SVC_STAT 3 2 = 1
      ∧ s.watch.goodAt + sec (60 * s.fld Reg.SVC_TRIAL_CFG 6 0) ≤ s.clk + dt := by
  decide +kernel

/-- Clause 22 of BootAndTrials. -/
theorem witness_BootAndTrials_20 :
    let dt : Nat := 5
    let s : State := (trialIn [] 0)
    s.watch.core = true
      ∧ (∀ e ∈ [259, 263, 264, 265, 266, 320, 321, 322, 325, 328, 329], s.logOnly e = true)
      ∧ s.clk + dt < s.watch.goodAt + sec (60 * s.fld Reg.SVC_TRIAL_CFG 6 0) := by
  decide +kernel

/-- Clauses 1, 2, 3, 7, 21 of TransfersAndNvm. -/
theorem witness_TransfersAndNvm_1 :
    let n : Nat := 600
    let b : Option Nat := some 600
    let f : String × List Byte := ("A", [])
    let h : BootHdr := { slots := 0x303 }
    let s : State := (gangIn { slots := 0x303 } id)
    s.watch.core = true
      ∧ (∀ d ∈ [7, 10, 11, 327], s.logOnly d = true)
      ∧ (s.mac 4).sending = some f
      ∧ tabGetD (s.mac 4).txq 2 [] = []
      ∧ s.hdr = h
      ∧ h.trial = 0
      ∧ h.fwActive ≤ 1
      ∧ s.nvm.tftp = none
      ∧ s.watch.warnAt = none
      ∧ s.serviceMode = false
      ∧ s.hdr.trial = 0
      ∧ b = some n
      ∧ 8 ≤ n := by
  decide +kernel

/-- Clause 4 of TransfersAndNvm. -/
theorem witness_TransfersAndNvm_2 :
    let f : String × List Byte := ("A", [])
    let s : State := (gangIn { slots := 0x303, trial := 1 } id)
    s.watch.core = true
      ∧ (∀ d ∈ [7, 10, 11, 327], s.logOnly d = true)
      ∧ (s.mac 4).sending = some f
      ∧ tabGetD (s.mac 4).txq 2 [] = []
      ∧ s.hdr.trial ≠ 0 := by
  decide +kernel

/-- Clause 5 of TransfersAndNvm. -/
theorem witness_TransfersAndNvm_3 :
    let f : String × List Byte := ("A", [])
    let s : State := (withWatch (gangIn { slots := 0x303 }) fun x => { x with warnAt := some 0 })
    s.watch.core = true
      ∧ (∀ d ∈ [7, 10, 11, 327], s.logOnly d = true)
      ∧ (s.mac 4).sending = some f
      ∧ tabGetD (s.mac 4).txq 2 [] = []
      ∧ s.hdr.trial = 0
      ∧ s.nvm.tftp = none
      ∧ s.watch.warnAt.isSome = true := by
  decide +kernel

/-- Clause 6 of TransfersAndNvm. -/
theorem witness_TransfersAndNvm_4 :
    let f : String × List Byte := ("A", [])
    let s : State := (gangIn { slots := 0x303 } id)
    s.watch.core = true
      ∧ (∀ d ∈ [7, 10, 11, 327], s.logOnly d = true)
      ∧ (s.mac 4).sending = some f
      ∧ tabGetD (s.mac 4).txq 2 [] = []
      ∧ s.nvm.logArea = []
      ∧ s.nvm.tftp = none
      ∧ s.serviceMode = false := by
  decide +kernel

/-- Clauses 8, 18, 16 of TransfersAndNvm. -/
theorem witness_TransfersAndNvm_5 :
    let dt : Nat := 5
    let peer : Nat := 9
    let blk : Nat := 3
    let data : List Byte := (List.replicate 512 1#8)
    let x : Tftp := xfer
    let f : String × List Byte := ("A", [])
    let s : State := (gangIn { slots := 0x303 } fun n => { n with tftp := some xfer })
    s.watch.core = true
      ∧ (∀ d ∈ [7, 10, 11, 327], s.logOnly d = true)
      ∧ (s.mac 4).sending = some f
      ∧ tabGetD (s.mac 4).txq 2 [] = []
      ∧ s.nvm.tftp = some x
      ∧ x.peer = peer
      ∧ x.held = none
      ∧ x.file = .firmware
      ∧ data.length = x.blksize
      ∧ blk = x.next
      ∧ 1 ≤ blk
      ∧ blk < 65536
      ∧ s.watch.warnAt = none
      ∧ x.raw.length + data.length < 4096
      ∧ x.content = []
      ∧ s.flt.log = [] ∨ s.watch.warnAt.isSome = true
      ∧ s.clk + dt < x.sentAt + sec 1 := by
  decide +kernel

/-- Clause 9 of TransfersAndNvm. -/
theorem witness_TransfersAndNvm_6 :
    let peer : Nat := 9
    let blk : Nat := 2
    let data : List Byte := (List.replicate 512 1#8)
    let x : Tftp := xfer
    let f : String × List Byte := ("A", [])
    let s : State := (gangIn { slots := 0x303 } fun n => { n with tftp := some xfer })
    s.watch.core = true
      ∧ (∀ d ∈ [7, 10, 11, 327], s.logOnly d = true)
      ∧ (s.mac 4).sending = some f
      ∧ tabGetD (s.mac 4).txq 2 [] = []
      ∧ s.nvm.tftp = some x
      ∧ x.peer = peer
      ∧ x.held = none
      ∧ data.length ≤ x.blksize
      ∧ 2 ≤ x.next
      ∧ blk = x.next - 1
      ∧ blk < 65535 := by
  decide +kernel

/-- Clause 10 of TransfersAndNvm. -/
theorem witness_TransfersAndNvm_7 :
    let peer : Nat := 8
    let x : Tftp := xfer
    let f : String × List Byte := ("A", [])
    let s : State := (gangIn { slots := 0x303 } fun n => { n with tftp := some xfer })
    s.watch.core = true
      ∧ (∀ d ∈ [7, 10, 11, 327], s.logOnly d = true)
      ∧ (s.mac 4).sending = some f
      ∧ tabGetD (s.mac 4).txq 2 [] = []
      ∧ s.nvm.tftp = some x
      ∧ x.peer ≠ peer := by
  decide +kernel

/-- Clause 11 of TransfersAndNvm. -/
theorem witness_TransfersAndNvm_8 :
    let peer : Nat := 9
    let blk : Nat := 3
    let data : List Byte := (List.replicate 512 0#8)
    let x : Tftp := fullXfer
    let f : String × List Byte := ("A", [])
    let s : State := (gangIn { slots := 0x303 } fun n => { n with tftp := some fullXfer })
    s.watch.core = true
      ∧ (∀ d ∈ [7, 10, 11, 327], s.logOnly d = true)
      ∧ (s.mac 4).sending = some f
      ∧ tabGetD (s.mac 4).txq 2 [] = []
      ∧ s.nvm.tftp = some x
      ∧ x.peer = peer
      ∧ x.held = none
      ∧ x.file = .firmware
      ∧ data.length ≤ x.blksize
      ∧ blk = x.next
      ∧ blk < 65536
      ∧ s.watch.warnAt = none
      ∧ x.slot < 4
      ∧ nvmBlocks ((x.raw ++ data).length / 4096) (x.raw ++ data) x.content = none := by
  intro peer blk data x f s
  refine ⟨by decide +kernel, by decide +kernel, by decide +kernel, by decide +kernel, rfl, rfl, rfl, rfl, by decide +kernel, rfl,
    by decide, rfl, by decide, ?_⟩
  have h : (x.raw ++ data).length / 4096 = 1 := by simp [x, data, fullXfer]
  rw [h]
  exact full_bad

/-- Clause 12 of TransfersAndNvm. -/
theorem witness_TransfersAndNvm_9 :
    let peer : Nat := 9
    let blk : Nat := 3
    let data : List Byte := []
    let c : List Byte := fwImg
    let x : Tftp := { xfer with content := fwImg }
    let f : String × List Byte := ("A", [])
    let s : State := (gangIn { slots := 0x303 } fun n => { n with tftp := some { xfer with content := fwImg } })
    s.watch.core = true
      ∧ (∀ d ∈ [7, 10, 11, 327], s.logOnly d = true)
      ∧ (s.mac 4).sending = some f
      ∧ tabGetD (s.mac 4).txq 2 [] = []
      ∧ s.nvm.tftp = some x
      ∧ x.peer = peer
      ∧ x.held = none
      ∧ x.file = .firmware
      ∧ data.length < x.blksize
      ∧ blk = x.next
      ∧ blk < 65536
      ∧ s.watch.warnAt = none
      ∧ x.slot < 2
      ∧ c.length ≤ 4092 * 4096
      ∧ nvmBlocks ((x.raw ++ data).length / 4096) (x.raw ++ data) x.content = some ([], c)
      ∧ s.imgCheck 0 c = 0 := by
  decide +kernel

/-- Clause 13 of TransfersAndNvm. -/
theorem witness_TransfersAndNvm_10 :
    let peer : Nat := 9
    let n : Nat := 1
    let blk : Nat := 3
    let data : List Byte := []
    let c : List Byte := [1#8]
    let x : Tftp := { xfer with content := [1#8] }
    let f : String × List Byte := ("A", [])
    let s : State := (gangIn { slots := 0x303 } fun n => { n with tftp := some { xfer with content := [1#8] } })
    s.watch.core = true
      ∧ (∀ d ∈ [7, 10, 11, 327], s.logOnly d = true)
      ∧ (s.mac 4).sending = some f
      ∧ tabGetD (s.mac 4).txq 2 [] = []
      ∧ s.nvm.tftp = some x
      ∧ x.peer = peer
      ∧ x.held = none
      ∧ x.file = .firmware
      ∧ data.length < x.blksize
      ∧ blk = x.next
      ∧ blk < 65536
      ∧ s.watch.warnAt = none
      ∧ x.slot < 2
      ∧ c.length ≤ 4092 * 4096
      ∧ nvmBlocks ((x.raw ++ data).length / 4096) (x.raw ++ data) x.content = some ([], c)
      ∧ s.imgCheck 0 c = n
      ∧ n ≠ 0 := by
  decide +kernel

/-- Clause 14 of TransfersAndNvm. -/
theorem witness_TransfersAndNvm_11 :
    let dt : Nat := 800000000
    let x : Tftp := xfer
    let f : String × List Byte := ("A", [])
    let s : State := (gangIn { slots := 0x303 } fun n => { n with tftp := some xfer })
    s.watch.core = true
      ∧ (∀ d ∈ [7, 10, 11, 327], s.logOnly d = true)
      ∧ (s.mac 4).sending = some f
      ∧ tabGetD (s.mac 4).txq 2 [] = []
      ∧ s.nvm.tftp = some x
      ∧ x.held = none
      ∧ x.sentAt + sec 1 ≤ s.clk + dt
      ∧ x.tries < 5
      ∧ 2 ≤ x.next
      ∧ x.next ≤ 65536 := by
  decide +kernel

/-- Clause 15 of TransfersAndNvm. -/
theorem witness_TransfersAndNvm_12 :
    let dt : Nat := 800000000
    let x : Tftp := { xfer with tries := 5 }
    let f : String × List Byte := ("A", [])
    let s : State := (gangIn { slots := 0x303 } fun n => { n with tftp := some { xfer with tries := 5 } })
    s.watch.core = true
      ∧ (∀ d ∈ [7, 10, 11, 327], s.logOnly d = true)
      ∧ (s.mac 4).sending = some f
      ∧ tabGetD (s.mac 4).txq 2 [] = []
      ∧ s.nvm.tftp = some x
      ∧ x.held = none
      ∧ x.sentAt + sec 1 ≤ s.clk + dt
      ∧ x.tries = 5
      ∧ x.file = .firmware
      ∧ x.slot < 4 := by
  decide +kernel

/-- Clause 17 of TransfersAndNvm. -/
theorem witness_TransfersAndNvm_13 :
    let f : String × List Byte := ("A", [])
    let e : LogEntry := { anEntry with seq := 1 }
    let s : State := ({ gangIn { slots := 0x303 } with flt := { State.reset.flt with log := [anEntry] } })
    s.watch.core = true
      ∧ (∀ d ∈ [7, 10, 11, 327], s.logOnly d = true)
      ∧ (s.mac 4).sending = some f
      ∧ tabGetD (s.mac 4).txq 2 [] = []
      ∧ s.flt.log = [e]
      ∧ s.nvm.copied = 0
      ∧ e.seq = 1
      ∧ s.watch.warnAt = none
      ∧ s.nvm.logFill < 127 := by
  decide +kernel

/-- Clause 19 of TransfersAndNvm. -/
theorem witness_TransfersAndNvm_14 :
    let k : Nat := 0x900
    let f : String × List Byte := ("A", [])
    let h : BootHdr := { slots := 0x303 }
    let s : State := (List.foldl (fun (s : State) (e : Nat × Nat) => s.wn e.1 e.2) (gangIn { slots := 0x303 }) [(Reg.RSV_NVM_SPARE, 5)])
    s.watch.core = true
      ∧ (∀ d ∈ [7, 10, 11, 327], s.logOnly d = true)
      ∧ (s.mac 4).sending = some f
      ∧ tabGetD (s.mac 4).txq 2 [] = []
      ∧ (s.hdr.remap.any fun r => r.1 == k) = false
      ∧ s.hdr.remap = h.remap
      ∧ h.remap.length < 1000
      ∧ 0x800 ≤ k
      ∧ k < 0x1800
      ∧ 1 ≤ s.fld Reg.RSV_NVM_SPARE 15 0
      ∧ s.rsv.running = [] := by
  decide +kernel

/-- Clause 20 of TransfersAndNvm. -/
theorem witness_TransfersAndNvm_15 :
    let k : Nat := 0x900
    let f : String × List Byte := ("A", [])
    let s : State := (gangIn { slots := 0x303, remap := [(0x900, 1)] } id)
    s.watch.core = true
      ∧ (∀ d ∈ [7, 10, 11, 327], s.logOnly d = true)
      ∧ (s.mac 4).sending = some f
      ∧ tabGetD (s.mac 4).txq 2 [] = []
      ∧ (s.hdr.remap.any fun r => r.1 == k) = true := by
  decide +kernel
end

section
/-! ### What a write and a read of a register come to (R5 to R9) -/

namespace Sys2Proof.Machine

theorem State.rn_sub_lt (s : State) (a k : Nat) : s.rn a - k < 2 ^ 32 :=
  Nat.lt_of_le_of_lt (Nat.sub_le _ _) (s.rn_lt a)

theorem State.regsBut_wn (s : State) (a n : Nat) : RegsBut [a] s (s.wn a n) :=
  fun _ hb => s.rd_wr_ne _ (by simpa using hb)

theorem RegsBut.wn {l : List Nat} {s t : State} {a : Nat} (h : RegsBut l s t) (ha : a ∈ l) (n : Nat) :
    RegsBut l s (t.wn a n) :=
  fun b hb => (t.rd_wr_ne _ (ne_of_mem_of_not_mem ha hb).symm).trans (h b hb)

theorem regsBut_acted {l : List Nat} {s : State} {dt : Nat} {f : State → State} :
    RegsBut l s (acted dt s f) ↔ RegsBut l s (f (s.advance dt)) := Iff.rfl

theorem sameHold_acted {s : State} {dt : Nat} {f : State → State} :
    SameHold s (acted dt s f) ↔ SameHold s (f (s.advance dt)) := Iff.rfl

/-- A request that changes one register by its own value comes to that change: the requester's name is not kept. -/
theorem State.asking_wn (s : State) (req : Requester) {f : State → State} {a : Nat} (g : Nat → Nat)
    (hf : ∀ u : State, u.lampDie = s.lampDie → f u = u.wn a (g (u.rn a))) :
    s.asking req f = s.wn a (g (s.rn a)) :=
  congrArg (fun u : State => { u with asker := s.asker })
    (hf { s with asker := s.asker <|> some ⟨req, s.time.led⟩ } rfl)

theorem inHold_of_lt {a : Nat} (h : a < holdBase) : inHold a = false := by
  simp [inHold, h.not_ge]

/-- A write of a register that is not read-only goes to the register's block, under the requester's name. -/
theorem State.writeReg_writable (s : State) (req : Requester) {a : Nat} (v : Word) {d : RegDesc}
    (hd : regDesc? a = some d) (hro : d.acc ≠ .ro) (hh : inHold a = false) (ha : a % 4 = 0) :
    s.writeReg req a v.toNat = s.asking req fun s => s.writeBlock req a v.toNat none := by
  have hv : v.toNat % 2 ^ 32 = v.toNat := Nat.mod_eq_of_lt v.isLt
  have hden : s.writeDenied a = false := by simp [State.writeDenied, assigned, hd, hh, ha]
  simp only [State.writeReg, hv, hden, hh, hd]
  simp [hro]

/-- A read that finds no latched word, of a register that is no word of a pair and that reads no free value, answers the
register's present value. -/
theorem State.readReg_single (s : State) (req : Requester) {a : Nat} (hk : takeKey s.pairLatch req a = none)
    (hp : pairWord a = none) (hkeep : a / 65536 ≠ 0x16) (hw : a ≠ Reg.WATCH_STAT) :
    s.readReg req a = (s.peek a, s.readEffect a) := by
  have hn : a ≠ Reg.TIME_NOW := by
    rintro rfl
    exact absurd hp (by decide)
  simp [State.readReg, hkeep, hw, hk, hp, hn]

theorem State.peek_register (s : State) {a : Nat} {d : RegDesc} (hd : regDesc? a = some d) (hwo : d.acc ≠ .wo)
    (hh : inHold a = false) (hs : shadowBase a = none) : s.peek a = s.liveWord a := by
  simp [State.peek, hh, hs, hd, hwo]

/-! ### W1C registers (R7) -/

/-- The descriptor of LAMP_PORT_FLT (Table 18.9). -/
def lampPortFltDesc : RegDesc := ⟨0xd0134, [(32, 64)], .w1c, 0, 0x3ff, false, false⟩

theorem regDesc?_lampPortFlt : ∀ p : Fin 32, regDesc? (Reg.LAMP_PORT_FLT p) = some lampPortFltDesc := by decide

theorem block_lampPortFlt (p : Fin 32) : Reg.LAMP_PORT_FLT p / 65536 = 0xD := by
  simp only [Reg.LAMP_PORT_FLT]; omega

theorem inHold_lampPortFlt (p : Fin 32) : inHold (Reg.LAMP_PORT_FLT p) = false :=
  inHold_of_lt (by simp only [Reg.LAMP_PORT_FLT, holdBase]; omega)

/-- PIER_IRQ_STAT [21:8] clear where a 1 is written (Table 14.13). -/
theorem State.writeReg_pierIrqStat (s : State) (req : Requester) (v : Word) :
    s.writeReg req Reg.PIER_IRQ_STAT v.toNat
      = s.wn Reg.PIER_IRQ_STAT
          (s.rn Reg.PIER_IRQ_STAT - (s.rn Reg.PIER_IRQ_STAT &&& v.toNat &&& 0x3FFF00)) :=
  s.writeReg_writable req v (d := ⟨0x110004, [], .rw, 0, 0xffffffff, false, false⟩)
    (by decide) (by decide) (by decide) (by decide)

theorem State.writeLamp_portFlt (s : State) (req : Requester) (p : Fin 32) (v : Nat) (cue : Option Nat)
    (hl : s.lampDie = true) :
    s.writeLamp req (Reg.LAMP_PORT_FLT p) v cue
      = s.wn (Reg.LAMP_PORT_FLT p) (s.rn (Reg.LAMP_PORT_FLT p) - (s.rn (Reg.LAMP_PORT_FLT p) &&& v)) := by
  have hport : 0x100 ≤ Reg.LAMP_PORT_FLT p % 65536 ∧ Reg.LAMP_PORT_FLT p % 65536 < 0x1000 := by
    simp only [Reg.LAMP_PORT_FLT]; omega
  have hreg : Reg.LAMP_PORT_FLT p % 65536 % 64 = 0x34 := by simp only [Reg.LAMP_PORT_FLT]; omega
  simp [State.writeLamp, hl, hport, hreg]

/-- On a part with the lamp die LAMP_PORT_FLT clears where a 1 is written (Table 12.7). -/
theorem State.writeReg_lampPortFlt (s : State) (req : Requester) (p : Fin 32) (v : Word) (hl : s.lampDie = true) :
    s.writeReg req (Reg.LAMP_PORT_FLT p) v.toNat
      = s.wn (Reg.LAMP_PORT_FLT p)
          (s.rn (Reg.LAMP_PORT_FLT p) - (s.rn (Reg.LAMP_PORT_FLT p) &&& v.toNat)) := by
  have ha : Reg.LAMP_PORT_FLT p % 4 = 0 := by simp only [Reg.LAMP_PORT_FLT]; omega
  rw [s.writeReg_writable req v (regDesc?_lampPortFlt p) (by decide) (inHold_lampPortFlt p) ha]
  refine s.asking_wn req (fun n => n - (n &&& v.toNat)) fun u hu => ?_
  simp only [State.writeBlock, block_lampPortFlt, u.writeLamp_portFlt req p _ _ (hu.trans hl)]

theorem State.w1cBits_lampPortFlt (s : State) (p : Fin 32) (hl : s.lampDie = true) :
    s.w1cBits (Reg.LAMP_PORT_FLT p) = 0x3FF := by
  have hne : Reg.LAMP_PORT_FLT p ≠ Reg.PIER_IRQ_STAT := by simp only [Reg.LAMP_PORT_FLT, Reg.PIER_IRQ_STAT]; omega
  simp [State.w1cBits, hne, block_lampPortFlt, hl, regDesc?_lampPortFlt, lampPortFltDesc]

/-- A W1C write, of a register with bits m that clear and whose write takes some bits away, leaves those bits gone but
for the ones that the device sets in that clock. -/
theorem completes_w1cWrite {dt : Nat} {req : Requester} {a m gone : Nat} {v set : Word} {s : State}
    (hcore : s.watch.core = true) (hbits : (s.advance dt).w1cBits a = m) (hm : m ≠ 0)
    (hwrite : (s.advance dt).writeReg req a v.toNat = (s.advance dt).wn a (s.rn a - gone)) :
    Completes (.w1cWrite dt req a v set) s fun t =>
      t.rn a = (s.rn a - gone) ||| (set.toNat &&& m) ∧ RegsBut [a] s t ∧ SameHold s t := by
  have hgone : (s.rn a - gone) % 2 ^ 32 = s.rn a - gone := Nat.mod_eq_of_lt (s.rn_sub_lt a gone)
  have hor : ((s.rn a - gone) ||| (set.toNat &&& m)) % 2 ^ 32 = (s.rn a - gone) ||| (set.toNat &&& m) :=
    Nat.mod_eq_of_lt (Nat.or_lt_two_pow (s.rn_sub_lt a gone) (Nat.lt_of_le_of_lt Nat.and_le_left set.isLt))
  refine completes_act (f := fun s => _) rfl hcore ?_
  simp only [rn_acted, regsBut_acted, sameHold_acted, hbits, hm, if_false, hwrite, State.rn_wn_self, hgone, hor,
    true_and]
  exact ⟨((s.advance dt).regsBut_wn a _).wn List.mem_cons_self _, fun _ => rfl⟩

/-- Settles O12: the two registers by what a write does to each. -/
theorem writeOneToClear : Obligations.WriteOneToClear := by
  intro dt req v set p s hcore
  constructor
  · exact completes_w1cWrite hcore rfl (by decide) ((s.advance dt).writeReg_pierIrqStat req v)
  · intro hl
    exact completes_w1cWrite hcore ((s.advance dt).w1cBits_lampPortFlt p hl) (by decide)
      ((s.advance dt).writeReg_lampPortFlt req p v hl)

/-! ### RC registers (R8) -/

theorem State.peek_costPeak (s : State) : s.peek Reg.COMP_COST_PEAK = s.rn Reg.COMP_COST_PEAK := rfl

theorem State.readEffect_costPeak (s : State) :
    s.readEffect Reg.COMP_COST_PEAK = s.wn Reg.COMP_COST_PEAK 0 := rfl

/-- The descriptor of TIME_RXQ_DROP (Table 18.9). -/
def rxqDropDesc : RegDesc := ⟨0x20128, [(8, 64)], .rc, 0, 0, false, false⟩

theorem regDesc?_rxqDrop : ∀ p : Fin 8, regDesc? (Reg.TIME_RXQ_DROP p) = some rxqDropDesc := by decide

theorem shadowBase_rxqDrop (p : Fin 8) : shadowBase (Reg.TIME_RXQ_DROP p) = none := by
  have hlow : ¬ 0x8000 ≤ Reg.TIME_RXQ_DROP p % 65536 := by simp only [Reg.TIME_RXQ_DROP]; omega
  simp [shadowBase, hlow]

theorem pairWord_rxqDrop (p : Fin 8) : pairWord (Reg.TIME_RXQ_DROP p) = none := by
  simp [pairWord, shadowBase_rxqDrop, regDesc?_rxqDrop, rxqDropDesc]

theorem block_rxqDrop (p : Fin 8) : Reg.TIME_RXQ_DROP p / 65536 = 2 := by
  simp only [Reg.TIME_RXQ_DROP]; omega

/-- TIME_RXQ_DROP stands at offset 0x28 of its timestamp port, past the words of the queue's head entry (R57, R58). -/
theorem offset_rxqDrop (p : Fin 8) :
    0x100 ≤ Reg.TIME_RXQ_DROP p % 65536 ∧ Reg.TIME_RXQ_DROP p % 65536 < 0x300
      ∧ Reg.TIME_RXQ_DROP p % 65536 % 64 = 0x28 := by
  simp only [Reg.TIME_RXQ_DROP]; omega

theorem State.liveWord_rxqDrop (s : State) (p : Fin 8) :
    s.liveWord (Reg.TIME_RXQ_DROP p) = s.rn (Reg.TIME_RXQ_DROP p) := by
  obtain ⟨hlo, hhi, hreg⟩ := offset_rxqDrop p
  have h8 : ¬ Reg.TIME_RXQ_DROP p % 65536 < 8 := by omega
  have h18 : ¬ Reg.TIME_RXQ_DROP p % 65536 < 0x18 := by omega
  have h8' : Reg.TIME_RXQ_DROP p % 65536 ≠ 8 := by omega
  have h40 : Reg.TIME_RXQ_DROP p % 65536 ≠ 0x40 := by omega
  simp [State.liveWord, block_rxqDrop, h8, h8', h18, h40, hlo, hhi, hreg]

theorem State.peek_rxqDrop (s : State) (p : Fin 8) :
    s.peek (Reg.TIME_RXQ_DROP p) = s.rn (Reg.TIME_RXQ_DROP p) := by
  have hh : inHold (Reg.TIME_RXQ_DROP p) = false :=
    inHold_of_lt (by simp only [Reg.TIME_RXQ_DROP, holdBase]; omega)
  rw [s.peek_register (regDesc?_rxqDrop p) (by decide) hh (shadowBase_rxqDrop p), s.liveWord_rxqDrop]

theorem State.readEffect_rxqDrop (s : State) (p : Fin 8) :
    s.readEffect (Reg.TIME_RXQ_DROP p) = s.wn (Reg.TIME_RXQ_DROP p) 0 := by
  obtain ⟨hlo, hhi, hreg⟩ := offset_rxqDrop p
  have h300 : ¬ 0x300 ≤ Reg.TIME_RXQ_DROP p % 65536 := by omega
  simp [State.readEffect, hreg, h300, regDesc?_rxqDrop, rxqDropDesc]

/-- An RC read, of a register whose read answers its word and sets it to 0, leaves there the events of that clock. -/
theorem completes_rcRegisterRead {dt e : Nat} {req : Requester} {a : Nat} {s : State} (hcore : s.watch.core = true)
    (hrc : (regDesc? a).any (fun d => d.acc == .rc) = true)
    (hread : (s.advance dt).readReg req a = (s.rn a, (s.advance dt).wn a 0)) :
    Completes (.rcRegisterRead dt req a e) s fun t =>
      t.out.head? = some (.readData req a (BitVec.ofNat 32 (s.rn a))) ∧ t.rn a = min e (2 ^ 32 - 1)
        ∧ RegsBut [a] s t ∧ SameHold s t := by
  have hmin : min e (2 ^ 32 - 1) % 2 ^ 32 = min e (2 ^ 32 - 1) := Nat.mod_eq_of_lt (by omega)
  refine completes_act (f := fun s => _) rfl hcore ?_
  simp only [acted_out, rn_acted, regsBut_acted, sameHold_acted, State.readOut, hread, hrc, if_true,
    State.rn_wn_self, hmin, true_and]
  exact ⟨rfl, ((s.advance dt).regsBut_wn a 0).wn List.mem_cons_self _, fun _ => rfl⟩

/-- Settles O13: each of the two registers is read as a single word and cleared by its read. -/
theorem readClears : Obligations.ReadClears := by
  intro dt e req p s hcore a ha hk
  simp only [List.mem_cons, List.not_mem_nil, or_false] at ha
  rcases ha with rfl | rfl
  case inl =>
    refine completes_rcRegisterRead hcore (by decide) ?_
    rw [(s.advance dt).readReg_single req hk (by decide) (by decide) (by decide),
      State.peek_costPeak, State.readEffect_costPeak]
    rfl
  case inr =>
    refine completes_rcRegisterRead hcore (by simp [regDesc?_rxqDrop, rxqDropDesc]) ?_
    have hblock := block_rxqDrop p
    have hwatch : Reg.TIME_RXQ_DROP p ≠ Reg.WATCH_STAT := by simp only [Reg.TIME_RXQ_DROP, Reg.WATCH_STAT]; omega
    rw [(s.advance dt).readReg_single req hk (pairWord_rxqDrop p) (by omega) hwatch,
      State.peek_rxqDrop, State.readEffect_rxqDrop]
    rfl

end Sys2Proof.Machine
end

section
/-! ### The jump threshold (R43) -/

namespace Sys2Proof.Machine

theorem sameRegs_acted {s : State} {dt : Nat} {f : State → State} :
    SameRegs s (acted dt s f) ↔ SameRegs s (f (s.advance dt)) := Iff.rfl

/-- A register set to the number of a word reads as that word. -/
theorem State.rd_wn_toNat (s : State) (a : Nat) (v : Word) : (s.wn a v.toNat).rd a = v := by
  rw [State.wn, BitVec.ofNat_toNat, BitVec.setWidth_eq, State.rd_wr_self]

theorem State.jumpThrWrite_inRange (s : State) {v : Nat} (hlo : 100 ≤ v) (hhi : v ≤ 1000000000) :
    s.jumpThrWrite v = s.wn Reg.TIME_JUMP_THR v :=
  if_pos ⟨hlo, hhi⟩

theorem State.jumpThrWrite_outOfRange (s : State) {v : Nat} (h : v < 100 ∨ 1000000000 < v) :
    s.jumpThrWrite v = s :=
  if_neg (by omega)

/-- Settles O24: the write comes to that of the register alone within the range, and to no change outside it. -/
theorem jumpThresholdRange : Obligations.JumpThresholdRange := by
  intro dt req v s hcore
  constructor
  case left =>
    intro hlo hhi
    refine completes_act (f := fun s => s.jumpThrWrite v.toNat) rfl hcore ?_
    rw [rd_acted, regsBut_acted, sameHold_acted, State.jumpThrWrite_inRange _ hlo hhi]
    exact ⟨State.rd_wn_toNat _ _ v, (s.advance dt).regsBut_wn _ _, fun _ => rfl⟩
  case right =>
    intro hout
    refine completes_act (f := fun s => s.jumpThrWrite v.toNat) rfl hcore ?_
    rw [sameRegs_acted, sameHold_acted, State.jumpThrWrite_outOfRange _ hout]
    exact ⟨fun _ => rfl, fun _ => rfl⟩

end Sys2Proof.Machine
end

section
/-! ### What a step comes to -/

namespace Sys2Proof.Machine

theorem linkAct_eq_acted (dt : Nat) (link : Link) (s : State) (f : State → State) :
    ∃ g, linkAct dt link s f = .next (acted dt s g) := by
  cases link <;> exact ⟨_, rfl⟩

/-- Every command of the table lets its clocks pass, acts, and settles the pins. -/
theorem exec_eq_acted (c : Instr) (s : State) : ∃ dt f, exec c s = .next (acted dt s f) := by
  cases c with
  | timePacketSend dt link => exact ⟨dt, linkAct_eq_acted ..⟩
  | timePacketReceive dt link => exact ⟨dt, linkAct_eq_acted ..⟩
  | creditReceive dt link => exact ⟨dt, linkAct_eq_acted ..⟩
  | creditSend dt link => exact ⟨dt, linkAct_eq_acted ..⟩
  | regLockExpire dt tile => cases tile <;> exact ⟨dt, _, rfl⟩
  | _ => exact ⟨_, _, rfl⟩

/-- A step lets the waiting packets go on, or is the action of the command at the front of the queue. -/
theorem step_next {s t : State} (h : step s = .next t) :
    t = s.txAll ∨ ∃ dt s' f, t = acted dt s' f := by
  unfold step at h
  split at h
  case h_1 => exact .inl (Host.Outcome.next.inj h).symm
  case h_2 c cs _ =>
    obtain ⟨dt, f, hc⟩ := exec_eq_acted c { s with pending := cs }
    exact .inr ⟨dt, _, f, (Host.Outcome.next.inj (hc.symm.trans h)).symm⟩

end Sys2Proof.Machine
end

section
/-! ### The transmitter leaves the pin and the registers it follows (R420, R231) -/

namespace Sys2Proof.Machine

namespace State.PirqInv

variable {s : State}

theorem wn {a : Nat} (h : s.PirqInv) (n : Nat) (hstat : Reg.PIER_IRQ_STAT ≠ a) (hmask : Reg.PIER_IRQ_MASK ≠ a) :
    (s.wn a n).PirqInv := by
  simpa only [State.PirqInv, State.wn, State.wr_pirq, State.rd_wr_ne _ _ hstat, State.rd_wr_ne _ _ hmask] using h

/-- A counter outside the two registers rises without moving the pin. -/
theorem bump {a : Nat} (h : s.PirqInv) (ha : a + 4 < Reg.PIER_IRQ_STAT) : (s.bump a).PirqInv := by
  have hregs : Reg.PIER_IRQ_STAT < Reg.PIER_IRQ_MASK := by decide
  exact (h.wn _ (by omega) (by omega)).wn _ (by omega) (by omega)

theorem setLinkTx (h : s.PirqInv) (k : Nat) (x : LinkTx) : (s.setLinkTx k x).PirqInv := h

theorem send (h : s.PirqInv) (kind : String) (port : Nat) (fields : List Nat) : (s.send kind port fields).PirqInv := h

theorem lineOut (h : s.PirqInv) (lane clk fin : Nat) (bs : List SlkBlock) : (s.lineOut lane clk fin bs).PirqInv := by
  unfold State.lineOut
  split_ifs
  · exact h
  · exact h

/-- The counters that a packet which leaves may raise: its group's, or that of pixel packets (Tables 06.5, 08.18). -/
theorem txCounted (h : s.PirqInv) (k : Nat) (pixel : Prop) [Decidable pixel] :
    (if k < 3 then s.bump (Reg.SLK_GRP_TX k) else if pixel then s.bump Reg.SCAN_SENT else s).PirqInv := by
  split_ifs with hgroup
  · exact h.bump (by simp only [Reg.SLK_GRP_TX, Reg.PIER_IRQ_STAT]; omega)
  · exact h.bump (by decide)
  · exact h

theorem txSend (h : s.PirqInv) (k : Nat) (p : TxPacket) (clk : Nat) : (s.txSend k p clk).PirqInv := by
  unfold State.txSend
  dsimp only
  split
  case isTrue => exact h.setLinkTx ..
  case isFalse => exact List.foldlRecOn _ _ (((h.setLinkTx ..).txCounted ..).send ..) fun _ hu _ _ => hu.lineOut ..

theorem txDrain (h : s.PirqInv) (n k : Nat) : (State.txDrain n s k).PirqInv := by
  induction n generalizing s with
  | zero => exact h
  | succ n ih =>
    unfold State.txDrain
    dsimp only
    split
    case h_1 => exact h
    case h_2 =>
      split_ifs
      case pos => exact h
      case neg =>
        split
        case h_1 q _ => exact ih (h.txSend k q _)
        case h_2 => exact h

/-- The packets whose turn has come leave with the pin as it was. -/
theorem txAll (h : s.PirqInv) : s.txAll.PirqInv :=
  List.foldlRecOn _ _ h fun _ hu _ _ => hu.txDrain ..

end State.PirqInv

/-- Settles O4: a command's action ends by settling the pin, and the packets that leave on an empty queue write neither
of its registers. -/
theorem pirqFollowsItsRegisters : Obligations.PirqFollowsItsRegisters := by
  intro s t h hstep
  obtain rfl | ⟨dt, s', f, rfl⟩ := step_next hstep
  · exact h.txAll
  · exact acted_pirqInv dt s' f

end Sys2Proof.Machine
end

section
/-! ### Writes of read-only registers (R137, R523) -/

namespace Sys2Proof.Machine

/-- A register outside Hold is no address at which a write is denied. -/
theorem State.writeDenied_register (s : State) {a : Nat} {d : RegDesc} (hd : regDesc? a = some d)
    (hh : inHold a = false) (ha : a % 4 = 0) : s.writeDenied a = false := by
  simp [State.writeDenied, assigned, hd, hh, ha]

/-- A write of a read-only register does nothing but count an access error in a layer slot that no berth has taken. -/
theorem State.writeReg_readOnly (s : State) (req : Requester) {a : Nat} (v : Nat) {d : RegDesc}
    (hd : regDesc? a = some d) (hro : d.acc = .ro) (hh : inHold a = false) (ha : a % 4 = 0) :
    s.writeReg req a v = if s.slotUnused a then s.accErr req a true false else s := by
  simp [State.writeReg, s.writeDenied_register hd hh ha, hh, hd, hro]

/-! ### Access errors (R6) -/

theorem RegsBut.refl (l : List Nat) (s : State) : RegsBut l s s := fun _ _ => rfl

theorem RegsBut.bump {l : List Nat} {s t : State} {a : Nat} (h : RegsBut l s t) (hlow : a ∈ l) (hhigh : a + 4 ∈ l) :
    RegsBut l s (t.bump a) :=
  (h.wn hlow _).wn hhigh _

/-- The latches of an access error are not its counter, which therefore rises by 1 (R6, R10). -/
theorem State.pair_accErr (s : State) (req : Requester) (a : Nat) (isWrite key : Bool) :
    (s.accErr req a isWrite key).pair Reg.SYS_ACC_ERR = min (s.pair Reg.SYS_ACC_ERR + 1) (2 ^ 64 - 1) :=
  calc (s.accErr req a isWrite key).pair Reg.SYS_ACC_ERR
    _ = (s.bump Reg.SYS_ACC_ERR).pair Reg.SYS_ACC_ERR := by
      simp only [State.pair, State.accErr]
      rw [State.rn_wn_ne _ _ (by decide), State.rn_wn_ne _ _ (by decide), State.rn_wn_ne _ _ (by decide),
        State.rn_wn_ne _ _ (by decide)]
    _ = min (s.pair Reg.SYS_ACC_ERR + 1) (2 ^ 64 - 1) := s.pair_bumpBy _ 1

/-- An access error writes its counter, its address and its information (Table 18.5). -/
theorem State.regsBut_accErr (s : State) (req : Requester) (a : Nat) (isWrite key : Bool) :
    RegsBut [Reg.SYS_ACC_ERR, Reg.SYS_ACC_ERR + 4, Reg.SYS_ACC_ERR_ADDR, Reg.SYS_ACC_ERR_INFO] s
      (s.accErr req a isWrite key) :=
  (((RegsBut.refl _ s).bump (by simp) (by simp)).wn (by simp) _).wn (by simp) _

theorem State.sameHold_accErr (s : State) (req : Requester) (a : Nat) (isWrite key : Bool) :
    SameHold s (s.accErr req a isWrite key) := fun _ => rfl

/-- Settles O10: the write leaves the state as time left it (R523), or comes to one access error (R137). -/
theorem readOnlyWriteIgnored : Obligations.ReadOnlyWriteIgnored := by
  intro dt a req v s hcore hh ha hany
  obtain ⟨d, hd, hacc⟩ := (Option.any_eq_true _ _).mp hany
  have hro : d.acc = .ro := eq_of_beq hacc
  have hwrite := (s.advance dt).writeReg_readOnly req v.toNat hd hro hh ha
  constructor
  case left =>
    intro hused
    refine completes_act (f := fun s => s.writeReg req a v.toNat) rfl hcore ?_
    have hsame : (s.advance dt).writeReg req a v.toNat = s.advance dt :=
      hwrite.trans (if_neg (Bool.eq_false_iff.mp hused))
    rw [sameRegs_acted, sameHold_acted, hsame]
    exact ⟨fun _ => rfl, fun _ => rfl⟩
  case right =>
    intro hunused
    refine completes_act (f := fun s => s.writeReg req a v.toNat) rfl hcore ?_
    have herr : (s.advance dt).writeReg req a v.toNat = (s.advance dt).accErr req a true false :=
      hwrite.trans (if_pos hunused)
    rw [pair_acted, regsBut_acted, sameHold_acted, herr]
    exact ⟨State.pair_accErr _ req a true false, State.regsBut_accErr _ req a true false,
      State.sameHold_accErr _ req a true false⟩

end Sys2Proof.Machine
end

section
/-! ### Steps, resets and the shape of every command (R39, R457, R462) -/

namespace Sys2Proof.Machine

/-- Settles O1: the queue's front decides which branch of a step is taken. -/
theorem stepRunsFront : Obligations.StepRunsFront := by
  intro s c cs h
  simp only [step, h]

/-- With no record of any link there is no link for which packets could wait. -/
theorem State.txAll_of_no_links {s : State} (h : s.phy.tx = []) : s.txAll = s := by
  simp [State.txAll, h]

/-- Settles O2: an empty queue runs the transmitters, which without any record of a link have nothing to send. -/
theorem emptyQueueIdles : Obligations.EmptyQueueIdles := by
  intro s h
  have hstep : step s = .next s.txAll := by simp only [step, h]
  exact ⟨hstep, fun htx => by rw [hstep, State.txAll_of_no_links htx]⟩

/-- Settles O5: neither of the two registers is set at reset. -/
theorem pirqFollowsAtReset : Obligations.PirqFollowsAtReset := by
  unfold Obligations.PirqFollowsAtReset State.PirqInv
  decide +kernel

/-- Settles O3: every meaning has the shape of an action, which restores the queue, the die and the request and only adds
clocks. -/
theorem everyCommandEndsInANextState : Obligations.EveryCommandEndsInANextState := by
  intro c s
  obtain ⟨dt, f, h⟩ := exec_eq_acted c s
  exact ⟨_, h, rfl, rfl, rfl, Nat.le_add_right s.clk dt⟩

/-- Settles O7: each of these commands acts while the compute die is out of reset. -/
theorem heldInResetOnlyTimePasses : Obligations.HeldInResetOnlyTimePasses := by
  intro dt s req a n v l m r d ps hoff c hc
  simp only [List.mem_cons, List.not_mem_nil, or_false] at hc
  rcases hc with rfl | rfl | rfl | rfl | rfl | rfl | rfl | rfl | rfl | rfl | rfl | rfl | rfl | rfl | rfl | rfl | rfl | rfl
    | rfl | rfl | rfl | rfl | rfl <;> exact act_off dt s _ hoff

end Sys2Proof.Machine
end

section
/-! ### Writes of registers and of Hold (R5, R6, R524) -/

namespace Sys2Proof.Machine

/-- A write that is denied comes to one access error. -/
theorem State.writeReg_denied (s : State) (req : Requester) {a v : Nat} (h : s.writeDenied a = true) :
    s.writeReg req a v = s.accErr req a true false := by
  simp [State.writeReg, h]

theorem State.writeDenied_unassigned (s : State) {a : Nat} (h : assigned a = false) : s.writeDenied a = true := by
  simp [State.writeDenied, h]

theorem State.rn_accErrAddr (s : State) (req : Requester) (a : Nat) (isWrite key : Bool) :
    (s.accErr req a isWrite key).rn Reg.SYS_ACC_ERR_ADDR = a % 2 ^ 32 := by
  rw [State.accErr, State.rn_wn_ne _ _ (by decide), State.rn_wn_self]

theorem portOf_le (req : Requester) : portOf req ≤ 4 := by
  cases req <;> simp [portOf]

/-- Table 18.5: PORT in [2:0], a write in bit 3 and a wrong key in bit 4. -/
theorem State.rn_accErrInfo (s : State) (req : Requester) (a : Nat) (isWrite key : Bool) :
    (s.accErr req a isWrite key).rn Reg.SYS_ACC_ERR_INFO = portOf req + isWrite.toNat * 8 + key.toNat * 16 := by
  have hport := portOf_le req
  have hw := isWrite.toNat_le
  have hk := key.toNat_le
  rw [State.accErr, State.rn_wn_self]
  omega

/-- Settles O8: nothing stands at the address, so the write is denied and comes to one access error. -/
theorem unassignedWriteCounted : Obligations.UnassignedWriteCounted := by
  intro dt a req v s hcore ha
  refine completes_act (f := fun s => s.writeReg req a v.toNat) rfl hcore ?_
  rw [pair_acted, rn_acted, rn_acted, regsBut_acted, sameHold_acted,
    State.writeReg_denied _ req (State.writeDenied_unassigned _ ha)]
  exact ⟨State.pair_accErr .., State.rn_accErrAddr .., State.rn_accErrInfo .., State.regsBut_accErr _ req a true false,
    State.sameHold_accErr _ req a true false⟩

/-- A register whose block only stores it takes the fields written, and no other register changes. -/
theorem completes_plainWrite {dt : Nat} {req : Requester} {a : Nat} {v : Word} {s : State} (hcore : s.watch.core = true)
    (hwrite : (s.advance dt).writeReg req a v.toNat = (s.advance dt).store a v.toNat) :
    Completes (.registerWrite dt req a v) s fun t => t.rn a = v.toNat &&& wmask a ∧ RegsBut [a] s t ∧ SameHold s t := by
  refine completes_act (f := fun s => s.writeReg req a v.toNat) rfl hcore ?_
  have hlt : (v.toNat &&& wmask a) < 2 ^ 32 := Nat.lt_of_le_of_lt Nat.and_le_left v.isLt
  rw [rn_acted, regsBut_acted, sameHold_acted, hwrite, State.store, State.rn_wn_self, Nat.mod_eq_of_lt hlt]
  exact ⟨rfl, (s.advance dt).regsBut_wn a _, fun _ => rfl⟩

/-- Settles O9: each of the six registers is one that its block only stores. -/
theorem plainWriteStores : Obligations.PlainWriteStores := by
  intro dt req v s hcore a ha
  simp only [List.mem_cons, List.not_mem_nil, or_false] at ha
  rcases ha with rfl | rfl | rfl | rfl | rfl | rfl <;>
    exact completes_plainWrite hcore (State.writeReg_writable _ req v rfl (by decide) (by decide) (by decide))

theorem leBytes_length (n x : Nat) : (leBytes n x).length = n := by
  induction n generalizing x with
  | zero => rfl
  | succ n ih => simp [leBytes, ih]

/-- Byte i of a little-endian number (R11). -/
theorem leBytes_getD {n i : Nat} (x : Nat) (h : i < n) : (leBytes n x).getD i 0#8 = BitVec.ofNat 8 (x / 256 ^ i) := by
  induction n generalizing x i with
  | zero => omega
  | succ n ih =>
    cases i with
    | zero => simp [leBytes]
    | succ i =>
      have hi : i < n := by omega
      rw [leBytes, List.getD_cons_succ, ih _ hi, Nat.div_div_eq_div_mul, pow_succ']

/-- A word of Hold at or above staging is written as its four bytes. -/
theorem State.writeReg_staging (s : State) (req : Requester) {a : Nat} (v : Word) (hin : inHold a = true)
    (halign : a % 4 = 0) (hstage : s.stageBase ≤ a) :
    s.writeReg req a v.toNat = s.writeHold a (leBytes 4 v.toNat) := by
  have hv : v.toNat % 2 ^ 32 = v.toNat := Nat.mod_eq_of_lt v.isLt
  have hden : s.writeDenied a = false := by simp [State.writeDenied, assigned, hin, halign, hstage]
  simp only [State.writeReg, hv, hden, hin]
  rfl

/-- Settles O11: a write to Hold at or above staging is not denied, and writes the bytes of the word. -/
theorem holdWordWritten : Obligations.HoldWordWritten := by
  intro dt a req v s hcore hin halign hstage
  refine completes_act (f := fun s => s.writeReg req a v.toNat) rfl hcore ?_
  have hwrite := (s.advance dt).writeReg_staging req v hin halign hstage
  simp only [holdByte_acted, sameRegs_acted, acted_hold, hwrite, State.holdByte_writeHold, leBytes_length]
  refine ⟨fun b => ?_, fun _ => rfl, fun hwf => State.writeHold_wf _ _ hwf⟩
  split_ifs with hb
  case pos => exact leBytes_getD _ (by omega)
  case neg => rfl

end Sys2Proof.Machine
end

section
/-! ### 64-bit pairs (R9, R526) -/

namespace Sys2Proof.Machine

/-- With no latched word of its own a read of the counter's low word answers it and latches the high word. -/
theorem State.readReg_accErr (s : State) (req : Requester) (hk : takeKey s.pairLatch req Reg.SYS_ACC_ERR = none) :
    s.readReg req Reg.SYS_ACC_ERR
      = (s.rn Reg.SYS_ACC_ERR, s.latchWord req (Reg.SYS_ACC_ERR + 4) (s.rn (Reg.SYS_ACC_ERR + 4))) := by
  have hlow : pairWord Reg.SYS_ACC_ERR = some false := by decide
  have hnow : Reg.SYS_ACC_ERR ≠ Reg.TIME_NOW := by decide
  have hwatch : Reg.SYS_ACC_ERR ≠ Reg.WATCH_STAT := by decide
  have hkeep : (Reg.SYS_ACC_ERR / 65536 == 0x16) = false := by decide
  simp [State.readReg, hkeep, hk, hlow, hnow, hwatch]
  exact ⟨rfl, rfl⟩

theorem takeKey_latchWord (s : State) (r : Requester) (a v : Nat) :
    takeKey (s.latchWord r a v).pairLatch r a = some (BitVec.ofNat 32 v) := by
  simp [takeKey, State.latchWord]

/-- Settles O14: the counter reads as it stands and its high word waits for the requester. -/
theorem pairLowLatchesHigh : Obligations.PairLowLatchesHigh := by
  intro dt req s hcore hk
  refine completes_act (f := fun s => s.readOut req Reg.SYS_ACC_ERR) rfl hcore ?_
  rw [acted_out, acted_pairLatch, sameRegs_acted, sameHold_acted, State.readOut, (s.advance dt).readReg_accErr req hk]
  refine ⟨rfl, ?_, fun _ => rfl, fun _ => rfl⟩
  refine (takeKey_latchWord _ req _ _).trans ?_
  rw [State.rn, BitVec.ofNat_toNat, BitVec.setWidth_eq]
  rfl

theorem takeKey_dropKey (l : List ((Requester × Nat) × Word)) (r : Requester) (a : Nat) :
    takeKey (dropKey l r a) r a = none := by
  simp [takeKey, dropKey]

/-- The low word that waits takes its place, or nothing changes; none waits any more. -/
theorem State.pairTake_spec (s : State) (r : Requester) (a : Nat) :
    (s.pairTake r a).rd a = (takeKey s.pairLow r a).getD (s.rd a) ∧ takeKey (s.pairTake r a).pairLow r a = none
      ∧ RegsBut [a] s (s.pairTake r a) ∧ SameHold s (s.pairTake r a) := by
  unfold State.pairTake
  cases hk : takeKey s.pairLow r a with
  | none => exact ⟨rfl, hk, fun _ _ => rfl, fun _ => rfl⟩
  | some w =>
    exact ⟨State.rd_wr_self .., takeKey_dropKey .., fun b hb => State.rd_wr_ne _ _ (by simpa using hb), fun _ => rfl⟩

/-- Settles O15: the write takes the low word that waits, then its own. -/
theorem pairHighCommits : Obligations.PairHighCommits := by
  intro dt req v s hcore
  refine completes_act (f := fun s => s.writeReg req (Reg.TIME_SNAP_AT + 4) v.toNat) rfl hcore ?_
  have hwrite : (s.advance dt).writeReg req (Reg.TIME_SNAP_AT + 4) v.toNat
      = (s.advance dt).asking req fun u => (u.pairTake req Reg.TIME_SNAP_AT).wn (Reg.TIME_SNAP_AT + 4) v.toNat :=
    State.writeReg_writable _ req v rfl (by decide) (by decide) (by decide)
  rw [rd_acted, rd_acted, acted_pairLow, regsBut_acted, sameHold_acted, hwrite]
  obtain ⟨hlow, htaken, hregs, hhold⟩ :=
    State.pairTake_spec { s.advance dt with asker := s.asker <|> some ⟨req, (s.advance dt).time.led⟩ } req Reg.TIME_SNAP_AT
  refine ⟨State.rd_wn_toNat .., ?_, htaken, ?_, hhold⟩
  · exact (State.rd_wr_ne _ _ (by decide)).trans hlow
  · intro b hb
    simp only [List.mem_cons, List.not_mem_nil, or_false, not_or] at hb
    exact (State.rd_wr_ne _ _ hb.2).trans (hregs b (by simpa using hb.1))

end Sys2Proof.Machine
end

section
/-! ### What changes registers alone -/

namespace Sys2Proof.Machine

/-- Two states that differ in registers of a set alone. -/
def RegSide (p : Nat → Prop) (s t : State) : Prop :=
  ∃ regs, t = { s with regs := regs } ∧ ∀ a, ¬ p a → t.rd a = s.rd a

namespace RegSide

variable {p q : Nat → Prop} {s t u : State}

theorem refl (p : Nat → Prop) (s : State) : RegSide p s s := ⟨s.regs, rfl, fun _ _ => rfl⟩

theorem trans (h : RegSide p s t) (k : RegSide p t u) : RegSide p s u := by
  obtain ⟨r, rfl, h⟩ := h
  obtain ⟨r', rfl, k⟩ := k
  exact ⟨r', rfl, fun a ha => (k a ha).trans (h a ha)⟩

theorem mono (h : RegSide p s t) (hpq : ∀ a, p a → q a) : RegSide q s t := by
  obtain ⟨r, rfl, h⟩ := h
  exact ⟨r, rfl, fun a ha => h a fun hp => ha (hpq a hp)⟩

theorem wr (h : RegSide p s t) {a : Nat} (v : Word) (ha : p a) : RegSide p s (t.wr a v) := by
  obtain ⟨r, rfl, h⟩ := h
  exact ⟨_, rfl, fun b hb => (State.rd_wr_ne _ _ fun e : b = a => hb (e ▸ ha)).trans (h b hb)⟩

theorem wn (h : RegSide p s t) {a : Nat} (n : Nat) (ha : p a) : RegSide p s (t.wn a n) := h.wr _ ha

theorem setFld (h : RegSide p s t) {a : Nat} (hi lo v : Nat) (ha : p a) : RegSide p s (t.setFld a hi lo v) := h.wn _ ha

theorem setPair (h : RegSide p s t) {a : Nat} (n : Nat) (ha : p a) (hb : p (a + 4)) : RegSide p s (t.setPair a n) :=
  (h.wn _ ha).wn _ hb

theorem bumpBy (h : RegSide p s t) {a : Nat} (n : Nat) (ha : p a) (hb : p (a + 4)) : RegSide p s (t.bumpBy a n) :=
  h.setPair _ ha hb

theorem bump (h : RegSide p s t) {a : Nat} (ha : p a) (hb : p (a + 4)) : RegSide p s (t.bump a) := h.bumpBy 1 ha hb

theorem wrWords (h : RegSide p s t) {a : Nat} (ws : List Nat) (ha : ∀ i < ws.length, p (a + 4 * i)) :
    RegSide p s (t.wrWords a ws) := by
  induction ws generalizing t a with
  | nil => exact h
  | cons w ws ih =>
    refine ih (h.wn w (ha 0 (by simp))) fun i hi => ?_
    have := ha (i + 1) (by simpa using hi)
    rwa [show a + 4 + 4 * i = a + 4 * (i + 1) by omega]

theorem foldl {α : Type} {f : State → α → State} (h : RegSide p s t) (l : List α)
    (hf : ∀ u x, RegSide p s u → RegSide p s (f u x)) : RegSide p s (l.foldl f t) :=
  List.foldlRecOn l f h fun u hu x _ => hf u x hu

theorem ite {c : Prop} [Decidable c] (h : RegSide p s t) (k : RegSide p s u) : RegSide p s (if c then t else u) := by
  split
  · exact h
  · exact k

theorem rd (h : RegSide p s t) {a : Nat} (ha : ¬ p a) : t.rd a = s.rd a := by obtain ⟨_, _, h⟩ := h; exact h a ha
theorem rn (h : RegSide p s t) {a : Nat} (ha : ¬ p a) : t.rn a = s.rn a := congrArg _ (h.rd ha)

theorem regsBut {l : List Nat} (h : RegSide (· ∈ l) s t) : RegsBut l s t := fun _ ha => h.rd ha

theorem hold (h : RegSide p s t) : t.hold = s.hold := by obtain ⟨_, rfl, _⟩ := h; rfl
theorem sameHold (h : RegSide p s t) : SameHold s t := fun _ => by rw [State.holdByte, h.hold]; rfl
theorem pipe (h : RegSide p s t) : t.pipe = s.pipe := by obtain ⟨_, rfl, _⟩ := h; rfl
theorem time (h : RegSide p s t) : t.time = s.time := by obtain ⟨_, rfl, _⟩ := h; rfl

end RegSide

/-- What each step of a fold leaves as it was, the fold leaves so. -/
theorem foldl_keeps {α β : Type} (π : State → β) {f : State → α → State} (hf : ∀ u x, π (f u x) = π u) (l : List α)
    (s : State) : π (l.foldl f s) = π s :=
  List.foldlRecOn (motive := fun u => π u = π s) l f rfl fun u hu x _ => (hf u x).trans hu

theorem SameHold.refl (s : State) : SameHold s s := fun _ => rfl
theorem SameHold.trans {s t u : State} (h : SameHold s t) (k : SameHold t u) : SameHold s u :=
  fun a => (k a).trans (h a)

theorem sameHold_of_hold {s t : State} (h : t.hold = s.hold) : SameHold s t := fun _ => by
  rw [State.holdByte, h]; rfl

end Sys2Proof.Machine
end

section
/-! ### The frame pipeline: selection and composition (R24, R25, R134) -/

namespace Sys2Proof.Machine

/-- A receiver settled writes registers of the ingest block alone. -/
theorem State.rcvSettle_regSide (s : State) (i : Nat) : RegSide (fun _ => True) s (s.rcvSettle i) :=
  ((((RegSide.refl _ s).wrWords _ fun _ _ => trivial).wn _ trivial).wn _ trivial).wn _ trivial

theorem State.setRcv_keeps (s : State) (i : Nat) (r : Receiver) :
    (s.setRcv i r).hold = s.hold ∧ (s.setRcv i r).pipe = { s.pipe with receivers := tabSet s.pipe.receivers i r } := by
  have h := State.rcvSettle_regSide { s with pipe := { s.pipe with receivers := tabSet s.pipe.receivers i r } } i
  exact ⟨h.hold, h.pipe⟩

@[simp] theorem State.modRcv_hold (s : State) (i : Nat) (f : Receiver → Receiver) : (s.modRcv i f).hold = s.hold :=
  (s.setRcv_keeps i (f (s.rcv i))).1

@[simp] theorem State.modRcv_comp (s : State) (i : Nat) (f : Receiver → Receiver) : (s.modRcv i f).pipe.comp = s.pipe.comp := by
  rw [State.modRcv, (s.setRcv_keeps i (f (s.rcv i))).2]

theorem State.releaseBufs_hold (s : State) (i : Nat) : (s.releaseBufs i).hold = s.hold := by
  simp only [State.releaseBufs, State.modRcv_hold]

theorem State.releaseBufs_comp (s : State) (i : Nat) : (s.releaseBufs i).pipe.comp = s.pipe.comp := by
  simp only [State.releaseBufs, State.modRcv_comp]

theorem State.selectionPoint_due {s : State} {n : Nat} (hdue : s.selPoint n ≤ s.ns)
    (hfirst : notYet s.pipe.lastSel n = true) :
    (s.selectionPoint n).pipe.lastSel = some n
      ∧ (s.selectionPoint n).pipe.sel.any (fun j => j.tally == n && !j.done) = true := by
  have hnow : ¬ (s.ns < s.selPoint n ∨ notYet s.pipe.lastSel n = false) := by simp [hdue, hfirst]
  rw [State.selectionPoint, if_neg hnow]
  exact ⟨rfl, by simp [State.setPipe]⟩

/-- Composition that is due starts with the buffer and the coefficients in force. -/
theorem State.compStart_due {s : State} {j : CompJob} (hsel : s.pipe.sel = some j) (hdue : s.compPoint j.tally ≤ s.ns)
    (hreset : s.inReset .compositor = false) (hquiet : s.quietFor j.tally = false) (hcomp : s.pipe.comp = none) :
    s.compStart j.tally = s.setPipe fun p => { p with
      comp := some { j with buf := (if s.chase then 0 else 1 - p.front), coefs := p.coefs } } := by
  simp only [State.compStart, hsel]
  exact if_neg (by simp [hdue, hreset, hquiet, hcomp])

/-- Composition that ends writes its canvas into its buffer. -/
theorem State.compFinish_running {s : State} {j : CompJob} (hcomp : s.pipe.comp = some j) (hdone : j.done = false)
    (hreset : s.inReset .compositor = false) :
    s.compFinish.pipe.comp = some { j with done := true }
      ∧ s.compFinish.hold = (s.writeHold (s.frameBuf j.buf) (s.canvasBytes j)).hold := by
  simp only [State.compFinish, hcomp]
  rw [if_neg (by simp [hdone, hreset])]
  exact ⟨(foldl_keeps (fun u => u.pipe.comp) State.releaseBufs_comp _ _).trans rfl,
    (foldl_keeps (fun u => u.hold) State.releaseBufs_hold _ _).trans rfl⟩

/-- Settles O16: each of the three commands is due and does its one thing. -/
theorem selectionAndComposition : Obligations.SelectionAndComposition := by
  intro dt n j s hcore
  refine ⟨fun hdue hfirst => ?select, fun hsel hj hdue hreset hquiet hcomp => ?start, fun hcomp hdone hreset => ?finish⟩
  case select => exact completes_act (f := fun s => s.selectionPoint n) rfl hcore (State.selectionPoint_due hdue hfirst)
  case start =>
    subst hj
    refine completes_act (f := fun s => s.compStart j.tally) rfl hcore ?_
    rw [acted_pipe, sameRegs_acted, sameHold_acted,
      State.compStart_due (s := s.advance dt) hsel hdue hreset hquiet hcomp]
    exact ⟨rfl, fun _ => rfl, fun _ => rfl⟩
  case finish =>
    obtain ⟨hend, hhold⟩ := State.compFinish_running (s := s.advance dt) hcomp hdone hreset
    refine completes_act (f := State.compFinish) rfl hcore ⟨hend, fun b => ?_⟩
    rw [holdByte_acted, State.holdByte, hhold]
    exact State.holdByte_writeHold ..

end Sys2Proof.Machine
end

section
/-! ### The buffer swap (R24, R134) -/

namespace Sys2Proof.Machine

@[simp] theorem State.setPipe_pipe (s : State) (f : PipeState → PipeState) : (s.setPipe f).pipe = f s.pipe := rfl
@[simp] theorem State.setPipe_hold (s : State) (f : PipeState → PipeState) : (s.setPipe f).hold = s.hold := rfl
@[simp] theorem State.rd_setPipe (s : State) (f : PipeState → PipeState) (a : Nat) : (s.setPipe f).rd a = s.rd a := rfl
@[simp] theorem State.pair_setPipe (s : State) (f : PipeState → PipeState) (a : Nat) : (s.setPipe f).pair a = s.pair a := rfl

theorem FaultSide.pair {s t : State} (h : FaultSide s t) {a : Nat} (hlow : faultReg a = false)
    (hhigh : faultReg (a + 4) = false) : t.pair a = s.pair a := by
  rw [State.pair, State.pair, h.rn hlow, h.rn hhigh]

theorem FaultSide.sameHold {s t : State} (h : FaultSide s t) : SameHold s t := sameHold_of_hold h.hold

/-- A counter outside the fault block leaves the reactions of its detectors. -/
theorem State.logOnly_bump (s : State) {a d : Nat} (ha : a + 4 < Reg.FLT_DET_CFG 0) :
    (s.bump a).logOnly d = s.logOnly d := by
  have hdet : ∀ b, b ≤ a + 4 → Reg.FLT_DET_CFG d ≠ b := by
    intro b hb
    simp only [Reg.FLT_DET_CFG] at ha ⊢
    omega
  rw [State.logOnly, State.detReaction, State.fld, State.bump, State.bumpBy, State.setPair,
    State.rn_wn_ne _ _ (hdet _ (by omega)), State.rn_wn_ne _ _ (hdet _ (by omega))]
  rfl

/-- The history of repeats takes the tally; a fault of detector 65 that only logs stays on the fault side. -/
theorem State.overrun_faultSide (s : State) (hit : Bool) (h : hit = true → s.logOnly 65 = true) :
    FaultSide (s.setPipe fun p => { p with overrunHist := (hit :: p.overrunHist).take 256 }) (s.overrun hit) := by
  unfold State.overrun
  dsimp only
  split_ifs with _ htwice
  case pos => exact raiseOnce_faultSide _ 65 0 0 (h htwice.1)
  case neg => exact .refl _
  case neg => exact condClear_faultSide _ 65 0

/-- A swap that is due has its front buffer, its tally and the raster's state from whichever of the two it does. -/
theorem State.bufferSwap_due {s : State} {n : Nat} (hchase : s.chase = false) (hdue : s.rasterPoint n ≤ s.ns)
    (hfirst : notYet s.pipe.raster n = true) (hskip : s.skipped n = false) :
    s.bufferSwap n =
      (if (s.pipe.comp.any fun j => j.tally == n && j.done) = true then
        (s.setPipe fun p => { p with front := 1 - p.front, frontTally := some n }).overrun false
      else if s.quietFor n then s.overrun false
      else (((s.setPipe fun p => { p with comp := p.comp.filter fun j => decide (n < j.tally) }).bump
        Reg.COMP_REPEAT).raiseSec 64 0 n).overrun true).setPipe fun p =>
          { p with raster := some n, rasterOf := p.frontTally, aborted := false, blanking := false } := by
  rw [State.bufferSwap, if_neg (by simp [hchase, hdue, hfirst, hskip])]

/-- Settles O17: the swap takes the whole composition, or counts the repeat and leaves the front buffer. -/
theorem bufferSwap : Obligations.BufferSwap := by
  intro dt n j s hcore hchase hdue hfirst hskip
  have hswap := State.bufferSwap_due (s := s.advance dt) hchase hdue hfirst hskip
  refine ⟨fun hcomp hj hdone => ?whole, fun hcomp hquiet h64 h65 => ?again⟩
  case whole =>
    refine completes_act (f := fun s => s.bufferSwap n) rfl hcore ?_
    have hover := State.overrun_faultSide
      ((s.advance dt).setPipe fun p => { p with front := 1 - p.front, frontTally := some n }) false (by simp)
    rw [acted_pipe, sameHold_acted, hswap, if_pos (by simp [hcomp, hj, hdone]), State.setPipe_pipe, hover.pipe]
    exact ⟨rfl, rfl, rfl, rfl, hover.sameHold⟩
  case again =>
    refine completes_act (f := fun s => s.bufferSwap n) rfl hcore ?_
    have hquiet' : (s.advance dt).quietFor n = false := hquiet
    rw [acted_pipe, pair_acted, sameHold_acted, hswap, if_neg (by simp [hcomp]), if_neg (by simp [hquiet'])]
    have hraise := raiseSec_faultSide
      (((s.advance dt).setPipe fun p => { p with comp := p.comp.filter fun j => decide (n < j.tally) }).bump Reg.COMP_REPEAT)
      64 0 n ((State.logOnly_bump _ (by decide)).trans h64)
    have hover := State.overrun_faultSide _ true fun _ =>
      (hraise.logOnly 65 (by decide)).trans ((State.logOnly_bump _ (by decide)).trans h65)
    have hcount := (hover.pair (a := Reg.COMP_REPEAT) (by decide) (by decide)).trans
      (hraise.pair (a := Reg.COMP_REPEAT) (by decide) (by decide))
    rw [State.setPipe_pipe, State.pair_setPipe, hover.pipe, hcount, State.setPipe_pipe, hraise.pipe, State.bump_pipe,
      State.setPipe_pipe]
    exact ⟨State.pair_bumpBy _ _ 1, rfl, rfl, rfl, SameHold.trans hraise.sameHold hover.sameHold⟩

end Sys2Proof.Machine
end

section
/-! ### A command whose effect is known -/

namespace Sys2Proof.Machine

/-- A command ends as its effect says, once that effect is computed. -/
theorem completes_eq {c : Instr} {dt : Nat} {s u : State} {f : State → State} {P : State → Prop}
    (hc : exec c s = act dt s f) (h : s.watch.core = true) (hf : f (s.advance dt) = u) (hp : P (acted dt s fun _ => u)) :
    Completes c s P :=
  completes_act hc h (by subst hf; exact hp)

/-- The same for a command that a requester asked for. -/
theorem completes_askedEq {c : Instr} {dt : Nat} {req : Requester} {s u : State} {f : State → State} {P : State → Prop}
    (hc : exec c s = actBy dt req s f) (h : s.watch.core = true) (hf : (s.advance dt).asking req f = u)
    (hp : P (acted dt s fun _ => u)) : Completes c s P :=
  completes_eq hc h hf hp

end Sys2Proof.Machine
end
section
/-! ### Timing pins (R69 to R71) -/

namespace Sys2Proof.Machine

variable {s : State} {k : Nat}

@[simp] theorem State.tpin_modTpin (s : State) (k : Nat) (f : Tpin → Tpin) : (s.modTpin k f).tpin k = f (s.tpin k) := by
  simp [State.tpin, State.modTpin, tabMod, tabGetD]

@[simp] theorem State.tpin_wn (s : State) (a n k : Nat) : (s.wn a n).tpin k = s.tpin k := rfl

variable {t : Nat} {req : Requester} {hi : Word}

/-- R526: with no low word waiting the high word is written alone; what AT then reads is taken when it is a ledger time. -/
theorem State.tpinArm_time (hm : s.fld (Reg.TIME_TPIN_CTRL k) 2 0 = 4)
    (hlow : takeKey s.pairLow req (Reg.TIME_TPIN_AT k) = none) (ht : s.rn (Reg.TIME_TPIN_AT k) + 2 ^ 32 * hi.toNat = t)
    (hok : ledgerOk t = true) :
    s.tpinArm req k hi.toNat =
      if ofLedger t < s.ns then
        (s.wn (Reg.TIME_TPIN_AT k + 4) hi.toNat).modTpin k fun p => { p with armed := none, next := none, missed := true }
      else (s.wn (Reg.TIME_TPIN_AT k + 4) hi.toNat).modTpin k fun p =>
        if ((s.armedPulse k 4).any fun a => decide (s.ns ≤ a ∧ a < s.ns + 1000)) = true then
          { p with next := some (ofLedger t), missed := false }
        else { p with armed := some (ofLedger t), next := none, missed := false } := by
  have hpair : (s.wn (Reg.TIME_TPIN_AT k + 4) hi.toNat).pair (Reg.TIME_TPIN_AT k) = t := by
    rw [State.pair, State.rn_wn_ne _ _ (by omega), State.rn_wn_self, Nat.mod_eq_of_lt hi.isLt, ← ht]
  have hctrl : (s.wn (Reg.TIME_TPIN_AT k + 4) hi.toNat).fld (Reg.TIME_TPIN_CTRL k) 2 0 = 4 := by
    rw [State.fld, State.rn_wn_ne _ _ (by simp only [Reg.TIME_TPIN_CTRL, Reg.TIME_TPIN_AT]; omega)]
    exact hm
  have htake : s.pairTake req (Reg.TIME_TPIN_AT k) = s := by rw [State.pairTake, hlow]
  have hns : (s.wn (Reg.TIME_TPIN_AT k + 4) hi.toNat).ns = s.ns := rfl
  have harmed : (s.wn (Reg.TIME_TPIN_AT k + 4) hi.toNat).armedPulse k 4 = s.armedPulse k 4 := by
    simp [State.armedPulse]
  rw [State.tpinArm, htake]
  dsimp only
  rw [hpair, hctrl, hns, harmed, if_neg (by decide), if_neg (by simp [hok])]

/-- A mode is written alone, but for the pin's level when its polarity or its mode is new. -/
theorem State.tpinCtrl_mode {v : Nat} (h7 : bits v 2 0 ≠ 7) :
    (s.tpinCtrl req k v).regs = (s.wn (Reg.TIME_TPIN_CTRL k) (bits v 3 0)).regs
      ∧ (s.tpinCtrl req k v).hold = s.hold := by
  rw [State.tpinCtrl, if_neg h7]
  dsimp only
  split_ifs <;> exact ⟨rfl, rfl⟩

/-- A pin without a pulse under way has no edge to end. -/
theorem State.tpinFall_none (hu : (s.tpin k).until_ = none) : s.tpinFall k = s := by rw [State.tpinFall, hu]

theorem State.tpinEdges_periodic {a : Nat} (hm : s.fld (Reg.TIME_TPIN_CTRL k) 2 0 = 5) (ha : (s.tpin k).armed = some a)
    (hu : (s.tpin k).until_ = none) (hd : a ≤ s.ns) :
    s.tpinEdges k = s.tpinRise k a fun p =>
      { p with armed := some (p.next.getD (a + s.rn (Reg.TIME_TPIN_PERIOD k))), next := none } := by
  have harmed : s.armedPulse k 5 = some a := by simp [State.armedPulse, ha]
  rw [State.tpinEdges, State.tpinFall_none hu, hm, harmed]
  simp [hd.not_gt]

theorem State.tpinEdges_fall {a : Nat} (ha : (s.tpin k).armed = none) (hu : (s.tpin k).until_ = some a) (hd : a ≤ s.ns) :
    s.tpinEdges k = (s.modTpin k fun p => { p with until_ := none }).tpinDrive k false := by
  have hfall : s.tpinFall k = (s.modTpin k fun p => { p with until_ := none }).tpinDrive k false := by
    rw [State.tpinFall, hu]
    exact if_pos hd
  have harmed : ∀ m, ((s.modTpin k fun p => { p with until_ := none }).tpinDrive k false).armedPulse k m = none := by
    intro m
    have : (((s.modTpin k fun p => { p with until_ := none }).tpinDrive k false).tpin k).armed = none :=
      (congrArg Tpin.armed (s.tpin_modTpin k _)).trans ha
    simp [State.armedPulse, this]
  rw [State.tpinEdges, hfall, harmed]

theorem State.tpinTiming_width {v : Nat} (hlo : 20 ≤ v) (hhi : v ≤ 500000000) :
    s.tpinTiming req k true v = s.wn (Reg.TIME_TPIN_WIDTH k) v := by
  simp [State.tpinTiming, hlo, hhi]

theorem State.tpinTiming_period {v : Nat} (hlo : 1000 ≤ v) (hhi : v ≤ 1000000000) :
    s.tpinTiming req k false v = s.wn (Reg.TIME_TPIN_PERIOD k) v := by
  simp [State.tpinTiming, hlo, hhi]

/-- A width or a period below 20 ns or above 1 s is out of both ranges. -/
theorem State.tpinTiming_outOfRange {v : Nat} (w : Bool) (h : v < 20 ∨ 1000000000 < v) :
    s.tpinTiming req k w v =
      s.accErr req (if w then Reg.TIME_TPIN_WIDTH k else Reg.TIME_TPIN_PERIOD k) true false := by
  have hwidth : ¬ (20 ≤ v ∧ v ≤ 500000000) := by omega
  have hperiod : ¬ (1000 ≤ v ∧ v ≤ 1000000000) := by omega
  cases w
  · simp [State.tpinTiming, hperiod]
  · simp [State.tpinTiming, hwidth]

end Sys2Proof.Machine
end
section
namespace Sys2Proof.Machine

/-- Settles O27: each command of a pin does what its register or its time says. -/
theorem timingPins : Obligations.TimingPins := by
  intro dt a req k v w rising s hcore
  refine ⟨fun hm hl hc => ?stamped, fun hm hl hc => ?lost, ?capRead, fun hm hlow ha hok hd => ?armed,
    fun hm hlow hok hd => ?missed, fun h7 => ?mode, fun h7 => ?mode7, fun hlo hhi => ?width, fun hlo hhi => ?period,
    fun h => ?outOfRange, fun hm ha hn hu hd => ?rise, fun ha hu hd => ?fall⟩
  case stamped =>
    have hm' : (s.advance dt).fld (Reg.TIME_TPIN_CTRL k) 2 0 = 3 := hm
    have hl' : ((s.advance dt).tpin k).lastEdge = none := hl
    refine completes_eq rfl hcore ((if_pos (by simp [hm', hl'])).trans (if_pos hc)) ?_
    exact ⟨congrArg Tpin.caps (State.tpin_modTpin ..), congrArg Tpin.lostRun (State.tpin_modTpin ..), fun _ => rfl, fun _ => rfl⟩
  case lost =>
    have hm' : (s.advance dt).fld (Reg.TIME_TPIN_CTRL k) 2 0 = 3 := hm
    have hl' : ((s.advance dt).tpin k).lastEdge = none := hl
    refine completes_eq rfl hcore ((if_pos (by simp [hm', hl'])).trans (if_neg (Nat.not_lt.mpr hc.ge))) ?_
    exact ⟨(congrArg Tpin.caps (State.tpin_modTpin ..)).trans rfl, congrArg Tpin.lostRun (State.tpin_modTpin ..), fun _ => rfl, fun _ => rfl⟩
  case capRead =>
    refine completes_eq rfl hcore rfl ?_
    exact ⟨congrArg Tpin.caps (State.tpin_modTpin ..), rfl, fun _ => rfl, fun _ => rfl⟩
  case armed =>
    refine completes_eq rfl hcore ((State.tpinArm_time (s := s.advance dt) hm hlow rfl hok).trans (if_neg hd.not_gt)) ?_
    have hidle : (s.advance dt).armedPulse k 4 = none := congrArg (Option.map _) ha
    rw [hidle]
    exact ⟨congrArg Tpin.armed (State.tpin_modTpin ..), congrArg Tpin.missed (State.tpin_modTpin ..),
      State.rd_wn_toNat .., State.regsBut_wn s _ _, fun _ => rfl⟩
  case missed =>
    refine completes_eq rfl hcore ((State.tpinArm_time (s := s.advance dt) hm hlow rfl hok).trans (if_pos hd)) ?_
    exact ⟨congrArg Tpin.armed (State.tpin_modTpin ..), congrArg Tpin.missed (State.tpin_modTpin ..),
      State.regsBut_wn s _ _, fun _ => rfl⟩
  case mode =>
    obtain ⟨hregs, hhold⟩ := State.tpinCtrl_mode (s := s.advance dt) (k := k) (req := req) h7
    refine completes_eq rfl hcore rfl ?_
    have hrd : ∀ b, ((s.advance dt).tpinCtrl req k v.toNat).rd b = (s.wn (Reg.TIME_TPIN_CTRL k) (bits v.toNat 3 0)).rd b :=
      fun b => by rw [State.rd, hregs]; rfl
    refine ⟨?_, fun b hb => (hrd b).trans (State.regsBut_wn s _ _ b hb), sameHold_of_hold hhold⟩
    refine (congrArg BitVec.toNat (hrd _)).trans ((State.rn_wn_self ..).trans (Nat.mod_eq_of_lt ?_))
    simp only [bits]
    omega
  case mode7 =>
    refine completes_eq rfl hcore (if_pos h7) ?_
    refine ⟨State.pair_accErr .., rfl, State.regsBut_accErr s req _ true false _ ?_, fun _ => rfl⟩
    simp only [Reg.TIME_TPIN_CTRL, List.mem_cons, List.not_mem_nil, or_false]
    decide +revert
  case width =>
    refine completes_eq rfl hcore (State.tpinTiming_width hlo hhi) ?_
    exact ⟨State.rd_wn_toNat .., State.regsBut_wn s _ _, fun _ => rfl⟩
  case period =>
    refine completes_eq rfl hcore (State.tpinTiming_period hlo hhi) ?_
    exact ⟨State.rd_wn_toNat .., State.regsBut_wn s _ _, fun _ => rfl⟩
  case outOfRange =>
    refine completes_eq rfl hcore (State.tpinTiming_outOfRange w h) ?_
    exact ⟨State.pair_accErr .., State.regsBut_accErr s req _ true false, fun _ => rfl⟩
  case rise =>
    have hnext : ((s.advance dt).tpin k).next = none := hn
    refine completes_eq rfl hcore (State.tpinEdges_periodic (s := s.advance dt) hm ha hu hd) ?_
    refine ⟨?_, ?_, congrArg Tpin.until_ (State.tpin_modTpin ..), fun _ => rfl, fun _ => rfl⟩
    · show Output.pin "TPIN" k (true != _) :: _ = _
      rw [Bool.true_bne]
      rfl
    · refine (congrArg Tpin.armed (State.tpin_modTpin ..)).trans ?_
      dsimp only
      rw [hnext]
      rfl
  case fall =>
    refine completes_eq rfl hcore (State.tpinEdges_fall (s := s.advance dt) ha hu hd) ?_
    refine ⟨?_, congrArg Tpin.until_ (State.tpin_modTpin ..), fun _ => rfl, fun _ => rfl⟩
    · show Output.pin "TPIN" k (false != _) :: _ = _
      rw [Bool.false_bne]
      rfl

end Sys2Proof.Machine
end

section
/-! ### Fields of a word -/

namespace Sys2Proof.Machine

theorem testBit_bits (x hi lo i : Nat) : (bits x hi lo).testBit i = (decide (i < hi + 1 - lo) && x.testBit (lo + i)) := by
  rw [bits, Nat.testBit_mod_two_pow, Nat.testBit_div_two_pow, Nat.add_comm i lo]

theorem testBit_putBits {x hi lo v : Nat} (i : Nat) (h : lo ≤ hi) :
    (putBits x hi lo v).testBit i = if i < lo ∨ hi < i then x.testBit i else v.testBit (i - lo) := by
  have hsum : putBits x hi lo v
      = 2 ^ lo * (2 ^ (hi + 1 - lo) * (x / 2 ^ (hi + 1)) + v % 2 ^ (hi + 1 - lo)) + x % 2 ^ lo := by
    have hp : 2 ^ (hi + 1) = 2 ^ lo * 2 ^ (hi + 1 - lo) := by rw [← pow_add]; congr 1; omega
    rw [putBits]
    nth_rewrite 2 [hp]
    ring
  rw [hsum, Nat.testBit_two_pow_mul_add _ (Nat.mod_lt _ (by positivity))]
  split_ifs with hlow hout hout
  · simp [hlow]
  · omega
  · rw [Nat.testBit_two_pow_mul_add _ (Nat.mod_lt _ (by positivity)), if_neg (by omega), Nat.testBit_div_two_pow]
    congr 1
    omega
  · rw [Nat.testBit_two_pow_mul_add _ (Nat.mod_lt _ (by positivity)), if_pos (by omega), Nat.testBit_mod_two_pow]
    simp only [show i - lo < hi + 1 - lo by omega, decide_true, Bool.true_and]

theorem putBits_lt {x hi lo v : Nat} (h : lo ≤ hi) (hw : hi < 32) (hx : x < 2 ^ 32) : putBits x hi lo v < 2 ^ 32 := by
  refine Nat.lt_pow_two_of_testBit _ fun i hi => ?_
  rw [testBit_putBits i h, if_pos (by omega)]
  exact Nat.testBit_lt_two_pow (Nat.lt_of_lt_of_le hx (Nat.pow_le_pow_right (by decide) hi))

/-- A field beside the one written reads as before. -/
theorem bits_putBits_ne {x hi lo v hi' lo' : Nat} (h : lo ≤ hi) (hne : hi' < lo ∨ hi < lo') :
    bits (putBits x hi lo v) hi' lo' = bits x hi' lo' := by
  refine Nat.eq_of_testBit_eq fun i => ?_
  rw [testBit_bits, testBit_bits, testBit_putBits _ h]
  by_cases hin : i < hi' + 1 - lo'
  · rw [if_pos (by omega)]
  · simp [hin]

theorem State.rn_setFld_self (s : State) {a hi lo v : Nat} (h : lo ≤ hi) (hw : hi < 32) :
    (s.setFld a hi lo v).rn a = putBits (s.rn a) hi lo v := by
  rw [State.setFld, State.rn_wn_self, Nat.mod_eq_of_lt (putBits_lt h hw (s.rn_lt a))]

/-- A field reads as it was written. -/
theorem State.fld_setFld_same (s : State) {a hi lo v : Nat} (h : lo ≤ hi) (hw : hi < 32) :
    (s.setFld a hi lo v).fld a hi lo = v % 2 ^ (hi + 1 - lo) := by
  rw [State.fld, s.rn_setFld_self h hw, bits_putBits _ _ _ _ h]

theorem State.fld_setFld_fits (s : State) {a hi lo v : Nat} (h : lo ≤ hi) (hw : hi < 32) (hv : v < 2 ^ (hi + 1 - lo)) :
    (s.setFld a hi lo v).fld a hi lo = v := by
  rw [s.fld_setFld_same h hw, Nat.mod_eq_of_lt hv]

theorem State.fld_setFld_beside (s : State) {a hi lo v hi' lo' : Nat} (h : lo ≤ hi) (hw : hi < 32)
    (hne : hi' < lo ∨ hi < lo') : (s.setFld a hi lo v).fld a hi' lo' = s.fld a hi' lo' := by
  rw [State.fld, s.rn_setFld_self h hw, bits_putBits_ne h hne]
  rfl

theorem State.fld_setFld_ne (s : State) {a b : Nat} (hi lo v hi' lo' : Nat) (h : b ≠ a) :
    (s.setFld a hi lo v).fld b hi' lo' = s.fld b hi' lo' := by
  rw [State.fld, State.setFld, State.rn_wn_ne _ _ h]
  rfl

theorem State.fld_wn_ne (s : State) {a b : Nat} (n hi lo : Nat) (h : b ≠ a) : (s.wn a n).fld b hi lo = s.fld b hi lo := by
  rw [State.fld, State.rn_wn_ne _ _ h]
  rfl

theorem bits_lt (x hi lo : Nat) : bits x hi lo < 2 ^ (hi + 1 - lo) := Nat.mod_lt _ (by positivity)

/-- Words written one after another: each address past the first word's is left by it. -/
theorem State.rd_wrWords_below (s : State) {a b : Nat} (ws : List Nat) (h : b < a) : (s.wrWords a ws).rd b = s.rd b := by
  induction ws generalizing s a with
  | nil => rfl
  | cons w ws ih => exact (ih (s.wn a w) (by omega)).trans (s.rd_wr_ne _ (by omega))

theorem State.rn_wrWords (s : State) {a i : Nat} (ws : List Nat) (h : i < ws.length) :
    (s.wrWords a ws).rn (a + 4 * i) = ws.getD i 0 % 2 ^ 32 := by
  induction ws generalizing s a i with
  | nil => simp at h
  | cons w ws ih =>
    cases i with
    | zero =>
      rw [State.wrWords, State.rn, State.rd_wrWords_below _ _ (by omega)]
      exact s.rn_wn_self a w
    | succ i =>
      have := ih (s.wn a w) (a := a + 4) (i := i) (by simpa using h)
      rw [State.wrWords, show a + 4 * (i + 1) = a + 4 + 4 * i by ring, this]
      rfl

end Sys2Proof.Machine
end
section
/-! ### What is no register stays -/

namespace Sys2Proof.Machine.RegSide

variable {p : Nat → Prop} {s t : State}

theorem scan (h : RegSide p s t) : t.scan = s.scan := by obtain ⟨_, rfl, _⟩ := h; rfl
theorem tiles (h : RegSide p s t) : t.tiles = s.tiles := by obtain ⟨_, rfl, _⟩ := h; rfl
theorem cal (h : RegSide p s t) : t.cal = s.cal := by obtain ⟨_, rfl, _⟩ := h; rfl
theorem lanes (h : RegSide p s t) : t.lanes = s.lanes := by obtain ⟨_, rfl, _⟩ := h; rfl
theorem slk (h : RegSide p s t) : t.slk = s.slk := by obtain ⟨_, rfl, _⟩ := h; rfl
theorem phy (h : RegSide p s t) : t.phy = s.phy := by obtain ⟨_, rfl, _⟩ := h; rfl
theorem twin (h : RegSide p s t) : t.twin = s.twin := by obtain ⟨_, rfl, _⟩ := h; rfl
theorem out (h : RegSide p s t) : t.out = s.out := by obtain ⟨_, rfl, _⟩ := h; rfl
theorem events (h : RegSide p s t) : t.events = s.events := by obtain ⟨_, rfl, _⟩ := h; rfl
theorem flt (h : RegSide p s t) : t.flt = s.flt := by obtain ⟨_, rfl, _⟩ := h; rfl
theorem watch (h : RegSide p s t) : t.watch = s.watch := by obtain ⟨_, rfl, _⟩ := h; rfl
theorem nvm (h : RegSide p s t) : t.nvm = s.nvm := by obtain ⟨_, rfl, _⟩ := h; rfl
theorem berths (h : RegSide p s t) : t.berths = s.berths := by obtain ⟨_, rfl, _⟩ := h; rfl
theorem macs (h : RegSide p s t) : t.macs = s.macs := by obtain ⟨_, rfl, _⟩ := h; rfl
theorem cues (h : RegSide p s t) : t.cues = s.cues := by obtain ⟨_, rfl, _⟩ := h; rfl
theorem ferry (h : RegSide p s t) : t.ferry = s.ferry := by obtain ⟨_, rfl, _⟩ := h; rfl
theorem pier (h : RegSide p s t) : t.pier = s.pier := by obtain ⟨_, rfl, _⟩ := h; rfl
theorem fixture (h : RegSide p s t) : t.fixture = s.fixture := by obtain ⟨_, rfl, _⟩ := h; rfl
theorem lamp (h : RegSide p s t) : t.lamp = s.lamp := by obtain ⟨_, rfl, _⟩ := h; rfl
theorem rsv (h : RegSide p s t) : t.rsv = s.rsv := by obtain ⟨_, rfl, _⟩ := h; rfl
theorem asker (h : RegSide p s t) : t.asker = s.asker := by obtain ⟨_, rfl, _⟩ := h; rfl

end Sys2Proof.Machine.RegSide

namespace Sys2Proof.Machine

theorem State.wrWords_regSide (s : State) (a : Nat) (ws : List Nat) : RegSide (fun _ => True) s (s.wrWords a ws) :=
  RegSide.wrWords (.refl _ s) ws fun _ _ => trivial

theorem RegsBut.setFld {l : List Nat} {s t : State} {a : Nat} (h : RegsBut l s t) (ha : a ∈ l) (hi lo v : Nat) :
    RegsBut l s (t.setFld a hi lo v) := h.wn ha _

end Sys2Proof.Machine
end
section
/-! ### Commits by a requester (R123, R128) -/

namespace Sys2Proof.Machine

/-- The state in which what a requester asked for is performed. -/
def State.asked (s : State) (req : Requester) : State := { s with asker := s.asker <|> some ⟨req, s.time.led⟩ }

/-- What a requester asked for ends as its effect on that state says. -/
theorem completes_asked {c : Instr} {dt : Nat} {req : Requester} {s u : State} {f : State → State} {P : State → Prop}
    (hc : exec c s = actBy dt req s f) (h : s.watch.core = true) (hf : f ((s.advance dt).asked req) = u)
    (hp : P (acted dt s fun _ => u)) : Completes c s P :=
  completes_act hc h (by subst hf; exact hp)

/-- A request that is performed at once bears the ledger time of its performance. -/
theorem State.stamp16_asked {s : State} (req : Requester) (h : s.asker = none) : (s.asked req).stamp16 = s.stamp16 := by
  simp [State.asked, State.stamp16, State.arrived, h]

/-- A commit joins the queue with its stamp. -/
theorem State.submit_last (s : State) (k : CommitKind) (fillDone : Bool) (cue : Option Nat) :
    ((s.submit k fillDone cue).pipe.commits.getLast?.map fun c => (c.stamp, c.kind)) = some (s.stamp16, k) := by
  simp [State.submit]

/-- The commit that a requester's command makes bears the time of the command. -/
theorem State.submit_asked {s u : State} (req : Requester) (k : CommitKind) (h : s.asker = none)
    (hu : u.stamp16 = (s.asked req).stamp16) (fillDone : Bool) (cue : Option Nat) :
    ((u.submit k fillDone cue).pipe.commits.getLast?.map fun c => (c.stamp, c.kind)) = some (s.stamp16, k) := by
  rw [State.submit_last, hu, State.stamp16_asked req h]

theorem regsBut_submitted {l : List Nat} {s t : State} {dt : Nat} {k : CommitKind} {fillDone : Bool} {cue : Option Nat} :
    RegsBut l s (acted dt s fun _ => t.submit k fillDone cue) ↔ RegsBut l s t := Iff.rfl

theorem regsBut_asked {l : List Nat} (s : State) (dt : Nat) (req : Requester) : RegsBut l s ((s.advance dt).asked req) :=
  fun _ _ => rfl

@[simp] theorem State.rn_submit (s : State) (k : CommitKind) (fillDone : Bool) (cue : Option Nat) (a : Nat) :
    (s.submit k fillDone cue).rn a = s.rn a := rfl

@[simp] theorem State.fld_submit (s : State) (k : CommitKind) (fillDone : Bool) (cue : Option Nat) (a hi lo : Nat) :
    (s.submit k fillDone cue).fld a hi lo = s.fld a hi lo := rfl

theorem State.submit_length (s : State) (k : CommitKind) (fillDone : Bool) (cue : Option Nat) :
    (s.submit k fillDone cue).pipe.commits.length = s.pipe.commits.length + 1 := by
  simp [State.submit]

end Sys2Proof.Machine
end
section
/-! ### Commits of the tile map, chains, sub-frames and hold (R168, R177, R184) -/

namespace Sys2Proof.Machine

/-- Settles O34: each write is a commit stamped at its time, or is ignored. -/
theorem scanCommits : Obligations.ScanCommits := by
  intro dt req l v s hcore hask
  have hask' : (s.advance dt).asker = none := hask
  refine ⟨fun hp => ?select, fun hp => ?pending, ?map, ?link, fun hlo hhi => ?subframe, fun h => ?noSubframe,
    fun hl hh => ?ctrl, fun h => ?ctrlRange⟩
  case select =>
    refine completes_eq rfl hcore (if_neg (by simpa using hp)) ?_
    have hside := State.wrWords_regSide ((s.advance dt).wn Reg.SCAN_MAP_SEL (bits v.toNat 10 0)) (Reg.SCAN_MAP_WIN 0)
      ((List.range 8).map fun i => ((s.advance dt).mapWords (bits v.toNat 10 0)).getD i 0)
    refine ⟨?_, fun x => ?_, hside.scan, hside.sameHold⟩
    · rw [rn_acted, State.rn, State.rd_wrWords_below _ _ (by decide)]
      exact (State.rn_wn_self ..).trans (Nat.mod_eq_of_lt (Nat.lt_of_lt_of_le (bits_lt _ _ _) (by decide)))
    · have hx : Reg.SCAN_MAP_WIN x = Reg.SCAN_MAP_WIN 0 + 4 * x := by simp [Reg.SCAN_MAP_WIN]
      rw [rn_acted, hx, State.rn_wrWords _ _ (by simp)]
      simp [List.getD]
      rfl
  case pending =>
    refine completes_eq rfl hcore (if_pos hp) ?_
    exact ⟨State.pair_accErr .., State.regsBut_accErr s req _ true false, fun _ => rfl⟩
  case map =>
    refine completes_asked rfl hcore rfl ?_
    exact ⟨by rw [fld_acted, State.mapCommit, State.fld_submit, State.fld_setFld_fits _ (by decide) (by decide) (by decide)], State.submit_asked req _ hask' rfl _ _, rfl,
      regsBut_submitted.mpr ((regsBut_asked s dt req).setFld (by simp) _ _ _), fun _ => rfl⟩
  case link =>
    refine completes_asked rfl hcore rfl ?_
    have hne : Reg.SCAN_LINK_CFG l ≠ Reg.SCAN_MAP_STAT := by simp only [Reg.SCAN_LINK_CFG, Reg.SCAN_MAP_STAT]; omega
    refine ⟨?_, by rw [fld_acted, State.linkCfgWrite, State.fld_submit, State.fld_setFld_fits _ (by decide) (by decide) (by decide)], State.submit_asked req _ hask' rfl _ _, rfl,
      regsBut_submitted.mpr (((regsBut_asked s dt req).wn (by simp) _).setFld (by simp) _ _ _), fun _ => rfl⟩
    rw [rn_acted, State.linkCfgWrite, State.rn_submit, State.setFld, State.rn_wn_ne _ _ hne, State.rn_wn_self]
    refine Nat.mod_eq_of_lt ?_
    exact Nat.lt_of_lt_of_le (bits_lt _ _ _) (by decide)
  case subframe =>
    refine completes_asked rfl hcore (if_pos ⟨hlo, hhi⟩) ?_
    exact ⟨State.rd_wn_toNat .., rfl, State.submit_asked req _ hask' rfl _ _,
      regsBut_submitted.mpr ((regsBut_asked s dt req).wn (by simp) _), fun _ => rfl⟩
  case noSubframe =>
    refine completes_asked rfl hcore (if_neg (by omega)) ?_
    exact ⟨rfl, fun _ => rfl, fun _ => rfl⟩
  case ctrl =>
    refine completes_asked rfl hcore (if_neg (by omega)) ?_
    refine ⟨(State.rn_wn_self ..).trans (Nat.mod_eq_of_lt ?_), State.submit_length .., rfl,
      regsBut_submitted.mpr ((regsBut_asked s dt req).wn (by simp) _), fun _ => rfl⟩
    have h1 := bits_lt v.toNat 11 4
    have h2 := bits_lt v.toNat 24 13
    have h3 := (bit v.toNat 0).toNat_le
    norm_num at h1 h2 ⊢
    omega
  case ctrlRange =>
    refine completes_asked rfl hcore (if_pos h) ?_
    exact ⟨rfl, State.regsBut_accErr s req _ true false _ (by decide), State.pair_accErr .., fun _ => rfl⟩

end Sys2Proof.Machine
end

section
/-! ### Registers of sources (R101, R128) -/

namespace Sys2Proof.Machine

variable {s : State} {req : Requester} {i : Nat}

theorem State.clipStart_alone (hlow : takeKey s.pairLow req (Reg.ING_SRC_START i) = none) (hi : Nat) (cue : Option Nat) :
    s.clipStart req i hi cue =
      if ledgerOk (s.rn (Reg.ING_SRC_START i) + 2 ^ 32 * hi) = true then
        s.submit (.clipStart i (s.rn (Reg.ING_SRC_START i) + 2 ^ 32 * hi)) true cue
      else s := by
  have htake : s.pairTake req (Reg.ING_SRC_START i) = s := by rw [State.pairTake, hlow]
  rw [State.clipStart, htake]

/-- R101: a receiver in use keeps its configuration. -/
theorem State.srcCfgWrite_inUse (h : (s.rcv i).state ≠ 0) (v : Nat) (cue : Option Nat) :
    ∀ r ∈ [SrcReg.cfg, .size, .xfer, .p0Addr, .p0Port, .p1Addr, .p1Port, .pqPeak],
      ∃ a, s.srcCfgWrite req i r v cue = s.accErr req a true false := by
  have hbusy : ((s.rcv i).state != 0) = true := by simpa using h
  intro r hr
  cases r <;> simp only [State.srcCfgWrite, hbusy, if_true, List.mem_cons, List.not_mem_nil, reduceCtorEq, or_false] at hr ⊢ <;>
    exact ⟨_, rfl⟩

theorem State.srcCfgWrite_size (h : (s.rcv i).state = 0) (v : Nat) (cue : Option Nat) :
    s.srcCfgWrite req i .size v cue = s.setRcv i { s.rcv i with cfg := { (s.rcv i).cfg with size := v } } := by
  have hbusy : ((s.rcv i).state != 0) = false := by simpa using h
  simp only [State.srcCfgWrite, hbusy]
  rfl

theorem State.setRcv_pipe (s : State) (i : Nat) (r : Receiver) :
    (s.setRcv i r).pipe = { s.pipe with receivers := tabSet s.pipe.receivers i r } := (s.setRcv_keeps i r).2

@[simp] theorem State.rcv_setRcv (s : State) (i : Nat) (r : Receiver) : (s.setRcv i r).rcv i = r := by
  rw [State.rcv, State.setRcv_pipe]
  simp [tabGetD]

/-- The receiver's configuration words stand in its registers. -/
theorem State.rn_rcvSettle_size (s : State) (i : Nat) :
    (s.rcvSettle i).rn (Reg.ING_SRC_SIZE i) = (s.rcv i).cfg.size % 2 ^ 32 := by
  have hstate : Reg.ING_SRC_SIZE i ≠ Reg.ING_SRC_STATE i := by simp [Reg.ING_SRC_SIZE, Reg.ING_SRC_STATE]
  have hsize : Reg.ING_SRC_SIZE i ≠ Reg.ING_SRC_BUF_SIZE i := by simp [Reg.ING_SRC_SIZE, Reg.ING_SRC_BUF_SIZE]
  have hbase : Reg.ING_SRC_SIZE i ≠ Reg.ING_SRC_BUF_BASE i := by simp [Reg.ING_SRC_SIZE, Reg.ING_SRC_BUF_BASE]
  have hword : Reg.ING_SRC_SIZE i = Reg.ING_SRC_CFG i + 4 * 1 := by simp only [Reg.ING_SRC_SIZE, Reg.ING_SRC_CFG]; omega
  rw [State.rcvSettle]
  rw [State.rn_wn_ne _ _ hstate, State.rn_wn_ne _ _ hsize, State.rn_wn_ne _ _ hbase, hword,
    State.rn_wrWords _ _ (by simp)]
  rfl

theorem State.rn_setRcv_size (s : State) (i : Nat) (r : Receiver) :
    (s.setRcv i r).rn (Reg.ING_SRC_SIZE i) = r.cfg.size % 2 ^ 32 := by
  have hr : ({ s with pipe := { s.pipe with receivers := tabSet s.pipe.receivers i r } } : State).rcv i = r := by
    simp [State.rcv, tabGetD]
  rw [State.setRcv, State.rn_rcvSettle_size, hr]

@[simp] theorem rcv_acted (dt : Nat) (s : State) (f : State → State) (i : Nat) :
    (acted dt s f).rcv i = (f (s.advance dt)).rcv i := rfl

/-- Settles O30: a selection and a start are commits; a receiver in use keeps its configuration. -/
theorem sourceRegisters : Obligations.SourceRegisters := by
  intro dt req i sel v s hcore hask
  have hask' : (s.advance dt).asker = none := hask
  refine ⟨fun ht hd => ?still, fun ht hd => ?oneBuffer, fun hlow hok => ?clip, fun hlow hok => ?noLedger, fun hst => ?idle,
    fun hst r hr => ?inUse⟩
  case still =>
    have htwo : cfgDepth (((s.advance dt).asked req).rcv i).cfg = 2 := hd
    refine completes_asked rfl hcore (if_neg (by simp [htwo])) ?_
    exact ⟨State.submit_length .., State.submit_asked req _ hask' rfl _ _, fun _ => rfl, fun _ => rfl⟩
  case oneBuffer =>
    refine completes_asked rfl hcore (if_pos ⟨rfl, ht, hd⟩) ?_
    exact ⟨rfl, State.pair_accErr .., fun _ => rfl⟩
  case clip =>
    refine completes_asked rfl hcore
      ((State.clipStart_alone (s := (s.advance dt).asked req) hlow v.toNat none).trans (if_pos hok)) ?_
    exact ⟨State.submit_asked req _ hask' rfl _ _, fun _ => rfl, fun _ => rfl⟩
  case noLedger =>
    refine completes_asked rfl hcore ((State.clipStart_alone (s := (s.advance dt).asked req) hlow v.toNat none).trans
      (if_neg (Bool.eq_false_iff.mp hok))) ?_
    exact ⟨rfl, fun _ => rfl, fun _ => rfl⟩
  case idle =>
    refine completes_asked rfl hcore (State.srcCfgWrite_size (s := (s.advance dt).asked req) hst v.toNat none) ?_
    rw [rcv_acted, rd_acted, sameHold_acted, State.rcv_setRcv]
    refine ⟨rfl, BitVec.eq_of_toNat_eq ?_, sameHold_of_hold (State.setRcv_keeps ..).1⟩
    refine (State.rn_setRcv_size ..).trans ?_
    exact Nat.mod_eq_of_lt v.isLt
  case inUse =>
    obtain ⟨a, ha⟩ := State.srcCfgWrite_inUse (s := (s.advance dt).asked req) (req := req) hst v.toNat none r hr
    refine completes_asked rfl hcore ha ?_
    exact ⟨rfl, State.pair_accErr .., State.regsBut_accErr s req a true false, fun _ => rfl⟩

end Sys2Proof.Machine
end
section
/-! ### Commits of calibration, brightness and ambient input (R149, R155, R156) -/

namespace Sys2Proof.Machine

theorem State.startRamp_keeps (s : State) (g n k : Nat) :
    (s.startRamp g n k).hold = s.hold ∧ (s.startRamp g n k).pipe = s.pipe
      ∧ (∀ a, (s.startRamp g n k).rd a = (s.wn Reg.CAL_BRIGHT_EFF k).rd a)
      ∧ (s.startRamp g n k).cal.ambSecond = s.cal.ambSecond := ⟨rfl, rfl, fun _ => rfl, rfl⟩

/-- R156: a second's ambient value that moved the target by more than the dead band starts a ramp from the edge's tally. -/
theorem State.ambient_moved {s : State} {k : Nat} (hedge : s.pipe.edge = some k) (hon : bit (s.rn Reg.CAL_AMB_CFG) 0 = true)
    (hrole : s.role = 0) (hfirst : s.cal.ambSecond = none) (hsec : s.edge (k - 1) / 1000000000 < s.edge k / 1000000000)
    (hmoved : bits (s.rn Reg.CAL_AMB_CFG) 15 4 <
      absDiff (s.ambTarget (s.fld (Reg.WATCH_VAL (bits (s.rn Reg.CAL_AMB_CFG) 3 1)) 11 0)) (s.fld Reg.CAL_BRIGHT_TARGET 12 0)) :
    s.ambient =
      (({ s with cal := { s.cal with ambSecond := some (s.edge k / 1000000000) } } : State).wn Reg.CAL_BRIGHT_TARGET
        (s.ambTarget (s.fld (Reg.WATCH_VAL (bits (s.rn Reg.CAL_AMB_CFG) 3 1)) 11 0))).startRamp
        (s.ambTarget (s.fld (Reg.WATCH_VAL (bits (s.rn Reg.CAL_AMB_CFG) 3 1)) 11 0)) (bits (s.rn Reg.CAL_AMB_CFG) 31 16)
        (k + s.lag) := by
  have hgo : ¬ (!bit (s.rn Reg.CAL_AMB_CFG) 0 ∨ s.mirrored ∨ s.edge k / 1000000000 ≤ s.edge (k - 1) / 1000000000
      ∨ s.cal.ambSecond.any fun x => decide (s.edge k / 1000000000 ≤ x)) := by
    simp [hon, State.mirrored, hrole, hfirst, hsec]
  have hrole' : ∀ (u : State), u.rn Reg.TWIN_STAT = s.rn Reg.TWIN_STAT → ¬ u.role = 1 := by
    intro u hu
    rw [State.role, State.fld, hu]
    rw [State.role, State.fld] at hrole
    omega
  unfold State.ambient
  rw [hedge]
  refine (if_neg hgo).trans ((if_neg (Nat.not_le.mpr hmoved)).trans (if_neg (hrole' _ ?_)))
  rw [State.rn, (State.startRamp_keeps ..).2.2.1]
  exact (State.rn_wn_ne _ _ (by decide)).trans (State.rn_wn_ne _ _ (by decide))

/-- Settles O31: each write is a commit stamped at its time, or is ignored; the ambient input starts its ramp. -/
theorem calibrationCommits : Obligations.CalibrationCommits := by
  intro dt k req v s hcore hask
  have hask' : (s.advance dt).asker = none := hask
  refine ⟨?ctrl, fun hp hlen => ?select, fun hp => ?pending, ?bin, fun hle => ?bright, fun hgt => ?brightRange,
    fun hr => ?amb, fun hr hon => ?ambFalling, fun hedge hon hrole hfirst hsec hmoved => ?ambient⟩
  case ctrl =>
    refine completes_asked rfl hcore rfl ?_
    refine ⟨?_, State.submit_asked req _ hask' rfl _ _, rfl, regsBut_submitted.mpr ((regsBut_asked s dt req).wn (by simp) _),
      fun _ => rfl⟩
    rw [rn_acted, State.calCtrlWrite, State.rn_submit, State.rn_wn_self]
    exact Nat.mod_eq_of_lt (Nat.lt_of_lt_of_le (bits_lt _ _ _) (by decide))
  case select =>
    refine completes_eq rfl hcore (if_neg (by simpa using hp)) ?_
    have hside := State.wrWords_regSide ((s.advance dt).wn Reg.CAL_BIN_SEL (bits v.toNat 7 0)) (Reg.CAL_BIN_WIN 0)
      ((s.advance dt).bin (bits v.toNat 7 0))
    refine ⟨?_, fun x => ?_, hside.sameHold⟩
    · rw [rn_acted, State.rn, State.rd_wrWords_below _ _ (by decide)]
      exact (State.rn_wn_self ..).trans (Nat.mod_eq_of_lt (Nat.lt_of_lt_of_le (bits_lt _ _ _) (by decide)))
    · have hx : Reg.CAL_BIN_WIN x = Reg.CAL_BIN_WIN 0 + 4 * x := by simp [Reg.CAL_BIN_WIN]
      have hlen' : ((s.advance dt).bin (bits v.toNat 7 0)).length = 64 := hlen
      rw [rn_acted, hx, State.rn_wrWords _ _ (by omega)]
      rfl
  case pending =>
    refine completes_eq rfl hcore (if_pos hp) ?_
    exact ⟨State.pair_accErr .., State.regsBut_accErr s req _ true false, fun _ => rfl⟩
  case bin =>
    refine completes_asked rfl hcore rfl ?_
    refine ⟨?_, State.submit_asked req _ hask' rfl _ _, regsBut_submitted.mpr ((regsBut_asked s dt req).setFld (by simp) _ _ _),
      fun _ => rfl⟩
    rw [fld_acted, State.binCommit, State.fld_submit, State.fld_setFld_fits _ (by decide) (by decide) (by decide)]
  case bright =>
    refine completes_asked rfl hcore (if_neg (by omega)) ?_
    exact ⟨State.rd_wn_toNat .., State.submit_asked req _ hask' rfl _ _,
      regsBut_submitted.mpr ((regsBut_asked s dt req).wn (by simp) _), fun _ => rfl⟩
  case brightRange =>
    refine completes_asked rfl hcore (if_pos hgt) ?_
    exact ⟨rfl, State.regsBut_accErr s req _ true false _ (by decide), State.pair_accErr .., fun _ => rfl⟩
  case amb =>
    have hr' : (s.advance dt).ambRising = true := hr
    refine completes_eq rfl hcore (if_neg (by simp [hr'])) ?_
    exact ⟨State.rd_wn_toNat .., State.regsBut_wn s _ _, fun _ => rfl⟩
  case ambFalling =>
    refine completes_eq rfl hcore (if_pos ⟨hon, hr⟩) ?_
    exact ⟨State.regsBut_accErr s req _ true false _ (by decide), State.pair_accErr .., fun _ => rfl⟩
  case ambient =>
    refine completes_eq rfl hcore (State.ambient_moved (s := s.advance dt) hedge hon hrole hfirst hsec hmoved) ?_
    obtain ⟨hhold, -, hrd, hamb⟩ := State.startRamp_keeps
      (({ s.advance dt with cal := { s.cal with ambSecond := some (s.edge k / 1000000000) } } : State).wn Reg.CAL_BRIGHT_TARGET
        (s.ambTarget (s.fld (Reg.WATCH_VAL (bits (s.rn Reg.CAL_AMB_CFG) 3 1)) 11 0)))
      (s.ambTarget (s.fld (Reg.WATCH_VAL (bits (s.rn Reg.CAL_AMB_CFG) 3 1)) 11 0)) (bits (s.rn Reg.CAL_AMB_CFG) 31 16)
      (k + s.lag)
    refine ⟨?_, ?_, hamb, fun b hb => ?_, sameHold_of_hold hhold⟩
    · refine (congrArg BitVec.toNat (hrd _)).trans ((State.rn_wn_ne _ _ (by decide)).trans (State.rn_wn_self ..))
    · refine (congrArg BitVec.toNat (hrd _)).trans (State.rn_wn_self ..)
    · exact (hrd b).trans (((RegsBut.refl _ _).wn (a := Reg.CAL_BRIGHT_TARGET) (by simp) _).wn (a := Reg.CAL_BRIGHT_EFF) (by simp) _ b hb)

end Sys2Proof.Machine
end

section
/-! ### Commits of layers, masks and coefficients (R128, R136, R141) -/

namespace Sys2Proof.Machine

/-- A layer that is in order and has no mask commits its parameters at once. -/
theorem State.layerCommit_plain {s : State} {l : Nat} {p : Layer} (hok : layerOk p = true) (hsrc : s.layerSrcOk p = true)
    (hmask : lMaskEn p = false) (cue : Option Nat) :
    s.layerCommit l p cue =
      ((s.submit (.layer l { p with maskSel := (s.layerAhead l).maskSel, maskBase := 0, maskUnits := 0 } false) true cue).setFld
        (Reg.COMP_LAYER_STAT l) 2 0 1, 0) := by
  have hok' : ∀ a b c, layerOk { p with maskSel := a, maskBase := b, maskUnits := c } = true := fun _ _ _ => hok
  have hsrc' : ∀ a b c, s.layerSrcOk { p with maskSel := a, maskBase := b, maskUnits := c } = true := fun _ _ _ => hsrc
  have hmask' : ∀ a b c, lMaskEn { p with maskSel := a, maskBase := b, maskUnits := c } = false := fun _ _ _ => hmask
  unfold State.layerCommit
  simp only [hok', hsrc', masksAnew, hmask', hmask, Bool.false_and, Bool.not_true, Bool.or_self, Bool.false_eq_true, if_false]
  rfl

/-- A slot that a berth has taken commits the parameters in its registers. -/
theorem State.layerGo_owned {s : State} {l : Nat} (req : Requester) (how : (s.ownerOf 1 l).isSome = true) (cue : Option Nat) :
    s.layerGo req l cue = (s.layerCommit l (layerOf {} (s.rdWords (Reg.COMP_LAYER_SRC l) 8)) cue).1 :=
  if_neg (by rw [Option.isNone_iff_eq_none]; exact fun h => by simp [h] at how)

theorem State.maskSelWrite_owned {s : State} {l : Nat} (req : Requester) (sel : Bool) (how : (s.ownerOf 1 l).isSome = true)
    (cue : Option Nat) :
    s.maskSelWrite req l sel cue =
      ((s.wn (Reg.COMP_LAYER_MASK_CFG l) sel.toNat).submit (.maskSel l sel) true cue).setFld (Reg.COMP_LAYER_STAT l) 2 0 1 :=
  if_neg (by rw [Option.isNone_iff_eq_none]; exact fun h => by simp [h] at how)

theorem State.coefCommit_good {s : State} (h : coefBad (s.rdWords (Reg.COMP_COEF 0) 768) = none) (cue : Option Nat) :
    s.coefCommit cue = (s.wn Reg.COMP_COEF_STAT 1).submit (.coef (s.rdWords (Reg.COMP_COEF 0) 768)) true cue := by
  rw [State.coefCommit, h]

theorem State.coefCommit_bad {s : State} {n m : Nat} (h : coefBad (s.rdWords (Reg.COMP_COEF 0) 768) = some (n, m))
    (cue : Option Nat) :
    s.coefCommit cue = (s.wn Reg.COMP_COEF_STAT (s.fld Reg.COMP_COEF_STAT 0 0 + 2 + 4 * n + 16 * m)).bump Reg.COMP_REFUSED := by
  rw [State.coefCommit, h]

/-- The one commit of a slot whose masks are new: their bytes are all set, and it may latch. -/
theorem State.maskFilled_one {s : State} {c : Commit} {l : Nat} {p : Layer} {m : Bool} (hc : s.pipe.commits = [c])
    (hk : c.kind = .layer l p m) (hf : c.fillDone = false) :
    s.maskFilled l =
      (s.writeHold p.maskBase (List.replicate (2 * p.maskUnits * 65536) 0xFF#8)).setPipe fun q => { q with
        commits := [{ c with fillDone := true }] } := by
  simp [State.maskFilled, hc, hk, hf, State.setPipe]

theorem RegsBut.submit {a : List Nat} {s t : State} (h : RegsBut a s t) (k : CommitKind) (fillDone : Bool) (cue : Option Nat) :
    RegsBut a s (t.submit k fillDone cue) := h

/-- Settles O21: each commit joins the queue with its stamp; a bad sum is counted with its set and phase. -/
theorem compositorCommits : Obligations.CompositorCommits := by
  intro dt n m req l sel p c s hcore hask
  have hask' : (s.advance dt).asker = none := hask
  refine ⟨fun hp how hok hsrc hmask => ?layer, fun how => ?mask, fun hgood => ?coef, fun hbad hn hm => ?refused,
    fun hc hk hf => ?fill⟩
  case layer =>
    subst hp
    refine completes_asked rfl hcore ((State.layerGo_owned (s := (s.advance dt).asked req) req how none).trans
      (congrArg Prod.fst (State.layerCommit_plain (s := (s.advance dt).asked req) hok hsrc hmask none))) ?_
    rw [acted_pipe, fld_acted, State.setFld_pipe, State.fld_setFld_fits _ (by decide) (by decide) (by decide)]
    refine ⟨State.submit_length .., ?_, rfl, State.regsBut_wn s _ _, fun _ => rfl⟩
    rw [← State.stamp16_asked req hask']
    simp [State.submit]
  case mask =>
    refine completes_asked rfl hcore (State.maskSelWrite_owned (s := (s.advance dt).asked req) req sel how none) ?_
    have hne : Reg.COMP_LAYER_MASK_CFG l ≠ Reg.COMP_LAYER_STAT l := by
      simp [Reg.COMP_LAYER_MASK_CFG, Reg.COMP_LAYER_STAT]
    rw [acted_pipe, fld_acted, rn_acted, State.setFld_pipe, State.fld_setFld_fits _ (by decide) (by decide) (by decide),
      State.setFld, State.rn_wn_ne _ _ hne, State.rn_submit, State.rn_wn_self]
    refine ⟨State.submit_asked req _ hask' rfl _ _, ?_, rfl, ?_, fun _ => rfl⟩
    · cases sel <;> rfl
    · rw [regsBut_acted]
      exact (((regsBut_asked s dt req).wn (by simp) _).submit _ _ _).setFld (by simp) _ _ _
  case coef =>
    refine completes_asked rfl hcore (State.coefCommit_good (s := (s.advance dt).asked req) hgood none) ?_
    refine ⟨State.submit_asked req _ hask' rfl _ _, ?_, regsBut_submitted.mpr ((regsBut_asked s dt req).wn (by simp) _), fun _ => rfl⟩
    rw [rn_acted, State.rn_submit, State.rn_wn_self]
    rfl
  case refused =>
    refine completes_asked rfl hcore (State.coefCommit_bad (s := (s.advance dt).asked req) hbad none) ?_
    have hfld : s.fld Reg.COMP_COEF_STAT 0 0 < 2 := bits_lt _ _ _
    have hother : Reg.COMP_REFUSED ≠ Reg.COMP_COEF_STAT ∧ Reg.COMP_REFUSED + 4 ≠ Reg.COMP_COEF_STAT := by decide
    refine ⟨?_, ?_, rfl, ?_, fun _ => rfl⟩
    · rw [rn_acted, State.rn, State.bump, State.rd_bumpBy_ne _ _ hother.1.symm hother.2.symm]
      exact (State.rn_wn_self ..).trans (Nat.mod_eq_of_lt (by change s.fld _ _ _ + _ + _ + _ < _; omega))
    · rw [pair_acted, State.bump, State.pair_bumpBy, State.pair, State.rn_wn_ne _ _ hother.1, State.rn_wn_ne _ _ hother.2]
      rfl
    · rw [regsBut_acted]
      exact ((regsBut_asked s dt req).wn (by simp) _).bump (by simp) (by simp)
  case fill =>
    refine completes_eq rfl hcore (State.maskFilled_one (s := s.advance dt) hc hk hf) ?_
    refine ⟨rfl, fun b => ?_, fun _ => rfl⟩
    refine (State.holdByte_writeHold (s.advance dt) p.maskBase b _).trans ?_
    rw [List.length_replicate]
    refine ite_congr rfl (fun h => ?_) fun _ => rfl
    rw [List.getD_eq_getElem _ _ (by rw [List.length_replicate]; omega), List.getElem_replicate]

end Sys2Proof.Machine
end

section
/-! ### The latch edge (R124) -/

namespace Sys2Proof.Machine

theorem State.edgeCues_none {s : State} (h : s.cues.slots = []) (k : Nat) : s.edgeCues k = s := by
  rw [State.edgeCues, h]
  rfl

/-- With no cue, the work at an edge leaves all but the time. -/
theorem State.atEdge_noCues {s : State} (h : s.cues.slots = []) (k : Nat) :
    ∃ time, s.atEdge k (fun s => s.edgeCues k) = { s with time := time } := by
  have hcues := State.edgeCues_none (s := { s with time := { s.time with led := s.edge k * ledNs } }) h k
  refine ⟨{ s.time with led := s.edge k * ledNs + (s.time.led - s.edge k * ledNs) }, ?_⟩
  rw [State.atEdge, hcues]

/-- With no input of the twin, an edge takes none. -/
theorem State.takeMirror_none {s : State} (h : s.twin.mirrored = []) : ∃ twin, s.takeMirror = { s with twin := twin } := by
  refine ⟨{ s.twin with mirrored := [] }, ?_⟩
  rw [State.takeMirror, h]
  rfl

/-- The commits that an edge latches. -/
def State.atTheEdge (s : State) (k : Nat) (c : Commit) : Bool :=
  c.fillDone && (c.cueTally == some (k + s.lag) || decide (c.stamp < s.edge k * 65536))

/-- With no input of the twin and no cue, an edge takes its tally and then latches the commits that are due. -/
theorem State.latchEdge_quiet {s : State} {k : Nat} (hdue : s.edge k + 2 ≤ s.ns) (hfirst : notYet s.pipe.edge k = true)
    (hcues : s.cues.slots = []) (hmir : s.twin.mirrored = []) :
    ∃ time twin, s.latchEdge k =
      (((((s.pipe.commits.filter (s.atTheEdge k)).foldr commitInsert []).foldl (fun u c => u.latchOne (k + s.lag) c)
        (({ s with time := time, twin := twin } : State).setPipe fun p => { p with
          edge := some k, commits := p.commits.filter fun c => !s.atTheEdge k c })).edgeCostRegs (k + s.lag)).wayCheck
            (k + s.lag)) := by
  have hgo : ¬ (s.ns < s.edge k + 2 ∨ notYet s.pipe.edge k = false) := by simp [hfirst]; omega
  obtain ⟨twin, hmirror⟩ := State.takeMirror_none (s := s.setPipe fun p => { p with edge := some k }) hmir
  obtain ⟨time, hedge⟩ := State.atEdge_noCues (s := { s.setPipe fun p => { p with edge := some k } with twin := twin }) hcues k
  refine ⟨time, twin, (if_neg hgo).trans ?_⟩
  dsimp only
  rw [hmirror, hedge]
  rfl

theorem State.edgeCostRegs_regSide (s : State) (eff : Nat) :
    RegSide (· ≠ Reg.COMP_COEF_STAT) s (s.edgeCostRegs eff) := by
  refine RegSide.foldl (((RegSide.refl _ s).wn _ (by decide)).wn _ (by decide)) _ fun u e hu => hu.wn _ ?_
  simp only [Reg.COMP_LAYER_COST, Reg.COMP_COEF_STAT]
  omega

theorem State.wayCheck_none {s : State} (h : s.fixture.ways = []) (eff : Nat) : s.wayCheck eff = s := by
  rw [State.wayCheck, h]
  rfl

/-- One commit at an edge: due, it is latched alone; not due, it stays. -/
theorem State.latchEdge_one {s : State} {k : Nat} {c : Commit} (hdue : s.edge k + 2 ≤ s.ns)
    (hfirst : notYet s.pipe.edge k = true) (hcues : s.cues.slots = []) (hmir : s.twin.mirrored = [])
    (hways : s.fixture.ways = []) (hcommits : s.pipe.commits = [c])
    (hkeep : s.atTheEdge k c = true → ∀ u : State, (u.latchOne (k + s.lag) c).fixture = u.fixture) :
    ∃ u, u.hold = s.hold ∧ u.pipe = { s.pipe with
        edge := some k, commits := if s.atTheEdge k c then [] else [c] }
      ∧ RegSide (· ≠ Reg.COMP_COEF_STAT) (if s.atTheEdge k c then u.latchOne (k + s.lag) c else u) (s.latchEdge k) := by
  obtain ⟨time, twin, h⟩ := State.latchEdge_quiet hdue hfirst hcues hmir
  refine ⟨({ s with time := time, twin := twin } : State).setPipe fun p => { p with
    edge := some k, commits := if s.atTheEdge k c then [] else [c] }, rfl, rfl, ?_⟩
  rw [h, hcommits]
  have hlatch : ∀ u : State, u.fixture.ways = [] → RegSide (· ≠ Reg.COMP_COEF_STAT) u ((u.edgeCostRegs (k + s.lag)).wayCheck (k + s.lag)) := by
    intro u hu
    have hside := u.edgeCostRegs_regSide (k + s.lag)
    rwa [State.wayCheck_none (by rw [hside.fixture, hu])]
  cases hm : s.atTheEdge k c with
  | false =>
    have hpipe : (fun p : PipeState => { p with edge := some k, commits := p.commits.filter fun c => !s.atTheEdge k c }) s.pipe
        = { s.pipe with edge := some k, commits := [c] } := by simp [hcommits, hm]
    simp only [List.filter_cons, hm, List.filter_nil, List.foldr_nil, List.foldl_nil, State.setPipe, hpipe, Bool.false_eq_true, if_false]
    exact hlatch _ hways
  | true =>
    have hpipe : (fun p : PipeState => { p with edge := some k, commits := p.commits.filter fun c => !s.atTheEdge k c }) s.pipe
        = { s.pipe with edge := some k, commits := [] } := by simp [hcommits, hm]
    simp only [List.filter_cons, hm, List.filter_nil, List.foldr_cons, List.foldr_nil, commitInsert, List.foldl_cons,
      List.foldl_nil, State.setPipe, hpipe, if_true]
    exact hlatch _ ((congrArg FixState.ways (hkeep hm _)).trans hways)

/-- Settles O19: an edge latches the one commit that was stamped before it, and leaves one that was not. -/
theorem latchEdgeApplies : Obligations.LatchEdgeApplies := by
  intro dt k w ws c s hcore hdue hfirst hcues hmir hways hcommits hfill hcue
  have hat : (s.advance dt).atTheEdge k c = decide (c.stamp < s.edge k * 65536) := by
    simp only [State.atTheEdge, hfill, hcue, Bool.true_and]
    rfl
  refine ⟨fun hk hlt => ?coef, fun hk hlt => ?cal, fun hge => ?later⟩
  case coef =>
    have hone : ∀ u : State, u.latchOne (k + (s.advance dt).lag) c
        = (u.setPipe fun p => { p with coefs := ws }).setFld Reg.COMP_COEF_STAT 0 0 0 := fun u => by rw [State.latchOne, hk]
    obtain ⟨u, hhold, hpipe, hside⟩ := State.latchEdge_one (s := s.advance dt) hdue hfirst hcues hmir hways hcommits
      fun _ u => by rw [hone]; rfl
    rw [hat, decide_eq_true hlt] at hpipe hside
    rw [if_pos rfl] at hpipe hside
    rw [hone] at hside
    refine completes_act (f := fun s => s.latchEdge k) rfl hcore ?_
    rw [acted_pipe, rn_acted, sameHold_acted, hside.pipe, hside.rn (by simp), State.setFld_pipe, State.setPipe_pipe, hpipe]
    refine ⟨rfl, ?_, rfl, rfl, sameHold_of_hold (hside.hold.trans hhold)⟩
    rw [State.rn_setFld_self _ (by decide) (by decide), bit, testBit_putBits _ (by decide)]
    rfl
  case cal =>
    have hone : ∀ u : State, u.latchOne (k + (s.advance dt).lag) c = u.keepLatched (k + (s.advance dt).lag) (.calCtrl w) :=
      fun u => by simp only [State.latchOne, hk]
    obtain ⟨u, hhold, hpipe, hside⟩ := State.latchEdge_one (s := s.advance dt) hdue hfirst hcues hmir hways hcommits
      fun _ u => by rw [hone]; rfl
    rw [hat, decide_eq_true hlt] at hpipe hside
    rw [if_pos rfl] at hpipe hside
    rw [hone] at hside
    refine completes_act (f := fun s => s.latchEdge k) rfl hcore ?_
    rw [acted_pipe, sameHold_acted, hside.pipe, State.keepLatched, State.setPipe_pipe, hpipe]
    exact ⟨rfl, rfl, rfl, sameHold_of_hold (hside.hold.trans hhold)⟩
  case later =>
    obtain ⟨u, hhold, hpipe, hside⟩ := State.latchEdge_one (s := s.advance dt) hdue hfirst hcues hmir hways hcommits
      fun hm => by rw [hat, decide_eq_true_eq] at hm; omega
    rw [hat, decide_eq_false (Nat.not_lt.mpr hge)] at hpipe hside
    rw [if_neg (by decide)] at hpipe hside
    refine completes_act (f := fun s => s.latchEdge k) rfl hcore ?_
    rw [acted_pipe, sameHold_acted, hside.pipe, hpipe]
    exact ⟨rfl, rfl, sameHold_of_hold (hside.hold.trans hhold)⟩

end Sys2Proof.Machine
end

section
/-! ### What the functions of the model leave as it was -/

namespace Sys2Proof.Machine

@[simp] theorem foldl_hold {α : Type} {f : State → α → State} (l : List α) (s : State) (hf : ∀ u x, (f u x).hold = u.hold) :
  (l.foldl f s).hold = s.hold := foldl_keeps (fun u : State => u.hold) hf l s

theorem State.hold_ite {c : Prop} [Decidable c] (a b : State) : (if c then a else b).hold = if c then a.hold else b.hold := apply_ite ..

@[simp] theorem State.wrWords_hold (s : State) (a : Nat) (ws : List Nat) : (s.wrWords a ws).hold = s.hold := by
  induction ws generalizing s a with
  | nil => rfl
  | cons w ws ih => exact ih ..

@[simp] theorem State.dieReset_hold (s : State) : s.dieReset.hold = s.hold := rfl

@[simp] theorem State.logPush_hold (s : State) (e : LogEntry) : (s.logPush e).hold = s.hold := ((FaultSide.refl s).logPush e).hold

@[simp] theorem State.enterTrip_hold (s : State) (t : Trip) : (s.enterTrip t).1.hold = s.hold := (enterTrip_faultSide s t).hold

@[simp] theorem State.lineOut_hold (s : State) (l c n : Nat) (bs : List SlkBlock) : (s.lineOut l c n bs).hold = s.hold := by
  unfold State.lineOut
  split <;> rfl

@[simp] theorem State.send_hold (s : State) (a : String) (b : Nat) (c : List Nat) : (s.send a b c).hold = s.hold := rfl

@[simp] theorem State.txSend_hold (s : State) (k : Nat) (p : TxPacket) (c : Nat) : (s.txSend k p c).hold = s.hold := by
  unfold State.txSend
  dsimp only
  split
  · rfl
  · simp -implicitDefEqProofs [State.hold_ite]

@[simp] theorem txDrain_hold (n : Nat) (s : State) (k : Nat) : (State.txDrain n s k).hold = s.hold := by
  induction n generalizing s with
  | zero => rfl
  | succ n ih =>
    unfold State.txDrain
    dsimp only
    split
    · rfl
    · split
      · rfl
      · split
        · rw [ih, State.txSend_hold]
        · rfl

@[simp] theorem State.keepWrite_hold (s : State) (i : Nat) (ws : List Nat) : (s.keepWrite i ws).hold = s.hold := by
  rw [State.keepWrite, State.keepCheck, State.wr_hold, State.wrWords_hold]

@[simp] theorem State.keySettle_hold (s : State) : s.keySettle.hold = s.hold := by
  unfold State.keySettle
  simp -implicitDefEqProofs only [State.setFld_hold, State.wrWords_hold, State.wn_hold]

@[simp] theorem State.draw_hold (s : State) : s.draw.2.hold = s.hold := rfl

@[simp] theorem State.leaveReset_hold (s : State) : s.leaveReset.hold = s.hold := by
  unfold State.leaveReset
  simp -implicitDefEqProofs only [State.setFld_hold, State.setPair_hold, State.keySettle_hold, State.draw_hold, State.wrWords_hold, State.wn_hold, State.keepWrite_hold, List.foldl_cons, List.foldl_nil]

theorem State.enterTrip_some_hold {s u : State} {t : Trip} {o : Option Reaction} (h : s.enterTrip t = (u, o)) :
    u.hold = s.hold := by
  rw [← State.enterTrip_hold s t, h]

@[simp] theorem State.pairTake_hold (s : State) (r : Requester) (a : Nat) : (s.pairTake r a).hold = s.hold := by
  unfold State.pairTake
  split
  · simp -implicitDefEqProofs
  · simp -implicitDefEqProofs

@[simp] theorem State.notify_hold (s : State) (code sev source : Nat) (data : List Nat) : (s.notify code sev source data).hold = s.hold := by
  unfold State.notify
  simp -implicitDefEqProofs

@[simp] theorem State.sendBlocks_hold (s : State) (kind : String) (lane : Nat) (bs : List SlkBlock) : (s.sendBlocks kind lane bs).hold = s.hold := by
  unfold State.sendBlocks
  simp -implicitDefEqProofs

@[simp] theorem State.modLane_hold (s : State) (l : Nat) (f : Lane → Lane) : (s.modLane l f).hold = s.hold := by
  unfold State.modLane
  simp -implicitDefEqProofs

@[simp] theorem State.setLaneBit_hold (s : State) (l i : Nat) (b : Bool) : (s.setLaneBit l i b).hold = s.hold := by
  unfold State.setLaneBit
  simp -implicitDefEqProofs

@[simp] theorem State.condClear_hold (s : State) (d i : Nat) : (s.condClear d i).hold = s.hold := by
  unfold State.condClear
  extract_lets u1 u2
  split
  · simp -implicitDefEqProofs [State.hold_ite]
  · simp -implicitDefEqProofs

@[simp] theorem State.loadLatency_hold (s : State) (p l : Nat) : (s.loadLatency p l).hold = s.hold := by
  unfold State.loadLatency
  simp -implicitDefEqProofs

@[simp] theorem State.measureBroken_hold (s : State) (c : Nat) : (s.measureBroken c).hold = s.hold := by
  unfold State.measureBroken
  simp -implicitDefEqProofs [State.hold_ite]

@[simp] theorem State.dropExchanges_hold (s : State) (k : Nat) : (s.dropExchanges k).hold = s.hold := by
  unfold State.dropExchanges
  extract_lets u1
  split
  · simp -implicitDefEqProofs [State.hold_ite]
  · simp -implicitDefEqProofs

@[simp] theorem State.groupSettle_hold (s : State) (g : Nat) : (s.groupSettle g).hold = s.hold := by
  unfold State.groupSettle
  extract_lets u1 u2 u3 u4 u5 u6
  have hu6 : u6.hold = s.hold := by
    simp -implicitDefEqProofs [u6]
  clear_value u6
  split
  · simp -implicitDefEqProofs [hu6, State.hold_ite]
  · simp -implicitDefEqProofs [hu6]

@[simp] theorem State.setTx_hold (s : State) (l : Nat) (m : LaneTx) : (s.setTx l m).hold = s.hold := by
  unfold State.setTx
  simp -implicitDefEqProofs [State.hold_ite]

@[simp] theorem State.sendMask_hold (s : State) (g l : Nat) : (s.sendMask g l).hold = s.hold := by
  unfold State.sendMask
  simp -implicitDefEqProofs

@[simp] theorem State.groupRemove_hold (s : State) (l : Nat) : (s.groupRemove l).hold = s.hold := by
  unfold State.groupRemove
  extract_lets u1 u2
  have hu2 : u2.hold = s.hold := by
    simp -implicitDefEqProofs [u2]
  clear_value u2
  simp -implicitDefEqProofs [hu2, State.hold_ite]

@[simp] theorem State.laneBack_hold (s : State) (l : Nat) : (s.laneBack l).hold = s.hold := by
  unfold State.laneBack
  simp -implicitDefEqProofs

@[simp] theorem State.setLaneSt_hold (s : State) (l st : Nat) : (s.setLaneSt l st).hold = s.hold := by
  unfold State.setLaneSt
  extract_lets u1 u2 u3 u4 u5 u6 u7 u8 u9 u10 u11 u12 u13 u14 u15
  have hu2 : u2.hold = s.hold := by
    simp -implicitDefEqProofs [u2]
  clear_value u2
  have hu3 : u3.hold = s.hold := by
    simp -implicitDefEqProofs [u3, hu2]
  clear_value u3
  have hu4 : u4.hold = s.hold := by
    simp -implicitDefEqProofs [u4, hu3]
  clear_value u4
  have hu5 : u5.hold = s.hold := by
    simp -implicitDefEqProofs [u5, hu4]
  clear_value u5
  have hu7 : u7.hold = s.hold := by
    simp -implicitDefEqProofs [u7, hu5]
  clear_value u7
  have hu8 : u8.hold = s.hold := by
    simp -implicitDefEqProofs [u8, hu7, State.hold_ite]
  clear_value u8
  have hu9 : u9.hold = s.hold := by
    simp -implicitDefEqProofs [u9, hu5, hu8, State.hold_ite]
  clear_value u9
  have hu10 : u10.hold = s.hold := by
    simp -implicitDefEqProofs [u10, hu9, State.hold_ite]
  clear_value u10
  have hu11 : u11.hold = s.hold := by
    simp -implicitDefEqProofs [u11, hu10, State.hold_ite]
  clear_value u11
  have hu13 : u13.hold = s.hold := by
    simp -implicitDefEqProofs [u13, hu11, State.hold_ite]
  clear_value u13
  have hu14 : u14.hold = s.hold := by
    simp -implicitDefEqProofs [u14, hu13, State.hold_ite]
  clear_value u14
  have hu15 : u15.hold = s.hold := by
    simp -implicitDefEqProofs [u15, hu14]
  clear_value u15
  simp -implicitDefEqProofs [hu10, hu15, State.hold_ite]

@[simp] theorem State.enterHail_hold (s : State) (l : Nat) : (s.enterHail l).hold = s.hold := by
  unfold State.enterHail
  extract_lets u1 u2
  have hu1 : u1.hold = s.hold := by
    simp -implicitDefEqProofs [u1]
  clear_value u1
  have hu2 : u2.hold = s.hold := by
    simp -implicitDefEqProofs [u2, hu1]
  clear_value u2
  simp -implicitDefEqProofs [hu2]

@[simp] theorem State.laneAbort_hold (s : State) (l : Nat) : (s.laneAbort l).hold = s.hold := by
  unfold State.laneAbort
  extract_lets u1 u2 u3 u4
  have hu2 : u2.hold = s.hold := by
    simp -implicitDefEqProofs [u2]
  clear_value u2
  have hu3 : u3.hold = s.hold := by
    simp -implicitDefEqProofs [u3, hu2]
  clear_value u3
  have hu4 : u4.hold = s.hold := by
    simp -implicitDefEqProofs [u4, hu3]
  clear_value u4
  simp -implicitDefEqProofs [hu4]

@[simp] theorem State.clearCeiling_hold (s : State) (l : Nat) : (s.clearCeiling l).hold = s.hold := by
  unfold State.clearCeiling
  simp -implicitDefEqProofs

@[simp] theorem State.retrain_hold (s : State) (l : Nat) : (s.retrain l).hold = s.hold := by
  unfold State.retrain
  simp -implicitDefEqProofs

@[simp] theorem State.setEligible_hold (s : State) (b : Bool) : (s.setEligible b).hold = s.hold := by
  unfold State.setEligible
  extract_lets u1 u2
  have hu2 : u2.hold = s.hold := by
    simp -implicitDefEqProofs [u2, State.hold_ite]
  clear_value u2
  simp -implicitDefEqProofs [hu2]

@[simp] theorem State.oredSettle_hold (s : State) : s.oredSettle.hold = s.hold := by
  unfold State.oredSettle
  extract_lets u1
  refine (foldl_hold _ _ fun v2 x2 => ?_).trans ?_
  · extract_lets u3 u4
    have hu4 : u4.hold = v2.hold := by
      simp -implicitDefEqProofs [u4]
    clear_value u4
    split
    · refine (foldl_hold _ _ fun v5 x5 => ?_).trans ?_
      · extract_lets u6 u7 u8 u9
        have hu8 : u8.hold = v5.hold := by
          simp -implicitDefEqProofs [u8]
        clear_value u8
        simp -implicitDefEqProofs [hu8, State.hold_ite]
      · simp -implicitDefEqProofs [hu4]
    · simp -implicitDefEqProofs
  · simp -implicitDefEqProofs

@[simp] theorem State.dmxYield_hold (s : State) : s.dmxYield.hold = s.hold := by
  unfold State.dmxYield
  simp -implicitDefEqProofs [State.hold_ite]

@[simp] theorem State.roleChange_hold (s : State) (rule : Nat) : (s.roleChange rule).hold = s.hold := by
  unfold State.roleChange
  extract_lets u1 u2 u3 u4 u5 u6 u7 u8 u9 u10 u11 u12 u13
  have hu2 : u2.hold = s.hold := by
    simp -implicitDefEqProofs [u2]
  clear_value u2
  have hu3 : u3.hold = s.hold := by
    simp -implicitDefEqProofs [u3, hu2]
  clear_value u3
  have hu5 : u5.hold = s.hold := by
    simp -implicitDefEqProofs [u5, hu3]
  clear_value u5
  have hu7 : u7.hold = s.hold := by
    simp -implicitDefEqProofs [u7, hu3]
  clear_value u7
  have hu8 : u8.hold = s.hold := by
    simp -implicitDefEqProofs [u8, hu7, State.hold_ite]
  clear_value u8
  have hu9 : u9.hold = s.hold := by
    simp -implicitDefEqProofs [u9, hu8]
  clear_value u9
  have hu11 : u11.hold = s.hold := by
    simp -implicitDefEqProofs [u11, hu5, hu8, hu9, State.hold_ite]
  clear_value u11
  have hu12 : u12.hold = s.hold := by
    simp -implicitDefEqProofs [u12, hu11]
  clear_value u12
  have hu13 : u13.hold = s.hold := by
    simp -implicitDefEqProofs [u13, hu12]
  clear_value u13
  simp -implicitDefEqProofs [hu13]

@[simp] theorem State.setFltInst_hold (s : State) (d i : Nat) (x : FltInst) : (s.setFltInst d i x).hold = s.hold := by
  unfold State.setFltInst
  simp -implicitDefEqProofs

@[simp] theorem State.putFirst_hold (s : State) (e : LogEntry) : (s.putFirst e).hold = s.hold := by
  unfold State.putFirst
  simp -implicitDefEqProofs

@[simp] theorem State.takeFirst_hold (s : State) (d i : Nat) : (s.takeFirst d i).hold = s.hold := by
  unfold State.takeFirst
  split
  · simp -implicitDefEqProofs
  · simp -implicitDefEqProofs [State.hold_ite]

@[simp] theorem State.setCause_hold (s : State) (cause wake rule : Nat) : (s.setCause cause wake rule).hold = s.hold := by
  unfold State.setCause
  extract_lets u1
  have hu1 : u1.hold = s.hold := by
    simp -implicitDefEqProofs [u1]
  clear_value u1
  simp -implicitDefEqProofs [hu1]

@[simp] theorem State.deviceReset_hold (s : State) (cause : Nat) : (s.deviceReset cause).hold = s.hold := by
  unfold State.deviceReset
  simp -implicitDefEqProofs

@[simp] theorem State.blockReset_hold (s : State) (b : Block) (cause : Nat) : (s.blockReset b cause).hold = s.hold := by
  unfold State.blockReset
  simp -implicitDefEqProofs [State.hold_ite]

@[simp] theorem State.standDownD4_hold (s : State) : s.standDownD4.hold = s.hold := by
  unfold State.standDownD4
  extract_lets u1 u2
  have hu1 : u1.hold = s.hold := by
    simp -implicitDefEqProofs [u1]
  clear_value u1
  simp -implicitDefEqProofs [hu1, State.hold_ite]

@[simp] theorem State.react_hold (s : State) (d i r cause : Nat) : (s.react d i r cause).hold = s.hold := by
  unfold State.react
  extract_lets u1
  split
  · split
    · simp -implicitDefEqProofs
    · simp -implicitDefEqProofs
  · simp -implicitDefEqProofs [State.hold_ite]
  · simp -implicitDefEqProofs
  · simp -implicitDefEqProofs
  · simp -implicitDefEqProofs
  · simp -implicitDefEqProofs

@[simp] theorem State.latchAll_hold (s : State) : s.latchAll.hold = s.hold := by
  unfold State.latchAll
  simp -implicitDefEqProofs

@[simp] theorem State.txPump_hold (s : State) (k : Nat) : (s.txPump k).hold = s.hold := by
  unfold State.txPump
  simp -implicitDefEqProofs

@[simp] theorem State.enqueue_hold (s : State) (k : Nat) (p : TxPacket) : (s.enqueue k p).hold = s.hold := by
  unfold State.enqueue
  extract_lets u1 u2
  have hu1 : u1.hold = s.hold := by
    simp -implicitDefEqProofs [u1]
  clear_value u1
  simp -implicitDefEqProofs [hu1]

@[simp] theorem State.setLpi_hold (s : State) (l : Nat) (x : LpiState) : (s.setLpi l x).hold = s.hold := by
  unfold State.setLpi
  simp -implicitDefEqProofs

@[simp] theorem State.lpiWake_hold (s : State) (l : Nat) : (s.lpiWake l).hold = s.hold := by
  unfold State.lpiWake
  extract_lets u1 u2
  have hu2 : u2.hold = s.hold := by
    simp -implicitDefEqProofs [u2]
  clear_value u2
  simp -implicitDefEqProofs [hu2, State.hold_ite]

@[simp] theorem State.demandAdd_hold (s : State) (g cls : Nat) (p : List Byte) : (s.demandAdd g cls p).hold = s.hold := by
  unfold State.demandAdd
  simp -implicitDefEqProofs

@[simp] theorem State.packetAt_hold (s : State) (ready k cls : Nat) (kind : String) (p : List Byte) : (s.packetAt ready k cls kind p).hold = s.hold := by
  unfold State.packetAt
  extract_lets u1
  have hu1 : u1.hold = s.hold := by
    simp -implicitDefEqProofs [u1]
  clear_value u1
  simp -implicitDefEqProofs [hu1, State.hold_ite]

@[simp] theorem State.packet_hold (s : State) (k : Nat) (kind : String) (p : List Byte) : (s.packet k kind p).hold = s.hold := by
  unfold State.packet
  simp -implicitDefEqProofs

@[simp] theorem State.groupSend_hold (s : State) (g : Nat) (kind : String) (p : List Byte) : (s.groupSend g kind p).hold = s.hold := by
  unfold State.groupSend
  simp -implicitDefEqProofs [State.hold_ite]

@[simp] theorem State.originate_hold (s : State) (g : Nat) (kind : String) (p : List Byte) : (s.originate g kind p).hold = s.hold := by
  unfold State.originate
  simp -implicitDefEqProofs [State.hold_ite]

@[simp] theorem State.ownSeq_hold (s : State) : s.ownSeq.2.hold = s.hold := by
  unfold State.ownSeq
  simp -implicitDefEqProofs

@[simp] theorem State.twinSend_hold (s : State) (kind : String) (code : Nat) (fields : List Nat) : (s.twinSend kind code fields).hold = s.hold := by
  unfold State.twinSend
  simp -implicitDefEqProofs [State.hold_ite]

@[simp] theorem State.servoSettle_hold (s : State) : s.servoSettle.hold = s.hold := by
  unfold State.servoSettle
  simp -implicitDefEqProofs

@[simp] theorem State.setAdj_hold (s : State) (a : Int) : (s.setAdj a).hold = s.hold := by
  unfold State.setAdj
  simp -implicitDefEqProofs [State.hold_ite]

@[simp] theorem State.setStep_hold (s : State) (d : Int) : (s.setStep d).hold = s.hold := by
  unfold State.setStep
  simp -implicitDefEqProofs

@[simp] theorem State.stepLedger_hold (s : State) (d : Int) : (s.stepLedger d).hold = s.hold := by
  unfold State.stepLedger
  extract_lets u1 u2
  have hu2 : u2.hold = s.hold := by
    simp -implicitDefEqProofs [u2]
  clear_value u2
  simp -implicitDefEqProofs [hu2, State.hold_ite]

@[simp] theorem State.modPort_hold (s : State) (p : Nat) (f : PtpPort → PtpPort) : (s.modPort p f).hold = s.hold := by
  unfold State.modPort
  simp -implicitDefEqProofs

@[simp] theorem State.track_hold (s : State) : s.track.hold = s.hold := by
  unfold State.track
  simp -implicitDefEqProofs

@[simp] theorem State.takeSource_hold (s : State) : s.takeSource.hold = s.hold := by
  unfold State.takeSource
  simp -implicitDefEqProofs [State.hold_ite]

@[simp] theorem State.counted_hold (s : State) (c : Nat) : (s.counted c).hold = s.hold := by
  unfold State.counted
  simp -implicitDefEqProofs

@[simp] theorem State.fixStep_hold (s : State) (d : Int) (n : Nat) : (s.fixStep d n).hold = s.hold := by
  unfold State.fixStep
  extract_lets u1 u2 u3
  have hu2 : u2.hold = s.hold := by
    simp -implicitDefEqProofs [u2]
  clear_value u2
  have hu3 : u3.hold = s.hold := by
    simp -implicitDefEqProofs [u3, hu2]
  clear_value u3
  simp -implicitDefEqProofs [hu3, State.hold_ite]

@[simp] theorem State.snapSettle_hold (s : State) : s.snapSettle.hold = s.hold := by
  unfold State.snapSettle
  simp -implicitDefEqProofs

@[simp] theorem State.berthSettle_hold (s : State) (i : Nat) : (s.berthSettle i).hold = s.hold := by
  unfold State.berthSettle
  extract_lets u1 u2 u3 u4
  have hu2 : u2.hold = s.hold := by
    simp -implicitDefEqProofs [u2]
  clear_value u2
  have hu3 : u3.hold = s.hold := by
    simp -implicitDefEqProofs [u3, hu2]
  clear_value u3
  simp -implicitDefEqProofs [hu3]

@[simp] theorem State.setBerth_hold (s : State) (i : Nat) (b : Berth) : (s.setBerth i b).hold = s.hold := by
  unfold State.setBerth
  simp -implicitDefEqProofs

@[simp] theorem State.stageSettle_hold (s : State) : s.stageSettle.hold = s.hold := by
  unfold State.stageSettle
  simp -implicitDefEqProofs

@[simp] theorem State.stageFree_hold (s : State) (f : Nat) : (s.stageFree f).hold = s.hold := by
  unfold State.stageFree
  simp -implicitDefEqProofs

@[simp] theorem State.deferFree_hold (s : State) (tally : Nat) (units : List Nat) : (s.deferFree tally units).hold = s.hold := by
  unfold State.deferFree
  simp -implicitDefEqProofs [State.hold_ite]

@[simp] theorem State.setOutQ_hold (s : State) (q : Nat) (x : OutQ) : (s.setOutQ q x).hold = s.hold := by
  unfold State.setOutQ
  extract_lets u1 u2 u3
  have hu3 : u3.hold = s.hold := by
    simp -implicitDefEqProofs [u3]
  clear_value u3
  simp -implicitDefEqProofs [hu3]

@[simp] theorem State.fillOutQ_hold (s : State) (q : Nat) : (s.fillOutQ q).hold = s.hold := by
  unfold State.fillOutQ
  simp -implicitDefEqProofs

@[simp] theorem State.pierPush_hold (s : State) (q ptype src : Nat) (bs : List Byte) : (s.pierPush q ptype src bs).hold = s.hold := by
  unfold State.pierPush
  extract_lets u1 u2 u3 u4
  have hu3 : u3.hold = s.hold := by
    simp -implicitDefEqProofs [u3, State.hold_ite]
  clear_value u3
  simp -implicitDefEqProofs [hu3, State.hold_ite]

@[simp] theorem State.setMac_hold (s : State) (m : Nat) (x : MacState) : (s.setMac m x).hold = s.hold := by
  unfold State.setMac
  simp -implicitDefEqProofs

@[simp] theorem State.txStamped_hold (s : State) (m : Nat) (f : String × List Byte) : (s.txStamped m f).1.hold = s.hold := by
  unfold State.txStamped
  extract_lets u1
  split
  · simp -implicitDefEqProofs
  · split
    · simp -implicitDefEqProofs
    · simp -implicitDefEqProofs

@[simp] theorem State.txStart_hold (s : State) (m : Nat) : (s.txStart m).hold = s.hold := by
  unfold State.txStart
  extract_lets u1
  split
  · simp -implicitDefEqProofs
  · split
    · split
      · simp -implicitDefEqProofs
      · simp -implicitDefEqProofs
    · simp -implicitDefEqProofs

@[simp] theorem State.ethSend_hold (s : State) (m q : Nat) (kind : String) (frame : List Byte) : (s.ethSend m q kind frame).hold = s.hold := by
  unfold State.ethSend
  simp -implicitDefEqProofs [State.hold_ite]

@[simp] theorem State.udpSend_hold (s : State) (m q : Nat) (kind : String) (sport peer : Nat) (data : List Byte) : (s.udpSend m q kind sport peer data).hold = s.hold := by
  unfold State.udpSend
  simp -implicitDefEqProofs

@[simp] theorem State.igmpSend_hold (s : State) (m record g : Nat) : (s.igmpSend m record g).hold = s.hold := by
  unfold State.igmpSend
  simp -implicitDefEqProofs

@[simp] theorem State.arpIn_hold (s : State) (m : Nat) (b : List Byte) : (s.arpIn m b).hold = s.hold := by
  unfold State.arpIn
  simp -implicitDefEqProofs [State.hold_ite]

@[simp] theorem State.icmpIn_hold (s : State) (m src : Nat) (b : List Byte) : (s.icmpIn m src b).hold = s.hold := by
  unfold State.icmpIn
  simp -implicitDefEqProofs [State.hold_ite]

@[simp] theorem State.igmpIn_hold (s : State) (m : Nat) (b : List Byte) : (s.igmpIn m b).hold = s.hold := by
  unfold State.igmpIn
  extract_lets u1 u2 u3 u4 u5
  have hu4 : u4.hold = s.hold := by
    simp -implicitDefEqProofs [u4]
  clear_value u4
  simp -implicitDefEqProofs [hu4, State.hold_ite]

@[simp] theorem State.serveFrame_hold (s : State) (m q : Nat) (f : List Byte) : (s.serveFrame m q f).hold = s.hold := by
  unfold State.serveFrame
  split
  · split
    · simp -implicitDefEqProofs
    · split
      · simp -implicitDefEqProofs
      · split
        · simp -implicitDefEqProofs
        · simp -implicitDefEqProofs
        · simp -implicitDefEqProofs [State.hold_ite]
        · simp -implicitDefEqProofs

@[simp] theorem State.serveReceive_hold (s : State) (m : Nat) : (s.serveReceive m).hold = s.hold := by
  unfold State.serveReceive
  extract_lets u1
  split
  · split
    · simp -implicitDefEqProofs
    · simp -implicitDefEqProofs
  · simp -implicitDefEqProofs

@[simp] theorem State.modSession_hold (s : State) (id : Nat) (f : Session → Session) : (s.modSession id f).hold = s.hold := by
  unfold State.modSession
  simp -implicitDefEqProofs

@[simp] theorem State.setSessions_hold (s : State) (l : List Session) : (s.setSessions l).hold = s.hold := by
  unfold State.setSessions
  simp -implicitDefEqProofs

@[simp] theorem State.mgmtSend_hold (s : State) (dest : Nat) (m : List Byte) : (s.mgmtSend dest m).hold = s.hold := by
  unfold State.mgmtSend
  simp -implicitDefEqProofs

@[simp] theorem State.qmpSend_hold (s : State) (m peer : Nat) (p : List Byte) : (s.qmpSend m peer p).hold = s.hold := by
  unfold State.qmpSend
  simp -implicitDefEqProofs

@[simp] theorem State.respondFrom_hold (s : State) (d : Door) (origin type status : Nat) (body : List Byte) : (s.respondFrom d origin type status body).hold = s.hold := by
  unfold State.respondFrom
  split
  · extract_lets u1 u2 u3
    have hu2 : u2.hold = s.hold := by
      simp -implicitDefEqProofs [u2]
    clear_value u2
    have hu3 : u3.hold = s.hold := by
      simp -implicitDefEqProofs [u3, hu2, State.hold_ite]
    clear_value u3
    simp -implicitDefEqProofs [hu3]
  · simp -implicitDefEqProofs
  · simp -implicitDefEqProofs
  · simp -implicitDefEqProofs

@[simp] theorem State.respond_hold (s : State) (d : Door) (type status : Nat) (body : List Byte) : (s.respond d type status body).hold = s.hold := by
  unfold State.respond
  simp -implicitDefEqProofs

@[simp] theorem State.authAnswer_hold (s : State) (env : QmpEnv) (type : Nat) : (s.authAnswer env type).hold = s.hold := by
  unfold State.authAnswer
  extract_lets u1 u2 u3 u4
  have hu1 : u1.hold = s.hold := by
    simp -implicitDefEqProofs [u1]
  clear_value u1
  have hu4 : u4.hold = s.hold := by
    simp -implicitDefEqProofs [u4, hu1]
  clear_value u4
  simp -implicitDefEqProofs [hu1, hu4, State.hold_ite]

@[simp] theorem State.checkQmp_hold (s : State) (env : QmpEnv) (type : Nat) (body : List Byte) : (s.checkQmp env type body).1.hold = s.hold := by
  unfold State.checkQmp
  extract_lets u1 u2 u3
  have hu2 : u2.hold = s.hold := by
    simp -implicitDefEqProofs [u2]
  clear_value u2
  have hu3 : u3.hold = s.hold := by
    simp -implicitDefEqProofs [u3, hu2]
  clear_value u3
  split
  · simp -implicitDefEqProofs [hu2]
  · split
    · simp -implicitDefEqProofs [hu2]
    · split
      · simp -implicitDefEqProofs [hu2]
      · split
        · simp -implicitDefEqProofs [hu3]
        · split
          · simp -implicitDefEqProofs [hu2]
          · split
            · simp -implicitDefEqProofs [hu2]
            · simp -implicitDefEqProofs [hu2]

@[simp] theorem State.admitReq_hold (s : State) (d : Door) (type : Nat) (body : List Byte) : (s.admitReq d type body).1.hold = s.hold := by
  unfold State.admitReq
  split
  · simp -implicitDefEqProofs
  · simp -implicitDefEqProofs

@[simp] theorem State.tileRegs_hold (s : State) (t : Nat) : (s.tileRegs t).hold = s.hold := by
  unfold State.tileRegs
  extract_lets u1 u2 u3 u4 u5 u6
  have hu5 : u5.hold = s.hold := by
    simp -implicitDefEqProofs [u5]
  clear_value u5
  simp -implicitDefEqProofs [hu5]

@[simp] theorem State.scanSettle_hold (s : State) : s.scanSettle.hold = s.hold := by
  unfold State.scanSettle
  extract_lets u1 u2 u3 u4
  have hu4 : u4.hold = s.hold := by
    simp -implicitDefEqProofs [u4]
  clear_value u4
  simp -implicitDefEqProofs [hu4]

@[simp] theorem State.setEntry_hold (s : State) (t : Nat) (e : TileEntry) : (s.setEntry t e).hold = s.hold := by
  unfold State.setEntry
  simp -implicitDefEqProofs

@[simp] theorem State.uploadEnd_hold (s : State) (t : Nat) : (s.uploadEnd t).hold = s.hold := by
  unfold State.uploadEnd
  extract_lets u1 u2
  have hu2 : u2.hold = s.hold := by
    simp -implicitDefEqProofs [u2, State.hold_ite]
  clear_value u2
  simp -implicitDefEqProofs [hu2]

@[simp] theorem State.calPull_hold (s : State) (t offset length : Nat) : (s.calPull t offset length).hold = s.hold := by
  unfold State.calPull
  simp -implicitDefEqProofs

@[simp] theorem State.act1_hold (s : State) (x : Reaction) : (s.act1 x).hold = s.hold := by
  unfold State.act1
  dsimp only
  split
  · split
    case h_1 u y h => rw [State.react_hold, State.enterTrip_some_hold h, State.react_hold]
    case h_2 u h => rw [State.enterTrip_some_hold h, State.react_hold]
  · rw [State.react_hold]

@[simp] theorem State.logTrip_hold (s : State) (t : Trip) : (s.logTrip t).hold = s.hold := by
  unfold State.logTrip
  split
  case h_1 u y h => rw [State.act1_hold, State.enterTrip_some_hold h]
  case h_2 u h => rw [State.enterTrip_some_hold h]

@[simp] theorem State.raise_hold (s : State) (d i info : Nat) : (s.raise d i info).hold = s.hold := s.logTrip_hold _

@[simp] theorem State.recover_hold (s : State) (d i : Nat) : (s.recover d i).hold = s.hold := by
  unfold State.recover
  extract_lets x forced e s1 recov s2 sev r held lat s3 s4 s5 s6 s7
  split
  · have h1 : s1.hold = s.hold := by simp -implicitDefEqProofs [s1]
    clear_value s1
    have h2 : s2.hold = s.hold := by simp -implicitDefEqProofs [s2, h1, State.hold_ite]
    clear_value s2
    split
    · have h3 : s3.hold = s.hold := by simp -implicitDefEqProofs [s3, h2]
      clear_value s3
      have h4 : s4.hold = s.hold := by simp -implicitDefEqProofs [s4, h3, State.hold_ite]
      clear_value s4
      have h5 : s5.hold = s.hold := by simp -implicitDefEqProofs [s5, h4]
      clear_value s5
      have h6 : s6.hold = s.hold := by simp -implicitDefEqProofs [s6, h5, State.hold_ite]
      clear_value s6
      have h7 : s7.hold = s.hold := by simp -implicitDefEqProofs [s7, h6]
      clear_value s7
      split
      · exact h7
      · simp -implicitDefEqProofs [h7]
    · simp -implicitDefEqProofs [h2]
  · rfl

@[simp] theorem State.raiseOnce_hold (s : State) (d i : Nat) (info : Nat) : (s.raiseOnce d i info).hold = s.hold := by
  unfold State.raiseOnce
  simp -implicitDefEqProofs [State.hold_ite]

@[simp] theorem State.servoOffset_hold (s : State) (c : Nat) (off ref : Int) : (s.servoOffset c off ref).hold = s.hold := by
  unfold State.servoOffset
  extract_lets u1 u2 u3 u4 u5 u6 u7 u8 u9 u10 u11 u12 u13 u14 u15 u16 u17 u18 u19 u20 u21 u22 u23 u24 u25 u26
  have hu3 : u3.hold = s.hold := by
    simp -implicitDefEqProofs [u3]
  have hu4 : u4.hold = s.hold := by
    simp -implicitDefEqProofs [u4, hu3]
  have hu7 : u7.hold = s.hold := by
    simp -implicitDefEqProofs [u7, hu4]
  have hu9 : u9.hold = s.hold := by
    simp -implicitDefEqProofs [u9, hu7]
  have hu11 : u11.hold = s.hold := by
    simp -implicitDefEqProofs [u11, hu9]
  have hu13 : u13.hold = s.hold := by
    simp -implicitDefEqProofs [u13, hu7]
  have hu14 : u14.hold = s.hold := by
    simp -implicitDefEqProofs [u14, hu13]
  have hu17 : u17.hold = s.hold := by
    simp -implicitDefEqProofs [u17, hu14]
  have hu18 : u18.hold = s.hold := by
    simp -implicitDefEqProofs [u18, hu7, hu17, State.hold_ite]
  have hu19 : u19.hold = s.hold := by
    simp -implicitDefEqProofs [u19, hu18]
  have hu22 : u22.hold = s.hold := by
    simp -implicitDefEqProofs [u22, hu7]
  have hu24 : u24.hold = s.hold := by
    simp -implicitDefEqProofs [u24, hu22]
  clear_value u24
  have hu25 : u25.hold = s.hold := by
    simp -implicitDefEqProofs [u25, hu24]
  clear_value u25
  have hu26 : u26.hold = s.hold := by
    simp -implicitDefEqProofs [u26, hu25]
  clear_value u26
  simp -implicitDefEqProofs [hu7, hu11, hu19, hu22, hu26, State.hold_ite]

@[simp] theorem State.measure_hold (s : State) (c : Nat) (off ref : Int) : (s.measure c off ref).hold = s.hold := by
  unfold State.measure
  extract_lets u1
  have hu1 : u1.hold = s.hold := by
    simp -implicitDefEqProofs [u1]
  clear_value u1
  simp -implicitDefEqProofs [hu1, State.hold_ite]

@[simp] theorem State.holdover_hold (s : State) : s.holdover.hold = s.hold := by
  unfold State.holdover
  extract_lets u1 u2 u3 u4 u5
  have hu1 : u1.hold = s.hold := by
    simp -implicitDefEqProofs [u1]
  have hu3 : u3.hold = s.hold := by
    simp -implicitDefEqProofs [u3, hu1]
  have hu5 : u5.hold = s.hold := by
    simp -implicitDefEqProofs [u5, hu3, State.hold_ite]
  clear_value u5
  simp -implicitDefEqProofs [hu5]

@[simp] theorem State.timeSourceGone_hold (s : State) (c : Nat) : (s.timeSourceGone c).hold = s.hold := by
  unfold State.timeSourceGone
  extract_lets u1 u2 u3 u4
  have hu2 : u2.hold = s.hold := by
    simp -implicitDefEqProofs [u2]
  clear_value u2
  have hu4 : u4.hold = s.hold := by
    simp -implicitDefEqProofs [u4, hu2, State.hold_ite]
  clear_value u4
  simp -implicitDefEqProofs [hu4]

@[simp] theorem State.setRole_hold (s : State) (p : Nat) (r : PtpRole) : (s.setRole p r).hold = s.hold := by
  unfold State.setRole
  extract_lets u1 u2
  have hu2 : u2.hold = s.hold := by
    simp -implicitDefEqProofs [u2]
  clear_value u2
  simp -implicitDefEqProofs [hu2, State.hold_ite]

@[simp] theorem State.setCal_hold (s : State) (t c : Nat) : (s.setCal t c).hold = s.hold := by
  unfold State.setCal
  extract_lets u1 u2 u3 u4
  have hu2 : u2.hold = s.hold := by
    simp -implicitDefEqProofs [u2]
  clear_value u2
  have hu4 : u4.hold = s.hold := by
    simp -implicitDefEqProofs [u4, hu2, State.hold_ite]
  clear_value u4
  simp -implicitDefEqProofs [hu4, State.hold_ite]

@[simp] theorem State.uploadFail_hold (s : State) (t : Nat) : (s.uploadFail t).hold = s.hold := by
  unfold State.uploadFail
  extract_lets u1 u2 u3 u4 u5 u6 u7
  have hu1 : u1.hold = s.hold := by
    simp -implicitDefEqProofs [u1]
  clear_value u1
  have hu5 : u5.hold = s.hold := by
    simp -implicitDefEqProofs [u5, hu1]
  clear_value u5
  have hu7 : u7.hold = s.hold := by
    simp -implicitDefEqProofs [u7, hu5]
  clear_value u7
  simp -implicitDefEqProofs [hu5, hu7, State.hold_ite]

@[simp] theorem State.judge_hold (s : State) (t : Nat) : (s.judge t).hold = s.hold := by
  unfold State.judge
  extract_lets u1 u2 u3 u4 u5
  split
  · extract_lets u6 u7 u8 u9
    have hu8 : u8.hold = s.hold := by
      simp -implicitDefEqProofs [u8]
    clear_value u8
    have hu9 : u9.hold = s.hold := by
      simp -implicitDefEqProofs [u9, hu8, State.hold_ite]
    clear_value u9
    simp -implicitDefEqProofs [hu9, State.hold_ite]

@[simp] theorem State.setLgroup_hold (s : State) (g : Nat) (x : LampGroup) : (s.setLgroup g x).hold = s.hold := by
  unfold State.setLgroup
  simp -implicitDefEqProofs

@[simp] theorem State.setLengine_hold (s : State) (e : Nat) (x : LampEngine) : (s.setLengine e x).hold = s.hold := by
  unfold State.setLengine
  simp -implicitDefEqProofs

@[simp] theorem State.lampSettle_hold (s : State) : s.lampSettle.hold = s.hold := by
  unfold State.lampSettle
  simp -implicitDefEqProofs [State.hold_ite]

@[simp] theorem State.setHold_hold (s : State) (link brown : Bool) : (s.setHold link brown).hold = s.hold := by
  unfold State.setHold
  extract_lets u1 u2 u3 u4
  have hu3 : u3.hold = s.hold := by
    simp -implicitDefEqProofs [u3]
  clear_value u3
  have hu4 : u4.hold = s.hold := by
    simp -implicitDefEqProofs [u4, hu3, State.hold_ite]
  clear_value u4
  simp -implicitDefEqProofs [hu4, State.hold_ite]

@[simp] theorem State.patternEval_hold (s : State) (e phi : Nat) : (s.patternEval e phi).hold = s.hold := by
  unfold State.patternEval
  extract_lets u1 u2 u3 u4 u5 u6 u7
  have hu4 : u4.hold = s.hold := by
    simp -implicitDefEqProofs [u4]
  clear_value u4
  have hu5 : u5.hold = s.hold := by
    simp -implicitDefEqProofs [u5, hu4]
  clear_value u5
  have hu7 : u7.hold = s.hold := by
    simp -implicitDefEqProofs [u7, hu5]
  clear_value u7
  simp -implicitDefEqProofs [hu7]

@[simp] theorem State.patternTally_hold (s : State) (n : Nat) : (s.patternTally n).hold = s.hold := by
  unfold State.patternTally
  simp -implicitDefEqProofs

@[simp] theorem State.freeBerth_hold (s : State) (i : Nat) : (s.freeBerth i).hold = s.hold := by
  unfold State.freeBerth
  simp -implicitDefEqProofs [State.hold_ite]

@[simp] theorem State.runReleases_hold (s : State) (m : Nat) : (s.runReleases m).hold = s.hold := by
  unfold State.runReleases
  extract_lets u1 u2 u3
  have hu3 : u3.hold = s.hold := by
    simp -implicitDefEqProofs [u3]
  clear_value u3
  refine (foldl_hold _ _ fun v4 x4 => ?_).trans ?_
  · extract_lets u5
    have hu5 : u5.hold = v4.hold := by
      simp -implicitDefEqProofs [u5]
    clear_value u5
    split
    · simp -implicitDefEqProofs [hu5]
    · simp -implicitDefEqProofs [hu5]
  · simp -implicitDefEqProofs [hu3]

@[simp] theorem State.collect_hold (s : State) : s.collect.hold = s.hold := by
  unfold State.collect
  simp -implicitDefEqProofs [State.hold_ite]

@[simp] theorem State.rsvSettle_hold (s : State) : s.rsvSettle.hold = s.hold := by
  unfold State.rsvSettle
  extract_lets u1 u2 u3
  have hu2 : u2.hold = s.hold := by
    simp -implicitDefEqProofs [u2]
  clear_value u2
  have hu3 : u3.hold = s.hold := by
    simp -implicitDefEqProofs [u3, hu2]
  clear_value u3
  simp -implicitDefEqProofs [hu3]

@[simp] theorem State.clearFirst_hold (s : State) : s.clearFirst.hold = s.hold := by
  unfold State.clearFirst
  simp -implicitDefEqProofs

@[simp] theorem State.witness_hold (s : State) (t : Nat) (st : TileStatus) : (s.witness t st).hold = s.hold := by
  unfold State.witness
  simp -implicitDefEqProofs [State.hold_ite]

@[simp] theorem State.chainSettle_hold (s : State) (l : Nat) : (s.chainSettle l).hold = s.hold := by
  unfold State.chainSettle
  extract_lets u1 u2 u3 u4 u5 u6 u7 u8 u9
  have hu2 : u2.hold = s.hold := by
    simp -implicitDefEqProofs [u2]
  clear_value u2
  have hu7 : u7.hold = s.hold := by
    simp -implicitDefEqProofs [u7, hu2]
  clear_value u7
  have hu9 : u9.hold = s.hold := by
    simp -implicitDefEqProofs [u9, hu7, State.hold_ite]
  clear_value u9
  simp -implicitDefEqProofs [hu7, hu9, State.hold_ite]

@[simp] theorem State.statusTemp_hold (s : State) (t : Nat) (st : TileStatus) : (s.statusTemp t st).hold = s.hold := by
  unfold State.statusTemp
  simp -implicitDefEqProofs [State.hold_ite]

@[simp] theorem State.overrun_hold (s : State) (hit : Bool) : (s.overrun hit).hold = s.hold := by
  unfold State.overrun
  extract_lets u1 u2
  have hu2 : u2.hold = s.hold := by
    simp -implicitDefEqProofs [u2]
  clear_value u2
  simp -implicitDefEqProofs [hu2, State.hold_ite]

@[simp] theorem State.rasterEnd_hold (s : State) : s.rasterEnd.hold = s.hold := by
  unfold State.rasterEnd
  extract_lets u1
  have hu1 : u1.hold = s.hold := by
    simp -implicitDefEqProofs [u1, State.hold_ite]
  clear_value u1
  split
  · simp -implicitDefEqProofs [hu1, State.hold_ite]
  · simp -implicitDefEqProofs

@[simp] theorem State.endSession_hold (s : State) (id : Nat) : (s.endSession id).hold = s.hold := by
  unfold State.endSession
  simp -implicitDefEqProofs

@[simp] theorem State.skipTallies_hold (s : State) (n : Nat) : (s.skipTallies n).hold = s.hold := by
  unfold State.skipTallies
  simp -implicitDefEqProofs [State.hold_ite]

@[simp] theorem foldl_time {α : Type} {f : State → α → State} (l : List α) (s : State) (hf : ∀ u x, (f u x).time = u.time) :
  (l.foldl f s).time = s.time := foldl_keeps (fun u : State => u.time) hf l s

theorem State.time_ite {c : Prop} [Decidable c] (a b : State) : (if c then a else b).time = if c then a.time else b.time := apply_ite ..

@[simp] theorem State.wrWords_time (s : State) (a : Nat) (ws : List Nat) : (s.wrWords a ws).time = s.time := by
  induction ws generalizing s a with
  | nil => rfl
  | cons w ws ih => exact ih ..

@[simp] theorem State.lineOut_time (s : State) (l c n : Nat) (bs : List SlkBlock) : (s.lineOut l c n bs).time = s.time := by
  unfold State.lineOut
  split <;> rfl

@[simp] theorem State.setLinkTx_time (s : State) (k : Nat) (x : LinkTx) : (s.setLinkTx k x).time = s.time := rfl

@[simp] theorem State.send_time (s : State) (a : String) (b : Nat) (c : List Nat) : (s.send a b c).time = s.time := rfl

@[simp] theorem State.txSend_time (s : State) (k : Nat) (p : TxPacket) (c : Nat) : (s.txSend k p c).time = s.time := by
  unfold State.txSend
  dsimp only
  split
  · rfl
  · simp -implicitDefEqProofs [State.time_ite]

@[simp] theorem txDrain_time (n : Nat) (s : State) (k : Nat) : (State.txDrain n s k).time = s.time := by
  induction n generalizing s with
  | zero => rfl
  | succ n ih =>
    unfold State.txDrain
    dsimp only
    split
    · rfl
    · split
      · rfl
      · split
        · rw [ih, State.txSend_time]
        · rfl

@[simp] theorem State.keepWrite_time (s : State) (i : Nat) (ws : List Nat) : (s.keepWrite i ws).time = s.time := by
  rw [State.keepWrite, State.keepCheck, State.wr_time, State.wrWords_time]

@[simp] theorem State.notify_time (s : State) (code sev source : Nat) (data : List Nat) : (s.notify code sev source data).time = s.time := by
  unfold State.notify
  simp -implicitDefEqProofs

@[simp] theorem State.sendBlocks_time (s : State) (kind : String) (lane : Nat) (bs : List SlkBlock) : (s.sendBlocks kind lane bs).time = s.time := by
  unfold State.sendBlocks
  simp -implicitDefEqProofs

@[simp] theorem State.modLane_time (s : State) (l : Nat) (f : Lane → Lane) : (s.modLane l f).time = s.time := by
  unfold State.modLane
  simp -implicitDefEqProofs

@[simp] theorem State.setLaneBit_time (s : State) (l i : Nat) (b : Bool) : (s.setLaneBit l i b).time = s.time := by
  unfold State.setLaneBit
  simp -implicitDefEqProofs

@[simp] theorem State.condClear_time (s : State) (d i : Nat) : (s.condClear d i).time = s.time := by
  unfold State.condClear
  extract_lets u1 u2
  split
  · rename_i w3 w4 w5
    simp -implicitDefEqProofs [State.time_ite]
  · simp -implicitDefEqProofs

@[simp] theorem State.setTx_time (s : State) (l : Nat) (m : LaneTx) : (s.setTx l m).time = s.time := by
  unfold State.setTx
  simp -implicitDefEqProofs [State.time_ite]

@[simp] theorem State.txPump_time (s : State) (k : Nat) : (s.txPump k).time = s.time := by
  unfold State.txPump
  simp -implicitDefEqProofs

@[simp] theorem State.enqueue_time (s : State) (k : Nat) (p : TxPacket) : (s.enqueue k p).time = s.time := by
  unfold State.enqueue
  extract_lets u1 u2
  have hu1 : u1.time = s.time := by
    simp -implicitDefEqProofs [u1]
  clear_value u1
  simp -implicitDefEqProofs [hu1]

@[simp] theorem State.setLpi_time (s : State) (l : Nat) (x : LpiState) : (s.setLpi l x).time = s.time := by
  unfold State.setLpi
  simp -implicitDefEqProofs

@[simp] theorem State.lpiWake_time (s : State) (l : Nat) : (s.lpiWake l).time = s.time := by
  unfold State.lpiWake
  extract_lets u1 u2
  have hu2 : u2.time = s.time := by
    simp -implicitDefEqProofs [u2]
  clear_value u2
  simp -implicitDefEqProofs [hu2, State.time_ite]

@[simp] theorem State.demandAdd_time (s : State) (g cls : Nat) (p : List Byte) : (s.demandAdd g cls p).time = s.time := by
  unfold State.demandAdd
  simp -implicitDefEqProofs

@[simp] theorem State.packetAt_time (s : State) (ready k cls : Nat) (kind : String) (p : List Byte) : (s.packetAt ready k cls kind p).time = s.time := by
  unfold State.packetAt
  extract_lets u1
  have hu1 : u1.time = s.time := by
    simp -implicitDefEqProofs [u1]
  clear_value u1
  simp -implicitDefEqProofs [hu1, State.time_ite]

@[simp] theorem State.packet_time (s : State) (k : Nat) (kind : String) (p : List Byte) : (s.packet k kind p).time = s.time := by
  unfold State.packet
  simp -implicitDefEqProofs

@[simp] theorem State.groupSend_time (s : State) (g : Nat) (kind : String) (p : List Byte) : (s.groupSend g kind p).time = s.time := by
  unfold State.groupSend
  simp -implicitDefEqProofs [State.time_ite]

@[simp] theorem State.originate_time (s : State) (g : Nat) (kind : String) (p : List Byte) : (s.originate g kind p).time = s.time := by
  unfold State.originate
  simp -implicitDefEqProofs [State.time_ite]

@[simp] theorem State.ownSeq_time (s : State) : s.ownSeq.2.time = s.time := by
  unfold State.ownSeq
  simp -implicitDefEqProofs

@[simp] theorem State.twinSend_time (s : State) (kind : String) (code : Nat) (fields : List Nat) : (s.twinSend kind code fields).time = s.time := by
  unfold State.twinSend
  simp -implicitDefEqProofs [State.time_ite]

@[simp] theorem State.servoSettle_time (s : State) : s.servoSettle.time = s.time := by
  unfold State.servoSettle
  simp -implicitDefEqProofs

@[simp] theorem State.setOutQ_time (s : State) (q : Nat) (x : OutQ) : (s.setOutQ q x).time = s.time := by
  unfold State.setOutQ
  extract_lets u1 u2 u3
  have hu3 : u3.time = s.time := by
    simp -implicitDefEqProofs [u3]
  clear_value u3
  simp -implicitDefEqProofs [hu3]

@[simp] theorem State.fillOutQ_time (s : State) (q : Nat) : (s.fillOutQ q).time = s.time := by
  unfold State.fillOutQ
  simp -implicitDefEqProofs

@[simp] theorem State.pierPush_time (s : State) (q ptype src : Nat) (bs : List Byte) : (s.pierPush q ptype src bs).time = s.time := by
  unfold State.pierPush
  extract_lets u1 u2 u3 u4
  have hu3 : u3.time = s.time := by
    simp -implicitDefEqProofs [u3, State.time_ite]
  clear_value u3
  simp -implicitDefEqProofs [hu3, State.time_ite]

@[simp] theorem State.setLgroup_time (s : State) (g : Nat) (x : LampGroup) : (s.setLgroup g x).time = s.time := by
  unfold State.setLgroup
  simp -implicitDefEqProofs

@[simp] theorem State.setLengine_time (s : State) (e : Nat) (x : LampEngine) : (s.setLengine e x).time = s.time := by
  unfold State.setLengine
  simp -implicitDefEqProofs

@[simp] theorem State.patternEval_time (s : State) (e phi : Nat) : (s.patternEval e phi).time = s.time := by
  unfold State.patternEval
  extract_lets u1 u2 u3 u4 u5 u6 u7
  have hu4 : u4.time = s.time := by
    simp -implicitDefEqProofs [u4]
  clear_value u4
  have hu5 : u5.time = s.time := by
    simp -implicitDefEqProofs [u5, hu4]
  clear_value u5
  have hu7 : u7.time = s.time := by
    simp -implicitDefEqProofs [u7, hu5]
  clear_value u7
  simp -implicitDefEqProofs [hu7]

@[simp] theorem State.patternTally_time (s : State) (n : Nat) : (s.patternTally n).time = s.time := by
  unfold State.patternTally
  simp -implicitDefEqProofs

@[simp] theorem State.skipTallies_time (s : State) (n : Nat) : (s.skipTallies n).time = s.time := by
  unfold State.skipTallies
  simp -implicitDefEqProofs [State.time_ite]

end Sys2Proof.Machine
end

section
/-! ### The presentation instant (R20) -/

namespace Sys2Proof.Machine

/-- A waiting rate adjustment taken. -/
def State.adjTaken (s : State) : State :=
  match s.time.adjNext with
  | some a => ({ s with time := { s.time with adj := a, adjNext := none } }).servoSettle
  | none => s

theorem State.adjTaken_spec (s : State) :
    s.adjTaken.hold = s.hold ∧ s.adjTaken.pipe = s.pipe ∧ s.adjTaken.time.adj = s.time.adjNext.getD s.time.adj
      ∧ s.adjTaken.time.adjNext = none := by
  unfold State.adjTaken
  split
  · next a h => rw [h]; exact ⟨rfl, rfl, rfl, rfl⟩
  · next h => rw [h]; exact ⟨rfl, rfl, rfl, rfl⟩

/-- With no commit that waits, the instant of a tally takes a waiting rate adjustment, and is then past. -/
theorem State.present_noCommits {s : State} {n : Nat} (hdue : s.tp n ≤ s.ns) (hfirst : notYet s.pipe.presented n = true)
    (hlatched : s.pipe.latched = []) (hskip : s.skipped n = false) :
    s.present n = ((s.adjTaken.setPipe fun p => { p with
      latched := p.latched.filter fun c => !(decide (c.1 ≤ n) && !atRaster c.2) }).patternTally n).setPipe fun p =>
        { p with presented := some n } := by
  have hgo : ¬ (s.ns < s.tp n ∨ s.skipped n ∨ notYet s.pipe.presented n = false) := by
    simp [hskip, hfirst, Nat.not_lt.mpr hdue]
  have htake : ∀ u : State, u.pipe.latched = [] →
      ((u.takeLatched n fun k => !atRaster k).1.foldl (State.applyInstant n) (u.takeLatched n fun k => !atRaster k).2)
        = u.setPipe fun p => { p with latched := p.latched.filter fun c => !(decide (c.1 ≤ n) && !atRaster c.2) } := by
    intro u hu
    simp only [State.takeLatched, hu, List.filter_nil, List.map_nil, List.foldl_nil]
  have hnone : s.adjTaken.pipe.latched = [] := (congrArg PipeState.latched s.adjTaken_spec.2.1).trans hlatched
  rw [← htake _ hnone]
  exact if_neg hgo

/-- Settles O20: the instant that is due takes the adjustment that waits. -/
theorem presentationInstant : Obligations.PresentationInstant := by
  intro dt n s hcore hdue hfirst hlatched hskip
  refine completes_eq rfl hcore (State.present_noCommits (s := s.advance dt) hdue hfirst hlatched hskip) ?_
  obtain ⟨hhold, -, hadj, hnext⟩ := (s.advance dt).adjTaken_spec
  refine ⟨rfl, ?_, ?_, sameHold_of_hold ?_⟩
  · rw [acted_time, State.setPipe, State.patternTally_time]
    exact hadj
  · rw [acted_time, State.setPipe, State.patternTally_time]
    exact hnext
  · rw [acted_hold, State.setPipe_hold, State.patternTally_hold, State.setPipe_hold]
    exact hhold

end Sys2Proof.Machine
end

section
/-! ### Steps of the ledger (R61 to R64) -/

namespace Sys2Proof.Machine

theorem State.setAdj_step (s : State) (a : Int) :
    (s.setAdj a).time.stepAt = s.time.stepAt ∧ (s.setAdj a).time.stepPending = s.time.stepPending
      ∧ (s.setAdj a).time.stepDelta = s.time.stepDelta := by
  unfold State.setAdj
  dsimp only
  split_ifs <;> exact ⟨rfl, rfl, rfl⟩

/-- What fixes a step writes the time as the step and its rate do. -/
theorem State.fixStep_time (s : State) (d : Int) (n : Nat) :
    (s.fixStep d n).time = (((({ s with time := { s.time with
      stepPending := true, stepAt := some n, lastStep := some (n % 2 ^ 32, d) } } : State).setStep d).setAdj s.time.refRate)).time := by
  unfold State.fixStep
  dsimp only
  rw [State.servoSettle_time, State.time_ite, State.twinSend_time, ite_self]

/-- A step that is fixed waits for its tally with its amount. -/
theorem State.fixStep_step (s : State) (d : Int) (n : Nat) :
    (s.fixStep d n).time.stepAt = some n ∧ (s.fixStep d n).time.stepPending = true ∧ (s.fixStep d n).time.stepDelta = d := by
  rw [State.fixStep_time]
  exact State.setAdj_step ..

/-- R62: an accept of a step that is pending and not fixed fixes it at the first frame boundary at least 1 ms on. -/
theorem State.stepAccept_pending {s : State} (hp : s.time.stepPending = true) (ha : s.time.stepAt = none) :
    s.stepAccept = (s.fixStep s.time.stepDelta (Machine.firstTally s.rate (s.ns + 1000000)), Machine.firstTally s.rate (s.ns + 1000000)) := by
  rw [State.stepAccept, if_neg (by simp [hp]), ha]

theorem State.stepAccept_none {s : State} (hp : s.time.stepPending = false) : s.stepAccept = (s, 0) := by
  rw [State.stepAccept, if_pos (by simp [hp])]

theorem State.stepReject_pending {s : State} (hp : s.time.stepPending = true) (ha : s.time.stepAt = none) :
    s.stepReject = ((({ s with time := { s.time with stepPending := false, overThr := 0 } }).setStep 0).condClear 33 0).servoSettle :=
  if_pos ⟨hp, by rw [ha]; rfl⟩

theorem State.stepReject_none {s : State} (hp : s.time.stepPending = false) : s.stepReject = s :=
  if_neg (by simp [hp])

theorem State.servoSettle_regSide (s : State) : RegSide (fun a => a = Reg.TIME_SERVO_STAT ∨ a = Reg.TIME_FREQ_ADJ) s s.servoSettle :=
  ((RegSide.refl _ s).wn _ (.inl rfl)).wn _ (.inr rfl)

theorem RegSide.pair {p : Nat → Prop} {s t : State} (h : RegSide p s t) {a : Nat} (hlow : ¬ p a) (hhigh : ¬ p (a + 4)) :
    t.pair a = s.pair a := by
  rw [State.pair, State.pair, h.rn hlow, h.rn hhigh]

/-- The amount of a step that is no longer pending reads 0. -/
theorem State.pair_setStep_zero (s : State) : (s.setStep 0).pair Reg.TIME_STEP = 0 := by
  rw [State.setStep, State.pair_setPair]
  rfl

/-- A Pier's message is performed unless the device is in service mode. -/
theorem State.request_pier {s : State} (q type : Nat) (body : List Byte) (f : State → State) (h : s.serviceMode = false) :
    s.request (.pier q) type body f = s.asking (doorReq (.pier q)) f := by
  have hadmit : s.admitReq (.pier q) type body = (s, true) := by
    simp only [State.admitReq, h]
    rfl
  rw [State.request, hadmit]

theorem State.respond_pier_time (s : State) (q type status : Nat) (body : List Byte) :
    (s.respond (.pier q) type status body).time = s.time := by
  rw [State.respond, State.respondFrom, State.pierPush_time]

/-- Exchanges dropped leave the time but for the counts of measurements. -/
theorem State.dropExchanges_keeps (s : State) (k : Nat) :
    ∃ slk counts, s.dropExchanges k = { s with slk := slk, time := { s.time with counts := counts } } := by
  unfold State.dropExchanges
  split
  · split
    · exact ⟨s.slk, s.time.counts, rfl⟩
    · unfold State.measureBroken
      split
      · exact ⟨_, _, rfl⟩
      · exact ⟨_, s.time.counts, rfl⟩
  · exact ⟨s.slk, s.time.counts, rfl⟩

/-- A step of the ledger moves it by its amount. -/
theorem State.stepLedger_keeps (s : State) (d : Int) :
    ∃ slk counts led, led = ((s.time.led : Int) + d * (ledNs : Nat)).toNat
      ∧ s.stepLedger d = { s with slk := slk, time := { s.time with counts := counts, led := led } } := by
  unfold State.stepLedger
  split
  · next h => exact ⟨s.slk, s.time.counts, s.time.led, by simp [h], rfl⟩
  · generalize ((s.time.led : Int) + d * (ledNs : Nat)).toNat = led
    refine List.foldlRecOn (motive := fun u : State => ∃ slk counts l, l = led ∧ u = { s with
      slk := slk, time := { s.time with counts := counts, led := l } }) _ _ ⟨s.slk, s.time.counts, _, rfl, rfl⟩ fun u hu e _ => ?_
    obtain ⟨slk, counts, l, hl, rfl⟩ := hu
    obtain ⟨slk', counts', h⟩ := State.dropExchanges_keeps { s with slk := slk, time := { s.time with counts := counts, led := l } } e.1
    exact ⟨slk', counts', l, hl, h⟩

theorem State.pair_skipTallies (s : State) (n a : Nat) : (s.skipTallies n).pair a = s.pair a := by
  unfold State.skipTallies
  split <;> rfl

/-- R64: at its tally's boundary a fixed step moves the ledger, is done, and reads 0; with no cue it handles none. -/
theorem State.stepApply_due {s : State} {n : Nat} (ha : s.time.stepAt = some n) (hd : s.tp n ≤ s.ns) (hcues : s.cues.slots = []) :
    ∃ slk counts led, led = ((s.time.led : Int) + s.time.stepDelta * (ledNs : Nat)).toNat ∧ s.stepApply =
      (((({ s with slk := slk, time := { s.time with
        counts := counts, led := led, stepPending := false, stepAt := none, overThr := 0, inLock := 0 } } : State).setStep 0).notify
          0x51 0 0 [n % 2 ^ 32]).servoSettle).skipTallies n := by
  obtain ⟨slk, counts, led, hled, h⟩ := s.stepLedger_keeps s.time.stepDelta
  refine ⟨slk, counts, led, hled, ?_⟩
  have hcue : ∀ (u : State) b, u.cues = s.cues → u.cueStep b = u := by
    intro u b hu
    rw [State.cueStep, State.pendingCues, hu, hcues]
    rfl
  have hskip : ∀ u : State, (u.skipTallies n).cues = u.cues := by
    intro u
    unfold State.skipTallies
    split <;> rfl
  unfold State.stepApply
  rw [ha]
  refine (if_neg hd.not_gt).trans ?_
  dsimp only
  rw [h]
  refine (hcue _ _ ?_).trans ?_
  · exact hskip _
  · rfl

theorem State.stepApply_spec {s : State} {n : Nat} (ha : s.time.stepAt = some n) (hd : s.tp n ≤ s.ns) (hcues : s.cues.slots = []) :
    s.stepApply.time.led = ((s.time.led : Int) + s.time.stepDelta * (ledNs : Nat)).toNat ∧ s.stepApply.time.stepAt = none
      ∧ s.stepApply.time.stepPending = false ∧ s.stepApply.pair Reg.TIME_STEP = 0 ∧ s.stepApply.hold = s.hold := by
  obtain ⟨slk, counts, led, hled, h⟩ := State.stepApply_due ha hd hcues
  rw [← hled, h, State.skipTallies_time, State.servoSettle_time, State.notify_time, State.pair_skipTallies,
    (State.servoSettle_regSide _).pair (by decide) (by decide), State.skipTallies_hold, State.servoSettle_hold, State.notify_hold]
  exact ⟨rfl, rfl, rfl, State.pair_setStep_zero _, rfl⟩

/-- Settles O25: each request finds a step pending or not; the step that is due moves the ledger. -/
theorem stepAdjudicated : Obligations.StepAdjudicated := by
  intro dt n req s hcore
  refine ⟨fun hp ha => ?accept, fun hp => ?acceptNone, fun hp ha => ?reject, fun hp ha hserv => ?pier, fun hp => ?rejectNone,
    fun ha hd hcues => ?apply⟩
  case accept =>
    refine completes_asked (f := fun s => s.stepAccept.1.emit (.answer req 0 [s.stepAccept.2])) rfl hcore
      (congrArg (fun p : State × Nat => p.1.emit (.answer req 0 [p.2]))
        (State.stepAccept_pending (s := (s.advance dt).asked req) hp ha)) ?_
    obtain ⟨hat, hpend, hdelta⟩ := ((s.advance dt).asked req).fixStep_step s.time.stepDelta
      (firstTally s.rate ((s.advance dt).ns + 1000000))
    exact ⟨hat, hpend, rfl, hdelta, sameHold_of_hold (State.fixStep_hold ..)⟩
  case acceptNone =>
    refine completes_asked (f := fun s => s.stepAccept.1.emit (.answer req 0 [s.stepAccept.2])) rfl hcore
      (congrArg (fun p : State × Nat => p.1.emit (.answer req 0 [p.2]))
        (State.stepAccept_none (s := (s.advance dt).asked req) hp)) ?_
    exact ⟨rfl, rfl, fun _ => rfl, fun _ => rfl⟩
  case reject =>
    refine completes_asked (f := fun s => s.stepReject.emit (.answer req 0 [0])) rfl hcore
      (congrArg (fun u : State => u.emit (.answer req 0 [0]))
        (State.stepReject_pending (s := (s.advance dt).asked req) hp ha)) ?_
    have hside := (((({ (s.advance dt).asked req with time := { (s.advance dt).time with
      stepPending := false, overThr := 0 } } : State).setStep 0).condClear 33 0)).servoSettle_regSide
    have hcond := condClear_faultSide (({ (s.advance dt).asked req with time := { (s.advance dt).time with
      stepPending := false, overThr := 0 } } : State).setStep 0) 33 0
    have htime := hside.time.trans hcond.time
    refine ⟨(congrArg TimeState.stepPending htime).trans rfl, ?_, (congrArg TimeState.servo htime).trans rfl, rfl,
      sameHold_of_hold (hside.hold.trans hcond.hold)⟩
    exact (hside.pair (by decide) (by decide)).trans ((hcond.pair (by decide) (by decide)).trans (State.pair_setStep_zero _))
  case pier =>
    refine completes_eq rfl hcore (State.request_pier (s := s.advance dt) n 0x50 _ _ hserv) ?_
    obtain ⟨hat, hpend, -⟩ := ((s.advance dt).asked .pier).fixStep_step s.time.stepDelta
      (firstTally s.rate ((s.advance dt).ns + 1000000))
    have haccept := State.stepAccept_pending (s := (s.advance dt).asked .pier) hp ha
    have htime : ∀ u m, (State.respond u (.pier n) 0x50 0 (beBytes 4 m)).time = u.time := fun u m => u.respond_pier_time n _ _ _
    refine ⟨?_, ?_, sameHold_of_hold ?_⟩
    · rw [acted_time]
      show ((State.stepAccept ((s.advance dt).asked .pier)).1.respond (.pier n) 0x50 0 _).time.stepAt = _
      rw [htime, haccept]
      exact hat
    · rw [acted_time]
      show ((State.stepAccept ((s.advance dt).asked .pier)).1.respond (.pier n) 0x50 0 _).time.stepPending = _
      rw [htime, haccept]
      exact hpend
    · rw [acted_hold]
      show ((State.stepAccept ((s.advance dt).asked .pier)).1.respond (.pier n) 0x50 0 _).hold = _
      rw [State.respond_hold, haccept, State.fixStep_hold]
      rfl
  case rejectNone =>
    refine completes_asked (f := fun s => s.stepReject.emit (.answer req 0 [0])) rfl hcore
      (congrArg (fun u : State => u.emit (.answer req 0 [0]))
        (State.stepReject_none (s := (s.advance dt).asked req) hp)) ?_
    exact ⟨rfl, fun _ => rfl, fun _ => rfl⟩
  case apply =>
    obtain ⟨hled, hat, hpend, hpair, hhold⟩ := State.stepApply_spec (s := s.advance dt) ha hd hcues
    exact completes_act (f := State.stepApply) rfl hcore ⟨hled, hat, hpend, hpair, sameHold_of_hold hhold⟩

end Sys2Proof.Machine
end

section
/-! ### What sending on the links leaves as it was (R228, R231, R254) -/

namespace Sys2Proof.Machine

/-- The registers that sending may write: counters of the groups and of pixel packets, and the state of the chains. -/
def linkReg (a : Nat) : Bool :=
  decide (0x40100 ≤ a ∧ a < 0x401c0) || decide (a = Reg.SCAN_SENT) || decide (a = Reg.SCAN_SENT + 4)
    || decide (0x90404 ≤ a ∧ a < 0x90784)

/-- Two states that differ by what was sent alone. -/
def LinkSide (s t : State) : Prop :=
  ∃ regs out lanes phy lpi q, t = { s with
      regs := regs, out := out, lanes := lanes, phy := phy, slk := { s.slk with lpi := lpi }
      ferry := { s.ferry with relaySeq := q } }
    ∧ ∀ a, linkReg a = false → t.rd a = s.rd a

namespace LinkSide

variable {s t u : State}

theorem refl (s : State) : LinkSide s s :=
  ⟨s.regs, s.out, s.lanes, s.phy, s.slk.lpi, s.ferry.relaySeq, rfl, fun _ _ => rfl⟩

theorem trans (h : LinkSide s t) (k : LinkSide t u) : LinkSide s u := by
  obtain ⟨r, o, l, p, i, q, rfl, h⟩ := h
  obtain ⟨r', o', l', p', i', q', rfl, k⟩ := k
  exact ⟨r', o', l', p', i', q', rfl, fun a ha => (k a ha).trans (h a ha)⟩

theorem wn (h : LinkSide s t) {a : Nat} (n : Nat) (ha : linkReg a = true) : LinkSide s (t.wn a n) := by
  obtain ⟨r, o, l, p, i, q, rfl, h⟩ := h
  refine ⟨_, o, l, p, i, q, rfl, fun b hb => (State.rd_wr_ne _ _ fun e : b = a => ?_).trans (h b hb)⟩
  rw [e, ha] at hb
  cases hb

theorem bump (h : LinkSide s t) {a : Nat} (ha : linkReg a = true) (hb : linkReg (a + 4) = true) : LinkSide s (t.bump a) :=
  (h.wn _ ha).wn _ hb

theorem emit (h : LinkSide s t) (o : Output) : LinkSide s (t.emit o) := by
  obtain ⟨r, o', l, p, i, q, rfl, h⟩ := h
  exact ⟨r, _, l, p, i, q, rfl, h⟩

theorem phy (h : LinkSide s t) (p : PhyState) : LinkSide s { t with phy := p } := by
  obtain ⟨r, o, l, _, i, q, rfl, h⟩ := h
  exact ⟨r, o, l, p, i, q, rfl, h⟩

theorem modLane (h : LinkSide s t) (l : Nat) (f : Lane → Lane) : LinkSide s (t.modLane l f) := by
  obtain ⟨r, o, _, p, i, q, rfl, h⟩ := h
  exact ⟨r, o, _, p, i, q, rfl, h⟩

theorem setLpi (h : LinkSide s t) (l : Nat) (x : LpiState) : LinkSide s (t.setLpi l x) := by
  obtain ⟨r, o, l', p, _, q, rfl, h⟩ := h
  exact ⟨r, o, l', p, _, q, rfl, h⟩

theorem ite {c : Prop} [Decidable c] (h : LinkSide s t) (k : LinkSide s u) : LinkSide s (if c then t else u) := by
  split
  · exact h
  · exact k

theorem foldl {α : Type} {f : State → α → State} (h : LinkSide s t) (l : List α) (hf : ∀ u x, LinkSide u (f u x)) :
    LinkSide s (l.foldl f t) :=
  List.foldlRecOn l f h fun u hu x _ => hu.trans (hf u x)

theorem rd (h : LinkSide s t) {a : Nat} (ha : linkReg a = false) : t.rd a = s.rd a := by
  obtain ⟨_, _, _, _, _, _, _, h⟩ := h
  exact h a ha

theorem rn (h : LinkSide s t) {a : Nat} (ha : linkReg a = false) : t.rn a = s.rn a := congrArg _ (h.rd ha)
theorem fld (h : LinkSide s t) {a : Nat} (hi lo : Nat) (ha : linkReg a = false) : t.fld a hi lo = s.fld a hi lo := by
  rw [State.fld, h.rn ha]; rfl
theorem pair (h : LinkSide s t) {a : Nat} (hlow : linkReg a = false) (hhigh : linkReg (a + 4) = false) : t.pair a = s.pair a := by
  rw [State.pair, State.pair, h.rn hlow, h.rn hhigh]

theorem hold (h : LinkSide s t) : t.hold = s.hold := by obtain ⟨_, _, _, _, _, _, rfl, _⟩ := h; rfl
theorem time (h : LinkSide s t) : t.time = s.time := by obtain ⟨_, _, _, _, _, _, rfl, _⟩ := h; rfl
theorem pipe (h : LinkSide s t) : t.pipe = s.pipe := by obtain ⟨_, _, _, _, _, _, rfl, _⟩ := h; rfl
theorem tiles (h : LinkSide s t) : t.tiles = s.tiles := by obtain ⟨_, _, _, _, _, _, rfl, _⟩ := h; rfl
theorem cal (h : LinkSide s t) : t.cal = s.cal := by obtain ⟨_, _, _, _, _, _, rfl, _⟩ := h; rfl
theorem scan (h : LinkSide s t) : t.scan = s.scan := by obtain ⟨_, _, _, _, _, _, rfl, _⟩ := h; rfl
theorem twin (h : LinkSide s t) : t.twin = s.twin := by obtain ⟨_, _, _, _, _, _, rfl, _⟩ := h; rfl
theorem events (h : LinkSide s t) : t.events = s.events := by obtain ⟨_, _, _, _, _, _, rfl, _⟩ := h; rfl
theorem flt (h : LinkSide s t) : t.flt = s.flt := by obtain ⟨_, _, _, _, _, _, rfl, _⟩ := h; rfl
theorem watch (h : LinkSide s t) : t.watch = s.watch := by obtain ⟨_, _, _, _, _, _, rfl, _⟩ := h; rfl
theorem nvm (h : LinkSide s t) : t.nvm = s.nvm := by obtain ⟨_, _, _, _, _, _, rfl, _⟩ := h; rfl
theorem berths (h : LinkSide s t) : t.berths = s.berths := by obtain ⟨_, _, _, _, _, _, rfl, _⟩ := h; rfl
theorem macs (h : LinkSide s t) : t.macs = s.macs := by obtain ⟨_, _, _, _, _, _, rfl, _⟩ := h; rfl
theorem cues (h : LinkSide s t) : t.cues = s.cues := by obtain ⟨_, _, _, _, _, _, rfl, _⟩ := h; rfl
theorem pier (h : LinkSide s t) : t.pier = s.pier := by obtain ⟨_, _, _, _, _, _, rfl, _⟩ := h; rfl
theorem fixture (h : LinkSide s t) : t.fixture = s.fixture := by obtain ⟨_, _, _, _, _, _, rfl, _⟩ := h; rfl
theorem lamp (h : LinkSide s t) : t.lamp = s.lamp := by obtain ⟨_, _, _, _, _, _, rfl, _⟩ := h; rfl
theorem rsv (h : LinkSide s t) : t.rsv = s.rsv := by obtain ⟨_, _, _, _, _, _, rfl, _⟩ := h; rfl
theorem asker (h : LinkSide s t) : t.asker = s.asker := by obtain ⟨_, _, _, _, _, _, rfl, _⟩ := h; rfl
theorem clk (h : LinkSide s t) : t.clk = s.clk := by obtain ⟨_, _, _, _, _, _, rfl, _⟩ := h; rfl

theorem sameHold (h : LinkSide s t) : SameHold s t := sameHold_of_hold h.hold

end LinkSide

theorem setLinkTx_linkSide (s : State) (k : Nat) (x : LinkTx) : LinkSide s (s.setLinkTx k x) := (LinkSide.refl s).phy _

theorem lineOut_linkSide (s : State) (l c n : Nat) (bs : List SlkBlock) : LinkSide s (s.lineOut l c n bs) := by
  unfold State.lineOut
  split
  · exact .refl s
  · exact ((LinkSide.refl s).phy _).emit _

theorem linkReg_grp {k : Nat} (h : k < 3) (o : Nat) (ho : 0x40100 ≤ o ∧ o < 0x40140) : linkReg (o + 64 * k) = true := by
  have : 0x40100 ≤ o + 64 * k ∧ o + 64 * k < 0x401c0 := by omega
  simp [linkReg, this]

theorem txSend_linkSide (s : State) (k : Nat) (p : TxPacket) (clk : Nat) : LinkSide s (s.txSend k p clk) := by
  unfold State.txSend
  dsimp only
  split
  · exact setLinkTx_linkSide ..
  · refine LinkSide.foldl (LinkSide.emit ?_ _) _ fun u i => lineOut_linkSide ..
    split
    · next h =>
      exact (setLinkTx_linkSide ..).bump (linkReg_grp h 0x40120 (by decide)) (by
        rw [Reg.SLK_GRP_TX, Nat.add_right_comm]; exact linkReg_grp h 0x40124 (by decide))
    · exact .ite ((setLinkTx_linkSide ..).bump (by decide) (by decide)) (setLinkTx_linkSide ..)

theorem txDrain_linkSide (n : Nat) (s : State) (k : Nat) : LinkSide s (State.txDrain n s k) := by
  induction n generalizing s with
  | zero => exact .refl s
  | succ n ih =>
    unfold State.txDrain
    dsimp only
    split
    · exact .refl s
    · split
      · exact .refl s
      · split
        · exact (txSend_linkSide ..).trans (ih _)
        · exact .refl s

theorem txPump_linkSide (s : State) (k : Nat) : LinkSide s (s.txPump k) := txDrain_linkSide ..

theorem enqueue_linkSide (s : State) (k : Nat) (p : TxPacket) : LinkSide s (s.enqueue k p) :=
  ((txPump_linkSide s k).trans (setLinkTx_linkSide ..)).trans (txPump_linkSide ..)

theorem sendBlocks_linkSide (s : State) (kind : String) (lane : Nat) (bs : List SlkBlock) :
    LinkSide s (s.sendBlocks kind lane bs) := ((LinkSide.refl s).emit _).trans (lineOut_linkSide ..)

theorem setTx_linkSide (s : State) (l : Nat) (m : LaneTx) : LinkSide s (s.setTx l m) := by
  unfold State.setTx
  split
  · exact .refl s
  · exact ((LinkSide.refl s).modLane _ _).emit _

theorem linkReg_linkStat {l : Nat} (h : l < 56) : linkReg (Reg.SCAN_LINK_STAT l) = true := by
  have : 0x90404 ≤ Reg.SCAN_LINK_STAT l ∧ Reg.SCAN_LINK_STAT l < 0x90784 := by simp only [Reg.SCAN_LINK_STAT]; omega
  simp [linkReg, this]

theorem lpiWake_linkSide (s : State) {l : Nat} (h : l < 56) : LinkSide s (s.lpiWake l) := by
  unfold State.lpiWake
  dsimp only
  split
  · exact ((((LinkSide.refl s).setLpi _ _).wn _ (linkReg_linkStat h)).trans (setTx_linkSide ..)).trans (sendBlocks_linkSide ..)
  · exact .refl s

theorem packetAt_linkSide (s : State) (ready k cls : Nat) (kind : String) (p : List Byte) :
    LinkSide s (s.packetAt ready k cls kind p) := by
  unfold State.packetAt
  split
  · next h => exact (lpiWake_linkSide s (by omega)).trans (enqueue_linkSide ..)
  · exact (LinkSide.ite ((LinkSide.refl s).phy _) (.refl s)).trans (enqueue_linkSide ..)

theorem packet_linkSide (s : State) (k : Nat) (kind : String) (p : List Byte) : LinkSide s (s.packet k kind p) :=
  packetAt_linkSide ..

/-- A device has three groups (Table 08.1). -/
theorem groupSend_linkSide (s : State) {g : Nat} (h : g < 3) (kind : String) (p : List Byte) :
    LinkSide s (s.groupSend g kind p) := by
  unfold State.groupSend
  split
  · exact ((LinkSide.refl s).phy _).bump (linkReg_grp h 0x40118 (by decide)) (by
      rw [Reg.SLK_GRP_SHED, Nat.add_right_comm]; exact linkReg_grp h 0x4011c (by decide))
  · exact packet_linkSide ..

theorem originate_linkSide (s : State) {g : Nat} (h : g < 3) (kind : String) (p : List Byte) :
    LinkSide s (s.originate g kind p) := .ite (.refl s) (groupSend_linkSide s h kind p)

theorem ownSeq_linkSide (s : State) : LinkSide s s.ownSeq.2 :=
  ⟨s.regs, s.out, s.lanes, s.phy, s.slk.lpi, _, rfl, fun _ _ => rfl⟩

theorem twinSend_linkSide (s : State) (kind : String) (code : Nat) (fields : List Nat) :
    LinkSide s (s.twinSend kind code fields) := by
  have hg : s.fld Reg.TWIN_CFG 2 1 < 4 := bits_lt _ _ _
  unfold State.twinSend
  dsimp only
  split
  · exact .refl s
  · exact (ownSeq_linkSide s).trans (originate_linkSide _ (by omega) _ _)

theorem mirrorOut_linkSide (s : State) (n : Nat) (fields : List Nat) : LinkSide s (s.mirrorOut n fields) :=
  .ite (twinSend_linkSide ..) (.refl s)

end Sys2Proof.Machine
end

section
/-! ### Timecode, word clock and snapshots (R72 to R77) -/

namespace Sys2Proof.Machine

theorem ltcInput_linkSide (s : State) (code : Nat) : ∃ u : State, (∃ x, u = { s with fixture := x }) ∧ LinkSide u (s.ltcInput code) := by
  unfold State.ltcInput
  split
  · exact ⟨s, ⟨s.fixture, rfl⟩, .refl s⟩
  · exact ⟨_, ⟨_, rfl⟩, mirrorOut_linkSide ..⟩

theorem State.cueCodeword_none {s : State} (h : s.cues.slots = []) (r code stamp : Nat) : s.cueCodeword r code stamp = s := by
  rw [State.cueCodeword, State.pendingCues, h]
  rfl

/-- A codeword's registers, and that one was seen. -/
def State.ltcSeen (s : State) (stat code at64 : Nat) : State :=
  let s := ((s.wn Reg.TIME_LTC_STAT stat).wn Reg.TIME_LTC_CODE code).setPair Reg.TIME_LTC_AT at64
  { s with time := { s.time with ltcLast := code, ltcSeen := true } }

theorem State.ltcSeen_spec (s : State) (stat code at64 : Nat) :
    (s.ltcSeen stat code at64).cues = s.cues ∧ (s.ltcSeen stat code at64).hold = s.hold
      ∧ (s.ltcSeen stat code at64).time.ltcSeen = true := ⟨rfl, rfl, rfl⟩

theorem State.ltcSeen_regs (s : State) (stat : Nat) (code : Word) (at64 : Nat) :
    (s.ltcSeen stat code.toNat at64).rd Reg.TIME_LTC_CODE = code
      ∧ (s.ltcSeen stat code.toNat at64).pair Reg.TIME_LTC_AT = at64 % 2 ^ 64
      ∧ (s.ltcSeen stat code.toNat at64).rn Reg.TIME_LTC_STAT = stat % 2 ^ 32 := by
  refine ⟨?_, State.pair_setPair _ _ _, ?_⟩
  · exact (State.rd_setPair_ne _ _ (by decide) (by decide)).trans (State.rd_wn_toNat _ _ _)
  · refine (congrArg BitVec.toNat (State.rd_setPair_ne _ _ (by decide) (by decide))).trans ?_
    exact (State.rn_wn_ne _ _ (by decide)).trans (State.rn_wn_self ..)

/-- R72: a codeword is stamped, and what follows is sent, recorded or clears the fault of its loss. -/
theorem State.codeword_seen (s : State) (code r ago : Nat) :
    ∃ err div : Bool, s.codeword code r ago =
      (((s.ltcSeen (1 + 2 * r + 16 * err.toNat + 32 * div.toNat) code (toLedger (s.ns - ago))).condClear 34 0).ltcInput
        code).cueCodeword r code (s.ns - ago) := by
  refine ⟨!(!s.time.ltcSeen || (tcFrames r code == (tcFrames r s.time.ltcLast + 1) % tcDay r)), !s.ltcDivides r, ?_⟩
  unfold State.codeword
  rfl

/-- With no cue, the work that follows a codeword's registers leaves them. -/
theorem State.ltcSeen_follow (s : State) (h : s.cues.slots = []) (r code stamp : Nat) :
    (∀ a, linkReg a = false → faultReg a = false →
        (((s.condClear 34 0).ltcInput code).cueCodeword r code stamp).rd a = s.rd a)
      ∧ (((s.condClear 34 0).ltcInput code).cueCodeword r code stamp).time = s.time
      ∧ (((s.condClear 34 0).ltcInput code).cueCodeword r code stamp).hold = s.hold := by
  have hcond := condClear_faultSide s 34 0
  obtain ⟨x, ⟨fix, hx⟩, hlink⟩ := ltcInput_linkSide (s.condClear 34 0) code
  have hcues : ((s.condClear 34 0).ltcInput code).cues.slots = [] := by
    obtain ⟨_, _, _, e, _⟩ := hcond
    rw [hlink.cues, hx, e]
    exact h
  rw [State.cueCodeword_none hcues]
  refine ⟨fun a ha hf => ?_, ?_, ?_⟩
  · rw [hlink.rd ha, hx]
    exact hcond.rd hf
  · rw [hlink.time, hx]
    exact hcond.time
  · rw [hlink.hold, hx]
    exact hcond.hold

theorem bits_ltcStat {r : Nat} (h : r < 6) (a b : Bool) :
    bits ((1 + 2 * r + 16 * a.toNat + 32 * b.toNat) % 2 ^ 32) 0 0 = 1
      ∧ bits ((1 + 2 * r + 16 * a.toNat + 32 * b.toNat) % 2 ^ 32) 3 1 = r := by
  have ha := a.toNat_le
  have hb := b.toNat_le
  simp only [bits]
  omega

/-- R72: the registers, the record and Hold after a codeword, with no cue. -/
theorem State.codeword_spec {s : State} (h : s.cues.slots = []) (code : Word) {r : Nat} (hr : r < 6) (ago : Nat) :
    (s.codeword code.toNat r ago).rd Reg.TIME_LTC_CODE = code
      ∧ (s.codeword code.toNat r ago).pair Reg.TIME_LTC_AT = toLedger (s.ns - ago) % 2 ^ 64
      ∧ (s.codeword code.toNat r ago).fld Reg.TIME_LTC_STAT 0 0 = 1
      ∧ (s.codeword code.toNat r ago).fld Reg.TIME_LTC_STAT 3 1 = r
      ∧ (s.codeword code.toNat r ago).time.ltcSeen = true ∧ (s.codeword code.toNat r ago).hold = s.hold := by
  obtain ⟨err, div, hword⟩ := s.codeword_seen code.toNat r ago
  rw [hword]
  generalize hstat : 1 + 2 * r + 16 * err.toNat + 32 * div.toNat = stat
  generalize toLedger (s.ns - ago) = at64
  obtain ⟨hcues, hhold, hseen⟩ := s.ltcSeen_spec stat code.toNat at64
  obtain ⟨hcode, hat, hst⟩ := s.ltcSeen_regs stat code at64
  obtain ⟨hrd, htime, hkeep⟩ := (s.ltcSeen stat code.toNat at64).ltcSeen_follow (by rw [hcues, h]) r code.toNat (s.ns - ago)
  obtain ⟨hone, hrate⟩ := bits_ltcStat hr err div
  rw [hstat] at hone hrate
  refine ⟨(hrd _ (by decide) (by decide)).trans hcode, ?_, ?_, ?_, (congrArg TimeState.ltcSeen htime).trans hseen, hkeep.trans hhold⟩
  · rw [State.pair, State.rn, State.rn, hrd _ (by decide) (by decide), hrd _ (by decide) (by decide)]
    exact hat
  · rw [State.fld, State.rn, hrd _ (by decide) (by decide)]
    exact (congrArg (bits · 0 0) hst).trans hone
  · rw [State.fld, State.rn, hrd _ (by decide) (by decide)]
    exact (congrArg (bits · 3 1) hst).trans hrate

theorem State.snapArm_queued {s : State} {id at64 : Nat} (hid : id ≠ 0) (hok : ledgerOk at64 = true)
    (htime : s.ns + 2000000 ≤ ofLedger at64) (hroom : s.time.snaps.length < 4) :
    s.snapArm id at64 false false =
      (({ s with time := { s.time with snaps := snapInsert ⟨id, ofLedger at64, false, false⟩ s.time.snaps, snapState := 1 } }).snapSettle,
        true) := by
  unfold State.snapArm
  refine (if_neg ?_).trans rfl
  simp [hid, hok, Nat.not_lt.mpr htime, hroom]

theorem State.snapArm_refused {s : State} {id at64 : Nat} (h : id = 0 ∨ s.ns + 2000000 > ofLedger at64 ∨ 4 ≤ s.time.snaps.length)
    (tiles caravan : Bool) :
    s.snapArm id at64 tiles caravan = (({ s with time := { s.time with snapState := 3 } }).snapSettle, false) := by
  unfold State.snapArm
  refine if_pos ?_
  rcases h with h | h | h
  · exact .inl h
  · refine .inr (.inr (.inl ?_))
    split <;> omega
  · exact .inr (.inr (.inr h))

theorem State.snapRequest_queued {s : State} {id at64 : Nat} (req : Requester) (hid : id ≠ 0) (hok : ledgerOk at64 = true)
    (htime : s.ns + 2000000 ≤ ofLedger at64) (hroom : s.time.snaps.length < 4) :
    s.snapRequest (.regs req) id at64 false false =
      ({ s with time := { s.time with snaps := snapInsert ⟨id, ofLedger at64, false, false⟩ s.time.snaps, snapState := 1 } }).snapSettle := by
  unfold State.snapRequest
  simp only [State.snapArm_queued hid hok htime hroom, State.respond, State.respondFrom, Bool.not_true, Bool.false_eq_true,
    and_false, if_false, Bool.not_false, if_true]

theorem State.snapRequest_refused {s : State} {id at64 : Nat} (req : Requester)
    (h : id = 0 ∨ s.ns + 2000000 > ofLedger at64 ∨ 4 ≤ s.time.snaps.length) (tiles caravan : Bool) :
    s.snapRequest (.regs req) id at64 tiles caravan = ({ s with time := { s.time with snapState := 3 } }).snapSettle := by
  unfold State.snapRequest
  simp only [State.snapArm_refused h, State.respond, State.respondFrom, Bool.not_true, Bool.false_eq_true, and_false, if_false]

/-- The reaction of a detector stands in its register. -/
theorem State.logOnly_congr {s t : State} {d : Nat} (h : t.rd (Reg.FLT_DET_CFG d) = s.rd (Reg.FLT_DET_CFG d)) :
    t.logOnly d = s.logOnly d := by
  rw [State.logOnly, State.detReaction, State.fld, State.rn, h]
  rfl

theorem State.regsBut_snapSettle {s u : State} (h : RegsBut [Reg.TIME_SNAP_STAT] s u) :
    RegsBut [Reg.TIME_SNAP_STAT] s u.snapSettle := h.wn (by simp) _

theorem State.pausedRegs_congr (s : State) (a : ScanState) (b : FixState) :
    ({ s with scan := a, fixture := b } : State).pausedRegs = { s.pausedRegs with scan := a, fixture := b } := by
  have hns : ∀ (u : State) m, ({ u with scan := a, fixture := b } : State).pausedNs m = u.pausedNs m := fun _ _ => rfl
  have key : ∀ (l : List Nat) (u : State),
      l.foldl (fun s m => s.setPair (Reg.MAC_PAUSED_NS m) (s.pausedNs m)) { u with scan := a, fixture := b }
        = { l.foldl (fun s m => s.setPair (Reg.MAC_PAUSED_NS m) (s.pausedNs m)) u with scan := a, fixture := b } := by
    intro l
    induction l with
    | nil => exact fun _ => rfl
    | cons m l ih =>
      intro u
      rw [List.foldl_cons, List.foldl_cons, ← ih, hns]
      rfl
  exact key _ s

/-- R76: a snapshot that is due latches every counter, with the counters of pauses brought up to date. -/
theorem State.snapFire_due {s : State} {a : SnapArm} (hq : s.time.snaps = [a]) (hdue : a.atNs ≤ s.ns) :
    (s.snapFire).time.snaps = [] ∧ (s.snapFire).time.snapId = a.id ∧ (s.snapFire).time.snapState = 2
      ∧ (s.snapFire).time.shadow = s.pausedRegs.regs.filter (fun e => isCounter e.1)
      ∧ RegsBut [Reg.TIME_SNAP_STAT] s s.snapFire ∧ s.snapFire.hold = s.hold := by
  have hpaused : ∀ a b, ({ s with scan := a, fixture := b } : State).pausedRegs.regs = s.pausedRegs.regs :=
    fun a b => (congrArg State.regs (s.pausedRegs_congr a b)).trans rfl
  unfold State.snapFire
  rw [hq]
  dsimp only
  rw [if_pos hdue, hpaused]
  exact ⟨rfl, rfl, rfl, rfl, State.regsBut_snapSettle (fun _ _ => rfl), (State.snapSettle_hold _).trans rfl⟩

/-- R395: a resolution that names a waiting timecode cue fixes it. -/
theorem State.cueFromLead_one {s : State} {i lb code due : Nat} {c : Cue} (hslots : s.cues.slots = [(i, c)]) (hst : c.state = 1)
    (hk : cKind c = 3) (hlb : cLabel c = lb) (hcode : cWord c 2 = code) (hfix : c.fixed = false) (hcount : c.counter ≠ 0) :
    s.cueFromLead lb code due =
      s.setCue i { c with dueNs := some due, fixed := true, dueTally := Machine.firstTally s.rate due } := by
  have hat : s.cueAt i = c := by simp [State.cueAt, hslots, tabGetD, tabGet?]
  have hnamed : (s.pendingCues.filter fun e => e.2.state == 1 && cKind e.2 == 3 && cLabel e.2 == lb && cWord e.2 2 == code
      && !e.2.fixed) = [(i, c)] := by
    simp [State.pendingCues, hslots, hst, hk, hlb, hcode, hfix]
  rw [State.cueFromLead, hnamed]
  refine Eq.trans (b := s.cueResolve i due true) rfl ?_
  rw [State.cueResolve, hat]
  exact if_neg hcount

theorem State.setCue_slots (s : State) (i : Nat) (c : Cue) : (s.setCue i c).cues.slots = tabSet s.cues.slots i c := rfl

/-- A measurement of the word clock: its registers, and the fault of an error above the audio limit. -/
def State.wclk (s : State) (rate : Fin 3) (ppm phase : Int) : State :=
  let out := decide (s.time.audioLimit < ppm.natAbs) && rate != 0
  let s := s.wn Reg.TIME_WCLK_STAT (rate.val + 4 * out.toNat)
  let s := (s.wn Reg.TIME_WCLK_PPM (unsigned 32 ppm)).wn Reg.TIME_WCLK_PHASE (unsigned 32 phase)
  if out then s.raiseOnce 35 0 (unsigned 32 ppm) else s.condClear 35 0

theorem unsigned_lt (n : Nat) (x : Int) : unsigned n x < 2 ^ n := by
  have hpos : (0 : Int) < ((2 ^ n : Nat) : Int) := by positivity
  have hlt := Int.emod_lt_of_pos x hpos
  have hge := Int.emod_nonneg x hpos.ne'
  rw [unsigned]
  omega

theorem State.wclk_spec (s : State) (rate : Fin 3) (ppm phase : Int) (hlog : s.logOnly 35 = true) :
    (s.wclk rate ppm phase).rn Reg.TIME_WCLK_STAT = rate + 4 * (decide (s.time.audioLimit < ppm.natAbs) && rate != 0).toNat
      ∧ (s.wclk rate ppm phase).rn Reg.TIME_WCLK_PPM = unsigned 32 ppm
      ∧ (s.wclk rate ppm phase).rn Reg.TIME_WCLK_PHASE = unsigned 32 phase
      ∧ (s.wclk rate ppm phase).time = s.time ∧ (s.wclk rate ppm phase).hold = s.hold := by
  have hppm := unsigned_lt 32 ppm
  have hphase := unsigned_lt 32 phase
  unfold State.wclk
  generalize (decide (s.time.audioLimit < ppm.natAbs) && rate != 0) = out
  generalize unsigned 32 ppm = p at *
  generalize unsigned 32 phase = q at *
  have hout := out.toNat_le
  have hv : (((s.wn Reg.TIME_WCLK_STAT (rate + 4 * out.toNat)).wn Reg.TIME_WCLK_PPM p).wn Reg.TIME_WCLK_PHASE q).logOnly 35 = true :=
    (State.logOnly_congr (((State.rd_wr_ne _ _ (by decide)).trans (State.rd_wr_ne _ _ (by decide))).trans
      (State.rd_wr_ne _ _ (by decide)))).trans hlog
  have hside := FaultSide.ite (p := out = true) (raiseOnce_faultSide _ 35 0 p hv)
    (condClear_faultSide (((s.wn Reg.TIME_WCLK_STAT (rate + 4 * out.toNat)).wn Reg.TIME_WCLK_PPM p).wn Reg.TIME_WCLK_PHASE q) 35 0)
  dsimp only
  refine ⟨?_, ?_, ?_, hside.time, hside.hold⟩
  · rw [hside.rn (by decide), State.rn_wn_ne _ _ (by decide), State.rn_wn_ne _ _ (by decide), State.rn_wn_self]
    exact Nat.mod_eq_of_lt (by omega)
  · rw [hside.rn (by decide), State.rn_wn_ne _ _ (by decide), State.rn_wn_self, Nat.mod_eq_of_lt hppm]
  · rw [hside.rn (by decide), State.rn_wn_self, Nat.mod_eq_of_lt hphase]

/-- Settles O28: the codeword, the word clock, the snapshot and the resolution do what their registers show. -/
theorem timecodeWordClockAndSnapshots : Obligations.TimecodeWordClockAndSnapshots := by
  intro dt ago id at64 lb code due i c a req w r wr ppm ph tiles car s hcore h34 h35
  refine ⟨fun hcues hways => ?word, fun hon => ?lost, ?wclk, fun hid hok htime hroom => ?arm, fun hbad => ?refused,
    fun hq hdue => ?fire, fun hrole => ?notEscort, fun hrole hslots hst hk hlb hcode hfix hcount => ?resolved⟩
  case word =>
    obtain ⟨hcode, hat, hone, hrate, hseen, hhold⟩ := State.codeword_spec (s := s.advance dt) hcues w r.isLt ago
    exact completes_act (f := fun s => s.codeword w.toNat r.val ago) rfl hcore
      ⟨hcode, hat, hone, hrate, hseen, sameHold_of_hold hhold⟩
  case lost =>
    have hlog : ({ (s.advance dt).setFld Reg.TIME_LTC_STAT 0 0 0 with
        time := { (s.advance dt).time with ltcSeen := false } } : State).logOnly 34 = true :=
      (State.logOnly_congr (State.rd_wr_ne _ _ (by decide))).trans h34
    have hside := raise_faultSide _ 34 0 0 hlog
    refine completes_eq rfl hcore (if_pos hon) ?_
    refine ⟨?_, (congrArg TimeState.led hside.time).trans rfl, sameHold_of_hold hside.hold⟩
    rw [fld_acted]
    refine (congrArg (fun n => bits n 0 0) (hside.rn (by decide))).trans ?_
    exact State.fld_setFld_fits (s.advance dt) (by decide) (by decide) (by decide)
  case wclk =>
    obtain ⟨hstat, hppm, hphase, htime, hhold⟩ := (s.advance dt).wclk_spec wr ppm ph h35
    exact completes_act (f := fun s => s.wclk wr ppm ph) rfl hcore ⟨hstat, hppm, hphase, htime, sameHold_of_hold hhold⟩
  case arm =>
    refine completes_eq rfl hcore (State.snapRequest_queued (s := s.advance dt) req hid hok htime hroom) ?_
    exact ⟨rfl, rfl, rfl, State.regsBut_wn s _ _, fun _ => rfl⟩
  case refused =>
    refine completes_eq rfl hcore (State.snapRequest_refused (s := s.advance dt) req hbad tiles car) ?_
    exact ⟨rfl, rfl, rfl, State.regsBut_wn s _ _, fun _ => rfl⟩
  case fire =>
    obtain ⟨hsnaps, hid, hst, hshadow, hregs, hhold⟩ := State.snapFire_due (s := s.advance dt) hq hdue
    exact completes_act (f := State.snapFire) rfl hcore ⟨hsnaps, hid, hst, hshadow, hregs, sameHold_of_hold hhold⟩
  case notEscort =>
    refine completes_eq rfl hcore (if_neg hrole) ?_
    exact ⟨rfl, fun _ => rfl, fun _ => rfl⟩
  case resolved =>
    refine completes_eq rfl hcore ((if_pos hrole).trans (State.cueFromLead_one (s := s.advance dt) hslots hst hk hlb hcode hfix hcount)) ?_
    refine ⟨?_, State.regsBut_wn s _ _, fun _ => rfl⟩
    rw [acted_cues, State.setCue_slots]
    show tabSet s.cues.slots i _ = _
    rw [hslots]
    simp [tabSet]
    rfl

end Sys2Proof.Machine
end

section
/-! ### PTP ports (R49 to R58) -/

namespace Sys2Proof.Machine

variable {s : State} {p : Nat}

@[simp] theorem State.ptpPort_modPort (s : State) (p : Nat) (f : PtpPort → PtpPort) :
    (s.modPort p f).ptpPort p = f (s.ptpPort p) := by
  simp [State.ptpPort, State.modPort, tabMod, tabGetD]

/-! #### A write of TIME_PORT_CTRL -/

theorem State.portCtrlWrite_ok {req : Requester} {v : Nat} (hok : portCtrlOk p v = true) :
    s.portCtrlWrite req p v =
      if (s.wn (Reg.TIME_PORT_CTRL p) (bits v 2 0 + bits v 27 4 * 16)).portMode p = s.portMode p then
        s.wn (Reg.TIME_PORT_CTRL p) (bits v 2 0 + bits v 27 4 * 16)
      else (s.wn (Reg.TIME_PORT_CTRL p) (bits v 2 0 + bits v 27 4 * 16)).portRestart p (s.portMode p) :=
  if_pos hok

theorem rn_portCtrl (s : State) (p v : Nat) :
    (s.wn (Reg.TIME_PORT_CTRL p) (bits v 2 0 + bits v 27 4 * 16)).rn (Reg.TIME_PORT_CTRL p) = bits v 2 0 + bits v 27 4 * 16 := by
  have h1 := bits_lt v 2 0
  have h2 := bits_lt v 27 4
  rw [State.rn_wn_self]
  norm_num at h1 h2
  omega

theorem portMode_portCtrl (s : State) (p v : Nat) :
    (s.wn (Reg.TIME_PORT_CTRL p) (bits v 2 0 + bits v 27 4 * 16)).portMode p = bits v 2 0 := by
  have h1 := bits_lt v 2 0
  rw [State.portMode, State.fld, rn_portCtrl]
  simp only [bits] at h1 ⊢
  omega

/-- The role that a mode starts with (R50). -/
def modeRole (m : Nat) : PtpRole := if m = 3 then .master else if m = 1 ∨ m = 2 then .listening else .initializing

theorem State.ptpPort_restarted (s : State) (p : Nat) (x : PtpPort) (q : Tab RxQueue) :
    ({ s.modPort p fun _ => x with time := { (s.modPort p fun _ => x).time with rxq := q } } : State).ptpPort p = x :=
  State.ptpPort_modPort s p fun _ => x

/-- A port that was no slave and gave the time of no caravan starts anew, and no source is lost. -/
theorem State.portRestart_plain {old : Nat} (hrole : (s.ptpPort p).role ≠ .slave) (hold5 : old ≠ 5) :
    (s.portRestart p old).regs = s.regs ∧ (s.portRestart p old).hold = s.hold
      ∧ ((s.portRestart p old).ptpPort p).role = modeRole (s.portMode p) := by
  have hrestart : s.portRestart p old =
      { s.modPort p fun _ => { role := modeRole (s.portMode p), lastAnnounce := s.clk } with
        time := { (s.modPort p fun _ => { role := modeRole (s.portMode p), lastAnnounce := s.clk }).time with
          rxq := tabErase s.time.rxq p } } :=
    (if_neg hrole).trans (if_neg hold5)
  rw [hrestart]
  exact ⟨rfl, rfl, congrArg PtpPort.role (State.ptpPort_restarted s p _ _)⟩

/-- The registers that a change of source may write, beside those of a fault. -/
def servoReg (a : Nat) : Bool :=
  decide (a = Reg.TIME_SERVO_STAT) || decide (a = Reg.TIME_FREQ_ADJ) || decide (a = Reg.TIME_STEP) || decide (a = Reg.TIME_STEP + 4)

/-- What a change of source leaves: registers but the servo's and a fault's, the PTP ports, the counts and Hold. -/
structure ServoSide (s t : State) : Prop where
  rd : ∀ a, servoReg a = false → faultReg a = false → t.rd a = s.rd a
  ports : t.time.ports = s.time.ports
  counts : t.time.counts = s.time.counts
  hold : t.hold = s.hold

namespace ServoSide

variable {t u : State}

theorem refl (s : State) : ServoSide s s := ⟨fun _ _ _ => rfl, rfl, rfl, rfl⟩

theorem trans (h : ServoSide s t) (k : ServoSide t u) : ServoSide s u :=
  ⟨fun a ha hf => (k.rd a ha hf).trans (h.rd a ha hf), k.ports.trans h.ports, k.counts.trans h.counts, k.hold.trans h.hold⟩

theorem ite {c : Prop} [Decidable c] (h : ServoSide s t) (k : ServoSide s u) : ServoSide s (if c then t else u) := by
  split
  · exact h
  · exact k

theorem logOnly (h : ServoSide s t) {d : Nat} (hd : d < 512) : t.logOnly d = s.logOnly d := by
  have hreg : 0x121000 ≤ Reg.FLT_DET_CFG d ∧ Reg.FLT_DET_CFG d < 0x122000 := by simp only [Reg.FLT_DET_CFG]; omega
  refine State.logOnly_congr (h.rd _ ?_ ?_)
  · generalize Reg.FLT_DET_CFG d = a at *
    simp only [servoReg, Bool.or_eq_false_iff, decide_eq_false_iff_not]
    simp only [Reg.TIME_SERVO_STAT, Reg.TIME_FREQ_ADJ, Reg.TIME_STEP]
    omega
  · unfold faultReg
    generalize Reg.FLT_DET_CFG d = a at *
    simp
    omega

end ServoSide

theorem takeSource_servoSide (s : State) : ServoSide s s.takeSource := by
  unfold State.takeSource
  dsimp only
  split <;> exact ⟨fun _ _ _ => rfl, rfl, rfl, rfl⟩

theorem setAdj_servoSide (s : State) (a : Int) : ServoSide s (s.setAdj a) := by
  unfold State.setAdj
  split <;> exact ⟨fun _ _ _ => rfl, rfl, rfl, rfl⟩

theorem faultSide_servoSide {s t : State} (h : FaultSide s t) : ServoSide s t :=
  ⟨fun _ _ hf => h.rd hf, congrArg TimeState.ports h.time, congrArg TimeState.counts h.time, h.hold⟩

theorem servoSettle_servoSide (s : State) : ServoSide s s.servoSettle :=
  ⟨fun a ha _ => s.servoSettle_regSide.rd (by
    rintro (rfl | rfl)
    · simp [servoReg] at ha
    · simp [servoReg] at ha), rfl, rfl, rfl⟩

theorem setStep_servoSide (s : State) (d : Int) : ServoSide s (s.setStep d) := by
  refine ⟨fun a ha _ => State.rd_setPair_ne _ _ ?_ ?_, rfl, rfl, rfl⟩
  · rintro rfl
    simp [servoReg] at ha
  · rintro rfl
    simp [servoReg] at ha

/-- HOLDOVER begins. -/
def State.heldOver (s : State) : State :=
  { s with time := { s.time with servo := .holdover, source := 0, holdSince := some s.clk, inLock := 0 } }

/-- A pending step that is not fixed goes. -/
def State.stepDropped (s : State) : State :=
  if s.time.stepPending ∧ s.time.stepAt.isNone then
    (({ s with time := { s.time with stepPending := false } }).setStep 0).condClear 33 0
  else s

theorem State.holdover_eq (s : State) : s.holdover = (s.setAdj s.meanAdj).heldOver.stepDropped.raiseOnce 32 0 := rfl

theorem stepDropped_servoSide (s : State) : ServoSide s s.stepDropped :=
  .ite (ServoSide.trans (t := { s with time := { s.time with stepPending := false } }) ⟨fun _ _ _ => rfl, rfl, rfl, rfl⟩
    ((setStep_servoSide _ 0).trans (faultSide_servoSide (condClear_faultSide _ 33 0)))) (.refl s)

theorem holdover_servoSide {s : State} (hlog : s.logOnly 32 = true) : ServoSide s s.holdover := by
  rw [State.holdover_eq]
  have hheld : ServoSide s (s.setAdj s.meanAdj).heldOver :=
    (setAdj_servoSide s _).trans ⟨fun _ _ _ => rfl, rfl, rfl, rfl⟩
  have hdropped := hheld.trans (stepDropped_servoSide _)
  exact hdropped.trans (faultSide_servoSide (raiseOnce_faultSide _ 32 0 0 ((hdropped.logOnly (by decide)).trans hlog)))

/-- The state in which a source has no count any more. -/
def State.uncounted (s : State) (c : Nat) : State :=
  { s with time := { s.time with counts := tabErase s.time.counts c, upstream := tabErase s.time.upstream c } }

theorem State.timeSourceGone_eq (s : State) (c : Nat) : s.timeSourceGone c =
    (if (s.uncounted c).time.source == c && c != 0 then
      if (s.uncounted c).selectSource != 0 then (s.uncounted c).takeSource
      else if (s.uncounted c).time.servo == .free then
        { s.uncounted c with time := { (s.uncounted c).time with source := 0 } }
      else (s.uncounted c).holdover
    else s.uncounted c).servoSettle := rfl

/-- A time source that is gone has no count. -/
theorem timeSourceGone_servoSide {s : State} (c : Nat) (hlog : s.logOnly 32 = true) :
    ServoSide (s.uncounted c) (s.timeSourceGone c) := by
  rw [State.timeSourceGone_eq]
  have hu : (s.uncounted c).logOnly 32 = true := hlog
  generalize s.uncounted c = u at hu ⊢
  refine .trans ?_ (servoSettle_servoSide _)
  exact .ite (.ite (takeSource_servoSide u) (.ite ⟨fun _ _ _ => rfl, rfl, rfl, rfl⟩ (holdover_servoSide hu))) (.refl u)

/-- A port that was a slave gives up its place as a source when its mode becomes another. -/
theorem State.portRestart_slave {old : Nat} (hrole : (s.ptpPort p).role = .slave) (hlog : s.logOnly 32 = true) :
    (∀ a, servoReg a = false → faultReg a = false → (s.portRestart p old).rd a = s.rd a)
      ∧ ((s.portRestart p old).ptpPort p).role = modeRole (s.portMode p)
      ∧ tabGet? (s.portRestart p old).time.counts (p + 1) = none ∧ (s.portRestart p old).hold = s.hold := by
  obtain ⟨u, hu, hregs, hhold, hport⟩ : ∃ u : State, s.portRestart p old = u.timeSourceGone (p + 1) ∧ u.regs = s.regs
      ∧ u.hold = s.hold ∧ (u.ptpPort p).role = modeRole (s.portMode p) :=
    ⟨_, if_pos hrole, rfl, rfl, congrArg PtpPort.role (State.ptpPort_restarted s p _ _)⟩
  have hrd : ∀ a, u.rd a = s.rd a := fun a => by rw [State.rd, hregs]; rfl
  obtain ⟨hside, hports, hcounts, hkeep⟩ := timeSourceGone_servoSide (p + 1) ((State.logOnly_congr (hrd _)).trans hlog)
  rw [hu]
  refine ⟨fun a ha hf => (hside a ha hf).trans (hrd a), ?_, ?_, hkeep.trans hhold⟩
  · rw [State.ptpPort, hports]
    exact hport
  · rw [hcounts]
    exact tabGet?_tabErase_self _ _

/-- A valid write of TIME_PORT_CTRL at a port that is no source. -/
theorem State.portCtrlWrite_plain {req : Requester} {v : Nat} (hok : portCtrlOk p v = true)
    (hrole : (s.ptpPort p).role ≠ .slave) (hmode : s.portMode p ≠ 5) :
    (s.portCtrlWrite req p v).rn (Reg.TIME_PORT_CTRL p) = bits v 2 0 + bits v 27 4 * 16
      ∧ (s.portMode p ≠ 3 → bits v 2 0 = 3 → ((s.portCtrlWrite req p v).ptpPort p).role = .master)
      ∧ (s.portMode p ≠ 1 → bits v 2 0 = 1 → ((s.portCtrlWrite req p v).ptpPort p).role = .listening)
      ∧ RegsBut [Reg.TIME_PORT_CTRL p] s (s.portCtrlWrite req p v) ∧ (s.portCtrlWrite req p v).hold = s.hold := by
  have hm := portMode_portCtrl s p v
  have hrn := rn_portCtrl s p v
  have hregs := State.regsBut_wn s (Reg.TIME_PORT_CTRL p) (bits v 2 0 + bits v 27 4 * 16)
  have hr : ((s.wn (Reg.TIME_PORT_CTRL p) (bits v 2 0 + bits v 27 4 * 16)).ptpPort p).role ≠ .slave := hrole
  have hh : (s.wn (Reg.TIME_PORT_CTRL p) (bits v 2 0 + bits v 27 4 * 16)).hold = s.hold := rfl
  rw [State.portCtrlWrite_ok hok]
  generalize s.wn (Reg.TIME_PORT_CTRL p) (bits v 2 0 + bits v 27 4 * 16) = u at *
  split
  · next hsame =>
    exact ⟨hrn, fun h3 hv => absurd (hsame.symm.trans (hm.trans hv)) h3, fun h1 hv => absurd (hsame.symm.trans (hm.trans hv)) h1,
      hregs, hh⟩
  · obtain ⟨huregs, huhold, hurole⟩ := State.portRestart_plain hr hmode
    refine ⟨?_, fun _ hv => ?_, fun _ hv => ?_, fun a ha => ?_, huhold.trans hh⟩
    · rw [State.rn, State.rd, huregs]
      exact hrn
    · rw [hurole, hm, hv]
      rfl
    · rw [hurole, hm, hv]
      rfl
    · rw [State.rd, huregs]
      exact hregs a ha

/-- A valid write of TIME_PORT_CTRL that makes a slave-only slave a master. -/
theorem State.portCtrlWrite_slave {req : Requester} {v : Nat} (hok : portCtrlOk p v = true)
    (hrole : (s.ptpPort p).role = .slave) (hmode : s.portMode p = 1) (hv : bits v 2 0 = 3) (hlog : s.logOnly 32 = true)
    (hp : p < 8) :
    (s.portCtrlWrite req p v).portMode p = 3 ∧ ((s.portCtrlWrite req p v).ptpPort p).role = .master
      ∧ tabGet? (s.portCtrlWrite req p v).time.counts (p + 1) = none ∧ (s.portCtrlWrite req p v).hold = s.hold := by
  have hm := portMode_portCtrl s p v
  have hr : ((s.wn (Reg.TIME_PORT_CTRL p) (bits v 2 0 + bits v 27 4 * 16)).ptpPort p).role = .slave := hrole
  have hh : (s.wn (Reg.TIME_PORT_CTRL p) (bits v 2 0 + bits v 27 4 * 16)).hold = s.hold := rfl
  have hctrl : 0x20100 ≤ Reg.TIME_PORT_CTRL p ∧ Reg.TIME_PORT_CTRL p < 0x20300 := by
    simp only [Reg.TIME_PORT_CTRL]
    omega
  have hservo : servoReg (Reg.TIME_PORT_CTRL p) = false := by
    generalize Reg.TIME_PORT_CTRL p = a at hctrl
    simp only [servoReg, Bool.or_eq_false_iff, decide_eq_false_iff_not]
    simp only [Reg.TIME_SERVO_STAT, Reg.TIME_FREQ_ADJ, Reg.TIME_STEP]
    omega
  have hfault : faultReg (Reg.TIME_PORT_CTRL p) = false := by
    unfold faultReg
    generalize Reg.TIME_PORT_CTRL p = a at hctrl
    simp
    omega
  have hl : (s.wn (Reg.TIME_PORT_CTRL p) (bits v 2 0 + bits v 27 4 * 16)).logOnly 32 = true :=
    (State.logOnly_congr (State.rd_wr_ne _ _ (by
      generalize Reg.TIME_PORT_CTRL p = a at hctrl
      simp only [Reg.FLT_DET_CFG]
      omega))).trans hlog
  rw [State.portCtrlWrite_ok hok]
  generalize s.wn (Reg.TIME_PORT_CTRL p) (bits v 2 0 + bits v 27 4 * 16) = u at *
  rw [if_neg (by omega)]
  obtain ⟨hrd, hrole', hcount, hhold⟩ := State.portRestart_slave (old := s.portMode p) hr hl
  refine ⟨?_, ?_, hcount, hhold.trans hh⟩
  · rw [State.portMode, State.fld, State.rn, hrd _ hservo hfault]
    exact hm.trans hv
  · rw [hrole', hm, hv]
    rfl

/-! #### Frames of the PTP ports -/

@[simp] theorem beBytes_length (n x : Nat) : (beBytes n x).length = n := by
  rw [beBytes, List.length_reverse, leBytes_length]

@[simp] theorem ptpStamp_length (t : Int) : (ptpStamp t).length = 10 := by
  simp [ptpStamp]

@[simp] theorem ptpHeader_length (type len domain flags : Nat) (corr : Int) (p seqId control interval : Nat) :
    (ptpHeader type len domain flags corr p seqId control interval).length = 34 := by
  simp [ptpHeader]

/-- A datagram follows 42 bytes of headers. -/
theorem State.udpFrame_eq (s : State) (m sport peer : Nat) (data : List Byte) :
    ∃ head : List Byte, head.length = 42 ∧ s.udpFrame m sport peer false data = head ++ data := by
  unfold State.udpFrame etherFrame ipv4Packet udpPacket
  dsimp only
  simp only [Bool.false_eq_true, if_false, ← List.append_assoc]
  exact ⟨_, by simp, rfl⟩

/-- What follows the header of a PTP message follows 76 bytes of its frame. -/
theorem State.udpFrame_ptp (s : State) (m sport peer : Nat) {head body : List Byte} (hlen : head.length = 34) :
    (s.udpFrame m sport peer false (head ++ body)).drop 76 = body := by
  obtain ⟨h, hl, heq⟩ := s.udpFrame_eq m sport peer (head ++ body)
  rw [heq, ← List.append_assoc]
  exact List.drop_left' (by simp [hl, hlen])

theorem State.udpFrame_long (s : State) (m sport peer : Nat) {head body : List Byte} (hlen : head.length = 34) :
    76 ≤ (s.udpFrame m sport peer false (head ++ body)).length := by
  obtain ⟨h, hl, heq⟩ := s.udpFrame_eq m sport peer (head ++ body)
  rw [heq]
  simp [hl, hlen]
  omega

/-- The time of departure stands 76 bytes into the frame. -/
theorem wireFrame_ptpInsert (t : Int) {f : List Byte} (hlen : 76 ≤ f.length) :
    ((wireFrame none (ptpInsert t f)).drop 76).take 10 = ptpStamp t := by
  unfold wireFrame ptpInsert
  simp only [List.append_assoc]
  rw [← List.append_assoc (f.take 50), ← List.append_assoc (f.take 50 ++ _), List.drop_left' (by simp; omega),
    List.take_left' (by simp)]

theorem tabGetD_tabSet_self {α : Type} (t : Tab α) (i : Nat) (v d : α) : tabGetD (tabSet t i v) i d = v := by
  simp [tabGetD]

@[simp] theorem State.mac_setMac_self (s : State) (m : Nat) (x : MacState) : (s.setMac m x).mac m = x :=
  tabGetD_tabSet_self _ _ _ _

theorem State.txStamped_regs (s : State) (m : Nat) (f : String × List Byte) : (s.txStamped m f).1.regs = s.regs := by
  unfold State.txStamped
  dsimp only
  split
  · rfl
  · split <;> rfl

theorem State.ethSend_busy {m q : Nat} {kind : String} {f : List Byte} (hon : s.macDisabled m = false)
    (hroom : (tabGetD (s.mac m).txq q []).length < 64) (hsend : (s.mac m).sending.isSome = true) :
    s.ethSend m q kind f =
      s.setMac m { s.mac m with txq := tabSet (s.mac m).txq q (tabGetD (s.mac m).txq q [] ++ [(kind, f)]) } := by
  rw [State.ethSend, if_neg (by simp [hon])]
  refine (if_neg (Nat.not_le.2 hroom)).trans ?_
  refine if_pos ?_
  rw [State.mac_setMac_self]
  exact hsend

/-- A frame for an idle MAC leaves at once. -/
theorem State.ethSend_idle {m : Nat} {kind : String} {f : List Byte} (hon : s.macDisabled m = false)
    (hempty : tabGetD (s.mac m).txq 7 [] = []) (hsend : (s.mac m).sending = none) (hpause : s.paused m 7 = false)
    (htag : bit (s.rn (Reg.MAC_CFG m)) 6 = false) :
    ∃ u : State, s.ethSend m 7 kind f = (u.txStamped m (kind, f)).1.setMac m { u.mac m with
        sending := some ((u.txStamped m (kind, f)).2.1, wireFrame none (u.txStamped m (kind, f)).2.2)
        txq := tabSet (u.mac m).txq 7 [] }
      ∧ u.time = s.time ∧ u.regs = s.regs ∧ u.hold = s.hold ∧ u.clk = s.clk := by
  refine ⟨s.setMac m { s.mac m with txq := tabSet (s.mac m).txq 7 [(kind, f)] }, ?_, rfl, rfl, rfl, rfl⟩
  rw [State.ethSend, if_neg (by simp [hon])]
  refine (if_neg (by simp [hempty])).trans ?_
  rw [hempty, List.nil_append]
  have hmac := s.mac_setMac_self m { s.mac m with txq := tabSet (s.mac m).txq 7 [(kind, f)] }
  have hp : (s.setMac m { s.mac m with txq := tabSet (s.mac m).txq 7 [(kind, f)] }).paused m 7 = false := by
    rw [State.paused, hmac]
    exact hpause
  have ht : bit ((s.setMac m { s.mac m with txq := tabSet (s.mac m).txq 7 [(kind, f)] }).rn (Reg.MAC_CFG m)) 6 = false := htag
  have hs : ((s.setMac m { s.mac m with txq := tabSet (s.mac m).txq 7 [(kind, f)] }).mac m).sending = none := by rw [hmac, hsend]
  have hq : tabGetD ((s.setMac m { s.mac m with txq := tabSet (s.mac m).txq 7 [(kind, f)] }).mac m).txq 7 [] = [(kind, f)] := by
    rw [hmac, tabGetD_tabSet_self]
  generalize s.setMac m { s.mac m with txq := tabSet (s.mac m).txq 7 [(kind, f)] } = u at *
  have htag' : (u.txStamped m (kind, f)).1.txTag m 7 = none :=
    if_neg (by rw [State.rn, State.rd, State.txStamped_regs]; simpa [State.rn, State.rd] using ht)
  rw [State.txStart]
  refine (if_neg (by simp [hs])).trans ?_
  simp [List.find?, hq, hp, htag']

/-! #### PTP messages -/

theorem sameRegs_of_regs {s t : State} (h : t.regs = s.regs) : SameRegs s t := fun _ => by
  rw [State.rd, State.rd, h]


@[simp] theorem State.portMode_modPort (s : State) (p : Nat) (f : PtpPort → PtpPort) (q : Nat) :
    (s.modPort p f).portMode q = s.portMode q := rfl

/-- The state of a port whose best master becomes a dataset. -/
def PtpPort.heard (x : PtpPort) (ds : PtpDataset) (src n clk : Nat) : PtpPort :=
  { x with best := some ds, masterAddr := src, announces := n, lastAnnounce := clk }

theorem State.announceReceive_first {sn src : Nat} {ds : PtpDataset} (hbest : (s.ptpPort p).best = none) :
    s.announceReceive p sn src ds = s.modPort p fun x => x.heard { ds with sender := sn } src 1 s.clk := by
  rw [State.announceReceive, hbest]
  simp only [Option.any_none, Option.all_none, Bool.not_true, Bool.false_eq_true, if_false]
  have hport := s.ptpPort_modPort p fun x => x.heard { ds with sender := sn } src 1 s.clk
  show State.ptpDecide (s.modPort p fun x => x.heard { ds with sender := sn } src 1 s.clk) p = _
  generalize s.modPort p (fun x => x.heard { ds with sender := sn } src 1 s.clk) = u at *
  rw [State.ptpDecide, hport]
  exact if_pos Nat.one_lt_two

theorem State.setRole_slave (s : State) (p : Nat) :
    ((s.setRole p .slave).ptpPort p).role = .slave ∧ ((s.setRole p .slave).ptpPort p).announces = (s.ptpPort p).announces
      ∧ (s.setRole p .slave).regs = s.regs ∧ (s.setRole p .slave).hold = s.hold := by
  rw [State.setRole]
  split
  · next h => exact ⟨h.symm, rfl, rfl, rfl⟩
  · next h =>
    dsimp only
    rw [if_neg (Ne.symm h)]
    rw [State.ptpPort_modPort]
    exact ⟨rfl, rfl, rfl, rfl⟩

theorem State.announceReceive_second {sn src : Nat} {ds old : PtpDataset} (hmode : s.portMode p = 1)
    (hbest : (s.ptpPort p).best = some old) (hsame : old.sender = sn) (hn : (s.ptpPort p).announces = 1) :
    s.announceReceive p sn src ds =
      (s.modPort p fun x => x.heard { ds with sender := sn } src (x.announces + 1) s.clk).setRole p .slave := by
  rw [State.announceReceive, hbest]
  simp only [Option.any_some, hsame, beq_self_eq_true, Option.all_some, Bool.true_or, Bool.not_true,
    Bool.false_eq_true, if_false, if_true]
  have hport := s.ptpPort_modPort p fun x => x.heard { ds with sender := sn } src (x.announces + 1) s.clk
  have hm : (s.modPort p fun x => x.heard { ds with sender := sn } src (x.announces + 1) s.clk).portMode p = 1 := hmode
  show State.ptpDecide (s.modPort p fun x => x.heard { ds with sender := sn } src (x.announces + 1) s.clk) p = _
  generalize s.modPort p (fun x => x.heard { ds with sender := sn } src (x.announces + 1) s.clk) = u at *
  rw [State.ptpDecide, hm, hport]
  exact (if_neg (by simp [PtpPort.heard, hn])).trans (congrArg (u.setRole p) (if_pos rfl))

theorem any_sender {o : Option PtpDataset} {ds : PtpDataset} {sn : Nat} (h : o = some ds) (hsn : ds.sender = sn) :
    (o.any fun b => b.sender == sn) = true := by
  simp [h, hsn]

theorem State.sync_twoStep {sn seqId src : Nat} {t1 corr : Int} {ds : PtpDataset} (hbest : (s.ptpPort p).best = some ds)
    (hsn : ds.sender = sn) :
    s.ptpReceive p seqId sn src (.sync t1 corr true) =
      s.modPort p fun x => { x with lastSync := s.clk, syncStamp := s.rxStamp p, syncOrigin := none, syncCorr := corr } := by
  rw [State.ptpReceive]
  dsimp only
  rw [any_sender hbest hsn]
  simp

/-- The path delay of an exchange (R56). -/
def exchangeDelay (t1 t2 t3 t4 corr : Int) : Int := ((t2 - t1) + (t4 - corr - t3)) / 2

theorem State.delayResp_own {sn seqId src : Nat} {t1 t3 t4 corr : Int} {ds : PtpDataset}
    (hbest : (s.ptpPort p).best = some ds) (hsn : ds.sender = sn) (hreq : (s.ptpPort p).reqStamp = some t3)
    (hseq : (s.ptpPort p).reqSeq = seqId) (horigin : (s.ptpPort p).syncOrigin = some t1) :
    s.ptpReceive p seqId sn src (.delayResp t4 corr) =
      (s.modPort p fun x => { x with mpd := some (exchangeDelay t1 (s.ptpPort p).syncStamp t3 t4 corr), reqStamp := none }).wn
        (Reg.TIME_PORT_MPD p) (unsigned 32 (exchangeDelay t1 (s.ptpPort p).syncStamp t3 t4 corr)) := by
  rw [State.ptpReceive]
  dsimp only
  rw [hreq, horigin, any_sender hbest hsn]
  exact if_neg (by simp [hseq])

/-- A master's answer to a Delay_Req waits behind the frame that is being sent. -/
theorem State.delayRespSend_busy {seqId r src : Nat} {uni : Bool} (hon : s.macDisabled p = false)
    (hsend : (s.mac p).sending.isSome = true) (hroom : (tabGetD (s.mac p).txq 7 []).length < 64) :
    ∃ f : List Byte, s.delayRespSend p seqId r src uni = s.setMac p { s.mac p with
        txq := tabSet (s.mac p).txq 7 (tabGetD (s.mac p).txq 7 [] ++ [("DELAY_RESP", f)]) }
      ∧ f.drop 76 = ptpStamp (s.rxStamp p) ++ beBytes 10 r := by
  refine ⟨_, State.ethSend_busy hon hroom hsend, ?_⟩
  rw [List.append_assoc (ptpHeader _ _ _ _ _ _ _ _ _)]
  exact s.udpFrame_ptp _ _ _ (ptpHeader_length ..)

/-- A Sync or a Delay_Req leaves an idle MAC at once with its departure time in it. -/
theorem State.ethSend_event {kind : String} {f : List Byte} (hkind : kind = "SYNC" ∨ kind = "DELAY_REQ") (hlong : 76 ≤ f.length)
    (hon : s.macDisabled p = false) (hempty : tabGetD (s.mac p).txq 7 [] = []) (hsend : (s.mac p).sending = none)
    (hpause : s.paused p 7 = false) (htag : bit (s.rn (Reg.MAC_CFG p)) 6 = false) :
    (s.ethSend p 7 kind f).ptpPort p
        = (if kind = "SYNC" then s.ptpPort p else { s.ptpPort p with reqStamp := some (s.txStamp p) })
      ∧ (((s.ethSend p 7 kind f).mac p).sending.map fun f => (f.1, (f.2.drop 76).take 10)) = some (kind, ptpStamp (s.txStamp p))
      ∧ tabGetD ((s.ethSend p 7 kind f).mac p).txq 7 [] = []
      ∧ (s.ethSend p 7 kind f).regs = s.regs ∧ (s.ethSend p 7 kind f).hold = s.hold := by
  obtain ⟨u, hu, htime, hregs, hhold, -⟩ := State.ethSend_idle (kind := kind) (f := f) hon hempty hsend hpause htag
  have hstamp : u.txStamp p = s.txStamp p := by
    simp only [State.txStamp, State.now16, State.ns, State.frac, State.rn, State.rd, htime, hregs]
  have huport : u.ptpPort p = s.ptpPort p := congrArg (fun t : TimeState => tabGetD t.ports p {}) htime
  obtain ⟨v, hst, hv, hvregs, hvhold⟩ : ∃ v : State, u.txStamped p (kind, f) = (v, kind, ptpInsert (u.txStamp p) f)
      ∧ v.ptpPort p = (if kind = "SYNC" then u.ptpPort p else { u.ptpPort p with reqStamp := some (u.txStamp p) })
      ∧ v.regs = u.regs ∧ v.hold = u.hold := by
    rcases hkind with rfl | rfl
    · exact ⟨u, by rw [State.txStamped]; exact if_pos rfl, (if_pos rfl).symm, rfl, rfl⟩
    · have hne : ¬ "DELAY_REQ" = "SYNC" := by decide
      exact ⟨_, by rw [State.txStamped]; exact (if_neg hne).trans (if_pos rfl),
        (u.ptpPort_modPort p fun x => { x with reqStamp := some (u.txStamp p) }).trans (if_neg hne).symm, rfl, rfl⟩
  rw [hu, hst]
  refine ⟨hv.trans (by rw [huport, hstamp]), ?_, ?_, hvregs.trans hregs, hvhold.trans hhold⟩
  · rw [State.mac_setMac_self]
    simp only [Option.map_some]
    rw [wireFrame_ptpInsert _ hlong, hstamp]
  · rw [State.mac_setMac_self]
    exact tabGetD_tabSet_self _ _ _ _

/-- A Delay_Req leaves with its departure time in it, which the port keeps. -/
theorem State.delayReqSend_spec {seqId : Nat} (hrole : (s.ptpPort p).role = .slave) (htx : (s.ptpPort p).reqTx = none)
    (hon : s.macDisabled p = false) (hempty : tabGetD (s.mac p).txq 7 [] = []) (hsend : (s.mac p).sending = none)
    (hpause : s.paused p 7 = false) (htag : bit (s.rn (Reg.MAC_CFG p)) 6 = false) :
    ((s.delayReqSend p seqId).ptpPort p).reqStamp = some (s.txStamp p) ∧ ((s.delayReqSend p seqId).ptpPort p).reqSeq = seqId
      ∧ ((s.delayReqSend p seqId).ptpPort p).reqTx = some s.clk
      ∧ (((s.delayReqSend p seqId).mac p).sending.map fun f => (f.1, (f.2.drop 76).take 10))
          = some ("DELAY_REQ", ptpStamp (s.txStamp p))
      ∧ (s.delayReqSend p seqId).regs = s.regs ∧ (s.delayReqSend p seqId).hold = s.hold := by
  obtain ⟨dst, head, hlen, heq⟩ : ∃ (dst : Nat) (head : List Byte), head.length = 34 ∧ s.delayReqSend p seqId =
      (s.modPort p fun x => { x with reqTx := some s.clk, reqStamp := none, reqSeq := seqId }).ptpSend "DELAY_REQ" p dst
        ptpEventPort (head ++ ptpStamp 0) :=
    ⟨_, _, ptpHeader_length .., if_neg (by simp [hrole, State.due, htx])⟩
  rw [heq, State.ptpSend]
  have hport := s.ptpPort_modPort p fun x => { x with reqTx := some s.clk, reqStamp := none, reqSeq := seqId }
  obtain ⟨hx, hframe, -, hregs, hhold⟩ := State.ethSend_event (f := State.udpFrame _ _ _ _ _ _) (.inr rfl)
    (State.udpFrame_long _ p ptpEventPort (peerOf (peerMac dst) (peerIp dst) ptpEventPort) (body := ptpStamp 0) hlen)
    (s := s.modPort p fun x => { x with reqTx := some s.clk, reqStamp := none, reqSeq := seqId }) hon hempty hsend hpause htag
  refine ⟨congrArg PtpPort.reqStamp hx, ?_, ?_, hframe, hregs, hhold⟩
  · exact (congrArg PtpPort.reqSeq hx).trans (congrArg PtpPort.reqSeq hport)
  · exact (congrArg PtpPort.reqTx hx).trans (congrArg PtpPort.reqTx hport)

/-- An Announce behind a frame that is being sent waits. -/
theorem State.announceSend_busy (hon : s.macDisabled p = false) (hempty : tabGetD (s.mac p).txq 7 [] = [])
    (hsend : (s.mac p).sending.isSome = true) :
    ((s.announceSend p).mac p).sending = (s.mac p).sending ∧ ((s.announceSend p).ptpPort p).syncTx = (s.ptpPort p).syncTx
      ∧ (s.announceSend p).regs = s.regs ∧ (s.announceSend p).hold = s.hold := by
  rw [State.announceSend]
  split
  · exact ⟨rfl, rfl, rfl, rfl⟩
  · rw [State.ptpSend, State.ethSend_busy (s := s.modPort p _) hon (show (tabGetD (s.mac p).txq 7 []).length < 64 by simp [hempty]) hsend,
      State.mac_setMac_self]
    exact ⟨rfl, (congrArg PtpPort.syncTx (s.ptpPort_modPort p fun x => { x with annTx := some s.clk, annSeq := (x.annSeq + 1) % 65536 })).trans rfl, rfl, rfl⟩

theorem State.macDisabled_congr {t : State} (h : t.regs = s.regs) (m : Nat) : t.macDisabled m = s.macDisabled m := by
  simp only [State.macDisabled, State.macLane, State.laneRole, State.fld, State.rn, State.rd, h]

/-- A Sync leaves with its departure time in it. -/
theorem State.syncSend_spec {seqId : Nat} (hrole : (s.ptpPort p).role = .master) (htx : (s.ptpPort p).syncTx = none)
    (hon : s.macDisabled p = false) (hempty : tabGetD (s.mac p).txq 7 [] = []) (hsend : (s.mac p).sending = none)
    (hpause : s.paused p 7 = false) (htag : bit (s.rn (Reg.MAC_CFG p)) 6 = false) :
    ((s.syncSend p seqId).ptpPort p).syncTx = some s.clk
      ∧ (((s.syncSend p seqId).mac p).sending.map fun f => (f.1, (f.2.drop 76).take 10)) = some ("SYNC", ptpStamp (s.txStamp p))
      ∧ (s.syncSend p seqId).regs = s.regs ∧ (s.syncSend p seqId).hold = s.hold := by
  obtain ⟨head, hlen, heq⟩ : ∃ head : List Byte, head.length = 34 ∧ s.syncSend p seqId =
      ((s.modPort p fun x => { x with syncTx := some s.clk }).ptpSend "SYNC" p ptpGroup ptpEventPort (head ++ ptpStamp 0)).announceSend p :=
    ⟨_, ptpHeader_length .., if_neg (by simp [hrole, State.due, htx])⟩
  rw [heq, State.ptpSend]
  have hport := s.ptpPort_modPort p fun x => { x with syncTx := some s.clk }
  obtain ⟨hx, hframe, hnone, hregs, hhold⟩ := State.ethSend_event (f := State.udpFrame _ _ _ _ _ _) (.inl rfl)
    (State.udpFrame_long _ p ptpEventPort (peerOf (peerMac ptpGroup) (peerIp ptpGroup) ptpEventPort) (body := ptpStamp 0) hlen)
    (s := s.modPort p fun x => { x with syncTx := some s.clk }) hon hempty hsend hpause htag
  have hoff := State.macDisabled_congr (s := s) (hregs.trans rfl) p
  generalize State.ethSend _ p 7 "SYNC" _ = u at *
  have hsome : (u.mac p).sending.isSome = true := by
    rcases hs : (u.mac p).sending with _ | f
    · simp [hs] at hframe
    · rfl
  obtain ⟨hsent, hsync, hregs', hhold'⟩ := State.announceSend_busy (hoff.trans hon) hnone hsome
  refine ⟨hsync.trans ((congrArg PtpPort.syncTx hx).trans (congrArg PtpPort.syncTx hport)), ?_, hregs'.trans hregs, hhold'.trans hhold⟩
  rw [hsent]
  exact hframe

/-! #### Receive timestamps (R58) -/

/-- The entry that a timestamp makes. -/
def State.rxEntry (s : State) (p seqId dom ty lost : Nat) : RxEntry :=
  { stamp := toLedger (s.rxStamp p / 65536).toNat, fraction := (s.rxStamp p % 65536).toNat, lost := min 255 lost
    gap := decide (0 < lost), seqId := seqId, domain := dom, msgType := ty }

theorem State.rxqPush_room {seqId dom ty : Nat} (h : (tabGetD s.time.rxq p {}).entries.length < 64) :
    s.rxqPush p seqId dom ty false = { s with
      time := { s.time with
        rxq := tabSet s.time.rxq p {
          entries := (tabGetD s.time.rxq p {}).entries ++ [s.rxEntry p seqId dom ty (tabGetD s.time.rxq p {}).lostRun]
          lostRun := 0 } } } :=
  if_pos h

theorem State.rxqPush_full {seqId dom ty : Nat} (h : (tabGetD s.time.rxq p {}).entries.length = 64) :
    s.rxqPush p seqId dom ty false = State.wn { s with
      time := { s.time with
        rxq := tabSet s.time.rxq p { tabGetD s.time.rxq p {} with lostRun := (tabGetD s.time.rxq p {}).lostRun + 1 } } }
      (Reg.TIME_RXQ_DROP p) (min (s.rn (Reg.TIME_RXQ_DROP p) + 1) (2 ^ 32 - 1)) :=
  if_neg (show ¬ (tabGetD s.time.rxq p {}).entries.length < 64 by omega)

/-- Settles O26: each command of a PTP port does what its register or its message says. -/
theorem ptpPorts : Obligations.PtpPorts := by
  intro dt seqId dom ty r sn src uni req p v msg ds old t1 t3 t4 corr s hcore
  refine ⟨fun hok hrole hmode => ?ctrl, fun hok hrole hmode hv hlog => ?slave, fun hbad => ?refused, fun hdom => ?other,
    fun hdom hmode hbest => ?first, fun hdom hmode hbest hsame hn => ?second,
    fun hdom hmode hrole hon hsend hroom => ?delayReq, fun hdom hmode hbest hsn => ?sync,
    fun hdom hmode hbest hsn hreq hseq horigin => ?delayResp,
    fun hmode hrole htx hon hsend hempty hpause htag => ?reqSend, fun hmode hrole htx hon hsend hempty hpause htag => ?syncSend,
    fun hmode hroom => ?push, fun hmode hfull => ?drop, fun hmode => ?pop⟩
  case other =>
    refine completes_eq rfl hcore (if_neg fun h => hdom h.2.2) ?_
    exact ⟨rfl, fun _ => rfl, fun _ => rfl⟩
  case first =>
    refine completes_eq rfl hcore ((if_pos ⟨hmode.symm ▸ le_refl _, hmode.symm ▸ by decide, hdom⟩).trans
      (State.announceReceive_first (s := s.advance dt) hbest)) ?_
    have hport := (s.advance dt).ptpPort_modPort p fun x => x.heard { ds with sender := sn } src 1 (s.advance dt).clk
    exact ⟨congrArg PtpPort.best hport, congrArg PtpPort.announces hport, (congrArg PtpPort.role hport).trans rfl,
      congrArg PtpPort.masterAddr hport, congrArg PtpPort.lastAnnounce hport, fun _ => rfl, fun _ => rfl⟩
  case pop =>
    refine completes_eq rfl hcore (congrArg (fun u : State => u.emit _) (if_pos hmode)) ?_
    exact ⟨congrArg RxQueue.entries (tabGetD_tabSet_self _ _ _ _), rfl, fun _ => rfl, fun _ => rfl⟩
  case ctrl =>
    obtain ⟨hrn, hmaster, hlisten, hregs, hhold⟩ := State.portCtrlWrite_plain (s := s.advance dt) (req := req) hok hrole hmode
    exact completes_act (f := fun s => s.portCtrlWrite req p v.toNat) rfl hcore
      ⟨hrn, hmaster, hlisten, hregs, sameHold_of_hold hhold⟩
  case slave =>
    obtain ⟨hnew, hrole', hcount, hhold⟩ := State.portCtrlWrite_slave (s := s.advance dt) (req := req) hok hrole hmode hv hlog p.isLt
    exact completes_act (f := fun s => s.portCtrlWrite req p v.toNat) rfl hcore ⟨hnew, hrole', hcount, sameHold_of_hold hhold⟩
  case refused =>
    refine completes_eq rfl hcore (if_neg (by simp [hbad])) ?_
    exact ⟨State.pair_accErr .., rfl, fun _ ha => State.regsBut_accErr _ _ _ _ _ _ ha, State.sameHold_accErr (s.advance dt) req (Reg.TIME_PORT_CTRL p) true false⟩
  case second =>
    refine completes_eq rfl hcore ((if_pos ⟨hmode.symm ▸ le_refl _, hmode.symm ▸ by decide, hdom⟩).trans
      (State.announceReceive_second (s := s.advance dt) hmode hbest hsame hn)) ?_
    obtain ⟨hrole, hann, hregs, hhold⟩ := State.setRole_slave
      ((s.advance dt).modPort p fun x => x.heard { ds with sender := sn } src (x.announces + 1) (s.advance dt).clk) p
    rw [State.ptpPort_modPort] at hann
    exact ⟨hann.trans (congrArg (· + 1) hn), hrole, sameRegs_of_regs hregs, sameHold_of_hold hhold⟩
  case delayReq =>
    obtain ⟨f, hf, hbody⟩ := State.delayRespSend_busy (s := s.advance dt) (seqId := seqId) (r := r) (src := src) (uni := uni) hon hsend hroom
    refine completes_eq rfl hcore ((if_pos ⟨hmode.symm ▸ by decide, hmode.symm ▸ le_refl _, hdom⟩).trans
      ((if_pos hrole).trans hf)) ?_
    have hq : tabGetD ((acted dt s fun _ => (s.advance dt).setMac p { s.mac p with
        txq := tabSet (s.mac p).txq 7 (tabGetD (s.mac p).txq 7 [] ++ [("DELAY_RESP", f)]) }).mac p).txq 7 []
        = tabGetD (s.mac p).txq 7 [] ++ [("DELAY_RESP", f)] :=
      (congrArg (fun m : MacState => tabGetD m.txq 7 []) (State.mac_setMac_self (s.advance dt) p _)).trans (tabGetD_tabSet_self _ _ _ _)
    refine ⟨(congrArg List.dropLast hq).trans List.dropLast_concat, ?_, rfl, fun _ => rfl, fun _ => rfl⟩
    refine (congrArg (fun l => (List.getLast? l).map fun f => (f.1, f.2.drop 76)) hq).trans ?_
    rw [List.getLast?_concat, Option.map_some, hbody]
  case sync =>
    refine completes_eq rfl hcore ((if_pos ⟨hmode.symm ▸ le_refl _, hmode.symm ▸ by decide, hdom⟩).trans
      (State.sync_twoStep (s := s.advance dt) hbest hsn)) ?_
    have hport := (s.advance dt).ptpPort_modPort p fun x => { x with
      lastSync := (s.advance dt).clk, syncStamp := (s.advance dt).rxStamp p, syncOrigin := none, syncCorr := corr }
    exact ⟨congrArg PtpPort.syncStamp hport, congrArg PtpPort.syncCorr hport, congrArg PtpPort.lastSync hport,
      fun _ => rfl, fun _ => rfl⟩
  case delayResp =>
    refine completes_eq rfl hcore ((if_pos ⟨hmode.symm ▸ le_refl _, hmode.symm ▸ by decide, hdom⟩).trans
      (State.delayResp_own (s := s.advance dt) hbest hsn hreq hseq horigin)) ?_
    have hport := (s.advance dt).ptpPort_modPort p fun x => { x with
      mpd := some (exchangeDelay t1 (s.ptpPort p).syncStamp t3 t4 corr), reqStamp := none }
    refine ⟨congrArg PtpPort.mpd hport, congrArg PtpPort.reqStamp hport, ?_, State.regsBut_wn s _ _, fun _ => rfl⟩
    refine (State.rn_wn_self _ _ _).trans (Nat.mod_eq_of_lt (unsigned_lt _ _))
  case reqSend =>
    obtain ⟨hstamp, hseq, hat, hframe, hregs, hhold⟩ := State.delayReqSend_spec (s := s.advance dt) (seqId := seqId) hrole htx hon
      (hempty 7) hsend hpause htag
    refine completes_eq rfl hcore ((if_neg (by simp [show (s.advance dt).portMode p = 1 from hmode, show (s.advance dt).macDisabled p = false from hon])).trans (if_pos rfl)) ?_
    exact ⟨hstamp, hseq, hat, hframe, sameRegs_of_regs hregs, sameHold_of_hold hhold⟩
  case syncSend =>
    obtain ⟨hat, hframe, hregs, hhold⟩ := State.syncSend_spec (s := s.advance dt) (seqId := seqId) hrole htx hon
      (hempty 7) hsend hpause htag
    refine completes_eq rfl hcore ((if_neg (by simp [show (s.advance dt).portMode p = 3 from hmode, show (s.advance dt).macDisabled p = false from hon])).trans (if_neg (by decide))) ?_
    exact ⟨hat, hframe, sameRegs_of_regs hregs, sameHold_of_hold hhold⟩
  case push =>
    refine completes_eq rfl hcore ((if_pos hmode).trans (State.rxqPush_room (s := s.advance dt) hroom)) ?_
    have hq := tabGetD_tabSet_self s.time.rxq p { entries := (tabGetD s.time.rxq p {}).entries ++
      [(s.advance dt).rxEntry p seqId dom ty (tabGetD s.time.rxq p {}).lostRun] } {}
    exact ⟨congrArg RxQueue.entries hq, congrArg RxQueue.lostRun hq, fun _ => rfl, fun _ => rfl⟩
  case drop =>
    refine completes_eq rfl hcore ((if_pos hmode).trans (State.rxqPush_full (s := s.advance dt) hfull)) ?_
    have hq := tabGetD_tabSet_self s.time.rxq p
      { tabGetD s.time.rxq p {} with lostRun := (tabGetD s.time.rxq p {}).lostRun + 1 } {}
    refine ⟨(congrArg RxQueue.entries hq).trans rfl, (congrArg RxQueue.lostRun hq).trans rfl, ?_, State.regsBut_wn s _ _, fun _ => rfl⟩
    exact (State.rn_wn_self _ _ _).trans (Nat.mod_eq_of_lt (lt_of_le_of_lt (Nat.min_le_right _ _) (by decide)))

end Sys2Proof.Machine
end

section
/-! ### The servo: measurements, refused steps and lost sources (R59 to R66) -/

namespace Sys2Proof.Machine

variable {s : State} {c : Nat} {off ref : Int}

theorem State.track_servoSide (s : State) : ServoSide s s.track := by
  unfold State.track
  exact ServoSide.trans (t := { s with fresh := s.fresh + 1 }) ⟨fun _ _ _ => rfl, rfl, rfl, rfl⟩ (setAdj_servoSide _ _)

theorem State.notify_servoSide (s : State) (code sev source : Nat) (data : List Nat) :
    ServoSide s (s.notify code sev source data) := ⟨fun _ _ _ => rfl, rfl, rfl, rfl⟩

/-- What a measurement of the selected source notes first: the offset, its reference and the run within the limit. -/
def State.offsetNoted (s : State) (c : Nat) (off ref : Int) : State :=
  let s := { s with time := { s.time with lastOffset := off, refRate := ref } }
  let s := s.wn Reg.TIME_OFFSET (unsigned 32 (clampI (-2147483647) 2147483647 off))
  { s with time := { s.time with inLock := if decide (off.natAbs ≤ lockLimit c) then s.time.inLock + 1 else 0 } }

theorem State.offsetNoted_rd {a : Nat} (h : Reg.TIME_OFFSET ≠ a) : (s.offsetNoted c off ref).rd a = s.rd a :=
  State.rd_wr_ne _ _ h.symm

theorem State.offsetNoted_logOnly {d : Nat} (h : Reg.TIME_OFFSET ≠ Reg.FLT_DET_CFG d) :
    (s.offsetNoted c off ref).logOnly d = s.logOnly d := State.logOnly_congr (State.offsetNoted_rd h)

/-- Before ARMED an offset steps the ledger at once. -/
theorem State.servoOffset_unarmed (harmed : s.time.armed = false) : ∃ servo, s.servoOffset c off ref =
    if servo = .locked then
      ({ ((s.offsetNoted c off ref).stepLedger off).setAdj ref with
        time := { (((s.offsetNoted c off ref).stepLedger off).setAdj ref).time with servo := servo } } : State).condClear 32 0
    else { ((s.offsetNoted c off ref).stepLedger off).setAdj ref with
        time := { (((s.offsetNoted c off ref).stepLedger off).setAdj ref).time with servo := servo } } :=
  ⟨_, if_pos (congrArg (!·) harmed)⟩

/-- Within the threshold a pending step goes. -/
theorem State.servoOffset_settled (harmed : s.time.armed = true) (hat : s.time.stepAt = none) (hpend : s.time.stepPending = true)
    (hin : (off.natAbs : Int) ≤ s.rn Reg.TIME_JUMP_THR) : s.servoOffset c off ref =
      ((((({ s.offsetNoted c off ref with time := { (s.offsetNoted c off ref).time with
        stepPending := false, servo := .locked, overThr := 0 } } : State).setStep 0).condClear 33 0).condClear 32 0).track) := by
  rw [State.servoOffset]
  refine (if_neg (by simp [harmed])).trans ((if_neg (by simp [hat])).trans ((if_pos hpend).trans ((if_pos ?_).trans rfl)))
  exact decide_eq_true hin


/-- Outside it the amount pending follows the measurement. -/
theorem State.servoOffset_insisted (harmed : s.time.armed = true) (hat : s.time.stepAt = none) (hpend : s.time.stepPending = true)
    (hout : (s.rn Reg.TIME_JUMP_THR : Int) < off.natAbs) :
    ∃ a, s.servoOffset c off ref = ((s.offsetNoted c off ref).setStep off).setAdj a := by
  rw [State.servoOffset]
  refine ⟨_, (if_neg (by simp [harmed])).trans ((if_neg (by simp [hat])).trans ((if_pos hpend).trans ((if_neg ?_).trans rfl)))⟩
  exact fun h => absurd (of_decide_eq_true h) (by omega)

/-- The state in which a step is refused. -/
def State.stepRefused (s : State) (off : Int) : State :=
  ((({ s with time := { s.time with stepPending := true, servo := .slew, overThr := 0 } } : State).setStep off).raiseOnce 33 0
    (unsigned 32 off)).notify 0x50 0 0 [unsigned 64 off]

/-- The fourth in succession above the threshold refuses the step. -/
theorem State.servoOffset_refused (harmed : s.time.armed = true) (hat : s.time.stepAt = none) (hpend : s.time.stepPending = false)
    (hout : (s.rn Reg.TIME_JUMP_THR : Int) < off.natAbs) (hn : 3 ≤ s.time.overThr) :
    ∃ n a, s.servoOffset c off ref =
      (({ s.offsetNoted c off ref with time := { (s.offsetNoted c off ref).time with overThr := n } } : State).stepRefused off).setAdj a := by
  rw [State.servoOffset]
  refine ⟨_, _, (if_neg (by simp [harmed])).trans ((if_neg (by simp [hat])).trans ((if_neg (by simp [hpend])).trans
    ((if_neg ?_).trans ((if_pos ?_).trans rfl))))⟩
  · exact fun h => absurd (of_decide_eq_true h) (by omega)
  · exact Nat.succ_le_succ hn

theorem State.stepRefused_servoSide (hlog : s.logOnly 33 = true) : ServoSide s (s.stepRefused off) := by
  have h : ServoSide s (({ s with time := { s.time with stepPending := true, servo := .slew, overThr := 0 } } : State).setStep off) :=
    ServoSide.trans (t := { s with time := { s.time with stepPending := true, servo := .slew, overThr := 0 } })
      ⟨fun _ _ _ => rfl, rfl, rfl, rfl⟩ (setStep_servoSide _ _)
  exact (h.trans (faultSide_servoSide (raiseOnce_faultSide _ 33 0 _ ((h.logOnly (by decide)).trans hlog)))).trans
    (State.notify_servoSide _ _ _ _ _)

/-- While locked the rate is kept for the mean of the last 16 s. -/
def State.rateKept (s : State) : State :=
  if s.time.servo = .locked then
    { s with time := { s.time with
        lockHist := ((s.clk, s.time.adjNext.getD s.time.adj) :: s.time.lockHist).filter fun e => decide (s.clk ≤ e.1 + sec 16) } }
  else s

/-- Within the threshold, with nothing pending, the servo tracks. -/
theorem State.servoOffset_within (harmed : s.time.armed = true) (hat : s.time.stepAt = none) (hpend : s.time.stepPending = false)
    (hin : (off.natAbs : Int) ≤ s.rn Reg.TIME_JUMP_THR) : ∃ (v : State) (servo : ServoState),
      v = ({ s.offsetNoted c off ref with time := { (s.offsetNoted c off ref).time with overThr := 0 } } : State).condClear 33 0
      ∧ s.servoOffset c off ref = State.rateKept (State.track (if servo = .locked then
          ({ v with time := { v.time with servo := servo } } : State).condClear 32 0
        else { v with time := { v.time with servo := servo } })) := by
  rw [State.servoOffset]
  refine ⟨_, _, rfl, (if_neg (by simp [harmed])).trans ((if_neg (by simp [hat])).trans ((if_neg (by simp [hpend])).trans
    ((if_pos (decide_eq_true hin)).trans rfl)))⟩

/-- Outside it, before the fourth in succession, the servo slews or tracks. -/
theorem State.servoOffset_outside (harmed : s.time.armed = true) (hat : s.time.stepAt = none) (hpend : s.time.stepPending = false)
    (hout : (s.rn Reg.TIME_JUMP_THR : Int) < off.natAbs) (hn : ¬ 3 ≤ s.time.overThr) : ∃ (v : State) (a : Int),
      v = { s.offsetNoted c off ref with time := { (s.offsetNoted c off ref).time with overThr := s.time.overThr + 1 } }
      ∧ s.servoOffset c off ref = if v.time.servo = .slew then v.setAdj a else v.track := by
  rw [State.servoOffset]
  refine ⟨_, _, rfl, (if_neg (by simp [harmed])).trans ((if_neg (by simp [hat])).trans ((if_neg (by simp [hpend])).trans
    ((if_neg ?_).trans ((if_neg ?_).trans rfl))))⟩
  · exact fun h => absurd (of_decide_eq_true h) (by omega)
  · exact fun h => hn (Nat.le_of_succ_le_succ h)

theorem State.rateKept_servoSide (s : State) : ServoSide s s.rateKept :=
  .ite ⟨fun _ _ _ => rfl, rfl, rfl, rfl⟩ (.refl s)

/-- Armed, an offset changes the servo alone. -/
theorem State.servoOffset_servoSide (harmed : s.time.armed = true) (hlog : s.logOnly 33 = true) :
    ServoSide (s.offsetNoted c off ref) (s.servoOffset c off ref) := by
  have h33 : (s.offsetNoted c off ref).logOnly 33 = true := (State.offsetNoted_logOnly (by decide)).trans hlog
  have htime (t : TimeState) (hp : t.ports = s.time.ports) (hc : t.counts = s.time.counts) :
      ServoSide (s.offsetNoted c off ref) { s.offsetNoted c off ref with time := t } := ⟨fun _ _ _ => rfl, hp, hc, rfl⟩
  by_cases hat : s.time.stepAt.isSome = true
  · have h : s.servoOffset c off ref = (s.offsetNoted c off ref).setAdj ref := by
      rw [State.servoOffset]
      exact (if_neg (by simp [harmed])).trans ((if_pos hat).trans rfl)
    rw [h]
    exact setAdj_servoSide _ _
  · have hnone : s.time.stepAt = none := by simpa using hat
    rcases Bool.eq_false_or_eq_true s.time.stepPending with hpend | hpend
    · by_cases hin : (off.natAbs : Int) ≤ s.rn Reg.TIME_JUMP_THR
      · rw [State.servoOffset_settled harmed hnone hpend hin]
        refine (htime { (s.offsetNoted c off ref).time with stepPending := false, servo := .locked, overThr := 0 } rfl rfl).trans ?_
        generalize ({ s.offsetNoted c off ref with time := { (s.offsetNoted c off ref).time with
          stepPending := false, servo := .locked, overThr := 0 } } : State) = v
        exact (((setStep_servoSide _ _).trans (faultSide_servoSide (condClear_faultSide _ 33 0))).trans
          (faultSide_servoSide (condClear_faultSide _ 32 0))).trans (State.track_servoSide _)
      · obtain ⟨a, h⟩ := State.servoOffset_insisted (c := c) (off := off) (ref := ref) harmed hnone hpend (by omega)
        rw [h]
        exact (setStep_servoSide _ _).trans (setAdj_servoSide _ _)
    · by_cases hin : (off.natAbs : Int) ≤ s.rn Reg.TIME_JUMP_THR
      · obtain ⟨v, servo, rfl, h⟩ := State.servoOffset_within (c := c) (off := off) (ref := ref) harmed hnone hpend hin
        rw [h]
        refine .trans (.trans ?_ (State.track_servoSide _)) (State.rateKept_servoSide _)
        have hv := (htime { (s.offsetNoted c off ref).time with overThr := 0 } rfl rfl).trans
          (faultSide_servoSide (condClear_faultSide _ 33 0))
        generalize State.condClear _ 33 0 = v at hv ⊢
        have hw : ServoSide v { v with time := { v.time with servo := servo } } := ⟨fun _ _ _ => rfl, rfl, rfl, rfl⟩
        exact hv.trans (.ite (hw.trans (faultSide_servoSide (condClear_faultSide _ 32 0))) hw)
      · by_cases hn : 3 ≤ s.time.overThr
        · obtain ⟨n, a, h⟩ := State.servoOffset_refused (c := c) (off := off) (ref := ref) harmed hnone hpend (by omega) hn
          rw [h]
          refine (htime { (s.offsetNoted c off ref).time with overThr := n } rfl rfl).trans ?_
          have hl : ({ s.offsetNoted c off ref with time := { (s.offsetNoted c off ref).time with overThr := n } } : State).logOnly 33
            = true := h33
          generalize ({ s.offsetNoted c off ref with time := { (s.offsetNoted c off ref).time with overThr := n } } : State) = v at hl ⊢
          exact (State.stepRefused_servoSide hl).trans (setAdj_servoSide _ _)
        · obtain ⟨v, a, rfl, h⟩ := State.servoOffset_outside (c := c) (off := off) (ref := ref) harmed hnone hpend (by omega) hn
          rw [h]
          refine (htime { (s.offsetNoted c off ref).time with overThr := s.time.overThr + 1 } rfl rfl).trans ?_
          generalize ({ s.offsetNoted c off ref with time := { (s.offsetNoted c off ref).time with
            overThr := s.time.overThr + 1 } } : State) = v
          exact .ite (setAdj_servoSide _ _) (State.track_servoSide _)

/-! #### Measurements -/

/-- A step of the ledger keeps the count of a PTP port or the RTC, and every count while no exchange is under way. -/
theorem State.stepLedger_count (d : Int) (h : c < 6 ∨ s.slk.timeLinks = []) :
    tabGet? (s.stepLedger d).time.counts c = tabGet? s.time.counts c := by
  unfold State.stepLedger
  split
  · rfl
  · rcases h with hc | hnone
    · refine List.foldlRecOn (motive := fun u : State => tabGet? u.time.counts c = tabGet? s.time.counts c) _ _ rfl fun u hu e _ => ?_
      refine Eq.trans ?_ hu
      unfold State.dropExchanges
      split
      · split
        · rfl
        · unfold State.measureBroken
          split
          · exact tabGet?_tabErase_ne _ (by omega)
          · rfl
      · rfl
    · dsimp only
      rw [hnone]
      rfl

theorem State.setAdj_counts (s : State) (a : Int) : (s.setAdj a).time.counts = s.time.counts := (setAdj_servoSide s a).counts

theorem State.servoOffset_count (hlog : s.logOnly 33 = true) (h : c < 6 ∨ s.time.armed = true ∨ s.slk.timeLinks = []) :
    tabGet? (s.servoOffset c off ref).time.counts c = tabGet? s.time.counts c := by
  rcases Bool.eq_false_or_eq_true s.time.armed with harmed | harmed
  · rw [(State.servoOffset_servoSide harmed hlog).counts]
    rfl
  · obtain ⟨servo, heq⟩ := State.servoOffset_unarmed (c := c) (off := off) (ref := ref) harmed
    have hstep := (s.offsetNoted c off ref).stepLedger_count (c := c) off (by
      rcases h with h | h | h
      · exact .inl h
      · simp [harmed] at h
      · exact .inr h)
    rw [heq]
    split
    · rw [(faultSide_servoSide (condClear_faultSide _ 32 0)).counts]
      exact (congrArg (tabGet? · c) (State.setAdj_counts _ _)).trans hstep
    · exact (congrArg (tabGet? · c) (State.setAdj_counts _ _)).trans hstep

theorem State.counted_count (s : State) (c : Nat) : tabGet? (s.counted c).time.counts c = some (s.srcCount c + 1) := by
  simp [State.counted]

/-- A measurement counts toward its source. -/
theorem State.measure_count (hlog : s.logOnly 33 = true) (h : c < 6 ∨ s.time.armed = true ∨ s.slk.timeLinks = []) :
    (s.measure c off ref).srcCount c = s.srcCount c + 1 := by
  unfold State.measure
  have hu := takeSource_servoSide (s.counted c)
  have hc : tabGet? (s.counted c).takeSource.time.counts c = some (s.srcCount c + 1) := by rw [hu.counts, State.counted_count]
  have hl : (s.counted c).takeSource.logOnly 33 = true := (hu.logOnly (by decide)).trans hlog
  have ha : (s.counted c).takeSource.time.armed = s.time.armed ∧ (s.counted c).takeSource.slk = s.slk := by
    unfold State.takeSource
    dsimp only
    split <;> exact ⟨rfl, rfl⟩
  generalize (s.counted c).takeSource = u at hc hl ha
  dsimp only
  have hs : ∀ v : State, tabGet? v.time.counts c = some (s.srcCount c + 1) → v.servoSettle.srcCount c = s.srcCount c + 1 := by
    intro v hv
    rw [State.srcCount, State.servoSettle_time, tabGetD, hv]
    rfl
  refine hs _ ?_
  split
  · rw [State.servoOffset_count hl (by rw [ha.1, ha.2]; exact h), hc]
  · exact hc

/-- With no rank set the source stays selected, and its offset is taken. -/
theorem State.measure_selected (hsrc : s.time.source = c) (hrank : s.rn Reg.TIME_SRC_RANK = 0) :
    s.measure c off ref = ((s.counted c).servoOffset c off ref).servoSettle := by
  have htake : (s.counted c).takeSource = s.counted c := by
    refine if_pos (.inl ?_)
    have hr : (s.counted c).rn Reg.TIME_SRC_RANK = 0 := hrank
    rw [State.selectSource, hr]
    rfl
  unfold State.measure
  rw [htake]
  exact congrArg State.servoSettle (if_pos hsrc)

/-- What the settled registers show of a servo state. -/
theorem State.servoSettle_state (s : State) : s.servoSettle.fld Reg.TIME_SERVO_STAT 2 0 = servoCode s.time.servo := by
  rw [State.fld, State.servoSettle, State.rn_wn_ne _ _ (by decide), State.rn_wn_self]
  have h : servoCode s.time.servo < 5 := by cases s.time.servo <;> decide
  simp only [bits]
  omega

theorem State.servoSettle_pair (s : State) : s.servoSettle.pair Reg.TIME_STEP = s.pair Reg.TIME_STEP :=
  s.servoSettle_regSide.pair (by decide) (by decide)

theorem State.pair_setStep (s : State) (d : Int) : (s.setStep d).pair Reg.TIME_STEP = unsigned 64 d := by
  rw [State.setStep, State.pair_setPair]
  exact Nat.mod_eq_of_lt (unsigned_lt 64 d)

theorem State.setAdj_time (s : State) (a : Int) :
    (s.setAdj a).time.led = s.time.led ∧ (s.setAdj a).time.servo = s.time.servo ∧ (s.setAdj a).time.lastOffset = s.time.lastOffset
      ∧ (s.setAdj a).pair Reg.TIME_STEP = s.pair Reg.TIME_STEP := by
  unfold State.setAdj
  split <;> exact ⟨rfl, rfl, rfl, rfl⟩

/-- Before ARMED the offset steps the ledger. -/
theorem State.servoOffset_unarmed_led (harmed : s.time.armed = false) :
    (s.servoOffset c off ref).time.led = ((s.time.led : Int) + off * (ledNs : Nat)).toNat
      ∧ (s.servoOffset c off ref).time.lastOffset = off := by
  obtain ⟨servo, heq⟩ := State.servoOffset_unarmed (c := c) (off := off) (ref := ref) harmed
  obtain ⟨slk, counts, led, hled, hstep⟩ := (s.offsetNoted c off ref).stepLedger_keeps off
  have hoff : ((s.offsetNoted c off ref).stepLedger off).time.lastOffset = off := by rw [hstep]; rfl
  have hl : ((s.offsetNoted c off ref).stepLedger off).time.led = led := by rw [hstep]
  generalize (s.offsetNoted c off ref).stepLedger off = v at heq hoff hl
  obtain ⟨hvled, -, hvoff, -⟩ := State.setAdj_time v ref
  generalize v.setAdj ref = w at heq hvled hvoff
  have hside := condClear_faultSide { w with time := { w.time with servo := servo } } 32 0
  have hw : w.time.led = ((s.time.led : Int) + off * (ledNs : Nat)).toNat := hvled.trans (hl.trans hled)
  rw [heq]
  split
  · rw [hside.time]
    exact ⟨hw, hvoff.trans hoff⟩
  · exact ⟨hw, hvoff.trans hoff⟩

/-- The refused step waits with its amount. -/
theorem State.stepRefused_spec (hlog : s.logOnly 33 = true) :
    (s.stepRefused off).time.stepPending = true ∧ (s.stepRefused off).time.servo = .slew
      ∧ (s.stepRefused off).pair Reg.TIME_STEP = unsigned 64 off ∧ (s.stepRefused off).time.led = s.time.led := by
  have hpair := State.pair_setStep { s with time := { s.time with stepPending := true, servo := .slew, overThr := 0 } } off
  have hl := (setStep_servoSide { s with time := { s.time with stepPending := true, servo := .slew, overThr := 0 } } off).logOnly
    (d := 33) (by decide)
  have hside := raiseOnce_faultSide _ 33 0 (unsigned 32 off) (hl.trans hlog)
  refine ⟨(congrArg TimeState.stepPending hside.time).trans rfl, (congrArg TimeState.servo hside.time).trans rfl, ?_,
    (congrArg TimeState.led hside.time).trans rfl⟩
  exact (hside.pair (by decide) (by decide)).trans hpair

theorem State.setAdj_pending (s : State) (a : Int) : (s.setAdj a).time.stepPending = s.time.stepPending := (s.setAdj_step a).2.1

/-- The fourth measurement in succession above the threshold leaves a step pending. -/
theorem State.measure_refused (hsrc : s.time.source = c) (hrank : s.rn Reg.TIME_SRC_RANK = 0) (hlog : s.logOnly 33 = true)
    (harmed : s.time.armed = true) (hat : s.time.stepAt = none) (hpend : s.time.stepPending = false) (hn : 3 ≤ s.time.overThr)
    (hout : (s.rn Reg.TIME_JUMP_THR : Int) < off.natAbs) :
    (s.measure c off ref).time.stepPending = true ∧ (s.measure c off ref).time.servo = .slew
      ∧ (s.measure c off ref).pair Reg.TIME_STEP = unsigned 64 off ∧ (s.measure c off ref).fld Reg.TIME_SERVO_STAT 2 0 = 4
      ∧ (s.measure c off ref).time.led = s.time.led := by
  obtain ⟨n, a, heq⟩ := State.servoOffset_refused (s := s.counted c) (c := c) (off := off) (ref := ref) harmed hat hpend hout hn
  have hl : ({ (s.counted c).offsetNoted c off ref with time := { ((s.counted c).offsetNoted c off ref).time with
      overThr := n } } : State).logOnly 33 = true :=
    (State.offsetNoted_logOnly (s := s.counted c) (c := c) (off := off) (ref := ref) (by decide)).trans hlog
  obtain ⟨hp, hs, hpair, hled⟩ := State.stepRefused_spec (off := off) hl
  rw [State.measure_selected hsrc hrank, heq]
  have hled' := hled.trans (show _ = s.time.led from rfl)
  clear hled heq
  generalize State.stepRefused _ off = v at hp hs hpair hled'
  obtain ⟨hvled, hvservo, -, hvpair⟩ := State.setAdj_time v a
  refine ⟨?_, ?_, ?_, ?_, ?_⟩
  · rw [State.servoSettle_time, State.setAdj_pending, hp]
  · rw [State.servoSettle_time, hvservo, hs]
  · rw [State.servoSettle_pair, hvpair, hpair]
  · rw [State.servoSettle_state, hvservo, hs]
    rfl
  · rw [State.servoSettle_time, hvled, hled']

/-- While a step is pending its amount follows each measurement above the threshold. -/
theorem State.measure_insisted (hsrc : s.time.source = c) (hrank : s.rn Reg.TIME_SRC_RANK = 0)
    (harmed : s.time.armed = true) (hat : s.time.stepAt = none) (hpend : s.time.stepPending = true)
    (hout : (s.rn Reg.TIME_JUMP_THR : Int) < off.natAbs) :
    (s.measure c off ref).time.stepPending = true ∧ (s.measure c off ref).pair Reg.TIME_STEP = unsigned 64 off := by
  obtain ⟨a, heq⟩ := State.servoOffset_insisted (s := s.counted c) (c := c) (off := off) (ref := ref) harmed hat hpend hout
  have hp : (((s.counted c).offsetNoted c off ref).setStep off).time.stepPending = true := hpend
  have hpair := ((s.counted c).offsetNoted c off ref).pair_setStep off
  rw [State.measure_selected hsrc hrank, heq]
  generalize State.setStep _ off = v at hp hpair
  exact ⟨by rw [State.servoSettle_time, State.setAdj_pending, hp],
    by rw [State.servoSettle_pair, (State.setAdj_time v a).2.2.2, hpair]⟩

theorem State.track_time (s : State) : s.track.time.stepPending = s.time.stepPending ∧ s.track.time.servo = s.time.servo
    ∧ s.track.pair Reg.TIME_STEP = s.pair Reg.TIME_STEP := by
  unfold State.track
  obtain ⟨-, hservo, -, hpair⟩ := State.setAdj_time { s with fresh := s.fresh + 1 }
    (if s.time.armed then clampI (s.time.refRate - ppm10) (s.time.refRate + ppm10) (Config.servoAdjust s.fresh)
      else Config.servoAdjust s.fresh)
  exact ⟨State.setAdj_pending _ _, hservo, hpair⟩

/-- A measurement within the threshold ends the pending step. -/
theorem State.measure_settled (hsrc : s.time.source = c) (hrank : s.rn Reg.TIME_SRC_RANK = 0)
    (harmed : s.time.armed = true) (hat : s.time.stepAt = none) (hpend : s.time.stepPending = true)
    (hin : (off.natAbs : Int) ≤ s.rn Reg.TIME_JUMP_THR) :
    (s.measure c off ref).time.stepPending = false ∧ (s.measure c off ref).time.servo = .locked
      ∧ (s.measure c off ref).pair Reg.TIME_STEP = 0 := by
  have heq := State.servoOffset_settled (s := s.counted c) (c := c) (off := off) (ref := ref) harmed hat hpend hin
  rw [State.measure_selected hsrc hrank, heq]
  have hpair := State.pair_setStep_zero { (s.counted c).offsetNoted c off ref with time :=
    { ((s.counted c).offsetNoted c off ref).time with stepPending := false, servo := .locked, overThr := 0 } }
  have htime : (State.setStep { (s.counted c).offsetNoted c off ref with time :=
      { ((s.counted c).offsetNoted c off ref).time with stepPending := false, servo := .locked, overThr := 0 } } 0).time.stepPending = false
    ∧ (State.setStep { (s.counted c).offsetNoted c off ref with time :=
      { ((s.counted c).offsetNoted c off ref).time with stepPending := false, servo := .locked, overThr := 0 } } 0).time.servo = .locked :=
    ⟨rfl, rfl⟩
  clear heq
  generalize State.setStep _ 0 = v at hpair htime
  have hside := (condClear_faultSide v 33 0).trans (condClear_faultSide _ 32 0)
  obtain ⟨hp, hs, hq⟩ := State.track_time ((v.condClear 33 0).condClear 32 0)
  refine ⟨?_, ?_, ?_⟩
  · rw [State.servoSettle_time, hp, hside.time, htime.1]
  · rw [State.servoSettle_time, hs, hside.time, htime.2]
  · rw [State.servoSettle_pair, hq, hside.pair (by decide) (by decide), hpair]

/-! #### Lost sources -/

/-- A group without block lock is lost as a source. -/
theorem State.sourceLost_group (hc : 6 ≤ c) (hc8 : c ≤ 8) (hlock : s.groupLocked (c - 6) = false) :
    s.sourceLost c = s.timeSourceGone c :=
  (if_neg (by omega)).trans ((if_pos ⟨hc, hc8⟩).trans (if_neg (by simp [hlock])))

theorem State.timeSourceGone_count (hlog : s.logOnly 32 = true) : tabGet? (s.timeSourceGone c).time.counts c = none := by
  rw [(timeSourceGone_servoSide c hlog).counts]
  exact tabGet?_tabErase_self _ _

/-- The state of a port whose master is forgotten. -/
def PtpPort.forgotten (x : PtpPort) : PtpPort := { x with best := none, announces := 0 }

/-- A slave-only port whose announces have expired is lost as a source. -/
theorem State.sourceLost_port (hc : 1 ≤ c) (hc4 : c ≤ 4) (hrole : (s.ptpPort (c - 1)).role = .slave) (hmode : s.portMode (c - 1) = 1)
    (hexp : s.announceExpired (c - 1) = true) :
    s.sourceLost c = (s.modPort (c - 1) PtpPort.forgotten).setRole (c - 1) .listening :=
  (if_pos ⟨hc, hc4⟩).trans ((if_neg (by simp [hmode])).trans (if_pos (by simp [hrole, hexp])))

/-- A port that stops being a slave is no source any more. -/
theorem State.setRole_listening {p : Nat} (hrole : (s.ptpPort p).role = .slave) (hlog : s.logOnly 32 = true) :
    ((s.setRole p .listening).ptpPort p).role = .listening ∧ ((s.setRole p .listening).ptpPort p).best = (s.ptpPort p).best
      ∧ tabGet? (s.setRole p .listening).time.counts (p + 1) = none := by
  obtain ⟨u, hu, hport, hl⟩ : ∃ u : State, s.setRole p .listening = u.timeSourceGone (p + 1)
      ∧ ((u.ptpPort p).role = .listening ∧ (u.ptpPort p).best = (s.ptpPort p).best) ∧ u.logOnly 32 = true := by
    rw [State.setRole, hrole]
    refine ⟨_, (if_neg (by decide)).trans (if_pos rfl), ?_, hlog⟩
    rw [State.ptpPort_modPort]
    exact ⟨rfl, rfl⟩
  have hsame : (u.timeSourceGone (p + 1)).ptpPort p = u.ptpPort p :=
    congrArg (fun l : Tab PtpPort => tabGetD l p {}) (timeSourceGone_servoSide (p + 1) hl).ports
  rw [hu, hsame]
  exact ⟨hport.1, hport.2, State.timeSourceGone_count hl⟩

/-- The selected source, with no other in view, gives way to HOLDOVER. -/
theorem State.timeSourceGone_holdover (hsrc : s.time.source = c) (hc : 6 ≤ c) (hrank : s.rn Reg.TIME_SRC_RANK = 0)
    (hfree : s.time.servo ≠ .free) : s.timeSourceGone c = (s.uncounted c).holdover.servoSettle := by
  rw [State.timeSourceGone_eq]
  have hr : (s.uncounted c).rn Reg.TIME_SRC_RANK = 0 := hrank
  have hsel : (s.uncounted c).selectSource = 0 := by
    rw [State.selectSource, hr]
    rfl
  refine congrArg State.servoSettle ((if_pos ?_).trans ((if_neg (by simp [hsel])).trans (if_neg ?_)))
  · have hs : (s.uncounted c).time.source = c := hsrc
    simp [hs]
    omega
  · have hs : (s.uncounted c).time.servo ≠ .free := hfree
    simpa using hs

theorem State.stepDropped_time (s : State) : s.stepDropped.time.servo = s.time.servo ∧ s.stepDropped.time.source = s.time.source
    ∧ s.stepDropped.time.holdSince = s.time.holdSince := by
  unfold State.stepDropped
  split
  · have hside := condClear_faultSide (({ s with time := { s.time with stepPending := false } } : State).setStep 0) 33 0
    rw [hside.time]
    exact ⟨rfl, rfl, rfl⟩
  · exact ⟨rfl, rfl, rfl⟩

theorem State.holdover_spec (hlog : s.logOnly 32 = true) :
    s.holdover.time.servo = .holdover ∧ s.holdover.time.source = 0 ∧ s.holdover.time.holdSince = some s.clk := by
  rw [State.holdover_eq]
  have hclk : (s.setAdj s.meanAdj).clk = s.clk := by
    unfold State.setAdj
    split <;> rfl
  have hl : (s.setAdj s.meanAdj).heldOver.logOnly 32 = true :=
    ((setAdj_servoSide s s.meanAdj).logOnly (d := 32) (by decide)).trans hlog
  generalize s.setAdj s.meanAdj = u at hclk hl
  obtain ⟨hservo, hsource, hsince⟩ := State.stepDropped_time u.heldOver
  have hside := raiseOnce_faultSide _ 32 0 0 (((stepDropped_servoSide u.heldOver).logOnly (d := 32) (by decide)).trans hl)
  rw [hside.time, hservo, hsource, hsince]
  exact ⟨rfl, rfl, congrArg some hclk⟩

/-- Settles O23, by the branches of the servo's rule and of a lost source. -/
theorem servoMeasuresAndLoses : Obligations.ServoMeasuresAndLoses := by
  intro dt c off ref s hcore h33 h32
  have hhold : SameHold s (acted dt s fun s => s.measure c off ref) := sameHold_of_hold (by simp)
  refine ⟨fun hc => ?count, fun hsrc hrank harmed => ?step, fun hsrc hrank harmed hat hpend hn hout => ?refuse,
    fun hsrc hrank harmed hat hpend hout => ?insist, fun hsrc hrank harmed hat hpend hin => ?settle,
    fun hc hc8 hlock => ?group, fun hc hc4 hrole hmode hexp => ?port, fun hc hc4 hrole hexp hsync => ?stays,
    fun hc hc8 hlock hsrc hrank hfree => ?holdover⟩
  case count =>
    exact completes_act (f := fun s => s.measure c off ref) rfl hcore
      ⟨State.measure_count (s := s.advance dt) h33 hc, hhold⟩
  case step =>
    have hm := State.measure_selected (s := s.advance dt) (c := c) (off := off) (ref := ref) hsrc hrank
    obtain ⟨hled, hoff⟩ := State.servoOffset_unarmed_led (s := (s.advance dt).counted c) (c := c) (off := off) (ref := ref) harmed
    refine completes_act (f := fun s => s.measure c off ref) rfl hcore ⟨?_, ?_, hhold⟩
    · exact (congrArg (fun u : State => u.time.led) hm).trans hled
    · exact (congrArg (fun u : State => u.time.lastOffset) hm).trans hoff
  case refuse =>
    obtain ⟨hp, hs, hpair, hst, hled⟩ := State.measure_refused (s := s.advance dt) (c := c) (off := off) (ref := ref) hsrc hrank h33
      harmed hat hpend hn.ge hout
    exact completes_act (f := fun s => s.measure c off ref) rfl hcore ⟨hp, hs, hpair, hst, hled, hhold⟩
  case insist =>
    obtain ⟨hp, hpair⟩ := State.measure_insisted (s := s.advance dt) (c := c) (off := off) (ref := ref) hsrc hrank harmed hat hpend hout
    exact completes_act (f := fun s => s.measure c off ref) rfl hcore ⟨hp, hpair, hhold⟩
  case settle =>
    obtain ⟨hp, hs, hpair⟩ := State.measure_settled (s := s.advance dt) (c := c) (off := off) (ref := ref) hsrc hrank harmed hat hpend hin
    exact completes_act (f := fun s => s.measure c off ref) rfl hcore ⟨hp, hs, hpair, hhold⟩
  case group =>
    refine completes_eq rfl hcore (State.sourceLost_group (s := s.advance dt) hc hc8 hlock) ?_
    exact ⟨State.timeSourceGone_count (s := s.advance dt) h32,
      sameHold_of_hold (timeSourceGone_servoSide (s := s.advance dt) c h32).hold⟩
  case port =>
    refine completes_eq rfl hcore (State.sourceLost_port (s := s.advance dt) hc hc4 hrole hmode hexp) ?_
    have hport := (s.advance dt).ptpPort_modPort (c - 1) PtpPort.forgotten
    obtain ⟨hr, hb, hcount⟩ := State.setRole_listening (s := (s.advance dt).modPort (c - 1) PtpPort.forgotten) (p := c - 1)
      ((congrArg PtpPort.role hport).trans hrole) h32
    rw [Nat.sub_add_cancel hc] at hcount
    exact ⟨hr, hb.trans (congrArg PtpPort.best hport), hcount, sameHold_of_hold (by simp)⟩
  case stays =>
    refine completes_eq rfl hcore ((if_pos ⟨hc, hc4⟩).trans ((if_neg ?_).trans (if_neg ?_))) ?_
    · simp [hexp]
    · have : (s.advance dt).elapsed ((s.advance dt).ptpPort (c - 1)).lastSync (sec 1) = false :=
        decide_eq_false (Nat.not_le.2 hsync)
      simp [hexp, this]
    · exact ⟨rfl, fun _ => rfl, fun _ => rfl⟩
  case holdover =>
    have hgone := (State.sourceLost_group (s := s.advance dt) hc hc8 hlock).trans
      (State.timeSourceGone_holdover (s := s.advance dt) hsrc hc hrank hfree)
    obtain ⟨hservo, hsource, hsince⟩ := State.holdover_spec (s := (s.advance dt).uncounted c) h32
    refine completes_eq rfl hcore hgone ?_
    exact ⟨hservo, hsource, hsince, (State.servoSettle_state _).trans (congrArg servoCode hservo),
      sameHold_of_hold (holdover_servoSide (s := (s.advance dt).uncounted c) h32).hold⟩

end Sys2Proof.Machine
end

section
/-! ### One item of a flow (R30) -/

namespace Sys2Proof.Machine

variable {s : State} {m : Nat}

/-- The receive queues stay. -/
def RxKept (s t : State) : Prop := ∀ k, (t.mac k).rxq = (s.mac k).rxq

namespace RxKept

theorem refl (s : State) : RxKept s s := fun _ => rfl

theorem trans {t u : State} (h : RxKept s t) (k : RxKept t u) : RxKept s u := fun i => (k i).trans (h i)

theorem setMac {x : MacState} (h : x.rxq = (s.mac m).rxq) : RxKept s (s.setMac m x) := by
  intro k
  by_cases hk : k = m
  · subst hk
    rw [State.mac_setMac_self, h]
  · rw [State.mac, State.setMac, tabGetD, tabGet?_tabSet_ne _ _ hk]
    rfl

end RxKept

theorem State.txStart_rxKept (s : State) (m : Nat) : RxKept s (s.txStart m) := by
  unfold State.txStart
  dsimp only
  split
  · exact .refl s
  · split
    · split
      · next f fs _ =>
        have h : RxKept s (s.txStamped m f).1 := by
          unfold State.txStamped
          dsimp only
          split
          · exact .refl s
          · split
            · exact fun _ => rfl
            · exact .refl s
        exact h.trans (.setMac (h m).symm)
      · exact .refl s
    · exact .refl s

theorem State.ethSend_rxKept (s : State) (m q : Nat) (kind : String) (f : List Byte) : RxKept s (s.ethSend m q kind f) := by
  unfold State.ethSend
  split
  · exact .refl s
  · dsimp only
    split
    · exact fun _ => rfl
    · refine RxKept.trans (t := s.setMac m _) (.setMac ?_) (State.txStart_rxKept _ _)
      rfl

theorem State.igmpIn_rxKept (s : State) (m : Nat) (b : List Byte) : RxKept s (s.igmpIn m b) := by
  unfold State.igmpIn
  dsimp only
  split
  · exact .refl s
  · exact List.foldlRecOn (motive := RxKept s) _ _ (.setMac rfl) fun u hu g _ => hu.trans (State.ethSend_rxKept u m 3 _ _)

/-- A frame that is served leaves the receive queues. -/
theorem State.serveFrame_rxKept (s : State) (m q : Nat) (f : List Byte) : RxKept s (s.serveFrame m q f) := by
  unfold State.serveFrame
  split
  split
  · unfold State.arpIn
    split
    · exact State.ethSend_rxKept _ _ _ _ _
    · exact .refl s
  · split
    · exact .refl s
    · split
      · unfold State.icmpIn
        dsimp only
        split
        · exact State.ethSend_rxKept _ _ _ _ _
        · exact .refl s
      · exact State.igmpIn_rxKept s m _
      · split
        · exact fun _ => rfl
        · exact .refl s
      · exact .refl s

/-- The oldest frame of the highest queue that holds one leaves it. -/
theorem State.serveReceive_queue {q : Nat} {f : List Byte} {fs : List (List Byte)} (hq : 4 ≤ q) (hq7 : q ≤ 7)
    (habove : ∀ k : Fin 8, q < k → tabGetD (s.mac m).rxq k [] = []) (hhead : tabGetD (s.mac m).rxq q [] = f :: fs) :
    tabGetD ((s.serveReceive m).mac m).rxq q [] = fs := by
  have hfind : ([7, 6, 5, 4] : List Nat).find? (fun q => !(tabGetD (s.mac m).rxq q []).isEmpty) = some q := by
    have h7 := habove 7
    have h6 := habove 6
    have h5 := habove 5
    simp only [show ((7 : Fin 8) : Nat) = 7 from rfl, show ((6 : Fin 8) : Nat) = 6 from rfl,
      show ((5 : Fin 8) : Nat) = 5 from rfl] at h7 h6 h5
    have : q = 4 ∨ q = 5 ∨ q = 6 ∨ q = 7 := by omega
    rcases this with rfl | rfl | rfl | rfl
    · simp [List.find?, h7, h6, h5, hhead]
    · simp [List.find?, h7, h6, hhead]
    · simp [List.find?, h7, hhead]
    · simp [List.find?, hhead]
  rw [State.serveReceive]
  rw [hfind]
  simp only [hhead]
  rw [State.serveFrame_rxKept, State.mac_setMac_self]
  exact tabGetD_tabSet_self _ _ _ _

/-! #### Cues -/

theorem mem_tabSet {α : Type} {t : Tab α} {i : Nat} {v : α} {e : Nat × α} (h : e ∈ tabSet t i v) : e = (i, v) ∨ e ∈ t := by
  induction t with
  | nil => exact .inl (List.mem_singleton.1 h)
  | cons a t ih =>
    obtain ⟨k, x⟩ := a
    rw [tabSet] at h
    split at h
    · rcases List.mem_cons.1 h with h | h
      · exact .inl h
      · exact .inr (List.mem_cons_of_mem _ h)
    · split at h
      · rcases List.mem_cons.1 h with h | h
        · exact .inl h
        · exact .inr h
      · rcases List.mem_cons.1 h with h | h
        · exact .inr (h ▸ List.mem_cons_self)
        · rcases ih h with h | h
          · exact .inl h
          · exact .inr (List.mem_cons_of_mem _ h)

theorem State.cueEnd_slots (s : State) (i state cause : Nat) : ∃ c : Cue, c.state = state
    ∧ (s.cueEnd i state cause).cues.slots = tabSet s.cues.slots i c := by
  unfold State.cueEnd
  dsimp only
  split <;> exact ⟨{ s.cueAt i with state := state, cause := cause, at64 := s.now64, atFrac := s.frac }, rfl, rfl⟩

/-- A cue on which no other depends ends alone. -/
theorem State.cueFinish_alone {i st : Nat} (hst : 3 ≤ st) (hopen : (s.cueAt i).state < 3)
    (hdep : ∀ e ∈ s.pendingCues, s.cueId i ∉ cDeps e.2) : s.cueFinish i st 0 = s.cueEnd i st 0 := by
  have hrelease : (s.cueEnd i st 0).cueRelease (s.cueId i) st = (s.cueEnd i st 0, []) := by
    obtain ⟨c, hc, hslots⟩ := s.cueEnd_slots i st 0
    have hnone : (s.cueEnd i st 0).pendingCues.filter (fun e => e.2.state == 1 && (cDeps e.2).contains (s.cueId i)) = [] := by
      refine List.filter_eq_nil_iff.2 fun e he => ?_
      rw [State.pendingCues, hslots, List.mem_filter] at he
      obtain ⟨hmem, hp⟩ := he
      rcases mem_tabSet hmem with rfl | hmem
      · simp [hc]
        omega
      · have := hdep e (List.mem_filter.2 ⟨hmem, hp⟩)
        simp [this]
    rw [State.cueRelease, hnone]
    rfl
  rw [State.cueFinish, State.cueRun]
  show State.cueTasks (19999 + 1) [.finish i st 0] s = _
  rw [State.cueTasks, if_neg (by simp [cFinal]; omega)]
  rw [hrelease]
  show State.cueTasks (19998 + 1) [] _ = _
  rw [State.cueTasks]
  exact Nat.succ_ne_zero _

/-- Settles O22: what a flow hands over leaves its queue or its list. -/
theorem itemDispatch : Obligations.ItemDispatch := by
  intro dt q b i m f fs s hcore
  refine ⟨fun hq hq7 habove hhead => ?receive, fun hnext hready haction hdep => ?cue⟩
  case receive =>
    exact completes_act (f := fun s => s.serveReceive m) rfl hcore
      ⟨State.serveReceive_queue (s := s.advance dt) hq hq7 habove hhead, sameHold_of_hold (by simp)⟩
  case cue =>
    have hact : (s.advance dt).dispatchCue b = (s.advance dt).cueEnd i 3 0 := by
      have hh : (s.advance dt).handleAt b = s.handleAt b := rfl
      rw [State.dispatchCue, hh, hnext]
      dsimp only
      rw [State.cueAct, show cAction ((s.advance dt).cueAt i) = 0 from haction]
      exact State.cueFinish_alone (s := s.advance dt) (le_refl 3) (hready.trans_lt (by decide)) hdep
    refine completes_eq rfl hcore hact ?_
    obtain ⟨c, hc, hslots⟩ := (s.advance dt).cueEnd_slots i 3 0
    rw [State.cueAt, acted_cues, hslots, tabGetD_tabSet_self, hc]

end Sys2Proof.Machine
end

section
/-! ### What the functions of the model leave as it was: the pipeline, lanes, tiles, cues and the twin -/

namespace Sys2Proof.Machine

@[simp] theorem foldl_pipe {α : Type} {f : State → α → State} (l : List α) (s : State) (hf : ∀ u x, (f u x).pipe = u.pipe) :
  (l.foldl f s).pipe = s.pipe := foldl_keeps (fun u : State => u.pipe) hf l s

theorem State.pipe_ite {c : Prop} [Decidable c] (a b : State) : (if c then a else b).pipe = if c then a.pipe else b.pipe := apply_ite ..

@[simp] theorem State.wrWords_pipe (s : State) (a : Nat) (ws : List Nat) : (s.wrWords a ws).pipe = s.pipe := by
  induction ws generalizing s a with
  | nil => rfl
  | cons w ws ih => exact ih ..

@[simp] theorem State.enterTrip_pipe (s : State) (t : Trip) : (s.enterTrip t).1.pipe = s.pipe := (enterTrip_faultSide s t).pipe

@[simp] theorem State.lineOut_pipe (s : State) (l c n : Nat) (bs : List SlkBlock) : (s.lineOut l c n bs).pipe = s.pipe := by
  unfold State.lineOut
  split <;> rfl

@[simp] theorem State.setLinkTx_pipe (s : State) (k : Nat) (x : LinkTx) : (s.setLinkTx k x).pipe = s.pipe := rfl

@[simp] theorem State.send_pipe (s : State) (a : String) (b : Nat) (c : List Nat) : (s.send a b c).pipe = s.pipe := rfl

@[simp] theorem State.txSend_pipe (s : State) (k : Nat) (p : TxPacket) (c : Nat) : (s.txSend k p c).pipe = s.pipe := by
  unfold State.txSend
  dsimp only
  split
  · rfl
  · simp -implicitDefEqProofs [State.pipe_ite]

@[simp] theorem txDrain_pipe (n : Nat) (s : State) (k : Nat) : (State.txDrain n s k).pipe = s.pipe := by
  induction n generalizing s with
  | zero => rfl
  | succ n ih =>
    unfold State.txDrain
    dsimp only
    split
    · rfl
    · split
      · rfl
      · split
        · rw [ih, State.txSend_pipe]
        · rfl

@[simp] theorem State.keepWrite_pipe (s : State) (i : Nat) (ws : List Nat) : (s.keepWrite i ws).pipe = s.pipe := by
  rw [State.keepWrite, State.keepCheck, State.wr_pipe, State.wrWords_pipe]

@[simp] theorem State.draw_pipe (s : State) : s.draw.2.pipe = s.pipe := by
  unfold State.draw
  simp -implicitDefEqProofs

@[simp] theorem State.notify_pipe (s : State) (code sev source : Nat) (data : List Nat) : (s.notify code sev source data).pipe = s.pipe := by
  unfold State.notify
  simp -implicitDefEqProofs

@[simp] theorem State.sendBlocks_pipe (s : State) (kind : String) (lane : Nat) (bs : List SlkBlock) : (s.sendBlocks kind lane bs).pipe = s.pipe := by
  unfold State.sendBlocks
  simp -implicitDefEqProofs

@[simp] theorem State.modLane_pipe (s : State) (l : Nat) (f : Lane → Lane) : (s.modLane l f).pipe = s.pipe := by
  unfold State.modLane
  simp -implicitDefEqProofs

@[simp] theorem State.setLaneBit_pipe (s : State) (l i : Nat) (b : Bool) : (s.setLaneBit l i b).pipe = s.pipe := by
  unfold State.setLaneBit
  simp -implicitDefEqProofs

@[simp] theorem State.condClear_pipe (s : State) (d i : Nat) : (s.condClear d i).pipe = s.pipe := by
  unfold State.condClear
  extract_lets u1 u2
  split
  · rename_i w3 w4 w5
    simp -implicitDefEqProofs [State.pipe_ite]
  · simp -implicitDefEqProofs

@[simp] theorem State.loadLatency_pipe (s : State) (p l : Nat) : (s.loadLatency p l).pipe = s.pipe := by
  unfold State.loadLatency
  simp -implicitDefEqProofs

@[simp] theorem State.measureBroken_pipe (s : State) (c : Nat) : (s.measureBroken c).pipe = s.pipe := by
  unfold State.measureBroken
  simp -implicitDefEqProofs [State.pipe_ite]

@[simp] theorem State.dropExchanges_pipe (s : State) (k : Nat) : (s.dropExchanges k).pipe = s.pipe := by
  unfold State.dropExchanges
  extract_lets u1
  split
  · rename_i w2 w3 w4
    simp -implicitDefEqProofs [State.pipe_ite]
  · simp -implicitDefEqProofs

@[simp] theorem State.groupSettle_pipe (s : State) (g : Nat) : (s.groupSettle g).pipe = s.pipe := by
  unfold State.groupSettle
  extract_lets u1 u2 u3 u4 u5 u6
  have hu6 : u6.pipe = s.pipe := by
    simp -implicitDefEqProofs [u6]
  clear_value u6
  split
  · rename_i w7 w8 w9
    simp -implicitDefEqProofs [hu6, State.pipe_ite]
  · simp -implicitDefEqProofs [hu6]

@[simp] theorem State.setTx_pipe (s : State) (l : Nat) (m : LaneTx) : (s.setTx l m).pipe = s.pipe := by
  unfold State.setTx
  simp -implicitDefEqProofs [State.pipe_ite]

@[simp] theorem State.sendMask_pipe (s : State) (g l : Nat) : (s.sendMask g l).pipe = s.pipe := by
  unfold State.sendMask
  simp -implicitDefEqProofs

@[simp] theorem State.groupRemove_pipe (s : State) (l : Nat) : (s.groupRemove l).pipe = s.pipe := by
  unfold State.groupRemove
  extract_lets u1 u2
  have hu2 : u2.pipe = s.pipe := by
    simp -implicitDefEqProofs [u2]
  clear_value u2
  simp -implicitDefEqProofs [hu2, State.pipe_ite]

@[simp] theorem State.laneBack_pipe (s : State) (l : Nat) : (s.laneBack l).pipe = s.pipe := by
  unfold State.laneBack
  simp -implicitDefEqProofs

@[simp] theorem State.setLaneSt_pipe (s : State) (l st : Nat) : (s.setLaneSt l st).pipe = s.pipe := by
  unfold State.setLaneSt
  extract_lets u1 u2 u3 u4 u5 u6 u7 u8 u9 u10 u11 u12 u13 u14 u15
  have hu2 : u2.pipe = s.pipe := by
    simp -implicitDefEqProofs [u2]
  clear_value u2
  have hu3 : u3.pipe = s.pipe := by
    simp -implicitDefEqProofs [u3, hu2]
  clear_value u3
  have hu4 : u4.pipe = s.pipe := by
    simp -implicitDefEqProofs [u4, hu3]
  clear_value u4
  have hu5 : u5.pipe = s.pipe := by
    simp -implicitDefEqProofs [u5, hu4]
  clear_value u5
  have hu7 : u7.pipe = s.pipe := by
    simp -implicitDefEqProofs [u7, hu5]
  clear_value u7
  have hu8 : u8.pipe = s.pipe := by
    simp -implicitDefEqProofs [u8, hu7, State.pipe_ite]
  clear_value u8
  have hu9 : u9.pipe = s.pipe := by
    simp -implicitDefEqProofs [u9, hu5, hu8, State.pipe_ite]
  clear_value u9
  have hu10 : u10.pipe = s.pipe := by
    simp -implicitDefEqProofs [u10, hu9, State.pipe_ite]
  clear_value u10
  have hu11 : u11.pipe = s.pipe := by
    simp -implicitDefEqProofs [u11, hu10, State.pipe_ite]
  clear_value u11
  have hu13 : u13.pipe = s.pipe := by
    simp -implicitDefEqProofs [u13, hu11, State.pipe_ite]
  clear_value u13
  have hu14 : u14.pipe = s.pipe := by
    simp -implicitDefEqProofs [u14, hu13, State.pipe_ite]
  clear_value u14
  have hu15 : u15.pipe = s.pipe := by
    simp -implicitDefEqProofs [u15, hu14]
  clear_value u15
  simp -implicitDefEqProofs [hu10, hu15, State.pipe_ite]

@[simp] theorem State.enterHail_pipe (s : State) (l : Nat) : (s.enterHail l).pipe = s.pipe := by
  unfold State.enterHail
  extract_lets u1 u2
  have hu1 : u1.pipe = s.pipe := by
    simp -implicitDefEqProofs [u1]
  clear_value u1
  have hu2 : u2.pipe = s.pipe := by
    simp -implicitDefEqProofs [u2, hu1]
  clear_value u2
  simp -implicitDefEqProofs [hu2]

@[simp] theorem State.clearCeiling_pipe (s : State) (l : Nat) : (s.clearCeiling l).pipe = s.pipe := by
  unfold State.clearCeiling
  simp -implicitDefEqProofs

@[simp] theorem State.retrain_pipe (s : State) (l : Nat) : (s.retrain l).pipe = s.pipe := by
  unfold State.retrain
  simp -implicitDefEqProofs

@[simp] theorem State.setEligible_pipe (s : State) (b : Bool) : (s.setEligible b).pipe = s.pipe := by
  unfold State.setEligible
  extract_lets u1 u2
  have hu2 : u2.pipe = s.pipe := by
    simp -implicitDefEqProofs [u2, State.pipe_ite]
  clear_value u2
  simp -implicitDefEqProofs [hu2]

@[simp] theorem State.oredSettle_pipe (s : State) : s.oredSettle.pipe = s.pipe := by
  unfold State.oredSettle
  extract_lets u1
  refine (foldl_pipe _ _ fun v2 x2 => ?_).trans ?_
  · extract_lets u3 u4
    have hu4 : u4.pipe = v2.pipe := by
      simp -implicitDefEqProofs [u4]
    clear_value u4
    split
    · refine (foldl_pipe _ _ fun v5 x5 => ?_).trans ?_
      · extract_lets u6 u7 u8 u9
        have hu8 : u8.pipe = v5.pipe := by
          simp -implicitDefEqProofs [u8]
        clear_value u8
        simp -implicitDefEqProofs [hu8, State.pipe_ite]
      · simp -implicitDefEqProofs [hu4]
    · simp -implicitDefEqProofs
  · simp -implicitDefEqProofs

@[simp] theorem State.dmxYield_pipe (s : State) : s.dmxYield.pipe = s.pipe := by
  unfold State.dmxYield
  simp -implicitDefEqProofs [State.pipe_ite]

@[simp] theorem State.roleChange_pipe (s : State) (rule : Nat) : (s.roleChange rule).pipe = s.pipe := by
  unfold State.roleChange
  extract_lets u1 u2 u3 u4 u5 u6 u7 u8 u9 u10 u11 u12 u13
  have hu2 : u2.pipe = s.pipe := by
    simp -implicitDefEqProofs [u2]
  clear_value u2
  have hu3 : u3.pipe = s.pipe := by
    simp -implicitDefEqProofs [u3, hu2]
  clear_value u3
  have hu5 : u5.pipe = s.pipe := by
    simp -implicitDefEqProofs [u5, hu3]
  clear_value u5
  have hu7 : u7.pipe = s.pipe := by
    simp -implicitDefEqProofs [u7, hu3]
  clear_value u7
  have hu8 : u8.pipe = s.pipe := by
    simp -implicitDefEqProofs [u8, hu7, State.pipe_ite]
  clear_value u8
  have hu9 : u9.pipe = s.pipe := by
    simp -implicitDefEqProofs [u9, hu8]
  clear_value u9
  have hu11 : u11.pipe = s.pipe := by
    simp -implicitDefEqProofs [u11, hu5, hu8, hu9, State.pipe_ite]
  clear_value u11
  have hu12 : u12.pipe = s.pipe := by
    simp -implicitDefEqProofs [u12, hu11]
  clear_value u12
  have hu13 : u13.pipe = s.pipe := by
    simp -implicitDefEqProofs [u13, hu12]
  clear_value u13
  simp -implicitDefEqProofs [hu13]

@[simp] theorem State.keySettle_pipe (s : State) : s.keySettle.pipe = s.pipe := by
  unfold State.keySettle
  extract_lets u1 u2 u3 u4 u5 u6 u7
  have hu3 : u3.pipe = s.pipe := by
    simp -implicitDefEqProofs [u3]
  clear_value u3
  have hu4 : u4.pipe = s.pipe := by
    simp -implicitDefEqProofs [u4, hu3]
  clear_value u4
  have hu6 : u6.pipe = s.pipe := by
    simp -implicitDefEqProofs [u6, hu4]
  clear_value u6
  have hu7 : u7.pipe = s.pipe := by
    simp -implicitDefEqProofs [u7, hu6]
  clear_value u7
  simp -implicitDefEqProofs [hu7]

@[simp] theorem State.blockReset_pipe (s : State) (b : Block) (cause : Nat) : (s.blockReset b cause).pipe = s.pipe := by
  unfold State.blockReset
  simp -implicitDefEqProofs [State.pipe_ite]

@[simp] theorem State.standDownD4_pipe (s : State) : s.standDownD4.pipe = s.pipe := by
  unfold State.standDownD4
  extract_lets u1 u2
  have hu1 : u1.pipe = s.pipe := by
    simp -implicitDefEqProofs [u1]
  clear_value u1
  simp -implicitDefEqProofs [hu1, State.pipe_ite]

@[simp] theorem State.lampFlag_pipe (s : State) (d i : Nat) : (s.lampFlag d i).pipe = s.pipe := by
  unfold State.lampFlag
  extract_lets u1 u2
  have hu2 : u2.pipe = s.pipe := by
    simp -implicitDefEqProofs [u2]
  clear_value u2
  simp -implicitDefEqProofs [hu2, State.pipe_ite]

@[simp] theorem State.txPump_pipe (s : State) (k : Nat) : (s.txPump k).pipe = s.pipe := by
  unfold State.txPump
  simp -implicitDefEqProofs

@[simp] theorem State.enqueue_pipe (s : State) (k : Nat) (p : TxPacket) : (s.enqueue k p).pipe = s.pipe := by
  unfold State.enqueue
  extract_lets u1 u2
  have hu1 : u1.pipe = s.pipe := by
    simp -implicitDefEqProofs [u1]
  clear_value u1
  simp -implicitDefEqProofs [hu1]

@[simp] theorem State.setLpi_pipe (s : State) (l : Nat) (x : LpiState) : (s.setLpi l x).pipe = s.pipe := by
  unfold State.setLpi
  simp -implicitDefEqProofs

@[simp] theorem State.lpiWake_pipe (s : State) (l : Nat) : (s.lpiWake l).pipe = s.pipe := by
  unfold State.lpiWake
  extract_lets u1 u2
  have hu2 : u2.pipe = s.pipe := by
    simp -implicitDefEqProofs [u2]
  clear_value u2
  simp -implicitDefEqProofs [hu2, State.pipe_ite]

@[simp] theorem State.demandAdd_pipe (s : State) (g cls : Nat) (p : List Byte) : (s.demandAdd g cls p).pipe = s.pipe := by
  unfold State.demandAdd
  simp -implicitDefEqProofs

@[simp] theorem State.packetAt_pipe (s : State) (ready k cls : Nat) (kind : String) (p : List Byte) : (s.packetAt ready k cls kind p).pipe = s.pipe := by
  unfold State.packetAt
  extract_lets u1
  have hu1 : u1.pipe = s.pipe := by
    simp -implicitDefEqProofs [u1]
  clear_value u1
  simp -implicitDefEqProofs [hu1, State.pipe_ite]

@[simp] theorem State.packet_pipe (s : State) (k : Nat) (kind : String) (p : List Byte) : (s.packet k kind p).pipe = s.pipe := by
  unfold State.packet
  simp -implicitDefEqProofs

@[simp] theorem State.berthSettle_pipe (s : State) (i : Nat) : (s.berthSettle i).pipe = s.pipe := by
  unfold State.berthSettle
  extract_lets u1 u2 u3 u4
  have hu2 : u2.pipe = s.pipe := by
    simp -implicitDefEqProofs [u2]
  clear_value u2
  have hu3 : u3.pipe = s.pipe := by
    simp -implicitDefEqProofs [u3, hu2]
  clear_value u3
  simp -implicitDefEqProofs [hu3]

@[simp] theorem State.setBerth_pipe (s : State) (i : Nat) (b : Berth) : (s.setBerth i b).pipe = s.pipe := by
  unfold State.setBerth
  simp -implicitDefEqProofs

@[simp] theorem State.stageSettle_pipe (s : State) : s.stageSettle.pipe = s.pipe := by
  unfold State.stageSettle
  simp -implicitDefEqProofs

@[simp] theorem State.tileRegs_pipe (s : State) (t : Nat) : (s.tileRegs t).pipe = s.pipe := by
  unfold State.tileRegs
  extract_lets u1 u2 u3 u4 u5 u6
  have hu5 : u5.pipe = s.pipe := by
    simp -implicitDefEqProofs [u5]
  clear_value u5
  simp -implicitDefEqProofs [hu5]

@[simp] theorem State.scanSettle_pipe (s : State) : s.scanSettle.pipe = s.pipe := by
  unfold State.scanSettle
  extract_lets u1 u2 u3 u4
  have hu4 : u4.pipe = s.pipe := by
    simp -implicitDefEqProofs [u4]
  clear_value u4
  simp -implicitDefEqProofs [hu4]

@[simp] theorem State.setEntry_pipe (s : State) (t : Nat) (e : TileEntry) : (s.setEntry t e).pipe = s.pipe := by
  unfold State.setEntry
  simp -implicitDefEqProofs

@[simp] theorem State.overlapSettle_pipe (s : State) : s.overlapSettle.pipe = s.pipe := by
  unfold State.overlapSettle
  extract_lets u1 u2
  have hu2 : u2.pipe = s.pipe := by
    simp -implicitDefEqProofs [u2]
  clear_value u2
  simp -implicitDefEqProofs [hu2]

@[simp] theorem State.calPull_pipe (s : State) (t offset length : Nat) : (s.calPull t offset length).pipe = s.pipe := by
  unfold State.calPull
  simp -implicitDefEqProofs

@[simp] theorem State.setWalk_pipe (s : State) (l : Nat) (w : Walk) : (s.setWalk l w).pipe = s.pipe := by
  unfold State.setWalk
  simp -implicitDefEqProofs

@[simp] theorem State.discover_pipe (s : State) (l : Nat) (hops : List Nat) : (s.discover l hops).pipe = s.pipe := by
  unfold State.discover
  extract_lets u1 u2
  have hu2 : u2.pipe = s.pipe := by
    simp -implicitDefEqProofs [u2]
  clear_value u2
  simp -implicitDefEqProofs [hu2]

@[simp] theorem State.startWalk_pipe (s : State) (l : Nat) : (s.startWalk l).pipe = s.pipe := by
  unfold State.startWalk
  simp -implicitDefEqProofs [State.pipe_ite]

@[simp] theorem State.sendSegment_pipe (s : State) (n t y g : Nat) (px : List (Nat × Nat × Nat)) : (s.sendSegment n t y g px).pipe = s.pipe := by
  unfold State.sendSegment
  simp -implicitDefEqProofs

@[simp] theorem State.judgeOut_pipe (s : State) (t n buf : Nat) : (s.judgeOut t n buf).1.pipe = s.pipe := by
  unfold State.judgeOut
  extract_lets u1 u2 u3 u4 u5
  have hu4 : u4.pipe = s.pipe := by
    simp -implicitDefEqProofs [u4]
  clear_value u4
  have hu5 : u5.pipe = s.pipe := by
    simp -implicitDefEqProofs [u5, hu4, State.pipe_ite]
  clear_value u5
  simp -implicitDefEqProofs [hu5]

@[simp] theorem State.freeBerth_pipe (s : State) (i : Nat) : (s.freeBerth i).pipe = s.pipe := by
  unfold State.freeBerth
  simp -implicitDefEqProofs [State.pipe_ite]

@[simp] theorem State.applyChain_pipe (s : State) (l : Nat) : (s.applyChain l).pipe = s.pipe := by
  unfold State.applyChain
  simp -implicitDefEqProofs [State.pipe_ite]

@[simp] theorem State.wrWords_cues (s : State) (a : Nat) (ws : List Nat) : (s.wrWords a ws).cues = s.cues := by
  induction ws generalizing s a with
  | nil => rfl
  | cons w ws ih => exact ih ..

@[simp] theorem State.keepWrite_cues (s : State) (i : Nat) (ws : List Nat) : (s.keepWrite i ws).cues = s.cues := by
  rw [State.keepWrite, State.keepCheck, State.wr_cues, State.wrWords_cues]

@[simp] theorem foldl_scan {α : Type} {f : State → α → State} (l : List α) (s : State) (hf : ∀ u x, (f u x).scan = u.scan) :
  (l.foldl f s).scan = s.scan := foldl_keeps (fun u : State => u.scan) hf l s

theorem State.scan_ite {c : Prop} [Decidable c] (a b : State) : (if c then a else b).scan = if c then a.scan else b.scan := apply_ite ..

@[simp] theorem State.wrWords_scan (s : State) (a : Nat) (ws : List Nat) : (s.wrWords a ws).scan = s.scan := by
  induction ws generalizing s a with
  | nil => rfl
  | cons w ws ih => exact ih ..

theorem FaultSide.scan {s t : State} (h : FaultSide s t) : t.scan = s.scan := by obtain ⟨_, _, _, rfl, _⟩ := h; rfl

@[simp] theorem State.lineOut_scan (s : State) (l c n : Nat) (bs : List SlkBlock) : (s.lineOut l c n bs).scan = s.scan := by
  unfold State.lineOut
  split <;> rfl

@[simp] theorem State.setLinkTx_scan (s : State) (k : Nat) (x : LinkTx) : (s.setLinkTx k x).scan = s.scan := rfl

@[simp] theorem State.send_scan (s : State) (a : String) (b : Nat) (c : List Nat) : (s.send a b c).scan = s.scan := rfl

@[simp] theorem State.txSend_scan (s : State) (k : Nat) (p : TxPacket) (c : Nat) : (s.txSend k p c).scan = s.scan := by
  unfold State.txSend
  dsimp only
  split
  · rfl
  · simp -implicitDefEqProofs [State.scan_ite]

@[simp] theorem txDrain_scan (n : Nat) (s : State) (k : Nat) : (State.txDrain n s k).scan = s.scan := by
  induction n generalizing s with
  | zero => rfl
  | succ n ih =>
    unfold State.txDrain
    dsimp only
    split
    · rfl
    · split
      · rfl
      · split
        · rw [ih, State.txSend_scan]
        · rfl

@[simp] theorem State.keepWrite_scan (s : State) (i : Nat) (ws : List Nat) : (s.keepWrite i ws).scan = s.scan := by
  rw [State.keepWrite, State.keepCheck, State.wr_scan, State.wrWords_scan]

@[simp] theorem State.sendBlocks_scan (s : State) (kind : String) (lane : Nat) (bs : List SlkBlock) : (s.sendBlocks kind lane bs).scan = s.scan := by
  unfold State.sendBlocks
  simp -implicitDefEqProofs

@[simp] theorem State.modLane_scan (s : State) (l : Nat) (f : Lane → Lane) : (s.modLane l f).scan = s.scan := by
  unfold State.modLane
  simp -implicitDefEqProofs

@[simp] theorem State.setTx_scan (s : State) (l : Nat) (m : LaneTx) : (s.setTx l m).scan = s.scan := by
  unfold State.setTx
  simp -implicitDefEqProofs [State.scan_ite]

@[simp] theorem State.setFltInst_scan (s : State) (d i : Nat) (x : FltInst) : (s.setFltInst d i x).scan = s.scan := by
  unfold State.setFltInst
  simp -implicitDefEqProofs

@[simp] theorem State.txPump_scan (s : State) (k : Nat) : (s.txPump k).scan = s.scan := by
  unfold State.txPump
  simp -implicitDefEqProofs

@[simp] theorem State.enqueue_scan (s : State) (k : Nat) (p : TxPacket) : (s.enqueue k p).scan = s.scan := by
  unfold State.enqueue
  extract_lets u1 u2
  have hu1 : u1.scan = s.scan := by
    simp -implicitDefEqProofs [u1]
  clear_value u1
  simp -implicitDefEqProofs [hu1]

@[simp] theorem State.setLpi_scan (s : State) (l : Nat) (x : LpiState) : (s.setLpi l x).scan = s.scan := by
  unfold State.setLpi
  simp -implicitDefEqProofs

@[simp] theorem State.lpiWake_scan (s : State) (l : Nat) : (s.lpiWake l).scan = s.scan := by
  unfold State.lpiWake
  extract_lets u1 u2
  have hu2 : u2.scan = s.scan := by
    simp -implicitDefEqProofs [u2]
  clear_value u2
  simp -implicitDefEqProofs [hu2, State.scan_ite]

@[simp] theorem State.demandAdd_scan (s : State) (g cls : Nat) (p : List Byte) : (s.demandAdd g cls p).scan = s.scan := by
  unfold State.demandAdd
  simp -implicitDefEqProofs

@[simp] theorem State.packetAt_scan (s : State) (ready k cls : Nat) (kind : String) (p : List Byte) : (s.packetAt ready k cls kind p).scan = s.scan := by
  unfold State.packetAt
  extract_lets u1
  have hu1 : u1.scan = s.scan := by
    simp -implicitDefEqProofs [u1]
  clear_value u1
  simp -implicitDefEqProofs [hu1, State.scan_ite]

@[simp] theorem State.packet_scan (s : State) (k : Nat) (kind : String) (p : List Byte) : (s.packet k kind p).scan = s.scan := by
  unfold State.packet
  simp -implicitDefEqProofs

@[simp] theorem State.stageSettle_scan (s : State) : s.stageSettle.scan = s.scan := by
  unfold State.stageSettle
  simp -implicitDefEqProofs

@[simp] theorem State.tileRegs_scan (s : State) (t : Nat) : (s.tileRegs t).scan = s.scan := by
  unfold State.tileRegs
  extract_lets u1 u2 u3 u4 u5 u6
  have hu5 : u5.scan = s.scan := by
    simp -implicitDefEqProofs [u5]
  clear_value u5
  simp -implicitDefEqProofs [hu5]

@[simp] theorem State.scanSettle_scan (s : State) : s.scanSettle.scan = s.scan := by
  unfold State.scanSettle
  extract_lets u1 u2 u3 u4
  have hu4 : u4.scan = s.scan := by
    simp -implicitDefEqProofs [u4]
  clear_value u4
  simp -implicitDefEqProofs [hu4]

@[simp] theorem State.calPull_scan (s : State) (t offset length : Nat) : (s.calPull t offset length).scan = s.scan := by
  unfold State.calPull
  simp -implicitDefEqProofs

@[simp] theorem State.witness_scan (s : State) (t : Nat) (st : TileStatus) : (s.witness t st).scan = s.scan := by
  unfold State.witness
  simp -implicitDefEqProofs [State.scan_ite]

@[simp] theorem foldl_twin {α : Type} {f : State → α → State} (l : List α) (s : State) (hf : ∀ u x, (f u x).twin = u.twin) :
  (l.foldl f s).twin = s.twin := foldl_keeps (fun u : State => u.twin) hf l s

theorem State.twin_ite {c : Prop} [Decidable c] (a b : State) : (if c then a else b).twin = if c then a.twin else b.twin := apply_ite ..

@[simp] theorem State.wrWords_twin (s : State) (a : Nat) (ws : List Nat) : (s.wrWords a ws).twin = s.twin := by
  induction ws generalizing s a with
  | nil => rfl
  | cons w ws ih => exact ih ..

theorem FaultSide.twin {s t : State} (h : FaultSide s t) : t.twin = s.twin := by obtain ⟨_, _, _, rfl, _⟩ := h; rfl

@[simp] theorem State.send_twin (s : State) (a : String) (b : Nat) (c : List Nat) : (s.send a b c).twin = s.twin := rfl

@[simp] theorem State.keepWrite_twin (s : State) (i : Nat) (ws : List Nat) : (s.keepWrite i ws).twin = s.twin := by
  rw [State.keepWrite, State.keepCheck, State.wr_twin, State.wrWords_twin]

@[simp] theorem State.condClear_twin (s : State) (d i : Nat) : (s.condClear d i).twin = s.twin := by
  unfold State.condClear
  extract_lets u1 u2
  split
  · rename_i w3 w4 w5
    simp -implicitDefEqProofs [State.twin_ite]
  · simp -implicitDefEqProofs

@[simp] theorem State.oredSettle_twin (s : State) : s.oredSettle.twin = s.twin := by
  unfold State.oredSettle
  extract_lets u1
  refine (foldl_twin _ _ fun v2 x2 => ?_).trans ?_
  · extract_lets u3 u4
    have hu4 : u4.twin = v2.twin := by
      simp -implicitDefEqProofs [u4]
    clear_value u4
    split
    · refine (foldl_twin _ _ fun v5 x5 => ?_).trans ?_
      · extract_lets u6 u7 u8 u9
        have hu8 : u8.twin = v5.twin := by
          simp -implicitDefEqProofs [u8]
        clear_value u8
        simp -implicitDefEqProofs [hu8, State.twin_ite]
      · simp -implicitDefEqProofs [hu4]
    · simp -implicitDefEqProofs
  · simp -implicitDefEqProofs

@[simp] theorem State.dmxYield_twin (s : State) : s.dmxYield.twin = s.twin := by
  unfold State.dmxYield
  simp -implicitDefEqProofs [State.twin_ite]

@[simp] theorem foldl_lanes {α : Type} {f : State → α → State} (l : List α) (s : State) (hf : ∀ u x, (f u x).lanes = u.lanes) :
  (l.foldl f s).lanes = s.lanes := foldl_keeps (fun u : State => u.lanes) hf l s

theorem State.lanes_ite {c : Prop} [Decidable c] (a b : State) : (if c then a else b).lanes = if c then a.lanes else b.lanes := apply_ite ..

@[simp] theorem State.wrWords_lanes (s : State) (a : Nat) (ws : List Nat) : (s.wrWords a ws).lanes = s.lanes := by
  induction ws generalizing s a with
  | nil => rfl
  | cons w ws ih => exact ih ..

theorem FaultSide.lanes {s t : State} (h : FaultSide s t) : t.lanes = s.lanes := by obtain ⟨_, _, _, rfl, _⟩ := h; rfl

@[simp] theorem State.lineOut_lanes (s : State) (l c n : Nat) (bs : List SlkBlock) : (s.lineOut l c n bs).lanes = s.lanes := by
  unfold State.lineOut
  split <;> rfl

@[simp] theorem State.setLinkTx_lanes (s : State) (k : Nat) (x : LinkTx) : (s.setLinkTx k x).lanes = s.lanes := rfl

@[simp] theorem State.send_lanes (s : State) (a : String) (b : Nat) (c : List Nat) : (s.send a b c).lanes = s.lanes := rfl

@[simp] theorem State.txSend_lanes (s : State) (k : Nat) (p : TxPacket) (c : Nat) : (s.txSend k p c).lanes = s.lanes := by
  unfold State.txSend
  dsimp only
  split
  · rfl
  · simp -implicitDefEqProofs [State.lanes_ite]

@[simp] theorem txDrain_lanes (n : Nat) (s : State) (k : Nat) : (State.txDrain n s k).lanes = s.lanes := by
  induction n generalizing s with
  | zero => rfl
  | succ n ih =>
    unfold State.txDrain
    dsimp only
    split
    · rfl
    · split
      · rfl
      · split
        · rw [ih, State.txSend_lanes]
        · rfl

@[simp] theorem State.keepWrite_lanes (s : State) (i : Nat) (ws : List Nat) : (s.keepWrite i ws).lanes = s.lanes := by
  rw [State.keepWrite, State.keepCheck, State.wr_lanes, State.wrWords_lanes]

@[simp] theorem State.accErr_lanes (s : State) (req : Requester) (a : Nat) (isWrite key : Bool) : (s.accErr req a isWrite key).lanes = s.lanes := by
  unfold State.accErr
  simp -implicitDefEqProofs

@[simp] theorem State.setLaneBit_lanes (s : State) (l i : Nat) (b : Bool) : (s.setLaneBit l i b).lanes = s.lanes := by
  unfold State.setLaneBit
  simp -implicitDefEqProofs

@[simp] theorem State.condClear_lanes (s : State) (d i : Nat) : (s.condClear d i).lanes = s.lanes := by
  unfold State.condClear
  extract_lets u1 u2
  split
  · rename_i w3 w4 w5
    simp -implicitDefEqProofs [State.lanes_ite]
  · simp -implicitDefEqProofs

@[simp] theorem State.loadLatency_lanes (s : State) (p l : Nat) : (s.loadLatency p l).lanes = s.lanes := by
  unfold State.loadLatency
  simp -implicitDefEqProofs

@[simp] theorem State.laneBack_lanes (s : State) (l : Nat) : (s.laneBack l).lanes = s.lanes := by
  unfold State.laneBack
  simp -implicitDefEqProofs

@[simp] theorem State.txPump_lanes (s : State) (k : Nat) : (s.txPump k).lanes = s.lanes := by
  unfold State.txPump
  simp -implicitDefEqProofs

@[simp] theorem State.enqueue_lanes (s : State) (k : Nat) (p : TxPacket) : (s.enqueue k p).lanes = s.lanes := by
  unfold State.enqueue
  extract_lets u1 u2
  have hu1 : u1.lanes = s.lanes := by
    simp -implicitDefEqProofs [u1]
  clear_value u1
  simp -implicitDefEqProofs [hu1]

end Sys2Proof.Machine
end

section
/-! ### The raster: its start, its end and a late line (R24, R135) -/

namespace Sys2Proof.Machine

variable {s t u : State}

/-- No commit waits that did not. -/
structure NoneLatched (s t : State) : Prop where
  mem : ∀ c ∈ t.pipe.latched, c ∈ s.pipe.latched

namespace NoneLatched

theorem refl (s : State) : NoneLatched s s := ⟨fun _ h => h⟩

theorem trans (h : NoneLatched s t) (k : NoneLatched t u) : NoneLatched s u := ⟨fun c hc => h.mem c (k.mem c hc)⟩

theorem of_pipe (h : t.pipe = s.pipe) : NoneLatched s t := ⟨fun _ hc => h ▸ hc⟩

theorem of_reset (h : t.pipe = {}) : NoneLatched s t := ⟨fun c hc => by
  rw [h] at hc
  cases hc⟩

theorem ite {c : Prop} [Decidable c] (h : NoneLatched s t) (k : NoneLatched s u) : NoneLatched s (if c then t else u) := by
  split
  · exact h
  · exact k

theorem foldl {α : Type} {f : State → α → State} (h : NoneLatched s t) (l : List α)
    (hf : ∀ u x, NoneLatched u (f u x)) : NoneLatched s (l.foldl f t) :=
  List.foldlRecOn (motive := NoneLatched s) l f h fun u hu x _ => hu.trans (hf u x)

end NoneLatched

theorem State.leaveReset_pipe (s : State) : s.leaveReset.pipe = s.pipe := by
  unfold State.leaveReset
  simp -implicitDefEqProofs

/-- A reaction keeps the pipeline's state, or a reset of the device starts it anew. -/
theorem State.react_pipe (s : State) (d i r cause : Nat) : (s.react d i r cause).pipe = s.pipe ∨ (s.react d i r cause).pipe = {} := by
  unfold State.react
  split
  · split <;> exact .inl (by simp)
  · dsimp only
    refine .inl (foldl_pipe _ _ fun v l => ?_)
    split
    · simp
    · rfl
  · exact .inl (by simp)
  · exact .inl rfl
  · exact .inr (State.leaveReset_pipe _)
  · exact .inl rfl

theorem State.react_noneLatched (s : State) (d i r cause : Nat) : NoneLatched s (s.react d i r cause) :=
  (s.react_pipe d i r cause).elim .of_pipe .of_reset

theorem State.act1_noneLatched (s : State) (x : Reaction) : NoneLatched s (s.act1 x) := by
  unfold State.act1
  dsimp only
  have h := s.react_noneLatched x.det x.inst x.code x.cause
  generalize s.react x.det x.inst x.code x.cause = v at h ⊢
  have he := v.enterTrip_pipe { det := 148, inst := 0, info := v.role }
  split
  · generalize v.enterTrip { det := 148, inst := 0, info := v.role } = w at he
    obtain ⟨w, y⟩ := w
    rcases y with _ | y
    · exact h.trans (.of_pipe he)
    · exact (h.trans (.of_pipe he)).trans (State.react_noneLatched ..)
  · exact h

theorem State.raise_noneLatched (s : State) (d i info : Nat) : NoneLatched s (s.raise d i info) := by
  unfold State.raise State.logTrip
  have he := s.enterTrip_pipe { det := d, inst := i, info := info }
  generalize s.enterTrip { det := d, inst := i, info := info } = w at he
  obtain ⟨w, y⟩ := w
  rcases y with _ | y
  · exact .of_pipe he
  · exact (NoneLatched.of_pipe he).trans (State.act1_noneLatched ..)

theorem State.raiseOnce_noneLatched (s : State) (d i info : Nat) : NoneLatched s (s.raiseOnce d i info) :=
  .ite (.refl s) (State.raise_noneLatched ..)

/-! #### The commits of a raster -/

namespace NoneLatched

theorem stageFree (h : NoneLatched s t) (f : Nat) : NoneLatched s (t.stageFree f) :=
  h.trans ⟨fun c hc => by
    rw [State.stageFree, State.stageSettle_pipe] at hc
    exact hc⟩

theorem stageAlloc (h : NoneLatched s t) {n v : Nat} (ha : t.stageAlloc n = some (v, u)) : NoneLatched s u := by
  unfold State.stageAlloc at ha
  split at ha
  · obtain ⟨-, rfl⟩ := Prod.mk.inj (Option.some.inj ha)
    exact h.trans ⟨fun c hc => by
      rw [State.stageSettle_pipe] at hc
      exact hc⟩
  · cases ha

variable (h : NoneLatched s t)
include h

theorem setEntry (i : Nat) (e : TileEntry) : NoneLatched s (t.setEntry i e) := h.trans (.of_pipe (by simp))

theorem condClear (d i : Nat) : NoneLatched s (t.condClear d i) := h.trans (.of_pipe (by simp))

theorem bump (a : Nat) : NoneLatched s (t.bump a) := h.trans (.of_pipe (by simp))

theorem notify (c v i : Nat) (l : List Nat) : NoneLatched s (t.notify c v i l) := h.trans (.of_pipe (by simp))

theorem raise (d i info : Nat) : NoneLatched s (t.raise d i info) := h.trans (State.raise_noneLatched ..)

theorem raiseOnce (d i info : Nat) : NoneLatched s (t.raiseOnce d i info) := h.trans (State.raiseOnce_noneLatched ..)

theorem setCal (i c : Nat) : NoneLatched s (t.setCal i c) := by
  unfold State.setCal
  dsimp only
  have hv := h.setEntry i { t.tileEntry i with cal := c }
  generalize t.setEntry i { t.tileEntry i with cal := c } = v at hv ⊢
  have hw : NoneLatched s (if 2 ≤ c ∧ c ≤ 4 then { v with cal := { v.cal with readyAt := v.clk } } else v) :=
    .ite (hv.trans (.of_pipe rfl)) hv
  exact .ite (hw.raiseOnce ..) (hw.condClear ..)

theorem calPull (i a n : Nat) : NoneLatched s (t.calPull i a n) := h.trans (.of_pipe (by simp))

theorem uploadEnd (i : Nat) : NoneLatched s (t.uploadEnd i) :=
  .setEntry (.ite (h.stageFree _) h) ..

theorem uploadStart (i : Nat) : NoneLatched s (t.uploadStart i) := by
  unfold State.uploadStart
  dsimp only
  split
  · exact h
  · split
    · exact h.setCal ..
    · next ha => exact (((h.stageAlloc ha).setEntry _ _).setCal _ _).calPull _ _ _

theorem uploadNew (i : Nat) (reload : Bool) : NoneLatched s (t.uploadNew i reload) :=
  .ite (((h.uploadEnd i).setEntry ..).setCal ..) (((h.uploadEnd i).setEntry ..).uploadStart ..)

theorem judge (i : Nat) : NoneLatched s (t.judge i) := by
  unfold State.judge
  dsimp only
  refine .ite (.raiseOnce ?_ ..) (.condClear ?_ ..)
  · exact .ite ((h.setEntry ..).raiseOnce ..) ((h.setEntry ..).condClear ..)
  · exact .ite ((h.setEntry ..).raiseOnce ..) ((h.setEntry ..).condClear ..)

theorem binJudge (i : Nat) : NoneLatched s (t.binJudge i) := by
  unfold State.binJudge
  dsimp only
  split
  · exact h
  · exact .ite ((h.setEntry ..).raise ..) (h.setEntry ..)

theorem takeEntry (key i : Nat) (f : Found) : NoneLatched s (t.takeEntry key i f) := by
  unfold State.takeEntry
  dsimp only
  generalize hv : State.setEntry t i _ = v
  have hk : NoneLatched s v := hv ▸ h.setEntry ..
  clear hv
  have hr (v : State) (hv : NoneLatched s v) (c : Prop) [Decidable c] (w : Nat) :
      NoneLatched s (if c then v.raise 82 i w else v) := .ite (hv.raise ..) hv
  have hn (v : State) (hv : NoneLatched s v) (c : Prop) [Decidable c] :
      NoneLatched s (if c then v else (v.condClear 81 i).notify 0x80 0 i []) := .ite hv ((hv.condClear ..).notify ..)
  have hu (v : State) (hv : NoneLatched s v) (c : Prop) [Decidable c] :
      NoneLatched s (if c then v.uploadNew i else v) := .ite (hv.uploadNew ..) hv
  exact hu _ (.judge (hn _ (hr _ (.ite ((hk.bump _).raise ..) hk) _ _) _) i) _

theorem scanSettle : NoneLatched s t.scanSettle := h.trans (.of_pipe (by simp))

theorem matchFound (key : Nat) : NoneLatched s (t.matchFound key) := by
  unfold State.matchFound
  split
  · exact h
  · next f _ =>
    dsimp only
    split
    · exact .scanSettle (h.trans (.of_pipe rfl))
    · next i _ =>
      have hf : NoneLatched s { t with scan := { t.scan with found := tabSet t.scan.found key { f with entry := some i } } } :=
        h.trans (.of_pipe rfl)
      exact .ite (hf.setEntry ..) (.ite ((hf.setEntry ..).judge ..) (hf.takeEntry ..))

theorem applyMap (i : Nat) (w : List Nat) : NoneLatched s (t.applyMap i w) := by
  unfold State.applyMap
  dsimp only
  have hlive : NoneLatched s { t with scan := { t.scan with live := tabSet t.scan.live i w } } := h.trans (.of_pipe rfl)
  generalize ({ t with scan := { t.scan with live := tabSet t.scan.live i w } } : State) = v at hlive ⊢
  have hstill (e : TileEntry) (same again : Prop) [Decidable same] [Decidable again] : NoneLatched s
      (if again then State.uploadNew (if same then (v.setEntry i e).judge i else ((v.setEntry i e).judge i).binJudge i) i
        else if same then (v.setEntry i e).judge i else ((v.setEntry i e).judge i).binJudge i) := by
    have hj := (hlive.setEntry i e).judge i
    have hb := NoneLatched.ite (c := same) hj (hj.binJudge i)
    exact .ite (hb.uploadNew ..) hb
  have hgone (found : Tab Found) : NoneLatched s (((((({ v.uploadEnd i with
      scan := { (v.uploadEnd i).scan with found := found } } : State).setEntry i {}).condClear 81 i).condClear 83 i).condClear 84
        i).condClear 68 i) := by
    have hf : NoneLatched s { v.uploadEnd i with scan := { (v.uploadEnd i).scan with found := found } } :=
      (hlive.uploadEnd i).trans (.of_pipe rfl)
    exact ((((hf.setEntry ..).condClear ..).condClear ..).condClear ..).condClear ..
  have hfolded (v : State) (hv : NoneLatched s v) (l : List Nat) :
      NoneLatched s (l.foldl (fun s k => s.matchFound k) v).overlapSettle :=
    (hv.foldl l fun u k => (NoneLatched.refl u).matchFound k).trans (.of_pipe (by simp))
  exact hfolded _ (.ite (hstill _ _ _) (.ite (.condClear (hgone _) ..) hlive)) _

theorem applyRaster (k : CommitKind) : NoneLatched s (t.applyRaster k) := by
  unfold State.applyRaster
  have htrans {u : State} (hu : u.pipe = t.pipe) : NoneLatched s u := h.trans (.of_pipe hu)
  split
  exacts [htrans rfl, htrans rfl, htrans rfl, h.applyMap .., htrans (by simp), htrans rfl, htrans rfl, htrans rfl]

end NoneLatched

theorem State.scanOut_pipe (s : State) (n buf : Nat) : (s.scanOut n buf).pipe = s.pipe := by
  unfold State.scanOut
  dsimp only
  rw [foldl_pipe _ _ fun u x => by simp -implicitDefEqProofs, foldl_pipe _ _ fun u line => by simp -implicitDefEqProofs]
  refine List.foldlRecOn (motive := fun p : State × Tab (List (Nat × Nat × Nat)) => p.1.pipe = s.pipe) _ _ rfl fun p hp x _ => ?_
  have hj := p.1.judgeOut_pipe x.1 n buf
  generalize p.1.judgeOut x.1 n buf = r at hj
  obtain ⟨u, px⟩ := r
  rcases px with _ | px
  · exact hj.trans hp
  · dsimp only
    split
    · exact hj.trans hp
    · exact hj.trans hp

/-- The raster of tally n starts once, and no commit of it waits any more. -/
theorem State.rasterStart_spec {n : Nat} (hchase : s.chase = false) (hraster : s.pipe.raster = some n)
    (hnew : notYet s.pipe.started n = true) (hskip : s.skipped n = false) :
    (s.rasterStart n).pipe.started = some n ∧ ∀ c ∈ (s.rasterStart n).pipe.latched, ¬ (c.1 ≤ n ∧ atRaster c.2 = true) := by
  have htaken : NoneLatched (s.takeLatched n atRaster).2
      ((s.takeLatched n atRaster).1.foldl State.applyRaster (s.takeLatched n atRaster).2) :=
    (NoneLatched.refl _).foldl _ fun u k => (NoneLatched.refl u).applyRaster k
  obtain ⟨u, hu, hpipe⟩ : ∃ u : State, u = (s.takeLatched n atRaster).1.foldl State.applyRaster (s.takeLatched n atRaster).2
      ∧ (s.rasterStart n).pipe = { u.pipe with started := some n } := by
    refine ⟨_, rfl, ?_⟩
    unfold State.rasterStart
    simp only [hchase, hraster, hskip, hnew, beq_self_eq_true, Bool.not_true, Bool.false_eq_true, Bool.true_eq_false, if_false,
      or_self]
    rw [State.pipe_ite, State.scanOut_pipe, ite_self]
    rfl
  rw [hpipe]
  refine ⟨rfl, fun c hc => ?_⟩
  have hmem := (hu ▸ htaken).mem c hc
  simp only [State.takeLatched, State.setPipe, List.mem_filter] at hmem
  rintro ⟨hle, hat⟩
  simp [hle, hat] at hmem

/-! #### The end of a raster -/

theorem State.freeBerth_blanking (s : State) (i : Nat) : (s.freeBerth i).pipe.blanking = s.pipe.blanking := by
  rw [State.freeBerth_pipe]

theorem State.stageFree_blanking (s : State) (f : Nat) : (s.stageFree f).pipe.blanking = s.pipe.blanking := by
  rw [State.stageFree, State.stageSettle_pipe]

theorem State.runReleases_blanking (s : State) (m : Nat) : (s.runReleases m).pipe.blanking = s.pipe.blanking := by
  unfold State.runReleases
  dsimp only
  refine List.foldlRecOn (motive := fun u : State => u.pipe.blanking = s.pipe.blanking) _ _ rfl fun u hu d _ => ?_
  have hfree : (d.allocs.foldl (fun s a => s.stageFree a.first) u).pipe.blanking = u.pipe.blanking :=
    List.foldlRecOn (motive := fun v : State => v.pipe.blanking = u.pipe.blanking) _ _ rfl fun v hv a _ =>
      (v.stageFree_blanking a.first).trans hv
  split
  · exact (State.freeBerth_blanking _ _).trans (hfree.trans hu)
  · rw [State.stageSettle_pipe]
    exact hfree.trans hu

theorem State.collect_blanking (s : State) : s.collect.pipe.blanking = s.pipe.blanking := by
  unfold State.collect State.deferFree
  dsimp only
  split
  · rfl
  · split
    · rfl
    · rw [State.stageSettle_pipe]

/-- R24: the raster ends at its last line, when blanking begins. -/
theorem State.rasterEnd_blanking {n : Nat} (hraster : s.pipe.raster = some n) (hblank : s.pipe.blanking = false)
    (hend : s.rasterStop n ≤ s.ns) : s.rasterEnd.pipe.blanking = true := by
  unfold State.rasterEnd
  rw [hraster]
  dsimp only
  rw [if_neg (by simp [hblank, hend]), State.collect_blanking, State.runReleases_blanking]
  rfl

/-! #### A late line -/

theorem State.txCancel_linkSide (s : State) (k : Nat) (drop : TxPacket → Bool) : LinkSide s (s.txCancel k drop) :=
  (txPump_linkSide s k).trans (setLinkTx_linkSide ..)

theorem State.pixelsStop_linkSide (s : State) : LinkSide s s.pixelsStop :=
  List.foldlRecOn (motive := LinkSide s) _ _ (.refl s) fun u hu l _ => hu.trans (State.txCancel_linkSide u _ _)

theorem LinkSide.logOnly (h : LinkSide s t) {d : Nat} : t.logOnly d = s.logOnly d := by
  refine State.logOnly_congr (h.rd ?_)
  have hreg : 0x121000 ≤ Reg.FLT_DET_CFG d := by simp only [Reg.FLT_DET_CFG]; omega
  generalize Reg.FLT_DET_CFG d = a at *
  simp only [linkReg, Bool.or_eq_false_iff, decide_eq_false_iff_not]
  simp only [Reg.SCAN_SENT]
  omega

/-- A line missed is a fault like any other. -/
theorem State.overrun_hit (hlog : s.logOnly 65 = true) :
    FaultSide (s.setPipe fun p => { p with overrunHist := (true :: s.pipe.overrunHist).take 256 }) (s.overrun true) := by
  unfold State.overrun
  dsimp only
  rw [if_pos (by simp)]
  exact .ite (raiseOnce_faultSide _ 65 0 0 hlog) (.refl _)

/-- The state in which a late line has been counted and its tally aborted. -/
def State.lineLate (s : State) (at64 n line : Nat) : State :=
  (((s.bump Reg.COMP_ABORT).setPair Reg.COMP_ABORT_AT at64).wn Reg.COMP_ABORT_LINE line).setPipe fun p => { p with
    aborted := true, comp := p.comp.filter fun j => decide (n < j.tally)
    frontTally := (if p.frontTally = some n then none else p.frontTally) }

theorem State.lineLate_pair (s : State) (at64 n line : Nat) :
    (s.lineLate at64 n line).pair Reg.COMP_ABORT = min (s.pair Reg.COMP_ABORT + 1) (2 ^ 64 - 1) := by
  unfold State.lineLate
  rw [State.pair_setPipe]
  refine Eq.trans ?_ (s.pair_bumpBy Reg.COMP_ABORT 1)
  rw [State.pair, State.pair, State.rn_wn_ne _ _ (by decide), State.rn_wn_ne _ _ (by decide)]
  have hkeep (a : Nat) (h1 : a ≠ Reg.COMP_ABORT_AT) (h2 : a ≠ Reg.COMP_ABORT_AT + 4) :
      ((s.bump Reg.COMP_ABORT).setPair Reg.COMP_ABORT_AT at64).rn a = (s.bumpBy Reg.COMP_ABORT 1).rn a :=
    congrArg BitVec.toNat (State.rd_setPair_ne _ _ h1 h2)
  rw [hkeep _ (by decide) (by decide), hkeep _ (by decide) (by decide)]

theorem State.lineLate_line {at64 n line : Nat} (h : line < s.canvasH) : (s.lineLate at64 n line).rn Reg.COMP_ABORT_LINE = line := by
  have hlt : line < 2 ^ 32 := h.trans (BitVec.isLt _)
  unfold State.lineLate
  rw [show ∀ (u : State) (f : PipeState → PipeState), (u.setPipe f).rn Reg.COMP_ABORT_LINE = u.rn Reg.COMP_ABORT_LINE from fun _ _ => rfl,
    State.rn_wn_self]
  exact Nat.mod_eq_of_lt hlt

theorem State.lineLate_logOnly (s : State) (at64 n line d : Nat) : (s.lineLate at64 n line).logOnly d = s.logOnly d := by
  have hreg : 0x121000 ≤ Reg.FLT_DET_CFG d := by simp only [Reg.FLT_DET_CFG]; omega
  refine State.logOnly_congr ?_
  generalize Reg.FLT_DET_CFG d = a at hreg
  unfold State.lineLate
  rw [show ∀ (u : State) (f : PipeState → PipeState), (u.setPipe f).rd a = u.rd a from fun _ _ => rfl]
  refine (State.rd_wr_ne _ _ ?_).trans ((State.rd_setPair_ne _ _ ?_ ?_).trans (State.rd_setPair_ne _ _ ?_ ?_))
  all_goals simp only [Reg.COMP_ABORT, Reg.COMP_ABORT_AT, Reg.COMP_ABORT_LINE, Nat.reduceAdd]; omega

theorem State.lineLate_pipe {at64 n line : Nat} {j : CompJob} (hcomp : s.pipe.comp = some j) (htally : j.tally = n) :
    (s.lineLate at64 n line).pipe.aborted = true ∧ (s.lineLate at64 n line).pipe.comp = none ∧ (s.lineLate at64 n line).hold = s.hold := by
  refine ⟨rfl, ?_, rfl⟩
  show s.pipe.comp.filter _ = none
  rw [hcomp]
  simp [htally]

/-- With Chase a line that composition has not finished aborts the tally. -/
theorem State.compAbort_spec {n line : Nat} {j : CompJob} (hcomp : s.pipe.comp = some j) (hraster : s.pipe.raster = some n)
    (hchase : s.chase = true) (htally : j.tally = n) (hdone : j.done = false) (hblank : s.pipe.blanking = false)
    (hab : s.pipe.aborted = false) (hline : line < s.canvasH) (hquiet : s.quietFor n = false) (h64 : s.logOnly 64 = true)
    (h65 : s.logOnly 65 = true) :
    (s.compAbort line).pair Reg.COMP_ABORT = min (s.pair Reg.COMP_ABORT + 1) (2 ^ 64 - 1)
      ∧ (s.compAbort line).rn Reg.COMP_ABORT_LINE = line ∧ (s.compAbort line).pipe.aborted = true
      ∧ (s.compAbort line).pipe.comp = none ∧ (s.compAbort line).hold = s.hold := by
  obtain ⟨at64, heq⟩ : ∃ at64, s.compAbort line = ((s.lineLate at64 n line).pixelsStop.raiseSec 64 0 n).overrun true := by
    unfold State.compAbort
    rw [hraster]
    exact ⟨_, if_neg (by simp [hchase, hquiet, hblank, hab, hline, hcomp, htally, hdone])⟩
  have hpair := s.lineLate_pair at64 n line
  have hrn := State.lineLate_line (at64 := at64) (n := n) hline
  have h64' := (s.lineLate_logOnly at64 n line 64).trans h64
  have h65' := (s.lineLate_logOnly at64 n line 65).trans h65
  obtain ⟨haborted, hnone, hhold⟩ := State.lineLate_pipe (at64 := at64) (line := line) hcomp htally
  rw [heq]
  generalize s.lineLate at64 n line = u at *
  have hlink := u.pixelsStop_linkSide
  have hraise := raiseSec_faultSide _ 64 0 n (hlink.logOnly.trans h64')
  have hover := State.overrun_hit ((hraise.logOnly 65 (by decide)).trans (hlink.logOnly.trans h65'))
  refine ⟨?_, ?_, ?_, ?_, ?_⟩
  · exact (hover.pair (by decide) (by decide)).trans ((hraise.pair (by decide) (by decide)).trans
      ((hlink.pair (by decide) (by decide)).trans hpair))
  · exact (hover.rn (by decide)).trans ((hraise.rn (by decide)).trans ((hlink.rn (by decide)).trans hrn))
  · rw [hover.pipe]
    exact (congrArg PipeState.aborted (hraise.pipe.trans hlink.pipe)).trans haborted
  · rw [hover.pipe]
    exact (congrArg PipeState.comp (hraise.pipe.trans hlink.pipe)).trans hnone
  · exact hover.hold.trans (hraise.hold.trans (hlink.hold.trans hhold))

/-- Settles O18, by what a raster's start, its end and an abort each do. -/
theorem rasterRuns : Obligations.RasterRuns := by
  intro dt n line j s hcore
  refine ⟨fun hchase hraster hnew hskip => ?_, fun hraster hblank hend => ?_,
    fun hcomp hraster hchase htally hdone hblank hab hline hquiet h64 h65 => ?_⟩
  · exact completes_act (f := fun s => s.rasterStart n) rfl hcore
      (State.rasterStart_spec (s := s.advance dt) hchase hraster hnew hskip)
  · exact completes_act (f := State.rasterEnd) rfl hcore
      ⟨State.rasterEnd_blanking (s := s.advance dt) hraster hblank hend, sameHold_of_hold (by simp)⟩
  · obtain ⟨hpair, hrn, haborted, hnone, hhold⟩ := State.compAbort_spec (s := s.advance dt) hcomp hraster hchase htally hdone hblank
      hab hline hquiet h64 h65
    exact completes_act (f := fun s => s.compAbort line) rfl hcore ⟨hpair, hrn, haborted, hnone, sameHold_of_hold hhold⟩

end Sys2Proof.Machine
end

section
/-! ### Temperatures and status of tiles (R152, R238) -/

namespace Sys2Proof.Machine

variable {s t u : State} {k : Nat}

/-- The configuration of the detectors stays. -/
structure DetsKept (s t : State) : Prop where
  rd : ∀ a, 0x121000 ≤ a → t.rd a = s.rd a

namespace DetsKept

theorem refl (s : State) : DetsKept s s := ⟨fun _ _ => rfl⟩

theorem trans (h : DetsKept s t) (k : DetsKept t u) : DetsKept s u := ⟨fun a ha => (k.rd a ha).trans (h.rd a ha)⟩

theorem of_regs (h : t.regs = s.regs) : DetsKept s t := ⟨fun a _ => by rw [State.rd, State.rd, h]⟩

theorem wn (h : DetsKept s t) {a : Nat} (n : Nat) (ha : a < 0x121000) : DetsKept s (t.wn a n) :=
  ⟨fun b hb => (State.rd_wr_ne _ _ (by omega)).trans (h.rd b hb)⟩

theorem setFld (h : DetsKept s t) {a : Nat} (hi lo n : Nat) (ha : a < 0x121000) : DetsKept s (t.setFld a hi lo n) := h.wn _ ha

theorem bump (h : DetsKept s t) {a : Nat} (ha : a + 4 < 0x121000) : DetsKept s (t.bump a) :=
  (h.wn _ (by omega)).wn _ ha

theorem ite {c : Prop} [Decidable c] (h : DetsKept s t) (k : DetsKept s u) : DetsKept s (if c then t else u) := by
  split
  · exact h
  · exact k

theorem logOnly (h : DetsKept s t) (d : Nat) : t.logOnly d = s.logOnly d :=
  State.logOnly_congr (h.rd _ (by simp only [Reg.FLT_DET_CFG]; omega))

end DetsKept

/-! #### An entry of the tile map -/

theorem State.tileRegs_detsKept (s : State) (hk : k < 2048) : DetsKept s (s.tileRegs k) :=
  ((DetsKept.refl s).wn _ (by simp only [Reg.SCAN_TILE_STAT]; omega)).setFld _ _ _ (by simp only [Reg.CAL_TILE_STAT]; omega)

theorem State.scanSettle_detsKept (s : State) : DetsKept s s.scanSettle :=
  ((DetsKept.refl s).wn _ (by decide)).wn _ (by decide)

theorem State.setEntry_detsKept (s : State) (e : TileEntry) (hk : k < 2048) : DetsKept s (s.setEntry k e) :=
  DetsKept.trans (t := { s with scan := { s.scan with entries := tabSet s.scan.entries k e } }) (.of_regs rfl)
    ((State.tileRegs_detsKept _ hk).trans (State.scanSettle_detsKept _))

theorem State.setEntry_scan (s : State) (k : Nat) (e : TileEntry) :
    (s.setEntry k e).scan = { s.scan with entries := tabSet s.scan.entries k e } := by
  rw [State.setEntry, State.scanSettle_scan, State.tileRegs_scan]

theorem State.tileEntry_setEntry (s : State) (k : Nat) (e : TileEntry) : (s.setEntry k e).tileEntry k = e := by
  rw [State.tileEntry, State.setEntry_scan]
  exact tabGetD_tabSet_self _ _ _ _

/-- What an entry's registers leave: every register but its own two and the counts of the scan. -/
theorem State.setEntry_rd (s : State) (e : TileEntry) {a : Nat} (h1 : a ≠ Reg.SCAN_TILE_STAT k) (h2 : a ≠ Reg.CAL_TILE_STAT k)
    (h3 : a ≠ Reg.SCAN_STAT) (h4 : a ≠ Reg.SCAN_UNMAPPED) : (s.setEntry k e).rd a = s.rd a := by
  unfold State.setEntry State.scanSettle State.tileRegs
  dsimp only
  refine (State.rd_wr_ne _ _ h4).trans ((State.rd_wr_ne _ _ h3).trans ((State.rd_wr_ne _ _ h2).trans (State.rd_wr_ne _ _ h1)))

/-- An entry that has been judged to be in a state. -/
def State.judgedAs (s : State) (k st : Nat) : State :=
  let e := s.tileEntry k
  let s := s.setEntry k { e with state := st, held := e.held && st == 1 }
  let s := if st = 6 then s.raiseOnce 83 k e.lane else s.condClear 83 k
  if st = 4 ∨ st = 5 then s.raiseOnce 84 k st else s.condClear 84 k

theorem State.judge_eq (s : State) (k : Nat) : ∃ st, s.judge k = s.judgedAs k st := ⟨_, rfl⟩

/-- A judgement gives an entry a state, and may end its hold. -/
theorem State.judge_entry (hk : k < 2048) (h83 : s.logOnly 83 = true) (h84 : s.logOnly 84 = true) : ∃ st held,
    (s.judge k).scan = { s.scan with entries := tabSet s.scan.entries k { s.tileEntry k with state := st, held := held } } := by
  obtain ⟨st, hst⟩ := s.judge_eq k
  refine ⟨st, (s.tileEntry k).held && st == 1, ?_⟩
  rw [hst, State.judgedAs, ← State.setEntry_scan]
  have hd := s.setEntry_detsKept { s.tileEntry k with state := st, held := (s.tileEntry k).held && st == 1 } hk
  have h83' := (hd.logOnly 83).trans h83
  have h84' := (hd.logOnly 84).trans h84
  generalize s.setEntry k { s.tileEntry k with state := st, held := (s.tileEntry k).held && st == 1 } = v at h83' h84' ⊢
  have hv := FaultSide.ite (p := st = 6) (raiseOnce_faultSide v 83 k (s.tileEntry k).lane h83') (condClear_faultSide v 83 k)
  have hw := FaultSide.ite (p := st = 4 ∨ st = 5) (raiseOnce_faultSide _ 84 k st ((hv.logOnly 84 (by decide)).trans h84'))
    (condClear_faultSide _ 84 k)
  exact hw.scan.trans hv.scan

theorem State.chainSettle_entries (s : State) (l : Nat) : (s.chainSettle l).scan.entries = s.scan.entries := by
  unfold State.chainSettle
  simp -implicitDefEqProofs [State.scan_ite]

/-! #### A status -/

/-- A status answers a snapshot that waits for the tile. -/
def State.snapHeard (s : State) (k : Nat) (st : TileStatus) : State :=
  if s.scan.snapWait.contains k then
    let s := { s with scan := { s.scan with snapWait := s.scan.snapWait.filter (· != k) } }
    if st.snapId = s.time.snapId then s
    else ({ s with time := { s.time with tilesMissed := s.time.tilesMissed + 1 } }).snapSettle
  else s

/-- What a status that is not a repetition does beside the entry's own fields. -/
def State.statusSeen (s : State) (k : Nat) (st : TileStatus) : State :=
  let s := s.statusTemp k st
  (if st.incomplete then s.bump Reg.SCAN_INCOMPLETE else s).snapHeard k st

theorem State.entryStatus_eq (s : State) (k : Nat) (st : TileStatus) : ∃ (again : Bool) (u : State) (other : Option (Nat × Nat)),
    u = (if again then s.setEntry k { s.tileEntry k with lastStatus := s.clk, status := some st, statusAt := s.stamp16 }
      else (s.setEntry k { s.tileEntry k with lastStatus := s.clk, status := some st, statusAt := s.stamp16 }).statusSeen k st)
    ∧ ∃ v : State, v = ((u.setEntry k { u.tileEntry k with other := other }).judge k).witness k st
      ∧ s.entryStatus k st = (v.sendLanes k).foldl (fun s l => s.chainSettle l) v :=
  ⟨_, _, _, rfl, _, rfl, rfl⟩

theorem DetsKept.snapSettle (h : DetsKept s t) : DetsKept s t.snapSettle := h.wn _ (by decide)

theorem State.snapHeard_keeps (s : State) (k : Nat) (st : TileStatus) :
    (s.snapHeard k st).scan.entries = s.scan.entries ∧ DetsKept s (s.snapHeard k st) := by
  unfold State.snapHeard
  dsimp only
  split
  · split
    · exact ⟨rfl, .of_regs rfl⟩
    · exact ⟨rfl, .snapSettle (.of_regs rfl)⟩
  · exact ⟨rfl, .refl s⟩

theorem State.statusSeen_keeps {st : TileStatus} (h : st.tempValid = false) :
    (s.statusSeen k st).scan.entries = s.scan.entries ∧ DetsKept s (s.statusSeen k st) := by
  have htemp : s.statusTemp k st = s := if_pos (by simp [h])
  unfold State.statusSeen
  rw [htemp]
  dsimp only
  split
  · obtain ⟨he, hd⟩ := (s.bump Reg.SCAN_INCOMPLETE).snapHeard_keeps k st
    exact ⟨he, ((DetsKept.refl s).bump (by decide)).trans hd⟩
  · exact s.snapHeard_keeps k st

/-- A status of a tile in its place is kept with the clock of its arrival. -/
theorem State.entryStatus_entry {st : TileStatus} (hk : k < 2048) (htemp : st.tempValid = false) (h83 : s.logOnly 83 = true)
    (h84 : s.logOnly 84 = true) :
    ((s.entryStatus k st).tileEntry k).status = some st ∧ ((s.entryStatus k st).tileEntry k).lastStatus = s.clk
      ∧ ((s.entryStatus k st).tileEntry k).statusAt = s.stamp16 := by
  obtain ⟨again, u, other, hu, v, hv, heq⟩ := s.entryStatus_eq k st
  have hset := s.tileEntry_setEntry k { s.tileEntry k with lastStatus := s.clk, status := some st, statusAt := s.stamp16 }
  have hdets := s.setEntry_detsKept { s.tileEntry k with lastStatus := s.clk, status := some st, statusAt := s.stamp16 } hk
  generalize s.setEntry k { s.tileEntry k with lastStatus := s.clk, status := some st, statusAt := s.stamp16 } = w at hset hdets hu
  obtain ⟨hue, hud⟩ : u.tileEntry k = w.tileEntry k ∧ DetsKept w u := by
    rw [hu]
    obtain ⟨he, hd⟩ := State.statusSeen_keeps (s := w) (k := k) htemp
    split
    · exact ⟨rfl, .refl w⟩
    · exact ⟨congrArg (fun l : Tab TileEntry => tabGetD l k {}) he, hd⟩
  have hset' := u.tileEntry_setEntry k { u.tileEntry k with other := other }
  have hdets' := (hdets.trans hud).trans (u.setEntry_detsKept { u.tileEntry k with other := other } hk)
  generalize u.setEntry k { u.tileEntry k with other := other } = x at hset' hdets' hv
  obtain ⟨state, held, hjudge⟩ := State.judge_entry hk ((hdets'.logOnly 83).trans h83) ((hdets'.logOnly 84).trans h84)
  have hentry : v.tileEntry k = { x.tileEntry k with state := state, held := held } := by
    rw [State.tileEntry, hv, State.witness_scan, hjudge]
    exact tabGetD_tabSet_self _ _ _ _
  have hfold : ((v.sendLanes k).foldl (fun s l => s.chainSettle l) v).scan.entries = v.scan.entries :=
    List.foldlRecOn (motive := fun y : State => y.scan.entries = v.scan.entries) _ _ rfl fun y hy l _ =>
      (y.chainSettle_entries l).trans hy
  have hfinal : (s.entryStatus k st).tileEntry k = { x.tileEntry k with state := state, held := held } := by
    rw [heq, State.tileEntry, hfold]
    exact hentry
  rw [hfinal, hset', hue, hset]
  exact ⟨rfl, rfl, rfl⟩

/-! #### The status of the one tile of a scan -/

section OneTile

variable {key pos ep : Nat} {l : Fin 24} {e : TileEntry} {f : Found} {st : TileStatus}

theorem State.tileEntry_one (h : s.scan.entries = [(k, e)]) : s.tileEntry k = e := by
  rw [State.tileEntry, h]
  simp [tabGetD, tabGet?]

/-- The tile in its place is the one whose status is heard. -/
theorem State.tileStatus_one (hentries : s.scan.entries = [(k, e)]) (hpresent : e.present = true)
    (hfound : s.scan.found = [(key, f)]) (hkey : key / 64 = l) (hpos : f.pos = pos) (hepos : e.pos = pos) (hident : f.ident = e.ident)
    (hsend : (s.sendLanes k).contains l.val = true) :
    s.tileStatus l pos ep st =
      if e.epoch ≠ ep then s.staleTile k
      else
        let s := ({ s with scan := { s.scan with
          found := tabSet s.scan.found key { f with lastStatus := s.clk, rateA := st.rateA, rateB := st.rateB } } }).scanSettle
        let s := s.linkLoad l
        let s := if st.needDiscovery then s.startWalk l else s
        if (s.tileEntry k).present then s.entryStatus k st else s := by
  have hstate : (e.state != 0) = true := by
    simp only [TileEntry.present, Bool.and_eq_true] at hpresent
    exact hpresent.1
  have hrec : s.scan.found.find? (fun f => f.1 / 64 == l.val && f.2.pos == pos) = some (key, f) := by
    rw [hfound]
    simp [List.find?, hkey, hpos]
  have hmine : s.scan.entries.find? (fun e => e.2.state != 0 && e.2.pos == pos && (s.sendLanes e.1).contains l.val
      && ((some (key, f) : Option (Nat × Found)).all fun f => f.2.ident == e.2.ident)) = some (k, e) := by
    rw [hentries]
    simp only [List.find?, hstate, hepos, hsend, hident, Option.all_some, beq_self_eq_true, Bool.and_self]
  unfold State.tileStatus
  rw [hrec]
  dsimp only
  rw [hmine]
  simp only [Option.map_some, State.tileEntry_one hentries]
  rfl

theorem State.linkLoad_detsKept (s : State) (l : Fin 24) : DetsKept s (s.linkLoad l) := by
  have hl := l.isLt
  unfold State.linkLoad
  dsimp only
  exact ((DetsKept.refl s).wn _ (by simp only [Reg.SCAN_LINK_LOAD]; omega)).setFld _ _ _ (by simp only [Reg.SCAN_LINK_STAT]; omega)

/-- What a status is heard after: the descriptor's clock, and the lane's load. -/
theorem State.statusHeard_keeps (s : State) (l : Fin 24) (found : Tab Found) :
    let u := ({ s with scan := { s.scan with found := found } }).scanSettle.linkLoad l
    u.scan.entries = s.scan.entries ∧ DetsKept s u ∧ u.hold = s.hold ∧ u.clk = s.clk ∧ u.stamp16 = s.stamp16 := by
  have hfound : DetsKept s { s with scan := { s.scan with found := found } } := .of_regs rfl
  have hd := (hfound.trans (State.scanSettle_detsKept _)).trans (State.linkLoad_detsKept _ l)
  exact ⟨rfl, hd, rfl, rfl, rfl⟩

theorem State.statusSeen_hold (s : State) (k : Nat) (st : TileStatus) : (s.statusSeen k st).hold = s.hold := by
  unfold State.statusSeen State.snapHeard
  simp -implicitDefEqProofs [State.hold_ite]

theorem State.entryStatus_hold (s : State) (k : Nat) (st : TileStatus) : (s.entryStatus k st).hold = s.hold := by
  obtain ⟨again, u, other, hu, v, hv, heq⟩ := s.entryStatus_eq k st
  rw [heq, foldl_hold _ _ fun u l => u.chainSettle_hold l, hv, State.witness_hold, State.judge_hold, State.setEntry_hold, hu,
    State.hold_ite, State.statusSeen_hold, ite_self, State.setEntry_hold]

/-- A status of another epoch is dropped and counted. -/
theorem State.staleTile_spec (h85 : s.logOnly 85 = true) :
    (s.staleTile k).pair Reg.SCAN_STALE = min (s.pair Reg.SCAN_STALE + 1) (2 ^ 64 - 1) ∧ (s.staleTile k).scan = s.scan
      ∧ (s.staleTile k).hold = s.hold := by
  have hside := raise_faultSide (s.bump Reg.SCAN_STALE) 85 k 0
    (((DetsKept.refl s).bump (a := Reg.SCAN_STALE) (by decide)).logOnly 85 |>.trans h85)
  refine ⟨?_, hside.scan.trans rfl, hside.hold.trans rfl⟩
  exact (hside.pair (by decide) (by decide)).trans (s.pair_bumpBy _ 1)

/-! #### Temperatures -/

/-- The newest temperature that qualifies is latched. -/
theorem State.latchTemp_newest {n : Nat} {x : Nat × Int × Nat} (he : s.tileEntry k = e) (htemps : e.temps = [x])
    (hold : s.rasterPoint n - 1200000 ≤ x.1) (hnew : x.1 ≤ s.rasterPoint n - 200000)
    (hcame : x.2.2 ≤ (s.rasterPoint n - 50000) * 65536) :
    s.latchTemp n k = (s.setEntry k { e with temp := some x.2.1, heldSince := none }).condClear 67 k := by
  have hok : ∀ p : Nat × Int × Nat → Bool, p x = true → e.temps.filter p = [x] := fun p h => by
    rw [htemps, List.filter_cons_of_pos h, List.filter_nil]
  unfold State.latchTemp
  rw [he]
  dsimp only
  rw [hok]
  · rfl
  · refine decide_eq_true ⟨?_, hnew, hcame⟩
    rw [Nat.sub_sub]
    exact hold

/-- With none that qualifies the last is held, and counted. -/
theorem State.latchTemp_held {n : Nat} (he : s.tileEntry k = e) (htemps : e.temps = []) (hsince : e.heldSince = none) :
    s.latchTemp n k = (s.bump Reg.CAL_TEMP_HELD).setEntry k { e with heldSince := some s.clk } := by
  unfold State.latchTemp
  rw [he]
  dsimp only
  have hnone : ∀ p : Nat × Int × Nat → Bool, e.temps.filter p = [] := fun p => by rw [htemps, List.filter_nil]
  rw [hnone, hsince, Option.getD_none, show (s.bump Reg.CAL_TEMP_HELD).clk = s.clk from rfl]
  have hclk : ((s.bump Reg.CAL_TEMP_HELD).setEntry k { e with heldSince := some s.clk }).elapsed s.clk (sec 1) = false := by
    refine decide_eq_false (Nat.not_le.2 ?_)
    have hsec : 0 < sec 1 := by decide
    exact Nat.lt_add_of_pos_right hsec
  refine if_neg ?_
  rw [Bool.and_eq_true]
  exact fun h => Bool.false_ne_true (hclk.symm.trans h.1)

theorem State.setEntry_pair (s : State) (e : TileEntry) (hk : k < 2048) {a : Nat} (ha : a < 0x80100) :
    (s.setEntry k e).pair a = s.pair a := by
  have h (b : Nat) (hb : b < 0x80200) : (s.setEntry k e).rn b = s.rn b :=
    congrArg BitVec.toNat (s.setEntry_rd e (by simp only [Reg.SCAN_TILE_STAT]; omega) (by simp only [Reg.CAL_TILE_STAT]; omega)
      (by simp only [Reg.SCAN_STAT]; omega) (by simp only [Reg.SCAN_UNMAPPED]; omega))
  rw [State.pair, State.pair, h a (by omega), h (a + 4) (by omega)]

end OneTile

/-- Settles O32, for the one tile that it speaks of. -/
theorem tileTemperatureAndStatus : Obligations.TileTemperatureAndStatus := by
  intro dt n key pos ep k l e f x st s hcore h83 h84 h85 hentries hpresent
  have he : (s.advance dt).tileEntry k = e := State.tileEntry_one hentries
  have hlist : ((s.advance dt).scan.entries.filter fun e => e.2.present).map (·.1) = [k.val] := by
    show (s.scan.entries.filter fun e => e.2.present).map (·.1) = _
    rw [hentries]
    simp [hpresent]
  refine ⟨fun htime htemps hold hnew hcame => ?latch, fun htime htemps hsince => ?held,
    fun hfound hkey hpos hepos hident hsend hep => ?stale, fun hfound hkey hpos hepos hident hsend hdisc htemp => ?status⟩
  case latch =>
    have hlatch : (if (s.advance dt).rasterPoint n - 50000 ≤ (s.advance dt).ns then
        (((s.advance dt).scan.entries.filter fun e => e.2.present).map (·.1)).foldl (fun s t => s.latchTemp n t) (s.advance dt)
      else s.advance dt) = ((s.advance dt).setEntry k { e with temp := some x.2.1, heldSince := none }).condClear 67 k := by
      refine (if_pos htime).trans ?_
      rw [hlist]
      exact State.latchTemp_newest he htemps hold hnew hcame
    have hset := (s.advance dt).tileEntry_setEntry k { e with temp := some x.2.1, heldSince := none }
    have hpair := (s.advance dt).setEntry_pair { e with temp := some x.2.1, heldSince := none } k.isLt (a := Reg.CAL_TEMP_HELD) (by decide)
    have hhold := (s.advance dt).setEntry_hold k { e with temp := some x.2.1, heldSince := none }
    refine completes_eq rfl hcore hlatch ?_
    generalize (s.advance dt).setEntry k { e with temp := some x.2.1, heldSince := none } = u at hset hpair hhold
    have hside := condClear_faultSide u 67 k
    have hentry : (u.condClear 67 k).tileEntry k = { e with temp := some x.2.1, heldSince := none } := by
      rw [State.tileEntry, hside.scan]
      exact hset
    exact ⟨congrArg TileEntry.temp hentry, congrArg TileEntry.heldSince hentry,
      (hside.pair (by decide) (by decide)).trans hpair, sameHold_of_hold (hside.hold.trans hhold)⟩
  case held =>
    have hlatch : (if (s.advance dt).rasterPoint n - 50000 ≤ (s.advance dt).ns then
        (((s.advance dt).scan.entries.filter fun e => e.2.present).map (·.1)).foldl (fun s t => s.latchTemp n t) (s.advance dt)
      else s.advance dt) = ((s.advance dt).bump Reg.CAL_TEMP_HELD).setEntry k { e with heldSince := some (s.advance dt).clk } := by
      refine (if_pos htime).trans ?_
      rw [hlist]
      exact State.latchTemp_held he htemps hsince
    have hset := ((s.advance dt).bump Reg.CAL_TEMP_HELD).tileEntry_setEntry k { e with heldSince := some (s.advance dt).clk }
    have hpair := ((s.advance dt).bump Reg.CAL_TEMP_HELD).setEntry_pair { e with heldSince := some (s.advance dt).clk } k.isLt
      (a := Reg.CAL_TEMP_HELD) (by decide)
    have hhold := ((s.advance dt).bump Reg.CAL_TEMP_HELD).setEntry_hold k { e with heldSince := some (s.advance dt).clk }
    refine completes_eq rfl hcore hlatch ?_
    generalize State.setEntry _ _ _ = u at hset hpair hhold
    exact ⟨hpair.trans ((s.advance dt).pair_bumpBy Reg.CAL_TEMP_HELD 1), (congrArg TileEntry.temp hset).trans rfl,
      (congrArg TileEntry.heldSince hset).trans rfl, sameHold_of_hold hhold⟩
  case stale =>
    have hstat := State.tileStatus_one (s := s.advance dt) (l := l) (st := st) (ep := ep) hentries hpresent hfound hkey hpos hepos hident hsend
    obtain ⟨hpair, hscan, hhold⟩ := State.staleTile_spec (s := s.advance dt) (k := k) h85
    refine completes_eq rfl hcore (hstat.trans (if_pos (Ne.symm hep))) ?_
    exact ⟨hpair, hscan, sameHold_of_hold hhold⟩
  case status =>
    have hstat := State.tileStatus_one (s := s.advance dt) (l := l) (st := st) (ep := e.epoch) hentries hpresent hfound hkey hpos hepos hident hsend
    obtain ⟨hent, hdets, hhold, hclk, hstamp⟩ := (s.advance dt).statusHeard_keeps l (tabSet (s.advance dt).scan.found key
      { f with lastStatus := (s.advance dt).clk, rateA := st.rateA, rateB := st.rateB })
    rw [if_neg (by simp)] at hstat
    dsimp only at hstat
    generalize State.linkLoad _ _ = u at hent hdets hhold hclk hstamp hstat
    have hu : u.tileEntry k = e := State.tileEntry_one (hent.trans hentries)
    simp only [hdisc, Bool.false_eq_true, if_false] at hstat
    rw [if_pos (by rw [hu]; exact hpresent)] at hstat
    obtain ⟨hst, hlast, hat⟩ := State.entryStatus_entry (s := u) (k := k) k.isLt htemp ((hdets.logOnly 83).trans h83)
      ((hdets.logOnly 84).trans h84)
    refine completes_eq rfl hcore hstat ?_
    exact ⟨hst, hlast.trans hclk, hat.trans hstamp, sameHold_of_hold ((u.entryStatus_hold k st).trans hhold)⟩

end Sys2Proof.Machine
end

section
/-! ### A packet on a link that is free to send it (R228, R231) -/

namespace Sys2Proof.Machine

variable {s : State} {k : Nat}

theorem State.sent_cons_message (s : State) (kind : String) (port : Nat) (l : List Nat) :
    (s.send kind port l).sent = .message kind port l :: s.sent := rfl

/-- Lines are not among the messages. -/
theorem State.lineOut_sent (s : State) (l c e : Nat) (bs : List SlkBlock) : (s.lineOut l c e bs).sent = s.sent := by
  unfold State.lineOut
  split <;> rfl

theorem State.linesOut_sent (s : State) (n clk fin : Nat) (ls : List Nat) (f : Nat → List SlkBlock) :
    ((List.range n).foldl (fun s i => s.lineOut (ls.getD i 0) clk fin (f i)) s).sent = s.sent :=
  List.foldlRecOn (motive := fun u : State => u.sent = s.sent) _ _ rfl fun u hu i _ => (u.lineOut_sent ..).trans hu

theorem State.linesOut_regs (s : State) (n clk fin : Nat) (ls : List Nat) (f : Nat → List SlkBlock) :
    ((List.range n).foldl (fun s i => s.lineOut (ls.getD i 0) clk fin (f i)) s).regs = s.regs :=
  List.foldlRecOn (motive := fun u : State => u.regs = s.regs) _ _ rfl fun u hu i _ => by
    rw [← hu, State.lineOut]
    split <;> rfl

/-- The state in which a packet that leaves has been counted. -/
def State.txCounted (s : State) (k : Nat) (kind : String) : State :=
  if k < 3 then s.bump (Reg.SLK_GRP_TX k) else if kind = "PIXEL" ∧ k < 64 then s.bump Reg.SCAN_SENT else s

theorem State.txSend_eq (s : State) (k : Nat) (p : TxPacket) (clk : Nat) (h : s.carriers k ≠ []) : ∃ (x : LinkTx) (fin : Nat)
    (f : Nat → List SlkBlock), s.txSend k p clk =
      (List.range (s.carriers k).length).foldl (fun u i => u.lineOut ((s.carriers k).getD i 0) clk fin (f i))
        (((s.setLinkTx k x).txCounted k p.kind).send p.kind (linkPort k) (p.bytes.map (·.toNat))) := by
  rw [State.txSend]
  exact ⟨_, _, _, if_neg (by simpa using h)⟩

theorem State.txCounted_sent (s : State) (k : Nat) (kind : String) : (s.txCounted k kind).sent = s.sent := by
  unfold State.txCounted
  split
  · rfl
  · split <;> rfl

theorem State.txSend_sent {p : TxPacket} {clk : Nat} (h : s.carriers k ≠ []) :
    (s.txSend k p clk).sent = .message p.kind (linkPort k) (p.bytes.map (·.toNat)) :: s.sent := by
  obtain ⟨x, fin, f, heq⟩ := s.txSend_eq k p clk h
  rw [heq, State.linesOut_sent, State.sent_cons_message, State.txCounted_sent]
  rfl

theorem State.txSend_regs {p : TxPacket} {clk : Nat} (h : s.carriers k ≠ []) :
    (s.txSend k p clk).regs = (s.txCounted k p.kind).regs := by
  obtain ⟨x, fin, f, heq⟩ := s.txSend_eq k p clk h
  rw [heq, State.linesOut_regs]
  show ((s.setLinkTx k x).txCounted k p.kind).regs = _
  unfold State.txCounted
  split
  · rfl
  · split <;> rfl

/-- A packet for a link that is free is the last message sent. -/
theorem State.packet_free {kind : String} {bs : List Byte} (h : s.linkFree k = true) :
    (s.packet k kind bs).sent = .message kind (linkPort k) (bs.map (·.toNat)) :: s.sent
      ∧ (s.packet k kind bs).regs = (s.txCounted k kind).regs := by
  obtain ⟨⟨hidle, hcar⟩, hlpi⟩ : (s.txIdle k = true ∧ s.carriers k ≠ [])
      ∧ ((k < 8 ∨ 64 ≤ k) ∨ (s.lpi (k - 8)).idle = false ∧ (s.lpi (k - 8)).wakeUntil ≤ s.clk) := by
    simpa [State.linkFree] using h
  obtain ⟨u, p, hu, hp, hpkt⟩ : ∃ (u : State) (p : TxPacket), (u.txIdle k = true ∧ u.carriers k ≠ [] ∧ u.sent = s.sent
        ∧ (u.txCounted k kind).regs = (s.txCounted k kind).regs) ∧ (p.ready = u.clk ∧ p.kind = kind ∧ p.bytes = bs)
      ∧ s.packet k kind bs = u.enqueue k p := by
    rw [State.packet, State.packetAt]
    by_cases hk : 8 ≤ k ∧ k < 64
    · rw [if_pos hk]
      obtain ⟨hi, hw⟩ := hlpi.resolve_left (by omega)
      have hwake : s.lpiWake (k - 8) = s := if_neg (by simp [hi])
      rw [hwake]
      exact ⟨s, _, ⟨hidle, hcar, rfl, rfl⟩, ⟨Nat.max_eq_left hw, rfl, rfl⟩, rfl⟩
    · rw [if_neg hk]
      by_cases hk3 : k < 3
      · rw [if_pos hk3]
        refine ⟨s.demandAdd k (pkt bs 1 1 / 32) bs, ⟨s.clk, pkt bs 1 1 / 32, kind, bs⟩, ⟨hidle, hcar, rfl, ?_⟩, ⟨rfl, rfl, rfl⟩, rfl⟩
        rw [State.txCounted, if_pos hk3, State.txCounted, if_pos hk3]
        rfl
      · rw [if_neg hk3]
        exact ⟨s, _, ⟨hidle, hcar, rfl, rfl⟩, ⟨rfl, rfl, rfl⟩, rfl⟩
  obtain ⟨huidle, hucar, husent, huregs⟩ := hu
  obtain ⟨hready, hkind, hbytes⟩ := hp
  have hcar' : (u.setLinkTx k { u.linkTx k with queue := [p] }).carriers k ≠ [] := hucar
  rw [hpkt, State.enqueue_idle huidle hready]
  constructor
  · rw [State.txSend_sent hcar', hkind, hbytes]
    exact congrArg _ husent
  · rw [State.txSend_regs hcar', hkind]
    refine Eq.trans ?_ huregs
    unfold State.txCounted
    split
    · rfl
    · split <;> rfl

/-- A packet for the link of a lane or of a tile, but for pixels, leaves the registers. -/
theorem State.packet_free_regs {kind : String} {bs : List Byte} (h : s.linkFree k = true) (hk : 3 ≤ k) (hkind : kind ≠ "PIXEL") :
    (s.packet k kind bs).regs = s.regs := by
  rw [(State.packet_free h).2, State.txCounted, if_neg (by omega), if_neg (by simp [hkind])]

/-! #### The registers that a packet writes, whenever it leaves -/

/-- What a packet of a group leaves: every register but the group's count of packets. -/
def grpTx (k a : Nat) : Prop := a = Reg.SLK_GRP_TX k ∨ a = Reg.SLK_GRP_TX k + 4

theorem State.txSend_rd {p : TxPacket} {clk a : Nat} (hk : k < 3 ∧ ¬ grpTx k a ∨ 64 ≤ k) : (s.txSend k p clk).rd a = s.rd a := by
  by_cases h : s.carriers k = []
  · rw [State.txSend]
    refine (congrArg (fun u : State => u.rd a) (if_pos (by simp [h]))).trans ?_
    rfl
  · rw [State.rd, State.txSend_regs h]
    show (s.txCounted k p.kind).rd a = s.rd a
    unfold State.txCounted
    rcases hk with ⟨hk, ha⟩ | hk
    · rw [if_pos hk]
      exact State.rd_setPair_ne _ _ (fun e => ha (.inl e)) (fun e => ha (.inr e))
    · rw [if_neg (by omega), if_neg (by omega)]

theorem State.txDrain_rd (n : Nat) {a : Nat} (s : State) (hk : k < 3 ∧ ¬ grpTx k a ∨ 64 ≤ k) : (State.txDrain n s k).rd a = s.rd a := by
  induction n generalizing s with
  | zero => rfl
  | succ n ih =>
    unfold State.txDrain
    dsimp only
    split
    · rfl
    · split
      · rfl
      · split
        · exact (ih _).trans (State.txSend_rd hk)
        · rfl

theorem State.packet_rd {kind : String} {bs : List Byte} {a : Nat} (hk : k < 3 ∧ ¬ grpTx k a ∨ 64 ≤ k) :
    (s.packet k kind bs).rd a = s.rd a := by
  have henq (u : State) (p : TxPacket) : (u.enqueue k p).rd a = u.rd a := by
    rw [State.enqueue]
    exact (State.txDrain_rd _ _ hk).trans (Eq.trans rfl (State.txDrain_rd _ _ hk))
  rw [State.packet, State.packetAt, if_neg (by omega), henq]
  split <;> rfl

/-- A packet of a tile leaves the registers. -/
theorem State.packet_tile_rd {kind : String} {bs : List Byte} (hk : 64 ≤ k) (a : Nat) : (s.packet k kind bs).rd a = s.rd a :=
  State.packet_rd (.inr hk)

theorem State.packet_group_rd {kind : String} {bs : List Byte} (hk : k < 3) {a : Nat} (h1 : a ≠ Reg.SLK_GRP_TX k)
    (h2 : a ≠ Reg.SLK_GRP_TX k + 4) : (s.packet k kind bs).rd a = s.rd a :=
  State.packet_rd (.inl ⟨hk, fun h => h.elim h1 h2⟩)

/-- A packet for a free group is counted. -/
theorem State.packet_free_group {kind : String} {bs : List Byte} (h : s.linkFree k = true) (hk : k < 3) :
    (s.packet k kind bs).pair (Reg.SLK_GRP_TX k) = min (s.pair (Reg.SLK_GRP_TX k) + 1) (2 ^ 64 - 1) := by
  have hregs := (State.packet_free (kind := kind) (bs := bs) h).2
  rw [State.txCounted, if_pos hk] at hregs
  rw [State.pair, State.rn, State.rn, State.rd, State.rd, hregs]
  exact s.pair_bumpBy (Reg.SLK_GRP_TX k) 1

end Sys2Proof.Machine
end

section
/-! ### Calibration uploads (R157 to R167) -/

namespace Sys2Proof.Machine

/-- The registers that work on an entry's upload may write, beside those of a fault. -/
def uploadReg (a : Nat) : Bool :=
  faultReg a || decide (0x82000 ≤ a ∧ a < 0x84000) || decide (0x92000 ≤ a ∧ a < 0x94000) || decide (a = Reg.SCAN_STAT)
    || decide (a = Reg.SCAN_UNMAPPED) || decide (a = Reg.ING_STAGE_TOTAL) || decide (a = Reg.ING_STAGE_FREE)
    || decide (a = Reg.COMP_PENDING_UNITS)

/-- Two states that differ in the entries of the tile map, the areas of staging, what calibration notes and such registers. -/
def EntrySide (s t : State) : Prop :=
  ∃ regs flt events entries cal stage, t = { s with regs := regs, flt := flt, events := events
                                                    scan := { s.scan with entries := entries }, cal := cal
                                                    pipe := { s.pipe with stage := stage } }
    ∧ ∀ a, uploadReg a = false → t.rd a = s.rd a

namespace EntrySide

variable {s t u : State}

theorem refl (s : State) : EntrySide s s := ⟨s.regs, s.flt, s.events, s.scan.entries, s.cal, s.pipe.stage, rfl, fun _ _ => rfl⟩

theorem trans (h : EntrySide s t) (k : EntrySide t u) : EntrySide s u := by
  obtain ⟨r, f, e, x, c, p, rfl, h⟩ := h
  obtain ⟨r', f', e', x', c', p', rfl, k⟩ := k
  exact ⟨r', f', e', x', c', p', rfl, fun a ha => (k a ha).trans (h a ha)⟩

theorem ite {c : Prop} [Decidable c] (h : EntrySide s t) (k : EntrySide s u) : EntrySide s (if c then t else u) := by
  split
  · exact h
  · exact k

theorem wn (h : EntrySide s t) {a : Nat} (n : Nat) (ha : uploadReg a = true) : EntrySide s (t.wn a n) := by
  obtain ⟨r, f, e, x, c, p, rfl, h⟩ := h
  refine ⟨_, f, e, x, c, p, rfl, fun b hb => (State.rd_wr_ne _ _ fun e : b = a => ?_).trans (h b hb)⟩
  rw [e, ha] at hb
  cases hb

theorem fault (h : EntrySide s t) (k : FaultSide t u) : EntrySide s u := by
  obtain ⟨r, f, e, x, c, p, rfl, h⟩ := h
  obtain ⟨r', f', e', rfl, k⟩ := k
  refine ⟨r', f', e', x, c, p, rfl, fun a ha => (k a ?_).trans (h a ha)⟩
  simp only [uploadReg, Bool.or_eq_false_iff] at ha
  obtain ⟨⟨⟨⟨⟨⟨⟨hf, -⟩, -⟩, -⟩, -⟩, -⟩, -⟩, -⟩ := ha
  exact hf

theorem entries (h : EntrySide s t) (l : Tab TileEntry) : EntrySide s { t with scan := { t.scan with entries := l } } := by
  obtain ⟨r, f, e, x, c, p, rfl, h⟩ := h
  exact ⟨r, f, e, l, c, p, rfl, h⟩

theorem cal (h : EntrySide s t) (c : CalState) : EntrySide s { t with cal := c } := by
  obtain ⟨r, f, e, x, _, p, rfl, h⟩ := h
  exact ⟨r, f, e, x, c, p, rfl, h⟩

theorem stage (h : EntrySide s t) (l : List StageAlloc) : EntrySide s { t with pipe := { t.pipe with stage := l } } := by
  obtain ⟨r, f, e, x, c, p, rfl, h⟩ := h
  exact ⟨r, f, e, x, c, l, rfl, h⟩

theorem rd (h : EntrySide s t) {a : Nat} (ha : uploadReg a = false) : t.rd a = s.rd a := by
  obtain ⟨_, _, _, _, _, _, _, h⟩ := h
  exact h a ha
theorem rn (h : EntrySide s t) {a : Nat} (ha : uploadReg a = false) : t.rn a = s.rn a := congrArg _ (h.rd ha)
theorem fld (h : EntrySide s t) {a : Nat} (hi lo : Nat) (ha : uploadReg a = false) : t.fld a hi lo = s.fld a hi lo := by
  rw [State.fld, h.rn ha]; rfl
theorem pair (h : EntrySide s t) {a : Nat} (hlow : uploadReg a = false) (hhigh : uploadReg (a + 4) = false) : t.pair a = s.pair a := by
  rw [State.pair, State.pair, h.rn hlow, h.rn hhigh]

theorem out (h : EntrySide s t) : t.out = s.out := by obtain ⟨_, _, _, _, _, _, rfl, _⟩ := h; rfl
theorem phy (h : EntrySide s t) : t.phy = s.phy := by obtain ⟨_, _, _, _, _, _, rfl, _⟩ := h; rfl
theorem slk (h : EntrySide s t) : t.slk = s.slk := by obtain ⟨_, _, _, _, _, _, rfl, _⟩ := h; rfl
theorem clk (h : EntrySide s t) : t.clk = s.clk := by obtain ⟨_, _, _, _, _, _, rfl, _⟩ := h; rfl
theorem hold (h : EntrySide s t) : t.hold = s.hold := by obtain ⟨_, _, _, _, _, _, rfl, _⟩ := h; rfl
theorem live (h : EntrySide s t) : t.scan.live = s.scan.live := by obtain ⟨_, _, _, _, _, _, rfl, _⟩ := h; rfl

theorem logOnly (h : EntrySide s t) (d : Nat) (hd : d < 512) : t.logOnly d = s.logOnly d := by
  refine State.logOnly_congr (h.rd ?_)
  have hreg : 0x121000 ≤ Reg.FLT_DET_CFG d ∧ Reg.FLT_DET_CFG d < 0x122000 := by simp only [Reg.FLT_DET_CFG]; omega
  generalize Reg.FLT_DET_CFG d = a at hreg
  simp only [uploadReg, faultReg, Bool.or_eq_false_iff, decide_eq_false_iff_not]
  simp only [Reg.SCAN_STAT, Reg.SCAN_UNMAPPED, Reg.ING_STAGE_TOTAL, Reg.ING_STAGE_FREE, Reg.COMP_PENDING_UNITS]
  omega

end EntrySide

variable {s t : State} {k : Nat}

theorem uploadReg_tile (h : k < 2048) : uploadReg (Reg.SCAN_TILE_STAT k) = true ∧ uploadReg (Reg.CAL_TILE_STAT k) = true := by
  have h1 : 0x92000 ≤ Reg.SCAN_TILE_STAT k ∧ Reg.SCAN_TILE_STAT k < 0x94000 := by simp only [Reg.SCAN_TILE_STAT]; omega
  have h2 : 0x82000 ≤ Reg.CAL_TILE_STAT k ∧ Reg.CAL_TILE_STAT k < 0x84000 := by simp only [Reg.CAL_TILE_STAT]; omega
  generalize Reg.SCAN_TILE_STAT k = a at *
  generalize Reg.CAL_TILE_STAT k = b at *
  simp [uploadReg, h1, h2]

theorem EntrySide.setEntry (h : EntrySide s t) (e : TileEntry) (hk : k < 2048) : EntrySide s (t.setEntry k e) :=
  ((((h.entries _).wn _ (uploadReg_tile hk).1).wn _ (uploadReg_tile hk).2).wn _ (by decide)).wn _ (by decide)

theorem EntrySide.stageSettle (h : EntrySide s t) : EntrySide s t.stageSettle :=
  ((h.wn _ (by decide)).wn _ (by decide)).wn _ (by decide)

theorem EntrySide.stageFree (h : EntrySide s t) (f : Nat) : EntrySide s (t.stageFree f) := (h.stage _).stageSettle

theorem State.stageAlloc_entrySide {n v : Nat} (h : s.stageAlloc n = some (v, t)) : EntrySide s t ∧ t.scan = s.scan := by
  unfold State.stageAlloc at h
  split at h
  · obtain ⟨-, rfl⟩ := Prod.mk.inj (Option.some.inj h)
    exact ⟨((EntrySide.refl s).stage _).stageSettle, State.stageSettle_scan _⟩
  · cases h

/-- A calibration state is set. -/
theorem State.setCal_spec (c : Nat) (hk : k < 2048) (h68 : s.logOnly 68 = true) :
    EntrySide s (s.setCal k c) ∧ (s.setCal k c).tileEntry k = { s.tileEntry k with cal := c } := by
  have hset := (EntrySide.refl s).setEntry { s.tileEntry k with cal := c } hk
  have hentry := s.tileEntry_setEntry k { s.tileEntry k with cal := c }
  have hlog := (hset.logOnly 68 (by decide)).trans h68
  unfold State.setCal
  dsimp only
  generalize s.setEntry k { s.tileEntry k with cal := c } = u at *
  obtain ⟨v, hv, hside, hve, hvl⟩ : ∃ v : State, v = (if 2 ≤ c ∧ c ≤ 4 then { u with cal := { u.cal with readyAt := u.clk } } else u)
      ∧ EntrySide u v ∧ v.tileEntry k = u.tileEntry k ∧ v.logOnly 68 = u.logOnly 68 := by
    refine ⟨_, rfl, .ite ((EntrySide.refl u).cal _) (.refl u), ?_, ?_⟩
    · split <;> rfl
    · split <;> rfl
  rw [← hv]
  have hf := FaultSide.ite (p := c = 3 ∨ c = 4) (raiseOnce_faultSide v 68 k c (hvl.trans hlog)) (condClear_faultSide v 68 k)
  refine ⟨(hset.trans hside).fault hf, ?_⟩
  rw [State.tileEntry, hf.scan]
  exact hve.trans hentry

/-- An upload that ends leaves its attempts and what the twin has said. -/
theorem State.uploadEnd_spec (s : State) (hk : k < 2048) : EntrySide s (s.uploadEnd k) ∧ (s.uploadEnd k).tileEntry k =
    { s.tileEntry k with upload := { attempts := (s.tileEntry k).upload.attempts, peer := (s.tileEntry k).upload.peer } } := by
  unfold State.uploadEnd
  dsimp only
  refine ⟨.setEntry (.ite ((EntrySide.refl s).stageFree _) (.refl s)) _ hk, State.tileEntry_setEntry _ _ _⟩

/-- A lane below 24 has a state that no upload writes. -/
theorem uploadReg_lane {l : Nat} (h : l < 24) : uploadReg (Reg.LANE_STATE l) = false := by
  have hl : 0x30000 ≤ Reg.LANE_STATE l ∧ Reg.LANE_STATE l < 0x40000 := by simp only [Reg.LANE_STATE]; omega
  generalize Reg.LANE_STATE l = a at hl
  simp only [uploadReg, faultReg, Bool.or_eq_false_iff, decide_eq_false_iff_not]
  simp only [Reg.SCAN_STAT, Reg.SCAN_UNMAPPED, Reg.ING_STAGE_TOTAL, Reg.ING_STAGE_FREE, Reg.COMP_PENDING_UNITS]
  omega

theorem State.carriers_lane (s : State) {l : Nat} (hl : l < 56) : s.carriers (8 + l) = if s.linked l then [l] else [] := by
  refine (if_neg (by omega)).trans ((if_pos (by omega)).trans ?_)
  rw [Nat.add_sub_cancel_left]

theorem EntrySide.linkFree (h : EntrySide s t) {l : Nat} (hl : l < 24) : t.linkFree (8 + l) = s.linkFree (8 + l) := by
  have hlinked : t.linked l = s.linked l := by
    rw [State.linked, State.linked, State.laneSt, State.laneSt, h.fld _ _ (uploadReg_lane hl)]
  have hcar : t.carriers (8 + l) = s.carriers (8 + l) := by
    rw [State.carriers_lane t (by omega), State.carriers_lane s (by omega), hlinked]
  simp only [State.linkFree, State.txIdle, State.linkTx, State.lpi, hcar, h.phy, h.slk, h.clk]
  rfl

theorem EntrySide.towardA (h : EntrySide s t) (l : Nat) : t.towardA l = s.towardA l := by
  rw [State.towardA, State.towardA, State.endB, State.endB, h.live]

theorem EntrySide.sent (h : EntrySide s t) : t.sent = s.sent := by rw [State.sent, State.sent, h.out]

/-- A pull leaves at once on a lane that is free. -/
theorem EntrySide.calPull_sent (h : EntrySide s t) {e : TileEntry} (he : t.tileEntry k = e) (hl : e.lane < 24)
    (hfree : s.linkFree (8 + e.lane) = true) (o n : Nat) :
    (t.calPull k o n).sent = .message "CAL_PULL" e.lane ((calPullPacket (s.towardA e.lane) e.pos e.epoch o n).map (·.toNat)) :: s.sent := by
  rw [State.calPull, he]
  rw [(State.packet_free ((h.linkFree hl).trans hfree)).1, h.towardA, h.sent]
  have hport : linkPort (8 + e.lane) = e.lane := by
    rw [linkPort, if_neg (by omega), if_pos (by omega), Nat.add_sub_cancel_left]
  rw [hport]

/-- A pull leaves the entries. -/
theorem State.calPull_entry (s : State) (k o n : Nat) : (s.calPull k o n).tileEntry k = s.tileEntry k := by
  rw [State.tileEntry, State.calPull_scan]
  rfl

theorem State.calPull_linkSide (s : State) (k o n : Nat) : LinkSide s (s.calPull k o n) := packet_linkSide ..

/-! #### The steps of an upload -/

/-- An upload takes its area and pulls the header. -/
theorem State.uploadStart_taken {u : Nat} (hk : k < 2048) (h68 : s.logOnly 68 = true) (hstep : (s.tileEntry k).upload.step = 1)
    (hpres : (s.tileEntry k).present = true) (hlane : (s.tileEntry k).lane < 24) (hfree : s.linkFree (8 + (s.tileEntry k).lane) = true)
    (halloc : (s.stageAlloc (ceilDiv ((s.tileEntry k).upload.width * (s.tileEntry k).upload.height * 12) 65536)).map (·.1) = some u) :
    ((s.uploadStart k).tileEntry k).upload.step = 2 ∧ ((s.uploadStart k).tileEntry k).upload.unit = u
      ∧ ((s.uploadStart k).tileEntry k).upload.started = s.clk ∧ ((s.uploadStart k).tileEntry k).cal = 1
      ∧ (s.uploadStart k).sent = .message "CAL_PULL" (s.tileEntry k).lane ((calPullPacket (s.towardA (s.tileEntry k).lane)
          (s.tileEntry k).pos (s.tileEntry k).epoch 0 32).map (·.toNat)) :: s.sent
      ∧ (s.uploadStart k).hold = s.hold := by
  obtain ⟨⟨v, t⟩, ha, rfl⟩ := Option.map_eq_some_iff.1 halloc
  obtain ⟨hside, hscan⟩ := State.stageAlloc_entrySide ha
  obtain ⟨units, heq⟩ : ∃ units, s.uploadStart k = ((t.setEntry k { s.tileEntry k with
      upload := { (s.tileEntry k).upload with step := 2, started := t.clk, unit := v, units := units } }).setCal k 1).calPull k 0 32 := by
    unfold State.uploadStart
    dsimp only
    rw [if_neg (by simp [hstep, hpres]), ha]
    exact ⟨_, rfl⟩
  have hset := hside.setEntry { s.tileEntry k with
    upload := { (s.tileEntry k).upload with step := 2, started := t.clk, unit := v, units := units } } hk
  have hentry := t.tileEntry_setEntry k { s.tileEntry k with
    upload := { (s.tileEntry k).upload with step := 2, started := t.clk, unit := v, units := units } }
  rw [heq]
  clear heq
  generalize State.setEntry t k _ = w at hset hentry
  obtain ⟨hcal, hce⟩ := State.setCal_spec (s := w) 1 hk ((hset.logOnly 68 (by decide)).trans h68)
  rw [hentry] at hce
  have hsent := (hset.trans hcal).calPull_sent hce hlane hfree 0 32
  rw [State.calPull_entry, hce]
  exact ⟨rfl, rfl, hside.clk, rfl, hsent, (State.calPull_hold _ _ _ _).trans (hset.trans hcal).hold⟩

/-- An upload goes on waiting for staging. -/
theorem State.uploadStart_waits (hk : k < 2048) (h68 : s.logOnly 68 = true) (hstep : (s.tileEntry k).upload.step = 1)
    (hpres : (s.tileEntry k).present = true)
    (halloc : (s.stageAlloc (ceilDiv ((s.tileEntry k).upload.width * (s.tileEntry k).upload.height * 12) 65536)).isNone = true) :
    EntrySide s (s.uploadStart k) ∧ (s.uploadStart k).tileEntry k = { s.tileEntry k with cal := 5 } := by
  have heq : s.uploadStart k = s.setCal k 5 := by
    unfold State.uploadStart
    dsimp only
    rw [if_neg (by simp [hstep, hpres]), Option.isNone_iff_eq_none.1 halloc]
  rw [heq]
  exact State.setCal_spec 5 hk h68

/-- Entry bytes stand in the area. -/
theorem State.calData_entries {off : Nat} {data : List Byte} (hstep : (s.tileEntry k).upload.step = 3) (hoff : 32 ≤ off) (hdata : data ≠ [])
    (hfits : off + data.length ≤ (s.tileEntry k).upload.width * (s.tileEntry k).upload.height * 12 + 32)
    (hgot : runInsert (off - 32) data.length (s.tileEntry k).upload.got
      ≠ [(0, (s.tileEntry k).upload.width * (s.tileEntry k).upload.height * 12)]) :
    s.calData k off data = (s.writeHold (s.unitAddr (s.tileEntry k).upload.unit + (off - 32)) data).setEntry k { s.tileEntry k with
      upload := { (s.tileEntry k).upload with got := runInsert (off - 32) data.length (s.tileEntry k).upload.got } } := by
  have htake : data.take ((s.tileEntry k).upload.width * (s.tileEntry k).upload.height * 12 + 32 - off) = data :=
    List.take_of_length_le (by omega)
  unfold State.calData
  dsimp only
  rw [hstep]
  rw [htake]
  refine (if_neg ?_).trans (if_neg ?_)
  · simp [hdata]
    omega
  · simpa using hgot

theorem State.calData_spec {off : Nat} {data : List Byte} (hstep : (s.tileEntry k).upload.step = 3) (hoff : 32 ≤ off) (hdata : data ≠ [])
    (hfits : off + data.length ≤ (s.tileEntry k).upload.width * (s.tileEntry k).upload.height * 12 + 32)
    (hgot : runInsert (off - 32) data.length (s.tileEntry k).upload.got
      ≠ [(0, (s.tileEntry k).upload.width * (s.tileEntry k).upload.height * 12)]) :
    (∀ b, (s.calData k off data).holdByte b = if s.unitAddr (s.tileEntry k).upload.unit + (off - 32) ≤ b
        ∧ b < s.unitAddr (s.tileEntry k).upload.unit + (off - 32) + data.length
      then data.getD (b - (s.unitAddr (s.tileEntry k).upload.unit + (off - 32))) 0#8 else s.holdByte b)
    ∧ ((s.calData k off data).tileEntry k).upload.got = runInsert (off - 32) data.length (s.tileEntry k).upload.got := by
  rw [State.calData_entries hstep hoff hdata hfits hgot, State.tileEntry_setEntry]
  refine ⟨fun b => ?_, rfl⟩
  rw [← State.holdByte_writeHold]
  exact sameHold_of_hold (State.setEntry_hold _ _ _) b

/-- A failed attempt before the third asks again. -/
theorem State.uploadFail_again (hk : k < 2048) (h : (s.tileEntry k).upload.attempts < 2) :
    ((s.uploadFail k).tileEntry k).upload.attempts = (s.tileEntry k).upload.attempts + 1
      ∧ ((s.uploadFail k).tileEntry k).upload.step = 2 ∧ ((s.uploadFail k).tileEntry k).upload.started = s.clk
      ∧ (s.uploadFail k).pair Reg.CAL_UPLOAD_FAIL = min (s.pair Reg.CAL_UPLOAD_FAIL + 1) (2 ^ 64 - 1) := by
  have hclk : (s.bump Reg.CAL_UPLOAD_FAIL).clk = s.clk := rfl
  have hentry : (s.bump Reg.CAL_UPLOAD_FAIL).tileEntry k = s.tileEntry k := rfl
  have hpair := s.pair_bumpBy Reg.CAL_UPLOAD_FAIL 1
  have heq : ∃ e e' : TileEntry, s.uploadFail k =
      (((s.bump Reg.CAL_UPLOAD_FAIL).setEntry k e).setEntry k e').calPull k 0 32
      ∧ e'.upload.attempts = (s.tileEntry k).upload.attempts + 1 ∧ e'.upload.step = 2 ∧ e'.upload.started = s.clk := by
    unfold State.uploadFail
    exact ⟨_, _, if_neg (show ¬ 3 ≤ (s.tileEntry k).upload.attempts + 1 by omega), rfl, rfl, rfl⟩
  obtain ⟨e, e', heq, hatt, hstep, hstart⟩ := heq
  have hside := ((EntrySide.refl (s.bump Reg.CAL_UPLOAD_FAIL)).setEntry e hk).setEntry e' hk
  have hset := State.tileEntry_setEntry ((s.bump Reg.CAL_UPLOAD_FAIL).setEntry k e) k e'
  rw [heq, State.calPull_entry, hset]
  refine ⟨hatt, hstep, hstart, ?_⟩
  exact ((State.calPull_linkSide _ _ _ _).pair (by decide) (by decide)).trans ((hside.pair (by decide) (by decide)).trans hpair)

/-- The accepted image is copied, and its entries apply. -/
theorem State.copyIn_spec (hk : k < 2048) (h68 : s.logOnly 68 = true) :
    ((s.copyIn k).tileEntry k).cal = 2 ∧ ((s.copyIn k).tileEntry k).stored.isSome = true
      ∧ ((s.copyIn k).tileEntry k).upload.step = 0 ∧ ((s.copyIn k).tileEntry k).place = none := by
  obtain ⟨u, img, hlog, heq⟩ : ∃ (u : State) (img : CalImage), u.logOnly 68 = true
      ∧ s.copyIn k = ((u.setEntry k { s.tileEntry k with stored := some img, place := none }).uploadEnd k).setCal k 2 := by
    unfold State.copyIn
    refine ⟨_, _, ?_, rfl⟩
    refine (State.logOnly_congr ?_).trans h68
    refine List.foldlRecOn (motive := fun v : State => v.rd (Reg.FLT_DET_CFG 68) = s.rd (Reg.FLT_DET_CFG 68)) _ _ rfl fun v hv p _ => ?_
    split
    · exact hv
    · exact hv
  have hset := (EntrySide.refl u).setEntry { s.tileEntry k with stored := some img, place := none } hk
  have hentry := u.tileEntry_setEntry k { s.tileEntry k with stored := some img, place := none }
  rw [heq]
  generalize u.setEntry k { s.tileEntry k with stored := some img, place := none } = v at hset hentry
  obtain ⟨hend, hee⟩ := v.uploadEnd_spec hk
  obtain ⟨-, hce⟩ := State.setCal_spec (s := v.uploadEnd k) 2 hk (((hset.trans hend).logOnly 68 (by decide)).trans hlog)
  rw [hce, hee, hentry]
  exact ⟨rfl, rfl, rfl, rfl⟩

/-- A reload of a tile that declares no image finds none. -/
theorem State.tileReload_none {v : Nat} (hv : bit v 31 = true) (hk' : bits v 10 0 = k) (hk : k < 2048) (h68 : s.logOnly 68 = true)
    (hpres : (s.tileEntry k).present = true) (hsize : (s.tileEntry k).calSize = 0) :
    ((s.tileReload v).tileEntry k).cal = 3 ∧ ((s.tileReload v).tileEntry k).upload.step = 0
      ∧ ((s.tileReload v).tileEntry k).upload.attempts = 0 ∧ (s.tileReload v).hold = s.hold := by
  have heq : s.tileReload v =
      (s.setEntry k { s.tileEntry k with upload := { (s.tileEntry k).upload with attempts := 0 } }).uploadNew k true := by
    unfold State.tileReload
    rw [hk']
    exact if_pos ⟨hv, hpres⟩
  have hset := (EntrySide.refl s).setEntry { s.tileEntry k with upload := { (s.tileEntry k).upload with attempts := 0 } } hk
  have hentry := s.tileEntry_setEntry k { s.tileEntry k with upload := { (s.tileEntry k).upload with attempts := 0 } }
  rw [heq]
  generalize s.setEntry k { s.tileEntry k with upload := { (s.tileEntry k).upload with attempts := 0 } } = u at hset hentry
  obtain ⟨hend, hee⟩ := u.uploadEnd_spec hk
  rw [hentry] at hee
  have hnew : u.uploadNew k true = ((u.uploadEnd k).setEntry k { (u.uploadEnd k).tileEntry k with upload := {} }).setCal k 3 := by
    unfold State.uploadNew
    exact if_pos (by rw [hee]; exact hsize)
  have hset' := hend.setEntry { (u.uploadEnd k).tileEntry k with upload := {} } hk
  have hentry' := (u.uploadEnd k).tileEntry_setEntry k { (u.uploadEnd k).tileEntry k with upload := {} }
  rw [hnew]
  generalize State.setEntry (u.uploadEnd k) k _ = w at hset' hentry'
  obtain ⟨hcal, hce⟩ := State.setCal_spec (s := w) 3 hk (((hset.trans hset').logOnly 68 (by decide)).trans h68)
  rw [hce, hentry']
  exact ⟨rfl, rfl, rfl, ((hset.trans hset').trans hcal).hold⟩

/-! #### The tally that a twin announces (R163) -/

/-- The state in which the tally that the twin announces has been noted. -/
def State.tallyHeard (s : State) (k tally : Nat) : State :=
  s.setEntry k { s.tileEntry k with upload := { (s.tileEntry k).upload with peer := some tally } }

theorem State.tallyHeard_spec (s : State) (hk : k < 2048) (tally : Nat) : EntrySide s (s.tallyHeard k tally)
    ∧ (s.tallyHeard k tally).tileEntry k = { s.tileEntry k with upload := { (s.tileEntry k).upload with peer := some tally } }
    ∧ (s.tallyHeard k tally).role = s.role := by
  have h := (EntrySide.refl s).setEntry { s.tileEntry k with upload := { (s.tileEntry k).upload with peer := some tally } } hk
  exact ⟨h, State.tileEntry_setEntry _ _ _, h.fld _ _ (by decide)⟩

/-- The entries apply from the tally in effect. -/
theorem State.calTally_effective {n eff : Nat} (hk : k < 2048) (hpeer : (s.tileEntry k).upload.peer = some n)
    (hstep : (s.tileEntry k).upload.step = 4) (heff : (if s.role = 1 then max n (s.tileEntry k).upload.own else n) = eff)
    (hown : (s.tileEntry k).upload.own ≤ eff) :
    ((s.calTally k).tileEntry k).upload.eff = some eff ∧ (s.calTally k).hold = s.hold ∧ (s.role ≠ 1 → (s.calTally k).out = s.out) := by
  obtain ⟨w, hw, heq⟩ : ∃ w : State, w = (if (s.tileEntry k).place.isSome = true then
        (s.setEntry k { s.tileEntry k with upload := { (s.tileEntry k).upload with eff := some eff } }).wn Reg.SCAN_MAP_EFF eff
        else s.setEntry k { s.tileEntry k with upload := { (s.tileEntry k).upload with eff := some eff } })
      ∧ s.calTally k = if w.role = 1 then w.twinSend "CAL_ANNOUNCE" 2 [k, eff] else w := by
    unfold State.calTally
    dsimp only
    rw [hpeer]
    dsimp only
    rw [heff]
    refine ⟨_, rfl, (if_neg ?_).trans rfl⟩
    rw [not_or, not_not, not_lt]
    exact ⟨hstep, hown⟩
  have hset := (EntrySide.refl s).setEntry { s.tileEntry k with upload := { (s.tileEntry k).upload with eff := some eff } } hk
  have hentry := s.tileEntry_setEntry k { s.tileEntry k with upload := { (s.tileEntry k).upload with eff := some eff } }
  generalize s.setEntry k { s.tileEntry k with upload := { (s.tileEntry k).upload with eff := some eff } } = v at hw hset hentry
  obtain ⟨hwe, hwo, hwh, hwr⟩ : w.tileEntry k = v.tileEntry k ∧ w.out = s.out ∧ w.hold = s.hold ∧ w.role = s.role := by
    have hr : v.role = s.role := hset.fld _ _ (by decide)
    rw [hw]
    split
    · refine ⟨rfl, hset.out, hset.hold, Eq.trans ?_ hr⟩
      exact congrArg (fun n => bits n 1 0) (State.rn_wn_ne _ _ (by decide))
    · exact ⟨rfl, hset.out, hset.hold, hr⟩
  rw [heq]
  split
  · next h1 =>
    have hlink := twinSend_linkSide w "CAL_ANNOUNCE" 2 [k, eff]
    refine ⟨?_, hlink.hold.trans hwh, fun h => absurd (hwr.symm.trans h1) h⟩
    rw [State.tileEntry, hlink.scan]
    show (w.tileEntry k).upload.eff = some eff
    rw [hwe, hentry]
  · refine ⟨?_, hwh, fun _ => hwo⟩
    rw [hwe, hentry]

/-- An Escort whose own tally is later waits. -/
theorem State.calTally_later {n : Nat} (hpeer : (s.tileEntry k).upload.peer = some n) (hrole : s.role ≠ 1)
    (hlater : n < (s.tileEntry k).upload.own) : s.calTally k = s := by
  unfold State.calTally
  dsimp only
  rw [hpeer]
  dsimp only
  rw [if_neg hrole]
  exact if_pos (.inr hlater)

theorem tileEntry_acted (dt : Nat) (s : State) (f : State → State) (k : Nat) :
    (acted dt s f).tileEntry k = (f (s.advance dt)).tileEntry k := rfl

/-- Settles O33, step by step of an upload. -/
theorem calibrationUploads : Obligations.CalibrationUploads := by
  intro dt u n tally off pos l k data req v e s hcore h68 he
  have hk := k.isLt
  subst he
  refine ⟨fun hstep hpres hlane hfree halloc => ?taken, fun hstep hpres halloc => ?waits, fun hentry => ?stale,
    fun hentry hstep hoff hdata hfits hgot => ?bytes, fun hstep htime hatt => ?failed, fun hstep heff htime => ?copied,
    fun heff hpeer hrole htime => ?notReady, fun hv hvk hpres hsize => ?reload, fun hv => ?noReload,
    fun hrole hstep hown => ?escort, fun hrole hstep hown => ?later, fun hrole hstep => ?lead⟩
  case taken =>
    obtain ⟨h1, h2, h3, h4, h5, h6⟩ := State.uploadStart_taken (s := s.advance dt) hk h68 hstep hpres hlane hfree halloc
    exact completes_act (f := fun s => s.uploadStart k) rfl hcore ⟨h1, h2, h3, h4, h5, sameHold_of_hold h6⟩
  case waits =>
    obtain ⟨hside, hentry⟩ := State.uploadStart_waits (s := s.advance dt) hk h68 hstep hpres halloc
    exact completes_act (f := fun s => s.uploadStart k) rfl hcore
      ⟨(congrArg (fun e : TileEntry => e.upload.step) hentry).trans hstep, congrArg TileEntry.cal hentry, hside.out,
        sameHold_of_hold hside.hold⟩
  case stale =>
    refine completes_eq (u := (s.advance dt).bump Reg.CAL_STALE) rfl hcore ?_ ?_
    · show (match s.entryAt l pos with | some t => _ | none => _) = _
      rw [hentry]
      exact if_neg (show ¬ (s.tileEntry k).epoch = (s.tileEntry k).epoch + 1 by omega)
    · exact ⟨(s.advance dt).pair_bumpBy Reg.CAL_STALE 1, rfl, fun _ => rfl⟩
  case bytes =>
    refine completes_eq (u := (s.advance dt).calData k off data) rfl hcore ?_
      (State.calData_spec (s := s.advance dt) hstep hoff hdata hfits hgot)
    show (match s.entryAt l pos with | some t => _ | none => _) = _
    rw [hentry]
    exact if_pos rfl
  case failed =>
    obtain ⟨h1, h2, h3, h4⟩ := State.uploadFail_again (s := s.advance dt) hk hatt
    refine completes_eq (u := (s.advance dt).uploadFail k) rfl hcore (if_pos ⟨.inl hstep, decide_eq_true htime⟩) ?_
    exact ⟨h1, h2, h3, h4, sameHold_of_hold (State.uploadFail_hold _ _)⟩
  case copied =>
    obtain ⟨h1, h2, h3, h4⟩ := State.copyIn_spec (s := s.advance dt) hk h68
    refine completes_eq (u := (s.advance dt).copyIn k) rfl hcore ?_ (by rw [tileEntry_acted]; exact ⟨h1, h2, h3, h4⟩)
    show (match (s.tileEntry k).upload.eff, (s.tileEntry k).upload.peer with | some n, _ => _ | none, some n => _ | none, none => _) = _
    rw [heff]
    exact if_pos ⟨hstep, htime⟩
  case notReady =>
    have hset := (EntrySide.refl (s.advance dt)).setEntry
      { s.tileEntry k with upload := { (s.tileEntry k).upload with peer := none } } hk
    have hentry := (s.advance dt).tileEntry_setEntry k
      { s.tileEntry k with upload := { (s.tileEntry k).upload with peer := none } }
    refine completes_eq (u := ((s.advance dt).setEntry k { s.tileEntry k with
      upload := { (s.tileEntry k).upload with peer := none } }).twinSend "CAL_NOT_READY" 4 [k.val, n]) rfl hcore ?_ ?_
    · show (match (s.tileEntry k).upload.eff, (s.tileEntry k).upload.peer with | some n, _ => _ | none, some n => _ | none, none => _) = _
      rw [heff, hpeer]
      exact if_pos ⟨hrole, htime⟩
    · generalize (s.advance dt).setEntry k { s.tileEntry k with
        upload := { (s.tileEntry k).upload with peer := none } } = w at hset hentry
      have hlink := twinSend_linkSide w "CAL_NOT_READY" 4 [k.val, n]
      refine ⟨?_, sameHold_of_hold (hlink.hold.trans hset.hold)⟩
      show (tabGetD (w.twinSend "CAL_NOT_READY" 4 [k.val, n]).scan.entries k {}).upload = _
      rw [hlink.scan]
      exact congrArg TileEntry.upload hentry
  case reload =>
    obtain ⟨h1, h2, h3, h4⟩ := State.tileReload_none (s := s.advance dt) hv hvk hk h68 hpres hsize
    exact completes_act (f := fun s => s.tileReload v.toNat) rfl hcore ⟨h1, h2, h3, sameHold_of_hold h4⟩
  case noReload =>
    refine completes_eq rfl hcore (if_neg fun h => by simp [hv] at h) ?_
    exact ⟨rfl, fun _ => rfl, fun _ => rfl⟩
  case escort =>
    obtain ⟨hside, hentry, hr⟩ := (s.advance dt).tallyHeard_spec hk tally
    have hne : ((s.advance dt).tallyHeard k tally).role ≠ 1 := by
      rw [hr]
      exact fun h => by simp [show (s.advance dt).role = 2 from hrole] at h
    obtain ⟨heff, hhold, hout⟩ := State.calTally_effective (s := (s.advance dt).tallyHeard k tally) (n := tally) (eff := tally) hk
      (congrArg (fun e : TileEntry => e.upload.peer) hentry) ((congrArg (fun e : TileEntry => e.upload.step) hentry).trans hstep)
      (if_neg hne) ((congrArg (fun e : TileEntry => e.upload.own) hentry).le.trans hown)
    refine completes_eq (u := ((s.advance dt).tallyHeard k tally).calTally k) rfl hcore (if_pos (.inr hrole)) ?_
    exact ⟨heff, (hout hne).trans hside.out, sameHold_of_hold (hhold.trans hside.hold)⟩
  case later =>
    obtain ⟨hside, hentry, hr⟩ := (s.advance dt).tallyHeard_spec hk tally
    have hne : ((s.advance dt).tallyHeard k tally).role ≠ 1 := by
      rw [hr]
      exact fun h => by simp [show (s.advance dt).role = 2 from hrole] at h
    have hwait := State.calTally_later (s := (s.advance dt).tallyHeard k tally) (k := k)
      (congrArg (fun e : TileEntry => e.upload.peer) hentry) hne
      (hown.trans_le (congrArg (fun e : TileEntry => e.upload.own) hentry).ge)
    refine completes_eq rfl hcore ((if_pos (.inr hrole)).trans hwait) ?_
    exact ⟨congrArg TileEntry.upload hentry, hside.out, sameHold_of_hold hside.hold⟩
  case lead =>
    obtain ⟨hside, hentry, hr⟩ := (s.advance dt).tallyHeard_spec hk tally
    have hown := congrArg (fun e : TileEntry => e.upload.own) hentry
    obtain ⟨heff, hhold, -⟩ := State.calTally_effective (s := (s.advance dt).tallyHeard k tally) (n := tally)
      (eff := max tally (s.tileEntry k).upload.own) hk
      (congrArg (fun e : TileEntry => e.upload.peer) hentry) ((congrArg (fun e : TileEntry => e.upload.step) hentry).trans hstep)
      ((if_pos (hr.trans hrole)).trans (congrArg (max tally) hown)) (hown.le.trans (le_max_right _ _))
    refine completes_eq (u := ((s.advance dt).tallyHeard k tally).calTally k) rfl hcore (if_pos (.inl hrole)) ?_
    exact ⟨heff, sameHold_of_hold (hhold.trans hside.hold)⟩

end Sys2Proof.Machine
end

section
/-! ### Chains: what one lane's traffic leaves of another (R174 to R190) -/

namespace Sys2Proof.Machine

variable {s t u : State} {l q k : Nat}

/-- What traffic on other lanes leaves of lane q. -/
structure LaneApart (q : Nat) (s t : State) : Prop where
  side : LinkSide s t
  tx : t.linkTx (8 + q) = s.linkTx (8 + q)
  lpi : t.lpi q = s.lpi q
  stat : t.rd (Reg.SCAN_LINK_STAT q) = s.rd (Reg.SCAN_LINK_STAT q)
  out : ∃ o, t.out = o ++ s.out

namespace LaneApart

theorem refl (s : State) : LaneApart q s s := ⟨.refl s, rfl, rfl, rfl, [], rfl⟩

theorem trans (h : LaneApart q s t) (k : LaneApart q t u) : LaneApart q s u := by
  obtain ⟨o, ho⟩ := h.out
  obtain ⟨o', ho'⟩ := k.out
  exact ⟨h.side.trans k.side, k.tx.trans h.tx, k.lpi.trans h.lpi, k.stat.trans h.stat, o' ++ o, by rw [ho', ho, List.append_assoc]⟩

theorem ite {c : Prop} [Decidable c] (h : LaneApart q s t) (k : LaneApart q s u) : LaneApart q s (if c then t else u) := by
  split
  · exact h
  · exact k

theorem foldl {α : Type} {f : State → α → State} (h : LaneApart q s t) (l : List α) (hf : ∀ u, ∀ x ∈ l, LaneApart q u (f u x)) :
    LaneApart q s (l.foldl f t) :=
  List.foldlRecOn (motive := LaneApart q s) l f h fun u hu x hx => hu.trans (hf u x hx)

theorem emit (s : State) (o : Output) : LaneApart q s (s.emit o) := ⟨(LinkSide.refl s).emit o, rfl, rfl, rfl, [o], rfl⟩

theorem lineOut (s : State) (l c n : Nat) (bs : List SlkBlock) : LaneApart q s (s.lineOut l c n bs) := by
  have hside := lineOut_linkSide s l c n bs
  unfold State.lineOut at hside ⊢
  split
  · exact .refl s
  · exact ⟨by rwa [if_neg (by assumption)] at hside, rfl, rfl, rfl, [_], rfl⟩

theorem setLinkTx (h : k ≠ 8 + q) (x : LinkTx) : LaneApart q s (s.setLinkTx k x) := by
  refine ⟨setLinkTx_linkSide .., ?_, rfl, rfl, [], rfl⟩
  rw [State.linkTx, State.setLinkTx, tabGetD, tabGet?_tabSet_ne _ _ h.symm]
  rfl

theorem linkStat_apart (h : l ≠ q) : Reg.SCAN_LINK_STAT q ≠ Reg.SCAN_LINK_STAT l := by
  simp only [Reg.SCAN_LINK_STAT]
  omega

theorem sendBlocks (s : State) (kind : String) (l : Nat) (bs : List SlkBlock) : LaneApart q s (s.sendBlocks kind l bs) :=
  (emit s _).trans (lineOut ..)

theorem setTx (s : State) (l : Nat) (m : LaneTx) : LaneApart q s (s.setTx l m) := by
  have hside := setTx_linkSide s l m
  unfold State.setTx at hside ⊢
  split
  · exact .refl s
  · exact ⟨by rwa [if_neg (by assumption)] at hside, rfl, rfl, rfl, [_], rfl⟩

/-- Low-power idle of a lane and its bit are set. -/
theorem setLpi (hl : l < 24) (h : l ≠ q) (x : LpiState) (b : Nat) :
    LaneApart q s ((s.setLpi l x).setFld (Reg.SCAN_LINK_STAT l) 14 14 b) := by
  refine ⟨((LinkSide.refl s).setLpi l x).wn _ (linkReg_linkStat (by omega)), rfl, ?_, ?_, [], rfl⟩
  · show tabGetD (tabSet s.slk.lpi l x) q {} = _
    rw [tabGetD, tabGet?_tabSet_ne _ _ h.symm]
    rfl
  · exact State.rd_wr_ne _ _ (linkStat_apart h)

theorem txCounted (s : State) (hq : q < 24) (k : Nat) (kind : String) : LaneApart q s (s.txCounted k kind) := by
  unfold State.txCounted
  have hstat (a : Nat) (h1 : Reg.SCAN_LINK_STAT q ≠ a) (h2 : Reg.SCAN_LINK_STAT q ≠ a + 4) (h3 : linkReg a = true)
      (h4 : linkReg (a + 4) = true) : LaneApart q s (s.bump a) :=
    ⟨(LinkSide.refl s).bump h3 h4, rfl, rfl, State.rd_setPair_ne _ _ h1 h2, [], rfl⟩
  split
  · next h =>
    refine hstat _ ?_ ?_ (linkReg_grp h 0x40120 (by decide)) ?_
    · simp only [Reg.SCAN_LINK_STAT, Reg.SLK_GRP_TX]; omega
    · simp only [Reg.SCAN_LINK_STAT, Reg.SLK_GRP_TX]; omega
    · rw [Reg.SLK_GRP_TX, Nat.add_right_comm]; exact linkReg_grp h 0x40124 (by decide)
  · refine .ite (hstat _ ?_ ?_ (by decide) (by decide)) (.refl s)
    · simp only [Reg.SCAN_LINK_STAT, Reg.SCAN_SENT]; omega
    · simp only [Reg.SCAN_LINK_STAT, Reg.SCAN_SENT]; omega

theorem txSend (hk : k ≠ 8 + q) (hq : q < 24) (p : TxPacket) (clk : Nat) : LaneApart q s (s.txSend k p clk) := by
  by_cases h : s.carriers k = []
  · rw [State.txSend]
    simp only [h, List.length_nil, ↓reduceIte]
    exact setLinkTx hk _
  · obtain ⟨x, fin, f, heq⟩ := s.txSend_eq k p clk h
    rw [heq]
    exact foldl (((setLinkTx hk x).trans (txCounted _ hq k p.kind)).trans (emit _ _)) _ fun u i _ => lineOut ..

theorem txDrain (n : Nat) (s : State) (hk : k ≠ 8 + q) (hq : q < 24) : LaneApart q s (State.txDrain n s k) := by
  induction n generalizing s with
  | zero => exact refl s
  | succ n ih =>
    unfold State.txDrain
    dsimp only
    split
    · exact refl s
    · split
      · exact refl s
      · split
        · exact (txSend hk hq ..).trans (ih _)
        · exact refl s

theorem enqueue (s : State) (hk : k ≠ 8 + q) (hq : q < 24) (p : TxPacket) : LaneApart q s (s.enqueue k p) :=
  ((txDrain _ s hk hq).trans (setLinkTx hk _)).trans (txDrain _ _ hk hq)

theorem lpiWake (s : State) (hl : l < 24) (h : l ≠ q) : LaneApart q s (s.lpiWake l) := by
  unfold State.lpiWake
  exact ite (((setLpi hl h _ 0).trans (setTx ..)).trans (sendBlocks ..)) (refl s)

theorem lpiSleep (s : State) (hl : l < 24) (h : l ≠ q) : LaneApart q s (s.lpiSleep l) :=
  ((setLpi hl h _ 1).trans (sendBlocks ..)).trans (setTx ..)

theorem packet (s : State) (hl : l < 24) (h : l ≠ q) (hq : q < 24) (kind : String) (p : List Byte) :
    LaneApart q s (s.packet (8 + l) kind p) := by
  rw [State.packet, State.packetAt, if_pos (by omega)]
  exact (lpiWake s (by omega) (by omega)).trans (enqueue _ (by omega) hq _)

end LaneApart


/-! #### Tokens (R184) -/

theorem linkReg_laneState {l : Nat} (h : l < 24) : linkReg (Reg.LANE_STATE l) = false := by
  have hl : 0x30000 ≤ Reg.LANE_STATE l ∧ Reg.LANE_STATE l < 0x40000 := by simp only [Reg.LANE_STATE]; omega
  generalize Reg.LANE_STATE l = a at hl
  simp only [linkReg, Bool.or_eq_false_iff, decide_eq_false_iff_not]
  simp only [Reg.SCAN_SENT]
  omega

theorem State.linked_congr (h : t.rd (Reg.LANE_STATE l) = s.rd (Reg.LANE_STATE l)) : t.linked l = s.linked l := by
  simp only [State.linked, State.laneSt, State.fld, State.rn, h]

theorem LinkSide.linked (h : LinkSide s t) (hl : l < 24) : t.linked l = s.linked l := State.linked_congr (h.rd (linkReg_laneState hl))

theorem State.linkFree_congr (htx : t.linkTx (8 + l) = s.linkTx (8 + l)) (hlinked : t.linked l = s.linked l) (hlpi : t.lpi l = s.lpi l)
    (hclk : t.clk = s.clk) (hl : l < 24) : t.linkFree (8 + l) = s.linkFree (8 + l) := by
  have hcar : t.carriers (8 + l) = s.carriers (8 + l) := by
    rw [State.carriers_lane t (by omega), State.carriers_lane s (by omega), hlinked]
  have hlpi : t.lpi (8 + l - 8) = s.lpi (8 + l - 8) := by rw [Nat.add_sub_cancel_left, hlpi]
  simp only [State.linkFree, State.txIdle, hcar, htx, hlpi, hclk]

/-- A link is as free after traffic of other lanes. -/
theorem LaneApart.linkFree (h : LaneApart q s t) (hq : q < 24) : t.linkFree (8 + q) = s.linkFree (8 + q) :=
  State.linkFree_congr h.tx (h.side.linked hq) h.lpi h.side.clk hq

/-- The registers that a token tells of. -/
def tokenRegs : List Nat := [Reg.SCAN_EMIT_OFFSET, Reg.SCAN_LOSS_HOLD, Reg.TWIN_STAT, Reg.TIME_RATE, Reg.PWR_STAT]

/-- Equal in all that a token tells of, and a lane's hold with it. -/
structure TokenSame (s t : State) : Prop where
  scan : t.scan = s.scan
  pipe : t.pipe = s.pipe
  clk : t.clk = s.clk
  rd : ∀ a ∈ tokenRegs, t.rd a = s.rd a

namespace TokenSame

theorem trans (h : TokenSame s t) (k : TokenSame t u) : TokenSame s u :=
  ⟨k.scan.trans h.scan, k.pipe.trans h.pipe, k.clk.trans h.clk, fun a ha => (k.rd a ha).trans (h.rd a ha)⟩

theorem rn (h : TokenSame s t) {a : Nat} (ha : a ∈ tokenRegs) : t.rn a = s.rn a := congrArg _ (h.rd a ha)

theorem fld (h : TokenSame s t) {a : Nat} (hi lo : Nat) (ha : a ∈ tokenRegs) : t.fld a hi lo = s.fld a hi lo := by
  rw [State.fld, h.rn ha]; rfl

theorem quietFor (h : TokenSame s t) (n : Nat) : t.quietFor n = s.quietFor n := by
  rw [State.quietFor, State.quietFor, h.pipe, State.quiet, State.quiet, h.rn (by decide)]

theorem sendLanes (h : TokenSame s t) (k : Nat) : t.sendLanes k = s.sendLanes k := by
  have hchain (l : Nat) : t.chainLanes l = s.chainLanes l := by rw [State.chainLanes, h.scan]; rfl
  simp only [State.sendLanes, State.tileEntry, hchain, State.liveWords, h.scan]
  rfl

theorem laneHeld (h : TokenSame s t) (l n : Nat) : t.laneHeld l n = s.laneHeld l n := by
  simp only [State.laneHeld, State.foundHere, State.elapsed, h.scan, h.clk, h.sendLanes, h.quietFor]

theorem token (h : TokenSame s t) (l n : Nat) (second : Bool) : t.token l n second = s.token l n second := by
  simp only [State.token, State.towardA, State.endB, State.tp, State.rate, State.role, State.holdWord, h.scan, h.pipe, h.quietFor,
    h.sendLanes, h.rn (a := Reg.SCAN_EMIT_OFFSET) (by decide), h.rn (a := Reg.SCAN_LOSS_HOLD) (by decide),
    h.fld (a := Reg.TWIN_STAT) 1 0 (by decide), h.fld (a := Reg.TIME_RATE) 3 0 (by decide)]

end TokenSame

theorem LinkSide.tokenSame (h : LinkSide s t) : TokenSame s t :=
  ⟨h.scan, h.pipe, h.clk, fun a ha => h.rd ((by decide : ∀ a ∈ tokenRegs, linkReg a = false) a ha)⟩

/-- What one lane is sent of a token. -/
def State.tokenTo (n : Nat) (second : Bool) (s : State) (l : Nat) : State :=
  let s := s.packet (8 + l) "TOKEN" (tokenPacket (s.token l n second))
  if second && s.laneHeld l n then s.lpiSleep l else s

theorem LaneApart.tokenTo (n : Nat) (second : Bool) (hl : l < 24) (h : l ≠ q) (hq : q < 24) : LaneApart q s (s.tokenTo n second l) :=
  .ite ((LaneApart.packet s hl h hq ..).trans (.lpiSleep _ hl h)) (.packet s hl h hq ..)

/-- A fold over lanes each of which leaves the others' traffic, at one of them. -/
theorem foldl_at {f : State → Nat → State} (hf : ∀ s l, l < 24 → l ≠ q → LaneApart q s (f s l)) {ls : List Nat} (hnd : ls.Nodup)
    (hls : ∀ l ∈ ls, l < 24) (hq : q ∈ ls) (s : State) : ∃ u, LaneApart q s u ∧ LaneApart q (f u q) (ls.foldl f s) := by
  obtain ⟨as, bs, rfl⟩ := List.append_of_mem hq
  obtain ⟨-, hbs, hd⟩ := List.nodup_append.1 hnd
  have hqb : q ∉ bs := (List.nodup_cons.1 hbs).1
  refine ⟨as.foldl f s, .foldl (.refl s) as fun u x hx => hf u x (hls x (by simp [hx])) fun e => ?_, ?_⟩
  · exact hd x hx q (by simp) e
  · rw [List.foldl_append, List.foldl_cons]
    exact .foldl (.refl _) bs fun u x hx => hf u x (hls x (by simp [hx])) fun e => hqb (e ▸ hx)

/-- The state from which the tokens go out: the first copies of an aborted tally are counted. -/
def State.tokenStart (s : State) (second : Bool) : State :=
  if s.pipe.aborted && !second then s.bump Reg.SCAN_ABORT_TOK else s

/-- The lanes to which tokens go. -/
def State.tokenLanes (s : State) : List Nat := rangeFilter 24 fun l => s.laneRole l == 5 && s.linked l

/-- The tokens of a tally go out on the linked tile lanes. -/
theorem State.tokenSend_goes {n : Nat} {second : Bool} (hr : s.pipe.raster = some n)
    (hstop : s.rasterStop n + (if second then 30000 else 10000) ≤ s.ns) (hres : s.inReset .scanout = false) (harm : s.time.armed = true) :
    s.tokenSend n second = (s.tokenStart second).tokenLanes.foldl (State.tokenTo n second) (s.tokenStart second) := by
  unfold State.tokenSend
  have hgo : ¬ (s.pipe.raster ≠ some n ∨ s.ns < s.rasterStop n + (if second then 30000 else 10000) ∨ s.inReset .scanout = true
      ∨ (!s.time.armed) = true) := by
    simp [hr, hres, harm, hstop]
  exact if_neg hgo

/-- Counting an aborted tally changes a counter alone. -/
theorem State.tokenStart_regs (s : State) (second : Bool) :
    RegsBut [Reg.SCAN_ABORT_TOK, Reg.SCAN_ABORT_TOK + 4] s (s.tokenStart second) := by
  unfold State.tokenStart
  split
  · exact (RegsBut.refl _ s).bump (by simp) (by simp)
  · exact .refl _ s

theorem State.tokenStart_eq (s : State) (second : Bool) : ∃ regs, s.tokenStart second = { s with regs := regs } := by
  unfold State.tokenStart
  split <;> exact ⟨_, rfl⟩

theorem State.tokenStart_rd {second : Bool} {a : Nat} (h1 : a ≠ Reg.SCAN_ABORT_TOK) (h2 : a ≠ Reg.SCAN_ABORT_TOK + 4) :
    (s.tokenStart second).rd a = s.rd a := s.tokenStart_regs second a (by simp [h1, h2])

theorem State.tokenStart_same (s : State) (second : Bool) : TokenSame s (s.tokenStart second) := by
  obtain ⟨r, h⟩ := s.tokenStart_eq second
  exact ⟨by rw [h], by rw [h], by rw [h], fun a ha =>
    s.tokenStart_regs second a ((by decide : ∀ a ∈ tokenRegs, a ∉ [Reg.SCAN_ABORT_TOK, Reg.SCAN_ABORT_TOK + 4]) a ha)⟩

theorem State.tokenStart_linked (second : Bool) (hl : l < 24) : (s.tokenStart second).linked l = s.linked l :=
  State.linked_congr (State.tokenStart_rd (by simp only [Reg.LANE_STATE, Reg.SCAN_ABORT_TOK]; omega)
    (by simp only [Reg.LANE_STATE, Reg.SCAN_ABORT_TOK]; omega))

theorem State.mem_tokenLanes {second : Bool} (hrole : s.laneRole l = 5) (hl : l < 24) (hlinked : s.linked l = true) :
    l ∈ (s.tokenStart second).tokenLanes := by
  have hcfg : (s.tokenStart second).rd (Reg.LANE_CFG l) = s.rd (Reg.LANE_CFG l) :=
    State.tokenStart_rd (by simp only [Reg.LANE_CFG, Reg.SCAN_ABORT_TOK]; omega) (by simp only [Reg.LANE_CFG, Reg.SCAN_ABORT_TOK]; omega)
  have hr : (s.tokenStart second).laneRole l = 5 := by
    rw [State.laneRole, State.fld, State.rn, hcfg]
    exact hrole
  simp [State.tokenLanes, rangeFilter, hl, hr, State.tokenStart_linked second hl, hlinked]

theorem rangeFilter_lt {n l : Nat} {p : Nat → Bool} (h : l ∈ rangeFilter n p) : l < n :=
  List.mem_range.1 (List.mem_filter.1 h).1

theorem rangeFilter_nodup (n : Nat) (p : Nat → Bool) : (rangeFilter n p).Nodup := List.nodup_range.filter _

theorem LinkSide.tokenTo (n : Nat) (second : Bool) (hl : l < 24) : LinkSide s (s.tokenTo n second l) := by
  have hsleep (u : State) : LinkSide u (u.lpiSleep l) :=
    (((((LinkSide.refl u).setLpi l _).wn _ (linkReg_linkStat (by omega))).trans (sendBlocks_linkSide ..)).trans (setTx_linkSide ..))
  exact .ite ((packet_linkSide ..).trans (hsleep _)) (packet_linkSide ..)

theorem LinkSide.tokensTo (n : Nat) (second : Bool) {ls : List Nat} (hls : ∀ l ∈ ls, l < 24) :
    LinkSide s (ls.foldl (State.tokenTo n second) s) :=
  List.foldlRecOn (motive := LinkSide s) ls _ (.refl s) fun _ hu l hl => hu.trans (.tokenTo n second (hls l hl))

theorem LinkSide.tokenSend {n : Nat} {second : Bool} (hr : s.pipe.raster = some n)
    (hstop : s.rasterStop n + (if second then 30000 else 10000) ≤ s.ns) (hres : s.inReset .scanout = false) (harm : s.time.armed = true) :
    LinkSide (s.tokenStart second) (s.tokenSend n second) := by
  rw [State.tokenSend_goes hr hstop hres harm]
  exact .tokensTo n second fun _ h => rangeFilter_lt h

theorem State.pair_le (s : State) (a : Nat) : s.pair a ≤ 2 ^ 64 - 1 := by
  have hlow := (s.rd a).isLt
  have hhigh := (s.rd (a + 4)).isLt
  rw [State.pair, State.rn, State.rn]
  omega

theorem mem_of_mem_sent {o : Output} (h : o ∈ s.sent) : o ∈ s.out := List.mem_of_mem_filter h

theorem linkPort_lane (h : l < 24) : linkPort (8 + l) = l := by
  rw [linkPort, if_neg (by omega), if_pos (by omega), Nat.add_sub_cancel_left]

/-- The first copies of a token. -/
theorem State.tokenSend_first {n : Nat} (hr : s.pipe.raster = some n) (hstop : s.rasterStop n + 10000 ≤ s.ns)
    (hres : s.inReset .scanout = false) (harm : s.time.armed = true) :
    (∀ q : Fin 24, s.laneRole q = 5 → s.linked q = true → s.linkFree (8 + q) = true →
        .message "TOKEN" q ((tokenPacket (s.token q n false)).map (·.toNat)) ∈ (s.tokenSend n false).out)
      ∧ (s.tokenSend n false).pair Reg.SCAN_ABORT_TOK = min (s.pair Reg.SCAN_ABORT_TOK + s.pipe.aborted.toNat) (2 ^ 64 - 1)
      ∧ (s.tokenSend n false).scan = s.scan ∧ SameHold s (s.tokenSend n false) := by
  have hside := LinkSide.tokenSend (second := false) hr hstop hres harm
  obtain ⟨r, hstart⟩ := s.tokenStart_eq false
  refine ⟨fun q hrole hlinked hfree => ?_, ?_, hside.scan.trans (by rw [hstart]), sameHold_of_hold (hside.hold.trans (by rw [hstart]))⟩
  · rw [State.tokenSend_goes (second := false) hr hstop hres harm]
    obtain ⟨u, hu, ht⟩ := foldl_at (fun v l hl h => LaneApart.tokenTo (s := v) n false hl h q.2) (rangeFilter_nodup 24 _)
      (fun l h => rangeFilter_lt h) (State.mem_tokenLanes hrole q.2 hlinked) (s.tokenStart false)
    have hfree' : u.linkFree (8 + q) = true := by
      rw [hu.linkFree q.2, State.linkFree_congr _ (State.tokenStart_linked false q.2) _ _ q.2, hfree] <;> rw [hstart] <;> rfl
    obtain ⟨o, ho⟩ := ht.out
    have hmem : Output.message "TOKEN" q ((tokenPacket (s.token q n false)).map (·.toNat)) ∈ (u.tokenTo n false q).sent := by
      have hsent := (State.packet_free (kind := "TOKEN") (bs := tokenPacket (u.token q n false)) hfree').1
      rw [linkPort_lane q.2, ((s.tokenStart_same false).trans hu.side.tokenSame).token] at hsent
      have : u.tokenTo n false q = u.packet (8 + q) "TOKEN" (tokenPacket (u.token q n false)) := by
        rw [State.tokenTo]
        exact if_neg (by simp)
      rw [this, ((s.tokenStart_same false).trans hu.side.tokenSame).token, hsent]
      exact List.mem_cons_self
    rw [State.tokenLanes]
    exact ho ▸ List.mem_append_right o (mem_of_mem_sent hmem)
  · rw [hside.pair (by decide) (by decide), State.tokenStart]
    cases hab : s.pipe.aborted
    · exact (min_eq_left (by simpa using State.pair_le s _)).symm
    · exact s.pair_bumpBy _ 1

/-! #### Low-power idle (R187) -/

theorem tabGetD_tabMod_self {α : Type} (l : List (Nat × α)) (k : Nat) (d : α) (f : α → α) :
    tabGetD (tabMod l k d f) k d = f (tabGetD l k d) := tabGetD_tabSet_self ..

theorem State.lane_modLane_self (s : State) (l : Nat) (f : Lane → Lane) : (s.modLane l f).lane l = f (s.lane l) :=
  tabGetD_tabMod_self ..

theorem State.setTx_sides (s : State) (l : Nat) (m : LaneTx) : (s.setTx l m).regs = s.regs ∧ (s.setTx l m).slk = s.slk
    ∧ ((s.setTx l m).lane l).tx = m := by
  unfold State.setTx
  split
  · next h => exact ⟨rfl, rfl, h⟩
  · refine ⟨rfl, rfl, ?_⟩
    exact congrArg Lane.tx (s.lane_modLane_self l fun x => { x with tx := m })

theorem State.sendBlocks_sides (s : State) (kind : String) (l : Nat) (bs : List SlkBlock) :
    (s.sendBlocks kind l bs).regs = s.regs ∧ (s.sendBlocks kind l bs).slk = s.slk ∧ (s.sendBlocks kind l bs).lanes = s.lanes := by
  unfold State.sendBlocks State.lineOut
  split <;> exact ⟨rfl, rfl, rfl⟩

theorem State.lpiSleep_spec (s : State) (l : Nat) : ((s.lpiSleep l).lpi l).idle = true ∧ (s.lpiSleep l).fld (Reg.SCAN_LINK_STAT l) 14 14 = 1 := by
  have hregs : (s.lpiSleep l).regs = ((s.setLpi l { idle := true, lastRefresh := s.clk }).setFld (Reg.SCAN_LINK_STAT l) 14 14 1).regs :=
    (State.setTx_sides ..).1.trans (State.sendBlocks_sides ..).1
  have hslk : (s.lpiSleep l).slk = (s.setLpi l { idle := true, lastRefresh := s.clk }).slk :=
    (State.setTx_sides ..).2.1.trans ((State.sendBlocks_sides ..).2.1.trans rfl)
  constructor
  · rw [State.lpi, hslk]
    exact congrArg LpiState.idle (tabGetD_tabSet_self ..)
  · rw [State.fld, State.rn, State.rd, hregs]
    exact State.fld_setFld_fits _ (by decide) (by decide) (by decide)

/-- After the second copies a lane whose tiles are all held sleeps. -/
theorem State.tokenSend_second {n : Nat} (hr : s.pipe.raster = some n) (hstop : s.rasterStop n + 30000 ≤ s.ns)
    (hres : s.inReset .scanout = false) (harm : s.time.armed = true) (hrole : s.laneRole l = 5) (hl : l < 24) (hlinked : s.linked l = true)
    (hheld : s.laneHeld l n = true) :
    ((s.tokenSend n true).lpi l).idle = true ∧ (s.tokenSend n true).fld (Reg.SCAN_LINK_STAT l) 14 14 = 1
      ∧ (s.tokenSend n true).scan = s.scan ∧ SameHold s (s.tokenSend n true) := by
  have hside := LinkSide.tokenSend (second := true) hr hstop hres harm
  obtain ⟨r, hstart⟩ := s.tokenStart_eq true
  obtain ⟨u, hu, ht⟩ := foldl_at (fun v l hl h => LaneApart.tokenTo (s := v) n true hl h ‹_›) (rangeFilter_nodup 24 _)
    (fun l h => rangeFilter_lt h) (State.mem_tokenLanes hrole hl hlinked) (s.tokenStart true)
  have hsleep : u.tokenTo n true l = (u.packet (8 + l) "TOKEN" (tokenPacket (u.token l n true))).lpiSleep l := by
    have hsame := ((s.tokenStart_same true).trans hu.side.tokenSame).trans (packet_linkSide u (8 + l) "TOKEN" (tokenPacket (u.token l n true))).tokenSame
    rw [State.tokenTo]
    exact if_pos (by rw [hsame.laneHeld, hheld]; rfl)
  have hgo := State.tokenSend_goes (second := true) hr hstop hres harm
  rw [State.tokenLanes] at hgo
  rw [hgo] at hside ⊢
  rw [hsleep] at ht
  have hspec := State.lpiSleep_spec (u.packet (8 + l) "TOKEN" (tokenPacket (u.token l n true))) l
  rw [ht.lpi]
  refine ⟨hspec.1, ?_, hside.scan.trans (by rw [hstart]), sameHold_of_hold (hside.hold.trans (by rw [hstart]))⟩
  rw [State.fld, State.rn, ht.stat]
  exact hspec.2

theorem State.txSend_slk (s : State) (k : Nat) (p : TxPacket) (clk : Nat) : (s.txSend k p clk).slk = s.slk := by
  have hline (u : State) (l c e : Nat) (bs : List SlkBlock) : (u.lineOut l c e bs).slk = u.slk := by
    unfold State.lineOut
    split <;> rfl
  by_cases h : s.carriers k = []
  · rw [State.txSend]
    simp only [h, List.length_nil, ↓reduceIte]
    rfl
  · obtain ⟨x, fin, f, heq⟩ := s.txSend_eq k p clk h
    rw [heq]
    refine List.foldlRecOn (motive := fun u : State => u.slk = s.slk) _ _ ?_ fun u hu i _ => (hline ..).trans hu
    show ((s.setLinkTx k x).txCounted k p.kind).slk = s.slk
    unfold State.txCounted
    split
    · rfl
    · split <;> rfl

theorem State.txDrain_slk (n : Nat) (s : State) (k : Nat) : (State.txDrain n s k).slk = s.slk := by
  induction n generalizing s with
  | zero => rfl
  | succ n ih =>
    unfold State.txDrain
    dsimp only
    split
    · rfl
    · split
      · rfl
      · split
        · exact (ih _).trans (State.txSend_slk ..)
        · rfl

theorem State.enqueue_slk (s : State) (k : Nat) (p : TxPacket) : (s.enqueue k p).slk = s.slk :=
  (State.txDrain_slk ..).trans ((State.txDrain_slk ..).trans rfl)

/-- The blocks of a refresh, and the refresh with the BEACON that follows them. -/
def State.lpiRefreshLine (s : State) (l : Nat) : State :=
  ((s.setLpi l { s.lpi l with lastRefresh := s.clk }).setTx l .idle).sendBlocks "LPI_REFRESH" l (List.replicate 512 idleBlock)

def State.lpiRefreshed (s : State) (l : Nat) : State :=
  let s := s.lpiRefreshLine l
  (s.enqueue (8 + l) ⟨s.clk, 7, "BEACON", beaconPacket (s.towardA l) s.role s.nodeId⟩).setTx l .squelched

theorem State.setTx_sent {m : LaneTx} (h : (s.lane l).tx ≠ m) :
    ∃ f, (s.setTx l m).sent = .message "LANE_TX" l f :: s.sent ∧ (m = .squelched → f = [0]) ∧ (m = .idle → f = [1]) := by
  unfold State.setTx
  rw [if_neg h]
  refine ⟨_, rfl, ?_, ?_⟩ <;> rintro rfl <;> rfl

theorem State.sendBlocks_sent (s : State) (kind : String) (hl : l < 24) (bs : List SlkBlock) :
    (s.sendBlocks kind l bs).sent = .message kind l ((bs.headD idleBlock).bytes.map (·.toNat)) :: s.sent := by
  rw [State.sendBlocks, State.lineOut_sent, if_pos (by omega)]
  rfl

theorem State.lpiRefreshed_spec (s : State) (l : Nat) :
    (s.lpiRefreshed l).lpi l = { s.lpi l with lastRefresh := s.clk } ∧ ((s.lpiRefreshed l).lane l).tx = .squelched
      ∧ LinkSide s (s.lpiRefreshed l) := by
  refine ⟨?_, (State.setTx_sides ..).2.2, ?_⟩
  · have hslk : (s.lpiRefreshed l).slk = (s.setLpi l { s.lpi l with lastRefresh := s.clk }).slk :=
      (State.setTx_sides ..).2.1.trans ((State.enqueue_slk ..).trans ((State.sendBlocks_sides ..).2.1.trans (State.setTx_sides ..).2.1))
    rw [State.lpi, hslk]
    exact tabGetD_tabSet_self ..
  · exact (((((LinkSide.refl s).setLpi l _).trans (setTx_linkSide ..)).trans (sendBlocks_linkSide ..)).trans (enqueue_linkSide ..)).trans
      (setTx_linkSide ..)

theorem LinkSide.towardA (h : LinkSide s t) (l : Nat) : t.towardA l = s.towardA l := by
  rw [State.towardA, State.towardA, State.endB, State.endB, h.scan]

theorem LinkSide.role (h : LinkSide s t) : t.role = s.role := h.fld _ _ (by decide)

theorem LinkSide.nodeId (h : LinkSide s t) : t.nodeId = s.nodeId := h.rn (by decide)

theorem State.setTx_linkTx (s : State) (l k : Nat) (m : LaneTx) : (s.setTx l m).linkTx k = s.linkTx k := by
  unfold State.setTx
  split <;> rfl

theorem State.sendBlocks_linkTx (s : State) (kind : String) (l k : Nat) (bs : List SlkBlock) :
    (s.sendBlocks kind l bs).linkTx k = s.linkTx k := by
  unfold State.sendBlocks State.lineOut
  split <;> rfl

/-- A squelched lane that is free wakes, sends its refresh and its BEACON, and is squelched again. -/
theorem State.lpiRefreshed_sent (s : State) (hl : l < 24) (hidle : s.txIdle (8 + l) = true) (hlinked : s.linked l = true)
    (htx : (s.lane l).tx = .squelched) : (s.lpiRefreshed l).sent =
      [.message "LANE_TX" l [0], .message "BEACON" l ((beaconPacket (s.towardA l) s.role s.nodeId).map (·.toNat)),
        .message "LPI_REFRESH" l (idleBlock.bytes.map (·.toNat)), .message "LANE_TX" l [1]] ++ s.sent := by
  rw [State.lpiRefreshed]
  obtain ⟨v, hdef⟩ : ∃ v, v = s.lpiRefreshLine l := ⟨_, rfl⟩
  have hv : LinkSide s v := hdef ▸ (((LinkSide.refl s).setLpi l _).trans (setTx_linkSide ..)).trans (sendBlocks_linkSide ..)
  have hvsent : v.sent = .message "LPI_REFRESH" l (idleBlock.bytes.map (·.toNat)) :: .message "LANE_TX" l [1] :: s.sent := by
    obtain ⟨f, hf, -, h1⟩ := State.setTx_sent (s := s.setLpi l { s.lpi l with lastRefresh := s.clk }) (l := l) (m := .idle)
      (by rw [show (s.setLpi l _).lane l = s.lane l from rfl, htx]; decide)
    rw [h1 rfl] at hf
    rw [hdef]
    exact (State.sendBlocks_sent _ _ hl _).trans (by rw [hf]; rfl)
  have hvlane : (v.lane l).tx = .idle := by
    rw [hdef, State.lane, State.lpiRefreshLine, (State.sendBlocks_sides ..).2.2]
    exact (State.setTx_sides ..).2.2
  have hvtx : v.linkTx (8 + l) = s.linkTx (8 + l) := hdef ▸ (State.sendBlocks_linkTx ..).trans ((State.setTx_linkTx ..).trans rfl)
  rw [← hdef]
  obtain ⟨w, hw⟩ : ∃ w, w = v.enqueue (8 + l) ⟨v.clk, 7, "BEACON", beaconPacket (v.towardA l) v.role v.nodeId⟩ := ⟨_, rfl⟩
  have hwsent : w.sent = .message "BEACON" l ((beaconPacket (s.towardA l) s.role s.nodeId).map (·.toNat)) :: v.sent := by
    rw [hw, State.enqueue_idle (by rw [State.txIdle, hvtx, hv.clk]; exact hidle) rfl, State.txSend_sent, linkPort_lane hl, hv.towardA,
      hv.role, hv.nodeId]
    · rfl
    · rw [State.carriers_lane _ (by omega)]
      exact (if_pos ((hv.linked hl).trans hlinked)).trans_ne (by simp)
  have hwlane : (w.lane l).tx ≠ .squelched := by
    rw [hw, State.lane, State.enqueue_lanes]
    exact fun e => absurd (hvlane.symm.trans e) (by decide)
  rw [← hw]
  obtain ⟨f, hf, h0, -⟩ := State.setTx_sent hwlane
  rw [hf, h0 rfl, hwsent, hvsent]
  rfl

/-- Two microseconds hold a block at any rate. -/
theorem blocksIn_wake_ne (r : Nat) : blocksIn r (us 2) ≠ 0 := by
  have hrate : 400 ≤ [400, 1650, 3300, 4125, 8250].getD r 400 := by
    match r with
    | 0 | 1 | 2 | 3 | 4 => decide
    | _ + 5 => exact Nat.le_refl _
  rw [blocksIn, ceilDiv, us]
  omega

/-- A wake from low-power idle. -/
theorem State.lpiWake_spec (s : State) (hl : l < 24) (hidle : (s.lpi l).idle = true) :
    (s.lpiWake l).sent.head? = some (.message "WAKE" l ((controlBlock 0x87 []).bytes.map (·.toNat)))
      ∧ (s.lpiWake l).lpi l = { s.lpi l with idle := false, wakeUntil := s.clk + us 10 }
      ∧ (s.lpiWake l).fld (Reg.SCAN_LINK_STAT l) 14 14 = 0 ∧ RegsBut [Reg.SCAN_LINK_STAT l] s (s.lpiWake l)
      ∧ (s.lpiWake l).hold = s.hold := by
  have hhold := (lpiWake_linkSide s (l := l) (by omega)).hold
  unfold State.lpiWake at hhold ⊢
  dsimp only at hhold ⊢
  rw [if_pos hidle] at hhold ⊢
  obtain ⟨v, hv⟩ : ∃ v, v = (s.setLpi l { s.lpi l with idle := false, wakeUntil := s.clk + us 10 }).setFld (Reg.SCAN_LINK_STAT l) 14 14 0 :=
    ⟨_, rfl⟩
  rw [← hv] at hhold ⊢
  obtain ⟨hregs, hslk, -⟩ := (v.setTx l .idle).sendBlocks_sides "WAKE" l (List.replicate (blocksIn (v.laneRate l) (us 2)) (controlBlock 0x87 []))
  have hr := hregs.trans (v.setTx_sides l .idle).1
  refine ⟨?_, ?_, ?_, fun a ha => ?_, hhold⟩
  · obtain ⟨n, hn⟩ := Nat.exists_eq_succ_of_ne_zero (blocksIn_wake_ne (v.laneRate l))
    rw [State.sendBlocks_sent _ _ hl, hn]
    rfl
  · rw [State.lpi, hslk, (v.setTx_sides l .idle).2.1, hv]
    exact tabGetD_tabSet_self ..
  · rw [State.fld, State.rn, State.rd, hr, hv]
    exact State.fld_setFld_fits _ (by decide) (by decide) (by decide)
  · rw [State.rd, hr, hv]
    exact State.rd_wr_ne _ _ (by simpa using ha)

/-! #### Broken chains (R181) -/

theorem mEnds_lt {w : List Nat} (h : q ∈ mEnds w) : q < 32 := by
  have ha : mLinkA w < 32 := bits_lt _ _ _
  have hb : mLinkB w < 32 := bits_lt _ _ _
  unfold mEnds at h
  split at h
  · simp only [List.mem_singleton] at h; omega
  · simp only [List.mem_cons, List.not_mem_nil, or_false] at h; omega
  · simp only [List.mem_singleton] at h; omega
  · simp only [List.mem_singleton] at h; omega

/-- A lane is one of its chain's ends. -/
theorem State.mem_chainLanes (s : State) (l : Nat) : l ∈ s.chainLanes l := by
  unfold State.chainLanes
  split
  · next h =>
    have := List.find?_some h
    simp only [Bool.and_eq_true, List.contains_iff_mem] at this
    exact this.2
  · exact List.mem_singleton_self l

theorem State.chainLanes_lt (hl : l < 24) (h : q ∈ s.chainLanes l) : q < 32 := by
  unfold State.chainLanes at h
  split at h
  · exact mEnds_lt h
  · simp only [List.mem_singleton] at h; omega

/-- An end of a broken chain is reported. -/
def State.breakShown (s : State) (q : Nat) : State :=
  let deaf := ((s.chainTiles q).filter fun e => !s.hearsEnd q e).map fun e => e.2.pos
  let first := if s.endB q then deaf.foldl max 0 else deaf.foldl min 63
  ((s.setFld (Reg.SCAN_LINK_STAT q) 12 7 first).setFld (Reg.SCAN_LINK_STAT q) 13 13 1).raiseOnce 80 q first

theorem linkStat_notFault (h : l < 32) : faultReg (Reg.SCAN_LINK_STAT l) = false := by
  have hl : 0x90404 ≤ Reg.SCAN_LINK_STAT l ∧ Reg.SCAN_LINK_STAT l < 0x90604 := by simp only [Reg.SCAN_LINK_STAT]; omega
  generalize Reg.SCAN_LINK_STAT l = a at hl
  simp only [faultReg, Bool.or_eq_false_iff, decide_eq_false_iff_not]
  omega

theorem State.breakShown_spec (hq : q < 32) (hl : l < 24) (h80 : s.logOnly 80 = true) :
    (s.breakShown q).scan = s.scan ∧ (s.breakShown q).hold = s.hold ∧ (s.breakShown q).logOnly 80 = s.logOnly 80
      ∧ (s.breakShown q).fld (Reg.SCAN_LINK_STAT l) 13 13 = if q = l then 1 else s.fld (Reg.SCAN_LINK_STAT l) 13 13 := by
  unfold State.breakShown
  dsimp only
  generalize (if s.endB q then _ else _ : Nat) = first
  obtain ⟨v, hv⟩ : ∃ v, v = (s.setFld (Reg.SCAN_LINK_STAT q) 12 7 first).setFld (Reg.SCAN_LINK_STAT q) 13 13 1 := ⟨_, rfl⟩
  have hd : DetsKept s v := hv ▸ ((DetsKept.refl s).setFld _ _ _ (by simp only [Reg.SCAN_LINK_STAT]; omega)).setFld _ _ _
    (by simp only [Reg.SCAN_LINK_STAT]; omega)
  have hf := raiseOnce_faultSide v 80 q first ((hd.logOnly 80).trans h80)
  rw [← hv]
  refine ⟨hf.scan.trans (hv ▸ rfl), hf.hold.trans (hv ▸ rfl), (hf.logOnly 80 (by decide)).trans (hd.logOnly 80), ?_⟩
  rw [State.fld, State.rn, hf.rd (linkStat_notFault (by omega)), hv]
  split
  · next h =>
    subst h
    exact State.fld_setFld_fits _ (by decide) (by decide) (by decide)
  · next h =>
    have hne := LaneApart.linkStat_apart h
    exact (State.fld_setFld_ne _ _ _ _ _ _ hne).trans (State.fld_setFld_ne _ _ _ _ _ _ hne)

theorem State.breakShown_all (hl : l < 24) {ls : List Nat} (hls : ∀ q ∈ ls, q < 32) (h80 : s.logOnly 80 = true) :
    (ls.foldl State.breakShown s).scan = s.scan ∧ (ls.foldl State.breakShown s).hold = s.hold
      ∧ (ls.foldl State.breakShown s).fld (Reg.SCAN_LINK_STAT l) 13 13 = if l ∈ ls then 1 else s.fld (Reg.SCAN_LINK_STAT l) 13 13 := by
  induction ls generalizing s with
  | nil => exact ⟨rfl, rfl, rfl⟩
  | cons q ls ih =>
    obtain ⟨hscan, hhold, hlog, hfld⟩ := State.breakShown_spec (hls q (by simp)) hl h80
    obtain ⟨hs, hh, hf⟩ := ih (s := s.breakShown q) (fun x hx => hls x (by simp [hx])) (hlog.trans h80)
    refine ⟨hs.trans hscan, hh.trans hhold, hf.trans ?_⟩
    rw [hfld]
    by_cases hm : l ∈ ls
    · simp [hm]
    · by_cases hql : q = l
      · simp [hql]
      · simp [hm, hql, Ne.symm hql]

/-- A chain that has read as broken long enough is reported at its ends. -/
theorem State.chainBreak_spec {a : Nat} (hl : l < 24) (hb : s.chainBroken l = true) (ha : tabGet? s.scan.breakSince l = some a)
    (hlong : a + us 200 ≤ s.clk) (h80 : s.logOnly 80 = true) :
    (s.chainBreak l).fld (Reg.SCAN_LINK_STAT l) 13 13 = 1 ∧ (s.chainBreak l).scan = s.scan ∧ SameHold s (s.chainBreak l) := by
  have heq : s.chainBreak l = (s.chainLanes l).foldl State.breakShown s := by
    unfold State.chainBreak
    dsimp only
    exact if_pos (by simp [hb, ha, State.elapsed, hlong])
  obtain ⟨hscan, hhold, hfld⟩ := State.breakShown_all hl (fun _ => State.chainLanes_lt hl) h80
  rw [heq]
  exact ⟨hfld.trans (if_pos (s.mem_chainLanes l)), hscan, sameHold_of_hold hhold⟩

/-! #### Discovery (R188) -/

theorem State.walk_setWalk (s : State) (l : Nat) (w : Walk) : (s.setWalk l w).walk l = w := tabGetD_tabSet_self ..

/-- One hop is asked. -/
theorem State.discover_one {hop : Nat} (hl : l < 24) :
    (s.discover l [hop]).walk l = { s.walk l with
        asked := (s.walk l).asked ++ [hop].filter (fun h => !(s.walk l).asked.contains h), last := s.clk }
      ∧ (s.discover l [hop]).hold = s.hold
      ∧ (s.linkFree (8 + l) = true →
        (s.discover l [hop]).sent = .message "DISCOVER" l ((discoverPacket (s.towardA l) hop s.nodeId).map (·.toNat)) :: s.sent
          ∧ (s.discover l [hop]).regs = s.regs) := by
  obtain ⟨w, hw⟩ : ∃ w : Walk, w = { s.walk l with
    asked := (s.walk l).asked ++ [hop].filter (fun h => !(s.walk l).asked.contains h), last := s.clk } := ⟨_, rfl⟩
  have heq : s.discover l [hop] = (s.setWalk l w).packet (8 + l) "DISCOVER"
      (discoverPacket ((s.setWalk l w).towardA l) hop (s.setWalk l w).nodeId) := by rw [hw]; rfl
  rw [← hw, heq]
  have hside := packet_linkSide (s.setWalk l w) (8 + l) "DISCOVER" (discoverPacket ((s.setWalk l w).towardA l) hop (s.setWalk l w).nodeId)
  refine ⟨?_, hside.hold, fun hfree => ?_⟩
  · rw [State.walk, hside.scan]
    exact s.walk_setWalk l w
  · have hfree' : (s.setWalk l w).linkFree (8 + l) = true := hfree
    refine ⟨?_, State.packet_free_regs hfree' (by omega) (by decide)⟩
    rw [(State.packet_free hfree').1, linkPort_lane hl]
    rfl

theorem State.startWalk_spec (hl : l < 24) (hrole : s.laneRole l = 5) (hlinked : s.linked l = true) :
    (s.startWalk l).walk l = ⟨0, [0], s.clk⟩ ∧ (s.startWalk l).hold = s.hold
      ∧ (s.linkFree (8 + l) = true →
        (s.startWalk l).sent = .message "DISCOVER" l ((discoverPacket (s.towardA l) 0 s.nodeId).map (·.toNat)) :: s.sent
          ∧ (s.startWalk l).regs = s.regs) := by
  have heq : s.startWalk l = (s.setWalk l { hop := 0, asked := [], last := s.clk }).discover l [0] := if_pos ⟨hrole, hlinked⟩
  obtain ⟨hwalk, hhold, hsent⟩ := State.discover_one (s := s.setWalk l { hop := 0, asked := [], last := s.clk }) (hop := 0) hl
  rw [heq]
  rw [State.walk_setWalk] at hwalk
  exact ⟨hwalk, hhold, hsent⟩

/-- A walk that waits for one descriptor asks again. -/
def State.discoverAgain (s : State) (l : Nat) : State :=
  let w := s.walk l
  let lost := (s.scan.entries.filter fun e => e.2.state == 3 && (s.sendLanes e.1).contains l).map fun e =>
    if e.2.lane = l then e.2.hop else if s.endB l then s.chainLen l - 1 - e.2.pos else e.2.pos
  if s.laneRole l = 5 ∧ s.linked l ∧ s.elapsed w.last (ms 1) then
    s.discover l (w.asked ++ lost.filter fun h => !w.asked.contains h)
  else s

theorem State.discoverAgain_one {a b hop : Nat} (hrole : s.laneRole l = 5) (hlinked : s.linked l = true) (hw : s.walk l = ⟨a, [hop], b⟩)
    (hlong : b + ms 1 ≤ s.clk) (hentries : s.scan.entries = []) : s.discoverAgain l = s.discover l [hop] := by
  unfold State.discoverAgain
  dsimp only
  rw [hw, hentries]
  exact if_pos ⟨hrole, hlinked, by simpa [State.elapsed] using hlong⟩

end Sys2Proof.Machine
end

section
/-! ### Chains: descriptors and lost tiles (R189, R190) -/

namespace Sys2Proof.Machine

variable {s t u : State} {l q k : Nat}

/-- What a device keeps of a descriptor at once. -/
def State.foundOf (s : State) (l hop ep : Nat) (d : Descriptor) : Found :=
  ⟨d.ident, ep, s.posAt l hop, none, d.width, d.height, d.calSize, d.ranges, s.clk, 4, 4⟩

/-- The state in which the tile found is assigned its position. -/
def State.foundAt (s : State) (l hop ep : Nat) (d : Descriptor) : State :=
  let w := s.walk l
  let s' := s.setWalk l { w with asked := w.asked.filter (· != hop), hop := (if w.hop = hop then hop + 1 else w.hop) }
  { s' with scan := { s'.scan with found := tabSet s'.scan.found (l * 64 + hop) (s.foundOf l hop ep d) } }

theorem State.matchFound_none {key : Nat} {f : Found} (hf : tabGet? s.scan.found key = some f) (he : f.entry = none)
    (hlive : s.scan.live = []) :
    s.matchFound key = ({ s with scan := { s.scan with found := tabSet s.scan.found key f } }).scanSettle := by
  have hm : s.matchFor f (key / 64) = none := by rw [State.matchFor, hlive]; rfl
  have hfe : { f with entry := none } = f := by cases f; cases he; rfl
  unfold State.matchFound
  rw [hf]
  dsimp only
  rw [hm]
  dsimp only
  rw [hfe]

/-- A descriptor asked for at the last place of a chain, with no entry for it. -/
theorem State.descriptor_eq {hop ep : Nat} {d : Descriptor} (hasked : (s.walk l).asked = [hop])
    (hlive : s.scan.live = []) (hlast : s.chainLen l ≤ hop + 1) : ∃ v, v = (s.foundAt l hop ep d).packet (8 + l) "ASSIGN"
        (assignPacket (s.towardA l) ep hop (s.posAt l hop) (s.chainLen l) d.ident s.nodeId)
      ∧ s.descriptor l hop ep d = ({ v with scan := { v.scan with found := tabSet v.scan.found (l * 64 + hop) (s.foundOf l hop ep d) } }).scanSettle := by
  refine ⟨_, rfl, ?_⟩
  obtain ⟨v, hv⟩ : ∃ v, v = (s.foundAt l hop ep d).packet (8 + l) "ASSIGN"
      (assignPacket (s.towardA l) ep hop (s.posAt l hop) (s.chainLen l) d.ident s.nodeId) := ⟨_, rfl⟩
  have hscan : v.scan = (s.foundAt l hop ep d).scan := hv ▸ (packet_linkSide ..).scan
  have hfound : tabGet? v.scan.found (l * 64 + hop) = some (s.foundOf l hop ep d) := by
    rw [hscan]; exact tabGet?_tabSet_self _ _ _
  have hmatch := State.matchFound_none hfound rfl (by rw [hscan]; exact hlive)
  rw [← hv]
  have hcond : ¬ (!(s.walk l).asked.contains hop) = true := by simp [hasked]
  have hnext : ¬ ((s.walk l).hop == hop && decide (hop + 1 < s.chainLen l)) = true := by simp; omega
  have hout : ((v.matchFound (l * 64 + hop)).scan.found) = tabSet v.scan.found (l * 64 + hop) (s.foundOf l hop ep d) := by
    rw [hmatch, State.scanSettle_scan]
  have hbind : ((tabGet? (v.matchFound (l * 64 + hop)).scan.found (l * 64 + hop)).bind fun f => f.entry) = none := by
    rw [hout, tabGet?_tabSet_self]; rfl
  rw [← hmatch]
  unfold State.descriptor
  refine (if_neg hcond).trans ((if_neg hnext).trans ?_)
  change (match (tabGet? (State.matchFound ((s.foundAt l hop ep d).packet (8 + l) "ASSIGN" (assignPacket (s.towardA l) ep hop (s.posAt l hop) (s.chainLen l) d.ident s.nodeId)) (l * 64 + hop)).scan.found (l * 64 + hop)).bind fun f => f.entry with
      | some t => State.rangeConflicts _ t
      | none => _) = _
  rw [← hv, hbind]
  exact congrArg (fun u : State => u.matchFound (l * 64 + hop)) hv.symm

theorem State.descriptor_found {hop ep : Nat} {d : Descriptor} (hl : l < 24) (hasked : (s.walk l).asked = [hop])
    (hlive : s.scan.live = []) (hlast : s.chainLen l ≤ hop + 1) :
    tabGet? (s.descriptor l hop ep d).scan.found (l * 64 + hop) = some (s.foundOf l hop ep d)
      ∧ ((s.descriptor l hop ep d).walk l).asked = [] ∧ (s.descriptor l hop ep d).hold = s.hold
      ∧ (s.linkFree (8 + l) = true →
        (s.descriptor l hop ep d).sent = .message "ASSIGN" l ((assignPacket (s.towardA l) ep hop (s.posAt l hop) (s.chainLen l) d.ident
            s.nodeId).map (·.toNat)) :: s.sent
          ∧ RegsBut [Reg.SCAN_STAT, Reg.SCAN_UNMAPPED] s (s.descriptor l hop ep d)) := by
  obtain ⟨v, hv, heq⟩ := State.descriptor_eq (ep := ep) (d := d) hasked hlive hlast
  have hside : LinkSide (s.foundAt l hop ep d) v := hv ▸ packet_linkSide ..
  have hfound : (s.descriptor l hop ep d).scan = { v.scan with found := tabSet v.scan.found (l * 64 + hop) (s.foundOf l hop ep d) } := by
    rw [heq, State.scanSettle_scan]
  refine ⟨?_, ?_, ?_, fun hfree => ⟨?_, fun a ha => ?_⟩⟩
  · rw [hfound]; exact tabGet?_tabSet_self _ _ _
  · have hwalk : (v.walk l).asked = [] := by
      rw [State.walk, hside.scan]
      refine (congrArg Walk.asked (tabGetD_tabSet_self ..)).trans ?_
      simp [hasked]
    rw [State.walk, hfound]
    exact hwalk
  · rw [heq, State.scanSettle_hold]
    exact hside.hold.trans rfl
  · have hsent : (s.descriptor l hop ep d).sent = v.sent := by rw [heq]; rfl
    rw [hsent, hv, (State.packet_free (s := s.foundAt l hop ep d) hfree).1, linkPort_lane hl]
    rfl
  · have hregs : v.regs = s.regs := by
      rw [hv, State.packet_free_regs (s := s.foundAt l hop ep d) hfree (by omega) (by decide)]
      rfl
    obtain ⟨h1, h2⟩ : a ≠ Reg.SCAN_STAT ∧ a ≠ Reg.SCAN_UNMAPPED := by simpa using ha
    rw [heq]
    exact (State.rd_wr_ne _ _ h2).trans ((State.rd_wr_ne _ _ h1).trans (by rw [State.rd, State.rd]; exact congrArg (tabGetD · a _) hregs))

/-- A descriptor not asked for. -/
theorem State.descriptor_stale {hop ep : Nat} {d : Descriptor} (hasked : (s.walk l).asked = []) (hfound : s.scan.found = []) :
    s.descriptor l hop ep d = s.staleTile 2048 := by
  unfold State.descriptor
  refine (if_pos (by simp [hasked])).trans ?_
  rw [hfound]
  rfl

/-! #### A silent tile -/

/-- A loss that has been counted is told, and the other reports of the tile end. -/
def State.tileLostTold (s : State) (k : Nat) : State :=
  let s := s.notify 0x81 0 k []
  (({ s with cal := { s.cal with readyAt := s.clk } }).condClear 83 k).condClear 84 k |>.scanSettle

def State.tileLost (s : State) (k : Nat) : State :=
  (((s.setEntry k { s.tileEntry k with state := 3, held := false, heldFor := 0, other := none }).bump Reg.SCAN_TILE_LOST).raiseOnce 81
    k).tileLostTold k

theorem State.tileLostTold_keeps (s : State) (k : Nat) : (s.tileLostTold k).scan = s.scan ∧ (s.tileLostTold k).hold = s.hold
    ∧ ∀ a, faultReg a = false → a ≠ Reg.SCAN_STAT → a ≠ Reg.SCAN_UNMAPPED → (s.tileLostTold k).rd a = s.rd a := by
  obtain ⟨x, hx, hscan, hhold, hregs⟩ : ∃ x : State, s.tileLostTold k = ((x.condClear 83 k).condClear 84 k).scanSettle
      ∧ x.scan = s.scan ∧ x.hold = s.hold ∧ x.regs = s.regs := ⟨_, rfl, rfl, rfl, rfl⟩
  have hg := (condClear_faultSide x 83 k).trans (condClear_faultSide (x.condClear 83 k) 84 k)
  rw [hx]
  refine ⟨?_, ?_, fun a ha h1 h2 => ?_⟩
  · rw [State.scanSettle_scan, hg.scan, hscan]
  · rw [State.scanSettle_hold, hg.hold, hhold]
  · refine (State.rd_wr_ne _ _ h2).trans ((State.rd_wr_ne _ _ h1).trans ((hg.rd ha).trans ?_))
    rw [State.rd, State.rd, hregs]

/-- The count of lost tiles stands in registers that no entry, and no report, writes. -/
theorem State.pair_tileLost (h : ∀ a, faultReg a = false → a ≠ Reg.SCAN_TILE_STAT k → a ≠ Reg.CAL_TILE_STAT k → a ≠ Reg.SCAN_STAT →
    a ≠ Reg.SCAN_UNMAPPED → t.rd a = s.rd a) (hk : k < 2048) : t.pair Reg.SCAN_TILE_LOST = s.pair Reg.SCAN_TILE_LOST := by
  have hrd (a : Nat) (ha : a = Reg.SCAN_TILE_LOST ∨ a = Reg.SCAN_TILE_LOST + 4) : t.rd a = s.rd a := by
    refine h a (by obtain rfl | rfl := ha <;> decide) ?_ ?_ ?_ ?_ <;>
      simp only [Reg.SCAN_TILE_LOST, Reg.SCAN_TILE_STAT, Reg.CAL_TILE_STAT, Reg.SCAN_STAT, Reg.SCAN_UNMAPPED] at ha ⊢ <;> omega
  rw [State.pair, State.rn, State.rn, hrd _ (.inl rfl), hrd _ (.inr rfl)]
  rfl

theorem State.tileLost_spec (hk : k < 2048) (h81 : s.logOnly 81 = true) :
    ((s.tileLost k).tileEntry k).state = 3 ∧ ((s.tileLost k).tileEntry k).held = false
      ∧ (s.tileLost k).pair Reg.SCAN_TILE_LOST = min (s.pair Reg.SCAN_TILE_LOST + 1) (2 ^ 64 - 1) ∧ SameHold s (s.tileLost k) := by
  obtain ⟨e, he⟩ : ∃ e, e = { s.tileEntry k with state := 3, held := false, heldFor := 0, other := none } := ⟨_, rfl⟩
  obtain ⟨v, hv⟩ : ∃ v, v = (s.setEntry k e).bump Reg.SCAN_TILE_LOST := ⟨_, rfl⟩
  have hf := raiseOnce_faultSide v 81 k 0
    (((hv ▸ (s.setEntry_detsKept e hk).trans ((DetsKept.refl _).bump (by decide)) : DetsKept s v).logOnly 81).trans h81)
  obtain ⟨hscan, hhold, hrd⟩ := (v.raiseOnce 81 k).tileLostTold_keeps k
  have heq : s.tileLost k = (v.raiseOnce 81 k).tileLostTold k := by rw [hv, he]; rfl
  have hentry : (s.tileLost k).tileEntry k = e := by
    rw [heq, State.tileEntry, hscan, hf.scan, hv]
    exact s.tileEntry_setEntry k e
  have hcount : v.pair Reg.SCAN_TILE_LOST = min ((s.setEntry k e).pair Reg.SCAN_TILE_LOST + 1) (2 ^ 64 - 1) := by
    rw [hv]
    exact State.pair_bumpBy _ _ 1
  have hkept : (s.setEntry k e).pair Reg.SCAN_TILE_LOST = s.pair Reg.SCAN_TILE_LOST :=
    State.pair_tileLost (fun a _ h1 h2 h3 h4 => s.setEntry_rd e h1 h2 h3 h4) hk
  have hafter : (s.tileLost k).pair Reg.SCAN_TILE_LOST = v.pair Reg.SCAN_TILE_LOST := by
    rw [heq]
    exact State.pair_tileLost (fun a ha _ _ h1 h2 => (hrd a ha h1 h2).trans (hf.rd ha)) hk
  refine ⟨by rw [hentry, he], by rw [hentry, he], by rw [hafter, hcount, hkept], sameHold_of_hold ?_⟩
  rw [heq, hhold, hf.hold, hv]
  show (s.setEntry k e).hold = s.hold
  rw [State.setEntry_hold]

/-- The refresh of a lane and the loss of a tile, when they are due. -/
def State.lpiRefreshDue (s : State) (l : Nat) : State :=
  if (s.lpi l).idle ∧ s.elapsed (s.lpi l).lastRefresh (us 20) then s.lpiRefreshed l else s

def State.tileLostDue (s : State) (k : Nat) : State :=
  if (s.tileEntry k).present ∧ s.elapsed (s.tileEntry k).lastStatus (us 200) then s.tileLost k else s

theorem exec_lpiRefresh (dt : Nat) (l : Fin 24) (s : State) : exec (.lpiRefresh dt l) s = act dt s fun u => u.lpiRefreshDue l := by
  show execLpiRefresh dt l s = _
  unfold execLpiRefresh
  simp only [State.lpiRefreshDue, State.lpiRefreshed, State.lpiRefreshLine]

theorem exec_tileLost (dt : Nat) (k : Fin 2048) (s : State) : exec (.tileLost dt k) s = act dt s fun u => u.tileLostDue k := by
  show execTileLost dt k s = _
  unfold execTileLost
  simp only [State.tileLostDue, State.tileLost, State.tileLostTold]

/-- Settles O35, by what each command does on one lane, and what the traffic of other lanes leaves of it. -/
theorem chainTraffic : Obligations.ChainTraffic := by
  unfold Obligations.ChainTraffic
  intro dt n hop ep a b l k d p s hcore hlog
  refine ⟨fun hr hstop hres harm => ?_, fun hr hstop hres harm hrole hlinked hheld => ?_, ?_, ?_, fun hb ha hlong => ?_,
    fun hrole hlinked => ?_, fun hrole hlinked hw hlong hentries => ?_, fun hasked hlive hlast => ?_, fun hasked hfound => ?_,
    fun hpres hsilent => ?_⟩
  case refine_1 => exact completes_act (f := fun u => u.tokenSend n false) rfl hcore (State.tokenSend_first (s := s.advance dt) hr hstop hres harm)
  case refine_2 => exact completes_act (f := fun u => u.tokenSend n true) rfl hcore (State.tokenSend_second (s := s.advance dt) hr hstop hres harm hrole l.2 hlinked hheld)
  case refine_3 =>
    rintro rfl hidle hlong
    obtain ⟨hlpi, htx, hside⟩ := (s.advance dt).lpiRefreshed_spec l
    have hdo : (s.advance dt).lpiRefreshDue l = (s.advance dt).lpiRefreshed l := if_pos ⟨hidle, decide_eq_true hlong⟩
    have hsent := (s.advance dt).lpiRefreshed_sent l.2
    refine completes_eq (exec_lpiRefresh dt l s) hcore hdo ?_
    generalize (s.advance dt).lpiRefreshed l = u at *
    exact ⟨hlpi, htx, hside.sameHold, hsent⟩
  case refine_4 =>
    rintro rfl hidle
    obtain ⟨hsent, hlpi, hfld, hregs, hhold⟩ := (s.advance dt).lpiWake_spec l.2 hidle
    exact completes_act (f := fun u => u.lpiWake l) rfl hcore ⟨hsent, hlpi, hfld, hregs, sameHold_of_hold hhold⟩
  case refine_5 => exact completes_act (f := fun u => u.chainBreak l) rfl hcore (State.chainBreak_spec (s := s.advance dt) l.2 hb ha hlong (hlog 80 (by simp)))
  case refine_6 =>
    obtain ⟨hwalk, hhold, hsent⟩ := State.startWalk_spec (s := s.advance dt) l.2 hrole hlinked
    exact completes_act (f := fun u => u.startWalk l) rfl hcore
      ⟨hwalk, sameHold_of_hold hhold, fun hfree => ⟨(hsent hfree).1, sameRegs_of_regs (hsent hfree).2⟩⟩
  case refine_7 =>
    obtain ⟨hwalk, hhold, hsent⟩ := State.discover_one (s := s.advance dt) (hop := hop) l.2
    refine completes_eq rfl hcore (State.discoverAgain_one (s := s.advance dt) hrole hlinked hw hlong hentries) ?_
    refine ⟨hwalk.trans ?_, sameHold_of_hold hhold, fun hfree => ⟨(hsent hfree).1, sameRegs_of_regs (hsent hfree).2⟩⟩
    have hw' : (s.advance dt).walk l = ⟨a, [hop], b⟩ := hw
    rw [hw']
    simp [State.advance]
  case refine_8 =>
    obtain ⟨hfound, hwalk, hhold, hsent⟩ := State.descriptor_found (s := s.advance dt) (ep := ep) (d := d) l.2 hasked hlive hlast
    exact completes_act (f := fun u => u.descriptor l hop ep d) rfl hcore ⟨hfound, hwalk, sameHold_of_hold hhold, hsent⟩
  case refine_9 =>
    obtain ⟨hpair, hscan, hhold⟩ := State.staleTile_spec (s := s.advance dt) (k := 2048) (hlog 85 (by simp))
    refine completes_eq rfl hcore (State.descriptor_stale (s := s.advance dt) hasked hfound) ?_
    exact ⟨hpair, hscan, sameHold_of_hold hhold⟩
  case refine_10 =>
    have hdo : (s.advance dt).tileLostDue k = (s.advance dt).tileLost k := if_pos ⟨hpres, decide_eq_true hsilent⟩
    have hspec := State.tileLost_spec (s := s.advance dt) k.2 (hlog 81 (by simp))
    refine completes_eq (exec_tileLost dt k s) hcore hdo ?_
    generalize (s.advance dt).tileLost k = u at *
    exact hspec

end Sys2Proof.Machine
end

section
/-! ### A tile: its ports, and what a packet passed on leaves (R234) -/

namespace Sys2Proof.Machine

variable {s t u : State} {x y : Tile} {k l : Nat} {p : Bool}

/-- A tile without a snapshot due is as it stands. -/
theorem State.onTile_eq (h : tabGet? s.tiles k = some x) (hs : x.snaps = []) (f : State → Tile → State) : s.onTile k f = f s x := by
  unfold State.onTile
  rw [h]
  dsimp only
  rw [hs]
  rfl

/-- Traffic of a tile: no register of the device changes. -/
structure TileSide (s t : State) : Prop where
  link : LinkSide s t
  rd : ∀ a, t.rd a = s.rd a

namespace TileSide

theorem refl (s : State) : TileSide s s := ⟨.refl s, fun _ => rfl⟩

theorem trans (h : TileSide s t) (k : TileSide t u) : TileSide s u := ⟨h.link.trans k.link, fun a => (k.rd a).trans (h.rd a)⟩

theorem ite {c : Prop} [Decidable c] (h : TileSide s t) (k : TileSide s u) : TileSide s (if c then t else u) := by
  split
  · exact h
  · exact k

theorem packet (h : TileSide s t) (hk : 64 ≤ k) (kind : String) (bs : List Byte) : TileSide s (t.packet k kind bs) :=
  h.trans ⟨packet_linkSide .., State.packet_tile_rd hk⟩

theorem passOn (h : TileSide s t) (k : Nat) (x : Tile) (p : Bool) (kind : String) (bs : List Byte) :
    TileSide s (t.passOn k x p kind bs) := .ite (h.packet (by unfold tileKey; omega) ..) h

/-- A tile is set: it, no register and no byte of Hold. -/
theorem setTile (h : TileSide s t) (k : Nat) (y : Tile) : tabGet? (t.setTile k y).tiles k = some y ∧ SameRegs s (t.setTile k y)
    ∧ SameHold s (t.setTile k y) :=
  ⟨tabGet?_tabSet_self .., h.rd, fun a => (sameHold_of_hold h.link.hold) a⟩

/-- The same of what is read of the tile. -/
theorem setTile_map (h : TileSide s t) (k : Nat) {α : Type} {f : Tile → α} {v : α} (hv : f y = v) :
    (tabGet? (t.setTile k y).tiles k).map f = some v ∧ SameRegs s (t.setTile k y) ∧ SameHold s (t.setTile k y) := by
  obtain ⟨htile, hregs, hhold⟩ := h.setTile k y
  exact ⟨by rw [htile, Option.map_some, hv], hregs, hhold⟩

end TileSide

@[simp] theorem Tile.port_setPort (x : Tile) (p : Bool) (q : TilePort) : (x.setPort p q).port p = q := by
  cases p <;> rfl

@[simp] theorem Tile.port_setPort_not (x : Tile) (p : Bool) (q : TilePort) : (x.setPort (!p) q).port p = x.port p := by
  cases p <;> rfl

/-- What a tile has heard on a port changes that port alone. -/
theorem Tile.setPort_rest (x : Tile) (p : Bool) (q : TilePort) : ∃ p0 p1, x.setPort p q = { x with p0 := p0, p1 := p1 } := by
  cases p
  · exact ⟨_, _, rfl⟩
  · exact ⟨_, _, rfl⟩

/-! #### Frames at a tile (R174 to R178) -/

/-- A pixel packet that arrived whole. -/
def Tile.takePixels (t : Tile) (p : PixelPacket) : Tile :=
  let key := p.line * 4 + p.segment
  let keep := fun (segs : Tab (List (Nat × Nat × Nat))) => ({ t with rx := some p.tally, segs := tabSet segs key p.pixels }).count 0
  match t.rx with
  | none => keep []
  | some r =>
    if r = p.tally then if (tabGet? t.segs key).isSome then t.count 2 else keep t.segs
    else if newer32 p.tally r then keep [] else t

/-- What a pixel packet makes of the tile it reaches. -/
def Tile.onPixels (t : Tile) (port : Bool) (p : PixelPacket) (crc : Word) (clk : Nat) : Tile :=
  let bs := withCheck (pixelPacket p) crc
  if !packetGood bs then t.count 1
  else
    let t := t.hear port clk
    if t.pos ≠ some p.pos ∨ tileKeeps bs = false then t
    else if p.epoch ≠ t.epoch then t.count 3
    else if t.segmentOk p = false then t
    else t.takePixels p

/-- What a token makes of the tile it reaches. -/
def Tile.onToken (t : Tile) (port : Bool) (q : Token) (crc : Word) (clk : Nat) : Tile :=
  let bs := withCheck (tokenPacket q) crc
  if !packetGood bs then t.count 1
  else
    let t := t.hear port clk
    if tileKeeps bs = false then t
    else
      let t := t.setPort port { t.port port with role := q.role }
      if !t.locked then t
      else { t.count 4 with last := some q, lastToken := clk, lossBlack := false, toks := (q :: t.toks).take 16 }

/-- What the start of an emission makes of the tile, at the start b of its tally's sub-frames. -/
def Tile.onEmission (t : Tile) (tally b period subs : Nat) : Tile :=
  let n := tally % 2 ^ 32
  let toks := t.toks.filter (·.tally == n)
  let whole := t.rx == some n && t.segs.length == t.segments
  let abort := toks.any (·.abort)
  let held := toks.any fun k => t.pos.any fun p => bit k.hold p
  let t := { t with
    gridAt := b, gridTally := tally, gridPeriod := period, gridSubs := subs
    toks := t.toks.filter fun k => newer32 k.tally n, held := held }
  if whole && !toks.isEmpty && !abort then { t with frame := some t.segs, shown := n }
  else if (!whole || toks.isEmpty) && !abort && !held then ({ t with incTally := n, newInc := true }.count 5)
  else t

theorem tileKeeps_good {bs : List Byte} (h : tileKeeps bs = true) : packetGood bs = true := by
  simp only [tileKeeps, Bool.and_eq_true] at h
  exact h.1.1.1

/-- A command of a tile without a snapshot due, that comes to a change of the tile and its traffic. -/
theorem completes_tile {c : Instr} {dt : Nat} {f : State → Tile → State} {P : State → Prop}
    (hc : exec c s = actAlways dt s fun s => s.onTile k f) (h : tabGet? s.tiles k = some x) (hs : x.snaps = [])
    (hu : f (s.advance dt) x = u) (hp : P (acted dt s fun _ => u)) : Completes c s P := by
  refine completes_actAlways hc ?_
  have heq : acted dt s (fun s => s.onTile k f) = acted dt s fun _ => u := by
    rw [acted, acted, State.onTile_eq (s := s.advance dt) h hs, hu]
  exact heq ▸ hp

/-- The command leaves tile k as y, and every register and byte of Hold as it was. -/
def CompletesTile (c : Instr) (s : State) (k : Nat) (y : Tile) : Prop :=
  Completes c s fun t => tabGet? t.tiles k = some y ∧ SameRegs s t ∧ SameHold s t

theorem completesTile {c : Instr} {dt : Nat} {f : State → Tile → State} {v : State}
    (hc : exec c s = actAlways dt s fun s => s.onTile k f) (h : tabGet? s.tiles k = some x) (hs : x.snaps = [])
    (hv : TileSide (s.advance dt) v) (hu : f (s.advance dt) x = v.setTile k y) : CompletesTile c s k y := by
  refine completes_tile hc h hs hu ?_
  exact hv.setTile k y

theorem CompletesTile.map {c : Instr} {α : Type} {f : Tile → α} {v : α} (h : CompletesTile c s k y) (hv : f y = v) :
    Completes c s fun t => (tabGet? t.tiles k).map f = some v ∧ SameRegs s t ∧ SameHold s t := by
  obtain ⟨t, ht, htile, hregs, hhold⟩ := h
  exact ⟨t, ht, by rw [htile, Option.map_some, hv], hregs, hhold⟩

theorem completes_pixels {dt : Nat} {q : PixelPacket} {crc : Word} (h : tabGet? s.tiles k = some x) (hs : x.snaps = []) :
    CompletesTile (.tilePixelReceive dt k p q crc) s k (x.onPixels p q crc (s.clk + dt)) := by
  have hv := (TileSide.refl (s.advance dt)).passOn k x p "PIXEL" (withCheck (pixelPacket q) crc)
  refine completesTile rfl h hs hv ?_
  dsimp only
  rw [hv.link.clk]
  simp only [Tile.onPixels, apply_ite (State.setTile _ k)]
  rfl

theorem completes_token {dt : Nat} {q : Token} {crc : Word} (h : tabGet? s.tiles k = some x) (hs : x.snaps = []) :
    CompletesTile (.tileTokenReceive dt k p q crc) s k (x.onToken p q crc (s.clk + dt)) := by
  have hv := (TileSide.refl (s.advance dt)).passOn k x p "TOKEN" (withCheck (tokenPacket q) crc)
  refine completesTile rfl h hs hv ?_
  dsimp only
  rw [hv.link.clk]
  simp only [Tile.onToken, apply_ite (State.setTile _ k)]
  rfl

/-- An emission starts at the instant of its tally's grid. -/
theorem completes_emission {dt n b period subs : Nat} (h : tabGet? s.tiles k = some x) (hs : x.snaps = [])
    (hgrid : x.grid n = some (b, period, subs)) (hon : onGrid (s.advance dt).ns b = true) :
    CompletesTile (.tileEmissionStart dt k n) s k (x.onEmission n b period subs) := by
  refine completesTile rfl h hs (.refl (s.advance dt)) ?_
  dsimp only
  rw [hgrid]
  dsimp only
  rw [if_neg (by rw [hon]; decide)]
  simp only [Tile.onEmission, apply_ite (State.setTile _ k)]

/-- The only token gives the grid of its tally. -/
theorem Tile.grid_one {q : Token} {n : Nat} (ht : x.toks = [q]) (hq : q.tally = n) (hn : n < 2 ^ 32) :
    x.grid n = some (ofLedger q.tp + q.emitOffset, q.period, q.subframes) := by
  unfold Tile.grid
  rw [ht, List.find?_cons_of_pos (by rw [beq_iff_eq, hq, Nat.mod_eq_of_lt hn])]

/-- A packet of the tile's position, whole and of a form that it keeps, is judged by its epoch. -/
theorem Tile.onPixels_kept {q : PixelPacket} {crc : Word} {clk : Nat} (hkeep : tileKeeps (withCheck (pixelPacket q) crc) = true)
    (hpos : x.pos = some q.pos) : x.onPixels p q crc clk =
      if q.epoch ≠ x.epoch then (x.hear p clk).count 3
      else if x.segmentOk q = false then x.hear p clk else (x.hear p clk).takePixels q := by
  obtain ⟨p0, p1, hx⟩ : ∃ p0 p1, x.hear p clk = { x with p0 := p0, p1 := p1 } := x.setPort_rest p _
  unfold Tile.onPixels
  dsimp only
  rw [if_neg (by simp [tileKeeps_good hkeep]), hx, if_neg (by simp [hkeep, hpos])]
  rfl

/-- A good segment of the tile's own epoch is taken; the ports aside, it is as the tile stood. -/
theorem Tile.onPixels_taken {q : PixelPacket} {crc : Word} {clk : Nat} (hkeep : tileKeeps (withCheck (pixelPacket q) crc) = true)
    (hpos : x.pos = some q.pos) (hepoch : q.epoch = x.epoch) (hok : x.segmentOk q = true) :
    ∃ p0 p1, x.onPixels p q crc clk = ({ x with p0 := p0, p1 := p1 } : Tile).takePixels q := by
  obtain ⟨p0, p1, hx⟩ : ∃ p0 p1, x.hear p clk = { x with p0 := p0, p1 := p1 } := x.setPort_rest p _
  refine ⟨p0, p1, ?_⟩
  rw [Tile.onPixels_kept hkeep hpos, if_neg (by simp [hepoch]), if_neg (by simp [hok]), hx]

/-- A token that the tile keeps gives its port's role, and its contents with the time locked. -/
theorem Tile.onToken_kept {q : Token} {crc : Word} {clk : Nat} (hkeep : tileKeeps (withCheck (tokenPacket q) crc) = true) :
    ∃ p0 p1, (({ x with p0 := p0, p1 := p1 } : Tile).port p).heardAt = some clk ∧ x.onToken p q crc clk =
      if !x.locked then { x with p0 := p0, p1 := p1 } else { ({ x with p0 := p0, p1 := p1 } : Tile).count 4 with
          last := some q, lastToken := clk, lossBlack := false, toks := (q :: x.toks).take 16 } := by
  have hrole : ∃ p0 p1, (x.hear p clk).setPort p { (x.hear p clk).port p with role := q.role } = { x with p0 := p0, p1 := p1 }
      ∧ (({ x with p0 := p0, p1 := p1 } : Tile).port p).heardAt = some clk := by
    cases p <;> exact ⟨_, _, rfl, rfl⟩
  obtain ⟨p0, p1, heq, hheard⟩ := hrole
  refine ⟨p0, p1, hheard, ?_⟩
  unfold Tile.onToken
  dsimp only
  rw [if_neg (by simp [tileKeeps_good hkeep]), if_neg (by simp [hkeep]), heq]
  rfl

/-- Settles O36: each packet and each instant makes of the tile what its pure function says. -/
theorem tileFrames : Obligations.TileFrames := by
  unfold Obligations.TileFrames
  intro dt k n i port p q crc x s hx hs
  refine ⟨fun hbad => ?_, fun hkeep hpos hepoch => ?_, fun hkeep hpos hepoch hok hrx hnew => ?_, fun hkeep hpos hepoch hok hrx hcopy => ?_,
    fun hkeep hpos hepoch hok hrx hnewer => ?_, fun hkeep hlocked => ?_, fun hkeep hlocked => ?_, fun ht hq hab hn hrx hsegs hon => ?_,
    fun ht hq hab hn hon => ?_, fun ht hq hab hhold hn hrx hon => ?_, fun hi hon => ?_, fun hlast hloss hlong hblack => ?_⟩
  case refine_1 =>
    have hc := completes_pixels (dt := dt) (p := port) (q := p) (crc := crc) hx hs
    have heq : x.onPixels port p crc (s.clk + dt) = x.count 1 := if_pos (by simp [hbad])
    rwa [heq] at hc
  case refine_2 =>
    refine (completes_pixels hx hs).map ?_
    rw [Tile.onPixels_kept hkeep hpos, if_pos hepoch]
    obtain ⟨p0, p1, hr⟩ := x.setPort_rest port { x.port port with heardAt := some (s.clk + dt) }
    rw [Tile.hear, hr]
    rfl
  case refine_3 =>
    refine (completes_pixels hx hs).map ?_
    obtain ⟨p0, p1, hr⟩ := Tile.onPixels_taken (p := port) (clk := s.clk + dt) hkeep hpos hepoch hok
    rw [hr, Tile.takePixels]
    simp only [hrx, hnew]
    rfl
  case refine_4 =>
    refine (completes_pixels hx hs).map ?_
    obtain ⟨p0, p1, hr⟩ := Tile.onPixels_taken (p := port) (clk := s.clk + dt) hkeep hpos hepoch hok
    rw [hr, Tile.takePixels]
    simp only [hrx, hcopy]
    rfl
  case refine_5 =>
    refine (completes_pixels hx hs).map ?_
    obtain ⟨p0, p1, hr⟩ := Tile.onPixels_taken (p := port) (clk := s.clk + dt) hkeep hpos hepoch hok
    have hne : n ≠ p.tally := by
      rintro rfl
      simp only [newer32, decide_eq_true_eq] at hnewer
      omega
    rw [hr, Tile.takePixels]
    simp only [hrx, hne, hnewer]
    rfl
  case refine_6 =>
    refine (completes_token hx hs).map ?_
    obtain ⟨p0, p1, -, heq⟩ := Tile.onToken_kept (x := x) (p := port) (clk := s.clk + dt) hkeep
    rw [heq, if_neg (by simp [hlocked])]
    rfl
  case refine_7 =>
    refine (completes_token hx hs).map ?_
    obtain ⟨p0, p1, hheard, heq⟩ := Tile.onToken_kept (x := x) (p := port) (clk := s.clk + dt) hkeep
    rw [heq, if_pos (by simp [hlocked]), hheard]
  case refine_8 =>
    refine (completes_emission hx hs (Tile.grid_one ht hq hn) hon).map ?_
    have hmod : n % 4294967296 = n := Nat.mod_eq_of_lt hn
    simp [Tile.onEmission, ht, hq, hab, hmod, hrx, hsegs]
  case refine_9 =>
    refine (completes_emission hx hs (Tile.grid_one ht hq hn) hon).map ?_
    have hmod : n % 4294967296 = n := Nat.mod_eq_of_lt hn
    simp [Tile.onEmission, ht, hq, hab, hmod]
  case refine_10 =>
    refine (completes_emission hx hs (Tile.grid_one ht hq hn) hon).map ?_
    have hmod : n % 4294967296 = n := Nat.mod_eq_of_lt hn
    simp [Tile.onEmission, ht, hq, hab, hmod, hrx, hhold, bit, Tile.count]
  case refine_11 =>
    refine completes_tile rfl hx hs (if_pos ⟨hi, hon⟩) ?_
    exact ⟨rfl, tabGet?_tabSet_self .., fun _ => rfl, fun _ => rfl⟩
  case refine_12 =>
    refine completesTile rfl hx hs (.refl (s.advance dt)) ?_
    rw [hlast]
    exact if_pos ⟨hloss, decide_eq_true hlong, by simp [hblack]⟩

end Sys2Proof.Machine
end

section
/-! ### Discovery, status and power at a tile (R235 to R238, R246, R259, R260) -/

namespace Sys2Proof.Machine

variable {s t u v : State} {x y : Tile} {k l : Nat} {p port : Bool}

theorem linkPort_tileKey (k : Nat) (p : Bool) : linkPort (tileKey k p) = 2 * k + p.toNat := by
  rw [linkPort, tileKey, if_neg (by omega), if_neg (by omega)]
  omega

theorem State.passOn_unlinked (h : (x.port (!p)).linked = false) (s : State) (k : Nat) (kind : String) (bs : List Byte) :
    s.passOn k x p kind bs = s := if_neg (by simp [h])

theorem State.passBlocks_unlinked (h : (x.port (!p)).linked = false) (s : State) (k : Nat) (kind : String) (bs : List SlkBlock) :
    s.passBlocks k x p kind bs = s := if_neg (by simp [h])

/-- The port of a link that ends at tile k. -/
theorem State.tilePort_tileKey (h : tabGet? s.tiles k = some x) (p : Bool) : s.tilePort (tileKey k p) = x.port p := by
  have hk : (tileKey k p - 64) / 2 = k := by cases p <;> simp only [tileKey, Bool.toNat_false, Bool.toNat_true] <;> omega
  rw [State.tilePort, hk, h]
  cases p
  · exact if_neg (by simp only [tileKey, Bool.toNat_false]; omega)
  · exact if_pos (by simp only [tileKey, Bool.toNat_true]; omega)

theorem State.carriers_tile (s : State) (k : Nat) (p : Bool) :
    s.carriers (tileKey k p) = if (s.tilePort (tileKey k p)).linked then [tileKey k p] else [] := by
  rw [State.carriers, if_neg (by unfold tileKey; omega), if_neg (by unfold tileKey; omega)]

/-- A free link of a tile is linked. -/
theorem State.linkFree_linked (h : tabGet? s.tiles k = some x) (hfree : s.linkFree (tileKey k p) = true) : (x.port p).linked = true := by
  have hcar : s.carriers (tileKey k p) ≠ [] := by
    simp only [State.linkFree, Bool.and_eq_true] at hfree
    simpa using hfree.1.2
  rw [State.carriers_tile, State.tilePort_tileKey h] at hcar
  by_contra hn
  exact hcar (if_neg hn)

/-- A link of a tile is as free when the tile changes beside that port. -/
theorem State.linkFree_setTile (h : tabGet? s.tiles k = some x) (hy : (y.port p).linked = (x.port p).linked) :
    (s.setTile k y).linkFree (tileKey k p) = s.linkFree (tileKey k p) := by
  have hport : ((s.setTile k y).tilePort (tileKey k p)).linked = (s.tilePort (tileKey k p)).linked := by
    rw [State.tilePort_tileKey h, State.tilePort_tileKey (s := s.setTile k y) (tabGet?_tabSet_self ..), hy]
  have hcar : (s.setTile k y).carriers (tileKey k p) = s.carriers (tileKey k p) := by
    rw [State.carriers_tile, State.carriers_tile, hport]
  rw [State.linkFree, State.linkFree, hcar]
  rfl

theorem State.packet_tile_sent {kind : String} {bs : List Byte} (h : s.linkFree (tileKey k p) = true) :
    (s.packet (tileKey k p) kind bs).sent = .message kind (2 * k + p.toNat) (bs.map (·.toNat)) :: s.sent := by
  rw [(State.packet_free h).1, linkPort_tileKey]

/-- A packet passed on to a free port leaves by it. -/
theorem State.passOn_sent {kind : String} {bs : List Byte} (hx : tabGet? s.tiles k = some x) (hy : (y.port p).linked = (x.port p).linked)
    (h : s.linkFree (tileKey k p) = true) :
    (s.passOn k y (!p) kind bs).sent = .message kind (2 * k + p.toNat) (bs.map (·.toNat)) :: s.sent := by
  rw [State.passOn, Bool.not_not, if_pos (hy.trans (State.linkFree_linked hx h)), State.packet_tile_sent h]

theorem tileSide_tileKey (h : TileSide s t) (k : Nat) (p : Bool) (kind : String) (bs : List Byte) :
    TileSide s (t.packet (tileKey k p) kind bs) := h.packet (by unfold tileKey; omega) ..

/-- A status leaves on the one port linked. -/
theorem State.statusOut_one (hother : (x.port (!port)).linked = false) (hlinked : (x.port port).linked = true) (s : State) (f : Bool → List Byte) :
    [false, true].foldl (fun s p => if (x.port p).linked then s.packet (tileKey k p) "STATUS" (f p) else s) s
      = s.packet (tileKey k port) "STATUS" (f port) := by
  cases port
  · have hoff : ¬ (x.port true).linked = true := by simpa using hother
    simp only [List.foldl_cons, List.foldl_nil, if_pos hlinked, if_neg hoff]
  · have hoff : ¬ (x.port false).linked = true := by simpa using hother
    simp only [List.foldl_cons, List.foldl_nil, if_pos hlinked, if_neg hoff]

/-- A port of a tile links or drops. -/
def State.portEvent (s : State) (k : Nat) (port linked : Bool) (rate : Nat) (info : TileInfo) : State :=
  let s := if (tabGet? s.tiles k).isSome then s else s.setTile k { info := info }
  s.onTile k fun s t =>
    let x := t.port port
    if x.linked = linked ∨ (!linked && x.asleep && !s.elapsed x.refreshed (us 30)) then s.setTile k t
    else
      let t := t.setPort port { linked := linked, rate := rate }
      let key := tileKey k port
      let s := { s with slk := { s.slk with
        credits := tabErase s.slk.credits key, timeLinks := tabErase s.slk.timeLinks key
        regWait := s.slk.regWait.filter (·.1 != key) } }
      let s := { s with phy := { s.phy with tx := tabErase s.phy.tx key } }
      s.setTile k ({ t with needDiscovery := true }.count 7)

/-- A port that links asks for discovery. -/
theorem completes_portLinked {dt r : Nat} {info : TileInfo} (hx : tabGet? s.tiles k = some x) (hs : x.snaps = [])
    (hun : (x.port port).linked = false) : Completes (.tilePortEvent dt k port true r info) s fun t =>
      (tabGet? t.tiles k).map (fun y => ((y.port port).linked, (y.port port).rate, y.needDiscovery, y.counters))
          = some (true, r, true, (x.count 7).counters) ∧ SameRegs s t ∧ SameHold s t := by
  obtain ⟨y, v, heq, hread, hregs, hhold⟩ : ∃ (y : Tile) (v : State), (s.advance dt).portEvent k port true r info = v.setTile k y
      ∧ ((y.port port).linked, (y.port port).rate, y.needDiscovery, y.counters) = (true, r, true, (x.count 7).counters)
      ∧ v.regs = s.regs ∧ v.hold = s.hold := by
    rw [State.portEvent, if_pos (by rw [show (s.advance dt).tiles = s.tiles from rfl, hx]; rfl), State.onTile_eq (s := s.advance dt) hx hs]
    refine ⟨_, _, if_neg fun h => ?_, ?_, rfl, rfl⟩
    · simp [hun] at h
    · cases port <;> rfl
  refine completes_actAlways (f := fun u => u.portEvent k port true r info) rfl ?_
  rw [acted]
  rw [heq]
  exact ⟨(congrArg _ (tabGet?_tabSet_self ..)).trans (by rw [Option.map_some, hread]), sameRegs_of_regs hregs, sameHold_of_hold hhold⟩

/-- Settles O37, clause by clause, with the one port linked. -/
theorem tileDiscoveryAndStatus : Obligations.TileDiscoveryAndStatus := by
  unfold Obligations.TileDiscoveryAndStatus
  intro dt k r hops pos len id off n at64 from_ tp port toward info crc x s hother hx hs
  refine ⟨fun hlinked hlast => ?_, fun hun => ?_, fun hhops hkeep => ?_, fun hneed hepoch hkeep => ?_, fun hpos hkeep => ?_,
    fun hpos hpe hkeep => ?_, fun hpos hn hn' hfit hkeep => ?_, fun hpos hover hkeep => ?_, fun hat hkeep => ?_, ?_, fun hasleep hlong => ?_⟩
  case refine_1 =>
    obtain ⟨st, hst⟩ : ∃ st, st = x.status (s.clk + dt) (s.advance dt).now64 tp := ⟨_, rfl⟩
    obtain ⟨y, hy⟩ : ∃ y : Tile, y = { x with seq := st.seq, newInc := false, lastStatus := some (s.clk + dt) } := ⟨_, rfl⟩
    have hside := tileSide_tileKey (.refl ((s.advance dt).setTile k y)) k port "STATUS" (statusPacket (port == x.aPort) (x.pos.getD 255) x.epoch st)
    refine completes_tile (u := ((s.advance dt).setTile k y).packet (tileKey k port) "STATUS"
      (statusPacket (port == x.aPort) (x.pos.getD 255) x.epoch st)) rfl hx hs ?_ ?_
    · have hgo : ¬ ((!(x.p0.linked || x.p1.linked) || x.lastStatus.any (fun c => !(s.advance dt).elapsed c (us 48))) = true) := by
        have : x.p0.linked || x.p1.linked := by
          cases port
          · exact Bool.or_eq_true_iff.2 (.inl hlinked)
          · exact Bool.or_eq_true_iff.2 (.inr hlinked)
        simp [this, hlast]
      refine (if_neg hgo).trans ?_
      rw [hy, hst]
      exact State.statusOut_one hother hlinked _ fun p => statusPacket (p == x.aPort) (x.pos.getD 255) x.epoch _
    · have hyport : (y.port port).linked = (x.port port).linked := by rw [hy]; cases port <;> rfl
      have htile : tabGet? (((s.advance dt).setTile k y).packet (tileKey k port) "STATUS"
          (statusPacket (port == x.aPort) (x.pos.getD 255) x.epoch st)).tiles k = some y := by
        rw [hside.link.tiles]
        exact tabGet?_tabSet_self ..
      have hsent (hfree : (s.advance dt).linkFree (tileKey k port) = true) := State.packet_tile_sent (kind := "STATUS")
        (bs := statusPacket (port == x.aPort) (x.pos.getD 255) x.epoch st)
        ((State.linkFree_setTile (s := s.advance dt) hx hyport).trans hfree)
      have hkept : y.seq = (x.seq + 1) % 65536 ∧ y.newInc = false ∧ y.lastStatus = some (s.clk + dt) := by rw [hy, hst]; exact ⟨rfl, rfl, rfl⟩
      rw [hst] at hside hsent htile ⊢
      generalize ((s.advance dt).setTile k y).packet (tileKey k port) "STATUS" _ = u at *
      refine ⟨?_, hside.rd, sameHold_of_hold hside.link.hold, hsent⟩
      exact (congrArg _ htile).trans (by rw [Option.map_some, hkept.1, hkept.2.1, hkept.2.2])
  case refine_2 =>
    exact completes_portLinked hx hs hun
  case refine_3 =>
    have hport : x.port (!port) = x.port (!port) := rfl
    have hfree' (h : (s.advance dt).linkFree (tileKey k port) = true) := State.passOn_sent (kind := "DISCOVER") (bs := discoverPacket toward (hops - 1) from_)
      (s := s.advance dt) (y := x.hear (!port) (s.clk + dt)) (p := port) hx (by rw [Tile.hear, Tile.port_setPort_not]) h
    have hside := (TileSide.refl (s.advance dt)).passOn k (x.hear (!port) (s.clk + dt)) (!port) "DISCOVER" (discoverPacket toward (hops - 1) from_)
    refine completes_tile (u := ((s.advance dt).passOn k (x.hear (!port) (s.clk + dt)) (!port) "DISCOVER" (discoverPacket toward (hops - 1) from_)).setTile k
      (x.hear (!port) (s.clk + dt))) rfl hx hs ?_ ?_
    · exact (if_neg (by simp [tileKeeps_good hkeep])).trans ((if_neg (by simp [hkeep])).trans (if_pos hhops))
    · have h3 := hside.setTile_map k (y := x.hear (!port) (s.clk + dt)) (f := (·.epoch)) (v := x.epoch) (by cases port <;> rfl)
      exact ⟨h3.1, h3.2.1, h3.2.2, hfree'⟩
  case refine_4 =>
    obtain ⟨p0, p1, hr⟩ : ∃ p0 p1, x.hear port (s.clk + dt) = { x with p0 := p0, p1 := p1 } := x.setPort_rest port _
    have hside := tileSide_tileKey (.refl (s.advance dt)) k port "DESCRIPTOR" (descriptorPacket (!toward) (x.epoch + 1) x.info.desc)
    refine completes_tile (u := ((s.advance dt).packet (tileKey k port) "DESCRIPTOR" (descriptorPacket (!toward) (x.epoch + 1) x.info.desc)).setTile k
      { x with p0 := p0, p1 := p1, epoch := x.epoch + 1, needDiscovery := false }) rfl hx hs ?_ ?_
    · refine (if_neg (by simp [tileKeeps_good hkeep])).trans ((if_neg (by simp [hkeep])).trans ((if_neg (Nat.lt_irrefl 0)).trans ?_))
      have hclk : (s.advance dt).clk = s.clk + dt := rfl
      rw [hclk, hr]
      simp only [hneed, if_neg (Nat.ne_of_lt hepoch), ↓reduceIte]
    · obtain ⟨h1, h2, h3⟩ := hside.setTile_map k (y := { x with p0 := p0, p1 := p1, epoch := x.epoch + 1, needDiscovery := false })
        (f := fun y => (y.epoch, y.needDiscovery)) rfl
      exact ⟨h1, h2, h3, State.packet_tile_sent⟩
  case refine_5 =>
    obtain ⟨p0, p1, hr⟩ : ∃ p0 p1, x.hear port (s.clk + dt) = { x with p0 := p0, p1 := p1 } := x.setPort_rest port _
    have hclk : (s.advance dt).clk = s.clk + dt := rfl
    refine completes_tile (u := (s.advance dt).setTile k { x with p0 := p0, p1 := p1, pos := some pos, posEpoch := x.epoch, chainLen := len, conflict := x.conflict && x.posEpoch == x.epoch, aPort := if toward then !port else port }) rfl hx hs ?_ ?_
    · refine (if_neg (by simp [tileKeeps_good hkeep])).trans ((if_neg (by simp [hkeep])).trans ((if_neg (Nat.lt_irrefl 0)).trans ?_))
      rw [hclk, hr]
      exact (if_neg (by simp)).trans (if_neg (by simp [hpos]))
    · obtain ⟨h1, h2, h3⟩ := (TileSide.refl (s.advance dt)).setTile_map k (f := fun y => (y.pos, y.posEpoch, y.chainLen, y.aPort)) rfl
      exact ⟨h1, rfl, h2, h3⟩
  case refine_6 =>
    obtain ⟨p0, p1, hr⟩ : ∃ p0 p1, x.hear port (s.clk + dt) = { x with p0 := p0, p1 := p1 } := x.setPort_rest port _
    have hclk : (s.advance dt).clk = s.clk + dt := rfl
    refine (completesTile (y := { x with p0 := p0, p1 := p1, conflict := true }) rfl hx hs (.refl (s.advance dt)) ?_).map rfl
    refine (if_neg (by simp [tileKeeps_good hkeep])).trans ((if_neg (by simp [hkeep])).trans ((if_neg (Nat.lt_irrefl 0)).trans ?_))
    rw [hclk, hr]
    exact (if_neg (by simp)).trans (if_pos ⟨by simp [hpos], hpe, by simp [hpos]⟩)
  case refine_7 => 
    obtain ⟨p0, p1, hr⟩ : ∃ p0 p1, x.hear port (s.clk + dt) = { x with p0 := p0, p1 := p1 } := x.setPort_rest port _
    have hside := tileSide_tileKey (.refl ((s.advance dt).setTile k { x with p0 := p0, p1 := p1 })) k port "CAL_DATA"
      (calDataPacket (!toward) pos x.epoch off ((x.info.image.drop off).take n))
    have hclk : (s.advance dt).clk = s.clk + dt := rfl
    have hone : ceilDiv n 8192 = 1 := by rw [ceilDiv]; omega
    refine completes_tile (u := ((s.advance dt).setTile k { x with p0 := p0, p1 := p1 }).packet (tileKey k port) "CAL_DATA"
      (calDataPacket (!toward) pos x.epoch off ((x.info.image.drop off).take n))) rfl hx hs ?_ ?_
    · dsimp only
      rw [State.passOn_unlinked hother]
      refine (if_neg (by simp [tileKeeps_good hkeep])).trans ?_
      rw [hclk, hr]
      refine (if_neg (by simp [hpos, hkeep])).trans ((if_neg (by simp)).trans ((if_neg (Nat.not_lt.2 hfit)).trans ?_))
      rw [hone]
      simp [Nat.min_eq_right hn']
    · have hyport : (({ x with p0 := p0, p1 := p1 } : Tile).port port).linked = (x.port port).linked := by
        rw [← hr, Tile.hear, Tile.port_setPort]
      have hsent (hfree : (s.advance dt).linkFree (tileKey k port) = true) := State.packet_tile_sent (kind := "CAL_DATA")
        (bs := calDataPacket (!toward) pos x.epoch off ((x.info.image.drop off).take n))
        ((State.linkFree_setTile (s := s.advance dt) (y := { x with p0 := p0, p1 := p1 }) hx hyport).trans hfree)
      generalize ((s.advance dt).setTile k { x with p0 := p0, p1 := p1 }).packet (tileKey k port) "CAL_DATA" _ = u at *
      exact ⟨hside.rd, sameHold_of_hold hside.link.hold, hsent⟩
  case refine_8 =>
    refine completes_tile (u := (s.advance dt).setTile k (x.hear port (s.clk + dt))) rfl hx hs ?_ ?_
    · dsimp only
      rw [State.passOn_unlinked hother]
      refine (if_neg (by simp [tileKeeps_good hkeep])).trans ?_
      obtain ⟨p0, p1, hr⟩ : ∃ p0 p1, x.hear port (s.clk + dt) = { x with p0 := p0, p1 := p1 } := x.setPort_rest port _
      have hclk : (s.advance dt).clk = s.clk + dt := rfl
      rw [hclk, hr]
      exact (if_neg (by simp [hpos, hkeep])).trans ((if_neg (by simp)).trans (if_pos hover))
    · exact ⟨rfl, fun _ => rfl, fun _ => rfl⟩
  case refine_9 =>
    obtain ⟨p0, p1, hr⟩ : ∃ p0 p1, x.hear port (s.clk + dt) = { x with p0 := p0, p1 := p1 } := x.setPort_rest port _
    refine (completesTile (y := { x with p0 := p0, p1 := p1, snaps := [(id, ofLedger at64)] }) rfl hx hs (.refl (s.advance dt)) ?_).map rfl
    dsimp only
    rw [State.passOn_unlinked hother]
    have hclk : (s.advance dt).clk = s.clk + dt := rfl
    refine (if_neg (by simp [tileKeeps_good hkeep])).trans ((if_neg ?_).trans ?_)
    · rw [not_or, not_le]
      exact ⟨by simp [hkeep], hat⟩
    · rw [hclk, hr, hs]
      rfl
  case refine_10 =>
    refine completes_tile (u := (s.advance dt).setTile k (x.setPort port { x.port port with asleep := true, refreshed := s.clk + dt })) rfl hx hs ?_ ?_
    · exact congrArg (fun u : State => u.setTile k _) (State.passBlocks_unlinked hother _ k _ _)
    · obtain ⟨h1, h2, h3⟩ := (TileSide.refl (s.advance dt)).setTile_map k
        (y := x.setPort port { x.port port with asleep := true, refreshed := s.clk + dt })
        (f := fun y => ((y.port port).asleep, (y.port port).refreshed)) (by rw [Tile.port_setPort])
      exact ⟨h1, rfl, h2, h3⟩
  case refine_11 =>
    refine completes_tile (u := (s.advance dt).setTile k (x.setPort port { x.port port with asleep := false })) rfl hx hs
      (if_pos ⟨hasleep, decide_eq_true hlong⟩) ?_
    obtain ⟨h1, h2, h3⟩ := (TileSide.refl (s.advance dt)).setTile_map k
      (y := x.setPort port { x.port port with asleep := false }) (f := fun y => (y.port port).asleep) (by rw [Tile.port_setPort])
    exact ⟨h1, rfl, h2, h3⟩

end Sys2Proof.Machine
end

section
/-! ### Sea trials, digests and mirrored inputs (R281 to R284) -/

namespace Sys2Proof.Machine

variable {s t u : State} {l g : Nat}

theorem State.rd_bump_ne (s : State) {a b : Nat} (h : b ≠ a) (h' : b ≠ a + 4) : (s.bump a).rd b = s.rd b := State.rd_setPair_ne _ _ h h'

theorem State.condClear_regs (s : State) (d i : Nat) : (s.condClear d i).regs = s.regs := by
  unfold State.condClear
  dsimp only
  split
  · split <;> rfl
  · rfl

/-- A report that ends for one detector's instance leaves the others. -/
theorem State.condClear_fltInst (s : State) {d i d' i' : Nat} (h : instKey d' i' ≠ instKey d i) :
    (s.condClear d i).fltInst d' i' = s.fltInst d' i' := by
  unfold State.condClear
  dsimp only
  split
  · split
    · exact congrArg (fun o : Option FltInst => o.getD {}) (tabGet?_tabSet_ne _ _ h)
    · rfl
  · rfl

/-! #### A lane that goes to HAIL leaves the twin's registers -/

theorem State.loadLatency_detsKept (s : State) {p : Nat} (hp : p < 64) (l : Nat) : DetsKept s (s.loadLatency p l) :=
  ((DetsKept.refl s).wn _ (by simp only [Reg.TIME_PORT_TXLAT]; omega)).wn _ (by simp only [Reg.TIME_PORT_RXLAT]; omega)

namespace DetsKept

theorem condClear (h : DetsKept s t) (d i : Nat) : DetsKept s (t.condClear d i) := h.trans (.of_regs (State.condClear_regs ..))

theorem setPair (h : DetsKept s t) {a : Nat} (n : Nat) (ha : a + 4 < 0x121000) : DetsKept s (t.setPair a n) :=
  (h.wn _ (by omega)).wn _ ha

theorem setLaneBit (h : DetsKept s t) (hl : l < 24) (i : Nat) (b : Bool) : DetsKept s (t.setLaneBit l i b) :=
  h.setFld _ _ _ (by simp only [Reg.LANE_STATE]; omega)

theorem regsSame (h : DetsKept s t) (hu : u.regs = t.regs) : DetsKept s u := h.trans (.of_regs hu)

theorem foldl {α : Type} {f : State → α → State} (h : DetsKept s t) (ls : List α) (hf : ∀ u, ∀ x ∈ ls, DetsKept u (f u x)) :
    DetsKept s (ls.foldl f t) :=
  List.foldlRecOn (motive := DetsKept s) ls f h fun _ hu x hx => hu.trans (hf _ x hx)

end DetsKept

/-! #### What a change of a lane's state does, in its parts -/

/-- The registers of the lane itself. -/
def State.laneStRegs (s : State) (l st : Nat) : State :=
  (((s.setFld (Reg.LANE_STATE l) 3 0 st).setFld Reg.LANE_LINKED l l (if st = 5 then 1 else 0)).setFld Reg.LANE_TEST_MAP l l
    (if st = 7 then 1 else 0)).setLaneBit l 10 (st == 2)

/-- The MAC that the lane carries. -/
def State.laneStMac (s : State) (l st was : Nat) : State :=
  if s.laneRole l = 1 then
    let m := s.fld (Reg.LANE_CFG l) 7 6
    let s := s.setFld (Reg.MAC_STAT m) 0 0 (if st = 5 then 1 else 0)
    let s := if st = 5 ∧ was ≠ 5 then s.loadLatency m l else s
    if st = 5 then (s.setFld (Reg.MAC_STAT m) 1 1 0).condClear 164 m else s
  else s

/-- A lane that leaves TEST. -/
def State.laneStTest (s : State) (l st was : Nat) : State := if st = 7 ∨ was ≠ 7 then s else s.condClear 102 l

/-- A lane that becomes LINKED, or ceases to be. -/
def State.laneStLink (s : State) (l st was : Nat) : State :=
  if st = 5 then
    let s := if was = 5 then s else
      (s.setPair (Reg.LANE_LINKED_AT l) s.now64).modLane l fun x => { x with linkedSince := some s.clk }
    let s := if s.laneRole l = 5 ∧ was ≠ 5 then
      { s with slk := { s.slk with credits := tabErase s.slk.credits (8 + l) } } else s
    let s := if s.flt.resets.any (·.1 == .lane l) then s.laneBack l else s
    let s := s.condClear 96 l
    if s.laneRate l = s.laneCfgRate l then s.condClear 97 l else s
  else if was = 5 then s.modLane l fun x => { x with linkedSince := none, downSince := s.clk } else s

theorem State.setLaneSt_eq (s : State) (l st : Nat) : s.setLaneSt l st =
    (((s.laneStRegs l st).laneStMac l st (s.laneSt l)).laneStTest l st (s.laneSt l)).laneStLink l st (s.laneSt l) := rfl

theorem State.laneStRegs_detsKept (s : State) (hl : l < 24) (st : Nat) : DetsKept s (s.laneStRegs l st) :=
  ((((DetsKept.refl s).setFld _ _ _ (by simp only [Reg.LANE_STATE]; omega)).setFld _ _ _ (by decide)).setFld _ _ _ (by decide)).setLaneBit hl _ _

theorem State.laneStMac_detsKept (s : State) (l st was : Nat) : DetsKept s (s.laneStMac l st was) := by
  have hm : s.fld (Reg.LANE_CFG l) 7 6 < 4 := bits_lt _ _ _
  have hreg : Reg.MAC_STAT (s.fld (Reg.LANE_CFG l) 7 6) < 0x121000 := by simp only [Reg.MAC_STAT]; omega
  unfold State.laneStMac
  dsimp only
  generalize s.fld (Reg.LANE_CFG l) 7 6 = m at hm hreg
  have h1 := (DetsKept.refl s).setFld (a := Reg.MAC_STAT m) 0 0 (if st = 5 then 1 else 0) hreg
  have h2 := DetsKept.ite (c := st = 5 ∧ was ≠ 5) (h1.trans (State.loadLatency_detsKept (p := m) _ (by omega) l)) h1
  exact .ite (.ite ((h2.setFld _ _ _ hreg).condClear _ _) h2) (.refl s)

theorem State.laneStLink_detsKept (s : State) (hl : l < 24) (st was : Nat) : DetsKept s (s.laneStLink l st was) := by
  have hreg : Reg.LANE_LINKED_AT l + 4 < 0x121000 := by simp only [Reg.LANE_LINKED_AT]; omega
  unfold State.laneStLink
  have h1 := DetsKept.ite (c := was = 5) (.refl s) (((DetsKept.refl s).setPair (a := Reg.LANE_LINKED_AT l) s.now64 hreg).regsSame
    (u := (s.setPair (Reg.LANE_LINKED_AT l) s.now64).modLane l fun x => { x with linkedSince := some s.clk }) rfl)
  refine .ite ?_ (.ite (.of_regs rfl) (.refl s))
  dsimp only
  generalize (if was = 5 then s else _ : State) = v at h1
  have h2 := DetsKept.ite (c := v.laneRole l = 5 ∧ was ≠ 5)
    (h1.regsSame (u := { v with slk := { v.slk with credits := tabErase v.slk.credits (8 + l) } }) rfl) h1
  generalize (if v.laneRole l = 5 ∧ was ≠ 5 then _ else v : State) = w at h2
  have h3 := DetsKept.ite (c := w.flt.resets.any (·.1 == .lane l) = true) (h2.regsSame (u := w.laneBack l) rfl) h2
  exact .ite ((h3.condClear _ _).condClear _ _) (h3.condClear _ _)

theorem State.setLaneSt_detsKept (s : State) (hl : l < 24) (st : Nat) : DetsKept s (s.setLaneSt l st) := by
  rw [State.setLaneSt_eq]
  have h := (s.laneStRegs_detsKept hl st).trans (State.laneStMac_detsKept _ l st (s.laneSt l))
  exact (DetsKept.ite h (h.condClear _ _)).trans (State.laneStLink_detsKept _ hl _ _)

theorem State.groupOf_lt (s : State) (l : Nat) : s.groupOf l < 4 := by
  have h : s.fld (Reg.LANE_CFG l) 11 10 < 4 := bits_lt _ _ _
  unfold State.groupOf
  dsimp only
  split
  · omega
  · split <;> omega

theorem State.dropExchanges_regs (s : State) (k : Nat) : (s.dropExchanges k).regs = s.regs := by
  unfold State.dropExchanges
  split
  · split
    · rfl
    · unfold State.measureBroken
      split <;> rfl
  · rfl

/-- What a group shows of its lanes. -/
def State.groupShow (s : State) (g : Nat) : State :=
  let ms := (s.inGroup g).map s.memberNo
  (s.setFld (Reg.SLK_GRP_STAT g) 11 8 (ms.foldl (fun a m => putBit a m true) 0)).setFld (Reg.SLK_GRP_STAT g) 20 19
    (if ms.isEmpty then 0 else ms.foldl min 3)

theorem State.groupSettle_eq (s : State) (g : Nat) : s.groupSettle g = s.groupShow g
    ∨ ∃ l, s.groupSettle g = ((s.groupShow g).loadLatency (5 + g) l).dropExchanges g := by
  unfold State.groupSettle
  dsimp only
  split
  · next l _ =>
    split
    · exact .inl rfl
    · exact .inr ⟨l, rfl⟩
  · exact .inl rfl

theorem State.groupShow_detsKept (s : State) (hg : g < 4) : DetsKept s (s.groupShow g) :=
  ((DetsKept.refl s).setFld _ _ _ (by simp only [Reg.SLK_GRP_STAT]; omega)).setFld _ _ _ (by simp only [Reg.SLK_GRP_STAT]; omega)

theorem State.groupSettle_detsKept (s : State) (hg : g < 4) : DetsKept s (s.groupSettle g) := by
  have hshow := s.groupShow_detsKept hg
  obtain h | ⟨l, h⟩ := s.groupSettle_eq g
  · exact h ▸ hshow
  · exact h ▸ (hshow.trans (State.loadLatency_detsKept _ (by omega) l)).regsSame (State.dropExchanges_regs ..)

theorem State.groupRemove_detsKept (s : State) (hl : l < 24) : DetsKept s (s.groupRemove l) := by
  unfold State.groupRemove
  refine .ite (.foldl ?_ _ fun u m _ => .of_regs (State.sendBlocks_sides ..).1) (.refl s)
  exact (((DetsKept.refl s).setLaneBit hl 13 false).regsSame
    (u := (s.setLaneBit l 13 false).modLane l fun x => { x with substSince := some s.clk, oneStep := true }) rfl).trans (State.groupSettle_detsKept _ (s.groupOf_lt l))

theorem State.enterHail_detsKept (s : State) (hl : l < 24) : DetsKept s (s.enterHail l) := by
  have h := (((s.groupRemove_detsKept hl).setFld (a := Reg.LANE_STATE l) 6 4 0 (by simp only [Reg.LANE_STATE]; omega)).trans
    (State.setLaneSt_detsKept _ hl 2)).setLaneBit hl 19 false |>.setLaneBit hl 9 false
  exact h.regsSame ((State.setTx_sides ..).1)

/-- A lane that goes to HAIL lets no time pass. -/
theorem State.clk_ite {c : Prop} [Decidable c] {n : Nat} (h : t.clk = n) (k : u.clk = n) : (if c then t else u).clk = n := by
  split
  · exact h
  · exact k

theorem State.condClear_clk (s : State) (d i : Nat) : (s.condClear d i).clk = s.clk := by
  obtain ⟨_, _, _, h, -⟩ := condClear_faultSide s d i
  rw [h]

theorem State.loadLatency_clk (s : State) (p l : Nat) : (s.loadLatency p l).clk = s.clk :=
  (State.wn_clk ..).trans (State.wn_clk ..)

theorem State.groupShow_clk (s : State) (g : Nat) : (s.groupShow g).clk = s.clk :=
  (State.setFld_clk ..).trans (State.setFld_clk ..)

theorem State.groupSettle_clk (s : State) (g : Nat) : (s.groupSettle g).clk = s.clk := by
  have hdrop (u : State) (k : Nat) : (u.dropExchanges k).clk = u.clk := by
    unfold State.dropExchanges
    split
    · split
      · rfl
      · unfold State.measureBroken
        split <;> rfl
    · rfl
  obtain h | ⟨l, h⟩ := s.groupSettle_eq g
  · rw [h, State.groupShow_clk]
  · rw [h, hdrop, State.loadLatency_clk, State.groupShow_clk]

theorem State.groupRemove_clk (s : State) (l : Nat) : (s.groupRemove l).clk = s.clk := by
  unfold State.groupRemove
  refine State.clk_ite ?_ rfl
  refine List.foldlRecOn (motive := fun u : State => u.clk = s.clk) _ _ (State.groupSettle_clk ..) fun u hu m _ => ?_
  exact (sendBlocks_linkSide ..).clk.trans hu

theorem State.laneStMac_clk (s : State) (l st was : Nat) : (s.laneStMac l st was).clk = s.clk := by
  unfold State.laneStMac
  dsimp only
  generalize s.fld (Reg.LANE_CFG l) 7 6 = m
  split
  · generalize hv : (if st = 5 ∧ was ≠ 5 then _ else _ : State) = v
    have hclk : v.clk = s.clk := by
      rw [← hv]
      exact State.clk_ite ((State.loadLatency_clk ..).trans (State.setFld_clk ..)) (State.setFld_clk ..)
    exact State.clk_ite ((State.condClear_clk ..).trans ((State.setFld_clk ..).trans hclk)) hclk
  · rfl

theorem State.laneStRegs_clk (s : State) (l st : Nat) : (s.laneStRegs l st).clk = s.clk :=
  (State.setFld_clk ..).trans ((State.setFld_clk ..).trans ((State.setFld_clk ..).trans (State.setFld_clk ..)))

theorem State.setLaneSt_hail_clk (s : State) (l : Nat) : (s.setLaneSt l 2).clk = s.clk := by
  have hmac := ((s.laneStRegs l 2).laneStMac_clk l 2 (s.laneSt l)).trans (State.laneStRegs_clk ..)
  have htest : (((s.laneStRegs l 2).laneStMac l 2 (s.laneSt l)).laneStTest l 2 (s.laneSt l)).clk = s.clk :=
    State.clk_ite hmac ((State.condClear_clk ..).trans hmac)
  rw [State.setLaneSt_eq]
  generalize ((s.laneStRegs l 2).laneStMac l 2 (s.laneSt l)).laneStTest l 2 (s.laneSt l) = v at htest
  rw [State.laneStLink, if_neg (by decide)]
  exact State.clk_ite htest htest

theorem State.modLane_clk (s : State) (l : Nat) (f : Lane → Lane) : (s.modLane l f).clk = s.clk := rfl

theorem State.enterHail_clk (s : State) (l : Nat) : (s.enterHail l).clk = s.clk := by
  have h := (State.setLaneSt_hail_clk ((s.groupRemove l).setFld (Reg.LANE_STATE l) 6 4 0) l).trans
    ((State.setFld_clk ..).trans (State.groupRemove_clk s l))
  unfold State.enterHail
  rw [(setTx_linkSide ..).clk]
  generalize ((s.groupRemove l).setFld (Reg.LANE_STATE l) 6 4 0).setLaneSt l 2 = v at h ⊢
  exact (State.modLane_clk ..).trans ((State.setFld_clk ..).trans ((State.setFld_clk ..).trans h))

/-! #### ELIGIBLE and the trial's result -/

theorem State.bit_setFld_same (s : State) {a i v : Nat} (h : i < 32) : bit ((s.setFld a i i v).rn a) i = v.testBit 0 := by
  rw [bit, s.rn_setFld_self (Nat.le_refl i) h, testBit_putBits i (Nat.le_refl i), if_neg (by omega), Nat.sub_self]

theorem State.bit_setFld_beside (s : State) {a i hi lo v : Nat} (h : lo ≤ hi) (hw : hi < 32) (hne : i < lo ∨ hi < i) :
    bit ((s.setFld a hi lo v).rn a) i = bit (s.rn a) i := by
  rw [bit, s.rn_setFld_self h hw, testBit_putBits i h, if_pos hne]
  rfl

theorem State.eligible_setFld (s : State) {hi lo v : Nat} (h : lo ≤ hi) (hw : hi < 32) (hne : 2 < lo ∨ hi < 2) :
    (s.setFld Reg.TWIN_STAT hi lo v).eligible = s.eligible := s.bit_setFld_beside h hw hne

/-- ELIGIBLE and the twin's record of it. -/
theorem State.setEligible_spec (s : State) (b : Bool) : (s.setEligible b).eligible = b ∧ RegsBut [Reg.TWIN_STAT] s (s.setEligible b)
    ∧ (s.setEligible b).hold = s.hold ∧ (∀ hi lo, hi < 2 ∨ 2 < lo → (s.setEligible b).fld Reg.TWIN_STAT hi lo = s.fld Reg.TWIN_STAT hi lo)
    ∧ ∃ e f, (s.setEligible b).twin = { s.twin with eligibleSince := e, everEligible := f } := by
  obtain ⟨v, hv, hregs, hhold, htwin⟩ : ∃ v : State, s.setEligible b = v.setFld Reg.TWIN_STAT 2 2 b.toNat ∧ v.regs = s.regs ∧ v.hold = s.hold
      ∧ ∃ e f, v.twin = { s.twin with eligibleSince := e, everEligible := f } := by
    refine ⟨_, rfl, ?_⟩
    split
    · exact ⟨rfl, rfl, _, _, rfl⟩
    · exact ⟨rfl, rfl, s.twin.eligibleSince, s.twin.everEligible, rfl⟩
  have hrd (a : Nat) : v.rd a = s.rd a := by rw [State.rd, State.rd, hregs]
  rw [hv]
  refine ⟨?_, fun a ha => (State.rd_wr_ne _ _ (by simpa using ha)).trans (hrd a), hhold, fun hi lo hne => ?_, htwin⟩
  · rw [State.eligible, State.bit_setFld_same _ (by decide)]
    cases b <;> rfl
  · rw [State.fld_setFld_beside _ (by decide) (by decide) hne, State.fld, State.rn, hrd]
    rfl

/-- A sea trial that starts. -/
theorem State.trialStart_spec (h : s.twinOn = true) : s.trialStart.fld Reg.TWIN_STAT 11 9 = 1 ∧ s.trialStart.eligible = false
    ∧ s.trialStart.twin.trialStart = some s.clk ∧ s.trialStart.twin.trialFailAt = none ∧ RegsBut [Reg.TWIN_STAT] s s.trialStart
    ∧ s.trialStart.hold = s.hold := by
  obtain ⟨v, hv⟩ : ∃ v, v = s.setEligible false := ⟨_, rfl⟩
  obtain ⟨hel, hregs, hhold, -, -⟩ := s.setEligible_spec false
  have heq : s.trialStart = { v.setFld Reg.TWIN_STAT 11 9 1 with twin := { s.twin with trialStart := some s.clk, trialFailAt := none } } :=
    hv ▸ if_pos h
  rw [← hv] at hel hregs hhold
  rw [heq]
  exact ⟨v.fld_setFld_fits (by decide) (by decide) (by decide), (v.eligible_setFld (by decide) (by decide) (by decide)).trans hel, rfl, rfl,
    hregs.setFld (by simp) _ _ _, hhold⟩

/-- The state in which a trial's result is taken: the trial ended, and the lanes that are not linked sent to HAIL. -/
def State.trialEnded (s : State) : State :=
  { s with
    twin := { s.twin with trialStart := none }
    flt := { s.flt with resets := s.flt.resets.filter fun e => decide (s.clk < e.2) } }

def State.hailUnlinked (s : State) : State := (s.trialLanes.filter fun l => !s.linked l).foldl State.enterHail s

/-- A trial that passes. -/
def State.trialPass (s : State) : State :=
  let s := (s.setFld Reg.TWIN_STAT 11 9 2).condClear 151 0
  if s.twin.heldDown = 2 then s
  else
    let s := { s with twin := { s.twin with heldDown := 0 } }
    if (s.fltInst 152 0).cond then s else s.setEligible true

/-- A trial that fails, and what it reports. -/
def State.trialFailed (s : State) (code : Nat) : State :=
  let s := (s.setFld Reg.TWIN_STAT 11 9 code).bump Reg.TWIN_TRIAL_FAIL
  { s with twin := { s.twin with trialFailAt := some s.clk } }

def State.trialFails (s : State) (code : Nat) : State := (s.trialFailed code).raiseOnce 151 0 code

def State.trialEnds (s : State) (holdOk loopOk canvasOk : Bool) : State :=
  if s.fld Reg.TWIN_STAT 11 9 = 1 then
    if holdOk && (loopOk && s.trialLinksOk) && canvasOk then s.trialEnded.hailUnlinked.trialPass
    else s.trialEnded.hailUnlinked.trialFails (if !holdOk then 3 else if !(loopOk && s.trialLinksOk) then 4 else 5)
  else s

theorem State.trialPass_spec (hheld : s.twin.heldDown ≤ 1) (hcond : (s.fltInst 152 0).cond = false) :
    s.trialPass.fld Reg.TWIN_STAT 11 9 = 2 ∧ s.trialPass.eligible = true ∧ s.trialPass.twin.trialStart = s.twin.trialStart
      ∧ RegsBut [Reg.TWIN_STAT] s s.trialPass ∧ s.trialPass.hold = s.hold := by
  obtain ⟨v, hv⟩ : ∃ v, v = (s.setFld Reg.TWIN_STAT 11 9 2).condClear 151 0 := ⟨_, rfl⟩
  have hregs : v.regs = (s.setFld Reg.TWIN_STAT 11 9 2).regs := hv ▸ State.condClear_regs ..
  have htwin : v.twin = s.twin := hv ▸ State.condClear_twin ..
  have hhold : v.hold = s.hold := hv ▸ State.condClear_hold ..
  have hfc : (v.fltInst 152 0).cond = false := by
    rw [hv, State.condClear_fltInst _ (by decide)]
    exact hcond
  obtain ⟨w, hw, hwregs, hwhold, hwtwin⟩ : ∃ w : State, s.trialPass = w.setEligible true ∧ w.regs = v.regs ∧ w.hold = v.hold
      ∧ w.twin.trialStart = v.twin.trialStart := by
    refine ⟨{ v with twin := { v.twin with heldDown := 0 } }, ?_, rfl, rfl, rfl⟩
    have hne : ¬ v.twin.heldDown = 2 := by rw [htwin]; omega
    unfold State.trialPass
    dsimp only
    rw [← hv, if_neg hne]
    exact if_neg (by rw [show (State.fltInst { v with twin := { v.twin with heldDown := 0 } } 152 0) = v.fltInst 152 0 from rfl, hfc]; decide)
  obtain ⟨hel, hb, hh, hf, e, f, ht⟩ := w.setEligible_spec true
  have hrd (a : Nat) : w.rd a = (s.setFld Reg.TWIN_STAT 11 9 2).rd a := by rw [State.rd, State.rd, hwregs, hregs]
  rw [hw]
  refine ⟨?_, hel, by rw [ht, ← htwin]; exact hwtwin, fun a ha => (hb a ha).trans ((hrd a).trans (State.rd_wr_ne _ _ (by simpa using ha))),
    hh.trans (hwhold.trans hhold)⟩
  rw [hf 11 9 (by decide), State.fld, State.rn, hrd]
  exact s.fld_setFld_fits (by decide) (by decide) (by decide)

theorem FaultSide.fld (h : FaultSide s t) {a : Nat} (hi lo : Nat) (ha : faultReg a = false) : t.fld a hi lo = s.fld a hi lo := by
  rw [State.fld, h.rn ha]; rfl

theorem FaultSide.eligible (h : FaultSide s t) : t.eligible = s.eligible := by
  rw [State.eligible, h.rn (by decide)]; rfl

theorem State.trialFails_spec {code : Nat} (hcode : code < 8) (h151 : s.logOnly 151 = true) :
    (s.trialFails code).fld Reg.TWIN_STAT 11 9 = code ∧ (s.trialFails code).eligible = s.eligible
      ∧ (s.trialFails code).twin.trialFailAt = some s.clk
      ∧ (s.trialFails code).pair Reg.TWIN_TRIAL_FAIL = min (s.pair Reg.TWIN_TRIAL_FAIL + 1) (2 ^ 64 - 1)
      ∧ (s.trialFails code).hold = s.hold := by
  obtain ⟨w, hw⟩ : ∃ w, w = s.setFld Reg.TWIN_STAT 11 9 code := ⟨_, rfl⟩
  have hwrd (a : Nat) (ha : a ≠ Reg.TWIN_STAT) : w.rd a = s.rd a := by rw [hw]; exact State.rd_wr_ne _ _ ha
  have hwpair : w.pair Reg.TWIN_TRIAL_FAIL = s.pair Reg.TWIN_TRIAL_FAIL := by
    rw [State.pair, State.rn, State.rn, hwrd _ (by decide), hwrd _ (by decide)]
    rfl
  obtain ⟨v, hv, hregs, hhold, htwin⟩ : ∃ v : State, v = s.trialFailed code ∧ v.regs = (w.bump Reg.TWIN_TRIAL_FAIL).regs ∧ v.hold = s.hold
      ∧ v.twin.trialFailAt = some s.clk := ⟨_, rfl, by rw [hw]; rfl, rfl, rfl⟩
  have hrd (a : Nat) : v.rd a = (w.bump Reg.TWIN_TRIAL_FAIL).rd a := by rw [State.rd, State.rd, hregs]
  have hlog : v.logOnly 151 = true := by
    refine (State.logOnly_congr (s := s) ?_).trans h151
    rw [hrd, State.rd_bump_ne _ (by decide) (by decide), hwrd _ (by decide)]
  have hf := raiseOnce_faultSide v 151 0 code hlog
  have hstat : v.rn Reg.TWIN_STAT = w.rn Reg.TWIN_STAT := by rw [State.rn, hrd, State.rd_bump_ne _ (by decide) (by decide)]; rfl
  have hpair : v.pair Reg.TWIN_TRIAL_FAIL = min (s.pair Reg.TWIN_TRIAL_FAIL + 1) (2 ^ 64 - 1) := by
    rw [State.pair, State.rn, State.rn, hrd, hrd, ← hwpair]
    exact w.pair_bumpBy _ 1
  rw [State.trialFails, ← hv]
  refine ⟨?_, ?_, hf.twin ▸ htwin, (hf.pair (by decide) (by decide)).trans hpair, hf.hold.trans hhold⟩
  · rw [hf.fld _ _ (by decide), State.fld, hstat, hw]
    exact s.fld_setFld_fits (by decide) (by decide) hcode
  · rw [hf.eligible, State.eligible, hstat, hw]
    exact s.eligible_setFld (by decide) (by decide) (by decide)

/-- The lanes that a trial's end sends to HAIL leave the twin. -/
theorem State.hailUnlinked_spec (s : State) : DetsKept s s.hailUnlinked ∧ s.hailUnlinked.hold = s.hold ∧ s.hailUnlinked.clk = s.clk := by
  refine List.foldlRecOn (motive := fun v : State => DetsKept s v ∧ v.hold = s.hold ∧ v.clk = s.clk) _ _ ⟨.refl s, rfl, rfl⟩ fun v hv l hl => ?_
  have hlt : l < 24 := rangeFilter_lt (List.mem_of_mem_filter hl)
  exact ⟨hv.1.trans (v.enterHail_detsKept hlt), (State.enterHail_hold ..).trans hv.2.1, (v.enterHail_clk l).trans hv.2.2⟩

/-- With every lane of the trial linked none goes to HAIL. -/
theorem State.hailUnlinked_none (h : (s.trialLanes.all fun l => s.linked l) = true) : s.hailUnlinked = s := by
  have hnone : (s.trialLanes.filter fun l => !s.linked l) = [] := by
    rw [List.filter_eq_nil_iff]
    intro l hl
    simp [List.all_eq_true.1 h l hl]
  rw [State.hailUnlinked, hnone]
  rfl

/-! #### The twin's digest (R283) -/

/-- The digest of the twin has been read. -/
def State.digestTake (s : State) (digest : Nat) : State :=
  ({ s with twin := { s.twin with digestDue := false } }).setPair Reg.TWIN_PEER_DIGEST digest

def State.digestSame (s : State) : State :=
  let s := (s.setFld Reg.TWIN_STAT 7 7 1).condClear 152 0
  if s.fld Reg.TWIN_STAT 11 9 = 2 ∧ s.twin.heldDown = 0 then s.setEligible true else s

def State.digestDiffers (s : State) : State :=
  let s := if s.role = 1 then s else s.setEligible false
  (s.setFld Reg.TWIN_STAT 7 7 0).raiseOnce 152 0

theorem State.digestSame_spec (s : State) : s.digestSame.fld Reg.TWIN_STAT 7 7 = 1 ∧ RegsBut [Reg.TWIN_STAT] s s.digestSame
    ∧ s.digestSame.hold = s.hold ∧ s.digestSame.twin.digestDue = s.twin.digestDue := by
  obtain ⟨v, hv⟩ : ∃ v, v = (s.setFld Reg.TWIN_STAT 7 7 1).condClear 152 0 := ⟨_, rfl⟩
  have hregs : v.regs = (s.setFld Reg.TWIN_STAT 7 7 1).regs := hv ▸ State.condClear_regs ..
  have htwin : v.twin = s.twin := hv ▸ State.condClear_twin ..
  have hhold : v.hold = s.hold := hv ▸ State.condClear_hold ..
  have hrd (a : Nat) : v.rd a = (s.setFld Reg.TWIN_STAT 7 7 1).rd a := by rw [State.rd, State.rd, hregs]
  have hfld : v.fld Reg.TWIN_STAT 7 7 = 1 := by
    rw [State.fld, State.rn, hrd]
    exact s.fld_setFld_fits (by decide) (by decide) (by decide)
  have hbut : RegsBut [Reg.TWIN_STAT] s v := fun a ha => (hrd a).trans (State.rd_wr_ne _ _ (by simpa using ha))
  obtain ⟨-, hb, hh, hf, e, f, ht⟩ := v.setEligible_spec true
  have heq : s.digestSame = if v.fld Reg.TWIN_STAT 11 9 = 2 ∧ v.twin.heldDown = 0 then v.setEligible true else v := by rw [hv]; rfl
  rw [heq]
  split
  · exact ⟨(hf 7 7 (by decide)).trans hfld, fun a ha => (hb a ha).trans (hbut a ha), hh.trans hhold, by rw [ht, ← htwin]⟩
  · exact ⟨hfld, hbut, hhold, by rw [htwin]⟩

theorem State.digestDiffers_spec (hrole : s.role = 2) (h152 : s.logOnly 152 = true) :
    s.digestDiffers.fld Reg.TWIN_STAT 7 7 = 0 ∧ s.digestDiffers.eligible = false
      ∧ s.digestDiffers.pair Reg.TWIN_PEER_DIGEST = s.pair Reg.TWIN_PEER_DIGEST ∧ s.digestDiffers.hold = s.hold := by
  obtain ⟨hel, hb, hh, -, -⟩ := s.setEligible_spec false
  obtain ⟨v, hv⟩ : ∃ v, v = s.setEligible false := ⟨_, rfl⟩
  rw [← hv] at hel hb hh
  have hbut : RegsBut [Reg.TWIN_STAT] s (v.setFld Reg.TWIN_STAT 7 7 0) := hb.setFld (by simp) _ _ _
  have heq : s.digestDiffers = (v.setFld Reg.TWIN_STAT 7 7 0).raiseOnce 152 0 := by
    rw [hv]
    exact congrArg (fun u : State => (u.setFld Reg.TWIN_STAT 7 7 0).raiseOnce 152 0) (if_neg (by rw [hrole]; decide))
  have hf := raiseOnce_faultSide (v.setFld Reg.TWIN_STAT 7 7 0) 152 0 0 ((State.logOnly_congr (hbut _ (by decide))).trans h152)
  rw [heq]
  refine ⟨?_, ?_, ?_, hf.hold.trans hh⟩
  · rw [hf.fld _ _ (by decide)]
    exact v.fld_setFld_fits (by decide) (by decide) (by decide)
  · rw [hf.eligible, v.eligible_setFld (by decide) (by decide) (by decide), hel]
  · rw [hf.pair (by decide) (by decide), State.pair, State.rn, State.rn, hbut _ (by decide), hbut _ (by decide)]
    rfl

/-! #### Mirrored inputs (R284) -/

/-- A mirrored input has been kept, or its ambient target taken: the Escort is mirrored. -/
def State.mirrorShown (s : State) : State := (s.setFld Reg.TWIN_STAT 8 8 1).condClear 153 0

theorem State.mirrorShown_spec (s : State) : s.mirrorShown.fld Reg.TWIN_STAT 8 8 = 1 ∧ s.mirrorShown.twin = s.twin
    ∧ RegsBut [Reg.TWIN_STAT] s s.mirrorShown ∧ s.mirrorShown.hold = s.hold := by
  have hregs : s.mirrorShown.regs = (s.setFld Reg.TWIN_STAT 8 8 1).regs := State.condClear_regs ..
  have hrd (a : Nat) : s.mirrorShown.rd a = (s.setFld Reg.TWIN_STAT 8 8 1).rd a := by rw [State.rd, State.rd, hregs]
  refine ⟨?_, State.condClear_twin .., fun a ha => (hrd a).trans (State.rd_wr_ne _ _ (by simpa using ha)), State.condClear_hold ..⟩
  rw [State.fld, State.rn, hrd]
  exact s.fld_setFld_fits (by decide) (by decide) (by decide)

/-- A mirrored ambient target sets the target and the ramp's tally. -/
theorem State.ambientMirror_spec {tal target : Nat} (hon : bit (s.rn Reg.CAL_AMB_CFG) 0 = true) (ht : target < 2 ^ 32) (hk : tal < 2 ^ 32) :
    (s.ambientMirror tal target).rn Reg.CAL_BRIGHT_TARGET = target ∧ (s.ambientMirror tal target).rn Reg.CAL_BRIGHT_EFF = tal
      ∧ (s.ambientMirror tal target).twin = s.twin ∧ (s.ambientMirror tal target).hold = s.hold
      ∧ RegsBut [Reg.TWIN_STAT, Reg.CAL_BRIGHT_TARGET, Reg.CAL_BRIGHT_EFF] s (s.ambientMirror tal target) := by
  obtain ⟨v, hv, hregs, htwin, hhold⟩ : ∃ v : State, s.ambientMirror tal target = v.wn Reg.CAL_BRIGHT_EFF tal
      ∧ v.regs = (s.wn Reg.CAL_BRIGHT_TARGET target).regs ∧ v.twin = s.twin ∧ v.hold = s.hold := ⟨_, if_pos hon, rfl, rfl, rfl⟩
  have hrd (a : Nat) : v.rd a = (s.wn Reg.CAL_BRIGHT_TARGET target).rd a := by rw [State.rd, State.rd, hregs]
  rw [hv]
  refine ⟨?_, ?_, htwin, hhold, fun a ha => ?_⟩
  · rw [State.rn_wn_ne _ _ (by decide), State.rn, hrd]
    exact (s.rn_wn_self _ _).trans (Nat.mod_eq_of_lt ht)
  · rw [State.rn_wn_self, Nat.mod_eq_of_lt hk]
  · obtain ⟨-, h1, h2⟩ : a ≠ Reg.TWIN_STAT ∧ a ≠ Reg.CAL_BRIGHT_TARGET ∧ a ≠ Reg.CAL_BRIGHT_EFF := by simpa using ha
    exact (State.rd_wr_ne _ _ h2).trans ((hrd a).trans (State.rd_wr_ne _ _ h1))

theorem exec_seaTrialComplete (dt : Nat) (h l c : Bool) (s : State) :
    exec (.seaTrialComplete dt h l c) s = act dt s fun u => u.trialEnds h l c := rfl

theorem State.digestTake_spec {digest : Nat} (h : digest < 2 ^ 64) :
    (s.digestTake digest).pair Reg.TWIN_PEER_DIGEST = digest ∧ (s.digestTake digest).pair Reg.TWIN_DIGEST = s.pair Reg.TWIN_DIGEST
      ∧ RegsBut [Reg.TWIN_PEER_DIGEST, Reg.TWIN_PEER_DIGEST + 4] s (s.digestTake digest) := by
  have hb : RegsBut [Reg.TWIN_PEER_DIGEST, Reg.TWIN_PEER_DIGEST + 4] s (s.digestTake digest) := fun a ha => by
    obtain ⟨h1, h2⟩ : a ≠ Reg.TWIN_PEER_DIGEST ∧ a ≠ Reg.TWIN_PEER_DIGEST + 4 := by simpa using ha
    exact State.rd_setPair_ne _ _ h1 h2
  refine ⟨(State.pair_setPair _ _ _).trans (Nat.mod_eq_of_lt h), ?_, hb⟩
  rw [State.pair, State.rn, State.rn, hb _ (by decide), hb _ (by decide)]
  rfl

/-- What comes of the digest read. -/
def State.digestChecked (s : State) (digest : Nat) : State :=
  if s.twinOn ∧ s.twin.digestDue then
    if (s.digestTake digest).pair Reg.TWIN_PEER_DIGEST = (s.digestTake digest).pair Reg.TWIN_DIGEST then (s.digestTake digest).digestSame
    else (s.digestTake digest).digestDiffers
  else s

theorem exec_digestCheck (dt digest : Nat) (s : State) : exec (.digestCheck dt digest) s = act dt s fun u => u.digestChecked digest := rfl

/-- Settles O44, command by command. -/
theorem seaTrialAndMirror : Obligations.SeaTrialAndMirror := by
  unfold Obligations.SeaTrialAndMirror
  intro dt tal dig c lok cok m req g s hcore hlog hon
  have hon' : (s.advance dt).twinOn = true := hon
  have hlog' (e : Nat) (he : e ∈ [151, 152, 153]) : (s.advance dt).logOnly e = true := hlog e he
  refine ⟨fun hnone => ?_, fun hnot => ?_, fun hruns => ?_, fun hruns hheld hcond hlinks hall => ?_, fun hruns => ?_, fun hfail hlong => ?_,
    fun hdue hdig => ?_, fun hdue hlt hne hrole => ?_, fun hrole hm => ?_, fun hrole hamb hdig htal => ?_, fun hrole => ?_,
    fun hrole hg hempty => ?_⟩
  case refine_1 =>
    obtain ⟨h1, h2, h3, -, h4, h5⟩ := State.trialStart_spec hon'
    refine completes_eq rfl hcore (if_pos (.inl hnone)) ?_
    generalize (s.advance dt).trialStart = u at *
    exact ⟨h1, h2, h3, h4, sameHold_of_hold h5⟩
  case refine_2 =>
    obtain ⟨h1, h2, -, -, h4, h5⟩ := State.trialStart_spec
      (s := { s.advance dt with twin := { s.twin with heldDown := min 1 s.twin.heldDown } }) hon'
    refine completes_eq rfl hcore (if_neg hnot) ?_
    exact ⟨h1, h2, h4, sameHold_of_hold h5⟩
  case refine_3 =>
    refine completes_eq rfl hcore (if_pos hruns) ?_
    exact ⟨rfl, State.pair_accErr (s.advance dt) req Reg.TWIN_CMD true false,
      State.regsBut_accErr (s.advance dt) req Reg.TWIN_CMD true false _ (by decide), State.sameHold_accErr (s.advance dt) req Reg.TWIN_CMD true false⟩
  case refine_4 =>
    have hdo : (s.advance dt).trialEnds true true true = (s.advance dt).trialEnded.trialPass := by
      rw [State.trialEnds, if_pos (by exact hruns), if_pos (by simp [hlinks]), State.hailUnlinked_none (s := (s.advance dt).trialEnded) hall]
    obtain ⟨h1, h2, h3, h4, h5⟩ := State.trialPass_spec (s := (s.advance dt).trialEnded) hheld hcond
    refine completes_eq (exec_seaTrialComplete ..) hcore hdo ?_
    generalize (s.advance dt).trialEnded.trialPass = u at *
    exact ⟨h1, h2, h3, h4, sameHold_of_hold h5⟩
  case refine_5 =>
    obtain ⟨w, hw⟩ : ∃ w, w = (s.advance dt).trialEnded.hailUnlinked := ⟨_, rfl⟩
    have hdo : (s.advance dt).trialEnds false lok cok = w.trialFails 3 := by
      rw [State.trialEnds, if_pos (by exact hruns), if_neg (by simp), hw]
      rfl
    obtain ⟨hd, hh, hclk⟩ := (s.advance dt).trialEnded.hailUnlinked_spec
    rw [← hw] at hd hh hclk
    obtain ⟨h1, h2, h3, h4, h5⟩ := State.trialFails_spec (s := w) (code := 3) (by decide)
      ((hd.logOnly 151).trans (hlog' 151 (by simp)))
    have hel : w.eligible = s.eligible := by
      rw [State.eligible, State.rn, hd.rd _ (by decide)]
      rfl
    have hpair : w.pair Reg.TWIN_TRIAL_FAIL = s.pair Reg.TWIN_TRIAL_FAIL := by
      rw [State.pair, State.rn, State.rn, hd.rd _ (by decide), hd.rd _ (by decide)]
      rfl
    rw [hpair] at h4
    refine completes_eq (exec_seaTrialComplete ..) hcore hdo ?_
    generalize w.trialFails 3 = u at *
    exact ⟨h1, h2.trans hel, h3.trans (congrArg some hclk), h4, sameHold_of_hold (h5.trans hh)⟩
  case refine_6 =>
    obtain ⟨h1, -, -, h2, -, h5⟩ := State.trialStart_spec hon'
    have hdo : (match (s.advance dt).twin.trialFailAt with
        | some c => if (s.advance dt).elapsed c (sec 60) then (s.advance dt).trialStart else s.advance dt
        | none => s.advance dt) = (s.advance dt).trialStart := by
      rw [show (s.advance dt).twin.trialFailAt = some c from hfail]
      exact if_pos (decide_eq_true hlong)
    refine completes_eq rfl hcore hdo ?_
    generalize (s.advance dt).trialStart = u at *
    exact ⟨h1, h2, sameHold_of_hold h5⟩
  case refine_7 =>
    obtain ⟨h1, h2, h3⟩ := State.digestTake_spec (s := s.advance dt) (digest := dig) (hdig ▸ Nat.lt_of_le_pred (by decide) (s.pair_le _))
    have hdo : (s.advance dt).digestChecked dig = ((s.advance dt).digestTake dig).digestSame :=
      (if_pos ⟨hon', hdue⟩).trans (if_pos (by rw [h1, h2, hdig]; rfl))
    obtain ⟨k1, k2, k3, k4⟩ := ((s.advance dt).digestTake dig).digestSame_spec
    have hpair : ((s.advance dt).digestTake dig).digestSame.pair Reg.TWIN_PEER_DIGEST = dig := by
      rw [State.pair, State.rn, State.rn, k2 _ (by decide), k2 _ (by decide)]
      exact h1
    refine completes_eq (exec_digestCheck ..) hcore hdo ?_
    have hregs : RegsBut [Reg.TWIN_STAT, Reg.TWIN_PEER_DIGEST, Reg.TWIN_PEER_DIGEST + 4] s ((s.advance dt).digestTake dig).digestSame :=
      fun a ha => by
        obtain ⟨n1, n2⟩ : a ≠ Reg.TWIN_STAT ∧ a ∉ [Reg.TWIN_PEER_DIGEST, Reg.TWIN_PEER_DIGEST + 4] := List.ne_and_not_mem_of_not_mem_cons ha
        exact (k2 a (by simpa using n1)).trans (h3 a n2)
    have hhold : ((s.advance dt).digestTake dig).digestSame.hold = s.hold := k3
    have hd : ((s.advance dt).digestTake dig).digestSame.twin.digestDue = false := k4
    generalize ((s.advance dt).digestTake dig).digestSame = u at *
    exact ⟨hd, k1, hpair, hregs, sameHold_of_hold hhold⟩
  case refine_8 =>
    obtain ⟨h1, h2, h3⟩ := State.digestTake_spec (s := s.advance dt) (digest := dig) hlt
    have hdo : (s.advance dt).digestChecked dig = ((s.advance dt).digestTake dig).digestDiffers :=
      (if_pos ⟨hon', hdue⟩).trans (if_neg (by rw [h1, h2]; exact hne))
    have hr : ((s.advance dt).digestTake dig).role = 2 := by
      rw [State.role, State.fld, State.rn, h3 _ (by decide)]
      exact hrole
    obtain ⟨k1, k2, k3, k4⟩ := State.digestDiffers_spec hr ((State.logOnly_congr (h3 _ (by decide))).trans (hlog' 152 (by simp)))
    have hhold : ((s.advance dt).digestTake dig).digestDiffers.hold = s.hold := k4
    rw [h1] at k3
    refine completes_eq (exec_digestCheck ..) hcore hdo ?_
    generalize ((s.advance dt).digestTake dig).digestDiffers = u at *
    exact ⟨k1, k2, k3, sameHold_of_hold hhold⟩
  case refine_9 =>
    obtain ⟨h1, h2, h3, h4⟩ := State.mirrorShown_spec
      { s.advance dt with twin := { s.twin with mirrored := s.twin.mirrored ++ [(tal, m)] } }
    refine completes_eq (u := State.mirrorShown { s.advance dt with twin := { s.twin with mirrored := s.twin.mirrored ++ [(tal, m)] } })
      rfl hcore ((if_pos hrole).trans ?_) ?_
    · cases m with
      | ambient _ => cases hm
      | _ => rfl
    · generalize State.mirrorShown _ = u at *
      exact ⟨congrArg TwinState.mirrored h2, h1, h3, sameHold_of_hold h4⟩
  case refine_10 =>
    obtain ⟨a1, a2, a3, a4, a5⟩ := State.ambientMirror_spec (s := s.advance dt) hamb hdig htal
    obtain ⟨h1, h2, h3, h4⟩ := ((s.advance dt).ambientMirror tal dig).mirrorShown_spec
    refine completes_eq (u := ((s.advance dt).ambientMirror tal dig).mirrorShown) rfl hcore (if_pos hrole) ?_
    have ht : ((s.advance dt).ambientMirror tal dig).mirrorShown.rn Reg.CAL_BRIGHT_TARGET = dig := by
      rw [State.rn, h3 _ (by decide)]; exact a1
    have he : ((s.advance dt).ambientMirror tal dig).mirrorShown.rn Reg.CAL_BRIGHT_EFF = tal := by
      rw [State.rn, h3 _ (by decide)]; exact a2
    have hregs : RegsBut [Reg.TWIN_STAT, Reg.CAL_BRIGHT_TARGET, Reg.CAL_BRIGHT_EFF] s ((s.advance dt).ambientMirror tal dig).mirrorShown :=
      fun a ha => (h3 a (by simp only [List.mem_cons, not_or] at ha ⊢; exact ⟨ha.1, by simp⟩)).trans (a5 a ha)
    have htwin := h2.trans a3
    have hhold := h4.trans a4
    generalize ((s.advance dt).ambientMirror tal dig).mirrorShown = u at *
    exact ⟨ht, he, htwin, hregs, sameHold_of_hold hhold⟩
  case refine_11 => exact completes_eq rfl hcore (if_neg hrole) ⟨rfl, fun _ => rfl, fun _ => rfl⟩
  case refine_12 =>
    have hdown : (s.advance dt).heartbeatUp = false := by
      have hg' : (s.advance dt).fld Reg.TWIN_CFG 2 1 = g.val + 1 := hg
      have he' : ((s.advance dt).inGroup g).isEmpty = true := hempty
      rw [State.heartbeatUp]
      simp [hg', List.isEmpty_iff.1 he']
    have hf := raiseOnce_faultSide ((s.advance dt).setFld Reg.TWIN_STAT 8 8 0) 153 0 0
      ((State.logOnly_congr (State.rd_wr_ne _ _ (by decide))).trans (hlog' 153 (by simp)))
    have hbit : (((s.advance dt).setFld Reg.TWIN_STAT 8 8 0).raiseOnce 153 0).fld Reg.TWIN_STAT 8 8 = 0 := by
      rw [hf.fld _ _ (by decide)]
      exact (s.advance dt).fld_setFld_fits (by decide) (by decide) (by decide)
    have htwin := hf.twin
    have hhold := hf.hold
    refine completes_eq rfl hcore (if_pos ⟨hrole, hdown⟩) ?_
    generalize ((s.advance dt).setFld Reg.TWIN_STAT 8 8 0).raiseOnce 153 0 = u at *
    exact ⟨hbit, htwin, sameHold_of_hold hhold⟩

end Sys2Proof.Machine
end

section
/-! ### The twin: role changes (Table 09.3) -/

namespace Sys2Proof.Machine

variable {s t u : State} {l g : Nat}

/-- What a change of role begins with: the role, its rule and its time. -/
def State.roleStart (s : State) (rule : Nat) : State :=
  ((s.setFld Reg.TWIN_STAT 1 0 (if decide (rule ≤ 4) then 1 else 2)).setFld Reg.TWIN_STAT 15 12 rule).setPair Reg.TWIN_CHANGE_AT
    ((s.setFld Reg.TWIN_STAT 1 0 (if decide (rule ≤ 4) then 1 else 2)).setFld Reg.TWIN_STAT 15 12 rule).now64

/-- A promotion counts, and takes the next epoch. -/
def State.rolePromote (s : State) : State :=
  let e := max (s.rn Reg.TWIN_EPOCH) (s.rn Reg.TWIN_PEER_EPOCH) + 1
  let s := ((s.bump Reg.TWIN_PROMOTE).wn Reg.TWIN_EPOCH e).wn (Reg.KEEP_LOG 6) e
  { s with twin := { s.twin with promotedAt := s.clk } }

/-- A demotion counts, and one by a rule from 8 on ends eligibility. -/
def State.roleDemote (s : State) (rule : Nat) : State :=
  let s := s.bump Reg.TWIN_DEMOTE
  let s := if 5 ≤ rule ∧ rule ≤ 7 then s.bump Reg.TWIN_DOUBLE else s
  if 8 ≤ rule then
    let s := s.setEligible false
    { s with twin := { s.twin with heldDown := max s.twin.heldDown (rule - 7) } }
  else s

/-- The logbook's check, and what yields to the other end. -/
def State.roleEnd (s : State) (rule : Nat) : State :=
  let s := s.wr (Reg.KEEP_LOG 63) (crc32c ((s.rdWords (Reg.KEEP_LOG 0) 63).flatMap (leBytes 4)))
  let s := s.oredSettle.dmxYield
  (s.notify 0x10 0 0 [s.role, rule, s.rn Reg.TWIN_EPOCH]).send "ROLE" 0 [s.role, rule, s.rn Reg.TWIN_EPOCH]

theorem State.roleChange_eq (s : State) (rule : Nat) : s.roleChange rule =
    (if decide (rule ≤ 4) then (s.roleStart rule).rolePromote else (s.roleStart rule).roleDemote rule).roleEnd rule := rfl

/-- Lamps and DMX that yield leave the twin and what stands above the fault block. -/
theorem State.oredSettle_detsKept (s : State) : DetsKept s s.oredSettle := by
  refine .foldl (.refl s) _ fun u g hg => ?_
  have hg : g < 32 := List.mem_range.1 hg
  refine .ite (.foldl ?_ _ fun v k _ => ?_) (.refl u)
  · exact (DetsKept.refl u).setFld _ _ _ (by simp only [Reg.LAMP_GRP_STAT]; omega)
  · have hp : v.fld (Reg.LAMP_GRP_PORTS g) (5 * k + 4) (5 * k) < 32 :=
      Nat.lt_of_lt_of_le (bits_lt _ _ _) (Nat.pow_le_pow_right (by decide : 2 > 0) (show _ ≤ 5 by omega))
    dsimp only
    generalize v.fld (Reg.LAMP_GRP_PORTS g) (5 * k + 4) (5 * k) = p at hp
    have hset (n : Nat) : DetsKept v (v.setFld (Reg.LAMP_PORT_STAT p) 2 0 n) :=
      (DetsKept.refl v).setFld _ _ _ (by simp only [Reg.LAMP_PORT_STAT]; omega)
    exact .ite (.ite ((hset _).regsSame rfl) (hset _)) (.ite (hset 4) (.refl v))

theorem State.roleEnd_spec (s : State) (rule : Nat) : (s.roleEnd rule).twin = s.twin ∧ (s.roleEnd rule).hold = s.hold
    ∧ ∀ a, 0x121000 ≤ a → a ≠ Reg.KEEP_LOG 63 → (s.roleEnd rule).rd a = s.rd a := by
  obtain ⟨v, hv⟩ : ∃ v, v = s.wr (Reg.KEEP_LOG 63) (crc32c ((s.rdWords (Reg.KEEP_LOG 0) 63).flatMap (leBytes 4))) := ⟨_, rfl⟩
  obtain ⟨w, hw⟩ : ∃ w, w = v.oredSettle.dmxYield := ⟨_, rfl⟩
  have heq : s.roleEnd rule = (w.notify 0x10 0 0 [w.role, rule, w.rn Reg.TWIN_EPOCH]).send "ROLE" 0 [w.role, rule, w.rn Reg.TWIN_EPOCH] := by
    rw [hw, hv]; rfl
  have hyield (u : State) : u.dmxYield.regs = u.regs := by
    unfold State.dmxYield
    dsimp only
    split <;> rfl
  rw [heq]
  refine ⟨?_, ?_, fun a ha hne => ?_⟩
  · show w.twin = s.twin
    rw [hw, State.dmxYield_twin, State.oredSettle_twin, hv, State.wr_twin]
  · show w.hold = s.hold
    rw [hw, State.dmxYield_hold, State.oredSettle_hold, hv, State.wr_hold]
  · show w.rd a = s.rd a
    rw [hw, State.rd, hyield, ← State.rd, v.oredSettle_detsKept.rd a ha, hv]
    exact State.rd_wr_ne _ _ hne

/-- A promotion: what it counts and takes. -/
theorem State.rolePromote_spec (he : max (s.rn Reg.TWIN_EPOCH) (s.rn Reg.TWIN_PEER_EPOCH) + 1 < 2 ^ 32) :
    s.rolePromote.rn Reg.TWIN_EPOCH = max (s.rn Reg.TWIN_EPOCH) (s.rn Reg.TWIN_PEER_EPOCH) + 1
      ∧ s.rolePromote.pair Reg.TWIN_PROMOTE = min (s.pair Reg.TWIN_PROMOTE + 1) (2 ^ 64 - 1)
      ∧ s.rolePromote.twin.promotedAt = s.clk ∧ s.rolePromote.hold = s.hold
      ∧ RegsBut [Reg.TWIN_PROMOTE, Reg.TWIN_PROMOTE + 4, Reg.TWIN_EPOCH, Reg.KEEP_LOG 6] s s.rolePromote := by
  obtain ⟨e, hdef⟩ : ∃ e, e = max (s.rn Reg.TWIN_EPOCH) (s.rn Reg.TWIN_PEER_EPOCH) + 1 := ⟨_, rfl⟩
  obtain ⟨v, hv⟩ : ∃ v, v = s.bump Reg.TWIN_PROMOTE := ⟨_, rfl⟩
  have hrd (a : Nat) : s.rolePromote.rd a = ((v.wn Reg.TWIN_EPOCH e).wn (Reg.KEEP_LOG 6) e).rd a := by rw [hv, hdef]; rfl
  rw [← hdef] at he ⊢
  refine ⟨?_, ?_, ?_, ?_, fun a ha => ?_⟩
  · rw [State.rn, hrd]
    exact (State.rn_wn_ne _ _ (by decide)).trans ((State.rn_wn_self ..).trans (Nat.mod_eq_of_lt he))
  · rw [State.pair, State.rn, State.rn, hrd, hrd, ← State.rn, ← State.rn, State.rn_wn_ne _ _ (by decide), State.rn_wn_ne _ _ (by decide),
      State.rn_wn_ne _ _ (by decide), State.rn_wn_ne _ _ (by decide), hv]
    exact s.pair_bumpBy _ 1
  · unfold State.rolePromote
    simp only [State.wn_clk, State.bump_clk]
  · unfold State.rolePromote
    simp only [State.wn_hold, State.bump_hold]
  · simp only [List.mem_cons, List.not_mem_nil, or_false, not_or] at ha
    rw [hrd]
    exact (State.rd_wr_ne _ _ ha.2.2.2).trans ((State.rd_wr_ne _ _ ha.2.2.1).trans (hv ▸ s.rd_bump_ne ha.1 ha.2.1))

/-- What a demotion writes beside the eligibility. -/
def demoteRegs : List Nat := [Reg.TWIN_DEMOTE, Reg.TWIN_DEMOTE + 4, Reg.TWIN_DOUBLE, Reg.TWIN_DOUBLE + 4]

/-- A demotion by a rule from 5 to 7 counts, twice. -/
theorem State.roleDemote_double {rule : Nat} (h5 : 5 ≤ rule) (h7 : rule ≤ 7) :
    (s.roleDemote rule).pair Reg.TWIN_DEMOTE = min (s.pair Reg.TWIN_DEMOTE + 1) (2 ^ 64 - 1)
      ∧ (s.roleDemote rule).pair Reg.TWIN_DOUBLE = min (s.pair Reg.TWIN_DOUBLE + 1) (2 ^ 64 - 1)
      ∧ (s.roleDemote rule).hold = s.hold ∧ RegsBut demoteRegs s (s.roleDemote rule) := by
  obtain ⟨v, hv⟩ : ∃ v, v = s.bump Reg.TWIN_DEMOTE := ⟨_, rfl⟩
  have heq : s.roleDemote rule = v.bump Reg.TWIN_DOUBLE := by
    unfold State.roleDemote
    exact (if_neg (by omega)).trans ((if_pos ⟨h5, h7⟩).trans (by rw [hv]))
  have hdouble : v.pair Reg.TWIN_DOUBLE = s.pair Reg.TWIN_DOUBLE := by
    rw [State.pair, State.rn, State.rn, hv, s.rd_bump_ne (by decide) (by decide), s.rd_bump_ne (by decide) (by decide)]
    rfl
  rw [heq]
  refine ⟨?_, ?_, ?_, fun a ha => ?_⟩
  · rw [State.pair, State.rn, State.rn, v.rd_bump_ne (by decide) (by decide), v.rd_bump_ne (by decide) (by decide), hv]
    exact s.pair_bumpBy _ 1
  · rw [← hdouble]
    exact v.pair_bumpBy _ 1
  · rw [State.bump_hold, hv, State.bump_hold]
  · simp only [demoteRegs, List.mem_cons, List.not_mem_nil, or_false, not_or] at ha
    exact (v.rd_bump_ne ha.2.2.1 ha.2.2.2).trans (hv ▸ s.rd_bump_ne ha.1 ha.2.1)

/-- A stand-down ends eligibility. -/
theorem State.roleDemote_standDown : (s.roleDemote 9).eligible = false ∧ (s.roleDemote 9).hold = s.hold
    ∧ RegsBut (Reg.TWIN_STAT :: demoteRegs) s (s.roleDemote 9)
    ∧ ∀ hi lo, hi < 2 ∨ 2 < lo → (s.roleDemote 9).fld Reg.TWIN_STAT hi lo = s.fld Reg.TWIN_STAT hi lo := by
  obtain ⟨v, hv⟩ : ∃ v, v = s.bump Reg.TWIN_DEMOTE := ⟨_, rfl⟩
  have hvrd (a : Nat) (h1 : a ≠ Reg.TWIN_DEMOTE) (h2 : a ≠ Reg.TWIN_DEMOTE + 4) : v.rd a = s.rd a := hv ▸ s.rd_bump_ne h1 h2
  obtain ⟨hel, hb, hh, hf, -⟩ := v.setEligible_spec false
  obtain ⟨hregs, hhold⟩ : (s.roleDemote 9).regs = (v.setEligible false).regs ∧ (s.roleDemote 9).hold = (v.setEligible false).hold := by
    rw [hv]; exact ⟨rfl, rfl⟩
  have hrd (a : Nat) : (s.roleDemote 9).rd a = (v.setEligible false).rd a := by rw [State.rd, State.rd, hregs]
  refine ⟨?_, ?_, fun a ha => ?_, fun hi lo h => ?_⟩
  · rw [State.eligible, State.rn, hrd]
    exact hel
  · rw [hhold, hh, hv, State.bump_hold]
  · simp only [demoteRegs, List.mem_cons, List.not_mem_nil, or_false, not_or] at ha
    exact (hrd a).trans ((hb a (by simp [ha.1])).trans (hvrd a ha.2.1 ha.2.2.1))
  · have h2 := hf hi lo h
    rw [State.fld, State.rn, hrd]
    refine h2.trans ?_
    rw [State.fld, State.rn, hvrd _ (by decide) (by decide)]
    rfl

/-- The role and its rule, at the start of a change. -/
theorem State.roleStart_spec {rule : Nat} (h : rule < 16) :
    (s.roleStart rule).fld Reg.TWIN_STAT 1 0 = (if rule ≤ 4 then 1 else 2) ∧ (s.roleStart rule).fld Reg.TWIN_STAT 15 12 = rule
      ∧ (s.roleStart rule).pair Reg.TWIN_CHANGE_AT = s.now64 % 2 ^ 64 ∧ (s.roleStart rule).hold = s.hold
      ∧ (s.roleStart rule).clk = s.clk ∧ RegsBut [Reg.TWIN_STAT, Reg.TWIN_CHANGE_AT, Reg.TWIN_CHANGE_AT + 4] s (s.roleStart rule) := by
  obtain ⟨r, hr, hlt⟩ : ∃ r, r = (if decide (rule ≤ 4) then 1 else 2) ∧ r < 4 := ⟨_, rfl, by split <;> decide⟩
  obtain ⟨v, hv⟩ : ∃ v, v = s.setFld Reg.TWIN_STAT 1 0 r := ⟨_, rfl⟩
  obtain ⟨w, hw⟩ : ∃ w, w = v.setFld Reg.TWIN_STAT 15 12 rule := ⟨_, rfl⟩
  have heq : s.roleStart rule = w.setPair Reg.TWIN_CHANGE_AT w.now64 := by rw [hw, hv, hr]; rfl
  have hnow : w.now64 = s.now64 := by
    have ht : w.time = s.time := by rw [hw, hv, State.setFld_time, State.setFld_time]
    rw [State.now64, State.ns, ht]
    rfl
  have hstat (hi lo : Nat) : (s.roleStart rule).fld Reg.TWIN_STAT hi lo = w.fld Reg.TWIN_STAT hi lo := by
    rw [heq, State.fld, State.rn, State.rd_setPair_ne _ _ (by decide) (by decide)]
    rfl
  refine ⟨?_, ?_, ?_, ?_, ?_, fun a ha => ?_⟩
  · rw [hstat, hw, State.fld_setFld_beside _ (by decide) (by decide) (by decide), hv, State.fld_setFld_fits _ (by decide) (by decide) hlt, hr]
    simp
  · rw [hstat, hw, State.fld_setFld_fits _ (by decide) (by decide) h]
  · rw [heq, State.pair_setPair, hnow]
  · rw [heq, State.setPair_hold, hw, State.setFld_hold, hv, State.setFld_hold]
  · rw [heq, State.setPair_clk, hw, State.setFld_clk, hv, State.setFld_clk]
  · simp only [List.mem_cons, List.not_mem_nil, or_false, not_or] at ha
    rw [heq, State.rd_setPair_ne _ _ ha.2.1 ha.2.2, hw, hv]
    exact (State.rd_wr_ne _ _ ha.1).trans (State.rd_wr_ne _ _ ha.1)

/-- The reports of a change of role touch the fault block alone. -/
theorem State.changeRole_faultSide (s : State) (rule : Nat) (h148 : (s.roleChange rule).logOnly 148 = true)
    (h149 : (s.roleChange rule).logOnly 149 = true) : FaultSide (s.roleChange rule) (s.changeRole rule) := by
  have h1 := raise_faultSide (s.roleChange rule) 148 0 rule h148
  exact .ite (h1.trans (raise_faultSide _ 149 0 rule ((h1.logOnly 149 (by decide)).trans h149))) h1

/-- What a change of role reads of the twin's registers after it is what its two parts leave. -/
theorem State.changeRole_reads {v : State} {rule : Nat} (hv : s.roleChange rule = v.roleEnd rule)
    (h148 : v.logOnly 148 = true) (h149 : v.logOnly 149 = true) :
    (∀ a, faultReg a = false → 0x121000 ≤ a → (s.changeRole rule).rd a = v.rd a) ∧ (s.changeRole rule).twin = v.twin
      ∧ (s.changeRole rule).hold = v.hold := by
  obtain ⟨htwin, hhold, hrd⟩ := v.roleEnd_spec rule
  have hlog (d : Nat) (h : v.logOnly d = true) (hne : Reg.FLT_DET_CFG d ≠ Reg.KEEP_LOG 63) : (s.roleChange rule).logOnly d = true := by
    rw [hv]
    exact (State.logOnly_congr (hrd _ (by simp only [Reg.FLT_DET_CFG]; omega) hne)).trans h
  have hf := s.changeRole_faultSide rule (hlog 148 h148 (by decide)) (hlog 149 h149 (by decide))
  rw [hv] at hf
  refine ⟨fun a ha hlow => (hf.rd ha).trans (hrd a hlow fun e => ?_), hf.twin.trans htwin, hf.hold.trans hhold⟩
  rw [e] at ha
  exact absurd ha (by decide)

/-- A register of the twin is one that the reports leave. -/
theorem twinReg_kept {a : Nat} (h : 0x180000 ≤ a ∧ a < 0x181000) : faultReg a = false ∧ 0x121000 ≤ a := by
  constructor
  · simp only [faultReg, Bool.or_eq_false_iff, decide_eq_false_iff_not]
    omega
  · omega

/-- A role change that promotes. -/
theorem State.changeRole_promote (h148 : s.logOnly 148 = true) (h149 : s.logOnly 149 = true)
    (he : max (s.rn Reg.TWIN_EPOCH) (s.rn Reg.TWIN_PEER_EPOCH) + 1 < 2 ^ 32) :
    (s.changeRole 2).role = 1 ∧ (s.changeRole 2).fld Reg.TWIN_STAT 15 12 = 2
      ∧ (s.changeRole 2).rn Reg.TWIN_EPOCH = max (s.rn Reg.TWIN_EPOCH) (s.rn Reg.TWIN_PEER_EPOCH) + 1
      ∧ (s.changeRole 2).pair Reg.TWIN_PROMOTE = min (s.pair Reg.TWIN_PROMOTE + 1) (2 ^ 64 - 1) ∧ (s.changeRole 2).twin.promotedAt = s.clk
      ∧ (s.changeRole 2).pair Reg.TWIN_CHANGE_AT = s.now64 % 2 ^ 64 ∧ (s.changeRole 2).hold = s.hold := by
  obtain ⟨b1, b2, b3, b4, b5, b6⟩ := s.roleStart_spec (rule := 2) (by decide)
  obtain ⟨v, hv⟩ : ∃ v, v = s.roleStart 2 := ⟨_, rfl⟩
  rw [← hv] at b1 b2 b3 b4 b5 b6
  have hpromote : v.pair Reg.TWIN_PROMOTE = s.pair Reg.TWIN_PROMOTE := by
    rw [State.pair, State.rn, State.rn, b6 _ (by decide), b6 _ (by decide)]; rfl
  have hepoch : v.rn Reg.TWIN_EPOCH = s.rn Reg.TWIN_EPOCH := congrArg BitVec.toNat (b6 _ (by decide))
  have hpeer : v.rn Reg.TWIN_PEER_EPOCH = s.rn Reg.TWIN_PEER_EPOCH := congrArg BitVec.toNat (b6 _ (by decide))
  obtain ⟨p1, p2, p3, p4, p5⟩ := State.rolePromote_spec (s := v) (by rw [hepoch, hpeer]; exact he)
  rw [hepoch, hpeer] at p1
  rw [hpromote] at p2
  have hend : s.roleChange 2 = v.rolePromote.roleEnd 2 := by
    rw [State.roleChange_eq, hv]
    exact congrArg (fun u : State => u.roleEnd 2) (if_pos (by decide))
  obtain ⟨w, hw⟩ : ∃ w, w = v.rolePromote := ⟨_, rfl⟩
  rw [← hw] at p1 p2 p3 p4 p5 hend
  have hlog (d : Nat) (h : s.logOnly d = true) (h1 : Reg.FLT_DET_CFG d ∉ [Reg.TWIN_PROMOTE, Reg.TWIN_PROMOTE + 4, Reg.TWIN_EPOCH, Reg.KEEP_LOG 6])
      (h2 : Reg.FLT_DET_CFG d ∉ [Reg.TWIN_STAT, Reg.TWIN_CHANGE_AT, Reg.TWIN_CHANGE_AT + 4]) : w.logOnly d = true :=
    (State.logOnly_congr ((p5 _ h1).trans (b6 _ h2))).trans h
  obtain ⟨hrd, htwin, hhold⟩ := State.changeRole_reads hend (hlog 148 h148 (by decide) (by decide)) (hlog 149 h149 (by decide) (by decide))
  have hread (a : Nat) (h : 0x180000 ≤ a ∧ a < 0x181000) : (s.changeRole 2).rd a = w.rd a := hrd a (twinReg_kept h).1 (twinReg_kept h).2
  refine ⟨?_, ?_, ?_, ?_, htwin ▸ (p3.trans b5), ?_, hhold.trans (p4.trans b4)⟩
  · rw [State.role, State.fld, State.rn, hread _ (by decide), p5 _ (by decide)]
    exact b1
  · rw [State.fld, State.rn, hread _ (by decide), p5 _ (by decide)]
    exact b2
  · rw [State.rn, hread _ (by decide)]
    exact p1
  · rw [State.pair, State.rn, State.rn, hread _ (by decide), hread _ (by decide)]
    exact p2
  · rw [State.pair, State.rn, State.rn, hread _ (by decide), hread _ (by decide), p5 _ (by decide), p5 _ (by decide)]
    exact b3

/-- A role change that demotes by a rule of two Leads. -/
theorem State.changeRole_double {rule : Nat} (h5 : 5 ≤ rule) (h7 : rule ≤ 7) (h148 : s.logOnly 148 = true) (h149 : s.logOnly 149 = true) :
    (s.changeRole rule).role = 2 ∧ (s.changeRole rule).fld Reg.TWIN_STAT 15 12 = rule
      ∧ (s.changeRole rule).pair Reg.TWIN_DEMOTE = min (s.pair Reg.TWIN_DEMOTE + 1) (2 ^ 64 - 1)
      ∧ (s.changeRole rule).pair Reg.TWIN_DOUBLE = min (s.pair Reg.TWIN_DOUBLE + 1) (2 ^ 64 - 1) ∧ (s.changeRole rule).hold = s.hold := by
  obtain ⟨b1, b2, -, b4, -, b6⟩ := s.roleStart_spec (rule := rule) (by omega)
  obtain ⟨v, hv⟩ : ∃ v, v = s.roleStart rule := ⟨_, rfl⟩
  rw [← hv] at b1 b2 b4 b6
  have hpair (a : Nat) (h1 : a ∉ [Reg.TWIN_STAT, Reg.TWIN_CHANGE_AT, Reg.TWIN_CHANGE_AT + 4])
      (h2 : a + 4 ∉ [Reg.TWIN_STAT, Reg.TWIN_CHANGE_AT, Reg.TWIN_CHANGE_AT + 4]) : v.pair a = s.pair a := by
    rw [State.pair, State.rn, State.rn, b6 _ h1, b6 _ h2]; rfl
  obtain ⟨p1, p2, p3, p4⟩ := State.roleDemote_double (s := v) h5 h7
  rw [hpair _ (by decide) (by decide)] at p1 p2
  have hend : s.roleChange rule = (v.roleDemote rule).roleEnd rule := by
    rw [State.roleChange_eq, hv]
    exact congrArg (fun u : State => u.roleEnd rule) (if_neg (by simp; omega))
  obtain ⟨w, hw⟩ : ∃ w, w = v.roleDemote rule := ⟨_, rfl⟩
  rw [← hw] at p1 p2 p3 p4 hend
  have hlog (d : Nat) (h : s.logOnly d = true) (h1 : Reg.FLT_DET_CFG d ∉ demoteRegs)
      (h2 : Reg.FLT_DET_CFG d ∉ [Reg.TWIN_STAT, Reg.TWIN_CHANGE_AT, Reg.TWIN_CHANGE_AT + 4]) : w.logOnly d = true :=
    (State.logOnly_congr ((p4 _ h1).trans (b6 _ h2))).trans h
  obtain ⟨hrd, -, hhold⟩ := State.changeRole_reads hend (hlog 148 h148 (by decide) (by decide)) (hlog 149 h149 (by decide) (by decide))
  have hread (a : Nat) (h : 0x180000 ≤ a ∧ a < 0x181000) : (s.changeRole rule).rd a = w.rd a := hrd a (twinReg_kept h).1 (twinReg_kept h).2
  refine ⟨?_, ?_, ?_, ?_, hhold.trans (p3.trans b4)⟩
  · rw [State.role, State.fld, State.rn, hread _ (by decide), p4 _ (by decide)]
    exact b1.trans (if_neg (by omega))
  · rw [State.fld, State.rn, hread _ (by decide), p4 _ (by decide)]
    exact b2
  · rw [State.pair, State.rn, State.rn, hread _ (by decide), hread _ (by decide)]
    exact p1
  · rw [State.pair, State.rn, State.rn, hread _ (by decide), hread _ (by decide)]
    exact p2

/-- A role change that stands down. -/
theorem State.changeRole_standDown (h148 : s.logOnly 148 = true) (h149 : s.logOnly 149 = true) :
    (s.changeRole 9).role = 2 ∧ (s.changeRole 9).eligible = false ∧ (s.changeRole 9).fld Reg.TWIN_STAT 15 12 = 9
      ∧ (s.changeRole 9).hold = s.hold := by
  obtain ⟨b1, b2, -, b4, -, b6⟩ := s.roleStart_spec (rule := 9) (by decide)
  obtain ⟨v, hv⟩ : ∃ v, v = s.roleStart 9 := ⟨_, rfl⟩
  rw [← hv] at b1 b2 b4 b6
  obtain ⟨p1, p2, p3, p4⟩ := State.roleDemote_standDown (s := v)
  have hend : s.roleChange 9 = (v.roleDemote 9).roleEnd 9 := by
    rw [State.roleChange_eq, hv]
    exact congrArg (fun u : State => u.roleEnd 9) (if_neg (by decide))
  obtain ⟨w, hw⟩ : ∃ w, w = v.roleDemote 9 := ⟨_, rfl⟩
  rw [← hw] at p1 p2 p3 p4 hend
  have hlog (d : Nat) (h : s.logOnly d = true) (h1 : Reg.FLT_DET_CFG d ∉ Reg.TWIN_STAT :: demoteRegs)
      (h2 : Reg.FLT_DET_CFG d ∉ [Reg.TWIN_STAT, Reg.TWIN_CHANGE_AT, Reg.TWIN_CHANGE_AT + 4]) : w.logOnly d = true :=
    (State.logOnly_congr ((p3 _ h1).trans (b6 _ h2))).trans h
  obtain ⟨hrd, -, hhold⟩ := State.changeRole_reads hend (hlog 148 h148 (by decide) (by decide)) (hlog 149 h149 (by decide) (by decide))
  have hread : (s.changeRole 9).rd Reg.TWIN_STAT = w.rd Reg.TWIN_STAT := hrd _ (by decide) (by decide)
  refine ⟨?_, ?_, ?_, hhold.trans (p2.trans b4)⟩
  · rw [State.role, State.fld, State.rn, hread]
    exact (p4 1 0 (by decide)).trans b1
  · rw [State.eligible, State.rn, hread]
    exact p1
  · rw [State.fld, State.rn, hread]
    exact (p4 15 12 (by decide)).trans b2

end Sys2Proof.Machine
end

section
/-! ### The twin: heartbeats and the election (R273 to R280) -/

namespace Sys2Proof.Machine

variable {s t u : State} {l g : Nat}

/-! #### Sending -/

/-- A heartbeat is of the class that is never shed. -/
theorem heartbeatPacket_class (h : Heartbeat) : pkt (heartbeatPacket h) 1 1 / 32 = 7 := by
  have hb (type cls : Nat) (l : List Byte) : pkt (beBytes 1 type ++ beBytes 1 cls ++ l) 1 1 = cls % 256 := by
    simp [pkt, beBytes, leBytes, beNat]
  unfold heartbeatPacket slkPacket
  dsimp only
  simp only [List.append_assoc]
  rw [← List.append_assoc, hb]
  decide

theorem State.groupSend_heartbeat (s : State) (g : Nat) (h : Heartbeat) :
    s.groupSend g "HEARTBEAT" (heartbeatPacket h) = s.packet g "HEARTBEAT" (heartbeatPacket h) := by
  have hlt : s.fld (Reg.SLK_GRP_STAT g) 18 16 < 8 := bits_lt _ _ _
  unfold State.groupSend
  exact if_neg (by rw [heartbeatPacket_class]; omega)

/-- A link that is free has nothing ahead. -/
theorem State.txWait_idle {k : Nat} (h : s.txIdle k = true) (cls : Nat) : s.txWait k cls = 0 := by
  obtain ⟨hq, hf⟩ : (s.linkTx k).queue = [] ∧ (s.linkTx k).freeAt ≤ s.clk := by simpa [State.txIdle] using h
  rw [State.txWait, hq, Nat.sub_eq_zero_of_le hf]
  rfl

/-- A packet for a group stands behind what has left before. -/
theorem State.packet_group_out (s : State) {k : Nat} (hk : k < 3) (kind : String) (p : List Byte) :
    ∃ o, (s.packet k kind p).out = o ++ s.out := by
  rw [State.packet, State.packetAt, if_neg (by omega), if_pos hk]
  exact (LaneApart.enqueue (q := 0) (s.demandAdd k _ p) (by omega) (by decide) _).out

/-- A heartbeat's number and instant are noted, and it goes out on the bell. -/
def State.heartbeatNoted (s : State) : State :=
  { s with twin := { s.twin with hbSeq := (s.twin.hbSeq + 1) % 65536, hbAt := some (s.ns / 50000) } }

def State.heartbeatBell (s : State) (q : Nat) : State :=
  if bit (s.rn Reg.TWIN_CFG) 3 then s.send "BELL" 0 (bellFrame (s.ownHeartbeat q s.now64)) else s

/-- It goes out on the heartbeat group, if there is one. -/
def State.heartbeatGroup (s : State) (g q : Nat) : State :=
  if g = 0 then s else s.groupSend (g - 1) "HEARTBEAT" (heartbeatPacket (s.ownHeartbeat q (s.advance (s.txWait (g - 1) 7)).now64))

def State.heartbeatOut (s : State) : State :=
  if s.heartbeatDue then (s.heartbeatNoted.heartbeatBell ((s.twin.hbSeq + 1) % 65536)).heartbeatGroup (s.fld Reg.TWIN_CFG 2 1)
    ((s.twin.hbSeq + 1) % 65536)
  else s

theorem exec_heartbeatSend (dt : Nat) (s : State) : exec (.heartbeatSend dt) s = act dt s fun u => u.heartbeatOut := rfl

theorem State.advance_zero (s : State) : s.advance 0 = s := by
  simp [State.advance]

theorem State.heartbeatGroup_spec (s : State) {g : Nat} (hg : g < 4) (q : Nat) : (s.heartbeatGroup g q).twin = s.twin
    ∧ (s.heartbeatGroup g q).hold = s.hold ∧ (∃ o, (s.heartbeatGroup g q).out = o ++ s.out)
    ∧ ∀ c, g = c + 1 → s.linkFree c = true →
      (s.heartbeatGroup g q).sent.head? = some (.message "HEARTBEAT" c ((heartbeatPacket (s.ownHeartbeat q s.now64)).map (·.toNat))) := by
  unfold State.heartbeatGroup
  split
  · next h => exact ⟨rfl, rfl, ⟨[], rfl⟩, fun c hc => by omega⟩
  · next h =>
    rw [State.groupSend_heartbeat]
    have hside := packet_linkSide s (g - 1) "HEARTBEAT" (heartbeatPacket (s.ownHeartbeat q (s.advance (s.txWait (g - 1) 7)).now64))
    refine ⟨hside.twin, hside.hold, s.packet_group_out (by omega) .., fun c hc hfree => ?_⟩
    have hgc : g - 1 = c := by omega
    have hidle : s.txIdle c = true := by
      simp only [State.linkFree, Bool.and_eq_true] at hfree
      exact hfree.1.1
    rw [hgc, State.txWait_idle hidle, State.advance_zero, (State.packet_free hfree).1, linkPort, if_pos (by omega)]
    rfl

theorem State.heartbeatOut_spec {q : Nat} (hdue : s.heartbeatDue = true) (hbell : bit (s.rn Reg.TWIN_CFG) 3 = true)
    (hq : q = (s.twin.hbSeq + 1) % 65536) : s.heartbeatOut.twin.hbSeq = q ∧ s.heartbeatOut.twin.hbAt = some (s.ns / 50000)
      ∧ .message "BELL" 0 (bellFrame (s.ownHeartbeat q s.now64)) ∈ s.heartbeatOut.out ∧ s.heartbeatOut.hold = s.hold
      ∧ ∀ c, s.fld Reg.TWIN_CFG 2 1 = c + 1 → s.linkFree c = true →
        s.heartbeatOut.sent.head? = some (.message "HEARTBEAT" c ((heartbeatPacket (s.ownHeartbeat q s.now64)).map (·.toNat))) := by
  obtain ⟨v, hv⟩ : ∃ v, v = s.heartbeatNoted.send "BELL" 0 (bellFrame (s.ownHeartbeat q s.now64)) := ⟨_, rfl⟩
  have heq : s.heartbeatOut = v.heartbeatGroup (s.fld Reg.TWIN_CFG 2 1) q := by
    have hb : s.heartbeatNoted.heartbeatBell q = v := (if_pos hbell).trans hv.symm
    unfold State.heartbeatOut
    rw [if_pos hdue, ← hq, hb]
  obtain ⟨h1, h2, ⟨o, h3⟩, h4⟩ := v.heartbeatGroup_spec (g := s.fld Reg.TWIN_CFG 2 1) (bits_lt _ _ _) q
  rw [heq]
  refine ⟨by rw [h1, hv, hq]; rfl, by rw [h1, hv]; rfl, ?_, by rw [h2, hv]; rfl, fun c hc hfree => ?_⟩
  · rw [h3, hv]
    exact List.mem_append_right o List.mem_cons_self
  · have hfree' : v.linkFree c = true := by rw [hv]; exact hfree
    have hown : v.ownHeartbeat q v.now64 = s.ownHeartbeat q s.now64 := by rw [hv]; rfl
    rw [h4 c hc hfree', hown]

/-! #### Hearing -/

/-- What a valid heartbeat writes: the twin, its path, its epoch. -/
def State.heartbeatSeen (s : State) (bell : Bool) (h : Heartbeat) (tw : TwinState) : State :=
  { (s.wn Reg.TWIN_PEER h.sender).setFld Reg.TWIN_STAT (if bell then 4 else 3) (if bell then 4 else 3) 1 with twin := tw }

def State.pathsClear (s : State) (otherLost : Bool) : State :=
  if otherLost then s.condClear 147 0 else (s.condClear 146 0).condClear 147 0

theorem State.pathsClear_sides (s : State) (lost : Bool) : (s.pathsClear lost).regs = s.regs ∧ (s.pathsClear lost).twin = s.twin
    ∧ (s.pathsClear lost).hold = s.hold := by
  unfold State.pathsClear
  split
  · exact ⟨State.condClear_regs .., State.condClear_twin .., State.condClear_hold ..⟩
  · exact ⟨(State.condClear_regs ..).trans (State.condClear_regs ..), (State.condClear_twin ..).trans (State.condClear_twin ..),
      (State.condClear_hold ..).trans (State.condClear_hold ..)⟩

/-- The twin has been silent on both paths for 1 ms. -/
def State.twinSilent (s : State) : Bool :=
  [s.twin.hbGroup, s.twin.hbBell].all fun l => match l with
    | some (c, _) => s.elapsed c (ms 1)
    | none => true

/-- What a heartbeat that is taken comes to when the twin was not silent. -/
theorem State.heartbeatTaken_eq (s : State) (h : Heartbeat) (hs : s.twinSilent = false) :
    ∃ (tw : TwinState) (lost : Bool) (v : State), tw.hbGroup = some (s.clk, h.seq)
      ∧ v = ((s.heartbeatSeen false h tw).pathsClear lost).wn Reg.TWIN_PEER_EPOCH h.leadEpoch
      ∧ s.heartbeatTaken false h = if v.role = 1 ∧ h.role = 1 ∧ (v.rn Reg.TWIN_EPOCH < h.leadEpoch ∨
          (v.rn Reg.TWIN_EPOCH = h.leadEpoch ∧ h.sender < v.nodeId)) then v.changeRole 7 else v := by
  refine ⟨_, _, _, ?_, rfl, (if_neg (show ¬ s.twinSilent = true by rw [hs]; decide)).trans rfl⟩
  rfl

/-- The state in which a heartbeat has been heard on the group. -/
theorem State.heartbeatHeard_spec {h : Heartbeat} {tw : TwinState} {lost : Bool} {v : State} (hsender : h.sender < 2 ^ 32)
    (hv : v = ((s.heartbeatSeen false h tw).pathsClear lost).wn Reg.TWIN_PEER_EPOCH h.leadEpoch) :
    v.rn Reg.TWIN_PEER = h.sender ∧ v.fld Reg.TWIN_STAT 3 3 = 1 ∧ v.twin = tw ∧ v.hold = s.hold
      ∧ RegsBut [Reg.TWIN_PEER, Reg.TWIN_STAT, Reg.TWIN_PEER_EPOCH] s v
      ∧ ∀ hi lo, hi < 3 ∨ 3 < lo → v.fld Reg.TWIN_STAT hi lo = s.fld Reg.TWIN_STAT hi lo := by
  obtain ⟨hregs, htwin, hhold⟩ := (s.heartbeatSeen false h tw).pathsClear_sides lost
  obtain ⟨p, hp⟩ : ∃ p, p = s.wn Reg.TWIN_PEER h.sender := ⟨_, rfl⟩
  have hrd (a : Nat) (ha : a ≠ Reg.TWIN_PEER_EPOCH) : v.rd a = (p.setFld Reg.TWIN_STAT 3 3 1).rd a := by
    rw [hv, hp]
    refine (State.rd_wr_ne _ _ ha).trans ?_
    rw [State.rd, hregs]
    rfl
  have hpfld (hi lo : Nat) : p.fld Reg.TWIN_STAT hi lo = s.fld Reg.TWIN_STAT hi lo := by
    rw [hp, State.fld, State.rn_wn_ne _ _ (by decide)]
    rfl
  refine ⟨?_, ?_, ?_, ?_, fun a ha => ?_, fun hi lo hne => ?_⟩
  · rw [State.rn, hrd _ (by decide), ← State.rn, State.setFld, State.rn_wn_ne _ _ (by decide), hp, State.rn_wn_self, Nat.mod_eq_of_lt hsender]
  · rw [State.fld, State.rn, hrd _ (by decide)]
    exact p.fld_setFld_fits (by decide) (by decide) (by decide)
  · rw [hv, State.wn_twin, htwin]; rfl
  · rw [hv, State.wn_hold, hhold]; rfl
  · simp only [List.mem_cons, List.not_mem_nil, or_false, not_or] at ha
    rw [hrd a ha.2.2, hp]
    exact (State.rd_wr_ne _ _ ha.2.1).trans (State.rd_wr_ne _ _ ha.1)
  · rw [State.fld, State.rn, hrd _ (by decide)]
    exact (p.fld_setFld_beside (by decide) (by decide) hne).trans (hpfld hi lo)

/-- A heartbeat of the group that is good, of no twin known yet, is taken. -/
theorem State.heartbeat_group {h : Heartbeat} {crc : Word} (hon : s.twinOn = true) (hcrc : packetCheck (heartbeatPacket h) = crc)
    (hok : fieldsOk (heartbeatPacket h) = true) (hpeer : s.rn Reg.TWIN_PEER = 0) (hgroup : s.twin.hbGroup = none) :
    s.heartbeat false h crc = s.heartbeatTaken false h := by
  unfold State.heartbeat
  refine (if_neg (by simp [hon])).trans ((if_neg (by simp)).trans ((if_neg (by simp [hcrc])).trans ((if_neg (by simp [hok])).trans
    ((if_neg (by simp [hpeer])).trans (if_neg ?_)))))
  simp [hgroup]

theorem State.twinSilent_heard {c q : Nat} (hb : s.twin.hbBell = some (c, q)) (h : s.clk < c + ms 1) : s.twinSilent = false := by
  simp [State.twinSilent, hb, State.elapsed, h]

/-! #### Silence and the rules -/

/-- The path of the bell falls silent. -/
def State.bellLost (s : State) : State :=
  let s := (s.setFld Reg.TWIN_STAT 4 4 0).bump Reg.TWIN_HB_BELL_LOST
  if bit (s.rn Reg.TWIN_STAT) 3 then s.raiseOnce 146 0 1 else s.raiseOnce 147 0

theorem State.bellLost_spec (h146 : s.logOnly 146 = true) (h147 : s.logOnly 147 = true) : s.bellLost.fld Reg.TWIN_STAT 4 4 = 0
    ∧ s.bellLost.pair Reg.TWIN_HB_BELL_LOST = min (s.pair Reg.TWIN_HB_BELL_LOST + 1) (2 ^ 64 - 1) ∧ s.bellLost.twin = s.twin
    ∧ s.bellLost.hold = s.hold := by
  obtain ⟨w, hw⟩ : ∃ w, w = s.setFld Reg.TWIN_STAT 4 4 0 := ⟨_, rfl⟩
  obtain ⟨v, hv⟩ : ∃ v, v = w.bump Reg.TWIN_HB_BELL_LOST := ⟨_, rfl⟩
  have hlog (d : Nat) (h : s.logOnly d = true) (h1 : Reg.FLT_DET_CFG d ≠ Reg.TWIN_HB_BELL_LOST) (h2 : Reg.FLT_DET_CFG d ≠ Reg.TWIN_HB_BELL_LOST + 4)
      (h3 : Reg.FLT_DET_CFG d ≠ Reg.TWIN_STAT) : v.logOnly d = true := by
    refine (State.logOnly_congr ?_).trans h
    rw [hv, w.rd_bump_ne h1 h2, hw]
    exact State.rd_wr_ne _ _ h3
  have hf : FaultSide v s.bellLost := by
    have h := FaultSide.ite (p := bit (v.rn Reg.TWIN_STAT) 3 = true)
      (raiseOnce_faultSide v 146 0 1 (hlog 146 h146 (by decide) (by decide) (by decide)))
      (raiseOnce_faultSide v 147 0 0 (hlog 147 h147 (by decide) (by decide) (by decide)))
    rw [hv, hw] at h ⊢
    exact h
  refine ⟨?_, ?_, hf.twin.trans ?_, hf.hold.trans ?_⟩
  · rw [hf.fld _ _ (by decide), hv, State.fld, State.rn, w.rd_bump_ne (by decide) (by decide), hw]
    exact s.fld_setFld_fits (by decide) (by decide) (by decide)
  · have hwpair : w.pair Reg.TWIN_HB_BELL_LOST = s.pair Reg.TWIN_HB_BELL_LOST := by
      rw [hw, State.pair, State.setFld, State.rn_wn_ne _ _ (by decide), State.rn_wn_ne _ _ (by decide)]
      rfl
    rw [hf.pair (by decide) (by decide), hv, ← hwpair]
    exact w.pair_bumpBy _ 1
  · rw [hv, State.bump_twin, hw, State.setFld_twin]
  · rw [hv, State.bump_hold, hw, State.setFld_hold]

/-- P2: an eligible Escort that has heard nothing for 1 ms. -/
theorem State.promoteRule_silent (hrole : s.role = 2) (hel : s.eligible = true) (hg : s.twin.hbGroup = none) (hb : s.twin.hbBell = none)
    (hw : s.twin.witnesses = []) (hlong : s.twin.eligibleSince + ms 1 ≤ s.clk) : s.promoteRule = some 2 := by
  have hsilent : s.bothSilent (ms 1) = true := by simp [State.bothSilent, State.silentFor, hg, hb, State.elapsed, hlong]
  have hmiss : s.missEvidence = false := by simp [State.missEvidence, hw]
  unfold State.promoteRule
  exact (if_neg (by simp [hrole, hel])).trans ((if_neg (by simp [hmiss])).trans (if_pos hsilent))

/-- D1: tiles have heard another Lead since this one was promoted. -/
theorem State.demoteRule_rise {w : Witness} {c : Nat} (hrole : s.role = 1) (hw : s.twin.witnesses = [w]) (hh : w.hears = true) (hr : w.role = 1)
    (hnew : s.clk ≤ w.clk + us 100) (hrise : s.twin.lastRise = some c) (hlate : s.twin.promotedAt + ms 1 < c) : s.demoteRule = some 5 := by
  have hlead : s.leadEvidence = true := by simp [State.leadEvidence, hw, hh, hr, hnew]
  unfold State.demoteRule
  refine (if_neg (by simp [hrole, hlead])).trans ?_
  dsimp only
  rw [hrise]
  exact if_pos (decide_eq_true hlate)

theorem State.role_congr (h : t.rd Reg.TWIN_STAT = s.rd Reg.TWIN_STAT) : t.role = s.role := by
  rw [State.role, State.fld, State.rn, h]
  rfl

/-- Settles O43, rule by rule. -/
theorem twinElection : Obligations.TwinElection := by
  unfold Obligations.TwinElection
  intro dt q c h crc w req s hcore hlog hon
  have hon' : (s.advance dt).twinOn = true := hon
  have hlog' (e : Nat) (he : e ∈ [146, 147, 148, 149, 150]) : (s.advance dt).logOnly e = true := hlog e he
  refine ⟨fun hdue hbell hq => ?_, fun hbell hcrc => ?_, fun hcrc hok hpeer hg hb hrecent hrole hsender => ?_,
    fun hcrc hok hpeer hg hb hrecent hrole hsender hhrole hepoch => ?_, fun hb hlong hbit => ?_,
    fun hrole hel hg hb hw hlong hmax => ?_, fun hrole hw hh hr hnew hrise hlate => ?_, fun hrole => ?_, fun hrole => ?_⟩
  case refine_1 =>
    obtain ⟨h1, h2, h3, h4, h5⟩ := State.heartbeatOut_spec (s := s.advance dt) hdue hbell hq
    refine completes_act (exec_heartbeatSend dt s) hcore ?_
    rw [acted]
    generalize (s.advance dt).heartbeatOut = u at *
    exact ⟨h1, h2, h3, sameHold_of_hold h4, h5 c⟩
  case refine_2 =>
    have hdo : (s.advance dt).heartbeat true h crc = (s.advance dt).bump Reg.TWIN_BELL_CRC := by
      unfold State.heartbeat
      exact (if_neg (by simp [hon', hbell])).trans (if_pos ⟨rfl, hcrc⟩)
    refine completes_eq rfl hcore hdo ?_
    have hpair : ((s.advance dt).bump Reg.TWIN_BELL_CRC).pair Reg.TWIN_BELL_CRC = min (s.pair Reg.TWIN_BELL_CRC + 1) (2 ^ 64 - 1) :=
      (s.advance dt).pair_bumpBy _ 1
    have hregs : RegsBut [Reg.TWIN_BELL_CRC, Reg.TWIN_BELL_CRC + 4] s ((s.advance dt).bump Reg.TWIN_BELL_CRC) :=
      (RegsBut.refl _ (s.advance dt)).bump (by simp) (by simp)
    have htwin : ((s.advance dt).bump Reg.TWIN_BELL_CRC).twin = s.twin := State.bump_twin ..
    have hhold : ((s.advance dt).bump Reg.TWIN_BELL_CRC).hold = s.hold := State.bump_hold ..
    generalize (s.advance dt).bump Reg.TWIN_BELL_CRC = u at *
    exact ⟨hpair, htwin, hregs, sameHold_of_hold hhold⟩
  case refine_3 =>
    obtain ⟨tw, lost, v, htw, hv, heq⟩ := (s.advance dt).heartbeatTaken_eq h (State.twinSilent_heard hb hrecent)
    obtain ⟨h1, h2, h3, h4, h5, h6⟩ := State.heartbeatHeard_spec hsender hv
    have hvrole : v.role = 2 := (h6 1 0 (by decide)).trans hrole
    rw [if_neg (by simp [hvrole])] at heq
    refine completes_eq rfl hcore ((State.heartbeat_group hon' hcrc hok hpeer hg).trans heq) ?_
    exact ⟨h1, h2, (congrArg TwinState.hbGroup h3).trans htw, hvrole, h5, sameHold_of_hold h4⟩
  case refine_4 =>
    obtain ⟨tw, lost, v, htw, hv, heq⟩ := (s.advance dt).heartbeatTaken_eq h (State.twinSilent_heard hb hrecent)
    obtain ⟨-, -, -, h4, h5, h6⟩ := State.heartbeatHeard_spec hsender hv
    have hvrole : v.role = 1 := (h6 1 0 (by decide)).trans hrole
    have hvepoch : v.rn Reg.TWIN_EPOCH < h.leadEpoch := by
      rw [State.rn, h5 _ (by decide)]
      exact hepoch
    rw [if_pos ⟨hvrole, hhrole, .inl hvepoch⟩] at heq
    obtain ⟨d1, d2, d3, d4, d5⟩ := State.changeRole_double (s := v) (rule := 7) (by decide) (by decide)
      ((State.logOnly_congr (h5 _ (by decide))).trans (hlog' 148 (by simp))) ((State.logOnly_congr (h5 _ (by decide))).trans (hlog' 149 (by simp)))
    have hpair (a : Nat) (k1 : a ∉ [Reg.TWIN_PEER, Reg.TWIN_STAT, Reg.TWIN_PEER_EPOCH])
        (k2 : a + 4 ∉ [Reg.TWIN_PEER, Reg.TWIN_STAT, Reg.TWIN_PEER_EPOCH]) : v.pair a = s.pair a := by
      rw [State.pair, State.rn, State.rn, h5 _ k1, h5 _ k2]; rfl
    rw [hpair _ (by decide) (by decide)] at d3 d4
    obtain ⟨u, hu⟩ : ∃ u, u = v.changeRole 7 := ⟨_, rfl⟩
    rw [← hu] at heq d1 d2 d3 d4 d5
    refine completes_eq rfl hcore ((State.heartbeat_group hon' hcrc hok hpeer hg).trans heq) ?_
    exact ⟨d1, d2, d3, d4, sameHold_of_hold (d5.trans h4)⟩
  case refine_5 =>
    obtain ⟨h1, h2, h3, h4⟩ := State.bellLost_spec (hlog' 146 (by simp)) (hlog' 147 (by simp))
    have hquiet : (match (s.advance dt).twin.hbBell with
        | some (c, _) => (s.advance dt).elapsed c (us 200)
        | none => false) = true := by
      rw [show (s.advance dt).twin.hbBell = some (c, q) from hb]
      exact decide_eq_true hlong
    refine completes_eq (u := (s.advance dt).bellLost) rfl hcore ?_ ?_
    · exact if_pos (by rw [Bool.and_eq_true, Bool.and_eq_true]; exact ⟨⟨hon', hquiet⟩, hbit⟩)
    · generalize (s.advance dt).bellLost = u at *
      exact ⟨h1, h2, h3, sameHold_of_hold h4⟩
  case refine_6 =>
    have hrule := State.promoteRule_silent (s := s.advance dt) hrole hel hg hb hw hlong
    obtain ⟨h1, h2, h3, h4, h5, h6, h7⟩ := State.changeRole_promote (hlog' 148 (by simp)) (hlog' 149 (by simp)) hmax
    obtain ⟨u, hu⟩ : ∃ u, u = (s.advance dt).changeRole 2 := ⟨_, rfl⟩
    rw [← hu] at h1 h2 h3 h4 h5 h6 h7
    refine completes_eq (u := u) rfl hcore (by rw [hrule]; exact hu.symm) ?_
    exact ⟨h1, h2, h3, h4, h5, h6, sameHold_of_hold h7⟩
  case refine_7 =>
    have hrule := State.demoteRule_rise (s := s.advance dt) hrole hw hh hr hnew hrise hlate
    obtain ⟨h1, h2, h3, -, h5⟩ := State.changeRole_double (s := s.advance dt) (rule := 5) (by decide) (by decide) (hlog' 148 (by simp)) (hlog' 149 (by simp))
    obtain ⟨u, hu⟩ : ∃ u, u = (s.advance dt).changeRole 5 := ⟨_, rfl⟩
    rw [← hu] at h1 h2 h3 h5
    refine completes_eq (u := u) rfl hcore (by rw [hrule]; exact hu.symm) ?_
    exact ⟨h1, h2, h3, sameHold_of_hold h5⟩
  case refine_8 =>
    obtain ⟨h1, h2, h3, h4⟩ := State.changeRole_standDown (s := s.advance dt) (hlog' 148 (by simp)) (hlog' 149 (by simp))
    obtain ⟨u, hu⟩ : ∃ u, u = (s.advance dt).changeRole 9 := ⟨_, rfl⟩
    rw [← hu] at h1 h2 h3 h4
    refine completes_eq rfl hcore ((if_pos hrole).trans hu.symm) ?_
    exact ⟨h1, h2, h3, sameHold_of_hold h4⟩
  case refine_9 =>
    have hne : ¬ (s.advance dt).role = 1 := fun e => absurd (hrole.symm.trans e) (by decide)
    refine completes_eq rfl hcore (if_neg hne) ?_
    have hstat : ((s.advance dt).accErr req Reg.TWIN_CMD true false).rd Reg.TWIN_STAT = s.rd Reg.TWIN_STAT :=
      State.regsBut_accErr (s.advance dt) req Reg.TWIN_CMD true false _ (by decide)
    have hpair := State.pair_accErr (s.advance dt) req Reg.TWIN_CMD true false
    have hhold := State.sameHold_accErr (s.advance dt) req Reg.TWIN_CMD true false
    generalize (s.advance dt).accErr req Reg.TWIN_CMD true false = u at *
    exact ⟨(State.role_congr hstat).trans hrole, hpair, hstat, hhold⟩

end Sys2Proof.Machine
end

section
/-! ### Groups: forwarding, routes and presence (R251 to R271) -/

namespace Sys2Proof.Machine

variable {s t u : State} {l : Nat} {g : Nat}

/-- A packet that is not shed leaves at once on a group that is free, and is counted. -/
theorem State.groupSend_free {kind : String} {p : List Byte} (hg : g < 3) (hshed : s.fld (Reg.SLK_GRP_STAT g) 18 16 ≤ pkt p 1 1 / 32)
    (h : s.linkFree g = true) : (s.groupSend g kind p).sent = .message kind g (p.map (·.toNat)) :: s.sent
      ∧ (s.groupSend g kind p).pair (Reg.SLK_GRP_TX g) = min (s.pair (Reg.SLK_GRP_TX g) + 1) (2 ^ 64 - 1)
      ∧ RegsBut [Reg.SLK_GRP_TX g, Reg.SLK_GRP_TX g + 4] s (s.groupSend g kind p) := by
  have heq : s.groupSend g kind p = s.packet g kind p := if_neg (Nat.not_lt.2 hshed)
  rw [heq]
  refine ⟨?_, State.packet_free_group h hg, fun a ha => ?_⟩
  · rw [(State.packet_free h).1, linkPort, if_pos hg]
  · obtain ⟨h1, h2⟩ : a ≠ Reg.SLK_GRP_TX g ∧ a ≠ Reg.SLK_GRP_TX g + 4 := by simpa using ha
    exact State.packet_group_rd hg h1 h2

/-! #### States in which the lanes stand alike -/

/-- The configuration and the state of every lane read the same. -/
structure LanesSame (s t : State) : Prop where
  cfg : ∀ l < 24, t.rd (Reg.LANE_CFG l) = s.rd (Reg.LANE_CFG l)
  state : ∀ l < 24, t.rd (Reg.LANE_STATE l) = s.rd (Reg.LANE_STATE l)

namespace LanesSame

/-- Registers outside the lanes' block leave them. -/
theorem of_regs (h : ∀ a, 0x30100 ≤ a → a < 0x30d00 → t.rd a = s.rd a) : LanesSame s t :=
  ⟨fun l hl => h _ (by simp only [Reg.LANE_CFG]; omega) (by simp only [Reg.LANE_CFG]; omega),
    fun l hl => h _ (by simp only [Reg.LANE_STATE]; omega) (by simp only [Reg.LANE_STATE]; omega)⟩

theorem cfgFld (h : LanesSame s t) (hl : l < 24) (hi lo : Nat) : t.fld (Reg.LANE_CFG l) hi lo = s.fld (Reg.LANE_CFG l) hi lo := by
  rw [State.fld, State.rn, h.cfg l hl]; rfl

theorem stateFld (h : LanesSame s t) (hl : l < 24) (hi lo : Nat) : t.fld (Reg.LANE_STATE l) hi lo = s.fld (Reg.LANE_STATE l) hi lo := by
  rw [State.fld, State.rn, h.state l hl]; rfl

theorem laneBit (h : LanesSame s t) (hl : l < 24) (i : Nat) : t.laneBit l i = s.laneBit l i := by
  rw [State.laneBit, State.rn, h.state l hl]; rfl

theorem laneRole (h : LanesSame s t) (hl : l < 24) : t.laneRole l = s.laneRole l := h.cfgFld hl _ _

theorem groupOf (h : LanesSame s t) (hl : l < 24) : t.groupOf l = s.groupOf l := by
  rw [State.groupOf, State.groupOf, h.laneRole hl, h.cfgFld hl]

theorem placeOf (h : LanesSame s t) (hl : l < 24) : t.placeOf l = s.placeOf l := by
  rw [State.placeOf, State.placeOf, h.laneBit hl, h.stateFld hl]

theorem rangeFilter_congr {n : Nat} {p q : Nat → Bool} (h : ∀ l < n, p l = q l) : rangeFilter n p = rangeFilter n q :=
  List.filter_congr fun l hl => h l (List.mem_range.1 hl)

theorem members (h : LanesSame s t) (g : Nat) : t.members g = s.members g :=
  rangeFilter_congr fun l hl => by rw [h.laneRole hl]

theorem inGroup (h : LanesSame s t) (g : Nat) : t.inGroup g = s.inGroup g :=
  rangeFilter_congr fun l hl => by rw [h.groupOf hl, h.laneBit hl]

theorem memberNo (h : LanesSame s t) (hl : l < 24) : t.memberNo l = s.memberNo l := by
  rw [State.memberNo, State.memberNo, h.groupOf hl, h.members, h.placeOf hl]

theorem carriers (h : LanesSame s t) (hg : g < 3) (hst : t.rd (Reg.SLK_GRP_STAT g) = s.rd (Reg.SLK_GRP_STAT g)) :
    t.carriers g = s.carriers g := by
  have hfld : t.fld (Reg.SLK_GRP_STAT g) 3 0 = s.fld (Reg.SLK_GRP_STAT g) 3 0 := by rw [State.fld, State.rn, hst]; rfl
  have hlt : ∀ l ∈ s.inGroup g, l < 24 := fun l hl => rangeFilter_lt hl
  rw [State.carriers, State.carriers, if_pos hg, if_pos hg, h.inGroup, hfld]
  dsimp only
  have hmask (m : Nat) : ((s.inGroup g).filter fun l => bit m (t.memberNo l)) = (s.inGroup g).filter fun l => bit m (s.memberNo l) :=
    List.filter_congr fun l hl => by rw [h.memberNo (hlt l hl)]
  rw [hmask]
  generalize hls : (if s.fld (Reg.SLK_GRP_STAT g) 3 0 = 0 then s.inGroup g else _ : List Nat) = ls
  have hmem : ∀ l ∈ ls, l < 24 := by
    rw [← hls]
    split
    · exact hlt
    · exact fun l hl => hlt l (List.mem_of_mem_filter hl)
  refine congrArg (List.flatMap · (List.range 4)) (funext fun m => List.filter_congr fun l hl => by rw [h.memberNo (hmem l hl)])

theorem linkFree (h : LanesSame s t) (hg : g < 3) (hst : t.rd (Reg.SLK_GRP_STAT g) = s.rd (Reg.SLK_GRP_STAT g))
    (htx : t.linkTx g = s.linkTx g) (hclk : t.clk = s.clk) : t.linkFree g = s.linkFree g := by
  simp only [State.linkFree, State.txIdle, h.carriers hg hst, htx, hclk, show g < 8 ∨ 64 ≤ g from .inl (by omega), decide_true, Bool.true_or]

end LanesSame

/-! #### Routes -/

/-- Learning a route changes the table of routes and its count. -/
theorem State.learnRoute_keeps (s : State) (g hops node : Nat) : RegsBut [Reg.SLK_ROUTE_COUNT] s (s.learnRoute g hops node)
    ∧ ∃ rs regs, s.learnRoute g hops node = { s with twin := { s.twin with routes := rs }, regs := regs } := by
  unfold State.learnRoute
  split
  · exact ⟨.refl _ s, s.twin.routes, s.regs, rfl⟩
  · exact ⟨(State.regsBut_wn { s with twin := { s.twin with routes := _ } } _ _), _, _, rfl⟩

theorem find_other_filter {rs : List Route} {n node : Nat} (h : n ≠ node) :
    (rs.filter (·.node != node)).find? (·.node == n) = rs.find? (·.node == n) := by
  rw [List.find?_filter]
  refine congrArg (List.find? · rs) (funext fun r => ?_)
  by_cases hr : r.node = n
  · simp [hr, h]
  · simp [hr]

/-- A route learnt leaves those of other nodes. -/
theorem State.learnRoute_find {hops node n : Nat} (hn : n ≠ node) (hlen : s.twin.routes.length < 65536) :
    (s.learnRoute g hops node).twin.routes.find? (·.node == n) = s.twin.routes.find? (·.node == n) := by
  unfold State.learnRoute
  split
  · rfl
  · show List.find? _ (match s.twin.routes.find? (·.node == node) with
      | some r => _
      | none => _) = _
    have hcons (r : Route) (hr : r.node = node) (rs : List Route) : (r :: rs).find? (·.node == n) = rs.find? (·.node == n) :=
      List.find?_cons_of_neg (by simp [hr, Ne.symm hn])
    split
    · next r _ =>
      split
      · exact (hcons _ rfl _).trans (find_other_filter hn)
      · split
        · exact (hcons _ rfl _).trans (find_other_filter hn)
        · rfl
    · rw [if_pos hlen]
      exact hcons _ rfl _

/-- What a packet's origin teaches before it is forwarded. -/
def State.originHeard (s : State) (g : Nat) (p : List Byte) : State :=
  if packetGood p then s.learnRoute g (pkt p 4 2) (packetEnds p).1 else s

theorem State.originHeard_keeps (s : State) (g : Nat) (p : List Byte) : RegsBut [Reg.SLK_ROUTE_COUNT] s (s.originHeard g p)
    ∧ ∃ rs regs, s.originHeard g p = { s with twin := { s.twin with routes := rs }, regs := regs } := by
  unfold State.originHeard
  split
  · exact s.learnRoute_keeps ..
  · exact ⟨.refl _ s, s.twin.routes, s.regs, rfl⟩

/-- What a packet that is no request and no stream meets, once its origin has been heard. -/
theorem State.forward_heard {o n : Nat} {p : List Byte} (htype : pkt p 0 1 = 0x21) (hends : packetEnds p = (o, n))
    (ho : o ≠ s.nodeId) (hn : n ≠ s.nodeId) : s.forward g p =
      if s.fld Reg.SLK_HOP_LIMIT 15 0 ≤ pkt p 4 2 + 1 then ((s.originHeard g p).bump (Reg.SLK_GRP_HOPDROP g)).raiseSec 133 g
      else if (((s.originHeard g p).outGroups g n).isEmpty = true ∧ (s.originHeard g p).topo ≠ 2 ∧ n ≠ 0xFFFFFFFF) then
        (s.originHeard g p).bump Reg.SLK_ROUTE_MISS
      else ((s.originHeard g p).outGroups g n).foldl (fun s q => s.groupSend q "FORWARD" (rehop p)) (s.originHeard g p) := by
  have hregs := (s.originHeard_keeps g p).1
  have hlearn : (if pkt p 0 1 ≠ 0x20 ∧ packetGood p = true then s.learnRoute g (pkt p 4 2) o else s) = s.originHeard g p := by
    rw [State.originHeard, hends, htype]
    simp
  generalize s.originHeard g p = v at hregs hlearn ⊢
  have hnode : v.nodeId = s.nodeId := congrArg BitVec.toNat (hregs _ (by decide))
  have hlim : v.fld Reg.SLK_HOP_LIMIT 15 0 = s.fld Reg.SLK_HOP_LIMIT 15 0 := by rw [State.fld, State.rn, hregs _ (by decide)]; rfl
  unfold State.forward
  rw [hends]
  dsimp only
  rw [htype] at hlearn ⊢
  rw [if_neg (by decide : ¬ 0x21 = 0x11), if_neg ho, if_neg (by simp : ¬ (0x21 = 0x20 ∧ _)), hlearn, if_neg (by simp [hn, hnode]), hlim]
  simp

/-- A management packet of another origin, for another device, within the hop limit. -/
theorem State.forward_mgmt {o n h : Nat} {p : List Byte} (htype : pkt p 0 1 = 0x21) (hends : packetEnds p = (o, n))
    (ho : o ≠ s.nodeId) (hn : n ≠ s.nodeId) (hb : n ≠ 0xFFFFFFFF) (htopo : s.topo = 1) (hlimit : pkt p 4 2 + 1 < s.fld Reg.SLK_HOP_LIMIT 15 0)
    (hon : o ≠ n) (hroute : (s.twin.routes.find? (·.node == n)).map (·.group) = some h) (hhg : h ≠ g) (hlen : s.twin.routes.length < 65536) :
    s.forward g p = (s.originHeard g p).groupSend h "FORWARD" (rehop p) := by
  have hregs := (s.originHeard_keeps g p).1
  have hfind : ((s.originHeard g p).twin.routes.find? (·.node == n)).map (·.group) = some h := by
    rw [← hroute]
    unfold State.originHeard
    split
    · rw [hends, State.learnRoute_find hon.symm hlen]
    · rfl
  rw [State.forward_heard htype hends ho hn, if_neg (Nat.not_le.2 hlimit)]
  generalize s.originHeard g p = v at hregs hfind ⊢
  have hout : v.outGroups g n = [h] := by
    have ht : v.topo = 1 := by
      rw [State.topo, State.fld, State.rn, hregs _ (by decide)]
      exact htopo
    obtain ⟨r, hr, hgr⟩ := Option.map_eq_some_iff.1 hfind
    rw [State.outGroups, ht, hr]
    simp [hb, hgr, hhg]
  rw [hout, if_neg (by simp)]
  rfl

/-- A packet forwarded to a free group leaves by it. -/
theorem State.forward_mgmt_sent {o n h : Nat} {p : List Byte} (htype : pkt p 0 1 = 0x21) (hends : packetEnds p = (o, n))
    (ho : o ≠ s.nodeId) (hn : n ≠ s.nodeId) (hb : n ≠ 0xFFFFFFFF) (htopo : s.topo = 1) (hlimit : pkt p 4 2 + 1 < s.fld Reg.SLK_HOP_LIMIT 15 0)
    (hon : o ≠ n) (hroute : (s.twin.routes.find? (·.node == n)).map (·.group) = some h) (hhg : h ≠ g) (hlen : s.twin.routes.length < 65536)
    (hh : h < 3) (hshed : s.fld (Reg.SLK_GRP_STAT h) 18 16 ≤ pkt (rehop p) 1 1 / 32) :
    (s.forward g p).hold = s.hold ∧ (s.linkFree h = true → (s.forward g p).sent = .message "FORWARD" h ((rehop p).map (·.toNat)) :: s.sent
      ∧ (s.forward g p).pair (Reg.SLK_GRP_TX h) = min (s.pair (Reg.SLK_GRP_TX h) + 1) (2 ^ 64 - 1)) := by
  rw [State.forward_mgmt htype hends ho hn hb htopo hlimit hon hroute hhg hlen]
  obtain ⟨hregs, rs, regs, hv⟩ := s.originHeard_keeps g p
  generalize s.originHeard g p = v at hregs hv ⊢
  have hother (a : Nat) (ha : a ≠ Reg.SLK_ROUTE_COUNT) : v.rd a = s.rd a := hregs a (by simpa using ha)
  have hst : v.rd (Reg.SLK_GRP_STAT h) = s.rd (Reg.SLK_GRP_STAT h) := hother _ (by simp only [Reg.SLK_GRP_STAT, Reg.SLK_ROUTE_COUNT]; omega)
  have hlanes : LanesSame s v := .of_regs fun a h1 h2 => hother a (by simp only [Reg.SLK_ROUTE_COUNT]; omega)
  have hpair : v.pair (Reg.SLK_GRP_TX h) = s.pair (Reg.SLK_GRP_TX h) := by
    rw [State.pair, State.rn, State.rn, hother _ (by simp only [Reg.SLK_GRP_TX, Reg.SLK_ROUTE_COUNT]; omega),
      hother _ (by simp only [Reg.SLK_GRP_TX, Reg.SLK_ROUTE_COUNT]; omega)]
    rfl
  have hfree : v.linkFree h = s.linkFree h := hlanes.linkFree hh hst (by rw [hv]; rfl) (by rw [hv])
  have hsent : v.sent = s.sent := by rw [hv]; rfl
  have hhold : v.hold = s.hold := by rw [hv]
  refine ⟨(groupSend_linkSide v hh ..).hold.trans hhold, fun hf => ?_⟩
  obtain ⟨h1, h2, -⟩ := State.groupSend_free (s := v) (kind := "FORWARD") (p := rehop p) hh
    (by rw [State.fld, State.rn, hst]; exact hshed) (hfree.trans hf)
  exact ⟨h1.trans (by rw [hsent]), h2.trans (by rw [hpair])⟩

/-- A packet at the hop limit is dropped and counted. -/
theorem State.forward_dropped {o n : Nat} {p : List Byte} (hg : g < 3) (htype : pkt p 0 1 = 0x21) (hends : packetEnds p = (o, n))
    (ho : o ≠ s.nodeId) (hn : n ≠ s.nodeId) (hlimit : s.fld Reg.SLK_HOP_LIMIT 15 0 ≤ pkt p 4 2 + 1) (h133 : s.logOnly 133 = true) :
    (s.forward g p).pair (Reg.SLK_GRP_HOPDROP g) = min (s.pair (Reg.SLK_GRP_HOPDROP g) + 1) (2 ^ 64 - 1) ∧ (s.forward g p).out = s.out
      ∧ (s.forward g p).hold = s.hold := by
  rw [State.forward_heard htype hends ho hn, if_pos hlimit]
  obtain ⟨hregs, rs, regs, hv⟩ := s.originHeard_keeps g p
  generalize s.originHeard g p = v at hregs hv ⊢
  have hother (a : Nat) (ha : a ≠ Reg.SLK_ROUTE_COUNT) : v.rd a = s.rd a := hregs a (by simpa using ha)
  obtain ⟨w, hw⟩ : ∃ w, w = v.bump (Reg.SLK_GRP_HOPDROP g) := ⟨_, rfl⟩
  have hlog : w.logOnly 133 = true := by
    refine (State.logOnly_congr ?_).trans h133
    rw [hw, v.rd_bump_ne, hother _ (by decide)] <;> simp only [Reg.FLT_DET_CFG, Reg.SLK_GRP_HOPDROP] <;> omega
  have hf := raiseSec_faultSide w 133 g 0 hlog
  have hpair : v.pair (Reg.SLK_GRP_HOPDROP g) = s.pair (Reg.SLK_GRP_HOPDROP g) := by
    rw [State.pair, State.rn, State.rn, hother _ (by simp only [Reg.SLK_GRP_HOPDROP, Reg.SLK_ROUTE_COUNT]; omega),
      hother _ (by simp only [Reg.SLK_GRP_HOPDROP, Reg.SLK_ROUTE_COUNT]; omega)]
    rfl
  have hnot : faultReg (Reg.SLK_GRP_HOPDROP g) = false ∧ faultReg (Reg.SLK_GRP_HOPDROP g + 4) = false := by
    have : 0x40000 ≤ Reg.SLK_GRP_HOPDROP g ∧ Reg.SLK_GRP_HOPDROP g < 0x50000 := by simp only [Reg.SLK_GRP_HOPDROP]; omega
    simp only [faultReg, Bool.or_eq_false_iff, decide_eq_false_iff_not]
    omega
  rw [← hw]
  refine ⟨?_, ?_, hf.hold.trans (by rw [hw, State.bump_hold, hv])⟩
  · rw [hf.pair hnot.1 hnot.2, hw, ← hpair]
    exact v.pair_bumpBy _ 1
  · have hout : (w.raiseSec 133 g 0).out = w.out := by obtain ⟨_, _, _, h, -⟩ := hf; rw [h]
    rw [hout, hw, State.bump_out, hv]

/-! #### Exported streams and management messages (R252, R270) -/

/-- The groups to which a receiver's pixels are exported. -/
theorem exportGroups_one {w : Nat} (h : bits w 11 9 = 2) : ([0, 1, 2].filter fun g => bit w (9 + g)) = [1] := by
  have hb (i : Nat) (hi : i < 3) : bit w (9 + i) = (2 : Nat).testBit i := by
    rw [← h, testBit_bits, decide_eq_true (by omega), Bool.true_and]
    rfl
  rw [List.filter_cons, List.filter_cons, List.filter_cons, hb 0 (by decide), hb 1 (by decide), hb 2 (by decide)]
  rfl

/-- A management message for the device, of another node. -/
def State.mgmtTaken (s : State) (g origin seq : Nat) (m : List Byte) : State :=
  let (dup, l) := seenKey s.twin.dupMgmt s.clk (origin, seq)
  let s := { s with twin := { s.twin with dupMgmt := l } }
  if dup then s.bump Reg.SLK_DUP
  else match s.relayReturn m with
    | (s, true) => s
    | (s, false) =>
      let fld := fun (i n : Nat) => beNat ((m.drop i).take n)
      let (s, poll) := if fld 3 1 = 5 ∧ fld 4 2 = 0x40 then s.pollAnswer origin (fld 12 4) (fld 24 1) (fld 32 1)
        else (s, false)
      if poll then s else s.qmpDeliver g origin seq m

def State.mgmtHeard (s : State) (g hops origin dest seq : Nat) (m : List Byte) : State :=
  if origin = s.nodeId then s
  else
    let s := s.learnRoute g hops origin
    if dest ≠ s.nodeId ∧ dest ≠ 0xFFFFFFFF then s else s.mgmtTaken g origin seq m

theorem exec_mgmtReceive (dt : Nat) (g : Fin 3) (hops o dest q : Nat) (m : List Byte) (s : State) :
    exec (.mgmtReceive dt g hops o dest q m) s = act dt s fun u => u.mgmtHeard g hops o dest q m := rfl

theorem State.mgmtHeard_own {hops o q : Nat} {m : List Byte} (ho : o ≠ s.nodeId) :
    s.mgmtHeard g hops o s.nodeId q m = (s.learnRoute g hops o).mgmtTaken g o q m := by
  have hregs := (s.learnRoute_keeps g hops o).1
  have hnode : (s.learnRoute g hops o).nodeId = s.nodeId := congrArg BitVec.toNat (hregs _ (by decide))
  unfold State.mgmtHeard
  exact (if_neg ho).trans (if_neg (by simp [hnode]))

/-- A copy of a message within 10 ms. -/
theorem State.mgmtTaken_again {o q c : Nat} {m : List Byte} (hdup : s.twin.dupMgmt = [((o, q), c)]) (h : s.clk < c + ms 10) :
    ∃ tw, s.mgmtTaken g o q m = { s with twin := tw }.bump Reg.SLK_DUP := by
  have hseen : seenKey s.twin.dupMgmt s.clk (o, q) = (true, [((o, q), c)]) := by
    rw [hdup]
    simp [seenKey, h]
  refine ⟨{ s.twin with dupMgmt := [((o, q), c)] }, ?_⟩
  unfold State.mgmtTaken
  rw [hseen]
  rfl

/-- A first message that is no response and no request is delivered. -/
theorem State.mgmtTaken_new {o q : Nat} {m : List Byte} (hdup : s.twin.dupMgmt = []) (h4 : oct m 3 1 % 8 ≠ 4) (h5 : oct m 3 1 % 8 ≠ 5) :
    s.mgmtTaken g o q m = ({ s with twin := { s.twin with dupMgmt := [((o, q), s.clk)] } } : State).send "DELIVER" g
      (o :: q :: m.map (·.toNat)) := by
  have hseen : seenKey s.twin.dupMgmt s.clk (o, q) = (false, [((o, q), s.clk)]) := by
    rw [hdup]
    rfl
  have hfld : beNat ((m.drop 3).take 1) ≠ 5 := fun e => h5 (by rw [oct, e])
  have hrelay (u : State) : u.relayReturn m = (u, false) := by
    have hnone : (u.ferry.relayed.find? fun r => beNat ((m.drop 3).take 1) % 8 == 5 && r.seq == beNat ((m.drop 12).take 4)
        && r.type == beNat ((m.drop 4).take 2)) = none := by
      rw [List.find?_eq_none]
      intro r _
      have : ¬ beNat ((m.drop 3).take 1) % 8 = 5 := h5
      simp [this]
    unfold State.relayReturn
    dsimp only
    rw [hnone]
  have hdeliver (u : State) : u.qmpDeliver g o q m = u.send "DELIVER" g (o :: q :: m.map fun b => b.toNat) := by
    unfold State.qmpDeliver
    exact (if_neg fun e => h4 e.1).trans (if_neg fun e => h4 e.1)
  unfold State.mgmtTaken
  rw [hseen]
  dsimp only
  rw [if_neg (by decide), hrelay]
  dsimp only
  have hpoll {α : Type} (a b : α) : (if beNat ((m.drop 3).take 1) = 5 ∧ beNat ((m.drop 4).take 2) = 0x40 then a else b) = b :=
    if_neg fun e => hfld e.1
  rw [hpoll]
  exact hdeliver _

/-! #### Presence (R269) -/

theorem slkPacket_class (type cls : Nat) (toward : Bool) (tail fields : List Byte) :
    pkt (slkPacket type cls toward tail fields) 1 1 = (32 * cls + 16 * toward.toNat) % 256 := by
  have hb (c : Nat) (l : List Byte) : pkt (beBytes 1 type ++ beBytes 1 c ++ l) 1 1 = c % 256 := by
    simp [pkt, beBytes, leBytes, beNat]
  unfold slkPacket
  dsimp only
  simp only [List.append_assoc]
  rw [← List.append_assoc, hb]

/-- A management packet is of class 6. -/
theorem mgmtPacket_class (hops origin dest : Nat) (m : List Byte) : pkt (mgmtPacket hops origin dest m) 1 1 / 32 = 6 := by
  rw [mgmtPacket, slkPacket_class]
  decide

/-- What a presence message of the number `q`, sent as `node`, says of the device. -/
def State.presenceBytes (s : State) (node q : Nat) : List Byte :=
  qmpBytes 0 0x90 0 q node 0 0 (beBytes 4 s.nodeId
    ++ (List.range 4).flatMap (fun i => leBytes 4 (s.rn (Reg.SYS_UID i))) ++ beBytes 1 s.role ++ beBytes 4 (s.rn Reg.SYS_BOOT_COUNT))

/-- The number that the next message of the device takes. -/
def State.nextSeq (s : State) : Nat := (s.ferry.relaySeq + 1) % 2 ^ 32

/-- The state in which presence is sent. -/
def State.presenceNoted (s : State) : State :=
  { s with
    twin := { s.twin with presence := some (s.clk, s.liveGroups) }
    ferry := { s.ferry with relaySeq := s.nextSeq } }

theorem State.presenceNoted_regs : s.presenceNoted.regs = s.regs := rfl

theorem State.presenceNoted_bytes (node q : Nat) : s.presenceNoted.presenceBytes node q = s.presenceBytes node q := by
  have hrd (a : Nat) : s.presenceNoted.rd a = s.rd a := by rw [State.rd, State.rd, State.presenceNoted_regs]
  unfold State.presenceBytes
  rw [State.role_congr (hrd _)]
  unfold State.nodeId
  simp only [State.rn, hrd]

/-- The presence message of a device to every other. -/
def presencePacket (node : Nat) (m : List Byte) : List Byte := mgmtPacket 0 node 0xFFFFFFFF m

theorem presencePacket_class (node : Nat) (m : List Byte) : pkt (presencePacket node m) 1 1 / 32 = 6 := mgmtPacket_class 0 node _ m

/-- Presence is sent when it is due, on every live group or around the ring. -/
def State.presenceDue (s : State) : State :=
  let due := match s.twin.presence with
    | some (c, gs) => s.elapsed c (sec 1) || gs != s.liveGroups
    | none => true
  if !due then s
  else (if s.presenceNoted.topo = 2 then s.presenceNoted.ringGroups else s.presenceNoted.liveGroups).foldl (fun u g =>
    u.originate g "PRESENCE" (presencePacket u.nodeId (s.presenceNoted.presenceBytes u.nodeId s.nextSeq))) s.presenceNoted

theorem exec_presenceSend (dt : Nat) (s : State) : exec (.presenceSend dt) s = act dt s fun u => u.presenceDue := by
  show execPresenceSend dt s = _
  unfold execPresenceSend
  rfl

/-- A first presence message on the one group that is live. -/
theorem State.presenceDue_one (hg : g < 3) (hdup : s.twin.dupNode = false) (htopo : s.topo = 1) (hlive : s.liveGroups = [g])
    (hshed : s.fld (Reg.SLK_GRP_STAT g) 18 16 ≤ 6) (hnone : s.twin.presence = none) :
    s.presenceDue.twin = { s.twin with presence := some (s.clk, [g]) } ∧ s.presenceDue.hold = s.hold
      ∧ (s.linkFree g = true → s.presenceDue.sent = .message "PRESENCE" g ((presencePacket s.nodeId (s.presenceBytes s.nodeId s.nextSeq)).map (·.toNat)) :: s.sent
        ∧ s.presenceDue.pair (Reg.SLK_GRP_TX g) = min (s.pair (Reg.SLK_GRP_TX g) + 1) (2 ^ 64 - 1)) := by
  obtain ⟨v, hv, htwin, hregs, hhold, hphy, hclk, hout⟩ : ∃ v : State, v = s.presenceNoted ∧ v.twin = { s.twin with presence := some (s.clk, s.liveGroups) }
      ∧ v.regs = s.regs ∧ v.hold = s.hold ∧ v.phy = s.phy ∧ v.clk = s.clk ∧ v.out = s.out := ⟨_, rfl, rfl, rfl, rfl, rfl, rfl, rfl⟩
  have hrd (a : Nat) : v.rd a = s.rd a := by rw [State.rd, State.rd, hregs]
  have hlanes : LanesSame s v := .of_regs fun a _ _ => hrd a
  have hfree : v.linkFree g = s.linkFree g := hlanes.linkFree hg (hrd _) (by rw [State.linkTx, hphy]; rfl) hclk
  have hsent : v.sent = s.sent := by rw [State.sent, hout]; rfl
  have hlg : v.liveGroups = s.liveGroups := List.filter_congr fun q _ => by rw [hlanes.inGroup]
  have hnode : v.nodeId = s.nodeId := congrArg BitVec.toNat (hrd _)
  have hd : v.twin.dupNode = false := by rw [htwin]; exact hdup
  have ht : ¬ v.topo = 2 := by
    rw [State.topo, State.fld, State.rn, hrd]
    exact fun e => absurd (htopo.symm.trans e) (by decide)
  have hst : v.fld (Reg.SLK_GRP_STAT g) 18 16 ≤ 6 := by rw [State.fld, State.rn, hrd]; exact hshed
  have heq : s.presenceDue = v.groupSend g "PRESENCE" (presencePacket s.nodeId (s.presenceBytes s.nodeId s.nextSeq)) := by
    unfold State.presenceDue
    dsimp only
    rw [hnone]
    rw [if_neg (by simp), ← hv, if_neg ht, hlg, hlive, List.foldl_cons, List.foldl_nil, hnode, hv, State.presenceNoted_bytes]
    rw [← hv]
    exact if_neg (by simp [hd])
  have hside := groupSend_linkSide v hg "PRESENCE" (presencePacket s.nodeId (s.presenceBytes s.nodeId s.nextSeq))
  rw [heq]
  refine ⟨hside.twin.trans (by rw [htwin, hlive]), hside.hold.trans hhold, fun hf => ?_⟩
  obtain ⟨h1, h2, -⟩ := State.groupSend_free (s := v) (kind := "PRESENCE") (p := presencePacket s.nodeId (s.presenceBytes s.nodeId s.nextSeq)) hg
    (by rw [presencePacket_class]; exact hst) (hfree.trans hf)
  have hpair : v.pair (Reg.SLK_GRP_TX g) = s.pair (Reg.SLK_GRP_TX g) := by rw [State.pair, State.rn, State.rn, hrd, hrd]; rfl
  exact ⟨h1.trans (by rw [hsent]), h2.trans (by rw [hpair])⟩

/-- The first route learnt. -/
theorem State.learnRoute_first {hops n : Nat} (hn : n ≠ s.nodeId) (hnone : s.twin.routes = []) :
    s.learnRoute g hops n = ({ s with twin := { s.twin with routes := [⟨n, g, hops + 1, s.clk⟩] } } : State).wn Reg.SLK_ROUTE_COUNT 1 := by
  unfold State.learnRoute
  rw [if_neg hn, hnone]
  rfl

end Sys2Proof.Machine
end

section
/-! ### What a change of a lane's state leaves (R196 to R220) -/

namespace Sys2Proof.Machine

variable {s t u : State} {l m g : Nat} {P Q : Nat → Prop} {I J : List Nat}

/-- The registers that a change of the state of the lanes of `P` may write. -/
def LaneReg (P : Nat → Prop) (a : Nat) : Prop :=
  (∃ l < 24, P l ∧ (a = Reg.LANE_STATE l ∨ a = Reg.LANE_LINKED_AT l ∨ a = Reg.LANE_LINKED_AT l + 4))
    ∨ a = Reg.LANE_LINKED ∨ a = Reg.LANE_TEST_MAP ∨ (0x20000 ≤ a ∧ a < 0x30000) ∨ (0x50000 ≤ a ∧ a < 0x60000)
    ∨ (0x40100 ≤ a ∧ a < 0x40200 ∧ a % 64 = 0) ∨ faultReg a = true

theorem LaneReg.mono {a : Nat} (h : ∀ m, P m → Q m) (ha : LaneReg P a) : LaneReg Q a := by
  obtain ⟨l, hl, hP, ha⟩ | ha := ha
  · exact .inl ⟨l, hl, h l hP, ha⟩
  · exact .inr ha

theorem faultReg_low {a : Nat} (ha : a < 0xD0000) : faultReg a = false := by
  unfold faultReg
  simp only [Bool.or_eq_false_iff, decide_eq_false_iff_not]
  omega

/-- The registers of a lane's block but three, and the map of signal losses. -/
theorem not_laneReg {a : Nat} (ha : 0x30100 ≤ a ∧ a < 0x31000 ∨ a = 0x30004)
    (hoff : a % 128 ≠ 12 ∧ a % 128 ≠ 104 ∧ a % 128 ≠ 108) : ¬ LaneReg P a := by
  rintro (⟨l, -, -, h⟩ | h | h | h | h | h | h)
  · simp only [Reg.LANE_STATE, Reg.LANE_LINKED_AT] at h
    omega
  any_goals simp only [Reg.LANE_LINKED, Reg.LANE_TEST_MAP] at h
  any_goals omega
  rw [faultReg_low (by omega)] at h
  exact absurd h (by decide)

/-- The state of a lane that is not of those that change. -/
theorem not_laneReg_other {a : Nat} (hm : ¬ P m)
    (ha : a = Reg.LANE_STATE m ∨ a = Reg.LANE_LINKED_AT m ∨ a = Reg.LANE_LINKED_AT m + 4) (hlt : m < 24) :
    ¬ LaneReg P a := by
  simp only [Reg.LANE_STATE, Reg.LANE_LINKED_AT] at ha
  rintro (⟨l, -, hl, h⟩ | h | h | h | h | h | h)
  · simp only [Reg.LANE_STATE, Reg.LANE_LINKED_AT] at h
    exact hm ((show l = m by omega) ▸ hl)
  any_goals simp only [Reg.LANE_LINKED, Reg.LANE_TEST_MAP] at h
  any_goals omega
  rw [faultReg_low (by omega)] at h
  exact absurd h (by decide)

theorem State.lane_modLane_ne (s : State) (f : Lane → Lane) (h : m ≠ l) : (s.modLane l f).lane m = s.lane m :=
  congrArg (fun o : Option Lane => o.getD {}) (tabGet?_tabSet_ne _ _ h)

/-- A change of the lanes of `P` alone. -/
structure LaneAt (P : Nat → Prop) (s t : State) : Prop where
  rd : ∀ a, ¬ LaneReg P a → t.rd a = s.rd a
  lane : ∀ m, ¬ P m → t.lane m = s.lane m
  hold : t.hold = s.hold
  clk : t.clk = s.clk
  logOnly : ∀ d < 512, t.logOnly d = s.logOnly d
  out : ∃ o, t.out = o ++ s.out

namespace LaneAt

theorem refl (s : State) : LaneAt P s s := ⟨fun _ _ => rfl, fun _ _ => rfl, rfl, rfl, fun _ _ => rfl, [], rfl⟩

theorem trans (h : LaneAt P s t) (k : LaneAt P t u) : LaneAt P s u := by
  obtain ⟨o, ho⟩ := h.out
  obtain ⟨p, hp⟩ := k.out
  exact ⟨fun a ha => (k.rd a ha).trans (h.rd a ha), fun m hm => (k.lane m hm).trans (h.lane m hm), k.hold.trans h.hold, k.clk.trans h.clk,
    fun d hd => (k.logOnly d hd).trans (h.logOnly d hd), p ++ o, by rw [hp, ho, List.append_assoc]⟩

theorem mono (h : LaneAt P s t) (hPQ : ∀ m, P m → Q m) : LaneAt Q s t :=
  ⟨fun a ha => h.rd a fun k => ha (k.mono hPQ), fun m hm => h.lane m fun k => hm (hPQ m k), h.hold, h.clk, h.logOnly, h.out⟩

theorem ite {c : Prop} [Decidable c] (h : LaneAt P s t) (k : LaneAt P s u) : LaneAt P s (if c then t else u) := by
  split
  · exact h
  · exact k

theorem foldl {α : Type} {f : State → α → State} (ls : List α) (hf : ∀ u, LaneAt P s u → ∀ x ∈ ls, LaneAt P u (f u x)) : LaneAt P s (ls.foldl f s) :=
  List.foldlRecOn (motive := LaneAt P s) ls f (.refl s) fun u hu x hx => hu.trans (hf u hu x hx)

theorem of_fault (h : FaultSide s t) : LaneAt P s t := by
  refine ⟨fun a ha => h.rd (Bool.eq_false_iff.mpr fun k => ha (.inr (.inr (.inr (.inr (.inr (.inr k))))))), ?_, ?_, ?_, h.logOnly, ?_⟩
  all_goals obtain ⟨_, _, _, rfl, -⟩ := h
  · exact fun _ _ => rfl
  · rfl
  · rfl
  · exact ⟨[], rfl⟩

theorem wn {a : Nat} (n : Nat) (ha : LaneReg P a) (hlow : a < 0xD0000) : LaneAt P s (s.wn a n) :=
  ⟨fun b hb => State.rd_wr_ne _ _ fun e => hb (e ▸ ha), fun _ _ => congrArg (tabGetD · _ _) (State.wn_lanes ..), State.wn_hold .., State.wn_clk ..,
    fun d _ => State.logOnly_congr (State.rd_wr_ne _ _ (by simp only [Reg.FLT_DET_CFG]; omega)), [], State.wn_out ..⟩

theorem modLane (hl : P l) (f : Lane → Lane) : LaneAt P s (s.modLane l f) :=
  ⟨fun _ _ => rfl, fun m hm => State.lane_modLane_ne s f fun e => hm (e ▸ hl), rfl, rfl, fun _ _ => rfl, [], rfl⟩

/-- What changes neither registers, nor lanes, nor Hold. -/
theorem of_same (hr : t.regs = s.regs) (hlanes : t.lanes = s.lanes) (hh : t.hold = s.hold) (hc : t.clk = s.clk) (ho : ∃ o, t.out = o ++ s.out) : LaneAt P s t :=
  ⟨fun a _ => by rw [State.rd, State.rd, hr], fun m _ => by rw [State.lane, State.lane, hlanes], hh, hc,
    fun d _ => State.logOnly_congr (by rw [State.rd, State.rd, hr]), ho⟩

theorem lineOut (s : State) (l c e : Nat) (bs : List SlkBlock) : LaneAt P s (s.lineOut l c e bs) := by
  unfold State.lineOut
  split
  · exact .refl s
  · exact .of_same rfl rfl rfl rfl ⟨[_], rfl⟩

theorem sendBlocks (s : State) (kind : String) (l : Nat) (bs : List SlkBlock) : LaneAt P s (s.sendBlocks kind l bs) :=
  LaneAt.trans (t := s.send kind (if l < 64 then l else l - 64) ((bs.headD idleBlock).bytes.map (·.toNat)))
    (.of_same rfl rfl rfl rfl ⟨[_], rfl⟩) (lineOut ..)

theorem setTx (hl : P l) (s : State) (x : LaneTx) : LaneAt P s (s.setTx l x) := by
  unfold State.setTx
  split
  · exact .refl s
  · exact (modLane hl _).trans (.of_same rfl rfl rfl rfl ⟨[_], rfl⟩)

theorem emit (s : State) (o : Output) : LaneAt P s (s.emit o) := .of_same rfl rfl rfl rfl ⟨[o], rfl⟩

theorem setState (hl : P l) (hlt : l < 24) (s : State) (hi lo v : Nat) : LaneAt P s (s.setFld (Reg.LANE_STATE l) hi lo v) :=
  wn _ (.inl ⟨l, hlt, hl, .inl rfl⟩) (by simp only [Reg.LANE_STATE]; omega)

/-! #### What stays of every lane -/

theorem cfg (h : LaneAt P s t) (hm : m < 24) : t.rd (Reg.LANE_CFG m) = s.rd (Reg.LANE_CFG m) :=
  h.rd _ (not_laneReg (by simp only [Reg.LANE_CFG]; omega) (by simp only [Reg.LANE_CFG]; omega))

theorem laneRole (h : LaneAt P s t) (hm : m < 24) : t.laneRole m = s.laneRole m := by
  rw [State.laneRole, State.fld, State.rn, h.cfg hm]
  rfl

theorem laneCfgRate (h : LaneAt P s t) (hm : m < 24) : t.laneCfgRate m = s.laneCfgRate m := by
  rw [State.laneCfgRate, State.fld, State.rn, h.cfg hm]
  rfl

theorem groupOf (h : LaneAt P s t) (hm : m < 24) : t.groupOf m = s.groupOf m := by
  unfold State.groupOf
  rw [h.laneRole hm, State.fld, State.rn, h.cfg hm]
  rfl

theorem isSardy (h : LaneAt P s t) (hm : m < 24) : t.isSardy m = s.isSardy m := by
  rw [State.isSardy, h.laneRole hm]
  rfl

theorem members (h : LaneAt P s t) (g : Nat) : t.members g = s.members g := by
  unfold State.members rangeFilter
  exact List.filter_congr fun m hm => by rw [h.laneRole (List.mem_range.mp hm)]

theorem state (h : LaneAt P s t) (hP : ¬ P m) (hm : m < 24) : t.rd (Reg.LANE_STATE m) = s.rd (Reg.LANE_STATE m) :=
  h.rd _ (not_laneReg_other hP (.inl rfl) hm)

theorem laneSt (h : LaneAt P s t) (hP : ¬ P m) (hm : m < 24) : t.laneSt m = s.laneSt m := by
  rw [State.laneSt, State.fld, State.rn, h.state hP hm]
  rfl

theorem laneBit (h : LaneAt P s t) (hP : ¬ P m) (hm : m < 24) (i : Nat) : t.laneBit m i = s.laneBit m i := by
  rw [State.laneBit, State.rn, h.state hP hm]
  rfl

end LaneAt

/-! #### A change of one lane -/

/-- A lane but what a change of its state may set. -/
def Lane.core (x : Lane) : Lane :=
  { x with linkedSince := none, downSince := 0, substSince := none, oneStep := false, tx := .squelched }

/-- A change of the state of lane `l` that leaves all bits of its state but `I`. -/
structure LaneMove (l : Nat) (I : List Nat) (s t : State) : Prop where
  at_ : LaneAt (· = l) s t
  bits : ∀ i ∉ I, t.laneBit l i = s.laneBit l i
  core : (t.lane l).core = (s.lane l).core

namespace LaneMove

theorem refl (s : State) : LaneMove l [] s s := ⟨.refl s, fun _ _ => rfl, rfl⟩

theorem trans (h : LaneMove l I s t) (k : LaneMove l J t u) : LaneMove l (I ++ J) s u :=
  ⟨h.at_.trans k.at_, fun i hi => (k.bits i fun e => hi (List.mem_append_right I e)).trans (h.bits i fun e => hi (List.mem_append_left J e)),
    k.core.trans h.core⟩

theorem mono (h : LaneMove l I s t) (hIJ : ∀ i ∈ I, i ∈ J) : LaneMove l J s t := ⟨h.at_, fun i hi => h.bits i fun e => hi (hIJ i e), h.core⟩

theorem ite {c : Prop} [Decidable c] (h : LaneMove l I s t) (k : LaneMove l I s u) : LaneMove l I s (if c then t else u) := by
  split
  · exact h
  · exact k

/-- What leaves the register of the lane's state. -/
theorem of_at (h : LaneAt (· = l) s t) (hs : t.rd (Reg.LANE_STATE l) = s.rd (Reg.LANE_STATE l)) (hx : t.lanes = s.lanes) : LaneMove l [] s t :=
  ⟨h, fun i _ => by rw [State.laneBit, State.rn, hs]; rfl, by rw [State.lane, State.lane, hx]⟩

theorem of_fault (h : FaultSide s t) (hl : l < 24) : LaneMove l [] s t := by
  refine .of_at (.of_fault h) (h.rd (faultReg_low (by simp only [Reg.LANE_STATE]; omega))) ?_
  obtain ⟨_, _, _, rfl, -⟩ := h
  rfl

theorem wn {a : Nat} (n : Nat) (ha : LaneReg (· = l) a) (hlow : a < 0xD0000) (hne : Reg.LANE_STATE l ≠ a) : LaneMove l [] s (s.wn a n) :=
  .of_at (.wn n ha hlow) (State.rd_wr_ne _ _ hne) (State.wn_lanes ..)

theorem modLane (f : Lane → Lane) (hf : ∀ x, (f x).core = x.core) : LaneMove l [] s (s.modLane l f) :=
  ⟨.modLane (P := (· = l)) rfl f, fun _ _ => rfl, by rw [s.lane_modLane_self, hf]⟩

theorem of_same (hr : t.regs = s.regs) (hlanes : t.lanes = s.lanes) (hh : t.hold = s.hold) (hc : t.clk = s.clk) (ho : ∃ o, t.out = o ++ s.out) : LaneMove l [] s t :=
  .of_at (.of_same hr hlanes hh hc ho) (by rw [State.rd, State.rd, hr]) hlanes

theorem sendBlocks (s : State) (kind : String) (m : Nat) (bs : List SlkBlock) : LaneMove l [] s (s.sendBlocks kind m bs) :=
  .of_at (.sendBlocks ..) (by rw [State.rd, State.rd, (s.sendBlocks_sides kind m bs).1]) (s.sendBlocks_sides kind m bs).2.2

theorem setTx (s : State) (x : LaneTx) : LaneMove l [] s (s.setTx l x) := by
  refine ⟨.setTx (P := (· = l)) rfl s x, fun i _ => by rw [State.laneBit, State.rn, State.rd, (s.setTx_sides l x).1]; rfl, ?_⟩
  unfold State.setTx
  split
  · rfl
  · exact (modLane (fun y => { y with tx := x }) fun _ => rfl).core

theorem emit (s : State) (o : Output) : LaneMove l [] s (s.emit o) := .of_same rfl rfl rfl rfl ⟨[o], rfl⟩

theorem setState (hl : l < 24) (s : State) {hi lo : Nat} (v : Nat) (h : lo ≤ hi) (hw : hi < 32) :
    LaneMove l (List.range' lo (hi + 1 - lo)) s (s.setFld (Reg.LANE_STATE l) hi lo v) := by
  refine ⟨.setState (P := (· = l)) rfl hl s hi lo v, fun i hi' => State.bit_setFld_beside s h hw ?_, by rw [State.lane, State.setFld_lanes]; rfl⟩
  rw [List.mem_range'_1] at hi'
  omega

theorem setBit (hl : l < 24) (s : State) {i : Nat} (b : Bool) (hi : i < 32) : LaneMove l [i] s (s.setLaneBit l i b) := by
  have h := setState hl s b.toNat (Nat.le_refl i) hi
  rwa [Nat.add_sub_cancel_left] at h

/-- A field all of whose bits stay. -/
theorem fld (h : LaneMove l I s t) (hi lo : Nat) (hI : ∀ i ∈ I, i < lo ∨ hi < i) : t.fld (Reg.LANE_STATE l) hi lo = s.fld (Reg.LANE_STATE l) hi lo := by
  refine Nat.eq_of_testBit_eq fun i => ?_
  rw [State.fld, State.fld, testBit_bits, testBit_bits]
  by_cases hlt : i < hi + 1 - lo
  · exact congrArg _ (h.bits (lo + i) fun e => by have := hI _ e; omega)
  · simp [hlt]

theorem laneSt (h : LaneMove l I s t) (hI : ∀ i ∈ I, 3 < i) : t.laneSt l = s.laneSt l := h.fld 3 0 fun i hi => .inr (hI i hi)

theorem laneRate (h : LaneMove l I s t) (hI : ∀ i ∈ I, i < 4 ∨ 6 < i) : t.laneRate l = s.laneRate l := h.fld 6 4 hI

/-- A register that the change does not write. -/
theorem rd (h : LaneMove l I s t) {a : Nat} (ha : ¬ LaneReg (· = l) a) : t.rd a = s.rd a := h.at_.rd a ha

end LaneMove

/-! #### The operations on a lane -/

theorem State.loadLatency_laneMove (s : State) {p : Nat} (hp : p < 512) (l m : Nat) : LaneMove l [] s (s.loadLatency p m) := by
  have hlow (u : State) (v a : Nat) (ha : 0x20000 ≤ a ∧ a < 0x30000) : LaneMove l [] u (u.wn a v) :=
    .wn v (.inr (.inr (.inr (.inl ha)))) (by omega) (by simp only [Reg.LANE_STATE]; omega)
  exact (hlow s _ _ (by simp only [Reg.TIME_PORT_TXLAT]; omega)).trans (hlow _ _ _ (by simp only [Reg.TIME_PORT_RXLAT]; omega))

theorem State.groupStat_laneMove (s : State) (l : Nat) (hg : g < 4) (hi lo v : Nat) : LaneMove l [] s (s.setFld (Reg.SLK_GRP_STAT g) hi lo v) :=
  .wn _ (.inr (.inr (.inr (.inr (.inr (.inl (by simp only [Reg.SLK_GRP_STAT]; omega))))))) (by simp only [Reg.SLK_GRP_STAT]; omega)
    (by simp only [Reg.LANE_STATE, Reg.SLK_GRP_STAT]; omega)

theorem State.dropExchanges_laneMove (s : State) (l k : Nat) : LaneMove l [] s (s.dropExchanges k) := by
  unfold State.dropExchanges
  split
  · split
    · exact .refl s
    · unfold State.measureBroken
      split <;> exact .of_same rfl rfl rfl rfl ⟨[], rfl⟩
  · exact .refl s

theorem State.groupSettle_laneMove (s : State) (l : Nat) (hg : g < 4) : LaneMove l [] s (s.groupSettle g) := by
  have hshow : LaneMove l [] s (s.groupShow g) := (s.groupStat_laneMove l hg _ _ _).trans (State.groupStat_laneMove _ l hg _ _ _)
  obtain h | ⟨m, h⟩ := s.groupSettle_eq g
  · exact h ▸ hshow
  · exact h ▸ (hshow.trans (State.loadLatency_laneMove _ (by omega) l m)).trans (State.dropExchanges_laneMove ..)

theorem State.sendMasks_laneMove (s : State) (l g : Nat) (ms : List Nat) : LaneMove l [] s (ms.foldl (fun u m => u.sendMask g m) s) :=
  List.foldlRecOn (motive := LaneMove l [] s) ms _ (.refl s) fun _ hu _ _ => hu.trans (.sendBlocks ..)

/-- A lane that leaves its group: nothing of its state but that. -/
theorem State.groupRemove_laneMove (s : State) (hl : l < 24) : LaneMove l [13] s (s.groupRemove l) := by
  unfold State.groupRemove
  refine .ite ?_ ((LaneMove.refl s).mono (by simp))
  have h1 := (LaneMove.setBit hl s false (i := 13) (by decide)).trans (.modLane (fun x => { x with substSince := some s.clk, oneStep := true }) fun _ => rfl)
  exact (h1.trans (State.groupSettle_laneMove _ l (s.groupOf_lt l))).trans (State.sendMasks_laneMove ..)

theorem State.groupRemove_out (s : State) (hl : l < 24) : (s.groupRemove l).laneBit l 13 = false := by
  unfold State.groupRemove
  split
  · next h =>
    have h1 := (LaneMove.modLane (s := s.setLaneBit l 13 false) (l := l) (fun x => { x with substSince := some s.clk, oneStep := true }) fun _ => rfl).trans
      (State.groupSettle_laneMove _ l (s.groupOf_lt l))
    exact ((h1.trans (State.sendMasks_laneMove ..)).bits 13 (by simp)).trans (s.bit_setFld_same (by decide))
  · next h => exact Bool.eq_false_iff.mpr h

theorem State.groupRemove_none (h : s.laneBit l 13 = false) : s.groupRemove l = s := if_neg (by simp [h])

theorem State.condClear_laneMove (s : State) (hl : l < 24) (d i : Nat) : LaneMove l [] s (s.condClear d i) := .of_fault (condClear_faultSide ..) hl

theorem State.laneMap_laneMove (s : State) {a : Nat} (ha : a = Reg.LANE_LINKED ∨ a = Reg.LANE_TEST_MAP) (hi lo v : Nat) :
    LaneMove l [] s (s.setFld a hi lo v) := by
  refine .wn _ (ha.elim (fun e => .inr (.inl e)) fun e => .inr (.inr (.inl e))) ?_ ?_
  all_goals simp only [Reg.LANE_LINKED, Reg.LANE_TEST_MAP, Reg.LANE_STATE] at ha ⊢
  all_goals omega

theorem State.laneStMac_laneMove (s : State) (hl : l < 24) (st was : Nat) : LaneMove l [] s (s.laneStMac l st was) := by
  have hm : s.fld (Reg.LANE_CFG l) 7 6 < 4 := bits_lt _ _ _
  unfold State.laneStMac
  dsimp only
  generalize s.fld (Reg.LANE_CFG l) 7 6 = m at hm
  have hstat (u : State) (hi lo v : Nat) : LaneMove l [] u (u.setFld (Reg.MAC_STAT m) hi lo v) :=
    .wn _ (.inr (.inr (.inr (.inr (.inl (by simp only [Reg.MAC_STAT]; omega)))))) (by simp only [Reg.MAC_STAT]; omega)
      (by simp only [Reg.LANE_STATE, Reg.MAC_STAT]; omega)
  have h1 := hstat s 0 0 (if st = 5 then 1 else 0)
  have h2 := LaneMove.ite (c := st = 5 ∧ was ≠ 5) (h1.trans (State.loadLatency_laneMove _ (p := m) (by omega) l l)) h1
  exact .ite (.ite ((h2.trans (hstat _ _ _ _)).trans (State.condClear_laneMove _ hl _ _)) h2) (.refl s)

theorem State.laneStTest_laneMove (s : State) (hl : l < 24) (st was : Nat) : LaneMove l [] s (s.laneStTest l st was) :=
  .ite (.refl s) (State.condClear_laneMove _ hl 102 l)

theorem State.laneStLink_laneMove (s : State) (hl : l < 24) (st was : Nat) : LaneMove l [] s (s.laneStLink l st was) := by
  have hat (u : State) (n : Nat) : LaneMove l [] u (u.setPair (Reg.LANE_LINKED_AT l) n) :=
    (LaneMove.wn _ (.inl ⟨l, hl, rfl, .inr (.inl rfl)⟩) (by simp only [Reg.LANE_LINKED_AT]; omega)
      (by simp only [Reg.LANE_STATE, Reg.LANE_LINKED_AT]; omega)).trans
      (.wn _ (.inl ⟨l, hl, rfl, .inr (.inr rfl)⟩) (by simp only [Reg.LANE_LINKED_AT]; omega)
        (by simp only [Reg.LANE_STATE, Reg.LANE_LINKED_AT]; omega))
  unfold State.laneStLink
  have h1 := LaneMove.ite (c := was = 5) (.refl s) ((hat s s.now64).trans (.modLane (fun x => { x with linkedSince := some s.clk }) fun _ => rfl))
  refine .ite ?_ (.ite (.modLane _ fun _ => rfl) (.refl s))
  dsimp only
  generalize (if was = 5 then s else _ : State) = v at h1
  have h2 := LaneMove.ite (c := v.laneRole l = 5 ∧ was ≠ 5)
    (h1.trans (.of_same (t := { v with slk := { v.slk with credits := tabErase v.slk.credits (8 + l) } }) rfl rfl rfl rfl ⟨[], rfl⟩)) h1
  generalize (if v.laneRole l = 5 ∧ was ≠ 5 then _ else v : State) = w at h2
  have h3 := LaneMove.ite (c := w.flt.resets.any (·.1 == .lane l) = true) (h2.trans (.of_same (t := w.laneBack l) rfl rfl rfl rfl ⟨[], rfl⟩)) h2
  have h4 := h3.trans (State.condClear_laneMove _ hl 96 l)
  exact .ite (h4.trans (State.condClear_laneMove _ hl 97 l)) h4

/-- A change of a lane's state leaves all bits of its register but the state's own and bit 10. -/
theorem State.setLaneSt_laneMove (s : State) (hl : l < 24) (st : Nat) : LaneMove l [0, 1, 2, 3, 10] s (s.setLaneSt l st) := by
  rw [State.setLaneSt_eq]
  have h1 := (((LaneMove.setState hl s (hi := 3) (lo := 0) st (by decide) (by decide)).trans (State.laneMap_laneMove _ (.inl rfl) l l (if st = 5 then 1 else 0))).trans
    (State.laneMap_laneMove _ (.inr rfl) l l (if st = 7 then 1 else 0))).trans (LaneMove.setBit hl _ (i := 10) (st == 2) (by decide))
  have h2 := (h1.trans (State.laneStMac_laneMove _ hl st (s.laneSt l))).trans (State.laneStTest_laneMove _ hl st (s.laneSt l))
  exact (h2.trans (State.laneStLink_laneMove _ hl _ _)).mono (by decide)

/-- What follows the registers of the lane itself. -/
theorem State.setLaneSt_after (s : State) (hl : l < 24) (st : Nat) : LaneMove l [] (s.laneStRegs l st) (s.setLaneSt l st) := by
  rw [State.setLaneSt_eq]
  exact ((State.laneStMac_laneMove _ hl _ _).trans (State.laneStTest_laneMove _ hl _ _)).trans (State.laneStLink_laneMove _ hl _ _)

theorem State.setLaneSt_laneSt (s : State) (hl : l < 24) {st : Nat} (hst : st < 16) : (s.setLaneSt l st).laneSt l = st := by
  have h1 := ((State.laneMap_laneMove (l := l) (s.setFld (Reg.LANE_STATE l) 3 0 st) (.inl rfl) l l (if st = 5 then 1 else 0)).trans
    (State.laneMap_laneMove _ (.inr rfl) l l (if st = 7 then 1 else 0))).trans (LaneMove.setBit hl _ (i := 10) (st == 2) (by decide))
  rw [(s.setLaneSt_after hl st).laneSt (by simp), State.laneStRegs]
  exact (h1.laneSt (by decide)).trans (s.fld_setFld_fits (by decide) (by decide) (by simpa using hst))

theorem State.setLaneBit_self (s : State) (l : Nat) {i : Nat} (b : Bool) (hi : i < 32) : (s.setLaneBit l i b).laneBit l i = b := by
  rw [State.laneBit, State.setLaneBit, s.bit_setFld_same hi]
  cases b <;> rfl

theorem State.laneFld_of_bits {hi lo : Nat} (h : ∀ i, lo ≤ i → i ≤ hi → t.laneBit l i = s.laneBit l i) :
    t.fld (Reg.LANE_STATE l) hi lo = s.fld (Reg.LANE_STATE l) hi lo := by
  refine Nat.eq_of_testBit_eq fun i => ?_
  rw [State.fld, State.fld, testBit_bits, testBit_bits]
  by_cases hlt : i < hi + 1 - lo
  · exact congrArg _ (h (lo + i) (by omega) (by omega))
  · simp [hlt]

theorem State.setLaneSt_regs (s : State) (hl : l < 24) {st : Nat} (hst : st ≠ 5) (hr : s.laneRole l ≠ 1) :
    (s.setLaneSt l st).regs = (s.laneStRegs l st).regs := by
  have h1 := ((((LaneMove.setState hl s (hi := 3) (lo := 0) st (by decide) (by decide)).trans (State.laneMap_laneMove _ (.inl rfl) l l (if st = 5 then 1 else 0))).trans
    (State.laneMap_laneMove _ (.inr rfl) l l (if st = 7 then 1 else 0))).trans (LaneMove.setBit hl _ (i := 10) (st == 2) (by decide))).at_.laneRole hl
  have hmac (was : Nat) : (s.laneStRegs l st).laneStMac l st was = s.laneStRegs l st := if_neg fun e => hr (h1.symm.trans e)
  rw [State.setLaneSt_eq, hmac]
  generalize s.laneStRegs l st = v
  have htest : (v.laneStTest l st (s.laneSt l)).regs = v.regs := by
    unfold State.laneStTest
    split
    · rfl
    · exact State.condClear_regs ..
  rw [State.laneStLink, if_neg hst, ← htest]
  split <;> rfl

/-- Whether a lane shows as under test. -/
theorem State.setLaneSt_testMap (s : State) (hl : l < 24) {st : Nat} (hst : st ≠ 5) (hr : s.laneRole l ≠ 1) :
    (s.setLaneSt l st).fld Reg.LANE_TEST_MAP l l = if st = 7 then 1 else 0 := by
  have hlt : (if st = 7 then 1 else 0) < 2 ^ (l + 1 - l) := by
    rw [Nat.add_sub_cancel_left]
    split <;> decide
  rw [State.fld, State.rn, State.rd, s.setLaneSt_regs hl hst hr]
  exact (State.fld_setFld_ne _ _ _ _ _ _ (by simp only [Reg.LANE_STATE, Reg.LANE_TEST_MAP]; omega)).trans
    (State.fld_setFld_fits _ (Nat.le_refl l) (by omega) hlt)

theorem State.now64_of_time (h : t.time = s.time) : t.now64 = s.now64 := by
  rw [State.now64, State.now64, State.ns, State.ns, h]

theorem State.laneStRegs_time (s : State) (l st : Nat) : (s.laneStRegs l st).time = s.time := by
  unfold State.laneStRegs
  rw [State.setLaneBit_time, State.setFld_time, State.setFld_time, State.setFld_time]

theorem State.laneStTest_time (s : State) (l st was : Nat) : (s.laneStTest l st was).time = s.time := by
  unfold State.laneStTest
  split
  · rfl
  · exact State.condClear_time ..

theorem State.regs_ite {c : Prop} [Decidable c] {r : Tab Word} (h : t.regs = r) (k : u.regs = r) : (if c then t else u).regs = r := by
  split
  · exact h
  · exact k

/-- The registers of a lane that becomes LINKED. -/
theorem State.laneStLink_regs (s : State) (l : Nat) {was : Nat} (hwas : was ≠ 5) :
    (s.laneStLink l 5 was).regs = (s.setPair (Reg.LANE_LINKED_AT l) s.now64).regs := by
  obtain ⟨v, hv⟩ : ∃ v, v = s.setPair (Reg.LANE_LINKED_AT l) s.now64 := ⟨_, rfl⟩
  unfold State.laneStLink
  rw [if_pos rfl, if_neg hwas, ← hv]
  dsimp only
  have h1 : (v.modLane l fun x => { x with linkedSince := some s.clk }).regs = v.regs := rfl
  generalize (v.modLane l fun x => { x with linkedSince := some s.clk }) = w at h1
  have h2 := State.regs_ite (c := w.laneRole l = 5 ∧ was ≠ 5)
    (t := { w with slk := { w.slk with credits := tabErase w.slk.credits (8 + l) } }) h1 h1
  generalize (if w.laneRole l = 5 ∧ was ≠ 5 then _ else w : State) = x at h2
  have h3 := State.regs_ite (c := x.flt.resets.any (·.1 == .lane l) = true) (t := x.laneBack l) h2 h2
  have h4 := (State.condClear_regs _ 96 l).trans h3
  exact State.regs_ite ((State.condClear_regs ..).trans h4) h4

/-- The link's start in ledger time. -/
theorem State.setLaneSt_linkedAt (s : State) (hl : l < 24) (hr : s.laneRole l ≠ 1) (hwas : s.laneSt l ≠ 5) :
    (s.setLaneSt l 5).pair (Reg.LANE_LINKED_AT l) = s.now64 % 2 ^ 64 := by
  have h1 := ((((LaneMove.setState hl s (hi := 3) (lo := 0) 5 (by decide) (by decide)).trans (State.laneMap_laneMove _ (.inl rfl) l l 1)).trans
    (State.laneMap_laneMove _ (.inr rfl) l l 0)).trans (LaneMove.setBit hl _ (i := 10) false (by decide))).at_.laneRole hl
  have hmac (was : Nat) : (s.laneStRegs l 5).laneStMac l 5 was = s.laneStRegs l 5 := if_neg fun e => hr (h1.symm.trans e)
  rw [State.setLaneSt_eq, hmac]
  have hnow := State.now64_of_time ((State.laneStTest_time (s.laneStRegs l 5) l 5 (s.laneSt l)).trans (s.laneStRegs_time l 5))
  generalize (s.laneStRegs l 5).laneStTest l 5 (s.laneSt l) = v at hnow
  rw [State.pair, State.rn, State.rn, State.rd, State.rd, v.laneStLink_regs l hwas]
  exact (State.pair_setPair ..).trans (by rw [hnow])

/-- The lane's own abort (R206). -/
theorem State.laneAbort_spec (s : State) (hl : l < 24) : (s.laneAbort l).laneSt l = 1
    ∧ (∀ i ∉ [0, 1, 2, 3, 9, 10, 13, 19], (s.laneAbort l).laneBit l i = s.laneBit l i)
    ∧ (s.laneAbort l).rn (Reg.LANE_BACKOFF l) = min 1000 (2 * s.fld (Reg.LANE_BACKOFF l) 10 0)
    ∧ ((s.laneAbort l).lane l).backoffUntil = s.clk + ms (s.fld (Reg.LANE_BACKOFF l) 10 0)
    ∧ ((s.laneAbort l).lane l).fails = (s.lane l).fails ∧ .pin "SQUELCH" l true ∈ (s.laneAbort l).out
    ∧ ∃ w n, LaneAt (· = l) s w ∧ LaneAt (· = l) (w.wn (Reg.LANE_BACKOFF l) n) (s.laneAbort l) := by
  obtain ⟨b, hb⟩ : ∃ b, b = s.fld (Reg.LANE_BACKOFF l) 10 0 := ⟨_, rfl⟩
  obtain ⟨v, hv⟩ : ∃ v, v = (((s.groupRemove l).setLaneSt l 1).setLaneBit l 9 false).setLaneBit l 19 false := ⟨_, rfl⟩
  have hst : v.laneSt l = 1 := by
    rw [hv, ((LaneMove.setBit hl _ false (i := 9) (by decide)).trans (LaneMove.setBit hl _ false (i := 19) (by decide))).laneSt (by decide)]
    exact State.setLaneSt_laneSt _ hl (by decide)
  have hmove : LaneMove l [13, 0, 1, 2, 3, 10, 9, 19] s v := by
    rw [hv]
    exact (((s.groupRemove_laneMove hl).trans (State.setLaneSt_laneMove _ hl 1)).trans (LaneMove.setBit hl _ false (i := 9) (by decide))).trans
      (LaneMove.setBit hl _ false (i := 19) (by decide))
  obtain ⟨w, hw⟩ : ∃ w, w = v.wn (Reg.LANE_BACKOFF l) (min 1000 (2 * b)) := ⟨_, rfl⟩
  have hwst : w.rd (Reg.LANE_STATE l) = v.rd (Reg.LANE_STATE l) := hw ▸ State.rd_wr_ne _ _ (by simp only [Reg.LANE_STATE, Reg.LANE_BACKOFF]; omega)
  have hwlanes : w.lanes = v.lanes := hw ▸ State.wn_lanes ..
  have hback : w.rn (Reg.LANE_BACKOFF l) = min 1000 (2 * b) := by
    rw [hw, State.rn_wn_self]
    exact Nat.mod_eq_of_lt (by omega)
  obtain ⟨f, hf⟩ : ∃ f : Lane → Lane, f = fun x =>
    { x with
      backoffUntil := w.clk + ms b, hails := 0, lastHail := none, stepAgreed := none
      passed := false, partnerPassed := false, txSwitch := none, rxSwitch := none, rejoinSince := none
      standIn := none } := ⟨_, rfl⟩
  have heq : s.laneAbort l = ((w.modLane l f).setTx l .squelched).emit (.pin "SQUELCH" l true) := by
    rw [hf, hw, hv, hb]
    rfl
  have htx : LaneMove l [] (w.modLane l f) (s.laneAbort l) := heq ▸ (LaneMove.setTx _ .squelched).trans (.emit ..)
  have hmod : LaneAt (· = l) w (w.modLane l f) := .modLane (P := (· = l)) rfl f
  have hcore := htx.core.trans (congrArg Lane.core (w.lane_modLane_self l f))
  have hfails := congrArg Lane.fails hmove.core
  have hregs : (s.laneAbort l).regs = w.regs := by rw [heq]; exact ((w.modLane l f).setTx_sides l .squelched).1
  have hrn (a : Nat) : (s.laneAbort l).rn a = w.rn a := by rw [State.rn, State.rn, State.rd, State.rd, hregs]
  have hstate : (s.laneAbort l).rn (Reg.LANE_STATE l) = v.rn (Reg.LANE_STATE l) := (hrn _).trans (congrArg BitVec.toNat hwst)
  refine ⟨?_, fun i hi => ?_, ?_, ?_, ?_, ?_, v, min 1000 (2 * b), hmove.at_, hw ▸ hmod.trans htx.at_⟩
  · rw [State.laneSt, State.fld, hstate]
    exact hst
  · rw [State.laneBit, hstate]
    exact hmove.bits i (by simpa using (by simp at hi; omega : ¬ (i = 13 ∨ i = 0 ∨ i = 1 ∨ i = 2 ∨ i = 3 ∨ i = 10 ∨ i = 9 ∨ i = 19)))
  · rw [hrn, hback, hb]
  · refine (congrArg Lane.backoffUntil hcore).trans ?_
    rw [hf, ← hb]
    have hclk : w.clk = s.clk := (hw ▸ State.wn_clk ..).trans hmove.at_.clk
    exact congrArg (· + ms b) hclk
  · refine (congrArg Lane.fails hcore).trans ?_
    rw [hf, State.lane, hwlanes]
    exact hfails
  · rw [heq]
    exact List.mem_cons_self

end Sys2Proof.Machine
end

section
/-! ### Forwarding, routes and presence: the obligation -/

namespace Sys2Proof.Machine

variable {s t u : State} {l m g : Nat}

theorem State.pair_congr {a : Nat} (h : t.rd a = s.rd a) (h4 : t.rd (a + 4) = s.rd (a + 4)) : t.pair a = s.pair a := by
  rw [State.pair, State.rn, State.rn, h, h4]
  rfl

/-! #### Alignment and skew of a group -/

/-- The registers of the links, but those of a group's state. -/
theorem not_laneReg_link {P : Nat → Prop} {a : Nat} (ha : 0x40000 ≤ a ∧ a < 0x50000) (hstat : a % 64 ≠ 0 ∨ a < 0x40100 ∨ 0x40200 ≤ a) : ¬ LaneReg P a := by
  rintro (⟨l, hl, -, h⟩ | h | h | h | h | h | h)
  · simp only [Reg.LANE_STATE, Reg.LANE_LINKED_AT] at h
    omega
  any_goals simp only [Reg.LANE_LINKED, Reg.LANE_TEST_MAP] at h
  any_goals omega
  rw [faultReg_low (by omega)] at h
  exact absurd h (by decide)

/-- A lane taken out of its group for its skew. -/
def State.skewOut (s : State) (g l ns : Nat) : State :=
  let s := { s with slk := { s.slk with skewSince := tabErase s.slk.skewSince g } }
  let s := ((s.raiseOnce 130 g ns).bump (Reg.LANE_LOCK_LOSS l)).groupRemove l
  (s.setLaneSt l 6).modLane l fun x => { x with relockSince := s.clk }

theorem State.skewJudge_far {c : Nat} (h : s.groupSkew g = (c, l)) (hc : 640 < clocksNs c) :
    s.skewJudge g = (s.wn (Reg.SLK_GRP_SKEW g) (min 65535 (clocksNs c))).skewOut g l (clocksNs c) := by
  unfold State.skewJudge
  rw [h]
  exact if_pos hc

theorem State.skewOut_spec (hl : l < 24) (hlog : s.logOnly 130 = true) (ns : Nat) : (s.skewOut g l ns).laneSt l = 6 ∧ (s.skewOut g l ns).laneBit l 13 = false
    ∧ (s.skewOut g l ns).hold = s.hold ∧ ∀ a, 0x40000 ≤ a ∧ a < 0x50000 → a % 64 ≠ 0 → (s.skewOut g l ns).rd a = s.rd a := by
  obtain ⟨v, hv, hvr, hvh, hvlog⟩ : ∃ v : State, v = { s with slk := { s.slk with skewSince := tabErase s.slk.skewSince g } } ∧ v.regs = s.regs ∧ v.hold = s.hold
      ∧ v.logOnly 130 = true := ⟨_, rfl, rfl, rfl, hlog⟩
  have hfault := raiseOnce_faultSide v 130 g ns hvlog
  obtain ⟨x, hx⟩ : ∃ x, x = (v.raiseOnce 130 g ns).bump (Reg.LANE_LOCK_LOSS l) := ⟨_, rfl⟩
  have hremove := x.groupRemove_laneMove hl
  have hst := (x.groupRemove l).setLaneSt_laneMove hl 6
  have heq : s.skewOut g l ns = ((x.groupRemove l).setLaneSt l 6).modLane l fun y => { y with relockSince := (x.groupRemove l).clk } := by
    rw [hx, hv]; rfl
  rw [heq]
  refine ⟨State.setLaneSt_laneSt _ hl (by decide), (hst.bits 13 (by decide)).trans (x.groupRemove_out hl), ?_, fun a ha hmod => ?_⟩
  · refine ((hremove.trans hst).at_.hold).trans ?_
    rw [hx, State.bump_hold, hfault.hold, hvh]
  · refine ((hremove.trans hst).rd (not_laneReg_link ha (.inl hmod))).trans ?_
    rw [hx, State.rd_bump_ne _ (by simp only [Reg.LANE_LOCK_LOSS]; omega) (by simp only [Reg.LANE_LOCK_LOSS]; omega),
      hfault.rd (faultReg_low (by omega)), State.rd, State.rd, hvr]

theorem State.skewJudge_near {c : Nat} (h : s.groupSkew g = (c, l)) (hc : clocksNs c ≤ 640) (hnone : tabGet? s.slk.skewSince g = none) :
    ∃ v, v = s.wn (Reg.SLK_GRP_SKEW g) (clocksNs c)
      ∧ s.skewJudge g = { v with slk := { s.slk with skewSince := tabSet s.slk.skewSince g s.clk } } := by
  refine ⟨_, rfl, ?_⟩
  unfold State.skewJudge
  rw [h]
  dsimp only
  rw [if_neg (by omega), Nat.min_eq_right (by omega)]
  obtain ⟨v, hv⟩ : ∃ v, v = s.wn (Reg.SLK_GRP_SKEW g) (clocksNs c) := ⟨_, rfl⟩
  have hslk : v.slk = s.slk := hv ▸ State.wn_slk ..
  have hclk : v.clk = s.clk := hv ▸ State.wn_clk ..
  rw [← hv, hslk, hnone, hclk]

/-- What an ALIGN block says is read from registers. -/
theorem State.alignBlock_of_regs (h : t.regs = s.regs) (hl : l < 24) (g am : Nat) : t.alignBlock g l am = s.alignBlock g l am := by
  have hrd (a : Nat) : t.rd a = s.rd a := by rw [State.rd, State.rd, h]
  have hsame : LanesSame s t := .of_regs fun a _ _ => hrd a
  unfold State.alignBlock
  rw [hsame.memberNo hl]
  simp only [State.fld, State.rn, hrd]

/-- Nothing is shed of a link that nothing asks for. -/
theorem shedBelow_none (hd : s.phy.demand = []) (n rate : Nat) : shedBelow n rate (s.demands g) = 0 := by
  have hz : s.demands g = [0, 0, 0, 0, 0, 0, 0, 0] := by
    rw [State.demands, hd]
    rfl
  rw [hz]
  unfold shedBelow
  dsimp only
  rw [List.range_succ_eq_map, List.find?_cons_of_pos (by simp)]
  rfl

/-- The masks of a group at an ALIGN (R213, R255). -/
def State.alignMasked (s : State) (g mask now : Nat) : State :=
  let old := s.fld (Reg.SLK_GRP_STAT g) 3 0
  let s := (s.setFld (Reg.SLK_GRP_STAT g) 3 0 mask).setFld (Reg.SLK_GRP_STAT g) 7 4 now
  if mask = old then s else
    let s := s.bump (Reg.SLK_GRP_RESTRIPE g)
    s.setTimeLink g { s.timeLink g with sent := [], got := [] }

/-- What a group of `n` members sheds. -/
def State.alignShed (s : State) (g n : Nat) : State :=
  let k := shedBelow n (s.groupRate g) (s.demands g)
  let s := s.setFld (Reg.SLK_GRP_STAT g) 18 16 k
  if k = 0 then s.condClear 131 g else s.raiseOnce 131 g k

/-- The ALIGN blocks of a period. -/
def State.alignSend (s : State) (g am : Nat) (here : List Nat) : State :=
  let s := { s with slk := { s.slk with amCount := tabSet s.slk.amCount g (am, s.clk) } }
  let s := s.setLinkTx g { s.linkTx g with deal := 0 }
  here.foldl (fun s l => s.sendBlocks "ALIGN" l [s.alignBlock g l am]) s

/-- The registers of a group at an ALIGN whose masks have changed to that of member 0. -/
def State.alignMasks (s : State) (g : Nat) : State :=
  let s := ((s.setFld (Reg.SLK_GRP_STAT g) 3 0 1).setFld (Reg.SLK_GRP_STAT g) 7 4 1).bump (Reg.SLK_GRP_RESTRIPE g)
  (s.setTimeLink g { s.timeLink g with sent := [], got := [] }).setFld (Reg.SLK_GRP_STAT g) 18 16 0

/-- The first ALIGN of a group of one lane. -/
def State.alignFirst (s : State) (g l : Nat) : State := (s.condClear 131 g).alignSend g 1 [l]

theorem State.alignMasks_spec (s : State) (hg : g < 3) : (s.alignMasks g).fld (Reg.SLK_GRP_STAT g) 3 0 = 1
    ∧ (s.alignMasks g).fld (Reg.SLK_GRP_STAT g) 7 4 = 1 ∧ (s.alignMasks g).fld (Reg.SLK_GRP_STAT g) 18 16 = 0
    ∧ (s.alignMasks g).pair (Reg.SLK_GRP_RESTRIPE g) = min (s.pair (Reg.SLK_GRP_RESTRIPE g) + 1) (2 ^ 64 - 1)
    ∧ (s.alignMasks g).hold = s.hold ∧ (s.alignMasks g).clk = s.clk ∧ (s.alignMasks g).sent = s.sent := by
  obtain ⟨v, hv⟩ : ∃ v, v = s.setFld (Reg.SLK_GRP_STAT g) 3 0 1 := ⟨_, rfl⟩
  obtain ⟨w, hw⟩ : ∃ w, w = v.setFld (Reg.SLK_GRP_STAT g) 7 4 1 := ⟨_, rfl⟩
  obtain ⟨x, hx⟩ : ∃ x, x = w.bump (Reg.SLK_GRP_RESTRIPE g) := ⟨_, rfl⟩
  obtain ⟨y, hy, hyregs, hyhold, hyclk, hysent⟩ : ∃ y, y = x.setTimeLink g { x.timeLink g with sent := [], got := [] } ∧ y.regs = x.regs ∧ y.hold = x.hold
      ∧ y.clk = x.clk ∧ y.sent = x.sent := ⟨_, rfl, rfl, rfl, rfl, rfl⟩
  have heq : s.alignMasks g = y.setFld (Reg.SLK_GRP_STAT g) 18 16 0 := by rw [hy, hx, hw, hv]; rfl
  have hne : Reg.SLK_GRP_STAT g ≠ Reg.SLK_GRP_RESTRIPE g ∧ Reg.SLK_GRP_STAT g ≠ Reg.SLK_GRP_RESTRIPE g + 4 := by
    simp only [Reg.SLK_GRP_STAT, Reg.SLK_GRP_RESTRIPE]; omega
  have hyfld (hi lo : Nat) : y.fld (Reg.SLK_GRP_STAT g) hi lo = w.fld (Reg.SLK_GRP_STAT g) hi lo := by
    rw [State.fld, State.rn, State.rd, hyregs, hx]
    exact congrArg (fun r : Word => bits r.toNat hi lo) (w.rd_bump_ne hne.1 hne.2)
  have hpair (u : State) (hi lo n : Nat) : (u.setFld (Reg.SLK_GRP_STAT g) hi lo n).pair (Reg.SLK_GRP_RESTRIPE g) = u.pair (Reg.SLK_GRP_RESTRIPE g) := by
    rw [State.pair, State.rn, State.rn, State.setFld, State.wn, State.rd_wr_ne _ _ hne.1.symm, State.rd_wr_ne _ _ hne.2.symm]
    rfl
  rw [heq]
  refine ⟨?_, ?_, State.fld_setFld_fits _ (by decide) (by decide) (by decide), ?_, ?_, ?_, ?_⟩
  · rw [State.fld_setFld_beside _ (by decide) (by decide) (by decide), hyfld, hw, State.fld_setFld_beside _ (by decide) (by decide) (by decide), hv]
    exact s.fld_setFld_fits (by decide) (by decide) (by decide)
  · rw [State.fld_setFld_beside _ (by decide) (by decide) (by decide), hyfld, hw]
    exact v.fld_setFld_fits (by decide) (by decide) (by decide)
  · rw [hpair, State.pair, State.rn, State.rn, State.rd, State.rd, hyregs, hx]
    refine (w.pair_bumpBy _ 1).trans ?_
    rw [hw, hpair, hv, hpair]
  · rw [State.setFld_hold, hyhold, hx, State.bump_hold, hw, State.setFld_hold, hv, State.setFld_hold]
  · rw [State.setFld_clk, hyclk, hx, State.bump_clk, hw, State.setFld_clk, hv, State.setFld_clk]
  · rw [State.sent, State.setFld_out]
    refine hysent.trans ?_
    rw [State.sent, hx, State.bump_out, hw, State.setFld_out, hv, State.setFld_out]
    rfl

theorem State.alignFirst_spec (s : State) (hl : l < 24) : (s.alignFirst g l).regs = s.regs ∧ (s.alignFirst g l).hold = s.hold
    ∧ (s.alignFirst g l).sent = .message "ALIGN" l (((s.alignFirst g l).alignBlock g l 1).bytes.map (·.toNat)) :: s.sent
    ∧ tabGet? (s.alignFirst g l).slk.amCount g = some (1, s.clk) := by
  obtain ⟨v, hv⟩ : ∃ v, v = s.condClear 131 g := ⟨_, rfl⟩
  have hfault := condClear_faultSide s 131 g
  have hclk : v.clk = s.clk := hv ▸ State.condClear_clk ..
  have hsent : v.sent = s.sent := by
    obtain ⟨_, _, _, h, -⟩ := hfault
    rw [hv, h]
    rfl
  obtain ⟨w, hw, hwregs, hwhold, hwsent, hwslk⟩ : ∃ w : State, w = ({ v with slk := { v.slk with amCount := tabSet v.slk.amCount g (1, v.clk) } } : State).setLinkTx g
      { v.linkTx g with deal := 0 } ∧ w.regs = v.regs ∧ w.hold = v.hold ∧ w.sent = v.sent ∧ w.slk.amCount = tabSet v.slk.amCount g (1, v.clk) :=
    ⟨_, rfl, rfl, rfl, rfl, rfl⟩
  have heq : s.alignFirst g l = w.sendBlocks "ALIGN" l [w.alignBlock g l 1] := by rw [hw, hv]; rfl
  obtain ⟨k1, k2, k3⟩ := w.sendBlocks_sides "ALIGN" l [w.alignBlock g l 1]
  have hregs := k1.trans (hwregs.trans (hv ▸ State.condClear_regs s 131 g))
  rw [heq]
  refine ⟨hregs, ?_, ?_, ?_⟩
  · rw [(sendBlocks_linkSide ..).hold, hwhold, hv, hfault.hold]
  · rw [State.alignBlock_of_regs (s := w) k1 hl, w.sendBlocks_sent "ALIGN" hl, hwsent, hsent]
    rfl
  · rw [k2, hwslk, hclk]
    exact tabGet?_tabSet_self ..

def State.alignPeriod (s : State) (g : Nat) : State :=
  let here := s.inGroup g
  let last := tabGet? s.slk.amCount g
  let period := 16384 * 66 * 256 / [400, 1650, 3300, 4125, 8250].getD (s.groupRate g) 400
  if here.isEmpty ∨ last.any (fun x => !s.elapsed x.2 period) then s
  else
    let now := maskOf ((here.map s.memberNo).filter fun m => bit (s.fld (Reg.SLK_GRP_STAT g) 15 12) m)
    let mask := if last.isNone then now else s.fld (Reg.SLK_GRP_STAT g) 7 4 &&& now
    ((s.alignMasked g mask now).alignShed g ((List.range 4).filter fun m => bit mask m).length).alignSend g
      (((last.map (·.1)).getD 0 + 1) % 2 ^ 24) here

theorem exec_alignPeriod (dt : Nat) (g : Fin 3) (s : State) : exec (.alignPeriod dt g) s = act dt s fun u => u.alignPeriod g := by
  show execAlignPeriod dt g s = _
  unfold execAlignPeriod
  refine congrArg (act dt s) (funext fun u => ?_)
  unfold State.alignPeriod State.alignMasked State.alignShed State.alignSend
  dsimp only

/-- The first ALIGN of a group of one lane, in its place. -/
theorem State.alignPeriod_first (hin : s.inGroup g = [l]) (hheard : s.fld (Reg.SLK_GRP_STAT g) 15 12 = 15)
    (hmask : s.fld (Reg.SLK_GRP_STAT g) 3 0 = 0) (hno : s.memberNo l = 0) (hdem : s.phy.demand = []) (hnone : tabGet? s.slk.amCount g = none) :
    s.alignPeriod g = (s.alignMasks g).alignFirst g l := by
  have hnow : maskOf (([l].map s.memberNo).filter fun m => bit 15 m) = 1 := by
    rw [List.map_cons, hno]
    rfl
  unfold State.alignPeriod
  dsimp only
  rw [hin, hheard, hnone, hnow]
  refine (if_neg (by simp)).trans ?_
  rw [if_pos (show (none : Option (Nat × Nat)).isNone = true from rfl)]
  refine congrArg (fun u : State => u.alignSend g 1 [l]) ?_
  obtain ⟨v, hv⟩ : ∃ v, v = ((s.setFld (Reg.SLK_GRP_STAT g) 3 0 1).setFld (Reg.SLK_GRP_STAT g) 7 4 1).bump (Reg.SLK_GRP_RESTRIPE g) := ⟨_, rfl⟩
  obtain ⟨w, hw⟩ : ∃ w, w = v.setTimeLink g { v.timeLink g with sent := [], got := [] } := ⟨_, rfl⟩
  have hdem' : w.phy.demand = [] := by
    rw [← hdem, hw, ← (show v.phy = s.phy by rw [hv, State.bump_phy, State.setFld_phy, State.setFld_phy])]
    rfl
  have hmasked : s.alignMasked g 1 1 = w := by
    unfold State.alignMasked
    dsimp only
    rw [hmask, if_neg (by decide), ← hv, hw]
  rw [hmasked, State.alignShed, shedBelow_none hdem', State.alignMasks]
  dsimp only
  rw [if_pos rfl, ← hv, hw]

/-! #### The obligation -/

/-- The streams that leave on group 1. -/
def State.streamExport (s : State) (r : Fin 32) (line x count : Nat) : State :=
  let w := s.rn (Reg.ING_SRC_EXPORT r)
  let groups := if !bit w 8 then []
    else if s.topo = 2 then (if bits w 11 9 = 0 then [] else s.ringGroups)
    else [0, 1, 2].filter fun g => bit w (9 + g)
  match s.exportPacket (s.rcv r) (bits w 7 0) line x count with
  | some p => groups.foldl (fun s g => s.groupSend g "STREAM" (Machine.streamPacket 0 p)) s
  | none => s

theorem exec_streamExportSend (dt : Nat) (r : Fin 32) (line x count : Nat) (s : State) :
    exec (.streamExportSend dt r line x count) s = act dt s fun u => u.streamExport r line x count := rfl

theorem State.streamExport_one {r : Fin 32} {line px cnt : Nat} {k : StreamPacket} (h8 : bit (s.rn (Reg.ING_SRC_EXPORT r)) 8 = true) (htopo : s.topo = 1)
    (hgroups : bits (s.rn (Reg.ING_SRC_EXPORT r)) 11 9 = 2) (hk : s.exportPacket (s.rcv r) (bits (s.rn (Reg.ING_SRC_EXPORT r)) 7 0) line px cnt = some k) :
    s.streamExport r line px cnt = s.groupSend 1 "STREAM" (Machine.streamPacket 0 k) := by
  unfold State.streamExport
  dsimp only
  rw [hk]
  dsimp only
  rw [if_neg (by simp [h8]), if_neg (by simp [htopo]), exportGroups_one hgroups]
  rfl

/-- The identity of the device, and what a presence message of a node does. -/
def State.ownUid (s : State) : Nat := (List.range 4).foldr (fun i a => a * 2 ^ 32 + s.rn (Reg.SYS_UID i)) 0

def State.peerNoted (s : State) (node uid : Nat) : State :=
  if node = s.rn Reg.TWIN_PEER then { s with twin := { s.twin with peerUid := some uid } } else s

def State.presenceHeard (s : State) (g hops node uid role : Nat) : State :=
  if node = s.nodeId then
    if uid = s.ownUid then s
    else ({ s with twin := { s.twin with dupNode := true } }).raiseOnce 144 0 role
  else (s.peerNoted node uid).learnRoute g hops node

theorem exec_presenceReceive (dt : Nat) (g : Fin 3) (hops node uid role : Nat) (s : State) :
    exec (.presenceReceive dt g hops node uid role) s = act dt s fun u => u.presenceHeard g hops node uid role := rfl

/-- The first node heard of. -/
theorem State.presenceHeard_first {hops node uid role : Nat} (hn : node ≠ s.nodeId) (hnone : s.twin.routes = []) :
    ∃ v : State, s.presenceHeard g hops node uid role = v.wn Reg.SLK_ROUTE_COUNT 1 ∧ v.twin.routes = [⟨node, g, hops + 1, s.clk⟩] ∧ v.regs = s.regs
      ∧ v.hold = s.hold := by
  have hv : (s.peerNoted node uid).nodeId = s.nodeId ∧ (s.peerNoted node uid).twin.routes = s.twin.routes ∧ (s.peerNoted node uid).clk = s.clk
      ∧ (s.peerNoted node uid).regs = s.regs ∧ (s.peerNoted node uid).hold = s.hold := by
    unfold State.peerNoted
    split <;> exact ⟨rfl, rfl, rfl, rfl, rfl⟩
  obtain ⟨h1, h2, h3, h4, h5⟩ := hv
  have hlearn := State.learnRoute_first (s := s.peerNoted node uid) (g := g) (hops := hops) (n := node) (by rwa [h1]) (h2.trans hnone)
  exact ⟨_, (if_neg hn).trans hlearn, by rw [h3], h4, h5⟩

/-- Settles O42, message by message. -/
theorem caravanTraffic : Obligations.CaravanTraffic := by
  unfold Obligations.CaravanTraffic
  intro dt hops o n q line px cnt c g h l r p m k s hcore hlog
  have hlog' : ∀ e ∈ [130, 131, 133, 144], (s.advance dt).logOnly e = true := hlog
  refine ⟨fun htype hhops hends ho hn hb htopo hlimit hon hroute hhg hshed hlen => ?_, fun htype hhops hends ho hn hlimit => ?_,
    fun h8 htopo hgroups hshed hk => ?_, fun ho hdup hdt => ?_, fun ho hdup h4 h5 => ?_, fun hin hheard hmask hno hdem hnone => ?_, ?_,
    fun hskew hc hgl h13 => ?_, fun hskew hc hnone => ?_, fun hdup htopo hlive hshed hnone => ?_, fun hn hnone => ?_, fun huid => ?_, fun hroutes hdt => ?_⟩
  case refine_1 =>
    have hspec := State.forward_mgmt_sent (s := s.advance dt) (g := g) htype hends ho hn hb htopo (hhops ▸ hlimit) hon hroute
      (fun e => hhg (Fin.ext e)) hlen h.2 hshed
    obtain ⟨u, hu⟩ : ∃ u, u = (s.advance dt).forward g p := ⟨_, rfl⟩
    rw [← hu] at hspec
    exact completes_eq (u := u) rfl hcore hu.symm ⟨sameHold_of_hold hspec.1, hspec.2⟩
  case refine_2 =>
    obtain ⟨h1, h2, h3⟩ := State.forward_dropped (s := s.advance dt) g.2 htype hends ho hn (hhops ▸ hlimit) (hlog' 133 (by simp))
    obtain ⟨u, hu⟩ : ∃ u, u = (s.advance dt).forward g p := ⟨_, rfl⟩
    rw [← hu] at h1 h2 h3
    exact completes_eq (u := u) rfl hcore hu.symm ⟨h1, h2, sameHold_of_hold h3⟩
  case refine_3 =>
    have heq := State.streamExport_one (s := s.advance dt) h8 htopo hgroups hk
    have hfree := State.groupSend_free (s := s.advance dt) (g := 1) (kind := "STREAM") (p := streamPacket 0 k) (by decide)
      (hshed.trans_le (Nat.zero_le _))
    have hhold := (groupSend_linkSide (s.advance dt) (g := 1) (by decide) "STREAM" (streamPacket 0 k)).hold
    obtain ⟨u, hu⟩ : ∃ u, u = (s.advance dt).groupSend 1 "STREAM" (streamPacket 0 k) := ⟨_, rfl⟩
    rw [← hu] at heq hfree hhold
    exact completes_eq (u := u) (exec_streamExportSend ..) hcore heq ⟨sameHold_of_hold hhold, fun hf => ⟨(hfree hf).1, (hfree hf).2.2⟩⟩
  case refine_4 =>
    have heq := State.mgmtHeard_own (s := s.advance dt) (g := g) (hops := hops) (q := q) (m := m) ho
    obtain ⟨hregs, rs, regs, hv⟩ := (s.advance dt).learnRoute_keeps g hops o
    generalize (s.advance dt).learnRoute g hops o = v at heq hregs hv
    obtain ⟨tw, htw⟩ := State.mgmtTaken_again (s := v) (g := g) (q := q) (m := m) (o := o) (c := s.clk) (by rw [hv]; exact hdup)
      (by rw [hv]; exact Nat.add_lt_add_left hdt _)
    obtain ⟨w, hw, hwregs, hwhold, hwout⟩ : ∃ w : State, w = { v with twin := tw } ∧ w.regs = v.regs ∧ w.hold = v.hold ∧ w.out = v.out := ⟨_, rfl, rfl, rfl, rfl⟩
    have hwrd (a : Nat) : w.rd a = v.rd a := by rw [State.rd, State.rd, hwregs]
    have hbump : (w.bump Reg.SLK_DUP).hold = s.hold := (State.bump_hold ..).trans (hwhold.trans (by rw [hv]; rfl))
    refine completes_eq (u := w.bump Reg.SLK_DUP) (exec_mgmtReceive ..) hcore (heq.trans (htw.trans (by rw [hw]))) ⟨?_, ?_, sameHold_of_hold hbump⟩
    · refine (w.pair_bumpBy _ 1).trans ?_
      rw [State.pair_congr (hwrd _) (hwrd _), State.pair_congr (hregs Reg.SLK_DUP (by decide)) (hregs (Reg.SLK_DUP + 4) (by decide))]
      rfl
    · show (w.bump Reg.SLK_DUP).out = s.out
      rw [State.bump_out, hwout, hv]
      rfl
  case refine_5 =>
    have heq := State.mgmtHeard_own (s := s.advance dt) (g := g) (hops := hops) (q := q) (m := m) ho
    obtain ⟨hregs, rs, regs, hv⟩ := (s.advance dt).learnRoute_keeps g hops o
    generalize (s.advance dt).learnRoute g hops o = v at heq hregs hv
    have hnew := State.mgmtTaken_new (s := v) (g := g) (q := q) (m := m) (o := o) (by rw [hv]; exact hdup) h4 h5
    refine completes_eq (exec_mgmtReceive ..) hcore (heq.trans hnew) ⟨?_, ?_, sameHold_of_hold (by rw [hv]; rfl)⟩
    · rw [hv]; rfl
    · rw [hv]; rfl
  case refine_6 =>
    have hal := State.alignPeriod_first (s := s.advance dt) hin hheard hmask hno hdem hnone
    obtain ⟨a1, a2, a3, a4, a5, a6, a7⟩ := (s.advance dt).alignMasks_spec g.2
    generalize (s.advance dt).alignMasks g = v at hal a1 a2 a3 a4 a5 a6 a7
    obtain ⟨b1, b2, b3, b4⟩ := v.alignFirst_spec (g := g) l.2
    obtain ⟨u, hu⟩ : ∃ u, u = v.alignFirst g l := ⟨_, rfl⟩
    rw [← hu] at hal b1 b2 b3 b4
    have hrd (a : Nat) : u.rd a = v.rd a := by rw [State.rd, State.rd, b1]
    have hfld (hi lo : Nat) : u.fld (Reg.SLK_GRP_STAT g) hi lo = v.fld (Reg.SLK_GRP_STAT g) hi lo := by rw [State.fld, State.rn, hrd]; rfl
    refine completes_eq (exec_alignPeriod ..) hcore hal ⟨(hfld _ _).trans a1, (hfld _ _).trans a2, (hfld _ _).trans a3,
      (State.pair_congr (hrd _) (hrd _)).trans a4, b3.trans (by rw [a7]; rfl), b4.trans (by rw [a6]; rfl), sameHold_of_hold (b2.trans a5)⟩
  case refine_7 =>
    have hregs : RegsBut [Reg.SLK_GRP_STAT g] s ((s.advance dt).setFld (Reg.SLK_GRP_STAT g) 15 12 (q % 16)) :=
      fun a ha => State.rd_wr_ne _ _ (by simpa using ha)
    have hfld := (s.advance dt).fld_setFld_fits (a := Reg.SLK_GRP_STAT g) (hi := 15) (lo := 12) (v := q % 16) (by decide) (by decide) (Nat.mod_lt _ (by decide))
    have hhold := (s.advance dt).setFld_hold (Reg.SLK_GRP_STAT g) 15 12 (q % 16)
    obtain ⟨u, hu⟩ : ∃ u, u = (s.advance dt).setFld (Reg.SLK_GRP_STAT g) 15 12 (q % 16) := ⟨_, rfl⟩
    rw [← hu] at hregs hfld hhold
    exact completes_eq (u := u) rfl hcore hu.symm ⟨hfld, hregs, sameHold_of_hold hhold⟩
  case refine_8 =>
    have hfar := State.skewJudge_far (s := s.advance dt) hskew hc
    obtain ⟨v, hv⟩ : ∃ v, v = (s.advance dt).wn (Reg.SLK_GRP_SKEW g) (min 65535 (clocksNs c)) := ⟨_, rfl⟩
    have hvlog : v.logOnly 130 = true := by
      refine (State.logOnly_congr ?_).trans (hlog' 130 (by simp))
      rw [hv]
      exact State.rd_wr_ne _ _ (by simp only [Reg.FLT_DET_CFG, Reg.SLK_GRP_SKEW]; omega)
    obtain ⟨k1, k2, k3, k4⟩ := State.skewOut_spec (g := g) l.2 hvlog (clocksNs c)
    rw [← hv] at hfar
    obtain ⟨u, hu⟩ : ∃ u, u = v.skewOut g l (clocksNs c) := ⟨_, rfl⟩
    rw [← hu] at k1 k2 k3 k4 hfar
    refine completes_eq (u := u) rfl hcore hfar ⟨?_, k1, k2, sameHold_of_hold (k3.trans (by rw [hv, State.wn_hold]; rfl))⟩
    show u.rn _ = _
    rw [State.rn, k4 _ (by simp only [Reg.SLK_GRP_SKEW]; omega) (by simp only [Reg.SLK_GRP_SKEW]; omega), hv]
    exact (State.rn_wn_self ..).trans (Nat.mod_eq_of_lt (by omega))
  case refine_9 =>
    obtain ⟨v, hv, hnear⟩ := State.skewJudge_near (s := s.advance dt) hskew hc hnone
    have hlanes : v.lanes = s.lanes := by rw [hv, State.wn_lanes]; rfl
    have hhold : v.hold = s.hold := by rw [hv, State.wn_hold]; rfl
    have hregs : RegsBut [Reg.SLK_GRP_SKEW g] s v := hv ▸ fun a ha => State.rd_wr_ne _ _ (by simpa using ha)
    have hrn : v.rn (Reg.SLK_GRP_SKEW g) = clocksNs c := by
      rw [hv, State.rn_wn_self]
      exact Nat.mod_eq_of_lt (by omega)
    exact completes_eq rfl hcore hnear ⟨hrn, tabGet?_tabSet_self .., hlanes, hregs, sameHold_of_hold hhold⟩
  case refine_10 =>
    have hpres := State.presenceDue_one (s := s.advance dt) g.2 hdup htopo hlive hshed hnone
    obtain ⟨u, hu⟩ : ∃ u, u = (s.advance dt).presenceDue := ⟨_, rfl⟩
    rw [← hu] at hpres
    obtain ⟨h1, h2, h3⟩ := hpres
    exact completes_eq (u := u) (exec_presenceSend ..) hcore hu.symm ⟨h1, sameHold_of_hold h2, h3⟩
  case refine_11 =>
    obtain ⟨v, heq, hroutes, hvr, hvh⟩ := State.presenceHeard_first (s := s.advance dt) (g := g) (hops := hops) (uid := q) (role := o) hn hnone
    have hregs : RegsBut [Reg.SLK_ROUTE_COUNT] s (v.wn Reg.SLK_ROUTE_COUNT 1) := fun a ha =>
      (State.rd_wr_ne _ _ (by simpa using ha)).trans (by rw [State.rd, State.rd, hvr]; rfl)
    have hcount : (v.wn Reg.SLK_ROUTE_COUNT 1).rn Reg.SLK_ROUTE_COUNT = 1 := State.rn_wn_self ..
    exact completes_eq (exec_presenceReceive ..) hcore heq ⟨hroutes, hcount, hregs, sameHold_of_hold hvh⟩
  case refine_12 =>
    have hside := raiseOnce_faultSide ({ s.advance dt with twin := { (s.advance dt).twin with dupNode := true } } : State) 144 0 o (hlog' 144 (by simp))
    have htwin := hside.twin
    have hhold := hside.hold
    obtain ⟨u, hu⟩ : ∃ u, u = ({ s.advance dt with twin := { (s.advance dt).twin with dupNode := true } } : State).raiseOnce 144 0 o := ⟨_, rfl⟩
    rw [← hu] at htwin hhold
    refine completes_eq (u := u) (exec_presenceReceive ..) hcore ((if_pos rfl).trans ((if_neg (Ne.symm huid)).trans hu.symm)) ⟨?_, sameHold_of_hold hhold⟩
    show u.twin.dupNode = true
    rw [htwin]
  case refine_13 =>
    have hempty : (s.advance dt).twin.routes.filter (fun r => !(r.node == n && (s.advance dt).elapsed r.refreshed (ms 3500))) = [] := by
      rw [show (s.advance dt).twin.routes = [⟨n, g, hops, s.clk⟩] from hroutes]
      simp [State.elapsed, State.advance, hdt]
    have hregs : RegsBut [Reg.SLK_ROUTE_COUNT] s (({ s.advance dt with twin := { (s.advance dt).twin with routes := [] } } : State).wn Reg.SLK_ROUTE_COUNT 0) :=
      fun a ha => State.rd_wr_ne _ _ (by simpa using ha)
    have hcount : (({ s.advance dt with twin := { (s.advance dt).twin with routes := [] } } : State).wn Reg.SLK_ROUTE_COUNT 0).rn Reg.SLK_ROUTE_COUNT = 0 :=
      State.rn_wn_self ..
    refine completes_eq (u := ({ s.advance dt with twin := { (s.advance dt).twin with routes := [] } } : State).wn Reg.SLK_ROUTE_COUNT 0) rfl hcore ?_
      ⟨rfl, hcount, hregs, sameHold_of_hold rfl⟩
    dsimp only
    rw [hempty]
    rfl

end Sys2Proof.Machine
end

section
/-! ### What the operations on a lane do (R196 to R220) -/

namespace Sys2Proof.Machine

variable {s t u : State} {l m g : Nat} {P : Nat → Prop}

/-! #### What is sent -/

theorem State.setTx_lane (s : State) (l : Nat) (x : LaneTx) : (s.setTx l x).lane l = { s.lane l with tx := x } := by
  unfold State.setTx
  split
  · next h => rw [← h]
  · exact s.lane_modLane_self l fun y => { y with tx := x }

theorem State.hail_same (s : State) (l : Nat) (answer : Bool) : (s.hail l answer).regs = s.regs ∧ (s.hail l answer).lanes = s.lanes
    ∧ (s.hail l answer).hold = s.hold ∧ (s.hail l answer).clk = s.clk
    ∧ (s.hail l answer).sent = .message "HAIL" l ((s.hailBlock l answer).bytes.map (·.toNat)) :: s.sent := by
  obtain ⟨bs, hbs⟩ : ∃ bs, bs = (if answer then List.replicate 15 idleBlock else []) ++ [s.hailBlock l answer] := ⟨_, rfl⟩
  have heq : s.hail l answer = (s.send "HAIL" l ((s.hailBlock l answer).bytes.map (·.toNat))).lineOut l s.clk s.clk bs := by rw [hbs]; rfl
  rw [heq, State.lineOut_sent]
  refine ⟨?_, ?_, ?_, ?_, rfl⟩
  all_goals
    unfold State.lineOut
    split <;> rfl

theorem State.hail_laneMove (s : State) (l m : Nat) (answer : Bool) : LaneMove l [] s (s.hail m answer) := by
  obtain ⟨h1, h2, -⟩ := s.hail_same m answer
  refine .of_at ?_ (by rw [State.rd, State.rd, h1]) h2
  exact LaneAt.trans (t := s.send "HAIL" m ((s.hailBlock m answer).bytes.map (·.toNat))) (.of_same rfl rfl rfl rfl ⟨[_], rfl⟩) (.lineOut ..)

/-! #### Operations that change one lane alone -/

theorem State.setLaneSt_laneAt (hl : l < 24) (hP : P l) (s : State) (st : Nat) : LaneAt P s (s.setLaneSt l st) :=
  (s.setLaneSt_laneMove hl st).at_.mono fun _ h => h ▸ hP

theorem State.groupRemove_laneAt (hl : l < 24) (hP : P l) (s : State) : LaneAt P s (s.groupRemove l) :=
  (s.groupRemove_laneMove hl).at_.mono fun _ h => h ▸ hP

theorem State.reserveIdle_laneAt (hl : l < 24) (hP : P l) (s : State) : LaneAt P s (s.reserveIdle l) :=
  ((LaneAt.setState hP hl s 19 19 _).trans (State.setLaneSt_laneAt hl hP _ 9)).trans (.setTx hP _ _)

theorem State.groupJoin_laneAt (hl : l < 24) (hP : P l) (s : State) : LaneAt P s (s.groupJoin l) := by
  unfold State.groupJoin
  dsimp only
  split
  · next hg =>
    have h1 := LaneAt.ite (P := P) (s := s) (c := (s.inGroup (s.groupOf l)).isEmpty = true)
      (.of_same (t := { s with slk := { s.slk with credits := tabErase s.slk.credits (s.groupOf l) } }) rfl rfl rfl rfl ⟨[], rfl⟩) (.refl s)
    generalize s.groupOf l = g at hg h1 ⊢
    generalize (if (s.inGroup g).isEmpty = true then _ else s : State) = v at h1 ⊢
    have h2 : LaneAt P s (((v.setLaneBit l 13 true).modLane l fun x => { x with substSince := none, rejoinSince := none, oneStep := false }).groupSettle g) :=
      ((h1.trans (.setState hP hl v 13 13 _)).trans (.modLane hP _)).trans
        ((State.groupSettle_laneMove _ l (by omega)).at_.mono fun _ h => h ▸ hP)
    generalize ((v.setLaneBit l 13 true).modLane l _).groupSettle g = w at h2 ⊢
    have h3 := LaneAt.ite (c := w.memberNo l = w.fld (Reg.SLK_GRP_STAT g) 20 19)
      (h2.trans ((State.loadLatency_laneMove w (p := 5 + g) (by omega) l l).at_.mono fun _ h => h ▸ hP)) h2
    exact .ite (h3.trans ((State.condClear_laneMove _ hl 101 g).at_.mono fun _ h => h ▸ hP)) h3
  · exact .refl s

theorem State.linkUp_laneAt (hl : l < 24) (hP : P l) (s : State) (rate : Nat) : LaneAt P s (s.linkUp l rate) := by
  have h := ((LaneAt.setState hP hl s 6 4 rate).trans (State.setLaneSt_laneAt hl hP _ 5)).trans (LaneAt.setTx hP _ .idle)
  exact .ite (.ite (h.trans (State.reserveIdle_laneAt hl hP _)) (h.trans (State.groupJoin_laneAt hl hP _))) h

theorem State.startStep_laneAt (hl : l < 24) (hP : P l) (s : State) (rung target : Nat) : LaneAt P s (s.startStep l rung target) :=
  (((State.setLaneSt_laneAt hl hP s 4).trans (.modLane hP _)).trans (.setTx hP _ _)).trans (.sendBlocks ..)

theorem State.firstStep_laneAt (hl : l < 24) (hP : P l) (s : State) (target : Nat) : LaneAt P s (s.firstStep l target) :=
  .ite (State.linkUp_laneAt hl hP s 0) (State.startStep_laneAt hl hP s _ _)

/-- A group that starts its ladder changes the lanes that wait in EXCHANGE alone. -/
theorem State.groupStart_laneAt (s : State) (g : Nat) (h : s.laneSt l ≠ 3) : LaneAt (· ≠ l) s (s.groupStart g) := by
  have hms (m : Nat) (hm : m ∈ (s.members g).filter fun m => s.laneSt m == 3) : m < 24 ∧ m ≠ l := by
    obtain ⟨hm, hst⟩ := List.mem_filter.1 hm
    exact ⟨rangeFilter_lt hm, fun e => h (by simpa [e] using hst)⟩
  unfold State.groupStart
  dsimp only
  split
  · exact .foldl _ fun u _ m hm => State.firstStep_laneAt (hms m (List.mem_of_mem_filter hm)).1 (hms m (List.mem_of_mem_filter hm)).2 u _
  · split
    · exact .foldl _ fun u _ m hm => State.firstStep_laneAt (hms m hm).1 (hms m hm).2 u _
    · exact .refl s

/-! #### A lane aborted with its group -/

theorem State.laneAbort_clk (s : State) (hl : l < 24) : (s.laneAbort l).clk = s.clk := by
  obtain ⟨-, -, -, -, -, -, w, n, h, k⟩ := s.laneAbort_spec hl
  exact k.clk.trans ((State.wn_clk ..).trans h.clk)

theorem State.laneAbort_rd (s : State) (hl : l < 24) {a : Nat} (ha : ¬ LaneReg (· = l) a) (hb : a ≠ Reg.LANE_BACKOFF l) : (s.laneAbort l).rd a = s.rd a := by
  obtain ⟨-, -, -, -, -, -, w, n, h, k⟩ := s.laneAbort_spec hl
  exact (k.rd a ha).trans ((State.rd_wr_ne _ _ hb).trans (h.rd a ha))

theorem State.laneAbort_logOnly (s : State) (hl : l < 24) {d : Nat} (hd : d < 512) : (s.laneAbort l).logOnly d = s.logOnly d := by
  obtain ⟨-, -, -, -, -, -, w, n, h, k⟩ := s.laneAbort_spec hl
  exact (k.logOnly d hd).trans ((State.logOnly_congr (State.rd_wr_ne _ _ (by simp only [Reg.FLT_DET_CFG, Reg.LANE_BACKOFF]; omega))).trans (h.logOnly d hd))

theorem State.laneAbort_lane (s : State) (hl : l < 24) (hm : m ≠ l) : (s.laneAbort l).lane m = s.lane m := by
  obtain ⟨-, -, -, -, -, -, w, n, h, k⟩ := s.laneAbort_spec hl
  refine (k.lane m hm).trans (Eq.trans ?_ (h.lane m hm))
  rw [State.lane, State.wn_lanes]
  rfl

theorem State.abortAlone_spec (s : State) (hl : l < 24) : (s.abortAlone l).laneSt l = 1
    ∧ (s.abortAlone l).rn (Reg.LANE_BACKOFF l) = min 1000 (2 * s.fld (Reg.LANE_BACKOFF l) 10 0)
    ∧ ((s.abortAlone l).lane l).backoffUntil = s.clk + ms (s.fld (Reg.LANE_BACKOFF l) 10 0)
    ∧ .pin "SQUELCH" l true ∈ (s.abortAlone l).out ∧ (s.abortAlone l).hold = s.hold := by
  obtain ⟨h2, -, h4, h5, -, h7, -⟩ := s.laneAbort_spec hl
  have h1 := s.laneAbort_hold l
  generalize hv : s.laneAbort l = v at *
  have hside : LaneAt (· ≠ l) v (s.abortAlone l) := by
    unfold State.abortAlone
    dsimp only
    rw [hv]
    exact .ite (State.groupStart_laneAt v _ (by rw [h2]; decide)) (.refl v)
  obtain ⟨o, ho⟩ := hside.out
  refine ⟨(hside.laneSt (by simp) hl).trans h2, ?_, ?_, ?_, hside.hold.trans h1⟩
  · rw [State.rn, hside.rd _ (not_laneReg (.inl (by simp only [Reg.LANE_BACKOFF]; omega)) (by simp only [Reg.LANE_BACKOFF]; omega))]
    exact h4
  · rw [hside.lane l (by simp)]
    exact h5
  · rw [ho]
    exact List.mem_append_right o h7

/-! #### HAIL -/

theorem State.enterHail_spec (s : State) (hl : l < 24) : LaneAt (· = l) s (s.enterHail l) ∧ (s.enterHail l).laneSt l = 2 ∧ (s.enterHail l).laneRate l = 0
    ∧ ∀ i ∉ [0, 1, 2, 3, 4, 5, 6, 9, 10, 13, 19], (s.enterHail l).laneBit l i = s.laneBit l i := by
  obtain ⟨v, hv⟩ : ∃ v, v = (s.groupRemove l).setFld (Reg.LANE_STATE l) 6 4 0 := ⟨_, rfl⟩
  have hmove : LaneMove l [13, 4, 5, 6] s v := hv ▸ (s.groupRemove_laneMove hl).trans (LaneMove.setState hl _ (hi := 6) (lo := 4) 0 (by decide) (by decide))
  have hrate : v.laneRate l = 0 := hv ▸ State.fld_setFld_fits _ (by decide) (by decide) (by decide)
  have hst := v.setLaneSt_laneMove hl 2
  have hbits := (LaneMove.setBit hl (v.setLaneSt l 2) false (i := 19) (by decide)).trans (LaneMove.setBit hl _ false (i := 9) (by decide))
  obtain ⟨w, hw⟩ : ∃ w, w = ((v.setLaneSt l 2).setLaneBit l 19 false).setLaneBit l 9 false := ⟨_, rfl⟩
  rw [← hw] at hbits
  obtain ⟨f, hf⟩ : ∃ f : Lane → Lane, s.enterHail l = (w.modLane l f).setTx l .hail := by
    rw [hw, hv]
    exact ⟨_, rfl⟩
  have hall : LaneMove l [13, 4, 5, 6, 0, 1, 2, 3, 10, 19, 9] s w := (hmove.trans hst).trans hbits
  have hregs : (s.enterHail l).regs = w.regs := by rw [hf]; exact ((w.modLane l f).setTx_sides l .hail).1
  have hrn (a : Nat) : (s.enterHail l).rn a = w.rn a := by rw [State.rn, State.rn, State.rd, State.rd, hregs]
  refine ⟨?_, ?_, ?_, fun i hi => ?_⟩
  · rw [hf]
    exact (hall.at_.trans (.modLane (P := (· = l)) rfl f)).trans (.setTx (P := (· = l)) rfl _ _)
  · rw [State.laneSt, State.fld, hrn]
    exact (hbits.laneSt (by decide)).trans (v.setLaneSt_laneSt hl (by decide))
  · rw [State.laneRate, State.fld, hrn]
    exact (hbits.laneRate (by decide)).trans ((hst.laneRate (by decide)).trans hrate)
  · rw [State.laneBit, hrn]
    exact hall.bits i (by simp at hi ⊢; omega)

end Sys2Proof.Machine
end

section
/-! ### Hails, the ladder and back-off (R199 to R206, R223 to R227) -/

namespace Sys2Proof.Machine

variable {s t u : State} {l m g : Nat}

/-! #### A link that comes up, a step that starts -/

/-- A lane of no group comes up at a rate. -/
theorem State.linkUp_spec (s : State) (hl : l < 24) (hr : s.laneRole l = 5) {rate : Nat} : (s.linkUp l rate).laneSt l = 5
    ∧ (s.linkUp l rate).laneRate l = rate % 8 ∧ (s.linkUp l rate).laneBit l 9 = s.laneBit l 9
    ∧ (s.laneSt l ≠ 5 → (s.linkUp l rate).pair (Reg.LANE_LINKED_AT l) = s.now64 % 2 ^ 64) ∧ (s.linkUp l rate).hold = s.hold := by
  obtain ⟨v, hv⟩ : ∃ v, v = s.setFld (Reg.LANE_STATE l) 6 4 rate := ⟨_, rfl⟩
  have hmove : LaneMove l [4, 5, 6] s v := hv ▸ LaneMove.setState hl s (hi := 6) (lo := 4) rate (by decide) (by decide)
  have hrate : v.laneRate l = rate % 8 := hv ▸ State.fld_setFld_same _ (by decide) (by decide)
  have hst := v.setLaneSt_laneMove hl 5
  have htx := LaneMove.setTx (l := l) (v.setLaneSt l 5) .idle
  have hrole := (hst.trans htx).at_.laneRole hl
  have hlast : s.linkUp l rate = (v.setLaneSt l 5).setTx l .idle := by
    rw [hv]
    refine if_neg fun e => ?_
    rw [← hv, hrole, hmove.at_.laneRole hl, hr] at e
    omega
  have hnow : v.now64 = s.now64 := hv ▸ State.now64_of_time (State.setFld_time ..)
  rw [hlast]
  refine ⟨(htx.laneSt (by simp)).trans (v.setLaneSt_laneSt hl (by decide)), ?_, ?_, fun h => ?_, ?_⟩
  · exact (htx.laneRate (by simp)).trans ((hst.laneRate (by decide)).trans hrate)
  · exact (htx.bits 9 (by simp)).trans ((hst.bits 9 (by decide)).trans (hmove.bits 9 (by decide)))
  · rw [State.pair, State.rn, State.rn, State.rd, State.rd, (State.setTx_sides ..).1, ← hnow]
    exact v.setLaneSt_linkedAt hl (by rw [hmove.at_.laneRole hl, hr]; decide) (by rwa [hmove.laneSt (by decide)])
  · exact ((hmove.trans hst).trans htx).at_.hold

theorem State.startStep_spec (s : State) (hl : l < 24) (rung target : Nat) : (s.startStep l rung target).laneSt l = 4
    ∧ ((s.startStep l rung target).lane l).nextRung = rung ∧ ((s.startStep l rung target).lane l).target = target
    ∧ ((s.startStep l rung target).lane l).passed = false ∧ (s.startStep l rung target).hold = s.hold := by
  obtain ⟨v, hv⟩ : ∃ v, v = s.setLaneSt l 4 := ⟨_, rfl⟩
  have hst : v.laneSt l = 4 := hv ▸ s.setLaneSt_laneSt hl (by decide)
  have hhold : v.hold = s.hold := hv ▸ (s.setLaneSt_laneMove hl 4).at_.hold
  obtain ⟨f, hf⟩ : ∃ f : Lane → Lane, f = fun x =>
    { x with
      target := target, nextRung := rung, fromRate := v.laneRate l, stepAgreed := none, lastCount := 255, txSwitch := none
      rxSwitch := none, passed := false, partnerPassed := false } := ⟨_, rfl⟩
  obtain ⟨w, hw⟩ : ∃ w, w = (v.modLane l f).setTx l (.step rung target) := ⟨_, rfl⟩
  have heq : s.startStep l rung target = w.sendBlocks "STEP" l [stepBlock rung 255 target, idleBlock] := by rw [hw, hf, hv]; rfl
  obtain ⟨h1, -, h3⟩ := w.sendBlocks_sides "STEP" l [stepBlock rung 255 target, idleBlock]
  have hwregs : w.regs = v.regs := hw ▸ ((v.modLane l f).setTx_sides l _).1
  have hlane : (s.startStep l rung target).lane l = { f (v.lane l) with tx := .step rung target } := by
    rw [heq, State.lane, h3, ← State.lane, hw, State.setTx_lane, State.lane_modLane_self]
  rw [hlane, hf]
  refine ⟨?_, rfl, rfl, rfl, ?_⟩
  · rw [heq, State.laneSt, State.fld, State.rn, State.rd, h1, hwregs]
    exact hst
  · rw [heq, (sendBlocks_linkSide ..).hold, hw, (setTx_linkSide ..).hold]
    exact hhold

/-- The first step of a lane of no group, from the lowest rung. -/
theorem State.firstStep_tile (hr : s.laneRole l = 5) (hone : (s.lane l).oneStep = false) {target : Nat} (ht : target ≠ 0) :
    s.firstStep l target = s.startStep l 1 target := by
  unfold State.firstStep
  rw [if_neg ht, hr]
  have hbusy : (decide (2 ≤ 5 ∧ 5 ≤ 4) && !(s.inGroup (5 - 2)).isEmpty) = false := by simp
  dsimp only
  rw [hbusy, if_neg (by simp [hone]), if_neg (by simp)]

theorem State.rungUp_top {x : Lane} (hx : s.lane l = x) (h : x.nextRung = x.target) :
    s.rungUp l = (s.modLane l fun y => { y with fails := if y.failRung = y.nextRung then 0 else y.fails }).linkUp l x.target := by
  unfold State.rungUp
  rw [hx]
  exact if_pos h

theorem State.rungUp_next {x : Lane} (hx : s.lane l = x) (h : x.nextRung ≠ x.target) :
    s.rungUp l = (s.modLane l fun y => { y with fails := if y.failRung = y.nextRung then 0 else y.fails }).startStep l (x.nextRung + 1) x.target := by
  unfold State.rungUp
  rw [hx]
  exact if_neg h

/-! #### EXCHANGE -/

/-- A lane that takes its partner's first hail. -/
def State.exchangeFrom (s : State) (l : Nat) (h : Hail) : State :=
  let s := (s.setLaneBit l 12 false).condClear 98 l
  let s := s.wn (Reg.LANE_PARTNER l) (h.maxRate + 8 * h.profile)
  let s := (s.setLaneSt l 3).bump (Reg.LANE_TRAIN l)
  let s := s.modLane l fun x =>
    { x with exchSince := s.clk, hails := (if h.answer then 1 else 0), lastHail := some h }
  s.hail l true

theorem State.exchangeFrom_spec (s : State) (hl : l < 24) {h : Hail} (hv : hailValid h = true) : (s.exchangeFrom l h).laneSt l = 3
    ∧ (s.exchangeFrom l h).laneBit l 12 = false ∧ (s.exchangeFrom l h).rn (Reg.LANE_PARTNER l) = h.maxRate + 8 * h.profile
    ∧ ((s.exchangeFrom l h).lane l).exchSince = s.clk
    ∧ (s.exchangeFrom l h).pair (Reg.LANE_TRAIN l) = min (s.pair (Reg.LANE_TRAIN l) + 1) (2 ^ 64 - 1) ∧ (s.exchangeFrom l h).hold = s.hold := by
  have hfits : h.maxRate + 8 * h.profile < 2 ^ 32 := by
    simp only [hailValid, Bool.and_eq_true, Bool.or_eq_true, beq_iff_eq, decide_eq_true_eq] at hv
    omega
  obtain ⟨a, ha⟩ : ∃ a, a = (s.setLaneBit l 12 false).condClear 98 l := ⟨_, rfl⟩
  have hamove : LaneMove l [12] s a := ha ▸ (LaneMove.setBit hl s false (i := 12) (by decide)).trans (State.condClear_laneMove _ hl 98 l)
  have ha12 : a.laneBit l 12 = false := by
    rw [ha, (State.condClear_laneMove (s.setLaneBit l 12 false) hl 98 l).bits 12 (by simp)]
    exact s.setLaneBit_self l false (by decide)
  obtain ⟨b, hb⟩ : ∃ b, b = a.wn (Reg.LANE_PARTNER l) (h.maxRate + 8 * h.profile) := ⟨_, rfl⟩
  have hbst : b.rn (Reg.LANE_STATE l) = a.rn (Reg.LANE_STATE l) :=
    hb ▸ congrArg BitVec.toNat (State.rd_wr_ne _ _ (by simp only [Reg.LANE_STATE, Reg.LANE_PARTNER]; omega))
  have hcmove := b.setLaneSt_laneMove hl 3
  obtain ⟨c, hc⟩ : ∃ c, c = b.setLaneSt l 3 := ⟨_, rfl⟩
  rw [← hc] at hcmove
  obtain ⟨d, hd⟩ : ∃ d, d = c.bump (Reg.LANE_TRAIN l) := ⟨_, rfl⟩
  obtain ⟨e, he⟩ : ∃ e, e = d.modLane l fun x => { x with exchSince := d.clk, hails := (if h.answer then 1 else 0), lastHail := some h } := ⟨_, rfl⟩
  have heq : s.exchangeFrom l h = e.hail l true := by rw [he, hd, hc, hb, ha]; rfl
  obtain ⟨h1, h2, h3, -⟩ := e.hail_same l true
  have hdclk : d.clk = s.clk := by rw [hd, State.bump_clk, hcmove.at_.clk, hb, State.wn_clk, hamove.at_.clk]
  have hrd (r : Nat) : (s.exchangeFrom l h).rd r = d.rd r := by rw [heq, State.rd, h1, he]; rfl
  have hstate : (s.exchangeFrom l h).rn (Reg.LANE_STATE l) = c.rn (Reg.LANE_STATE l) := by
    rw [State.rn, hrd, hd, State.rd_bump_ne] <;> simp only [Reg.LANE_STATE, Reg.LANE_TRAIN]
    · rfl
    · omega
    · omega
  refine ⟨?_, ?_, ?_, ?_, ?_, ?_⟩
  · rw [State.laneSt, State.fld, hstate, hc]
    exact b.setLaneSt_laneSt hl (by decide)
  · rw [State.laneBit, hstate]
    refine (hcmove.bits 12 (by decide)).trans ?_
    rw [State.laneBit, hbst]
    exact ha12
  · rw [State.rn, hrd, hd, State.rd_bump_ne _ (by simp only [Reg.LANE_PARTNER, Reg.LANE_TRAIN]; omega) (by simp only [Reg.LANE_PARTNER, Reg.LANE_TRAIN]; omega),
      hcmove.rd (not_laneReg (.inl (by simp only [Reg.LANE_PARTNER]; omega)) (by simp only [Reg.LANE_PARTNER]; omega)), hb]
    exact (State.rn_wn_self ..).trans (Nat.mod_eq_of_lt hfits)
  · rw [heq, State.lane, h2, ← State.lane, he, State.lane_modLane_self, hdclk]
  · have hpc : c.pair (Reg.LANE_TRAIN l) = s.pair (Reg.LANE_TRAIN l) := by
      have htrain (o : Nat) (ho : o = 0 ∨ o = 4) : c.rd (Reg.LANE_TRAIN l + o) = s.rd (Reg.LANE_TRAIN l + o) := by
        have hn : ¬ LaneReg (· = l) (Reg.LANE_TRAIN l + o) := not_laneReg (.inl (by simp only [Reg.LANE_TRAIN]; omega)) (by simp only [Reg.LANE_TRAIN]; omega)
        rw [hcmove.rd hn, hb, State.wn, State.rd_wr_ne _ _ (by simp only [Reg.LANE_PARTNER, Reg.LANE_TRAIN]; omega), hamove.rd hn]
      exact State.pair_congr (htrain 0 (.inl rfl)) (htrain 4 (.inr rfl))
    rw [State.pair_congr (hrd _) (hrd _), hd, ← hpc]
    exact c.pair_bumpBy _ 1
  · rw [heq, h3, he, State.modLane_hold, hd, State.bump_hold, hcmove.at_.hold, hb, State.wn_hold, hamove.at_.hold]

/-- The state in which the exchange of hails ends. -/
def State.exchangeLast (s : State) (l : Nat) (h : Hail) (target : Nat) : State :=
  ((s.modLane l fun x => { x with hails := 16, lastHail := some h }).wn (Reg.LANE_PARTNER l) (h.maxRate + 8 * h.profile)).modLane l fun x =>
    { x with target := target }

theorem State.exchangeLast_spec (s : State) (h : Hail) (target : Nat) {x : Lane} (hx : s.lane l = x) :
    (s.exchangeLast l h target).rd (Reg.LANE_STATE l) = s.rd (Reg.LANE_STATE l) ∧ (s.exchangeLast l h target).rd (Reg.LANE_CFG l) = s.rd (Reg.LANE_CFG l)
      ∧ (s.exchangeLast l h target).lane l = { x with hails := 16, lastHail := some h, target := target }
      ∧ (s.exchangeLast l h target).time = s.time ∧ (s.exchangeLast l h target).hold = s.hold := by
  obtain ⟨v, hv⟩ : ∃ v, v = (s.modLane l fun x => { x with hails := 16, lastHail := some h }).wn (Reg.LANE_PARTNER l) (h.maxRate + 8 * h.profile) := ⟨_, rfl⟩
  have heq : s.exchangeLast l h target = v.modLane l fun x => { x with target := target } := hv ▸ rfl
  have hrd (a : Nat) (ha : a ≠ Reg.LANE_PARTNER l) : v.rd a = s.rd a := by
    rw [hv]
    exact State.rd_wr_ne _ _ ha
  have hlane : v.lane l = { x with hails := 16, lastHail := some h } := by
    rw [hv, State.lane, State.wn_lanes, ← State.lane, State.lane_modLane_self, hx]
  rw [heq]
  refine ⟨hrd _ (by simp only [Reg.LANE_STATE, Reg.LANE_PARTNER]; omega), hrd _ (by simp only [Reg.LANE_CFG, Reg.LANE_PARTNER]; omega), ?_, ?_, ?_⟩
  · rw [State.lane_modLane_self, hlane]
  · exact (congrArg State.time hv).trans (State.wn_time ..)
  · exact (congrArg State.hold hv).trans (State.wn_hold ..)

/-- The sixteenth identical answered hail of a tile lane. -/
theorem State.hail_sixteenth {h : Hail} {x : Lane} (hx : s.lane l = x) (hr : s.laneRole l = 5) (hans : h.answer = true) (hlast : x.lastHail = some h)
    (hhails : x.hails = 15) :
    (let n := if h.answer then (if x.lastHail = some h then x.hails + 1 else 1) else 0
      let s := s.modLane l fun x => { x with hails := n, lastHail := some h }
      let s := s.wn (Reg.LANE_PARTNER l) (h.maxRate + 8 * h.profile)
      if 16 ≤ n then
        let s := if s.laneRole l = 5 then s else s.wn (Reg.SLK_GRP_PEER (s.groupOf l)) h.node
        s.exchangeDone l (s.target l h.maxRate)
      else s) = (s.exchangeLast l h (s.target l h.maxRate)).firstStep l (s.target l h.maxRate) := by
  obtain ⟨v, hv⟩ : ∃ v, v = (s.modLane l fun x => { x with hails := 16, lastHail := some h }).wn (Reg.LANE_PARTNER l) (h.maxRate + 8 * h.profile) := ⟨_, rfl⟩
  have hrd (a : Nat) (ha : a ≠ Reg.LANE_PARTNER l) : v.rd a = s.rd a := by
    rw [hv]
    exact State.rd_wr_ne _ _ ha
  have hcfg (hi lo : Nat) : v.fld (Reg.LANE_CFG l) hi lo = s.fld (Reg.LANE_CFG l) hi lo := by
    rw [State.fld, State.rn, hrd _ (by simp only [Reg.LANE_CFG, Reg.LANE_PARTNER]; omega)]
    rfl
  have hrole : v.laneRole l = 5 := (hcfg 2 0).trans hr
  have htarget : v.target l h.maxRate = s.target l h.maxRate := by
    have hceil : v.fld (Reg.LANE_STATE l) 22 20 = s.fld (Reg.LANE_STATE l) 22 20 := by
      rw [State.fld, State.rn, hrd _ (by simp only [Reg.LANE_STATE, Reg.LANE_PARTNER]; omega)]
      rfl
    rw [State.target, State.target, State.laneCfgRate, State.laneCfgRate, hcfg, hrole, hr, hceil]
  rw [hans, hlast, hhails, if_pos rfl, if_pos rfl, if_pos (by decide), ← hv, if_pos hrole]
  show v.exchangeDone l (v.target l h.maxRate) = _
  rw [htarget, State.exchangeDone]
  rw [hrole, if_neg (by decide), if_neg (by decide), State.exchangeLast, ← hv]

/-- The exchange of a tile lane ends in time. -/
theorem completes_sixteenth {dt : Nat} {l : Fin 24} {h : Hail} {x : Lane} {P : State → Prop} (hcore : s.watch.core = true) (hx : s.lane l = x) (hr : s.laneRole l = 5)
    (hval : hailValid h = true) (hprof : h.profile = 1) (hst : s.laneSt l = 3) (hans : h.answer = true) (hlast : x.lastHail = some h) (hhails : x.hails = 15)
    (htime : s.clk + dt < x.exchSince + ms 20)
    (hp : ∀ u, u = ((s.advance dt).exchangeLast l h (s.target l h.maxRate)).firstStep l (s.target l h.maxRate) → P (acted dt s fun _ => u)) :
    Completes (.hailReceive dt l h) s P := by
  have hr' : (s.advance dt).laneRole l = 5 := hr
  have hx' : (s.advance dt).lane l = x := hx
  have hs : ¬ (!(s.advance dt).isSardy l) = true := by
    rw [State.isSardy, hr']
    decide
  have hv : ¬ hailValid h = false := by simp [hval]
  have he : (s.advance dt).exchanged l = false := by
    rw [State.exchanged, hx', hhails]
    simp
  have h2 : ¬ ((s.advance dt).laneSt l = 2 ∧ (s.advance dt).laneBit l 9 = true) := fun e => absurd (hst.symm.trans e.1) (by decide)
  have hpr : ¬ h.profile ≠ (s.advance dt).laneProfile l := by
    rw [State.laneProfile, hr', hprof]
    decide
  have hel : ¬ (s.advance dt).elapsed ((s.advance dt).lane l).exchSince (ms 20) = true := by
    rw [hx', State.elapsed, decide_eq_true_eq]
    exact Nat.not_le.2 htime
  refine completes_eq rfl hcore ((if_neg hs).trans ((if_neg hv).trans ((if_neg fun e => e.1 hr').trans ((if_neg h2).trans ((if_pos ⟨hst, he⟩).trans
    ((if_neg hpr).trans ((if_neg hel).trans (State.hail_sixteenth rfl hr' hans ?_ ?_)))))))) (hp _ rfl)
  · rw [hx', hlast]
  · rw [hx', hhails]

theorem State.mismatch_spec (s : State) (hl : l < 24) (hst : s.laneSt l = 2) (h98 : s.logOnly 98 = true) (profile : Nat) :
    (s.mismatch l profile).laneSt l = 2 ∧ (s.mismatch l profile).laneBit l 12 = true ∧ (s.mismatch l profile).lanes = s.lanes
      ∧ (s.mismatch l profile).hold = s.hold := by
  obtain ⟨v, hv⟩ : ∃ v, v = (s.setLaneBit l 12 true).setLaneBit l 10 false := ⟨_, rfl⟩
  have hmove : LaneMove l [10] (s.setLaneBit l 12 true) v := hv ▸ LaneMove.setBit hl _ false (i := 10) (by decide)
  have hfirst := LaneMove.setBit hl s true (i := 12) (by decide)
  have hside := raiseOnce_faultSide v 98 l profile (((hfirst.trans hmove).at_.logOnly 98 (by decide)).trans h98)
  have heq : s.mismatch l profile = v.raiseOnce 98 l profile := by
    unfold State.mismatch
    dsimp only
    rw [if_neg (by rw [hst]; decide), ← hv]
  have hlast := LaneMove.of_fault (l := l) hside hl
  rw [heq]
  refine ⟨?_, ?_, hside.lanes.trans ?_, ?_⟩
  · exact (hlast.laneSt (by simp)).trans (((hfirst.trans hmove).laneSt (by decide)).trans hst)
  · exact (hlast.bits 12 (by simp)).trans ((hmove.bits 12 (by simp)).trans (s.setLaneBit_self l true (by decide)))
  · rw [hv]
    exact (State.setFld_lanes ..).trans (State.setFld_lanes ..)
  · exact hside.hold.trans (hfirst.trans hmove).at_.hold

/-! #### A step not passed -/


/-- A failure at the rung of the last failure. -/
theorem State.stepFailed_spec (s : State) {x : Lane} (hx : s.lane l = x) (hl : l < 24) (h99 : s.logOnly 99 = true) (hrung : x.failRung = x.nextRung) :
    (s.stepFailed l).lane l = { x with fails := x.fails + 1, failRung := x.nextRung } ∧ (s.stepFailed l).rd (Reg.LANE_STATE l) = s.rd (Reg.LANE_STATE l)
      ∧ (s.stepFailed l).pair (Reg.LANE_STEP_FAIL l) = min (s.pair (Reg.LANE_STEP_FAIL l) + 1) (2 ^ 64 - 1) ∧ (s.stepFailed l).hold = s.hold
      ∧ ∀ d < 512, (s.stepFailed l).logOnly d = s.logOnly d := by
  have hlog (d : Nat) : (s.bump (Reg.LANE_STEP_FAIL l)).logOnly d = s.logOnly d :=
    State.logOnly_congr (s.rd_bump_ne (by simp only [Reg.FLT_DET_CFG, Reg.LANE_STEP_FAIL]; omega) (by simp only [Reg.FLT_DET_CFG, Reg.LANE_STEP_FAIL]; omega))
  have hside := raiseSec_faultSide (s.bump (Reg.LANE_STEP_FAIL l)) 99 l x.nextRung ((hlog 99).trans h99)
  obtain ⟨v, hv⟩ : ∃ v, v = (s.bump (Reg.LANE_STEP_FAIL l)).raiseSec 99 l x.nextRung := ⟨_, rfl⟩
  rw [← hv] at hside
  have heq : s.stepFailed l = v.modLane l fun y => { y with fails := x.fails + 1, failRung := x.nextRung } := by
    unfold State.stepFailed
    rw [hx]
    dsimp only
    rw [if_pos hrung, ← hv]
  have hlow (a : Nat) (ha : a < 0xD0000) : v.rd a = (s.bump (Reg.LANE_STEP_FAIL l)).rd a := hside.rd (faultReg_low ha)
  have hvlanes : v.lanes = s.lanes := hside.lanes.trans (State.bump_lanes ..)
  have hvlane : v.lane l = x := by rw [← hx, State.lane, hvlanes]; rfl
  rw [heq]
  refine ⟨?_, ?_, ?_, ?_, fun d hd => ?_⟩
  · rw [State.lane_modLane_self, hvlane]
  · show v.rd _ = _
    rw [hlow _ (by simp only [Reg.LANE_STATE]; omega)]
    exact s.rd_bump_ne (by simp only [Reg.LANE_STATE, Reg.LANE_STEP_FAIL]; omega) (by simp only [Reg.LANE_STATE, Reg.LANE_STEP_FAIL]; omega)
  · show v.pair _ = _
    rw [State.pair_congr (hlow _ (by simp only [Reg.LANE_STEP_FAIL]; omega)) (hlow _ (by simp only [Reg.LANE_STEP_FAIL]; omega))]
    exact s.pair_bumpBy _ 1
  · exact hside.hold.trans (State.bump_hold ..)
  · exact (hside.logOnly d hd).trans (hlog d)

/-- A ceiling lowered by one rung. -/
theorem State.lowerCeiling_spec (s : State) (hl : l < 24) (h97 : s.logOnly 97 = true) {rung : Nat} (hlo : 1 ≤ rung) (hhi : rung ≤ 4) :
    (s.lowerCeiling rung l).fld (Reg.LANE_STATE l) 22 20 = rung - 1 ∧ (s.lowerCeiling rung l).laneBit l 11 = true
      ∧ (s.lowerCeiling rung l).pair (Reg.LANE_STEP_FAIL l) = s.pair (Reg.LANE_STEP_FAIL l) ∧ (s.lowerCeiling rung l).hold = s.hold := by
  obtain ⟨v, hv⟩ : ∃ v, v = (s.setFld (Reg.LANE_STATE l) 22 20 (rung - 1)).setLaneBit l 11 true := ⟨_, rfl⟩
  have hne (a : Nat) (ha : a ≠ Reg.LANE_STATE l) : v.rd a = s.rd a := by
    rw [hv]
    exact (State.rd_wr_ne _ _ ha).trans (State.rd_wr_ne _ _ ha)
  have hlog : v.logOnly 97 = true := (State.logOnly_congr (hne _ (by simp only [Reg.FLT_DET_CFG, Reg.LANE_STATE]; omega))).trans h97
  have hside := raiseOnce_faultSide v 97 l rung hlog
  have hlow (a : Nat) (ha : a < 0xD0000) : (s.lowerCeiling rung l).rd a = v.rd a := by
    rw [← hside.rd (faultReg_low ha), hv]
    rfl
  have hstate : (s.lowerCeiling rung l).rn (Reg.LANE_STATE l) = v.rn (Reg.LANE_STATE l) := by
    rw [State.rn, hlow _ (by simp only [Reg.LANE_STATE]; omega)]
    rfl
  refine ⟨?_, ?_, ?_, ?_⟩
  · rw [State.fld, hstate, hv]
    refine (State.fld_setFld_beside _ (by decide) (by decide) (by decide)).trans (State.fld_setFld_fits _ (by decide) (by decide) ?_)
    show rung - 1 < 8
    omega
  · rw [State.laneBit, hstate, hv]
    exact State.setLaneBit_self _ l true (by decide)
  · have hp (o : Nat) (ho : o = 0 ∨ o = 4) : (s.lowerCeiling rung l).rd (Reg.LANE_STEP_FAIL l + o) = s.rd (Reg.LANE_STEP_FAIL l + o) :=
      (hlow _ (by simp only [Reg.LANE_STEP_FAIL]; omega)).trans (hne _ (by simp only [Reg.LANE_STEP_FAIL, Reg.LANE_STATE]; omega))
    exact State.pair_congr (hp 0 (.inl rfl)) (hp 4 (.inr rfl))
  · have hhold : (s.lowerCeiling rung l).hold = (v.raiseOnce 97 l rung).hold := by rw [hv]; rfl
    rw [hhold, hside.hold, hv]
    exact (State.setFld_hold ..).trans (State.setFld_hold ..)

/-- The registers that count failed steps stay when the lane is aborted. -/
theorem State.laneAbort_stepFail (s : State) (hl : l < 24) : (s.laneAbort l).pair (Reg.LANE_STEP_FAIL l) = s.pair (Reg.LANE_STEP_FAIL l) := by
  have hp (o : Nat) (ho : o = 0 ∨ o = 4) : (s.laneAbort l).rd (Reg.LANE_STEP_FAIL l + o) = s.rd (Reg.LANE_STEP_FAIL l + o) :=
    s.laneAbort_rd hl (not_laneReg (.inl (by simp only [Reg.LANE_STEP_FAIL]; omega)) (by simp only [Reg.LANE_STEP_FAIL]; omega))
      (by simp only [Reg.LANE_STEP_FAIL, Reg.LANE_BACKOFF]; omega)
  exact State.pair_congr (hp 0 (.inl rfl)) (hp 4 (.inr rfl))

theorem State.laneAbort_ceiling (s : State) (hl : l < 24) : (s.laneAbort l).fld (Reg.LANE_STATE l) 22 20 = s.fld (Reg.LANE_STATE l) 22 20 := by
  obtain ⟨-, h, -⟩ := s.laneAbort_spec hl
  exact State.laneFld_of_bits fun i hlo hhi => h i (by simp; omega)

/-! #### Steps -/

/-- The first STEP block of a step that the partner sends. -/
def State.stepTaken (s : State) (l rung count target : Nat) : State :=
  (s.modLane l fun x => { x with stepAgreed := x.stepAgreed <|> some s.clk, lastCount := count, countAt := s.clk }).sendBlocks "STEP" l
    ((List.range 16).map fun c => stepBlock rung (15 - c) target)

theorem State.stepTaken_spec (s : State) (hl : l < 24) {x : Lane} (hx : s.lane l = x) (hnone : x.stepAgreed = none) (rung count target : Nat) :
    (s.stepTaken l rung count target).lane l = { x with stepAgreed := some s.clk, lastCount := count, countAt := s.clk }
      ∧ (s.stepTaken l rung count target).sent = .message "STEP" l ((stepBlock rung 15 target).bytes.map (·.toNat)) :: s.sent
      ∧ (s.stepTaken l rung count target).regs = s.regs ∧ (s.stepTaken l rung count target).hold = s.hold := by
  obtain ⟨v, hv, hregs, hhold, hsent, hlane⟩ : ∃ v : State, v = s.modLane l (fun x => { x with stepAgreed := x.stepAgreed <|> some s.clk, lastCount := count, countAt := s.clk })
      ∧ v.regs = s.regs ∧ v.hold = s.hold ∧ v.sent = s.sent ∧ v.lane l = { x with stepAgreed := some s.clk, lastCount := count, countAt := s.clk } :=
    ⟨_, rfl, rfl, rfl, rfl, by rw [State.lane_modLane_self, hx, hnone]; rfl⟩
  obtain ⟨k1, -, k3⟩ := v.sendBlocks_sides "STEP" l ((List.range 16).map fun c => stepBlock rung (15 - c) target)
  have heq : s.stepTaken l rung count target = v.sendBlocks "STEP" l ((List.range 16).map fun c => stepBlock rung (15 - c) target) := hv ▸ rfl
  rw [heq]
  refine ⟨?_, ?_, k1.trans hregs, (sendBlocks_linkSide ..).hold.trans hhold⟩
  · rw [State.lane, k3, ← State.lane, hlane]
  · rw [v.sendBlocks_sent "STEP" hl, hsent]
    rfl

/-- A transmitter that switches to the next rung. -/
def State.txSwitched (s : State) (l rung : Nat) : State :=
  ((((s.setFld (Reg.LANE_STATE l) 6 4 rung).setLaneBit l 9 false).modLane l fun x => { x with txSwitch := some s.clk })).setTx l (.prbs 3 false)

theorem State.txSwitched_spec (s : State) (hl : l < 24) (rung : Nat) : (s.txSwitched l rung).laneRate l = rung % 8
    ∧ ((s.txSwitched l rung).lane l).txSwitch = some s.clk ∧ ((s.txSwitched l rung).lane l).tx = .prbs 3 false ∧ (s.txSwitched l rung).laneBit l 9 = false
    ∧ (s.txSwitched l rung).laneSt l = s.laneSt l ∧ (s.txSwitched l rung).hold = s.hold := by
  obtain ⟨v, hv⟩ : ∃ v, v = (s.setFld (Reg.LANE_STATE l) 6 4 rung).setLaneBit l 9 false := ⟨_, rfl⟩
  have hfirst := LaneMove.setState hl s (hi := 6) (lo := 4) rung (by decide) (by decide)
  have hbit := LaneMove.setBit hl (s.setFld (Reg.LANE_STATE l) 6 4 rung) false (i := 9) (by decide)
  rw [show (s.setFld (Reg.LANE_STATE l) 6 4 rung).setLaneBit l 9 false = v from hv.symm] at hbit
  have heq : s.txSwitched l rung = (v.modLane l fun x => { x with txSwitch := some s.clk }).setTx l (.prbs 3 false) := hv ▸ rfl
  have hregs : (s.txSwitched l rung).regs = v.regs := by rw [heq]; exact (State.setTx_sides _ l _).1
  have hrn (a : Nat) : (s.txSwitched l rung).rn a = v.rn a := by rw [State.rn, State.rn, State.rd, State.rd, hregs]
  refine ⟨?_, ?_, ?_, ?_, ?_, ?_⟩
  · rw [State.laneRate, State.fld, hrn]
    exact (hbit.laneRate (by decide)).trans (s.fld_setFld_same (by decide) (by decide))
  · rw [heq, State.setTx_lane, State.lane_modLane_self]
  · rw [heq, State.setTx_lane]
  · rw [State.laneBit, hrn, hv]
    exact State.setLaneBit_self _ l false (by decide)
  · rw [State.laneSt, State.fld, hrn]
    exact (hfirst.trans hbit).laneSt (by decide)
  · rw [heq, (setTx_linkSide ..).hold]
    exact (hfirst.trans hbit).at_.hold

/-- A receiver that switches. -/
def State.rxSwitched (s : State) (l : Nat) : State := (s.modLane l fun x => { x with rxSwitch := some s.clk }).setLaneBit l 9 false

theorem State.rxSwitched_spec (s : State) (hl : l < 24) {x : Lane} (hx : s.lane l = x) : (s.rxSwitched l).lane l = { x with rxSwitch := some s.clk }
    ∧ (s.rxSwitched l).laneBit l 9 = false ∧ (s.rxSwitched l).laneSt l = s.laneSt l ∧ (s.rxSwitched l).hold = s.hold := by
  obtain ⟨v, hv, hst, hhold, hlane⟩ : ∃ v : State, v = s.modLane l (fun x => { x with rxSwitch := some s.clk }) ∧ v.laneSt l = s.laneSt l ∧ v.hold = s.hold
      ∧ v.lane l = { x with rxSwitch := some s.clk } := ⟨_, rfl, rfl, rfl, by rw [State.lane_modLane_self, hx]⟩
  have heq : s.rxSwitched l = v.setLaneBit l 9 false := hv ▸ rfl
  have hbit := LaneMove.setBit hl v false (i := 9) (by decide)
  rw [heq]
  refine ⟨?_, v.setLaneBit_self l false (by decide), (hbit.laneSt (by decide)).trans hst, hbit.at_.hold.trans hhold⟩
  rw [State.lane, State.setLaneBit, State.setFld_lanes, ← State.lane, hlane]

/-- A check of 2²⁸ bits passed, by the lane or by its partner. -/
def State.checkPassed (s : State) (l : Nat) (partner : Bool) : State :=
  let s := s.modLane l fun x => if partner then { x with partnerPassed := true } else { x with passed := true }
  let y := s.lane l
  s.setTx l (if y.passed && y.partnerPassed then .idle else .prbs 3 y.passed)

theorem State.checkPassed_spec (s : State) (l : Nat) (partner : Bool) : (partner = false → ((s.checkPassed l partner).lane l).passed = true)
    ∧ (partner = true → ((s.checkPassed l partner).lane l).partnerPassed = true) ∧ (s.checkPassed l partner).regs = s.regs
    ∧ (s.checkPassed l partner).hold = s.hold := by
  have hlane : ∃ m, (s.checkPassed l partner).lane l = { (if partner then { s.lane l with partnerPassed := true } else { s.lane l with passed := true } : Lane) with tx := m } := by
    unfold State.checkPassed
    dsimp only
    rw [State.setTx_lane, State.lane_modLane_self]
    exact ⟨_, rfl⟩
  obtain ⟨m, hlane⟩ := hlane
  refine ⟨fun h => ?_, fun h => ?_, (State.setTx_sides _ l _).1, (setTx_linkSide ..).hold⟩ <;> rw [hlane, h] <;> rfl

/-! #### Rungs -/

/-- A rung of a tile lane that passes. -/
theorem completes_rungPass {dt : Nat} {l : Fin 24} {x : Lane} {P : State → Prop} (hcore : s.watch.core = true) (hx : s.lane l = x) (hr : s.laneRole l = 5)
    (hst : s.laneSt l = 4) (hp : x.passed = true) (hpp : x.partnerPassed = true) (h9 : s.laneBit l 9 = true) (hin : x.inStep (s.clk + dt) = true)
    (hstand : x.standIn = none) (hP : ∀ u, u = (s.advance dt).rungUp l → P (acted dt s fun _ => u)) : Completes (.rungPass dt l) s P := by
  have hr' : (s.advance dt).laneRole l = 5 := hr
  have hx' : (s.advance dt).lane l = x := hx
  have hpassed : (s.advance dt).rungPassed l = true := by
    rw [State.rungPassed]
    simp only [hx', hp, hpp, Bool.and_true, Bool.and_eq_true, beq_iff_eq]
    exact ⟨⟨hst, h9⟩, hin⟩
  refine completes_eq (u := (s.advance dt).rungUp l) rfl hcore ((if_pos hpassed).trans ((if_neg ?_).trans (if_neg ?_))) (hP _ rfl)
  · rw [hx', hstand]
    decide
  · rw [hr']
    omega

/-- A step of a tile lane that runs out, and what follows the count of its failure. -/
theorem completes_stepTimeout {dt a : Nat} {l : Fin 24} {x : Lane} {P : State → Prop} (hcore : s.watch.core = true) (hx : s.lane l = x) (hr : s.laneRole l = 5)
    (hst : s.laneSt l = 4) (htx : x.txSwitch = some a) (htime : a + ms 20 ≤ s.clk + dt) (hp : x.passed = false) (hstand : x.standIn = none)
    (hP : ∀ u, (u = let v := (s.advance dt).stepFailed l
      if (v.lane l).fails < 3 then v.laneAbort l else (v.lowerCeiling x.nextRung l).laneAbort l) → P (acted dt s fun _ => u)) : Completes (.stepTimeout dt l) s P := by
  have hr' : (s.advance dt).laneRole l = 5 := hr
  have hx' : (s.advance dt).lane l = x := hx
  have hpassed : (s.advance dt).rungPassed l = false := by
    rw [State.rungPassed]
    simp [hx', hp]
  have hcond : (s.advance dt).laneSt l = 4 ∧ ((s.advance dt).lane l).txSwitch.any (fun c => (s.advance dt).elapsed c (ms 20)) = true
      ∧ (!(s.advance dt).rungPassed l) = true := by
    rw [hx', htx, Option.any_some, State.elapsed, decide_eq_true_eq, hpassed]
    exact ⟨hst, htime, rfl⟩
  refine completes_eq rfl hcore ((if_pos hcond).trans ?_) (hP _ rfl)
  rw [hx', hstand]
  have hgroup : ¬ (2 ≤ (s.advance dt).laneRole l ∧ (s.advance dt).laneRole l ≤ 4) := by
    rw [hr']
    omega
  refine (if_neg fun e => hgroup ⟨e.1, e.2.1⟩).trans ?_
  dsimp only
  rw [if_neg hgroup]

/-- What a hail says is read from registers. -/
theorem State.hailBlock_of_regs (h : t.regs = s.regs) (hl : l < 24) (answer : Bool) : t.hailBlock l answer = s.hailBlock l answer := by
  have hrd (a : Nat) : t.rd a = s.rd a := by rw [State.rd, State.rd, h]
  have hsame : LanesSame s t := .of_regs fun a _ _ => hrd a
  unfold State.hailBlock
  rw [hsame.laneRole hl, hsame.groupOf hl, hsame.memberNo hl, hsame.members, State.laneCfgRate, hsame.cfgFld hl, hsame.stateFld hl, State.rn, hrd]
  rfl

/-- A hail of a lane in HAIL. -/
theorem State.hail_due (s : State) (hl : l < 24) {x : Lane} (hx : s.lane l = x) (c : Nat) :
    ((s.modLane l fun y => { y with hailAt := some c }).hail l false).regs = s.regs
      ∧ ((s.modLane l fun y => { y with hailAt := some c }).hail l false).lane l = { x with hailAt := some c }
      ∧ ((s.modLane l fun y => { y with hailAt := some c }).hail l false).hold = s.hold
      ∧ ((s.modLane l fun y => { y with hailAt := some c }).hail l false).sent = .message "HAIL" l ((s.hailBlock l false).bytes.map (·.toNat)) :: s.sent := by
  obtain ⟨v, hv, hregs, hhold, hsent, hlane⟩ : ∃ v, v = s.modLane l (fun y => { y with hailAt := some c }) ∧ v.regs = s.regs ∧ v.hold = s.hold ∧ v.sent = s.sent
      ∧ v.lane l = { x with hailAt := some c } := ⟨_, rfl, rfl, rfl, rfl, by rw [State.lane_modLane_self, hx]⟩
  rw [← hv]
  obtain ⟨h1, h2, h3, -, h5⟩ := v.hail_same l false
  refine ⟨h1.trans hregs, ?_, h3.trans hhold, ?_⟩
  · rw [State.lane, h2, ← State.lane, hlane]
  · rw [h5, hsent, State.hailBlock_of_regs hregs hl]

/-! #### The obligation -/

/-- Settles O38, rule by rule. -/
theorem laneTraining : Obligations.LaneTraining := by
  unfold Obligations.LaneTraining
  intro dt a n g l h partner x s hcore hlog hx
  have hl := l.2
  have hlog' : ∀ e ∈ [96, 97, 98, 99], (s.advance dt).logOnly e = true := hlog
  have hx' : (s.advance dt).lane l = x := hx
  refine ⟨fun hst hdue => ?_, fun hsardy => ?_, fun hsardy hval hexch => ?_, fun hsardy hval hnode hst h9 hprof => ?_,
    fun hsardy hval hnode hst h9 hprof => ?_, fun hr hval hprof hst hans hlast hhails htime htarget => ?_,
    fun hr hval hprof hst hans hlast hhails htime htarget hone => ?_, fun hst hhails htime => ?_, fun hst hagreed => ?_,
    fun hst hagreed htime htx => ?_, fun hst hcount htime hrx => ?_, fun hst hin => ?_, fun hr hst hp hpp h9 hin hstand htop => ?_,
    fun hr hst hp hpp h9 hin hstand htop => ?_, fun hr hst htx htime hp hstand hrung hfails hlo hhi => ?_,
    fun hr hst htx htime hp hstand hrung hfails => ?_, fun hst htime => ?_, fun hst hlinked htime => ?_⟩
  case refine_1 =>
    obtain ⟨h1, hlane, h3, h5⟩ := (s.advance dt).hail_due hl hx' (s.clk + dt)
    have hdue' : (match ((s.advance dt).lane l).hailAt with
        | some c => (s.advance dt).elapsed c (ms 1)
        | none => true) = true := by
      rw [hx']
      cases hc : x.hailAt with
      | none => rfl
      | some c =>
        rw [hc, Option.all_some] at hdue
        exact hdue
    obtain ⟨u, hu⟩ : ∃ u, u = ((s.advance dt).modLane l fun x => { x with hailAt := some (s.clk + dt) }).hail l false := ⟨_, rfl⟩
    rw [← hu] at h1 h3 h5 hlane
    have hne : ¬ (s.advance dt).laneSt l = 3 := fun e => absurd (hst.symm.trans e) (by decide)
    exact completes_eq (u := u) rfl hcore ((if_neg hne).trans ((if_pos ⟨.inl hst, hdue'⟩).trans hu.symm)) ⟨h5.trans (by rw [State.hailBlock_of_regs (s := s) rfl hl]; rfl), hlane, sameRegs_of_regs h1, sameHold_of_hold h3⟩
  case refine_2 => exact completes_eq (u := s.advance dt) rfl hcore (if_pos (by simp [show (s.advance dt).isSardy l = false from hsardy])) ⟨rfl, fun _ => rfl, fun _ => rfl⟩
  case refine_3 =>
    have hs : ¬ (!(s.advance dt).isSardy l) = true := by simp [show (s.advance dt).isSardy l = true from hsardy]
    have he : ¬ (s.advance dt).exchanged l = true := by simp [show (s.advance dt).exchanged l = false from hexch]
    refine completes_eq rfl hcore ((if_neg hs).trans ((if_pos hval).trans (if_neg he))) ⟨?_, fun _ => rfl, fun _ => rfl⟩
    exact congrArg Lane.hails ((s.advance dt).lane_modLane_self l fun x => { x with hails := 0, lastHail := none })
  case refine_4 =>
    have hs : ¬ (!(s.advance dt).isSardy l) = true := by simp [show (s.advance dt).isSardy l = true from hsardy]
    have hv : ¬ hailValid h = false := by simp [hval]
    have hspec := (s.advance dt).mismatch_spec hl hst (hlog' 98 (by simp)) h.profile
    obtain ⟨u, hu⟩ : ∃ u, u = (s.advance dt).mismatch l h.profile := ⟨_, rfl⟩
    rw [← hu] at hspec
    obtain ⟨h1, h2, h3, h4⟩ := hspec
    exact completes_eq (u := u) rfl hcore ((if_neg hs).trans ((if_neg hv).trans ((if_neg fun e => hnode e.2).trans ((if_pos ⟨hst, h9⟩).trans
      ((if_neg hprof).trans hu.symm))))) ⟨h1, h2, h3, sameHold_of_hold h4⟩
  case refine_5 =>
    have hs : ¬ (!(s.advance dt).isSardy l) = true := by simp [show (s.advance dt).isSardy l = true from hsardy]
    have hv : ¬ hailValid h = false := by simp [hval]
    have hspec := (s.advance dt).exchangeFrom_spec hl hval
    obtain ⟨u, hu⟩ : ∃ u, u = (s.advance dt).exchangeFrom l h := ⟨_, rfl⟩
    rw [← hu] at hspec
    obtain ⟨h1, h2, h3, h4, h5, h6⟩ := hspec
    exact completes_eq (u := u) rfl hcore ((if_neg hs).trans ((if_neg hv).trans ((if_neg fun e => hnode e.2).trans ((if_pos ⟨hst, h9⟩).trans
      ((if_pos hprof).trans hu.symm))))) ⟨h1, h2, h3, h4, h5, sameHold_of_hold h6⟩
  case refine_6 =>
    obtain ⟨k1, k2, -, k4, k5⟩ := (s.advance dt).exchangeLast_spec h (s.target l h.maxRate) hx'
    refine completes_sixteenth hcore hx hr hval hprof hst hans hlast hhails htime fun u hu => ?_
    generalize (s.advance dt).exchangeLast l h (s.target l h.maxRate) = v at hu k1 k2 k4 k5
    have hvr : v.laneRole l = 5 := (congrArg (fun r : Word => bits r.toNat 2 0) k2).trans hr
    have hvs : v.laneSt l ≠ 5 := fun e => absurd (((congrArg (fun r : Word => bits r.toNat 3 0) k1).trans hst).symm.trans e) (by decide)
    have hfirst : v.firstStep l (s.target l h.maxRate) = v.linkUp l 0 := if_pos htarget
    obtain ⟨h1, h2, -, h4, h5⟩ := v.linkUp_spec hl hvr (rate := 0)
    rw [hfirst] at hu
    rw [← hu] at h1 h2 h4 h5
    exact ⟨h1, h2, (h4 hvs).trans (by rw [State.now64_of_time k4]), sameHold_of_hold (h5.trans k5)⟩
  case refine_7 =>
    obtain ⟨-, k2, k3, -, k5⟩ := (s.advance dt).exchangeLast_spec h (s.target l h.maxRate) hx'
    refine completes_sixteenth hcore hx hr hval hprof hst hans hlast hhails htime fun u hu => ?_
    generalize (s.advance dt).exchangeLast l h (s.target l h.maxRate) = v at hu k2 k3 k5
    have hvr : v.laneRole l = 5 := (congrArg (fun r : Word => bits r.toNat 2 0) k2).trans hr
    rw [State.firstStep_tile hvr (by rw [k3]; exact hone) htarget] at hu
    obtain ⟨h1, h2, h3, -, h5⟩ := v.startStep_spec hl 1 (s.target l h.maxRate)
    rw [← hu] at h1 h2 h3 h5
    exact ⟨h1, h2, h3, sameHold_of_hold (h5.trans k5)⟩
  case refine_8 =>
    have hspec := (s.advance dt).abortAlone_spec hl
    obtain ⟨u, hu⟩ : ∃ u, u = (s.advance dt).abortAlone l := ⟨_, rfl⟩
    rw [← hu] at hspec
    obtain ⟨h1, h2, h3, h4, h5⟩ := hspec
    have he : (s.advance dt).exchanged l = false := by
      rw [State.exchanged, hx', decide_eq_false (by omega), Bool.and_false]
    have hel : (s.advance dt).elapsed ((s.advance dt).lane l).exchSince (ms 20) = true := by
      rw [hx', State.elapsed, decide_eq_true_eq]
      exact htime
    exact completes_eq (u := u) rfl hcore ((if_pos ⟨hst, he, hel⟩).trans hu.symm) ⟨h1, h2, h3, h4, sameHold_of_hold h5⟩
  case refine_9 =>
    have hspec := (s.advance dt).stepTaken_spec hl hx' hagreed x.nextRung n x.target
    obtain ⟨u, hu⟩ : ∃ u, u = (s.advance dt).stepTaken l x.nextRung n x.target := ⟨_, rfl⟩
    rw [← hu] at hspec
    obtain ⟨h1, h2, h3, h4⟩ := hspec
    refine completes_eq (u := u) rfl hcore ((if_pos ⟨hst, by rw [hx'], by rw [hx']⟩).trans ((if_neg ?_).trans hu.symm)) ⟨h1, h2, sameRegs_of_regs h3, sameHold_of_hold h4⟩
    rw [hx', hagreed]
    decide
  case refine_10 =>
    have hspec := (s.advance dt).txSwitched_spec hl x.nextRung
    obtain ⟨u, hu⟩ : ∃ u, u = (s.advance dt).txSwitched l x.nextRung := ⟨_, rfl⟩
    rw [← hu] at hspec
    obtain ⟨h1, h2, h3, h4, h5, h6⟩ := hspec
    have hne : ¬ (s.advance dt).laneSt l ≠ 4 := fun e => e hst
    have hcond : (((s.advance dt).lane l).stepAgreed.any (fun c => (s.advance dt).elapsed c (blockClocks ((s.advance dt).lane l).fromRate 1 16))) = true
        ∧ ((s.advance dt).lane l).txSwitch.isNone = true := by
      rw [hx', hagreed, htx, Option.any_some, State.elapsed, decide_eq_true_eq]
      exact ⟨htime, rfl⟩
    exact completes_eq (u := u) rfl hcore ((if_neg hne).trans ((if_pos rfl).trans ((if_pos hcond).trans (by rw [hx', hu]; rfl))))
      ⟨h1, h2, h3, h4, h5.trans hst, sameHold_of_hold h6⟩
  case refine_11 =>
    have hspec := (s.advance dt).rxSwitched_spec hl hx'
    obtain ⟨u, hu⟩ : ∃ u, u = (s.advance dt).rxSwitched l := ⟨_, rfl⟩
    rw [← hu] at hspec
    obtain ⟨h1, h2, h3, h4⟩ := hspec
    have hne : ¬ (s.advance dt).laneSt l ≠ 4 := fun e => e hst
    have hcond : ((s.advance dt).lane l).lastCount ≤ 15 ∧ (s.advance dt).elapsed ((s.advance dt).lane l).countAt
        (blockClocks ((s.advance dt).lane l).fromRate 1 ((s.advance dt).lane l).lastCount) = true ∧ ((s.advance dt).lane l).rxSwitch.isNone = true := by
      rw [hx', hrx, State.elapsed, decide_eq_true_eq]
      exact ⟨hcount, htime, rfl⟩
    exact completes_eq (u := u) rfl hcore ((if_neg hne).trans ((if_neg (by decide)).trans ((if_pos hcond).trans hu.symm)))
      ⟨h1, h2, h3.trans hst, sameHold_of_hold h4⟩
  case refine_12 =>
    have hspec := (s.advance dt).checkPassed_spec l partner
    obtain ⟨u, hu⟩ : ∃ u, u = (s.advance dt).checkPassed l partner := ⟨_, rfl⟩
    rw [← hu] at hspec
    obtain ⟨h1, h2, h3, h4⟩ := hspec
    exact completes_eq (u := u) rfl hcore ((if_pos (.inl ⟨hst, by rw [hx']; exact hin⟩)).trans hu.symm) ⟨h1, h2, sameRegs_of_regs h3, sameHold_of_hold h4⟩
  case refine_13 =>
    refine completes_rungPass hcore hx hr hst hp hpp h9 hin hstand fun u hu => ?_
    rw [State.rungUp_top hx' htop] at hu
    obtain ⟨v, hv, hvr, hvs, hv9, hvnow, hvh⟩ : ∃ v : State, v = (s.advance dt).modLane l (fun y => { y with fails := if y.failRung = y.nextRung then 0 else y.fails })
        ∧ v.laneRole l = s.laneRole l ∧ v.laneSt l = s.laneSt l ∧ v.laneBit l 9 = s.laneBit l 9 ∧ v.now64 = (s.advance dt).now64 ∧ v.hold = s.hold :=
      ⟨_, rfl, rfl, rfl, rfl, rfl, rfl⟩
    rw [← hv] at hu
    obtain ⟨h1, h2, h3, h4, h5⟩ := v.linkUp_spec hl (hvr.trans hr) (rate := x.target)
    rw [← hu] at h1 h2 h3 h4 h5
    exact ⟨h1, h2, h3.trans (hv9.trans h9), (h4 (by rw [hvs, hst]; decide)).trans (by rw [hvnow]), sameHold_of_hold (h5.trans hvh)⟩
  case refine_14 =>
    refine completes_rungPass hcore hx hr hst hp hpp h9 hin hstand fun u hu => ?_
    rw [State.rungUp_next hx' htop] at hu
    obtain ⟨v, hv, hvh⟩ : ∃ v : State, v = (s.advance dt).modLane l (fun y => { y with fails := if y.failRung = y.nextRung then 0 else y.fails })
        ∧ v.hold = s.hold := ⟨_, rfl, rfl⟩
    rw [← hv] at hu
    obtain ⟨h1, h2, -, h4, h5⟩ := v.startStep_spec hl (x.nextRung + 1) x.target
    rw [← hu] at h1 h2 h4 h5
    exact ⟨h1, h2, h4, sameHold_of_hold (h5.trans hvh)⟩
  case refine_15 =>
    refine completes_stepTimeout hcore hx hr hst htx htime hp hstand fun u hu => ?_
    obtain ⟨k1, -, k3, k4, k5⟩ := (s.advance dt).stepFailed_spec hx' hl (hlog' 99 (by simp)) hrung
    generalize (s.advance dt).stepFailed l = v at hu k1 k3 k4 k5
    obtain ⟨c1, c2, c3, c4⟩ := v.lowerCeiling_spec hl ((k5 97 (by decide)).trans (hlog' 97 (by simp))) hlo hhi
    dsimp only at hu
    rw [if_neg (by rw [k1]; show ¬ x.fails + 1 < 3; omega)] at hu
    generalize v.lowerCeiling x.nextRung l = w at hu c1 c2 c3 c4
    obtain ⟨a1, a2, -⟩ := w.laneAbort_spec hl
    have a3 := w.laneAbort_ceiling hl
    have a4 := w.laneAbort_stepFail hl
    have a5 := w.laneAbort_hold l
    rw [← hu] at a1 a2 a3 a4 a5
    exact ⟨a1, a3.trans c1, (a2 11 (by decide)).trans c2, (a4.trans c3).trans k3, sameHold_of_hold ((a5.trans c4).trans k4)⟩
  case refine_16 =>
    refine completes_stepTimeout hcore hx hr hst htx htime hp hstand fun u hu => ?_
    obtain ⟨k1, k2, k3, k4, -⟩ := (s.advance dt).stepFailed_spec hx' hl (hlog' 99 (by simp)) hrung
    generalize (s.advance dt).stepFailed l = v at hu k1 k2 k3 k4
    dsimp only at hu
    rw [if_pos (by rw [k1]; show x.fails + 1 < 3; omega)] at hu
    obtain ⟨a1, -, -, -, a6, -⟩ := v.laneAbort_spec hl
    have a3 := v.laneAbort_ceiling hl
    have a4 := v.laneAbort_stepFail hl
    have a5 := v.laneAbort_hold l
    rw [← hu] at a1 a3 a4 a5 a6
    have hceil : v.fld (Reg.LANE_STATE l) 22 20 = s.fld (Reg.LANE_STATE l) 22 20 := congrArg (fun r : Word => bits r.toNat 22 20) k2
    exact ⟨a1, a3.trans hceil, a6.trans (by rw [k1]), a4.trans k3, sameHold_of_hold (a5.trans k4)⟩
  case refine_17 =>
    obtain ⟨h1, h2, h3, -⟩ := (s.advance dt).enterHail_spec hl
    obtain ⟨u, hu⟩ : ∃ u, u = (s.advance dt).enterHail l := ⟨_, rfl⟩
    rw [← hu] at h1 h2 h3
    exact completes_eq (u := u) rfl hcore ((if_pos ⟨hst, by rw [hx']; exact htime⟩).trans hu.symm) ⟨h2, h3, sameHold_of_hold h1.hold⟩
  case refine_18 =>
    have hlk : (s.advance dt).linked l = true ∧ (s.advance dt).elapsed g (sec 1) = true := by
      rw [State.elapsed, decide_eq_true_eq, State.linked, beq_iff_eq]
      exact ⟨hst, htime⟩
    have hbody : (match ((s.advance dt).lane l).linkedSince with
        | some c => if (s.advance dt).linked l ∧ (s.advance dt).elapsed c (sec 1) then (s.advance dt).wn (Reg.LANE_BACKOFF l) 10 else s.advance dt
        | none => s.advance dt) = (s.advance dt).wn (Reg.LANE_BACKOFF l) 10 := by
      rw [hx', hlinked]
      exact if_pos hlk
    have hregs : RegsBut [Reg.LANE_BACKOFF l] s ((s.advance dt).wn (Reg.LANE_BACKOFF l) 10) := fun a ha => State.rd_wr_ne _ _ (by simpa using ha)
    have hback : ((s.advance dt).wn (Reg.LANE_BACKOFF l) 10).rn (Reg.LANE_BACKOFF l) = 10 := State.rn_wn_self ..
    exact completes_eq rfl hcore hbody ⟨hback, hregs, sameHold_of_hold rfl⟩

end Sys2Proof.Machine
end

section
/-! ### Signal loss, relock and reserve lanes (R207 to R213) -/

namespace Sys2Proof.Machine

variable {s t u : State} {l m g : Nat}

/-! #### A fault that stands -/

/-- A detector that only logs takes no reaction that acts. -/
theorem State.act1_logged (s : State) {x : Reaction} (h : x.code ≤ 1) : s.act1 x = s := by
  have hreact : s.react x.det x.inst x.code x.cause = s := by
    obtain hc | hc : x.code = 0 ∨ x.code = 1 := by omega
    · rw [hc]; rfl
    · rw [hc]; rfl
  unfold State.act1
  rw [hreact, if_neg (by omega)]

theorem State.setFltInst_standing (s : State) (d i : Nat) {x : FltInst} (hx : x.standing = true) : ((s.setFltInst d i x).fltInst d i).standing = true := by
  have hne : ¬ x = {} := by
    rintro rfl
    exact absurd hx (by decide)
  have hins : (s.setFltInst d i x).flt.insts = tabSet s.flt.insts (instKey d i) x := if_neg hne
  rw [State.fltInst, hins, tabGetD_tabSet_self]
  exact hx

/-- The entry of a trip in the log. -/
def State.tripEntry (s : State) (t : Trip) : LogEntry :=
  { seq := 0, stamp := 0, frac := 0, det := t.det, inst := t.inst, kind := 1, sev := s.tripSev t,
    injected := s.flt.injection.any fun j => j.det == t.det && j.inst == t.inst, port := t.port, gen := t.gen, info := t.info }

/-- A trip out of every shadow is a repeat or independent. -/
theorem State.enterTrip_out {t : Trip} {v : State} (hv : s.lampFlag t.det t.inst = v) (hsev : detSev? t.det ≠ none)
    (hquiet : ¬ (s.fld Reg.PWR_STAT 0 0 = 1 ∧ (t.det = 64 ∨ t.det = 65 ∨ t.det = 67))) (hnone : v.shadowOf t.det t.inst = none) :
    s.enterTrip t = if (v.fltInst t.det t.inst).standing && !(detEvent t.det && !t.rail) then
      (v.tripRepeat t (v.tripEntry t) (v.fltInst t.det t.inst), none)
      else v.tripRaise t (v.tripEntry t) (v.fltInst t.det t.inst) (detEvent t.det && !t.rail) := by
  unfold State.enterTrip
  rw [if_neg hsev, if_neg hquiet]
  dsimp only
  rw [hv, hnone]
  rfl

theorem State.tripReaction_logged {t : Trip} (hrail : t.rail = false) (h : s.detReaction t.det ≤ 1) (sev : Nat) : s.tripReaction t sev = (s.detReaction t.det, false) := by
  unfold State.tripReaction
  rw [hrail, Bool.false_and]
  exact if_neg (by simp; omega)

theorem State.wrWords_flt (ws : List Nat) : ∀ (s : State) (a : Nat), (s.wrWords a ws).flt = s.flt := by
  induction ws with
  | nil => exact fun _ _ => rfl
  | cons w ws ih => exact fun s a => (ih _ _).trans (State.wn_flt ..)

theorem State.keepWrite_flt (s : State) (i : Nat) (ws : List Nat) : (s.keepWrite i ws).flt = s.flt :=
  (State.wr_flt ..).trans (State.wrWords_flt ..)

theorem State.logMoved_insts (s : State) (q : Nat) : (s.logMoved q).flt.insts = s.flt.insts := by
  unfold State.logMoved
  dsimp only
  split
  · rw [State.keepWrite_flt]
  · rfl

/-- A new entry of the log leaves the instances. -/
theorem State.logPush_insts (s : State) (e : LogEntry) : (s.logPush e).flt.insts = s.flt.insts := by
  have hlost : (if s.flt.log.length < 1024 then s else s.bump Reg.FLT_LOG_LOST : State).flt.insts = s.flt.insts := by
    split
    · rfl
    · exact congrArg FaultState.insts (State.bump_flt ..)
  unfold State.logPush
  dsimp only
  generalize (if s.flt.log.length < 1024 then s else s.bump Reg.FLT_LOG_LOST : State) = v at hlost ⊢
  split
  · exact hlost
  · exact (State.logMoved_insts ..).trans hlost

/-- An independent raise of a fault that is no event, whose detector only logs. -/
theorem State.tripRaise_logged (s : State) {t : Trip} (e : LogEntry) (x : FltInst) (hrail : t.rail = false) (h : s.detReaction t.det ≤ 1) :
    ((s.tripRaise t e x false).1.fltInst t.det t.inst).standing = true ∧ ∃ y, (s.tripRaise t e x false).2 = some y ∧ y.code ≤ 1 := by
  have hreact := State.tripReaction_logged hrail h e.sev
  unfold State.tripRaise
  rw [hreact]
  refine ⟨?_, _, rfl, h⟩
  dsimp only
  generalize State.tripMarks _ _ _ _ = v
  unfold State.tripStand
  dsimp only
  rw [if_pos (by simp)]
  exact State.setFltInst_standing _ _ _ (by rw [hrail]; rfl)

theorem State.shadowOf_of_none {d i : Nat} (h : s.flt.shadows = []) : s.shadowOf d i = none := by
  unfold State.shadowOf
  rw [h]
  rfl

/-- A fault that is no event stands from its trip on, out of every shadow. -/
theorem State.raise_standing (s : State) {d : Nat} (i info : Nat) (hlog : s.logOnly d = true) (hsev : detSev? d ≠ none) (hev : detEvent d = false)
    (hd : d ≠ 64 ∧ d ≠ 65 ∧ d ≠ 67) (hlamp : d < 192 ∨ 202 < d) (hnone : s.shadowOf d i = none) : ((s.raise d i info).fltInst d i).standing = true := by
  have hflag : s.lampFlag d i = s := if_neg (by omega)
  have hreact : s.detReaction d ≤ 1 := by simpa [State.logOnly] using hlog
  obtain ⟨tr, htr, hdet, hinst, hrail⟩ : ∃ tr : Trip, tr = { det := d, inst := i, info := info } ∧ tr.det = d ∧ tr.inst = i ∧ tr.rail = false := ⟨_, rfl, rfl, rfl, rfl⟩
  have hout := State.enterTrip_out (s := s) (t := tr) (v := s) (by rw [hdet, hinst]; exact hflag) (by rwa [hdet]) (by rw [hdet]; omega) (by rwa [hdet, hinst])
  rw [hdet, hev, Bool.false_and, hinst] at hout
  unfold State.raise State.logTrip
  rw [← htr, hout]
  by_cases hst : (s.fltInst d i).standing = true
  · rw [if_pos (by simp [hst]), State.tripRepeat]
    dsimp only
    rw [hdet, hinst, State.fltInst, State.logPush_insts]
    exact State.setFltInst_standing s d i hst
  · rw [if_neg (by simp [hst])]
    obtain ⟨h1, y, h2, h3⟩ := s.tripRaise_logged (t := tr) (s.tripEntry tr) (s.fltInst d i) hrail (by rwa [hdet])
    rw [hdet, hinst] at h1
    generalize s.tripRaise tr (s.tripEntry tr) (s.fltInst d i) false = r at h1 h2
    obtain ⟨v, o⟩ := r
    dsimp only at h1 h2
    rw [h2]
    dsimp only
    rw [State.act1_logged _ h3]
    exact h1

theorem State.raiseOnce_standing (s : State) {d : Nat} (i info : Nat) (hlog : s.logOnly d = true) (hsev : detSev? d ≠ none) (hev : detEvent d = false)
    (hd : d ≠ 64 ∧ d ≠ 65 ∧ d ≠ 67) (hlamp : d < 192 ∨ 202 < d) (hnone : s.shadowOf d i = none) : ((s.raiseOnce d i info).fltInst d i).standing = true := by
  unfold State.raiseOnce
  dsimp only
  split
  · next h => exact (Bool.and_eq_true_iff.1 h).1
  · exact s.raise_standing i info hlog hsev hev hd hlamp hnone

/-! #### Loss and return of lock -/

/-- A linked lane that loses lock goes to RELOCK. -/
theorem State.lockLost_spec (s : State) (hl : l < 24) (hsardy : s.isSardy l = true) (hst : s.laneSt l = 5) : (s.lockLost l).laneSt l = 6
    ∧ (∀ i ∉ [0, 1, 2, 3, 10, 13], (s.lockLost l).laneBit l i = s.laneBit l i)
    ∧ (s.lockLost l).pair (Reg.LANE_LOCK_LOSS l) = min (s.pair (Reg.LANE_LOCK_LOSS l) + 1) (2 ^ 64 - 1) ∧ (s.lockLost l).hold = s.hold
    ∧ (s.lockLost l).laneRole l = s.laneRole l
    ∧ ∀ a, ¬ LaneReg (· = l) a → a ≠ Reg.LANE_LOCK_LOSS l → a ≠ Reg.LANE_LOCK_LOSS l + 4 → (s.lockLost l).rd a = s.rd a := by
  obtain ⟨v, hv⟩ : ∃ v, v = s.bump (Reg.LANE_LOCK_LOSS l) := ⟨_, rfl⟩
  have hremove := v.groupRemove_laneMove hl
  have hmove := (v.groupRemove l).setLaneSt_laneMove hl 6
  have heq : s.lockLost l = ((v.groupRemove l).setLaneSt l 6).modLane l fun x => { x with relockSince := (v.groupRemove l).clk } := by
    have hcond : s.isSardy l ∧ (s.laneSt l = 5 ∨ s.laneBit l 13) := ⟨hsardy, .inl hst⟩
    rw [hv]
    exact if_pos hcond
  have hall := hremove.trans hmove
  have hvrd (a : Nat) (h1 : a ≠ Reg.LANE_LOCK_LOSS l) (h2 : a ≠ Reg.LANE_LOCK_LOSS l + 4) : v.rd a = s.rd a := hv ▸ s.rd_bump_ne h1 h2
  have hvstate : v.rn (Reg.LANE_STATE l) = s.rn (Reg.LANE_STATE l) :=
    congrArg BitVec.toNat (hvrd _ (by simp only [Reg.LANE_STATE, Reg.LANE_LOCK_LOSS]; omega) (by simp only [Reg.LANE_STATE, Reg.LANE_LOCK_LOSS]; omega))
  have hloss (o : Nat) (ho : o = 0 ∨ o = 4) : ((v.groupRemove l).setLaneSt l 6).rd (Reg.LANE_LOCK_LOSS l + o) = v.rd (Reg.LANE_LOCK_LOSS l + o) :=
    hall.rd (not_laneReg (.inl (by simp only [Reg.LANE_LOCK_LOSS]; omega)) (by simp only [Reg.LANE_LOCK_LOSS]; omega))
  have hcfg : v.laneRole l = s.laneRole l := by
    rw [State.laneRole, State.fld, State.rn, hvrd _ (by simp only [Reg.LANE_CFG, Reg.LANE_LOCK_LOSS]; omega) (by simp only [Reg.LANE_CFG, Reg.LANE_LOCK_LOSS]; omega)]
    rfl
  rw [heq]
  refine ⟨State.setLaneSt_laneSt _ hl (by decide), fun i hi => ?_, ?_, ?_, (hall.at_.laneRole hl).trans hcfg, fun a ha h1 h2 => (hall.rd ha).trans (hvrd a h1 h2)⟩
  · refine (hall.bits i (by simp at hi ⊢; omega)).trans ?_
    rw [State.laneBit, hvstate]
    rfl
  · refine (State.pair_congr (s := v) (hloss 0 (.inl rfl)) (hloss 4 (.inr rfl))).trans ?_
    rw [hv]
    exact s.pair_bumpBy _ 1
  · exact hall.at_.hold.trans (hv ▸ State.bump_hold ..)

/-- A lane that leads no group is linked again at once. -/
theorem State.tryRelock_spec (s : State) (hl : l < 24) (hr : s.laneRole l = 5) (hst : s.laneSt l = 6) (h9 : s.laneBit l 9 = true) (h7 : s.laneBit l 7 = false)
    (h8 : s.laneBit l 8 = false) (h19 : s.laneBit l 19 = false) (htime : s.clk ≤ (s.lane l).relockSince + ms 1) : (s.tryRelock l).laneSt l = 5
    ∧ (∀ i ∉ [0, 1, 2, 3, 10], (s.tryRelock l).laneBit l i = s.laneBit l i) ∧ (s.tryRelock l).hold = s.hold := by
  have heq : s.tryRelock l = s.setLaneSt l 5 := by
    have hcond : s.laneSt l = 6 ∧ s.laneBit l 9 = true ∧ (!s.laneBit l 7) = true ∧ (!s.laneBit l 8) = true ∧ s.clk ≤ (s.lane l).relockSince + ms 1 :=
      ⟨hst, h9, by simp [h7], by simp [h8], htime⟩
    refine (if_pos hcond).trans (if_neg ?_)
    rw [hr, h19]
    simp
  have hmove := s.setLaneSt_laneMove hl 5
  rw [heq]
  exact ⟨s.setLaneSt_laneSt hl (by decide), hmove.bits, hmove.at_.hold⟩

/-- A ceiling returned to the highest rung. -/
theorem State.clearCeiling_spec (s : State) (hl : l < 24) : LaneAt (· = l) s (s.clearCeiling l) ∧ (s.clearCeiling l).fld (Reg.LANE_STATE l) 22 20 = 4
    ∧ (s.clearCeiling l).laneBit l 11 = false ∧ (∀ i ∉ [20, 21, 22, 11], (s.clearCeiling l).laneBit l i = s.laneBit l i)
    ∧ (s.clearCeiling l).lane l = { s.lane l with fails := 0 } := by
  have hfld := LaneMove.setState hl s (hi := 22) (lo := 20) 4 (by decide) (by decide)
  have hceil : (s.setFld (Reg.LANE_STATE l) 22 20 4).fld (Reg.LANE_STATE l) 22 20 = 4 := s.fld_setFld_fits (by decide) (by decide) (by decide)
  have hlanes : (s.setFld (Reg.LANE_STATE l) 22 20 4).lanes = s.lanes := State.setFld_lanes ..
  obtain ⟨v, hv⟩ : ∃ v, v = s.setFld (Reg.LANE_STATE l) 22 20 4 := ⟨_, rfl⟩
  rw [← hv] at hfld hceil hlanes
  have hbit := LaneMove.setBit hl v false (i := 11) (by decide)
  have hb11 := v.setLaneBit_self l false (i := 11) (by decide)
  have hceil' := (hbit.fld 22 20 (by decide)).trans hceil
  have hlanes' := (State.setLaneBit_lanes v l 11 false).trans hlanes
  have heq : s.clearCeiling l = (v.setLaneBit l 11 false).modLane l fun x => { x with fails := 0 } := by rw [hv]; rfl
  rw [heq]
  generalize v.setLaneBit l 11 false = w at hbit hb11 hceil' hlanes'
  have hmove := hfld.trans hbit
  refine ⟨hmove.at_.trans (.modLane (P := (· = l)) rfl _), hceil', hb11, hmove.bits, ?_⟩
  rw [State.lane_modLane_self, State.lane, hlanes']
  rfl

/-- A signal that has returned. -/
def State.losOver (s : State) (l : Nat) : State :=
  ((s.setLaneBit l 7 false).setFld Reg.LANE_LOS_MAP l l 0).modLane l fun x => { x with losSince := none }

theorem State.losOver_spec (s : State) (hl : l < 24) : (s.losOver l).laneBit l 7 = false ∧ (∀ i ≠ 7, (s.losOver l).laneBit l i = s.laneBit l i)
    ∧ (s.losOver l).laneRole l = s.laneRole l ∧ (s.losOver l).clk = s.clk ∧ (s.losOver l).hold = s.hold
    ∧ ((s.losOver l).lane l).relockSince = (s.lane l).relockSince := by
  obtain ⟨v, hv⟩ : ∃ v, v = s.setLaneBit l 7 false := ⟨_, rfl⟩
  have hbit := LaneMove.setBit hl s false (i := 7) (by decide)
  rw [show s.setLaneBit l 7 false = v from hv.symm] at hbit
  obtain ⟨w, hw⟩ : ∃ w, w = v.setFld Reg.LANE_LOS_MAP l l 0 := ⟨_, rfl⟩
  have heq : s.losOver l = w.modLane l fun x => { x with losSince := none } := by rw [hw, hv]; rfl
  have hrd (a : Nat) (h : a ≠ Reg.LANE_LOS_MAP) : w.rd a = v.rd a := by
    rw [hw]
    exact State.rd_wr_ne _ _ h
  have hwbit (i : Nat) : w.laneBit l i = v.laneBit l i :=
    congrArg (fun r : Word => bit r.toNat i) (hrd _ (by simp only [Reg.LANE_STATE, Reg.LANE_LOS_MAP]; omega))
  have hwrole : w.laneRole l = v.laneRole l := 
    congrArg (fun r : Word => bits r.toNat 2 0) (hrd _ (by simp only [Reg.LANE_CFG, Reg.LANE_LOS_MAP]; omega))
  rw [heq]
  refine ⟨(hwbit 7).trans (hv ▸ s.setLaneBit_self l false (by decide)), fun i hi => (hwbit i).trans (hbit.bits i (by simpa using hi)),
    hwrole.trans (hbit.at_.laneRole hl), ?_, ?_, ?_⟩
  · show w.clk = s.clk
    rw [hw, State.setFld_clk, hbit.at_.clk]
  · show w.hold = s.hold
    rw [hw, State.setFld_hold, hbit.at_.hold]
  · rw [State.lane_modLane_self, hw, State.lane, State.setFld_lanes, hv, State.setLaneBit_lanes]
    rfl

/-! #### Reserves -/

theorem State.lanes_of_ite {c : Prop} [Decidable c] {r : Tab Lane} (h : t.lanes = r) (k : u.lanes = r) : (if c then t else u).lanes = r := by
  split
  · exact h
  · exact k

theorem State.laneStMac_lanes (s : State) (l st was : Nat) : (s.laneStMac l st was).lanes = s.lanes := by
  unfold State.laneStMac
  dsimp only
  have h1 := State.setFld_lanes (s := s) (Reg.MAC_STAT (s.fld (Reg.LANE_CFG l) 7 6)) 0 0 (if st = 5 then 1 else 0)
  generalize s.setFld (Reg.MAC_STAT (s.fld (Reg.LANE_CFG l) 7 6)) 0 0 (if st = 5 then 1 else 0) = v at h1 ⊢
  have h2 := State.lanes_of_ite (c := st = 5 ∧ was ≠ 5) ((State.loadLatency_lanes v (s.fld (Reg.LANE_CFG l) 7 6) l).trans h1) h1
  generalize (if st = 5 ∧ was ≠ 5 then _ else v : State) = w at h2 ⊢
  exact State.lanes_of_ite (State.lanes_of_ite ((State.condClear_lanes ..).trans ((State.setFld_lanes ..).trans h2)) h2) rfl

/-- A change of a lane's state leaves the lane's record but when it was linked and when it ceased to be. -/
theorem State.setLaneSt_lane (s : State) (l st : Nat) : ∃ a b, (s.setLaneSt l st).lane l = { s.lane l with linkedSince := a, downSince := b } := by
  rw [State.setLaneSt_eq]
  have hregs : (s.laneStRegs l st).lanes = s.lanes := by
    unfold State.laneStRegs State.setLaneBit
    rw [State.setFld_lanes, State.setFld_lanes, State.setFld_lanes, State.setFld_lanes]
  have htest (u : State) (was : Nat) : (u.laneStTest l st was).lanes = u.lanes := State.lanes_of_ite rfl (State.condClear_lanes ..)
  have hlanes := ((htest _ (s.laneSt l)).trans ((s.laneStRegs l st).laneStMac_lanes l st (s.laneSt l))).trans hregs
  generalize ((s.laneStRegs l st).laneStMac l st (s.laneSt l)).laneStTest l st (s.laneSt l) = v at hlanes
  have hv : v.lane l = s.lane l := by rw [State.lane, hlanes]; rfl
  unfold State.laneStLink
  split
  · dsimp only
    have h1 : ∃ a, (if s.laneSt l = 5 then v else (v.setPair (Reg.LANE_LINKED_AT l) v.now64).modLane l fun x => { x with linkedSince := some v.clk } : State).lane l
        = { s.lane l with linkedSince := a } := by
      split
      · exact ⟨(s.lane l).linkedSince, hv⟩
      · refine ⟨some v.clk, ?_⟩
        rw [State.lane_modLane_self, State.lane, State.setPair_lanes, ← State.lane, hv]
    generalize (if s.laneSt l = 5 then v else _ : State) = w at h1 ⊢
    obtain ⟨a, h1⟩ := h1
    have h2 := State.lanes_of_ite (c := w.laneRole l = 5 ∧ s.laneSt l ≠ 5) (r := w.lanes) (u := w)
      (t := { w with slk := { w.slk with credits := tabErase w.slk.credits (8 + l) } }) rfl rfl
    generalize (if w.laneRole l = 5 ∧ s.laneSt l ≠ 5 then _ else w : State) = x at h2 ⊢
    have h3 := State.lanes_of_ite (c := x.flt.resets.any (·.1 == .lane l) = true) (t := x.laneBack l) ((State.laneBack_lanes x l).trans h2) h2
    generalize (if x.flt.resets.any (·.1 == .lane l) = true then _ else x : State) = y at h3 ⊢
    have h4 := (State.condClear_lanes y 96 l).trans h3
    have h5 := State.lanes_of_ite (c := (y.condClear 96 l).laneRate l = (y.condClear 96 l).laneCfgRate l) ((State.condClear_lanes _ 97 l).trans h4) h4
    refine ⟨a, (s.lane l).downSince, ?_⟩
    rw [State.lane, h5]
    exact h1
  · split
    · refine ⟨none, v.clk, ?_⟩
      rw [State.lane_modLane_self, hv]
    · exact ⟨(s.lane l).linkedSince, (s.lane l).downSince, hv⟩

/-- A reserve that starts its step in a member's place. -/
theorem State.reserveStep_spec (s : State) (hm : m < 24) (hidle : s.idleReserve (s.groupOf l) = some m) : (s.reserveStep l).laneSt m = 4
    ∧ (s.reserveStep l).fld (Reg.LANE_STATE m) 18 14 = s.placeOf l % 32 ∧ ((s.reserveStep l).lane m).target = s.groupRate (s.groupOf l)
    ∧ ((s.reserveStep l).lane m).standIn = some l ∧ LaneAt (· = m) s (s.reserveStep l) := by
  obtain ⟨v, hv⟩ : ∃ v, v = (s.setLaneSt m 4).setFld (Reg.LANE_STATE m) 18 14 (s.placeOf l) := ⟨_, rfl⟩
  have hfirst := s.setLaneSt_laneMove hm 4
  have hfld := LaneMove.setState hm (s.setLaneSt m 4) (hi := 18) (lo := 14) (s.placeOf l) (by decide) (by decide)
  rw [show (s.setLaneSt m 4).setFld (Reg.LANE_STATE m) 18 14 (s.placeOf l) = v from hv.symm] at hfld
  obtain ⟨f, hf⟩ : ∃ f : Lane → Lane, f = fun x =>
    { x with
      target := s.groupRate (s.groupOf l), nextRung := s.groupRate (s.groupOf l), fromRate := v.laneRate m, passed := false, partnerPassed := false
      stepAgreed := none, txSwitch := none, rxSwitch := none, lastCount := 255, standIn := some l } := ⟨_, rfl⟩
  have heq : s.reserveStep l = (v.modLane m f).setTx m (.step (s.groupRate (s.groupOf l)) (s.groupRate (s.groupOf l))) := by
    unfold State.reserveStep
    rw [hidle, hf, hv]
  have hregs : (s.reserveStep l).regs = v.regs := by rw [heq]; exact (State.setTx_sides _ m _).1
  have hrn (a : Nat) : (s.reserveStep l).rn a = v.rn a := by rw [State.rn, State.rn, State.rd, State.rd, hregs]
  have hlane : (s.reserveStep l).lane m = { f (v.lane m) with tx := .step (s.groupRate (s.groupOf l)) (s.groupRate (s.groupOf l)) } := by
    rw [heq, State.setTx_lane, State.lane_modLane_self]
  rw [hlane, hf]
  refine ⟨?_, ?_, rfl, rfl, ?_⟩
  · rw [State.laneSt, State.fld, hrn]
    exact (hfld.laneSt (by decide)).trans (s.setLaneSt_laneSt hm (by decide))
  · rw [State.fld, hrn, hv]
    exact State.fld_setFld_same _ (by decide) (by decide)
  · rw [heq]
    exact ((hfirst.trans hfld).at_.trans (.modLane (P := (· = m)) rfl f)).trans (.setTx (P := (· = m)) rfl _ _)

/-- A lane that joins its group. -/
theorem State.groupJoin_spec (s : State) (hl : l < 24) (hg : s.groupOf l < 3) : (s.groupJoin l).laneBit l 13 = true
    ∧ (∀ i ≠ 13, (s.groupJoin l).laneBit l i = s.laneBit l i) ∧ LaneAt (· = l) s (s.groupJoin l) := by
  have hat := State.groupJoin_laneAt hl (P := (· = l)) rfl s
  obtain ⟨v, hv, hvr⟩ : ∃ v : State, v = (if (s.inGroup (s.groupOf l)).isEmpty then
      { s with slk := { s.slk with credits := tabErase s.slk.credits (s.groupOf l) } } else s : State) ∧ v.regs = s.regs :=
    ⟨_, rfl, by split <;> rfl⟩
  obtain ⟨w, hw⟩ : ∃ w, w = (v.setLaneBit l 13 true).modLane l fun x => { x with substSince := none, rejoinSince := none, oneStep := false } := ⟨_, rfl⟩
  have hafter : LaneMove l [] (w.groupSettle (s.groupOf l)) (s.groupJoin l) := by
    unfold State.groupJoin
    dsimp only
    rw [if_pos hg, ← hv, ← hw]
    generalize s.groupOf l = g at hg
    generalize w.groupSettle g = x
    have h1 := LaneMove.ite (c := x.memberNo l = x.fld (Reg.SLK_GRP_STAT g) 20 19) (State.loadLatency_laneMove x (p := 5 + g) (by omega) l l) (.refl x)
    exact .ite (h1.trans (State.condClear_laneMove _ hl 101 g)) h1
  have hmove := (w.groupSettle_laneMove l (s.groupOf_lt l)).trans hafter
  have hbit := LaneMove.setBit hl v true (i := 13) (by decide)
  have hwbit (i : Nat) : w.laneBit l i = (v.setLaneBit l 13 true).laneBit l i := by rw [hw]; rfl
  refine ⟨(hmove.bits 13 (by simp)).trans ((hwbit 13).trans (v.setLaneBit_self l true (by decide))), fun i hi => ?_, hat⟩
  rw [hmove.bits i (by simp), hwbit, hbit.bits i (by simpa using hi), State.laneBit, State.rn, State.rd, hvr]
  rfl

/-- A reserve that joins the group in a member's place. -/
theorem State.reserveJoin_spec (s : State) (hl : l < 24) (hm : m < 24) (hne : m ≠ l) (hplan : s.planned l = false) (hg : s.groupOf m = s.groupOf l)
    (hg3 : s.groupOf l < 3) (hpass : s.rungPassed m = true) (h13 : s.laneBit l 13 = false) {a : Nat} (hsince : (s.lane l).substSince = some a)
    (htime : s.clk ≤ a + ms 30) (h100 : s.logOnly 100 = true) : (s.reserveJoin l m).laneSt m = 5 ∧ (s.reserveJoin l m).laneBit m 13 = true
    ∧ (s.reserveJoin l m).laneBit m 19 = true ∧ (s.reserveJoin l m).laneBit l 13 = false ∧ ((s.reserveJoin l m).lane l).substSince = none
    ∧ (s.reserveJoin l m).hold = s.hold := by
  obtain ⟨a0, ha0⟩ : ∃ a0, a0 = s.modLane l fun x => { x with substSince := none } := ⟨_, rfl⟩
  obtain ⟨b, hb⟩ : ∃ b, b = a0.setFld (Reg.LANE_STATE m) 6 4 (a0.lane m).target := ⟨_, rfl⟩
  obtain ⟨c, hc⟩ : ∃ c, c = ((b.setLaneSt m 5).setTx m .idle).modLane m fun x => { x with standIn := none } := ⟨_, rfl⟩
  obtain ⟨d, hd⟩ : ∃ d, d = c.setLaneBit m 19 true := ⟨_, rfl⟩
  obtain ⟨e, he⟩ : ∃ e, e = (d.groupJoin m).raise 100 (c.groupOf l) l := ⟨_, rfl⟩
  have heq : s.reserveJoin l m = if e.laneSt l = 5 then e.reserveIdle l else e := by
    have hcond : (s.rungPassed m && (s.planned l || (!s.laneBit l 13 && (s.lane l).substSince.any fun c => decide (s.clk ≤ c + ms 30)))) = true := by
      rw [hpass, hplan, h13, hsince, Option.any_some, decide_eq_true htime]
      rfl
    unfold State.reserveJoin
    dsimp only
    rw [if_pos hcond, State.groupRemove_none h13, hplan, ← ha0, ← hb, ← hc, ← hd, ← he]
    exact if_neg (by decide)
  have hbm := LaneMove.setState hm a0 (hi := 6) (lo := 4) (a0.lane m).target (by decide) (by decide)
  have hset := b.setLaneSt_laneMove hm 5
  have hdm := LaneMove.setBit hm c true (i := 19) (by decide)
  rw [← hb] at hbm
  rw [show c.setLaneBit m 19 true = d from hd.symm] at hdm
  have hcm : LaneAt (· = m) b c := by
    rw [hc]
    exact (hset.at_.trans (.setTx (P := (· = m)) rfl _ _)).trans (.modLane (P := (· = m)) rfl _)
  have hcregs : c.regs = (b.setLaneSt m 5).regs := by
    rw [hc]
    exact (State.setTx_sides _ m _).1
  have hst : d.laneSt m = 5 := by
    refine (hdm.laneSt (by decide)).trans ?_
    rw [State.laneSt, State.fld, State.rn, State.rd, hcregs]
    exact b.setLaneSt_laneSt hm (by decide)
  have hd19 : d.laneBit m 19 = true := hd ▸ c.setLaneBit_self m true (by decide)
  have had : LaneAt (· = m) a0 d := (hbm.at_.trans hcm).trans hdm.at_
  obtain ⟨j1, j2, j3⟩ := d.groupJoin_spec hm (by rw [had.groupOf hm, ha0]; exact hg.trans_lt hg3)
  have hall := had.trans j3
  have hside := raise_faultSide (d.groupJoin m) 100 (c.groupOf l) l ((hall.logOnly 100 (by decide)).trans (by rw [ha0]; exact h100))
  rw [← he] at hside
  have hem := LaneMove.of_fault hside hm
  have hel := LaneMove.of_fault hside hl
  have hlast : LaneMove l [19, 0, 1, 2, 3, 10] e (s.reserveJoin l m) ∧ ((s.reserveJoin l m).lane l).substSince = (e.lane l).substSince := by
    rw [heq]
    split
    · refine ⟨((LaneMove.setBit hl e false (i := 19) (by decide)).trans (State.setLaneSt_laneMove _ hl 9)).trans (.setTx _ .hail), ?_⟩
      obtain ⟨p, q, hpq⟩ := (e.setLaneBit l 19 false).setLaneSt_lane l 9
      rw [State.reserveIdle, State.setTx_lane, hpq, State.lane, State.setLaneBit_lanes]
      rfl
    · exact ⟨(LaneMove.refl e).mono (by simp), rfl⟩
  have hnl : ¬ m = l := hne
  have hml : ¬ l = m := fun h => hne h.symm
  refine ⟨?_, ?_, ?_, ?_, ?_, ?_⟩
  · rw [hlast.1.at_.laneSt hnl hm, hem.laneSt (by simp), ← hst]
    exact State.laneFld_of_bits fun i _ hi => j2 i (by omega)
  · rw [hlast.1.at_.laneBit hnl hm, hem.bits 13 (by simp), j1]
  · rw [hlast.1.at_.laneBit hnl hm, hem.bits 19 (by simp), j2 19 (by decide), hd19]
  · rw [hlast.1.bits 13 (by decide), hel.bits 13 (by simp), hall.laneBit hml hl]
    rw [ha0]
    exact h13
  · rw [hlast.2, State.lane, hside.lanes, ← State.lane, hall.lane l hml, ha0, State.lane_modLane_self]
  · rw [hlast.1.at_.hold, hside.hold, hall.hold, ha0]
    rfl

theorem State.pair_of_both {a : Nat} (h : ∀ o, o = 0 ∨ o = 4 → t.rd (a + o) = s.rd (a + o)) : t.pair a = s.pair a :=
  State.pair_congr (h 0 (.inl rfl)) (h 4 (.inr rfl))

/-! #### The obligation -/

/-- A loss of signal noted (R207). -/
def State.losNoted (s : State) (l : Nat) : State :=
  (((s.setLaneBit l 7 true).setFld Reg.LANE_LOS_MAP l l 1).bump (Reg.LANE_LOS l)).modLane l fun x => { x with losSince := some s.clk, fails := 0 }

theorem State.losNoted_spec (s : State) (hl : l < 24) : (s.losNoted l).fld Reg.LANE_LOS_MAP l l = 1
    ∧ (s.losNoted l).pair (Reg.LANE_LOS l) = min (s.pair (Reg.LANE_LOS l) + 1) (2 ^ 64 - 1)
    ∧ (s.losNoted l).laneBit l 7 = true ∧ (∀ i ≠ 7, (s.losNoted l).laneBit l i = s.laneBit l i) ∧ (s.losNoted l).hold = s.hold
    ∧ ∀ a, 0x30100 ≤ a → a % 128 ≠ 12 → a % 128 ≠ 96 → a % 128 ≠ 100 → (s.losNoted l).rd a = s.rd a := by
  obtain ⟨v, hv⟩ : ∃ v, v = s.setLaneBit l 7 true := ⟨_, rfl⟩
  obtain ⟨w, hw⟩ : ∃ w, w = v.setFld Reg.LANE_LOS_MAP l l 1 := ⟨_, rfl⟩
  obtain ⟨x, hx⟩ : ∃ x, x = w.bump (Reg.LANE_LOS l) := ⟨_, rfl⟩
  have hbit := LaneMove.setBit hl s true (i := 7) (by decide)
  rw [show s.setLaneBit l 7 true = v from hv.symm] at hbit
  have heq : s.losNoted l = x.modLane l fun y => { y with losSince := some s.clk, fails := 0 } := by rw [hx, hw, hv]; rfl
  have hxrd (a : Nat) (h1 : a ≠ Reg.LANE_LOS l) (h2 : a ≠ Reg.LANE_LOS l + 4) : x.rd a = w.rd a := hx ▸ w.rd_bump_ne h1 h2
  have hwrd (a : Nat) (h : a ≠ Reg.LANE_LOS_MAP) : w.rd a = v.rd a := by
    rw [hw]
    exact State.rd_wr_ne _ _ h
  have hvrd (a : Nat) (h : a ≠ Reg.LANE_STATE l) : v.rd a = s.rd a := by
    rw [hv]
    exact State.rd_wr_ne _ _ h
  have hstate (i : Nat) : x.laneBit l i = v.laneBit l i := by
    rw [State.laneBit, State.rn, hxrd _ (by simp only [Reg.LANE_STATE, Reg.LANE_LOS]; omega) (by simp only [Reg.LANE_STATE, Reg.LANE_LOS]; omega),
      hwrd _ (by simp only [Reg.LANE_STATE, Reg.LANE_LOS_MAP]; omega)]
    rfl
  rw [heq]
  refine ⟨?_, ?_, ?_, fun i hi => ?_, ?_, fun a h1 h2 h3 h4 => ?_⟩
  · show x.fld _ _ _ = 1
    rw [State.fld, State.rn, hxrd _ (by simp only [Reg.LANE_LOS_MAP, Reg.LANE_LOS]; omega) (by simp only [Reg.LANE_LOS_MAP, Reg.LANE_LOS]; omega), hw]
    exact v.fld_setFld_fits (Nat.le_refl l) (by omega) (by rw [Nat.add_sub_cancel_left]; decide)
  · show x.pair _ = _
    have hp (o : Nat) (ho : o = 0 ∨ o = 4) : w.rd (Reg.LANE_LOS l + o) = s.rd (Reg.LANE_LOS l + o) :=
      (hwrd _ (by simp only [Reg.LANE_LOS, Reg.LANE_LOS_MAP]; omega)).trans (hvrd _ (by simp only [Reg.LANE_LOS, Reg.LANE_STATE]; omega))
    rw [hx, ← State.pair_of_both hp]
    exact w.pair_bumpBy _ 1
  · exact (hstate 7).trans (hv ▸ s.setLaneBit_self l true (by decide))
  · exact (hstate i).trans (hbit.bits i (by simpa using hi))
  · show x.hold = s.hold
    rw [hx, State.bump_hold, hw, State.setFld_hold]
    exact hbit.at_.hold
  · show x.rd a = s.rd a
    rw [hxrd a (by simp only [Reg.LANE_LOS]; omega) (by simp only [Reg.LANE_LOS]; omega), hwrd a (by simp only [Reg.LANE_LOS_MAP]; omega),
      hvrd a (by simp only [Reg.LANE_STATE]; omega)]

/-- A lane whose state's register and configuration are as another state's. -/
theorem State.laneSt_of_bits (h : ∀ i < 4, t.laneBit l i = s.laneBit l i) : t.laneSt l = s.laneSt l :=
  State.laneFld_of_bits fun i _ hi => h i (by omega)

theorem State.laneRole_of_rd (h : t.rd (Reg.LANE_CFG l) = s.rd (Reg.LANE_CFG l)) : t.laneRole l = s.laneRole l :=
  congrArg (fun r : Word => bits r.toNat 2 0) h

theorem State.isSardy_of_role (h : s.laneRole l = 5) : s.isSardy l = true := by
  rw [State.isSardy, h]
  decide

/-- A wait for a reserve that ends. -/
def State.substOver (s : State) (l : Nat) : State := (s.modLane l fun x => { x with substSince := none }).raiseOnce 101 (s.groupOf l) l

theorem State.substOver_spec (s : State) (hl : l < 24) (h101 : s.logOnly 101 = true) : ((s.substOver l).lane l).substSince = none
    ∧ (s.substOver l).hold = s.hold ∧ ∀ m < 24, (s.substOver l).laneSt m = s.laneSt m := by
  obtain ⟨v, hv, hregs, hhold, hlog, hlane⟩ : ∃ v : State, v = s.modLane l (fun x => { x with substSince := none }) ∧ v.regs = s.regs ∧ v.hold = s.hold
      ∧ v.logOnly 101 = true ∧ (v.lane l).substSince = none := ⟨_, rfl, rfl, rfl, h101, by rw [State.lane_modLane_self]⟩
  have hside := raiseOnce_faultSide v 101 (s.groupOf l) l hlog
  have heq : s.substOver l = v.raiseOnce 101 (s.groupOf l) l := hv ▸ rfl
  rw [heq]
  refine ⟨?_, hside.hold.trans hhold, fun m hm => ?_⟩
  · rw [State.lane, hside.lanes]
    exact hlane
  · rw [State.laneSt, State.fld, State.rn, hside.rd (faultReg_low (by simp only [Reg.LANE_STATE]; omega)), State.rd, hregs]
    rfl

/-- The reserve that steps in a lane's place given up, unless its substitution is planned. -/
def State.standInOver (s : State) (l : Nat) : State :=
  match s.standingIn l with
  | some r => if s.planned l then s else s.laneAbort r
  | none => s

def State.substTimeout (s : State) (l : Nat) : State :=
  match (s.lane l).substSince with
  | some c => if s.elapsed c (ms 30) ∧ s.groupOf l < 3 then s.standInOver l |>.substOver l else s
  | none => s

theorem exec_substitutionTimeout (dt : Nat) (l : Fin 24) (s : State) : exec (.substitutionTimeout dt l) s = act dt s fun u => u.substTimeout l := rfl

theorem State.substTimeout_due {a : Nat} (hsince : (s.lane l).substSince = some a) (htime : a + ms 30 ≤ s.clk) (hg : s.groupOf l < 3) :
    s.substTimeout l = (s.standInOver l).substOver l := by
  unfold State.substTimeout
  rw [hsince]
  exact if_pos ⟨decide_eq_true htime, hg⟩

/-- Settles O39, event by event. -/
theorem laneSignals : Obligations.LaneSignals := by
  unfold Obligations.LaneSignals
  intro dt a l m x s hcore hlog hx
  have hl := l.2
  have hlog' : ∀ e ∈ [96, 100, 101], (s.advance dt).logOnly e = true := hlog
  have hx' : (s.advance dt).lane l = x := hx
  refine ⟨fun hr hst h7 h13 => ?_, fun hr hst h7 => ?_, fun hr hst h9 h8 h19 htime => ?_, fun hr hst h13 => ?_, fun hr hst h13 => ?_,
    fun hr hst h7 h8 h19 htime => ?_, fun hst hrejoin htime => ?_, fun hr h0 h7 => ?_, fun hr h0 h7 => ?_, fun hg h19 hidle hstand hsince htime => ?_,
    fun hg hne hplan hgm hstand hpass h13 hsince htime => ?_, fun hsince htime hg hstand => ?_, fun hsince htime hg hne hstand hplan => ?_,
    fun hr hst hdown htime hshadow => ?_⟩
  case refine_1 =>
    obtain ⟨k1, k2, k3, k4, k5, k6⟩ := (s.advance dt).losNoted_spec hl
    generalize hv : (s.advance dt).losNoted l = v at k1 k2 k3 k4 k5 k6
    have hvst : v.laneSt l = 5 := (State.laneSt_of_bits fun i hi => k4 i (by omega)).trans hst
    have hvr : v.laneRole l = 5 := (State.laneRole_of_rd (k6 _ (by simp only [Reg.LANE_CFG]; omega) (by simp only [Reg.LANE_CFG]; omega)
      (by simp only [Reg.LANE_CFG]; omega) (by simp only [Reg.LANE_CFG]; omega))).trans hr
    obtain ⟨j1, j2, j3, j4, -, j6⟩ := v.lockLost_spec hl (State.isSardy_of_role hvr) hvst
    obtain ⟨u, hu⟩ : ∃ u, u = v.lockLost l := ⟨_, rfl⟩
    rw [← hu] at j1 j2 j3 j4 j6
    have hn7 : ¬ (s.advance dt).laneBit l 7 = true := by simp [show (s.advance dt).laneBit l 7 = false from h7]
    have hbody : (if v.laneSt l = 3 ∨ v.laneSt l = 4 then
        (if v.laneSt l = 4 ∧ 2 ≤ v.laneRole l ∧ v.laneRole l ≤ 4 ∧ (v.lane l).standIn.isNone = true then
          ((v.climbing (v.laneRole l - 2)).foldl (fun s m => s.laneAbort m) v).groupStart (v.laneRole l - 2) else v.abortAlone l) else v.lockLost l) = u := by
      rw [if_neg (by omega), hu]
    have hmap : u.fld Reg.LANE_LOS_MAP l l = 1 := by
      rw [State.fld, State.rn, j6 _ (not_laneReg (a := Reg.LANE_LOS_MAP) (.inr rfl) (by decide)) (by simp only [Reg.LANE_LOS_MAP, Reg.LANE_LOCK_LOSS]; omega)
        (by simp only [Reg.LANE_LOS_MAP, Reg.LANE_LOCK_LOSS]; omega)]
      exact k1
    have hlos (o : Nat) (ho : o = 0 ∨ o = 4) : u.rd (Reg.LANE_LOS l + o) = v.rd (Reg.LANE_LOS l + o) :=
      j6 _ (not_laneReg (.inl (by simp only [Reg.LANE_LOS]; omega)) (by simp only [Reg.LANE_LOS]; omega)) (by simp only [Reg.LANE_LOS, Reg.LANE_LOCK_LOSS]; omega)
        (by simp only [Reg.LANE_LOS, Reg.LANE_LOCK_LOSS]; omega)
    have hloss (o : Nat) (ho : o = 0 ∨ o = 4) : v.rd (Reg.LANE_LOCK_LOSS l + o) = (s.advance dt).rd (Reg.LANE_LOCK_LOSS l + o) := by
      refine k6 _ ?_ ?_ ?_ ?_ <;> simp only [Reg.LANE_LOCK_LOSS] <;> omega
    refine completes_eq (u := u) rfl hcore ((if_neg hn7).trans (by rw [← hbody, ← hv]; rfl)) ⟨j1, (j2 7 (by decide)).trans k3, hmap, ?_, ?_, sameHold_of_hold (j4.trans k5)⟩
    · exact (State.pair_of_both hlos).trans k2
    · exact j3.trans (congrArg (fun n => min (n + 1) (2 ^ 64 - 1)) (State.pair_of_both hloss))
  case refine_2 =>
    obtain ⟨-, -, -, k4, k5, k6⟩ := (s.advance dt).losNoted_spec hl
    generalize hv : (s.advance dt).losNoted l = v at k4 k5 k6
    have hvst : v.laneSt l = 3 := (State.laneSt_of_bits fun i hi => k4 i (by omega)).trans hst
    have hvr : v.laneRole l = 5 := (State.laneRole_of_rd (k6 _ (by simp only [Reg.LANE_CFG]; omega) (by simp only [Reg.LANE_CFG]; omega)
      (by simp only [Reg.LANE_CFG]; omega) (by simp only [Reg.LANE_CFG]; omega))).trans hr
    obtain ⟨j1, -⟩ := v.laneAbort_spec hl
    have j2 := v.laneAbort_stepFail hl
    have j3 := v.laneAbort_hold l
    obtain ⟨u, hu⟩ : ∃ u, u = v.laneAbort l := ⟨_, rfl⟩
    rw [← hu] at j1 j2 j3
    have halone : v.abortAlone l = u := by
      unfold State.abortAlone
      dsimp only
      rw [hvr, if_neg (by decide), hu]
    have hn7 : ¬ (s.advance dt).laneBit l 7 = true := by simp [show (s.advance dt).laneBit l 7 = false from h7]
    have hbody : (if v.laneSt l = 3 ∨ v.laneSt l = 4 then
        (if v.laneSt l = 4 ∧ 2 ≤ v.laneRole l ∧ v.laneRole l ≤ 4 ∧ (v.lane l).standIn.isNone = true then
          ((v.climbing (v.laneRole l - 2)).foldl (fun s m => s.laneAbort m) v).groupStart (v.laneRole l - 2) else v.abortAlone l) else v.lockLost l) = u := by
      rw [if_pos (.inl hvst), if_neg (by omega), halone]
    have hfail (o : Nat) (ho : o = 0 ∨ o = 4) : v.rd (Reg.LANE_STEP_FAIL l + o) = (s.advance dt).rd (Reg.LANE_STEP_FAIL l + o) := by
      refine k6 _ ?_ ?_ ?_ ?_ <;> simp only [Reg.LANE_STEP_FAIL] <;> omega
    exact completes_eq (u := u) rfl hcore ((if_neg hn7).trans (by rw [← hbody, ← hv]; rfl)) ⟨j1, j2.trans (State.pair_of_both hfail), sameHold_of_hold (j3.trans k5)⟩
  case refine_3 =>
    obtain ⟨k1, k2, k3, k4, k5, k6⟩ := (s.advance dt).losOver_spec hl
    generalize hv : (s.advance dt).losOver l = v at k1 k2 k3 k4 k5 k6
    have hcleared (b : Bool) : ((if b then v.clearCeiling l else v).tryRelock l).laneSt l = 5 ∧ ((if b then v.clearCeiling l else v).tryRelock l).laneBit l 7 = false
        ∧ ((if b then v.clearCeiling l else v).tryRelock l).hold = s.hold := by
      have hw : ∃ w : State, (if b then v.clearCeiling l else v : State) = w ∧ (∀ i < 20, i ≠ 11 → w.laneBit l i = v.laneBit l i) ∧ w.laneRole l = v.laneRole l
          ∧ w.clk = v.clk ∧ w.hold = v.hold ∧ (w.lane l).relockSince = (v.lane l).relockSince := by
        cases b
        · exact ⟨v, rfl, fun _ _ _ => rfl, rfl, rfl, rfl, rfl⟩
        · obtain ⟨c1, -, -, c4, c5⟩ := v.clearCeiling_spec hl
          exact ⟨_, rfl, fun i hi h11 => c4 i (by simp; omega), c1.laneRole hl, c1.clk, c1.hold, by
            show ((v.clearCeiling l).lane l).relockSince = _
            rw [c5]⟩
      obtain ⟨w, hw, w1, w2, w3, w4, w5⟩ := hw
      have hbits (i : Nat) (hi : i < 20) (h11 : i ≠ 11) (h7 : i ≠ 7) : w.laneBit l i = s.laneBit l i := (w1 i hi h11).trans (k2 i h7)
      have hw7 : w.laneBit l 7 = false := (w1 7 (by decide) (by decide)).trans k1
      obtain ⟨j1, j2, j3⟩ := w.tryRelock_spec hl (w2.trans (k3.trans hr)) ((State.laneSt_of_bits fun i hi => hbits i (by omega) (by omega) (by omega)).trans hst)
        ((hbits 9 (by decide) (by decide) (by decide)).trans h9) hw7 ((hbits 8 (by decide) (by decide) (by decide)).trans h8)
        ((hbits 19 (by decide) (by decide) (by decide)).trans h19) (by rw [w3, k4, w5, k6, hx']; exact htime)
      rw [hw]
      exact ⟨j1, (j2 7 (by decide)).trans hw7, (j3.trans w4).trans k5⟩
    obtain ⟨b, hb⟩ : ∃ b : Bool, b = (match ((s.advance dt).lane l).losSince with
      | some c => (s.advance dt).elapsed c (ms 10)
      | none => false) := ⟨_, rfl⟩
    obtain ⟨h1, h2, h3⟩ := hcleared b
    obtain ⟨u, hu⟩ : ∃ u, u = (if b then v.clearCeiling l else v).tryRelock l := ⟨_, rfl⟩
    rw [← hu] at h1 h2 h3
    exact completes_eq (u := u) rfl hcore (by rw [hu, hb, ← hv]; rfl) ⟨h1, h2, sameHold_of_hold h3⟩
  case refine_4 =>
    obtain ⟨v, hv⟩ : ∃ v, v = (s.advance dt).setLaneBit l 8 true := ⟨_, rfl⟩
    have hbit := LaneMove.setBit hl (s.advance dt) true (i := 8) (by decide)
    rw [← hv] at hbit
    have hv8 : v.laneBit l 8 = true := hv ▸ State.setLaneBit_self _ l true (by decide)
    obtain ⟨j1, j2, -, j4, -⟩ := v.lockLost_spec hl (State.isSardy_of_role ((hbit.at_.laneRole hl).trans hr)) ((hbit.laneSt (by decide)).trans hst)
    obtain ⟨u, hu⟩ : ∃ u, u = v.lockLost l := ⟨_, rfl⟩
    rw [← hu] at j1 j2 j4
    exact completes_eq (u := u) rfl hcore ((if_pos rfl).trans (by rw [hu, hv])) ⟨j1, (j2 8 (by decide)).trans hv8, sameHold_of_hold (j4.trans hbit.at_.hold)⟩
  case refine_5 =>
    obtain ⟨v, hv⟩ : ∃ v, v = (s.advance dt).setLaneBit l 9 false := ⟨_, rfl⟩
    have hbit := LaneMove.setBit hl (s.advance dt) false (i := 9) (by decide)
    rw [← hv] at hbit
    have hv9 : v.laneBit l 9 = false := hv ▸ State.setLaneBit_self _ l false (by decide)
    have hvr := (hbit.at_.laneRole hl).trans hr
    obtain ⟨j1, j2, j3, j4, j5, -⟩ := v.lockLost_spec hl (State.isSardy_of_role hvr) ((hbit.laneSt (by decide)).trans hst)
    obtain ⟨u, hu⟩ : ∃ u, u = v.lockLost l := ⟨_, rfl⟩
    rw [← hu] at j1 j2 j3 j4 j5
    have hdown : u.eDown l = u := if_neg fun e => absurd ((j5.trans hvr).symm.trans e.1) (by decide)
    have hloss (o : Nat) (ho : o = 0 ∨ o = 4) : v.rd (Reg.LANE_LOCK_LOSS l + o) = (s.advance dt).rd (Reg.LANE_LOCK_LOSS l + o) :=
      hbit.rd (not_laneReg (.inl (by simp only [Reg.LANE_LOCK_LOSS]; omega)) (by simp only [Reg.LANE_LOCK_LOSS]; omega))
    exact completes_eq (u := u) rfl hcore (by rw [← hdown, hu, hv]) ⟨j1, (j2 9 (by decide)).trans hv9,
      j3.trans (congrArg (fun n => min (n + 1) (2 ^ 64 - 1)) (State.pair_of_both hloss)), sameHold_of_hold (j4.trans hbit.at_.hold)⟩
  case refine_6 =>
    obtain ⟨v, hv⟩ : ∃ v, v = (s.advance dt).setLaneBit l 9 true := ⟨_, rfl⟩
    have hbit := LaneMove.setBit hl (s.advance dt) true (i := 9) (by decide)
    rw [← hv] at hbit
    have hv9 : v.laneBit l 9 = true := hv ▸ State.setLaneBit_self _ l true (by decide)
    have hvlane : v.lane l = x := by rw [hv, State.lane, State.setLaneBit_lanes]; exact hx
    obtain ⟨j1, j2, j3⟩ := v.tryRelock_spec hl ((hbit.at_.laneRole hl).trans hr) ((hbit.laneSt (by decide)).trans hst) hv9 ((hbit.bits 7 (by decide)).trans h7)
      ((hbit.bits 8 (by decide)).trans h8) ((hbit.bits 19 (by decide)).trans h19) (by rw [hbit.at_.clk, hvlane]; exact htime)
    obtain ⟨u, hu⟩ : ∃ u, u = v.tryRelock l := ⟨_, rfl⟩
    rw [← hu] at j1 j2 j3
    exact completes_eq (u := u) rfl hcore (by rw [hu, hv]) ⟨j1, (j2 9 (by decide)).trans hv9, sameHold_of_hold (j3.trans hbit.at_.hold)⟩
  case refine_7 =>
    obtain ⟨h1, -⟩ := (s.advance dt).laneAbort_spec hl
    have h2 := (s.advance dt).laneAbort_hold l
    obtain ⟨u, hu⟩ : ∃ u, u = (s.advance dt).laneAbort l := ⟨_, rfl⟩
    rw [← hu] at h1 h2
    have hcond : (s.advance dt).laneSt l = 6 ∧ ((s.advance dt).lane l).rejoinSince.isNone = true ∧ (s.advance dt).elapsed ((s.advance dt).lane l).relockSince (ms 1) = true := by
      rw [hx', hrejoin, State.elapsed, decide_eq_true_eq]
      exact ⟨hst, rfl, htime⟩
    exact completes_eq (u := u) rfl hcore ((if_pos hcond).trans hu.symm) ⟨h1, sameHold_of_hold h2⟩
  case refine_8 =>
    obtain ⟨v, hv⟩ : ∃ v, v = ((s.advance dt).setLaneBit l 9 true).setFld (Reg.LANE_STATE l) 6 4 ((s.advance dt).laneCfgRate l) := ⟨_, rfl⟩
    have hbit := LaneMove.setBit hl (s.advance dt) true (i := 9) (by decide)
    have hfld := LaneMove.setState hl ((s.advance dt).setLaneBit l 9 true) (hi := 6) (lo := 4) ((s.advance dt).laneCfgRate l) (by decide) (by decide)
    rw [← hv] at hfld
    have hset := v.setLaneSt_laneMove hl 5
    have hst := v.setLaneSt_laneSt hl (st := 5) (by decide)
    obtain ⟨u, hu⟩ : ∃ u, u = v.setLaneSt l 5 := ⟨_, rfl⟩
    rw [← hu] at hset hst
    exact completes_eq (u := u) rfl hcore ((if_pos ⟨hr, h0, h7⟩).trans ((if_pos rfl).trans (by rw [hu, hv])))
      ⟨hst, (hset.bits 9 (by decide)).trans ((hfld.bits 9 (by decide)).trans (State.setLaneBit_self _ l true (by decide))),
        sameHold_of_hold ((hbit.trans hfld).trans hset).at_.hold⟩
  case refine_9 =>
    obtain ⟨v, hv⟩ : ∃ v, v = ((s.advance dt).setLaneBit l 9 false).setFld (Reg.LANE_STATE l) 6 4 ((s.advance dt).laneCfgRate l) := ⟨_, rfl⟩
    have hbit := LaneMove.setBit hl (s.advance dt) false (i := 9) (by decide)
    have hfld := LaneMove.setState hl ((s.advance dt).setLaneBit l 9 false) (hi := 6) (lo := 4) ((s.advance dt).laneCfgRate l) (by decide) (by decide)
    rw [← hv] at hfld
    have hset := v.setLaneSt_laneMove hl 10
    have hst := v.setLaneSt_laneSt hl (st := 10) (by decide)
    obtain ⟨u, hu⟩ : ∃ u, u = v.setLaneSt l 10 := ⟨_, rfl⟩
    rw [← hu] at hset hst
    exact completes_eq (u := u) rfl hcore ((if_pos ⟨hr, h0, h7⟩).trans ((if_neg (by decide)).trans (by rw [hu, hv])))
      ⟨hst, (hset.bits 9 (by decide)).trans ((hfld.bits 9 (by decide)).trans (State.setLaneBit_self _ l false (by decide))),
        sameHold_of_hold ((hbit.trans hfld).trans hset).at_.hold⟩
  case refine_10 =>
    obtain ⟨h1, h2, h3, h4, h5⟩ := (s.advance dt).reserveStep_spec m.2 hidle
    obtain ⟨u, hu⟩ : ∃ u, u = (s.advance dt).reserveStep l := ⟨_, rfl⟩
    rw [← hu] at h1 h2 h3 h4 h5
    have hplace : (s.advance dt).placeOf l % 32 = l := by
      have hp : (s.advance dt).placeOf l = l := if_neg (by rw [show (s.advance dt).laneBit l 19 = false from h19]; decide)
      rw [hp]
      exact Nat.mod_eq_of_lt (by omega)
    have hne : ¬ (s.advance dt).groupOf l = 3 := by
      have h : (s.advance dt).groupOf l < 3 := hg
      omega
    have hnext : (s.advance dt).reserveNext l = u := by
      have hcond : (((s.advance dt).planned l || ((s.advance dt).lane l).substSince.any fun c => decide ((s.advance dt).clk ≤ c + ms 30))
          && ((s.advance dt).idleReserve ((s.advance dt).groupOf l)).isSome) = true := by
        rw [hx', hsince, Option.any_some, show (s.advance dt).idleReserve ((s.advance dt).groupOf l) = some m.val from hidle,
          show decide ((s.advance dt).clk ≤ a + ms 30) = true from decide_eq_true htime]
        simp
      unfold State.reserveNext
      exact (if_pos hcond).trans hu.symm
    have hbody : (match (s.advance dt).standingIn l with
        | some r => if false = true then (s.advance dt).reserveJoin l r else ((s.advance dt).laneAbort r).reserveNext l
        | none => if false = true then s.advance dt else (s.advance dt).reserveNext l) = u := by
      rw [show (s.advance dt).standingIn l = none from hstand]
      exact (if_neg (by decide)).trans hnext
    exact completes_eq (u := u) rfl hcore ((if_neg hne).trans hbody) ⟨h1, h2.trans hplace, h3, h4, sameHold_of_hold h5.hold⟩
  case refine_11 =>
    have hne3 : ¬ (s.advance dt).groupOf l = 3 := by
      have h : (s.advance dt).groupOf l < 3 := hg
      omega
    obtain ⟨h1, h2, h3, h4, h5, h6⟩ := (s.advance dt).reserveJoin_spec hl m.2 (fun e => hne (Fin.ext e)) hplan hgm hg hpass h13 (by rw [hx']; exact hsince) htime
      (hlog' 100 (by simp))
    obtain ⟨u, hu⟩ : ∃ u, u = (s.advance dt).reserveJoin l m := ⟨_, rfl⟩
    rw [← hu] at h1 h2 h3 h4 h5 h6
    have hbody : (match (s.advance dt).standingIn l with
        | some r => if true = true then (s.advance dt).reserveJoin l r else ((s.advance dt).laneAbort r).reserveNext l
        | none => if true = true then s.advance dt else (s.advance dt).reserveNext l) = u := by
      rw [show (s.advance dt).standingIn l = some m.val from hstand]
      exact (if_pos rfl).trans hu.symm
    exact completes_eq (u := u) rfl hcore ((if_neg hne3).trans hbody) ⟨h1, h2, h3, h4, h5, sameHold_of_hold h6⟩
  case refine_12 =>
    have hdue := State.substTimeout_due (s := s.advance dt) (by rw [hx']; exact hsince) htime hg
    rw [State.standInOver, show (s.advance dt).standingIn l = none from hstand] at hdue
    obtain ⟨h1, h2, h3⟩ := (s.advance dt).substOver_spec hl (hlog' 101 (by simp))
    obtain ⟨u, hu⟩ : ∃ u, u = (s.advance dt).substOver l := ⟨_, rfl⟩
    rw [← hu] at h1 h2 h3
    exact completes_eq (u := u) (exec_substitutionTimeout ..) hcore (hdue.trans hu.symm) ⟨h1, h3 l hl, sameHold_of_hold h2⟩
  case refine_13 =>
    have hdue := State.substTimeout_due (s := s.advance dt) (by rw [hx']; exact hsince) htime hg
    have hover : (s.advance dt).standInOver l = (s.advance dt).laneAbort m := by
      rw [State.standInOver, show (s.advance dt).standingIn l = some m.val from hstand]
      exact if_neg (by rw [show (s.advance dt).planned l = false from hplan]; decide)
    obtain ⟨a1, -⟩ := (s.advance dt).laneAbort_spec m.2
    have a2 := (s.advance dt).laneAbort_hold m
    have a3 := (s.advance dt).laneAbort_logOnly m.2 (d := 101) (by decide)
    rw [hover] at hdue
    generalize (s.advance dt).laneAbort m = v at hdue a1 a2 a3
    obtain ⟨h1, h2, h3⟩ := v.substOver_spec hl (a3.trans (hlog' 101 (by simp)))
    obtain ⟨u, hu⟩ : ∃ u, u = v.substOver l := ⟨_, rfl⟩
    rw [← hu] at h1 h2 h3
    exact completes_eq (u := u) (exec_substitutionTimeout ..) hcore (hdue.trans hu.symm) ⟨h1, (h3 m m.2).trans a1, sameHold_of_hold (h2.trans a2)⟩
  case refine_14 =>
    have hside := raiseOnce_faultSide (s.advance dt) 96 l ((s.advance dt).laneSt l) (hlog' 96 (by simp))
    have hlanes := hside.lanes
    have hhold := hside.hold
    have hstand := (s.advance dt).raiseOnce_standing (d := 96) l ((s.advance dt).laneSt l) (hlog' 96 (by simp)) (by decide) (by decide) (by decide) (by decide) (State.shadowOf_of_none hshadow)
    obtain ⟨u, hu⟩ : ∃ u, u = (s.advance dt).raiseOnce 96 l ((s.advance dt).laneSt l) := ⟨_, rfl⟩
    rw [← hu] at hlanes hhold hstand
    have hlong : (if ((s.advance dt).lane l).downSince = 0 then (s.advance dt).elapsed (s.advance dt).watch.goodAt (sec 4)
        else (s.advance dt).elapsed ((s.advance dt).lane l).downSince (sec 1)) = true := by
      rw [hx', if_neg hdown]
      exact decide_eq_true htime
    have hcond : 1 ≤ (s.advance dt).laneRole l ∧ (s.advance dt).laneRole l ≤ 5 ∧ (!(s.advance dt).linked l) = true
        ∧ (if ((s.advance dt).lane l).downSince = 0 then (s.advance dt).elapsed (s.advance dt).watch.goodAt (sec 4)
          else (s.advance dt).elapsed ((s.advance dt).lane l).downSince (sec 1)) = true := by
      have hrole : (s.advance dt).laneRole l = 5 := hr
      have hlinked : (s.advance dt).linked l = false := beq_eq_false_iff_ne.2 hst
      rw [hrole, hlinked]
      exact ⟨by decide, by decide, rfl, hlong⟩
    exact completes_eq (u := u) rfl hcore ((if_pos hcond).trans hu.symm) ⟨hstand, hlanes, sameHold_of_hold hhold⟩

end Sys2Proof.Machine
end

section
/-! ### Commands, tests, margins and clocks of lanes (R214 to R219, R529) -/

namespace Sys2Proof.Machine

variable {s t u : State} {l m g : Nat}

/-! #### Commands -/

theorem State.retrain_spec (s : State) (hl : l < 24) : (s.retrain l).laneSt l = 2 ∧ (s.retrain l).rn (Reg.LANE_BACKOFF l) = 10
    ∧ (s.retrain l).fld (Reg.LANE_STATE l) 22 20 = 4 ∧ (s.retrain l).laneBit l 11 = false ∧ (s.retrain l).laneRate l = 0 ∧ (s.retrain l).hold = s.hold := by
  obtain ⟨c1, c2, c3, -, -⟩ := s.clearCeiling_spec hl
  obtain ⟨v, hv⟩ : ∃ v, v = (s.clearCeiling l).wn (Reg.LANE_BACKOFF l) 10 := ⟨_, rfl⟩
  have hback : v.rn (Reg.LANE_BACKOFF l) = 10 := hv ▸ State.rn_wn_self ..
  have hstate : v.rn (Reg.LANE_STATE l) = (s.clearCeiling l).rn (Reg.LANE_STATE l) :=
    hv ▸ congrArg BitVec.toNat (State.rd_wr_ne _ _ (by simp only [Reg.LANE_STATE, Reg.LANE_BACKOFF]; omega))
  have hhold : v.hold = s.hold := (congrArg State.hold hv).trans ((State.wn_hold ..).trans c1.hold)
  have heq : s.retrain l = v.enterHail l := hv ▸ rfl
  obtain ⟨h1, h2, h3, h4⟩ := v.enterHail_spec hl
  rw [heq]
  refine ⟨h2, ?_, ?_, ?_, h3, h1.hold.trans hhold⟩
  · rw [State.rn, h1.rd _ (not_laneReg (.inl (by simp only [Reg.LANE_BACKOFF]; omega)) (by simp only [Reg.LANE_BACKOFF]; omega))]
    exact hback
  · refine (State.laneFld_of_bits (s := v) fun i hlo hhi => h4 i (by simp; omega)).trans ?_
    rw [State.fld, hstate]
    exact c2
  · rw [h4 11 (by decide), State.laneBit, hstate]
    exact c3

/-- A lane taken out of its group by a command, counted as a loss of lock. -/
def State.takenOut (s : State) (l : Nat) : State := if s.laneBit l 13 then (s.bump (Reg.LANE_LOCK_LOSS l)).groupRemove l else s

theorem State.takenOut_spec (s : State) (hl : l < 24) : (s.takenOut l).laneBit l 13 = false ∧ (s.takenOut l).hold = s.hold
    ∧ (s.takenOut l).laneRole l = s.laneRole l ∧ ∀ d < 512, (s.takenOut l).logOnly d = s.logOnly d := by
  unfold State.takenOut
  split
  · have hb (a : Nat) (h : a < 0x30148 + 128 * l ∨ 0x30150 + 128 * l ≤ a) : (s.bump (Reg.LANE_LOCK_LOSS l)).rd a = s.rd a :=
      s.rd_bump_ne (by simp only [Reg.LANE_LOCK_LOSS]; omega) (by simp only [Reg.LANE_LOCK_LOSS]; omega)
    have hhold := State.bump_hold (s := s) (Reg.LANE_LOCK_LOSS l)
    generalize s.bump (Reg.LANE_LOCK_LOSS l) = v at hb hhold
    have hmove := v.groupRemove_laneMove hl
    exact ⟨v.groupRemove_out hl, hmove.at_.hold.trans hhold, (hmove.at_.laneRole hl).trans (State.laneRole_of_rd (hb _ (by simp only [Reg.LANE_CFG]; omega))),
      fun d hd => (hmove.at_.logOnly d hd).trans (State.logOnly_congr (hb _ (by simp only [Reg.FLT_DET_CFG]; omega)))⟩
  · next h => exact ⟨Bool.eq_false_iff.2 h, rfl, rfl, fun _ _ => rfl⟩

/-- A tile lane that enters TEST. -/
theorem State.cmdEnterTest_spec (s : State) (hl : l < 24) (req : Requester) (hr : s.laneRole l = 5) (hst : s.laneSt l ≠ 7) (h102 : s.logOnly 102 = true) :
    (s.cmdEnterTest req l).laneSt l = 7 ∧ (s.cmdEnterTest req l).fld Reg.LANE_TEST_MAP l l = 1 ∧ (s.cmdEnterTest req l).hold = s.hold := by
  obtain ⟨-, k2, k3, k4⟩ := s.takenOut_spec hl
  generalize hv : s.takenOut l = v at k2 k3 k4
  have hset := v.setLaneSt_laneMove hl 7
  have hlaneSt := v.setLaneSt_laneSt hl (st := 7) (by decide)
  have hmap := v.setLaneSt_testMap hl (st := 7) (by decide) (by rw [k3, hr]; decide)
  generalize hw : v.setLaneSt l 7 = w at hset hlaneSt hmap
  have hregs := (w.setTx_sides l .idle).1
  have htx := LaneMove.setTx (l := l) w .idle
  generalize hx : w.setTx l .idle = x at hregs htx
  have hside := raiseOnce_faultSide x 102 l 0 (((hset.trans htx).at_.logOnly 102 (by decide)).trans ((k4 102 (by decide)).trans h102))
  have heq : s.cmdEnterTest req l = x.raiseOnce 102 l 0 := by
    unfold State.cmdEnterTest
    rw [if_neg (by rw [hr]; omega), ← hx, ← hw, ← hv]
    rfl
  have hlow (a : Nat) (ha : a < 0xD0000) : (x.raiseOnce 102 l 0).rd a = w.rd a := (hside.rd (faultReg_low ha)).trans (by rw [State.rd, State.rd, hregs])
  rw [heq]
  refine ⟨?_, ?_, hside.hold.trans ((hset.trans htx).at_.hold.trans k2)⟩
  · rw [State.laneSt, State.fld, State.rn, hlow _ (by simp only [Reg.LANE_STATE]; omega)]
    exact hlaneSt
  · rw [State.fld, State.rn, hlow _ (by decide)]
    exact hmap

theorem State.enterHail_testMap (s : State) (hl : l < 24) (hr : s.laneRole l ≠ 1) : (s.enterHail l).fld Reg.LANE_TEST_MAP l l = 0 := by
  obtain ⟨v, hv⟩ : ∃ v, v = (s.groupRemove l).setFld (Reg.LANE_STATE l) 6 4 0 := ⟨_, rfl⟩
  have hmove : LaneMove l [13, 4, 5, 6] s v := hv ▸ (s.groupRemove_laneMove hl).trans (LaneMove.setState hl _ (hi := 6) (lo := 4) 0 (by decide) (by decide))
  have hmap := v.setLaneSt_testMap hl (st := 2) (by decide) (by rwa [hmove.at_.laneRole hl])
  obtain ⟨w, hw⟩ : ∃ w, w = ((v.setLaneSt l 2).setLaneBit l 19 false).setLaneBit l 9 false := ⟨_, rfl⟩
  obtain ⟨f, hf⟩ : ∃ f : Lane → Lane, s.enterHail l = (w.modLane l f).setTx l .hail := by
    rw [hw, hv]
    exact ⟨_, rfl⟩
  have hregs : (s.enterHail l).regs = w.regs := by rw [hf]; exact ((w.modLane l f).setTx_sides l .hail).1
  have hne : Reg.LANE_TEST_MAP ≠ Reg.LANE_STATE l := by simp only [Reg.LANE_STATE, Reg.LANE_TEST_MAP]; omega
  rw [State.fld, State.rn, State.rd, hregs, hw]
  exact (State.fld_setFld_ne _ _ _ _ _ _ hne).trans ((State.fld_setFld_ne _ _ _ _ _ _ hne).trans hmap)

/-- The loopback and the generator cleared. -/
def State.testCleared (s : State) (l : Nat) : State :=
  let s := s.wn (Reg.LANE_LB l) 0
  (s.setFld (Reg.LANE_PRBS_CFG l) 1 0 0).setFld (Reg.LANE_PRBS_CFG l) 4 4 0

theorem State.testCleared_spec (s : State) (l : Nat) : (s.testCleared l).rn (Reg.LANE_LB l) = 0 ∧ (s.testCleared l).fld (Reg.LANE_PRBS_CFG l) 1 0 = 0
    ∧ (s.testCleared l).fld (Reg.LANE_PRBS_CFG l) 4 4 = 0 ∧ (s.testCleared l).fld (Reg.LANE_PRBS_CFG l) 3 2 = s.fld (Reg.LANE_PRBS_CFG l) 3 2
    ∧ (s.testCleared l).laneRole l = s.laneRole l ∧ (s.testCleared l).hold = s.hold := by
  obtain ⟨v, hv⟩ : ∃ v, v = s.wn (Reg.LANE_LB l) 0 := ⟨_, rfl⟩
  obtain ⟨w, hw⟩ : ∃ w, w = v.setFld (Reg.LANE_PRBS_CFG l) 1 0 0 := ⟨_, rfl⟩
  have heq : s.testCleared l = w.setFld (Reg.LANE_PRBS_CFG l) 4 4 0 := by rw [hw, hv]; rfl
  have hlb : v.rn (Reg.LANE_LB l) = 0 := hv ▸ State.rn_wn_self ..
  have hne : Reg.LANE_LB l ≠ Reg.LANE_PRBS_CFG l := by simp only [Reg.LANE_LB, Reg.LANE_PRBS_CFG]; omega
  have hcfg : Reg.LANE_CFG l ≠ Reg.LANE_PRBS_CFG l ∧ Reg.LANE_CFG l ≠ Reg.LANE_LB l := by simp only [Reg.LANE_CFG, Reg.LANE_PRBS_CFG, Reg.LANE_LB]; omega
  rw [heq]
  refine ⟨?_, ?_, State.fld_setFld_fits _ (by decide) (by decide) (by decide), ?_, ?_, ?_⟩
  · rw [State.setFld, State.rn_wn_ne _ _ hne, hw, State.setFld, State.rn_wn_ne _ _ hne, hlb]
  · rw [State.fld_setFld_beside _ (by decide) (by decide) (by decide), hw]
    exact State.fld_setFld_fits _ (by decide) (by decide) (by decide)
  · rw [State.fld_setFld_beside _ (by decide) (by decide) (by decide), hw, State.fld_setFld_beside _ (by decide) (by decide) (by decide), hv]
    exact State.fld_wn_ne _ _ _ _ hne.symm
  · rw [State.laneRole, State.fld_setFld_ne _ _ _ _ _ _ hcfg.1, hw, State.fld_setFld_ne _ _ _ _ _ _ hcfg.1, hv, State.fld_wn_ne _ _ _ _ hcfg.2]
    rfl
  · rw [State.setFld_hold, hw, State.setFld_hold, hv, State.wn_hold]

/-- A tile lane that leaves TEST. -/
theorem State.cmdLeaveTest_spec (s : State) (hl : l < 24) (req : Requester) (hr : s.laneRole l = 5) (hst : s.laneSt l = 7) :
    (s.cmdLeaveTest req l).laneSt l = 2 ∧ (s.cmdLeaveTest req l).rn (Reg.LANE_LB l) = 0 ∧ (s.cmdLeaveTest req l).fld (Reg.LANE_PRBS_CFG l) 1 0 = 0
      ∧ (s.cmdLeaveTest req l).fld (Reg.LANE_PRBS_CFG l) 4 4 = 0 ∧ (s.cmdLeaveTest req l).fld (Reg.LANE_PRBS_CFG l) 3 2 = s.fld (Reg.LANE_PRBS_CFG l) 3 2
      ∧ (s.cmdLeaveTest req l).fld Reg.LANE_TEST_MAP l l = 0 ∧ (s.cmdLeaveTest req l).hold = s.hold := by
  obtain ⟨k1, k2, k3, k4, k5, k6⟩ := s.testCleared_spec l
  generalize hv : s.testCleared l = v at k1 k2 k3 k4 k5 k6
  have hvr := k5.trans hr
  obtain ⟨h1, h2, -, -⟩ := v.enterHail_spec hl
  have h3 := v.enterHail_testMap hl (by rw [hvr]; decide)
  have heq : s.cmdLeaveTest req l = v.enterHail l := by
    unfold State.cmdLeaveTest
    rw [if_pos hst]
    show (if (s.testCleared l).laneRole l = 1 then ((s.testCleared l).setLaneSt l 10).setTx l .idle else (s.testCleared l).enterHail l) = _
    rw [hv, if_neg (by rw [hvr]; decide)]
  have hcfg : (v.enterHail l).rd (Reg.LANE_PRBS_CFG l) = v.rd (Reg.LANE_PRBS_CFG l) :=
    h1.rd _ (not_laneReg (.inl (by simp only [Reg.LANE_PRBS_CFG]; omega)) (by simp only [Reg.LANE_PRBS_CFG]; omega))
  have hfld (hi lo : Nat) : (v.enterHail l).fld (Reg.LANE_PRBS_CFG l) hi lo = v.fld (Reg.LANE_PRBS_CFG l) hi lo := congrArg (fun r : Word => bits r.toNat hi lo) hcfg
  rw [heq]
  refine ⟨h2, ?_, (hfld _ _).trans k2, (hfld _ _).trans k3, (hfld _ _).trans k4, h3, h1.hold.trans k6⟩
  rw [State.rn, h1.rd _ (not_laneReg (.inl (by simp only [Reg.LANE_LB]; omega)) (by simp only [Reg.LANE_LB]; omega))]
  exact k1

theorem State.cmdDisable_spec (s : State) (hl : l < 24) (req : Requester) (hr : s.laneRole l ≠ 0) : (s.cmdDisable req l).laneSt l = 0
    ∧ (s.cmdDisable req l).laneBit l 13 = false ∧ (s.cmdDisable req l).hold = s.hold := by
  obtain ⟨k1, k2, -, -⟩ := s.takenOut_spec hl
  generalize hv : s.takenOut l = v at k1 k2
  have hset := v.setLaneSt_laneMove hl 0
  have htx := LaneMove.setTx (l := l) (v.setLaneSt l 0) .squelched
  have heq : s.cmdDisable req l = (v.setLaneSt l 0).setTx l .squelched := by
    unfold State.cmdDisable
    rw [if_neg hr, ← hv]
    rfl
  rw [heq]
  exact ⟨(htx.laneSt (by simp)).trans (v.setLaneSt_laneSt hl (by decide)), (htx.bits 13 (by simp)).trans ((hset.bits 13 (by decide)).trans k1),
    (hset.trans htx).at_.hold.trans k2⟩

/-- What the reserves show leaves all other registers. -/
theorem State.rsvSettle_rd (s : State) {a : Nat} (ha : a < 0x130000) : s.rsvSettle.rd a = s.rd a := by
  unfold State.rsvSettle
  dsimp only
  have hfirst : ((s.wn Reg.RSV_STAT (s.rsv.spareBank.isSome.toNat + 2 * (s.rsv.running.any (·.kind == 1)).toNat + 4 * s.rsv.spareCores.length
      + 16 * s.rsv.watchFree.toNat)).wn Reg.RSV_HOLD_MAP (s.rsv.spareBank.getD 31)).rd a = s.rd a :=
    (State.rd_wr_ne _ _ (by simp only [Reg.RSV_HOLD_MAP]; omega)).trans (State.rd_wr_ne _ _ (by simp only [Reg.RSV_STAT]; omega))
  refine List.foldlRecOn (motive := fun u : State => u.rd a = s.rd a) _ _ hfirst fun u hu c _ => ?_
  have hne : a ≠ Reg.RSV_CORE_STAT c := by simp only [Reg.RSV_CORE_STAT]; omega
  exact (State.rd_wr_ne _ _ hne).trans ((State.rd_wr_ne _ _ hne).trans hu)

theorem State.reserveStep_regs (s : State) (hidle : s.idleReserve (s.groupOf l) = some m) :
    (s.reserveStep l).regs = ((s.setLaneSt m 4).setFld (Reg.LANE_STATE m) 18 14 (s.placeOf l)).regs := by
  unfold State.reserveStep
  rw [hidle]
  exact (State.setTx_sides _ m _).1

/-- The substitution of a lane by the idle reserve of its group. -/
theorem State.substitute_lane (s : State) (hl : l < 24) (hm : m < 24) (hidle : s.idleReserve (s.groupOf l) = some m) (hrun : s.rsv.running = [])
    (h19 : s.laneBit l 19 = false) (h13 : s.laneBit l 13 = true) : (s.substitute 3 l).laneSt m = 4 ∧ (s.substitute 3 l).fld (Reg.LANE_STATE m) 18 14 = l
      ∧ (s.substitute 3 l).laneBit l 13 = true ∧ (s.substitute 3 l).hold = s.hold := by
  obtain ⟨v, hv, hregs, hhold⟩ : ∃ v : State, v = { s with rsv := { s.rsv with running := [Substitution.mk 3 l s.clk] } } ∧ v.regs = s.regs
      ∧ v.hold = s.hold := ⟨_, rfl, rfl, rfl⟩
  have hvidle : v.idleReserve (v.groupOf l) = some m := hv ▸ hidle
  obtain ⟨h1, h2, -, -, h5⟩ := v.reserveStep_spec hm hvidle
  have hvbit (i : Nat) : v.laneBit l i = s.laneBit l i := by rw [State.laneBit, State.rn, State.rd, hregs]; rfl
  have h13' : (v.reserveStep l).laneBit l 13 = true := by
    by_cases h : l = m
    · have hmove := (v.setLaneSt_laneMove hm 4).trans (LaneMove.setState hm (v.setLaneSt m 4) (hi := 18) (lo := 14) (v.placeOf l) (by decide) (by decide))
      have hb := hmove.bits 13 (by decide)
      rw [State.laneBit, State.rn, State.rd, v.reserveStep_regs hvidle]
      exact (congrArg (fun k => (((v.setLaneSt m 4).setFld (Reg.LANE_STATE m) 18 14 (v.placeOf l)).laneBit k 13)) h).trans
        (hb.trans ((congrArg (fun k => v.laneBit k 13) h.symm).trans ((hvbit 13).trans h13)))
    · exact (h5.laneBit h hl 13).trans ((hvbit 13).trans h13)
  have heq : s.substitute 3 l = (v.reserveStep l).rsvSettle := by
    have hfree : s.reserveFree 3 l = true := by
      show (s.idleReserve (s.groupOf l)).isSome = true
      rw [hidle]
      rfl
    unfold State.substitute
    rw [hrun]
    refine (if_neg (by simp)).trans ((if_pos hfree).trans ?_)
    rw [hv]
    rfl
  have hplace : v.placeOf l = l := if_neg (by rw [hvbit, h19]; decide)
  have hrn (k : Nat) (hk : k < 24) : (v.reserveStep l).rsvSettle.rn (Reg.LANE_STATE k) = (v.reserveStep l).rn (Reg.LANE_STATE k) :=
    congrArg BitVec.toNat (State.rsvSettle_rd _ (by simp only [Reg.LANE_STATE]; omega))
  rw [heq]
  refine ⟨?_, ?_, ?_, (State.rsvSettle_hold ..).trans (h5.hold.trans hhold)⟩
  · rw [State.laneSt, State.fld, hrn m hm]
    exact h1
  · rw [State.fld, hrn m hm]
    refine h2.trans ?_
    rw [hplace]
    exact Nat.mod_eq_of_lt (by omega)
  · rw [State.laneBit, hrn l hl]
    exact h13'

/-! #### Tests and measurements -/

/-- A margin measured (R217). -/
def State.marginTaken (s : State) (l w h : Nat) : State :=
  let s := s.modLane l fun x => { x with marginAt := some s.clk }
  let s := s.wn (Reg.LANE_MARGIN l) (min w 64 + 256 * (min h 255))
  let old := s.rn (Reg.RSV_LANE_MARGIN l)
  let lo := if old = 0 then min w 64 + 256 * min h 255
    else min (min w 64) (bits old 6 0) + 256 * min (min h 255) (bits old 15 8)
  let s := s.wn (Reg.RSV_LANE_MARGIN l) lo
  let n := if min w 64 < s.fld Reg.RSV_THR_EYE 6 0 then tabGetD s.rsv.eyeLow l 0 + 1 else 0
  let s := { s with rsv := { s.rsv with eyeLow := tabSet s.rsv.eyeLow l n } }
  if n = s.fld Reg.RSV_THR_EYE 15 8 ∧ s.laneBit l 13 then s.worn 3 l else s

theorem State.marginTaken_spec (s : State) (hl : l < 24) (h13 : s.laneBit l 13 = false) (w h : Nat) :
    (s.marginTaken l w h).rn (Reg.LANE_MARGIN l) = min w 64 + 256 * min h 255 ∧ RegsBut [Reg.LANE_MARGIN l, Reg.RSV_LANE_MARGIN l] s (s.marginTaken l w h)
      ∧ (s.marginTaken l w h).hold = s.hold := by
  obtain ⟨v, hv⟩ : ∃ v, v = (s.modLane l fun x => { x with marginAt := some s.clk }).wn (Reg.LANE_MARGIN l) (min w 64 + 256 * min h 255) := ⟨_, rfl⟩
  obtain ⟨lo, hlo⟩ : ∃ lo, lo = if v.rn (Reg.RSV_LANE_MARGIN l) = 0 then min w 64 + 256 * min h 255
    else min (min w 64) (bits (v.rn (Reg.RSV_LANE_MARGIN l)) 6 0) + 256 * min (min h 255) (bits (v.rn (Reg.RSV_LANE_MARGIN l)) 15 8) := ⟨_, rfl⟩
  obtain ⟨x, hx⟩ : ∃ x, x = v.wn (Reg.RSV_LANE_MARGIN l) lo := ⟨_, rfl⟩
  have hvrd (a : Nat) (ha : a ≠ Reg.LANE_MARGIN l) : v.rd a = s.rd a := by
    rw [hv]
    exact State.rd_wr_ne _ _ ha
  have hxrd (a : Nat) (ha : a ≠ Reg.RSV_LANE_MARGIN l) : x.rd a = v.rd a := by
    rw [hx]
    exact State.rd_wr_ne _ _ ha
  have hx13 : x.laneBit l 13 = false := by
    rw [State.laneBit, State.rn, hxrd _ (by simp only [Reg.LANE_STATE, Reg.RSV_LANE_MARGIN]; omega),
      hvrd _ (by simp only [Reg.LANE_STATE, Reg.LANE_MARGIN]; omega)]
    exact h13
  have hmargin : v.rn (Reg.LANE_MARGIN l) = min w 64 + 256 * min h 255 := by
    rw [hv, State.rn_wn_self]
    exact Nat.mod_eq_of_lt (by omega)
  have heq : ∃ n, s.marginTaken l w h = { x with rsv := { x.rsv with eyeLow := tabSet x.rsv.eyeLow l n } } := by
    refine ⟨if min w 64 < x.fld Reg.RSV_THR_EYE 6 0 then tabGetD x.rsv.eyeLow l 0 + 1 else 0, ?_⟩
    unfold State.marginTaken
    dsimp only
    rw [← hv, ← hlo, ← hx]
    refine if_neg fun e => ?_
    exact absurd (hx13.symm.trans e.2) (by decide)
  obtain ⟨n, heq⟩ := heq
  rw [heq]
  refine ⟨?_, fun a ha => ?_, ?_⟩
  · show x.rn _ = _
    rw [State.rn, hxrd _ (by simp only [Reg.LANE_MARGIN, Reg.RSV_LANE_MARGIN]; omega)]
    exact hmargin
  · obtain ⟨h1, h2⟩ : a ≠ Reg.LANE_MARGIN l ∧ a ≠ Reg.RSV_LANE_MARGIN l := by simpa using ha
    exact (hxrd a h2).trans (hvrd a h1)
  · show x.hold = s.hold
    rw [hx, State.wn_hold, hv, State.wn_hold]
    rfl

theorem State.prbsBit_off (h : s.fld (Reg.LANE_PRBS_CFG l) 3 2 = 0) (b : Bool) : s.prbsBit l b = s := by
  unfold State.prbsBit
  exact if_pos h

theorem State.prbsBits_off (h : s.fld (Reg.LANE_PRBS_CFG l) 3 2 = 0) (bs : List Bool) : bs.foldl (fun s b => s.prbsBit l b) s = s := by
  induction bs with
  | nil => rfl
  | cons b bs ih => rw [List.foldl_cons, State.prbsBit_off h, ih]

theorem State.prbsBit_fill (h : s.fld (Reg.LANE_PRBS_CFG l) 3 2 ≠ 0) (hfew : (s.lane l).prbsBits < (prbsTaps (s.fld (Reg.LANE_PRBS_CFG l) 3 2)).1) (b : Bool) :
    s.prbsBit l b = s.modLane l fun x => { x with prbsReg := (2 * (s.lane l).prbsReg + b.toNat) % 2 ^ 31, prbsBits := (s.lane l).prbsBits + 1 } := by
  unfold State.prbsBit
  exact (if_neg h).trans (if_pos hfew)

/-- A bit compared by a checker that is in step: it counts, and so does its error. -/
theorem State.prbsBit_counted (h : s.fld (Reg.LANE_PRBS_CFG l) 3 2 ≠ 0) (hfull : (prbsTaps (s.fld (Reg.LANE_PRBS_CFG l) 3 2)).1 ≤ (s.lane l).prbsBits)
    (hsync : bit (s.rn (Reg.LANE_PRBS_STAT l)) 0 = true) (b : Bool) :
    (s.prbsBit l b).pair (Reg.LANE_PRBS_BITS l) = min (s.pair (Reg.LANE_PRBS_BITS l) + 1) (2 ^ 64 - 1)
      ∧ (s.prbsBit l b).pair (Reg.LANE_PRBS_ERR l) = min (s.pair (Reg.LANE_PRBS_ERR l)
          + (prbsNext (s.fld (Reg.LANE_PRBS_CFG l) 3 2) (bit (s.rn (Reg.LANE_PRBS_CFG l)) 5) (s.lane l).prbsReg != b).toNat) (2 ^ 64 - 1)
      ∧ (s.prbsBit l b).hold = s.hold := by
  obtain ⟨ok, hok⟩ : ∃ ok, ok = (prbsNext (s.fld (Reg.LANE_PRBS_CFG l) 3 2) (bit (s.rn (Reg.LANE_PRBS_CFG l)) 5) (s.lane l).prbsReg == b) := ⟨_, rfl⟩
  obtain ⟨v, hv⟩ : ∃ v, v = s.bump (Reg.LANE_PRBS_BITS l) := ⟨_, rfl⟩
  obtain ⟨w, hw⟩ : ∃ w : State, w = if ok then v else v.bump (Reg.LANE_PRBS_ERR l) := ⟨_, rfl⟩
  have heq : ∃ f n, s.prbsBit l b = w.modLane l f ∨ s.prbsBit l b = (w.modLane l f).wn (Reg.LANE_PRBS_STAT l) n := by
    have h' : ¬ bits (s.rn (Reg.LANE_PRBS_CFG l)) 3 2 = 0 := h
    have hfull' : ¬ (s.lane l).prbsBits < (prbsTaps (bits (s.rn (Reg.LANE_PRBS_CFG l)) 3 2)).1 := Nat.not_lt.2 hfull
    have hok' : (prbsNext (bits (s.rn (Reg.LANE_PRBS_CFG l)) 3 2) (bit (s.rn (Reg.LANE_PRBS_CFG l)) 5) (s.lane l).prbsReg == b) = ok := hok.symm
    unfold State.prbsBit
    dsimp only
    rw [if_neg h', if_neg hfull', hsync, hok', if_pos rfl, ← hv, ← hw, Bool.not_true, Bool.false_and, Bool.false_and,
      if_neg Bool.false_ne_true]
    split
    · exact ⟨_, 0, .inr rfl⟩
    · exact ⟨_, 0, .inl rfl⟩
  have herr (o : Nat) (ho : o = 0 ∨ o = 4) : v.rd (Reg.LANE_PRBS_ERR l + o) = s.rd (Reg.LANE_PRBS_ERR l + o) := by
    rw [hv]
    exact s.rd_bump_ne (by simp only [Reg.LANE_PRBS_ERR, Reg.LANE_PRBS_BITS]; omega) (by simp only [Reg.LANE_PRBS_ERR, Reg.LANE_PRBS_BITS]; omega)
  have hwbits (o : Nat) (ho : o = 0 ∨ o = 4) : w.rd (Reg.LANE_PRBS_BITS l + o) = v.rd (Reg.LANE_PRBS_BITS l + o) := by
    rw [hw]
    split
    · rfl
    · exact v.rd_bump_ne (by simp only [Reg.LANE_PRBS_ERR, Reg.LANE_PRBS_BITS]; omega) (by simp only [Reg.LANE_PRBS_ERR, Reg.LANE_PRBS_BITS]; omega)
  have hwpair : w.pair (Reg.LANE_PRBS_BITS l) = min (s.pair (Reg.LANE_PRBS_BITS l) + 1) (2 ^ 64 - 1) := by
    rw [State.pair_of_both hwbits, hv]
    exact s.pair_bumpBy _ 1
  have hwerr : w.pair (Reg.LANE_PRBS_ERR l) = min (s.pair (Reg.LANE_PRBS_ERR l) + (!ok).toNat) (2 ^ 64 - 1) := by
    rw [hw]
    cases ok
    · exact (v.pair_bumpBy _ 1).trans (by rw [State.pair_of_both herr]; rfl)
    · exact (State.pair_of_both herr).trans (min_eq_left (by simpa using State.pair_le s _)).symm
  have hwhold : w.hold = s.hold := by
    rw [hw]
    split <;> rw [hv]
    · exact State.bump_hold ..
    · exact (State.bump_hold ..).trans (State.bump_hold ..)
  obtain ⟨f, n, heq⟩ := heq
  have hrd (a : Nat) (ha : a ≠ Reg.LANE_PRBS_STAT l) : (s.prbsBit l b).rd a = w.rd a := by
    obtain heq | heq := heq
    · rw [heq]
      rfl
    · rw [heq]
      exact State.rd_wr_ne _ _ ha
  have hhold : (s.prbsBit l b).hold = w.hold := by
    obtain heq | heq := heq <;> rw [heq] <;> rfl
  refine ⟨(State.pair_of_both fun o ho => hrd _ ?_).trans hwpair, (State.pair_of_both fun o ho => hrd _ ?_).trans ?_, hhold.trans hwhold⟩
  · simp only [Reg.LANE_PRBS_BITS, Reg.LANE_PRBS_STAT]
    omega
  · simp only [Reg.LANE_PRBS_ERR, Reg.LANE_PRBS_STAT]
    omega
  · rw [hwerr, hok]
    rfl

/-- The loss of a clock, counted. -/
def State.clkLost (s : State) (b c : Nat) : State := (s.setFld Reg.CLK_STAT b b 0).bump c

theorem State.clkLost_spec (s : State) {b c : Nat} (hb : b < 32) (hc : Reg.CLK_STAT ≠ c ∧ Reg.CLK_STAT ≠ c + 4) : (s.clkLost b c).fld Reg.CLK_STAT b b = 0
    ∧ (s.clkLost b c).pair c = min (s.pair c + 1) (2 ^ 64 - 1) ∧ RegsBut [Reg.CLK_STAT, c, c + 4] s (s.clkLost b c) ∧ (s.clkLost b c).hold = s.hold := by
  obtain ⟨v, hv⟩ : ∃ v, v = s.setFld Reg.CLK_STAT b b 0 := ⟨_, rfl⟩
  have hfld : v.fld Reg.CLK_STAT b b = 0 := hv ▸ s.fld_setFld_fits (Nat.le_refl b) hb (by rw [Nat.add_sub_cancel_left]; decide)
  have hrd (a : Nat) (ha : a ≠ Reg.CLK_STAT) : v.rd a = s.rd a := by
    rw [hv]
    exact State.rd_wr_ne _ _ ha
  have heq : s.clkLost b c = v.bump c := hv ▸ rfl
  rw [heq]
  refine ⟨?_, ?_, fun a ha => ?_, ?_⟩
  · rw [State.fld, State.rn, v.rd_bump_ne hc.1 hc.2]
    exact hfld
  · refine (v.pair_bumpBy c 1).trans ?_
    rw [State.pair_congr (hrd _ hc.1.symm) (hrd _ hc.2.symm)]
  · obtain ⟨h1, h2, h3⟩ : a ≠ Reg.CLK_STAT ∧ a ≠ c ∧ a ≠ c + 4 := by simpa using ha
    exact (v.rd_bump_ne h2 h3).trans (hrd a h1)
  · rw [State.bump_hold, hv, State.setFld_hold]

/-! #### The obligation -/

/-- Settles O40, command by command. -/
theorem laneCommandsAndClocks : Obligations.LaneCommandsAndClocks := by
  unfold Obligations.LaneCommandsAndClocks
  intro dt a e w ht req l m v b bs s hcore hlog
  have hl := l.2
  have hlog' : ∀ d ∈ [101, 102], (s.advance dt).logOnly d = true := hlog
  refine ⟨fun hsardy h0 h7 => ?_, fun hr => ?_, fun hr hst => ?_, fun hr hst => ?_, fun h13 h19 hidle hrun => ?_, fun hr => ?_, fun hr hst => ?_, fun hst => ?_,
    fun hst => ?_, fun hst h31 hstat hx hy hdwell => ?_, fun hbit heye htime => ?_, fun hst hbit h13 hdue => ?_, fun hk => ?_, fun hk hfew => ?_,
    fun hk hfull hsync => ?_, ?_, ?_, fun hbit => ?_, ?_⟩
  case refine_1 =>
    obtain ⟨h1, h2, h3, h4, h5, h6⟩ := (s.advance dt).retrain_spec hl
    obtain ⟨u, hu⟩ : ∃ u, u = (s.advance dt).retrain l := ⟨_, rfl⟩
    rw [← hu] at h1 h2 h3 h4 h5 h6
    have hcond : (s.advance dt).isSardy l = true ∧ (s.advance dt).laneSt l ≠ 0 ∧ (s.advance dt).laneSt l ≠ 7 := ⟨hsardy, h0, h7⟩
    exact completes_eq (u := u) rfl hcore ((if_pos hcond).trans hu.symm) ⟨h1, h2, h3, h4, h5, sameHold_of_hold h6⟩
  case refine_2 =>
    have hcond : ¬ ((s.advance dt).isSardy l = true ∧ (s.advance dt).laneSt l ≠ 0 ∧ (s.advance dt).laneSt l ≠ 7) := by
      rw [State.isSardy, show (s.advance dt).laneRole l = 1 from hr]
      simp
    have hpair := State.pair_accErr (s.advance dt) req (Reg.LANE_CMD l) true false
    have hlanes := State.accErr_lanes (s.advance dt) req (Reg.LANE_CMD l) true false
    have hhold := State.sameHold_accErr (s.advance dt) req (Reg.LANE_CMD l) true false
    have hstate := State.regsBut_accErr (s.advance dt) req (Reg.LANE_CMD l) true false (Reg.LANE_STATE l) (by simp [Reg.LANE_STATE, Reg.SYS_ACC_ERR, Reg.SYS_ACC_ERR_ADDR, Reg.SYS_ACC_ERR_INFO]; omega)
    obtain ⟨u, hu⟩ : ∃ u, u = (s.advance dt).accErr req (Reg.LANE_CMD l) true false := ⟨_, rfl⟩
    rw [← hu] at hpair hlanes hhold hstate
    exact completes_eq (u := u) rfl hcore ((if_neg hcond).trans hu.symm) ⟨hpair, hlanes, hstate, hhold⟩
  case refine_3 =>
    obtain ⟨h1, h2, h3⟩ := (s.advance dt).cmdEnterTest_spec hl req hr hst (hlog' 102 (by simp))
    obtain ⟨u, hu⟩ : ∃ u, u = (s.advance dt).cmdEnterTest req l := ⟨_, rfl⟩
    rw [← hu] at h1 h2 h3
    exact completes_eq (u := u) rfl hcore hu.symm ⟨h1, h2, sameHold_of_hold h3⟩
  case refine_4 =>
    obtain ⟨h1, h2, h3, h4, h5, h6, h7⟩ := (s.advance dt).cmdLeaveTest_spec hl req hr hst
    obtain ⟨u, hu⟩ : ∃ u, u = (s.advance dt).cmdLeaveTest req l := ⟨_, rfl⟩
    rw [← hu] at h1 h2 h3 h4 h5 h6 h7
    exact completes_eq (u := u) rfl hcore hu.symm ⟨h1, h2, h3, h4, h5, h6, sameHold_of_hold h7⟩
  case refine_5 =>
    obtain ⟨h1, h2, h3, h4⟩ := (s.advance dt).substitute_lane hl m.2 hidle hrun h19 h13
    obtain ⟨u, hu⟩ : ∃ u, u = (s.advance dt).substitute 3 l := ⟨_, rfl⟩
    rw [← hu] at h1 h2 h3 h4
    have hsome : ((s.advance dt).idleReserve ((s.advance dt).groupOf l)).isSome = true := by
      rw [show (s.advance dt).idleReserve ((s.advance dt).groupOf l) = some m.val from hidle]
      rfl
    exact completes_eq (u := u) rfl hcore ((if_pos h13).trans ((if_pos hsome).trans hu.symm)) ⟨h1, h2, h3, sameHold_of_hold h4⟩
  case refine_6 =>
    obtain ⟨h1, h2, h3⟩ := (s.advance dt).cmdDisable_spec hl req hr
    obtain ⟨u, hu⟩ : ∃ u, u = (s.advance dt).cmdDisable req l := ⟨_, rfl⟩
    rw [← hu] at h1 h2 h3
    exact completes_eq (u := u) rfl hcore hu.symm ⟨h1, h2, sameHold_of_hold h3⟩
  case refine_7 =>
    obtain ⟨h1, h2, -, -⟩ := (s.advance dt).enterHail_spec hl
    obtain ⟨u, hu⟩ : ∃ u, u = (s.advance dt).enterHail l := ⟨_, rfl⟩
    rw [← hu] at h1 h2
    have hrole : (s.advance dt).laneRole l = 5 := hr
    have hcond : (s.advance dt).laneSt l = 0 ∧ (s.advance dt).laneRole l ≠ 0 := ⟨hst, by rw [hrole]; decide⟩
    have hne : ¬ (s.advance dt).laneRole l = 1 := by rw [hrole]; decide
    exact completes_eq (u := u) rfl hcore ((if_pos hcond).trans ((if_neg hne).trans hu.symm)) ⟨h2, sameHold_of_hold h1.hold⟩
  case refine_8 =>
    have hregs : RegsBut [Reg.LANE_LB l] s ((s.advance dt).wn (Reg.LANE_LB l) (bits v.toNat 1 0)) := fun a ha => State.rd_wr_ne _ _ (by simpa using ha)
    have hlb : ((s.advance dt).wn (Reg.LANE_LB l) (bits v.toNat 1 0)).rn (Reg.LANE_LB l) = bits v.toNat 1 0 := by
      have hlt : bits v.toNat 1 0 < 2 ^ (1 + 1 - 0) := bits_lt _ _ _
      exact (State.rn_wn_self ..).trans (Nat.mod_eq_of_lt (hlt.trans (by decide)))
    have hcond : ((s.advance dt).laneSt l = 7 ∨ (s.advance dt).laneSt l = 0) ∧ (!((TestReg.lb == TestReg.txeq)
        && decide (63 < bits v.toNat 3 0 + bits v.toNat 9 4 + bits v.toNat 14 10))) = true := ⟨.inl hst, rfl⟩
    have hwrite : (s.advance dt).testCfgWrite req l .lb v.toNat = (s.advance dt).wn (Reg.LANE_LB l) (bits v.toNat 1 0) := if_pos hcond
    exact completes_eq rfl hcore hwrite ⟨hlb, hregs, sameHold_of_hold rfl⟩
  case refine_9 =>
    have hcond : ¬ (((s.advance dt).laneSt l = 7 ∨ (s.advance dt).laneSt l = 0) ∧ (!((TestReg.prbs == TestReg.txeq)
        && decide (63 < bits v.toNat 3 0 + bits v.toNat 9 4 + bits v.toNat 14 10))) = true) := by
      rw [show (s.advance dt).laneSt l = 5 from hst]
      rintro ⟨h | h, -⟩ <;> exact absurd h (by decide)
    have hwrite : (s.advance dt).testCfgWrite req l .prbs v.toNat = (s.advance dt).accErr req (Reg.LANE_PRBS_CFG l) true false := if_neg hcond
    have hpair := State.pair_accErr (s.advance dt) req (Reg.LANE_PRBS_CFG l) true false
    have hregs := State.regsBut_accErr (s.advance dt) req (Reg.LANE_PRBS_CFG l) true false
    have hhold := State.sameHold_accErr (s.advance dt) req (Reg.LANE_PRBS_CFG l) true false
    obtain ⟨u, hu⟩ : ∃ u, u = (s.advance dt).accErr req (Reg.LANE_PRBS_CFG l) true false := ⟨_, rfl⟩
    rw [← hu] at hpair hregs hhold hwrite
    exact completes_eq (u := u) rfl hcore hwrite ⟨hpair, hregs, hhold⟩
  case refine_10 =>
    have hregs : RegsBut [Reg.LANE_EYE_STAT l] s ((s.advance dt).wn (Reg.LANE_EYE_STAT l) 1) := fun a ha => State.rd_wr_ne _ _ (by simpa using ha)
    have hone : ((s.advance dt).wn (Reg.LANE_EYE_STAT l) 1).rn (Reg.LANE_EYE_STAT l) = 1 := State.rn_wn_self ..
    have hidle : ¬ (bit ((s.advance dt).rn (Reg.LANE_EYE_STAT l)) 0 = true ∨ decide (-32 ≤ signed 7 (bits v.toNat 6 0) ∧ signed 7 (bits v.toNat 6 0) ≤ 31
        ∧ -63 ≤ signed 7 (bits v.toNat 13 7) ∧ signed 7 (bits v.toNat 13 7) ≤ 63 ∧ 20 ≤ bits v.toNat 19 14 ∧ bits v.toNat 19 14 ≤ 36) = false) := by
      rw [show (s.advance dt).rn (Reg.LANE_EYE_STAT l) = 0 from hstat, hx, hy, hdwell]
      rintro (h | h)
      · exact absurd h (by decide)
      · exact absurd (of_decide_eq_false h) (by omega)
    have hgo : bit v.toNat 31 = true ∧ ((s.advance dt).laneSt l = 5 ∨ (s.advance dt).laneSt l = 6 ∨ (s.advance dt).laneSt l = 7) := ⟨h31, .inl hst⟩
    have heye : (((s.advance dt).wn (Reg.LANE_EYE_STAT l) 1).modLane l fun x => { x with eye := some ((s.advance dt).clk, bits v.toNat 19 14) }).lane l
        = { s.lane l with eye := some (s.clk + dt, 20) } := by
      rw [State.lane_modLane_self, State.lane, State.wn_lanes, hdwell]
      rfl
    obtain ⟨u, hu⟩ : ∃ u, u = ((s.advance dt).wn (Reg.LANE_EYE_STAT l) 1).modLane l fun x => { x with eye := some ((s.advance dt).clk, bits v.toNat 19 14) } := ⟨_, rfl⟩
    have huregs : u.regs = ((s.advance dt).wn (Reg.LANE_EYE_STAT l) 1).regs := hu ▸ rfl
    have hurd (r : Nat) : u.rd r = ((s.advance dt).wn (Reg.LANE_EYE_STAT l) 1).rd r := by rw [State.rd, State.rd, huregs]
    have huhold : u.hold = s.hold := hu ▸ rfl
    rw [← hu] at heye
    exact completes_eq (u := u) rfl hcore ((if_neg hidle).trans ((if_pos hgo).trans hu.symm)) ⟨(congrArg BitVec.toNat (hurd _)).trans hone,
      congrArg Lane.eye heye, fun r hr => (hurd r).trans (hregs r hr), sameHold_of_hold huhold⟩
  case refine_11 =>
    obtain ⟨x, hx⟩ : ∃ x, x = (s.advance dt).wn (Reg.LANE_EYE_STAT l) 2 := ⟨_, rfl⟩
    obtain ⟨y, hy⟩ : ∃ y, y = x.setPair (Reg.LANE_EYE_ERR l) (min e (2 ^ w)) := ⟨_, rfl⟩
    have hyrd (r : Nat) (h1 : r ≠ Reg.LANE_EYE_ERR l) (h2 : r ≠ Reg.LANE_EYE_ERR l + 4) : y.rd r = x.rd r := hy ▸ x.rd_setPair_ne _ h1 h2
    have hstat : y.rn (Reg.LANE_EYE_STAT l) = 2 := by
      rw [State.rn, hyrd _ (by simp only [Reg.LANE_EYE_STAT, Reg.LANE_EYE_ERR]; omega) (by simp only [Reg.LANE_EYE_STAT, Reg.LANE_EYE_ERR]; omega), hx]
      exact State.rn_wn_self ..
    have herr : y.pair (Reg.LANE_EYE_ERR l) = min e (2 ^ w) % 2 ^ 64 := hy ▸ x.pair_setPair _ _
    have hregs : RegsBut [Reg.LANE_EYE_STAT l, Reg.LANE_EYE_ERR l, Reg.LANE_EYE_ERR l + 4] s y := fun r hr => by
      obtain ⟨h1, h2, h3⟩ : r ≠ Reg.LANE_EYE_STAT l ∧ r ≠ Reg.LANE_EYE_ERR l ∧ r ≠ Reg.LANE_EYE_ERR l + 4 := by simpa using hr
      rw [hyrd r h2 h3, hx]
      exact State.rd_wr_ne _ _ h1
    have hhold : y.hold = s.hold := by
      rw [hy, State.setPair_hold, hx, State.wn_hold]
      rfl
    have hbody : (match ((s.advance dt).lane l).eye with
        | some (c, dwell) => if bit ((s.advance dt).rn (Reg.LANE_EYE_STAT l)) 0 = true ∧ (s.advance dt).elapsed c (bitClocks ((s.advance dt).laneRate l) (2 ^ dwell)) = true then
            (((s.advance dt).wn (Reg.LANE_EYE_STAT l) 2).setPair (Reg.LANE_EYE_ERR l) (min e (2 ^ dwell))).modLane l fun x => { x with eye := none }
          else s.advance dt
        | none => s.advance dt) = y.modLane l fun x => { x with eye := none } := by
      rw [show ((s.advance dt).lane l).eye = some (a, w) from heye, hy, hx]
      exact if_pos ⟨hbit, decide_eq_true htime⟩
    exact completes_eq rfl hcore hbody ⟨hstat, herr, hregs, sameHold_of_hold hhold⟩
  case refine_12 =>
    obtain ⟨h1, h2, h3⟩ := (s.advance dt).marginTaken_spec hl h13 w ht
    obtain ⟨u, hu⟩ : ∃ u, u = (s.advance dt).marginTaken l w ht := ⟨_, rfl⟩
    rw [← hu] at h1 h2 h3
    have hdue' : (match ((s.advance dt).lane l).marginAt with
        | some c => (s.advance dt).elapsed c (sec 10)
        | none => true) = true := by
      cases hc : (s.lane l).marginAt with
      | none => rw [show ((s.advance dt).lane l).marginAt = none from hc]
      | some c =>
        rw [hc, Option.all_some] at hdue
        rw [show ((s.advance dt).lane l).marginAt = some c from hc]
        exact hdue
    have hcond : (s.advance dt).linked l = true ∧ (!bit ((s.advance dt).rn (Reg.LANE_EYE_STAT l)) 0) = true ∧ (match ((s.advance dt).lane l).marginAt with
        | some c => (s.advance dt).elapsed c (sec 10)
        | none => true) = true := by
      refine ⟨beq_iff_eq.2 hst, ?_, hdue'⟩
      rw [show bit ((s.advance dt).rn (Reg.LANE_EYE_STAT l)) 0 = false from hbit]
      rfl
    exact completes_eq (u := u) rfl hcore ((if_pos hcond).trans hu.symm) ⟨h1, h2, sameHold_of_hold h3⟩
  case refine_13 => exact completes_eq (u := s.advance dt) rfl hcore (State.prbsBits_off (s := s.advance dt) hk bs) ⟨rfl, fun _ => rfl, fun _ => rfl⟩
  case refine_14 =>
    have hfill := State.prbsBit_fill (s := s.advance dt) hk hfew b
    have hlane := (s.advance dt).lane_modLane_self l fun x =>
      { x with prbsReg := (2 * ((s.advance dt).lane l).prbsReg + b.toNat) % 2 ^ 31, prbsBits := ((s.advance dt).lane l).prbsBits + 1 }
    exact completes_eq rfl hcore hfill ⟨congrArg Lane.prbsReg hlane, congrArg Lane.prbsBits hlane, fun _ => rfl, fun _ => rfl⟩
  case refine_15 =>
    obtain ⟨h1, h2, h3⟩ := State.prbsBit_counted (s := s.advance dt) hk hfull hsync b
    obtain ⟨u, hu⟩ : ∃ u, u = (s.advance dt).prbsBit l b := ⟨_, rfl⟩
    rw [← hu] at h1 h2 h3
    exact completes_eq (u := u) rfl hcore hu.symm ⟨h1, h2, sameHold_of_hold h3⟩
  case refine_16 =>
    have hfld := (s.advance dt).fld_setFld_fits (a := Reg.CLK_LANE_LOCK) (hi := l) (lo := l) (v := 1) (Nat.le_refl _) (by omega) (by rw [Nat.add_sub_cancel_left]; decide)
    have hregs : RegsBut [Reg.CLK_LANE_LOCK] s ((s.advance dt).setFld Reg.CLK_LANE_LOCK l l 1) := fun a ha => State.rd_wr_ne _ _ (by simpa using ha)
    have hhold := (s.advance dt).setFld_hold Reg.CLK_LANE_LOCK l l 1
    obtain ⟨u, hu⟩ : ∃ u, u = (s.advance dt).setFld Reg.CLK_LANE_LOCK l l 1 := ⟨_, rfl⟩
    rw [← hu] at hfld hregs hhold
    exact completes_eq (u := u) rfl hcore hu.symm ⟨hfld, hregs, sameHold_of_hold hhold⟩
  case refine_17 =>
    obtain ⟨h1, h2, h3, h4⟩ := (s.advance dt).clkLost_spec (b := 4) (by decide) (c := Reg.CLK_UNLOCK) (by decide)
    obtain ⟨u, hu⟩ : ∃ u, u = (s.advance dt).clkLost 4 Reg.CLK_UNLOCK := ⟨_, rfl⟩
    rw [← hu] at h1 h2 h3 h4
    exact completes_eq (u := u) rfl hcore hu.symm ⟨h1, h2, h3, sameHold_of_hold h4⟩
  case refine_18 =>
    obtain ⟨h1, h2, h3, h4⟩ := (s.advance dt).clkLost_spec (b := 0) (by decide) (c := Reg.CLK_REF_LOSS) (by decide)
    obtain ⟨u, hu⟩ : ∃ u, u = (s.advance dt).clkLost 0 Reg.CLK_REF_LOSS := ⟨_, rfl⟩
    rw [← hu] at h1 h2 h3 h4
    exact completes_eq (u := u) rfl hcore ((if_pos hbit).trans hu.symm) ⟨h1, h2, h3, sameHold_of_hold h4⟩
  case refine_19 =>
    have hfld := (s.advance dt).fld_setFld_fits (a := Reg.CLK_STAT) (hi := 0) (lo := 0) (v := 1) (Nat.le_refl _) (by omega) (by decide)
    have hregs : RegsBut [Reg.CLK_STAT] s ((s.advance dt).setFld Reg.CLK_STAT 0 0 1) := fun a ha => State.rd_wr_ne _ _ (by simpa using ha)
    have hhold := (s.advance dt).setFld_hold Reg.CLK_STAT 0 0 1
    obtain ⟨u, hu⟩ : ∃ u, u = (s.advance dt).setFld Reg.CLK_STAT 0 0 1 := ⟨_, rfl⟩
    rw [← hu] at hfld hregs hhold
    exact completes_eq (u := u) rfl hcore hu.symm ⟨hfld, hregs, sameHold_of_hold hhold⟩

end Sys2Proof.Machine
end

section
/-! ### Packets, time transfer and credits of a link -/

namespace Sys2Proof.Machine

variable {s t u : State} {l k g : Nat}

/-! #### Blocks received on a tile lane -/

theorem State.groupOf_of_tile (hr : s.laneRole l = 5) : s.groupOf l = 3 := by
  unfold State.groupOf
  rw [hr]
  rfl

theorem State.linkOfLane_of_tile (hr : s.laneRole l = 5) : s.linkOfLane l = 8 + l := by
  rw [State.linkOfLane, State.groupOf_of_tile hr, if_neg (by decide)]

theorem State.crcLane_of_tile (hr : s.laneRole l = 5) : s.crcLane l = l := by
  rw [State.crcLane, State.groupOf_of_tile hr, if_neg (by decide)]

theorem State.setRx_nil (s : State) (k : Nat) : tabGet? (s.setRx k []).phy.rx k = none := tabGet?_tabErase_self ..

/-- An invalid block is counted, and the packet under way is given up. -/
theorem State.rxBlock_invalid {b : SlkBlock} (hr : s.laneRole l = 5) (hb : blockInvalid b = true) :
    s.rxBlock l b = (s.bump (Reg.SLK_LANE_BAD_BLOCK l)).setRx (8 + l) [] := by
  rw [State.rxBlock, if_pos hb, State.linkOfLane_of_tile hr]

/-- The last block of a packet ends it. -/
theorem State.rxBlock_last {b : SlkBlock} {p : List Byte} (hr : s.laneRole l = 5) (hb : b.sync = 1) (hp : tabGet? s.phy.rx (8 + l) = some p)
    (hne : p ≠ []) (hlen : (p ++ b.bytes).length = 7 + 8 * pkt (p ++ b.bytes) 2 2) :
    s.rxBlock l b = (s.setRx (8 + l) []).packetWhole l (p ++ b.bytes) := by
  have hvalid : blockInvalid b = false := by rw [blockInvalid, hb]; rfl
  have hpart : tabGetD s.phy.rx (8 + l) [] = p := by rw [tabGetD, hp]; rfl
  unfold State.rxBlock
  simp only [State.linkOfLane_of_tile hr, hpart]
  rw [if_neg (by simp [hvalid]), if_neg (by rw [hb]; decide), if_neg (by simpa using hne), if_neg (by omega)]

theorem State.packetWhole_good {p : List Byte} (hr : s.laneRole l = 5) (hgood : packetGood p = true) (htype : typeOk true (pkt p 0 1) = true)
    (hhead : slkHeaderOk true p = true) (hfields : fieldsOk p = true) : s.packetWhole l p = s.send "PACKET" l (p.map (·.toNat)) := by
  have htile : decide (3 ≤ 8 + l) = true := decide_eq_true (by omega)
  unfold State.packetWhole
  simp only [State.linkOfLane_of_tile hr, htile, hgood, htype, hhead, hfields]
  rw [if_neg (by decide), if_neg (by simp), if_neg (by omega)]

theorem State.packetWhole_bad {p : List Byte} (hgood : packetGood p = false) : s.packetWhole l p = s.crcFail l := by
  unfold State.packetWhole
  simp [hgood]

/-- The record of the CRC failures of a lane, with the fault of a hundred of them in a second. -/
def State.crcNoted (s : State) (l : Nat) : State :=
  let fails := (s.clk :: tabGetD s.slk.crc l []).take 100
  let s := { s with slk := { s.slk with crc := tabSet s.slk.crc l fails } }
  let s := if fails.length = 100 ∧ fails.all (fun c => !s.elapsed c (sec 1)) then s.raiseOnce 129 l 100 else s
  let x := s.fltInst 129 l
  if x.standing then s.setFltInst 129 l { x with cond := false, quietFrom := s.clk + sec 1 } else s

theorem State.crcFail_eq (s : State) (l : Nat) : s.crcFail l = ((s.bump (Reg.SLK_LANE_CRC_ERR (s.crcLane l))).raiseSec 128 (s.crcLane l)).crcNoted (s.crcLane l) := rfl

theorem State.crcNoted_faultSide (h129 : s.logOnly 129 = true) : ∃ c, FaultSide { s with slk := { s.slk with crc := c } } (s.crcNoted l) := by
  refine ⟨tabSet s.slk.crc l ((s.clk :: tabGetD s.slk.crc l []).take 100), ?_⟩
  unfold State.crcNoted
  generalize hv : ({ s with slk := { s.slk with crc := tabSet s.slk.crc l ((s.clk :: tabGetD s.slk.crc l []).take 100) } } : State) = v
  have hlog : v.logOnly 129 = true := by rw [← hv]; exact h129
  dsimp only
  rw [hv]
  have hraise : FaultSide v (if ((s.clk :: tabGetD s.slk.crc l []).take 100).length = 100
      ∧ ((s.clk :: tabGetD s.slk.crc l []).take 100).all (fun c => !v.elapsed c (sec 1)) then v.raiseOnce 129 l 100 else v) :=
    FaultSide.ite (raiseOnce_faultSide v 129 l 100 hlog) (.refl v)
  exact FaultSide.ite (hraise.setFltInst _ _ _) hraise

theorem FaultSide.out (h : FaultSide s t) : t.out = s.out := by obtain ⟨_, _, _, rfl, _⟩ := h; rfl
theorem FaultSide.phy (h : FaultSide s t) : t.phy = s.phy := by obtain ⟨_, _, _, rfl, _⟩ := h; rfl

/-- A packet that fails its CRC is counted at its lane. -/
theorem State.crcFail_spec (hl : l < 24) (hr : s.laneRole l = 5) (h128 : s.logOnly 128 = true) (h129 : s.logOnly 129 = true) :
    (s.crcFail l).pair (Reg.SLK_LANE_CRC_ERR l) = min (s.pair (Reg.SLK_LANE_CRC_ERR l) + 1) (2 ^ 64 - 1) ∧ (s.crcFail l).out = s.out
      ∧ (s.crcFail l).phy = s.phy ∧ (s.crcFail l).hold = s.hold := by
  have hlow : Reg.SLK_LANE_CRC_ERR l + 4 < 0xD0000 := by simp only [Reg.SLK_LANE_CRC_ERR]; omega
  have hdet : Reg.SLK_LANE_CRC_ERR l + 4 < Reg.FLT_DET_CFG 0 := hlow.trans (by decide)
  have hpair : (s.bump (Reg.SLK_LANE_CRC_ERR l)).pair (Reg.SLK_LANE_CRC_ERR l) = min (s.pair (Reg.SLK_LANE_CRC_ERR l) + 1) (2 ^ 64 - 1) := State.pair_bumpBy ..
  have hsides : (s.bump (Reg.SLK_LANE_CRC_ERR l)).out = s.out ∧ (s.bump (Reg.SLK_LANE_CRC_ERR l)).phy = s.phy
      ∧ (s.bump (Reg.SLK_LANE_CRC_ERR l)).hold = s.hold := ⟨rfl, rfl, rfl⟩
  have hlog (d : Nat) := State.logOnly_bump s (d := d) hdet
  rw [State.crcFail_eq, State.crcLane_of_tile hr]
  generalize s.bump (Reg.SLK_LANE_CRC_ERR l) = v at *
  have hsec := raiseSec_faultSide v 128 l 0 ((hlog _).trans h128)
  obtain ⟨c, hside⟩ := State.crcNoted_faultSide (l := l) ((hsec.logOnly 129 (by decide)).trans ((hlog _).trans h129))
  obtain ⟨w, hwhole, hw⟩ : ∃ w, w = { v.raiseSec 128 l with slk := { (v.raiseSec 128 l).slk with crc := c } }
      ∧ w.pair (Reg.SLK_LANE_CRC_ERR l) = (v.raiseSec 128 l).pair (Reg.SLK_LANE_CRC_ERR l) := ⟨_, rfl, rfl⟩
  obtain ⟨hout, hphy, hhold⟩ : w.out = (v.raiseSec 128 l).out ∧ w.phy = (v.raiseSec 128 l).phy ∧ w.hold = (v.raiseSec 128 l).hold := by
    rw [hwhole]
    exact ⟨rfl, rfl, rfl⟩
  rw [← hwhole] at hside
  have hf : faultReg (Reg.SLK_LANE_CRC_ERR l) = false ∧ faultReg (Reg.SLK_LANE_CRC_ERR l + 4) = false :=
    ⟨faultReg_low (by omega), faultReg_low (by omega)⟩
  refine ⟨?_, ?_, ?_, ?_⟩
  · rw [hside.pair hf.1 hf.2, hw, hsec.pair hf.1 hf.2, hpair]
  · rw [hside.out, hout, hsec.out, hsides.1]
  · rw [hside.phy, hphy, hsec.phy, hsides.2.1]
  · rw [hside.hold, hhold, hsec.hold, hsides.2.2]

theorem exec_slkPacketReceive (dt : Nat) (l : Fin 24) (b : SlkBlock) (s : State) : exec (.slkPacketReceive dt l [b]) s = act dt s fun u =>
    if u.groupOf l < 3 then u.stripeReceive (u.groupOf l) l [b] else u.rxBlock l b := rfl

/-! #### TIME packets -/

theorem State.packet_slk (s : State) (hk : k < 3) (kind : String) (p : List Byte) : (s.packet k kind p).slk = s.slk := by
  rw [State.packet, State.packetAt, if_neg (by omega), State.enqueue_slk, if_pos hk]
  rfl

/-- The TIME packet that a group sends next (R248). -/
def State.timeNext (s : State) (g : Nat) : List Byte :=
  timePacket false false (s.timeFields g (((s.timeLink g).seq + 1) % 65536) ((s.advance (s.txWait g 7)).linkTxStamp g) (s.timeLink g).last)

/-- The record of a TIME packet sent on a group. -/
def State.timeNoted (s : State) (g : Nat) : State :=
  let t := s.timeLink g
  let seq := (t.seq + 1) % 65536
  let echo := match t.last with
    | some (_, a, b) => [(seq, a, b)]
    | none => []
  s.setTimeLink g
    { t with
      seq := seq
      sent := (seq, (s.advance (s.txWait g 7)).linkTxStamp g, s.clk) :: t.sent.filter fun e => decide (s.clk ≤ e.2.2 + ms 10)
      got := echo ++ t.got.take 127 }

theorem State.timeSend_group (s : State) (hg : g < 3) : s.timeSend g = (s.timeNoted g).packet g "TIME" (s.timeNext g) := by
  have htile : decide (3 ≤ g) = false := decide_eq_false (by omega)
  unfold State.timeSend
  simp only [htile, Bool.false_and]
  rfl

theorem State.timeLink_setTimeLink (s : State) (k : Nat) (x : TimeLink) : (s.setTimeLink k x).timeLink k = x := tabGetD_tabSet_self ..

theorem State.timeSend_spec (s : State) (hg : g < 3) : ((s.timeSend g).timeLink g).seq = ((s.timeLink g).seq + 1) % 65536
    ∧ ((s.timeSend g).timeLink g).dueAt = (s.timeLink g).dueAt
    ∧ ((s.timeSend g).timeLink g).sent.head? = some (((s.timeLink g).seq + 1) % 65536, (s.advance (s.txWait g 7)).linkTxStamp g, s.clk)
    ∧ (s.timeSend g).hold = s.hold ∧ (s.timeSend g).time = s.time := by
  have hside := packet_linkSide (s.timeNoted g) g "TIME" (s.timeNext g)
  have hlink : (s.timeSend g).timeLink g = (s.timeNoted g).timeLink g := by
    rw [State.timeLink, State.timeSend_group s hg, State.packet_slk _ hg]
    rfl
  rw [hlink, State.timeNoted, State.timeLink_setTimeLink]
  rw [State.timeSend_group s hg]
  exact ⟨rfl, rfl, rfl, hside.hold, hside.time⟩

/-- On a free link it leaves at once, counted. -/
theorem State.timeSend_free (s : State) (hg : g < 3) (hfree : s.linkFree g = true) :
    (s.timeSend g).sent = .message "TIME" g ((s.timeNext g).map (·.toNat)) :: s.sent
      ∧ (s.timeSend g).pair (Reg.SLK_GRP_TX g) = min (s.pair (Reg.SLK_GRP_TX g) + 1) (2 ^ 64 - 1)
      ∧ RegsBut [Reg.SLK_GRP_TX g, Reg.SLK_GRP_TX g + 4] s (s.timeSend g) := by
  have hfree' : (s.timeNoted g).linkFree g = true := hfree
  have hsame : (s.timeNoted g).sent = s.sent ∧ (s.timeNoted g).pair (Reg.SLK_GRP_TX g) = s.pair (Reg.SLK_GRP_TX g) ∧ ∀ a, (s.timeNoted g).rd a = s.rd a :=
    ⟨rfl, rfl, fun _ => rfl⟩
  rw [State.timeSend_group s hg]
  generalize s.timeNoted g = v at *
  have hport : linkPort g = g := by simp only [linkPort]; rw [if_pos (by omega)]
  refine ⟨?_, ?_, fun a ha => ?_⟩
  · rw [(State.packet_free hfree').1, hsame.1, hport]
  · rw [State.packet_free_group hfree' hg, hsame.2.1]
  · have hne : a ≠ Reg.SLK_GRP_TX g ∧ a ≠ Reg.SLK_GRP_TX g + 4 := by simpa using ha
    rw [State.packet_group_rd hg hne.1 hne.2, hsame.2.2]

/-- The exchange that an echo of one packet sent completes, with the last one received of that number. -/
theorem State.exchange_echo {x : TimeLink} {p : TimePacket} {t1 t2 t3 : Int} {a : Nat} (hsent : x.sent = [(p.echoSeq, t3, a)]) (hrec : s.clk ≤ a + ms 10)
    (hgot : x.got = [(p.echoSeq, t1, t2)]) (hvalid : p.echoValid = true) (hpeer : x.peerStep = none) :
    s.exchange x p = some (t1, t2, t3, p.echoRx) := by
  unfold State.exchange
  simp [hsent, hgot, hvalid, hpeer, hrec]

/-- What a TIME packet received at a group leaves of its link, an exchange completed. -/
def State.timeTaken (s : State) (g : Nat) (p : TimePacket) : State :=
  let s' := s.setTimeLink g { s.timeLink g with last := some (p.seq, p.txStamp, s.linkRxStamp g), peer := p.sender, peerLocked := p.locked }
  let s' := { s' with time := { s'.time with upstream := tabSet s'.time.upstream (6 + g) (p.rootHops, p.sender, p.rootNode) } }
  s'.setTimeLink g { s'.timeLink g with lastDone := some s'.clk }

theorem State.timeTaken_spec (s : State) (g : Nat) (p : TimePacket) : ((s.timeTaken g p).timeLink g).lastDone = some s.clk
    ∧ ((s.timeTaken g p).timeLink g).last = some (p.seq, p.txStamp, s.linkRxStamp g) := by
  rw [State.timeTaken]
  dsimp only
  rw [State.timeLink_setTimeLink]
  refine ⟨rfl, ?_⟩
  show (State.timeLink (s.setTimeLink g _) g).last = _
  rw [State.timeLink_setTimeLink]

/-- The mean path delay written at a group and its port. -/
def State.mpdWritten (s : State) (g : Nat) (d : Int) : State := (s.wn (Reg.SLK_GRP_MPD g) (unsigned 32 d)).wn (Reg.TIME_PORT_MPD (5 + g)) (unsigned 32 d)

theorem State.mpdWritten_spec (s : State) (hg : g < 3) (d : Int) : (s.mpdWritten g d).rn (Reg.SLK_GRP_MPD g) = unsigned 32 d
    ∧ (s.mpdWritten g d).rn (Reg.TIME_PORT_MPD (5 + g)) = unsigned 32 d ∧ (s.mpdWritten g d).portMode (5 + g) = s.portMode (5 + g)
    ∧ RegsBut [Reg.SLK_GRP_MPD g, Reg.TIME_PORT_MPD (5 + g)] s (s.mpdWritten g d) := by
  have hlt : unsigned 32 d % 2 ^ 32 = unsigned 32 d := Nat.mod_eq_of_lt (unsigned_lt 32 d)
  have hne : Reg.SLK_GRP_MPD g ≠ Reg.TIME_PORT_MPD (5 + g) ∧ Reg.TIME_PORT_CTRL (5 + g) ≠ Reg.TIME_PORT_MPD (5 + g)
      ∧ Reg.TIME_PORT_CTRL (5 + g) ≠ Reg.SLK_GRP_MPD g := by
    simp only [Reg.SLK_GRP_MPD, Reg.TIME_PORT_MPD, Reg.TIME_PORT_CTRL]
    omega
  refine ⟨?_, (State.rn_wn_self ..).trans hlt, ?_, fun a ha => ?_⟩
  · exact (State.rn_wn_ne _ _ hne.1).trans ((State.rn_wn_self ..).trans hlt)
  · exact (State.fld_wn_ne _ _ _ _ hne.2.1).trans (State.fld_wn_ne _ _ _ _ hne.2.2)
  · have hout : a ≠ Reg.SLK_GRP_MPD g ∧ a ≠ Reg.TIME_PORT_MPD (5 + g) := by simpa using ha
    exact (State.rd_wr_ne _ _ hout.2).trans (State.rd_wr_ne _ _ hout.1)

theorem State.timeReceive_echo (hg : g < 3) {p : TimePacket} {t1 t2 t3 t4 : Int} (hstep : p.stepValid = false)
    (hdone : s.exchange (s.timeLink g) p = some (t1, t2, t3, t4)) (hmode : s.portMode (5 + g) ≠ 5) :
    s.timeReceive g p = (s.timeTaken g p).mpdWritten g (((t2 - t1) + (t4 - t3)) / 2) := by
  have hmode' := (State.mpdWritten_spec (s.timeTaken g p) hg (((t2 - t1) + (t4 - t3)) / 2)).2.2.1
  have hsame : (s.timeTaken g p).portMode (5 + g) = s.portMode (5 + g) := rfl
  unfold State.timeReceive
  have hpeer : { s.timeLink g with peerStep := (s.timeLink g).peerStep } = s.timeLink g := rfl
  simp only [hstep, Bool.false_eq_true, if_false, hpeer, hdone, if_pos hg, Bool.false_and]
  exact if_neg (fun h => hmode ((hsame.symm.trans hmode'.symm).trans h))

/-- A step announced for a tally to come is fixed there (R249). -/
theorem State.adoptStep_ahead {n : Nat} {d : Int} (hat : s.time.stepAt = none) (hlast : s.time.lastStep ≠ some (n % 2 ^ 32, d)) (hlo : s.tally < n)
    (hhi : n < s.tally + 1000) (hns : s.ns < s.tp n) :
    ∃ v, v = s.fixStep d n ∧ s.adoptStep g (n % 2 ^ 32) d = { v with time := { v.time with lastStep := some (n % 2 ^ 32, d) } } := by
  refine ⟨_, rfl, ?_⟩
  have hn : ((s.tally : Int) + signed 32 (n % 2 ^ 32 + 2 ^ 32 - s.tally % 2 ^ 32)).toNat = n := by
    unfold signed
    dsimp only
    have hdiff : (n % 2 ^ 32 + 2 ^ 32 - s.tally % 2 ^ 32) % 2 ^ 32 = n - s.tally := by omega
    rw [hdiff, if_pos (by omega)]
    omega
  unfold State.adoptStep
  rw [if_neg (by rw [hat]; exact not_or.2 ⟨by decide, hlast⟩)]
  simp only [hn]
  rw [if_neg (by omega)]

/-! #### BEACON and CREDIT -/

theorem State.packet_slk_awake (s : State) (hl : l < 24) (hidle : (s.lpi l).idle = false) (kind : String) (p : List Byte) :
    (s.packet (8 + l) kind p).slk = s.slk := by
  have hwake : s.lpiWake (8 + l - 8) = s := by
    rw [Nat.add_sub_cancel_left]
    exact if_neg (by simp [hidle])
  rw [State.packet, State.packetAt, if_pos (by omega), hwake]
  exact State.enqueue_slk ..

/-- A BEACON noted at its lane. -/
def State.beaconNoted (s : State) (l : Nat) : State := { s with slk := { s.slk with lastBeacon := tabSet s.slk.lastBeacon l s.clk } }

theorem State.beacon_spec (s : State) (hl : l < 24) (hidle : (s.lpi l).idle = false) (p : List Byte) :
    tabGet? ((s.beaconNoted l).packet (8 + l) "BEACON" p).slk.lastBeacon l = some s.clk
      ∧ ((s.beaconNoted l).packet (8 + l) "BEACON" p).hold = s.hold
      ∧ (s.linkFree (8 + l) = true → ((s.beaconNoted l).packet (8 + l) "BEACON" p).sent = .message "BEACON" l (p.map (·.toNat)) :: s.sent
        ∧ ((s.beaconNoted l).packet (8 + l) "BEACON" p).regs = s.regs) := by
  have hidle' : ((s.beaconNoted l).lpi l).idle = false := hidle
  have hport : linkPort (8 + l) = l := by rw [linkPort, if_neg (by omega), if_pos (by omega), Nat.add_sub_cancel_left]
  refine ⟨?_, (packet_linkSide ..).hold.trans rfl, fun hfree => ?_⟩
  · rw [State.packet_slk_awake _ hl hidle']
    exact tabGet?_tabSet_self ..
  · have hfree' : (s.beaconNoted l).linkFree (8 + l) = true := hfree
    refine ⟨?_, (State.packet_free_regs hfree' (by omega) (by decide)).trans rfl⟩
    rw [(State.packet_free hfree').1, hport]
    rfl

/-- The totals that a CREDIT block sets on a link. -/
def State.creditTaken (s : State) (k rq rs : Nat) : State :=
  s.modCredit k fun c => { c with reqLimit := rq % 65536, rspLimit := rs % 65536 }

theorem State.creditTaken_spec (s : State) (k rq rs : Nat) : (tabGetD (s.creditTaken k rq rs).slk.credits k {}).reqLimit = rq % 65536
    ∧ (tabGetD (s.creditTaken k rq rs).slk.credits k {}).rspLimit = rs % 65536 := by
  rw [State.creditTaken, State.modCredit, tabGetD_tabMod_self]
  exact ⟨rfl, rfl⟩

theorem State.regFlush_none (h : s.slk.regWait = []) : s.regFlush = { s with slk := { s.slk with regWait := [] } } := by
  unfold State.regFlush
  dsimp only
  rw [h]
  rfl

/-- With nothing waiting the Ferry's pump drops posted writes alone, and shows what is outstanding. -/
theorem State.ferryPump_none (h : s.ferry.waiting = []) : ∃ f n, s.ferryPump = ({ s with ferry := f }).wn Reg.FERRY_OUTSTANDING n := by
  unfold State.ferryPump
  dsimp only
  rw [h]
  exact ⟨_, _, rfl⟩

theorem State.creditReceive_spec (s : State) (k rq rs : Nat) (hreg : s.slk.regWait = []) (hferry : s.ferry.waiting = []) :
    (tabGetD (s.creditTaken k rq rs).regFlush.ferryPump.slk.credits k {}).reqLimit = rq % 65536
      ∧ (tabGetD (s.creditTaken k rq rs).regFlush.ferryPump.slk.credits k {}).rspLimit = rs % 65536
      ∧ RegsBut [Reg.FERRY_OUTSTANDING] s (s.creditTaken k rq rs).regFlush.ferryPump
      ∧ (s.creditTaken k rq rs).regFlush.ferryPump.hold = s.hold := by
  obtain ⟨h1, h2⟩ := s.creditTaken_spec k rq rs
  have hreg' : (s.creditTaken k rq rs).slk.regWait = [] := hreg
  rw [State.regFlush_none hreg']
  obtain ⟨f, n, hpump⟩ := State.ferryPump_none (s := { s.creditTaken k rq rs with slk := { (s.creditTaken k rq rs).slk with regWait := [] } }) hferry
  rw [hpump]
  exact ⟨h1, h2, fun a ha => State.rd_wr_ne _ _ (by simpa using ha), rfl⟩

theorem State.creditSend_one {c : Nat} (h : s.carriers k = [c]) : s.creditSend k = s.sendBlocks "CREDIT" c
    [controlBlock 0x66 (beBytes 2 (s.credit k).grantReq ++ beBytes 2 (s.credit k).grantRsp)] := by
  unfold State.creditSend
  rw [h]
  simp [Nat.mod_one]

/-! #### The obligation -/

theorem exec_timePacketSend (dt : Nat) (g : Fin 3) (s : State) : exec (.timePacketSend dt (.group g)) s = act dt s fun u =>
    if u.linkUpNow g ∧ (u.timeLink g).dueAt ≤ u.clk then (u.setTimeLink g { u.timeLink g with dueAt := u.clk + timeCadence g }).timeSend g else u := rfl

theorem exec_timePacketReceive (dt : Nat) (g : Fin 3) (p : TimePacket) (s : State) :
    exec (.timePacketReceive dt (.group g) p) s = act dt s fun u => u.timeReceive g p := rfl

theorem exec_stepAnnounce (dt : Nat) (s : State) : exec (.stepAnnounce dt) s = act dt s fun u =>
    if u.time.stepAt.isSome then u.liveGroups.foldl (fun u g => u.timeSend g) u else u := rfl

theorem exec_stepAnnounceReceive (dt : Nat) (g : Fin 3) (n : Nat) (d : Int) (s : State) :
    exec (.stepAnnounceReceive dt false g n d) s = act dt s fun u =>
      if (false && bit (u.rn Reg.TWIN_CFG) 0) || (!false && u.time.source == 6 + g.val) then u.adoptStep g n d else u := rfl

theorem exec_beaconSend (dt : Nat) (l : Fin 24) (s : State) : exec (.beaconSend dt l) s = act dt s fun u =>
    if u.laneRole l = 5 ∧ u.linked l ∧ (u.lpi l).idle = false then
      (u.beaconNoted l).packet (8 + l) "BEACON" (beaconPacket (u.towardA l) u.role u.nodeId) else u := rfl

theorem exec_creditReceive (dt : Nat) (l : Fin 24) (rq rs : Nat) (s : State) : exec (.creditReceive dt (.lane l) rq rs) s = act dt s fun u =>
    (u.creditTaken (8 + l) rq rs).regFlush.ferryPump := rfl

theorem exec_creditSend (dt : Nat) (g : Fin 3) (s : State) : exec (.creditSend dt (.group g)) s = act dt s fun u => u.creditSend g := rfl

/-- Settles O41, command by command; a packet on a free link leaves at once. -/
theorem linkPackets : Obligations.LinkPackets := by
  unfold Obligations.LinkPackets
  intro dt tal rq rs d l g b p k x t1 t2 t3 a s hcore h128 h129 hx
  have hl := l.isLt
  have hg := g.isLt
  have hblock (hr : s.laneRole l = 5) : (if (s.advance dt).groupOf l < 3 then (s.advance dt).stripeReceive ((s.advance dt).groupOf l) l [b]
      else (s.advance dt).rxBlock l b) = (s.advance dt).rxBlock l b :=
    if_neg (by rw [State.groupOf_of_tile (s := s.advance dt) hr]; decide)
  have hlink : (s.advance dt).timeLink g = x := hx
  refine ⟨?_, ?_, ?_, ?_, ?_, ?_, ?_, ?_, ?_, ?_⟩
  case refine_1 =>
    intro hr hbad
    have hpair := State.pair_bumpBy (s.advance dt) (Reg.SLK_LANE_BAD_BLOCK l) 1
    have hregs : RegsBut [Reg.SLK_LANE_BAD_BLOCK l, Reg.SLK_LANE_BAD_BLOCK l + 4] s ((s.advance dt).bump (Reg.SLK_LANE_BAD_BLOCK l)) := fun r hrr => by
      obtain ⟨h1, h2⟩ : r ≠ Reg.SLK_LANE_BAD_BLOCK l ∧ r ≠ Reg.SLK_LANE_BAD_BLOCK l + 4 := by simpa using hrr
      exact (s.advance dt).rd_bump_ne h1 h2
    have hsides : ((s.advance dt).bump (Reg.SLK_LANE_BAD_BLOCK l)).out = s.out ∧ ((s.advance dt).bump (Reg.SLK_LANE_BAD_BLOCK l)).hold = s.hold := ⟨rfl, rfl⟩
    have hbody := (hblock hr).trans (State.rxBlock_invalid (s := s.advance dt) hr hbad)
    obtain ⟨v, hv⟩ : ∃ v, v = (s.advance dt).bump (Reg.SLK_LANE_BAD_BLOCK l) := ⟨_, rfl⟩
    rw [← hv] at hregs hsides hbody
    have hpair' : v.pair (Reg.SLK_LANE_BAD_BLOCK l) = min (s.pair (Reg.SLK_LANE_BAD_BLOCK l) + 1) (2 ^ 64 - 1) := hv ▸ hpair
    exact completes_eq rfl hcore hbody ⟨hpair', hsides.1, State.setRx_nil v (8 + l), hregs, sameHold_of_hold hsides.2⟩
  case refine_2 =>
    intro hr hsync hrx hne hlen hgood htype hhead hfields
    have hbody := (hblock hr).trans ((State.rxBlock_last (s := s.advance dt) hr hsync hrx hne hlen).trans
      (State.packetWhole_good (s := (s.advance dt).setRx (8 + l) []) hr hgood htype hhead hfields))
    exact completes_eq rfl hcore hbody ⟨rfl, State.setRx_nil (s.advance dt) (8 + l), fun _ => rfl, sameHold_of_hold rfl⟩
  case refine_3 =>
    intro hr hsync hrx hne hlen hbad
    obtain ⟨h1, h2, h3, h4⟩ := State.crcFail_spec (s := (s.advance dt).setRx (8 + l) []) hl hr h128 h129
    have hbody := (hblock hr).trans ((State.rxBlock_last (s := s.advance dt) hr hsync hrx hne hlen).trans (State.packetWhole_bad hbad))
    have hnone := State.setRx_nil (s.advance dt) (8 + l)
    obtain ⟨u, hu⟩ : ∃ u, u = ((s.advance dt).setRx (8 + l) []).crcFail l := ⟨_, rfl⟩
    rw [← hu] at h1 h2 h3 h4 hbody
    rw [← h3] at hnone
    exact completes_eq (u := u) rfl hcore hbody ⟨h1, h2, hnone, sameHold_of_hold h4⟩
  case refine_4 =>
    intro hup hdue ht3
    obtain ⟨v, hv⟩ : ∃ v, v = (s.advance dt).setTimeLink g { (s.advance dt).timeLink g with dueAt := (s.advance dt).clk + timeCadence g } := ⟨_, rfl⟩
    have hvlink : v.timeLink g = { x with dueAt := s.clk + dt + ms 1 } := by
      rw [hv, State.timeLink_setTimeLink, hlink, timeCadence, if_pos hg]
      rfl
    have hvt3 : (v.advance (v.txWait g 7)).linkTxStamp g = t3 := by rw [ht3, hv]; rfl
    have hvfields (t : Int) : v.timeFields g ((x.seq + 1) % 65536) t x.last = (s.advance dt).timeFields g ((x.seq + 1) % 65536) t x.last := by rw [hv]; rfl
    have hnext : v.timeNext g = timePacket false false ((s.advance dt).timeFields g ((x.seq + 1) % 65536) t3 x.last) := by
      rw [State.timeNext, hvt3, hvlink]
      exact congrArg _ (hvfields t3)
    have hsides : v.hold = s.hold ∧ v.clk = s.clk + dt ∧ v.sent = s.sent ∧ v.pair (Reg.SLK_GRP_TX g) = s.pair (Reg.SLK_GRP_TX g) ∧ (∀ r, v.rd r = s.rd r) := by
      rw [hv]
      exact ⟨rfl, rfl, rfl, rfl, fun _ => rfl⟩
    have hfree (h : (s.advance dt).linkFree g = true) : v.linkFree g = true := hv ▸ h
    have hcond : (s.advance dt).linkUpNow g = true ∧ ((s.advance dt).timeLink g).dueAt ≤ (s.advance dt).clk := by
      refine ⟨?_, hlink ▸ hdue⟩
      rw [State.linkUpNow, if_pos hg]
      exact congrArg (!·) hup
    obtain ⟨h1, h2, h3, h4, -⟩ := v.timeSend_spec hg
    have hsend := v.timeSend_free hg
    obtain ⟨vhold, vclk, vsent, vpair, vrd⟩ := hsides
    rw [hvlink] at h1 h2 h3
    rw [hvt3, vclk] at h3
    rw [hnext, vsent, vpair] at hsend
    have hbody : (if (s.advance dt).linkUpNow g = true ∧ ((s.advance dt).timeLink g).dueAt ≤ (s.advance dt).clk then
        ((s.advance dt).setTimeLink g { (s.advance dt).timeLink g with dueAt := (s.advance dt).clk + timeCadence g }).timeSend g else s.advance dt)
        = v.timeSend g := by rw [hv]; exact if_pos hcond
    generalize v.timeSend g = u at *
    exact completes_eq (u := u) (exec_timePacketSend dt g s) hcore hbody ⟨h1, h2, h3, sameHold_of_hold (h4.trans vhold), fun h =>
      have hf := hsend (hfree h)
      ⟨hf.1, hf.2.1, fun r hr => (hf.2.2 r hr).trans (vrd r)⟩⟩
  case refine_5 =>
    intro hsent hrec hgot hvalid hpeer hmode hstep
    have hdone : (s.advance dt).exchange ((s.advance dt).timeLink g) k = some (t1, t2, t3, k.echoRx) := by
      rw [hlink]
      exact State.exchange_echo hsent hrec hgot hvalid hpeer
    have hbody := State.timeReceive_echo (s := s.advance dt) hg hstep hdone hmode
    obtain ⟨w, hw⟩ : ∃ w, w = (s.advance dt).timeTaken g k := ⟨_, rfl⟩
    obtain ⟨k1, k2⟩ := (s.advance dt).timeTaken_spec g k
    have hwsides : w.hold = s.hold ∧ ∀ r, w.rd r = s.rd r := by rw [hw]; exact ⟨rfl, fun _ => rfl⟩
    rw [← hw] at k1 k2 hbody
    obtain ⟨h1, h2, -, h4⟩ := w.mpdWritten_spec hg (((t2 - t1) + (k.echoRx - t3)) / 2)
    have hlink' : (w.mpdWritten g (((t2 - t1) + (k.echoRx - t3)) / 2)).timeLink g = w.timeLink g := rfl
    have hhold : (w.mpdWritten g (((t2 - t1) + (k.echoRx - t3)) / 2)).hold = w.hold := rfl
    generalize w.mpdWritten g (((t2 - t1) + (k.echoRx - t3)) / 2) = u at *
    rw [← hlink'] at k1 k2
    exact completes_eq (u := u) (exec_timePacketReceive dt g k s) hcore hbody
      ⟨h1, h2, k1, k2, fun r hr => (h4 r hr).trans (hwsides.2 r), sameHold_of_hold (hhold.trans hwsides.1)⟩
  case refine_6 =>
    intro hat hlive ht3
    obtain ⟨h1, -, -, h4, h5⟩ := (s.advance dt).timeSend_spec hg
    have hsend := (s.advance dt).timeSend_free hg
    have hnext : (s.advance dt).timeNext g = timePacket false false ((s.advance dt).timeFields g ((x.seq + 1) % 65536) t3 x.last) := by
      rw [State.timeNext, hlink, ht3]
    rw [hlink] at h1
    rw [hnext] at hsend
    have hbody : (if (s.advance dt).time.stepAt.isSome then (s.advance dt).liveGroups.foldl (fun u g => u.timeSend g) (s.advance dt) else s.advance dt)
        = (s.advance dt).timeSend g := by
      rw [show (s.advance dt).time.stepAt = some tal from hat, show (s.advance dt).liveGroups = [g.val] from hlive]
      rfl
    have hat' : ((s.advance dt).timeSend g).time.stepAt = some tal := by rw [h5]; exact hat
    generalize (s.advance dt).timeSend g = u at *
    exact completes_eq (u := u) (exec_stepAnnounce dt s) hcore hbody ⟨h1, hat', sameHold_of_hold h4, fun h => (hsend h).1⟩
  case refine_7 =>
    intro hsrc hat hlast hlo hhi hns
    obtain ⟨v, hv, hadopt⟩ := State.adoptStep_ahead (s := s.advance dt) (g := g) hat hlast hlo hhi hns
    obtain ⟨h1, h2, h3⟩ := (s.advance dt).fixStep_step d tal
    have hhold := State.fixStep_hold (s := s.advance dt) d tal
    rw [← hv] at h1 h2 h3 hhold
    have hcond : ((false && bit ((s.advance dt).rn Reg.TWIN_CFG) 0) || (!false && (s.advance dt).time.source == 6 + g.val)) = true := by
      rw [show (s.advance dt).time.source = 6 + g.val from hsrc]
      simp
    exact completes_eq (exec_stepAnnounceReceive dt g _ d s) hcore ((if_pos hcond).trans hadopt) ⟨h1, h2, h3, sameHold_of_hold hhold⟩
  case refine_8 =>
    intro hr hst hidle
    obtain ⟨h1, h2, h3⟩ := State.beacon_spec (s.advance dt) hl hidle (beaconPacket ((s.advance dt).towardA l) (s.advance dt).role (s.advance dt).nodeId)
    have hcond : (s.advance dt).laneRole l = 5 ∧ (s.advance dt).linked l = true ∧ ((s.advance dt).lpi l).idle = false := ⟨hr, beq_iff_eq.2 hst, hidle⟩
    obtain ⟨u, hu⟩ : ∃ u, u = ((s.advance dt).beaconNoted l).packet (8 + l) "BEACON"
      (beaconPacket ((s.advance dt).towardA l) (s.advance dt).role (s.advance dt).nodeId) := ⟨_, rfl⟩
    rw [← hu] at h1 h2 h3
    exact completes_eq (u := u) (exec_beaconSend dt l s) hcore ((if_pos hcond).trans hu.symm)
      ⟨h1, sameHold_of_hold h2, fun h => ⟨(h3 h).1, sameRegs_of_regs (h3 h).2⟩⟩
  case refine_9 =>
    intro hreg hferry
    obtain ⟨h1, h2, h3, h4⟩ := (s.advance dt).creditReceive_spec (8 + l) rq rs hreg hferry
    obtain ⟨u, hu⟩ : ∃ u, u = ((s.advance dt).creditTaken (8 + l) rq rs).regFlush.ferryPump := ⟨_, rfl⟩
    rw [← hu] at h1 h2 h3 h4
    exact completes_eq (u := u) (exec_creditReceive dt l rq rs s) hcore hu.symm ⟨h1, h2, h3, sameHold_of_hold h4⟩
  case refine_10 =>
    intro hcar
    have hbody := State.creditSend_one (s := s.advance dt) (k := g) hcar
    have hblocks : ∃ bs, bs = [controlBlock 0x66 (beBytes 2 ((s.advance dt).credit g).grantReq ++ beBytes 2 ((s.advance dt).credit g).grantRsp)] := ⟨_, rfl⟩
    obtain ⟨bs, hbs⟩ := hblocks
    rw [← hbs] at hbody
    have h1 := (s.advance dt).sendBlocks_sent "CREDIT" hl bs
    have h2 := ((s.advance dt).sendBlocks_sides "CREDIT" l bs).1
    have h3 := (sendBlocks_linkSide (s.advance dt) "CREDIT" l bs).hold
    generalize (s.advance dt).sendBlocks "CREDIT" l bs = u at *
    rw [hbs] at h1
    exact completes_eq (u := u) (exec_creditSend dt g s) hcore hbody ⟨h1, sameRegs_of_regs h2, sameHold_of_hold h3⟩

end Sys2Proof.Machine
end

section
/-! ### Packets of sources (R79 to R86, R94, R252) -/

namespace Sys2Proof.Machine

variable {s t u : State} {i j g : Nat} {β : Type} {π : Receiver → β}

/-! #### Forwarding of a STREAM packet -/

theorem slkPacket_split (type cls : Nat) (toward : Bool) (tail fields : List Byte) :
    ∃ bs crc, slkPacket type cls toward tail fields = beBytes 1 type ++ bs ++ beBytes 4 crc := by
  refine ⟨beBytes 1 (32 * cls + 16 * toward.toNat) ++ beBytes 2 (ceilDiv (fields.length + 4) 8) ++ tail ++ fields
    ++ zeros (8 * ceilDiv (fields.length + 4) 8 - 4 - fields.length),
    (crc32c (beBytes 1 type ++ beBytes 1 (32 * cls + 16 * toward.toNat) ++ beBytes 2 (ceilDiv (fields.length + 4) 8) ++ tail ++ fields
      ++ zeros (8 * ceilDiv (fields.length + 4) 8 - 4 - fields.length))).toNat, ?_⟩
  unfold slkPacket
  dsimp only
  rw [← List.append_assoc, ← List.append_assoc, ← List.append_assoc, ← List.append_assoc]

/-- The type of a packet stays when its check word is set. -/
theorem withCheck_type (type cls : Nat) (toward : Bool) (tail fields : List Byte) (crc : Word) :
    pkt (withCheck (slkPacket type cls toward tail fields) crc) 0 1 = type % 256 := by
  obtain ⟨bs, c, h⟩ := slkPacket_split type cls toward tail fields
  have hlen : (beBytes 4 c).length = 4 := by simp [beBytes, leBytes]
  have htake : (beBytes 1 type ++ bs).length = (beBytes 1 type ++ bs ++ beBytes 4 c).length - 4 := by
    rw [List.length_append (bs := beBytes 4 c), hlen, Nat.add_sub_cancel]
  rw [h, withCheck, ← htake, List.take_left]
  simp [pkt, beBytes, leBytes, beNat]

/-- A step that keeps the pipeline, Hold, the clock, the node ID and the reactions of the detectors. -/
structure PipeKept (s t : State) : Prop where
  nodeId : t.nodeId = s.nodeId
  pipe : t.pipe = s.pipe
  hold : t.hold = s.hold
  clk : t.clk = s.clk
  dets : ∀ d < 512, t.logOnly d = s.logOnly d

namespace PipeKept

theorem refl (s : State) : PipeKept s s := ⟨rfl, rfl, rfl, rfl, fun _ _ => rfl⟩

theorem trans (h : PipeKept s t) (k : PipeKept t u) : PipeKept s u :=
  ⟨k.nodeId.trans h.nodeId, k.pipe.trans h.pipe, k.hold.trans h.hold, k.clk.trans h.clk, fun d hd => (k.dets d hd).trans (h.dets d hd)⟩

theorem of_fault (h : FaultSide s t) : PipeKept s t :=
  ⟨h.rn (faultReg_low (by decide)), h.pipe, h.hold, by obtain ⟨_, _, _, rfl, _⟩ := h; rfl, h.logOnly⟩

theorem of_link (h : LinkSide s t) : PipeKept s t := ⟨h.rn (by decide), h.pipe, h.hold, h.clk, fun _ _ => h.logOnly⟩

theorem ite {c : Prop} [Decidable c] (h : PipeKept s t) (k : PipeKept s u) : PipeKept s (if c then t else u) := by
  split
  · exact h
  · exact k

theorem bump (h : PipeKept s t) {a : Nat} (hlo : Reg.SLK_NODE_ID < a) (ha : a + 4 < 0x121000) : PipeKept s (t.bump a) :=
  h.trans ⟨congrArg BitVec.toNat (t.rd_bump_ne (by omega) (by omega)), rfl, rfl, rfl, fun _ _ => State.logOnly_bump t (ha.trans_le (by decide))⟩

end PipeKept

/-- A fault raised for a time without a reaction at once. -/
theorem raiseFor_faultSide (s : State) (d i info dur : Nat) (h : s.logOnly d = true) : FaultSide s (s.raiseFor d i info dur) := by
  unfold State.raiseFor
  have hraise := raise_faultSide s d i info h
  exact .ite (hraise.setFltInst _ _ _) hraise

theorem State.streamHeard_kept (s : State) (g o n : Nat) (h145 : s.logOnly 145 = true) : PipeKept s (s.streamHeard g o n) := by
  unfold State.streamHeard
  dsimp only
  generalize hv : ({ s with twin := { s.twin with
    streamOrigins := ((o, n), s.clk) :: (s.twin.streamOrigins.filter fun e => decide (s.clk < e.2 + sec 1)).filter (·.1 != (o, n)) } } : State) = v
  have hsame : PipeKept s v := hv ▸ ⟨rfl, rfl, rfl, rfl, fun _ _ => rfl⟩
  have hbump := hsame.bump (a := Reg.SLK_STREAM_CONFLICT) (by decide) (by decide)
  have hlog := (hbump.dets 145 (by decide)).trans h145
  split
  · split
    · exact hbump.trans (.of_fault (FaultSide.setFltInst (.refl _) _ _ _))
    · exact hbump.trans (.of_fault (raiseFor_faultSide _ _ _ _ _ hlog))
  · exact hsame

theorem State.ringGroups_lt (s : State) : ∀ q ∈ s.ringGroups, q < 3 := by
  have hfld (hi lo : Nat) (h : hi + 1 - lo = 2) : s.fld Reg.SLK_TOPO hi lo < 4 := by
    have := bits_lt (s.rn Reg.SLK_TOPO) hi lo
    rwa [h] at this
  have h1 := hfld 3 2 rfl
  have h2 := hfld 5 4 rfl
  unfold State.ringGroups
  intro q hq
  split at hq
  · rcases List.mem_pair.1 hq with rfl | rfl <;> omega
  · cases hq

/-- The groups that carry a STREAM packet onward. -/
def State.streamOuts (s : State) (g n : Nat) : List Nat :=
  if s.topo = 2 then s.ringOnward g else [0, 1, 2].filter fun q => q != g && bit (s.rn (Reg.SLK_STREAM_FWD n)) q

theorem State.streamOuts_lt (s : State) (g n : Nat) : ∀ q ∈ s.streamOuts g n, q < 3 := by
  intro q hq
  unfold State.streamOuts State.ringOnward at hq
  split at hq
  · split at hq
    · exact s.ringGroups_lt q (List.mem_filter.1 hq).1
    · cases hq
  · have hmem := (List.mem_filter.1 hq).1
    simp only [List.mem_cons, List.not_mem_nil, or_false] at hmem
    omega

theorem State.forward_stream {p : List Byte} (htype : pkt p 0 1 = 0x20) : s.forward g p =
    if (packetEnds p).1 = s.nodeId then s else
      let s := if packetGood p then s.streamHeard g (packetEnds p).1 (pkt p 11 1) else s
      if s.fld Reg.SLK_HOP_LIMIT 15 0 ≤ pkt p 4 2 + 1 then (s.bump (Reg.SLK_GRP_HOPDROP g)).raiseSec 133 g
      else (s.streamOuts g (pkt p 11 1)).foldl (fun s q => s.groupSend q "FORWARD" (rehop p)) s := by
  have hheard (o : Nat) : (if 0x20 = 0x20 ∧ packetGood p = true then s.streamHeard g o (pkt p 11 1) else s)
      = if packetGood p = true then s.streamHeard g o (pkt p 11 1) else s := by simp
  unfold State.forward
  dsimp only
  rw [htype, if_neg (by decide : ¬ 0x20 = 0x11), if_neg (by simp : ¬ (0x20 ≠ 0x20 ∧ packetGood p = true)), hheard]
  generalize (if packetGood p = true then s.streamHeard g (packetEnds p).1 (pkt p 11 1) else s) = v
  refine ite_congr rfl (fun _ => rfl) fun _ => ?_
  rw [if_neg (by simp : ¬ (0x20 ≠ 0x20 ∧ _))]
  simp [State.streamOuts]

/-- A STREAM packet forwarded leaves the sources as they are. -/
theorem State.forward_stream_kept {p : List Byte} (hg : g < 3) (htype : pkt p 0 1 = 0x20) (h133 : s.logOnly 133 = true) (h145 : s.logOnly 145 = true) :
    PipeKept s (s.forward g p) := by
  rw [State.forward_stream htype]
  have hheard : PipeKept s (if packetGood p then s.streamHeard g (packetEnds p).1 (pkt p 11 1) else s) := .ite (s.streamHeard_kept g _ _ h145) (.refl s)
  generalize (if packetGood p then s.streamHeard g (packetEnds p).1 (pkt p 11 1) else s) = v at *
  refine .ite (.refl s) ?_
  dsimp only
  split
  · have hdrop := hheard.bump (a := Reg.SLK_GRP_HOPDROP g) (by simp only [Reg.SLK_GRP_HOPDROP, Reg.SLK_NODE_ID]; omega) (by simp only [Reg.SLK_GRP_HOPDROP]; omega)
    exact hdrop.trans (.of_fault (raiseSec_faultSide _ _ _ _ ((hdrop.dets 133 (by decide)).trans h133)))
  · have houts := v.streamOuts_lt g (pkt p 11 1)
    generalize v.streamOuts g (pkt p 11 1) = qs at houts
    exact hheard.trans (List.foldlRecOn (motive := PipeKept v) qs _ (.refl v) fun u hu q hq =>
      hu.trans (.of_link (groupSend_linkSide u (houts q hq) _ _)))

/-! #### A raise without a reaction resets no block -/

/-- The block resets that run, and the injection in force. -/
@[reducible] def FaultState.orders (f : FaultState) : List (Block × Nat) × Option Injection := (f.resets, f.injection)

theorem State.lampFlag_flt (s : State) (d i : Nat) : (s.lampFlag d i).flt = s.flt := by
  unfold State.lampFlag
  split
  · dsimp only
    split
    · rw [State.setFld_flt, State.setFld_flt]
    · rw [State.setFld_flt]
  · rfl

theorem State.logMoved_orders (s : State) (q : Nat) : (s.logMoved q).flt.orders = s.flt.orders := by
  unfold State.logMoved
  dsimp only
  split
  · rw [State.keepWrite_flt]
  · rfl

theorem State.logPush_orders (s : State) (e : LogEntry) : (s.logPush e).flt.orders = s.flt.orders := by
  have hlost : (if s.flt.log.length < 1024 then s else s.bump Reg.FLT_LOG_LOST : State).flt.orders = s.flt.orders := by
    split
    · rfl
    · exact congrArg FaultState.orders (State.bump_flt ..)
  unfold State.logPush
  dsimp only
  generalize (if s.flt.log.length < 1024 then s else s.bump Reg.FLT_LOG_LOST : State) = v at hlost ⊢
  split
  · exact hlost
  · exact (State.logMoved_orders ..).trans hlost

theorem State.orders_ite {c : Prop} [Decidable c] {r : List (Block × Nat) × Option Injection} (h : t.flt.orders = r) (k : u.flt.orders = r) :
    (if c then t else u).flt.orders = r := by
  split
  · exact h
  · exact k

theorem State.putFirst_orders (s : State) (e : LogEntry) : (s.putFirst e).flt.orders = s.flt.orders := by
  rw [State.putFirst, State.keepWrite_flt]

theorem State.takeFirst_orders (s : State) (d i : Nat) : (s.takeFirst d i).flt.orders = s.flt.orders := by
  unfold State.takeFirst
  split
  · rfl
  · exact State.orders_ite (s.putFirst_orders _) rfl

theorem State.tripLog_orders (s : State) (t : Trip) (e : LogEntry) (held : Bool) : (s.tripLog t e held).flt.orders = s.flt.orders := by
  unfold State.tripLog
  dsimp only
  have hraised : (s.bump Reg.FLT_RAISED).flt = s.flt := State.bump_flt ..
  generalize s.bump Reg.FLT_RAISED = v at hraised
  have hrail : (if t.rail = true then v.bump Reg.FLT_RAIL else v).flt = s.flt := by
    split
    · exact (State.bump_flt ..).trans hraised
    · exact hraised
  generalize (if t.rail = true then v.bump Reg.FLT_RAIL else v) = w at hrail
  rw [State.takeFirst_orders, State.logPush_orders]
  split
  · rw [State.bump_flt, hrail]
  · rw [hrail]

theorem State.tripRaise_orders (s : State) (t : Trip) (e : LogEntry) (x : FltInst) (ev : Bool) : (s.tripRaise t e x ev).1.flt.orders = s.flt.orders := by
  have hmarks (u : State) (sev : Nat) (lat : Bool) : (u.tripMarks t sev lat).flt.orders = u.flt.orders := by
    unfold State.tripMarks
    dsimp only
    split
    · split <;> rfl
    · split <;> rfl
  have hstand (u : State) (r sev : Nat) (lat inj : Bool) : (u.tripStand t x ev r sev lat inj).flt.orders = u.flt.orders := by
    unfold State.tripStand
    dsimp only
    split <;> rfl
  unfold State.tripRaise
  dsimp only
  rw [hstand, hmarks, State.tripLog_orders]

theorem State.enterTrip_orders (s : State) (t : Trip) : (s.enterTrip t).1.flt.orders = s.flt.orders := by
  have hflag := State.lampFlag_flt s t.det t.inst
  unfold State.enterTrip
  split
  · rfl
  · split
    · rfl
    · dsimp only
      generalize s.lampFlag t.det t.inst = v at hflag ⊢
      rw [← hflag]
      split
      · rw [State.tripShadowed]
        dsimp only
        rw [State.logPush_orders, State.bump_flt]
        split <;> rfl
      · split
        · rw [State.tripRepeat]
          exact State.logPush_orders ..
        · exact State.tripRaise_orders ..

theorem State.raise_orders (s : State) (d i info : Nat) (h : s.logOnly d = true) : (s.raise d i info).flt.orders = s.flt.orders := by
  have hdet : s.detReaction d ≤ 1 := by simpa [State.logOnly] using h
  have hcode := enterTrip_code s { det := d, inst := i, info := info } rfl hdet
  have hkept := s.enterTrip_orders { det := d, inst := i, info := info }
  unfold State.raise State.logTrip
  generalize s.enterTrip { det := d, inst := i, info := info } = q at *
  obtain ⟨v, o⟩ := q
  cases o with
  | none => exact hkept
  | some x => exact (congrArg (fun u : State => u.flt.orders) (v.act1_logged (hcode x rfl))).trans hkept

theorem State.raise_resets (s : State) (d i info : Nat) (h : s.logOnly d = true) : (s.raise d i info).flt.resets = s.flt.resets :=
  congrArg Prod.fst (s.raise_orders d i info h)

theorem State.resets_ite {c : Prop} [Decidable c] {r : List (Block × Nat)} (h : t.flt.resets = r) (k : u.flt.resets = r) :
    (if c then t else u).flt.resets = r := by
  split
  · exact h
  · exact k

theorem State.raiseSec_resets (s : State) (d i info : Nat) (h : s.logOnly d = true) : (s.raiseSec d i info).flt.resets = s.flt.resets := by
  unfold State.raiseSec
  exact State.resets_ite (State.raise_resets _ d i info h) rfl

theorem State.raiseFor_resets (s : State) (d i info dur : Nat) (h : s.logOnly d = true) : (s.raiseFor d i info dur).flt.resets = s.flt.resets := by
  have hraise := s.raise_resets d i info h
  unfold State.raiseFor
  exact State.resets_ite hraise hraise

theorem State.streamHeard_resets (s : State) (g o n : Nat) (h145 : s.logOnly 145 = true) : (s.streamHeard g o n).flt.resets = s.flt.resets := by
  unfold State.streamHeard
  dsimp only
  generalize hv : ({ s with twin := { s.twin with
    streamOrigins := ((o, n), s.clk) :: (s.twin.streamOrigins.filter fun e => decide (s.clk < e.2 + sec 1)).filter (·.1 != (o, n)) } } : State) = v
  have hsame : PipeKept s v ∧ v.flt = s.flt := hv ▸ ⟨⟨rfl, rfl, rfl, rfl, fun _ _ => rfl⟩, rfl⟩
  have hbump := hsame.1.bump (a := Reg.SLK_STREAM_CONFLICT) (by decide) (by decide)
  have hflt : (v.bump Reg.SLK_STREAM_CONFLICT).flt = s.flt := (State.bump_flt ..).trans hsame.2
  have hraise := State.raiseFor_resets _ 145 0 (n + 65536 * g) (sec 1) ((hbump.dets 145 (by decide)).trans h145)
  have hres : (v.bump Reg.SLK_STREAM_CONFLICT).flt.resets = s.flt.resets := by rw [hflt]
  rw [hflt] at hraise
  exact State.resets_ite (State.resets_ite hres hraise) (congrArg FaultState.resets hsame.2)

theorem State.forward_stream_resets {p : List Byte} (hg : g < 3) (htype : pkt p 0 1 = 0x20) (h133 : s.logOnly 133 = true) (h145 : s.logOnly 145 = true) :
    (s.forward g p).flt.resets = s.flt.resets := by
  rw [State.forward_stream htype]
  have hheard : (if packetGood p then s.streamHeard g (packetEnds p).1 (pkt p 11 1) else s).flt.resets = s.flt.resets :=
    State.resets_ite (s.streamHeard_resets g _ _ h145) rfl
  have hkept : PipeKept s (if packetGood p then s.streamHeard g (packetEnds p).1 (pkt p 11 1) else s) := .ite (s.streamHeard_kept g _ _ h145) (.refl s)
  generalize (if packetGood p then s.streamHeard g (packetEnds p).1 (pkt p 11 1) else s) = v at *
  have hdrop := hkept.bump (a := Reg.SLK_GRP_HOPDROP g) (by simp only [Reg.SLK_GRP_HOPDROP, Reg.SLK_NODE_ID]; omega) (by simp only [Reg.SLK_GRP_HOPDROP]; omega)
  have houts := v.streamOuts_lt g (pkt p 11 1)
  dsimp only
  generalize v.streamOuts g (pkt p 11 1) = qs at houts
  have hsent := List.foldlRecOn (motive := fun u : State => u.flt.resets = v.flt.resets) qs (fun u q => u.groupSend q "FORWARD" (rehop p)) rfl fun u hu q hq =>
    (congrArg FaultState.resets (groupSend_linkSide u (houts q hq) "FORWARD" (rehop p)).flt).trans hu
  refine State.resets_ite rfl (State.resets_ite ?_ (hsent.trans hheard))
  rw [State.raiseSec_resets _ 133 g 0 ((hdrop.dets 133 (by decide)).trans h133), State.bump_flt, hheard]

/-! #### A failure of the check word -/

theorem State.crcFail_kept (hl : s.crcLane l < 24) (h128 : s.logOnly 128 = true) (h129 : s.logOnly 129 = true) : PipeKept s (s.crcFail l) := by
  rw [State.crcFail_eq]
  have hbump := (PipeKept.refl s).bump (a := Reg.SLK_LANE_CRC_ERR (s.crcLane l)) (by simp only [Reg.SLK_LANE_CRC_ERR, Reg.SLK_NODE_ID]; omega) (by simp only [Reg.SLK_LANE_CRC_ERR]; omega)
  have hsec := hbump.trans (.of_fault (raiseSec_faultSide _ 128 (s.crcLane l) 0 ((hbump.dets 128 (by decide)).trans h128)))
  obtain ⟨c, hside⟩ := State.crcNoted_faultSide (l := s.crcLane l) ((hsec.dets 129 (by decide)).trans h129)
  refine PipeKept.trans ?_ (.of_fault hside)
  exact hsec.trans ⟨rfl, rfl, rfl, rfl, fun _ _ => rfl⟩

theorem State.members_lt (s : State) (g l : Nat) (h : l ∈ s.members g) : l < 24 := rangeFilter_lt h

theorem State.head_members_lt (s : State) (g : Nat) {d : Nat} (hd : d < 24) : ((s.members g).head?).getD d < 24 := by
  cases hm : s.members g with
  | nil => exact hd
  | cons m ms => exact s.members_lt g m (hm ▸ List.mem_cons_self)

theorem State.crcLane_lt (s : State) (hl : l < 24) : s.crcLane l < 24 := by
  unfold State.crcLane
  split
  · exact s.head_members_lt _ hl
  · exact hl

/-! #### What a step leaves of a receiver -/

/-- A step that keeps `π` of receiver `i`, the clock and the reactions of the detectors. -/
structure RcvKept (π : Receiver → β) (i : Nat) (s t : State) : Prop where
  rcv : π (t.rcv i) = π (s.rcv i)
  clk : t.clk = s.clk
  dets : ∀ d < 512, t.logOnly d = s.logOnly d

/-- What of a receiver its first path alone decides. -/
def OfPath (π : Receiver → β) : Prop := ∀ r r' : Receiver, r'.path0 = r.path0 → π r' = π r

namespace RcvKept

theorem refl (s : State) : RcvKept π i s s := ⟨rfl, rfl, fun _ _ => rfl⟩

theorem trans (h : RcvKept π i s t) (k : RcvKept π i t u) : RcvKept π i s u :=
  ⟨k.rcv.trans h.rcv, k.clk.trans h.clk, fun d hd => (k.dets d hd).trans (h.dets d hd)⟩

theorem of_pipe (h : PipeKept s t) : RcvKept π i s t := ⟨by rw [State.rcv, h.pipe]; rfl, h.clk, h.dets⟩

theorem fault (h : RcvKept π i s t) (k : FaultSide t u) : RcvKept π i s u := h.trans (.of_pipe (.of_fault k))

theorem bump (h : RcvKept π i s t) {a : Nat} (ha : a + 4 < 0x121000) : RcvKept π i s (t.bump a) := 
  h.trans ⟨rfl, rfl, fun _ _ => State.logOnly_bump t (ha.trans_le (by decide))⟩

theorem ite {c : Prop} [Decidable c] (h : RcvKept π i s t) (k : RcvKept π i s u) : RcvKept π i s (if c then t else u) := by
  split
  · exact h
  · exact k

end RcvKept

theorem State.rcvSettle_detsKept (s : State) (hj : j < 32) : RegSide (· < 0x121000) s (s.rcvSettle j) := by
  have hreg (o : Nat) (ho : o < 0x20100) : o + 128 * j < 0x121000 := by omega
  unfold State.rcvSettle
  dsimp only
  refine ((((RegSide.refl _ s).wrWords _ fun k hk => ?_).wn _ ?_).wn _ ?_).wn _ ?_
  · simp only [List.length_cons, List.length_nil] at hk
    simp only [Reg.ING_SRC_CFG]
    omega
  · simp only [Reg.ING_SRC_BUF_BASE]; omega
  · simp only [Reg.ING_SRC_BUF_SIZE]; omega
  · simp only [Reg.ING_SRC_STATE]; omega

theorem RegSide.logOnly (h : RegSide (· < 0x121000) s t) (d : Nat) : t.logOnly d = s.logOnly d :=
  State.logOnly_congr (h.rd (by simp only [Reg.FLT_DET_CFG]; omega))

theorem State.setRcv_sides (s : State) (hj : j < 32) (r : Receiver) : (s.setRcv j r).clk = s.clk ∧ ∀ d, (s.setRcv j r).logOnly d = s.logOnly d := by
  have h := State.rcvSettle_detsKept { s with pipe := { s.pipe with receivers := tabSet s.pipe.receivers j r } } hj
  refine ⟨?_, fun d => h.logOnly d⟩
  obtain ⟨r', hr', -⟩ := h
  rw [State.setRcv, hr']

theorem State.rcv_setRcv_ne (s : State) (h : i ≠ j) (r : Receiver) : (s.setRcv j r).rcv i = s.rcv i := by
  rw [State.rcv, State.setRcv_pipe, State.rcv]
  simp only [tabGetD]
  rw [tabGet?_tabSet_ne _ _ h]

namespace RcvKept

theorem setRcv (h : RcvKept π i s t) (hj : j < 32) {r : Receiver} (hr : i ≠ j ∨ π r = π (t.rcv j)) : RcvKept π i s (t.setRcv j r) := by
  obtain ⟨hclk, hdets⟩ := t.setRcv_sides hj r
  refine h.trans ⟨?_, hclk, fun d _ => hdets d⟩
  by_cases hij : i = j
  · subst hij
    rw [State.rcv_setRcv]
    exact hr.resolve_left (· rfl)
  · rw [State.rcv_setRcv_ne _ hij]

/-- A change of receiver `j` that keeps its first path. -/
theorem modRcv (h : RcvKept π i s t) (hj : j < 32) (hπ : i ≠ j ∨ OfPath π) (f : Receiver → Receiver) (hf : (f (t.rcv j)).path0 = (t.rcv j).path0) :
    RcvKept π i s (t.modRcv j f) := h.setRcv hj (hπ.imp id fun hp => hp _ _ hf)

theorem setPair (h : RcvKept π i s t) {a : Nat} (n : Nat) (ha : a + 4 < 0x121000) : RcvKept π i s (t.setPair a n) :=
  h.trans ⟨rfl, rfl, fun _ _ => ((DetsKept.refl t).setPair n ha).logOnly _⟩

theorem raiseSec (h : RcvKept π i s t) (d k n : Nat) (hd : d < 512) (hs : s.logOnly d = true) : RcvKept π i s (t.raiseSec d k n) :=
  h.fault (raiseSec_faultSide _ _ _ _ ((h.dets d hd).trans hs))

theorem raise (h : RcvKept π i s t) (d k n : Nat) (hd : d < 512) (hs : s.logOnly d = true) : RcvKept π i s (t.raise d k n) :=
  h.fault (raise_faultSide _ _ _ _ ((h.dets d hd).trans hs))

theorem raiseOnce (h : RcvKept π i s t) (d k n : Nat) (hd : d < 512) (hs : s.logOnly d = true) : RcvKept π i s (t.raiseOnce d k n) :=
  h.fault (raiseOnce_faultSide _ _ _ _ ((h.dets d hd).trans hs))

theorem condClear (h : RcvKept π i s t) (d k : Nat) : RcvKept π i s (t.condClear d k) := h.fault (condClear_faultSide ..)

theorem formatReject (h : RcvKept π i s t) (hj : j < 32) (hπ : i ≠ j ∨ OfPath π) (h48 : s.logOnly 48 = true) (m : Nat) :
    RcvKept π i s (t.formatReject j m) :=
  ((h.modRcv hj hπ _ rfl).bump (by simp only [Reg.ING_SRC_REJECT]; omega)).raiseSec 48 j 0 (by decide) h48

theorem timingReject (h : RcvKept π i s t) (hj : j < 32) (hπ : i ≠ j ∨ OfPath π) (h51 : s.logOnly 51 = true) (m : Nat) :
    RcvKept π i s (t.timingReject j m) := by
  have hbump := h.bump (a := Reg.ING_SRC_REJECT j) (by simp only [Reg.ING_SRC_REJECT]; omega)
  unfold State.timingReject
  exact .ite ((hbump.modRcv hj hπ _ rfl).raise 51 j _ (by decide) h51) (hbump.modRcv hj hπ _ rfl)

theorem lateFrame (h : RcvKept π i s t) (hj : j < 32) (hπ : i ≠ j ∨ OfPath π) (m : Nat) : RcvKept π i s (t.lateFrame j m) := by
  have hmod := h.modRcv hj hπ (fun r => addDiscard (dropMedia r m) m) rfl
  unfold State.lateFrame
  exact .ite hmod ((hmod.bump (by simp only [Reg.ING_SRC_LATE]; omega)).setPair _ (by simp only [Reg.ING_SRC_LATE_AT]; omega))

theorem lateMark (h : RcvKept π i s t) (hj : j < 32) (hπ : i ≠ j ∨ OfPath π) (h53 : s.logOnly 53 = true) (m : Nat) :
    RcvKept π i s (t.lateMark j m) := by
  unfold State.lateMark
  split
  · next n _ _ =>
    have hmod := h.modRcv hj hπ (fun r => { r with lateHist := r.lateHist.set (n - t.firstDue m) true }) rfl
    unfold State.judgeLate
    exact .ite (hmod.raiseOnce 53 j _ (by decide) h53) (.ite (hmod.condClear 53 j) hmod)
  · exact h

/-- A frame begun keeps its receiver's first path, when the configuration that it takes has that path on. -/
theorem beginFrame (h : RcvKept π i s t) (hj : j < 32) (hπ : i ≠ j ∨ OfPath π)
    (hnext : i ≠ j ∨ ((t.rcv j).takeNext t.clk).path0 = (t.rcv j).path0) (h51 : s.logOnly 51 = true) (h52 : s.logOnly 52 = true)
    (h53 : s.logOnly 53 = true) (m : Nat) : RcvKept π i s (t.beginFrame j m).1 := by
  have hset (r : Receiver) (hr : r.path0 = ((t.rcv j).takeNext t.clk).path0) : RcvKept π i s (t.setRcv j r) :=
    h.setRcv hj (by
      rcases hπ with hij | hp
      · exact .inl hij
      · rcases hnext with hij | hn
        · exact .inl hij
        · exact .inr (hp _ _ (hr.trans hn)))
  rw [State.beginFrame]
  dsimp only
  generalize (t.rcv j).takeNext t.clk = r at hset
  split
  · dsimp only
    exact h.timingReject hj hπ h51 m
  · split
    · dsimp only
      exact (h.lateFrame hj hπ m).lateMark hj hπ h53 m
    · split
      · dsimp only
        exact ((hset (addDiscard r m) rfl).bump (by simp only [Reg.ING_SRC_OVERRUN]; omega)).raiseSec 52 j 0 (by decide) h52
      · next k _ =>
        dsimp only
        generalize r.bufs.mapIdx _ = bufs
        exact hset { r with bufs := bufs, timingRejects := 0 } rfl

theorem frameWhole (h : RcvKept π i s t) (hj : j < 32) (hπ : i ≠ j ∨ OfPath π) (m : Nat) (b : FrameBuf) : RcvKept π i s (t.frameWhole j m b) := by
  rw [State.frameWhole]
  generalize hv : ((t.modRcv j _).setPair (Reg.ING_SRC_LAST_MT j) (toLedger m)).bump (Reg.ING_SRC_FRAMES j) = v
  have hwhole : RcvKept π i s v := hv ▸ ((h.modRcv hj hπ _ rfl).setPair _ (by simp only [Reg.ING_SRC_LAST_MT]; omega)).bump (by simp only [Reg.ING_SRC_FRAMES]; omega)
  have h50 := hwhole.condClear 50 j
  have h49 : RcvKept π i s (if (v.rcv j).path0.up = true then (v.condClear 50 j).condClear 49 (2 * j) else v.condClear 50 j) :=
    .ite (h50.condClear 49 (2 * j)) h50
  exact .ite (h49.condClear 49 (2 * j + 1)) h49

end RcvKept

/-- Pixels staged change Hold alone. -/
theorem State.stagePixels_hold_only (s : State) (b : FrameBuf) (at_ : List Nat) : ∃ m : Tab Byte, s.stagePixels b at_ = { s with hold := m } := by
  rw [State.stagePixels]
  refine List.foldlRecOn (motive := fun u => ∃ m : Tab Byte, u = { s with hold := m }) _ _ ⟨s.hold, rfl⟩ ?_
  rintro u ⟨m, rfl⟩ p -
  split
  · exact ⟨_, rfl⟩
  · exact ⟨m, rfl⟩

theorem State.stagePixels_rcvKept (h : RcvKept π i s t) (b : FrameBuf) (at_ : List Nat) : RcvKept π i s (t.stagePixels b at_) := by
  obtain ⟨m, hm⟩ := t.stagePixels_hold_only b at_
  exact hm ▸ h.trans ⟨rfl, rfl, fun _ _ => rfl⟩

theorem RcvKept.writePixels (h : RcvKept π i s t) (hj : j < 32) (hπ : i ≠ j ∨ OfPath π) (m : Nat) (px : List (Nat × List Nat)) :
    RcvKept π i s (t.writePixels j m px) := by
  rw [State.writePixels]
  split
  · next b _ =>
    split
    · exact h
    · have hstage := State.stagePixels_rcvKept (h.modRcv hj hπ (fun r => { r with bufs := r.bufs.map fun x =>
        if x.addr = b.addr && x.held then { b with samples := px.foldl (fun t e => tabSet t e.1 e.2) b.samples } else x }) rfl)
        { b with samples := px.foldl (fun t e => tabSet t e.1 e.2) b.samples } (px.map (·.1))
      exact .ite (hstage.frameWhole hj hπ m _) hstage
  · exact h

/-- A STREAM packet noted at its receiver. -/
def State.streamSeen (s : State) (j : Nat) : State :=
  s.setRcv j { s.rcv j with path0 := { (s.rcv j).path0 with lastSeen := s.clk, up := true } }

/-- What follows the note of a STREAM packet keeps the first path of every receiver that no other path concerns. -/
theorem State.streamPacket_kept {p : StreamPacket} (hj : j < 32) (hπ : i ≠ j ∨ OfPath π)
    (hnext : bufOf (s.rcv j) (ofLedger p.media) = none → i ≠ j ∨ (((s.streamSeen j).rcv j).takeNext (s.streamSeen j).clk).path0 = ((s.streamSeen j).rcv j).path0)
    (h48 : s.logOnly 48 = true) (h51 : s.logOnly 51 = true) (h52 : s.logOnly 52 = true) (h53 : s.logOnly 53 = true) :
    RcvKept π i (s.streamSeen j) (s.streamPacket j p) := by
  have hdets := (s.setRcv_sides hj { s.rcv j with path0 := { (s.rcv j).path0 with lastSeen := s.clk, up := true } }).2
  rw [State.streamPacket]
  dsimp only
  rw [show s.setRcv j { s.rcv j with path0 := { (s.rcv j).path0 with lastSeen := s.clk, up := true } } = s.streamSeen j from rfl] at hdets ⊢
  generalize s.streamSeen j = v at *
  have hrefl : RcvKept π i v v := .refl v
  have hlog (d : Nat) (hd : s.logOnly d = true) : v.logOnly d = true := (hdets d).trans hd
  refine .ite (hrefl.bump (by simp only [Reg.ING_SRC_DUP]; omega)) (.ite (hrefl.formatReject hj hπ (hlog 48 h48) _) ?_)
  cases hbuf : bufOf (s.rcv j) (ofLedger p.media) with
  | some b =>
    simp only [Option.isSome_some, if_true]
    exact hrefl.writePixels hj hπ _ _
  | none =>
    have hbegin := hrefl.beginFrame hj hπ (hnext hbuf) (hlog 51 h51) (hlog 52 h52) (hlog 53 h53) (ofLedger p.media)
    simp only [Option.isSome_none, Bool.false_eq_true, if_false]
    generalize v.beginFrame j (ofLedger p.media) = q at hbegin ⊢
    obtain ⟨w, ok⟩ := q
    exact .ite (hbegin.writePixels hj hπ _ _) hbegin

theorem ofPath_path0 : OfPath (·.path0) := fun _ _ h => h

/-- A modify taken keeps the first path that it keeps on, heard of at the present clock. -/
theorem Receiver.takeNext_path0 {r : Receiver} {clk : Nat} (hclk : r.path0.lastSeen = clk) (hon : ∀ c, r.next = some c → pathOn c 0 = true) :
    (r.takeNext clk).path0 = r.path0 := by
  unfold Receiver.takeNext
  cases hn : r.next with
  | none => rfl
  | some c =>
    have hpath : (if (pathOn c 0 && !pathOn r.cfg 0) = true then { r.path0 with lastSeen := clk } else
        if pathOn c 0 = true then r.path0 else { r.path0 with up := false }) = r.path0 := by
      rw [hon c hn, ← hclk]
      simp
    dsimp only
    split <;> exact hpath

/-- A STREAM packet leaves its receiver's first path up, heard of at the present clock. -/
theorem State.streamPacket_up {p : StreamPacket} (hj : j < 32) (htype : cfgType ((s.rcv j).cfgFor (ofLedger p.media)) = 1)
    (h48 : s.logOnly 48 = true) (h51 : s.logOnly 51 = true) (h52 : s.logOnly 52 = true) (h53 : s.logOnly 53 = true) :
    ((s.streamPacket j p).rcv j).path0.up = true ∧ ((s.streamPacket j p).rcv j).path0.lastSeen = s.clk
      ∧ ∀ d < 512, (s.streamPacket j p).logOnly d = s.logOnly d := by
  have hseen : (s.streamSeen j).rcv j = { s.rcv j with path0 := { (s.rcv j).path0 with lastSeen := s.clk, up := true } } := s.rcv_setRcv j _
  obtain ⟨hclk, hdets⟩ : (s.streamSeen j).clk = s.clk ∧ ∀ d, (s.streamSeen j).logOnly d = s.logOnly d := s.setRcv_sides hj _
  have hnext : bufOf (s.rcv j) (ofLedger p.media) = none →
      j ≠ j ∨ (((s.streamSeen j).rcv j).takeNext (s.streamSeen j).clk).path0 = ((s.streamSeen j).rcv j).path0 := by
    intro hbuf
    rw [hseen, hclk]
    refine .inr (Receiver.takeNext_path0 rfl fun c hc => ?_)
    have hcfg : (s.rcv j).cfgFor (ofLedger p.media) = c := by
      rw [Receiver.cfgFor, hbuf, Receiver.newCfg, show (s.rcv j).next = some c from hc]
      rfl
    rw [pathOn, if_pos (hcfg ▸ htype)]
    rfl
  have hkept := (State.streamPacket_kept (π := fun r : Receiver => r.path0) hj (.inr ofPath_path0) hnext h48 h51 h52 h53)
  rw [hkept.rcv, hseen]
  exact ⟨rfl, rfl, fun d hd => (hkept.dets d hd).trans (hdets d)⟩

/-- It leaves every other receiver. -/
theorem State.streamPacket_other {p : StreamPacket} (hj : j < 32) (hij : i ≠ j) (hlogs : ∀ d ∈ [48, 51, 52, 53], s.logOnly d = true) :
    RcvKept id i s (s.streamPacket j p) :=
  ((RcvKept.refl s).setRcv hj (.inl hij)).trans (State.streamPacket_kept hj (.inl hij) (fun _ => .inl hij) (hlogs 48 (by decide)) (hlogs 51 (by decide))
    (hlogs 52 (by decide)) (hlogs 53 (by decide)))

/-- The others leave a receiver that they do not concern. -/
theorem State.takers_other {p : StreamPacket} (js : List Nat) (hjs : ∀ j ∈ js, j < 32) (hi : i ∉ js) (s : State)
    (hlogs : ∀ d ∈ [48, 51, 52, 53], s.logOnly d = true) : RcvKept id i s (js.foldl (fun s j => s.streamPacket j p) s) := by
  refine List.foldlRecOn (motive := RcvKept id i s) js _ (.refl s) fun u hu j hj => hu.trans (State.streamPacket_other (hjs j hj) ?_ ?_)
  · rintro rfl
    exact hi hj
  · refine fun d hd => (hu.dets d ?_).trans (hlogs d hd)
    simp only [List.mem_cons, List.not_mem_nil, or_false] at hd
    omega

/-- The receivers that take a packet each hear of it. -/
theorem State.takers_up {p : StreamPacket} (js : List Nat) (hjs : ∀ j ∈ js, j < 32) (hmem : i ∈ js) (hnd : js.Nodup) (s : State)
    (htype : cfgType ((s.rcv i).cfgFor (ofLedger p.media)) = 1) (hlogs : ∀ d ∈ [48, 51, 52, 53], s.logOnly d = true) :
    ((js.foldl (fun s j => s.streamPacket j p) s).rcv i).path0.up = true
      ∧ ((js.foldl (fun s j => s.streamPacket j p) s).rcv i).path0.lastSeen = s.clk := by
  obtain ⟨l, r, rfl⟩ := List.append_of_mem hmem
  have hl : i ∉ l := fun h => List.disjoint_of_nodup_append hnd h List.mem_cons_self
  have hr : i ∉ r := (List.nodup_cons.1 hnd.of_append_right).1
  have hleft := State.takers_other (p := p) l (fun j hj => hjs j (by simp [hj])) hl s hlogs
  rw [List.foldl_append, List.foldl_cons]
  generalize l.foldl (fun s j => s.streamPacket j p) s = v at hleft ⊢
  have hv (d : Nat) (hd : d ∈ [48, 51, 52, 53]) : v.logOnly d = true := by
    refine (hleft.dets d ?_).trans (hlogs d hd)
    simp only [List.mem_cons, List.not_mem_nil, or_false] at hd
    omega
  have hrcv : v.rcv i = s.rcv i := hleft.rcv
  have hup := State.streamPacket_up (s := v) (p := p) (hjs i hmem) (by rw [hrcv]; exact htype) (hv 48 (by decide)) (hv 51 (by decide)) (hv 52 (by decide))
    (hv 53 (by decide))
  obtain ⟨h1, h2, h3⟩ := hup
  have hright := State.takers_other (p := p) r (fun j hj => hjs j (by simp [hj])) hr (v.streamPacket i p) fun d hd => by
    refine (h3 d ?_).trans (hv d hd)
    simp only [List.mem_cons, List.not_mem_nil, or_false] at hd
    omega
  have hrcv' : (r.foldl (fun s j => s.streamPacket j p) (v.streamPacket i p)).rcv i = (v.streamPacket i p).rcv i := hright.rcv
  rw [hrcv']
  exact ⟨h1, h2.trans hleft.clk⟩

/-! #### Packets of ST 2110-20 -/

/-- The registers that a receiver settles. -/
def rcvReg (i a : Nat) : Prop := 0x60404 + 256 * i ≤ a ∧ a < 0x6043c + 256 * i

theorem State.rcvSettle_rcvReg (s : State) (i : Nat) : RegSide (rcvReg i) s (s.rcvSettle i) := by
  unfold State.rcvSettle
  dsimp only
  refine ((((RegSide.refl _ s).wrWords _ fun k hk => ?_).wn _ ?_).wn _ ?_).wn _ ?_
  · simp only [List.length_cons, List.length_nil] at hk
    simp only [Reg.ING_SRC_CFG, rcvReg]
    omega
  · simp only [Reg.ING_SRC_BUF_BASE, rcvReg]; omega
  · simp only [Reg.ING_SRC_BUF_SIZE, rcvReg]; omega
  · simp only [Reg.ING_SRC_STATE, rcvReg]; omega

theorem State.setRcv_rd (s : State) (i : Nat) (r : Receiver) {a : Nat} (ha : ¬ rcvReg i a) : (s.setRcv i r).rd a = s.rd a :=
  (State.rcvSettle_rcvReg { s with pipe := { s.pipe with receivers := tabSet s.pipe.receivers i r } } i).rd ha

/-- A packet seen on a path changes that path, the receiver's registers and the path's count of lost packets. -/
theorem State.pathSeen_spec (s : State) (i p seq : Nat) : ((s.pathSeen i p seq).rcv i).bufs = (s.rcv i).bufs
    ∧ ((s.pathSeen i p seq).rcv i).discard = (s.rcv i).discard ∧ (s.pathSeen i p seq).hold = s.hold
    ∧ ∀ a, ¬ rcvReg i a → (a < 0x6046c + 256 * i ∨ 0x6047c + 256 * i ≤ a) → (s.pathSeen i p seq).rd a = s.rd a := by
  have hset (r : Receiver) (hb : r.bufs = (s.rcv i).bufs) (hd : r.discard = (s.rcv i).discard) : ((s.setRcv i r).rcv i).bufs = (s.rcv i).bufs
      ∧ ((s.setRcv i r).rcv i).discard = (s.rcv i).discard ∧ (s.setRcv i r).hold = s.hold ∧ ∀ a, ¬ rcvReg i a → (s.setRcv i r).rd a = s.rd a := by
    rw [State.rcv_setRcv]
    exact ⟨hb, hd, (s.setRcv_keeps i r).1, fun a ha => s.setRcv_rd i r ha⟩
  unfold State.pathSeen
  extract_lets r x gap newest y v
  have hv := hset (if p = 0 then { r with path0 := y } else { r with path1 := y }) (by split <;> rfl) (by split <;> rfl)
  obtain ⟨h1, h2, h3, h4⟩ : (v.rcv i).bufs = (s.rcv i).bufs ∧ (v.rcv i).discard = (s.rcv i).discard ∧ v.hold = s.hold
    ∧ ∀ a, ¬ rcvReg i a → v.rd a = s.rd a := hv
  clear_value v
  split
  · exact ⟨h1, h2, h3, fun a ha _ => h4 a ha⟩
  · refine ⟨h1, h2, h3, fun a ha hout => (v.rd_bumpBy_ne gap ?_ ?_).trans (h4 a ha)⟩
    · split <;> simp only [Reg.ING_SRC_P0_LOST, Reg.ING_SRC_P1_LOST] <;> omega
    · split <;> simp only [Reg.ING_SRC_P0_LOST, Reg.ING_SRC_P1_LOST] <;> omega

/-- A packet of a media time under way or to come, taken by a receiver of one path. -/
theorem State.rtpPacket_taken {p m : Nat} {k : RtpPacket} {c : SrcCfg} (hberth : (s.rcv i).berth.isSome = true) (hm : m = mediaOf s.ns k.rtp)
    (hc : (s.rcv i).cfgFor m = c) (htype : cfgType c = 0) (hon : pathOn c p = true) (hpt : bits (if p = 0 then c.p0Port else c.p1Port) 25 19 = 0)
    (hoct : rtpOctets k ≤ 9000) (hreset : s.inReset (.receiver i) = false) (hdual : bit c.cfg 15 = false)
    (hdis : (s.rcv i).discard.contains m = false) :
    s.rtpPacket i p k = if k.srds.all (srdOk c) = false ∨ 3 < k.srds.length then (s.pathSeen i p k.seq).formatReject i m else
      let (v, ok) := if (bufOf ((s.pathSeen i p k.seq).rcv i) m).isSome then (s.pathSeen i p k.seq, true) else (s.pathSeen i p k.seq).beginFrame i m
      if ok then v.writePixels i m (srdPixels c k.srds k.payload) else v := by
  have hseen := (s.pathSeen_spec i p k.seq).2.1
  have hgo : ¬ ((s.rcv i).berth.isNone = true ∨ cfgType c ≠ 0 ∨ pathOn c p = false
      ∨ (bits (if p = 0 then c.p0Port else c.p1Port) 25 19 ≠ 0 ∧ bits (if p = 0 then c.p0Port else c.p1Port) 25 19 ≠ k.payloadType)
      ∨ 9000 < rtpOctets k ∨ s.inReset (.receiver i) = true) := by
    rw [htype, hon, hpt, hreset]
    simp only [Option.isNone_iff_eq_none]
    rintro (h | h | h | h | h | h)
    · rw [h] at hberth; cases hberth
    · exact h rfl
    · cases h
    · exact h.1 rfl
    · omega
    · cases h
  rw [State.rtpPacket]
  dsimp only
  rw [← hm, hc, if_neg hgo, hdual]
  simp only [Bool.false_and, Bool.false_eq_true, if_false]
  rw [if_neg (by rw [hseen, hdis]; decide)]

/-- A pixel whose samples have come, put in staging. -/
def State.stageOne (b : FrameBuf) (s : State) (p : Nat) : State :=
  match pixelStage b.cfg (s.fld Reg.ING_CANVAS_PRIM 1 0) b.samples (p / cfgW b.cfg) (p % cfgW b.cfg) with
  | some bs => s.writeHold (b.addr + p * stageB (cfgFmt b.cfg)) bs
  | none => s

theorem State.stageOne_congr (b : FrameBuf) (p : Nat) (hhold : t.hold = s.hold) (hprim : t.rd Reg.ING_CANVAS_PRIM = s.rd Reg.ING_CANVAS_PRIM) :
    (t.stageOne b p).hold = (s.stageOne b p).hold ∧ (t.stageOne b p).rd Reg.ING_CANVAS_PRIM = (s.stageOne b p).rd Reg.ING_CANVAS_PRIM := by
  have hfld : t.fld Reg.ING_CANVAS_PRIM 1 0 = s.fld Reg.ING_CANVAS_PRIM 1 0 := congrArg (fun w : Word => bits w.toNat 1 0) hprim
  unfold State.stageOne
  rw [hfld]
  split
  · exact ⟨by rw [State.writeHold, hhold]; rfl, hprim⟩
  · exact ⟨hhold, hprim⟩

/-- The pixels staged in Hold are those of the buffer alone. -/
theorem State.stagePixels_congr (b : FrameBuf) (at_ : List Nat) (hhold : t.hold = s.hold) (hprim : t.rd Reg.ING_CANVAS_PRIM = s.rd Reg.ING_CANVAS_PRIM) :
    (t.stagePixels b at_).hold = (s.stagePixels b at_).hold := by
  have hfold (l : List Nat) : ∀ s t : State, t.hold = s.hold → t.rd Reg.ING_CANVAS_PRIM = s.rd Reg.ING_CANVAS_PRIM →
      (l.foldl (State.stageOne b) t).hold = (l.foldl (State.stageOne b) s).hold := by
    induction l with
    | nil => exact fun _ _ h _ => h
    | cons p l ih =>
      intro s t h k
      obtain ⟨h', k'⟩ := State.stageOne_congr b p h k
      exact ih _ _ h' k'
  exact hfold _ s t hhold hprim

theorem bufOf_held {r : Receiver} {m : Nat} {b : FrameBuf} (h : bufOf r m = some b) : b.held = true ∧ b.media = m := by
  simpa [bufOf] using List.find?_some h

/-- The buffer of a media time whose samples change stays the buffer of that time. -/
theorem bufOf_map {r : Receiver} {m : Nat} {b b' : FrameBuf} (h : bufOf r m = some b) (hheld : b'.held = true) (hmedia : b'.media = m) :
    bufOf { r with bufs := r.bufs.map fun x => if x.addr = b.addr && x.held then b' else x } m = some b' := by
  have hb := bufOf_held h
  unfold bufOf at h ⊢
  dsimp only
  generalize r.bufs = xs at h
  induction xs with
  | nil => cases h
  | cons x xs ih =>
    rw [List.map_cons]
    by_cases hx : (decide (x.addr = b.addr) && x.held) = true
    · rw [if_pos hx, List.find?_cons_of_pos (by simp [hheld, hmedia])]
    · rw [if_neg hx]
      by_cases hp : (x.held && x.media == m) = true
      · rw [List.find?_cons_of_pos (p := fun b : FrameBuf => b.held && b.media == m) hp] at h
        cases h
        exact absurd (by simp [hb.1]) hx
      · rw [List.find?_cons_of_neg (p := fun b : FrameBuf => b.held && b.media == m) hp] at h ⊢
        exact ih h

/-- Pixels that do not complete their frame. -/
theorem State.writePixels_more {m : Nat} {b b' : FrameBuf} {px : List (Nat × List Nat)} (hb : bufOf (s.rcv i) m = some b) (hwhole : b.whole = false)
    (hb' : b' = { b with samples := px.foldl (fun t e => tabSet t e.1 e.2) b.samples }) (hmore : b'.samples.length ≠ cfgW b.cfg * cfgH b.cfg) :
    bufOf ((s.writePixels i m px).rcv i) m = some b' ∧ (s.writePixels i m px).hold = (s.stagePixels b' (px.map (·.1))).hold := by
  have hheld := bufOf_held hb
  have hset := s.setRcv_keeps i { s.rcv i with bufs := (s.rcv i).bufs.map fun x => if x.addr = b.addr && x.held then b' else x }
  have hrd : (s.setRcv i { s.rcv i with bufs := (s.rcv i).bufs.map fun x => if x.addr = b.addr && x.held then b' else x }).rd Reg.ING_CANVAS_PRIM
      = s.rd Reg.ING_CANVAS_PRIM := s.setRcv_rd i _ (by simp only [rcvReg, Reg.ING_CANVAS_PRIM]; omega)
  have hrcv := s.rcv_setRcv i { s.rcv i with bufs := (s.rcv i).bufs.map fun x => if x.addr = b.addr && x.held then b' else x }
  have hcfg : b'.cfg = b.cfg := by rw [hb']
  have hheld' : b'.held = true ∧ b'.media = m := by rw [hb']; exact hheld
  have heq : s.writePixels i m px
      = (s.setRcv i { s.rcv i with bufs := (s.rcv i).bufs.map fun x => if x.addr = b.addr && x.held then b' else x }).stagePixels b' (px.map (·.1)) := by
    subst hb'
    rw [State.writePixels, hb]
    dsimp only
    rw [if_neg (by rw [hwhole]; decide)]
    exact if_neg hmore
  rw [heq]
  generalize s.setRcv i { s.rcv i with bufs := (s.rcv i).bufs.map fun x => if x.addr = b.addr && x.held then b' else x } = v at hset hrd hrcv ⊢
  refine ⟨?_, State.stagePixels_congr b' _ hset.1 hrd⟩
  obtain ⟨h, hv⟩ := v.stagePixels_hold_only b' (px.map (·.1))
  rw [hv]
  show bufOf (v.rcv i) m = some b'
  rw [hrcv]
  exact bufOf_map hb hheld'.1 hheld'.2

/-- A format reject is counted and shown. -/
theorem State.formatReject_spec (s : State) (hi : i < 32) (m : Nat) (h48 : s.logOnly 48 = true) :
    (s.formatReject i m).pair (Reg.ING_SRC_REJECT i) = min (s.pair (Reg.ING_SRC_REJECT i) + 1) (2 ^ 64 - 1)
      ∧ ((s.formatReject i m).rcv i).fmtErr = true ∧ (s.formatReject i m).hold = s.hold := by
  have hset := s.setRcv_keeps i { addDiscard (dropMedia (s.rcv i) m) m with fmtErr := true }
  have hrcv := s.rcv_setRcv i { addDiscard (dropMedia (s.rcv i) m) m with fmtErr := true }
  have hlog := (s.setRcv_sides hi { addDiscard (dropMedia (s.rcv i) m) m with fmtErr := true }).2
  have hrd (o : Nat) (ho : o = 0 ∨ o = 4) : (s.setRcv i { addDiscard (dropMedia (s.rcv i) m) m with fmtErr := true }).rd (Reg.ING_SRC_REJECT i + o)
      = s.rd (Reg.ING_SRC_REJECT i + o) := s.setRcv_rd i _ (by simp only [rcvReg, Reg.ING_SRC_REJECT]; omega)
  have heq : s.formatReject i m = ((s.setRcv i { addDiscard (dropMedia (s.rcv i) m) m with fmtErr := true }).bump (Reg.ING_SRC_REJECT i)).raiseSec 48 i := rfl
  rw [heq]
  generalize s.setRcv i { addDiscard (dropMedia (s.rcv i) m) m with fmtErr := true } = v at hset hrcv hlog hrd ⊢
  have hbump := (PipeKept.refl v).bump (a := Reg.ING_SRC_REJECT i) (by simp only [Reg.ING_SRC_REJECT, Reg.SLK_NODE_ID]; omega) (by simp only [Reg.ING_SRC_REJECT]; omega)
  have hpair : (v.bump (Reg.ING_SRC_REJECT i)).pair (Reg.ING_SRC_REJECT i) = min (v.pair (Reg.ING_SRC_REJECT i) + 1) (2 ^ 64 - 1) := State.pair_bumpBy ..
  rw [State.pair_of_both hrd] at hpair
  generalize v.bump (Reg.ING_SRC_REJECT i) = w at hbump hpair ⊢
  have hside := raiseSec_faultSide w 48 i 0 ((hbump.dets 48 (by decide)).trans ((hlog 48).trans h48))
  refine ⟨?_, ?_, hside.hold.trans (hbump.hold.trans hset.1)⟩
  · rw [hside.pair (faultReg_low (by simp only [Reg.ING_SRC_REJECT]; omega)) (faultReg_low (by simp only [Reg.ING_SRC_REJECT]; omega)), hpair]
  · rw [State.rcv, hside.pipe, hbump.pipe]
    exact congrArg Receiver.fmtErr hrcv

/-! #### Silence on a path (R84) -/

/-- The state that a receiver settled shows. -/
theorem State.fld_setRcv_state (s : State) (i : Nat) (r : Receiver) (hst : r.state < 8) : (s.setRcv i r).fld (Reg.ING_SRC_STATE i) 2 0 = r.state := by
  have hrcv : ({ s with pipe := { s.pipe with receivers := tabSet s.pipe.receivers i r } } : State).rcv i = r := tabGetD_tabSet_self ..
  rw [State.setRcv, State.rcvSettle, State.fld]
  dsimp only
  rw [hrcv, State.rn_wn_self, bits]
  generalize r.path0.up.toNat = a
  generalize r.path1.up.toNat = b
  generalize r.fmtErr.toNat = c
  generalize (if cfgType r.cfg ≤ 1 then heldBufs r else min 15 r.count) = d
  simp only [Nat.shiftRight_zero, Nat.pow_zero, Nat.div_one, Nat.sub_zero]
  omega

/-- The first path of a receiver marked down, with the fault of an ST 2110-20 path (R84). -/
def State.downNoted (s : State) (i : Nat) : State :=
  if cfgType (s.rcv i).cfg = 0 then (s.setRcv i ((s.rcv i).pathDown 0)).raiseOnce 49 (2 * i + 0) else s.setRcv i ((s.rcv i).pathDown 0)

theorem State.downNoted_spec (s : State) (hi : i < 32) (h49 : s.logOnly 49 = true) : (s.downNoted i).rcv i = (s.rcv i).pathDown 0
    ∧ (s.downNoted i).hold = s.hold ∧ (s.downNoted i).clk = s.clk ∧ ∀ d < 512, (s.downNoted i).logOnly d = s.logOnly d := by
  have hrcv := s.rcv_setRcv i ((s.rcv i).pathDown 0)
  have hhold := (s.setRcv_keeps i ((s.rcv i).pathDown 0)).1
  obtain ⟨hclk, hdets⟩ := s.setRcv_sides hi ((s.rcv i).pathDown 0)
  unfold State.downNoted
  generalize s.setRcv i ((s.rcv i).pathDown 0) = v at *
  have hside := PipeKept.of_fault (raiseOnce_faultSide v 49 (2 * i + 0) 0 ((hdets 49).trans h49))
  have hkept : PipeKept v (if cfgType (s.rcv i).cfg = 0 then v.raiseOnce 49 (2 * i + 0) else v) := .ite hside (.refl v)
  refine ⟨?_, hkept.hold.trans hhold, hkept.clk.trans hclk, fun d hd => (hkept.dets d hd).trans (hdets d)⟩
  rw [State.rcv, hkept.pipe]
  exact hrcv

theorem State.pathTimeout_first (hberth : (s.rcv i).berth.isSome = true) (htype : cfgType (s.rcv i).cfg ≤ 1) (hon : pathOn (s.rcv i).cfg 0 = true)
    (hquiet : pathQuiet s (s.rcv i) 0 = true) : s.pathTimeout i 0 =
      if [0, 1].all fun q => !pathOn (s.rcv i).cfg q || pathQuiet (s.downNoted i) (s.rcv i) q then
        ((s.downNoted i).modRcv i fun r => { r with state := 3 }).raiseOnce 50 i
      else s.downNoted i := by
  have hgo : ¬ ((s.rcv i).berth.isNone = true ∨ 1 < cfgType (s.rcv i).cfg ∨ pathOn (s.rcv i).cfg 0 = false ∨ pathQuiet s (s.rcv i) 0 = false) := by
    rw [hon, hquiet]
    simp only [Option.isNone_iff_eq_none]
    rintro (h | h | h | h)
    · rw [h] at hberth; cases hberth
    · omega
    · cases h
    · cases h
  rw [State.pathTimeout]
  exact if_neg hgo

/-- A source lost: its state is shown and raised. -/
theorem State.sourceLost_spec (s : State) (hi : i < 32) (h50 : s.logOnly 50 = true) :
    (((s.modRcv i fun r => { r with state := 3 }).raiseOnce 50 i).rcv i).path0 = (s.rcv i).path0
      ∧ (((s.modRcv i fun r => { r with state := 3 }).raiseOnce 50 i).rcv i).state = 3
      ∧ ((s.modRcv i fun r => { r with state := 3 }).raiseOnce 50 i).fld (Reg.ING_SRC_STATE i) 2 0 = 3
      ∧ ((s.modRcv i fun r => { r with state := 3 }).raiseOnce 50 i).hold = s.hold := by
  have hrcv := s.rcv_setRcv i { s.rcv i with state := 3 }
  have hhold := (s.setRcv_keeps i { s.rcv i with state := 3 }).1
  have hdets := (s.setRcv_sides hi { s.rcv i with state := 3 }).2
  have hfld := s.fld_setRcv_state i { s.rcv i with state := 3 } (Nat.lt_of_sub_eq_succ rfl)
  have heq : (s.modRcv i fun r => { r with state := 3 }) = s.setRcv i { s.rcv i with state := 3 } := rfl
  rw [heq]
  generalize s.setRcv i { s.rcv i with state := 3 } = v at *
  have hside := raiseOnce_faultSide v 50 i 0 ((hdets 50).trans h50)
  have hsame : (v.raiseOnce 50 i).rcv i = { s.rcv i with state := 3 } := by
    rw [State.rcv, hside.pipe]
    exact hrcv
  rw [hsame]
  exact ⟨rfl, rfl, (hside.fld 2 0 (faultReg_low (by simp only [Reg.ING_SRC_STATE]; omega))).trans hfld, hside.hold.trans hhold⟩

/-! #### The obligation -/

theorem streamPacket_type (hops : Nat) (q : StreamPacket) (crc : Word) : pkt (withCheck (Machine.streamPacket hops q) crc) 0 1 = 0x20 :=
  withCheck_type ..

theorem State.takesStream_congr {q : StreamPacket} (hpipe : t.pipe = s.pipe) (hresets : t.flt.resets = s.flt.resets) :
    t.takesStream i q = s.takesStream i q := by
  unfold State.takesStream State.inReset State.rcv
  rw [hpipe, hresets]

/-- A STREAM packet received at a group (R252). -/
def State.streamTaken (s : State) (g hops : Nat) (q : StreamPacket) (crc : Word) : State :=
  let bs := withCheck (Machine.streamPacket hops q) crc
  let lane := ((s.members g).head?).getD 0
  let s := s.forward g bs
  if !packetGood bs then s.crcFail lane
  else if !slkHeaderOk false bs || !fieldsOk bs then s.bump (Reg.SLK_LANE_DROP lane)
  else if q.origin = s.nodeId then s
  else ((List.range 32).filter fun i => s.takesStream i q).foldl (fun s i => s.streamPacket i q) s

theorem exec_streamPacketReceive (dt : Nat) (g : Fin 3) (hops : Nat) (q : StreamPacket) (crc : Word) (s : State) :
    exec (.streamPacketReceive dt g hops q crc) s = act dt s fun u => u.streamTaken g hops q crc := rfl

theorem exec_st2110Packet (dt : Nat) (i : Fin 32) (p : Fin 2) (k : RtpPacket) (s : State) :
    exec (.st2110Packet dt i p k) s = act dt s fun u => u.rtpPacket i p k := rfl

theorem exec_pathTimeout (dt : Nat) (i : Fin 32) (s : State) : exec (.pathTimeout dt i 0) s = act dt s fun u => u.pathTimeout i 0 := rfl

theorem pathQuiet_congr (hclk : t.clk = s.clk) (r : Receiver) (q : Nat) : pathQuiet t r q = pathQuiet s r q := by
  unfold pathQuiet State.elapsed
  rw [hclk]

/-- Settles O29, command by command. -/
theorem sourcePackets : Obligations.SourcePackets := by
  unfold Obligations.SourcePackets
  intro dt m hops i p k g q crc b s hcore hlogs
  have hi := i.isLt
  have hlog (d : Nat) (hd : d ∈ [48, 49, 50, 51, 52, 53, 128, 129, 133, 145]) : (s.advance dt).logOnly d = true := hlogs d hd
  have hforward := (s.advance dt).forward_stream_kept (g := g) g.isLt (streamPacket_type hops q crc) (hlog 133 (by decide)) (hlog 145 (by decide))
  refine ⟨?_, ?_, ?_, ?_, ?_, ?_, ?_⟩
  case refine_1 =>
    intro hnone
    have hbody : (s.advance dt).rtpPacket i p k = s.advance dt := by
      rw [State.rtpPacket]
      exact if_pos (.inl (Option.isNone_iff_eq_none.2 hnone))
    exact completes_eq (exec_st2110Packet dt i p k s) hcore hbody ⟨rfl, fun _ => rfl, fun _ => rfl⟩
  case refine_2 =>
    intro hberth hm hbuf htype hon hpt hoct hreset hdual hdis hwhole hsrd hlen hmore
    have hcfg : ((s.advance dt).rcv i).cfgFor m = b.cfg := by
      rw [Receiver.cfgFor, show bufOf ((s.advance dt).rcv i) m = some b from hbuf]
      rfl
    have htaken := State.rtpPacket_taken (s := s.advance dt) hberth hm hcfg htype hon hpt hoct hreset hdual hdis
    obtain ⟨hbufs, -, hhold, hrd⟩ := (s.advance dt).pathSeen_spec i p k.seq
    generalize (s.advance dt).pathSeen i p k.seq = v at hbufs hhold hrd htaken
    have hvbuf : bufOf (v.rcv i) m = some b := by
      rw [bufOf, hbufs]
      exact hbuf
    rw [if_neg (by rw [hsrd]; rintro (h | h) <;> [cases h; omega]), hvbuf] at htaken
    obtain ⟨h1, h2⟩ := State.writePixels_more (s := v) hvbuf hwhole rfl hmore
    have hstage := State.stagePixels_congr (s := s) (t := v) { b with samples := (srdPixels b.cfg k.srds k.payload).foldl (fun x e => tabSet x e.1 e.2) b.samples }
      ((srdPixels b.cfg k.srds k.payload).map (·.1)) hhold (hrd Reg.ING_CANVAS_PRIM (by simp only [rcvReg, Reg.ING_CANVAS_PRIM]; omega)
        (by simp only [Reg.ING_CANVAS_PRIM]; omega))
    have hbody : (s.advance dt).rtpPacket i p k = v.writePixels i m (srdPixels b.cfg k.srds k.payload) := htaken
    generalize v.writePixels i m (srdPixels b.cfg k.srds k.payload) = u at *
    exact completes_eq (u := u) (exec_st2110Packet dt i p k s) hcore hbody ⟨h1, sameHold_of_hold (h2.trans hstage)⟩
  case refine_3 =>
    intro hberth hm htype hon hpt hoct hreset hdual hdis hlen
    have htaken := State.rtpPacket_taken (s := s.advance dt) hberth hm rfl htype hon hpt hoct hreset hdual hdis
    obtain ⟨-, -, hhold, hrd⟩ := (s.advance dt).pathSeen_spec i p k.seq
    generalize (s.advance dt).pathSeen i p k.seq = v at hhold hrd htaken
    rw [if_pos (.inr hlen)] at htaken
    have h48 : v.logOnly 48 = true := (State.logOnly_congr (hrd _ (by simp only [rcvReg, Reg.FLT_DET_CFG]; omega)
      (by simp only [Reg.FLT_DET_CFG]; omega))).trans (hlog 48 (by decide))
    obtain ⟨h1, h2, h3⟩ := v.formatReject_spec hi m h48
    have hpair : v.pair (Reg.ING_SRC_REJECT i) = s.pair (Reg.ING_SRC_REJECT i) :=
      State.pair_of_both fun o ho => hrd _ (by simp only [rcvReg, Reg.ING_SRC_REJECT]; omega) (by simp only [Reg.ING_SRC_REJECT]; omega)
    rw [hpair] at h1
    generalize v.formatReject i m = u at *
    exact completes_eq (u := u) (exec_st2110Packet dt i p k s) hcore htaken ⟨h1, h2, sameHold_of_hold (h3.trans hhold)⟩
  case refine_4 =>
    intro hberth htype hon hquiet hother
    have hbody := State.pathTimeout_first (s := s.advance dt) hberth htype hon hquiet
    obtain ⟨h1, h2, h3, h4⟩ := (s.advance dt).downNoted_spec hi (hlog 49 (by decide))
    generalize (s.advance dt).downNoted i = v at *
    have hall : ([0, 1].all fun q => !pathOn ((s.advance dt).rcv i).cfg q || pathQuiet v ((s.advance dt).rcv i) q) = true := by
      have hq (n : Nat) := pathQuiet_congr h3 ((s.advance dt).rcv i) n
      have hzero : pathQuiet (s.advance dt) ((s.advance dt).rcv i) 0 = true := hquiet
      have hone : pathOn ((s.advance dt).rcv i).cfg 1 = false ∨ pathQuiet (s.advance dt) ((s.advance dt).rcv i) 1 = true := hother
      simp only [List.all_cons, List.all_nil, hq, hzero, Bool.or_true, Bool.true_and, Bool.and_true]
      rcases hone with h | h
      · rw [h]; rfl
      · rw [h, Bool.or_true]
    rw [if_pos hall] at hbody
    obtain ⟨k1, k2, k3, k4⟩ := v.sourceLost_spec hi ((h4 50 (by decide)).trans (hlog 50 (by decide)))
    generalize (v.modRcv i fun r => { r with state := 3 }).raiseOnce 50 i = u at *
    rw [h1] at k1
    exact completes_eq (u := u) (exec_pathTimeout dt i s) hcore hbody ⟨congrArg SrcPath.up k1, k2, k3, sameHold_of_hold (k4.trans h2)⟩
  case refine_5 =>
    intro hberth htype hon hquiet hon1 hother
    have hbody := State.pathTimeout_first (s := s.advance dt) hberth htype hon hquiet
    obtain ⟨h1, h2, h3, h4⟩ := (s.advance dt).downNoted_spec hi (hlog 49 (by decide))
    generalize (s.advance dt).downNoted i = v at *
    have hall : ¬ ([0, 1].all fun q => !pathOn ((s.advance dt).rcv i).cfg q || pathQuiet v ((s.advance dt).rcv i) q) = true := by
      have hq (n : Nat) := pathQuiet_congr h3 ((s.advance dt).rcv i) n
      have hone : pathQuiet (s.advance dt) ((s.advance dt).rcv i) 1 = false := hother
      have hon' : pathOn ((s.advance dt).rcv i).cfg 1 = true := hon1
      simp [hq, hone, hon']
    rw [if_neg hall] at hbody
    exact completes_eq (u := v) (exec_pathTimeout dt i s) hcore hbody
      ⟨congrArg (fun r : Receiver => r.path0.up) h1, (congrArg Receiver.state h1).trans rfl, sameHold_of_hold h2⟩
  case refine_6 =>
    intro hbad
    have hlane := (s.advance dt).head_members_lt g (d := 0) (by decide)
    generalize hv : (s.advance dt).forward g (withCheck (Machine.streamPacket hops q) crc) = v at hforward
    have hbody : (s.advance dt).streamTaken g hops q crc = v.crcFail (((s.advance dt).members g).head?.getD 0) := by
      rw [State.streamTaken, hv, hbad]
      rfl
    have hfail := State.crcFail_kept (s := v) (v.crcLane_lt hlane) ((hforward.dets 128 (by decide)).trans (hlog 128 (by decide)))
      ((hforward.dets 129 (by decide)).trans (hlog 129 (by decide)))
    generalize v.crcFail (((s.advance dt).members g).head?.getD 0) = u at *
    exact completes_eq (u := u) (exec_streamPacketReceive dt g hops q crc s) hcore hbody
      ⟨hfail.pipe.trans hforward.pipe, sameHold_of_hold (hfail.hold.trans hforward.hold)⟩
  case refine_7 =>
    intro hgood hhead hfields horigin htakes
    have hresets := (s.advance dt).forward_stream_resets (g := g) g.isLt (streamPacket_type hops q crc) (hlog 133 (by decide)) (hlog 145 (by decide))
    generalize hv : (s.advance dt).forward g (withCheck (Machine.streamPacket hops q) crc) = v at hforward hresets
    have hother : q.origin ≠ v.nodeId := fun h => horigin (h.trans hforward.nodeId)
    have hbody : (s.advance dt).streamTaken g hops q crc = ((List.range 32).filter fun i => v.takesStream i q).foldl (fun s i => s.streamPacket i q) v := by
      rw [State.streamTaken, hv, hgood, hhead, hfields]
      exact if_neg hother
    have hvtakes : v.takesStream i q = true := (State.takesStream_congr (s := s) hforward.pipe hresets).trans htakes
    have htype : cfgType ((v.rcv i).cfgFor (ofLedger q.media)) = 1 := by
      simp only [State.takesStream, Bool.and_eq_true, beq_iff_eq] at hvtakes
      exact hvtakes.1.1.1.2
    have hup := State.takers_up (p := q) ((List.range 32).filter fun i => v.takesStream i q) (fun j hj => List.mem_range.1 (List.mem_filter.1 hj).1)
      (List.mem_filter.2 ⟨List.mem_range.2 hi, hvtakes⟩) (List.nodup_range.filter _) v htype fun d hd => by
        have hd' : d < 512 ∧ d ∈ [48, 49, 50, 51, 52, 53, 128, 129, 133, 145] := by
          simp only [List.mem_cons, List.not_mem_nil, or_false] at hd ⊢
          omega
        exact (hforward.dets d hd'.1).trans (hlog d hd'.2)
    generalize ((List.range 32).filter fun i => v.takesStream i q).foldl (fun s i => s.streamPacket i q) v = u at *
    exact completes_eq (u := u) (exec_streamPacketReceive dt g hops q crc s) hcore hbody ⟨hup.1, hup.2.trans hforward.clk⟩

end Sys2Proof.Machine
end

section
/-! ### Power domains (R457 to R467, R481) -/

namespace Sys2Proof.Machine

variable {s t u : State} {p q : Nat → Prop}

/-! #### What changes registers, pins and nonces alone -/

/-- Two states that differ in registers of a set, in what left the pins and in the nonces drawn alone. -/
def WireSide (p : Nat → Prop) (s t : State) : Prop :=
  ∃ regs out fresh, t = { s with regs := regs, out := out, fresh := fresh } ∧ ∀ a, ¬ p a → t.rd a = s.rd a

namespace WireSide

theorem refl (p : Nat → Prop) (s : State) : WireSide p s s := ⟨s.regs, s.out, s.fresh, rfl, fun _ _ => rfl⟩

theorem trans (h : WireSide p s t) (k : WireSide p t u) : WireSide p s u := by
  obtain ⟨r, o, f, rfl, h⟩ := h
  obtain ⟨r', o', f', rfl, k⟩ := k
  exact ⟨r', o', f', rfl, fun a ha => (k a ha).trans (h a ha)⟩

theorem mono (h : WireSide p s t) (hpq : ∀ a, p a → q a) : WireSide q s t := by
  obtain ⟨r, o, f, rfl, h⟩ := h
  exact ⟨r, o, f, rfl, fun a ha => h a fun hp => ha (hpq a hp)⟩

theorem of_regs (h : RegSide p s t) : WireSide p s t := by
  obtain ⟨r, rfl, h⟩ := h
  exact ⟨r, s.out, s.fresh, rfl, h⟩

theorem wn (h : WireSide p s t) {a : Nat} (n : Nat) (ha : p a) : WireSide p s (t.wn a n) := h.trans (.of_regs ((RegSide.refl p t).wn n ha))
theorem wr (h : WireSide p s t) {a : Nat} (w : Word) (ha : p a) : WireSide p s (t.wr a w) := h.trans (.of_regs ((RegSide.refl p t).wr w ha))
theorem setFld (h : WireSide p s t) {a : Nat} (hi lo n : Nat) (ha : p a) : WireSide p s (t.setFld a hi lo n) :=
  h.trans (.of_regs ((RegSide.refl p t).setFld hi lo n ha))
theorem setPair (h : WireSide p s t) {a : Nat} (n : Nat) (ha : p a) (hb : p (a + 4)) : WireSide p s (t.setPair a n) :=
  h.trans (.of_regs ((RegSide.refl p t).setPair n ha hb))
theorem wrWords (h : WireSide p s t) {a : Nat} (ws : List Nat) (ha : ∀ i < ws.length, p (a + 4 * i)) : WireSide p s (t.wrWords a ws) :=
  h.trans (.of_regs ((RegSide.refl p t).wrWords ws ha))

theorem emit (h : WireSide p s t) (o : Output) : WireSide p s (t.emit o) := by
  obtain ⟨r, _, f, rfl, h⟩ := h
  exact ⟨r, _, f, rfl, h⟩

theorem draw (h : WireSide p s t) : WireSide p s t.draw.2 := by
  obtain ⟨r, o, _, rfl, h⟩ := h
  exact ⟨r, o, _, rfl, h⟩

theorem foldl {α : Type} {f : State → α → State} (h : WireSide p s t) (l : List α) (hf : ∀ u, ∀ x ∈ l, WireSide p u (f u x)) :
    WireSide p s (l.foldl f t) :=
  List.foldlRecOn l f h fun u hu x hx => hu.trans (hf u x hx)

theorem ite {c : Prop} [Decidable c] (h : WireSide p s t) (k : WireSide p s u) : WireSide p s (if c then t else u) := by
  split
  · exact h
  · exact k

theorem rd (h : WireSide p s t) {a : Nat} (ha : ¬ p a) : t.rd a = s.rd a := by obtain ⟨_, _, _, _, h⟩ := h; exact h a ha
theorem rn (h : WireSide p s t) {a : Nat} (ha : ¬ p a) : t.rn a = s.rn a := congrArg _ (h.rd ha)
theorem fld (h : WireSide p s t) {a : Nat} (ha : ¬ p a) (hi lo : Nat) : t.fld a hi lo = s.fld a hi lo := congrArg (bits · hi lo) (h.rn ha)
theorem hold (h : WireSide p s t) : t.hold = s.hold := by obtain ⟨_, _, _, rfl, _⟩ := h; rfl
theorem watch (h : WireSide p s t) : t.watch = s.watch := by obtain ⟨_, _, _, rfl, _⟩ := h; rfl
theorem clk (h : WireSide p s t) : t.clk = s.clk := by obtain ⟨_, _, _, rfl, _⟩ := h; rfl
theorem flt (h : WireSide p s t) : t.flt = s.flt := by obtain ⟨_, _, _, rfl, _⟩ := h; rfl
theorem lamp (h : WireSide p s t) : t.lamp = s.lamp := by obtain ⟨_, _, _, rfl, _⟩ := h; rfl
theorem nvm (h : WireSide p s t) : t.nvm = s.nvm := by obtain ⟨_, _, _, rfl, _⟩ := h; rfl
theorem pipe (h : WireSide p s t) : t.pipe = s.pipe := by obtain ⟨_, _, _, rfl, _⟩ := h; rfl
theorem time (h : WireSide p s t) : t.time = s.time := by obtain ⟨_, _, _, rfl, _⟩ := h; rfl

end WireSide

/-! #### The logbook -/

/-- The words of the logbook that a write of `n` words from word `i` on changes, with CHECK. -/
def logWords (i n a : Nat) : Prop := (Reg.KEEP_LOG i ≤ a ∧ a < Reg.KEEP_LOG (i + n)) ∨ a = Reg.KEEP_LOG 63

theorem State.keepWrite_regSide (s : State) (i : Nat) (ws : List Nat) : RegSide (logWords i ws.length) s (s.keepWrite i ws) :=
  ((RegSide.refl _ s).wrWords ws fun k hk => .inl (by simp only [Reg.KEEP_LOG]; omega)).wr _ (.inr rfl)

/-- A word written to the logbook stands in it. -/
theorem State.rn_keepWrite (s : State) {i k : Nat} (ws : List Nat) (hk : k < ws.length) (hlast : i + k ≠ 63) :
    (s.keepWrite i ws).rn (Reg.KEEP_LOG (i + k)) = ws.getD k 0 % 2 ^ 32 := by
  have haddr : Reg.KEEP_LOG (i + k) = Reg.KEEP_LOG i + 4 * k := by simp only [Reg.KEEP_LOG]; omega
  have hne : Reg.KEEP_LOG i + 4 * k ≠ Reg.KEEP_LOG 63 := by simp only [Reg.KEEP_LOG]; omega
  rw [haddr, State.keepWrite, State.keepCheck]
  exact (congrArg BitVec.toNat (State.rd_wr_ne _ _ hne)).trans (s.rn_wrWords ws hk)

/-- A cause of reset or wake is written with the time of the RTC. -/
theorem State.setCause_eq (s : State) (cause wake rule : Nat) :
    ∃ v ws, v = s.setFld (Reg.KEEP_LOG 1) 23 0 (cause + 256 * wake + 65536 * rule) ∧ List.length ws = 2 ∧ s.setCause cause wake rule = v.keepWrite 2 ws :=
  ⟨_, _, rfl, rfl, rfl⟩

theorem State.setCause_regSide (s : State) (cause wake rule : Nat) : RegSide (logWords 1 3) s (s.setCause cause wake rule) := by
  obtain ⟨v, ws, hv, hlen, heq⟩ := s.setCause_eq cause wake rule
  have hset : RegSide (logWords 1 3) s v := hv ▸ (RegSide.refl _ s).setFld _ _ _ (.inl (by simp only [Reg.KEEP_LOG]; omega))
  have hkeep := v.keepWrite_regSide 2 ws
  rw [hlen] at hkeep
  rw [heq]
  refine hset.trans (hkeep.mono fun a ha => ?_)
  rcases ha with ⟨h1, h2⟩ | h
  · exact .inl ⟨Nat.le_trans (by simp only [Reg.KEEP_LOG]; omega) h1, h2⟩
  · exact .inr h

/-- The causes as the logbook holds them. -/
theorem State.setCause_fld (s : State) {cause wake rule : Nat} (hc : cause < 256) (hw : wake < 256) (hr : rule < 256) :
    (s.setCause cause wake rule).fld (Reg.KEEP_LOG 1) 7 0 = cause ∧ (s.setCause cause wake rule).fld (Reg.KEEP_LOG 1) 15 8 = wake
      ∧ (s.setCause cause wake rule).fld (Reg.KEEP_LOG 1) 31 24 = s.fld (Reg.KEEP_LOG 1) 31 24 := by
  obtain ⟨v, ws, hv, -, heq⟩ := s.setCause_eq cause wake rule
  have hlow : v.fld (Reg.KEEP_LOG 1) 23 0 = cause + 256 * wake + 65536 * rule := hv ▸ State.fld_setFld_fits _ (by decide) (by decide) (by omega)
  have hhigh : v.fld (Reg.KEEP_LOG 1) 31 24 = s.fld (Reg.KEEP_LOG 1) 31 24 := hv ▸ State.fld_setFld_beside _ (by decide) (by decide) (by decide)
  have hrn : (v.keepWrite 2 ws).rn (Reg.KEEP_LOG 1) = v.rn (Reg.KEEP_LOG 1) :=
    (State.keepWrite_regSide v 2 ws).rn (by rintro (⟨h, -⟩ | h) <;> simp only [Reg.KEEP_LOG] at h <;> omega)
  rw [heq]
  simp only [State.fld, hrn, bits] at hlow hhigh ⊢
  exact ⟨by omega, by omega, hhigh⟩

/-! #### PWR_EN and wakes -/

/-- The registers that the Watchkeeper's outputs follow in. -/
def watchReg (a : Nat) : Prop := a = Reg.WATCH_RULE_TRUE ∨ a = Reg.WATCH_STAT

theorem State.watchSettle_wireSide (s : State) : WireSide watchReg s s.watchSettle := by
  unfold State.watchSettle
  extract_lets was v w x y
  have hv : WireSide watchReg s v := (WireSide.refl _ s).wn _ (.inl rfl)
  have hw : WireSide watchReg s w := hv.foldl _ fun u k _ => (WireSide.refl _ u).setFld _ _ _ (.inr rfl)
  have hx : WireSide watchReg s x := hw.setFld _ _ _ (.inr rfl)
  have hy : WireSide watchReg s y := hx.foldl _ fun u k _ => .ite (.refl _ u) ((WireSide.refl _ u).emit _)
  clear_value y
  exact .ite hy (hy.emit _)

/-- PWR_EN driven. -/
theorem State.setPwrEn_spec (s : State) (b : Bool) :
    (s.setPwrEn b).watch = { s.watch with pwrEn := b, good := s.watch.good && b, pwrAt := s.clk, retryAt := none } ∧ (s.setPwrEn b).regs = s.regs
      ∧ (s.setPwrEn b).hold = s.hold ∧ (s.setPwrEn b).clk = s.clk := ⟨rfl, rfl, rfl, rfl⟩

theorem watchReg_not_log {i : Nat} (hi : i < 64) : ¬ watchReg (Reg.KEEP_LOG i) := by
  rintro (h | h) <;> simp only [Reg.KEEP_LOG, Reg.WATCH_RULE_TRUE, Reg.WATCH_STAT] at h <;> omega

/-- PWR_EN driven high with the count of attempts cleared. -/
def State.rearmed (s : State) : State := ({ s with watch := { s.watch with attempts := 0, alertPg := false } }).setPwrEn true

theorem State.rearmed_spec (s : State) :
    s.rearmed.watch = { s.watch with attempts := 0, alertPg := false, pwrEn := true, good := s.watch.good && true, pwrAt := s.clk, retryAt := none }
      ∧ s.rearmed.hold = s.hold ∧ ∀ a, s.rearmed.rd a = s.rd a := ⟨rfl, rfl, fun _ => rfl⟩

theorem State.wake_eq (s : State) (cause wake rule : Nat) : s.wake cause wake rule = (s.setCause cause wake rule).rearmed.watchSettle := rfl

theorem RegSide.clk (h : RegSide p s t) : t.clk = s.clk := by obtain ⟨_, rfl, _⟩ := h; rfl

/-- A wake of the device. -/
theorem State.wake_spec (s : State) {cause wake rule : Nat} (hc : cause < 256) (hw : wake < 256) (hr : rule < 256) :
    (s.wake cause wake rule).watch = { s.watch with attempts := 0, alertPg := false, pwrEn := true, pwrAt := s.clk, retryAt := none }
      ∧ (s.wake cause wake rule).fld (Reg.KEEP_LOG 1) 7 0 = cause ∧ (s.wake cause wake rule).fld (Reg.KEEP_LOG 1) 15 8 = wake
      ∧ (s.wake cause wake rule).hold = s.hold ∧ ∀ a, ¬ logWords 1 3 a → ¬ watchReg a → (s.wake cause wake rule).rd a = s.rd a := by
  obtain ⟨h1, h2, -⟩ := s.setCause_fld hc hw hr
  have hside := s.setCause_regSide cause wake rule
  rw [State.wake_eq]
  generalize s.setCause cause wake rule = v at *
  obtain ⟨k1, k2, k3⟩ := v.rearmed_spec
  generalize v.rearmed = w at *
  have hsettle := w.watchSettle_wireSide
  generalize w.watchSettle = x at *
  have hlog : x.rn (Reg.KEEP_LOG 1) = v.rn (Reg.KEEP_LOG 1) := congrArg BitVec.toNat ((hsettle.rd (watchReg_not_log (by decide))).trans (k3 _))
  refine ⟨?_, (congrArg (bits · 7 0) hlog).trans h1, (congrArg (bits · 15 8) hlog).trans h2, hsettle.hold.trans (k2.trans hside.hold), fun a ha hb => ?_⟩
  · rw [hsettle.watch, k1, hside.watch, hside.clk, Bool.and_true]
  · rw [hsettle.rd hb, k3, hside.rd ha]

/-! #### Leaving reset -/

/-- The count of boots and the cause of the reset as the device leaves it. -/
def State.bootCounted (s : State) : State :=
  let boot := (s.rn (Reg.KEEP_LOG 0) + 1) % 2 ^ 32
  let s := s.keepWrite 0 [boot]
  let s := [Reg.WATCH_WAKES, Reg.WATCH_I2C_FAIL, Reg.WATCH_WAKE_DROP].foldl (fun s a => s.setPair a 0) s
  (s.wn Reg.SYS_BOOT_COUNT boot).wn Reg.SYS_RESET_CAUSE (bits (s.rn (Reg.KEEP_LOG 1)) 23 0)

/-- The compute die out of reset. -/
def State.coreRisen (s : State) : State :=
  { s with
    time := { s.time with led := s.rtcNs * ledNs }
    watch := { s.watch with core := true, goodAt := s.clk }
    flt := { s.flt with test := s.flt.test && s.watch.testMode } }

/-- The keys of the venue and the vendor as the device shows them, a nonce drawn. -/
def State.keysShown (s : State) : State := (s.draw.2.setPair Reg.SVC_NONCE (s.draw.1 % 2 ^ 64)).keySettle

/-- The time of the boot and the twin's epoch, the identity of the device, and its spares. -/
def State.epochShown (s : State) : State := (s.setPair Reg.SYS_BOOT_AT s.now64).wn Reg.TWIN_EPOCH (s.rn (Reg.KEEP_LOG 6))
def State.uidShown (s : State) : State := s.wrWords (Reg.SYS_UID 0) ((List.range 4).map fun i => leNat ((s.nvm.otp.uid.drop (4 * i)).take 4))
def State.identityShown (s : State) : State := s.epochShown.uidShown.wn Reg.RSV_OTP_SPARE s.epochShown.uidShown.nvm.otp.spare

/-- The straps as the device shows them. -/
def State.strapsShown (s : State) : State :=
  let s := (s.setFld Reg.SVC_STAT 10 10 s.flt.test.toNat).setFld Reg.SVC_STAT 12 11 s.watch.bootsel
  s.setFld Reg.SVC_STAT 13 13 s.watch.testMode.toNat

theorem State.leaveReset_eq (s : State) : s.leaveReset = s.bootCounted.coreRisen.identityShown.keysShown.strapsShown := rfl

/-- The registers that the count of boots and its record write. -/
def bootReg (a : Nat) : Prop :=
  logWords 0 1 a ∨ (Reg.WATCH_WAKES ≤ a ∧ a < Reg.WATCH_WAKE_DROP + 8) ∨ a = Reg.SYS_BOOT_COUNT ∨ a = Reg.SYS_RESET_CAUSE

theorem State.bootCounted_spec (s : State) : RegSide bootReg s s.bootCounted ∧ s.bootCounted.rn Reg.SYS_BOOT_COUNT = (s.rn (Reg.KEEP_LOG 0) + 1) % 2 ^ 32
    ∧ s.bootCounted.rn (Reg.KEEP_LOG 0) = (s.rn (Reg.KEEP_LOG 0) + 1) % 2 ^ 32 ∧ s.bootCounted.rn Reg.SYS_RESET_CAUSE = s.fld (Reg.KEEP_LOG 1) 23 0 := by
  have hkeep := s.keepWrite_regSide 0 [(s.rn (Reg.KEEP_LOG 0) + 1) % 2 ^ 32]
  have hzero := s.rn_keepWrite (i := 0) (k := 0) [(s.rn (Reg.KEEP_LOG 0) + 1) % 2 ^ 32] Nat.zero_lt_one (by decide)
  unfold State.bootCounted
  dsimp only
  generalize s.keepWrite 0 [(s.rn (Reg.KEEP_LOG 0) + 1) % 2 ^ 32] = v at hkeep hzero ⊢
  have hw : RegSide (fun a => Reg.WATCH_WAKES ≤ a ∧ a < Reg.WATCH_WAKE_DROP + 8) v
      ([Reg.WATCH_WAKES, Reg.WATCH_I2C_FAIL, Reg.WATCH_WAKE_DROP].foldl (fun s a => s.setPair a 0) v) := by
    refine (((RegSide.refl _ v).setPair 0 ?_ ?_).setPair 0 ?_ ?_).setPair 0 ?_ ?_ <;> decide
  generalize [Reg.WATCH_WAKES, Reg.WATCH_I2C_FAIL, Reg.WATCH_WAKE_DROP].foldl (fun s a => s.setPair a 0) v = w at hw ⊢
  have hw0 : w.rn (Reg.KEEP_LOG 0) = (s.rn (Reg.KEEP_LOG 0) + 1) % 2 ^ 32 := by
    rw [hw.rn (by decide), hzero]
    exact Nat.mod_mod _ _
  have hw1 : w.rn (Reg.KEEP_LOG 1) = s.rn (Reg.KEEP_LOG 1) := by
    rw [hw.rn (by decide), hkeep.rn (by rintro (⟨-, h⟩ | h) <;> simp only [Reg.KEEP_LOG, List.length_cons, List.length_nil] at h <;> omega)]
  refine ⟨?_, ?_, ?_, ?_⟩
  · exact (((hkeep.mono fun a h => .inl h).trans (hw.mono fun a h => .inr (.inl h))).wn _ (.inr (.inr (.inl rfl)))).wn _ (.inr (.inr (.inr rfl)))
  · exact (State.rn_wn_ne _ _ (by decide)).trans ((State.rn_wn_self ..).trans (Nat.mod_mod _ _))
  · exact (State.rn_wn_ne _ _ (by decide)).trans ((State.rn_wn_ne _ _ (by decide)).trans hw0)
  · rw [State.rn_wn_self, hw1]
    exact Nat.mod_eq_of_lt ((bits_lt _ _ _).trans (by decide))

/-- The registers of the identity, the keys and the straps. -/
@[reducible] def idReg (a : Nat) : Prop := keptAtReset a = false ∧ a ≠ Reg.SYS_BOOT_COUNT ∧ a ≠ Reg.SYS_RESET_CAUSE

theorem idReg_words {a : Nat} {ws : List Nat} (n : Nat) (hlen : ws.length = n) (hlo : 0x30 ≤ a ∨ a + 4 * n ≤ 0x20)
    (hhi : a + 4 * n ≤ 0x150000 ∨ 0x170000 ≤ a) : ∀ i < ws.length, idReg (a + 4 * i) := by
  intro i hi
  simp only [idReg, keptAtReset, Reg.SYS_BOOT_COUNT, Reg.SYS_RESET_CAUSE, Bool.and_eq_false_iff, decide_eq_false_iff_not]
  omega

theorem State.epochShown_regSide (s : State) : RegSide idReg s s.epochShown :=
  ((RegSide.refl _ s).setPair _ (by decide) (by decide)).wn _ (by decide)

theorem State.uidShown_regSide (s : State) : RegSide idReg s s.uidShown :=
  (RegSide.refl _ s).wrWords _ (idReg_words 4 (by simp) (by decide) (by decide))

theorem State.identityShown_regSide (s : State) : RegSide idReg s s.identityShown :=
  (s.epochShown_regSide.trans (State.uidShown_regSide _)).wn _ (by decide)

theorem State.keySettle_regSide (s : State) : RegSide idReg s s.keySettle := by
  rw [State.keySettle]
  exact ((((((RegSide.refl _ s).wn _ (by decide)).wn _ (by decide)).wrWords _ (idReg_words 12 (by simp) (by decide) (by decide))).wrWords _
    (idReg_words 12 (by simp) (by decide) (by decide))).setFld _ _ _ (by decide)).setFld _ _ _ (by decide)

theorem State.keysShown_wireSide (s : State) : WireSide idReg s s.keysShown :=
  (((WireSide.refl _ s).draw).setPair _ (by decide) (by decide)).trans (.of_regs (State.keySettle_regSide _))

theorem State.strapsShown_regSide (s : State) : RegSide idReg s s.strapsShown :=
  (((RegSide.refl _ s).setFld _ _ _ (by decide)).setFld _ _ _ (by decide)).setFld _ _ _ (by decide)

theorem State.strapsShown_fld (s : State) (h : s.watch.bootsel < 4) : s.strapsShown.fld Reg.SVC_STAT 12 11 = s.watch.bootsel := by
  rw [State.strapsShown]
  exact (State.fld_setFld_beside _ (by decide) (by decide) (by decide)).trans (State.fld_setFld_fits _ (by decide) (by decide) h)

theorem State.coreRisen_spec (s : State) : s.coreRisen.watch = { s.watch with core := true, goodAt := s.clk } ∧ s.coreRisen.hold = s.hold
    ∧ ∀ a, s.coreRisen.rn a = s.rn a := by
  have hregs : s.coreRisen.regs = s.regs := by rw [State.coreRisen]
  refine ⟨by rw [State.coreRisen], by rw [State.coreRisen], fun a => ?_⟩
  rw [State.rn, State.rd, hregs]
  rfl

/-- The device out of reset: a boot counted, with the cause of the reset. -/
theorem State.leaveReset_spec (s : State) : s.leaveReset.watch = { s.watch with core := true, goodAt := s.clk }
    ∧ s.leaveReset.rn Reg.SYS_BOOT_COUNT = (s.rn (Reg.KEEP_LOG 0) + 1) % 2 ^ 32 ∧ s.leaveReset.rn (Reg.KEEP_LOG 0) = s.leaveReset.rn Reg.SYS_BOOT_COUNT
    ∧ s.leaveReset.rn Reg.SYS_RESET_CAUSE = s.fld (Reg.KEEP_LOG 1) 23 0 ∧ s.leaveReset.hold = s.hold
    ∧ (s.watch.bootsel < 4 → s.leaveReset.fld Reg.SVC_STAT 12 11 = s.watch.bootsel) := by
  obtain ⟨hside, h1, h2, h3⟩ := s.bootCounted_spec
  rw [State.leaveReset_eq]
  generalize s.bootCounted = v at *
  obtain ⟨k1, k2, k3⟩ := v.coreRisen_spec
  generalize v.coreRisen = w at *
  have hid := w.identityShown_regSide
  generalize w.identityShown = x at *
  have hkeys := x.keysShown_wireSide
  generalize x.keysShown = y at *
  have hstraps := y.strapsShown_regSide
  have hfld := y.strapsShown_fld
  generalize y.strapsShown = z at *
  have hwatch : y.watch = { s.watch with core := true, goodAt := s.clk } := by rw [hkeys.watch, hid.watch, k1, hside.watch, hside.clk]
  have hrn (a : Nat) (ha : ¬ idReg a) : z.rn a = v.rn a := by rw [hstraps.rn ha, hkeys.rn ha, hid.rn ha, k3]
  have hcount := hrn Reg.SYS_BOOT_COUNT fun h => h.2.1 rfl
  refine ⟨hstraps.watch.trans hwatch, hcount.trans h1, ?_, (hrn _ fun h => h.2.2 rfl).trans h3, ?_, fun h => ?_⟩
  · rw [hcount, h1, hrn _ fun h => absurd h.1 (by decide), h2]
  · rw [hstraps.hold, hkeys.hold, hid.hold, k2, hside.hold]
  · rw [hfld (by rw [hwatch]; exact h), hwatch]

/-! #### Dies that fall -/

theorem tabGet?_filter {α : Type} (f : Nat → Bool) (l : Tab α) (a : Nat) :
    tabGet? (l.filter fun e => f e.1) a = if f a then tabGet? l a else none := by
  induction l with
  | nil => simp [tabGet?]
  | cons e l ih =>
    obtain ⟨k, v⟩ := e
    by_cases hk : f k = true
    · rw [List.filter_cons_of_pos (by simpa using hk), tabGet?, tabGet?, ih]
      by_cases ha : a = k
      · rw [if_pos ha, if_pos ha, ha, if_pos hk]
      · rw [if_neg ha, if_neg ha]
    · rw [List.filter_cons_of_neg (by simpa using hk), ih, tabGet?]
      by_cases ha : a = k
      · rw [ha, if_neg hk, if_neg hk]
      · rw [if_neg ha]

/-- Registers that a domain keeps, out of those that it loses. -/
theorem State.rd_filter {f : Nat → Bool} (h : t.regs = s.regs.filter fun e => f e.1) (a : Nat) :
    t.rd a = if f a then s.rd a else BitVec.ofNat 32 (regReset a) := by
  rw [State.rd, h, tabGetD, tabGet?_filter]
  split
  · rfl
  · rfl

theorem State.dieReset_spec (s : State) : s.dieReset.watch.core = false ∧ s.dieReset.watch.pwrEn = s.watch.pwrEn ∧ s.dieReset.watch.aon = s.watch.aon
    ∧ s.dieReset.watch.resetN = s.watch.resetN ∧ s.dieReset.hold = s.hold ∧ s.dieReset.flt.log = s.flt.log ∧ s.dieReset.pipe = {} ∧ s.dieReset.berths = {}
    ∧ s.dieReset.cues = {} ∧ ∀ a, keptAtReset a = true → s.dieReset.rd a = s.rd a := by
  have hregs : s.dieReset.regs = s.regs.filter fun e => keptAtReset e.1 := by rw [State.dieReset]
  rw [State.dieReset] at *
  exact ⟨rfl, rfl, rfl, rfl, rfl, rfl, rfl, rfl, rfl, fun a ha => (State.rd_filter hregs a).trans (if_pos ha)⟩

theorem State.coreFalls_spec (s : State) : s.coreFalls.watch.core = false ∧ s.coreFalls.watch.pwrEn = s.watch.pwrEn ∧ s.coreFalls.watch.aon = s.watch.aon
    ∧ s.coreFalls.hold = s.hold ∧ ∀ a, keptAtReset a = true → s.coreFalls.rd a = s.rd a := by
  obtain ⟨h1, h2, h3, -, h5, -, -, -, -, h10⟩ := s.dieReset_spec
  rw [State.coreFalls]
  exact ⟨h1, h2, h3, h5, h10⟩

theorem State.mainOff_spec (s : State) : s.mainOff.watch.core = false ∧ s.mainOff.watch.pwrEn = false ∧ s.mainOff.watch.aon = s.watch.aon
    ∧ ∀ a, keptAtReset a = true → s.mainOff.rd a = s.rd a := by
  obtain ⟨k1, k2, -, -⟩ := s.setPwrEn_spec false
  obtain ⟨h1, h2, h3, -, h5⟩ := (s.setPwrEn false).coreFalls_spec
  rw [k1] at h2 h3
  rw [State.mainOff]
  refine ⟨h1, h2, h3, fun a ha => (h5 a ha).trans ?_⟩
  rw [State.rd, k2]
  rfl

/-- The registers of the always-on island, which its loss returns to their reset values. -/
def islandReg (a : Nat) : Bool := 0x150000 ≤ a && a < 0x160000

theorem State.aonOff_spec (s : State) : s.aonOff.watch.aon = false ∧ s.aonOff.watch.core = (s.watch.core && !s.watch.pwrEn) ∧ s.aonOff.watch.pwrEn = false
    ∧ s.aonOff.watch.rules = [] ∧ (∀ a, islandReg a = true → s.aonOff.rd a = BitVec.ofNat 32 (regReset a))
    ∧ ∀ a, keptAtReset a = true → islandReg a = false → s.aonOff.rd a = s.rd a := by
  have hcore (v : State) (hv : v = if s.watch.pwrEn then s.mainOff else s) : v.watch.core = (s.watch.core && !s.watch.pwrEn) ∧ v.watch.pwrEn = false
      ∧ ∀ a, keptAtReset a = true → v.rd a = s.rd a := by
    obtain ⟨h1, h2, -, h4⟩ := s.mainOff_spec
    rw [hv]
    cases hp : s.watch.pwrEn with
    | false => exact ⟨by simp, hp, fun _ _ => rfl⟩
    | true =>
      rw [if_pos rfl]
      exact ⟨by rw [h1]; simp, h2, h4⟩
  obtain ⟨v, hv⟩ : ∃ v, v = if s.watch.pwrEn then s.mainOff else s := ⟨_, rfl⟩
  obtain ⟨h1, h2, h3⟩ := hcore v hv
  have hregs : s.aonOff.regs = v.regs.filter fun e => !islandReg e.1 := by
    rw [State.aonOff, hv]
    rfl
  have hwatch : s.aonOff.watch = { v.watch with aon := false, alertPg := false, retryAt := none, attempts := 0, vals := [], rules := [], i2cLast := [] } := by
    rw [State.aonOff, hv]
  have hrd := State.rd_filter (f := fun a => !islandReg a) hregs
  rw [hwatch]
  refine ⟨rfl, h1, h2, rfl, fun a ha => ?_, fun a hk hi => ?_⟩
  · rw [hrd, ha]; rfl
  · rw [hrd, hi]
    exact h3 a hk

end Sys2Proof.Machine
end

section
/-! ### What the functions of the model leave as it was: the power domains, stores, berths and ports -/

namespace Sys2Proof.Machine

@[simp] theorem foldl_aon {α : Type} {f : State → α → State} (l : List α) (s : State) (hf : ∀ u x, (f u x).watch.aon = u.watch.aon) :
  (l.foldl f s).watch.aon = s.watch.aon := foldl_keeps (fun u : State => u.watch.aon) hf l s

theorem State.aon_ite {c : Prop} [Decidable c] (a b : State) : (if c then a else b).watch.aon = if c then a.watch.aon else b.watch.aon := apply_ite (fun s : State => s.watch.aon) c a b

@[simp] theorem State.wrWords_aon (s : State) (a : Nat) (ws : List Nat) : (s.wrWords a ws).watch.aon = s.watch.aon := by
  induction ws generalizing s a with
  | nil => rfl
  | cons w ws ih => exact ih ..

@[simp] theorem State.wr_aon (s : State) (a : Nat) (v : Word) : (s.wr a v).watch.aon = s.watch.aon := rfl

theorem FaultSide.aon {s t : State} (h : FaultSide s t) : t.watch.aon = s.watch.aon := by obtain ⟨_, _, _, rfl, _⟩ := h; rfl

@[simp] theorem State.enterTrip_aon (s : State) (t : Trip) : (s.enterTrip t).1.watch.aon = s.watch.aon := (enterTrip_faultSide s t).aon

@[simp] theorem State.lineOut_aon (s : State) (l c n : Nat) (bs : List SlkBlock) : (s.lineOut l c n bs).watch.aon = s.watch.aon := by
  unfold State.lineOut
  split <;> rfl

@[simp] theorem State.send_aon (s : State) (a : String) (b : Nat) (c : List Nat) : (s.send a b c).watch.aon = s.watch.aon := rfl

@[simp] theorem State.keepWrite_aon (s : State) (i : Nat) (ws : List Nat) : (s.keepWrite i ws).watch.aon = s.watch.aon := by
  rw [State.keepWrite, State.keepCheck, State.wr_aon, State.wrWords_aon]

@[simp] theorem State.dieReset_aon (s : State) : s.dieReset.watch.aon = s.watch.aon := rfl

@[simp] theorem State.leaveReset_aon (s : State) : s.leaveReset.watch.aon = s.watch.aon := congrArg (·.aon) s.leaveReset_spec.1

@[simp] theorem State.notify_aon (s : State) (code sev source : Nat) (data : List Nat) : (s.notify code sev source data).watch.aon = s.watch.aon := by
  unfold State.notify
  simp -implicitDefEqProofs

@[simp] theorem State.sendBlocks_aon (s : State) (kind : String) (lane : Nat) (bs : List SlkBlock) : (s.sendBlocks kind lane bs).watch.aon = s.watch.aon := by
  unfold State.sendBlocks
  simp -implicitDefEqProofs

@[simp] theorem State.modLane_aon (s : State) (l : Nat) (f : Lane → Lane) : (s.modLane l f).watch.aon = s.watch.aon := by
  unfold State.modLane
  simp -implicitDefEqProofs

@[simp] theorem State.setLaneBit_aon (s : State) (l i : Nat) (b : Bool) : (s.setLaneBit l i b).watch.aon = s.watch.aon := by
  unfold State.setLaneBit
  simp -implicitDefEqProofs

@[simp] theorem State.condClear_aon (s : State) (d i : Nat) : (s.condClear d i).watch.aon = s.watch.aon := by
  unfold State.condClear
  extract_lets u1 u2
  split
  · rename_i w3 w4 w5
    simp -implicitDefEqProofs [State.aon_ite]
  · simp -implicitDefEqProofs

@[simp] theorem State.loadLatency_aon (s : State) (p l : Nat) : (s.loadLatency p l).watch.aon = s.watch.aon := by
  unfold State.loadLatency
  simp -implicitDefEqProofs

@[simp] theorem State.measureBroken_aon (s : State) (c : Nat) : (s.measureBroken c).watch.aon = s.watch.aon := by
  unfold State.measureBroken
  simp -implicitDefEqProofs [State.aon_ite]

@[simp] theorem State.dropExchanges_aon (s : State) (k : Nat) : (s.dropExchanges k).watch.aon = s.watch.aon := by
  unfold State.dropExchanges
  extract_lets u1
  split
  · rename_i w2 w3 w4
    simp -implicitDefEqProofs [State.aon_ite]
  · simp -implicitDefEqProofs

@[simp] theorem State.groupSettle_aon (s : State) (g : Nat) : (s.groupSettle g).watch.aon = s.watch.aon := by
  unfold State.groupSettle
  extract_lets u1 u2 u3 u4 u5 u6
  have hu6 : u6.watch.aon = s.watch.aon := by
    simp -implicitDefEqProofs [u6]
  clear_value u6
  split
  · rename_i w7 w8 w9
    simp -implicitDefEqProofs [hu6, State.aon_ite]
  · simp -implicitDefEqProofs [hu6]

@[simp] theorem State.setTx_aon (s : State) (l : Nat) (m : LaneTx) : (s.setTx l m).watch.aon = s.watch.aon := by
  unfold State.setTx
  simp -implicitDefEqProofs [State.aon_ite]

@[simp] theorem State.sendMask_aon (s : State) (g l : Nat) : (s.sendMask g l).watch.aon = s.watch.aon := by
  unfold State.sendMask
  simp -implicitDefEqProofs

@[simp] theorem State.groupRemove_aon (s : State) (l : Nat) : (s.groupRemove l).watch.aon = s.watch.aon := by
  unfold State.groupRemove
  extract_lets u1 u2
  have hu2 : u2.watch.aon = s.watch.aon := by
    simp -implicitDefEqProofs [u2]
  clear_value u2
  simp -implicitDefEqProofs [hu2, State.aon_ite]

@[simp] theorem State.laneBack_aon (s : State) (l : Nat) : (s.laneBack l).watch.aon = s.watch.aon := by
  unfold State.laneBack
  simp -implicitDefEqProofs

@[simp] theorem State.setLaneSt_aon (s : State) (l st : Nat) : (s.setLaneSt l st).watch.aon = s.watch.aon := by
  unfold State.setLaneSt
  extract_lets u1 u2 u3 u4 u5 u6 u7 u8 u9 u10 u11 u12 u13 u14 u15
  have hu2 : u2.watch.aon = s.watch.aon := by
    simp -implicitDefEqProofs [u2]
  clear_value u2
  have hu3 : u3.watch.aon = s.watch.aon := by
    simp -implicitDefEqProofs [u3, hu2]
  clear_value u3
  have hu4 : u4.watch.aon = s.watch.aon := by
    simp -implicitDefEqProofs [u4, hu3]
  clear_value u4
  have hu5 : u5.watch.aon = s.watch.aon := by
    simp -implicitDefEqProofs [u5, hu4]
  clear_value u5
  have hu7 : u7.watch.aon = s.watch.aon := by
    simp -implicitDefEqProofs [u7, hu5]
  clear_value u7
  have hu8 : u8.watch.aon = s.watch.aon := by
    simp -implicitDefEqProofs [u8, hu7, State.aon_ite]
  clear_value u8
  have hu9 : u9.watch.aon = s.watch.aon := by
    simp -implicitDefEqProofs [u9, hu5, hu8, State.aon_ite]
  clear_value u9
  have hu10 : u10.watch.aon = s.watch.aon := by
    simp -implicitDefEqProofs [u10, hu9, State.aon_ite]
  clear_value u10
  have hu11 : u11.watch.aon = s.watch.aon := by
    simp -implicitDefEqProofs [u11, hu10, State.aon_ite]
  clear_value u11
  have hu13 : u13.watch.aon = s.watch.aon := by
    simp -implicitDefEqProofs [u13, hu11, State.aon_ite]
  clear_value u13
  have hu14 : u14.watch.aon = s.watch.aon := by
    simp -implicitDefEqProofs [u14, hu13, State.aon_ite]
  clear_value u14
  have hu15 : u15.watch.aon = s.watch.aon := by
    simp -implicitDefEqProofs [u15, hu14]
  clear_value u15
  simp -implicitDefEqProofs [hu10, hu15, State.aon_ite]

@[simp] theorem State.enterHail_aon (s : State) (l : Nat) : (s.enterHail l).watch.aon = s.watch.aon := by
  unfold State.enterHail
  extract_lets u1 u2
  have hu1 : u1.watch.aon = s.watch.aon := by
    simp -implicitDefEqProofs [u1]
  clear_value u1
  have hu2 : u2.watch.aon = s.watch.aon := by
    simp -implicitDefEqProofs [u2, hu1]
  clear_value u2
  simp -implicitDefEqProofs [hu2]

@[simp] theorem State.clearCeiling_aon (s : State) (l : Nat) : (s.clearCeiling l).watch.aon = s.watch.aon := by
  unfold State.clearCeiling
  simp -implicitDefEqProofs

@[simp] theorem State.retrain_aon (s : State) (l : Nat) : (s.retrain l).watch.aon = s.watch.aon := by
  unfold State.retrain
  simp -implicitDefEqProofs

@[simp] theorem State.setEligible_aon (s : State) (b : Bool) : (s.setEligible b).watch.aon = s.watch.aon := by
  unfold State.setEligible
  extract_lets u1 u2
  have hu2 : u2.watch.aon = s.watch.aon := by
    simp -implicitDefEqProofs [u2, State.aon_ite]
  clear_value u2
  simp -implicitDefEqProofs [hu2]

@[simp] theorem State.oredSettle_aon (s : State) : s.oredSettle.watch.aon = s.watch.aon := by
  unfold State.oredSettle
  extract_lets u1
  refine (foldl_aon _ _ fun v2 x2 => ?_).trans ?_
  · extract_lets u3 u4
    have hu4 : u4.watch.aon = v2.watch.aon := by
      simp -implicitDefEqProofs [u4]
    clear_value u4
    split
    · refine (foldl_aon _ _ fun v5 x5 => ?_).trans ?_
      · extract_lets u6 u7 u8 u9
        have hu8 : u8.watch.aon = v5.watch.aon := by
          simp -implicitDefEqProofs [u8]
        clear_value u8
        simp -implicitDefEqProofs [hu8, State.aon_ite]
      · simp -implicitDefEqProofs [hu4]
    · simp -implicitDefEqProofs
  · simp -implicitDefEqProofs

@[simp] theorem State.dmxYield_aon (s : State) : s.dmxYield.watch.aon = s.watch.aon := by
  unfold State.dmxYield
  simp -implicitDefEqProofs [State.aon_ite]

@[simp] theorem State.roleChange_aon (s : State) (rule : Nat) : (s.roleChange rule).watch.aon = s.watch.aon := by
  unfold State.roleChange
  extract_lets u1 u2 u3 u4 u5 u6 u7 u8 u9 u10 u11 u12 u13
  have hu2 : u2.watch.aon = s.watch.aon := by
    simp -implicitDefEqProofs [u2]
  clear_value u2
  have hu3 : u3.watch.aon = s.watch.aon := by
    simp -implicitDefEqProofs [u3, hu2]
  clear_value u3
  have hu5 : u5.watch.aon = s.watch.aon := by
    simp -implicitDefEqProofs [u5, hu3]
  clear_value u5
  have hu7 : u7.watch.aon = s.watch.aon := by
    simp -implicitDefEqProofs [u7, hu3]
  clear_value u7
  have hu8 : u8.watch.aon = s.watch.aon := by
    simp -implicitDefEqProofs [u8, hu7, State.aon_ite]
  clear_value u8
  have hu9 : u9.watch.aon = s.watch.aon := by
    simp -implicitDefEqProofs [u9, hu8]
  clear_value u9
  have hu11 : u11.watch.aon = s.watch.aon := by
    simp -implicitDefEqProofs [u11, hu5, hu8, hu9, State.aon_ite]
  clear_value u11
  have hu12 : u12.watch.aon = s.watch.aon := by
    simp -implicitDefEqProofs [u12, hu11]
  clear_value u12
  have hu13 : u13.watch.aon = s.watch.aon := by
    simp -implicitDefEqProofs [u13, hu12]
  clear_value u13
  simp -implicitDefEqProofs [hu13]

@[simp] theorem State.setCause_aon (s : State) (cause wake rule : Nat) : (s.setCause cause wake rule).watch.aon = s.watch.aon := by
  unfold State.setCause
  extract_lets u1
  have hu1 : u1.watch.aon = s.watch.aon := by
    simp -implicitDefEqProofs [u1]
  clear_value u1
  simp -implicitDefEqProofs [hu1]

@[simp] theorem State.deviceReset_aon (s : State) (cause : Nat) : (s.deviceReset cause).watch.aon = s.watch.aon := by
  unfold State.deviceReset
  simp -implicitDefEqProofs

@[simp] theorem State.blockReset_aon (s : State) (b : Block) (cause : Nat) : (s.blockReset b cause).watch.aon = s.watch.aon := by
  unfold State.blockReset
  simp -implicitDefEqProofs [State.aon_ite]

@[simp] theorem State.standDownD4_aon (s : State) : s.standDownD4.watch.aon = s.watch.aon := by
  unfold State.standDownD4
  extract_lets u1 u2
  have hu1 : u1.watch.aon = s.watch.aon := by
    simp -implicitDefEqProofs [u1]
  clear_value u1
  simp -implicitDefEqProofs [hu1, State.aon_ite]

@[simp] theorem State.react_aon (s : State) (d i r cause : Nat) : (s.react d i r cause).watch.aon = s.watch.aon := by
  unfold State.react
  extract_lets u1
  split
  · split
    · rename_i w2 w3 w4
      simp -implicitDefEqProofs
    · simp -implicitDefEqProofs
  · simp -implicitDefEqProofs [State.aon_ite]
  · simp -implicitDefEqProofs
  · simp -implicitDefEqProofs
  · simp -implicitDefEqProofs
  · simp -implicitDefEqProofs

@[simp] theorem State.act1_aon (s : State) (x : Reaction) : (s.act1 x).watch.aon = s.watch.aon := by
  unfold State.act1
  extract_lets u1
  have hu1 : u1.watch.aon = s.watch.aon := by
    simp -implicitDefEqProofs [u1]
  clear_value u1
  split
  · split
    · rename_i w2 w3 w4 w5
      have hw5 : w3.watch.aon = s.watch.aon := (congrArg (fun p => p.1.watch.aon) w5).symm.trans (by simp -implicitDefEqProofs [hu1])
      simp -implicitDefEqProofs [hw5]
    · rename_i w6 w7 w8
      have hw8 : w7.watch.aon = s.watch.aon := (congrArg (fun p => p.1.watch.aon) w8).symm.trans (by simp -implicitDefEqProofs [hu1])
      simp -implicitDefEqProofs [hw8]
  · simp -implicitDefEqProofs [hu1]

@[simp] theorem State.logTrip_aon (s : State) (t : Trip) : (s.logTrip t).watch.aon = s.watch.aon := by
  unfold State.logTrip
  split
  · rename_i w1 w2 w3 w4
    have hw4 : w2.watch.aon = s.watch.aon := (congrArg (fun p => p.1.watch.aon) w4).symm.trans (by simp -implicitDefEqProofs [])
    simp -implicitDefEqProofs [hw4]
  · rename_i w5 w6 w7
    have hw7 : w6.watch.aon = s.watch.aon := (congrArg (fun p => p.1.watch.aon) w7).symm.trans (by simp -implicitDefEqProofs [])
    simp -implicitDefEqProofs [hw7]

@[simp] theorem State.raise_aon (s : State) (d i : Nat) (info : Nat) : (s.raise d i info).watch.aon = s.watch.aon := by
  unfold State.raise
  simp -implicitDefEqProofs

@[simp] theorem State.changeRole_aon (s : State) (rule : Nat) : (s.changeRole rule).watch.aon = s.watch.aon := by
  unfold State.changeRole
  dsimp only
  split
  · rw [State.raise_aon, State.raise_aon, State.roleChange_aon]
  · rw [State.raise_aon, State.roleChange_aon]

@[simp] theorem foldl_watch {α : Type} {f : State → α → State} (l : List α) (s : State) (hf : ∀ u x, (f u x).watch = u.watch) :
  (l.foldl f s).watch = s.watch := foldl_keeps (fun u : State => u.watch) hf l s

theorem State.watch_ite {c : Prop} [Decidable c] (a b : State) : (if c then a else b).watch = if c then a.watch else b.watch := apply_ite ..

@[simp] theorem State.lineOut_watch (s : State) (l c n : Nat) (bs : List SlkBlock) : (s.lineOut l c n bs).watch = s.watch := by
  unfold State.lineOut
  split <;> rfl

@[simp] theorem State.send_watch (s : State) (a : String) (b : Nat) (c : List Nat) : (s.send a b c).watch = s.watch := rfl

@[simp] theorem State.notify_watch (s : State) (code sev source : Nat) (data : List Nat) : (s.notify code sev source data).watch = s.watch := by
  unfold State.notify
  simp -implicitDefEqProofs

@[simp] theorem State.sendBlocks_watch (s : State) (kind : String) (lane : Nat) (bs : List SlkBlock) : (s.sendBlocks kind lane bs).watch = s.watch := by
  unfold State.sendBlocks
  simp -implicitDefEqProofs

@[simp] theorem State.modLane_watch (s : State) (l : Nat) (f : Lane → Lane) : (s.modLane l f).watch = s.watch := by
  unfold State.modLane
  simp -implicitDefEqProofs

@[simp] theorem State.setLaneBit_watch (s : State) (l i : Nat) (b : Bool) : (s.setLaneBit l i b).watch = s.watch := by
  unfold State.setLaneBit
  simp -implicitDefEqProofs

@[simp] theorem State.condClear_watch (s : State) (d i : Nat) : (s.condClear d i).watch = s.watch := by
  unfold State.condClear
  extract_lets u1 u2
  split
  · rename_i w3 w4 w5
    simp -implicitDefEqProofs [State.watch_ite]
  · simp -implicitDefEqProofs

@[simp] theorem State.loadLatency_watch (s : State) (p l : Nat) : (s.loadLatency p l).watch = s.watch := by
  unfold State.loadLatency
  simp -implicitDefEqProofs

@[simp] theorem State.measureBroken_watch (s : State) (c : Nat) : (s.measureBroken c).watch = s.watch := by
  unfold State.measureBroken
  simp -implicitDefEqProofs [State.watch_ite]

@[simp] theorem State.dropExchanges_watch (s : State) (k : Nat) : (s.dropExchanges k).watch = s.watch := by
  unfold State.dropExchanges
  extract_lets u1
  split
  · rename_i w2 w3 w4
    simp -implicitDefEqProofs [State.watch_ite]
  · simp -implicitDefEqProofs

@[simp] theorem State.groupSettle_watch (s : State) (g : Nat) : (s.groupSettle g).watch = s.watch := by
  unfold State.groupSettle
  extract_lets u1 u2 u3 u4 u5 u6
  have hu6 : u6.watch = s.watch := by
    simp -implicitDefEqProofs [u6]
  clear_value u6
  split
  · rename_i w7 w8 w9
    simp -implicitDefEqProofs [hu6, State.watch_ite]
  · simp -implicitDefEqProofs [hu6]

@[simp] theorem State.setTx_watch (s : State) (l : Nat) (m : LaneTx) : (s.setTx l m).watch = s.watch := by
  unfold State.setTx
  simp -implicitDefEqProofs [State.watch_ite]

@[simp] theorem State.sendMask_watch (s : State) (g l : Nat) : (s.sendMask g l).watch = s.watch := by
  unfold State.sendMask
  simp -implicitDefEqProofs

@[simp] theorem State.groupRemove_watch (s : State) (l : Nat) : (s.groupRemove l).watch = s.watch := by
  unfold State.groupRemove
  extract_lets u1 u2
  have hu2 : u2.watch = s.watch := by
    simp -implicitDefEqProofs [u2]
  clear_value u2
  simp -implicitDefEqProofs [hu2, State.watch_ite]

@[simp] theorem State.laneBack_watch (s : State) (l : Nat) : (s.laneBack l).watch = s.watch := by
  unfold State.laneBack
  simp -implicitDefEqProofs

@[simp] theorem State.setLaneSt_watch (s : State) (l st : Nat) : (s.setLaneSt l st).watch = s.watch := by
  unfold State.setLaneSt
  extract_lets u1 u2 u3 u4 u5 u6 u7 u8 u9 u10 u11 u12 u13 u14 u15
  have hu2 : u2.watch = s.watch := by
    simp -implicitDefEqProofs [u2]
  clear_value u2
  have hu3 : u3.watch = s.watch := by
    simp -implicitDefEqProofs [u3, hu2]
  clear_value u3
  have hu4 : u4.watch = s.watch := by
    simp -implicitDefEqProofs [u4, hu3]
  clear_value u4
  have hu5 : u5.watch = s.watch := by
    simp -implicitDefEqProofs [u5, hu4]
  clear_value u5
  have hu7 : u7.watch = s.watch := by
    simp -implicitDefEqProofs [u7, hu5]
  clear_value u7
  have hu8 : u8.watch = s.watch := by
    simp -implicitDefEqProofs [u8, hu7, State.watch_ite]
  clear_value u8
  have hu9 : u9.watch = s.watch := by
    simp -implicitDefEqProofs [u9, hu5, hu8, State.watch_ite]
  clear_value u9
  have hu10 : u10.watch = s.watch := by
    simp -implicitDefEqProofs [u10, hu9, State.watch_ite]
  clear_value u10
  have hu11 : u11.watch = s.watch := by
    simp -implicitDefEqProofs [u11, hu10, State.watch_ite]
  clear_value u11
  have hu13 : u13.watch = s.watch := by
    simp -implicitDefEqProofs [u13, hu11, State.watch_ite]
  clear_value u13
  have hu14 : u14.watch = s.watch := by
    simp -implicitDefEqProofs [u14, hu13, State.watch_ite]
  clear_value u14
  have hu15 : u15.watch = s.watch := by
    simp -implicitDefEqProofs [u15, hu14]
  clear_value u15
  simp -implicitDefEqProofs [hu10, hu15, State.watch_ite]

@[simp] theorem State.enterHail_watch (s : State) (l : Nat) : (s.enterHail l).watch = s.watch := by
  unfold State.enterHail
  extract_lets u1 u2
  have hu1 : u1.watch = s.watch := by
    simp -implicitDefEqProofs [u1]
  clear_value u1
  have hu2 : u2.watch = s.watch := by
    simp -implicitDefEqProofs [u2, hu1]
  clear_value u2
  simp -implicitDefEqProofs [hu2]

@[simp] theorem State.clearCeiling_watch (s : State) (l : Nat) : (s.clearCeiling l).watch = s.watch := by
  unfold State.clearCeiling
  simp -implicitDefEqProofs

@[simp] theorem State.retrain_watch (s : State) (l : Nat) : (s.retrain l).watch = s.watch := by
  unfold State.retrain
  simp -implicitDefEqProofs

@[simp] theorem State.setEligible_watch (s : State) (b : Bool) : (s.setEligible b).watch = s.watch := by
  unfold State.setEligible
  extract_lets u1 u2
  have hu2 : u2.watch = s.watch := by
    simp -implicitDefEqProofs [u2, State.watch_ite]
  clear_value u2
  simp -implicitDefEqProofs [hu2]

@[simp] theorem State.oredSettle_watch (s : State) : s.oredSettle.watch = s.watch := by
  unfold State.oredSettle
  extract_lets u1
  refine (foldl_watch _ _ fun v2 x2 => ?_).trans ?_
  · extract_lets u3 u4
    have hu4 : u4.watch = v2.watch := by
      simp -implicitDefEqProofs [u4]
    clear_value u4
    split
    · refine (foldl_watch _ _ fun v5 x5 => ?_).trans ?_
      · extract_lets u6 u7 u8 u9
        have hu8 : u8.watch = v5.watch := by
          simp -implicitDefEqProofs [u8]
        clear_value u8
        simp -implicitDefEqProofs [hu8, State.watch_ite]
      · simp -implicitDefEqProofs [hu4]
    · simp -implicitDefEqProofs
  · simp -implicitDefEqProofs

@[simp] theorem State.dmxYield_watch (s : State) : s.dmxYield.watch = s.watch := by
  unfold State.dmxYield
  simp -implicitDefEqProofs [State.watch_ite]

@[simp] theorem State.roleChange_watch (s : State) (rule : Nat) : (s.roleChange rule).watch = s.watch := by
  unfold State.roleChange
  extract_lets u1 u2 u3 u4 u5 u6 u7 u8 u9 u10 u11 u12 u13
  have hu2 : u2.watch = s.watch := by
    simp -implicitDefEqProofs [u2]
  clear_value u2
  have hu3 : u3.watch = s.watch := by
    simp -implicitDefEqProofs [u3, hu2]
  clear_value u3
  have hu5 : u5.watch = s.watch := by
    simp -implicitDefEqProofs [u5, hu3]
  clear_value u5
  have hu7 : u7.watch = s.watch := by
    simp -implicitDefEqProofs [u7, hu3]
  clear_value u7
  have hu8 : u8.watch = s.watch := by
    simp -implicitDefEqProofs [u8, hu7, State.watch_ite]
  clear_value u8
  have hu9 : u9.watch = s.watch := by
    simp -implicitDefEqProofs [u9, hu8]
  clear_value u9
  have hu11 : u11.watch = s.watch := by
    simp -implicitDefEqProofs [u11, hu5, hu8, hu9, State.watch_ite]
  clear_value u11
  have hu12 : u12.watch = s.watch := by
    simp -implicitDefEqProofs [u12, hu11]
  clear_value u12
  have hu13 : u13.watch = s.watch := by
    simp -implicitDefEqProofs [u13, hu12]
  clear_value u13
  simp -implicitDefEqProofs [hu13]

@[simp] theorem State.lampSettle_watch (s : State) : s.lampSettle.watch = s.watch := by
  unfold State.lampSettle
  simp -implicitDefEqProofs [State.watch_ite]

@[simp] theorem State.setHold_watch (s : State) (link brown : Bool) : (s.setHold link brown).watch = s.watch := by
  unfold State.setHold
  extract_lets u1 u2 u3 u4
  have hu3 : u3.watch = s.watch := by
    simp -implicitDefEqProofs [u3]
  clear_value u3
  have hu4 : u4.watch = s.watch := by
    simp -implicitDefEqProofs [u4, hu3, State.watch_ite]
  clear_value u4
  simp -implicitDefEqProofs [hu4, State.watch_ite]

@[simp] theorem State.armAlarm_watch (s : State) (t : Nat) : (s.armAlarm t).watch = s.watch := by
  unfold State.armAlarm
  simp -implicitDefEqProofs

theorem State.lamp_ite {c : Prop} [Decidable c] (a b : State) : (if c then a else b).lamp = if c then a.lamp else b.lamp := apply_ite ..

@[simp] theorem State.lampSettle_lamp (s : State) : s.lampSettle.lamp = s.lamp := by
  unfold State.lampSettle
  simp -implicitDefEqProofs [State.lamp_ite]

theorem State.nvm_ite {c : Prop} [Decidable c] (a b : State) : (if c then a else b).nvm = if c then a.nvm else b.nvm := apply_ite ..

theorem FaultSide.nvm {s t : State} (h : FaultSide s t) : t.nvm = s.nvm := by obtain ⟨_, _, _, rfl, _⟩ := h; rfl

@[simp] theorem State.enterTrip_nvm (s : State) (t : Trip) : (s.enterTrip t).1.nvm = s.nvm := (enterTrip_faultSide s t).nvm

@[simp] theorem State.lampSettle_nvm (s : State) : s.lampSettle.nvm = s.nvm := by
  unfold State.lampSettle
  simp -implicitDefEqProofs [State.nvm_ite]

@[simp] theorem State.setHold_nvm (s : State) (link brown : Bool) : (s.setHold link brown).nvm = s.nvm := by
  unfold State.setHold
  extract_lets u1 u2 u3 u4
  have hu3 : u3.nvm = s.nvm := by
    simp -implicitDefEqProofs [u3]
  clear_value u3
  have hu4 : u4.nvm = s.nvm := by
    simp -implicitDefEqProofs [u4, hu3, State.nvm_ite]
  clear_value u4
  simp -implicitDefEqProofs [hu4, State.nvm_ite]

@[simp] theorem foldl_ferry {α : Type} {f : State → α → State} (l : List α) (s : State) (hf : ∀ u x, (f u x).ferry = u.ferry) :
  (l.foldl f s).ferry = s.ferry := foldl_keeps (fun u : State => u.ferry) hf l s

theorem State.ferry_ite {c : Prop} [Decidable c] (a b : State) : (if c then a else b).ferry = if c then a.ferry else b.ferry := apply_ite ..

@[simp] theorem State.lineOut_ferry (s : State) (l c n : Nat) (bs : List SlkBlock) : (s.lineOut l c n bs).ferry = s.ferry := by
  unfold State.lineOut
  split <;> rfl

@[simp] theorem State.setLinkTx_ferry (s : State) (k : Nat) (x : LinkTx) : (s.setLinkTx k x).ferry = s.ferry := rfl

@[simp] theorem State.send_ferry (s : State) (a : String) (b : Nat) (c : List Nat) : (s.send a b c).ferry = s.ferry := rfl

@[simp] theorem State.txSend_ferry (s : State) (k : Nat) (p : TxPacket) (c : Nat) : (s.txSend k p c).ferry = s.ferry := by
  unfold State.txSend
  dsimp only
  split
  · rfl
  · simp -implicitDefEqProofs [State.ferry_ite]

@[simp] theorem txDrain_ferry (n : Nat) (s : State) (k : Nat) : (State.txDrain n s k).ferry = s.ferry := by
  induction n generalizing s with
  | zero => rfl
  | succ n ih =>
    unfold State.txDrain
    dsimp only
    split
    · rfl
    · split
      · rfl
      · split
        · rw [ih, State.txSend_ferry]
        · rfl

@[simp] theorem State.sendBlocks_ferry (s : State) (kind : String) (lane : Nat) (bs : List SlkBlock) : (s.sendBlocks kind lane bs).ferry = s.ferry := by
  unfold State.sendBlocks
  simp -implicitDefEqProofs

@[simp] theorem State.modLane_ferry (s : State) (l : Nat) (f : Lane → Lane) : (s.modLane l f).ferry = s.ferry := by
  unfold State.modLane
  simp -implicitDefEqProofs

@[simp] theorem State.setTx_ferry (s : State) (l : Nat) (m : LaneTx) : (s.setTx l m).ferry = s.ferry := by
  unfold State.setTx
  simp -implicitDefEqProofs [State.ferry_ite]

@[simp] theorem State.txPump_ferry (s : State) (k : Nat) : (s.txPump k).ferry = s.ferry := by
  unfold State.txPump
  simp -implicitDefEqProofs

@[simp] theorem State.enqueue_ferry (s : State) (k : Nat) (p : TxPacket) : (s.enqueue k p).ferry = s.ferry := by
  unfold State.enqueue
  extract_lets u1 u2
  have hu1 : u1.ferry = s.ferry := by
    simp -implicitDefEqProofs [u1]
  clear_value u1
  simp -implicitDefEqProofs [hu1]

@[simp] theorem State.setLpi_ferry (s : State) (l : Nat) (x : LpiState) : (s.setLpi l x).ferry = s.ferry := by
  unfold State.setLpi
  simp -implicitDefEqProofs

@[simp] theorem State.lpiWake_ferry (s : State) (l : Nat) : (s.lpiWake l).ferry = s.ferry := by
  unfold State.lpiWake
  extract_lets u1 u2
  have hu2 : u2.ferry = s.ferry := by
    simp -implicitDefEqProofs [u2]
  clear_value u2
  simp -implicitDefEqProofs [hu2, State.ferry_ite]

@[simp] theorem State.demandAdd_ferry (s : State) (g cls : Nat) (p : List Byte) : (s.demandAdd g cls p).ferry = s.ferry := by
  unfold State.demandAdd
  simp -implicitDefEqProofs

@[simp] theorem State.packetAt_ferry (s : State) (ready k cls : Nat) (kind : String) (p : List Byte) : (s.packetAt ready k cls kind p).ferry = s.ferry := by
  unfold State.packetAt
  extract_lets u1
  have hu1 : u1.ferry = s.ferry := by
    simp -implicitDefEqProofs [u1]
  clear_value u1
  simp -implicitDefEqProofs [hu1, State.ferry_ite]

@[simp] theorem State.packet_ferry (s : State) (k : Nat) (kind : String) (p : List Byte) : (s.packet k kind p).ferry = s.ferry := by
  unfold State.packet
  simp -implicitDefEqProofs

@[simp] theorem State.modPort_ferry (s : State) (p : Nat) (f : PtpPort → PtpPort) : (s.modPort p f).ferry = s.ferry := by
  unfold State.modPort
  simp -implicitDefEqProofs

@[simp] theorem State.setMac_ferry (s : State) (m : Nat) (x : MacState) : (s.setMac m x).ferry = s.ferry := by
  unfold State.setMac
  simp -implicitDefEqProofs

@[simp] theorem State.txStamped_ferry (s : State) (m : Nat) (f : String × List Byte) : (s.txStamped m f).1.ferry = s.ferry := by
  unfold State.txStamped
  extract_lets u1
  split
  · simp -implicitDefEqProofs
  · split
    · simp -implicitDefEqProofs
    · simp -implicitDefEqProofs

@[simp] theorem State.txStart_ferry (s : State) (m : Nat) : (s.txStart m).ferry = s.ferry := by
  unfold State.txStart
  extract_lets u1
  split
  · simp -implicitDefEqProofs
  · split
    · rename_i w2 w3 w4
      split
      · simp -implicitDefEqProofs
      · simp -implicitDefEqProofs
    · simp -implicitDefEqProofs

@[simp] theorem State.ethSend_ferry (s : State) (m q : Nat) (kind : String) (frame : List Byte) : (s.ethSend m q kind frame).ferry = s.ferry := by
  unfold State.ethSend
  simp -implicitDefEqProofs [State.ferry_ite]

@[simp] theorem State.udpSend_ferry (s : State) (m q : Nat) (kind : String) (sport peer : Nat) (data : List Byte) : (s.udpSend m q kind sport peer data).ferry = s.ferry := by
  unfold State.udpSend
  simp -implicitDefEqProofs

@[simp] theorem State.qmpSend_ferry (s : State) (m peer : Nat) (p : List Byte) : (s.qmpSend m peer p).ferry = s.ferry := by
  unfold State.qmpSend
  simp -implicitDefEqProofs

theorem FaultSide.macs {s t : State} (h : FaultSide s t) : t.macs = s.macs := by obtain ⟨_, _, _, rfl, _⟩ := h; rfl

@[simp] theorem State.accErr_macs (s : State) (req : Requester) (a : Nat) (isWrite key : Bool) : (s.accErr req a isWrite key).macs = s.macs := by
  unfold State.accErr
  simp -implicitDefEqProofs

theorem FaultSide.rsv {s t : State} (h : FaultSide s t) : t.rsv = s.rsv := by obtain ⟨_, _, _, rfl, _⟩ := h; rfl

end Sys2Proof.Machine
end

section
/-! ### The commands of the power domains -/

namespace Sys2Proof.Machine

variable {s t u : State} {n mv : Nat} {p : Nat → Prop}

theorem State.safeDown_aon (s : State) : s.safeDown.watch.aon = s.watch.aon := by
  rw [State.safeDown, State.keepCheck, State.wr_aon, State.emit]
  dsimp only
  split
  · exact State.changeRole_aon ..
  · rfl

theorem State.watchEnter_spec (s : State) : s.watchEnter.watch.core = false ∧ s.watchEnter.watch.pwrEn = false ∧ s.watchEnter.watch.aon = s.watch.aon := by
  obtain ⟨h1, h2, h3, -⟩ := s.safeDown.mainOff_spec
  exact ⟨h1, h2, h3.trans s.safeDown_aon⟩

/-- Shelf brings every domain but the keeper down. -/
theorem State.shelfEnter_spec (s : State) (hcore : s.watch.core = true) : s.shelfEnter.watch.core = false ∧ s.shelfEnter.watch.pwrEn = false
    ∧ s.shelfEnter.watch.aon = false ∧ s.shelfEnter.watch.shelf = true := by
  obtain ⟨h1, -, -⟩ := s.watchEnter_spec
  obtain ⟨k1, k2, k3, -⟩ := s.watchEnter.aonOff_spec
  rw [h1, Bool.false_and] at k2
  have heq : s.shelfEnter.watch = { s.watchEnter.aonOff.watch with kwake := false, shelf := true } := by
    rw [State.shelfEnter, if_pos hcore]
    rfl
  rw [heq]
  exact ⟨k2, k3, k1, rfl⟩

/-! #### Keeper and RTC -/

/-- The keeper's record cleared (R481). -/
def State.keepCleared (s : State) : State :=
  let s := s.keepWrite 0 (List.replicate 63 0)
  let s := (s.wn Reg.KEEP_ALARM 0).wn (Reg.KEEP_ALARM + 4) 0
  (s.rtcSet 0 0).wn Reg.KEEP_STAT 3

theorem State.rtcSet_spec (s : State) (units : Nat) (trim : Int) :
    (s.rtcSet units trim).watch = { s.watch with rtcBase := units, rtcAt := s.clk, rtcTrim := trim } ∧ (s.rtcSet units trim).hold = s.hold
      ∧ ∀ a, a ≠ Reg.KEEP_RTC_TRIM → (s.rtcSet units trim).rn a = s.rn a := by
  rw [State.rtcSet]
  exact ⟨State.wn_watch .., State.wn_hold .., fun a ha => State.rn_wn_ne _ _ ha⟩

theorem State.keepCleared_spec (s : State) : (∀ i < 63, s.keepCleared.rn (Reg.KEEP_LOG i) = 0) ∧ s.keepCleared.rn Reg.KEEP_STAT = 3
    ∧ s.keepCleared.watch = { s.watch with rtcBase := 0, rtcAt := s.clk, rtcTrim := 0 } ∧ s.keepCleared.hold = s.hold := by
  have hkeep := s.keepWrite_regSide 0 (List.replicate 63 0)
  have hlog (i : Nat) (hi : i < 63) : (s.keepWrite 0 (List.replicate 63 0)).rn (Reg.KEEP_LOG i) = 0 := by
    have h := s.rn_keepWrite (i := 0) (k := i) (List.replicate 63 0) (by simpa using hi) (by omega)
    rw [Nat.zero_add] at h
    rw [h, List.getD_replicate 0 hi, Nat.zero_mod]
  rw [State.keepCleared]
  generalize s.keepWrite 0 (List.replicate 63 0) = v at *
  have halarm : RegSide (fun a => a < Reg.KEEP_LOG 0) v ((v.wn Reg.KEEP_ALARM 0).wn (Reg.KEEP_ALARM + 4) 0) :=
    ((RegSide.refl _ v).wn _ (by decide)).wn _ (by decide)
  generalize (v.wn Reg.KEEP_ALARM 0).wn (Reg.KEEP_ALARM + 4) 0 = w at *
  have hlow (i : Nat) : ¬ Reg.KEEP_LOG i < Reg.KEEP_LOG 0 := by simp only [Reg.KEEP_LOG]; omega
  obtain ⟨k1, k2, k3⟩ := w.rtcSet_spec 0 0
  generalize w.rtcSet 0 0 = x at *
  refine ⟨fun i hi => ?_, State.rn_wn_self .., ?_, ?_⟩
  · have hne : Reg.KEEP_LOG i ≠ Reg.KEEP_STAT ∧ Reg.KEEP_LOG i ≠ Reg.KEEP_RTC_TRIM := by
      simp only [Reg.KEEP_LOG, Reg.KEEP_STAT, Reg.KEEP_RTC_TRIM]
      omega
    rw [State.rn_wn_ne _ _ hne.1, k3 _ hne.2, halarm.rn (hlow i), hlog i hi]
  · rw [State.wn_watch, k1, halarm.watch, halarm.clk, hkeep.watch, hkeep.clk]
  · rw [State.wn_hold, k2, halarm.hold, hkeep.hold]

theorem State.rtcNs_zero (hbase : s.watch.rtcBase = 0) (hat : s.watch.rtcAt = s.clk) : s.rtcNs = 0 := by
  rw [State.rtcNs, State.rtcUnits, hbase, hat, Nat.sub_self]
  simp

theorem State.rdWords_zero (h : ∀ i < n, s.rn (Reg.KEEP_LOG i) = 0) : s.rdWords (Reg.KEEP_LOG 0) n = List.replicate n 0 := by
  rw [State.rdWords, List.eq_replicate_iff]
  refine ⟨by simp, fun x hx => ?_⟩
  obtain ⟨i, hi, rfl⟩ := List.mem_map.1 hx
  have haddr : Reg.KEEP_LOG 0 + 4 * i = Reg.KEEP_LOG i := by simp only [Reg.KEEP_LOG]
  rw [haddr]
  exact h i (List.mem_range.1 hi)

/-- An alarm armed or cleared. -/
theorem State.armAlarm_spec (s : State) (n : Nat) : (s.armAlarm n).rn (Reg.KEEP_ALARM + 4) = (bits n 33 32 + 2 ^ 31 * (decide (n ≠ 0)).toNat) % 2 ^ 32
    ∧ RegSide (fun a => a = Reg.KEEP_ALARM ∨ a = Reg.KEEP_ALARM + 4) s (s.armAlarm n) :=
  ⟨State.rn_wn_self .., ((RegSide.refl _ s).wn _ (.inl rfl)).wn _ (.inr rfl)⟩

theorem State.alarmArmed_of_zero (h : s.rn (Reg.KEEP_ALARM + 4) = 0) : s.alarmArmed = false := by
  rw [State.alarmArmed, h]
  rfl

theorem completes_alwaysEq {c : Instr} {dt : Nat} {f : State → State} {P : State → Prop} (hc : exec c s = actAlways dt s f) (hf : f (s.advance dt) = u)
    (hp : P (acted dt s fun _ => u)) : Completes c s P := completes_actAlways hc (by subst hf; exact hp)

/-! #### Power-good -/

/-- The device with its rails good (R460). -/
theorem State.powerGood_eq (s : State) : s.powerGood = ({ s with
    lamp := { s.lamp with supplyOk := true }
    watch := { s.watch with good := true, rails := 127, retryAt := none, attempts := 0 } } : State).tryLeaveReset := rfl

/-- The straps sampled, with the rails good. -/
def State.railsGood (s : State) (b : Nat) (tm : Bool) : State :=
  { s with
    lamp := { s.lamp with supplyOk := true }
    watch := { s.watch with bootsel := b, testMode := tm, good := true, rails := 127, retryAt := none, attempts := 0 } }

theorem State.railsGood_spec (s : State) (b : Nat) (tm : Bool) : (s.railsGood b tm).regs = s.regs ∧ (s.railsGood b tm).hold = s.hold
    ∧ (s.railsGood b tm).watch = { s.watch with bootsel := b, testMode := tm, good := true, rails := 127, retryAt := none, attempts := 0 }
    ∧ (s.railsGood b tm).clk = s.clk := ⟨rfl, rfl, rfl, rfl⟩

theorem exec_powerGood (dt : Nat) (b : Fin 4) (tm : Bool) (s : State) : exec (.powerGood dt b tm) s = actAlways dt s fun u =>
    if !u.watch.pwrEn ∨ u.watch.good ∨ !u.elapsed (max u.watch.pwrAt u.watch.goodAt) (ms 1) ∨ (u.rising ∧ u.watch.pwrAt + ms 50 < u.clk) then u
    else (u.railsGood b tm).tryLeaveReset := rfl

/-- The conditions of power-good as the power sequence sees them. -/
theorem State.powerGood_waits (s : State) : (!s.watch.pwrEn ∨ s.watch.good ∨ !s.elapsed (max s.watch.pwrAt s.watch.goodAt) (ms 1)
      ∨ (s.rising ∧ s.watch.pwrAt + ms 50 < s.clk)) ↔ s.watch.pwrEn = false ∨ s.watch.good = true
        ∨ s.clk < max s.watch.pwrAt s.watch.goodAt + ms 1 ∨ (s.watch.goodAt < s.watch.pwrAt ∧ s.watch.pwrAt + ms 50 < s.clk) := by
  simp only [State.elapsed, State.rising, Bool.not_eq_true', decide_eq_false_iff_not, decide_eq_true_eq, Nat.not_le]

theorem State.powerGood_goes (hpwr : s.watch.pwrEn = true) (hgood : s.watch.good = false) (hwait : max s.watch.pwrAt s.watch.goodAt + ms 1 ≤ s.clk)
    (hlate : s.watch.goodAt < s.watch.pwrAt → s.clk ≤ s.watch.pwrAt + ms 50) :
    ¬ (!s.watch.pwrEn ∨ s.watch.good ∨ !s.elapsed (max s.watch.pwrAt s.watch.goodAt) (ms 1) ∨ (s.rising ∧ s.watch.pwrAt + ms 50 < s.clk)) := by
  rw [State.powerGood_waits, hpwr, hgood]
  rintro (h | h | h | ⟨h, h'⟩)
  · cases h
  · cases h
  · omega
  · have := hlate h
    omega

/-- A power-good that was not reached in time (R460). -/
def State.pgFailed (s : State) : State :=
  let s := s.setPwrEn false
  let n := min 255 (s.fld (Reg.KEEP_LOG 1) 31 24 + 1)
  let s := (s.setFld (Reg.KEEP_LOG 1) 31 24 n).setCause 10 0 0
  let k := s.watch.attempts + 1
  ({ s with watch := { s.watch with
    attempts := k, retryAt := (if k < 3 then some (s.clk + sec 1) else none), alertPg := decide (3 ≤ k) } }).watchSettle

theorem State.pgFailed_spec (s : State) (hfew : s.fld (Reg.KEEP_LOG 1) 31 24 < 255) : s.pgFailed.watch.pwrEn = false
    ∧ s.pgFailed.fld (Reg.KEEP_LOG 1) 31 24 = s.fld (Reg.KEEP_LOG 1) 31 24 + 1 ∧ s.pgFailed.fld (Reg.KEEP_LOG 1) 7 0 = 10
    ∧ s.pgFailed.watch.retryAt = (if s.watch.attempts < 2 then some (s.clk + sec 1) else none) ∧ (2 ≤ s.watch.attempts → s.pgFailed.alert = true)
    ∧ s.pgFailed.hold = s.hold := by
  obtain ⟨hw, hregs, hhold, hclk⟩ := s.setPwrEn_spec false
  rw [State.pgFailed]
  generalize s.setPwrEn false = v at hw hregs hhold hclk
  have hvfld : v.fld (Reg.KEEP_LOG 1) 31 24 = s.fld (Reg.KEEP_LOG 1) 31 24 := by rw [State.fld, State.rn, State.rd, hregs]; rfl
  have hn : min 255 (v.fld (Reg.KEEP_LOG 1) 31 24 + 1) = s.fld (Reg.KEEP_LOG 1) 31 24 + 1 := by rw [hvfld]; omega
  rw [hn]
  have hset : (v.setFld (Reg.KEEP_LOG 1) 31 24 (s.fld (Reg.KEEP_LOG 1) 31 24 + 1)).fld (Reg.KEEP_LOG 1) 31 24 = s.fld (Reg.KEEP_LOG 1) 31 24 + 1 :=
    State.fld_setFld_fits _ (by decide) (by decide) (by omega)
  have hside : RegSide (fun a => a = Reg.KEEP_LOG 1) v (v.setFld (Reg.KEEP_LOG 1) 31 24 (s.fld (Reg.KEEP_LOG 1) 31 24 + 1)) := (RegSide.refl _ v).setFld _ _ _ rfl
  generalize v.setFld (Reg.KEEP_LOG 1) 31 24 (s.fld (Reg.KEEP_LOG 1) 31 24 + 1) = w at hset hside
  obtain ⟨h1, -, h3⟩ := w.setCause_fld (cause := 10) (wake := 0) (rule := 0) (by decide) (by decide) (by decide)
  have hcause := w.setCause_regSide 10 0 0
  generalize w.setCause 10 0 0 = x at h1 h3 hcause
  have hxw : x.watch = { s.watch with pwrEn := false, good := s.watch.good && false, pwrAt := s.clk, retryAt := none } := by
    rw [hcause.watch, hside.watch, hw]
  have hxc : x.clk = s.clk := by rw [hcause.clk, hside.clk, hclk]
  obtain ⟨y, hy, hyw, hyr, hyh⟩ : ∃ y : State, y = { x with watch := { x.watch with
      attempts := x.watch.attempts + 1, retryAt := (if x.watch.attempts + 1 < 3 then some (x.clk + sec 1) else none), alertPg := decide (3 ≤ x.watch.attempts + 1) } }
    ∧ y.watch = { x.watch with
      attempts := x.watch.attempts + 1, retryAt := (if x.watch.attempts + 1 < 3 then some (x.clk + sec 1) else none), alertPg := decide (3 ≤ x.watch.attempts + 1) }
    ∧ y.regs = x.regs ∧ y.hold = x.hold := ⟨_, rfl, rfl, rfl, rfl⟩
  rw [← hy]
  have hsettle := y.watchSettle_wireSide
  generalize y.watchSettle = z at hsettle
  have hlog : z.rn (Reg.KEEP_LOG 1) = x.rn (Reg.KEEP_LOG 1) := by
    rw [hsettle.rn (watchReg_not_log (by decide)), State.rn, State.rd, hyr]
    rfl
  have hatt : x.watch.attempts = s.watch.attempts := (congrArg WatchState.attempts hxw).trans rfl
  have hzw := hsettle.watch.trans hyw
  refine ⟨?_, (congrArg (bits · 31 24) hlog).trans (h3.trans hset), (congrArg (bits · 7 0) hlog).trans h1, ?_, fun h => ?_, ?_⟩
  · rw [hzw]
    exact congrArg WatchState.pwrEn hxw
  · rw [hzw]
    dsimp only
    rw [hatt, hxc]
    exact if_congr (by omega) rfl rfl
  · rw [State.alert, hzw]
    dsimp only
    rw [hatt, decide_eq_true (by omega), Bool.true_or]
  · rw [hsettle.hold, hyh, hcause.hold, hside.hold, hhold]

theorem exec_powerGoodTimeout (dt : Nat) (s : State) : exec (.powerGoodTimeout dt) s = actAlways dt s fun u =>
    if u.watch.pwrEn && !u.watch.good && u.rising && u.elapsed u.watch.pwrAt (ms 50) then u.pgFailed else u := rfl

/-- The device reset by its pin (R462). -/
def State.resetHeld (s : State) : State := { s with watch := { s.watch with resetN := false } }

theorem State.resetHeld_spec (s : State) : s.resetHeld.watch = { s.watch with resetN := false } ∧ s.resetHeld.regs = s.regs ∧ s.resetHeld.hold = s.hold
    ∧ s.resetHeld.flt = s.flt := ⟨rfl, rfl, rfl, rfl⟩

theorem exec_resetNAssert (dt : Nat) (s : State) : exec (.resetNAssert dt) s = actAlways dt s fun u =>
    if u.resetHeld.watch.core then (u.resetHeld.setCause 3 0 0).dieReset else u.resetHeld := rfl

/-- The pin released, with the straps sampled. -/
def State.resetFreed (s : State) (b : Nat) (tm : Bool) : State := { s with watch := { s.watch with resetN := true, bootsel := b, testMode := tm } }

theorem State.resetFreed_spec (s : State) (b : Nat) (tm : Bool) : (s.resetFreed b tm).watch = { s.watch with resetN := true, bootsel := b, testMode := tm }
    ∧ (s.resetFreed b tm).regs = s.regs ∧ (s.resetFreed b tm).hold = s.hold := ⟨rfl, rfl, rfl⟩

theorem exec_resetNRelease (dt : Nat) (b : Fin 4) (tm : Bool) (s : State) : exec (.resetNRelease dt b tm) s = actAlways dt s fun u =>
    if u.watch.resetN then u else if (u.resetFreed b tm).inWatch then (u.resetFreed b tm).wake 7 3 0 else (u.resetFreed b tm).tryLeaveReset := rfl

theorem regReset_watchRule : ∀ r : Fin 64, regReset (Reg.WATCH_RULE r) = 0 := by decide

theorem regReset_valCfg : regReset (Reg.WATCH_VAL_CFG 3) = 256 := by decide

theorem bits_top_zero {x : Nat} (h : bits x 2 0 = 0) : bits x 2 2 = 0 := by
  simp only [bits] at *
  omega

/-- An alarm whose time has come. -/
def State.alarmDue (s : State) : State :=
  let s := s.armAlarm 0
  if s.inWatch then (s.bump Reg.WATCH_WAKES).wake 7 2 0
  else if s.watch.shelf then ({ s with watch := { s.watch with kwake := true } }).emit (.pin "KWAKE" 0 true)
  else s

theorem exec_rtcAlarm (dt : Nat) (s : State) : exec (.rtcAlarm dt) s = actAlways dt s fun u =>
    if u.watch.keeper && u.alarmArmed && decide (u.alarmSec ≤ u.rtcSec) then u.alarmDue else u := rfl

/-- An alarm taken is armed no more. -/
theorem State.alarmDue_spec (s : State) : s.alarmDue.alarmArmed = false := by
  have hzero : (s.armAlarm 0).rn (Reg.KEEP_ALARM + 4) = 0 := (s.armAlarm_spec 0).1
  rw [State.alarmDue]
  generalize s.armAlarm 0 = v at hzero ⊢
  split
  · have hbump : (v.bump Reg.WATCH_WAKES).rn (Reg.KEEP_ALARM + 4) = 0 := (congrArg BitVec.toNat (v.rd_bump_ne (by decide) (by decide))).trans hzero
    generalize v.bump Reg.WATCH_WAKES = w at hbump ⊢
    obtain ⟨-, -, -, -, hrd⟩ := w.wake_spec (cause := 7) (wake := 2) (rule := 0) (by decide) (by decide) (by decide)
    refine State.alarmArmed_of_zero ((congrArg BitVec.toNat (hrd _ ?_ ?_)).trans hbump)
    · rintro (⟨h, -⟩ | h) <;> exact absurd h (by decide)
    · rintro (h | h) <;> exact absurd h (by decide)
  · split
    · exact State.alarmArmed_of_zero hzero
    · exact State.alarmArmed_of_zero hzero

/-- An alarm armed by its high word. -/
theorem State.alarmWrite_spec (s : State) (req : Requester) (w : Word) : (s.alarmWrite req w.toNat).rd (Reg.KEEP_ALARM + 4) &&& 3#32 = w &&& 3#32
    ∧ RegsBut [Reg.KEEP_ALARM, Reg.KEEP_ALARM + 4] s (s.alarmWrite req w.toNat) ∧ (s.alarmWrite req w.toNat).hold = s.hold := by
  obtain ⟨-, -, hregs, -⟩ := s.pairTake_spec req Reg.KEEP_ALARM
  have hhold := State.pairTake_hold (s := s) req Reg.KEEP_ALARM
  rw [State.alarmWrite]
  generalize s.pairTake req Reg.KEEP_ALARM = v at *
  obtain ⟨h1, h2⟩ := v.armAlarm_spec (v.rn Reg.KEEP_ALARM + 2 ^ 32 * bits w.toNat 1 0)
  generalize v.armAlarm (v.rn Reg.KEEP_ALARM + 2 ^ 32 * bits w.toNat 1 0) = x at *
  have hlow : v.rn Reg.KEEP_ALARM < 2 ^ 32 := (v.rd Reg.KEEP_ALARM).isLt
  refine ⟨?_, fun a ha => ?_, h2.hold.trans hhold⟩
  · have hmod (y : Word) : (y &&& 3#32).toNat = y.toNat % 4 := by
      rw [BitVec.toNat_and]
      exact Nat.and_two_pow_sub_one_eq_mod y.toNat 2
    refine BitVec.eq_of_toNat_eq ?_
    rw [hmod, hmod]
    refine (congrArg (· % 4) h1).trans ?_
    generalize (decide (v.rn Reg.KEEP_ALARM + 2 ^ 32 * bits w.toNat 1 0 ≠ 0)).toNat = b
    simp only [bits] at *
    omega
  · have hne : a ≠ Reg.KEEP_ALARM ∧ a ≠ Reg.KEEP_ALARM + 4 := by simpa using ha
    exact (h2.rd (fun h => h.elim hne.1 hne.2)).trans (hregs a (by simpa using hne.1))

/-! #### Brownouts, rails and the lamp supply -/

/-- The registers of the lamp die's hold. -/
@[reducible] def holdReg (a : Nat) : Prop := a = Reg.LAMP_STAT ∨ a = Reg.LAMP_HOLD ∨ a = Reg.LAMP_HOLD + 4

theorem State.lampSettle_regSide (s : State) : RegSide (fun a => a = Reg.LAMP_STAT) s s.lampSettle := by
  rw [State.lampSettle]
  exact .ite ((RegSide.refl _ s).wn _ rfl) (.refl _ s)

/-- What a hold of the lamp die leaves. -/
theorem State.setHold_spec (s : State) (link brown : Bool) : (s.setHold link brown).flt = s.flt ∧ (s.setHold link brown).nvm = s.nvm
    ∧ (∀ a, ¬ holdReg a → (s.setHold link brown).rd a = s.rd a) ∧ (s.lampDie = false → s.setHold link brown = s) := by
  by_cases hdie : s.lampDie = true
  · obtain ⟨v, hv, h1, h2, h3⟩ : ∃ v : State, v = { s with lamp := { s.lamp with linkHold := link, brownHold := brown } } ∧ v.flt = s.flt ∧ v.nvm = s.nvm
      ∧ v.regs = s.regs := ⟨_, rfl, rfl, rfl, rfl⟩
    have hside : RegSide holdReg v (if v.lampHeld && !s.lampHeld then v.bump Reg.LAMP_HOLD else v) :=
      .ite ((RegSide.refl _ v).bump (.inr (.inl rfl)) (.inr (.inr rfl))) (.refl _ v)
    have heq : s.setHold link brown = (if v.lampHeld && !s.lampHeld then v.bump Reg.LAMP_HOLD else v).lampSettle := by
      rw [hv]
      exact if_pos hdie
    have hall := hside.trans ((State.lampSettle_regSide _).mono fun a => Or.inl)
    rw [← heq] at hall
    refine ⟨hall.flt.trans h1, ?_, fun a ha => (hall.rd ha).trans ?_, fun h => ?_⟩
    · rw [State.setHold_nvm]
    · rw [State.rd, h3]
      rfl
    · rw [h] at hdie
      cases hdie
  · have heq : s.setHold link brown = s := if_neg hdie
    rw [heq]
    exact ⟨rfl, rfl, fun _ _ => rfl, fun _ => rfl⟩

/-- A brownout warning recorded (R468). -/
def State.brownNoted (s : State) (mv : Nat) : State :=
  let s := { s with watch := { s.watch with warnAt := some s.clk } }
  let s := ((s.setFld Reg.PWR_STAT 1 1 1).bump Reg.PWR_BROWN_COUNT).wn Reg.PWR_BROWN_MIN (min 4095 mv)
  s.setHold s.lamp.linkHold true

theorem exec_brownoutWarning (dt mv : Nat) (s : State) : exec (.brownoutWarning dt mv) s = act dt s fun u =>
    if u.watch.warnAt.isSome || !below mv 720 then u else (u.brownNoted mv).raiseOnce 256 0 mv := rfl

theorem below_iff {th : Nat} : below mv th = true ↔ mv < th + 5 := decide_eq_true_iff

theorem State.brownNoted_spec (s : State) (hmv : mv < 4096) : (s.brownNoted mv).watch = { s.watch with warnAt := some s.clk }
    ∧ (s.brownNoted mv).fld Reg.PWR_STAT 1 1 = 1 ∧ (s.brownNoted mv).rn Reg.PWR_BROWN_MIN = mv
    ∧ (s.brownNoted mv).pair Reg.PWR_BROWN_COUNT = min (s.pair Reg.PWR_BROWN_COUNT + 1) (2 ^ 64 - 1) ∧ (s.brownNoted mv).flt = s.flt
    ∧ (s.brownNoted mv).hold = s.hold ∧ (∀ a, ¬ holdReg a → a < 0x140000 ∨ 0x150000 ≤ a → (s.brownNoted mv).rd a = s.rd a) := by
  obtain ⟨v, hv, h1, h2, h3, h4⟩ : ∃ v : State, v = { s with watch := { s.watch with warnAt := some s.clk } } ∧ v.watch = { s.watch with warnAt := some s.clk }
    ∧ v.regs = s.regs ∧ v.hold = s.hold ∧ v.flt = s.flt := ⟨_, rfl, rfl, rfl, rfl, rfl⟩
  rw [State.brownNoted, ← hv]
  have hmin : min 4095 mv = mv := by omega
  rw [hmin]
  obtain ⟨x, hx⟩ : ∃ x, x = ((v.setFld Reg.PWR_STAT 1 1 1).bump Reg.PWR_BROWN_COUNT).wn Reg.PWR_BROWN_MIN mv := ⟨_, rfl⟩
  have hstat : x.fld Reg.PWR_STAT 1 1 = 1 := by
    have h : x.rd Reg.PWR_STAT = (v.setFld Reg.PWR_STAT 1 1 1).rd Reg.PWR_STAT := by
      rw [hx]
      exact (State.rd_wr_ne _ _ (by decide)).trans (State.rd_bump_ne _ (by decide) (by decide))
    exact (congrArg (fun z : Word => bits z.toNat 1 1) h).trans (State.fld_setFld_fits _ (by decide) (by decide) (by decide))
  have hcount : x.pair Reg.PWR_BROWN_COUNT = min (s.pair Reg.PWR_BROWN_COUNT + 1) (2 ^ 64 - 1) := by
    have h : x.pair Reg.PWR_BROWN_COUNT = ((v.setFld Reg.PWR_STAT 1 1 1).bump Reg.PWR_BROWN_COUNT).pair Reg.PWR_BROWN_COUNT := by
      rw [hx]
      exact State.pair_congr (State.rd_wr_ne _ _ (by decide)) (State.rd_wr_ne _ _ (by decide))
    have hold : (v.setFld Reg.PWR_STAT 1 1 1).pair Reg.PWR_BROWN_COUNT = s.pair Reg.PWR_BROWN_COUNT := by
      refine (State.pair_congr (State.rd_wr_ne _ _ (by decide)) (State.rd_wr_ne _ _ (by decide))).trans (State.pair_congr ?_ ?_)
      all_goals
        rw [State.rd, h2]
        rfl
    rw [h, State.bump, State.pair_bumpBy, hold]
  have hlow : x.rn Reg.PWR_BROWN_MIN = mv := by
    rw [hx, State.rn_wn_self, Nat.mod_eq_of_lt (by omega)]
  have hxw : RegSide (fun a => 0x140000 ≤ a ∧ a < 0x150000) v x := by
    rw [hx]
    exact (((RegSide.refl _ v).setFld _ _ _ (by decide)).bump (by decide) (by decide)).wn _ (by decide)
  rw [← hx]
  obtain ⟨k1, -, k3, -⟩ := x.setHold_spec x.lamp.linkHold true
  have hkw := State.setHold_watch (s := x) x.lamp.linkHold true
  have hkh := State.setHold_hold (s := x) x.lamp.linkHold true
  refine ⟨hkw.trans (hxw.watch.trans h1), (congrArg (fun z : Word => bits z.toNat 1 1) (k3 _ (by decide))).trans hstat,
    (congrArg BitVec.toNat (k3 _ (by decide))).trans hlow, (State.pair_congr (k3 _ (by decide)) (k3 _ (by decide))).trans hcount,
    k1.trans (hxw.flt.trans h4), hkh.trans (hxw.hold.trans h3), fun a ha hr => (k3 a ha).trans ((hxw.rd (by omega)).trans ?_)⟩
  rw [State.rd, h2]
  rfl

/-- The end of a brownout warning recorded (R468). -/
def State.brownCleared (s : State) (mv : Nat) : State :=
  let s := (s.wn Reg.PWR_BROWN_LAST (s.warnUs (s.clk - ms 1))).wn Reg.PWR_BROWN_MIN (min 4095 mv)
  let s := ({ s with watch := { s.watch with warnAt := none } }).setFld Reg.PWR_STAT 1 1 0
  s.setHold s.lamp.linkHold false

theorem exec_brownoutEnd (dt mv : Nat) (s : State) : exec (.brownoutEnd dt mv) s = act dt s fun u =>
    match u.watch.warnAt with
    | none => u
    | some a => if u.elapsed a (ms 1) && below mv 720 then (((u.brownCleared mv).condClear 256 0).nvmResume).tftpResume else u := rfl

theorem State.brownCleared_spec (s : State) (hmv : mv < 4096) : (s.brownCleared mv).watch = { s.watch with warnAt := none }
    ∧ (s.brownCleared mv).fld Reg.PWR_STAT 1 1 = 0 ∧ (s.brownCleared mv).rn Reg.PWR_BROWN_MIN = mv
    ∧ (s.brownCleared mv).rn Reg.PWR_BROWN_LAST = s.warnUs (s.clk - ms 1) % 2 ^ 32 ∧ (s.brownCleared mv).nvm = s.nvm
    ∧ (s.brownCleared mv).hold = s.hold
    ∧ (s.lampDie = false → RegsBut [Reg.PWR_STAT, Reg.PWR_BROWN_MIN, Reg.PWR_BROWN_LAST] s (s.brownCleared mv)) := by
  have hmin : min 4095 mv = mv := by omega
  rw [State.brownCleared, hmin]
  obtain ⟨v, hv⟩ : ∃ v, v = (s.wn Reg.PWR_BROWN_LAST (s.warnUs (s.clk - ms 1))).wn Reg.PWR_BROWN_MIN mv := ⟨_, rfl⟩
  have hside : RegSide (fun a => a = Reg.PWR_BROWN_LAST ∨ a = Reg.PWR_BROWN_MIN) s v := by
    rw [hv]
    exact ((RegSide.refl _ s).wn _ (.inl rfl)).wn _ (.inr rfl)
  have hlow : v.rn Reg.PWR_BROWN_MIN = mv := by rw [hv, State.rn_wn_self, Nat.mod_eq_of_lt (by omega)]
  have hlast : v.rn Reg.PWR_BROWN_LAST = s.warnUs (s.clk - ms 1) % 2 ^ 32 := by rw [hv, State.rn_wn_ne _ _ (by decide), State.rn_wn_self]
  obtain ⟨x, hx, h1, h2, h3, h4⟩ : ∃ x : State, x = { v with watch := { v.watch with warnAt := none } } ∧ x.watch = { v.watch with warnAt := none }
    ∧ x.regs = v.regs ∧ x.hold = v.hold ∧ x.nvm = v.nvm := ⟨_, rfl, rfl, rfl, rfl, rfl⟩
  have hxdie : x.lampDie = s.lampDie := by
    rw [hx]
    obtain ⟨_, rfl, _⟩ := hside
    rfl
  have hvn : v.nvm = s.nvm := by
    obtain ⟨_, rfl, _⟩ := hside
    rfl
  rw [← hv, ← hx]
  have hset : (x.setFld Reg.PWR_STAT 1 1 0).fld Reg.PWR_STAT 1 1 = 0 := State.fld_setFld_fits _ (by decide) (by decide) (by decide)
  have hxs : RegSide (fun a => a = Reg.PWR_STAT) x (x.setFld Reg.PWR_STAT 1 1 0) := (RegSide.refl _ x).setFld _ _ _ rfl
  have hyn : (x.setFld Reg.PWR_STAT 1 1 0).nvm = x.nvm := rfl
  have hydie : (x.setFld Reg.PWR_STAT 1 1 0).lampDie = x.lampDie := rfl
  generalize x.setFld Reg.PWR_STAT 1 1 0 = y at *
  obtain ⟨-, k2, k3, k4⟩ := y.setHold_spec y.lamp.linkHold false
  have hkw := State.setHold_watch (s := y) y.lamp.linkHold false
  have hkh := State.setHold_hold (s := y) y.lamp.linkHold false
  have hxr (a : Nat) : x.rd a = v.rd a := by rw [State.rd, h2]; rfl
  refine ⟨?_, (congrArg (fun z : Word => bits z.toNat 1 1) (k3 _ (by decide))).trans hset, ?_, ?_, k2.trans (hyn.trans (h4.trans hvn)),
    hkh.trans (hxs.hold.trans (h3.trans hside.hold)), fun hdie a ha => ?_⟩
  · rw [hkw, hxs.watch, h1, hside.watch]
  · exact (congrArg BitVec.toNat ((k3 _ (by decide)).trans ((hxs.rd (by decide)).trans (hxr _)))).trans hlow
  · exact (congrArg BitVec.toNat ((k3 _ (by decide)).trans ((hxs.rd (by decide)).trans (hxr _)))).trans hlast
  · have hne : a ≠ Reg.PWR_STAT ∧ a ≠ Reg.PWR_BROWN_MIN ∧ a ≠ Reg.PWR_BROWN_LAST := by simpa using ha
    rw [k4 (hydie.trans (hxdie.trans hdie)), hxs.rd hne.1, hxr, hside.rd fun h => h.elim hne.2.2 hne.2.1]

/-- With nothing held back the end of a warning resumes nothing. -/
theorem State.resume_none (htftp : s.nvm.tftp = none) (hsaves : s.nvm.saves = []) (hwait : s.nvm.waiting = []) : s.nvmResume.tftpResume = s := by
  have h : s.nvmResume = s := by
    rw [State.nvmResume, hsaves, hwait]
    refine (?_ : ({ s with nvm := { s.nvm with saves := [], waiting := [] } } : State) = s)
    rw [← hsaves, ← hwait]
  rw [h, State.tftpResume, htftp]

/-- A reset by brownout (R468). -/
def State.brownReset (s : State) (mv : Nat) : State :=
  let s := (s.keepWrite 4 [s.warnUs s.clk, min 65535 mv]).setCause 4 0 0
  let s := s.coreFalls
  { s with watch := { s.watch with good := false, goodAt := s.clk, rails := putBits s.watch.rails 0 0 0 } }

theorem exec_brownoutReset (dt mv : Nat) (s : State) : exec (.brownoutReset dt mv) s = act dt s fun u =>
    if !below mv 690 then u else u.brownReset mv := rfl

theorem keptAtReset_of_lt {a : Nat} (hlo : 0x150000 ≤ a) (hhi : a < 0x170000) : keptAtReset a = true := by
  simp only [keptAtReset, Bool.and_eq_true, decide_eq_true_eq]
  exact ⟨hlo, hhi⟩

theorem keptAtReset_log {i : Nat} (hi : i < 64) : keptAtReset (Reg.KEEP_LOG i) = true ∧ islandReg (Reg.KEEP_LOG i) = false := by
  have hlo : 0x160000 ≤ Reg.KEEP_LOG i := by simp only [Reg.KEEP_LOG]; omega
  have hhi : Reg.KEEP_LOG i < 0x170000 := by simp only [Reg.KEEP_LOG]; omega
  generalize Reg.KEEP_LOG i = a at *
  refine ⟨?_, ?_⟩
  · exact keptAtReset_of_lt (by omega) hhi
  · simp only [islandReg, Bool.and_eq_false_iff, decide_eq_false_iff_not]
    omega

theorem logWords_user {i n k : Nat} (hn : i + n ≤ 16) (hk : k < 46) : ¬ logWords i n (Reg.KEEP_LOG (16 + k)) := by
  rintro (⟨-, h⟩ | h) <;> simp only [Reg.KEEP_LOG] at h <;> omega

/-- Nothing stands in the log of faults after a reset of the compute die. -/
theorem State.coreFalls_log (s : State) : s.coreFalls.flt.log = [] := by
  rw [State.coreFalls]

theorem State.brownReset_spec (s : State) (hmv : mv < 65536) : (s.brownReset mv).watch.core = false ∧ (s.brownReset mv).watch.good = false
    ∧ (s.brownReset mv).watch.pwrEn = s.watch.pwrEn ∧ (s.brownReset mv).fld (Reg.KEEP_LOG 1) 7 0 = 4
    ∧ (s.brownReset mv).rn (Reg.KEEP_LOG 4) = s.warnUs s.clk % 2 ^ 32 ∧ (s.brownReset mv).rn (Reg.KEEP_LOG 5) = mv ∧ (s.brownReset mv).flt.log = []
    ∧ (∀ k < 46, (s.brownReset mv).rn (Reg.KEEP_LOG (16 + k)) = s.rn (Reg.KEEP_LOG (16 + k))) ∧ (s.brownReset mv).hold = s.hold := by
  have hmin : min 65535 mv = mv := by omega
  have hkeep := s.keepWrite_regSide 4 [s.warnUs s.clk, mv]
  have h4 : (s.keepWrite 4 [s.warnUs s.clk, mv]).rn (Reg.KEEP_LOG 4) = s.warnUs s.clk % 2 ^ 32 := s.rn_keepWrite (i := 4) (k := 0) _ (by simp) (by decide)
  have h5 : (s.keepWrite 4 [s.warnUs s.clk, mv]).rn (Reg.KEEP_LOG 5) = mv :=
    (s.rn_keepWrite (i := 4) (k := 1) [s.warnUs s.clk, mv] (by simp) (by decide)).trans (Nat.mod_eq_of_lt (show mv < 2 ^ 32 by omega))
  obtain ⟨v, hv⟩ : ∃ v, v = s.keepWrite 4 [s.warnUs s.clk, mv] := ⟨_, rfl⟩
  rw [← hv] at hkeep h4 h5
  obtain ⟨hc, -, -⟩ := v.setCause_fld (cause := 4) (wake := 0) (rule := 0) (by decide) (by decide) (by decide)
  have hcause := v.setCause_regSide 4 0 0
  obtain ⟨x, hx⟩ : ∃ x, x = v.setCause 4 0 0 := ⟨_, rfl⟩
  rw [← hx] at hc hcause
  obtain ⟨d1, d2, -, d4, d5⟩ := x.coreFalls_spec
  have hlog := x.coreFalls_log
  obtain ⟨y, hy⟩ : ∃ y, y = x.coreFalls := ⟨_, rfl⟩
  rw [← hy] at d1 d2 d4 d5 hlog
  have heq : s.brownReset mv = { y with watch := { y.watch with good := false, goodAt := y.clk, rails := putBits y.watch.rails 0 0 0 } } := by
    rw [State.brownReset, hmin, ← hv, ← hx, ← hy]
  have hrd (i : Nat) (hi : i < 64) : y.rd (Reg.KEEP_LOG i) = x.rd (Reg.KEEP_LOG i) := d5 _ (keptAtReset_log hi).1
  have hnot {i : Nat} (hlo : 4 ≤ i) (hhi : i < 63) : ¬ logWords 1 3 (Reg.KEEP_LOG i) := by
    rintro (⟨-, h⟩ | h) <;> simp only [Reg.KEEP_LOG] at h <;> omega
  obtain ⟨r, hr, r1, r2, r3, r4⟩ : ∃ r : State, r = { y with watch := { y.watch with good := false, goodAt := y.clk, rails := putBits y.watch.rails 0 0 0 } }
    ∧ r.watch = { y.watch with good := false, goodAt := y.clk, rails := putBits y.watch.rails 0 0 0 } ∧ r.regs = y.regs ∧ r.hold = y.hold ∧ r.flt = y.flt :=
    ⟨_, rfl, rfl, rfl, rfl, rfl⟩
  rw [heq, ← hr]
  have hrr (a : Nat) : r.rd a = y.rd a := by rw [State.rd, r2]; rfl
  have hlow (i : Nat) (hlo : 4 ≤ i) (hhi : i < 63) : r.rn (Reg.KEEP_LOG i) = v.rn (Reg.KEEP_LOG i) :=
    congrArg BitVec.toNat ((hrr _).trans ((hrd i (by omega)).trans (hcause.rd (hnot hlo hhi))))
  refine ⟨?_, ?_, ?_, ?_, (hlow 4 (by decide) (by decide)).trans h4, (hlow 5 (by decide) (by decide)).trans h5, (congrArg FaultState.log r4).trans hlog, fun k hk => ?_,
    r3.trans (d4.trans (hcause.hold.trans hkeep.hold))⟩
  · rw [r1]
    exact d1
  · rw [r1]
  · rw [r1]
    exact d2.trans (congrArg WatchState.pwrEn (hcause.watch.trans hkeep.watch))
  · exact (congrArg (fun z : Word => bits z.toNat 7 0) ((hrr _).trans (hrd 1 (by decide)))).trans hc
  · exact (hlow _ (by omega) (by omega)).trans (congrArg BitVec.toNat (hkeep.rd (logWords_user (Nat.le_of_ble_eq_true rfl) hk)))

/-- A rail taken as good or failed (R465). -/
def State.railTaken (s : State) (rail : Nat) (under : Bool) : State :=
  { s with watch := { s.watch with rails := putBits s.watch.rails (rail + 1) (rail + 1) (!under).toNat } }

theorem exec_railUndervoltage (dt : Nat) (rail : Fin 6) (under : Bool) (s : State) : exec (.railUndervoltage dt rail under) s = act dt s fun u =>
    if rail = 5 then if under then (u.railTaken rail under).raiseOnce 258 0 else (u.railTaken rail under).condClear 258 0
    else if under then (u.railTaken rail under).raiseOnce 257 rail else (u.railTaken rail under).condClear 257 rail := rfl

theorem bit_putBits (x i : Nat) (b : Bool) : bit (putBits x i i b.toNat) i = b := by
  rw [bit, testBit_putBits _ (le_refl i), if_neg (by omega), Nat.sub_self]
  cases b <;> rfl

theorem State.railTaken_spec (s : State) (rail : Nat) (under : Bool) : bit (s.railTaken rail under).watch.rails (rail + 1) = (!under)
    ∧ (s.railTaken rail under).regs = s.regs ∧ (s.railTaken rail under).hold = s.hold ∧ (s.railTaken rail under).flt = s.flt :=
  ⟨bit_putBits .., rfl, rfl, rfl⟩

/-- The lamp die with its supply changed. -/
theorem State.supply_spec (s : State) (ok : Bool) (hdie : s.lampDie = true) : (s.supply ok).lamp = { s.lamp with supplyOk := ok }
    ∧ RegsBut [Reg.LAMP_STAT] s (s.supply ok) ∧ (s.supply ok).hold = s.hold := by
  obtain ⟨v, hv, h1, h2, h3⟩ : ∃ v : State, v = { s with lamp := { s.lamp with supplyOk := ok } } ∧ v.lamp = { s.lamp with supplyOk := ok } ∧ v.regs = s.regs
    ∧ v.hold = s.hold := ⟨_, rfl, rfl, rfl, rfl⟩
  have heq : s.supply ok = v.lampSettle := by
    rw [hv]
    exact if_pos hdie
  have hlamp := State.lampSettle_lamp (s := v)
  have hside := v.lampSettle_regSide
  rw [heq]
  refine ⟨hlamp.trans h1, fun a ha => (hside.rd (by simpa using ha)).trans ?_, hside.hold.trans h3⟩
  rw [State.rd, h2]
  rfl

/-- The keeper lost (R481). -/
def State.keeperLost (s : State) : State :=
  let s := s.setFld Reg.KEEP_STAT 2 0 0
  { s with
    watch := { s.watch with keeper := false, kwake := false, lost := true }
    flt := { s.flt with first := (if s.watch.core then s.flt.first else none) } }

theorem exec_vkeepLoss (dt : Nat) (s : State) : exec (.vkeepLoss dt) s = actAlways dt s fun u => if u.watch.keeper then u.keeperLost else u := rfl

theorem State.keeperLost_spec (s : State) : s.keeperLost.watch = { s.watch with keeper := false, kwake := false, lost := true }
    ∧ s.keeperLost.fld Reg.KEEP_STAT 2 2 = 0 ∧ RegsBut [Reg.KEEP_STAT] s s.keeperLost ∧ s.keeperLost.hold = s.hold := by
  have hfld : (s.setFld Reg.KEEP_STAT 2 0 0).fld Reg.KEEP_STAT 2 2 = 0 :=
    bits_top_zero (State.fld_setFld_fits _ (by decide) (by decide) (by decide))
  have hside : RegSide (fun a => a = Reg.KEEP_STAT) s (s.setFld Reg.KEEP_STAT 2 0 0) := (RegSide.refl _ s).setFld _ _ _ rfl
  rw [State.keeperLost]
  generalize s.setFld Reg.KEEP_STAT 2 0 0 = v at *
  refine ⟨?_, hfld, fun a ha => hside.rd (by simpa using ha), hside.hold⟩
  rw [← hside.watch]

/-! #### The obligation -/

/-- Settles O56: each domain's command taken in its plainest case. -/
theorem powerDomains : Obligations.PowerDomains := by
  unfold Obligations.PowerDomains
  intro dt n m mv k r bs tm rail req w s
  have hk := k.isLt
  refine ⟨?_, ?_, ?_, ?_, ?_, ?_, ?_, ?_, ?_, ?_, ?_, ?_, ?_, ?_, ?_, ?_, ?_, ?_, ?_, ?_, ?_, ?_, ?_, ?_, ?_, ?_, ?_, ?_⟩
  case refine_1 =>
    intro hoff hlost
    obtain ⟨h1, h2, h3, h4⟩ := (s.advance dt).keepCleared_spec
    obtain ⟨v, hv⟩ : ∃ v, v = (s.advance dt).keepCleared := ⟨_, rfl⟩
    obtain ⟨u, hu⟩ : ∃ u, u = ({ v with watch := { v.watch with
        keeper := true, kwake := true, shelf := false, started := v.watch.lost, lost := false } } : State).emit (.pin "KWAKE" 0 true) := ⟨_, rfl⟩
    have hbody : (if (s.advance dt).watch.keeper then s.advance dt else
        ({ (if (s.advance dt).watch.lost then (s.advance dt).keepCleared else (s.advance dt).rtcSet (s.advance dt).watch.rtcBase (s.advance dt).watch.rtcTrim) with
          watch := { (if (s.advance dt).watch.lost then (s.advance dt).keepCleared else
              (s.advance dt).rtcSet (s.advance dt).watch.rtcBase (s.advance dt).watch.rtcTrim).watch with
            keeper := true, kwake := true, shelf := false
            started := (if (s.advance dt).watch.lost then (s.advance dt).keepCleared else
              (s.advance dt).rtcSet (s.advance dt).watch.rtcBase (s.advance dt).watch.rtcTrim).watch.lost
            lost := false } } : State).emit (.pin "KWAKE" 0 true)) = u := by
      rw [if_neg (by rw [show (s.advance dt).watch.keeper = false from hoff]; decide), if_pos (show (s.advance dt).watch.lost = true from hlost), hu, hv]
    rw [← hv] at h1 h2 h3 h4
    have hregs : u.regs = v.regs := by rw [hu]; rfl
    have hrn (a : Nat) : u.rn a = v.rn a := by rw [State.rn, State.rd, hregs]; rfl
    have hwatch : u.watch = { v.watch with keeper := true, kwake := true, shelf := false, started := v.watch.lost, lost := false } := by rw [hu]; rfl
    have hhold : u.hold = s.hold := by rw [hu]; exact h4
    rw [h3] at hwatch
    have hrtc : (acted dt s fun _ => u).rtcNs = 0 := State.rtcNs_zero (congrArg WatchState.rtcBase hwatch) (congrArg WatchState.rtcAt hwatch)
    have hwords : (acted dt s fun _ => u).rdWords (Reg.KEEP_LOG 0) 63 = List.replicate 63 0 := State.rdWords_zero fun i hi => (hrn _).trans (h1 i hi)
    exact completes_alwaysEq rfl hbody ⟨congrArg WatchState.keeper hwatch, congrArg WatchState.kwake hwatch,
      (congrArg WatchState.started hwatch).trans hlost, congrArg WatchState.lost hwatch, hrtc, hwords, (hrn _).trans h2, sameHold_of_hold hhold⟩
  case refine_2 =>
    intro hon
    exact completes_alwaysEq (u := s.advance dt) rfl (if_pos hon) ⟨rfl, fun _ => rfl, fun _ => rfl⟩
  case refine_3 =>
    intro haon hkeeper hcause
    have hn : n < 256 := by
      rw [← hcause]
      split
      · decide
      · split <;> decide
    obtain ⟨v, hv, hvw, hvh, hvr, hvc⟩ : ∃ v : State, v = { (if (s.advance dt).watch.kwake then s.advance dt else (s.advance dt).emit (.pin "KWAKE" 0 true)) with
        watch := { (if (s.advance dt).watch.kwake then s.advance dt else (s.advance dt).emit (.pin "KWAKE" 0 true)).watch with
          aon := true, started := false, shelf := false, kwake := true } }
        ∧ v.watch = { s.watch with aon := true, started := false, shelf := false, kwake := true } ∧ v.hold = s.hold ∧ v.regs = s.regs ∧ v.clk = s.clk + dt := by
      refine ⟨_, rfl, ?_, ?_, ?_, ?_⟩
      all_goals split <;> rfl
    obtain ⟨h1, h2, h3, h4, h5⟩ := v.wake_spec (cause := n) (wake := 4) (rule := 0) hn (by decide) (by decide)
    have hbody : (if (s.advance dt).watch.aon ∨ !(s.advance dt).watch.keeper then s.advance dt else
        ({ (if (s.advance dt).watch.kwake then s.advance dt else (s.advance dt).emit (.pin "KWAKE" 0 true)) with
          watch := { (if (s.advance dt).watch.kwake then s.advance dt else (s.advance dt).emit (.pin "KWAKE" 0 true)).watch with
            aon := true, started := false, shelf := false, kwake := true } } : State).wake
          (if (s.advance dt).watch.started then 1 else if (s.advance dt).watch.shelf then 8 else 2) 4 0) = v.wake n 4 0 := by
      have hgo : ¬ ((s.advance dt).watch.aon = true ∨ (!(s.advance dt).watch.keeper) = true) := by
        rw [show (s.advance dt).watch.aon = false from haon, show (s.advance dt).watch.keeper = true from hkeeper]
        decide
      rw [if_neg hgo, ← hv]
      exact congrArg (v.wake · 4 0) hcause
    have huser : (v.wake n 4 0).rn (Reg.KEEP_LOG (16 + k)) = s.rn (Reg.KEEP_LOG (16 + k)) := by
      rw [State.rn, h5 _ (logWords_user (by decide) hk) (watchReg_not_log (by omega)), State.rd, hvr]
      rfl
    obtain ⟨u, hu⟩ : ∃ u, u = v.wake n 4 0 := ⟨_, rfl⟩
    rw [← hu] at h1 h2 h3 h4 hbody huser
    rw [hvw, hvc] at h1
    exact completes_alwaysEq (u := u) rfl hbody ⟨congrArg WatchState.aon h1, congrArg WatchState.pwrEn h1, congrArg WatchState.pwrAt h1, h2, h3, huser,
      sameHold_of_hold (h4.trans hvh)⟩
  case refine_4 =>
    intro hpwr hgood hcore hreset hwait hlate
    have hgo := State.powerGood_goes (s := s.advance dt) hpwr hgood hwait hlate
    obtain ⟨k1, k2, k3, k4⟩ := (s.advance dt).railsGood_spec bs tm
    obtain ⟨v, hv⟩ : ∃ v, v = (s.advance dt).railsGood bs tm := ⟨_, rfl⟩
    rw [← hv] at k1 k2 k3 k4
    have hrn (a : Nat) : v.rn a = s.rn a := by rw [State.rn, State.rd, k1]; rfl
    have hleave : v.tryLeaveReset = v.leaveReset := if_pos (by rw [k3]; simp [show (s.advance dt).watch = s.watch from rfl, hreset, hcore])
    have hbody : ((s.advance dt).railsGood bs tm).tryLeaveReset = v.leaveReset := by rw [← hv, hleave]
    obtain ⟨h1, h2, h3, h4, h5, h6⟩ := v.leaveReset_spec
    have hboot : v.watch.bootsel = bs := congrArg WatchState.bootsel k3
    rw [hboot] at h6
    rw [k3, k4] at h1
    rw [hrn] at h2
    have hcause : v.fld (Reg.KEEP_LOG 1) 23 0 = s.fld (Reg.KEEP_LOG 1) 23 0 := congrArg (bits · 23 0) (hrn _)
    obtain ⟨u, hu⟩ : ∃ u, u = v.leaveReset := ⟨_, rfl⟩
    rw [← hu] at h1 h2 h3 h4 h5 h6 hbody
    exact completes_alwaysEq (u := u) (exec_powerGood dt bs tm s) ((if_neg hgo).trans hbody) ⟨congrArg WatchState.core h1, congrArg WatchState.good h1, congrArg WatchState.goodAt h1,
      congrArg WatchState.rails h1, congrArg WatchState.bootsel h1, congrArg WatchState.testMode h1, h2, h3, h4.trans hcause, h6 bs.isLt,
      sameHold_of_hold (h5.trans k2)⟩
  case refine_5 =>
    intro hpwr hgood hcore hreset hwait hlate
    have hgo := State.powerGood_goes (s := s.advance dt) hpwr hgood hwait hlate
    obtain ⟨k1, k2, k3, k4⟩ := (s.advance dt).railsGood_spec bs tm
    have hheld : ((s.advance dt).railsGood bs tm).tryLeaveReset = (s.advance dt).railsGood bs tm :=
      if_neg (by rw [k3]; simp [show (s.advance dt).watch = s.watch from rfl, hreset])
    obtain ⟨u, hu⟩ : ∃ u, u = (s.advance dt).railsGood bs tm := ⟨_, rfl⟩
    rw [← hu] at k1 k2 k3 hheld
    exact completes_alwaysEq (u := u) (exec_powerGood dt bs tm s) ((if_neg hgo).trans (hu ▸ hheld)) ⟨(congrArg WatchState.core k3).trans hcore,
      congrArg WatchState.good k3, sameRegs_of_regs k1, sameHold_of_hold k2⟩
  case refine_6 =>
    intro h
    exact completes_alwaysEq (u := s.advance dt) (exec_powerGood dt bs tm s) (if_pos ((s.advance dt).powerGood_waits.2 h)) ⟨rfl, fun _ => rfl, fun _ => rfl⟩
  case refine_7 =>
    intro hpwr hgood hrise htime hatt hfew
    have hcond : ((s.advance dt).watch.pwrEn && !(s.advance dt).watch.good && (s.advance dt).rising && (s.advance dt).elapsed (s.advance dt).watch.pwrAt (ms 50)) = true := by
      have helapsed : (s.advance dt).elapsed (s.advance dt).watch.pwrAt (ms 50) = true := decide_eq_true htime
      have hrising : (s.advance dt).rising = true := decide_eq_true hrise
      rw [helapsed, hrising, show (s.advance dt).watch = s.watch from rfl, hpwr, hgood]
      rfl
    obtain ⟨h1, h2, h3, h4, h5, h6⟩ := State.pgFailed_spec (s.advance dt) hfew
    rw [show (s.advance dt).watch.attempts = n from hatt] at h4 h5
    obtain ⟨u, hu⟩ : ∃ u, u = (s.advance dt).pgFailed := ⟨_, rfl⟩
    rw [← hu] at h1 h2 h3 h4 h5 h6
    exact completes_alwaysEq (u := u) (exec_powerGoodTimeout dt s) ((if_pos hcond).trans hu.symm) ⟨h1, h2, h3, h4, h5, sameHold_of_hold h6⟩
  case refine_8 =>
    intro hearly
    have hcond : ¬ ((s.advance dt).watch.pwrEn && !(s.advance dt).watch.good && (s.advance dt).rising
        && (s.advance dt).elapsed (s.advance dt).watch.pwrAt (ms 50)) = true := by
      have helapsed : (s.advance dt).elapsed (s.advance dt).watch.pwrAt (ms 50) = false := decide_eq_false (Nat.not_le.2 hearly)
      rw [helapsed, Bool.and_false]
      decide
    exact completes_alwaysEq (u := s.advance dt) (exec_powerGoodTimeout dt s) (if_neg hcond) ⟨rfl, fun _ => rfl, fun _ => rfl⟩
  case refine_9 =>
    intro hretry hdue
    have hbody : (match (s.advance dt).watch.retryAt with
        | some t => if t ≤ (s.advance dt).clk then (s.advance dt).setPwrEn true else s.advance dt
        | none => s.advance dt) = (s.advance dt).setPwrEn true := by
      rw [show (s.advance dt).watch.retryAt = some n from hretry]
      exact if_pos hdue
    exact completes_alwaysEq rfl hbody ⟨rfl, rfl, rfl, fun _ => rfl, fun _ => rfl⟩
  case refine_10 =>
    intro hretry hearly
    have hbody : (match (s.advance dt).watch.retryAt with
        | some t => if t ≤ (s.advance dt).clk then (s.advance dt).setPwrEn true else s.advance dt
        | none => s.advance dt) = s.advance dt := by
      rw [show (s.advance dt).watch.retryAt = some n from hretry]
      exact if_neg (Nat.not_le.2 hearly)
    exact completes_alwaysEq rfl hbody ⟨rfl, fun _ => rfl, fun _ => rfl⟩
  case refine_11 =>
    intro hcore
    obtain ⟨k1, k2, k3, k4⟩ := (s.advance dt).resetHeld_spec
    obtain ⟨v, hv⟩ : ∃ v, v = (s.advance dt).resetHeld := ⟨_, rfl⟩
    rw [← hv] at k1 k2 k3 k4
    obtain ⟨h1, -, -⟩ := v.setCause_fld (cause := 3) (wake := 0) (rule := 0) (by decide) (by decide) (by decide)
    have hcause := v.setCause_regSide 3 0 0
    obtain ⟨w, hw⟩ : ∃ w, w = v.setCause 3 0 0 := ⟨_, rfl⟩
    rw [← hw] at h1 hcause
    obtain ⟨d1, d2, -, d4, d5, d6, d7, d8, d9, d10⟩ := w.dieReset_spec
    obtain ⟨u, hu⟩ : ∃ u, u = w.dieReset := ⟨_, rfl⟩
    rw [← hu] at d1 d2 d4 d5 d6 d7 d8 d9 d10
    have hbody : (if (s.advance dt).resetHeld.watch.core then ((s.advance dt).resetHeld.setCause 3 0 0).dieReset else (s.advance dt).resetHeld) = u := by
      rw [← hv, if_pos (by rw [k1]; exact hcore), ← hw, ← hu]
    have hvrd (a : Nat) : v.rd a = s.rd a := by rw [State.rd, k2]; rfl
    have hkept (i : Nat) (hi : i < 64) := (keptAtReset_log hi).1
    have hrule : keptAtReset (Reg.WATCH_RULE r) = true ∧ ¬ logWords 1 3 (Reg.WATCH_RULE r) := by
      have hr := r.isLt
      refine ⟨keptAtReset_of_lt (by simp only [Reg.WATCH_RULE]; omega) (by simp only [Reg.WATCH_RULE]; omega), ?_⟩
      · rintro (⟨h, -⟩ | h) <;> simp only [Reg.WATCH_RULE, Reg.KEEP_LOG] at h <;> omega
    have hlog : u.fld (Reg.KEEP_LOG 1) 7 0 = 3 := (congrArg (fun x : Word => bits x.toNat 7 0) (d10 _ (hkept 1 (by decide)))).trans h1
    have huser : u.rn (Reg.KEEP_LOG (16 + k)) = s.rn (Reg.KEEP_LOG (16 + k)) :=
      congrArg BitVec.toNat ((d10 _ (hkept _ (by omega))).trans ((hcause.rd (logWords_user (by decide) hk)).trans (hvrd _)))
    have hrules : u.rn (Reg.WATCH_RULE r) = s.rn (Reg.WATCH_RULE r) := congrArg BitVec.toNat ((d10 _ hrule.1).trans ((hcause.rd hrule.2).trans (hvrd _)))
    rw [hcause.watch, k1] at d2 d4
    rw [hcause.flt, k4] at d6
    exact completes_alwaysEq (u := u) (exec_resetNAssert dt s) hbody ⟨d1, d4, d2, hlog, d6, d7, d8, d9, huser, hrules,
      sameHold_of_hold (d5.trans (hcause.hold.trans k3))⟩
  case refine_12 =>
    intro hreset haon hpwr
    obtain ⟨k1, k2, k3⟩ := (s.advance dt).resetFreed_spec bs tm
    obtain ⟨v, hv⟩ : ∃ v, v = (s.advance dt).resetFreed bs tm := ⟨_, rfl⟩
    rw [← hv] at k1 k2 k3
    obtain ⟨h1, h2, h3, h4, -⟩ := v.wake_spec (cause := 7) (wake := 3) (rule := 0) (by decide) (by decide) (by decide)
    have hwatch : v.inWatch = true := by
      rw [State.inWatch, k1]
      simp [show (s.advance dt).watch = s.watch from rfl, haon, hpwr]
    have hbody : (if ((s.advance dt).resetFreed bs tm).inWatch then ((s.advance dt).resetFreed bs tm).wake 7 3 0
        else ((s.advance dt).resetFreed bs tm).tryLeaveReset) = v.wake 7 3 0 := by rw [← hv, if_pos hwatch]
    have hheld : ¬ (s.advance dt).watch.resetN = true := by rw [show (s.advance dt).watch = s.watch from rfl, hreset]; decide
    obtain ⟨u, hu⟩ : ∃ u, u = v.wake 7 3 0 := ⟨_, rfl⟩
    rw [← hu] at h1 h2 h3 h4 hbody
    rw [k1] at h1
    exact completes_alwaysEq (u := u) (exec_resetNRelease dt bs tm s) ((if_neg hheld).trans hbody) ⟨congrArg WatchState.resetN h1,
      congrArg WatchState.pwrEn h1, h2, h3, sameHold_of_hold (h4.trans k3)⟩
  case refine_13 =>
    intro hreset hpwr hgood hcore
    obtain ⟨k1, k2, k3⟩ := (s.advance dt).resetFreed_spec bs tm
    obtain ⟨v, hv⟩ : ∃ v, v = (s.advance dt).resetFreed bs tm := ⟨_, rfl⟩
    rw [← hv] at k1 k2 k3
    obtain ⟨h1, h2, -, -, h5, -⟩ := v.leaveReset_spec
    have hwatch : ¬ v.inWatch = true := by
      rw [State.inWatch, k1]
      simp [show (s.advance dt).watch = s.watch from rfl, hpwr]
    have hleave : v.tryLeaveReset = v.leaveReset := if_pos (by rw [k1]; simp [show (s.advance dt).watch = s.watch from rfl, hgood, hcore])
    have hbody : (if ((s.advance dt).resetFreed bs tm).inWatch then ((s.advance dt).resetFreed bs tm).wake 7 3 0
        else ((s.advance dt).resetFreed bs tm).tryLeaveReset) = v.leaveReset := by rw [← hv, if_neg hwatch, hleave]
    have hheld : ¬ (s.advance dt).watch.resetN = true := by rw [show (s.advance dt).watch = s.watch from rfl, hreset]; decide
    have hlog : v.rn (Reg.KEEP_LOG 0) = s.rn (Reg.KEEP_LOG 0) := by rw [State.rn, State.rd, k2]; rfl
    obtain ⟨u, hu⟩ : ∃ u, u = v.leaveReset := ⟨_, rfl⟩
    rw [← hu] at h1 h2 h5 hbody
    rw [k1] at h1
    rw [hlog] at h2
    exact completes_alwaysEq (u := u) (exec_resetNRelease dt bs tm s) ((if_neg hheld).trans hbody) ⟨congrArg WatchState.core h1, h2,
      congrArg WatchState.bootsel h1, sameHold_of_hold (h5.trans k3)⟩
  case refine_14 =>
    intro hkeeper
    obtain ⟨h1, h2, h3, h4⟩ := (s.advance dt).keeperLost_spec
    obtain ⟨u, hu⟩ : ∃ u, u = (s.advance dt).keeperLost := ⟨_, rfl⟩
    rw [← hu] at h1 h2 h3 h4
    exact completes_alwaysEq (u := u) (exec_vkeepLoss dt s) ((if_pos hkeeper).trans hu.symm) ⟨congrArg WatchState.keeper h1, congrArg WatchState.lost h1,
      congrArg WatchState.kwake h1, h2, h3, sameHold_of_hold h4⟩
  case refine_15 =>
    intro haon
    obtain ⟨h1, h2, h3, h4, h5, h6⟩ := (s.advance dt).aonOff_spec
    have hr := r.isLt
    have hisland {a : Nat} (hlo : 0x150000 ≤ a) (hhi : a < 0x160000) : islandReg a = true := by
      simp only [islandReg, Bool.and_eq_true, decide_eq_true_eq]
      exact ⟨hlo, hhi⟩
    have hrule := congrArg BitVec.toNat (h5 (Reg.WATCH_RULE r) (hisland (by simp only [Reg.WATCH_RULE]; omega) (by simp only [Reg.WATCH_RULE]; omega)))
    rw [regReset_watchRule r] at hrule
    have hcfg := congrArg BitVec.toNat (h5 (Reg.WATCH_VAL_CFG 3) (hisland (by decide) (by decide)))
    rw [regReset_valCfg] at hcfg
    have hlog := congrArg BitVec.toNat (h6 (Reg.KEEP_LOG (16 + k)) (keptAtReset_log (by omega)).1 (keptAtReset_log (by omega)).2)
    obtain ⟨u, hu⟩ : ∃ u, u = (s.advance dt).aonOff := ⟨_, rfl⟩
    rw [← hu] at h1 h2 h3 h4 hrule hcfg hlog
    exact completes_alwaysEq (u := u) rfl ((if_pos haon).trans hu.symm) ⟨h1, h3, h2, h4, hrule, hcfg, hlog⟩
  case refine_16 =>
    intro haon
    have hoff : ¬ (s.advance dt).watch.aon = true := by rw [show (s.advance dt).watch.aon = false from haon]; decide
    exact completes_alwaysEq (u := s.advance dt) rfl (if_neg hoff) ⟨rfl, fun _ => rfl, fun _ => rfl⟩
  case refine_17 =>
    intro hcore hquiet hpending
    have hbody : ((s.advance dt).asked req).quietCmd req true = (((s.advance dt).asked req).setFld Reg.PWR_STAT 9 9 1).submit (.quiet true) := by
      have hgo : ¬ ((true && (((s.advance dt).asked req).quiet || ((s.advance dt).asked req).quietPending))
          || (!true && !((s.advance dt).asked req).quiet && !((s.advance dt).asked req).quietPending)) = true := by
        rw [show ((s.advance dt).asked req).quiet = false from hquiet, show ((s.advance dt).asked req).quietPending = false from hpending]
        decide
      exact if_neg hgo
    have hfld : (((s.advance dt).asked req).setFld Reg.PWR_STAT 9 9 1).fld Reg.PWR_STAT 9 9 = 1 := State.fld_setFld_fits _ (by decide) (by decide) (by decide)
    have hsame : (((s.advance dt).asked req).setFld Reg.PWR_STAT 9 9 1).pipe = s.pipe ∧ (((s.advance dt).asked req).setFld Reg.PWR_STAT 9 9 1).hold = s.hold := ⟨rfl, rfl⟩
    obtain ⟨v, hv⟩ : ∃ v, v = ((s.advance dt).asked req).setFld Reg.PWR_STAT 9 9 1 := ⟨_, rfl⟩
    rw [← hv] at hfld hsame hbody
    have hlen := v.submit_length (.quiet true) true none
    rw [hsame.1] at hlen
    exact completes_asked rfl hcore hbody ⟨hfld, hlen, sameHold_of_hold hsame.2⟩
  case refine_18 =>
    intro hcore hquiet
    have hbody : ((s.advance dt).asked req).quietCmd req false = ((s.advance dt).asked req).submit (.quiet false) := by
      have hgo : ¬ ((false && (((s.advance dt).asked req).quiet || ((s.advance dt).asked req).quietPending))
          || (!false && !((s.advance dt).asked req).quiet && !((s.advance dt).asked req).quietPending)) = true := by
        rw [show ((s.advance dt).asked req).quiet = true from hquiet]
        simp
      exact if_neg hgo
    exact completes_asked rfl hcore hbody ⟨State.submit_length .., fun _ => rfl, fun _ => rfl⟩
  case refine_19 =>
    intro hcore
    obtain ⟨h1, h2, h3⟩ := (s.advance dt).watchEnter_spec
    obtain ⟨u, hu⟩ : ∃ u, u = (s.advance dt).watchEnter := ⟨_, rfl⟩
    rw [← hu] at h1 h2 h3
    exact completes_eq (u := u) rfl hcore hu.symm ⟨h1, h2, h3⟩
  case refine_20 =>
    intro hcore
    obtain ⟨h1, h2, h3, h4⟩ := State.shelfEnter_spec (s.advance dt) hcore
    obtain ⟨u, hu⟩ : ∃ u, u = (s.advance dt).shelfEnter := ⟨_, rfl⟩
    rw [← hu] at h1 h2 h3 h4
    exact completes_eq (u := u) rfl hcore hu.symm ⟨h1, h2, h3, h4⟩
  case refine_21 =>
    intro hkeeper harmed hdue
    have hcond : ((s.advance dt).watch.keeper && (s.advance dt).alarmArmed && decide ((s.advance dt).alarmSec ≤ (s.advance dt).rtcSec)) = true := by
      have hdec : decide ((s.advance dt).alarmSec ≤ (s.advance dt).rtcSec) = true := decide_eq_true hdue
      rw [show (s.advance dt).watch.keeper = true from hkeeper, show (s.advance dt).alarmArmed = true from harmed, hdec]
      rfl
    have h1 := (s.advance dt).alarmDue_spec
    obtain ⟨u, hu⟩ : ∃ u, u = (s.advance dt).alarmDue := ⟨_, rfl⟩
    rw [← hu] at h1
    exact completes_alwaysEq (u := u) (exec_rtcAlarm dt s) ((if_pos hcond).trans hu.symm) h1
  case refine_22 =>
    intro hcore
    obtain ⟨h1, h2, h3⟩ := (s.advance dt).alarmWrite_spec req w
    obtain ⟨u, hu⟩ : ∃ u, u = (s.advance dt).alarmWrite req w.toNat := ⟨_, rfl⟩
    rw [← hu] at h1 h2 h3
    exact completes_eq (u := u) rfl hcore hu.symm ⟨h1, h2, sameHold_of_hold h3⟩
  case refine_23 =>
    intro hcore hnone hmv hlog
    have hbelow : below mv 720 = true := below_iff.2 hmv
    have hgo : ¬ ((s.advance dt).watch.warnAt.isSome || !below mv 720) = true := by
      rw [show (s.advance dt).watch.warnAt = none from hnone, hbelow]
      decide
    obtain ⟨h1, -, h3, -, -, h6, h7⟩ := (s.advance dt).brownNoted_spec (mv := mv) (by omega)
    obtain ⟨v, hv⟩ : ∃ v, v = (s.advance dt).brownNoted mv := ⟨_, rfl⟩
    rw [← hv] at h1 h3 h6 h7
    have hvlog : v.logOnly 256 = true := (State.logOnly_congr (h7 _ (by decide) (by decide))).trans hlog
    have hfault := raiseOnce_faultSide v 256 0 mv hvlog
    obtain ⟨u, hu⟩ : ∃ u, u = v.raiseOnce 256 0 mv := ⟨_, rfl⟩
    have hbody : ((s.advance dt).brownNoted mv).raiseOnce 256 0 mv = u := by rw [← hv, hu]
    rw [← hu] at hfault
    exact completes_eq (u := u) (exec_brownoutWarning dt mv s) hcore ((if_neg hgo).trans hbody) ⟨(congrArg WatchState.warnAt (hfault.watch.trans h1)),
      (hfault.rn (by decide)).trans h3, sameHold_of_hold (hfault.hold.trans h6)⟩
  case refine_24 =>
    intro hcore hwarn helapsed hmv htftp hsaves hwait
    have hgo : ((s.advance dt).elapsed n (ms 1) && below mv 720) = true := by
      have h : (s.advance dt).elapsed n (ms 1) = true := decide_eq_true helapsed
      rw [h, below_iff.2 hmv]
      rfl
    obtain ⟨h1, -, h3, -, h5, h6, -⟩ := (s.advance dt).brownCleared_spec (mv := mv) (by omega)
    obtain ⟨v, hv⟩ : ∃ v, v = (s.advance dt).brownCleared mv := ⟨_, rfl⟩
    rw [← hv] at h1 h3 h5 h6
    have hfault := condClear_faultSide v 256 0
    obtain ⟨u, hu⟩ : ∃ u, u = v.condClear 256 0 := ⟨_, rfl⟩
    rw [← hu] at hfault
    have hnvm : u.nvm = s.nvm := by
      obtain ⟨_, _, _, rfl, _⟩ := hfault
      exact h5
    have hres : u.nvmResume.tftpResume = u := State.resume_none (hnvm ▸ htftp) (hnvm ▸ hsaves) (hnvm ▸ hwait)
    have hbody : (match (s.advance dt).watch.warnAt with
        | none => s.advance dt
        | some a => if (s.advance dt).elapsed a (ms 1) && below mv 720 then ((((s.advance dt).brownCleared mv).condClear 256 0).nvmResume).tftpResume
          else s.advance dt) = u := by
      rw [show (s.advance dt).watch.warnAt = some n from hwarn]
      exact (if_pos hgo).trans (by rw [← hv, ← hu, hres])
    exact completes_eq (u := u) (exec_brownoutEnd dt mv s) hcore hbody ⟨(congrArg WatchState.warnAt (hfault.watch.trans h1)),
      (hfault.rn (by decide)).trans h3, sameHold_of_hold (hfault.hold.trans h6)⟩
  case refine_25 =>
    intro hcore hmv
    have hgo : ¬ (!below mv 690) = true := by
      rw [below_iff.2 hmv]
      decide
    obtain ⟨h1, -, -, h4, -, -, -, -, h9⟩ := (s.advance dt).brownReset_spec (mv := mv) (by omega)
    obtain ⟨u, hu⟩ : ∃ u, u = (s.advance dt).brownReset mv := ⟨_, rfl⟩
    rw [← hu] at h1 h4 h9
    exact completes_eq (u := u) (exec_brownoutReset dt mv s) hcore ((if_neg hgo).trans hu.symm) ⟨h1, h4, sameHold_of_hold h9⟩
  case refine_26 =>
    intro hcore hlog hlog'
    obtain ⟨h1, h2, h3, h4⟩ := (s.advance dt).railTaken_spec rail tm
    obtain ⟨v, hv⟩ : ∃ v, v = (s.advance dt).railTaken rail tm := ⟨_, rfl⟩
    rw [← hv] at h1 h2 h3 h4
    have hlogs (d : Nat) (h : s.logOnly d = true) : v.logOnly d = true := (State.logOnly_congr (s := s) (by rw [State.rd, h2]; rfl)).trans h
    obtain ⟨u, hu, hfault⟩ : ∃ u, u = (if rail = 5 then if tm then v.raiseOnce 258 0 else v.condClear 258 0
      else if tm then v.raiseOnce 257 rail else v.condClear 257 rail) ∧ FaultSide v u :=
      ⟨_, rfl, .ite (.ite (raiseOnce_faultSide _ _ _ _ (hlogs _ hlog')) (condClear_faultSide ..))
        (.ite (raiseOnce_faultSide _ _ _ _ (hlogs _ hlog)) (condClear_faultSide ..))⟩
    have hbody : (if rail = 5 then if tm then ((s.advance dt).railTaken rail tm).raiseOnce 258 0 else ((s.advance dt).railTaken rail tm).condClear 258 0
        else if tm then ((s.advance dt).railTaken rail tm).raiseOnce 257 rail else ((s.advance dt).railTaken rail tm).condClear 257 rail) = u := by
      rw [← hv, hu]
    exact completes_eq (u := u) (exec_railUndervoltage dt rail tm s) hcore hbody ⟨(congrArg (fun w => bit (WatchState.rails w) (rail + 1)) hfault.watch).trans h1,
      sameHold_of_hold (hfault.hold.trans h3)⟩
  case refine_27 =>
    intro hcore hdie
    obtain ⟨h1, -, h3⟩ := State.supply_spec (s.advance dt) true hdie
    obtain ⟨u, hu⟩ : ∃ u, u = (s.advance dt).supply true := ⟨_, rfl⟩
    rw [← hu] at h1 h3
    exact completes_eq (u := u) rfl hcore hu.symm ⟨h1, sameHold_of_hold h3⟩
  case refine_28 =>
    intro hcore hdie
    obtain ⟨h1, -, h3⟩ := State.supply_spec (s.advance dt) false hdie
    obtain ⟨u, hu⟩ : ∃ u, u = (s.advance dt).supply false := ⟨_, rfl⟩
    rw [← hu] at h1 h3
    exact completes_eq (u := u) rfl hcore hu.symm ⟨h1, sameHold_of_hold h3⟩

end Sys2Proof.Machine
end

section
/-! ### The log of faults -/

namespace Sys2Proof.Machine

variable {s t u : State} {e f x : LogEntry}

/-- An entry with the next SEQ and the stamp of the present clock (R442, R450). -/
def State.logged (s : State) (e : LogEntry) : LogEntry := { e with seq := s.flt.nextSeq, stamp := toLedger s.stampNs, frac := s.stampFrac }

/-- Neither the newest entry nor the first-fault record is of the present clock. -/
def State.LogFresh (s : State) : Prop := ∀ z, s.flt.log.head? = some z ∨ s.flt.first = some z → z.stamp ≠ toLedger s.stampNs ∨ z.frac ≠ s.stampFrac

theorem State.logFresh_of_freshStamp (h : s.freshStamp = true) : s.LogFresh := by
  intro z hz
  obtain ⟨hask, hall⟩ := Bool.and_eq_true_iff.1 h
  have harr : s.arrived = s.time.led := by rw [State.arrived, Option.isNone_iff_eq_none.1 hask]
  have hmem : z ∈ s.flt.log.head?.toList ++ s.flt.first.toList := by
    rw [List.mem_append, Option.mem_toList, Option.mem_toList]
    exact hz
  have hz' := List.all_eq_true.1 hall z hmem
  rw [State.stampNs, State.stampFrac, State.stamp16, harr]
  simpa [State.now64, State.ns, State.frac] using hz'

/-- Two states that agree in what an entry of the log is made of. -/
structure LogAlike (s t : State) : Prop where
  flt : t.flt = s.flt
  time : t.time = s.time
  asker : t.asker = s.asker

namespace LogAlike

theorem refl (s : State) : LogAlike s s := ⟨rfl, rfl, rfl⟩

theorem trans (h : LogAlike s t) (k : LogAlike t u) : LogAlike s u := ⟨k.flt.trans h.flt, k.time.trans h.time, k.asker.trans h.asker⟩

theorem bump (h : LogAlike s t) (a : Nat) : LogAlike s (t.bump a) := h.trans ⟨State.bump_flt .., State.bump_time .., rfl⟩

theorem of_regSide {p : Nat → Prop} (h : RegSide p s t) : LogAlike s t := by
  obtain ⟨_, rfl, _⟩ := h
  exact ⟨rfl, rfl, rfl⟩

theorem ite {c : Prop} [Decidable c] (h : LogAlike s t) (k : LogAlike s u) : LogAlike s (if c then t else u) := by
  split
  · exact h
  · exact k

theorem arrived (h : LogAlike s t) : t.arrived = s.arrived := by rw [State.arrived, State.arrived, h.asker, h.time]

theorem logged (h : LogAlike s t) (e : LogEntry) : t.logged e = s.logged e := by
  rw [State.logged, State.logged, State.stampNs, State.stampFrac, State.stamp16, State.stampNs, State.stampFrac, State.stamp16, h.flt, h.arrived]

theorem fresh (h : LogAlike s t) (hs : s.LogFresh) : t.LogFresh := by
  intro z hz
  rw [h.flt] at hz
  rw [State.stampNs, State.stampFrac, State.stamp16, h.arrived]
  exact hs z hz

end LogAlike

theorem LogEntry.meets_stamp (h : x.meets e = true) : x.stamp = e.stamp ∧ x.frac = e.frac := by
  obtain ⟨h, hfrac⟩ := Bool.and_eq_true_iff.1 h
  obtain ⟨-, hstamp⟩ := Bool.and_eq_true_iff.1 h
  exact ⟨eq_of_beq hstamp, eq_of_beq hfrac⟩

/-- The newest entry and the first record of another clock meet no entry of this one. -/
theorem State.LogFresh.not_meets (h : s.LogFresh) (hx : s.flt.log.head? = some x ∨ s.flt.first = some x) (he : e.stamp = toLedger s.stampNs)
    (hf : e.frac = s.stampFrac) : x.meets e = false := by
  refine Bool.not_eq_true _ ▸ fun hm => ?_
  obtain ⟨hstamp, hfrac⟩ := LogEntry.meets_stamp hm
  rcases h x hx with hne | hne
  · exact hne (hstamp.trans he)
  · exact hne (hfrac.trans hf)

/-- A log taken as the log of faults, with the event of its new entry. -/
def State.logEntered (s : State) (e : LogEntry) (log : List LogEntry) : State :=
  ({ s with flt := { s.flt with log := log.take 1024, nextSeq := (s.flt.nextSeq + 1) % 2 ^ 32 } }).notify (if e.kind = 2 then 2 else 1) e.sev e.det e.words

/-- The SEQs of the entries that a new one precedes follow it (R442). -/
def State.logSettled (s : State) (e : LogEntry) (log : List LogEntry) : State :=
  if log.head? = some e then s.logEntered e log
  else (s.logEntered e log).logMoved (((log.find? fun z => z.meets e && z.det == e.det && z.inst == e.inst).map (·.seq)).getD e.seq)

theorem State.logPush_eq (s : State) (e : LogEntry) : s.logPush e =
    (if s.flt.log.length < 1024 then s else s.bump Reg.FLT_LOG_LOST).logSettled (s.logged e)
      (logInsert (s.logged e) (if s.flt.log.length < 1024 then s else s.bump Reg.FLT_LOG_LOST).flt.log) := rfl

/-- An entry that meets none stands at the head of the log (R442, R450). -/
theorem State.logPush_new {e : LogEntry} (hnew : s.flt.log.head?.any (fun z => z.meets (s.logged e)) = false) :
    (s.logPush e).flt = { s.flt with log := (s.logged e :: s.flt.log).take 1024, nextSeq := (s.flt.nextSeq + 1) % 2 ^ 32 }
      ∧ (∀ a, a ≠ Reg.FLT_LOG_LOST → a ≠ Reg.FLT_LOG_LOST + 4 → (s.logPush e).rd a = s.rd a)
      ∧ (s.flt.log.length < 1024 → (s.logPush e).regs = s.regs) ∧ (s.logPush e).time = s.time ∧ (s.logPush e).asker = s.asker := by
  obtain ⟨v, hv⟩ : ∃ v : State, v = if s.flt.log.length < 1024 then s else s.bump Reg.FLT_LOG_LOST := ⟨_, rfl⟩
  have hside : RegSide (fun a => a = Reg.FLT_LOG_LOST ∨ a = Reg.FLT_LOG_LOST + 4) s v :=
    hv ▸ .ite (.refl _ s) ((RegSide.refl _ s).bump (.inl rfl) (.inr rfl))
  have hregs (hlen : s.flt.log.length < 1024) : v.regs = s.regs := by rw [hv, if_pos hlen]
  have halike := LogAlike.of_regSide hside
  have heq : s.logPush e = v.logEntered (s.logged e) (s.logged e :: v.flt.log) := by
    rw [State.logPush_eq, ← hv, halike.flt, logInsert_new _ hnew]
    exact if_pos rfl
  rw [heq, ← halike.flt]
  exact ⟨rfl, fun a ha hb => hside.rd fun hor => hor.elim ha hb, fun hlen => hregs (halike.flt ▸ hlen), halike.time, halike.asker⟩

/-- An entry of a clock of its own stands at the head of the log (R442, R450). -/
theorem State.logPush_fresh (h : s.LogFresh) (e : LogEntry) :
    (s.logPush e).flt = { s.flt with log := (s.logged e :: s.flt.log).take 1024, nextSeq := (s.flt.nextSeq + 1) % 2 ^ 32 }
      ∧ (∀ a, a ≠ Reg.FLT_LOG_LOST → a ≠ Reg.FLT_LOG_LOST + 4 → (s.logPush e).rd a = s.rd a)
      ∧ (s.flt.log.length < 1024 → (s.logPush e).regs = s.regs) ∧ (s.logPush e).time = s.time ∧ (s.logPush e).asker = s.asker := by
  refine State.logPush_new ?_
  cases hh : s.flt.log.head? with
  | none => rfl
  | some z => exact h.not_meets (.inl hh) rfl rfl

/-! #### The first-fault record -/

theorem State.entryOf_head (hx : s.flt.log.head? = some x) : s.entryOf x.det x.inst = some x := by
  rw [State.entryOf]
  cases hl : s.flt.log with
  | nil =>
    rw [hl] at hx
    cases hx
  | cons y ys =>
    rw [hl] at hx
    cases hx
    exact List.find?_cons_of_pos (by simp)

theorem State.putFirst_flt (s : State) (e : LogEntry) : (s.putFirst e).flt = { s.flt with
    first := some { e with first := true },
    log := s.flt.log.map fun z => if z = e then { e with first := true } else if z.meets e then { z with first := false } else z } := by
  rw [State.putFirst]
  exact State.keepWrite_flt ..

theorem State.putFirst_head (hx : s.flt.log.head? = some x) : (s.putFirst x).flt.log.head? = some { x with first := true } := by
  rw [State.putFirst_flt]
  change (List.map _ _).head? = _
  rw [List.head?_map, hx, Option.map_some, if_pos rfl]

theorem State.putFirst_regSide (s : State) (e : LogEntry) {a : Nat} (ha : ¬ logWords 8 8 a) : (s.putFirst e).rd a = s.rd a := by
  rw [State.putFirst]
  exact (State.keepWrite_regSide _ 8 _).rd ha

theorem State.rdWords_keepWrite (s : State) {i : Nat} (ws : List Nat) (hi : i + ws.length ≤ 63) :
    (s.keepWrite i ws).rdWords (Reg.KEEP_LOG i) ws.length = ws.map (· % 2 ^ 32) := by
  refine List.ext_getElem (by simp [State.rdWords]) fun k hk hk' => ?_
  have hlt : k < ws.length := by simpa [State.rdWords] using hk
  have haddr : Reg.KEEP_LOG i + 4 * k = Reg.KEEP_LOG (i + k) := by simp only [Reg.KEEP_LOG]; omega
  simp only [State.rdWords, List.getElem_map, List.getElem_range]
  rw [haddr, s.rn_keepWrite ws hlt (by omega), List.getD_eq_getElem _ _ hlt]

theorem State.putFirst_words (s : State) (e : LogEntry) :
    (s.putFirst e).rdWords (Reg.KEEP_LOG 8) 8 = ({ e with first := true } : LogEntry).words.map (· % 2 ^ 32) := by
  rw [State.putFirst]
  exact State.rdWords_keepWrite _ (i := 8) ({ e with first := true } : LogEntry).words (Nat.le_of_ble_eq_true rfl)

/-- Whether an entry takes the first-fault record (R451). -/
def State.takes (s : State) (e : LogEntry) : Bool :=
  (match s.flt.first with
    | none => true
    | some f => f.meets e && e.before f) && decide (s.fld Reg.FLT_CFG 2 1 ≤ e.sev)

theorem State.takeFirst_head (hx : s.flt.log.head? = some x) : s.takeFirst x.det x.inst = if s.takes x then s.putFirst x else s := by
  rw [State.takeFirst, State.entryOf_head hx]
  rfl

/-- A newest entry takes the first-fault record or leaves it. -/
theorem State.takeFirst_cases (hx : s.flt.log.head? = some x) : s.takeFirst x.det x.inst = s ∨ s.takeFirst x.det x.inst = s.putFirst x := by
  rw [State.takeFirst_head hx]
  split
  · exact .inr rfl
  · exact .inl rfl

theorem State.takeFirst_of_some (hx : s.flt.log.head? = some x) (hf : s.flt.first = some f) (hm : f.meets x = false) : s.takeFirst x.det x.inst = s := by
  rw [State.takeFirst_head hx, State.takes, hf]
  dsimp only
  simp [hm]

theorem State.takeFirst_of_none (hx : s.flt.log.head? = some x) (hf : s.flt.first = none) (hsev : s.fld Reg.FLT_CFG 2 1 ≤ x.sev) :
    s.takeFirst x.det x.inst = s.putFirst x := by
  rw [State.takeFirst_head hx, State.takes, hf]
  simp [hsev]

/-! #### The entry of a trip -/

/-- The counts of a trip (R450). -/
def State.tripCounted (s : State) (rail held : Bool) : State :=
  let s := s.bump Reg.FLT_RAISED
  let s := if rail then s.bump Reg.FLT_RAIL else s
  if held then s.bump Reg.FLT_WITHHELD else s

theorem State.tripLog_eq (s : State) (t : Trip) (e : LogEntry) (held : Bool) :
    s.tripLog t e held = ((s.tripCounted t.rail held).logPush e).takeFirst t.det t.inst := rfl

/-- The counters of trips. -/
@[reducible] def tripCount (rail held : Bool) (a : Nat) : Prop :=
  (a = Reg.FLT_RAISED ∨ a = Reg.FLT_RAISED + 4) ∨ (rail = true ∧ (a = Reg.FLT_RAIL ∨ a = Reg.FLT_RAIL + 4))
    ∨ (held = true ∧ (a = Reg.FLT_WITHHELD ∨ a = Reg.FLT_WITHHELD + 4))

theorem State.pair_bump (s : State) (a : Nat) : (s.bump a).pair a = min (s.pair a + 1) (2 ^ 64 - 1) := by rw [State.bump, State.pair_bumpBy]

theorem State.pair_bump_ne (s : State) {a b : Nat} (h : b + 4 < a ∨ a + 4 < b) : (s.bump a).pair b = s.pair b :=
  State.pair_congr (State.rd_bump_ne _ (by omega) (by omega)) (State.rd_bump_ne _ (by omega) (by omega))

theorem State.tripCounted_regSide (s : State) (rail held : Bool) : RegSide (tripCount rail held) s (s.tripCounted rail held) := by
  rw [State.tripCounted]
  have hraised : RegSide (tripCount rail held) s (s.bump Reg.FLT_RAISED) := (RegSide.refl _ s).bump (.inl (.inl rfl)) (.inl (.inr rfl))
  generalize s.bump Reg.FLT_RAISED = v at hraised ⊢
  have hrail : RegSide (tripCount rail held) s (if rail then v.bump Reg.FLT_RAIL else v) := by
    split
    · next h => exact hraised.bump (.inr (.inl ⟨h, .inl rfl⟩)) (.inr (.inl ⟨h, .inr rfl⟩))
    · exact hraised
  generalize (if rail then v.bump Reg.FLT_RAIL else v) = w at hrail ⊢
  split
  · next h => exact hrail.bump (.inr (.inr ⟨h, .inl rfl⟩)) (.inr (.inr ⟨h, .inr rfl⟩))
  · exact hrail

theorem State.pair_tripCounted (s : State) (rail held : Bool) :
    (s.tripCounted rail held).pair Reg.FLT_RAISED = min (s.pair Reg.FLT_RAISED + 1) (2 ^ 64 - 1)
      ∧ (rail = true → (s.tripCounted rail held).pair Reg.FLT_RAIL = min (s.pair Reg.FLT_RAIL + 1) (2 ^ 64 - 1))
      ∧ (held = true → (s.tripCounted rail held).pair Reg.FLT_WITHHELD = min (s.pair Reg.FLT_WITHHELD + 1) (2 ^ 64 - 1)) := by
  have h1 := s.pair_bump Reg.FLT_RAISED
  have h2 : (s.bump Reg.FLT_RAISED).pair Reg.FLT_RAIL = s.pair Reg.FLT_RAIL := s.pair_bump_ne (by decide)
  have h3 : (s.bump Reg.FLT_RAISED).pair Reg.FLT_WITHHELD = s.pair Reg.FLT_WITHHELD := s.pair_bump_ne (by decide)
  rw [State.tripCounted]
  generalize s.bump Reg.FLT_RAISED = v at *
  have k1 : (if rail then v.bump Reg.FLT_RAIL else v).pair Reg.FLT_RAISED = v.pair Reg.FLT_RAISED := by
    split
    · exact v.pair_bump_ne (by decide)
    · rfl
  have k2 (h : rail = true) : (if rail then v.bump Reg.FLT_RAIL else v).pair Reg.FLT_RAIL = min (v.pair Reg.FLT_RAIL + 1) (2 ^ 64 - 1) := by
    rw [if_pos h, State.pair_bump]
  have k3 : (if rail then v.bump Reg.FLT_RAIL else v).pair Reg.FLT_WITHHELD = v.pair Reg.FLT_WITHHELD := by
    split
    · exact v.pair_bump_ne (by decide)
    · rfl
  generalize (if rail then v.bump Reg.FLT_RAIL else v) = w at *
  refine ⟨?_, fun h => ?_, fun h => ?_⟩
  · rw [← h1, ← k1]
    split
    · exact w.pair_bump_ne (by decide)
    · rfl
  · rw [← h2, ← k2 h]
    split
    · exact w.pair_bump_ne (by decide)
    · rfl
  · rw [if_pos h, State.pair_bump, k3, h3]

/-- The entry of a trip in a clock of its own, and the record it may take. -/
theorem State.tripLog_spec (h : s.LogFresh) (t : Trip) (e : LogEntry) (held : Bool) (hdet : e.det = t.det) (hinst : e.inst = t.inst) :
    ∃ log first, (s.tripLog t e held).flt = { s.flt with log := log, first := first, nextSeq := (s.flt.nextSeq + 1) % 2 ^ 32 }
      ∧ (log.head? = some (s.logged e) ∨ log.head? = some { s.logged e with first := true })
      ∧ (∀ f, s.flt.first = some f → log = (s.logged e :: s.flt.log).take 1024 ∧ first = some f
        ∧ (s.flt.log.length < 1024 → (s.tripLog t e held).regs = (s.tripCounted t.rail held).regs))
      ∧ (s.flt.first = none → s.fld Reg.FLT_CFG 2 1 ≤ e.sev → first = some { s.logged e with first := true } ∧ log.head? = first
        ∧ (s.tripLog t e held).rdWords (Reg.KEEP_LOG 8) 8 = ({ s.logged e with first := true } : LogEntry).words.map (· % 2 ^ 32))
      ∧ ∀ a, a < 0x160000 → a ≠ Reg.FLT_LOG_LOST → a ≠ Reg.FLT_LOG_LOST + 4 → (s.tripLog t e held).rd a = (s.tripCounted t.rail held).rd a := by
  have hside := s.tripCounted_regSide t.rail held
  have halike := LogAlike.of_regSide hside
  rw [State.tripLog_eq]
  obtain ⟨v, hv⟩ : ∃ v, v = s.tripCounted t.rail held := ⟨_, rfl⟩
  rw [← hv] at hside halike ⊢
  obtain ⟨k1, k2, k3, -, -⟩ := State.logPush_fresh (halike.fresh h) e
  rw [halike.logged, halike.flt] at k1
  rw [halike.flt] at k3
  obtain ⟨w, hw⟩ : ∃ w, w = v.logPush e := ⟨_, rfl⟩
  rw [← hw] at k1 k2 k3 ⊢
  have hhead : w.flt.log.head? = some (s.logged e) := by rw [k1]; rfl
  have hfirst : w.flt.first = s.flt.first := by rw [k1]
  have hwcfg : w.fld Reg.FLT_CFG 2 1 = s.fld Reg.FLT_CFG 2 1 :=
    congrArg (fun z : Word => bits z.toNat 2 1) ((k2 _ (by decide) (by decide)).trans (hside.rd (by
      rintro (h | ⟨-, h⟩ | ⟨-, h⟩) <;> rcases h with h | h <;> exact absurd h (by decide))))
  have hd : t.det = (s.logged e).det := hdet.symm
  have hi : t.inst = (s.logged e).inst := hinst.symm
  rw [hd, hi]
  have hlow {a : Nat} (ha : a < 0x160000) : ¬ logWords 8 8 a := by
    rintro (⟨h, -⟩ | h) <;> simp only [Reg.KEEP_LOG] at h <;> omega
  have hputregs {a : Nat} (ha : a < 0x160000) : (w.putFirst (s.logged e)).rd a = w.rd a := w.putFirst_regSide _ (hlow ha)
  have hmeets (f : LogEntry) (hf : s.flt.first = some f) : f.meets (s.logged e) = false := h.not_meets (.inr hf) rfl rfl
  rcases State.takeFirst_cases hhead with heq | heq
  · refine ⟨_, _, (congrArg State.flt heq).trans k1, .inl rfl, fun f hf => ⟨rfl, hf, fun hlen => (congrArg State.regs heq).trans (k3 hlen)⟩, fun hnone hsev => ?_,
      fun a ha hl hl' => (congrArg (State.rd · a) heq).trans (k2 a hl hl')⟩
    have hput := heq.symm.trans (State.takeFirst_of_none hhead (hfirst.trans hnone) (hwcfg ▸ hsev))
    have hbad := congrArg (fun z : State => z.flt.first) hput
    rw [State.putFirst_flt, hfirst, hnone] at hbad
    cases hbad
  · have hflt := w.putFirst_flt (s.logged e)
    have hph := State.putFirst_head hhead
    have hpw := w.putFirst_words (s.logged e)
    obtain ⟨z, hz⟩ : ∃ z, z = w.putFirst (s.logged e) := ⟨_, rfl⟩
    rw [← hz] at hflt hph hpw heq
    refine ⟨z.flt.log, z.flt.first, ?_, .inr hph, fun f hf => ?_, fun hnone hsev => ?_, fun a ha hl hl' => ?_⟩
    · rw [heq, hflt, k1]
    · have hkept := State.takeFirst_of_some hhead (hfirst.trans hf) (hmeets f hf)
      rw [hkept] at heq
      rw [← heq, hkept, k1]
      exact ⟨rfl, hf, fun hlen => k3 hlen⟩
    · refine ⟨?_, hph.trans ?_, ?_⟩
      · rw [hflt]
      · rw [hflt]
      · rw [heq]
        exact hpw
    · rw [heq, hz]
      exact (hputregs ha).trans (k2 a hl hl')

/-! #### An independent trip -/

/-- The entry of an independent trip before its stamp (R436, R440, R449). -/
def State.raisedEntry (s : State) (t : Trip) (e : LogEntry) (ev : Bool) : LogEntry :=
  { e with
    kind := if t.rail then 5 else if ev then 7 else 1
    reaction := (s.tripReaction t e.sev).1
    withheld := (s.tripReaction t e.sev).2
    latched := s.legacy && decide (e.sev = 3) }

/-- The instance that a trip leaves in fault. -/
def State.raisedInst (s : State) (t : Trip) (x : FltInst) (ev : Bool) (e : LogEntry) : FltInst :=
  { x with
    state := (if t.rail then .rail else .fault)
    cond := !ev && detHasCond t.det && !t.rail
    quietFrom := match blockOf t.det t.inst with
      | some b => if e.reaction = 2 then s.clk + blockResetTime b else s.clk
      | none => if e.reaction = 3 then s.clk + ms 100 else s.clk
    latched := e.latched
    injected := e.injected
    reaction := e.reaction
    sev := e.sev
    cfg := s.rn (Reg.FLT_DET_CFG t.det) }

theorem State.tripMarks_spec (s : State) (t : Trip) (sev : Nat) (lat : Bool) : (∃ severe, (s.tripMarks t sev lat).flt =
    { s.flt with latch := s.flt.latch || lat, severe := severe }) ∧ (s.tripMarks t sev lat).regs = s.regs ∧ (s.tripMarks t sev lat).clk = s.clk := by
  have hlatch : (if lat then s.latchAll else s).flt = { s.flt with latch := s.flt.latch || lat } ∧ (if lat then s.latchAll else s).regs = s.regs
      ∧ (if lat then s.latchAll else s).clk = s.clk := by
    cases lat with
    | true => exact ⟨by rw [Bool.or_true]; rfl, rfl, rfl⟩
    | false => exact ⟨by rw [Bool.or_false]; rfl, rfl, rfl⟩
  rw [State.tripMarks]
  generalize (if lat then s.latchAll else s) = v at hlatch ⊢
  obtain ⟨h1, h2, h3⟩ := hlatch
  split
  · exact ⟨⟨true, by rw [h1]⟩, h2, h3⟩
  · exact ⟨⟨s.flt.severe, h1⟩, h2, h3⟩

/-- What an independent trip in a clock of its own leaves. -/
theorem State.tripRaise_spec (h : s.LogFresh) (t : Trip) (e : LogEntry) (x : FltInst) (ev : Bool) (hdet : e.det = t.det) (hinst : e.inst = t.inst) (hd : t.det < 512) :
    ∃ log first severe, (s.tripRaise t e x ev).1.flt = { s.flt with
        log := log
        first := first
        nextSeq := (s.flt.nextSeq + 1) % 2 ^ 32
        latch := s.flt.latch || (s.raisedEntry t e ev).latched
        severe := severe
        insts := if !ev || (s.raisedEntry t e ev).reaction == 1 || (s.raisedEntry t e ev).reaction == 5
          then (s.setFltInst t.det t.inst (s.raisedInst t x ev (s.raisedEntry t e ev))).flt.insts else s.flt.insts }
      ∧ (log.head? = some (s.logged (s.raisedEntry t e ev)) ∨ log.head? = some { s.logged (s.raisedEntry t e ev) with first := true })
      ∧ (∀ f, s.flt.first = some f → log = (s.logged (s.raisedEntry t e ev) :: s.flt.log).take 1024 ∧ first = some f
        ∧ (s.flt.log.length < 1024 → (s.tripRaise t e x ev).1.regs = (s.tripCounted t.rail (s.raisedEntry t e ev).withheld).regs))
      ∧ (s.flt.first = none → s.fld Reg.FLT_CFG 2 1 ≤ e.sev → first = some { s.logged (s.raisedEntry t e ev) with first := true } ∧ log.head? = first
        ∧ (s.tripRaise t e x ev).1.rdWords (Reg.KEEP_LOG 8) 8
          = ({ s.logged (s.raisedEntry t e ev) with first := true } : LogEntry).words.map (· % 2 ^ 32))
      ∧ (∀ a, a < 0x160000 → a ≠ Reg.FLT_LOG_LOST → a ≠ Reg.FLT_LOG_LOST + 4 →
        (s.tripRaise t e x ev).1.rd a = (s.tripCounted t.rail (s.raisedEntry t e ev).withheld).rd a)
      ∧ (s.tripRaise t e x ev).2 = some ⟨t.det, t.inst, (s.raisedEntry t e ev).reaction, s.flt.nextSeq⟩ := by
  obtain ⟨log, first, h1, h2, h3, h4, h5⟩ := State.tripLog_spec h t (s.raisedEntry t e ev) (s.raisedEntry t e ev).withheld hdet hinst
  obtain ⟨v, hv⟩ : ∃ v, v = s.tripLog t (s.raisedEntry t e ev) (s.raisedEntry t e ev).withheld := ⟨_, rfl⟩
  rw [← hv] at h1 h3 h4 h5
  have hfault : FaultSide s v := hv ▸ (FaultSide.refl s).tripLog ..
  have hclk : v.clk = s.clk := by
    obtain ⟨_, _, _, rfl, _⟩ := hfault
    rfl
  have hcfg : v.rn (Reg.FLT_DET_CFG t.det) = s.rn (Reg.FLT_DET_CFG t.det) := by
    have hlow : Reg.FLT_DET_CFG t.det < 0x160000 ∧ 0x121000 ≤ Reg.FLT_DET_CFG t.det := by simp only [Reg.FLT_DET_CFG]; omega
    obtain ⟨hlo, hhi⟩ := hlow
    generalize Reg.FLT_DET_CFG t.det = a at hlo hhi
    refine congrArg BitVec.toNat ((h5 a hlo ?_ ?_).trans ((s.tripCounted_regSide _ _).rd ?_))
    · rintro rfl
      exact absurd hhi (by decide)
    · rintro rfl
      exact absurd hhi (by decide)
    · rintro (h | ⟨-, h⟩ | ⟨-, h⟩) <;> rcases h with rfl | rfl <;> exact absurd hhi (by decide)
  obtain ⟨⟨severe, hm⟩, hmr, hmc⟩ := v.tripMarks_spec t e.sev (s.raisedEntry t e ev).latched
  obtain ⟨w, hw⟩ : ∃ w, w = v.tripMarks t e.sev (s.raisedEntry t e ev).latched := ⟨_, rfl⟩
  rw [← hw] at hm hmr hmc
  obtain ⟨y, hy⟩ : ∃ y, y = w.tripStand t x ev (s.raisedEntry t e ev).reaction e.sev (s.raisedEntry t e ev).latched e.injected := ⟨_, rfl⟩
  have heq : s.tripRaise t e x ev = (y, some ⟨t.det, t.inst, (s.raisedEntry t e ev).reaction, ((y.entryOf t.det t.inst).map (·.seq)).getD 0⟩) := by
    rw [hy, hw, hv]
    rfl
  have hstand : y.regs = v.regs ∧ y.flt = { w.flt with insts := if !ev || (s.raisedEntry t e ev).reaction == 1 || (s.raisedEntry t e ev).reaction == 5
      then (s.setFltInst t.det t.inst (s.raisedInst t x ev (s.raisedEntry t e ev))).flt.insts else s.flt.insts } := by
    have hwi : w.flt.insts = s.flt.insts := by rw [hm, h1]
    have hwc : w.clk = s.clk := hmc.trans hclk
    have hwcfg : w.rn (Reg.FLT_DET_CFG t.det) = s.rn (Reg.FLT_DET_CFG t.det) := by
      rw [← hcfg, State.rn, State.rd, hmr]
      rfl
    rw [hy, State.tripStand]
    dsimp only
    split
    · refine ⟨hmr, ?_⟩
      rw [State.setFltInst, hwi, hwc, hwcfg]
      rfl
    · exact ⟨hmr, by rw [← hwi]⟩
  obtain ⟨hyr, hyf⟩ := hstand
  rw [heq]
  dsimp only
  have hentry : ((y.entryOf t.det t.inst).map (·.seq)).getD 0 = s.flt.nextSeq := by
    have hlog : y.flt.log = log := by rw [hyf, hm, h1]
    rw [← hlog] at h2
    have hd' : t.det = (s.logged (s.raisedEntry t e ev)).det := hdet.symm
    have hi' : t.inst = (s.logged (s.raisedEntry t e ev)).inst := hinst.symm
    rcases h2 with h2 | h2
    · have hen := State.entryOf_head h2
      rw [hd', hi', hen]
      rfl
    · have hen := State.entryOf_head h2
      dsimp only at hen
      rw [hd', hi', hen]
      rfl
  rw [hentry]
  have hrd (a : Nat) : y.rd a = v.rd a := by rw [State.rd, hyr]; rfl
  refine ⟨log, first, severe, ?_, h2, fun f hf => ?_, fun hnone hsev => ?_, fun a ha hl hl' => ?_, rfl⟩
  · rw [hyf, hm, h1]
  · obtain ⟨k1, k2, k3⟩ := h3 f hf
    exact ⟨k1, k2, fun hlen => hyr.trans (k3 hlen)⟩
  · obtain ⟨k1, k2, k3⟩ := h4 hnone hsev
    refine ⟨k1, k2, Eq.trans ?_ k3⟩
    simp only [State.rdWords, State.rn, hrd]
  · exact (hrd a).trans (h5 a ha hl hl')

/-! #### Entering a trip -/

theorem lt_of_detSev {d : Nat} (h : detSev? d ≠ none) : d < 512 := by
  by_contra hd
  refine h ?_
  rw [detSev?]
  repeat rw [if_neg (by omega)]

/-- The flags of the lamp ports. -/
@[reducible] def lampFlagReg (d a : Nat) : Prop := (192 ≤ d ∧ d ≤ 202) ∧ 0xD0100 ≤ a ∧ a < 0xD1000

theorem State.lampFlag_regSide (s : State) (d i : Nat) : RegSide (lampFlagReg d) s (s.lampFlag d i) := by
  rw [State.lampFlag]
  split
  · next hc =>
    have hflt : lampFlagReg d (Reg.LAMP_PORT_FLT i) := by
      refine ⟨⟨hc.2.1, hc.2.2.1⟩, ?_⟩
      have := hc.2.2.2.2
      simp only [Reg.LAMP_PORT_FLT]
      omega
    have htj : lampFlagReg d (Reg.LAMP_PORT_TJ i) := by
      refine ⟨⟨hc.2.1, hc.2.2.1⟩, ?_⟩
      have := hc.2.2.2.2
      simp only [Reg.LAMP_PORT_TJ]
      omega
    have h := (RegSide.refl (lampFlagReg d) s).setFld (a := Reg.LAMP_PORT_FLT i) ([0, 1, 2, 3, 4, 5, 8, 6, 7, 0, 9].getD (d - 192) 0)
      ([0, 1, 2, 3, 4, 5, 8, 6, 7, 0, 9].getD (d - 192) 0) 1 hflt
    exact .ite (h.setFld _ _ _ htj) h
  · exact .refl _ s

theorem State.lampFlag_ne (s : State) {d : Nat} (i : Nat) (hd : d < 192 ∨ 202 < d) : s.lampFlag d i = s := if_neg (by omega)

/-- A lamp fault's flag changes no shadow. -/
theorem State.lampFlag_shadowOf (s : State) (d i : Nat) : (s.lampFlag d i).shadowOf d i = s.shadowOf d i := by
  by_cases hd : 192 ≤ d ∧ d ≤ 202
  · have hside := s.lampFlag_regSide d i
    rw [State.shadowOf, State.shadowOf, hside.flt, hside.clk]
    have hsame (b : Block) : (s.lampFlag d i).shadows b d i = s.shadows b d i := by
      obtain ⟨hlo, hhi⟩ := hd
      have hne {k : Nat} (hk : k < 192 ∨ 202 < k) : (d == k) = false := beq_eq_false_iff_ne.2 (by omega)
      have hle {k : Nat} (hk : k < 192) : decide (d ≤ k) = false := decide_eq_false (by omega)
      cases b <;> simp [State.shadows, hne, hle]
    simp only [hsame]
  · rw [State.lampFlag_ne _ _ (by omega)]

/-- A trip that is new, out of every shadow, is independent. -/
theorem State.enterTrip_new {t : Trip} (htrips : s.trips t.det = true) (hshadow : s.shadowOf t.det t.inst = none)
    (hnew : (detEvent t.det && !t.rail) = true ∨ (s.fltInst t.det t.inst).standing = false) :
    s.enterTrip t = (s.lampFlag t.det t.inst).tripRaise t ((s.lampFlag t.det t.inst).tripEntry t) (s.fltInst t.det t.inst) (detEvent t.det && !t.rail) := by
  obtain ⟨hsome, hquiet⟩ := Bool.and_eq_true_iff.1 htrips
  have hsev : detSev? t.det ≠ none := Option.isSome_iff_ne_none.1 hsome
  have hinst : (s.lampFlag t.det t.inst).fltInst t.det t.inst = s.fltInst t.det t.inst := by rw [State.fltInst, (s.lampFlag_regSide _ _).flt]; rfl
  rw [State.enterTrip_out rfl hsev (fun h => ?_) ((s.lampFlag_shadowOf _ _).trans hshadow), hinst, if_neg]
  · rcases hnew with h | h
    · rw [h]
      simp
    · rw [h]
      simp
  · rw [decide_eq_true h.1] at hquiet
    obtain ⟨-, h | h | h⟩ := h <;> simp [h] at hquiet

/-- One trip in a clock. -/
theorem State.logTrips_one (s : State) (t : Trip) : s.logTrips [t] = s.logTrip t := by
  rw [State.logTrip]
  have hsort : [t].foldr (fun t acc => tripInsert s t acc) [] = [t] := rfl
  rw [State.logTrips, hsort, List.foldl_cons, List.foldl_nil]
  dsimp only
  cases h : s.enterTrip t with
  | mk u o =>
    cases o with
    | none => rfl
    | some x =>
      dsimp only
      by_cases hx : x.code == 6
      · simp [reactInsert, hx]
      · simp [reactInsert, hx]

theorem RegSide.fld {p : Nat → Prop} (h : RegSide p s t) {a : Nat} (ha : ¬ p a) (hi lo : Nat) : t.fld a hi lo = s.fld a hi lo := congrArg (bits · hi lo) (h.rn ha)

theorem State.lampFlag_detReaction (s : State) {d : Nat} (i : Nat) (hd : d < 512) : (s.lampFlag d i).detReaction d = s.detReaction d :=
  (s.lampFlag_regSide d i).fld (by rintro ⟨-, -, h⟩; simp only [Reg.FLT_DET_CFG] at h; omega) 4 2

theorem State.lampFlag_detSeverity (s : State) {d : Nat} (i : Nat) (hd : d < 512) : (s.lampFlag d i).detSeverity d = s.detSeverity d :=
  (s.lampFlag_regSide d i).fld (by rintro ⟨-, -, h⟩; simp only [Reg.FLT_DET_CFG] at h; omega) 1 0

theorem State.trips_lt {d : Nat} (h : s.trips d = true) : d < 512 := lt_of_detSev (Option.isSome_iff_ne_none.1 (Bool.and_eq_true_iff.1 h).1)

/-- A new trip of a detector that only logs is its entry and no more. -/
theorem State.logTrip_logged {t : Trip} (htrips : s.trips t.det = true) (hshadow : s.shadowOf t.det t.inst = none)
    (hnew : (detEvent t.det && !t.rail) = true ∨ (s.fltInst t.det t.inst).standing = false) (hreact : s.detReaction t.det ≤ 1)
    (hrail : t.rail = true → t.det ≠ 9) :
    s.logTrip t = ((s.lampFlag t.det t.inst).tripRaise t ((s.lampFlag t.det t.inst).tripEntry t) (s.fltInst t.det t.inst) (detEvent t.det && !t.rail)).1
      ∧ ∀ e, ((s.lampFlag t.det t.inst).tripReaction t e) = (s.detReaction t.det, false) := by
  have hcode (e : Nat) : (s.lampFlag t.det t.inst).tripReaction t e = (s.detReaction t.det, false) := by
    rw [State.tripReaction]
    have hr : (if (t.rail && t.det == 9) = true then 4 else (s.lampFlag t.det t.inst).detReaction t.det) = s.detReaction t.det := by
      rw [if_neg, State.lampFlag_detReaction _ _ (State.trips_lt htrips)]
      intro h
      obtain ⟨h1, h2⟩ := Bool.and_eq_true_iff.1 h
      exact hrail h1 (eq_of_beq h2)
    rw [hr]
    exact if_neg (by omega)
  refine ⟨?_, hcode⟩
  rw [State.logTrip, State.enterTrip_new htrips hshadow hnew]
  generalize s.lampFlag t.det t.inst = v at hcode ⊢
  have hsome : (v.tripRaise t (v.tripEntry t) (s.fltInst t.det t.inst) (detEvent t.det && !t.rail)).2 = some ⟨t.det, t.inst,
      (v.tripReaction t (v.tripEntry t).sev).1, (((v.tripRaise t (v.tripEntry t) (s.fltInst t.det t.inst) (detEvent t.det && !t.rail)).1.entryOf t.det t.inst).map
        (·.seq)).getD 0⟩ := rfl
  generalize v.tripRaise t (v.tripEntry t) (s.fltInst t.det t.inst) (detEvent t.det && !t.rail) = r at hsome
  obtain ⟨u, o⟩ := r
  dsimp only at hsome
  rw [hsome]
  exact State.act1_logged u (by rw [hcode]; exact hreact)

end Sys2Proof.Machine
end

section
/-! ### Power states: what a change of role leaves the keeper -/

namespace Sys2Proof.Machine

variable {s t u : State} {n mv : Nat}

/-- The words of the logbook that users write. -/
@[reducible] def userWord (a : Nat) : Prop := 0x160140 ≤ a ∧ a < 0x1601F8

/-- Two states that agree in the users' words. -/
structure WordsKept (s t : State) : Prop where
  rd : ∀ a, userWord a → t.rd a = s.rd a

namespace WordsKept

theorem refl (s : State) : WordsKept s s := ⟨fun _ _ => rfl⟩

theorem trans (h : WordsKept s t) (k : WordsKept t u) : WordsKept s u := ⟨fun a ha => (k.rd a ha).trans (h.rd a ha)⟩

theorem of_regs (h : t.regs = s.regs) : WordsKept s t := ⟨fun a _ => by rw [State.rd, State.rd, h]⟩

theorem of_dets (h : DetsKept s t) : WordsKept s t := ⟨fun a ha => h.rd a (by have := ha.1; omega)⟩

theorem of_regSide {p : Nat → Prop} (h : RegSide p s t) (hp : ∀ a, userWord a → ¬ p a) : WordsKept s t := ⟨fun a ha => h.rd (hp a ha)⟩

theorem of_wireSide {p : Nat → Prop} (h : WireSide p s t) (hp : ∀ a, userWord a → ¬ p a) : WordsKept s t := ⟨fun a ha => h.rd (hp a ha)⟩

theorem wr (h : WordsKept s t) {a : Nat} (v : Word) (ha : ¬ userWord a) : WordsKept s (t.wr a v) :=
  h.trans ⟨fun b hb => State.rd_wr_ne _ _ fun e => ha (e ▸ hb)⟩

theorem setFld (h : WordsKept s t) {a : Nat} (hi lo n : Nat) (ha : ¬ userWord a) : WordsKept s (t.setFld a hi lo n) := h.wr _ ha

theorem setPair (h : WordsKept s t) {a : Nat} (n : Nat) (ha : ¬ userWord a) (hb : ¬ userWord (a + 4)) : WordsKept s (t.setPair a n) := (h.wr _ ha).wr _ hb

theorem regsSame (h : WordsKept s t) (hu : u.regs = t.regs) : WordsKept s u := h.trans (.of_regs hu)

theorem bump (h : WordsKept s t) {a : Nat} (ha : ¬ userWord a) (hb : ¬ userWord (a + 4)) : WordsKept s (t.bump a) := h.setPair _ ha hb

theorem ite {c : Prop} [Decidable c] (h : WordsKept s t) (k : WordsKept s u) : WordsKept s (if c then t else u) := by
  split
  · exact h
  · exact k

theorem keepCheck (h : WordsKept s t) : WordsKept s t.keepCheck := h.wr _ (by decide)

theorem keepWrite (h : WordsKept s t) {i : Nat} (ws : List Nat) (hi : i + ws.length ≤ 16) : WordsKept s (t.keepWrite i ws) := by
  refine h.trans (.of_regSide (t.keepWrite_regSide i ws) fun a ha => ?_)
  rintro (⟨-, hlt⟩ | heq)
  · simp only [Reg.KEEP_LOG] at hlt
    omega
  · simp only [Reg.KEEP_LOG] at heq
    omega

theorem logMoved (h : WordsKept s t) (q : Nat) : WordsKept s (t.logMoved q) := by
  unfold State.logMoved
  lift_lets
  intro _ _ _ first _ _ u
  have k : WordsKept s u := h.regsSame rfl
  clear_value u first
  cases first with
  | none => exact k
  | some f => exact k.keepWrite _ (by simp [LogEntry.words])

theorem logPush (h : WordsKept s t) (e : LogEntry) : WordsKept s (t.logPush e) := by
  rw [State.logPush_eq]
  have hv : WordsKept s (if t.flt.log.length < 1024 then t else t.bump Reg.FLT_LOG_LOST) := .ite h (h.bump (by decide) (by decide))
  generalize (if t.flt.log.length < 1024 then t else t.bump Reg.FLT_LOG_LOST) = v at hv ⊢
  rw [State.logSettled]
  have hw : WordsKept s (v.logEntered (t.logged e) (logInsert (t.logged e) v.flt.log)) := hv.regsSame rfl
  exact .ite hw (hw.logMoved _)

theorem putFirst (h : WordsKept s t) (e : LogEntry) : WordsKept s (t.putFirst e) := by
  rw [State.putFirst]
  have hw {f : FaultState} : WordsKept s { t with flt := f } := h.regsSame rfl
  exact hw.keepWrite _ (by simp [LogEntry.words])

theorem takeFirst (h : WordsKept s t) (d i : Nat) : WordsKept s (t.takeFirst d i) := by
  unfold State.takeFirst
  split
  · exact h
  · exact .ite (h.putFirst _) h

theorem lampFlag (h : WordsKept s t) (d i : Nat) : WordsKept s (t.lampFlag d i) :=
  h.trans (.of_regSide (t.lampFlag_regSide d i) fun a ha hf => by have := ha.1; have := hf.2.2; omega)

theorem tripRaise (h : WordsKept s t) (x : Trip) (e : LogEntry) (f : FltInst) (ev : Bool) : WordsKept s (t.tripRaise x e f ev).1 := by
  have hcount (held : Bool) : WordsKept s (t.tripCounted x.rail held) := h.trans (.of_regSide (t.tripCounted_regSide _ _) fun a ha => by
    rintro (hc | ⟨-, hc⟩ | ⟨-, hc⟩) <;> rcases hc with rfl | rfl <;> exact absurd ha (by decide))
  have hlog (e : LogEntry) (held : Bool) : WordsKept s (t.tripLog x e held) := ((hcount held).logPush e).takeFirst _ _
  have heq : (t.tripRaise x e f ev).1 = ((t.tripLog x (t.raisedEntry x e ev) (t.raisedEntry x e ev).withheld).tripMarks x e.sev (t.raisedEntry x e ev).latched).tripStand x f ev
      (t.raisedEntry x e ev).reaction e.sev (t.raisedEntry x e ev).latched e.injected := rfl
  rw [heq, State.tripStand]
  have hm := (State.tripMarks_spec (t.tripLog x (t.raisedEntry x e ev) (t.raisedEntry x e ev).withheld) x e.sev (t.raisedEntry x e ev).latched).2.1
  exact .ite ((hlog _ _).regsSame hm) ((hlog _ _).regsSame hm)

theorem enterTrip (h : WordsKept s t) (x : Trip) : WordsKept s (t.enterTrip x).1 := by
  have hflag := h.lampFlag x.det x.inst
  unfold State.enterTrip
  split
  · exact h
  split
  · exact h
  generalize t.lampFlag x.det x.inst = v at hflag
  dsimp only
  split
  · refine WordsKept.logPush (WordsKept.bump ?_ (by decide) (by decide)) _
    split
    · exact hflag.regsSame rfl
    · exact hflag.regsSame rfl
  · split
    · exact (hflag.regsSame (u := v.setFltInst x.det x.inst _) rfl).logPush _
    · exact hflag.tripRaise ..

end WordsKept

/-- Two states that agree in the keeper's supply and the users' words. -/
structure KeepKept (s t : State) : Prop where
  kwake : t.watch.kwake = s.watch.kwake
  keeper : t.watch.keeper = s.watch.keeper
  words : WordsKept s t

namespace KeepKept

theorem refl (s : State) : KeepKept s s := ⟨rfl, rfl, .refl s⟩

theorem trans (h : KeepKept s t) (k : KeepKept t u) : KeepKept s u := ⟨k.kwake.trans h.kwake, k.keeper.trans h.keeper, h.words.trans k.words⟩

theorem of_watch (h : t.watch = s.watch) (hw : WordsKept s t) : KeepKept s t := ⟨congrArg WatchState.kwake h, congrArg WatchState.keeper h, hw⟩

theorem of_dets (h : t.watch = s.watch) (hd : DetsKept s t) : KeepKept s t := .of_watch h (.of_dets hd)

theorem enterTrip (h : KeepKept s t) (x : Trip) : KeepKept s (t.enterTrip x).1 :=
  h.trans (.of_watch (enterTrip_faultSide t x).watch ((WordsKept.refl t).enterTrip x))

end KeepKept

theorem State.roleChange_words (s : State) (rule : Nat) : KeepKept s (s.roleChange rule) := by
  refine .of_watch (by simp) ?_
  have hstart : WordsKept s (s.roleStart rule) := (((WordsKept.refl s).setFld _ _ _ (by decide)).setFld _ _ _ (by decide)).setPair _ (by decide) (by decide)
  rw [State.roleChange_eq]
  generalize s.roleStart rule = v at hstart
  have hmid : WordsKept s (if decide (rule ≤ 4) then v.rolePromote else v.roleDemote rule) := by
    refine .ite ?_ ?_
    · rw [State.rolePromote]
      have hb := hstart.bump (a := Reg.TWIN_PROMOTE) (by decide) (by decide)
      generalize v.bump Reg.TWIN_PROMOTE = w at hb ⊢
      have he (x y : Nat) : WordsKept s ((w.wn Reg.TWIN_EPOCH x).wn (Reg.KEEP_LOG 6) y) := (hb.wr _ (by decide)).wr _ (by decide)
      exact (he _ _).regsSame rfl
    · rw [State.roleDemote]
      have hd := hstart.bump (a := Reg.TWIN_DEMOTE) (by decide) (by decide)
      generalize v.bump Reg.TWIN_DEMOTE = w at hd ⊢
      have hdd : WordsKept s (if 5 ≤ rule ∧ rule ≤ 7 then w.bump Reg.TWIN_DOUBLE else w) := .ite (hd.bump (by decide) (by decide)) hd
      generalize (if 5 ≤ rule ∧ rule ≤ 7 then w.bump Reg.TWIN_DOUBLE else w) = x at hdd ⊢
      exact .ite ((hdd.setFld 2 2 0 (a := Reg.TWIN_STAT) (by decide)).regsSame rfl) hdd
  generalize (if decide (rule ≤ 4) then v.rolePromote else v.roleDemote rule) = y at hmid ⊢
  obtain ⟨-, -, hend⟩ := y.roleEnd_spec rule
  refine hmid.trans ⟨fun a ha => hend a ?_ ?_⟩
  · have := ha.1
    omega
  · rintro rfl
    exact absurd ha (by decide)

theorem State.dieReset_keep (s : State) : KeepKept s s.dieReset := by
  obtain ⟨-, -, -, -, -, -, -, -, -, h⟩ := s.dieReset_spec
  exact ⟨by rw [State.dieReset], by rw [State.dieReset], ⟨fun a ha => h a (keptAtReset_of_lt (by have := ha.1; omega) (by have := ha.2; omega))⟩⟩

theorem State.leaveReset_keep (s : State) : KeepKept s s.leaveReset := by
  obtain ⟨hw, -⟩ := s.leaveReset_spec
  refine ⟨by rw [hw], by rw [hw], ?_⟩
  have hkept {a : Nat} (ha : userWord a) : ¬ idReg a := fun h => by
    have hk := keptAtReset_of_lt (a := a) (by have := ha.1; omega) (by have := ha.2; omega)
    exact absurd (hk.symm.trans h.1) (by decide)
  rw [State.leaveReset_eq]
  refine (((((WordsKept.of_regSide s.bootCounted_spec.1 fun a ha => ?_).trans ?_).trans (.of_regSide (State.identityShown_regSide _) fun _ => hkept)).trans
    (.of_wireSide (State.keysShown_wireSide _) fun _ => hkept)).trans (.of_regSide (State.strapsShown_regSide _) fun _ => hkept))
  · rintro ((⟨-, h⟩ | h) | h | h | h)
    · simp only [Reg.KEEP_LOG] at h
      omega
    · simp only [Reg.KEEP_LOG] at h
      omega
    · simp only [Reg.WATCH_WAKES, Reg.WATCH_WAKE_DROP] at h
      omega
    · simp only [Reg.SYS_BOOT_COUNT] at h
      omega
    · simp only [Reg.SYS_RESET_CAUSE] at h
      omega
  · exact .of_regs (by rw [State.coreRisen])

theorem State.deviceReset_keep (s : State) (cause : Nat) : KeepKept s (s.deviceReset cause) := by
  have hcause : KeepKept s (s.setCause cause 0 0) := by
    have h := s.setCause_regSide cause 0 0
    refine .of_watch h.watch (.of_regSide h fun a ha => ?_)
    rintro (⟨-, hlt⟩ | heq)
    · simp only [Reg.KEEP_LOG] at hlt
      omega
    · simp only [Reg.KEEP_LOG] at heq
      omega
  exact (hcause.trans (State.dieReset_keep _)).trans (State.leaveReset_keep _)

theorem State.blockReset_keep (s : State) (b : Block) (cause : Nat) : KeepKept s (s.blockReset b cause) := by
  rw [State.blockReset]
  split
  · exact .refl s
  · exact .of_watch rfl (.of_regs rfl)

theorem State.retrain_keep (s : State) : KeepKept s (s.retrain 0) := by
  refine .of_watch (State.retrain_watch ..) (.of_dets ?_)
  have hclear : DetsKept s ((s.clearCeiling 0).wn (Reg.LANE_BACKOFF 0) 10) := by
    have hbits : DetsKept s ((s.setFld (Reg.LANE_STATE 0) 22 20 4).setLaneBit 0 11 false) := ((DetsKept.refl s).setFld _ _ _ (by decide)).setLaneBit (by decide) _ _
    have hmod : (s.clearCeiling 0).regs = ((s.setFld (Reg.LANE_STATE 0) 22 20 4).setLaneBit 0 11 false).regs := by rw [State.clearCeiling, State.modLane]
    exact (hbits.regsSame hmod).wn _ (by decide)
  rw [State.retrain]
  generalize (s.clearCeiling 0).wn (Reg.LANE_BACKOFF 0) 10 = w at hclear ⊢
  exact hclear.trans (w.enterHail_detsKept (by decide))

theorem State.standDownD4_keep (s : State) : KeepKept s s.standDownD4 := by
  rw [State.standDownD4]
  split
  · exact s.roleChange_words 8
  · split
    · have helig : KeepKept s (s.setEligible false) := .of_watch rfl ((WordsKept.refl s).setFld _ _ _ (by decide))
      exact helig.trans (.of_watch rfl (.of_regs rfl))
    · exact .refl s

/-- Whatever the reaction to a change of role, the keeper stays. -/
theorem State.react_role_keep (s : State) (r cause : Nat) : KeepKept s (s.react 148 0 r cause) := by
  have hgroup : detOfGroup 148 = false := by decide
  have hblock := s.blockReset_keep (.lane 0) cause
  rw [State.react.eq_def]
  split
  · exact .refl s
  · rw [hgroup, if_neg Bool.false_ne_true, List.foldl_cons, List.foldl_nil]
    split
    · exact hblock.trans (State.retrain_keep _)
    · exact .refl s
  · exact s.standDownD4_keep
  · exact .of_watch rfl (.of_regs rfl)
  · exact s.deviceReset_keep _
  · exact .refl s

theorem State.enterTrip_reaction {x : Trip} {y : Reaction} (h : (s.enterTrip x).2 = some y) : y.det = x.det ∧ y.inst = x.inst := by
  unfold State.enterTrip at h
  split at h
  · cases h
  split at h
  · cases h
  generalize s.lampFlag x.det x.inst = v at h
  dsimp only at h
  split at h
  · cases h
  · split at h
    · cases h
    · have hr : ∀ (e : LogEntry) (f : FltInst) (ev : Bool), (v.tripRaise x e f ev).2 = some y → y.det = x.det ∧ y.inst = x.inst := by
        intro e f ev hy
        rw [State.tripRaise] at hy
        cases hy
        exact ⟨rfl, rfl⟩
      exact hr _ _ _ h

theorem State.act1_role_keep (s : State) {x : Reaction} (hd : x.det = 148) (hi : x.inst = 0) : KeepKept s (s.act1 x) := by
  have hreact := s.react_role_keep x.code x.cause
  unfold State.act1
  rw [hd, hi]
  generalize s.react 148 0 x.code x.cause = v at hreact ⊢
  dsimp only
  split
  · have henter := hreact.enterTrip { det := 148, inst := 0, info := v.role }
    have hsame (y : Reaction) := State.enterTrip_reaction (s := v) (x := { det := 148, inst := 0, info := v.role }) (y := y)
    generalize v.enterTrip { det := 148, inst := 0, info := v.role } = r at henter hsame ⊢
    obtain ⟨w, o⟩ := r
    cases o with
    | none => exact henter
    | some y =>
      obtain ⟨h1, h2⟩ := hsame y rfl
      dsimp only at h1 h2 ⊢
      rw [h1, h2]
      exact henter.trans (w.react_role_keep _ _)
  · exact hreact

/-- A change of role by a rule that raises no more than its own event leaves the keeper. -/
theorem State.changeRole_keep (s : State) {rule : Nat} (h : ¬ (5 ≤ rule ∧ rule ≤ 7)) : KeepKept s (s.changeRole rule) := by
  have hrole := s.roleChange_words rule
  rw [State.changeRole]
  generalize s.roleChange rule = v at hrole ⊢
  rw [if_neg h, State.raise, State.logTrip]
  have henter := hrole.enterTrip { det := 148, inst := 0, info := rule }
  have hsame (y : Reaction) := State.enterTrip_reaction (s := v) (x := { det := 148, inst := 0, info := rule }) (y := y)
  generalize v.enterTrip { det := 148, inst := 0, info := rule } = r at henter hsame ⊢
  obtain ⟨w, o⟩ := r
  cases o with
  | none => exact henter
  | some y =>
    obtain ⟨h1, h2⟩ := hsame y rfl
    exact henter.trans (w.act1_role_keep h1 h2)

theorem State.safeDown_keep (s : State) : KeepKept s s.safeDown := by
  have hrole : KeepKept s (if s.role = 1 then s.changeRole 9 else s) := by
    split
    · exact s.changeRole_keep (by decide)
    · exact .refl s
  rw [State.safeDown]
  generalize (if s.role = 1 then s.changeRole 9 else s) = v at hrole ⊢
  have hpin : KeepKept v (({ v with time := { v.time with armed := false } } : State).emit (.pin "SAFE" 512 true)) := .of_watch rfl (.of_regs rfl)
  generalize (({ v with time := { v.time with armed := false } } : State).emit (.pin "SAFE" 512 true)) = w at hpin ⊢
  exact (hrole.trans hpin).trans (.of_watch rfl (WordsKept.refl w).keepCheck)

theorem State.setPwrEn_keep (s : State) (b : Bool) : KeepKept s (s.setPwrEn b) := by
  obtain ⟨h1, h2, -, -⟩ := s.setPwrEn_spec b
  exact ⟨by rw [h1], by rw [h1], .of_regs h2⟩

theorem State.coreFalls_eq (s : State) : s.coreFalls.watch = s.dieReset.watch ∧ s.coreFalls.regs = s.dieReset.regs ∧ s.coreFalls.pipe = s.dieReset.pipe
    ∧ s.coreFalls.berths = s.dieReset.berths := by
  rw [State.coreFalls]
  exact ⟨rfl, rfl, rfl, rfl⟩

/-- The main rails taken off. -/
theorem State.mainOff_keep (s : State) : KeepKept s s.mainOff ∧ s.mainOff.flt.log = [] ∧ s.mainOff.pipe = {} ∧ s.mainOff.berths = {} := by
  have hpwr := s.setPwrEn_keep false
  rw [State.mainOff]
  generalize s.setPwrEn false = v at hpwr ⊢
  obtain ⟨h1, h2, h3, h4⟩ := v.coreFalls_eq
  have hlog := v.coreFalls_log
  have hdie := v.dieReset_keep
  obtain ⟨-, -, -, -, -, -, h5, h6, -⟩ := v.dieReset_spec
  have hfall : KeepKept v v.coreFalls := hdie.trans (.of_watch h1 (.of_regs h2))
  generalize v.coreFalls = w at *
  exact ⟨(hpwr.trans hfall).trans ⟨rfl, rfl, .of_regs rfl⟩, hlog, h3.trans h5, h4.trans h6⟩

theorem State.watchEnter_keep (s : State) : KeepKept s s.watchEnter ∧ s.watchEnter.flt.log = [] ∧ s.watchEnter.pipe = {} ∧ s.watchEnter.berths = {} := by
  have hdown := s.safeDown_keep
  rw [State.watchEnter]
  generalize s.safeDown = v at hdown ⊢
  obtain ⟨h1, h2, h3, h4⟩ := v.mainOff_keep
  exact ⟨hdown.trans h1, h2, h3, h4⟩

theorem State.aonOff_keep (s : State) : KeepKept s s.aonOff := by
  have hoff : KeepKept s (if s.watch.pwrEn then s.mainOff else s) := by
    split
    · exact s.mainOff_keep.1
    · exact .refl s
  obtain ⟨-, -, -, -, -, hrd⟩ := s.aonOff_spec
  refine ⟨?_, ?_, ⟨fun a ha => hrd a (keptAtReset_of_lt (by have := ha.1; omega) (by have := ha.2; omega)) ?_⟩⟩
  · rw [← hoff.kwake, State.aonOff]
  · rw [← hoff.keeper, State.aonOff]
  · have := ha.1
    simp only [islandReg, Bool.and_eq_false_iff, decide_eq_false_iff_not]
    omega

theorem State.shelfEnter_keep (s : State) (hcore : s.watch.core = true) : s.shelfEnter.watch.kwake = false ∧ s.shelfEnter.watch.keeper = s.watch.keeper
    ∧ WordsKept s s.shelfEnter := by
  have h1 := s.watchEnter_keep.1
  have h2 := s.watchEnter.aonOff_keep
  obtain ⟨v, hv⟩ : ∃ v, v = s.watchEnter.aonOff := ⟨_, rfl⟩
  have heq : s.shelfEnter = ({ v with watch := { v.watch with kwake := false, shelf := true } } : State).emit (.pin "KWAKE" 0 false) := by
    rw [State.shelfEnter, if_pos hcore, hv]
  rw [← hv] at h2
  rw [heq]
  exact ⟨rfl, h2.keeper.trans h1.keeper, (h1.words.trans h2.words).regsSame rfl⟩

/-! #### Quiet -/

theorem State.quietCmd_enter (s : State) (req : Requester) (hquiet : s.quiet = false) (hpending : s.quietPending = false) :
    s.quietCmd req true = (s.setFld Reg.PWR_STAT 9 9 1).submit (.quiet true) := by
  rw [State.quietCmd, hquiet, hpending]
  exact if_neg (by decide)

theorem State.quietCmd_refused (req : Requester) (h : s.quiet = true ∨ s.quietPending = true) : s.quietCmd req true = s.accErr req Reg.PWR_CMD true false :=
  if_pos (by rcases h with h | h <;> simp [h])

theorem State.quietCmd_leave (req : Requester) (h : s.quiet = true ∨ s.quietPending = true) : s.quietCmd req false = s.submit (.quiet false) :=
  if_neg (by rcases h with h | h <;> simp [h])

theorem State.quietCmd_notQuiet (req : Requester) (hquiet : s.quiet = false) (hpending : s.quietPending = false) :
    s.quietCmd req false = s.accErr req Reg.PWR_CMD true false := if_pos (by rw [hquiet, hpending]; decide)

/-! #### Alarms -/

theorem State.armAlarm_alarm (s : State) {n : Nat} (hn : n < 2 ^ 34) : (s.armAlarm n).alarmSec = n ∧ (s.armAlarm n).alarmArmed = decide (n ≠ 0) := by
  have hlow : (s.armAlarm n).rn Reg.KEEP_ALARM = n % 2 ^ 32 := (State.rn_wn_ne _ _ (by decide)).trans (State.rn_wn_self ..)
  obtain ⟨hhigh, -⟩ := s.armAlarm_spec n
  have hb : (decide (n ≠ 0)).toNat ≤ 1 := by cases decide (n ≠ 0) <;> decide
  have hword : (s.armAlarm n).rn (Reg.KEEP_ALARM + 4) = n / 2 ^ 32 + 2 ^ 31 * (decide (n ≠ 0)).toNat := by
    rw [hhigh]
    simp only [bits]
    omega
  refine ⟨?_, ?_⟩
  · rw [State.alarmSec, hlow, hword]
    simp only [bits]
    omega
  · rw [State.alarmArmed, bit, hword, Nat.testBit_eq_decide_div_mod_eq]
    by_cases h : n = 0
    · subst h
      decide
    · rw [decide_eq_true h]
      simp only [Bool.toNat_true, decide_eq_true_eq]
      omega

theorem State.armAlarm_regsBut (s : State) (n : Nat) : RegsBut [Reg.KEEP_ALARM, Reg.KEEP_ALARM + 4] s (s.armAlarm n) := fun a ha => by
  have hne : a ≠ Reg.KEEP_ALARM ∧ a ≠ Reg.KEEP_ALARM + 4 := by simpa using ha
  exact (s.armAlarm_spec n).2.rd fun h => h.elim hne.1 hne.2

theorem State.alarmWrite_alarm (s : State) (req : Requester) (w : Word) :
    (s.alarmWrite req w.toNat).alarmSec = (s.pairTake req Reg.KEEP_ALARM).rn Reg.KEEP_ALARM + 2 ^ 32 * bits w.toNat 1 0
      ∧ (s.alarmWrite req w.toNat).alarmArmed = decide ((s.pairTake req Reg.KEEP_ALARM).rn Reg.KEEP_ALARM + 2 ^ 32 * bits w.toNat 1 0 ≠ 0) := by
  rw [State.alarmWrite]
  refine State.armAlarm_alarm _ ?_
  have h1 : (s.pairTake req Reg.KEEP_ALARM).rn Reg.KEEP_ALARM < 2 ^ 32 := BitVec.isLt _
  have h2 := bits_lt w.toNat 1 0
  omega

/-- An alarm taken in Watch wakes the device; in Shelf it raises KWAKE. -/
theorem State.alarmDue_run (s : State) (haon : s.inWatch = false) (hshelf : s.watch.shelf = false) : s.alarmDue = s.armAlarm 0 := by
  have h1 : ¬ (s.armAlarm 0).inWatch = true := by
    rw [State.inWatch, s.armAlarm_watch, ← State.inWatch, haon]
    decide
  have h2 : ¬ (s.armAlarm 0).watch.shelf = true := by
    rw [s.armAlarm_watch, hshelf]
    decide
  rw [State.alarmDue]
  dsimp only
  rw [if_neg h1, if_neg h2]

theorem State.alarmDue_watch (s : State) (haon : s.inWatch = true) : s.alarmDue = ((s.armAlarm 0).bump Reg.WATCH_WAKES).wake 7 2 0 := by
  have h1 : (s.armAlarm 0).inWatch = true := by rw [State.inWatch, s.armAlarm_watch, ← State.inWatch, haon]
  rw [State.alarmDue]
  dsimp only
  rw [if_pos h1]

theorem State.alarmDue_shelf (s : State) (haon : s.watch.aon = false) (hshelf : s.watch.shelf = true) : s.alarmDue.watch.kwake = true
    ∧ RegsBut [Reg.KEEP_ALARM, Reg.KEEP_ALARM + 4] s s.alarmDue ∧ s.alarmDue.hold = s.hold := by
  have h1 : ¬ (s.armAlarm 0).inWatch = true := by
    rw [State.inWatch, s.armAlarm_watch, haon, Bool.false_and]
    decide
  have h2 : (s.armAlarm 0).watch.shelf = true := by rw [s.armAlarm_watch, hshelf]
  have hregs := s.armAlarm_regsBut 0
  have hhold := (s.armAlarm_spec 0).2.hold
  obtain ⟨v, hv⟩ : ∃ v, v = s.armAlarm 0 := ⟨_, rfl⟩
  rw [← hv] at hregs hhold h1 h2
  have heq : s.alarmDue = ({ v with watch := { v.watch with kwake := true } } : State).emit (.pin "KWAKE" 0 true) := by
    rw [State.alarmDue, ← hv]
    dsimp only
    rw [if_neg h1, if_pos h2]
  rw [heq]
  exact ⟨rfl, hregs, hhold⟩

/-! #### Rails -/

/-- No block's reset shadows a fault of the device itself or of a supply (Table 15.6). -/
theorem State.shadowOf_never (s : State) {d : Nat} (i : Nat) (hd : d < 32 ∨ 203 ≤ d) : s.shadowOf d i = none := by
  rw [State.shadowOf, List.find?_eq_none]
  intro h _
  have hne {k : Nat} (hk : 32 ≤ k ∧ k < 203) : (d == k) = false := beq_eq_false_iff_ne.2 (by omega)
  have hbetween {k l : Nat} (hk : 32 ≤ k ∧ l < 203) : (decide (k ≤ d) && decide (d ≤ l)) = false := by
    rcases hd with hd | hd
    · rw [decide_eq_false (by omega), Bool.false_and]
    · rw [decide_eq_false (p := d ≤ l) (by omega), Bool.and_false]
  cases h.block <;> simp [State.shadows, hne, hbetween]

/-- A supply's new fault stands at the head of the log. -/
theorem State.raise_supply (s : State) {d i : Nat} (hlog : s.logOnly d = true) (hd : d = 257 ∨ d = 258) (hnew : s.fltInst d i = {}) (hfresh : s.LogFresh) :
    ((s.raise d i).flt.log.head?.map fun e => (e.det, e.inst)) = some (d, i) := by
  have htrips : s.trips d = true := by
    rw [State.trips]
    rcases hd with rfl | rfl <;> simp [show (detSev? 257).isSome = true from rfl, show (detSev? 258).isSome = true from rfl]
  have hreact : s.detReaction d ≤ 1 := by simpa [State.logOnly] using hlog
  obtain ⟨tr, htr, hdet, hinst, hrail⟩ : ∃ tr : Trip, tr = { det := d, inst := i } ∧ tr.det = d ∧ tr.inst = i ∧ tr.rail = false := ⟨_, rfl, rfl, rfl, rfl⟩
  obtain ⟨h1, -⟩ := State.logTrip_logged (t := tr) (by rw [hdet]; exact htrips) (by rw [hdet, hinst]; exact s.shadowOf_never i (.inr (by omega)))
    (.inr (by rw [hdet, hinst, hnew]; rfl)) (by rwa [hdet]) (by rw [hrail]; exact fun h => absurd h (by decide))
  rw [State.lampFlag_ne _ _ (by omega)] at h1
  obtain ⟨log, first, severe, k1, k2, -⟩ := State.tripRaise_spec hfresh tr (s.tripEntry tr) (s.fltInst tr.det tr.inst) (detEvent tr.det && !tr.rail) rfl rfl
    (State.trips_lt (hdet ▸ htrips))
  have hhead : (s.logTrip tr).flt.log.head? = log.head? := by rw [h1, k1]
  rw [State.raise, ← htr, hhead, ← hdet, ← hinst]
  rcases k2 with k2 | k2 <;> rw [k2] <;> rfl

/-- The condition of a fault cleared. -/
theorem State.condClear_spec (s : State) (d i : Nat) : ((s.condClear d i).fltInst d i).cond = false ∧ (s.condClear d i).flt.log = s.flt.log
    ∧ (s.condClear d i).regs = s.regs := by
  refine ⟨?_, ?_, s.condClear_regs d i⟩
  · unfold State.condClear
    dsimp only
    cases hx : tabGet? s.flt.insts (d * 65536 + i) with
    | none =>
      dsimp only
      rw [State.fltInst, tabGetD, instKey, hx]
      rfl
    | some x =>
      dsimp only
      split
      · rw [State.fltInst, instKey, tabGetD_tabSet_self]
      · next hc =>
        rw [State.fltInst, tabGetD, instKey, hx]
        exact Bool.not_eq_true _ ▸ hc
  · unfold State.condClear
    dsimp only
    split
    · split <;> rfl
    · rfl

theorem State.railTaken_alike (s : State) (rail : Nat) (under : Bool) : LogAlike s (s.railTaken rail under) ∧ ∀ d, (s.railTaken rail under).logOnly d = s.logOnly d :=
  ⟨⟨rfl, rfl, rfl⟩, fun _ => rfl⟩

theorem State.raiseOnce_new (h : s.fltInst n mv = {}) : s.raiseOnce n mv = s.raise n mv := by
  rw [State.raiseOnce, h]
  exact if_neg (by decide)

theorem State.stamp16_asked_any (s : State) (req : Requester) : (s.asked req).stamp16 = s.stamp16 := by
  rw [State.stamp16, State.stamp16, State.arrived, State.arrived, State.asked]
  cases s.asker <;> rfl

theorem rail_ne_lamp (rail : Fin 5) : ¬ (⟨rail.val, Nat.lt_succ_of_lt rail.isLt⟩ : Fin 6) = 5 := fun h => by
  have hval : rail.val = 5 := congrArg Fin.val h
  have := rail.isLt
  omega

theorem min_duration_lt (x : Nat) : min (2 ^ 24 - 1) x < 2 ^ 32 := Nat.lt_of_le_of_lt (Nat.min_le_left _ _) (by decide)

theorem State.supply_noDie (h : s.lampDie = false) (ok : Bool) : s.supply ok = s := if_neg (by rw [h]; decide)

/-- An alarm whose time has come is taken. -/
theorem alarmTaken {dt : Nat} (hkeeper : s.watch.keeper = true) (harmed : s.alarmArmed = true) (hdue : s.alarmSec ≤ (s.advance dt).rtcSec) :
    (if (s.advance dt).watch.keeper && (s.advance dt).alarmArmed && decide ((s.advance dt).alarmSec ≤ (s.advance dt).rtcSec) then (s.advance dt).alarmDue
      else s.advance dt) = (s.advance dt).alarmDue := by
  have hdec : decide ((s.advance dt).alarmSec ≤ (s.advance dt).rtcSec) = true := decide_eq_true hdue
  have hcond : ((s.advance dt).watch.keeper && (s.advance dt).alarmArmed && decide ((s.advance dt).alarmSec ≤ (s.advance dt).rtcSec)) = true := by
    rw [show (s.advance dt).watch.keeper = true from hkeeper, show (s.advance dt).alarmArmed = true from harmed, hdec]
    rfl
  exact if_pos hcond

/-! #### The obligation -/

/-- Settles O57: each change of a power state taken in its plainest case. -/
theorem powerStates : Obligations.PowerStates := by
  unfold Obligations.PowerStates
  intro dt n mv m k rail req w s hcore hlog
  have hk := k.isLt
  have huser : userWord (Reg.KEEP_LOG (16 + k)) := by
    simp only [userWord, Reg.KEEP_LOG]
    omega
  refine ⟨?_, ?_, ?_, ?_, ?_, ?_, ?_, ?_, ?_, ?_, ?_, ?_, ?_, ?_, ?_, ?_, ?_, ?_, ?_, ?_, ?_, ?_, ?_, ?_⟩
  case refine_1 =>
    intro hquiet hpending
    have hbody : ((s.advance dt).asked req).quietCmd req true = (((s.advance dt).asked req).setFld Reg.PWR_STAT 9 9 1).submit (.quiet true) :=
      ((s.advance dt).asked req).quietCmd_enter req hquiet hpending
    have h1 : (((s.advance dt).asked req).setFld Reg.PWR_STAT 9 9 1).fld Reg.PWR_STAT 9 9 = 1 := State.fld_setFld_fits _ (by decide) (by decide) (by decide)
    have h2 : (((s.advance dt).asked req).setFld Reg.PWR_STAT 9 9 1).fld Reg.PWR_STAT 8 0 = s.fld Reg.PWR_STAT 8 0 :=
      State.fld_setFld_beside _ (by decide) (by decide) (by decide)
    have h3 : (((s.advance dt).asked req).setFld Reg.PWR_STAT 9 9 1).stamp16 = (s.advance dt).stamp16 := (s.advance dt).stamp16_asked_any req
    have h4 : RegsBut [Reg.PWR_STAT] s (((s.advance dt).asked req).setFld Reg.PWR_STAT 9 9 1) := (regsBut_asked s dt req).setFld (by simp) _ _ _
    have h5 : (((s.advance dt).asked req).setFld Reg.PWR_STAT 9 9 1).pipe = s.pipe ∧ (((s.advance dt).asked req).setFld Reg.PWR_STAT 9 9 1).hold = s.hold := ⟨rfl, rfl⟩
    obtain ⟨v, hv⟩ : ∃ v, v = ((s.advance dt).asked req).setFld Reg.PWR_STAT 9 9 1 := ⟨_, rfl⟩
    rw [← hv] at h1 h2 h3 h4 h5 hbody
    have hlen := v.submit_length (.quiet true) true none
    have hlast := v.submit_last (.quiet true) true none
    rw [h5.1] at hlen
    rw [h3] at hlast
    exact completes_asked rfl hcore hbody ⟨h1, h2, hlast, hlen, regsBut_submitted.mpr h4, sameHold_of_hold h5.2⟩
  case refine_2 =>
    intro hquiet
    have hbody : ((s.advance dt).asked req).quietCmd req true = ((s.advance dt).asked req).accErr req Reg.PWR_CMD true false :=
      State.quietCmd_refused (s := (s.advance dt).asked req) req hquiet
    exact completes_asked rfl hcore hbody ⟨rfl, State.pair_accErr .., State.regsBut_accErr s req _ true false, fun _ => rfl⟩
  case refine_3 =>
    intro hquiet
    have hbody : ((s.advance dt).asked req).quietCmd req false = ((s.advance dt).asked req).submit (.quiet false) :=
      State.quietCmd_leave (s := (s.advance dt).asked req) req hquiet
    have hlast := ((s.advance dt).asked req).submit_last (.quiet false) true none
    rw [State.stamp16_asked_any] at hlast
    exact completes_asked rfl hcore hbody ⟨hlast, fun _ => rfl, fun _ => rfl⟩
  case refine_4 =>
    intro hquiet hpending
    have hbody : ((s.advance dt).asked req).quietCmd req false = ((s.advance dt).asked req).accErr req Reg.PWR_CMD true false :=
      State.quietCmd_notQuiet (s := (s.advance dt).asked req) req hquiet hpending
    exact completes_asked rfl hcore hbody ⟨rfl, State.pair_accErr .., State.regsBut_accErr s req _ true false, fun _ => rfl⟩
  case refine_5 =>
    obtain ⟨h1, h2, h3⟩ := (s.advance dt).watchEnter_spec
    obtain ⟨hkeep, h4, h5, h6⟩ := (s.advance dt).watchEnter_keep
    have hword := congrArg BitVec.toNat (hkeep.words.rd _ huser)
    have hkwake := hkeep.kwake
    obtain ⟨u, hu⟩ : ∃ u, u = (s.advance dt).watchEnter := ⟨_, rfl⟩
    rw [← hu] at h1 h2 h3 h4 h5 h6 hword hkwake
    exact completes_eq (u := u) rfl hcore hu.symm ⟨h1, h2, h3, hkwake, h4, h5, h6, hword⟩
  case refine_6 =>
    obtain ⟨h1, h2, h3, h4⟩ := State.shelfEnter_spec (s.advance dt) hcore
    obtain ⟨h5, h6, hwords⟩ := State.shelfEnter_keep (s.advance dt) hcore
    have hword := congrArg BitVec.toNat (hwords.rd _ huser)
    obtain ⟨u, hu⟩ : ∃ u, u = (s.advance dt).shelfEnter := ⟨_, rfl⟩
    rw [← hu] at h1 h2 h3 h4 h5 h6 hword
    exact completes_eq (u := u) rfl hcore hu.symm ⟨h1, h2, h3, h5, h4, h6, hword⟩
  case refine_7 =>
    intro hkeeper harmed hdue hpwr hshelf
    have hwatch : (s.advance dt).inWatch = false := by rw [State.inWatch, show (s.advance dt).watch.pwrEn = true from hpwr, Bool.not_true, Bool.and_false]
    have hbody := (alarmTaken hkeeper harmed hdue).trans ((s.advance dt).alarmDue_run hwatch hshelf)
    obtain ⟨h1, h2⟩ := (s.advance dt).armAlarm_alarm (n := 0) (by decide)
    have h3 := (s.advance dt).armAlarm_watch 0
    have h4 := (s.advance dt).armAlarm_regsBut 0
    have h5 := ((s.advance dt).armAlarm_spec 0).2.hold
    obtain ⟨u, hu⟩ : ∃ u, u = (s.advance dt).armAlarm 0 := ⟨_, rfl⟩
    rw [← hu] at h1 h2 h3 h4 h5 hbody
    exact completes_alwaysEq (u := u) (exec_rtcAlarm dt s) hbody ⟨h2, h1, h3, h4, sameHold_of_hold h5⟩
  case refine_8 =>
    intro hkeeper harmed hdue haon hpwr
    have hwatch : (s.advance dt).inWatch = true := by
      rw [State.inWatch, show (s.advance dt).watch.pwrEn = false from hpwr, show (s.advance dt).watch.aon = true from haon]
      rfl
    have htaken := alarmTaken hkeeper harmed hdue
    have h1 := (s.advance dt).alarmDue_spec
    have heq := (s.advance dt).alarmDue_watch hwatch
    have hside := ((s.advance dt).armAlarm_spec 0).2
    obtain ⟨v, hv⟩ : ∃ v, v = (s.advance dt).armAlarm 0 := ⟨_, rfl⟩
    rw [← hv] at heq hside
    have hwakes : (v.bump Reg.WATCH_WAKES).pair Reg.WATCH_WAKES = min (s.pair Reg.WATCH_WAKES + 1) (2 ^ 64 - 1) := by
      have hold : v.pair Reg.WATCH_WAKES = (s.advance dt).pair Reg.WATCH_WAKES := hside.pair (by decide) (by decide)
      rw [State.pair_bump, hold]
      rfl
    have hhold : (v.bump Reg.WATCH_WAKES).hold = s.hold := hside.hold
    obtain ⟨w, hw⟩ : ∃ w, w = v.bump Reg.WATCH_WAKES := ⟨_, rfl⟩
    rw [← hw] at heq hwakes hhold
    obtain ⟨k1, k2, k3, k4, k5⟩ := w.wake_spec (cause := 7) (wake := 2) (rule := 0) (by decide) (by decide) (by decide)
    have hlog {a : Nat} (ha : a < 0x160000) : ¬ logWords 1 3 a := by
      rintro (⟨h, -⟩ | h) <;> simp only [Reg.KEEP_LOG] at h <;> omega
    have hreg {a : Nat} (ha : a = Reg.WATCH_WAKES ∨ a = Reg.WATCH_WAKES + 4) : ¬ watchReg a := by
      rcases ha with rfl | rfl <;> (rintro (h | h) <;> exact absurd h (by decide))
    have hpair := (State.pair_congr (k5 _ (hlog (by decide)) (hreg (.inl rfl))) (k5 _ (hlog (by decide)) (hreg (.inr rfl)))).trans hwakes
    obtain ⟨u, hu⟩ : ∃ u, u = (s.advance dt).alarmDue := ⟨_, rfl⟩
    rw [← hu] at h1 heq
    rw [← heq] at k1 k2 k3 k4 hpair
    exact completes_alwaysEq (u := u) (exec_rtcAlarm dt s) (htaken.trans hu.symm) ⟨h1, congrArg WatchState.pwrEn k1, k2, k3, hpair, sameHold_of_hold (k4.trans hhold)⟩
  case refine_9 =>
    intro hkeeper harmed hdue haon hshelf
    have htaken := alarmTaken hkeeper harmed hdue
    have h1 := (s.advance dt).alarmDue_spec
    obtain ⟨h2, h3, h4⟩ := (s.advance dt).alarmDue_shelf haon hshelf
    obtain ⟨u, hu⟩ : ∃ u, u = (s.advance dt).alarmDue := ⟨_, rfl⟩
    rw [← hu] at h1 h2 h3 h4
    exact completes_alwaysEq (u := u) (exec_rtcAlarm dt s) (htaken.trans hu.symm) ⟨h1, h2, h3, sameHold_of_hold h4⟩
  case refine_10 =>
    intro h
    have hcond : ¬ ((s.advance dt).watch.keeper && (s.advance dt).alarmArmed && decide ((s.advance dt).alarmSec ≤ (s.advance dt).rtcSec)) = true := by
      rcases h with h | h
      · rw [show (s.advance dt).alarmArmed = false from h, Bool.and_false, Bool.false_and]
        decide
      · have hdec : decide ((s.advance dt).alarmSec ≤ (s.advance dt).rtcSec) = false := decide_eq_false (Nat.not_le.2 h)
        rw [hdec, Bool.and_false]
        decide
    exact completes_alwaysEq (u := s.advance dt) (exec_rtcAlarm dt s) (if_neg hcond) ⟨rfl, fun _ => rfl, fun _ => rfl⟩
  case refine_11 =>
    intro hn hm
    obtain ⟨-, h2, h3⟩ := (s.advance dt).alarmWrite_spec req w
    obtain ⟨h4, h5⟩ := (s.advance dt).alarmWrite_alarm req w
    rw [hn, hm] at h4 h5
    obtain ⟨u, hu⟩ : ∃ u, u = (s.advance dt).alarmWrite req w.toNat := ⟨_, rfl⟩
    rw [← hu] at h2 h3 h4 h5
    exact completes_eq (u := u) rfl hcore hu.symm ⟨h4, h5, h2, sameHold_of_hold h3⟩
  case refine_12 =>
    intro hnone hmv
    have hgo : ¬ ((s.advance dt).watch.warnAt.isSome || !below mv 720) = true := by
      rw [show (s.advance dt).watch.warnAt = none from hnone, below_iff.2 hmv]
      decide
    obtain ⟨h1, h2, h3, h4, -, h6, h7⟩ := (s.advance dt).brownNoted_spec (mv := mv) (by omega)
    obtain ⟨v, hv⟩ : ∃ v, v = (s.advance dt).brownNoted mv := ⟨_, rfl⟩
    rw [← hv] at h1 h2 h3 h4 h6 h7
    have hvlog : v.logOnly 256 = true := (State.logOnly_congr (h7 _ (by decide) (by decide))).trans hlog
    have hfault := raiseOnce_faultSide v 256 0 mv hvlog
    have hstand := v.raiseOnce_standing (d := 256) 0 mv hvlog (by decide) (by decide) (by decide) (by decide) (v.shadowOf_never 0 (by decide))
    obtain ⟨u, hu⟩ : ∃ u, u = v.raiseOnce 256 0 mv := ⟨_, rfl⟩
    have hbody : ((s.advance dt).brownNoted mv).raiseOnce 256 0 mv = u := by rw [← hv, hu]
    rw [← hu] at hfault hstand
    exact completes_eq (u := u) (exec_brownoutWarning dt mv s) hcore ((if_neg hgo).trans hbody) ⟨congrArg WatchState.warnAt (hfault.watch.trans h1),
      (hfault.fld 1 1 (by decide)).trans h2, (hfault.rn (by decide)).trans h3, (hfault.pair (by decide) (by decide)).trans h4, hstand,
      sameHold_of_hold (hfault.hold.trans h6)⟩
  case refine_13 =>
    intro h
    have hgo : ((s.advance dt).watch.warnAt.isSome || !below mv 720) = true := by
      rcases h with h | h
      · rw [show (s.advance dt).watch.warnAt = some n from h]
        rfl
      · have hb : below mv 720 = false := decide_eq_false (by omega)
        rw [hb, Bool.not_false, Bool.or_true]
    exact completes_eq (u := s.advance dt) (exec_brownoutWarning dt mv s) hcore (if_pos hgo) ⟨rfl, fun _ => rfl, fun _ => rfl⟩
  case refine_14 =>
    intro hwarn helapsed hmv htftp hsaves hwait
    have hgo : ((s.advance dt).elapsed n (ms 1) && below mv 720) = true := by
      have h : (s.advance dt).elapsed n (ms 1) = true := decide_eq_true helapsed
      rw [h, below_iff.2 hmv]
      rfl
    obtain ⟨h1, h2, h3, h4, h5, h6, h7⟩ := (s.advance dt).brownCleared_spec (mv := mv) (by omega)
    have hus : (s.advance dt).warnUs ((s.advance dt).clk - ms 1) = min (2 ^ 24 - 1) (ceilDiv (s.clk + dt - ms 1 - n) 800) := by
      rw [State.warnUs, show (s.advance dt).watch.warnAt = some n from hwarn]
      rfl
    rw [hus, Nat.mod_eq_of_lt (min_duration_lt _)] at h4
    obtain ⟨v, hv⟩ : ∃ v, v = (s.advance dt).brownCleared mv := ⟨_, rfl⟩
    rw [← hv] at h1 h2 h3 h4 h5 h6 h7
    have hfault := condClear_faultSide v 256 0
    obtain ⟨k1, -, k3⟩ := v.condClear_spec 256 0
    obtain ⟨u, hu⟩ : ∃ u, u = v.condClear 256 0 := ⟨_, rfl⟩
    rw [← hu] at hfault k1 k3
    have hnvm : u.nvm = s.nvm := by
      obtain ⟨_, _, _, rfl, _⟩ := hfault
      exact h5
    have hres : u.nvmResume.tftpResume = u := State.resume_none (hnvm ▸ htftp) (hnvm ▸ hsaves) (hnvm ▸ hwait)
    have hbody : (match (s.advance dt).watch.warnAt with
        | none => s.advance dt
        | some a => if (s.advance dt).elapsed a (ms 1) && below mv 720 then ((((s.advance dt).brownCleared mv).condClear 256 0).nvmResume).tftpResume
          else s.advance dt) = u := by
      rw [show (s.advance dt).watch.warnAt = some n from hwarn]
      exact (if_pos hgo).trans (by rw [← hv, ← hu, hres])
    have hbut (hdie : s.lampDie = false) : RegsBut [Reg.PWR_STAT, Reg.PWR_BROWN_MIN, Reg.PWR_BROWN_LAST] s u := fun a ha => by
      rw [State.rd, k3]
      exact h7 hdie a ha
    exact completes_eq (u := u) (exec_brownoutEnd dt mv s) hcore hbody ⟨congrArg WatchState.warnAt (hfault.watch.trans h1),
      (hfault.fld 1 1 (by decide)).trans h2, (hfault.rn (by decide)).trans h3, (hfault.rn (by decide)).trans h4, k1, hbut,
      sameHold_of_hold (hfault.hold.trans h6)⟩
  case refine_15 =>
    intro hwarn hearly
    have hbody : (match (s.advance dt).watch.warnAt with
        | none => s.advance dt
        | some a => if (s.advance dt).elapsed a (ms 1) && below mv 720 then ((((s.advance dt).brownCleared mv).condClear 256 0).nvmResume).tftpResume
          else s.advance dt) = s.advance dt := by
      have h : (s.advance dt).elapsed n (ms 1) = false := decide_eq_false (Nat.not_le.2 hearly)
      rw [show (s.advance dt).watch.warnAt = some n from hwarn]
      exact if_neg (by rw [h, Bool.false_and]; decide)
    exact completes_eq (u := s.advance dt) (exec_brownoutEnd dt mv s) hcore hbody ⟨rfl, fun _ => rfl, fun _ => rfl⟩
  case refine_16 =>
    intro hwarn hmv
    have hgo : ¬ (!below mv 690) = true := by
      rw [below_iff.2 hmv]
      decide
    obtain ⟨h1, h2, h3, h4, h5, h6, h7, h8, h9⟩ := (s.advance dt).brownReset_spec (mv := mv) (by omega)
    have hus : (s.advance dt).warnUs (s.advance dt).clk = min (2 ^ 24 - 1) (ceilDiv (s.clk + dt - n) 800) := by
      rw [State.warnUs, show (s.advance dt).watch.warnAt = some n from hwarn]
      rfl
    rw [hus, Nat.mod_eq_of_lt (min_duration_lt _)] at h5
    obtain ⟨u, hu⟩ : ∃ u, u = (s.advance dt).brownReset mv := ⟨_, rfl⟩
    rw [← hu] at h1 h2 h3 h4 h5 h6 h7 h8 h9
    exact completes_eq (u := u) (exec_brownoutReset dt mv s) hcore ((if_neg hgo).trans hu.symm) ⟨h1, h2, h3, h4, h5, h6, h7, h8 k hk, sameHold_of_hold h9⟩
  case refine_17 =>
    intro hmv
    have hb : below mv 690 = false := decide_eq_false (by omega)
    exact completes_eq (u := s.advance dt) (exec_brownoutReset dt mv s) hcore (if_pos (by rw [hb]; rfl)) ⟨rfl, fun _ => rfl, fun _ => rfl⟩
  case refine_18 =>
    intro hlog257 hnew hshadow hfresh
    obtain ⟨h1, h2, h3, h4⟩ := (s.advance dt).railTaken_spec rail true
    obtain ⟨halike, hlogs⟩ := (s.advance dt).railTaken_alike rail true
    obtain ⟨v, hv⟩ : ∃ v, v = (s.advance dt).railTaken rail true := ⟨_, rfl⟩
    rw [← hv] at h1 h3 h4 halike hlogs
    have hvnew : v.fltInst 257 rail = {} := by rw [State.fltInst, h4]; exact hnew
    have hvlog : v.logOnly 257 = true := (hlogs 257).trans hlog257
    have hhead := v.raise_supply hvlog (.inl rfl) hvnew (halike.fresh (State.logFresh_of_freshStamp hfresh))
    have hstand := v.raise_standing (d := 257) rail 0 hvlog (by decide) (by decide) (by decide) (by decide) (v.shadowOf_never rail (by decide))
    have hfault := raise_faultSide v 257 rail 0 hvlog
    obtain ⟨u, hu⟩ : ∃ u, u = v.raise 257 rail := ⟨_, rfl⟩
    rw [← hu] at hhead hstand hfault
    have hbody : (if (⟨rail.val, Nat.lt_succ_of_lt rail.isLt⟩ : Fin 6) = 5 then
          if true then ((s.advance dt).railTaken rail true).raiseOnce 258 0 else ((s.advance dt).railTaken rail true).condClear 258 0
        else if true then ((s.advance dt).railTaken rail true).raiseOnce 257 rail else ((s.advance dt).railTaken rail true).condClear 257 rail) = u := by
      rw [if_neg (rail_ne_lamp rail), if_pos rfl, ← hv, State.raiseOnce_new hvnew, hu]
    exact completes_eq (u := u) (exec_railUndervoltage dt _ true s) hcore hbody ⟨(congrArg (fun w => bit (WatchState.rails w) (rail + 1)) hfault.watch).trans h1,
      hhead, hstand, sameHold_of_hold (hfault.hold.trans h3)⟩
  case refine_19 =>
    intro hlog258 hnew hshadow hfresh
    obtain ⟨h1, h2, h3, h4⟩ := (s.advance dt).railTaken_spec 5 true
    obtain ⟨halike, hlogs⟩ := (s.advance dt).railTaken_alike 5 true
    obtain ⟨v, hv⟩ : ∃ v, v = (s.advance dt).railTaken 5 true := ⟨_, rfl⟩
    rw [← hv] at h1 h3 h4 halike hlogs
    have hvnew : v.fltInst 258 0 = {} := by rw [State.fltInst, h4]; exact hnew
    have hvlog : v.logOnly 258 = true := (hlogs 258).trans hlog258
    have hhead := v.raise_supply hvlog (.inr rfl) hvnew (halike.fresh (State.logFresh_of_freshStamp hfresh))
    have hfault := raise_faultSide v 258 0 0 hvlog
    obtain ⟨u, hu⟩ : ∃ u, u = v.raise 258 0 := ⟨_, rfl⟩
    rw [← hu] at hhead hfault
    have hbody : (if (5 : Fin 6) = 5 then
          if true then ((s.advance dt).railTaken 5 true).raiseOnce 258 0 else ((s.advance dt).railTaken 5 true).condClear 258 0
        else if true then ((s.advance dt).railTaken 5 true).raiseOnce 257 5 else ((s.advance dt).railTaken 5 true).condClear 257 5) = u := by
      rw [if_pos rfl, if_pos rfl, ← hv, State.raiseOnce_new hvnew, hu]
    exact completes_eq (u := u) (exec_railUndervoltage dt 5 true s) hcore hbody ⟨(congrArg (fun w => bit (WatchState.rails w) 6) hfault.watch).trans h1,
      hhead, sameHold_of_hold (hfault.hold.trans h3)⟩
  case refine_20 =>
    obtain ⟨h1, h2, h3, h4⟩ := (s.advance dt).railTaken_spec rail false
    obtain ⟨v, hv⟩ : ∃ v, v = (s.advance dt).railTaken rail false := ⟨_, rfl⟩
    rw [← hv] at h1 h2 h3 h4
    have hfault := condClear_faultSide v 257 rail
    obtain ⟨k1, k2, k3⟩ := v.condClear_spec 257 rail
    obtain ⟨u, hu⟩ : ∃ u, u = v.condClear 257 rail := ⟨_, rfl⟩
    rw [← hu] at hfault k1 k2 k3
    have hbody : (if (⟨rail.val, Nat.lt_succ_of_lt rail.isLt⟩ : Fin 6) = 5 then
          if false then ((s.advance dt).railTaken rail false).raiseOnce 258 0 else ((s.advance dt).railTaken rail false).condClear 258 0
        else if false then ((s.advance dt).railTaken rail false).raiseOnce 257 rail else ((s.advance dt).railTaken rail false).condClear 257 rail) = u := by
      rw [if_neg (rail_ne_lamp rail), if_neg Bool.false_ne_true, ← hv, hu]
    exact completes_eq (u := u) (exec_railUndervoltage dt _ false s) hcore hbody ⟨(congrArg (fun w => bit (WatchState.rails w) (rail + 1)) hfault.watch).trans h1,
      k1, k2.trans (congrArg FaultState.log h4), sameRegs_of_regs (k3.trans h2), sameHold_of_hold (hfault.hold.trans h3)⟩
  case refine_21 =>
    intro hdie
    obtain ⟨h1, h2, h3⟩ := State.supply_spec (s.advance dt) true hdie
    obtain ⟨u, hu⟩ : ∃ u, u = (s.advance dt).supply true := ⟨_, rfl⟩
    rw [← hu] at h1 h2 h3
    exact completes_eq (u := u) rfl hcore hu.symm ⟨congrArg LampState.supplyOk h1, h2, sameHold_of_hold h3⟩
  case refine_22 =>
    intro hdie
    obtain ⟨h1, h2, h3⟩ := State.supply_spec (s.advance dt) false hdie
    obtain ⟨u, hu⟩ : ∃ u, u = (s.advance dt).supply false := ⟨_, rfl⟩
    rw [← hu] at h1 h2 h3
    exact completes_eq (u := u) rfl hcore hu.symm ⟨congrArg LampState.supplyOk h1, h2, sameHold_of_hold h3⟩
  case refine_23 =>
    intro hdie
    exact completes_eq (u := s.advance dt) rfl hcore (State.supply_noDie (s := s.advance dt) hdie false) ⟨rfl, fun _ => rfl, fun _ => rfl⟩
  case refine_24 =>
    intro hdie
    exact completes_eq (u := s.advance dt) rfl hcore (State.supply_noDie (s := s.advance dt) hdie true) ⟨rfl, fun _ => rfl, fun _ => rfl⟩

end Sys2Proof.Machine
end

section
/-! ### Trips that share a clock, and reserves -/

namespace Sys2Proof.Machine

variable {s t u : State} {d i : Nat} {e x y : LogEntry}

/-- What of an entry no later entry of its clock changes. -/
def LogEntry.key (e : LogEntry) : Nat × Nat × Nat × Nat := (e.det, e.inst, e.stamp, e.frac)

/-- The keys of the log. -/
def State.keys (s : State) : List (Nat × Nat × Nat × Nat) := s.flt.log.map LogEntry.key

theorem State.keys_congr (h : t.flt.log = s.flt.log) : t.keys = s.keys := by rw [State.keys, h, State.keys]

theorem State.keys_mapped {f : LogEntry → LogEntry} (h : t.flt.log = s.flt.log.map f) (hf : ∀ z, (f z).key = z.key) : t.keys = s.keys := by
  rw [State.keys, h, List.map_map, State.keys]
  exact List.map_congr_left fun z _ => hf z

theorem State.logMoved_log (s : State) (q : Nat) :
    ∃ f : Nat → Nat, (s.logMoved q).flt.log = s.flt.log.map fun z => if z.kind = 3 then { z with cause := f z.cause } else z := by
  rw [State.logMoved]
  refine ⟨fun c => if (c + 2 ^ 32 - q) % 2 ^ 32 < (s.flt.nextSeq + 2 ^ 32 - 1 - q) % 2 ^ 32 then (c + 1) % 2 ^ 32 else c, ?_⟩
  split
  · rw [State.keepWrite_flt]
  · rfl

theorem State.logMoved_keys (s : State) (q : Nat) : (s.logMoved q).keys = s.keys := by
  obtain ⟨f, hf⟩ := s.logMoved_log q
  refine State.keys_mapped hf fun z => ?_
  split <;> rfl

theorem State.putFirst_keys (s : State) (e : LogEntry) : (s.putFirst e).keys = s.keys := by
  refine State.keys_mapped (congrArg FaultState.log (s.putFirst_flt e)) fun z => ?_
  split
  · next h => rw [h]; rfl
  · split <;> rfl

theorem State.takeFirst_keys (s : State) (d i : Nat) : (s.takeFirst d i).keys = s.keys := by
  unfold State.takeFirst
  split
  · rfl
  · next x _ =>
    have h (b : Bool) : (if b then s.putFirst x else s).keys = s.keys := by
      cases b with
      | false => rfl
      | true => exact s.putFirst_keys x
    exact h _

theorem State.logPush_keys (s : State) (e : LogEntry) : (s.logPush e).keys = ((logInsert (s.logged e) s.flt.log).take 1024).map LogEntry.key := by
  rw [State.logPush_eq]
  have hv : (if s.flt.log.length < 1024 then s else s.bump Reg.FLT_LOG_LOST).flt.log = s.flt.log := by
    split
    · rfl
    · rw [State.bump_flt]
  generalize (if s.flt.log.length < 1024 then s else s.bump Reg.FLT_LOG_LOST) = v at hv ⊢
  rw [hv, State.logSettled]
  split
  · rfl
  · exact State.logMoved_keys _ _

theorem State.tripRaise_keys (s : State) (t : Trip) (e : LogEntry) (f : FltInst) (ev : Bool) :
    (s.tripRaise t e f ev).1.keys = ((logInsert (s.logged (s.raisedEntry t e ev)) s.flt.log).take 1024).map LogEntry.key := by
  obtain ⟨v, hv⟩ : ∃ v, v = s.tripLog t (s.raisedEntry t e ev) (s.raisedEntry t e ev).withheld := ⟨_, rfl⟩
  obtain ⟨⟨severe, hm⟩, -, -⟩ := v.tripMarks_spec t e.sev (s.raisedEntry t e ev).latched
  have heq : (s.tripRaise t e f ev).1 = (v.tripMarks t e.sev (s.raisedEntry t e ev).latched).tripStand t f ev (s.raisedEntry t e ev).reaction e.sev
      (s.raisedEntry t e ev).latched e.injected := by
    rw [hv]
    rfl
  have hstand : (s.tripRaise t e f ev).1.flt.log = v.flt.log := by
    rw [heq]
    have hml : (v.tripMarks t e.sev (s.raisedEntry t e ev).latched).flt.log = v.flt.log := by rw [hm]
    generalize v.tripMarks t e.sev (s.raisedEntry t e ev).latched = w at hml ⊢
    rw [State.tripStand]
    split
    · exact hml
    · exact hml
  have halike := LogAlike.of_regSide (s.tripCounted_regSide t.rail (s.raisedEntry t e ev).withheld)
  rw [State.keys_congr hstand, hv, State.tripLog_eq, State.takeFirst_keys, State.logPush_keys, halike.logged, halike.flt]

/-- A trip of any kind joins the log, in a place of its own clock. -/
theorem State.enterTrip_keys {t : Trip} (htrips : s.trips t.det = true) : ∃ e : LogEntry, e.key = (t.det, t.inst, toLedger s.stampNs, s.stampFrac)
    ∧ (s.enterTrip t).1.keys = ((logInsert e s.flt.log).take 1024).map LogEntry.key := by
  obtain ⟨hsome, hquiet⟩ := Bool.and_eq_true_iff.1 htrips
  have hsev : detSev? t.det ≠ none := Option.isSome_iff_ne_none.1 hsome
  have hnot : ¬ (s.fld Reg.PWR_STAT 0 0 = 1 ∧ (t.det = 64 ∨ t.det = 65 ∨ t.det = 67)) := fun h => by
    rw [decide_eq_true h.1] at hquiet
    obtain ⟨-, h | h | h⟩ := h <;> simp [h] at hquiet
  have halike := LogAlike.of_regSide (s.lampFlag_regSide t.det t.inst)
  have hlog : (s.lampFlag t.det t.inst).flt.log = s.flt.log := by rw [halike.flt]
  have hstamp : (s.lampFlag t.det t.inst).stampNs = s.stampNs ∧ (s.lampFlag t.det t.inst).stampFrac = s.stampFrac := by
    rw [State.stampNs, State.stampFrac, State.stamp16, halike.arrived]
    exact ⟨rfl, rfl⟩
  unfold State.enterTrip
  rw [if_neg hsev, if_neg hnot, ← hlog, ← hstamp.1, ← hstamp.2]
  dsimp only
  generalize s.lampFlag t.det t.inst = v
  split
  · next h _ =>
    rw [State.tripShadowed]
    dsimp only
    have hkept (w : State) (hw : w.flt.log = v.flt.log) (hs : w.stampNs = v.stampNs ∧ w.stampFrac = v.stampFrac) (e : LogEntry) :
        ((w.bump Reg.FLT_CONSEQ).logPush e).keys = ((logInsert (((w.bump Reg.FLT_CONSEQ)).logged e) v.flt.log).take 1024).map LogEntry.key
          ∧ toLedger (w.bump Reg.FLT_CONSEQ).stampNs = toLedger v.stampNs ∧ (w.bump Reg.FLT_CONSEQ).stampFrac = v.stampFrac := by
      refine ⟨by rw [State.logPush_keys, State.bump_flt, hw], ?_⟩
      rw [← hs.1, ← hs.2, State.stampNs, State.stampFrac, State.stamp16, State.arrived, State.bump_time]
      exact ⟨rfl, rfl⟩
    split
    · obtain ⟨k1, k2, k3⟩ := hkept { v with flt := { v.flt with inShadow := (instKey t.det t.inst, t.info) :: v.flt.inShadow } } rfl ⟨rfl, rfl⟩ _
      exact ⟨_, by rw [← k2, ← k3]; rfl, k1⟩
    · next hev =>
      obtain ⟨k1, k2, k3⟩ := hkept (({ v with flt := { v.flt with inShadow := (instKey t.det t.inst, t.info) :: v.flt.inShadow } } : State).setFltInst t.det t.inst
        { v.fltInst t.det t.inst with cond := (v.fltInst t.det t.inst).cond || detHasCond t.det }) rfl ⟨rfl, rfl⟩ _
      exact ⟨_, by rw [← k2, ← k3]; rfl, k1⟩
  · split
    · exact ⟨_, rfl, State.logPush_keys _ _⟩
    · exact ⟨_, rfl, State.tripRaise_keys v t _ _ _⟩

/-- A fault that a detector raises to be logged alone. -/
structure Independent (s : State) (d : Nat) : Prop where
  trips : s.trips d = true
  logged : s.logOnly d = true

/-- A detector that only logs raises no more than its entry. -/
theorem State.raise_entered {d : Nat} (h : s.logOnly d = true) (i info : Nat) : s.raise d i info = (s.enterTrip { det := d, inst := i, info := info }).1 := by
  have hcode := enterTrip_code s { det := d, inst := i, info := info } rfl (by simpa [State.logOnly] using h)
  rw [State.raise, State.logTrip]
  generalize s.enterTrip { det := d, inst := i, info := info } = r at hcode ⊢
  obtain ⟨u, _ | x⟩ := r
  · rfl
  · exact State.act1_logged u (hcode x rfl)

/-- A logged trip joins the log. -/
theorem Independent.raise_keys (h : Independent s d) (i info : Nat) : ∃ e : LogEntry, e.key = (d, i, toLedger s.stampNs, s.stampFrac)
    ∧ (s.raise d i info).keys = ((logInsert e s.flt.log).take 1024).map LogEntry.key := by
  rw [State.raise_entered h.logged]
  exact State.enterTrip_keys (t := { det := d, inst := i, info := info }) h.trips

/-- In a clock of its own such a trip stands first. -/
theorem Independent.raise_fresh (h : Independent s d) (hfresh : s.LogFresh) (i info : Nat) :
    (s.raise d i info).keys = ((d, i, toLedger s.stampNs, s.stampFrac) :: s.keys).take 1024 := by
  obtain ⟨e, he, hkeys⟩ := h.raise_keys i info
  obtain ⟨hstamp, hfrac⟩ : e.stamp = toLedger s.stampNs ∧ e.frac = s.stampFrac := by
    simp only [LogEntry.key, Prod.mk.injEq] at he
    exact he.2.2
  have hnew : s.flt.log.head?.any (fun z => z.meets e) = false := by
    cases hh : s.flt.log.head? with
    | none => rfl
    | some z => exact hfresh.not_meets (.inl hh) hstamp hfrac
  rw [hkeys, logInsert_new _ hnew, List.map_take, List.map_cons, he]
  rfl

/-- The second trip of a clock stands next to the first. -/
theorem logInsert_second {rest : List LogEntry} (hrest : ∀ z, rest.head? = some z → z.stamp ≠ e.stamp ∨ z.frac ≠ e.frac) :
    (logInsert e (x :: rest)).map LogEntry.key = e.key :: x.key :: rest.map LogEntry.key
      ∨ (logInsert e (x :: rest)).map LogEntry.key = x.key :: e.key :: rest.map LogEntry.key := by
  rw [logInsert]
  split
  · split
    · refine .inr ?_
      rw [logInsert_new]
      · rfl
      · cases hh : rest.head? with
        | none => rfl
        | some z =>
          refine Bool.not_eq_true _ ▸ fun hm => ?_
          obtain ⟨h1, h2⟩ := LogEntry.meets_stamp (x := z) (e := { e with seq := x.seq, coincident := true }) hm
          exact (hrest z hh).elim (fun h => h h1) (fun h => h h2)
    · exact .inl rfl
  · exact .inl rfl

/-- Two trips of a clock of their own stand at the head of the log. -/
theorem Independent.raise_two {d' i' : Nat} (h : Independent s d) (hfresh : s.LogFresh) (info : Nat) (hkeys : t.keys = (s.raise d i info).keys)
    (htime : t.stampNs = s.stampNs ∧ t.stampFrac = s.stampFrac) (h' : Independent t d') (info' : Nat) :
    ∀ v ∈ [(d', i'), (d, i)], v ∈ ((t.raise d' i' info').flt.log.take 2).map fun e => (e.det, e.inst) := by
  obtain ⟨e, he, hk⟩ := h'.raise_keys i' info'
  rw [htime.1, htime.2] at he
  have hlog : t.flt.log.map LogEntry.key = (d, i, toLedger s.stampNs, s.stampFrac) :: (s.keys.take 1023) := by
    refine (hkeys.trans (h.raise_fresh hfresh i info)).trans ?_
    rfl
  obtain ⟨x, rest, hx, hxk, hrestk⟩ := List.map_eq_cons_iff.1 hlog
  have hrest : ∀ z, rest.head? = some z → z.stamp ≠ e.stamp ∨ z.frac ≠ e.frac := by
    intro z hz
    have hhead : (s.keys.take 1023).head? = some z.key := by rw [← hrestk, List.head?_map, hz]; rfl
    have hsk : s.keys.head? = some z.key := by
      rw [List.head?_take] at hhead
      simpa using hhead
    rw [State.keys, List.head?_map, Option.map_eq_some_iff] at hsk
    obtain ⟨q, hq, hqk⟩ := hsk
    have hne := hfresh q (.inl hq)
    simp only [LogEntry.key, Prod.mk.injEq] at hqk he
    rw [he.2.2.1, he.2.2.2, ← hqk.2.2.1, ← hqk.2.2.2]
    exact hne
  rw [hx] at hk
  have hwho : ((t.raise d' i' info').flt.log.take 2).map (fun e => (e.det, e.inst)) = ((t.raise d' i' info').keys.take 2).map fun k => (k.1, k.2.1) := by
    rw [State.keys, ← List.map_take, List.map_map]
    rfl
  rw [hwho, hk, List.map_take (f := LogEntry.key)]
  rcases logInsert_second hrest with hins | hins
  · rw [hins, he, hxk]
    simp
  · rw [hins, he, hxk]
    simp

theorem FaultSide.clk (h : FaultSide s t) : t.clk = s.clk := by obtain ⟨_, _, _, rfl, _⟩ := h; rfl

theorem FaultSide.alike (h : FaultSide s t) : t.stampNs = s.stampNs ∧ t.stampFrac = s.stampFrac := by
  obtain ⟨_, _, _, rfl, _⟩ := h
  exact ⟨rfl, rfl⟩

/-- A fault of the device itself trips in every power state. -/
theorem independent_device (hd : d < 32 ∨ 203 ≤ d) (hsev : (detSev? d).isSome = true) (hlog : s.logOnly d = true) : Independent s d := by
  refine ⟨?_, hlog⟩
  have hne {k : Nat} (hk : 32 ≤ k ∧ k < 203) : (d == k) = false := beq_eq_false_iff_ne.2 (by omega)
  rw [State.trips, hsev]
  simp [hne]

/-! #### Reserves (R453 to R456) -/

theorem RegSide.foldl_mem {p : Nat → Prop} {α : Type} {f : State → α → State} (h : RegSide p s t) (l : List α) (hf : ∀ u, ∀ x ∈ l, RegSide p u (f u x)) :
    RegSide p s (l.foldl f t) := List.foldlRecOn (motive := RegSide p s) l f h fun _ hu x hx => hu.trans (hf _ x hx)

/-- The registers that show the reserves. -/
@[reducible] def rsvReg (a : Nat) : Prop := a = Reg.RSV_STAT ∨ a = Reg.RSV_HOLD_MAP ∨ ∃ c < 10, a = Reg.RSV_CORE_STAT c

theorem State.rsvSettle_regSide (s : State) : RegSide rsvReg s s.rsvSettle := by
  rw [State.rsvSettle]
  refine (((RegSide.refl _ s).wn _ (.inl rfl)).wn _ (.inr (.inl rfl))).foldl_mem _ fun u c hc => ?_
  have hcore : rsvReg (Reg.RSV_CORE_STAT c) := .inr (.inr ⟨c, List.mem_range.1 hc, rfl⟩)
  exact ((RegSide.refl _ u).setFld _ _ _ hcore).setFld _ _ _ hcore

/-- A substitution substituting up. -/
def State.substituting (s : State) (k i : Nat) : State := { s with rsv := { s.rsv with running := s.rsv.running ++ [⟨k, i, s.clk⟩] } }

theorem State.substituting_alike (s : State) (k i : Nat) : LogAlike s (s.substituting k i) ∧ (∀ d, (s.substituting k i).logOnly d = s.logOnly d) ∧ (s.substituting k i).regs = s.regs
    ∧ (s.substituting k i).hold = s.hold ∧ (s.substituting k i).rsv = { s.rsv with running := s.rsv.running ++ [⟨k, i, s.clk⟩] } :=
  ⟨⟨rfl, rfl, rfl⟩, fun _ => rfl, rfl, rfl, rfl⟩

/-- A free reserve starts to stand in, with its fault raised. -/
theorem State.substitute_free {k : Nat} (hrun : s.rsv.running = []) (hfree : s.reserveFree k i = true) (h3 : k ≠ 3) :
    s.substitute k i = ((s.substituting k i).raise 11 k i).rsvSettle := by
  rw [State.substitute, if_neg (by rw [hrun]; simp), if_pos hfree]
  exact congrArg State.rsvSettle (if_neg h3)

/-- What the start of a substitution leaves. -/
theorem State.substitute_spec {k : Nat} (hrun : s.rsv.running = []) (hfree : s.reserveFree k i = true) (h3 : k ≠ 3) (h11 : s.logOnly 11 = true) :
    (s.substitute k i).rsv = { s.rsv with running := [⟨k, i, s.clk⟩] } ∧ (s.substitute k i).hold = s.hold
      ∧ (s.substitute k i).flt = ((s.substituting k i).raise 11 k i).flt
      ∧ ∀ a, faultReg a = false → ¬ rsvReg a → (s.substitute k i).rd a = s.rd a := by
  obtain ⟨-, hlogs, hregs, hhold, hrsv⟩ := s.substituting_alike k i
  have hfault := raise_faultSide (s.substituting k i) 11 k i ((hlogs 11).trans h11)
  rw [State.substitute_free hrun hfree h3]
  rw [hrun] at hrsv
  generalize s.substituting k i = v at *
  generalize v.raise 11 k i = w at *
  have hset := w.rsvSettle_regSide
  have hwr : w.rsvSettle.rsv = w.rsv := by
    obtain ⟨_, h, _⟩ := hset
    rw [h]
  refine ⟨hwr.trans (hfault.rsv.trans hrsv), hset.hold.trans (hfault.hold.trans hhold), hset.flt, fun a hf hr => (hset.rd hr).trans ((hfault.rd hf).trans ?_)⟩
  rw [State.rd, hregs]
  rfl

/-- A fault in a clock of its own, and the fault of the reserve that it takes. -/
theorem State.substitute_two {k : Nat} (h : Independent s d) (hfresh : s.LogFresh) (info : Nat) (hkeys : t.keys = (s.raise d i info).keys)
    (htime : t.stampNs = s.stampNs ∧ t.stampFrac = s.stampFrac) {j : Nat} (hrun : t.rsv.running = []) (hfree : t.reserveFree k j = true) (h3 : k ≠ 3)
    (h11 : t.logOnly 11 = true) : ∀ v ∈ [(11, k), (d, i)], v ∈ ((t.substitute k j).flt.log.take 2).map fun e => (e.det, e.inst) := by
  obtain ⟨halike, hlogs, -⟩ := t.substituting_alike k j
  have hind : Independent (t.substituting k j) 11 := independent_device (.inl (by decide)) rfl ((hlogs 11).trans h11)
  rw [State.substitute_free hrun hfree h3, (State.rsvSettle_regSide _).flt]
  refine h.raise_two hfresh info ((State.keys_congr (congrArg FaultState.log halike.flt)).trans hkeys) ?_ hind j
  rw [State.stampNs, State.stampFrac, State.stamp16, halike.arrived]
  exact htime

end Sys2Proof.Machine
end

section
/-! ### The watchkeeper, the RTC and the trims -/

namespace Sys2Proof.Machine

variable {s t u : State} {v n m code : Nat} {x : WatchVal}

/-- A command that does nothing here does nothing with the die held in reset either. -/
theorem completes_idle {c : Instr} {dt : Nat} {f : State → State} {P : State → Prop} (hc : exec c s = act dt s f) (hf : f (s.advance dt) = s.advance dt)
    (hp : P (acted dt s id)) : Completes c s P := by
  refine ⟨_, hc, ?_⟩
  split
  · exact (show acted dt s f = acted dt s id by rw [acted, hf]; rfl) ▸ hp
  · exact hp

/-! #### Sums of bits -/

/-- The word with a set of bits. -/
def bitSum (f : Nat → Bool) (l : List Nat) : Nat := l.foldl (fun a r => a + if f r then 2 ^ r else 0) 0

theorem bitSum_spec (f : Nat → Bool) (k : Nat) : bitSum f (List.range k) < 2 ^ k ∧ ∀ r < k, (bitSum f (List.range k)).testBit r = f r := by
  induction k with
  | zero => exact ⟨Nat.zero_lt_one, fun r hr => absurd hr (by omega)⟩
  | succ k ih =>
    obtain ⟨hlt, hbit⟩ := ih
    have hsum : bitSum f (List.range (k + 1)) = bitSum f (List.range k) + if f k then 2 ^ k else 0 := by
      rw [bitSum, List.range_succ, List.foldl_append]
      rfl
    rw [hsum]
    cases hf : f k with
    | false =>
      refine ⟨Nat.lt_of_lt_of_le hlt (Nat.pow_le_pow_right (by decide) (by omega)), fun r hr => ?_⟩
      obtain hr | rfl : r < k ∨ r = k := by omega
      · exact hbit r hr
      · rw [hf]
        exact Nat.testBit_lt_two_pow hlt
    | true =>
      rw [if_pos rfl, Nat.add_comm]
      refine ⟨by rw [Nat.pow_succ]; omega, fun r hr => ?_⟩
      obtain hr | rfl : r < k ∨ r = k := by omega
      · rw [Nat.testBit_two_pow_add_gt hr]
        exact hbit r hr
      · rw [Nat.testBit_two_pow_add_eq, Nat.testBit_lt_two_pow hlt, hf]
        rfl

/-! #### Outputs stay sent -/

theorem State.emit_mem (s : State) (o : Output) : ∀ q ∈ s.out, q ∈ (s.emit o).out := fun _ hq => List.mem_cons_of_mem _ hq

/-- A settled Watchkeeper shows its rules that are true. -/
theorem State.watchSettle_spec (s : State) : (s.watchSettle.rn Reg.WATCH_RULE_TRUE = bitSum (fun r => (s.rule r).on) (List.range 32))
    ∧ ∀ q ∈ s.out, q ∈ s.watchSettle.out := by
  unfold State.watchSettle
  extract_lets was v w x y
  have hv : v.rn Reg.WATCH_RULE_TRUE = bitSum (fun r => (s.rule r).on) (List.range 32) := by
    refine (State.rn_wn_self ..).trans (Nat.mod_eq_of_lt ?_)
    exact (bitSum_spec (fun r => (s.rule r).on) 32).1
  have hw : WireSide (fun a => a = Reg.WATCH_STAT) v w := (WireSide.refl _ v).foldl _ fun u k _ => (WireSide.refl _ u).setFld _ _ _ rfl
  have hwo : w.out = v.out := foldl_keeps State.out (f := fun u k => u.setFld Reg.WATCH_STAT (1 + k) (1 + k) (u.aonio k).toNat) (fun u k => rfl) _ _
  have hx : WireSide (fun a => a = Reg.WATCH_STAT) v x := hw.setFld _ _ _ rfl
  have hxo : x.out = s.out := hwo
  have hy : WireSide (fun a => a = Reg.WATCH_STAT) v y := hx.foldl _ fun u k _ => .ite (.refl _ u) ((WireSide.refl _ u).emit _)
  have hyo : ∀ q ∈ s.out, q ∈ y.out := by
    rw [← hxo]
    refine List.foldlRecOn (motive := fun u : State => ∀ q ∈ x.out, q ∈ u.out) _ _ (fun q hq => hq) fun u hu k _ q hq => ?_
    split
    · exact hu q hq
    · exact u.emit_mem _ q (hu q hq)
  clear_value y
  split
  · exact ⟨(hy.rn (by decide)).trans hv, hyo⟩
  · exact ⟨((hy.emit _).rn (by decide)).trans hv, fun q hq => y.emit_mem _ q (hyo q hq)⟩

/-! #### Samples -/

theorem State.setWval_spec (s : State) (v : Nat) (x : WatchVal) : (s.setWval v x).wval v = x
    ∧ (s.setWval v x).rn (Reg.WATCH_VAL v) = (x.filtered + 4096 * x.valid.toNat + 65536 * x.raw) % 2 ^ 32
    ∧ (∀ a, a ≠ Reg.WATCH_VAL v → (s.setWval v x).rd a = s.rd a) ∧ (s.setWval v x).hold = s.hold ∧ (s.setWval v x).out = s.out
    ∧ (s.setWval v x).watch = { s.watch with vals := tabSet s.watch.vals v x } := by
  refine ⟨?_, State.rn_wn_self .., fun a ha => State.rd_wr_ne _ _ ha, rfl, rfl, rfl⟩
  exact tabGetD_tabSet_self ..

/-- With no rule on a value its sample moves no rule. -/
theorem State.rulesEval_none (h : s.rulesOf v = []) : s.rulesEval v = ({ s with watch := { s.watch with rules := s.watch.rules } } : State).watchSettle := by
  rw [State.rulesEval, h]
  rw [State.rulesAct]
  simp

theorem State.rulesEval_quiet (h : s.rulesOf v = []) : WireSide watchReg s (s.rulesEval v) ∧ ∀ q ∈ s.out, q ∈ (s.rulesEval v).out := by
  rw [State.rulesEval_none h]
  exact ⟨State.watchSettle_wireSide _, (State.watchSettle_spec _).2⟩

/-- A sample out of Run goes through its filter and its rules alone. -/
theorem State.sampleValue_watch (hcore : s.watch.core = false) : s.sampleValue v code true =
    (s.setWval v (filterStep (s.rn (Reg.WATCH_VAL_CFG v)) (s.wval v) (min 4095 code))).rulesEval v := by
  have hc (w : WatchVal) : (s.setWval v w).watch.core = false := hcore
  rw [State.sampleValue]
  simp [hc]

theorem State.rulesOf_congr (hregs : ∀ a, 0x150400 ≤ a → t.rd a = s.rd a) (hwatch : t.inWatch = s.inWatch) (v : Nat) : t.rulesOf v = s.rulesOf v := by
  have h0 (r : Nat) : t.ruleW0 r = s.ruleW0 r := congrArg BitVec.toNat (hregs _ (by simp only [Reg.WATCH_RULE]; omega))
  have h1 (r : Nat) : t.ruleW1 r = s.ruleW1 r := congrArg BitVec.toNat (hregs _ (by simp only [Reg.WATCH_RULE]; omega))
  simp only [State.rulesOf, h0, h1, hwatch]

/-- A sample that passes unfiltered. -/
theorem filterStep_plain (cfg : Nat) (x : WatchVal) (code : Nat) (h : bits cfg 4 3 = 0) : ∃ y, filterStep cfg x code = y ∧ y.filtered = code ∧ y.valid = true
    ∧ y.hist = (code :: x.hist).take 64 ∧ y.last = x.last ∧ y.raw = code := by
  refine ⟨_, rfl, ?_, rfl, ?_, rfl, rfl⟩
  · rw [filterStep, h]
    rfl
  · rw [filterStep, h]
    rfl

/-- A sample through the exponential filter. -/
theorem filterStep_smooth (cfg : Nat) (x : WatchVal) (code : Nat) (h : bits cfg 4 3 = 3) (hy : x.y = some n)
    (hm : ((n : Int) + ((256 * code : Nat) - (n : Int)) / (2 ^ (bits cfg 7 5 + 1) : Nat)).toNat = m) :
    (filterStep cfg x code).y = some m ∧ (filterStep cfg x code).filtered = (m + 128) / 256 := by
  rw [filterStep, h, hy]
  dsimp only
  rw [hm]
  exact ⟨if_pos rfl, rfl⟩

/-- The state with a value's instant noted. -/
def State.instant (s : State) (v : Nat) : State :=
  s.setWval v { s.wval v with last := some (s.sampleIdx (s.fld (Reg.WATCH_VAL_CFG v) 2 0)) }

theorem State.watchSample_eq (haon : s.watch.aon = true) (hon : bit (s.rn (Reg.WATCH_VAL_CFG v)) 8 = true)
    (hlast : (s.wval v).last ≠ some (s.sampleIdx (s.fld (Reg.WATCH_VAL_CFG v) 2 0))) (valid : Bool) :
    s.watchSample v code valid = (s.instant v).sampleValue v code (valid && (!(s.instant v).inWatch || v < 12)) := by
  have hgo : ¬ (!s.watch.aon || !bit (s.rn (Reg.WATCH_VAL_CFG v)) 8
      || (s.wval v).last == some (s.sampleIdx (bits (s.rn (Reg.WATCH_VAL_CFG v)) 2 0))) = true := by
    have hl : ((s.wval v).last == some (s.sampleIdx (bits (s.rn (Reg.WATCH_VAL_CFG v)) 2 0))) = false := beq_eq_false_iff_ne.2 hlast
    rw [haon, hon, hl]
    decide
  exact if_neg hgo

/-- A sample of a value taken in once, filtered. -/
structure Sampled (s t : State) (v : Nat) (x : WatchVal) : Prop where
  val : t.wval v = x
  shown : t.rn (Reg.WATCH_VAL v) = (x.filtered + 4096 * x.valid.toNat + 65536 * x.raw) % 2 ^ 32
  rd : ∀ a, a ≠ Reg.WATCH_VAL v → t.rd a = s.rd a
  hold : t.hold = s.hold
  out : t.out = s.out
  watch : ∃ vals, t.watch = { s.watch with vals := vals }

theorem State.sampled_instant (hlow : v < 64) (w : WatchVal) (hw : ∀ x, x = { s.wval v with last := some (s.sampleIdx (s.fld (Reg.WATCH_VAL_CFG v) 2 0)) } →
    filterStep (s.rn (Reg.WATCH_VAL_CFG v)) x (min 4095 code) = w) :
    Sampled s ((s.instant v).setWval v (filterStep ((s.instant v).rn (Reg.WATCH_VAL_CFG v)) ((s.instant v).wval v) (min 4095 code))) v w := by
  obtain ⟨h1, -, h3, h4, h5, h6⟩ := s.setWval_spec v { s.wval v with last := some (s.sampleIdx (s.fld (Reg.WATCH_VAL_CFG v) 2 0)) }
  have hcfg : (s.instant v).rn (Reg.WATCH_VAL_CFG v) = s.rn (Reg.WATCH_VAL_CFG v) :=
    congrArg BitVec.toNat (h3 _ (by simp only [Reg.WATCH_VAL_CFG, Reg.WATCH_VAL]; omega))
  rw [hcfg, show (s.instant v).wval v = _ from h1, hw _ rfl]
  rw [← State.instant] at h3 h4 h5 h6
  generalize s.instant v = u at *
  obtain ⟨k1, k2, k3, k4, k5, k6⟩ := u.setWval_spec v w
  exact ⟨k1, k2, fun a ha => (k3 a ha).trans (h3 a ha), k4.trans h4, k5.trans h5, _, by rw [k6, h6]⟩

/-- A valid sample out of Run (R475): filtered, shown, and compared by the rules on it. -/
theorem State.watchSample_valid (hcore : s.watch.core = false) (haon : s.watch.aon = true) (hv : v < 12) (hon : bit (s.rn (Reg.WATCH_VAL_CFG v)) 8 = true)
    (hlast : (s.wval v).last ≠ some (s.sampleIdx (s.fld (Reg.WATCH_VAL_CFG v) 2 0))) {w : WatchVal}
    (hw : ∀ x, x = { s.wval v with last := some (s.sampleIdx (s.fld (Reg.WATCH_VAL_CFG v) 2 0)) } →
      filterStep (s.rn (Reg.WATCH_VAL_CFG v)) x (min 4095 code) = w) :
    ∃ u, Sampled s u v w ∧ s.watchSample v code true = u.rulesEval v := by
  refine ⟨_, State.sampled_instant (s := s) (by omega) w hw, ?_⟩
  rw [State.watchSample_eq haon hon hlast, decide_eq_true hv, Bool.or_true, Bool.and_true]
  exact State.sampleValue_watch hcore

theorem Sampled.rulesOf (h : Sampled s t v x) (hv : v < 64) (i : Nat) : t.rulesOf i = s.rulesOf i := by
  obtain ⟨vals, hw⟩ := h.watch
  refine State.rulesOf_congr (fun a ha => h.rd a ?_) ?_ i
  · simp only [Reg.WATCH_VAL]
    omega
  · rw [State.inWatch, hw, State.inWatch]

/-- A sample of a value without rules. -/
theorem Sampled.unruled (h : Sampled s t v x) (hv : v < 64) (hrules : s.rulesOf v = []) :
    ((t.rulesEval v).wval v = x ∧ (t.rulesEval v).rn (Reg.WATCH_VAL v) = (x.filtered + 4096 * x.valid.toNat + 65536 * x.raw) % 2 ^ 32
      ∧ (t.rulesEval v).hold = s.hold) ∧ ∀ q ∈ s.out, q ∈ (t.rulesEval v).out := by
  obtain ⟨hside, hout⟩ := State.rulesEval_quiet ((h.rulesOf hv v).trans hrules)
  refine ⟨⟨?_, (hside.rn ?_).trans h.shown, hside.hold.trans h.hold⟩, fun q hq => hout q (h.out ▸ hq)⟩
  · rw [State.wval, hside.watch]
    exact h.val
  · rintro (h | h) <;> simp only [Reg.WATCH_VAL, Reg.WATCH_RULE_TRUE, Reg.WATCH_STAT] at h <;> omega

/-- A rule that a sample turns true, with no action of its own. -/
theorem Sampled.oneRule {r : Nat} (h : Sampled s t v x) (hv : v < 64) (hr : r < 32) (hrules : s.rulesOf v = [r]) (hrule : s.rule r = {})
    (hkind : bits (s.ruleW0 r) 7 6 = 0) (hmet : bits (s.ruleW0 r) 19 8 ≤ x.hist.getD 0 0) (hdeb : bits (s.ruleW1 r) 3 0 = 1)
    (hact : bits (s.ruleW1 r) 15 12 = 0) :
    (t.rulesEval v).rule r = ⟨true, 0⟩ ∧ bit ((t.rulesEval v).rn Reg.WATCH_RULE_TRUE) r = true ∧ (t.rulesEval v).watch.pwrEn = s.watch.pwrEn
      ∧ (t.rulesEval v).hold = s.hold := by
  obtain ⟨vals, hw⟩ := h.watch
  have hreg (j : Nat) : t.rn (Reg.WATCH_RULE j) = s.rn (Reg.WATCH_RULE j) :=
    congrArg BitVec.toNat (h.rd _ (by simp only [Reg.WATCH_RULE, Reg.WATCH_VAL]; omega))
  have h0 : t.ruleW0 r = s.ruleW0 r := hreg _
  have h1 : t.ruleW1 r = s.ruleW1 r := hreg _
  have htr : t.rule r = {} := by rw [State.rule, hw]; exact hrule
  have hstep : ruleStep (t.ruleW0 r) (t.ruleW1 r) (t.wval v).hist (t.rule r) = ⟨true, 0⟩ := by
    rw [h0, h1, h.val, htr, ruleStep, ruleTest, hkind]
    dsimp only
    rw [decide_eq_true (by exact_mod_cast hmet), hdeb]
    rfl
  have hbit (k : Nat) (hk : 12 ≤ k ∧ k ≤ 15) : bit (s.ruleW1 r) k = false := by
    have hb := testBit_bits (s.ruleW1 r) 15 12 (k - 12)
    rw [hact, Nat.zero_testBit, decide_eq_true (by omega), Bool.true_and, show 12 + (k - 12) = k by omega] at hb
    exact hb.symm
  obtain ⟨y, hy, hyr, hyh⟩ : ∃ y : State, y = { t with watch := { t.watch with rules := tabSet t.watch.rules r ⟨true, 0⟩ } } ∧ y.regs = t.regs ∧ y.hold = t.hold :=
    ⟨_, rfl, rfl, rfl⟩
  have hside := y.watchSettle_wireSide
  obtain ⟨hshown, -⟩ := y.watchSettle_spec
  have hyrule : y.rule r = ⟨true, 0⟩ := by
    rw [hy]
    exact tabGetD_tabSet_self ..
  have hpwr : y.watch.pwrEn = s.watch.pwrEn := by rw [hy, hw]
  have hzw1 : y.watchSettle.ruleW1 r = s.ruleW1 r := by
    refine (hside.rn ?_).trans ((congrArg BitVec.toNat (by rw [State.rd, hyr]; rfl)).trans (hreg _))
    rintro (h | h) <;> simp only [Reg.WATCH_RULE, Reg.WATCH_RULE_TRUE, Reg.WATCH_STAT] at h <;> omega
  have heval : t.rulesEval v = y.watchSettle := by
    have hnow : ([(r, (⟨true, 0⟩ : WatchRule))].filter fun e => e.2.on && !(t.rule e.1).on).map (·.1) = [r] := by
      simp [htr]
    rw [State.rulesEval, h.rulesOf hv, hrules, List.map_singleton, hstep]
    dsimp only
    rw [hnow, List.foldl_cons, List.foldl_nil, ← hy]
    generalize y.watchSettle = z at hzw1
    have h14 : bit (z.ruleW1 r) 14 = false := by rw [hzw1]; exact hbit 14 (by decide)
    have h15 : bit (z.ruleW1 r) 15 = false := by rw [hzw1]; exact hbit 15 (by decide)
    have h12 : bit (z.ruleW1 r) 12 = false := by rw [hzw1]; exact hbit 12 (by decide)
    rw [State.rulesAct]
    simp [h14, h15, h12]
  rw [heval]
  refine ⟨?_, ?_, (congrArg WatchState.pwrEn hside.watch).trans hpwr, hside.hold.trans (hyh.trans h.hold)⟩
  · rw [State.rule, hside.watch]
    exact hyrule
  · rw [hshown, bit, (bitSum_spec _ 32).2 r hr, hyrule]

theorem State.sampled_twice (s : State) (v : Nat) (x y : WatchVal) : Sampled s ((s.setWval v x).setWval v y) v y := by
  obtain ⟨-, -, h3, h4, h5, h6⟩ := s.setWval_spec v x
  generalize s.setWval v x = u at *
  obtain ⟨k1, k2, k3, k4, k5, k6⟩ := u.setWval_spec v y
  exact ⟨k1, k2, fun a ha => (k3 a ha).trans (h3 a ha), k4.trans h4, k5.trans h5, _, by rw [k6, h6]⟩

/-- An invalid sample clears VALID alone (R475). -/
theorem State.watchSample_invalid (haon : s.watch.aon = true) (hon : bit (s.rn (Reg.WATCH_VAL_CFG v)) 8 = true)
    (hlast : (s.wval v).last ≠ some (s.sampleIdx (s.fld (Reg.WATCH_VAL_CFG v) 2 0))) :
    s.watchSample v code false = (s.setWval v { s.wval v with last := some (s.sampleIdx (s.fld (Reg.WATCH_VAL_CFG v) 2 0)) }).setWval v
      { s.wval v with last := some (s.sampleIdx (s.fld (Reg.WATCH_VAL_CFG v) 2 0)), valid := false } := by
  obtain ⟨h1, -⟩ := s.setWval_spec v { s.wval v with last := some (s.sampleIdx (s.fld (Reg.WATCH_VAL_CFG v) 2 0)) }
  rw [State.watchSample_eq haon hon hlast, Bool.false_and, State.instant, State.sampleValue, h1]
  rfl

/-! #### I²C scripts -/

theorem State.sampled_direct (s : State) (v : Nat) (x : WatchVal) : Sampled s (s.setWval v x) v x := by
  obtain ⟨h1, h2, h3, h4, h5, h6⟩ := s.setWval_spec v x
  exact ⟨h1, h2, h3, h4, h5, _, h6⟩

/-- Samples that a failed script leaves invalid. -/
theorem State.sampleInvalid_foldl (s : State) (slot : Nat) (l : List Nat) :
    (l.foldl (fun s j => s.sampleValue (20 + 4 * slot + j) 0 false) s).pair Reg.WATCH_I2C_FAIL = s.pair Reg.WATCH_I2C_FAIL
      ∧ (l.foldl (fun s j => s.sampleValue (20 + 4 * slot + j) 0 false) s).watch.rules = s.watch.rules
      ∧ (l.foldl (fun s j => s.sampleValue (20 + 4 * slot + j) 0 false) s).hold = s.hold := by
  refine List.foldlRecOn (motive := fun u : State => u.pair Reg.WATCH_I2C_FAIL = s.pair Reg.WATCH_I2C_FAIL ∧ u.watch.rules = s.watch.rules ∧ u.hold = s.hold)
    _ _ ⟨rfl, rfl, rfl⟩ fun u hu j _ => ?_
  obtain ⟨h1, h2, h3⟩ := hu
  obtain ⟨-, -, k3, k4, -, k6⟩ := u.setWval_spec (20 + 4 * slot + j) { u.wval (20 + 4 * slot + j) with valid := false }
  have heq : u.sampleValue (20 + 4 * slot + j) 0 false = u.setWval (20 + 4 * slot + j) { u.wval (20 + 4 * slot + j) with valid := false } := rfl
  have hne : Reg.WATCH_I2C_FAIL ≠ Reg.WATCH_VAL (20 + 4 * slot + j) ∧ Reg.WATCH_I2C_FAIL + 4 ≠ Reg.WATCH_VAL (20 + 4 * slot + j) := by
    simp only [Reg.WATCH_I2C_FAIL, Reg.WATCH_VAL]
    omega
  rw [heq]
  exact ⟨(State.pair_congr (k3 _ hne.1) (k3 _ hne.2)).trans h1, (congrArg WatchState.rules k6).trans h2, k4.trans h3⟩

/-- A script sent to its device. -/
def State.i2cSent (s : State) (slot : Nat) : State :=
  ({ s with watch := { s.watch with i2cLast := tabSet s.watch.i2cLast slot (s.sampleIdx (bits (s.i2cWord slot 0) 26 24)) } }).send "I2C" slot (s.i2cScript slot)

/-- The fields of a script that are sampled. -/
def State.i2cFields (s : State) (slot : Nat) : List Nat :=
  (List.range 4).filter fun j => bit (s.i2cField slot j) 6 && bit (s.rn (Reg.WATCH_VAL_CFG (20 + 4 * slot + j))) 8

theorem State.i2cSent_spec (s : State) (slot : Nat) : (∃ l, (s.i2cSent slot).watch = { s.watch with i2cLast := l }) ∧ (s.i2cSent slot).regs = s.regs
    ∧ (s.i2cSent slot).hold = s.hold ∧ .message "I2C" slot (s.i2cScript slot) ∈ (s.i2cSent slot).out
    ∧ (s.i2cSent slot).i2cFields slot = s.i2cFields slot := ⟨⟨_, rfl⟩, rfl, rfl, List.mem_cons_self, rfl⟩

theorem State.i2cRun_eq {slot : Nat} (haon : s.watch.aon = true) (hon : bit (s.i2cWord slot 0) 7 = true)
    (hlast : tabGet? s.watch.i2cLast slot ≠ some (s.sampleIdx (bits (s.i2cWord slot 0) 26 24))) (hcore : s.watch.core = false) (bytes : Option (List Byte)) :
    s.i2cRun slot bytes = match bytes.filter fun b => b.length == bits (s.i2cWord slot 0) 14 12 with
      | none => ((s.i2cSent slot).i2cFields slot).foldl (fun s j => s.sampleValue (20 + 4 * slot + j) 0 false) ((s.i2cSent slot).bump Reg.WATCH_I2C_FAIL)
      | some bs => ((s.i2cSent slot).i2cFields slot).foldl (fun s j => s.sampleValue (20 + 4 * slot + j)
          (if bit (s.i2cField slot j) 5 then (beNat bs / 2 ^ bits (s.i2cField slot j) 4 0 % 4096 + 2048) % 4096
            else beNat bs / 2 ^ bits (s.i2cField slot j) 4 0 % 4096) true) (s.i2cSent slot) := by
  have hgo : ¬ (!s.watch.aon || !bit (s.i2cWord slot 0) 7 || tabGet? s.watch.i2cLast slot == some (s.sampleIdx (bits (s.i2cWord slot 0) 26 24))) = true := by
    rw [haon, hon, beq_eq_false_iff_ne.2 hlast]
    decide
  have hc : (s.i2cSent slot).watch.core = false := hcore
  refine (if_neg hgo).trans ?_
  change (match bytes.filter fun b => b.length == bits (s.i2cWord slot 0) 14 12 with
      | none => if (((s.i2cSent slot).i2cFields slot).foldl (fun (s : State) j => s.sampleValue (20 + 4 * slot + j) 0 false)
          ((s.i2cSent slot).bump Reg.WATCH_I2C_FAIL)).watch.core then _ else _
      | some bs => ((s.i2cSent slot).i2cFields slot).foldl _ (if (s.i2cSent slot).watch.core then _ else s.i2cSent slot)) = _
  cases bytes.filter fun b => b.length == bits (s.i2cWord slot 0) 14 12 with
  | some bs =>
    dsimp only
    rw [if_neg (by rw [hc]; decide)]
  | none =>
    have hkeep : (((s.i2cSent slot).i2cFields slot).foldl (fun s j => s.sampleValue (20 + 4 * slot + j) 0 false) ((s.i2cSent slot).bump Reg.WATCH_I2C_FAIL)).watch.core
        = false :=
      List.foldlRecOn (motive := fun u : State => u.watch.core = false) _ _ hc fun u hu j _ => hu
    exact if_neg (by rw [hkeep]; decide)

/-! #### The RTC and the logbook -/

theorem acted_rtcNs {dt : Nat} (h : u.clk = s.clk + dt) : (acted dt s fun _ => u).rtcNs = u.rtcNs := by
  rw [State.rtcNs, State.rtcNs, State.rtcUnits, State.rtcUnits, h]
  rfl

/-- The RTC set to a ledger second (R480). -/
def State.rtcSynced (s : State) (n : Nat) : State :=
  let s := s.rtcSet (n * 32768 * rtcTick) s.watch.rtcTrim
  ({ s with watch := { s.watch with syncSec := some n } }).setFld Reg.KEEP_STAT 2 2 1

theorem exec_rtcSync (dt : Nat) (s : State) : exec (.rtcSync dt) s = act dt s fun u =>
    if u.time.servo != .locked || !u.watch.keeper || u.watch.syncSec == some (u.ns / 10 ^ 9) || decide (2 ≤ u.ns % 10 ^ 9) then u
    else u.rtcSynced (u.ns / 10 ^ 9) := rfl

theorem State.rtcNs_seconds (hbase : s.watch.rtcBase = n * 32768 * rtcTick) (hat : s.watch.rtcAt = s.clk) : s.rtcNs = n * 10 ^ 9 := by
  have htick : 0 < rtcTick := by decide
  rw [State.rtcNs, State.rtcUnits, hbase, hat, Nat.sub_self, Nat.zero_mul, Nat.add_zero, Nat.mul_div_cancel _ htick]
  omega

theorem State.rtcSynced_spec (s : State) (n : Nat) : (s.rtcSynced n).rtcNs = n * 10 ^ 9 ∧ (s.rtcSynced n).fld Reg.KEEP_STAT 2 2 = 1
    ∧ RegsBut [Reg.KEEP_STAT, Reg.KEEP_RTC_TRIM] s (s.rtcSynced n) ∧ (s.rtcSynced n).hold = s.hold ∧ (s.rtcSynced n).clk = s.clk := by
  obtain ⟨h1, h2, h3⟩ := s.rtcSet_spec (n * 32768 * rtcTick) s.watch.rtcTrim
  have hclk : (s.rtcSet (n * 32768 * rtcTick) s.watch.rtcTrim).clk = s.clk := State.wn_clk ..
  rw [State.rtcSynced]
  generalize s.rtcSet (n * 32768 * rtcTick) s.watch.rtcTrim = v at *
  obtain ⟨w, hw, k1, k2, k3, k4⟩ : ∃ w : State, w = { v with watch := { v.watch with syncSec := some n } } ∧ w.watch = { v.watch with syncSec := some n }
    ∧ w.regs = v.regs ∧ w.hold = v.hold ∧ w.clk = v.clk := ⟨_, rfl, rfl, rfl, rfl, rfl⟩
  rw [← hw]
  have hside : RegSide (fun a => a = Reg.KEEP_STAT) w (w.setFld Reg.KEEP_STAT 2 2 1) := (RegSide.refl _ w).setFld _ _ _ rfl
  have hfld : (w.setFld Reg.KEEP_STAT 2 2 1).fld Reg.KEEP_STAT 2 2 = 1 := State.fld_setFld_fits _ (by decide) (by decide) (by decide)
  generalize w.setFld Reg.KEEP_STAT 2 2 1 = z at *
  refine ⟨State.rtcNs_seconds ?_ ?_, hfld, fun a ha => ?_, hside.hold.trans (k3.trans h2), hside.clk.trans (k4.trans hclk)⟩
  · rw [hside.watch, k1, h1]
  · rw [hside.watch, k1, h1, hside.clk, k4, hclk]
  · have hne : a ≠ Reg.KEEP_STAT ∧ a ≠ Reg.KEEP_RTC_TRIM := by simpa using ha
    refine BitVec.eq_of_toNat_eq ((congrArg BitVec.toNat ((hside.rd hne.1).trans ?_)).trans (h3 a hne.2))
    rw [State.rd, k2]
    rfl

/-- The RTC's correction moved by a drift (R480). -/
def State.rtcDrifted (s : State) (drift : Int) : State :=
  let s := s.rtcSet s.rtcUnits (clampI (-2000) 2000 (s.watch.rtcTrim - drift))
  { s with watch := { s.watch with driftAt := s.clk } }

theorem exec_rtcDriftWindow (dt : Nat) (drift : Int) (s : State) : exec (.rtcDriftWindow dt drift) s = act dt s fun u =>
    if u.time.servo != .locked || !u.watch.keeper || !u.elapsed u.watch.driftAt (sec 60) then u else u.rtcDrifted drift := rfl

theorem unsigned16_lt (z : Int) : unsigned 16 z < 2 ^ 32 := by
  rw [unsigned]
  have h1 := Int.emod_lt_of_pos z (show (0 : Int) < (2 ^ 16 : Nat) by norm_num)
  have h2 : ((2 ^ 16 : Nat) : Int) = 65536 := rfl
  omega

theorem State.rtcDrifted_spec (s : State) (drift : Int) : (s.rtcDrifted drift).watch.rtcTrim = clampI (-2000) 2000 (s.watch.rtcTrim - drift)
    ∧ (s.rtcDrifted drift).rn Reg.KEEP_RTC_TRIM = unsigned 16 (clampI (-2000) 2000 (s.watch.rtcTrim - drift))
    ∧ (s.rtcDrifted drift).rtcNs = s.rtcNs ∧ RegsBut [Reg.KEEP_RTC_TRIM] s (s.rtcDrifted drift) ∧ (s.rtcDrifted drift).hold = s.hold
    ∧ (s.rtcDrifted drift).clk = s.clk := by
  have hset (units : Nat) (trim : Int) : (s.rtcSet units trim).rn Reg.KEEP_RTC_TRIM = unsigned 16 trim := by
    rw [State.rtcSet, State.rn_wn_self, Nat.mod_eq_of_lt (unsigned16_lt _)]
  obtain ⟨h1, h2, h3⟩ := s.rtcSet_spec s.rtcUnits (clampI (-2000) 2000 (s.watch.rtcTrim - drift))
  have hclk : (s.rtcSet s.rtcUnits (clampI (-2000) 2000 (s.watch.rtcTrim - drift))).clk = s.clk := State.wn_clk ..
  have hrn := hset s.rtcUnits (clampI (-2000) 2000 (s.watch.rtcTrim - drift))
  rw [State.rtcDrifted]
  generalize clampI (-2000) 2000 (s.watch.rtcTrim - drift) = trim at *
  generalize hv : s.rtcSet s.rtcUnits trim = v at *
  obtain ⟨w, hw, k1, k2, k3, k4⟩ : ∃ w : State, w = { v with watch := { v.watch with driftAt := v.clk } } ∧ w.watch = { v.watch with driftAt := v.clk }
    ∧ w.regs = v.regs ∧ w.hold = v.hold ∧ w.clk = v.clk := ⟨_, rfl, rfl, rfl, rfl, rfl⟩
  rw [← hw]
  have hrd (a : Nat) : w.rn a = v.rn a := by rw [State.rn, State.rd, k2]; rfl
  refine ⟨?_, (hrd _).trans hrn, ?_, fun a ha => ?_, k3.trans h2, k4.trans hclk⟩
  · rw [k1, h1]
  · have hunits : w.rtcUnits = s.rtcUnits := by
      rw [State.rtcUnits, k1, h1, k4, hclk]
      dsimp only
      rw [Nat.sub_self, Nat.zero_mul, Nat.add_zero]
    rw [State.rtcNs, State.rtcNs, hunits]
  · exact BitVec.eq_of_toNat_eq ((hrd a).trans (h3 a (by simpa using ha)))

/-- The check of the logbook is over its other words (R472). -/
theorem State.keepCheck_check (s : State) : s.keepCheck.rd (Reg.KEEP_LOG 63) = crc32c ((s.keepCheck.rdWords (Reg.KEEP_LOG 0) 63).flatMap (leBytes 4)) := by
  have hwords : s.keepCheck.rdWords (Reg.KEEP_LOG 0) 63 = s.rdWords (Reg.KEEP_LOG 0) 63 := by
    rw [State.rdWords, State.rdWords]
    refine List.map_congr_left fun k hk => congrArg BitVec.toNat (State.rd_wr_ne _ _ ?_)
    have := List.mem_range.1 hk
    simp only [Reg.KEEP_LOG]
    omega
  rw [hwords]
  exact State.rd_wr_self ..

theorem State.logWrite_spec (s : State) {i : Nat} (w : Word) (hlo : 16 ≤ i) (hhi : i ≤ 61) : (s.logWrite i w.toNat).rn (Reg.KEEP_LOG i) = w.toNat
    ∧ (s.logWrite i w.toNat).rd (Reg.KEEP_LOG 63) = crc32c (((s.logWrite i w.toNat).rdWords (Reg.KEEP_LOG 0) 63).flatMap (leBytes 4))
    ∧ RegsBut [Reg.KEEP_LOG i, Reg.KEEP_LOG 63] s (s.logWrite i w.toNat) ∧ (s.logWrite i w.toNat).hold = s.hold := by
  have hside : RegSide (fun a => a = Reg.KEEP_LOG i ∨ a = Reg.KEEP_LOG 63) s (s.keepWrite i [w.toNat]) :=
    ((RegSide.refl _ s).wrWords [w.toNat] fun k hk => .inl (by rw [Nat.lt_one_iff.1 hk, Nat.mul_zero, Nat.add_zero])).wr _ (.inr rfl)
  have hrn := s.rn_keepWrite (i := i) (k := 0) [w.toNat] Nat.zero_lt_one (by omega)
  rw [State.logWrite, if_pos ⟨hlo, hhi⟩]
  refine ⟨hrn.trans (Nat.mod_eq_of_lt w.isLt), State.keepCheck_check _, fun a ha => hside.rd ?_, hside.hold⟩
  have hne : a ≠ Reg.KEEP_LOG i ∧ a ≠ Reg.KEEP_LOG 63 := by simpa using ha
  exact fun h => h.elim hne.1 hne.2

/-! #### Trims (R482, R484) -/

theorem State.trimSettle_regSide (s : State) : RegSide (fun a => a = Reg.PWR_TRIM_STAT) s s.trimSettle := by
  rw [State.trimSettle]
  exact ((RegSide.refl (fun a => a = Reg.PWR_TRIM_STAT) s).setFld _ _ _ rfl).setFld _ _ _ rfl

theorem State.trimSettle_fld (s : State) : s.trimSettle.fld Reg.PWR_TRIM_STAT 2 2 = (!s.watch.refBad).toNat
    ∧ s.trimSettle.fld Reg.PWR_TRIM_STAT 1 0 = s.fld Reg.PWR_TRIM_STAT 1 0 ∧ s.trimSettle.fld Reg.PWR_TRIM_STAT 0 0 = s.fld Reg.PWR_TRIM_STAT 0 0 := by
  rw [State.trimSettle]
  have hb : (!s.watch.refBad).toNat < 2 := by cases s.watch.refBad <;> decide
  refine ⟨?_, ?_, ?_⟩
  · exact (State.fld_setFld_beside _ (by decide) (by decide) (by decide)).trans (State.fld_setFld_fits _ (by decide) (by decide) hb)
  · exact (State.fld_setFld_beside _ (by decide) (by decide) (by decide)).trans (State.fld_setFld_beside _ (by decide) (by decide) (by decide))
  · exact (State.fld_setFld_beside _ (by decide) (by decide) (by decide)).trans (State.fld_setFld_beside _ (by decide) (by decide) (by decide))

/-- A trim moved to a code. -/
theorem State.setTrim_spec (s : State) (i c : Nat) (h263 : s.logOnly 263 = true) : (s.setTrim i c).trim i = ⟨c, some s.clk, none⟩ ∧ (s.setTrim i c).hold = s.hold := by
  obtain ⟨v, hv, h1, h2, h3⟩ : ∃ v : State, v = { s with watch := { s.watch with trims := tabSet s.watch.trims i { code := c, moved := some s.clk, wait := none } } }
    ∧ v.trim i = ⟨c, some s.clk, none⟩ ∧ v.hold = s.hold ∧ v.logOnly 263 = s.logOnly 263 := ⟨_, rfl, tabGetD_tabSet_self .., rfl, rfl⟩
  have hfault : FaultSide v (if trimLimit c then v.raiseOnce 263 i c else v.condClear 263 i) :=
    .ite (raiseOnce_faultSide _ _ _ _ (h3.trans h263)) (condClear_faultSide ..)
  rw [State.setTrim, ← hv]
  generalize (if trimLimit c then v.raiseOnce 263 i c else v.condClear 263 i) = w at hfault ⊢
  have hset := w.trimSettle_regSide
  refine ⟨?_, hset.hold.trans (hfault.hold.trans h2)⟩
  rw [State.trim, hset.watch, hfault.watch]
  exact h1

theorem State.trimAdjust_moves {i : Nat} {b : Bool} (habs : s.trimAbsent i = false) (hbad : s.watch.refBad = false)
    (hsoon : (s.trim i).moved.any (fun c => !s.elapsed c (ms 100)) = false) :
    s.trimAdjust i (some b) = if 13 ≤ i ∧ i ≤ 76
      then { s with watch := { s.watch with trims := tabSet s.watch.trims i { s.trim i with wait := some (if b then min 255 ((s.trim i).code + 1) else (s.trim i).code - 1) } } }
      else s.setTrim i (if b then min 255 ((s.trim i).code + 1) else (s.trim i).code - 1) :=
  if_neg (by rw [habs, hbad, hsoon]; decide)

theorem State.trimAdjust_holds {i : Nat} {b : Bool} (h : s.watch.refBad = true ∨ (s.trim i).moved.any (fun c => !s.elapsed c (ms 100)) = true) :
    s.trimAdjust i (some b) = s := if_pos (by rcases h with h | h <;> simp [h])

/-- The measurements of the references shown. -/
def State.refShown (s : State) (refin rref : Nat) : State :=
  (s.wn Reg.PWR_REF_MEAS (min 65535 refin + 65536 * min 65535 rref)).setFld Reg.PWR_TRIM_STAT 1 0
    ((decide (24500 ≤ refin ∧ refin ≤ 25500)).toNat + 2 * (decide (9800 ≤ rref ∧ rref ≤ 10200)).toNat)

theorem State.refShown_spec (s : State) (refin rref : Nat) :
    (s.refShown refin rref).fld Reg.PWR_TRIM_STAT 1 0
        = (decide (24500 ≤ refin ∧ refin ≤ 25500)).toNat + 2 * (decide (9800 ≤ rref ∧ rref ≤ 10200)).toNat
      ∧ (s.refShown refin rref).rn Reg.PWR_REF_MEAS = min 65535 refin + 65536 * min 65535 rref ∧ (s.refShown refin rref).watch = s.watch
      ∧ (s.refShown refin rref).hold = s.hold ∧ (s.refShown refin rref).logOnly 262 = s.logOnly 262 ∧ (s.refShown refin rref).clk = s.clk := by
  have hside : RegSide (fun a => a = Reg.PWR_REF_MEAS ∨ a = Reg.PWR_TRIM_STAT) s (s.refShown refin rref) :=
    ((RegSide.refl _ s).wn _ (.inl rfl)).setFld _ _ _ (.inr rfl)
  have hfld : (s.refShown refin rref).fld Reg.PWR_TRIM_STAT 1 0
      = (decide (24500 ≤ refin ∧ refin ≤ 25500)).toNat + 2 * (decide (9800 ≤ rref ∧ rref ≤ 10200)).toNat := by
    refine State.fld_setFld_fits _ (by decide) (by decide) ?_
    cases decide (24500 ≤ refin ∧ refin ≤ 25500) <;> cases decide (9800 ≤ rref ∧ rref ≤ 10200) <;> decide
  have hrn : (s.refShown refin rref).rn Reg.PWR_REF_MEAS = min 65535 refin + 65536 * min 65535 rref := by
    rw [State.refShown, State.setFld, State.rn_wn_ne _ _ (by decide), State.rn_wn_self]
    omega
  refine ⟨hfld, hrn, hside.watch, hside.hold, State.logOnly_congr (hside.rd (by decide)), hside.clk⟩

/-- The instant from which the references have been within their limits. -/
def State.refsNoted (s : State) (since : Nat) : State := { s with watch := { s.watch with refOkSince := some since } }

/-- The trims freed. -/
def State.refsFreed (s : State) : State := (({ s with watch := { s.watch with refBad := false } }).condClear 262 0).trimSettle

/-- References within their limits: the trims are free again once they have been so for long enough. -/
def State.refsTimed (s : State) (since : Nat) : State := if s.watch.refBad && s.elapsed since (sec 1) then s.refsFreed else s.trimSettle

def State.refsGood (s : State) : State := (s.refsNoted (s.watch.refOkSince.getD s.clk)).refsTimed (s.watch.refOkSince.getD s.clk)

/-- A reference out of its limits. -/
def State.refsBad (s : State) (refin : Nat) : State :=
  (({ s with watch := { s.watch with refBad := true, refOkSince := none } }).raiseOnce 262 0 refin).trimSettle

theorem State.refCheck_eq (s : State) (refin rref : Nat) : s.refCheck refin rref =
    if decide (24500 ≤ refin ∧ refin ≤ 25500) && decide (9800 ≤ rref ∧ rref ≤ 10200) then (s.refShown refin rref).refsGood
    else (s.refShown refin rref).refsBad refin := rfl

/-- A reference out of its limits holds every trim. -/
theorem State.refCheck_bad {refin rref : Nat} (hlow : refin < 24500) (h262 : s.logOnly 262 = true) : (s.refCheck refin rref).watch.refBad = true
    ∧ (s.refCheck refin rref).fld Reg.PWR_TRIM_STAT 2 2 = 0 ∧ (s.refCheck refin rref).fld Reg.PWR_TRIM_STAT 0 0 = 0
    ∧ (s.refCheck refin rref).fld Reg.PWR_REF_MEAS 15 0 = refin ∧ (s.refCheck refin rref).hold = s.hold := by
  have hno : decide (24500 ≤ refin ∧ refin ≤ 25500) = false := decide_eq_false (by omega)
  obtain ⟨h1, h2, h3, h4, h5, -⟩ := s.refShown_spec refin rref
  rw [hno] at h1
  have hbit0 : (s.refShown refin rref).fld Reg.PWR_TRIM_STAT 0 0 = 0 := by
    rw [State.fld] at h1 ⊢
    simp only [bits] at h1 ⊢
    simp only [Bool.toNat_false] at h1
    omega
  rw [State.refCheck_eq, hno, Bool.false_and, if_neg (by decide)]
  generalize s.refShown refin rref = v at *
  obtain ⟨w, hw, k1, k2, k3, k4⟩ : ∃ w : State, w = { v with watch := { v.watch with refBad := true, refOkSince := none } } ∧ w.watch.refBad = true
    ∧ w.regs = v.regs ∧ w.hold = v.hold ∧ w.logOnly 262 = v.logOnly 262 := ⟨_, rfl, rfl, rfl, rfl, rfl⟩
  rw [State.refsBad, ← hw]
  have hfault := raiseOnce_faultSide w 262 0 refin (k4.trans (h5.trans h262))
  generalize w.raiseOnce 262 0 refin = x at hfault ⊢
  have hset := x.trimSettle_regSide
  obtain ⟨t1, -, t3⟩ := x.trimSettle_fld
  have hxbad : x.watch.refBad = true := (congrArg WatchState.refBad hfault.watch).trans k1
  have hwrn (a : Nat) : w.rn a = v.rn a := by rw [State.rn, State.rd, k2]; rfl
  refine ⟨(congrArg WatchState.refBad hset.watch).trans hxbad, t1.trans (by rw [hxbad]; rfl), ?_, ?_, hset.hold.trans (hfault.hold.trans (k3.trans h4))⟩
  · exact t3.trans ((hfault.fld 0 0 (by decide)).trans ((congrArg (bits · 0 0) (hwrn _)).trans hbit0))
  · have hm : x.trimSettle.rn Reg.PWR_REF_MEAS = min 65535 refin + 65536 * min 65535 rref :=
      (hset.rn (by decide)).trans ((hfault.rn (by decide)).trans ((hwrn _).trans h2))
    rw [State.fld, hm]
    simp only [bits]
    omega

theorem State.refsNoted_spec (s : State) (since : Nat) : (s.refsNoted since).watch.refBad = s.watch.refBad ∧ (s.refsNoted since).clk = s.clk
    ∧ (s.refsNoted since).regs = s.regs ∧ (s.refsNoted since).hold = s.hold := ⟨rfl, rfl, rfl, rfl⟩

theorem State.refsGood_frees (s : State) (hsince : s.watch.refOkSince = some n) (hbad : s.watch.refBad = true) (htime : n + sec 1 ≤ s.clk) :
    s.refsGood = (s.refsNoted n).refsFreed := by
  obtain ⟨h1, h2, -⟩ := s.refsNoted_spec n
  rw [State.refsGood, hsince, Option.getD_some]
  generalize s.refsNoted n = v at *
  have helapsed : v.elapsed n (sec 1) = true := decide_eq_true (by rw [h2]; exact htime)
  rw [State.refsTimed, h1, hbad, helapsed]
  rfl

theorem State.refsFreed_spec (s : State) (hfld : s.fld Reg.PWR_TRIM_STAT 1 0 = 3) : s.refsFreed.watch.refBad = false ∧ s.refsFreed.fld Reg.PWR_TRIM_STAT 2 0 = 7
    ∧ (s.refsFreed.fltInst 262 0).cond = false ∧ s.refsFreed.hold = s.hold := by
  obtain ⟨w, hw, k1, k2, k3⟩ : ∃ w : State, w = { s with watch := { s.watch with refBad := false } } ∧ w.watch.refBad = false
    ∧ w.regs = s.regs ∧ w.hold = s.hold := ⟨_, rfl, rfl, rfl, rfl⟩
  rw [State.refsFreed, ← hw]
  obtain ⟨c1, -, c3⟩ := w.condClear_spec 262 0
  have hfault := condClear_faultSide w 262 0
  generalize w.condClear 262 0 = x at *
  have hset := x.trimSettle_regSide
  obtain ⟨t1, t2, -⟩ := x.trimSettle_fld
  have hxbad : x.watch.refBad = false := (congrArg WatchState.refBad hfault.watch).trans k1
  have hxfld : x.fld Reg.PWR_TRIM_STAT 1 0 = 3 := by
    rw [State.fld, State.rn, State.rd, c3, k2]
    exact hfld
  rw [hxbad] at t1
  rw [hxfld] at t2
  refine ⟨(congrArg WatchState.refBad hset.watch).trans hxbad, ?_, ?_, hset.hold.trans (hfault.hold.trans k3)⟩
  · rw [State.fld] at t1 t2 ⊢
    generalize x.trimSettle.rn Reg.PWR_TRIM_STAT = r at *
    simp only [bits, Bool.not_false, Bool.toNat_true] at *
    omega
  · rw [State.fltInst, hset.flt]
    exact c1

/-- References back within their limits for long enough free the trims. -/
theorem State.refCheck_good {refin rref : Nat} (ha : 24500 ≤ refin ∧ refin ≤ 25500) (hb : 9800 ≤ rref ∧ rref ≤ 10200) (hbad : s.watch.refBad = true)
    (hsince : s.watch.refOkSince = some n) (htime : n + sec 1 ≤ s.clk) : (s.refCheck refin rref).watch.refBad = false
    ∧ (s.refCheck refin rref).fld Reg.PWR_TRIM_STAT 2 0 = 7 ∧ ((s.refCheck refin rref).fltInst 262 0).cond = false ∧ (s.refCheck refin rref).hold = s.hold := by
  obtain ⟨h1, -, h3, h4, -, h6⟩ := s.refShown_spec refin rref
  rw [decide_eq_true ha, decide_eq_true hb] at h1
  rw [State.refCheck_eq, decide_eq_true ha, decide_eq_true hb, Bool.and_self, if_pos rfl]
  generalize s.refShown refin rref = v at *
  rw [v.refsGood_frees (by rw [h3, hsince]) (by rw [h3, hbad]) (by rw [h6]; exact htime)]
  obtain ⟨-, -, k3, k4⟩ := v.refsNoted_spec n
  have hfld : (v.refsNoted n).fld Reg.PWR_TRIM_STAT 1 0 = 3 := by
    rw [State.fld, State.rn, State.rd, k3]
    exact h1
  generalize v.refsNoted n = w at *
  obtain ⟨f1, f2, f3, f4⟩ := w.refsFreed_spec hfld
  exact ⟨f1, f2, f3, f4.trans (k4.trans h4)⟩

/-- A first copy of the trims, into the first of its places. -/
def State.trimCopy (s : State) : TrimCopy := ⟨1, s.nvm.otp.uid, (List.range 130).map fun q => (s.trim q).code⟩

/-- The copy programmed and noted. -/
def State.copyNoted (s : State) (c : TrimCopy) : State :=
  let s := ({ s with nvm := { s.nvm with trimA := some c } }).program 0x20000 c.bytes
  { s with watch := { s.watch with loaded := c.codes, savedAt := some s.clk } }

theorem State.copyNoted_spec (s : State) (c : TrimCopy) : (s.copyNoted c).nvm = { s.nvm with trimA := some c } ∧ (s.copyNoted c).watch.savedAt = some s.clk
    ∧ (s.copyNoted c).regs = s.regs ∧ (s.copyNoted c).hold = s.hold := by
  rw [State.copyNoted]
  exact ⟨rfl, rfl, rfl, rfl⟩

theorem State.trimSave_first (hload : s.watch.loaded = []) (hsaved : s.watch.savedAt = none) (hwarn : s.watch.warnAt = none) (ha : s.nvm.trimA = none)
    (hb : s.nvm.trimB = none) : s.trimSave true = ((s.copyNoted s.trimCopy).bump Reg.PWR_TRIM_WRITES).setFld Reg.PWR_TRIM_STAT 5 4 1 := by
  have hnew : newerCopy s.nvm.trimA s.nvm.trimB = none := by
    rw [ha, hb]
    rfl
  rw [State.trimSave]
  refine (if_neg (by rw [hload, hsaved, hwarn]; simp)).trans ?_
  rw [hnew]
  rfl

theorem State.trimSave_waits (whole : Bool) (h : s.watch.warnAt.isSome = true ∨ (s.watch.savedAt.any fun c => decide (s.clk < c + sec 3600)) = true) :
    s.trimSave whole = s := by
  refine if_pos ?_
  rcases h with h | h
  · rw [h, Bool.or_true]
  · have hsoon : (s.watch.savedAt.any fun c => !s.elapsed c (sec 3600)) = true := by
      rw [← h]
      refine congrArg (Option.any · _) (funext fun c => ?_)
      rw [State.elapsed, ← decide_not]
      simp only [Nat.not_le]
    rw [hsoon, Bool.or_true, Bool.true_or]

theorem State.trimSave_spec (s : State) (c : TrimCopy) :
    (((s.copyNoted c).bump Reg.PWR_TRIM_WRITES).setFld Reg.PWR_TRIM_STAT 5 4 1).nvm = { s.nvm with trimA := some c }
      ∧ (((s.copyNoted c).bump Reg.PWR_TRIM_WRITES).setFld Reg.PWR_TRIM_STAT 5 4 1).watch.savedAt = some s.clk
      ∧ (((s.copyNoted c).bump Reg.PWR_TRIM_WRITES).setFld Reg.PWR_TRIM_STAT 5 4 1).pair Reg.PWR_TRIM_WRITES
        = min (s.pair Reg.PWR_TRIM_WRITES + 1) (2 ^ 64 - 1)
      ∧ RegsBut [Reg.PWR_TRIM_WRITES, Reg.PWR_TRIM_WRITES + 4, Reg.PWR_TRIM_STAT] s (((s.copyNoted c).bump Reg.PWR_TRIM_WRITES).setFld Reg.PWR_TRIM_STAT 5 4 1)
      ∧ (((s.copyNoted c).bump Reg.PWR_TRIM_WRITES).setFld Reg.PWR_TRIM_STAT 5 4 1).hold = s.hold := by
  obtain ⟨h1, h2, h3, h4⟩ := s.copyNoted_spec c
  generalize s.copyNoted c = v at *
  have hrd (a : Nat) : v.rd a = s.rd a := by rw [State.rd, h3]; rfl
  refine ⟨h1, h2, ?_, fun a ha => ?_, h4⟩
  · have hpair : ((v.bump Reg.PWR_TRIM_WRITES).setFld Reg.PWR_TRIM_STAT 5 4 1).pair Reg.PWR_TRIM_WRITES = (v.bump Reg.PWR_TRIM_WRITES).pair Reg.PWR_TRIM_WRITES :=
      State.pair_congr (State.rd_wr_ne _ _ (by decide)) (State.rd_wr_ne _ _ (by decide))
    rw [hpair, State.pair_bump, State.pair_congr (hrd _) (hrd _)]
  · have hne : a ≠ Reg.PWR_TRIM_WRITES ∧ a ≠ Reg.PWR_TRIM_WRITES + 4 ∧ a ≠ Reg.PWR_TRIM_STAT := by simpa using ha
    exact (State.rd_wr_ne _ _ hne.2.2).trans ((State.rd_bump_ne _ hne.1 hne.2.1).trans (hrd a))

/-! #### The ADC's check (R483) -/

/-- The check's count taken on. -/
def State.adcNoted (s : State) (k : Nat) : State := { s with watch := { s.watch with adcAt := some s.clk, adcBad := k } }

theorem State.adcNoted_spec (s : State) (k : Nat) : (s.adcNoted k).watch = { s.watch with adcAt := some s.clk, adcBad := k } ∧ LogAlike s (s.adcNoted k)
    ∧ (s.adcNoted k).rsv = s.rsv ∧ (s.adcNoted k).regs = s.regs ∧ (s.adcNoted k).hold = s.hold ∧ (s.adcNoted k).clk = s.clk :=
  ⟨rfl, ⟨rfl, rfl, rfl⟩, rfl, rfl, rfl, rfl⟩

/-- The check with its count (R483). -/
def State.adcCounted (s : State) (bad : Bool) (main n : Nat) : State :=
  let s := s.adcNoted (if 3 ≤ n then 0 else n)
  let s := if bad then s.raise 268 0 main else s
  if 3 ≤ n then s.worn 5 0 else s

theorem exec_watchAdcCheck (dt main rsv : Nat) (s : State) : exec (.watchAdcCheck dt main rsv) s = act dt s fun u =>
    if u.watch.adcAt.any fun c => !u.elapsed c (sec 1) then u
    else u.adcCounted (decide (8 < absDiff main 2844)) main
      (if decide (8 < absDiff main 2844) = true ∧ absDiff rsv 2844 ≤ 8 then u.watch.adcBad + 1 else 0) := rfl

/-- The third failed check takes the ADC's reserve. -/
theorem State.adcCounted_worn (s : State) (main : Nat) (hpolicy : s.policy 5 = 2) (hrun : s.rsv.running = []) (hfree : s.rsv.watchFree = true)
    (h268 : s.logOnly 268 = true) (h11 : s.logOnly 11 = true) (hfresh : s.LogFresh) :
    (s.adcCounted true main 3).watch.adcBad = 0 ∧ (s.adcCounted true main 3).rsv.running = [⟨5, 0, s.clk⟩]
      ∧ (∀ v ∈ [(11, 5), (268, 0)], v ∈ ((s.adcCounted true main 3).flt.log.take 2).map fun e => (e.det, e.inst)) ∧ (s.adcCounted true main 3).hold = s.hold := by
  obtain ⟨k1, k2, k3, k4, k5, k6⟩ := s.adcNoted_spec 0
  have heq : s.adcCounted true main 3 = ((s.adcNoted 0).raise 268 0 main).worn 5 0 := by
    rw [State.adcCounted, if_pos (Nat.le_refl 3), if_pos rfl, if_pos (Nat.le_refl 3)]
  rw [heq]
  generalize s.adcNoted 0 = v at *
  have hlogs (d : Nat) : v.logOnly d = s.logOnly d := State.logOnly_congr (by rw [State.rd, k4]; rfl)
  have hind : Independent v 268 := independent_device (.inr (by decide)) rfl ((hlogs _).trans h268)
  have hfault := raise_faultSide v 268 0 main ((hlogs _).trans h268)
  obtain ⟨w, hw⟩ : ∃ w, w = v.raise 268 0 main := ⟨_, rfl⟩
  rw [← hw] at hfault ⊢
  have hwpol : w.policy 5 = 2 := by
    have h : w.policy 5 = v.policy 5 := hfault.fld 9 8 (by decide)
    rw [h, ← hpolicy, State.policy, State.policy, State.fld, State.rn, State.rd, k4]
    rfl
  have hwrun : w.rsv.running = [] := by rw [hfault.rsv, k3, hrun]
  have hwfree : w.reserveFree 5 0 = true := by
    have h : w.reserveFree 5 0 = w.rsv.watchFree := rfl
    rw [h, hfault.rsv, k3, hfree]
  have hw11 : w.logOnly 11 = true := (hfault.logOnly 11 (by decide)).trans ((hlogs _).trans h11)
  have hworn : w.worn 5 0 = w.substitute 5 0 := if_pos hwpol
  obtain ⟨s1, s2, -, -⟩ := w.substitute_spec (k := 5) (i := 0) hwrun hwfree (by decide) hw11
  have htwo := State.substitute_two hind (k2.fresh hfresh) main (t := w) (by rw [hw]) hfault.alike (k := 5) (j := 0) hwrun hwfree (by decide) hw11
  have hwatch : (w.substitute 5 0).watch = w.watch := by
    rw [State.substitute_free hwrun hwfree (by decide), (State.rsvSettle_regSide _).watch]
    exact (raise_faultSide (w.substituting 5 0) 11 5 0 (((w.substituting_alike 5 0).2.1 11).trans hw11)).watch
  rw [hworn]
  refine ⟨?_, ?_, htwo, s2.trans (hfault.hold.trans k5)⟩
  · rw [hwatch, hfault.watch, k1]
  · rw [s1, hfault.clk, k6]

/-! #### The obligation -/

/-- Settles O58: each sample, rule, check and trim taken in its plainest case. -/
theorem watchkeeperAndTrims : Obligations.WatchkeeperAndTrims := by
  unfold Obligations.WatchkeeperAndTrims
  intro dt code raw n m main rsv refin rref ts drift v r sl i id x req w whole up bs s hlogs
  have hv := v.isLt
  have hr := r.isLt
  have hsl := sl.isLt
  have hid := id.isLt
  refine ⟨?_, ?_, ?_, ?_, ?_, ?_, ?_, ?_, ?_, ?_, ?_, ?_, ?_, ?_, ?_, ?_, ?_, ?_, ?_, ?_, ?_⟩
  case refine_1 =>
    intro hcore haon hv12 hon hfilt hx hlast hrules hdie hcode
    obtain ⟨y, hy, hval, hfin, hhist, hlst, hraw⟩ := filterStep_plain (s.rn (Reg.WATCH_VAL_CFG v))
      { s.wval v with last := some ((s.advance dt).sampleIdx (s.fld (Reg.WATCH_VAL_CFG v) 2 0)) } code hfilt
    obtain ⟨u, hu, hsample⟩ := State.watchSample_valid (s := s.advance dt) (v := v) (code := code) hcore haon hv12 hon (by rw [show (s.advance dt).wval v = x from hx]; exact hlast)
      (w := y) (fun z hz => by rw [hz, Nat.min_eq_right hcode]; exact hy)
    obtain ⟨⟨h1, h2, h3⟩, -⟩ := hu.unruled (by omega) hrules
    have hbody : (s.advance dt).watchSample v (dieCode v raw ts) true = u.rulesEval v := by rw [hdie, hsample]
    obtain ⟨z, hz⟩ : ∃ z, z = u.rulesEval v := ⟨_, rfl⟩
    rw [← hz] at h1 h2 h3 hbody
    rw [hval, hfin, hraw, Nat.mod_eq_of_lt (by simp only [Bool.toNat_true]; omega)] at h2
    exact completes_alwaysEq (u := z) rfl hbody ⟨h2, (congrArg WatchVal.hist h1).trans (hhist.trans (by rw [hx])), (congrArg WatchVal.last h1).trans hlst,
      sameHold_of_hold h3⟩
  case refine_2 =>
    intro hcore haon hv12 hon hfilt hx hy hn hlast hrules hdie hcode hm
    obtain ⟨y, hyeq⟩ : ∃ y, y = filterStep (s.rn (Reg.WATCH_VAL_CFG v)) { s.wval v with last := some ((s.advance dt).sampleIdx (s.fld (Reg.WATCH_VAL_CFG v) 2 0)) } code :=
      ⟨_, rfl⟩
    obtain ⟨k1, k2⟩ := filterStep_smooth (s.rn (Reg.WATCH_VAL_CFG v))
      { s.wval v with last := some ((s.advance dt).sampleIdx (s.fld (Reg.WATCH_VAL_CFG v) 2 0)) } code hfilt (by rw [hx]; exact hy) hm
    rw [← hyeq] at k1 k2
    obtain ⟨u, hu, hsample⟩ := State.watchSample_valid (s := s.advance dt) (v := v) (code := code) hcore haon hv12 hon (by rw [show (s.advance dt).wval v = x from hx]; exact hlast)
      (w := y) (fun z hz => by rw [hz, Nat.min_eq_right hcode]; exact hyeq.symm)
    obtain ⟨⟨h1, -, h3⟩, -⟩ := hu.unruled (by omega) hrules
    have hbody : (s.advance dt).watchSample v (dieCode v raw ts) true = u.rulesEval v := by rw [hdie, hsample]
    obtain ⟨z, hz⟩ : ∃ z, z = u.rulesEval v := ⟨_, rfl⟩
    rw [← hz] at h1 h3 hbody
    exact completes_alwaysEq (u := z) rfl hbody ⟨(congrArg WatchVal.y h1).trans k1, (congrArg WatchVal.filtered h1).trans k2, sameHold_of_hold h3⟩
  case refine_3 =>
    intro haon hon hx hfin hraw hlast
    have hbody := State.watchSample_invalid (s := s.advance dt) (v := v) (code := dieCode v raw ts) haon hon
      (by rw [show (s.advance dt).wval v = x from hx]; exact hlast)
    rw [show (s.advance dt).wval v = x from hx] at hbody
    obtain ⟨y, hy, y1, y2, y3, y4, y5⟩ : ∃ y : WatchVal,
        y = { x with last := some ((s.advance dt).sampleIdx ((s.advance dt).fld (Reg.WATCH_VAL_CFG v) 2 0)), valid := false }
          ∧ y.filtered = x.filtered ∧ y.raw = x.raw ∧ y.valid = false ∧ y.hist = x.hist ∧ y.y = x.y := ⟨_, rfl, rfl, rfl, rfl, rfl, rfl⟩
    rw [← hy] at hbody
    obtain ⟨h1, h2, h3, h4, -, vals, hwatch⟩ := State.sampled_twice (s.advance dt) v
      { x with last := some ((s.advance dt).sampleIdx ((s.advance dt).fld (Reg.WATCH_VAL_CFG v) 2 0)) } y
    rw [← hbody] at h1 h2 h3 h4 hwatch
    rw [y1, y2, y3, Nat.mod_eq_of_lt (by simp only [Bool.toNat_false]; omega)] at h2
    obtain ⟨z, hz⟩ : ∃ z, z = (s.advance dt).watchSample v (dieCode v raw ts) false := ⟨_, rfl⟩
    rw [← hz] at h1 h2 h3 h4 hwatch
    have hrules : z.watch.rules = s.watch.rules := by
      rw [hwatch]
      rfl
    exact completes_alwaysEq (u := z) rfl hz.symm ⟨h2, (congrArg WatchVal.hist h1).trans y4, (congrArg WatchVal.y h1).trans y5, hrules,
      fun a ha => h3 a (by simpa using ha), sameHold_of_hold h4⟩
  case refine_4 =>
    intro h
    have hbody : (s.advance dt).watchSample v (dieCode v raw ts) true = s.advance dt := if_pos (by
      rcases h with h | h | h
      · rw [show (s.advance dt).watch.aon = false from h]
        rfl
      · rw [show bit ((s.advance dt).rn (Reg.WATCH_VAL_CFG v)) 8 = false from h, Bool.not_false, Bool.or_true, Bool.true_or]
      · have hl : ((s.advance dt).wval v).last = some ((s.advance dt).sampleIdx (bits ((s.advance dt).rn (Reg.WATCH_VAL_CFG v)) 2 0)) := h
        rw [beq_iff_eq.2 hl, Bool.or_true])
    exact completes_alwaysEq (u := s.advance dt) rfl hbody ⟨rfl, fun _ => rfl, fun _ => rfl⟩
  case refine_5 =>
    intro hcore haon hv12 hon hfilt hlast hrules hrule hkind hmet hdie hcode hdeb hact
    obtain ⟨y, hy, hval, hfin, hhist, hlst, hraw⟩ := filterStep_plain (s.rn (Reg.WATCH_VAL_CFG v))
      { s.wval v with last := some ((s.advance dt).sampleIdx (s.fld (Reg.WATCH_VAL_CFG v) 2 0)) } code hfilt
    obtain ⟨u, hu, hsample⟩ := State.watchSample_valid (s := s.advance dt) (v := v) (code := code) hcore haon hv12 hon hlast
      (w := y) (fun z hz => by rw [hz, Nat.min_eq_right hcode]; exact hy)
    obtain ⟨h1, h2, h3, h4⟩ := hu.oneRule (by omega) hr hrules hrule hkind (by rw [hhist]; exact hmet) hdeb hact
    have hbody : (s.advance dt).watchSample v (dieCode v raw ts) true = u.rulesEval v := by rw [hdie, hsample]
    obtain ⟨z, hz⟩ : ∃ z, z = u.rulesEval v := ⟨_, rfl⟩
    rw [← hz] at h1 h2 h3 h4 hbody
    exact completes_alwaysEq (u := z) rfl hbody ⟨h1, h2, h3, sameHold_of_hold h4⟩
  case refine_6 =>
    intro hcore haon hon hlast hf6 hf5 hg1 hg2 hg3 hcfg hfilt hrules hlen hn
    have hfields : (s.advance dt).i2cFields sl = [0] := by
      have h0 : bit ((s.advance dt).i2cField sl 0) 6 = true := hf6
      have h1 : bit ((s.advance dt).i2cField sl 1) 6 = false := hg1
      have h2 : bit ((s.advance dt).i2cField sl 2) 6 = false := hg2
      have h3 : bit ((s.advance dt).i2cField sl 3) 6 = false := hg3
      have hc : bit ((s.advance dt).rn (Reg.WATCH_VAL_CFG (20 + 4 * sl + 0))) 8 = true := hcfg
      rw [State.i2cFields, show List.range 4 = [0, 1, 2, 3] from rfl]
      simp only [List.filter_cons, List.filter_nil, h0, h1, h2, h3, hc, Bool.false_and, Bool.true_and, Bool.false_eq_true, if_false, if_true]
    obtain ⟨⟨l, k1⟩, k2, k3, k4, k5⟩ := (s.advance dt).i2cSent_spec sl
    have hbytes : (some bs).filter (fun b => b.length == bits ((s.advance dt).i2cWord sl 0) 14 12) = some bs := by
      have hl : (bs.length == bits ((s.advance dt).i2cWord sl 0) 14 12) = true := beq_iff_eq.2 hlen
      rw [Option.filter_some, hl]
      rfl
    have hrun := State.i2cRun_eq (s := s.advance dt) (slot := sl) haon hon hlast hcore (some bs)
    rw [hbytes] at hrun
    dsimp only at hrun
    rw [k5, hfields, List.foldl_cons, List.foldl_nil] at hrun
    obtain ⟨u, hu⟩ : ∃ u, u = (s.advance dt).i2cSent sl := ⟨_, rfl⟩
    rw [← hu] at hrun k1 k2 k3 k4
    have hurn (a : Nat) : u.rn a = s.rn a := by rw [State.rn, State.rd, k2]; rfl
    have hfield : u.i2cField sl 0 = s.i2cField sl 0 := by rw [State.i2cField, State.i2cWord, hurn]; rfl
    have hucore : u.watch.core = false := by rw [k1]; exact hcore
    rw [hfield, hf5, if_neg Bool.false_ne_true, hn, State.sampleValue_watch hucore] at hrun
    obtain ⟨y, hy, hval, hfin, hhist, hlst, hraw⟩ := filterStep_plain (u.rn (Reg.WATCH_VAL_CFG (20 + 4 * sl + 0))) (u.wval (20 + 4 * sl + 0)) n (by rw [hurn]; exact hfilt)
    have hn12 : n ≤ 4095 := by omega
    rw [Nat.min_eq_right hn12, hy] at hrun
    have hsam := u.sampled_direct (20 + 4 * sl + 0) y
    have hurules : u.rulesOf (20 + 4 * sl + 0) = [] := by
      refine (State.rulesOf_congr (t := u) (s := s) (fun a _ => by rw [State.rd, k2]; rfl) ?_ _).trans hrules
      rw [State.inWatch, k1]
      rfl
    obtain ⟨⟨-, h2, h3⟩, hout⟩ := hsam.unruled (by omega) hurules
    have hmsg := hout _ k4
    rw [hval, hfin, hraw, Nat.mod_eq_of_lt (by simp only [Bool.toNat_true]; omega)] at h2
    rw [← hrun] at h2 h3 hmsg
    obtain ⟨z, hz⟩ : ∃ z, z = (s.advance dt).i2cRun sl (some bs) := ⟨_, rfl⟩
    rw [← hz] at h2 h3 hmsg
    exact completes_alwaysEq (u := z) rfl hz.symm ⟨h2, hmsg, sameHold_of_hold (h3.trans k3)⟩
  case refine_7 =>
    intro hcore haon hon hlast
    obtain ⟨⟨l, k1⟩, k2, k3, -, -⟩ := (s.advance dt).i2cSent_spec sl
    have hrun := State.i2cRun_eq (s := s.advance dt) (slot := sl) haon hon hlast hcore none
    rw [Option.filter_none] at hrun
    dsimp only at hrun
    obtain ⟨u, hu⟩ : ∃ u, u = (s.advance dt).i2cSent sl := ⟨_, rfl⟩
    rw [← hu] at hrun k1 k2 k3
    have hpair : (u.bump Reg.WATCH_I2C_FAIL).pair Reg.WATCH_I2C_FAIL = min (s.pair Reg.WATCH_I2C_FAIL + 1) (2 ^ 64 - 1) := by
      rw [State.pair_bump]
      have hrd (a : Nat) : u.rd a = s.rd a := by rw [State.rd, k2]; rfl
      rw [State.pair_congr (hrd _) (hrd _)]
    have hrules : (u.bump Reg.WATCH_I2C_FAIL).watch.rules = s.watch.rules := by
      rw [State.bump_watch, k1]
      rfl
    have hhold : (u.bump Reg.WATCH_I2C_FAIL).hold = s.hold := k3
    obtain ⟨w, hw⟩ : ∃ w, w = u.bump Reg.WATCH_I2C_FAIL := ⟨_, rfl⟩
    rw [← hw] at hrun hpair hrules hhold
    obtain ⟨h1, h2, h3⟩ := State.sampleInvalid_foldl w sl (u.i2cFields sl)
    rw [← hrun] at h1 h2 h3
    obtain ⟨z, hz⟩ : ∃ z, z = (s.advance dt).i2cRun sl none := ⟨_, rfl⟩
    rw [← hz] at h1 h2 h3
    exact completes_alwaysEq (u := z) rfl hz.symm ⟨h1.trans hpair, h2.trans hrules, sameHold_of_hold (h3.trans hhold)⟩
  case refine_8 =>
    intro hcore hnone hgood
    obtain ⟨h1, -, h3, h4, h5, -⟩ := (s.advance dt).adcNoted_spec 0
    obtain ⟨u, hu⟩ : ∃ u, u = (s.advance dt).adcNoted 0 := ⟨_, rfl⟩
    rw [← hu] at h1 h3 h4 h5
    have hbad : ¬ 8 < absDiff main 2844 := Nat.not_lt.2 hgood
    have hnone' : (s.advance dt).watch.adcAt = none := hnone
    have hbody : (if (s.advance dt).watch.adcAt.any fun c => !(s.advance dt).elapsed c (sec 1) then s.advance dt
        else (s.advance dt).adcCounted (decide (8 < absDiff main 2844)) main
          (if decide (8 < absDiff main 2844) = true ∧ absDiff rsv 2844 ≤ 8 then (s.advance dt).watch.adcBad + 1 else 0)) = u := by
      rw [hnone', decide_eq_false hbad, hu]
      rfl
    exact completes_eq (u := u) (exec_watchAdcCheck dt main rsv s) hcore hbody ⟨congrArg WatchState.adcBad h1, congrArg WatchState.adcAt h1, h3, sameRegs_of_regs h4,
      sameHold_of_hold h5⟩
  case refine_9 =>
    intro hcore hnone hbad hgood htwice hpolicy hrun hfree h11 hfresh
    obtain ⟨h1, h2, h3, h4⟩ := State.adcCounted_worn (s.advance dt) main hpolicy hrun hfree (hlogs 268 (by simp)) h11 (State.logFresh_of_freshStamp hfresh)
    obtain ⟨u, hu⟩ : ∃ u, u = (s.advance dt).adcCounted true main 3 := ⟨_, rfl⟩
    rw [← hu] at h1 h2 h3 h4
    have hnone' : (s.advance dt).watch.adcAt = none := hnone
    have htwice' : (s.advance dt).watch.adcBad = 2 := htwice
    have hbody : (if (s.advance dt).watch.adcAt.any fun c => !(s.advance dt).elapsed c (sec 1) then s.advance dt
        else (s.advance dt).adcCounted (decide (8 < absDiff main 2844)) main
          (if decide (8 < absDiff main 2844) = true ∧ absDiff rsv 2844 ≤ 8 then (s.advance dt).watch.adcBad + 1 else 0)) = u := by
      rw [hnone', Option.any_none, if_neg Bool.false_ne_true, decide_eq_true hbad, if_pos ⟨rfl, hgood⟩, htwice', hu]
    exact completes_eq (u := u) (exec_watchAdcCheck dt main rsv s) hcore hbody ⟨h1, h2, h3, sameHold_of_hold h4⟩
  case refine_10 =>
    intro hcore hlock hkeeper hn hsync hearly
    obtain ⟨h1, h2, h3, h4, h5⟩ := (s.advance dt).rtcSynced_spec n
    obtain ⟨u, hu⟩ : ∃ u, u = (s.advance dt).rtcSynced n := ⟨_, rfl⟩
    rw [← hu] at h1 h2 h3 h4 h5
    have hgo : ¬ ((s.advance dt).time.servo != .locked || !(s.advance dt).watch.keeper || (s.advance dt).watch.syncSec == some ((s.advance dt).ns / 10 ^ 9)
        || decide (2 ≤ (s.advance dt).ns % 10 ^ 9)) = true := by
      have hl : ((s.advance dt).time.servo != .locked) = false := by rw [show (s.advance dt).time.servo = .locked from hlock]; rfl
      have hk : (s.advance dt).watch.keeper = true := hkeeper
      have hs : ((s.advance dt).watch.syncSec == some n) = false := beq_eq_false_iff_ne.2 hsync
      rw [hl, hk, hn, hs, decide_eq_false (Nat.not_le.2 hearly)]
      decide
    have hbody : (if (s.advance dt).time.servo != .locked || !(s.advance dt).watch.keeper || (s.advance dt).watch.syncSec == some ((s.advance dt).ns / 10 ^ 9)
        || decide (2 ≤ (s.advance dt).ns % 10 ^ 9) then s.advance dt else (s.advance dt).rtcSynced ((s.advance dt).ns / 10 ^ 9)) = u := by
      rw [if_neg hgo, hn, hu]
    exact completes_eq (u := u) (exec_rtcSync dt s) hcore hbody ⟨(acted_rtcNs h5).trans h1, h2, h3, sameHold_of_hold h4⟩
  case refine_11 =>
    intro h
    refine completes_idle (exec_rtcSync dt s) (if_pos ?_) ⟨rfl, fun _ => rfl, fun _ => rfl⟩
    rcases h with h | h
    · have hl : ((s.advance dt).time.servo != .locked) = true := bne_iff_ne.2 h
      rw [hl]
      rfl
    · rw [decide_eq_true h, Bool.or_true]
  case refine_12 =>
    intro hcore hlock hkeeper htime
    obtain ⟨h1, h2, h3, h4, h5, h6⟩ := (s.advance dt).rtcDrifted_spec drift
    obtain ⟨u, hu⟩ : ∃ u, u = (s.advance dt).rtcDrifted drift := ⟨_, rfl⟩
    rw [← hu] at h1 h2 h3 h4 h5 h6
    have hgo : ¬ ((s.advance dt).time.servo != .locked || !(s.advance dt).watch.keeper || !(s.advance dt).elapsed (s.advance dt).watch.driftAt (sec 60)) = true := by
      have hl : ((s.advance dt).time.servo != .locked) = false := by rw [show (s.advance dt).time.servo = .locked from hlock]; rfl
      have hk : (s.advance dt).watch.keeper = true := hkeeper
      have he : (s.advance dt).elapsed (s.advance dt).watch.driftAt (sec 60) = true := decide_eq_true htime
      rw [hl, hk, he]
      decide
    exact completes_eq (u := u) (exec_rtcDriftWindow dt drift s) hcore ((if_neg hgo).trans hu.symm) ⟨h1, h2, (acted_rtcNs h6).trans h3, h4, sameHold_of_hold h5⟩
  case refine_13 =>
    intro hcore hlo hhi
    obtain ⟨h1, h2, h3, h4⟩ := (s.advance dt).logWrite_spec w hlo hhi
    obtain ⟨u, hu⟩ : ∃ u, u = (s.advance dt).logWrite i w.toNat := ⟨_, rfl⟩
    rw [← hu] at h1 h2 h3 h4
    exact completes_eq (u := u) rfl hcore hu.symm ⟨h1, h2, h3, sameHold_of_hold h4⟩
  case refine_14 =>
    intro h
    exact completes_idle (f := fun u => u.logWrite i w.toNat) rfl (if_neg (by omega)) ⟨fun _ => rfl, fun _ => rfl⟩
  case refine_15 =>
    intro hcore habs hbad htrim htime hlo hhi hid13
    have htrim' : (s.advance dt).trim id = ⟨n, some m, none⟩ := htrim
    have hmoves := State.trimAdjust_moves (s := s.advance dt) (i := id) (b := up) habs hbad (by
      rw [htrim', Option.any_some, State.elapsed, show decide (m + ms 100 ≤ (s.advance dt).clk) = true from decide_eq_true htime]
      rfl)
    have hcode : (if up then min 255 (((s.advance dt).trim id).code + 1) else ((s.advance dt).trim id).code - 1) = if up then n + 1 else n - 1 := by
      rw [htrim']
      cases up with
      | true => exact Nat.min_eq_right (by dsimp only; omega)
      | false => rfl
    rw [hcode, if_neg (by omega)] at hmoves
    obtain ⟨h1, h2⟩ := (s.advance dt).setTrim_spec id (if up then n + 1 else n - 1) (hlogs 263 (by simp))
    obtain ⟨u, hu⟩ : ∃ u, u = (s.advance dt).setTrim id (if up then n + 1 else n - 1) := ⟨_, rfl⟩
    rw [← hu] at h1 h2 hmoves
    exact completes_eq (u := u) rfl hcore hmoves ⟨h1, sameHold_of_hold h2⟩
  case refine_16 =>
    intro hcore habs hbad htrim hn hlo hhi
    have htrim' : (s.advance dt).trim id = ⟨n, none, none⟩ := htrim
    have hmoves := State.trimAdjust_moves (s := s.advance dt) (i := id) (b := true) habs hbad (by rw [htrim']; rfl)
    rw [if_pos ⟨hlo, hhi⟩, htrim'] at hmoves
    have hmin : min 255 (n + 1) = n + 1 := Nat.min_eq_right hn
    dsimp only at hmoves
    rw [if_pos rfl, hmin] at hmoves
    exact completes_eq rfl hcore hmoves ⟨tabGetD_tabSet_self .., fun _ => rfl, fun _ => rfl⟩
  case refine_17 =>
    intro h
    refine completes_idle (f := fun u => u.trimAdjust id (some up)) rfl (State.trimAdjust_holds ?_) ⟨rfl, fun _ => rfl, fun _ => rfl⟩
    rcases h with h | ⟨h, htime⟩
    · exact .inl h
    · have htrim' : (s.advance dt).trim id = ⟨n, some m, none⟩ := h
      refine .inr ?_
      rw [htrim', Option.any_some, State.elapsed, show decide (m + ms 100 ≤ (s.advance dt).clk) = false from decide_eq_false (Nat.not_le.2 htime)]
      rfl
  case refine_18 =>
    intro hcore hnone hlow
    obtain ⟨v, hv, k1, k2, k3⟩ : ∃ v : State, v = { s.advance dt with watch := { (s.advance dt).watch with refAt := some (s.advance dt).clk } }
      ∧ v.hold = s.hold ∧ v.logOnly 262 = s.logOnly 262 ∧ v.regs = s.regs := ⟨_, rfl, rfl, rfl, rfl⟩
    obtain ⟨h1, h2, h3, h4, h5⟩ := State.refCheck_bad (s := v) (refin := refin) (rref := rref) hlow (k2.trans (hlogs 262 (by simp)))
    obtain ⟨u, hu⟩ : ∃ u, u = v.refCheck refin rref := ⟨_, rfl⟩
    rw [← hu] at h1 h2 h3 h4 h5
    have hnone' : (s.advance dt).watch.refAt = none := hnone
    refine completes_eq (u := u) rfl hcore ((if_neg ?_).trans ?_) ⟨h1, h2, h3, h4, sameHold_of_hold (h5.trans k1)⟩
    · rw [hnone', Option.any_none]
      decide
    · rw [hu, hv]
  case refine_19 =>
    intro hcore hnone ha1 ha2 hb1 hb2 hbad hsince htime
    obtain ⟨v, hv, k1, k2, k3, k4⟩ : ∃ v : State, v = { s.advance dt with watch := { (s.advance dt).watch with refAt := some (s.advance dt).clk } }
      ∧ v.hold = s.hold ∧ v.watch.refBad = s.watch.refBad ∧ v.watch.refOkSince = s.watch.refOkSince ∧ v.clk = s.clk + dt := ⟨_, rfl, rfl, rfl, rfl, rfl⟩
    obtain ⟨h1, h2, h3, h4⟩ := State.refCheck_good (s := v) (refin := refin) (rref := rref) ⟨ha1, ha2⟩ ⟨hb1, hb2⟩ (k2.trans hbad) (k3.trans hsince) (by rw [k4]; exact htime)
    obtain ⟨u, hu⟩ : ∃ u, u = v.refCheck refin rref := ⟨_, rfl⟩
    rw [← hu] at h1 h2 h3 h4
    have hnone' : (s.advance dt).watch.refAt = none := hnone
    refine completes_eq (u := u) rfl hcore ((if_neg ?_).trans ?_) ⟨h1, h2, h3, sameHold_of_hold (h4.trans k1)⟩
    · rw [hnone', Option.any_none]
      decide
    · rw [hu, hv]
  case refine_20 =>
    intro hcore hload hsaved hwarn ha hb
    have hbody := State.trimSave_first (s := s.advance dt) hload hsaved hwarn ha hb
    obtain ⟨h1, h2, h3, h4, h5⟩ := (s.advance dt).trimSave_spec (s.advance dt).trimCopy
    obtain ⟨u, hu⟩ : ∃ u, u = (((s.advance dt).copyNoted (s.advance dt).trimCopy).bump Reg.PWR_TRIM_WRITES).setFld Reg.PWR_TRIM_STAT 5 4 1 := ⟨_, rfl⟩
    rw [← hu] at h1 h2 h3 h4 h5 hbody
    exact completes_eq (u := u) rfl hcore hbody ⟨congrArg NvmState.trimA h1, (congrArg NvmState.trimB h1).trans hb, h2, h3, h4, sameHold_of_hold h5⟩
  case refine_21 =>
    intro h
    exact completes_idle (f := fun u => u.trimSave whole) rfl (State.trimSave_waits whole h) ⟨rfl, fun _ => rfl, fun _ => rfl⟩

end Sys2Proof.Machine
end


section
/-! ### Trips of one clock (R442) -/

namespace Sys2Proof.Machine

variable {s t u : State}

/-- A trip of a fault that stands is a repeat. -/
theorem State.enterTrip_repeat {t : Trip} (htrips : s.trips t.det = true) (hshadow : s.shadowOf t.det t.inst = none)
    (hevent : (detEvent t.det && !t.rail) = false) (hstands : (s.fltInst t.det t.inst).standing = true) :
    s.enterTrip t = ((s.lampFlag t.det t.inst).tripRepeat t ((s.lampFlag t.det t.inst).tripEntry t) (s.fltInst t.det t.inst), none) := by
  obtain ⟨hsome, hquiet⟩ := Bool.and_eq_true_iff.1 htrips
  have hsev : detSev? t.det ≠ none := Option.isSome_iff_ne_none.1 hsome
  have hinst : (s.lampFlag t.det t.inst).fltInst t.det t.inst = s.fltInst t.det t.inst := by rw [State.fltInst, (s.lampFlag_regSide _ _).flt]; rfl
  rw [State.enterTrip_out rfl hsev (fun h => ?_) ((s.lampFlag_shadowOf _ _).trans hshadow), hinst, if_pos]
  · rw [hevent, hstands]
    rfl
  · rw [decide_eq_true h.1] at hquiet
    obtain ⟨-, h | h | h⟩ := h <;> simp [h] at hquiet

/-- A repeat joins the log at the severity of the fault. -/
theorem State.tripRepeat_keys (s : State) (t : Trip) (e : LogEntry) (x : FltInst) :
    (s.tripRepeat t e x).keys = ((logInsert (s.logged { e with kind := 4, sev := x.sev }) s.flt.log).take 1024).map LogEntry.key :=
  State.logPush_keys _ _

/-- What an entry of a detector is made of is no register of the lamp ports. -/
theorem State.lampFlag_entry (s : State) {t : Trip} (ht : t.det < 512) (e : LogEntry) (x : FltInst) (ev : Bool) (j : LogEntry) :
    (s.lampFlag t.det t.inst).tripEntry t = s.tripEntry t ∧ (s.lampFlag t.det t.inst).raisedEntry t e ev = s.raisedEntry t e ev
      ∧ (s.lampFlag t.det t.inst).raisedInst t x ev j = s.raisedInst t x ev j := by
  have hside := s.lampFlag_regSide t.det t.inst
  have hreact := State.lampFlag_detReaction (s := s) t.inst ht
  have hsev := State.lampFlag_detSeverity (s := s) t.inst ht
  have hlow {a : Nat} (ha : a < 0xD0100 ∨ 0xD1000 ≤ a) : (s.lampFlag t.det t.inst).rn a = s.rn a := hside.rn (by rintro ⟨-, h⟩; omega)
  have hcfg : (s.lampFlag t.det t.inst).rn (Reg.FLT_DET_CFG t.det) = s.rn (Reg.FLT_DET_CFG t.det) := hlow (by simp only [Reg.FLT_DET_CFG]; omega)
  have hleg : (s.lampFlag t.det t.inst).legacy = s.legacy := by rw [State.legacy, hlow (.inr (by decide)), State.legacy]
  have hunc : (s.lampFlag t.det t.inst).unconfirmed = s.unconfirmed := by
    rw [State.unconfirmed, State.fld, hlow (.inr (by decide))]
    rfl
  refine ⟨?_, ?_, ?_⟩
  · rw [State.tripEntry, State.tripEntry, State.tripSev, State.tripSev, hsev, hside.flt]
  · rw [State.raisedEntry, State.raisedEntry, State.tripReaction, State.tripReaction, hreact, hleg, hunc]
  · rw [State.raisedInst, State.raisedInst, hside.clk, hcfg]

/-- The entry of an independent trip, and the instance it leaves. -/
def State.entered (s : State) (t : Trip) : LogEntry := s.raisedEntry t (s.tripEntry t) (detEvent t.det && !t.rail)

/-- What an independent trip in a clock of its own enters. -/
theorem State.enterTrip_spec {t : Trip} (htrips : s.trips t.det = true) (hshadow : s.shadowOf t.det t.inst = none)
    (hnew : (detEvent t.det && !t.rail) = true ∨ (s.fltInst t.det t.inst).standing = false) (hfresh : s.LogFresh) :
    ∃ log first severe, (s.enterTrip t).1.flt = { s.flt with
        log := log
        first := first
        nextSeq := (s.flt.nextSeq + 1) % 2 ^ 32
        latch := s.flt.latch || (s.entered t).latched
        severe := severe
        insts := if !(detEvent t.det && !t.rail) || (s.entered t).reaction == 1 || (s.entered t).reaction == 5
          then (s.setFltInst t.det t.inst (s.raisedInst t (s.fltInst t.det t.inst) (detEvent t.det && !t.rail) (s.entered t))).flt.insts else s.flt.insts }
      ∧ (log.head? = some (s.logged (s.entered t)) ∨ log.head? = some { s.logged (s.entered t) with first := true })
      ∧ (s.enterTrip t).1.pair Reg.FLT_RAISED = min (s.pair Reg.FLT_RAISED + 1) (2 ^ 64 - 1)
      ∧ (t.rail = true → (s.enterTrip t).1.pair Reg.FLT_RAIL = min (s.pair Reg.FLT_RAIL + 1) (2 ^ 64 - 1))
      ∧ (s.enterTrip t).2 = some ⟨t.det, t.inst, (s.entered t).reaction, s.flt.nextSeq⟩ := by
  have hlt := State.trips_lt htrips
  have hside := s.lampFlag_regSide t.det t.inst
  have halike := LogAlike.of_regSide hside
  obtain ⟨he, hr, hi⟩ := s.lampFlag_entry hlt (s.tripEntry t) (s.fltInst t.det t.inst) (detEvent t.det && !t.rail) (s.entered t)
  have hpair {a : Nat} (ha : 0x120000 ≤ a) : (s.lampFlag t.det t.inst).pair a = s.pair a :=
    State.pair_congr (hside.rd fun h => by omega) (hside.rd fun h => by omega)
  obtain ⟨k1, k2, -⟩ := (s.lampFlag t.det t.inst).pair_tripCounted t.rail (s.entered t).withheld
  rw [hpair (by decide)] at k1 k2
  rw [State.enterTrip_new htrips hshadow hnew, he]
  obtain ⟨log, first, severe, h1, h2, -, -, h3, h4⟩ := State.tripRaise_spec (halike.fresh hfresh) t (s.tripEntry t) (s.fltInst t.det t.inst)
    (detEvent t.det && !t.rail) rfl rfl hlt
  have hent : s.raisedEntry t (s.tripEntry t) (detEvent t.det && !t.rail) = s.entered t := rfl
  rw [hr, hent, hi, halike.flt] at h1
  rw [hr, hent, halike.logged] at h2
  rw [hr, hent] at h3 h4
  rw [halike.flt] at h4
  refine ⟨log, first, severe, ?_, h2, ?_, fun h => ?_, h4⟩
  · rw [h1, State.setFltInst, State.setFltInst, halike.flt]
  · exact (State.pair_congr (h3 _ (by decide) (by decide) (by decide)) (h3 _ (by decide) (by decide) (by decide))).trans k1
  · exact (State.pair_congr (h3 _ (by decide) (by decide) (by decide)) (h3 _ (by decide) (by decide) (by decide))).trans (k2 h)

/-- Two trips of which the second takes no reaction. -/
theorem State.logTrips_two {l : List Trip} {a b : Trip} {x : Reaction} (hsort : l.foldr (fun t acc => tripInsert s t acc) [] = [a, b])
    (ha : s.enterTrip a = (u, some x)) (hb : u.enterTrip b = (t, none)) : s.logTrips l = t.act1 x := by
  rw [State.logTrips, hsort, List.foldl_cons, ha, List.foldl_cons, List.foldl_nil]
  dsimp only
  rw [hb]
  dsimp only [reactInsert]
  by_cases hx : x.code == 6 <;> simp [hx]

/-! #### Two trips whose instances share a table key -/

/-- A device out of reset whose detector 195 is Severe and holds its output safe. -/
def holdingLampState : State := ({ ({} : State) with watch := { core := true } } : State).wn (Reg.FLT_DET_CFG 195) 22

/-- A trip of detector 81 whose instance has the table key of instance 4 of detector 195. -/
def keySharingTrip : Trip := { det := 81, inst := 114 * 65536 + 4 }

/-- The trip of detector 195. -/
def keySharedTrip : Trip := { det := 195, inst := 4 }

theorem instKey_keySharingTrip : instKey keySharingTrip.det keySharingTrip.inst = instKey keySharedTrip.det keySharedTrip.inst := rfl

/-- What the trip of detector 195, the more severe, leaves. -/
def keySharedState : State := ((holdingLampState.advance 0).enterTrip keySharedTrip).1

theorem keySharedState_log : keySharedState.flt.log.map (fun z => (z.key, z.sev, z.kind)) = [((195, 4, 0, 0), 2, 1)] := by
  decide +kernel

/-- The fault of detector 81 stands with that of 195. -/
theorem keySharedState_stands : (keySharedState.fltInst keySharingTrip.det keySharingTrip.inst).standing = true
    ∧ (keySharedState.fltInst keySharingTrip.det keySharingTrip.inst).sev = 2 ∧ keySharedState.flt.shadows = [] := by
  obtain ⟨log, first, severe, hflt, -⟩ := State.enterTrip_spec (s := holdingLampState.advance 0) (t := keySharedTrip) (by decide) rfl (.inr rfl)
    (State.logFresh_of_freshStamp (by decide))
  have hinsts : keySharedState.flt.insts = [(instKey 195 4, { state := .fault, reaction := 5, sev := 2, cfg := 22 })] :=
    (congrArg FaultState.insts hflt).trans (by dsimp only; decide)
  have hshadows : keySharedState.flt.shadows = [] := congrArg FaultState.shadows hflt
  rw [State.fltInst, hinsts, instKey_keySharingTrip]
  exact ⟨by decide, by decide, hshadows⟩

/-- The two trips leave that of 195 first. -/
theorem keySharingTrips_keys : ((keySharedState.enterTrip keySharingTrip).1.keys.take 2).map Prod.fst = [195, 81] := by
  obtain ⟨hstands, hsev2, hshadows⟩ := keySharedState_stands
  have hlamp : keySharedState.lampFlag keySharingTrip.det keySharingTrip.inst = keySharedState := State.lampFlag_ne _ _ (.inl (by decide))
  have hstamp : toLedger keySharedState.stampNs = 0 ∧ keySharedState.stampFrac = 0 := by decide +kernel
  have htrips : keySharedState.trips keySharingTrip.det = true := Bool.and_eq_true_iff.2 ⟨rfl, by rw [Bool.and_comm]; rfl⟩
  have hshadow : keySharedState.shadowOf keySharingTrip.det keySharingTrip.inst = none := by rw [State.shadowOf, hshadows]; rfl
  rw [State.enterTrip_repeat htrips hshadow (by decide) hstands, hlamp]
  dsimp only
  rw [State.tripRepeat_keys, hsev2]
  have hlog := keySharedState_log
  generalize keySharedState = v at *
  obtain ⟨z, hz, hkey⟩ := List.map_eq_singleton_iff.1 hlog
  simp only [LogEntry.key, Prod.mk.injEq] at hkey
  obtain ⟨⟨hdet, hinst, hzs, hzf⟩, hsev, hkind⟩ := hkey
  simp [hz, logInsert, State.logged, LogEntry.meets, LogEntry.trip, LogEntry.before, LogEntry.key, hdet, hinst, hzs, hzf, hsev, hkind, hstamp, State.tripEntry,
    keySharingTrip]

/-- The second is a repeat, and has no reaction. -/
theorem keySharingTrips_enter : (keySharedState.enterTrip keySharingTrip).2 = none ∧ ((holdingLampState.advance 0).enterTrip keySharedTrip).2 = some ⟨195, 4, 5, 1⟩ := by
  obtain ⟨hstands, -, hshadows⟩ := keySharedState_stands
  have htrips : keySharedState.trips keySharingTrip.det = true := Bool.and_eq_true_iff.2 ⟨rfl, by rw [Bool.and_comm]; rfl⟩
  have hshadow : keySharedState.shadowOf keySharingTrip.det keySharingTrip.inst = none := by rw [State.shadowOf, hshadows]; rfl
  refine ⟨?_, ?_⟩
  · rw [State.enterTrip_repeat htrips hshadow (by decide) hstands]
  · obtain ⟨log, first, severe, -, -, -, -, hreact⟩ := State.enterTrip_spec (s := holdingLampState.advance 0) (t := keySharedTrip) (by decide) rfl (.inr rfl)
      (State.logFresh_of_freshStamp (by decide))
    rw [hreact]
    decide

/-- The hold of an output leaves the log as the trips do. -/
theorem keySharingTrips_log : (((holdingLampState.advance 0).logTrips [keySharingTrip, keySharedTrip]).flt.log.take 2).map LogEntry.det = [195, 81] := by
  obtain ⟨hnone, hsome⟩ := keySharingTrips_enter
  have hsort : [keySharingTrip, keySharedTrip].foldr (fun t acc => tripInsert (holdingLampState.advance 0) t acc) [] = [keySharedTrip, keySharingTrip] := by decide
  have hfirst : (holdingLampState.advance 0).enterTrip keySharedTrip = (keySharedState, some ⟨195, 4, 5, 1⟩) := Prod.ext rfl hsome
  obtain ⟨u, hu⟩ : ∃ u, u = (keySharedState.enterTrip keySharingTrip).1 := ⟨_, rfl⟩
  have hsecond : keySharedState.enterTrip keySharingTrip = (u, none) := Prod.ext hu.symm hnone
  have hkeys := keySharingTrips_keys
  rw [← hu] at hkeys
  rw [State.logTrips_two hsort hfirst hsecond, ← hkeys, State.keys, ← List.map_take, List.map_map]
  rfl

/-- The detectors of a log whose entries read as O54 would have them. -/
theorem dets_of_marks {l : List LogEntry} {m : List (Nat × Bool × Bool)} (h : l.map (fun z => (z.det, z.coincident, z.first)) = m) :
    l.map LogEntry.det = m.map Prod.fst := by
  rw [← h, List.map_map]
  rfl

theorem coincident_log {dt i j m n : Nat} (hcore : s.watch.core = true)
    (ht : exec (.detectorTrip dt [(81, i, m), (195, j, n)]) s = .next t) :
    t.flt.log = ((s.advance dt).logTrips [{ det := 81, inst := i, info := m }, { det := 195, inst := j, info := n }]).flt.log := by
  have hexec : exec (.detectorTrip dt [(81, i, m), (195, j, n)]) s
    = act dt s fun s => s.logTrips [{ det := 81, inst := i, info := m }, { det := 195, inst := j, info := n }] := rfl
  rw [Host.Outcome.next.inj (ht.symm.trans (hexec.trans (act_core _ _ _ hcore)))]
  rfl

/-- Refutes O54, in its clause of coincident trips: its instance is any number, and that of `keySharingTrip` has the table key of instance 4 of
detector 195. The trip of 195, logged first, then makes the fault of 81 stand, so that the trip of 81 is a repeat at the severity of 195 and goes
before it in the log. Within the 65,536 instances of a detector the keys differ. -/
theorem not_faultHandling : ¬ Obligations.FaultHandling := by
  unfold Obligations.FaultHandling
  intro h
  obtain ⟨-, -, -, hcoincident, -⟩ := h 0 0 (114 * 65536 + 4) 0 0 0 0 [] {} { seq := 0, stamp := 0, frac := 0, det := 0, inst := 0, kind := 0, sev := 0 }
    ⟨.compositor, 0, 0⟩ ⟨0, 0, 0, 0⟩ .compositor 0 0#32 .pier holdingLampState rfl
  obtain ⟨t, ht, hlog, -⟩ := hcoincident (by decide) (by decide) (by decide) rfl (by decide) (by decide) rfl (by decide) (by decide)
  have hdets := dets_of_marks hlog
  rw [coincident_log rfl ht] at hdets
  have htrips := keySharingTrips_log
  rw [keySharingTrip, keySharedTrip] at htrips
  rw [htrips] at hdets
  exact absurd hdets (by decide)

end Sys2Proof.Machine
end


section
/-! ### The reserve ledger (R453 to R456) -/

namespace Sys2Proof.Machine

variable {s t u : State} {d : Nat}

/-- Two states that agree in the registers below the fault block's. -/
structure LowKept (s t : State) : Prop where
  rd : ∀ a, a < 0x120000 → t.rd a = s.rd a

namespace LowKept

theorem of_regs (h : t.regs = s.regs) : LowKept s t := ⟨fun a _ => by rw [State.rd, State.rd, h]⟩

theorem trans (h : LowKept s t) (k : LowKept t u) : LowKept s u := ⟨fun a ha => (k.rd a ha).trans (h.rd a ha)⟩

theorem regsSame (h : LowKept s t) (hu : u.regs = t.regs) : LowKept s u := h.trans (.of_regs hu)

theorem of_regSide {p : Nat → Prop} (h : RegSide p s t) (hp : ∀ a, a < 0x120000 → ¬ p a) : LowKept s t := ⟨fun a ha => h.rd (hp a ha)⟩

theorem ite {c : Prop} [Decidable c] (h : LowKept s t) (k : LowKept s u) : LowKept s (if c then t else u) := by
  split
  · exact h
  · exact k

theorem bump (h : LowKept s t) {a : Nat} (ha : 0x120000 ≤ a) : LowKept s (t.bump a) :=
  h.trans ⟨fun _ hb => State.rd_bump_ne _ (by omega) (by omega)⟩

theorem keepWrite (h : LowKept s t) (i : Nat) (ws : List Nat) : LowKept s (t.keepWrite i ws) :=
  h.trans (.of_regSide (t.keepWrite_regSide i ws) fun a ha => by
    rintro (⟨hge, -⟩ | heq)
    · simp only [Reg.KEEP_LOG] at hge
      omega
    · simp only [Reg.KEEP_LOG] at heq
      omega)

theorem logMoved (h : LowKept s t) (q : Nat) : LowKept s (t.logMoved q) := by
  unfold State.logMoved
  lift_lets
  intro _ _ _ first _ _ u
  have k : LowKept s u := h.regsSame rfl
  clear_value u first
  cases first with
  | none => exact k
  | some f => exact k.keepWrite _ _

theorem logPush (h : LowKept s t) (e : LogEntry) : LowKept s (t.logPush e) := by
  rw [State.logPush_eq]
  have hv : LowKept s (if t.flt.log.length < 1024 then t else t.bump Reg.FLT_LOG_LOST) := .ite h (h.bump (by decide))
  generalize (if t.flt.log.length < 1024 then t else t.bump Reg.FLT_LOG_LOST) = v at hv ⊢
  rw [State.logSettled]
  have hw : LowKept s (v.logEntered (t.logged e) (logInsert (t.logged e) v.flt.log)) := hv.regsSame rfl
  exact .ite hw (hw.logMoved _)

theorem takeFirst (h : LowKept s t) (d i : Nat) : LowKept s (t.takeFirst d i) := by
  unfold State.takeFirst
  split
  · exact h
  · next x _ =>
    have hput : LowKept s (t.putFirst x) := by
      have hw {f : FaultState} : LowKept s { t with flt := f } := h.regsSame rfl
      rw [State.putFirst]
      exact hw.keepWrite _ _
    exact .ite hput h

theorem tripRaise (h : LowKept s t) (x : Trip) (e : LogEntry) (f : FltInst) (ev : Bool) : LowKept s (t.tripRaise x e f ev).1 := by
  have hlog (e : LogEntry) (held : Bool) : LowKept s (t.tripLog x e held) :=
    ((h.trans (.of_regSide (t.tripCounted_regSide x.rail held) fun a ha => by
      rintro (hc | ⟨-, hc⟩ | ⟨-, hc⟩) <;> rcases hc with rfl | rfl <;> exact absurd ha (by decide))).logPush e).takeFirst _ _
  have heq : (t.tripRaise x e f ev).1 = ((t.tripLog x (t.raisedEntry x e ev) (t.raisedEntry x e ev).withheld).tripMarks x e.sev (t.raisedEntry x e ev).latched).tripStand x f ev
      (t.raisedEntry x e ev).reaction e.sev (t.raisedEntry x e ev).latched e.injected := rfl
  have hmarks := (State.tripMarks_spec (t.tripLog x (t.raisedEntry x e ev) (t.raisedEntry x e ev).withheld) x e.sev (t.raisedEntry x e ev).latched).2.1
  rw [heq, State.tripStand]
  exact .ite ((hlog _ _).regsSame hmarks) ((hlog _ _).regsSame hmarks)

/-- A trip changes such registers by its lamp flag alone. -/
theorem enterTrip (s : State) (x : Trip) : (s.enterTrip x).1 = s ∨ LowKept (s.lampFlag x.det x.inst) (s.enterTrip x).1 := by
  unfold State.enterTrip
  split
  · exact .inl rfl
  split
  · exact .inl rfl
  refine .inr ?_
  generalize s.lampFlag x.det x.inst = v
  dsimp only
  split
  · refine LowKept.logPush (LowKept.bump ?_ (by decide)) _
    split
    · exact .of_regs rfl
    · exact .of_regs rfl
  · split
    · exact ((LowKept.of_regs rfl : LowKept v (v.setFltInst x.det x.inst _))).logPush _
    · exact LowKept.tripRaise (.of_regs rfl) ..

end LowKept

/-- The status of a lamp port stays when detector 198 is raised. -/
theorem State.raise_portStat (h : s.logOnly 198 = true) (i info q : Nat) (hq : q < 32) :
    (s.raise 198 i info).rn (Reg.LAMP_PORT_STAT q) = s.rn (Reg.LAMP_PORT_STAT q) := by
  have hlow : Reg.LAMP_PORT_STAT q < 0x120000 := by simp only [Reg.LAMP_PORT_STAT]; omega
  have hflag : (s.lampFlag 198 i).rd (Reg.LAMP_PORT_STAT q) = s.rd (Reg.LAMP_PORT_STAT q) := by
    rw [State.lampFlag]
    split
    · exact State.rd_wr_ne _ _ (by simp only [Reg.LAMP_PORT_STAT, Reg.LAMP_PORT_FLT]; omega)
    · rfl
  rw [State.raise_entered h]
  refine congrArg BitVec.toNat ?_
  rcases LowKept.enterTrip s { det := 198, inst := i, info := info } with heq | hkept
  · rw [heq]
  · exact (hkept.rd _ hlow).trans hflag

/-! #### Faults at the head of the log -/

/-- Who tripped last. -/
theorem Independent.raise_head (h : Independent s d) (hfresh : s.LogFresh) (i info : Nat) :
    ((s.raise d i info).flt.log.head?.map fun e => (e.det, e.inst)) = some (d, i) := by
  have hkeys := congrArg List.head? (h.raise_fresh hfresh i info)
  rw [State.keys, List.head?_map] at hkeys
  obtain ⟨e, he, hkey⟩ := Option.map_eq_some_iff.1 (hkeys.trans rfl)
  simp only [LogEntry.key, Prod.mk.injEq] at hkey
  rw [he, Option.map_some, hkey.1, hkey.2.1]

theorem State.substitute_head {k j : Nat} (hrun : s.rsv.running = []) (hfree : s.reserveFree k j = true) (h3 : k ≠ 3) (h11 : s.logOnly 11 = true)
    (hfresh : s.LogFresh) : ((s.substitute k j).flt.log.head?.map fun e => (e.det, e.inst)) = some (11, k) := by
  obtain ⟨halike, hlogs, -⟩ := s.substituting_alike k j
  rw [(State.substitute_spec hrun hfree h3 h11).2.2.1]
  exact (independent_device (.inl (by decide)) rfl ((hlogs 11).trans h11)).raise_head (halike.fresh hfresh) k j

theorem State.unavailable_spec {k j : Nat} (h3 : k ≠ 3) (hnew : s.fltInst 10 k = {}) (h10 : s.logOnly 10 = true) (hfresh : s.LogFresh) :
    FaultSide s (s.unavailable k j) ∧ ((s.unavailable k j).flt.log.head?.map fun e => (e.det, e.inst)) = some (10, k) := by
  rw [State.unavailable, if_neg h3, State.raiseOnce_new hnew]
  exact ⟨raise_faultSide s 10 k 0 h10, (independent_device (.inl (by decide)) rfl h10).raise_head hfresh k 0⟩

/-- A fault whose detector takes a free reserve. -/
theorem Independent.worn_two {k j i info : Nat} (h : Independent s d) (hfresh : s.LogFresh) (hpolicy : s.policy k = 2) (hrun : s.rsv.running = [])
    (hfree : (s.raise d i info).reserveFree k j = true) (h3 : k ≠ 3) (h11 : s.logOnly 11 = true) :
    ((s.raise d i info).worn k j).rsv = { s.rsv with running := [⟨k, j, s.clk⟩] } ∧ ((s.raise d i info).worn k j).hold = s.hold
      ∧ (∀ v ∈ [(11, k), (d, i)], v ∈ (((s.raise d i info).worn k j).flt.log.take 2).map fun e => (e.det, e.inst))
      ∧ (∀ a, faultReg a = false → ¬ rsvReg a → ((s.raise d i info).worn k j).rd a = s.rd a)
      ∧ ((s.raise d i info).worn k j) = ((((s.raise d i info).substituting k j).raise 11 k j).rsvSettle) := by
  have hfault := raise_faultSide s d i info h.logged
  obtain ⟨w, hw⟩ : ∃ w, w = s.raise d i info := ⟨_, rfl⟩
  rw [← hw] at hfault hfree ⊢
  have hwpol : w.policy k = 2 := by
    rw [← hpolicy, State.policy, State.policy, State.fld, State.fld, hfault.rn (by decide)]
  have hwrun : w.rsv.running = [] := by rw [hfault.rsv, hrun]
  have hw11 : w.logOnly 11 = true := (hfault.logOnly 11 (by decide)).trans h11
  have hworn : w.worn k j = w.substitute k j := if_pos hwpol
  obtain ⟨s1, s2, -, s4⟩ := w.substitute_spec (k := k) (i := j) hwrun hfree h3 hw11
  have htwo := State.substitute_two h hfresh info (t := w) (by rw [hw]) hfault.alike (k := k) (j := j) hwrun hfree h3 hw11
  rw [hworn]
  refine ⟨?_, s2.trans hfault.hold, htwo, fun a hf hr => (s4 a hf hr).trans (hfault.rd hf), State.substitute_free hwrun hfree h3⟩
  rw [s1, hfault.rsv, hfault.clk]

/-! #### The registers that show the reserves -/

theorem State.rsvSettle_core_regSide (s : State) : RegSide (fun a => ∃ c < 10, a = Reg.RSV_CORE_STAT c)
    ((s.wn Reg.RSV_STAT (s.rsv.spareBank.isSome.toNat + 2 * (s.rsv.running.any (·.kind == 1)).toNat + 4 * s.rsv.spareCores.length
      + 16 * s.rsv.watchFree.toNat)).wn Reg.RSV_HOLD_MAP (s.rsv.spareBank.getD 31)) s.rsvSettle := by
  refine (RegSide.refl _ _).foldl_mem _ fun u c hc => ?_
  have hcore : ∃ b < 10, Reg.RSV_CORE_STAT c = Reg.RSV_CORE_STAT b := ⟨c, List.mem_range.1 hc, rfl⟩
  exact ((RegSide.refl _ u).setFld _ _ _ hcore).setFld _ _ _ hcore

theorem State.rsvSettle_shown (s : State) : s.rsvSettle.rn Reg.RSV_STAT = (s.rsv.spareBank.isSome.toNat + 2 * (s.rsv.running.any (·.kind == 1)).toNat
    + 4 * s.rsv.spareCores.length + 16 * s.rsv.watchFree.toNat) % 2 ^ 32 ∧ s.rsvSettle.rn Reg.RSV_HOLD_MAP = s.rsv.spareBank.getD 31 % 2 ^ 32 := by
  have hne {a : Nat} (ha : a < 0x130300) : ¬ ∃ c < 10, a = Reg.RSV_CORE_STAT c := by
    rintro ⟨c, -, rfl⟩
    simp only [Reg.RSV_CORE_STAT] at ha
    omega
  rw [s.rsvSettle_core_regSide.rn (hne (by decide)), s.rsvSettle_core_regSide.rn (hne (by decide)), State.rn_wn_self, State.rn_wn_ne _ _ (by decide),
    State.rn_wn_self]
  exact ⟨rfl, rfl⟩

/-- The errors counted of a core stay. -/
theorem State.rsvSettle_errs (s : State) (c : Nat) : s.rsvSettle.fld (Reg.RSV_CORE_STAT c) 15 8 = s.fld (Reg.RSV_CORE_STAT c) 15 8 := by
  have hfold (l : List Nat) (v : State) : (l.foldl (fun (s : State) c => (s.setFld (Reg.RSV_CORE_STAT c) 0 0 (s.rsv.cores.contains c).toNat).setFld
      (Reg.RSV_CORE_STAT c) 1 1 (s.rsv.retired.contains c).toNat) v).fld (Reg.RSV_CORE_STAT c) 15 8 = v.fld (Reg.RSV_CORE_STAT c) 15 8 := by
    refine List.foldlRecOn (motive := fun w : State => w.fld (Reg.RSV_CORE_STAT c) 15 8 = v.fld (Reg.RSV_CORE_STAT c) 15 8) l _ rfl fun w hw b _ => ?_
    rw [← hw]
    by_cases hbc : c = b
    · subst hbc
      rw [State.fld_setFld_beside _ (by decide) (by decide) (.inr (by decide)), State.fld_setFld_beside _ (by decide) (by decide) (.inr (by decide))]
    · have hne : Reg.RSV_CORE_STAT c ≠ Reg.RSV_CORE_STAT b := by simp only [Reg.RSV_CORE_STAT]; omega
      rw [State.fld_setFld_ne _ _ _ _ _ _ hne, State.fld_setFld_ne _ _ _ _ _ _ hne]
  rw [State.rsvSettle, hfold, State.fld, State.rn_wn_ne _ _ (by simp only [Reg.RSV_CORE_STAT, Reg.RSV_HOLD_MAP]; omega),
    State.rn_wn_ne _ _ (by simp only [Reg.RSV_CORE_STAT, Reg.RSV_STAT]; omega)]
  rfl

end Sys2Proof.Machine
end


section
/-! ### Operations of the fault block and the reserve ledger -/

namespace Sys2Proof.Machine

variable {s t u : State} {d i k : Nat} {x : FltInst}

theorem State.fltInst_setFltInst (s : State) (d i : Nat) (x : FltInst) : (s.setFltInst d i x).fltInst d i = x := by
  rw [State.fltInst, State.setFltInst]
  dsimp only
  split
  · next h => rw [tabGetD, tabGet?_tabErase_self, h]; rfl
  · exact tabGetD_tabSet_self ..

/-- A new trip of a detector that only logs is its entry and no more. -/
theorem State.logTrip_entered {t : Trip} (htrips : s.trips t.det = true) (hshadow : s.shadowOf t.det t.inst = none)
    (hnew : (detEvent t.det && !t.rail) = true ∨ (s.fltInst t.det t.inst).standing = false) (hreact : s.detReaction t.det ≤ 1)
    (hrail : t.rail = true → t.det ≠ 9) : s.logTrip t = (s.enterTrip t).1 := by
  rw [(State.logTrip_logged htrips hshadow hnew hreact hrail).1, State.enterTrip_new htrips hshadow hnew]

/-- A new trip that is logged: its entry, the instance it leaves and its counts. -/
theorem State.logTrip_reported {t : Trip} (htrips : s.trips t.det = true) (hshadow : s.shadowOf t.det t.inst = none)
    (hnew : s.fltInst t.det t.inst = {}) (hevent : (detEvent t.det && !t.rail) = false) (hreact : s.detReaction t.det ≤ 1)
    (hrail : t.rail = true → t.det ≠ 9) (hfresh : s.LogFresh) :
    ((s.logTrip t).flt.log.head?.map fun e => (e.kind, e.det, e.inst, e.info)) = some (if t.rail then 5 else 1, t.det, t.inst, t.info)
      ∧ ((s.logTrip t).fltInst t.det t.inst).state = (if t.rail then .rail else .fault)
      ∧ (s.logTrip t).pair Reg.FLT_RAISED = min (s.pair Reg.FLT_RAISED + 1) (2 ^ 64 - 1)
      ∧ (t.rail = true → (s.logTrip t).pair Reg.FLT_RAIL = min (s.pair Reg.FLT_RAIL + 1) (2 ^ 64 - 1)) ∧ (s.logTrip t).hold = s.hold := by
  have hstand : (s.fltInst t.det t.inst).standing = false := by rw [hnew]; rfl
  obtain ⟨log, first, severe, hflt, hhead, hraised, hrails, -⟩ := State.enterTrip_spec htrips hshadow (.inr hstand) hfresh
  rw [State.logTrip_entered htrips hshadow (.inr hstand) hreact hrail]
  have hlog : (s.enterTrip t).1.flt.log = log := by rw [hflt]
  have hinsts : (s.enterTrip t).1.fltInst t.det t.inst = s.raisedInst t (s.fltInst t.det t.inst) (detEvent t.det && !t.rail) (s.entered t) := by
    rw [State.fltInst, hflt, hevent]
    exact State.fltInst_setFltInst ..
  refine ⟨?_, ?_, hraised, hrails, (enterTrip_faultSide s t).hold⟩
  · have hkind : (s.entered t).kind = if t.rail then 5 else 1 := by rw [State.entered, State.raisedEntry, hevent]; rfl
    rw [hlog]
    rcases hhead with h | h
    · rw [h, ← hkind]; rfl
    · rw [h, ← hkind]; rfl
  · rw [hinsts]
    rfl

/-! #### Recovery and commands of the fault block (R443, R446, R447, R452, R455) -/

theorem State.recover_plain (hx : s.fltInst d i = x) (hstate : x.state = .fault) (hcond : x.cond = false) (hlat : x.latched = false)
    (hquiet : x.quietFrom + x.quiet ≤ s.clk) (hrecov : x.recov = []) (hesc : 2 ≤ x.escLimit) :
    ((s.recover d i).fltInst d i).state = .good ∧ ((s.recover d i).flt.log.head?.map fun e => (e.kind, e.det, e.inst)) = some (2, d, i)
      ∧ (s.recover d i).pair Reg.FLT_RECOVERED = min (s.pair Reg.FLT_RECOVERED + 1) (2 ^ 64 - 1) := by
  have hgo : (x.standing && !x.cond && x.state != .escalated && !x.latched
      && !(x.state == .rail && s.flt.injection.any fun j => j.det == d && j.inst == i) && decide (x.quietFrom + x.quiet ≤ s.clk)) = true := by
    rw [FltInst.standing, hstate, hcond, hlat, decide_eq_true hquiet]
    rfl
  obtain ⟨e, he, hkind, hdet, hinst⟩ : ∃ e : LogEntry, e = ⟨0, 0, 0, d, i, 2, x.sev, false, false, x.injected, false, false, 255, 0, 0, 0,
      if d = 256 then s.rn Reg.PWR_BROWN_LAST else 0⟩ ∧ e.kind = 2 ∧ e.det = d ∧ e.inst = i := ⟨_, rfl, rfl, rfl, rfl⟩
  have hnew : (s.bump Reg.FLT_RECOVERED).flt.log.head?.any (fun z => z.meets ((s.bump Reg.FLT_RECOVERED).logged e)) = false := by
    have hmeets (z : LogEntry) : z.meets ((s.bump Reg.FLT_RECOVERED).logged e) = false := by
      have htrip : ((s.bump Reg.FLT_RECOVERED).logged e).trip = false := by rw [LogEntry.trip, State.logged, hkind]; rfl
      rw [LogEntry.meets, htrip, Bool.and_false, Bool.false_and, Bool.false_and]
    simp only [hmeets]
    cases (s.bump Reg.FLT_RECOVERED).flt.log.head? <;> rfl
  obtain ⟨hflt, hrd, -⟩ := State.logPush_new hnew
  have hpair := s.pair_bump Reg.FLT_RECOVERED
  have heq : s.recover d i = if x.escLimit ≤ ((((s.bump Reg.FLT_RECOVERED).logPush e).clk :: x.recov).filter
      fun c => decide (((s.bump Reg.FLT_RECOVERED).logPush e).clk < c + x.escWindow)).length then s.recover d i
      else (if x.reaction = 5 then ((s.bump Reg.FLT_RECOVERED).logPush e).emit (.pin "SAFE" d false) else (s.bump Reg.FLT_RECOVERED).logPush e).setFltInst d i
        { recov := (((s.bump Reg.FLT_RECOVERED).logPush e).clk :: x.recov).filter fun c => decide (((s.bump Reg.FLT_RECOVERED).logPush e).clk < c + x.escWindow) } := by
    split
    · rfl
    · next hlt =>
      rw [State.recover]
      dsimp only
      rw [hx, if_pos hgo, ← he, if_neg hlt]
  have hshort (c : Nat) (f : Nat → Bool) : ((c :: x.recov).filter f).length < x.escLimit := by
    have := List.length_filter_le f (c :: x.recov)
    rw [hrecov] at this ⊢
    exact Nat.lt_of_le_of_lt this hesc
  rw [if_neg (Nat.not_le.2 (hshort _ _))] at heq
  rw [heq]
  generalize (s.bump Reg.FLT_RECOVERED).logPush e = v at *
  have hside : (if x.reaction = 5 then v.emit (.pin "SAFE" d false) else v).flt = v.flt ∧ (if x.reaction = 5 then v.emit (.pin "SAFE" d false) else v).regs = v.regs := by
    split <;> exact ⟨rfl, rfl⟩
  generalize (if x.reaction = 5 then v.emit (.pin "SAFE" d false) else v) = w at *
  refine ⟨by rw [State.fltInst_setFltInst], ?_, ?_⟩
  · have hlog : (w.setFltInst d i { recov := (v.clk :: x.recov).filter fun c => decide (v.clk < c + x.escWindow) }).flt.log
        = (((s.bump Reg.FLT_RECOVERED).logged e) :: (s.bump Reg.FLT_RECOVERED).flt.log).take 1024 := by
      exact (congrArg FaultState.log hside.1).trans (congrArg FaultState.log hflt)
    rw [hlog, ← hkind, ← hdet, ← hinst]
    rfl
  · rw [← hpair]
    refine State.pair_congr ?_ ?_
    · exact (show _ = v.rd _ by rw [State.rd, State.rd, ← hside.2]; rfl).trans (hrd _ (by decide) (by decide))
    · exact (show _ = v.rd _ by rw [State.rd, State.rd, ← hside.2]; rfl).trans (hrd _ (by decide) (by decide))

theorem State.clearFirst_flt (s : State) : s.clearFirst.flt = { s.flt with first := none } := State.keepWrite_flt ..

theorem State.clearEsc_spec (hstate : (s.fltInst d i).state = .escalated) (hlat : (s.fltInst d i).latched = false) :
    (s.clearEsc d i).fltInst d i = {} ∧ (s.clearEsc d i).flt.insts = tabErase s.flt.insts (instKey d i) ∧ (s.clearEsc d i).regs = s.regs
      ∧ (s.clearEsc d i).hold = s.hold := by
  rw [State.clearEsc, if_pos ⟨hstate, hlat⟩]
  have hside : ∀ w : State, w = (if (s.fltInst d i).reaction = 5 then s.emit (.pin "SAFE" d false) else s) → w.flt = s.flt ∧ w.regs = s.regs ∧ w.hold = s.hold := by
    rintro w rfl
    split <;> exact ⟨rfl, rfl, rfl⟩
  obtain ⟨w, hw⟩ : ∃ w : State, w = (if (s.fltInst d i).reaction = 5 then s.emit (.pin "SAFE" d false) else s) := ⟨_, rfl⟩
  obtain ⟨hflt, hregs, hhold⟩ := hside w hw
  rw [← hw]
  refine ⟨State.fltInst_setFltInst .., ?_, hregs, hhold⟩
  rw [← hflt, State.setFltInst]
  dsimp only
  rw [if_pos rfl]

theorem State.clearAll_one (hinsts : s.flt.insts = [(k, x)]) (hstate : x.state = .escalated) (hlat : x.latched = false) :
    s.clearAll.flt.insts = [] ∧ s.clearAll.regs = s.regs ∧ s.clearAll.hold = s.hold := by
  have hkey : instKey (k / 65536) (k % 65536) = k := by rw [instKey]; omega
  have hinst : s.fltInst (k / 65536) (k % 65536) = x := by
    rw [State.fltInst, hkey, hinsts, tabGetD, tabGet?, if_pos rfl]
    rfl
  have heq : s.clearAll = s.clearEsc (k / 65536) (k % 65536) := by
    rw [State.clearAll, hinsts]
    rfl
  obtain ⟨-, h1, h2, h3⟩ := State.clearEsc_spec (s := s) (d := k / 65536) (i := k % 65536) (by rw [hinst, hstate]) (by rw [hinst, hlat])
  rw [heq]
  refine ⟨?_, h2, h3⟩
  rw [h1, hkey, hinsts, tabErase, if_pos rfl, tabErase]

theorem State.detCfgWrite_takes (req : Requester) {v p : Nat} (hsev : detSev? d = some p) (hp : p ≤ bits v 1 0) (h1 : detAllowed d (bits v 4 2) = true)
    (h2 : detAllowed d (bits v 7 5) = true) (h3 : 1 ≤ bits v 15 8) (h4 : 1 ≤ bits v 19 16) (h5 : 1 ≤ bits v 27 20) (htest : s.flt.test = false) :
    s.detCfgWrite req d v = s.wn (Reg.FLT_DET_CFG d) (bits v 27 0) := by
  rw [State.detCfgWrite, hsev]
  refine if_pos ?_
  dsimp only
  rw [decide_eq_true hp, h1, h2, decide_eq_true h3, decide_eq_true h4, decide_eq_true h5, htest]
  rfl

theorem State.condClear_injection (s : State) (d i : Nat) : (s.condClear d i).flt.injection = s.flt.injection := by
  unfold State.condClear
  dsimp only
  split
  · split <;> rfl
  · rfl

theorem State.injectOver_spec {j : Injection} (h : s.flt.injection = some j) :
    s.injectOver.flt.injection = none ∧ (s.injectOver.fltInst j.det j.inst).cond = false ∧ s.injectOver.regs = s.regs ∧ s.injectOver.hold = s.hold := by
  obtain ⟨v, hv⟩ : ∃ v : State, v = { s with flt := { s.flt with injection := none } } := ⟨_, rfl⟩
  obtain ⟨h1, -, h3⟩ := v.condClear_spec j.det j.inst
  have h2 : (v.condClear j.det j.inst).flt.injection = none := (v.condClear_injection ..).trans (by rw [hv])
  have h4 : (v.condClear j.det j.inst).hold = s.hold := (condClear_faultSide ..).hold.trans (by rw [hv])
  have h3' : (v.condClear j.det j.inst).regs = s.regs := h3.trans (by rw [hv])
  rw [State.injectOver, h]
  dsimp only
  rw [← hv]
  generalize v.condClear j.det j.inst = w at *
  split
  · exact ⟨h2, by rw [State.fltInst_setFltInst]; exact h1, h3', h4⟩
  · exact ⟨h2, h1, h3', h4⟩

/-- A pair forced to read a trip of a detector that only logs. -/
theorem State.inject_trip (req : Requester) {v : Nat} (htest : s.flt.test = true) (hp : bits v 1 0 = 1) (hdur : bits v 25 2 ≠ 0)
    (hnone : s.flt.injection = none) (hd : bits s.flt.injectTgt 8 0 = d) (hi : bits s.flt.injectTgt 26 16 = i) (hlog : s.logOnly d = true) :
    (s.inject req v).flt.injection = some ⟨d, i, 1, s.clk + us (bits v 25 2)⟩ ∧ (s.inject req v).hold = s.hold := by
  obtain ⟨w, hw, hwlog, hwinj, hwhold⟩ : ∃ w : State, w = { s with flt := { s.flt with injection := some ⟨d, i, 1, s.clk + us (bits v 25 2)⟩ } }
      ∧ w.logOnly d = true ∧ w.flt.injection = some ⟨d, i, 1, s.clk + us (bits v 25 2)⟩ ∧ w.hold = s.hold := ⟨_, rfl, hlog, rfl, rfl⟩
  have hover : s.injectOver = s := by rw [State.injectOver, hnone]
  have heq : s.inject req v = w.raise d i := by
    rw [State.inject]
    dsimp only
    rw [if_pos htest, if_neg (by rw [hp]; simp [hdur]), hover, hp, hd, hi, ← hw]
    rfl
  rw [heq]
  exact ⟨(congrArg Prod.snd (w.raise_orders d i 0 hwlog)).trans hwinj, (raise_faultSide w d i 0 hwlog).hold.trans hwhold⟩

end Sys2Proof.Machine
end


section
/-! ### Wear, substitution and the deckhand check (R453 to R456) -/

namespace Sys2Proof.Machine

variable {s t u : State} {d i k : Nat} {x : FltInst}

theorem rsvReg_iff (a : Nat) : rsvReg a ↔ a = Reg.RSV_STAT ∨ a = Reg.RSV_HOLD_MAP ∨ (Reg.RSV_CORE_STAT 0 ≤ a ∧ a < Reg.RSV_CORE_STAT 10 ∧ a % 4 = 0) := by
  refine or_congr_right (or_congr_right ⟨?_, fun ⟨hlo, hhi, hmod⟩ => ⟨(a - Reg.RSV_CORE_STAT 0) / 4, ?_, ?_⟩⟩)
  · rintro ⟨c, hc, rfl⟩
    simp only [Reg.RSV_CORE_STAT]
    omega
  · simp only [Reg.RSV_CORE_STAT] at *
    omega
  · simp only [Reg.RSV_CORE_STAT] at *
    omega

/-- The first errors of a bank in an hour. -/
theorem State.wearEcc_first (h : s.rsv.hourEcc = []) (b n : Nat) :
    ∃ v, s.wearEcc b n = (if 0 < s.rn Reg.RSV_THR_ECC ∧ s.rn Reg.RSV_THR_ECC ≤ n then (v.raise 6 b n).wornBank b else v) ∧ LogAlike s v
      ∧ v.hold = s.hold ∧ v.clk = s.clk ∧ v.regs = (s.bumpBy (Reg.RSV_BANK_ECC b) n).regs
      ∧ ∃ start, v.rsv = { s.rsv with hourEcc := [(b, n)], hourStart := start } := by
  obtain ⟨v, hv, halike, hhold, hclk, hregs, start, hrsv⟩ : ∃ v : State, v = (if s.rsv.hourStart + sec 3600 ≤ s.clk then
      { s with rsv := { s.rsv with hourEcc := [], hourStart := s.clk } } else s) ∧ LogAlike s v ∧ v.hold = s.hold ∧ v.clk = s.clk ∧ v.regs = s.regs
      ∧ ∃ start, v.rsv = { s.rsv with hourEcc := [], hourStart := start } := by
    refine ⟨_, rfl, ?_⟩
    split
    · exact ⟨⟨rfl, rfl, rfl⟩, rfl, rfl, rfl, s.clk, rfl⟩
    · exact ⟨.refl s, rfl, rfl, rfl, s.rsv.hourStart, by rw [← h]⟩
  have hthr : v.rn Reg.RSV_THR_ECC = s.rn Reg.RSV_THR_ECC := by rw [State.rn, State.rd, hregs]; rfl
  have hbump : v.bumpBy (Reg.RSV_BANK_ECC b) n = v.setPair (Reg.RSV_BANK_ECC b) (min (s.pair (Reg.RSV_BANK_ECC b) + n) (2 ^ 64 - 1)) := by
    have hpair : v.pair (Reg.RSV_BANK_ECC b) = s.pair (Reg.RSV_BANK_ECC b) := State.pair_congr (by rw [State.rd, hregs]; rfl) (by rw [State.rd, hregs]; rfl)
    rw [State.bumpBy, hpair]
  obtain ⟨w, hw⟩ : ∃ w, w = v.bumpBy (Reg.RSV_BANK_ECC b) n := ⟨_, rfl⟩
  have hw' := hw.trans hbump
  refine ⟨{ w with rsv := { w.rsv with hourEcc := tabSet w.rsv.hourEcc b (0 + n) } }, ?_, ?_, ?_, ?_, ?_, start, ?_⟩
  · rw [State.wearEcc]
    dsimp only
    rw [← hv, hthr, hrsv, ← hw]
    dsimp only
    rw [tabGetD, tabGet?, Option.getD_none, Nat.zero_add]
  · rw [hw']
    exact halike.trans ⟨rfl, rfl, rfl⟩
  · rw [hw']
    exact hhold
  · rw [hw']
    exact hclk
  · rw [hw', State.bumpBy, State.setPair, State.setPair]
    dsimp only [State.wn, State.wr]
    rw [hregs]
  · have hwr : w.rsv = v.rsv := by rw [hw']; rfl
    dsimp only
    rw [hwr, hrsv, Nat.zero_add]
    rfl

theorem State.policy_congr (h : t.rd Reg.RSV_POLICY = s.rd Reg.RSV_POLICY) (k : Nat) : t.policy k = s.policy k := by
  rw [State.policy, State.policy, State.fld, State.fld, State.rn, State.rn, h]

theorem State.wornBank_kept (h : s.policy 1 ≠ 2) (b : Nat) : s.wornBank b = s := by
  rw [State.wornBank, State.worn, if_neg h, ite_self]

theorem getD_zeros (n j : Nat) : (List.replicate n (0 : Byte)).getD j 0#8 = 0#8 := by
  rw [List.getD_eq_getElem?_getD, List.getElem?_replicate]
  split <;> rfl

/-- An uncorrectable granule reads as zero. -/
theorem State.wearUncorr_spec (b q : Nat) (hb : b < 17) (hpolicy : s.policy 1 ≠ 2) (h5 : s.logOnly 5 = true) (hfresh : s.LogFresh) :
    (s.wearUncorr b q).rn (Reg.RSV_BANK_UNCORR b) = min (s.rn (Reg.RSV_BANK_UNCORR b) + 1) (2 ^ 32 - 1) ∧ (s.wearUncorr b q).rsv = s.rsv
      ∧ ((s.wearUncorr b q).flt.log.head?.map fun e => (e.det, e.inst)) = some (5, b)
      ∧ ∀ a, (s.wearUncorr b q).holdByte a = if s.rsv.bankMap.contains b = true ∧ s.granuleAt b q ≤ a ∧ a < s.granuleAt b q + 64 then 0#8 else s.holdByte a := by
  obtain ⟨v, hv, halike, hregs, hrsv, hbytes⟩ : ∃ v : State, v = (if s.rsv.bankMap.contains b then s.writeHold (s.granuleAt b q) (List.replicate 64 0) else s)
      ∧ LogAlike s v ∧ v.regs = s.regs ∧ v.rsv = s.rsv
      ∧ ∀ a, v.holdByte a = if s.rsv.bankMap.contains b = true ∧ s.granuleAt b q ≤ a ∧ a < s.granuleAt b q + 64 then 0#8 else s.holdByte a := by
    refine ⟨_, rfl, ?_⟩
    split
    · next hin =>
      refine ⟨⟨State.writeHold_flt .., State.writeHold_time .., State.writeHold_asker ..⟩, State.writeHold_regs .., State.writeHold_rsv .., fun a => ?_⟩
      rw [State.holdByte_writeHold, List.length_replicate, getD_zeros]
      exact if_congr (and_iff_right hin).symm rfl rfl
    · next hout => exact ⟨.refl s, rfl, rfl, fun a => (if_neg fun h => hout h.1).symm⟩
  have hrn (a : Nat) : v.rn a = s.rn a := by rw [State.rn, State.rd, hregs]; rfl
  obtain ⟨w, hw⟩ : ∃ w, w = v.wn (Reg.RSV_BANK_UNCORR b) (min (v.rn (Reg.RSV_BANK_UNCORR b) + 1) (2 ^ 32 - 1)) := ⟨_, rfl⟩
  have hlow : 0x130200 ≤ Reg.RSV_BANK_UNCORR b ∧ Reg.RSV_BANK_UNCORR b < 0x130300 := by simp only [Reg.RSV_BANK_UNCORR]; omega
  obtain ⟨hlo, hhi⟩ := hlow
  have hcount : w.rn (Reg.RSV_BANK_UNCORR b) = min (s.rn (Reg.RSV_BANK_UNCORR b) + 1) (2 ^ 32 - 1) := by
    rw [hw, State.rn_wn_self, hrn, Nat.mod_eq_of_lt (by omega)]
  have hfreg : faultReg (Reg.RSV_BANK_UNCORR b) = false := by
    rw [faultReg]
    simp
    omega
  have hother {a : Nat} (ha : a < 0x130200) : w.rn a = s.rn a := by rw [hw, State.rn_wn_ne _ _ (by omega), hrn]
  have hw5 : w.logOnly 5 = true := by rw [← h5, State.logOnly, State.logOnly, State.detReaction, State.fld, hother (by decide)]; rfl
  have hwalike : LogAlike s w := by rw [hw]; exact halike.trans ⟨rfl, rfl, rfl⟩
  have hwrsv : w.rsv = s.rsv := by rw [hw]; exact hrsv
  have hwbytes (a : Nat) : w.holdByte a = v.holdByte a := by rw [hw]; rfl
  have hfault := raise_faultSide w 5 b 0 hw5
  have hhead := (independent_device (.inl (by decide)) rfl hw5).raise_head (hwalike.fresh hfresh) b 0
  have hkept : (w.raise 5 b).wornBank b = w.raise 5 b := by
    refine State.wornBank_kept (fun h => hpolicy ?_) b
    rw [← h, State.policy, State.policy, if_neg (by decide), if_neg (by decide), State.fld, State.fld, hfault.rn (by decide), hother (by decide)]
  have heq : s.wearUncorr b q = w.raise 5 b := by
    rw [← hkept, hw, hv]
    rfl
  rw [heq]
  refine ⟨(hfault.rn hfreg).trans hcount, hfault.rsv.trans hwrsv, hhead, fun a => ?_⟩
  rw [← hbytes, ← hwbytes, State.holdByte, hfault.hold]
  rfl

/-! #### Substitution complete (R454) -/

theorem State.rsvSettle_logAlike (s : State) : LogAlike s s.rsvSettle := .of_regSide s.rsvSettle_regSide

theorem State.rsvSettle_rsv_same (s : State) : s.rsvSettle.rsv = s.rsv := by
  obtain ⟨_, h, _⟩ := s.rsvSettle_regSide
  rw [h]

theorem State.substComplete_eq {y : Substitution} (hrun : s.rsv.running = [y]) : s.substComplete y.kind
    = ((s.substituted y).substEnd y.kind).rsvSettle.substNext y.kind := by
  have hfind : s.rsv.running.find? (·.kind == y.kind) = some y := by rw [hrun]; simp
  rw [State.substComplete, hfind]

/-- A substitution with none of its kind waiting. -/
theorem State.substComplete_last {y : Substitution} (hrun : s.rsv.running = [y]) (hkept : (s.substituted y).rsv.running = s.rsv.running)
    (hwait : (s.substituted y).rsv.waiting = []) :
    (s.substComplete y.kind).rsv = { (s.substituted y).rsv with running := [] } ∧ (s.substComplete y.kind).hold = (s.substituted y).hold
      ∧ (s.substComplete y.kind).regs = ((s.substituted y).substEnd y.kind).rsvSettle.regs := by
  have hend : ((s.substituted y).substEnd y.kind).rsv = { (s.substituted y).rsv with running := [] } := by
    rw [State.substEnd, hkept, hrun]
    simp
  have hset := ((s.substituted y).substEnd y.kind).rsvSettle_regSide
  have hhold : ((s.substituted y).substEnd y.kind).rsvSettle.hold = (s.substituted y).hold := hset.hold
  have hrsv : ((s.substituted y).substEnd y.kind).rsvSettle.rsv = { (s.substituted y).rsv with running := [] } := (State.rsvSettle_rsv_same _).trans hend
  rw [State.substComplete_eq hrun]
  generalize ((s.substituted y).substEnd y.kind).rsvSettle = v at *
  have hnext : v.substNext y.kind = v.substEnd y.kind := by
    rw [State.substNext]
    dsimp only
    have hnone : (v.substEnd y.kind).rsv.waiting.find? (·.kind == y.kind) = none := by
      have hw : (v.substEnd y.kind).rsv.waiting = [] := by rw [State.substEnd, hrsv]; exact hwait
      rw [hw]
      rfl
    rw [hnone]
  rw [hnext]
  refine ⟨?_, hhold, rfl⟩
  rw [State.substEnd, hrsv]
  rfl

/-- A bank's reserve holds what its bank held. -/
theorem State.substComplete_bank {c p : Nat} (hrun : s.rsv.running = [⟨1, i, c⟩]) (hwait : s.rsv.waiting = []) (hspare : s.rsv.spareBank = some p) :
    (s.substComplete 1).rsv = { s.rsv with running := [], bankMap := s.rsv.bankMap.map (fun x => if x = i then p else x), spareBank := none }
      ∧ (s.substComplete 1).rn Reg.RSV_HOLD_MAP = 31 ∧ (s.substComplete 1).fld Reg.RSV_STAT 1 0 = 0
      ∧ (∀ a, ¬ rsvReg a → (s.substComplete 1).rd a = s.rd a) ∧ (s.substComplete 1).hold = s.hold := by
  obtain ⟨v, hv, hrsv, hregs, hhold⟩ : ∃ v : State, v = s.substituted ⟨1, i, c⟩
      ∧ v.rsv = { s.rsv with bankMap := s.rsv.bankMap.map (fun x => if x = i then p else x), spareBank := none } ∧ v.regs = s.regs ∧ v.hold = s.hold := by
    refine ⟨_, rfl, ?_⟩
    rw [State.substituted]
    dsimp only
    rw [hspare]
    exact ⟨rfl, rfl, rfl⟩
  obtain ⟨h1, h2, h3⟩ := State.substComplete_last hrun (by rw [← hv, hrsv]) (by rw [← hv, hrsv]; exact hwait)
  rw [← hv] at h1 h2 h3
  dsimp only at h1 h2 h3
  have hset := (v.substEnd 1).rsvSettle_regSide
  obtain ⟨hstat, hmap⟩ := (v.substEnd 1).rsvSettle_shown
  have hvr : (v.substEnd 1).rsv = { v.rsv with running := v.rsv.running.filter (·.kind != 1) } := rfl
  rw [hvr, hrsv, hrun] at hstat hmap
  have hrd (a : Nat) : (s.substComplete 1).rd a = (v.substEnd 1).rsvSettle.rd a := by rw [State.rd, h3]; rfl
  refine ⟨by rw [h1, hrsv], ?_, ?_, fun a ha => ?_, h2.trans hhold⟩
  · rw [State.rn, hrd]
    exact hmap
  · rw [State.fld, State.rn, hrd]
    refine (congrArg (bits · 1 0) hstat).trans ?_
    simp [bits]
    omega
  · rw [hrd, hset.rd ha]
    exact show v.rd a = s.rd a by rw [State.rd, hregs]; rfl

/-- A row of the OTP is used up. -/
theorem State.substComplete_otp {c : Nat} (hrun : s.rsv.running = [⟨6, i, c⟩]) (hwait : s.rsv.waiting = []) :
    (s.substComplete 6).rn Reg.RSV_OTP_SPARE = s.fld Reg.RSV_OTP_SPARE 7 0 - 1 ∧ (s.substComplete 6).rsv.running = []
      ∧ (∀ a, a ≠ Reg.RSV_OTP_SPARE → ¬ rsvReg a → (s.substComplete 6).rd a = s.rd a) ∧ (s.substComplete 6).hold = s.hold := by
  obtain ⟨v, hv, hrsv, hreg, hrd0, hhold⟩ : ∃ v : State, v = s.substituted ⟨6, i, c⟩ ∧ v.rsv = s.rsv ∧ v.rn Reg.RSV_OTP_SPARE = s.fld Reg.RSV_OTP_SPARE 7 0 - 1
      ∧ (∀ a, a ≠ Reg.RSV_OTP_SPARE → v.rd a = s.rd a) ∧ v.hold = s.hold := by
    refine ⟨_, rfl, rfl, ?_, fun a ha => State.rd_wr_ne _ _ ha, rfl⟩
    have hlt : s.fld Reg.RSV_OTP_SPARE 7 0 < 2 ^ 8 := bits_lt _ _ _
    refine (State.rn_wn_self _ _ _).trans (Nat.mod_eq_of_lt ?_)
    omega
  obtain ⟨h1, h2, h3⟩ := State.substComplete_last hrun (by rw [← hv, hrsv]) (by rw [← hv, hrsv]; exact hwait)
  rw [← hv] at h1 h2 h3
  dsimp only at h1 h2 h3
  have hset := (v.substEnd 6).rsvSettle_regSide
  have hrd (a : Nat) : (s.substComplete 6).rd a = (v.substEnd 6).rsvSettle.rd a := by rw [State.rd, h3]; rfl
  refine ⟨?_, by rw [h1], fun a hne ha => ?_, h2.trans hhold⟩
  · rw [State.rn, hrd, hset.rd (by rw [rsvReg_iff]; decide)]
    exact hreg
  · rw [hrd, hset.rd ha]
    exact hrd0 a hne

/-- The reserves with core 8 in place of a core. -/
def coreStood (r : ReserveState) (i : Nat) : ReserveState :=
  { r with
    cores := r.cores.map (fun x => if x = i then 8 else x)
    spareCores := [9]
    retired := i :: r.retired }

theorem State.substituted_core {c : Nat} (hspare : s.rsv.spareCores = [8, 9]) : s.substituted ⟨2, i, c⟩ = { s with rsv := coreStood s.rsv i } := by
  rw [State.substituted]
  dsimp only
  rw [hspare]
  rfl

/-- The next that waits starts when its reserve is free. -/
theorem State.substNext_core {n j : Nat} (hrun : s.rsv.running = []) (hwait : s.rsv.waiting = [⟨2, n, j⟩]) (hfree : s.rsv.spareCores = [9]) (h11 : s.logOnly 11 = true) :
    (s.substNext 2).rsv = { s.rsv with running := [⟨2, n, s.clk⟩], waiting := [] } ∧ (s.substNext 2).hold = s.hold := by
  have hend : s.substEnd 2 = s := by
    have hsame : s.rsv.running.filter (·.kind != 2) = s.rsv.running := by rw [hrun]; rfl
    rw [State.substEnd, hsame]
  have hfind : s.rsv.waiting.find? (·.kind == 2) = some ⟨2, n, j⟩ := by rw [hwait]; rfl
  obtain ⟨z, hz, hzrsv, hz11, hzclk, hzhold⟩ : ∃ z : State, z = { s with rsv := { s.rsv with waiting := [] } } ∧ z.rsv = { s.rsv with waiting := [] }
      ∧ z.logOnly 11 = true ∧ z.clk = s.clk ∧ z.hold = s.hold := ⟨_, rfl, rfl, h11, rfl, rfl⟩
  have hnext : s.substNext 2 = z.substitute 2 n := by
    rw [State.substNext, hend, hfind]
    dsimp only
    rw [hwait, List.erase_cons_head, ← hz]
  obtain ⟨k1, k2, -⟩ := z.substitute_spec (k := 2) (i := n) (by rw [hzrsv, hrun]) (by rw [State.reserveFree, hzrsv, hfree]; rfl) (by decide) hz11
  rw [hnext, k1, hzrsv, hzclk]
  exact ⟨rfl, k2.trans hzhold⟩

/-- A core's reserve stands in, and the next that waits starts. -/
theorem State.substComplete_core {c n j : Nat} (hrun : s.rsv.running = [⟨2, i, c⟩]) (hwait : s.rsv.waiting = [⟨2, n, j⟩]) (hspare : s.rsv.spareCores = [8, 9])
    (h11 : s.logOnly 11 = true) :
    (s.substComplete 2).rsv = { coreStood s.rsv i with running := [⟨2, n, s.clk⟩], waiting := [] } ∧ (s.substComplete 2).hold = s.hold := by
  obtain ⟨v, hv, hrsv, hlog, hclk, hhold⟩ : ∃ v : State, v = (s.substituted ⟨2, i, c⟩).substEnd 2 ∧ v.rsv = { coreStood s.rsv i with running := [] }
      ∧ v.logOnly 11 = true ∧ v.clk = s.clk ∧ v.hold = s.hold := by
    have hfilter : (coreStood s.rsv i).running.filter (·.kind != 2) = [] := by
      have hsame : (coreStood s.rsv i).running = s.rsv.running := rfl
      rw [hsame, hrun]
      rfl
    rw [State.substituted_core hspare, State.substEnd]
    dsimp only
    rw [hfilter]
    exact ⟨_, rfl, rfl, h11, rfl, rfl⟩
  have hset := v.rsvSettle_regSide
  have hw11 : v.rsvSettle.logOnly 11 = true := (State.logOnly_congr (hset.rd fun h => absurd ((rsvReg_iff _).1 h) (by decide))).trans hlog
  have hwrsv := (v.rsvSettle_rsv_same).trans hrsv
  have hwclk : v.rsvSettle.clk = s.clk := hset.clk.trans hclk
  have hwhold : v.rsvSettle.hold = s.hold := hset.hold.trans hhold
  rw [State.substComplete_eq hrun, ← hv]
  dsimp only
  generalize v.rsvSettle = w at *
  obtain ⟨k1, k2⟩ := State.substNext_core (s := w) (n := n) (j := j) (by rw [hwrsv]) (by rw [hwrsv]; exact hwait) (by rw [hwrsv]; rfl) hw11
  rw [k1, k2, hwrsv, hwclk]
  exact ⟨rfl, hwhold⟩

/-! #### The obligation -/

theorem State.wn_spec (s : State) (a : Nat) {n : Nat} (h : n < 2 ^ 32) : (s.wn a n).rn a = n ∧ RegsBut [a] s (s.wn a n) :=
  ⟨(State.rn_wn_self ..).trans (Nat.mod_eq_of_lt h), fun _ hb => State.rd_wr_ne _ _ (by simpa using hb)⟩

theorem independent_sense (h : s.logOnly 198 = true) : Independent s 198 := by
  refine ⟨?_, h⟩
  rw [State.trips]
  simp
  rfl

theorem State.detReaction_of_logOnly (h : s.logOnly d = true) : s.detReaction d ≤ 1 := by simpa [State.logOnly] using h

theorem exec_trip (dt d i n : Nat) (s : State) : exec (.detectorTrip dt [(d, i, n)]) s = act dt s fun s => s.logTrips [{ det := d, inst := i, info := n }] := rfl

/-- The end of an injection, when it is due. -/
def State.injectDue (s : State) : State :=
  match s.flt.injection with
  | some j => if j.untilClk ≤ s.clk then s.injectOver else s
  | none => s

theorem exec_injectEnd (dt : Nat) (s : State) : exec (.injectEnd dt) s = act dt s State.injectDue := rfl

theorem State.trips_of_run {p : Nat} (hsev : detSev? d = some p) (hrun : s.fld Reg.PWR_STAT 0 0 = 0) : s.trips d = true := by
  rw [State.trips, hsev, hrun]
  rfl

/-- Settles O55: each of the ledger's commands, and each of the fault block's, in its plainest case. -/
theorem reserveLedger : Obligations.ReserveLedger := by
  unfold Obligations.ReserveLedger
  intro dt n p c k i d b q core y gr x blk j det w req s hcore hlogs
  have hb := b.isLt
  have hq := q.isLt
  have hlog (e : Nat) (he : e ∈ [5, 6, 7, 10, 11, 198]) : (s.advance dt).logOnly e = true := hlogs e he
  have hcfg (e : Nat) (he : e ∈ [5, 6, 7, 10, 11, 198]) : Reg.FLT_DET_CFG e < 0x130000 := by
    have hlt : e < 512 := by fin_cases he <;> decide
    simp only [Reg.FLT_DET_CFG]
    omega
  refine ⟨?_, ?_, ?_, ?_, ?_, ?_, ?_, ?_, ?_, ?_, ?_, ?_, ?_, ?_, ?_, ?_, ?_, ?_, ?_, ?_, ?_, ?_, ?_, ?_, ?_, ?_, ?_, ?_, ?_, ?_⟩
  case refine_1 =>
    intro hecc hthr
    obtain ⟨v, hv, -, hhold, -, hregs, start, hrsv⟩ := State.wearEcc_first (s := s.advance dt) hecc b n
    rw [if_neg (fun h => Nat.not_le.2 hthr h.2)] at hv
    have hrd (a : Nat) : v.rd a = ((s.advance dt).bumpBy (Reg.RSV_BANK_ECC b) n).rd a := by rw [State.rd, hregs]; rfl
    refine completes_eq (u := v) rfl hcore hv ⟨?_, ?_, ?_, fun a ha => ?_, sameHold_of_hold hhold⟩
    · exact (State.pair_congr (hrd _) (hrd _)).trans (State.pair_bumpBy ..)
    · rw [acted_rsv, hrsv]
      dsimp only
      rw [tabGetD, tabGet?, if_pos rfl]
      rfl
    · rw [acted_rsv, hrsv]
      rfl
    · obtain ⟨h1, h2⟩ : a ≠ Reg.RSV_BANK_ECC b ∧ a ≠ Reg.RSV_BANK_ECC b + 4 := by simpa using ha
      exact (hrd a).trans (State.rd_setPair_ne _ _ h1 h2)
  case refine_2 =>
    intro hecc hpos hthr hin hpolicy hrun hspare hfresh
    obtain ⟨v, hv, halike, hhold, hclk, hregs, start, hrsv⟩ := State.wearEcc_first (s := s.advance dt) hecc b n
    rw [if_pos ⟨hpos, hthr⟩] at hv
    have hrd {a : Nat} (ha : a < 0x130100 ∨ 0x130200 ≤ a) : v.rd a = s.rd a := by
      have hne : a ≠ Reg.RSV_BANK_ECC b ∧ a ≠ Reg.RSV_BANK_ECC b + 4 := by simp only [Reg.RSV_BANK_ECC]; omega
      have hv' : v.rd a = ((s.advance dt).bumpBy (Reg.RSV_BANK_ECC b) n).rd a := by rw [State.rd, hregs]; rfl
      exact hv'.trans (State.rd_setPair_ne _ _ hne.1 hne.2)
    have hvlog (e : Nat) (he : e ∈ [5, 6, 7, 10, 11, 198]) : v.logOnly e = true :=
      (State.logOnly_congr (hrd (.inl (Nat.lt_trans (hcfg e he) (by decide))))).trans (hlogs e he)
    have hvpol : v.policy 1 = 2 := (State.policy_congr (hrd (.inl (by decide))) 1).trans hpolicy
    have hvrun : v.rsv.running = [] := by rw [hrsv]; exact hrun
    have hind : Independent v 6 := independent_device (.inl (by decide)) rfl (hvlog 6 (by simp))
    have hrraise : (v.raise 6 b n).rsv = v.rsv := (raise_faultSide v 6 b n (hvlog 6 (by simp))).rsv
    have hfree : (v.raise 6 b n).reserveFree 1 b = true := by
      rw [State.reserveFree, hrraise, hrsv]
      exact Option.isSome_iff_exists.2 ⟨p, hspare⟩
    obtain ⟨h1, h2, h3, -, h5⟩ := hind.worn_two (k := 1) (j := b) (i := b) (info := n) (halike.fresh (State.logFresh_of_freshStamp hfresh)) hvpol hvrun hfree
      (by decide) (hvlog 11 (by simp))
    have hworn : (s.advance dt).wearEcc b n = (v.raise 6 b n).worn 1 b := by
      rw [hv, State.wornBank, hrraise, hrsv]
      exact if_pos hin
    have hset : ∃ z : State, (v.raise 6 b n).worn 1 b = z.rsvSettle := ⟨_, h5⟩
    obtain ⟨u, hu⟩ : ∃ u, u = (v.raise 6 b n).worn 1 b := ⟨_, rfl⟩
    rw [← hu] at h1 h2 h3 hworn hset
    obtain ⟨z, hz⟩ := hset
    refine completes_eq (u := u) rfl hcore hworn ⟨?_, h3, ?_, sameHold_of_hold (h2.trans hhold)⟩
    · rw [acted_rsv, h1, hclk]
      rfl
    · have hzr : z.rsv = { v.rsv with running := [⟨1, b, v.clk⟩] } := by rw [← z.rsvSettle_rsv_same, ← hz, h1]
      have hstat := z.rsvSettle_shown.1
      rw [← hz, hzr, hrsv] at hstat
      have hsp : (s.advance dt).rsv.spareBank = some p := hspare
      dsimp only at hstat
      rw [hsp] at hstat
      refine (congrArg (bits · 1 1) hstat).trans ?_
      simp [bits]
      omega
  case refine_3 =>
    intro hpolicy hfresh
    obtain ⟨h1, h2, h3, h4⟩ := State.wearUncorr_spec (s := s.advance dt) b gr hb hpolicy (hlog 5 (by simp)) (State.logFresh_of_freshStamp hfresh)
    obtain ⟨u, hu⟩ : ∃ u, u = (s.advance dt).wearUncorr b gr := ⟨_, rfl⟩
    rw [← hu] at h1 h2 h3 h4
    exact completes_eq (u := u) rfl hcore hu.symm ⟨h1, h2, h3, h4⟩
  case refine_4 =>
    intro hd
    obtain ⟨h1, h2⟩ := (s.advance dt).wn_spec (Reg.RSV_SENSE_DRIFT q) (unsigned16_lt d)
    exact completes_eq rfl hcore (if_neg (Nat.not_lt.2 hd)) ⟨h1, rfl, h2, fun _ => rfl⟩
  case refine_5 =>
    intro hd hpolicy hrun hport hfresh
    obtain ⟨v, hv⟩ : ∃ v, v = (s.advance dt).wn (Reg.RSV_SENSE_DRIFT q) (unsigned 16 d) := ⟨_, rfl⟩
    have hlow : 0x130500 ≤ Reg.RSV_SENSE_DRIFT q ∧ Reg.RSV_SENSE_DRIFT q < 0x130600 := by simp only [Reg.RSV_SENSE_DRIFT]; omega
    obtain ⟨hlo, hhi⟩ := hlow
    have hrd {a : Nat} (ha : a < 0x130500) : v.rd a = s.rd a := by rw [hv]; exact State.rd_wr_ne _ _ (by omega)
    have hvlog (e : Nat) (he : e ∈ [5, 6, 7, 10, 11, 198]) : v.logOnly e = true := 
      (State.logOnly_congr (hrd (Nat.lt_trans (hcfg e he) (by decide)))).trans (hlogs e he)
    have hvpol : v.policy 4 = 2 := (State.policy_congr (hrd (by decide)) 4).trans hpolicy
    have halike : LogAlike (s.advance dt) v := by rw [hv]; exact ⟨rfl, rfl, rfl⟩
    have hvrsv : v.rsv = s.rsv ∧ v.clk = s.clk + dt ∧ v.hold = s.hold := by rw [hv]; exact ⟨rfl, rfl, rfl⟩
    have hdrift : v.rn (Reg.RSV_SENSE_DRIFT q) = unsigned 16 d := by rw [hv]; exact (State.rn_wn_self ..).trans (Nat.mod_eq_of_lt (unsigned16_lt d))
    have hfree : (v.raise 198 q (unsigned 16 d)).reserveFree 4 q = true := by
      rw [State.reserveFree, State.raise_portStat (hvlog 198 (by simp)) _ _ _ hq, State.rn, hrd (by simp only [Reg.LAMP_PORT_STAT]; omega)]
      exact congrArg Bool.not hport
    obtain ⟨h1, h2, h3, h4, -⟩ := (independent_sense (hvlog 198 (by simp))).worn_two (k := 4) (j := q) (i := q) (info := unsigned 16 d)
      (halike.fresh (State.logFresh_of_freshStamp hfresh)) hvpol (by rw [hvrsv.1, hrun]) hfree (by decide) (hvlog 11 (by simp))
    have hworn : (s.advance dt).wearSense q d = (v.raise 198 q (unsigned 16 d)).worn 4 q := by
      rw [hv]
      exact if_pos hd
    obtain ⟨u, hu⟩ : ∃ u, u = (v.raise 198 q (unsigned 16 d)).worn 4 q := ⟨_, rfl⟩
    rw [← hu] at h1 h2 h3 h4 hworn
    refine completes_eq (u := u) rfl hcore hworn ⟨?_, ?_, h3, sameHold_of_hold (h2.trans hvrsv.2.2)⟩
    · refine (congrArg BitVec.toNat (h4 _ ?_ ?_)).trans hdrift
      · rw [faultReg]
        simp
        omega
      · rw [rsvReg_iff]
        simp only [Reg.RSV_STAT, Reg.RSV_HOLD_MAP, Reg.RSV_CORE_STAT]
        omega
    · rw [acted_rsv, h1, hvrsv.2.1]
  case refine_6 =>
    intro hrun hspare hfresh
    have hfree : (s.advance dt).reserveFree 6 0 = true := decide_eq_true hspare
    obtain ⟨h1, h2, -⟩ := (s.advance dt).substitute_spec (k := 6) (i := 0) hrun hfree (by decide) (hlog 11 (by simp))
    have hhead := State.substitute_head (s := s.advance dt) (k := 6) (j := 0) hrun hfree (by decide) (hlog 11 (by simp)) (State.logFresh_of_freshStamp hfresh)
    obtain ⟨u, hu⟩ : ∃ u, u = (s.advance dt).substitute 6 0 := ⟨_, rfl⟩
    rw [← hu] at h1 h2 hhead
    exact completes_eq (u := u) rfl hcore ((if_pos rfl).trans hu.symm) ⟨congrArg ReserveState.running h1, hhead, sameHold_of_hold h2⟩
  case refine_7 =>
    intro hrun hspare hnew hfresh
    obtain ⟨hfault, hhead⟩ := State.unavailable_spec (s := s.advance dt) (k := 7) (j := 0) (by decide) hnew (hlog 10 (by simp)) (State.logFresh_of_freshStamp hfresh)
    have hun : (s.advance dt).substitute 7 0 = (s.advance dt).unavailable 7 0 := by
      have hfree : (s.advance dt).reserveFree 7 0 = false := decide_eq_false (by rw [show (s.advance dt).fld Reg.RSV_NVM_SPARE 15 0 = 0 from hspare]; exact Nat.lt_irrefl 0)
      rw [State.substitute, show (s.advance dt).rsv.running = [] from hrun, hfree]
      rfl
    obtain ⟨u, hu⟩ : ∃ u, u = (s.advance dt).unavailable 7 0 := ⟨_, rfl⟩
    rw [← hu] at hfault hhead hun
    exact completes_eq (u := u) rfl hcore ((if_pos rfl).trans hun) ⟨hfault.rsv, hhead, sameHold_of_hold hfault.hold⟩
  case refine_8 =>
    intro hinvalid
    obtain ⟨h1, h2⟩ := (s.advance dt).wn_spec Reg.RSV_RESULT (n := 4) (by decide)
    exact completes_eq rfl hcore (if_pos hinvalid) ⟨h1, rfl, h2, fun _ => rfl⟩
  case refine_9 =>
    intro hk1 hk5 hpolicy hin hrun hkind
    have hvalid : ¬ (k = 0 ∨ 5 < k ∨ (s.advance dt).policy k = 0 ∨ (s.advance dt).inService k i = false) := by
      rintro (h | h | h | h)
      · omega
      · omega
      · exact hpolicy h
      · exact absurd (hin.symm.trans h) (by decide)
    have hany : ((s.advance dt).rsv.running.any (·.kind == k)) = true := by
      rw [show (s.advance dt).rsv.running = [y] from hrun]
      simp [hkind]
    obtain ⟨h1, h2⟩ := (s.advance dt).wn_spec Reg.RSV_RESULT (n := 3) (by decide)
    exact completes_eq rfl hcore ((if_neg hvalid).trans (if_pos hany)) ⟨h1, rfl, h2, fun _ => rfl⟩
  case refine_10 =>
    intro hpolicy hin hrun hspare hfresh
    have hvalid : ¬ (2 = 0 ∨ 5 < 2 ∨ (s.advance dt).policy 2 = 0 ∨ (s.advance dt).inService 2 i = false) := by
      rintro (h | h | h | h)
      · omega
      · omega
      · exact hpolicy h
      · exact absurd (hin.symm.trans h) (by decide)
    have hnone : ¬ ((s.advance dt).rsv.running.any (·.kind == 2)) = true := by
      rw [show (s.advance dt).rsv.running = [] from hrun]
      decide
    have hfree : (s.advance dt).reserveFree 2 i = true := by
      rw [State.reserveFree, show (s.advance dt).rsv.spareCores = [c] from hspare]
      rfl
    obtain ⟨h1, h2, -⟩ := (s.advance dt).substitute_spec (k := 2) (i := i) hrun hfree (by decide) (hlog 11 (by simp))
    have hhead := State.substitute_head (s := s.advance dt) (k := 2) (j := i) hrun hfree (by decide) (hlog 11 (by simp)) (State.logFresh_of_freshStamp hfresh)
    obtain ⟨u, hu⟩ : ∃ u, u = (s.advance dt).substitute 2 i := ⟨_, rfl⟩
    rw [← hu] at h1 h2 hhead
    refine completes_eq (u := u.wn Reg.RSV_RESULT 1) rfl hcore ?_ ⟨(u.wn_spec Reg.RSV_RESULT (n := 1) (by decide)).1, congrArg ReserveState.running h1, hhead, sameHold_of_hold h2⟩
    rw [hu]
    exact (if_neg hvalid).trans ((if_neg hnone).trans (if_pos hfree))
  case refine_11 =>
    intro hpolicy hin hrun hspare hnew hfresh
    have hvalid : ¬ (2 = 0 ∨ 5 < 2 ∨ (s.advance dt).policy 2 = 0 ∨ (s.advance dt).inService 2 i = false) := by
      rintro (h | h | h | h)
      · omega
      · omega
      · exact hpolicy h
      · exact absurd (hin.symm.trans h) (by decide)
    have hnone : ¬ ((s.advance dt).rsv.running.any (·.kind == 2)) = true := by
      rw [show (s.advance dt).rsv.running = [] from hrun]
      decide
    have hfree : ¬ (s.advance dt).reserveFree 2 i = true := by
      rw [State.reserveFree, show (s.advance dt).rsv.spareCores = [] from hspare]
      decide
    obtain ⟨hfault, hhead⟩ := State.unavailable_spec (s := s.advance dt) (k := 2) (j := i) (by decide) hnew (hlog 10 (by simp)) (State.logFresh_of_freshStamp hfresh)
    obtain ⟨u, hu⟩ : ∃ u, u = (s.advance dt).unavailable 2 i := ⟨_, rfl⟩
    rw [← hu] at hfault hhead
    refine completes_eq (u := u.wn Reg.RSV_RESULT 2) rfl hcore ?_ ⟨(u.wn_spec Reg.RSV_RESULT (n := 2) (by decide)).1, hfault.rsv, hhead, sameHold_of_hold hfault.hold⟩
    rw [hu]
    exact (if_neg hvalid).trans ((if_neg hnone).trans (if_neg hfree))
  case refine_12 =>
    intro hfields
    have hlt : bits w.toNat 9 0 < 2 ^ 32 := Nat.lt_of_lt_of_le (bits_lt _ _ _) (by decide)
    obtain ⟨h1, h2⟩ := (s.advance dt).wn_spec Reg.RSV_POLICY hlt
    exact completes_eq rfl hcore (if_pos hfields) ⟨h1, h2, fun _ => rfl⟩
  case refine_13 =>
    intro hbig
    have h1 := (s.advance dt).pair_accErr req Reg.RSV_THR_ECC true false
    have h2 := (s.advance dt).regsBut_accErr req Reg.RSV_THR_ECC true false
    have h3 := (s.advance dt).sameHold_accErr req Reg.RSV_THR_ECC true false
    obtain ⟨u, hu⟩ : ∃ u, u = (s.advance dt).accErr req Reg.RSV_THR_ECC true false := ⟨_, rfl⟩
    rw [← hu] at h1 h2 h3
    exact completes_eq (u := u) rfl hcore ((if_neg (by omega)).trans hu.symm) ⟨h1, h2, h3⟩
  case refine_14 =>
    intro hrun hwait hspare hedge
    obtain ⟨h1, h2, h3, h4, h5⟩ := State.substComplete_bank (s := s.advance dt) hrun hwait hspare
    obtain ⟨u, hu⟩ : ∃ u, u = (s.advance dt).substComplete 1 := ⟨_, rfl⟩
    rw [← hu] at h1 h2 h3 h4 h5
    refine completes_eq (u := u) rfl hcore ((if_neg fun h => absurd (hedge.symm.trans h.2) (by decide)).trans hu.symm)
      ⟨congrArg ReserveState.running h1, congrArg ReserveState.bankMap h1, congrArg ReserveState.spareBank h1, h2, h3, fun a ha => h4 a fun hr => ha ?_, sameHold_of_hold h5⟩
    rcases hr with h | h | ⟨c, hc, h⟩
    · simp [h]
    · simp [h]
    · exact List.mem_append_right _ (List.mem_map.2 ⟨c, List.mem_range.2 hc, h.symm⟩)
  case refine_15 =>
    intro hedge
    exact completes_eq rfl hcore (if_pos ⟨rfl, hedge⟩) ⟨rfl, fun _ => rfl, fun _ => rfl⟩
  case refine_16 =>
    intro hrun hwait hspare
    obtain ⟨h1, h2⟩ := State.substComplete_core (s := s.advance dt) hrun hwait hspare (hlog 11 (by simp))
    obtain ⟨u, hu⟩ : ∃ u, u = (s.advance dt).substComplete 2 := ⟨_, rfl⟩
    rw [← hu] at h1 h2
    exact completes_eq (u := u) rfl hcore ((if_neg fun h => absurd h.1 (by decide)).trans hu.symm) ⟨congrArg ReserveState.cores h1, congrArg ReserveState.spareCores h1,
      congrArg ReserveState.retired h1, congrArg ReserveState.running h1, congrArg ReserveState.waiting h1, sameHold_of_hold h2⟩
  case refine_17 =>
    intro hrun hwait hspare
    obtain ⟨h1, h2, h3, h4⟩ := State.substComplete_otp (s := s.advance dt) hrun hwait
    obtain ⟨u, hu⟩ : ∃ u, u = (s.advance dt).substComplete 6 := ⟨_, rfl⟩
    rw [← hu] at h1 h2 h3 h4
    refine completes_eq (u := u) rfl hcore ((if_neg fun h => absurd h.1 (by decide)).trans hu.symm) ⟨h1, h2, fun a ha => h3 a (fun h => ha (by simp [h])) fun hr => ha ?_, sameHold_of_hold h4⟩
    rcases hr with h | h | ⟨c, hc, h⟩
    · simp [h]
    · simp [h]
    · exact List.mem_append_right _ (List.mem_map.2 ⟨c, List.mem_range.2 hc, h.symm⟩)
  case refine_18 =>
    exact completes_eq rfl hcore (if_pos (.inl rfl)) ⟨rfl, rfl, fun _ => rfl, fun _ => rfl⟩
  case refine_19 =>
    intro hin hpolicy hrun hspare herrs hfresh
    have hten := core.isLt
    obtain ⟨v, hv⟩ : ∃ v, v = (s.advance dt).setFld (Reg.RSV_CORE_STAT core) 15 8 (min 255 ((s.advance dt).fld (Reg.RSV_CORE_STAT core) 15 8 + 1)) := ⟨_, rfl⟩
    have hlow : 0x130300 ≤ Reg.RSV_CORE_STAT core ∧ Reg.RSV_CORE_STAT core < 0x130400 := by simp only [Reg.RSV_CORE_STAT]; omega
    obtain ⟨hlo, hhi⟩ := hlow
    have hfreg : faultReg (Reg.RSV_CORE_STAT core) = false := by
      rw [faultReg]
      simp
      omega
    have hrd {a : Nat} (ha : a < 0x130300) : v.rd a = s.rd a := by rw [hv]; exact State.rd_wr_ne _ _ (by omega)
    have hvlog (e : Nat) (he : e ∈ [5, 6, 7, 10, 11, 198]) : v.logOnly e = true :=
      (State.logOnly_congr (hrd (Nat.lt_trans (hcfg e he) (by decide)))).trans (hlogs e he)
    have hvpol : v.policy 2 = 2 := (State.policy_congr (hrd (by decide)) 2).trans hpolicy
    have halike : LogAlike (s.advance dt) v := by rw [hv]; exact ⟨rfl, rfl, rfl⟩
    have hvrsv : v.rsv = s.rsv ∧ v.clk = s.clk + dt ∧ v.hold = s.hold := by rw [hv]; exact ⟨rfl, rfl, rfl⟩
    have hcount : v.fld (Reg.RSV_CORE_STAT core) 15 8 = s.fld (Reg.RSV_CORE_STAT core) 15 8 + 1 := by
      have hmin : min 255 ((s.advance dt).fld (Reg.RSV_CORE_STAT core) 15 8 + 1) = s.fld (Reg.RSV_CORE_STAT core) 15 8 + 1 := Nat.min_eq_right herrs
      rw [hv, hmin]
      exact State.fld_setFld_fits _ (by decide) (by decide) (by omega)
    have hrraise : (v.raise 7 core).rsv = s.rsv := (raise_faultSide v 7 core 0 (hvlog 7 (by simp))).rsv.trans hvrsv.1
    have hfree : (v.raise 7 core).reserveFree 2 core = true := by
      rw [State.reserveFree, hrraise, hspare]
      rfl
    obtain ⟨h1, h2, h3, -, h5⟩ := (independent_device (.inl (by decide)) rfl (hvlog 7 (by simp))).worn_two (k := 2) (j := core) (i := core) (info := 0)
      (halike.fresh (State.logFresh_of_freshStamp hfresh)) hvpol (by rw [hvrsv.1, hrun]) hfree (by decide) (hvlog 11 (by simp))
    have herr : ((v.raise 7 core).worn 2 core).fld (Reg.RSV_CORE_STAT core) 15 8 = v.fld (Reg.RSV_CORE_STAT core) 15 8 := by
      obtain ⟨-, hlogs', hregs', -⟩ := (v.raise 7 core).substituting_alike 2 core
      have h11 := (hlogs' 11).trans ((raise_faultSide v 7 core 0 (hvlog 7 (by simp))).logOnly 11 (by decide) |>.trans (hvlog 11 (by simp)))
      rw [h5, State.rsvSettle_errs, (raise_faultSide _ 11 2 core h11).fld 15 8 hfreg, State.fld, State.rn, State.rd, hregs']
      exact (raise_faultSide v 7 core 0 (hvlog 7 (by simp))).fld 15 8 hfreg
    obtain ⟨u, hu⟩ : ∃ u, u = (v.raise 7 core).worn 2 core := ⟨_, rfl⟩
    have hdone : (if (v.raise 7 core).rsv.cores.contains core.val then (v.raise 7 core).worn 2 core else v.raise 7 core) = u := by
      rw [hrraise, hin, hu]
      exact if_pos rfl
    rw [← hu] at h1 h2 h3 herr
    refine completes_eq (u := u) rfl hcore ((if_neg ?_).trans (by rw [← hv]; exact hdone)) ⟨herr.trans hcount, ?_, h3, sameHold_of_hold (h2.trans hvrsv.2.2)⟩
    · rintro (h | h)
      · exact absurd h (by decide)
      · omega
    · rw [acted_rsv, h1, hvrsv.2.1]
  case refine_20 =>
    intro hsev hevent honly hpower hnew hshadow hfresh
    obtain ⟨h1, h2, h3, -, h5⟩ := State.logTrip_reported (s := s.advance dt) (t := { det := k, inst := i, info := n }) (State.trips_of_run hsev hpower) hshadow hnew
      (by rw [hevent]; rfl) (State.detReaction_of_logOnly honly) (fun h => absurd h Bool.false_ne_true) (State.logFresh_of_freshStamp hfresh)
    obtain ⟨u, hu⟩ : ∃ u, u = (s.advance dt).logTrip { det := k, inst := i, info := n } := ⟨_, rfl⟩
    rw [← hu] at h1 h2 h3 h5
    refine completes_eq (u := u) (exec_trip ..) hcore ((State.logTrips_one _ _).trans hu.symm) ⟨h1, ?_, h3, sameHold_of_hold h5⟩
    exact congrArg (· != FltState.good) h2
  case refine_21 =>
    intro hsev h9 honly hpower hnew hclocks hshadow hfresh
    obtain ⟨h1, h2, -, h4, h5⟩ := State.logTrip_reported (s := s.advance dt) (t := { det := k, inst := i, rail := true }) (State.trips_of_run hsev hpower) hshadow hnew
      (Bool.and_false _) (State.detReaction_of_logOnly honly) (fun _ => h9) (State.logFresh_of_freshStamp hfresh)
    obtain ⟨u, hu⟩ : ∃ u, u = (s.advance dt).logTrip { det := k, inst := i, rail := true } := ⟨_, rfl⟩
    rw [← hu] at h1 h2 h4 h5
    have hhead := congrArg (Option.map fun z : Nat × Nat × Nat × Nat => (z.1, z.2.1, z.2.2.1)) h1
    rw [Option.map_map] at hhead
    exact completes_eq (u := u) rfl hcore ((if_pos hclocks).trans hu.symm) ⟨hhead, h2, h4 rfl, sameHold_of_hold h5⟩
  case refine_22 =>
    exact completes_eq rfl hcore rfl ⟨rfl, rfl, fun _ => rfl, fun _ => rfl⟩
  case refine_23 =>
    intro hresets hdue htrial hlamp
    have hready : ((s.advance dt).flt.resets.any fun e => e.1 == blk && decide (e.2 ≤ (s.advance dt).clk)) = true := by
      rw [show (s.advance dt).flt.resets = [(blk, c)] from hresets]
      simp [show c ≤ (s.advance dt).clk from hdue]
    have hgone : (s.advance dt).flt.resets.filter (·.1 != blk) = [] := by
      rw [show (s.advance dt).flt.resets = [(blk, c)] from hresets]
      simp
    refine completes_eq rfl hcore ((if_pos hready).trans ((if_neg (by rw [htrial]; exact Bool.false_ne_true)).trans
      ((if_neg (by rw [htrial]; exact Bool.false_ne_true)).trans (if_neg hlamp)))) ⟨hgone, fun _ => rfl, fun _ => rfl⟩
  case refine_24 =>
    intro hx hstate hcond hlat hquiet hrecov hesc
    obtain ⟨h1, h2, h3⟩ := State.recover_plain (s := s.advance dt) hx hstate hcond hlat hquiet hrecov hesc
    have h4 : ((s.advance dt).recover k i).hold = s.hold := by simp
    obtain ⟨u, hu⟩ : ∃ u, u = (s.advance dt).recover k i := ⟨_, rfl⟩
    rw [← hu] at h1 h2 h3 h4
    exact completes_eq (u := u) rfl hcore hu.symm ⟨h1, h2, h3, sameHold_of_hold h4⟩
  case refine_25 =>
    have hflt := (s.advance dt).clearFirst_flt
    have hhold : (s.advance dt).clearFirst.hold = s.hold := by simp
    obtain ⟨u, hu⟩ : ∃ u, u = (s.advance dt).clearFirst := ⟨_, rfl⟩
    rw [← hu] at hflt hhold
    exact completes_eq (u := u) rfl hcore hu.symm ⟨hflt, sameHold_of_hold hhold⟩
  case refine_26 =>
    intro hk hi hstate hlat
    obtain ⟨h1, -, h2, h3⟩ := State.clearEsc_spec (s := s.advance dt) (d := k) (i := i) hstate hlat
    obtain ⟨u, hu⟩ : ∃ u, u = (s.advance dt).clearEsc k i := ⟨_, rfl⟩
    rw [← hu] at h1 h2 h3
    refine completes_eq (u := u) rfl hcore ?_ ⟨h1, sameRegs_of_regs h2, sameHold_of_hold h3⟩
    rw [State.clearSelected, show (s.advance dt).fld Reg.FLT_DET_SEL 8 0 = k from hk, show (s.advance dt).fld Reg.FLT_DET_SEL 26 16 = i from hi, hu]
  case refine_27 =>
    intro hinsts hstate hlat
    obtain ⟨h1, h2, h3⟩ := State.clearAll_one (s := s.advance dt) hinsts hstate hlat
    obtain ⟨u, hu⟩ : ∃ u, u = (s.advance dt).clearAll := ⟨_, rfl⟩
    rw [← hu] at h1 h2 h3
    exact completes_eq (u := u) rfl hcore hu.symm ⟨h1, sameRegs_of_regs h2, sameHold_of_hold h3⟩
  case refine_28 =>
    intro hsev hp h1 h2 h3 h4 h5 htest
    have hlt : bits w.toNat 27 0 < 2 ^ 32 := Nat.lt_of_lt_of_le (bits_lt _ _ _) (by decide)
    obtain ⟨k1, k2⟩ := (s.advance dt).wn_spec (Reg.FLT_DET_CFG det) hlt
    exact completes_eq rfl hcore (State.detCfgWrite_takes req hsev hp h1 h2 h3 h4 h5 htest) ⟨k1, k2, fun _ => rfl⟩
  case refine_29 =>
    intro htest hp hdur hnone hd hi honly
    obtain ⟨h1, h2⟩ := State.inject_trip (s := s.advance dt) req htest hp hdur hnone hd hi honly
    obtain ⟨u, hu⟩ : ∃ u, u = (s.advance dt).inject req w.toNat := ⟨_, rfl⟩
    rw [← hu] at h1 h2
    exact completes_eq (u := u) rfl hcore hu.symm ⟨h1, sameHold_of_hold h2⟩
  case refine_30 =>
    intro hinj hdue
    obtain ⟨h1, h2, h3, h4⟩ := State.injectOver_spec (s := s.advance dt) hinj
    obtain ⟨u, hu⟩ : ∃ u, u = (s.advance dt).injectOver := ⟨_, rfl⟩
    rw [← hu] at h1 h2 h3 h4
    refine completes_eq (u := u) (exec_injectEnd ..) hcore ?_ ⟨h1, h2, sameRegs_of_regs h3, sameHold_of_hold h4⟩
    rw [State.injectDue, show (s.advance dt).flt.injection = some j from hinj, hu]
    exact if_pos hdue

end Sys2Proof.Machine
end


section
/-! ### The boot sequence with a log full of trips of its own clock -/

namespace Sys2Proof.Machine

variable {s t u v : State}

/-- The registers that the start of the boot sequence may write when it raises no fault. -/
@[reducible] def startReg (a : Nat) : Prop := a < 0x121000 ∨ (0x122000 ≤ a ∧ a < 0x150000) ∨ (0x170000 ≤ a)

/-- Two states that differ in no more than such registers, what is sent, the trims and the NVM's records. -/
structure BootSide (s t : State) : Prop where
  flt : t.flt = s.flt
  time : t.time = s.time
  asker : t.asker = s.asker
  rd : ∀ a, ¬ startReg a → t.rd a = s.rd a

namespace BootSide

theorem refl (s : State) : BootSide s s := ⟨rfl, rfl, rfl, fun _ _ => rfl⟩

theorem trans (h : BootSide s t) (k : BootSide t u) : BootSide s u :=
  ⟨k.flt.trans h.flt, k.time.trans h.time, k.asker.trans h.asker, fun a ha => (k.rd a ha).trans (h.rd a ha)⟩

theorem of_wire {p : Nat → Prop} (h : WireSide p s t) (hp : ∀ a, p a → startReg a) : BootSide s t := by
  have hasker : t.asker = s.asker := by obtain ⟨_, _, _, rfl, _⟩ := h; rfl
  exact ⟨h.flt, h.time, hasker, fun a ha => h.rd fun hpa => ha (hp a hpa)⟩

theorem wire (h : BootSide s t) {p : Nat → Prop} (k : WireSide p t u) (hp : ∀ a, p a → startReg a) : BootSide s u := h.trans (.of_wire k hp)

theorem rn (h : BootSide s t) {a : Nat} (ha : ¬ startReg a) : t.rn a = s.rn a := congrArg BitVec.toNat (h.rd a ha)

theorem alike (h : BootSide s t) : LogAlike s t := ⟨h.flt, h.time, h.asker⟩

end BootSide

/-- The trims in force from the copies kept. -/
def State.trimsTaken (s : State) : State :=
  { s with watch := { s.watch with
    loaded := (s.fieldCopy.map fun c => c.1.codes).getD []
    trims := ((s.fieldCopy.map fun c => c.1.codes).getD (s.nvm.otp.trims.getD (List.replicate 130 128))).mapIdx fun i c => (i, { code := c }) } }

theorem State.loadTrims_quiet (htrims : s.nvm.otp.trims.isNone = false) (hfield : s.fieldCopy.isNone = false) :
    ∃ n, s.loadTrims = (s.trimsTaken.setFld Reg.PWR_TRIM_STAT 5 3 n).trimSettle := by
  refine ⟨s.nvm.otp.trims.isSome.toNat + 2 * s.fieldCopy.isSome.toNat + 4 * (s.fieldCopy.any fun c => c.2).toNat, ?_⟩
  rw [State.loadTrims]
  dsimp only
  rw [htrims, hfield, if_neg Bool.false_ne_true, if_neg Bool.false_ne_true]
  rfl

/-- Trims that are all written raise no fault. -/
theorem State.loadTrims_side (htrims : s.nvm.otp.trims.isNone = false) (hfield : s.fieldCopy.isNone = false) :
    BootSide s s.loadTrims ∧ s.loadTrims.nvm = s.nvm := by
  obtain ⟨n, hn⟩ := State.loadTrims_quiet htrims hfield
  have hside : BootSide s s.trimsTaken ∧ s.trimsTaken.nvm = s.nvm := ⟨⟨rfl, rfl, rfl, fun _ _ => rfl⟩, rfl⟩
  have hset : WireSide (· = Reg.PWR_TRIM_STAT) s.trimsTaken (s.trimsTaken.setFld Reg.PWR_TRIM_STAT 5 3 n) := (WireSide.refl _ _).setFld _ _ _ rfl
  have hwire := hset.trans (.of_regs (State.trimSettle_regSide _))
  rw [hn]
  exact ⟨hside.1.wire hwire (by rintro a rfl; exact .inr (.inl (by decide))), hwire.nvm.trans hside.2⟩

/-- A device that starts without faults of its own. -/
theorem State.bootStart_side (htrims : s.nvm.otp.trims.isNone = false) (hfield : s.fieldCopy.isNone = false) (hlatch : s.flt.latch = false)
    (hkeep : s.rn Reg.KEEP_STAT = 0) (hword : s.rn (Reg.KEEP_LOG 1) = 0) :
    BootSide s s.bootStart ∧ s.bootStart.nvm = { s.nvm with booted := true, tag := 0, schema := 0, schemaMin := 0, timeWait := 0, name := [] } := by
  rw [State.bootStart]
  dsimp only
  generalize hv : ({ s with nvm := { s.nvm with booted := true, tag := 0, schema := 0, schemaMin := 0, timeWait := 0, name := [] } } : State) = v
  have hside : BootSide s v ∧ v.nvm = { s.nvm with booted := true, tag := 0, schema := 0, schemaMin := 0, timeWait := 0, name := [] } :=
    hv ▸ ⟨⟨rfl, rfl, rfl, fun _ _ => rfl⟩, rfl⟩
  obtain ⟨k1, k2⟩ := State.loadTrims_side (s := v) (by rw [hside.2]; exact htrims) (by rw [← hv]; exact hfield)
  generalize v.loadTrims = w at *
  have hbase : WireSide (· < 0x121000) w w.bootBase := ((WireSide.refl _ w).wn _ (by decide)).wn _ (by decide)
  have hrsv := WireSide.of_regs w.bootBase.rsvSettle_regSide
  have hw := ((hside.1.trans k1).wire hbase fun a ha => .inl ha).wire hrsv fun a ha => .inr (.inl (by
    rw [rsvReg_iff] at ha
    simp only [Reg.RSV_STAT, Reg.RSV_HOLD_MAP, Reg.RSV_CORE_STAT] at ha
    omega))
  have hnvm : w.bootBase.rsvSettle.nvm = _ := (hrsv.nvm.trans hbase.nvm).trans (k2.trans hside.2)
  generalize w.bootBase.rsvSettle = x at *
  have hnone : x.bootFaults = x := by
    have h1 : x.rn Reg.KEEP_STAT = 0 := (hw.rn (by simp [startReg, Reg.KEEP_STAT])).trans hkeep
    have h2 : x.fld (Reg.KEEP_LOG 1) 31 24 = 0 := by rw [State.fld, hw.rn (by simp [startReg, Reg.KEEP_LOG]), hword]; rfl
    have h3 : (bit 0 1 && x.rn Reg.SYS_BOOT_COUNT == 1) = false := rfl
    rw [State.bootFaults, h1, h3, if_neg Bool.false_ne_true]
    exact if_pos h2
  rw [hw.flt, hlatch, if_neg Bool.false_ne_true, hnone]
  exact ⟨hw, hnvm⟩

theorem State.openNvm_side (s : State) : BootSide s s.openNvm ∧ s.openNvm.nvm = s.nvm := by
  have hsent : WireSide (fun _ => False) s (((s.emit (.pin "FRST_N" 0 false)).emit (.pin "FRST_N" 0 true)).send "NVM_PARAMETERS" 0 [1, 25]) :=
    (((WireSide.refl _ s).emit _).emit _).emit _
  rw [State.openNvm]
  generalize ((s.emit (.pin "FRST_N" 0 false)).emit (.pin "FRST_N" 0 true)).send "NVM_PARAMETERS" 0 [1, 25] = v at hsent
  have hall (kind : String) (port : Nat) (fields : List Nat) : BootSide s (v.send kind port fields) ∧ (v.send kind port fields).nvm = s.nvm :=
    ⟨.of_wire (hsent.emit _) fun _ h => h.elim, (hsent.emit _).nvm⟩
  split
  · exact hall ..
  · exact hall ..
  · exact hall ..
  · exact ⟨.of_wire hsent fun _ h => h.elim, hsent.nvm⟩

/-! #### A full log -/

/-- A trip of detector 511, the last and of the least severity, at ledger time 0. -/
def lastTrip : LogEntry := { seq := 0, stamp := 0, frac := 0, det := 511, inst := 0, kind := 1, sev := 0 }

/-- An entry goes before every such trip of its clock, and out of a full log. -/
theorem logInsert_lastTrips (n : Nat) : ∀ e : LogEntry, e.trip = true → e.stamp = 0 → e.frac = 0 → e.det < 511 →
    ((logInsert e (List.replicate n lastTrip)).take n).map LogEntry.det = List.replicate n 511 := by
  induction n with
  | zero => intros; rfl
  | succ n ih =>
    intro e htrip hstamp hfrac hdet
    have hmeets : lastTrip.meets e = true := by
      rw [LogEntry.meets, htrip, hstamp, hfrac]
      rfl
    have hbefore : e.before lastTrip = true := by
      rcases Nat.eq_zero_or_pos e.sev with hsev | hsev
      · simp [LogEntry.before, lastTrip, hdet, hsev]
      · simp [LogEntry.before, lastTrip, hsev]
    rw [List.replicate_succ, logInsert, if_pos hmeets, if_pos hbefore, List.take_succ_cons, List.map_cons,
      ih { e with seq := lastTrip.seq, coincident := true } htrip hstamp hfrac hdet, List.replicate_succ]
    rfl

/-- The header-lost fault finds no room in such a log. -/
theorem State.raise_crowded {d : Nat} (h : Independent s d) (hevent : detEvent d = true) (hshadow : s.shadowOf d 0 = none) (hd : d < 511)
    (hlog : s.flt.log = List.replicate 1024 lastTrip) (htime : toLedger s.stampNs = 0 ∧ s.stampFrac = 0) (info : Nat) :
    (s.raise d 0 info).flt.log.map LogEntry.det = List.replicate 1024 511 := by
  obtain ⟨tr, htr, hdet, hinst, hrail⟩ : ∃ tr : Trip, tr = { det := d, inst := 0, info := info } ∧ tr.det = d ∧ tr.inst = 0 ∧ tr.rail = false := ⟨_, rfl, rfl, rfl, rfl⟩
  have hnew : (detEvent tr.det && !tr.rail) = true := by rw [hdet, hrail, hevent]; rfl
  have hside := s.lampFlag_regSide tr.det tr.inst
  have halike := LogAlike.of_regSide hside
  have hstamps : toLedger (s.lampFlag tr.det tr.inst).stampNs = 0 ∧ (s.lampFlag tr.det tr.inst).stampFrac = 0 := by
    rw [State.stampNs, State.stampFrac, State.stamp16, halike.arrived]
    exact htime
  have hkeys := State.tripRaise_keys (s.lampFlag tr.det tr.inst) tr ((s.lampFlag tr.det tr.inst).tripEntry tr) (s.fltInst tr.det tr.inst) (detEvent tr.det && !tr.rail)
  rw [State.raise_entered h.logged, ← htr, State.enterTrip_new (by rw [hdet]; exact h.trips) (by rw [hdet, hinst]; exact hshadow) (.inl hnew)]
  rw [halike.flt, hlog] at hkeys
  have hdets := congrArg (List.map Prod.fst) hkeys
  rw [State.keys, List.map_map, List.map_map] at hdets
  refine hdets.trans (logInsert_lastTrips 1024 _ ?_ hstamps.1 hstamps.2 ?_)
  · have hkind : ((s.lampFlag tr.det tr.inst).raisedEntry tr ((s.lampFlag tr.det tr.inst).tripEntry tr) (detEvent tr.det && !tr.rail)).kind = 7 := by
      rw [State.raisedEntry, hnew, hrail]
      rfl
    rw [LogEntry.trip, State.logged, hkind]
    rfl
  · have he : ((s.lampFlag tr.det tr.inst).logged ((s.lampFlag tr.det tr.inst).raisedEntry tr ((s.lampFlag tr.det tr.inst).tripEntry tr) (detEvent tr.det && !tr.rail))).det
        = d := hdet
    rw [he]
    exact hd

/-! #### The obligation -/

/-- A device out of reset with both copies of its boot header lost, and with such a log. -/
def crowdedState : State :=
  { ({} : State) with
    watch := { core := true }
    flt := { log := List.replicate 1024 lastTrip }
    nvm := { trimA := some { seq := 0, dev := List.replicate 16 0#8, codes := [] } } }

/-- The log that the header-lost fault of that device leaves. -/
theorem crowdedState_header : (((crowdedState.advance 0).bootStart.openNvm).readHeader.flt.log.map LogEntry.det = List.replicate 1024 511)
    ∧ ((crowdedState.advance 0).bootStart.openNvm).readHeader.hdr = { slots := 0x303 }
    ∧ ((crowdedState.advance 0).bootStart.openNvm).readHeader.nvm.logArea = [] ∧ ((crowdedState.advance 0).bootStart.openNvm).readHeader.nvm.slots = [] := by
  obtain ⟨hside, hnvm⟩ := State.bootStart_side (s := crowdedState.advance 0) rfl rfl rfl (by decide) (by decide)
  obtain ⟨hopen, hopenNvm⟩ := (crowdedState.advance 0).bootStart.openNvm_side
  have hv := hside.trans hopen
  have hvn := hopenNvm.trans hnvm
  generalize (crowdedState.advance 0).bootStart.openNvm = v at *
  obtain ⟨y, hy, hvy, hyn⟩ : ∃ y : State, y = { v with nvm := { v.nvm with hdr0 := some { slots := 0x303 }, hdr1 := some { slots := 0x303 } } } ∧ BootSide v y
      ∧ y.nvm = { v.nvm with hdr0 := some { slots := 0x303 }, hdr1 := some { slots := 0x303 } } := ⟨_, rfl, ⟨rfl, rfl, rfl, fun _ _ => rfl⟩, rfl⟩
  obtain ⟨w, hw⟩ : ∃ w : State, w = y.programHdr { slots := 0x303 } := ⟨_, rfl⟩
  have hwire : WireSide (fun _ => False) y w := hw ▸ ((WireSide.refl _ _).emit _).emit _
  have hside' : BootSide (crowdedState.advance 0) w := (hv.trans hvy).wire hwire fun _ h => False.elim h
  have hread : v.readHeader = w.raise 321 0 := by
    have h0 : v.nvm.hdr0 = none := by rw [hvn]; rfl
    have h1 : v.nvm.hdr1 = none := by rw [hvn]; rfl
    rw [State.readHeader, h0, h1, hw, hy]
  have h321 : w.logOnly 321 = true :=
    (State.logOnly_congr (hside'.rd _ (by simp only [startReg, Reg.FLT_DET_CFG]; omega))).trans (by decide)
  have hnvmw : w.nvm = { v.nvm with hdr0 := some { slots := 0x303 }, hdr1 := some { slots := 0x303 } } := hwire.nvm.trans hyn
  have hstamp : toLedger w.stampNs = 0 ∧ w.stampFrac = 0 := by
    rw [State.stampNs, State.stampFrac, State.stamp16, hside'.alike.arrived]
    decide
  have hdets := State.raise_crowded (independent_device (.inr (by decide)) rfl h321) (by decide) (w.shadowOf_never 0 (.inr (by decide))) (by decide)
    (by rw [hside'.flt]; rfl) hstamp 0
  have hrn : (w.raise 321 0).nvm = w.nvm := by
    rw [State.raise_entered h321]
    simp
  rw [hread]
  generalize w.raise 321 0 = x at *
  refine ⟨hdets, ?_, ?_, ?_⟩
  · rw [State.hdr, NvmState.hdr?, hrn, hnvmw]
    rfl
  · rw [hrn, hnvmw, hvn]
    rfl
  · rw [hrn, hnvmw, hvn]
    rfl

theorem State.imgCheck_nil (s : State) : s.imgCheck 0 [] = 1 := by
  rw [State.imgCheck]
  exact if_pos (.inl (by decide))

/-- A new header without a trial changes no more of the log. -/
theorem State.bootHeader_flt (hhdr : s.readHeader.hdr = { slots := 0x303 }) (harea : s.readHeader.nvm.logArea = []) :
    s.bootHeader.flt = s.readHeader.flt ∧ s.bootHeader.nvm = s.readHeader.nvm := by
  rw [State.bootHeader]
  generalize s.readHeader = v at *
  have hdrop : v.dropWriting = v := by
    rw [State.dropWriting, hhdr]
    exact if_pos (by decide)
  rw [hdrop]
  have hset : WireSide (fun _ => True) v v.hdrSettle := (WireSide.refl _ v).wn _ trivial
  have hset' : (v.hdrSettle).nvm.logArea = [] := by rw [hset.nvm, harea]
  rw [hset']
  dsimp only
  have hwn := hset.wn (a := Reg.RSV_NVM_SPARE) (min (v.hdrSettle.nvm.blocks - 0x3800) 1000 - v.hdrSettle.hdr.remap.length) trivial
  generalize v.hdrSettle.wn Reg.RSV_NVM_SPARE (min (v.hdrSettle.nvm.blocks - 0x3800) 1000 - v.hdrSettle.hdr.remap.length) = w at *
  have hnone : w.trialAccount = w := by
    have hw : w.hdr = { slots := 0x303 } := by
      rw [State.hdr, hwn.nvm]
      exact hhdr
    rw [State.trialAccount, hw]
    rfl
  rw [hnone]
  exact ⟨hwn.flt, hwn.nvm⟩

theorem State.enterService_flt (s : State) : s.enterService.trialSettle.flt = s.flt := by
  have hset : WireSide (fun _ => True) s ((s.setFld Reg.SVC_STAT 6 6 1).emit (.pin "SAFE" 512 true)) := ((WireSide.refl _ s).setFld _ _ _ trivial).emit _
  have hmacs : WireSide (fun _ => True) s s.enterService := by
    rw [State.enterService, State.bootMacs]
    refine hset.foldl _ fun u m _ => ?_
    have hcfg := ((WireSide.refl (fun _ => True) u).setFld (a := Reg.MAC_CFG m) 4 0 ((if m = 4 then none else u.macLane m).getD 31) trivial)
    exact .ite (((hcfg.setFld _ _ _ trivial).wn _ trivial).wn _ trivial) (hcfg.setFld _ _ _ trivial)
  exact ((hmacs.setFld _ _ _ trivial).setFld _ _ _ trivial).flt

theorem State.boot_nvm (hbooted : s.nvm.booted = false) (hsel : s.watch.bootsel ≠ 3) : s.boot = s.bootStart.openNvm.bootNvm := by
  rw [State.boot, hbooted, if_neg Bool.false_ne_true, if_neg hsel]

theorem State.chooseFirmware_none (h : ∀ k, s.imgCheck 0 (s.slotImg k) = 1) : s.chooseFirmware = none := by
  have hbad (k : Nat) : ¬ (s.imgCheck 0 (s.slotImg k) == 0) = true := by
    rw [h]
    decide
  rw [State.chooseFirmware]
  exact (if_neg (hbad _)).trans (if_neg (hbad _))

theorem State.bootNvm_none (h : s.bootHeader.chooseFirmware = none) : s.bootNvm = s.bootHeader.enterService.trialSettle := by
  unfold State.bootNvm
  split
  · rfl
  · next u hu => cases h.symm.trans hu

/-- Without a firmware the device goes to service mode, and its log stays. -/
theorem State.bootNvm_log (hhdr : s.readHeader.hdr = { slots := 0x303 }) (harea : s.readHeader.nvm.logArea = []) (hslots : s.readHeader.nvm.slots = []) :
    s.bootNvm.flt.log = s.readHeader.flt.log := by
  obtain ⟨hflt, hnvm⟩ := State.bootHeader_flt hhdr harea
  have himg (k : Nat) : s.bootHeader.slotImg k = [] := by
    rw [State.slotImg, hnvm, hslots]
    rfl
  rw [State.bootNvm_none (State.chooseFirmware_none fun k => by rw [himg, State.imgCheck_nil]), State.enterService_flt, hflt]

theorem State.boot_log (hbooted : s.nvm.booted = false) (hsel : s.watch.bootsel ≠ 3) (hhdr : s.bootStart.openNvm.readHeader.hdr = { slots := 0x303 })
    (harea : s.bootStart.openNvm.readHeader.nvm.logArea = []) (hslots : s.bootStart.openNvm.readHeader.nvm.slots = []) :
    s.boot.flt.log = s.bootStart.openNvm.readHeader.flt.log := by
  rw [State.boot_nvm hbooted hsel, State.bootNvm_log hhdr harea hslots]

/-- The whole boot sequence leaves that log. -/
theorem crowdedState_boot : (crowdedState.advance 0).boot.flt.log.map LogEntry.det = List.replicate 1024 511 := by
  obtain ⟨hdets, hhdr, harea, hslots⟩ := crowdedState_header
  rw [State.boot_log rfl (by decide) hhdr harea hslots]
  exact hdets

theorem bootSequence_log {dt : Nat} (hcore : s.watch.core = true) (ht : exec (.bootSequence dt) s = .next t) : t.flt.log = (s.advance dt).boot.flt.log := by
  have hexec : exec (.bootSequence dt) s = act dt s State.boot := rfl
  rw [Host.Outcome.next.inj (ht.symm.trans (hexec.trans (act_core _ _ _ hcore)))]
  rfl

theorem no_det_of_dets {l : List LogEntry} {n d e : Nat} (h : l.map LogEntry.det = List.replicate n d) (hne : d ≠ e) : (l.any fun z => z.det == e) = false := by
  rw [show (fun z : LogEntry => z.det == e) = (· == e) ∘ LogEntry.det from rfl, ← List.any_map, h, List.any_eq_false]
  intro z hz
  rw [(List.mem_replicate.1 hz).2]
  simpa using hne

/-- Refutes O59, in its clause of a lost header: the clause takes a log of any kind, and in one of 1,024 trips of the present clock that the
header-lost fault precedes (`lastTrip`) its entry takes the last place of 1,025, which the log does not keep. -/
theorem not_bootAndTrials : ¬ Obligations.BootAndTrials := by
  unfold Obligations.BootAndTrials
  intro h
  obtain ⟨-, -, hlost, -⟩ := h 0 0 0 {} ⟨0, 0, 0, []⟩ .pier {} {} crowdedState rfl (by decide)
  obtain ⟨t, ht, -, -, -, -, hlog, -⟩ := hlost rfl (by decide) rfl rfl (by decide) (by decide)
  rw [bootSequence_log rfl ht, no_det_of_dets crowdedState_boot (by decide)] at hlog
  exact Bool.false_ne_true hlog

end Sys2Proof.Machine
end


section
/-! ### A locked sequence that reads a word its requester has latched -/

namespace Sys2Proof.Machine

variable {s t : State}

/-- A device out of reset with its Pier on, which has a word latched for it at the first address of Hold. -/
def latchedState : State :=
  ({ ({} : State) with watch := { core := true }, pairLatch := [((.pier, holdBase), 1#32)] } : State).wn Reg.PIER_CFG 1

/-- The sequence of one local read of that address. -/
def latchedRead : List SeqOp := [⟨3, holdBase, 0#32, 0#32⟩]

theorem lockedSeq_outQ {dt q k : Nat} {ops : List SeqOp} (hcore : s.watch.core = true) (ht : exec (.lockedSeq dt (.pier q) ops) s = .next t) :
    t.outQ k = (((s.advance dt).request (.pier q) 0x12 (seqBody ops) fun s => s.seqSubmit (.pier q) ops).outQ k) := by
  have hexec : exec (.lockedSeq dt (.pier q) ops) s = act dt s fun s => s.request (.pier q) 0x12 (seqBody ops) fun s => s.seqSubmit (.pier q) ops := rfl
  rw [Host.Outcome.next.inj (ht.symm.trans (hexec.trans (act_core _ _ _ hcore)))]
  rfl

/-- The answer holds the latched word, where the address itself holds 0. -/
theorem latchedState_answer :
    ((((latchedState.advance 0).request (.pier 0) 0x12 (seqBody latchedRead) fun s => s.seqSubmit (.pier 0) latchedRead).outQ 7).words.map OutWord.data
      ≠ (outPacket 3 0 (qmpBytes 1 0x12 0 0 latchedState.nodeId 0 0 (beBytes 1 1 ++ beBytes 4 (latchedState.holdNat holdBase 4)))).map OutWord.data) := by
  decide +kernel

/-- Refutes O52, in its clause of a local read: no premise keeps the requester from having a word latched at the address, which a read of the port
answers in place of the word that stands there. R9 latches the high words of pairs alone, so that no run of the device is meant to reach such a
state; the clause ranges over all states, and `takeKey s.pairLatch .pier addr = none` is the premise it lacks. -/
theorem not_portsAndLocks : ¬ Obligations.PortsAndLocks := by
  unfold Obligations.PortsAndLocks
  intro h
  obtain ⟨hread, -⟩ := h 0 holdBase 0 0 0 0 0 0#32 0 false ⟨3, 0, 0#32, 0#32⟩ { door := .pier 0, ops := [], far := 0 }
    { door := .pier 0, type := 0, op := 0, node := 0, dest := 0, space := 0, offset := 0, count := 0 } ⟨0, 0, 0, 0⟩
    { epoch := 0, op := .read, posted := false, locked := false, tag := 0, requester := 0, target := 0, space := 0, offset := 0, count := 0, data := [] }
    { tag := 0, posted := false, status := 0, holder := 0, requester := 0, space := 0, offset := 0, count := 0, data := [] }
    { info := ⟨⟨0, 0, 0, 0, 0, 0, 0, 0, []⟩, [], 0⟩ } latchedState rfl (by decide)
  obtain ⟨t, ht, hwords, -⟩ := hread rfl rfl rfl rfl rfl rfl (by decide) rfl (by decide) (by decide)
  rw [lockedSeq_outQ rfl ht] at hwords
  exact latchedState_answer (congrArg (List.map OutWord.data) hwords)

end Sys2Proof.Machine
end


section
/-! ### A refusal that is answered on a group whose counters are those of the berths -/

namespace Sys2Proof.Machine

variable {s t : State}

/-- A device out of reset whose one route names a group so large that SLK_GRP_SHED of it is BERTH_REFUSED, and SLK_GRP_STAT of it BERTH_STALE, which
there reads as a group that sheds all but class 7. -/
def strayRouteState : State :=
  let s : State := {}
  ({ s with watch := { core := true }, twin := { s.twin with routes := [⟨1, 10237, 0, 0⟩] } }).wn Reg.BERTH_STALE 0x70000

theorem strayRoute_registers : Reg.SLK_GRP_SHED 10237 = Reg.BERTH_REFUSED ∧ Reg.SLK_GRP_STAT 10237 = Reg.BERTH_STALE := ⟨rfl, rfl⟩

theorem berthCreate_pair {dt kind res a : Nat} {d : Door} (hcore : s.watch.core = true) (ht : exec (.berthCreate dt d kind res []) s = .next t) :
    t.pair a = ((s.advance dt).request d 0x20 (createBody kind res []) fun s => s.opCreate d kind res []).pair a := by
  have hexec : exec (.berthCreate dt d kind res []) s
    = act dt s fun s => s.request d 0x20 (createBody kind res []) fun s => s.opCreate d kind res [] := rfl
  rw [Host.Outcome.next.inj (ht.symm.trans (hexec.trans (act_core _ _ _ hcore)))]
  exact State.pair_congr (rd_acted ..) (rd_acted ..)

/-- The refusal counts once, and its answer, shed, once more. -/
theorem strayRoute_counts :
    ((strayRouteState.advance 0).request (.relay 1 0) 0x20 (createBody 0 0 []) fun s => s.opCreate (.relay 1 0) 0 0 []).pair Reg.BERTH_REFUSED = 2
      ∧ strayRouteState.pair Reg.BERTH_REFUSED = 0 := by
  decide +kernel

/-- Refutes O49, in its clause of a create refused: no premise bounds the group of the route on which a relayed request is answered, and that of
`strayRouteState` counts the answer it sheds in BERTH_REFUSED. The groups of the device are 0 to 2, so that no run reaches such a route; the clause
ranges over all states. -/
theorem not_berthsAndCues : ¬ Obligations.BerthsAndCues := by
  unfold Obligations.BerthsAndCues
  intro h
  obtain ⟨-, hrefused, -⟩ := h 0 0 0 0 0 0 0 0 0 0 0 (.relay 1 0) [] [] { words := [], gen := 0 } .pier (strayRouteState.advance 0) strayRouteState rfl (by decide)
  obtain ⟨t, ht, -, hpair, -⟩ := hrefused (by decide) (.inl rfl)
  obtain ⟨hafter, hbefore⟩ := strayRoute_counts
  rw [berthCreate_pair rfl ht, hafter, hbefore] at hpair
  exact absurd hpair (by decide)

end Sys2Proof.Machine
end


section
/-! ### Waybills evaluated -/

namespace Sys2Proof.Machine

variable {s t u : State}

/-- What the evaluation of waybills may change: records of the fixtures other than probe values, the lamps' record of the Lead's temperatures and
what of the twin waits. -/
structure WayKept (s t : State) : Prop where
  regs : t.regs = s.regs
  hold : t.hold = s.hold
  values : t.fixture.values = s.fixture.values

namespace WayKept

theorem refl (s : State) : WayKept s s := ⟨rfl, rfl, rfl⟩

theorem trans (h : WayKept s t) (k : WayKept t u) : WayKept s u :=
  ⟨k.regs.trans h.regs, k.hold.trans h.hold, k.values.trans h.values⟩

theorem rd (h : WayKept s t) (a : Nat) : t.rd a = s.rd a := by simp only [State.rd, h.regs]

theorem foldl {α : Type} {f : State → α → State} (hf : ∀ u x, WayKept u (f u x)) (l : List α) (s : State) : WayKept s (l.foldl f s) :=
  List.foldlRecOn l f (refl s) fun u hu x _ => hu.trans (hf u x)

end WayKept

theorem WayKept.mirrored {s v : State} (h : WayKept s v) (tw : TwinState) : WayKept s { v with twin := tw } := ⟨h.regs, h.hold, h.values⟩

theorem State.univApply_wayKept (s : State) (u n : Nat) (l : List Nat) : WayKept s (s.univApply u n l) := ⟨rfl, rfl, rfl⟩

theorem State.ltcApply_eq (s : State) (n c : Nat) : ∃ l, s.ltcApply n c = { s with fixture := { s.fixture with ltc := l } } := ⟨_, rfl⟩

theorem State.ltcApply_wayKept (s : State) (n c : Nat) : WayKept s (s.ltcApply n c) := by
  obtain ⟨l, h⟩ := s.ltcApply_eq n c
  rw [h]
  exact ⟨rfl, rfl, rfl⟩

theorem State.watchApply_wayKept (s : State) (v n x : Nat) : WayKept s (s.watchApply v n x) := ⟨rfl, rfl, rfl⟩

theorem State.takeMirror_wayKept (s : State) : WayKept s s.takeMirror := by
  rw [State.takeMirror]
  refine WayKept.mirrored (WayKept.foldl (fun u m => ?_) _ _) _
  obtain ⟨n, i⟩ := m
  cases i with
  | sacn v l => exact u.univApply_wayKept v n l
  | ltc c => exact u.ltcApply_wayKept n c
  | watch v x => exact u.watchApply_wayKept v n x
  | ambient target => exact .refl u
  | tj p v => exact ⟨rfl, rfl, rfl⟩

theorem State.wayEvalOne_wayKept (s : State) (e n : Nat) : WayKept s (s.wayEvalOne e n) := by
  unfold State.wayEvalOne
  dsimp only
  split
  · exact .refl s
  · split
    · exact .refl s
    · exact ⟨rfl, rfl, rfl⟩

theorem State.wayEval_eq (s : State) (e n : Nat) : ∃ first, s.wayEval e n = if n < first then s.takeMirror
    else (List.range (n + 1 - first)).foldl (fun s i => s.wayEvalOne e (first + i)) s.takeMirror := ⟨_, rfl⟩

theorem State.wayEval_wayKept (s : State) (e n : Nat) : WayKept s (s.wayEval e n) := by
  obtain ⟨first, h⟩ := s.wayEval_eq e n
  rw [h]
  split
  · exact s.takeMirror_wayKept
  · exact s.takeMirror_wayKept.trans (.foldl (fun u i => u.wayEvalOne_wayKept e (first + i)) _ _)

theorem State.waysEval_wayKept (s : State) (n : Nat) : WayKept s (s.waysEval n) := .foldl (fun u e => u.wayEval_wayKept e n) _ s

/-! ### Probe values -/

theorem tabGet?_map_key {α β : Type} (F : Nat → β) {l : List (Nat × α)} {k : Nat} (hmem : k ∈ l.map Prod.fst) :
    tabGet? (l.map fun e => (e.1, F e.1)) k = some (F k) := by
  induction l with
  | nil => simp at hmem
  | cons e l ih =>
    rw [List.map_cons, tabGet?]
    by_cases he : k = e.1
    · rw [if_pos he, he]
    · rw [if_neg he]
      exact ih (by simpa [he] using hmem)

theorem tabGet?_of_notMem {α : Type} {l : Tab α} {k : Nat} (h : k ∉ l.map Prod.fst) : tabGet? l k = none := by
  induction l with
  | nil => rfl
  | cons e l ih =>
    rw [List.map_cons, List.mem_cons, not_or] at h
    exact (if_neg h.1).trans (ih h.2)

/-- A probe with parameters has an entry. -/
theorem State.probe_mem {e n : Nat} (h : pEnable (s.probeAt e n) = true) : e ∈ s.fixture.probes.map Prod.fst := by
  by_contra hno
  rw [State.probeAt, tabGetD, tabGet?_of_notMem hno, Option.getD_none, timedAt, List.find?_nil, Option.map_none, Option.getD_none, pEnable] at h
  exact absurd h (by decide)

end Sys2Proof.Machine
end


section
/-! ### Probes and waybills (R313 to R327) -/

namespace Sys2Proof.Machine

variable {s t u : State}

theorem RegsBut.wrWords {l : List Nat} (h : RegsBut l s t) {a : Nat} (ws : List Nat) (ha : ∀ i < ws.length, a + 4 * i ∈ l) :
    RegsBut l s (t.wrWords a ws) := by
  have hside : RegSide (· ∈ l) t (t.wrWords a ws) := (RegSide.refl _ t).wrWords ws ha
  exact fun b hb => (hside.rd hb).trans (h b hb)

theorem State.rdWords_wrWords (s : State) (a : Nat) (ws : List Nat) : (s.wrWords a ws).rdWords a ws.length = ws.map (· % 2 ^ 32) := by
  refine List.ext_getElem (by simp [State.rdWords]) fun i hi _ => ?_
  have hlt : i < ws.length := by simpa [State.rdWords] using hi
  simp only [State.rdWords, List.getElem_map, List.getElem_range]
  rw [State.rn_wrWords s ws hlt, List.getD_eq_getElem _ _ hlt]

theorem rdWords_acted {dt a n : Nat} {f : State → State} : (acted dt s f).rdWords a n = (f (s.advance dt)).rdWords a n := rfl

/-! #### Values of probes -/

/-- The values of the probes that are on for a tally. -/
def State.probesShown (s : State) (buf n : Nat) : Tab (List Nat) :=
  (s.fixture.probes.filter fun e => pEnable (s.probeAt e.1 n)).map fun e =>
    (e.1, probeOut (s.probeAt e.1 n) (s.emitAt (pProfile (s.probeAt e.1 n)) n) (s.probeRgb buf (s.probeAt e.1 n)))

theorem State.probesShown_get {buf n e : Nat} (h : pEnable (s.probeAt e n) = true) :
    tabGetD (s.probesShown buf n) e [0, 0, 0, 0, 0, 0] = probeOut (s.probeAt e n) (s.emitAt (pProfile (s.probeAt e n)) n) (s.probeRgb buf (s.probeAt e n)) := by
  obtain ⟨x, hx, rfl⟩ := List.mem_map.1 (State.probe_mem h)
  rw [tabGetD, State.probesShown,
    tabGet?_map_key (fun e => probeOut (s.probeAt e n) (s.emitAt (pProfile (s.probeAt e n)) n) (s.probeRgb buf (s.probeAt e n)))
      (List.mem_map_of_mem (List.mem_filter.2 ⟨hx, h⟩)), Option.getD_some]

theorem State.probeValues_canvas {buf n : Nat} (hcanvas : s.canvasOf n = some buf)
    (hnew : s.fixture.values.head?.any (fun x => decide (n ≤ x.tally)) = false) : s.probeValues n = s.keepValues n n (s.probesShown buf n) := by
  unfold State.probeValues
  dsimp only
  rw [if_neg (by rw [hnew]; exact Bool.false_ne_true), hcanvas]
  rfl

theorem State.probeValues_repeat {n : Nat} {pv : ProbeVals} (hcanvas : s.canvasOf n = none) (hvals : s.fixture.values = [pv]) (hlt : pv.tally < n)
    (hdue : (if s.chase then s.tp n - 100000 else s.tp (n - 1)) ≤ s.ns) :
    s.probeValues n = (s.bump Reg.PROBE_REPEAT).keepValues n pv.base pv.vals := by
  unfold State.probeValues
  dsimp only
  rw [if_neg (by simpa [hvals] using hlt), hcanvas]
  dsimp only
  rw [if_neg (by omega), hvals]
  rfl

/-- What is read of the tally's values when they are ready. -/
theorem State.probeReady_spec (s v : State) {n base : Nat} {tab : Tab (List Nat)} (h : s.probeValues n = v.keepValues n base tab) :
    ∃ w, (if ((s.probeValues n).probeVals n).isSome then (s.probeValues n).waysEval n else s.probeValues n) = w
      ∧ WayKept (v.keepValues n base tab) w
      ∧ w.probeVals n = some { tally := n, ready := v.ns, base := base, vals := tab } := by
  have hfirst {l : List ProbeVals} :
      ((({ tally := n, ready := v.ns, base := base, vals := tab } : ProbeVals) :: l).take 4).find? (·.tally == n)
        = some { tally := n, ready := v.ns, base := base, vals := tab } := by
    rw [List.take_succ_cons, List.find?_cons_of_pos (by simp)]
  have hvals : (v.keepValues n base tab).probeVals n = some { tally := n, ready := v.ns, base := base, vals := tab } := hfirst
  have hkept := (v.keepValues n base tab).waysEval_wayKept n
  rw [h, hvals, if_pos (Option.isSome_some)]
  exact ⟨_, rfl, hkept, by rw [State.probeVals, hkept.values]; exact hvals⟩

/-! #### Commits -/

theorem State.probeBad_bound {ws : List (Nat × Nat)} {i area e r : Nat} (h : s.probeBad ws i area = some (e, r)) : e < i + ws.length ∧ r ≤ 3 := by
  induction ws generalizing i area with
  | nil => cases h
  | cons w ws ih =>
    have hreason : s.probeReason w ≤ 3 := by
      unfold State.probeReason
      split_ifs <;> omega
    rw [State.probeBad] at h
    rw [List.length_cons]
    split_ifs at h
    · cases h
      exact ⟨by omega, hreason⟩
    · cases h
      exact ⟨by omega, by omega⟩
    · obtain ⟨hlt, hr⟩ := ih h
      exact ⟨by omega, hr⟩

theorem pairUp_length : ∀ ws : List Nat, (pairUp ws).length = ws.length / 2
  | [] => rfl
  | [_] => by simp [pairUp]
  | a :: b :: l => by
    rw [pairUp, List.length_cons, pairUp_length l, List.length_cons, List.length_cons]
    omega

theorem State.rdWords_length (s : State) (a n : Nat) : (s.rdWords a n).length = n := by simp [State.rdWords]

theorem wordsBy_length (n k : Nat) (ws : List Nat) : (wordsBy n k ws).length = k := by
  induction k generalizing ws with
  | zero => rfl
  | succ k ih => rw [wordsBy, List.length_cons, ih]

theorem State.wayReason_le (s : State) (w : List Nat) : s.wayReason w ≤ 3 := by
  unfold State.wayReason
  split_ifs <;> omega

/-- A status word reads as it was written. -/
theorem State.rn_stat (s : State) (a : Nat) {n : Nat} (h : n < 4096) : (s.wn a (s.fld a 0 0 + n)).rn a = s.fld a 0 0 + n := by
  have hlt := bits_lt (s.rn a) 0 0
  rw [State.rn_wn_self]
  refine Nat.mod_eq_of_lt ?_
  rw [State.fld]
  omega

variable {ws : List Nat}

theorem State.probeCommit_go (req : Requester) (hws : s.rdWords (Reg.PROBE_WIN 0) 128 = ws) (hown : s.blockOwned (s.fld Reg.PROBE_SEL 7 0) = true)
    (hbad : s.probeBad (pairUp ws) 0 (s.areaBut (s.fld Reg.PROBE_SEL 7 0)) = none) :
    s.probeCommit req = (s.wn Reg.PROBE_STAT 1).submit (.probeBlock (s.fld Reg.PROBE_SEL 7 0) ws) := by
  unfold State.probeCommit
  dsimp only
  rw [hws, if_neg (by simp [hown]), hbad]

theorem State.probeCommit_no (req : Requester) {e r : Nat} (hws : s.rdWords (Reg.PROBE_WIN 0) 128 = ws)
    (hown : s.blockOwned (s.fld Reg.PROBE_SEL 7 0) = true) (hbad : s.probeBad (pairUp ws) 0 (s.areaBut (s.fld Reg.PROBE_SEL 7 0)) = some (e, r)) :
    s.probeCommit req = s.wn Reg.PROBE_STAT (s.fld Reg.PROBE_STAT 0 0 + (2 + 4 * r + 16 * e)) := by
  unfold State.probeCommit
  dsimp only
  rw [hws, if_neg (by simp [hown]), hbad, ← Nat.add_assoc, ← Nat.add_assoc]

theorem State.emitCommit_go (hws : s.rdWords (Reg.PROBE_EMIT_WIN 0) 1024 = ws)
    (hbad : ((List.range 64).find? fun p => emitBad ((ws.drop (16 * p)).take 16)) = none) :
    s.emitCommit = (s.wn Reg.PROBE_EMIT_STAT 1).submit (.emitProfiles ws) := by
  unfold State.emitCommit
  dsimp only
  rw [hws, hbad]

theorem State.emitCommit_no {e : Nat} (hws : s.rdWords (Reg.PROBE_EMIT_WIN 0) 1024 = ws)
    (hbad : ((List.range 64).find? fun p => emitBad ((ws.drop (16 * p)).take 16)) = some e) :
    s.emitCommit = s.wn Reg.PROBE_EMIT_STAT (s.fld Reg.PROBE_EMIT_STAT 0 0 + (2 + 4 * e)) := by
  unfold State.emitCommit
  dsimp only
  rw [hws, hbad, ← Nat.add_assoc]

theorem State.wayCommit_go (hws : s.rdWords (Reg.WAY_WIN 0) 128 = ws)
    (hbad : ((wordsBy 8 16 ws).zipIdx.find? fun x => s.wayReason x.1 != 0) = none) :
    s.wayCommit = (s.wn Reg.WAY_STAT 1).submit (.wayBlock (s.fld Reg.WAY_SEL 7 0) ws) := by
  unfold State.wayCommit
  dsimp only
  rw [hws, hbad]

theorem State.wayCommit_no {w : List Nat} {e : Nat} (hws : s.rdWords (Reg.WAY_WIN 0) 128 = ws)
    (hbad : ((wordsBy 8 16 ws).zipIdx.find? fun x => s.wayReason x.1 != 0) = some (w, e)) :
    s.wayCommit = s.wn Reg.WAY_STAT (s.fld Reg.WAY_STAT 0 0 + (2 + 4 * s.wayReason w + 16 * e)) := by
  unfold State.wayCommit
  dsimp only
  rw [hws, hbad, ← Nat.add_assoc, ← Nat.add_assoc]

/-- Words read when a requester asks are those read before. -/
theorem State.rdWords_asked (s : State) (dt : Nat) (req : Requester) (a n : Nat) : ((s.advance dt).asked req).rdWords a n = s.rdWords a n := rfl

/-- The commit that a requester's command makes bears the time of the command, whoever asks. -/
theorem State.submit_askedAny (req : Requester) (k : CommitKind) (hu : u.stamp16 = (s.asked req).stamp16) :
    ((u.submit k).pipe.commits.getLast?.map fun c => (c.stamp, c.kind)) = some (s.stamp16, k) := by
  rw [State.submit_last, hu, State.stamp16_asked_any]

theorem State.probeBad_asked (s : State) (dt : Nat) (req : Requester) (ws : List (Nat × Nat)) (i area : Nat) :
    ((s.advance dt).asked req).probeBad ws i area = s.probeBad ws i area := by
  induction ws generalizing i area with
  | nil => rfl
  | cons w ws ih =>
    rw [State.probeBad, State.probeBad, ih]
    rfl

theorem State.rn_wn_one (s : State) (a : Nat) : (s.wn a 1).rn a = 1 := (s.rn_wn_self a 1).trans rfl

/-- A shadow read into its window. -/
theorem State.shadowShown_spec {a b v n : Nat} {f : Nat → Nat} (hu : (s.wn a v).wrWords b ws = u) (hv : v < 256) (hlen : ws.length = n)
    (hf : ∀ i, f i = b + 4 * i) (hab : a < b) :
    u.rn a = v ∧ u.rdWords b n = ws.map (· % 2 ^ 32) ∧ RegsBut (a :: (List.range n).map f) s u ∧ SameHold s u := by
  subst hlen hu
  refine ⟨?_, State.rdWords_wrWords .., ?_, (State.wrWords_regSide ..).sameHold⟩
  · rw [State.rn, State.rd_wrWords_below _ _ hab]
    exact (State.rn_wn_self ..).trans (Nat.mod_eq_of_lt (by omega))
  · exact ((RegsBut.refl _ s).wn List.mem_cons_self _).wrWords ws fun i hi =>
      List.mem_cons_of_mem _ (List.mem_map.2 ⟨i, List.mem_range.2 hi, hf i⟩)

theorem State.probeBlock_length (s : State) (b : Nat) : (s.probeBlock b).length = 128 := by
  simp [State.probeBlock, List.length_flatMap]

theorem State.wayBlock_length {b : Nat} (h : ∀ j ∈ List.range 16, (s.way (16 * b + j)).length = 8) : (s.wayBlock b).length = 128 := by
  rw [State.wayBlock, List.length_flatMap, List.map_congr_left h]
  simp

/-- Settles O46: probe values are those of the canvas or repeat, a shadow shows its block, and a commit carries its shadow or is refused with the
first bad entry. -/
theorem probesAndWaybills : Obligations.ProbesAndWaybills := by
  intro dt n e buf b r i w pv ps req v s hcore hb
  have hb256 : b < 256 := by
    rw [hb]
    exact bits_lt _ _ _
  refine ⟨fun hcanvas hnew hw hen => ?values, fun hcanvas hvals hlt hdue => ?repeats, fun hpend hown => ?probeSel, fun h => ?probeSelBad,
    fun hown hbad => ?probeGo, fun hown hbad => ?probeNo, fun hbad => ?emitGo, fun hbad => ?emitNo, fun hpend hlen => ?waySel, fun h => ?waySelBad,
    fun hbad => ?wayGo, fun hbad => ?wayNo, ?param⟩
  case values =>
    obtain ⟨u, hu, hkept, hprobe⟩ := State.probeReady_spec (s.advance dt) _ (State.probeValues_canvas (s := s.advance dt) hcanvas hnew)
    have hen' : pEnable ((s.advance dt).probeAt e n) = true := by rw [show (s.advance dt).probeAt e n = w from hw]; exact hen
    refine completes_eq (u := u) rfl hcore hu ⟨?_, ?_, fun a => hkept.rd a, sameHold_of_hold hkept.hold⟩
    · change (u.probeVals n).map _ = _
      rw [hprobe]
      refine congrArg some (congrArg (Prod.mk _) (congrArg (Prod.mk _) ?_))
      exact (State.probesShown_get hen').trans (by rw [show (s.advance dt).probeAt e n = w from hw]; rfl)
    · change u.fixture.values.length ≤ 4
      rw [hkept.values]
      exact List.length_take_le _ _
  case repeats =>
    obtain ⟨u, hu, hkept, -⟩ := State.probeReady_spec (s.advance dt) _ (State.probeValues_repeat (s := s.advance dt) hcanvas hvals hlt hdue)
    have hregs (a : Nat) : u.rd a = ((s.advance dt).bump Reg.PROBE_REPEAT).rd a := hkept.rd a
    refine completes_eq (u := u) rfl hcore hu ⟨?_, (State.pair_congr (hregs _) (hregs _)).trans (State.pair_bump _ _), fun a ha => ?_, sameHold_of_hold hkept.hold⟩
    · change u.fixture.values = _
      rw [hkept.values]
      change (_ :: s.fixture.values).take 4 = _
      rw [hvals]
      rfl
    · exact (hregs a).trans ((RegsBut.refl [Reg.PROBE_REPEAT, Reg.PROBE_REPEAT + 4] (s.advance dt)).bump (by simp) (by simp) a ha)
  case probeSel =>
    have hok : ¬ (bit ((s.advance dt).rn Reg.PROBE_STAT) 0 = true ∨ (s.advance dt).blockOwned b = false) := not_or.2
      ⟨Bool.eq_false_iff.1 hpend, fun h => Bool.false_ne_true (h.symm.trans hown)⟩
    obtain ⟨u, hu⟩ : ∃ u, ((s.advance dt).wn Reg.PROBE_SEL b).wrWords (Reg.PROBE_WIN 0) ((s.advance dt).probeBlock b) = u := ⟨_, rfl⟩
    obtain ⟨hsel, hwin, hregs, hhold⟩ := State.shadowShown_spec (f := Reg.PROBE_WIN) hu hb256 (State.probeBlock_length _ b)
      (fun i => by simp [Reg.PROBE_WIN]) (by decide)
    exact completes_eq (u := u) rfl hcore (by rw [State.probeSelWrite, ← hb, if_neg hok, hu]) ⟨hsel, hwin, hregs, hhold⟩
  case probeSelBad =>
    refine completes_eq rfl hcore (if_pos (by rw [← hb]; exact h)) ?_
    exact ⟨State.pair_accErr .., State.regsBut_accErr s req _ true false, fun _ => rfl⟩
  case probeGo =>
    obtain ⟨ws, hws⟩ : ∃ ws, s.rdWords (Reg.PROBE_WIN 0) 128 = ws := ⟨_, rfl⟩
    rw [hws] at hbad ⊢
    refine completes_asked rfl hcore (State.probeCommit_go (s := (s.advance dt).asked req) req ((s.rdWords_asked ..).trans hws) hown ((State.probeBad_asked ..).trans hbad)) ?_
    exact ⟨(rn_acted ..).trans ((State.rn_submit ..).trans (State.rn_wn_one ..)), State.submit_length .., State.submit_askedAny req _ rfl,
      regsBut_submitted.mpr ((regsBut_asked s dt req).wn (by simp) _), fun _ => rfl⟩
  case probeNo =>
    have hbound := State.probeBad_bound hbad
    rw [pairUp_length, State.rdWords_length] at hbound
    refine completes_asked rfl hcore (State.probeCommit_no (s := (s.advance dt).asked req) req (s.rdWords_asked ..) hown ((State.probeBad_asked ..).trans hbad)) ?_
    rw [show s.fld Reg.PROBE_STAT 0 0 + 2 + 4 * r + 16 * e = s.fld Reg.PROBE_STAT 0 0 + (2 + 4 * r + 16 * e) by omega]
    have hstat := State.rn_stat ((s.advance dt).asked req) Reg.PROBE_STAT (n := 2 + 4 * r + 16 * e) (by omega)
    exact ⟨(rn_acted ..).trans hstat, rfl, rfl, (regsBut_asked s dt req).wn (by simp) _, fun _ => rfl⟩
  case emitGo =>
    obtain ⟨ws, hws⟩ : ∃ ws, s.rdWords (Reg.PROBE_EMIT_WIN 0) 1024 = ws := ⟨_, rfl⟩
    rw [hws] at hbad ⊢
    refine completes_asked rfl hcore (State.emitCommit_go (s := (s.advance dt).asked req) ((s.rdWords_asked ..).trans hws) hbad) ?_
    exact ⟨(rn_acted ..).trans ((State.rn_submit ..).trans (State.rn_wn_one ..)), State.submit_askedAny req _ rfl, regsBut_submitted.mpr ((regsBut_asked s dt req).wn (by simp) _), fun _ => rfl⟩
  case emitNo =>
    have hlt := List.mem_range.1 (List.mem_of_find?_eq_some hbad)
    refine completes_asked rfl hcore (State.emitCommit_no (s := (s.advance dt).asked req) (s.rdWords_asked ..) hbad) ?_
    rw [show s.fld Reg.PROBE_EMIT_STAT 0 0 + 2 + 4 * e = s.fld Reg.PROBE_EMIT_STAT 0 0 + (2 + 4 * e) by omega]
    have hstat := State.rn_stat ((s.advance dt).asked req) Reg.PROBE_EMIT_STAT (n := 2 + 4 * e) (by omega)
    exact ⟨(rn_acted ..).trans hstat, rfl, (regsBut_asked s dt req).wn (by simp) _, fun _ => rfl⟩
  case waySel =>
    have hok : ¬ bit ((s.advance dt).rn Reg.WAY_STAT) 0 = true := Bool.eq_false_iff.1 hpend
    obtain ⟨u, hu⟩ : ∃ u, ((s.advance dt).wn Reg.WAY_SEL b).wrWords (Reg.WAY_WIN 0) ((s.advance dt).wayBlock b) = u := ⟨_, rfl⟩
    obtain ⟨hsel, hwin, hregs, hhold⟩ := State.shadowShown_spec (f := Reg.WAY_WIN) hu hb256 (State.wayBlock_length hlen)
      (fun i => by simp [Reg.WAY_WIN]) (by decide)
    exact completes_eq (u := u) rfl hcore (by rw [State.waySelWrite, ← hb, if_neg hok, hu]) ⟨hsel, hwin, hregs, hhold⟩
  case waySelBad =>
    refine completes_eq rfl hcore (if_pos h) ?_
    exact ⟨State.pair_accErr .., State.regsBut_accErr s req _ true false, fun _ => rfl⟩
  case wayGo =>
    obtain ⟨ws, hws⟩ : ∃ ws, s.rdWords (Reg.WAY_WIN 0) 128 = ws := ⟨_, rfl⟩
    rw [hws] at hbad ⊢
    refine completes_asked rfl hcore (State.wayCommit_go (s := (s.advance dt).asked req) ((s.rdWords_asked ..).trans hws) hbad) ?_
    exact ⟨(rn_acted ..).trans ((State.rn_submit ..).trans (State.rn_wn_one ..)), State.submit_askedAny req _ rfl, regsBut_submitted.mpr ((regsBut_asked s dt req).wn (by simp) _), fun _ => rfl⟩
  case wayNo =>
    have hlt := List.snd_lt_of_mem_zipIdx (List.mem_of_find?_eq_some hbad)
    have hreason := s.wayReason_le ps
    rw [wordsBy_length] at hlt
    refine completes_asked rfl hcore (State.wayCommit_no (s := (s.advance dt).asked req) (s.rdWords_asked ..) hbad) ?_
    rw [show s.fld Reg.WAY_STAT 0 0 + 2 + 4 * s.wayReason ps + 16 * e = s.fld Reg.WAY_STAT 0 0 + (2 + 4 * s.wayReason ps + 16 * e) by omega]
    have hstat := State.rn_stat ((s.advance dt).asked req) Reg.WAY_STAT (n := 2 + 4 * s.wayReason ps + 16 * e) (by omega)
    exact ⟨(rn_acted ..).trans hstat, rfl, (regsBut_asked s dt req).wn (by simp) _, fun _ => rfl⟩
  case param =>
    refine completes_asked rfl hcore rfl ?_
    have hlt := bits_lt v.toNat 15 0
    exact ⟨(State.rn_wn_self ..).trans (Nat.mod_eq_of_lt (by omega)), rfl, State.submit_askedAny req _ rfl,
      regsBut_submitted.mpr ((regsBut_asked s dt req).wn (by simp) _), fun _ => rfl⟩

end Sys2Proof.Machine
end


section
/-! ### Outbound queues of the Pier (R413 to R417) -/

namespace Sys2Proof.Machine

variable {s t u : State} {k : Nat}

/-- Two states that differ in the Pier's queues and in the registers that follow outbound queue k. -/
structure PierSide (k : Nat) (s t : State) : Prop where
  others : ∃ regs pier, t = { s with regs := regs, pier := pier }
  rd : ∀ a, a ≠ Reg.PIER_OQ_STAT k → a ≠ Reg.PIER_IRQ_STAT → t.rd a = s.rd a

namespace PierSide

theorem refl (k : Nat) (s : State) : PierSide k s s := ⟨⟨_, _, rfl⟩, fun _ _ _ => rfl⟩

theorem trans (h : PierSide k s t) (j : PierSide k t u) : PierSide k s u := by
  refine ⟨?_, fun a h1 h2 => (j.rd a h1 h2).trans (h.rd a h1 h2)⟩
  obtain ⟨_, _, rfl⟩ := h.others
  obtain ⟨r, p, hu⟩ := j.others
  exact ⟨r, p, hu⟩

theorem hold (h : PierSide k s t) : t.hold = s.hold := by obtain ⟨_, _, rfl⟩ := h.others; rfl
theorem sameHold (h : PierSide k s t) : SameHold s t := sameHold_of_hold h.hold
theorem out (h : PierSide k s t) : t.out = s.out := by obtain ⟨_, _, rfl⟩ := h.others; rfl
theorem clk (h : PierSide k s t) : t.clk = s.clk := by obtain ⟨_, _, rfl⟩ := h.others; rfl
theorem time (h : PierSide k s t) : t.time = s.time := by obtain ⟨_, _, rfl⟩ := h.others; rfl
theorem ferry (h : PierSide k s t) : t.ferry = s.ferry := by obtain ⟨_, _, rfl⟩ := h.others; rfl
theorem macs (h : PierSide k s t) : t.macs = s.macs := by obtain ⟨_, _, rfl⟩ := h.others; rfl
theorem fixture (h : PierSide k s t) : t.fixture = s.fixture := by obtain ⟨_, _, rfl⟩ := h.others; rfl
theorem nvm (h : PierSide k s t) : t.nvm = s.nvm := by obtain ⟨_, _, rfl⟩ := h.others; rfl
theorem watch (h : PierSide k s t) : t.watch = s.watch := by obtain ⟨_, _, rfl⟩ := h.others; rfl
theorem asker (h : PierSide k s t) : t.asker = s.asker := by obtain ⟨_, _, rfl⟩ := h.others; rfl

theorem regsBut (h : PierSide k s t) {l : List Nat} (h1 : Reg.PIER_OQ_STAT k ∈ l) (h2 : Reg.PIER_IRQ_STAT ∈ l) : RegsBut l s t :=
  fun a ha => h.rd a (ne_of_mem_of_not_mem h1 ha).symm (ne_of_mem_of_not_mem h2 ha).symm

theorem pair (h : PierSide k s t) {a : Nat} (ha : ∀ b, b = a ∨ b = a + 4 → b ≠ Reg.PIER_OQ_STAT k ∧ b ≠ Reg.PIER_IRQ_STAT) : t.pair a = s.pair a :=
  State.pair_congr (h.rd _ (ha _ (.inl rfl)).1 (ha _ (.inl rfl)).2) (h.rd _ (ha _ (.inr rfl)).1 (ha _ (.inr rfl)).2)

end PierSide

theorem State.setOutQ_regSide (s : State) (k : Nat) (x : OutQ) :
    ∃ pier, RegSide (fun a => a = Reg.PIER_OQ_STAT k ∨ a = Reg.PIER_IRQ_STAT) { s with pier := pier } (s.setOutQ k x) :=
  ⟨_, ((RegSide.refl _ _).wn _ (.inl rfl)).setFld _ _ _ (.inr rfl)⟩

theorem State.setOutQ_pierSide (s : State) (k : Nat) (x : OutQ) : PierSide k s (s.setOutQ k x) := by
  obtain ⟨pier, h⟩ := s.setOutQ_regSide k x
  exact ⟨⟨_, _, rfl⟩, fun a h1 h2 => h.rd (not_or.2 ⟨h1, h2⟩)⟩

/-- A queue as it was set, its timer running while it holds words. -/
theorem State.outQ_setOutQ (s : State) (k : Nat) (x : OutQ) :
    (s.setOutQ k x).outQ k = { x with timer := if x.words.isEmpty then none else some (x.timer.getD s.clk) } := tabGetD_tabSet_self ..

theorem State.setOutQ_lastResult (s : State) (k : Nat) (x : OutQ) : (s.setOutQ k x).pier.lastResult = s.pier.lastResult := rfl
theorem State.setOutQ_inq (s : State) (k : Nat) (x : OutQ) : (s.setOutQ k x).pier.inq = s.pier.inq := rfl

theorem State.fillOutQ_pierSide (s : State) (k : Nat) : PierSide k s (s.fillOutQ k) := s.setOutQ_pierSide k _

/-- A queue with nothing waiting takes nothing. -/
theorem placeWaiting_idle (n : Nat) {x : OutQ} (hfeed : x.feed = []) (hwait : x.waiting = []) : placeWaiting n x = x := by
  cases n with
  | zero => rfl
  | succ n =>
    obtain ⟨words, feed, waiting, lost, reading, timer⟩ := x
    subst hfeed hwait
    rfl

/-- What an operation of a queue with nothing waiting leaves of it. -/
theorem State.refill_spec (s : State) (k : Nat) {x : OutQ} (hfeed : x.feed = []) (hwait : x.waiting = []) :
    PierSide k s ((s.setOutQ k x).fillOutQ k)
      ∧ ((s.setOutQ k x).fillOutQ k).outQ k = { x with timer := if x.words.isEmpty then none else some (x.timer.getD s.clk) } := by
  refine ⟨(s.setOutQ_pierSide k x).trans (State.fillOutQ_pierSide _ k), ?_⟩
  rw [State.fillOutQ, State.outQ_setOutQ, State.outQ_setOutQ, placeWaiting_idle _ (by exact hfeed) (by exact hwait)]
  dsimp only
  split <;> rfl

theorem waitLimit_pos (ptype : Nat) : 0 < waitLimit ptype := by
  unfold waitLimit
  split_ifs <;> decide

/-- A packet that fits goes into an empty queue at once. -/
theorem placeWaiting_one {n : Nat} (hn : 0 < n) {x : OutQ} {ptype src : Nat} {bs : List Byte} (hwords : x.words = []) (hfeed : x.feed = [])
    (hwait : x.waiting = [(ptype, src, bs)]) (hlen : (outPacket ptype x.lost bs).length ≤ 512) :
    placeWaiting n x = { x with words := outPacket ptype x.lost bs, waiting := [], lost := 0 } := by
  obtain ⟨n, rfl⟩ := Nat.exists_eq_add_of_lt hn
  obtain ⟨words, feed, waiting, lost, reading, timer⟩ := x
  dsimp only at hwords hfeed hwait hlen
  subst hwords hfeed hwait
  unfold placeWaiting
  dsimp only
  rw [if_neg (by omega), if_pos (by simpa using hlen), List.nil_append]
  exact placeWaiting_idle _ rfl rfl

/-- A packet for a queue at which nothing waits. -/
theorem State.pierPush_eq (ptype src : Nat) (bs : List Byte) (hempty : s.outQ k = {}) : s.pierPush k ptype src bs =
    if bit (s.rn Reg.PIER_CFG) 0 then (s.setOutQ k { waiting := [(ptype, src, bs)] }).fillOutQ k else s := by
  have hlimit : ¬ decide (waitLimit ptype ≤ (([] : List (Nat × Nat × List Byte)).filter (·.2.1 == src)).length) = true := by
    simpa using (waitLimit_pos ptype).ne'
  unfold State.pierPush
  dsimp only
  rw [hempty, if_neg hlimit, if_neg hlimit]
  rfl

theorem State.pierPush_pierSide (ptype src : Nat) (bs : List Byte) (hempty : s.outQ k = {}) : PierSide k s (s.pierPush k ptype src bs) := by
  rw [State.pierPush_eq ptype src bs hempty]
  split
  · exact (s.setOutQ_pierSide k _).trans (State.fillOutQ_pierSide _ k)
  · exact .refl k s

theorem State.pierPush_empty (ptype src : Nat) {bs : List Byte} (hon : bit (s.rn Reg.PIER_CFG) 0 = true) (hempty : s.outQ k = {})
    (hlen : (outPacket ptype 0 bs).length ≤ 512) : ((s.pierPush k ptype src bs).outQ k).words = outPacket ptype 0 bs := by
  obtain ⟨x, hx⟩ : ∃ x : OutQ, ({ waiting := [(ptype, src, bs)] } : OutQ) = x := ⟨_, rfl⟩
  have hplaced : (placeWaiting 2000 x).words = outPacket ptype 0 bs := by
    rw [placeWaiting_one (by omega) (by rw [← hx]) (by rw [← hx]) (ptype := ptype) (src := src) (bs := bs) (by rw [← hx]) (by rwa [← hx])]
    rw [← hx]
  have htimer : ({ x with timer := if x.words.isEmpty then none else some (x.timer.getD s.clk) } : OutQ) = x := by rw [← hx]; rfl
  rw [State.pierPush_eq ptype src bs hempty, if_pos hon, hx, State.fillOutQ, State.outQ_setOutQ, State.outQ_setOutQ, htimer]
  exact hplaced

theorem packWords_length : ∀ bs : List Byte, (packWords bs).length = (bs.length + 3) / 4
  | [] => rfl
  | [_] => by simp [packWords]
  | [_, _] => by simp [packWords]
  | [_, _, _] => by simp [packWords]
  | a :: b :: c :: d :: bs => by
    rw [packWords, List.length_cons, packWords_length bs]
    simp only [List.length_cons]
    omega

theorem outPacket_length (ptype lost : Nat) (bs : List Byte) : (outPacket ptype lost bs).length = 1 + (bs.length + 3) / 4 := by
  rw [outPacket, List.length_mapIdx, List.length_cons, packWords_length]
  omega

theorem qmpBytes_length (flags type session seq origin target status : Nat) (body : List Byte) :
    (qmpBytes flags type session seq origin target status body).length = 32 + body.length := by
  simp only [qmpBytes, List.length_append, beBytes_length, List.length_replicate]

end Sys2Proof.Machine
end


section
/-! ### The check code of the Pier's words (R413) -/

namespace Sys2Proof.Machine

/-- The check bits of a word without the parity bit. -/
def checkSum (d : Nat) : Nat := bitSum (checkBit d) (List.range 6)

theorem foldl_bits (f : Nat → Bool) (l : List Nat) (a : Nat) :
    l.foldl (fun a i => a + (f i).toNat * 2 ^ i) a = l.foldl (fun a r => a + if f r then 2 ^ r else 0) a := by
  have h : (fun (a i : Nat) => a + (f i).toNat * 2 ^ i) = fun a r => a + if f r then 2 ^ r else 0 := by
    funext a i
    cases f i <;> simp
  rw [h]

theorem checkSum_spec (d : Nat) : checkSum d < 64 ∧ ∀ i < 6, bit (checkSum d) i = checkBit d i := bitSum_spec (checkBit d) 6

/-- The parity bit of a code word makes its parity even. -/
theorem secded_eq (d : Nat) : secded d
    = checkSum d + 64 * (parity ((List.range 32).map (bit d)) ^^ parity ((List.range 6).map (bit (checkSum d)))).toNat := by
  rw [secded, foldl_bits]
  rfl

theorem parity_concat (l : List Bool) (b : Bool) : parity (l ++ [b]) = (parity l ^^ b) := by
  rw [parity, List.foldl_append]
  rfl

theorem bit_below (c : Nat) (b : Bool) {i : Nat} (hi : i < 6) : bit (c + 64 * b.toNat) i = bit c i := by
  cases b with
  | false => rfl
  | true => exact (congrArg (bit · i) (Nat.add_comm c _)).trans (Nat.testBit_two_pow_add_gt hi c)

theorem bit_top {c : Nat} (hc : c < 64) (b : Bool) : bit (c + 64 * b.toNat) 6 = b := by
  have hclear : c.testBit 6 = false := Nat.testBit_lt_two_pow hc
  cases b with
  | false => exact hclear
  | true =>
    refine (congrArg (bit · 6) (Nat.add_comm c _)).trans ((Nat.testBit_two_pow_add_eq c 6).trans ?_)
    rw [hclear, Bool.not_false]

/-- A word with its own check reads as it stands. -/
theorem secdedFix_secded (d : Nat) : secdedFix d (secded d) = (d, 0) := by
  obtain ⟨hlt, hbits⟩ := checkSum_spec d
  obtain ⟨b, hb⟩ : ∃ b, (parity ((List.range 32).map (bit d)) ^^ parity ((List.range 6).map (bit (checkSum d)))) = b := ⟨_, rfl⟩
  have hlow : ∀ i ∈ List.range 6, bit (secded d) i = bit (checkSum d) i := fun i hi => by
    rw [secded_eq, bit_below _ _ (List.mem_range.1 hi)]
  have hsyn : (List.range 6).foldl (fun a i => a + (checkBit d i ^^ bit (secded d) i).toNat * 2 ^ i) 0 = 0 := by
    have hzero : ∀ l : List Nat, (∀ i ∈ l, i ∈ List.range 6) →
        l.foldl (fun a i => a + (checkBit d i ^^ bit (secded d) i).toNat * 2 ^ i) 0 = 0 := by
      intro l hl
      induction l with
      | nil => rfl
      | cons i l ih =>
        have hi := hl i List.mem_cons_self
        rw [List.foldl_cons, hlow i hi, hbits i (List.mem_range.1 hi), Bool.xor_self]
        simpa using ih fun j hj => hl j (List.mem_cons_of_mem _ hj)
    exact hzero _ fun _ h => h
  have hodd : (parity ((List.range 32).map (bit d)) ^^ parity ((List.range 7).map (bit (secded d)))) = false := by
    rw [show List.range 7 = List.range 6 ++ [6] from rfl, List.map_append, List.map_singleton, parity_concat, List.map_congr_left hlow, secded_eq, hb, bit_top hlt,
      ← Bool.xor_assoc, hb, Bool.xor_self]
  rw [secdedFix, if_pos hsyn, hodd]
  rfl

end Sys2Proof.Machine
end

section
/-! ### Reads and writes of the Pier (R408 to R412) -/

namespace Sys2Proof.Machine

variable {s t : State} {r : Requester} {a dt n : Nat}

/-- The register that a read of an address may change: its own, when it is cleared on read (R8). -/
@[reducible] def readChanges (a b : Nat) : Prop := b = a ∧ ((regDesc? a).any fun d => d.acc == .rc) = true

theorem State.readEffect_regSide (s : State) (a : Nat) : ∃ time, RegSide (readChanges a) { s with time := time } (s.readEffect a) := by
  unfold State.readEffect
  dsimp only
  split
  · unfold State.rxqPop
    split
    · exact ⟨_, .refl _ _⟩
    · exact ⟨_, .refl _ _⟩
  split
  · exact ⟨_, .refl _ _⟩
  split
  next d hd =>
    split
    next hrc => exact ⟨_, (RegSide.refl _ _).wn _ ⟨rfl, by rw [hd]; exact hrc⟩⟩
    next => exact ⟨_, .refl _ _⟩
  next => exact ⟨_, .refl _ _⟩

/-- Of the registers a read changes at most the one that it reads. -/
theorem State.readReg_regSide (s : State) (r : Requester) (a : Nat) : ∃ time latch fresh,
    RegSide (readChanges a) { s with time := time, pairLatch := latch, fresh := fresh } (s.readReg r a).2 := by
  have heffect : ∀ u : State, (∃ latch fresh, u = { s with pairLatch := latch, fresh := fresh }) → ∃ time latch fresh,
      RegSide (readChanges a) { s with time := time, pairLatch := latch, fresh := fresh } (u.readEffect a) := by
    rintro u ⟨latch, fresh, rfl⟩
    obtain ⟨time, h⟩ := State.readEffect_regSide { s with pairLatch := latch, fresh := fresh } a
    exact ⟨time, latch, fresh, h⟩
  unfold State.readReg
  dsimp only
  generalize hp : (if (a / 65536 == 0x16 && !s.watch.keeper && assigned a) = true then (s.draw.1 % 2 ^ 32, s.draw.2)
    else if a = Reg.WATCH_STAT then (putBit (s.draw.2.peek a) 6 (bit s.draw.1 0), s.draw.2) else (s.peek a, s)) = p
  have hdrawn : ∃ fresh, p.2 = { s with fresh := fresh } := by
    rw [← hp]
    split_ifs <;> exact ⟨_, rfl⟩
  obtain ⟨v, u⟩ := p
  obtain ⟨fresh, rfl⟩ := hdrawn
  split
  · exact heffect _ ⟨_, fresh, rfl⟩
  · refine heffect _ ?_
    split_ifs <;> exact ⟨_, fresh, rfl⟩

/-- A command of the Pier while the Pier is enabled. -/
theorem completes_pier {c : Instr} {u : State} {f : State → State} {P : State → Prop} (hc : exec c s = pierAct dt s f)
    (hcore : s.watch.core = true) (hserv : s.serviceMode = false) (hon : bit (s.rn Reg.PIER_CFG) 0 = true)
    (hf : f (s.advance dt) = u) (hp : P (acted dt s fun _ => u)) : Completes c s P := by
  refine completes_eq hc hcore ?_ hp
  have hguard : (bit ((s.advance dt).rn Reg.PIER_CFG) 0 && !(s.advance dt).serviceMode) = true := by
    rw [show (s.advance dt).rn Reg.PIER_CFG = s.rn Reg.PIER_CFG from rfl, show (s.advance dt).serviceMode = s.serviceMode from rfl, hon, hserv]
    rfl
  exact (if_pos hguard).trans hf

/-- A command of the Pier that changes only its answer. -/
theorem completes_pierAnswer {c : Instr} {f : State → State} {l : List Output} (hc : exec c s = pierAct dt s f)
    (hcore : s.watch.core = true) (hserv : s.serviceMode = false) (hon : bit (s.rn Reg.PIER_CFG) 0 = true)
    (hf : f (s.advance dt) = { s.advance dt with out := l }) : Completes c s fun t => t.out = l ∧ SameRegs s t ∧ SameHold s t :=
  completes_pier hc hcore hserv hon hf ⟨acted_out .., sameRegs_of_regs (acted_regs ..), sameHold_of_hold (acted_hold ..)⟩

/-- The read of n words at an address by the Pier. -/
def pierReadTxn (a n : Nat) : Txn :=
  { door := .regs .pier, type := 0, op := 1, node := 0, dest := 0, space := 0, offset := a, count := n }

/-- The write of words at an address by the Pier. -/
def pierWriteTxn (a : Nat) (ws : List Word) : Txn :=
  { door := .regs .pier, type := 0, op := 2, node := 0, dest := 0, space := 0, offset := a, count := ws.length, data := ws }

/-- A transaction whose requester neither waits nor is kept from the port runs at once. -/
theorem State.localSubmit_free {x : Txn} (hfree : s.localBlocked (doorReq x.door) = false) (hnone : s.ferry.localWait = []) :
    s.localSubmit x = s.localRun x := by
  rw [State.localSubmit, hfree, hnone]
  rfl

theorem State.localSubmit_blocked {x : Txn} (hblocked : s.localBlocked (doorReq x.door) = true) : s.localSubmit x = s.localQueue x := by
  rw [State.localSubmit, hblocked]
  rfl

/-- One word read by the Pier: the word, answered as its address is assigned. -/
theorem State.localRun_readOne (s : State) (a : Nat) : s.localRun (pierReadTxn a 1)
    = (s.readReg .pier a).2.emit (.answer .pier (if assigned a then 0 else 4) [(s.readReg .pier a).1]) := rfl

theorem State.localRun_writeOne (s : State) (a : Nat) (w : Word) : s.localRun (pierWriteTxn a [w])
    = { s.writeReg .pier a w.toNat with
          pier := { (s.writeReg .pier a w.toNat).pier with lastResult := if s.writeDenied a then 4 else 0 } } := rfl

theorem readChanges_unassigned (halign : a % 4 = 0) (hnone : assigned a = false) (b : Nat) : ¬ readChanges a b := by
  have h : regDesc? a = none := by
    obtain ⟨-, h, -⟩ : inHold a = false ∧ regDesc? a = none ∧ shadowBase a = none := by
      simpa [assigned, halign, and_assoc] using hnone
    exact h
  rintro ⟨-, hsome⟩
  rw [h] at hsome
  exact absurd hsome (by decide)

/-- Nothing stands at an address that is not assigned: it reads 0. -/
theorem State.readReg_unassigned {a : Nat} (halign : a % 4 = 0) (hnone : assigned a = false) (hlatch : takeKey s.pairLatch r a = none) :
    (s.readReg r a).1 = 0 := by
  obtain ⟨hin, hreg, hshadow⟩ : inHold a = false ∧ regDesc? a = none ∧ shadowBase a = none := by
    simpa [assigned, halign, and_assoc] using hnone
  have hpeek : s.peek a = 0 := by simp only [State.peek, hin, hreg, hshadow, Bool.false_eq_true, if_false]
  have hwatch : a ≠ Reg.WATCH_STAT := by
    rintro rfl
    exact absurd hnone (by decide)
  have hpair : pairWord a = none := by simp only [pairWord, hshadow, Option.getD_none, hreg]
  have htime : a ≠ Reg.TIME_NOW := by
    rintro rfl
    exact absurd hnone (by decide)
  simp [State.readReg, hnone, hwatch, hlatch, hpair, htime, hpeek]

/-- The number of a list of little-endian bytes. -/
theorem leNat_leBytes (n x : Nat) : leNat (leBytes n x) = x % 256 ^ n := by
  induction n generalizing x with
  | zero => exact (Nat.mod_one x).symm
  | succ n ih => rw [leBytes, leNat, ih, BitVec.toNat_ofNat, pow_succ' 256 n, Nat.mod_mul (a := 256)]

theorem State.readHold_writeHold (s : State) (a : Nat) (bs : List Byte) : (s.writeHold a bs).readHold a bs.length = bs := by
  unfold State.readHold
  refine List.ext_getElem (by rw [List.length_map, List.length_range]) fun i hi hlen => ?_
  rw [List.getElem_map, List.getElem_range, State.holdByte_writeHold, if_pos ⟨by omega, by omega⟩,
    Nat.add_sub_cancel_left, List.getD_eq_getElem _ _ hlen]

/-- A word written to Hold reads as it was written. -/
theorem State.holdNat_writeHold (s : State) (a : Nat) (w : Word) : (s.writeHold a (leBytes 4 w.toNat)).holdNat a 4 = w.toNat := by
  have h := s.readHold_writeHold a (leBytes 4 w.toNat)
  rw [leBytes_length] at h
  rw [State.holdNat, h, leNat_leBytes]
  exact Nat.mod_eq_of_lt w.isLt

theorem State.holdByte_writeHold_beside (s : State) {a b : Nat} (w : Word) (hb : b < a ∨ a + 4 ≤ b) :
    (s.writeHold a (leBytes 4 w.toNat)).holdByte b = s.holdByte b := by
  rw [State.holdByte_writeHold, leBytes_length, if_neg (by omega)]

end Sys2Proof.Machine
end

section
/-! ### Words of the Pier's queues (R413 to R418) -/

namespace Sys2Proof.Machine

variable {s : State} {k dt n m : Nat}

/-- Words that leave without an error are sent as they stand. -/
theorem State.readWords_good (s : State) (ws : List OutWord) : s.readWords ws [] = (ws.map fun w => wireWord w 0 w.data, s) := by
  induction ws with
  | nil => rfl
  | cons w ws ih =>
    have hcons : s.readWords (w :: ws) [] = (wireWord w 0 w.data :: (s.readWords ws []).1, (s.readWords ws []).2) := rfl
    rw [hcons, ih, List.map_cons]

/-- The words that a read of n words with m clocked out takes of a queue at which nothing waits. -/
theorem State.qread_spec (s : State) (k : Nat) {n m : Nat} {es : List Nat} {x : OutQ} {ws : List Nat} {u : State} (hx : s.outQ k = x)
    (hfeed : x.feed = []) (hwait : x.waiting = []) (hread : s.readWords (x.words.take (min (min n m) x.words.length)) es = (ws, u)) :
    ∃ v, s.qread k n m es = v ∧ (v.outQ k).words = x.words.drop (min (min n m) x.words.length)
      ∧ PierSide k (u.emit (.answer .pier 0 (ws ++ List.replicate (min n m - min (min n m) x.words.length) 0))) v := by
  refine ⟨_, rfl, ?_⟩
  unfold State.qread
  dsimp only
  rw [hx, hread]
  obtain ⟨hside, hq⟩ := State.refill_spec (u.emit (.answer .pier 0 (ws ++ List.replicate (min n m - min (min n m) x.words.length) 0))) k
    (x := { x with
      words := x.words.drop (min (min n m) x.words.length)
      reading := match (x.words.take (min (min n m) x.words.length)).getLast? with
        | some w => !w.eop
        | none => x.reading
      timer := if min (min n m) x.words.length = 0 then x.timer else some u.clk }) hfeed hwait
  exact ⟨congrArg OutQ.words hq, hside⟩

/-! #### Inbound words -/

/-- A word that is no SOP ends the packet of an open queue. -/
theorem State.inWord_end {i : Nat} {p : QWord} {x : InQ} {d : Nat} (hx : s.inQ i = x) (hopen : x.open_ = true) (hgood : x.bad = false)
    (hvalid : p.valid = true) (hsop : p.sop = false) (heop : p.eop = true) (hfix : secdedFix p.data.toNat p.check = (d, 0))
    (hlen : x.length ≤ x.bytes.length + 4) :
    s.inWord i p = (s.setInQ i {}).inboundPacket i x.ptype ((x.bytes ++ beBytes 4 d).take x.length) := by
  unfold State.inWord
  dsimp only
  rw [hfix]
  simp [hx, hvalid, hsop, heop, hopen, hgood, hlen.not_gt]

/-- A packet of one word that is not correctable. -/
theorem State.inWord_uncorrectable (i : Nat) {p : QWord} (hvalid : p.valid = true) (hsop : p.sop = true) (heop : p.eop = true)
    (hfix : (secdedFix p.data.toNat p.check).2 = 2) :
    s.inWord i p = ((s.bump Reg.PIER_ECC_UNCORR).setFld Reg.PIER_IRQ_STAT 20 20 1).setInQ i {} := by
  unfold State.inWord
  dsimp only
  simp [hvalid, hsop, heop, hfix]

/-- A packet whose first word names more than 9,216 bytes. -/
theorem State.inWord_overlong (i : Nat) {p : QWord} {d : Nat} (hvalid : p.valid = true) (hsop : p.sop = true) (heop : p.eop = false)
    (hfix : secdedFix p.data.toNat p.check = (d, 0)) (hlong : 9216 < bits d 15 0) :
    s.inWord i p = ((s.bump Reg.PIER_IQ_OVERRUN).setFld Reg.PIER_IRQ_STAT 21 21 1).setInQ i
      { open_ := true, bad := true, ptype := bits d 31 24, length := bits d 15 0 } := by
  unfold State.inWord
  dsimp only
  rw [hfix]
  simp [hvalid, hsop, heop, hlong]

/-- A word with one bit corrected, in the middle of a packet. -/
theorem State.inWord_corrected (i : Nat) {p : QWord} (hvalid : p.valid = true) (hsop : p.sop = false) (heop : p.eop = false)
    (hfix : (secdedFix p.data.toNat p.check).2 = 1) :
    ∃ pier, s.inWord i p = { s.bump Reg.PIER_ECC_CORR with pier := pier } := by
  unfold State.inWord
  dsimp only
  simp only [hvalid, hsop, heop, hfix, Bool.not_true, Bool.not_false, Bool.false_eq_true, if_false, if_true, Bool.false_and]
  split_ifs <;> exact ⟨_, rfl⟩

/-! #### QMP packets of the Pier -/

theorem messageBad_ping (session seq : Nat) : messageBad (qmpBytes 0 3 session seq 0 0 0 []) = false := by
  simp [messageBad, oct, qmpBytes, beBytes, leBytes, beNat, bit, bodyFits]

theorem messageBad_flags (session seq : Nat) : messageBad (qmpBytes 8 3 session seq 0 0 0 []) = true := by
  simp [messageBad, oct, qmpBytes, beBytes, leBytes, beNat]

theorem oct_ping {flags : Nat} (hflags : flags < 256) (session seq : Nat) :
    oct (qmpBytes flags 3 session seq 0 0 0 []) 3 1 = flags ∧ oct (qmpBytes flags 3 session seq 0 0 0 []) 4 2 = 3
      ∧ oct (qmpBytes flags 3 session seq 0 0 0 []) 20 4 = 0 := by
  simp [oct, qmpBytes, beBytes, leBytes, beNat, Nat.mod_eq_of_lt hflags]

theorem oct_seq (flags type session : Nat) {seq : Nat} (hseq : seq < 2 ^ 32) (origin target status : Nat) (body : List Byte) :
    oct (qmpBytes flags type session seq origin target status body) 12 4 = seq := by
  simp [oct, qmpBytes, beBytes, leBytes, beNat]
  omega

/-- A message of 32 bytes is its first 28 and a word of zeros. -/
theorem qmpBytes_take (flags type session seq origin target status : Nat) :
    (qmpBytes flags type session seq origin target status []).take 28 ++ beBytes 4 0
      = qmpBytes flags type session seq origin target status [] := by
  simp [qmpBytes, beBytes, leBytes]

/-- A PING for the device itself is sent on. -/
theorem State.qmpPierArrive_ping (s : State) (i session seq : Nat) :
    s.qmpPierArrive i (qmpBytes 0 3 session seq 0 0 0 [])
      = s.send "QMP_PIER" i ((qmpBytes 0 3 session seq 0 0 0 []).map (·.toNat)) := by
  obtain ⟨hflags, htype, htarget⟩ := oct_ping (flags := 0) (by decide) session seq
  have hlen : ¬ (qmpBytes 0 3 session seq 0 0 0 []).length < 32 := by rw [qmpBytes_length]; exact lt_irrefl 32
  unfold State.qmpPierArrive
  dsimp only
  rw [hflags, htype, htarget, messageBad_ping]
  simp [hlen, bit, requestType, sessionType]

/-- A PING with a reserved flag is answered MALFORMED. -/
theorem State.qmpPierArrive_malformed (s : State) (i session : Nat) {seq : Nat} (hseq : seq < 2 ^ 32) :
    s.qmpPierArrive i (qmpBytes 8 3 session seq 0 0 0 []) = s.pierPush 7 3 0 (qmpBytes 1 3 0 seq s.nodeId 0 6 []) := by
  obtain ⟨hflags, htype, -⟩ := oct_ping (flags := 8) (by decide) session seq
  have hlen : ¬ ((qmpBytes 8 3 session seq 0 0 0 []).length < 32 ∨ bit 8 0 = true) := by
    rw [qmpBytes_length]
    decide
  unfold State.qmpPierArrive
  dsimp only
  rw [hflags, htype, messageBad_flags, if_neg hlen, if_pos rfl, oct_seq 8 3 session hseq]
  rfl

/-- A packet of the Pier that holds the whole of a message of 32 bytes but its last word. -/
def almostWhole (flags session seq : Nat) : InQ :=
  { open_ := true, ptype := 3, length := 32, bytes := (qmpBytes flags 3 session seq 0 0 0 []).take 28 }

/-- The last word of a message of 32 bytes. -/
def lastWord : QWord := ⟨true, false, true, 0#32, secded 0⟩

theorem State.inWord_qmp {i flags session seq : Nat} (hi : i < 2) (hx : s.inQ i = almostWhole flags session seq) :
    s.inWord i lastWord = (s.setInQ i {}).qmpPierArrive i (qmpBytes flags 3 session seq 0 0 0 []) := by
  obtain ⟨x, hopen⟩ : ∃ x, almostWhole flags session seq = x := ⟨_, rfl⟩
  have hwhole : x.bytes ++ beBytes 4 0 = qmpBytes flags 3 session seq 0 0 0 [] := by
    rw [← hopen]
    exact qmpBytes_take ..
  have hlen : (x.bytes ++ beBytes 4 0).length = 32 := by
    rw [hwhole]
    exact qmpBytes_length ..
  have hx32 : x.length = 32 := by rw [← hopen]; rfl
  have hbytes : x.length ≤ x.bytes.length + 4 := by
    rw [List.length_append, beBytes_length] at hlen
    rw [hx32, hlen]
  have hfix : secdedFix lastWord.data.toNat lastWord.check = (0, 0) := secdedFix_secded 0
  have hend := State.inWord_end (s := s) (p := lastWord) (hx.trans hopen) (by rw [← hopen]; rfl) (by rw [← hopen]; rfl) rfl rfl rfl hfix hbytes
  rw [List.take_of_length_le (by rw [hx32, hlen]), hwhole, show x.ptype = 3 by rw [← hopen]; rfl] at hend
  rw [hend, State.inboundPacket, if_pos hi, if_pos rfl]

end Sys2Proof.Machine
end


section
/-! ### The Pier's commands and queues (R408 to R418) -/

namespace Sys2Proof.Machine

variable {s : State} {dt addr n m v code : Nat} {w : Word} {k i : Nat} {x : OutQ} {o : OutWord}

/-! #### READ and WRITE -/

theorem State.localRun_read (s : State) (a : Nat) :
    ∃ u, s.localRun (pierReadTxn a 1) = u ∧ u.out = .answer .pier (if assigned a then 0 else 4) [(s.readReg .pier a).1] :: s.out
      ∧ (∀ b, ¬ readChanges a b → u.rd b = s.rd b) ∧ SameHold s u := by
  obtain ⟨time, latch, fresh, hside⟩ := s.readReg_regSide .pier a
  refine ⟨_, s.localRun_readOne a, ?_⟩
  obtain ⟨v, hv⟩ : ∃ v, s.readReg .pier a = v := ⟨_, rfl⟩
  rw [hv] at hside ⊢
  exact ⟨congrArg _ hside.out, fun b hb => hside.rd hb, hside.sameHold⟩

theorem State.localRun_write_unassigned (s : State) {a : Nat} (w : Word) (hnone : assigned a = false) :
    ∃ u, s.localRun (pierWriteTxn a [w]) = u ∧ u.pier.lastResult = 4
      ∧ u.pair Reg.SYS_ACC_ERR = min (s.pair Reg.SYS_ACC_ERR + 1) (2 ^ 64 - 1)
      ∧ RegsBut [Reg.SYS_ACC_ERR, Reg.SYS_ACC_ERR + 4, Reg.SYS_ACC_ERR_ADDR, Reg.SYS_ACC_ERR_INFO] s u ∧ SameHold s u := by
  have hdenied := s.writeDenied_unassigned hnone
  refine ⟨_, State.localRun_writeOne .., ?_⟩
  rw [hdenied, if_pos rfl, State.writeReg_denied _ _ hdenied]
  have hpair := s.pair_accErr .pier a true false
  have hregs := s.regsBut_accErr .pier a true false
  have hhold := s.sameHold_accErr .pier a true false
  obtain ⟨u, hu⟩ : ∃ u, s.accErr .pier a true false = u := ⟨_, rfl⟩
  rw [hu] at hpair hregs hhold ⊢
  exact ⟨rfl, hpair, hregs, hhold⟩

theorem State.localRun_write_staging (s : State) {a : Nat} (w : Word) (hin : inHold a = true) (halign : a % 4 = 0) (hstage : s.stageBase ≤ a) :
    ∃ u, s.localRun (pierWriteTxn a [w]) = u ∧ u.holdNat a 4 = w.toNat
      ∧ (∀ b, b < a ∨ a + 4 ≤ b → u.holdByte b = s.holdByte b) ∧ u.pier.lastResult = 0 ∧ SameRegs s u := by
  have hdenied : s.writeDenied a = false := by simp [State.writeDenied, assigned, hin, halign, hstage]
  refine ⟨_, State.localRun_writeOne .., ?_⟩
  rw [hdenied, if_neg (by decide), s.writeReg_staging .pier w hin halign hstage]
  have hword := s.holdNat_writeHold a w
  have hbyte := fun b => s.holdByte_writeHold_beside (a := a) (b := b) w
  have hregs : (s.writeHold a (leBytes 4 w.toNat)).regs = s.regs := rfl
  obtain ⟨u, hu⟩ : ∃ u, s.writeHold a (leBytes 4 w.toNat) = u := ⟨_, rfl⟩
  rw [hu] at hword hbyte hregs ⊢
  exact ⟨hword, hbyte, rfl, sameRegs_of_regs hregs⟩

/-! #### Queues -/

/-- The number of a queue keeps its status register away from the counters. -/
theorem oqStat_beside (k : Fin 8) {a : Nat} (ha : a < 0x110010 ∨ 0x110030 ≤ a) : a ≠ Reg.PIER_OQ_STAT k := by
  simp only [Reg.PIER_OQ_STAT]
  omega

/-- What a command leaves that takes words of queue k and counts in the pair at a. -/
theorem PierSide.bumped {k : Fin 8} {a : Nat} {s b u : State} (h : PierSide k b u) (hregs : b.regs = (s.bump a).regs) (hhold : b.hold = s.hold)
    (ha : 0x110030 ≤ a) :
    u.pair a = min (s.pair a + 1) (2 ^ 64 - 1) ∧ RegsBut [a, a + 4, Reg.PIER_OQ_STAT k, Reg.PIER_IRQ_STAT] s u ∧ SameHold s u := by
  have hrd : ∀ c, b.rd c = (s.bump a).rd c := sameRegs_of_regs hregs
  have hpair : b.pair a = (s.bump a).pair a := State.pair_congr (hrd _) (hrd _)
  refine ⟨(h.pair fun c hc => ⟨oqStat_beside k (by omega), ?_⟩).trans (hpair.trans (s.pair_bump a)), fun c hc => ?_,
    sameHold_of_hold (h.hold.trans hhold)⟩
  · simp only [Reg.PIER_IRQ_STAT]
    omega
  · simp only [List.mem_cons, List.not_mem_nil, or_false, not_or] at hc
    obtain ⟨hlow, hhigh, hstat, hirq⟩ := hc
    exact (h.rd c hstat hirq).trans ((hrd c).trans (State.rd_bump_ne _ hlow hhigh))

theorem State.qread_words (k : Fin 8) (hx : s.outQ k = x) (hfeed : x.feed = []) (hwait : x.waiting = []) (hmn : m ≤ n) (hm : m < x.words.length) :
    ∃ u, s.qread k n m [] = u ∧ u.out = .answer .pier 0 ((x.words.take m).map fun u => wireWord u 0 u.data) :: s.out
      ∧ (u.outQ k).words = x.words.drop m ∧ RegsBut [Reg.PIER_OQ_STAT k, Reg.PIER_IRQ_STAT] s u ∧ SameHold s u := by
  have hn : min (min n m) x.words.length = m := by omega
  obtain ⟨u, hu, hwords, hside⟩ := State.qread_spec (n := n) (m := m) s k hx hfeed hwait (s.readWords_good _)
  rw [hn, Nat.min_eq_right hmn, Nat.sub_self, List.replicate_zero, List.append_nil] at hside
  rw [hn] at hwords
  exact ⟨u, hu, hside.out, hwords, hside.regsBut (by simp) (by simp), hside.sameHold⟩

theorem State.qread_none (k : Fin 8) (hx : s.outQ k = {}) :
    ∃ u, s.qread k n m [] = u ∧ u.out = .answer .pier 0 (List.replicate (min n m) 0) :: s.out
      ∧ (u.outQ k).words = [] ∧ RegsBut [Reg.PIER_OQ_STAT k, Reg.PIER_IRQ_STAT] s u ∧ SameHold s u := by
  have hn : min (min n m) ({} : OutQ).words.length = 0 := Nat.min_zero _
  obtain ⟨u, hu, hwords, hside⟩ := State.qread_spec (n := n) (m := m) s k hx rfl rfl (s.readWords_good _)
  rw [hn] at hwords hside
  exact ⟨u, hu, hside.out, hwords, hside.regsBut (by simp) (by simp), hside.sameHold⟩

/-- The one word of a queue, taken with an error that is counted in the pair at a. -/
theorem State.qread_counted (k : Fin 8) {e a v : Nat} {b : State} (hx : s.outQ k = x) (hfeed : x.feed = []) (hwait : x.waiting = []) (hwords : x.words = [o])
    (hread : s.readWord o e = (v, b)) (hregs : b.regs = (s.bump a).regs) (hhold : b.hold = s.hold) (hout : b.out = s.out) (ha : 0x110030 ≤ a) :
    ∃ u, s.qread k 1 1 [e] = u ∧ u.out = .answer .pier 0 [v] :: s.out ∧ (u.outQ k).words = []
      ∧ u.pair a = min (s.pair a + 1) (2 ^ 64 - 1) ∧ RegsBut [a, a + 4, Reg.PIER_OQ_STAT k, Reg.PIER_IRQ_STAT] s u ∧ SameHold s u := by
  have htake : min (min 1 1) x.words.length = 1 := by rw [hwords]; rfl
  have hone : s.readWords (x.words.take (min (min 1 1) x.words.length)) [e] = ([v], b) := by
    rw [htake, hwords]
    show ([(s.readWord o e).1], (s.readWord o e).2) = _
    rw [hread]
  obtain ⟨u, hu, hleft, hside⟩ := State.qread_spec (n := 1) (m := 1) s k hx hfeed hwait hone
  rw [htake, hwords] at hleft
  rw [htake] at hside
  exact ⟨u, hu, hside.out.trans (congrArg (List.cons _) hout), hleft, hside.bumped hregs hhold ha⟩

/-- A packet partly read is discarded. -/
theorem State.drop_spec (k : Fin 8) (hwait : x.waiting = []) :
    ∃ u, ((s.bump Reg.PIER_OQ_DROP).setOutQ k { x with words := dropPacket x.words, feed := [], reading := false }).fillOutQ k = u
      ∧ (u.outQ k).words = dropPacket x.words ∧ (u.outQ k).feed = [] ∧ (u.outQ k).reading = false
      ∧ u.pair Reg.PIER_OQ_DROP = min (s.pair Reg.PIER_OQ_DROP + 1) (2 ^ 64 - 1)
      ∧ RegsBut [Reg.PIER_OQ_DROP, Reg.PIER_OQ_DROP + 4, Reg.PIER_OQ_STAT k, Reg.PIER_IRQ_STAT] s u ∧ SameHold s u := by
  obtain ⟨hside, hq⟩ := State.refill_spec (s.bump Reg.PIER_OQ_DROP) k (x := { x with words := dropPacket x.words, feed := [], reading := false })
    rfl hwait
  refine ⟨_, rfl, ?_⟩
  rw [hq]
  exact ⟨rfl, rfl, rfl, hside.bumped rfl rfl (by decide)⟩

/-- A queue's own flag is the only one that follows it. -/
theorem State.irqBit_setOutQ (s : State) (k : Fin 8) (x : OutQ) {j : Nat} (hj : 8 ≤ j) :
    bit ((s.setOutQ k x).rn Reg.PIER_IRQ_STAT) j = bit (s.rn Reg.PIER_IRQ_STAT) j := by
  unfold State.setOutQ
  dsimp only
  rw [State.bit_setFld_beside _ le_rfl (by omega) (by omega), State.rn_wn_ne _ _ (oqStat_beside k (.inl (by decide)))]
  rfl

/-- A queue whose words have waited too long. -/
theorem State.stale_spec (k : Fin 8) (hwords : x.words ≠ []) (c : Nat) :
    ∃ u, ((s.bump Reg.PIER_STALE).setFld Reg.PIER_IRQ_STAT (8 + k) (8 + k) 1).setOutQ k { x with timer := some c } = u
      ∧ u.outQ k = { x with timer := some c } ∧ bit (u.rn Reg.PIER_IRQ_STAT) (8 + k) = true
      ∧ u.pair Reg.PIER_STALE = min (s.pair Reg.PIER_STALE + 1) (2 ^ 64 - 1)
      ∧ RegsBut [Reg.PIER_STALE, Reg.PIER_STALE + 4, Reg.PIER_IRQ_STAT, Reg.PIER_OQ_STAT k] s u ∧ SameHold s u := by
  obtain ⟨b, hb⟩ : ∃ b, (s.bump Reg.PIER_STALE).setFld Reg.PIER_IRQ_STAT (8 + k) (8 + k) 1 = b := ⟨_, rfl⟩
  have hflag : bit (b.rn Reg.PIER_IRQ_STAT) (8 + k) = true := by
    rw [← hb, State.bit_setFld_same _ (by omega)]
    rfl
  have hirq : RegSide (fun a => a = Reg.PIER_IRQ_STAT) (s.bump Reg.PIER_STALE) b := by
    rw [← hb]
    exact (RegSide.refl _ _).setFld _ _ _ rfl
  have hside := b.setOutQ_pierSide k { x with timer := some c }
  have hq := b.outQ_setOutQ k { x with timer := some c }
  rw [hb]
  refine ⟨_, rfl, ?_, ?_, ?_, fun c hc => ?_, sameHold_of_hold (hside.hold.trans hirq.hold)⟩
  · rw [hq]
    simp [hwords]
  · rw [b.irqBit_setOutQ k _ (by omega), hflag]
  · refine (hside.pair fun c hc => ⟨oqStat_beside k ?_, ?_⟩).trans ((State.pair_congr (hirq.rd (by decide)) (hirq.rd (by decide))).trans (s.pair_bump _))
    · simp only [Reg.PIER_STALE] at hc
      omega
    · simp only [Reg.PIER_STALE] at hc
      simp only [Reg.PIER_IRQ_STAT]
      omega
  · simp only [List.mem_cons, List.not_mem_nil, or_false, not_or] at hc
    obtain ⟨hlow, hhigh, hflags, hstat⟩ := hc
    exact (hside.rd c hstat hflags).trans ((hirq.rd hflags).trans (State.rd_bump_ne _ hlow hhigh))

/-! #### Inbound words -/

theorem State.overlong_spec (i : Nat) (q : InQ) {j a : Nat} (hj : j < 32) (ha : Reg.PIER_IRQ_STAT < a) :
    ∃ u, ((s.bump a).setFld Reg.PIER_IRQ_STAT j j 1).setInQ i q = u ∧ u.out = s.out ∧ u.inQ i = q ∧ bit (u.rn Reg.PIER_IRQ_STAT) j = true
      ∧ u.pair a = min (s.pair a + 1) (2 ^ 64 - 1) ∧ RegsBut [a, a + 4, Reg.PIER_IRQ_STAT] s u ∧ SameHold s u := by
  have hregs := (((RegsBut.refl [a, a + 4, Reg.PIER_IRQ_STAT] s).bump (a := a) (by simp) (by simp)).setFld (a := Reg.PIER_IRQ_STAT) (by simp) j j 1)
  have hbit := State.bit_setFld_same (s.bump a) (a := Reg.PIER_IRQ_STAT) (v := 1) hj
  have hpair : ((s.bump a).setFld Reg.PIER_IRQ_STAT j j 1).pair a = min (s.pair a + 1) (2 ^ 64 - 1) := by
    refine (State.pair_congr ?_ ?_).trans (s.pair_bump a)
    · exact State.rd_wr_ne _ _ (by omega)
    · exact State.rd_wr_ne _ _ (by omega)
  exact ⟨_, rfl, rfl, tabGetD_tabSet_self .., hbit, hpair, hregs, fun _ => rfl⟩

theorem State.pierPush_inq (k ptype src : Nat) (bs : List Byte) (hempty : s.outQ k = {}) : (s.pierPush k ptype src bs).pier.inq = s.pier.inq := by
  rw [State.pierPush_eq ptype src bs hempty]
  split
  · rfl
  · rfl

/-- The whole PING of a host is sent on, and its queue waits for the next packet. -/
theorem State.inWord_ping (hi : i < 2) (hx : s.inQ i = almostWhole 0 n m) :
    ∃ u, s.inWord i lastWord = u ∧ u.out = .message "QMP_PIER" i ((qmpBytes 0 3 n m 0 0 0 []).map (·.toNat)) :: s.out
      ∧ u.inQ i = {} ∧ SameRegs s u ∧ SameHold s u := by
  refine ⟨_, (State.inWord_qmp hi hx).trans (State.qmpPierArrive_ping ..), rfl, tabGetD_tabSet_self .., fun _ => rfl, fun _ => rfl⟩

/-- The whole malformed message is answered at queue 7. -/
theorem State.inWord_malformed (hon : bit (s.rn Reg.PIER_CFG) 0 = true) (hi : i < 2) (hempty : s.outQ 7 = {})
    (hx : s.inQ i = almostWhole 8 n m) (hm : m < 2 ^ 32) :
    ∃ u, s.inWord i lastWord = u ∧ (u.outQ 7).words = outPacket 3 0 (qmpBytes 1 3 0 m s.nodeId 0 6 []) ∧ u.inQ i = {}
      ∧ RegsBut [Reg.PIER_OQ_STAT 7, Reg.PIER_IRQ_STAT] s u ∧ SameHold s u := by
  obtain ⟨bs, hbs⟩ : ∃ bs, qmpBytes 1 3 0 m s.nodeId 0 6 [] = bs := ⟨_, rfl⟩
  have hlen : (outPacket 3 0 bs).length ≤ 512 := by
    rw [outPacket_length, ← hbs, qmpBytes_length]
    decide
  have hempty' : (s.setInQ i {}).outQ 7 = {} := hempty
  have hside := State.pierPush_pierSide 3 0 bs hempty'
  have hinq : (((s.setInQ i {}).pierPush 7 3 0 bs).inQ i) = {} := by
    rw [State.inQ, State.pierPush_inq 7 3 0 bs hempty']
    exact tabGetD_tabSet_self ..
  refine ⟨_, (State.inWord_qmp hi hx).trans (State.qmpPierArrive_malformed _ i n hm), ?_⟩
  rw [show (s.setInQ i {}).nodeId = s.nodeId from rfl, hbs]
  exact ⟨State.pierPush_empty 3 0 hon hempty' hlen, hinq, hside.regsBut (by simp) (by simp), sameHold_of_hold hside.hold⟩

section
variable {u : State} {P : State → Prop} (hcore : s.watch.core = true) (hserv : s.serviceMode = false) (hon : bit (s.rn Reg.PIER_CFG) 0 = true)
include hcore hserv hon

theorem completes_pierReadOne (halign : addr % 4 = 0) (hfree : (s.advance dt).localBlocked .pier = false) (hwait : s.ferry.localWait = [])
    (hu : (s.advance dt).localRun (pierReadTxn addr 1) = u) (hp : P (acted dt s fun _ => u)) : Completes (.pierRead dt addr 1 false) s P := by
  refine completes_pier rfl hcore hserv hon ?_ hp
  rw [if_neg (by decide), if_neg (by omega)]
  exact (State.localSubmit_free (s := s.advance dt) (x := pierReadTxn addr 1) hfree hwait).trans hu

theorem completes_pierWriteOne (halign : addr % 4 = 0) (hfree : (s.advance dt).localBlocked .pier = false) (hwait : s.ferry.localWait = [])
    (hu : (s.advance dt).localRun (pierWriteTxn addr [w]) = u) (hp : P (acted dt s fun _ => u)) : Completes (.pierWrite dt addr [w]) s P := by
  refine completes_pier rfl hcore hserv hon ?_ hp
  rw [if_neg (by simp [halign])]
  exact (State.localSubmit_free (s := s.advance dt) (x := pierWriteTxn addr [w]) hfree hwait).trans hu

theorem completes_pierQwriteOne {i : Fin 4} {p : QWord} (hu : (s.advance dt).inWord i p = u) (hp : P (acted dt s fun _ => u)) :
    Completes (.pierQwrite dt i [p]) s P := by
  refine completes_pier rfl hcore hserv hon ?_ hp
  rw [List.foldl_cons, List.foldl_nil]
  exact hu

end

/-- Settles O53: each command of an enabled Pier comes to its reading of the port, of a queue or of a word. -/
theorem pierCommands : Obligations.PierCommands := by
  unfold Obligations.PierCommands
  intro dt addr n m v code w d k i x o p r s hcore hserv hon
  refine ⟨?_, ?_, ?_, ?_, ?_, ?_, ?_, ?_, ?_, ?_, ?_, ?_, ?_, ?_, ?_, ?_, ?_, ?_, ?_, ?_, ?_, ?_, ?_⟩
  · intro halign ha hfree hwait hv
    obtain ⟨u, hu, hout, hrd, hhold⟩ := (s.advance dt).localRun_read addr
    rw [ha, hv] at hout
    refine completes_pierReadOne hcore hserv hon halign hfree hwait hu ⟨hout, fun b hb => hrd b fun hc => hb ?_, hhold⟩
    rw [hc.1]
    exact List.mem_singleton_self addr
  · intro halign ha hfree hwait hlatch
    obtain ⟨u, hu, hout, hrd, hhold⟩ := (s.advance dt).localRun_read addr
    rw [ha, State.readReg_unassigned (s := s.advance dt) halign ha hlatch] at hout
    exact completes_pierReadOne hcore hserv hon halign hfree hwait hu ⟨hout, fun b => hrd b (readChanges_unassigned halign ha b), hhold⟩
  · intro halign hlo hhi
    refine completes_pierAnswer rfl hcore hserv hon ?_
    rw [if_neg (by decide), if_pos (.inl halign), Nat.min_eq_left hhi]
    rfl
  · exact completes_pierAnswer rfl hcore hserv hon (if_pos rfl)
  · intro halign hblocked
    refine completes_pier rfl hcore hserv hon (u := (s.advance dt).localQueue (pierReadTxn addr 1)) ?_ ⟨rfl, ?_, fun _ => rfl, fun _ => rfl⟩
    · rw [if_neg (by decide), if_neg (by omega)]
      exact State.localSubmit_blocked hblocked
    · exact List.length_append
  · intro hin halign hstage hfree hwait
    obtain ⟨u, hu, hword, hbyte, hres, hregs⟩ := (s.advance dt).localRun_write_staging w hin halign hstage
    exact completes_pierWriteOne hcore hserv hon halign hfree hwait hu ⟨hword, hbyte n, hres, hregs⟩
  · intro ha halign hfree hwait
    obtain ⟨u, hu, hres, hpair, hregs, hhold⟩ := (s.advance dt).localRun_write_unassigned w ha
    exact completes_pierWriteOne hcore hserv hon halign hfree hwait hu ⟨hres, hpair, hregs, hhold⟩
  · intro halign
    exact completes_pier rfl hcore hserv hon (if_pos (.inl halign)) ⟨rfl, fun _ => rfl, fun _ => rfl⟩
  · intro hx hfeed hwait hlo hhi hmn hm
    obtain ⟨u, hu, hp⟩ := State.qread_words (s := s.advance dt) k hx hfeed hwait hmn hm
    exact completes_pier rfl hcore hserv hon ((if_neg (by omega)).trans hu) hp
  · intro hx hfeed hwait hwords
    obtain ⟨u, hu, hp⟩ := State.qread_counted (s := s.advance dt) k (e := 1) (a := Reg.PIER_ECC_CORR) hx hfeed hwait hwords rfl rfl rfl rfl (by decide)
    exact completes_pier rfl hcore hserv hon hu hp
  · intro hx hfeed hwait hwords
    obtain ⟨u, hu, -, hp⟩ := State.qread_counted (s := s.advance dt) k (e := 2) (a := Reg.PIER_ECC_UNCORR) hx hfeed hwait hwords rfl rfl rfl rfl (by decide)
    exact completes_pier rfl hcore hserv hon hu hp
  · intro hx hlo hhi hm
    obtain ⟨u, hu, hp⟩ := State.qread_none (s := s.advance dt) (n := n) (m := m) k hx
    exact completes_pier rfl hcore hserv hon ((if_neg (by omega)).trans hu) hp
  · rintro hi hx (rfl : r = lastWord)
    obtain ⟨u, hu, hp⟩ := State.inWord_ping (s := s.advance dt) hi hx
    exact completes_pierQwriteOne hcore hserv hon hu hp
  · rintro hi hempty hx (rfl : r = lastWord) hm
    obtain ⟨u, hu, hp⟩ := State.inWord_malformed (s := s.advance dt) hon hi hempty hx hm
    exact completes_pierQwriteOne hcore hserv hon hu hp
  · intro hvalid hsop heop hfix
    obtain ⟨u, hu, hout, hq, hflag, hp⟩ := (s.advance dt).overlong_spec i {} (j := 20) (a := Reg.PIER_ECC_UNCORR) (by decide) (by decide)
    exact completes_pierQwriteOne hcore hserv hon ((State.inWord_uncorrectable i hvalid hsop heop hfix).trans hu) ⟨hout, hq, hflag, hp⟩
  · intro hp hlong
    obtain ⟨hvalid, hsop, heop, hfix⟩ : p.valid = true ∧ p.sop = true ∧ p.eop = false ∧ secdedFix p.data.toNat p.check = (w.toNat, 0) := by
      rw [hp]
      exact ⟨rfl, rfl, rfl, secdedFix_secded _⟩
    obtain ⟨u, hu, hout, hq, hflag, hp⟩ := (s.advance dt).overlong_spec i
      { open_ := true, bad := true, ptype := bits w.toNat 31 24, length := bits w.toNat 15 0 } (j := 21) (a := Reg.PIER_IQ_OVERRUN) (by decide) (by decide)
    exact completes_pierQwriteOne hcore hserv hon ((State.inWord_overlong i hvalid hsop heop hfix hlong).trans hu)
      ⟨hout, congrArg InQ.bad hq, hflag, hp⟩
  · intro hvalid hsop heop hfix
    obtain ⟨pier, hu⟩ := State.inWord_corrected (s := s.advance dt) i hvalid hsop heop hfix
    exact completes_pierQwriteOne hcore hserv hon hu ⟨rfl, (s.advance dt).pair_bump _, (RegsBut.refl _ _).bump (by simp) (by simp), fun _ => rfl⟩
  · intro hx hreading hwait
    obtain ⟨u, hu, hp⟩ := State.drop_spec (s := s.advance dt) k hwait
    refine completes_pier rfl hcore hserv hon ?_ hp
    dsimp only
    rw [show (s.advance dt).outQ k = x from hx, if_pos hreading]
    exact hu
  · intro hreading
    refine completes_pier rfl hcore hserv hon (u := s.advance dt) ?_ ⟨rfl, fun _ => rfl, fun _ => rfl⟩
    exact if_neg (by rw [show (s.advance dt).outQ k = s.outQ k from rfl, hreading]; decide)
  · exact completes_pierAnswer rfl hcore hserv hon rfl
  · intro hcode
    exact completes_pier rfl hcore hserv hon (if_neg (by omega))
      ⟨(s.advance dt).pair_bump _, (RegsBut.refl _ _).bump (by simp) (by simp), fun _ => rfl⟩
  · intro hx hwords htimer hcfg hdue
    obtain ⟨u, hu, hp⟩ := State.stale_spec (s := s.advance dt) k hwords (s.clk + dt)
    refine completes_pier rfl hcore hserv hon ?_ hp
    dsimp only
    rw [show (s.advance dt).outQ k = x from hx, htimer]
    exact (if_pos ⟨hcfg, decide_eq_true hdue⟩).trans hu
  · intro htimer hearly
    refine completes_pier rfl hcore hserv hon (u := s.advance dt) ?_ ⟨rfl, fun _ => rfl, fun _ => rfl⟩
    dsimp only
    rw [show ((s.advance dt).outQ k).timer = some v from htimer]
    have hnot : ¬ (s.advance dt).elapsed v ((s.advance dt).oqStale k) = true := fun h => absurd (of_decide_eq_true h) (Nat.not_le.2 hearly)
    exact if_neg fun h => hnot h.2

end Sys2Proof.Machine
end


section
/-! ### Messages of QMP at the sessions and at the transmit queues (R301, R404 to R406) -/

namespace Sys2Proof.Machine

variable {s t : State} {env : QmpEnv} {x : Session} {id m type : Nat} {body p : List Byte}

/-! #### Sends -/

theorem State.txStart_regs (s : State) (m : Nat) : (s.txStart m).regs = s.regs := by
  unfold State.txStart
  dsimp only
  split
  · rfl
  split
  · split
    · exact State.txStamped_regs ..
    · rfl
  · rfl

/-- A send counts at most a frame dropped at its queue. -/
theorem State.rd_ethSend (s : State) (m q : Nat) (kind : String) (frame : List Byte) {a : Nat} (ha : a ≠ Reg.MAC_TXQ_DROP m q)
    (ha' : a ≠ Reg.MAC_TXQ_DROP m q + 4) : (s.ethSend m q kind frame).rd a = s.rd a := by
  unfold State.ethSend
  dsimp only
  split
  · rfl
  split
  · exact State.rd_bump_ne _ ha ha'
  · exact sameRegs_of_regs ((State.txStart_regs _ m).trans rfl) a

/-- The registers at which QMP messages of a port are counted dropped. -/
@[reducible] def qmpDrop (m a : Nat) : Prop := a = Reg.MAC_TXQ_DROP m 6 ∨ a = Reg.MAC_TXQ_DROP m 6 + 4

theorem State.rd_qmpSend (s : State) (m peer : Nat) (p : List Byte) {a : Nat} (ha : ¬ qmpDrop m a) : (s.qmpSend m peer p).rd a = s.rd a :=
  s.rd_ethSend m 6 "QMP" _ (not_or.1 ha).1 (not_or.1 ha).2

/-- The port's registers stand below those of the Ferry. -/
theorem qmpDrop_ferry {a : Nat} (hm : m < 5) (ha : 0x100000 ≤ a) : ¬ qmpDrop m a := by
  unfold qmpDrop Reg.MAC_TXQ_DROP
  omega

/-- What waits at a port that sends a frame, once a message has joined its empty queue 6. -/
def State.qmpQueued (s : State) (m sport peer : Nat) (p : List Byte) : State :=
  s.setMac m { s.mac m with txq := tabSet (s.mac m).txq 6 [("QMP", s.udpFrame m sport peer true p)] }

theorem State.qmpSend_busy {f : String × List Byte} {peer : Nat} (hon : s.macDisabled m = false) (hsend : (s.mac m).sending = some f)
    (hempty : tabGetD (s.mac m).txq 6 [] = []) :
    s.qmpSend m peer p = s.qmpQueued m (s.fld Reg.FERRY_QMP_CFG 15 0) peer p := by
  have h := State.ethSend_busy (s := s) (q := 6) (kind := "QMP") (f := s.udpFrame m (s.fld Reg.FERRY_QMP_CFG 15 0) peer true p) hon
    (by rw [hempty]; decide) (by rw [hsend]; rfl)
  rw [hempty] at h
  exact h

theorem State.qmpQueued_txq (s : State) (m sport peer : Nat) (p : List Byte) :
    tabGetD ((s.qmpQueued m sport peer p).mac m).txq 6 [] = [("QMP", s.udpFrame m sport peer true p)] := by
  rw [State.qmpQueued, State.mac_setMac_self]
  exact tabGetD_tabSet_self ..

/-! #### Sessions -/

/-- A change of a session that keeps its ID shows at it. -/
theorem State.session?_modSession {f : Session → Session} (hf : ∀ y, (f y).id = y.id) (s : State) (id : Nat) :
    (s.modSession id f).session? id = (s.session? id).map f := by
  unfold State.session? State.modSession
  dsimp only
  induction s.ferry.sessions with
  | nil => rfl
  | cons y ys ih =>
    by_cases hy : y.id = id
    · simp [hy, hf]
    · simp [hy, ih]

theorem State.ids_modSession {f : Session → Session} (hf : ∀ y, (f y).id = y.id) (s : State) (id : Nat) :
    (s.modSession id f).ferry.sessions.map (·.id) = s.ferry.sessions.map (·.id) := by
  unfold State.modSession
  dsimp only
  rw [List.map_map]
  refine List.map_congr_left fun y _ => ?_
  rw [Function.comp_apply]
  split
  · exact hf y
  · rfl

/-! #### Checks of a request (R404 to R406) -/

/-- The port with a request taken from its receive queue. -/
def State.qmpTaken (s : State) (env : QmpEnv) : State := s.setMac env.mac { s.mac env.mac with qmpIn := (s.mac env.mac).qmpIn - 1 }

theorem State.checkQmp_eq (env : QmpEnv) (type : Nat) (body : List Byte) (hserv : s.serviceMode = false) :
    s.checkQmp env type body = match s.session? env.session with
      | none => ((s.qmpTaken env).qmpSend env.mac env.sender (qmpBytes 1 type env.session env.seq s.nodeId 0 1 []), false)
      | some x =>
        if s.authFails (s.venueKey.map fun _ => x.key) env type body then ((s.qmpTaken env).authAnswer env type, false)
        else if seqFresh x env.seq then
          (((s.qmpTaken env).modSession env.session fun x => seqTake x env.seq s.clk).bump Reg.FERRY_QMP_RX, true)
        else if env.seq + 64 < x.top.getD 0 then ((s.qmpTaken env).bump Reg.FERRY_QMP_REPLAY, false)
        else match x.responses.find? (·.1 == env.seq) with
          | some r => (((s.qmpTaken env).modSession env.session fun x => { x with last := s.clk }).qmpSend env.mac env.sender r.2, false)
          | none => ((s.qmpTaken env).bump Reg.FERRY_QMP_REPLAY, false) := by
  have hnot : ¬ ((s.qmpTaken env).serviceMode = true) := by
    rw [show (s.qmpTaken env).serviceMode = s.serviceMode from rfl, hserv]
    decide
  exact if_neg hnot

theorem State.checkQmp_none (hserv : s.serviceMode = false) (hx : s.session? env.session = none) :
    s.checkQmp env type body
      = ((s.qmpTaken env).qmpSend env.mac env.sender (qmpBytes 1 type env.session env.seq s.nodeId 0 1 []), false) := by
  rw [State.checkQmp_eq env type body hserv, hx]

section
variable (hserv : s.serviceMode = false) (hx : s.session? env.session = some x)
  (hauth : s.authFails (s.venueKey.map fun _ => x.key) env type body = false)
include hserv hx hauth

theorem State.checkQmp_fresh (hfresh : seqFresh x env.seq = true) : s.checkQmp env type body
    = (((s.qmpTaken env).modSession env.session fun x => seqTake x env.seq s.clk).bump Reg.FERRY_QMP_RX, true) := by
  rw [State.checkQmp_eq env type body hserv, hx]
  dsimp only
  rw [hauth, hfresh]
  rfl

theorem State.checkQmp_replay (hstale : seqFresh x env.seq = false) (hnone : x.responses.find? (fun r => r.1 == env.seq) = none) :
    s.checkQmp env type body = ((s.qmpTaken env).bump Reg.FERRY_QMP_REPLAY, false) := by
  rw [State.checkQmp_eq env type body hserv, hx]
  dsimp only
  rw [hauth, hstale, hnone]
  exact ite_self _

theorem State.checkQmp_repeat (hstale : seqFresh x env.seq = false) (hwindow : x.top.getD 0 ≤ env.seq + 64)
    (hstored : (x.responses.find? (fun r => r.1 == env.seq)).map (·.2) = some p) :
    s.checkQmp env type body
      = (((s.qmpTaken env).modSession env.session fun x => { x with last := s.clk }).qmpSend env.mac env.sender p, false) := by
  obtain ⟨r, hr, rfl⟩ := Option.map_eq_some_iff.1 hstored
  rw [State.checkQmp_eq env type body hserv, hx]
  dsimp only
  rw [hauth, hstale, hr, if_neg Bool.false_ne_true, if_neg Bool.false_ne_true, if_neg hwindow.not_gt]

end

/-- A session that takes a sequence number keeps its ID. -/
theorem seqTake_id (y : Session) (seq clk : Nat) : (seqTake y seq clk).id = y.id := rfl

theorem State.authAnswer_spec (s : State) (env : QmpEnv) (type : Nat) :
    (s.authAnswer env type).ferry.sessions = s.ferry.sessions
      ∧ (env.mac < 5 → (s.authAnswer env type).pair Reg.FERRY_QMP_AUTH_FAIL = min (s.pair Reg.FERRY_QMP_AUTH_FAIL + 1) (2 ^ 64 - 1)) := by
  unfold State.authAnswer
  dsimp only
  split
  · exact ⟨rfl, fun _ => s.pair_bump _⟩
  · refine ⟨(congrArg FerryState.sessions (State.qmpSend_ferry ..)).trans rfl, fun hm => (State.pair_congr ?_ ?_).trans (s.pair_bump _)⟩
    · exact (State.rd_qmpSend _ _ _ _ (qmpDrop_ferry hm (by decide))).trans rfl
    · exact (State.rd_qmpSend _ _ _ _ (qmpDrop_ferry hm (by decide))).trans rfl

/-- Whatever comes of a request, every session keeps its place. -/
theorem State.checkQmp_ids (s : State) (env : QmpEnv) (type : Nat) (body : List Byte) :
    (s.checkQmp env type body).1.ferry.sessions.map (·.id) = s.ferry.sessions.map (·.id) := by
  cases hserv : s.serviceMode with
  | true =>
    have hin : (s.qmpTaken env).serviceMode = true := hserv
    rw [show s.checkQmp env type body = (s.qmpTaken env, false) from if_pos hin]
    rfl
  | false =>
    rw [State.checkQmp_eq env type body hserv]
    split
    next => rw [State.qmpSend_ferry]; rfl
    next =>
      split_ifs
      · rw [(State.authAnswer_spec ..).1]
        rfl
      · exact (State.ids_modSession (fun y => seqTake_id y env.seq s.clk) (s.qmpTaken env) env.session).trans rfl
      · rfl
      · split
        next =>
          rw [State.qmpSend_ferry]
          exact (State.ids_modSession (f := fun x => { x with last := s.clk }) (fun _ => rfl) (s.qmpTaken env) env.session).trans rfl
        next => rfl

theorem State.admitReq_ids {a : State} (h : s.admitReq (.qmp env) type body = (a, true)) :
    a.ferry.sessions.map (·.id) = s.ferry.sessions.map (·.id) := by
  have ha : (s.checkQmp env type body).1 = a := congrArg Prod.fst h
  rw [← ha, State.checkQmp_ids]

/-- A request of a session that is admitted. -/
theorem State.request_admitted {d : Door} {a : State} {f : State → State} (h : s.admitReq d type body = (a, true)) :
    s.request d type body f = a.asking (doorReq d) f := by
  rw [State.request, h]

theorem State.request_refused {d : Door} {a : State} {f : State → State} (h : s.admitReq d type body = (a, false)) :
    s.request d type body f = a := by
  rw [State.request, h]

/-! #### Responses -/

/-- A session with a response stored. -/
def withResponse (seq : Nat) (p : List Byte) (y : Session) : Session := { y with responses := ((seq, p) :: y.responses).take 16 }

theorem withResponse_id (seq : Nat) (p : List Byte) (y : Session) : (withResponse seq p y).id = y.id := rfl

/-- The state in which a session has a response stored. -/
def State.qmpStored (s : State) (env : QmpEnv) (p : List Byte) : State :=
  s.modSession env.session (withResponse env.seq p)

theorem State.respond_qmp (s : State) (env : QmpEnv) (type : Nat) (body : List Byte) : s.respond (.qmp env) type 0 body
    = (s.qmpStored env (s.qmpTagged env.session 1 type env.seq s.nodeId 0 body)).qmpSend env.mac env.sender
        (s.qmpTagged env.session 1 type env.seq s.nodeId 0 body) := rfl

theorem State.session?_qmpStored (s : State) (env : QmpEnv) (p : List Byte) : (s.qmpStored env p).session? env.session
    = (s.session? env.session).map (withResponse env.seq p) :=
  State.session?_modSession (withResponse_id env.seq p) s env.session

theorem State.ids_qmpStored (s : State) (env : QmpEnv) (p : List Byte) :
    (s.qmpStored env p).ferry.sessions.map (·.id) = s.ferry.sessions.map (·.id) := State.ids_modSession (withResponse_id env.seq p) s env.session

/-! #### The end of a session -/

theorem State.endSession_sessions (s : State) (id : Nat) : (s.endSession id).ferry.sessions = s.ferry.sessions.filter fun x => x.id != id := rfl

theorem State.endSession_ids (s : State) (id : Nat) :
    (s.endSession id).ferry.sessions.map (·.id) = (s.ferry.sessions.map (·.id)).filter fun i => i != id := by
  rw [State.endSession_sessions, List.filter_map]
  rfl

theorem State.endSession_session? (s : State) (id : Nat) : (s.endSession id).session? id = none := by
  refine List.find?_eq_none.2 fun y hy => ?_
  have := (List.mem_filter.1 hy).2
  simpa using this

theorem State.rn_endSession (s : State) (id : Nat) :
    (s.endSession id).rn Reg.FERRY_QMP_SESSIONS = (s.endSession id).ferry.sessions.length % 2 ^ 32 := State.rn_wn_self ..

/-! #### Requests of the Pier -/

theorem State.admitReq_pier_open (q : Nat) (type : Nat) (body : List Byte) (hserv : s.serviceMode = false) :
    s.admitReq (.pier q) type body = (s, true) := by
  simp only [State.admitReq, hserv]
  rfl

/-- The answer to a message of the Pier, at a queue 7 that holds nothing. -/
theorem State.respond_pier_spec {q status : Nat} (hon : bit (s.rn Reg.PIER_CFG) 0 = true) (hempty : s.outQ 7 = {}) (hlen : body.length ≤ 1024) :
    ∃ u, s.respond (.pier q) type status body = u
      ∧ (u.outQ 7).words = outPacket 3 0 (qmpBytes 1 type 0 q s.nodeId 0 status (if status = 0 then body else [])) ∧ PierSide 7 s u := by
  obtain ⟨bs, hbs⟩ : ∃ bs, qmpBytes 1 type 0 q s.nodeId 0 status (if status = 0 then body else []) = bs := ⟨_, rfl⟩
  have hsize : (outPacket 3 0 bs).length ≤ 512 := by
    rw [outPacket_length, ← hbs, qmpBytes_length]
    split
    · omega
    · decide
  refine ⟨s.pierPush 7 3 0 bs, by rw [← hbs]; rfl, ?_, State.pierPush_pierSide 3 0 bs hempty⟩
  rw [hbs]
  exact State.pierPush_empty 3 0 hon hempty hsize

/-- A request that is admitted ends as its effect on that state says. -/
theorem completes_admitted {c : Instr} {dt : Nat} {a u : State} {d : Door} {f : State → State} {P : State → Prop}
    (hc : exec c s = act dt s fun s => s.request d type body f) (hcore : s.watch.core = true)
    (hadmit : (s.advance dt).admitReq d type body = (a, true)) (hf : f (a.asked (doorReq d)) = u)
    (hp : P (acted dt s fun _ => { u with asker := a.asker })) : Completes c s P := by
  refine completes_eq hc hcore (State.request_admitted hadmit) ?_
  rw [State.asking, ← State.asked, hf]
  exact hp

/-- A request that is refused leaves what its check does. -/
theorem completes_refused {c : Instr} {dt : Nat} {a : State} {d : Door} {f : State → State} {P : State → Prop}
    (hc : exec c s = act dt s fun s => s.request d type body f) (hcore : s.watch.core = true)
    (hadmit : (s.advance dt).admitReq d type body = (a, false)) (hp : P (acted dt s fun _ => a)) : Completes c s P :=
  completes_eq hc hcore (State.request_refused hadmit) hp

end Sys2Proof.Machine
end


section
/-! ### Sessions of QMP: OPEN, CLOSE, PING and events (R404 to R409) -/

namespace Sys2Proof.Machine

variable {s t : State} {env : QmpEnv} {x : Session} {dt id n m q type : Nat} {nonce body p : List Byte}

/-! #### OPEN -/

/-- Of 17 IDs in succession one is not taken by fewer than 17 sessions. -/
theorem exists_freshId (n : Nat) {used : List Nat} (hlen : used.length < 17) :
    ∃ i, ((List.range 17).map fun i => (n + i) % (2 ^ 32 - 1) + 1).find? (fun i => !used.contains i) = some i ∧ i ≠ 0 ∧ i ∉ used := by
  obtain ⟨ids, hids⟩ : ∃ ids, (List.range 17).map (fun i => (n + i) % (2 ^ 32 - 1) + 1) = ids := ⟨_, rfl⟩
  have hnodup : ids.Nodup := by
    rw [← hids]
    refine List.Nodup.map_on (fun i hi j hj h => ?_) List.nodup_range
    rw [List.mem_range] at hi hj
    omega
  have hcount : ids.length = 17 := by rw [← hids, List.length_map, List.length_range]
  rw [hids]
  cases h : ids.find? (fun i => !used.contains i) with
  | none =>
    have hall : ids ⊆ used := fun i hi => by simpa using List.find?_eq_none.1 h i hi
    have := (hnodup.subperm hall).length_le
    omega
  | some i =>
    have hnew : i ∉ used := by simpa using List.find?_some h
    have hmem := List.mem_of_find?_eq_some h
    rw [← hids, List.mem_map] at hmem
    obtain ⟨j, -, rfl⟩ := hmem
    exact ⟨_, rfl, Nat.succ_ne_zero _, hnew⟩

theorem State.newSession_spec (h : s.ferry.sessions.length < 16) :
    ∃ i fresh, s.newSession = (i, { s with fresh := fresh }) ∧ i ≠ 0 ∧ ∀ y ∈ s.ferry.sessions, y.id ≠ i := by
  obtain ⟨i, hi, hpos, hnew⟩ := exists_freshId s.draw.1 (used := s.ferry.sessions.map (·.id)) (by rw [List.length_map]; omega)
  have heq : s.newSession = ((((List.range 17).map fun i => (s.draw.1 + i) % (2 ^ 32 - 1) + 1).find?
    fun i => !(s.ferry.sessions.map (·.id)).contains i).getD 1, s.draw.2) := rfl
  rw [hi] at heq
  exact ⟨i, _, heq, hpos, fun y hy hid => hnew (List.mem_map.2 ⟨y, hy, hid⟩)⟩

theorem State.freeBytes_spec (n : Nat) (s : State) : ∃ bs fresh, State.freeBytes n s = (bs, { s with fresh := fresh }) := by
  induction n generalizing s with
  | zero => exact ⟨[], s.fresh, rfl⟩
  | succ n ih =>
    obtain ⟨bs, fresh, h⟩ := ih s.draw.2
    refine ⟨BitVec.ofNat 8 s.draw.1 :: bs, fresh, ?_⟩
    show (BitVec.ofNat 8 s.draw.1 :: (State.freeBytes n s.draw.2).1, (State.freeBytes n s.draw.2).2) = _
    rw [h]
    rfl

/-- A state with one session more. -/
theorem State.sessionAdded_spec (s : State) (x : Session) {peer : Nat} {p : List Byte} (hroom : s.ferry.sessions.length < 16) (hm : m < 5) :
    ∃ u, (s.setSessions (s.ferry.sessions ++ [x])).qmpSend m peer p = u ∧ u.ferry.sessions = s.ferry.sessions ++ [x]
      ∧ u.rn Reg.FERRY_QMP_SESSIONS = s.ferry.sessions.length + 1 ∧ u.pair Reg.FERRY_QMP_RX = s.pair Reg.FERRY_QMP_RX ∧ SameHold s u := by
  have hrd : ∀ a, 0x100000 ≤ a → ((s.setSessions (s.ferry.sessions ++ [x])).qmpSend m peer p).rd a = (s.setSessions (s.ferry.sessions ++ [x])).rd a :=
    fun a ha => State.rd_qmpSend _ _ _ _ (qmpDrop_ferry hm ha)
  refine ⟨_, rfl, (congrArg FerryState.sessions (State.qmpSend_ferry ..)).trans rfl, ?_, ?_, sameHold_of_hold (State.qmpSend_hold ..)⟩
  · refine (congrArg BitVec.toNat (hrd _ (by decide))).trans ((State.rn_wn_self ..).trans ?_)
    rw [List.length_append, List.length_singleton, Nat.mod_eq_of_lt (by omega)]
  · exact State.pair_congr ((hrd _ (by decide)).trans (State.rd_wr_ne _ _ (by decide))) ((hrd _ (by decide)).trans (State.rd_wr_ne _ _ (by decide)))

/-- An OPEN that is answered, while a session is free. -/
theorem State.qmpOpen_spec (hserv : s.serviceMode = false) (hmeant : s.meant env = true) (hauth : s.authFails s.venueKey env 1 nonce = false)
    (hroom : s.ferry.sessions.length < 16) (hmac : env.mac < 5) :
    ∃ (u : State) (x : Session), s.qmpOpen env nonce = u ∧ u.ferry.sessions = s.ferry.sessions ++ [x]
      ∧ (x.mac, x.sender, x.auth, x.last) = (env.mac, env.sender, env.tag.isSome, s.clk)
      ∧ x.id ≠ 0 ∧ (∀ y ∈ s.ferry.sessions, y.id ≠ x.id)
      ∧ u.rn Reg.FERRY_QMP_SESSIONS = s.ferry.sessions.length + 1
      ∧ u.pair Reg.FERRY_QMP_RX = min (s.pair Reg.FERRY_QMP_RX + 1) (2 ^ 64 - 1) ∧ SameHold s u := by
  obtain ⟨a, ha⟩ : ∃ a, (s.qmpTaken env).bump Reg.FERRY_QMP_RX = a := ⟨_, rfl⟩
  have hsess : a.ferry.sessions = s.ferry.sessions := by rw [← ha]; rfl
  have hclk : a.clk = s.clk := by rw [← ha]; rfl
  have hpair : a.pair Reg.FERRY_QMP_RX = min (s.pair Reg.FERRY_QMP_RX + 1) (2 ^ 64 - 1) := by
    rw [← ha]
    exact (s.qmpTaken env).pair_bump _
  have hhold : SameHold s a := by rw [← ha]; exact fun _ => rfl
  obtain ⟨i, fresh, hnew, hpos, hfree⟩ := a.newSession_spec (by rw [hsess]; exact hroom)
  obtain ⟨bs, fresh', hbytes⟩ := State.freeBytes_spec 16 { a with fresh := fresh }
  have hgo : ¬ ((s.qmpTaken env).serviceMode = true ∨ (!(s.qmpTaken env).meant env) = true) := by
    rw [show (s.qmpTaken env).serviceMode = s.serviceMode from rfl, show (s.qmpTaken env).meant env = s.meant env from rfl, hserv, hmeant]
    decide
  have htag : ¬ (s.qmpTaken env).authFails (s.qmpTaken env).venueKey env 1 nonce = true := by
    rw [show (s.qmpTaken env).authFails (s.qmpTaken env).venueKey env 1 nonce = s.authFails s.venueKey env 1 nonce from rfl, hauth]
    decide
  have hlen : ((s.qmpTaken env).bump Reg.FERRY_QMP_RX).ferry.sessions.length < 16 := by
    rw [ha, hsess]
    exact hroom
  have hopen : ∃ (key : List Byte) (p : List Byte), s.qmpOpen env nonce
      = (({ a with fresh := fresh' } : State).setSessions (a.ferry.sessions
          ++ [{ id := i, mac := env.mac, sender := env.sender, auth := env.tag.isSome, last := a.clk, key := key }])).qmpSend env.mac env.sender p := by
    unfold State.qmpOpen
    dsimp only
    rw [show s.setMac env.mac { s.mac env.mac with qmpIn := (s.mac env.mac).qmpIn - 1 } = s.qmpTaken env from rfl, if_neg hgo, if_neg htag,
      if_pos hlen, ha, hnew]
    dsimp only
    rw [hbytes]
    exact ⟨_, _, rfl⟩
  obtain ⟨key, p, hopen⟩ := hopen
  obtain ⟨x, hx⟩ : ∃ x : Session, { id := i, mac := env.mac, sender := env.sender, auth := env.tag.isSome, last := a.clk, key := key } = x := ⟨_, rfl⟩
  rw [hx] at hopen
  obtain ⟨u, hu, husess, hurn, hupair, huhold⟩ := State.sessionAdded_spec { a with fresh := fresh' } x (peer := env.sender) (p := p)
    (by rw [hsess]; exact hroom) hmac
  refine ⟨u, x, hopen.trans hu, ?_, ?_, ?_, ?_, ?_, ?_, hhold.trans huhold⟩
  · rw [husess, hsess]
  · rw [← hx, ← hclk]
  · rw [← hx]
    exact hpos
  · rw [← hx, ← hsess]
    exact hfree
  · rw [hurn, hsess]
  · exact hupair.trans hpair

/-! #### CLOSE and SUBSCRIBE -/

/-- A request that is answered and ends its session. -/
theorem State.qmpClose_spec (s : State) (env : QmpEnv) :
    ∃ u, (s.respond (.qmp env) 2 0 []).endSession env.session = u ∧ u.session? env.session = none
      ∧ u.ferry.sessions.map (·.id) = (s.ferry.sessions.map (·.id)).filter (fun i => i != env.session)
      ∧ u.rn Reg.FERRY_QMP_SESSIONS = u.ferry.sessions.length % 2 ^ 32 ∧ u.hold = s.hold := by
  refine ⟨_, rfl, State.endSession_session? .., ?_, State.rn_endSession .., (State.endSession_hold ..).trans (State.respond_hold ..)⟩
  rw [State.endSession_ids, State.respond_qmp, State.qmpSend_ferry, State.ids_qmpStored]

/-- What a SUBSCRIBE leaves at its session. -/
def subscribed (env : QmpEnv) (classes minSev : Nat) (y : Session) : Session :=
  { y with classes := classes % 256, minSev := minSev, evMac := env.mac, evAddr := env.sender }

theorem State.subscribe_spec (s : State) (env : QmpEnv) (classes minSev : Nat) :
    ∃ u, (s.modSession env.session (subscribed env classes minSev)).respond (.qmp env) 0x70 0 [] = u
      ∧ ((u.session? env.session).all fun y => (y.classes, y.minSev, y.evMac, y.evAddr) == (classes % 256, minSev, env.mac, env.sender)) = true
      ∧ u.ferry.sessions.map (·.id) = s.ferry.sessions.map (·.id) ∧ u.hold = s.hold := by
  obtain ⟨v, hv⟩ : ∃ v, s.modSession env.session (subscribed env classes minSev) = v := ⟨_, rfl⟩
  have hshown : v.session? env.session = (s.session? env.session).map (subscribed env classes minSev) := by
    rw [← hv]
    exact State.session?_modSession (f := subscribed env classes minSev) (fun _ => rfl) s env.session
  have hids : v.ferry.sessions.map (·.id) = s.ferry.sessions.map (·.id) := by
    rw [← hv]
    exact State.ids_modSession (f := subscribed env classes minSev) (fun _ => rfl) s env.session
  have hhold : v.hold = s.hold := by rw [← hv]; rfl
  refine ⟨_, rfl, ?_, ?_, ?_⟩
  · have hsession : (v.respond (.qmp env) 0x70 0 []).session? env.session
        = (v.session? env.session).map (withResponse env.seq (v.qmpTagged env.session 1 0x70 env.seq v.nodeId 0 [])) := by
      rw [← State.session?_qmpStored, State.respond_qmp, State.session?, State.qmpSend_ferry]
      rfl
    rw [hv, hsession, hshown]
    cases s.session? env.session with
    | none => rfl
    | some y => simp [subscribed, withResponse]
  · rw [hv, State.respond_qmp, State.qmpSend_ferry, State.ids_qmpStored, hids]
  · rw [hv, State.respond_hold, hhold]

/-! #### Requests of a session -/

/-- Two states that agree in the registers below the Ferry's. -/
def BelowFerry (s t : State) : Prop := ∀ a, a < 0x100000 → t.rd a = s.rd a

theorem BelowFerry.fld (h : BelowFerry s t) {a : Nat} (ha : a < 0x100000) (hi lo : Nat) : t.fld a hi lo = s.fld a hi lo :=
  congrArg (fun w : Word => bits w.toNat hi lo) (h a ha)

theorem BelowFerry.rn (h : BelowFerry s t) {a : Nat} (ha : a < 0x100000) : t.rn a = s.rn a := congrArg BitVec.toNat (h a ha)

theorem BelowFerry.macDisabled (h : BelowFerry s t) (m : Nat) : t.macDisabled m = s.macDisabled m := by
  have hlane : ∀ l ∈ List.range 24, (t.laneRole l == 1 && t.fld (Reg.LANE_CFG l) 7 6 == m) = (s.laneRole l == 1 && s.fld (Reg.LANE_CFG l) 7 6 == m) := by
    intro l hl
    have hlow : Reg.LANE_CFG l < 0x100000 := by
      rw [List.mem_range] at hl
      unfold Reg.LANE_CFG
      omega
    rw [State.laneRole, State.laneRole, h.fld hlow, h.fld hlow]
  rw [State.macDisabled, State.macDisabled, State.macLane, State.macLane, List.find?_congr hlane]

theorem BelowFerry.udpFrame (h : BelowFerry s t) (hm : m < 5) (sport peer : Nat) (summed : Bool) (p : List Byte) :
    t.udpFrame m sport peer summed p = s.udpFrame m sport peer summed p := by
  have haddr : t.macAddr m = s.macAddr m := by
    rw [State.macAddr, State.macAddr, h.rn (by unfold Reg.MAC_ADDR_LO; omega), h.fld (by unfold Reg.MAC_ADDR_HI; omega)]
  have hip : t.macIp m = s.macIp m := h.rn (by unfold Reg.MAC_IPV4; omega)
  rw [State.udpFrame, State.udpFrame, haddr, hip]

/-- The bytes of a message depend on the session's key alone. -/
theorem State.qmpTagged_congr {g : Session → Session} (hg : ∀ y, (g y).auth = y.auth ∧ (g y).key = y.key)
    (hsession : t.session? id = (s.session? id).map g) (flags type seq origin status : Nat) (body : List Byte) :
    t.qmpTagged id flags type seq origin status body = s.qmpTagged id flags type seq origin status body := by
  unfold State.qmpTagged
  dsimp only
  rw [hsession]
  cases s.session? id with
  | none => rfl
  | some y =>
    dsimp only [Option.map_some]
    rw [(hg y).1, (hg y).2]

/-- The state in which a fresh request of a session is admitted. -/
def State.qmpAdmitted (s : State) (env : QmpEnv) : State :=
  ((s.qmpTaken env).modSession env.session fun x => seqTake x env.seq s.clk).bump Reg.FERRY_QMP_RX

theorem State.admitReq_fresh (hserv : s.serviceMode = false) (hx : s.session? env.session = some x)
    (hauth : s.authFails (s.venueKey.map fun _ => x.key) env type body = false) (hfresh : seqFresh x env.seq = true) :
    s.admitReq (.qmp env) type body = (s.qmpAdmitted env, s.meant env) := by
  have hnode : (s.qmpAdmitted env).nodeId = s.nodeId := congrArg BitVec.toNat (State.rd_bump_ne _ (by decide) (by decide))
  have hmeant : (s.qmpAdmitted env).meant env = s.meant env := by rw [State.meant, State.meant, hnode]
  have hadmit : s.admitReq (.qmp env) type body = ((s.checkQmp env type body).1, (s.checkQmp env type body).2 && (s.checkQmp env type body).1.meant env) := rfl
  rw [hadmit, State.checkQmp_fresh hserv hx hauth hfresh, ← State.qmpAdmitted, hmeant, Bool.true_and]

theorem State.qmpAdmitted_spec (s : State) (env : QmpEnv) : ∃ a, s.qmpAdmitted env = a
    ∧ RegsBut [Reg.FERRY_QMP_RX, Reg.FERRY_QMP_RX + 4] s a ∧ a.pair Reg.FERRY_QMP_RX = min (s.pair Reg.FERRY_QMP_RX + 1) (2 ^ 64 - 1)
    ∧ a.session? env.session = (s.session? env.session).map (fun x => seqTake x env.seq s.clk)
    ∧ a.time = s.time ∧ a.hold = s.hold ∧ (a.mac env.mac).sending = (s.mac env.mac).sending ∧ (a.mac env.mac).txq = (s.mac env.mac).txq := by
  obtain ⟨b, hb⟩ : ∃ b, (s.qmpTaken env).modSession env.session (fun x => seqTake x env.seq s.clk) = b := ⟨_, rfl⟩
  have hsession : b.session? env.session = (s.session? env.session).map (fun x => seqTake x env.seq s.clk) := by
    rw [← hb]
    exact State.session?_modSession (fun y => seqTake_id y env.seq s.clk) (s.qmpTaken env) env.session
  obtain ⟨hrd, hmac, htime, hhold⟩ : (∀ a, b.rd a = s.rd a) ∧ b.mac env.mac = (s.qmpTaken env).mac env.mac
      ∧ b.time = s.time ∧ b.hold = s.hold := by
    rw [← hb]
    exact ⟨fun _ => rfl, rfl, rfl, rfl⟩
  have hsend : (b.mac env.mac).sending = (s.mac env.mac).sending := by rw [hmac, State.qmpTaken, State.mac_setMac_self]
  have htxq : (b.mac env.mac).txq = (s.mac env.mac).txq := by rw [hmac, State.qmpTaken, State.mac_setMac_self]
  refine ⟨_, rfl, ?_⟩
  rw [State.qmpAdmitted, hb]
  refine ⟨fun a ha => ?_, ?_, hsession, htime, hhold, hsend, htxq⟩
  · simp only [List.mem_cons, List.not_mem_nil, or_false, not_or] at ha
    exact (State.rd_bump_ne _ ha.1 ha.2).trans (hrd a)
  · rw [State.pair_bump, State.pair_congr (hrd _) (hrd _)]

/-- A response to a request of a session, at a port that sends a frame and has no message waiting. -/
theorem State.respond_busy {a : State} {f : String × List Byte} (hm : env.mac < 5) (hbelow : BelowFerry s a)
    (hport : a.fld Reg.FERRY_QMP_CFG 15 0 = s.fld Reg.FERRY_QMP_CFG 15 0)
    (hsession : a.session? env.session = (s.session? env.session).map (fun x => seqTake x env.seq s.clk))
    (hsend : (a.mac env.mac).sending = some f) (hon : s.macDisabled env.mac = false) (hempty : tabGetD (a.mac env.mac).txq 6 [] = []) :
    ∃ u p, a.respond (.qmp env) type 0 body = u ∧ p = s.qmpTagged env.session 1 type env.seq s.nodeId 0 body
      ∧ tabGetD (u.mac env.mac).txq 6 [] = [("QMP", s.udpFrame env.mac (s.fld Reg.FERRY_QMP_CFG 15 0) env.sender true p)]
      ∧ u.session? env.session = (a.session? env.session).map (withResponse env.seq p)
      ∧ u.regs = a.regs ∧ u.hold = a.hold := by
  have hnode : a.nodeId = s.nodeId := hbelow.rn (by decide)
  have htagged : a.qmpTagged env.session 1 type env.seq a.nodeId 0 body = s.qmpTagged env.session 1 type env.seq s.nodeId 0 body := by
    rw [State.qmpTagged_congr (g := fun x => seqTake x env.seq s.clk) (fun _ => ⟨rfl, rfl⟩) hsession, hnode]
  obtain ⟨p, hp⟩ : ∃ p, s.qmpTagged env.session 1 type env.seq s.nodeId 0 body = p := ⟨_, rfl⟩
  have hstored := State.session?_qmpStored a env p
  have hbusy : (a.qmpStored env p).qmpSend env.mac env.sender p
      = (a.qmpStored env p).qmpQueued env.mac (a.fld Reg.FERRY_QMP_CFG 15 0) env.sender p :=
    State.qmpSend_busy (s := a.qmpStored env p) ((hbelow.macDisabled env.mac).trans hon) hsend hempty
  refine ⟨(a.qmpStored env p).qmpQueued env.mac (a.fld Reg.FERRY_QMP_CFG 15 0) env.sender p, p, (State.respond_qmp ..).trans (by rw [htagged, hp, hbusy]), hp.symm, ?_, hstored, rfl, rfl⟩
  rw [State.qmpQueued_txq, hport, show (a.qmpStored env p).udpFrame = a.udpFrame from rfl, hbelow.udpFrame hm]

/-- The answer of a PING (R402). -/
def State.pingBody (s : State) : List Byte := beBytes 8 s.now64 ++ beBytes 2 s.frac ++ beBytes 6 s.tally

theorem State.pingBody_congr (htime : t.time = s.time) (hrate : t.rn Reg.TIME_RATE = s.rn Reg.TIME_RATE) : t.pingBody = s.pingBody := by
  have hns : t.ns = s.ns := by rw [State.ns, State.ns, htime]
  rw [State.pingBody, State.pingBody, State.now64, State.now64, State.frac, State.frac, State.tally, State.tally, State.rate, State.rate,
    State.fld, State.fld, htime, hns, hrate]

/-- A request of a session that is not taken, and only counted. -/
theorem State.admitReq_replay (hserv : s.serviceMode = false) (hx : s.session? env.session = some x)
    (hauth : s.authFails (s.venueKey.map fun _ => x.key) env type body = false) (hstale : seqFresh x env.seq = false)
    (hnone : x.responses.find? (fun r => r.1 == env.seq) = none) :
    s.admitReq (.qmp env) type body = ((s.qmpTaken env).bump Reg.FERRY_QMP_REPLAY, false) := by
  have hadmit : s.admitReq (.qmp env) type body = ((s.checkQmp env type body).1, (s.checkQmp env type body).2 && (s.checkQmp env type body).1.meant env) := rfl
  rw [hadmit, State.checkQmp_replay hserv hx hauth hstale hnone, Bool.false_and]

/-- A message that joins an empty queue of a port that sends a frame, with the registers as they were. -/
theorem State.qmpSend_queued {b : State} {f : String × List Byte} {peer : Nat} (hm : m < 5) (hregs : b.regs = s.regs)
    (hon : s.macDisabled m = false) (hsend : (b.mac m).sending = some f) (hempty : tabGetD (b.mac m).txq 6 [] = []) :
    ∃ u, b.qmpSend m peer p = u ∧ tabGetD (u.mac m).txq 6 [] = [("QMP", s.udpFrame m (s.fld Reg.FERRY_QMP_CFG 15 0) peer true p)]
      ∧ u.ferry = b.ferry ∧ u.regs = s.regs ∧ u.hold = b.hold := by
  have hrd : ∀ a, b.rd a = s.rd a := sameRegs_of_regs hregs
  have hbelow : BelowFerry s b := fun a _ => hrd a
  have hport : b.fld Reg.FERRY_QMP_CFG 15 0 = s.fld Reg.FERRY_QMP_CFG 15 0 := by rw [State.fld, State.fld, State.rn, State.rn, hrd]
  refine ⟨_, State.qmpSend_busy ((hbelow.macDisabled m).trans hon) hsend hempty, ?_, rfl, hregs, rfl⟩
  rw [State.qmpQueued_txq, hport, hbelow.udpFrame hm]

theorem State.qmpTaken_mac (s : State) (env : QmpEnv) : ((s.qmpTaken env).mac env.mac).sending = (s.mac env.mac).sending
    ∧ ((s.qmpTaken env).mac env.mac).txq = (s.mac env.mac).txq := by
  rw [State.qmpTaken, State.mac_setMac_self]
  exact ⟨rfl, rfl⟩

/-- A repeated request whose response is stored, at a port that sends a frame and has no message waiting. -/
theorem State.admitReq_repeat {f : String × List Byte} (hm : env.mac < 5) (hserv : s.serviceMode = false) (hx : s.session? env.session = some x)
    (hauth : s.authFails (s.venueKey.map fun _ => x.key) env type body = false) (hstale : seqFresh x env.seq = false)
    (hwindow : x.top.getD 0 ≤ env.seq + 64) (hstored : (x.responses.find? (fun r => r.1 == env.seq)).map (·.2) = some p)
    (hsend : (s.mac env.mac).sending = some f) (hon : s.macDisabled env.mac = false) (hempty : tabGetD (s.mac env.mac).txq 6 [] = []) :
    ∃ u, s.admitReq (.qmp env) type body = (u, false)
      ∧ tabGetD (u.mac env.mac).txq 6 [] = [("QMP", s.udpFrame env.mac (s.fld Reg.FERRY_QMP_CFG 15 0) env.sender true p)]
      ∧ u.regs = s.regs ∧ u.hold = s.hold := by
  have hadmit : s.admitReq (.qmp env) type body = ((s.checkQmp env type body).1, (s.checkQmp env type body).2 && (s.checkQmp env type body).1.meant env) := rfl
  obtain ⟨hsending, htxq⟩ := s.qmpTaken_mac env
  obtain ⟨u, hu, hutxq, -, hregs, hhold⟩ := State.qmpSend_queued (s := s) (m := env.mac) (p := p) (peer := env.sender)
    (b := (s.qmpTaken env).modSession env.session fun x => { x with last := s.clk }) hm rfl hon (hsending.trans hsend)
    ((congrArg (tabGetD · 6 []) htxq).trans hempty)
  refine ⟨u, ?_, hutxq, hregs, hhold⟩
  rw [hadmit, State.checkQmp_repeat hserv hx hauth hstale hwindow hstored, hu, Bool.false_and]

/-- A request of no session, at a port that sends a frame and has no message waiting. -/
theorem State.admitReq_none {f : String × List Byte} (hm : env.mac < 5) (hserv : s.serviceMode = false) (hx : s.session? env.session = none)
    (hsend : (s.mac env.mac).sending = some f) (hon : s.macDisabled env.mac = false) (hempty : tabGetD (s.mac env.mac).txq 6 [] = []) :
    ∃ u, s.admitReq (.qmp env) type body = (u, false)
      ∧ tabGetD (u.mac env.mac).txq 6 [] = [("QMP", s.udpFrame env.mac (s.fld Reg.FERRY_QMP_CFG 15 0) env.sender true
          (qmpBytes 1 type env.session env.seq s.nodeId 0 1 []))]
      ∧ u.ferry = s.ferry ∧ u.regs = s.regs ∧ u.hold = s.hold := by
  have hadmit : s.admitReq (.qmp env) type body = ((s.checkQmp env type body).1, (s.checkQmp env type body).2 && (s.checkQmp env type body).1.meant env) := rfl
  obtain ⟨hsending, htxq⟩ := s.qmpTaken_mac env
  obtain ⟨u, hu, hutxq, hferry, hregs, hhold⟩ := State.qmpSend_queued (s := s) (m := env.mac) (peer := env.sender)
    (p := qmpBytes 1 type env.session env.seq s.nodeId 0 1 []) (b := s.qmpTaken env) hm rfl hon (hsending.trans hsend)
    ((congrArg (tabGetD · 6 []) htxq).trans hempty)
  refine ⟨u, ?_, hutxq, hferry, hregs, hhold⟩
  rw [hadmit, State.checkQmp_none hserv hx, hu, Bool.false_and]

/-! #### Events -/

theorem State.drainEvents_idle (hx : s.session? id = some x) (hnone : x.events = []) (n : Nat) : State.drainEvents n s id = s := by
  cases n with
  | zero => rfl
  | succ n =>
    unfold State.drainEvents
    rw [hx]
    dsimp only
    rw [hnone]

theorem State.drainEvents_full (hx : s.session? id = some x) (hfull : 64 ≤ (tabGetD (s.mac x.evMac).txq 6 []).length) (n : Nat) :
    State.drainEvents n s id = s := by
  cases n with
  | zero => rfl
  | succ n =>
    unfold State.drainEvents
    rw [hx]
    dsimp only
    split
    · exact if_neg hfull.not_gt
    · rfl

/-- A session whose oldest event has been sent. -/
def eventSent (rest : List (Nat × Event)) (y : Session) : Session := { y with events := rest, lost := 0, outSeq := (y.outSeq + 1) % 2 ^ 32 }

theorem State.drainEvents_send {e : Event} {rest : List (Nat × Event)} (hx : s.session? id = some x) (hevents : x.events = (q, e) :: rest)
    (hroom : (tabGetD (s.mac x.evMac).txq 6 []).length < 64) (hn : 0 < n) : State.drainEvents n s id
      = State.drainEvents (n - 1) ((s.modSession id (eventSent rest)).qmpSend x.evMac x.evAddr
          (s.qmpTagged id 0 0x80 x.outSeq s.nodeId 0 (eventBytes e q x.lost))) id := by
  obtain ⟨n, rfl⟩ := Nat.exists_eq_add_of_lt hn
  rw [Nat.zero_add, Nat.add_sub_cancel]
  conv_lhs => unfold State.drainEvents
  rw [hx]
  dsimp only
  rw [hevents]
  exact if_pos hroom

/-- A session that takes an event and has room for it. -/
def eventTaken (e : Event) (y : Session) : Session := { y with events := y.events ++ [(y.evSeq, e)], evSeq := (y.evSeq + 1) % 2 ^ 32 }

theorem queueEvent_taken {e : Event} (htakes : takesEvent x e = true) (hroom : x.events.length < 256) : queueEvent e x = eventTaken e x := by
  rw [queueEvent, if_pos htakes, decide_eq_false hroom.not_ge]
  rfl

theorem queueEvent_id (e : Event) (y : Session) : (queueEvent e y).id = y.id := by
  unfold queueEvent
  split
  · rfl
  · rfl

theorem State.pierPush_off (k ptype src : Nat) (bs : List Byte) (hoff : bit (s.rn Reg.PIER_CFG) 0 = false) : s.pierPush k ptype src bs = s :=
  if_neg (by rw [hoff]; decide)

/-- With the Pier disabled and one session, the oldest event goes to that session alone. -/
theorem State.eventSend_one {e : Event} {rest : List Event} (hevents : s.events = e :: rest) (hone : s.ferry.sessions = [x])
    (hoff : bit (s.rn Reg.PIER_CFG) 0 = false) :
    ∃ b, s.eventSend = State.drainEvents 256 b x.id ∧ b.ferry.sessions = [queueEvent e x] ∧ b.events = rest ∧ b.regs = s.regs
      ∧ b.hold = s.hold ∧ b.macs = s.macs := by
  obtain ⟨b, hb⟩ : ∃ b : State, { s with
      events := rest
      ferry := { s.ferry with sessions := s.ferry.sessions.map (queueEvent e) }
      fresh := s.fresh + 1 } = b := ⟨_, rfl⟩
  have hsess : b.ferry.sessions = [queueEvent e x] := by
    rw [← hb]
    exact congrArg (List.map (queueEvent e)) hone
  have hsend : ∃ k src bs, s.eventSend
      = (b.pierPush k 1 src bs).ferry.sessions.foldl (fun s x => State.drainEvents 256 s x.id) (b.pierPush k 1 src bs) := by
    unfold State.eventSend
    rw [hevents, ← hb]
    exact ⟨_, _, _, rfl⟩
  obtain ⟨k, src, bs, hsend⟩ := hsend
  refine ⟨b, ?_, hsess, by rw [← hb], by rw [← hb], by rw [← hb], by rw [← hb]⟩
  rw [hsend, State.pierPush_off k 1 src bs (by rw [← hb]; exact hoff), hsess, List.foldl_cons, List.foldl_nil, queueEvent_id]

theorem State.session?_one {y : Session} (h : s.ferry.sessions = [y]) : s.session? y.id = some y := by
  rw [State.session?, h]
  simp

/-- The event of a session whose queue was empty leaves at once, when its port has room. -/
theorem State.eventSend_now {e : Event} {rest : List Event} {f : String × List Byte} (hevents : s.events = e :: rest)
    (hone : s.ferry.sessions = [x]) (hoff : bit (s.rn Reg.PIER_CFG) 0 = false) (htakes : takesEvent x e = true) (hnone : x.events = [])
    (hm : m < 5) (hmac : x.evMac = m) (hsend : (s.mac m).sending = some f) (hon : s.macDisabled m = false) (hempty : tabGetD (s.mac m).txq 6 [] = []) :
    ∃ u, s.eventSend = u ∧ u.events = rest ∧ u.ferry.sessions.map (fun y => y.events) = [[]]
      ∧ tabGetD (u.mac m).txq 6 [] = [("QMP", s.udpFrame m (s.fld Reg.FERRY_QMP_CFG 15 0) x.evAddr true
          (s.qmpTagged x.id 0 0x80 x.outSeq s.nodeId 0 (eventBytes e x.evSeq x.lost)))]
      ∧ u.regs = s.regs ∧ u.hold = s.hold := by
  obtain ⟨b, hb, hsess, hbevents, hregs, hhold, hmacs⟩ := State.eventSend_one hevents hone hoff
  rw [queueEvent_taken htakes (by rw [hnone]; decide)] at hsess
  obtain ⟨y, hy⟩ : ∃ y, eventTaken e x = y := ⟨_, rfl⟩
  have hyevents : y.events = (x.evSeq, e) :: [] := by rw [← hy, eventTaken, hnone, List.nil_append]
  obtain ⟨hymac, hyaddr, hyseq, hylost⟩ : y.evMac = m ∧ y.evAddr = x.evAddr ∧ y.outSeq = x.outSeq ∧ y.lost = x.lost := by
    rw [← hy]
    exact ⟨hmac, rfl, rfl, rfl⟩
  rw [hy] at hsess
  have hshown : b.session? x.id = some y := by
    rw [show x.id = y.id by rw [← hy]; rfl]
    exact State.session?_one hsess
  have hbelow : BelowFerry s b := fun a _ => by rw [State.rd, State.rd, hregs]
  have hbmac : b.mac m = s.mac m := by rw [State.mac, State.mac, hmacs]
  have htagged : b.qmpTagged x.id 0 0x80 x.outSeq b.nodeId 0 (eventBytes e x.evSeq x.lost)
      = s.qmpTagged x.id 0 0x80 x.outSeq s.nodeId 0 (eventBytes e x.evSeq x.lost) := by
    have hs : s.session? x.id = some x := State.session?_one hone
    rw [State.qmpTagged_congr (s := s) (t := b) (g := eventTaken e) (fun _ => ⟨rfl, rfl⟩) (by rw [hshown, hs, ← hy]; rfl),
      show b.nodeId = s.nodeId by rw [State.nodeId, State.nodeId, State.rn, State.rn, State.rd, State.rd, hregs]]
  have hfirst := State.drainEvents_send (n := 256) hshown hyevents (by rw [hymac, hbmac, hempty]; decide) (by decide)
  rw [hymac, hyaddr, hyseq, hylost, htagged] at hfirst
  obtain ⟨msg, hmsg⟩ : ∃ msg, s.qmpTagged x.id 0 0x80 x.outSeq s.nodeId 0 (eventBytes e x.evSeq x.lost) = msg := ⟨_, rfl⟩
  rw [hmsg] at hfirst ⊢
  obtain ⟨c, hc⟩ : ∃ c, b.modSession x.id (eventSent []) = c := ⟨_, rfl⟩
  have hcsess : c.ferry.sessions = [eventSent [] y] := by
    rw [← hc, State.modSession]
    dsimp only
    rw [hsess, List.map_singleton, if_pos (by rw [← hy]; rfl)]
  obtain ⟨hcregs, hchold, hcevents, hcmac⟩ : c.regs = s.regs ∧ c.hold = s.hold ∧ c.events = rest ∧ c.mac m = s.mac m := by
    rw [← hc]
    exact ⟨hregs, hhold, hbevents, hbmac⟩
  have hcbelow : BelowFerry s c := fun a _ => by rw [State.rd, State.rd, hcregs]
  have hport : c.fld Reg.FERRY_QMP_CFG 15 0 = s.fld Reg.FERRY_QMP_CFG 15 0 := by
    rw [State.fld, State.fld, State.rn, State.rn, State.rd, State.rd, hcregs]
  have hqueued := State.qmpSend_busy (s := c) (p := msg) (peer := x.evAddr) ((hcbelow.macDisabled m).trans hon) (by rw [hcmac]; exact hsend)
    (by rw [hcmac]; exact hempty)
  have hlast : ((c.qmpQueued m (c.fld Reg.FERRY_QMP_CFG 15 0) x.evAddr msg).session? x.id) = some (eventSent [] y) := by
    rw [show x.id = (eventSent [] y).id by rw [← hy]; rfl]
    exact State.session?_one hcsess
  rw [hc, hqueued, State.drainEvents_idle hlast rfl] at hfirst
  refine ⟨_, hb.trans hfirst, hcevents, ?_, ?_, hcregs, hchold⟩
  · rw [show (c.qmpQueued m (c.fld Reg.FERRY_QMP_CFG 15 0) x.evAddr msg).ferry = c.ferry from rfl, hcsess]
    rfl
  · rw [State.qmpQueued_txq, hport, hcbelow.udpFrame hm]

/-- Settles O50: each request is admitted or refused at its session, and each answer leaves by the transmit queue. -/
theorem qmpSessions : Obligations.QmpSessions := by
  unfold Obligations.QmpSessions
  intro dt q id n nonce env x m f e rest a s hcore hmac
  refine ⟨?_, ?_, ?_, ?_, ?_, ?_, ?_, ?_, ?_, ?_, ?_, ?_, ?_⟩
  · intro hserv hmeant hauth hroom
    obtain ⟨u, y, hu, hsess, hy, hpos, hnew, hcount, hrx, hhold⟩ := State.qmpOpen_spec (s := s.advance dt) hserv hmeant hauth hroom hmac
    refine completes_eq rfl hcore hu ⟨?_, ?_, ?_, ?_, hcount, hrx, hhold⟩
    · rw [acted_ferry, hsess]
      exact List.take_left
    · rw [acted_ferry, hsess]
      exact List.length_append
    · rw [acted_ferry, hsess, List.getLast?_concat]
      exact congrArg some hy
    · rw [acted_ferry, hsess, List.getLast?_concat]
      simpa [hpos] using hnew
  · intro hserv hmeant hauth
    have hgo : ¬ (((s.advance dt).qmpTaken env).serviceMode = true ∨ (!((s.advance dt).qmpTaken env).meant env) = true) := by
      rw [show ((s.advance dt).qmpTaken env).serviceMode = s.serviceMode from rfl,
        show ((s.advance dt).qmpTaken env).meant env = s.meant env from rfl, hserv, hmeant]
      decide
    obtain ⟨hsess, hfail⟩ := ((s.advance dt).qmpTaken env).authAnswer_spec env 1
    refine completes_eq rfl hcore (u := ((s.advance dt).qmpTaken env).authAnswer env 1) ((if_neg hgo).trans (if_pos hauth))
      ⟨?_, hfail hmac, sameHold_of_hold ?_⟩
    · exact hsess
    · exact (State.authAnswer_hold ..).trans rfl
  · intro hadmit
    obtain ⟨u, hu, hnone, hids, hcount, hhold⟩ := State.qmpClose_spec (a.asked (doorReq (.qmp env))) env
    refine completes_admitted rfl hcore hadmit hu ⟨hnone, hids.trans ?_, hcount, sameHold_of_hold (hhold.trans ?_)⟩
    · rw [show (a.asked (doorReq (.qmp env))).ferry = a.ferry from rfl, State.admitReq_ids hadmit]
      rfl
    · exact (congrArg (fun r => r.1.hold) hadmit).symm.trans (State.admitReq_hold ..)
  · intro hone hid hdue
    have hone' : (s.advance dt).ferry.sessions = [x] := hone
    have hshown : (s.advance dt).session? id = some x := hid ▸ State.session?_one hone'
    have hsess : ((s.advance dt).endSession id).ferry.sessions = [] := by
      rw [State.endSession_sessions, hone', ← hid]
      simp
    have hcount := (s.advance dt).rn_endSession id
    rw [hsess] at hcount
    refine completes_eq rfl hcore (u := (s.advance dt).endSession id) ?_ ⟨hsess, hcount, fun a ha => ?_, fun _ => rfl⟩
    · rw [hshown]
      exact if_pos (decide_eq_true hdue)
    · exact State.rd_wr_ne _ _ (by simpa using ha)
  · intro hshown hearly
    refine completes_eq rfl hcore (u := s.advance dt) ?_ ⟨rfl, fun _ => rfl, fun _ => rfl⟩
    rw [show (s.advance dt).session? id = some x from hshown]
    exact if_neg fun h => absurd (of_decide_eq_true h) (Nat.not_le.2 hearly)
  · intro hserv hon hempty
    obtain ⟨b, hb⟩ : ∃ b, (s.advance dt).asked .pier = b := ⟨_, rfl⟩
    obtain ⟨u, hu, hwords, hside⟩ := State.respond_pier_spec (s := (s.advance dt).asked .pier) (q := q) (type := 3) (status := 0)
      (body := (s.advance dt).pingBody) hon hempty (by simp [State.pingBody])
    exact completes_admitted rfl hcore (State.admitReq_pier_open q 3 [] hserv) hu
      ⟨hwords, hside.regsBut (by simp) (by simp), sameHold_of_hold hside.hold⟩
  · intro hserv hx hauth hfresh hmeant hsend hon hempty
    obtain ⟨b, hb, hregs, hrx, hsession, htime, hhold, hbsend, hbtxq⟩ := (s.advance dt).qmpAdmitted_spec env
    have hadmit : (s.advance dt).admitReq (.qmp env) 3 [] = (b, true) := by
      rw [State.admitReq_fresh (s := s.advance dt) hserv hx hauth hfresh, hb, show (s.advance dt).meant env = s.meant env from rfl, hmeant]
    obtain ⟨c, hc⟩ : ∃ c, b.asked (.qmp env.session) = c := ⟨_, rfl⟩
    obtain ⟨hcregs, hctime, hchold, hcsession, hcmac⟩ : c.regs = b.regs ∧ c.time = b.time ∧ c.hold = b.hold ∧ c.session? env.session = b.session? env.session
        ∧ c.mac env.mac = b.mac env.mac := by
      rw [← hc]
      exact ⟨rfl, rfl, rfl, rfl, rfl⟩
    have hrd : ∀ a, a ≠ Reg.FERRY_QMP_RX → a ≠ Reg.FERRY_QMP_RX + 4 → c.rd a = (s.advance dt).rd a := fun a h1 h2 =>
      (sameRegs_of_regs hcregs a).trans (hregs a (by simp [h1, h2]))
    have hbelow : BelowFerry (s.advance dt) c := fun a ha => hrd a (by unfold Reg.FERRY_QMP_RX; omega) (by unfold Reg.FERRY_QMP_RX; omega)
    have hbody : c.pingBody = (s.advance dt).pingBody := State.pingBody_congr (hctime.trans htime) (hbelow.rn (by decide))
    obtain ⟨u, p, hu, hp, hutxq, husession, huregs, huhold⟩ := State.respond_busy (s := s.advance dt) (a := c) (type := 3) (body := c.pingBody)
      hmac hbelow (congrArg (fun w : Word => bits w.toNat 15 0) (hrd _ (by decide) (by decide))) (hcsession.trans hsession)
      (by rw [hcmac, hbsend]; exact hsend) hon (by rw [hcmac, hbtxq]; exact hempty)
    rw [hbody] at hp
    rw [hcsession, hsession, show (s.advance dt).session? env.session = some x from hx] at husession
    refine completes_admitted rfl hcore hadmit (u := u) ?_ ⟨?_, ?_, ?_, ?_, ?_⟩
    · rw [show b.asked (doorReq (.qmp env)) = c from hc]
      exact hu
    · rw [hp] at hutxq
      exact hutxq
    · refine (congrArg (Option.map fun y : Session => (y.top, y.last, y.responses.head?.map (·.1))) husession).trans ?_
      rfl
    · exact (State.pair_congr (t := u) (s := b) ((sameRegs_of_regs (huregs.trans hcregs)) _) ((sameRegs_of_regs (huregs.trans hcregs)) _)).trans hrx
    · exact fun a ha => (sameRegs_of_regs (huregs.trans hcregs) a).trans (hregs a ha)
    · exact sameHold_of_hold (huhold.trans (hchold.trans hhold))
  · intro hserv hx hauth hstale hnone
    exact completes_refused rfl hcore (State.admitReq_replay (s := s.advance dt) hserv hx hauth hstale hnone)
      ⟨rfl, ((s.advance dt).qmpTaken env).pair_bump _, ((RegsBut.refl _ _).bump (by simp) (by simp)), fun _ => rfl⟩
  · intro hserv hx hauth hstale hwindow hstored hsend hon hempty
    obtain ⟨u, hu, htxq, hregs, hhold⟩ := State.admitReq_repeat (s := s.advance dt) hmac hserv hx hauth hstale hwindow hstored hsend hon hempty
    exact completes_refused rfl hcore hu ⟨htxq, sameRegs_of_regs hregs, sameHold_of_hold hhold⟩
  · intro hserv hx hsend hon hempty
    obtain ⟨u, hu, htxq, hferry, hregs, hhold⟩ := State.admitReq_none (s := s.advance dt) (type := 3) (body := []) hmac hserv hx hsend hon hempty
    exact completes_refused rfl hcore hu ⟨htxq, hferry, sameRegs_of_regs hregs, sameHold_of_hold hhold⟩
  · intro hadmit
    obtain ⟨u, hu, hshown, hids, hhold⟩ := (a.asked (doorReq (.qmp env))).subscribe_spec env id n
    refine completes_admitted rfl hcore hadmit hu ⟨hshown, hids.trans ?_, sameHold_of_hold (hhold.trans ?_)⟩
    · rw [show (a.asked (doorReq (.qmp env))).ferry = a.ferry from rfl, State.admitReq_ids hadmit]
      rfl
    · exact (congrArg (fun r => r.1.hold) hadmit).symm.trans (State.admitReq_hold ..)
  · intro hevents hone htakes hroom hfull hoff
    obtain ⟨b, hb, hsess, hbevents, hregs, hhold, hmacs⟩ := State.eventSend_one (s := s.advance dt) hevents hone hoff
    rw [queueEvent_taken htakes hroom] at hsess
    have hstop : State.drainEvents 256 b x.id = b := by
      refine State.drainEvents_full (x := eventTaken e x) (State.session?_one hsess) ?_ 256
      rw [State.mac, hmacs]
      exact hfull
    exact completes_eq rfl hcore (hb.trans hstop) ⟨hbevents, hsess, sameRegs_of_regs hregs, sameHold_of_hold hhold⟩
  · intro hevents hone htakes hnone hevmac hsend hon hempty hoff
    obtain ⟨u, hu, huevents, husess, hutxq, hregs, hhold⟩ :=
      State.eventSend_now (s := s.advance dt) hevents hone hoff htakes hnone hmac hevmac hsend hon hempty
    exact completes_eq rfl hcore hu ⟨huevents, husess, hutxq, sameRegs_of_regs hregs, sameHold_of_hold hhold⟩

end Sys2Proof.Machine
end


section
/-! ### Transfers of QMP: reads, writes and relaying, ranges, the Ferry's settings and saves (R403, R408, R423 to R433, R507) -/

namespace Sys2Proof.Machine

variable {s t : State} {env : QmpEnv} {x : Session} {dt addr id n m q v : Nat} {w : Word} {r : Requester}

/-! #### Local reads and writes for a message of the Pier -/

/-- The word that a read finds when none waits for its requester. -/
def State.readFound (s : State) (a : Nat) : Nat :=
  if (a / 65536 == 0x16 && !s.watch.keeper && assigned a) = true then s.draw.1 % 2 ^ 32
  else if a = Reg.WATCH_STAT then putBit (s.draw.2.peek a) 6 (bit s.draw.1 0) else s.peek a

theorem State.readReg_fst (s : State) (r : Requester) (a : Nat) :
    (s.readReg r a).1 = ((takeKey s.pairLatch r a).map BitVec.toNat).getD (s.readFound a) := by
  obtain ⟨p, hp⟩ : ∃ p, (if (a / 65536 == 0x16 && !s.watch.keeper && assigned a) = true then (s.draw.1 % 2 ^ 32, s.draw.2)
    else if a = Reg.WATCH_STAT then (putBit (s.draw.2.peek a) 6 (bit s.draw.1 0), s.draw.2) else (s.peek a, s)) = p := ⟨_, rfl⟩
  have hlatch : p.2.pairLatch = s.pairLatch := by
    rw [← hp]
    split_ifs <;> rfl
  have hfound : p.1 = s.readFound a := by
    rw [← hp, State.readFound]
    split_ifs <;> rfl
  unfold State.readReg
  dsimp only
  rw [hp, hlatch, hfound]
  cases takeKey s.pairLatch r a with
  | some w => rfl
  | none => rfl

/-- What a read answers does not depend on the name under which it is asked. -/
theorem State.readReg_asked (s : State) (req r : Requester) (a : Nat) : ((s.asked req).readReg r a).1 = (s.readReg r a).1 := by
  rw [State.readReg_fst, State.readReg_fst]
  rfl

/-- A read of one word for a message of the Pier: the read, and its answer. -/
theorem State.localRun_pierRead (s : State) (q a : Nat) :
    s.localRun { door := .pier q, type := 0x10, op := 1, node := 0, dest := 0, space := 0, offset := a, count := 1 }
      = (s.readReg .pier a).2.respond (.pier q) 0x10 (if assigned a then 0 else 4) (beBytes 4 (s.readReg .pier a).1) := by
  rfl

theorem State.localRun_pierWrite (s : State) (q a : Nat) (w : Word) :
    s.localRun { door := .pier q, type := 0x11, op := 2, node := 0, dest := 0, space := 0, offset := a, count := 1, data := [w] }
      = (s.writeReg .pier a w.toNat).respond (.pier q) 0x11 (if s.writeDenied a then 4 else 0) [] := by
  have hwrite : s.writeRegs .pier a [w.toNat] = (!s.writeDenied a, s.writeReg .pier a w.toNat) := congrArg (·, _) (Bool.and_true _)
  obtain ⟨u, hu⟩ : ∃ u, s.writeReg .pier a w.toNat = u := ⟨_, rfl⟩
  rw [hu] at hwrite ⊢
  unfold State.localRun
  dsimp only [doorReq]
  rw [show List.map (fun x : Word => x.toNat) [w] = [w.toNat] from rfl, if_neg (by decide), if_neg nofun, hwrite, if_neg nofun]
  cases s.writeDenied a with
  | true => rfl
  | false => rfl

/-- An address of the device's own port is its own offset. -/
theorem fClass_local {a : Nat} (ha : a < 2 ^ 32) : fClass a = 0 ∧ fOffset a = a ∧ fSpace a = 0 := by
  have hbits : ∀ hi lo, 32 ≤ lo → bits a hi lo = 0 := fun hi lo hlo => by
    rw [bits, Nat.div_eq_of_lt (Nat.lt_of_lt_of_le ha (Nat.pow_le_pow_right (by decide) hlo)), Nat.zero_mod]
  refine ⟨?_, ?_, hbits 47 40 (by decide)⟩
  · rw [fClass, fNode, hbits 63 48 (by decide)]
    rfl
  · rw [fOffset, bits, pow_zero, Nat.div_one]
    exact Nat.mod_eq_of_lt (Nat.lt_of_lt_of_le ha (Nat.pow_le_pow_right (by decide) (by decide)))

theorem fMalformed_local {a : Nat} (ha : a < 2 ^ 32) (halign : a % 4 = 0) : fMalformed a = false := by
  obtain ⟨hclass, hoff, hspace⟩ := fClass_local ha
  simp [fMalformed, hclass, hoff, hspace, halign]
  omega

/-- A register that is not cleared on read is left by every read. -/
theorem readChanges_not {a b : Nat} (hb : ((regDesc? b).any fun d => d.acc == .rc) = false) : ¬ readChanges a b := by
  rintro ⟨rfl, h⟩
  rw [h] at hb
  exact absurd hb (by decide)

/-- The READ of one word of the device's own port, for a message of the Pier. -/
theorem State.qmpRead_spec (hon : bit (s.rn Reg.PIER_CFG) 0 = true) (hempty : s.outQ 7 = {}) (haddr : addr < 2 ^ 32) (halign : addr % 4 = 0)
    (ha : assigned addr = true) (hfree : s.localBlocked .pier = false) (hwait : s.ferry.localWait = []) (hv : (s.readReg .pier addr).1 = v) :
    ∃ u, s.qmpRead (.pier q) addr 1 0 = u ∧ (u.outQ 7).words = outPacket 3 0 (qmpBytes 1 0x10 0 q s.nodeId 0 0 (beBytes 4 v))
      ∧ RegsBut [addr, Reg.PIER_OQ_STAT 7, Reg.PIER_IRQ_STAT] s u ∧ SameHold s u := by
  obtain ⟨hclass, hoff, -⟩ := fClass_local haddr
  have hread : s.qmpRead (.pier q) addr 1 0
      = s.localSubmit { door := .pier q, type := 0x10, op := 1, node := 0, dest := 0, space := 0, offset := addr, count := 1 } := by
    unfold State.qmpRead
    rw [if_neg (by simp [fMalformed_local haddr halign]), if_neg (by simp)]
    dsimp only
    rw [if_pos hclass, hoff]
    rfl
  obtain ⟨time, latch, fresh, hside⟩ := s.readReg_regSide .pier addr
  have hrun := s.localRun_pierRead q addr
  rw [ha, if_pos rfl, hv] at hrun
  obtain ⟨b, hb⟩ : ∃ b, (s.readReg .pier addr).2 = b := ⟨_, rfl⟩
  rw [hb] at hside hrun
  have hcfg : b.rn Reg.PIER_CFG = s.rn Reg.PIER_CFG := hside.rn (readChanges_not (by decide))
  have hnode : b.nodeId = s.nodeId := hside.rn (readChanges_not (by decide))
  have hq : b.outQ 7 = s.outQ 7 := congrArg (fun p : PierState => tabGetD p.outq 7 {}) hside.pier
  obtain ⟨u, hu, hwords, hpier⟩ := State.respond_pier_spec (s := b) (q := q) (type := 0x10) (status := 0) (body := beBytes 4 v) (hcfg ▸ hon) (hq.trans hempty)
    (by rw [beBytes_length]; decide)
  refine ⟨u, hread.trans ((State.localSubmit_free hfree hwait).trans (hrun.trans hu)), ?_, fun c hc => ?_,
    sameHold_of_hold (hpier.hold.trans hside.hold)⟩
  · rw [hwords, if_pos rfl, hnode]
  · simp only [List.mem_cons, List.not_mem_nil, or_false, not_or] at hc
    obtain ⟨haddr', hstat, hirq⟩ := hc
    exact (hpier.rd c hstat hirq).trans (hside.rd fun h => haddr' h.1)

theorem State.holdNat_congr (h : t.hold = s.hold) (a n : Nat) : t.holdNat a n = s.holdNat a n := by
  unfold State.holdNat State.readHold State.holdByte
  rw [h]

/-- The WRITE of one word of Hold at or above staging, for a message of the Pier. -/
theorem State.qmpWrite_staging (hon : bit (s.rn Reg.PIER_CFG) 0 = true) (hempty : s.outQ 7 = {}) (hin : inHold addr = true) (halign : addr % 4 = 0)
    (hstage : s.stageBase ≤ addr) (hfree : s.localBlocked .pier = false) (hwait : s.ferry.localWait = []) :
    ∃ u, s.qmpWrite (.pier q) addr 0 [w] = u ∧ u.holdNat addr 4 = w.toNat
      ∧ (∀ b, b < addr ∨ addr + 4 ≤ b → u.holdByte b = s.holdByte b)
      ∧ (u.outQ 7).words = outPacket 3 0 (qmpBytes 1 0x11 0 q s.nodeId 0 0 []) ∧ RegsBut [Reg.PIER_OQ_STAT 7, Reg.PIER_IRQ_STAT] s u := by
  have haddr : addr < 2 ^ 32 := Nat.lt_of_lt_of_le (of_decide_eq_true hin).2 (by decide)
  obtain ⟨hclass, hoff, -⟩ := fClass_local haddr
  have hwrite : s.qmpWrite (.pier q) addr 0 [w]
      = s.localSubmit { door := .pier q, type := 0x11, op := 2, node := 0, dest := 0, space := 0, offset := addr, count := 1, data := [w] } := by
    unfold State.qmpWrite
    rw [if_neg (by simp [fMalformed_local haddr halign]), if_neg (by simp), if_pos hclass, hoff]
    rfl
  have hdenied : s.writeDenied addr = false := by simp [State.writeDenied, assigned, hin, halign, hstage]
  have hrun := s.localRun_pierWrite q addr w
  rw [hdenied, if_neg (by decide), s.writeReg_staging .pier w hin halign hstage] at hrun
  have hword := s.holdNat_writeHold addr w
  have hbyte := fun b => s.holdByte_writeHold_beside (a := addr) (b := b) w
  have hregs : (s.writeHold addr (leBytes 4 w.toNat)).regs = s.regs := rfl
  have hpier : (s.writeHold addr (leBytes 4 w.toNat)).pier = s.pier := rfl
  obtain ⟨b, hb⟩ : ∃ b, s.writeHold addr (leBytes 4 w.toNat) = b := ⟨_, rfl⟩
  rw [hb] at hrun hword hbyte hregs hpier
  have hrd : ∀ a, b.rd a = s.rd a := sameRegs_of_regs hregs
  have hcfg : b.rn Reg.PIER_CFG = s.rn Reg.PIER_CFG := congrArg BitVec.toNat (hrd _)
  have hq : b.outQ 7 = s.outQ 7 := congrArg (fun p : PierState => tabGetD p.outq 7 {}) hpier
  obtain ⟨u, hu, hwords, hside⟩ := State.respond_pier_spec (s := b) (q := q) (type := 0x11) (status := 0) (body := []) (hcfg ▸ hon) (hq.trans hempty) (by decide)
  refine ⟨u, hwrite.trans ((State.localSubmit_free hfree hwait).trans (hrun.trans hu)), ?_, fun c hc => ?_, ?_, fun c hc => ?_⟩
  · rw [State.holdNat_congr hside.hold, hword]
  · rw [State.holdByte, hside.hold]
    exact hbyte c hc
  · rw [hwords, if_pos rfl, show b.nodeId = s.nodeId from congrArg BitVec.toNat (hrd _)]
  · exact (hside.regsBut (by simp) (by simp) c hc).trans (hrd c)

/-- A WRITE of the tile class at an Escort is answered ACCESS and counted. -/
theorem State.qmpWrite_escort (hon : bit (s.rn Reg.PIER_CFG) 0 = true) (hempty : s.outQ 7 = {}) (hrole : s.role = 2) (hclass : fClass addr = 2)
    (hgood : fMalformed addr = false) :
    ∃ u, s.qmpWrite (.pier q) addr 0 [w] = u
      ∧ u.pair Reg.FERRY_ESCORT_TILE = min (s.pair Reg.FERRY_ESCORT_TILE + 1) (2 ^ 64 - 1)
      ∧ (u.outQ 7).words = outPacket 3 0 (qmpBytes 1 0x11 0 q s.nodeId 0 4 [])
      ∧ RegsBut [Reg.FERRY_ESCORT_TILE, Reg.FERRY_ESCORT_TILE + 4, Reg.PIER_OQ_STAT 7, Reg.PIER_IRQ_STAT] s u ∧ SameHold s u := by
  have htarget : s.fTarget addr = (4, fNode addr - 0x8000) := by
    unfold State.fTarget
    rw [hgood, if_neg (by decide), if_neg (by rw [hclass]; decide)]
    dsimp only
    rw [if_pos hrole]
  obtain ⟨b, hb⟩ : ∃ b, s.bump Reg.FERRY_ESCORT_TILE = b := ⟨_, rfl⟩
  have hwrite : s.qmpWrite (.pier q) addr 0 [w] = b.respond (.pier q) 0x11 4 [] := by
    unfold State.qmpWrite
    rw [if_neg (by simp [hgood]), if_neg (by simp), if_neg (by rw [hclass]; decide), htarget, ← hb]
    rfl
  have hrd : ∀ c, c ≠ Reg.FERRY_ESCORT_TILE → c ≠ Reg.FERRY_ESCORT_TILE + 4 → b.rd c = s.rd c := fun c h1 h2 => by
    rw [← hb]
    exact State.rd_bump_ne _ h1 h2
  have hcfg : b.rn Reg.PIER_CFG = s.rn Reg.PIER_CFG := congrArg BitVec.toNat (hrd _ (by decide) (by decide))
  have hq : b.outQ 7 = s.outQ 7 := by rw [← hb]; rfl
  obtain ⟨u, hu, hwords, hside⟩ := State.respond_pier_spec (s := b) (q := q) (type := 0x11) (status := 4) (body := []) (hcfg ▸ hon) (hq.trans hempty) (by decide)
  refine ⟨u, hwrite.trans hu, ?_, ?_, fun c hc => ?_, sameHold_of_hold (hside.hold.trans (by rw [← hb]; rfl))⟩
  · rw [hside.pair (by simp [Reg.FERRY_ESCORT_TILE, Reg.PIER_OQ_STAT, Reg.PIER_IRQ_STAT]), ← hb, State.pair_bump]
  · rw [hwords, if_neg (by decide), show b.nodeId = s.nodeId from congrArg BitVec.toNat (hrd _ (by decide) (by decide))]
  · simp only [List.mem_cons, List.not_mem_nil, or_false, not_or] at hc
    obtain ⟨h1, h2, hstat, hirq⟩ := hc
    exact (hside.rd c hstat hirq).trans (hrd c h1 h2)

/-! #### Requests for another node (R408) -/

/-- The message that relays a request, under a SEQ of the device's own. -/
def State.relayedBytes (s : State) (target type : Nat) (body : List Byte) : List Byte :=
  mgmtPacket 0 s.nodeId target (qmpBytes 4 type 0 ((s.ferry.relaySeq + 1) % 2 ^ 32) s.nodeId target 0 body)

/-- The state in which a request waits for its response. -/
def State.relayNoted (s : State) (d : Door) (type : Nat) : State :=
  { s with ferry := { s.ferry with
      relaySeq := (s.ferry.relaySeq + 1) % 2 ^ 32
      relayed := s.ferry.relayed ++ [⟨d, type, (s.ferry.relaySeq + 1) % 2 ^ 32, s.clk, s.ferryTimeout⟩] } }

theorem State.outGroups_route {r : Route} {target : Nat} (htopo : s.topo = 1) (hall : target ≠ 0xFFFFFFFF) (hroutes : s.twin.routes = [r])
    (hnode : r.node = target) (hgroup : r.group ≠ 3) : s.outGroups 3 target = [r.group] := by
  unfold State.outGroups
  rw [htopo, if_neg (by decide), if_neg hall, hroutes]
  simp [hnode, hgroup]

/-- What relaying reads of a state in which a request was admitted. -/
theorem State.qmpAdmitted_relays (s : State) (env : QmpEnv) : ∃ a, s.qmpAdmitted env = a
    ∧ (∀ c, c ≠ Reg.FERRY_QMP_RX → c ≠ Reg.FERRY_QMP_RX + 4 → a.rd c = s.rd c) ∧ a.twin = s.twin ∧ a.clk = s.clk ∧ a.out = s.out
    ∧ a.hold = s.hold ∧ a.ferry.relaySeq = s.ferry.relaySeq ∧ a.ferry.relayed = s.ferry.relayed ∧ a.phy = s.phy ∧ a.scan = s.scan := by
  obtain ⟨a, ha, hregs, -⟩ := s.qmpAdmitted_spec env
  refine ⟨a, ha, fun c h1 h2 => hregs c (by simp [h1, h2]), ?_⟩
  rw [← ha]
  exact ⟨rfl, rfl, rfl, rfl, rfl, rfl, rfl, rfl⟩

/-- A request that a session sends for another node, over the route to it. -/
theorem State.qmpRelay_eq {r : Route} {g : Fin 3} {type : Nat} {body : List Byte} (hserv : s.serviceMode = false) (hx : s.session? env.session = some x)
    (hauth : s.authFails (s.venueKey.map fun _ => x.key) env type body = false) (hfresh : seqFresh x env.seq = true) (hmeant : s.meant env = false)
    (htopo : s.topo = 1) (hall : env.target ≠ 0xFFFFFFFF) (hdup : s.twin.dupNode = false) (hroutes : s.twin.routes = [r])
    (hnode : r.node = env.target) (hgroup : r.group = g) {a : State} (ha : s.qmpAdmitted env = a) :
    s.qmpRelay (.qmp env) env.target type body = (a.relayNoted (.qmp env) type).groupSend g "MGMT" (a.relayedBytes env.target type body) := by
  obtain ⟨b, hb, hrd, htwin, -⟩ := s.qmpAdmitted_relays env
  obtain rfl : a = b := ha.symm.trans hb
  have hcheck : s.checkQmp env type body = (a, true) := by rw [State.checkQmp_fresh hserv hx hauth hfresh, ← State.qmpAdmitted, ha]
  have hself : a.nodeId = s.nodeId := congrArg BitVec.toNat (hrd _ (by decide) (by decide))
  obtain ⟨hzero, hother⟩ : env.target ≠ 0 ∧ env.target ≠ s.nodeId := by simpa [State.meant] using hmeant
  have hout : a.outGroups 3 env.target = [(g : Nat)] := by
    rw [← hgroup]
    refine State.outGroups_route ?_ hall (htwin ▸ hroutes) hnode (by rw [hgroup]; omega)
    rw [State.topo, State.fld, State.rn, hrd _ (by decide) (by decide)]
    exact htopo
  have hsend : (a.relayNoted (.qmp env) type).mgmtSend env.target
      (qmpBytes 4 type 0 ((a.ferry.relaySeq + 1) % 2 ^ 32) a.nodeId env.target 0 body)
      = (a.relayNoted (.qmp env) type).groupSend g "MGMT" (a.relayedBytes env.target type body) := by
    rw [State.mgmtSend, show (a.relayNoted (.qmp env) type).outGroups 3 env.target = [(g : Nat)] from hout, List.foldl_cons, List.foldl_nil,
      State.originate, if_neg (by rw [show (a.relayNoted (.qmp env) type).twin = a.twin from rfl, htwin, hdup]; decide)]
    rfl
  rw [State.qmpRelay]
  dsimp only
  rw [hcheck]
  dsimp only
  rw [if_neg (by rw [hself]; simp [hzero, hother]), hout, if_neg (show ¬ [(g : Nat)].isEmpty = true from Bool.false_ne_true)]
  exact hsend

/-- The relayed request waits, and leaves at once over a free group. -/
theorem State.relay_spec {g : Fin 3} {a : State} {d : Door} {target type : Nat} {body : List Byte} (hstat : a.fld (Reg.SLK_GRP_STAT g) 18 16 ≤ 6) :
    ∃ u, (a.relayNoted d type).groupSend g "MGMT" (a.relayedBytes target type body) = u
      ∧ u.ferry.relayed = a.ferry.relayed ++ [⟨d, type, (a.ferry.relaySeq + 1) % 2 ^ 32, a.clk, a.ferryTimeout⟩]
      ∧ (a.linkFree g = true → u.sent = .message "MGMT" g ((a.relayedBytes target type body).map (·.toNat)) :: a.sent)
      ∧ (∀ c, c ≠ Reg.SLK_GRP_TX g → c ≠ Reg.SLK_GRP_TX g + 4 → u.rd c = a.rd c) ∧ u.hold = a.hold := by
  obtain ⟨b, hb⟩ : ∃ b, a.relayNoted d type = b := ⟨_, rfl⟩
  obtain ⟨m, hm⟩ : ∃ m, a.relayedBytes target type body = m := ⟨_, rfl⟩
  have hclass : pkt m 1 1 / 32 = 6 := by
    rw [← hm]
    exact mgmtPacket_class ..
  obtain ⟨hregs, hhold, hout, hrelayed, hstat', hfree⟩ : b.regs = a.regs ∧ b.hold = a.hold ∧ b.sent = a.sent
      ∧ b.ferry.relayed = a.ferry.relayed ++ [⟨d, type, (a.ferry.relaySeq + 1) % 2 ^ 32, a.clk, a.ferryTimeout⟩]
      ∧ b.fld (Reg.SLK_GRP_STAT g) 18 16 ≤ 6 ∧ b.linkFree g = a.linkFree g := by
    rw [← hb]
    exact ⟨rfl, rfl, rfl, rfl, hstat, rfl⟩
  rw [hb, hm]
  have hpacket : b.groupSend g "MGMT" m = b.packet g "MGMT" m := if_neg (by rw [hclass]; exact Nat.not_lt.2 hstat')
  refine ⟨_, hpacket, ?_, fun h => ?_, fun c h1 h2 => ?_, (State.packet_hold ..).trans hhold⟩
  · rw [State.packet_ferry, hrelayed]
  · rw [(State.packet_free (hfree.trans h)).1, linkPort, if_pos g.isLt, hout]
  · exact (State.packet_group_rd g.isLt h1 h2).trans (sameRegs_of_regs hregs c)

/-! #### Requests and lines that wait too long (R423, R429) -/

/-- A Ferry in which nothing waits. -/
theorem State.ferryPump_settled (hout : s.ferry.out = []) (hwait : s.ferry.waiting = []) (hseqs : s.ferry.seqs = []) :
    ∃ u, s.ferryPump = u ∧ u.ferry.out = [] ∧ u.pier = s.pier ∧ u.hold = s.hold ∧ u.regs = (s.wn Reg.FERRY_OUTSTANDING 0).regs := by
  unfold State.ferryPump
  dsimp only
  rw [hout, hwait, List.filter_nil, List.foldl_nil]
  refine ⟨_, rfl, rfl, rfl, rfl, ?_⟩
  unfold State.ferrySettle State.ferryWaiting
  dsimp only
  rw [hseqs]
  rfl

/-- A transaction without response is answered TIMEOUT. -/
theorem State.timeout_spec {y : Txn} (hout : s.ferry.out = [y]) (htag : y.tag = n) (hposted : y.posted = false) (hseq : y.ofSeq = false)
    (hdoor : y.door = .pier q) (hwait : s.ferry.waiting = []) (hseqs : s.ferry.seqs = []) (hon : bit (s.rn Reg.PIER_CFG) 0 = true)
    (hempty : s.outQ 7 = {}) (hdue : y.sentAt + y.limit ≤ s.clk) :
    ∃ u, s.timeout n = u ∧ u.ferry.out = [] ∧ u.pair Reg.FERRY_TIMEOUTS = min (s.pair Reg.FERRY_TIMEOUTS + 1) (2 ^ 64 - 1)
      ∧ (u.outQ 7).words = outPacket 3 0 (qmpBytes 1 y.type 0 q s.nodeId 0 13 []) ∧ u.rn Reg.FERRY_OUTSTANDING = 0
      ∧ RegsBut [Reg.FERRY_TIMEOUTS, Reg.FERRY_TIMEOUTS + 4, Reg.FERRY_OUTSTANDING, Reg.PIER_OQ_STAT 7, Reg.PIER_IRQ_STAT] s u ∧ SameHold s u := by
  obtain ⟨b, hb⟩ : ∃ b, ({ s with ferry := { s.ferry with out := [] } } : State).bump Reg.FERRY_TIMEOUTS = b := ⟨_, rfl⟩
  have hrd : ∀ c, c ≠ Reg.FERRY_TIMEOUTS → c ≠ Reg.FERRY_TIMEOUTS + 4 → b.rd c = s.rd c := fun c h1 h2 => by
    rw [← hb]
    exact State.rd_bump_ne { s with ferry := { s.ferry with out := [] } } h1 h2
  have hcount : b.pair Reg.FERRY_TIMEOUTS = min (s.pair Reg.FERRY_TIMEOUTS + 1) (2 ^ 64 - 1) := by
    rw [← hb]
    exact State.pair_bump { s with ferry := { s.ferry with out := [] } } _
  obtain ⟨hbq, hbhold, hbout, hbwait, hbseqs⟩ : b.outQ 7 = {} ∧ b.hold = s.hold ∧ b.ferry.out = [] ∧ b.ferry.waiting = [] ∧ b.ferry.seqs = [] := by
    rw [← hb]
    exact ⟨hempty, rfl, rfl, hwait, hseqs⟩
  have hcfg : b.rn Reg.PIER_CFG = s.rn Reg.PIER_CFG := congrArg BitVec.toNat (hrd _ (by decide) (by decide))
  have hnode : b.nodeId = s.nodeId := congrArg BitVec.toNat (hrd _ (by decide) (by decide))
  obtain ⟨c, hc, hwords, hside⟩ := State.respond_pier_spec (s := b) (q := q) (type := y.type) (status := 13) (body := []) (hcfg ▸ hon) hbq (by decide)
  obtain ⟨u, hu, huout, hupier, huhold, huregs⟩ := State.ferryPump_settled (s := c) (by rw [hside.ferry, hbout]) (by rw [hside.ferry, hbwait])
    (by rw [hside.ferry, hbseqs])
  have hurd : ∀ a, a ≠ Reg.FERRY_OUTSTANDING → u.rd a = c.rd a := fun a ha => (sameRegs_of_regs huregs a).trans (State.rd_wr_ne _ _ ha)
  have hfind : s.ferry.out.find? (fun t => t.tag == n && !t.posted && s.elapsed t.sentAt t.limit) = some y := by
    rw [hout]
    simp [htag, hposted, State.elapsed, hdue]
  have htimeout : s.timeout n = u := by
    rw [← hu, ← hc, ← hb, State.timeout, hfind]
    dsimp only
    rw [hout, if_neg (by rw [hseq]; decide), hdoor]
    simp [htag]
  refine ⟨u, htimeout, huout, ?_, ?_, ?_, fun a ha => ?_, sameHold_of_hold (huhold.trans (hside.hold.trans hbhold))⟩
  · refine (State.pair_congr (hurd _ (by decide)) (hurd _ (by decide))).trans ((hside.pair ?_).trans hcount)
    simp [Reg.FERRY_TIMEOUTS, Reg.PIER_OQ_STAT, Reg.PIER_IRQ_STAT]
  · rw [State.outQ, hupier, ← State.outQ, hwords, if_neg (by decide), hnode]
  · exact (congrArg BitVec.toNat (sameRegs_of_regs huregs _)).trans (State.rn_wn_self ..)
  · simp only [List.mem_cons, List.not_mem_nil, or_false, not_or] at ha
    obtain ⟨h1, h2, hout', hstat, hirq⟩ := ha
    exact (hurd a hout').trans ((hside.rd a hstat hirq).trans (hrd a h1 h2))

/-- What discarding a line of sixteen words of which none was taken comes to. -/
theorem State.lineDiscard_eq (s : State) {l : Line} (hwords : l.words.length = 16) (htaken : l.taken = List.replicate 16 false) :
    s.lineDiscard l = (s.bumpBy (Reg.FERRY_RANGE_DISC l.range) 16).setPair (Reg.FERRY_RANGE_DADDR l.range)
      (l.base + 60 + (bit ((s.bumpBy (Reg.FERRY_RANGE_DISC l.range) 16).rn (Reg.FERRY_RANGE_DADDR l.range + 4)) 31).toNat * 2 ^ 63) := by
  have hleft : ((List.range 16).filter fun i => !((List.replicate 16 false).getD i true)) = List.range 16 := by decide
  unfold State.lineDiscard
  dsimp only
  rw [hwords, htaken, hleft]
  rfl

theorem State.lineExpire_spec {l : Line} (hlines : s.ferry.lines = [l]) (hdue : l.since + us 100 ≤ s.clk) (hwords : l.words.length = 16)
    (htaken : l.taken = List.replicate 16 false) (hbase : l.base < 2 ^ 40) (hrange : l.range < 64) :
    ∃ u, s.lineExpire l.node 0 = u ∧ u.ferry.lines = []
      ∧ u.pair (Reg.FERRY_RANGE_DISC l.range) = min (s.pair (Reg.FERRY_RANGE_DISC l.range) + 16) (2 ^ 64 - 1)
      ∧ u.pair (Reg.FERRY_RANGE_DADDR l.range) % 2 ^ 63 = l.base + 60
      ∧ bit (u.rn (Reg.FERRY_RANGE_DADDR l.range + 4)) 31 = bit (s.rn (Reg.FERRY_RANGE_DADDR l.range + 4)) 31
      ∧ RegsBut [Reg.FERRY_RANGE_DISC l.range, Reg.FERRY_RANGE_DISC l.range + 4, Reg.FERRY_RANGE_DADDR l.range,
        Reg.FERRY_RANGE_DADDR l.range + 4] s u ∧ SameHold s u := by
  obtain ⟨b, hb⟩ : ∃ b, ({ s with ferry := { s.ferry with lines := [] } } : State) = b := ⟨_, rfl⟩
  have hbpair : ∀ a, b.pair a = s.pair a := fun a => by rw [← hb]; rfl
  have hbrd : ∀ a, b.rd a = s.rd a := fun a => by rw [← hb]; rfl
  have hexpire : s.lineExpire l.node 0 = b.lineDiscard l := by
    rw [← hb, State.lineExpire, hlines]
    simp [State.elapsed, hdue, State.lineDrop, hlines]
  rw [State.lineDiscard_eq b hwords htaken] at hexpire
  obtain ⟨c, hc⟩ : ∃ c, b.bumpBy (Reg.FERRY_RANGE_DISC l.range) 16 = c := ⟨_, rfl⟩
  have hcrd : ∀ a, a ≠ Reg.FERRY_RANGE_DISC l.range → a ≠ Reg.FERRY_RANGE_DISC l.range + 4 → c.rd a = s.rd a := fun a h1 h2 => by
    rw [← hc]
    exact (State.rd_setPair_ne _ _ h1 h2).trans (hbrd a)
  have hcpair : c.pair (Reg.FERRY_RANGE_DISC l.range) = min (s.pair (Reg.FERRY_RANGE_DISC l.range) + 16) (2 ^ 64 - 1) := by
    rw [← hc, State.pair_bumpBy, hbpair]
  have hconflict : c.rn (Reg.FERRY_RANGE_DADDR l.range + 4) = s.rn (Reg.FERRY_RANGE_DADDR l.range + 4) :=
    congrArg BitVec.toNat (hcrd _ (by simp only [Reg.FERRY_RANGE_DADDR, Reg.FERRY_RANGE_DISC]; omega) (by simp only [Reg.FERRY_RANGE_DADDR, Reg.FERRY_RANGE_DISC]; omega))
  rw [hc, hconflict] at hexpire
  obtain ⟨x, hx⟩ : ∃ x, bit (s.rn (Reg.FERRY_RANGE_DADDR l.range + 4)) 31 = x := ⟨_, rfl⟩
  obtain ⟨e, he⟩ : ∃ e, l.base + 60 + x.toNat * 2 ^ 63 = e := ⟨_, rfl⟩
  have hxlt := x.toNat_le
  rw [hx, he] at hexpire
  rw [hx]
  obtain ⟨hclines, hchold⟩ : c.ferry.lines = [] ∧ c.hold = s.hold := by
    rw [← hc, ← hb]
    exact ⟨rfl, rfl⟩
  have hhigh : (c.setPair (Reg.FERRY_RANGE_DADDR l.range) e).rn (Reg.FERRY_RANGE_DADDR l.range + 4) = e / 2 ^ 32 % 2 ^ 32 := State.rn_wn_self ..
  have hpair := c.pair_setPair (Reg.FERRY_RANGE_DADDR l.range) e
  have hbit : (e / 2 ^ 32 % 2 ^ 32) / 2 ^ 31 % 2 = x.toNat := by omega
  refine ⟨_, hexpire, hclines, ?_, ?_, ?_, fun a ha => ?_, sameHold_of_hold hchold⟩
  · refine (State.pair_congr ?_ ?_).trans hcpair
    · exact State.rd_setPair_ne _ _ (by simp only [Reg.FERRY_RANGE_DADDR, Reg.FERRY_RANGE_DISC]; omega) (by simp only [Reg.FERRY_RANGE_DADDR, Reg.FERRY_RANGE_DISC]; omega)
    · exact State.rd_setPair_ne _ _ (by simp only [Reg.FERRY_RANGE_DADDR, Reg.FERRY_RANGE_DISC]; omega) (by simp only [Reg.FERRY_RANGE_DADDR, Reg.FERRY_RANGE_DISC]; omega)
  · rw [hpair]
    omega
  · rw [hhigh, bit, Nat.testBit_eq_decide_div_mod_eq, hbit]
    cases x <;> rfl
  · simp only [List.mem_cons, List.not_mem_nil, or_false, not_or] at ha
    obtain ⟨h1, h2, h3, h4⟩ := ha
    exact (State.rd_setPair_ne _ _ h3 h4).trans (hcrd a h1 h2)

/-! #### Ranges (R428) -/

/-- The words of a range entry that take a register. -/
def rangeTaken (rs : List Nat) : List Nat := [rs.getD 0 0, bits (rs.getD 1 0) 21 0, rs.getD 2 0, bits (rs.getD 3 0) 7 0]

theorem rangeTaken_fits {rs : List Nat} (h : ∀ x ∈ rs, x < 2 ^ 32) : (rangeTaken rs).map (· % 2 ^ 32) = rangeTaken rs := by
  have hget : ∀ i, rs.getD i 0 < 2 ^ 32 := fun i => by
    rw [List.getD_eq_getElem?_getD]
    cases hi : rs[i]? with
    | none => exact Nat.pow_pos (by decide)
    | some x => exact h x (List.mem_of_getElem? hi)
  have h1 : bits (rs.getD 1 0) 21 0 < 2 ^ 32 := Nat.lt_of_lt_of_le (bits_lt ..) (by decide)
  have h3 : bits (rs.getD 3 0) 7 0 < 2 ^ 32 := Nat.lt_of_lt_of_le (bits_lt ..) (by decide)
  simp only [rangeTaken, List.map_cons, List.map_nil, Nat.mod_eq_of_lt (hget 0), Nat.mod_eq_of_lt (hget 2), Nat.mod_eq_of_lt h1, Nat.mod_eq_of_lt h3]

theorem State.rdWords_congr {a b n : Nat} (h : ∀ i < n, t.rd (a + 4 * i) = s.rd (b + 4 * i)) : t.rdWords a n = s.rdWords b n :=
  List.map_congr_left fun i hi => congrArg BitVec.toNat (h i (List.mem_range.1 hi))

/-- The state in which a range has no conflict. -/
def State.rangeCleared (s : State) (i : Nat) : State :=
  { s with ferry := { s.ferry with conflicts := s.ferry.conflicts.filter fun c => c.1 != i } }

theorem State.setRange_eq (s : State) (i : Nat) (rs : List Nat) : s.setRange i rs
    = ((s.rangeCleared i).setFld (Reg.FERRY_RANGE_DADDR i + 4) 31 31 0).wrWords (Reg.FERRY_RANGE (4 * i)) (rangeTaken rs) := rfl

theorem State.rangeGo_good {rs : List Nat} (hrs : s.rdWords (Reg.FERRY_RANGE_WIN 0) 4 = rs) (hgood : s.rangeReason rs = 0) :
    s.rangeGo = (s.setRange (s.fld Reg.FERRY_RANGE_SEL 5 0) rs).wn Reg.FERRY_RANGE_STAT 0 := by
  unfold State.rangeGo
  rw [hrs]
  dsimp only
  rw [hgood]
  rfl

/-- A range entry whose window is in order. -/
theorem State.rangeGo_applied {rs : List Nat} (hrs : s.rdWords (Reg.FERRY_RANGE_WIN 0) 4 = rs) (hgood : s.rangeReason rs = 0)
    (hv : s.fld Reg.FERRY_RANGE_SEL 5 0 = v) :
    ∃ u, s.rangeGo = u ∧ u.rdWords (Reg.FERRY_RANGE (4 * v)) 4 = rangeTaken rs ∧ u.rn Reg.FERRY_RANGE_STAT = 0
      ∧ (u.ferry.conflicts.any fun c => c.1 == v) = false
      ∧ RegsBut [Reg.FERRY_RANGE (4 * v), Reg.FERRY_RANGE (4 * v) + 4, Reg.FERRY_RANGE (4 * v) + 8, Reg.FERRY_RANGE (4 * v) + 12,
        Reg.FERRY_RANGE_STAT, Reg.FERRY_RANGE_DADDR v + 4] s u ∧ SameHold s u := by
  have hfits : ∀ x ∈ rs, x < 2 ^ 32 := fun x hx => by
    rw [← hrs] at hx
    obtain ⟨i, -, rfl⟩ := List.mem_map.1 hx
    exact BitVec.isLt _
  obtain ⟨x, hx⟩ : ∃ x, s.rangeCleared v = x := ⟨_, rfl⟩
  obtain ⟨hxrd, hxconf, hxhold⟩ : (∀ a, x.rd a = s.rd a) ∧ (x.ferry.conflicts.any fun c => c.1 == v) = false ∧ x.hold = s.hold := by
    rw [← hx]
    exact ⟨fun _ => rfl, by simp [State.rangeCleared], rfl⟩
  obtain ⟨b, hb⟩ : ∃ b, x.setFld (Reg.FERRY_RANGE_DADDR v + 4) 31 31 0 = b := ⟨_, rfl⟩
  have hgo : s.rangeGo = (b.wrWords (Reg.FERRY_RANGE (4 * v)) (rangeTaken rs)).wn Reg.FERRY_RANGE_STAT 0 := by
    rw [← hb, ← hx, ← State.setRange_eq, ← hv]
    exact s.rangeGo_good hrs hgood
  have hbside : RegSide (· = Reg.FERRY_RANGE_DADDR v + 4) x b := by
    rw [← hb]
    exact (RegSide.refl _ x).setFld _ _ _ rfl
  have hwords : (b.wrWords (Reg.FERRY_RANGE (4 * v)) (rangeTaken rs)).rdWords (Reg.FERRY_RANGE (4 * v)) 4 = rangeTaken rs :=
    (State.rdWords_wrWords b (Reg.FERRY_RANGE (4 * v)) (rangeTaken rs)).trans (rangeTaken_fits hfits)
  have hside : RegSide (fun a => ∃ i < 4, a = Reg.FERRY_RANGE (4 * v) + 4 * i) b (b.wrWords (Reg.FERRY_RANGE (4 * v)) (rangeTaken rs)) :=
    (RegSide.refl _ b).wrWords _ fun i hi => ⟨i, hi, rfl⟩
  obtain ⟨c, hc⟩ : ∃ c, b.wrWords (Reg.FERRY_RANGE (4 * v)) (rangeTaken rs) = c := ⟨_, rfl⟩
  rw [hc] at hgo hwords hside
  refine ⟨_, hgo, ?_, ?_, ?_, fun a ha => ?_, sameHold_of_hold (hside.hold.trans (hbside.hold.trans hxhold))⟩
  · rw [← hwords]
    refine State.rdWords_congr fun i hi => State.rd_wr_ne _ _ ?_
    simp only [Reg.FERRY_RANGE, Reg.FERRY_RANGE_STAT]
    omega
  · exact State.rn_wn_self ..
  · rw [← hxconf, ← hbside.ferry, ← hside.ferry]
    exact congrArg (fun f : FerryState => f.conflicts.any fun c => c.1 == v) ((RegSide.refl (· = Reg.FERRY_RANGE_STAT) c).wn 0 rfl).ferry
  · simp only [List.mem_cons, List.not_mem_nil, or_false, not_or] at ha
    obtain ⟨h0, h1, h2, h3, hstat, hconf⟩ := ha
    refine (State.rd_wr_ne _ _ hstat).trans ((hside.rd ?_).trans ((hbside.rd hconf).trans (hxrd a)))
    rintro ⟨i, hi, rfl⟩
    omega

theorem State.rangeGo_refused (hv : s.rangeReason (s.rdWords (Reg.FERRY_RANGE_WIN 0) 4) = v) (hne : v ≠ 0) :
    s.rangeGo = s.wn Reg.FERRY_RANGE_STAT (1 + 2 * v) := by
  rw [State.rangeGo, hv]
  cases v with
  | zero => exact absurd rfl hne
  | succ n => rfl

/-- A reason fits its field. -/
theorem State.rangeReason_le (s : State) (w : List Nat) : s.rangeReason w ≤ 3 := by
  unfold State.rangeReason
  dsimp only
  split_ifs <;> decide

/-! #### The Ferry's settings (R433) -/

/-- The address past the last word of a register's outermost row. -/
def RegDesc.top (d : RegDesc) : Nat := d.base + (d.dims.head?.map fun p => p.1 * p.2).getD 1

theorem RegDesc.not_covers_above {d : RegDesc} {a : Nat} (hpos : d.dims.all (fun p => decide (0 < p.2)) = true) (h : d.top ≤ a) : d.covers a = false := by
  obtain ⟨base, dims, _⟩ := d
  cases dims with
  | nil =>
    have : a - base ≠ 0 := by
      simp [RegDesc.top] at h
      omega
    simp [RegDesc.covers, inDims, this]
  | cons p ds =>
    have hst : 0 < p.2 := by
      have := List.all_eq_true.1 hpos p List.mem_cons_self
      simpa using this
    have hfar : ¬ (a - base) / p.2 < p.1 := by
      rw [Nat.div_lt_iff_lt_mul hst]
      simp [RegDesc.top] at h
      omega
    simp [RegDesc.covers, inDims, hfar]

/-- The descriptor of FERRY_NODE_MAP (Table 18.9). -/
def nodeMapDesc : RegDesc := ⟨0x102004, [(1024, 4)], .rw, 0, 0xffffffff, false, false⟩

theorem regDesc?_nodeMap (k : Fin 1024) : regDesc? (Reg.FERRY_NODE_MAP k) = some nodeMapDesc := by
  have hblock : Reg.FERRY_NODE_MAP k / 0x10000 = 16 := by
    simp only [Reg.FERRY_NODE_MAP]
    omega
  have hlow : 0x102004 ≤ Reg.FERRY_NODE_MAP k := Nat.le_add_right _ _
  have hlist : blockRegs 16 = regsFerry.dropLast ++ [nodeMapDesc] := by decide
  have hbelow : ∀ d ∈ regsFerry.dropLast, d.dims.all (fun p => decide (0 < p.2)) = true ∧ d.top ≤ 0x102004 := by decide
  have hnone : regsFerry.dropLast.find? (fun d => d.covers (Reg.FERRY_NODE_MAP k)) = none := by
    refine List.find?_eq_none.2 fun d hd => ?_
    obtain ⟨hpos, htop⟩ := hbelow d hd
    rw [RegDesc.not_covers_above hpos (htop.trans hlow)]
    decide
  have hcovers : nodeMapDesc.covers (Reg.FERRY_NODE_MAP k) = true := by
    simp [RegDesc.covers, inDims, nodeMapDesc, Reg.FERRY_NODE_MAP]
  rw [regDesc?, hblock, hlist, List.find?_append, hnone]
  simp [hcovers]
theorem wmask_nodeMap (k : Fin 1024) : wmask (Reg.FERRY_NODE_MAP k) = 2 ^ 32 - 1 := by
  have hwin : winMask (Reg.FERRY_NODE_MAP k) = 2 ^ 32 - 1 := by
    obtain ⟨a, ha⟩ : ∃ a, Reg.FERRY_NODE_MAP k = a := ⟨_, rfl⟩
    have hrange : 0x102004 ≤ a ∧ a < 0x103004 := by
      rw [← ha]
      simp only [Reg.FERRY_NODE_MAP]
      omega
    rw [ha, winMask]
    iterate 10 rw [if_neg (by omega)]
    rfl
  rw [wmask, regDesc?_nodeMap, hwin]
  rfl

theorem State.ferryWrite_timeout (s : State) (req : Requester) (w : Word) (hok : 100 ≤ bits w.toNat 16 0 ∧ bits w.toNat 16 0 ≤ 100000) :
    ∃ u, s.ferryWrite req .timeout w.toNat = u ∧ u.fld Reg.FERRY_TIMEOUT 16 0 = bits w.toNat 16 0 ∧ RegsBut [Reg.FERRY_TIMEOUT] s u ∧ SameHold s u := by
  have hwrite : s.ferryWrite req .timeout w.toNat = s.wn Reg.FERRY_TIMEOUT (w.toNat &&& wmask Reg.FERRY_TIMEOUT) := if_pos (decide_eq_true hok)
  refine ⟨_, hwrite, ?_, (RegsBut.refl _ s).wn (by simp) _, fun _ => rfl⟩
  have hmask : wmask Reg.FERRY_TIMEOUT = 2 ^ 17 - 1 := by decide
  rw [State.fld, State.rn_wn_self, hmask, Nat.and_two_pow_sub_one_eq_mod]
  simp only [bits]
  omega

theorem State.ferryWrite_nodeMap (s : State) (req : Requester) (k : Fin 1024) (w : Word) (hne : w ≠ 0xFFFFFFFF#32) :
    ∃ u, s.ferryWrite req (.nodeMap (k + 1)) w.toNat = u ∧ u.rn (Reg.FERRY_NODE_MAP k) = w.toNat ∧ RegsBut [Reg.FERRY_NODE_MAP k] s u ∧ SameHold s u := by
  have hok : (w.toNat != 0xFFFFFFFF) = true := by
    simpa using fun h => hne (BitVec.eq_of_toNat_eq h)
  have hwrite : s.ferryWrite req (.nodeMap (k + 1)) w.toNat = s.wn (Reg.FERRY_NODE_MAP k) (w.toNat &&& wmask (Reg.FERRY_NODE_MAP k)) := by
    unfold State.ferryWrite
    dsimp only
    rw [if_pos (by omega), hok, Nat.add_sub_cancel]
    rfl
  refine ⟨_, hwrite, ?_, (RegsBut.refl _ s).wn (by simp) _, fun _ => rfl⟩
  rw [State.rn_wn_self, wmask_nodeMap, Nat.and_two_pow_sub_one_eq_mod, Nat.mod_mod]
  exact Nat.mod_eq_of_lt w.isLt

/-! #### Saves (R507) -/

theorem State.programBlocks_only (s : State) (a : Nat) (bs : List (List Byte)) : ∃ out, s.programBlocks a bs = { s with out := out } := by
  induction bs generalizing s a with
  | nil => exact ⟨s.out, rfl⟩
  | cons b bs ih =>
    obtain ⟨out, h⟩ := ih (s.program a b) (a + 4096)
    exact ⟨out, h⟩

/-- A write of settings leaves all but the memory and what is sent to it. -/
theorem State.writeSettings_only (s : State) (area schema tag : Nat) (rs : List MRecord) :
    ∃ nvm out, s.writeSettings area schema tag rs = { s with nvm := nvm, out := out } := by
  have hprogram : ∀ (u : State) (half : Nat) (x : Settings), ∃ out, u.programSettings half x = { u with out := out } := fun u half x => by
    obtain ⟨out, h⟩ := u.programBlocks_only (0x100000 + half * 0x80000 + 4096) x.blocks
    rw [State.programSettings, h]
    exact ⟨_, rfl⟩
  rw [State.writeSettings]
  obtain ⟨out, h⟩ := hprogram { s with nvm := { s.nvm with settings := tabSet s.nvm.settings _ _ } } _ _
  exact ⟨_, out, h⟩

/-- Settles O51: each transfer runs at the local port, leaves over its route, or is answered at once. -/
theorem qmpTransfers : Obligations.QmpTransfers := by
  unfold Obligations.QmpTransfers
  intro dt addr q n v w k g env body x r y l rs req s hcore hserv
  refine ⟨?_, ?_, ?_, ?_, ?_, ?_, ?_, ?_, ?_, ?_, ?_, ?_, ?_, ?_⟩
  · intro hon hempty haddr halign ha hfree hwait hv
    obtain ⟨u, hu, hp⟩ := State.qmpRead_spec (s := (s.advance dt).asked .pier) (q := q) (v := v) hon hempty haddr halign ha hfree hwait
      ((State.readReg_asked ..).trans hv)
    exact completes_admitted rfl hcore (State.admitReq_pier_open q _ _ hserv) hu hp
  · intro hon hempty hbad
    obtain ⟨u, hu, hwords, hside⟩ := State.respond_pier_spec (s := (s.advance dt).asked .pier) (q := q) (type := 0x10) (status := 6) (body := [])
      hon hempty (by decide)
    refine completes_admitted rfl hcore (State.admitReq_pier_open q _ _ hserv) (u := u) ?_
      ⟨hwords, hside.regsBut (by simp) (by simp), sameHold_of_hold hside.hold⟩
    rw [← hu]
    exact if_pos (by tauto)
  · intro hon hempty hin halign hstage hfree hwait
    obtain ⟨u, hu, hword, hbyte, hp⟩ := State.qmpWrite_staging (s := (s.advance dt).asked .pier) (q := q) (w := w) hon hempty hin halign hstage hfree hwait
    exact completes_admitted rfl hcore (State.admitReq_pier_open q _ _ hserv) hu ⟨hword, hbyte n, hp⟩
  · intro hon hempty hrole hclass hgood
    obtain ⟨u, hu, hp⟩ := State.qmpWrite_escort (s := (s.advance dt).asked .pier) (q := q) (w := w) hon hempty hrole hclass hgood
    exact completes_admitted rfl hcore (State.admitReq_pier_open q _ _ hserv) hu hp
  · intro hx hauth hfresh hmeant htopo hall hdup hroutes hnode hgroup hstat
    obtain ⟨a, ha, hrd, htwin, hclk, hout, hhold, hseq, hrelayed, hphy, -⟩ := (s.advance dt).qmpAdmitted_relays env
    have heq := State.qmpRelay_eq (s := s.advance dt) (type := n) (body := body) hserv hx hauth hfresh hmeant htopo hall hdup hroutes hnode hgroup ha
    have hbelow : ∀ c, c < 0x100000 → a.rd c = s.rd c := fun c hc => hrd c (by unfold Reg.FERRY_QMP_RX; omega) (by unfold Reg.FERRY_QMP_RX; omega)
    have hgrp : Reg.SLK_GRP_STAT g < 0x100000 := by simp only [Reg.SLK_GRP_STAT]; omega
    have hgrpStat : a.rd (Reg.SLK_GRP_STAT g) = s.rd (Reg.SLK_GRP_STAT g) := hbelow _ hgrp
    obtain ⟨u, hu, hurel, husent, hurd, huhold⟩ := State.relay_spec (g := g) (a := a) (d := .qmp env) (target := env.target) (type := n) (body := body)
      (by rw [State.fld, State.rn, hgrpStat]; exact hstat)
    have hlanes : LanesSame (s.advance dt) a := .of_regs fun c _ hc => hbelow c (by omega)
    have hnodeId : a.nodeId = s.nodeId := congrArg BitVec.toNat (hbelow _ (by decide))
    have htimeout : a.ferryTimeout = s.ferryTimeout := by
      rw [State.ferryTimeout, State.fld, State.rn, hrd _ (by decide) (by decide)]
      rfl
    have hfree : a.linkFree g = (s.advance dt).linkFree g := hlanes.linkFree g.isLt hgrpStat (congrArg (fun p : PhyState => tabGetD p.tx (g : Nat) {}) hphy) hclk
    refine completes_eq rfl hcore (heq.trans hu) ⟨?_, fun h => ?_, fun c hc => ?_, sameHold_of_hold (huhold.trans hhold)⟩
    · rw [acted_ferry, hurel, hseq, hrelayed, hclk, htimeout]
      rfl
    · refine (husent (hfree.trans h)).trans ?_
      rw [State.relayedBytes, hnodeId, hseq, State.sent, hout]
      rfl
    · simp only [List.mem_cons, List.not_mem_nil, or_false, not_or] at hc
      obtain ⟨h1, h2, h3, h4⟩ := hc
      exact (hurd c h3 h4).trans (hrd c h1 h2)
  · intro hout htag hposted hseq hdoor hwait hseqs hon hempty hdue
    obtain ⟨u, hu, hp⟩ := State.timeout_spec (s := s.advance dt) hout htag hposted hseq hdoor hwait hseqs hon hempty hdue
    exact completes_eq rfl hcore hu hp
  · intro hlines hdue hwords htaken hbase hrange
    obtain ⟨u, hu, hp⟩ := State.lineExpire_spec (s := s.advance dt) hlines hdue hwords htaken hbase hrange
    exact completes_eq rfl hcore hu hp
  · intro hrs hgood hv
    obtain ⟨u, hu, hp⟩ := State.rangeGo_applied (s := s.advance dt) hrs hgood hv
    exact completes_eq rfl hcore hu hp
  · intro hv hne
    have hle := s.rangeReason_le (s.rdWords (Reg.FERRY_RANGE_WIN 0) 4)
    refine completes_eq rfl hcore (State.rangeGo_refused (s := s.advance dt) hv hne) ⟨?_, (RegsBut.refl _ _).wn (by simp) _, fun _ => rfl⟩
    exact (State.rn_wn_self ..).trans (Nat.mod_eq_of_lt (by omega))
  · intro hok
    obtain ⟨u, hu, hp⟩ := (s.advance dt).ferryWrite_timeout req w hok
    exact completes_eq rfl hcore hu hp
  · intro hlow
    refine completes_eq rfl hcore (u := (s.advance dt).accErr req Reg.FERRY_TIMEOUT true false) ?_
      ⟨State.pair_accErr .., (s.advance dt).regsBut_accErr req Reg.FERRY_TIMEOUT true false,
        (s.advance dt).sameHold_accErr req Reg.FERRY_TIMEOUT true false⟩
    exact if_neg fun h => absurd (of_decide_eq_true h).1 (by omega)
  · intro hne
    obtain ⟨u, hu, hp⟩ := (s.advance dt).ferryWrite_nodeMap req k w hne
    exact completes_eq rfl hcore hu hp
  · intro hwarn
    exact completes_admitted (c := .saveSettings dt (.pier q)) rfl hcore (State.admitReq_pier_open q _ _ hserv) (if_pos hwarn) ⟨rfl, fun _ => rfl, fun _ => rfl⟩
  · intro hwarn hon hempty
    obtain ⟨b, hb⟩ : ∃ b, (s.advance dt).asked .pier = b := ⟨_, rfl⟩
    obtain ⟨nvm, out, hsave⟩ := b.writeSettings_only (b.fld Reg.SVC_STAT 0 0) b.nvm.schema b.nvm.tag b.settingsRecords
    obtain ⟨c, hc⟩ : ∃ c : State, { b with nvm := nvm, out := out } = c := ⟨_, rfl⟩
    obtain ⟨hcregs, hcpier, hchold⟩ : c.regs = s.regs ∧ c.pier = s.pier ∧ c.hold = s.hold := by
      rw [← hc, ← hb]
      exact ⟨rfl, rfl, rfl⟩
    have hcfg : c.rn Reg.PIER_CFG = s.rn Reg.PIER_CFG := congrArg BitVec.toNat (sameRegs_of_regs hcregs _)
    have hnode : c.nodeId = s.nodeId := congrArg BitVec.toNat (sameRegs_of_regs hcregs _)
    obtain ⟨u, hu, hwords, hside⟩ := State.respond_pier_spec (s := c) (q := q) (type := 0x51) (status := 0) (body := []) (hcfg ▸ hon)
      ((congrArg (fun p : PierState => tabGetD p.outq 7 {}) hcpier).trans hempty) (by decide)
    rw [hnode] at hwords
    refine completes_admitted (c := .saveSettings dt (.pier q)) rfl hcore (State.admitReq_pier_open q _ _ hserv) (u := u) ?_
      ⟨hwords, sameHold_of_hold (hside.hold.trans hchold)⟩
    rw [show (s.advance dt).asked (doorReq (.pier q)) = b from hb, ← hu, ← hc, ← hsave]
    exact if_neg (by rw [← hb]; simp [State.asked, hwarn])

end Sys2Proof.Machine
end


section
/-! ### The state of an Ethernet MAC (R301 to R312) -/

namespace Sys2Proof.Machine

variable {s t u : State} {m : Nat} {p q : Nat → Prop}

/-- Two states that differ in the MACs, and in no register but those of p. -/
def MacSide (p : Nat → Prop) (s t : State) : Prop :=
  ∃ regs macs, t = { s with regs := regs, macs := macs } ∧ ∀ a, ¬ p a → t.rd a = s.rd a

namespace MacSide

theorem refl (p : Nat → Prop) (s : State) : MacSide p s s := ⟨_, _, rfl, fun _ _ => rfl⟩

theorem trans (h : MacSide p s t) (k : MacSide p t u) : MacSide p s u := by
  obtain ⟨_, _, rfl, h⟩ := h
  obtain ⟨r, l, hu, k⟩ := k
  exact ⟨r, l, hu, fun a ha => (k a ha).trans (h a ha)⟩

theorem mono (h : MacSide p s t) (hpq : ∀ a, p a → q a) : MacSide q s t := by
  obtain ⟨r, l, ht, h⟩ := h
  exact ⟨r, l, ht, fun a ha => h a fun hp => ha (hpq a hp)⟩

theorem of_regSide (h : RegSide p s t) : MacSide p s t := by
  obtain ⟨r, rfl, h⟩ := h
  exact ⟨r, s.macs, rfl, h⟩

theorem setMac (h : MacSide p s t) (m : Nat) (x : MacState) : MacSide p s (t.setMac m x) :=
  h.trans ⟨_, _, rfl, fun _ _ => rfl⟩

theorem rd (h : MacSide p s t) {a : Nat} (ha : ¬ p a) : t.rd a = s.rd a := by
  obtain ⟨_, _, _, h⟩ := h
  exact h a ha

theorem rn (h : MacSide p s t) {a : Nat} (ha : ¬ p a) : t.rn a = s.rn a := congrArg BitVec.toNat (h.rd ha)
theorem hold (h : MacSide p s t) : t.hold = s.hold := by obtain ⟨_, _, rfl, _⟩ := h; rfl
theorem out (h : MacSide p s t) : t.out = s.out := by obtain ⟨_, _, rfl, _⟩ := h; rfl
theorem clk (h : MacSide p s t) : t.clk = s.clk := by obtain ⟨_, _, rfl, _⟩ := h; rfl
theorem flt (h : MacSide p s t) : t.flt = s.flt := by obtain ⟨_, _, rfl, _⟩ := h; rfl
theorem regsBut {l : List Nat} (h : MacSide (· ∈ l) s t) : RegsBut l s t := fun _ ha => h.rd ha

end MacSide

/-! #### Pauses -/

theorem State.paused_congr (hmac : t.mac m = s.mac m) (hclk : t.clk = s.clk) (q : Nat) : t.paused m q = s.paused m q := by
  rw [State.paused, State.paused, hmac, hclk]

/-- The flags of the queues, set one after another. -/
theorem State.pauseFlags_spec (u : State) (m : Nat) (l : List Nat) (hl : ∀ q ∈ l, q < 8) :
    RegSide (· = Reg.MAC_STAT m) u (l.foldl (fun s q => s.setFld (Reg.MAC_STAT m) (3 + q) (3 + q) (s.paused m q).toNat) u)
      ∧ ∀ i < 32, bit ((l.foldl (fun s q => s.setFld (Reg.MAC_STAT m) (3 + q) (3 + q) (s.paused m q).toNat) u).rn (Reg.MAC_STAT m)) i
        = if 3 ≤ i ∧ i - 3 ∈ l then u.paused m (i - 3) else bit (u.rn (Reg.MAC_STAT m)) i := by
  induction l generalizing u with
  | nil => exact ⟨.refl _ u, fun i _ => by simp⟩
  | cons q l ih =>
    have hq := hl q List.mem_cons_self
    have hside : RegSide (· = Reg.MAC_STAT m) u (u.setFld (Reg.MAC_STAT m) (3 + q) (3 + q) (u.paused m q).toNat) := (RegSide.refl _ u).setFld _ _ _ rfl
    obtain ⟨hrest, hbits⟩ := ih (u.setFld (Reg.MAC_STAT m) (3 + q) (3 + q) (u.paused m q).toNat) fun r hr => hl r (List.mem_cons_of_mem _ hr)
    refine ⟨hside.trans hrest, fun i hi => ?_⟩
    have hpaused : (u.setFld (Reg.MAC_STAT m) (3 + q) (3 + q) (u.paused m q).toNat).paused m (i - 3) = u.paused m (i - 3) :=
      State.paused_congr rfl rfl _
    rw [List.foldl_cons, hbits i hi, hpaused]
    by_cases hin : 3 ≤ i ∧ i - 3 ∈ l
    · rw [if_pos hin, if_pos ⟨hin.1, List.mem_cons_of_mem _ hin.2⟩]
    rw [if_neg hin]
    by_cases hiq : i = 3 + q
    · subst hiq
      rw [State.bit_setFld_same _ hi, if_pos ⟨by omega, by simp⟩, Nat.add_sub_cancel_left]
      cases u.paused m q <;> rfl
    · rw [State.bit_setFld_beside _ le_rfl (by omega) (by omega), if_neg]
      rintro ⟨h3, hmem⟩
      rcases List.mem_cons.1 hmem with h | h
      · omega
      · exact hin ⟨h3, h⟩

/-- The registers that counting paused time sets. -/
@[reducible] def pauseReg (m a : Nat) : Prop := a = Reg.MAC_PAUSED_NS m ∨ a = Reg.MAC_PAUSED_NS m + 4 ∨ a = Reg.MAC_STAT m

/-- The spans of paused time with those since the last count (R309). -/
def pauseSpans (x : MacState) (clk : Nat) : Tab (List (Nat × Nat)) :=
  x.timers.foldl (fun (sp : Tab (List (Nat × Nat))) t =>
    let e := max x.counted (min t.2 clk)
    if x.counted < e then tabMod sp t.1 [] fun l => ((x.counted, e) :: l).take 1024 else sp) x.spans

/-- Paused time in clocks with that since the last count. -/
def pauseClks (x : MacState) (clk : Nat) : Nat :=
  x.pausedClks + x.timers.foldl (fun a t => max a (max x.counted (min t.2 clk) - x.counted)) 0

/-- A MAC with its paused time counted up to a clock. -/
def pauseCounted (x : MacState) (clk : Nat) : MacState := { x with counted := clk, spans := pauseSpans x clk, pausedClks := pauseClks x clk }

/-- The flags of paused queues follow their timers. -/
def State.pauseFlags (s : State) (m : Nat) : State :=
  (List.range 8).foldl (fun s q => s.setFld (Reg.MAC_STAT m) (3 + q) (3 + q) (s.paused m q).toNat) s

theorem State.pauseCount_eq (s : State) (m : Nat) : s.pauseCount m
    = ((s.setMac m (pauseCounted (s.mac m) s.clk)).setPair (Reg.MAC_PAUSED_NS m) (pauseClks (s.mac m) s.clk * 5 / 4)).pauseFlags m := by
  unfold State.pauseCount State.pauseFlags pauseCounted pauseSpans pauseClks
  rfl

/-- What counting paused time comes to. -/
theorem State.pauseCount_spec (s : State) (m : Nat) : ∃ u, s.pauseCount m = u ∧ u.mac m = pauseCounted (s.mac m) s.clk ∧ MacSide (pauseReg m) s u
    ∧ ∀ i < 32, bit (u.rn (Reg.MAC_STAT m)) i = if 3 ≤ i ∧ i < 11 then s.paused m (i - 3) else bit (s.rn (Reg.MAC_STAT m)) i := by
  obtain ⟨x, hx⟩ : ∃ x, pauseCounted (s.mac m) s.clk = x := ⟨_, rfl⟩
  obtain ⟨n, hn⟩ : ∃ n, pauseClks (s.mac m) s.clk * 5 / 4 = n := ⟨_, rfl⟩
  obtain ⟨v, hv⟩ : ∃ v, (s.setMac m x).setPair (Reg.MAC_PAUSED_NS m) n = v := ⟨_, rfl⟩
  have hpair : RegSide (pauseReg m) (s.setMac m x) v := by
    rw [← hv]
    exact (RegSide.refl _ _).setPair _ (.inl rfl) (.inr (.inl rfl))
  have hmac : v.mac m = x := by
    rw [← State.mac_setMac_self s m x, State.mac, State.mac, hpair.macs]
  have hpaused : ∀ q, v.paused m q = s.paused m q := fun q => by
    rw [State.paused, State.paused, hmac, hpair.clk, ← hx]
    rfl
  obtain ⟨hflags, hbits⟩ := v.pauseFlags_spec m (List.range 8) fun q hq => List.mem_range.1 hq
  rw [State.pauseCount_eq, hx, hn, hv]
  refine ⟨_, rfl, ?_, ?_, fun i hi => ?_⟩
  · rw [State.mac, State.pauseFlags, hflags.macs]
    exact hmac
  · exact (((MacSide.refl _ s).setMac m x).trans (.of_regSide hpair)).trans (.of_regSide (hflags.mono fun a ha => .inr (.inr ha)))
  · rw [State.pauseFlags, hbits i hi]
    have hstat : v.rn (Reg.MAC_STAT m) = s.rn (Reg.MAC_STAT m) := by
      rw [← hv]
      exact congrArg BitVec.toNat ((State.rd_setPair_ne _ _ (by simp only [Reg.MAC_STAT, Reg.MAC_PAUSED_NS]; omega)
        (by simp only [Reg.MAC_STAT, Reg.MAC_PAUSED_NS]; omega)).trans rfl)
    rw [hstat, hpaused]
    refine if_congr ?_ rfl rfl
    rw [List.mem_range]
    omega

theorem State.pauseRestart_spec (s : State) (m : Nat) : ∃ u, s.pauseRestart m = u ∧ u.mac m = { pauseCounted (s.mac m) s.clk with spans := [] }
    ∧ MacSide (pauseReg m) s u
    ∧ ∀ i < 32, bit (u.rn (Reg.MAC_STAT m)) i = if 3 ≤ i ∧ i < 11 then s.paused m (i - 3) else bit (s.rn (Reg.MAC_STAT m)) i := by
  obtain ⟨v, hv, hmac, hside, hbits⟩ := s.pauseCount_spec m
  refine ⟨_, rfl, ?_⟩
  rw [State.pauseRestart, hv]
  refine ⟨?_, hside.setMac m _, hbits⟩
  rw [State.mac_setMac_self, hmac]

/-- A change of the pause registers that waits is applied while no frame is sent. -/
theorem State.pauseApply_spec {x : MacState} {p : Nat × Nat} (hx : s.mac m = x) (hsend : x.sending = none) (hnext : x.pauseNext = some p) :
    ∃ u, s.pauseApply m = u ∧ (u.mac m).pauseCfg = p.1 ∧ (u.mac m).pauseWin = p.2 ∧ (u.mac m).pauseNext = none ∧ MacSide (pauseReg m) s u := by
  obtain ⟨c, w⟩ := p
  obtain ⟨v, hv⟩ : ∃ v, (if (bit c 2 && (tabGet? x.timers 7).isSome) = true then s.pauseCount m else s) = v := ⟨_, rfl⟩
  have hvside : MacSide (pauseReg m) s v := by
    rw [← hv]
    split
    · obtain ⟨u, hu, -, hside, -⟩ := s.pauseCount_spec m
      rw [hu]
      exact hside
    · exact .refl _ s
  unfold State.pauseApply
  dsimp only
  rw [hx, hnext]
  dsimp only
  rw [if_neg (by rw [hsend]; decide), hv]
  obtain ⟨ts, hts⟩ : ∃ ts, (if bit c 2 = true then tabErase (v.mac m).timers 7 else (v.mac m).timers) = ts := ⟨_, rfl⟩
  obtain ⟨y, hy⟩ : ∃ y : MacState, { v.mac m with
      pauseCfg := c
      pauseWin := w
      pauseNext := none
      timers := ts } = y := ⟨_, rfl⟩
  obtain ⟨hcfg, hwin, hnone⟩ : y.pauseCfg = c ∧ y.pauseWin = w ∧ y.pauseNext = none := by
    rw [← hy]
    exact ⟨rfl, rfl, rfl⟩
  have hyside : MacSide (pauseReg m) s (v.setMac m y) := hvside.setMac m y
  have hymac := v.mac_setMac_self m y
  refine ⟨_, rfl, ?_⟩
  rw [hts, hy]
  split
  · obtain ⟨u, hu, hmac, hside, -⟩ := (v.setMac m y).pauseRestart_spec m
    rw [hu, hmac, hymac]
    exact ⟨hcfg, hwin, hnone, hyside.trans hside⟩
  split
  · rw [hymac]
    exact ⟨hcfg, hwin, hnone, hyside⟩
  · obtain ⟨u, hu, hmac, hside, -⟩ := (v.setMac m y).pauseCount_spec m
    rw [hu, hmac, hymac]
    exact ⟨hcfg, hwin, hnone, hyside.trans hside⟩

theorem State.pauseApply_none (h : (s.mac m).pauseNext = none) : s.pauseApply m = s := by
  unfold State.pauseApply
  dsimp only
  rw [h]

theorem State.pauseApply_busy (h : (s.mac m).sending.isSome = true) : s.pauseApply m = s := by
  unfold State.pauseApply
  dsimp only
  split
  · exact if_pos h
  · rfl

/-! #### The transmitter -/

theorem State.txStart_busy (h : (s.mac m).sending.isSome = true) : s.txStart m = s := if_pos h

/-- With every queue empty or paused nothing is sent. -/
theorem State.txStart_none (h : ∀ q < 8, tabGetD (s.mac m).txq q [] = [] ∨ s.paused m q = true) : s.txStart m = s := by
  have hnone : [7, 6, 5, 4, 3, 2, 1, 0].find? (fun q => !(tabGetD (s.mac m).txq q []).isEmpty && !s.paused m q) = none := by
    refine List.find?_eq_none.2 fun q hq => ?_
    have hlt : q < 8 := by
      simp only [List.mem_cons, List.not_mem_nil, or_false] at hq
      omega
    rcases h q hlt with h | h
    · simp [h]
    · simp [h]
  unfold State.txStart
  dsimp only
  split
  · rfl
  · rw [hnone]

/-- The one frame that waits at a queue that is not paused is sent. -/
theorem State.txStart_one {q : Nat} {k : String × List Byte} (hq : q < 8) (hsend : (s.mac m).sending = none) (htxq : (s.mac m).txq = [(q, [k])])
    (hopen : s.paused m q = false) (h1 : k.1 ≠ "SYNC") (h2 : k.1 ≠ "DELAY_REQ") :
    s.txStart m = s.setMac m { s.mac m with sending := some (k.1, wireFrame (s.txTag m q) k.2), txq := tabSet (s.mac m).txq q [] } := by
  have hget : ∀ r, tabGetD (s.mac m).txq r [] = if r = q then [k] else [] := fun r => by
    rw [htxq]
    by_cases h : r = q
    · simp [tabGetD, tabGet?, h]
    · simp [tabGetD, tabGet?, h, Ne.symm h]
  have hfind : [7, 6, 5, 4, 3, 2, 1, 0].find? (fun q => !(tabGetD (s.mac m).txq q []).isEmpty && !s.paused m q) = some q := by
    simp only [hget]
    interval_cases q <;> simp [hopen]
  have hstamped : s.txStamped m k = (s, k) := by
    unfold State.txStamped
    dsimp only
    rw [if_neg h1, if_neg h2]
  unfold State.txStart
  dsimp only
  rw [if_neg (by rw [hsend]; decide), hfind]
  dsimp only
  rw [hget, if_pos rfl]
  dsimp only
  rw [hstamped]

/-- Starting a frame changes of its MAC what is sent and what waits. -/
theorem State.txStart_mac (s : State) (m : Nat) : ∃ a b, (s.txStart m).mac m = { s.mac m with sending := a, txq := b } := by
  unfold State.txStart
  dsimp only
  split
  · exact ⟨_, _, rfl⟩
  split
  · split
    · exact ⟨_, _, State.mac_setMac_self ..⟩
    · exact ⟨_, _, rfl⟩
  · exact ⟨_, _, rfl⟩

/-! #### Faults of a MAC -/

theorem FaultSide.mac (h : FaultSide s t) (m : Nat) : t.mac m = s.mac m := by rw [State.mac, State.mac, h.macs]

/-- The registers of a MAC are none that a fault writes. -/
theorem faultReg_mac {a : Nat} (ha : a < 0x60000) : faultReg a = false := by
  simp [faultReg]
  omega

end Sys2Proof.Machine
end


section
/-! ### The Ethernet MACs (R287, R299 to R312) -/

namespace Sys2Proof.Machine

variable {s t u : State} {m dt i e c g : Nat} {f : List Byte} {k : String × List Byte} {x : MacState}

/-! #### Frames received -/

section
variable (hon : s.macDisabled m = false) (hrx : bit (s.rn (Reg.MAC_CFG m)) 5 = true) (hreset : s.inReset (.mac m) = false)
include hon hrx hreset

theorem State.frameIn_runt (hshort : f.length < 64) : s.frameIn m f = s.bump (Reg.MAC_RX_RUNT m) := by
  unfold State.frameIn
  rw [if_neg (by simp [hon, hrx, hreset]), if_pos hshort]

theorem State.frameIn_badFcs (hlo : 64 ≤ f.length) (hhi : f.length ≤ 9216) (hfcs : fcsGood f = false) : s.frameIn m f = s.fcsFail m := by
  unfold State.frameIn
  rw [if_neg (by simp [hon, hrx, hreset]), if_neg (by omega), if_neg (by omega), hfcs]
  rfl

section
variable (hlo : 64 ≤ f.length) (hhi : f.length ≤ 9216) (hfcs : fcsGood f = true)
include hlo hhi hfcs

theorem State.frameIn_control (htype : oct (f.take (f.length - 4)) 12 2 = 0x8808) :
    s.frameIn m f = s.controlFrame m (f.take (f.length - 4)) := by
  unfold State.frameIn
  rw [if_neg (by simp [hon, hrx, hreset]), if_neg (by omega), if_neg (by omega), hfcs, if_neg (by decide)]
  exact if_pos htype

theorem State.frameIn_steered (htype : oct (f.take (f.length - 4)) 12 2 ≠ 0x8808) (hip : (frameKey (f.take (f.length - 4))).2.1 = true) :
    s.frameIn m f = match (List.range 64).find? fun i => fltMatch (s.filterNow m i) (frameKey (f.take (f.length - 4))).1 with
      | some i => s.steer m (f.take (f.length - 4)) (s.filterNow m i)
      | none => s.bump (Reg.MAC_RX_NOMATCH m) := by
  unfold State.frameIn
  rw [if_neg (by simp [hon, hrx, hreset]), if_neg (by omega), if_neg (by omega), hfcs, if_neg (by decide)]
  dsimp only
  rw [if_neg htype, hip]
  rfl

end
end

/-- A frame that fails its FCS, while fewer than 100 have. -/
theorem State.fcsFail_spec (hfew : (s.mac m).fcs.length < 99) :
    ∃ u, s.fcsFail m = u ∧ u.pair (Reg.MAC_RX_FCS m) = min (s.pair (Reg.MAC_RX_FCS m) + 1) (2 ^ 64 - 1)
      ∧ RegsBut [Reg.MAC_RX_FCS m, Reg.MAC_RX_FCS m + 4] s u ∧ SameHold s u := by
  obtain ⟨b, hb⟩ : ∃ b, s.bump (Reg.MAC_RX_FCS m) = b := ⟨_, rfl⟩
  obtain ⟨hpair, hregs, hhold, hfcs⟩ : b.pair (Reg.MAC_RX_FCS m) = min (s.pair (Reg.MAC_RX_FCS m) + 1) (2 ^ 64 - 1)
      ∧ RegsBut [Reg.MAC_RX_FCS m, Reg.MAC_RX_FCS m + 4] s b ∧ b.hold = s.hold ∧ (b.mac m).fcs = (s.mac m).fcs := by
    rw [← hb]
    exact ⟨s.pair_bump _, (RegsBut.refl _ s).bump (by simp) (by simp), rfl, rfl⟩
  have hlen : ((b.clk :: (b.mac m).fcs).take 100).length ≠ 100 := by
    rw [List.length_take, List.length_cons, hfcs]
    omega
  unfold State.fcsFail
  dsimp only
  rw [hb]
  simp only [hlen, false_and, if_false]
  split
  · exact ⟨_, rfl, hpair, hregs, sameHold_of_hold hhold⟩
  · exact ⟨_, rfl, hpair, hregs, sameHold_of_hold hhold⟩

theorem State.steer_ingest {w : List Nat} (ha : bits (w.getD 3 0) 10 8 = 1) :
    s.steer m f w = (s.bump (Reg.MAC_RX_OK m)).send "INGEST" (bits (w.getD 3 0) 15 11) [bits (w.getD 3 0) 16 16] := by
  unfold State.steer
  dsimp only
  rw [ha]
  rfl

/-- A PAUSE frame for every queue. -/
theorem State.controlFrame_pause {v : Nat} (hx : s.mac m = x) (hdest : oct f 0 6 = 0x0180C2000001) (hop : oct f 14 2 = 1) (hv : oct f 16 2 = v)
    (hhold : x.holdoffEnd = none) (hcfg : bit x.pauseCfg 0 = true) :
    s.controlFrame m f = (s.bump (Reg.MAC_PAUSE_RX m)).pauseFrame m ((List.range 8).map fun q => (q, v)) := by
  have hmac : (s.bump (Reg.MAC_PAUSE_RX m)).mac m = x := hx
  unfold State.controlFrame
  dsimp only
  rw [hdest, hop, hv, if_neg (by simp), show ((1 : Nat) == 0x0101) = false from rfl]
  simp only [Bool.false_eq_true, if_false, hmac, hhold, hcfg, Option.isSome_none, if_true]

/-! #### Pauses -/

theorem State.quantum_congr (hcfg : ∀ l < 24, t.rd (Reg.LANE_CFG l) = s.rd (Reg.LANE_CFG l))
    (hstat : m = 4 → t.fld (Reg.MAC_STAT 4) 12 11 = s.fld (Reg.MAC_STAT 4) 12 11) : t.quantum m = s.quantum m := by
  have hfld : ∀ l < 24, ∀ hi lo, t.fld (Reg.LANE_CFG l) hi lo = s.fld (Reg.LANE_CFG l) hi lo := fun l hl hi lo => by
    rw [State.fld, State.fld, State.rn, State.rn, hcfg l hl]
  have hlane : t.macLane m = s.macLane m := by
    refine List.find?_congr fun l hl => ?_
    have hl := List.mem_range.1 hl
    rw [State.laneRole, State.laneRole, hfld l hl, hfld l hl]
  unfold State.quantum
  split
  next h => rw [hstat h]
  next =>
    rw [hlane]
    cases hfound : s.macLane m with
    | none => rfl
    | some l =>
      have hl : l < 24 := List.mem_range.1 (List.mem_of_find?_eq_some hfound)
      dsimp only
      rw [State.laneCfgRate, State.laneCfgRate, hfld l hl]

theorem State.quantum_pos (s : State) (m : Nat) : 0 < s.quantum m := by
  unfold State.quantum
  split
  · rcases hfld : s.fld (Reg.MAC_STAT 4) 12 11 with _ | _ | _ | n <;> simp
  split
  · split <;> decide
  · decide

/-- The timers of all queues, set to one end. -/
theorem timers_loaded (T : Tab Nat) (v e : Nat) (hv : v ≠ 0) (l : List Nat) (n : Nat) :
    tabGet? (l.foldl (fun (t : Tab Nat) q => if v = 0 then tabErase t q else tabSet t q e) T) n
      = if n ∈ l then some e else tabGet? T n := by
  induction l generalizing T with
  | nil => simp
  | cons q l ih =>
    rw [List.foldl_cons, ih, if_neg hv]
    by_cases hl : n ∈ l
    · rw [if_pos hl, if_pos (List.mem_cons_of_mem q hl)]
    rw [if_neg hl]
    by_cases hq : n = q
    · subst hq
      rw [tabGet?_tabSet_self, if_pos List.mem_cons_self]
    · rw [tabGet?_tabSet_ne _ _ hq, if_neg (by simp [hq, hl])]

/-- Paused time that is counted leaves the speed of the link. -/
theorem fld_of_bits {a : Nat} (h11 : bit (t.rn a) 11 = bit (s.rn a) 11) (h12 : bit (t.rn a) 12 = bit (s.rn a) 12) :
    t.fld a 12 11 = s.fld a 12 11 := by
  refine Nat.eq_of_testBit_eq fun i => ?_
  rw [State.fld, State.fld, testBit_bits, testBit_bits]
  rcases i with _ | _ | i
  · simpa [bit] using h11
  · simpa [bit] using h12
  · simp

/-- A PAUSE frame loads the timer of every queue, and no queue sends. -/
theorem State.pauseFrame_spec {v : Nat} (hm : m < 5) (hx : s.mac m = x) (hv : v ≠ 0) (hq7 : bit x.pauseCfg 2 = false) :
    ∃ u, s.pauseFrame m ((List.range 8).map fun q => (q, v)) = u
      ∧ (∀ n < 8, tabGet? (u.mac m).timers n = some (s.clk + ceilDiv (v * s.quantum m) 1250) ∧ bit (u.rn (Reg.MAC_STAT m)) (3 + n) = true)
      ∧ (u.mac m).sending = x.sending ∧ (u.mac m).txq = x.txq ∧ MacSide (pauseReg m) s u := by
  obtain ⟨a, ha, hamac, haside, habits⟩ := s.pauseCount_spec m
  rw [hx] at hamac
  have hquantum : a.quantum m = s.quantum m := by
    refine State.quantum_congr (fun l hl => haside.rd ?_) fun h4 => fld_of_bits ?_ ?_
    · simp only [pauseReg, Reg.LANE_CFG, Reg.MAC_PAUSED_NS, Reg.MAC_STAT]
      omega
    · subst h4
      rw [habits 11 (by decide), if_neg (by decide)]
    · subst h4
      rw [habits 12 (by decide), if_neg (by decide)]
  obtain ⟨e, he⟩ : ∃ e, s.clk + ceilDiv (v * s.quantum m) 1250 = e := ⟨_, rfl⟩
  obtain ⟨T, hT⟩ : ∃ T, (List.range 8).foldl (fun (t : Tab Nat) q => if v = 0 then tabErase t q else tabSet t q e) x.timers = T := ⟨_, rfl⟩
  have hget : ∀ n < 8, tabGet? T n = some e := fun n hn => by
    rw [← hT, timers_loaded _ _ _ hv, if_pos (List.mem_range.2 hn)]
  have hlater : s.clk < e := by
    have hpos : 0 < v * s.quantum m := Nat.mul_pos (Nat.pos_of_ne_zero hv) (s.quantum_pos m)
    have : 0 < ceilDiv (v * s.quantum m) 1250 := Nat.div_pos (by omega) (by decide)
    omega
  obtain ⟨y, hy⟩ : ∃ y : MacState, { pauseCounted x s.clk with timers := T } = y := ⟨_, rfl⟩
  obtain ⟨hytimers, hysend, hytxq⟩ : y.timers = T ∧ y.sending = x.sending ∧ y.txq = x.txq := by
    rw [← hy]
    exact ⟨rfl, rfl, rfl⟩
  have hpause : s.pauseFrame m ((List.range 8).map fun q => (q, v)) = ((a.setMac m y).pauseCount m).txStart m := by
    unfold State.pauseFrame
    dsimp only
    have hall : ((List.range 8).map fun q => (q, v)).filter (fun n => !(bit (pauseCounted x s.clk).pauseCfg 2 && n.1 == 7))
        = (List.range 8).map fun q => (q, v) := List.filter_eq_self.2 fun n _ => by
      rw [show bit (pauseCounted x s.clk).pauseCfg 2 = false from hq7]
      rfl
    rw [ha, hamac, hquantum, haside.clk, hall, List.foldl_map]
    dsimp only
    rw [he, show (pauseCounted x s.clk).timers = x.timers from rfl, hT, hy]
  obtain ⟨b, hb, hbmac, hbside, hbbits⟩ := (a.setMac m y).pauseCount_spec m
  rw [a.mac_setMac_self] at hbmac
  have hbclk : b.clk = s.clk := hbside.clk.trans haside.clk
  have hpaused : ∀ n < 8, (a.setMac m y).paused m n = true := fun n hn => by
    rw [State.paused, a.mac_setMac_self, hytimers, hget n hn]
    exact decide_eq_true (haside.clk.trans_lt hlater)
  have hstop : b.txStart m = b := State.txStart_none fun n hn => by
    right
    rw [State.paused, hbmac, show (pauseCounted y (a.setMac m y).clk).timers = T from hytimers, hget n hn]
    exact decide_eq_true (hbclk.trans_lt hlater)
  refine ⟨b, by rw [hpause, hb, hstop], fun n hn => ⟨?_, ?_⟩, ?_, ?_, (haside.setMac m y).trans hbside⟩
  · rw [hbmac]
    exact (congrArg (tabGet? · n) hytimers).trans ((hget n hn).trans (congrArg some he.symm))
  · rw [hbbits _ (by omega), if_pos (by omega), Nat.add_sub_cancel_left, hpaused n hn]
  · rw [hbmac]
    exact hysend
  · rw [hbmac]
    exact hytxq

/-- The end of the one timer that runs lets its queue send. -/
theorem State.timerEnd_spec {q : Nat} (hq : q < 8) (hx : s.mac m = x) (htimers : x.timers = [(q, e)]) (hdue : e ≤ s.clk) (hsend : x.sending = none)
    (htxq : x.txq = [(q, [k])]) (h1 : k.1 ≠ "SYNC") (h2 : k.1 ≠ "DELAY_REQ") {b : State} (hb : s.pauseCount m = b) :
    tabGet? (b.mac m).timers q = some e ∧ e ≤ b.clk
      ∧ ∃ u, ((b.setMac m { b.mac m with timers := tabErase (b.mac m).timers q }).pauseCount m).txStart m = u
        ∧ (u.mac m).timers = [] ∧ (u.mac m).sending = some (k.1, wireFrame (s.txTag m q) k.2) ∧ bit (u.rn (Reg.MAC_STAT m)) (3 + q) = false
        ∧ MacSide (pauseReg m) s u := by
  obtain ⟨v, hv, hmac, hside, -⟩ := s.pauseCount_spec m
  obtain rfl : b = v := hb.symm.trans hv
  rw [hx] at hmac
  have hbtimers : (b.mac m).timers = [(q, e)] := by rw [hmac]; exact htimers
  have herase : tabErase (b.mac m).timers q = [] := by rw [hbtimers]; simp [tabErase]
  refine ⟨by rw [hbtimers]; simp [tabGet?], hside.clk ▸ hdue, ?_⟩
  rw [herase]
  obtain ⟨y, hy⟩ : ∃ y : MacState, { b.mac m with timers := [] } = y := ⟨_, rfl⟩
  obtain ⟨hytimers, hysend, hytxq⟩ : y.timers = [] ∧ y.sending = none ∧ y.txq = [(q, [k])] := by
    rw [← hy, hmac]
    exact ⟨rfl, hsend, htxq⟩
  obtain ⟨c, hc, hcmac, hcside, hcbits⟩ := (b.setMac m y).pauseCount_spec m
  rw [b.mac_setMac_self] at hcmac
  have hpaused : ∀ u : State, (u.mac m).timers = [] → ∀ r, u.paused m r = false := fun u hu r => by
    rw [State.paused, hu]
    rfl
  have hcstate : (c.mac m).timers = [] ∧ (c.mac m).sending = none ∧ (c.mac m).txq = [(q, [k])] := by
    rw [hcmac]
    exact ⟨hytimers, hysend, hytxq⟩
  obtain ⟨hctimers, hcsend, hctxq⟩ := hcstate
  have hall : MacSide (pauseReg m) s c := (hside.setMac m y).trans hcside
  have hcfg : c.rd (Reg.MAC_CFG m) = s.rd (Reg.MAC_CFG m) := hall.rd (by
    simp only [pauseReg, Reg.MAC_CFG, Reg.MAC_PAUSED_NS, Reg.MAC_STAT]
    omega)
  have htag : c.txTag m q = s.txTag m q := by rw [State.txTag, State.txTag, State.fld, State.fld, State.rn, State.rn, hcfg]
  have hstart := State.txStart_one hq hcsend hctxq (hpaused c hctimers q) h1 h2
  rw [htag] at hstart
  rw [hy, hc, hstart]
  refine ⟨_, rfl, ?_, ?_, ?_, hall.setMac m _⟩
  · rw [c.mac_setMac_self]
    exact hctimers
  · rw [c.mac_setMac_self]
  · refine (hcbits _ (by omega)).trans ?_
    rw [if_pos (by omega), Nat.add_sub_cancel_left]
    exact hpaused _ (by rw [b.mac_setMac_self]; exact hytimers) q

/-- One span of paused time that a timer has run since the last count. -/
theorem macLimit_reached {c clk limit window : Nat} (hlimit : c + limit ≤ clk) (hwin : limit ≤ window) : limit ≤ clk - max c (clk - window) := by omega

/-- The watchdog trips on a queue that has been paused for LIMIT (R309). -/
theorem State.pausedIn_one {q : Nat} (hx : s.mac m = x) (hspans : x.spans = []) (htimers : x.timers = [(q, e)]) (hcount : x.counted = c)
    (hlate : s.clk ≤ e) (hlong : c + macLimit x ≤ s.clk) (hwin : macLimit x ≤ macWindow x) (hpos : 0 < macLimit x) {b : State}
    (hb : s.pauseCount m = b) : macLimit (b.mac m) ≤ b.pausedIn m q := by
  obtain ⟨v, hv, hmac, hside, -⟩ := s.pauseCount_spec m
  obtain rfl : b = v := hb.symm.trans hv
  rw [hx] at hmac
  have hend : max x.counted (min e s.clk) = s.clk := by omega
  have hspan : pauseSpans x s.clk = [(q, [(c, s.clk)])] := by
    rw [pauseSpans, htimers, hspans, List.foldl_cons, List.foldl_nil]
    dsimp only
    rw [hend, if_pos (by omega), hcount]
    simp [tabMod, tabGetD, tabGet?, tabSet]
  have hin : b.pausedIn m q = s.clk - max c (s.clk - macWindow x) := by
    unfold State.pausedIn
    dsimp only
    rw [hmac, hside.clk, show (pauseCounted x s.clk).spans = [(q, [(c, s.clk)])] from hspan]
    simp [tabGetD, tabGet?]
    rfl
  rw [hin, hmac]
  exact macLimit_reached hlong hwin

/-- The registers that a watchdog's trip sets. -/
@[reducible] def tripReg (m a : Nat) : Prop := pauseReg m a ∨ a = Reg.MAC_WDOG_TRIP m ∨ a = Reg.MAC_WDOG_TRIP m + 4

/-- The pause watchdog's trip (R309, R310). -/
def State.watchdogTripped (s : State) (m : Nat) : State :=
  ((s.setMac m { s.mac m with timers := [], holdoffEnd := some (s.clk + macHoldoff (s.mac m)) }).bump (Reg.MAC_WDOG_TRIP m)).setFld (Reg.MAC_STAT m) 2 2 1

theorem exec_pauseWatchdogTrip (dt : Nat) (m : Fin 5) (s : State) : exec (.pauseWatchdogTrip dt m) s = act dt s fun s =>
    if bit ((s.pauseCount m).mac m).pauseCfg 3 ∧ ((s.pauseCount m).mac m).holdoffEnd.isNone
      ∧ ((List.range 8).any fun q => decide (macLimit ((s.pauseCount m).mac m) ≤ (s.pauseCount m).pausedIn m q)) then
      let u := (s.pauseCount m).watchdogTripped m |>.raise 160 m
      ((if (u.fltInst 160 m).standing then u.setFltInst 160 m { u.fltInst 160 m with cond := true } else u).pauseCount m).txStart m
    else s.pauseCount m := rfl

theorem State.watchdogTripped_spec (hm : m < 5) {b : State} (hx : b.mac m = x) : ∃ d, b.watchdogTripped m = d
    ∧ d.mac m = { x with timers := [], holdoffEnd := some (b.clk + macHoldoff x) } ∧ MacSide (tripReg m) b d
    ∧ d.pair (Reg.MAC_WDOG_TRIP m) = min (b.pair (Reg.MAC_WDOG_TRIP m) + 1) (2 ^ 64 - 1) ∧ bit (d.rn (Reg.MAC_STAT m)) 2 = true := by
  obtain ⟨y, hy⟩ : ∃ y : MacState, { x with timers := [], holdoffEnd := some (b.clk + macHoldoff x) } = y := ⟨_, rfl⟩
  obtain ⟨v, hv⟩ : ∃ v, (b.setMac m y).bump (Reg.MAC_WDOG_TRIP m) = v := ⟨_, rfl⟩
  have htripped : b.watchdogTripped m = v.setFld (Reg.MAC_STAT m) 2 2 1 := by rw [State.watchdogTripped, hx, hy, hv]
  have hvside : RegSide (tripReg m) (b.setMac m y) v := by
    rw [← hv]
    exact (RegSide.refl _ _).bump (.inr (.inl rfl)) (.inr (.inr rfl))
  have hside := hvside.setFld (a := Reg.MAC_STAT m) 2 2 1 (.inl (.inr (.inr rfl)))
  have hpair : v.pair (Reg.MAC_WDOG_TRIP m) = min (b.pair (Reg.MAC_WDOG_TRIP m) + 1) (2 ^ 64 - 1) := by
    rw [← hv]
    exact (b.setMac m y).pair_bump _
  refine ⟨_, htripped, ?_, ((MacSide.refl _ b).setMac m y).trans (.of_regSide hside), ?_, ?_⟩
  · rw [hy, ← b.mac_setMac_self m y, State.mac, State.mac, hside.macs]
  · refine (State.pair_congr ?_ ?_).trans hpair
    · exact State.rd_wr_ne _ _ (by simp only [Reg.MAC_WDOG_TRIP, Reg.MAC_STAT]; omega)
    · exact State.rd_wr_ne _ _ (by simp only [Reg.MAC_WDOG_TRIP, Reg.MAC_STAT]; omega)
  · rw [State.bit_setFld_same _ (by decide)]
    rfl

/-- A MAC without timers pauses no queue. -/
theorem State.paused_none (h : (s.mac m).timers = []) (q : Nat) : s.paused m q = false := by
  rw [State.paused, h]
  rfl

/-- What a trip, with its fault noted, leaves of the MAC. -/
theorem State.watchdogEnd_spec (hm : m < 5) {d : State} (hd : d.mac m = { x with timers := [], holdoffEnd := some e })
    (hu : FaultSide d u) (hbit : bit (d.rn (Reg.MAC_STAT m)) 2 = true) :
    ∃ t, (u.pauseCount m).txStart m = t ∧ (t.mac m).timers = [] ∧ (t.mac m).holdoffEnd = some e
      ∧ t.pair (Reg.MAC_WDOG_TRIP m) = d.pair (Reg.MAC_WDOG_TRIP m) ∧ bit (t.rn (Reg.MAC_STAT m)) 2 = true
      ∧ (∀ q < 8, bit (t.rn (Reg.MAC_STAT m)) (3 + q) = false) ∧ t.hold = d.hold := by
  obtain ⟨v, hv, hmac, hside, hbits⟩ := u.pauseCount_spec m
  rw [hu.mac m, hd] at hmac
  obtain ⟨a, b, hstart⟩ := v.txStart_mac m
  have hregs := v.txStart_regs m
  have hrd : ∀ c, (v.txStart m).rd c = v.rd c := sameRegs_of_regs hregs
  have hstat : (v.txStart m).rn (Reg.MAC_STAT m) = v.rn (Reg.MAC_STAT m) := congrArg BitVec.toNat (hrd _)
  have hustat : u.rn (Reg.MAC_STAT m) = d.rn (Reg.MAC_STAT m) := hu.rn (faultReg_mac (by simp only [Reg.MAC_STAT]; omega))
  have htrip : ∀ c, c = Reg.MAC_WDOG_TRIP m ∨ c = Reg.MAC_WDOG_TRIP m + 4 → (v.txStart m).rd c = d.rd c := fun c hc => by
    refine (hrd c).trans ((hside.rd ?_).trans (hu.rd (faultReg_mac ?_)))
    · simp only [pauseReg, Reg.MAC_WDOG_TRIP, Reg.MAC_PAUSED_NS, Reg.MAC_STAT] at hc ⊢
      omega
    · simp only [Reg.MAC_WDOG_TRIP] at hc
      omega
  refine ⟨_, congrArg (State.txStart · m) hv, ?_, ?_, State.pair_congr (htrip _ (.inl rfl)) (htrip _ (.inr rfl)), ?_, fun q hq => ?_, ?_⟩
  · rw [hstart, hmac]
    rfl
  · rw [hstart, hmac]
    rfl
  · rw [hstat, hbits 2 (by decide), if_neg (by decide), hustat, hbit]
  · rw [hstat, hbits _ (by omega), if_pos (by omega)]
    exact State.paused_none (by rw [hu.mac m, hd]) _
  · exact (State.txStart_hold ..).trans (hside.hold.trans hu.hold)

/-- The end of a holdoff (R310). -/
def State.holdoffEnded (s : State) (m : Nat) : State :=
  ((s.setMac m { s.mac m with holdoffEnd := none }).pauseRestart m).setFld (Reg.MAC_STAT m) 2 2 0

theorem State.holdoffEnded_spec (s : State) (m : Nat) : ∃ u, s.holdoffEnded m = u ∧ (u.mac m).holdoffEnd = none ∧ (u.mac m).spans = []
    ∧ bit (u.rn (Reg.MAC_STAT m)) 2 = false ∧ MacSide (pauseReg m) s u := by
  obtain ⟨y, hy⟩ : ∃ y : MacState, { s.mac m with holdoffEnd := none } = y := ⟨_, rfl⟩
  obtain ⟨v, hv, hmac, hside, -⟩ := (s.setMac m y).pauseRestart_spec m
  rw [s.mac_setMac_self] at hmac
  have hlast : RegSide (pauseReg m) v (v.setFld (Reg.MAC_STAT m) 2 2 0) := (RegSide.refl _ v).setFld _ _ _ (.inr (.inr rfl))
  have hvmac : (v.setFld (Reg.MAC_STAT m) 2 2 0).mac m = v.mac m := by
    rw [State.mac, State.mac, hlast.macs]
  rw [State.holdoffEnded, hy, hv]
  refine ⟨_, rfl, ?_, ?_, ?_, (((MacSide.refl _ s).setMac m y).trans hside).trans (.of_regSide hlast)⟩
  · rw [hvmac, hmac, ← hy]
    rfl
  · rw [hvmac, hmac]
  · rw [State.bit_setFld_same _ (by decide)]
    rfl

/-! #### Frames sent -/

/-- The state in which a frame has left. -/
def State.frameSent (s : State) (m : Nat) (k : String × List Byte) : State :=
  ((s.setMac m { s.mac m with sending := none }).bump (Reg.MAC_TX_OK m)).send k.1 m (k.2.map (·.toNat))

theorem State.frameSent_spec {k : String × List Byte} (hx : s.mac m = x) : ∃ u, s.frameSent m k = u ∧ u.mac m = { x with sending := none }
    ∧ u.out = .message k.1 m (k.2.map (·.toNat)) :: s.out ∧ u.pair (Reg.MAC_TX_OK m) = min (s.pair (Reg.MAC_TX_OK m) + 1) (2 ^ 64 - 1)
    ∧ RegsBut [Reg.MAC_TX_OK m, Reg.MAC_TX_OK m + 4] s u ∧ u.hold = s.hold := by
  obtain ⟨y, hy⟩ : ∃ y : MacState, { x with sending := none } = y := ⟨_, rfl⟩
  rw [State.frameSent, hx, hy]
  refine ⟨_, rfl, s.mac_setMac_self m y, rfl, (s.setMac m y).pair_bump _, fun a ha => ?_, rfl⟩
  simp only [List.mem_cons, List.not_mem_nil, or_false, not_or] at ha
  exact (s.setMac m y).rd_bump_ne ha.1 ha.2

/-- The end of a frame, with nothing more to send. -/
theorem State.txEnd_idle (hm : m < 5) (hx : s.mac m = x) (hnext : x.pauseNext = none) (htxq : x.txq = []) {b : State} (hb : s.pauseCount m = b) :
    ∃ u, ((b.frameSent m k).pauseApply m).txStart m = u ∧ (u.mac m).sending = none ∧ u.out = .message k.1 m (k.2.map (·.toNat)) :: s.out
      ∧ u.pair (Reg.MAC_TX_OK m) = min (s.pair (Reg.MAC_TX_OK m) + 1) (2 ^ 64 - 1)
      ∧ RegsBut [Reg.MAC_TX_OK m, Reg.MAC_TX_OK m + 4, Reg.MAC_PAUSED_NS m, Reg.MAC_PAUSED_NS m + 4, Reg.MAC_STAT m] s u ∧ SameHold s u := by
  obtain ⟨v, hv, hmac, hside, -⟩ := s.pauseCount_spec m
  obtain rfl : b = v := hb.symm.trans hv
  rw [hx] at hmac
  obtain ⟨u, hu, humac, huout, hupair, huregs, huhold⟩ := State.frameSent_spec (k := k) hmac
  have happly : u.pauseApply m = u := State.pauseApply_none (by rw [humac]; exact hnext)
  have hstart : u.txStart m = u := State.txStart_none fun q _ => .inl (by
    rw [humac]
    exact congrArg (tabGetD · q []) htxq)
  have hcount : ∀ c, c = Reg.MAC_TX_OK m ∨ c = Reg.MAC_TX_OK m + 4 → b.rd c = s.rd c := fun c hc => hside.rd (by
    simp only [pauseReg, Reg.MAC_TX_OK, Reg.MAC_PAUSED_NS, Reg.MAC_STAT] at hc ⊢
    omega)
  refine ⟨u, by rw [hu, happly, hstart], by rw [humac], by rw [huout, hside.out], ?_, fun a ha => ?_, sameHold_of_hold (huhold.trans hside.hold)⟩
  · rw [hupair, State.pair_congr (hcount _ (.inl rfl)) (hcount _ (.inr rfl))]
  · simp only [List.mem_cons, List.not_mem_nil, or_false, not_or] at ha
    obtain ⟨h1, h2, h3, h4, h5⟩ := ha
    exact (huregs a (by simp [h1, h2])).trans (hside.rd (by simp [pauseReg, h3, h4, h5]))

/-- The end of a frame, with a write of the pause registers that waits for it. -/
theorem State.txEnd_applies {p : Nat × Nat} (hx : s.mac m = x) (hnext : x.pauseNext = some p) {b : State} (hb : s.pauseCount m = b) :
    ∃ u, ((b.frameSent m k).pauseApply m).txStart m = u ∧ (u.mac m).pauseCfg = p.1 ∧ (u.mac m).pauseWin = p.2 ∧ (u.mac m).pauseNext = none
      ∧ SameHold s u := by
  obtain ⟨v, hv, hmac, hside, -⟩ := s.pauseCount_spec m
  obtain rfl : b = v := hb.symm.trans hv
  rw [hx] at hmac
  obtain ⟨u, hu, humac, -, -, -, huhold⟩ := State.frameSent_spec (k := k) hmac
  obtain ⟨w, hw, hcfg, hwin, hnone, hwside⟩ := State.pauseApply_spec (s := u) (p := p) humac rfl hnext
  obtain ⟨a, c, hstart⟩ := w.txStart_mac m
  refine ⟨w.txStart m, by rw [hu, hw], ?_, ?_, ?_, sameHold_of_hold ((State.txStart_hold ..).trans (hwside.hold.trans (huhold.trans hside.hold)))⟩
  · rw [hstart]
    exact hcfg
  · rw [hstart]
    exact hwin
  · rw [hstart]
    exact hnone

/-! #### Filters -/

theorem State.fltSelWrite_spec (s : State) (req : Requester) {i : Nat} (hm : m < 5) (hlo : 16 ≤ i) (hhi : i < 64) :
    ∃ u, (s.wn (Reg.MAC_FLT_SEL m) i).wrWords (Reg.MAC_FLT_WIN m 0) (s.filter m i) = u ∧ u.rn (Reg.MAC_FLT_SEL m) = i
      ∧ (∀ j < 4, u.rn (Reg.MAC_FLT_WIN m j) = s.rn (Reg.MAC_FLT m (4 * i + j)))
      ∧ RegsBut (Reg.MAC_FLT_SEL m :: (List.range 4).map (Reg.MAC_FLT_WIN m)) s u ∧ SameHold s u := by
  obtain ⟨ws, hws⟩ : ∃ ws, s.filter m i = ws := ⟨_, rfl⟩
  have hfilter : ws = (List.range 4).map fun j => s.rn (Reg.MAC_FLT m (4 * i + j)) := by
    rw [← hws, State.filter, if_neg (by omega)]
  have hlen : ws.length = 4 := by rw [hfilter]; rfl
  have hget : ∀ j < 4, ws.getD j 0 = s.rn (Reg.MAC_FLT m (4 * i + j)) := fun j hj => by
    rw [hfilter, List.getD_eq_getElem?_getD, List.getElem?_map, List.getElem?_range hj]
    rfl
  have hwin : ∀ j, Reg.MAC_FLT_WIN m j = Reg.MAC_FLT_WIN m 0 + 4 * j := fun j => by simp [Reg.MAC_FLT_WIN]
  obtain ⟨u, hu⟩ : ∃ u, (s.wn (Reg.MAC_FLT_SEL m) i).wrWords (Reg.MAC_FLT_WIN m 0) ws = u := ⟨_, rfl⟩
  obtain ⟨hsel, -, hregs, hhold⟩ := State.shadowShown_spec (f := Reg.MAC_FLT_WIN m) hu (by omega) hlen hwin
    (by simp only [Reg.MAC_FLT_SEL, Reg.MAC_FLT_WIN]; omega)
  refine ⟨u, by rw [hws, hu], hsel, fun j hj => ?_, hregs, hhold⟩
  rw [← hu, hwin j, State.rn_wrWords _ _ (by omega), hget j hj]
  exact Nat.mod_eq_of_lt (State.rn_lt ..)

/-- A filter commit that passes puts the window in place of the entry selected. -/
theorem State.fltCommit_go (req : Requester) (hm : m < 5) (hon : s.macDisabled m = false) (hgo : fltReason (s.rdWords (Reg.MAC_FLT_WIN m 0) 4) = 0)
    (hi : s.fld (Reg.MAC_FLT_SEL m) 5 0 = i) :
    ∃ u, s.fltCommit req m = u ∧ u.rn (Reg.MAC_FLT_STAT m) = 0
      ∧ (∀ j < 4, u.rn (Reg.MAC_FLT m (4 * i + j)) = s.rn (Reg.MAC_FLT_WIN m j))
      ∧ RegsBut (Reg.MAC_FLT_STAT m :: (List.range 4).map fun j => Reg.MAC_FLT m (4 * i + j)) s u ∧ SameHold s u := by
  obtain ⟨ws, hws⟩ : ∃ ws, s.rdWords (Reg.MAC_FLT_WIN m 0) 4 = ws := ⟨_, rfl⟩
  rw [hws] at hgo
  obtain ⟨y, hy⟩ : ∃ y : MacState,
    { s.mac m with fltWas := (s.mac m).fltWas.filter (·.1 == s.clk) ++ [(s.clk, i, s.filter m i)] } = y := ⟨_, rfl⟩
  obtain ⟨u, hu⟩ : ∃ u, ((s.setMac m y).wn (Reg.MAC_FLT_STAT m) 0).wrWords (Reg.MAC_FLT m (4 * i)) ws = u := ⟨_, rfl⟩
  have hlen : ws.length = 4 := by rw [← hws]; rfl
  have hget : ∀ j < 4, ws.getD j 0 = s.rn (Reg.MAC_FLT_WIN m j) := fun j hj => by
    rw [← hws, State.rdWords, List.getD_eq_getElem?_getD, List.getElem?_map, List.getElem?_range hj]
    simp [Reg.MAC_FLT_WIN]
  have hflt : ∀ j, Reg.MAC_FLT m (4 * i + j) = Reg.MAC_FLT m (4 * i) + 4 * j := fun j => by simp only [Reg.MAC_FLT]; omega
  obtain ⟨hstat, -, hregs, hhold⟩ := State.shadowShown_spec (f := fun j => Reg.MAC_FLT m (4 * i + j)) hu (by decide) hlen hflt
    (by simp only [Reg.MAC_FLT_STAT, Reg.MAC_FLT]; omega)
  refine ⟨u, ?_, hstat, fun j hj => ?_, hregs, hhold⟩
  · unfold State.fltCommit
    dsimp only
    rw [if_neg (by simp [hon]), hws, hi, if_pos hgo, hy, hu]
  · rw [← hu, hflt j, State.rn_wrWords _ _ (by omega), hget j hj]
    exact Nat.mod_eq_of_lt (State.rn_lt ..)

/-- One that does not pass leaves its reason. -/
theorem State.fltCommit_no (req : Requester) (hon : s.macDisabled m = false) (hno : fltReason (s.rdWords (Reg.MAC_FLT_WIN m 0) 4) ≠ 0) :
    s.fltCommit req m = s.wn (Reg.MAC_FLT_STAT m) (1 + 2 * fltReason (s.rdWords (Reg.MAC_FLT_WIN m 0) 4)) := by
  unfold State.fltCommit
  dsimp only
  rw [if_neg (by simp [hon]), if_neg hno]

theorem fltReason_le (w : List Nat) : fltReason w ≤ 3 := by
  unfold fltReason
  dsimp only
  split
  · decide
  split
  · decide
  split <;> decide

/-! #### Groups -/

theorem State.macDisabled_of_lanes (h : ∀ l < 24, t.rd (Reg.LANE_CFG l) = s.rd (Reg.LANE_CFG l)) (m : Nat) : t.macDisabled m = s.macDisabled m := by
  have hfld : ∀ l < 24, ∀ hi lo, t.fld (Reg.LANE_CFG l) hi lo = s.fld (Reg.LANE_CFG l) hi lo := fun l hl hi lo => by
    rw [State.fld, State.fld, State.rn, State.rn, h l hl]
  have hlane : t.macLane m = s.macLane m := by
    refine List.find?_congr fun l hl => ?_
    have hl := List.mem_range.1 hl
    rw [State.laneRole, State.laneRole, hfld l hl, hfld l hl]
  rw [State.macDisabled, State.macDisabled, hlane]

/-- A group joined while the MAC sends: its report waits in queue 3. -/
theorem State.igmpJoin_made (hm : m < 5) (hx : s.mac m = x) (hnew : x.groups.contains g = false) (hroom : x.groups.length < 1024)
    (hsend : x.sending.isSome = true) (hq3 : tabGetD x.txq 3 [] = []) (hon : s.macDisabled m = false) :
    ∃ u, s.igmpJoin m g = u ∧ (u.mac m).groups = x.groups ++ [g] ∧ u.rn (Reg.MAC_MCAST_COUNT m) = x.groups.length + 1
      ∧ tabGetD (u.mac m).txq 3 [] = [("IGMP_REPORT", etherFrame (groupMac (igmpReport x.igmp2 4 g).1) (s.macAddr m)
        0x0800 (ipv4Packet 2 1 (s.macIp m) (igmpReport x.igmp2 4 g).1 routerAlert (igmpReport x.igmp2 4 g).2))]
      ∧ RegsBut [Reg.MAC_MCAST_COUNT m] s u ∧ SameHold s u := by
  obtain ⟨y, hy⟩ : ∃ y : MacState, { x with groups := x.groups ++ [g] } = y := ⟨_, rfl⟩
  obtain ⟨hygroups, hysend, hytxq, hyigmp⟩ : y.groups = x.groups ++ [g] ∧ y.sending.isSome = true ∧ tabGetD y.txq 3 [] = [] ∧ y.igmp2 = x.igmp2 := by
    rw [← hy]
    exact ⟨rfl, hsend, hq3, rfl⟩
  obtain ⟨b, hb⟩ : ∃ b, (s.setMac m y).wn (Reg.MAC_MCAST_COUNT m) (x.groups.length + 1) = b := ⟨_, rfl⟩
  have hbside : RegSide (· = Reg.MAC_MCAST_COUNT m) (s.setMac m y) b := by
    rw [← hb]
    exact (RegSide.refl _ _).wn _ rfl
  have hbmac : b.mac m = y := by rw [State.mac, hbside.macs, ← State.mac, s.mac_setMac_self]
  have hbcount : b.rn (Reg.MAC_MCAST_COUNT m) = x.groups.length + 1 := by
    rw [← hb, State.rn_wn_self]
    exact Nat.mod_eq_of_lt (by omega)
  have hbrd : ∀ a, a ≠ Reg.MAC_MCAST_COUNT m → b.rd a = s.rd a := fun a ha => hbside.rd ha
  have hbdis : b.macDisabled m = false := (State.macDisabled_of_lanes (fun l hl => hbrd _ (by
    simp only [Reg.LANE_CFG, Reg.MAC_MCAST_COUNT]
    omega)) m).trans hon
  have hbaddr : b.macAddr m = s.macAddr m := by
    rw [State.macAddr, State.macAddr, State.fld, State.fld, State.rn, State.rn, State.rn, State.rn,
      hbrd _ (by simp only [Reg.MAC_ADDR_LO, Reg.MAC_MCAST_COUNT]; omega), hbrd _ (by simp only [Reg.MAC_ADDR_HI, Reg.MAC_MCAST_COUNT]; omega)]
  have hbip : b.macIp m = s.macIp m := by
    rw [State.macIp, State.macIp, State.rn, State.rn, hbrd _ (by simp only [Reg.MAC_IPV4, Reg.MAC_MCAST_COUNT]; omega)]
  have hjoin : s.igmpJoin m g = b.igmpSend m 4 g := by
    unfold State.igmpJoin
    dsimp only
    rw [hx, hnew, if_neg Bool.false_ne_true, if_neg (by omega), hy, hb]
  obtain ⟨frame, hframe⟩ : ∃ frame, etherFrame (groupMac (igmpReport x.igmp2 4 g).1) (s.macAddr m)
      0x0800 (ipv4Packet 2 1 (s.macIp m) (igmpReport x.igmp2 4 g).1 routerAlert (igmpReport x.igmp2 4 g).2) = frame := ⟨_, rfl⟩
  obtain ⟨z, hz⟩ : ∃ z : MacState, { y with txq := tabSet y.txq 3 [("IGMP_REPORT", frame)] } = z := ⟨_, rfl⟩
  obtain ⟨hzgroups, hztxq⟩ : z.groups = y.groups ∧ z.txq = tabSet y.txq 3 [("IGMP_REPORT", frame)] := by
    rw [← hz]
    exact ⟨rfl, rfl⟩
  have hsent : b.igmpSend m 4 g = b.setMac m z := by
    unfold State.igmpSend
    dsimp only
    rw [hbmac, hyigmp, hbaddr, hbip, hframe, State.ethSend_busy hbdis (by rw [hbmac, hytxq]; decide) (by rw [hbmac]; exact hysend), hbmac, hytxq,
      List.nil_append, hz]
  rw [hframe]
  refine ⟨_, hjoin.trans hsent, ?_, hbcount, ?_, fun a ha => hbrd a (by simpa using ha), sameHold_of_hold hbside.hold⟩
  · rw [b.mac_setMac_self]
    exact hzgroups.trans hygroups
  · rw [b.mac_setMac_self, hztxq]
    simp [tabGetD, tabGet?_tabSet_self]

/-- A group beyond 1,024 is denied. -/
theorem State.igmpJoin_denied (hm : m < 5) (hx : s.mac m = x) (hnew : x.groups.contains g = false) (hfull : 1024 ≤ x.groups.length)
    (hlog : s.logOnly 163 = true) :
    ∃ u, s.igmpJoin m g = u ∧ (u.mac m).groups = x.groups ∧ (u.mac m).denied.contains g = true
      ∧ u.rn (Reg.MAC_MCAST_COUNT m) = s.rn (Reg.MAC_MCAST_COUNT m) ∧ SameHold s u := by
  obtain ⟨l, hl⟩ : ∃ l, (if x.denied.contains g then x.denied else x.denied ++ [g]) = l := ⟨_, rfl⟩
  have hg : l.contains g = true := by
    rw [← hl]
    split
    case isTrue h => exact h
    case isFalse => simp
  have hside := raise_faultSide (s.setMac m { x with denied := l }) 163 m g hlog
  refine ⟨_, ?_, ?_, ?_, hside.rn (faultReg_mac (by simp only [Reg.MAC_MCAST_COUNT]; omega)), sameHold_of_hold hside.hold⟩
  · unfold State.igmpJoin
    dsimp only
    rw [hx, hnew, if_neg Bool.false_ne_true, if_pos hfull, hl]
  · rw [hside.mac, s.mac_setMac_self]
  · rw [hside.mac, s.mac_setMac_self]
    exact hg

/-! #### Link -/

theorem State.macLink_spec (hm : m < 5) (up fail : Bool) (hlog : s.logOnly 164 = true) :
    ∃ u, s.macLink m up fail = u ∧ u.fld (Reg.MAC_STAT m) 0 0 = up.toNat ∧ u.fld (Reg.MAC_STAT m) 1 1 = fail.toNat
      ∧ u.fld (Reg.MAC_STAT m) 12 11 = s.fld (Reg.MAC_STAT m) 12 11 ∧ (∀ a < 0x60000, a ≠ Reg.MAC_STAT m → u.rd a = s.rd a)
      ∧ u.macs = s.macs ∧ u.hold = s.hold := by
  have hstat : Reg.MAC_STAT m < 0x60000 := by simp only [Reg.MAC_STAT]; omega
  obtain ⟨b, hb⟩ : ∃ b, s.setFld (Reg.MAC_STAT m) 0 0 up.toNat = b := ⟨_, rfl⟩
  obtain ⟨c, hc⟩ : ∃ c, b.setFld (Reg.MAC_STAT m) 1 1 fail.toNat = c := ⟨_, rfl⟩
  have hside : RegSide (· = Reg.MAC_STAT m) s c := by
    rw [← hc, ← hb]
    exact ((RegSide.refl (· = Reg.MAC_STAT m) s).setFld _ _ _ rfl).setFld _ _ _ rfl
  have hup : c.fld (Reg.MAC_STAT m) 0 0 = up.toNat := by
    rw [← hc, State.fld_setFld_beside _ (by decide) (by decide) (by decide), ← hb, State.fld_setFld_fits _ (by decide) (by decide) (by cases up <;> decide)]
  have hfail : c.fld (Reg.MAC_STAT m) 1 1 = fail.toNat := by
    rw [← hc, State.fld_setFld_fits _ (by decide) (by decide) (by cases fail <;> decide)]
  have hspeed : c.fld (Reg.MAC_STAT m) 12 11 = s.fld (Reg.MAC_STAT m) 12 11 := by
    rw [← hc, State.fld_setFld_beside _ (by decide) (by decide) (by decide), ← hb, State.fld_setFld_beside _ (by decide) (by decide) (by decide)]
  have hclog : c.logOnly 164 = true := (State.logOnly_congr (hside.rd (by simp only [Reg.FLT_DET_CFG]; omega))).trans hlog
  obtain ⟨u, hu, hfault⟩ : ∃ u, s.macLink m up fail = u ∧ FaultSide c u := by
    refine ⟨_, rfl, ?_⟩
    rw [State.macLink, hb, hc]
    exact .ite (raiseOnce_faultSide _ _ _ _ hclog) (condClear_faultSide ..)
  have hfld : ∀ hi lo, u.fld (Reg.MAC_STAT m) hi lo = c.fld (Reg.MAC_STAT m) hi lo := fun hi lo => by
    rw [State.fld, State.fld, hfault.rn (faultReg_mac hstat)]
  refine ⟨u, hu, (hfld 0 0).trans hup, (hfld 1 1).trans hfail, (hfld 12 11).trans hspeed, fun a ha hne => ?_, hfault.macs.trans hside.macs,
    hfault.hold.trans hside.hold⟩
  exact (hfault.rd (faultReg_mac ha)).trans (hside.rd hne)

/-! #### Writes of the pause registers -/

/-- A write of MAC_PAUSE_CFG in range: what it leaves before the frame that is being sent ends. -/
theorem State.pauseWrite_cfg (req : Requester) {v c : Nat} (hc : bits v 17 0 = c) (hx : s.mac m = x) (hon : s.macDisabled m = false)
    (hlo : 10 ≤ bits v 17 4) (hhi : bits v 17 4 ≤ 10000) :
    ∃ b : State, s.pauseWrite req m false v = b.pauseApply m ∧ b.mac m = { x with pauseNext := some (c, s.rn (Reg.MAC_PAUSE_WIN m)) }
      ∧ b.rn (Reg.MAC_PAUSE_CFG m) = c ∧ RegsBut [Reg.MAC_PAUSE_CFG m] s b ∧ b.hold = s.hold := by
  obtain ⟨w, hw⟩ : ∃ w, s.wn (Reg.MAC_PAUSE_CFG m) c = w := ⟨_, rfl⟩
  have hclt : c < 2 ^ 32 := hc ▸ (bits_lt v 17 0).trans (by decide)
  have hside : RegSide (· = Reg.MAC_PAUSE_CFG m) s w := by
    rw [← hw]
    exact (RegSide.refl _ s).wn _ rfl
  have hcfg : w.rn (Reg.MAC_PAUSE_CFG m) = c := by
    rw [← hw, State.rn_wn_self]
    exact Nat.mod_eq_of_lt hclt
  have hwin : w.rn (Reg.MAC_PAUSE_WIN m) = s.rn (Reg.MAC_PAUSE_WIN m) := hside.rn (by simp only [Reg.MAC_PAUSE_WIN, Reg.MAC_PAUSE_CFG]; omega)
  have hwmac : w.mac m = x := by rw [State.mac, hside.macs, ← hx, State.mac]
  refine ⟨w.setMac m { x with pauseNext := some (c, s.rn (Reg.MAC_PAUSE_WIN m)) }, ?_, w.mac_setMac_self .., hcfg,
    fun a ha => hside.rd (by simpa using ha), hside.hold⟩
  unfold State.pauseWrite
  dsimp only
  rw [if_neg (by simp [hon, hlo, hhi]), if_neg Bool.false_ne_true, if_neg Bool.false_ne_true, hc, hw, hcfg, hwin, hwmac]

theorem State.pauseWrite_idle (req : Requester) {v : Nat} (hx : s.mac m = x) (hon : s.macDisabled m = false)
    (hlo : 10 ≤ bits v 17 4) (hhi : bits v 17 4 ≤ 10000) (hsend : x.sending = none) :
    ∃ u, s.pauseWrite req m false v = u ∧ u.rn (Reg.MAC_PAUSE_CFG m) = bits v 17 0 ∧ (u.mac m).pauseCfg = bits v 17 0
      ∧ (u.mac m).pauseWin = s.rn (Reg.MAC_PAUSE_WIN m) ∧ (u.mac m).pauseNext = none ∧ SameHold s u := by
  obtain ⟨b, hb, hbmac, hbcfg, -, hbhold⟩ := State.pauseWrite_cfg req rfl hx hon hlo hhi
  obtain ⟨u, hu, hcfg, hwin, hnext, hside⟩ := State.pauseApply_spec hbmac hsend rfl
  refine ⟨u, hb.trans hu, (hside.rn ?_).trans hbcfg, hcfg, hwin, hnext, sameHold_of_hold (hside.hold.trans hbhold)⟩
  simp only [pauseReg, Reg.MAC_PAUSE_CFG, Reg.MAC_PAUSED_NS, Reg.MAC_STAT]
  omega

theorem State.pauseWrite_sending (req : Requester) {v : Nat} (hx : s.mac m = x) (hon : s.macDisabled m = false)
    (hlo : 10 ≤ bits v 17 4) (hhi : bits v 17 4 ≤ 10000) (hsend : x.sending = some k) :
    ∃ u, s.pauseWrite req m false v = u ∧ u.rn (Reg.MAC_PAUSE_CFG m) = bits v 17 0 ∧ (u.mac m).pauseCfg = x.pauseCfg
      ∧ (u.mac m).pauseNext = some (bits v 17 0, s.rn (Reg.MAC_PAUSE_WIN m)) ∧ RegsBut [Reg.MAC_PAUSE_CFG m] s u ∧ SameHold s u := by
  obtain ⟨b, hb, hbmac, hbcfg, hregs, hbhold⟩ := State.pauseWrite_cfg req rfl hx hon hlo hhi
  have happly : b.pauseApply m = b := State.pauseApply_busy (by rw [hbmac]; exact congrArg Option.isSome hsend)
  exact ⟨b, hb.trans happly, hbcfg, by rw [hbmac], by rw [hbmac], hregs, sameHold_of_hold hbhold⟩

/-! #### The end of a holdoff, with its fault -/

/-- An instance set leaves registers, Hold and the MACs. -/
theorem State.ite_setFltInst (s : State) (d i : Nat) (c : Prop) [Decidable c] (y : FltInst) :
    ∃ u, (if c then s.setFltInst d i y else s) = u ∧ u.regs = s.regs ∧ u.macs = s.macs ∧ u.hold = s.hold := by
  refine ⟨_, rfl, ?_⟩
  split
  · exact ⟨rfl, rfl, rfl⟩
  · exact ⟨rfl, rfl, rfl⟩

theorem exec_holdoffEnd (dt : Nat) (m : Fin 5) (s : State) : exec (.holdoffEnd dt m) s = act dt s fun s =>
    match (s.mac m).holdoffEnd with
    | some e => if e ≤ s.clk then
        if ((s.holdoffEnded m).fltInst 160 m).standing then
          (s.holdoffEnded m).setFltInst 160 m
            { (s.holdoffEnded m).fltInst 160 m with cond := false, quietFrom := (s.holdoffEnded m).clk + macWindow (s.mac m) }
        else s.holdoffEnded m
      else s
    | none => s := rfl

theorem exec_txFrameEnd (dt : Nat) (m : Fin 5) (s : State) : exec (.txFrameEnd dt m) s = act dt s fun s =>
    match ((s.pauseCount m).mac m).sending with
    | some (kind, frame) => (((s.pauseCount m).frameSent m (kind, frame)).pauseApply m).txStart m
    | none => s.pauseCount m := rfl

theorem exec_phyPoll (dt : Nat) (link full : Bool) (i : Nat) (s : State) : exec (.phyPoll dt link full i) s = act dt s fun s =>
    if (s.mac 4).polled.any fun c => !s.elapsed c (ms 10) then s
    else ((s.setMac 4 { s.mac 4 with polled := some s.clk }).setFld (Reg.MAC_STAT 4) 12 11 (min i 2)).macLink 4 (link && full) (!full) := rfl

theorem exec_anTimeout (dt : Nat) (l : Fin 24) (s : State) : exec (.anTimeout dt l) s = act dt s fun s =>
    if s.laneRole l = 1 ∧ s.laneCfgRate l = 0 ∧ s.laneSt l = 10 ∧ s.elapsed (s.lane l).downSince (sec 1) then
      (s.setLaneSt l 10).macLink (s.fld (Reg.LANE_CFG l) 7 6) false true
    else s := rfl

theorem exec_pauseTimerExpire (dt : Nat) (m : Fin 5) (q : Fin 8) (s : State) : exec (.pauseTimerExpire dt m q) s = act dt s fun s =>
    match tabGet? ((s.pauseCount m).mac m).timers q with
    | some e => if e ≤ (s.pauseCount m).clk then
        (((s.pauseCount m).setMac m { (s.pauseCount m).mac m with timers := tabErase ((s.pauseCount m).mac m).timers q }).pauseCount m).txStart m
      else s.pauseCount m
    | none => s.pauseCount m := rfl

theorem State.phyPoll_due {d : Nat} (hdue : (s.mac 4).polled.all (fun c => s.elapsed c d) = true) :
    ¬ (s.mac 4).polled.any (fun c => !s.elapsed c d) = true := by
  revert hdue
  cases (s.mac 4).polled with
  | none => exact fun _ => Bool.false_ne_true
  | some c => exact fun helapsed => by simpa using helapsed

/-- The PHY of the Gangway, read (R292). -/
theorem State.phyRead_spec (link full : Bool) (i : Nat) (hlog : s.logOnly 164 = true) :
    ∃ u, ((s.setMac 4 { s.mac 4 with polled := some s.clk }).setFld (Reg.MAC_STAT 4) 12 11 (min i 2)).macLink 4 (link && full) (!full) = u
      ∧ u.fld (Reg.MAC_STAT 4) 0 0 = (link && full).toNat ∧ u.fld (Reg.MAC_STAT 4) 1 1 = (!full).toNat
      ∧ u.fld (Reg.MAC_STAT 4) 12 11 = min i 2 ∧ (u.mac 4).polled = some s.clk ∧ SameHold s u := by
  obtain ⟨y, hy, hpolled⟩ : ∃ y : MacState, { s.mac 4 with polled := some s.clk } = y ∧ y.polled = some s.clk := ⟨_, rfl, rfl⟩
  obtain ⟨c, hc⟩ : ∃ c, (s.setMac 4 y).setFld (Reg.MAC_STAT 4) 12 11 (min i 2) = c := ⟨_, rfl⟩
  have hside : RegSide (· = Reg.MAC_STAT 4) (s.setMac 4 y) c := by
    rw [← hc]
    exact (RegSide.refl _ _).setFld _ _ _ rfl
  have hclog : c.logOnly 164 = true := (State.logOnly_congr (hside.rd (by simp only [Reg.FLT_DET_CFG, Reg.MAC_STAT]; omega))).trans hlog
  have hspeed : c.fld (Reg.MAC_STAT 4) 12 11 = min i 2 := by
    rw [← hc]
    exact State.fld_setFld_fits _ (by decide) (by decide) (Nat.lt_of_le_of_lt (Nat.min_le_right i 2) (by decide))
  obtain ⟨u, hu, hup, hfail, hkept, -, humacs, huhold⟩ := State.macLink_spec (m := 4) (by decide) (link && full) (!full) hclog
  rw [hy, hc]
  refine ⟨u, hu, hup, hfail, hkept.trans hspeed, ?_, sameHold_of_hold (huhold.trans hside.hold)⟩
  rw [State.mac, humacs, hside.macs, ← State.mac, s.mac_setMac_self]
  exact hpolled

/-- A PAUSE frame in order (R305, R306). -/
theorem State.frameIn_pause {v : Nat} (hm : m < 5) (hx : s.mac m = x) (hon : s.macDisabled m = false) (hrx : bit (s.rn (Reg.MAC_CFG m)) 5 = true)
    (hreset : s.inReset (.mac m) = false) (hlo : 64 ≤ f.length) (hhi : f.length ≤ 9216) (hgood : fcsGood f = true)
    (hdest : oct (f.take (f.length - 4)) 0 6 = 0x0180C2000001) (htype : oct (f.take (f.length - 4)) 12 2 = 0x8808)
    (hop : oct (f.take (f.length - 4)) 14 2 = 1) (hv : oct (f.take (f.length - 4)) 16 2 = v) (hne : v ≠ 0)
    (hhold : x.holdoffEnd = none) (hcfg : bit x.pauseCfg 0 = true) (hq7 : bit x.pauseCfg 2 = false) :
    ∃ u, s.frameIn m f = u
      ∧ (∀ n < 8, tabGet? (u.mac m).timers n = some (s.clk + ceilDiv (v * s.quantum m) 1250) ∧ bit (u.rn (Reg.MAC_STAT m)) (3 + n) = true)
      ∧ u.pair (Reg.MAC_PAUSE_RX m) = min (s.pair (Reg.MAC_PAUSE_RX m) + 1) (2 ^ 64 - 1)
      ∧ (u.mac m).sending = x.sending ∧ (u.mac m).txq = x.txq ∧ SameHold s u := by
  have hcontrol := State.controlFrame_pause hx hdest hop hv hhold hcfg
  obtain ⟨b, hb⟩ : ∃ b, s.bump (Reg.MAC_PAUSE_RX m) = b := ⟨_, rfl⟩
  have hbside : RegSide (fun a => a = Reg.MAC_PAUSE_RX m ∨ a = Reg.MAC_PAUSE_RX m + 4) s b := by
    rw [← hb]
    exact (RegSide.refl _ _).bump (.inl rfl) (.inr rfl)
  have hbpair : b.pair (Reg.MAC_PAUSE_RX m) = min (s.pair (Reg.MAC_PAUSE_RX m) + 1) (2 ^ 64 - 1) := by
    rw [← hb]
    exact s.pair_bump _
  have hquantum : b.quantum m = s.quantum m := State.quantum_congr
    (fun j hj => hbside.rd (by simp only [Reg.LANE_CFG, Reg.MAC_PAUSE_RX]; omega))
    fun _ => by rw [State.fld, State.fld, hbside.rn (by simp only [Reg.MAC_STAT, Reg.MAC_PAUSE_RX]; omega)]
  obtain ⟨u, hu, htimers, hsend, htxq, hside⟩ := State.pauseFrame_spec (s := b) hm (by rw [State.mac, hbside.macs]; exact hx) hne hq7
  rw [hb] at hcontrol
  have hkept : ∀ a, a = Reg.MAC_PAUSE_RX m ∨ a = Reg.MAC_PAUSE_RX m + 4 → u.rd a = b.rd a := fun a ha => hside.rd (by
    simp only [pauseReg, Reg.MAC_PAUSE_RX, Reg.MAC_PAUSED_NS, Reg.MAC_STAT] at ha ⊢
    omega)
  rw [hquantum, hbside.clk] at htimers
  exact ⟨u, (State.frameIn_control hon hrx hreset hlo hhi hgood htype).trans (hcontrol.trans hu), htimers,
    (State.pair_congr (hkept _ (.inl rfl)) (hkept _ (.inr rfl))).trans hbpair, hsend, htxq, sameHold_of_hold (hside.hold.trans hbside.hold)⟩

/-- The watchdog's trip, with its fault (R309, R310). -/
theorem State.watchdogTrip_spec {q : Nat} (hm : m < 5) (hq : q < 8) (hlog : s.logOnly 160 = true) (hx : s.mac m = x) (hcfg : bit x.pauseCfg 3 = true)
    (hnone : x.holdoffEnd = none) (hspans : x.spans = []) (htimers : x.timers = [(q, e)]) (hcount : x.counted = c) (hlate : s.clk ≤ e)
    (hlong : c + macLimit x ≤ s.clk) (hwin : macLimit x ≤ macWindow x) (hpos : 0 < macLimit x) {b d w v : State} (hb : s.pauseCount m = b)
    (hd : b.watchdogTripped m = d) (hw : d.raise 160 m = w)
    (hv : (if (w.fltInst 160 m).standing then w.setFltInst 160 m { w.fltInst 160 m with cond := true } else w) = v) :
    (bit (b.mac m).pauseCfg 3 = true ∧ (b.mac m).holdoffEnd.isNone = true
      ∧ ((List.range 8).any fun q => decide (macLimit (b.mac m) ≤ b.pausedIn m q)) = true)
      ∧ ∃ u, (v.pauseCount m).txStart m = u ∧ (u.mac m).timers = [] ∧ (u.mac m).holdoffEnd = some (s.clk + macHoldoff x)
        ∧ u.pair (Reg.MAC_WDOG_TRIP m) = min (s.pair (Reg.MAC_WDOG_TRIP m) + 1) (2 ^ 64 - 1)
        ∧ bit (u.rn (Reg.MAC_STAT m)) 2 = true ∧ bit (u.rn (Reg.MAC_STAT m)) (3 + q) = false ∧ SameHold s u := by
  have hlimit := State.pausedIn_one hx hspans htimers hcount hlate hlong hwin hpos hb
  obtain ⟨b', hb', hbmac, hbside, -⟩ := s.pauseCount_spec m
  obtain rfl : b = b' := hb.symm.trans hb'
  rw [hx] at hbmac
  obtain ⟨y, hy⟩ : ∃ y, pauseCounted x s.clk = y := ⟨_, rfl⟩
  rw [hy] at hbmac
  obtain ⟨hycfg, hynone, hyhold⟩ : bit y.pauseCfg 3 = true ∧ y.holdoffEnd = none ∧ macHoldoff y = macHoldoff x := by
    rw [← hy]
    exact ⟨hcfg, hnone, rfl⟩
  obtain ⟨d', hd', hdmac, hdside, hdpair, hdbit⟩ := State.watchdogTripped_spec hm hbmac
  obtain rfl : d = d' := hd.symm.trans hd'
  have hdlog : d.logOnly 160 = true := by
    refine (State.logOnly_congr ((hdside.rd ?_).trans (hbside.rd ?_))).trans hlog
    · simp only [tripReg, pauseReg, Reg.FLT_DET_CFG, Reg.MAC_WDOG_TRIP, Reg.MAC_PAUSED_NS, Reg.MAC_STAT]
      omega
    · simp only [pauseReg, Reg.FLT_DET_CFG, Reg.MAC_PAUSED_NS, Reg.MAC_STAT]
      omega
  have hraise := raise_faultSide d 160 m 0 hdlog
  rw [hw] at hraise
  have hvside : FaultSide d v := by
    rw [← hv]
    exact .ite (hraise.setFltInst ..) hraise
  obtain ⟨u, hu, hutimers, huhold, hupair, hubit, hupaused, hukept⟩ := State.watchdogEnd_spec hm hdmac hvside hdbit
  have hcounter : ∀ a, a = Reg.MAC_WDOG_TRIP m ∨ a = Reg.MAC_WDOG_TRIP m + 4 → b.rd a = s.rd a := fun a ha => hbside.rd (by
    simp only [pauseReg, Reg.MAC_WDOG_TRIP, Reg.MAC_PAUSED_NS, Reg.MAC_STAT] at ha ⊢
    omega)
  refine ⟨⟨by rw [hbmac, hycfg], by rw [hbmac, hynone]; rfl, List.any_eq_true.2 ⟨q, List.mem_range.2 hq, decide_eq_true hlimit⟩⟩,
    u, hu, hutimers, ?_, ?_, hubit, hupaused q hq, sameHold_of_hold (hukept.trans (hdside.hold.trans hbside.hold))⟩
  · rw [huhold, hbside.clk, hyhold]
  · rw [hupair, hdpair, State.pair_congr (hcounter _ (.inl rfl)) (hcounter _ (.inr rfl))]

/-- Auto-negotiation that has not completed (R291). -/
theorem State.anFailed_spec {l : Nat} (hl : l < 24) (hlog : s.logOnly 164 = true) : ∃ u,
    (s.setLaneSt l 10).macLink (s.fld (Reg.LANE_CFG l) 7 6) false true = u ∧ u.laneSt l = 10
      ∧ u.fld (Reg.MAC_STAT (s.fld (Reg.LANE_CFG l) 7 6)) 0 0 = 0 ∧ u.fld (Reg.MAC_STAT (s.fld (Reg.LANE_CFG l) 7 6)) 1 1 = 1 ∧ SameHold s u := by
  obtain ⟨b, hb⟩ : ∃ b, s.setLaneSt l 10 = b := ⟨_, rfl⟩
  have hmove := s.setLaneSt_laneMove hl 10
  have hbst := s.setLaneSt_laneSt hl (st := 10) (by decide)
  rw [hb] at hmove hbst
  obtain ⟨n, hn⟩ : ∃ n, s.fld (Reg.LANE_CFG l) 7 6 = n := ⟨_, rfl⟩
  have hn4 : n < 4 := hn ▸ bits_lt _ 7 6
  obtain ⟨u, hu, hup, hfail, -, hurd, -, huhold⟩ := State.macLink_spec (s := b) (m := n) (by omega) false true
    ((hmove.at_.logOnly 164 (by decide)).trans hlog)
  rw [hn, hb]
  refine ⟨u, hu, Eq.trans ?_ hbst, hup, hfail, sameHold_of_hold (huhold.trans hmove.at_.hold)⟩
  refine congrArg (fun w : Word => bits w.toNat 3 0) (hurd _ ?_ ?_)
  · simp only [Reg.LANE_STATE]
    omega
  · simp only [Reg.LANE_STATE, Reg.MAC_STAT]
    omega

theorem State.pauseWrite_bad (s : State) (req : Requester) (m : Nat) {v : Nat} (hzero : bits v 9 0 = 0) :
    s.pauseWrite req m true v = s.accErr req (Reg.MAC_PAUSE_WIN m) true false := by
  unfold State.pauseWrite
  dsimp only
  exact if_pos (.inr (by simp [hzero]))

/-- A write that is refused is counted, and the MACs stay. -/
theorem completes_macRefused {c : Instr} {req : Requester} {a : Nat} {f : State → State} (hc : exec c s = act dt s f) (hcore : s.watch.core = true)
    (hf : f (s.advance dt) = (s.advance dt).accErr req a true false) :
    Completes c s fun t => t.pair Reg.SYS_ACC_ERR = min (s.pair Reg.SYS_ACC_ERR + 1) (2 ^ 64 - 1) ∧ t.macs = s.macs
      ∧ RegsBut [Reg.SYS_ACC_ERR, Reg.SYS_ACC_ERR + 4, Reg.SYS_ACC_ERR_ADDR, Reg.SYS_ACC_ERR_INFO] s t ∧ SameHold s t := by
  obtain ⟨u, hu, hpair, hmacs, hregs, hhold⟩ : ∃ u, (s.advance dt).accErr req a true false = u
      ∧ u.pair Reg.SYS_ACC_ERR = min ((s.advance dt).pair Reg.SYS_ACC_ERR + 1) (2 ^ 64 - 1) ∧ u.macs = s.macs
      ∧ RegsBut [Reg.SYS_ACC_ERR, Reg.SYS_ACC_ERR + 4, Reg.SYS_ACC_ERR_ADDR, Reg.SYS_ACC_ERR_INFO] (s.advance dt) u
      ∧ SameHold (s.advance dt) u :=
    ⟨_, rfl, State.pair_accErr .., (s.advance dt).accErr_macs req a true false, State.regsBut_accErr _ req a true false, State.sameHold_accErr _ req a true false⟩
  exact completes_eq hc hcore (hf.trans hu) ⟨hpair, hmacs, hregs, hhold⟩

/-- Settles O45, clause by clause. -/
theorem ethernetMacs : Obligations.EthernetMacs := by
  unfold Obligations.EthernetMacs
  intro dt i e c g v' m q l f k p req v link full x s hcore hlog hx
  have hm : (m : Nat) < 5 := m.isLt
  have hq : (q : Nat) < 8 := q.isLt
  have hx' : (s.advance dt).mac m = x := hx
  refine ⟨?runt, ?off, ?fcs, ?unmatched, ?ingest, ?pause, ?timer, ?watchdog, ?holdoff, ?txEnd, ?txApplies, ?sel, ?selBad, ?commit, ?commitBad,
    ?pauseIdle, ?pauseSending, ?pauseBad, ?join, ?denied, ?phy, ?an⟩
  case runt =>
    intro hon hrx hreset hshort
    exact completes_eq rfl hcore (State.frameIn_runt (s := s.advance dt) hon hrx hreset hshort)
      ⟨(s.advance dt).pair_bump _, rfl, (RegsBut.refl _ (s.advance dt)).bump (by simp) (by simp), fun _ => rfl⟩
  case off =>
    intro hrx
    have hoff : (s.advance dt).frameIn m f = s.advance dt := if_pos (.inr (.inl (by simpa using hrx)))
    exact completes_eq rfl hcore hoff ⟨rfl, fun _ => rfl, fun _ => rfl⟩
  case fcs =>
    intro hon hrx hreset hlo hhi hbad hfew
    obtain ⟨u, hu, hp⟩ := State.fcsFail_spec (s := s.advance dt) (m := m) (by rw [hx']; exact hfew)
    exact completes_eq rfl hcore ((State.frameIn_badFcs (s := s.advance dt) hon hrx hreset hlo hhi hbad).trans hu) hp
  case unmatched =>
    intro hon hrx hreset hlo hhi hgood htype hip hnone
    have hin := State.frameIn_steered (s := s.advance dt) hon hrx hreset hlo hhi hgood htype hip
    rw [hnone] at hin
    exact completes_eq rfl hcore hin
      ⟨(s.advance dt).pair_bump _, rfl, (RegsBut.refl _ (s.advance dt)).bump (by simp) (by simp), fun _ => rfl⟩
  case ingest =>
    intro hon hrx hreset hlo hhi hgood htype hip hsome haction
    have hin := State.frameIn_steered (s := s.advance dt) hon hrx hreset hlo hhi hgood htype hip
    rw [hsome] at hin
    exact completes_eq rfl hcore (hin.trans (State.steer_ingest haction))
      ⟨rfl, (s.advance dt).pair_bump _, (RegsBut.refl _ (s.advance dt)).bump (by simp) (by simp), fun _ => rfl⟩
  case pause =>
    intro hon hrx hreset hlo hhi hgood hdest htype hop hv hne hhold hcfg hq7
    obtain ⟨u, hu, htimers, hp⟩ := State.frameIn_pause (s := s.advance dt) hm hx' hon hrx hreset hlo hhi hgood hdest htype hop hv hne hhold hcfg hq7
    exact completes_eq rfl hcore hu ⟨fun n => htimers n n.isLt, hp⟩
  case timer =>
    intro htimers hdue hsend htxq h1 h2
    obtain ⟨b, hb⟩ : ∃ b, (s.advance dt).pauseCount m = b := ⟨_, rfl⟩
    obtain ⟨hget, hdone, u, hu, hutimers, husend, hubit, hside⟩ := State.timerEnd_spec hq hx' htimers hdue hsend htxq h1 h2 hb
    refine completes_eq (exec_pauseTimerExpire dt m q s) hcore (u := u) ?_ ⟨hutimers, husend, hubit, ?_, sameHold_of_hold hside.hold⟩
    · rw [hb, hget]
      exact (if_pos hdone).trans hu
    · exact fun a ha => hside.rd fun h => ha (by simpa [pauseReg] using h)
  case watchdog =>
    intro hcfg hnone hspans htimers hcount hlate hlong hwin hpos
    obtain ⟨htrips, u, hu, hp⟩ := State.watchdogTrip_spec (s := s.advance dt) hm hq (hlog 160 (by decide)) hx' hcfg hnone hspans htimers hcount
      hlate hlong hwin hpos rfl rfl rfl rfl
    exact completes_eq (exec_pauseWatchdogTrip dt m s) hcore ((if_pos htrips).trans hu) hp
  case holdoff =>
    intro hend hdue
    obtain ⟨v, hv, hvend, hvspans, hvbit, hside⟩ := (s.advance dt).holdoffEnded_spec m
    obtain ⟨u, hu, huregs, humacs, huhold⟩ := v.ite_setFltInst 160 m ((v.fltInst 160 m).standing = true)
      { v.fltInst 160 m with cond := false, quietFrom := v.clk + macWindow ((s.advance dt).mac m) }
    have humac : u.mac m = v.mac m := by rw [State.mac, State.mac, humacs]
    have hurd := sameRegs_of_regs huregs
    refine completes_eq (exec_holdoffEnd dt m s) hcore (u := u) ?_ ⟨(congrArg MacState.holdoffEnd humac).trans hvend,
      (congrArg MacState.spans humac).trans hvspans, ?_, ?_, sameHold_of_hold (huhold.trans hside.hold)⟩
    · rw [hx', hend, hv]
      exact (if_pos hdue).trans (hx' ▸ hu)
    · exact (congrArg (fun w : Word => bit w.toNat 2) (hurd _)).trans hvbit
    · exact fun a ha => (hurd a).trans (hside.rd fun h => ha (by simpa [pauseReg] using h))
  case txEnd =>
    intro hsend hnext htxq
    obtain ⟨kind, frame⟩ := k
    obtain ⟨b, hb, hbmac, -, -⟩ := (s.advance dt).pauseCount_spec m
    obtain ⟨u, hu, hp⟩ := State.txEnd_idle (k := (kind, frame)) hm hx' hnext htxq hb
    refine completes_eq (exec_txFrameEnd dt m s) hcore (u := u) ?_ hp
    rw [hb, hbmac, hx', show (pauseCounted x (s.advance dt).clk).sending = some (kind, frame) from hsend]
    exact hu
  case txApplies =>
    intro hsend hnext
    obtain ⟨kind, frame⟩ := k
    obtain ⟨b, hb, hbmac, -, -⟩ := (s.advance dt).pauseCount_spec m
    obtain ⟨u, hu, hp⟩ := State.txEnd_applies (k := (kind, frame)) hx' hnext hb
    refine completes_eq (exec_txFrameEnd dt m s) hcore (u := u) ?_ hp
    rw [hb, hbmac, hx', show (pauseCounted x (s.advance dt).clk).sending = some (kind, frame) from hsend]
    exact hu
  case sel =>
    intro hlo
    obtain ⟨u, hu, hp⟩ := (s.advance dt).fltSelWrite_spec req hm hlo (bits_lt v.toNat 5 0)
    have hsel : (s.advance dt).fltSelWrite req m v.toNat = u := by
      unfold State.fltSelWrite
      dsimp only
      rw [if_neg (Nat.not_lt.2 hlo), hu]
    refine completes_eq rfl hcore hsel ?_
    obtain ⟨hsel, hwin, hregs, hhold⟩ := hp
    exact ⟨hsel, fun j => hwin j j.isLt, hregs, hhold⟩
  case selBad =>
    intro hlo
    have hsel : (s.advance dt).fltSelWrite req m v.toNat = (s.advance dt).accErr req (Reg.MAC_FLT_SEL m) true false := by
      unfold State.fltSelWrite
      dsimp only
      rw [if_pos hlo]
    exact completes_eq rfl hcore hsel ⟨State.pair_accErr .., State.regsBut_accErr s req _ true false, fun _ => rfl⟩
  case commit =>
    intro hon hgo
    obtain ⟨u, hu, hstat, hflt, hregs, hhold⟩ := State.fltCommit_go (s := s.advance dt) req hm hon hgo rfl
    exact completes_eq rfl hcore hu ⟨hstat, fun j => hflt j j.isLt, hregs, hhold⟩
  case commitBad =>
    intro hon hno
    have hle := fltReason_le ((s.advance dt).rdWords (Reg.MAC_FLT_WIN m 0) 4)
    refine completes_eq rfl hcore (State.fltCommit_no (s := s.advance dt) req hon hno) ⟨?_, (RegsBut.refl _ (s.advance dt)).wn (by simp) _, fun _ => rfl⟩
    exact (State.rn_wn_self ..).trans (Nat.mod_eq_of_lt (Nat.lt_of_le_of_lt (m := 7) (by omega) (by decide)))
  case pauseIdle =>
    intro hon hlo hhi hsend
    obtain ⟨u, hu, hp⟩ := State.pauseWrite_idle (s := s.advance dt) req hx' hon hlo hhi hsend
    exact completes_eq rfl hcore hu hp
  case pauseSending =>
    intro hon hlo hhi hsend
    obtain ⟨u, hu, hp⟩ := State.pauseWrite_sending (s := s.advance dt) req hx' hon hlo hhi hsend
    exact completes_eq rfl hcore hu hp
  case pauseBad =>
    intro hzero
    exact completes_macRefused rfl hcore ((s.advance dt).pauseWrite_bad req m hzero)
  case join =>
    intro hneeds hnew hroom hsend hq3 hon
    obtain ⟨u, hu, hp⟩ := State.igmpJoin_made (s := s.advance dt) hm hx' hnew hroom (by rw [hsend]; rfl) hq3 hon
    exact completes_eq rfl hcore ((if_pos hneeds).trans hu) hp
  case denied =>
    intro hneeds hnew hfull
    obtain ⟨u, hu, hp⟩ := State.igmpJoin_denied (s := s.advance dt) hm hx' hnew hfull (hlog 163 (by decide))
    exact completes_eq rfl hcore ((if_pos hneeds).trans hu) hp
  case phy =>
    intro hdue
    obtain ⟨u, hu, hp⟩ := State.phyRead_spec (s := s.advance dt) link full i (hlog 164 (by decide))
    have hnot := State.phyPoll_due (s := s.advance dt) hdue
    exact completes_eq (exec_phyPoll dt link full i s) hcore ((if_neg hnot).trans hu) hp
  case an =>
    intro hrole hrate hst helapsed
    obtain ⟨u, hu, hp⟩ := State.anFailed_spec (s := s.advance dt) l.isLt (hlog 164 (by decide))
    exact completes_eq (exec_anTimeout dt l s) hcore ((if_pos ⟨hrole, hrate, hst, helapsed⟩).trans hu) hp

end Sys2Proof.Machine
end
